-- ==== Sys2Proof/Word.lean ====
section
/-!
DEFINITION. The word types of the ZV-8412 stack: a byte of memory and a 32-bit register word (R5).
-/
namespace Sys2Proof

/-- One byte of memory. -/
abbrev Byte := BitVec 8

/-- One 32-bit word: a register, an instruction, a DSP memory word, a code syndrome (R5, R121, R206). -/
abbrev Word := BitVec 32

end Sys2Proof
end

