-- ==== Sys2Proof/Syntax.lean ====
section
/-!
DEFINITION. The commands of the ZV-8412 stack and the plain data they carry: one constructor of Instr per row of
spec/opcode_table.json. What only the world outside the digital logic can decide (a line error, a sensor reading, a
self-test finding, the logic of a room design) stands as an operand of the command it belongs to (see the assumption
log, entry 2).
-/
namespace Sys2Proof.Machine

/-- Who sends an Ebryn command: mailbox port (Table 17-1), source node and endpoint (port 17) or engine (port 18),
TAG and LENGTH of the command block (R378, R380). -/
structure CmdHdr where
  port : Nat
  node : Nat
  ep   : Nat
  tag  : Nat
  len  : Nat
  deriving DecidableEq, Repr

/-- A token record: 64-bit tag, 32-bit value and the poison mark of the value (R172, R179). -/
structure TokRec where
  tag    : Nat
  value  : Nat
  poison : Bool
  deriving DecidableEq, Repr

/-- A corridor packet: the header fields of Table 07-3, the number of flits it occupies, and the LEN + 1 payload
bytes that it carries (R146, R147). `dest` is bits 127:70: a global address, or DST_NODE and DST_EP. -/
structure Packet where
  type     : Nat
  vc       : Nat
  flits    : Nat
  dest     : Nat
  status   : Nat := 0
  pstored  : Bool := false
  poison   : Nat := 0
  len      : Nat
  tag      : Nat
  dstPlane : Nat := 0
  srcPlane : Nat := 0
  srcEp    : Nat
  srcNode  : Nat
  hops     : Nat
  payload  : List Byte := []
  win      : Nat := 0
  entry    : Nat := 0
  exit     : Nat := 0
  base     : Nat := 0
  own      : Bool := false     -- MODEL'S OWN: sent by a room's endpoint itself, beside its plane's transmit buffer (R54, R182)
  prot     : Option (Nat × Bool × Nat) := none  -- protected range, whether its data area, window offset: set by its translation (R286)
  deriving DecidableEq, Repr

/-- A link flit of a die-to-die port (R245) or a stack-link group (R267): the header fields and the packing area.
`bytes` is the packing area (flit bytes 16 to 255; in raw mode a 256-byte block), `kph` the key phase of an encrypted
flit (R308). `good` says that it passed the adapter's or the frame's checks (R269). -/
structure Flit where
  kind    : Nat
  vc      : Nat := 0
  enc     : Bool := false
  kph     : Nat := 0
  start   : Nat := 255
  fill    : Nat := 0
  seq     : Nat := 0
  ack     : Nat := 65535
  credits : List Nat := [0, 0, 0, 0]
  bytes   : List Byte := []
  txState : Nat := 0
  pmReq   : Nat := 0
  forced  : Bool := false
  crc     : Nat := 0
  good    : Bool := true
  deriving DecidableEq, Repr

/-- A received stack-link frame (R260, R264): the levels of the 1,360 PAM4 symbols of each lane, two bits each and the first in the
low bits, and the offset of each lane's phase in 1/64 UI, signed in 10 bits. -/
structure FrameRx where
  lanes : List Nat
  phase : List Nat := [0, 0, 0, 0]
  deriving DecidableEq, Repr

/-- One code correction found at the receiving end of a stair crossing: the bus position as group and position, or an
uncorrectable control-group error (R78). -/
structure Crossing where
  group : Nat
  pos   : Nat
  ue    : Bool
  deriving DecidableEq, Repr

/-- What the logic presents at the ports of one room-RAM block in a CK_ROOM cycle (R46): a write (port word, data) and a
read (port word). -/
structure RamOp where
  block : Nat
  write : Option (Nat × List Byte)
  read  : Option Nat
  deriving DecidableEq, Repr

/-- The vertical tracks that the active plane of a room drives, and the values on them (R85). -/
structure VtDrive where
  mask  : BitVec 512
  value : BitVec 512
  deriving DecidableEq, Repr

/-- What the nets of a plane's design present to a cell in a CK_ROOM cycle (Table 03-9): inputs 6i to 6i + 5 of LUT i, the
CSEG4's S[3:0] and CI_SEL, and for each flip-flop a direct data input, the clock enable and the synchronous set or reset. -/
structure CellIn where
  cell  : Nat
  lut   : BitVec 24
  s     : BitVec 4
  ciSel : Bool
  d     : BitVec 8
  ce    : BitVec 8
  sr    : BitVec 8
  deriving DecidableEq, Repr

/-- What they present to a multiplier: its operands, and whether the accumulator starts again from this product. -/
structure MultIn where
  mult  : Nat
  a     : BitVec 27
  b     : BitVec 24
  start : Bool
  deriving DecidableEq, Repr

/-- What the logic asks for in the CK_ROOM cycle that begins, accesses to the room RAM (R46) and a register of its RM block
(R68), and what it presented in the cycle that ends to the cells and multipliers whose inputs changed or are clocked. -/
structure LogicIn where
  ram   : List RamOp
  rmreg : Option Nat
  cells : List CellIn
  mults : List MultIn
  deriving DecidableEq, Repr

/-- A segment of a track group, and whether room B of the pair received the group (R87). -/
structure VtSeg where
  seg : Nat
  toB : Bool
  deriving DecidableEq, Repr

/-- Who requests a plane load, reload or save (R61). -/
inductive LoadAgent where
  | sched
  | mp
  deriving DecidableEq, Repr

/-- A store that the mowing round visits (R128). -/
inductive MowStore where
  | bank (b : Nat)
  | plane (room p : Nat)
  deriving DecidableEq, Repr

/-- A scrub access: the store visited, whether a row move of the stair falls in its bank-access cycle (R101, R102), and what
the crossing of the stair found (R458). -/
structure ScrubVisit where
  store     : MowStore
  sameCycle : Bool
  crossing  : List Crossing
  deriving DecidableEq, Repr

/-- The rows of a slice that cross a stair: what the crossing of each row, by its number, found (R458). -/
structure SliceRows where
  stair    : Nat
  crossing : List (Nat × List Crossing)
  deriving DecidableEq, Repr

/-- What the code of a corridor link found on a packet (R155): single-bit errors corrected, and the flits, counted from the header
flit 0, that hold an uncorrectable error. -/
structure LinkErr where
  corrected : Nat := 0
  ue : List Nat := []
  deriving DecidableEq, Repr
/-- No error. -/
def LinkErr.clean : LinkErr := {}

/-- One failure found by self-test: the fields of a result record (R365, R377). -/
structure TestFail where
  kind  : Nat
  layer : Nat
  unit  : Nat
  addr  : Nat
  seg   : Nat
  bit   : Nat
  deriving DecidableEq, Repr

/-- One ADC result: the 16-bit reading, and whether the channel reads open, shorted or out of range (R342). -/
structure AdcReading where
  value : Nat
  fault : Bool
  deriving DecidableEq, Repr

/-- A sag of a monitored rail past a comparator, in hundredths of a percent of its nominal voltage (R339). -/
structure RailSag where
  rail : Nat
  sag  : Nat
  deriving DecidableEq, Repr

/-- A hold time of the shedding ladder that has passed for a step (R340): the largest sag of any monitored rail during it, in
hundredths of a percent, and its length in µs. -/
structure ShedHold where
  step : Nat
  sag  : Nat
  us   : Nat
  deriving DecidableEq, Repr

/-- What a verified profile holds (R358): settings as register writes in order, the ownership map, unit gates to open,
context stores to write, and the locations of plane images. The body layout is Swezer's and not in this manual. -/
structure ProfileContent where
  settings : List (Nat × Nat)
  owners   : List (Nat × Nat)
  gates    : List (Nat × Nat)
  stores   : List (Nat × List Byte)
  planes   : List (Nat × Nat)
  deriving DecidableEq, Repr, Inhabited

/-- A test access port operation (R373, R416). -/
inductive TapOp where
  | reset
  | shiftIr (code : Nat)
  | shiftDr (bits : Nat) (len : Nat)
  | debugRead (addr : Nat)
  | debugWrite (addr value : Nat)
  | debugHalt (engine : Nat)
  deriving DecidableEq, Repr

end Sys2Proof.Machine

namespace Sys2Proof
open Sys2Proof.Machine

/-- The commands of the block, one constructor per row of the command table, in its order. A row that an Ebryn
requester sends carries its header `h`. A row that may deliver a RECOVER or SELFTEST_RUN carries what its test finds. -/
inductive Instr where
  /-- DEVICE_INFO (R394). -/
  | deviceInfo (h : CmdHdr)
  /-- ABORT (R393). -/
  | abort (h : CmdHdr) (victim : Nat)
  /-- CSR_READ (R394). -/
  | csrRead (h : CmdHdr) (off n : Nat)
  /-- CSR_WRITE (R394). -/
  | csrWrite (h : CmdHdr) (off : Nat) (vals : List Nat)
  /-- MEM_READ (R394). -/
  | memRead (h : CmdHdr) (addr n : Nat)
  /-- MEM_WRITE (R394). -/
  | memWrite (h : CmdHdr) (addr : Nat) (bytes : List Byte)
  /-- EVENT_READ (R394). -/
  | eventRead (h : CmdHdr)
  /-- EVENT_CFG (R394). -/
  | eventCfg (h : CmdHdr) (mask : Nat)
  /-- NOP (R394). -/
  | nop (h : CmdHdr)
  /-- CLOCK_STATUS (R332). -/
  | clockStatus (h : CmdHdr)
  /-- UNIT_GATE (R330). -/
  | unitGate (h : CmdHdr) (kind index : Nat) (opens : Bool)
  /-- EPOCH_COMMIT (R24). -/
  | epochCommit (h : CmdHdr)
  /-- EPOCH_DISCARD (R27). -/
  | epochDiscard (h : CmdHdr)
  /-- BOOKS_AUDIT (R35). -/
  | booksAudit (h : CmdHdr)
  /-- BOOKS_READ (R395). -/
  | booksRead (h : CmdHdr) (dest : Nat)
  /-- BANK_OWNER (R108). -/
  | bankOwner (h : CmdHdr) (bank value : Nat)
  /-- BANK_GUEST (R110). -/
  | bankGuest (h : CmdHdr) (bank value : Nat)
  /-- BANK_RETAIN (R111). -/
  | bankRetain (h : CmdHdr) (bank : Nat)
  /-- BANK_WAKE (R113). -/
  | bankWake (h : CmdHdr) (bank : Nat)
  /-- BANK_WIPE (R115). -/
  | bankWipe (h : CmdHdr) (bank : Nat)
  /-- BANK_STATUS (R116). -/
  | bankStatus (h : CmdHdr) (bank : Nat)
  /-- PLANE_LOAD (R62). -/
  | planeLoad (h : CmdHdr) (room value : Nat)
  /-- PLANE_SAVE (R62). -/
  | planeSave (h : CmdHdr) (room plane : Nat)
  /-- PLANE_SWITCH (R57). -/
  | planeSwitch (h : CmdHdr) (room plane : Nat)
  /-- ROOM_STATUS (R69). -/
  | roomStatus (h : CmdHdr) (room : Nat)
  /-- ROOM_PARK (R69). -/
  | roomPark (h : CmdHdr) (room : Nat)
  /-- ROOM_UNPARK (R69). -/
  | roomUnpark (h : CmdHdr) (room : Nat)
  /-- SCHED_STATUS (R197). -/
  | schedStatus (h : CmdHdr)
  /-- TASK_POST (R179). -/
  | taskPost (h : CmdHdr) (recs : List TokRec) (repost : Nat)
  /-- TEMPLATE_SET (R173). -/
  | templateSet (h : CmdHdr) (index d0 d1 d2 d3 : Nat)
  /-- IMAGE_SET (R201). -/
  | imageSet (h : CmdHdr) (image imageId : Nat) (locs : List (Nat × Nat))
  /-- FLOW_SET (R190). -/
  | flowSet (h : CmdHdr) (flow prio grouped group : Nat)
  /-- GROUP_SET (R191). -/
  | groupSet (h : CmdHdr) (group window : Nat)
  /-- TASK_CANCEL (R194). -/
  | taskCancel (h : CmdHdr) (desc : Nat)
  /-- SCHED_DRAIN (R197). -/
  | schedDrain (h : CmdHdr) (ms : Nat)
  /-- DSP_STATUS (R219). -/
  | dspStatus (h : CmdHdr) (engine : Nat)
  /-- DSP_HALT (R211). -/
  | dspHalt (h : CmdHdr) (engine : Nat)
  /-- DSP_RESUME (R219). -/
  | dspResume (h : CmdHdr) (engine : Nat)
  /-- DSP_STEP (R219). -/
  | dspStep (h : CmdHdr) (engine : Nat)
  /-- DSP_RESET (R218). -/
  | dspReset (h : CmdHdr) (engine drop : Nat)
  /-- DSP_START (R215). -/
  | dspStart (h : CmdHdr) (engine entry : Nat) (vals : List Nat)
  /-- DP_STATUS (R255). -/
  | dpStatus (h : CmdHdr) (port : Nat)
  /-- DP_RETRAIN (R249). -/
  | dpRetrain (h : CmdHdr) (port us : Nat)
  /-- DP_DOWN (R251). -/
  | dpDown (h : CmdHdr) (port : Nat)
  /-- DP_UP (R255). -/
  | dpUp (h : CmdHdr) (port us : Nat)
  /-- SL_STATUS (R281). -/
  | slStatus (h : CmdHdr) (group : Nat)
  /-- SL_RETRAIN (R271). -/
  | slRetrain (h : CmdHdr) (group us : Nat)
  /-- SL_DOWN (R280). -/
  | slDown (h : CmdHdr) (group : Nat)
  /-- SL_UP (R281). -/
  | slUp (h : CmdHdr) (group us : Nat)
  /-- SL_SLIP (R266). -/
  | slSlip (h : CmdHdr) (group lane : Nat)
  /-- SL_POWER (R274). -/
  | slPower (h : CmdHdr) (group txHold rxHold us : Nat)
  /-- ENUMERATE (R279). -/
  | enumerate (h : CmdHdr) (firstId ms : Nat)
  /-- ENUM_ASSIGN (R279). -/
  | enumAssign (h : CmdHdr) (nodeId ms : Nat)
  /-- CR_STATUS (R315). -/
  | crStatus (h : CmdHdr) (first : Nat)
  /-- CR_RANGE_REKEY (R306). -/
  | crRangeRekey (h : CmdHdr) (range : Nat)
  /-- CR_RANGE_RESET (R288). -/
  | crRangeReset (h : CmdHdr) (range : Nat)
  /-- LINK_KEX (R310). -/
  | linkKex (h : CmdHdr) (link : Nat)
  /-- KEX_MSG (R396). -/
  | kexMsg (h : CmdHdr) (msg link total offset : Nat) (bytes : List Byte)
  /-- POWER_STATUS (R349). -/
  | powerStatus (h : CmdHdr)
  /-- THERMAL_STATUS (R349). -/
  | thermalStatus (h : CmdHdr) (first : Nat)
  /-- AGE_REPORT (R348). -/
  | ageReport (h : CmdHdr)
  /-- THERM_TEST (R349). -/
  | thermTest (h : CmdHdr) (offset ms : Nat)
  /-- FOUNDATION_RESET (R361). -/
  | foundationReset (h : CmdHdr)
  /-- RESUME (R362). -/
  | resume (h : CmdHdr)
  /-- RECOVER (R371). -/
  | recover (h : CmdHdr) (retest : Nat) (found : List TestFail)
  /-- STACK_RESET (R375). -/
  | stackReset (h : CmdHdr)
  /-- SELFTEST_RUN (R372). -/
  | selftestRun (h : CmdHdr) (kind unit : Nat) (found : List TestFail)
  /-- SELFTEST_RESULT (R375). -/
  | selftestResult (h : CmdHdr)
  /-- CHECKER_MODE (R134). -/
  | checkerMode (h : CmdHdr) (bank enable rawRead : Nat)
  /-- EC_LOG_READ (R135). -/
  | ecLogRead (h : CmdHdr)
  /-- LC_STATUS (R397). -/
  | lcStatus (h : CmdHdr)
  /-- CERT_READ (R411). -/
  | certRead (h : CmdHdr) (curve dest : Nat)
  /-- ATTEST (R412). -/
  | attest (h : CmdHdr) (curve dest : Nat) (nonce : List Byte)
  /-- LC_TRANSITION (R415). -/
  | lcTransition (h : CmdHdr) (target source len : Nat)
  /-- DEBUG_ACCESS (R417). -/
  | debugAccess (h : CmdHdr) (level source len : Nat)
  /-- RP_STATUS (R397). -/
  | rpStatus (h : CmdHdr)
  /-- RECORD_START (R420). -/
  | recordStart (h : CmdHdr) (firstBank banks links sources : Nat)
  /-- RECORD_STOP (R422). -/
  | recordStop (h : CmdHdr)
  /-- REPLAY_START (R429). -/
  | replayStart (h : CmdHdr) (firstBank banks : Nat)
  /-- REPLAY_STOP (R430). -/
  | replayStop (h : CmdHdr)
  /-- STORE_STATUS (R394). -/
  | storeStatus (h : CmdHdr)
  /-- PROFILE_LIST (R399). -/
  | profileList (h : CmdHdr)
  /-- PROFILE_WRITE (R399). -/
  | profileWrite (h : CmdHdr) (slot source len : Nat)
  /-- PROFILE_ERASE (R399). -/
  | profileErase (h : CmdHdr) (slot : Nat)
  /-- PROFILE_PUSH (R399). -/
  | profilePush (h : CmdHdr) (source len : Nat)
  /-- PROFILE_SELECT (R399). -/
  | profileSelect (h : CmdHdr) (slot : Nat)
  /-- FW_WRITE (R408). -/
  | fwWrite (h : CmdHdr) (source len : Nat)
  /-- JOURNAL_SET (R401). -/
  | journalSet (h : CmdHdr) (off value mask : Nat)
  /-- JOURNAL_CLEAR (R401). -/
  | journalClear (h : CmdHdr) (off : Nat)
  /-- JOURNAL_READ (R394). -/
  | journalRead (h : CmdHdr) (dest : Nat)
  /-- JOURNAL_COMPACT (R402). -/
  | journalCompact (h : CmdHdr)
  /-- ENTDAA (R383). -/
  | entdaa (da : Nat)
  /-- RSTDAA (R383). -/
  | rstdaa
  /-- ENEC (R383). -/
  | enec (events : Nat)
  /-- DISEC (R383). -/
  | disec (events : Nat)
  /-- GETPID (R383). -/
  | getpid
  /-- GETBCR (R383). -/
  | getbcr
  /-- GETDCR (R383). -/
  | getdcr
  /-- GETSTATUS (R383). -/
  | getstatus
  /-- GETMWL (R383). -/
  | getmwl
  /-- GETMRL (R383). -/
  | getmrl
  /-- I3C_PRIVATE_WRITE (R384). -/
  | i3cPrivateWrite (bytes : List Byte) (found : List TestFail)
  /-- I3C_PRIVATE_READ (R384). -/
  | i3cPrivateRead (len : Nat)
  /-- MB_CMD (R386). -/
  | mbCmd (found : List TestFail)
  /-- MB_ENG_BELL (R387). -/
  | mbEngBell (engine addr : Nat) (found : List TestFail)
  /-- SIDEBAND_MESSAGE (R254). -/
  | sidebandMessage (port header : Nat) (data : List Byte) (found : List TestFail)
  /-- SIDEBAND_BLOCK_TIMEOUT (R254). -/
  | sidebandBlockTimeout (port : Nat)
  /-- EVENT_BLOCK_SEND (R392). -/
  | eventBlockSend
  /-- COMMAND_TIME_LIMIT (R381). -/
  | commandTimeLimit (port node ep tag : Nat)
  /-- DELAYED_STACK_RESET (R375). -/
  | delayedStackReset
  /-- LOAD (R62). -/
  | load (room : Nat) (agent : LoadAgent) (value : Nat)
  /-- STATE_RELOAD (R62). -/
  | stateReload (room : Nat) (agent : LoadAgent) (value : Nat)
  /-- SAVE (R62). -/
  | save (room : Nat) (agent : LoadAgent) (value : Nat)
  /-- DRAIN_COMPLETE (R62). -/
  | drainComplete (room : Nat)
  /-- DRAIN_LIMIT (R62). -/
  | drainLimit (room : Nat)
  /-- LOAD_ROW (R64). -/
  | loadRow (room : Nat) (crossing : List Crossing)
  /-- LOAD_FINISH (R62). -/
  | loadFinish (room : Nat)
  /-- PLANECTL_SWITCH_REQUEST (R56). -/
  | planectlSwitchRequest (room target : Nat)
  /-- PLANECTL_DONE (R182). -/
  | planectlDone (room : Nat)
  /-- HELD_SWITCH (R57). -/
  | heldSwitch (room : Nat)
  /-- ROW_REQUEST (R55). -/
  | rowRequest (room loft row : Nat) (write : Bool) (data : List Byte) (poison : Nat)
  /-- ROW_MOVE (R55). -/
  | rowMove (room : Nat) (crossing : List Crossing)
  /-- ROOM_ENDPOINT_REQUEST (R60). -/
  | roomEndpointRequest (room : Nat)
  /-- ROOM_RAM_ACCESS (R47). -/
  | roomRamAccess (room : Nat)
  /-- SERVICE_LANE_REQUEST (R98). -/
  | serviceLaneRequest (stair : Nat)
  /-- SERVICE_ACCESS (R99). -/
  | serviceAccess (stair : Nat) (sameCycle : Bool) (crossing : List Crossing)
  /-- HANDOVER (R108). -/
  | handover (bank value : Nat)
  /-- HANDOVER_COMPLETE (R108). -/
  | handoverComplete (bank : Nat)
  /-- GUEST_GRANT (R110). -/
  | guestGrant (bank value : Nat)
  /-- RETENTION_REQUEST (R111). -/
  | retentionRequest (bank : Nat)
  /-- WAKE_REQUEST (R113). -/
  | wakeRequest (bank : Nat)
  /-- RETENTION_ENTRY_COMPLETE (R111). -/
  | retentionEntryComplete (bank : Nat)
  /-- WAKE_START (R113). -/
  | wakeStart (bank : Nat)
  /-- WAKE_COMPLETE (R113). -/
  | wakeComplete (bank : Nat)
  /-- WIPE_REQUEST (R115). -/
  | wipeRequest (bank : Nat)
  /-- WIPE_COMPLETE (R114). -/
  | wipeComplete (bank : Nat)
  /-- START_UP_WIPE (R115). -/
  | startUpWipe (loft : Nat)
  /-- CHECKER_TEST_MODE_ENTRY (R134). -/
  | checkerTestModeEntry (value : Nat)
  /-- CHECKER_TEST_MODE_EXIT (R134). -/
  | checkerTestModeExit (value : Nat)
  /-- EC_LOG_POP (R138). -/
  | ecLogPop
  /-- MOWING_ROW_VISIT (R129). -/
  | mowingRowVisit (store : MowStore)
  /-- SCRUB_ACCESS (R128). -/
  | scrubAccess (visit : ScrubVisit)
  /-- MOWING_WINDOW (R131). -/
  | mowingWindow
  /-- COPY_PASS_ROW (R133). -/
  | copyPassRow (bank : Nat)
  /-- VT_PARITY_MISMATCH (R87). -/
  | vtParityMismatch (stair group : Nat) (found : VtSeg)
  /-- WALKING_PATTERN_TEST (R79). -/
  | walkingPatternTest (stair : Nat)
  /-- REPAIR_OUTCOME (R79). -/
  | repairOutcome (stair : Nat) (failing : List (Nat × Nat))
  /-- REPAIR_SAMPLING_RESUME (R79). -/
  | repairSamplingResume (stair : Nat)
  /-- PACKET_FORWARD (R144). -/
  | packetForward (router out : Nat) (linkErr : LinkErr)
  /-- CREDIT_RETURN (R152). -/
  | creditReturn (link vc cls n : Nat)
  /-- CSR_ACCESS (R161). -/
  | csrAccess (found : List TestFail)
  /-- RESPONSE_ARRIVAL (R149). -/
  | responseArrival (ep : Nat)
  /-- RESPONSE_TIME_LIMIT (R165). -/
  | responseTimeLimit (ep plane tag : Nat)
  /-- EXPIRED_TAG_RELEASE (R165). -/
  | expiredTagRelease (ep plane tag : Nat)
  /-- BERR_ARM (R164). -/
  | berrArm
  /-- CO_BOOK_SNAPSHOT (R169). -/
  | coBookSnapshot (index : Nat)
  /-- EP_PEEK (R27). -/
  | epPeek (value : Nat)
  /-- TOKEN (R179). -/
  | token (attach : Nat)
  /-- TOKEN_RECORD (R178). -/
  | tokenRecord (attach : Nat)
  /-- DISPATCH_PIPE (R184). -/
  | dispatchPipe (pipe : Nat)
  /-- DISPATCH (R212). -/
  | dispatch (engine : Nat)
  /-- DISPATCH_RESPONSE (R186). -/
  | dispatchResponse
  /-- SWITCH_REPEAT (R186). -/
  | switchRepeat (room : Nat)
  /-- DONE (R189). -/
  | done
  /-- RESULT_RECORD_POST (R189). -/
  | resultRecordPost
  /-- TICK (R192). -/
  | tick
  /-- DELAY_EXPIRY (R193). -/
  | delayExpiry (list : Nat)
  /-- DELAY_LIST_WALK (R192). -/
  | delayListWalk (list : Nat)
  /-- USE_COUNT_DECAY (R185). -/
  | useCountDecay
  /-- HALT_REQUEST (R211). -/
  | haltRequest (engine value : Nat)
  /-- ENGINE_HALT (R211). -/
  | engineHalt (engine : Nat)
  /-- STEP (R221). -/
  | step (engine : Nat)
  /-- DE_RF_DATA_WRITE (R223). -/
  | deRfDataWrite (engine value : Nat)
  /-- ENGINE_MEMORY_ACCESS (R207). -/
  | engineMemoryAccess (engine : Nat)
  /-- ENGINE_RESPONSE (R214). -/
  | engineResponse (engine : Nat)
  /-- NOP_INSTRUCTION (R226). -/
  | nopInstruction (engine f : Nat)
  /-- LD (R229). -/
  | ld (engine f : Nat)
  /-- ST (R229). -/
  | st (engine f : Nat)
  /-- MOV (R229). -/
  | mov (engine f : Nat)
  /-- MOVR (R229). -/
  | movr (engine f : Nat)
  /-- LDI (R229). -/
  | ldi (engine f : Nat)
  /-- SETP (R229). -/
  | setp (engine f : Nat)
  /-- MOVP (R229). -/
  | movp (engine f : Nat)
  /-- RDR (R235). -/
  | rdr (engine f : Nat)
  /-- WRR (R235). -/
  | wrr (engine f : Nat)
  /-- ACC (R235). -/
  | acc (engine f : Nat)
  /-- ALU (R230). -/
  | alu (engine f : Nat)
  /-- ALUI (R230). -/
  | alui (engine f : Nat)
  /-- CMAC (R231). -/
  | cmac (engine f : Nat)
  /-- DMAC (R231). -/
  | dmac (engine f : Nat)
  /-- TAPM (R232). -/
  | tapm (engine f : Nat)
  /-- BFLY (R233). -/
  | bfly (engine f : Nat)
  /-- STA (R234). -/
  | sta (engine f : Nat)
  /-- REP (R210). -/
  | rep (engine f : Nat)
  /-- BR (R237). -/
  | br (engine f : Nat)
  /-- DBNZ (R237). -/
  | dbnz (engine f : Nat)
  /-- CALL (R237). -/
  | call (engine f : Nat)
  /-- RET (R237). -/
  | ret (engine f : Nat)
  /-- GET (R238). -/
  | get (engine f : Nat)
  /-- PUT (R238). -/
  | put (engine f : Nat)
  /-- SENDTOK (R238). -/
  | sendtok (engine f : Nat)
  /-- SENDMSG (R238). -/
  | sendmsg (engine f : Nat)
  /-- WAIT (R239). -/
  | wait (engine f : Nat)
  /-- DONE_INSTRUCTION (R213). -/
  | doneInstruction (engine f : Nat)
  /-- BKPT (R240). -/
  | bkpt (engine f : Nat)
  /-- DATA_FLIT (R247). -/
  | dataFlit (link : Nat) (flit : Flit)
  /-- NULL_FLIT (R246). -/
  | nullFlit (link : Nat) (flit : Flit)
  /-- INIT_FLIT (R248). -/
  | initFlit (link : Nat) (flit : Flit)
  /-- RESYNC_FLIT (R250). -/
  | resyncFlit (link : Nat) (flit : Flit)
  /-- NAK (R269). -/
  | nak (group : Nat) (flit : Flit)
  /-- PM (R274). -/
  | pm (group : Nat) (flit : Flit)
  /-- LMB (R267). -/
  | lmb (group : Nat) (flit : Flit)
  /-- TEQ (R265). -/
  | teq (group : Nat) (flit : Flit)
  /-- FRAME (R269). -/
  | frame (group : Nat) (rx : FrameRx)
  /-- FLIT_SEND (R246). -/
  | flitSend (link vc : Nat)
  /-- ACK_TIMER (R247). -/
  | ackTimer (link : Nat)
  /-- REPLAY_TIMER (R269). -/
  | replayTimer (group : Nat)
  /-- DP_CTRL_RETRAIN (R249). -/
  | dpCtrlRetrain (port : Nat)
  /-- DP_CTRL_HOLD_DOWN (R251), with the field's value. -/
  | dpCtrlHoldDown (port value : Nat)
  /-- SL_CTRL_RETRAIN (R271). -/
  | slCtrlRetrain (group : Nat)
  /-- SL_CTRL_HOLD_DOWN (R280), with the field's value. -/
  | slCtrlHoldDown (group value : Nat)
  /-- SL_CTRL_SLIP (R266), with the value of LANE. -/
  | slCtrlSlip (group value : Nat)
  /-- TX_HOLD (R274), with the field's value. -/
  | txHold (group value : Nat)
  /-- RX_HOLD (R274), with the field's value. -/
  | rxHold (group value : Nat)
  /-- REPLAY_BUFFER_DRAIN_LIMIT (R249). -/
  | replayBufferDrainLimit (link : Nat)
  /-- TRAINING_ATTEMPT (R265). -/
  | trainingAttempt (link : Nat)
  /-- ALIGNMENT_CHECK (R266): the AW matches among the last 256 words of each lane. -/
  | alignmentCheck (group : Nat) (matched : List Nat)
  /-- FFE_TUNING_ROUND (R265): bytes 16 to 23 of the TEQ flit that the firmware sends. -/
  | ffeTuningRound (group : Nat) (requests : List Nat)
  /-- FRAME_LOCK (R265). -/
  | frameLock (group : Nat)
  /-- ADAPTER_ACTIVE (R248). -/
  | adapterActive (link : Nat) (rate : Nat)
  /-- TRAINING_FAILURE (R249). -/
  | trainingFailure (link : Nat)
  /-- FAILED_RETRY (R265). -/
  | failedRetry (link : Nat)
  /-- L1_ENTRY (R252). -/
  | l1Entry (port : Nat)
  /-- L1_EXIT (R252). -/
  | l1Exit (port : Nat)
  /-- TXI_ENTRY (R274). -/
  | txiEntry (group : Nat)
  /-- TXS_ENTRY (R274). -/
  | txsEntry (group : Nat)
  /-- TX_EXIT (R274). -/
  | txExit (group : Nat)
  /-- PORT_MAINBAND_STOP (R324). -/
  | portMainbandStop (port : Nat)
  /-- RAW_TRANSMIT (R278). -/
  | rawTransmit (group : Nat)
  /-- RAW_RECEIVE (R278): a block, and whether its frame had an uncorrectable code word. -/
  | rawReceive (group : Nat) (block : List Byte) (ue : Bool)
  /-- RAW_CONTROL_POLL (R278). -/
  | rawControlPoll (group : Nat)
  /-- RAW_RING_RETRY (R278). -/
  | rawRingRetry (group : Nat)
  /-- ENUM_ASSIGN_RESPONSE (R279). -/
  | enumAssignResponse (link status lastId : Nat)
  /-- PROTECTED_READ (R299). -/
  | protectedRead
  /-- FULL_LINE_WRITE (R300). -/
  | fullLineWrite
  /-- PARTIAL_WRITE (R301). -/
  | partialWrite
  /-- HOME_RESPONSE (R302). -/
  | homeResponse
  /-- NODE_VERIFICATION (R296). -/
  | nodeVerification (job : Nat)
  /-- WRITE_BACK (R296). -/
  | writeBack (key : Nat)
  /-- PAGE_RE_ENCRYPTION (R304). -/
  | pageReEncryption (range : Nat)
  /-- RANGE_INITIALISATION (R288). -/
  | rangeInitialisation (range : Nat)
  /-- REKEY_PAGE (R306). -/
  | rekeyPage (range : Nat)
  /-- RANGE_DISABLE (R288). -/
  | rangeDisable (range : Nat)
  /-- AUTO_KEX (R313). -/
  | autoKex (link : Nat)
  /-- KEX_TIMEOUT (R310). -/
  | kexTimeout (link : Nat)
  /-- KEX_FRAGMENT_GAP (R396). -/
  | kexFragmentGap (link : Nat)
  /-- GATE_OPEN (R331). -/
  | gateOpen (kind index : Nat)
  /-- GATE_OPEN_COMPLETE (R331). -/
  | gateOpenComplete (kind index : Nat)
  /-- GATE_CLOSE (R331). -/
  | gateClose (kind index : Nat)
  /-- GATE_DRAIN_END (R331). -/
  | gateDrainEnd (kind index : Nat)
  /-- CLOCK_SWITCH (R329). -/
  | clockSwitch (point : Nat) (toLoop forced : Bool)
  /-- POWER_ON_RESET (R338). -/
  | powerOnReset
  /-- POWER_ON_RESET_RELEASE (R357). -/
  | powerOnResetRelease (profilePins : Nat)
  /-- RAILS_POWER_GOOD (R338). -/
  | railsPowerGood
  /-- RESET_N (R354). -/
  | resetN
  /-- LOCKSTEP_MISMATCH (R354). -/
  | lockstepMismatch
  /-- BOOT_VERIFICATION (R407). -/
  | bootVerification
  /-- JUDGEMENT_WINDOW (R322). -/
  | judgementWindow (edges : Nat)
  /-- HEARTH_LOOP_LOCK (R323). -/
  | hearthLoopLock
  /-- REFCLK_LOST (R324). -/
  | refclkLost
  /-- HEARTH_LOOP_STOP (R327). -/
  | hearthLoopStop
  /-- RELOCK_ATTEMPT (R327). -/
  | relockAttempt (locked : Bool)
  /-- RC_FAIL (R321). -/
  | rcFail
  /-- START_UP_SELF_TEST (R364). -/
  | startUpSelfTest (order slice : Nat) (overrun : Bool) (found : List TestFail)
  /-- PROFILE (R358): what the body of the image holds. -/
  | profile (content : ProfileContent)
  /-- COMMIT_FREEZE (R24). -/
  | commitFreeze
  /-- COMMIT_APPLY (R24). -/
  | commitApply
  /-- COMMIT_POINT (R24). -/
  | commitPoint
  /-- COMMIT_RESPONSE (R24). -/
  | commitResponse
  /-- AUDIT (R35). -/
  | audit
  /-- FOUNDATION_RESET_PENDING_END (R361). -/
  | foundationResetPendingEnd
  /-- FOUNDATION_RESET_FREEZE (R361). -/
  | foundationResetFreeze
  /-- FOUNDATION_RESET_HOLD (R361). -/
  | foundationResetHold
  /-- FOUNDATION_RESET_RELEASE (R361). -/
  | foundationResetRelease
  /-- BACKGROUND_SLICE (R367). -/
  | backgroundSlice (stair : Nat)
  /-- SLICE_SAVE_DONE (R368). -/
  | sliceSaveDone (rows : SliceRows)
  /-- SLICE_MARCH_DONE (R368). -/
  | sliceMarchDone (stair : Nat) (found : List TestFail)
  /-- SLICE_RESTORE_DONE (R368). -/
  | sliceRestoreDone (rows : SliceRows)
  /-- SLICE_BUDGET_EXPIRY (R368). -/
  | sliceBudgetExpiry (stair : Nat)
  /-- SHEDDING_STEP_ENTRY (R339). -/
  | sheddingStepEntry (step : Nat) (rail : RailSag)
  /-- SHEDDING_STEP_EXIT (R340). -/
  | sheddingStepExit (step : ShedHold)
  /-- RAIL_STATE_LOST (R336). -/
  | railStateLost (rail : Nat)
  /-- ADC_CONVERSION (R342). -/
  | adcConversion (reading : AdcReading)
  /-- SLOW_ROUND_END (R343). -/
  | slowRoundEnd
  /-- AGEING_MEASUREMENT (R347). -/
  | ageingMeasurement (readings : List Nat)
  /-- LIFE_RECORD (R348). -/
  | lifeRecord
  /-- THERM_TEST_END (R349). -/
  | thermTestEnd
  /-- JOURNAL_COMPACTION (R402). -/
  | journalCompaction
  /-- RECORDER_DRAIN (R425). -/
  | recorderDrain
  /-- CHECK_RECORD (R427). -/
  | checkRecord
  /-- STAMP_LIMIT (R431). -/
  | stampLimit
  /-- REPLAY_INJECTION (R429). -/
  | replayInjection (found : List TestFail)
  /-- REPLAY_HALT (R430). -/
  | replayHalt (cause : Nat)
  /-- LC_CHAL_NEW (R414). -/
  | lcChalNew
  /-- BT_RES_POP (R377). -/
  | btResPop
  /-- READ_CLEAR (R8). -/
  | readClear (off : Nat)
  /-- LOW_WORD_READ_LATCH (R28). -/
  | lowWordReadLatch (off : Nat)
  /-- REGISTER_WRITE (R7). -/
  | registerWrite (off value : Nat)
  /-- CK_ROOM_EDGE (R57): the tracks that the plane active from this edge drives, its accesses to the room RAM and the
  register of its RM block that it asks for, in the cycle that begins. -/
  | ckRoomEdge (room : Nat) (vt : VtDrive) (logic : LogicIn)
  /-- CORRIDOR_TRANSMIT (R54). -/
  | corridorTransmit (room : Nat) (pkt : Packet)
  /-- TAP_ACCESS (R373). -/
  | tapAccess (op : TapOp)
  /-- FORWARDED_CLOCK_STOP (R271). -/
  | forwardedClockStop (group : Nat)
  /-- ADAPTER_RETRY_FAILURE (R249), after the adapter's replays. -/
  | adapterRetryFailure (port replays : Nat)
  /-- LANE_FAULT (R249): a receive lane, or a transmit lane. -/
  | laneFault (port lane : Nat) (tx : Bool)
  /-- CONFIG_UE (R127). -/
  | configUe (room : Nat)
  /-- RESET_N_RELEASE (R354). -/
  | resetNRelease (profilePins : Nat)
  /-- LOCK_FAIL (R327). -/
  | lockFail
  /-- PROGRAM_OR_ERASE_END (R402). -/
  | programOrEraseEnd (failed : Bool)
  deriving DecidableEq, Repr

end Sys2Proof
end

