-- ==== Sys2Proof/Config.lean ====
section
/-!
DEFINITION. What the spec leaves open: free values as opaque constants (nothing in Lean can prove a value of them),
applied to the counter State.fresh or to the operands they depend on. See the assumption log.
-/
namespace Sys2Proof

/-- Byte `i` of the draw numbered `n`: random draws of the TRNG (R292, R310, R414) and every undefined byte of data
(assumption log entries 10 and 11). -/
opaque Config.freeByte : Nat → Nat → Byte

/-- A 32-bit value that the spec leaves open, by draw number. -/
opaque Config.freeWord : Nat → Word

/-- ECDSA signature (r ‖ s) over a digest with the private identity key of a curve; the draw number stands for its random
nonce (R310, R412; log entry 12). -/
opaque Config.ecdsaSign : (curve : Nat) → (secret fresh : Nat) → (digest : List Byte) → List Byte

/-- The set of the counter cache in which an entry lies: the manual gives 4,096 sets of 16 ways, not the mapping (R296;
log entry 24). -/
opaque Config.cacheSet : (key : Nat) → Nat

/-- Whether an ECDSA signature verifies under a public key (R310, R406, R414; log entry 12). -/
opaque Config.ecdsaVerify : (curve : Nat) → (key digest signature : List Byte) → Bool

/-- Public key of an ephemeral or identity secret, uncompressed SEC1 form (R310, R410; log entry 12). -/
opaque Config.ecPublic : (curve : Nat) → (secret : Nat) → List Byte

/-- The x-coordinate of the ECDH shared point (R310; log entry 12). -/
opaque Config.ecdh : (curve : Nat) → (secret : Nat) → (peer : List Byte) → List Byte

/-- The DER chain of a curve: the device certificate, rebuilt from the provisional ID, the identity key and the fused fields,
and the intermediate certificate that the running firmware holds (R411; log entry 12). -/
opaque Config.certChain : (curve : Nat) → (uid secret : Nat) → (fields measurement : List Byte) → List Byte

/-- Whether the certificate of a curve, rebuilt with these fields, verifies under the intermediate key (R413; log entry 12). -/
opaque Config.certOk : (curve : Nat) → (uid secret : Nat) → (fields measurement : List Byte) → Bool

/-- Whether a certificate chain verifies (R310, R411; log entry 12). -/
opaque Config.chainOk : (curve : Nat) → (chain : List Byte) → Bool

/-- The public key that a certificate chain certifies (R310; log entry 12). -/
opaque Config.chainKey : (curve : Nat) → (chain : List Byte) → List Byte

/-- The bytes whose SHA-384 is the configuration digest of a ring (Table 19-2): the journal's live state, LB_FALLOW_MAP,
ST_NARROW_MAP, the fallow rooms and engines, CO_NODE. How they are laid out is open (log entry 34). -/
opaque Config.configBytes : (live : List (List Nat)) → (maps : List (List Nat)) → List Byte

/-- The mode of a group of 32 vertical tracks that the image of a plane sets: true for bundle (R86). Where an image holds it
is open (log entry 110). -/
opaque Config.vtBundle : (imageId group : Nat) → Bool

/-- The function table of a LUT6 of a room (number 4·cell + i) that the image of a plane sets, and whether it is used as two
LUT5 (R45). Where an image holds them is open (log entry 132). -/
opaque Config.lut : (imageId lut : Nat) → BitVec 64 × Bool

/-- Where a flip-flop (number 8·cell + j) takes its data: 0 O6 and 1 O5 of its LUT, 2 CO of the same place in the carry
segment, 3 its direct input; and whether its SR input sets (else resets) it (log entry 132). -/
opaque Config.flipFlop : (imageId ff : Nat) → Nat × Bool

/-- The setting of a multiplier by the image of a plane (R45): operand A signed, operand B signed, pipeline registers (modulo
4), accumulator used, cascade from the multiplier below in the column (log entry 132). -/
opaque Config.mult : (imageId mult : Nat) → Bool × Bool × Nat × Bool × Bool

/-- Width codes of the write port and the read port of a room-RAM block (0 to 3 for 32, 64, 128 and 256 bits), and whether
its output register is used, as the image of a plane sets them (R46). Where an image holds them is open (log entry 109). -/
opaque Config.ramPort : (imageId block : Nat) → Nat × Nat × Bool

/-- The settings that the body of a profile image holds, where the model has not been given them (R336, R358): the layout of
the body is Swezer's and not in this manual (log entry 141). -/
opaque Config.profileBody : (image : List Byte) → Machine.ProfileContent

/-- The temperature, in sixteenths of a degree, that a thermistor channel's reading stands for under a B value (R342): the form of
the reading and the rounding are open (log entry 137). -/
opaque Config.thermistor : (beta reading : Nat) → Nat

/-- Value of a tap of a lane's equaliser after the adaptation with a number (R264): what it converges to is open (log entry 28). -/
opaque Config.dfeTap : (adaptation lane tap : Nat) → Word

/-- The 32 bytes of a match entry of a key that names a descriptor, and of a free one: R181 gives their size and no layout (log
entry 123). -/
opaque Config.matchEntry : (key desc : Nat) → List Byte
opaque Config.matchFree : List Byte

/-- The size of the flash the system provides, in MiB: 512 to 4,096 (R398). -/
def Config.flashMiB : Nat := 512

end Sys2Proof
end

