-- ==== Sys2Proof/Machine/Maps.lean ====
section
/-!
DEFINITION. Sparse tables in one canonical form: a list of (key, value) pairs with strictly rising keys and no entry
equal to what an unlisted key holds. The default is a function of the key, so one form serves registers (default: the
reset value), memory (default: 0) and the tables of the units. Equal tables are equal data.
-/
namespace Sys2Proof.Machine

/-- A sparse table from Nat keys. -/
abbrev SMap (α : Type) := List (Nat × α)

/-- The value at key `k`: the listed one, or the default. -/
def mget {α : Type} (d : Nat → α) : SMap α → Nat → α
  | [], k => d k
  | (k', v) :: t, k => if k' = k then v else if k < k' then d k else mget d t k

/-- Put a value at the head of a table, unless it is the default of its key. -/
def mcons {α : Type} [DecidableEq α] (d : Nat → α) (k : Nat) (v : α) (t : SMap α) : SMap α :=
  if v = d k then t else (k, v) :: t

/-- The table with key `k` holding `v`, in canonical form. -/
def mput {α : Type} [DecidableEq α] (d : Nat → α) : SMap α → Nat → α → SMap α
  | [], k, v => mcons d k v []
  | (k', w) :: t, k, v =>
    if k < k' then mcons d k v ((k', w) :: t)
    else if k = k' then mcons d k v t
    else (k', w) :: mput d t k v

/-- The canonical form, as a Bool: keys strictly rising from `lo` on, no entry equal to its default. -/
def mwfFrom {α : Type} [DecidableEq α] (d : Nat → α) (lo : Nat) : SMap α → Bool
  | [] => true
  | (k, v) :: t => decide (lo ≤ k) && decide (v ≠ d k) && mwfFrom d (k + 1) t

/-- The canonical form of a whole table. -/
def mwf {α : Type} [DecidableEq α] (d : Nat → α) (m : SMap α) : Bool := mwfFrom d 0 m

/-- Change the value at key `k` by `f`. -/
def mupd {α : Type} [DecidableEq α] (d : Nat → α) (m : SMap α) (k : Nat) (f : α → α) : SMap α :=
  mput d m k (f (mget d m k))

/-- Whether key `k` is listed. -/
def mhas {α : Type} (m : SMap α) (k : Nat) : Bool := m.any fun e => e.1 == k

/-- The table without the keys in [lo, hi): they hold their defaults again. -/
def mclear {α : Type} (m : SMap α) (lo hi : Nat) : SMap α := m.filter fun e => e.1 < lo || hi ≤ e.1

/-- Remove one key. -/
def mdel {α : Type} (m : SMap α) (k : Nat) : SMap α := m.filter fun e => e.1 != k

/-- Apply `f` to every listed value; a value that becomes the default of its key is unlisted. -/
def mmapv {α : Type} [DecidableEq α] (d : Nat → α) (f : Nat → α → α) (m : SMap α) : SMap α :=
  m.filterMap fun e => let v := f e.1 e.2; if v = d e.1 then none else some (e.1, v)

end Sys2Proof.Machine
end

