-- ==== Sys2Proof/Machine/Regs.lean ====
section
/-!
DEFINITION. The register map of the stack: every register of the field tables of spec/ with its CSR offset
(R161 and the register map of each chapter) and every field with its bits, access type (R7) and reset value (R10).
"Profile", "Fuse" and "Journal" resets stand as 0 here: the profile, the fuse load and the journal write them later
(R10; DESIGN CHOICE for the time before, see the assumption log entry 3).
-/
namespace Sys2Proof.Machine

/-- Access types of Table 00-5 (R7). -/
inductive Acc where
  | ro | rw | rwe | w1c | w1s | wo | rc
  deriving DecidableEq, Repr

/-- Every register name of the spec's register maps. An indexed register is one name with an index. -/
inductive Reg where
  | HK_ID_VENDOR | HK_ID_PART | HK_ID_REV | HK_ID_NODE | HK_ID_UID_LO | HK_ID_UID_HI | HK_STATUS | HK_ROUND
  | HK_CH | CK_STATUS | CK_REF_LOST | CK_SW_FORCED | CK_REF_JUDGE | CK_RC_TRIM | CK_GATE_ROOM | CK_GATE_DSP
  | CK_GATE_LINK | CK_GATE_UNIT | CK_GSTAT_ROOM | CK_GSTAT_DSP | CK_GSTAT_LINK | CK_GSTAT_UNIT | CK_GATE_EVENT
  | PW_STATUS | PW_SHED_CFG | PW_SHED_HYST | PW_SHED_STATUS | TH_CFG | TH_STATUS | TH_TJ | TH_XT_CFG
  | TH_AGE_STATUS | TH_LIFE | MB_STATUS | MB_CFG | MB_PERM | MB_EVT_MASK | MB_EVT_DEST | MB_EVT_DROP
  | MB_CMD_COUNT | MB_ENG_BELL | EP_EPOCH_LO | EP_EPOCH_HI | EP_STATUS | EP_STAGED_COUNT | EP_PEEK_ADDR
  | EP_PEEK_DATA | EP_PEEK_STATUS | EP_AUDIT_COUNT | EP_AUDIT_LAST | EP_FAULT_BOOK | EP_FAULT_DELTA
  | EP_ESC_COMMIT | EP_ESC_RESET | EP_ESC_TOKENS | EP_ESC_LINK | LB_OWNER | LB_NEXT_OWNER | LB_GUEST | LB_CTRL
  | LB_PWR | LB_STATUS | LB_WIPE | LB_BUSY_COUNT | LB_DENY_COUNT | LB_HANDOVER_COUNT | LB_ARBCFG
  | LB_FALLOW_MAP | LB_RET_MAP | ST_STATUS | ST_NARROW | ST_FAULT | ST_CORR_COUNT | ST_REPAIR_COUNT
  | ST_REMAP_IDX | ST_REMAP_DATA | ST_CFG | ST_NARROW_MAP | RM_PLANE | RM_SWITCH | RM_STATUS | RM_EFF_DIV
  | RM_LOAD_CTRL | RM_LOAD_STATUS | RM_LOADCFG | RM_PLANE_CFG | RM_PSRC | RM_IMAGE_ID_LO | RM_IMAGE_ID_HI
  | RM_SWITCH_COUNT | RM_LOAD_COUNT | RM_DROP_COUNT | RM_POISON_COUNT | SC_STATUS | SC_CFG | SC_SIZE | SC_RES
  | SC_TICK_CFG | SC_TICK_LO | SC_TICK_HI | SC_RATE | SC_MEADOW | SC_TOK_ISSUED_LO | SC_TOK_ISSUED_HI
  | SC_TOK_MATCHED_LO | SC_TOK_MATCHED_HI | SC_TOK_HELD | SC_TOK_FLIGHT | SC_MATCH_USED | SC_DISPATCH_COUNT
  | SC_REFUSE_COUNT | SC_BAD_DONE_COUNT | SC_LOAD_FAIL_COUNT | SC_EVICT_COUNT | SC_TPL_IDX | SC_TPL_DATA_0
  | SC_TPL_DATA_1 | SC_TPL_DATA_2 | SC_TPL_DATA_3 | SC_IMG_IDX | SC_IMG_ID_LO | SC_IMG_ID_HI | SC_LOC_IDX
  | SC_LOC_CTRL | SC_LOC_DATA | SC_GRP_IDX | SC_GRP_STATE | SC_GRP_OUT | SC_USE_IDX | SC_USE | SC_WMAP
  | SC_EMAP | DE_STATE | DE_CTRL | DE_MODE | DE_FLAGS | DE_PC | DE_TASK | DE_EXC | DE_EXC_ADDR
  | DE_FAULT_TAG_LO | DE_FAULT_TAG_HI | DE_REP | DE_CFG | DE_CYCLES_LO | DE_CYCLES_HI | DE_STALL_COUNT
  | DE_EXC_COUNT | DE_RF_IDX | DE_RF_DATA | DP_STATUS | DP_CTRL | DP_CFG | DP_RXCFG | DP_PEER | DP_PEER_UID_LO
  | DP_PEER_UID_HI | DP_REPAIR | DP_TRAIN_COUNT | DP_RETRY_COUNT | DP_TXBOOK | DP_RXBOOK | SL_STATUS | SL_CTRL
  | SL_CFG | SL_RXCFG | SL_PWR | SL_PEER | SL_PEER_UID_LO | SL_PEER_UID_HI | SL_TXEQ | SL_RXEQ | SL_FEC_COUNT
  | SL_FEC_UE_COUNT | SL_RETRY_COUNT | SL_TRAIN_COUNT | SL_TXBOOK | SL_RXBOOK | SL_LANE | SL_RAW_CFG
  | SL_RAW_RING | SL_RAW_STATUS | SL_DFE_IDX | SL_DFE_DATA | CR_STATUS | CR_CACHE_HIT_COUNT
  | CR_CACHE_MISS_COUNT | CR_TAG_FAIL_COUNT | CR_REFUSE_COUNT | CR_REENC_COUNT | CR_FAIL_INFO | CR_FAIL_INDEX
  | CR_RANGE_CTRL | CR_RANGE_BASE | CR_RANGE_META | CR_RANGE_STATE | CR_LINK_CFG | CR_LINK_STATUS
  | CR_LINK_TXE | CR_LINK_COUNT | EC_STATUS | EC_MOW_CFG | EC_MOW_STATUS | EC_MOW_PERIOD | EC_CE_COUNT
  | EC_UE_COUNT | EC_POISON_WRITE_COUNT | EC_LOG_CTRL | EC_LOG_ADDR_LO | EC_LOG_ADDR_HI | EC_LOG_INFO
  | EC_LOG_SYND | EC_CTM_CTRL | EC_CTM_CHECK | EC_CTM_SYND | EC_CTM_FLIP | EC_SPARE_IDX | EC_SPARE_DATA
  | BT_STATUS | BT_BOOT | BT_START_TIME | BT_BG_CFG | BT_BG_STATUS | BT_FRESET | BT_RES_CTRL | BT_RES_WHERE
  | BT_RES_ADDR | BT_RES_INFO | BT_SLICE_MAP | RP_STATUS | RP_CFG | RP_RING | RP_LINKS | RP_SOURCES
  | RP_STAMP_LO | RP_STAMP_HI | RP_FILL | RP_DROP | RP_HAZARD | RP_FIRST_LO | RP_FIRST_HI | RP_BREAK_LO
  | RP_BREAK_HI | RP_SAFE_CAUSE | RP_SAFE_STAMP_LO | RP_SAFE_STAMP_HI | LC_STATE | LC_DEBUG | LC_KEYS | LC_SVN
  | LC_FW_EDITION | LC_FW_STATUS | LC_CHAL_CTRL | LC_AUTH_FAIL | LC_CHAL | CO_STATUS | CO_CFG | CO_NODE
  | CO_VC_WEIGHT | CO_BERR_SRC | CO_BERR_ADDR_LO | CO_BERR_ADDR_HI | CO_BERR_COUNT | CO_DROP_COUNT
  | CO_CE_COUNT | CO_TIMEOUT_COUNT | CO_BOOK_IDX | CO_BOOK_SEND | CO_BOOK_FLIGHT | CO_BOOK_FREE | CO_ROUTE
  | CO_RWIN_CTRL | CO_RWIN_BASE_LO | CO_RWIN_BASE_HI
  deriving DecidableEq, Repr

/-- One field of a register: bits hi:lo, access type, reset value. -/
structure Field where
  reg : Reg
  hi  : Nat
  lo  : Nat
  acc : Acc
  rst : Nat
  deriving DecidableEq, Repr

/-- Where the instances of a register lie in CSR space: instance i is at
base + (i / inner) * ostride + (i % inner) * istride. -/
structure RegMap where
  base    : Nat
  count   : Nat
  inner   : Nat
  istride : Nat
  ostride : Nat
  deriving DecidableEq, Repr

/-! HK_ID_VENDOR: R171, Table 07-15 of spec/07_corridor_network.md. -/
def Fld.HK_ID_VENDOR_VENDOR : Field := ⟨.HK_ID_VENDOR, 31, 0, .ro, 0xe5b⟩
/-! HK_ID_PART: R171, Table 07-15 of spec/07_corridor_network.md. -/
def Fld.HK_ID_PART_FAMILY : Field := ⟨.HK_ID_PART, 31, 16, .ro, 0x1⟩
def Fld.HK_ID_PART_PART : Field := ⟨.HK_ID_PART, 15, 0, .ro, 0x8412⟩
/-! HK_ID_REV: R171, Table 07-15 of spec/07_corridor_network.md. -/
def Fld.HK_ID_REV_STEP_LETTER : Field := ⟨.HK_ID_REV, 15, 8, .ro, 0x4b⟩
def Fld.HK_ID_REV_STEP_NUM : Field := ⟨.HK_ID_REV, 7, 0, .ro, 0x1⟩
/-! HK_ID_NODE: R171, Table 07-15 of spec/07_corridor_network.md. -/
def Fld.HK_ID_NODE_VALID : Field := ⟨.HK_ID_NODE, 31, 31, .ro, 0x0⟩
def Fld.HK_ID_NODE_NODE : Field := ⟨.HK_ID_NODE, 9, 0, .ro, 0x0⟩
/-! HK_ID_UID_LO: R171, Table 07-15 of spec/07_corridor_network.md. -/
def Fld.HK_ID_UID_LO_UID : Field := ⟨.HK_ID_UID_LO, 31, 0, .ro, 0⟩
/-! HK_ID_UID_HI: R171, Table 07-15 of spec/07_corridor_network.md. -/
def Fld.HK_ID_UID_HI_UID : Field := ⟨.HK_ID_UID_HI, 15, 0, .ro, 0⟩
/-! HK_STATUS: R351, Table 15-9 of spec/15_power_thermal_cooling.md. -/
def Fld.HK_STATUS_STEP : Field := ⟨.HK_STATUS, 11, 8, .ro, 0x0⟩
def Fld.HK_STATUS_READY : Field := ⟨.HK_STATUS, 5, 5, .ro, 0x0⟩
def Fld.HK_STATUS_SAFE : Field := ⟨.HK_STATUS, 4, 4, .ro, 0x0⟩
def Fld.HK_STATUS_TIER : Field := ⟨.HK_STATUS, 1, 0, .ro, 0x0⟩
/-! HK_ROUND: R351, Table 15-9 of spec/15_power_thermal_cooling.md. -/
def Fld.HK_ROUND_COUNT : Field := ⟨.HK_ROUND, 31, 0, .ro, 0x0⟩
/-! HK_CH: R351, Table 15-9 of spec/15_power_thermal_cooling.md. -/
def Fld.HK_CH_VALID : Field := ⟨.HK_CH, 31, 31, .ro, 0x0⟩
def Fld.HK_CH_FAULT : Field := ⟨.HK_CH, 30, 30, .ro, 0x0⟩
def Fld.HK_CH_VALUE : Field := ⟨.HK_CH, 15, 0, .ro, 0x0⟩
/-! CK_STATUS: R334, Table 14-5 of spec/14_clocks.md. -/
def Fld.CK_STATUS_RC_FAIL : Field := ⟨.CK_STATUS, 7, 7, .ro, 0x0⟩
def Fld.CK_STATUS_MP_SRC : Field := ⟨.CK_STATUS, 6, 6, .ro, 0x0⟩
def Fld.CK_STATUS_HK_SRC : Field := ⟨.CK_STATUS, 5, 5, .ro, 0x0⟩
def Fld.CK_STATUS_REF_GOOD : Field := ⟨.CK_STATUS, 4, 4, .ro, 0x0⟩
def Fld.CK_STATUS_HEARTH : Field := ⟨.CK_STATUS, 2, 0, .ro, 0x0⟩
/-! CK_REF_LOST: R334, Table 14-5 of spec/14_clocks.md. -/
def Fld.CK_REF_LOST_ACTIVE : Field := ⟨.CK_REF_LOST, 31, 31, .ro, 0x0⟩
def Fld.CK_REF_LOST_COUNT : Field := ⟨.CK_REF_LOST, 15, 0, .rc, 0x0⟩
/-! CK_SW_FORCED: R334, Table 14-5 of spec/14_clocks.md. -/
def Fld.CK_SW_FORCED_COUNT : Field := ⟨.CK_SW_FORCED, 9, 2, .rc, 0x0⟩
def Fld.CK_SW_FORCED_MP : Field := ⟨.CK_SW_FORCED, 1, 1, .w1c, 0x0⟩
def Fld.CK_SW_FORCED_HK : Field := ⟨.CK_SW_FORCED, 0, 0, .w1c, 0x0⟩
/-! CK_REF_JUDGE: R334, Table 14-5 of spec/14_clocks.md. -/
def Fld.CK_REF_JUDGE_WINDOWS : Field := ⟨.CK_REF_JUDGE, 20, 16, .ro, 0x0⟩
def Fld.CK_REF_JUDGE_LAST : Field := ⟨.CK_REF_JUDGE, 10, 0, .ro, 0x0⟩
/-! CK_RC_TRIM: R334, Table 14-5 of spec/14_clocks.md. -/
def Fld.CK_RC_TRIM_TEMP : Field := ⟨.CK_RC_TRIM, 15, 8, .ro, 0x0⟩
def Fld.CK_RC_TRIM_CODE : Field := ⟨.CK_RC_TRIM, 7, 0, .ro, 0⟩
/-! CK_GATE_ROOM: R334, Table 14-5 of spec/14_clocks.md. -/
def Fld.CK_GATE_ROOM_REQ : Field := ⟨.CK_GATE_ROOM, 31, 0, .rw, 0x0⟩
/-! CK_GATE_DSP: R334, Table 14-5 of spec/14_clocks.md. -/
def Fld.CK_GATE_DSP_REQ : Field := ⟨.CK_GATE_DSP, 31, 0, .rw, 0x0⟩
/-! CK_GATE_LINK: R334, Table 14-5 of spec/14_clocks.md. -/
def Fld.CK_GATE_LINK_REQ : Field := ⟨.CK_GATE_LINK, 31, 0, .rw, 0x0⟩
/-! CK_GATE_UNIT: R334, Table 14-5 of spec/14_clocks.md. -/
def Fld.CK_GATE_UNIT_REQ : Field := ⟨.CK_GATE_UNIT, 31, 0, .rw, 0x0⟩
/-! CK_GSTAT_ROOM: R334, Table 14-5 of spec/14_clocks.md. -/
def Fld.CK_GSTAT_ROOM_OPEN : Field := ⟨.CK_GSTAT_ROOM, 31, 0, .ro, 0x0⟩
/-! CK_GSTAT_DSP: R334, Table 14-5 of spec/14_clocks.md. -/
def Fld.CK_GSTAT_DSP_OPEN : Field := ⟨.CK_GSTAT_DSP, 31, 0, .ro, 0x0⟩
/-! CK_GSTAT_LINK: R334, Table 14-5 of spec/14_clocks.md. -/
def Fld.CK_GSTAT_LINK_OPEN : Field := ⟨.CK_GSTAT_LINK, 31, 0, .ro, 0x0⟩
/-! CK_GSTAT_UNIT: R334, Table 14-5 of spec/14_clocks.md. -/
def Fld.CK_GSTAT_UNIT_OPEN : Field := ⟨.CK_GSTAT_UNIT, 31, 0, .ro, 0x0⟩
/-! CK_GATE_EVENT: R334, Table 14-5 of spec/14_clocks.md. -/
def Fld.CK_GATE_EVENT_REFUSED : Field := ⟨.CK_GATE_EVENT, 31, 31, .w1c, 0x0⟩
def Fld.CK_GATE_EVENT_DRAIN_BERR : Field := ⟨.CK_GATE_EVENT, 15, 0, .rc, 0x0⟩
/-! PW_STATUS: R352, Table 15-10 of spec/15_power_thermal_cooling.md. -/
def Fld.PW_STATUS_FAB_LOST : Field := ⟨.PW_STATUS, 18, 18, .ro, 0x0⟩
def Fld.PW_STATUS_LND_LOST : Field := ⟨.PW_STATUS, 17, 17, .ro, 0x0⟩
def Fld.PW_STATUS_LOFT_LOST : Field := ⟨.PW_STATUS, 16, 16, .ro, 0x0⟩
def Fld.PW_STATUS_PGOOD : Field := ⟨.PW_STATUS, 9, 0, .ro, 0x0⟩
/-! PW_SHED_CFG: R352, Table 15-10 of spec/15_power_thermal_cooling.md. -/
def Fld.PW_SHED_CFG_T6 : Field := ⟨.PW_SHED_CFG, 29, 25, .rwe, 0x14⟩
def Fld.PW_SHED_CFG_T5 : Field := ⟨.PW_SHED_CFG, 24, 20, .rwe, 0x10⟩
def Fld.PW_SHED_CFG_T4 : Field := ⟨.PW_SHED_CFG, 19, 15, .rwe, 0xe⟩
def Fld.PW_SHED_CFG_T3 : Field := ⟨.PW_SHED_CFG, 14, 10, .rwe, 0xc⟩
def Fld.PW_SHED_CFG_T2 : Field := ⟨.PW_SHED_CFG, 9, 5, .rwe, 0xa⟩
def Fld.PW_SHED_CFG_T1 : Field := ⟨.PW_SHED_CFG, 4, 0, .rwe, 0x6⟩
/-! PW_SHED_HYST: R352, Table 15-10 of spec/15_power_thermal_cooling.md. -/
def Fld.PW_SHED_HYST_HOLD_US : Field := ⟨.PW_SHED_HYST, 19, 8, .rwe, 0x64⟩
def Fld.PW_SHED_HYST_HYST : Field := ⟨.PW_SHED_HYST, 3, 0, .rwe, 0x2⟩
/-! PW_SHED_STATUS: R352, Table 15-10 of spec/15_power_thermal_cooling.md. -/
def Fld.PW_SHED_STATUS_ENTRIES : Field := ⟨.PW_SHED_STATUS, 31, 16, .rc, 0x0⟩
def Fld.PW_SHED_STATUS_WORST_RAIL : Field := ⟨.PW_SHED_STATUS, 11, 8, .ro, 0x0⟩
def Fld.PW_SHED_STATUS_LEVEL : Field := ⟨.PW_SHED_STATUS, 2, 0, .ro, 0x0⟩
/-! TH_CFG: R353, Table 15-11 of spec/15_power_thermal_cooling.md. -/
def Fld.TH_CFG_REQ_C : Field := ⟨.TH_CFG, 30, 24, .rwe, 0x62⟩
def Fld.TH_CFG_HYST : Field := ⟨.TH_CFG, 23, 20, .rwe, 0x3⟩
def Fld.TH_CFG_GRACE_MS : Field := ⟨.TH_CFG, 19, 10, .rwe, 0x32⟩
def Fld.TH_CFG_STEP_MS : Field := ⟨.TH_CFG, 9, 0, .rwe, 0xa⟩
/-! TH_STATUS: R353, Table 15-11 of spec/15_power_thermal_cooling.md. -/
def Fld.TH_STATUS_SHUTDOWN : Field := ⟨.TH_STATUS, 31, 31, .ro, 0x0⟩
def Fld.TH_STATUS_SHUT_CAUSE : Field := ⟨.TH_STATUS, 30, 28, .ro, 0x0⟩
def Fld.TH_STATUS_SHUT_CH : Field := ⟨.TH_STATUS, 27, 22, .ro, 0x0⟩
def Fld.TH_STATUS_DIODE_FAULT : Field := ⟨.TH_STATUS, 15, 15, .w1c, 0x0⟩
def Fld.TH_STATUS_LEVEL : Field := ⟨.TH_STATUS, 10, 8, .ro, 0x0⟩
def Fld.TH_STATUS_REQ : Field := ⟨.TH_STATUS, 0, 0, .ro, 0x0⟩
/-! TH_TJ: R353, Table 15-11 of spec/15_power_thermal_cooling.md. -/
def Fld.TH_TJ_HOT_CH : Field := ⟨.TH_TJ, 21, 16, .ro, 0x0⟩
def Fld.TH_TJ_TJ : Field := ⟨.TH_TJ, 15, 0, .ro, 0x0⟩
/-! TH_XT_CFG: R353, Table 15-11 of spec/15_power_thermal_cooling.md. -/
def Fld.TH_XT_CFG_OUTLET_SHDN : Field := ⟨.TH_XT_CFG, 31, 31, .rwe, 0⟩
def Fld.TH_XT_CFG_MODE : Field := ⟨.TH_XT_CFG, 25, 24, .rwe, 0⟩
def Fld.TH_XT_CFG_ROLE : Field := ⟨.TH_XT_CFG, 22, 20, .rwe, 0⟩
def Fld.TH_XT_CFG_BETA : Field := ⟨.TH_XT_CFG, 15, 0, .rwe, 0xd6b⟩
/-! TH_AGE_STATUS: R353, Table 15-11 of spec/15_power_thermal_cooling.md. -/
def Fld.TH_AGE_STATUS_EXCEEDED : Field := ⟨.TH_AGE_STATUS, 31, 31, .ro, 0x0⟩
def Fld.TH_AGE_STATUS_WARN : Field := ⟨.TH_AGE_STATUS, 30, 30, .ro, 0x0⟩
def Fld.TH_AGE_STATUS_LAYER : Field := ⟨.TH_AGE_STATUS, 23, 20, .ro, 0x0⟩
def Fld.TH_AGE_STATUS_DEGR : Field := ⟨.TH_AGE_STATUS, 15, 0, .ro, 0x0⟩
/-! TH_LIFE: R353, Table 15-11 of spec/15_power_thermal_cooling.md. -/
def Fld.TH_LIFE_HOURS : Field := ⟨.TH_LIFE, 31, 0, .ro, 0⟩
/-! MB_STATUS: R404, Table 17-24 of spec/17_mailbox_and_ebryn_commands.md. -/
def Fld.MB_STATUS_INPROG : Field := ⟨.MB_STATUS, 23, 16, .ro, 0x0⟩
def Fld.MB_STATUS_I3C_DA : Field := ⟨.MB_STATUS, 14, 8, .ro, 0x0⟩
def Fld.MB_STATUS_I3C_BADLEN : Field := ⟨.MB_STATUS, 7, 7, .w1c, 0x0⟩
def Fld.MB_STATUS_ENG_DROP : Field := ⟨.MB_STATUS, 6, 6, .w1c, 0x0⟩
def Fld.MB_STATUS_BOOTROM : Field := ⟨.MB_STATUS, 5, 5, .ro, 0x1⟩
/-! MB_CFG: R404, Table 17-24 of spec/17_mailbox_and_ebryn_commands.md. -/
def Fld.MB_CFG_I3C_IRQ : Field := ⟨.MB_CFG, 31, 31, .rwe, 0⟩
def Fld.MB_CFG_PORT_EN : Field := ⟨.MB_CFG, 18, 1, .rwe, 0⟩
def Fld.MB_CFG_I3C_EN : Field := ⟨.MB_CFG, 0, 0, .ro, 0x1⟩
/-! MB_PERM: R404, Table 17-24 of spec/17_mailbox_and_ebryn_commands.md. -/
def Fld.MB_PERM_RAW : Field := ⟨.MB_PERM, 15, 15, .rwe, 0⟩
def Fld.MB_PERM_GROUPS : Field := ⟨.MB_PERM, 14, 1, .rwe, 0⟩
/-! MB_EVT_MASK: R404, Table 17-24 of spec/17_mailbox_and_ebryn_commands.md. -/
def Fld.MB_EVT_MASK_MASK : Field := ⟨.MB_EVT_MASK, 15, 0, .rw, 0xffff⟩
/-! MB_EVT_DEST: R404, Table 17-24 of spec/17_mailbox_and_ebryn_commands.md. -/
def Fld.MB_EVT_DEST_VALID : Field := ⟨.MB_EVT_DEST, 31, 31, .rwe, 0⟩
def Fld.MB_EVT_DEST_NODE : Field := ⟨.MB_EVT_DEST, 27, 18, .rwe, 0⟩
def Fld.MB_EVT_DEST_EP : Field := ⟨.MB_EVT_DEST, 17, 8, .rwe, 0⟩
def Fld.MB_EVT_DEST_MASK : Field := ⟨.MB_EVT_DEST, 7, 0, .rwe, 0⟩
/-! MB_EVT_DROP: R404, Table 17-24 of spec/17_mailbox_and_ebryn_commands.md. -/
def Fld.MB_EVT_DROP_COUNT : Field := ⟨.MB_EVT_DROP, 15, 0, .rc, 0x0⟩
/-! MB_CMD_COUNT: R404, Table 17-24 of spec/17_mailbox_and_ebryn_commands.md. -/
def Fld.MB_CMD_COUNT_COUNT : Field := ⟨.MB_CMD_COUNT, 31, 0, .ro, 0x0⟩
/-! MB_ENG_BELL: R404, Table 17-24 of spec/17_mailbox_and_ebryn_commands.md. -/
def Fld.MB_ENG_BELL_ADDR : Field := ⟨.MB_ENG_BELL, 13, 0, .wo, 0x0⟩
/-! EP_EPOCH_LO: R40, Table 02-9 of spec/02_coherent_view_and_books.md. -/
def Fld.EP_EPOCH_LO_EPOCH : Field := ⟨.EP_EPOCH_LO, 31, 0, .ro, 0x0⟩
/-! EP_EPOCH_HI: R40, Table 02-9 of spec/02_coherent_view_and_books.md. -/
def Fld.EP_EPOCH_HI_EPOCH : Field := ⟨.EP_EPOCH_HI, 31, 0, .ro, 0x0⟩
/-! EP_STATUS: R41, Table 02-10 of spec/02_coherent_view_and_books.md. -/
def Fld.EP_STATUS_BOOKS_FAULT : Field := ⟨.EP_STATUS, 7, 7, .ro, 0x0⟩
def Fld.EP_STATUS_RESUME_PENDING : Field := ⟨.EP_STATUS, 6, 6, .ro, 0x0⟩
def Fld.EP_STATUS_AUDIT_SUSPENDED : Field := ⟨.EP_STATUS, 5, 5, .ro, 0x0⟩
def Fld.EP_STATUS_FROZEN : Field := ⟨.EP_STATUS, 4, 4, .ro, 0x0⟩
def Fld.EP_STATUS_COMMIT_BUSY : Field := ⟨.EP_STATUS, 3, 3, .ro, 0x0⟩
def Fld.EP_STATUS_STAGED_PENDING : Field := ⟨.EP_STATUS, 2, 2, .ro, 0x0⟩
def Fld.EP_STATUS_CTM_ACTIVE : Field := ⟨.EP_STATUS, 1, 1, .ro, 0x0⟩
def Fld.EP_STATUS_DEBUG_FORCED : Field := ⟨.EP_STATUS, 0, 0, .ro, 0x0⟩
/-! EP_STAGED_COUNT: R42, Table 02-11 of spec/02_coherent_view_and_books.md. -/
def Fld.EP_STAGED_COUNT_COUNT : Field := ⟨.EP_STAGED_COUNT, 19, 0, .ro, 0x0⟩
/-! EP_PEEK_ADDR: R42, Table 02-11 of spec/02_coherent_view_and_books.md. -/
def Fld.EP_PEEK_ADDR_OFFSET : Field := ⟨.EP_PEEK_ADDR, 27, 2, .rw, 0x0⟩
/-! EP_PEEK_DATA: R42, Table 02-11 of spec/02_coherent_view_and_books.md. -/
def Fld.EP_PEEK_DATA_DATA : Field := ⟨.EP_PEEK_DATA, 31, 0, .ro, 0x0⟩
/-! EP_PEEK_STATUS: R42, Table 02-11 of spec/02_coherent_view_and_books.md. -/
def Fld.EP_PEEK_STATUS_VALID : Field := ⟨.EP_PEEK_STATUS, 1, 1, .ro, 0x0⟩
def Fld.EP_PEEK_STATUS_STAGED : Field := ⟨.EP_PEEK_STATUS, 0, 0, .ro, 0x0⟩
/-! EP_AUDIT_COUNT: R43, Table 02-12 of spec/02_coherent_view_and_books.md. -/
def Fld.EP_AUDIT_COUNT_COUNT : Field := ⟨.EP_AUDIT_COUNT, 31, 0, .ro, 0x0⟩
/-! EP_AUDIT_LAST: R43, Table 02-12 of spec/02_coherent_view_and_books.md. -/
def Fld.EP_AUDIT_LAST_TRIGGER : Field := ⟨.EP_AUDIT_LAST, 31, 30, .ro, 0x0⟩
def Fld.EP_AUDIT_LAST_DURATION : Field := ⟨.EP_AUDIT_LAST, 15, 0, .ro, 0x0⟩
/-! EP_FAULT_BOOK: R43, Table 02-12 of spec/02_coherent_view_and_books.md. -/
def Fld.EP_FAULT_BOOK_BOOK : Field := ⟨.EP_FAULT_BOOK, 31, 28, .ro, 0x0⟩
def Fld.EP_FAULT_BOOK_INDEX : Field := ⟨.EP_FAULT_BOOK, 15, 0, .ro, 0x0⟩
/-! EP_FAULT_DELTA: R43, Table 02-12 of spec/02_coherent_view_and_books.md. -/
def Fld.EP_FAULT_DELTA_DELTA : Field := ⟨.EP_FAULT_DELTA, 31, 0, .ro, 0x0⟩
/-! EP_ESC_COMMIT: R44, Table 02-13 of spec/02_coherent_view_and_books.md. -/
def Fld.EP_ESC_COMMIT_COUNT : Field := ⟨.EP_ESC_COMMIT, 21, 0, .ro, 0x0⟩
/-! EP_ESC_RESET: R44, Table 02-13 of spec/02_coherent_view_and_books.md. -/
def Fld.EP_ESC_RESET_CREDITS : Field := ⟨.EP_ESC_RESET, 31, 0, .ro, 0x0⟩
/-! EP_ESC_TOKENS: R44, Table 02-13 of spec/02_coherent_view_and_books.md. -/
def Fld.EP_ESC_TOKENS_COUNT : Field := ⟨.EP_ESC_TOKENS, 20, 0, .ro, 0x0⟩
/-! EP_ESC_LINK: R44, Table 02-13 of spec/02_coherent_view_and_books.md. -/
def Fld.EP_ESC_LINK_TX : Field := ⟨.EP_ESC_LINK, 31, 16, .ro, 0x0⟩
def Fld.EP_ESC_LINK_RX : Field := ⟨.EP_ESC_LINK, 15, 0, .ro, 0x0⟩
/-! LB_OWNER: R118, Table 05-10 of spec/05_loft_memory.md. -/
def Fld.LB_OWNER_HANDOVER : Field := ⟨.LB_OWNER, 31, 31, .ro, 0x0⟩
def Fld.LB_OWNER_KIND : Field := ⟨.LB_OWNER, 15, 12, .rw, 0x5⟩
def Fld.LB_OWNER_ID : Field := ⟨.LB_OWNER, 11, 0, .rw, 0x0⟩
/-! LB_NEXT_OWNER: R118, Table 05-10 of spec/05_loft_memory.md. -/
def Fld.LB_NEXT_OWNER_VALID : Field := ⟨.LB_NEXT_OWNER, 31, 31, .ro, 0x0⟩
def Fld.LB_NEXT_OWNER_WIPE : Field := ⟨.LB_NEXT_OWNER, 30, 30, .ro, 0x0⟩
def Fld.LB_NEXT_OWNER_KIND : Field := ⟨.LB_NEXT_OWNER, 15, 12, .ro, 0x0⟩
def Fld.LB_NEXT_OWNER_ID : Field := ⟨.LB_NEXT_OWNER, 11, 0, .ro, 0x0⟩
/-! LB_GUEST: R118, Table 05-10 of spec/05_loft_memory.md. -/
def Fld.LB_GUEST_VALID : Field := ⟨.LB_GUEST, 31, 31, .rw, 0x0⟩
def Fld.LB_GUEST_KIND : Field := ⟨.LB_GUEST, 15, 12, .rw, 0x0⟩
def Fld.LB_GUEST_ID : Field := ⟨.LB_GUEST, 11, 0, .rw, 0x0⟩
/-! LB_CTRL: R119, Table 05-11 of spec/05_loft_memory.md. -/
def Fld.LB_CTRL_AUTOWAKE : Field := ⟨.LB_CTRL, 2, 2, .rw, 0⟩
def Fld.LB_CTRL_WIPE_ON_HANDOVER : Field := ⟨.LB_CTRL, 1, 1, .rw, 0⟩
def Fld.LB_CTRL_REMOTE_OK : Field := ⟨.LB_CTRL, 0, 0, .rw, 0⟩
/-! LB_PWR: R119, Table 05-11 of spec/05_loft_memory.md. -/
def Fld.LB_PWR_CAUSE : Field := ⟨.LB_PWR, 9, 8, .ro, 0x0⟩
def Fld.LB_PWR_PSTATE : Field := ⟨.LB_PWR, 5, 4, .ro, 0x0⟩
def Fld.LB_PWR_RET_REQ : Field := ⟨.LB_PWR, 0, 0, .rw, 0x0⟩
/-! LB_STATUS: R119, Table 05-11 of spec/05_loft_memory.md. -/
def Fld.LB_STATUS_DUAL : Field := ⟨.LB_STATUS, 31, 31, .ro, 0⟩
def Fld.LB_STATUS_WIPE_BUSY : Field := ⟨.LB_STATUS, 7, 7, .ro, 0x0⟩
def Fld.LB_STATUS_WIPE_DONE : Field := ⟨.LB_STATUS, 6, 6, .w1c, 0x0⟩
def Fld.LB_STATUS_WR_REFUSED : Field := ⟨.LB_STATUS, 5, 5, .w1c, 0x0⟩
def Fld.LB_STATUS_FALLOW : Field := ⟨.LB_STATUS, 4, 4, .ro, 0x0⟩
/-! LB_WIPE: R119, Table 05-11 of spec/05_loft_memory.md. -/
def Fld.LB_WIPE_GO : Field := ⟨.LB_WIPE, 31, 31, .w1s, 0x0⟩
/-! LB_BUSY_COUNT: R120, Table 05-12 of spec/05_loft_memory.md. -/
def Fld.LB_BUSY_COUNT_COUNT : Field := ⟨.LB_BUSY_COUNT, 15, 0, .rc, 0x0⟩
/-! LB_DENY_COUNT: R120, Table 05-12 of spec/05_loft_memory.md. -/
def Fld.LB_DENY_COUNT_COUNT : Field := ⟨.LB_DENY_COUNT, 15, 0, .rc, 0x0⟩
/-! LB_HANDOVER_COUNT: R120, Table 05-12 of spec/05_loft_memory.md. -/
def Fld.LB_HANDOVER_COUNT_COUNT : Field := ⟨.LB_HANDOVER_COUNT, 31, 0, .ro, 0x0⟩
/-! LB_ARBCFG: R120, Table 05-12 of spec/05_loft_memory.md. -/
def Fld.LB_ARBCFG_SVC_WAIT : Field := ⟨.LB_ARBCFG, 3, 0, .rwe, 0x3⟩
/-! LB_FALLOW_MAP: R120, Table 05-12 of spec/05_loft_memory.md. -/
def Fld.LB_FALLOW_MAP_MAP : Field := ⟨.LB_FALLOW_MAP, 31, 0, .ro, 0x0⟩
/-! LB_RET_MAP: R120, Table 05-12 of spec/05_loft_memory.md. -/
def Fld.LB_RET_MAP_MAP : Field := ⟨.LB_RET_MAP, 31, 0, .ro, 0x0⟩
/-! ST_STATUS: R92, Table 04-7 of spec/04_stairs_and_vertical_routing.md. -/
def Fld.ST_STATUS_SPARES_USED : Field := ⟨.ST_STATUS, 27, 16, .ro, 0x0⟩
def Fld.ST_STATUS_VT_PARITY : Field := ⟨.ST_STATUS, 8, 8, .w1c, 0x0⟩
def Fld.ST_STATUS_VT_CONFLICT : Field := ⟨.ST_STATUS, 7, 7, .w1c, 0x0⟩
def Fld.ST_STATUS_REPAIR_BUSY : Field := ⟨.ST_STATUS, 6, 6, .ro, 0x0⟩
def Fld.ST_STATUS_STATE : Field := ⟨.ST_STATUS, 2, 0, .ro, 0x0⟩
/-! ST_NARROW: R92, Table 04-7 of spec/04_stairs_and_vertical_routing.md. -/
def Fld.ST_NARROW_ACTIVE : Field := ⟨.ST_NARROW, 31, 31, .ro, 0x0⟩
def Fld.ST_NARROW_SURVIVOR : Field := ⟨.ST_NARROW, 30, 30, .ro, 0x0⟩
def Fld.ST_NARROW_SEG : Field := ⟨.ST_NARROW, 14, 12, .ro, 0x0⟩
def Fld.ST_NARROW_GROUP : Field := ⟨.ST_NARROW, 8, 0, .ro, 0x0⟩
/-! ST_FAULT: R92, Table 04-7 of spec/04_stairs_and_vertical_routing.md. -/
def Fld.ST_FAULT_VALID : Field := ⟨.ST_FAULT, 31, 31, .ro, 0x0⟩
def Fld.ST_FAULT_KIND : Field := ⟨.ST_FAULT, 30, 28, .ro, 0x0⟩
def Fld.ST_FAULT_SEG : Field := ⟨.ST_FAULT, 22, 20, .ro, 0x0⟩
def Fld.ST_FAULT_GROUP : Field := ⟨.ST_FAULT, 13, 5, .ro, 0x0⟩
def Fld.ST_FAULT_POS : Field := ⟨.ST_FAULT, 4, 0, .ro, 0x0⟩
/-! ST_CORR_COUNT: R93, Table 04-8 of spec/04_stairs_and_vertical_routing.md. -/
def Fld.ST_CORR_COUNT_COUNT : Field := ⟨.ST_CORR_COUNT, 15, 0, .rc, 0x0⟩
/-! ST_REPAIR_COUNT: R93, Table 04-8 of spec/04_stairs_and_vertical_routing.md. -/
def Fld.ST_REPAIR_COUNT_COUNT : Field := ⟨.ST_REPAIR_COUNT, 15, 0, .ro, 0x0⟩
/-! ST_REMAP_IDX: R93, Table 04-8 of spec/04_stairs_and_vertical_routing.md. -/
def Fld.ST_REMAP_IDX_INDEX : Field := ⟨.ST_REMAP_IDX, 11, 0, .rw, 0x0⟩
/-! ST_REMAP_DATA: R93, Table 04-8 of spec/04_stairs_and_vertical_routing.md. -/
def Fld.ST_REMAP_DATA_VALID : Field := ⟨.ST_REMAP_DATA, 31, 31, .ro, 0x0⟩
def Fld.ST_REMAP_DATA_SEG : Field := ⟨.ST_REMAP_DATA, 22, 20, .ro, 0x0⟩
def Fld.ST_REMAP_DATA_GROUP : Field := ⟨.ST_REMAP_DATA, 13, 5, .ro, 0x0⟩
def Fld.ST_REMAP_DATA_POS : Field := ⟨.ST_REMAP_DATA, 4, 0, .ro, 0x0⟩
/-! ST_CFG: R94, Table 04-9 of spec/04_stairs_and_vertical_routing.md. -/
def Fld.ST_CFG_SUSPECT_LOG2WIN : Field := ⟨.ST_CFG, 11, 8, .rwe, 0x8⟩
def Fld.ST_CFG_SUSPECT_N : Field := ⟨.ST_CFG, 3, 0, .rwe, 0x3⟩
/-! ST_NARROW_MAP: R94, Table 04-9 of spec/04_stairs_and_vertical_routing.md. -/
def Fld.ST_NARROW_MAP_MAP : Field := ⟨.ST_NARROW_MAP, 31, 0, .ro, 0x0⟩
/-! RM_PLANE: R71, Table 03-12 of spec/03_rooms_and_planes.md. -/
def Fld.RM_PLANE_P3_STATE : Field := ⟨.RM_PLANE, 19, 18, .ro, 0x0⟩
def Fld.RM_PLANE_P2_STATE : Field := ⟨.RM_PLANE, 17, 16, .ro, 0x0⟩
def Fld.RM_PLANE_P1_STATE : Field := ⟨.RM_PLANE, 15, 14, .ro, 0x0⟩
def Fld.RM_PLANE_P0_STATE : Field := ⟨.RM_PLANE, 13, 12, .ro, 0x0⟩
def Fld.RM_PLANE_NONE : Field := ⟨.RM_PLANE, 8, 8, .ro, 0x1⟩
def Fld.RM_PLANE_PEND_VALID : Field := ⟨.RM_PLANE, 4, 4, .ro, 0x0⟩
def Fld.RM_PLANE_PENDING : Field := ⟨.RM_PLANE, 3, 2, .ro, 0x0⟩
def Fld.RM_PLANE_ACTIVE : Field := ⟨.RM_PLANE, 1, 0, .ro, 0x0⟩
/-! RM_SWITCH: R71, Table 03-12 of spec/03_rooms_and_planes.md. -/
def Fld.RM_SWITCH_TARGET : Field := ⟨.RM_SWITCH, 1, 0, .wo, 0x0⟩
/-! RM_STATUS: R72, Table 03-13 of spec/03_rooms_and_planes.md. -/
def Fld.RM_STATUS_NARROW : Field := ⟨.RM_STATUS, 7, 7, .ro, 0x0⟩
def Fld.RM_STATUS_PARK_SHED : Field := ⟨.RM_STATUS, 6, 6, .ro, 0x0⟩
def Fld.RM_STATUS_LINK_LOST : Field := ⟨.RM_STATUS, 5, 5, .w1c, 0x0⟩
def Fld.RM_STATUS_SW_REFUSED : Field := ⟨.RM_STATUS, 4, 4, .w1c, 0x0⟩
def Fld.RM_STATUS_STATE : Field := ⟨.RM_STATUS, 3, 0, .ro, 0x4⟩
/-! RM_EFF_DIV: R72, Table 03-13 of spec/03_rooms_and_planes.md. -/
def Fld.RM_EFF_DIV_THERM_DIV : Field := ⟨.RM_EFF_DIV, 26, 16, .ro, 0x0⟩
def Fld.RM_EFF_DIV_DIV : Field := ⟨.RM_EFF_DIV, 10, 0, .ro, 0x0⟩
/-! RM_LOAD_CTRL: R73, Table 03-14 of spec/03_rooms_and_planes.md. -/
def Fld.RM_LOAD_CTRL_GO : Field := ⟨.RM_LOAD_CTRL, 31, 31, .w1s, 0x0⟩
def Fld.RM_LOAD_CTRL_SAVE_VICTIM : Field := ⟨.RM_LOAD_CTRL, 30, 30, .rw, 0x0⟩
def Fld.RM_LOAD_CTRL_OP : Field := ⟨.RM_LOAD_CTRL, 29, 28, .rw, 0x0⟩
def Fld.RM_LOAD_CTRL_PLANE : Field := ⟨.RM_LOAD_CTRL, 27, 26, .rw, 0x0⟩
def Fld.RM_LOAD_CTRL_LOFT : Field := ⟨.RM_LOAD_CTRL, 25, 24, .rw, 0x0⟩
def Fld.RM_LOAD_CTRL_ROW : Field := ⟨.RM_LOAD_CTRL, 12, 0, .rw, 0x0⟩
/-! RM_LOAD_STATUS: R73, Table 03-14 of spec/03_rooms_and_planes.md. -/
def Fld.RM_LOAD_STATUS_BUSY : Field := ⟨.RM_LOAD_STATUS, 31, 31, .ro, 0x0⟩
def Fld.RM_LOAD_STATUS_DONE : Field := ⟨.RM_LOAD_STATUS, 30, 30, .w1c, 0x0⟩
def Fld.RM_LOAD_STATUS_PLANE : Field := ⟨.RM_LOAD_STATUS, 27, 26, .ro, 0x0⟩
def Fld.RM_LOAD_STATUS_ERR : Field := ⟨.RM_LOAD_STATUS, 23, 20, .ro, 0x0⟩
def Fld.RM_LOAD_STATUS_ROWS : Field := ⟨.RM_LOAD_STATUS, 12, 0, .ro, 0x0⟩
/-! RM_LOADCFG: R73, Table 03-14 of spec/03_rooms_and_planes.md. -/
def Fld.RM_LOADCFG_DRAIN_US : Field := ⟨.RM_LOADCFG, 13, 8, .rwe, 0xa⟩
def Fld.RM_LOADCFG_SHARE : Field := ⟨.RM_LOADCFG, 2, 0, .rwe, 0x1⟩
/-! RM_PLANE_CFG: R74, Table 03-15 of spec/03_rooms_and_planes.md. -/
def Fld.RM_PLANE_CFG_SAVE_ON_EVICT : Field := ⟨.RM_PLANE_CFG, 16, 16, .rwe, 0⟩
def Fld.RM_PLANE_CFG_DIV : Field := ⟨.RM_PLANE_CFG, 10, 0, .rwe, 0⟩
/-! RM_PSRC: R74, Table 03-15 of spec/03_rooms_and_planes.md. -/
def Fld.RM_PSRC_VALID : Field := ⟨.RM_PSRC, 31, 31, .ro, 0x0⟩
def Fld.RM_PSRC_LOFT : Field := ⟨.RM_PSRC, 25, 24, .ro, 0x0⟩
def Fld.RM_PSRC_ROW : Field := ⟨.RM_PSRC, 12, 0, .ro, 0x0⟩
/-! RM_IMAGE_ID_LO: R74, Table 03-15 of spec/03_rooms_and_planes.md. -/
def Fld.RM_IMAGE_ID_LO_ID : Field := ⟨.RM_IMAGE_ID_LO, 31, 0, .ro, 0x0⟩
/-! RM_IMAGE_ID_HI: R74, Table 03-15 of spec/03_rooms_and_planes.md. -/
def Fld.RM_IMAGE_ID_HI_ID : Field := ⟨.RM_IMAGE_ID_HI, 31, 0, .ro, 0x0⟩
/-! RM_SWITCH_COUNT: R74, Table 03-15 of spec/03_rooms_and_planes.md. -/
def Fld.RM_SWITCH_COUNT_COUNT : Field := ⟨.RM_SWITCH_COUNT, 31, 0, .ro, 0x0⟩
/-! RM_LOAD_COUNT: R74, Table 03-15 of spec/03_rooms_and_planes.md. -/
def Fld.RM_LOAD_COUNT_COUNT : Field := ⟨.RM_LOAD_COUNT, 31, 0, .ro, 0x0⟩
/-! RM_DROP_COUNT: R74, Table 03-15 of spec/03_rooms_and_planes.md. -/
def Fld.RM_DROP_COUNT_COUNT : Field := ⟨.RM_DROP_COUNT, 15, 0, .rc, 0x0⟩
/-! RM_POISON_COUNT: R74, Table 03-15 of spec/03_rooms_and_planes.md. -/
def Fld.RM_POISON_COUNT_COUNT : Field := ⟨.RM_POISON_COUNT, 15, 0, .rc, 0x0⟩
/-! SC_STATUS: R199, Table 08-10 of spec/08_task_scheduler.md. -/
def Fld.SC_STATUS_CAUSE : Field := ⟨.SC_STATUS, 11, 8, .ro, 0x0⟩
def Fld.SC_STATUS_DRAINING : Field := ⟨.SC_STATUS, 5, 5, .ro, 0x0⟩
def Fld.SC_STATUS_ENG_SHED : Field := ⟨.SC_STATUS, 4, 4, .ro, 0x0⟩
def Fld.SC_STATUS_REFUSED : Field := ⟨.SC_STATUS, 3, 3, .w1c, 0x0⟩
def Fld.SC_STATUS_LOAD_FAIL : Field := ⟨.SC_STATUS, 2, 2, .w1c, 0x0⟩
def Fld.SC_STATUS_BAD_DONE : Field := ⟨.SC_STATUS, 1, 1, .w1c, 0x0⟩
def Fld.SC_STATUS_RUNNING : Field := ⟨.SC_STATUS, 0, 0, .ro, 0x0⟩
/-! SC_CFG: R199, Table 08-10 of spec/08_task_scheduler.md. -/
def Fld.SC_CFG_ENABLE : Field := ⟨.SC_CFG, 31, 31, .rwe, 0⟩
def Fld.SC_CFG_PREEMPT : Field := ⟨.SC_CFG, 30, 30, .rwe, 0⟩
def Fld.SC_CFG_DECAY_LOG2 : Field := ⟨.SC_CFG, 3, 0, .rwe, 0xa⟩
/-! SC_SIZE: R199, Table 08-10 of spec/08_task_scheduler.md. -/
def Fld.SC_SIZE_FLOW_LOG2 : Field := ⟨.SC_SIZE, 20, 16, .rwe, 0⟩
def Fld.SC_SIZE_MATCH_LOG2 : Field := ⟨.SC_SIZE, 12, 8, .rwe, 0⟩
def Fld.SC_SIZE_MEADOW_LOG2 : Field := ⟨.SC_SIZE, 4, 0, .rwe, 0⟩
/-! SC_RES: R199, Table 08-10 of spec/08_task_scheduler.md. -/
def Fld.SC_RES_COUNT : Field := ⟨.SC_RES, 20, 16, .ro, 0x0⟩
def Fld.SC_RES_FIRST : Field := ⟨.SC_RES, 8, 0, .rwe, 0⟩
/-! SC_TICK_CFG: R199, Table 08-10 of spec/08_task_scheduler.md. -/
def Fld.SC_TICK_CFG_PERIOD : Field := ⟨.SC_TICK_CFG, 22, 0, .rwe, 0x320⟩
/-! SC_TICK_LO: R199, Table 08-10 of spec/08_task_scheduler.md. -/
def Fld.SC_TICK_LO_TICK : Field := ⟨.SC_TICK_LO, 31, 0, .ro, 0x0⟩
/-! SC_TICK_HI: R199, Table 08-10 of spec/08_task_scheduler.md. -/
def Fld.SC_TICK_HI_TICK : Field := ⟨.SC_TICK_HI, 31, 0, .ro, 0x0⟩
/-! SC_RATE: R199, Table 08-10 of spec/08_task_scheduler.md. -/
def Fld.SC_RATE_THERM_CAP : Field := ⟨.SC_RATE, 10, 0, .ro, 0x0⟩
/-! SC_MEADOW: R200, Table 08-11 of spec/08_task_scheduler.md. -/
def Fld.SC_MEADOW_COUNT : Field := ⟨.SC_MEADOW, 21, 0, .ro, 0x0⟩
/-! SC_TOK_ISSUED_LO: R200, Table 08-11 of spec/08_task_scheduler.md. -/
def Fld.SC_TOK_ISSUED_LO_COUNT : Field := ⟨.SC_TOK_ISSUED_LO, 31, 0, .ro, 0x0⟩
/-! SC_TOK_ISSUED_HI: R200, Table 08-11 of spec/08_task_scheduler.md. -/
def Fld.SC_TOK_ISSUED_HI_COUNT : Field := ⟨.SC_TOK_ISSUED_HI, 31, 0, .ro, 0x0⟩
/-! SC_TOK_MATCHED_LO: R200, Table 08-11 of spec/08_task_scheduler.md. -/
def Fld.SC_TOK_MATCHED_LO_COUNT : Field := ⟨.SC_TOK_MATCHED_LO, 31, 0, .ro, 0x0⟩
/-! SC_TOK_MATCHED_HI: R200, Table 08-11 of spec/08_task_scheduler.md. -/
def Fld.SC_TOK_MATCHED_HI_COUNT : Field := ⟨.SC_TOK_MATCHED_HI, 31, 0, .ro, 0x0⟩
/-! SC_TOK_HELD: R200, Table 08-11 of spec/08_task_scheduler.md. -/
def Fld.SC_TOK_HELD_COUNT : Field := ⟨.SC_TOK_HELD, 23, 0, .ro, 0x0⟩
/-! SC_TOK_FLIGHT: R200, Table 08-11 of spec/08_task_scheduler.md. -/
def Fld.SC_TOK_FLIGHT_COUNT : Field := ⟨.SC_TOK_FLIGHT, 31, 0, .ro, 0x0⟩
/-! SC_MATCH_USED: R200, Table 08-11 of spec/08_task_scheduler.md. -/
def Fld.SC_MATCH_USED_COUNT : Field := ⟨.SC_MATCH_USED, 20, 0, .ro, 0x0⟩
/-! SC_DISPATCH_COUNT: R200, Table 08-11 of spec/08_task_scheduler.md. -/
def Fld.SC_DISPATCH_COUNT_COUNT : Field := ⟨.SC_DISPATCH_COUNT, 31, 0, .ro, 0x0⟩
/-! SC_REFUSE_COUNT: R200, Table 08-11 of spec/08_task_scheduler.md. -/
def Fld.SC_REFUSE_COUNT_COUNT : Field := ⟨.SC_REFUSE_COUNT, 15, 0, .rc, 0x0⟩
/-! SC_BAD_DONE_COUNT: R200, Table 08-11 of spec/08_task_scheduler.md. -/
def Fld.SC_BAD_DONE_COUNT_COUNT : Field := ⟨.SC_BAD_DONE_COUNT, 15, 0, .rc, 0x0⟩
/-! SC_LOAD_FAIL_COUNT: R200, Table 08-11 of spec/08_task_scheduler.md. -/
def Fld.SC_LOAD_FAIL_COUNT_COUNT : Field := ⟨.SC_LOAD_FAIL_COUNT, 15, 0, .rc, 0x0⟩
/-! SC_EVICT_COUNT: R200, Table 08-11 of spec/08_task_scheduler.md. -/
def Fld.SC_EVICT_COUNT_COUNT : Field := ⟨.SC_EVICT_COUNT, 15, 0, .rc, 0x0⟩
/-! SC_TPL_IDX: R201, Table 08-12 of spec/08_task_scheduler.md. -/
def Fld.SC_TPL_IDX_INDEX : Field := ⟨.SC_TPL_IDX, 11, 0, .rw, 0x0⟩
/-! SC_TPL_DATA_0: R201, Table 08-12 of spec/08_task_scheduler.md. -/
def Fld.SC_TPL_DATA_0_VALID : Field := ⟨.SC_TPL_DATA_0, 31, 31, .rwe, 0⟩
def Fld.SC_TPL_DATA_0_KIND : Field := ⟨.SC_TPL_DATA_0, 30, 30, .rwe, 0⟩
def Fld.SC_TPL_DATA_0_NOPS : Field := ⟨.SC_TPL_DATA_0, 29, 26, .rwe, 0⟩
def Fld.SC_TPL_DATA_0_LIST : Field := ⟨.SC_TPL_DATA_0, 25, 22, .rwe, 0⟩
def Fld.SC_TPL_DATA_0_FLOW_BASE : Field := ⟨.SC_TPL_DATA_0, 21, 0, .rwe, 0⟩
/-! SC_TPL_DATA_1: R201, Table 08-12 of spec/08_task_scheduler.md. -/
def Fld.SC_TPL_DATA_1_FLOW_LOG2 : Field := ⟨.SC_TPL_DATA_1, 31, 27, .rwe, 0⟩
def Fld.SC_TPL_DATA_1_TARGET : Field := ⟨.SC_TPL_DATA_1, 12, 0, .rwe, 0⟩
/-! SC_TPL_DATA_2: R201, Table 08-12 of spec/08_task_scheduler.md. -/
def Fld.SC_TPL_DATA_2_CLUSTERS : Field := ⟨.SC_TPL_DATA_2, 31, 16, .rwe, 0⟩
/-! SC_TPL_DATA_3: R201, Table 08-12 of spec/08_task_scheduler.md. -/
def Fld.SC_TPL_DATA_3_DELAY : Field := ⟨.SC_TPL_DATA_3, 31, 0, .rwe, 0⟩
/-! SC_IMG_IDX: R201, Table 08-12 of spec/08_task_scheduler.md. -/
def Fld.SC_IMG_IDX_INDEX : Field := ⟨.SC_IMG_IDX, 9, 0, .rw, 0x0⟩
/-! SC_IMG_ID_LO: R201, Table 08-12 of spec/08_task_scheduler.md. -/
def Fld.SC_IMG_ID_LO_ID : Field := ⟨.SC_IMG_ID_LO, 31, 0, .rwe, 0⟩
/-! SC_IMG_ID_HI: R201, Table 08-12 of spec/08_task_scheduler.md. -/
def Fld.SC_IMG_ID_HI_ID : Field := ⟨.SC_IMG_ID_HI, 31, 0, .rwe, 0⟩
/-! SC_LOC_IDX: R201, Table 08-12 of spec/08_task_scheduler.md. -/
def Fld.SC_LOC_IDX_INDEX : Field := ⟨.SC_LOC_IDX, 11, 0, .rw, 0x0⟩
/-! SC_LOC_CTRL: R201, Table 08-12 of spec/08_task_scheduler.md. -/
def Fld.SC_LOC_CTRL_VALID : Field := ⟨.SC_LOC_CTRL, 31, 31, .rwe, 0⟩
def Fld.SC_LOC_CTRL_BAD : Field := ⟨.SC_LOC_CTRL, 30, 30, .ro, 0x0⟩
/-! SC_LOC_DATA: R201, Table 08-12 of spec/08_task_scheduler.md. -/
def Fld.SC_LOC_DATA_IMAGE : Field := ⟨.SC_LOC_DATA, 31, 22, .rwe, 0⟩
def Fld.SC_LOC_DATA_ROOM : Field := ⟨.SC_LOC_DATA, 21, 15, .rwe, 0⟩
def Fld.SC_LOC_DATA_LOFT : Field := ⟨.SC_LOC_DATA, 14, 13, .rwe, 0⟩
def Fld.SC_LOC_DATA_ROW : Field := ⟨.SC_LOC_DATA, 12, 0, .rwe, 0⟩
/-! SC_GRP_IDX: R201, Table 08-12 of spec/08_task_scheduler.md. -/
def Fld.SC_GRP_IDX_INDEX : Field := ⟨.SC_GRP_IDX, 15, 0, .rw, 0x0⟩
/-! SC_GRP_STATE: R201, Table 08-12 of spec/08_task_scheduler.md. -/
def Fld.SC_GRP_STATE_WINDOW : Field := ⟨.SC_GRP_STATE, 15, 0, .ro, 0x0⟩
/-! SC_GRP_OUT: R201, Table 08-12 of spec/08_task_scheduler.md. -/
def Fld.SC_GRP_OUT_OUTSTANDING : Field := ⟨.SC_GRP_OUT, 16, 0, .ro, 0x0⟩
/-! SC_USE_IDX: R201, Table 08-12 of spec/08_task_scheduler.md. -/
def Fld.SC_USE_IDX_SLOT : Field := ⟨.SC_USE_IDX, 8, 0, .rw, 0x0⟩
/-! SC_USE: R201, Table 08-12 of spec/08_task_scheduler.md. -/
def Fld.SC_USE_COUNT : Field := ⟨.SC_USE, 15, 0, .ro, 0x0⟩
/-! SC_WMAP: R201, Table 08-12 of spec/08_task_scheduler.md. -/
def Fld.SC_WMAP_MAP : Field := ⟨.SC_WMAP, 31, 0, .rwe, 0⟩
/-! SC_EMAP: R201, Table 08-12 of spec/08_task_scheduler.md. -/
def Fld.SC_EMAP_MAP : Field := ⟨.SC_EMAP, 31, 0, .rwe, 0⟩
/-! DE_STATE: R221, Table 09-8 of spec/09_dsp_engines.md. -/
def Fld.DE_STATE_TAGS : Field := ⟨.DE_STATE, 15, 8, .ro, 0x0⟩
def Fld.DE_STATE_THROTTLED : Field := ⟨.DE_STATE, 7, 7, .ro, 0x0⟩
def Fld.DE_STATE_REP : Field := ⟨.DE_STATE, 6, 6, .ro, 0x0⟩
def Fld.DE_STATE_TASK_VALID : Field := ⟨.DE_STATE, 5, 5, .ro, 0x0⟩
def Fld.DE_STATE_STATE : Field := ⟨.DE_STATE, 3, 0, .ro, 0x0⟩
/-! DE_CTRL: R221, Table 09-8 of spec/09_dsp_engines.md. -/
def Fld.DE_CTRL_HALT : Field := ⟨.DE_CTRL, 31, 31, .rw, 0x0⟩
def Fld.DE_CTRL_STEP : Field := ⟨.DE_CTRL, 30, 30, .w1s, 0x0⟩
/-! DE_MODE: R221, Table 09-8 of spec/09_dsp_engines.md. -/
def Fld.DE_MODE_SAT : Field := ⟨.DE_MODE, 0, 0, .rw, 0x0⟩
/-! DE_FLAGS: R221, Table 09-8 of spec/09_dsp_engines.md. -/
def Fld.DE_FLAGS_STICKY : Field := ⟨.DE_FLAGS, 3, 3, .w1c, 0x0⟩
def Fld.DE_FLAGS_N : Field := ⟨.DE_FLAGS, 2, 2, .ro, 0x0⟩
def Fld.DE_FLAGS_Z : Field := ⟨.DE_FLAGS, 1, 1, .ro, 0x0⟩
def Fld.DE_FLAGS_V : Field := ⟨.DE_FLAGS, 0, 0, .ro, 0x0⟩
/-! DE_PC: R221, Table 09-8 of spec/09_dsp_engines.md. -/
def Fld.DE_PC_PC : Field := ⟨.DE_PC, 12, 0, .ro, 0x0⟩
/-! DE_TASK: R221, Table 09-8 of spec/09_dsp_engines.md. -/
def Fld.DE_TASK_VALID : Field := ⟨.DE_TASK, 31, 31, .ro, 0x0⟩
def Fld.DE_TASK_INDEX : Field := ⟨.DE_TASK, 20, 0, .ro, 0x0⟩
/-! DE_EXC: R222, Table 09-9 of spec/09_dsp_engines.md. -/
def Fld.DE_EXC_VALID : Field := ⟨.DE_EXC, 31, 31, .ro, 0x0⟩
def Fld.DE_EXC_CAUSE : Field := ⟨.DE_EXC, 19, 16, .ro, 0x0⟩
def Fld.DE_EXC_PC : Field := ⟨.DE_EXC, 12, 0, .ro, 0x0⟩
/-! DE_EXC_ADDR: R222, Table 09-9 of spec/09_dsp_engines.md. -/
def Fld.DE_EXC_ADDR_SPACE : Field := ⟨.DE_EXC_ADDR, 17, 16, .ro, 0x0⟩
def Fld.DE_EXC_ADDR_WORD : Field := ⟨.DE_EXC_ADDR, 13, 0, .ro, 0x0⟩
/-! DE_FAULT_TAG_LO: R222, Table 09-9 of spec/09_dsp_engines.md. -/
def Fld.DE_FAULT_TAG_LO_TAG : Field := ⟨.DE_FAULT_TAG_LO, 31, 0, .rwe, 0⟩
/-! DE_FAULT_TAG_HI: R222, Table 09-9 of spec/09_dsp_engines.md. -/
def Fld.DE_FAULT_TAG_HI_TAG : Field := ⟨.DE_FAULT_TAG_HI, 31, 0, .rwe, 0⟩
/-! DE_REP: R222, Table 09-9 of spec/09_dsp_engines.md. -/
def Fld.DE_REP_REMAINING : Field := ⟨.DE_REP, 16, 0, .ro, 0x0⟩
/-! DE_CFG: R222, Table 09-9 of spec/09_dsp_engines.md. -/
def Fld.DE_CFG_EXC_ACTION : Field := ⟨.DE_CFG, 2, 1, .rwe, 0⟩
def Fld.DE_CFG_REMOTE_OK : Field := ⟨.DE_CFG, 0, 0, .rwe, 0⟩
/-! DE_CYCLES_LO: R223, Table 09-10 of spec/09_dsp_engines.md. -/
def Fld.DE_CYCLES_LO_COUNT : Field := ⟨.DE_CYCLES_LO, 31, 0, .ro, 0x0⟩
/-! DE_CYCLES_HI: R223, Table 09-10 of spec/09_dsp_engines.md. -/
def Fld.DE_CYCLES_HI_COUNT : Field := ⟨.DE_CYCLES_HI, 31, 0, .ro, 0x0⟩
/-! DE_STALL_COUNT: R223, Table 09-10 of spec/09_dsp_engines.md. -/
def Fld.DE_STALL_COUNT_COUNT : Field := ⟨.DE_STALL_COUNT, 15, 0, .rc, 0x0⟩
/-! DE_EXC_COUNT: R223, Table 09-10 of spec/09_dsp_engines.md. -/
def Fld.DE_EXC_COUNT_COUNT : Field := ⟨.DE_EXC_COUNT, 15, 0, .rc, 0x0⟩
/-! DE_RF_IDX: R223, Table 09-10 of spec/09_dsp_engines.md. -/
def Fld.DE_RF_IDX_REG : Field := ⟨.DE_RF_IDX, 5, 0, .rw, 0x0⟩
/-! DE_RF_DATA: R223, Table 09-10 of spec/09_dsp_engines.md. -/
def Fld.DE_RF_DATA_DATA : Field := ⟨.DE_RF_DATA, 31, 1, .rw, 0x0⟩
def Fld.DE_RF_DATA_DATA0 : Field := ⟨.DE_RF_DATA, 0, 0, .rw, 0x0⟩
/-! DP_STATUS: R257, Table 11-8 of spec/11_die_to_die_ports.md. -/
def Fld.DP_STATUS_RATE : Field := ⟨.DP_STATUS, 23, 20, .ro, 0x0⟩
def Fld.DP_STATUS_LINK_LOST : Field := ⟨.DP_STATUS, 11, 11, .w1c, 0x0⟩
def Fld.DP_STATUS_TRAIN_FAIL : Field := ⟨.DP_STATUS, 10, 10, .w1c, 0x0⟩
def Fld.DP_STATUS_PEER_INIT : Field := ⟨.DP_STATUS, 9, 9, .ro, 0x0⟩
def Fld.DP_STATUS_ENC : Field := ⟨.DP_STATUS, 8, 8, .ro, 0x0⟩
def Fld.DP_STATUS_STATE : Field := ⟨.DP_STATUS, 3, 0, .ro, 0x0⟩
/-! DP_CTRL: R257, Table 11-8 of spec/11_die_to_die_ports.md. -/
def Fld.DP_CTRL_RETRAIN : Field := ⟨.DP_CTRL, 31, 31, .w1s, 0x0⟩
def Fld.DP_CTRL_HOLD_DOWN : Field := ⟨.DP_CTRL, 30, 30, .rw, 0x0⟩
/-! DP_CFG: R257, Table 11-8 of spec/11_die_to_die_ports.md. -/
def Fld.DP_CFG_ENABLE : Field := ⟨.DP_CFG, 31, 31, .rwe, 0⟩
def Fld.DP_CFG_MAX_RATE : Field := ⟨.DP_CFG, 26, 24, .rwe, 0⟩
def Fld.DP_CFG_TRAIN_TRIES : Field := ⟨.DP_CFG, 15, 12, .rwe, 0x4⟩
def Fld.DP_CFG_L1_IDLE : Field := ⟨.DP_CFG, 7, 0, .rwe, 0⟩
/-! DP_RXCFG: R257, Table 11-8 of spec/11_die_to_die_ports.md. -/
def Fld.DP_RXCFG_MGMT : Field := ⟨.DP_RXCFG, 31, 24, .rwe, 0x10⟩
def Fld.DP_RXCFG_SCHED : Field := ⟨.DP_RXCFG, 23, 16, .rwe, 0x20⟩
def Fld.DP_RXCFG_RSP : Field := ⟨.DP_RXCFG, 15, 8, .rwe, 0x40⟩
def Fld.DP_RXCFG_REQ : Field := ⟨.DP_RXCFG, 7, 0, .rwe, 0x40⟩
/-! DP_PEER: R258, Table 11-9 of spec/11_die_to_die_ports.md. -/
def Fld.DP_PEER_VALID : Field := ⟨.DP_PEER, 31, 31, .ro, 0x0⟩
def Fld.DP_PEER_ENC_CAP : Field := ⟨.DP_PEER, 30, 30, .ro, 0x0⟩
def Fld.DP_PEER_NODE_VALID : Field := ⟨.DP_PEER, 25, 25, .ro, 0x0⟩
def Fld.DP_PEER_REV : Field := ⟨.DP_PEER, 15, 10, .ro, 0x0⟩
def Fld.DP_PEER_NODE : Field := ⟨.DP_PEER, 9, 0, .ro, 0x0⟩
/-! DP_PEER_UID_LO: R258, Table 11-9 of spec/11_die_to_die_ports.md. -/
def Fld.DP_PEER_UID_LO_UID : Field := ⟨.DP_PEER_UID_LO, 31, 0, .ro, 0x0⟩
/-! DP_PEER_UID_HI: R258, Table 11-9 of spec/11_die_to_die_ports.md. -/
def Fld.DP_PEER_UID_HI_UID : Field := ⟨.DP_PEER_UID_HI, 15, 0, .ro, 0x0⟩
/-! DP_REPAIR: R258, Table 11-9 of spec/11_die_to_die_ports.md. -/
def Fld.DP_REPAIR_RX_USED : Field := ⟨.DP_REPAIR, 7, 4, .ro, 0x0⟩
def Fld.DP_REPAIR_TX_USED : Field := ⟨.DP_REPAIR, 3, 0, .ro, 0x0⟩
/-! DP_TRAIN_COUNT: R258, Table 11-9 of spec/11_die_to_die_ports.md. -/
def Fld.DP_TRAIN_COUNT_RETRAINS : Field := ⟨.DP_TRAIN_COUNT, 31, 16, .ro, 0x0⟩
def Fld.DP_TRAIN_COUNT_FAILS : Field := ⟨.DP_TRAIN_COUNT, 15, 0, .ro, 0x0⟩
/-! DP_RETRY_COUNT: R258, Table 11-9 of spec/11_die_to_die_ports.md. -/
def Fld.DP_RETRY_COUNT_COUNT : Field := ⟨.DP_RETRY_COUNT, 31, 0, .rc, 0x0⟩
/-! DP_TXBOOK: R258, Table 11-9 of spec/11_die_to_die_ports.md. -/
def Fld.DP_TXBOOK_ADVERTISED : Field := ⟨.DP_TXBOOK, 31, 24, .ro, 0x0⟩
def Fld.DP_TXBOOK_CREDITS : Field := ⟨.DP_TXBOOK, 23, 16, .ro, 0x0⟩
def Fld.DP_TXBOOK_OUTSTANDING : Field := ⟨.DP_TXBOOK, 15, 8, .ro, 0x0⟩
/-! DP_RXBOOK: R258, Table 11-9 of spec/11_die_to_die_ports.md. -/
def Fld.DP_RXBOOK_DEPTH : Field := ⟨.DP_RXBOOK, 31, 24, .ro, 0x0⟩
def Fld.DP_RXBOOK_OCCUPIED : Field := ⟨.DP_RXBOOK, 23, 16, .ro, 0x0⟩
def Fld.DP_RXBOOK_RELEASED : Field := ⟨.DP_RXBOOK, 15, 8, .ro, 0x0⟩
def Fld.DP_RXBOOK_HELD_FAR : Field := ⟨.DP_RXBOOK, 7, 0, .ro, 0x0⟩
/-! SL_STATUS: R283, Table 12-10 of spec/12_stack_link_lanes.md. -/
def Fld.SL_STATUS_RATE : Field := ⟨.SL_STATUS, 25, 24, .ro, 0x0⟩
def Fld.SL_STATUS_TXSTATE : Field := ⟨.SL_STATUS, 21, 20, .ro, 0x3⟩
def Fld.SL_STATUS_RXSTATE : Field := ⟨.SL_STATUS, 17, 16, .ro, 0x3⟩
def Fld.SL_STATUS_RAW : Field := ⟨.SL_STATUS, 12, 12, .ro, 0x0⟩
def Fld.SL_STATUS_LINK_LOST : Field := ⟨.SL_STATUS, 11, 11, .w1c, 0x0⟩
def Fld.SL_STATUS_TRAIN_FAIL : Field := ⟨.SL_STATUS, 10, 10, .w1c, 0x0⟩
def Fld.SL_STATUS_PEER_INIT : Field := ⟨.SL_STATUS, 9, 9, .ro, 0x0⟩
def Fld.SL_STATUS_ENC : Field := ⟨.SL_STATUS, 8, 8, .ro, 0x0⟩
def Fld.SL_STATUS_STATE : Field := ⟨.SL_STATUS, 3, 0, .ro, 0x0⟩
/-! SL_CTRL: R283, Table 12-10 of spec/12_stack_link_lanes.md. -/
def Fld.SL_CTRL_RETRAIN : Field := ⟨.SL_CTRL, 31, 31, .w1s, 0x0⟩
def Fld.SL_CTRL_HOLD_DOWN : Field := ⟨.SL_CTRL, 30, 30, .rw, 0x0⟩
def Fld.SL_CTRL_SLIP : Field := ⟨.SL_CTRL, 29, 29, .w1s, 0x0⟩
def Fld.SL_CTRL_LANE : Field := ⟨.SL_CTRL, 25, 24, .rw, 0x0⟩
/-! SL_CFG: R283, Table 12-10 of spec/12_stack_link_lanes.md. -/
def Fld.SL_CFG_ENABLE : Field := ⟨.SL_CFG, 31, 31, .rwe, 0⟩
def Fld.SL_CFG_RAW : Field := ⟨.SL_CFG, 30, 30, .rwe, 0⟩
def Fld.SL_CFG_MANUAL_ALIGN : Field := ⟨.SL_CFG, 29, 29, .rwe, 0x0⟩
def Fld.SL_CFG_FFE_TUNE : Field := ⟨.SL_CFG, 28, 28, .rwe, 0⟩
def Fld.SL_CFG_RATE : Field := ⟨.SL_CFG, 25, 24, .rwe, 0⟩
def Fld.SL_CFG_TRAIN_TRIES : Field := ⟨.SL_CFG, 15, 12, .rwe, 0x4⟩
/-! SL_RXCFG: R283, Table 12-10 of spec/12_stack_link_lanes.md. -/
def Fld.SL_RXCFG_MGMT : Field := ⟨.SL_RXCFG, 31, 24, .rwe, 0x10⟩
def Fld.SL_RXCFG_SCHED : Field := ⟨.SL_RXCFG, 23, 16, .rwe, 0x40⟩
def Fld.SL_RXCFG_RSP : Field := ⟨.SL_RXCFG, 15, 8, .rwe, 0x80⟩
def Fld.SL_RXCFG_REQ : Field := ⟨.SL_RXCFG, 7, 0, .rwe, 0x80⟩
/-! SL_PWR: R283, Table 12-10 of spec/12_stack_link_lanes.md. -/
def Fld.SL_PWR_TX_HOLD : Field := ⟨.SL_PWR, 31, 30, .rw, 0x0⟩
def Fld.SL_PWR_RX_HOLD : Field := ⟨.SL_PWR, 29, 28, .rw, 0x0⟩
def Fld.SL_PWR_SLEEP_US : Field := ⟨.SL_PWR, 23, 16, .rwe, 0⟩
def Fld.SL_PWR_IDLE_NS : Field := ⟨.SL_PWR, 9, 0, .rwe, 0⟩
/-! SL_PEER: R284, Table 12-11 of spec/12_stack_link_lanes.md. -/
def Fld.SL_PEER_VALID : Field := ⟨.SL_PEER, 31, 31, .ro, 0x0⟩
def Fld.SL_PEER_ENC_CAP : Field := ⟨.SL_PEER, 30, 30, .ro, 0x0⟩
def Fld.SL_PEER_NODE_VALID : Field := ⟨.SL_PEER, 25, 25, .ro, 0x0⟩
def Fld.SL_PEER_REV : Field := ⟨.SL_PEER, 15, 10, .ro, 0x0⟩
def Fld.SL_PEER_NODE : Field := ⟨.SL_PEER, 9, 0, .ro, 0x0⟩
/-! SL_PEER_UID_LO: R284, Table 12-11 of spec/12_stack_link_lanes.md. -/
def Fld.SL_PEER_UID_LO_UID : Field := ⟨.SL_PEER_UID_LO, 31, 0, .ro, 0x0⟩
/-! SL_PEER_UID_HI: R284, Table 12-11 of spec/12_stack_link_lanes.md. -/
def Fld.SL_PEER_UID_HI_UID : Field := ⟨.SL_PEER_UID_HI, 15, 0, .ro, 0x0⟩
/-! SL_TXEQ: R284, Table 12-11 of spec/12_stack_link_lanes.md. -/
def Fld.SL_TXEQ_CM2 : Field := ⟨.SL_TXEQ, 29, 24, .rwe, 0⟩
def Fld.SL_TXEQ_CM1 : Field := ⟨.SL_TXEQ, 23, 18, .rwe, 0⟩
def Fld.SL_TXEQ_C0 : Field := ⟨.SL_TXEQ, 17, 12, .rwe, 0⟩
def Fld.SL_TXEQ_CP1 : Field := ⟨.SL_TXEQ, 11, 6, .rwe, 0⟩
def Fld.SL_TXEQ_CP2 : Field := ⟨.SL_TXEQ, 5, 0, .rwe, 0⟩
/-! SL_RXEQ: R284, Table 12-11 of spec/12_stack_link_lanes.md. -/
def Fld.SL_RXEQ_DFE_FREEZE : Field := ⟨.SL_RXEQ, 31, 31, .rw, 0x0⟩
def Fld.SL_RXEQ_CTLE_FIX : Field := ⟨.SL_RXEQ, 30, 30, .rwe, 0x0⟩
def Fld.SL_RXEQ_CTLE_USED : Field := ⟨.SL_RXEQ, 19, 16, .ro, 0x0⟩
def Fld.SL_RXEQ_CTLE_SET : Field := ⟨.SL_RXEQ, 3, 0, .rwe, 0x0⟩
/-! SL_FEC_COUNT: R285, Table 12-12 of spec/12_stack_link_lanes.md. -/
def Fld.SL_FEC_COUNT_COUNT : Field := ⟨.SL_FEC_COUNT, 31, 0, .rc, 0x0⟩
/-! SL_FEC_UE_COUNT: R285, Table 12-12 of spec/12_stack_link_lanes.md. -/
def Fld.SL_FEC_UE_COUNT_COUNT : Field := ⟨.SL_FEC_UE_COUNT, 15, 0, .rc, 0x0⟩
/-! SL_RETRY_COUNT: R285, Table 12-12 of spec/12_stack_link_lanes.md. -/
def Fld.SL_RETRY_COUNT_NAKS : Field := ⟨.SL_RETRY_COUNT, 31, 16, .rc, 0x0⟩
def Fld.SL_RETRY_COUNT_REPLAYS : Field := ⟨.SL_RETRY_COUNT, 15, 0, .rc, 0x0⟩
/-! SL_TRAIN_COUNT: R285, Table 12-12 of spec/12_stack_link_lanes.md. -/
def Fld.SL_TRAIN_COUNT_RETRAINS : Field := ⟨.SL_TRAIN_COUNT, 31, 16, .ro, 0x0⟩
def Fld.SL_TRAIN_COUNT_FAILS : Field := ⟨.SL_TRAIN_COUNT, 15, 0, .ro, 0x0⟩
/-! SL_TXBOOK: R285, Table 12-12 of spec/12_stack_link_lanes.md. -/
def Fld.SL_TXBOOK_ADVERTISED : Field := ⟨.SL_TXBOOK, 31, 24, .ro, 0x0⟩
def Fld.SL_TXBOOK_CREDITS : Field := ⟨.SL_TXBOOK, 23, 16, .ro, 0x0⟩
def Fld.SL_TXBOOK_OUTSTANDING : Field := ⟨.SL_TXBOOK, 15, 8, .ro, 0x0⟩
/-! SL_RXBOOK: R285, Table 12-12 of spec/12_stack_link_lanes.md. -/
def Fld.SL_RXBOOK_DEPTH : Field := ⟨.SL_RXBOOK, 31, 24, .ro, 0x0⟩
def Fld.SL_RXBOOK_OCCUPIED : Field := ⟨.SL_RXBOOK, 23, 16, .ro, 0x0⟩
def Fld.SL_RXBOOK_RELEASED : Field := ⟨.SL_RXBOOK, 15, 8, .ro, 0x0⟩
def Fld.SL_RXBOOK_HELD_FAR : Field := ⟨.SL_RXBOOK, 7, 0, .ro, 0x0⟩
/-! SL_LANE: R285, Table 12-12 of spec/12_stack_link_lanes.md. -/
def Fld.SL_LANE_ALIGNED : Field := ⟨.SL_LANE, 31, 31, .ro, 0x0⟩
def Fld.SL_LANE_FRAME_LOCK : Field := ⟨.SL_LANE, 30, 30, .ro, 0x0⟩
def Fld.SL_LANE_MATCH : Field := ⟨.SL_LANE, 24, 16, .ro, 0x0⟩
def Fld.SL_LANE_PHASE : Field := ⟨.SL_LANE, 15, 6, .ro, 0x0⟩
def Fld.SL_LANE_SLIPS : Field := ⟨.SL_LANE, 5, 0, .ro, 0x0⟩
/-! SL_RAW_CFG: R285, Table 12-12 of spec/12_stack_link_lanes.md. -/
def Fld.SL_RAW_CFG_NOTIFY : Field := ⟨.SL_RAW_CFG, 31, 31, .rwe, 0⟩
def Fld.SL_RAW_CFG_PLANE : Field := ⟨.SL_RAW_CFG, 17, 16, .rwe, 0⟩
def Fld.SL_RAW_CFG_ROOM : Field := ⟨.SL_RAW_CFG, 6, 0, .rwe, 0⟩
/-! SL_RAW_RING: R285, Table 12-12 of spec/12_stack_link_lanes.md. -/
def Fld.SL_RAW_RING_LOG2N : Field := ⟨.SL_RAW_RING, 27, 24, .rwe, 0⟩
def Fld.SL_RAW_RING_TXBASE : Field := ⟨.SL_RAW_RING, 23, 16, .rwe, 0⟩
def Fld.SL_RAW_RING_RXBASE : Field := ⟨.SL_RAW_RING, 15, 8, .rwe, 0⟩
def Fld.SL_RAW_RING_CTLBASE : Field := ⟨.SL_RAW_RING, 7, 0, .rwe, 0⟩
/-! SL_RAW_STATUS: R285, Table 12-12 of spec/12_stack_link_lanes.md. -/
def Fld.SL_RAW_STATUS_RX_DROPPED : Field := ⟨.SL_RAW_STATUS, 31, 16, .rc, 0x0⟩
def Fld.SL_RAW_STATUS_TX_POISON : Field := ⟨.SL_RAW_STATUS, 15, 8, .rc, 0x0⟩
def Fld.SL_RAW_STATUS_RAM_ERR : Field := ⟨.SL_RAW_STATUS, 7, 0, .rc, 0x0⟩
/-! SL_DFE_IDX: R284, Table 12-11 of spec/12_stack_link_lanes.md. -/
def Fld.SL_DFE_IDX_LANE : Field := ⟨.SL_DFE_IDX, 5, 4, .rw, 0x0⟩
def Fld.SL_DFE_IDX_TAP : Field := ⟨.SL_DFE_IDX, 3, 0, .rw, 0x0⟩
/-! SL_DFE_DATA: R284, Table 12-11 of spec/12_stack_link_lanes.md. -/
def Fld.SL_DFE_DATA_VALUE : Field := ⟨.SL_DFE_DATA, 7, 0, .ro, 0x0⟩
/-! CR_STATUS: R317, Table 13-9 of spec/13_inline_encryption.md. -/
def Fld.CR_STATUS_KEY_ROLL_REQUIRED : Field := ⟨.CR_STATUS, 4, 4, .ro, 0x0⟩
def Fld.CR_STATUS_RANGE_FAILED : Field := ⟨.CR_STATUS, 3, 3, .w1c, 0x0⟩
def Fld.CR_STATUS_TAG_FAIL : Field := ⟨.CR_STATUS, 2, 2, .w1c, 0x0⟩
def Fld.CR_STATUS_LINK_AUTH_FAIL : Field := ⟨.CR_STATUS, 1, 1, .w1c, 0x0⟩
def Fld.CR_STATUS_CACHE_UE : Field := ⟨.CR_STATUS, 0, 0, .w1c, 0x0⟩
/-! CR_CACHE_HIT_COUNT: R317, Table 13-9 of spec/13_inline_encryption.md. -/
def Fld.CR_CACHE_HIT_COUNT_COUNT : Field := ⟨.CR_CACHE_HIT_COUNT, 31, 0, .rc, 0x0⟩
/-! CR_CACHE_MISS_COUNT: R317, Table 13-9 of spec/13_inline_encryption.md. -/
def Fld.CR_CACHE_MISS_COUNT_COUNT : Field := ⟨.CR_CACHE_MISS_COUNT, 31, 0, .rc, 0x0⟩
/-! CR_TAG_FAIL_COUNT: R317, Table 13-9 of spec/13_inline_encryption.md. -/
def Fld.CR_TAG_FAIL_COUNT_COUNT : Field := ⟨.CR_TAG_FAIL_COUNT, 15, 0, .rc, 0x0⟩
/-! CR_REFUSE_COUNT: R317, Table 13-9 of spec/13_inline_encryption.md. -/
def Fld.CR_REFUSE_COUNT_COUNT : Field := ⟨.CR_REFUSE_COUNT, 15, 0, .rc, 0x0⟩
/-! CR_REENC_COUNT: R317, Table 13-9 of spec/13_inline_encryption.md. -/
def Fld.CR_REENC_COUNT_COUNT : Field := ⟨.CR_REENC_COUNT, 31, 0, .ro, 0x0⟩
/-! CR_FAIL_INFO: R317, Table 13-9 of spec/13_inline_encryption.md. -/
def Fld.CR_FAIL_INFO_VALID : Field := ⟨.CR_FAIL_INFO, 31, 31, .ro, 0x0⟩
def Fld.CR_FAIL_INFO_KIND : Field := ⟨.CR_FAIL_INFO, 30, 28, .ro, 0x0⟩
def Fld.CR_FAIL_INFO_RANGE : Field := ⟨.CR_FAIL_INFO, 8, 4, .ro, 0x0⟩
def Fld.CR_FAIL_INFO_LEVEL : Field := ⟨.CR_FAIL_INFO, 3, 0, .ro, 0x0⟩
/-! CR_FAIL_INDEX: R317, Table 13-9 of spec/13_inline_encryption.md. -/
def Fld.CR_FAIL_INDEX_INDEX : Field := ⟨.CR_FAIL_INDEX, 27, 0, .ro, 0x0⟩
/-! CR_RANGE_CTRL: R318, Table 13-10 of spec/13_inline_encryption.md. -/
def Fld.CR_RANGE_CTRL_ENABLE : Field := ⟨.CR_RANGE_CTRL, 31, 31, .rwe, 0⟩
def Fld.CR_RANGE_CTRL_WINDOW : Field := ⟨.CR_RANGE_CTRL, 20, 16, .rwe, 0⟩
def Fld.CR_RANGE_CTRL_LOG2PAGES : Field := ⟨.CR_RANGE_CTRL, 4, 0, .rwe, 0⟩
/-! CR_RANGE_BASE: R318, Table 13-10 of spec/13_inline_encryption.md. -/
def Fld.CR_RANGE_BASE_BASE : Field := ⟨.CR_RANGE_BASE, 21, 0, .rwe, 0⟩
/-! CR_RANGE_META: R318, Table 13-10 of spec/13_inline_encryption.md. -/
def Fld.CR_RANGE_META_META : Field := ⟨.CR_RANGE_META, 21, 0, .rwe, 0⟩
/-! CR_RANGE_STATE: R318, Table 13-10 of spec/13_inline_encryption.md. -/
def Fld.CR_RANGE_STATE_KEY_ROLL_REQUIRED : Field := ⟨.CR_RANGE_STATE, 31, 31, .ro, 0x0⟩
def Fld.CR_RANGE_STATE_STATE : Field := ⟨.CR_RANGE_STATE, 26, 24, .ro, 0x0⟩
def Fld.CR_RANGE_STATE_PROGRESS : Field := ⟨.CR_RANGE_STATE, 22, 0, .ro, 0x0⟩
/-! CR_LINK_CFG: R319, Table 13-11 of spec/13_inline_encryption.md. -/
def Fld.CR_LINK_CFG_REQUIRE : Field := ⟨.CR_LINK_CFG, 31, 31, .rwe, 0⟩
def Fld.CR_LINK_CFG_AUTO_KEX : Field := ⟨.CR_LINK_CFG, 30, 30, .rwe, 0⟩
def Fld.CR_LINK_CFG_CURVE : Field := ⟨.CR_LINK_CFG, 1, 0, .rwe, 0x1⟩
/-! CR_LINK_STATUS: R319, Table 13-11 of spec/13_inline_encryption.md. -/
def Fld.CR_LINK_STATUS_TX_ENC : Field := ⟨.CR_LINK_STATUS, 31, 31, .ro, 0x0⟩
def Fld.CR_LINK_STATUS_RX_ENC : Field := ⟨.CR_LINK_STATUS, 30, 30, .ro, 0x0⟩
def Fld.CR_LINK_STATUS_TX_KPH : Field := ⟨.CR_LINK_STATUS, 29, 29, .ro, 0x0⟩
def Fld.CR_LINK_STATUS_RX_KPH : Field := ⟨.CR_LINK_STATUS, 28, 28, .ro, 0x0⟩
def Fld.CR_LINK_STATUS_KEX_BUSY : Field := ⟨.CR_LINK_STATUS, 27, 27, .ro, 0x0⟩
def Fld.CR_LINK_STATUS_STALLED : Field := ⟨.CR_LINK_STATUS, 26, 26, .ro, 0x0⟩
def Fld.CR_LINK_STATUS_CURVE_USED : Field := ⟨.CR_LINK_STATUS, 25, 24, .ro, 0x0⟩
/-! CR_LINK_TXE: R319, Table 13-11 of spec/13_inline_encryption.md. -/
def Fld.CR_LINK_TXE_E : Field := ⟨.CR_LINK_TXE, 31, 0, .ro, 0x0⟩
/-! CR_LINK_COUNT: R319, Table 13-11 of spec/13_inline_encryption.md. -/
def Fld.CR_LINK_COUNT_AUTH_FAIL : Field := ⟨.CR_LINK_COUNT, 31, 16, .rc, 0x0⟩
def Fld.CR_LINK_COUNT_PLAIN_DROP : Field := ⟨.CR_LINK_COUNT, 15, 0, .rc, 0x0⟩
/-! EC_STATUS: R137, Table 06-6 of spec/06_stored_data_protection.md. -/
def Fld.EC_STATUS_CTM_REFUSED : Field := ⟨.EC_STATUS, 6, 6, .w1c, 0x0⟩
def Fld.EC_STATUS_CTM_ACTIVE : Field := ⟨.EC_STATUS, 5, 5, .ro, 0x0⟩
def Fld.EC_STATUS_CONFIG_UE : Field := ⟨.EC_STATUS, 4, 4, .ro, 0x0⟩
def Fld.EC_STATUS_LOG_OVERFLOW : Field := ⟨.EC_STATUS, 3, 3, .w1c, 0x0⟩
def Fld.EC_STATUS_MOW_FAST : Field := ⟨.EC_STATUS, 2, 2, .ro, 0x0⟩
def Fld.EC_STATUS_MOW_SHED : Field := ⟨.EC_STATUS, 1, 1, .ro, 0x0⟩
def Fld.EC_STATUS_MOW_RUNNING : Field := ⟨.EC_STATUS, 0, 0, .ro, 0x0⟩
/-! EC_MOW_CFG: R137, Table 06-6 of spec/06_stored_data_protection.md. -/
def Fld.EC_MOW_CFG_ENABLE : Field := ⟨.EC_MOW_CFG, 31, 31, .rwe, 0x1⟩
def Fld.EC_MOW_CFG_BASE_S : Field := ⟨.EC_MOW_CFG, 27, 16, .rwe, 0x3c⟩
def Fld.EC_MOW_CFG_THRESH : Field := ⟨.EC_MOW_CFG, 15, 0, .rwe, 0x40⟩
/-! EC_MOW_STATUS: R137, Table 06-6 of spec/06_stored_data_protection.md. -/
def Fld.EC_MOW_STATUS_ROUNDS : Field := ⟨.EC_MOW_STATUS, 31, 16, .ro, 0x0⟩
def Fld.EC_MOW_STATUS_CE_WINDOW : Field := ⟨.EC_MOW_STATUS, 15, 0, .ro, 0x0⟩
/-! EC_MOW_PERIOD: R137, Table 06-6 of spec/06_stored_data_protection.md. -/
def Fld.EC_MOW_PERIOD_PERIOD_MS : Field := ⟨.EC_MOW_PERIOD, 21, 0, .ro, 0xea60⟩
/-! EC_CE_COUNT: R138, Table 06-7 of spec/06_stored_data_protection.md. -/
def Fld.EC_CE_COUNT_COUNT : Field := ⟨.EC_CE_COUNT, 31, 0, .rc, 0x0⟩
/-! EC_UE_COUNT: R138, Table 06-7 of spec/06_stored_data_protection.md. -/
def Fld.EC_UE_COUNT_COUNT : Field := ⟨.EC_UE_COUNT, 31, 0, .rc, 0x0⟩
/-! EC_POISON_WRITE_COUNT: R138, Table 06-7 of spec/06_stored_data_protection.md. -/
def Fld.EC_POISON_WRITE_COUNT_COUNT : Field := ⟨.EC_POISON_WRITE_COUNT, 31, 0, .rc, 0x0⟩
/-! EC_LOG_CTRL: R138, Table 06-7 of spec/06_stored_data_protection.md. -/
def Fld.EC_LOG_CTRL_POP : Field := ⟨.EC_LOG_CTRL, 31, 31, .wo, 0x0⟩
def Fld.EC_LOG_CTRL_FILL : Field := ⟨.EC_LOG_CTRL, 6, 0, .ro, 0x0⟩
/-! EC_LOG_ADDR_LO: R138, Table 06-7 of spec/06_stored_data_protection.md. -/
def Fld.EC_LOG_ADDR_LO_ADDR : Field := ⟨.EC_LOG_ADDR_LO, 31, 0, .ro, 0x0⟩
/-! EC_LOG_ADDR_HI: R138, Table 06-7 of spec/06_stored_data_protection.md. -/
def Fld.EC_LOG_ADDR_HI_ADDR : Field := ⟨.EC_LOG_ADDR_HI, 15, 0, .ro, 0x0⟩
/-! EC_LOG_INFO: R138, Table 06-7 of spec/06_stored_data_protection.md. -/
def Fld.EC_LOG_INFO_CLASS : Field := ⟨.EC_LOG_INFO, 31, 28, .ro, 0x0⟩
def Fld.EC_LOG_INFO_SOURCE : Field := ⟨.EC_LOG_INFO, 27, 24, .ro, 0x0⟩
def Fld.EC_LOG_INFO_STORE : Field := ⟨.EC_LOG_INFO, 23, 22, .ro, 0x0⟩
def Fld.EC_LOG_INFO_WORD : Field := ⟨.EC_LOG_INFO, 4, 0, .ro, 0x0⟩
/-! EC_LOG_SYND: R138, Table 06-7 of spec/06_stored_data_protection.md. -/
def Fld.EC_LOG_SYND_SC : Field := ⟨.EC_LOG_SYND, 31, 16, .ro, 0x0⟩
def Fld.EC_LOG_SYND_SR : Field := ⟨.EC_LOG_SYND, 15, 0, .ro, 0x0⟩
/-! EC_CTM_CTRL: R139, Table 06-8 of spec/06_stored_data_protection.md. -/
def Fld.EC_CTM_CTRL_ENABLE : Field := ⟨.EC_CTM_CTRL, 31, 31, .rw, 0x0⟩
def Fld.EC_CTM_CTRL_RAW_READ : Field := ⟨.EC_CTM_CTRL, 30, 30, .rw, 0x0⟩
def Fld.EC_CTM_CTRL_BANK : Field := ⟨.EC_CTM_CTRL, 8, 0, .rw, 0x0⟩
/-! EC_CTM_CHECK: R139, Table 06-8 of spec/06_stored_data_protection.md. -/
def Fld.EC_CTM_CHECK_C_FLIP : Field := ⟨.EC_CTM_CHECK, 31, 16, .rw, 0x0⟩
def Fld.EC_CTM_CHECK_R_FLIP : Field := ⟨.EC_CTM_CHECK, 15, 0, .rw, 0x0⟩
/-! EC_CTM_SYND: R139, Table 06-8 of spec/06_stored_data_protection.md. -/
def Fld.EC_CTM_SYND_SC : Field := ⟨.EC_CTM_SYND, 31, 16, .ro, 0x0⟩
def Fld.EC_CTM_SYND_SR : Field := ⟨.EC_CTM_SYND, 15, 0, .ro, 0x0⟩
/-! EC_CTM_FLIP: R139, Table 06-8 of spec/06_stored_data_protection.md. -/
def Fld.EC_CTM_FLIP_FLIP : Field := ⟨.EC_CTM_FLIP, 31, 0, .rw, 0x0⟩
/-! EC_SPARE_IDX: R139, Table 06-8 of spec/06_stored_data_protection.md. -/
def Fld.EC_SPARE_IDX_BANK : Field := ⟨.EC_SPARE_IDX, 14, 6, .rw, 0x0⟩
def Fld.EC_SPARE_IDX_SPARE : Field := ⟨.EC_SPARE_IDX, 5, 0, .rw, 0x0⟩
/-! EC_SPARE_DATA: R139, Table 06-8 of spec/06_stored_data_protection.md. -/
def Fld.EC_SPARE_DATA_STATE : Field := ⟨.EC_SPARE_DATA, 31, 30, .ro, 0x0⟩
def Fld.EC_SPARE_DATA_COPYING : Field := ⟨.EC_SPARE_DATA, 29, 29, .ro, 0x0⟩
def Fld.EC_SPARE_DATA_COLUMN : Field := ⟨.EC_SPARE_DATA, 13, 0, .ro, 0x0⟩
/-! BT_STATUS: R377, Table 16-13 of spec/16_start_up_reset_self_test.md. -/
def Fld.BT_STATUS_OVERFLOW : Field := ⟨.BT_STATUS, 3, 3, .w1c, 0x0⟩
def Fld.BT_STATUS_PROFILE_WAIT : Field := ⟨.BT_STATUS, 2, 2, .ro, 0x0⟩
def Fld.BT_STATUS_BG_RUNNING : Field := ⟨.BT_STATUS, 1, 1, .ro, 0x0⟩
def Fld.BT_STATUS_ST_RUNNING : Field := ⟨.BT_STATUS, 0, 0, .ro, 0x0⟩
/-! BT_BOOT: R377, Table 16-13 of spec/16_start_up_reset_self_test.md. -/
def Fld.BT_BOOT_CAUSE : Field := ⟨.BT_BOOT, 31, 28, .ro, 0x0⟩
def Fld.BT_BOOT_PROFILE : Field := ⟨.BT_BOOT, 18, 16, .ro, 0x0⟩
def Fld.BT_BOOT_DROPPED : Field := ⟨.BT_BOOT, 15, 0, .ro, 0x0⟩
/-! BT_START_TIME: R377, Table 16-13 of spec/16_start_up_reset_self_test.md. -/
def Fld.BT_START_TIME_US : Field := ⟨.BT_START_TIME, 31, 0, .ro, 0x0⟩
/-! BT_BG_CFG: R377, Table 16-13 of spec/16_start_up_reset_self_test.md. -/
def Fld.BT_BG_CFG_ENABLE : Field := ⟨.BT_BG_CFG, 31, 31, .rwe, 0⟩
def Fld.BT_BG_CFG_INTERVAL : Field := ⟨.BT_BG_CFG, 15, 0, .rwe, 0x3e8⟩
/-! BT_BG_STATUS: R377, Table 16-13 of spec/16_start_up_reset_self_test.md. -/
def Fld.BT_BG_STATUS_ABORTED : Field := ⟨.BT_BG_STATUS, 31, 16, .rc, 0x0⟩
def Fld.BT_BG_STATUS_ROUNDS : Field := ⟨.BT_BG_STATUS, 15, 0, .ro, 0x0⟩
/-! BT_FRESET: R377, Table 16-13 of spec/16_start_up_reset_self_test.md. -/
def Fld.BT_FRESET_DROPPED : Field := ⟨.BT_FRESET, 31, 16, .ro, 0x0⟩
def Fld.BT_FRESET_POISONED : Field := ⟨.BT_FRESET, 15, 0, .ro, 0x0⟩
/-! BT_RES_CTRL: R377, Table 16-13 of spec/16_start_up_reset_self_test.md. -/
def Fld.BT_RES_CTRL_POP : Field := ⟨.BT_RES_CTRL, 31, 31, .wo, 0x0⟩
def Fld.BT_RES_CTRL_FILL : Field := ⟨.BT_RES_CTRL, 6, 0, .ro, 0x0⟩
/-! BT_RES_WHERE: R377, Table 16-13 of spec/16_start_up_reset_self_test.md. -/
def Fld.BT_RES_WHERE_KIND : Field := ⟨.BT_RES_WHERE, 31, 28, .ro, 0x0⟩
def Fld.BT_RES_WHERE_LAYER : Field := ⟨.BT_RES_WHERE, 23, 21, .ro, 0x0⟩
def Fld.BT_RES_WHERE_UNIT : Field := ⟨.BT_RES_WHERE, 11, 0, .ro, 0x0⟩
/-! BT_RES_ADDR: R377, Table 16-13 of spec/16_start_up_reset_self_test.md. -/
def Fld.BT_RES_ADDR_ADDR : Field := ⟨.BT_RES_ADDR, 19, 0, .ro, 0x0⟩
/-! BT_RES_INFO: R377, Table 16-13 of spec/16_start_up_reset_self_test.md. -/
def Fld.BT_RES_INFO_OUTCOME : Field := ⟨.BT_RES_INFO, 31, 29, .ro, 0x0⟩
def Fld.BT_RES_INFO_PHASE : Field := ⟨.BT_RES_INFO, 28, 27, .ro, 0x0⟩
def Fld.BT_RES_INFO_SEG : Field := ⟨.BT_RES_INFO, 26, 24, .ro, 0x0⟩
def Fld.BT_RES_INFO_BIT : Field := ⟨.BT_RES_INFO, 13, 0, .ro, 0x0⟩
/-! BT_SLICE_MAP: R377, Table 16-13 of spec/16_start_up_reset_self_test.md. -/
def Fld.BT_SLICE_MAP_MAP : Field := ⟨.BT_SLICE_MAP, 31, 0, .ro, 0x0⟩
/-! RP_STATUS: R433, Table 19-7 of spec/19_replay_and_diagnostics.md. -/
def Fld.RP_STATUS_SAFE : Field := ⟨.RP_STATUS, 9, 9, .ro, 0x0⟩
def Fld.RP_STATUS_UNRECORDED : Field := ⟨.RP_STATUS, 8, 8, .ro, 0x0⟩
def Fld.RP_STATUS_CONFIG_DIFF : Field := ⟨.RP_STATUS, 7, 7, .ro, 0x0⟩
def Fld.RP_STATUS_DIVERGED : Field := ⟨.RP_STATUS, 6, 6, .ro, 0x0⟩
def Fld.RP_STATUS_HAZARD : Field := ⟨.RP_STATUS, 5, 5, .ro, 0x0⟩
def Fld.RP_STATUS_GAP : Field := ⟨.RP_STATUS, 4, 4, .ro, 0x0⟩
def Fld.RP_STATUS_WRAPPED : Field := ⟨.RP_STATUS, 3, 3, .ro, 0x0⟩
def Fld.RP_STATUS_STATE : Field := ⟨.RP_STATUS, 2, 0, .ro, 0x0⟩
/-! RP_CFG: R433, Table 19-7 of spec/19_replay_and_diagnostics.md. -/
def Fld.RP_CFG_ARM : Field := ⟨.RP_CFG, 31, 31, .rwe, 0⟩
def Fld.RP_CFG_WRAP : Field := ⟨.RP_CFG, 30, 30, .rwe, 0⟩
/-! RP_RING: R433, Table 19-7 of spec/19_replay_and_diagnostics.md. -/
def Fld.RP_RING_BANKS : Field := ⟨.RP_RING, 23, 16, .rwe, 0⟩
def Fld.RP_RING_FIRST : Field := ⟨.RP_RING, 8, 0, .rwe, 0⟩
/-! RP_LINKS: R433, Table 19-7 of spec/19_replay_and_diagnostics.md. -/
def Fld.RP_LINKS_MASK : Field := ⟨.RP_LINKS, 31, 0, .rwe, 0⟩
/-! RP_SOURCES: R433, Table 19-7 of spec/19_replay_and_diagnostics.md. -/
def Fld.RP_SOURCES_SOURCES : Field := ⟨.RP_SOURCES, 3, 0, .rwe, 0⟩
/-! RP_STAMP_LO: R433, Table 19-7 of spec/19_replay_and_diagnostics.md. -/
def Fld.RP_STAMP_LO_STAMP : Field := ⟨.RP_STAMP_LO, 31, 0, .ro, 0x0⟩
/-! RP_STAMP_HI: R433, Table 19-7 of spec/19_replay_and_diagnostics.md. -/
def Fld.RP_STAMP_HI_STAMP : Field := ⟨.RP_STAMP_HI, 15, 0, .ro, 0x0⟩
/-! RP_FILL: R433, Table 19-7 of spec/19_replay_and_diagnostics.md. -/
def Fld.RP_FILL_UNITS : Field := ⟨.RP_FILL, 31, 0, .ro, 0x0⟩
/-! RP_DROP: R433, Table 19-7 of spec/19_replay_and_diagnostics.md. -/
def Fld.RP_DROP_GAPS : Field := ⟨.RP_DROP, 31, 16, .ro, 0x0⟩
def Fld.RP_DROP_DROPPED : Field := ⟨.RP_DROP, 15, 0, .rc, 0x0⟩
/-! RP_HAZARD: R433, Table 19-7 of spec/19_replay_and_diagnostics.md. -/
def Fld.RP_HAZARD_COUNT : Field := ⟨.RP_HAZARD, 31, 0, .ro, 0x0⟩
/-! RP_FIRST_LO: R433, Table 19-7 of spec/19_replay_and_diagnostics.md. -/
def Fld.RP_FIRST_LO_STAMP : Field := ⟨.RP_FIRST_LO, 31, 0, .ro, 0x0⟩
/-! RP_FIRST_HI: R433, Table 19-7 of spec/19_replay_and_diagnostics.md. -/
def Fld.RP_FIRST_HI_KIND : Field := ⟨.RP_FIRST_HI, 31, 28, .ro, 0x0⟩
def Fld.RP_FIRST_HI_STAMP : Field := ⟨.RP_FIRST_HI, 15, 0, .ro, 0x0⟩
/-! RP_BREAK_LO: R433, Table 19-7 of spec/19_replay_and_diagnostics.md. -/
def Fld.RP_BREAK_LO_STAMP : Field := ⟨.RP_BREAK_LO, 31, 0, .rw, 0x0⟩
/-! RP_BREAK_HI: R433, Table 19-7 of spec/19_replay_and_diagnostics.md. -/
def Fld.RP_BREAK_HI_ENABLE : Field := ⟨.RP_BREAK_HI, 31, 31, .rw, 0x0⟩
def Fld.RP_BREAK_HI_STAMP : Field := ⟨.RP_BREAK_HI, 15, 0, .rw, 0x0⟩
/-! RP_SAFE_CAUSE: R433, Table 19-7 of spec/19_replay_and_diagnostics.md. -/
def Fld.RP_SAFE_CAUSE_VALID : Field := ⟨.RP_SAFE_CAUSE, 31, 31, .ro, 0x0⟩
def Fld.RP_SAFE_CAUSE_CAUSE : Field := ⟨.RP_SAFE_CAUSE, 7, 0, .ro, 0x0⟩
/-! RP_SAFE_STAMP_LO: R433, Table 19-7 of spec/19_replay_and_diagnostics.md. -/
def Fld.RP_SAFE_STAMP_LO_STAMP : Field := ⟨.RP_SAFE_STAMP_LO, 31, 0, .ro, 0x0⟩
/-! RP_SAFE_STAMP_HI: R433, Table 19-7 of spec/19_replay_and_diagnostics.md. -/
def Fld.RP_SAFE_STAMP_HI_STAMP : Field := ⟨.RP_SAFE_STAMP_HI, 15, 0, .ro, 0x0⟩
/-! LC_STATE: R419, Table 18-7 of spec/18_security_and_life_cycle.md. -/
def Fld.LC_STATE_PARTIAL : Field := ⟨.LC_STATE, 31, 31, .ro, 0⟩
def Fld.LC_STATE_CERTIFIED : Field := ⟨.LC_STATE, 9, 9, .ro, 0⟩
def Fld.LC_STATE_ID_KEYS : Field := ⟨.LC_STATE, 8, 8, .ro, 0⟩
def Fld.LC_STATE_STATE : Field := ⟨.LC_STATE, 2, 0, .ro, 0⟩
/-! LC_DEBUG: R419, Table 18-7 of spec/18_security_and_life_cycle.md. -/
def Fld.LC_DEBUG_LEVEL : Field := ⟨.LC_DEBUG, 1, 0, .ro, 0x0⟩
/-! LC_KEYS: R419, Table 18-7 of spec/18_security_and_life_cycle.md. -/
def Fld.LC_KEYS_FUSED : Field := ⟨.LC_KEYS, 7, 0, .ro, 0⟩
/-! LC_SVN: R419, Table 18-7 of spec/18_security_and_life_cycle.md. -/
def Fld.LC_SVN_MIN : Field := ⟨.LC_SVN, 6, 0, .ro, 0⟩
/-! LC_FW_EDITION: R419, Table 18-7 of spec/18_security_and_life_cycle.md. -/
def Fld.LC_FW_EDITION_EDITION : Field := ⟨.LC_FW_EDITION, 31, 0, .ro, 0x0⟩
/-! LC_FW_STATUS: R419, Table 18-7 of spec/18_security_and_life_cycle.md. -/
def Fld.LC_FW_STATUS_SLOT : Field := ⟨.LC_FW_STATUS, 31, 31, .ro, 0x0⟩
def Fld.LC_FW_STATUS_OTHER_VALID : Field := ⟨.LC_FW_STATUS, 30, 30, .ro, 0x0⟩
def Fld.LC_FW_STATUS_SVN : Field := ⟨.LC_FW_STATUS, 6, 0, .ro, 0x0⟩
/-! LC_CHAL_CTRL: R419, Table 18-7 of spec/18_security_and_life_cycle.md. -/
def Fld.LC_CHAL_CTRL_NEW : Field := ⟨.LC_CHAL_CTRL, 31, 31, .w1s, 0x0⟩
def Fld.LC_CHAL_CTRL_VALID : Field := ⟨.LC_CHAL_CTRL, 0, 0, .ro, 0x0⟩
/-! LC_AUTH_FAIL: R419, Table 18-7 of spec/18_security_and_life_cycle.md. -/
def Fld.LC_AUTH_FAIL_COUNT : Field := ⟨.LC_AUTH_FAIL, 15, 0, .rc, 0x0⟩
/-! LC_CHAL: R419, Table 18-7 of spec/18_security_and_life_cycle.md. -/
def Fld.LC_CHAL_CHAL : Field := ⟨.LC_CHAL, 31, 0, .ro, 0x0⟩
/-! CO_STATUS: R167, Table 07-11 of spec/07_corridor_network.md. -/
def Fld.CO_STATUS_LINK_UE : Field := ⟨.CO_STATUS, 3, 3, .ro, 0x0⟩
def Fld.CO_STATUS_DROPPED : Field := ⟨.CO_STATUS, 2, 2, .w1c, 0x0⟩
def Fld.CO_STATUS_BERR : Field := ⟨.CO_STATUS, 1, 1, .w1c, 0x0⟩
/-! CO_CFG: R167, Table 07-11 of spec/07_corridor_network.md. -/
def Fld.CO_CFG_RSP_LIMIT : Field := ⟨.CO_CFG, 19, 8, .rwe, 0xc8⟩
def Fld.CO_CFG_HOP_LIMIT : Field := ⟨.CO_CFG, 5, 0, .rwe, 0x10⟩
/-! CO_NODE: R167, Table 07-11 of spec/07_corridor_network.md. -/
def Fld.CO_NODE_VALID : Field := ⟨.CO_NODE, 31, 31, .ro, 0x0⟩
def Fld.CO_NODE_NODE : Field := ⟨.CO_NODE, 9, 0, .ro, 0x0⟩
/-! CO_VC_WEIGHT: R167, Table 07-11 of spec/07_corridor_network.md. -/
def Fld.CO_VC_WEIGHT_MGMT : Field := ⟨.CO_VC_WEIGHT, 15, 12, .rwe, 0x1⟩
def Fld.CO_VC_WEIGHT_SCHED : Field := ⟨.CO_VC_WEIGHT, 11, 8, .rwe, 0x4⟩
def Fld.CO_VC_WEIGHT_RSP : Field := ⟨.CO_VC_WEIGHT, 7, 4, .rwe, 0x6⟩
def Fld.CO_VC_WEIGHT_REQ : Field := ⟨.CO_VC_WEIGHT, 3, 0, .rwe, 0x4⟩
/-! CO_BERR_SRC: R168, Table 07-12 of spec/07_corridor_network.md. -/
def Fld.CO_BERR_SRC_CAUSE : Field := ⟨.CO_BERR_SRC, 31, 28, .ro, 0x0⟩
def Fld.CO_BERR_SRC_SRC_EP : Field := ⟨.CO_BERR_SRC, 25, 16, .ro, 0x0⟩
def Fld.CO_BERR_SRC_SRC_NODE : Field := ⟨.CO_BERR_SRC, 9, 0, .ro, 0x0⟩
/-! CO_BERR_ADDR_LO: R168, Table 07-12 of spec/07_corridor_network.md. -/
def Fld.CO_BERR_ADDR_LO_ADDR : Field := ⟨.CO_BERR_ADDR_LO, 31, 0, .ro, 0x0⟩
/-! CO_BERR_ADDR_HI: R168, Table 07-12 of spec/07_corridor_network.md. -/
def Fld.CO_BERR_ADDR_HI_ADDR : Field := ⟨.CO_BERR_ADDR_HI, 15, 0, .ro, 0x0⟩
/-! CO_BERR_COUNT: R168, Table 07-12 of spec/07_corridor_network.md. -/
def Fld.CO_BERR_COUNT_COUNT : Field := ⟨.CO_BERR_COUNT, 31, 0, .rc, 0x0⟩
/-! CO_DROP_COUNT: R168, Table 07-12 of spec/07_corridor_network.md. -/
def Fld.CO_DROP_COUNT_NOROUTE : Field := ⟨.CO_DROP_COUNT, 31, 16, .rc, 0x0⟩
def Fld.CO_DROP_COUNT_MALFORMED : Field := ⟨.CO_DROP_COUNT, 15, 0, .rc, 0x0⟩
/-! CO_CE_COUNT: R168, Table 07-12 of spec/07_corridor_network.md. -/
def Fld.CO_CE_COUNT_COUNT : Field := ⟨.CO_CE_COUNT, 31, 0, .rc, 0x0⟩
/-! CO_TIMEOUT_COUNT: R168, Table 07-12 of spec/07_corridor_network.md. -/
def Fld.CO_TIMEOUT_COUNT_LATE : Field := ⟨.CO_TIMEOUT_COUNT, 31, 16, .rc, 0x0⟩
def Fld.CO_TIMEOUT_COUNT_EXPIRED : Field := ⟨.CO_TIMEOUT_COUNT, 15, 0, .rc, 0x0⟩
/-! CO_BOOK_IDX: R169, Table 07-13 of spec/07_corridor_network.md. -/
def Fld.CO_BOOK_IDX_INDEX : Field := ⟨.CO_BOOK_IDX, 12, 0, .rw, 0x0⟩
/-! CO_BOOK_SEND: R169, Table 07-13 of spec/07_corridor_network.md. -/
def Fld.CO_BOOK_SEND_VALID : Field := ⟨.CO_BOOK_SEND, 31, 31, .ro, 0x0⟩
def Fld.CO_BOOK_SEND_CREDITS : Field := ⟨.CO_BOOK_SEND, 3, 0, .ro, 0x0⟩
/-! CO_BOOK_FLIGHT: R169, Table 07-13 of spec/07_corridor_network.md. -/
def Fld.CO_BOOK_FLIGHT_FLITS : Field := ⟨.CO_BOOK_FLIGHT, 3, 0, .ro, 0x0⟩
/-! CO_BOOK_FREE: R169, Table 07-13 of spec/07_corridor_network.md. -/
def Fld.CO_BOOK_FREE_FREE : Field := ⟨.CO_BOOK_FREE, 3, 0, .ro, 0x0⟩
/-! CO_ROUTE: R170, Table 07-14 of spec/07_corridor_network.md. -/
def Fld.CO_ROUTE_VALID : Field := ⟨.CO_ROUTE, 31, 31, .rwe, 0⟩
def Fld.CO_ROUTE_KIND : Field := ⟨.CO_ROUTE, 4, 4, .rwe, 0⟩
def Fld.CO_ROUTE_INDEX : Field := ⟨.CO_ROUTE, 3, 0, .rwe, 0⟩
/-! CO_RWIN_CTRL: R170, Table 07-14 of spec/07_corridor_network.md. -/
def Fld.CO_RWIN_CTRL_ENABLE : Field := ⟨.CO_RWIN_CTRL, 31, 31, .rwe, 0⟩
def Fld.CO_RWIN_CTRL_NODE : Field := ⟨.CO_RWIN_CTRL, 9, 0, .rwe, 0⟩
/-! CO_RWIN_BASE_LO: R170, Table 07-14 of spec/07_corridor_network.md. -/
def Fld.CO_RWIN_BASE_LO_BASE : Field := ⟨.CO_RWIN_BASE_LO, 31, 12, .rwe, 0⟩
/-! CO_RWIN_BASE_HI: R170, Table 07-14 of spec/07_corridor_network.md. -/
def Fld.CO_RWIN_BASE_HI_BASE : Field := ⟨.CO_RWIN_BASE_HI, 15, 0, .rwe, 0⟩

/-- The place of each register (R161 and the register map tables). -/
def Reg.map : Reg → RegMap
  | .HK_ID_VENDOR => ⟨0x0, 1, 1, 0x0, 0x0⟩
  | .HK_ID_PART => ⟨0x4, 1, 1, 0x0, 0x0⟩
  | .HK_ID_REV => ⟨0x8, 1, 1, 0x0, 0x0⟩
  | .HK_ID_NODE => ⟨0xc, 1, 1, 0x0, 0x0⟩
  | .HK_ID_UID_LO => ⟨0x10, 1, 1, 0x0, 0x0⟩
  | .HK_ID_UID_HI => ⟨0x14, 1, 1, 0x0, 0x0⟩
  | .HK_STATUS => ⟨0x20, 1, 1, 0x0, 0x0⟩
  | .HK_ROUND => ⟨0x24, 1, 1, 0x0, 0x0⟩
  | .HK_CH => ⟨0x100, 64, 64, 0x4, 0x0⟩
  | .CK_STATUS => ⟨0x10000, 1, 1, 0x0, 0x0⟩
  | .CK_REF_LOST => ⟨0x10004, 1, 1, 0x0, 0x0⟩
  | .CK_SW_FORCED => ⟨0x10008, 1, 1, 0x0, 0x0⟩
  | .CK_REF_JUDGE => ⟨0x1000c, 1, 1, 0x0, 0x0⟩
  | .CK_RC_TRIM => ⟨0x10010, 1, 1, 0x0, 0x0⟩
  | .CK_GATE_ROOM => ⟨0x10020, 4, 4, 0x4, 0x0⟩
  | .CK_GATE_DSP => ⟨0x10030, 1, 1, 0x0, 0x0⟩
  | .CK_GATE_LINK => ⟨0x10034, 1, 1, 0x0, 0x0⟩
  | .CK_GATE_UNIT => ⟨0x10038, 1, 1, 0x0, 0x0⟩
  | .CK_GSTAT_ROOM => ⟨0x10040, 4, 4, 0x4, 0x0⟩
  | .CK_GSTAT_DSP => ⟨0x10050, 1, 1, 0x0, 0x0⟩
  | .CK_GSTAT_LINK => ⟨0x10054, 1, 1, 0x0, 0x0⟩
  | .CK_GSTAT_UNIT => ⟨0x10058, 1, 1, 0x0, 0x0⟩
  | .CK_GATE_EVENT => ⟨0x10060, 1, 1, 0x0, 0x0⟩
  | .PW_STATUS => ⟨0x20000, 1, 1, 0x0, 0x0⟩
  | .PW_SHED_CFG => ⟨0x20004, 1, 1, 0x0, 0x0⟩
  | .PW_SHED_HYST => ⟨0x20008, 1, 1, 0x0, 0x0⟩
  | .PW_SHED_STATUS => ⟨0x2000c, 1, 1, 0x0, 0x0⟩
  | .TH_CFG => ⟨0x20100, 1, 1, 0x0, 0x0⟩
  | .TH_STATUS => ⟨0x20104, 1, 1, 0x0, 0x0⟩
  | .TH_TJ => ⟨0x20108, 1, 1, 0x0, 0x0⟩
  | .TH_XT_CFG => ⟨0x20120, 8, 8, 0x4, 0x0⟩
  | .TH_AGE_STATUS => ⟨0x20140, 1, 1, 0x0, 0x0⟩
  | .TH_LIFE => ⟨0x20160, 5, 5, 0x4, 0x0⟩
  | .MB_STATUS => ⟨0x30000, 1, 1, 0x0, 0x0⟩
  | .MB_CFG => ⟨0x30004, 1, 1, 0x0, 0x0⟩
  | .MB_PERM => ⟨0x30010, 19, 19, 0x4, 0x0⟩
  | .MB_EVT_MASK => ⟨0x30060, 17, 17, 0x4, 0x0⟩
  | .MB_EVT_DEST => ⟨0x300b0, 4, 4, 0x4, 0x0⟩
  | .MB_EVT_DROP => ⟨0x300c0, 1, 1, 0x0, 0x0⟩
  | .MB_CMD_COUNT => ⟨0x300c4, 1, 1, 0x0, 0x0⟩
  | .MB_ENG_BELL => ⟨0x31000, 256, 256, 0x4, 0x0⟩
  | .EP_EPOCH_LO => ⟨0x40000, 1, 1, 0x0, 0x0⟩
  | .EP_EPOCH_HI => ⟨0x40004, 1, 1, 0x0, 0x0⟩
  | .EP_STATUS => ⟨0x40008, 1, 1, 0x0, 0x0⟩
  | .EP_STAGED_COUNT => ⟨0x4000c, 1, 1, 0x0, 0x0⟩
  | .EP_PEEK_ADDR => ⟨0x40010, 1, 1, 0x0, 0x0⟩
  | .EP_PEEK_DATA => ⟨0x40014, 1, 1, 0x0, 0x0⟩
  | .EP_PEEK_STATUS => ⟨0x40018, 1, 1, 0x0, 0x0⟩
  | .EP_AUDIT_COUNT => ⟨0x40020, 1, 1, 0x0, 0x0⟩
  | .EP_AUDIT_LAST => ⟨0x40024, 1, 1, 0x0, 0x0⟩
  | .EP_FAULT_BOOK => ⟨0x40028, 1, 1, 0x0, 0x0⟩
  | .EP_FAULT_DELTA => ⟨0x4002c, 1, 1, 0x0, 0x0⟩
  | .EP_ESC_COMMIT => ⟨0x40030, 1, 1, 0x0, 0x0⟩
  | .EP_ESC_RESET => ⟨0x40034, 1, 1, 0x0, 0x0⟩
  | .EP_ESC_TOKENS => ⟨0x40038, 1, 1, 0x0, 0x0⟩
  | .EP_ESC_LINK => ⟨0x40100, 128, 128, 0x4, 0x0⟩
  | .LB_OWNER => ⟨0x100000, 512, 1, 0x0, 0x100⟩
  | .LB_NEXT_OWNER => ⟨0x100004, 512, 1, 0x0, 0x100⟩
  | .LB_GUEST => ⟨0x100008, 512, 1, 0x0, 0x100⟩
  | .LB_CTRL => ⟨0x10000c, 512, 1, 0x0, 0x100⟩
  | .LB_PWR => ⟨0x100010, 512, 1, 0x0, 0x100⟩
  | .LB_STATUS => ⟨0x100014, 512, 1, 0x0, 0x100⟩
  | .LB_WIPE => ⟨0x100018, 512, 1, 0x0, 0x100⟩
  | .LB_BUSY_COUNT => ⟨0x10001c, 512, 1, 0x0, 0x100⟩
  | .LB_DENY_COUNT => ⟨0x100020, 512, 1, 0x0, 0x100⟩
  | .LB_HANDOVER_COUNT => ⟨0x100024, 512, 1, 0x0, 0x100⟩
  | .LB_ARBCFG => ⟨0x120000, 1, 1, 0x0, 0x0⟩
  | .LB_FALLOW_MAP => ⟨0x120010, 16, 16, 0x4, 0x0⟩
  | .LB_RET_MAP => ⟨0x120050, 16, 16, 0x4, 0x0⟩
  | .ST_STATUS => ⟨0x200000, 128, 1, 0x0, 0x100⟩
  | .ST_NARROW => ⟨0x200004, 128, 1, 0x0, 0x100⟩
  | .ST_FAULT => ⟨0x200008, 128, 1, 0x0, 0x100⟩
  | .ST_CORR_COUNT => ⟨0x20000c, 128, 1, 0x0, 0x100⟩
  | .ST_REPAIR_COUNT => ⟨0x200010, 128, 1, 0x0, 0x100⟩
  | .ST_REMAP_IDX => ⟨0x200014, 128, 1, 0x0, 0x100⟩
  | .ST_REMAP_DATA => ⟨0x200018, 128, 1, 0x0, 0x100⟩
  | .ST_CFG => ⟨0x208000, 1, 1, 0x0, 0x0⟩
  | .ST_NARROW_MAP => ⟨0x208010, 4, 4, 0x4, 0x0⟩
  | .RM_PLANE => ⟨0x300000, 128, 1, 0x0, 0x1000⟩
  | .RM_SWITCH => ⟨0x300004, 128, 1, 0x0, 0x1000⟩
  | .RM_STATUS => ⟨0x300008, 128, 1, 0x0, 0x1000⟩
  | .RM_EFF_DIV => ⟨0x30000c, 128, 1, 0x0, 0x1000⟩
  | .RM_LOAD_CTRL => ⟨0x300010, 128, 1, 0x0, 0x1000⟩
  | .RM_LOAD_STATUS => ⟨0x300014, 128, 1, 0x0, 0x1000⟩
  | .RM_LOADCFG => ⟨0x300018, 128, 1, 0x0, 0x1000⟩
  | .RM_PLANE_CFG => ⟨0x300020, 512, 4, 0x4, 0x1000⟩
  | .RM_PSRC => ⟨0x300030, 512, 4, 0x4, 0x1000⟩
  | .RM_IMAGE_ID_LO => ⟨0x300040, 512, 4, 0x8, 0x1000⟩
  | .RM_IMAGE_ID_HI => ⟨0x300044, 512, 4, 0x8, 0x1000⟩
  | .RM_SWITCH_COUNT => ⟨0x300060, 128, 1, 0x0, 0x1000⟩
  | .RM_LOAD_COUNT => ⟨0x300064, 128, 1, 0x0, 0x1000⟩
  | .RM_DROP_COUNT => ⟨0x300068, 128, 1, 0x0, 0x1000⟩
  | .RM_POISON_COUNT => ⟨0x30006c, 128, 1, 0x0, 0x1000⟩
  | .SC_STATUS => ⟨0x400000, 1, 1, 0x0, 0x0⟩
  | .SC_CFG => ⟨0x400004, 1, 1, 0x0, 0x0⟩
  | .SC_SIZE => ⟨0x400008, 1, 1, 0x0, 0x0⟩
  | .SC_RES => ⟨0x40000c, 1, 1, 0x0, 0x0⟩
  | .SC_TICK_CFG => ⟨0x400010, 1, 1, 0x0, 0x0⟩
  | .SC_TICK_LO => ⟨0x400014, 1, 1, 0x0, 0x0⟩
  | .SC_TICK_HI => ⟨0x400018, 1, 1, 0x0, 0x0⟩
  | .SC_RATE => ⟨0x40001c, 1, 1, 0x0, 0x0⟩
  | .SC_MEADOW => ⟨0x400020, 6, 6, 0x4, 0x0⟩
  | .SC_TOK_ISSUED_LO => ⟨0x400040, 1, 1, 0x0, 0x0⟩
  | .SC_TOK_ISSUED_HI => ⟨0x400044, 1, 1, 0x0, 0x0⟩
  | .SC_TOK_MATCHED_LO => ⟨0x400048, 1, 1, 0x0, 0x0⟩
  | .SC_TOK_MATCHED_HI => ⟨0x40004c, 1, 1, 0x0, 0x0⟩
  | .SC_TOK_HELD => ⟨0x400050, 1, 1, 0x0, 0x0⟩
  | .SC_TOK_FLIGHT => ⟨0x400054, 1, 1, 0x0, 0x0⟩
  | .SC_MATCH_USED => ⟨0x400058, 1, 1, 0x0, 0x0⟩
  | .SC_DISPATCH_COUNT => ⟨0x400060, 1, 1, 0x0, 0x0⟩
  | .SC_REFUSE_COUNT => ⟨0x400064, 1, 1, 0x0, 0x0⟩
  | .SC_BAD_DONE_COUNT => ⟨0x400068, 1, 1, 0x0, 0x0⟩
  | .SC_LOAD_FAIL_COUNT => ⟨0x40006c, 1, 1, 0x0, 0x0⟩
  | .SC_EVICT_COUNT => ⟨0x400070, 1, 1, 0x0, 0x0⟩
  | .SC_TPL_IDX => ⟨0x400080, 1, 1, 0x0, 0x0⟩
  | .SC_TPL_DATA_0 => ⟨0x400084, 1, 1, 0x0, 0x0⟩
  | .SC_TPL_DATA_1 => ⟨0x400088, 1, 1, 0x0, 0x0⟩
  | .SC_TPL_DATA_2 => ⟨0x40008c, 1, 1, 0x0, 0x0⟩
  | .SC_TPL_DATA_3 => ⟨0x400090, 1, 1, 0x0, 0x0⟩
  | .SC_IMG_IDX => ⟨0x4000a0, 1, 1, 0x0, 0x0⟩
  | .SC_IMG_ID_LO => ⟨0x4000a4, 1, 1, 0x0, 0x0⟩
  | .SC_IMG_ID_HI => ⟨0x4000a8, 1, 1, 0x0, 0x0⟩
  | .SC_LOC_IDX => ⟨0x4000b0, 1, 1, 0x0, 0x0⟩
  | .SC_LOC_CTRL => ⟨0x4000b4, 1, 1, 0x0, 0x0⟩
  | .SC_LOC_DATA => ⟨0x4000b8, 1, 1, 0x0, 0x0⟩
  | .SC_GRP_IDX => ⟨0x4000c0, 1, 1, 0x0, 0x0⟩
  | .SC_GRP_STATE => ⟨0x4000c4, 1, 1, 0x0, 0x0⟩
  | .SC_GRP_OUT => ⟨0x4000c8, 1, 1, 0x0, 0x0⟩
  | .SC_USE_IDX => ⟨0x4000d0, 1, 1, 0x0, 0x0⟩
  | .SC_USE => ⟨0x4000d4, 1, 1, 0x0, 0x0⟩
  | .SC_WMAP => ⟨0x400100, 16, 16, 0x4, 0x0⟩
  | .SC_EMAP => ⟨0x400140, 8, 8, 0x4, 0x0⟩
  | .DE_STATE => ⟨0x500000, 256, 1, 0x0, 0x400⟩
  | .DE_CTRL => ⟨0x500004, 256, 1, 0x0, 0x400⟩
  | .DE_MODE => ⟨0x500008, 256, 1, 0x0, 0x400⟩
  | .DE_FLAGS => ⟨0x50000c, 256, 1, 0x0, 0x400⟩
  | .DE_PC => ⟨0x500010, 256, 1, 0x0, 0x400⟩
  | .DE_TASK => ⟨0x500014, 256, 1, 0x0, 0x400⟩
  | .DE_EXC => ⟨0x500018, 256, 1, 0x0, 0x400⟩
  | .DE_EXC_ADDR => ⟨0x50001c, 256, 1, 0x0, 0x400⟩
  | .DE_FAULT_TAG_LO => ⟨0x500020, 256, 1, 0x0, 0x400⟩
  | .DE_FAULT_TAG_HI => ⟨0x500024, 256, 1, 0x0, 0x400⟩
  | .DE_REP => ⟨0x500028, 256, 1, 0x0, 0x400⟩
  | .DE_CFG => ⟨0x50002c, 256, 1, 0x0, 0x400⟩
  | .DE_CYCLES_LO => ⟨0x500030, 256, 1, 0x0, 0x400⟩
  | .DE_CYCLES_HI => ⟨0x500034, 256, 1, 0x0, 0x400⟩
  | .DE_STALL_COUNT => ⟨0x500038, 256, 1, 0x0, 0x400⟩
  | .DE_EXC_COUNT => ⟨0x50003c, 256, 1, 0x0, 0x400⟩
  | .DE_RF_IDX => ⟨0x500040, 256, 1, 0x0, 0x400⟩
  | .DE_RF_DATA => ⟨0x500044, 256, 1, 0x0, 0x400⟩
  | .DP_STATUS => ⟨0x600000, 16, 1, 0x0, 0x4000⟩
  | .DP_CTRL => ⟨0x600004, 16, 1, 0x0, 0x4000⟩
  | .DP_CFG => ⟨0x600008, 16, 1, 0x0, 0x4000⟩
  | .DP_RXCFG => ⟨0x60000c, 16, 1, 0x0, 0x4000⟩
  | .DP_PEER => ⟨0x600010, 16, 1, 0x0, 0x4000⟩
  | .DP_PEER_UID_LO => ⟨0x600014, 16, 1, 0x0, 0x4000⟩
  | .DP_PEER_UID_HI => ⟨0x600018, 16, 1, 0x0, 0x4000⟩
  | .DP_REPAIR => ⟨0x60001c, 16, 1, 0x0, 0x4000⟩
  | .DP_TRAIN_COUNT => ⟨0x600020, 16, 1, 0x0, 0x4000⟩
  | .DP_RETRY_COUNT => ⟨0x600024, 16, 1, 0x0, 0x4000⟩
  | .DP_TXBOOK => ⟨0x600030, 64, 4, 0x4, 0x4000⟩
  | .DP_RXBOOK => ⟨0x600040, 64, 4, 0x4, 0x4000⟩
  | .SL_STATUS => ⟨0x700000, 16, 1, 0x0, 0x4000⟩
  | .SL_CTRL => ⟨0x700004, 16, 1, 0x0, 0x4000⟩
  | .SL_CFG => ⟨0x700008, 16, 1, 0x0, 0x4000⟩
  | .SL_RXCFG => ⟨0x70000c, 16, 1, 0x0, 0x4000⟩
  | .SL_PWR => ⟨0x700010, 16, 1, 0x0, 0x4000⟩
  | .SL_PEER => ⟨0x700014, 16, 1, 0x0, 0x4000⟩
  | .SL_PEER_UID_LO => ⟨0x700018, 16, 1, 0x0, 0x4000⟩
  | .SL_PEER_UID_HI => ⟨0x70001c, 16, 1, 0x0, 0x4000⟩
  | .SL_TXEQ => ⟨0x700020, 16, 1, 0x0, 0x4000⟩
  | .SL_RXEQ => ⟨0x700024, 16, 1, 0x0, 0x4000⟩
  | .SL_FEC_COUNT => ⟨0x700028, 16, 1, 0x0, 0x4000⟩
  | .SL_FEC_UE_COUNT => ⟨0x70002c, 16, 1, 0x0, 0x4000⟩
  | .SL_RETRY_COUNT => ⟨0x700030, 16, 1, 0x0, 0x4000⟩
  | .SL_TRAIN_COUNT => ⟨0x700034, 16, 1, 0x0, 0x4000⟩
  | .SL_TXBOOK => ⟨0x700040, 64, 4, 0x4, 0x4000⟩
  | .SL_RXBOOK => ⟨0x700050, 64, 4, 0x4, 0x4000⟩
  | .SL_LANE => ⟨0x700060, 64, 4, 0x4, 0x4000⟩
  | .SL_RAW_CFG => ⟨0x700070, 16, 1, 0x0, 0x4000⟩
  | .SL_RAW_RING => ⟨0x700074, 16, 1, 0x0, 0x4000⟩
  | .SL_RAW_STATUS => ⟨0x700078, 16, 1, 0x0, 0x4000⟩
  | .SL_DFE_IDX => ⟨0x700080, 16, 1, 0x0, 0x4000⟩
  | .SL_DFE_DATA => ⟨0x700084, 16, 1, 0x0, 0x4000⟩
  | .CR_STATUS => ⟨0x800000, 1, 1, 0x0, 0x0⟩
  | .CR_CACHE_HIT_COUNT => ⟨0x800004, 1, 1, 0x0, 0x0⟩
  | .CR_CACHE_MISS_COUNT => ⟨0x800008, 1, 1, 0x0, 0x0⟩
  | .CR_TAG_FAIL_COUNT => ⟨0x80000c, 1, 1, 0x0, 0x0⟩
  | .CR_REFUSE_COUNT => ⟨0x800010, 1, 1, 0x0, 0x0⟩
  | .CR_REENC_COUNT => ⟨0x800014, 1, 1, 0x0, 0x0⟩
  | .CR_FAIL_INFO => ⟨0x800018, 1, 1, 0x0, 0x0⟩
  | .CR_FAIL_INDEX => ⟨0x80001c, 1, 1, 0x0, 0x0⟩
  | .CR_RANGE_CTRL => ⟨0x800100, 32, 32, 0x20, 0x0⟩
  | .CR_RANGE_BASE => ⟨0x800104, 32, 32, 0x20, 0x0⟩
  | .CR_RANGE_META => ⟨0x800108, 32, 32, 0x20, 0x0⟩
  | .CR_RANGE_STATE => ⟨0x80010c, 32, 32, 0x20, 0x0⟩
  | .CR_LINK_CFG => ⟨0x800800, 32, 32, 0x10, 0x0⟩
  | .CR_LINK_STATUS => ⟨0x800804, 32, 32, 0x10, 0x0⟩
  | .CR_LINK_TXE => ⟨0x800808, 32, 32, 0x10, 0x0⟩
  | .CR_LINK_COUNT => ⟨0x80080c, 32, 32, 0x10, 0x0⟩
  | .EC_STATUS => ⟨0x900000, 1, 1, 0x0, 0x0⟩
  | .EC_MOW_CFG => ⟨0x900004, 1, 1, 0x0, 0x0⟩
  | .EC_MOW_STATUS => ⟨0x900008, 1, 1, 0x0, 0x0⟩
  | .EC_MOW_PERIOD => ⟨0x90000c, 1, 1, 0x0, 0x0⟩
  | .EC_CE_COUNT => ⟨0x900010, 4, 4, 0x4, 0x0⟩
  | .EC_UE_COUNT => ⟨0x900020, 4, 4, 0x4, 0x0⟩
  | .EC_POISON_WRITE_COUNT => ⟨0x900030, 1, 1, 0x0, 0x0⟩
  | .EC_LOG_CTRL => ⟨0x900040, 1, 1, 0x0, 0x0⟩
  | .EC_LOG_ADDR_LO => ⟨0x900044, 1, 1, 0x0, 0x0⟩
  | .EC_LOG_ADDR_HI => ⟨0x900048, 1, 1, 0x0, 0x0⟩
  | .EC_LOG_INFO => ⟨0x90004c, 1, 1, 0x0, 0x0⟩
  | .EC_LOG_SYND => ⟨0x900050, 1, 1, 0x0, 0x0⟩
  | .EC_CTM_CTRL => ⟨0x900080, 1, 1, 0x0, 0x0⟩
  | .EC_CTM_CHECK => ⟨0x900084, 1, 1, 0x0, 0x0⟩
  | .EC_CTM_SYND => ⟨0x900088, 1, 1, 0x0, 0x0⟩
  | .EC_CTM_FLIP => ⟨0x9000a0, 8, 8, 0x4, 0x0⟩
  | .EC_SPARE_IDX => ⟨0x9000c0, 1, 1, 0x0, 0x0⟩
  | .EC_SPARE_DATA => ⟨0x9000c4, 1, 1, 0x0, 0x0⟩
  | .BT_STATUS => ⟨0xa00000, 1, 1, 0x0, 0x0⟩
  | .BT_BOOT => ⟨0xa00004, 1, 1, 0x0, 0x0⟩
  | .BT_START_TIME => ⟨0xa00008, 1, 1, 0x0, 0x0⟩
  | .BT_BG_CFG => ⟨0xa0000c, 1, 1, 0x0, 0x0⟩
  | .BT_BG_STATUS => ⟨0xa00010, 1, 1, 0x0, 0x0⟩
  | .BT_FRESET => ⟨0xa00014, 1, 1, 0x0, 0x0⟩
  | .BT_RES_CTRL => ⟨0xa00020, 1, 1, 0x0, 0x0⟩
  | .BT_RES_WHERE => ⟨0xa00024, 1, 1, 0x0, 0x0⟩
  | .BT_RES_ADDR => ⟨0xa00028, 1, 1, 0x0, 0x0⟩
  | .BT_RES_INFO => ⟨0xa0002c, 1, 1, 0x0, 0x0⟩
  | .BT_SLICE_MAP => ⟨0xa00040, 4, 4, 0x4, 0x0⟩
  | .RP_STATUS => ⟨0xb00000, 1, 1, 0x0, 0x0⟩
  | .RP_CFG => ⟨0xb00004, 1, 1, 0x0, 0x0⟩
  | .RP_RING => ⟨0xb00008, 1, 1, 0x0, 0x0⟩
  | .RP_LINKS => ⟨0xb0000c, 1, 1, 0x0, 0x0⟩
  | .RP_SOURCES => ⟨0xb00010, 1, 1, 0x0, 0x0⟩
  | .RP_STAMP_LO => ⟨0xb00014, 1, 1, 0x0, 0x0⟩
  | .RP_STAMP_HI => ⟨0xb00018, 1, 1, 0x0, 0x0⟩
  | .RP_FILL => ⟨0xb0001c, 1, 1, 0x0, 0x0⟩
  | .RP_DROP => ⟨0xb00020, 1, 1, 0x0, 0x0⟩
  | .RP_HAZARD => ⟨0xb00024, 1, 1, 0x0, 0x0⟩
  | .RP_FIRST_LO => ⟨0xb00028, 1, 1, 0x0, 0x0⟩
  | .RP_FIRST_HI => ⟨0xb0002c, 1, 1, 0x0, 0x0⟩
  | .RP_BREAK_LO => ⟨0xb00030, 1, 1, 0x0, 0x0⟩
  | .RP_BREAK_HI => ⟨0xb00034, 1, 1, 0x0, 0x0⟩
  | .RP_SAFE_CAUSE => ⟨0xb00038, 1, 1, 0x0, 0x0⟩
  | .RP_SAFE_STAMP_LO => ⟨0xb0003c, 1, 1, 0x0, 0x0⟩
  | .RP_SAFE_STAMP_HI => ⟨0xb00040, 1, 1, 0x0, 0x0⟩
  | .LC_STATE => ⟨0xc00000, 1, 1, 0x0, 0x0⟩
  | .LC_DEBUG => ⟨0xc00004, 1, 1, 0x0, 0x0⟩
  | .LC_KEYS => ⟨0xc00008, 1, 1, 0x0, 0x0⟩
  | .LC_SVN => ⟨0xc0000c, 1, 1, 0x0, 0x0⟩
  | .LC_FW_EDITION => ⟨0xc00010, 1, 1, 0x0, 0x0⟩
  | .LC_FW_STATUS => ⟨0xc00014, 1, 1, 0x0, 0x0⟩
  | .LC_CHAL_CTRL => ⟨0xc00018, 1, 1, 0x0, 0x0⟩
  | .LC_AUTH_FAIL => ⟨0xc0001c, 1, 1, 0x0, 0x0⟩
  | .LC_CHAL => ⟨0xc00020, 8, 8, 0x4, 0x0⟩
  | .CO_STATUS => ⟨0xd00000, 1, 1, 0x0, 0x0⟩
  | .CO_CFG => ⟨0xd00004, 1, 1, 0x0, 0x0⟩
  | .CO_NODE => ⟨0xd00008, 1, 1, 0x0, 0x0⟩
  | .CO_VC_WEIGHT => ⟨0xd0000c, 1, 1, 0x0, 0x0⟩
  | .CO_BERR_SRC => ⟨0xd00010, 1, 1, 0x0, 0x0⟩
  | .CO_BERR_ADDR_LO => ⟨0xd00014, 1, 1, 0x0, 0x0⟩
  | .CO_BERR_ADDR_HI => ⟨0xd00018, 1, 1, 0x0, 0x0⟩
  | .CO_BERR_COUNT => ⟨0xd0001c, 1, 1, 0x0, 0x0⟩
  | .CO_DROP_COUNT => ⟨0xd00020, 1, 1, 0x0, 0x0⟩
  | .CO_CE_COUNT => ⟨0xd00024, 1, 1, 0x0, 0x0⟩
  | .CO_TIMEOUT_COUNT => ⟨0xd00028, 1, 1, 0x0, 0x0⟩
  | .CO_BOOK_IDX => ⟨0xd00030, 1, 1, 0x0, 0x0⟩
  | .CO_BOOK_SEND => ⟨0xd00034, 1, 1, 0x0, 0x0⟩
  | .CO_BOOK_FLIGHT => ⟨0xd00038, 1, 1, 0x0, 0x0⟩
  | .CO_BOOK_FREE => ⟨0xd0003c, 1, 1, 0x0, 0x0⟩
  | .CO_ROUTE => ⟨0xd01000, 1024, 1024, 0x4, 0x0⟩
  | .CO_RWIN_CTRL => ⟨0xd02000, 32, 32, 0x10, 0x0⟩
  | .CO_RWIN_BASE_LO => ⟨0xd02004, 32, 32, 0x10, 0x0⟩
  | .CO_RWIN_BASE_HI => ⟨0xd02008, 32, 32, 0x10, 0x0⟩

/-- The fields of each register, high bits first. Bits in no field are reserved (R6). -/
def Reg.fields : Reg → List Field
  | .HK_ID_VENDOR => [Fld.HK_ID_VENDOR_VENDOR]
  | .HK_ID_PART => [Fld.HK_ID_PART_FAMILY, Fld.HK_ID_PART_PART]
  | .HK_ID_REV => [Fld.HK_ID_REV_STEP_LETTER, Fld.HK_ID_REV_STEP_NUM]
  | .HK_ID_NODE => [Fld.HK_ID_NODE_VALID, Fld.HK_ID_NODE_NODE]
  | .HK_ID_UID_LO => [Fld.HK_ID_UID_LO_UID]
  | .HK_ID_UID_HI => [Fld.HK_ID_UID_HI_UID]
  | .HK_STATUS => [Fld.HK_STATUS_STEP, Fld.HK_STATUS_READY, Fld.HK_STATUS_SAFE, Fld.HK_STATUS_TIER]
  | .HK_ROUND => [Fld.HK_ROUND_COUNT]
  | .HK_CH => [Fld.HK_CH_VALID, Fld.HK_CH_FAULT, Fld.HK_CH_VALUE]
  | .CK_STATUS => [Fld.CK_STATUS_RC_FAIL, Fld.CK_STATUS_MP_SRC, Fld.CK_STATUS_HK_SRC, Fld.CK_STATUS_REF_GOOD,
      Fld.CK_STATUS_HEARTH]
  | .CK_REF_LOST => [Fld.CK_REF_LOST_ACTIVE, Fld.CK_REF_LOST_COUNT]
  | .CK_SW_FORCED => [Fld.CK_SW_FORCED_COUNT, Fld.CK_SW_FORCED_MP, Fld.CK_SW_FORCED_HK]
  | .CK_REF_JUDGE => [Fld.CK_REF_JUDGE_WINDOWS, Fld.CK_REF_JUDGE_LAST]
  | .CK_RC_TRIM => [Fld.CK_RC_TRIM_TEMP, Fld.CK_RC_TRIM_CODE]
  | .CK_GATE_ROOM => [Fld.CK_GATE_ROOM_REQ]
  | .CK_GATE_DSP => [Fld.CK_GATE_DSP_REQ]
  | .CK_GATE_LINK => [Fld.CK_GATE_LINK_REQ]
  | .CK_GATE_UNIT => [Fld.CK_GATE_UNIT_REQ]
  | .CK_GSTAT_ROOM => [Fld.CK_GSTAT_ROOM_OPEN]
  | .CK_GSTAT_DSP => [Fld.CK_GSTAT_DSP_OPEN]
  | .CK_GSTAT_LINK => [Fld.CK_GSTAT_LINK_OPEN]
  | .CK_GSTAT_UNIT => [Fld.CK_GSTAT_UNIT_OPEN]
  | .CK_GATE_EVENT => [Fld.CK_GATE_EVENT_REFUSED, Fld.CK_GATE_EVENT_DRAIN_BERR]
  | .PW_STATUS => [Fld.PW_STATUS_FAB_LOST, Fld.PW_STATUS_LND_LOST, Fld.PW_STATUS_LOFT_LOST, Fld.PW_STATUS_PGOOD]
  | .PW_SHED_CFG => [Fld.PW_SHED_CFG_T6, Fld.PW_SHED_CFG_T5, Fld.PW_SHED_CFG_T4, Fld.PW_SHED_CFG_T3,
      Fld.PW_SHED_CFG_T2, Fld.PW_SHED_CFG_T1]
  | .PW_SHED_HYST => [Fld.PW_SHED_HYST_HOLD_US, Fld.PW_SHED_HYST_HYST]
  | .PW_SHED_STATUS => [Fld.PW_SHED_STATUS_ENTRIES, Fld.PW_SHED_STATUS_WORST_RAIL, Fld.PW_SHED_STATUS_LEVEL]
  | .TH_CFG => [Fld.TH_CFG_REQ_C, Fld.TH_CFG_HYST, Fld.TH_CFG_GRACE_MS, Fld.TH_CFG_STEP_MS]
  | .TH_STATUS => [Fld.TH_STATUS_SHUTDOWN, Fld.TH_STATUS_SHUT_CAUSE, Fld.TH_STATUS_SHUT_CH,
      Fld.TH_STATUS_DIODE_FAULT, Fld.TH_STATUS_LEVEL, Fld.TH_STATUS_REQ]
  | .TH_TJ => [Fld.TH_TJ_HOT_CH, Fld.TH_TJ_TJ]
  | .TH_XT_CFG => [Fld.TH_XT_CFG_OUTLET_SHDN, Fld.TH_XT_CFG_MODE, Fld.TH_XT_CFG_ROLE, Fld.TH_XT_CFG_BETA]
  | .TH_AGE_STATUS => [Fld.TH_AGE_STATUS_EXCEEDED, Fld.TH_AGE_STATUS_WARN, Fld.TH_AGE_STATUS_LAYER,
      Fld.TH_AGE_STATUS_DEGR]
  | .TH_LIFE => [Fld.TH_LIFE_HOURS]
  | .MB_STATUS => [Fld.MB_STATUS_INPROG, Fld.MB_STATUS_I3C_DA, Fld.MB_STATUS_I3C_BADLEN, Fld.MB_STATUS_ENG_DROP,
      Fld.MB_STATUS_BOOTROM]
  | .MB_CFG => [Fld.MB_CFG_I3C_IRQ, Fld.MB_CFG_PORT_EN, Fld.MB_CFG_I3C_EN]
  | .MB_PERM => [Fld.MB_PERM_RAW, Fld.MB_PERM_GROUPS]
  | .MB_EVT_MASK => [Fld.MB_EVT_MASK_MASK]
  | .MB_EVT_DEST => [Fld.MB_EVT_DEST_VALID, Fld.MB_EVT_DEST_NODE, Fld.MB_EVT_DEST_EP, Fld.MB_EVT_DEST_MASK]
  | .MB_EVT_DROP => [Fld.MB_EVT_DROP_COUNT]
  | .MB_CMD_COUNT => [Fld.MB_CMD_COUNT_COUNT]
  | .MB_ENG_BELL => [Fld.MB_ENG_BELL_ADDR]
  | .EP_EPOCH_LO => [Fld.EP_EPOCH_LO_EPOCH]
  | .EP_EPOCH_HI => [Fld.EP_EPOCH_HI_EPOCH]
  | .EP_STATUS => [Fld.EP_STATUS_BOOKS_FAULT, Fld.EP_STATUS_RESUME_PENDING, Fld.EP_STATUS_AUDIT_SUSPENDED,
      Fld.EP_STATUS_FROZEN, Fld.EP_STATUS_COMMIT_BUSY, Fld.EP_STATUS_STAGED_PENDING,
      Fld.EP_STATUS_CTM_ACTIVE, Fld.EP_STATUS_DEBUG_FORCED]
  | .EP_STAGED_COUNT => [Fld.EP_STAGED_COUNT_COUNT]
  | .EP_PEEK_ADDR => [Fld.EP_PEEK_ADDR_OFFSET]
  | .EP_PEEK_DATA => [Fld.EP_PEEK_DATA_DATA]
  | .EP_PEEK_STATUS => [Fld.EP_PEEK_STATUS_VALID, Fld.EP_PEEK_STATUS_STAGED]
  | .EP_AUDIT_COUNT => [Fld.EP_AUDIT_COUNT_COUNT]
  | .EP_AUDIT_LAST => [Fld.EP_AUDIT_LAST_TRIGGER, Fld.EP_AUDIT_LAST_DURATION]
  | .EP_FAULT_BOOK => [Fld.EP_FAULT_BOOK_BOOK, Fld.EP_FAULT_BOOK_INDEX]
  | .EP_FAULT_DELTA => [Fld.EP_FAULT_DELTA_DELTA]
  | .EP_ESC_COMMIT => [Fld.EP_ESC_COMMIT_COUNT]
  | .EP_ESC_RESET => [Fld.EP_ESC_RESET_CREDITS]
  | .EP_ESC_TOKENS => [Fld.EP_ESC_TOKENS_COUNT]
  | .EP_ESC_LINK => [Fld.EP_ESC_LINK_TX, Fld.EP_ESC_LINK_RX]
  | .LB_OWNER => [Fld.LB_OWNER_HANDOVER, Fld.LB_OWNER_KIND, Fld.LB_OWNER_ID]
  | .LB_NEXT_OWNER => [Fld.LB_NEXT_OWNER_VALID, Fld.LB_NEXT_OWNER_WIPE, Fld.LB_NEXT_OWNER_KIND, Fld.LB_NEXT_OWNER_ID]
  | .LB_GUEST => [Fld.LB_GUEST_VALID, Fld.LB_GUEST_KIND, Fld.LB_GUEST_ID]
  | .LB_CTRL => [Fld.LB_CTRL_AUTOWAKE, Fld.LB_CTRL_WIPE_ON_HANDOVER, Fld.LB_CTRL_REMOTE_OK]
  | .LB_PWR => [Fld.LB_PWR_CAUSE, Fld.LB_PWR_PSTATE, Fld.LB_PWR_RET_REQ]
  | .LB_STATUS => [Fld.LB_STATUS_DUAL, Fld.LB_STATUS_WIPE_BUSY, Fld.LB_STATUS_WIPE_DONE, Fld.LB_STATUS_WR_REFUSED,
      Fld.LB_STATUS_FALLOW]
  | .LB_WIPE => [Fld.LB_WIPE_GO]
  | .LB_BUSY_COUNT => [Fld.LB_BUSY_COUNT_COUNT]
  | .LB_DENY_COUNT => [Fld.LB_DENY_COUNT_COUNT]
  | .LB_HANDOVER_COUNT => [Fld.LB_HANDOVER_COUNT_COUNT]
  | .LB_ARBCFG => [Fld.LB_ARBCFG_SVC_WAIT]
  | .LB_FALLOW_MAP => [Fld.LB_FALLOW_MAP_MAP]
  | .LB_RET_MAP => [Fld.LB_RET_MAP_MAP]
  | .ST_STATUS => [Fld.ST_STATUS_SPARES_USED, Fld.ST_STATUS_VT_PARITY, Fld.ST_STATUS_VT_CONFLICT,
      Fld.ST_STATUS_REPAIR_BUSY, Fld.ST_STATUS_STATE]
  | .ST_NARROW => [Fld.ST_NARROW_ACTIVE, Fld.ST_NARROW_SURVIVOR, Fld.ST_NARROW_SEG, Fld.ST_NARROW_GROUP]
  | .ST_FAULT => [Fld.ST_FAULT_VALID, Fld.ST_FAULT_KIND, Fld.ST_FAULT_SEG, Fld.ST_FAULT_GROUP, Fld.ST_FAULT_POS]
  | .ST_CORR_COUNT => [Fld.ST_CORR_COUNT_COUNT]
  | .ST_REPAIR_COUNT => [Fld.ST_REPAIR_COUNT_COUNT]
  | .ST_REMAP_IDX => [Fld.ST_REMAP_IDX_INDEX]
  | .ST_REMAP_DATA => [Fld.ST_REMAP_DATA_VALID, Fld.ST_REMAP_DATA_SEG, Fld.ST_REMAP_DATA_GROUP, Fld.ST_REMAP_DATA_POS]
  | .ST_CFG => [Fld.ST_CFG_SUSPECT_LOG2WIN, Fld.ST_CFG_SUSPECT_N]
  | .ST_NARROW_MAP => [Fld.ST_NARROW_MAP_MAP]
  | .RM_PLANE => [Fld.RM_PLANE_P3_STATE, Fld.RM_PLANE_P2_STATE, Fld.RM_PLANE_P1_STATE, Fld.RM_PLANE_P0_STATE,
      Fld.RM_PLANE_NONE, Fld.RM_PLANE_PEND_VALID, Fld.RM_PLANE_PENDING, Fld.RM_PLANE_ACTIVE]
  | .RM_SWITCH => [Fld.RM_SWITCH_TARGET]
  | .RM_STATUS => [Fld.RM_STATUS_NARROW, Fld.RM_STATUS_PARK_SHED, Fld.RM_STATUS_LINK_LOST,
      Fld.RM_STATUS_SW_REFUSED, Fld.RM_STATUS_STATE]
  | .RM_EFF_DIV => [Fld.RM_EFF_DIV_THERM_DIV, Fld.RM_EFF_DIV_DIV]
  | .RM_LOAD_CTRL => [Fld.RM_LOAD_CTRL_GO, Fld.RM_LOAD_CTRL_SAVE_VICTIM, Fld.RM_LOAD_CTRL_OP, Fld.RM_LOAD_CTRL_PLANE,
      Fld.RM_LOAD_CTRL_LOFT, Fld.RM_LOAD_CTRL_ROW]
  | .RM_LOAD_STATUS => [Fld.RM_LOAD_STATUS_BUSY, Fld.RM_LOAD_STATUS_DONE, Fld.RM_LOAD_STATUS_PLANE,
      Fld.RM_LOAD_STATUS_ERR, Fld.RM_LOAD_STATUS_ROWS]
  | .RM_LOADCFG => [Fld.RM_LOADCFG_DRAIN_US, Fld.RM_LOADCFG_SHARE]
  | .RM_PLANE_CFG => [Fld.RM_PLANE_CFG_SAVE_ON_EVICT, Fld.RM_PLANE_CFG_DIV]
  | .RM_PSRC => [Fld.RM_PSRC_VALID, Fld.RM_PSRC_LOFT, Fld.RM_PSRC_ROW]
  | .RM_IMAGE_ID_LO => [Fld.RM_IMAGE_ID_LO_ID]
  | .RM_IMAGE_ID_HI => [Fld.RM_IMAGE_ID_HI_ID]
  | .RM_SWITCH_COUNT => [Fld.RM_SWITCH_COUNT_COUNT]
  | .RM_LOAD_COUNT => [Fld.RM_LOAD_COUNT_COUNT]
  | .RM_DROP_COUNT => [Fld.RM_DROP_COUNT_COUNT]
  | .RM_POISON_COUNT => [Fld.RM_POISON_COUNT_COUNT]
  | .SC_STATUS => [Fld.SC_STATUS_CAUSE, Fld.SC_STATUS_DRAINING, Fld.SC_STATUS_ENG_SHED, Fld.SC_STATUS_REFUSED,
      Fld.SC_STATUS_LOAD_FAIL, Fld.SC_STATUS_BAD_DONE, Fld.SC_STATUS_RUNNING]
  | .SC_CFG => [Fld.SC_CFG_ENABLE, Fld.SC_CFG_PREEMPT, Fld.SC_CFG_DECAY_LOG2]
  | .SC_SIZE => [Fld.SC_SIZE_FLOW_LOG2, Fld.SC_SIZE_MATCH_LOG2, Fld.SC_SIZE_MEADOW_LOG2]
  | .SC_RES => [Fld.SC_RES_COUNT, Fld.SC_RES_FIRST]
  | .SC_TICK_CFG => [Fld.SC_TICK_CFG_PERIOD]
  | .SC_TICK_LO => [Fld.SC_TICK_LO_TICK]
  | .SC_TICK_HI => [Fld.SC_TICK_HI_TICK]
  | .SC_RATE => [Fld.SC_RATE_THERM_CAP]
  | .SC_MEADOW => [Fld.SC_MEADOW_COUNT]
  | .SC_TOK_ISSUED_LO => [Fld.SC_TOK_ISSUED_LO_COUNT]
  | .SC_TOK_ISSUED_HI => [Fld.SC_TOK_ISSUED_HI_COUNT]
  | .SC_TOK_MATCHED_LO => [Fld.SC_TOK_MATCHED_LO_COUNT]
  | .SC_TOK_MATCHED_HI => [Fld.SC_TOK_MATCHED_HI_COUNT]
  | .SC_TOK_HELD => [Fld.SC_TOK_HELD_COUNT]
  | .SC_TOK_FLIGHT => [Fld.SC_TOK_FLIGHT_COUNT]
  | .SC_MATCH_USED => [Fld.SC_MATCH_USED_COUNT]
  | .SC_DISPATCH_COUNT => [Fld.SC_DISPATCH_COUNT_COUNT]
  | .SC_REFUSE_COUNT => [Fld.SC_REFUSE_COUNT_COUNT]
  | .SC_BAD_DONE_COUNT => [Fld.SC_BAD_DONE_COUNT_COUNT]
  | .SC_LOAD_FAIL_COUNT => [Fld.SC_LOAD_FAIL_COUNT_COUNT]
  | .SC_EVICT_COUNT => [Fld.SC_EVICT_COUNT_COUNT]
  | .SC_TPL_IDX => [Fld.SC_TPL_IDX_INDEX]
  | .SC_TPL_DATA_0 => [Fld.SC_TPL_DATA_0_VALID, Fld.SC_TPL_DATA_0_KIND, Fld.SC_TPL_DATA_0_NOPS, Fld.SC_TPL_DATA_0_LIST,
      Fld.SC_TPL_DATA_0_FLOW_BASE]
  | .SC_TPL_DATA_1 => [Fld.SC_TPL_DATA_1_FLOW_LOG2, Fld.SC_TPL_DATA_1_TARGET]
  | .SC_TPL_DATA_2 => [Fld.SC_TPL_DATA_2_CLUSTERS]
  | .SC_TPL_DATA_3 => [Fld.SC_TPL_DATA_3_DELAY]
  | .SC_IMG_IDX => [Fld.SC_IMG_IDX_INDEX]
  | .SC_IMG_ID_LO => [Fld.SC_IMG_ID_LO_ID]
  | .SC_IMG_ID_HI => [Fld.SC_IMG_ID_HI_ID]
  | .SC_LOC_IDX => [Fld.SC_LOC_IDX_INDEX]
  | .SC_LOC_CTRL => [Fld.SC_LOC_CTRL_VALID, Fld.SC_LOC_CTRL_BAD]
  | .SC_LOC_DATA => [Fld.SC_LOC_DATA_IMAGE, Fld.SC_LOC_DATA_ROOM, Fld.SC_LOC_DATA_LOFT, Fld.SC_LOC_DATA_ROW]
  | .SC_GRP_IDX => [Fld.SC_GRP_IDX_INDEX]
  | .SC_GRP_STATE => [Fld.SC_GRP_STATE_WINDOW]
  | .SC_GRP_OUT => [Fld.SC_GRP_OUT_OUTSTANDING]
  | .SC_USE_IDX => [Fld.SC_USE_IDX_SLOT]
  | .SC_USE => [Fld.SC_USE_COUNT]
  | .SC_WMAP => [Fld.SC_WMAP_MAP]
  | .SC_EMAP => [Fld.SC_EMAP_MAP]
  | .DE_STATE => [Fld.DE_STATE_TAGS, Fld.DE_STATE_THROTTLED, Fld.DE_STATE_REP, Fld.DE_STATE_TASK_VALID,
      Fld.DE_STATE_STATE]
  | .DE_CTRL => [Fld.DE_CTRL_HALT, Fld.DE_CTRL_STEP]
  | .DE_MODE => [Fld.DE_MODE_SAT]
  | .DE_FLAGS => [Fld.DE_FLAGS_STICKY, Fld.DE_FLAGS_N, Fld.DE_FLAGS_Z, Fld.DE_FLAGS_V]
  | .DE_PC => [Fld.DE_PC_PC]
  | .DE_TASK => [Fld.DE_TASK_VALID, Fld.DE_TASK_INDEX]
  | .DE_EXC => [Fld.DE_EXC_VALID, Fld.DE_EXC_CAUSE, Fld.DE_EXC_PC]
  | .DE_EXC_ADDR => [Fld.DE_EXC_ADDR_SPACE, Fld.DE_EXC_ADDR_WORD]
  | .DE_FAULT_TAG_LO => [Fld.DE_FAULT_TAG_LO_TAG]
  | .DE_FAULT_TAG_HI => [Fld.DE_FAULT_TAG_HI_TAG]
  | .DE_REP => [Fld.DE_REP_REMAINING]
  | .DE_CFG => [Fld.DE_CFG_EXC_ACTION, Fld.DE_CFG_REMOTE_OK]
  | .DE_CYCLES_LO => [Fld.DE_CYCLES_LO_COUNT]
  | .DE_CYCLES_HI => [Fld.DE_CYCLES_HI_COUNT]
  | .DE_STALL_COUNT => [Fld.DE_STALL_COUNT_COUNT]
  | .DE_EXC_COUNT => [Fld.DE_EXC_COUNT_COUNT]
  | .DE_RF_IDX => [Fld.DE_RF_IDX_REG]
  | .DE_RF_DATA => [Fld.DE_RF_DATA_DATA, Fld.DE_RF_DATA_DATA0]
  | .DP_STATUS => [Fld.DP_STATUS_RATE, Fld.DP_STATUS_LINK_LOST, Fld.DP_STATUS_TRAIN_FAIL, Fld.DP_STATUS_PEER_INIT,
      Fld.DP_STATUS_ENC, Fld.DP_STATUS_STATE]
  | .DP_CTRL => [Fld.DP_CTRL_RETRAIN, Fld.DP_CTRL_HOLD_DOWN]
  | .DP_CFG => [Fld.DP_CFG_ENABLE, Fld.DP_CFG_MAX_RATE, Fld.DP_CFG_TRAIN_TRIES, Fld.DP_CFG_L1_IDLE]
  | .DP_RXCFG => [Fld.DP_RXCFG_MGMT, Fld.DP_RXCFG_SCHED, Fld.DP_RXCFG_RSP, Fld.DP_RXCFG_REQ]
  | .DP_PEER => [Fld.DP_PEER_VALID, Fld.DP_PEER_ENC_CAP, Fld.DP_PEER_NODE_VALID, Fld.DP_PEER_REV,
      Fld.DP_PEER_NODE]
  | .DP_PEER_UID_LO => [Fld.DP_PEER_UID_LO_UID]
  | .DP_PEER_UID_HI => [Fld.DP_PEER_UID_HI_UID]
  | .DP_REPAIR => [Fld.DP_REPAIR_RX_USED, Fld.DP_REPAIR_TX_USED]
  | .DP_TRAIN_COUNT => [Fld.DP_TRAIN_COUNT_RETRAINS, Fld.DP_TRAIN_COUNT_FAILS]
  | .DP_RETRY_COUNT => [Fld.DP_RETRY_COUNT_COUNT]
  | .DP_TXBOOK => [Fld.DP_TXBOOK_ADVERTISED, Fld.DP_TXBOOK_CREDITS, Fld.DP_TXBOOK_OUTSTANDING]
  | .DP_RXBOOK => [Fld.DP_RXBOOK_DEPTH, Fld.DP_RXBOOK_OCCUPIED, Fld.DP_RXBOOK_RELEASED, Fld.DP_RXBOOK_HELD_FAR]
  | .SL_STATUS => [Fld.SL_STATUS_RATE, Fld.SL_STATUS_TXSTATE, Fld.SL_STATUS_RXSTATE, Fld.SL_STATUS_RAW,
      Fld.SL_STATUS_LINK_LOST, Fld.SL_STATUS_TRAIN_FAIL, Fld.SL_STATUS_PEER_INIT, Fld.SL_STATUS_ENC,
      Fld.SL_STATUS_STATE]
  | .SL_CTRL => [Fld.SL_CTRL_RETRAIN, Fld.SL_CTRL_HOLD_DOWN, Fld.SL_CTRL_SLIP, Fld.SL_CTRL_LANE]
  | .SL_CFG => [Fld.SL_CFG_ENABLE, Fld.SL_CFG_RAW, Fld.SL_CFG_MANUAL_ALIGN, Fld.SL_CFG_FFE_TUNE,
      Fld.SL_CFG_RATE, Fld.SL_CFG_TRAIN_TRIES]
  | .SL_RXCFG => [Fld.SL_RXCFG_MGMT, Fld.SL_RXCFG_SCHED, Fld.SL_RXCFG_RSP, Fld.SL_RXCFG_REQ]
  | .SL_PWR => [Fld.SL_PWR_TX_HOLD, Fld.SL_PWR_RX_HOLD, Fld.SL_PWR_SLEEP_US, Fld.SL_PWR_IDLE_NS]
  | .SL_PEER => [Fld.SL_PEER_VALID, Fld.SL_PEER_ENC_CAP, Fld.SL_PEER_NODE_VALID, Fld.SL_PEER_REV,
      Fld.SL_PEER_NODE]
  | .SL_PEER_UID_LO => [Fld.SL_PEER_UID_LO_UID]
  | .SL_PEER_UID_HI => [Fld.SL_PEER_UID_HI_UID]
  | .SL_TXEQ => [Fld.SL_TXEQ_CM2, Fld.SL_TXEQ_CM1, Fld.SL_TXEQ_C0, Fld.SL_TXEQ_CP1, Fld.SL_TXEQ_CP2]
  | .SL_RXEQ => [Fld.SL_RXEQ_DFE_FREEZE, Fld.SL_RXEQ_CTLE_FIX, Fld.SL_RXEQ_CTLE_USED, Fld.SL_RXEQ_CTLE_SET]
  | .SL_FEC_COUNT => [Fld.SL_FEC_COUNT_COUNT]
  | .SL_FEC_UE_COUNT => [Fld.SL_FEC_UE_COUNT_COUNT]
  | .SL_RETRY_COUNT => [Fld.SL_RETRY_COUNT_NAKS, Fld.SL_RETRY_COUNT_REPLAYS]
  | .SL_TRAIN_COUNT => [Fld.SL_TRAIN_COUNT_RETRAINS, Fld.SL_TRAIN_COUNT_FAILS]
  | .SL_TXBOOK => [Fld.SL_TXBOOK_ADVERTISED, Fld.SL_TXBOOK_CREDITS, Fld.SL_TXBOOK_OUTSTANDING]
  | .SL_RXBOOK => [Fld.SL_RXBOOK_DEPTH, Fld.SL_RXBOOK_OCCUPIED, Fld.SL_RXBOOK_RELEASED, Fld.SL_RXBOOK_HELD_FAR]
  | .SL_LANE => [Fld.SL_LANE_ALIGNED, Fld.SL_LANE_FRAME_LOCK, Fld.SL_LANE_MATCH, Fld.SL_LANE_PHASE,
      Fld.SL_LANE_SLIPS]
  | .SL_RAW_CFG => [Fld.SL_RAW_CFG_NOTIFY, Fld.SL_RAW_CFG_PLANE, Fld.SL_RAW_CFG_ROOM]
  | .SL_RAW_RING => [Fld.SL_RAW_RING_LOG2N, Fld.SL_RAW_RING_TXBASE, Fld.SL_RAW_RING_RXBASE, Fld.SL_RAW_RING_CTLBASE]
  | .SL_RAW_STATUS => [Fld.SL_RAW_STATUS_RX_DROPPED, Fld.SL_RAW_STATUS_TX_POISON, Fld.SL_RAW_STATUS_RAM_ERR]
  | .SL_DFE_IDX => [Fld.SL_DFE_IDX_LANE, Fld.SL_DFE_IDX_TAP]
  | .SL_DFE_DATA => [Fld.SL_DFE_DATA_VALUE]
  | .CR_STATUS => [Fld.CR_STATUS_KEY_ROLL_REQUIRED, Fld.CR_STATUS_RANGE_FAILED, Fld.CR_STATUS_TAG_FAIL,
      Fld.CR_STATUS_LINK_AUTH_FAIL, Fld.CR_STATUS_CACHE_UE]
  | .CR_CACHE_HIT_COUNT => [Fld.CR_CACHE_HIT_COUNT_COUNT]
  | .CR_CACHE_MISS_COUNT => [Fld.CR_CACHE_MISS_COUNT_COUNT]
  | .CR_TAG_FAIL_COUNT => [Fld.CR_TAG_FAIL_COUNT_COUNT]
  | .CR_REFUSE_COUNT => [Fld.CR_REFUSE_COUNT_COUNT]
  | .CR_REENC_COUNT => [Fld.CR_REENC_COUNT_COUNT]
  | .CR_FAIL_INFO => [Fld.CR_FAIL_INFO_VALID, Fld.CR_FAIL_INFO_KIND, Fld.CR_FAIL_INFO_RANGE, Fld.CR_FAIL_INFO_LEVEL]
  | .CR_FAIL_INDEX => [Fld.CR_FAIL_INDEX_INDEX]
  | .CR_RANGE_CTRL => [Fld.CR_RANGE_CTRL_ENABLE, Fld.CR_RANGE_CTRL_WINDOW, Fld.CR_RANGE_CTRL_LOG2PAGES]
  | .CR_RANGE_BASE => [Fld.CR_RANGE_BASE_BASE]
  | .CR_RANGE_META => [Fld.CR_RANGE_META_META]
  | .CR_RANGE_STATE => [Fld.CR_RANGE_STATE_KEY_ROLL_REQUIRED, Fld.CR_RANGE_STATE_STATE, Fld.CR_RANGE_STATE_PROGRESS]
  | .CR_LINK_CFG => [Fld.CR_LINK_CFG_REQUIRE, Fld.CR_LINK_CFG_AUTO_KEX, Fld.CR_LINK_CFG_CURVE]
  | .CR_LINK_STATUS => [Fld.CR_LINK_STATUS_TX_ENC, Fld.CR_LINK_STATUS_RX_ENC, Fld.CR_LINK_STATUS_TX_KPH,
      Fld.CR_LINK_STATUS_RX_KPH, Fld.CR_LINK_STATUS_KEX_BUSY, Fld.CR_LINK_STATUS_STALLED,
      Fld.CR_LINK_STATUS_CURVE_USED]
  | .CR_LINK_TXE => [Fld.CR_LINK_TXE_E]
  | .CR_LINK_COUNT => [Fld.CR_LINK_COUNT_AUTH_FAIL, Fld.CR_LINK_COUNT_PLAIN_DROP]
  | .EC_STATUS => [Fld.EC_STATUS_CTM_REFUSED, Fld.EC_STATUS_CTM_ACTIVE, Fld.EC_STATUS_CONFIG_UE,
      Fld.EC_STATUS_LOG_OVERFLOW, Fld.EC_STATUS_MOW_FAST, Fld.EC_STATUS_MOW_SHED,
      Fld.EC_STATUS_MOW_RUNNING]
  | .EC_MOW_CFG => [Fld.EC_MOW_CFG_ENABLE, Fld.EC_MOW_CFG_BASE_S, Fld.EC_MOW_CFG_THRESH]
  | .EC_MOW_STATUS => [Fld.EC_MOW_STATUS_ROUNDS, Fld.EC_MOW_STATUS_CE_WINDOW]
  | .EC_MOW_PERIOD => [Fld.EC_MOW_PERIOD_PERIOD_MS]
  | .EC_CE_COUNT => [Fld.EC_CE_COUNT_COUNT]
  | .EC_UE_COUNT => [Fld.EC_UE_COUNT_COUNT]
  | .EC_POISON_WRITE_COUNT => [Fld.EC_POISON_WRITE_COUNT_COUNT]
  | .EC_LOG_CTRL => [Fld.EC_LOG_CTRL_POP, Fld.EC_LOG_CTRL_FILL]
  | .EC_LOG_ADDR_LO => [Fld.EC_LOG_ADDR_LO_ADDR]
  | .EC_LOG_ADDR_HI => [Fld.EC_LOG_ADDR_HI_ADDR]
  | .EC_LOG_INFO => [Fld.EC_LOG_INFO_CLASS, Fld.EC_LOG_INFO_SOURCE, Fld.EC_LOG_INFO_STORE, Fld.EC_LOG_INFO_WORD]
  | .EC_LOG_SYND => [Fld.EC_LOG_SYND_SC, Fld.EC_LOG_SYND_SR]
  | .EC_CTM_CTRL => [Fld.EC_CTM_CTRL_ENABLE, Fld.EC_CTM_CTRL_RAW_READ, Fld.EC_CTM_CTRL_BANK]
  | .EC_CTM_CHECK => [Fld.EC_CTM_CHECK_C_FLIP, Fld.EC_CTM_CHECK_R_FLIP]
  | .EC_CTM_SYND => [Fld.EC_CTM_SYND_SC, Fld.EC_CTM_SYND_SR]
  | .EC_CTM_FLIP => [Fld.EC_CTM_FLIP_FLIP]
  | .EC_SPARE_IDX => [Fld.EC_SPARE_IDX_BANK, Fld.EC_SPARE_IDX_SPARE]
  | .EC_SPARE_DATA => [Fld.EC_SPARE_DATA_STATE, Fld.EC_SPARE_DATA_COPYING, Fld.EC_SPARE_DATA_COLUMN]
  | .BT_STATUS => [Fld.BT_STATUS_OVERFLOW, Fld.BT_STATUS_PROFILE_WAIT, Fld.BT_STATUS_BG_RUNNING,
      Fld.BT_STATUS_ST_RUNNING]
  | .BT_BOOT => [Fld.BT_BOOT_CAUSE, Fld.BT_BOOT_PROFILE, Fld.BT_BOOT_DROPPED]
  | .BT_START_TIME => [Fld.BT_START_TIME_US]
  | .BT_BG_CFG => [Fld.BT_BG_CFG_ENABLE, Fld.BT_BG_CFG_INTERVAL]
  | .BT_BG_STATUS => [Fld.BT_BG_STATUS_ABORTED, Fld.BT_BG_STATUS_ROUNDS]
  | .BT_FRESET => [Fld.BT_FRESET_DROPPED, Fld.BT_FRESET_POISONED]
  | .BT_RES_CTRL => [Fld.BT_RES_CTRL_POP, Fld.BT_RES_CTRL_FILL]
  | .BT_RES_WHERE => [Fld.BT_RES_WHERE_KIND, Fld.BT_RES_WHERE_LAYER, Fld.BT_RES_WHERE_UNIT]
  | .BT_RES_ADDR => [Fld.BT_RES_ADDR_ADDR]
  | .BT_RES_INFO => [Fld.BT_RES_INFO_OUTCOME, Fld.BT_RES_INFO_PHASE, Fld.BT_RES_INFO_SEG, Fld.BT_RES_INFO_BIT]
  | .BT_SLICE_MAP => [Fld.BT_SLICE_MAP_MAP]
  | .RP_STATUS => [Fld.RP_STATUS_SAFE, Fld.RP_STATUS_UNRECORDED, Fld.RP_STATUS_CONFIG_DIFF, Fld.RP_STATUS_DIVERGED,
      Fld.RP_STATUS_HAZARD, Fld.RP_STATUS_GAP, Fld.RP_STATUS_WRAPPED, Fld.RP_STATUS_STATE]
  | .RP_CFG => [Fld.RP_CFG_ARM, Fld.RP_CFG_WRAP]
  | .RP_RING => [Fld.RP_RING_BANKS, Fld.RP_RING_FIRST]
  | .RP_LINKS => [Fld.RP_LINKS_MASK]
  | .RP_SOURCES => [Fld.RP_SOURCES_SOURCES]
  | .RP_STAMP_LO => [Fld.RP_STAMP_LO_STAMP]
  | .RP_STAMP_HI => [Fld.RP_STAMP_HI_STAMP]
  | .RP_FILL => [Fld.RP_FILL_UNITS]
  | .RP_DROP => [Fld.RP_DROP_GAPS, Fld.RP_DROP_DROPPED]
  | .RP_HAZARD => [Fld.RP_HAZARD_COUNT]
  | .RP_FIRST_LO => [Fld.RP_FIRST_LO_STAMP]
  | .RP_FIRST_HI => [Fld.RP_FIRST_HI_KIND, Fld.RP_FIRST_HI_STAMP]
  | .RP_BREAK_LO => [Fld.RP_BREAK_LO_STAMP]
  | .RP_BREAK_HI => [Fld.RP_BREAK_HI_ENABLE, Fld.RP_BREAK_HI_STAMP]
  | .RP_SAFE_CAUSE => [Fld.RP_SAFE_CAUSE_VALID, Fld.RP_SAFE_CAUSE_CAUSE]
  | .RP_SAFE_STAMP_LO => [Fld.RP_SAFE_STAMP_LO_STAMP]
  | .RP_SAFE_STAMP_HI => [Fld.RP_SAFE_STAMP_HI_STAMP]
  | .LC_STATE => [Fld.LC_STATE_PARTIAL, Fld.LC_STATE_CERTIFIED, Fld.LC_STATE_ID_KEYS, Fld.LC_STATE_STATE]
  | .LC_DEBUG => [Fld.LC_DEBUG_LEVEL]
  | .LC_KEYS => [Fld.LC_KEYS_FUSED]
  | .LC_SVN => [Fld.LC_SVN_MIN]
  | .LC_FW_EDITION => [Fld.LC_FW_EDITION_EDITION]
  | .LC_FW_STATUS => [Fld.LC_FW_STATUS_SLOT, Fld.LC_FW_STATUS_OTHER_VALID, Fld.LC_FW_STATUS_SVN]
  | .LC_CHAL_CTRL => [Fld.LC_CHAL_CTRL_NEW, Fld.LC_CHAL_CTRL_VALID]
  | .LC_AUTH_FAIL => [Fld.LC_AUTH_FAIL_COUNT]
  | .LC_CHAL => [Fld.LC_CHAL_CHAL]
  | .CO_STATUS => [Fld.CO_STATUS_LINK_UE, Fld.CO_STATUS_DROPPED, Fld.CO_STATUS_BERR]
  | .CO_CFG => [Fld.CO_CFG_RSP_LIMIT, Fld.CO_CFG_HOP_LIMIT]
  | .CO_NODE => [Fld.CO_NODE_VALID, Fld.CO_NODE_NODE]
  | .CO_VC_WEIGHT => [Fld.CO_VC_WEIGHT_MGMT, Fld.CO_VC_WEIGHT_SCHED, Fld.CO_VC_WEIGHT_RSP, Fld.CO_VC_WEIGHT_REQ]
  | .CO_BERR_SRC => [Fld.CO_BERR_SRC_CAUSE, Fld.CO_BERR_SRC_SRC_EP, Fld.CO_BERR_SRC_SRC_NODE]
  | .CO_BERR_ADDR_LO => [Fld.CO_BERR_ADDR_LO_ADDR]
  | .CO_BERR_ADDR_HI => [Fld.CO_BERR_ADDR_HI_ADDR]
  | .CO_BERR_COUNT => [Fld.CO_BERR_COUNT_COUNT]
  | .CO_DROP_COUNT => [Fld.CO_DROP_COUNT_NOROUTE, Fld.CO_DROP_COUNT_MALFORMED]
  | .CO_CE_COUNT => [Fld.CO_CE_COUNT_COUNT]
  | .CO_TIMEOUT_COUNT => [Fld.CO_TIMEOUT_COUNT_LATE, Fld.CO_TIMEOUT_COUNT_EXPIRED]
  | .CO_BOOK_IDX => [Fld.CO_BOOK_IDX_INDEX]
  | .CO_BOOK_SEND => [Fld.CO_BOOK_SEND_VALID, Fld.CO_BOOK_SEND_CREDITS]
  | .CO_BOOK_FLIGHT => [Fld.CO_BOOK_FLIGHT_FLITS]
  | .CO_BOOK_FREE => [Fld.CO_BOOK_FREE_FREE]
  | .CO_ROUTE => [Fld.CO_ROUTE_VALID, Fld.CO_ROUTE_KIND, Fld.CO_ROUTE_INDEX]
  | .CO_RWIN_CTRL => [Fld.CO_RWIN_CTRL_ENABLE, Fld.CO_RWIN_CTRL_NODE]
  | .CO_RWIN_BASE_LO => [Fld.CO_RWIN_BASE_LO_BASE]
  | .CO_RWIN_BASE_HI => [Fld.CO_RWIN_BASE_HI_BASE]

def Reg.all0 : List Reg :=
  [.HK_ID_VENDOR, .HK_ID_PART, .HK_ID_REV, .HK_ID_NODE, .HK_ID_UID_LO, .HK_ID_UID_HI, .HK_STATUS, .HK_ROUND, 
   .HK_CH, .CK_STATUS, .CK_REF_LOST, .CK_SW_FORCED, .CK_REF_JUDGE, .CK_RC_TRIM, .CK_GATE_ROOM, .CK_GATE_DSP, 
   .CK_GATE_LINK, .CK_GATE_UNIT, .CK_GSTAT_ROOM, .CK_GSTAT_DSP, .CK_GSTAT_LINK, .CK_GSTAT_UNIT, 
   .CK_GATE_EVENT, .PW_STATUS, .PW_SHED_CFG, .PW_SHED_HYST, .PW_SHED_STATUS, .TH_CFG, .TH_STATUS, .TH_TJ, 
   .TH_XT_CFG, .TH_AGE_STATUS, .TH_LIFE, .MB_STATUS]
def Reg.all1 : List Reg :=
  [.MB_CFG, .MB_PERM, .MB_EVT_MASK, .MB_EVT_DEST, .MB_EVT_DROP, .MB_CMD_COUNT, .MB_ENG_BELL, .EP_EPOCH_LO, 
   .EP_EPOCH_HI, .EP_STATUS, .EP_STAGED_COUNT, .EP_PEEK_ADDR, .EP_PEEK_DATA, .EP_PEEK_STATUS, .EP_AUDIT_COUNT, 
   .EP_AUDIT_LAST, .EP_FAULT_BOOK, .EP_FAULT_DELTA, .EP_ESC_COMMIT, .EP_ESC_RESET, .EP_ESC_TOKENS, 
   .EP_ESC_LINK, .LB_OWNER, .LB_NEXT_OWNER, .LB_GUEST, .LB_CTRL, .LB_PWR, .LB_STATUS, .LB_WIPE, 
   .LB_BUSY_COUNT, .LB_DENY_COUNT, .LB_HANDOVER_COUNT, .LB_ARBCFG, .LB_FALLOW_MAP]
def Reg.all2 : List Reg :=
  [.LB_RET_MAP, .ST_STATUS, .ST_NARROW, .ST_FAULT, .ST_CORR_COUNT, .ST_REPAIR_COUNT, .ST_REMAP_IDX, 
   .ST_REMAP_DATA, .ST_CFG, .ST_NARROW_MAP, .RM_PLANE, .RM_SWITCH, .RM_STATUS, .RM_EFF_DIV, .RM_LOAD_CTRL, 
   .RM_LOAD_STATUS, .RM_LOADCFG, .RM_PLANE_CFG, .RM_PSRC, .RM_IMAGE_ID_LO, .RM_IMAGE_ID_HI, .RM_SWITCH_COUNT, 
   .RM_LOAD_COUNT, .RM_DROP_COUNT, .RM_POISON_COUNT, .SC_STATUS, .SC_CFG, .SC_SIZE, .SC_RES, .SC_TICK_CFG, 
   .SC_TICK_LO, .SC_TICK_HI, .SC_RATE, .SC_MEADOW]
def Reg.all3 : List Reg :=
  [.SC_TOK_ISSUED_LO, .SC_TOK_ISSUED_HI, .SC_TOK_MATCHED_LO, .SC_TOK_MATCHED_HI, .SC_TOK_HELD, .SC_TOK_FLIGHT, 
   .SC_MATCH_USED, .SC_DISPATCH_COUNT, .SC_REFUSE_COUNT, .SC_BAD_DONE_COUNT, .SC_LOAD_FAIL_COUNT, 
   .SC_EVICT_COUNT, .SC_TPL_IDX, .SC_TPL_DATA_0, .SC_TPL_DATA_1, .SC_TPL_DATA_2, .SC_TPL_DATA_3, .SC_IMG_IDX, 
   .SC_IMG_ID_LO, .SC_IMG_ID_HI, .SC_LOC_IDX, .SC_LOC_CTRL, .SC_LOC_DATA, .SC_GRP_IDX, .SC_GRP_STATE, 
   .SC_GRP_OUT, .SC_USE_IDX, .SC_USE, .SC_WMAP, .SC_EMAP, .DE_STATE, .DE_CTRL, .DE_MODE, .DE_FLAGS]
def Reg.all4 : List Reg :=
  [.DE_PC, .DE_TASK, .DE_EXC, .DE_EXC_ADDR, .DE_FAULT_TAG_LO, .DE_FAULT_TAG_HI, .DE_REP, .DE_CFG, 
   .DE_CYCLES_LO, .DE_CYCLES_HI, .DE_STALL_COUNT, .DE_EXC_COUNT, .DE_RF_IDX, .DE_RF_DATA, .DP_STATUS, 
   .DP_CTRL, .DP_CFG, .DP_RXCFG, .DP_PEER, .DP_PEER_UID_LO, .DP_PEER_UID_HI, .DP_REPAIR, .DP_TRAIN_COUNT, 
   .DP_RETRY_COUNT, .DP_TXBOOK, .DP_RXBOOK, .SL_STATUS, .SL_CTRL, .SL_CFG, .SL_RXCFG, .SL_PWR, .SL_PEER, 
   .SL_PEER_UID_LO, .SL_PEER_UID_HI]
def Reg.all5 : List Reg :=
  [.SL_TXEQ, .SL_RXEQ, .SL_FEC_COUNT, .SL_FEC_UE_COUNT, .SL_RETRY_COUNT, .SL_TRAIN_COUNT, .SL_TXBOOK, 
   .SL_RXBOOK, .SL_LANE, .SL_RAW_CFG, .SL_RAW_RING, .SL_RAW_STATUS, .SL_DFE_IDX, .SL_DFE_DATA, .CR_STATUS, 
   .CR_CACHE_HIT_COUNT, .CR_CACHE_MISS_COUNT, .CR_TAG_FAIL_COUNT, .CR_REFUSE_COUNT, .CR_REENC_COUNT, 
   .CR_FAIL_INFO, .CR_FAIL_INDEX, .CR_RANGE_CTRL, .CR_RANGE_BASE, .CR_RANGE_META, .CR_RANGE_STATE, 
   .CR_LINK_CFG, .CR_LINK_STATUS, .CR_LINK_TXE, .CR_LINK_COUNT, .EC_STATUS, .EC_MOW_CFG, .EC_MOW_STATUS, 
   .EC_MOW_PERIOD]
def Reg.all6 : List Reg :=
  [.EC_CE_COUNT, .EC_UE_COUNT, .EC_POISON_WRITE_COUNT, .EC_LOG_CTRL, .EC_LOG_ADDR_LO, .EC_LOG_ADDR_HI, 
   .EC_LOG_INFO, .EC_LOG_SYND, .EC_CTM_CTRL, .EC_CTM_CHECK, .EC_CTM_SYND, .EC_CTM_FLIP, .EC_SPARE_IDX, 
   .EC_SPARE_DATA, .BT_STATUS, .BT_BOOT, .BT_START_TIME, .BT_BG_CFG, .BT_BG_STATUS, .BT_FRESET, .BT_RES_CTRL, 
   .BT_RES_WHERE, .BT_RES_ADDR, .BT_RES_INFO, .BT_SLICE_MAP, .RP_STATUS, .RP_CFG, .RP_RING, .RP_LINKS, 
   .RP_SOURCES, .RP_STAMP_LO, .RP_STAMP_HI, .RP_FILL, .RP_DROP]
def Reg.all7 : List Reg :=
  [.RP_HAZARD, .RP_FIRST_LO, .RP_FIRST_HI, .RP_BREAK_LO, .RP_BREAK_HI, .RP_SAFE_CAUSE, .RP_SAFE_STAMP_LO, 
   .RP_SAFE_STAMP_HI, .LC_STATE, .LC_DEBUG, .LC_KEYS, .LC_SVN, .LC_FW_EDITION, .LC_FW_STATUS, .LC_CHAL_CTRL, 
   .LC_AUTH_FAIL, .LC_CHAL, .CO_STATUS, .CO_CFG, .CO_NODE, .CO_VC_WEIGHT, .CO_BERR_SRC, .CO_BERR_ADDR_LO, 
   .CO_BERR_ADDR_HI, .CO_BERR_COUNT, .CO_DROP_COUNT, .CO_CE_COUNT, .CO_TIMEOUT_COUNT, .CO_BOOK_IDX, 
   .CO_BOOK_SEND, .CO_BOOK_FLIGHT, .CO_BOOK_FREE, .CO_ROUTE, .CO_RWIN_CTRL]
def Reg.all8 : List Reg :=
  [.CO_RWIN_BASE_LO, .CO_RWIN_BASE_HI]

/-- Every register, in ascending order of its first offset. -/
def Reg.all : List Reg :=
  Reg.all0 ++ Reg.all1 ++ Reg.all2 ++ Reg.all3 ++ Reg.all4 ++ Reg.all5 ++ Reg.all6 ++ Reg.all7 ++ Reg.all8

/-- CSR offset of instance i of a register. An index from the array's end on names the instance that it is modulo the
array's size, so that an index never leaves its register. -/
def Reg.addr (r : Reg) (i : Nat) : Nat :=
  r.map.base + r.map.ostride * (i % r.map.count / r.map.inner) + r.map.istride * (i % r.map.count % r.map.inner)

/-- The instance of r at a CSR offset, if the offset names one. -/
def Reg.instAt (r : Reg) (off : Nat) : Option Nat :=
  let m := r.map
  if off < m.base then none
  else
    let d := off - m.base
    let o := if m.ostride = 0 then 0 else d / m.ostride
    let rest := d - o * m.ostride
    let k := if m.istride = 0 then 0 else rest / m.istride
    let i := o * m.inner + k
    if k < m.inner ∧ i < m.count ∧ r.addr i = off then some i else none

/-- The register and instance that a CSR offset names (R161: an offset that names none reads 0). -/
def Reg.atOffset (off : Nat) : Option (Reg × Nat) :=
  Reg.all.findSome? fun r => (r.instAt off).map fun i => (r, i)

def Field.width (f : Field) : Nat := f.hi - f.lo + 1

/-- The mask of a field inside its register. -/
def Field.mask (f : Field) : BitVec 32 := BitVec.ofNat 32 ((2 ^ f.width - 1) * 2 ^ f.lo)

/-- The value of a field in a register word. -/
def Field.get (f : Field) (w : BitVec 32) : Nat := w.toNat / 2 ^ f.lo % 2 ^ f.width

/-- A register word with one field replaced (the value is taken modulo the field's width). -/
def Field.set (f : Field) (w : BitVec 32) (v : Nat) : BitVec 32 :=
  (w &&& ~~~f.mask) ||| BitVec.ofNat 32 (v % 2 ^ f.width * 2 ^ f.lo)

/-- Reset value of a register from its fields' Reset column (R10). -/
def Reg.reset (r : Reg) : BitVec 32 :=
  r.fields.foldl (fun w f => f.set w f.rst) 0

/-- The bits of a register whose fields have access type a. -/
def Reg.accMask (r : Reg) (a : Acc) : BitVec 32 :=
  r.fields.foldl (fun w f => if f.acc = a then w ||| f.mask else w) 0

end Sys2Proof.Machine
end

