-- ==== Sys2Proof/Machine/State.lean ====
section
/-!
DEFINITION. The state of the ZV-8412 stack as plain data: every register (one sparse table over CSR offsets, an absent
offset holding its reset value), the staged and snapshot sets of the epoch commit, all memories, the queues, engines,
links, tables and sequencers that the spec names, and the queue of waiting commands.
-/
namespace Sys2Proof.Machine

/-- Reasons to stop with a fault. No command of this model stops with one today; the constructor names the only case
for which the design keeps it. -/
inductive Fault where
  /-- Kept for a memory access outside every range of the address map that no requester could be told of; the model
  answers every such access with a bus error instead (R163), so nothing raises it (safe). -/
  | noSuchAddress
  deriving DecidableEq, Repr

/-- Reasons to refuse a command. -/
inductive Refusal where
  /-- A row of the command table without a meaning yet, by its mnemonic (safe: the run stops). -/
  | notModelled (mnemonic : String)
  deriving DecidableEq, Repr

/-! ### Rooms, planes, stairs, banks -/

/-- A row move waiting in a plane's row request queue (R54, R55). `permitted` is the permission in force at launch
(R106), `late` that it waits for a handover or wipe of the bank to end (R108, R115). -/
structure RowReq where
  bank : Nat
  row : Nat
  write : Bool
  permitted : Bool
  late : Bool := false
  data : List Byte := []
  poison : Nat := 0
  deriving DecidableEq, Repr

/-- One entry of a row return buffer: 1 KiB of data, 32 poison bits, BUSY (R55, R102). -/
structure RowRet where
  data : List Byte
  poison : Nat
  busy : Bool
  bank : Nat
  row : Nat
  deriving DecidableEq, Repr

/-- A corridor response slot of a plane (R54): the request outstanding, retired (its response is discarded, R60), or
the answer that has arrived. -/
inductive Slot where
  | free
  | waiting (retired : Bool)
  | answered (p : Packet)
  | linkLost
  deriving DecidableEq, Repr

/-- A multiplier (R45, Table 03-9): products in its pipeline registers, the last one first in, its product output P[50:0]
and its accumulator ACC[57:0]. -/
structure MultReg where
  pipe : List Nat := []
  p : Nat := 0
  acc : Nat := 0
  deriving DecidableEq, Repr

/-- Port buffers of one plane (Table 03-4), and the multipliers' registers as its logic left them. The flip-flops of a
suspended plane are the state rows of its plane store (R51), those of the active one lie at `liveFf`. -/
structure Plane where
  rowQ : List RowReq := []
  rowRet : List RowRet := []
  rowDone : List Bool := []
  slots : SMap Slot := []
  rxReq : List Packet := []
  rxSched : List Packet := []
  rxMgmt : List Packet := []
  mults : SMap MultReg := []
  lostDue : Bool := false     -- LINK_LOST is to pulse in the plane's first cycle (R67)
  deriving DecidableEq, Repr

/-- A load, state reload or save that runs in a room (R62). -/
structure LoadOp where
  agent : LoadAgent
  op : Nat
  plane : Nat
  bank : Nat
  row : Nat
  saveFirst : Bool
  phase : Nat            -- 1 drain, 2 save rows, 3 image rows, 4 check and finish
  next : Nat             -- next row of the phase
  err : Nat              -- ERR found so far (Table 03-14)
  loc : Option Nat       -- scheduler location entry used (R184)
  desc : Option Nat      -- descriptor committed to it (R186)
  cmd : Option (Nat × Nat × Nat × Nat)   -- requesting command, answered at DONE
  was : Nat := 0         -- the plane's state before the request was accepted
  deriving DecidableEq, Repr

/-- A read of the logic on its way out of a room-RAM block (R46): the block, the data, POISON (R48). -/
structure RamRead where
  block : Nat
  data : List Byte
  poison : Bool
  deriving DecidableEq, Repr

/-- Source of a switch request, in order of precedence (R56). -/
inductive SwSrc where
  | reg | sched | planectl
  deriving DecidableEq, Repr

/-- A room: its planes, the accepted switch waiting for its edge, the waiting park and unpark commands, the load that
runs, and the vertical track drive of its active plane (R84, R85). `cmdSwitch` is the PLANE_SWITCH command that waits. -/
structure Room where
  planes : SMap Plane := []
  sw : Option (Nat × SwSrc) := none
  cmdSwitch : Option (Nat × Nat × Nat × Nat) := none
  parks : List (Bool × Option (Nat × Nat × Nat × Nat)) := []
  parkedByCmd : Bool := false
  toStop : Nat := 0       -- room state to enter at the next edge + 1 (PARKED, FROZEN, STOPPED); 0 none
  toRun : Bool := false
  ld : Option LoadOp := none
  vtMask : BitVec 512 := 0
  vtVal : BitVec 512 := 0
  ramQ : List Packet := []   -- service accesses to the room RAM that wait for their port (R47)
  preempted : List Nat := []   -- planes whose task a later dispatch pre-empted, most recent first (R187)
  back : Option Nat := none    -- plane that the scheduler switches back to (R187)
  perr : Nat := 0         -- PERR bits pulsed since the last CK_ROOM edge (R87)
  alt : Bool := false     -- the other sampling slot of a suspended drain target (R62)
  cyc : Option SwSrc := none   -- highest source whose switch request was taken in this CK_ROOM cycle (R56)
  since : Nat := 0        -- sampling slots that planes took since the load in service had its last (R64)
  resumed : Bool := false      -- RESUMED in this cycle (Table 03-9)
  linkLost : Bool := false     -- LINK_LOST in this cycle (R67)
  vtLast : BitVec 512 := 0     -- track values at the last edge
  vt1 : BitVec 512 := 0        -- first and second stage of the receiving synchronisers (R86)
  vt2 : BitVec 512 := 0
  vtSeen : BitVec 512 := 0     -- what the logic sees: bundle groups as captured
  ram : List RamOp := []       -- accesses that the logic's ports make in this cycle (R46)
  ramHeld : List RamOp := []   -- accesses held in this cycle: WRITE_WAIT, READ_WAIT (R46, R47)
  ramPipe : List RamRead := [] -- reads in an output register
  ramOut : List RamRead := []  -- read data and POISON at the blocks' outputs in this cycle
  ramBusy : Nat := 0           -- cycles for which the ports that the next service access needs were in use (R47)
  rmPipe : List (Nat × Nat × Word) := []   -- RMREG reads: cycles left, offset, value
  rmOut : Option (Nat × Word) := none      -- RMREG data in this cycle
  deriving DecidableEq, Repr

/-- A repair window of a stair (R79): suspect segment set, group, and the phase reached (1 open, 2 testing, 3 outcome
applied). `waiting` are suspect groups that wait for the next window. -/
structure RepairWin where
  group : Nat
  phase : Nat
  waiting : List Nat := []
  deriving DecidableEq, Repr

/-- The last row move of a stair, for a service access in the same bank-access cycle (R101). -/
structure LastMove where
  room : Nat
  plane : Nat
  bank : Nat
  row : Nat
  write : Bool
  fabric : Bool := true
  deriving DecidableEq, Repr

/-- A stair: remap log, recent corrections per position with the operation number, operations carried, repair window,
vertical track values, service-lane turn, and the background slice that runs. -/
structure Slice where
  bank : Nat
  seg : Nat
  phase : Nat            -- 1 saving, 2 marching, 3 restoring
  fail : List TestFail := []     -- columns that the march found and no spare can replace
  spares : List Nat := []        -- spares that replace columns it found; their copy passes follow the restore (R369)
  expired : Bool := false        -- its budget ran out while a repair window was open (R368, Table 16-9)
  deriving DecidableEq, Repr

structure Stair where
  remaps : List (Nat × Nat × Nat) := []
  corr : List (Nat × Nat) := []
  ops : Nat := 0
  win : Option RepairWin := none
  tracks : BitVec 512 := 0
  turn : Nat := 0
  last : Option LastMove := none
  slice : Option Slice := none
  sliceBank : Nat := 0    -- bank of four at which the background test goes on
  slicesDone : List Nat := [0, 0, 0, 0]   -- slices completed in each of the four banks
  dead : List Nat := []   -- track groups whose exhaustion failed the stair (R81)
  deriving DecidableEq, Repr

/-- Owner codes (Table 05-3). -/
structure Owner where
  kind : Nat
  id : Nat
  deriving DecidableEq, Repr

/-- The agent that issues an access (Tables 02-2, 05-4). -/
inductive Agent where
  | plane (room p : Nat)
  | engine (e : Nat)
  | sched
  | mp
  | crypto
  | dma
  | remote (node ep : Nat)
  | mowing
  | selftest
  | debug
  | load (a : LoadAgent)
  deriving DecidableEq, Repr

/-- A word access of the service lane (R98): the word's device-local address, the bytes to write with their offsets in
the word (none for a read), the poison mark of the word, the request it belongs to, and whether it waits for a
handover or wipe of the bank to end. -/
structure SvcAcc where
  req : Nat
  addr : Nat
  agent : Agent
  write : Option (Nat × List Byte)
  poison : Bool
  late : Bool := false
  deriving DecidableEq, Repr

/-- A corridor request in service at an endpoint: the packet, words still to perform, and what came back. -/
structure SvcReq where
  pkt : Packet
  left : Nat
  data : List (Nat × List Byte) := []
  poison : Nat := 0
  busy : Nat := 0
  deriving DecidableEq, Repr

/-- What holds a bank outside ordinary accesses. -/
inductive BankOp where
  | none
  | handoverDrain
  | handoverWipe
  | handoverReady
  | wipeDrain
  | wipe
  deriving DecidableEq, Repr

/-- A bank: service-lane queue of 16 word accesses, losses in a row, what holds it, waiting wake, mowing position,
copy passes (spare, next row), of which the first runs, spares (state and column), and the entry to checker test mode that
waits for a slice (`ctmWait`) and the exit that waits for it or for its wipe (`ctmExit`; R134). -/
structure Bank where
  q : List SvcAcc := []
  loss : Nat := 0
  op : BankOp := .none
  wakeWait : Bool := false
  mowRow : Nat := 0
  copy : List (Nat × Nat) := []
  ctmWait : Bool := false
  ctmExit : Bool := false
  ctmIn : List (Nat × Nat × Nat × Nat) := []     -- CHECKER_MODE commands that wait for the entry, and for the exit
  ctmOut : List (Nat × Nat × Nat × Nat) := []
  spares : SMap (Nat × Nat) := []
  cmd : List (Nat × Nat × Nat × Nat) := []    -- commands that wait for the operation to end
  wakeCmd : List (Nat × Nat × Nat × Nat) := []
  retCmd : List (Nat × Nat × Nat × Nat) := []
  drops : List Nat := []      -- addresses of writes that were dropped and logged (R67, R78, R106; log entry 17)
  deriving DecidableEq, Repr

/-- One entry of the error log (R138) or of the self-test record log (R377): four register words. -/
structure LogEntry where
  w0 : Word
  w1 : Word
  w2 : Word
  w3 : Word
  deriving DecidableEq, Repr

/-- The mowing round (R129–R131). -/
structure Mowing where
  started : Bool := false
  ceWindow : Nat := 0
  roundsHere : Nat := 0
  planeRow : SMap Nat := []
  scrubs : SMap Nat := []      -- scrub words of a landing row still to visit, by 4·room + plane
  fresh : List Nat := []       -- stores that have wrapped in this round
  deriving DecidableEq, Repr

/-! ### Corridor -/

/-- A credit book of one link, VC and dateline class (R31, R151). -/
structure Book where
  cred : Nat
  flight : Nat
  free : Nat
  deriving DecidableEq, Repr

/-- Arbitration state of an output port (R153): the VC whose turn it is, packets it may still start, and the last
winning input port of each VC. -/
structure Arb where
  vc : Nat := 0
  left : Nat := 0
  last : SMap Nat := []
  w : List Nat := [4, 6, 4, 1]
  deriving DecidableEq, Repr

/-- An outstanding corridor request of a requester of this stack (R165). `expired` marks a tag kept unused, `post` a request that no
command waits for. -/
structure OutReq where
  pkt : Packet
  expired : Bool := false
  post : Bool := false
  deriving DecidableEq, Repr

/-- The corridor: packets in the receive buffer of each link, VC and class (key 8·link + 2·vc + class), packets waiting
at their source endpoint, books, arbiters and outstanding requests (key (4·ep + plane)·1024 + tag); `posts` holds an endpoint's
requests that wait for a tag, the oldest first. -/
structure Net where
  bufs : SMap (List Packet) := []
  send : SMap (List Packet) := []
  books : SMap Book := []
  arbs : SMap Arb := []
  outReq : SMap (Option OutReq) := []
  posts : SMap (List Packet) := []
  deriving DecidableEq, Repr

/-! ### Scheduler -/

/-- A descriptor (Table 08-2). -/
structure Desc where
  state : Nat := 0
  complete : Bool := false
  amask : Nat := 0
  pmask : Nat := 0
  tmpl : Nat := 0
  flow : Nat := 0
  link : Nat := 0
  seq : Nat := 0
  key : Nat := 0
  expiry : Nat := 0
  worker : Nat := 0
  ops : List Nat := []
  recs : List TokRec := []
  deriving DecidableEq, Repr

/-- A flow context (Table 08-5) with its queue on die. -/
structure Flow where
  busy : Bool := false
  lastValid : Bool := false
  prio : Nat := 0
  grouped : Bool := false
  group : Nat := 0
  last : Nat := 0
  queue : List Nat := []
  deriving DecidableEq, Repr

/-- An ordered group's context (R191). -/
structure Grp where
  window : Nat := 1
  nextSeq : Nat := 0
  out : Nat := 0
  admitted : List Nat := []
  overflow : List Nat := []
  deriving DecidableEq, Repr

/-- A delay list (R192): entries (expiry, descriptor) in order, and the insertion that is being walked with the index
reached, with further insertions waiting. -/
structure DelayList where
  items : List (Nat × Nat) := []
  walk : Option (Nat × Nat × Nat) := none
  waiting : List (Nat × Nat) := []
  deriving DecidableEq, Repr

/-- A dispatch pipe: ready lists by priority, round-robin pointers, commits in the current rate window (R182–R184,
R196). -/
structure Pipe where
  ready : SMap (List Nat) := []
  rrE : Nat := 0
  rrP : Nat := 0
  commits : Nat := 0
  cycle : Nat := 0       -- CK_ROW cycle of the 1,024-cycle rate window
  took : Option Nat := none   -- worker to which it committed in that cycle (R184)
  deriving DecidableEq, Repr

/-- The scheduler's on-die state and its tables. -/
structure Sched where
  inited : Bool := false
  freed : List Nat := []           -- descriptors freed, most recent first
  freshIdx : Nat := 0              -- descriptors from here on have never been taken
  descs : SMap Desc := []
  mtab : SMap Nat := []         -- key → descriptor + 1
  mways : SMap Nat := []        -- key → place of its entry in the set + 1
  mcache : List Nat := []       -- sets in the on-die cache, the latest first (R181)
  flows : SMap Flow := []
  groups : SMap Grp := []
  delays : SMap DelayList := []
  pipes : SMap Pipe := []
  issued : Nat := 0
  matched : Nat := 0
  held : Nat := 0
  flight : Nat := 0
  tick : Nat := 0
  use : SMap Nat := []
  tokPkt : SMap (Option (Packet × Nat × Nat)) := []  -- packet being handled, next record, BUSY mask
  posting : List Nat := []                     -- descriptors with records to post, oldest first
  tokenLog : List TokRec := []
  drainCmds : List (Nat × Nat × Nat × Nat) := []
  wantSwitch : SMap (List Nat) := []           -- room → planes whose switch is to be repeated, oldest first
  loadsDone : List (Nat × Nat × Nat × Option Nat × Option Nat) := []   -- ended loads: room, plane, ERR, location, descriptor
  inPipe : List Nat := []                      -- descriptors inside a pipe at the freeze of a commit (R196)
  deriving DecidableEq, Repr

/-! ### DSP engines -/

/-- A corridor request of an engine (R214, R238): status 0 outstanding, 2 BUS_ERROR recorded, 3 LINK_LOST recorded; the
word address at which read data goes (X 0 to 16383, Y 16384 on); further packets of a write that a BUSY answer split. -/
structure EngTag where
  used : Bool := false
  status : Nat := 0
  dst : Nat := 0
  more : List Packet := []
  deriving DecidableEq, Repr

/-- A DSP_START before its commit point, the issue of its first instruction (Table 09-6), with what an ABORT restores: DE_FLAGS,
DE_MODE, DE_PC, DE_EXC and the recorded statuses. -/
structure EngStart where
  cmd : Nat × Nat × Nat × Nat
  words : List Word
  tags : SMap EngTag
  deriving DecidableEq, Repr

/-- An engine's architectural registers (Table 09-1) and sequencer state. D and A registers carry a poison bit above
their value. `pcOver` says that the next fetch lies beyond instruction 8,191 (R228). -/
structure Eng where
  d : SMap (BitVec 33) := []
  a : SMap (BitVec 49) := []
  ptr : SMap Nat := []          -- XP0–3 at 0–3, YP0–3 at 4–7
  mod : SMap Nat := []          -- XM, YM (15 bits, two's complement)
  len : SMap Nat := []          -- XL, YL
  pcOver : Bool := false
  stack : List Nat := []
  tags : SMap EngTag := []
  rep : Nat := 0                -- steps left of a repeat
  svcWait : List Nat := []      -- cycles for which each queued service access has found no free slot (R207)
  rspWait : List Nat := []      -- the same of the queued responses (R238)
  haltCmds : List (Nat × Nat × Nat × Nat) := []
  stepping : Bool := false
  stepCmds : List (Nat × Nat × Nat × Nat) := []
  cycles : Nat := 0
  started : Bool := false       -- program started by DSP_START (R215)
  startCmd : Option EngStart := none
  deriving DecidableEq, Repr

/-! ### Links -/

/-- Link encryption state of one direction pair (R308–R314). Keys are 32 bytes. -/
structure LinkEnc where
  txKey : Option (List Byte) := none
  rxKey : Option (List Byte) := none
  rxOld : Option (List Byte) := none
  txKph : Nat := 0
  rxKph : Nat := 0
  txE : Nat := 0
  rxE : Nat := 0
  rxOldE : Nat := 0
  rxHeld : Option (List Byte) := none   -- the receive key before this exchange's, which a failed exchange brings back (R310)
  phase : Nat := 0              -- key exchange: 0 idle, 1 HELLO_I sent, 2 HELLO_R sent, 3 FINISH sent
  rxMsg : List Byte := []
  rxMsgKind : Nat := 0
  rxTotal : Nat := 0
  txMsg : List Byte := []
  txKind : Nat := 0
  txOff : Nat := 0
  helloI : List Byte := []
  helloR : List Byte := []
  eph : Nat := 0
  newTx : Option (List Byte) := none
  cmd : Option (Nat × Nat × Nat × Nat) := none
  peerLink : Nat := 0           -- the far end's number of the link (KEX_MSG)
  vcStarted : List Bool := [true, true, true, true]
  vcEnc : List Bool := [false, false, false, false]   -- an encrypted flit of the VC has come (R313)
  deriving DecidableEq, Repr

/-- A packet that waits at a link to be sent, with the bytes of it not yet packed (R246). -/
structure TxPkt where
  pkt : Packet
  left : Nat
  deriving DecidableEq, Repr

/-- Transmit FFE of a group: the taps of SL_TXEQ, or what the far receiver asked for (R263, R265). -/
inductive Ffe where
  | reg
  | preset (n : Nat)
  | taps (l : List Nat)
  deriving DecidableEq, Repr

/-- One direction of a raw group's rings (R278): its access in flight, 1 READ of the control word, 2 of the block, 3 WRITE of its
counter, 0 none; the counter's value, the request's tag, and whether the access failed and waits for its retry. -/
structure RawDir where
  phase : Nat := 0
  ctr : Nat := 0
  tag : Nat := 0
  failed : Bool := false
  deriving DecidableEq, Repr
/-- A block that a raw group has received and not written yet: from a frame with an uncorrectable code word; the last of its frame. -/
structure RawBlk where
  bytes : List Byte
  ue : Bool
  last : Bool
  deriving DecidableEq, Repr

/-- The settings that a training latches when it starts (R26): rate, receive depths, attempts, raw mode, manual alignment,
FFE tuning, the CTLE's setting. -/
structure LinkSet where
  rate : Nat := 0
  depths : List Nat := [0, 0, 0, 0]
  tries : Nat := 0
  raw : Bool := false
  manual : Bool := false
  tune : Bool := false
  ctle : Option Nat := none
  deriving DecidableEq, Repr

/-- One link: port d is link d, group g is link 16 + g. Lists of four run over the VCs. -/
structure Link where
  txSeq : Nat := 0
  rxSeq : Nat := 0
  replay : List Flit := []          -- sent and not acknowledged, oldest first
  nakSent : Bool := false
  ackOwed : Bool := false
  unacked : Nat := 0                -- DATA flits received since the last ACK sent
  replays : SMap Nat := []          -- SEQ → replays without the ACK passing it (R269)
  carriedCr : SMap (List Nat) := [] -- SEQ → credits that its flit returned when it was last sent (R269)
  advDepth : List Nat := [0, 0, 0, 0]
  rxDepth : List Nat := [0, 0, 0, 0]
  cred : List Nat := [0, 0, 0, 0]
  outst : List Nat := [0, 0, 0, 0]
  rel : List Nat := [0, 0, 0, 0]
  far : List Nat := [0, 0, 0, 0]
  escTx : List Nat := [0, 0, 0, 0]
  escRx : List Nat := [0, 0, 0, 0]
  rxStream : SMap (List Byte) := []     -- bytes of a packet not complete yet, per VC
  rxEnts : SMap (List Nat) := []        -- occupied entries: bytes not yet in the corridor, per VC
  rxPast : List Nat := [0, 0, 0, 0]     -- bytes at the attachment that came before the link was re-initialised, per VC
  txQ : SMap (List TxPkt) := []
  carried : List (Nat × Packet) := []   -- REQ packets with bytes in an unacknowledged flit
  fresh : Bool := true              -- the next first flit is INIT (R248)
  up : Bool := false                -- the link has had books since its reset
  initSent : Bool := false
  initRcvd : Bool := false
  tries : Nat := 0
  set : LinkSet := {}               -- settings of the training in progress (R26)
  origin : Nat := 1                 -- its link state: TRAINING or RETRAIN
  trainPhase : Nat := 0             -- 0 no attempt, 1 running, 2 alignment, 3 frame lock (group)
  found : List Nat := []            -- lanes that the alignment search has aligned (R266)
  allWas : Bool := false            -- the last check found all four lanes ALIGNED
  steady : Bool := false            -- two checks in a row did: ALIGNED for 256 words
  checks : Nat := 0                 -- checks of the alignment search made (R266)
  rounds : Nat := 0                 -- FFE rounds made
  ffe : Ffe := .reg
  retrainAfterRef : Bool := false
  again : Bool := false
  againRx : Bool := false
  holdAfterDrain : Bool := false
  depthChange : Bool := false
  badFrames : SMap Nat := []        -- consecutive frames with a wrong marker, per lane
  cmd : List (Nat × Nat × Nat × Nat × Nat) := []   -- what is awaited (1 ACTIVE, 2 DOWN_HELD, 4 + t transmit state t)
  lastSent : List Flit := []        -- flits put on the wire, most recent first (the link's output)
  slotQ : List Flit := []           -- a group's flits or raw blocks that wait for a slot of a frame (R268)
  txScr : Nat := 2 ^ 31 - 1         -- generators of the scramblers (R261)
  rxScr : Nat := 2 ^ 31 - 1
  txFrame : List Nat := []          -- the last frame sent: levels of each lane (R260)
  dfe : Option Nat := none          -- number of the last adaptation of the equaliser (R264)
  rawTx : RawDir := {}
  rawRx : RawDir := {}
  rawIn : List RawBlk := []         -- received blocks, oldest first
  rawGot : Bool := false            -- a block of the frame being written has been delivered
  l1Shed : Bool := false            -- L1 asked for by supply shedding
  forced : Bool := false            -- transmitter in forced TXS
  forcedOff : Bool := false         -- that it was forced into from TXO
  farForced : Bool := false         -- the far transmitter announced a forced entry
  pmSeen : Option Nat := none       -- the state that the first of two PM flits announced (R274)
  pmReq : Nat := 0                  -- last PM_REQ received
  lmbOut : List (List Byte) := []
  lmbWait : Bool := false           -- a command block of ours is unanswered
  enc : LinkEnc := {}
  deriving DecidableEq, Repr

/-! ### Crypto unit -/

/-- An entry of the counter cache (R296): 64 bytes, dirty bit. -/
structure CacheEnt where
  data : List Byte
  dirty : Bool
  deriving DecidableEq, Repr

/-- A protected request (R298): its packet, the lines not complete yet, and what they gave. -/
structure CrReq where
  pkt : Packet
  left : Nat
  data : List (Nat × List Byte) := []     -- offset in the request, bytes
  poison : Nat := 0
  stored : Bool := false
  status : Nat := 0
  deriving DecidableEq, Repr

/-- The access of one line, or work on a page or a range (R288, R298–R306). `kind`: 0 read, 1 full-line write, 2 partial
write, 3 page re-encryption, 4 page of a rekey, 5 start of a rekey, 6 initialisation. `phase`: 0 waits for the line or page,
1 reads from home, 2 nodes to verify, 3 page read, 4 writes to home, 5 initialised. `waiting` holds corridor tags with what
they fetch: 0 line, 1 line tag, 2 leaf tag, 8 + level a node, 64 + i part i of a page, 96 + i part i of its tags, 254 what is
not needed any more, 255 a write; `todo` holds the requests that wait for a tag. -/
structure CrJob where
  req : Nat
  range : Nat
  line : Nat
  kind : Nat
  pos : Nat := 0                          -- offset of the access in the request
  off : Nat := 0                          -- offset of the access in the line
  bytes : List Byte := []                 -- bytes to write, or how many to read
  poisoned : Bool := false                -- a byte of the write carries the mark
  home : Nat := 0                         -- global address of the window's offset 0 (R159)
  plain : List Byte := []                 -- plaintext of the line whose write re-encrypts its page
  phase : Nat := 0
  waiting : List (Nat × Nat) := []
  todo : List (Packet × Nat) := []
  got : List (Nat × List Byte × Nat) := []     -- what, data, poison
  status : Nat := 0
  deriving DecidableEq, Repr

/-- One protected range: settings in effect, `home` the global address of its window's offset 0; keys, root counters; keys and
root of the old tree during a rekey. While it is `disabling`, accesses translated before meet the state that it had (R307). -/
structure CrRange where
  win : Nat := 0
  home : Nat := 0
  lp : Nat := 0
  base : Nat := 0
  meta' : Nat := 0
  kd : List Byte := []
  kt : List Byte := []
  root : List Nat := []
  oldKd : List Byte := []
  oldKt : List Byte := []
  oldRoot : List Nat := []
  page : Nat := 0
  cmd : Option (Nat × Nat × Nat × Nat) := none
  disabling : Bool := false
  held : Nat := 0
  deriving DecidableEq, Repr

structure Crypto where
  cache : List (Nat × CacheEnt) := []        -- most recently used first
  ranges : SMap CrRange := []
  reqs : SMap (Option CrReq) := []
  jobs : SMap (Option CrJob) := []
  next : Nat := 0
  deriving DecidableEq, Repr

/-! ### Mailbox, boot, security, replay -/

/-- A command in progress (R379): requester, tag, opcode, whether past its commit point, data it keeps. -/
structure InProg where
  port : Nat
  node : Nat
  ep : Nat
  tag : Nat
  opcode : Nat
  committed : Bool
  hdrTag : Nat := 0
  args : List Nat := []
  injected : Bool := false   -- injected by a replay: the response is discarded (R429)
  deriving DecidableEq, Repr

/-- An event record (R391). -/
structure EvRec where
  code : Nat
  source : Nat
  seq : Nat
  data : Nat
  deriving DecidableEq, Repr

/-- An authorised signer's or debug grant's state (R414–R417), TAP registers (R373). -/
structure Tap where
  ir : Nat := 1
  dr : Nat := 0
  out : Nat := 0
  busy : Bool := false            -- a debug access is on its way (R416)
  q : List TapOp := []            -- operations that wait (R374)
  deriving DecidableEq, Repr

structure Mail where
  inprog : List InProg := []
  rsp : SMap (List (List Byte)) := []      -- response blocks waiting, per port 0–16
  sent : List (Nat × Nat × List Byte) := []   -- sideband blocks sent, most recent first: port 1–16, KIND (Table 11-5), block
  block : List Byte := []                  -- the command block that a transport delivers while its command is accepted
  evq : SMap (List EvRec) := []            -- event queues of ports 0–16, and 32 + k for MB_EVT_DEST[k]
  evSeq : Nat := 0
  side : List (Nat × Nat × List Byte) := []   -- sideband messages sent, most recent first: port, header word, 8 bytes (R254)
  seq8 : SMap Nat := []                    -- SEQ8 of a port's next block
  part : SMap (List Byte) := []            -- sideband block being assembled, per port
  partKind : SMap Nat := []
  i3cOut : List Byte := []                 -- what the last I3C read or CCC returned
  i3cNack : Bool := false
  ibiEn : Bool := false
  ibi : Nat := 0                           -- mandatory byte of the last IBI raised, 0 none
  csrOut : Word := 0                       -- value returned by the last register read
  causes : SMap Nat := []                  -- request tag of endpoint 546 → bus error cause + 1 found in this stack
  bells : SMap (List TestFail) := []       -- what a test finds that the command of an engine's doorbell, being read, may start
  hdrTag : Nat := 0                        -- header tag + 1024 · SRC_PLANE of the MB_CMD packet that is being accepted (R386)
  via : Nat := 0                           -- 1 + the link through which that packet came, 0 none
  deriving DecidableEq, Repr

/-- Clock generation beside the CK registers (R321–R331): gate sequencing per unit. -/
structure Clk where
  comp : Bool := false           -- the RC oscillator has taken a temperature trim (R321, R322)
  gating : SMap Nat := []        -- 256·kind + index → 1 opening, 2 draining
  gateCmd : List (Nat × (Nat × Nat × Nat × Nat)) := []   -- 2·(256·kind + index) + open → UNIT_GATE that waits
  deriving DecidableEq, Repr

/-- Power, shedding and thermal control (R336–R349). -/
structure Pow where
  adcCh : Nat := 0
  tReq : Nat := 0
  tLvl : Nat := 0
  tBelow : Nat := 0
  below : Bool := false
  testOff : Option Int := none
  lifeUs : SMap Nat := []
  ages : List Nat := []
  roundDue : Bool := false          -- channel 63 has been converted and the slow round has not ended (R342)
  deriving DecidableEq, Repr

/-- Start-up, resets and self-test (R354–R372). `stopped` says that start-up has ended at a failure (Table 16-3). -/
structure Boot where
  por : Bool := true              -- power-on reset held
  resetLow : Bool := false        -- RESET_N low
  step : Nat := 0                 -- last start-up step completed, 0 before release
  stopped : Bool := false
  pins : Nat := 0                 -- PROFILE[2:0] as last sampled
  testPos : Nat := 0              -- start-up slices finished, of 35
  wipePos : Nat := 0              -- lofts wiped at step 9
  failed : List TestFail := []    -- blocks that failed since the last marking of fallow blocks
  fwSecond : Nat := 1             -- firmware slot that came second in the order of R407
  frPhase : Nat := 0              -- foundation reset: 0 none, 1 accepted, 2 after 2 µs, 3 frozen, 4 held, 5 RESUME waits for wakes, 6 RECOVER does
  frCmd : Option (Nat × Nat × Nat × Nat) := none
  resumeCmd : Option (Nat × Nat × Nat × Nat) := none
  recov : Option (Nat × List TestFail) := none   -- RETEST and the findings of a RECOVER that waits for wakes
  delayedReset : Option Nat := none     -- BT_BOOT cause of the reset that is scheduled
  fallow : List (Nat × Nat) := []       -- (kind as BT_RES_WHERE, unit)
  records : List LogEntry := []
  faultN : Bool := false                -- pins asserted: FAULT_N, SAFE_N, THERM_REQ_N
  safeN : Bool := true
  thermReqN : Bool := false
  settingsImage : SMap Word := []
  imageValid : Bool := false
  pushed : Option (List Byte) := none   -- image given by PROFILE_PUSH
  selected : Option Nat := none         -- slot named by PROFILE_SELECT
  profSlot : Nat := 0xFE                -- slot of the profile in effect, 0xFF pushed, 0xFE none (R412)
  profHash : List Byte := []            -- SHA-384 of its image
  profile : Option ProfileContent := none
  loads : List (Nat × Nat) := []        -- plane-0 loads that wait until the profile's stores are written: room, RM_LOAD_CTRL value
  bgLoads : List (Nat × Nat) := []      -- planes 1 to 3 that load after READY: room, RM_LOAD_CTRL value
  inSafePending : Option (Nat × Nat) := none   -- safe state waiting for a commit past its point
  deriving DecidableEq, Repr

/-- The fuse array (R359, R410–R415): 48-bit UID, life-cycle state, key hashes by slot (SHA-384 as a number), minimum
SVN, RC trim, spares blown, identity keys and certificate fields, and a transition that stopped half-way: its target,
payload and how often it was tried. `ue` is an uncorrectable error of the array. -/
structure Fuses where
  uid : Nat := 0
  lc : Nat := 0
  svn : Nat := 0
  keyHash : SMap Nat := []
  trim : Nat := 0
  spares : List (Nat × Nat × Nat × Nat) := []    -- bank, spare, column, 1 manufacture or 2 field
  idKeys : Bool := false
  idSecret : Nat := 0                            -- private identity key on P-256
  idSecret2 : Nat := 0                           -- private identity key on P-384
  portsOff : Bool := false                       -- the IEEE 1838 secondary test ports are disabled (R374)
  certified : Bool := false
  cert : List Byte := []
  partTry : Nat := 0
  partFor : Nat := 0
  partPayload : List Byte := []
  ue : Bool := false
  deriving DecidableEq, Repr

/-- The private identity key of a curve (R410). -/
def Fuses.secret (q : Fuses) (curve : Nat) : Nat := if curve = 2 then q.idSecret2 else q.idSecret

/-- A write of the flash that takes time (R399, R401, R408): opcode and reference of its command, slot, the image as it was
read from its source and verified, the stage reached (1 erasing, 2 programming the image, 3 programming the header), and the records of a
journal batch. -/
structure FlashJob where
  op : Nat
  cmd : Nat × Nat × Nat × Nat
  slot : Nat := 0
  img : List Byte := []
  stage : Nat := 1
  recs : List (Nat × List Byte) := []
  deriving DecidableEq, Repr

/-- The settings journal as the firmware holds it (R400–R402). -/
structure Journal where
  area : Nat := 0
  gen : Nat := 0
  seq : Nat := 0
  off : Nat := 256
  settings : SMap (Nat × Nat) := []     -- CSR offset → value, mask
  remaps : List (Nat × Nat × Nat × Nat) := []   -- stair, segment, group, position
  narrows : List (Nat × Nat × Nat) := []
  repairs : List (Nat × Nat × Nat) := []        -- bank, spare, column
  fallow : List (Nat × Nat) := []
  life : List Nat := []
  compacting : Bool := false
  held : List (List (Nat × List Byte)) := []    -- batches that wait for a compaction to end (Table 17-22)
  jobs : List FlashJob := []        -- flash writes, the first in progress
  waitCompact : List (Nat × Nat × Nat × Nat) := []   -- JOURNAL_COMPACT commands
  deriving DecidableEq, Repr

/-- Recorder and replay (R420–R431). `origin` names the origin sequence that runs or ran: 1 at start-up, 2 RECORD_START,
3 REPLAY_START. `hazOwn` and `hazRing` hold the stamps of hazards that the replaying stack and the ring do not share yet.
`outCrc` and `outCount` cover the packets that left since the last CHECK. -/
structure Replay where
  stamp : Nat := 0
  phase : Nat := 0
  seq : Nat := 0
  buf : List (List Byte) := []
  bufBytes : Nat := 0
  ringOff : Nat := 256
  gapOwed : Bool := false
  shedGap : Bool := false
  origin : Nat := 0
  readOff : Nat := 256       -- ring offset of the next record to inject
  next : Nat := 0            -- its stamp
  injecting : Bool := false
  trng : List (Nat × List Byte) := []
  hazOwn : List Nat := []
  hazRing : List Nat := []
  outCrc : Word := 0xFFFFFFFF
  outCount : Nat := 0
  last : Nat := 0            -- place of the last record in the order of R423: stamp, phase, KIND, SOURCE
  deriving DecidableEq, Repr

/-- Security (R406–R417). -/
structure Sec where
  slot : Nat := 0
  measurement : List Byte := []
  editionMajor : Nat := 1
  editionMinor : Nat := 0
  tap : Tap := {}
  transition : Option (Nat × Nat × Nat × Nat) := none   -- LC_TRANSITION that runs
  deriving DecidableEq, Repr

/-- An epoch commit in progress (Table 02-3): phase 1 validation, 2 frozen and auditing, 3 applied, 4 past the commit
point. `inner` names the work that the commit is part of: 0 EPOCH_COMMIT, 1 epoch 1 of start-up, 2 RECOVER, 3 ENUMERATE
or ENUM_ASSIGN, 4 an origin sequence. `audit` is the first mismatch that its audit found: book, index, delta. -/
structure Commit where
  phase : Nat
  inner : Nat
  cmd : Option (Nat × Nat × Nat × Nat)
  audit : Option (Nat × Nat × Int) := none
  deriving DecidableEq, Repr

/-- An enumeration in progress (R279): this stack's ID, the parent link, the next ID, the link asked, what each link
answered, the requester, and the time limit with the round at which it started. -/
structure Enumer where
  id : Nat
  parent : Option Nat
  next : Nat
  asked : Nat
  waiting : Bool := false
  ranges : List (Nat × Nat × Nat) := []
  cmd : Nat × Nat × Nat × Nat
  ms : Nat
  round : Nat
  deriving DecidableEq, Repr

/-- The state of the whole stack. -/
structure State where
  pending : List Instr := []
  regs : SMap Word := []
  staged : SMap (Option Word) := []   -- offset or table key → staged word (R24, R201)
  snapshot : SMap (Option Word) := []
  commit : Option Commit := none
  epoch : Nat := 0
  latch : SMap Word := []         -- high words latched by a read of the low word (R28)
  fresh : Nat := 0                -- MODEL'S OWN: counter of free values drawn
  mem : List Host.Cell := []
  synd : SMap Word := []
  rooms : SMap Room := []
  stairs : SMap Stair := []
  banks : SMap Bank := []
  svc : SMap (Option SvcReq) := []
  svcNext : Nat := 0
  odie : SMap Word := []          -- syndromes of book-keeping and crypto storage on die, key odKey (R39, R303)
  ecLog : List LogEntry := []
  mow : Mowing := {}
  net : Net := {}
  sched : Sched := {}
  engs : SMap Eng := []
  links : SMap Link := []
  enumer : Option Enumer := none
  crypto : Crypto := {}
  mail : Mail := {}
  clk : Clk := {}
  pow : Pow := {}
  boot : Boot := {}
  fuses : Fuses := {}
  flash : List Host.Cell := []    -- default 0xFF
  journal : Journal := {}
  replay : Replay := {}
  sec : Sec := {}
  deriving DecidableEq, Repr

/-- The stack with the power-on reset held: every register at its reset value, nothing stored, no command waiting. -/
def State.reset : State := {}

end Sys2Proof.Machine
end

