-- ==== Sys2Proof/Machine/Ops.lean ====
section
/-!
DEFINITION. The named operations over the state that every meaning uses: registers and fields, the units' tables,
counters, free values, numbers and bytes.
-/
namespace Sys2Proof.Machine

/-! ### Registers and fields -/

/-- Reset value of the register at a CSR offset. MB_PERM[0] is fixed (Table 17-24); LB_STATUS.DUAL follows the bank's
type (R95, Table 05-11). Table entries of the scheduler (keys above CSR space) reset to 0. -/
def regDefault (off : Nat) : Word :=
  match Reg.atOffset off with
  | none => 0
  | some (.MB_PERM, 0) => 0xFFFE
  | some (.LB_STATUS, n) => if n % 16 = 0 then 0x80000000 else 0
  | some (r, _) => r.reset

/-- The word that a key of the register table holds. -/
def State.raw (s : State) (off : Nat) : Word := mget regDefault s.regs off
/-- Set the word at a key of the register table. -/
def State.setRaw (s : State) (off : Nat) (w : Word) : State := { s with regs := mput regDefault s.regs off w }
/-- Register r, instance i. -/
def State.rd (s : State) (r : Reg) (i : Nat := 0) : Word := s.raw (r.addr i)
/-- Set register r, instance i. -/
def State.wr (s : State) (r : Reg) (i : Nat) (w : Word) : State := s.setRaw (r.addr i) w
/-- The value of a field. -/
def State.f (s : State) (F : Field) (i : Nat := 0) : Nat := F.get (s.rd F.reg i)
/-- Set a field (modulo its width). -/
def State.setF (s : State) (F : Field) (i : Nat) (v : Nat) : State := s.wr F.reg i (F.set (s.rd F.reg i) v)
/-- The highest value a field holds. -/
def Field.top (F : Field) : Nat := 2 ^ F.width - 1
/-- Add n to a counter that saturates. -/
def State.inc (s : State) (F : Field) (i : Nat) (n : Nat := 1) : State := s.setF F i (min (s.f F i + n) F.top)
/-- Add n to a counter that wraps to 0. -/
def State.incW (s : State) (F : Field) (i : Nat) (n : Nat := 1) : State := s.setF F i (s.f F i + n)
/-- Apply f when c holds. -/
def State.when (s : State) (c : Bool) (f : State → State) : State := if c then f s else s
/-- Apply f for every index of a list. -/
def State.each {α : Type} (s : State) (l : List α) (f : State → α → State) : State := l.foldl f s

/-! ### Free values -/

/-- Count one draw of a free value (the model's own counter). -/
def State.drawn (s : State) : State := { s with fresh := s.fresh + 1 }
/-- n free bytes of the draw that the counter names. -/
def State.freeBytes (s : State) (n : Nat) : List Byte := (List.range n).map (Config.freeByte s.fresh)

/-! ### Units -/

def State.room (s : State) (n : Nat) : Room := mget (fun _ => {}) s.rooms n
def State.updRoom (s : State) (n : Nat) (g : Room → Room) : State := { s with rooms := mupd (fun _ => {}) s.rooms n g }
def Room.plane (r : Room) (p : Nat) : Plane := mget (fun _ => {}) r.planes p
def Room.updPlane (r : Room) (p : Nat) (g : Plane → Plane) : Room := { r with planes := mupd (fun _ => {}) r.planes p g }
def State.plane (s : State) (n p : Nat) : Plane := (s.room n).plane p
def State.updPlane (s : State) (n p : Nat) (g : Plane → Plane) : State := s.updRoom n (·.updPlane p g)
def State.stair (s : State) (n : Nat) : Stair := mget (fun _ => {}) s.stairs n
def State.updStair (s : State) (n : Nat) (g : Stair → Stair) : State :=
  { s with stairs := mupd (fun _ => {}) s.stairs n g }
def State.bank (s : State) (b : Nat) : Bank := mget (fun _ => {}) s.banks b
def State.updBank (s : State) (b : Nat) (g : Bank → Bank) : State := { s with banks := mupd (fun _ => {}) s.banks b g }
def State.eng (s : State) (e : Nat) : Eng := mget (fun _ => {}) s.engs e
def State.updEng (s : State) (e : Nat) (g : Eng → Eng) : State := { s with engs := mupd (fun _ => {}) s.engs e g }
def State.link (s : State) (k : Nat) : Link := mget (fun _ => {}) s.links k
def State.updLink (s : State) (k : Nat) (g : Link → Link) : State := { s with links := mupd (fun _ => {}) s.links k g }
def State.updSched (s : State) (g : Sched → Sched) : State := { s with sched := g s.sched }
def State.updNet (s : State) (g : Net → Net) : State := { s with net := g s.net }
def State.updMail (s : State) (g : Mail → Mail) : State := { s with mail := g s.mail }
def State.updBoot (s : State) (g : Boot → Boot) : State := { s with boot := g s.boot }
def State.updPow (s : State) (g : Pow → Pow) : State := { s with pow := g s.pow }
def State.updClk (s : State) (g : Clk → Clk) : State := { s with clk := g s.clk }
def State.updRp (s : State) (g : Replay → Replay) : State := { s with replay := g s.replay }
def State.updJ (s : State) (g : Journal → Journal) : State := { s with journal := g s.journal }
def State.updSec (s : State) (g : Sec → Sec) : State := { s with sec := g s.sec }
def State.updCr (s : State) (g : Crypto → Crypto) : State := { s with crypto := g s.crypto }
def State.updMow (s : State) (g : Mowing → Mowing) : State := { s with mow := g s.mow }

/-! ### Numbers and bytes -/

/-- n bytes of v, least significant first. -/
def leBytes : Nat → Nat → List Byte
  | 0, _ => []
  | n + 1, v => BitVec.ofNat 8 v :: leBytes n (v / 256)
/-- The number that a little-endian byte list spells. -/
def leNat : List Byte → Nat
  | [] => 0
  | b :: t => b.toNat + 256 * leNat t
/-- n bytes of v, most significant first. -/
def beBytes (n v : Nat) : List Byte := (leBytes n v).reverse
/-- The number that a big-endian byte list spells. -/
def beNat (l : List Byte) : Nat := leNat l.reverse
/-- Bit i of a number. -/
def bit (v i : Nat) : Nat := v / 2 ^ i % 2
/-- Bits hi:lo of a number. -/
def bits (v hi lo : Nat) : Nat := v / 2 ^ lo % 2 ^ (hi + 1 - lo)
/-- A list cut or padded to n elements. -/
def fit {α : Type} (d : α) (n : Nat) (l : List α) : List α := l.take n ++ List.replicate (n - l.length) d
/-- Bytes off to off + n − 1 of a list. -/
def slice {α : Type} (l : List α) (off n : Nat) : List α := (l.drop off).take n
/-- A list with the elements from off on replaced by w. -/
def splice {α : Type} (l : List α) (off : Nat) (w : List α) : List α := l.take off ++ w ++ l.drop (off + w.length)
/-- Element i of a list, 0 when absent. -/
def nth (l : List Nat) (i : Nat) : Nat := l.getD i 0
/-- A list of numbers with element i replaced. -/
def setNth (l : List Nat) (i v : Nat) : List Nat := l.set i v
/-- The signed value of a w-bit number. -/
def sgn (w v : Nat) : Int := let m := v % 2 ^ w; if m < 2 ^ (w - 1) then m else (m : Int) - (2 ^ w : Nat)
/-- The low w bits of an integer. -/
def low (w : Nat) (v : Int) : Nat := (v % ((2 ^ w : Nat) : Int)).toNat

end Sys2Proof.Machine
end

