-- ==== Sys2Proof/Machine/Prim.lean ====
section
/-!
DEFINITION. The published algorithms that the spec names: CRC-32C (R52, R399, R423), AES-256 (FIPS 197), GHASH and
AES-256-GCM (NIST SP 800-38D; R294, R295, R308), SHA-256 and SHA-384 (FIPS 180-4; R310, R407, R424), HMAC and HKDF
(RFC 2104, RFC 5869; R310). PRESUMED: the standards' own definitions (log entry 14).
-/
namespace Sys2Proof.Machine

/-! ### CRC-32C -/

/-- One bit step of the reflected CRC-32C register. -/
def crcBit (c : Word) : Word := if c.getLsbD 0 then (c >>> 1) ^^^ 0x82F63B78 else c >>> 1
/-- One byte step. -/
def crcByte (c : Word) (b : Byte) : Word := (List.range 8).foldl (fun c _ => crcBit c) (c ^^^ b.setWidth 32)
/-- CRC-32C of a byte string, continuing from register value c. -/
def crcFrom (c : Word) (l : List Byte) : Word := l.foldl crcByte c
/-- CRC-32C of a byte string. -/
def crc32c (l : List Byte) : Word := ~~~ crcFrom 0xFFFFFFFF l

/-! ### AES-256 -/

/-- Doubling in GF(2^8) modulo x^8 + x^4 + x^3 + x + 1. -/
def xtime (b : Byte) : Byte := if b.getLsbD 7 then (b <<< 1) ^^^ 0x1B else b <<< 1
/-- Product in GF(2^8). -/
def gmul (a b : Byte) : Byte :=
  ((List.range 8).foldl (fun (r : Byte × Byte) i => (if b.getLsbD i then r.1 ^^^ r.2 else r.1, xtime r.2)) (0, a)).1
/-- x^254, the inverse in GF(2^8) (0 for 0). -/
def ginv (x : Byte) : Byte :=
  let x2 := gmul x x
  let x4 := gmul x2 x2
  let x8 := gmul x4 x4
  let x16 := gmul x8 x8
  let x32 := gmul x16 x16
  let x64 := gmul x32 x32
  let x128 := gmul x64 x64
  gmul x128 (gmul x64 (gmul x32 (gmul x16 (gmul x8 (gmul x4 x2)))))
/-- The AES substitution of one byte. -/
def subByte (x : Byte) : Byte :=
  let b := ginv x
  b ^^^ b.rotateLeft 1 ^^^ b.rotateLeft 2 ^^^ b.rotateLeft 3 ^^^ b.rotateLeft 4 ^^^ 0x63
def xorBytes (a b : List Byte) : List Byte := List.zipWith (· ^^^ ·) a b
/-- Key schedule: the list of 4-byte words so far, newest last, extended by n words (8-word key). -/
def expandKey : Nat → Nat → Byte → List (List Byte) → List (List Byte)
  | 0, _, _, ws => ws
  | n + 1, i, rc, ws =>
    let last := ws.getD (i - 1) []
    let t := if i % 8 = 0 then
        xorBytes ((last.drop 1 ++ last.take 1).map subByte) [rc, 0, 0, 0]
      else if i % 8 = 4 then last.map subByte else last
    expandKey n (i + 1) (if i % 8 = 0 then xtime rc else rc) (ws ++ [xorBytes (ws.getD (i - 8) []) t])
/-- The 60 round-key words of an AES-256 key. -/
def aesKeys (key : List Byte) : List (List Byte) :=
  expandKey 52 8 1 ((List.range 8).map fun i => slice key (4 * i) 4)
def shiftRows (s : List Byte) : List Byte := (List.range 16).map fun i => s.getD ((i + 4 * (i % 4)) % 16) 0
def mixColumns (s : List Byte) : List Byte :=
  (List.range 16).map fun i =>
    let c := i / 4 * 4
    let g (k : Nat) : Byte := s.getD (c + (i + k) % 4) 0
    xtime (g 0) ^^^ (xtime (g 1) ^^^ g 1) ^^^ g 2 ^^^ g 3
/-- AES-256 encryption of one 16-byte block. -/
def aes256 (key block : List Byte) : List Byte :=
  let ks := aesKeys key
  let rk (r : Nat) : List Byte := (slice ks (4 * r) 4).flatten
  let s0 := xorBytes block (rk 0)
  let s := (List.range 13).foldl (fun s r => xorBytes (mixColumns (shiftRows (s.map subByte))) (rk (r + 1))) s0
  xorBytes (shiftRows (s.map subByte)) (rk 14)

/-! ### GHASH and GCM -/

/-- Product in GF(2^128) as GHASH orders its bits: bit 127 of the number is the first bit of the block. -/
def gf128 (x y : BitVec 128) : BitVec 128 :=
  ((List.range 128).foldl (fun (r : BitVec 128 × BitVec 128) i =>
    (if x.getLsbD (127 - i) then r.1 ^^^ r.2 else r.1,
     if r.2.getLsbD 0 then (r.2 >>> 1) ^^^ 0xE1000000000000000000000000000000 else r.2 >>> 1)) (0, y)).1
def blockOf (l : List Byte) : BitVec 128 := BitVec.ofNat 128 (beNat (fit 0 16 l))
def blockBytes (b : BitVec 128) : List Byte := beBytes 16 b.toNat
/-- GHASH over whole 16-byte blocks under H. -/
def ghash (h : List Byte) (blocks : List (List Byte)) : List Byte :=
  blockBytes (blocks.foldl (fun y b => gf128 (y ^^^ blockOf b) (blockOf h)) 0)
/-- A byte string cut into n 16-byte blocks, the last padded with zeros. -/
def chunks16 (n : Nat) (l : List Byte) : List (List Byte) := (List.range n).map fun i => fit 0 16 (slice l (16 * i) 16)
def blocksOf (l : List Byte) : List (List Byte) := chunks16 ((l.length + 15) / 16) l
/-- The GCM counter mode from counter c0 on, under a 96-bit IV. -/
def gctr (key iv : List Byte) (c0 : Nat) (l : List Byte) : List Byte :=
  let n := (l.length + 15) / 16
  let ks := (List.range n).map fun i => aes256 key (fit 0 12 iv ++ beBytes 4 (c0 + i))
  xorBytes l ks.flatten
/-- GCM tag over authenticated data and ciphertext. -/
def gcmTag (key iv aad ct : List Byte) : List Byte :=
  let h := aes256 key (List.replicate 16 0)
  let lens := beBytes 8 (8 * aad.length) ++ beBytes 8 (8 * ct.length)
  xorBytes (ghash h (blocksOf aad ++ blocksOf ct ++ [lens])) (aes256 key (fit 0 12 iv ++ beBytes 4 1))

/-! ### SHA-2 -/

/-- The first n primes from c on, by trial. -/
def primes : Nat → Nat → Nat → List Nat
  | 0, _, _ => []
  | _, 0, _ => []
  | fuel + 1, n + 1, c =>
    if ((List.range c).filter fun d => 2 ≤ d && d * d ≤ c && c % d == 0).isEmpty then c :: primes fuel n (c + 1)
    else primes fuel (n + 1) (c + 1)
/-- The largest r below 2^w with r^k ≤ v, bit by bit. -/
def iroot (k : Nat) : Nat → Nat → Nat → Nat
  | 0, _, acc => acc
  | w + 1, v, acc => let t := acc + 2 ^ w; iroot k w v (if t ^ k ≤ v then t else acc)
/-- First 64 bits of the fraction of the cube root, and of the square root, of p. -/
def cbrtFrac (p : Nat) : BitVec 64 := BitVec.ofNat 64 (iroot 3 70 (2 ^ 192 * p) 0)
def sqrtFrac (p : Nat) : BitVec 64 := BitVec.ofNat 64 (iroot 2 70 (2 ^ 128 * p) 0)
def primes80 : List Nat := primes 500 80 2
def sha512K : List (BitVec 64) := primes80.map cbrtFrac
def sha256K : List Word := (sha512K.take 64).map fun (k : BitVec 64) => (k >>> 32).setWidth 32
def sha256H : List Word := (primes80.take 8).map fun p => (sqrtFrac p >>> 32).setWidth 32
def sha384H : List (BitVec 64) := (slice primes80 8 8).map sqrtFrac

/-- One SHA-2 compression at word width w, with the rotation amounts of its functions. -/
structure ShaRot where
  a0 : Nat × Nat × Nat
  a1 : Nat × Nat × Nat
  b0 : Nat × Nat × Nat
  b1 : Nat × Nat × Nat
def rot256 : ShaRot := { a0 := (7, 18, 3), a1 := (17, 19, 10), b0 := (2, 13, 22), b1 := (6, 11, 25) }
def rot512 : ShaRot := { a0 := (1, 8, 7), a1 := (19, 61, 6), b0 := (28, 34, 39), b1 := (14, 18, 41) }
def shaSmall {w : Nat} (r : Nat × Nat × Nat) (x : BitVec w) : BitVec w :=
  x.rotateRight r.1 ^^^ x.rotateRight r.2.1 ^^^ (x >>> r.2.2)
def shaBig {w : Nat} (r : Nat × Nat × Nat) (x : BitVec w) : BitVec w :=
  x.rotateRight r.1 ^^^ x.rotateRight r.2.1 ^^^ x.rotateRight r.2.2
/-- Message schedule: extend the 16 words by n. -/
def shaExpand {w : Nat} (r : ShaRot) : Nat → List (BitVec w) → List (BitVec w)
  | 0, ws => ws
  | n + 1, ws =>
    let g (k : Nat) := ws.getD (ws.length - k) 0
    shaExpand r n (ws ++ [shaSmall r.a1 (g 2) + g 7 + shaSmall r.a0 (g 15) + g 16])
/-- Compress one block of 16 words. -/
def shaBlock {w : Nat} (r : ShaRot) (ks : List (BitVec w)) (hs blk : List (BitVec w)) : List (BitVec w) :=
  let ws := shaExpand r (ks.length - 16) blk
  let fin := (List.zip ks ws).foldl (fun (v : List (BitVec w)) kw =>
    let g (i : Nat) := v.getD i 0
    let t1 := g 7 + shaBig r.b1 (g 4) + ((g 4 &&& g 5) ^^^ (~~~ g 4 &&& g 6)) + kw.1 + kw.2
    let t2 := shaBig r.b0 (g 0) + ((g 0 &&& g 1) ^^^ (g 0 &&& g 2) ^^^ (g 1 &&& g 2))
    [t1 + t2, g 0, g 1, g 2, g 3 + t1, g 4, g 5, g 6]) hs
  List.zipWith (· + ·) hs fin
/-- SHA-2 padding to whole blocks of bs bytes. -/
def shaPad (bs : Nat) (l : List Byte) : List Byte :=
  let lb := bs / 8
  l ++ [0x80] ++ List.replicate ((bs - (l.length + 1 + lb) % bs) % bs) 0 ++ beBytes lb (8 * l.length)
def shaRun {w : Nat} (r : ShaRot) (ks h0 : List (BitVec w)) (l : List Byte) : List (BitVec w) :=
  let wb := w / 8
  let p := shaPad (16 * wb) l
  (List.range (p.length / (16 * wb))).foldl (fun hs i =>
    shaBlock r ks hs ((List.range 16).map fun j => BitVec.ofNat w (beNat (slice p (16 * wb * i + wb * j) wb)))) h0
def sha256 (l : List Byte) : List Byte := ((shaRun rot256 sha256K sha256H l).map fun x => beBytes 4 x.toNat).flatten
def sha384 (l : List Byte) : List Byte :=
  (((shaRun rot512 sha512K sha384H l).map fun x => beBytes 8 x.toNat).flatten).take 48
/-- Hash, block size and digest of a curve: 1 P-256 with SHA-256, 2 P-384 with SHA-384 (R310). -/
def hashOf (curve : Nat) (l : List Byte) : List Byte := if curve = 2 then sha384 l else sha256 l
def hmac (curve : Nat) (key msg : List Byte) : List Byte :=
  let bs := if curve = 2 then 128 else 64
  let k := fit 0 bs (if bs < key.length then hashOf curve key else key)
  hashOf curve (k.map (· ^^^ 0x5C) ++ hashOf curve (k.map (· ^^^ 0x36) ++ msg))
/-- HKDF with one output block of 32 bytes (RFC 5869; R310). -/
def hkdf32 (curve : Nat) (salt ikm info : List Byte) : List Byte :=
  (hmac curve (hmac curve salt ikm) (info ++ [1])).take 32

/-- The bytes of an ASCII string. -/
def ascii (t : String) : List Byte := t.toList.map fun c => BitVec.ofNat 8 c.toNat

end Sys2Proof.Machine
end

