-- ==== Sys2Proof/Machine/Record.lean ====
section
/-!
DEFINITION. The recorder's shared operations (R422–R426): building a record, the 1 MiB buffer, hazards, and the
first-event record of a replay.
-/
namespace Sys2Proof.Machine

/-- RP_STATUS.STATE: 0 idle, 1 origin, 2 recording, 3 replaying, 4 HALTED, 5 stopped. -/
def State.rpState (s : State) : Nat := s.f Fld.RP_STATUS_STATE
def State.recording (s : State) : Bool := s.rpState = 2
def State.replaying (s : State) : Bool := s.rpState = 3
/-- A recording or a replay runs (R424, R431). -/
def State.rpRuns (s : State) : Bool := s.rpState = 1 || s.rpState = 2 || s.rpState = 3 || s.rpState = 4

/-- The bytes of a record (R423): 16-byte header and payload padded to 16 bytes. -/
def recBytes (stamp phase kind source seq : Nat) (payload : List Byte) : List Byte :=
  let h := leBytes 6 stamp ++ leBytes 1 (phase + 16 * kind) ++ leBytes 1 source ++ leBytes 2 payload.length ++
    leBytes 2 seq
  let crc := crc32c (h ++ payload)
  h ++ leBytes 4 crc.toNat ++ payload ++ List.replicate ((16 - payload.length % 16) % 16) 0

/-- Room of the on-die record buffer: 1 MiB (R425). -/
def recBufSize : Nat := 2 ^ 20

/-- Place of a record in the order of R423: stamp, phase, KIND, SOURCE. -/
def recPlace (stamp phase kind source : Nat) : Nat := 256 * ((16 * stamp + phase) * 16 + kind) + source
/-- A record that would stand before the last one within one phase belongs to the next phase (R423). -/
def State.orderRec (s : State) (kind source : Nat) : State :=
  let r := s.replay
  if r.last ≤ recPlace r.stamp r.phase kind source then s
  else if r.phase < 15 then s.updRp fun r => { r with phase := r.phase + 1 }
  else if r.stamp % 65536 = 65535 then s
  else s.updRp fun r => { r with stamp := r.stamp + 1, phase := 0 }
/-- Append one record to the buffer without further checks. -/
def State.pushRec (s : State) (kind source : Nat) (payload : List Byte) : State :=
  let s := s.orderRec kind source
  let r := s.replay
  let b := recBytes r.stamp r.phase kind source r.seq payload
  s.updRp fun r => { r with
    buf := r.buf ++ [b], bufBytes := r.bufBytes + b.length, seq := (r.seq + 1) % 65536,
    last := recPlace r.stamp r.phase kind source }
/-- Append a GAP record: SOURCE 1 a buffer overflow, 2 shedding step 1 (R422, R425, R431). -/
def State.pushGap (s : State) (source : Nat) : State :=
  ((s.pushRec 9 source (leBytes 6 s.replay.stamp)).incW Fld.RP_DROP_GAPS 0).setF Fld.RP_STATUS_GAP 0 1

/-- Note the first replay finding (R428): kind and the stamp of it. -/
def State.finding (s : State) (kind stamp : Nat) : State :=
  if s.f Fld.RP_FIRST_HI_KIND ≠ 0 then s
  else
    let s := s.setF Fld.RP_FIRST_HI_KIND 0 kind
    let s := s.setF Fld.RP_FIRST_HI_STAMP 0 (stamp / 2 ^ 32)
    s.setF Fld.RP_FIRST_LO_STAMP 0 stamp

/-- The hazards noted below stamp t are compared (R428): each at a stamp where the other side has none is a finding. -/
def State.settle (s : State) (t : Nat) : State :=
  let r := s.replay
  let alone (a b : List Nat) : List Nat := a.filter fun x => x < t && !b.contains x
  let l := (alone r.hazOwn r.hazRing ++ alone r.hazRing r.hazOwn).mergeSort (· ≤ ·)
  let s := s.updRp fun r => { r with hazOwn := r.hazOwn.filter (t ≤ ·), hazRing := r.hazRing.filter (t ≤ ·) }
  s.each l fun s x => ((s.setF Fld.RP_STATUS_HAZARD 0 1).inc Fld.RP_HAZARD_COUNT 0).finding 1 x

/-- The highest stamp that time can have reached without another command of the block: the end of the present 65,536
root cycles, in a replay the next record of the ring and the break stamp (R421, R427, R429, R430). -/
def State.breakStamp (s : State) : Option Nat :=
  if s.f Fld.RP_BREAK_HI_ENABLE = 1 then some (2 ^ 32 * s.f Fld.RP_BREAK_HI_STAMP + s.f Fld.RP_BREAK_LO_STAMP) else none
def State.stampLimit (s : State) : Nat :=
  let t := s.replay.stamp
  let top := 2 ^ 48 - 2
  if s.recording then min top (65536 * (t / 65536) + 65535)
  else if s.replaying then
    let m := min top (min (65536 * (t / 65536) + 65535) (max t s.replay.next))
    match s.breakStamp with | some b => if b < t then m else min m b | none => m
  else max t top

/-- Root cycles pass between two inputs: how many, the spec leaves to the moment, so the stamp and phase that a record
or a read meets are free values within what the other commands allow (R421; log entry 26). -/
def State.stampNow (s : State) : State :=
  if !(2 ≤ s.rpState) then s
  else
    let t := s.replay.stamp
    let t' := t + (Config.freeWord s.fresh).toNat % (s.stampLimit - t + 1)
    let w := (Config.freeWord (s.fresh + 1)).toNat
    let p := s.replay.phase
    let ph := if t' = t then p + w % (16 - p) else w % 16
    let s := s.drawn.drawn.updRp fun r => { r with stamp := t', phase := ph % 16 }
    if s.replaying then s.settle t' else s

/-- Write a record at the present stamp: one that does not fit is dropped and counted, and a GAP follows when space
returns (R425). Shedding step 1 holds the recorder (R339). -/
def State.recordAt (s : State) (kind source : Nat) (payload : List Byte) : State :=
  if !s.recording || s.replay.shedGap then s
  else
    let need := 16 + (payload.length + 15) / 16 * 16
    let gap := if s.replay.gapOwed then 32 else 0
    if recBufSize < s.replay.bufBytes + need + gap then
      (s.inc Fld.RP_DROP_DROPPED 0).updRp fun r => { r with gapOwed := true }
    else
      let s := if s.replay.gapOwed then
          (s.pushGap 1).updRp fun r => { r with gapOwed := false }
        else s
      s.pushRec kind source payload

/-- Write a record while recording, at the stamp and phase at which its input enters. -/
def State.record (s : State) (kind source : Nat) (payload : List Byte) : State :=
  if !s.recording || s.replay.shedGap then s else s.stampNow.recordAt kind source payload

/-- A replay meets an input that the ring does not cover (R428). -/
def State.unrecorded (s : State) : State :=
  if s.replaying then
    let s := s.stampNow
    (s.setF Fld.RP_STATUS_UNRECORDED 0 1).finding 4 s.replay.stamp
  else s
/-- Record under a source mask bit of RP_SOURCES (R422). A source that is used in a replay without its bit is an unrecorded
input (R428). -/
def State.recordSrc (s : State) (b kind source : Nat) (payload : List Byte) : State :=
  if bit (s.f Fld.RP_SOURCES_SOURCES) b = 1 then s.record kind source payload
  else if s.replay.injecting then s else s.unrecorded

/-- A hazard (R426): recorded while recording; while replaying, noted for comparison with the ring (R428). -/
def State.hazard (s : State) (source unit sub : Nat) : State :=
  if s.recording then s.record 7 source (leBytes 8 unit ++ leBytes 1 sub)
  else if s.replaying then
    let s := s.stampNow
    s.updRp fun r => { r with hazOwn := r.hazOwn ++ [r.stamp] }
  else s

/-- One draw of the TRNG for a consumer, 0 the crypto unit and 1 the firmware (R292, R310): 32 bytes. In a replay the
ring's next draw of that consumer is taken (R429); one is recorded with RP_SOURCES bit 2. -/
def State.trng (s : State) (consumer : Nat) : List Byte × State :=
  match (if s.replaying then s.replay.trng.find? (·.1 == consumer) else none) with
  | some d => (d.2, s.updRp fun r => { r with trng := r.trng.erase d })
  | none =>
    let b := s.freeBytes 32
    (b, s.drawn.recordSrc 2 5 consumer b)

end Sys2Proof.Machine
end

