-- ==== Sys2Proof/Machine/Mem.lean ====
section
/-!
DEFINITION. Memory bytes and stored check bits (R121-R126), the error log, packets, bus errors, events, responses, and
the states of the units.
-/
namespace Sys2Proof.Machine

/-! ### Memory bytes and code words -/

/-- The byte at an address; an address that nothing has written reads 0 (log entry 4). -/
def State.byte (s : State) (a : Nat) : Byte := mget (fun _ => 0) s.mem a
def State.setByte (s : State) (a : Nat) (b : Byte) : State := { s with mem := mput (fun _ => 0) s.mem a b }
/-- n bytes from an address. -/
def State.bytesAt (s : State) (a n : Nat) : List Byte := (List.range n).map fun i => s.byte (a + i)
/-- Store bytes from an address on. -/
def State.putBytes (s : State) (a : Nat) : List Byte → State
  | [] => s
  | b :: t => (s.setByte a b).putBytes (a + 1) t
/-- Syndrome of the 32-byte word that holds address a: stored check bits XOR the check bits of the stored data (R122).
Bits 15:0 are SR, bits 31:16 SC. -/
def State.syn (s : State) (a : Nat) : Word := mget (fun _ => 0) s.synd (a / 32)
def State.setSyn (s : State) (a : Nat) (w : Word) : State := { s with synd := mput (fun _ => 0) s.synd (a / 32) w }
/-- Erase [lo, hi): all-zero data and valid check bits (R114). -/
def State.wipe (s : State) (lo hi : Nat) : State :=
  { s with mem := mclear s.mem lo hi, synd := mclear s.synd (lo / 32) ((hi + 31) / 32) }

/-- Where the row at an address lives now: the shadow copy of a row that a background slice holds (R368), else itself. -/
def State.phys (s : State) (a : Nat) : Nat :=
  if a < 0x100000000 then
    let b := a / 0x800000
    let row := a / 1024 % 8192
    match (s.stair (b % 128)).slice with
    | some sl => if sl.bank = b ∧ sl.seg = row / 128 ∧ 2 ≤ sl.phase then 2 ^ 49 + 1024 * (128 * (b % 128) + row % 128) + a % 1024 else a
    | none => a
  else a

/-- Parity of a number's 16 low bits. -/
def par16 (v : Nat) : Nat := ((List.range 16).foldl (fun p i => p + bit v i) 0) % 2
/-- The check bits of 32 bytes of data (R121): row parities in bits 15:0, column parities in bits 31:16. -/
def checkBits (d : List Byte) : Word :=
  let rows := (List.range 16).map fun r => leNat (slice d (2 * r) 2)
  let rp := rows.map par16
  let r := (List.range 16).foldl (fun a j => a + (nth rp j + nth rp ((j + 15) % 16)) % 2 * 2 ^ j) 0
  let c := rows.foldl Nat.xor 0
  BitVec.ofNat 32 (r + 65536 * (c % 65536))
/-- Number of bits set. -/
def popc (w : Nat) (v : Nat) : Nat := (List.range w).foldl (fun p i => p + bit v i) 0
/-- The lowest bit set of a 16-bit number. -/
def lowBit (v : Nat) : Nat := ((List.range 16).find? fun i => bit v i == 1).getD 0

/-- Syndrome classes in the order of Table 06-1 (R122). -/
inductive SynClass where
  | clean
  | poison
  | checkErr
  | dataErr (bit : Nat)
  | ue
  deriving DecidableEq, Repr

/-- The row r of a data-bit error: SR has exactly bits r and (r + 1) mod 16 set. -/
def rowOf (sr : Nat) : Option Nat := (List.range 16).find? fun r => sr == 2 ^ r + 2 ^ ((r + 1) % 16)

/-- Classify a syndrome (R122). -/
def classify (w : Word) : SynClass :=
  let sr := w.toNat % 65536
  let sc := w.toNat / 65536
  if w = 0 then .clean
  else if 12 ≤ popc 16 sc then .poison
  else if popc 32 w.toNat = 1 then .checkErr
  else if popc 16 sc = 1 then
    match rowOf sr with
    | some r => .dataErr (16 * r + lowBit sc)
    | none => .ue
  else .ue

/-- Flip data bit d of a word (R121). -/
def flipBit (l : List Byte) (d : Nat) : List Byte :=
  l.set (d / 8) (l.getD (d / 8) 0 ^^^ BitVec.ofNat 8 (2 ^ (d % 8)))

/-- The syndrome that stored poison carries: C[15:0] inverted (R125). -/
def poisonSyn : Word := 0xFFFF0000

/-- Which store an address belongs to, the k of EC_CE_COUNT: 0 loft, 1 landing, 2 room RAM, 3 engine memories. -/
def storeOf (a : Nat) : Nat :=
  if a < 0x100000000 then 0 else if 2 ^ 48 ≤ a then 1 else if a < 0x110000000 then 2 else 3

/-! ### Internal regions: the landing -/

/-- Address of row `row` of plane store 4·room + plane in the model's address space (landing, above 2^48; log entry 5). -/
def landing (room plane row : Nat) : Nat := 2 ^ 48 + 1024 * (2712 * (4 * room + plane) + row)
/-- Address of row k of a stair's shadow buffer (R368). -/
def shadowBuf (stair k : Nat) : Nat := 2 ^ 49 + 1024 * (128 * stair + k)
/-- Address of row `row` of a bank (R96). -/
def bankRow (bank row : Nat) : Nat := 0x800000 * bank + 1024 * row

/-! ### Error log and logged words -/

/-- Append to the error log; a full log drops the entry (R138). -/
def State.logEc (s : State) (e : LogEntry) : State :=
  if s.ecLog.length < 64 then { s with ecLog := s.ecLog ++ [e] }
  else s.setF Fld.EC_STATUS_LOG_OVERFLOW 0 1

/-- The log entry of a word event: CLASS 1 check-bit, 2 data-bit, 3 uncorrectable, 4 poison write; SOURCE 0 delivery,
1 read-modify-write, 2 mowing round, 3 copy pass (Table 06-7). -/
def ecEntry (a cls src : Nat) (syn : Word) : LogEntry :=
  let k := storeOf a
  let row := (a - 2 ^ 48) / 1024
  let addr := if k = 1 then 4096 * (row / 2712) + row % 2712 else a
  let word := if k = 1 then a / 32 % 32 else 0
  { w0 := BitVec.ofNat 32 addr, w1 := BitVec.ofNat 32 (if k = 1 then 0 else addr / 2 ^ 32 % 65536),
    w2 := BitVec.ofNat 32 (2 ^ 28 * cls + 2 ^ 24 * src + 2 ^ 22 * k + word), w3 := syn }

/-- Count and log what a decoder found in the word at a; an uncorrectable word is a hazard of a recording (R122, R128,
R138, R426). -/
def State.noteWord (s : State) (a src : Nat) : State :=
  let w := s.syn (s.phys a)
  let k := storeOf a
  let ce (s : State) (cls : Nat) : State :=
    (({ s with mow := { s.mow with ceWindow := s.mow.ceWindow + if k ≤ 1 then 1 else 0 } } : State).inc
      Fld.EC_CE_COUNT_COUNT k).logEc (ecEntry a cls src w)
  match classify w with
  | .clean | .poison => s
  | .checkErr => ce s 1
  | .dataErr _ => ce s 2
  | .ue => ((s.inc Fld.EC_UE_COUNT_COUNT k).logEc (ecEntry a 3 src w)).hazard 4 a src

/-- The data that a decoder delivers for the word at a, and whether it is poisoned (R122). -/
def State.decoded (s : State) (a : Nat) : List Byte × Bool :=
  let base := s.phys (a / 32 * 32)
  let d := s.bytesAt base 32
  match classify (s.syn base) with
  | .clean | .checkErr => (d, false)
  | .dataErr i => (flipBit d i, false)
  | .poison | .ue => (d, true)

/-- Storage on die that carries the code of R121: LB_OWNER of a bank, a corridor counter (its book key), a set of the match cache, an
entry of the counter cache, a tree root of a range (R39, R303). -/
inductive OnDie where
  | owner (bank : Nat)
  | book (key : Nat)
  | matchSet (set : Nat)
  | cacheEnt (key : Nat)
  | root (range : Nat)
def OnDie.key : OnDie → Nat
  | .owner b => 8 * b
  | .book k => 8 * k + 1
  | .matchSet m => 8 * m + 2
  | .cacheEnt k => 8 * k + 3
  | .root r => 8 * r + 4
/-- Whether such a word is uncorrectable. -/
def State.odBad (s : State) (o : OnDie) : Bool := classify (mget (fun _ => 0) s.odie o.key) == .ue
/-- A word on die is written anew: its check bits are valid. -/
def State.odClear (s : State) (o : OnDie) : State := { s with odie := mput (fun _ => 0) s.odie o.key 0 }

/-- Store poison: the word's data with C[15:0] inverted, counted and logged (R125). -/
def State.storePoison (s : State) (a src : Nat) : State :=
  ((s.setSyn (s.phys a) poisonSyn).inc Fld.EC_POISON_WRITE_COUNT_COUNT 0).logEc (ecEntry (a / 32 * 32) 4 src poisonSyn)

/-- Read the word that holds address a through a decoder at delivery: data, poison mark, state with the counts. -/
def State.readWord (s : State) (a : Nat) : List Byte × Bool × State :=
  let base := a / 32 * 32
  let (d, p) := s.decoded base
  (d, p, s.noteWord base 0)

/-- Write bytes at offset off of the word that holds address a, with the poison mark of the written bytes (R125, R126).
Answers the state and whether the word was stored as poison. DESIGN CHOICE (log entry 148): the log's SOURCE of a full-word write
that stores poison, for which Table 06-7 has no code, is that of a read-modify-write. -/
def State.writeWord (s : State) (a : Nat) (off : Nat) (data : List Byte) (poison : Bool) : State × Bool :=
  let base := a / 32 * 32
  if data.length = 32 then
    let s := (s.putBytes (s.phys base) data).setSyn (s.phys base) 0
    if poison then (s.storePoison base 1, true) else (s, false)
  else
    let (d, p) := s.decoded base
    let s := s.noteWord base 1
    let s := (s.putBytes (s.phys base) (splice d off data)).setSyn (s.phys base) 0
    if p || poison then (s.storePoison base 1, true) else (s, false)

/-- Read the 32 words of a row: data, poison bits. -/
def State.rowRead (s : State) (a : Nat) : List Byte × Nat × State :=
  (List.range 32).foldl (fun (acc : List Byte × Nat × State) w =>
    let (d, p, s) := acc.2.2.readWord (a + 32 * w)
    (acc.1 ++ d, acc.2.1 + (if p then 2 ^ w else 0), s)) ([], 0, s)
/-- Write the 32 words of a row. -/
def State.rowWrite (s : State) (a : Nat) (data : List Byte) (poison : Nat) : State :=
  s.each (List.range 32) fun s w => (s.writeWord (a + 32 * w) 0 (slice data (32 * w) 32) (bit poison w == 1)).1

/-! ### Packets, endpoints and books -/

/-- This stack's node ID: node 0 while none is assigned (R157). -/
def State.node (s : State) : Nat := if s.f Fld.CO_NODE_VALID = 1 then s.f Fld.CO_NODE_NODE else 0
/-- DEST of an endpoint-form packet (R147). -/
def epDest (node ep : Nat) : Nat := 2 ^ 48 * node + 2 ^ 38 * ep
def Packet.dstNode (p : Packet) : Nat := bits p.dest 57 48
def Packet.dstEp (p : Packet) : Nat := bits p.dest 47 38
/-- Device-local address of an address-form packet (R157). -/
def Packet.addr (p : Packet) : Nat := p.dest % 2 ^ 48
/-- VC of each packet type (Table 07-4). -/
def vcOf (type : Nat) : Nat := if type ≤ 2 then 0 else if type ≤ 4 then 1 else if type ≤ 7 then 2 else 3
/-- Whether the type's form is the address form. -/
def addrForm (type : Nat) : Bool := type ≤ 1
/-- A request is a packet for which Table 07-4 names an answer (R148). -/
def isRequest (type : Nat) : Bool := type ≤ 2 || type == 5 || type == 6 || type == 8
/-- Whether a packet carries a payload of LEN + 1 bytes. -/
def hasPayload (type : Nat) : Bool := !(type == 0 || type == 4)
/-- Flits of a packet (R146). -/
def flitsOf (type len : Nat) : Nat :=
  if hasPayload type then (let u := len / 64 + 1; if u ≤ 1 then 1 else if u ≤ 3 then 2 else 3) else 1

/-- A response to a request: the request's source becomes the destination (R147). -/
def answer (s : State) (req : Packet) (type ep status : Nat) (payload : List Byte) (poison : Nat) (pst : Bool) : Packet :=
  { type := type, vc := 1, flits := flitsOf type req.len, dest := epDest req.srcNode req.srcEp, status := status,
    pstored := pst, poison := poison, len := req.len, tag := req.tag, dstPlane := req.srcPlane, srcPlane := 0,
    srcEp := ep, srcNode := s.node, hops := s.f Fld.CO_CFG_HOP_LIMIT, payload := payload,
    base := if addrForm req.type then req.addr % 256 else 0 }

/-- Hand a packet to its source endpoint for injection (R144). -/
def State.inject (s : State) (ep : Nat) (p : Packet) : State :=
  s.updNet fun n => { n with send := mupd (fun _ => []) n.send ep (· ++ [p]) }

/-! ### Outstanding requests -/

def outKey (ep plane tag : Nat) : Nat := 1024 * (4 * ep + plane) + tag
def State.outReq (s : State) (k : Nat) : Option OutReq := mget (fun _ => none) s.net.outReq k
def State.setOut (s : State) (k : Nat) (r : Option OutReq) : State :=
  s.updNet fun n => { n with outReq := mput (fun _ => none) n.outReq k r }
/-- Send a request and count its response time limit (R165). -/
def State.request (s : State) (ep : Nat) (p : Packet) : State :=
  (s.setOut (outKey ep p.srcPlane p.tag) (some { pkt := p })).inject ep p

/-- A request packet of an endpoint of this stack. -/
def mkReq (s : State) (type ep tag dest len : Nat) (payload : List Byte) (poison : Nat := 0) : Packet :=
  { type := type, vc := vcOf type, flits := flitsOf type len, dest := dest, poison := poison, len := len, tag := tag,
    srcEp := ep, srcNode := s.node, hops := s.f Fld.CO_CFG_HOP_LIMIT, payload := payload }

/-- The tags of an endpoint's posted requests: the management processor keeps 0 to 31 for key exchanges (R396) and the next ones for its
commands. -/
def postTags (ep : Nat) : List Nat := if ep = 546 then (List.range 512).map (512 + ·) else List.range 1024
/-- A free one. -/
def State.postTag (s : State) (ep : Nat) : Option Nat := (postTags ep).find? fun t => (s.outReq (outKey ep 0 t)).isNone
/-- The posted requests of an endpoint that wait for a tag. -/
def State.posts (s : State) (ep : Nat) : List Packet := mget (fun _ => []) s.net.posts ep
def State.setPosts (s : State) (ep : Nat) (l : List Packet) : State :=
  s.updNet fun n => { n with posts := mput (fun _ => []) n.posts ep l }
/-- The posted requests of an endpoint that are not answered yet. -/
def State.posted (s : State) (ep : Nat) : List Packet :=
  s.net.outReq.filterMap fun (e : Nat × Option OutReq) => match e.2 with
    | some r => if r.post && !r.expired && e.1 / 4096 == ep then some r.pkt else none
    | none => none
/-- Two requests of the address form that touch one 64-byte line: the later one waits for the answer of the earlier one (R19). -/
def oneLine (p q : Packet) : Bool :=
  addrForm p.type && addrForm q.type && p.dest / 64 ≤ (q.dest + q.len) / 64 && q.dest / 64 ≤ (p.dest + p.len) / 64
/-- Send the posted requests of an endpoint that wait for nothing, in order. -/
def State.pumpPosts (s : State) (ep : Nat) : State :=
  let l := s.posts ep
  (s.setPosts ep []).each l fun s p =>
    match (if (s.posts ep ++ s.posted ep).any (oneLine p) then none else s.postTag ep) with
    | some t => (s.setOut (outKey ep 0 t) (some { pkt := { p with tag := t }, post := true })).inject ep { p with tag := t }
    | none => s.setPosts ep (s.posts ep ++ [p])
/-- A request that its endpoint sends as soon as it has a tag, and that no command waits for. -/
def State.sendPost (s : State) (ep : Nat) (p : Packet) : State := (s.setPosts ep (s.posts ep ++ [p])).pumpPosts ep
/-- Bytes from an address on, cut at the 256-byte blocks (R149). -/
def blockParts : Nat → Nat → List Byte → List (Nat × List Byte)
  | 0, _, _ => []
  | fuel + 1, a, d =>
    if d.isEmpty then []
    else
      let n := min (256 - a % 256) d.length
      (a, d.take n) :: blockParts fuel (a + n) (d.drop n)
/-- Write bytes of this stack's memory with posted packets (R13, R16). -/
def State.postSpan (s : State) (ep a : Nat) (d : List Byte) : State :=
  s.each (blockParts (d.length + 1) a d) fun s x =>
    s.sendPost ep (mkReq s 1 ep 0 (x.1 + 2 ^ 48 * s.node) (x.2.length - 1) x.2)

/-- Count and capture a bus error (R163, R164): cause, requester and, for an address form, the local address. -/
def State.busError (s : State) (cause srcNode srcEp addr : Nat) : State :=
  let s := s.inc Fld.CO_BERR_COUNT_COUNT 0
  if s.f Fld.CO_STATUS_BERR = 1 then s
  else
    let s := s.setF Fld.CO_STATUS_BERR 0 1
    let s := s.setF Fld.CO_BERR_SRC_CAUSE 0 cause
    let s := s.setF Fld.CO_BERR_SRC_SRC_EP 0 srcEp
    let s := s.setF Fld.CO_BERR_SRC_SRC_NODE 0 srcNode
    let s := s.setF Fld.CO_BERR_ADDR_LO_ADDR 0 (addr % 2 ^ 32)
    s.setF Fld.CO_BERR_ADDR_HI_ADDR 0 (addr / 2 ^ 32 % 2 ^ 16)

/-- Refuse a request with a bus error: counted, captured and answered with RSP_ACK BUS_ERROR by endpoint ep (R148,
R163). -/
def State.refuse (s : State) (req : Packet) (ep cause : Nat) : State :=
  let s := s.busError cause req.srcNode req.srcEp (if addrForm req.type then req.addr else 0)
  let s := if req.srcEp = 546 ∧ req.srcNode = s.node then
      s.updMail fun m => { m with causes := mput (fun _ => 0) m.causes req.tag (cause + 1) }
    else s
  s.inject ep (answer s req 4 ep 2 [] 0 false)

/-- Router (12·y + x) of an endpoint (R141, Table 07-1); for the scheduler, the attachment q. -/
def epRouter (ep q : Nat) : Nat :=
  let at' (x y : Nat) := 12 * y + x
  if ep < 256 then let n := ep % 64; at' (n % 8 + 2) (n / 8 + 2)
  else if ep < 512 then
    let e := ep - 256
    let c := e / 16
    let j := e % 16 / 8
    let k := c % 4
    if c < 4 then at' (2 + 2 * k + j) 1 else if c < 8 then at' 10 (2 + 2 * k + j)
    else if c < 12 then at' (2 + 2 * k + j) 10 else at' 1 (2 + 2 * k + j)
  else if ep < 528 then
    let d := ep - 512
    at' ((if d % 8 < 4 then 1 else 3) + d % 8) (if d < 8 then 0 else 11)
  else if ep < 544 then
    let g := ep - 528
    at' (if g < 8 then 0 else 11) ((if g % 8 < 4 then 1 else 3) + g % 8)
  else if ep = 544 then at' (if q % 2 = 1 then 10 else 1) (if 2 ≤ q then 10 else 1)
  else if ep = 545 then at' 5 0 else at' 6 0

/-- Quadrant of a router for the scheduler's attachments (R143). -/
def quadrant (r : Nat) : Nat := (if 6 ≤ r % 12 then 1 else 0) + (if 6 ≤ r / 12 then 2 else 0)

/-- Local port (0 L0, 1 L1) of an endpoint on its router; ports use the peer's router (R143). -/
def epLocal (ep peer : Nat) : Nat :=
  if ep < 128 then 0 else if ep < 256 then 1
  else if ep < 512 then (ep - 256) % 8 / 4
  else if ep < 528 then peer % 2 else 0

/-! ### Events and responses -/

/-- Queue an event record at one destination: ports 0–16 hold 32 records each (R392); 32 + k stands for
MB_EVT_DEST[k]. -/
def State.queueEvent (s : State) (q : Nat) (r : EvRec) : State :=
  let l := mget (fun _ => []) s.mail.evq q
  if q ≤ 16 ∧ 32 ≤ l.length then s.inc Fld.MB_EVT_DROP_COUNT 0
  else
    let s := s.updMail fun m => { m with evq := mput (fun _ => []) m.evq q (l ++ [r]) }
    if q = 0 ∧ s.mail.ibiEn then s.updMail fun m => { m with ibi := 2 } else s

/-- Raise an event: it goes to every destination whose mask enables its class (R391, R392). -/
def State.event (s : State) (code source data : Nat) : State :=
  let cls := bits code 7 4
  let r : EvRec := { code := code, source := source, seq := s.mail.evSeq, data := data % 2 ^ 64 }
  let s := s.updMail fun m => { m with evSeq := (m.evSeq + 1) % 2 ^ 32 }
  let s := s.each (List.range 17) fun s p =>
    if bit (s.f Fld.MB_EVT_MASK_MASK p) cls = 1 then s.queueEvent p r else s
  s.each (List.range 4) fun s k =>
    if s.f Fld.MB_EVT_DEST_VALID k = 1 ∧ cls < 8 ∧ bit (s.f Fld.MB_EVT_DEST_MASK k) cls = 1 then s.queueEvent (32 + k) r
    else s

/-- Reference to a command's requester: port, node, endpoint, tag. -/
abbrev CmdRef := Nat × Nat × Nat × Nat
def CmdHdr.ref (h : CmdHdr) : CmdRef := (h.port, h.node, h.ep, h.tag)

/-- The 64-byte response block (Table 17-3). -/
def rspBlock (status tag : Nat) (data : List Byte) : List Byte :=
  fit 0 64 (leBytes 1 status ++ leBytes 1 data.length ++ leBytes 2 tag ++ data)

/-- Whether the hearth loop runs, locked or coasting (CK_STATUS.HEARTH, Table 14-4: 2 LOCKED, 3 COASTING). -/
def State.loopRuns (s : State) : Bool := s.f Fld.CK_STATUS_HEARTH = 2 || s.f Fld.CK_STATUS_HEARTH = 3
/-- Whether the sidebands run: whenever the hearth loop does, but not in island-only service (R254). -/
def State.sideRuns (s : State) : Bool := s.loopRuns && s.f Fld.HK_STATUS_TIER != 0
def State.loopLocked (s : State) : Bool := s.f Fld.CK_STATUS_HEARTH = 2

/-- Address of X word w of engine e; Y word; program word (R206). -/
def xAddr (e w : Nat) : Nat := 0x110000000 + 0x20000 * e + 4 * (w % 16384)
def yAddr (e w : Nat) : Nat := 0x110010000 + 0x20000 * e + 4 * (w % 16384)
def pAddr (e i : Nat) : Nat := 0x112000000 + 0x8000 * e + 4 * (i % 8192)

/-- Write a run of bytes word by word (used by units for their own memories): each touched 32-byte word is written
through the code. -/
def writeSpan : Nat → State → Nat → List Byte → State
  | 0, s, _, _ => s
  | fuel + 1, s, a, d =>
    if d.isEmpty then s
    else
      let n := min (32 - a % 32) d.length
      writeSpan fuel (s.writeWord a (a % 32) (d.take n) false).1 (a + n) (d.drop n)
def State.writeRun (s : State) (a : Nat) (d : List Byte) : State := writeSpan (d.length + 1) s a d

/-- A 64-byte block leaves on the sideband of a port as eight messages, FRAG 0 to 7, with the port's block number (R254). -/
def Mail.sendBlock (m : Mail) (port kind : Nat) (b : List Byte) : Mail :=
  let q := mget (fun _ => 0) m.seq8 port
  { m with
    sent := (port, kind, b) :: m.sent, seq8 := mput (fun _ => 0) m.seq8 port ((q + 1) % 256),
    side := (List.range 8).foldl (fun a j => (port, 2 ^ 12 * kind + 2 ^ 9 * j + q, slice b (8 * j) 8) :: a) m.side }
/-- THROTTLE_REQ (KIND 4) or THROTTLE_CLEAR (5) on the sideband of a port: a header alone, FRAG 0 (Table 11-5). DESIGN CHOICE
(log entry 138): SEQ8 shows the number of the port's next block, which the message does not use up. -/
def Mail.sendThrottle (m : Mail) (port kind : Nat) : Mail :=
  { m with side := (port, 2 ^ 12 * kind + mget (fun _ => 0) m.seq8 port, []) :: m.side }
/-- Send a response block to its requester: port 0 queue, sideband of ports 1–16 while it runs (else held, R385),
MB_RSP packet of port 17 to the plane that asked (R147), X memory of port 18, the first word when the others
are written (R384–R387); 32 + g stands for the link mailbox of group g (R267). -/
def State.deliver (s : State) (r : CmdRef) (hdrTag : Nat) (blk : List Byte) : State :=
  let (port, node, ep, _) := r
  if port = 0 then
    let s := s.updMail fun m => { m with rsp := mupd (fun _ => []) m.rsp 0 (· ++ [blk]) }
    if s.mail.ibiEn then s.updMail fun m => { m with ibi := 1 } else s
  else if port ≤ 16 then
    if s.sideRuns then s.updMail fun m => m.sendBlock port 2 blk
    else s.updMail fun m => { m with rsp := mupd (fun _ => []) m.rsp port (· ++ [blk]) }
  else if port = 17 then
    s.inject 546 { type := 9, vc := 3, flits := 1, dest := epDest node ep, len := 63, tag := hdrTag % 1024, dstPlane := hdrTag / 1024, srcEp := 546,
                   srcNode := s.node, hops := s.f Fld.CO_CFG_HOP_LIMIT, payload := blk }
  else if 32 ≤ port then s.updLink (port - 16) fun l => { l with lmbOut := l.lmbOut ++ [blk] }
  else
    (s.postSpan 546 (xAddr ep 0x3FD1) (blk.drop 4)).postSpan 546 (xAddr ep 0x3FD0) (blk.take 4)

/-- The in-progress entry of a requester's command. -/
def State.inprogOf (s : State) (r : CmdRef) : Option InProg :=
  s.mail.inprog.find? fun e => e.port == r.1 && e.node == r.2.1 && e.ep == r.2.2.1 && e.tag == r.2.2.2
/-- The in-progress table without a requester's command. -/
def dropInprog (l : List InProg) (r : CmdRef) : List InProg :=
  l.filter fun e => !(e.port == r.1 && e.node == r.2.1 && e.ep == r.2.2.1 && e.tag == r.2.2.2)

/-- Answer a command and take it off the commands in progress (R379, R380). A response held by a sideband that does not
run keeps its command in progress until it is sent (R385). The response of a command that a replay injected is
discarded (R429). -/
def State.respond (s : State) (r : CmdRef) (status : Nat) (data : List Byte) : State :=
  let hdrTag := match s.inprogOf r with | some e => e.hdrTag | none => s.mail.hdrTag
  let silent := match s.inprogOf r with | some e => e.injected | none => false
  let blk := rspBlock status r.2.2.2 data
  let keep := 1 ≤ r.1 ∧ r.1 ≤ 16 ∧ !s.sideRuns
  let s := if keep then s else s.updMail fun m => { m with inprog := dropInprog m.inprog r }
  if silent then s.updMail fun m => { m with inprog := dropInprog m.inprog r } else s.deliver r hdrTag blk

/-- Commands that wait for a link to reach something end with a status (R255, R281). -/
def State.endLinkCmds (s : State) (k : Nat) (sel : Nat → Bool) (status : Nat) (data : List Byte) : State :=
  let l := (s.link k).cmd.filter fun c => sel c.1
  (s.updLink k fun q => { q with cmd := q.cmd.filter fun c => !sel c.1 }).each l fun s c => s.respond c.2 status data

/-- Answer an optional waiting command. -/
def State.respondTo (s : State) (r : Option CmdRef) (status : Nat) (data : List Byte) : State :=
  match r with | some r => s.respond r status data | none => s

/-- The sideband of a port runs again: held responses go out in order and their commands end (R385). -/
def State.flushHeld (s : State) (port : Nat) : State :=
  let l := mget (fun _ => []) s.mail.rsp port
  let s := s.updMail fun m => l.foldl (fun m b => m.sendBlock port 2 b) m
  s.updMail fun m => { m with
    rsp := mput (fun _ => []) m.rsp port [],
    inprog := m.inprog.filter fun e => !(e.port == port && l.any fun b => leNat (slice b 2 2) == e.tag) }

/-- Every sideband starts to run: what was held goes out (R254, R385). -/
def State.sidesStart (s : State) : State := if s.sideRuns then s.each (List.range 16) fun s d => s.flushHeld (d + 1) else s

/-- Mark a command in progress as past its commit point (R393). -/
def State.committed (s : State) (r : CmdRef) : State :=
  s.updMail fun m => { m with inprog := m.inprog.map fun e =>
    if e.port == r.1 && e.node == r.2.1 && e.ep == r.2.2.1 && e.tag == r.2.2.2 then { e with committed := true } else e }

/-! ### Ownership and unit states -/

def State.owner (s : State) (b : Nat) : Owner := { kind := s.f Fld.LB_OWNER_KIND b, id := s.f Fld.LB_OWNER_ID b }
def State.fallowBank (s : State) (b : Nat) : Bool := s.f Fld.LB_STATUS_FALLOW b = 1
/-- Retained or entering retention (LB_PWR.PSTATE 1 or 2). -/
def State.retained (s : State) (b : Nat) : Bool := s.f Fld.LB_PWR_PSTATE b = 1 || s.f Fld.LB_PWR_PSTATE b = 2
def State.dual (s : State) (b : Nat) : Bool := s.f Fld.LB_STATUS_DUAL b = 1
def State.safe (s : State) : Bool := s.f Fld.HK_STATUS_SAFE = 1
def State.ready (s : State) : Bool := s.f Fld.HK_STATUS_READY = 1
/-- RECOVER has returned the rooms to RUN and runs its commit (R371 steps 6 and 7). -/
def State.recovering (s : State) : Bool := s.commit.any fun c => c.inner == 2
/-- A number with bit i set or cleared. -/
def putBit (v i : Nat) (b : Bool) : Nat := v - bit v i * 2 ^ i + (if b then 2 ^ i else 0)
def State.resuming (s : State) : Bool := s.f Fld.EP_STATUS_RESUME_PENDING = 1
/-- Room states (Table 03-8). -/
def State.roomState (s : State) (n : Nat) : Nat := s.f Fld.RM_STATUS_STATE n
/-- Field of a plane's state in RM_PLANE (Table 03-12). -/
def planeFld (p : Nat) : Field :=
  if p = 0 then Fld.RM_PLANE_P0_STATE else if p = 1 then Fld.RM_PLANE_P1_STATE
  else if p = 2 then Fld.RM_PLANE_P2_STATE else Fld.RM_PLANE_P3_STATE
def State.planeState (s : State) (n p : Nat) : Nat := s.f (planeFld p) n
def State.setPlaneState (s : State) (n p v : Nat) : State := s.setF (planeFld p) n v
/-- The active plane of a room. -/
def State.active (s : State) (n : Nat) : Option Nat :=
  if s.f Fld.RM_PLANE_NONE n = 1 then none else some (s.f Fld.RM_PLANE_ACTIVE n)
/-- DE_STATE.STATE of an engine (Table 09-4). -/
def State.engState (s : State) (e : Nat) : Nat := s.f Fld.DE_STATE_STATE e
/-- Key of a unit gate: kind 0 room, 1 cluster, 2 port, 3 group, 4 unit bit (Table 17-6). -/
def gateKey (kind idx : Nat) : Nat := 256 * kind + idx
/-- A closing gate drains: new accesses to its unit are refused (R331). -/
def State.gateDraining (s : State) (kind idx : Nat) : Bool := mget (fun _ => 0) s.clk.gating (gateKey kind idx) = 2
/-- Whether a gate is open (CK_GSTAT). -/
def State.gateOpen (s : State) (kind idx : Nat) : Bool :=
  bit (if kind = 0 then s.f Fld.CK_GSTAT_ROOM_OPEN (idx / 32) else if kind = 1 then s.f Fld.CK_GSTAT_DSP_OPEN
    else if kind ≤ 3 then s.f Fld.CK_GSTAT_LINK_OPEN else s.f Fld.CK_GSTAT_UNIT_OPEN)
    (if kind = 0 then idx % 32 else if kind = 3 then 16 + idx else idx) = 1
/-- Accesses to a unit whose gate is closed or closing complete with a bus error of cause 0x5 (R163, R331). -/
def State.gateShut (s : State) (kind idx : Nat) : Bool := !s.gateOpen kind idx || s.gateDraining kind idx
/-- Status register of link k: STATE field of a port or a group (R252, R272). -/
def State.linkState (s : State) (k : Nat) : Nat :=
  if k < 16 then s.f Fld.DP_STATUS_STATE k else s.f Fld.SL_STATUS_STATE (k - 16)
/-- A link's new state and its rate code are recorded (R422, kind 2). -/
def State.setLinkState (s : State) (k v : Nat) : State :=
  let old := s.linkState k
  let s := if k < 16 then s.setF Fld.DP_STATUS_STATE k v else s.setF Fld.SL_STATUS_STATE (k - 16) v
  let rate := if k < 16 then s.f Fld.DP_STATUS_RATE k else s.f Fld.SL_STATUS_RATE (k - 16)
  if old = v then s else s.record 2 k (leBytes 1 v ++ leBytes 1 rate)
/-- Whether link k is ACTIVE (code 3 on both). -/
def State.linkActive (s : State) (k : Nat) : Bool := s.linkState k = 3
/-- DOWN_HELD is 6 on a port and 5 on a group; FAILED 7 and 6 (Tables 11-4, 12-4). -/
def downHeld (k : Nat) : Nat := if k < 16 then 6 else 5
def failedState (k : Nat) : Nat := if k < 16 then 7 else 6

end Sys2Proof.Machine
end

