-- ==== Sys2Proof/Machine/SafeState.lean ====
section
/-!
DEFINITION. Entering the safe state (R24 Table 02-4, R30, R36, R65, R66, R81, R111, R202, R218, R251, R274, R431), a
books fault (R36), and the shared pieces: stopping engines, abandoning loads and repair windows, retaining banks.
-/
namespace Sys2Proof.Machine

def rooms128 : List Nat := List.range 128
def banks512 : List Nat := List.range 512
def engines256 : List Nat := List.range 256
def links32 : List Nat := List.range 32

/-- A run of memory whose content the spec calls undefined: free values (R65; log entry 10). -/
def State.scramble (s : State) (a n : Nat) : State := (s.putBytes a (s.freeBytes n)).drawn

/-- DONE of a room's load (R62): ERR, DONE, BUSY, and the answer to the command that asked for it (R394 Table 17-10).
Status FAULT reports a step that failed after the commit point (Table 17-4). -/
def State.loadDone (s : State) (n err : Nat) : State :=
  match (s.room n).ld with
  | none => s
  | some op =>
    let s := s.setF Fld.RM_LOAD_STATUS_ERR n err
    let s := s.setF Fld.RM_LOAD_STATUS_DONE n 1
    let s := s.setF Fld.RM_LOAD_STATUS_BUSY n 0
    let s := s.updRoom n fun r => { r with ld := none }
    let s := if op.agent = .sched then
        s.updSched fun q => { q with loadsDone := q.loadsDone ++ [(n, op.plane, err, op.loc, op.desc)] }
      else s
    s.respondTo op.cmd (if err = 0 then 0 else 7) (leBytes 4 (s.rd .RM_LOAD_STATUS n).toNat)

/-- A plane loses its image: EMPTY, no source, no identifier (R63, Table 03-15). -/
def State.emptyPlane (s : State) (n p : Nat) : State :=
  let s := s.setPlaneState n p 0
  let s := s.setF Fld.RM_PSRC_VALID (4 * n + p) 0
  let s := s.setF Fld.RM_IMAGE_ID_LO_ID (4 * n + p) 0
  s.setF Fld.RM_IMAGE_ID_HI_ID (4 * n + p) 0

/-- Discard a held switch whose target cannot become RESIDENT (R57); the PLANE_SWITCH that waits ends DENIED (R69). -/
def State.dropHeld (s : State) (n : Nat) : State :=
  let s := s.setF Fld.RM_PLANE_PEND_VALID n 0
  let s := s.setF Fld.RM_STATUS_SW_REFUSED n 1
  let c := (s.room n).cmdSwitch
  (s.updRoom n fun r => { r with cmdSwitch := none }).respondTo c 4 []

/-- A load, reload or save is abandoned with ERR 0x6 (R65, Table 03-7): a load or reload leaves the target EMPTY, a save
leaves it RESIDENT and the state rows in the loft undefined. -/
def State.abandonLoad (s : State) (n : Nat) : State :=
  match (s.room n).ld with
  | none => s
  | some op =>
    let s := if op.op = 2 then
        (s.setPlaneState n op.plane 2).scramble (bankRow op.bank (op.row + 2688)) 24576
      else s.emptyPlane n op.plane
    let s := if op.op ≠ 2 ∧ s.f Fld.RM_PLANE_PEND_VALID n = 1 ∧ s.f Fld.RM_PLANE_PENDING n = op.plane
      then s.dropHeld n else s
    s.loadDone n 6

/-- A repair window is abandoned; remaps already applied remain, and the suspect position starts again from no correction
(R83). DESIGN CHOICE (log entry 115): the history is cleared of every position of the groups under test or waiting. -/
def State.abandonWindow (s : State) (n : Nat) : State :=
  if (s.stair n).win.isSome then
    let groups := match (s.stair n).win with | some w => w.group :: w.waiting | none => []
    (s.updStair n fun t => { t with win := none, corr := t.corr.filter fun (e : Nat × Nat) => !groups.contains (e.1 / 32) }).setF Fld.ST_STATUS_REPAIR_BUSY n 0
  else s

/-- The rows of a background slice return from the shadow buffer to the bank through the decoder at the stair's end (R123), and the
slice ends (R368); copy passes of the
columns that it found and replaced then start (R369). -/
def State.endSlice (s : State) (n : Nat) : State :=
  match (s.stair n).slice with
  | none => s
  | some sl =>
    let s := s.updStair n fun t => { t with slice := none }
    let s := if sl.phase = 1 then s
      else s.each (List.range 128) fun s k =>
        let (d, m, s) := s.rowRead (shadowBuf n k)
        s.rowWrite (bankRow sl.bank (128 * sl.seg + k)) d m
    let s := if sl.spares.isEmpty then s
      else (s.updBank sl.bank fun b => { b with copy := b.copy ++ sl.spares.map fun k => (k, 0) }).hazard 3 sl.bank 0
    let m := s.f Fld.BT_SLICE_MAP_MAP (n / 32)
    let s := s.setF Fld.BT_SLICE_MAP_MAP (n / 32) (m - 2 ^ (n % 32) * bit m (n % 32))
    s.setF Fld.BT_STATUS_BG_RUNNING 0 (if (List.range 4).any fun k => s.f Fld.BT_SLICE_MAP_MAP k ≠ 0 then 1 else 0)
/-- A background slice is abandoned at once, where its bank stops sampling: its rows return from the shadow buffer to the
bank (R370). -/
def State.restoreSlice (s : State) (n : Nat) : State :=
  if (s.stair n).slice.isSome then (s.endSlice n).inc Fld.BT_BG_STATUS_ABORTED 0 else s

/-- Put a bank into retention: it stops sampling, and its array is on the way (PSTATE 1) (R111). A wake that was asked
for, or that runs, is given up: the bank is retained by this cause. A BANK_WAKE that waits for it ends DENIED when shedding
takes the bank (R341), and otherwise waits for the wake at RESUME or RECOVER. -/
def State.retain (s : State) (b cause : Nat) : State :=
  if s.retained b ∧ !(s.bank b).wakeWait then s
  else
    let l := if cause = 2 then (s.bank b).wakeCmd else []
    let s := s.updBank b fun k => { k with wakeWait := false, wakeCmd := if cause = 2 then [] else k.wakeCmd }
    let s := s.each l fun s r => s.respond r 4 []
    (if s.retained b then s else s.setF Fld.LB_PWR_PSTATE b 1).setF Fld.LB_PWR_CAUSE b cause

/-- Commands that wait on an engine end with a status; one past its commit point ends with FAULT. -/
def State.endEngCmds (s : State) (e st : Nat) : State :=
  let g := s.eng e
  let l := g.haltCmds ++ g.stepCmds ++ (g.startCmd.map (·.cmd)).toList
  (s.updEng e fun g => { g with haltCmds := [], stepCmds := [], startCmd := none }).each l fun s r =>
    s.respond r (if (s.inprogOf r).any (·.committed) then 7 else st) []

/-- The registers of Table 09-1 are lost (R202), DE_FLAGS and DE_MODE are not among them; the engine's recorded statuses are cleared, requests already sent stay outstanding
(Table 09-2), a waiting halt or step ends ABORTED. DE_STATE shows `st`. -/
def State.clearEngine (s : State) (e st : Nat) : State :=
  let s := s.updEng e fun g =>
    { g with
      d := [], a := [], ptr := [], mod := [], len := [], stack := [], pcOver := false, rep := 0, stepping := false,
      started := false, svcWait := [], rspWait := [],
      tags := g.tags.filter fun (t : Nat × EngTag) => t.2.status == 0 }
  let s := s.setF Fld.DE_PC_PC e 0
  let s := s.setF Fld.DE_REP_REMAINING e 0
  let s := s.setF Fld.DE_STATE_REP e 0
  let s := s.setF Fld.DE_STATE_THROTTLED e (if s.f Fld.TH_STATUS_LEVEL = 0 then 0 else 1)
  let s := (s.setF Fld.DE_CTRL_HALT e 0).setF Fld.DE_CTRL_STEP e 0
  let s := s.setF Fld.DE_STATE_STATE e st
  s.endEngCmds e 6

/-- A foundation reset or the safe state stops an engine; a GATED or FALLOW one keeps its state, and a HALT asked of it is
cleared (R211, R218). -/
def State.stopEngine (s : State) (e : Nat) : State :=
  if s.engState e = 0 ∨ s.engState e = 6 then s.setF Fld.DE_CTRL_HALT e 0 else s.clearEngine e 7

/-- A room's clock is to stop at its next edge (Table 03-8): RM_STATUS takes `st` there. -/
def State.stopAtEdge (s : State) (n st : Nat) : State := s.updRoom n fun r => { r with toStop := st + 1, toRun := false }
/-- An epoch commit before its commit point ends with the status given; staged values stay staged, later staged values
winning (Tables 02-3, 02-4). Rooms that RECOVER had returned to RUN stop again. -/
def State.failCommit (s : State) (status : Nat) : State :=
  match s.commit with
  | none => s
  | some c =>
    let s := { s with staged := s.snapshot.foldl (fun (m : SMap (Option Word)) (e : Nat × Option Word) => if mhas m e.1 then m else mput (fun _ => none) m e.1 e.2) s.staged }
    let s := { s with snapshot := [] }
    let s := { s with commit := none }
    let s := s.setF Fld.EP_STATUS_FROZEN 0 0
    let s := s.setF Fld.EP_STATUS_COMMIT_BUSY 0 0
    let s := (s.setF Fld.EP_ESC_COMMIT_COUNT 0 0).updSched fun q => { q with inPipe := [] }
    let s := if c.inner = 2 then s.each rooms128 fun s n => if s.roomState n = 0 then s.stopAtEdge n 3 else s else s
    let s := if c.inner = 1 ∨ c.inner = 4 then s.updBoot fun b => { b with loads := [] } else s
    let s := if c.inner = 3 then { s with enumer := none } else if c.inner = 4 then s.setF Fld.RP_STATUS_STATE 0 0 else s
    s.respondTo c.cmd (if c.inner = 4 ∧ status = 6 then 7 else status) []

/-- Flush the recorder's buffer to the ring in order (R425): service-class writes from the ring offset on; with WRAP the
ring restarts at byte 256. -/
def State.ringBase (s : State) : Nat := 0x800000 * s.f Fld.RP_RING_FIRST
def State.ringSize (s : State) : Nat := 0x800000 * s.f Fld.RP_RING_BANKS
/-- Bytes written where the recorder's flush at a reset or at the safe state ends, before the banks are held: a word of a FAILED stair is
dropped (R81). -/
def State.landBytes : Nat → Nat → List Byte → State → State
  | 0, _, _, s => s
  | fuel + 1, a, d, s =>
    if d.isEmpty then s
    else
      let n := min (32 - a % 32) d.length
      let b := a / 0x800000
      let s := if s.f Fld.ST_STATUS_STATE (b % 128) = 2 then s.updBank b fun k => { k with drops := k.drops ++ [a] }
        else (s.writeWord a (a % 32) (d.take n) false).1
      State.landBytes fuel (a + n) (d.drop n) s
/-- The recorder's write of bytes of the ring: posted packets of endpoint 546 (R425), or, at a reset and at the safe state, as a part of
what ends the recording. -/
def State.ringWrite (s : State) (now : Bool) (a : Nat) (d : List Byte) : State :=
  if now then State.landBytes (d.length + 1) a d s else s.postSpan 546 a d
/-- The writes of the ring that are still on their way end before a reset or the safe state does. -/
def State.ringLand (s : State) : State :=
  let mine (p : Packet) : Bool := p.type == 1 && decide (s.ringBase ≤ p.addr) && decide (p.addr < s.ringBase + s.ringSize)
  let l := (s.posted 546 ++ s.posts 546).filter mine
  let s := s.setPosts 546 ((s.posts 546).filter fun p => !mine p)
  let s := s.updNet fun n => { n with outReq := n.outReq.filter fun (e : Nat × Option OutReq) =>
    match e.2 with | some r => !(r.post && e.1 / 4096 == 546 && mine r.pkt) | none => true }
  s.each l fun s p => State.landBytes (p.payload.length + 1) p.addr p.payload s
def State.putRing (now : Bool) (s : State) (r : List Byte) : State :=
  let off := s.replay.ringOff
  let fits := off + r.length ≤ s.ringSize
  if !s.recording then s
  else if !fits ∧ s.f Fld.RP_CFG_WRAP = 0 then s.setF Fld.RP_STATUS_STATE 0 5
  else
    let s := if fits then s
      else s.setF Fld.RP_STATUS_WRAPPED 0 1
    let at' := if fits then off else 256
    let s := s.ringWrite now (s.ringBase + at') r
    let s := s.inc Fld.RP_FILL_UNITS 0 (r.length / 16)
    s.updRp fun q => { q with ringOff := at' + r.length }
def State.flushRing (s : State) (now : Bool) : State :=
  let l := s.replay.buf
  (s.updRp fun q => { q with buf := [], bufBytes := 0 }).each l (State.putRing now)

/-- Write the parts of the ring header that the end of a recording fixes (Table 19-2). -/
def State.ringTrailer (s : State) (now : Bool) : State :=
  let b := s.ringBase
  let flags := s.f Fld.RP_CFG_WRAP + 2 * s.f Fld.RP_STATUS_WRAPPED + 4 * (if s.replay.origin = 1 then 1 else 0)
  let s := s.ringWrite now (b + 5) (leBytes 1 flags)
  let s := s.ringWrite now (b + 16) (leBytes 6 s.replay.stamp)
  s.ringWrite now (b + 24) (leBytes 4 s.replay.ringOff)

/-- End a recording: the last record, the flush, the header, state stopped (R422, R431); `now` at a reset or the safe state. -/
def State.endRecording (s : State) (kind source : Nat) (now : Bool) : State :=
  if s.recording then
    let s := if now then s.ringLand else s
    (((s.stampNow.pushRec kind source []).flushRing now).ringTrailer now).setF Fld.RP_STATUS_STATE 0 5
  else s

/-- What the safe state does to the recorder: SAFE record, flush, header, stop; RP_SAFE_CAUSE and RP_SAFE_STAMP
(Table 19-4). -/
def State.safeRecord (s : State) (cause : Nat) : State :=
  let s := if s.recording then s.setF Fld.RP_STATUS_SAFE 0 1 else s
  let s := s.endRecording 10 cause true
  let s := s.setF Fld.RP_SAFE_CAUSE_VALID 0 1
  let s := s.setF Fld.RP_SAFE_CAUSE_CAUSE 0 cause
  let s := s.setF Fld.RP_SAFE_STAMP_LO_STAMP 0 s.replay.stamp
  s.setF Fld.RP_SAFE_STAMP_HI_STAMP 0 (s.replay.stamp / 2 ^ 32)

/-- The edge at which a room was to stop has passed, or will not come: the state that was asked for, and a switch that was
accepted for that edge is held (R57, R67). -/
def State.edgeOver (s : State) (n : Nat) : State :=
  let r := s.room n
  if r.toStop = 0 ∨ s.roomState n ≠ 0 then s
  else
    let s := match r.sw with
      | some (t, _) => (s.setF Fld.RM_PLANE_PEND_VALID n 1).setF Fld.RM_PLANE_PENDING n t
      | none => s
    (s.setF Fld.RM_STATUS_STATE n (r.toStop - 1)).updRoom n fun r => { r with toStop := 0, toRun := false, sw := none }

/-- The receive lanes of a group stop: no markers are found, and no lane is aligned (Table 12-12). -/
def State.lanesOff (s : State) (k : Nat) : State :=
  if k < 16 then s
  else s.each (List.range 4) fun s l =>
    (s.setF Fld.SL_LANE_FRAME_LOCK (4 * (k - 16) + l) 0).setF Fld.SL_LANE_ALIGNED (4 * (k - 16) + l) 0

/-- The units' part of the safe state: rooms STOPPED at their next edge (a FROZEN room, which has none, at once; a PARKED room stays PARKED, Table 03-8), loads and windows abandoned, slices restored, banks in retention,
engines STOPPED, links held down, the round and the scheduler stopped. -/
def State.stopUnits (s : State) : State :=
  let s := s.each rooms128 State.abandonLoad
  let s := s.each rooms128 State.abandonWindow
  let s := s.each rooms128 State.restoreSlice
  let s := s.each rooms128 fun s n =>
    if s.roomState n = 0 then s.stopAtEdge n 3
    else if s.roomState n = 2 then s.setF Fld.RM_STATUS_STATE n 3
    else s
  let s := s.each banks512 fun s b => s.retain b 3
  let s := s.each engines256 State.stopEngine
  let s := s.each links32 fun s k =>
    let s := if s.linkState k = 0 then s else (s.setLinkState k (downHeld k)).endLinkCmds k (· == 2) 0 []
    if k < 16 then s.setF Fld.DP_STATUS_RATE k 0
    else (((s.setF Fld.SL_STATUS_RATE (k - 16) 0).setF Fld.SL_STATUS_TXSTATE (k - 16) 3).setF Fld.SL_STATUS_RXSTATE (k - 16) 3).lanesOff k
  let s := s.each links32 fun s k => s.updLink k fun l => { l with fresh := true, initSent := false, initRcvd := false, trainPhase := 0 }
  let s := s.setF Fld.EC_STATUS_MOW_RUNNING 0 0
  s.setF Fld.SC_STATUS_RUNNING 0 0

/-- Whether a commit is past its commit point and has not answered yet. -/
def State.pastCommitPoint (s : State) : Bool := match s.commit with | some c => c.phase == 4 | none => false

/-- Enter the safe state for a cause of Table 17-5, `data` being event bits 63:32. A commit before its point ends
ABORTED (or with the status its own audit gives); a commit past its point completes first (Table 02-4). A RESUME that waits
for its wakes is past its commit point and ends with FAULT. -/
def State.enterSafe (s : State) (cause : Nat) (data : Nat := 0) (commitStatus : Nat := 6) : State :=
  if s.safe then s
  else if s.pastCommitPoint then
    s.updBoot fun b => { b with inSafePending := b.inSafePending.orElse fun _ => some (cause, data) }
  else
    let s := s.failCommit commitStatus
    let c := s.boot.resumeCmd
    let s := (s.updBoot fun b => { b with resumeCmd := none, frPhase := if b.frPhase = 5 then 0 else b.frPhase }).respondTo c 7 []
    let s := s.setF Fld.HK_STATUS_SAFE 0 1
    let s := s.setF Fld.HK_STATUS_READY 0 0
    let s := s.updBoot fun b => { b with faultN := true, safeN := true, inSafePending := none }
    let s := s.stopUnits
    let s := s.safeRecord cause
    s.event 0x0002 0 (cause + 2 ^ 32 * data)

/-- A books fault (R36, R43): the first is recorded, and the stack enters the safe state. -/
def State.booksFault (s : State) (book index : Nat) (delta : Int) (commitStatus : Nat := 6) : State :=
  let s := if s.f Fld.EP_STATUS_BOOKS_FAULT = 1 then s
    else
      let s := s.setF Fld.EP_FAULT_BOOK_BOOK 0 book
      let s := s.setF Fld.EP_FAULT_BOOK_INDEX 0 index
      (s.setF Fld.EP_FAULT_DELTA_DELTA 0 (low 32 delta)).setF Fld.EP_STATUS_BOOKS_FAULT 0 1
  s.enterSafe 1 (s.rd .EP_FAULT_BOOK 0).toNat commitStatus

end Sys2Proof.Machine
end

