-- ==== Sys2Proof/Machine/Operands.lean ====
section
/-!
DEFINITION. Operand forms: the address map (R96, R160, R161), the destination of a packet (R156–R159), who an access
belongs to, the permission table of the lofts (R104–R106, R112), the scheduler's table keys (R201), and register fields
named by unit.
-/
namespace Sys2Proof.Machine

/-- What a device-local address names (Table 07-6). -/
inductive Target where
  | loft (bank : Nat)
  | roomRam (room off : Nat)
  | engMem (e : Nat)
  | engProg (e : Nat)
  | scratch
  | csr (off : Nat)
  | window (w off : Nat)
  | nothing
  deriving DecidableEq, Repr

/-- Reserved CSR ranges (Table 07-7). -/
def csrReserved (off : Nat) : Bool :=
  (0x50000 ≤ off && off < 0x100000) || 0xE00000 ≤ off

/-- Decode a device-local address (R160). -/
def decodeAddr (a : Nat) : Target :=
  if a < 0x100000000 then .loft (a / 0x800000)
  else if a < 0x1000000000000 then
    if 0x100000000 ≤ a ∧ a ≤ 0x107FFFFFF then .roomRam ((a - 0x100000000) / 0x100000) (a % 0x100000)
    else if 0x110000000 ≤ a ∧ a ≤ 0x111FFFFFF then .engMem ((a - 0x110000000) / 0x20000)
    else if 0x112000000 ≤ a ∧ a ≤ 0x1127FFFFF then .engProg ((a - 0x112000000) / 0x8000)
    else if 0x120000000 ≤ a ∧ a ≤ 0x1201FFFFF then .scratch
    else if 0x140000000 ≤ a ∧ a ≤ 0x14FFFFFFF then
      (if csrReserved (a - 0x140000000) then .nothing else .csr (a - 0x140000000))
    else if 0x8000000000 ≤ a ∧ a ≤ 0xFFFFFFFFFF then
      .window ((a - 0x8000000000) / 0x400000000) ((a - 0x8000000000) % 0x400000000)
    else .nothing
  else .nothing

/-- The endpoint that serves a local target (Table 07-6). -/
def serveEp : Target → Nat
  | .loft b => 128 + b % 128
  | .roomRam n _ => n
  | .engMem e | .engProg e => 256 + e
  | .scratch | .csr _ => 546
  | .window _ _ | .nothing => 546

/-- The bus error cause of an address-form extent (R149): bytes A to A + LEN lie in one aligned 256-byte block. -/
def extentOk (a len : Nat) : Bool := a % 256 + len < 256

/-- Egress endpoint of a node's route (R158). -/
def State.routeEp (s : State) (m : Nat) : Option Nat :=
  if s.f Fld.CO_ROUTE_VALID m = 1 then
    some ((if s.f Fld.CO_ROUTE_KIND m = 1 then 528 else 512) + s.f Fld.CO_ROUTE_INDEX m)
  else none

/-- Outcome of decoding a packet at a router (R150, R156–R159, R163). -/
inductive Decoded where
  | toEp (ep : Nat) (p : Packet)
  | cause (c : Nat)
  deriving DecidableEq, Repr

/-- Route a packet to another node: HOPS left, a node ID assigned, a valid route. -/
def State.decodeRemote (s : State) (p : Packet) (m : Nat) : Decoded :=
  if s.f Fld.CO_NODE_VALID = 0 then .cause 6
  else if p.hops = 0 then .cause 7
  else match s.routeEp m with
    | some e => .toEp e p
    | none => .cause 6

/-- Decode a packet at its source router: extent, address map, window translation, route (R149, R157–R160). -/
def State.decodePkt (s : State) (p : Packet) : Decoded :=
  if addrForm p.type then
    if 2 ^ 58 ≤ p.dest then .cause 1
    else if !extentOk p.addr p.len then .cause 2
    else
      let m := p.dstNode
      if m = s.node then
        match decodeAddr p.addr with
        | .nothing => .cause 1
        | .window w off =>
          if s.f Fld.CO_RWIN_CTRL_ENABLE w = 1 then
            let base := 4096 * s.f Fld.CO_RWIN_BASE_LO_BASE w + 2 ^ 32 * s.f Fld.CO_RWIN_BASE_HI_BASE w
            let m' := s.f Fld.CO_RWIN_CTRL_NODE w
            s.decodeRemote { p with dest := 2 ^ 48 * m' + (base + off) % 2 ^ 48, win := w + 1 } m'
          else .cause 1
        | t => .toEp (serveEp t) p
      else s.decodeRemote p m
  else if p.dstNode = s.node then .toEp p.dstEp p
  else s.decodeRemote p p.dstNode

/-- Bytes of the metadata area of a range with 2^p pages (R290). -/
def metaSize (p : Nat) : Nat :=
  let pages := 2 ^ p
  let t := 4096 * ((520 * pages + 4095) / 4096)
  let h := (p - 3 + 2) / 3
  t + 64 * ((List.range (h + 1)).map fun k => 2 ^ (p - 3 * k)).sum
/-- The protected range that a request of this stack touches through a window translated here (R286): the range, whether it is the
data area, and the window offset. It is judged once, as the request is translated (R307). -/
def State.protHit (s : State) (p : Packet) : Option (Nat × Bool × Nat) :=
  if p.win = 0 ∨ !addrForm p.type ∨ p.srcEp = 545 ∧ p.srcNode = s.node then none
  else
    let w := p.win - 1
    let base := 4096 * s.f Fld.CO_RWIN_BASE_LO_BASE w + 2 ^ 32 * s.f Fld.CO_RWIN_BASE_HI_BASE w
    let off := (p.addr + 2 ^ 48 - base % 2 ^ 48) % 2 ^ 48
    (List.range 32).findSome? fun r =>
      if s.f Fld.CR_RANGE_STATE_STATE r = 0 ∨ s.f Fld.CR_RANGE_CTRL_ENABLE r = 0 ∨ s.f Fld.CR_RANGE_CTRL_WINDOW r ≠ w then none
      else
        let lp := s.f Fld.CR_RANGE_CTRL_LOG2PAGES r
        let d := 4096 * s.f Fld.CR_RANGE_BASE_BASE r
        let m := 4096 * s.f Fld.CR_RANGE_META_META r
        if d ≤ off ∧ off < d + 4096 * (2 ^ lp) then some (r, true, off)
        else if m ≤ off ∧ off < m + metaSize lp then some (r, false, off) else none

/-- A packet that a router drops (R150). -/
def State.malformed (s : State) (p : Packet) : Bool :=
  10 < p.type || vcOf p.type != p.vc || flitsOf p.type p.len != p.flits ||
    (!addrForm p.type && p.dstNode == s.node && 547 ≤ p.dstEp)

/-- The agent that issued a packet (Tables 02-2, 05-4). -/
def State.agentOf (s : State) (p : Packet) : Agent :=
  if p.srcNode ≠ s.node then
    .remote p.srcNode p.srcEp
  else if p.srcEp < 128 then .plane p.srcEp p.srcPlane
  else if p.srcEp < 256 then .mowing
  else if p.srcEp < 512 then .engine (p.srcEp - 256)
  else if p.srcEp < 544 then .dma
  else if p.srcEp = 544 then .sched
  else if p.srcEp = 545 then .crypto
  else if p.srcPlane = 1 then .debug
  else .mp

/-- Whether an agent is a room plane: fabric class (R23). -/
def Agent.fabric : Agent → Bool
  | .plane _ _ => true
  | _ => false

/-- The owner code of an agent, where it can own a bank (Table 05-3). -/
def Agent.code : Agent → Option Owner
  | .plane r p => some { kind := 0, id := 4 * r + p }
  | .engine e => some { kind := 1, id := e }
  | .sched => some { kind := 2, id := 0 }
  | .mp => some { kind := 3, id := 0 }
  | .crypto => some { kind := 4, id := 0 }
  | .selftest => some { kind := 5, id := 0 }
  | _ => none

/-- The stair (and room) of a bank. -/
def bankStair (b : Nat) : Nat := b % 128

/-- Whether an owner's home port is the row port: a plane of the stair's room (R104). -/
def rowHome (o : Owner) (b : Nat) : Bool := o.kind == 0 && o.id / 4 == bankStair b

def State.handover (s : State) (b : Nat) : Bool := s.f Fld.LB_OWNER_HANDOVER b = 1
def State.nextOwner (s : State) (b : Nat) : Owner :=
  { kind := s.f Fld.LB_NEXT_OWNER_KIND b, id := s.f Fld.LB_NEXT_OWNER_ID b }
def State.guest (s : State) (b : Nat) : Option Owner :=
  if s.f Fld.LB_GUEST_VALID b = 1 then some { kind := s.f Fld.LB_GUEST_KIND b, id := s.f Fld.LB_GUEST_ID b } else none

/-- Permission of a service-lane access (R105, R106, R108): owner, guest of the second port, management processor, port
DMA and remote agents under REMOTE_OK, the round, slices, debug (whose level the TAP checks). During a handover the old owner, its guest and those
acting for it are refused, and the new owner is admitted (its accesses wait in the queue). -/
def State.laneOk (s : State) (a : Agent) (b : Nat) : Bool :=
  if s.fallowBank b then false
  else match a with
    | .mp => true
    | .mowing | .selftest => !s.retained b
    | .dma | .remote _ _ => s.f Fld.LB_CTRL_REMOTE_OK b = 1 && !s.handover b
    | .debug => true
    | .load _ => true
    | a =>
      if s.handover b then a.code == some (s.nextOwner b)
      else a.code == some (s.owner b) ||
        (s.dual b && rowHome (s.owner b) b && s.guest b != none && a.code == s.guest b)

/-- Permission of a row-port access of plane p of the stair's room (R12, R104, R105, R108). -/
def State.rowOk (s : State) (room p b : Nat) : Bool :=
  let me : Owner := { kind := 0, id := 4 * room + p }
  if s.fallowBank b || bankStair b != room then false
  else if s.handover b then s.nextOwner b == me
  else s.owner b == me || (s.dual b && !rowHome (s.owner b) b && s.guest b == some me)

/-- Access to a bank in retention (Table 05-7): none when the bank is not retained or waking; some true when the access
is held and starts a wake; some false when it is refused. -/
def State.retentionHold (s : State) (b : Nat) : Option Bool :=
  if s.retained b then some (s.f Fld.LB_PWR_CAUSE b = 1 && s.f Fld.LB_CTRL_AUTOWAKE b = 1) else none

/-- Keys of the scheduler's staged table entries, above CSR space: template word i of entry e, image ID words, location
control and data words (R173, R201). -/
def tplKey (e i : Nat) : Nat := 0x10000000 + 16 * e + 4 * i
def imgKey (e i : Nat) : Nat := 0x10100000 + 8 * e + 4 * i
def locKey (e i : Nat) : Nat := 0x10200000 + 8 * e + 4 * i

/-- The storage key that a table register's write stages (R201); other registers stage under their own offset. -/
def State.stageKey (s : State) (r : Reg) (i : Nat) : Nat :=
  match r with
  | .SC_TPL_DATA_0 => tplKey (s.f Fld.SC_TPL_IDX_INDEX) 0
  | .SC_TPL_DATA_1 => tplKey (s.f Fld.SC_TPL_IDX_INDEX) 1
  | .SC_TPL_DATA_2 => tplKey (s.f Fld.SC_TPL_IDX_INDEX) 2
  | .SC_TPL_DATA_3 => tplKey (s.f Fld.SC_TPL_IDX_INDEX) 3
  | .SC_IMG_ID_LO => imgKey (s.f Fld.SC_IMG_IDX_INDEX) 0
  | .SC_IMG_ID_HI => imgKey (s.f Fld.SC_IMG_IDX_INDEX) 1
  | .SC_LOC_CTRL => locKey (s.f Fld.SC_LOC_IDX_INDEX) 0
  | .SC_LOC_DATA => locKey (s.f Fld.SC_LOC_IDX_INDEX) 1
  | r => r.addr i

end Sys2Proof.Machine
end

