-- ==== Sys2Proof/Machine/Corridor.lean ====
section
/-!
DEFINITION. The corridor (R140–R169): routing, credits, arbitration, decoding at the source router, packets taken by
endpoints, response time limits, and the corridor's own commands.
-/
namespace Sys2Proof.Machine

/-- Depth of a VC per dateline class (Table 07-5). -/
def vcDepth (vc : Nat) : Nat := if vc ≤ 1 then 6 else 3
/-- Key of a link's buffer and book for a VC and class. -/
def bufKey (link vc cls : Nat) : Nat := 8 * link + 2 * vc + cls
def bookDefault (k : Nat) : Book := { cred := vcDepth (k % 8 / 2), flight := 0, free := 0 }
def State.book (s : State) (k : Nat) : Book := mget bookDefault s.net.books k
def State.updBook (s : State) (k : Nat) (g : Book → Book) : State :=
  s.updNet fun n => { n with books := mupd bookDefault n.books k g }
def State.buf (s : State) (k : Nat) : List Packet := mget (fun _ => []) s.net.bufs k
def State.setBuf (s : State) (k : Nat) (l : List Packet) : State :=
  s.updNet fun n => { n with bufs := mput (fun _ => []) n.bufs k l }

/-- The router reached by mesh port p (0 east, 1 north, 2 west, 3 south), with wrap links (R140). -/
def neighbor (r p : Nat) : Nat :=
  let x := r % 12
  let y := r / 12
  if p = 0 then 12 * y + (x + 1) % 12 else if p = 1 then 12 * ((y + 1) % 12) + x
  else if p = 2 then 12 * y + (x + 11) % 12 else 12 * ((y + 11) % 12) + x
/-- Whether mesh port p of router r is a wrap link. -/
def isWrap (r p : Nat) : Bool :=
  (p == 0 && r % 12 == 11) || (p == 1 && r / 12 == 11) || (p == 2 && r % 12 == 0) || (p == 3 && r / 12 == 0)
/-- The link on which input port i of router r receives: 0–3 mesh, 4 L0, 5 L1 (R169 numbering). -/
def inLink (r i : Nat) : Nat := if i < 4 then 8 * neighbor r i + (i + 2) % 4 else 8 * r + 6 + (i - 4)
/-- Dimension-ordered next port from router r to router d: x first, the shorter way, positive at distance 6 (R144);
4 when d is reached. -/
def nextPort (r d : Nat) : Nat :=
  let ex := (d % 12 + 12 - r % 12) % 12
  let ey := (d / 12 + 12 - r / 12) % 12
  if ex ≠ 0 then (if ex ≤ 6 then 0 else 2) else if ey ≠ 0 then (if ey ≤ 6 then 1 else 3) else 4

/-- Router at which a packet entered this stack's corridor: its port's, or its source endpoint's (R143). -/
def Packet.sourceRouter (p : Packet) : Nat := if 0 < p.entry then p.entry - 1 else epRouter p.srcEp 0

/-- Where a packet leaves: destination endpoint, its router and local port (R143). The source router decodes it once, so
that a packet in flight keeps its endpoint when an epoch commit changes a route or a window (R156). -/
def State.exitOf (s : State) (p : Packet) : Option (Nat × Nat × Nat) :=
  let at' (ep : Nat) := (ep, epRouter ep (quadrant p.sourceRouter), epLocal ep p.sourceRouter)
  if 0 < p.exit then some (at' (p.exit - 1))
  else match s.decodePkt p with
    | .cause _ => none
    | .toEp ep _ => some (at' ep)

/-- Output port of router r for a packet, and the endpoint. -/
def State.outOf (s : State) (r : Nat) (p : Packet) : Nat :=
  match s.exitOf p with
  | none => 8
  | some (_, d, l) => let q := nextPort r d; if q = 4 then 4 + l else q

/-- Dateline class on output port out of a packet that came on input i with class c (R144). -/
def nextClass (r i out c : Nat) : Nat :=
  if 4 ≤ out then c
  else
    let turned := 4 ≤ i || (i % 2 ≠ out % 2)
    let base := if turned then 0 else c
    if isWrap r out then 1 else base

/-- Move a packet's flits onto a link: credits used, flits in flight (R31, R151). -/
def State.sendOn (s : State) (k : Nat) (p : Packet) : State :=
  (s.updBook k fun b => { b with cred := b.cred - p.flits, flight := b.flight + p.flits }).setBuf k (s.buf k ++ [p])
/-- Release a packet's entries at the receiver of a link: the credits are on their way back (R152). -/
def State.releaseOn (s : State) (k : Nat) (p : Packet) : State :=
  s.updBook k fun b => { b with flight := b.flight - p.flits, free := b.free + p.flits }

/-- A request that a router refuses is answered with RSP_ACK BUS_ERROR, sent from the endpoint at which it entered
(R148, R163); anything else is dropped and counted (R157, R158). -/
def State.routerRefuse (s : State) (p : Packet) (ep cause : Nat) : State :=
  if isRequest p.type then s.refuse p ep cause
  else
    (s.inc Fld.CO_DROP_COUNT_NOROUTE 0).setF Fld.CO_STATUS_DROPPED 0 1

/-- REPOST bits and the number of records of a TOKEN packet (R179). -/
def tokCount (p : Packet) : Nat := min 4 ((p.payload.getD 0 0).toNat)
def tokRepost (p : Packet) : Nat := (p.payload.getD 1 0).toNat % 16
/-- A TOKEN packet enters the corridor for this stack's scheduler: its records that are no reposts are issued (R180). -/
def State.countTokens (s : State) (p : Packet) (dst : Nat) : State :=
  if p.type = 5 ∧ dst = 544 ∧ !s.malformed p then
    let n := ((List.range (tokCount p)).filter fun k => bit (tokRepost p) k == 0).length
    s.updSched fun q => { q with issued := (q.issued + n) % 2 ^ 64, flight := q.flight + n }
  else s

/-- Bytes of a packet on a link: its header and whole 64-byte units (R246). -/
def Packet.wireSize (p : Packet) : Nat := 16 + (if hasPayload p.type then 64 * (p.len / 64 + 1) else 0)
/-- The 128-bit header (Table 07-3). -/
def Packet.header (p : Packet) : Nat :=
  2 ^ 70 * p.dest + (if p.pstored then 2 ^ 66 else 0) + 2 ^ 62 * p.status + 2 ^ 54 * p.poison + 2 ^ 46 * p.len +
  2 ^ 36 * p.tag + 2 ^ 34 * p.dstPlane + 2 ^ 32 * p.srcPlane + 2 ^ 22 * p.srcEp + 2 ^ 12 * p.srcNode + 2 ^ 6 * p.hops +
  p.vc * 16 + p.type
/-- A packet's bytes on a link (R246). -/
def Packet.wire (p : Packet) : List Byte := leBytes 16 p.header ++ fit 0 (p.wireSize - 16) p.payload
/-- The header and size of the packet that a stream begins with, once all of it is there. -/
def parsePkt (l : List Byte) : Option Packet :=
  let h := leNat (l.take 16)
  let p : Packet :=
    { type := bits h 3 0, vc := bits h 5 4, flits := flitsOf (bits h 3 0) (bits h 53 46), dest := bits h 127 70,
      status := bits h 65 62, pstored := bit h 66 = 1, poison := bits h 61 54, len := bits h 53 46, tag := bits h 45 36,
      dstPlane := bits h 35 34, srcPlane := bits h 33 32, srcEp := bits h 31 22, srcNode := bits h 21 12,
      hops := bits h 11 6 }
  if 16 ≤ l.length ∧ p.wireSize ≤ l.length then
    some { p with payload := if hasPayload p.type then slice l 16 (p.len + 1) else [] }
  else none

/-- What the occupied entries still hold when n bytes are gone, from offset o of all that they hold on. -/
def cutEnts : Nat → Nat → List Nat → List Nat
  | _, _, [] => []
  | o, n, e :: t => let d := min n (e - o); (e - d) :: cutEnts (o - e) (n - d) t
/-- n bytes of VC v that link k received, from offset o of those in its entries on, have entered the corridor or need not: the
entries whose last byte that was are released (R247). -/
def State.linkConsumed (s : State) (k v o n : Nat) : State :=
  s.updLink k fun l =>
    let r := cutEnts o n (mget (fun _ => []) l.rxEnts v)
    { l with rxEnts := mput (fun _ => []) l.rxEnts v (r.filter (· != 0)), rel := setNth l.rel v (nth l.rel v + r.count 0) }
/-- A packet that link k received has left its attachment: its entries follow, unless it came before the link was
re-initialised. -/
def State.linkLeft (s : State) (k v n : Nat) : State :=
  if 0 < nth (s.link k).rxPast v then s.updLink k fun l => { l with rxPast := setNth l.rxPast v (nth l.rxPast v - n) }
  else s.linkConsumed k v 0 n
/-- Bytes of VC v that link k received and that wait at its attachment. -/
def State.waitBytes (s : State) (k v : Nat) : Nat :=
  (((mget (fun _ => []) s.net.send (512 + k)).filter fun p => p.vc == v && !(p.srcNode == s.node && p.srcEp == 512 + k)).map
    Packet.wireSize).sum
/-- A packet leaves the attachment of an endpoint: for one that a link delivered, its entries follow (R247), and it is recorded with
RP_LINKS bit k (R422, kind 1). -/
def State.leftAttachment (s : State) (ep : Nat) (p : Packet) : State :=
  if 512 ≤ ep ∧ ep < 544 ∧ !(p.srcNode = s.node ∧ p.srcEp = ep) then
    let s := s.linkLeft (ep - 512) p.vc p.wireSize
    if bit (s.f Fld.RP_LINKS_MASK) (ep - 512) = 1 then s.record 1 (ep - 512) (leBytes 16 p.header ++ p.payload) else s
  else s

/-- The first packet in a list that satisfies a test, with the rest. -/
def takeFirst {α : Type} (f : α → Bool) : List α → Option (α × List α)
  | [] => none
  | x :: t => if f x then some (x, t) else (takeFirst f t).map fun r => (r.1, x :: r.2)

/-- Poison marks of the payload words that flit number f of a packet holds: the aligned words of the request's block, for
a response too (R146, R149, R155). -/
def flitPoison (p : Packet) (f : Nat) : Nat :=
  let lo := if f = 0 then 0 else 128 * f - 16
  let hi := 128 * f + 112
  let a0 := if addrForm p.type then p.addr % 256 else if p.type = 3 then p.base else 0
  (List.range 8).foldl (fun m i =>
    let b := 32 * i
    if b < a0 + min hi (p.len + 1) ∧ a0 + lo < b + 32 ∧ lo < p.len + 1 then m + 2 ^ i else m) 0
/-- A packet crosses a link to buffer k, and the link code finds err on it (R155): an uncorrectable error in the header flit leaves the
routing in doubt, one in another flit poisons the words that it holds. -/
def State.cross (s : State) (k : Nat) (p : Packet) (err : LinkErr) : State :=
  let s := if err.corrected = 0 then s else s.inc Fld.CO_CE_COUNT_COUNT 0 err.corrected
  if err.ue.contains 0 then (s.setF Fld.CO_STATUS_LINK_UE 0 1).enterSafe 7
  else s.sendOn k { p with poison := err.ue.foldl (fun m f => Nat.lor m (flitPoison p f)) p.poison }
/-- A packet dropped as malformed counts (R150). -/
def State.countMalformed (s : State) : State :=
  (s.inc Fld.CO_DROP_COUNT_MALFORMED 0).setF Fld.CO_STATUS_DROPPED 0 1

/-- The address offset of the request that a response answers, where this stack holds it (R149). -/
def State.rspBase (s : State) (p : Packet) : Nat :=
  if p.type = 3 ∧ p.dstNode = s.node then
    match mget (fun _ => none) s.net.outReq (1024 * (4 * p.dstEp + p.dstPlane) + p.tag) with
    | some r => r.pkt.addr % 256
    | none => p.base
  else p.base
/-- Whether a waiting packet may enter the corridor: after a foundation reset is accepted no new request does, and from 2 µs on
nothing (Table 16-5). -/
def State.mayGo (s : State) (p : Packet) : Bool := !s.resuming || (s.boot.frPhase == 1 && !isRequest p.type)
/-- Try to put the first waiting packet of a VC of an endpoint on its injection link, or on the one named, where the link
code finds err: decode it at the source router, refuse or drop it, or send it when the link holds credits (R144, R150,
R151, R155, R163). The VCs wait apart, so that a reply never waits for a packet of another VC (R154). -/
def State.pumpVc (s : State) (ep vc : Nat) (on : Option Nat) (err : LinkErr) : Option State :=
  match takeFirst (fun p => p.vc % 4 == vc && s.mayGo p) (mget (fun _ => []) s.net.send ep) with
  | none => none
  | some (p, rest) =>
    let pop (s : State) : State :=
      (s.updNet fun n => { n with send := mput (fun _ => []) n.send ep rest }).leftAttachment ep p
    if s.malformed p then some (pop s).countMalformed
    else match (if 0 < p.exit then .toEp (p.exit - 1) p else s.decodePkt p) with
      | .cause c => some ((pop s).routerRefuse p ep c)
      | .toEp dst q =>
        let dr := epRouter dst (quadrant (epRouter ep 0))
        let r := epRouter ep (quadrant dr)
        let q := { q with entry := r + 1, exit := dst + 1, base := s.rspBase q, prot := s.protHit q }
        let link := 8 * r + 6 + epLocal ep dr
        let k := bufKey link p.vc 0
        if q.flits ≤ (s.book k).cred ∧ on.getD link = link then some (((pop s).countTokens q dst).cross k q err) else none
/-- An endpoint puts on its injection links what it can: one packet of each VC. -/
def State.pump1 (s : State) (ep : Nat) : State :=
  s.each [1, 2, 3, 0] fun s v => (s.pumpVc ep v none .clean).getD s

/-- Endpoints of this stack. -/
def allEps : List Nat := List.range 547
/-- The endpoints on a router with packets that wait. -/
def State.senders (s : State) (r : Nat) : List Nat :=
  (s.net.send.map (·.1)).filter fun ep => ep = 544 || epRouter ep 0 == r
/-- Let the endpoints on a router inject what they can. -/
def State.pumpRouter (s : State) (r : Nat) : State := s.each (s.senders r) State.pump1
/-- One packet crosses injection link l of router r, on which the link code finds err (R155). -/
def State.injectOn (s : State) (r l : Nat) (err : LinkErr) : State :=
  (((s.senders r).flatMap fun ep => [1, 2, 3, 0].map fun v => (ep, v)).findSome? fun (e : Nat × Nat) =>
    s.pumpVc e.1 e.2 (some l) err).getD s

/-- Drop malformed packets at the heads of a router's buffers (R150). -/
def State.dropMalformed (s : State) (r : Nat) : State :=
  s.each (List.range 48) fun s j =>
    let k := bufKey (inLink r (j / 8)) (j % 8 / 2) (j % 2)
    match s.buf k with
    | p :: t =>
      if s.malformed p then
        ((s.setBuf k t).releaseOn k p).countMalformed
      else s
    | [] => s

/-- Whether an endpoint takes packets of this type and VC at all: rooms all; service lanes requests; engines requests,
responses and DISPATCH; a link those for other nodes, its own responses, and requests, which it refuses; the scheduler
responses, TOKEN and DONE; the crypto unit responses; the management processor requests, responses, MB_CMD and MB_RSP. -/
def State.takesPkt (s : State) (ep : Nat) (p : Packet) : Bool :=
  if ep < 128 then true
  else if ep < 256 then p.vc == 0
  else if ep < 512 then p.vc ≤ 1 || p.type == 6
  else if ep < 544 then p.dstNode != s.node || p.vc == 1 || isRequest p.type
  else if ep = 544 then p.vc == 1 || p.type == 5 || p.type == 7
  else if ep = 545 then p.vc == 1
  else p.vc ≤ 1 || p.type == 8 || p.type == 9
/-- A packet that no part of its endpoint takes does not hold up the buffer (R154): a request is refused with cause 9 (R163 of a
MSG; DESIGN CHOICE, log entry 121, of the others), anything else is discarded. -/
def State.sinkHeads (s : State) (r : Nat) : State :=
  s.each (List.range 16) fun s j =>
    let k := bufKey (8 * r + 4 + j / 8) (j % 8 / 2) (j % 2)
    match s.buf k with
    | p :: t =>
      match s.exitOf p with
      | some (ep, _, _) =>
        if s.takesPkt ep p then s
        else
          let s := (s.setBuf k t).releaseOn k p
          if isRequest p.type then s.refuse p ep 9 else s
      | none => s
    | [] => s

/-- The input port and class from which VC vc of output out would start a packet next, in round robin after the last
winner, among heads routed to out with credits for all their flits (R151, R153). -/
def State.winner (s : State) (r out vc last : Nat) : Option (Nat × Nat) :=
  ((List.range 6).map fun j => (last + 1 + j) % 6).findSome? fun i =>
    (List.range 2).findSome? fun c =>
      match s.buf (bufKey (inLink r i) vc c) with
      | p :: _ =>
        if s.outOf r p = out ∧ p.flits ≤ (s.book (bufKey (8 * r + out) vc (nextClass r i out c))).cred then some (i, c)
        else none
      | [] => none

/-- The four VC weights in effect (R153). -/
def State.weights (s : State) : List Nat :=
  [s.f Fld.CO_VC_WEIGHT_REQ, s.f Fld.CO_VC_WEIGHT_RSP, s.f Fld.CO_VC_WEIGHT_SCHED, s.f Fld.CO_VC_WEIGHT_MGMT]

/-- Choose the VC whose turn it is: its remaining packets, else the next VC with something to start; a new round of the
port takes the weights in effect (R153). Answers the new arbiter and the choice. -/
def State.chooseVc (s : State) (r out : Nat) : Nat → Arb → Option (Arb × Nat × Nat × Nat)
  | 0, _ => none
  | fuel + 1, a =>
    let next : Arb :=
      let v := (a.vc + 1) % 4
      let w := if v = 0 then s.weights else a.w
      { a with vc := v, w := w, left := nth w v }
    if a.left = 0 then s.chooseVc r out fuel next
    else
      match s.winner r out a.vc (mget (fun _ => 5) a.last a.vc) with
      | none => s.chooseVc r out fuel next
      | some (i, c) => some ({ a with left := a.left - 1, last := mput (fun _ => 5) a.last a.vc i }, a.vc, i, c)

/-- One packet forwarded by an output port of a router, if any may start (R144, R150–R155). -/
def State.forward (s : State) (r out : Nat) (err : LinkErr) : State :=
  let s := ((s.pumpRouter r).dropMalformed r).sinkHeads r
  let a0 := mget (fun _ => ({} : Arb)) s.net.arbs (8 * r + out)
  let a0 := if a0.left = 0 ∧ a0.last = [] then { a0 with left := nth a0.w 0 } else a0
  match s.chooseVc r out 9 a0 with
  | none => s
  | some (a, vc, i, c) =>
    let kin := bufKey (inLink r i) vc c
    match s.buf kin with
    | [] => s
    | p :: t =>
      let kout := bufKey (8 * r + out) vc (nextClass r i out c)
      let s := s.updNet fun n => { n with arbs := mput (fun _ => {}) n.arbs (8 * r + out) a }
      ((s.setBuf kin t).releaseOn kin p).cross kout p err

/-- Ejection links of an endpoint: both locals of its router, or of the four attachments for the scheduler. -/
def ejectLinks (ep : Nat) : List Nat :=
  if ep = 544 then (List.range 4).map fun q => 8 * epRouter 544 q + 4
  else [8 * epRouter ep 0 + 4, 8 * epRouter ep 0 + 5]

/-- Take the packet at the head of an ejection buffer of a VC when it satisfies f: the buffers are first-in first-out (R156). -/
def State.takeOn (s : State) (links : List Nat) (vc : Nat) (f : Packet → Bool) : Option (Packet × State) :=
  (links.flatMap fun l => [bufKey l vc 0, bufKey l vc 1]).findSome? fun k =>
    match s.buf k with
    | p :: t => if f p then some (p, (s.setBuf k t).releaseOn k p) else none
    | [] => none

/-- Whether a packet ends at an endpoint. -/
def State.isFor (s : State) (ep : Nat) (p : Packet) : Bool :=
  match s.exitOf p with | some (e, _, _) => e == ep | none => false

/-- Take the packet of a VC that an endpoint takes next: a packet for another endpoint of the same local port that arrived before
it is taken first (R156). -/
def State.take (s : State) (ep vc : Nat) : Option (Packet × State) := s.takeOn (ejectLinks ep) vc (s.isFor ep)
/-- The packets for an endpoint that wait at the heads of its ejection buffers of a VC, none behind a packet for another
endpoint. -/
def State.queued (s : State) (ep vc : Nat) : List Packet :=
  ((ejectLinks ep).flatMap fun l => [bufKey l vc 0, bufKey l vc 1]).flatMap fun k => (s.buf k).takeWhile (s.isFor ep)
/-- The packet that `take` would take. -/
def State.peekPkt (s : State) (ep vc : Nat) : Option Packet := (s.take ep vc).map (·.1)

/-- A response at its requester (R149, R165): the outstanding request it answers, or none when it is late or unknown;
a late one is counted and its receive entry has been released. -/
def State.matchRsp (s : State) (ep : Nat) (p : Packet) : Option OutReq × State :=
  let k := outKey ep p.dstPlane p.tag
  match s.outReq k with
  | none => (none, s)
  | some r =>
    if r.expired then (none, s.inc Fld.CO_TIMEOUT_COUNT_LATE 0) else (some r, s.setOut k none)

/-- The part of a WRITE request for each word that a BUSY answer marks as not performed (R149). -/
def writeParts (p : Packet) (mask : Nat) : List Packet :=
  let a := p.addr % 256
  (List.range 8).filterMap fun i =>
    let lo := max a (32 * i)
    let hi := min (a + p.len + 1) (32 * i + 32)
    if bit mask i = 1 ∧ lo < hi then
      let n := hi - lo
      some { p with dest := p.dest + (lo - a), len := n - 1, flits := flitsOf p.type (n - 1), payload := slice p.payload (lo - a) n }
    else none

/-- The answer to a posted request: what a BUSY answer leaves is asked again (R103); a bus error or LINK_LOST ends it. The tag is free
for the next one. -/
def State.postAnswered (s : State) (ep : Nat) (req p : Packet) : State :=
  let again := if p.status ≠ 1 then [] else if req.type = 1 ∧ p.poison ≠ 0 then writeParts req p.poison else [req]
  (s.setPosts ep (again ++ s.posts ep)).pumpPosts ep

/-- A TOKEN packet with only the marked records, as reposts (R179). -/
def tokRepostOf (p : Packet) (mask : Nat) : Packet :=
  let ks := (List.range (tokCount p)).filter fun k => bit mask k == 1
  let n := ks.length
  { p with
    len := 16 + 12 * n - 1, flits := flitsOf p.type (16 + 12 * n - 1),
    poison := (ks.zipIdx.map fun (x : Nat × Nat) => bit p.poison x.1 * 2 ^ x.2).sum,
    payload := fit 0 16 (leBytes 1 n ++ leBytes 1 (2 ^ n - 1)) ++ (ks.map fun k => slice p.payload (16 + 12 * k) 12).flatten }

/-! ### The corridor's commands -/

/-- CREDIT_RETURN: up to 3 credits of one VC and class reach the sender of a link (R152). -/
def State.creditReturn (s : State) (link vc cls n : Nat) : State :=
  let k := bufKey link vc cls
  let m := min (min n 3) (s.book k).free
  s.updBook k fun b => { b with cred := b.cred + m, free := b.free - m }

/-- Whether INDEX names an existing link (R169): mesh ports of every router, and the local links that carry an
endpoint (Table 07-1). -/
def linkExists (link : Nat) : Bool :=
  let r := link / 8
  let p := link % 8
  r < 144 && (p < 4 || allEps.any fun ep =>
    if ep = 544 then (List.range 4).any fun q => epRouter 544 q == r && p % 2 == 0
    else epRouter ep 0 == r && (if 512 ≤ ep && ep < 528 then true else epLocal ep 0 == p % 2))

/-- Both classes of a credit book together (R151). -/
def State.bookSum (s : State) (link vc : Nat) : Book :=
  let a := s.book (bufKey link vc 0)
  let b := s.book (bufKey link vc 1)
  { cred := a.cred + b.cred, flight := a.flight + b.flight, free := a.free + b.free }

/-- CO_BOOK_SNAPSHOT (R169). -/
def State.bookSnapshot (s : State) (index : Nat) : State :=
  let i := index % 8192
  let s := s.setF Fld.CO_BOOK_IDX_INDEX 0 i
  let v := linkExists (i / 4)
  let b := s.bookSum (i / 4) (i % 4)
  let s := s.setF Fld.CO_BOOK_SEND_VALID 0 (if v then 1 else 0)
  let s := s.setF Fld.CO_BOOK_SEND_CREDITS 0 (if v then b.cred else 0)
  let s := s.setF Fld.CO_BOOK_FLIGHT_FLITS 0 (if v then b.flight else 0)
  s.setF Fld.CO_BOOK_FREE_FREE 0 (if v then b.free else 0)

/-- PACKET_FORWARD on a link leaving router `router` by `out`: its six output ports, or (6, 7) the injection links of the
endpoints at L0 and L1, numbered as in R169. -/
def execPacketForward (router out : Nat) (err : LinkErr) (s : State) : Host.Outcome State Fault Refusal :=
  .next (if out < 6 then s.forward router out err else s.injectOn router (8 * router + out) err)
def execCreditReturn (link vc cls n : Nat) (s : State) : Host.Outcome State Fault Refusal :=
  .next (s.creditReturn link vc cls n)
/-- Writing 1 to CO_STATUS.BERR clears it and arms the capture again (R164). -/
def execBerrArm (s : State) : Host.Outcome State Fault Refusal := .next (s.setF Fld.CO_STATUS_BERR 0 0)
def execCoBookSnapshot (index : Nat) (s : State) : Host.Outcome State Fault Refusal := .next (s.bookSnapshot index)

end Sys2Proof.Machine
end

