-- ==== Sys2Proof/Machine/Command.lean ====
section
/-!
DEFINITION. What every Ebryn command shares (R378–R382, R388–R390, R393): the command block's arguments, acceptance in
the order of R382, service levels, permission, data ranges, and waiting commands.
-/
namespace Sys2Proof.Machine

/-- Service levels (R389). -/
inductive Svc where
  | b | i | s | r | w
  deriving DecidableEq, Repr

/-- Whether a service level is answered now. The condition on a LOCKED hearth loop is read as binding all three cases of
level S (DEDUCED, log entry 16). -/
def State.serves (s : State) : Svc → Bool
  | .b => 3 ≤ s.boot.step && !s.boot.por
  | .i => 4 ≤ s.boot.step || (s.safe && s.fuses.lc != 4)
  | .s => (s.ready || s.safe || s.resuming) && s.loopLocked
  | .r => s.ready && !s.resuming
  | .w => s.f Fld.BT_STATUS_PROFILE_WAIT = 1

/-- Argument bytes from fields (offset in the block, size, value); offsets count from block byte 0, arguments from 6. -/
def argBytes (l : List (Nat × Nat × Nat)) : List Byte :=
  let n := l.foldl (fun m (e : Nat × Nat × Nat) => max m (e.1 + e.2.1)) 6
  l.foldl (fun b (e : Nat × Nat × Nat) => splice b (e.1 - 6) (leBytes e.2.1 e.2.2)) (List.replicate (n - 6) 0)

/-- The 64-byte command block (Table 17-2). -/
def cmdBlock (op tag len : Nat) (args : List Byte) : List Byte :=
  fit 0 64 (leBytes 2 op ++ leBytes 2 tag ++ leBytes 2 len ++ args)

/-- Commands in progress of a port; on port 18 of an engine (R378). -/
def State.inProgress (s : State) (h : CmdHdr) : Nat :=
  (s.mail.inprog.filter fun e => e.port == h.port && (h.port != 18 || e.ep == h.ep)).length
def portLimit (port : Nat) : Nat := if port = 0 then 8 else if port ≤ 16 then 4 else if port = 17 then 32 else 1
def State.noRoom (s : State) (h : CmdHdr) : Bool := portLimit h.port ≤ s.inProgress h || 64 ≤ s.mail.inprog.length

/-- Whether port p is enabled (Table 17-24); link mailboxes (32 + g) have no enable. -/
def State.portOn (s : State) (p : Nat) : Bool := p = 0 || 32 ≤ p || bit (s.f Fld.MB_CFG_PORT_EN) (p - 1) = 1

/-- Commands that MB_PERM does not restrict (R388): DEVICE_INFO, ABORT, EVENT_READ, NOP. -/
def alwaysAllowed (op : Nat) : Bool := op == 0x0101 || op == 0x0102 || op == 0x0107 || op == 0x0109
/-- Raw register and memory commands. -/
def rawOp (op : Nat) : Bool := 0x0103 ≤ op && op ≤ 0x0106

/-- Commands that port 0 answers while a replay runs (R430). -/
def replayOp (op : Nat) : Bool :=
  op == 0x0101 || op == 0x0109 || op == 0x0102 || op == 0x0D01 || op == 0x0107 || op == 0x0D05

/-- Permission (R388, R404, R430). -/
def State.permitted (s : State) (h : CmdHdr) (op : Nat) : Bool :=
  let m := (s.rd .MB_PERM h.port).toNat
  s.portOn h.port && (!s.replaying || s.replay.injecting || (h.port == 0 && replayOp op)) &&
  (32 ≤ h.port || alwaysAllowed op || (bit m (op / 256) = 1 && (!rawOp op || bit m 15 = 1))) &&
  (op != 0x0808 || (1 ≤ h.port && h.port ≤ 16) || 32 ≤ h.port) &&
  (op != 0x0905 || (h.port == 17 && h.ep == 546 && h.node != s.node)) &&
  (op != 0x0108 || h.port ≤ 16)

/-- Answer a block at once without making it a command in progress. On port 0 a command beyond capacity is NACKed. -/
def State.answerNow (s : State) (h : CmdHdr) (status : Nat) : State :=
  if s.replay.injecting then s
  else if h.port = 0 ∧ status = 2 then s.updMail fun m => { m with i3cNack := true }
  else s.deliver h.ref s.mail.hdrTag (rspBlock status h.tag [])

/-- The block that a transport delivers, or else the one that spells the command. -/
def State.blockOf (s : State) (h : CmdHdr) (op : Nat) (args : List Byte) : List Byte :=
  if s.mail.block.isEmpty then cmdBlock op h.tag h.len args else s.mail.block
/-- Entry of an accepted command (R379, R422): counted, recorded with its block, a hazard of a replay, in progress and past
its commit point until its meaning says otherwise. -/
def State.enter (s : State) (h : CmdHdr) (op : Nat) (blk : List Byte) : State :=
  let s := (s.updMail fun m => { m with block := [] }).incW Fld.MB_CMD_COUNT_COUNT 0
  let s := if 32 ≤ h.port then s
    else s.recordSrc 0 3 h.port (leBytes 2 h.node ++ leBytes 2 h.ep ++ List.replicate 12 0 ++ blk)
  let s := if s.replaying ∧ !s.replay.injecting then s.hazard 6 op 0 else s
  s.updMail fun m => { m with inprog := m.inprog ++ [{
    port := h.port, node := h.node, ep := h.ep, tag := h.tag, opcode := op, committed := true, hdrTag := m.hdrTag,
    injected := s.replay.injecting }] }
/-- The checks of R382 on an accepted command of n argument bytes: the status of the first that fails. -/
def State.verdict (s : State) (h : CmdHdr) (op : Nat) (svc : Svc) (n : Nat) (deny : Bool) : Option Nat :=
  if 58 < h.len ∨ h.len < n then some 3
  else if !s.permitted h op || deny then some 4
  else if !s.serves svc then some 5
  else none
/-- Accept a command and run it (R379, R382). `args` are its argument bytes; LENGTH must cover them. `deny` is a further
ground of R388 to deny it. -/
def State.submit (s : State) (h : CmdHdr) (op : Nat) (svc : Svc) (args : List Byte) (run : State → State)
    (deny : Bool := false) : State :=
  if h.port = 18 ∧ 0 < s.inProgress h then (s.setF Fld.MB_STATUS_ENG_DROP 0 1).updMail fun m => { m with block := [] }
  else if s.noRoom h then (s.answerNow h 2).updMail fun m => { m with block := [] }
  else if (s.inprogOf h.ref).isSome then (s.answerNow h 3).updMail fun m => { m with block := [] }
  else
    let t := s.enter h op (s.blockOf h op args)
    match s.verdict h op svc args.length deny with
    | some st => t.respond h.ref st []
    | none => run t

/-- The command in progress has not reached its commit point (R393). -/
def State.uncommitted (s : State) (r : CmdRef) : State :=
  s.updMail fun m => { m with inprog := m.inprog.map fun e =>
    if e.port == r.1 && e.node == r.2.1 && e.ep == r.2.2.1 && e.tag == r.2.2.2 then { e with committed := false } else e }

/-- Answer OK with registers as data. -/
def regData (l : List Word) : List Byte := (l.map fun w => leBytes 4 w.toNat).flatten
/-- Answer with a status and no data. -/
def State.reply (s : State) (h : CmdHdr) (status : Nat) : State := s.respond h.ref status []
/-- Answer OK with data. -/
def State.replyData (s : State) (h : CmdHdr) (d : List Byte) : State := s.respond h.ref 0 d
/-- Answer with the first refusal of a list of checks, else run. -/
def State.checks (s : State) (h : CmdHdr) (l : List (Bool × Nat)) (run : State → State) : State :=
  match l.find? fun e => e.1 with
  | some (_, st) => s.reply h st
  | none => run s

/-- A range in the staging area (R390). -/
def inStaging (a n : Nat) : Bool := 0x120100000 ≤ a && a + n ≤ 0x120200000
/-- A source or destination range that an argument may name: the staging area, or one loft bank that the management
processor owns; below the data tier only the staging area (R389, R390). Addresses are global; this node's. -/
def State.rangeOk (s : State) (dest n : Nat) : Bool :=
  let a := dest % 2 ^ 48
  let here := dest / 2 ^ 48 == s.node || dest / 2 ^ 48 == 0
  here && (inStaging a n ||
    (1 ≤ s.f Fld.HK_STATUS_TIER && a + n ≤ 0x100000000 && 0 < n && a / 0x800000 == (a + n - 1) / 0x800000 &&
      s.owner (a / 0x800000) == { kind := 3, id := 0 }))

end Sys2Proof.Machine
end

