-- ==== Sys2Proof/Machine/Stairs.lean ====
section
/-!
DEFINITION. The stair monitor (R75–R83): corrections, suspect positions, repair windows, remaps, narrowing.
-/
namespace Sys2Proof.Machine

/-- A stair whose row port and service lane do not sample: a repair window is open (R79). -/
def State.paused (s : State) (n : Nat) : Bool := (s.stair n).win.isSome
/-- A failed stair: every request to it is poisoned (R81). -/
def State.stairFailed (s : State) (n : Nat) : Bool := s.f Fld.ST_STATUS_STATE n = 2

/-- A group becomes suspect: a repair window opens, or the group waits for the next one (R79, Table 04-4). -/
def State.suspect (s : State) (n group : Nat) : State :=
  match (s.stair n).win with
  | some w =>
    if w.group = group ∨ w.waiting.contains group then s
    else s.updStair n fun t => { t with win := some { w with waiting := w.waiting ++ [group] } }
  | none =>
    ((s.updStair n fun t => { t with win := some { group := group, phase := 1 } }).setF Fld.ST_STATUS_REPAIR_BUSY n 1).hazard
      2 n 0

/-- Whether a group carries a code that can find an error: every group but the vertical tracks (R78). -/
def coded (group : Nat) : Bool := decide (group < 297) || decide (305 ≤ group)

/-- One code finding at the receiving end of a crossing (R78). An error that cannot be corrected makes a position suspect
at once when a control-group code finds it; a word code poisons its word only. DESIGN CHOICE (log entry 149): an error that arises
in a crossing counts here, in ST_CORR_COUNT, and not in EC_CE_COUNT or EC_UE_COUNT, which count errors of stored words. -/
def State.crossing (s : State) (n : Nat) (c : Crossing) : State :=
  if !coded c.group then s
  else if c.ue then (if 305 ≤ c.group then s.suspect n c.group else s)
  else
    let key := 32 * c.group + c.pos
    let now := (s.stair n).ops
    let win := 2 ^ s.f Fld.ST_CFG_SUSPECT_LOG2WIN
    let corr := ((s.stair n).corr.filter fun (e : Nat × Nat) => now < e.2 + win) ++ [(key, now)]
    let s := s.inc Fld.ST_CORR_COUNT_COUNT n
    if s.f Fld.ST_CFG_SUSPECT_N ≤ (corr.filter fun (e : Nat × Nat) => e.1 = key).length then
      (s.updStair n fun t => { t with corr := corr }).suspect n c.group
    else s.updStair n fun t => { t with corr := corr }

/-- An operation carried by a stair with the findings of its crossing. -/
def State.carry (s : State) (n : Nat) (l : List Crossing) : State :=
  (s.updStair n fun t => { t with ops := t.ops + 1 }).each l fun s c => s.crossing n c

/-- Whether an operation is poisoned by an uncorrectable control-group error among the groups that carry it (R458,
Table 04-10). -/
def hitBy (l : List Crossing) (lo hi : Nat) : Bool :=
  l.any fun c => c.ue && ((lo ≤ c.group && c.group ≤ hi) || c.group == 315 || c.group == 316)
/-- Words of a row in which a word code found an error across the stair that it cannot correct: the row bus carries word w
at position w of each row-data group (R75). -/
def rowDataUe (l : List Crossing) : Nat :=
  l.foldl (fun m c => if c.ue && decide (c.group < 288) then Nat.lor m (2 ^ (c.pos % 32)) else m) 0
/-- Whether the service lane's word arrived with such an error (groups 288–296). -/
def laneDataUe (l : List Crossing) : Bool := l.any fun c => c.ue && decide (288 ≤ c.group) && decide (c.group < 297)
/-- Row moves: row control and arbitration; rows through the plane port: plane control too. -/
def rowHit (l : List Crossing) : Bool := hitBy l 305 309
def planeHit (l : List Crossing) : Bool := hitBy l 305 309 || hitBy l 313 314
/-- Service-lane accesses: service control and arbitration. -/
def laneHit (l : List Crossing) : Bool := hitBy l 310 312

/-- Whether the class of a group uses a segment (Table 04-2). -/
def usesSegment (stair group seg : Nat) : Bool :=
  if group < 288 then (if stair < 64 then 1 ≤ seg else 2 ≤ seg) && seg ≤ 6
  else if group < 297 then seg ≤ 6
  else if group < 305 then seg == 1 || seg == 2
  else seg ≤ 6

/-- Record the outcome of a repair window (Table 04-7): KIND 0 remapped, 1 narrowed, 2 failed, 3 unused position. -/
def State.stFault (s : State) (n kind seg group pos : Nat) : State :=
  let s := s.setF Fld.ST_FAULT_VALID n 1
  let s := s.setF Fld.ST_FAULT_KIND n kind
  let s := s.setF Fld.ST_FAULT_SEG n seg
  (s.setF Fld.ST_FAULT_GROUP n group).setF Fld.ST_FAULT_POS n pos

/-- Move a failed signal onto its group's spare (R77), with the journal record of R82. -/
def State.remap (s : State) (n seg group pos : Nat) : State :=
  let s := s.updStair n fun t => { t with remaps := t.remaps ++ [(seg, group, pos)] }
  s.incW Fld.ST_STATUS_SPARES_USED n

/-- Retire the half of the row bus that holds an exhausted group (R80). -/
def State.narrow (s : State) (n seg group : Nat) : State :=
  let s := s.setF Fld.ST_STATUS_STATE n 1
  let s := s.setF Fld.ST_NARROW_ACTIVE n 1
  let s := s.setF Fld.ST_NARROW_SURVIVOR n (if group < 144 then 1 else 0)
  let s := (s.setF Fld.ST_NARROW_SEG n seg).setF Fld.ST_NARROW_GROUP n group
  let s := s.setF Fld.RM_STATUS_NARROW n 1
  s.setF Fld.ST_NARROW_MAP_MAP (n / 32) (Nat.lor (s.f Fld.ST_NARROW_MAP_MAP (n / 32)) (2 ^ (n % 32)))

/-- What a failing signal of a group leads to (R77, R80, R81): 0 remap, 1 narrow, 2 the stair fails, 3 no effect. DESIGN
CHOICE (log entry 113): a signal in the retired half of a narrowed stair is at an unused position. -/
def State.failKind (s : State) (n seg group : Nat) : Nat :=
  let spareUsed := (s.stair n).remaps.any fun (r : Nat × Nat × Nat) => r.1 == seg && r.2.1 == group
  let narrowed := s.f Fld.ST_NARROW_ACTIVE n = 1
  let lowerSurvives := s.f Fld.ST_NARROW_SURVIVOR n = 0
  if !usesSegment n group seg then 3
  else if narrowed ∧ group < 288 ∧ (decide (group < 144) != lowerSurvives) then 3
  else if !spareUsed then 0
  else if group < 288 ∧ !narrowed then 1
  else 2

end Sys2Proof.Machine
end

