-- ==== Sys2Proof/Machine/Loft.lean ====
section
/-!
DEFINITION. Loft memory (R95–R120): service-lane requests and accesses, collisions in dual-port banks, ownership,
guests, retention, wakes and wipes.
-/
namespace Sys2Proof.Machine

/-! ### Word accesses -/

/-- Words touched by bytes a to a + len: word base, offset in the word, bytes (R98). -/
def wordsOf (a len : Nat) : List (Nat × Nat × Nat) :=
  (List.range ((a + len) / 32 - a / 32 + 1)).map fun k =>
    let base := (a / 32 + k) * 32
    let lo := max a base
    (base, lo - base, min (a + len + 1) (base + 32) - lo)

/-- POISON bit of a word in its 256-byte block (R149). -/
def wordBit (a : Nat) : Nat := 2 ^ (a % 256 / 32)

/-- Whether bank b is in checker test mode (R134). -/
def State.inCtm (s : State) (b : Nat) : Bool := s.f Fld.EC_CTM_CTRL_ENABLE = 1 && s.f Fld.EC_CTM_CTRL_BANK = b

/-- The 32 bytes of EC_CTM_FLIP. -/
def State.ctmFlip (s : State) : List Byte := ((List.range 8).map fun k => leBytes 4 (s.rd .EC_CTM_FLIP k).toNat).flatten

/-- A word read at a bank's arbiter for an agent: data and poison mark. In checker test mode with RAW_READ the management
processor gets the stored data unmarked (R134). -/
def State.bankRead (s : State) (b a : Nat) (who : Agent) : List Byte × Bool × State :=
  if s.inCtm b ∧ who = .mp ∧ s.f Fld.EC_CTM_CTRL_RAW_READ = 1 then
    (s.bytesAt (s.phys (a / 32 * 32)) 32, false, s.wr .EC_CTM_SYND 0 (s.syn (s.phys a)))
  else s.readWord a

/-- A write of bytes of one word at a bank's arbiter: the state, and whether the word was stored as poison. In checker
test mode a full-word write of the management processor is stored with the chosen errors (R134). -/
def State.bankWrite (s : State) (b a off : Nat) (data : List Byte) (poison : Bool) (who : Agent) : State × Bool :=
  if s.inCtm b ∧ who = .mp ∧ data.length = 32 then
    let base := s.phys (a / 32 * 32)
    let d := xorBytes data s.ctmFlip
    let syn := (checkBits data ^^^ s.rd .EC_CTM_CHECK) ^^^ checkBits d
    ((s.putBytes base d).setSyn base syn, false)
  else s.writeWord a off data poison

/-! ### The service lane -/

/-- Send the response of a request whose words are all done (R149). -/
def State.svcRespond (s : State) (ep : Nat) (r : SvcReq) : State :=
  let p := r.pkt
  if p.type = 0 then
    if r.busy ≠ 0 then s.inject ep (answer s p 4 ep 1 [] r.busy false)
    else
      let d := slice (r.data.map (·.2)).flatten (p.addr % 32) (p.len + 1)
      s.inject ep (answer s p 3 ep 0 d r.poison false)
  else
    if r.busy ≠ 0 then s.inject ep (answer s p 4 ep 1 [] r.busy (r.poison != 0))
    else s.inject ep (answer s p 4 ep 0 [] r.poison (r.poison != 0))

/-- The outcome of one word access reaches its request: the last one sends the response. -/
def State.finishAcc (s : State) (ep : Nat) (acc : SvcAcc) (data : List Byte) (poison busy : Bool) : State :=
  match mget (fun _ => none) s.svc acc.req with
  | none => s
  | some r =>
    let m := wordBit acc.addr
    let r : SvcReq := { r with
      left := r.left - 1, data := r.data ++ [(acc.addr, data)],
      poison := if poison then Nat.lor r.poison m else r.poison, busy := if busy then Nat.lor r.busy m else r.busy }
    if r.left = 0 then ({ s with svc := mput (fun _ => none) s.svc acc.req none } : State).svcRespond ep r
    else { s with svc := mput (fun _ => none) s.svc acc.req (some r) }

/-- Agents whose permission does not come from ownership (Table 05-4). -/
def Agent.independent : Agent → Bool
  | .mp | .mowing | .selftest | .load _ | .debug => true
  | _ => false

/-- Log a write that was dropped (R67, R78, R81, R106). No register shows this log (DEDUCED, log entry 17). -/
def State.dropWrite (s : State) (a : Nat) : State := s.updBank (a / 0x800000) fun k => { k with drops := k.drops ++ [a] }

/-- Whether an access admitted now waits for the operation on the bank to end: the new owner during a handover, anyone but
the independent agents during the drain of a wipe (R108, R115). -/
def State.arrivesLate (s : State) (b : Nat) (a : Agent) : Bool :=
  match (s.bank b).op with
  | .none => false
  | _ => !a.independent

/-- Start a wake of a bank, or queue it (R113). DESIGN CHOICE (log entry 144): every wake clears LB_PWR.RET_REQ, that of an access
too. -/
def State.askWake (s : State) (b : Nat) : State :=
  (s.setF Fld.LB_PWR_RET_REQ b 0).updBank b fun k => { k with wakeWait := true }

/-- A request of a stair's service lane is refused: counted for the bank and answered with a bus error (R106). DESIGN
CHOICE (log entry 117): a request of several words counts once. -/
def State.laneDeny (s : State) (ep b : Nat) (p : Packet) : State :=
  (s.inc Fld.LB_DENY_COUNT_COUNT b).refuse p ep 3

/-- A request of a failed stair: reads return poisoned data, writes are dropped (R81), and no word is stored as poison (R149). The
data of such a read is a free value. -/
def State.poisonAnswer (s : State) (ep : Nat) (p : Packet) : State :=
  let m := (wordsOf p.addr p.len).foldl (fun m (w : Nat × Nat × Nat) => Nat.lor m (wordBit w.1)) 0
  if p.type = 0 then (s.inject ep (answer s p 3 ep 0 (s.freeBytes (p.len + 1)) m false)).drawn
  else (s.dropWrite p.addr).inject ep (answer s p 4 ep 0 [] 0 false)

/-- Split a request into word accesses and put them in the bank's queue (R98). -/
def State.enqueue (s : State) (b : Nat) (p : Packet) (who : Agent) : State :=
  let ws := wordsOf p.addr p.len
  let id := s.svcNext
  let late := s.arrivesLate b who
  let accs : List SvcAcc := ws.map fun (w : Nat × Nat × Nat) =>
    { req := id, addr := w.1, agent := who, late := late, poison := p.type == 1 && bit p.poison (w.1 % 256 / 32) == 1,
      write := if p.type = 1 then some (w.2.1, slice p.payload (w.1 + w.2.1 - p.addr) w.2.2) else none }
  let s : State := { s with svc := mput (fun _ => none) s.svc id (some { pkt := p, left := ws.length }) }
  let s : State := { s with svcNext := id + 1 }
  s.updBank b fun k => { k with q := k.q ++ accs }

/-- SERVICE_LANE_REQUEST: the next request at the endpoint of a stair's service lane (R98, R106, R112). An uncorrectable LB_OWNER, which
tells nobody's permission, is a books fault (R39). -/
def State.laneRequest (s : State) (n : Nat) : State :=
  let ep := 128 + n
  match s.take ep 0 with
  | none => s
  | some (p, s') =>
    if !addrForm p.type then s'.refuse p ep 9
    else
      let b := p.addr / 0x800000
      let who := s.agentOf p
      if 512 ≤ b ∨ bankStair b ≠ n then s'.refuse p ep 2
      else if s.odBad (.owner b) then (s'.laneDeny ep b p).booksFault 9 0 0
      else if !s.laneOk who b then s'.laneDeny ep b p
      else if s.stairFailed n then s'.poisonAnswer ep p
      else if s.retentionHold b = some false then s'.laneDeny ep b p
      else if 16 < (s.bank b).q.length + (wordsOf p.addr p.len).length then s
      else
        let s' := if s.retentionHold b = some true then s'.askWake b else s'
        s'.enqueue b p who

/-- Whether an access of bank b may be sampled now: active array, no wipe, and not one that waits for the operation on the
bank (R108, R111, R114). -/
def State.mayEnter (s : State) (b : Nat) (late : Bool) : Bool :=
  s.f Fld.LB_PWR_PSTATE b = 0 && s.f Fld.LB_STATUS_WIPE_BUSY b = 0 && (!late || (s.bank b).op == .none)

/-- The first access of a bank's queue that may be sampled, with the rest. -/
def State.nextAcc (s : State) (b : Nat) : Option (SvcAcc × List SvcAcc) := takeFirst (fun a => s.mayEnter b a.late) (s.bank b).q

/-! ### The row port's next access (R55, R62, R64, R99) -/

/-- Bank and row of a load request: the location in RM_LOAD_CTRL for a load, RM_PSRC otherwise. -/
def State.loadPlace (s : State) (n op plane value : Nat) : Nat × Nat :=
  if op = 0 then (128 * bits value 25 24 + n, bits value 12 0)
  else (128 * s.f Fld.RM_PSRC_LOFT (4 * n + plane) + n, s.f Fld.RM_PSRC_ROW (4 * n + plane))
/-- The bank and bank row that the next row of a load uses. -/
def State.loadRowPlace (s : State) (n : Nat) (op : LoadOp) : Nat × Nat :=
  if op.phase = 2 then let (b, r) := s.loadPlace n 2 op.plane 0; (b, r + 2688 + op.next) else (op.bank, op.row + op.next)
/-- The bank of the next row of the load in service, when the row port could sample it now (R64, R106, R112). -/
def State.loadWants (s : State) (n : Nat) : Option Nat :=
  match (s.room n).ld with
  | none => none
  | some op =>
    let b := (s.loadRowPlace n op).1
    if op.phase ≠ 2 ∧ op.phase ≠ 3 then none
    else if s.fallowBank b || s.retentionHold b == some false || s.mayEnter b false then some b else none
/-- Whether the load's guaranteed slot, one in every 2^SHARE, is due (R64). -/
def State.loadDue (s : State) (n : Nat) : Bool :=
  (s.loadWants n).isSome && decide (2 ^ s.f Fld.RM_LOADCFG_SHARE n ≤ (s.room n).since + 1)

/-- Order in which the row port offers planes (R55, R62): the active plane first, then plane order; a suspended drain
target first in every other slot. -/
def State.rowOrder (s : State) (n : Nat) : List Nat :=
  let base := match s.active n with | some p => p :: (List.range 4).filter (· != p) | none => List.range 4
  match (s.room n).ld with
  | some op => if op.phase = 1 ∧ (s.room n).alt then op.plane :: base.filter (· != op.plane) else base
  | none => base
/-- Whether the row port could sample a plane's request now but for the service lane: a refused one at once, otherwise when
the bank may be entered (R106, R108, R112). -/
def State.rowReady (s : State) (r : RowReq) : Bool :=
  !r.permitted || s.fallowBank r.bank || s.retentionHold r.bank == some false || s.mayEnter r.bank r.late
/-- The requests that the row port would sample, in order: the heads of the planes' queues. -/
def State.rowHeads (s : State) (n : Nat) : List (Nat × RowReq) :=
  (s.rowOrder n).filterMap fun p => match (s.plane n p).rowQ with
    | r :: _ => if s.rowReady r then some (p, r) else none
    | [] => none
/-- Whether a request of the row port needs its bank's array (a refused one does not). -/
def State.rowTouches (s : State) (r : RowReq) : Bool :=
  r.permitted && !s.fallowBank r.bank && !(s.retentionHold r.bank == some false)
/-- The banks of the row port's next accesses in the order of its choice: a due row of a load, the planes' requests, the
load in the slots that they leave (R64). -/
def State.rowNext (s : State) (n : Nat) : List Nat :=
  let planes := ((s.rowHeads n).filter fun (e : Nat × RowReq) => s.rowTouches e.2).map fun (e : Nat × RowReq) => e.2.bank
  if s.loadDue n then (s.loadWants n).toList else planes ++ (s.loadWants n).toList

/-- The queues of a service lane that have an access to offer, from the one whose turn it is (R97). -/
def State.laneReady (s : State) (n : Nat) : List Nat :=
  ((List.range 4).map fun j => ((s.stair n).turn + j) % 4).filter fun j => (s.nextAcc (128 * j + n)).isSome
/-- Whether the service lane loses a single-port bank to the row port (R99): to the row move of this same cycle, or to the row
port's next request. -/
def State.laneLoses (s : State) (n b : Nat) (same : Bool) : Bool :=
  !s.dual b && ((same && ((s.stair n).last.any fun m => m.bank == b)) ||
    ((s.rowNext n).head? == some b && decide ((s.bank b).loss < s.f Fld.LB_ARBCFG_SVC_WAIT)))
/-- Whether the row port yields a single-port bank to the service lane's next request, which has lost SVC_WAIT times (R99). -/
def State.rowYields (s : State) (n b : Nat) : Bool :=
  !s.dual b && (s.laneReady n).head?.map (fun j => 128 * j + n) == some b && s.f Fld.LB_ARBCFG_SVC_WAIT ≤ (s.bank b).loss

/-- Start what a drained bank was waiting for (R108, R115): its wipe, unless the bank is in retention or a slice holds it. -/
def State.drained (s : State) (b : Nat) : Bool :=
  (s.bank b).q.all (fun a => a.late || a.agent.independent) &&
    (List.range 4).all fun p => (s.plane (bankStair b) p).rowQ.all fun r => r.bank != b || r.late || !r.permitted
def State.sliceOn (s : State) (b : Nat) : Bool :=
  match (s.stair (bankStair b)).slice with | some sl => sl.bank == b | none => false
def State.startWipe (s : State) (b : Nat) (op : BankOp) : State :=
  (s.updBank b fun k => { k with op := op }).setF Fld.LB_STATUS_WIPE_BUSY b 1
def State.drainCheck (s : State) (b : Nat) : State :=
  if !s.drained b || s.retained b || s.sliceOn b then s
  else match (s.bank b).op with
    | .handoverDrain =>
      if s.f Fld.LB_CTRL_WIPE_ON_HANDOVER b = 1 then (s.startWipe b .handoverWipe).setF Fld.LB_NEXT_OWNER_WIPE b 1 else s
    | .wipeDrain => s.startWipe b .wipe
    | _ => s

/-- Patch the return of the last row move of a stair after a collision (Table 05-2): its newest return entry. -/
def State.patchRow (s : State) (n : Nat) (m : LastMove) (f : RowRet → RowRet) : State :=
  s.updPlane n m.plane fun p => { p with rowRet := match p.rowRet.reverse with | [] => [] | r :: t => (f r :: t).reverse }

/-- A collision with a row read that a load issued: the load reissues the row (R103). -/
def State.repeatLoadRow (s : State) (n : Nat) : State :=
  (s.updRoom n fun r => { r with ld := r.ld.map fun op => if op.next = 0 then op else { op with next := op.next - 1, phase := 3 } }).setF
    Fld.RM_LOAD_STATUS_ROWS n (s.f Fld.RM_LOAD_STATUS_ROWS n - 1)

/-- The row move of a stair that a service-lane access of the same cycle to one row of a bank meets (R101). -/
def State.collides (s : State) (n b row : Nat) (write : Bool) : Option LastMove :=
  match (s.stair n).last with
  | some m => if s.dual b && m.bank == b && m.row == row && (m.write || write) then some m else none
  | none => none
/-- A service-class collision: BUSY on the service lane, and on the row port when its access is a read, whose data is then
undefined (R102, R103). -/
def State.busyPair (s : State) (n b : Nat) (m : LastMove) : State :=
  let s := s.inc Fld.LB_BUSY_COUNT_COUNT b (if m.write then 1 else 2)
  if m.write then s
  else if m.fabric then (s.patchRow n m fun r => { r with busy := true, data := s.freeBytes 1024 }).drawn
  else s.repeatLoadRow n

/-- The scheduler's reservation (R195). -/
def State.reserved (s : State) (b : Nat) : Bool :=
  s.f Fld.SC_RES_FIRST ≤ b && b < s.f Fld.SC_RES_FIRST + s.f Fld.SC_RES_COUNT
/-- An access of the service lane that reads an uncorrectable word of the scheduler's reservation is a books fault, whoever makes it
(R39). -/
def State.readsBad (s : State) (b : Nat) (acc : SvcAcc) : Bool :=
  s.reserved b && classify (s.syn (s.phys acc.addr)) == .ue && acc.write.all fun w => w.2.length != 32

/-- Perform one word access at the arbiter of bank b and give the outcome to its request (R99, R102, R125, R126). -/
def State.performAcc (s : State) (n b : Nat) (acc : SvcAcc) (same : Bool) (hit : Bool) : State :=
  let ep := 128 + n
  let row := acc.addr / 1024 % 8192
  let coll : Option LastMove := if same then s.collides n b row acc.write.isSome else none
  if hit then
    match acc.write with
    | some _ => (s.dropWrite acc.addr).finishAcc ep acc [] false false
    | none => (s.finishAcc ep acc (s.freeBytes 32) true false).drawn
  else
    match coll with
    | some m =>
      if m.fabric && acc.agent.fabric then
        match acc.write with
        | some (off, d) =>
          let (s, st) := s.bankWrite b acc.addr off d acc.poison acc.agent
          let s := if m.write then s else
            let w := acc.addr % 1024 / 32
            let (nd, p) := s.decoded acc.addr
            s.patchRow n m fun r => { r with
              data := splice r.data (32 * w) nd, poison := r.poison - bit r.poison w * 2 ^ w + (if p then 2 ^ w else 0) }
          s.finishAcc ep acc [] st false
        | none =>
          let (d, p, s) := s.bankRead b acc.addr acc.agent
          s.finishAcc ep acc d (p || acc.poison) false
      else
        let s := s.busyPair n b m
        s.finishAcc ep acc [] false true
    | none =>
      match acc.write with
      | some (off, d) =>
        let (s, st) := s.bankWrite b acc.addr off d acc.poison acc.agent
        s.finishAcc ep acc [] st false
      | none =>
        let (d, p, s) := s.bankRead b acc.addr acc.agent
        s.finishAcc ep acc d (p || acc.poison) false

/-- SERVICE_ACCESS: the service lane offers the queue whose turn it is; a head that loses to the row port counts the loss
and keeps its turn, and the next non-empty queue whose bank the row port does not access is offered instead (R97–R99). -/
def State.serviceAccess (s : State) (n : Nat) (same : Bool) (l : List Crossing) : State :=
  if s.paused n || s.stairFailed n then s
  else
    match s.laneReady n with
    | [] => s
    | first :: ready =>
      let lost := s.laneLoses n (128 * first + n) same
      let s := if lost then
          (s.updBank (128 * first + n) fun k => { k with loss := k.loss + 1 }).updStair n fun t => { t with turn := first }
        else s
      match (if lost then ready else first :: ready).find? fun j => !s.laneLoses n (128 * j + n) same with
      | none => s
      | some j =>
        let b := 128 * j + n
        match s.nextAcc b with
        | none => s
        | some (acc, rest) =>
          let s := s.updBank b fun k => { k with q := rest, loss := 0 }
          let s := s.updStair n fun t => { t with turn := if lost then t.turn else (j + 1) % 4 }
          let acc := { acc with poison := acc.poison || laneDataUe l }
          let bad := s.readsBad b acc && !laneHit l
          let s := ((s.performAcc n b acc same (laneHit l)).carry n l).drainCheck b
          if bad then s.booksFault 9 0 0 else s

/-! ### Ownership -/

/-- Whether a code of Table 05-3 names an owner. -/
def ownerOk (kind id : Nat) : Bool :=
  if kind = 0 then id < 512 else if kind = 1 then id < 256 else 2 ≤ kind && kind ≤ 5 && id == 0
/-- Whether the resource behind an owner code is fallow (R107). -/
def State.fallowOwner (s : State) (kind id : Nat) : Bool :=
  if kind = 0 then s.roomState (id / 4) = 5
  else if kind = 1 then s.engState id = 6
  else if kind = 2 then s.boot.fallow.contains (10, 0)
  else if kind = 4 then s.boot.fallow.contains (11, 0) else false
/-- Status of a write of LB_OWNER (Table 05-5, in its order). -/
def State.ownerStatus (s : State) (b value : Nat) : Nat :=
  let kind := bits value 15 12
  let id := bits value 11 0
  if !ownerOk kind id then 3
  else if s.fallowOwner kind id then 3
  else if s.fallowBank b then 4
  else if (s.owner b).kind = 2 ∧ s.reserved b then 4
  else if s.handover b || (s.bank b).op != .none || s.f Fld.LB_STATUS_WIPE_BUSY b = 1 then 2
  else 0

/-- The accesses that wait for an operation on a bank to end no longer do: an earlier one that has ended (R108, R115). -/
def State.admitLate (s : State) (b : Nat) : State :=
  let s := s.updBank b fun k => { k with q := k.q.map fun a => { a with late := false } }
  s.updRoom (bankStair b) fun r => { r with planes := mmapv (fun _ => {}) (fun _ (p : Plane) =>
    { p with rowQ := p.rowQ.map fun q => if q.bank = b then { q with late := false } else q }) r.planes }

/-- Accept a handover (R108 step 1); a write of the current owner has no effect. -/
def State.acceptHandover (s : State) (b value : Nat) : State :=
  let o : Owner := { kind := bits value 15 12, id := bits value 11 0 }
  if o = s.owner b then s
  else
    let s := s.setF Fld.LB_OWNER_HANDOVER b 1
    let s := s.setF Fld.LB_NEXT_OWNER_VALID b 1
    let s := (s.setF Fld.LB_NEXT_OWNER_KIND b o.kind).setF Fld.LB_NEXT_OWNER_ID b o.id
    let s := (s.admitLate b).updBank b fun k => { k with op := .handoverDrain }
    s.drainCheck b

/-- A write of LB_OWNER (R107, R108): the status of Table 05-5 and the state. DESIGN CHOICE (log entry 118): a refusal of the
table comes before the rule that a write of the current owner is accepted. -/
def State.writeOwner (s : State) (b value : Nat) : Nat × State :=
  let st := s.ownerStatus b value
  if st = 0 then (0, s.acceptHandover b value) else (st, s.setF Fld.LB_STATUS_WR_REFUSED b 1)

/-- The commands that wait for a bank's operation end with a status. -/
def State.endBankCmds (s : State) (b st : Nat) : State :=
  let l := (s.bank b).cmd
  (s.updBank b fun k => { k with cmd := [] }).each l fun s r => s.respond r st []

/-- The new owner takes the bank (R108 step 4). -/
def State.completeHandover (s : State) (b : Nat) : State :=
  let o := s.nextOwner b
  let s := s.setF Fld.LB_OWNER_HANDOVER b 0
  let s := ((s.setF Fld.LB_OWNER_KIND b o.kind).setF Fld.LB_OWNER_ID b o.id).odClear (.owner b)
  let s := (s.wr .LB_NEXT_OWNER b 0).wr .LB_GUEST b 0
  let s := s.incW Fld.LB_HANDOVER_COUNT_COUNT b
  let s := s.updBank b fun k => { k with op := .none }
  s.endBankCmds b 0

/-- HANDOVER_COMPLETE: the cycle after the last drained access or wipe row (R108). In the safe state and between a
foundation reset and RESUME the handover is held (R109). -/
def State.handoverComplete (s : State) (b : Nat) : State :=
  if s.safe || s.resuming then s
  else match (s.bank b).op with
    | .handoverReady => s.completeHandover b
    | .handoverDrain =>
      if s.drained b && s.f Fld.LB_CTRL_WIPE_ON_HANDOVER b = 0 then s.completeHandover b else s
    | _ => s

/-! ### Guests -/

/-- Status of a grant (R110): 0 accepted. -/
def State.guestStatus (s : State) (b value : Nat) : Nat :=
  let g : Owner := { kind := bits value 15 12, id := bits value 11 0 }
  if s.handover b then 2
  else if bit value 31 = 0 then 0
  else if !s.dual b || g == s.owner b || g.kind == 5 || !ownerOk g.kind g.id ||
      (!rowHome (s.owner b) b && !rowHome g b) then 3
  else 0

/-- A write of LB_GUEST (R109, R110). DESIGN CHOICE (log entry 119): a revocation clears KIND and ID too. -/
def State.writeGuest (s : State) (b value : Nat) : Nat × State :=
  let st := s.guestStatus b value
  if st ≠ 0 then (st, s.setF Fld.LB_STATUS_WR_REFUSED b 1)
  else if bit value 31 = 0 then (0, s.wr .LB_GUEST b 0)
  else (0, s.wr .LB_GUEST b (BitVec.ofNat 32 (2 ^ 31 + bits value 15 0)))

/-! ### The end of a slice -/

/-- The bank whose entry to checker test mode waits for a slice, if any: the one that EC_CTM_CTRL names. -/
def State.ctmWaits (s : State) : Bool := (s.bank (s.f Fld.EC_CTM_CTRL_BANK)).ctmWait

/-- Leave checker test mode: the bank is wiped (R134), whatever else is in progress on it. An entry that still waits for a
slice is left once it has taken place. -/
def State.ctmLeave (s : State) : State :=
  let b := s.f Fld.EC_CTM_CTRL_BANK
  if s.ctmWaits then s.updBank b fun k => { k with ctmExit := true }
  else if s.f Fld.EC_CTM_CTRL_ENABLE = 0 then s
  else
    ((s.setF Fld.EC_CTM_CTRL_ENABLE 0 0).updBank b fun k => { k with ctmExit := true }).setF Fld.LB_STATUS_WIPE_BUSY b 1

/-- The entry that waited for the end of a slice on a bank takes place, and the exit asked for since (R134, Table 16-9). -/
def State.ctmEntered (s : State) (b : Nat) : State :=
  if (s.bank b).ctmWait then
    let l := (s.bank b).ctmIn
    let s := (s.updBank b fun k => { k with ctmWait := false, ctmIn := [] }).setF Fld.EC_CTM_CTRL_ENABLE 0 1
    let s := s.each l fun s r => s.respond r 0 []
    if (s.bank b).ctmExit then s.ctmLeave else s
  else s

/-- What waited for the end of a slice on a bank goes on: checker test mode, a wipe (Table 16-9). -/
def State.sliceEnded (s : State) (b : Nat) : State := (s.ctmEntered b).drainCheck b
/-- A slice that must end at once outside the safe state (R370): what waited for its end goes on, and a column that its march
had found beyond repair leads to the safe state (R369). -/
def State.cutSlice (s : State) (n : Nat) : State :=
  match (s.stair n).slice with
  | none => s
  | some sl =>
    let s := (s.restoreSlice n).sliceEnded sl.bank
    if sl.fail.isEmpty then s else s.enterSafe 5
/-- The march of a slice is abandoned and its restore follows, after the save where that still runs and after a repair window
that is open (R368, Tables 04-4 and 16-9). -/
def State.abandonMarch (s : State) (n : Nat) : State :=
  match (s.stair n).slice with
  | none => s
  | some sl =>
    if sl.expired ∨ sl.phase = 3 then s
    else (s.updStair n fun t => { t with slice := some { sl with expired := true, phase := if sl.phase = 2 then 3 else sl.phase } }).inc
      Fld.BT_BG_STATUS_ABORTED 0

/-! ### Retention and wakes -/

/-- The accesses that wait in a bank's queue are refused with a bus error (R106, R112). -/
def State.refuseQueued (s : State) (b : Nat) : State :=
  let ids := ((s.bank b).q.map (·.req)).eraseDups
  (s.updBank b fun k => { k with q := [], loss := 0 }).each ids fun s id =>
    match mget (fun _ => none) s.svc id with
    | some r => ({ s with svc := mput (fun _ => none) s.svc id none } : State).laneDeny (128 + bankStair b) b r.pkt
    | none => s
/-- The accesses that wait in a bank's queue when it enters retention meet Table 05-7: they wake it, or are refused. -/
def State.retainQueue (s : State) (b : Nat) : State :=
  if (s.bank b).q.isEmpty ∨ s.f Fld.LB_PWR_CAUSE b = 3 then s
  else match s.retentionHold b with
    | some true => s.askWake b
    | some false => s.refuseQueued b
    | none => s

/-- A request for retention by command (R111): status and state. A bank that shedding retains is then retained by command
(DESIGN CHOICE, log entry 18). A slice on the bank ends first (R370). -/
def State.askRetain (s : State) (b : Nat) : Nat × State :=
  let k := (s.owner b).kind
  if k = 3 ∨ k = 2 ∨ s.fallowBank b then (4, s)
  else
    let s := if s.sliceOn b then s.cutSlice (bankStair b) else s
    let s := s.setF Fld.LB_PWR_RET_REQ b 1
    let s := s.updBank b fun k => { k with wakeWait := false }
    let s := if s.retained b then s else s.setF Fld.LB_PWR_PSTATE b 1
    (0, (s.setF Fld.LB_PWR_CAUSE b 1).retainQueue b)

/-- A write of LB_PWR.RET_REQ = 0: a wake of a bank retained by command (R113). -/
def State.askWakeCmd (s : State) (b : Nat) : State :=
  if s.retained b && s.f Fld.LB_PWR_CAUSE b = 1 then s.askWake b else s.setF Fld.LB_PWR_RET_REQ b 0

/-- RETENTION_ENTRY_COMPLETE: the array reaches retention (R111). -/
def State.retentionEntered (s : State) (b : Nat) : State :=
  if s.f Fld.LB_PWR_PSTATE b = 1 then
    let s := s.setF Fld.LB_PWR_PSTATE b 2
    let l := (s.bank b).retCmd
    (s.updBank b fun k => { k with retCmd := [] }).each l fun s r => s.respond r 0 []
  else s

/-- WAKE_START: a waiting wake takes one of the 32 slots, in ascending bank index (R113). None starts in the safe state, nor
between a foundation reset and the wakes of RESUME, but those of RECOVER (R111). -/
def State.wakeStart (s : State) (b : Nat) : State :=
  let waking := (banks512.filter fun k => s.f Fld.LB_PWR_PSTATE k = 3).length
  let first := (List.range b).all fun k => !((s.bank k).wakeWait && s.f Fld.LB_PWR_PSTATE k = 2)
  if (s.bank b).wakeWait && s.f Fld.LB_PWR_PSTATE b = 2 && waking < 32 && first &&
      (s.boot.frPhase == 6 || (!s.safe && (!s.resuming || s.boot.frPhase == 5))) then
    (s.updBank b fun k => { k with wakeWait := false }).setF Fld.LB_PWR_PSTATE b 3
  else s

/-! ### Wipes -/

/-- A wipe requested in service (R115): status and state. DESIGN CHOICE (log entry 143): a bank that wakes answers NOT_READY, as
one in retention does. -/
def State.askWipe (s : State) (b : Nat) : Nat × State :=
  if s.fallowBank b then (4, s)
  else if s.f Fld.LB_PWR_PSTATE b ≠ 0 then (5, s)
  else if s.handover b || (s.bank b).op != .none || s.f Fld.LB_STATUS_WIPE_BUSY b = 1 then (2, s)
  else
    let s := (s.admitLate b).updBank b fun k => { k with op := .wipeDrain }
    (0, s.drainCheck b)

/-- The bank's array after a wipe: all-zero data and valid check bits; the wipe stands for the mowing visit of every row
(R114, R129). -/
def State.wipeBank (s : State) (b : Nat) : State :=
  (s.wipe (bankRow b 0) (bankRow b 8192)).updMow fun m => { m with
    scrubs := mput (fun _ => 0) m.scrubs b 0,
    fresh := if m.started && !m.fresh.contains b then m.fresh ++ [b] else m.fresh }

/-- The wipe with which a bank leaves checker test mode has ended (R134). -/
def State.ctmWiped (s : State) (b : Nat) : State :=
  if (s.bank b).ctmExit ∧ !(s.bank b).ctmWait then
    let l := (s.bank b).ctmOut
    let s := (s.updBank b fun k => { k with ctmExit := false, ctmOut := [] }).setF Fld.EC_STATUS_CTM_ACTIVE 0 0
    (s.setF Fld.EP_STATUS_CTM_ACTIVE 0 0).each l fun s r => s.respond r 0 []
  else s

/-- WIPE_COMPLETE: the end of the 8,192 rows of a bank's wipe (R108, R114, R134). -/
def State.wipeComplete (s : State) (b : Nat) : State :=
  if s.f Fld.LB_STATUS_WIPE_BUSY b = 0 then s
  else
    let s := ((s.wipeBank b).setF Fld.LB_STATUS_WIPE_BUSY b 0).ctmWiped b
    match (s.bank b).op with
    | .wipe =>
      ((s.updBank b fun k => { k with op := .none }).setF Fld.LB_STATUS_WIPE_DONE b 1).endBankCmds b 0
    | .handoverWipe => (s.updBank b fun k => { k with op := .handoverReady }).setF Fld.LB_NEXT_OWNER_WIPE b 0
    | _ => s

/-! ### The management processor's own accesses -/

/-- Outcome of an access by the management processor or another unit that is performed in one step. -/
inductive Direct where
  | ok (data : List Byte) (poison : Nat)
  | busErr (cause : Nat)
  | held                            -- a bank in retention that the access wakes
  deriving DecidableEq, Repr

/-- Read bytes that lie in one loft bank, room RAM, engine memory or scratch, word by word. -/
def State.readSpan (s : State) (a n : Nat) (who : Agent) : List Byte × Nat × State :=
  (wordsOf a (n - 1)).foldl (fun (acc : List Byte × Nat × State) (w : Nat × Nat × Nat) =>
    let (d, p, s) := if w.1 < 0x100000000 then acc.2.2.bankRead (w.1 / 0x800000) w.1 who else acc.2.2.readWord w.1
    (acc.1 ++ slice d w.2.1 w.2.2, if p then Nat.lor acc.2.1 (wordBit w.1) else acc.2.1, s)) ([], 0, s)

/-- Write bytes word by word; the mask of words stored as poison. -/
def State.writeSpanAs (s : State) (a : Nat) (d : List Byte) (poison : Nat) (who : Agent) : Nat × State :=
  (wordsOf a (d.length - 1)).foldl (fun (acc : Nat × State) (w : Nat × Nat × Nat) =>
    let piece := slice d (w.1 + w.2.1 - a) w.2.2
    let mark := bit poison (w.1 % 256 / 32) = 1
    let (s, st) := if w.1 < 0x100000000 then acc.2.bankWrite (w.1 / 0x800000) w.1 w.2.1 piece mark who
      else acc.2.writeWord w.1 w.2.1 piece mark
    (if st then Nat.lor acc.1 (wordBit w.1) else acc.1, s)) (0, s)

/-- Check of a direct access to a loft bank (R106, R112): none when it may proceed. -/
def State.loftCheck (s : State) (b : Nat) (who : Agent) : Option Direct :=
  if !s.laneOk who b then some (.busErr 3)
  else match s.retentionHold b with
    | some false => some (.busErr 3)
    | some true => some .held
    | none => if s.f Fld.LB_PWR_PSTATE b = 3 then some .held else none

/-! ### Meanings -/

def execServiceLaneRequest (stair : Nat) (s : State) : Host.Outcome State Fault Refusal := .next (s.laneRequest stair)
def execServiceAccess (stair : Nat) (sameCycle : Bool) (crossing : List Crossing) (s : State) :
    Host.Outcome State Fault Refusal := .next (s.serviceAccess stair sameCycle crossing)
def execHandover (bank value : Nat) (s : State) : Host.Outcome State Fault Refusal := .next (s.writeOwner bank value).2
def execHandoverComplete (bank : Nat) (s : State) : Host.Outcome State Fault Refusal := .next (s.handoverComplete bank)
def execGuestGrant (bank value : Nat) (s : State) : Host.Outcome State Fault Refusal := .next (s.writeGuest bank value).2
def execRetentionRequest (bank : Nat) (s : State) : Host.Outcome State Fault Refusal := .next (s.askRetain bank).2
def execWakeRequest (bank : Nat) (s : State) : Host.Outcome State Fault Refusal := .next (s.askWakeCmd bank)
def execRetentionEntryComplete (bank : Nat) (s : State) : Host.Outcome State Fault Refusal :=
  .next (s.retentionEntered bank)
def execWakeStart (bank : Nat) (s : State) : Host.Outcome State Fault Refusal := .next (s.wakeStart bank)
def execWipeRequest (bank : Nat) (s : State) : Host.Outcome State Fault Refusal := .next (s.askWipe bank).2
def execWipeComplete (bank : Nat) (s : State) : Host.Outcome State Fault Refusal := .next (s.wipeComplete bank)

/-! ### Loft commands (Table 05-8, Table 17-9) -/

/-- A ring bank while recording or replay runs (R424). -/
def State.ringBank (s : State) (b : Nat) : Bool :=
  s.rpRuns && s.f Fld.RP_RING_FIRST ≤ b && b < s.f Fld.RP_RING_FIRST + s.f Fld.RP_RING_BANKS

def execBankOwner (h : CmdHdr) (bank value : Nat) (s : State) : Host.Outcome State Fault Refusal :=
  .next (s.submit h 0x0301 .r (argBytes [(6, 2, bank), (8, 4, value)]) fun s =>
    s.checks h [(512 ≤ bank, 3), (s.ringBank bank, 4)] fun s =>
      let (st, s') := s.writeOwner bank value
      if st ≠ 0 then s'.reply h st
      else if s'.handover bank then s'.updBank bank fun k => { k with cmd := k.cmd ++ [h.ref] }
      else s'.reply h 0)
def execBankGuest (h : CmdHdr) (bank value : Nat) (s : State) : Host.Outcome State Fault Refusal :=
  .next (s.submit h 0x0302 .r (argBytes [(6, 2, bank), (8, 4, value)]) fun s =>
    s.checks h [(512 ≤ bank, 3)] fun s => let (st, s') := s.writeGuest bank value; s'.reply h st)
def execBankRetain (h : CmdHdr) (bank : Nat) (s : State) : Host.Outcome State Fault Refusal :=
  .next (s.submit h 0x0303 .r (argBytes [(6, 2, bank)]) fun s =>
    s.checks h [(512 ≤ bank, 3), (s.ringBank bank, 4)] fun s =>
      let (st, s') := s.askRetain bank
      if st ≠ 0 then s'.reply h st
      else if s'.f Fld.LB_PWR_PSTATE bank = 2 then s'.reply h 0
      else s'.updBank bank fun k => { k with retCmd := k.retCmd ++ [h.ref] })
/-- BANK_WAKE; DENIED for a bank that shedding retains while step 5 holds (R341). -/
def execBankWake (h : CmdHdr) (bank : Nat) (s : State) : Host.Outcome State Fault Refusal :=
  .next (s.submit h 0x0304 .r (argBytes [(6, 2, bank)]) fun s =>
    s.checks h [(512 ≤ bank, 3), (s.retained bank && s.f Fld.LB_PWR_CAUSE bank = 2 && decide (5 ≤ s.f Fld.PW_SHED_STATUS_LEVEL), 4)] fun s =>
      let s := s.askWakeCmd bank
      if s.f Fld.LB_PWR_PSTATE bank = 0 then s.reply h 0
      else s.updBank bank fun k => { k with wakeCmd := k.wakeCmd ++ [h.ref] })
def execBankWipe (h : CmdHdr) (bank : Nat) (s : State) : Host.Outcome State Fault Refusal :=
  .next (s.submit h 0x0305 .r (argBytes [(6, 2, bank)]) fun s =>
    s.checks h [(512 ≤ bank, 3), (s.ringBank bank, 4)] fun s =>
      let (st, s') := s.askWipe bank
      if st ≠ 0 then s'.reply h st else s'.updBank bank fun k => { k with cmd := k.cmd ++ [h.ref] })
def execBankStatus (h : CmdHdr) (bank : Nat) (s : State) : Host.Outcome State Fault Refusal :=
  .next (s.submit h 0x0306 .s (argBytes [(6, 2, bank)]) fun s =>
    s.checks h [(512 ≤ bank, 3)] fun s =>
      s.replyData h (regData [s.rd .LB_OWNER bank, s.rd .LB_NEXT_OWNER bank, s.rd .LB_GUEST bank, s.rd .LB_CTRL bank,
        s.rd .LB_PWR bank, s.rd .LB_STATUS bank]))

end Sys2Proof.Machine
end

