-- ==== Sys2Proof/Machine/RoomLogic.lean ====
section
/-!
DEFINITION. What a room's logic meets at a CK_ROOM edge beside its plane's buffers: the vertical tracks with the receiving
synchronisers (R84–R87), the ports of the room RAM (R46–R48), the RMREG primitive, and the primitives LUT6, FF, CSEG4 and
MULT27X24 (R45, R68).
-/
namespace Sys2Proof.Machine

/-! ### Vertical tracks -/

/-- The track groups (of the 512 tracks of a pair, as a mask) that a stair's repair window tests (R87). -/
def State.testedTracks (s : State) (k base : Nat) : BitVec 512 :=
  match (s.stair k).win with
  | some w => if 297 ≤ w.group ∧ w.group ≤ 304 then BitVec.ofNat 512 (2 ^ 32 - 1) <<< (base + 32 * (w.group - 297)) else 0
  | none => 0
/-- The track groups of a failed stair that failed: their tracks hold (R81). -/
def State.deadTracks (s : State) (k base : Nat) : BitVec 512 :=
  (s.stair k).dead.foldl (fun m g => m ||| (BitVec.ofNat 512 (2 ^ 32 - 1) <<< (base + 32 * (g - 297)))) 0

/-- Values of the 512 tracks of a pair of rooms after their drives change (R85): room A's drive governs, an undriven track
holds, and the tracks of a group that failed its stair hold (R81). -/
def State.tracks (s : State) (n : Nat) : State :=
  let a := n % 64
  let ra := s.room a
  let rb := s.room (a + 64)
  let hold := s.deadTracks a 0 ||| s.deadTracks (a + 64) 256
  let old := (s.stair a).tracks
  let new := (old &&& ~~~(ra.vtMask ||| rb.vtMask)) ||| (ra.vtVal &&& ra.vtMask) ||| (rb.vtVal &&& rb.vtMask &&& ~~~ra.vtMask)
  let s := s.updStair a fun t => { t with tracks := (old &&& hold) ||| (new &&& ~~~hold) }
  let both := (ra.vtMask &&& rb.vtMask).toNat
  let s := if both % 2 ^ 256 ≠ 0 then s.setF Fld.ST_STATUS_VT_CONFLICT a 1 else s
  if both / 2 ^ 256 ≠ 0 then s.setF Fld.ST_STATUS_VT_CONFLICT (a + 64) 1 else s

/-- The tracks that a room drives read 0 when it is gated or fallow (R85). -/
def State.trackOff (s : State) (n : Nat) : State :=
  let m := (s.room n).vtMask
  let s := s.updStair (n % 64) fun t => { t with tracks := t.tracks &&& ~~~m }
  (s.updRoom n fun r => { r with vtMask := 0, vtVal := 0 }).tracks n

/-- IMAGE_ID of a plane. -/
def State.imageId (s : State) (n p : Nat) : Nat :=
  s.f Fld.RM_IMAGE_ID_LO_ID (4 * n + p) + 2 ^ 32 * s.f Fld.RM_IMAGE_ID_HI_ID (4 * n + p)

/-- Capture of the 31 data tracks of each bundle group whose strobe is seen to change (R86). `st0` and `st` are the strobe
levels seen before and after the edge; `live` are the track values, `seen` what the logic sees of plain groups. -/
def bundleView (bundle : Nat → Bool) (was st live seen : BitVec 512) (held : BitVec 512) : BitVec 512 :=
  (List.range 16).foldl (fun (v : BitVec 512) g =>
    let m := BitVec.ofNat 512 (2 ^ 31 - 1) <<< (32 * g)
    if bundle g then
      let src := if st.getLsbD (32 * g + 31) != was.getLsbD (32 * g + 31) then live else held
      (v &&& ~~~m) ||| (src &&& m)
    else v) seen

/-- The receiving synchronisers of a room at its CK_ROOM edge (R86): two stages per track; a track that changed since the
last edge is captured old or new (a free value); groups under test hold (R87). `p` is the plane whose image sets the
modes, `switched` says that it becomes active at this edge: its bundle groups then begin with the current values. -/
def State.syncTracks (s : State) (n p : Nat) (switched : Bool) : State :=
  let a := n % 64
  let r := s.room n
  let raw := (s.stair a).tracks
  let frozen := s.testedTracks a 0 ||| s.testedTracks (a + 64) 256
  let free := BitVec.ofNat 512 (leNat (s.freeBytes 64))
  let one := raw ^^^ ((raw ^^^ r.vtLast) &&& free)
  let keep (old new : BitVec 512) : BitVec 512 := (old &&& frozen) ||| (new &&& ~~~frozen)
  let vt1 := keep r.vt1 one
  let vt2 := keep r.vt2 r.vt1
  let seen := bundleView (Config.vtBundle (s.imageId n p)) r.vt2 vt2 raw vt2 (if switched then vt2 else r.vtSeen)
  (s.updRoom n fun r => { r with vtLast := raw, vt1 := vt1, vt2 := vt2, vtSeen := keep r.vtSeen seen }).drawn

/-! ### Ports of the room RAM -/

/-- Bytes of one access of a port of the given width code: 0 to 3 for 32, 64, 128 and 256 bits (R46). -/
def portBytes (w : Nat) : Nat := 4 * 2 ^ (w % 4)
/-- Width code of a block's write port, of its read port, and whether the read output register is used, as the image of
the active plane sets them (R46; log entry 109). -/
def State.ramPort (s : State) (n p block : Nat) : Nat × Nat × Bool := Config.ramPort (s.imageId n p) block
/-- Address of word `a` of a port of width `w` in a block of a room (R46, R47). -/
def ramAddr (n block w a : Nat) : Nat := 0x100000000 + 0x100000 * n + 4608 * block + portBytes w * a % 4608

/-- Whether an access of the logic uses the write port, or the read port (its read, or the read slot that a narrow write
takes; R46). -/
def RamOp.usesWrite (o : RamOp) : Bool := o.write.isSome
def State.usesRead (s : State) (n p : Nat) (o : RamOp) : Bool :=
  o.read.isSome || (o.write.isSome && (s.ramPort n p o.block).1 % 4 != 3)

/-- The blocks that a service access touches, and whether it needs their write port and their read port (R47). -/
def Packet.ramBlocks (p : Packet) : List Nat :=
  let lo := p.addr % 0x100000
  (List.range 128).filter fun b => decide (4608 * b < lo + p.len + 1) && decide (lo < 4608 * (b + 1))
def Packet.ramWrites (p : Packet) : Bool := p.type == 1
def Packet.ramReads (p : Packet) : Bool := p.type == 0 || p.addr % 32 != 0 || (p.len + 1) % 32 != 0

/-- Whether the logic uses, in this cycle, a port that the service access at the head of the queue needs. -/
def State.portConflict (s : State) (n p : Nat) (k : Packet) : Bool :=
  (s.room n).ram.any fun o => k.ramBlocks.contains o.block &&
    ((k.ramWrites && o.usesWrite) || (k.ramReads && s.usesRead n p o))

/-- The reads that the logic presented in the cycle that ends leave their blocks: to the outputs, or first to the output
register. An uncorrectable word asserts POISON, which is counted (R46, R48, Table 03-15). -/
def State.ramFinish (s : State) (n p : Nat) : State :=
  let r := s.room n
  let s := s.updRoom n fun q => { q with ramOut := r.ramPipe, ramPipe := [], ram := [] }
  let s := s.each r.ram fun s o =>
    match o.read with
    | none => s
    | some a =>
      let (_, w, reg) := s.ramPort n p o.block
      let at' := ramAddr n o.block w a
      let (d, bad, s) := s.readWord at'
      let e : RamRead := { block := o.block, data := slice d (at' % 32) (portBytes w), poison := bad }
      s.updRoom n fun q => if reg then { q with ramPipe := q.ramPipe ++ [e] } else { q with ramOut := q.ramOut ++ [e] }
  s.inc Fld.RM_POISON_COUNT_COUNT n ((s.room n).ramOut.countP fun e => e.poison)

/-- The arbiter's count of consecutive cycles in which the ports that the waiting service access needs were in use. -/
def State.ramStarve (s : State) (n p : Nat) : State :=
  match (s.room n).ramQ with
  | [] => s.updRoom n fun r => { r with ramBusy := 0 }
  | k :: _ => let c := s.portConflict n p k; s.updRoom n fun r => { r with ramBusy := if c then r.ramBusy + 1 else 0 }

/-- The accesses of one block in a cycle, held ones before new ones. DESIGN CHOICE (log entry 134): a new access at a port
whose access is still held is not performed; WRITE_WAIT or READ_WAIT tells the logic to present it again. -/
def mergeOps (held new : List RamOp) : List RamOp :=
  (List.range 128).filterMap fun b =>
    let l := (held ++ new).filter fun o => o.block == b
    if l.isEmpty then none
    else some { block := b, write := l.findSome? (·.write), read := l.findSome? (·.read) }

/-- The logic presents its accesses of the cycle that begins. The arbiter takes the cycle for a service access whose port
has not been idle for 32 cycles (R47), and a narrow write takes the read slot of its block (R46): the access that must wait
is held, with WRITE_WAIT or READ_WAIT. Writes are performed at once, reads at the end of the cycle, so that a read returns
the newly written data (R47). -/
def State.ramPresent (s : State) (n p : Nat) (ops : List RamOp) : State :=
  let r := s.room n
  let take : Option Packet := if 32 ≤ r.ramBusy then r.ramQ.head? else none
  let split (o : RamOp) : RamOp × RamOp :=
    let hit : Bool := match take with | some k => k.ramBlocks.contains o.block | none => false
    let tw : Bool := hit && ((match take with | some k => k.ramWrites | none => false) ||
      ((match take with | some k => k.ramReads | none => false) && (s.ramPort n p o.block).1 % 4 != 3))
    let tr : Bool := (hit && match take with | some k => k.ramReads | none => false) ||
      (!tw && o.write.isSome && (s.ramPort n p o.block).1 % 4 != 3)
    ({ block := o.block, write := if tw then none else o.write, read := if tr then none else o.read },
     { block := o.block, write := if tw then o.write else none, read := if tr then o.read else none })
  let l := (mergeOps r.ramHeld ops).map split
  let s := s.updRoom n fun q => { q with
    ram := l.map (·.1), ramHeld := (l.map (·.2)).filter fun o => o.write.isSome || o.read.isSome }
  s.each (l.map (·.1)) fun s o =>
    match o.write with
    | none => s
    | some (a, d) =>
      let w := (s.ramPort n p o.block).1
      let at' := ramAddr n o.block w a
      (s.writeWord at' (at' % 32) (fit 0 (portBytes w) d) false).1

/-! ### RMREG -/

/-- The logic reads one register of its room's block each cycle, with a latency of 4 cycles (Table 03-9). DESIGN CHOICE (log
entry 133): the access is read-only, so an RC counter that it reads keeps its value. -/
def State.rmregEdge (s : State) (n : Nat) (ask : Option Nat) : State :=
  let off (i : Nat) : Nat := 0x300000 + 0x1000 * n + 4 * (i % 1024)
  s.updRoom n fun r =>
    let out := r.rmPipe.find? fun (e : Nat × Nat × Word) => e.1 == 1
    let rest := (r.rmPipe.filter fun (e : Nat × Nat × Word) => e.1 != 1).map fun (e : Nat × Nat × Word) => (e.1 - 1, e.2)
    { r with
      rmOut := out.map (·.2),
      rmPipe := rest ++ (match ask with | some i => [(4, off i, s.raw (off i))] | none => []) }

/-! ### Cells -/

/-- Where the live flip-flops of cell c of room n lie in the model's address space, one byte per cell in the order of the
state rows (R14, R51), and, in the upper half, the outputs of its logic: O6 of its LUTs in bits 3:0, CO[3:0] in bits 7:4. -/
def liveFf (n c : Nat) : Nat := 2 ^ 50 + 65536 * n + c
def liveOut (n c : Nat) : Nat := liveFf n (32768 + c)

/-- Outputs O6 and O5 of a LUT6 with six inputs. Used as two LUT5 that share inputs 4:0, each half of the table is one. -/
def lutOut (t : BitVec 64 × Bool) (x : Nat) : Bool × Bool :=
  (t.1.getLsbD (if t.2 then 32 + x % 32 else x % 64), t.1.getLsbD (x % 32))

/-- CO[3:0] of a carry segment: where S is 1 the carry passes, where it is 0 the carry is what the place generates.
PRESUMED (log entry 132). -/
def cseg4 (ci : Bool) (s g : Nat) : Nat :=
  ((List.range 4).foldl (fun (a : Bool × Nat) i =>
    let c := if bit s i = 1 then a.1 else decide (bit g i = 1)
    (c, a.2 + (if c then 2 ^ i else 0))) (ci, 0)).2

/-- COUT of a cell: 0 where there is no cell below the lowest of its column of 256. -/
def State.carryBelow (s : State) (n c : Nat) : Bool := c % 256 != 0 && (s.byte (liveOut n (c - 1))).getLsbD 7

/-- A cell at the edge that ends a cycle: its LUTs and carry segment give their outputs for what the nets presented, and its
flip-flops take their data, set or reset (R45, Table 03-9). -/
def State.cellEdge (s : State) (n img : Nat) (x : CellIn) : State :=
  let o (i : Nat) : Bool × Bool := lutOut (Config.lut img (4 * x.cell + i)) (bits x.lut.toNat (6 * i + 5) (6 * i))
  let gather (f : Nat → Bool) (k : Nat) : Nat := (List.range k).foldl (fun a i => a + (if f i then 2 ^ i else 0)) 0
  let ci := if x.ciSel then (o 0).1 else s.carryBelow n x.cell
  let co := cseg4 ci x.s.toNat (gather (fun i => (o i).2) 4)
  let was := (s.byte (liveFf n x.cell)).toNat
  let next (j : Nat) : Bool :=
    let m := Config.flipFlop img (8 * x.cell + j)
    if x.sr.getLsbD j then m.2
    else if !x.ce.getLsbD j then bit was j == 1
    else match m.1 % 4 with
      | 0 => (o (j / 2)).1
      | 1 => (o (j / 2)).2
      | 2 => bit co (j / 2) == 1
      | _ => x.d.getLsbD j
  (s.setByte (liveFf n x.cell) (BitVec.ofNat 8 (gather next 8))).setByte (liveOut n x.cell)
    (BitVec.ofNat 8 (gather (fun i => (o i).1) 4 + 16 * co))

/-- Copy n bytes from one internal region to another, whose words become error-free. -/
def State.copyBytes (s : State) (src dst n : Nat) : State :=
  let l := s.mem.filter fun (c : Nat × Byte) => src ≤ c.1 && c.1 < src + n
  (s.wipe dst (dst + n)).each l fun s c => s.setByte (c.1 - src + dst) c.2

/-- The live flip-flops pass to a plane's shadow (R57). -/
def State.ffSave (s : State) (n p : Nat) : State := s.copyBytes (liveFf n 0) (landing n p 2688) 24576
/-- A plane's shadow, through the decoders of its store, becomes the live flip-flops (R57, R123). -/
def State.ffLoad (s : State) (n p : Nat) : State :=
  let lo := landing n p 2688
  let bad := s.synd.filter fun (e : Nat × Word) => lo / 32 ≤ e.1 && e.1 < lo / 32 + 768
  (s.copyBytes lo (liveFf n 0) 24576).each bad fun s e =>
    (s.putBytes (liveFf n (32 * e.1 - lo)) (s.decoded (32 * e.1)).1).noteWord (32 * e.1) 0

/-! ### Multipliers -/

/-- The 51-bit product of operands that are signed or not. -/
def product (sa sb : Bool) (a : BitVec 27) (b : BitVec 24) : Int :=
  (if sa then a.toInt else a.toNat) * (if sb then b.toInt else b.toNat)

/-- A multiplier at an edge: the product enters the pipeline, what leaves it is P, and the accumulator adds P, or P and the
accumulator of the multiplier below (R45, Table 03-9; log entry 132). -/
def multNext (cfg : Bool × Bool × Nat × Bool × Bool) (below : Nat) (r : MultReg) (x : MultIn) : MultReg :=
  let (sa, sb, k, useAcc, cascade) := cfg
  let v := low 51 (product sa sb x.a x.b)
  let line := v :: fit 0 (k % 4) r.pipe
  let out := line.getD (k % 4) 0
  let wide : Int := if sa || sb then sgn 51 out else out
  let base : Nat := if x.start then 0 else r.acc
  { pipe := line.take (k % 4), p := if k % 4 = 0 then v else line.getD (k % 4 - 1) 0,
    acc := if useAcc then low 58 (base + wide + if cascade then (below : Int) else 0) else r.acc }
def State.multEdge (s : State) (n p : Nat) (x : MultIn) : State :=
  let m := (s.plane n p).mults
  let below : Nat := if x.mult = 0 then 0 else (mget (fun _ => ({} : MultReg)) m (x.mult - 1)).acc
  s.updPlane n p fun q => { q with
    mults := mput (fun _ => {}) q.mults x.mult (multNext (Config.mult (s.imageId n p) x.mult) below (mget (fun _ => {}) q.mults x.mult) x) }

/-- The cells and multipliers of the active plane at the edge that ends a cycle. One that the edge does not name keeps its
registers and outputs. Cascades take what the accumulators below held before the edge. -/
def State.fabricEdge (s : State) (n p : Nat) (cells : List CellIn) (mults : List MultIn) : State :=
  (s.each cells fun s x => s.cellEdge n (s.imageId n p) x).each mults.reverse fun s x => s.multEdge n p x

end Sys2Proof.Machine
end

