-- ==== Sys2Proof/Machine/Rooms.lean ====
section
/-!
DEFINITION. Rooms and planes (R45–R74): switches and room-clock edges, row moves, the room endpoint and
room RAM, loads, reloads and saves.
-/
namespace Sys2Proof.Machine

/-! ### Plane stores -/

/-- Whether a plane store holds a word that decodes as poison (R127). -/
def State.storePoisoned (s : State) (n p : Nat) : Bool :=
  let lo := landing n p 0 / 32
  s.synd.any fun (e : Nat × Word) => lo ≤ e.1 && e.1 < lo + 2712 * 32 &&
    (match classify e.2 with | .poison | .ue => true | _ => false)

/-- Trailer bytes of a plane store, corrected (R52). -/
def State.trailer (s : State) (n p off len : Nat) : List Byte :=
  slice ((List.range 2).flatMap fun k => (s.decoded (landing n p 2687 + 960 + 32 * k)).1) off len
def State.nmin (s : State) (n p : Nat) : Nat := leNat (s.trailer n p 40 2) % 2048

/-- The divisor D of a room now (R49): 0 while its clock is off, which Table 03-8 says of GATED and FALLOW; a stopped clock
keeps its D. -/
def State.divisor (s : State) (n : Nat) : Nat :=
  if 4 ≤ s.roomState n then 0
  else match s.active n with
    | none => 0x400
    | some p => max (s.f Fld.RM_PLANE_CFG_DIV (4 * n + p)) (max (s.nmin n p) (s.f Fld.RM_EFF_DIV_THERM_DIV n))
def State.setDivisor (s : State) (n : Nat) : State := s.setF Fld.RM_EFF_DIV_DIV n (s.divisor n)

/-! ### Switches -/

def SwSrc.rank : SwSrc → Nat
  | .reg => 2
  | .sched => 1
  | .planectl => 0

/-- Discard a switch request: SW_REFUSED, and a PLANE_SWITCH that asked for it ends DENIED (R57, R69). -/
def State.refuseSwitch (s : State) (n : Nat) (cmd : Option CmdRef) : State :=
  (s.setF Fld.RM_STATUS_SW_REFUSED n 1).respondTo cmd 4 []

/-- Whether an operation holds plane t of a room, so that a switch to it waits (R57). -/
def State.planeBusy (s : State) (n t : Nat) : Bool :=
  match (s.room n).ld with | some op => op.plane == t | none => false

/-- Put a switch request in the place of the one that the room holds, if any (R56): accepted for the edge that ends the
cycle, or held until its target is RESIDENT or the clock restarts (R57, R67). A replaced request of a lower source of the
same cycle sets SW_REFUSED. DESIGN CHOICE (log entry 111): a PLANE_SWITCH whose request is replaced ends DENIED. -/
def State.takeSwitch (s : State) (n t : Nat) (src : SwSrc) (cmd : Option CmdRef) : State :=
  let r := s.room n
  let runs : Bool := s.roomState n = 0
  let now : Bool := runs && s.planeState n t == 2 && !s.planeBusy n t
  let loses : Bool := runs && (match r.cyc with | some c => decide (c.rank < src.rank) | none => false)
  let s := if loses then s.setF Fld.RM_STATUS_SW_REFUSED n 1 else s
  let s := s.respondTo r.cmdSwitch 4 []
  let s := s.setF Fld.RM_PLANE_PEND_VALID n (if now then 0 else 1)
  let s := if now then s else s.setF Fld.RM_PLANE_PENDING n t
  s.updRoom n fun r => { r with
    sw := if now then some (t, src) else none, cmdSwitch := cmd, cyc := if runs then some src else r.cyc }

/-- A switch request (R56, R57, R67, R127). A request that meets one of a higher source in the same CK_ROOM cycle is
discarded. DESIGN CHOICE (log entry 135): a request for the active plane or for an EMPTY one has no effect on the requests of
other sources in its cycle, whatever its rank. -/
def State.askSwitch (s : State) (n t : Nat) (src : SwSrc) (cmd : Option CmdRef) : State :=
  if s.active n = some t then s.respondTo cmd 0 []
  else if s.planeState n t = 0 then s.refuseSwitch n cmd
  else if s.planeState n t = 2 ∧ !s.planeBusy n t ∧ s.storePoisoned n t then (s.emptyPlane n t).refuseSwitch n cmd
  else
    let loses : Bool := s.roomState n = 0 && (match (s.room n).cyc with | some c => decide (src.rank < c.rank) | none => false)
    if loses then s.refuseSwitch n cmd else s.takeSwitch n t src cmd

/-- The switching edge: the outgoing plane's flip-flops pass to its shadow, the incoming plane's shadow becomes the live
flip-flop state, and that plane is active (R57, R58). DESIGN CHOICE (log entry 136): an access of the outgoing plane's logic
to the room RAM that is held (READ_WAIT, WRITE_WAIT) is not performed. A switch-back of the scheduler that this was is over
(R187). -/
def State.doSwitch (s : State) (n t : Nat) : State :=
  let s := match s.active n with | some p => s.ffSave n p | none => s
  let s := s.ffLoad n t
  let s := (s.setF Fld.RM_PLANE_ACTIVE n t).setF Fld.RM_PLANE_NONE n 0
  let s := s.setF Fld.RM_PLANE_PEND_VALID n 0
  let s := s.incW Fld.RM_SWITCH_COUNT_COUNT n
  let c := (s.room n).cmdSwitch
  let s := s.updSched fun q => { q with wantSwitch := mupd (fun _ => []) q.wantSwitch n (·.filter (· != t)) }
  (s.updRoom n fun r => { r with sw := none, cmdSwitch := none, resumed := true, ramHeld := [], back := if r.back = some t then none else r.back }).respondTo c 0 []

/-- A held switch at an edge (R57): taken when its target is RESIDENT and no operation holds it. -/
def State.heldEdge (s : State) (n : Nat) : State :=
  let t := s.f Fld.RM_PLANE_PENDING n
  if s.f Fld.RM_PLANE_PEND_VALID n = 0 ∨ s.planeBusy n t ∨ s.roomState n ≠ 0 then s
  else if s.planeState n t = 2 then
    if s.storePoisoned n t then (s.emptyPlane n t).dropHeld n
    else if s.active n = some t then
      let c := (s.room n).cmdSwitch
      ((s.setF Fld.RM_PLANE_PEND_VALID n 0).updRoom n fun r => { r with cmdSwitch := none }).respondTo c 0 []
    else s.doSwitch n t
  else if s.planeState n t = 0 then s.dropHeld n
  else s

/-- The switch that the room holds, at an edge: an accepted one becomes a held one and is taken when its target still is
RESIDENT (R51, R57). -/
def State.switchEdge (s : State) (n : Nat) : State :=
  match (s.room n).sw with
  | some (t, _) =>
    (((s.setF Fld.RM_PLANE_PEND_VALID n 1).setF Fld.RM_PLANE_PENDING n t).updRoom n fun r => { r with sw := none }).heldEdge n
  | none => s.heldEdge n

/-! ### The CK_ROOM edge -/

/-- The logic of the active plane takes one waiting result of each of its buffers (DESIGN CHOICE, log entry 19): row
returns, write completions, received packets, corridor responses. Poison given to the logic, with RPOISON or in a corridor
response, is counted (Tables 03-15 and 06-3), one indication for each result (DESIGN CHOICE, log entry 112). -/
def State.logicTakes (s : State) (n p : Nat) : State :=
  let q := s.plane n p
  let rowBad := match q.rowRet with | r :: _ => r.poison != 0 | [] => false
  let slot := q.slots.find? fun (e : Nat × Slot) => match e.2 with | .answered _ | .linkLost => true | _ => false
  let slotBad := match slot with | some (_, .answered k) => k.poison != 0 && k.status == 0 | _ => false
  let bad := [rowBad, slotBad].countP id
  let s := s.inc Fld.RM_POISON_COUNT_COUNT n bad
  s.updPlane n p fun q =>
    { q with
      rowRet := q.rowRet.drop 1, rowDone := q.rowDone.drop 1, rxReq := q.rxReq.drop 1,
      rxSched := q.rxSched.drop 1,
      rxMgmt := q.rxMgmt.drop 1,
      slots := (match slot with | some (t, _) => mput (fun _ => .free) q.slots t .free | none => q.slots) }

/-- The head of a room's park and unpark commands at an edge (R69): its own edge, then its answer. -/
def State.parkEdge (s : State) (n : Nat) : State :=
  match (s.room n).parks with
  | [] => s
  | (stop, cmd) :: rest =>
    let s := s.updRoom n fun r => { r with parks := rest }
    if stop then
      if s.roomState n = 0 then
        ((s.setF Fld.RM_STATUS_STATE n 1).updRoom n fun r => { r with parkedByCmd := true }).respondTo cmd 0 []
      else s.respondTo cmd 0 []
    else if s.f Fld.RM_STATUS_PARK_SHED n = 1 then s.respondTo cmd 4 []
    else if s.roomState n = 1 then
      ((s.setF Fld.RM_STATUS_STATE n 0).updRoom n fun r => { r with parkedByCmd := false }).respondTo cmd 0 []
    else s.respondTo cmd 0 []

/-- Shedding's park at the next edge, and its release (R339, R340): toStop is 1 + the state to enter. -/
def State.stopEdge (s : State) (n : Nat) : State :=
  let r := s.room n
  let s := if r.toStop ≠ 0 ∧ s.roomState n = 0 then s.setF Fld.RM_STATUS_STATE n (r.toStop - 1) else s
  let s := if r.toRun ∧ s.roomState n = 1 then s.setF Fld.RM_STATUS_STATE n 0 else s
  s.updRoom n fun r => { r with toStop := 0, toRun := false }

/-- LINK_LOST pulses in the first cycle of a plane after RESUME or RECOVER (R67). -/
def State.lostPulse (s : State) (n p : Nat) : State :=
  if (s.plane n p).lostDue then
    (s.updPlane n p fun q => { q with lostDue := false }).updRoom n fun r => { r with linkLost := true }
  else s

/-- The plane active from an edge drives the tracks (R58, R85). -/
def State.drive (s : State) (n p : Nat) (mask value : BitVec 512) : State :=
  ((s.updRoom n fun r => { r with vtMask := mask, vtVal := value }).tracks n).lostPulse n p

/-- An edge of a running room: results to the logic, the reads of the cycle that ends, the switch, the synchronisers, and
what the plane active from this edge does in the cycle that begins (R46, R47, R57, R58, R85, R86). -/
def State.runEdge (s : State) (n : Nat) (vt : VtDrive) (l : LogicIn) : State :=
  let t := match s.active n with
    | some p => (((s.fabricEdge n p l.cells l.mults).logicTakes n p).ramFinish n p).ramStarve n p
    | none => s
  let t := t.switchEdge n
  match t.active n with
  | some p => (((t.syncTracks n p (s.active n != some p)).drive n p vt.mask vt.value).ramPresent n p l.ram).rmregEdge n l.rmreg
  | none => t

/-- CK_ROOM_EDGE: the edge that ends a cycle (R50, R57, R66, R85). `vt` are the tracks that the plane active from this edge
drives; of `l`, `ram` and `rmreg` are what it asks of the room RAM and of RMREG in the cycle that begins, `cells` and `mults`
what the plane active until this edge presented in the cycle that ends. -/
def State.roomEdge (s : State) (n : Nat) (vt : VtDrive) (l : LogicIn) : State :=
  if 3 ≤ s.roomState n ∨ s.roomState n = 2 then s
  else
    let s := s.updRoom n fun r => { r with perr := 0, cyc := none, resumed := false, linkLost := false }
    let s := if s.roomState n = 0 then s.runEdge n vt l else s
    ((s.parkEdge n).stopEdge n).setDivisor n

/-- Whether the held switch of a room is settled at the next edge: taken, or discarded with a target that is EMPTY (R57). -/
def State.heldDue (s : State) (n : Nat) : Bool :=
  let t := s.f Fld.RM_PLANE_PENDING n
  s.roomState n == 0 && s.f Fld.RM_PLANE_PEND_VALID n == 1 && !s.planeBusy n t && (s.planeState n t == 2 || s.planeState n t == 0)
/-- HELD_SWITCH: the first edge at which a held switch can be taken (R57). What the outgoing plane's logic holds at that edge
and what the incoming plane drives in its first cycle are their logic's: free values (R58; log entry 10). The incoming plane
asks for nothing in that cycle. -/
def State.heldSwitch (s : State) (n : Nat) : State :=
  if !s.heldDue n then s
  else
    let d := s.freeBytes 128
    let vt : VtDrive := { mask := BitVec.ofNat 512 (leNat (d.take 64)), value := BitVec.ofNat 512 (leNat (d.drop 64)) }
    let s := if (s.active n).isSome then s.drawn.scramble (liveFf n 0) 24576 else s.drawn
    s.roomEdge n vt { ram := [], rmreg := none, cells := [], mults := [] }

/-! ### Row moves -/

/-- ROW_REQUEST: the active plane launches a row move; space for its result is reserved (R54). -/
def State.rowRequest (s : State) (n loft row : Nat) (write : Bool) (data : List Byte) (poison : Nat) : State :=
  match s.active n with
  | none => s
  | some p =>
    let q := s.plane n p
    let b := 128 * (loft % 4) + n
    let reads := (q.rowQ.filter fun r => !r.write).length + q.rowRet.length
    let writes := (q.rowQ.filter fun r => r.write).length + q.rowDone.length
    if s.roomState n ≠ 0 ∨ 8 ≤ q.rowQ.length ∨ (write ∧ 8 ≤ writes) ∨ (!write ∧ 4 ≤ reads) then s
    else
      let r : RowReq := {
        bank := b, row := row % 8192, write := write, permitted := s.rowOk n p b,
        late := s.arrivesLate b (.plane n p), data := fit 0 1024 data, poison := poison % 2 ^ 32 }
      s.updPlane n p fun q => { q with rowQ := q.rowQ ++ [r] }

/-- A row move that is poisoned or refused: a read returns poison, its data a free value; a write is dropped and logged
(R81, R106). -/
def State.rowPoison (s : State) (n p : Nat) (r : RowReq) : State :=
  if r.write then (s.dropWrite (bankRow r.bank r.row)).updPlane n p fun q => { q with rowDone := q.rowDone ++ [false] }
  else (s.updPlane n p fun q => { q with rowRet := q.rowRet ++ [{ data := s.freeBytes 1024, poison := 2 ^ 32 - 1, busy := false, bank := r.bank, row := r.row }] }).drawn

/-- Perform a sampled row move (R55, R78, R81, R106). `hit` says that a control group poisons it, `ue` are the words in which
the word code found an error across the stair that it cannot correct: such a word arrives as poison, and is no error of the stored
word that EC_UE_COUNT counts (log entry 149). The access may be the last that a handover or a wipe waits for (R108, R115). -/
def State.performRow (s : State) (n p : Nat) (r : RowReq) (hit : Bool) (ue : Nat) : State :=
  if !s.rowTouches r then ((s.inc Fld.LB_DENY_COUNT_COUNT r.bank).rowPoison n p r).drainCheck r.bank
  else if hit || s.stairFailed n then (s.rowPoison n p r).drainCheck r.bank
  else
    let s := s.updStair n fun t => { t with last := some { room := n, plane := p, bank := r.bank, row := r.row, write := r.write } }
    let s := if r.write then
        let s := s.rowWrite (bankRow r.bank r.row) r.data (Nat.lor r.poison ue)
        s.updPlane n p fun q => { q with rowDone := q.rowDone ++ [false] }
      else
        let (d, m, s) := s.rowRead (bankRow r.bank r.row)
        s.updPlane n p fun q => { q with rowRet := q.rowRet ++ [{ data := d, poison := Nat.lor m ue, busy := false, bank := r.bank, row := r.row }] }
    s.drainCheck r.bank

/-- The plane's request that the row port samples in this cycle (R55, R99, R100): the first whose bank the service lane does
not take. -/
def State.rowPick (s : State) (n : Nat) : Option (Nat × RowReq) :=
  (s.rowHeads n).find? fun (e : Nat × RowReq) => !(s.rowTouches e.2 && s.rowYields n e.2.bank)

/-- Whether the row port samples nothing of a room: a repair window (R79), a room with no clock or stopped (R67), from a
foundation reset until RESUME (Table 16-5). -/
def State.portStopped (s : State) (n : Nat) : Bool := s.paused n || decide (2 ≤ s.roomState n) || s.resuming || (s.safe && !s.recovering)

/-- ROW_MOVE: the row port samples one request (R55, R64, R79, R100), unless the slot is the one that a load is guaranteed
(R64). -/
def State.rowMove (s : State) (n : Nat) (l : List Crossing) : State :=
  if s.portStopped n || s.loadDue n then s
  else
    let s := s.each (List.range 4) fun s p => match (s.plane n p).rowQ with
      | r :: _ => if r.permitted && s.retentionHold r.bank == some true then s.askWake r.bank else s
      | [] => s
    match s.rowPick n with
    | none => s
    | some (p, r) =>
      let s := (s.updPlane n p fun q => { q with rowQ := q.rowQ.drop 1 }).updRoom n fun q =>
        { q with alt := !q.alt, since := if q.ld.isSome then q.since + 1 else 0 }
      (s.performRow n p r (rowHit l) (rowDataUe l)).carry n l

/-! ### The room endpoint -/

/-- A response at a room endpoint (R60): into the slot of its tag, or discarded when the plane's image was replaced. -/
def State.roomResponse (s : State) (n : Nat) (p : Packet) : State :=
  let t := p.dstPlane % 4
  match mget (fun _ => Slot.free) (s.plane n t).slots p.tag with
  | .waiting true =>
    (s.inc Fld.RM_DROP_COUNT_COUNT n).updPlane n t fun q => { q with slots := mput (fun _ => .free) q.slots p.tag .free }
  | .waiting false => s.updPlane n t fun q => { q with slots := mput (fun _ => .free) q.slots p.tag (.answered p) }
  | _ => s

def isAnswered (type : Nat) : Bool := type == 2 || type == 5 || type == 6 || type == 8

/-- Room for a packet in the receive buffer of its VC in a plane (R54, R60). -/
def Plane.rxFull (q : Plane) (vc : Nat) : Bool :=
  8 ≤ (if vc = 0 then q.rxReq else if vc = 2 then q.rxSched else q.rxMgmt).length
/-- Whether a packet at a room's endpoint waits for room: one that has no answer and finds its plane's buffer full. -/
def State.rxWaits (s : State) (n : Nat) (p : Packet) : Bool :=
  !addrForm p.type && p.type != 9 && !isAnswered p.type && s.roomState n < 4 && !s.gateDraining 0 n &&
    2 ≤ s.planeState n (p.dstPlane % 4) && (s.plane n (p.dstPlane % 4)).rxFull p.vc
/-- ROOM_ENDPOINT_REQUEST: the next request, dispatch or message at a room's endpoint (R47, R60, R163); one that waits holds up
its own VC alone (R154). An MB_RSP answers the MB_CMD of a plane (R148, R386). -/
def State.endpointRequest (s : State) (n : Nat) : State :=
  match [0, 2, 3].findSome? fun vc => (s.take n vc).filter fun x => !s.rxWaits n x.1 with
  | none => s
  | some (p, s') =>
    if addrForm p.type then
      if 0x90000 ≤ p.addr % 0x100000 then s'.refuse p n 8
      else if s.roomState n ≠ 0 ∨ s.gateDraining 0 n then s'.refuse p n 5
      else s'.updRoom n fun r => { r with ramQ := r.ramQ ++ [p] }
    else if p.type = 9 then (match s'.matchRsp n p with | (some _, s) => s.roomResponse n p | (none, s) => s)
    else
      let t := p.dstPlane % 4
      let gone := s.planeState n t ≤ 1
      let full := (s.plane n t).rxFull p.vc
      if 4 ≤ s.roomState n ∨ s.gateDraining 0 n then
        if isAnswered p.type then s'.refuse p n 5 else s'
      else if gone then
        if isAnswered p.type then s'.refuse p n 9 else s'
      else if full then
        if isAnswered p.type then s'.inject n (answer s p 4 n 1 [] 0 false) else s
      else
        let s' := s'.updPlane n t fun q =>
          if p.vc = 0 then { q with rxReq := q.rxReq ++ [p] }
          else if p.vc = 2 then { q with rxSched := q.rxSched ++ [p] }
          else { q with rxMgmt := q.rxMgmt ++ [p] }
        if isAnswered p.type then s'.inject n (answer s p 4 n 0 [] 0 false) else s'

/-- Perform a READ or WRITE at a memory of one endpoint, word by word, and answer it (R149). -/
def State.memAccess (s : State) (ep : Nat) (p : Packet) : State :=
  let who := s.agentOf p
  if p.type = 0 then
    let (d, m, s') := s.readSpan p.addr (p.len + 1) who
    s'.inject ep (answer s p 3 ep 0 d m false)
  else
    let (m, s') := s.writeSpanAs p.addr p.payload p.poison who
    s'.inject ep (answer s p 4 ep 0 [] m (m != 0))

/-- ROOM_RAM_ACCESS: a waiting service access takes its port cycle, in which the logic does not use the ports that it needs
(R47). -/
def State.ramAccess (s : State) (n : Nat) : State :=
  match (s.room n).ramQ with
  | [] => s
  | p :: t =>
    let busy : Bool := match s.active n with | some q => s.portConflict n q p | none => false
    if s.roomState n = 0 ∧ busy then s
    else
      let s := s.updRoom n fun r => { r with ramQ := t, ramBusy := 0 }
      if s.roomState n ≠ 0 then s.refuse p n 5 else s.memAccess n p

/-- CORRIDOR_TRANSMIT: the active plane issues a packet; a request takes a free tag of its 64 and reserves its response
slot (R54). At most 2 packets wait in the transmit buffer; what the endpoint itself sends, its answers (types 3 and 4) and the
DONE of PLANECTL (R182), waits beside it. -/
def State.transmit (s : State) (n : Nat) (k : Packet) : State :=
  match s.active n with
  | none => s
  | some p =>
    let k : Packet := { k with
      srcEp := n, srcNode := s.node, srcPlane := p, hops := s.f Fld.CO_CFG_HOP_LIMIT, status := 0, pstored := false,
      win := 0, entry := 0, exit := 0, base := 0, own := false, prot := none }
    let waiting := ((mget (fun _ => []) s.net.send n).filter fun q => q.srcPlane == p && !q.own && q.type != 3 && q.type != 4).length
    let slot := mget (fun _ => Slot.free) (s.plane n p).slots k.tag
    if s.roomState n ≠ 0 ∨ 2 ≤ waiting then s
    else if isRequest k.type then
      if 64 ≤ k.tag ∨ slot ≠ .free ∨ (s.outReq (outKey n p k.tag)).isSome then s
      else (s.updPlane n p fun q => { q with slots := mput (fun _ => .free) q.slots k.tag (.waiting false) }).request n k
    else s.inject n k

/-! ### Loads, state reloads and saves -/

/-- Whether an owner permits loads and saves of a room (R61). -/
def loadOwner (o : Owner) (n : Nat) : Bool := (o.kind == 0 && o.id / 4 == n && o.id < 512) || o.kind == 2 || o.kind == 3

/-- A load, state reload or save request (R61, R62 step 1): status and state. From the request of its gate's close on a room
takes none (R331 step 1). -/
def State.askLoad (s : State) (n : Nat) (agent : LoadAgent) (value : Nat) (cmd : Option CmdRef)
    (loc desc : Option Nat) : Nat × State :=
  let op := bits value 29 28
  let p := bits value 27 26
  let (b, row) := s.loadPlace n op p value
  let psrc := s.f Fld.RM_PSRC_VALID (4 * n + p) = 1
  let bad := op = 3 || s.active n == some p || (op = 0 && 5480 < row) ||
    (op != 0 && (s.planeState n p != 2 || !psrc)) || s.fallowBank b
  if s.roomState n = 4 ∨ s.gateDraining 0 n then (5, s)
  else if s.roomState n = 5 then (4, s)
  else if (s.room n).ld.isSome then (2, s)
  else
    let s := s.wr .RM_LOAD_CTRL n (BitVec.ofNat 32 value &&& Reg.accMask .RM_LOAD_CTRL .rw)
    if bad then (3, s.setF Fld.RM_LOAD_STATUS_ERR n 1)
    else if !loadOwner (s.owner b) n then (4, s.setF Fld.RM_LOAD_STATUS_ERR n 2)
    else
      let o : LoadOp := {
        agent := agent, op := op, plane := p, bank := b, row := row,
        saveFirst := op = 0 && bit value 30 = 1 && s.planeState n p = 2, phase := 1, next := 0, err := 0, loc := loc,
        desc := desc, cmd := cmd, was := s.planeState n p }
      let s := s.setF Fld.RM_LOAD_STATUS_BUSY n 1
      let s := (s.setF Fld.RM_LOAD_STATUS_PLANE n p).setF Fld.RM_LOAD_STATUS_ERR n 0
      let s := s.setF Fld.RM_LOAD_STATUS_ROWS n 0
      let s := s.updRoom n fun r => { r with ld := some o, since := 0 }
      if op = 0 then
        (0, (s.setPlaneState n p 1).updPlane n p fun q => { q with rxReq := [], rxSched := [], rxMgmt := [] })
      else (0, s)

/-- The next plane that the profile names for a room loads in the background after READY (R357). -/
def State.bgNext (s : State) (n : Nat) : State :=
  if !s.ready ∨ (s.room n).ld.isSome then s
  else match s.boot.bgLoads.find? fun x => x.1 == n with
    | none => s
    | some x => ((s.updBoot fun b => { b with bgLoads := b.bgLoads.erase x }).askLoad n .mp x.2 none none none).2
/-- The end of a load in service, after which a background load of the room may start. -/
def State.loadOver (s : State) (n err : Nat) : State := (s.loadDone n err).bgNext n

/-- The target has no outstanding operations (R62 step 2). -/
def State.targetIdle (s : State) (n p : Nat) : Bool :=
  (s.plane n p).rowQ.isEmpty && (s.plane n p).slots.all fun (e : Nat × Slot) => match e.2 with
    | .waiting false => false | _ => true

def State.setLoad (s : State) (n : Nat) (op : LoadOp) : State := s.updRoom n fun r => { r with ld := some op }

/-- Begin the image rows (R62 step 4). -/
def State.startRows (s : State) (n : Nat) (op : LoadOp) : State :=
  let s := s.setPlaneState n op.plane 1
  let s := if op.op = 0 then s.setF Fld.RM_PSRC_VALID (4 * n + op.plane) 0 else s
  s.setLoad n { op with phase := 3, next := if op.op = 0 then 0 else 2688 }

/-- After the drain: the save of a save or of a victim, when the bank's owner still permits it, else the rows (R62). -/
def State.afterDrain (s : State) (n : Nat) (op : LoadOp) : State :=
  if op.op = 2 ∨ op.saveFirst then
    let (b, row) := s.loadPlace n 2 op.plane 0
    if s.fallowBank b || !loadOwner (s.owner b) n then (s.setPlaneState n op.plane 2).loadOver n 7
    else (s.setPlaneState n op.plane 3).setLoad n { op with phase := 2, next := 0, bank := op.bank, row := if op.op = 2 then row else op.row }
  else s.startRows n op

/-- DRAIN_COMPLETE. -/
def State.drainComplete (s : State) (n : Nat) : State :=
  match (s.room n).ld with
  | some op => if op.phase = 1 && s.targetIdle n op.plane then s.afterDrain n op else s
  | none => s

/-- DRAIN_LIMIT: the target's remaining corridor tags are retired (R62). -/
def State.drainLimit (s : State) (n : Nat) : State :=
  match (s.room n).ld with
  | some op =>
    if op.phase = 1 then
      (s.updPlane n op.plane fun q => { q with slots := q.slots.map fun (e : Nat × Slot) =>
        match e.2 with | .waiting _ => (e.1, .waiting true) | _ => e }).drainComplete n
    else s
  | none => s

/-- Data and poison of row k of a plane's shadow (R51, R57): the state rows of the plane store. -/
def State.shadowRow (s : State) (n p k : Nat) : List Byte × Nat × State := s.rowRead (landing n p (2688 + k))

/-- A failed load or reload: the target is EMPTY, a held switch to it is discarded (R57, R63). -/
def State.loadFail (s : State) (n err : Nat) (op : LoadOp) : State :=
  let s := s.emptyPlane n op.plane
  let s := if s.f Fld.RM_PLANE_PEND_VALID n = 1 ∧ s.f Fld.RM_PLANE_PENDING n = op.plane then s.dropHeld n else s
  s.loadOver n err

/-- Whether the next row of a load waits in this cycle (R64, R99): the planes' requests take the slot unless it is due, and
the service lane takes a single-port bank for which it has lost SVC_WAIT times. -/
def State.loadWaits (s : State) (n b : Nat) : Bool :=
  (!s.loadDue n && (s.rowPick n).isSome) || s.rowYields n b

/-- One sampled row of a load, state reload or save (R62, R63): `hit` says that it is poisoned, `ue` are the words with an
error across the stair that cannot be corrected. -/
def State.moveLoadRow (s : State) (n : Nat) (op : LoadOp) (b row : Nat) (hit : Bool) (ue : Nat) : State :=
  if op.phase = 2 then
    let (d, m, s) := s.shadowRow n op.plane op.next
    let s := if hit then s.dropWrite (bankRow b row) else s.rowWrite (bankRow b row) d (Nat.lor m ue)
    if op.next = 23 then
      if op.op = 2 then s.setLoad n { op with phase := 4, next := 24 } else s.startRows n op
    else s.setLoad n { op with next := op.next + 1 }
  else
    let (d, m, s') := s.rowRead (bankRow b row)
    if hit || Nat.lor m ue != 0 then (if hit then s else s').loadFail n 4 op
    else
      let s := s'.rowWrite (landing n op.plane op.next) d 0
      s.setLoad n { op with phase := if op.next = 2711 then 4 else 3, next := op.next + 1 }

/-- LOAD_ROW: one image, state or save row in a sampling slot of the row port (R62–R64). -/
def State.loadRow (s : State) (n : Nat) (l : List Crossing) : State :=
  match (s.room n).ld with
  | none => s
  | some op =>
    let (b, row) := s.loadRowPlace n op
    if (op.phase ≠ 2 ∧ op.phase ≠ 3) ∨ s.paused n ∨ 2 ≤ s.roomState n then s
    else if s.retentionHold b = some true then s.askWake b
    else
      let refused := s.retentionHold b == some false || s.fallowBank b
      if (!refused && !s.mayEnter b false) || s.loadWaits n b then s
      else
        let s := if refused then s.inc Fld.LB_DENY_COUNT_COUNT b else s
        let s := (s.inc Fld.RM_LOAD_STATUS_ROWS n).updRoom n fun r => { r with since := 0 }
        let s := s.updStair n fun t => { t with last := some { room := n, plane := op.plane, bank := b, row := row, write := op.phase == 2, fabric := false } }
        (s.moveLoadRow n op b row (planeHit l || refused || s.stairFailed n) (rowDataUe l)).carry n l

/-- Whether a trailer obeys Table 03-3 (R52). -/
def trailerOk (t : List Byte) : Bool :=
  let use := leNat (slice t 8 16)
  let share := leNat (slice t 24 16)
  let nmin := leNat (slice t 40 2)
  8 ≤ nmin && nmin ≤ 1024 && Nat.land share use == share && (slice t 42 18).all (· == 0)

/-- A room-RAM conflict between two planes (R53). -/
def ramConflict (useA shareA useB shareB : Nat) : Bool :=
  (List.range 128).any fun b => bit useA b == 1 && bit useB b == 1 && (bit shareA b == 0 || bit shareB b == 0)

/-- LOAD_FINISH: the checks of step 5 and DONE (R62, R63). -/
def State.loadFinish (s : State) (n : Nat) : State :=
  match (s.room n).ld with
  | none => s
  | some op =>
    if op.phase ≠ 4 then s
    else if op.op = 2 then (s.setPlaneState n op.plane 2).loadOver n 0
    else if op.op = 1 then
      ((s.setPlaneState n op.plane 2).updPlane n op.plane fun q => { q with mults := [] }).loadOver n 0
    else
      let base := landing n op.plane 0
      let t := s.bytesAt (base + 2752448) 64
      let crc := crc32c (s.bytesAt base 2752508)
      let field (p off len : Nat) : Nat := leNat (s.trailer n p off len)
      let conflict := (List.range 4).any fun p => p != op.plane && s.planeState n p == 2 &&
        ramConflict (field op.plane 8 16) (field op.plane 24 16) (field p 8 16) (field p 24 16)
      if crc.toNat ≠ leNat (slice t 60 4) ∨ !trailerOk t then s.loadFail n 3 op
      else if conflict then s.loadFail n 5 op
      else
        let i := 4 * n + op.plane
        let s := s.setPlaneState n op.plane 2
        let s := s.setF Fld.RM_PSRC_VALID i 1
        let s := (s.setF Fld.RM_PSRC_LOFT i (op.bank / 128)).setF Fld.RM_PSRC_ROW i op.row
        let s := (s.setF Fld.RM_IMAGE_ID_LO_ID i (leNat (t.take 4))).setF Fld.RM_IMAGE_ID_HI_ID i (leNat (slice t 4 4))
        let s := s.incW Fld.RM_LOAD_COUNT_COUNT n
        let s := s.updPlane n op.plane fun q => { q with mults := [] }
        let s := s.updMow fun m => { m with
          planeRow := mput (fun _ => 0) m.planeRow i 0, scrubs := mput (fun _ => 0) m.scrubs (512 + i) 0 }
        s.loadOver n 0

/-! ### Meanings -/

def execCkRoomEdge (room : Nat) (vt : VtDrive) (logic : LogicIn) (s : State) : Host.Outcome State Fault Refusal :=
  .next (s.roomEdge room vt logic)
def execHeldSwitch (room : Nat) (s : State) : Host.Outcome State Fault Refusal := .next (s.heldSwitch room)
/-- PLANECTL_SWITCH_REQUEST: the active plane of a running room asks for a switch (R56). -/
def execPlanectlSwitchRequest (room target : Nat) (s : State) : Host.Outcome State Fault Refusal :=
  .next (if s.roomState room = 0 ∧ (s.active room).isSome then s.askSwitch room (target % 4) .planectl none else s)
def execRowRequest (room loft row : Nat) (write : Bool) (data : List Byte) (poison : Nat) (s : State) :
    Host.Outcome State Fault Refusal := .next (s.rowRequest room loft row write data poison)
def execRowMove (room : Nat) (crossing : List Crossing) (s : State) : Host.Outcome State Fault Refusal :=
  .next (s.rowMove room crossing)
def execRoomEndpointRequest (room : Nat) (s : State) : Host.Outcome State Fault Refusal := .next (s.endpointRequest room)
def execRoomRamAccess (room : Nat) (s : State) : Host.Outcome State Fault Refusal := .next (s.ramAccess room)
def execCorridorTransmit (room : Nat) (pkt : Packet) (s : State) : Host.Outcome State Fault Refusal :=
  .next (s.transmit room pkt)
/-- RM_LOAD_CTRL value of a row that fixes OP. -/
def withOp (value op : Nat) : Nat := value % 2 ^ 28 + 2 ^ 28 * op + 2 ^ 30 * bits value 31 30
def execSave (room : Nat) (agent : LoadAgent) (value : Nat) (s : State) : Host.Outcome State Fault Refusal :=
  .next (s.askLoad room agent (withOp value 2) none none none).2
def execDrainComplete (room : Nat) (s : State) : Host.Outcome State Fault Refusal := .next (s.drainComplete room)
def execDrainLimit (room : Nat) (s : State) : Host.Outcome State Fault Refusal := .next (s.drainLimit room)

/-! ### Room commands (Table 03-10, Table 17-10) -/

/-- Run a load request for a command, which is answered at DONE. -/
def State.loadCmd (s : State) (h : CmdHdr) (n value : Nat) : State :=
  let (st, s') := s.askLoad n .mp value (some h.ref) none none
  if st = 0 then s' else s'.reply h st

def execPlaneSave (h : CmdHdr) (room plane : Nat) (s : State) : Host.Outcome State Fault Refusal :=
  .next (s.submit h 0x0402 .r (argBytes [(6, 1, room), (7, 1, plane)]) fun s =>
    s.checks h [(128 ≤ room, 3), (4 ≤ plane, 3)] fun s => s.loadCmd h room (2 * 2 ^ 28 + 2 ^ 26 * plane))
def execPlaneSwitch (h : CmdHdr) (room plane : Nat) (s : State) : Host.Outcome State Fault Refusal :=
  .next (s.submit h 0x0403 .r (argBytes [(6, 1, room), (7, 1, plane)]) fun s =>
    s.checks h [(128 ≤ room, 3), (4 ≤ plane, 3)] fun s => s.askSwitch room plane .reg (some h.ref))
def execRoomStatus (h : CmdHdr) (room : Nat) (s : State) : Host.Outcome State Fault Refusal :=
  .next (s.submit h 0x0404 .s (argBytes [(6, 1, room)]) fun s =>
    s.checks h [(128 ≤ room, 3)] fun s =>
      s.replyData h (regData [s.rd .RM_PLANE room, s.rd .RM_STATUS room, s.rd .RM_EFF_DIV room, s.rd .RM_LOAD_STATUS room]))
/-- Queue a park or unpark for its edge; a room already there answers at once (R69). -/
def State.parkCmd (s : State) (h : CmdHdr) (n : Nat) (stop : Bool) : State :=
  s.checks h [(128 ≤ n, 3), (s.roomState n = 4, 5), (s.roomState n = 5, 4),
      (!stop && s.f Fld.RM_STATUS_PARK_SHED n = 1, 4)] fun s =>
    if (s.room n).parks.isEmpty && s.roomState n = (if stop then 1 else 0) then s.reply h 0
    else (s.uncommitted h.ref).updRoom n fun r => { r with parks := r.parks ++ [(stop, some h.ref)] }
def execRoomPark (h : CmdHdr) (room : Nat) (s : State) : Host.Outcome State Fault Refusal :=
  .next (s.submit h 0x0405 .r (argBytes [(6, 1, room)]) fun s => s.parkCmd h room true)
def execRoomUnpark (h : CmdHdr) (room : Nat) (s : State) : Host.Outcome State Fault Refusal :=
  .next (s.submit h 0x0406 .r (argBytes [(6, 1, room)]) fun s => s.parkCmd h room false)

end Sys2Proof.Machine
end

