-- ==== Sys2Proof/Machine/Store.lean ====
section
/-!
DEFINITION. The flash store and the settings journal (R398–R402): the flash map, slot headers, journal records, batches,
compaction, and reading the live state back at start-up.
-/
namespace Sys2Proof.Machine

/-- Flash bytes: erased flash reads 0xFF (R398). -/
def State.flashByte (s : State) (a : Nat) : Byte := mget (fun _ => 0xFF) s.flash a
def State.flashBytes (s : State) (a n : Nat) : List Byte := (List.range n).map fun i => s.flashByte (a + i)
def progFlash : SMap Byte → Nat → List Byte → SMap Byte
  | m, _, [] => m
  | m, a, b :: t => progFlash (mput (fun _ => 0xFF) m a b) (a + 1) t
def State.program (s : State) (a : Nat) (d : List Byte) : State := { s with flash := progFlash s.flash a d }
def State.eraseFlash (s : State) (lo hi : Nat) : State := { s with flash := mclear s.flash lo hi }

/-- Size of a profile slot: (F − 16 MiB) / 8 rounded down to 64 KiB (R398). -/
def slotSize : Nat := 65536 * ((2 ^ 20 * Config.flashMiB - 2 ^ 24) / 8 / 65536)
/-- Flash offset of profile slot s. -/
def slotBase (slot : Nat) : Nat := 0x1000000 + slot * slotSize
/-- Journal area: 0 A, 1 B (Table 17-20). -/
def areaBase (area : Nat) : Nat := if area = 0 then 0x200000 else 0x300000
def areaSize : Nat := 0x100000

/-- A profile slot's header checks: STATE valid and CRC over bytes 0–7 (R399). -/
def State.slotValid (s : State) (slot : Nat) : Bool :=
  let h := s.flashBytes (slotBase slot) 12
  leNat (h.take 4) == 1 && leNat (h.drop 8) == (crc32c (h.take 8)).toNat
def State.slotLen (s : State) (slot : Nat) : Nat := leNat (s.flashBytes (slotBase slot + 4) 4)
def State.slotImage (s : State) (slot : Nat) : List Byte := s.flashBytes (slotBase slot + 0x10000) (s.slotLen slot)

/-! ### Journal records -/

/-- One record's bytes (R400). -/
def journalRec (seq type : Nat) (payload : List Byte) : List Byte :=
  let h := leBytes 8 seq ++ leBytes 1 type ++ leBytes 1 0 ++ leBytes 2 payload.length
  h ++ leBytes 4 (crc32c (h ++ payload)).toNat ++ payload ++ List.replicate ((16 - payload.length % 16) % 16) 0xFF
def journalHeader (gen : Nat) : List Byte :=
  let h := leBytes 4 0x4A524E4C ++ leBytes 4 1 ++ leBytes 8 gen
  h ++ leBytes 4 (crc32c h).toNat

/-- Apply one record to the live state (Table 17-21). -/
def Journal.apply (j : Journal) (type : Nat) (p : List Byte) : Journal :=
  let at' (o n : Nat) := leNat (slice p o n)
  match type with
  | 2 => { j with settings := mput (fun _ => (0, 0)) j.settings (at' 0 4) (at' 4 4, at' 8 4) }
  | 3 => if at' 0 4 = 0xFFFFFFFF then { j with settings := [] } else { j with settings := mdel j.settings (at' 0 4) }
  | 4 => { j with remaps := j.remaps ++ [(at' 0 1, at' 1 1, at' 2 2, at' 4 1)] }
  | 5 => { j with narrows := j.narrows ++ [(at' 0 1, at' 1 1, at' 2 2)] }
  | 6 => { j with repairs := j.repairs ++ [(at' 0 2, at' 2 1, at' 4 2)] }
  | 7 => { j with repairs := j.repairs.filter fun (r : Nat × Nat × Nat) => !(r.1 == at' 0 2 && r.2.1 == at' 2 1) }
  | 8 =>
    let k := (at' 0 1, at' 2 2)
    { j with fallow := if at' 4 1 = 1 then (if j.fallow.contains k then j.fallow else j.fallow ++ [k])
                       else j.fallow.filter fun (x : Nat × Nat) => x != k }
  | 9 => { j with life := (List.range 5).map fun k => at' (4 * k) 4 }
  | _ => j

/-- The records that write the live state anew (R402). -/
def Journal.records (j : Journal) : List (Nat × List Byte) :=
  (j.settings.map fun e => (2, leBytes 4 e.1 ++ leBytes 4 e.2.1 ++ leBytes 4 e.2.2)) ++
  (j.remaps.map fun r => (4, leBytes 1 r.1 ++ leBytes 1 r.2.1 ++ leBytes 2 r.2.2.1 ++ leBytes 1 r.2.2.2)) ++
  (j.narrows.map fun r => (5, leBytes 1 r.1 ++ leBytes 1 r.2.1 ++ leBytes 2 r.2.2)) ++
  (j.repairs.map fun r => (6, leBytes 2 r.1 ++ leBytes 1 r.2.1 ++ leBytes 1 0 ++ leBytes 2 r.2.2)) ++
  (j.fallow.map fun r => (8, leBytes 1 r.1 ++ leBytes 1 0 ++ leBytes 2 r.2 ++ leBytes 1 1)) ++
  (if j.life.isEmpty then [] else [(9, (j.life.map (leBytes 4)).flatten)])

def recSize (r : Nat × List Byte) : Nat := 16 + (r.2.length + 15) / 16 * 16
/-- Bytes of the live state as one batch, with its COMMIT. -/
def Journal.liveBytes (j : Journal) : Nat := (j.records.map recSize).foldl (· + ·) 16
/-- Live state above 75 % of an area (Table 17-22). -/
def Journal.tooBig (j : Journal) : Bool := areaSize * 3 / 4 < j.liveBytes
/-- Fill of the current area at or above 75 % (R402). -/
def Journal.full (j : Journal) : Bool := areaSize * 3 / 4 ≤ j.off

/-- Append records to the current area of the flash and the batch's COMMIT (R400). -/
def State.appendRecs (s : State) (l : List (Nat × List Byte)) : State :=
  (l ++ [(1, [])]).foldl (fun (s : State) (r : Nat × List Byte) =>
    let b := journalRec (s.journal.seq + 1) r.1 r.2
    (s.program (areaBase s.journal.area + s.journal.off) b).updJ fun j =>
      { j with seq := j.seq + 1, off := j.off + b.length }) s

/-- Compaction (R402): the other area takes the live state as one batch and a header with GEN + 1, and the header sector
of the old area is erased. -/
def State.compact (s : State) : State :=
  let j := s.journal
  let other := 1 - j.area
  let s := s.eraseFlash (areaBase other) (areaBase other + areaSize)
  let s := s.updJ fun j => { j with area := other, off := 256 }
  let s := s.appendRecs j.records
  let s := s.program (areaBase other) (journalHeader (j.gen + 1))
  let s := s.eraseFlash (areaBase j.area) (areaBase j.area + 65536)
  s.updJ fun j => { j with gen := j.gen + 1, compacting := false }

/-- Commit a batch (R400–R402): its records are appended with their COMMIT and take effect on the live state. A live
state above 75 % of an area is not kept, and a batch that meets a compaction waits for its end (Table 17-22). Compaction, when
due, is the command JOURNAL_COMPACTION. -/
def State.journalBatch (s : State) (l : List (Nat × List Byte)) : State :=
  let j' := l.foldl (fun (j : Journal) (r : Nat × List Byte) => j.apply r.1 r.2) s.journal
  if s.journal.compacting then s.updJ fun j => { j with held := j.held ++ [l] }
  else if j'.tooBig then s
  else
    let s := { s with journal := j' }
    (s.appendRecs l).updJ fun j => { j with compacting := j.compacting || j.full }

/-- Read an area's records in order until the stop (R401): the live state of whole batches, and the SEQ and offset at the
stop. -/
def scanArea (flash : Nat → Nat → List Byte) (base : Nat) :
    Nat → Journal → Journal → Nat → Nat → Journal × Nat × Nat
  | 0, _, live, seq, off => (live, seq, off)
  | fuel + 1, open', live, seq, off =>
    if areaSize < off + 16 then (live, seq, off)
    else
      let h := flash (base + off) 16
      let len := leNat (slice h 10 2)
      let p := flash (base + off + 16) len
      let sq := leNat (h.take 8)
      let size := 16 + (len + 15) / 16 * 16
      if h.all (· == 0xFF) || leNat (slice h 12 4) != (crc32c (h.take 12 ++ p)).toNat || areaSize < off + size ||
          (seq != 0 && sq != seq + 1) then (live, seq, off)
      else
        let t := (slice h 8 1).head!.toNat
        let o := open'.apply t p
        scanArea flash base fuel o (if t = 1 then o else live) sq (off + size)

/-- Whether an area's header checks, and its GEN (R400, R401). -/
def State.areaGen (s : State) (area : Nat) : Option Nat :=
  let h := s.flashBytes (areaBase area) 20
  if leNat (h.take 4) = 0x4A524E4C ∧ leNat (slice h 4 4) = 1 ∧ leNat (slice h 16 4) = (crc32c (h.take 16)).toNat then
    some (leNat (slice h 8 8))
  else none

/-- Read the journal at step 7 of start-up (R401): the valid area with the higher GEN; none valid leaves an empty
journal in area A, whose header is then programmed (DESIGN CHOICE, log entry 15). -/
def State.readJournal (s : State) : State :=
  let a := s.areaGen 0
  let b := s.areaGen 1
  let pick : Option (Nat × Nat) := match a, b with
    | some x, some y => if x < y then some (1, y) else some (0, x)
    | some x, none => some (0, x)
    | none, some y => some (1, y)
    | none, none => none
  match pick with
  | none => ({ s with journal := { s.journal with settings := [], remaps := [], narrows := [], repairs := [],
                                                  fallow := [], life := [], area := 0, gen := 1, seq := 0, off := 256 } }).program
              (areaBase 0) (journalHeader 1)
  | some (area, gen) =>
    let empty : Journal := { area := area, gen := gen, jobs := s.journal.jobs }
    let (live, seq, off) := scanArea s.flashBytes (areaBase area) 65536 empty empty 0 256
    let s := { s with journal := { live with seq := seq, off := off } }
    if (s.flashBytes (areaBase area + off) 16).all (· == 0xFF) then s else s.compact

end Sys2Proof.Machine
end

