-- ==== Sys2Proof/Machine/Repair.lean ====
section
/-!
DEFINITION. Repair windows' commands (R77–R83, R87): the walking-pattern test, its outcome, a failing stair, resuming.
-/
namespace Sys2Proof.Machine

/-- Poison every request that waits in a failed stair's queues (R81). -/
def State.poisonWaiting (s : State) (n : Nat) : State :=
  let s := s.each (List.range 4) fun s p =>
    let l := (s.plane n p).rowQ
    (s.updPlane n p fun q => { q with rowQ := [] }).each l fun s r => s.rowPoison n p r
  s.each (List.range 4) fun s j =>
    let b := 128 * j + n
    let l := (s.bank b).q
    (s.updBank b fun k => { k with q := [] }).each l fun s a => s.performAcc n b a false true

/-- A stair fails (R81): FAILED, its waiting requests poisoned, the safe state with event data naming the stair. -/
def State.failStair (s : State) (n : Nat) : State :=
  ((s.setF Fld.ST_STATUS_STATE n 2).poisonWaiting n).enterSafe 4 n

/-- Insert in ascending order of segment, then position (R79). -/
def insertFail (x : Nat × Nat) : List (Nat × Nat) → List (Nat × Nat)
  | [] => [x]
  | y :: t => if 64 * x.1 + x.2 ≤ 64 * y.1 + y.2 then x :: y :: t else y :: insertFail x t

/-- Handle one failing signal of the group under test (R77, R80–R82); one that follows a signal which fails the stair is handled too,
and the stair stays FAILED. -/
def State.handleFail (s : State) (n group : Nat) (x : Nat × Nat) : State :=
  let (seg, pos) := x
  let failed := s.stairFailed n
  let k := s.failKind n seg group
  let s := s.stFault n k seg group pos
  if k = 0 then
    (s.remap n seg group pos).journalBatch [(4, leBytes 1 n ++ leBytes 1 seg ++ leBytes 2 group ++ leBytes 1 pos)]
  else if k = 1 then
    let s := (s.narrow n seg group).journalBatch [(5, leBytes 1 n ++ leBytes 1 seg ++ leBytes 2 group)]
    if failed then s.setF Fld.ST_STATUS_STATE n 2 else s
  else if k = 2 then
    let s := if 297 ≤ group ∧ group ≤ 304 ∧ !(s.stair n).dead.contains group then s.updStair n fun t => { t with dead := t.dead ++ [group] } else s
    if failed then s else s.failStair n
  else s

/-- WALKING_PATTERN_TEST: cycle 5 of a window. -/
def State.walkTest (s : State) (n : Nat) : State :=
  match (s.stair n).win with
  | some w => if w.phase = 1 then s.updStair n fun t => { t with win := some { w with phase := 2 } } else s
  | none => s

/-- REPAIR_OUTCOME: cycle 69; each failing signal found is handled in turn (R79). DESIGN CHOICE (log entries 114 and 116):
the corrections counted at a position that is found failing are forgotten, and ST_REPAIR_COUNT counts a window here, so that one abandoned
before is not counted. -/
def State.repairOutcome (s : State) (n : Nat) (failing : List (Nat × Nat)) : State :=
  match (s.stair n).win with
  | some w =>
    if w.phase ≠ 2 then s
    else
      let s := s.updStair n fun t => { t with
        win := some { w with phase := 3 },
        corr := t.corr.filter fun (e : Nat × Nat) => !(failing.any fun (x : Nat × Nat) => e.1 == 32 * w.group + x.2) }
      let s := s.incW Fld.ST_REPAIR_COUNT_COUNT n
      s.each (failing.foldr insertFail []) fun s x => s.handleFail n w.group x
  | none => s

/-- REPAIR_SAMPLING_RESUME: cycle 70; a group that waits opens the next window (R79, Table 04-4). -/
def State.repairResume (s : State) (n : Nat) : State :=
  match (s.stair n).win with
  | some w =>
    if w.phase ≠ 3 then s
    else
      let s := (s.updStair n fun t => { t with win := none }).setF Fld.ST_STATUS_REPAIR_BUSY n 0
      match w.waiting with
      | [] => s
      | g :: rest => (s.suspect n g).each rest fun s g => s.suspect n g
  | none => s

/-- VT_PARITY_MISMATCH: a counted mismatch of a track group (297–304) sets VT_PARITY, pulses PERR in the receiving room
and makes the group suspect at once (R87). `toB` is the direction of crossing of the parity connection: room B receives. -/
def State.vtParity (s : State) (n group : Nat) (toB : Bool) : State :=
  if group < 297 ∨ 304 < group then s
  else
    let i := group - 297 + (if 64 ≤ n then 8 else 0)
    let a := n % 64
    let recv := if toB then a + 64 else a
    let s := s.setF Fld.ST_STATUS_VT_PARITY n 1
    let s := s.updRoom recv fun r => { r with perr := Nat.lor r.perr (2 ^ i) }
    s.suspect n group

def execVtParityMismatch (stair group : Nat) (found : VtSeg) (s : State) : Host.Outcome State Fault Refusal :=
  .next (if found.seg = 1 ∨ found.seg = 2 then s.vtParity stair group found.toB else s)
def execWalkingPatternTest (stair : Nat) (s : State) : Host.Outcome State Fault Refusal := .next (s.walkTest stair)
def execRepairOutcome (stair : Nat) (failing : List (Nat × Nat)) (s : State) : Host.Outcome State Fault Refusal :=
  .next (s.repairOutcome stair failing)
def execRepairSamplingResume (stair : Nat) (s : State) : Host.Outcome State Fault Refusal := .next (s.repairResume stair)

end Sys2Proof.Machine
end

