-- ==== Sys2Proof/Machine/Protect.lean ====
section
/-!
DEFINITION. Stored-data protection (R128–R139): the mowing round, copy passes, checker test mode, the error log.
-/
namespace Sys2Proof.Machine

/-! ### The mowing round -/

/-- Key of a store in the round's tables: banks 0–511, plane stores 512 + 4·room + plane. -/
def MowStore.key : MowStore → Nat
  | .bank b => b
  | .plane n p => 512 + 4 * n + p
/-- First address of row `row` of a store. -/
def MowStore.rowAddr (m : MowStore) (row : Nat) : Nat :=
  match m with | .bank b => bankRow b row | .plane n p => landing n p row
def MowStore.rows : MowStore → Nat
  | .bank _ => 8192
  | .plane _ _ => 2712

/-- Whether the round visits a store now (R128, R129). -/
def State.mowable (s : State) : MowStore → Bool
  | .bank b => !s.fallowBank b && !s.inCtm b && s.f Fld.LB_PWR_PSTATE b = 0 && s.f Fld.LB_STATUS_WIPE_BUSY b = 0
  | .plane n p => 2 ≤ s.planeState n p
def State.mowWaits (s : State) : MowStore → Bool
  | .bank b => s.paused (bankStair b)
  | .plane n _ => s.paused n || (s.room n).ld.isSome || (s.stair n).slice.isSome

/-- Every store. -/
def allStores : List MowStore :=
  banks512.map MowStore.bank ++ (rooms128.flatMap fun n => (List.range 4).map fun p => MowStore.plane n p)

def State.mowRowOf (s : State) : MowStore → Nat
  | .bank b => (s.bank b).mowRow
  | .plane n p => mget (fun _ => 0) s.mow.planeRow (4 * n + p)
def State.setMowRow (s : State) (m : MowStore) (row : Nat) : State :=
  match m with
  | .bank b => s.updBank b fun k => { k with mowRow := row }
  | .plane n p => s.updMow fun q => { q with planeRow := mput (fun _ => 0) q.planeRow (4 * n + p) row }

/-- Count a round when every store that is visited has wrapped (R129, R131). DESIGN CHOICE (log entry 145): ROUNDS counts as the last
store that is visited at that moment wraps or is wiped; a store that leaves the round later completes none. -/
def State.roundCheck (s : State) : State :=
  if allStores.all fun m => !s.mowable m || s.mow.fresh.contains m.key then
    (s.incW Fld.EC_MOW_STATUS_ROUNDS 0).updMow fun q => { q with fresh := [], roundsHere := q.roundsHere + 1 }
  else s

/-- MOWING_ROW_VISIT: the store's next row is due; its 32 scrub accesses are issued (R128, R129). `scrubs` holds
33 · row + words left. -/
def State.mowVisit (s : State) (m : MowStore) : State :=
  if s.f Fld.EC_STATUS_MOW_RUNNING = 0 ∨ !s.mowable m ∨ s.mowWaits m ∨ mget (fun _ => 0) s.mow.scrubs m.key ≠ 0 then s
  else
    let row := s.mowRowOf m
    let next := (row + 1) % m.rows
    let s := s.updMow fun q => { q with scrubs := mput (fun _ => 0) q.scrubs m.key (33 * row + 32) }
    let s := s.setMowRow m next
    if next = 0 then
      (s.updMow fun q => { q with fresh := if q.fresh.contains m.key then q.fresh else q.fresh ++ [m.key] }).roundCheck
    else s

/-- What a scrub does with one word (R128), and a copy pass with a word of its row (R133): corrected data written back,
an uncorrectable word stored as poison, a books fault in the scheduler's reservation (R39). `src` is the log's SOURCE. -/
def State.scrubWord (s : State) (a src : Nat) : State :=
  match classify (s.syn (s.phys a)) with
  | .clean | .poison => s
  | .ue =>
    let s := (s.noteWord a src).storePoison a src
    if s.reserved (a / 0x800000) then s.booksFault 9 0 0 else s
  | _ =>
    let (d, _) := s.decoded a
    let s := s.noteWord a src
    let s := (s.putBytes (s.phys a) d).setSyn (s.phys a) 0
    if src = 2 then s.hazard 1 a 0 else s

/-- The stair of a store. -/
def MowStore.stair : MowStore → Nat
  | .bank b => bankStair b
  | .plane n _ => n
/-- Whether a scrub of the word at a writes it back (R128). -/
def State.scrubWrites (s : State) (a : Nat) : Bool :=
  match classify (s.syn (s.phys a)) with | .clean | .poison => false | _ => true
/-- The row move of this cycle that a scrub access of a bank collides with (R101): `same` says that it falls in the cycle of
the stair's last row move. -/
def State.scrubMeets (s : State) (m : MowStore) (a : Nat) (same : Bool) : Option LastMove :=
  match m with
  | .bank b => if same then s.collides (bankStair b) b (a / 1024 % 8192) (s.scrubWrites a) else none
  | .plane _ _ => none
/-- Whether a scrub access of a bank loses its single-port bank to the row port (R99). -/
def State.scrubLoses (s : State) (m : MowStore) (same : Bool) : Bool :=
  match m with
  | .bank b => s.laneLoses (bankStair b) b same
  | .plane _ _ => false
/-- Whether it is a scrub access's turn at the service lane of its stair (R97): no access waits in its bank's own queue or in one
that the lane samples before it. DESIGN CHOICE (log entry 150): a scrub access stands behind what waits in its bank's queue. -/
def State.scrubTurn (s : State) (m : MowStore) : Bool :=
  match m with
  | .bank b =>
    let t := (s.stair (bankStair b)).turn
    let d := (b / 128 + 4 - t) % 4
    (List.range (d + 1)).all fun j => (s.nextAcc (128 * ((t + j) % 4) + bankStair b)).isNone
  | .plane _ _ => true

/-- A scrub access at its arbiter (R128): BUSY in a collision, and repeated (R101–R103); poisoned by a control group, it does
nothing (R458). `v` is the store's 33 · row + words left. -/
def State.scrubOne (s : State) (m : MowStore) (v : Nat) (same : Bool) (l : List Crossing) : State :=
  let left := v % 33
  let a := m.rowAddr (v / 33) + 32 * (32 - left)
  match s.scrubMeets m a same with
  | some x => (s.busyPair m.stair x.bank x).carry m.stair l
  | none =>
    let s := s.updMow fun q => { q with scrubs := mput (fun _ => 0) q.scrubs m.key (if left = 1 then 0 else v - 1) }
    let s := match m with
      | .bank b => (s.updBank b fun k => { k with loss := 0 }).updStair m.stair fun t => { t with turn := (b / 128 + 1) % 4 }
      | .plane _ _ => s
    let hit := match m with | .bank _ => laneHit l | .plane _ _ => hitBy l 313 314
    (if hit then s else s.scrubWord a 2).carry m.stair l

/-- SCRUB_ACCESS: the next scrub access of a store's row (R128), that of a bank in the service lane's turn (R13, R97). A store that is skipped, or a round that has stopped, keeps
its position (R129, R130). -/
def State.scrub (s : State) (m : MowStore) (same : Bool) (l : List Crossing) : State :=
  let v := mget (fun _ => 0) s.mow.scrubs m.key
  if v % 33 = 0 ∨ s.f Fld.EC_STATUS_MOW_RUNNING = 0 ∨ s.mowWaits m ∨ !s.mowable m ∨ !s.scrubTurn m then s
  else if s.scrubLoses m same then
    match m with | .bank b => s.updBank b fun k => { k with loss := k.loss + 1 } | .plane _ _ => s
  else s.scrubOne m v same l

/-- The period of the round in ms, with MOW_FAST (Table 06-6). -/
def State.setPeriod (s : State) (ms : Nat) : State :=
  (s.setF Fld.EC_MOW_PERIOD_PERIOD_MS 0 ms).setF Fld.EC_STATUS_MOW_FAST 0
    (if ms < 1000 * s.f Fld.EC_MOW_CFG_BASE_S then 1 else 0)

/-- MOWING_WINDOW: the end of a 1 s window adapts the period (R131). -/
def State.mowWindow (s : State) : State :=
  if !s.mow.started then s
  else
    let ce := s.mow.ceWindow
    let p := s.f Fld.EC_MOW_PERIOD_PERIOD_MS
    let th := s.f Fld.EC_MOW_CFG_THRESH
    let p' := if th < ce then max (p / 2) 2000
      else if ce ≤ th / 4 ∧ 1 ≤ s.mow.roundsHere then min (p * 2) (1000 * s.f Fld.EC_MOW_CFG_BASE_S) else p
    let s := s.setF Fld.EC_MOW_STATUS_CE_WINDOW 0 (min ce 65535)
    let s := s.updMow fun q => { q with ceWindow := 0, roundsHere := if p' = p then q.roundsHere else 0 }
    s.setPeriod p'

/-- Whether the round runs (R130). -/
def State.mowRunnable (s : State) : Bool :=
  s.mow.started && s.f Fld.EC_MOW_CFG_ENABLE = 1 && s.f Fld.EC_STATUS_MOW_SHED = 0 && !s.safe && !s.resuming &&
    s.rpState != 4
def State.mowRefresh (s : State) : State := s.setF Fld.EC_STATUS_MOW_RUNNING 0 (if s.mowRunnable then 1 else 0)
/-- The first start of the round (R129), and its fresh start in the origin sequence. -/
def State.mowStart (s : State) : State :=
  let s := s.updMow fun _ => { started := true }
  let s := s.each banks512 fun s b => s.updBank b fun k => { k with mowRow := 0 }
  (s.setPeriod (1000 * s.f Fld.EC_MOW_CFG_BASE_S)).mowRefresh

/-! ### Copy passes -/

/-- COPY_PASS_ROW: one row of the bank's first pass rewritten through the arbiter's decoder (R133). DESIGN CHOICE (log entry 146): the
passes of one bank run one after the other, and COPYING reads 1 for one that waits. -/
def State.copyRow (s : State) (b : Nat) : State :=
  match (s.bank b).copy with
  | [] => s
  | (sp, row) :: rest =>
    if s.safe || s.resuming || s.f Fld.LB_PWR_PSTATE b != 0 || s.f Fld.LB_STATUS_WIPE_BUSY b = 1 then s
    else
      let s := s.each (List.range 32) fun s w => s.scrubWord (bankRow b row + 32 * w) 3
      s.updBank b fun k => { k with copy := if row = 8191 then rest else (sp, row + 1) :: rest }

/-! ### Checker test mode -/

/-- Status of an entry (R134): 0 accepted. -/
def State.ctmStatus (s : State) (b : Nat) : Nat :=
  if s.f Fld.LC_DEBUG_LEVEL ≠ 2 then 4
  else if s.owner b ≠ { kind := 3, id := 0 } then 4
  else if s.fallowBank b then 4
  else if s.f Fld.LB_PWR_PSTATE b ≠ 0 then 5
  else if s.f Fld.EC_STATUS_CTM_ACTIVE = 1 ∧ !s.inCtm b then 2
  else 0

/-- Enter checker test mode (R134); a slice on the bank ends first (Table 16-9). -/
def State.ctmEnter (s : State) (b raw : Nat) : State :=
  let s := s.setF Fld.EC_CTM_CTRL_RAW_READ 0 raw
  let s := s.setF Fld.EC_CTM_CTRL_BANK 0 b
  let s := (s.setF Fld.EC_STATUS_CTM_ACTIVE 0 1).setF Fld.EP_STATUS_CTM_ACTIVE 0 1
  if s.sliceOn b then s.updBank b fun k => { k with ctmWait := true }
  else s.setF Fld.EC_CTM_CTRL_ENABLE 0 1

/-- A write of EC_CTM_CTRL with ENABLE = 1: status and state. While the mode is active BANK is ignored (R139). -/
def State.ctmAsk (s : State) (b raw : Nat) : Nat × State :=
  let st := s.ctmStatus b
  if st ≠ 0 then (st, s.setF Fld.EC_STATUS_CTM_REFUSED 0 1) else (0, s.ctmEnter b raw)

/-- A write of EC_CTM_CTRL (R134, R139): its RW fields, then an entry or an exit. -/
def State.writeCtm (s : State) (v : Nat) : State :=
  let on : Bool := s.f Fld.EC_CTM_CTRL_ENABLE = 1 || s.ctmWaits
  let s := s.setF Fld.EC_CTM_CTRL_RAW_READ 0 (bit v 30)
  let s := if on then s else s.setF Fld.EC_CTM_CTRL_BANK 0 (bits v 8 0)
  if bit v 31 = 0 then s.ctmLeave
  else if on then s
  else (s.ctmAsk (bits v 8 0) (bit v 30)).2

/-! ### Meanings -/

def execMowingRowVisit (store : MowStore) (s : State) : Host.Outcome State Fault Refusal := .next (s.mowVisit store)
def execScrubAccess (visit : ScrubVisit) (s : State) : Host.Outcome State Fault Refusal :=
  .next (s.scrub visit.store visit.sameCycle visit.crossing)
def execMowingWindow (s : State) : Host.Outcome State Fault Refusal := .next s.mowWindow
def execCopyPassRow (bank : Nat) (s : State) : Host.Outcome State Fault Refusal := .next (s.copyRow bank)
/-- CHECKER_TEST_MODE_ENTRY: a write of EC_CTM_CTRL with ENABLE = 1. -/
def execCheckerTestModeEntry (value : Nat) (s : State) : Host.Outcome State Fault Refusal :=
  .next (if bit value 31 = 0 then s else s.writeCtm value)
/-- CHECKER_TEST_MODE_EXIT: a write of EC_CTM_CTRL with ENABLE = 0. -/
def execCheckerTestModeExit (value : Nat) (s : State) : Host.Outcome State Fault Refusal :=
  .next (if bit value 31 = 1 then s else s.writeCtm value)
/-- EC_LOG_POP: remove the head entry (R138). -/
def execEcLogPop (s : State) : Host.Outcome State Fault Refusal := .next { s with ecLog := s.ecLog.drop 1 }

/-- CHECKER_MODE (R135). DESIGN CHOICE (log entry 147): ENABLE 0 for a bank that is not in the mode answers OK and does nothing. -/
def execCheckerMode (h : CmdHdr) (bank enable rawRead : Nat) (s : State) : Host.Outcome State Fault Refusal :=
  .next (s.submit h 0x0B10 .r (argBytes [(6, 2, bank), (8, 1, enable), (9, 1, rawRead)]) fun s =>
    s.checks h [(512 ≤ bank, 3), (2 ≤ enable, 3), (2 ≤ rawRead, 3)] fun s =>
      if enable = 1 then
        let (st, s') := s.ctmAsk bank rawRead
        if st = 0 ∧ (s'.bank bank).ctmWait then s'.updBank bank fun k => { k with ctmIn := k.ctmIn ++ [h.ref] }
        else s'.reply h st
      else if s.inCtm bank || (s.bank bank).ctmWait then (s.ctmLeave).updBank bank fun k => { k with ctmOut := k.ctmOut ++ [h.ref] }
      else s.reply h 0)

/-- An error-log entry as EC_LOG_READ gives it: address (6 bytes), INFO, SYND. -/
def LogEntry.bytes (e : LogEntry) : List Byte :=
  leBytes 4 e.w0.toNat ++ leBytes 2 e.w1.toNat ++ leBytes 4 e.w2.toNat ++ leBytes 4 e.w3.toNat
/-- EC_LOG_READ: return and remove up to 4 entries (R135). -/
def execEcLogRead (h : CmdHdr) (s : State) : Host.Outcome State Fault Refusal :=
  .next (s.submit h 0x0B11 .s [] fun s =>
    let l := s.ecLog.take 4
    let s : State := { s with ecLog := s.ecLog.drop 4 }
    s.replyData h (fit 0 4 (leBytes 1 l.length) ++ (l.map LogEntry.bytes).flatten))

end Sys2Proof.Machine
end

