-- ==== Sys2Proof/Machine/SchedTab.lean ====
section
/-!
DEFINITION. The scheduler's tables (R172–R181, R190–R193): templates, descriptors and their stored form, the matching
store, flows, ordered groups, delay lists, and the handling of one token record.
-/
namespace Sys2Proof.Machine

/-! ### Templates, sizes, regions -/

/-- Word i of a template, image ID, location entry. -/
def State.tpl (s : State) (t : Nat) (F : Field) (i : Nat) : Nat := F.get (s.raw (tplKey t i))
def State.tplValid (s : State) (t : Nat) : Bool := s.tpl t Fld.SC_TPL_DATA_0_VALID 0 = 1
def State.tplNops (s : State) (t : Nat) : Nat := s.tpl t Fld.SC_TPL_DATA_0_NOPS 0
def State.tplEngine (s : State) (t : Nat) : Bool := s.tpl t Fld.SC_TPL_DATA_0_KIND 0 = 1
def State.tplList (s : State) (t : Nat) : Nat := s.tpl t Fld.SC_TPL_DATA_0_LIST 0
def State.tplTarget (s : State) (t : Nat) : Nat := s.tpl t Fld.SC_TPL_DATA_1_TARGET 1
def State.tplClusters (s : State) (t : Nat) : Nat := s.tpl t Fld.SC_TPL_DATA_2_CLUSTERS 2
def State.tplDelay (s : State) (t : Nat) : Nat := s.tpl t Fld.SC_TPL_DATA_3_DELAY 3
/-- The flow of an instance (R174). -/
def State.flowOf (s : State) (t instNo : Nat) : Nat :=
  s.tpl t Fld.SC_TPL_DATA_0_FLOW_BASE 0 + instNo % 2 ^ s.tpl t Fld.SC_TPL_DATA_1_FLOW_LOG2 1

/-- ENABLE in effect and the stack not in the safe state. -/
def State.schedOn (s : State) : Bool := s.f Fld.SC_CFG_ENABLE = 1 && s.gateOpen 4 0 && !s.safe
/-- The pools are frozen by a commit, or the scheduler waits for RESUME (R24, R196). -/
def State.schedHeld (s : State) : Bool := s.f Fld.EP_STATUS_FROZEN = 1 || s.resuming
/-- Descriptors of the meadow (R175). -/
def State.meadowP (s : State) : Nat := 2 ^ s.f Fld.SC_SIZE_MEADOW_LOG2
/-- Descriptors that tasks may use (R177). -/
def State.taskP (s : State) : Nat := s.meadowP - 4096

/-- Banks of the three regions (R195). -/
def meadowBanks (m : Nat) : Nat := 2 ^ (m - 17)
def matchBanks (m : Nat) : Nat := 2 ^ (m - 18)
def flowBanks (m : Nat) : Nat := 2 ^ (m - 19)
def resBanks (meadow matching flow : Nat) : Nat := meadowBanks meadow + matchBanks matching + flowBanks flow
/-- Address of descriptor i (R176). -/
def State.descAddr (s : State) (i : Nat) : Nat := 0x800000 * (s.f Fld.SC_RES_FIRST + i / 131072) + i % 131072 * 64
def State.matchAddr (s : State) (set : Nat) : Nat :=
  0x800000 * (s.f Fld.SC_RES_FIRST + meadowBanks (s.f Fld.SC_SIZE_MEADOW_LOG2)) + 256 * set
def State.flowAddr (s : State) (f : Nat) : Nat :=
  (s.f Fld.SC_RES_FIRST + meadowBanks (s.f Fld.SC_SIZE_MEADOW_LOG2) + matchBanks (s.f Fld.SC_SIZE_MATCH_LOG2)) *
    0x800000 + 16 * f

/-- Write bytes of the scheduler's storage: posted packets of endpoint 544, of which at most 1,024 are outstanding (R16, R177). -/
def State.schedStore (s : State) (a : Nat) (d : List Byte) : State := s.postSpan 544 a d
/-- Whether a whole word is being written by a packet that is not answered yet, which the scheduler then reads from. -/
def State.rewriting (s : State) (a : Nat) : Bool :=
  (s.posts 544 ++ s.posted 544).any fun p => p.type == 1 && p.addr ≤ a && a + 32 ≤ p.addr + p.len + 1
/-- A stored word that book-keeping cannot use (R39): uncorrectable or poisoned. -/
def State.badWord (s : State) (a : Nat) : Bool :=
  !s.rewriting a && match classify (s.syn (s.phys a)) with | .ue | .poison => true | _ => false

/-! ### Descriptors -/

def State.desc (s : State) (i : Nat) : Desc := mget (fun _ => {}) s.sched.descs i

/-- A result record as it is stored (R179). -/
def TokRec.bytes (r : TokRec) : List Byte := leBytes 8 r.tag ++ leBytes 4 r.value

/-- The stored form of a descriptor (Table 08-2). -/
def Desc.bytes (d : Desc) : List Byte :=
  let w0 := (if d.complete then 2 ^ 31 else 0) + 2 ^ 28 * d.state + 2 ^ 20 * d.amask + 2 ^ 12 * d.pmask + d.tmpl
  let w1 := 2 ^ 29 * d.recs.length + d.flow
  let head := leBytes 4 w0 ++ leBytes 4 w1 ++ leBytes 4 d.link ++ leBytes 4 d.seq
  if d.complete then head ++ fit 0 48 (d.recs.map TokRec.bytes).flatten
  else
    let q := if d.state = 1 then d.key else if d.state = 3 then d.expiry else if d.state = 4 then d.worker else 0
    head ++ leBytes 8 q ++ leBytes 8 0 ++ ((List.range 8).map fun k => leBytes 4 (nth d.ops k)).flatten

/-- Store a descriptor in the table and, by a posted write, in its place in the loft. -/
def State.setDesc (s : State) (i : Nat) (d : Desc) : State :=
  (s.updSched fun q => { q with descs := mput (fun _ => {}) q.descs i d }).schedStore (s.descAddr i) d.bytes
def State.updDesc (s : State) (i : Nat) (g : Desc → Desc) : State := s.setDesc i (g (s.desc i))
/-- Note the next descriptor of a list in a descriptor's LINK (log entry 20). -/
def State.linkTo (s : State) (prev : Option Nat) (i : Nat) : State :=
  match prev with | some p => s.updDesc p fun d => { d with link := i } | none => s
/-- The entry before i in a list. -/
def prevIn : List Nat → Nat → Option Nat
  | a :: b :: t, i => if b = i then some a else prevIn (b :: t) i
  | _, _ => none
/-- What follows i in a list, 0 where nothing does. -/
def nextIn : List Nat → Nat → Nat
  | a :: t, i => if a = i then t.headD 0 else nextIn t i
  | [], _ => 0
/-- A descriptor leaves a list: the one before it names the one after it (R176). -/
def State.unlinkFrom (s : State) (l : List Nat) (i : Nat) : State := s.linkTo (prevIn l i) (nextIn l i)
/-- Whether a descriptor's stored words are bad (R39). -/
def State.descBad (s : State) (i : Nat) : Bool := s.badWord (s.descAddr i) || s.badWord (s.descAddr i + 32)

/-- Descriptors in a state, other than FREE; one inside a pipe at the freeze of a commit counts in EP_ESC_COMMIT (R196). -/
def State.countState (s : State) (st : Nat) : Nat :=
  (s.sched.descs.filter fun (e : Nat × Desc) => e.2.state == st && !s.sched.inPipe.contains e.1).length
/-- SC_MEADOW[st] (R200). -/
def State.meadowCount (s : State) (st : Nat) : Nat :=
  if st = 0 then
    (if s.sched.inited then s.sched.freed.length + (s.taskP - s.sched.freshIdx) + 4096 else 0)
  else s.countState st

/-- The descriptor at the head of the free list (R175). -/
def State.freeHead (s : State) : Option Nat :=
  match s.sched.freed with
  | i :: _ => some i
  | [] => if s.sched.inited && s.sched.freshIdx < s.taskP then some s.sched.freshIdx else none
/-- Take it off the list. -/
def State.takeFree (s : State) : State :=
  s.updSched fun q => match q.freed with
    | _ :: t => { q with freed := t }
    | [] => { q with freshIdx := q.freshIdx + 1 }
/-- A descriptor becomes FREE at the head of the list. -/
def State.freeDesc (s : State) (i : Nat) : State :=
  let next := s.freeHead
  let s := s.schedStore (s.descAddr i) ({ link := next.getD 0 } : Desc).bytes
  s.updSched fun q => { q with descs := mdel q.descs i, freed := i :: q.freed }

/-- Every descriptor available to tasks in ascending order (R175). -/
def State.meadowInit (s : State) : State :=
  s.updSched fun q => { q with inited := true, freed := [], freshIdx := 0, descs := [], mtab := [], mways := [], mcache := [] }
/-- The stored form of a meadow just initialised: each free descriptor names the next, and every match entry is free (R176, R181). -/
def State.meadowStore (s : State) : State :=
  let s := s.each (List.range s.meadowP) fun s i =>
    s.schedStore (s.descAddr i) ({ link := if i + 1 < s.taskP then i + 1 else 0 } : Desc).bytes
  s.each (List.range (2 ^ s.f Fld.SC_SIZE_MATCH_LOG2)) fun s k => s.schedStore (s.matchAddr 0 + 32 * k) (fit 0 32 Config.matchFree)

/-! ### Matching store -/

/-- The set of a key (R181). -/
def State.matchSet (s : State) (key : Nat) : Nat :=
  Nat.xor (Nat.xor key (key / 2 ^ 20)) (key / 2 ^ 40) % 2 ^ (s.f Fld.SC_SIZE_MATCH_LOG2 - 3)
/-- The descriptor that a key's match entry names. -/
def State.matchOf (s : State) (key : Nat) : Option Nat :=
  match mget (fun _ => 0) s.sched.mtab key with | 0 => none | d + 1 => some d
/-- Whether a key's set holds eight entries. -/
def State.setFull (s : State) (key : Nat) : Bool :=
  8 ≤ (s.sched.mtab.filter fun (e : Nat × Nat) => s.matchSet e.1 == s.matchSet key).length
/-- Whether a word of a key's set in the loft is bad (R39). -/
def State.setBad (s : State) (key : Nat) : Bool :=
  (List.range 8).any fun k => s.badWord (s.matchAddr (s.matchSet key) + 32 * k)
/-- Whether the look-up of a key finds its set in the cache (R181). -/
def State.inCache (s : State) (key : Nat) : Bool := s.sched.mcache.contains (s.matchSet key)
/-- A set read from the loft goes into the cache of 8,192 sets; which one gives way is open (log entry 123). -/
def State.cacheMatch (s : State) (set : Nat) : State :=
  let l := s.sched.mcache
  let s := s.odClear (.matchSet set)
  if l.contains set then s
  else if l.length < 8192 then s.updSched fun q => { q with mcache := set :: l }
  else (s.updSched fun q => { q with mcache := set :: l.eraseIdx ((Config.freeWord s.fresh).toNat % 8192) }).drawn
/-- A miss adds a 256-byte service read of the set (R98, R181), one at a time for each set. -/
def State.fetchSet (s : State) (key : Nat) : State :=
  let a := s.matchAddr (s.matchSet key)
  if (s.posts 544 ++ s.posted 544).any fun p => p.type == 0 && p.addr == a then s
  else s.sendPost 544 (mkReq s 0 544 0 (a + 2 ^ 48 * s.node) 255 [])
/-- Address of place k in a key's set. -/
def State.entryAddr (s : State) (key k : Nat) : Nat := s.matchAddr (s.matchSet key) + 32 * k
/-- The lowest free place of a key's set (the model's choice, log entry 123). -/
def State.freeWay (s : State) (key : Nat) : Nat :=
  ((List.range 8).find? fun k => !(s.sched.mways.any fun (e : Nat × Nat) => e.2 == k + 1 && s.matchSet e.1 == s.matchSet key)).getD 0
/-- A match entry is made; the cache writes it through to the loft (R181). -/
def State.putMatch (s : State) (key i : Nat) : State :=
  let k := s.freeWay key
  (s.updSched fun q => { q with
    mtab := mput (fun _ => 0) q.mtab key (i + 1), mways := mput (fun _ => 0) q.mways key (k + 1) }).schedStore
    (s.entryAddr key k) (fit 0 32 (Config.matchEntry key i))
/-- A match entry is freed. -/
def State.dropMatch (s : State) (key : Nat) : State :=
  let k := mget (fun _ => 0) s.sched.mways key
  let s := s.updSched fun q => { q with mtab := mdel q.mtab key, mways := mdel q.mways key }
  if k = 0 then s else s.schedStore (s.entryAddr key (k - 1)) (fit 0 32 Config.matchFree)

/-! ### Flows -/

def State.flow (s : State) (f : Nat) : Flow := mget (fun _ => {}) s.sched.flows f
/-- A flow context (Table 08-5). -/
def Flow.bytes (f : Flow) : List Byte :=
  let v := (if f.busy then 2 ^ 127 else 0) + (if f.lastValid then 2 ^ 126 else 0) + 2 ^ 124 * f.prio +
    (if f.grouped then 2 ^ 123 else 0) + 2 ^ 107 * f.group + 2 ^ 97 * f.last + 2 ^ 32 * f.queue.headD 0 +
    f.queue.getLastD 0
  leBytes 16 v
def State.setFlow (s : State) (f : Nat) (c : Flow) : State :=
  (s.updSched fun q => { q with flows := mput (fun _ => {}) q.flows f c }).schedStore (s.flowAddr f) c.bytes
/-- Whether a flow context's stored word is bad (R39). -/
def State.flowBad (s : State) (f : Nat) : Bool := s.badWord (s.flowAddr f)
def State.updFlow (s : State) (f : Nat) (g : Flow → Flow) : State := s.setFlow f (g (s.flow f))

def State.pipe (s : State) (p : Nat) : Pipe := mget (fun _ => {}) s.sched.pipes p
def State.updPipe (s : State) (p : Nat) (g : Pipe → Pipe) : State :=
  s.updSched fun q => { q with pipes := mupd (fun _ => {}) q.pipes p g }
def Pipe.list (p : Pipe) (prio : Nat) : List Nat := mget (fun _ => []) p.ready prio
def Pipe.setList (p : Pipe) (prio : Nat) (l : List Nat) : Pipe := { p with ready := mput (fun _ => []) p.ready prio l }

/-- Put a flow on the ready list of its pipe and priority when R182's three conditions hold. -/
def State.listFlow (s : State) (f : Nat) : State :=
  let c := s.flow f
  if c.busy || c.queue.isEmpty || ((s.pipe (f % 4)).list c.prio).contains f then s
  else s.updPipe (f % 4) fun p => p.setList c.prio (p.list c.prio ++ [f])

/-- An admitted READY descriptor joins its flow's queue (R190). -/
def State.joinFlow (s : State) (i : Nat) (link : Bool) : State :=
  let f := (s.desc i).flow
  let s := if link then s.linkTo (s.flow f).queue.getLast? i else s
  (s.updFlow f fun c => { c with queue := c.queue ++ [i] }).listFlow f

/-! ### Ordered groups -/

def State.grp (s : State) (g : Nat) : Grp := mget (fun _ => {}) s.sched.groups g
def State.updGrp (s : State) (g : Nat) (h : Grp → Grp) : State :=
  s.updSched fun q => { q with groups := mupd (fun _ => {}) q.groups g h }

/-- Admission (R191): the next sequence number, the admission list, the flow's queue. -/
def State.admitTask (s : State) (g i : Nat) : State :=
  let n := (s.grp g).nextSeq
  let s := s.linkTo (s.grp g).admitted.getLast? i
  let s := s.updDesc i fun d => { d with seq := n }
  let s := s.updGrp g fun q => { q with nextSeq := (q.nextSeq + 1) % 2 ^ 32, admitted := q.admitted ++ [i], out := q.out + 1 }
  s.joinFlow i false

/-- A descriptor becomes READY (R182, R191). -/
def State.makeReady (s : State) (i : Nat) : State :=
  let s := s.updDesc i fun d => { d with state := 2 }
  let c := s.flow (s.desc i).flow
  if c.grouped then
    if (s.grp c.group).window ≤ (s.grp c.group).out then
      (s.linkTo (s.grp c.group).overflow.getLast? i).updGrp c.group fun q => { q with overflow := q.overflow ++ [i] }
    else s.admitTask c.group i
  else s.joinFlow i true

/-- Whether a bad word stands in the way of a descriptor of flow f becoming READY (R39): the flow context, or the last
descriptor of the list that it joins. -/
def State.readyBad (s : State) (f : Nat) : Bool :=
  let c := s.flow f
  let tails : List (Option Nat) :=
    if !c.grouped then [c.queue.getLast?]
    else if (s.grp c.group).window ≤ (s.grp c.group).out then [(s.grp c.group).overflow.getLast?]
    else [(s.grp c.group).admitted.getLast?]
  s.flowBad f || tails.any fun t => t.any s.descBad

/-- Room made by a release is given to the oldest waiting descriptor (R191). -/
def State.admitOverflow (s : State) (g : Nat) : State :=
  match (s.grp g).overflow with
  | i :: t =>
    if (s.grp g).out < (s.grp g).window then
      (if s.descBad i || s.readyBad (s.desc i).flow then s.booksFault 9 0 0
      else (s.updGrp g fun q => { q with overflow := t }).admitTask g i)
    else s
  | [] => s

/-- Post the result records of a COMPLETING descriptor (R189): counted as issued once; none frees it at once. -/
def State.post (s : State) (i : Nat) : State :=
  let n := (s.desc i).recs.length
  if n = 0 then s.freeDesc i
  else s.updSched fun q => { q with
    issued := (q.issued + n) % 2 ^ 64, flight := q.flight + n, posting := q.posting ++ [i] }

/-- Release of completed items in order (R191). -/
def State.release : Nat → State → Nat → State
  | 0, s, _ => s
  | fuel + 1, s, g =>
    match (s.grp g).admitted with
    | i :: t =>
      if s.descBad i then s.booksFault 9 0 0
      else if (s.desc i).complete then
        let s := s.updGrp g fun q => { q with admitted := t, out := q.out - 1 }
        State.release fuel ((s.post i).admitOverflow g) g
      else s
    | [] => s

/-! ### Delay lists -/

def State.delay (s : State) (l : Nat) : DelayList := mget (fun _ => {}) s.sched.delays l
def State.updDelay (s : State) (l : Nat) (g : DelayList → DelayList) : State :=
  s.updSched fun q => { q with delays := mupd (fun _ => {}) q.delays l g }
/-- The most descriptors DELAYED at once (R192). -/
def State.delayRoom (s : State) : Bool := s.countState 3 < min 262144 (s.meadowP / 8)

/-- Begin an insertion: at the tail at once, or a walk from the head (R192). -/
def State.insertDelay (s : State) (l expiry i : Nat) : State :=
  let d := s.delay l
  match d.items.getLast? with
  | none => s.updDelay l fun d => { d with items := [(expiry, i)] }
  | some (e, j) =>
    if e ≤ expiry then (s.linkTo (some j) i).updDelay l fun d => { d with items := d.items ++ [(expiry, i)] }
    else s.updDelay l fun d => { d with walk := some (expiry, i, 0) }

/-- A complete instance goes on its template's delay list (R192); while a walk runs it waits. -/
def State.makeDelayed (s : State) (i : Nat) : State :=
  let t := (s.desc i).tmpl
  let e := s.sched.tick + s.tplDelay t
  let s := s.updDesc i fun d => { d with state := 3, expiry := e }
  let l := s.tplList t
  if (s.delay l).walk.isSome || !(s.delay l).waiting.isEmpty then
    s.updDelay l fun d => { d with waiting := d.waiting ++ [(e, i)] }
  else s.insertDelay l e i

/-- Whether the delay list's tail, at which a descriptor with expiry e would join, is bad (R39). -/
def State.delayBad (s : State) (l : Nat) : Bool := ((s.delay l).items.getLast?).any fun x => s.descBad x.2
/-- The descriptors that the next step of a walk meets: the one inserted, the one reached and the one before it. -/
def DelayList.met (d : DelayList) : List Nat :=
  match d.walk with
  | some (_, i, k) => i :: ((d.items.drop (k - 1)).take 2).map (·.2)
  | none => (d.waiting.take 1).map (·.2) ++ (d.items.getLast?.map (·.2)).toList
/-- One descriptor of a walk, or the start of the next waiting insertion (R192); a bad word that it meets is a books fault (R39). -/
def State.delayWalk (s : State) (l : Nat) : State :=
  let d := s.delay l
  if d.met.any s.descBad then s.booksFault 9 0 0
  else match d.walk with
  | some (e, i, k) =>
    match d.items[k]? with
    | some (x, _) =>
      if x ≤ e then s.updDelay l fun d => { d with walk := some (e, i, k + 1) }
      else
        let s := s.linkTo (if k = 0 then none else d.items[k - 1]?.map (·.2)) i
        let s := s.linkTo (some i) ((d.items[k]?.map (·.2)).getD 0)
        s.updDelay l fun d => { d with items := d.items.take k ++ [(e, i)] ++ d.items.drop k, walk := none }
    | none => (s.linkTo (d.items.getLast?.map (·.2)) i).updDelay l fun d => { d with items := d.items ++ [(e, i)], walk := none }
  | none =>
    match d.waiting with
    | (e, i) :: t => (s.updDelay l fun d => { d with waiting := t }).insertDelay l e i
    | [] => s

/-- The head of a list whose expiry has come becomes READY (R193). -/
def State.delayExpire (s : State) (l : Nat) : State :=
  match (s.delay l).items with
  | (e, i) :: t =>
    if e ≤ s.sched.tick && !s.safe && !s.schedHeld then
      if s.descBad i || s.readyBad (s.desc i).flow then s.booksFault 9 0 0
      else (s.updDelay l fun d => { d with items := t, walk := d.walk.map fun w => (w.1, w.2.1, w.2.2 - 1) }).makeReady i
    else s
  | [] => s

/-! ### One token record -/

/-- A refused record: counted with its cause, and matched (Table 08-3). -/
def State.refuseRec (s : State) (cause : Nat) : State :=
  let s := (s.inc Fld.SC_REFUSE_COUNT_COUNT 0).setF Fld.SC_STATUS_REFUSED 0 1
  let s := s.setF Fld.SC_STATUS_CAUSE 0 cause
  s.updSched fun q => { q with flight := q.flight - 1, matched := (q.matched + 1) % 2 ^ 64 }

/-- A complete instance becomes READY or DELAYED; its n held records and this one are matched. -/
def State.completeInst (s : State) (i n : Nat) : State :=
  let s := s.updSched fun q => { q with flight := q.flight - 1, held := q.held - n, matched := (q.matched + n + 1) % 2 ^ 64 }
  if s.tplDelay (s.desc i).tmpl = 0 then s.makeReady i else s.makeDelayed i

/-- Whether a bad word stands in the way of completing an instance of template t in flow f (R39). -/
def State.completeBad (s : State) (t f : Nat) : Bool :=
  if s.tplDelay t = 0 then s.readyBad f else s.delayBad (s.tplList t)
/-- Fill a slot of a descriptor. -/
def Desc.fill (d : Desc) (slot : Nat) (r : TokRec) : Desc :=
  { d with
    amask := Nat.lor d.amask (2 ^ slot), pmask := if r.poison then Nat.lor d.pmask (2 ^ slot) else d.pmask,
    ops := splice (fit 0 8 d.ops) slot [r.value % 2 ^ 32] }

/-- Whether a record must wait for its key's set, which the cache does not hold (R181). -/
def State.recWaits (s : State) (r : TokRec) : Bool :=
  let t := r.tag / 2 ^ 52 % 4096
  s.schedOn && s.f Fld.SC_STATUS_DRAINING != 1 && s.tplValid t && s.tplNops t != 1 && r.tag % 8 < s.tplNops t &&
    !s.inCache (r.tag / 8 % 2 ^ 61)
/-- The read of that set. -/
def State.recFetch (s : State) (r : TokRec) : State := s.fetchSet (r.tag / 8 % 2 ^ 61)
/-- Handle one token record (Table 08-3): whether it is answered BUSY, and the state. One that comes back from the log (R37) and
misses in the cache goes round as a TOKEN packet while the set is read. -/
def State.handleRec (s : State) (r : TokRec) : Bool × State :=
  let t := r.tag / 2 ^ 52 % 4096
  let slot := r.tag % 8
  let key := r.tag / 8 % 2 ^ 61
  let nops := s.tplNops t
  let delayed : Bool := s.tplDelay t != 0
  if !s.schedOn || s.f Fld.SC_STATUS_DRAINING = 1 then (true, s)
  else if !s.tplValid t then (false, s.refuseRec 1)
  else if nops ≤ slot then (false, s.refuseRec 2)
  else
    let fresh : Desc := { state := 1, tmpl := t, flow := s.flowOf t (key % 2 ^ 49), key := key }
    if nops = 1 then
      match s.freeHead with
      | none => (true, s)
      | some i =>
        if s.descBad i || s.completeBad t fresh.flow then (true, s.booksFault 9 0 0)
        else if delayed && !s.delayRoom then (true, s)
        else (false, ((s.takeFree).setDesc i (fresh.fill slot r)).completeInst i 0)
    else if !s.inCache key then (true, s.fetchSet key)
    else if s.odBad (.matchSet (s.matchSet key)) then (true, s.booksFault 9 0 0)
    else
      match s.matchOf key with
      | none =>
        match s.freeHead with
        | none => (true, s)
        | some i =>
          if s.setFull key then (true, s)
          else if s.descBad i then (true, s.booksFault 9 0 0)
          else
            let s := ((s.takeFree).setDesc i (fresh.fill slot r)).putMatch key i
            (false, s.updSched fun q => { q with flight := q.flight - 1, held := q.held + 1 })
      | some i =>
        let d := s.desc i
        if s.descBad i then (true, s.booksFault 9 0 0)
        else if bit d.amask slot = 1 then (false, s.refuseRec 3)
        else
          let d' := d.fill slot r
          if d'.amask % 2 ^ nops = 2 ^ nops - 1 then
            if s.completeBad d.tmpl d.flow then (true, s.booksFault 9 0 0)
            else if delayed && !s.delayRoom then (true, s)
            else
              let s := s.dropMatch key
              (false, (s.setDesc i d').completeInst i (popc 8 d.amask))
          else
            (false, (s.setDesc i d').updSched fun q => { q with flight := q.flight - 1, held := q.held + 1 })

end Sys2Proof.Machine
end

