-- ==== Sys2Proof/Machine/Sched.lean ====
section
/-!
DEFINITION. The scheduler (R178–R197): tokens and their records, dispatch pipes, dispatches and their responses, DONEs,
result records, delays, pre-emption, the loads it starts, and its commands.
-/
namespace Sys2Proof.Machine

/-! ### TOKEN packets -/

/-- Record k of a TOKEN or DONE payload, with the poison mark of its value (R179). -/
def recOf (p : Packet) (k : Nat) : TokRec :=
  { tag := leNat (slice p.payload (16 + 12 * k) 8), value := leNat (slice p.payload (24 + 12 * k) 4),
    poison := bit p.poison k == 1 }

def State.tokPkt (s : State) (q : Nat) : Option (Packet × Nat × Nat) := mget (fun _ => none) s.sched.tokPkt q
def State.setTok (s : State) (q : Nat) (v : Option (Packet × Nat × Nat)) : State :=
  s.updSched fun c => { c with tokPkt := mput (fun _ => none) c.tokPkt q v }

/-- Answer a TOKEN packet whose records are handled (R179). -/
def State.tokAnswer (s : State) (p : Packet) (mask : Nat) : State :=
  s.inject 544 (answer s p 4 544 (if mask = 0 then 0 else 1) [] mask false)

/-- Ejection link of attachment q. -/
def attachLink (q : Nat) : Nat := 8 * epRouter 544 (q % 4) + 4

/-- A TOKEN packet meets the closed gate of the scheduler: its records count as refused (R180, R331). -/
def State.tokShut (s : State) (p : Packet) : State :=
  (s.updSched fun q => { q with flight := q.flight - tokCount p, matched := (q.matched + tokCount p) % 2 ^ 64 }).refuse p 544 5
/-- TOKEN: an attachment takes the next TOKEN packet from its input buffer (R178, R179). -/
def State.takeToken (s : State) (q : Nat) : State :=
  if s.schedHeld || (s.tokPkt q).isSome then s
  else match s.takeOn [attachLink q] 2 (fun p => p.type == 5 && s.isFor 544 p) with
    | none => s
    | some (p, s) => if s.gateShut 4 0 then s.tokShut p else if tokCount p = 0 then s.tokAnswer p 0 else s.setTok q (some (p, 0, 0))

/-- The command whose TOKEN packet is being handled reaches its commit point (Table 08-8). -/
def State.commitPost (s : State) (p : Packet) : State :=
  if p.srcEp = 546 ∧ p.srcNode = s.node then
    s.updMail fun m => { m with
      inprog := m.inprog.map fun e =>
      if e.opcode == 0x0502 && e.args == [p.tag] then { e with committed := true } else e }
  else s

/-- TOKEN_RECORD: one record of an attachment's packet in a CK_ROW cycle (R178); it waits while its set is read (R181). -/
def State.tokenRecord (s : State) (q : Nat) : State :=
  match s.tokPkt q with
  | none => s
  | some (p, k, mask) =>
    if s.schedHeld then s
    else if s.recWaits (recOf p k) then s.recFetch (recOf p k)
    else
      let s := s.commitPost p
      let (busy, s) := s.handleRec (recOf p k)
      let mask := if busy then mask + 2 ^ k else mask
      if tokCount p ≤ k + 1 then (s.setTok q none).tokAnswer p mask else s.setTok q (some (p, k + 1, mask))

/-! ### Workers -/

/-- The descriptor in service on a worker. -/
def State.inService (s : State) (w : Nat) : Option Nat :=
  (s.sched.descs.find? fun (e : Nat × Desc) => e.2.state == 4 && e.2.worker == w).map (·.1)
def State.taskOn (s : State) (w : Nat) : Bool := (s.inService w).isSome
/-- Bit j of a worker map. -/
def State.mapBit (s : State) (F : Field) (j : Nat) : Bool := bit (s.f F (j / 32)) (j % 32) = 1

/-- Eligibility of engine e for a template's clusters (R183). -/
def State.engOk (s : State) (e clusters : Nat) : Bool :=
  s.mapBit Fld.SC_EMAP_MAP e && bit clusters (e / 16) = 1 && !s.taskOn (512 + e) && s.engState e = 1 &&
    s.f Fld.SC_STATUS_ENG_SHED = 0
/-- Eligibility of plane slot w (R183). -/
def State.slotOk (s : State) (w : Nat) : Bool :=
  s.mapBit Fld.SC_WMAP_MAP w && s.roomState (w / 4) = 0 && !s.taskOn w
/-- Whether slot w holds image img (R184). -/
def State.holds (s : State) (w img : Nat) : Bool :=
  s.planeState (w / 4) (w % 4) = 2 && s.rd .RM_IMAGE_ID_LO w == s.raw (imgKey img 0) &&
    s.rd .RM_IMAGE_ID_HI w == s.raw (imgKey img 1)
/-- Priority of the flow of a descriptor. -/
def State.prioOf (s : State) (i : Nat) : Nat := (s.flow (s.desc i).flow).prio
/-- The scheduler is switching a room back to a suspended task, before any new work goes there (R187). -/
def State.goingBack (s : State) (n : Nat) : Bool :=
  match (s.room n).back with | some p => s.active n != some p && s.taskOn (4 * n + p) | none => false
/-- room_free (R184). -/
def State.roomFree (s : State) (n prio : Nat) : Bool :=
  !s.goingBack n &&
  match s.active n with
  | none => true
  | some p => match s.inService (4 * n + p) with
    | none => true
    | some i => s.f Fld.SC_CFG_PREEMPT = 1 && s.prioOf i < prio
/-- Use count of a plane slot. -/
def State.useCount (s : State) (w : Nat) : Nat := mget (fun _ => 0) s.sched.use w
/-- victim (R185): an EMPTY plane, else the least used, the lowest number first. -/
def State.victim (s : State) (n : Nat) : Option Nat :=
  let c := (List.range 4).filter fun p =>
    s.active n != some p && s.mapBit Fld.SC_WMAP_MAP (4 * n + p) && !s.taskOn (4 * n + p)
  match c.find? fun p => s.planeState n p == 0 with
  | some p => some p
  | none => c.find? fun p => c.all fun k => s.useCount (4 * n + p) ≤ s.useCount (4 * n + k)

/-- Indices after r, ascending and wrapping. -/
def after (r n : Nat) : List Nat := (List.range n).map fun j => (r + 1 + j) % n

/-- The engine chosen for a flow (R184). -/
def State.pickEngine (s : State) (c : Flow) (t rr : Nat) : Option Nat :=
  let cl := s.tplClusters t
  if c.lastValid && 512 ≤ c.last && s.engOk (c.last - 512) cl then some c.last
  else ((after rr 256).find? fun e => s.engOk e cl).map (512 + ·)
/-- The plane slot chosen among those that hold the image (R184). -/
def State.pickSlot (s : State) (c : Flow) (img rr : Nat) : Option Nat :=
  let ok (w : Nat) : Bool := s.holds w img && s.slotOk w && s.roomFree (w / 4) c.prio
  if c.lastValid && c.last < 512 && ok c.last then some c.last else (after rr 512).find? ok

/-! ### Dispatches -/

/-- The lowest corridor tag of an endpoint that is not in use. -/
def State.freeTag (s : State) (ep plane n : Nat) : Nat :=
  ((List.range n).find? fun t => (s.outReq (outKey ep plane t)).isNone).getD 0

/-- A free request tag of the management processor; the tags 0 to 31 are those of the key exchange (KEX_MSG, R396). -/
def State.mpTag (s : State) : Nat :=
  (((List.range 992).map (· + 32)).find? fun t => (s.outReq (outKey 546 0 t)).isNone).getD 32

/-- Send the DISPATCH of a descriptor (R182, R186): its 64 bytes with LINK naming it. A bad word of it is a books fault (R39). -/
def State.sendDispatch (s : State) (i : Nat) : State :=
  let w := (s.desc i).worker
  let (ep, pl) := if w < 512 then (w / 4, w % 4) else (256 + (w - 512), 0)
  let p := mkReq s 6 544 0 (epDest s.node ep) 63 ({ s.desc i with link := i } : Desc).bytes
  if s.descBad i then s.booksFault 9 0 0 else s.sendPost 544 { p with dstPlane := pl }

/-- Planes of a room whose switch the scheduler still asks for (R186). -/
def State.wants (s : State) (n : Nat) : List Nat := mget (fun _ => []) s.sched.wantSwitch n
def State.setWants (s : State) (n : Nat) (l : List Nat) : State :=
  s.updSched fun q => { q with wantSwitch := mput (fun _ => []) q.wantSwitch n l }
def State.wantPlane (s : State) (n p : Nat) : State := s.setWants n ((s.wants n).filter (· != p) ++ [p])
/-- The scheduler asks for a switch and repeats it while the task is in service and its plane not active (R186). -/
def State.schedSwitch (s : State) (n p : Nat) : State :=
  if s.active n = some p then s
  else
    let s := s.wantPlane n p
    s.askSwitch n p .sched none

/-- Commit the first descriptor of flow f to worker w (R184); a running load delays the DISPATCH (R186). -/
def State.commitTo (s : State) (pipe f i w : Nat) (loading : Bool) : State :=
  let c := s.flow f
  let s := s.updDesc i fun d => { d with state := 4, worker := w }
  let s := s.setFlow f { c with busy := true, lastValid := true, last := w, queue := c.queue.drop 1 }
  let s := s.updPipe pipe fun p =>
    let p := { p with took := some w }.setList c.prio ((p.list c.prio).filter (· != f))
    if w < 512 then { p with rrP := w, commits := p.commits + 1 } else { p with rrE := w - 512, commits := p.commits + 1 }
  let s := s.incW Fld.SC_DISPATCH_COUNT_COUNT 0
  let s := if w < 512 then
      let n := w / 4
      let s := s.updSched fun q => { q with use := mput (fun _ => 0) q.use w (min 65535 (s.useCount w + 1)) }
      let s := match s.active n with
        | some a => if a != w % 4 && s.taskOn (4 * n + a) then
            s.updRoom n fun r => { r with preempted := a :: r.preempted.filter (· != a) } else s
        | none => s
      s.schedSwitch n (w % 4)
    else s
  if loading then s else s.sendDispatch i

/-- A failed or refused scheduler load (R184, R185). -/
def State.loadFailed (s : State) (loc : Option Nat) (bad : Bool) : State :=
  let s := (s.setF Fld.SC_STATUS_LOAD_FAIL 0 1).inc Fld.SC_LOAD_FAIL_COUNT_COUNT 0
  match loc with
  | some l => if bad then s.setRaw (locKey l 0) (Fld.SC_LOC_CTRL_BAD.set (s.raw (locKey l 0)) 1) else s
  | none => s

/-- Value of RM_LOAD_CTRL for a load of location l into plane v (R61, R185). -/
def State.locValue (s : State) (l n v : Nat) : Nat :=
  let w := s.raw (locKey l 1)
  Fld.SC_LOC_DATA_ROW.get w + 2 ^ 24 * Fld.SC_LOC_DATA_LOFT.get w + 2 ^ 26 * v +
    2 ^ 30 * s.f Fld.RM_PLANE_CFG_SAVE_ON_EVICT (4 * n + v)

/-- Try the location entries of an image in entry order (R184): the worker whose load was accepted. -/
def State.tryLoads (s : State) (img prio i : Nat) : List Nat → Option Nat × State
  | [] => (none, s)
  | l :: t =>
    let c := s.raw (locKey l 0)
    let d := s.raw (locKey l 1)
    let n := Fld.SC_LOC_DATA_ROOM.get d
    if Fld.SC_LOC_CTRL_VALID.get c = 0 ∨ Fld.SC_LOC_CTRL_BAD.get c = 1 ∨ Fld.SC_LOC_DATA_IMAGE.get d ≠ img then
      s.tryLoads img prio i t
    else if s.roomState n ≠ 0 ∨ !s.roomFree n prio ∨ (s.room n).ld.isSome then s.tryLoads img prio i t
    else match s.victim n with
      | none => s.tryLoads img prio i t
      | some v =>
        let (st, s') := s.askLoad n .sched (s.locValue l n v) none (some l) (some i)
        if st = 0 then (some (4 * n + v), s')
        else if st = 2 then s'.tryLoads img prio i t
        else (s'.loadFailed (some l) true).tryLoads img prio i t

/-- Locations that are listed at all, in entry order. -/
def State.locList (s : State) : List Nat :=
  ((s.regs.filter fun (e : Nat × Word) => locKey 0 0 ≤ e.1 && e.1 < locKey 4096 0).map fun (e : Nat × Word) =>
    (e.1 - locKey 0 0) / 8).dedup

/-- Move a flow to the tail of its list. -/
def State.flowToTail (s : State) (pipe f : Nat) : State :=
  let pr := (s.flow f).prio
  s.updPipe pipe fun p => p.setList pr ((p.list pr).filter (· != f) ++ [f])

/-- The workers to which lower-numbered pipes committed in the cycle that a pipe is in (R184). -/
def State.tookNow (s : State) (pipe : Nat) : List Nat :=
  (List.range pipe).filterMap fun q => if (s.pipe q).cycle = (s.pipe pipe).cycle then (s.pipe q).took else none
/-- The scheduler as it was before the commits of this cycle to some workers: no task there, its plane and its use count as they
were, no load running for it. -/
def State.beforeTook (s : State) (took : List Nat) : State :=
  s.each took fun s w =>
    match s.inService w with
    | none => s
    | some i =>
      let s := s.updSched fun q => { q with descs := mput (fun _ => {}) q.descs i { s.desc i with state := 2 } }
      if 512 ≤ w then s
      else
        let s := s.updSched fun q => { q with use := mput (fun _ => 0) q.use w (s.useCount w - 1) }
        match (s.room (w / 4)).ld with
        | some o => if o.desc = some i then (s.setPlaneState (w / 4) o.plane o.was).updRoom (w / 4) fun r => { r with ld := none } else s
        | none => s
/-- The worker that the first descriptor of a flow would go to (R184). -/
def State.choice (s : State) (pipe f i : Nat) : Option Nat :=
  let c := s.flow f
  let t := (s.desc i).tmpl
  if s.tplEngine t then s.pickEngine c t (s.pipe pipe).rrE
  else
    let img := s.tplTarget t % 1024
    (s.pickSlot c img (s.pipe pipe).rrP).orElse fun _ => (s.tryLoads img c.prio i s.locList).1
/-- Whether a lower-numbered pipe has taken in this cycle the worker that a pipe chooses; it then tries again in the next (R184). -/
def State.outrun (s : State) (pipe f i : Nat) : Bool :=
  let took := s.tookNow pipe
  !took.isEmpty && (((s.beforeTook took).choice pipe f i).any took.contains)
/-- Place the first descriptor of a flow (R184). -/
def State.placeFlow (s : State) (pipe f i : Nat) : State :=
  let c := s.flow f
  let t := (s.desc i).tmpl
  if s.outrun pipe f i then s
  else if s.tplEngine t then
    match s.pickEngine c t (s.pipe pipe).rrE with
    | some w => s.commitTo pipe f i w false
    | none => s.flowToTail pipe f
  else
    let img := s.tplTarget t % 1024
    match s.pickSlot c img (s.pipe pipe).rrP with
    | some w => s.commitTo pipe f i w false
    | none =>
      let (w, s) := s.tryLoads img c.prio i s.locList
      match w with
      | some w => s.commitTo pipe f i w true
      | none => s.flowToTail pipe f

/-- A descriptor returns to READY at the head of its flow's queue and frees its flow (R185, R186, R196; log entry 21). That of a
grouped flow stays in the group's admission list, which its LINK goes on naming (R176, R191). -/
def State.returnTask (s : State) (i : Nat) : State :=
  let f := (s.desc i).flow
  let w := (s.desc i).worker
  if s.descBad i || s.flowBad f then s.booksFault 9 0 0
  else
    let s := s.updDesc i fun d => { d with state := 2, link := if (s.flow f).grouped then d.link else (s.flow f).queue.headD 0 }
    let s := if w < 512 then s.updRoom (w / 4) fun r => { r with preempted := r.preempted.filter (· != w % 4) } else s
    (s.updFlow f fun c => { c with busy := false, queue := i :: c.queue }).listFlow f

/-- Act on the ends of loads that the scheduler started (R185, R186). -/
def State.schedLoads (s : State) : State :=
  let l := s.sched.loadsDone
  (s.updSched fun q => { q with loadsDone := [] }).each l fun s (x : Nat × Nat × Nat × Option Nat × Option Nat) =>
    let (n, p, err, loc, d) := x
    match d with
    | none => s
    | some i =>
      let mine : Bool := (s.desc i).state == 4 && (s.desc i).worker == 4 * n + p
      if err = 0 then (if mine then s.sendDispatch i else s)
      else
        let s := s.loadFailed loc (3 ≤ err && err ≤ 5)
        if mine then s.returnTask i else s

/-- The flow at the head of a pipe's highest non-empty list. -/
def State.pipeHead (s : State) (p : Nat) : Option Nat :=
  [3, 2, 1, 0].findSome? fun pr => ((s.pipe p).list pr).head?

/-- DISPATCH_PIPE: one CK_ROW cycle of a pipe (R182–R186, R196). -/
def State.dispatchPipe (s : State) (p : Nat) : State :=
  let s := s.schedLoads
  let s := s.updPipe p fun q =>
    if q.cycle + 1 = 1024 then { q with cycle := 0, commits := 0, took := none } else { q with cycle := q.cycle + 1, took := none }
  let cap := s.f Fld.SC_RATE_THERM_CAP
  if !s.schedOn || s.schedHeld || s.rpState = 4 || (cap != 0 && cap ≤ (s.pipe p).commits) then s
  else match s.pipeHead p with
    | none => s
    | some f => match (s.flow f).queue.head? with
      | none => s.updPipe p fun q => q.setList (s.flow f).prio ((q.list (s.flow f).prio).filter (· != f))
      | some i =>
        if s.flowBad f || s.descBad i then s.booksFault 9 0 0 else s.placeFlow p f i

/-- The descriptor that a DISPATCH carried. -/
def dispatchIndex (p : Packet) : Nat := leNat (slice p.payload 8 4) % 2 ^ 21

/-- What the answer to a DISPATCH leads to (R186): resent when BUSY; the task returns on BUS_ERROR and on
LINK_LOST (R165). -/
def State.dispatchAnswered (s : State) (req : Packet) (status : Nat) : State :=
  let i := dispatchIndex req
  let d := s.desc i
  let mine : Bool := d.state == 4 &&
    req.dstEp == (if d.worker < 512 then d.worker / 4 else d.worker - 256) && (512 ≤ d.worker || req.dstPlane == d.worker % 4)
  if !mine || status = 0 then s
  else if status = 1 then s.sendDispatch i
  else s.returnTask i

/-- Send token records to this stack's own scheduler. -/
def State.sendTokens (s : State) (p : Packet) : State :=
  s.sendPost 544 { p with srcEp := 544, srcNode := s.node, srcPlane := 0 }
/-- A response at the scheduler: of a TOKEN packet that it sent itself, whose marked records go again (R37, R179), of a DISPATCH, of the
read of a set, of a write. A word of its storage that the decoder finds bad is a books fault (R39). -/
def State.schedAnswered (s : State) (req p : Packet) : State :=
  if req.type = 5 then (if p.status = 1 ∧ p.poison ≠ 0 then s.sendTokens (tokRepostOf req p.poison) else s)
  else if req.type = 6 then s.dispatchAnswered req p.status
  else if p.status = 0 ∧ p.poison ≠ 0 then s.booksFault 9 0 0
  else if req.type = 0 ∧ p.status = 0 then s.cacheMatch ((req.addr - s.matchAddr 0) / 256)
  else s.postAnswered 544 req p
/-- DISPATCH_RESPONSE: the next response at the scheduler's endpoint. -/
def State.dispatchResponse (s : State) : State :=
  match s.take 544 1 with
  | none => s
  | some (p, s) =>
    let (r, s) := s.matchRsp 544 p
    match r with
    | some r => (s.schedAnswered r.pkt p).pumpPosts 544
    | none => s

/-- SWITCH_REPEAT (R186): the oldest request for a plane that is not active and whose task is in service. -/
def State.switchRepeat (s : State) (n : Nat) : State :=
  let l := (s.wants n).filter fun p => s.active n != some p && s.taskOn (4 * n + p)
  let s := s.setWants n l
  match l with
  | [] => s
  | p :: _ => if (s.room n).sw.isSome || s.f Fld.RM_PLANE_PEND_VALID n = 1 then s else s.askSwitch n p .sched none

/-! ### DONE -/

/-- End of SCHED_DRAIN: no descriptor READY, IN_SERVICE or COMPLETING (R197). -/
def State.schedDrained (s : State) : State :=
  if s.f Fld.SC_STATUS_DRAINING = 1 && s.countState 2 + s.countState 4 + s.countState 5 = 0 then
    let l := s.sched.drainCmds
    ((s.setF Fld.SC_STATUS_DRAINING 0 0).updSched fun q => { q with drainCmds := [] }).each l fun s c => s.respond c 0 []
  else s

/-- The suspended plane of a room with the highest-priority task, the most recently pre-empted first (R187). -/
def State.backTo (s : State) (n : Nat) : Option Nat :=
  let prio (p : Nat) : Nat := match s.inService (4 * n + p) with | some i => s.prioOf i + 1 | none => 0
  let l := (s.room n).preempted.filter fun p => s.taskOn (4 * n + p)
  l.find? fun p => l.all fun q => prio q ≤ prio p

/-- After a task ends on slot w: where it was not itself suspended, a room whose task was pre-empted is switched back first,
whichever plane is active by then (R187). -/
def State.resumePreempted (s : State) (w : Nat) : State :=
  let n := w / 4
  if (s.room n).preempted.contains (w % 4) then
    s.updRoom n fun r => { r with preempted := r.preempted.filter (· != w % 4) }
  else match s.backTo n with
    | some p =>
      (s.updRoom n fun r => { r with preempted := r.preempted.filter (· != p), back := some p }).schedSwitch n p
    | none => s

/-- The worker code of a DONE's sender. -/
def State.senderOf (s : State) (p : Packet) : Option Nat :=
  if p.srcNode ≠ s.node then none
  else if p.srcEp < 128 then some (4 * p.srcEp + p.srcPlane)
  else if 256 ≤ p.srcEp ∧ p.srcEp < 512 then some (512 + (p.srcEp - 256))
  else none

/-- A DONE that ends a task (R189). -/
def State.taskDone (s : State) (i w : Nat) (recs : List TokRec) : State :=
  let d := s.desc i
  let s := s.setDesc i { d with state := 5, complete := true, recs := recs }
  let f := d.flow
  let s := (s.updFlow f fun c => { c with busy := false }).listFlow f
  let s := if w < 512 then s.resumePreempted w else s
  let c := s.flow f
  let s := if c.grouped then State.release ((s.grp c.group).admitted.length) s c.group else s.post i
  s.schedDrained

/-- A DONE packet (R189): dropped when its descriptor is not in service on the sender. -/
def State.doneArrives (s : State) (p : Packet) : State :=
  let w0 := leNat (p.payload.take 4)
  let i := w0 % 2 ^ 21
  let n := min 4 (bits w0 26 24)
  let ok : Option Nat := match s.senderOf p with
    | some w => if (s.desc i).state = 4 ∧ (s.desc i).worker = w then some w else none
    | none => none
  match ok with
  | none => (s.inc Fld.SC_BAD_DONE_COUNT_COUNT 0).setF Fld.SC_STATUS_BAD_DONE 0 1
  | some w =>
    if s.descBad i || s.flowBad (s.desc i).flow then s.booksFault 9 0 0
    else s.taskDone i w ((List.range n).map (recOf p))

/-- DONE: the next DONE packet at the scheduler's endpoint. -/
def State.done (s : State) : State :=
  if s.schedHeld || s.safe then s
  else match s.takeOn (ejectLinks 544) 2 (fun p => p.type == 7 && s.isFor 544 p) with
    | none => s
    | some (p, s) => s.doneArrives p

/-- RESULT_RECORD_POST: one posted result record in a CK_ROW cycle (R178, R189). -/
def State.postRecord (s : State) : State :=
  match s.sched.posting with
  | [] => s
  | i :: rest =>
    if s.descBad i then s.booksFault 9 0 0
    else match (s.desc i).recs with
    | [] => (s.updSched fun q => { q with posting := rest }).freeDesc i
    | r :: t =>
      if s.schedHeld then s
      else if s.recWaits r then s.recFetch r
      else
        let (busy, s) := s.handleRec r
        if busy then s
        else
          let s := s.updDesc i fun d => { d with recs := t }
          if t.isEmpty then ((s.updSched fun q => { q with posting := rest }).freeDesc i).schedDrained else s

/-! ### Evictions by command loads -/

/-- A load of a plane by command whose plane had a task in service (Table 08-7). -/
def State.evict (s : State) (n p : Nat) : State :=
  match s.inService (4 * n + p) with
  | some i => (s.returnTask i).inc Fld.SC_EVICT_COUNT_COUNT 0
  | none => s
/-- A load or reload request of an agent, with the eviction at its acceptance. -/
def State.loadReq (s : State) (n : Nat) (agent : LoadAgent) (value : Nat) (cmd : Option CmdRef) : Nat × State :=
  let (st, s') := s.askLoad n agent value cmd none none
  if st = 0 ∧ agent = .mp then (0, s'.evict n (bits value 27 26)) else (st, s')

/-! ### Meanings -/

def execToken (attach : Nat) (s : State) : Host.Outcome State Fault Refusal := .next (s.takeToken attach)
def execTokenRecord (attach : Nat) (s : State) : Host.Outcome State Fault Refusal := .next (s.tokenRecord attach)
def execDispatchPipe (pipe : Nat) (s : State) : Host.Outcome State Fault Refusal := .next (s.dispatchPipe pipe)
def execDispatchResponse (s : State) : Host.Outcome State Fault Refusal := .next s.dispatchResponse
def execSwitchRepeat (room : Nat) (s : State) : Host.Outcome State Fault Refusal := .next (s.switchRepeat room)
def execDone (s : State) : Host.Outcome State Fault Refusal := .next s.done
def execResultRecordPost (s : State) : Host.Outcome State Fault Refusal := .next s.postRecord
/-- TICK: PERIOD cycles of CK_ROW have passed (R192). -/
def execTick (s : State) : Host.Outcome State Fault Refusal :=
  .next (s.updSched fun q => { q with tick := (q.tick + 1) % 2 ^ 64 })
def execDelayExpiry (list : Nat) (s : State) : Host.Outcome State Fault Refusal := .next (s.delayExpire list)
def execDelayListWalk (list : Nat) (s : State) : Host.Outcome State Fault Refusal := .next (s.delayWalk list)
/-- USE_COUNT_DECAY: every use count is halved (R185). -/
def execUseCountDecay (s : State) : Host.Outcome State Fault Refusal :=
  .next (s.updSched fun q => { q with use := mmapv (fun _ => 0) (fun _ v => v / 2) q.use })

/-- PLANECTL_DONE: the endpoint of a running room sends a DONE with COUNT 0 for its active plane's task (R182). -/
def execPlanectlDone (room : Nat) (s : State) : Host.Outcome State Fault Refusal :=
  .next (match s.active room with
    | some p => match s.inService (4 * room + p) with
      | some i =>
        if s.roomState room = 0 then
          s.inject room { mkReq s 7 room 0 (epDest s.node 544) 15 (leBytes 4 i ++ List.replicate 12 0) with srcPlane := p, own := true }
        else s
      | none => s
    | none => s)

def execLoad (room : Nat) (agent : LoadAgent) (value : Nat) (s : State) : Host.Outcome State Fault Refusal :=
  .next (s.loadReq room agent (withOp value 0) none).2
def execStateReload (room : Nat) (agent : LoadAgent) (value : Nat) (s : State) : Host.Outcome State Fault Refusal :=
  .next (s.loadReq room agent (withOp value 1) none).2
def execLoadRow (room : Nat) (crossing : List Crossing) (s : State) : Host.Outcome State Fault Refusal :=
  .next (s.loadRow room crossing).schedLoads
def execLoadFinish (room : Nat) (s : State) : Host.Outcome State Fault Refusal := .next (s.loadFinish room).schedLoads
def execPlaneLoad (h : CmdHdr) (room value : Nat) (s : State) : Host.Outcome State Fault Refusal :=
  .next (s.submit h 0x0401 .r (argBytes [(6, 1, room), (8, 4, value)]) fun s =>
    s.checks h [(128 ≤ room, 3), (2 ≤ bits value 29 28, 3)] fun s =>
      let (st, s') := s.loadReq room .mp value (some h.ref)
      if st = 0 then s' else s'.reply h st)

/-! ### Scheduler commands (Table 08-8, Table 17-11) -/

def execSchedStatus (h : CmdHdr) (s : State) : Host.Outcome State Fault Refusal :=
  .next (s.submit h 0x0501 .s [] fun s =>
    let q := s.sched
    s.replyData h (leBytes 4 (s.rd .SC_STATUS).toNat ++ ((List.range 6).map fun k => leBytes 4 (s.meadowCount k)).flatten ++
      leBytes 8 q.issued ++ leBytes 8 q.matched ++ leBytes 4 q.held ++ leBytes 4 q.flight ++ leBytes 4 q.mtab.length))

/-- Payload of a TOKEN packet (R179). -/
def tokPayload (recs : List TokRec) (repost : Nat) : List Byte :=
  fit 0 16 (leBytes 1 recs.length ++ leBytes 1 repost) ++ (recs.map TokRec.bytes).flatten
/-- Poison marks of the records' values. -/
def poisonBits (recs : List TokRec) : Nat := (recs.zipIdx.map fun (x : TokRec × Nat) => if x.1.poison then 2 ^ x.2 else 0).sum

/-- TASK_POST: a TOKEN packet from the management processor, answered when its RSP_ACK arrives. -/
def execTaskPost (h : CmdHdr) (recs : List TokRec) (repost : Nat) (s : State) : Host.Outcome State Fault Refusal :=
  .next (s.submit h 0x0502 .r
    (argBytes ([(6, 1, recs.length)] ++ (recs.zipIdx.flatMap fun (x : TokRec × Nat) => [(8 + 12 * x.2, 8, x.1.tag), (16 + 12 * x.2, 4, x.1.value)]) ++
      [(56, 1, poisonBits recs), (57, 1, repost)])) fun s =>
    s.checks h [(recs.length = 0, 3), (4 < recs.length, 3)] fun s =>
      let tag := s.mpTag
      let p := mkReq s 5 546 tag (epDest s.node 544) (16 + 12 * recs.length - 1) (tokPayload recs (repost % 16)) (poisonBits recs)
      let s := (s.uncommitted h.ref).updMail fun m => { m with
        inprog := m.inprog.map fun e =>
        if e.port == h.port && e.node == h.node && e.ep == h.ep && e.tag == h.tag then { e with args := [tag] } else e }
      s.request 546 p)

/-- Stage a word under a key of the staged set (R24). -/
def State.stage (s : State) (key : Nat) (w : Word) : State :=
  { s with staged := mput (fun _ => none) s.staged key (some w) }
/-- The staged form of a value: its RWE bits (R7). -/
def rweWord (r : Reg) (v : Nat) : Word := BitVec.ofNat 32 v &&& r.accMask .rwe

def execTemplateSet (h : CmdHdr) (index d0 d1 d2 d3 : Nat) (s : State) : Host.Outcome State Fault Refusal :=
  .next (s.submit h 0x0503 .r (argBytes [(6, 2, index), (8, 4, d0), (12, 4, d1), (16, 4, d2), (20, 4, d3)]) fun s =>
    s.checks h [(4096 ≤ index, 3)] fun s =>
      let s := (s.stage (tplKey index 0) (rweWord .SC_TPL_DATA_0 d0)).stage (tplKey index 1) (rweWord .SC_TPL_DATA_1 d1)
      let s := (s.stage (tplKey index 2) (rweWord .SC_TPL_DATA_2 d2)).stage (tplKey index 3) (rweWord .SC_TPL_DATA_3 d3)
      s.reply h 0)
def execImageSet (h : CmdHdr) (image imageId : Nat) (locs : List (Nat × Nat)) (s : State) :
    Host.Outcome State Fault Refusal :=
  .next (s.submit h 0x0504 .r
    (argBytes ([(6, 2, image), (8, 8, imageId), (16, 1, locs.length)] ++
      locs.zipIdx.flatMap fun (x : (Nat × Nat) × Nat) => [(20 + 8 * x.2, 2, x.1.1), (24 + 8 * x.2, 4, x.1.2)])) fun s =>
    s.checks h [(1024 ≤ image, 3), (4 < locs.length, 3), (locs.any fun l => 4096 ≤ l.1, 3)] fun s =>
      let s := (s.stage (imgKey image 0) (BitVec.ofNat 32 imageId)).stage (imgKey image 1) (BitVec.ofNat 32 (imageId / 2 ^ 32))
      let s := s.each locs fun s l =>
        (s.stage (locKey l.1 0) 0x80000000).stage (locKey l.1 1) (rweWord .SC_LOC_DATA l.2)
      s.reply h 0)
def execFlowSet (h : CmdHdr) (flow prio grouped group : Nat) (s : State) : Host.Outcome State Fault Refusal :=
  .next (s.submit h 0x0505 .r (argBytes [(6, 4, flow), (10, 1, prio), (11, 1, grouped), (12, 2, group)]) fun s =>
    s.checks h [(2 ^ s.f Fld.SC_SIZE_FLOW_LOG2 ≤ flow, 3), (4 ≤ prio, 3), (2 ≤ grouped, 3),
        ((s.flow flow).busy, 2), (!(s.flow flow).queue.isEmpty, 2)] fun s =>
      if s.flowBad flow then (s.booksFault 9 0 0).reply h 7
      else (s.updFlow flow fun c => { c with prio := prio, grouped := grouped == 1, group := group }).reply h 0)
def execGroupSet (h : CmdHdr) (group window : Nat) (s : State) : Host.Outcome State Fault Refusal :=
  .next (s.submit h 0x0506 .r (argBytes [(6, 2, group), (8, 4, window)]) fun s =>
    s.checks h [(window = 0, 3), (65536 < window, 3), ((s.grp group).out ≠ 0, 2), (!(s.grp group).overflow.isEmpty, 2)] fun s =>
      (s.updGrp group fun g => { g with window := window }).reply h 0)

/-- Free a WAITING or DELAYED descriptor (R194). -/
def State.cancel (s : State) (i : Nat) : State :=
  let d := s.desc i
  if d.state = 1 then
    let n := popc 8 d.amask
    ((s.dropMatch d.key).updSched fun q => { q with held := q.held - n, matched := (q.matched + n) % 2 ^ 64 }).freeDesc i
  else
    let s := s.each (List.range 16) fun s k => s.unlinkFrom ((s.delay k).items.map (·.2)) i
    let s := s.each (List.range 16) fun s k => s.updDelay k fun l =>
      let items := l.items.filter fun (e : Nat × Nat) => e.2 != i
      let waiting := l.waiting.filter fun (e : Nat × Nat) => e.2 != i
      let walk : Option (Nat × Nat × Nat) := match l.walk with
        | some (e, j, k) =>
          if j = i then none else some (e, j, k - ((l.items.take k).filter fun (e : Nat × Nat) => e.2 == i).length)
        | none => none
      { l with items := items, waiting := waiting, walk := walk }
    s.freeDesc i
/-- Whether a bad word of book-keeping storage stands in the way of a cancel (R39): the descriptor, its match entry's set, its
neighbours on a delay list. -/
def State.cancelBad (s : State) (i : Nat) : Bool :=
  s.descBad i || ((s.desc i).state == 1 && s.setBad (s.desc i).key) ||
    ((s.desc i).state == 3 && (List.range 16).any fun k => ((prevIn ((s.delay k).items.map (·.2)) i).any s.descBad))
def execTaskCancel (h : CmdHdr) (desc : Nat) (s : State) : Host.Outcome State Fault Refusal :=
  .next (s.submit h 0x0507 .r (argBytes [(6, 4, desc)]) fun s =>
    s.checks h [(s.meadowP ≤ desc, 3), ((s.desc desc).state ≠ 1 ∧ (s.desc desc).state ≠ 3, 4)] fun s =>
      if s.cancelBad desc then (s.booksFault 9 0 0).reply h 7 else (s.cancel desc).reply h 0)
def execSchedDrain (h : CmdHdr) (ms : Nat) (s : State) : Host.Outcome State Fault Refusal :=
  .next (s.submit h 0x0508 .r (argBytes [(6, 4, ms)]) fun s =>
    ((s.setF Fld.SC_STATUS_DRAINING 0 1).updSched fun q => { q with drainCmds := q.drainCmds ++ [h.ref] }).schedDrained)

end Sys2Proof.Machine
end

