-- ==== Sys2Proof/Machine/Flags.lean ====
section
/-!
DEFINITION. The arithmetic of the DSP engines and their flags: range checks with wrapping or saturation (R204),
convergent rounding (R205), pointer updates (R209), the multiplier products (R203, R231), the ALU operations (R230) and
the writing of N, Z, V and STICKY (R241).
-/
namespace Sys2Proof.Machine

/-- Exact value v judged against w bits (R204): what is kept, and whether v was out of range. -/
def fitRange (w : Nat) (sat : Bool) (v : Int) : Int × Bool :=
  let lo : Int := -(2 ^ (w - 1) : Nat)
  let hi : Int := (2 ^ (w - 1) : Nat) - 1
  if lo ≤ v ∧ v ≤ hi then (v, false)
  else if sat then (if v < lo then lo else hi, true)
  else (sgn w (low w v), true)

/-- Arithmetic shift right by sh with convergent rounding (R205). -/
def roundShift (v : Int) (sh : Nat) : Int :=
  let q := v / ((2 ^ sh : Nat) : Int)
  let r := v - q * ((2 ^ sh : Nat) : Int)
  if sh = 0 then q
  else
    let half : Int := ((2 ^ (sh - 1) : Nat) : Int)
    if r > half ∨ (r = half ∧ q % 2 = 1) then q + 1 else q

/-- k = ceil(log2 L). -/
def clog2 (l : Nat) : Nat := ((List.range 15).find? fun k => l ≤ 2 ^ k).getD 14
/-- The low k bits of v in reverse order. -/
def rev (k v : Nat) : Nat := (List.range k).foldl (fun a i => a + bit v i * 2 ^ (k - 1 - i)) 0

/-- Whether a pointer with mode register xl may be used (R209). -/
def modeOk (xl : Nat) : Bool :=
  let mode := bits xl 15 14
  let l := bits xl 13 0 + 1
  mode != 3 && (mode != 2 || (2 ≤ l && l == 2 ^ clog2 l))
/-- The pointer p after an update by the signed modifier m in the mode of xl (R209). -/
def updPtr (xl p : Nat) (m : Int) : Nat :=
  let mode := bits xl 15 14
  let l := bits xl 13 0 + 1
  let lin := low 14 ((p : Int) + m)
  if mode = 0 then lin
  else if mode = 1 then
    let b := p / 2 ^ clog2 l * 2 ^ clog2 l
    let o := p - b
    if o < l then b + (((o : Int) + m) % (l : Int)).toNat else lin
  else
    let k := clog2 l
    let b := p / l * l
    let o := p - b
    b + rev k ((rev k o + rev k (low k m)) % 2 ^ k)

/-- Half h (0 low, 1 high) of a word, signed or unsigned (R203). -/
def halfOf (v h : Nat) (uns : Bool) : Int :=
  let x := v / 2 ^ (16 * h) % 65536
  if uns then (x : Int) else sgn 16 x
/-- The complex product of two words: real and imaginary part (R203). -/
def cprod (x y : Nat) (conj ux uy : Bool) : Int × Int :=
  let a := halfOf x 0 ux
  let b := if conj then -(halfOf x 1 ux) else halfOf x 1 ux
  let c := halfOf y 0 uy
  let d := halfOf y 1 uy
  (a * c - b * d, a * d + b * c)
/-- The two real products of two words (R203). -/
def dprod (x y : Nat) (ux uy : Bool) : Int × Int :=
  (halfOf x 0 ux * halfOf y 0 uy, halfOf x 1 ux * halfOf y 1 uy)
/-- OPC applied to an accumulator (Table 10-1). -/
def opcApply (opc : Nat) (a p : Int) : Int :=
  if opc = 0 then a + p else if opc = 1 then a - p else if opc = 2 then p else -p

/-- ALU operation on one field of w bits (Table 10-5): the exact result and whether it is range-checked. -/
def aluOp (op w x y sh : Nat) : Int × Bool :=
  let sx := sgn w x
  let sy := sgn w y
  match op with
  | 0x0 => (sx + sy, true)
  | 0x1 => (sx - sy, true)
  | 0x2 => (sgn w (Nat.land x y), false)
  | 0x3 => (sgn w (Nat.lor x y), false)
  | 0x4 => (sgn w (Nat.xor x y), false)
  | 0x5 => (sgn w (Nat.land x (2 ^ w - 1 - y % 2 ^ w)), false)
  | 0x6 => (sx / ((2 ^ sh : Nat) : Int), false)
  | 0x7 => (sgn w (x % 2 ^ w / 2 ^ sh), false)
  | 0x8 => (sx * ((2 ^ sh : Nat) : Int), true)
  | 0xA => (if sx < 0 then -sx else sx, true)
  | 0xB => (-sx, true)
  | 0xC => (if sx ≤ sy then sx else sy, false)
  | 0xD => (if sx ≤ sy then sy else sx, false)
  | _ => (sx, false)
/-- One ALU field: the bits kept and whether a range check failed. -/
def aluField (op w x y sh : Nat) (sat : Bool) : Nat × Bool :=
  let (v, c) := aluOp op w x y sh
  if c then let (r, o) := fitRange w sat v; (low w r, o) else (low w v, false)
/-- The ALU on whole words or on two lanes (R230). -/
def aluWord (op x y : Nat) (lanes sat : Bool) : Nat × Bool :=
  if lanes then
    let (l, o1) := aluField op 16 (x % 65536) (y % 65536) (y % 32) sat
    let (h, o2) := aluField op 16 (x / 65536 % 65536) (y / 65536 % 65536) (y / 65536 % 32) sat
    (l + 65536 * h, o1 || o2)
  else aluField op 32 x y (y % 64) sat

/-- Write N, Z and V of an engine, and STICKY when a range check failed (R241). -/
def State.setNZV (s : State) (e : Nat) (n z v : Bool) : State :=
  let b (x : Bool) : Nat := if x then 1 else 0
  let s := (s.setF Fld.DE_FLAGS_N e (b n)).setF Fld.DE_FLAGS_Z e (b z)
  let s := s.setF Fld.DE_FLAGS_V e (b v)
  if v then s.setF Fld.DE_FLAGS_STICKY e 1 else s
/-- The flags of a value written. -/
def State.flagsOf (s : State) (e : Nat) (r : Int) (v : Bool) : State := s.setNZV e (r < 0) (r = 0) v
def State.satOn (s : State) (e : Nat) : Bool := s.f Fld.DE_MODE_SAT e = 1

end Sys2Proof.Machine
end

