-- ==== Sys2Proof/Machine/Dsp.lean ====
section
/-!
DEFINITION. The DSP engines' instruction set (R224–R242): issue of an instruction, its checks in the order of R242, and
the meaning of every instruction.
-/
namespace Sys2Proof.Machine

/-! ### Registers and memory of an engine -/

/-- D register k: its 32 bits and its poison bit (R202). -/
def Eng.dv (g : Eng) (k : Nat) : Nat × Bool := let v := (mget (fun _ => 0) g.d k).toNat; (v % 2 ^ 32, v / 2 ^ 32 = 1)
/-- A register k: its signed value and its poison bit. -/
def Eng.av (g : Eng) (k : Nat) : Int × Bool := let v := (mget (fun _ => 0) g.a k).toNat; (sgn 48 v, v / 2 ^ 48 = 1)
def Eng.pv (g : Eng) (k : Nat) : Nat := mget (fun _ => 0) g.ptr k
def Eng.mv (g : Eng) (k : Nat) : Nat := mget (fun _ => 0) g.mod k
def Eng.lv (g : Eng) (k : Nat) : Nat := mget (fun _ => 0) g.len k
def Eng.setD (g : Eng) (k v : Nat) (p : Bool) : Eng :=
  { g with d := mput (fun _ => 0) g.d k (BitVec.ofNat 33 (v % 2 ^ 32 + if p then 2 ^ 32 else 0)) }
def Eng.setA (g : Eng) (k : Nat) (v : Int) (p : Bool) : Eng :=
  { g with a := mput (fun _ => 0) g.a k (BitVec.ofNat 49 (low 48 v + if p then 2 ^ 48 else 0)) }
def Eng.setPtr (g : Eng) (k v : Nat) : Eng := { g with ptr := mput (fun _ => 0) g.ptr k (v % 2 ^ 14) }
def Eng.setMod (g : Eng) (k v : Nat) : Eng := { g with mod := mput (fun _ => 0) g.mod k (v % 2 ^ 15) }
def Eng.setLen (g : Eng) (k v : Nat) : Eng := { g with len := mput (fun _ => 0) g.len k (v % 2 ^ 16) }
def State.setD (s : State) (e k v : Nat) (p : Bool) : State := s.updEng e fun g => g.setD k v p
def State.setA (s : State) (e k : Nat) (v : Int) (p : Bool) : State := s.updEng e fun g => g.setA k v p

/-- Pointer k after its own modifier in its own mode (R209). -/
def Eng.stepPtr (g : Eng) (k : Nat) : Eng := g.setPtr k (updPtr (g.lv k) (g.pv k) (sgn 15 (g.mv k)))
def State.stepPtrs (s : State) (e : Nat) (l : List Nat) : State := s.updEng e fun g => l.dedup.foldl Eng.stepPtr g
/-- Whether pointer k may be used (R209). -/
def Eng.ptrOk (g : Eng) (k : Nat) : Bool := modeOk (g.lv k)

/-- Address of word w of the memory of pointer k: 0–3 X, 4–7 Y. -/
def memAddr (e k w : Nat) : Nat := if k < 4 then xAddr e w else yAddr e w
/-- SPACE of pointer k's memory in DE_EXC_ADDR. -/
def spaceOf (k : Nat) : Nat := if k < 4 then 0 else 1
/-- Read one 32-bit word: value, poison of its code word, state with the decoder's counts. -/
def State.engRead (s : State) (a : Nat) : Nat × Bool × State :=
  let (d, p, s) := s.readWord a
  (leNat (slice d (a % 32) 4), p, s)
/-- Store one 32-bit word: a read-modify-write of its code word (R207). -/
def State.engStore (s : State) (a v : Nat) (p : Bool) : State := (s.writeWord a (a % 32) (leBytes 4 v) p).1

/-! ### Leaving RUN -/

/-- The engine enters IDLE, or QUIESCED while shedding quiesces the engines (R211, R213); recorded statuses are cleared
(R239). -/
def State.engIdle (s : State) (e : Nat) : State :=
  let s := s.setF Fld.DE_STATE_STATE e (if s.f Fld.SC_STATUS_ENG_SHED = 1 then 5 else 1)
  let s := (s.setF Fld.DE_TASK_VALID e 0).setF Fld.DE_STATE_TASK_VALID e 0
  s.updEng e fun g => { g with started := false, tags := g.tags.filter fun (t : Nat × EngTag) => t.2.status == 0 }

/-- A repeat ends; the issue rate of thermal enforcement applies from here (R344). -/
def State.endRep (s : State) (e : Nat) : State :=
  let s := ((s.updEng e fun g => { g with rep := 0 }).setF Fld.DE_REP_REMAINING e 0).setF Fld.DE_STATE_REP e 0
  s.setF Fld.DE_STATE_THROTTLED e (if s.f Fld.TH_STATUS_LEVEL = 0 then 0 else 1)

/-- A DSP_HALT that waits ends ABORTED and HALT is cleared when the engine leaves RUN otherwise; a step has ended
(Table 09-6). -/
def State.haltLost (s : State) (e : Nat) : State :=
  let g := s.eng e
  let s := if g.haltCmds.isEmpty then s else s.setF Fld.DE_CTRL_HALT e 0
  let s := (s.updEng e fun g => { g with haltCmds := [], stepCmds := [], stepping := false }).setF Fld.DE_CTRL_STEP e 0
  let s := s.each g.haltCmds fun s r => s.respond r 6 []
  s.each g.stepCmds fun s r => s.respond r 0 []

/-- Send the DONE packet of an engine's task (R182, R213). -/
def State.sendDone (s : State) (e i : Nat) (recs : List TokRec) : State :=
  let n := recs.length
  s.inject (256 + e) (mkReq s 7 (256 + e) 0 (epDest s.node 544) (16 + 12 * n - 1)
    (fit 0 16 (leBytes 4 (i + 2 ^ 24 * n)) ++ (recs.map TokRec.bytes).flatten) (poisonBits recs))

/-- Enter EXC (R217, R222) and apply EXC_ACTION to a scheduled task. -/
def State.raise (s : State) (e cause space word : Nat) : State :=
  let pc := if (s.eng e).pcOver then 8191 else s.f Fld.DE_PC_PC e
  let s := (s.setF Fld.DE_EXC_VALID e 1).setF Fld.DE_EXC_CAUSE e cause
  let s := s.setF Fld.DE_EXC_PC e pc
  let s := (s.setF Fld.DE_EXC_ADDR_SPACE e space).setF Fld.DE_EXC_ADDR_WORD e word
  let s := s.inc Fld.DE_EXC_COUNT_COUNT e
  let s := s.event 0x0020 e ((s.rd .DE_EXC e).toNat + 2 ^ 32 * (s.rd .DE_EXC_ADDR e).toNat)
  let s := ((s.endRep e).haltLost e).setF Fld.DE_STATE_STATE e 4
  if s.f Fld.DE_TASK_VALID e = 1 then
    let i := s.f Fld.DE_TASK_INDEX e
    let act := s.f Fld.DE_CFG_EXC_ACTION e
    if act = 1 then (s.sendDone e i []).engIdle e
    else if act = 2 then
      let tag := s.f Fld.DE_FAULT_TAG_LO_TAG e + 2 ^ 32 * s.f Fld.DE_FAULT_TAG_HI_TAG e
      (s.sendDone e i [{ tag := tag, value := 2 ^ 28 * cause + pc, poison := false }]).engIdle e
    else s
  else s

/-! ### Issue -/

/-- What an attempt to issue an instruction gives: an exception with its cause and DE_EXC_ADDR, a wait at the boundary,
completion with the next PC (none: the next instruction) and the cycles it occupied, the start of a repeat, or the end of
the program. -/
inductive Issue where
  | exc (cause space word : Nat) (s : State)
  | wait
  | fin (s : State) (next : Option Nat) (cycles : Nat)
  | startRep (s : State) (n : Nat)
  | ended (s : State) (cycles : Nat)

/-- The bits of 25:0 that an opcode lists (Table 10-4); none where the opcode is not defined (Table 10-2). -/
def listedBits (op : Nat) : Option Nat :=
  let r (hi lo : Nat) : Nat := 2 ^ (hi + 1) - 2 ^ lo
  match op with
  | 0x00 => some 0
  | 0x01 | 0x02 | 0x03 | 0x04 => some (r 25 20)
  | 0x05 => some (r 25 22 + r 15 0)
  | 0x06 => some (r 25 21 + r 15 0)
  | 0x07 => some (r 25 17)
  | 0x08 => some (r 25 23 + r 7 2)
  | 0x09 => some (r 22 20 + r 7 2)
  | 0x0A => some (r 25 18)
  | 0x10 => some (r 25 12)
  | 0x11 => some (r 25 0)
  | 0x20 => some (r 25 12)
  | 0x21 => some (r 25 23 + r 21 12)
  | 0x22 => some (r 25 17)
  | 0x23 => some (r 25 20)
  | 0x28 => some (r 25 13)
  | 0x30 => some (r 25 22 + r 15 0)
  | 0x31 => some (r 25 22 + r 12 0)
  | 0x32 => some (r 25 23 + r 12 0)
  | 0x33 => some (r 12 0)
  | 0x34 => some 0
  | 0x38 | 0x39 | 0x3B => some (r 22 8)
  | 0x3A => some (r 22 14 + r 10 8)
  | 0x3C => some (r 7 0)
  | 0x3D => some (r 2 0)
  | 0x3F => some 0
  | _ => none

/-- Reserved field values of an instruction, as far as no register decides them (R224, Table 10-4). -/
def reservedField (op f : Nat) : Bool :=
  match op with
  | 0x06 => bits f 25 24 == 3
  | 0x07 => bits f 24 23 == 3
  | 0x0A => 5 ≤ bits f 25 23
  | 0x10 => 0xD < bits f 16 13
  | 0x11 => !([0, 6, 7, 8] : List Nat).contains (bits f 19 16)
  | 0x20 | 0x21 => (bit f 19 == 1 && bit f 18 == 1) || (bit f 15 == 1 && bit f 14 == 1)
  | 0x22 => bit f 21 == 1 && bit f 22 == 1
  | 0x23 => 47 < bits f 25 20
  | 0x28 => 47 < bits f 18 13 || (bit f 23 == 1 && bit f 24 == 1)
  | 0x31 => 8 ≤ bits f 25 22
  | 0x38 | 0x39 => bit f 17 == 1
  | 0x3A => bit f 22 == 1 || bits f 10 8 == 0 || 5 ≤ bits f 10 8
  | 0x3D => 5 ≤ f % 8
  | _ => false

/-- An instruction word that raises ILLEGAL whatever the registers hold (R224). -/
def illegalWord (w : Nat) : Bool :=
  let op := w / 2 ^ 26
  let f := w % 2 ^ 26
  match listedBits op with
  | none => true
  | some m => Nat.land f m != f || reservedField op f

/-- Cycles an instruction or a repeat step occupies: at least 2 under thermal enforcement (R228). -/
def State.cyc (s : State) (e c : Nat) : Nat := if s.f Fld.DE_STATE_THROTTLED e = 1 then max 2 c else c

/-- A slot of X or Y: 0 the read and 1 the write of X, 2 and 3 those of Y, for the memory of pointer k (R207). -/
def memSlot (k : Nat) (write : Bool) : Nat := (if k < 4 then 0 else 2) + if write then 1 else 0
/-- The slots that an instruction uses in every cycle it occupies (R207): a service access that needs one finds none free. BFLY
reads Y in one of its two cycles, and DONE's first cycle reads nothing. -/
def usedSlots (op f : Nat) : List Nat :=
  let p := bits f 22 20
  match op with
  | 0x01 | 0x39 | 0x3B => [memSlot p false]
  | 0x02 => [memSlot p true]
  | 0x03 => [memSlot p false, memSlot (bits f 25 23) true]
  | 0x20 | 0x21 => (if bit f 19 = 1 then [0] else []) ++ (if bit f 15 = 1 then [2] else [])
  | 0x22 => [0, 1, 2]
  | 0x23 => [0, 1]
  | 0x28 => if bit f 22 = 0 then [memSlot (bits f 21 19) true] else []
  | 0x3A => [0]
  | _ => []
/-- The slot that a service access to an engine's memory takes; the program memory has its own beside the fetch (R207). -/
def svcSlot (p : Packet) : Option Nat :=
  match decodeAddr p.addr with
  | .engMem _ => some (memSlot (p.addr / 0x10000 % 2 * 4) (p.type == 1))
  | _ => none
/-- The slot that a response needs: the write slot of the memory of a GET's data (R238). -/
def Eng.rspSlot (g : Eng) (p : Packet) : Option Nat :=
  if p.type = 3 then some (memSlot (if (mget (fun _ => {}) g.tags p.tag).dst < 16384 then 0 else 4) true) else none
/-- Waiting times after n more cycles, for the queued packets of which some found no slot. -/
def addWaits (old : List Nat) (n : Nat) (l : List Bool) : List Nat :=
  l.zipIdx.map fun (x : Bool × Nat) => nth old x.2 + if x.1 then n else 0
/-- n cycles of an engine: they count in RUN (R223), and a queued access or GET data whose slot is taken in all of them waits. -/
def State.passCycles (s : State) (run : Bool) (e n : Nat) (taken : Option Nat → Bool) : State :=
  let q := s.queued (256 + e) 0
  let r := s.queued (256 + e) 1
  s.updEng e fun g => { g with
    cycles := if run then (g.cycles + n) % 2 ^ 64 else g.cycles
    svcWait := addWaits g.svcWait n (q.map fun p => taken (svcSlot p))
    rspWait := addWaits g.rspWait n (r.map fun p => (g.rspSlot p).isSome && taken (g.rspSlot p)) }
/-- The cycles of an instruction or a repeat step with the slots it uses; a cycle that enforcement adds leaves them free, and
within a repeat every access waits (R207, R228). -/
def State.spend (s : State) (run : Bool) (e c : Nat) (rep : Bool) (slots : List Nat) : State :=
  let n := s.cyc e c
  s.passCycles run e n fun o => rep || (n == c && o.any slots.contains)
/-- An access or GET data that has waited 32 cycles takes the next cycle: a running engine issues nothing before it, except in a
repeat (R207, R238). -/
def State.svcDue (s : State) (e : Nat) : Bool :=
  let g := s.eng e
  s.engState e = 2 && g.rep == 0 &&
    ((32 ≤ g.svcWait.headD 0 && !(s.queued (256 + e) 0).isEmpty) || (32 ≤ g.rspWait.headD 0 && !(s.queued (256 + e) 1).isEmpty))
/-- The first queued access or response of VC `vc` takes its slot: after 32 cycles the engine stalls for one, in which only an
access of the same slot still waits (R207). -/
def State.slotTaken (s : State) (e vc : Nat) (slot : Option Nat) : State :=
  let g := s.eng e
  let w := if vc = 0 then g.svcWait.headD 0 else g.rspWait.headD 0
  let s := s.updEng e fun g => if vc = 0 then { g with svcWait := g.svcWait.tail } else { g with rspWait := g.rspWait.tail }
  if s.engState e = 2 ∧ 32 ≤ w then (s.inc Fld.DE_STALL_COUNT_COUNT e).passCycles true e 1 fun o => o == slot else s

/-- Set the PC; an index beyond 8,191 makes the next fetch overflow (R228). -/
def State.setPc (s : State) (e n : Nat) : State :=
  (s.updEng e fun g => { g with pcOver := 8192 ≤ n }).setF Fld.DE_PC_PC e n

/-- A step of HALTED has ended: its request is answered (R221). -/
def State.stepEnd (s : State) (e : Nat) : State :=
  let l := (s.eng e).stepCmds
  let s := (s.updEng e fun g => { g with stepping := false, stepCmds := [] }).setF Fld.DE_CTRL_STEP e 0
  s.each l fun s r => s.respond r 0 []

/-- Whether an engine issues now: in RUN and not at a boundary with a halt requested, or stepping in HALTED. -/
def State.issues (s : State) (e : Nat) : Bool :=
  (s.engState e = 2 && (s.f Fld.DE_CTRL_HALT e = 0 || (s.eng e).rep != 0)) || (s.engState e = 3 && (s.eng e).stepping)

/-- An instruction issues: the commit point of a DSP_STEP, which ends STEP, and of a DSP_START, which is answered (Table 09-6,
R221). -/
def State.begun (s : State) (e : Nat) : State :=
  let g := s.eng e
  let s := if g.stepping && g.rep == 0 then (s.each g.stepCmds State.committed).setF Fld.DE_CTRL_STEP e 0 else s
  match g.startCmd with
  | some c => (s.updEng e fun g => { g with startCmd := none }).respond c.cmd 0 []
  | none => s

/-- Issue the instruction at the PC of an engine, if its word is op and f (R210, R224, R228, R242). -/
def State.issue (s : State) (e op f : Nat) (body : State → Issue) : State :=
  let pc := s.f Fld.DE_PC_PC e
  let rep := (s.eng e).rep
  let run := s.engState e = 2
  if 256 ≤ e ∨ !s.issues e ∨ s.svcDue e then s
  else if (s.eng e).pcOver then (s.begun e).raise e 4 0 0
  else
    let (w, p, s1) := s.engRead (pAddr e pc)
    let s1 := if rep = 0 then s1 else s
    if p ∧ rep = 0 then (s1.begun e).raise e 1 2 pc
    else if pc = 8191 ∧ w / 2 ^ 26 = 0x30 then (s1.begun e).raise e 4 0 0
    else if illegalWord w then (s1.begun e).raise e 3 0 0
    else if w ≠ 2 ^ 26 * op + f then s
    else match body (s1.begun e) with
      | .wait => s.passCycles run e 1 fun _ => false
      | .exc c sp wd s2 => s2.raise e c sp wd
      | .startRep s2 n =>
        let s2 := ((s2.spend run e 1 false []).setPc e (pc + 1)).updEng e fun g => { g with rep := n }
        (s2.setF Fld.DE_REP_REMAINING e n).setF Fld.DE_STATE_REP e 1
      | .ended s2 c => s2.spend run e c false (usedSlots op f)
      | .fin s2 next c =>
        let s2 := s2.spend run e c (rep != 0) (usedSlots op f)
        if rep = 0 then
          let s2 := s2.setPc e (next.getD (pc + 1))
          if (s2.eng e).stepping then s2.stepEnd e else s2
        else
          let s2 := (s2.updEng e fun g => { g with rep := rep - 1 }).setF Fld.DE_REP_REMAINING e (rep - 1)
          if rep = 1 then
            let s2 := (s2.endRep e).setPc e (pc + 1)
            if (s2.eng e).stepping then s2.stepEnd e else s2
          else s2

/-- Check the pointers an instruction names (R209), then the rest. -/
def State.withPtrs (s : State) (e : Nat) (l : List Nat) (k : State → Issue) : Issue :=
  if l.all (s.eng e).ptrOk then k s else .exc 3 0 0 s
/-- Check the poison of register sources in field order: registers coded as DE_RF_IDX (R242). -/
def State.withRegs (s : State) (e : Nat) (l : List Nat) (k : State → Issue) : Issue :=
  let g := s.eng e
  match l.find? fun r => if r < 8 then (g.dv r).2 else (g.av (r - 8)).2 with
  | some r => .exc 1 3 r s
  | none => k s
/-- Read memory operands in order: a poisoned one raises POISON (R216, R242). -/
def State.withMem (s : State) (e : Nat) : List (Nat × Nat) → (State → List Nat → Issue) → Issue
  | [], k => k s []
  | (m, w) :: t, k =>
    let (v, p, s) := s.engRead (memAddr e m w)
    if p then .exc 1 (spaceOf m) w s else s.withMem e t fun s l => k s (v :: l)

/-! ### Moves -/

/-- LD (R229). -/
def State.doLd (s : State) (e f : Nat) : Issue :=
  let d := bits f 25 23
  let p := bits f 22 20
  s.withPtrs e [p] fun s =>
    let (v, b, s) := s.engRead (memAddr e p ((s.eng e).pv p))
    .fin ((s.setD e d v b).stepPtrs e [p]) none 1
/-- ST (R229). -/
def State.doSt (s : State) (e f : Nat) : Issue :=
  let d := bits f 25 23
  let p := bits f 22 20
  s.withPtrs e [p] fun s =>
    let (v, b) := (s.eng e).dv d
    .fin ((s.engStore (memAddr e p ((s.eng e).pv p)) v b).stepPtrs e [p]) none 1
/-- MOV (R229). -/
def State.doMov (s : State) (e f : Nat) : Issue :=
  let d := bits f 25 23
  let p := bits f 22 20
  s.withPtrs e [d, p] fun s =>
    let (v, b, s) := s.engRead (memAddr e p ((s.eng e).pv p))
    .fin ((s.engStore (memAddr e d ((s.eng e).pv d)) v b).stepPtrs e [d, p]) none 1
/-- MOVR (R229). -/
def State.doMovr (s : State) (e f : Nat) : Issue :=
  let (v, b) := (s.eng e).dv (bits f 22 20)
  .fin (s.setD e (bits f 25 23) v b) none 1
/-- LDI (R229). -/
def State.doLdi (s : State) (e f : Nat) : Issue :=
  let d := bits f 25 23
  let imm := bits f 15 0
  if bit f 22 = 0 then .fin (s.setD e d (low 32 (sgn 16 imm)) false) none 1
  else let (v, b) := (s.eng e).dv d; .fin (s.setD e d (v % 65536 + 65536 * imm) b) none 1
/-- Write a pointer, modifier or mode register. -/
def State.setPtrReg (s : State) (e kind p v : Nat) : State :=
  s.updEng e fun g => if kind = 0 then g.setPtr p v else if kind = 1 then g.setMod p v else g.setLen p v
/-- SETP (R229). -/
def State.doSetp (s : State) (e f : Nat) : Issue :=
  .fin (s.setPtrReg e (bits f 25 24) (bits f 23 21) (bits f 15 0)) none 1
/-- MOVP (R229). -/
def State.doMovp (s : State) (e f : Nat) : Issue :=
  let kind := bits f 24 23
  let p := bits f 22 20
  let n := bits f 19 17
  if bit f 25 = 0 then
    s.withRegs e [n] fun s => .fin (s.setPtrReg e kind p ((s.eng e).dv n).1) none 1
  else
    let g := s.eng e
    let v := if kind = 0 then g.pv p else if kind = 1 then low 32 (sgn 15 (g.mv p)) else g.lv p
    .fin (s.setD e n v false) none 1

/-! ### Accumulator copies -/

/-- ACC (R235). -/
def State.doAcc (s : State) (e f : Nat) : Issue :=
  let sub := bits f 25 23
  let a := bits f 22 21
  let d := bits f 20 18
  let (v, b) := (s.eng e).dv d
  let (x, c) := (s.eng e).av a
  let s' :=
    if sub = 0 then s.setA e a 0 false
    else if sub = 1 then s.setA e a (sgn 32 v) b
    else if sub = 2 then s.setA e a (sgn 48 (low 48 x % 2 ^ 32 + 2 ^ 32 * (v % 65536))) (b || c)
    else if sub = 3 then s.setD e d (low 48 x % 2 ^ 32) c
    else s.setD e d (low 32 (sgn 16 (low 48 x / 2 ^ 32))) c
  .fin s' none 1

/-! ### ALU -/

/-- Write an ALU result and its flags: N is bit 31, Z all 32 bits (R241). -/
def State.aluWrite (s : State) (e d : Nat) (r : Nat × Bool) : State :=
  (s.setD e d r.1 false).setNZV e (bit r.1 31 = 1) (r.1 = 0) r.2
/-- ALU (R230). CMP compares the words Ds and Dt in either lane mode (DEDUCED, log entry 23). -/
def State.doAlu (s : State) (e f : Nat) : Issue :=
  let op := bits f 16 13
  let ds := bits f 22 20
  let dt := bits f 19 17
  s.withRegs e (if op = 0xA ∨ op = 0xB then [ds] else [ds, dt]) fun s =>
    let x := ((s.eng e).dv ds).1
    let y := ((s.eng e).dv dt).1
    if op = 9 then .fin (s.flagsOf e (sgn 32 x - sgn 32 y) false) none 1
    else
      let lanes := bit f 12 = 1 && !(2 ≤ op && op ≤ 5)
      .fin (s.aluWrite e (bits f 25 23) (aluWord op x y lanes (s.satOn e))) none 1
/-- ALUI (R230). -/
def State.doAlui (s : State) (e f : Nat) : Issue :=
  let op := bits f 19 16
  let ds := bits f 22 20
  let imm := bits f 15 0
  s.withRegs e [ds] fun s =>
    let y := if op = 0 then low 32 (sgn 16 imm) else imm % 64
    .fin (s.aluWrite e (bits f 25 23) (aluWord op ((s.eng e).dv ds).1 y false (s.satOn e))) none 1

/-! ### Multiply-accumulate -/

/-- Write the pair of accumulators from p by OPC (R204, R231): each one judged by itself; the flags of the even one. -/
def State.macPair (s : State) (e pair opc : Nat) (p : Int × Int) : State :=
  let g := s.eng e
  let (r0, o0) := fitRange 48 (s.satOn e) (opcApply opc (g.av (2 * pair)).1 p.1)
  let (r1, o1) := fitRange 48 (s.satOn e) (opcApply opc (g.av (2 * pair + 1)).1 p.2)
  ((s.setA e (2 * pair) r0 false).setA e (2 * pair + 1) r1 false).flagsOf e r0 (o0 || o1)
/-- The accumulators that a MAC or MSU reads (R216). -/
def macRegs (pair opc : Nat) : List Nat := if opc ≤ 1 then [8 + 2 * pair, 9 + 2 * pair] else []

/-- CMAC and DMAC (R231). -/
def State.doMac (s : State) (e f : Nat) (complex : Bool) : Issue :=
  let pair := bit f 25
  let opc := bits f 24 23
  let fm := bit f 19 = 1
  let sm := bit f 15 = 1
  let fs := bits f 18 16
  let ss := bits f 14 12
  let px := if fm then [fs % 4] else []
  let py := if sm then [4 + ss % 4] else []
  s.withRegs e (macRegs pair opc ++ (if fm then [] else [fs]) ++ (if sm then [] else [ss])) fun s =>
    s.withPtrs e (px ++ py) fun s =>
      s.withMem e ((px ++ py).map fun k => (k, (s.eng e).pv k)) fun s l =>
        let x := if fm then l.headD 0 else ((s.eng e).dv fs).1
        let y := if sm then l.getLastD 0 else ((s.eng e).dv ss).1
        let p := if complex then cprod x y (bit f 22 = 1) (bit f 21 = 1) (bit f 20 = 1)
          else dprod x y (bit f 21 = 1) (bit f 20 = 1)
        .fin ((s.macPair e pair opc p).stepPtrs e (px ++ py)) none 1
/-- TAPM (R232). -/
def State.doTapm (s : State) (e f : Nat) : Issue :=
  let pair := bit f 25
  let opc := bits f 24 23
  let xi := bits f 20 19
  let yi := 4 + bits f 18 17
  s.withRegs e (macRegs pair opc) fun s =>
    s.withPtrs e [xi, yi] fun s =>
      let q := (s.eng e).pv xi
      s.withMem e [(xi, q), (yi, (s.eng e).pv yi)] fun s l =>
        let x := l.headD 0
        let c := l.getLastD 0
        let p := if bit f 21 = 0 then cprod x c (bit f 22 = 1) false false else dprod x c false false
        let s := s.engStore (xAddr e (updPtr ((s.eng e).lv xi) q 1)) x false
        .fin ((s.macPair e pair opc p).stepPtrs e [xi, yi]) none 1
/-- One field of a narrowing store (R205): its bits and whether it was out of range. -/
def narrowField (w : Nat) (sat : Bool) (v : Int) (sh : Nat) : Int × Bool := fitRange w sat (roundShift v sh)
/-- BFLY (R233). -/
def State.doBfly (s : State) (e f : Nat) : Issue :=
  let sh := bits f 25 20
  s.withPtrs e [0, 1, 4] fun s =>
    let g := s.eng e
    s.withMem e [(0, g.pv 0), (1, g.pv 1), (4, g.pv 4)] fun s l =>
      let a := nth l 0
      let t := cprod (nth l 1) (nth l 2) false false false
      let sat := s.satOn e
      let re := 32768 * halfOf a 0 false
      let im := 32768 * halfOf a 1 false
      let (r2, o2) := fitRange 48 sat (re + t.1)
      let (r3, o3) := fitRange 48 sat (im + t.2)
      let (r0, o0) := fitRange 48 sat (re - t.1)
      let (r1, o1) := fitRange 48 sat (im - t.2)
      let s := ((s.setA e 2 r2 false).setA e 3 r3 false).setA e 0 r0 false
      let s := s.setA e 1 r1 false
      let (n2, p2) := narrowField 16 sat r2 sh
      let (n3, p3) := narrowField 16 sat r3 sh
      let (n0, p0) := narrowField 16 sat r0 sh
      let (n1, p1) := narrowField 16 sat r1 sh
      let s := s.engStore (xAddr e (g.pv 0)) (low 16 n2 + 65536 * low 16 n3) false
      let s := s.engStore (xAddr e (g.pv 1)) (low 16 n0 + 65536 * low 16 n1) false
      .fin ((s.flagsOf e r0 (o0 || o1 || o2 || o3 || p0 || p1 || p2 || p3)).stepPtrs e [0, 1, 4]) none 2
/-- STA (R234). -/
def State.doSta (s : State) (e f : Nat) : Issue :=
  let wide := bit f 23 = 1
  let dst := bit f 22
  let p := bits f 21 19
  let sh := bits f 18 13
  s.withPtrs e (if dst = 0 then [p] else []) fun s =>
    let g := s.eng e
    let sat := s.satOn e
    let an := if wide then 2 * bit f 25 else bits f 25 24
    let (v, c) := g.av an
    let (v', c') := g.av (an + 1)
    let (r, o) := narrowField (if wide then 16 else 32) sat v sh
    let (r', o') := narrowField 16 sat v' sh
    let word := if wide then low 16 r + 65536 * low 16 r' else low 32 r
    let bad := if wide then c || c' else c
    let s := if dst = 0 then (s.engStore (memAddr e p (g.pv p)) word bad).stepPtrs e [p] else s.setD e p word bad
    .fin (s.flagsOf e r (if wide then o || o' else o)) none 1

/-! ### Control -/

/-- Cycles of a repeatable instruction (Table 10-2); none where it is not repeatable. -/
def repeatCycles (op : Nat) : Option Nat :=
  if op ≤ 4 ∨ op = 0x10 ∨ op = 0x11 ∨ op = 0x20 ∨ op = 0x21 ∨ op = 0x22 ∨ op = 0x28 then some 1
  else if op = 0x23 then some 2 else none
/-- REP (R210, R236): the checks on the instruction at PC + 1 come before its steps. -/
def State.doRep (s : State) (e f : Nat) : Issue :=
  let pc := s.f Fld.DE_PC_PC e
  let r := bit f 25
  let ds := bits f 24 22
  let (w, p, s) := s.engRead (pAddr e (pc + 1))
  if p then .exc 1 2 (pc + 1) s
  else match repeatCycles (w / 2 ^ 26) with
    | none => .exc 3 0 0 s
    | some c =>
      let (v, bad) := (s.eng e).dv ds
      let n := if r = 0 then bits f 15 0 + 1 else v % 2 ^ 17
      if r = 0 ∧ 65536 < n * c then .exc 3 0 0 s
      else if r = 1 ∧ bad then .exc 1 3 ds s
      else if n = 0 ∨ 65536 < n * c then .exc 3 0 0 s
      else .startRep s n
/-- Branch conditions (R237). -/
def State.cond (s : State) (e c : Nat) : Bool :=
  let z := s.f Fld.DE_FLAGS_Z e = 1
  let n := s.f Fld.DE_FLAGS_N e = 1
  let v := s.f Fld.DE_FLAGS_V e = 1
  match c with
  | 0 => true
  | 1 => z
  | 2 => !z
  | 3 => n
  | 4 => !n
  | 5 => v
  | 6 => !v
  | _ => s.f Fld.DE_FLAGS_STICKY e = 1
/-- BR (R237). -/
def State.doBr (s : State) (e f : Nat) : Issue :=
  if s.cond e (bits f 25 22) then .fin s (some (bits f 12 0)) 2 else .fin s none 1
/-- DBNZ (R237). -/
def State.doDbnz (s : State) (e f : Nat) : Issue :=
  let n := bits f 25 23
  s.withRegs e [n] fun s =>
    let v := (((s.eng e).dv n).1 + (2 ^ 32 - 1)) % 2 ^ 32
    let s := s.setD e n v false
    if v = 0 then .fin s none 1 else .fin s (some (bits f 12 0)) 2
/-- CALL (R237). -/
def State.doCall (s : State) (e f : Nat) : Issue :=
  if 4 ≤ (s.eng e).stack.length then .exc 3 0 0 s
  else
    let pc := s.f Fld.DE_PC_PC e
    .fin (s.updEng e fun g => { g with stack := (pc + 1) :: g.stack }) (some (bits f 12 0)) 2
/-- RET (R237). -/
def State.doRet (s : State) (e : Nat) : Issue :=
  match (s.eng e).stack with
  | [] => .exc 3 0 0 s
  | n :: t => .fin (s.updEng e fun g => { g with stack := t }) (some n) 2

/-! ### The engine's own registers -/

/-- Bit t of DE_STATE.TAGS: tag t is outstanding or holds a status (R221). -/
def State.tagMap (s : State) (e : Nat) : Nat :=
  ((List.range 8).map fun t => if (mget (fun _ => {}) (s.eng e).tags t).used then 2 ^ t else 0).sum
/-- The register that DE_RF_IDX selects (R223). -/
def Eng.rf (g : Eng) (k : Nat) : Nat :=
  if k < 8 then (g.dv k).1
  else if k < 12 then low 48 (g.av (k - 8)).1 % 2 ^ 32
  else if k < 16 then low 48 (g.av (k - 12)).1 / 2 ^ 32
  else if k < 24 then g.pv (k - 16)
  else if k < 32 then g.mv (k - 24)
  else if k < 40 then g.lv (k - 32)
  else 0
/-- Whether the register file window answers (R223). -/
def State.rfOpen (s : State) (e : Nat) : Bool := s.engState e = 3 || s.engState e = 4
/-- Read register r of engine e's block with what the read does: the high-word latch and read-to-clear fields. -/
def State.deRead (s : State) (e : Nat) (r : Reg) : Word × State :=
  match r with
  | .DE_STATE => (Fld.DE_STATE_TAGS.set (s.rd .DE_STATE e) (s.tagMap e), s)
  | .DE_CYCLES_LO =>
    let c := (s.eng e).cycles
    (BitVec.ofNat 32 c, { s with latch := mput (fun _ => 0) s.latch (Reg.addr .DE_CYCLES_HI e) (BitVec.ofNat 32 (c / 2 ^ 32)) })
  | .DE_CYCLES_HI => (mget (fun _ => 0) s.latch (Reg.addr .DE_CYCLES_HI e), s)
  | .DE_RF_DATA => (if s.rfOpen e then BitVec.ofNat 32 ((s.eng e).rf (s.f Fld.DE_RF_IDX_REG e)) else 0, s)
  | .DE_STALL_COUNT => (s.rd .DE_STALL_COUNT e, s.setF Fld.DE_STALL_COUNT_COUNT e 0)
  | .DE_EXC_COUNT => (s.rd .DE_EXC_COUNT e, s.setF Fld.DE_EXC_COUNT_COUNT e 0)
  | r => (s.rd r e, s)
/-- The DE register at a byte offset of an engine's block (Table 09-7). -/
def deRegAt (off : Nat) : Option Reg :=
  match Reg.atOffset (0x500000 + off) with
  | some (r, 0) => if off ≤ 0x44 then some r else none
  | _ => none
/-- RDR (R235). -/
def State.doRdr (s : State) (e f : Nat) : Issue :=
  let d := bits f 25 23
  match deRegAt (4 * bits f 7 2) with
  | some r => let (v, s) := s.deRead e r; .fin (s.setD e d v.toNat false) none 1
  | none => .fin (s.setD e d 0 false) none 1
/-- WRR (R235): DE_MODE, and STICKY of DE_FLAGS. -/
def State.doWrr (s : State) (e f : Nat) : Issue :=
  let d := bits f 22 20
  s.withRegs e [d] fun s =>
    let v := ((s.eng e).dv d).1
    match deRegAt (4 * bits f 7 2) with
    | some .DE_MODE => .fin (s.setF Fld.DE_MODE_SAT e v) none 1
    | some .DE_FLAGS => .fin (if bit v 3 = 1 then s.setF Fld.DE_FLAGS_STICKY e 0 else s) none 1
    | _ => .fin s none 1

/-! ### Corridor instructions -/

def Eng.tag (g : Eng) (t : Nat) : EngTag := mget (fun _ => {}) g.tags t
def Eng.setTag (g : Eng) (t : Nat) (x : EngTag) : Eng := { g with tags := mput (fun _ => {}) g.tags t x }
/-- Cause of a recorded status: BUS_ERROR or LINK_LOST (Table 09-3). -/
def tagCause (st : Nat) : Nat := if st = 2 then 2 else 5
/-- The lowest tag of a list with a recorded status. -/
def Eng.badTag (g : Eng) (l : List Nat) : Option Nat := l.find? fun t => (g.tag t).used && (g.tag t).status != 0

/-- Begin an instruction that takes a tag (R238): the lowest free one; none free raises a recorded status or waits. -/
def State.withTag (s : State) (e : Nat) (k : Nat → Issue) : Issue :=
  let g := s.eng e
  match (List.range 8).find? fun t => !(g.tag t).used && (s.outReq (outKey (256 + e) 0 t)).isNone with
  | some t => k t
  | none => match g.badTag (List.range 8) with
    | some t => .exc (tagCause (g.tag t).status) 3 t s
    | none => .wait

/-- Words p onward of a memory, wrapping at 16,384: their bytes, and which are poisoned. -/
def State.wordsAt (s : State) (e m p : Nat) : Nat → List (Nat × Bool) × State
  | 0 => ([], s)
  | n + 1 =>
    let (l, s) := s.wordsAt e m p n
    let (v, b, s) := s.engRead (memAddr e m ((p + n) % 16384))
    (l ++ [(v, b)], s)
def wordBytes (l : List (Nat × Bool)) : List Byte := (l.map fun (x : Nat × Bool) => leBytes 4 x.1).flatten
/-- POISON bits of the words of a payload that starts at byte a of a 256-byte block. -/
def wordMarks (a : Nat) (l : List (Nat × Bool)) : Nat :=
  (l.zipIdx).foldl (fun m (x : (Nat × Bool) × Nat) =>
    let lo := a + 4 * x.2
    if x.1.2 then Nat.lor (Nat.lor m (2 ^ (lo / 32 % 8))) (2 ^ ((lo + 3) / 32 % 8)) else m) 0
/-- Take tag t for a request, write its number to DT, update the pointer, and send the packet. -/
def State.engSend (s : State) (e f t dst : Nat) (p : Packet) : State :=
  let s := s.updEng e fun g => ((g.setTag t { used := true, dst := dst }).setD (bits f 16 14) t false).stepPtr (bits f 22 20)
  s.request (256 + e) p

/-- GET (R238). -/
def State.doGet (s : State) (e f : Nat) : Issue :=
  let k := bits f 22 20
  let da := bits f 19 17
  let len := bits f 13 8
  s.withTag e fun t =>
    s.withRegs e [da, da + 1] fun s =>
      s.withPtrs e [k] fun s =>
        let g := s.eng e
        let a := (g.dv da).1 + 2 ^ 32 * (g.dv (da + 1)).1
        let dst := g.pv k + if k < 4 then 0 else 16384
        .fin (s.engSend e f t dst (mkReq s 0 (256 + e) t a (4 * len + 3) [])) none 1
/-- PUT (R238). -/
def State.doPut (s : State) (e f : Nat) : Issue :=
  let k := bits f 22 20
  let da := bits f 19 17
  let len := bits f 13 8
  s.withTag e fun t =>
    s.withRegs e [da, da + 1] fun s =>
      s.withPtrs e [k] fun s =>
        let g := s.eng e
        let a := (g.dv da).1 + 2 ^ 32 * (g.dv (da + 1)).1
        let (l, s) := s.wordsAt e k (g.pv k) (len + 1)
        .fin (s.engSend e f t 0 (mkReq s 1 (256 + e) t a (4 * len + 3) (wordBytes l) (wordMarks (a % 256) l))) none (len + 1)
/-- SENDMSG (R238). -/
def State.doSendmsg (s : State) (e f : Nat) : Issue :=
  let k := bits f 22 20
  let da := bits f 19 17
  let len := bits f 13 8
  s.withTag e fun t =>
    s.withRegs e [da] fun s =>
      s.withPtrs e [k] fun s =>
        let g := s.eng e
        let v := (g.dv da).1
        let (l, s) := s.wordsAt e k (g.pv k) (len + 1)
        let p := mkReq s 2 (256 + e) t (epDest (bits v 9 0) (bits v 19 10)) (4 * len + 3) (wordBytes l) (wordMarks 0 l)
        .fin (s.engSend e f t 0 { p with dstPlane := bits v 21 20 }) none (len + 1)

/-- Token records of 3 X words each from p (R213, R238): the records, or the word of the first poisoned tag. -/
def State.engRecs (s : State) (e p : Nat) : Nat → (Option Nat × List TokRec) × State
  | 0 => ((none, []), s)
  | n + 1 =>
    let ((bad, l), s) := s.engRecs e p n
    let w (j : Nat) : Nat := (p + 3 * n + j) % 16384
    let (a, pa, s) := s.engRead (xAddr e (w 0))
    let (b, pb, s) := s.engRead (xAddr e (w 1))
    let (v, pv, s) := s.engRead (xAddr e (w 2))
    let bad := match bad with
      | some x => some x
      | none => if pa then some (w 0) else if pb then some (w 1) else none
    ((bad, l ++ [{ tag := a + 2 ^ 32 * b, value := v, poison := pv }]), s)
/-- SENDTOK (R238). -/
def State.doSendtok (s : State) (e f : Nat) : Issue :=
  let k := bits f 22 20
  let da := bits f 19 17
  let n := bits f 10 8
  s.withTag e fun t =>
    s.withRegs e [da] fun s =>
      s.withPtrs e [k] fun s =>
        let g := s.eng e
        let ((bad, l), s) := s.engRecs e (g.pv k) n
        match bad with
        | some w => .exc 1 0 w s
        | none =>
          let p := mkReq s 5 (256 + e) t (epDest (bits (g.dv da).1 9 0) 544) (16 + 12 * n - 1) (tokPayload l 0) (poisonBits l)
          .fin (s.engSend e f t 0 p) none (3 * n)

/-- Wait for the tags of a mask (R239), then go on with their statuses cleared. -/
def State.withWait (s : State) (e mask : Nat) (k : State → Issue) : Issue :=
  let g := s.eng e
  let l := (List.range 8).filter fun t => bit mask t == 1 && (g.tag t).used
  if l.any fun t => (g.tag t).status == 0 then .wait
  else match g.badTag l with
    | some t => .exc (tagCause (g.tag t).status) 3 t s
    | none => k s
/-- WAIT (R239). -/
def State.doWait (s : State) (e f : Nat) : Issue := s.withWait e (f % 256) fun s => .fin s none 1
/-- DONE (R213, R215, R239); the TOKEN of a started program takes a tag as SENDTOK does (R238), never one that an expired
request keeps out of use (R165). -/
def State.doDone (s : State) (e f : Nat) : Issue :=
  let n := f % 8
  s.withWait e 255 fun s =>
    let ((bad, l), s) := s.engRecs e 0x3FE0 n
    match bad with
    | some w => .exc 1 0 w s
    | none =>
      let pc := s.f Fld.DE_PC_PC e
      let leave (s : State) : Issue := .ended (((s.setPc e (pc + 1)).haltLost e).engIdle e) (1 + 3 * n)
      if (s.eng e).started && n != 0 then
        s.withTag e fun t => leave <| (s.updEng e fun g => g.setTag t { used := true }).request (256 + e)
          (mkReq s 5 (256 + e) t (epDest s.node 544) (16 + 12 * n - 1) (tokPayload l 0) (poisonBits l))
      else leave (if (s.eng e).started then s else s.sendDone e (s.f Fld.DE_TASK_INDEX e) l)
/-- BKPT (R240): completes, then acts as HALT = 1 at the following boundary. -/
def State.doBkpt (s : State) (e : Nat) : Issue := .fin (s.setF Fld.DE_CTRL_HALT e 1) none 1

/-! ### Meanings -/

def execNopInstruction (engine f : Nat) (s : State) : Host.Outcome State Fault Refusal :=
  .next (s.issue engine 0x00 f fun s => .fin s none 1)
def execLd (engine f : Nat) (s : State) : Host.Outcome State Fault Refusal := .next (s.issue engine 0x01 f fun s => s.doLd engine f)
def execSt (engine f : Nat) (s : State) : Host.Outcome State Fault Refusal := .next (s.issue engine 0x02 f fun s => s.doSt engine f)
def execMov (engine f : Nat) (s : State) : Host.Outcome State Fault Refusal := .next (s.issue engine 0x03 f fun s => s.doMov engine f)
def execMovr (engine f : Nat) (s : State) : Host.Outcome State Fault Refusal := .next (s.issue engine 0x04 f fun s => s.doMovr engine f)
def execLdi (engine f : Nat) (s : State) : Host.Outcome State Fault Refusal := .next (s.issue engine 0x05 f fun s => s.doLdi engine f)
def execSetp (engine f : Nat) (s : State) : Host.Outcome State Fault Refusal := .next (s.issue engine 0x06 f fun s => s.doSetp engine f)
def execMovp (engine f : Nat) (s : State) : Host.Outcome State Fault Refusal := .next (s.issue engine 0x07 f fun s => s.doMovp engine f)
def execRdr (engine f : Nat) (s : State) : Host.Outcome State Fault Refusal := .next (s.issue engine 0x08 f fun s => s.doRdr engine f)
def execWrr (engine f : Nat) (s : State) : Host.Outcome State Fault Refusal := .next (s.issue engine 0x09 f fun s => s.doWrr engine f)
def execAcc (engine f : Nat) (s : State) : Host.Outcome State Fault Refusal := .next (s.issue engine 0x0A f fun s => s.doAcc engine f)
def execAlu (engine f : Nat) (s : State) : Host.Outcome State Fault Refusal := .next (s.issue engine 0x10 f fun s => s.doAlu engine f)
def execAlui (engine f : Nat) (s : State) : Host.Outcome State Fault Refusal := .next (s.issue engine 0x11 f fun s => s.doAlui engine f)
def execCmac (engine f : Nat) (s : State) : Host.Outcome State Fault Refusal := .next (s.issue engine 0x20 f fun s => s.doMac engine f true)
def execDmac (engine f : Nat) (s : State) : Host.Outcome State Fault Refusal := .next (s.issue engine 0x21 f fun s => s.doMac engine f false)
def execTapm (engine f : Nat) (s : State) : Host.Outcome State Fault Refusal := .next (s.issue engine 0x22 f fun s => s.doTapm engine f)
def execBfly (engine f : Nat) (s : State) : Host.Outcome State Fault Refusal := .next (s.issue engine 0x23 f fun s => s.doBfly engine f)
def execSta (engine f : Nat) (s : State) : Host.Outcome State Fault Refusal := .next (s.issue engine 0x28 f fun s => s.doSta engine f)
def execRep (engine f : Nat) (s : State) : Host.Outcome State Fault Refusal := .next (s.issue engine 0x30 f fun s => s.doRep engine f)
def execBr (engine f : Nat) (s : State) : Host.Outcome State Fault Refusal := .next (s.issue engine 0x31 f fun s => s.doBr engine f)
def execDbnz (engine f : Nat) (s : State) : Host.Outcome State Fault Refusal := .next (s.issue engine 0x32 f fun s => s.doDbnz engine f)
def execCall (engine f : Nat) (s : State) : Host.Outcome State Fault Refusal := .next (s.issue engine 0x33 f fun s => s.doCall engine f)
def execRet (engine f : Nat) (s : State) : Host.Outcome State Fault Refusal := .next (s.issue engine 0x34 f fun s => s.doRet engine)
def execGet (engine f : Nat) (s : State) : Host.Outcome State Fault Refusal := .next (s.issue engine 0x38 f fun s => s.doGet engine f)
def execPut (engine f : Nat) (s : State) : Host.Outcome State Fault Refusal := .next (s.issue engine 0x39 f fun s => s.doPut engine f)
def execSendtok (engine f : Nat) (s : State) : Host.Outcome State Fault Refusal := .next (s.issue engine 0x3A f fun s => s.doSendtok engine f)
def execSendmsg (engine f : Nat) (s : State) : Host.Outcome State Fault Refusal := .next (s.issue engine 0x3B f fun s => s.doSendmsg engine f)
def execWait (engine f : Nat) (s : State) : Host.Outcome State Fault Refusal := .next (s.issue engine 0x3C f fun s => s.doWait engine f)
def execDoneInstruction (engine f : Nat) (s : State) : Host.Outcome State Fault Refusal :=
  .next (s.issue engine 0x3D f fun s => s.doDone engine f)
def execBkpt (engine f : Nat) (s : State) : Host.Outcome State Fault Refusal := .next (s.issue engine 0x3F f fun s => s.doBkpt engine)

end Sys2Proof.Machine
end

