-- ==== Sys2Proof/Machine/Engines.lean ====
section
/-!
DEFINITION. The engines as workers and as endpoints (R207, R208, R211–R215, R218, R219, R223): dispatch, halts and
steps, corridor responses, service accesses to their memories, and the DSP commands.
-/
namespace Sys2Proof.Machine

/-! ### Starting a program -/

/-- Load D0–D7 and clear everything else, then RUN at an entry point (R212, R215). -/
def State.startEngine (s : State) (e entry : Nat) (ops : List Nat) (pmask : Nat) (byCmd : Bool) : State :=
  let s := s.updEng e fun g =>
    { g with
      d := [], a := [], ptr := [], mod := [], len := [], stack := [], pcOver := false, rep := 0, started := byCmd,
      svcWait := [], rspWait := [],
      tags := g.tags.filter fun (t : Nat × EngTag) => t.2.status == 0 }
  let s := s.each (List.range 8) fun s k => s.setD e k (nth ops k) (bit pmask k == 1)
  let s := (s.wr .DE_FLAGS e 0).wr .DE_MODE e 0
  let s := (s.setF Fld.DE_PC_PC e entry).setF Fld.DE_EXC_VALID e 0
  s.setF Fld.DE_STATE_STATE e 2

/-- DISPATCH: a DISPATCH packet at an engine's endpoint (R212). -/
def State.engDispatch (s : State) (e : Nat) : State :=
  match s.takeOn (ejectLinks (256 + e)) 2 (fun p => p.type == 6 && s.isFor (256 + e) p) with
  | none => s
  | some (p, s) =>
    if s.gateShut 1 (e / 16) then s.refuse p (256 + e) 5
    else if s.engState e ≠ 1 then s.refuse p (256 + e) 9
    else
      let w0 := leNat (p.payload.take 4)
      let s := s.writeRun (xAddr e 0x3FF0) (fit 0 64 p.payload)
      let ops := (List.range 8).map fun k => leNat (slice p.payload (32 + 4 * k) 4)
      let s := s.startEngine e (s.tplTarget (w0 % 4096)) ops (bits w0 19 12) false
      let s := (s.setF Fld.DE_TASK_VALID e 1).setF Fld.DE_TASK_INDEX e (dispatchIndex p)
      let s := s.setF Fld.DE_STATE_TASK_VALID e 1
      s.inject (256 + e) (answer s p 4 (256 + e) 0 [] 0 false)

/-! ### Halts and steps -/

/-- HALT_REQUEST: a write of DE_CTRL.HALT (R211). -/
def State.haltRequest (s : State) (e value : Nat) : State := s.setF Fld.DE_CTRL_HALT e (bit value 31)
/-- ENGINE_HALT: the first boundary after any repeat (R211). -/
def State.engineHalt (s : State) (e : Nat) : State :=
  if s.engState e = 2 ∧ s.f Fld.DE_CTRL_HALT e = 1 ∧ (s.eng e).rep = 0 then
    let l := (s.eng e).haltCmds
    ((s.setF Fld.DE_STATE_STATE e 3).updEng e fun g => { g with haltCmds := [] }).each l fun s r => s.respond r 0 []
  else s
/-- A step requested in HALTED (R221): the next instruction command of the engine runs. -/
def State.askStep (s : State) (e : Nat) : State :=
  if s.engState e = 3 then (s.setF Fld.DE_CTRL_STEP e 1).updEng e fun g => { g with stepping := true } else s

/-- DE_RF_DATA_WRITE (R223): a write clears the register's poison bit. -/
def State.rfWrite (s : State) (e v : Nat) : State :=
  if !s.rfOpen e then s
  else
    let k := s.f Fld.DE_RF_IDX_REG e
    s.updEng e fun g =>
      if k < 8 then g.setD k v false
      else if k < 12 then g.setA (k - 8) (sgn 48 (low 48 (g.av (k - 8)).1 / 2 ^ 32 * 2 ^ 32 + v % 2 ^ 32)) false
      else if k < 16 then g.setA (k - 12) (sgn 48 (low 48 (g.av (k - 12)).1 % 2 ^ 32 + v % 2 ^ 16 * 2 ^ 32)) false
      else if k < 24 then g.setPtr (k - 16) v
      else if k < 32 then g.setMod (k - 24) v
      else if k < 40 then g.setLen (k - 32) v
      else g

/-! ### Corridor responses -/

/-- Read data of a GET goes into X or Y words as it arrives; poisoned words are stored as poison (R214). -/
def State.getData (s : State) (e dst : Nat) (req p : Packet) : State :=
  let k := if dst < 16384 then 0 else 4
  s.each (List.range ((req.len + 1) / 4)) fun s j =>
    let lo := req.addr % 256 + 4 * j
    let bad := bit p.poison (lo / 32 % 8) = 1 || bit p.poison ((lo + 3) / 32 % 8) = 1
    s.engStore (memAddr e k ((dst + j) % 16384)) (leNat (slice p.payload (4 * j) 4)) bad

def State.setTag (s : State) (e t : Nat) (x : EngTag) : State := s.updEng e fun g => g.setTag t x

/-- A response to request `req` of tag t (R214, R238). -/
def State.engAnswered (s : State) (e t : Nat) (req p : Packet) : State :=
  let g := (s.eng e).tag t
  if p.status = 1 then
    if req.type = 1 then
      match writeParts req p.poison with
      | q :: rest => (s.setTag e t { g with more := rest ++ g.more }).request (256 + e) q
      | [] => s.request (256 + e) req
    else if req.type = 5 then s.request (256 + e) (tokRepostOf req p.poison)
    else s.request (256 + e) req
  else if 2 ≤ p.status then s.setTag e t { g with status := p.status, more := [] }
  else
    let s := if req.type = 0 then s.getData e g.dst req p else s
    match g.more with
    | q :: rest => (s.setTag e t { g with more := rest }).request (256 + e) q
    | [] => s.setTag e t {}

/-- ENGINE_RESPONSE: the next response at an engine's endpoint. Data of a GET takes its write slot as a service access does, and
waits while a repeat runs (R207, R238). -/
def State.engResponse (s : State) (e : Nat) : State :=
  match s.take (256 + e) 1 with
  | none => s
  | some (p, s1) =>
    if (s.eng e).rep ≠ 0 ∧ p.type = 3 then s
    else
      let s := s1.slotTaken e 1 ((s.eng e).rspSlot p)
      let (r, s) := s.matchRsp (256 + e) p
      match r with
      | some r => if (s.eng e).tag p.tag |>.used then s.engAnswered e p.tag r.pkt p else s
      | none => s

/-! ### Service accesses -/

/-- Bus error of an access of a service agent of this stack to an engine's memory (R208, R331): a GATED or FALLOW engine, a
write of program memory in a state that does not allow it. -/
def State.engClosed (s : State) (e : Nat) (progWrite : Bool) : Option Nat :=
  let st := s.engState e
  if st = 0 ∨ s.gateDraining 1 (e / 16) then some 5
  else if st = 6 then some 3
  else if progWrite && !(st = 1 || st = 3 || st = 4 || st = 5) then some 3
  else none
/-- Bus error of a service access to an engine's memory (R208, R331). -/
def State.engDeny (s : State) (e : Nat) (p : Packet) : Option Nat :=
  if !addrForm p.type then some 9
  else
    match s.engClosed e (p.type == 1 && decodeAddr p.addr == .engProg e) with
    | some c => some c
    | none => if p.srcNode ≠ s.node ∧ s.f Fld.DE_CFG_REMOTE_OK e = 0 then some 3 else none

/-- ENGINE_MEMORY_ACCESS: the next request at an engine's endpoint takes a slot; one that has waited 32 cycles stalls the
engine (R207). -/
def State.engMemAccess (s : State) (e : Nat) : State :=
  if (s.eng e).rep ≠ 0 then s
  else match s.take (256 + e) 0 with
    | none => s
    | some (p, s) =>
      let s := s.slotTaken e 0 (svcSlot p)
      match s.engDeny e p with
      | some c => s.refuse p (256 + e) c
      | none => s.memAccess (256 + e) p

/-! ### Meanings -/

def execDispatch (engine : Nat) (s : State) : Host.Outcome State Fault Refusal :=
  .next (if engine < 256 then s.engDispatch engine else s)
def execHaltRequest (engine value : Nat) (s : State) : Host.Outcome State Fault Refusal := .next (s.haltRequest engine value)
def execEngineHalt (engine : Nat) (s : State) : Host.Outcome State Fault Refusal := .next (s.engineHalt engine)
def execStep (engine : Nat) (s : State) : Host.Outcome State Fault Refusal := .next (s.askStep engine)
def execDeRfDataWrite (engine value : Nat) (s : State) : Host.Outcome State Fault Refusal := .next (s.rfWrite engine value)
def execEngineMemoryAccess (engine : Nat) (s : State) : Host.Outcome State Fault Refusal :=
  .next (if engine < 256 then s.engMemAccess engine else s)
def execEngineResponse (engine : Nat) (s : State) : Host.Outcome State Fault Refusal :=
  .next (if engine < 256 then s.engResponse engine else s)

/-! ### DSP commands (Table 09-6, Table 17-12) -/

/-- The checks that every DSP command makes (R219): BAD_ARG, DENIED for a fallow engine, NOT_READY for a gated one. -/
def State.dspChecks (s : State) (e : Nat) (gate : Bool) (l : List (Bool × Nat)) : List (Bool × Nat) :=
  [(decide (256 ≤ e), 3), (decide (s.engState e = 6), 4), (gate && s.engState e = 0, 5)] ++ l

def execDspStatus (h : CmdHdr) (engine : Nat) (s : State) : Host.Outcome State Fault Refusal :=
  .next (s.submit h 0x0601 .s (argBytes [(6, 2, engine)]) fun s =>
    s.checks h (s.dspChecks engine false []) fun s =>
      s.replyData h (regData [(s.deRead engine .DE_STATE).1, s.rd .DE_PC engine, s.rd .DE_TASK engine, s.rd .DE_EXC engine,
        s.rd .DE_EXC_ADDR engine, s.rd .DE_REP engine]))
def execDspHalt (h : CmdHdr) (engine : Nat) (s : State) : Host.Outcome State Fault Refusal :=
  .next (s.submit h 0x0602 .r (argBytes [(6, 2, engine)]) fun s =>
    s.checks h (s.dspChecks engine true [(s.engState engine ≠ 2, 5)]) fun s =>
      ((s.uncommitted h.ref).setF Fld.DE_CTRL_HALT engine 1).updEng engine fun g => { g with haltCmds := g.haltCmds ++ [h.ref] })
def execDspResume (h : CmdHdr) (engine : Nat) (s : State) : Host.Outcome State Fault Refusal :=
  .next (s.submit h 0x0603 .r (argBytes [(6, 2, engine)]) fun s =>
    s.checks h (s.dspChecks engine true [(s.engState engine ≠ 3, 4)]) fun s =>
      ((s.setF Fld.DE_CTRL_HALT engine 0).setF Fld.DE_STATE_STATE engine 2).reply h 0)
def execDspStep (h : CmdHdr) (engine : Nat) (s : State) : Host.Outcome State Fault Refusal :=
  .next (s.submit h 0x0604 .r (argBytes [(6, 2, engine)]) fun s =>
    s.checks h (s.dspChecks engine true [(s.engState engine ≠ 3, 5)]) fun s =>
      ((s.uncommitted h.ref).askStep engine).updEng engine fun g => { g with stepCmds := g.stepCmds ++ [h.ref] })

/-- Stop an engine and end its task: DROP 0 returns it to READY, DROP 1 sends DONE with COUNT 0 (R218). -/
def State.resetEngine (s : State) (e drop : Nat) : State :=
  let task := s.f Fld.DE_TASK_VALID e = 1
  let i := s.f Fld.DE_TASK_INDEX e
  let s := (s.clearEngine e 1).engIdle e
  if !task then s
  else if drop = 0 then
    (if (s.desc i).state = 4 ∧ (s.desc i).worker = 512 + e then s.returnTask i else s)
  else s.sendDone e i []
def execDspReset (h : CmdHdr) (engine drop : Nat) (s : State) : Host.Outcome State Fault Refusal :=
  .next (s.submit h 0x0605 .r (argBytes [(6, 2, engine), (8, 1, drop)]) fun s =>
    s.checks h (s.dspChecks engine true [(2 ≤ drop, 3)]) fun s =>
      ((s.resetEngine engine drop).setF Fld.DE_EXC_VALID engine 0).reply h 0)
def execDspStart (h : CmdHdr) (engine entry : Nat) (vals : List Nat) (s : State) : Host.Outcome State Fault Refusal :=
  .next (s.submit h 0x0606 .r (argBytes ([(6, 2, engine), (8, 2, entry)] ++ (List.range 8).map fun k => (12 + 4 * k, 4, nth vals k))) fun s =>
    s.checks h (s.dspChecks engine true [(8192 ≤ entry, 3), (s.mapBit Fld.SC_EMAP_MAP engine, 4),
        (s.engState engine ≠ 1, 2)]) fun s =>
      let old := [.DE_FLAGS, .DE_MODE, .DE_PC, .DE_EXC].map fun r => s.rd r engine
      let tags := (s.eng engine).tags.filter fun (t : Nat × EngTag) => t.2.status != 0
      ((s.uncommitted h.ref).startEngine engine entry vals 0 true).updEng engine fun g =>
        { g with startCmd := some ⟨h.ref, old, tags⟩ })

/-- ABORT of a DSP_START before its first instruction: the engine is IDLE again, as it was (R393). -/
def State.unstart (s : State) (e : Nat) (c : EngStart) : State :=
  let s := s.updEng e fun g =>
    { g with d := [], startCmd := none, started := false, tags := c.tags.foldl (fun m (t : Nat × EngTag) => mput (fun _ => {}) m t.1 t.2) g.tags }
  let s := ([.DE_FLAGS, .DE_MODE, .DE_PC, .DE_EXC].zip c.words).foldl (fun s (x : Reg × Word) => s.wr x.1 e x.2) s
  s.setF Fld.DE_STATE_STATE e (if s.f Fld.SC_STATUS_ENG_SHED = 1 then 5 else 1)

end Sys2Proof.Machine
end

