-- ==== Sys2Proof/Machine/Frames.lean ====
section
/-!
DEFINITION. The frames of a stack-link group: the code RS(544,514), the lanes and levels of its symbols, markers and scrambling (R260,
R261).
-/
namespace Sys2Proof.Machine

/-! ### The code -/

/-- α·v in GF(2^10), with α a root of x^10 + x^3 + 1. PRESUMED (log entry 153): the spec names the field and the code, not its
polynomials; these are those of the RS(544,514) code of IEEE 802.3. -/
def gfTwice (v : Nat) : Nat := if 512 ≤ v then Nat.xor (2 * v % 1024) 9 else 2 * v
/-- a·b in GF(2^10), the low n bits of b. -/
def gfTimes (n a b : Nat) : Nat :=
  match n with
  | 0 => 0
  | n + 1 => Nat.xor (if b % 2 = 1 then a else 0) (gfTimes n (gfTwice a) (b / 2))
def gfMul (a b : Nat) : Nat := gfTimes 10 a b
/-- a to the power of n. -/
def gfPow (a : Nat) : Nat → Nat
  | 0 => 1
  | n + 1 => gfMul a (gfPow a n)
/-- a^(2^n − 2), the inverse for n = 10: a^2·a^4·…·a^512. -/
def gfInvAux : Nat → Nat → Nat
  | 0, _ => 1
  | n + 1, a => let q := gfMul a a; gfMul q (gfInvAux n q)
def gfInv (a : Nat) : Nat := gfInvAux 9 a
/-- A polynomial, its coefficient of x^0 first, at a point. -/
def gfEval (p : List Nat) (x : Nat) : Nat := p.foldr (fun c a => Nat.xor c (gfMul x a)) 0
/-- Sum of two polynomials. -/
def gfAdd : List Nat → List Nat → List Nat
  | [], q => q
  | p, [] => p
  | a :: p, b :: q => Nat.xor a b :: gfAdd p q
/-- c times a polynomial. -/
def gfScale (c : Nat) (p : List Nat) : List Nat := p.map (gfMul c)
/-- Product of two polynomials. -/
def gfProd : List Nat → List Nat → List Nat
  | [], _ => []
  | a :: p, q => gfAdd (gfScale a q) (0 :: gfProd p q)

/-- The generator's coefficients of x^0 to x^29: the product of the x + α^i for i = 0 to 29, without its x^30 (log entry 153). -/
def rsGen : List Nat := ((List.range 30).foldl (fun g i => gfProd g [gfPow 2 i, 1]) [1]).take 30
/-- Thirty symbols as one number, the coefficient of x^0 lowest. -/
def packSyms (l : List Nat) : Nat := l.foldr (fun c a => c + 1024 * a) 0
/-- 2^b times the generator, packed, for b = 0 to 9. -/
def rsRows : List Nat := (List.range 10).map fun b => packSyms (gfScale (2 ^ b) rsGen)
/-- c times the generator, packed. -/
def rsRow (c : Nat) : Nat := (rsRows.zipIdx.foldl (fun a (e : Nat × Nat) => if bit c e.2 = 1 then Nat.xor a e.1 else a) 0)
/-- The remainder of x^30 times the message, by the generator: the 30 parity symbols, packed. The symbol at position 0 has the highest
power (log entry 153). -/
def rsParity (msg : List Nat) : Nat :=
  msg.foldl (fun r c => Nat.xor (r * 1024 % 2 ^ 300) (rsRow (Nat.xor c (r / 2 ^ 290)))) 0
/-- The parity symbol at position 514 + j of a code word. -/
def paritySym (r j : Nat) : Nat := bits r (10 * (29 - j) + 9) (10 * (29 - j))

/-- One step of the search for the error locator: discrepancy of syndrome number n. The state is the locator, the one before its last
change of length, the length, the steps since, and the discrepancy then. -/
structure RsSearch where
  loc  : List Nat := [1]
  old  : List Nat := [1]
  len  : Nat := 0
  gap  : Nat := 1
  disc : Nat := 1
def RsSearch.step (q : RsSearch) (syn : List Nat) (n : Nat) : RsSearch :=
  let d := (List.range (q.len + 1)).foldl (fun a i => if i ≤ n then Nat.xor a (gfMul (nth q.loc i) (nth syn (n - i))) else a) 0
  if d = 0 then { q with gap := q.gap + 1 }
  else
    let c := gfAdd q.loc (List.replicate q.gap 0 ++ gfScale (gfMul d (gfInv q.disc)) q.old)
    if 2 * q.len ≤ n then { loc := c, old := q.loc, len := n + 1 - q.len, gap := 1, disc := d }
    else { q with loc := c, gap := q.gap + 1 }
/-- A received word of 544 symbols: the code word within 15 symbols of it and how many differ, or none where no code word is so
near. -/
def rsDecode (w : List Nat) : Option (List Nat × Nat) :=
  let r := Nat.xor (rsParity (w.take 514)) (packSyms (w.drop 514).reverse)
  if r = 0 then some (w, 0)
  else
    let rem := (List.range 30).map fun i => bits r (10 * i + 9) (10 * i)
    let syn := (List.range 30).map fun i => gfEval rem (gfPow 2 i)
    let q := (List.range 30).foldl (fun (q : RsSearch) n => q.step syn n) {}
    let om := (gfProd syn q.loc).take 30
    let der := q.loc.zipIdx.map fun (e : Nat × Nat) => if e.2 % 2 = 1 then e.1 else 0
    let inv2 := gfInv 2
    -- the inverse locator of position p is α^(p - 543), from the last position on
    let tries := w.reverse.foldl (fun (a : Nat × List Nat × Nat) c =>
      let x := a.1
      if gfEval q.loc x = 0 then
        (gfMul inv2 x, Nat.xor c (gfMul (gfEval om x) (gfInv (gfMul x (gfEval (der.drop 1) x)))) :: a.2.1, a.2.2 + 1)
      else (gfMul inv2 x, c :: a.2.1, a.2.2)) (1, [], 0)
    let v := tries.2.1
    if q.len ≤ 15 ∧ tries.2.2 = q.len ∧ rsParity (v.take 514) = packSyms (v.drop 514).reverse then some (v, q.len) else none

/-! ### Symbols, lanes and levels -/

/-- Code symbols of a lane in a row of PAM4 symbols, two bits each: Gray code (00, 01, 11, 10 are the levels 0 to 3), which is its
own inverse. -/
def grayLane (v : Nat) : Nat := Nat.xor v (Nat.land (v / 2) ((4 ^ 1360 - 1) / 3))
/-- What the four lanes send for a frame's message bits m[0] to m[10,279]: the levels of 1,360 PAM4 symbols a lane, the first in the
low bits. Frame symbol i is symbol i div 2 of code word i mod 2, and symbol i div 4 of lane i mod 4 (R260). -/
def frameLanes (m : Nat) : List Nat :=
  let sym (i : Nat) := bits m (10 * i + 9) (10 * i)
  let par := [0, 1].map fun w => rsParity ((List.range 514).map fun j => sym (2 * j + w))
  (List.range 4).map fun l => grayLane ((List.range 272).foldr (fun j a =>
    let i := 4 * j + l
    (if i < 1028 then sym i else paritySym (nth par (i % 2)) (i / 2 - 514)) + 1024 * a) 0)

/-- A frame after the code of R260: its message bits, how many code symbols were corrected, and whether a code word is
uncorrectable. -/
structure Frame where
  message   : Nat
  corrected : Nat
  ue        : Bool
  phase     : List Nat
  deriving DecidableEq, Repr
/-- Code word 0 (A) or 1 (B) of a received frame. -/
def FrameRx.word (x : FrameRx) (w : Nat) : List Nat :=
  let lanes := x.lanes.map grayLane
  (List.range 544).map fun j => let i := 2 * j + w; bits (nth lanes (i % 4)) (10 * (i / 4) + 9) (10 * (i / 4))
/-- A received frame decoded; an uncorrectable word's symbols stand as they came. -/
def FrameRx.decode (x : FrameRx) : Frame :=
  let a := rsDecode (x.word 0)
  let b := rsDecode (x.word 1)
  let pairs := List.zip ((a.map (·.1)).getD (x.word 0)) ((b.map (·.1)).getD (x.word 1))
  { message := (pairs.take 514).foldr (fun (e : Nat × Nat) m => e.1 + 1024 * e.2 + 2 ^ 20 * m) 0,
    corrected := (a.map (·.2)).getD 0 + (b.map (·.2)).getD 0, ue := a.isNone || b.isNone, phase := x.phase }

/-! ### Scrambling and markers -/

/-- 20·n bits of the scrambler's output, and the generator after them (R261): the generator holds its last 31 output bits, the
oldest first, and each bit is the sum of those 31 and 28 before it (log entry 127). -/
def scrambler : Nat → Nat → Nat × Nat
  | 0, g => (0, g)
  | n + 1, g =>
    let b := Nat.xor g (g / 8) % 2 ^ 20
    let r := scrambler n (g / 2 ^ 20 + 2 ^ 11 * b)
    (b + 2 ^ 20 * r.1, r.2)
/-- The marker of lane l with SLOTMASK (R261). -/
def marker (l mask : Nat) : Nat := 0b110100 * 16 + 4 * l + mask / 4 ^ l % 4
/-- SLOTMASK in flit mode. -/
def flitMask : Nat := 0b11111
/-- The message bits of a frame whose slots hold some 256-byte blocks (R260, R261), and the generator after it. -/
def frameMessage (scr mask : Nat) (slots : List (List Byte)) : Nat × Nat :=
  let (x, scr) := scrambler 512 scr
  let body := (slots.zipIdx.map fun (e : List Byte × Nat) => leNat (fit 0 256 e.1) * 2 ^ (2048 * e.2)).sum
  (((List.range 4).map fun l => marker l mask * 2 ^ (10 * l)).sum + 2 ^ 40 * Nat.xor body x, scr)
/-- SLOTMASK as the four markers of a frame give it. -/
def Frame.mask (x : Frame) : Nat := ((List.range 4).map fun l => bits x.message (10 * l + 1) (10 * l) * 4 ^ l).sum
/-- Whether the marker of lane l is missing or wrong. -/
def Frame.badMarker (x : Frame) (raw : Bool) (l : Nat) : Bool :=
  bits x.message (10 * l + 9) (10 * l) != marker l (if raw then x.mask % 32 else flitMask)
/-- The 256-byte contents of the five slots, descrambled with a generator. -/
def Frame.slots (x : Frame) (scr : Nat) : List (List Byte) :=
  let body := Nat.xor (x.message / 2 ^ 40) (scrambler 512 scr).1
  (List.range 5).map fun s => leBytes 256 (body / 2 ^ (2048 * s) % 2 ^ 2048)

end Sys2Proof.Machine
end

