-- ==== Sys2Proof/Machine/Links.lean ====
section
/-!
DEFINITION. The link layer that die-to-die ports (R243–R258) and stack-link groups (R259–R285) share: packing packets
into flits, credits and books, acknowledgement and replay, training, retraining with its escrow, bring-up with INIT or
RESYNC, hold-down, L1 and the lane power states, and the encryption of flits (R308, R309). Link k is D00–D15 for
k = 0–15 and G00–G15 for k = 16–31; its endpoint is 512 + k.
-/
namespace Sys2Proof.Machine

def isGroup (k : Nat) : Bool := 16 ≤ k
def linkEp (k : Nat) : Nat := 512 + k
def add4 (a b : List Nat) : List Nat := List.zipWith (· + ·) a b
def zero4 : List Nat := [0, 0, 0, 0]

/-! ### Registers of a link, by its kind -/

def State.linkF (s : State) (dp sl : Field) (k : Nat) : Nat := if isGroup k then s.f sl (k - 16) else s.f dp k
def State.setLinkF (s : State) (dp sl : Field) (k v : Nat) : State :=
  if isGroup k then s.setF sl (k - 16) v else s.setF dp k v
def State.incLinkW (s : State) (dp sl : Field) (k : Nat) : State :=
  if isGroup k then s.incW sl (k - 16) else s.incW dp k
def State.rawOn (s : State) (k : Nat) : Bool := isGroup k && s.f Fld.SL_STATUS_RAW (k - 16) = 1
/-- A raw group that carries blocks: its training sends and takes flits as any other's (R277). -/
def State.rawRuns (s : State) (k : Nat) : Bool := s.linkActive k && s.rawOn k
def State.txState (s : State) (k : Nat) : Nat := if isGroup k then s.f Fld.SL_STATUS_TXSTATE (k - 16) else 0
def State.rxState (s : State) (k : Nat) : Nat := if isGroup k then s.f Fld.SL_STATUS_RXSTATE (k - 16) else 0
def State.heldDown (s : State) (k : Nat) : Bool := s.linkF Fld.DP_CTRL_HOLD_DOWN Fld.SL_CTRL_HOLD_DOWN k = 1
/-- The receive depths declared in this end's INIT: DP_RXCFG or SL_RXCFG. -/
def State.rxDepths (s : State) (k : Nat) : List Nat :=
  [s.linkF Fld.DP_RXCFG_REQ Fld.SL_RXCFG_REQ k, s.linkF Fld.DP_RXCFG_RSP Fld.SL_RXCFG_RSP k,
   s.linkF Fld.DP_RXCFG_SCHED Fld.SL_RXCFG_SCHED k, s.linkF Fld.DP_RXCFG_MGMT Fld.SL_RXCFG_MGMT k]
/-- Whether a link may train: ENABLE in effect, its gate open, not fallow (R248, R331, R365). -/
def State.linkMayTrain (s : State) (k : Nat) : Bool :=
  s.linkF Fld.DP_CFG_ENABLE Fld.SL_CFG_ENABLE k = 1 && !s.boot.fallow.contains (if isGroup k then (9, k - 16) else (8, k)) &&
  bit (s.f Fld.CK_GSTAT_LINK_OPEN) k = 1 && !s.safe
/-- ENABLE of a link as it counts: that of a fallow port or group is treated as 0 (R366). -/
def State.linkEnabled (s : State) (k : Nat) : Bool :=
  s.linkF Fld.DP_CFG_ENABLE Fld.SL_CFG_ENABLE k = 1 && !s.boot.fallow.contains (if isGroup k then (9, k - 16) else (8, k))
/-- Replay buffer size (R247, R268). -/
def replayCap (k : Nat) : Nat := if isGroup k then 512 else 256
/-- REFCLK is lost (R324). -/
def State.refLost (s : State) : Bool := s.f Fld.CK_REF_LOST_ACTIVE = 1
/-- What forces a group's transmitter into TXS: shedding at −7 % for groups other than G00, a lost REFCLK (Table 12-6). -/
def State.forcedNow (s : State) (k : Nat) : Bool :=
  isGroup k && (s.refLost || (4 ≤ s.f Fld.PW_SHED_STATUS_LEVEL && k != 16))
/-- A port that goes to L1 as soon as its replay buffer is empty, packets waiting or not: shedding at −8 %, a lost REFCLK (R251,
R324). -/
def State.l1Due (s : State) (k : Nat) : Bool := !isGroup k && ((s.link k).l1Shed || s.refLost)

/-! ### Flit encryption -/

/-- Bytes 0 to 5 of a flit's header, the authenticated data (R308). -/
def Flit.aad (f : Flit) : List Byte :=
  leBytes 6 (f.kind + 16 * f.vc + (if f.enc then 64 else 0) + 128 * f.kph + 2 ^ 8 * f.start + 2 ^ 16 * f.fill + 2 ^ 32 * f.seq)
/-- IV: E, the sender's node ID, the sender's link number (R308), most significant byte first as in R293. -/
def linkIv (e node link : Nat) : List Byte := beBytes 8 e ++ beBytes 2 node ++ beBytes 2 link
/-- Most bytes that one flit of link k carries (R245, R308). -/
def State.flitCap (s : State) (k : Nat) : Nat := if (s.link k).enc.txKey.isSome then 224 else 240
/-- Encrypt a DATA or LMB flit when the transmit direction has a key; E counts (R308). -/
def State.sealFlit (s : State) (k : Nat) (f : Flit) : Flit × State :=
  let e := (s.link k).enc
  match e.txKey with
  | none => (f, s)
  | some key =>
    let f := { f with enc := true, kph := e.txKph }
    let iv := linkIv e.txE s.node k
    let ct := gctr key iv 2 (fit 0 224 f.bytes)
    let s := s.updLink k fun l => { l with enc := { l.enc with txE := e.txE + 1 } }
    let s := s.setF Fld.CR_LINK_TXE_E k ((e.txE + 1) / 65536)
    ({ f with bytes := ct ++ gcmTag key iv f.aad ct }, s.setF Fld.CR_LINK_STATUS_STALLED k (if e.txE + 1 = 2 ^ 48 then 1 else 0))
/-- Decrypt a flit under the key of its phase (R309): the packing bytes, or none when the tag fails. -/
def State.unsealFlit (s : State) (k : Nat) (f : Flit) : Option (List Byte) :=
  if !f.enc then some f.bytes
  else
    let e := (s.link k).enc
    let cur := f.kph = e.rxKph ∧ e.rxKey.isSome
    match (if cur then e.rxKey else e.rxOld) with
    | none => none
    | some key =>
      let iv := linkIv (if cur then e.rxE else e.rxOldE) (s.linkF Fld.DP_PEER_NODE Fld.SL_PEER_NODE k) e.peerLink
      let ct := f.bytes.take 224
      if gcmTag key iv f.aad ct = slice f.bytes 224 16 then some (gctr key iv 2 ct) else none
/-- An encrypted flit was accepted: its phase's E moves on, and the first of a new phase ends the old key (R309, R311). -/
def State.countRxE (s : State) (k : Nat) (f : Flit) : State :=
  if !f.enc then s
  else s.updLink k fun l =>
    let e := l.enc
    { l with enc := if f.kph = e.rxKph ∧ e.rxKey.isSome then { e with rxE := e.rxE + 1, rxOld := none }
                    else { e with rxOldE := e.rxOldE + 1 } }
/-- REQUIRE of a link's policy (R313). -/
def State.requireEnc (s : State) (k : Nat) : Bool := s.f Fld.CR_LINK_CFG_REQUIRE k = 1
/-- A re-initialisation erases the keys of both directions (R314). -/
def State.dropKeys (s : State) (k : Nat) : State :=
  let e := (s.link k).enc
  let s := (s.updLink k fun l => { l with enc := {} }).respondTo e.cmd (if e.phase = 3 then 7 else 6) []
  let s := s.wr .CR_LINK_STATUS k 0
  let s := s.wr .CR_LINK_TXE k 0
  s.setLinkF Fld.DP_STATUS_ENC Fld.SL_STATUS_ENC k 0

/-! ### The form of a flit -/

/-- Bits 95:0 of the header (Tables 11-2 and 12-3): the PM fields are a group's. -/
def Flit.head (f : Flit) : Nat :=
  f.kind % 16 + 2 ^ 4 * (f.vc % 4) + (if f.enc then 2 ^ 6 else 0) + 2 ^ 7 * (f.kph % 2) + 2 ^ 8 * (f.start % 256) +
  2 ^ 16 * (f.fill % 256) + (if f.forced then 2 ^ 27 else 0) + 2 ^ 28 * (f.pmReq % 4) + 2 ^ 30 * (f.txState % 4) +
  2 ^ 32 * (f.seq % 65536) + 2 ^ 48 * (f.ack % 65536) + 2 ^ 64 * (nth f.credits 0 % 256) + 2 ^ 72 * (nth f.credits 1 % 256) +
  2 ^ 80 * (nth f.credits 2 % 256) + 2 ^ 88 * (nth f.credits 3 % 256)
/-- CRC-32C over bytes 0–11 and 16–255 (Table 12-3). -/
def Flit.crcOf (f : Flit) : Nat := (crc32c (leBytes 12 f.head ++ fit 0 240 f.bytes)).toNat
/-- The 256 bytes of a flit: header bytes 0–15, then the packing area (R245). -/
def Flit.wire (f : Flit) : List Byte := leBytes 16 (f.head + 2 ^ 96 * f.crc) ++ fit 0 240 f.bytes
/-- The flit that 256 received bytes hold. -/
def parseFlit (b : List Byte) : Flit :=
  let h := leNat (b.take 16)
  { kind := bits h 3 0, vc := bits h 5 4, enc := bit h 6 = 1, kph := bit h 7, start := bits h 15 8, fill := bits h 23 16,
    forced := bit h 27 = 1, pmReq := bits h 29 28, txState := bits h 31 30, seq := bits h 47 32, ack := bits h 63 48,
    credits := [bits h 71 64, bits h 79 72, bits h 87 80, bits h 95 88], crc := bits h 127 96, bytes := slice b 16 240 }
/-- A flit with the CRC that a group's carries (Table 12-3). -/
def Flit.seal (f : Flit) (k : Nat) : Flit := if isGroup k then { f with crc := f.crcOf } else f
/-- Whether a received flit is good: what the adapter or the frame's code said of it, and a group's CRC (R267, R269). -/
def Flit.ok (f : Flit) (k : Nat) : Bool := f.good && (!isGroup k || f.crc == f.crcOf)

/-! ### Sending -/

/-- A flit leaves: on a port's wire, or towards a slot of a group's frames (R268). -/
def State.onWire (s : State) (k : Nat) (f : Flit) : State :=
  let f := f.seal k
  s.updLink k fun l => { l with lastSent := f :: l.lastSent, slotQ := if isGroup k then l.slotQ ++ [f] else l.slotQ }
/-- Put a flit on the wire with the current ACK and all credits it can carry (R247); what a flit with a SEQ returns is kept, to
be repeated where the flit is (R269). -/
def State.putFlit (s : State) (k : Nat) (f : Flit) : State :=
  let l := s.link k
  let c := l.rel.map (min 255)
  (s.updLink k fun l => { l with
    rel := List.zipWith (· - ·) l.rel c, far := add4 l.far c, ackOwed := false, unacked := 0,
    carriedCr := if f.kind = 0 ∨ f.kind = 6 then mput (fun _ => zero4) l.carriedCr f.seq c else l.carriedCr }).onWire k
    { f with ack := (l.rxSeq + 65535) % 65536, credits := c }
/-- The state asked of the far transmitter: RX_HOLD, and TXS while shedding step 4 holds for G01–G15 (R274, R339). -/
def State.pmWanted (s : State) (k : Nat) : Nat :=
  if isGroup k then
    max (s.f Fld.SL_PWR_RX_HOLD (k - 16)) (if 4 ≤ s.f Fld.PW_SHED_STATUS_LEVEL ∧ k ≠ 16 then 2 else 0)
  else 0
/-- A NULL flit (R246); a group's carries its PM_REQ (Table 12-6). -/
def State.sendNull (s : State) (k : Nat) : State :=
  s.putFlit k { kind := 1, seq := (s.link k).txSeq, pmReq := s.pmWanted k }
/-- What a slot with nothing to send carries: a NULL flit (R268); in training, until the first flit, a TEQ flit that holds and says
whether this end's tuning is complete (Table 12-2, R265). -/
def State.fillFlit (s : State) (k : Nat) : State :=
  let l := s.link k
  if s.linkActive k then s.sendNull k
  else if l.initSent then s.onWire k { kind := 1, seq := l.txSeq, ack := (l.rxSeq + 65535) % 65536 }
  else s.onWire k { kind := 7, seq := l.txSeq, bytes := fit 0 240 (List.replicate 7 0 ++ [if !l.set.tune || l.rounds = 16 then 1 else 0]) }
/-- A frame leaves (R268): the flits that wait take its slots in order, n of them at most, and `last` takes the slot after those; in raw
mode SLOTMASK marks the slots with a block (R261, R277). -/
def State.frameOut (s : State) (g n : Nat) (last : List Flit) : State :=
  let k := 16 + g
  let raw := s.rawRuns k
  let s := if raw then s else s.each (List.range (n - (s.link k).slotQ.length)) fun s _ => s.fillFlit k
  let l := s.link k
  let q := l.slotQ.take n ++ last
  let m := if raw then frameMessage l.txScr (2 ^ q.length - 1) (q.map (·.bytes)) else frameMessage l.txScr flitMask (q.map Flit.wire)
  s.updLink k fun l => { l with slotQ := l.slotQ.drop n, txFrame := frameLanes m.1, txScr := m.2 }
/-- The frame that a transmitter in TXA sends in a frame time. -/
def State.sendFrame (s : State) (g : Nat) : State := if s.txState (16 + g) ≠ 0 then s else s.frameOut g 5 []
/-- A frame whose last slot carries a PM flit. -/
def State.pmFrame (s : State) (k tx : Nat) (forced : Bool) : State :=
  let l := s.link k
  let f : Flit := { kind := 5, seq := l.txSeq, txState := tx, pmReq := s.pmWanted k, forced := forced, ack := (l.rxSeq + 65535) % 65536 }
  let f := f.seal k
  (s.frameOut (k - 16) 4 [f]).updLink k fun l => { l with lastSent := f :: l.lastSent }
/-- The flits that wait leave in frames of their own. -/
def State.flushSlots (s : State) (k : Nat) : Nat → State
  | 0 => s
  | n + 1 => if (s.link k).slotQ.length ≤ 4 then s else (s.frameOut (k - 16) 5 []).flushSlots k n
/-- Before it enters TXI, TXS or TXO, a transmitter whose frames carry flits sends a PM flit in the last slot of two consecutive frames
(R274). -/
def State.sendPm (s : State) (k tx : Nat) (forced : Bool) : State :=
  ((s.flushSlots k (s.link k).slotQ.length).pmFrame k tx forced).pmFrame k tx forced
/-- Whether a group's transmitter has flits to send frames with: ACTIVE or INIT, not in TXO, not raw. -/
def State.sendsFlits (s : State) (k : Nat) : Bool :=
  isGroup k && (s.linkActive k || s.linkState k = 2) && s.txState k ≠ 3 && !s.rawRuns k
/-- The lanes of a group that goes down go off, after the PM flits of TXO (Table 12-6). -/
def State.sayOff (s : State) (k : Nat) : State :=
  let s := if s.sendsFlits k then s.sendPm k 3 false else s
  if isGroup k then ((s.setF Fld.SL_STATUS_TXSTATE (k - 16) 3).setF Fld.SL_STATUS_RXSTATE (k - 16) 3).lanesOff k else s

/-- Replay flits in SEQ order with current ACK and credit fields; the credits that they returned are returned again (R250,
R269). -/
def State.replayFlits (s : State) (k : Nat) : State :=
  let l := s.link k
  let back := l.replay.foldl (fun a f => add4 a (mget (fun _ => zero4) l.carriedCr f.seq)) zero4
  (s.updLink k fun l => { l with rel := add4 l.rel back, far := List.zipWith (· - ·) l.far back }).each l.replay fun s f => s.putFlit k f

/-- Whether the link may start a DATA or LMB flit: ACTIVE, transmitter in TXA, nothing that stops DATA, space in the
replay buffer (R247, R249, R251, R268, R271, R274, R312, R324). -/
def State.mayStart (s : State) (k : Nat) : Bool :=
  let l := s.link k
  s.linkActive k && s.txState k = 0 && !s.rawOn k && !l.holdAfterDrain && !l.depthChange && !s.l1Due k && l.replay.length < replayCap k && s.f Fld.CR_LINK_STATUS_STALLED k = 0

/-- Record a DATA or LMB flit as sent and keep it for replay. -/
def State.keepFlit (s : State) (k : Nat) (f : Flit) : State :=
  let f := { f with seq := (s.link k).txSeq }
  let (f, s) := s.sealFlit k f
  (s.updLink k fun l => { l with txSeq := (l.txSeq + 1) % 65536, replay := l.replay ++ [f] }).putFlit k f

/-- Send what the link mailbox has waiting (R267): LMB flits take a SEQ and no credit. -/
def State.pumpLmb (s : State) (k : Nat) : State :=
  s.each (s.link k).lmbOut fun s b =>
    if s.mayStart k then
      (s.updLink k fun l => { l with lmbOut := l.lmbOut.drop 1 }).keepFlit k { kind := 6, bytes := fit 0 240 b }
    else s

/-- Bytes of a VC ready at the link. -/
def txReady (l : Link) (v : Nat) : Nat := ((mget (fun _ => []) l.txQ v).map fun (t : TxPkt) => t.left).sum
/-- Packets for another node that wait at the attachment and are not the crypto unit's (R246, R286). -/
def State.forLink (s : State) (k : Nat) (p : Packet) : Bool :=
  s.isFor (linkEp k) p && p.dstNode != s.node && p.prot.isNone
/-- A packet leaves the stack, or would leave it in a replay: CHECK covers it (R427). -/
def State.countOut (s : State) (p : Packet) : State :=
  if s.rpRuns then s.updRp fun r => { r with outCrc := crcFrom r.outCrc { p with hops := p.hops - 1 }.wire, outCount := r.outCount + 1 }
  else s
/-- In a replay the packets that would leave are counted and discarded at the ports (R427). -/
def State.discardOut (s : State) (k v : Nat) : Nat → State
  | 0 => s
  | n + 1 => match s.takeOn (ejectLinks (linkEp k)) v (s.forLink k) with
    | none => s
    | some (p, s') => (s'.countOut p).discardOut k v n
/-- Take packets of VC v from the attachment until a flit is full; HOPS is decremented as they leave (R157, R246). -/
def State.pullTx (s : State) (k v cap : Nat) : Nat → State
  | 0 => s
  | n + 1 =>
    if cap ≤ txReady (s.link k) v then s
    else match s.takeOn (ejectLinks (linkEp k)) v (s.forLink k) with
      | none => s
      | some (p, s') =>
        let s' := if s'.replaying then s' else s'.countOut p
        (s'.updLink k fun l => { l with txQ := mupd (fun _ => []) l.txQ v (· ++ [{ pkt := { p with hops := p.hops - 1 }, left := p.wireSize }]) }).pullTx k v cap n

/-- Pack bytes of the waiting packets: packing bytes, START if one begins here, packets with bytes in the flit, and what
waits on. -/
def packTx : Nat → List TxPkt → List Byte × Option Nat × List Packet × List TxPkt
  | _, [] => ([], none, [], [])
  | room, t :: rest =>
    if room = 0 then ([], none, [], t :: rest)
    else
      let w := t.pkt.wire
      let n := min room t.left
      let part := slice w (w.length - t.left) n
      let begins : Option Nat := if t.left = w.length then some 0 else none
      if n < t.left then (part, begins, [t.pkt], { t with left := t.left - n } :: rest)
      else
        let (b, st, ps, q) := packTx (room - n) rest
        (part ++ b, begins.orElse fun _ => st.map (· + n), t.pkt :: ps, q)

/-- Whether the gate of link k is closed or closing (R331). -/
def State.linkShut (s : State) (k : Nat) : Bool := s.gateShut (if isGroup k then 3 else 2) (k % 16)
/-- Take a packet of VC v that waits at a link whose gate is closed or closing: a request completes with a bus error (R331), anything
else is discarded. Answers whether it was a request. -/
def State.shutTake (s : State) (k v : Nat) : Option (Bool × State) :=
  (s.take (linkEp k) v).map fun x => if isRequest x.1.type then (true, x.2.refuse x.1 (linkEp k) 5) else (false, x.2)
/-- What still waits at a link as its gate closes ends with a bus error, which DRAIN_BERR counts (R331 step 3). -/
def State.shutDrain (s : State) (k v : Nat) : Nat → State
  | 0 => s
  | n + 1 => match s.shutTake k v with
    | some (b, s') => (if b then s'.inc Fld.CK_GATE_EVENT_DRAIN_BERR 0 else s').shutDrain k v n
    | none => s
/-- A packet addressed to the link's own endpoint at this node: a request is refused (Table 07-9 cause 9), anything else
has no taker there. At a closed gate every request is refused (R331). -/
def State.refuseAtLink (s : State) (k v : Nat) : State :=
  if s.linkShut k then (match s.shutTake k v with | some (_, s') => s' | none => s)
  else match s.takeOn (ejectLinks (linkEp k)) v (fun p => s.isFor (linkEp k) p && p.dstNode == s.node && isRequest p.type) with
  | some (p, s') => s'.refuse p (linkEp k) 9
  | none => s

/-- Whether bytes are ready for a group's transmitter or a port (R252, R274). -/
def State.bytesReady (s : State) (k : Nat) : Bool :=
  let l := s.link k
  (List.range 4).any (fun v => 0 < txReady l v || (s.takeOn (ejectLinks (linkEp k)) v (s.forLink k)).isSome) || !l.lmbOut.isEmpty

/-- Start a DATA flit of VC v (R246, R247). With REQUIRE and no key only MGMT goes (R313). -/
def State.flitSend (s : State) (k v : Nat) : State :=
  let s := (s.refuseAtLink k v).pumpLmb k
  if s.replaying then s.discardOut k v 16
  else if !s.mayStart k || nth (s.link k).cred v = 0 || (s.requireEnc k && (s.link k).enc.txKey.isNone && v ≠ 3) then s
  else
    let cap := s.flitCap k
    let s := s.pullTx k v cap 16
    let (b, st, ps, q) := packTx cap (mget (fun _ => []) (s.link k).txQ v)
    if b.isEmpty then s
    else
      let seq := (s.link k).txSeq
      let s := s.updLink k fun l => { l with
        txQ := mput (fun _ => []) l.txQ v q, cred := setNth l.cred v (nth l.cred v - 1),
        outst := setNth l.outst v (nth l.outst v + 1),
        carried := l.carried ++ (if v = 0 then ps.map fun p => (seq, p) else []) }
      s.keepFlit k { kind := 0, vc := v, start := st.getD 255, fill := b.length, bytes := fit 0 240 b }

/-! ### Books -/

/-- A books fault of a link's credits (R32, R250, R270). -/
def State.linkFault (s : State) (k v : Nat) (delta : Int) : State :=
  s.booksFault (if isGroup k then 3 else 2) (4 * k + v) delta
/-- Credits returned by the far end (R247): more than are outstanding is a books fault (R32). -/
def State.takeCredits (s : State) (k : Nat) (c : List Nat) : State :=
  match (List.range 4).find? fun v => nth (s.link k).outst v < nth c v with
  | some v => s.linkFault k v ((nth c v : Int) - nth (s.link k).outst v)
  | none => s.updLink k fun l => { l with cred := add4 l.cred c, outst := List.zipWith (· - ·) l.outst c }

/-- Remove from the replay buffer what an ACK covers. None when the ACK lies outside the unacknowledged flits (R271). -/
def ackReplay (l : Link) (ack : Nat) : Option (List Flit) :=
  let n := l.replay.length
  let base := (l.txSeq + 65536 - n) % 65536        -- SEQ of the oldest
  let m := (ack + 1 + 65536 - base) % 65536         -- flits covered
  if m ≤ n then some (l.replay.drop m) else none

/-! ### States -/

/-- Enter a link state that holds it down, and answer what waits (R251, R255, R280, R281). A change of its receive depths that waits is
declared at the next bring-up (R249). -/
def State.goDown (s : State) (k : Nat) : State :=
  let s := (s.sayOff k).updLink k fun l => { l with
    holdAfterDrain := false, depthChange := false, trainPhase := 0, initSent := false, initRcvd := false, l1Shed := false, pmSeen := none,
    forced := false, fresh := l.fresh || !l.replay.isEmpty || l.depthChange || l.againRx, again := false, againRx := false }
  let s := s.setLinkF Fld.DP_STATUS_RATE Fld.SL_STATUS_RATE k 0
  let s := s.setLinkState k (downHeld k)
  s.endLinkCmds k (· == 2) 0 []

/-- The settings in effect, as a training takes them (R26). -/
def State.linkSettings (s : State) (k : Nat) : LinkSet :=
  if isGroup k then
    let g := k - 16
    { rate := s.f Fld.SL_CFG_RATE g, depths := s.rxDepths k, tries := s.f Fld.SL_CFG_TRAIN_TRIES g, raw := s.f Fld.SL_CFG_RAW g = 1,
      manual := s.f Fld.SL_CFG_MANUAL_ALIGN g = 1, tune := s.f Fld.SL_CFG_FFE_TUNE g = 1,
      ctle := if s.f Fld.SL_RXEQ_CTLE_FIX g = 1 then some (s.f Fld.SL_RXEQ_CTLE_SET g) else none }
  else { rate := s.f Fld.DP_CFG_MAX_RATE k, depths := s.rxDepths k, tries := s.f Fld.DP_CFG_TRAIN_TRIES k }
/-- Start training in state st: outstanding and unreturned credits go to escrow (R34, R249). -/
def State.beginTraining (s : State) (k st : Nat) : State :=
  let s := s.updLink k fun l => { l with
    escTx := add4 l.escTx l.outst, outst := zero4, escRx := add4 l.escRx l.rel, rel := zero4, tries := 0, trainPhase := 0,
    initSent := false, initRcvd := false, nakSent := false, ackOwed := false, unacked := 0, holdAfterDrain := l.holdAfterDrain && st != 0,
    depthChange := false, forced := st != 0 && s.forcedNow k, farForced := false, pmReq := 0, pmSeen := none, badFrames := [],
    replays := [], slotQ := [], set := s.linkSettings k, origin := st }
  let s := s.lanesOff k
  let s := s.setLinkF Fld.DP_CTRL_RETRAIN Fld.SL_CTRL_RETRAIN k 0
  s.setLinkState k st

/-- Start a retraining of a link that is up (R249, R271). -/
def State.startRetrain (s : State) (k : Nat) : State :=
  let st := s.linkState k
  if st = 2 ∨ st = 3 ∨ (st = 5 ∧ !isGroup k) then
    let s := s.incLinkW Fld.DP_TRAIN_COUNT_RETRAINS Fld.SL_TRAIN_COUNT_RETRAINS k
    let dc := (s.link k).depthChange
    let s := s.beginTraining k 4
    if dc then s.updLink k fun l => { l with fresh := true } else s
  else s

/-- Train a link from DISABLED or DOWN_HELD when it may (R248, R272); one that is held is DOWN_HELD. A replay keeps its links
DOWN_HELD (R420). -/
def State.bringUp (s : State) (k : Nat) : State :=
  let st := s.linkState k
  if !s.replaying ∧ s.linkMayTrain k ∧ (st = 0 ∨ st = downHeld k) then
    (if s.heldDown k then s.setLinkState k (downHeld k) else s.beginTraining k 1)
  else s

/-- Stop DATA and hold the link down once the replay buffer is empty (R251, R280). -/
def State.holdDown (s : State) (k : Nat) : State :=
  let s := s.setLinkF Fld.DP_CTRL_HOLD_DOWN Fld.SL_CTRL_HOLD_DOWN k 1
  if s.linkState k = downHeld k then s.endLinkCmds k (· == 2) 0 []
  else if s.linkState k ≠ 0 ∧ !(s.link k).replay.isEmpty then s.updLink k fun l => { l with holdAfterDrain := true }
  else s.goDown k
/-- Release a hold: the link trains, or is DISABLED where ENABLE is not in effect. -/
def State.releaseHold (s : State) (k : Nat) : State :=
  let s := s.setLinkF Fld.DP_CTRL_HOLD_DOWN Fld.SL_CTRL_HOLD_DOWN k 0
  let s := s.updLink k fun l => { l with holdAfterDrain := false }
  if (s.linkState k ≠ downHeld k ∧ s.linkState k ≠ 0) ∨ s.safe ∨ s.resuming then s
  else if s.linkMayTrain k then s.bringUp k else s.setLinkState k 0

/-- An ACK that is still owed goes before the link stops (R247). -/
def State.payAck (s : State) (k : Nat) : State :=
  if (s.link k).ackOwed ∧ s.linkActive k ∧ s.txState k = 0 ∧ !s.rawOn k then s.sendNull k else s
/-- What an empty replay buffer lets happen: a waiting hold-down, a depth change, L1 for shedding or a reference loss. -/
def State.linkDrained (s : State) (k : Nat) : State :=
  let l := s.link k
  if !l.replay.isEmpty ∨ !s.linkActive k ∨ !(l.holdAfterDrain || l.depthChange || s.l1Due k) then s
  else
  let s := s.payAck k
  if l.holdAfterDrain then s.goDown k
  else if l.depthChange then s.startRetrain k
  else if s.l1Due k then s.setLinkState k 5
  else s

/-- New receive depths of a link that is up: DATA stops, the buffer drains, and the retraining ends with INIT (R249,
R271). -/
def State.changeDepths (s : State) (k : Nat) : State :=
  let s := s.updLink k fun l => { l with depthChange := true }
  if s.linkState k = 5 then s.startRetrain k else s.linkDrained k

/-- A link whose training ended in FAILED takes the settings that a commit left for it, and trains with them (R26). -/
def State.takeAgain (s : State) (k : Nat) : State :=
  let l := s.link k
  (s.updLink k fun l => { l with again := false, againRx := false, fresh := l.fresh || l.againRx }).beginTraining k
    (if l.up ∧ !l.fresh ∧ !l.againRx then 4 else 1)
/-- An epoch commit changed a link's settings: `rx` when its receive depths are among them (R26, R249, R271). -/
def State.linkChanged (s : State) (k : Nat) (rx : Bool) : State :=
  let st := s.linkState k
  if !s.linkMayTrain k ∨ st = 0 ∨ st = downHeld k then s.updLink k fun l => { l with fresh := l.fresh || rx }
  else if s.linkActive k ∨ (st = 5 ∧ !isGroup k) then (if rx then s.changeDepths k else s.startRetrain k)
  else if st = failedState k then (s.updLink k fun l => { l with againRx := rx }).takeAgain k
  else s.updLink k fun l => { l with again := true, againRx := l.againRx || rx }

/-- ENABLE = 0 takes effect: the lanes go off (Tables 11-4, 12-4, 12-6). -/
def State.linkOff (s : State) (k : Nat) : State :=
  let s := (s.sayOff k).beginTraining k 0
  let s := s.setLinkF Fld.DP_STATUS_RATE Fld.SL_STATUS_RATE k 0
  s.updLink k fun l => { l with again := false, againRx := false, l1Shed := false }

/-- Commands that wait for the transmitter's state (R281). -/
def State.txReached (s : State) (k : Nat) : State := s.endLinkCmds k (· == 4 + s.txState k) 0 []
/-- The link is ACTIVE: waiting commands end, and what had to wait for it starts (R26, R248, R255, R281). Transmit credits left
in escrow, whose window closes here, are a books fault (R34). -/
def State.linkUp (s : State) (k : Nat) : State :=
  let s := s.setLinkState k 3
  if (s.link k).escTx.any (· != 0) then s.booksFault 8 0 ((s.link k).escTx.sum : Int) else
  let s := s.updLink k fun l => { l with
    fresh := false, up := true, tries := 0, trainPhase := 0, far := add4 l.far l.escRx, escRx := zero4 }
  let s := s.replayFlits k
  let s := s.endLinkCmds k (· == 1) 0 []
  let s := if !isGroup k ∧ 5 ≤ s.f Fld.PW_SHED_STATUS_LEVEL then s.updLink k fun l => { l with l1Shed := true }
    else if s.forcedNow k then
      ((if s.txState k ≠ 2 ∧ s.sendsFlits k then s.sendPm k 2 true else s).setF Fld.SL_STATUS_TXSTATE (k - 16) 2).updLink k
        fun l => { l with forced := true }
    else s
  let s := if isGroup k then s.txReached k else s
  let l := s.link k
  if s.heldDown k then s.holdDown k
  else if l.again then
    let s := s.updLink k fun l => { l with again := false, againRx := false }
    if l.againRx then s.changeDepths k else s.startRetrain k
  else if s.linkF Fld.DP_CTRL_RETRAIN Fld.SL_CTRL_RETRAIN k = 1 then s.startRetrain k
  else if s.l1Due k then s.linkDrained k
  else s.pumpLmb k

/-! ### Bring-up -/

/-- The packing area of an INIT (R248). Encryption is offered only with a certificate chain (R310): DEPLOYED and
RETURNED. -/
def State.initBytes (s : State) (k : Nat) : List Byte :=
  let d := (s.link k).set.depths
  let node := if s.f Fld.CO_NODE_VALID = 1 then s.f Fld.CO_NODE_NODE + 32768 else 0
  let cap := if s.fuses.lc = 2 ∨ s.fuses.lc = 3 then 1 else 0
  fit 0 240 ((d.map fun x => leBytes 1 x).flatten ++ leBytes 2 node ++ leBytes 6 s.fuses.uid ++ leBytes 1 1 ++ leBytes 1 cap)

/-- The first flit of an active period: INIT for a fresh link state, else RESYNC with the kept ACK and credits (R248). -/
def State.sendFirst (s : State) (k : Nat) : State :=
  let l := s.link k
  let f : Flit := if l.fresh then { kind := 2, seq := 0, bytes := s.initBytes k, ack := 65535, credits := zero4 }
    else { kind := 3, seq := l.txSeq, ack := (l.rxSeq + 65535) % 65536, credits := l.escRx.map (min 255) }
  (s.updLink k fun l => { l with initSent := true }).onWire k f

/-- The far end's INIT is recorded (R248, R258, R284). -/
def State.recordPeer (s : State) (k : Nat) (b : List Byte) : State :=
  let n := leNat (slice b 4 2)
  let u := leNat (slice b 6 6)
  let rev := leNat (slice b 12 1) % 64
  let cap := leNat (slice b 13 1) % 2
  let s := s.setLinkF Fld.DP_STATUS_PEER_INIT Fld.SL_STATUS_PEER_INIT k 1
  let s := s.setLinkF Fld.DP_PEER_VALID Fld.SL_PEER_VALID k 1
  let s := s.setLinkF Fld.DP_PEER_ENC_CAP Fld.SL_PEER_ENC_CAP k cap
  let s := s.setLinkF Fld.DP_PEER_NODE_VALID Fld.SL_PEER_NODE_VALID k (n / 32768)
  let s := s.setLinkF Fld.DP_PEER_REV Fld.SL_PEER_REV k rev
  let s := s.setLinkF Fld.DP_PEER_NODE Fld.SL_PEER_NODE k (n % 1024)
  let s := s.setLinkF Fld.DP_PEER_UID_LO_UID Fld.SL_PEER_UID_LO_UID k (u % 2 ^ 32)
  s.setLinkF Fld.DP_PEER_UID_HI_UID Fld.SL_PEER_UID_HI_UID k (u / 2 ^ 32)

/-- Re-initialise the link (R250, R270): the replay buffer is discarded, REQ packets in it get LINK_LOST, and the books
of both directions restart from the depths in the two INITs. -/
def State.reinit (s : State) (k : Nat) (adv : List Nat) : State :=
  let l := s.link k
  let lost := ((l.carried.map fun (c : Nat × Packet) => c.2).filter fun p => isRequest p.type).eraseDups
  let s := s.each lost fun s p => s.inject (linkEp k) (answer s p 4 (linkEp k) 3 [] 0 false)
  let s := s.dropKeys k
  let d := (s.link k).set.depths
  let s := s.updLink k fun l => { l with
    txSeq := 0, rxSeq := 0, replay := [], carried := [], replays := [], carriedCr := [], advDepth := adv, cred := adv, outst := zero4, rxDepth := d,
    far := d, rel := zero4, escTx := zero4, escRx := zero4, rxStream := [], rxEnts := [], rxPast := (List.range 4).map (s.waitBytes k),
    txQ := l.txQ.map fun (e : Nat × List TxPkt) => (e.1, e.2.filter fun t => t.left == t.pkt.wireSize) }
  let s := s.updLink k fun l => { l with txQ := l.txQ.filter fun (e : Nat × List TxPkt) => !e.2.isEmpty }
  if l.up then
    (s.setLinkF Fld.DP_STATUS_LINK_LOST Fld.SL_STATUS_LINK_LOST k 1).event 0x41 k 0
  else s

/-- INIT received while the first flits are exchanged (R248, R250). An end that had sent RESYNC has lost its link state
with this and sends INIT too. -/
def State.initRecv (s : State) (k : Nat) (f : Flit) : State :=
  if s.linkState k ≠ 2 ∨ !f.ok k ∨ (s.link k).initRcvd ∨ (s.link k).set.raw then s
  else
    let s := if (s.link k).fresh ∨ !(s.link k).initSent then s
      else (s.updLink k fun l => { l with fresh := true }).sendFirst k
    let s := s.updLink k fun l => { l with fresh := true, initRcvd := true }
    let adv := (List.range 4).map fun v => leNat (slice f.bytes v 1)
    let s := (s.reinit k adv).recordPeer k f.bytes
    if (s.link k).initSent then s.linkUp k else s

/-- RESYNC received (R250): per VC, E = C + F + H. -/
def State.resyncRecv (s : State) (k : Nat) (f : Flit) : State :=
  let l := s.link k
  if s.linkState k ≠ 2 ∨ !f.ok k ∨ l.initRcvd ∨ l.fresh ∨ l.set.raw then s
  else match ackReplay l f.ack with
    | none => s.linkFault k 0 (((f.ack + 1 : Nat) : Int) - l.txSeq)
    | some rest =>
      let n (v : Nat) := (rest.filter fun (x : Flit) => x.kind == 0 && x.vc == v).length
      let e (v : Nat) := nth l.escTx v
      match (List.range 4).find? fun v => e v < nth f.credits v + n v with
      | some v => s.linkFault k v (((nth f.credits v + n v : Nat) : Int) - e v)
      | none =>
        let s := s.updLink k fun l => { l with
          cred := add4 l.cred f.credits, outst := List.zipWith (· - ·) l.escTx f.credits, escTx := zero4, replay := rest,
          carried := l.carried.filter fun (c : Nat × Packet) => rest.any fun x => x.seq == c.1, initRcvd := true }
        if l.initSent then s.linkUp k else s

/-! ### Receiving -/

/-- Replays of a SEQ without the ACK passing it. -/
def Link.replaysOf (l : Link) (q : Nat) : Nat := mget (fun _ => 0) l.replays q
/-- Replay every unacknowledged flit (R269): counted; a SEQ replayed 8 times without the ACK passing it retrains. -/
def State.replayAll (s : State) (k : Nat) : State :=
  if (s.link k).replay.isEmpty then s
  else if (s.link k).replay.any fun f => 8 ≤ (s.link k).replaysOf f.seq then s.startRetrain k
  else
    let s := s.inc Fld.SL_RETRY_COUNT_REPLAYS (k - 16)
    let s := s.updLink k fun l => { l with
      replays := l.replay.foldl (fun m f => mput (fun _ => 0) m f.seq (l.replaysOf f.seq + 1)) l.replays }
    s.replayFlits k

/-- Send one NAK (R269). -/
def State.sendNak (s : State) (k : Nat) : State :=
  if (s.link k).nakSent then s
  else
    let s := s.inc Fld.SL_RETRY_COUNT_NAKS (k - 16)
    (s.putFlit k { kind := 4, seq := (s.link k).txSeq }).updLink k fun l => { l with nakSent := true }

/-- A group's transmitter meets the conditions for an idle state: nothing unacknowledged, no credit or ACK owed, no
bytes ready (Table 12-6). -/
def State.txIdle (s : State) (k : Nat) : Bool :=
  let l := s.link k
  l.replay.isEmpty && l.rel.all (· == 0) && !l.ackOwed && !s.bytesReady k

/-- Enter an idle transmit state, after its PM flits (R274). -/
def State.enterTx (s : State) (k t : Nat) (forced : Bool) : State :=
  ((if s.sendsFlits k then s.sendPm k t forced else s).setF Fld.SL_STATUS_TXSTATE (k - 16) t).txReached k
/-- The deepest state asked for: TX_HOLD, or a PM_REQ of the far end. -/
def State.txWanted (s : State) (k : Nat) : Nat := max (s.f Fld.SL_PWR_TX_HOLD (k - 16)) (s.link k).pmReq
/-- Return the transmitter to TXA; from TXO that is a retraining (R271, R274). -/
def State.exitTx (s : State) (k : Nat) : State :=
  if s.txState k = 3 then s.startRetrain k
  else ((s.setF Fld.SL_STATUS_TXSTATE (k - 16) 0).txReached k).pumpLmb k
/-- A far end that asks for no state any more: the transmitter returns to TXA unless TX_HOLD holds it (Table 12-6). -/
def State.takePmReq (s : State) (k v : Nat) : State :=
  let was := (s.link k).pmReq
  let s := s.updLink k fun l => { l with pmReq := v }
  if was ≠ 0 ∧ v = 0 ∧ s.linkActive k ∧ s.txState k ≠ 0 ∧ !(s.link k).forced ∧ s.f Fld.SL_PWR_TX_HOLD (k - 16) = 0 then s.exitTx k else s
/-- What the holds ask of a group's transmitter now (R274). -/
def State.txPower (s : State) (k : Nat) : State :=
  if !isGroup k ∨ !s.linkActive k ∨ (s.link k).forced then s
  else if s.txState k < s.txWanted k ∧ s.txIdle k then s.enterTx k (s.txWanted k) false
  else s

/-- ACK and credits of a good flit (R247, R269, R271). -/
def State.ackOf (s : State) (k : Nat) (f : Flit) : State :=
  let s := s.takeCredits k f.credits
  let l := s.link k
  match ackReplay l f.ack with
  | none => if isGroup k then s.startRetrain k else s
  | some rest =>
    let left (q : Nat) : Bool := rest.any fun x => x.seq == q
    s.updLink k fun l => { l with
      replay := rest, replays := l.replays.filter fun (c : Nat × Nat) => left c.1,
      carriedCr := l.carriedCr.filter fun (c : Nat × List Nat) => left c.1,
      carried := l.carried.filter fun (c : Nat × Packet) => left c.1 }
/-- The same, and what an empty replay buffer lets happen. -/
def State.takeAck (s : State) (k : Nat) (f : Flit) : State := (s.ackOf k f).linkDrained k

/-- Whether flits of a link are taken now; a group's receiver in an idle state is back in RXA when lanes resume (R274). -/
def State.rxOn (s : State) (k : Nat) : Bool := s.linkActive k && !s.rawOn k && s.rxState k ≠ 3
/-- Lanes that resume under a receiver in RXO start a retraining (R271). -/
def State.offExit (s : State) (k : Nat) : State :=
  if isGroup k ∧ s.linkActive k ∧ s.rxState k = 3 then s.startRetrain k else s
def State.resumeRx (s : State) (k : Nat) : State :=
  if isGroup k ∧ (s.rxState k = 1 ∨ s.rxState k = 2) then
    (s.setF Fld.SL_STATUS_RXSTATE (k - 16) 0).updLink k fun l => { l with farForced := false }
  else s

/-- Take whole packets off a VC's stream and hand them to the attachment (R246); a header whose VC is not its type's or
the stream's is malformed and dropped (R150), and what it held of its entries, behind the packets that wait, is free. -/
def State.deliverStream (s : State) (k v : Nat) : Nat → State
  | 0 => s
  | n + 1 =>
    let st := mget (fun _ => []) (s.link k).rxStream v
    match parsePkt st with
    | none => s
    | some p =>
      let s := s.updLink k fun l => { l with rxStream := mput (fun _ => []) l.rxStream v (st.drop p.wireSize) }
      let s := if p.vc = v ∧ vcOf p.type = v ∧ p.type ≤ 10 then (s.inject (linkEp k) p).pump1 (linkEp k)
        else s.countMalformed.linkConsumed k v (s.waitBytes k v - nth (s.link k).rxPast v) p.wireSize
      s.deliverStream k v n

/-- What a VC's stream holds of a packet that is not complete is dropped, and the entries that hold it are free. -/
def State.dropStream (s : State) (k v : Nat) : State :=
  let n := (mget (fun _ => []) (s.link k).rxStream v).length
  (s.linkConsumed k v (s.waitBytes k v - nth (s.link k).rxPast v) n).updLink k fun l => { l with rxStream := mput (fun _ => []) l.rxStream v [] }
/-- The data of an accepted DATA flit joins its VC's stream (R246, R247). Plaintext other than MGMT under REQUIRE is
dropped, its entry released at once; under REQUIRE every VC's stream begins anew at START of its first encrypted flit (R313): what it
held of a packet not complete then, and the entries of that, are free. -/
def State.takeData (s : State) (k : Nat) (f : Flit) (b : List Byte) : State :=
  let v := f.vc
  let s := s.updLink k fun l => { l with far := setNth l.far v (nth l.far v - 1) }
  if s.requireEnc k ∧ !f.enc ∧ v ≠ 3 then
    ((s.inc Fld.CR_LINK_COUNT_PLAIN_DROP k).dropStream k v).updLink k fun l => { l with
      rel := setNth l.rel v (nth l.rel v + 1), enc := { l.enc with vcStarted := l.enc.vcStarted.set v false } }
  else
    let first := s.requireEnc k && f.enc && !(s.link k).enc.vcEnc.getD v false
    let s := if first then s.dropStream k v else s
    let started := !first && (s.link k).enc.vcStarted.getD v true
    let d := b.take f.fill
    let d := if started then d else d.drop (if f.start = 255 then f.fill else f.start)
    let s := s.updLink k fun l => { l with
      enc := { l.enc with vcStarted := l.enc.vcStarted.set v (started || f.start != 255), vcEnc := l.enc.vcEnc.set v (l.enc.vcEnc.getD v false || f.enc) },
      rxEnts := mupd (fun _ => []) l.rxEnts v (· ++ [d.length]), rxStream := mupd (fun _ => []) l.rxStream v (· ++ d) }
    (s.linkConsumed k v 0 0).deliverStream k v 16

/-- SEQ ahead of the expected one, in the half of the number space before it counts as already accepted. -/
def seqAhead (l : Link) (q : Nat) : Bool := let d := (q + 65536 - l.rxSeq) % 65536; 0 < d && d < 32768

/-- What a DATA or LMB flit in order does beyond its content: SEQ, ACK owed, ACK at 64 flits (R247, R269). -/
def State.countIn (s : State) (k : Nat) (f : Flit) : State :=
  let s := (s.countRxE k f).updLink k fun l => { l with
    rxSeq := (l.rxSeq + 1) % 65536, nakSent := false, ackOwed := true, unacked := l.unacked + 1 }
  if 64 ≤ (s.link k).unacked ∧ s.txState k = 0 then s.sendNull k else s

/-- Judge a DATA or LMB flit (R247, R249, R269): its packing bytes when it is accepted, and the state after the rest. A flit
that a group discards, or whose tag fails, gives nothing, as its ACK and credits come again (R309); of a flit that a port's adapter
found bad the adapter's replay is counted (log entry 124). -/
def State.judgeSeq (s : State) (k : Nat) (f : Flit) : Option (List Byte) × State :=
  let s := s.resumeRx k
  if f.ok k ∧ f.seq = (s.link k).rxSeq then
    match s.unsealFlit k f with
    | some b =>
      let s := s.ackOf k f
      (if s.rxOn k then some b else none, s)
    | none =>
      let s := (s.inc Fld.CR_LINK_COUNT_AUTH_FAIL k).setF Fld.CR_STATUS_LINK_AUTH_FAIL 0 1
      (none, if isGroup k then s.sendNak k else s)
  else if !isGroup k then
    (none, if f.good then (s.ackOf k f).startRetrain k else s.inc Fld.DP_RETRY_COUNT_COUNT k)
  else if !f.ok k ∨ seqAhead (s.link k) f.seq then (none, s.sendNak k)
  else (none, (s.updLink k fun l => { l with ackOwed := true }).takeAck k f)

/-- A DATA flit (R247, R269). -/
def State.dataRecv (s : State) (k : Nat) (f : Flit) : State :=
  if !s.rxOn k then s.offExit k
  else match s.judgeSeq k f with
    | (none, s') => s'
    | (some b, s') => ((s'.countIn k f).takeData k f b).linkDrained k

/-- A NULL flit: ACK, credits, and a group's PM_REQ (R246, R274). -/
def State.nullRecv (s : State) (k : Nat) (f : Flit) : State :=
  if !s.rxOn k then s.offExit k
  else if !f.ok k then s
  else
    let s := (s.resumeRx k).takeAck k f
    (if isGroup k then s.takePmReq k f.pmReq else s).txPower k

/-- A NAK: its ACK and credits, then a replay from ACK + 1 (R269). -/
def State.nakRecv (s : State) (k : Nat) (f : Flit) : State :=
  if !s.rxOn k then s.offExit k
  else if !f.ok k then s
  else
    let s := (s.resumeRx k).takeAck k f
    if s.linkActive k then s.replayAll k else s

/-- The receiver enters the state that the far transmitter announced; in RXO its lanes are off. -/
def State.enterRx (s : State) (k v : Nat) : State :=
  let s := (s.setF Fld.SL_STATUS_RXSTATE (k - 16) v).updLink k fun l => { l with pmSeen := none }
  if v = 3 then s.lanesOff k else s
/-- A PM flit (R274): at the second of two frames the receiver enters the matching state; a request is honoured when the transmitter's
conditions allow. -/
def State.pmRecv (s : State) (k : Nat) (f : Flit) : State :=
  if !s.rxOn k then s.offExit k
  else if !f.ok k then s
  else
    let s := (s.resumeRx k).takeAck k f
    let s := if f.txState = 0 then s
      else if (s.link k).pmSeen = some f.txState then s.enterRx k f.txState
      else s.updLink k fun l => { l with pmSeen := some f.txState }
    let s := s.updLink k fun l => { l with farForced := f.forced && 1 ≤ f.txState }
    (s.takePmReq k f.pmReq).txPower k

/-- Whether FFE taps keep R263: C0 ≥ 32 and the magnitudes at most 63 in all. -/
def tapsOk (l : List Nat) : Bool :=
  let mag (i : Nat) : Nat := (sgn 8 (nth l i)).natAbs
  32 ≤ sgn 8 (nth l 2) && (List.range 5).foldl (fun a i => a + mag i) 0 ≤ 63

/-- A TEQ flit in training (R265): hold, a preset, or coefficients; one that breaks R263 is ignored. -/
def State.teqRecv (s : State) (k : Nat) (f : Flit) : State :=
  let c := leNat (f.bytes.take 1)
  let taps := (List.range 5).map fun i => leNat (slice f.bytes (2 + i) 1)
  if (s.link k).trainPhase ≠ 3 ∨ !f.ok k ∨ !(s.link k).set.tune then s
  else if c = 1 then s.updLink k fun l => { l with ffe := .preset (leNat (slice f.bytes 1 1)) }
  else if c = 2 ∧ tapsOk taps then s.updLink k fun l => { l with ffe := .taps taps }
  else s

/-! ### Training -/

/-- Start a training attempt (R249, R265). The phases before alignment have no command of their own. -/
def State.attempt (s : State) (k : Nat) : State :=
  let s := s.updLink k fun l => { l with
    trainPhase := 1, checks := 0, rounds := 0, ffe := .reg, initSent := false, initRcvd := false, found := [], allWas := false,
    steady := false }
  if isGroup k then
    let g := k - 16
    let s := (s.setF Fld.SL_STATUS_TXSTATE g (if (s.link k).forced then 2 else 0)).setF Fld.SL_STATUS_RXSTATE g 0
    s.each (List.range 4) fun s l => s.wr .SL_LANE (4 * g + l) 0
  else s

/-- A training attempt fails (R248, R249, R265): the next starts at once, or the link enters FAILED. -/
def State.attemptFails (s : State) (k : Nat) : State :=
  if (s.link k).trainPhase = 0 then s
  else
    let s := s.incLinkW Fld.DP_TRAIN_COUNT_FAILS Fld.SL_TRAIN_COUNT_FAILS k
    let s := s.updLink k fun l => { l with tries := l.tries + 1, trainPhase := 0, initSent := false, initRcvd := false }
    if s.linkState k = failedState k then s
    else
      let back := if s.linkState k = 2 then s.setLinkState k (s.link k).origin else s
      if (back.link k).set.tries ≤ (back.link k).tries then
        let s := back.setLinkState k (failedState k)
        let s := s.setLinkF Fld.DP_STATUS_TRAIN_FAIL Fld.SL_STATUS_TRAIN_FAIL k 1
        let s := s.setLinkF Fld.DP_STATUS_RATE Fld.SL_STATUS_RATE k 0
        let s := s.endLinkCmds k (· == 1) 7 [BitVec.ofNat 8 (failedState k)]
        let s := s.event 0x40 k 0
        if (s.link k).again then s.takeAgain k else s
      else back.attempt k

/-- TRAINING_ATTEMPT: the first attempt of a training; one that follows a reference loss waits for REFCLK (R249). -/
def State.trainingAttempt (s : State) (k : Nat) : State :=
  let st := s.linkState k
  let l := s.link k
  if (st = 1 ∨ st = 4) ∧ l.trainPhase = 0 ∧ !(l.retrainAfterRef && s.refLost) then
    (s.updLink k fun l => { l with retrainAfterRef := false }).attempt k
  else s
/-- FAILED_RETRY: one attempt every 1 ms (R252, R265). -/
def State.failedRetry (s : State) (k : Nat) : State :=
  if s.linkState k = failedState k ∧ (s.link k).trainPhase = 0 ∧ s.linkMayTrain k then s.attempt k else s

/-- Whether a group is in the alignment phase (R266). -/
def State.aligning (s : State) (g : Nat) : Bool := (s.link (16 + g)).trainPhase = 2
/-- Slip one lane by one symbol: the count restarts (R266). -/
def State.slipLane (s : State) (g lane : Nat) : State :=
  if s.aligning g ∧ lane < 4 then
    let i := 4 * g + lane
    let s := s.setF Fld.SL_LANE_SLIPS i (s.f Fld.SL_LANE_SLIPS i + 1)
    (s.setF Fld.SL_LANE_MATCH i 0).setF Fld.SL_LANE_ALIGNED i 0
  else s
/-- ALIGNMENT_CHECK: one turn of the firmware's search (R266); in manual alignment only MATCH is shown. A group's first
check of an attempt opens the alignment phase (log entry 125). -/
def State.alignmentCheck (s : State) (g : Nat) (m : List Nat) : State :=
  let k := 16 + g
  let l := s.link k
  if l.trainPhase ≠ 1 ∧ l.trainPhase ≠ 2 then s
  else
    let all : Bool := (List.range 4).all fun i => 250 ≤ nth m i
    let found := if l.set.manual then l.found else (List.range 4).filter fun i => l.found.contains i || 250 ≤ nth m i
    let s := s.updLink k fun l => { l with
      trainPhase := 2, checks := l.checks + 1, found := found, allWas := all, steady := all && l.allWas }
    let s := s.each (List.range 4) fun s i =>
      let j := 4 * g + i
      let s := (s.setF Fld.SL_LANE_MATCH j (nth m i)).setF Fld.SL_LANE_ALIGNED j (if 250 ≤ nth m i then 1 else 0)
      if l.set.manual ∨ found.contains i ∨ 39 ≤ l.checks then s else s.slipLane g i
    if !l.set.manual ∧ 39 ≤ l.checks ∧ found.length < 4 then s.attemptFails k else s
/-- FRAME_LOCK: the lanes have been ALIGNED for 256 words, and the markers are found on all four (R265, R266); the scramblers
start (R261). The CTLE peaking is the register's or, chosen by training, a free value. -/
def State.frameLock (s : State) (g : Nat) : State :=
  let k := 16 + g
  if s.aligning g ∧ (s.link k).steady ∧ (List.range 4).all (fun l => s.f Fld.SL_LANE_ALIGNED (4 * g + l) = 1) then
    let s := s.updLink k fun l => { l with
      trainPhase := 3, badFrames := [], txScr := 2 ^ 31 - 1, rxScr := 2 ^ 31 - 1, slotQ := [], dfe := some s.fresh }
    let s := s.drawn
    let s := s.each (List.range 4) fun s l => s.setF Fld.SL_LANE_FRAME_LOCK (4 * g + l) 1
    let s := match (s.link k).set.ctle with
      | some v => s.setF Fld.SL_RXEQ_CTLE_USED g v
      | none => (s.setF Fld.SL_RXEQ_CTLE_USED g ((Config.freeWord s.fresh).toNat % 16)).drawn
    if s.linkState k = failedState k then s else s.setLinkState k 2
  else s
/-- FFE_TUNING_ROUND: one of up to 16 requests to the far transmitter (R265). -/
def State.ffeRound (s : State) (g : Nat) (req : List Nat) : State :=
  let k := 16 + g
  let l := s.link k
  if l.trainPhase = 3 ∧ l.set.tune ∧ l.rounds < 16 ∧ !l.initSent then
    (s.updLink k fun l => { l with rounds := l.rounds + 1 }).onWire k
      { kind := 7, seq := l.txSeq, bytes := fit 0 240 (req.map (BitVec.ofNat 8)) }
  else s
/-- ADAPTER_ACTIVE: training reached the active state at a rate; the first flit goes (R248, R270). A raw group has no link
layer, no encryption and no receive-buffer pool, and is ACTIVE at once; the next link layer begins with INIT (R277; log entry 126). A
transmitter forced into TXS sends no first flit. -/
def State.adapterActive (s : State) (k rate : Nat) : State :=
  let l := s.link k
  if l.trainPhase ≠ (if isGroup k then 3 else 1) ∨ l.initSent ∨ l.forced then s
  else
    let s := s.setLinkF Fld.DP_STATUS_RATE Fld.SL_STATUS_RATE k (if isGroup k then l.set.rate else min rate l.set.rate)
    let s := if isGroup k then s.setF Fld.SL_STATUS_RAW (k - 16) (if l.set.raw then 1 else 0) else s
    let s := s.setLinkState k 2
    if s.rawOn k then
      (((s.dropKeys k).updLink k fun l => { l with
        advDepth := zero4, rxDepth := zero4, cred := zero4, outst := zero4, rel := zero4, far := zero4, escTx := zero4, escRx := zero4,
        rxStream := [], rxEnts := [], rxPast := (List.range 4).map (s.waitBytes k), replay := [], carried := [] }).linkUp k).updLink k
        fun l => { l with fresh := true }
    else
      let s := s.updLink k fun l => { l with rawTx := {}, rawRx := {}, rawIn := [], rawGot := false }
      let s := s.setLinkF Fld.DP_STATUS_PEER_INIT Fld.SL_STATUS_PEER_INIT k (if l.fresh then 0 else 1)
      let s := s.setLinkF Fld.DP_PEER_VALID Fld.SL_PEER_VALID k (if l.fresh then 0 else 1)
      let s := s.sendFirst k
      if l.initRcvd then s.linkUp k else s

/-- REPLAY_BUFFER_DRAIN_LIMIT: 10 µs are over (R249, R251, R271, R280); a hold-down takes effect in a retraining too. -/
def State.drainLimit10 (s : State) (k : Nat) : State :=
  let l := s.link k
  if l.holdAfterDrain then (s.payAck k).goDown k
  else if !s.linkActive k then s
  else if l.depthChange then s.startRetrain k
  else s

/-! ### Frames -/

/-- What a received frame shows beside its flits (R264, R269, R271, R285): counters, phases, the equaliser's adaptation,
markers; a lane at its phase limit of ±4 UI retrains, and four frames with a wrong marker on a lane. -/
def State.frameSeen (s : State) (g : Nat) (x : Frame) : State :=
  let k := 16 + g
  let s := if s.f Fld.SL_RXEQ_DFE_FREEZE g = 1 then s else (s.updLink k fun l => { l with dfe := some s.fresh }).drawn
  let s := s.updLink k fun l => { l with rxScr := (scrambler 512 l.rxScr).2 }
  let s := s.each (List.range 4) fun s l => s.setF Fld.SL_LANE_PHASE (4 * g + l) (nth x.phase l)
  let s := s.inc Fld.SL_FEC_COUNT_COUNT g x.corrected
  let s := if x.ue then s.inc Fld.SL_FEC_UE_COUNT_COUNT g else s
  let s := s.each (List.range 4) fun s l =>
    let bad := x.badMarker (s.rawRuns k) l
    let s := s.updLink k fun q => { q with badFrames := mupd (fun _ => 0) q.badFrames l fun n => if bad then n + 1 else 0 }
    s.setF Fld.SL_LANE_FRAME_LOCK (4 * g + l) (if bad then 0 else 1)
  if (List.range 4).any fun l => 4 ≤ mget (fun _ => 0) (s.link k).badFrames l || 256 ≤ (sgn 10 (nth x.phase l)).natAbs then s.startRetrain k
  else s
/-- Whether frames of a group are decoded now: frame lock reached. -/
def State.framing (s : State) (g : Nat) : Bool :=
  (s.link (16 + g)).trainPhase = 3 || s.linkState (16 + g) = 2 || s.linkActive (16 + g)

/-! ### Power states and stops -/

/-- Forced TXS (Table 12-6): supply shedding, REFCLK lost. A group whose lanes are off, DISABLED or DOWN_HELD, has no transmitter to
force (log entry 156). -/
def State.forceTxs (s : State) (g : Nat) : State :=
  let k := 16 + g
  if s.linkState k = 0 ∨ s.linkState k = downHeld k ∨ (s.link k).forced then s
  else
    let off := s.txState k = 3
    (if s.txState k = 2 then s else s.enterTx k 2 true).updLink k fun l => { l with forced := true, forcedOff := off && s.linkActive k }
/-- Supply recovered and REFCLK good: forced TXS ends; a transmitter that was in TXO retrains (R271), or goes back to it while TX_HOLD
holds it there. -/
def State.unforceTxs (s : State) (g : Nat) : State :=
  let k := 16 + g
  if (s.link k).forced then
    let off := (s.link k).forcedOff
    let s := s.updLink k fun l => { l with forced := false, forcedOff := false }
    if off then (if s.txWanted k = 3 then s.enterTx k 3 false else s.startRetrain k) else s.exitTx k
  else s
/-- L1 asked for by shedding at −8 % (Table 11-3). -/
def State.shedPort (s : State) (d : Nat) : State :=
  (s.updLink d fun l => { l with l1Shed := true }).linkDrained d
/-- A port leaves L1 unless shedding or the lost reference keeps it there (R252). -/
def State.leaveL1 (s : State) (d : Nat) : State :=
  if s.linkState d = 5 ∧ !s.l1Due d then
    let s := s.setLinkState d 3
    if (s.link d).cmd.any fun c => c.1 == 1 then s.endLinkCmds d (· == 1) 0 [] else s
  else s
/-- The reference is good again: a port leaves L1 if packets wait for it (R326). -/
def State.l1Wake (s : State) (d : Nat) : State := if s.bytesReady d then s.leaveL1 d else s

/-! ### Meanings of the link layer's commands -/

/-- From a foundation reset until RESUME ports and groups accept no flits (Table 16-5). -/
def State.unlessResuming (s : State) (f : State → State) : State := if s.resuming then s else f s

def execDataFlit (link : Nat) (flit : Flit) (s : State) : Host.Outcome State Fault Refusal := .next (s.unlessResuming fun s => s.dataRecv link flit)
def execNullFlit (link : Nat) (flit : Flit) (s : State) : Host.Outcome State Fault Refusal := .next (s.unlessResuming fun s => s.nullRecv link flit)
def execInitFlit (link : Nat) (flit : Flit) (s : State) : Host.Outcome State Fault Refusal := .next (s.unlessResuming fun s => s.initRecv link flit)
def execResyncFlit (link : Nat) (flit : Flit) (s : State) : Host.Outcome State Fault Refusal := .next (s.unlessResuming fun s => s.resyncRecv link flit)
def execNak (group : Nat) (flit : Flit) (s : State) : Host.Outcome State Fault Refusal := .next (s.unlessResuming fun s => s.nakRecv (16 + group) flit)
def execPm (group : Nat) (flit : Flit) (s : State) : Host.Outcome State Fault Refusal := .next (s.unlessResuming fun s => s.pmRecv (16 + group) flit)
def execTeq (group : Nat) (flit : Flit) (s : State) : Host.Outcome State Fault Refusal := .next (s.unlessResuming fun s => s.teqRecv (16 + group) flit)
def execFlitSend (link vc : Nat) (s : State) : Host.Outcome State Fault Refusal := .next (s.flitSend link vc)
/-- 1 µs after a DATA flit: the ACK goes in a NULL flit (R247); a group's transmitter in TXI or TXS leaves it for this
(Table 12-6), not in TXO, and a port leaves L1 for it. -/
def execAckTimer (link : Nat) (s : State) : Host.Outcome State Fault Refusal :=
  let s := if !isGroup link && (s.link link).ackOwed then s.leaveL1 link else s
  .next (if s.linkActive link && !s.rawOn link && ((s.link link).ackOwed || (s.link link).rel.any (0 < ·)) && !(s.link link).forced &&
      s.txState link ≠ 3 then
    ((if s.txState link = 0 then s else s.exitTx link).sendNull link).txPower link else s)
/-- 4 µs without an ACK advancing (R269); suspended while the far transmitter is in a forced state (R274). -/
def execReplayTimer (group : Nat) (s : State) : Host.Outcome State Fault Refusal :=
  .next (if s.linkActive (16 + group) && !s.rawOn (16 + group) && !(s.link (16 + group)).farForced && s.txState (16 + group) = 0 then
    s.replayAll (16 + group) else s)
def execDpCtrlRetrain (port : Nat) (s : State) : Host.Outcome State Fault Refusal :=
  .next ((s.setF Fld.DP_CTRL_RETRAIN port 1).when (s.linkActive port || s.linkState port = 5) (·.startRetrain port))
def execDpCtrlHoldDown (port value : Nat) (s : State) : Host.Outcome State Fault Refusal :=
  .next (if value = 1 then s.holdDown port else s.releaseHold port)
def execSlCtrlRetrain (group : Nat) (s : State) : Host.Outcome State Fault Refusal :=
  .next ((s.setF Fld.SL_CTRL_RETRAIN group 1).when (s.linkActive (16 + group)) (·.startRetrain (16 + group)))
def execSlCtrlHoldDown (group value : Nat) (s : State) : Host.Outcome State Fault Refusal :=
  .next (if value = 1 then s.holdDown (16 + group) else s.releaseHold (16 + group))
def execSlCtrlSlip (group value : Nat) (s : State) : Host.Outcome State Fault Refusal :=
  .next ((s.setF Fld.SL_CTRL_LANE group value).slipLane group value)
/-- A write of TX_HOLD (R274): clearing it is an exit trigger. -/
def State.writeTxHold (s : State) (g v : Nat) : State :=
  let k := 16 + g
  let old := s.f Fld.SL_PWR_TX_HOLD g
  let s := s.setF Fld.SL_PWR_TX_HOLD g v
  if v = 0 ∧ old ≠ 0 ∧ s.linkActive k ∧ s.txState k ≠ 0 ∧ (s.link k).pmReq = 0 ∧ !(s.link k).forced then s.exitTx k
  else s.txPower k
def execTxHold (group value : Nat) (s : State) : Host.Outcome State Fault Refusal := .next (s.writeTxHold group value)
/-- A write of RX_HOLD: PM_REQ goes in the next PM or NULL flit (Table 12-6). -/
def execRxHold (group value : Nat) (s : State) : Host.Outcome State Fault Refusal :=
  .next (s.setF Fld.SL_PWR_RX_HOLD group value)
def execReplayBufferDrainLimit (link : Nat) (s : State) : Host.Outcome State Fault Refusal := .next (s.drainLimit10 link)
def execTrainingAttempt (link : Nat) (s : State) : Host.Outcome State Fault Refusal := .next (s.trainingAttempt link)
def execAlignmentCheck (group : Nat) (matched : List Nat) (s : State) : Host.Outcome State Fault Refusal :=
  .next (s.alignmentCheck group matched)
def execFfeTuningRound (group : Nat) (requests : List Nat) (s : State) : Host.Outcome State Fault Refusal :=
  .next (s.ffeRound group requests)
def execFrameLock (group : Nat) (s : State) : Host.Outcome State Fault Refusal := .next (s.frameLock group)
def execAdapterActive (link rate : Nat) (s : State) : Host.Outcome State Fault Refusal := .next (s.adapterActive link rate)
/-- TRAINING_FAILURE: a phase fails, or the time of an attempt is over; manual alignment suspends the limit (R265, R266). -/
def execTrainingFailure (link : Nat) (s : State) : Host.Outcome State Fault Refusal :=
  .next (if (s.link link).trainPhase = 2 && (s.link link).set.manual then s else s.attemptFails link)
def execFailedRetry (link : Nat) (s : State) : Host.Outcome State Fault Refusal := .next (s.failedRetry link)
/-- L1 with an empty replay buffer (R252): after L1_IDLE µs without packets, or at once for shedding or a lost reference, packets
waiting or not (R251, R324). -/
def execL1Entry (port : Nat) (s : State) : Host.Outcome State Fault Refusal :=
  .next (if s.linkActive port && (s.link port).replay.isEmpty &&
      ((s.f Fld.DP_CFG_L1_IDLE port ≠ 0 && !s.bytesReady port) || s.l1Due port) then s.setLinkState port 5 else s)
def execL1Exit (port : Nat) (s : State) : Host.Outcome State Fault Refusal := .next (s.leaveL1 port)
def execTxiEntry (group : Nat) (s : State) : Host.Outcome State Fault Refusal :=
  .next (if s.linkActive (16 + group) && s.txState (16 + group) = 0 && s.txIdle (16 + group) && !s.rawOn (16 + group) &&
      s.f Fld.SL_PWR_IDLE_NS group ≠ 0 then s.enterTx (16 + group) 1 false else s.txPower (16 + group))
def execTxsEntry (group : Nat) (s : State) : Host.Outcome State Fault Refusal :=
  .next (if s.linkActive (16 + group) && s.txState (16 + group) = 1 && s.txIdle (16 + group) &&
      s.f Fld.SL_PWR_SLEEP_US group ≠ 0 then s.enterTx (16 + group) 2 false else s.txPower (16 + group))
/-- An exit trigger of TXI or TXS: bytes ready for the group, or an ACK owed (Table 12-6). That of TXO is TX_HOLD cleared. -/
def execTxExit (group : Nat) (s : State) : Host.Outcome State Fault Refusal :=
  .next (if s.linkActive (16 + group) && (s.txState (16 + group) = 1 || s.txState (16 + group) = 2) && !(s.link (16 + group)).forced &&
      (s.bytesReady (16 + group) || (s.link (16 + group)).ackOwed) then s.exitTx (16 + group) else s)
/-- 10 µs after a reference loss with flits still unacknowledged: the mainband stops and the port retrains when REFCLK is
good again (R249, R324). -/
def execPortMainbandStop (port : Nat) (s : State) : Host.Outcome State Fault Refusal :=
  .next (if s.refLost && s.linkActive port && !(s.link port).replay.isEmpty then
    (s.startRetrain port).updLink port fun l => { l with retrainAfterRef := true } else s)
/-- The forwarded clock stops (R271): without a PM flit announcing TXS or TXO a retraining starts; with one whose second frame did not
come through, the receiver follows it. -/
def execForwardedClockStop (group : Nat) (s : State) : Host.Outcome State Fault Refusal :=
  let k := 16 + group
  .next (if s.rxState k = 2 || s.rxState k = 3 then s
    else match (s.link k).pmSeen with
      | some v => if 2 ≤ v then s.enterRx k v else s.startRetrain k
      | none => s.startRetrain k)
def execAdapterRetryFailure (port replays : Nat) (s : State) : Host.Outcome State Fault Refusal :=
  .next ((s.inc Fld.DP_RETRY_COUNT_COUNT port replays).startRetrain port)
/-- A repairable lane fault: the retraining takes a redundant lane into use (R249, R258). -/
def execLaneFault (port _lane : Nat) (tx : Bool) (s : State) : Host.Outcome State Fault Refusal :=
  .next ((s.inc (if tx then Fld.DP_REPAIR_TX_USED else Fld.DP_REPAIR_RX_USED) port).startRetrain port)

/-! ### Ebryn commands on ports and groups (R255, R281) -/

/-- Transmit and receive book words of a VC (Table 11-9). -/
def bookWord (l : List Nat) : Word := BitVec.ofNat 32 (2 ^ 24 * min 255 (nth l 0) + 2 ^ 16 * min 255 (nth l 1) + 2 ^ 8 * min 255 (nth l 2) + min 255 (nth l 3))
def State.txBook (s : State) (k v : Nat) : Word :=
  let l := s.link k
  bookWord [nth l.advDepth v, nth l.cred v, nth l.outst v, 0]
def State.rxOcc (s : State) (k v : Nat) : Nat := (mget (fun _ => []) (s.link k).rxEnts v).length
def State.rxBook (s : State) (k v : Nat) : Word :=
  let l := s.link k
  bookWord [nth l.rxDepth v, s.rxOcc k v, nth l.rel v, nth l.far v]
def State.linkBooks (s : State) (k : Nat) : List Word :=
  ((List.range 4).map (s.txBook k)) ++ ((List.range 4).map (s.rxBook k))

def execDpStatus (h : CmdHdr) (port : Nat) (s : State) : Host.Outcome State Fault Refusal :=
  .next (s.submit h 0x0701 .s (argBytes [(6, 1, port)]) fun s => s.checks h [(16 ≤ port, 3)] fun s =>
    s.replyData h (regData ([s.rd .DP_STATUS port, s.rd .DP_PEER port, s.rd .DP_REPAIR port] ++ s.linkBooks port)))
def execSlStatus (h : CmdHdr) (group : Nat) (s : State) : Host.Outcome State Fault Refusal :=
  .next (s.submit h 0x0801 .s (argBytes [(6, 1, group)]) fun s => s.checks h [(16 ≤ group, 3)] fun s =>
    s.replyData h (regData ([s.rd .SL_STATUS group, s.rd .SL_PEER group, s.rd .SL_PWR group] ++
      ((List.range 4).map fun l => s.rd .SL_LANE (4 * group + l)) ++ s.linkBooks (16 + group))))
/-- A command waits on a link. -/
def State.awaitLink (s : State) (k what : Nat) (h : CmdHdr) : State :=
  s.updLink k fun l => { l with cmd := l.cmd ++ [(what, h.port, h.node, h.ep, h.tag)] }
def execDpRetrain (h : CmdHdr) (port us : Nat) (s : State) : Host.Outcome State Fault Refusal :=
  .next (s.submit h 0x0702 .r (argBytes [(6, 1, port), (8, 4, us)]) fun s =>
    s.checks h [(16 ≤ port, 3), (!(s.linkActive port || s.linkState port = 5), 5)] fun s => (s.awaitLink port 1 h).startRetrain port)
def execDpDown (h : CmdHdr) (port : Nat) (s : State) : Host.Outcome State Fault Refusal :=
  .next (s.submit h 0x0703 .r (argBytes [(6, 1, port)]) fun s =>
    s.checks h [(16 ≤ port, 3)] fun s => (s.awaitLink port 2 h).holdDown port)
/-- DP_UP of a port that is ACTIVE already ends at once. -/
def State.upLink (s : State) (k : Nat) (h : CmdHdr) : State :=
  let s := (s.awaitLink k 1 h).releaseHold k
  if s.linkActive k then s.endLinkCmds k (· == 1) 0 [] else s
def execDpUp (h : CmdHdr) (port us : Nat) (s : State) : Host.Outcome State Fault Refusal :=
  .next (s.submit h 0x0704 .r (argBytes [(6, 1, port), (8, 4, us)]) fun s =>
    s.checks h [(16 ≤ port, 3)] fun s => s.upLink port h)
def execSlRetrain (h : CmdHdr) (group us : Nat) (s : State) : Host.Outcome State Fault Refusal :=
  .next (s.submit h 0x0802 .r (argBytes [(6, 1, group), (8, 4, us)]) fun s =>
    s.checks h [(16 ≤ group, 3), (!s.linkActive (16 + group), 5)] fun s => (s.awaitLink (16 + group) 1 h).startRetrain (16 + group))
def execSlDown (h : CmdHdr) (group : Nat) (s : State) : Host.Outcome State Fault Refusal :=
  .next (s.submit h 0x0803 .r (argBytes [(6, 1, group)]) fun s =>
    s.checks h [(16 ≤ group, 3)] fun s => (s.awaitLink (16 + group) 2 h).holdDown (16 + group))
def execSlUp (h : CmdHdr) (group us : Nat) (s : State) : Host.Outcome State Fault Refusal :=
  .next (s.submit h 0x0804 .r (argBytes [(6, 1, group), (8, 4, us)]) fun s =>
    s.checks h [(16 ≤ group, 3)] fun s => s.upLink (16 + group) h)
def execSlSlip (h : CmdHdr) (group lane : Nat) (s : State) : Host.Outcome State Fault Refusal :=
  .next (s.submit h 0x0805 .r (argBytes [(6, 1, group), (7, 1, lane)]) fun s =>
    s.checks h [(16 ≤ group ∨ 4 ≤ lane, 3), (!s.aligning group, 5)] fun s => (s.slipLane group lane).reply h 0)
def execSlPower (h : CmdHdr) (group txHold rxHold us : Nat) (s : State) : Host.Outcome State Fault Refusal :=
  .next (s.submit h 0x0806 .r (argBytes [(6, 1, group), (7, 1, txHold), (8, 1, rxHold), (12, 4, us)]) fun s =>
    s.checks h [(16 ≤ group ∨ 4 ≤ txHold ∨ 4 ≤ rxHold, 3)] fun s =>
      let s := (s.awaitLink (16 + group) (4 + txHold) h).setF Fld.SL_PWR_RX_HOLD group rxHold
      let s := s.writeTxHold group txHold
      s.endLinkCmds (16 + group) (· == 4 + s.txState (16 + group)) 0 [])

end Sys2Proof.Machine
end

