-- ==== Sys2Proof/Machine/CryptoUnit.lean ====
section
/-!
DEFINITION. The crypto unit (R286–R307, R315–R318): protected ranges, keystream and tags, the counter tree and its cache,
reads and writes of protected lines, page re-encryption, initialisation and rekeying. What the manual leaves open of the
cache's mapping and of the traffic during initialisation and rekeying is in log entries 24 and 25, of failed requests to home
in 157, of a range that is disabled in 158.
-/
namespace Sys2Proof.Machine

/-! ### State access -/

def State.crr (s : State) (r : Nat) : CrRange := mget (fun _ => {}) s.crypto.ranges r
def State.updCrr (s : State) (r : Nat) (g : CrRange → CrRange) : State :=
  s.updCr fun c => { c with ranges := mupd (fun _ => {}) c.ranges r g }
def State.crJob (s : State) (j : Nat) : Option CrJob := mget (fun _ => none) s.crypto.jobs j
def State.setJob (s : State) (j : Nat) (v : Option CrJob) : State :=
  s.updCr fun c => { c with jobs := mput (fun _ => none) c.jobs j v }
def State.updJob (s : State) (j : Nat) (g : CrJob → CrJob) : State :=
  match s.crJob j with | some x => s.setJob j (some (g x)) | none => s
def State.crReq (s : State) (q : Nat) : Option CrReq := mget (fun _ => none) s.crypto.reqs q
def State.setReq (s : State) (q : Nat) (v : Option CrReq) : State :=
  s.updCr fun c => { c with reqs := mput (fun _ => none) c.reqs q v }
/-- A fresh number for a request or job. -/
def State.crNext (s : State) : Nat × State := (s.crypto.next, s.updCr fun c => { c with next := c.next + 1 })
def State.rgState (s : State) (r : Nat) : Nat := s.f Fld.CR_RANGE_STATE_STATE r
/-- The state that accesses of a range meet: while it is disabled, those translated before meet the state that it had (R307). -/
def State.rgMeets (s : State) (r : Nat) : Nat := if (s.crr r).disabling then (s.crr r).held else s.rgState r
/-- The unit sends nothing new in the safe state and in a foundation reset (R307). -/
def State.crHeld (s : State) : Bool := s.safe || s.resuming
/-- Jobs of a range, in order of receipt. -/
def State.jobsOf (s : State) (r : Nat) : List (Nat × CrJob) :=
  s.crypto.jobs.filterMap fun (e : Nat × Option CrJob) =>
    match e.2 with | some j => if j.range = r then some (e.1, j) else none | none => none

/-! ### Cipher inputs (R293–R295) -/

/-- The 128-bit counter block (Table 13-4). -/
def ctrBlock (range line major minor domain blk : Nat) : List Byte :=
  beBytes 16 (2 ^ 123 * range + line % 2 ^ 28 * 2 ^ 95 + major % 2 ^ 56 * 2 ^ 39 + 2 ^ 32 * (minor % 128) + 2 ^ 24 * domain + blk)
/-- Encrypt or decrypt a line (R294). -/
def lineCipher (kd : List Byte) (range line major minor : Nat) (d : List Byte) : List Byte :=
  xorBytes d (((List.range 4).map fun j => aes256 kd (ctrBlock range line major minor 0 j)).flatten)
/-- GHASH over a 64-byte content and the authenticated block, masked, first 8 bytes (R295). -/
def tag8 (kt a content : List Byte) : List Byte :=
  let h := aes256 kt (List.replicate 16 0)
  (xorBytes (ghash h (chunks16 4 content ++ [a])) (aes256 kt a)).take 8
def lineTag (kt : List Byte) (range line major minor : Nat) (ct : List Byte) : List Byte :=
  tag8 kt (ctrBlock range line major minor 1 0) ct
/-- Node tag: LINE holds level and index, MAJOR the parent's counter; an internal node's TAG field counts as 0. -/
def nodeTag (kt : List Byte) (range level idx ctr : Nat) (b : List Byte) : List Byte :=
  tag8 kt (ctrBlock range (2 ^ 24 * level + idx) ctr 0 2 0) (if level = 0 then b else fit 0 64 (b.take 56))

/-! ### Counter blocks and layout (R290, R291) -/

def blkGet (b : List Byte) (lo w : Nat) : Nat := leNat b / 2 ^ lo % 2 ^ w
def blkSet (b : List Byte) (lo w v : Nat) : List Byte :=
  leBytes 64 (leNat b - blkGet b lo w * 2 ^ lo + v % 2 ^ w * 2 ^ lo)
def leafMajor (b : List Byte) : Nat := blkGet b 0 56
def leafMinor (b : List Byte) (m : Nat) : Nat := blkGet b (56 + 7 * m) 7
/-- Levels of internal nodes: ceil((p − 3) / 3). -/
def treeH (p : Nat) : Nat := (p - 1) / 3
def metaT (p : Nat) : Nat := 4096 * ((520 * (2 ^ p) + 4095) / 4096)
/-- Metadata offset of node idx of a level. -/
def nodeOff (p level idx : Nat) : Nat := metaT p + 64 * (((List.range level).map fun j => 2 ^ (p - 3 * j)).sum + idx)
def lineTagOff (i : Nat) : Nat := 8 * i
def leafTagOff (p q : Nat) : Nat := 512 * (2 ^ p) + 8 * q

/-! ### The counter cache (R296) -/

/-- Key of an entry: range, tree (1 the old one of a rekey), level, index. -/
def nodeKey (r : Nat) (old : Bool) (level idx : Nat) : Nat := 2 ^ 24 * ((2 * r + (if old then 1 else 0)) * 8 + level) + idx
def keyLevel (k : Nat) : Nat := k / 2 ^ 24 % 8
def keyIdx (k : Nat) : Nat := k % 2 ^ 24
def keyRange (k : Nat) : Nat := k / 2 ^ 28
def keyOld (k : Nat) : Bool := k / 2 ^ 27 % 2 = 1
def parentKey (k : Nat) : Nat := nodeKey (keyRange k) (keyOld k) (keyLevel k + 1) (keyIdx k / 8)
def State.cached (s : State) (k : Nat) : Option CacheEnt := (s.crypto.cache.find? fun (e : Nat × CacheEnt) => e.1 == k).map (·.2)
/-- Make an entry the most recently used. -/
def State.cacheFront (s : State) (k : Nat) (e : CacheEnt) : State :=
  s.updCr fun c => { c with cache := (k, e) :: c.cache.filter fun (x : Nat × CacheEnt) => x.1 != k }
def State.cacheTouch (s : State) (k : Nat) : State := match s.cached k with | some e => s.cacheFront k e | none => s
/-- Store an entry, with valid check bits (R296), as the most recently used. -/
def State.cachePut (s : State) (k : Nat) (e : CacheEnt) : State := (s.cacheFront k e).odClear (.cacheEnt k)
/-- Change an entry where it stands. -/
def State.cacheSet (s : State) (k : Nat) (e : CacheEnt) : State :=
  (s.updCr fun c => { c with cache := c.cache.map fun (x : Nat × CacheEnt) => if x.1 = k then (k, e) else x }).odClear (.cacheEnt k)
def State.cacheDrop (s : State) (k : Nat) : State :=
  (s.updCr fun c => { c with cache := c.cache.filter fun (x : Nat × CacheEnt) => x.1 != k }).odClear (.cacheEnt k)

/-- A page lies in the old tree while a rekey has not reached it (R306). -/
def State.oldTree (s : State) (r q : Nat) : Bool := !(s.crr r).oldKd.isEmpty && (s.crr r).page ≤ q
def CrRange.kdOf (c : CrRange) (old : Bool) : List Byte := if old then c.oldKd else c.kd
def CrRange.ktOf (c : CrRange) (old : Bool) : List Byte := if old then c.oldKt else c.kt
/-- The counter that covers node idx of a level: the root's, or the cached parent's. -/
def State.parentCtr (s : State) (r : Nat) (old : Bool) (level idx : Nat) : Option Nat :=
  let c := s.crr r
  if level = treeH c.lp then some (nth (if old then c.oldRoot else c.root) idx)
  else (s.cached (nodeKey r old (level + 1) (idx / 8))).map fun e => blkGet e.data (56 * (idx % 8)) 56

/-! ### Requests to home -/

/-- A request of the unit to home, at an offset in the window whose offset 0 has the global address `home`. -/
def State.homePkt (s : State) (home type off len : Nat) (d : List Byte) (poison : Nat) : Packet :=
  mkReq s type 545 0 (home / 2 ^ 48 * 2 ^ 48 + (home + off) % 2 ^ 48) len d poison
/-- The global address of offset 0 of a range's window in effect. -/
def State.winHome (s : State) (w : Nat) : Nat :=
  2 ^ 48 * s.f Fld.CO_RWIN_CTRL_NODE w + (4096 * s.f Fld.CO_RWIN_BASE_LO_BASE w + 2 ^ 32 * s.f Fld.CO_RWIN_BASE_HI_BASE w) % 2 ^ 48
/-- A job's request leaves as soon as it has a tag, and its answer is waited for. -/
def State.jobSend (s : State) (id : Nat) (p : Packet) (what : Nat) : State :=
  match (if s.crHeld then none else s.postTag 545) with
  | some t => (s.request 545 { p with tag := t }).updJob id fun x => { x with waiting := x.waiting ++ [(t, what)] }
  | none => s.updJob id fun x => { x with todo := x.todo ++ [(p, what)] }
def State.jobHome (s : State) (id type off len : Nat) (d : List Byte) (poison what : Nat) : State :=
  match s.crJob id with
  | some j => s.jobSend id (s.homePkt j.home type off len d poison) what
  | none => s
/-- Send what a job's requests have waited with. -/
def State.pumpJob (s : State) (id : Nat) : State :=
  match s.crJob id with
  | some j => (s.updJob id fun x => { x with todo := [] }).each j.todo fun s (x : Packet × Nat) => s.jobSend id x.1 x.2
  | none => s
/-- The writes of the unit that home has not acknowledged. -/
def State.crWrites (s : State) : List Packet :=
  (s.posts 545 ++
    (s.net.outReq.filterMap fun (e : Nat × Option OutReq) => match e.2 with
      | some r => if e.1 / 4096 == 545 && !r.expired then some r.pkt else none
      | none => none) ++
    (s.crypto.jobs.flatMap fun (e : Nat × Option CrJob) => match e.2 with
      | some j => j.todo.map fun (x : Packet × Nat) => x.1
      | none => [])).filter fun p => p.type == 1
/-- Whether such a write touches n bytes at a window offset. -/
def State.homeBusy (s : State) (home off n : Nat) : Bool :=
  let a := home / 2 ^ 48 * 2 ^ 48 + (home + off) % 2 ^ 48
  s.crWrites.any fun p => p.dest < a + n && a ≤ p.dest + p.len
/-- A window offset of the data or the metadata area. -/
def CrRange.dataOff (c : CrRange) (o : Nat) : Nat := 4096 * c.base + o
def CrRange.metaOff (c : CrRange) (o : Nat) : Nat := 4096 * c.meta' + o
/-- POISON bits of the words that n bytes at an offset touch (R149). -/
def wordMask (off n : Nat) : Nat := ((List.range 8).filter fun i => 32 * i < off % 256 + n ∧ off % 256 < 32 * i + 32).foldl (fun m i => m + 2 ^ i) 0

/-! ### Failures (R299, R303, R305) -/

def State.keyRoll (s : State) : State :=
  s.setF Fld.CR_STATUS_KEY_ROLL_REQUIRED 0 (if (List.range 32).any fun r => s.rgState r = 3 then 1 else 0)
/-- A new state of a range. One that is being disabled reads DISABLED (R288). -/
def State.setRange (s : State) (r st : Nat) : State :=
  if (s.crr r).disabling then s.updCrr r fun c => { c with held := st } else (s.setF Fld.CR_RANGE_STATE_STATE r st).keyRoll
/-- Record a failure (R317). -/
def State.crFail (s : State) (kind r level idx : Nat) : State :=
  let s := s.setF Fld.CR_FAIL_INFO_VALID 0 1
  let s := s.setF Fld.CR_FAIL_INFO_KIND 0 kind
  let s := s.setF Fld.CR_FAIL_INFO_RANGE 0 r
  let s := s.setF Fld.CR_FAIL_INFO_LEVEL 0 level
  s.setF Fld.CR_FAIL_INDEX_INDEX 0 idx
def State.tagFail (s : State) (r line kind : Nat) : State :=
  ((s.inc Fld.CR_TAG_FAIL_COUNT_COUNT 0).setF Fld.CR_STATUS_TAG_FAIL 0 1).crFail kind r 0 line
/-- A range enters FAILED (R303). -/
def State.rangeFails (s : State) (r kind level idx : Nat) : State :=
  let s := (s.crFail kind r level idx).setRange r 5
  let s := s.setF Fld.CR_STATUS_RANGE_FAILED 0 1
  let c := (s.crr r).cmd
  let s := (s.updCrr r fun c => { c with cmd := none }).respondTo c 7 []
  s.event 0x30 r ((s.rd .CR_FAIL_INFO 0).toNat + 2 ^ 32 * (s.rd .CR_FAIL_INDEX 0).toNat)
/-- A 56-bit counter reached 2^56 − 1 (R305). -/
def State.counterEnd (s : State) (r v : Nat) : State :=
  if v = 2 ^ 56 - 1 ∧ s.rgMeets r = 2 then
    ((s.setRange r 3).setF Fld.CR_RANGE_STATE_KEY_ROLL_REQUIRED r 1).event 0x31 r 0
  else s

/-! ### Completion -/

/-- Answer a protected request when its last line is complete (R298). -/
def State.reqDone (s : State) (q : Nat) (r : CrReq) : State :=
  let s := s.setReq q none
  let p := r.pkt
  if r.status ≠ 0 then s.inject 545 (answer s p 4 545 r.status [] 0 false)
  else if p.type = 0 then
    let d := r.data.foldl (fun (l : List Byte) (x : Nat × List Byte) => splice l x.1 x.2) (List.replicate (p.len + 1) 0)
    s.inject 545 (answer s p 3 545 0 d r.poison false)
  else s.inject 545 (answer s p 4 545 0 [] r.poison r.stored)

/-- A job ends: its part of the request is filled in (R298). -/
def State.jobDone (s : State) (id : Nat) (data : List Byte) (poison stored : Bool) (status : Nat) : State :=
  match s.crJob id with
  | none => s
  | some j =>
    let s := s.setJob id none
    match s.crReq j.req with
    | none => s
    | some r =>
      let r := { r with
        left := r.left - 1, status := if r.status = 0 then status else r.status, stored := r.stored || stored,
        poison := if poison then Nat.lor r.poison (wordMask (r.pkt.addr + j.pos) j.bytes.length) else r.poison,
        data := r.data ++ [(j.pos, data)] }
      if r.left = 0 then s.reqDone j.req r else s.setReq j.req (some r)

/-- End the jobs of a range that has failed or is initialised again: reads are poisoned, writes refused (Table 13-5). -/
def State.endJobs (s : State) (r : Nat) : State :=
  s.each (s.jobsOf r) fun s (x : Nat × CrJob) =>
    if 4 ≤ x.2.kind then s.setJob x.1 none else (s.jobDone x.1 (s.freeBytes x.2.bytes.length) true false 0).drawn
/-- An uncorrectable error in a dirty entry or in a root: the range fails (R303). -/
def State.cacheFails (s : State) (r idx : Nat) : State :=
  if s.rgMeets r = 5 then s else ((s.setF Fld.CR_STATUS_CACHE_UE 0 1).rangeFails r 3 0 idx).endJobs r
/-- What the root and the entries of a range show as they are used (R303): a dirty entry or a root with an uncorrectable error fails
the range; a clean entry is discarded, and fetched again. -/
def State.cacheSound (s : State) (r : Nat) (ks : List Nat) : State :=
  if s.odBad (.root r) then s.cacheFails r 0
  else
    s.each (ks.filter fun k => s.odBad (.cacheEnt k)) fun s k =>
      match s.cached k with
      | some e => if e.dirty then s.cacheFails r (keyIdx k) else (s.setF Fld.CR_STATUS_CACHE_UE 0 1).cacheDrop k
      | none => s

/-- Write back a dirty entry whose parent is at hand (R296): the parent's counter goes up, the tag is computed under it, the entry and
a leaf's tag go home. -/
def State.writeBackEnt (s : State) (k : Nat) : State :=
  match s.cached k with
  | none => s
  | some e =>
    let r := keyRange k
    let old := keyOld k
    let lvl := keyLevel k
    let idx := keyIdx k
    if !e.dirty then s
    else
      let s := s.cacheSound r (if lvl = treeH (s.crr r).lp then [k] else [k, parentKey k])
      let c := s.crr r
      match s.parentCtr r old lvl idx with
      | none => s
      | some n0 =>
        let n := n0 + 1
        let s := if lvl = treeH c.lp then
            s.updCrr r fun c => if old then { c with oldRoot := setNth c.oldRoot idx n } else { c with root := setNth c.root idx n }
          else match s.cached (parentKey k) with
            | some p => s.cacheSet (parentKey k) { data := blkSet p.data (56 * (idx % 8)) 56 n, dirty := true }
            | none => s
        let t := nodeTag (c.ktOf old) r lvl idx n e.data
        let d := if lvl = 0 then e.data else e.data.take 56 ++ t
        let s := s.cacheSet k { data := d, dirty := false }
        let s := s.sendPost 545 (s.homePkt c.home 1 (c.metaOff (nodeOff c.lp lvl idx)) 63 d 0)
        let s := if lvl = 0 then s.sendPost 545 (s.homePkt c.home 1 (c.metaOff (leafTagOff c.lp idx)) 7 t 0) else s
        s.counterEnd r n

/-- Evict an entry: its cached children first, then itself, written back when dirty (R296). One that cannot be written back, as its
parent is being fetched again, stays. -/
def State.evictEnt : Nat → State → Nat → State
  | 0, s, _ => s
  | fuel + 1, s, k =>
    let kids := (s.crypto.cache.map fun (e : Nat × CacheEnt) => e.1).filter fun x => keyLevel x + 1 == keyLevel k && parentKey x == k
    let s := (kids.foldl (State.evictEnt fuel) s).writeBackEnt k
    match s.cached k with
    | some e => if e.dirty then s else s.cacheDrop k
    | none => s
def State.evict1 (s : State) (k : Nat) : State := State.evictEnt 9 s k

/-- Keys on the path of a page, from the leaf up. -/
def pathKeys (r : Nat) (old : Bool) (lp q : Nat) : List Nat :=
  (List.range (treeH lp + 1)).map fun l => nodeKey r old l (q / 8 ^ l)
/-- During a rekey the nodes above the page that is next have two versions, of which home holds one: they stay in the cache (log
entry 25). -/
def State.pinned (s : State) : List Nat :=
  (List.range 32).flatMap fun r =>
    let c := s.crr r
    if c.oldKd.isEmpty then [] else (pathKeys r true c.lp c.page).drop 1 ++ (pathKeys r false c.lp c.page).drop 1
/-- The set of an entry; the two trees of a rekey share theirs. -/
def cacheSetOf (k : Nat) : Nat := Config.cacheSet (nodeKey (keyRange k) false (keyLevel k) (keyIdx k)) % 4096
/-- Jobs that have asked for an entry need not, now that it is in the cache. -/
def State.dropAsked (s : State) (k : Nat) : State :=
  let w := 8 + keyLevel k
  s.each (s.jobsOf (keyRange k)) fun s (x : Nat × CrJob) =>
    if x.2.line / 64 / 8 ^ keyLevel k = keyIdx k ∧ s.oldTree x.2.range (x.2.line / 64) = keyOld k then
      s.updJob x.1 fun j => { j with
        got := j.got.filter fun (g : Nat × List Byte × Nat) => g.1 != w
        waiting := j.waiting.map fun (y : Nat × Nat) => if y.2 = w then (y.1, 254) else y }
    else s
/-- Bring an entry into the cache; a full set evicts its least recently used entry that is not on the path in use (R296). Where
nothing can be evicted, the entry waits. -/
def State.cacheIn (s : State) (path : List Nat) (k : Nat) (e : CacheEnt) : State :=
  if (s.cached k).isSome then s
  else
    let pins := s.pinned ++ path
    let ways (s : State) : List Nat := (s.crypto.cache.map fun (x : Nat × CacheEnt) => x.1).filter fun x => cacheSetOf x = cacheSetOf k
    let s := if (ways s).length < 16 then s
      else match (ways s).reverse.find? fun x => !pins.contains x && (s.parentCtr (keyRange x) (keyOld x) (keyLevel x) (keyIdx x)).isSome with
        | some v => s.evict1 v
        | none => s
    if (ways s).length < 16 then (s.cachePut k e).dropAsked k else s

/-- Write back every dirty entry of a range, the leaves first (R296). -/
def State.writeBackAll (s : State) (r : Nat) : State :=
  s.each (List.range 8) fun s l =>
    s.each ((s.crypto.cache.filter fun (e : Nat × CacheEnt) => keyRange e.1 == r && keyLevel e.1 == l && e.2.dirty).map (·.1))
      State.writeBackEnt

/-! ### Jobs -/

/-- What a job needs of the tree: the keys of its page's path, from the leaf up. -/
def State.pathOf (s : State) (j : CrJob) : List Nat :=
  pathKeys j.range (s.oldTree j.range (j.line / 64)) (s.crr j.range).lp (j.line / 64)
/-- Nodes of a job's path that are not cached, from the leaf up. -/
def State.missing (s : State) (j : CrJob) : List Nat := (s.pathOf j).filter fun k => (s.cached k).isNone

/-- Whether a job may start (R298, R304, R306): no earlier access to the line, and none of the unit's writes to what it reads, is left
unacknowledged; a write waits for its page. -/
def State.jobReady (s : State) (id : Nat) (j : CrJob) : Bool :=
  let q := j.line / 64
  let c := s.crr j.range
  let others := (s.jobsOf j.range).filter fun (x : Nat × CrJob) => x.1 != id
  let before := others.filter fun (x : Nat × CrJob) => x.1 < id
  let free (off n : Nat) : Bool := !s.homeBusy j.home off n
  let nodes := (s.missing j).all fun k => free (c.metaOff (nodeOff c.lp (keyLevel k) (keyIdx k))) 64 &&
    (keyLevel k != 0 || free (c.metaOff (leafTagOff c.lp q)) 8)
  let mayWrite := before.all (fun (x : Nat × CrJob) => x.2.kind != 5) && (c.oldKd.isEmpty || c.disabling || !decide (c.page ≤ q)) &&
    others.all fun (x : Nat × CrJob) => !((x.2.kind == 3 || x.2.kind == 4) && x.2.line / 64 == q)
  if j.kind = 6 then true
  else if j.kind = 5 then before.isEmpty && (List.range 32).all fun r => (s.crr r).oldKd.isEmpty
  else if j.kind ≤ 2 then
    (before.all fun (x : Nat × CrJob) => x.2.line != j.line || 4 ≤ x.2.kind || (x.2.kind == 3 && x.2.phase == 4)) && nodes &&
    free (c.dataOff (64 * j.line)) 64 && free (c.metaOff (lineTagOff j.line)) 8 && (j.kind = 0 || mayWrite)
  else
    (others.all fun (x : Nat × CrJob) => x.2.line / 64 != q || x.2.phase == 0 || x.2.kind == 0) &&
    (before.all fun (x : Nat × CrJob) => !(x.2.kind == 3 && x.2.line / 64 == q)) && nodes &&
    free (c.dataOff (4096 * q)) 4096 && free (c.metaOff (lineTagOff (64 * q))) 512

/-- Read a page's lines and their tags (R304, R306). -/
def State.readPage (s : State) (id r q : Nat) : State :=
  let c := s.crr r
  let s := s.each (List.range 16) fun s i => s.jobHome id 0 (c.dataOff (4096 * q + 256 * i)) 255 [] 0 (64 + i)
  s.each (List.range 2) fun s i => s.jobHome id 0 (c.metaOff (lineTagOff (64 * q) + 256 * i)) 255 [] 0 (96 + i)

/-- Start an access or the work on a page: count the cache, ask home for what it needs (R296–R301). The 64 lines of a page that is
to be re-encrypted are read once its leaf is at hand. -/
def State.startJob (s : State) (id : Nat) (j : CrJob) : State :=
  let c := s.crr j.range
  let miss := s.missing j
  let s := if miss.isEmpty then s.inc Fld.CR_CACHE_HIT_COUNT_COUNT 0 else s.inc Fld.CR_CACHE_MISS_COUNT_COUNT 0
  let s := s.each (s.pathOf j).reverse State.cacheTouch
  let s := s.updJob id fun x => { x with phase := 1 }
  let s := if j.kind = 0 ∨ j.kind = 2 then
      (s.jobHome id 0 (c.dataOff (64 * j.line)) 63 [] 0 0).jobHome id 0 (c.metaOff (lineTagOff j.line)) 7 [] 0 1
    else s
  let s := if j.kind = 4 then s.readPage id j.range (j.line / 64) else s
  s.each miss fun s k =>
    let s := s.jobHome id 0 (c.metaOff (nodeOff c.lp (keyLevel k) (keyIdx k))) 63 [] 0 (8 + keyLevel k)
    if keyLevel k = 0 then s.jobHome id 0 (c.metaOff (leafTagOff c.lp (keyIdx k))) 7 [] 0 2 else s
/-- A job begins again, as what it has read cannot be used. -/
def State.jobAgain (s : State) (id : Nat) : State := s.updJob id fun x => { x with phase := 0, got := [], status := 0 }

/-- What a job got: data and poison. -/
def CrJob.data (j : CrJob) (what : Nat) : List Byte := ((j.got.find? fun (g : Nat × List Byte × Nat) => g.1 == what).map (·.2.1)).getD []
/-- Whether it got that. -/
def CrJob.has (j : CrJob) (what : Nat) : Bool := j.got.any fun (g : Nat × List Byte × Nat) => g.1 == what
def CrJob.bad (j : CrJob) (what : Nat) : Bool := ((j.got.find? fun (g : Nat × List Byte × Nat) => g.1 == what).map (·.2.2 != 0)).getD false

/-- Write a line home, with both words poisoned when marked (R300, R301). -/
def State.writeLine (s : State) (id r line : Nat) (ct : List Byte) (poison : Bool) : State :=
  let o := (s.crr r).dataOff (64 * line)
  s.jobHome id 1 o 63 ct (if poison then wordMask o 64 else 0) 255
def State.writeTag (s : State) (id r line : Nat) (tag : List Byte) : State :=
  s.jobHome id 1 ((s.crr r).metaOff (lineTagOff line)) 7 tag 0 255
/-- Replace the cached leaf of a page, now dirty (R296). -/
def State.setLeaf (s : State) (r q : Nat) (d : List Byte) : State :=
  s.cachePut (nodeKey r (s.oldTree r q) 0 q) { data := d, dirty := true }
def State.leaf (s : State) (r q : Nat) : List Byte :=
  ((s.cached (nodeKey r (s.oldTree r q) 0 q)).map fun e => e.data).getD (List.replicate 64 0)

/-- Write plaintext to a line: MINOR goes up, which commits the write; line and tag go home (R300). A MINOR that would
wrap re-encrypts the page instead, when the page's other writes are done (R304). -/
def State.encryptLine (s : State) (id : Nat) (j : CrJob) (plain : List Byte) : State :=
  let r := j.range
  let q := j.line / 64
  let m := j.line % 64
  let lf := s.leaf r q
  if leafMinor lf m = 127 then
    s.updJob id fun x => { x with kind := 3, plain := plain, got := [], phase := 0 }
  else
    let c := s.crr r
    let old := s.oldTree r q
    let n := leafMinor lf m + 1
    let s := s.setLeaf r q (blkSet lf (56 + 7 * m) 7 n)
    let ct := lineCipher (c.kdOf old) r j.line (leafMajor lf) n plain
    let s := s.updJob id fun x => { x with phase := 4 }
    (s.writeLine id r j.line ct false).writeTag id r j.line (lineTag (c.ktOf old) r j.line (leafMajor lf) n ct)

/-- All that a line's access needs is here: finish a read or make the writes (R299–R301, Table 13-5). -/
def State.finishLine (s : State) (id : Nat) (j : CrJob) : State :=
  let r := j.range
  let q := j.line / 64
  let m := j.line % 64
  let c := s.crr r
  let old := s.oldTree r q
  let lf := s.leaf r q
  let ct := j.data 0
  let tagOk := !j.bad 1 && lineTag (c.ktOf old) r j.line (leafMajor lf) (leafMinor lf m) ct == j.data 1
  let plain := lineCipher (c.kdOf old) r j.line (leafMajor lf) (leafMinor lf m) ct
  let n := j.bytes.length
  let poisonIt (s : State) (b : List Byte) : State :=
    (s.updJob id fun x => { x with phase := 4, poisoned := true }).writeLine id r j.line b true
  if s.rgMeets r = 5 then s.jobDone id (s.freeBytes n) true false 0
  else if j.kind = 0 then
    if j.bad 0 || !tagOk then ((s.tagFail r j.line 0).jobDone id (s.freeBytes n) true false 0).drawn
    else s.jobDone id (slice plain j.off n) false false 0
  else if j.kind = 1 then
    if j.poisoned then (poisonIt s (s.freeBytes 64)).drawn else s.encryptLine id j j.bytes
  else if j.bad 0 then (s.crFail 2 r 0 j.line).jobDone id [] true false 0
  else if !tagOk then poisonIt (s.tagFail r j.line 0) ct
  else if j.poisoned then (poisonIt s (s.freeBytes 64)).drawn
  else s.encryptLine id j (splice plain j.off j.bytes)

/-- Verify fetched nodes from the top down, each against its parent's counter, and bring them into the cache (R296). None when one
fails. -/
def State.verifyNodes (s : State) (j : CrJob) : Option State × Nat × Nat :=
  let r := j.range
  let q := j.line / 64
  let c := s.crr r
  let old := s.oldTree r q
  (List.range (treeH c.lp + 1)).reverse.foldl (fun (acc : Option State × Nat × Nat) lvl =>
    match acc.1 with
    | none => acc
    | some s =>
      let idx := q / 8 ^ lvl
      let k := nodeKey r old lvl idx
      if (s.cached k).isSome ∨ !j.has (8 + lvl) then acc
      else match s.parentCtr r old lvl idx with
      | none => acc
      | some ctr =>
        let d := j.data (8 + lvl)
        let want := nodeTag (c.ktOf old) r lvl idx ctr d
        let have' := if lvl = 0 then j.data 2 else d.drop 56
        if j.bad (8 + lvl) || (lvl = 0 && j.bad 2) || want != have' then (none, lvl, idx)
        else (some (s.cacheIn (s.pathOf j) k { data := d, dirty := false }), 0, 0)) (some s, 0, 0)

/-- Start a rekey once earlier accesses are done: dirty entries go home, the tree becomes the old one, fresh keys, every
counter 0 (R306). -/
def State.rekeyBegin (s : State) (id r : Nat) (home : Nat) : State :=
  let s := (s.setJob id none).writeBackAll r
  if s.rgMeets r ≠ 4 then s
  else
    let s := s.updCr fun c => { c with cache := c.cache.map fun (e : Nat × CacheEnt) => if keyRange e.1 = r then (e.1 + 2 ^ 27, e.2) else e }
    let (kd, s) := s.trng 0
    let (kt, s) := s.trng 0
    let s := s.updCrr r fun c => { c with
      oldKd := c.kd, oldKt := c.kt, oldRoot := c.root, kd := kd, kt := kt, root := List.replicate 8 0, page := 0 }
    let (n, s) := s.crNext
    s.setJob n (some { req := 2 ^ 40, range := r, line := 0, kind := 4, home := home })

/-- Nodes of the levels above the leaves. -/
def innerNodes (p : Nat) : Nat := ((List.range (treeH p)).map fun l => 2 ^ (p - 3 * (l + 1))).sum
/-- Level and index of inner node number i, counted from level l on as they stand in the metadata area. -/
def innerAt (p : Nat) : Nat → Nat → Nat → Nat × Nat
  | 0, l, i => (l, i)
  | n + 1, l, i => if i < 2 ^ (p - 3 * l) then (l, i) else innerAt p n (l + 1) (i - 2 ^ (p - 3 * l))
/-- Initialisation goes in parts: its pages, and the inner nodes by 64 (log entry 25). -/
def initParts (p : Nat) : Nat := 2 ^ p + (innerNodes p + 63) / 64
/-- Part n of an initialisation (R288): a page of zero lines under major and minor 0 with its tags, its leaf block and leaf tag; or inner
nodes of zero counters. -/
def State.initPart (s : State) (id r n : Nat) : State :=
  let c := s.crr r
  let z : List Byte := List.replicate 64 0
  if n < 2 ^ c.lp then
    let rows := (List.range 64).map fun i =>
      let line := 64 * n + i
      let ct := lineCipher c.kd r line 0 0 z
      (ct, lineTag c.kt r line 0 0 ct)
    let s := s.each (List.range 16) fun s i =>
      s.jobHome id 1 (c.dataOff (4096 * n + 256 * i)) 255 (((slice rows (4 * i) 4).map fun x => x.1).flatten) 0 255
    let s := s.each (List.range 2) fun s i =>
      s.jobHome id 1 (c.metaOff (lineTagOff (64 * n) + 256 * i)) 255 (((slice rows (32 * i) 32).map fun x => x.2).flatten) 0 255
    let s := s.jobHome id 1 (c.metaOff (nodeOff c.lp 0 n)) 63 z 0 255
    s.jobHome id 1 (c.metaOff (leafTagOff c.lp n)) 7 (nodeTag c.kt r 0 n 0 z) 0 255
  else
    s.each (List.range 64) fun s i =>
      let m := 64 * (n - 2 ^ c.lp) + i
      if innerNodes c.lp ≤ m then s
      else
        let (l, x) := innerAt c.lp (treeH c.lp) 1 m
        s.jobHome id 1 (c.metaOff (nodeOff c.lp l x)) 63 (z.take 56 ++ nodeTag c.kt r l x 0 z) 0 255
/-- The acknowledgements of a part are here: PROGRESS counts its page, and the next part follows (R288). -/
def State.initNext (s : State) (id : Nat) (j : CrJob) : State :=
  let p := (s.crr j.range).lp
  let n := j.pos + 1
  let s := s.setF Fld.CR_RANGE_STATE_PROGRESS j.range (min n (2 ^ p))
  if n < initParts p then (s.updJob id fun x => { x with pos := n }).initPart id j.range n
  else s.updJob id fun x => { x with phase := 5 }

/-- A page of a rekey is written: the next one, or the end of the rekey (R306). -/
def State.rekeyNext (s : State) (id : Nat) (j : CrJob) : State :=
  let r := j.range
  let q := j.line / 64 + 1
  let c := s.crr r
  let s := (s.setJob id none).setF Fld.CR_RANGE_STATE_PROGRESS r q
  if q < 2 ^ c.lp then
    let (n, s) := s.crNext
    s.setJob n (some { req := 2 ^ 40, range := r, line := 64 * q, kind := 4, home := j.home })
  else
    let s := s.updCr fun x => { x with cache := x.cache.filter fun (e : Nat × CacheEnt) => !(keyRange e.1 == r && keyOld e.1) }
    let s := s.updCrr r fun c => { c with oldKd := [], oldKt := [], oldRoot := [], page := 0, cmd := none }
    let s := (s.setF Fld.CR_RANGE_STATE_KEY_ROLL_REQUIRED r 0).setRange r 2
    s.respondTo c.cmd 0 []

/-- A job that has all it needs of the tree goes on: a line's access; a page re-encryption, which reads its page unless the MINOR does
not wrap any more (R304); a page whose lines are read waits for its row. -/
def State.finishJob (s : State) (id : Nat) (j : CrJob) : State :=
  if j.kind ≤ 2 then s.finishLine id j
  else if j.kind = 4 ∨ j.has 64 then s.updJob id fun x => { x with phase := 3 }
  else if leafMinor (s.leaf j.range (j.line / 64)) (j.line % 64) = 127 then
    (s.updJob id fun x => { x with phase := 1, got := [] }).readPage id j.range (j.line / 64)
  else s.encryptLine id j j.plain
/-- What the end of a job's reads or writes leads to. -/
def State.jobGo (s : State) (id : Nat) : State :=
  match s.crJob id with
  | none => s
  | some j =>
    if s.crHeld ∨ !j.waiting.isEmpty ∨ !j.todo.isEmpty then s
    else if j.phase = 4 then
      if j.kind = 4 then s.rekeyNext id j
      else if j.kind = 6 then s.initNext id j
      else s.jobDone id [] j.poisoned j.poisoned j.status
    else if j.phase ≠ 1 then s
    else if j.status ≠ 0 then (if j.kind = 4 then s.jobAgain id else s.jobDone id [] false false j.status)
    else if (s.missing j).isEmpty then s.finishJob id j
    else if (s.missing j).all fun k => j.has (8 + keyLevel k) then s.updJob id fun x => { x with phase := 2 }
    else s.jobAgain id

/-- Let waiting jobs go on (R298). -/
def State.crWake (s : State) : State :=
  if s.crHeld then s
  else
    let s := s.pumpPosts 545
    let l := s.crypto.jobs.filterMap fun (e : Nat × Option CrJob) => e.2.map fun j => (e.1, j.range)
    s.each l fun s (x : Nat × Nat) =>
      match s.crJob x.1 with
      | none => s
      | some j =>
        if j.phase ≠ 0 then (s.pumpJob x.1).jobGo x.1
        else
          let s := s.cacheSound x.2 (s.pathOf j)
          match s.crJob x.1 with
          | none => s
          | some j =>
            if !s.jobReady x.1 j then s
            else if j.kind = 5 then s.rekeyBegin x.1 x.2 j.home
            else if j.kind = 6 then (s.updJob x.1 fun x => { x with phase := 4 }).initPart x.1 x.2 j.pos
            else (s.startJob x.1 j).jobGo x.1
/-- Wake what the end of one access may let run, as often as that can make a difference. -/
def State.crWakeAll (s : State) : State := s.crWake.crWake

/-! ### Requests of the protected rows -/

/-- Lines that a request touches: position in the request, line, offset in the line, bytes. -/
def linesOf (off n : Nat) : List (Nat × Nat × Nat × Nat) :=
  (List.range 5).filterMap fun i =>
    let l := off / 64 + i
    let lo := max off (64 * l)
    let hi := min (off + n) (64 * l + 64)
    if lo < hi then some (lo - off, l, lo - 64 * l, hi - lo) else none

/-- Take the first request that waits at a port or group for the crypto unit, where it is of a kind (R156, R286). -/
def State.takeProt (s : State) (f : Packet → Bool) : Option (Packet × State) :=
  (List.range 32).findSome? fun k =>
    (s.takeOn (ejectLinks (linkEp k)) 0 fun p =>
      s.isFor (linkEp k) p && p.dstNode != s.node && p.prot.isSome).filter fun x => f x.1

/-- Accept or refuse a request to a protected range, by the settings under which it was translated (R288, R289, R298, R307). -/
def State.protAccess (s : State) (p : Packet) : State :=
  match p.prot with
  | none => s
  | some (r, isData, wo) =>
    let st := s.rgMeets r
    let barred := p.srcNode != s.node || (512 ≤ p.srcEp && p.srcEp < 544) || s.agentOf p = .debug || !isData || st ≤ 1 || (st = 3 && p.type = 1)
    if s.gateShut 4 1 then s.refuse p 545 5
    else if barred then (s.inc Fld.CR_REFUSE_COUNT_COUNT 0).refuse p 545 3
    else
      let home := p.dest / 2 ^ 48 * 2 ^ 48 + (p.addr + 2 ^ 48 - wo) % 2 ^ 48
      let parts := linesOf (wo - 4096 * (s.crr r).base) (p.len + 1)
      let (q, s) := s.crNext
      let s := s.setReq q (some { pkt := p, left := parts.length })
      if st = 5 then
        (s.each parts fun s x =>
          let (id, s) := s.crNext
          let s := s.setJob id (some { req := q, range := r, line := x.2.1, kind := 0, pos := x.1, off := x.2.2.1, bytes := List.replicate x.2.2.2 0 })
          s.jobDone id (s.freeBytes x.2.2.2) true false 0).drawn
      else
        let s := s.each parts fun s x =>
          let (id, s) := s.crNext
          let full := x.2.2.2 = 64
          let b := if p.type = 0 then List.replicate x.2.2.2 0 else slice p.payload x.1 x.2.2.2
          s.setJob id (some { req := q, range := r, line := x.2.1, kind := if p.type = 0 then 0 else if full then 1 else 2, pos := x.1,
                              off := x.2.2.1, bytes := b, home := home,
                              poisoned := p.type = 1 && Nat.land p.poison (wordMask (p.addr + x.1) x.2.2.2) != 0 })
        s.crWakeAll
def State.protRow (s : State) (f : Packet → Bool) : State :=
  if s.crHeld then s
  else match s.takeProt f with
    | some (p, s') => s'.protAccess p
    | none => s
def fullLines (p : Packet) : Bool := p.addr % 64 == 0 && (p.len + 1) % 64 == 0

/-! ### Answers from home -/

/-- An answer reaches the crypto unit (R302): BUSY is reissued, another status goes to the requester. -/
def State.homeAnswer (s : State) (req : Packet) (p : Packet) : State :=
  let tag := req.tag
  let job := s.crypto.jobs.findSome? fun (e : Nat × Option CrJob) =>
    match e.2 with
    | some j => (j.waiting.find? fun (w : Nat × Nat) => w.1 == tag).map fun w => (e.1, w.2)
    | none => none
  match job with
  | none => s.crWakeAll
  | some (id, what) =>
    let s := s.updJob id fun x => { x with waiting := x.waiting.filter fun (w : Nat × Nat) => w.1 != tag }
    if p.status = 1 then
      (s.each (if req.type = 1 ∧ p.poison ≠ 0 then writeParts req p.poison else [req]) fun s q => s.jobSend id q what).crWakeAll
    else
      let s := s.updJob id fun x => { x with
        status := if p.status = 0 ∨ what = 254 then x.status else p.status,
        got := if 254 ≤ what then x.got else x.got ++ [(what, p.payload, p.poison)] }
      (s.jobGo id).crWakeAll

/-- HOME_RESPONSE: the next response at the crypto unit's endpoint, to a job or to a write-back. -/
def State.homeResponse (s : State) : State :=
  match s.take 545 1 with
  | none => s
  | some (p, s) =>
    match s.matchRsp 545 p with
    | (none, s) => s
    | (some r, s) => if r.post then (s.postAnswered 545 r.pkt p).crWakeAll else s.homeAnswer r.pkt p

/-- NODE_VERIFICATION (R296, R303). -/
def State.nodeVerification (s : State) (id : Nat) : State :=
  match s.crJob id with
  | none => s
  | some j =>
    if j.phase ≠ 2 ∨ s.crHeld then s
    else
      let s := s.cacheSound j.range (s.pathOf j)
      match s.crJob id with
      | none => s
      | some j =>
        match s.verifyNodes j with
        | (none, lvl, idx) => ((s.rangeFails j.range 1 lvl idx).endJobs j.range).crWakeAll
        | (some s, _, _) =>
          if (s.missing j).isEmpty then (match s.crJob id with | some j => s.finishJob id j | none => s).crWakeAll
          else if (s.missing j).all fun k => j.has (8 + keyLevel k) then s
          else (s.jobAgain id).crWakeAll

/-! ### Pages -/

/-- Line i of a page as read: ciphertext, poisoned, tag. -/
def pageLine (j : CrJob) (i : Nat) : List Byte × Bool × List Byte :=
  let d := j.data (64 + i / 4)
  let pz := ((j.got.find? fun (g : Nat × List Byte × Nat) => g.1 == 64 + i / 4).map (·.2.2)).getD 0
  let w := 2 * (i % 4)
  (slice d (64 * (i % 4)) 64, bit pz w = 1 || bit pz (w + 1) = 1 || j.bad (96 + i / 32), slice (j.data (96 + i / 32)) (8 * (i % 32)) 8)

/-- Re-encrypt a page that was read: each line's new ciphertext, poison and tag; lines that fail are kept, poisoned.
`new` is the line written by the triggering access. -/
def State.pageOut (s : State) (j : CrJob) (old' : Bool) (lf : List Byte) (major : Nat) (new : Option (Nat × List Byte)) :
    List (List Byte × Bool × List Byte) × List Nat :=
  let r := j.range
  let c := s.crr r
  let q := j.line / 64
  let rows := (List.range 64).map fun i =>
    let line := 64 * q + i
    let (ct, bad, tag) := pageLine j i
    let ok := !bad && lineTag (c.ktOf old') r line (leafMajor lf) (leafMinor lf i) ct == tag
    let plain := match new with
      | some (l, b) => if l = line then some b else if ok then some (lineCipher (c.kdOf old') r line (leafMajor lf) (leafMinor lf i) ct) else none
      | none => if ok then some (lineCipher (c.kdOf old') r line (leafMajor lf) (leafMinor lf i) ct) else none
    match plain with
    | some b =>
      let kd := if j.kind = 4 then c.kd else c.kdOf old'
      let kt := if j.kind = 4 then c.kt else c.ktOf old'
      let x := lineCipher kd r line major 0 b
      ((x, false, lineTag kt r line major 0 x), (none : Option Nat))
    | none => ((ct, true, tag), some line)
  (rows.map (·.1), rows.filterMap (·.2))

/-- Write a page and its tags home. -/
def State.writePage (s : State) (id r q : Nat) (rows : List (List Byte × Bool × List Byte)) : State :=
  let c := s.crr r
  let s := s.each (List.range 16) fun s i =>
    let four := slice rows (4 * i) 4
    let pz := ((four.zipIdx).map fun (x : (List Byte × Bool × List Byte) × Nat) => if x.1.2.1 then 3 * 4 ^ x.2 else 0).sum
    s.jobHome id 1 (c.dataOff (4096 * q + 256 * i)) 255 ((four.map fun x => x.1).flatten) pz 255
  s.each (List.range 2) fun s i =>
    s.jobHome id 1 (c.metaOff (lineTagOff (64 * q) + 256 * i)) 255 (((slice rows (32 * i) 32).map fun x => x.2.2).flatten) 0 255

/-- Whether an access reads the page that a job works on: it is served first, under the counters that it was read with (R304). -/
def State.pageRead (s : State) (id : Nat) (j : CrJob) : Bool :=
  (s.jobsOf j.range).any fun (x : Nat × CrJob) => x.1 != id && x.2.line / 64 == j.line / 64 && x.2.phase != 0
/-- The job of a kind of a range whose page is read and may be written now. -/
def State.pageJob (s : State) (r kind : Nat) : Option (Nat × CrJob) :=
  if s.crHeld then none
  else (s.jobsOf r).find? fun (x : Nat × CrJob) => x.2.kind == kind && x.2.phase == 3 && !s.pageRead x.1 x.2

/-- PAGE_RE_ENCRYPTION (R304): MAJOR goes up, every MINOR is 0, every line is encrypted anew with the new data of the
triggering write merged. -/
def State.pageReEncryption (s : State) (r : Nat) : State :=
  match s.pageJob r 3 with
  | none => s
  | some (id, j) =>
    let s := s.cacheSound r (s.pathOf j)
    if (s.crJob id).isNone then s.crWakeAll
    else if !(s.missing j).isEmpty then (s.jobAgain id).crWakeAll
    else
      let q := j.line / 64
      let old := s.oldTree r q
      let lf := s.leaf r q
      let major := leafMajor lf + 1
      let (rows, bad) := s.pageOut j old lf major (some (j.line, j.plain))
      let s := s.each bad fun s l => s.tagFail r l 0
      let s := s.setLeaf r q (leBytes 64 (major % 2 ^ 56))
      let s := s.incW Fld.CR_REENC_COUNT_COUNT 0
      let s := s.updJob id fun x => { x with phase := 4 }
      (s.writePage id r q rows).counterEnd r major

/-- The nodes of the new tree that begin above page q (log entry 25): zero nodes, dirty, from the top down. -/
def State.zeroPath (s : State) (r q : Nat) : State :=
  let ks := (pathKeys r false (s.crr r).lp q).filter fun k => keyLevel k != 0 && q % 8 ^ keyLevel k == 0
  s.each ks.reverse fun s k =>
    if (s.parentCtr r false (keyLevel k) (keyIdx k)).isSome then s.cacheIn (pathKeys r true (s.crr r).lp q) k { data := List.replicate 64 0, dirty := true }
    else s
/-- REKEY_PAGE (R306): the page goes home under the new keys and zero counters, with its leaf and leaf tag. -/
def State.rekeyPage (s : State) (r : Nat) : State :=
  match s.pageJob r 4 with
  | none => s
  | some (id, j) =>
    let q := j.line / 64
    let s := s.cacheSound r (s.pathOf j)
    if (s.crJob id).isNone then s.crWakeAll
    else if !(s.missing j).isEmpty then (s.jobAgain id).crWakeAll
    else
      let s := s.zeroPath r q
      let c := s.crr r
      if (pathKeys r false c.lp q).any fun k => keyLevel k != 0 && (s.cached k).isNone then s
      else
        let lf := s.leaf r q
        let (rows, bad) := s.pageOut j true lf 0 none
        let s := s.each bad fun s l => s.tagFail r l 0
        let z : List Byte := List.replicate 64 0
        let s := s.writePage id r q rows
        let s := s.jobHome id 1 (c.metaOff (nodeOff c.lp 0 q)) 63 z 0 255
        let s := s.jobHome id 1 (c.metaOff (leafTagOff c.lp q)) 7 (nodeTag c.kt r 0 q 0 z) 0 255
        let s := s.cacheDrop (nodeKey r true 0 q)
        let s := s.updCrr r fun c => { c with page := q + 1 }
        s.updJob id fun x => { x with phase := 4 }

/-! ### Range states -/

/-- Enter INIT with fresh keys and zero counters (R288, R292): the initialisation begins. Accesses that a range which is being disabled
still owes end as those of a failed one (log entry 158). -/
def State.rangeInit (s : State) (r : Nat) : State :=
  let s := s.endJobs r
  let s := s.updCr fun c => { c with cache := c.cache.filter fun (e : Nat × CacheEnt) => keyRange e.1 != r }
  let (kd, s) := s.trng 0
  let (kt, s) := s.trng 0
  let w := s.f Fld.CR_RANGE_CTRL_WINDOW r
  let s := (s.updCrr r fun c => { c with
    win := w, home := s.winHome w, lp := s.f Fld.CR_RANGE_CTRL_LOG2PAGES r, base := s.f Fld.CR_RANGE_BASE_BASE r,
    meta' := s.f Fld.CR_RANGE_META_META r, kd := kd, kt := kt, root := List.replicate 8 0,
    oldKd := [], oldKt := [], oldRoot := [], page := 0, disabling := false, held := 0 }).odClear (.root r)
  let s := s.setRange r 1
  let s := (s.setF Fld.CR_RANGE_STATE_KEY_ROLL_REQUIRED r 0).setF Fld.CR_RANGE_STATE_PROGRESS r 0
  let (n, s) := s.crNext
  (s.setJob n (some { req := 2 ^ 40, range := r, line := 0, kind := 6, home := s.winHome w })).crWakeAll
/-- ENABLE = 0 takes effect (R288, R296), the dirty entries having gone home: the range is DISABLED, a rekey or an initialisation ends,
and the accesses translated before complete under the old settings; keys and root follow at RANGE_DISABLE. -/
def State.rangeOff (s : State) (r : Nat) : State :=
  let st := s.rgState r
  let s := s.each ((s.jobsOf r).filter fun (x : Nat × CrJob) => 4 ≤ x.2.kind) fun s x => s.setJob x.1 none
  let s := (s.setRange r 0).setF Fld.CR_RANGE_STATE_PROGRESS r 0
  let c := (s.crr r).cmd
  ((s.updCrr r fun c => { c with disabling := true, held := if st = 4 then 2 else st, cmd := none }).respondTo c 6 []).crWakeAll

/-- RANGE_INITIALISATION: the end of an initialisation, when home has acknowledged all its writes; the range enters ACTIVE (R288). -/
def State.rangeInitialised (s : State) (r : Nat) : State :=
  match (s.jobsOf r).find? fun (x : Nat × CrJob) => x.2.kind == 6 && x.2.phase == 5 with
  | none => s
  | some (id, _) =>
    if s.crHeld then s
    else
      let c := (s.crr r).cmd
      (((s.setJob id none).updCrr r fun c => { c with cmd := none }).setRange r 2).respondTo c 0 []

/-- Requests translated for a range that are still in the corridor. -/
def State.protPkts (s : State) (r : Nat) : Bool :=
  let mine (p : Packet) : Bool := match p.prot with | some x => x.1 == r | none => false
  s.net.bufs.any fun (e : Nat × List Packet) => e.2.any mine
/-- RANGE_DISABLE: keys and root are erased after the last outstanding access (R288). -/
def State.rangeDisabled (s : State) (r : Nat) : State :=
  if !(s.crr r).disabling ∨ !(s.jobsOf r).isEmpty ∨ s.protPkts r then s
  else
    let s := s.writeBackAll r
    let s := s.updCr fun c => { c with cache := c.cache.filter fun (e : Nat × CacheEnt) => keyRange e.1 != r }
    ((s.updCrr r fun _ => {}).setF Fld.CR_RANGE_STATE_KEY_ROLL_REQUIRED r 0)

/-! ### Meanings -/

def execProtectedRead (s : State) : Host.Outcome State Fault Refusal := .next (s.protRow fun p => p.type == 0)
def execFullLineWrite (s : State) : Host.Outcome State Fault Refusal := .next (s.protRow fun p => p.type == 1 && fullLines p)
def execPartialWrite (s : State) : Host.Outcome State Fault Refusal := .next (s.protRow fun p => p.type == 1 && !fullLines p)
def execHomeResponse (s : State) : Host.Outcome State Fault Refusal := .next s.homeResponse
def execNodeVerification (job : Nat) (s : State) : Host.Outcome State Fault Refusal := .next (s.nodeVerification job)
/-- An entry is evicted; a node is never evicted before its cached children (R296). -/
def execWriteBack (key : Nat) (s : State) : Host.Outcome State Fault Refusal :=
  .next (if (s.cached key).isSome && !s.pinned.contains key && !s.crHeld then s.evict1 key else s)
def execPageReEncryption (range : Nat) (s : State) : Host.Outcome State Fault Refusal := .next (s.pageReEncryption range)
def execRangeInitialisation (range : Nat) (s : State) : Host.Outcome State Fault Refusal := .next (s.rangeInitialised range)
def execRekeyPage (range : Nat) (s : State) : Host.Outcome State Fault Refusal := .next (s.rekeyPage range)
def execRangeDisable (range : Nat) (s : State) : Host.Outcome State Fault Refusal := .next (s.rangeDisabled range)
def execCrStatus (h : CmdHdr) (first : Nat) (s : State) : Host.Outcome State Fault Refusal :=
  .next (s.submit h 0x0901 .s (argBytes [(6, 1, first)]) fun s => s.checks h [(32 ≤ first, 3)] fun s =>
    s.replyData h (regData (s.rd .CR_STATUS 0 :: (List.range (min 13 (32 - first))).map fun k => s.rd .CR_RANGE_STATE (first + k))))
/-- CR_RANGE_REKEY (R306): its commit point is acceptance. -/
def execCrRangeRekey (h : CmdHdr) (range : Nat) (s : State) : Host.Outcome State Fault Refusal :=
  .next (s.submit h 0x0902 .r (argBytes [(6, 1, range)]) fun s =>
    s.checks h [(32 ≤ range, 3), (!(s.rgState range = 2 || s.rgState range = 3) || s.f Fld.CR_RANGE_CTRL_ENABLE range = 0, 4)] fun s =>
      let s := (s.setRange range 4).setF Fld.CR_RANGE_STATE_PROGRESS range 0
      let s := s.updCrr range fun c => { c with cmd := some h.ref, page := 0 }
      let (n, s) := s.crNext
      (s.setJob n (some { req := 2 ^ 40, range := range, line := 0, kind := 5, home := (s.crr range).home })).crWakeAll)
/-- CR_RANGE_RESET (R288): one enabled range is initialised again; a range that is not enabled is DENIED. -/
def execCrRangeReset (h : CmdHdr) (range : Nat) (s : State) : Host.Outcome State Fault Refusal :=
  .next (s.submit h 0x0903 .r (argBytes [(6, 1, range)]) fun s =>
    s.checks h [(32 ≤ range, 3), (s.f Fld.CR_RANGE_CTRL_ENABLE range = 0 || s.rgState range = 0, 4)] fun s =>
      let c := (s.crr range).cmd
      ((s.updCrr range fun c => { c with cmd := some h.ref }).respondTo c 7 []).rangeInit range)

end Sys2Proof.Machine
end

