-- ==== Sys2Proof/Machine/Kex.lean ====
section
/-!
DEFINITION. The key exchange of link encryption (R310–R314, R396): LINK_KEX, the KEX_MSG fragments in both directions,
the messages HELLO_I, HELLO_R and FINISH, and the order in which keys take effect.
-/
namespace Sys2Proof.Machine

def State.updEnc (s : State) (k : Nat) (g : LinkEnc → LinkEnc) : State := s.updLink k fun l => { l with enc := g l.enc }
def State.enc (s : State) (k : Nat) : LinkEnc := (s.link k).enc
def State.kexCurve (s : State) (k : Nat) : Nat := s.f Fld.CR_LINK_CFG_CURVE k
/-- A stack has a certificate chain only in DEPLOYED and RETURNED (R310). -/
def State.hasChain (s : State) : Bool := s.fuses.lc == 2 || s.fuses.lc == 3
def pubLen (curve : Nat) : Nat := if curve = 2 then 97 else 65
def sigLen (curve : Nat) : Nat := if curve = 2 then 96 else 64
def State.peerNode (s : State) (k : Nat) : Nat := s.linkF Fld.DP_PEER_NODE Fld.SL_PEER_NODE k
def State.peerEncCap (s : State) (k : Nat) : Bool := s.linkF Fld.DP_PEER_ENC_CAP Fld.SL_PEER_ENC_CAP k = 1
/-- The link that CO_ROUTE names for a node. -/
def State.routeLink (s : State) (m : Nat) : Option Nat := (s.routeEp m).map fun e => e - 512

/-- Send the next fragment of the message being sent (Table 17-14): an MB_CMD packet to the peer's management
processor, through link k whatever CO_ROUTE names (R310). -/
def State.sendFragment (s : State) (k : Nat) : State :=
  let e := s.enc k
  let n := min 52 (e.txMsg.length - e.txOff)
  let args := leBytes 1 e.txKind ++ leBytes 1 k ++ leBytes 2 e.txMsg.length ++ leBytes 2 e.txOff ++ slice e.txMsg e.txOff n
  let p := mkReq s 8 546 k (epDest (s.peerNode k) 546) 63 (cmdBlock 0x0905 k (6 + n) args)
  (s.request 546 { p with exit := linkEp k + 1 }).updEnc k fun e => { e with txOff := e.txOff + n }
/-- Start sending a message. -/
def State.sendKex (s : State) (k kind : Nat) (msg : List Byte) : State :=
  (s.updEnc k fun e => { e with txKind := kind, txMsg := msg, txOff := 0 }).sendFragment k

/-- The exchange fails: no key changes (R310). -/
def State.kexFails (s : State) (k st : Nat) : State :=
  let e := s.enc k
  let s := s.updEnc k fun e => { e with
    phase := 0, rxMsg := [], rxTotal := 0, rxMsgKind := 0, txMsg := [], txOff := 0, helloI := [], helloR := [], newTx := none, cmd := none }
  let s := if e.phase = 3 then
      s.updEnc k fun e => { e with
        rxKey := e.rxHeld, rxE := e.rxOldE, rxKph := if e.rxHeld.isSome then 1 - e.rxKph else 0, rxOld := none, rxHeld := none }
    else s
  let s := s.setF Fld.CR_LINK_STATUS_KEX_BUSY k 0
  let s := s.setF Fld.CR_LINK_STATUS_RX_ENC k (if (s.enc k).rxKey.isSome then 1 else 0)
  let s := s.setF Fld.CR_LINK_STATUS_RX_KPH k (s.enc k).rxKph
  s.respondTo e.cmd (if e.phase = 3 && st != 8 then 7 else st) []

/-- The fields that both HELLO messages share: version, curve, nonce, ephemeral public key, chain length, chain. -/
def State.helloFields (s : State) (curve eph : Nat) (nonce : List Byte) : List Byte :=
  let chain := Config.certChain curve s.fuses.uid (s.fuses.secret curve) s.fuses.cert s.sec.measurement
  [1] ++ leBytes 1 curve ++ nonce ++ fit 0 (pubLen curve) (Config.ecPublic curve eph) ++ leBytes 2 chain.length ++ chain
/-- Draw a nonce and an ephemeral secret. -/
def State.kexDraw (s : State) : List Byte × Nat × State := let (a, s) := s.trng 1; let (b, s) := s.trng 1; (a, leNat b, s)

/-- A HELLO as received: curve, nonce, public key, chain, and its length up to the end of the chain. -/
structure Hello where
  curve : Nat
  nonce : List Byte
  pub : List Byte
  chain : List Byte
  size : Nat
def parseHello (m : List Byte) : Option Hello :=
  let curve := leNat (slice m 1 1)
  let pl := pubLen curve
  let cl := leNat (slice m (34 + pl) 2)
  if leNat (m.take 1) = 1 ∧ (curve = 1 ∨ curve = 2) ∧ 36 + pl + cl ≤ m.length then
    some { curve := curve, nonce := slice m 2 32, pub := slice m 34 pl, chain := slice m (36 + pl) cl, size := 36 + pl + cl }
  else none

/-- The key of one direction (R310): HKDF with salt N_I ‖ N_R over the shared x-coordinate. -/
def linkKey (curve eph : Nat) (peerPub nI nR : List Byte) (i2r : Bool) : List Byte :=
  hkdf32 curve (nI ++ nR) (Config.ecdh curve eph peerPub) (ascii (if i2r then "proshavy link i2r" else "proshavy link r2i"))

/-- Install a receive key: the old one stays until the first flit of the new phase (R311). -/
def State.installRx (s : State) (k : Nat) (key : List Byte) : State :=
  let s := s.updEnc k fun e => { e with
    rxOld := e.rxKey, rxOldE := e.rxE, rxHeld := e.rxKey, rxKey := some key, rxE := 0, rxKph := if e.rxKey.isSome then 1 - e.rxKph else 0 }
  (s.setF Fld.CR_LINK_STATUS_RX_ENC k 1).setF Fld.CR_LINK_STATUS_RX_KPH k (s.enc k).rxKph
/-- Encrypt from the next flit on with E = 0 (R311). -/
def State.installTx (s : State) (k curve : Nat) (key : List Byte) : State :=
  let s := s.updEnc k fun e => { e with txKey := some key, txE := 0, txKph := if e.txKey.isSome then 1 - e.txKph else 0 }
  let s := (s.setF Fld.CR_LINK_STATUS_TX_ENC k 1).setF Fld.CR_LINK_STATUS_TX_KPH k (s.enc k).txKph
  let s := (s.setF Fld.CR_LINK_TXE_E k 0).setF Fld.CR_LINK_STATUS_STALLED k 0
  let s := s.setF Fld.CR_LINK_STATUS_CURVE_USED k curve
  s.setLinkF Fld.DP_STATUS_ENC Fld.SL_STATUS_ENC k 1
/-- Both ends: the exchange is over. -/
def State.kexOver (s : State) (k : Nat) : State :=
  (s.updEnc k fun e => { e with
    phase := 0, rxMsg := [], rxTotal := 0, rxMsgKind := 0, txMsg := [], txOff := 0, helloI := [], helloR := [], newTx := none, cmd := none,
    rxHeld := none }).setF
    Fld.CR_LINK_STATUS_KEX_BUSY k 0

/-- Start an exchange as initiator (R310). -/
def State.kexStart (s : State) (k : Nat) (cmd : Option CmdRef) : State :=
  let c := s.kexCurve k
  let (nonce, eph, s) := s.kexDraw
  let m := s.helloFields c eph nonce
  let s := s.updEnc k fun e => { e with phase := 1, eph := eph, helloI := m, cmd := cmd, rxMsg := [], rxTotal := 0, rxMsgKind := 0 }
  (s.setF Fld.CR_LINK_STATUS_KEX_BUSY k 1).sendKex k 1 m

/-- Judge a complete message: the status of its last fragment, and what follows once that is answered. -/
def State.kexMessage (s : State) (k kind : Nat) (m : List Byte) : Nat × (State → State) :=
  let e := s.enc k
  let c := s.kexCurve k
  if kind = 1 then
    match parseHello m with
    | none => (4, fun s => s.kexFails k 4)
    | some h =>
      if h.curve ≠ c ∨ !s.hasChain ∨ !Config.chainOk c h.chain ∨ h.size ≠ m.length then (4, fun s => s.kexFails k 4)
      else (0, fun s =>
        let (nonce, eph, s) := s.kexDraw
        let f := s.helloFields c eph nonce
        let r := f ++ fit 0 (sigLen c) (Config.ecdsaSign c (s.fuses.secret c) s.fresh (hashOf c (m ++ f)))
        let s := s.drawn.updEnc k fun e => { e with phase := 2, eph := eph, helloI := m, helloR := r }
        s.sendKex k 2 r)
  else if kind = 2 then
    match parseHello m with
    | none => (4, fun s => s.kexFails k 4)
    | some h =>
      let sig := m.drop h.size
      if h.curve ≠ c ∨ !Config.chainOk c h.chain ∨ sig.length ≠ sigLen c ∨
          !Config.ecdsaVerify c (Config.chainKey c h.chain) (hashOf c (e.helloI ++ m.take h.size)) sig then
        (4, fun s => s.kexFails k 4)
      else (0, fun s =>
        let nI := slice e.helloI 2 32
        let s := s.updEnc k fun e => { e with phase := 3, helloR := m, newTx := some (linkKey c e.eph h.pub nI h.nonce true) }
        let s := s.installRx k (linkKey c e.eph h.pub nI h.nonce false)
        let s := match e.cmd with | some r => s.committed r | none => s
        let fin := fit 0 (sigLen c) (Config.ecdsaSign c (s.fuses.secret c) s.fresh (hashOf c (e.helloI ++ m)))
        s.drawn.sendKex k 3 fin)
  else
    match parseHello e.helloI with
    | none => (4, fun s => s.kexFails k 4)
    | some h =>
      let nR := slice e.helloR 2 32
      if !Config.ecdsaVerify c (Config.chainKey c h.chain) (hashOf c (e.helloI ++ e.helloR)) m then (4, fun s => s.kexFails k 4)
      else (0, fun s =>
        let s := s.installRx k (linkKey c e.eph h.pub h.nonce nR true)
        (s.installTx k c (linkKey c e.eph h.pub h.nonce nR false)).kexOver k)

/-- The link of an exchange whose fragment has come from a node: the one through which its packet came (R310). -/
def State.kexLink (s : State) (node : Nat) : Option Nat := if 0 < s.mail.via then some (s.mail.via - 1) else s.routeLink node
/-- One KEX_MSG fragment (R396): fragments in ascending order of one message, then the message's own checks. -/
def State.kexFragment (s : State) (h : CmdHdr) (msg link total off : Nat) (b : List Byte) : State :=
  match s.kexLink h.node with
  | none => s.reply h 4
  | some k =>
    let e := s.enc k
    let starts := off = 0 && e.rxMsg.isEmpty
    let inOrder := if starts then true else e.rxMsgKind == msg && e.rxTotal == total && e.rxMsg.length == off
    let due := (msg == 1 && e.phase == 0) || (msg == 2 && e.phase == 1) || (msg == 3 && e.phase == 2)
    if !inOrder || b.length != min 52 (total - off) || total = 0 || 8192 < total then (s.reply h 3).kexFails k 3
    else if !due then s.reply h 4
    else
      let s := s.updEnc k fun e => { e with rxMsg := e.rxMsg ++ b, rxMsgKind := msg, rxTotal := total, peerLink := link }
      let s := s.setF Fld.CR_LINK_STATUS_KEX_BUSY k 1
      if off + b.length < total then s.reply h 0
      else
        let m := (s.enc k).rxMsg
        let s := s.updEnc k fun e => { e with rxMsg := [], rxTotal := 0, rxMsgKind := 0 }
        let (st, go) := s.kexMessage k msg m
        go (s.reply h st)

/-- The peer answers a fragment that this end sent: the next goes, or the end of FINISH brings the transmit key into
force (R311). -/
def State.kexAnswer (s : State) (k st : Nat) : State :=
  let e := s.enc k
  if e.phase = 0 ∨ e.txMsg.isEmpty then s
  else if st ≠ 0 then s.kexFails k st
  else if e.txOff < e.txMsg.length then s.sendFragment k
  else
    let s := s.updEnc k fun e => { e with txMsg := [], txOff := 0 }
    if e.phase = 3 then
      let s := match e.newTx with | some key => s.installTx k (s.kexCurve k) key | none => s
      (s.kexOver k).respondTo e.cmd 0 []
    else s

/-- Whether an exchange can start on a link (R310, R315). -/
def State.kexReady (s : State) (k : Nat) : Bool :=
  s.linkActive k && s.peerEncCap k && s.hasChain && s.routeLink (s.peerNode k) == some k

def execLinkKex (h : CmdHdr) (link : Nat) (s : State) : Host.Outcome State Fault Refusal :=
  .next (s.submit h 0x0904 .r (argBytes [(6, 1, link)]) fun s =>
    s.checks h [(32 ≤ link, 3), (!s.kexReady link, 5), ((s.enc link).phase ≠ 0, 2)] fun s =>
      (s.uncommitted h.ref).kexStart link (some h.ref))
def execKexMsg (h : CmdHdr) (msg link total offset : Nat) (bytes : List Byte) (s : State) :
    Host.Outcome State Fault Refusal :=
  .next (s.submit h 0x0905 .r (argBytes [(6, 1, msg), (7, 1, link), (8, 2, total), (10, 2, offset)] ++ bytes) fun s =>
    s.checks h [(msg = 0 ∨ 3 < msg ∨ 32 ≤ link ∨ offset % 52 ≠ 0, 3)] fun s => s.kexFragment h msg link total offset bytes)
/-- AUTO_KEX: the end with the lower provisional ID starts once the link is ACTIVE, both node IDs are valid and the peer
reports ENC_CAP (R313); a sender whose E reached 2^47 starts anew (R312). -/
def execAutoKex (link : Nat) (s : State) : Host.Outcome State Fault Refusal :=
  let uid := s.linkF Fld.DP_PEER_UID_LO_UID Fld.SL_PEER_UID_LO_UID link +
    2 ^ 32 * s.linkF Fld.DP_PEER_UID_HI_UID Fld.SL_PEER_UID_HI_UID link
  let first := s.f Fld.CR_LINK_CFG_AUTO_KEX link = 1 && (s.enc link).txKey.isNone && s.fuses.uid < uid &&
    s.f Fld.CO_NODE_VALID = 1 && s.linkF Fld.DP_PEER_NODE_VALID Fld.SL_PEER_NODE_VALID link = 1
  let renew := (s.enc link).txKey.isSome && 2 ^ 47 ≤ (s.enc link).txE
  .next (if (first || renew) && s.linkActive link && s.peerEncCap link && s.hasChain && (s.enc link).phase = 0 then
    s.kexStart link none else s)
/-- 100 ms without a complete exchange: it fails with TIMEOUT (R310). -/
def execKexTimeout (link : Nat) (s : State) : Host.Outcome State Fault Refusal :=
  .next (if (s.enc link).phase = 0 && (s.enc link).rxMsg.isEmpty then s else s.kexFails link 8)
/-- 10 ms between fragments: the exchange fails (R396). -/
def execKexFragmentGap (link : Nat) (s : State) : Host.Outcome State Fault Refusal :=
  .next (if (s.enc link).rxMsg.isEmpty then s else s.kexFails link 3)

end Sys2Proof.Machine
end

