-- ==== Sys2Proof/Machine/Clock.lean ====
section
/-!
DEFINITION. Clocks (R320–R334): loss of the reference, coasting, the stop of the hearth loop, clock switches, unit gates
and their commands. The rows that move start-up on (JUDGEMENT_WINDOW, HEARTH_LOOP_LOCK, RELOCK_ATTEMPT) use what is
here and stand in Boot.lean.
-/
namespace Sys2Proof.Machine

/-! ### The hearth loop -/

def State.hearth (s : State) : Nat := s.f Fld.CK_STATUS_HEARTH
def State.setHearth (s : State) (v : Nat) : State := s.setF Fld.CK_STATUS_HEARTH 0 v
def State.refGood (s : State) : Bool := s.f Fld.CK_STATUS_REF_GOOD = 1
/-- The latched thermal shutdown (R345). -/
def State.shutdown (s : State) : Bool := s.f Fld.TH_STATUS_SHUTDOWN = 1

/-- The hearth loop has stopped (R327): the safe state; FAULT_N and SAFE_N. No room has a further edge, so each stops where it is.
The switch of the island's clocks to the RC oscillator is CLOCK_SWITCH. -/
def State.loopStops (s : State) : State :=
  if s.loopRuns then (((s.setHearth 4).setF Fld.CK_REF_LOST_ACTIVE 0 0).enterSafe 8).each rooms128 State.edgeOver else s

/-- Loss of REFCLK (R324). With the RC oscillator stopped the loss leads to the safe state instead of coasting (R321);
the loop then counts as stopped. -/
def State.refLoss (s : State) : State :=
  if !s.refGood then s
  else
    let s := (s.setF Fld.CK_STATUS_REF_GOOD 0 0).setF Fld.CK_REF_JUDGE_WINDOWS 0 0
    let s := (s.inc Fld.CK_REF_LOST_COUNT 0).recordSrc 1 4 1 []
    if !s.loopRuns then s
    else if s.f Fld.CK_STATUS_RC_FAIL = 1 then s.loopStops
    else
      let s := (s.setHearth 3).setF Fld.CK_REF_LOST_ACTIVE 0 1
      let s := s.each (List.range 16) State.forceTxs
      s.each (List.range 16) State.linkDrained

/-- One judgement window (R322): its count is kept, a good one adds to the windows in a row, a bad one restarts them. -/
def State.judge (s : State) (edges : Nat) : State :=
  if s.f Fld.CK_STATUS_RC_FAIL = 1 ∨ !s.clk.comp then s
  else
    let s := s.setF Fld.CK_REF_JUDGE_LAST 0 (min edges 2047)
    if 980 ≤ edges ∧ edges ≤ 1020 then
      let w := min 16 (s.f Fld.CK_REF_JUDGE_WINDOWS + 1)
      let s := s.setF Fld.CK_REF_JUDGE_WINDOWS 0 w
      if w = 16 ∧ !s.refGood then (s.setF Fld.CK_STATUS_REF_GOOD 0 1).recordSrc 1 4 2 [] else s
    else (s.setF Fld.CK_REF_JUDGE_WINDOWS 0 0).refLoss

/-- Whether the loop is trying to lock: locking, coasting or stopped with REFCLK judged good, and no shutdown (R323,
R326, R327). -/
def State.mayLock (s : State) : Bool :=
  s.refGood && !s.shutdown && (s.hearth = 1 || s.hearth = 3 || s.hearth = 4 || s.hearth = 5)

/-- Lock (R326): coasting ends, groups leave forced TXS unless shedding holds them there, ports leave L1 for waiting
packets, and sidebands that did not run send what was held (R254, R385). -/
def State.loopLocks (s : State) : State :=
  let was := s.hearth
  let s := (s.setHearth 2).setF Fld.CK_REF_LOST_ACTIVE 0 0
  if was = 3 then
    let s := s.each (List.range 16) fun s g =>
      if 4 ≤ s.f Fld.PW_SHED_STATUS_LEVEL ∧ g ≠ 0 then s else s.unforceTxs g
    s.each (List.range 16) State.l1Wake
  else s.sidesStart

def execRefclkLost (s : State) : Host.Outcome State Fault Refusal := .next s.refLoss
def execHearthLoopStop (s : State) : Host.Outcome State Fault Refusal := .next s.loopStops
/-- LOCK_FAIL: the loop did not lock within its time (R327); at start-up FAULT_N is asserted (Table 16-3). -/
def execLockFail (s : State) : Host.Outcome State Fault Refusal :=
  .next (if s.mayLock ∧ s.hearth ≠ 3 then
      (s.setHearth 5).updBoot fun b => { b with faultN := b.faultN || b.step == 5 }
    else s)
/-- RC_FAIL: the RC oscillator stops while the hearth loop runs (R321). -/
def execRcFail (s : State) : Host.Outcome State Fault Refusal :=
  .next (if s.loopRuns then s.setF Fld.CK_STATUS_RC_FAIL 0 1 else s)

/-- CLOCK_SWITCH of SW_HK (0) or SW_MP (1): to the hearth loop while it runs, to the RC oscillator when it does not
(R328). A switch is forced when its old clock has no edges: the RC oscillator after RC_FAIL, the hearth loop always, as the
island leaves it only when it has stopped. A forced completion is recorded (R329); `forced` says how the switch that ends was
made, and one that the old clock contradicts is none that the hardware makes. -/
def State.clockSwitch (s : State) (point : Nat) (toLoop forced : Bool) : State :=
  let F := if point = 0 then Fld.CK_STATUS_HK_SRC else Fld.CK_STATUS_MP_SRC
  if 2 ≤ point ∨ toLoop ≠ s.loopRuns ∨ s.f F = (if toLoop then 1 else 0) ∨
      forced ≠ (!toLoop || decide (s.f Fld.CK_STATUS_RC_FAIL = 1)) then s
  else
    let v := if toLoop then 1 else 0
    let s := if point = 0 then s.setF Fld.CK_STATUS_HK_SRC 0 v else s.setF Fld.CK_STATUS_MP_SRC 0 v
    if forced then
      (s.setF (if point = 0 then Fld.CK_SW_FORCED_HK else Fld.CK_SW_FORCED_MP) 0 1).inc Fld.CK_SW_FORCED_COUNT 0
    else s

/-! ### Unit gates (Table 14-2) -/

def gateCount (kind : Nat) : Nat := if kind = 0 then 128 else if kind ≤ 3 then 16 else if kind = 4 then 3 else 0
/-- Request field of a gate, its register instance and bit. -/
def gateReqFld (kind : Nat) : Field :=
  if kind = 0 then Fld.CK_GATE_ROOM_REQ else if kind = 1 then Fld.CK_GATE_DSP_REQ
  else if kind ≤ 3 then Fld.CK_GATE_LINK_REQ else Fld.CK_GATE_UNIT_REQ
def gateStatFld (kind : Nat) : Field :=
  if kind = 0 then Fld.CK_GSTAT_ROOM_OPEN else if kind = 1 then Fld.CK_GSTAT_DSP_OPEN
  else if kind ≤ 3 then Fld.CK_GSTAT_LINK_OPEN else Fld.CK_GSTAT_UNIT_OPEN
def gateInst (kind idx : Nat) : Nat := if kind = 0 then idx / 32 else 0
def gateBit (kind idx : Nat) : Nat := if kind = 0 then idx % 32 else if kind = 3 then 16 + idx else idx
def State.gateReq (s : State) (kind idx : Nat) : Bool := bit (s.f (gateReqFld kind) (gateInst kind idx)) (gateBit kind idx) = 1
def State.setGateReq (s : State) (kind idx : Nat) (b : Bool) : State :=
  s.setF (gateReqFld kind) (gateInst kind idx) (putBit (s.f (gateReqFld kind) (gateInst kind idx)) (gateBit kind idx) b)
def State.setGateStat (s : State) (kind idx : Nat) (b : Bool) : State :=
  s.setF (gateStatFld kind) (gateInst kind idx) (putBit (s.f (gateStatFld kind) (gateInst kind idx)) (gateBit kind idx) b)
def State.gating (s : State) (kind idx : Nat) : Nat := mget (fun _ => 0) s.clk.gating (gateKey kind idx)
def State.setGating (s : State) (kind idx v : Nat) : State :=
  s.updClk fun c => { c with gating := mput (fun _ => 0) c.gating (gateKey kind idx) v }

/-- Whether a close is refused (Table 14-2; Table 19-4 for the recorder). -/
def State.closeRefused (s : State) (kind idx : Nat) : Bool :=
  if kind = 2 then s.linkEnabled idx
  else if kind = 3 then s.linkEnabled (16 + idx)
  else if kind = 4 then
    if idx = 0 then s.f Fld.SC_CFG_ENABLE = 1 || s.sched.descs.any fun (e : Nat × Desc) => e.2.state != 0
    else if idx = 1 then
      ((List.range 32).any fun r => s.rgState r != 0 || (s.crr r).disabling) || links32.any fun k => (s.enc k).txKey.isSome || (s.enc k).rxKey.isSome
    else s.rpRuns
  else false

/-- A gate that is not at its requested state and not moving starts to move (R330, R331). A closing room's load is
abandoned at once. -/
def State.gateStart (s : State) (kind idx : Nat) : State :=
  if s.gating kind idx ≠ 0 ∨ s.gateReq kind idx = s.gateOpen kind idx then s
  else if s.gateReq kind idx then s.setGating kind idx 1
  else
    let s := s.setGating kind idx 2
    if kind = 0 then s.abandonLoad idx else s

/-- A gate request (R330): refused in the safe state, between a foundation reset and RESUME, and where Table 14-2 refuses
the close; the request bit then stays and CK_GATE_EVENT.REFUSED is set. Answers whether it was refused. -/
def State.gateAsk (s : State) (kind idx : Nat) (opens : Bool) : Bool × State :=
  if gateCount kind ≤ idx then (true, s)
  else if s.gateReq kind idx = opens then (false, s)
  else if s.safe || s.resuming || (!opens && s.closeRefused kind idx) then
    (true, s.setF Fld.CK_GATE_EVENT_REFUSED 0 1)
  else (false, (s.setGateReq kind idx opens).gateStart kind idx)

/-- UNIT_GATE commands that wait on a gate end: with OK those whose state is reached, with FAULT those that a later
request has overtaken. -/
def State.gateReached (s : State) (kind idx : Nat) (opened : Bool) : State :=
  let k := 2 * gateKey kind idx
  let now := k + (if opened then 1 else 0)
  let other := k + (if opened then 0 else 1)
  let still := s.gateReq kind idx ≠ opened
  let l := s.clk.gateCmd
  let s := s.updClk fun c => { c with gateCmd := c.gateCmd.filter fun e => e.1 != now && (still || e.1 != other) }
  s.each l fun s e => if e.1 = now then s.respond e.2 0 [] else if e.1 = other ∧ !still then s.respond e.2 7 [] else s

/-- End of a 64-cycle open (R331): a room enters RUN with no active plane, engines IDLE, a link DISABLED, and it trains if
enabled. -/
def State.gateOpened (s : State) (kind idx : Nat) : State :=
  if s.gating kind idx ≠ 1 then s
  else
    let s := (s.setGating kind idx 0).setGateStat kind idx true
    let s :=
      if kind = 0 then
        if s.roomState idx = 4 then
          let s := (s.setF Fld.RM_STATUS_STATE idx 0).setF Fld.RM_PLANE_NONE idx 1
          (s.each (List.range 4) fun s p => s.emptyPlane idx p).setDivisor idx
        else s
      else if kind = 1 then
        s.each (List.range 16) fun s j => if s.engState (16 * idx + j) = 0 then s.engIdle (16 * idx + j) else s
      else if kind = 2 then s.bringUp idx
      else if kind = 3 then s.bringUp (16 + idx)
      else s
    (s.gateReached kind idx true).gateStart kind idx

/-- Requests of an endpoint that are outstanding are forgotten: their responses are discarded (R331). -/
def State.forgetOut (s : State) (ep : Nat) : State :=
  s.updNet fun n => { n with outReq := mclear n.outReq (outKey ep 0 0) (outKey (ep + 1) 0 0) }

/-- A room whose gate closes (R66, R331): waiting RAM accesses end with a bus error, tasks return to READY, planes and
room RAM are lost. -/
def State.gateRoom (s : State) (n : Nat) : State :=
  let s := s.abandonLoad n
  let q := (s.room n).ramQ
  let s := s.each q fun s p => (s.refuse p n 5).inc Fld.CK_GATE_EVENT_DRAIN_BERR 0
  let s := s.each ((List.range 4).filterMap fun p => s.inService (4 * n + p)) State.returnTask
  let s := if s.f Fld.RM_PLANE_PEND_VALID n = 1 then s.dropHeld n else s
  let cmds := (s.room n).parks.filterMap (·.2) ++ (s.room n).cmdSwitch.toList
  let s := s.trackOff n
  let s := s.forgetOut n
  let s := s.updRoom n fun _ => {}
  let s := s.each (List.range 4) fun s p => s.emptyPlane n p
  let s := (s.setF Fld.RM_PLANE_NONE n 1).setF Fld.RM_PLANE_ACTIVE n 0
  let s := s.setF Fld.RM_STATUS_PARK_SHED n 0
  let s := if s.roomState n = 5 then s else s.setF Fld.RM_STATUS_STATE n 4
  let s := (s.setDivisor n).scramble (0x100000000 + 0x100000 * n) 0x90000
  s.each cmds fun s r => s.respond r 6 []

/-- An engine whose gate closes: as DSP_RESET with DROP = 0, then GATED (Table 09-2). A FALLOW one stays so; HALT is cleared in
both (Table 09-8). -/
def State.gateEngine (s : State) (e : Nat) : State :=
  if s.engState e = 6 then s.setF Fld.DE_CTRL_HALT e 0
  else
    let s := (s.resetEngine e 0).forgetOut (256 + e)
    (s.updEng e fun g => { cycles := g.cycles }).setF Fld.DE_STATE_STATE e 0

/-- End of a drain of up to 256 cycles (R331): what is still outstanding ends and the gate closes. -/
def State.gateDrained (s : State) (kind idx : Nat) : State :=
  if s.gating kind idx ≠ 2 then s
  else
    let s := if kind = 0 then s.gateRoom idx
      else if kind = 1 then s.each (List.range 16) fun s j => s.gateEngine (16 * idx + j)
      else if kind ≤ 3 then
        let k := if kind = 2 then idx else 16 + idx
        (s.each (List.range 4) fun s v => s.shutDrain k v 16).forgetOut (linkEp k)
      else s
    let s := (s.setGating kind idx 0).setGateStat kind idx false
    (s.gateReached kind idx false).gateStart kind idx

def execGateOpen (kind index : Nat) (s : State) : Host.Outcome State Fault Refusal := .next (s.gateAsk kind index true).2
def execGateClose (kind index : Nat) (s : State) : Host.Outcome State Fault Refusal := .next (s.gateAsk kind index false).2
def execGateOpenComplete (kind index : Nat) (s : State) : Host.Outcome State Fault Refusal :=
  .next (s.gateOpened kind index)
def execGateDrainEnd (kind index : Nat) (s : State) : Host.Outcome State Fault Refusal := .next (s.gateDrained kind index)

/-! ### Commands (Table 14-3) -/

def execClockStatus (h : CmdHdr) (s : State) : Host.Outcome State Fault Refusal :=
  .next (s.submit h 0x0110 .i [] fun s =>
    s.replyData h (regData ([s.rd .CK_STATUS, s.rd .CK_REF_LOST, s.rd .CK_SW_FORCED, s.rd .CK_REF_JUDGE] ++
      ((List.range 4).map fun k => s.rd .CK_GSTAT_ROOM k) ++ [s.rd .CK_GSTAT_DSP, s.rd .CK_GSTAT_LINK, s.rd .CK_GSTAT_UNIT])))
/-- UNIT_GATE (R330, R332): answers when the gate reaches the state. -/
def execUnitGate (h : CmdHdr) (kind index : Nat) (opens : Bool) (s : State) : Host.Outcome State Fault Refusal :=
  .next (s.submit h 0x0111 .r (argBytes [(6, 1, kind), (7, 1, index), (8, 1, if opens then 1 else 0)]) fun s =>
    s.checks h [(decide (5 ≤ kind ∨ gateCount kind ≤ index), 3)] fun s =>
      let (refused, s) := s.gateAsk kind index opens
      if refused then s.reply h 4
      else if s.gateOpen kind index = opens ∧ s.gating kind index = 0 then s.reply h 0
      else s.updClk fun c => { c with gateCmd := c.gateCmd ++ [(2 * gateKey kind index + (if opens then 1 else 0), h.ref)] })

end Sys2Proof.Machine
end

