-- ==== Sys2Proof/Machine/Commit.lean ====
section
/-!
DEFINITION. The books and their audits (R31–R39), staged settings and the epoch commit (R24–R28, Table 02-3): validation
of the proposed set, freeze, audit, apply, commit point; EPOCH_COMMIT, EPOCH_DISCARD, BOOKS_AUDIT, BOOKS_READ, EP_PEEK.
What follows the response of an internal commit stands in Finish.lean.
-/
namespace Sys2Proof.Machine

/-! ### Audits -/

/-- Corridor credits (R31): the first link and VC out of balance. -/
def State.auditCorridor (s : State) : Option (Nat × Nat × Int) :=
  (s.net.books.map fun (e : Nat × Book) => (e.1 / 8, e.1 % 8 / 2)).findSome? fun (x : Nat × Nat) =>
    let b := s.bookSum x.1 x.2
    let d : Int := (b.cred + b.flight + b.free : Nat) - (2 * vcDepth x.2 : Nat)
    if d = 0 then none else some (1, 4 * x.1 + x.2, d)

/-- Link credits, both directions (R32), with the escrow of an open retraining window (R34): VC v of link k. -/
def State.auditVc (s : State) (k v : Nat) : Option (Nat × Nat × Int) :=
  let l := s.link k
  let tx : Int := (nth l.cred v + nth l.outst v + nth l.escTx v : Nat) - (nth l.advDepth v : Nat)
  let rx : Int := (s.rxOcc k v + nth l.rel v + nth l.far v + nth l.escRx v : Nat) - (nth l.rxDepth v : Nat)
  let book := if isGroup k then 3 else 2
  if !l.up then none else if tx ≠ 0 then some (book, 4 * k + v, tx) else if rx ≠ 0 then some (book, 4 * k + v, rx) else none

/-- Receive buffers (R31): the pool of a link as a whole. -/
def State.auditPool (s : State) (k : Nat) : Option (Nat × Nat × Int) :=
  let l := s.link k
  let occ := ((List.range 4).map fun v => s.rxOcc k v).sum
  let d : Int := (occ + l.rel.sum + l.far.sum + l.escRx.sum : Nat) - (l.rxDepth.sum : Nat)
  if !l.up ∨ d = 0 then none else some (6, k, d)

/-- Meadow (R31): the six states together with the commit escrow. -/
def State.auditMeadow (s : State) : Option (Nat × Nat × Int) :=
  let sum := ((List.range 6).map s.meadowCount).sum + s.f Fld.EP_ESC_COMMIT_COUNT
  let d : Int := (sum : Nat) - (s.meadowP : Nat)
  if !s.sched.inited ∨ d = 0 then none else some (4, 0, d)

/-- Operand tokens (R31). -/
def State.auditTokens (s : State) : Option (Nat × Nat × Int) :=
  let q := s.sched
  let d : Int := (q.issued : Nat) - ((q.matched + q.held + q.flight + s.f Fld.EP_ESC_TOKENS_COUNT) % 2 ^ 64 : Nat)
  if d = 0 then none else some (5, 0, d)

/-- Bank ownership (R31): every bank is fallow or has an owner of Table 05-3. -/
def State.auditOwners (s : State) : Option (Nat × Nat × Int) :=
  let bad := banks512.filter fun b => !s.fallowBank b && !ownerOk (s.owner b).kind (s.owner b).id
  bad.head?.map fun b => (7, b, -(bad.length : Int))

/-- Book-keeping storage on die, which an audit reads through its decoders (R39): an uncorrectable counter of a corridor link, or
LB_OWNER. -/
def State.auditStored (s : State) : Option (Nat × Nat × Int) :=
  if (s.net.books.any fun (e : Nat × Book) => s.odBad (.book e.1)) || banks512.any fun b => s.odBad (.owner b) then some (9, 0, 0) else none

/-- The first book that an audit finds out of balance: book code, index, left side minus right side (R36, R43). DESIGN
CHOICE (log entry 107): where several books are out of balance, the one recorded is the first of an uncorrectable word, corridor, links, meadow,
tokens, receive buffers, owners. -/
def State.audit (s : State) : Option (Nat × Nat × Int) :=
  s.auditStored.orElse fun _ => s.auditCorridor.orElse fun _ =>
  (links32.findSome? fun k => (List.range 4).findSome? fun v => s.auditVc k v).orElse fun _ =>
  s.auditMeadow.orElse fun _ => s.auditTokens.orElse fun _ => (links32.findSome? s.auditPool).orElse fun _ => s.auditOwners

/-- Count an audit and record its trigger; how long it took, at most 100 cycles, is a free value (R43). -/
def State.noteAudit (s : State) (trigger : Nat) : State :=
  let s := (s.incW Fld.EP_AUDIT_COUNT_COUNT 0).setF Fld.EP_AUDIT_LAST_TRIGGER 0 trigger
  (s.setF Fld.EP_AUDIT_LAST_DURATION 0 ((Config.freeWord s.fresh).toNat % 101)).drawn

/-- Run an audit (R35, R36): whether it passes, and the state after; a mismatch is a books fault. -/
def State.runAudit (s : State) (trigger : Nat) : Bool × State :=
  let s := s.noteAudit trigger
  match s.audit with
  | none => (true, s)
  | some (b, i, d) => (false, s.booksFault b i d)

/-! ### Staged values -/

/-- Whether a key holds RWE values: its mask. Table entries above CSR space hold nothing else. -/
def keyMask (key : Nat) : Word :=
  if 0x10000000 ≤ key then 0xFFFFFFFF
  else match Reg.atOffset key with
    | some (r, _) => r.accMask .rwe
    | none => 0
/-- Let a set of staged words take effect in the registers. -/
def State.takeSet (s : State) (l : SMap (Option Word)) : State :=
  l.foldl (fun (s : State) (e : Nat × Option Word) =>
    match e.2 with
    | some w => let m := keyMask e.1; s.setRaw e.1 ((s.raw e.1 &&& ~~~m) ||| (w &&& m))
    | none => s) s
/-- Every register that holds a staged value: those staged for the next epoch and those of the commit in progress
(R27, R42). DESIGN CHOICE (log entry 106): the spec does not say whether the snapshot of a commit in progress counts as
staged; here it does, until the commit point. -/
def State.stagedKeys (s : State) : List Nat :=
  (s.staged.map (·.1)) ++ ((s.snapshot.map (·.1)).filter fun k => !mhas s.staged k)
/-- The staged word of a key, if one is staged. -/
def State.stagedAt (s : State) (key : Nat) : Option Word :=
  (mget (fun _ => none) s.staged key).orElse fun _ => mget (fun _ => none) s.snapshot key

/-! ### Validation (Table 02-3, 0–1.5 µs) -/

/-- Rules on one staged register, in the proposed set p: true when its values are in range. -/
def State.regValid (p : State) (r : Reg) (i : Nat) : Bool :=
  let v (F : Field) := p.f F i
  match r with
  | .RM_LOADCFG => v Fld.RM_LOADCFG_SHARE ≤ 4 && v Fld.RM_LOADCFG_DRAIN_US != 0
  | .RM_PLANE_CFG => v Fld.RM_PLANE_CFG_DIV == 0 || (8 ≤ v Fld.RM_PLANE_CFG_DIV && v Fld.RM_PLANE_CFG_DIV ≤ 1024)
  | .ST_CFG => 2 ≤ v Fld.ST_CFG_SUSPECT_N && 4 ≤ v Fld.ST_CFG_SUSPECT_LOG2WIN && v Fld.ST_CFG_SUSPECT_LOG2WIN ≤ 12
  | .EC_MOW_CFG => 2 ≤ v Fld.EC_MOW_CFG_BASE_S && v Fld.EC_MOW_CFG_BASE_S ≤ 3600 && 4 ≤ v Fld.EC_MOW_CFG_THRESH
  | .CO_CFG => 1 ≤ v Fld.CO_CFG_HOP_LIMIT && 10 ≤ v Fld.CO_CFG_RSP_LIMIT
  | .CO_VC_WEIGHT => p.weights.all fun w => w != 0
  | .SC_CFG => 4 ≤ v Fld.SC_CFG_DECAY_LOG2
  | .SC_TICK_CFG => 8 ≤ v Fld.SC_TICK_CFG_PERIOD && v Fld.SC_TICK_CFG_PERIOD ≤ 8000000
  | .DE_CFG => v Fld.DE_CFG_EXC_ACTION != 3
  | .DP_CFG | .DP_RXCFG =>
    let d := p.rxDepths i
    (v Fld.DP_CFG_ENABLE == 0 || (1 ≤ v Fld.DP_CFG_MAX_RATE && v Fld.DP_CFG_MAX_RATE ≤ 6)) && v Fld.DP_CFG_TRAIN_TRIES != 0 &&
      (d.all fun x => 4 ≤ x) && d.sum ≤ 192
  | .SL_CFG | .SL_RXCFG =>
    let d := p.rxDepths (16 + i)
    (v Fld.SL_CFG_ENABLE == 0 || (1 ≤ v Fld.SL_CFG_RATE && v Fld.SL_CFG_RATE ≤ 3)) && v Fld.SL_CFG_TRAIN_TRIES != 0 &&
      (d.all fun x => 4 ≤ x) && d.sum ≤ 512
  | .SL_RAW_RING => 2 ≤ v Fld.SL_RAW_RING_LOG2N && v Fld.SL_RAW_RING_LOG2N ≤ 6
  | .SL_TXEQ =>
    let a (F : Field) : Nat := (sgn 6 (v F)).natAbs
    32 ≤ v Fld.SL_TXEQ_C0 &&
      a Fld.SL_TXEQ_CM2 + a Fld.SL_TXEQ_CM1 + v Fld.SL_TXEQ_C0 + a Fld.SL_TXEQ_CP1 + a Fld.SL_TXEQ_CP2 ≤ 63
  | .CR_LINK_CFG => v Fld.CR_LINK_CFG_CURVE == 1 || v Fld.CR_LINK_CFG_CURVE == 2
  | .PW_SHED_CFG =>
    let t := [Fld.PW_SHED_CFG_T1, Fld.PW_SHED_CFG_T2, Fld.PW_SHED_CFG_T3, Fld.PW_SHED_CFG_T4, Fld.PW_SHED_CFG_T5,
      Fld.PW_SHED_CFG_T6].map v
    6 ≤ nth t 0 && nth t 5 ≤ 24 && ((List.range 5).all fun j => nth t j < nth t (j + 1))
  | .PW_SHED_HYST =>
    1 ≤ v Fld.PW_SHED_HYST_HYST && v Fld.PW_SHED_HYST_HYST ≤ 8 && 10 ≤ v Fld.PW_SHED_HYST_HOLD_US &&
      v Fld.PW_SHED_HYST_HOLD_US ≤ 4000
  | .TH_CFG =>
    85 ≤ v Fld.TH_CFG_REQ_C && v Fld.TH_CFG_REQ_C ≤ 103 && v Fld.TH_CFG_HYST != 0 && 1 ≤ v Fld.TH_CFG_GRACE_MS &&
      v Fld.TH_CFG_GRACE_MS ≤ 1000 && 1 ≤ v Fld.TH_CFG_STEP_MS && v Fld.TH_CFG_STEP_MS ≤ 1000
  | .TH_XT_CFG => v Fld.TH_XT_CFG_MODE != 3
  | .BT_BG_CFG => 250 ≤ v Fld.BT_BG_CFG_INTERVAL
  | _ => true

/-- The raw rings of a group (R278, R283). -/
def State.rawRingsOk (p : State) (g : Nat) : Bool :=
  let n := 256 * 2 ^ p.f Fld.SL_RAW_RING_LOG2N g
  let t := 4096 * p.f Fld.SL_RAW_RING_TXBASE g
  let r := 4096 * p.f Fld.SL_RAW_RING_RXBASE g
  t + n ≤ 0x90000 && r + n ≤ 0x90000 && (t + n ≤ r || r + n ≤ t)

/-- Remote windows (R159). -/
def State.windowOk (p : State) (w : Nat) : Bool :=
  let m := p.f Fld.CO_RWIN_CTRL_NODE w
  let base := 4096 * p.f Fld.CO_RWIN_BASE_LO_BASE w + 2 ^ 32 * p.f Fld.CO_RWIN_BASE_HI_BASE w
  p.f Fld.CO_RWIN_CTRL_ENABLE w = 0 || (m != p.node && p.routeEp m == some (512 + w) && base + 2 ^ 34 ≤ 2 ^ 48)

/-- Areas of an enabled range: window, start and end of the data and of the metadata (R286). -/
def State.rangeAreas (p : State) (r : Nat) : List (Nat × Nat × Nat) :=
  if p.f Fld.CR_RANGE_CTRL_ENABLE r = 0 then []
  else
    let w := p.f Fld.CR_RANGE_CTRL_WINDOW r
    let n := p.f Fld.CR_RANGE_CTRL_LOG2PAGES r
    let b := 4096 * p.f Fld.CR_RANGE_BASE_BASE r
    let m := 4096 * p.f Fld.CR_RANGE_META_META r
    [(w, b, b + 4096 * (2 ^ n)), (w, m, m + metaSize n)]
def overlapAreas (a b : Nat × Nat × Nat) : Bool := a.1 == b.1 && a.2.1 < b.2.2 && b.2.1 < a.2.2
/-- Range settings against those in effect (R287). -/
def State.rangeOkIn (s p : State) (r : Nat) : Bool :=
  match p.rangeAreas r with
  | [d, m] =>
    let n := p.f Fld.CR_RANGE_CTRL_LOG2PAGES r
    4 ≤ n && n ≤ 22 && p.f Fld.CR_RANGE_BASE_BASE r % 2 ^ n = 0 && d.2.2 ≤ 2 ^ 34 && m.2.2 ≤ 2 ^ 34 &&
      p.f Fld.CO_RWIN_CTRL_ENABLE d.1 = 1 && !overlapAreas d m &&
      (((List.range 32).filter (· != r)).all fun q => (p.rangeAreas q).all fun a => !overlapAreas a d && !overlapAreas a m) &&
      (s.f Fld.CR_RANGE_CTRL_ENABLE r = 0 || s.rangeAreas r == [d, m])
  | _ => true

/-- Valid templates of a proposed set, by index. -/
def State.templates (p : State) : List Nat :=
  ((p.regs.filter fun e => tplKey 0 0 ≤ e.1 && e.1 < imgKey 0 0 && (e.1 - tplKey 0 0) % 16 == 0).map fun e =>
    (e.1 - tplKey 0 0) / 16).filter p.tplValid
/-- Valid location entries of a proposed set, by index. -/
def State.locations (p : State) : List Nat :=
  ((p.regs.filter fun e => locKey 0 0 ≤ e.1 && e.1 < locKey 4096 0 && (e.1 - locKey 0 0) % 8 == 0).map fun e =>
    (e.1 - locKey 0 0) / 8).filter fun l => Fld.SC_LOC_CTRL_VALID.get (p.raw (locKey l 0)) = 1
def State.locF (p : State) (l : Nat) (F : Field) : Nat := F.get (p.raw (locKey l 1))

/-- The scheduler's settings (R174, R195, R199, R201). -/
def State.schedOkIn (s p : State) : Bool :=
  let on := p.f Fld.SC_CFG_ENABLE = 1
  let fl := p.f Fld.SC_SIZE_FLOW_LOG2
  let ml := p.f Fld.SC_SIZE_MATCH_LOG2
  let md := p.f Fld.SC_SIZE_MEADOW_LOG2
  let first := p.f Fld.SC_RES_FIRST
  let n := resBanks md ml fl
  let inUse : Bool := s.f Fld.SC_CFG_ENABLE = 1 || s.sched.descs.any fun (e : Nat × Desc) => e.2.state != 0
  (!on || (16 ≤ fl && fl ≤ 22 && 14 ≤ ml && ml ≤ 20 && 16 ≤ md && md ≤ 21 && first + n ≤ 512 &&
    ((List.range n).all fun j => !p.fallowBank (first + j) && p.owner (first + j) == { kind := 2, id := 0 }))) &&
  (!inUse || (s.rd .SC_SIZE == p.rd .SC_SIZE && first == s.f Fld.SC_RES_FIRST)) &&
  (p.templates.all fun t =>
    1 ≤ p.tplNops t && p.tplNops t ≤ 8 && p.tpl t Fld.SC_TPL_DATA_1_FLOW_LOG2 1 ≤ 22 &&
    (p.tplEngine t || p.locations.any fun l => p.locF l Fld.SC_LOC_DATA_IMAGE == p.tplTarget t) &&
    (!on || p.tpl t Fld.SC_TPL_DATA_0_FLOW_BASE 0 + 2 ^ p.tpl t Fld.SC_TPL_DATA_1_FLOW_LOG2 1 ≤ 2 ^ fl)) &&
  (p.locations.all fun l => p.roomState (p.locF l Fld.SC_LOC_DATA_ROOM) != 5 && p.locF l Fld.SC_LOC_DATA_ROW ≤ 5480)

/-- A recorder ring (R424): banks inside the lofts, each owned by the management processor. -/
def State.ringOk (s : State) (first n : Nat) : Bool :=
  1 ≤ n && n ≤ 128 && first + n ≤ 512 && ((List.range n).all fun j => s.owner (first + j) == { kind := 3, id := 0 })

/-- The Profile fields for which 0 is no valid value (R10, R263, Table 12-12): a profile that leaves one of them unset fails
at the commit of epoch 1. -/
def State.profileSet (p : State) : Bool :=
  (List.range 16).all fun g => p.regValid .SL_TXEQ g && p.regValid .SL_RAW_RING g && p.rawRingsOk g

/-- Validation of a staged set l against the values in effect: the rules of the register chapters. -/
def State.validSet (s : State) (l : SMap (Option Word)) : Bool :=
  let p := s.takeSet l
  (l.all fun e => match Reg.atOffset e.1 with | some (r, i) => p.regValid r i | none => true) &&
  ((List.range 1024).all fun m => p.f Fld.CO_ROUTE_VALID m = 0 ||
    (m != p.node &&
      !(p.f Fld.CO_ROUTE_KIND m = 1 && p.f Fld.SL_CFG_RAW (p.f Fld.CO_ROUTE_INDEX m) = 1))) &&
  ((List.range 32).all p.windowOk) && ((List.range 32).all fun r => s.rangeOkIn p r) && s.schedOkIn p &&
  (p.f Fld.RP_CFG_ARM = 0 || p.ringOk (p.f Fld.RP_RING_FIRST) (p.f Fld.RP_RING_BANKS)) && p.profileSet

/-! ### The phases -/

/-- Accept a commit (time 0): the snapshot closes the staged set. -/
def State.commitBegin (s : State) (inner : Nat) (cmd : Option CmdRef) : State :=
  let s := { s with snapshot := s.staged }
  let s := { s with staged := [] }
  let s := { s with commit := some { phase := 1, inner := inner, cmd := cmd } }
  s.setF Fld.EP_STATUS_COMMIT_BUSY 0 1

/-- At the freeze each pipe finishes the dispatch of the descriptor inside it, which EP_ESC_COMMIT counts until the thaw (R196). DESIGN
CHOICE (log entry 152): inside a pipe is the descriptor that it would take in this cycle. -/
def State.pipesEmptied (s : State) : State :=
  let s := s.each (List.range 4) State.dispatchPipe
  let l := (List.range 4).filterMap fun p => (s.pipe p).took.bind s.inService
  (s.updSched fun q => { q with inPipe := l }).setF Fld.EP_ESC_COMMIT_COUNT 0 l.length

/-- COMMIT_FREEZE (1.5 µs): validation fails with BAD_ARG, or the pools freeze and the audit takes its snapshot. -/
def State.commitFreeze (s : State) : State :=
  match s.commit with
  | none => s
  | some c =>
    if c.phase ≠ 1 then s
    else if !s.validSet s.snapshot then s.failCommit 3
    else
      let s := s.pipesEmptied.setF Fld.EP_STATUS_FROZEN 0 1
      { s with commit := some { c with phase := 2, audit := s.audit } }

/-- COMMIT_APPLY (2.5 µs): the audit's verdict. A mismatch returns BOOKS_MISMATCH and enters the safe state. -/
def State.commitApply (s : State) : State :=
  match s.commit with
  | none => s
  | some c =>
    if c.phase ≠ 2 then s
    else
      let s := s.noteAudit 1
      match c.audit with
      | some (b, i, d) => (s.booksFault b i d 0xA).failCommit 0xA
      | none => { s with commit := some { c with phase := 3 } }

/-- Whether a register's RWE fields, or one of them, differ between two states. -/
def State.differs (old s : State) (r : Reg) (i : Nat) : Bool := (old.rd r i &&& r.accMask .rwe) != (s.rd r i &&& r.accMask .rwe)

/-- Effects of changed link settings (R26, R249, R271, Tables 11-4, 12-4). -/
def State.linkSet (old : State) (s : State) (k : Nat) : State :=
  let was := old.linkF Fld.DP_CFG_ENABLE Fld.SL_CFG_ENABLE k
  let is := s.linkF Fld.DP_CFG_ENABLE Fld.SL_CFG_ENABLE k
  let rx := if isGroup k then old.differs s .SL_RXCFG (k - 16) else old.differs s .DP_RXCFG k
  let cfg := if isGroup k then
      old.differs s .SL_CFG (k - 16) || old.differs s .SL_TXEQ (k - 16) || old.differs s .SL_RXEQ (k - 16)
    else old.f Fld.DP_CFG_MAX_RATE k != s.f Fld.DP_CFG_MAX_RATE k
  if was = 0 ∧ is = 1 then s.bringUp k
  else if was = 1 ∧ is = 0 then s.linkOff k
  else if is = 1 ∧ (cfg || rx) then s.linkChanged k rx
  else s

/-- Effects of a changed range setting (R288). -/
def State.rangeSet (old : State) (s : State) (r : Nat) : State :=
  let was := old.f Fld.CR_RANGE_CTRL_ENABLE r
  let is := s.f Fld.CR_RANGE_CTRL_ENABLE r
  if was = 0 ∧ is = 1 then s.rangeInit r else if was = 1 ∧ is = 0 then s.rangeOff r
  else if is = 1 ∧ (s.crr r).home ≠ s.winHome (s.crr r).win then s.updCrr r fun c => { c with home := s.winHome c.win }
  else s
/-- The dirty entries of the ranges that a set disables go home before it takes effect (R296). -/
def State.rangesBack (s t : State) : State :=
  s.each (List.range 32) fun s r =>
    if s.f Fld.CR_RANGE_CTRL_ENABLE r = 1 ∧ t.f Fld.CR_RANGE_CTRL_ENABLE r = 0 then s.writeBackAll r else s

/-- Effects of the scheduler's settings (R175, R195): the meadow is initialised at the commit that enables the scheduler
or changes SC_SIZE, when no descriptor is in use, and stored where the scheduler has a reservation; the reservation; RUNNING. -/
def State.schedSet (old : State) (s : State) : State :=
  let was := old.f Fld.SC_CFG_ENABLE
  let is := s.f Fld.SC_CFG_ENABLE
  let n := if is = 1 then resBanks (s.f Fld.SC_SIZE_MEADOW_LOG2) (s.f Fld.SC_SIZE_MATCH_LOG2) (s.f Fld.SC_SIZE_FLOW_LOG2) else 0
  let s := if ((was = 0 ∧ is = 1) ∨ old.differs s .SC_SIZE 0) ∧ s.sched.descs.isEmpty then
      (if is = 1 then s.meadowInit.meadowStore else s.meadowInit) else s
  (s.setF Fld.SC_RES_COUNT 0 n).setF Fld.SC_STATUS_RUNNING 0 (if is = 1 ∧ !s.safe then 1 else 0)

/-- Effects on the mowing round (R129–R131). -/
def State.mowSet (old : State) (s : State) : State :=
  if !s.mow.started then (if s.f Fld.EC_MOW_CFG_ENABLE = 1 then s.mowStart else s)
  else if old.f Fld.EC_MOW_CFG_BASE_S ≠ s.f Fld.EC_MOW_CFG_BASE_S ∨ old.f Fld.EC_MOW_CFG_THRESH ≠ s.f Fld.EC_MOW_CFG_THRESH then
    ((s.updMow fun m => { m with roundsHere := 0 }).setPeriod (1000 * s.f Fld.EC_MOW_CFG_BASE_S)).mowRefresh
  else s.mowRefresh

/-- The settings image: every setting in effect (R358). -/
def State.writeImage (s : State) : State :=
  s.updBoot fun b => { b with
    settingsImage := (s.regs.filter fun e => keyMask e.1 != 0).map fun e => (e.1, e.2 &&& keyMask e.1), imageValid := true }

/-- COMMIT_POINT (3.5 µs): every pending copy takes effect, the epoch counts, the pools thaw. -/
def State.commitPoint (s : State) : State :=
  match s.commit with
  | none => s
  | some c =>
    if c.phase ≠ 3 then s
    else
      let s := s.rangesBack (s.takeSet s.snapshot)
      let old := s
      let s := s.takeSet s.snapshot
      let s := { s with snapshot := [] }
      let s := { s with commit := some { c with phase := 4 } }
      let s := { s with epoch := (s.epoch + 1) % 2 ^ 64 }
      let s := s.setF Fld.EP_EPOCH_LO_EPOCH 0 (s.epoch % 2 ^ 32)
      let s := ((s.setF Fld.EP_STATUS_FROZEN 0 0).setF Fld.EP_ESC_COMMIT_COUNT 0 0).updSched fun q => { q with inPipe := [] }
      let s := s.each links32 fun s k => State.linkSet old s k
      let s := s.each (List.range 32) fun s r => State.rangeSet old s r
      let s := State.mowSet old (State.schedSet old s)
      let s := s.writeImage
      match c.cmd with | some r => if c.inner = 0 then s.committed r else s | none => s

def execCommitApply (s : State) : Host.Outcome State Fault Refusal := .next s.commitApply
/-- AUDIT: the 1 ms interval. None while audits are suspended, and none during a commit, whose own audit replaces it
(R35). -/
def execAudit (s : State) : Host.Outcome State Fault Refusal :=
  .next (if s.f Fld.EP_STATUS_AUDIT_SUSPENDED = 1 ∨ s.commit.isSome ∨ !s.loopRuns then s else (s.runAudit 0).2)

/-! ### Commands (Table 17-7) -/

def execEpochCommit (h : CmdHdr) (s : State) : Host.Outcome State Fault Refusal :=
  .next (s.submit h 0x0201 .r [] fun s =>
    s.checks h [(s.commit.isSome, 2)] fun s => (s.uncommitted h.ref).commitBegin 0 (some h.ref))
/-- EPOCH_DISCARD (R27): values staged after any snapshot. -/
def execEpochDiscard (h : CmdHdr) (s : State) : Host.Outcome State Fault Refusal :=
  .next (s.submit h 0x0202 .s [] fun s =>
    ({ s with staged := [] } : State).replyData h (leBytes 4 s.staged.length))
def execBooksAudit (h : CmdHdr) (s : State) : Host.Outcome State Fault Refusal :=
  .next (s.submit h 0x0203 .r [] fun s =>
    let (ok, s) := s.runAudit 2
    s.reply h (if ok then 0 else 0xA))

/-- The books in the layout of Table 17-8 (R395). -/
def State.booksImage (s : State) : List Byte :=
  let q := s.sched
  let w4 (w : Word) : List Byte := leBytes 4 w.toNat
  leBytes 8 s.epoch ++ regData [s.rd .EP_ESC_COMMIT, s.rd .EP_ESC_RESET, s.rd .EP_ESC_TOKENS] ++
  ((List.range 6).map fun k => leBytes 4 (s.meadowCount k)).flatten ++ leBytes 4 0 ++
  leBytes 8 q.issued ++ leBytes 8 q.matched ++ leBytes 4 q.held ++ leBytes 4 q.flight ++ List.replicate 184 0 ++
  (links32.map fun k => ((s.linkBooks k).map w4).flatten).flatten ++
  (links32.map fun k => ((List.range 4).map fun v => leBytes 4 (65536 * nth (s.link k).escTx v + nth (s.link k).escRx v)).flatten).flatten ++
  (banks512.map fun b => leBytes 2 ((s.rd .LB_OWNER b).toNat % 65536)).flatten ++
  ((List.range 4608).map fun j =>
    let b := s.bookSum (j / 4) (j % 4)
    leBytes 2 (if linkExists (j / 4) then b.cred % 16 + b.flight % 16 * 16 + 256 * (b.free % 16) else 0)).flatten

/-- EP_PEEK: a write of EP_PEEK_ADDR; EP_PEEK_DATA and EP_PEEK_STATUS then answer for that register (R27, R42). -/
def execEpPeek (value : Nat) (s : State) : Host.Outcome State Fault Refusal :=
  .next (s.setF Fld.EP_PEEK_ADDR_OFFSET 0 (bits value 27 2))

end Sys2Proof.Machine
end

