-- ==== Sys2Proof/Machine/RawRing.lean ====
section
/-!
DEFINITION. Raw mode (R277, R278): the accesses of a group to the rings in its room's RAM, which are packets of endpoint 528 + g, the
blocks that it sends and those that it receives.
-/
namespace Sys2Proof.Machine

def State.rawRoom (s : State) (g : Nat) : Nat := s.f Fld.SL_RAW_CFG_ROOM g
def State.rawBase (s : State) (g off : Nat) : Nat := 0x100000000 + 0x100000 * s.rawRoom g + 4096 * off
def State.rawCtl (s : State) (g : Nat) : Nat := s.rawBase g (s.f Fld.SL_RAW_RING_CTLBASE g)
def State.rawN (s : State) (g : Nat) : Nat := 2 ^ s.f Fld.SL_RAW_RING_LOG2N g
/-- Address of a ring's block that a counter names. -/
def State.rawBlock (s : State) (g : Nat) (rx : Bool) (ctr : Nat) : Nat :=
  s.rawBase g (if rx then s.f Fld.SL_RAW_RING_RXBASE g else s.f Fld.SL_RAW_RING_TXBASE g) + 256 * (ctr % s.rawN g)
/-- One direction's ring access: receive, or transmit. -/
def Link.raw (l : Link) (rx : Bool) : RawDir := if rx then l.rawRx else l.rawTx
def State.setRawDir (s : State) (g : Nat) (rx : Bool) (d : RawDir) : State :=
  s.updLink (16 + g) fun l => if rx then { l with rawRx := d } else { l with rawTx := d }

/-- The request of a direction's access: the control word, the block, or its counter moved on. -/
def State.rawReq (s : State) (g : Nat) (rx : Bool) (d : RawDir) (tag : Nat) : Packet :=
  let ep := 528 + g
  let at' (a : Nat) := a + 2 ^ 48 * s.node
  let blk := (s.link (16 + g)).rawIn.headD { bytes := [], ue := false, last := false }
  if d.phase = 1 then mkReq s 0 ep tag (at' (s.rawCtl g)) 15 []
  else if d.phase = 2 then
    (if rx then mkReq s 1 ep tag (at' (s.rawBlock g rx d.ctr)) 255 (fit 0 256 blk.bytes) (if blk.ue then 255 else 0)
    else mkReq s 0 ep tag (at' (s.rawBlock g rx d.ctr)) 255 [])
  else mkReq s 1 ep tag (at' (s.rawCtl g + if rx then 8 else 4)) 3 (leBytes 4 ((d.ctr + 1) % 2 ^ 32))
/-- Make the access that a direction has come to. -/
def State.rawAsk (s : State) (g : Nat) (rx : Bool) (d : RawDir) : State :=
  let tag := s.freeTag (528 + g) 0 1024
  (s.setRawDir g rx { d with tag := tag, failed := false }).request (528 + g) (s.rawReq g rx d tag)
/-- An idle direction reads the control word. -/
def State.rawStart (s : State) (g : Nat) (rx : Bool) : State :=
  if ((s.link (16 + g)).raw rx).phase = 0 then s.rawAsk g rx { phase := 1 } else s

/-- The transmitter of a raw group can send a block. -/
def State.rawSends (s : State) (g : Nat) : Bool := s.rawRuns (16 + g) && s.txState (16 + g) = 0
/-- The notification after a frame that delivered a block: a MSG with RX_PROD (R278). -/
def State.rawNotify (s : State) (g prod : Nat) : State :=
  if s.f Fld.SL_RAW_CFG_NOTIFY g = 0 then s
  else
    let ep := 528 + g
    s.request ep { mkReq s 2 ep (s.freeTag ep 0 1024) (epDest s.node (s.rawRoom g)) 3 (leBytes 4 prod) with
      dstPlane := s.f Fld.SL_RAW_CFG_PLANE g }
/-- The oldest received block is done with; after the last of its frame comes the notification, if the frame delivered any. -/
def State.rawPop (s : State) (g prod : Nat) : State :=
  let k := 16 + g
  let ends := (s.link k).rawIn.head?.any fun b => b.last
  let got := (s.link k).rawGot
  let s := s.updLink k fun l => { l with rawIn := l.rawIn.drop 1, rawGot := l.rawGot && !ends }
  if ends && got then s.rawNotify g prod else s
/-- An access is done: the next one of its direction (R278). -/
def State.rawNext (s : State) (g : Nat) (rx : Bool) (p : Packet) : State :=
  let k := 16 + g
  let d := (s.link k).raw rx
  let ctr (i : Nat) := leNat (slice p.payload (4 * i) 4)
  if d.phase = 1 then
    (if rx then
      (if (s.link k).rawIn.isEmpty then s.setRawDir g rx {}
      else if (ctr 2 + 2 ^ 32 - ctr 3) % 2 ^ 32 = s.rawN g then
        let s := ((s.inc Fld.SL_RAW_STATUS_RX_DROPPED g).setRawDir g rx {}).rawPop g (ctr 2)
        if (s.link k).rawIn.isEmpty then s else s.rawStart g rx
      else s.rawAsk g rx { d with phase := 2, ctr := ctr 2 })
    else if ctr 0 = ctr 1 ∨ !s.rawSends g then s.setRawDir g rx {}
    else s.rawAsk g rx { d with phase := 2, ctr := ctr 1 })
  else if d.phase = 2 then
    (if rx then s.rawAsk g rx { d with phase := 3 }
    else if !s.rawSends g then s.setRawDir g rx {}
    else
      let s := if p.poison ≠ 0 then s.inc Fld.SL_RAW_STATUS_TX_POISON g
        else s.updLink k fun l => { l with
          lastSent := { kind := 0, bytes := p.payload } :: l.lastSent, slotQ := l.slotQ ++ [{ kind := 0, bytes := p.payload }] }
      s.rawAsk g rx { d with phase := 3 })
  else
    let s := if rx then (s.updLink k fun l => { l with rawGot := true }).rawPop g ((d.ctr + 1) % 2 ^ 32) else s
    s.rawAsk g rx { phase := 1 }
/-- The direction whose access a tag is. -/
def Link.rawOf (l : Link) (tag : Nat) : Option Bool :=
  [false, true].find? fun rx => (l.raw rx).phase != 0 && !(l.raw rx).failed && (l.raw rx).tag == tag
/-- A response at a group: what it asked for, BUSY, or an error; a bus error is counted, and the access is made again 64 cycles later
(R278). -/
def State.rawResponse (s : State) (g : Nat) (p : Packet) : State :=
  match (s.link (16 + g)).rawOf p.tag with
  | none => s
  | some rx =>
    let d := (s.link (16 + g)).raw rx
    if p.status = 0 then s.rawNext g rx p
    else if p.status = 1 then s.rawAsk g rx d
    else (if p.status = 2 then s.inc Fld.SL_RAW_STATUS_RAM_ERR g else s).setRawDir g rx { d with failed := true }
/-- The time limit of a group's access has passed: it counts as failed, and is made again (R165; log entry 155). -/
def State.rawLost (s : State) (g tag : Nat) : State :=
  match (s.link (16 + g)).rawOf tag with
  | none => s
  | some rx => s.setRawDir g rx { (s.link (16 + g)).raw rx with failed := true }
/-- Blocks of a received frame wait to be written. -/
def State.rawTake (s : State) (g : Nat) (l : List (List Byte)) (ue : Bool) : State :=
  if l.isEmpty ∨ !s.rawRuns (16 + g) then s
  else
    let n := l.length
    (s.updLink (16 + g) fun q => { q with rawIn := q.rawIn ++ l.zipIdx.map fun (e : List Byte × Nat) =>
      { bytes := e.1, ue := ue, last := e.2 + 1 == n } }).rawStart g true

/-- RAW_TRANSMIT: the group asks for the control word, and the block that it names follows (R278). -/
def execRawTransmit (group : Nat) (s : State) : Host.Outcome State Fault Refusal :=
  .next (if group < 16 ∧ s.rawSends group then s.rawStart group false else s)
def execRawReceive (group : Nat) (block : List Byte) (ue : Bool) (s : State) : Host.Outcome State Fault Refusal :=
  .next (s.unlessResuming fun s => if group < 16 then s.rawTake group [block] ue else s)
/-- An idle raw group reads the control word (R278). -/
def execRawControlPoll (group : Nat) (s : State) : Host.Outcome State Fault Refusal :=
  .next (if group < 16 ∧ s.rawRuns (16 + group) ∧ ((s.link (16 + group)).raw true).phase = 0 then s.rawStart group false else s)
/-- 64 cycles after a bus error the access is made again (R278). -/
def execRawRingRetry (group : Nat) (s : State) : Host.Outcome State Fault Refusal :=
  .next (s.each [false, true] fun s rx =>
    let d := (s.link (16 + group)).raw rx
    if group < 16 ∧ d.failed then s.rawAsk group rx d else s)

end Sys2Proof.Machine
end

