-- ==== Sys2Proof/Machine/LinkMail.lean ====
section
/-!
DEFINITION. Received stack-link frames (R260–R262, R269), the link mailbox of a group (R267), and enumeration (R279).
-/
namespace Sys2Proof.Machine

/-! ### Enumeration (R279) -/

/-- Milliseconds of an enumeration's time limit that remain, by slow rounds of 640 µs. -/
def State.enumLeft (s : State) (e : Enumer) : Nat :=
  e.ms - 640 * ((s.f Fld.HK_ROUND_COUNT + 2 ^ 32 - e.round) % 2 ^ 32) / 1000

/-- ENUM_ASSIGN to the far end of a link: on the sideband of a port, or in the link mailbox of a group. -/
def State.sendAssign (s : State) (k id ms : Nat) : State :=
  let b := cmdBlock 0x0808 k 6 (leBytes 2 id ++ leBytes 4 ms)
  if isGroup k then
    (s.updLink k fun l => { l with lmbOut := l.lmbOut ++ [b], lmbWait := true }).pumpLmb k
  else s.updMail fun m => m.sendBlock (k + 1) 1 b

/-- The route entry that enumeration gives node m. -/
def State.enumRoute (s : State) (e : Enumer) (m : Nat) : Word :=
  let to' (k : Nat) : Word :=
    Fld.CO_ROUTE_INDEX.set (Fld.CO_ROUTE_KIND.set (Fld.CO_ROUTE_VALID.set 0 1) (k / 16)) (k % 16)
  if m = e.id then 0
  else match e.ranges.find? fun (r : Nat × Nat × Nat) => r.2.1 ≤ m && m ≤ r.2.2 with
    | some r => to' r.1
    | none =>
      match s.routeEp m with
      | some ep =>
        let k := ep - 512
        if some k ≠ e.parent ∧ !(e.ranges.any fun r => r.1 == k) then s.rd .CO_ROUTE m
        else (match e.parent with | some p => to' p | none => 0)
      | none => match e.parent with | some p => to' p | none => 0

/-- Every link has been asked: the routes are staged and committed (R279). A commit that cannot start ends the command
with its status. -/
def State.enumFinish (s : State) (e : Enumer) : State :=
  let s := s.each (List.range 1024) fun s m => s.stage (Reg.CO_ROUTE.addr m) (s.enumRoute e m)
  let st := if s.commit.isSome then 2 else if !s.ready ∨ s.resuming then 5 else 0
  if st ≠ 0 then ({ s with enumer := none } : State).respond e.cmd st []
  else s.commitBegin 3 (some e.cmd)

/-- Ask the next link in order that is active, in flit mode and not the parent; after the last one, finish. -/
def State.enumNext : Nat → State → Enumer → State
  | 0, s, e => ({ s with enumer := some { e with waiting := false } } : State).enumFinish e
  | fuel + 1, s, e =>
    let k := 31 - fuel
    if k < e.asked ∨ some k = e.parent ∨ !s.linkActive k ∨ s.rawOn k ∨ 1023 < e.next ∨ s.enumLeft e = 0 then
      State.enumNext fuel s e
    else ({ s with enumer := some { e with asked := k, waiting := true } } : State).sendAssign k e.next (s.enumLeft e)

/-- Start an enumeration: the node ID is the commit point. -/
def State.enumStart (s : State) (id : Nat) (parent : Option Nat) (ms : Nat) (cmd : CmdRef) : State :=
  let s := (s.setF Fld.CO_NODE_NODE 0 id).setF Fld.CO_NODE_VALID 0 1
  State.enumNext 32 s { id := id, parent := parent, next := id + 1, asked := 0, ranges := [], cmd := cmd, ms := ms,
                        round := s.f Fld.HK_ROUND_COUNT }

/-- The answer of the link asked, or its deadline: OK gives it its range of IDs, anything else leaves it out. -/
def State.enumAnswer (s : State) (k status last : Nat) : State :=
  match s.enumer with
  | none => s
  | some e =>
    if !e.waiting ∨ e.asked ≠ k then s
    else
      let s := s.updLink k fun l => { l with lmbWait := false }
      let took := status = 0 ∧ e.next ≤ last ∧ last ≤ 1023
      let e := if took then { e with ranges := e.ranges ++ [(k, e.next, last)], next := last + 1 } else e
      State.enumNext (31 - k) s { e with asked := k + 1, waiting := false }

/-- The time limit of an enumeration: the link asked and every later one are left out. -/
def State.enumDeadline (s : State) : State :=
  match s.enumer with
  | none => s
  | some e => ({ s with enumer := some { e with ms := 0 } } : State).enumAnswer e.asked 8 0

def execEnumerate (h : CmdHdr) (firstId ms : Nat) (s : State) : Host.Outcome State Fault Refusal :=
  .next (s.submit h 0x0807 .r (argBytes [(6, 2, firstId), (8, 4, ms)]) fun s =>
    s.checks h [(1023 < firstId, 3), (s.f Fld.CO_NODE_VALID = 1, 4), (s.commit.isSome, 2)] fun s =>
      s.enumStart firstId none ms h.ref)
/-- ENUM_ASSIGN from a parent link: port p − 1, or the group of link mailbox 32 + g. -/
def State.enumAssign (s : State) (h : CmdHdr) (id ms : Nat) : State :=
  s.submit h 0x0808 .i (argBytes [(6, 2, id), (8, 4, ms)]) fun s =>
    s.checks h [(1023 < id, 3), (s.f Fld.CO_NODE_VALID = 1, 4)] fun s =>
      s.enumStart id (some (if 32 ≤ h.port then h.port - 16 else h.port - 1)) ms h.ref
def execEnumAssign (h : CmdHdr) (nodeId ms : Nat) (s : State) : Host.Outcome State Fault Refusal :=
  .next (s.enumAssign h nodeId ms)
def execEnumAssignResponse (link status lastId : Nat) (s : State) : Host.Outcome State Fault Refusal :=
  .next (s.enumAnswer link status lastId)

/-! ### Link mailbox and frames -/

/-- A block of a group's link mailbox: an ENUM_ASSIGN, the answer to ours, or an opcode answered UNSUPPORTED (R267). -/
def State.lmbBlock (s : State) (g : Nat) (b : List Byte) : State :=
  let k := 16 + g
  let at' (o n : Nat) := leNat (slice b o n)
  if at' 0 2 = 0x0808 then
    (s.enumAssign { port := 32 + g, node := 0, ep := 0, tag := at' 2 2, len := at' 4 2 } (at' 6 2) (at' 8 4)).pumpLmb k
  else if (s.link k).lmbWait ∧ at' 2 2 = k then
    let s := s.updLink k fun l => { l with lmbWait := false }
    s.enumAnswer k (at' 0 1) (at' 4 2)
  else (s.updLink k fun l => { l with lmbOut := l.lmbOut ++ [rspBlock 9 (at' 2 2) []] }).pumpLmb k

/-- An LMB flit: taken in SEQ order as a DATA flit, consuming no credit (R267, R269). -/
def State.lmbRecv (s : State) (g : Nat) (f : Flit) : State :=
  let k := 16 + g
  if !s.rxOn k then s
  else match s.judgeSeq k f with
    | (none, s) => s
    | (some b, s) => (s.countIn k f).lmbBlock g (b.take 64)

/-- One flit of a frame by its KIND; a reserved one is bad, and discarded without a NAK (Table 12-3, R269). -/
def State.frameFlit (s : State) (g : Nat) (f : Flit) : State :=
  let k := 16 + g
  match f.kind with
  | 0 => s.dataRecv k f
  | 1 => s.nullRecv k f
  | 2 => s.initRecv k f
  | 3 => s.resyncRecv k f
  | 4 => s.nakRecv k f
  | 5 => s.pmRecv k f
  | 6 => s.lmbRecv g f
  | 7 => s.teqRecv k f
  | _ => s

/-- The end of the second frame of a PM announcement (R274): one that could not be read leaves the first PM flit standing, one without
a PM flit takes it back. -/
def State.pmFrameEnd (s : State) (k : Nat) (was : Option Nat) (ue : Bool) : State :=
  match was with
  | some v =>
    if (s.link k).pmSeen ≠ was then s
    else if ue ∧ s.linkActive k then s.enterRx k v
    else s.updLink k fun l => { l with pmSeen := none }
  | none => s

/-- FRAME (R269, R278): counters and markers, then its five flits, or its blocks in raw mode; neither is taken from a foundation
reset until RESUME (Table 16-5). -/
def State.frame (s : State) (g : Nat) (x : FrameRx) : State :=
  if 16 ≤ g ∨ !s.framing g then s
  else if s.rxState (16 + g) = 3 then s.offExit (16 + g)
  else
    let y := x.decode
    let slots := y.slots (s.link (16 + g)).rxScr
    let was := (s.link (16 + g)).pmSeen
    let s := ((s.sendFrame g).resumeRx (16 + g)).frameSeen g y
    if s.resuming then s
    else if s.rawRuns (16 + g) then
      s.rawTake g ((slots.zipIdx.filter fun (e : List Byte × Nat) => bit y.mask e.2 == 1).map (·.1)) y.ue
    else
      let s := s.each slots fun s b => s.frameFlit g { parseFlit b with good := !y.ue }
      s.pmFrameEnd (16 + g) was y.ue

def execLmb (group : Nat) (flit : Flit) (s : State) : Host.Outcome State Fault Refusal :=
  .next (if group < 16 then s.lmbRecv group flit else s)
def execFrame (group : Nat) (rx : FrameRx) (s : State) : Host.Outcome State Fault Refusal := .next (s.frame group rx)

end Sys2Proof.Machine
end

