-- ==== Sys2Proof/Machine/Power.lean ====
section
/-!
DEFINITION. Power, temperature and service life (R335–R349): the shedding ladder, lost rail state, ADC conversions, the
slow round with the throttle request and enforcement, thermal shutdown, ageing, life bins, and their commands.
-/
namespace Sys2Proof.Machine

/-! ### The shedding ladder (R339, R340) -/

/-- Rooms with odd room index. -/
def oddRooms : List Nat := (List.range 64).map fun k => 2 * k + 1
/-- Ask a room that runs, or is about to, to park at its next edge; release it. -/
def State.parkShed (s : State) (n : Nat) : State :=
  if 4 ≤ s.roomState n then s
  else (s.setF Fld.RM_STATUS_PARK_SHED n 1).updRoom n fun r => { r with toStop := 2, toRun := false }
def State.unparkShed (s : State) (restart : Bool) (n : Nat) : State :=
  if s.f Fld.RM_STATUS_PARK_SHED n = 0 then s
  else
    (s.setF Fld.RM_STATUS_PARK_SHED n 0).updRoom n fun r =>
      { r with toStop := if r.toStop = 2 then 0 else r.toStop, toRun := restart && !r.parkedByCmd }
/-- A bank that step 5 puts into retention: its owner is neither the management processor nor the scheduler. -/
def State.shedBank (s : State) (b : Nat) : Bool :=
  let k := (s.owner b).kind
  k != 2 && k != 3

/-- Tell the far end of an active framed group what is asked of its transmitter (R274). -/
def State.sayPm (s : State) (k : Nat) : State :=
  if s.linkActive k && !s.rawOn k then s.sendPm k (s.txState k) (s.link k).forced else s

/-- Action of one step of Table 15-2. -/
def State.shedEnter (s : State) (step : Nat) : State :=
  match step with
  | 1 =>
    let s := (s.setF Fld.EC_STATUS_MOW_SHED 0 1).mowRefresh
    let s := s.each rooms128 State.abandonMarch
    if s.recording then s.updRp fun q => { q with shedGap := true } else s
  | 2 =>
    let s := s.setF Fld.SC_STATUS_ENG_SHED 0 1
    s.each engines256 fun s e => if s.engState e = 1 then s.setF Fld.DE_STATE_STATE e 5 else s
  | 3 => s.each oddRooms State.parkShed
  | 4 =>
    s.each ((List.range 15).map (· + 1)) fun s g =>
      let s := s.forceTxs g
      s.sayPm (16 + g)
  | 5 =>
    let s := s.each (List.range 16) State.shedPort
    s.each banks512 fun s b => if s.shedBank b then (((if s.sliceOn b then s.cutSlice (b % 128) else s)).retain b 2).retainQueue b else s
  | 6 => s.enterSafe 2
  | _ => s
/-- Leaving one step (R340). In the safe state the level falls but no unit is restarted (Table 15-3). -/
def State.shedLeave (s : State) (step : Nat) : State :=
  let run := !s.safe
  match step with
  | 1 =>
    let s := (s.setF Fld.EC_STATUS_MOW_SHED 0 0).mowRefresh
    if s.replay.shedGap then
      let s := s.updRp fun q => { q with shedGap := false }
      if s.recording then s.stampNow.pushGap 2 else s
    else s
  | 2 =>
    let s := s.setF Fld.SC_STATUS_ENG_SHED 0 0
    if run then s.each engines256 fun s e => if s.engState e = 5 then s.engIdle e else s else s
  | 3 => s.each oddRooms fun s n => s.unparkShed run n
  | 4 =>
    if run then
      s.each ((List.range 15).map (· + 1)) fun s g => (if s.refLost then s else s.unforceTxs g).sayPm (16 + g)
    else s
  | 5 =>
    let s := s.each (List.range 16) fun s d => s.updLink d fun l => { l with l1Shed := false }
    if run then
      let s := s.each (List.range 16) State.leaveL1
      if s.resuming && s.boot.frPhase != 5 then s else
      s.each banks512 fun s b => if s.retained b ∧ s.f Fld.LB_PWR_CAUSE b = 2 then s.askWake b else s
    else s
  | _ => s

/-- Units that come back while a level is in force come back under it (R341, R360). -/
def State.reShed (s : State) : State :=
  s.each ((List.range (min 5 (s.f Fld.PW_SHED_STATUS_LEVEL))).map (· + 1)) State.shedEnter

/-- The threshold of a step, in hundredths of a percent: PW_SHED_CFG holds it in units of 0.5 % (Table 15-10). -/
def State.shedAt (s : State) (step : Nat) : Nat :=
  50 * match step with
    | 1 => s.f Fld.PW_SHED_CFG_T1
    | 2 => s.f Fld.PW_SHED_CFG_T2
    | 3 => s.f Fld.PW_SHED_CFG_T3
    | 4 => s.f Fld.PW_SHED_CFG_T4
    | 5 => s.f Fld.PW_SHED_CFG_T5
    | _ => s.f Fld.PW_SHED_CFG_T6
/-- The deepest step whose threshold a sag exceeds; 0 when it exceeds none (R339). -/
def State.shedDepth (s : State) (sag : Nat) : Nat :=
  (List.range 6).foldl (fun d k => if s.shedAt (k + 1) < sag then k + 1 else d) 0
/-- PGOOD of a rail (Table 15-10): a rail is power-good above nominal − 3 % (R337). -/
def State.setPgood (s : State) (rail : Nat) (good : Bool) : State :=
  s.setF Fld.PW_STATUS_PGOOD 0 (putBit (s.f Fld.PW_STATUS_PGOOD) rail good)
/-- SHEDDING_STEP_ENTRY: the sag of a monitored rail (rails 2 to 9). One that reaches 3 % ends the rail's power-good (R337,
Table 15-10); the level rises to `step`, the deepest whose threshold the sag exceeds, the steps being cumulative. -/
def State.shedTo (s : State) (step : Nat) (x : RailSag) : State :=
  let was := s.f Fld.PW_SHED_STATUS_LEVEL
  if s.boot.por ∨ x.rail < 2 ∨ 9 < x.rail then s
  else
    let s := if 300 ≤ x.sag then s.setPgood x.rail false else s
    if step ≠ s.shedDepth x.sag ∨ step ≤ was then s
    else
      let s := s.setF Fld.PW_SHED_STATUS_LEVEL 0 step
      let s := (s.inc Fld.PW_SHED_STATUS_ENTRIES 0 (step - was)).setF Fld.PW_SHED_STATUS_WORST_RAIL 0 x.rail
      s.each ((List.range (step - was)).map (was + 1 + ·)) State.shedEnter
def execSheddingStepEntry (step : Nat) (rail : RailSag) (s : State) : Host.Outcome State Fault Refusal :=
  .next (s.shedTo step rail)
/-- Whether a hold time lets a step be left (R340): every monitored rail stayed below the step's threshold minus the
hysteresis for the whole of it. -/
def State.shedMayLeave (s : State) (h : ShedHold) : Bool :=
  decide (h.sag + 50 * s.f Fld.PW_SHED_HYST_HYST < s.shedAt h.step) && decide (s.f Fld.PW_SHED_HYST_HOLD_US ≤ h.us)
/-- SHEDDING_STEP_EXIT: steps 1 to 5 are left in reverse order. In the safe state the level falls from 6 too, though no unit is
restarted (Table 15-3). Rails that have stayed above nominal − 3 % for 100 µs are power-good again (R337). -/
def State.shedExit (s : State) (h : ShedHold) : State :=
  if s.boot.por then s
  else
    let s := if h.sag < 300 ∧ 100 ≤ h.us then (List.range 8).foldl (fun s k => s.setPgood (2 + k) true) s else s
    if h.step ≠ s.f Fld.PW_SHED_STATUS_LEVEL ∨ h.step = 0 ∨ (h.step = 6 ∧ !s.safe) ∨ !s.shedMayLeave h then s
    else (s.setF Fld.PW_SHED_STATUS_LEVEL 0 (h.step - 1)).shedLeave h.step
def execSheddingStepExit (step : ShedHold) (s : State) : Host.Outcome State Fault Refusal := .next (s.shedExit step)
/-- RAIL_STATE_LOST: rails 4, 5 and 6 (R336), which are no longer power-good. -/
def execRailStateLost (rail : Nat) (s : State) : Host.Outcome State Fault Refusal :=
  .next (if s.boot.por then s
    else if rail = 4 then (s.setF Fld.PW_STATUS_FAB_LOST 0 1).setPgood 4 false
    else if rail = 5 then (s.setF Fld.PW_STATUS_LND_LOST 0 1).setPgood 5 false
    else if rail = 6 then (s.setF Fld.PW_STATUS_LOFT_LOST 0 1).setPgood 6 false else s)

/-! ### ADC and shutdown (R342, R345) -/

/-- A reading as a signed number of sixteenths of a degree. -/
def tempOf (v : Nat) : Int := sgn 16 v
/-- On-die diode channels of the layer group that holds channel c (Table 15-4). -/
def layerDiodes (c : Nat) : List Nat :=
  let r (lo n : Nat) := (List.range n).map (lo + ·)
  if c < 16 then r 0 16 else if c < 24 then r 16 8 else if c < 28 then r 24 4 else if c < 36 then r 28 8
  else r (36 + (c - 36) / 2 * 2) 2
/-- A valid reading: converted and not faulted. -/
def State.chValid (s : State) (c : Nat) : Bool := s.f Fld.HK_CH_VALID c = 1 && s.f Fld.HK_CH_FAULT c = 0
def State.chTemp (s : State) (c : Nat) : Int := tempOf (s.f Fld.HK_CH_VALUE c)

/-- THROTTLE_REQ (kind 4) or THROTTLE_CLEAR (5) on the sideband of every port, while sidebands run (R343, R254). -/
def State.throttleMsg (s : State) (kind : Nat) : State :=
  if s.sideRuns then s.updMail fun m => (List.range 16).foldl (fun m d => m.sendThrottle (d + 1) kind) m else s

/-- A foundation reset in progress is abandoned (R363): the command that waits for it ends ABORTED. A RECOVER that waits for
wakes, past its commit point, ends with FAULT. -/
def State.abandonReset (s : State) : State :=
  let c := s.boot.frCmd
  let r := if s.boot.frPhase = 6 then s.boot.resumeCmd else none
  let s := s.updBoot fun b => { b with frPhase := 0, frCmd := none, recov := none, resumeCmd := if b.frPhase = 6 then none else b.resumeCmd }
  (s.respondTo c 6 []).respondTo r 7 []

/-- Thermal shutdown (R345): safe state, hearth loop stopped, the latch with its cause and channel, THERM_REQ_N. -/
def State.thermalShutdown (s : State) (cause c : Nat) : State :=
  if s.shutdown then s
  else
    let s := (s.abandonReset).enterSafe 3
    let s := if s.hearth = 0 then s else s.setHearth 4
    let s := (s.setF Fld.CK_REF_LOST_ACTIVE 0 0).setF Fld.TH_STATUS_SHUTDOWN 0 1
    let s := (s.setF Fld.TH_STATUS_SHUT_CAUSE 0 cause).setF Fld.TH_STATUS_SHUT_CH 0 c
    s.updBoot fun b => { b with thermReqN := true }

/-- A conversion of temperature channel c (R342, R345). -/
def State.convertTemp (s : State) (c : Nat) (r : AdcReading) : State :=
  let t := tempOf r.value
  let bad := r.fault || t < -640 || 2400 < t
  let was : Bool := s.f Fld.HK_CH_FAULT c = 1
  let s := (s.setF Fld.HK_CH_VALID c 1).setF Fld.HK_CH_FAULT c (if bad then 1 else 0)
  let s := s.setF Fld.HK_CH_VALUE c r.value
  if bad then
    if c < 44 then
      let s := s.setF Fld.TH_STATUS_DIODE_FAULT 0 1
      let s := if was then s else s.event 0x0012 c 0
      if s.ready && (layerDiodes c).all fun k => s.f Fld.HK_CH_FAULT k = 1 then s.enterSafe 9 else s
    else s
  else if c < 44 then (if 1840 ≤ t then s.thermalShutdown 1 c else s)
  else if s.f Fld.TH_XT_CFG_OUTLET_SHDN (c - 44) = 1 ∧ 1200 < t then s.thermalShutdown 2 c
  else s

/-- ADC_CONVERSION: the next of the 64 channels; an external channel that is off shows FAULT, and one in thermistor mode is
converted with its B value (R342). -/
def State.adc (s : State) (r : AdcReading) : State :=
  if s.boot.por ∨ s.boot.resetLow then s
  else
    let c := s.pow.adcCh
    let s := s.updPow fun p => { p with adcCh := (c + 1) % 64, roundDue := p.roundDue || c == 63 }
    if 52 ≤ c then ((s.setF Fld.HK_CH_VALID c 1).setF Fld.HK_CH_FAULT c 0).setF Fld.HK_CH_VALUE c r.value
    else if 44 ≤ c ∧ s.f Fld.TH_XT_CFG_MODE (c - 44) = 0 then s.setF Fld.HK_CH_FAULT c 1
    else if 44 ≤ c ∧ s.f Fld.TH_XT_CFG_MODE (c - 44) = 2 then
      s.convertTemp c { r with value := Config.thermistor (s.f Fld.TH_XT_CFG_BETA (c - 44)) r.value % 65536 }
    else s.convertTemp c r
def execAdcConversion (reading : AdcReading) (s : State) : Host.Outcome State Fault Refusal := .next (s.adc reading)

/-! ### The slow round (R343, R344, R348) -/

/-- Table 15-5. -/
def thermDiv (level : Nat) : Nat := nth [0, 24, 32, 64, 128] level
def thermCap (level : Nat) : Nat := nth [0, 512, 256, 128, 64] level

/-- A change of the enforcement level, with its limits and its record (R344, R422). An engine in a repeat takes the new
issue rate when the repeat ends. -/
def State.setThermLevel (s : State) (level : Nat) : State :=
  if s.f Fld.TH_STATUS_LEVEL = level then s
  else
    let s := s.setF Fld.TH_STATUS_LEVEL 0 level
    let s := s.each rooms128 fun s n => s.setF Fld.RM_EFF_DIV_THERM_DIV n (thermDiv level)
    let s := s.setF Fld.SC_RATE_THERM_CAP 0 (thermCap level)
    s.each engines256 fun s e =>
      if (s.eng e).rep = 0 then s.setF Fld.DE_STATE_THROTTLED e (if level = 0 then 0 else 1) else s
/-- The throttle request is set or ends (R343). -/
def State.setThermReq (s : State) (req : Bool) : State :=
  if (s.f Fld.TH_STATUS_REQ = 1) = req then s
  else
    let s := s.setF Fld.TH_STATUS_REQ 0 (if req then 1 else 0)
    let s := s.updBoot fun b => { b with thermReqN := req || s.shutdown }
    let s := s.event (if req then 0x0010 else 0x0011) (s.f Fld.TH_TJ_HOT_CH) (s.rd .TH_TJ 0).toNat
    s.throttleMsg (if req then 4 else 5)
/-- Record a change of level as an input event (R344, R423): level and request. -/
def State.recordTherm (s : State) (was : Nat) : State :=
  if s.f Fld.TH_STATUS_LEVEL = was then s
  else s.recordSrc 3 6 0 (leBytes 1 (s.f Fld.TH_STATUS_LEVEL) ++ leBytes 1 (s.f Fld.TH_STATUS_REQ))

/-- Rounds since a round number, in µs on the RC oscillator. -/
def State.sinceUs (s : State) (round : Nat) : Nat := 640 * ((s.f Fld.HK_ROUND_COUNT + 2 ^ 32 - round) % 2 ^ 32)

/-- The algorithm of R343. -/
def State.throttle (s : State) : State :=
  let tj := tempOf (s.f Fld.TH_TJ_TJ)
  let reqC : Int := 16 * (s.f Fld.TH_CFG_REQ_C : Nat)
  let lo : Int := 16 * ((s.f Fld.TH_CFG_REQ_C : Nat) - (s.f Fld.TH_CFG_HYST : Nat) : Int)
  let stepUs := 1000 * s.f Fld.TH_CFG_STEP_MS
  let now := s.f Fld.HK_ROUND_COUNT
  let level := s.f Fld.TH_STATUS_LEVEL
  if s.f Fld.TH_STATUS_REQ = 0 then
    if reqC ≤ tj then (s.updPow fun p => { p with tReq := now }).setThermReq true else s
  else if level = 0 then
    if tj < lo then s.setThermReq false
    else if 1000 * s.f Fld.TH_CFG_GRACE_MS ≤ s.sinceUs s.pow.tReq ∧ reqC ≤ tj then
      (s.updPow fun p => { p with tLvl := now }).setThermLevel 1
    else s
  else
    let s := s.updPow fun p =>
      if tj < lo then (if p.below then p else { p with below := true, tBelow := now }) else { p with below := false }
    if reqC ≤ tj ∧ stepUs ≤ s.sinceUs s.pow.tLvl ∧ level < 4 then
      (s.updPow fun p => { p with tLvl := now }).setThermLevel (level + 1)
    else if s.pow.below ∧ stepUs ≤ s.sinceUs s.pow.tBelow then
      let s := (s.updPow fun p => { p with tLvl := now, tBelow := now }).setThermLevel (level - 1)
      if level = 1 then (s.updPow fun p => { p with below := false }).setThermReq false else s
    else s

/-- Tj and its channel: the highest valid on-die reading, with the offset of a test (R342, R349). -/
def State.findTj (s : State) : State :=
  let l := (List.range 44).filter s.chValid
  match l with
  | [] => s
  | c :: t =>
    let hot := t.foldl (fun m k => if s.chTemp m < s.chTemp k then k else m) c
    let off := s.pow.testOff.getD 0
    (s.setF Fld.TH_TJ_TJ 0 (low 16 (s.chTemp hot + 16 * off))).setF Fld.TH_TJ_HOT_CH 0 hot

/-- RC trim by the mean of the foundation diodes (R321): the rounding of the mean and the code are free. -/
def State.rcTrim (s : State) : State :=
  let l := (List.range 16).filter s.chValid
  if s.f Fld.CK_STATUS_RC_FAIL = 1 ∨ l.isEmpty then s
  else
    let sum := l.foldl (fun (a : Int) c => a + s.chTemp c) 0
    let n : Int := 16 * (l.length : Int)
    let w := (Config.freeWord s.fresh).toNat
    let t := if sum % n ≠ 0 ∧ w % 2 = 1 then sum / n + 1 else sum / n
    let s := ((s.setF Fld.CK_RC_TRIM_TEMP 0 (low 8 t)).setF Fld.CK_RC_TRIM_CODE 0 (w / 2)).drawn
    s.updClk fun c => { c with comp := true }

/-- Bin of a Tj (Table 15-8): ≤ 90, ≤ 95, ≤ 100, ≤ 105, above. -/
def lifeBin (t : Int) : Nat := if t ≤ 1440 then 0 else if t ≤ 1520 then 1 else if t ≤ 1600 then 2 else if t ≤ 1680 then 3 else 4
/-- 640 µs of service life (R348). -/
def State.addLife (s : State) : State :=
  let k := lifeBin (tempOf (s.f Fld.TH_TJ_TJ))
  let us := mget (fun _ => 0) s.pow.lifeUs k + 640
  let s := s.updPow fun p => { p with lifeUs := mput (fun _ => 0) p.lifeUs k (us % 3600000000) }
  if 3600000000 ≤ us then s.inc Fld.TH_LIFE_HOURS k else s

/-- SLOW_ROUND_END, once the last channel has been converted (R342). While a replay runs, levels come from the ring instead (R344, R429). -/
def State.slowRound (s : State) : State :=
  if s.boot.por ∨ s.boot.resetLow ∨ !s.pow.roundDue then s
  else
    let was := s.f Fld.TH_STATUS_LEVEL
    let s := s.updPow fun p => { p with roundDue := false }
    let s := ((s.incW Fld.HK_ROUND_COUNT 0).findTj).rcTrim
    let s := if s.replaying then s else s.throttle.recordTherm was
    s.addLife
def execSlowRoundEnd (s : State) : Host.Outcome State Fault Refusal := .next s.slowRound

/-! ### Ageing and service life (R347, R348) -/

/-- Layer of ageing monitor m (Table 17-15): foundation 0, layer A 1, landing 2, layer B 3, lofts 4 to 7. -/
def ageLayer (m : Nat) : Nat :=
  if m < 4 then 0 else if m < 8 then 1 else if m < 10 then 2 else if m < 14 then 3 else m - 10
/-- AGEING_MEASUREMENT: the worst of the 18 monitors, in units of 0.001 %. -/
def State.ageing (s : State) (readings : List Nat) : State :=
  if s.boot.por ∨ s.boot.resetLow then s
  else
    let l := fit 0 18 (readings.map fun x => min x 65535)
    let worst := (List.range 18).foldl (fun m k => if nth l m < nth l k then k else m) 0
    let d := nth l worst
    let warned : Bool := s.f Fld.TH_AGE_STATUS_WARN = 1
    let past : Bool := s.f Fld.TH_AGE_STATUS_EXCEEDED = 1
    let s := s.updPow fun p => { p with ages := l }
    let s := (s.setF Fld.TH_AGE_STATUS_DEGR 0 d).setF Fld.TH_AGE_STATUS_LAYER 0 (ageLayer worst)
    let s := s.setF Fld.TH_AGE_STATUS_WARN 0 (if 3000 ≤ d then 1 else 0)
    let s := s.setF Fld.TH_AGE_STATUS_EXCEEDED 0 (if 4000 ≤ d then 1 else 0)
    let ev (s : State) (c : Nat) := s.event c (ageLayer worst) (s.rd .TH_AGE_STATUS 0).toNat
    let s := if 3000 ≤ d ∧ !warned then ev s 0x0013 else s
    if 4000 ≤ d ∧ !past then ev s 0x0014 else s
def execAgeingMeasurement (readings : List Nat) (s : State) : Host.Outcome State Fault Refusal :=
  .next (s.ageing readings)

/-- LIFE_RECORD: the bins go to the journal every hour (R348), after the firmware has read it (step 7). -/
def execLifeRecord (s : State) : Host.Outcome State Fault Refusal :=
  .next (if s.boot.step < 7 then s
    else s.journalBatch [(9, ((List.range 5).map fun k => leBytes 4 (s.f Fld.TH_LIFE_HOURS k)).flatten)])

/-! ### Commands (Table 15-7, Table 17-15) -/

def execPowerStatus (h : CmdHdr) (s : State) : Host.Outcome State Fault Refusal :=
  .next (s.submit h 0x0A01 .i [] fun s =>
    s.replyData h (regData ([s.rd .PW_STATUS 0, s.rd .PW_SHED_STATUS 0] ++ (List.range 12).map fun k => s.rd .HK_CH (52 + k))))
def execThermalStatus (h : CmdHdr) (first : Nat) (s : State) : Host.Outcome State Fault Refusal :=
  .next (s.submit h 0x0A02 .i (argBytes [(6, 1, first)]) fun s =>
    s.checks h [(decide (51 < first), 3)] fun s =>
      s.replyData h (regData ([s.rd .TH_STATUS 0, s.rd .TH_TJ 0] ++
        ((List.range (min 13 (52 - first))).map fun k => s.rd .HK_CH (first + k)))))
def execAgeReport (h : CmdHdr) (s : State) : Host.Outcome State Fault Refusal :=
  .next (s.submit h 0x0A03 .i [] fun s =>
    s.replyData h (regData [s.rd .TH_AGE_STATUS 0] ++ ((List.range 18).map fun m => leBytes 2 (nth s.pow.ages m)).flatten ++
      regData ((List.range 5).map fun k => s.rd .TH_LIFE k)))
/-- THERM_TEST: DENIED in DEPLOYED (life-cycle state 2). -/
def execThermTest (h : CmdHdr) (offset ms : Nat) (s : State) : Host.Outcome State Fault Refusal :=
  .next (s.submit h 0x0A04 .r (argBytes [(6, 1, offset), (8, 4, ms)]) fun s =>
    let o := sgn 8 offset
    s.checks h [(decide (o < -20 ∨ 20 < o ∨ ms < 1 ∨ 1000 < ms), 3), (s.fuses.lc == 2, 4)] fun s =>
      (s.updPow fun p => { p with testOff := some o }).reply h 0)
def execThermTestEnd (s : State) : Host.Outcome State Fault Refusal := .next (s.updPow fun p => { p with testOff := none })

end Sys2Proof.Machine
end

