-- ==== Sys2Proof/Machine/Reset.lean ====
section
/-!
DEFINITION. Reset domains and start-up up to step 9 (R354–R359, R364–R366, R405–R409): power-on, stack and foundation
domains, fuse load, boot verification, steps 5 to 9, self-test results and fallow marking.
-/
namespace Sys2Proof.Machine

/-! ### The record log (R377) -/

/-- Show the head record in BT_RES_WHERE, BT_RES_ADDR and BT_RES_INFO, and the fill. -/
def State.showRecord (s : State) : State :=
  let e := s.boot.records.headD { w0 := 0, w1 := 0, w2 := 0, w3 := 0 }
  let s := ((s.wr .BT_RES_WHERE 0 e.w0).wr .BT_RES_ADDR 0 e.w1).wr .BT_RES_INFO 0 e.w2
  s.setF Fld.BT_RES_CTRL_FILL 0 s.boot.records.length
/-- Add a result record; a full log drops it. -/
def State.recordTest (s : State) (t : TestFail) (outcome phase : Nat) : State :=
  if 64 ≤ s.boot.records.length then s.setF Fld.BT_STATUS_OVERFLOW 0 1
  else
    let e : LogEntry := {
      w0 := BitVec.ofNat 32 (2 ^ 28 * (t.kind % 16) + 2 ^ 21 * (t.layer % 8) + t.unit % 4096), w1 := BitVec.ofNat 32 (t.addr % 2 ^ 20),
      w2 := BitVec.ofNat 32 (2 ^ 29 * (outcome % 8) + 2 ^ 27 * (phase % 4) + 2 ^ 24 * (if t.kind = 5 then t.seg % 8 else 0) + t.bit % 2 ^ 14),
      w3 := 0 }
    (s.updBoot fun b => { b with records := b.records ++ [e] }).showRecord
/-- Remove n head records. -/
def State.popRecords (s : State) (n : Nat) : State :=
  (s.updBoot fun b => { b with records := b.records.drop n }).showRecord

/-! ### Spare columns (R132) -/

/-- An unused spare of a column's group of 288. DESIGN CHOICE (log entry 140): spares 2g and 2g + 1 serve group g, which the spec
gives two spares at most without naming them. -/
def State.freeSpare (s : State) (b col : Nat) : Option Nat :=
  [2 * (col / 288), 2 * (col / 288) + 1].find? fun k => k < 64 && (mget (fun _ => (0, 0)) (s.bank b).spares k).1 == 0
def State.setSpare (s : State) (b k st col : Nat) : State :=
  s.updBank b fun x => { x with spares := mput (fun _ => (0, 0)) x.spares k (st, col) }
/-- Assign a spare through its volatile latch and record the repair in the journal. -/
def State.assignSpare (s : State) (b k col : Nat) : State :=
  (s.setSpare b k 3 col).journalBatch [(6, leBytes 2 b ++ leBytes 1 k ++ leBytes 1 0 ++ leBytes 2 col)]

/-- Change the fuse array. -/
def State.updFuses (s : State) (g : Fuses → Fuses) : State := { s with fuses := g s.fuses }

/-! ### Failures and fallow units (R365, R366) -/

/-- A failure found at start-up, by SELFTEST_RUN or at recovery: repaired where a spare is left, else its block fails.
`late` says that the slice's budget ended first (R364). -/
def State.testFailure (s : State) (phase : Nat) (late : Bool) (t : TestFail) : State :=
  let fails (s : State) : State :=
    (s.recordTest t (if late then 3 else 1) phase).updBoot fun b => { b with failed := b.failed ++ [t] }
  if late then fails s
  else if t.kind = 1 then
    match s.freeSpare t.unit t.bit with
    | some k => (s.assignSpare t.unit k t.bit).recordTest t 0 phase
    | none => fails s
  else if t.kind = 5 then
    let n := t.unit
    let g := t.bit / 32
    let p := t.bit % 32
    let k := s.failKind n t.seg g
    if k = 0 then
      ((s.remap n t.seg g p).journalBatch [(4, leBytes 1 n ++ leBytes 1 t.seg ++ leBytes 2 g ++ leBytes 1 p)]).recordTest t 0 phase
    else if k = 1 then
      ((s.narrow n t.seg g).journalBatch [(5, leBytes 1 n ++ leBytes 1 t.seg ++ leBytes 2 g)]).recordTest t 0 phase
    else if k = 2 then fails s
    else s.recordTest t 4 phase
  else fails s

/-- The landing as a fallow unit: no plane store has this number. -/
def landingUnit : Nat × Nat := (2, 512)
/-- The units that a failed block makes fallow, in the coding of BT_RES_WHERE (R82, R366). A finding of kind 2 whose unit is
no plane store is a fault common to the landing; with the landing every room goes (DEDUCED; log entry 108). -/
def fallowUnits (t : TestFail) : List (Nat × Nat) :=
  if t.kind = 2 ∧ 512 ≤ t.unit then landingUnit :: (List.range 128).map fun n => (3, n)
  else if t.kind = 2 then [(3, t.unit / 4)]
  else if t.kind = 4 then [(3, t.unit)]
  else if t.kind = 5 then (5, t.unit) :: (3, t.unit) :: (List.range 4).map fun k => (1, t.unit + 128 * k)
  else [(t.kind, t.unit)]
/-- Show one fallow unit in its registers. -/
def State.showFallow (s : State) (u : Nat × Nat) : State :=
  match u with
  | (1, b) =>
    let s := s.setF Fld.LB_STATUS_FALLOW b 1
    (s.setF Fld.LB_OWNER_KIND b 0xF).setF Fld.LB_OWNER_ID b 0
  | (3, n) => ((s.setF Fld.RM_STATUS_STATE n 5).trackOff n).setDivisor n
  | (5, n) => s.setF Fld.ST_STATUS_STATE n 3
  | (6, e) => s.setF Fld.DE_STATE_STATE e 6
  | _ => s
/-- The tier that remains (R17). A fallow router or a fallow scratch leaves island service (Table 16-3). -/
def State.tierNow (s : State) : Nat :=
  let off (k u : Nat) : Bool := s.boot.fallow.contains (k, u)
  let loft := banks512.any fun b => !off 1 b
  let link := (List.range 16).any fun k => !off 8 k || !off 9 k
  let logic := (rooms128.any fun n => !off 3 n) && !s.boot.fallow.contains landingUnit
  let island := s.boot.fallow.all fun (u : Nat × Nat) => u.1 != 7 && u.1 != 0xC
  if !s.loopRuns || !island || !loft || !link then 0 else if logic then 2 else 1
/-- Mark failed blocks fallow, write the updated map to the journal, set the tier (step 8, R366). A failure of the
scratch or of a router leaves island service (Table 16-3), and so does a stack with nothing left for the data tier (R17;
DEDUCED, log entry 108). -/
def State.markFallow (s : State) : State :=
  let l := s.boot.failed
  let island := l.any fun t => t.kind == 7 || t.kind == 0xC
  let new := ((l.map fallowUnits).flatten.filter fun u => !s.boot.fallow.contains u).eraseDups
  let s := s.updBoot fun b => { b with
    fallow := b.fallow ++ new, failed := [], faultN := b.faultN || !l.isEmpty, stopped := b.stopped || island }
  let s := if new.isEmpty then s
    else s.journalBatch (new.map fun u => (8, leBytes 1 u.1 ++ leBytes 1 0 ++ leBytes 2 u.2 ++ leBytes 1 1))
  let s := s.each s.boot.fallow State.showFallow
  let tier := if s.boot.stopped then 0 else s.tierNow
  let ran := s.sideRuns
  let s := (s.updBoot fun b => { b with stopped := b.stopped || tier == 0 }).setF Fld.HK_STATUS_TIER 0 tier
  if ran then s else s.sidesStart

/-! ### Domains -/

/-- Registers of CSR space outside the offsets lo to hi − 1. -/
def dropRegs (m : SMap Word) (lo hi : Nat) : SMap Word := m.filter fun e => e.1 < lo || hi ≤ e.1
def dropStaged (m : SMap (Option Word)) (lo hi : Nat) : SMap (Option Word) := m.filter fun e => e.1 < lo || hi ≤ e.1

/-- Power-on reset (R338, R354): everything but flash and fuses. The wait queue is the model's, and so is its counter of
free values. -/
def State.powerOn (s : State) : State :=
  { State.reset with
    pending := s.pending, fresh := s.fresh, flash := s.flash, fuses := s.fuses,
    boot := { ({} : Boot) with resetLow := s.boot.resetLow } }

/-- Fuse load (step 3): provisional ID, life-cycle state, key slots, minimum SVN, spares. LB_STATUS.DUAL is fixed by the
bank's place. With an uncorrectable error of the array the boot ROM answers status commands only (Table 16-3). -/
def State.fuseLoad (s : State) (cause : Nat) : State :=
  let q := s.fuses
  let s := (s.setF Fld.HK_ID_UID_LO_UID 0 q.uid).setF Fld.HK_ID_UID_HI_UID 0 (q.uid / 2 ^ 32)
  let s := (s.setF Fld.LC_STATE_STATE 0 q.lc).setF Fld.LC_STATE_PARTIAL 0 (if q.partTry = 0 then 0 else 1)
  let s := (s.setF Fld.LC_STATE_CERTIFIED 0 (if q.certified then 1 else 0)).setF Fld.LC_STATE_ID_KEYS 0 (if q.idKeys then 1 else 0)
  let s := s.setF Fld.LC_KEYS_FUSED 0 (q.keyHash.foldl (fun a e => a + 2 ^ (e.1 % 8)) 0)
  let s := s.setF Fld.LC_SVN_MIN 0 q.svn
  let s := s.each q.spares fun s (x : Nat × Nat × Nat × Nat) => s.setSpare x.1 x.2.1 x.2.2.2 x.2.2.1
  let s := (s.setF Fld.BT_BOOT_CAUSE 0 cause).setF Fld.BT_BOOT_PROFILE 0 s.boot.pins
  let s := s.updBoot fun b => { b with step := 3, stopped := q.ue, faultN := q.ue }
  s.setF Fld.HK_STATUS_STEP 0 (if q.ue then 2 else 3)

/-- What a stack reset leaves (R328, R330, R354): the CK block without its gates, the shutdown latch, the rails' state,
memory contents, flash and fuses. -/
def State.stackReset (s : State) : State :=
  let keep := s.regs.filter fun e => (0x10000 ≤ e.1 && e.1 < 0x10020) || e.1 == Reg.CK_GATE_EVENT.addr 0
  let t : State :=
    { State.reset with
      pending := s.pending, fresh := s.fresh, flash := s.flash, fuses := s.fuses, mem := s.mem, synd := s.synd, regs := keep,
      clk := { ({} : Clk) with comp := s.clk.comp },
      pow := { ({} : Pow) with adcCh := s.pow.adcCh, roundDue := s.pow.roundDue },
      boot := { ({} : Boot) with por := false, resetLow := s.boot.resetLow, pins := s.boot.pins, thermReqN := s.shutdown } }
  let t := t.setF Fld.PW_STATUS_PGOOD 0 (s.f Fld.PW_STATUS_PGOOD)
  let t := t.setF Fld.TH_STATUS_SHUTDOWN 0 (s.f Fld.TH_STATUS_SHUTDOWN)
  let t := t.setF Fld.TH_STATUS_SHUT_CAUSE 0 (s.f Fld.TH_STATUS_SHUT_CAUSE)
  t.setF Fld.TH_STATUS_SHUT_CH 0 (s.f Fld.TH_STATUS_SHUT_CH)
/-- The recorder meets a reset (Table 19-4): an END record if the buffer can flush within 1 µs, at 12,800 bytes a µs for
each stair that the ring's banks lie on (R425). SOURCE 1 for every reset (log entry 27). -/
def State.endByReset (s : State) : State :=
  if s.recording ∧ s.replay.bufBytes + 16 ≤ 12800 * min 128 (s.f Fld.RP_RING_BANKS) then s.endRecording 11 1 true else s
/-- A stack reset, after which start-up restarts at step 3 unless RESET_N is low. PROFILE[2:0] is sampled at the release (R356):
where no command gives the pins, their level is a free value (log entry 38). -/
def State.restart (s : State) (cause : Nat) : State :=
  let s := s.endByReset.stackReset
  if s.boot.resetLow then s
  else ((s.updBoot fun b => { b with pins := (Config.freeWord s.fresh).toNat % 8 }).drawn).fuseLoad cause

/-! ### Steps 4 to 6 -/

/-- Set the step completed. -/
def State.setStep (s : State) (n : Nat) : State := (s.updBoot fun b => { b with step := n }).setF Fld.HK_STATUS_STEP 0 n

/-- Bytes of a signed image's header (Table 18-1). -/
def imgF (h : List Byte) (off n : Nat) : Nat := leNat (slice h off n)
/-- Whether a signed image verifies (R406): type 1 firmware, 2 profile. -/
def State.imageOk (s : State) (type : Nat) (img : List Byte) : Bool :=
  let h := img.take 256
  let len := imgF h 8 4
  let curve := imgF h 6 1
  let slot := imgF h 7 1
  let owner := (List.range 4).any fun k => mhas s.fuses.keyHash (4 + k)
  let slotOk := if type = 1 then slot < 4 else if owner then 4 ≤ slot && slot < 8 else slot < 4
  let pk := slice h 64 96
  decide (256 + len ≤ img.length) && h.length == 256 && imgF h 0 4 == 0x5A525753 && imgF h 4 2 == type &&
    (curve == 1 || curve == 2) && imgF h 20 4 == 0x18412 && (slice h 28 36).all (· == 0) && slotOk &&
    mhas s.fuses.keyHash slot && mget (fun _ => 0) s.fuses.keyHash slot == beNat (sha384 pk) &&
    bit (imgF h 24 4) s.fuses.lc == 1 &&
    (type != 1 || (decide (len ≤ 2 ^ 20 - 256) && decide (s.fuses.svn ≤ imgF h 16 4))) &&
    Config.ecdsaVerify curve (pk.take (if curve = 2 then 96 else 64)) (hashOf curve (h.take 160 ++ slice img 256 len))
      (slice h 160 (if curve = 2 then 96 else 64))
/-- The image in a firmware slot: its header and LENGTH bytes. -/
def State.fwImage (s : State) (slot : Nat) : List Byte :=
  let h := s.flashBytes (0x100000 * slot) 256
  h ++ s.flashBytes (0x100000 * slot + 256) (min (imgF h 8 4) (2 ^ 20 - 256))
/-- Slots in the order of R407: by SVN, then EDITION, then slot number. -/
def State.fwOrder (s : State) : List Nat :=
  let key (k : Nat) : Nat := let h := s.flashBytes (0x100000 * k) 256; 2 ^ 32 * imgF h 16 4 + imgF h 12 4
  if key 0 < key 1 then [1, 0] else [0, 1]
/-- Step 7 begins with the journal: remaps, narrowing, column repairs, fallow map, life bins. -/
def State.beginTests (s : State) : State :=
  let s := s.readJournal
  let j := s.journal
  let s := s.each j.remaps fun s (r : Nat × Nat × Nat × Nat) =>
    if (s.stair r.1).remaps.contains (r.2.1, r.2.2.1, r.2.2.2) then s else s.remap r.1 r.2.1 r.2.2.1 r.2.2.2
  let s := s.each j.narrows fun s (r : Nat × Nat × Nat) => s.narrow r.1 r.2.1 r.2.2
  let s := s.each j.repairs fun s (r : Nat × Nat × Nat) => s.setSpare r.1 r.2.1 3 r.2.2
  let s := s.each (j.life.zipIdx) fun s (x : Nat × Nat) => s.setF Fld.TH_LIFE_HOURS x.2 x.1
  let s := s.updBoot fun b => { b with fallow := j.fallow, testPos := 0, wipePos := 0, failed := [] }
  s.setF Fld.BT_STATUS_ST_RUNNING 0 1
/-- Step 5 when step 4 is done, REFCLK judged good and every rail power-good; step 6 when the loop runs and SW_HK and SW_MP have
moved to it (Table 16-2). -/
def State.startClocks (s : State) : State :=
  let s :=
    if s.boot.step = 4 ∧ !s.boot.stopped ∧ s.refGood ∧ s.f Fld.PW_STATUS_PGOOD = 1023 then
      let s := s.setStep 5
      if s.hearth = 0 ∧ !s.shutdown then s.setHearth 1 else s
    else s
  if s.boot.step = 5 ∧ s.loopRuns ∧ s.f Fld.CK_STATUS_HK_SRC = 1 ∧ s.f Fld.CK_STATUS_MP_SRC = 1 ∧ !s.shutdown ∧ !s.safe then
    ((s.updBoot fun b => { b with faultN := false }).setStep 6).beginTests
  else s

/-- BOOT_VERIFICATION (R407): the scratch is cleared, the slots are verified in order, the first that verifies starts.
In SCRAPPED no firmware starts (R408). -/
def State.bootVerify (s : State) : State :=
  if s.boot.por ∨ s.boot.resetLow ∨ s.boot.step ≠ 3 ∨ s.boot.stopped then s
  else
    let s := s.wipe 0x120000000 0x120200000
    let order := s.fwOrder
    let s := s.updBoot fun b => { b with fwSecond := nth order 1 }
    if s.fuses.lc = 4 then s else
    match order.find? fun k => s.imageOk 1 (s.fwImage k) with
    | none => s.updBoot fun b => { b with faultN := true }
    | some k =>
      let img := s.fwImage k
      let s := s.updSec fun q => { q with
        slot := k, measurement := sha384 img, editionMajor := imgF img 14 2, editionMinor := imgF img 12 2 }
      let s := s.setF Fld.LC_FW_EDITION_EDITION 0 (imgF img 12 4)
      let s := (s.setF Fld.LC_FW_STATUS_SLOT 0 k).setF Fld.LC_FW_STATUS_SVN 0 (imgF img 16 4)
      let s := s.setF Fld.LC_FW_STATUS_OTHER_VALID 0 (if s.imageOk 1 (s.fwImage (1 - k)) then 1 else 0)
      let s := (s.setF Fld.MB_STATUS_BOOTROM 0 0).updBoot fun b => { b with faultN := false }
      (s.setStep 4).startClocks

def execPowerOnReset (s : State) : Host.Outcome State Fault Refusal := .next s.powerOn
/-- POWER_ON_RESET_RELEASE: steps 1 to 3, with the rails of group 1 power-good and the factory trim (R321, R338). -/
def execPowerOnResetRelease (profilePins : Nat) (s : State) : Host.Outcome State Fault Refusal :=
  .next (if !s.boot.por then s
    else
      let s := s.updBoot fun b => { b with por := false, pins := profilePins % 8 }
      let s := (s.setF Fld.PW_STATUS_PGOOD 0 3).setF Fld.CK_RC_TRIM_CODE 0 s.fuses.trim
      if s.boot.resetLow then s else s.fuseLoad 0)
def execRailsPowerGood (s : State) : Host.Outcome State Fault Refusal :=
  .next (if s.boot.por then s else (s.setF Fld.PW_STATUS_PGOOD 0 1023).startClocks)
/-- RESET_N: a low pulse of at least 50 RC cycles; the stack stays in reset until RESET_N_RELEASE. -/
def execResetN (s : State) : Host.Outcome State Fault Refusal :=
  .next (if s.boot.por then s.updBoot fun b => { b with resetLow := true }
    else ((s.recordSrc 1 4 0 []).updBoot fun b => { b with resetLow := true }).restart 1)
/-- RESET_N_RELEASE: PROFILE[2:0] is sampled and start-up restarts at step 3 (R356). -/
def execResetNRelease (profilePins : Nat) (s : State) : Host.Outcome State Fault Refusal :=
  .next (if !s.boot.resetLow then s
    else if s.boot.por then s.updBoot fun b => { b with resetLow := false }
    else (s.updBoot fun b => { b with resetLow := false, pins := profilePins % 8 }).fuseLoad 1)
def execLockstepMismatch (s : State) : Host.Outcome State Fault Refusal :=
  .next (if s.boot.por ∨ s.boot.resetLow then s else s.restart 3)
def execBootVerification (s : State) : Host.Outcome State Fault Refusal := .next s.bootVerify
def execJudgementWindow (edges : Nat) (s : State) : Host.Outcome State Fault Refusal :=
  .next (if s.boot.por then s else (s.judge edges).startClocks)
/-- CLOCK_SWITCH: its end, and step 6 of start-up when both points have moved to the loop (R328, Table 16-2). -/
def execClockSwitch (point : Nat) (toLoop forced : Bool) (s : State) : Host.Outcome State Fault Refusal :=
  .next (s.clockSwitch point toLoop forced).startClocks
/-- HEARTH_LOOP_LOCK (R323, R326). -/
def execHearthLoopLock (s : State) : Host.Outcome State Fault Refusal :=
  .next (if s.mayLock then s.loopLocks.startClocks else s)
/-- RELOCK_ATTEMPT: 1 ms after a failed lock (R327, Table 16-3). -/
def execRelockAttempt (locked : Bool) (s : State) : Host.Outcome State Fault Refusal :=
  .next (if s.hearth = 5 ∧ s.mayLock ∧ locked then s.loopLocks.startClocks else s)

/-! ### Steps 7 to 9 -/

/-- Slices of each order of Table 16-7; the order and slice at a position of the sequence. -/
def orderSlices : List Nat := [1, 12, 1, 4, 1, 8, 4, 4]
def slicesTotal : Nat := 35
def sliceAt : List Nat → Nat → Nat → Nat × Nat
  | [], o, p => (o, p)
  | n :: t, o, p => if p < n then (o, p) else sliceAt t (o + 1) (p - n)

/-- START_UP_SELF_TEST: the end of one slice. A step 1 sag pauses slices at their boundary (R360). After the last slice
come fallow marking and step 8. -/
def State.startTest (s : State) (order slice : Nat) (overrun : Bool) (found : List TestFail) : State :=
  if s.boot.step ≠ 6 ∨ s.safe ∨ s.shutdown ∨ s.f Fld.BT_STATUS_ST_RUNNING = 0 ∨ s.f Fld.PW_SHED_STATUS_LEVEL ≠ 0 ∨
      sliceAt orderSlices 1 s.boot.testPos ≠ (order, slice) then s
  else
    let s := s.each found (fun s t => s.testFailure 0 overrun t)
    let s := s.updBoot fun b => { b with testPos := b.testPos + 1 }
    if s.boot.testPos < slicesTotal then s
    else (((s.setF Fld.BT_STATUS_ST_RUNNING 0 0).setStep 7).markFallow).setStep 8

/-- Debug levels of Table 18-5's states: default (R417). -/
def debugDefault (lc : Nat) : Nat := nth [2, 1, 0, 1, 0] lc
/-- The wipes of the room RAM, the landing with its shadow buffers, and the engine memories. -/
def State.wipeRooms (s : State) : State :=
  s.each rooms128 fun s n => s.wipe (0x100000000 + 0x100000 * n) (0x100000000 + 0x100000 * n + 0x90000)
def State.wipeLanding (s : State) : State := (s.wipe (landing 0 0 0) (landing 128 0 0)).wipe (shadowBuf 0 0) (shadowBuf 128 0)
def State.wipeEngines (s : State) : State := s.wipe 0x110000000 0x112800000
/-- START_UP_WIPE: one loft, in order; with loft 1 the landing, the room RAM and the engine memories (step 9). -/
def State.startWipes (s : State) (loft : Nat) : State :=
  if s.boot.step ≠ 8 ∨ s.boot.stopped ∨ s.safe ∨ s.shutdown ∨ loft ≠ s.boot.wipePos + 1 ∨ 4 < loft then s
  else
    let s := s.each ((List.range 128).map fun k => 128 * (loft - 1) + k) fun s b =>
      if s.fallowBank b then s else s.wipe (bankRow b 0) (bankRow b 8192)
    let s := if loft = 1 then s.wipeLanding.wipeRooms.wipeEngines else s
    let s := s.updBoot fun b => { b with wipePos := loft }
    if loft < 4 then s else (s.setStep 9).setF Fld.LC_DEBUG_LEVEL 0 (debugDefault s.fuses.lc)
def execStartUpWipe (loft : Nat) (s : State) : Host.Outcome State Fault Refusal := .next (s.startWipes loft)

end Sys2Proof.Machine
end

