-- ==== Sys2Proof/Machine/Csr.lean ====
section
/-!
DEFINITION. Register reads and writes (R5–R9, R161, R162): what each access type does, the registers that show other
state, the registers whose write is a request, and the commands of the register family.
-/
namespace Sys2Proof.Machine

/-! ### Reads -/

/-- A read of the low word of a 64-bit value latches the high word (R28, R173, R200, R222, R433). -/
def State.latchHi (s : State) (hi : Reg) (i v : Nat) : Word × State :=
  (BitVec.ofNat 32 v, { s with latch := mput (fun _ => 0) s.latch (hi.addr i) (BitVec.ofNat 32 (v / 2 ^ 32)) })
def State.latched (s : State) (hi : Reg) (i : Nat) : Word := mget (fun _ => 0) s.latch (hi.addr i)
/-- A word whose bit j is f (32·k + j). -/
def mapWord (f : Nat → Bool) (k : Nat) : Word :=
  BitVec.ofNat 32 ((List.range 32).foldl (fun m j => m + if f (32 * k + j) then 2 ^ j else 0) 0)
/-- The head of the error log (R138). -/
def State.ecHead (s : State) : LogEntry := s.ecLog.headD { w0 := 0, w1 := 0, w2 := 0, w3 := 0 }

/-- Registers that show other state, and the pairs that latch: the word read, and what the read does. -/
def State.shownReg (s : State) (r : Reg) (i : Nat) : Option (Word × State) :=
  match r with
  | .EP_EPOCH_LO => some (s.latchHi .EP_EPOCH_HI 0 s.epoch)
  | .EP_EPOCH_HI => some (s.latched .EP_EPOCH_HI 0, s)
  | .EP_STATUS => some (Fld.EP_STATUS_STAGED_PENDING.set (s.rd .EP_STATUS 0) (if s.stagedKeys.isEmpty then 0 else 1), s)
  | .EP_STAGED_COUNT => some (BitVec.ofNat 32 s.stagedKeys.length, s)
  | .EP_ESC_LINK =>
    let l := s.link (i / 4)
    some (BitVec.ofNat 32 (65536 * nth l.escTx (i % 4) + nth l.escRx (i % 4)), s)
  | .HK_ID_NODE => some (s.rd .CO_NODE 0, s)
  | .LB_FALLOW_MAP => some (mapWord s.fallowBank i, s)
  | .LB_RET_MAP => some (mapWord s.retained i, s)
  | .ST_REMAP_DATA =>
    some (match (s.stair i).remaps[s.f Fld.ST_REMAP_IDX_INDEX i]? with
      | some (seg, group, pos) => BitVec.ofNat 32 (2 ^ 31 + 2 ^ 20 * seg + group * 32 + pos)
      | none => 0, s)
  | .EC_LOG_CTRL => some (BitVec.ofNat 32 s.ecLog.length, s)
  | .EC_LOG_ADDR_LO => some (s.ecHead.w0, s)
  | .EC_LOG_ADDR_HI => some (s.ecHead.w1, s)
  | .EC_LOG_INFO => some (s.ecHead.w2, s)
  | .EC_LOG_SYND => some (s.ecHead.w3, s)
  | .EC_SPARE_DATA =>
    let b := s.bank (s.f Fld.EC_SPARE_IDX_BANK)
    let k := s.f Fld.EC_SPARE_IDX_SPARE
    let sp := mget (fun _ => (0, 0)) b.spares k
    let copying := b.copy.any fun (e : Nat × Nat) => e.1 == k
    some (BitVec.ofNat 32 (2 ^ 30 * sp.1 + (if copying then 2 ^ 29 else 0) + sp.2 % 2 ^ 14), s)
  | .SC_TICK_LO => some (s.latchHi .SC_TICK_HI 0 s.sched.tick)
  | .SC_TICK_HI => some (s.latched .SC_TICK_HI 0, s)
  | .SC_MEADOW => some (BitVec.ofNat 32 (s.meadowCount i), s)
  | .SC_TOK_ISSUED_LO => some (s.latchHi .SC_TOK_ISSUED_HI 0 s.sched.issued)
  | .SC_TOK_ISSUED_HI => some (s.latched .SC_TOK_ISSUED_HI 0, s)
  | .SC_TOK_MATCHED_LO => some (s.latchHi .SC_TOK_MATCHED_HI 0 s.sched.matched)
  | .SC_TOK_MATCHED_HI => some (s.latched .SC_TOK_MATCHED_HI 0, s)
  | .SC_TOK_HELD => some (BitVec.ofNat 32 s.sched.held, s)
  | .SC_TOK_FLIGHT => some (BitVec.ofNat 32 s.sched.flight, s)
  | .SC_MATCH_USED => some (BitVec.ofNat 32 s.sched.mtab.length, s)
  | .SC_TPL_DATA_0 | .SC_TPL_DATA_1 | .SC_TPL_DATA_2 | .SC_TPL_DATA_3 | .SC_IMG_ID_LO | .SC_IMG_ID_HI | .SC_LOC_CTRL
  | .SC_LOC_DATA => some (s.raw (s.stageKey r i), s)
  | .SC_GRP_STATE => some (BitVec.ofNat 32 ((s.grp (s.f Fld.SC_GRP_IDX_INDEX)).window - 1), s)
  | .SC_GRP_OUT => some (BitVec.ofNat 32 (s.grp (s.f Fld.SC_GRP_IDX_INDEX)).out, s)
  | .SC_USE => some (BitVec.ofNat 32 (s.useCount (s.f Fld.SC_USE_IDX_SLOT)), s)
  | .DE_STATE | .DE_CYCLES_LO | .DE_CYCLES_HI | .DE_RF_DATA => some (s.deRead i r)
  | .DP_TXBOOK => some (s.txBook (i / 4) (i % 4), s)
  | .DP_RXBOOK => some (s.rxBook (i / 4) (i % 4), s)
  | .SL_TXBOOK => some (s.txBook (16 + i / 4) (i % 4), s)
  | .SL_RXBOOK => some (s.rxBook (16 + i / 4) (i % 4), s)
  | .SL_DFE_DATA =>
    -- a tap of the equaliser: a value that the spec does not fix (log entry 28), held while adaptation is frozen (R264)
    if 12 ≤ s.f Fld.SL_DFE_IDX_TAP i then some (0, s)
    else some (match (s.link (16 + i)).dfe with
      | none => 0
      | some n => Config.dfeTap n (s.f Fld.SL_DFE_IDX_LANE i) (s.f Fld.SL_DFE_IDX_TAP i) &&& 0xFF, s)
  | .MB_STATUS => some (Fld.MB_STATUS_INPROG.set (s.rd .MB_STATUS 0) s.mail.inprog.length, s)
  | .RP_STAMP_LO => let s := s.stampNow; some (s.latchHi .RP_STAMP_HI 0 s.replay.stamp)
  | .RP_STAMP_HI => some (s.latched .RP_STAMP_HI 0, s)
  | _ => none

/-- The value of a register as a read gives it (write-only fields read 0), and the read's effect: RC fields clear (R7). -/
def State.plainRead (s : State) (r : Reg) (i : Nat) : Word × State :=
  match s.shownReg r i with
  | some x => x
  | none =>
    let w := s.rd r i
    (w &&& ~~~ r.accMask .wo, if r.accMask .rc = 0 then s else s.wr r i (w &&& ~~~ r.accMask .rc))

/-- The register that EP_PEEK_ADDR names, if it holds an RWE field, with the key that it stages (R27, R42). -/
def State.peeked (s : State) : Option (Reg × Nat × Nat) :=
  match Reg.atOffset (4 * s.f Fld.EP_PEEK_ADDR_OFFSET) with
  | some (r, i) => if r.accMask .rwe = 0 then none else some (r, i, s.stageKey r i)
  | none => none
/-- Read a register: the word and the state after. -/
def State.regRead (s : State) (r : Reg) (i : Nat) : Word × State :=
  match r with
  | .EP_PEEK_DATA => match s.peeked with
    | none => (0, s)
    | some (q, j, key) =>
      let w := (s.plainRead q j).1
      (match s.stagedAt key with | some v => (w &&& ~~~ q.accMask .rwe) ||| (v &&& q.accMask .rwe) | none => w, s)
  | .EP_PEEK_STATUS => match s.peeked with
    | none => (0, s)
    | some (_, _, key) => (if (s.stagedAt key).isSome then 3 else 2, s)
  | r => s.plainRead r i

/-! ### Writes -/

/-- The access types of R7: RW fields take effect at once, W1C clears, W1S sets, RWE fields are staged. -/
def State.plainWrite (s : State) (r : Reg) (i v : Nat) : State :=
  let w := BitVec.ofNat 32 v
  let rw := r.accMask .rw
  let new := (((s.rd r i &&& ~~~ rw) ||| (w &&& rw)) &&& ~~~ (w &&& r.accMask .w1c)) ||| (w &&& r.accMask .w1s)
  let s := if rw ||| r.accMask .w1c ||| r.accMask .w1s = 0 then s else s.wr r i new
  if r.accMask .rwe = 0 then s else s.stage (s.stageKey r i) (rweWord r v)

/-- Gate requests from a word of CK_GATE_*: each bit that changes is one request, in ascending order (R330). -/
def State.writeGates (s : State) (l : List (Nat × Nat × Nat)) (v : Nat) : State :=
  s.each l fun s (x : Nat × Nat × Nat) => (s.gateAsk x.2.1 x.2.2 (bit v x.1 = 1)).2

/-- The TRNG's next challenge of 256 bits (R414, R416). -/
def State.newChallenge (s : State) : State :=
  let (b, s) := s.trng 1
  let s := s.each (List.range 8) fun s k => s.setF Fld.LC_CHAL_CHAL k (leNat (slice b (4 * k) 4))
  s.setF Fld.LC_CHAL_CTRL_VALID 0 1

/-- A write of DP_CTRL or SL_CTRL: a change of HOLD_DOWN, then RETRAIN. -/
def State.writeLinkCtrl (s : State) (k v : Nat) : State :=
  let s := if (bit v 30 = 1) = s.heldDown k then s else if bit v 30 = 1 then s.holdDown k else s.releaseHold k
  if bit v 31 = 0 then s
  else (s.setLinkF Fld.DP_CTRL_RETRAIN Fld.SL_CTRL_RETRAIN k 1).when (s.linkActive k || (s.linkState k = 5 && !isGroup k)) (·.startRetrain k)

/-- Registers whose write is a request to their unit. -/
def State.requestWrite (s : State) (r : Reg) (i v : Nat) : Option State :=
  match r with
  | .CK_GATE_ROOM => some (s.writeGates ((List.range 32).map fun j => (j, 0, 32 * i + j)) v)
  | .CK_GATE_DSP => some (s.writeGates ((List.range 16).map fun j => (j, 1, j)) v)
  | .CK_GATE_LINK => some (s.writeGates ((List.range 32).map fun j => (j, if j < 16 then 2 else 3, j % 16)) v)
  | .CK_GATE_UNIT => some (s.writeGates ((List.range 3).map fun j => (j, 4, j)) v)
  | .CO_BOOK_IDX => some (s.bookSnapshot v)
  | .LB_OWNER => some (s.writeOwner i (v % 65536)).2
  | .LB_GUEST => some (s.writeGuest i v).2
  | .LB_PWR => some (if v % 2 = 1 then (s.askRetain i).2 else s.askWakeCmd i)
  | .LB_WIPE => some (if bit v 31 = 1 then (s.askWipe i).2 else s)
  | .RM_SWITCH => some (s.askSwitch i (v % 4) .reg none)
  | .RM_LOAD_CTRL =>
    let s := s.plainWrite .RM_LOAD_CTRL i (v % 2 ^ 31)
    some (if bit v 31 = 1 then (s.loadReq i .mp v none).2 else s)
  | .DE_CTRL => let s := s.haltRequest i v; some (if bit v 30 = 1 then s.askStep i else s)
  | .DE_RF_DATA => some (s.rfWrite i v)
  | .DP_CTRL => some (s.writeLinkCtrl i v)
  | .SL_CTRL =>
    let s := (s.setF Fld.SL_CTRL_LANE i (bits v 25 24)).writeLinkCtrl (16 + i) v
    some (if bit v 29 = 1 then s.slipLane i (bits v 25 24) else s)
  | .SL_PWR =>
    let s := s.setF Fld.SL_PWR_RX_HOLD i (bits v 29 28)
    some ((s.stage (s.stageKey .SL_PWR i) (rweWord .SL_PWR v)).writeTxHold i (bits v 31 30))
  | .EC_CTM_CTRL => some (s.writeCtm v)
  | .EC_CTM_CHECK | .EC_CTM_FLIP => if s.f Fld.EC_CTM_CTRL_ENABLE = 1 then some s else none
  | .EC_LOG_CTRL => some (if bit v 31 = 1 then { s with ecLog := s.ecLog.drop 1 } else s)
  | .BT_RES_CTRL => some (if bit v 31 = 1 then s.popRecords 1 else s)
  | .LC_CHAL_CTRL => some (if bit v 31 = 1 then s.newChallenge else s)
  | .MB_PERM => if i = 0 then some s else none
  | .MB_ENG_BELL => some s
  | _ => none

/-- Write a register (R7). -/
def State.regWrite (s : State) (r : Reg) (i v : Nat) : State := (s.requestWrite r i v).getD (s.plainWrite r i v)

/-! ### Accesses by offset -/

/-- The bus error cause of an access to CSR space by the management processor (R161, R163): misaligned, or reserved. -/
def csrCause (off : Nat) : Option Nat :=
  if off % 4 ≠ 0 then some 2 else if 0x10000000 ≤ off ∨ csrReserved off then some 1 else none
/-- A read by the management processor: the word (0 where no register lies) or the cause of a bus error; the state. -/
def State.csrGet (s : State) (off : Nat) : Sum Nat Word × State :=
  match csrCause off with
  | some c => (.inl c, s.busError c s.node 546 (0x140000000 + off))
  | none => match Reg.atOffset off with
    | some (r, i) => let (w, s) := s.regRead r i; (.inr w, s)
    | none => (.inr 0, s)
/-- A write by the management processor, which reaches all of CSR space (R162); its write of an engine's doorbell is accepted
and rings nothing (DESIGN CHOICE, log entry 29: a doorbell command is an engine's). -/
def State.csrPut (s : State) (off v : Nat) : Option Nat × State :=
  match csrCause off with
  | some c => (some c, s.busError c s.node 546 (0x140000000 + off))
  | none => match Reg.atOffset off with
    | some (r, i) => (none, s.regWrite r i v)
    | none => (none, s)

/-- A register read whose word the state then shows. -/
def State.csrShow (s : State) (off : Nat) : State :=
  match s.csrGet off with
  | (.inr w, s) => s.updMail fun m => { m with csrOut := w }
  | (.inl _, s) => s

/-! ### Meanings -/

def execRegisterWrite (off value : Nat) (s : State) : Host.Outcome State Fault Refusal := .next (s.csrPut off value).2
def execReadClear (off : Nat) (s : State) : Host.Outcome State Fault Refusal := .next (s.csrShow off)
def execLowWordReadLatch (off : Nat) (s : State) : Host.Outcome State Fault Refusal := .next (s.csrShow off)
/-- LC_CHAL_NEW: a write of LC_CHAL_CTRL.NEW draws a new challenge. -/
def execLcChalNew (s : State) : Host.Outcome State Fault Refusal := .next s.newChallenge
/-- BT_RES_POP: a write of BT_RES_CTRL.POP removes the head record (R377). -/
def execBtResPop (s : State) : Host.Outcome State Fault Refusal := .next (s.popRecords 1)

end Sys2Proof.Machine
end

