-- ==== Sys2Proof/Machine/Mail.lean ====
section
/-!
DEFINITION. The device commands (Table 17-6): DEVICE_INFO, CSR_READ, CSR_WRITE, MEM_READ, MEM_WRITE, EVENT_READ,
EVENT_CFG, NOP; the management processor's own corridor requests; responses, response time limits and the time limits of
commands.
-/
namespace Sys2Proof.Machine

/-! ### DEVICE_INFO, NOP, events -/

def execDeviceInfo (h : CmdHdr) (s : State) : Host.Outcome State Fault Refusal :=
  .next (s.submit h 0x0101 .b [] fun s =>
    s.replyData h (regData [s.rd .HK_ID_VENDOR, s.rd .HK_ID_PART, s.rd .HK_ID_REV, s.rd .CO_NODE, s.rd .HK_ID_UID_LO,
        s.rd .HK_ID_UID_HI] ++ leBytes 1 s.sec.editionMajor ++ leBytes 1 s.sec.editionMinor ++ leBytes 1 0 ++ leBytes 1 h.port))
def execNop (h : CmdHdr) (s : State) : Host.Outcome State Fault Refusal :=
  .next (s.submit h 0x0109 .b [] fun s => s.reply h 0)
/-- An event record's 16 bytes (R391). -/
def EvRec.bytes (e : EvRec) : List Byte := leBytes 2 e.code ++ leBytes 2 e.source ++ leBytes 4 e.seq ++ leBytes 8 e.data
/-- EVENT_READ: up to three records leave the queue of port 0. -/
def execEventRead (h : CmdHdr) (s : State) : Host.Outcome State Fault Refusal :=
  .next (s.submit h 0x0107 .i [] fun s =>
    let l := (mget (fun _ => []) s.mail.evq 0).take 3
    let s := s.updMail fun m => { m with evq := mupd (fun _ => []) m.evq 0 (·.drop 3) }
    s.replyData h (fit 0 4 (leBytes 1 l.length) ++ (l.map EvRec.bytes).flatten))
def execEventCfg (h : CmdHdr) (mask : Nat) (s : State) : Host.Outcome State Fault Refusal :=
  .next (s.submit h 0x0108 .i (argBytes [(6, 4, mask)]) fun s => (s.setF Fld.MB_EVT_MASK_MASK h.port mask).reply h 0)

/-! ### Raw register commands -/

/-- Data of a command that met a bus error: byte 4 the index of the failing access, byte 5 its cause (R394). -/
def failData (index cause : Nat) : List Byte := leBytes 1 index ++ leBytes 1 cause
/-- CSR_READ of n registers from an offset, in ascending order. -/
def State.csrReadRun (s : State) (h : CmdHdr) (off : Nat) : Nat → Nat → List Byte → State
  | 0, _, acc => s.replyData h acc
  | n + 1, k, acc =>
    match s.csrGet (off + 4 * k) with
    | (.inl c, s) => s.respond h.ref 7 (failData k c)
    | (.inr w, s) => s.csrReadRun h off n (k + 1) (acc ++ leBytes 4 w.toNat)
def execCsrRead (h : CmdHdr) (off n : Nat) (s : State) : Host.Outcome State Fault Refusal :=
  .next (s.submit h 0x0103 .i (argBytes [(6, 4, off), (10, 1, n)]) fun s =>
    s.checks h [(off % 4 ≠ 0, 3), (n = 0 ∨ 15 < n, 3)] fun s => s.csrReadRun h off n 0 [])
/-- CSR_WRITE of values from an offset on, in ascending order. -/
def State.csrWriteRun (s : State) (h : CmdHdr) (off : Nat) : List Nat → Nat → State
  | [], _ => s.reply h 0
  | v :: t, k =>
    match s.csrPut (off + 4 * k) v with
    | (some c, s) => s.respond h.ref 7 (failData k c)
    | (none, s) => s.csrWriteRun h off t (k + 1)
/-- Whether n registers from an offset touch the MB block (R388). -/
def touchesMb (off n : Nat) : Bool := off < 0x40000 && 0x30000 < off + 4 * n
def execCsrWrite (h : CmdHdr) (off : Nat) (vals : List Nat) (s : State) : Host.Outcome State Fault Refusal :=
  .next (s.submit h 0x0104 .i
    (argBytes ([(6, 4, off), (10, 1, vals.length)] ++ vals.zipIdx.map fun (x : Nat × Nat) => (12 + 4 * x.2, 4, x.1)))
    (deny := h.port != 0 && touchesMb off vals.length)
    fun s => s.checks h [(vals.length = 0 ∨ 13 < vals.length, 3)] fun s => s.csrWriteRun h off vals 0)

/-! ### Raw memory commands -/

/-- What a command that reads or writes memory keeps while it is in progress (InProg.args): corridor tag, address, length,
bytes done, BUSY answers met, poison by words touched, words of the present block still to write, an argument of the command
that its end needs, and the bytes read or to write. -/
structure MemOp where
  tag : Nat := 0
  addr : Nat
  len : Nat
  off : Nat := 0
  tries : Nat := 0
  poison : Nat := 0
  todo : Nat := 0
  info : Nat := 0
  bytes : List Byte
def MemOp.args (m : MemOp) : List Nat :=
  [m.tag, m.addr, m.len, m.off, m.tries, m.poison, m.todo, m.info] ++ m.bytes.map BitVec.toNat
def memOfArgs (l : List Nat) : MemOp :=
  { tag := nth l 0, addr := nth l 1, len := nth l 2, off := nth l 3, tries := nth l 4, poison := nth l 5, todo := nth l 6,
    info := nth l 7, bytes := (l.drop 8).map (BitVec.ofNat 8) }
/-- Bytes of the present piece: up to the end of its 256-byte block. -/
def MemOp.piece (m : MemOp) : Nat := min (m.len - m.off) (256 - (m.addr + m.off) % 256)
/-- Index of the 32-byte word that holds an address, among the words touched. -/
def MemOp.wordIdx (m : MemOp) (a : Nat) : Nat := a / 32 - m.addr / 32
/-- Poison bits of a block's words, as bits of the words touched. -/
def MemOp.marks (m : MemOp) (mask : Nat) : Nat :=
  let base := (m.addr + m.off) / 256 * 8
  (List.range 8).foldl (fun p j => if bit mask j = 1 ∧ m.addr / 32 ≤ base + j then Nat.lor p (2 ^ (base + j - m.addr / 32)) else p) 0

def State.setArgs (s : State) (r : CmdRef) (l : List Nat) : State :=
  s.updMail fun m => { m with inprog := m.inprog.map fun e =>
    if e.port == r.1 && e.node == r.2.1 && e.ep == r.2.2.1 && e.tag == r.2.2.2 then { e with args := l } else e }

/-- The packet of the present piece (R149). -/
def State.memPacket (s : State) (wr : Bool) (m : MemOp) : Packet :=
  mkReq s (if wr then 1 else 0) 546 m.tag (m.addr + m.off) (m.piece - 1) (if wr then slice m.bytes m.off m.piece else [])
/-- Send the present piece, or the first part of it that a BUSY answer left. -/
def State.memSend (s : State) (r : CmdRef) (wr : Bool) (m : MemOp) : State :=
  let m := { m with tag := s.mpTag }
  let p := s.memPacket wr m
  let p := match writeParts p m.todo with | q :: _ => q | [] => p
  (s.setArgs r m.args).request 546 p

/-- Perform the pieces in order: those of scratch and CSR space at once, the others as corridor requests of endpoint 546
(R13, R98, R160). A CSR access is one aligned register (R5). Answers the operation when every piece is done. -/
def State.memGo (s : State) (r : CmdRef) (wr : Bool) : Nat → MemOp → State × Option MemOp
  | 0, _ => (s, none)
  | fuel + 1, m =>
    if m.len ≤ m.off then (s, some m)
    else
      let a := m.addr + m.off
      let loc := a % 2 ^ 48
      let fail (s : State) (c : Nat) : State × Option MemOp := (s.respond r 7 (failData (m.wordIdx a) c), none)
      let next (s : State) (d : List Byte) (poison : Nat) : State × Option MemOp :=
        s.memGo r wr fuel { m with off := m.off + m.piece, bytes := if wr then m.bytes else m.bytes ++ d, poison := Nat.lor m.poison (m.marks poison) }
      if 2 ^ 58 ≤ a then fail (s.busError 1 s.node 546 loc) 1
      else if a / 2 ^ 48 ≠ s.node then (s.memSend r wr m, none)
      else match decodeAddr loc with
        | .scratch =>
          if wr then next (s.writeSpanAs loc (slice m.bytes m.off m.piece) 0 .mp).2 [] 0
          else let (d, p, s) := s.readSpan loc m.piece .mp; next s d p
        | .csr off =>
          if m.len ≠ 4 ∨ off % 4 ≠ 0 then fail (s.busError 2 s.node 546 loc) 2
          else if wr then
            match s.csrPut off (leNat m.bytes) with
            | (some c, s) => fail s c
            | (none, s) => next s [] 0
          else match s.csrGet off with
            | (.inl c, s) => fail s c
            | (.inr w, s) => next s (leBytes 4 w.toNat) 0
        | _ => (s.memSend r wr m, none)
/-- Steps that the pieces of an operation take at most. -/
def MemOp.fuel (m : MemOp) : Nat := m.len / 256 + 3

/-- The read of the block that a doorbell names stands among the commands in progress under this number, and under a tag that no
command has (R387). -/
def opBell : Nat := 0x10000
def bellRef (node e : Nat) : CmdRef := (18, node, e, 0x10000)
/-- Commands that write memory, and those that read it, among them the read of a doorbell's block. -/
def memWriters : List Nat := [0x0106, 0x0C02, 0x0C03, 0x0204, 0x0E0A]
def memReaders : List Nat := [0x0105, 0x0E03, 0x0E05, 0x0E07, 0x0C04, 0x0C05, 0x0D04, opBell]
def memUser (op : Nat) : Bool := memWriters.contains op || memReaders.contains op

/-- The end of a MEM_READ, which returns poisoned data with POISONED (R127). -/
def State.memReadEnd (s : State) (r : CmdRef) (m : MemOp) : State :=
  s.respond r (if m.poison = 0 then 0 else 0xB) (fit 0 4 (leBytes 1 m.poison) ++ m.bytes)
/-- The end of a command that writes memory: one that names a destination answers how many bytes it wrote. -/
def State.memWriteEnd (s : State) (r : CmdRef) (m : MemOp) : State :=
  let data := match s.inprogOf r with | some e => if e.opcode = 0x0106 then [] else leBytes 4 m.len | none => []
  s.respond r 0 data
/-- Write bytes from an address on for a command (R13). -/
def State.memPut (s : State) (r : CmdRef) (m : MemOp) : State :=
  let (s, e) := s.memGo r true m.fuel m
  match e with | some m => s.memWriteEnd r m | none => s

def execMemRead (h : CmdHdr) (addr n : Nat) (s : State) : Host.Outcome State Fault Refusal :=
  .next (s.submit h 0x0105 .i (argBytes [(6, 8, addr), (14, 1, n)]) fun s =>
    s.checks h [(n = 0 ∨ 56 < n, 3)] fun s => 
      let (s, e) := s.memGo h.ref false 8 { addr := addr, len := n, bytes := [] }
      match e with | some m => s.memReadEnd h.ref m | none => s)
/-- MEM_WRITE; its level is B when the range lies in the staging area (R390), except where the boot ROM answers status commands
only (Table 16-3, R408). -/
def execMemWrite (h : CmdHdr) (addr : Nat) (bytes : List Byte) (s : State) : Host.Outcome State Fault Refusal :=
  let local' := addr / 2 ^ 48 = s.node ∧ inStaging (addr % 2 ^ 48) bytes.length
  let scrapped := s.fuses.lc = 4 ∨ s.fuses.ue
  .next (s.submit h 0x0106 (if local' ∧ ¬ scrapped then .b else .i) (argBytes [(6, 8, addr), (14, 1, bytes.length)] ++ [0] ++ bytes) fun s =>
    s.checks h [(bytes.length = 0 ∨ 48 < bytes.length, 3)] fun s =>
      (s.uncommitted h.ref).memPut h.ref { addr := addr, len := bytes.length, bytes := bytes })

/-- Write bytes to the destination that a command names, and answer how many (R390). -/
def State.writeOut (s : State) (h : CmdHdr) (dest : Nat) (d : List Byte) : State :=
  s.checks h [(!s.rangeOk dest d.length, 3)] fun s =>
    s.drawn.memPut h.ref { addr := dest % 2 ^ 48 + 2 ^ 48 * s.node, len := d.length, bytes := d }
def execBooksRead (h : CmdHdr) (dest : Nat) (s : State) : Host.Outcome State Fault Refusal :=
  .next (s.submit h 0x0204 .s (argBytes [(6, 8, dest)]) fun s => s.writeOut h dest s.booksImage)

/-- The answer to the corridor request of a command that reads or writes memory: BUSY is reissued up to 16 times (R103), a
bus error gives its cause where this stack found it (what another node found, its response does not say: a free value, log
entry 30). Answers the operation when every piece is done. -/
def State.memAnswer (s : State) (e : InProg) (req p : Packet) : State × Option MemOp :=
  let r : CmdRef := (e.port, e.node, e.ep, e.tag)
  let wr := memWriters.contains e.opcode
  let m := memOfArgs e.args
  let idx := m.wordIdx req.dest
  if p.status = 1 then
    if 16 ≤ m.tries then (s.respond r 2 [], none)
    else
      let left := if !wr then 0 else if m.todo = 0 then p.poison else m.todo
      let some' := wr && (wordsOf req.addr req.len).any fun (w : Nat × Nat × Nat) => bit p.poison (w.1 % 256 / 32) == 0
      let s := if some' then s.committed r else s
      (s.memSend r wr { m with tries := m.tries + 1, todo := left }, none)
  else if p.status = 2 then
    let c := mget (fun _ => 0) s.mail.causes req.tag
    let s := s.updMail fun q => { q with causes := mput (fun _ => 0) q.causes req.tag 0 }
    if c = 0 then ((s.respond r 7 (failData idx ((Config.freeWord s.fresh).toNat % 256))).drawn, none)
    else (s.respond r 7 (failData idx (c - 1)), none)
  else if p.status = 3 then (s.respond r 7 (failData idx 0), none)
  else
    let s := if wr then s.committed r else s
    let left := (List.range 8).foldl (fun t j => if bit t j = 1 ∧ req.dest / 32 % 8 = j then t - 2 ^ j else t) m.todo
    if wr ∧ left ≠ 0 then (s.memSend r wr { m with todo := left }, none)
    else s.memGo r wr m.fuel { m with
      off := m.off + m.piece, todo := 0, bytes := if wr then m.bytes else m.bytes ++ p.payload,
      poison := if wr then m.poison else Nat.lor m.poison (m.marks p.poison) }

/-! ### Responses at the endpoints -/

/-- The command in progress whose request of endpoint 546 has a corridor tag. -/
def State.mpUser (s : State) (tag : Nat) : Option InProg :=
  s.mail.inprog.find? fun e => (e.opcode == 0x0502 || memUser e.opcode) && e.args.head? == some tag

/-- A request completes with LINK_LOST at its requester (R165, R164): a plane's slot, an engine's tag, a DISPATCH, the
crypto unit, a command. A posted write of the scheduler or the
management processor is made again (DESIGN CHOICE, log entry 151). -/
def State.requestLost (s : State) (ep plane tag : Nat) (req : Packet) : State :=
  if ep < 128 then
    match mget (fun _ => Slot.free) (s.plane ep plane).slots tag with
    | .waiting true => s.updPlane ep plane fun q => { q with slots := mput (fun _ => .free) q.slots tag .free }
    | .waiting false => s.updPlane ep plane fun q => { q with slots := mput (fun _ => .free) q.slots tag .linkLost }
    | _ => s
  else if 256 ≤ ep ∧ ep < 512 then
    let g := (s.eng (ep - 256)).tag tag
    if g.used then s.setTag (ep - 256) tag { g with status := 3, more := [] } else s
  else if 528 ≤ ep ∧ ep < 544 then s.rawLost (ep - 528) tag
  else if ep = 544 then
    (if req.type = 6 then s.dispatchAnswered req 2
    else if req.type = 1 then (s.setPosts 544 (req :: s.posts 544)).pumpPosts 544 else s)
  else if ep = 545 then s.homeAnswer req (answer s req 4 545 3 [] 0 false)
  else if ep = 546 ∧ plane = 1 then s.updSec fun q => { q with tap := { q.tap with busy := false } }
  else if ep = 546 then
    match s.mpUser tag with
    | some e =>
      if req.type = 8 then s
      else s.respond (e.port, e.node, e.ep, e.tag) 7 (failData (if e.opcode = 0x0502 then 0 else (memOfArgs e.args).wordIdx req.dest) 0)
    | none => if req.type = 1 then (s.setPosts 546 (req :: s.posts 546)).pumpPosts 546 else s
  else s
/-- RESPONSE_TIME_LIMIT; suspended from a foundation reset until RESUME and in the safe state (R165). -/
def State.responseLimit (s : State) (ep plane tag : Nat) : State :=
  match s.outReq (outKey ep plane tag) with
  | none => s
  | some r =>
    if r.expired || s.resuming || s.safe then s
    else
      let s := (s.setOut (outKey ep plane tag) (some { r with expired := true })).inc Fld.CO_TIMEOUT_COUNT_EXPIRED 0
      s.requestLost ep plane tag r.pkt
def execResponseTimeLimit (ep plane tag : Nat) (s : State) : Host.Outcome State Fault Refusal :=
  .next (s.responseLimit ep plane tag)
/-- EXPIRED_TAG_RELEASE: after a further period of the limit the tag may be used again (R165). -/
def execExpiredTagRelease (ep plane tag : Nat) (s : State) : Host.Outcome State Fault Refusal :=
  .next (match s.outReq (outKey ep plane tag) with
    | some r => if r.expired then s.setOut (outKey ep plane tag) none else s
    | none => s)

/-! ### Time limits of commands -/

/-- COMMAND_TIME_LIMIT: the limit that a command's argument gives has passed (R381 status TIMEOUT; Tables 08-8, 11-7,
12-9). An enumeration ends by leaving out the links not asked (R279). -/
def State.commandLimit (s : State) (r : CmdRef) : State :=
  match s.inprogOf r with
  | none => s
  | some e =>
    if e.opcode = 0x0508 then
      let s := s.updSched fun q => { q with drainCmds := q.drainCmds.erase r }
      (if s.sched.drainCmds.isEmpty then s.setF Fld.SC_STATUS_DRAINING 0 0 else s).respond r 8 []
    else if e.opcode = 0x0807 ∨ e.opcode = 0x0808 then s.enumDeadline
    else if e.opcode = 0x0702 ∨ e.opcode = 0x0704 ∨ e.opcode = 0x0802 ∨ e.opcode = 0x0804 ∨ e.opcode = 0x0806 then
      (s.each links32 fun s k => s.updLink k fun l => { l with cmd := l.cmd.filter fun c => c.2 != r }).respond r 8 []
    else s
def execCommandTimeLimit (port node ep tag : Nat) (s : State) : Host.Outcome State Fault Refusal :=
  .next (s.commandLimit (port, node, ep, tag))

end Sys2Proof.Machine
end

