-- ==== Sys2Proof/Machine/Foundation.lean ====
section
/-!
DEFINITION. Foundation reset and RESUME (R37, R67, R355, R361–R363): pending operations, token log, freeze, the domain held
and released, and what RESUME restores.
-/
namespace Sys2Proof.Machine

/-! ### Acceptance and the first 2 µs -/

/-- Everything that a foundation reset stops at once (Table 16-6, R65, R83, R370). -/
def State.stopWork (s : State) : State :=
  let s := s.each rooms128 State.abandonLoad
  let s := s.each rooms128 State.abandonWindow
  let s := s.each rooms128 State.cutSlice
  (s.each engines256 State.stopEngine).schedLoads
/-- Acceptance of FOUNDATION_RESET: RESUME_PENDING, audits suspended, a commit before its commit point ABORTED. -/
def State.resetAccepted (s : State) (cmd : Option CmdRef) : State :=
  let s := s.setF Fld.EP_STATUS_RESUME_PENDING 0 1
  let s := (s.setF Fld.EP_STATUS_AUDIT_SUSPENDED 0 1).wr .BT_FRESET 0 0
  let s := s.updBoot fun b => { b with frPhase := 1, frCmd := cmd }
  let s := if s.pastCommitPoint then s else s.failCommit 6
  s.stopWork.mowRefresh

/-- A row move that is still pending: a read returns poison, a write completes with BUSY (R67, R361). -/
def State.endRow (s : State) (n p : Nat) (r : RowReq) : State :=
  if r.write then
    ((s.dropWrite (bankRow r.bank r.row)).updPlane n p fun q => { q with rowDone := q.rowDone ++ [true] }).inc Fld.BT_FRESET_DROPPED 0
  else (s.rowPoison n p r).inc Fld.BT_FRESET_POISONED 0
def State.endRows (s : State) (n : Nat) : State :=
  let s := s.each (List.range 4) fun s p =>
    let l := (s.plane n p).rowQ
    (s.updPlane n p fun q => { q with rowQ := [] }).each l fun s r => s.endRow n p r
  let l := (s.room n).ramQ
  (s.updRoom n fun r => { r with ramQ := [] }).each l fun s p =>
    s.inc (if p.type = 1 then Fld.BT_FRESET_DROPPED else Fld.BT_FRESET_POISONED) 0
/-- Count a READ or WRITE of this stack's memory that ends without a response (R361 step 3). -/
def State.countLost (s : State) (p : Packet) : State :=
  let mine : Bool := match s.exitOf p with | some (e, _, _) => e < 512 || 544 ≤ e | none => false
  if !mine then s
  else if p.type = 0 then s.inc Fld.BT_FRESET_POISONED 0
  else if p.type = 1 then s.inc Fld.BT_FRESET_DROPPED 0 else s

/-- Records of a TOKEN packet that a mask chooses. -/
def maskRecs (p : Packet) (mask : Nat) : List TokRec :=
  ((List.range (tokCount p)).filter fun k => bit mask k == 1).map (recOf p)
/-- Token records in flight that a packet in the corridor stands for: those of a TOKEN packet to the scheduler, and those
that the scheduler's BUSY answer to a requester of this stack marks (R179, R180). -/
def State.flightRecs (s : State) (p : Packet) : List TokRec :=
  if p.type = 5 ∧ s.isFor 544 p then maskRecs p 15
  else if p.type = 4 ∧ p.status = 1 ∧ p.srcEp = 544 ∧ p.srcNode = s.node ∧ p.dstNode = s.node then
    match s.outReq (outKey p.dstEp p.dstPlane p.tag) with
    | some r => if r.pkt.type = 5 then maskRecs r.pkt p.poison else []
    | none => []
  else []
/-- Every token record that a foundation reset drops (R37): in the corridor, in the attachments, and reposts that have not
entered the corridor. -/
def State.lostTokens (s : State) : List TokRec :=
  let waiting := (s.net.send.map (·.2)).flatten
  ((s.net.bufs.map (·.2)).flatten.flatMap s.flightRecs) ++
  (s.sched.tokPkt.flatMap fun (e : Nat × Option (Packet × Nat × Nat)) => match e.2 with
    | some (p, k, mask) => maskRecs p mask ++ maskRecs p (16 - 2 ^ k)
    | none => []) ++
  (waiting.flatMap fun p => if p.type = 5 ∧ p.dstEp = 544 ∧ p.dstNode = s.node then maskRecs p (tokRepost p) else s.flightRecs p)
/-- Write token records to the log in the last 4,096 descriptors of the meadow, 4 to a descriptor (R177). How a record lies
in its descriptor is open, so the bytes are free values. -/
def State.logTokens (s : State) (l : List TokRec) : State :=
  if l.isEmpty then s
  else
    let n := s.sched.tokenLog.length
    let s := s.updSched fun q => { q with tokenLog := q.tokenLog ++ l, flight := q.flight - l.length }
    let s := s.setF Fld.EP_ESC_TOKENS_COUNT 0 s.sched.tokenLog.length
    s.each ((List.range ((l.length + 3) / 4)).map (s.taskP + n / 4 + ·)) fun s i => s.scramble (s.descAddr i) 64

/-- Corridor links of the stack: 576 between routers, and one in each direction at the 246 local ports in use (R141–R143),
with 36 entries each (R151). -/
def corridorCredits : Nat := (576 + 2 * 246) * 36
/-- FOUNDATION_RESET_PENDING_END (2 µs): pending operations complete, tokens are logged, credits go to escrow, packets in
the corridor are discarded. Requests stay outstanding at their requesters. -/
def State.endPending (s : State) : State :=
  let s := s.each (s.rooms.map (·.1)) State.endRows
  let s := s.each (s.net.bufs.map (·.2)).flatten State.countLost
  let s := s.each s.svc fun s (e : Nat × Option SvcReq) => match e.2 with | some r => s.countLost r.pkt | none => s
  let s := s.each s.crypto.reqs fun s (e : Nat × Option CrReq) => match e.2 with
    | some r => s.inc (if r.pkt.type = 1 then Fld.BT_FRESET_DROPPED else Fld.BT_FRESET_POISONED) 0
    | none => s
  let s := s.logTokens s.lostTokens
  let up := (links32.map fun k => if (s.link k).up then (s.link k).advDepth.sum + (s.link k).rxDepth.sum else 0).sum
  let s := s.setF Fld.EP_ESC_RESET_CREDITS 0 (corridorCredits + up)
  let s := { s with svc := [] }
  let s := s.each (s.banks.map (·.1)) fun s b => s.updBank b fun k => { k with q := [], loss := 0 }
  let s := s.updNet fun n => { n with bufs := [], send := [], books := [], arbs := [] }
  s.updCr fun c => { c with reqs := [], jobs := c.jobs.filter fun (e : Nat × Option CrJob) => match e.2 with
    | some j => 3 ≤ j.kind | none => false }

/-- FOUNDATION_RESET_FREEZE (2.5 µs): rooms FROZEN at their next edge, every bank in retention. -/
def State.freezeUnits (s : State) : State :=
  let s := s.each rooms128 fun s n => if s.roomState n = 0 then s.stopAtEdge n 2 else s
  s.each banks512 fun s b => s.retain b 3

/-! ### The domain held in reset -/

/-- RM registers that report what the rooms and the landing keep, and the rooms' settings (R355). -/
def rmKept : List Reg :=
  [.RM_PLANE, .RM_EFF_DIV, .RM_PSRC, .RM_IMAGE_ID_LO, .RM_IMAGE_ID_HI, .RM_PLANE_CFG, .RM_LOADCFG]
/-- What a foundation reset leaves of a word of the RM block (R355). -/
def rmKeeps (off : Nat) (w : Word) : Word :=
  match Reg.atOffset off with
  | some x =>
    if rmKept.contains x.1 then w
    else if x.1 = .RM_STATUS then Fld.RM_STATUS_NARROW.set (Fld.RM_STATUS_STATE.set (regDefault off) (Fld.RM_STATUS_STATE.get w))
      (Fld.RM_STATUS_NARROW.get w) else regDefault off
  | none => regDefault off
/-- The registers of the foundation blocks take their reset values, RM as R355 says; values staged for them, and for the
scheduler's tables, are lost (R9). -/
def State.resetBlocks (s : State) : State :=
  let old := s.regs
  let s := { s with latch := dropRegs s.latch 0x300000 0x800000 }
  let s := { s with regs := dropRegs old 0x300000 0x800000 }
  let s := { s with staged := dropStaged (dropStaged s.staged 0x300000 0x800000) (tplKey 0 0) (locKey 4096 0) }
  (old.filter fun e => 0x300000 ≤ e.1 && e.1 < 0x400000).foldl (fun s (e : Nat × Word) => s.setRaw e.1 (rmKeeps e.1 e.2)) s
/-- The scheduler's on-die state other than the group contexts, the flow-queue records and its books (R191, R354). -/
def State.resetSched (s : State) : State :=
  let l := s.sched.drainCmds
  let s := s.updSched fun q => { q with
    pipes := [], use := [], tokPkt := [], wantSwitch := [], loadsDone := [], drainCmds := [], tick := 0, mcache := [] }
  s.each l fun s r => s.respond r 6 []
/-- A link's reset: its state and keys are gone, what waits for it ends with FAULT, and it is DISABLED (Tables 11-4, 12-4). -/
def State.resetLink (s : State) (k : Nat) : State :=
  let s := s.endLinkCmds k (fun _ => true) 7 []
  let s := s.dropKeys k
  let s := { s with links := mput (fun _ => {}) s.links k {} }
  if isGroup k then (s.setF Fld.SL_STATUS_TXSTATE (k - 16) 3).setF Fld.SL_STATUS_RXSTATE (k - 16) 3 else s
/-- FOUNDATION_RESET_HOLD (3 µs): engines, scheduler, links and register blocks. Every room has had the edge at which it
stops. -/
def State.holdFoundation (s : State) : State :=
  let s := (s.each rooms128 State.edgeOver).schedLoads.updNet fun n => { n with send := [] }
  let s := s.each engines256 fun s e => (s.stopEngine e).updEng e fun g => { g with tags := [], cycles := 0 }
  let states := engines256.map s.engState
  let s := s.resetSched.resetBlocks
  let s := s.each engines256 fun s e => s.setF Fld.DE_STATE_STATE e (nth states e)
  s.each links32 State.resetLink

/-! ### RESUME -/

/-- Settings of some blocks from the settings image (R358, R362). -/
def State.fromImage (s : State) (lo hi : Nat) : State :=
  s.takeSet ((s.boot.settingsImage.filter fun e => lo ≤ e.1 && e.1 < hi).map fun e => (e.1, some e.2))
/-- A handover that the reset found pending completes; a wipe that it asks for is done now, in a bank that is awake (R109). -/
def State.endHandover (s : State) (b : Nat) : State :=
  match (s.bank b).op with
  | .handoverReady => s.completeHandover b
  | .handoverDrain | .handoverWipe =>
    if s.f Fld.LB_CTRL_WIPE_ON_HANDOVER b = 0 then s.completeHandover b
    else if s.retained b then s
    else
      let s := ((s.wipeBank b).setF Fld.LB_STATUS_WIPE_BUSY b 0).setF Fld.LB_NEXT_OWNER_WIPE b 0
      s.completeHandover b
  | _ => s.sliceEnded b
/-- The scheduler's settings take effect again: reservation, RUNNING, thermal cap. -/
def State.schedRestored (s : State) : State :=
  let on := s.f Fld.SC_CFG_ENABLE
  let n := if on = 1 then resBanks (s.f Fld.SC_SIZE_MEADOW_LOG2) (s.f Fld.SC_SIZE_MATCH_LOG2) (s.f Fld.SC_SIZE_FLOW_LOG2) else 0
  let s := (s.setF Fld.SC_RES_COUNT 0 n).setF Fld.SC_STATUS_RUNNING 0 on
  s.setF Fld.SC_RATE_THERM_CAP 0 (thermCap (s.f Fld.TH_STATUS_LEVEL))
/-- The logged tokens are posted again; one that the scheduler answers BUSY is sent again with its REPOST bit (R37, R179). A bad word of
the log is a books fault (R39). -/
def State.repostTokens (s : State) : State :=
  let l := s.sched.tokenLog
  if (List.range ((l.length + 3) / 4)).any fun k => s.descBad (s.taskP + k) then s.booksFault 9 0 0
  else
  let s := (s.updSched fun q => { q with tokenLog := [], flight := q.flight + l.length }).setF Fld.EP_ESC_TOKENS_COUNT 0 0
  s.each l fun s r =>
    let (busy, s) := s.handleRec r
    if busy then s.sendTokens (mkReq s 5 544 0 (epDest s.node 544) 27 (tokPayload [r] 1) (poisonBits [r])) else s
/-- Tasks of engines return to READY; the ready lists are built again (R37, R191). -/
def State.schedTasks (s : State) : State :=
  let s := s.each (s.sched.descs.filter fun (e : Nat × Desc) => e.2.state == 4 && 512 ≤ e.2.worker) fun s (e : Nat × Desc) =>
    s.returnTask e.1
  s.each (s.sched.flows.map (·.1)) State.listFlow
/-- Switches that tasks in service still need (R186). -/
def State.schedSwitches (s : State) : State :=
  s.each (s.sched.descs.filter fun (e : Nat × Desc) => e.2.state == 4 && e.2.worker < 512) fun s (e : Nat × Desc) =>
    let n := e.2.worker / 4
    let p := e.2.worker % 4
    if s.active n = some p ∨ (s.room n).preempted.contains p then s
    else s.wantPlane n p
/-- Every outstanding request completes with LINK_LOST at its requester (R67, R164). The crypto unit's work on pages and ranges goes
on: its requests are sent again; its other reads and writes are dropped (Table 13-6). -/
def State.settleRequests (s : State) : State :=
  let l := s.net.outReq
  (s.updNet fun n => { n with outReq := [] }).each l fun s (e : Nat × Option OutReq) =>
    match e.2 with
    | none => s
    | some r =>
      let ep := e.1 / 4096
      let tag := e.1 % 1024
      if r.expired then s
      else if ep = 545 then
        let mine := s.crypto.jobs.any fun (x : Nat × Option CrJob) => match x.2 with
          | some j => j.waiting.any fun w => w.1 == tag | none => false
        if mine then s.request 545 r.pkt else s
      else s.requestLost ep (e.1 / 1024 % 4) tag r.pkt
/-- A room runs again, its receive buffers empty, LINK_LOST set (R67). A room that supply shedding parked runs again when
the supply has recovered. -/
def State.roomBack (s : State) (n : Nat) : State :=
  let st := s.roomState n
  if 4 ≤ st then s
  else
    let s := s.updRoom n fun r => { r with
      planes := mmapv (fun _ => {}) (fun _ (p : Plane) => { p with rxReq := [], rxSched := [], rxMgmt := [] }) r.planes }
    let s := s.each (List.range 4) fun s p => s.updPlane n p fun q => { q with lostDue := true }
    let s := s.setF Fld.RM_STATUS_LINK_LOST n 1
    let shed : Bool := st = 1 && !(s.room n).parkedByCmd
    let runs : Bool := st = 2 || st = 3 || (shed && s.f Fld.PW_SHED_STATUS_LEVEL < 3)
    if runs then (s.setF Fld.RM_STATUS_STATE n 0).setDivisor n else s
/-- Units of the foundation start again: engines, links, mowing, under the shedding level in force (R341, R362). Banks that
shedding retains wake where the supply has recovered meanwhile (R113). -/
def State.restartUnits (s : State) : State :=
  let hot := if s.f Fld.TH_STATUS_LEVEL = 0 then 0 else 1
  let s := s.each engines256 fun s e =>
    let s := s.setF Fld.DE_STATE_THROTTLED e hot
    if s.engState e = 7 then s.setF Fld.DE_STATE_STATE e 1 else s
  let s := s.each links32 fun s k =>
    if s.linkEnabled k then s.bringUp k
    else if s.linkState k = downHeld k then s.setLinkState k 0 else s
  let s := if 5 ≤ s.f Fld.PW_SHED_STATUS_LEVEL then s
    else s.each banks512 fun s b => if s.retained b ∧ s.f Fld.LB_PWR_CAUSE b = 2 then s.askWake b else s
  s.mowRefresh.reShed.crWakeAll

/-- Whether every wake that RESUME asked for is over. -/
def State.wakesDone (s : State) : Bool :=
  banks512.all fun b => !(s.bank b).wakeWait && s.f Fld.LB_PWR_PSTATE b ≠ 3
/-- Steps 2 to 5 of RESUME. An audit that fails ends it with BOOKS_MISMATCH; a books fault in the tables with FAULT. -/
def State.resumeFinish (s : State) : State :=
  let c := s.boot.resumeCmd
  let s := s.updBoot fun b => { b with resumeCmd := none, frPhase := 0 }
  let s := (s.fromImage 0x400000 0x800000).schedRestored
  let s := s.each banks512 State.endHandover
  let s := s.repostTokens
  let s := s.schedTasks.settleRequests.schedSwitches
  let s := s.setF Fld.EP_ESC_RESET_CREDITS 0 0
  if s.safe then s.respondTo c 7 []
  else
    let (ok, s) := s.runAudit 3
    if !ok then s.respondTo c 0xA []
    else
      let s := (s.setF Fld.EP_STATUS_RESUME_PENDING 0 0).setF Fld.EP_STATUS_AUDIT_SUSPENDED 0 0
      ((s.each rooms128 State.roomBack).restartUnits).respondTo c 0 []
/-- Acceptance of RESUME: the wakes. Banks that shedding step 5 would hold stay retained, by shedding (R111, R341). -/
def State.resumeStart (s : State) (h : CmdHdr) : State :=
  let s := s.updBoot fun b => { b with frPhase := 5, resumeCmd := some h.ref }
  let shed : Bool := 5 ≤ s.f Fld.PW_SHED_STATUS_LEVEL
  let s := s.each banks512 fun s b =>
    if !s.retained b ∨ s.f Fld.LB_PWR_CAUSE b = 1 then s
    else if shed && s.shedBank b then s.setF Fld.LB_PWR_CAUSE b 2
    else s.askWake b
  if s.wakesDone then s.resumeFinish else s
/-- WAKE_COMPLETE: the end of a bank's 2.0 µs wake (R113). -/
def State.wakeComplete (s : State) (b : Nat) : State :=
  if s.f Fld.LB_PWR_PSTATE b ≠ 3 then s
  else
    let s := (s.setF Fld.LB_PWR_PSTATE b 0).setF Fld.LB_PWR_CAUSE b 0
    let l := (s.bank b).wakeCmd
    let s := (s.updBank b fun k => { k with wakeCmd := [] }).each l fun s r => s.respond r 0 []
    let s := s.drainCheck b
    if s.boot.frPhase = 5 ∧ s.wakesDone then s.resumeFinish else s

/-! ### Meanings -/

/-- FOUNDATION_RESET: level R; its commit point is acceptance, its response comes at release. -/
def execFoundationReset (h : CmdHdr) (s : State) : Host.Outcome State Fault Refusal :=
  .next (s.submit h 0x0B01 .r [] fun s => s.resetAccepted (some h.ref))
def execFoundationResetPendingEnd (s : State) : Host.Outcome State Fault Refusal :=
  .next (if s.boot.frPhase = 1 then s.endPending.updBoot fun b => { b with frPhase := 2 } else s)
def execFoundationResetFreeze (s : State) : Host.Outcome State Fault Refusal :=
  .next (if s.boot.frPhase = 2 then s.freezeUnits.updBoot fun b => { b with frPhase := 3 } else s)
def execFoundationResetHold (s : State) : Host.Outcome State Fault Refusal :=
  .next (if s.boot.frPhase = 3 then s.holdFoundation.updBoot fun b => { b with frPhase := 4 } else s)
/-- FOUNDATION_RESET_RELEASE (13 µs). -/
def execFoundationResetRelease (s : State) : Host.Outcome State Fault Refusal :=
  .next (if s.boot.frPhase = 4 then
      let c := s.boot.frCmd
      (s.updBoot fun b => { b with frPhase := 0, frCmd := none }).respondTo c 0 []
    else s)
/-- RESUME: BUSY while FOUNDATION_RESET or another RESUME runs, NOT_READY without a pending reset and in the safe state
(R362). -/
def execResume (h : CmdHdr) (s : State) : Host.Outcome State Fault Refusal :=
  .next (s.submit h 0x0B02 .s [] fun s =>
    s.checks h [(!s.resuming || s.safe, 5), (s.boot.frPhase ≠ 0, 2)] fun s => s.resumeStart h)
/-- STACK_RESET: OK, then a stack reset 10 µs later (R375). -/
def execStackReset (h : CmdHdr) (s : State) : Host.Outcome State Fault Refusal :=
  .next (s.submit h 0x0B04 .i [] fun s => (s.updBoot fun b => { b with delayedReset := some 2 }).reply h 0)
def execDelayedStackReset (s : State) : Host.Outcome State Fault Refusal :=
  .next (match s.boot.delayedReset with | some cause => s.restart cause | none => s)

end Sys2Proof.Machine
end

