-- ==== Sys2Proof/Machine/SelfTest.lean ====
section
/-!
DEFINITION. Self-test on demand and in the background (R367–R370, R372, R375): SELFTEST_RUN, SELFTEST_RESULT and the slices.
-/
namespace Sys2Proof.Machine

/-! ### On demand -/

/-- Units of a kind of BT_RES_WHERE. -/
def kindUnits (kind : Nat) : Nat :=
  nth [0, 512, 512, 128, 128, 128, 256, 144, 16, 16, 1, 1, 1, 1] kind
/-- Whether a block is out of service (R372). The parts that serve the whole stack never are. -/
def State.outOfService (s : State) (kind unit : Nat) : Bool :=
  if kind = 1 then s.owner unit == { kind := 5, id := 0 }
  else if kind = 2 then !s.gateOpen 0 (unit / 4)
  else if kind = 3 ∨ kind = 4 then !s.gateOpen 0 unit
  else if kind = 6 then !s.gateOpen 1 (unit / 16)
  else if kind = 8 then !s.linkEnabled unit
  else if kind = 9 then !s.linkEnabled (16 + unit)
  else if kind = 0xA then !s.gateOpen 4 0
  else if kind = 0xB then !s.gateOpen 4 1
  else false
/-- Mark failed blocks fallow in service: FAULT_N stays as it is, and start-up, which has ended, is not stopped. When nothing is
left for the data tier, its service cannot go on: the safe state, with the cause of a failed block (R17, R30; DEDUCED, log entry
139). -/
def State.fallowNow (s : State) : State :=
  let pin := s.boot.faultN
  let stop := s.boot.stopped
  let s := s.markFallow.updBoot fun b => { b with faultN := pin, stopped := stop }
  if s.ready ∧ s.f Fld.HK_STATUS_TIER = 0 then s.enterSafe 5 else s
/-- SELFTEST_RUN: what the test of one block found is its operand. Memory contents are kept (log entry 31). -/
def execSelftestRun (h : CmdHdr) (kind unit : Nat) (found : List TestFail) (s : State) : Host.Outcome State Fault Refusal :=
  .next (s.submit h 0x0B05 .r (argBytes [(6, 1, kind), (8, 2, unit)]) fun s =>
    s.checks h [(kindUnits kind ≤ unit, 3), (!s.outOfService kind unit, 4)] fun s =>
      let l := found.filter fun t => t.kind == kind && t.unit == unit
      let s := (s.each l fun s t => s.testFailure 2 false t).fallowNow
      s.replyData h (leBytes 2 l.length))
/-- SELFTEST_RESULT: up to four records leave the log. -/
def execSelftestResult (h : CmdHdr) (s : State) : Host.Outcome State Fault Refusal :=
  .next (s.submit h 0x0B06 .s [] fun s =>
    let l := s.boot.records.take 4
    (s.popRecords l.length).replyData h
      (fit 0 4 (leBytes 1 l.length) ++ (l.map fun (e : LogEntry) => regData [e.w0, e.w1, e.w2]).flatten))

/-! ### Background slices -/

/-- Whether a slice may test bank b now (R367). -/
def State.sliceFits (s : State) (b : Nat) : Bool :=
  !s.fallowBank b && s.f Fld.LB_PWR_PSTATE b = 0 && !s.inCtm b && s.f Fld.LB_STATUS_WIPE_BUSY b = 0 &&
    (s.bank b).copy.isEmpty && !(s.bank b).ctmWait && (s.bank b).op ≠ .wipeDrain
/-- BACKGROUND_SLICE: the next segment of the next bank of the stair that can be tested (R367). -/
def State.sliceStart (s : State) (n : Nat) : State :=
  let t := s.stair n
  if s.f Fld.BT_BG_CFG_ENABLE = 0 ∨ !s.ready ∨ s.safe ∨ s.resuming ∨ s.f Fld.PW_SHED_STATUS_LEVEL ≠ 0 ∨ s.rpState = 4 ∨
      t.slice.isSome ∨ t.win.isSome ∨ 128 ≤ n then s
  else
    match ((List.range 4).map fun j => (t.sliceBank + j) % 4).find? fun k => s.sliceFits (128 * k + n) with
    | none => s
    | some k =>
      let s := s.updStair n fun t => { t with
        slice := some { bank := 128 * k + n, seg := nth t.slicesDone k % 64, phase := 1 }, sliceBank := (k + 1) % 4 }
      let m := s.f Fld.BT_SLICE_MAP_MAP (n / 32)
      (s.setF Fld.BT_SLICE_MAP_MAP (n / 32) (Nat.lor m (2 ^ (n % 32)))).setF Fld.BT_STATUS_BG_RUNNING 0 1
/-- Apply f to the slice of a stair when it is in a phase and the stair has no repair window (Table 16-9). -/
def State.inSlice (s : State) (n phase : Nat) (f : Slice → State) : State :=
  match (s.stair n).slice with
  | some sl => if sl.phase = phase ∧ (s.stair n).win.isNone then f sl else s
  | none => s
def State.setSlice (s : State) (n : Nat) (sl : Slice) : State := s.updStair n fun t => { t with slice := some sl }
/-- What the crossing of row k of a slice's rows found. -/
def rowFindings (l : List (Nat × List Crossing)) (k : Nat) : List Crossing :=
  (l.filter fun (e : Nat × List Crossing) => e.1 == k).flatMap (·.2)
/-- The words of a slice's row that the crossing of the stair poisons: all of them when a control group does (R458). -/
def sliceUe (c : List Crossing) : Nat := if planeHit c then 2 ^ 32 - 1 else rowDataUe c
/-- The 128 rows of a slice are carried by the stair, with what was found on their way (R78). -/
def State.carryRows (s : State) (n : Nat) (l : List (Nat × List Crossing)) : State :=
  s.each (List.range 128) fun s k => s.carry n (rowFindings l k)
/-- SLICE_SAVE_DONE: the 128 rows lie in the shadow buffer as the decoder at the stair's end delivered them (R123, R368); poisoned
words, and words that the crossing poisoned, lie there as poison (R125, R458). -/
def State.sliceSaved (s : State) (n : Nat) (l : List (Nat × List Crossing)) : State :=
  s.inSlice n 1 fun sl =>
    let s := s.each (List.range 128) fun s k =>
      let src := bankRow sl.bank (128 * sl.seg + k)
      let dst := shadowBuf n k
      let (d, m, s) := s.rowRead src
      let ue := Nat.lor m (sliceUe (rowFindings l k))
      (s.putBytes dst d).each (List.range 32) fun s w => s.setSyn (dst + 32 * w) (if bit ue w = 1 then poisonSyn else 0)
    (s.setSlice n { sl with phase := if sl.expired then 3 else 2 }).carryRows n l
/-- A column that a slice found (R369, R30): repaired through its latch, with a copy pass after the restore; else the safe
state follows the restore. -/
def State.sliceFailure (s : State) (n : Nat) (t : TestFail) : State :=
  match (s.stair n).slice with
  | none => s
  | some sl =>
    match s.freeSpare t.unit t.bit with
    | some k => ((s.assignSpare t.unit k t.bit).recordTest t 0 1).setSlice n { sl with spares := sl.spares ++ [k] }
    | none => (s.recordTest t 2 1).setSlice n { sl with fail := sl.fail ++ [t] }
/-- SLICE_MARCH_DONE: what the march found in the segment's bank. -/
def State.sliceMarched (s : State) (n : Nat) (found : List TestFail) : State :=
  s.inSlice n 2 fun sl =>
    (s.setSlice n { sl with phase := 3 }).each (found.filter fun t => t.kind == 1 && t.unit == sl.bank) fun s t => s.sliceFailure n t
/-- Rows that a slice restores with errors of the crossing: a row that a control group poisons is dropped and logged, and
holds what the march left, a free value; a word that the word code cannot correct is stored as poison (R78, R458). -/
def State.restoreHits (s : State) (sl : Slice) (l : List (Nat × List Crossing)) : State :=
  s.each (List.range 128) fun s k =>
    let a := bankRow sl.bank (128 * sl.seg + k)
    let c := rowFindings l k
    if planeHit c then (s.dropWrite a).scramble a 1024
    else s.each ((List.range 32).filter fun w => bit (rowDataUe c) w == 1) fun s w => s.storePoison (a + 32 * w) 1
/-- SLICE_RESTORE_DONE: the rows are back; the round counts when every bank has been passed (R367–R369). A slice whose march was
abandoned does not count. -/
def State.sliceRestored (s : State) (n : Nat) (l : List (Nat × List Crossing)) : State :=
  s.inSlice n 3 fun sl =>
    let k := sl.bank / 128
    let s := (((s.endSlice n).restoreHits sl l).carryRows n l).updStair n fun t =>
      { t with slicesDone := if sl.expired then t.slicesDone else setNth t.slicesDone k (nth t.slicesDone k + 1) }
    let passes := (banks512.filter fun b => !s.fallowBank b).map fun b => nth (s.stair (b % 128)).slicesDone (b / 128) / 64
    let s := s.setF Fld.BT_BG_STATUS_ROUNDS 0 (passes.foldl min (passes.headD 0))
    let s := s.sliceEnded sl.bank
    if sl.fail.isEmpty then s else s.enterSafe 5

def execBackgroundSlice (stair : Nat) (s : State) : Host.Outcome State Fault Refusal := .next (s.sliceStart stair)
def execSliceSaveDone (rows : SliceRows) (s : State) : Host.Outcome State Fault Refusal :=
  .next (s.sliceSaved rows.stair rows.crossing)
def execSliceMarchDone (stair : Nat) (found : List TestFail) (s : State) : Host.Outcome State Fault Refusal :=
  .next (s.sliceMarched stair found)
def execSliceRestoreDone (rows : SliceRows) (s : State) : Host.Outcome State Fault Refusal :=
  .next (s.sliceRestored rows.stair rows.crossing)
/-- SLICE_BUDGET_EXPIRY: the march is abandoned and the restore runs (R368), after a repair window that is open (Table 04-4). -/
def execSliceBudgetExpiry (stair : Nat) (s : State) : Host.Outcome State Fault Refusal := .next (s.abandonMarch stair)

end Sys2Proof.Machine
end

