-- ==== Sys2Proof/Machine/Profile.lean ====
section
/-!
DEFINITION. Step 10 of start-up (R357, R358, R401): the profile is verified, what names fallow resources is removed, settings
are staged, the ownership map, unit gates and context stores take effect, and plane 0 of every room is loaded.
-/
namespace Sys2Proof.Machine

/-! ### Settings -/

/-- Write one setting (R7): RW fields at once, RWE fields staged. -/
def State.settingWrite (s : State) (off v : Nat) : State :=
  match Reg.atOffset off with
  | some (r, i) => if r = .MB_PERM ∧ i = 0 then s else s.plainWrite r i v
  | none => s
def State.offUnit (s : State) (kind unit : Nat) : Bool := s.boot.fallow.contains (kind, unit)
def State.dropped (s : State) (n : Nat) : State := s.inc Fld.BT_BOOT_DROPPED 0 n
/-- Whether a gate's unit is fallow: kinds of UNIT_GATE. -/
def State.fallowGate (s : State) (kind idx : Nat) : Bool :=
  if kind = 0 then s.offUnit 3 idx
  else if kind = 1 then (List.range 16).all fun j => s.offUnit 6 (16 * idx + j)
  else if kind = 2 then s.offUnit 8 idx
  else if kind = 3 then s.offUnit 9 idx
  else (idx = 0 && s.offUnit 0xA 0) || (idx = 1 && s.offUnit 0xB 0)
/-- Open or close the gates that a setting of a CK_GATE_ register names, without those of fallow units, which are removed and
counted one by one (R330, R358); the 64 cycles of each opening pass within the step. -/
def State.settingGates (s : State) (l : List (Nat × Nat × Nat)) (v : Nat) : State :=
  s.each l fun s (x : Nat × Nat × Nat) =>
    if bit v x.1 = 1 ∧ s.fallowGate x.2.1 x.2.2 then s.dropped 1
    else if bit v x.1 = 1 then ((s.gateAsk x.2.1 x.2.2 true).2).gateOpened x.2.1 x.2.2
    else (s.gateAsk x.2.1 x.2.2 false).2
/-- An entry of the ownership map: bank and LB_OWNER value; one of a fallow bank or a fallow owner is removed (R358). -/
def State.settingOwner (s : State) (b v : Nat) : State :=
  if s.fallowBank b || s.fallowOwner (bits v 15 12) (bits v 11 0) then s.dropped 1
  else (s.setF Fld.LB_OWNER_KIND b (bits v 15 12)).setF Fld.LB_OWNER_ID b (bits v 11 0)
/-- One setting of a profile or of the journal, without what names a fallow resource (R358). -/
def State.applySetting (s : State) (off v : Nat) : State :=
  match Reg.atOffset off with
  | some (.LB_OWNER, b) => s.settingOwner b v
  | some (.CK_GATE_ROOM, i) => s.settingGates ((List.range 32).map fun j => (j, 0, 32 * i + j)) v
  | some (.CK_GATE_DSP, _) => s.settingGates ((List.range 16).map fun j => (j, 1, j)) v
  | some (.CK_GATE_LINK, _) => s.settingGates ((List.range 32).map fun j => (j, if j < 16 then 2 else 3, j % 16)) v
  | some (.CK_GATE_UNIT, _) => s.settingGates ((List.range 3).map fun j => (j, 4, j)) v
  | _ => s.settingWrite off v
/-- The word that a journal setting starts from: the staged one, or the one in effect (R401). -/
def State.settingAt (s : State) (off : Nat) : Nat :=
  match Reg.atOffset off with
  | some (r, i) =>
    let k := s.stageKey r i
    (((s.raw k &&& ~~~ keyMask k) ||| (((s.stagedAt k).getD (s.raw k)) &&& keyMask k))).toNat
  | none => 0
/-- Merge the journal's settings over the profile's (R401). -/
def State.journalSettings (s : State) : State :=
  s.each s.journal.settings fun s (e : Nat × Nat × Nat) =>
    let v := BitVec.ofNat 32 e.2.1
    let m := BitVec.ofNat 32 e.2.2
    s.applySetting e.1 ((BitVec.ofNat 32 (s.settingAt e.1) &&& ~~~m) ||| (v &&& m)).toNat

/-! ### Fallow workers and locations (R358) -/

/-- Remove worker enables of fallow rooms and engines from the staged maps. -/
def State.dropWorkers (s : State) : State :=
  let one (s : State) (key : Nat) (off : Nat → Bool) : State :=
    match mget (fun _ => none) s.staged key with
    | none => s
    | some w =>
      let bad := (List.range 32).filter fun j => bit w.toNat j == 1 && off j
      if bad.isEmpty then s
      else (s.dropped bad.length).stage key (BitVec.ofNat 32 (bad.foldl (fun v j => v - 2 ^ j) w.toNat))
  let s := s.each (List.range 16) fun s k => one s (Reg.SC_WMAP.addr k) fun j => s.offUnit 3 ((32 * k + j) / 4)
  s.each (List.range 8) fun s k => one s (Reg.SC_EMAP.addr k) fun j => s.offUnit 6 (32 * k + j)
/-- Remove location entries that name a fallow room or a location in a fallow bank. -/
def State.dropLocations (s : State) : State :=
  s.each (List.range 4096) fun s l =>
    match mget (fun _ => none) s.staged (locKey l 0), mget (fun _ => none) s.staged (locKey l 1) with
    | some c, some w =>
      let n := Fld.SC_LOC_DATA_ROOM.get w
      if Fld.SC_LOC_CTRL_VALID.get c = 1 ∧ (s.offUnit 3 n ∨ s.fallowBank (128 * Fld.SC_LOC_DATA_LOFT.get w + n)) then
        (s.dropped 1).stage (locKey l 0) (Fld.SC_LOC_CTRL_VALID.set c 0)
      else s
    | _, _ => s
/-- One setting of a profile; CO_NODE, read only by other means, is set by it at once (Table 07-11). -/
def State.profileWrite (s : State) (x : Nat × Nat) : State :=
  if x.1 = Reg.CO_NODE.addr 0 then s.wr .CO_NODE 0 (BitVec.ofNat 32 x.2 &&& Reg.accMask .CO_NODE .ro) else s.applySetting x.1 x.2
/-- Stage a profile with the journal's settings, without what names a fallow resource; apply the ownership map. -/
def State.stageProfile (s : State) (c : ProfileContent) : State :=
  let s := s.each c.settings State.profileWrite
  let s := s.journalSettings.dropWorkers.dropLocations
  s.each c.owners fun s x => s.settingOwner x.1 x.2

/-! ### Step 10 -/

/-- Open the gates that a profile names; the 64 cycles of each pass within the step. -/
def State.profileGates (s : State) (c : ProfileContent) : State :=
  s.each c.gates fun s g =>
    if s.fallowGate g.1 g.2 then s.dropped 1
    else ((s.gateAsk g.1 g.2 true).2).gateOpened g.1 g.2
/-- Write the context stores, except in fallow banks: posted writes of the management processor (R13). -/
def State.profileStores (s : State) (c : ProfileContent) : State :=
  s.each c.stores fun s x => if s.fallowBank (x.1 / 0x800000) then s else s.postSpan 546 x.1 x.2
/-- Loads of a profile in rooms that are not fallow: plane 0, and the others, which follow after READY. -/
def State.profileLoads (s : State) (c : ProfileContent) (first : Bool) : List (Nat × Nat) :=
  c.planes.filter fun x => x.1 < 128 && !s.offUnit 3 x.1 && ((bits x.2 27 26 == 0) == first)
def State.startLoads (s : State) (l : List (Nat × Nat)) : State :=
  s.each l fun s x => (s.askLoad x.1 .mp x.2 none none none).2
/-- The loads of plane 0 start when the stores are written. -/
def State.startWaiting (s : State) : State :=
  if !(s.posts 546).isEmpty ∨ !(s.posted 546).isEmpty then s
  else
    let l := s.boot.loads
    (s.updBoot fun b => { b with loads := [] }).startLoads l
/-- The stores of a profile, and then its loads of plane 0 (R357 step 10). -/
def State.storesThenLoads (s : State) (c : ProfileContent) : State :=
  let l := s.profileLoads c true
  ((s.profileStores c).updBoot fun b => { b with loads := l }).startWaiting
/-- The profile is rejected (R358): PROFILE_WAIT and its event. -/
def State.rejectProfile (s : State) (slot reason : Nat) : State :=
  let s := s.updBoot fun b => { b with pushed := none, selected := none }
  (s.setF Fld.BT_STATUS_PROFILE_WAIT 0 1).event 0x0003 slot reason
/-- PROFILE: the image is the one pushed, or that of the slot selected or given by the pins; what its body holds is the
operand. -/
def State.applyProfile (s : State) (c : ProfileContent) : State :=
  let asked := s.boot.pushed.isSome || s.boot.selected.isSome
  if s.boot.step ≠ 9 ∨ s.boot.stopped ∨ s.safe ∨ s.shutdown ∨ (s.f Fld.BT_STATUS_PROFILE_WAIT = 1 ∧ !asked) ∨ s.commit.isSome then s
  else
    let slot := s.boot.selected.getD s.boot.pins
    let src := if s.boot.pushed.isSome then 0xFF else slot
    let img := s.boot.pushed.getD (s.slotImage slot)
    if s.boot.pushed.isNone ∧ !s.slotValid slot then s.rejectProfile src 1
    else if !s.imageOk 2 img then s.rejectProfile src 2
    else
      let t := (s.setF Fld.BT_BOOT_DROPPED 0 0).stageProfile c
      if !t.validSet t.staged then (s.setF Fld.BT_BOOT_DROPPED 0 (t.f Fld.BT_BOOT_DROPPED)).rejectProfile src 3
      else
        let s := ((t.setF Fld.BT_STATUS_PROFILE_WAIT 0 0).profileGates c).storesThenLoads c
        let s := s.updBoot fun b => { b with
          profile := some c, profSlot := src, profHash := sha384 img, bgLoads := s.profileLoads c false, pushed := none, selected := none }
        s.writeImage.commitBegin 1 none
def execProfile (content : ProfileContent) (s : State) : Host.Outcome State Fault Refusal := .next (s.applyProfile content)

/-- COMMIT_FREEZE (Table 02-3): epoch 1 waits for the plane-0 loads, which end step 10 (R357), and so does the commit of an
origin sequence (R420). -/
def State.epochFreeze (s : State) : State :=
  match s.commit with
  | some c =>
    if (c.inner = 1 ∨ c.inner = 4) ∧ c.phase = 1 then
      if !s.boot.loads.isEmpty ∨ rooms128.any fun n => (s.room n).ld.isSome then s
      else (if c.inner = 1 then s.setStep 10 else s).commitFreeze
    else s.commitFreeze
  | none => s
def execCommitFreeze (s : State) : Host.Outcome State Fault Refusal := .next s.epochFreeze

end Sys2Proof.Machine
end

