-- ==== Sys2Proof/Machine/Recovery.lean ====
section
/-!
DEFINITION. RECOVER (R371, R132, R336, R360): the foundation reset it begins with, repairs and field fuses, self-test, wipes
and settings, its commit, and what follows the commit.
-/
namespace Sys2Proof.Machine

/-- Wake every bank that is not retained by command; banks that shedding step 5 holds stay retained (R111, R113). The waits
of the wakes pass within the origin sequence (R420). -/
def State.wakeAll (s : State) : State :=
  let shed : Bool := 5 ≤ s.f Fld.PW_SHED_STATUS_LEVEL
  s.each banks512 fun s b =>
    if !s.retained b ∨ s.f Fld.LB_PWR_CAUSE b = 1 then s
    else if shed && s.shedBank b then s.setF Fld.LB_PWR_CAUSE b 2
    else
      let s := ((s.setF Fld.LB_PWR_PSTATE b 0).setF Fld.LB_PWR_CAUSE b 0).updBank b fun k => { k with wakeWait := false }
      let l := (s.bank b).wakeCmd
      (s.updBank b fun k => { k with wakeCmd := [] }).each l fun s r => s.respond r 0 []
/-- The wakes that RECOVER asks for (R113): every bank that is not retained by command, but those that shedding step 5 holds (R111).
They take the 32 slots in turn. -/
def State.askWakes (s : State) : State :=
  let shed : Bool := 5 ≤ s.f Fld.PW_SHED_STATUS_LEVEL
  s.each banks512 fun s b =>
    if !s.retained b ∨ s.f Fld.LB_PWR_CAUSE b = 1 then s
    else if shed && s.shedBank b then s.setF Fld.LB_PWR_CAUSE b 2
    else s.askWake b
/-- Blow the field fuse entries of the journalled column repairs and end their records (R132). -/
def State.fieldFuses (s : State) : State :=
  let l := s.journal.repairs
  let s := s.each l fun s (r : Nat × Nat × Nat) =>
    (s.setSpare r.1 r.2.1 2 r.2.2).updFuses fun q =>
      { q with spares := q.spares ++ (if q.spares.any fun x => x.1 == r.1 && x.2.1 == r.2.1 then [] else [(r.1, r.2.1, r.2.2, 2)]) }
  if l.isEmpty then s else s.journalBatch (l.map fun r => (7, leBytes 2 r.1 ++ leBytes 1 r.2.1))
/-- A fallow unit that its retest passes serves again (R371 step 3): its registers, the map, the journal. -/
def State.restoreUnit (s : State) (u : Nat × Nat) : State :=
  let s := s.updBoot fun b => { b with fallow := b.fallow.filter (· != u) }
  let s := s.journalBatch [(8, leBytes 1 u.1 ++ leBytes 1 0 ++ leBytes 2 u.2 ++ leBytes 1 0)]
  match u with
  | (1, b) => ((s.setF Fld.LB_STATUS_FALLOW b 0).setF Fld.LB_OWNER_KIND b 5).setF Fld.LB_OWNER_ID b 0
  | (3, n) =>
    let s := (s.setF Fld.RM_STATUS_STATE n (if s.gateOpen 0 n then 3 else 4)).setF Fld.RM_PLANE_NONE n 1
    (s.each (List.range 4) fun s p => s.emptyPlane n p).setDivisor n
  | (5, n) => (s.updStair n fun t => { t with dead := [] }).setF Fld.ST_STATUS_STATE n (s.f Fld.ST_NARROW_ACTIVE n)
  | (6, e) => s.setF Fld.DE_STATE_STATE e (if s.gateOpen 1 (e / 16) then 7 else 0)
  | _ => s
/-- Whether a fault record names a room (R371 step 3): a result record of its logic, its room RAM or one of its plane stores, or an
entry of the error log in its room RAM or its planes. -/
def State.faultRoom (s : State) (n : Nat) : Bool :=
  (s.boot.records.any fun e =>
    let k := e.w0.toNat / 2 ^ 28
    let u := e.w0.toNat % 2 ^ 12
    ((k == 3 || k == 4) && u == n) || (k == 2 && u / 4 == n)) ||
  s.ecLog.any fun e =>
    let a := e.w0.toNat + 2 ^ 32 * e.w1.toNat
    if bits e.w2.toNat 23 22 = 1 then a / 16384 == n else 0x100000000 ≤ a && (a - 0x100000000) / 0x100000 == n
/-- Whether the recovery self-test runs order 6 for a room: one that a fault record names, or any when the landing's or the
fabric's state is lost (R371 step 3). -/
def State.testsRoom (s : State) (n : Nat) : Bool :=
  s.f Fld.PW_STATUS_FAB_LOST = 1 || s.f Fld.PW_STATUS_LND_LOST = 1 || s.faultRoom n
/-- The recovery self-test (R371 step 3), of the rooms that it takes and of everything else but the scratch and the scheduler's
own orders: `found` is what it finds; with RETEST, fallow units without a finding serve again.
DESIGN CHOICE (log entry 120): a stair that FAILED in service and in which the test finds nothing stays FAILED. -/
def State.recoveryTest (s : State) (retest : Nat) (found : List TestFail) : State :=
  let l := found.filter fun t => t.kind != 0xC && t.kind != 0xD &&
    ((t.kind != 3 && t.kind != 4) || s.testsRoom t.unit || (retest == 1 && s.offUnit 3 t.unit))
  let s := s.each l fun s t => s.testFailure 3 false t
  if retest = 0 then s
  else
    let bad := (l.map fallowUnits).flatten
    s.each (s.boot.fallow.filter fun u => !bad.contains u) State.restoreUnit
/-- The wipes of R336, and every plane EMPTY when the landing or the logic layers lost their state. -/
def State.recoveryWipes (s : State) : State :=
  let fab := s.f Fld.PW_STATUS_FAB_LOST = 1
  let lnd := s.f Fld.PW_STATUS_LND_LOST = 1
  let loft := s.f Fld.PW_STATUS_LOFT_LOST = 1
  let s := if fab then s.wipeRooms else s
  let s := if lnd then s.wipeLanding else s
  let s := if loft then s.each banks512 fun s b => if s.fallowBank b then s else s.wipe (bankRow b 0) (bankRow b 8192) else s
  if fab ∨ lnd then
    s.each rooms128 fun s n =>
      if 4 ≤ s.roomState n then s
      else (((s.each (List.range 4) fun s p => s.emptyPlane n p).setF Fld.RM_PLANE_NONE n 1).updRoom n fun r =>
        { r with planes := [], sw := none, preempted := [], back := none }).trackOff n
  else s
/-- What the profile in flash holds (R336, R371): that of the slot in effect, of the slot that the pins name when the profile was
pushed; nothing when no image in the slot verifies. The model knows the body of an image that is the one in effect, and takes that
of another from Config (log entry 141). -/
def State.flashProfile (s : State) : ProfileContent :=
  let slot := if s.boot.profSlot < 8 then s.boot.profSlot else s.boot.pins
  let img := s.slotImage slot
  if !s.slotValid slot || !s.imageOk 2 img then { settings := [], owners := [], gates := [], stores := [], planes := [] }
  else if sha384 img = s.boot.profHash then s.boot.profile.getD (Config.profileBody img) else Config.profileBody img
/-- Settings of units that RECOVER leaves as they are: owners of banks and unit gates. -/
def unitSetting (off : Nat) : Bool :=
  match Reg.atOffset off with
  | some (r, _) => [Reg.LB_OWNER, .CK_GATE_ROOM, .CK_GATE_DSP, .CK_GATE_LINK, .CK_GATE_UNIT].contains r
  | none => false
/-- Settings come back (R371 step 5): from the settings image while it can be used, else from the profile in flash and the
journal. -/
def State.recoverySettings (s : State) : State :=
  if s.boot.imageValid ∧ s.f Fld.PW_STATUS_LOFT_LOST = 0 then s.fromImage 0 0x20000000
  else
    let c := s.flashProfile
    let j := s.journal
    let t : State := { (s.updJ fun j => { j with settings := j.settings.filter fun e => !unitSetting e.1 }) with staged := [] }
    let t := t.stageProfile { c with owners := [], settings := c.settings.filter fun x => !unitSetting x.1 }
    let l := t.staged
    let s := ({ (t.updJ fun _ => j) with staged := s.staged } : State).takeSet l
    s.profileStores c

/-- The record of the first books fault is held until RECOVER completes (R36, R41). -/
def State.clearBooksFault (s : State) : State :=
  let s := s.setF Fld.EP_STATUS_BOOKS_FAULT 0 0
  (s.wr .EP_FAULT_BOOK 0 0).wr .EP_FAULT_DELTA 0 0
/-- The level of a step 6 sag, which RECOVER leaves (R340). -/
def State.leaveStep6 (s : State) : State :=
  if s.f Fld.PW_SHED_STATUS_LEVEL = 6 then s.setF Fld.PW_SHED_STATUS_LEVEL 0 5 else s
/-- RECOVER before epoch 1 continues start-up from step 7 (R360): the journal, which a stack that had not reached step 7 has not
read yet, gives the repairs to fuse (R132); the enforcement level in force is applied anew (R344). -/
def State.recoverStart (s : State) : State :=
  let s := s.readJournal.fieldFuses.clearBooksFault
  let s := s.settleRequests
  let s := s.each rooms128 fun s n =>
    if 4 ≤ s.roomState n then s
    else (((s.each (List.range 4) fun s p => s.emptyPlane n p).setF Fld.RM_PLANE_NONE n 1).setF Fld.RM_STATUS_STATE n
      (if s.gateOpen 0 n then 0 else 4)).trackOff n
  let hot := if s.f Fld.TH_STATUS_LEVEL = 0 then 0 else 1
  let s := s.each engines256 fun s e =>
    let s := s.setF Fld.DE_STATE_THROTTLED e hot
    if s.engState e = 7 then s.setF Fld.DE_STATE_STATE e 1 else s
  let s := s.setF Fld.SC_RATE_THERM_CAP 0 (thermCap (s.f Fld.TH_STATUS_LEVEL))
  let s := (s.setF Fld.EP_ESC_RESET_CREDITS 0 0).setF Fld.HK_STATUS_SAFE 0 0
  let s := s.updBoot fun b => { b with faultN := false, stopped := false }
  ((s.leaveStep6).setStep 6).beginTests
/-- The rooms return to RUN before the commit, with the effects of RESUME (R371 step 6, R67); those with lost state reload
plane 0. -/
def State.recoverRooms (s : State) : State :=
  let lost : Bool := s.f Fld.PW_STATUS_FAB_LOST = 1 || s.f Fld.PW_STATUS_LND_LOST = 1
  let s := s.settleRequests.each rooms128 State.roomBack
  if lost then s.startLoads (s.profileLoads s.flashProfile true) else s
/-- RECOVER once the banks are awake, up to its commit. A part that keeps the stack in island service, and a hearth loop that has
stopped meanwhile, end it with FAULT. -/
def State.recoverOn (s : State) : State :=
  match s.boot.recov with
  | none => s
  | some (retest, found) =>
    let c := s.boot.resumeCmd
    let s := s.updBoot fun b => { b with frPhase := 0, resumeCmd := none, recov := none }
    if !s.loopRuns then s.respondTo c 7 []
    else if s.epoch = 0 then s.recoverStart.respondTo c 0 []
    else
      let s := s.each s.journal.remaps fun s (r : Nat × Nat × Nat × Nat) =>
        if (s.stair r.1).remaps.contains (r.2.1, r.2.2.1, r.2.2.2) then s else s.remap r.1 r.2.1 r.2.2.1 r.2.2.2
      let s := (s.fieldFuses).recoveryTest retest found
      let s := s.markFallow
      if s.boot.stopped then s.respondTo c 7 []
      else s.recoveryWipes.recoverySettings.recoverRooms.commitBegin 2 c
/-- Acceptance of RECOVER, its commit point: the foundation reset it begins with, and the wakes that it waits for. -/
def State.recoverBegin (s : State) (h : CmdHdr) (retest : Nat) (found : List TestFail) : State :=
  let s := (s.abandonReset).setF Fld.BT_STATUS_ST_RUNNING 0 0
  let s := (s.setF Fld.EP_STATUS_RESUME_PENDING 0 0).setF Fld.EP_STATUS_AUDIT_SUSPENDED 0 0
  let s := (s.wr .BT_FRESET 0 0).stopWork
  let s := s.endPending.freezeUnits.holdFoundation.askWakes
  let s := s.updBoot fun b => { b with frPhase := 6, resumeCmd := some h.ref, recov := some (retest, found) }
  if s.wakesDone then s.recoverOn else s
/-- WAKE_COMPLETE: RECOVER goes on after the last wake that it asked for. -/
def execWakeComplete (bank : Nat) (s : State) : Host.Outcome State Fault Refusal :=
  .next (let s := s.wakeComplete bank
    if s.boot.frPhase = 6 ∧ s.wakesDone then s.recoverOn else s)
/-- What follows RECOVER's commit (R371 step 7): fault records cleared, units started, pins released, READY. -/
def State.recoverEnd (s : State) : State :=
  let s := s.clearBooksFault
  let s := (s.setF Fld.EC_STATUS_CONFIG_UE 0 0).setF Fld.CO_STATUS_LINK_UE 0 0
  let s := (s.setF Fld.PW_STATUS_FAB_LOST 0 0).setF Fld.PW_STATUS_LND_LOST 0 0
  let s := (s.setF Fld.PW_STATUS_LOFT_LOST 0 0).setF Fld.EP_ESC_RESET_CREDITS 0 0
  let s := (s.setF Fld.HK_STATUS_SAFE 0 0).setF Fld.HK_STATUS_READY 0 1
  let s := s.updBoot fun b => { b with faultN := false, safeN := false }
  let s := s.leaveStep6.schedRestored
  let s := s.each banks512 State.endHandover
  let s := s.repostTokens
  s.schedTasks.schedSwitches.restartUnits

/-- RECOVER: DENIED while the shutdown latch is set (R345), which has stopped the hearth loop; otherwise NOT_READY unless the loop
is LOCKED, which level S needs, and DENIED outside the safe state (log entry 32). -/
def execRecover (h : CmdHdr) (retest : Nat) (found : List TestFail) (s : State) : Host.Outcome State Fault Refusal :=
  .next (s.submit h 0x0B03 (if s.shutdown then .i else .s) (argBytes [(6, 1, retest)]) fun s =>
    s.checks h [(s.shutdown, 4), (2 ≤ retest, 3), (!s.safe, 4), (s.commit.isSome || s.boot.frPhase = 6, 2)] fun s => s.recoverBegin h retest found)

end Sys2Proof.Machine
end

