-- ==== Sys2Proof/Machine/Security.lean ====
section
/-!
DEFINITION. Identity, attestation, life cycle and debug access (R373, R374, R410–R417): CERT_READ, ATTEST, authorisations,
LC_TRANSITION, DEBUG_ACCESS, and the test access port.
-/
namespace Sys2Proof.Machine

/-! ### Identity -/

def execLcStatus (h : CmdHdr) (s : State) : Host.Outcome State Fault Refusal :=
  .next (s.submit h 0x0C01 .i [] fun s =>
    s.replyData h (leBytes 1 s.fuses.lc ++ leBytes 1 s.sec.slot ++ leBytes 2 (s.f Fld.LC_DEBUG_LEVEL)))
/-- Bytes of a public key and of a signature of a curve. -/
def curveLen (curve : Nat) : Nat := if curve = 2 then 96 else 64
/-- Sign with the identity key of a curve (R410). -/
def State.idSign (s : State) (curve : Nat) (msg : List Byte) : List Byte :=
  fit 0 (curveLen curve) (Config.ecdsaSign curve (s.fuses.secret curve) s.fresh (hashOf curve msg))
/-- What CERT_READ writes: in PROVISIONED the key record, whose public key is the coordinates without the SEC1 prefix, else the
DER chain (R411). -/
def State.certBytes (s : State) (curve : Nat) : List Byte :=
  if s.fuses.lc = 1 then
    let key := (Config.ecPublic curve (s.fuses.secret curve)).drop 1
    let r := leBytes 6 s.fuses.uid ++ leBytes 1 curve ++ fit 0 (curveLen curve) key
    r ++ s.idSign curve r
  else Config.certChain curve s.fuses.uid (s.fuses.secret curve) s.fuses.cert s.sec.measurement
def execCertRead (h : CmdHdr) (curve dest : Nat) (s : State) : Host.Outcome State Fault Refusal :=
  .next (s.submit h 0x0C02 .i (argBytes [(6, 1, curve), (8, 8, dest)]) fun s =>
    s.checks h [(curve ≠ 1 ∧ curve ≠ 2, 3), (s.fuses.lc = 0, 5)] fun s => s.writeOut h dest (s.certBytes curve))
/-- The attestation report up to its signature (Table 18-2). -/
def State.report (s : State) (curve : Nat) (nonce : List Byte) : List Byte :=
  leBytes 4 0x54535441 ++ leBytes 2 1 ++ leBytes 1 curve ++ leBytes 1 s.fuses.lc ++ leBytes 8 s.fuses.uid ++ fit 0 32 nonce ++
  leBytes 8 s.epoch ++ leBytes 4 (s.rd .LC_FW_EDITION).toNat ++ leBytes 1 (s.f Fld.LC_FW_STATUS_SVN) ++
  leBytes 1 (s.f Fld.LC_SVN_MIN) ++ leBytes 2 0 ++ leBytes 4 (s.rd .LC_DEBUG).toNat ++ leBytes 4 s.boot.profSlot ++
  fit 0 48 s.sec.measurement ++ fit 0 48 s.boot.profHash ++ leBytes 4 (s.rd .HK_STATUS).toNat ++
  leBytes 4 (s.regRead .EP_STATUS 0).1.toNat ++ List.replicate 16 0
def execAttest (h : CmdHdr) (curve dest : Nat) (nonce : List Byte) (s : State) : Host.Outcome State Fault Refusal :=
  .next (s.submit h 0x0C03 .i (argBytes [(6, 1, curve), (8, 8, dest)] ++ fit 0 32 nonce) fun s =>
    s.checks h [(curve ≠ 1 ∧ curve ≠ 2, 3), (s.fuses.lc ≠ 2 ∧ s.fuses.lc ≠ 3, 5)] fun s =>
      let r := s.report curve nonce
      s.writeOut h dest (r ++ s.idSign curve r))

/-! ### Authorisations -/

/-- Consume the challenge (R414). -/
def State.consumeChallenge (s : State) : State :=
  let s := s.each (List.range 8) fun s k => s.setF Fld.LC_CHAL_CHAL k 0
  s.setF Fld.LC_CHAL_CTRL_VALID 0 0
/-- Whether an authorisation is valid in state s: kind 1 transition or 2 debug, target, and the key slots that are allowed
(Table 18-4). -/
def State.authOk (s : State) (a : List Byte) (kind target lo hi : Nat) : Bool :=
  let curve := imgF a 6 1
  let slot := imgF a 7 1
  let chal := ((List.range 8).map fun k => leBytes 4 (s.f Fld.LC_CHAL_CHAL k)).flatten
  let pk := slice a 48 96
  decide (240 ≤ a.length) && imgF a 0 4 == 0x48554141 && imgF a 4 1 == kind && imgF a 5 1 == target &&
    (curve == 1 || curve == 2) && lo ≤ slot && slot ≤ hi && imgF a 8 6 == s.fuses.uid && imgF a 14 2 == 0 &&
    s.f Fld.LC_CHAL_CTRL_VALID = 1 && slice a 16 32 == chal &&
    mhas s.fuses.keyHash slot && mget (fun _ => 0) s.fuses.keyHash slot == beNat (sha384 pk) &&
    Config.ecdsaVerify curve (pk.take (curveLen curve)) (hashOf curve (a.take 144)) (slice a 144 (curveLen curve))
/-- A failed authorisation: DENIED, counted. -/
def State.authFails (s : State) (r : CmdRef) : State := (s.inc Fld.LC_AUTH_FAIL_COUNT 0).respond r 4 []

/-! ### Life cycle -/

/-- Step 2 of R415: protected ranges are disabled with keys and roots erased, link keys erased, links held down. -/
def State.eraseRange (s : State) (r : Nat) : State :=
  if s.rgState r = 0 ∧ !(s.crr r).disabling then s
  else
    let s := s.endJobs r
    let s := s.updCr fun c => { c with cache := c.cache.filter fun (e : Nat × CacheEnt) => keyRange e.1 != r }
    let c := (s.crr r).cmd
    let s := (s.updCrr r fun _ => {}).setRange r 0
    let s := (s.setF Fld.CR_RANGE_STATE_PROGRESS r 0).setF Fld.CR_RANGE_STATE_KEY_ROLL_REQUIRED r 0
    (s.setF Fld.CR_RANGE_CTRL_ENABLE r 0).respondTo c 6 []
def State.eraseSecrets (s : State) : State :=
  let s := s.each (List.range 32) State.eraseRange
  s.each links32 fun s k => (s.dropKeys k).when (s.linkState k ≠ 0) (·.holdDown k)
/-- Key slots that may authorise a transition (Table 18-3): lowest and highest; none where there is no such transition. -/
def lcSlots (from' target : Nat) : Option (Nat × Nat) :=
  match from', target with
  | 0, 1 | 1, 2 | 0, 4 => some (0, 3)
  | 2, 3 | 2, 4 => some (4, 7)
  | 3, 4 => some (0, 7)
  | _, _ => none
/-- Whether a transition's LENGTH is that of Table 18-3. -/
def lcLength (target len : Nat) : Bool :=
  if target = 1 then len = 288 ∨ len = 336 ∨ len = 384 ∨ len = 432 else if target = 2 then len = 405 else len = 240
/-- Fuse a transition (R413, R415 steps 3 and 4): at PROVISIONED a key pair of each curve, from draws of the TRNG (R410); leaving
MANUFACTURE disables the IEEE 1838 secondary test ports (R374). -/
def State.fuseTransition (s : State) (target : Nat) (payload : List Byte) : State :=
  let s :=
    if target = 1 then
      let (k, s) := s.trng 0
      let (a, s) := s.trng 0
      let (b, s) := s.trng 0
      s.updFuses fun q => { q with
        keyHash := (List.range (payload.length / 48)).foldl (fun m i => mput (fun _ => 0) m (4 + i) (beNat (slice payload (48 * i) 48))) q.keyHash,
        idKeys := true, idSecret := leNat k, idSecret2 := leNat (a ++ b.take 16) }
    else if target = 2 then s.updFuses fun q => { q with certified := true, cert := payload }
    else if target = 4 then s.updFuses fun q => { q with idKeys := false, idSecret := 0, idSecret2 := 0 }
    else s
  s.updFuses fun q => { q with portsOff := q.portsOff || q.lc == 0, lc := target, partTry := 0, partFor := 0, partPayload := [] }
/-- Read a source that a command names, for its end (R390, R13): the state, and the operation when it is done at once. -/
def State.readSource (s : State) (r : CmdRef) (source len info : Nat) : State × Option MemOp :=
  let m : MemOp := { addr := source % 2 ^ 48 + 2 ^ 48 * s.node, len := len, info := info, bytes := [] }
  s.memGo r false m.fuel m

/-- LC_TRANSITION (R415), whose commit point is the first fuse written (R397), once its authorisation and payload are read; a poisoned source is answered POISONED (R127). A
transition that stopped half-way may be repeated once, with the same payload. -/
def State.transitionEnd (s : State) (r : CmdRef) (m : MemOp) : State :=
  let a := m.bytes
  let target := m.info
  let payload := a.drop 240
  let q := s.fuses
  match lcSlots q.lc target with
  | none => s.consumeChallenge.respond r 4 []
  | some (lo, hi) =>
    let ok := s.authOk a 1 target lo hi
    let s := s.consumeChallenge
    if !lcLength target m.len then s.respond r 3 []
    else if m.poison ≠ 0 then s.respond r 0xB []
    else if !ok then s.authFails r
    else if 2 ≤ q.partTry ∨ (q.partTry = 1 ∧ !(q.partFor = target ∧ q.partPayload = payload)) then s.respond r 4 []
    else if target = 2 ∧ !([1, 2].all fun c => Config.certOk c q.uid (q.secret c) payload s.sec.measurement) then s.respond r 4 []
    else
      let s := (s.eraseSecrets.fuseTransition target payload).updSec fun x => { x with transition := some r }
      (s.updBoot fun b => { b with delayedReset := some 2 }).respond r 0 []
def execLcTransition (h : CmdHdr) (target source len : Nat) (s : State) : Host.Outcome State Fault Refusal :=
  .next (s.submit h 0x0C04 .s (argBytes [(6, 1, target), (8, 8, source), (16, 4, len)]) fun s =>
    let refuse (l : List (Bool × Nat)) (run : State → State) : State :=
      match l.find? fun e => e.1 with | some (_, st) => s.consumeChallenge.reply h st | none => run s
    refuse [(s.f Fld.PW_SHED_STATUS_LEVEL ≠ 0, 5), (s.shutdown, 4), (s.sec.transition.isSome, 2),
        (decide (len < 240 ∨ 432 < len), 3), (!s.rangeOk source len, 3)] fun s =>
      let (s, e) := (s.uncommitted h.ref).readSource h.ref source len target
      match e with | some m => s.transitionEnd h.ref m | none => s)

/-! ### Debug access -/

/-- Highest level that DEBUG_ACCESS may grant, and the key slots of a grant (R417); MANUFACTURE needs none. -/
def debugHighest (lc : Nat) : Nat := if lc = 4 then 0 else 2
def debugSlots (lc : Nat) : Option (Nat × Nat) := if lc = 0 then none else if lc = 2 then some (4, 7) else some (0, 3)
/-- Grant a level; FULL in DEPLOYED first erases what R415 step 2 names. -/
def State.grantDebug (s : State) (r : CmdRef) (level : Nat) : State :=
  let s := if level = 2 ∧ s.fuses.lc = 2 then s.eraseSecrets else s
  (s.setF Fld.LC_DEBUG_LEVEL 0 level).respond r 0 []
/-- DEBUG_ACCESS once its grant is read; a poisoned source is answered POISONED (R127, R414). -/
def State.debugEnd (s : State) (r : CmdRef) (m : MemOp) : State :=
  match debugSlots s.fuses.lc with
  | none => s.respond r 4 []
  | some (lo, hi) =>
    let ok := s.authOk m.bytes 2 m.info lo hi
    let s := s.consumeChallenge
    if m.poison ≠ 0 then s.respond r 0xB [] else if ok then s.grantDebug r m.info else s.authFails r
/-- DEBUG_ACCESS: level 0 returns to the default of the life-cycle state. Before the wipe of step 9 no level but LOCKED holds
(R415, R417). -/
def State.debugAccess (s : State) (h : CmdHdr) (level source len : Nat) : State :=
  let lc := s.fuses.lc
  let t := s.consumeChallenge
  if 2 < level then t.reply h 3
  else if s.boot.step < 9 then t.reply h 5
  else if level = 0 then (t.setF Fld.LC_DEBUG_LEVEL 0 (debugDefault lc)).reply h 0
  else if debugHighest lc < level then t.reply h 4
  else match debugSlots lc with
    | none => t.grantDebug h.ref level
    | some _ =>
      if len ≠ 240 ∨ !s.rangeOk source len then t.reply h 3
      else
        let (s, e) := (s.uncommitted h.ref).readSource h.ref source len level
        match e with | some m => s.debugEnd h.ref m | none => s
def execDebugAccess (h : CmdHdr) (level source len : Nat) (s : State) : Host.Outcome State Fault Refusal :=
  .next (s.submit h 0x0C05 .s (argBytes [(6, 1, level), (8, 8, source), (16, 4, len)]) fun s =>
    s.debugAccess h level source len)

/-! ### The test access port -/

/-- Debug level that a TAP instruction needs (Tables 16-10, 18-5). -/
def tapLevel (code : Nat) : Nat :=
  if 3 ≤ code ∧ code ≤ 5 then 1 else if code = 0x10 ∨ code = 0x11 then 2 else 0
/-- A shift through a register of n bits that captures v: what leaves TDO, and what the register then holds. -/
def shiftReg (n v bits' len : Nat) : Nat × Nat :=
  let w := v % 2 ^ n + bits' % 2 ^ len * 2 ^ n
  (w % 2 ^ len, w / 2 ^ len % 2 ^ n)
def State.setTap (s : State) (g : Tap → Tap) : State := s.updSec fun q => { q with tap := g q.tap }
/-- Send a debug access of 32 bits into the corridor (R13, R416): `v` is what it writes. Endpoint 546 is where the island's
segment enters the corridor; DESIGN CHOICE (log entry 142): SRC_PLANE 1 tells the debug agent of Table 05-4 from the management
processor. -/
def State.debugSend (s : State) (a : Nat) (v : Option Nat) : State :=
  let tag := ((List.range 1024).find? fun t => (s.outReq (outKey 546 1 t)).isNone).getD 0
  let p := match v with
    | some v => mkReq s 1 546 tag (a / 4 * 4 + 2 ^ 48 * s.node) 3 (leBytes 4 v)
    | none => mkReq s 0 546 tag (a / 4 * 4 + 2 ^ 48 * s.node) 3 []
  (s.setTap fun q => { q with busy := true }).request 546 { p with srcPlane := 1 }
/-- A write forced from outside, which EP_STATUS.DEBUG_FORCED records (R38). -/
def State.debugForced (s : State) : State := s.setF Fld.EP_STATUS_DEBUG_FORCED 0 1
/-- Read 32 bits: registers and the scratch lie on the island, everything else is reached through the corridor. -/
def State.debugRead (s : State) (a : Nat) : State :=
  match decodeAddr a with
  | .csr off => match s.csrGet off with
    | (.inr w, s) => s.setTap fun t => { t with out := w.toNat }
    | (.inl _, s) => s
  | .scratch =>
    let (d, _, s) := s.readSpan (a / 4 * 4) 4 .debug
    s.setTap fun t => { t with out := leNat d }
  | .nothing => s.busError 1 s.node 546 a
  | _ => s.debugSend a none
/-- Write 32 bits. -/
def State.debugWrite (s : State) (a v : Nat) : State :=
  match decodeAddr a with
  | .csr off => (s.debugForced.csrPut off v).2
  | .scratch => (s.debugForced.writeSpanAs (a / 4 * 4) (leBytes 4 v) 0 .debug).2
  | .nothing => s.busError 1 s.node 546 a
  | _ => s.debugSend a (some v)
/-- One TAP operation (R373, R416). An instruction above the level in force selects BYPASS, and a debug access above it has
no effect. What the boundary register and the IEEE 1687 and 1838 networks give out is free. -/
def State.tapDo (s : State) (op : TapOp) : State :=
  let level := s.f Fld.LC_DEBUG_LEVEL
  match op with
  | .reset => s.setTap fun t => { t with ir := 1, dr := 0 }
  | .shiftIr code =>
    let c := code % 256
    let s := if tapLevel c ≠ 0 then s.hazard 5 c 0 else s
    (s.setTap fun t => { t with ir := if tapLevel c ≤ level then c else 0xFF, out := (Config.freeWord s.fresh).toNat % 256 }).drawn
  | .shiftDr bits' len =>
    let ir := s.sec.tap.ir
    if ir = 1 then
      let (o, r) := shiftReg 32 0x18412CB7 bits' len
      s.setTap fun t => { t with dr := r, out := o }
    else if ir = 2 ∨ ir = 3 ∨ ir = 0x10 ∨ ir = 0x11 then
      let s := if tapLevel ir ≠ 0 then s.hazard 5 ir 1 else s
      let o := leNat (s.freeBytes ((len + 7) / 8)) % 2 ^ len
      (s.setTap fun t => { t with dr := bits' % 2 ^ len, out := o }).drawn
    else
      let (o, r) := shiftReg 1 0 bits' len
      s.setTap fun t => { t with dr := r, out := o }
  | .debugRead a => if 1 ≤ level then (s.hazard 5 a 2).debugRead (a % 2 ^ 48) else s
  | .debugWrite a v => if level = 2 then (s.hazard 5 a 3).debugWrite (a % 2 ^ 48) (v % 2 ^ 32) else s
  | .debugHalt e => if 1 ≤ level ∧ e < 256 then (s.hazard 5 e 4).haltRequest e (2 ^ 31) else s
/-- The operations that wait run in order: none while a slice of the start-up test runs (R374) or a debug access is on its way. -/
def State.tapRun : Nat → State → State
  | 0, s => s
  | fuel + 1, s =>
    if s.sec.tap.busy ∨ s.f Fld.BT_STATUS_ST_RUNNING = 1 then s
    else match s.sec.tap.q with
      | [] => s
      | op :: t => State.tapRun fuel ((s.setTap fun q => { q with q := t }).tapDo op)
def State.tapGo (s : State) : State := State.tapRun (s.sec.tap.q.length + 1) s
/-- TAP_ACCESS: it waits behind the operations before it; TRST_N ends what waits. -/
def execTapAccess (op : TapOp) (s : State) : Host.Outcome State Fault Refusal :=
  .next (if s.boot.por then s
    else if op = .reset then (s.setTap fun q => { q with busy := false, q := [] }).tapDo op
    else (s.setTap fun q => { q with q := q.q ++ [op] }).tapGo)
/-- The answer to a debug access (R416): BUSY is asked again (R103), and what was read leaves TDO; after a bus error or LINK_LOST
TDO is as it was. -/
def State.tapAnswer (s : State) (req : Packet) (status : Nat) (data : List Byte) : State :=
  if !s.sec.tap.busy then s
  else if status = 1 then s.request 546 req
  else
    let s := s.setTap fun q => { q with busy := false, out := if status = 0 ∧ req.type = 0 then leNat data else q.out }
    (if status = 0 ∧ req.type = 1 then s.debugForced else s).tapGo
/-- START_UP_SELF_TEST: TAP accesses that waited for the slices follow the last of them (R374). -/
def execStartUpSelfTest (order slice : Nat) (overrun : Bool) (found : List TestFail) (s : State) :
    Host.Outcome State Fault Refusal := .next (s.startTest order slice overrun found).tapGo

end Sys2Proof.Machine
end

