-- ==== Sys2Proof/Machine/StoreCmd.lean ====
section
/-!
DEFINITION. Profile, firmware and journal commands (R398–R402, R408, Table 17-19) and the flash writes that they wait for.
-/
namespace Sys2Proof.Machine

/-! ### Status -/

/-- In boot ROM service no firmware slot runs (R408). -/
def State.inBootRom (s : State) : Bool := s.f Fld.MB_STATUS_BOOTROM = 1
/-- STORE_STATUS: slot states are 1 for a slot that holds a valid image and 0 for an empty one (log entry 33). -/
def State.storeStatus (s : State) : List Byte :=
  let fw := (if s.imageOk 1 (s.fwImage 0) then 1 else 0) + 4 * (if s.imageOk 1 (s.fwImage 1) then 1 else 0)
  let prof := ((List.range 8).map fun k => if s.slotValid k then 4 ^ k else 0).sum
  let j := s.journal
  leBytes 4 Config.flashMiB ++ leBytes 1 (if s.inBootRom then 0xFF else s.sec.slot) ++ leBytes 1 fw ++ leBytes 1 j.area ++
    leBytes 1 (100 * j.off / areaSize) ++ leBytes 8 j.gen ++ leBytes 8 j.seq ++ leBytes 2 prof
def execStoreStatus (h : CmdHdr) (s : State) : Host.Outcome State Fault Refusal :=
  .next (s.submit h 0x0E01 .b [] fun s => s.replyData h s.storeStatus)
def execProfileList (h : CmdHdr) (s : State) : Host.Outcome State Fault Refusal :=
  .next (s.submit h 0x0E02 .i [] fun s =>
    s.replyData h ((List.range 8).map fun k =>
      if s.slotValid k then leBytes 1 1 ++ leBytes 1 0 ++ leBytes 4 (s.slotLen k) else List.replicate 6 0).flatten)

/-! ### Flash writes -/

/-- Opcodes of the commands that write flash. -/
def opProfileWrite : Nat := 0x0E03
def opProfileErase : Nat := 0x0E04
def opProfilePush : Nat := 0x0E05
def opFwWrite : Nat := 0x0E07
/-- Flash offsets of a job's slot: its header sector, its end, and where the image goes. -/
def FlashJob.base (j : FlashJob) : Nat := if j.op = opFwWrite then 0x100000 * j.slot else slotBase j.slot
def FlashJob.top (j : FlashJob) : Nat := j.base + (if j.op = opFwWrite then 0x100000 else slotSize)
/-- Bytes that a job programs before its header: a profile's image from slot offset 0x1_0000, a firmware image but for its
first page. -/
def FlashJob.body (j : FlashJob) : Nat × List Byte :=
  if j.op = opFwWrite then (j.base + 256, j.img.drop 256) else (j.base + 0x10000, j.img)
def FlashJob.header (j : FlashJob) : List Byte :=
  if j.op = opFwWrite then j.img.take 256
  else let h := leBytes 4 1 ++ leBytes 4 j.img.length; h ++ leBytes 4 (crc32c h).toNat
/-- The first job starts: its command passes its commit point with the erase of the header sector. A journal batch only
programs. -/
def State.startFlash (s : State) : State :=
  match s.journal.jobs with
  | [] => s
  | j :: _ => if j.recs.isEmpty then (s.eraseFlash j.base (j.base + 0x10000)).committed j.cmd else s
/-- Queue a job; it starts at once when no other runs. -/
def State.addFlash (s : State) (j : FlashJob) : State :=
  let idle := s.journal.jobs.isEmpty
  let s := (s.uncommitted j.cmd).updJ fun q => { q with jobs := q.jobs ++ [j] }
  if idle then s.startFlash else s
/-- The first job is over: answer, and start the next. -/
def State.endFlash (s : State) (j : FlashJob) (status : Nat) : State :=
  ((s.updJ fun q => { q with jobs := q.jobs.drop 1 }).respond j.cmd status []).startFlash
/-- A journal batch's COMMIT record is programmed, or fails (R400, R402, Table 17-22). -/
def State.journalEnd (s : State) (j : FlashJob) (failed : Bool) : State :=
  if s.journal.compacting then s
  else
    let full := (j.recs.foldl (fun (q : Journal) (r : Nat × List Byte) => q.apply r.1 r.2) s.journal).tooBig
    if failed then (s.updJ fun q => { q with compacting := true }).endFlash j 7
    else if full then s.endFlash j 7
    else ((s.committed j.cmd).journalBatch j.recs).endFlash j 0
/-- PROGRAM_OR_ERASE_END: the next stage of the flash write in progress (R399). A failure ends it with FAULT and leaves the
slot empty; so does an image that reads back otherwise than the source. -/
def State.flashEnd (s : State) (failed : Bool) : State :=
  match s.journal.jobs with
  | [] => s
  | j :: rest =>
    if !j.recs.isEmpty then s.journalEnd j failed
    else if failed then (s.eraseFlash j.base (j.base + 256)).endFlash j 7
    else if j.op = opProfileErase then s.endFlash j 0
    else
      let (at', body) := j.body
      if j.stage = 1 then (s.eraseFlash j.base j.top).updJ fun q => { q with jobs := { j with stage := 2 } :: rest }
      else if j.stage = 2 then
        let s := s.program at' body
        if s.flashBytes at' body.length ≠ body then s.endFlash j 7
        else s.updJ fun q => { q with jobs := { j with stage := 3 } :: rest }
      else
        let s := (s.program j.base j.header).endFlash j 0
        if j.op ≠ opFwWrite then s
        else if s.inBootRom then s.bootVerify
        else s.setF Fld.LC_FW_STATUS_OTHER_VALID 0 (if s.imageOk 1 (s.fwImage (1 - s.sec.slot)) then 1 else 0)
def execProgramOrEraseEnd (failed : Bool) (s : State) : Host.Outcome State Fault Refusal := .next (s.flashEnd failed)

/-! ### Profile and firmware commands -/

/-- PROFILE_WRITE, PROFILE_PUSH and FW_WRITE once their image is read from its source: POISONED where a word of it carries
poison (R127). PROFILE_WRITE and FW_WRITE then check it in place, DENIED where it does not verify (R399 step 1, R408); the
check of a pushed image is that of the PROFILE row (R358). -/
def State.imageEnd (s : State) (r : CmdRef) (op : Nat) (m : MemOp) : State :=
  let s := s.setArgs r []
  if m.poison ≠ 0 then s.respond r 0xB []
  else if op = opProfilePush then (s.updBoot fun b => { b with pushed := some m.bytes, selected := none }).respond r 0 []
  else if s.imageOk (if op = opFwWrite then 1 else 2) m.bytes then
    s.addFlash { op := op, cmd := r, slot := m.info, img := m.bytes }
  else s.respond r 4 []
/-- Read the image that a command names (R13, R390). -/
def State.imageRead (s : State) (h : CmdHdr) (op source len slot : Nat) : State :=
  let (s, e) := (s.uncommitted h.ref).readSource h.ref source len slot
  match e with | some m => s.imageEnd h.ref op m | none => s
def execProfileWrite (h : CmdHdr) (slot source len : Nat) (s : State) : Host.Outcome State Fault Refusal :=
  .next (s.submit h opProfileWrite .r (argBytes [(6, 1, slot), (8, 8, source), (16, 4, len)]) fun s =>
    s.checks h [(8 ≤ slot, 3), (decide (slotSize < len + 0x10000), 3), (!s.rangeOk source len, 3)] fun s =>
      s.imageRead h opProfileWrite source len slot)
def execProfileErase (h : CmdHdr) (slot : Nat) (s : State) : Host.Outcome State Fault Refusal :=
  .next (s.submit h 0x0E04 .i (argBytes [(6, 1, slot)]) fun s =>
    s.checks h [(8 ≤ slot, 3)] fun s => s.addFlash { op := opProfileErase, cmd := h.ref, slot := slot })
/-- PROFILE_PUSH: start-up resumes at step 10 with the image, whose verification is that of the PROFILE row (R358, R399). -/
def execProfilePush (h : CmdHdr) (source len : Nat) (s : State) : Host.Outcome State Fault Refusal :=
  .next (s.submit h 0x0E05 .w (argBytes [(8, 8, source), (16, 4, len)]) fun s =>
    s.checks h [(!s.rangeOk source len, 3)] fun s => s.imageRead h opProfilePush source len 0)
def execProfileSelect (h : CmdHdr) (slot : Nat) (s : State) : Host.Outcome State Fault Refusal :=
  .next (s.submit h 0x0E06 .w (argBytes [(6, 1, slot)]) fun s =>
    s.checks h [(8 ≤ slot, 3)] fun s => (s.updBoot fun b => { b with selected := some slot, pushed := none }).reply h 0)
/-- FW_WRITE (R408): DENIED in SCRAPPED; with a fuse array error only status commands are answered (Table 16-3). -/
def execFwWrite (h : CmdHdr) (source len : Nat) (s : State) : Host.Outcome State Fault Refusal :=
  .next (s.submit h 0x0E07 .b (argBytes [(8, 8, source), (16, 4, len)]) fun s =>
    s.checks h [(s.fuses.lc = 4, 4), (s.fuses.ue, 5), (decide (2 ^ 20 < len), 3), (!s.rangeOk source len, 3)] fun s =>
      let slot := if s.inBootRom then s.boot.fwSecond else 1 - s.sec.slot
      s.imageRead h opFwWrite source len slot)

/-! ### Journal commands -/

def execJournalSet (h : CmdHdr) (off value mask : Nat) (s : State) : Host.Outcome State Fault Refusal :=
  .next (s.submit h 0x0E08 .i (argBytes [(6, 4, off), (10, 4, value), (14, 4, mask)]) fun s =>
    s.checks h [(off % 4 ≠ 0 || (Reg.atOffset off).isNone, 3),
        (4096 ≤ s.journal.settings.length && !mhas s.journal.settings off, 4)] fun s =>
      s.addFlash { op := 0x0E08, cmd := h.ref, recs := [(2, leBytes 4 off ++ leBytes 4 value ++ leBytes 4 mask)] })
def execJournalClear (h : CmdHdr) (off : Nat) (s : State) : Host.Outcome State Fault Refusal :=
  .next (s.submit h 0x0E09 .i (argBytes [(6, 4, off)]) fun s =>
    s.checks h [(off ≠ 0xFFFFFFFF && (off % 4 ≠ 0 || (Reg.atOffset off).isNone), 3)] fun s =>
      s.addFlash { op := 0x0E09, cmd := h.ref, recs := [(3, leBytes 4 off)] })
/-- JOURNAL_READ: the current area up to its last record, as it stands in flash (log entry 33). -/
def execJournalRead (h : CmdHdr) (dest : Nat) (s : State) : Host.Outcome State Fault Refusal :=
  .next (s.submit h 0x0E0A .i (argBytes [(8, 8, dest)]) fun s =>
    let d := s.flashBytes (areaBase s.journal.area) s.journal.off
    s.writeOut h dest d)
def execJournalCompact (h : CmdHdr) (s : State) : Host.Outcome State Fault Refusal :=
  .next (s.submit h 0x0E0B .i [] fun s =>
    s.updJ fun j => { j with compacting := true, waitCompact := j.waitCompact ++ [h.ref] })
/-- JOURNAL_COMPACTION (R402); the batches that waited for its end follow (Table 17-22). -/
def execJournalCompaction (s : State) : Host.Outcome State Fault Refusal :=
  .next (if !s.journal.compacting then s
    else
      let l := s.journal.waitCompact
      let held := s.journal.held
      let s := (s.compact.updJ fun j => { j with waitCompact := [], held := [] }).each l fun s r => s.respond r 0 []
      s.each held State.journalBatch)

end Sys2Proof.Machine
end

