-- ==== Sys2Proof/Machine/Replay.lean ====
section
/-!
DEFINITION. Recording and replay (R420–R431): the origin sequence, the ring's header and records, what a replay compares and
injects, its halt, and the commands of Table 17-18. The injection of a mailbox command stands in Transport.lean.
-/
namespace Sys2Proof.Machine

/-! ### The ring's header (Table 19-2) -/

/-- The configuration digest (log entry 34). -/
def State.configDigest (s : State) : List Byte :=
  let j := s.journal
  let l3 := fun (x : Nat × Nat × Nat) => [x.1, x.2.1, x.2.2]
  sha384 (Config.configBytes
    [(j.settings.map l3).flatten, (j.remaps.map fun x => [x.1, x.2.1, x.2.2.1, x.2.2.2]).flatten, (j.narrows.map l3).flatten,
     (j.repairs.map l3).flatten, (j.fallow.map fun x => [x.1, x.2]).flatten, j.life]
    [banks512.filter s.fallowBank, (List.range 4).map (s.f Fld.ST_NARROW_MAP_MAP), rooms128.filter (s.offUnit 3),
     engines256.filter (s.offUnit 6), [(s.rd .CO_NODE 0).toNat]])
/-- Write the header at an origin; its END stamp and offset stay 0 until the recording ends. -/
def State.writeHeader (s : State) : State :=
  let flags := s.f Fld.RP_CFG_WRAP + 4 * (if s.replay.origin = 1 then 1 else 0)
  s.ringWrite false s.ringBase (fit 0 256 (leBytes 4 0x47505252 ++ [1] ++ leBytes 1 flags ++ leBytes 2 0 ++
    leBytes 4 (s.f Fld.RP_LINKS_MASK) ++ leBytes 1 (s.f Fld.RP_SOURCES_SOURCES) ++ List.replicate 19 0 ++
    fit 0 48 s.boot.profHash ++ fit 0 48 s.sec.measurement ++ s.configDigest))
/-- Bytes of the ring as the decoders deliver them (R123). -/
def State.ringBytes (s : State) (a n : Nat) : List Byte :=
  slice ((wordsOf a (n - 1)).map fun w => (s.decoded w.1).1).flatten (a % 32) n
/-- What the decoders find in the words read is counted and logged. -/
def State.ringNote (s : State) (a n : Nat) : State := s.each (wordsOf a (n - 1)) fun s w => s.noteWord w.1 0
/-- The header of the ring that begins at a bank. -/
def State.ringHead (s : State) (first : Nat) : List Byte := s.ringBytes (0x800000 * first) 256
/-- Ring offset after the END record. -/
def ringEnd (h : List Byte) : Nat := leNat (slice h 24 4)
/-- Whether a header checks, for a ring of n banks that has not wrapped (R429). -/
def ringHeadOk (h : List Byte) (n : Nat) : Bool :=
  leNat (slice h 0 4) == 0x47505252 && leNat (slice h 4 1) == 1 && bit (leNat (slice h 5 1)) 1 == 0 &&
  decide (256 ≤ ringEnd h) && decide (ringEnd h ≤ 0x800000 * n) && ringEnd h % 16 == 0

/-! ### Records -/

/-- A record of the ring (R423). -/
structure RingRec where
  stamp : Nat
  phase : Nat
  kind : Nat
  source : Nat
  payload : List Byte
  size : Nat
  deriving DecidableEq, Repr

/-- The record at a ring offset, unless the ring ends there or its CRC does not check. -/
def State.ringRec (s : State) (off : Nat) : Option RingRec :=
  let h := s.ringBytes (s.ringBase + off) 16
  let len := leNat (slice h 8 2)
  let p := s.ringBytes (s.ringBase + off + 16) len
  let size := 16 + (len + 15) / 16 * 16
  if ringEnd (s.ringHead (s.f Fld.RP_RING_FIRST)) < off + size ∨ (crc32c (h.take 12 ++ p)).toNat ≠ leNat (slice h 12 4) then none
  else
    let k := leNat (slice h 6 1)
    some { stamp := leNat (slice h 0 6), phase := k % 16, kind := k / 16, source := leNat (slice h 7 1), payload := p, size := size }
/-- The draws that the ring holds from an offset on, in order (R429). -/
def State.ringDraws (s : State) : Nat → Nat → List (Nat × List Byte)
  | 0, _ => []
  | n + 1, off => match s.ringRec off with
    | none => []
    | some r => (if r.kind = 5 then [(r.source, r.payload)] else []) ++ s.ringDraws n (off + r.size)
/-- Move to the record at a ring offset. -/
def State.readFrom (s : State) (off : Nat) : State :=
  let s := match s.ringRec off with | some r => s.ringNote (s.ringBase + off) r.size | none => s.ringNote (s.ringBase + off) 16
  let t := match s.ringRec off with | some r => r.stamp | none => s.replay.stamp
  s.updRp fun q => { q with readOff := off, next := t }
/-- The stamp of the next CHECK. -/
def State.nextCheck (s : State) : Nat := 65536 * (s.replay.stamp / 65536 + 1)
/-- A break stamp that is still to be reached. -/
def State.breakAhead (s : State) : Option Nat :=
  match s.breakStamp with | some b => if b < s.replay.stamp then none else some b | none => none

/-! ### The origin sequence (R420) -/

/-- Steps 1 to 3: the foundation reset as far as the release of the domain, the gates of rooms closed and opened again, the
wipes. -/
def State.originReset (s : State) (first n : Nat) : State :=
  let s := (s.wr .BT_FRESET 0 0).stopWork
  let s := s.endPending.freezeUnits.holdFoundation.wakeAll.settleRequests
  let s := s.each banks512 State.endHandover
  let s := s.each (rooms128.filter fun n => !s.offUnit 3 n) fun s n =>
    ((((s.gateRoom n).setGateStat 0 n false).setGateReq 0 n true).setGating 0 n 1).gateOpened 0 n
  let s := s.each banks512 fun s b =>
    if s.fallowBank b || (decide (first ≤ b) && decide (b < first + n)) then s else s.wipe (bankRow b 0) (bankRow b 8192)
  s.wipeLanding.wipeRooms.wipeEngines
/-- Steps 4 and 5: the profile and the journal; pointers, schedules and use counts start afresh. -/
def State.originSettings (s : State) : State :=
  let s := { (s.updSched (fun _ => {})).updNet (fun n => { n with posts := n.posts.filter fun e => e.1 == 545 }) with svcNext := 0 }
  let s := (s.setF Fld.EP_ESC_TOKENS_COUNT 0 0).setF Fld.EP_ESC_RESET_CREDITS 0 0
  let s := (s.updMow fun _ => {}).mowRefresh
  let s := s.each engines256 fun s e =>
    if s.engState e = 7 then (s.updEng e fun _ => {}).setF Fld.DE_STATE_STATE e 1 else s
  match s.boot.profile with
  | none => s
  | some c =>
    let s := ((s.setF Fld.BT_BOOT_DROPPED 0 0).stageProfile c)
    (s.profileGates c).storesThenLoads c
/-- The whole sequence up to its commit, with the ring settings staged (R433). -/
def State.originRun (s : State) (first n links sources : Nat) : State :=
  let s := (s.originReset first n).originSettings
  let s := s.stage (Reg.RP_RING.addr 0) (rweWord .RP_RING (65536 * n + first))
  (s.stage (Reg.RP_LINKS.addr 0) (rweWord .RP_LINKS links)).stage (Reg.RP_SOURCES.addr 0) (rweWord .RP_SOURCES sources)
/-- Begin an origin sequence for RECORD_START (2) or REPLAY_START (3). A set that would not pass validation is refused. -/
def State.originBegin (s : State) (c : CmdRef) (origin first n links sources : Nat) : State :=
  let t := s.originRun first n links sources
  if !t.validSet t.staged then s.respond c 3 []
  else ((t.setF Fld.RP_STATUS_STATE 0 1).updRp fun r => { r with origin := origin }).commitBegin 4 (some c)

/-- Stamp 0: the commit point of the origin's epoch. The recorder's buffer, the ring and the findings start afresh. -/
def State.stampZero (s : State) (origin : Nat) : State :=
  let s := ((s.wr .RP_STATUS 0 0).wr .RP_FILL 0 0).wr .RP_HAZARD 0 0
  let s := (s.wr .RP_FIRST_LO 0 0).wr .RP_FIRST_HI 0 0
  let s := s.updRp fun _ => { origin := origin }
  s.setF Fld.RP_STATUS_STATE 0 (if origin = 3 then 3 else 2)
/-- What follows the commit point: the header of a recording; of a replay the ring's first record, its draws and the
comparison of the digests. -/
def State.originPoint (s : State) : State :=
  if s.recording then s.writeHeader
  else
    let h := s.ringHead (s.f Fld.RP_RING_FIRST)
    let s := if slice h 128 48 = s.configDigest then s else s.setF Fld.RP_STATUS_CONFIG_DIFF 0 1
    let l := s.ringDraws (ringEnd h / 16) 256
    (s.updRp fun q => { q with trng := l }).readFrom 256
/-- Units go on after the response of the origin's commit. -/
def State.originEnd (s : State) : State :=
  let s := s.setF Fld.SC_RATE_THERM_CAP 0 (thermCap (s.f Fld.TH_STATUS_LEVEL))
  let hot := if s.f Fld.TH_STATUS_LEVEL = 0 then 0 else 1
  let s := s.each engines256 fun s e => s.setF Fld.DE_STATE_THROTTLED e hot
  s.mowRefresh.reShed.crWakeAll

/-! ### Recording -/

/-- RECORDER_DRAIN: the buffer goes to the ring; a GAP follows records that were dropped, as space is there again (R425). A
ring without WRAP that is full ends the recording. -/
def State.recorderDrain (s : State) : State :=
  let asleep := (List.range (s.f Fld.RP_RING_BANKS)).any fun j => s.retained (s.f Fld.RP_RING_FIRST + j)
  if !s.recording || s.replay.shedGap || asleep then s
  else
    let s := s.flushRing false
    if !s.recording then s.ringTrailer false
    else if s.replay.gapOwed then (s.stampNow.pushGap 1).updRp fun r => { r with gapOwed := false }
    else s
def execRecorderDrain (s : State) : Host.Outcome State Fault Refusal := .next s.recorderDrain

/-- The final value of the CRC over the packets that left (R427). -/
def State.outValue (s : State) : Nat × Nat := ((~~~ s.replay.outCrc).toNat, s.replay.outCount)
/-- CHECK_RECORD: 65,536 root cycles have passed: a CHECK record, or its comparison (R427, R428). In a replay every record
before it has been injected, and the break stamp is not passed. -/
def State.checkRecord (s : State) : State :=
  let t := s.nextCheck
  let (crc, n) := s.outValue
  let fresh (s : State) : State := s.updRp fun r => { r with outCrc := 0xFFFFFFFF, outCount := 0 }
  let at' (s : State) : State := s.updRp fun r => { r with stamp := t, phase := 0 }
  if 2 ^ 48 - 1 < t then s
  else if s.recording then fresh ((at' s).recordAt 8 0 (leBytes 4 crc ++ leBytes 4 n))
  else if s.replaying then
    let rec? := s.ringRec s.replay.readOff
    let early : Bool := match rec? with | some r => decide (r.stamp < t) | none => true
    let broken : Bool := match s.breakAhead with | some b => decide (b < t) | none => false
    if early || broken then s
    else
      let s := (at' s).settle t
      match rec? with
      | some r =>
        if r.kind = 8 ∧ r.stamp = t then
          let s := if r.payload = leBytes 4 crc ++ leBytes 4 n then s else (s.setF Fld.RP_STATUS_DIVERGED 0 1).finding 2 t
          fresh (s.readFrom (s.replay.readOff + r.size))
        else fresh s
      | none => fresh s
  else s
def execCheckRecord (s : State) : Host.Outcome State Fault Refusal := .next s.checkRecord

/-- STAMP_LIMIT: the stamp reaches 2^48 − 1 (Table 19-4). -/
def State.stampEnd (s : State) : State :=
  let top := 2 ^ 48 - 1
  if s.recording ∧ s.replay.stamp / 65536 = top / 65536 then
    ((((s.updRp fun r => { r with stamp := top, phase := 0 }).pushRec 11 2 []).flushRing false).ringTrailer false).setF Fld.RP_STATUS_STATE 0 5
  else s
def execStampLimit (s : State) : Host.Outcome State Fault Refusal := .next s.stampEnd

/-! ### Replaying -/

/-- A packet enters the corridor at a link's attachment; one that must wait makes the replay DIVERGED (R429). -/
def State.injectPacket (s : State) (k : Nat) (d : List Byte) : State :=
  match parsePkt (d ++ List.replicate 256 0) with
  | none => s
  | some p =>
    let s := (s.inject (linkEp k) p).pump1 (linkEp k)
    if (mget (fun _ => []) s.net.send (linkEp k)).isEmpty then s else s.setF Fld.RP_STATUS_DIVERGED 0 1
/-- A link's state and rate, as the corridor and the crypto unit see it (R429). -/
def State.injectLink (s : State) (k st rate : Nat) : State :=
  let s := (s.setLinkF Fld.DP_STATUS_RATE Fld.SL_STATUS_RATE k rate).setLinkState k st
  if st ≠ 3 then s
  else
    let s := s.updLink k fun l => { l with up := true }
    if bit (s.f Fld.RP_LINKS_MASK) k = 1 then s
    else (s.setF Fld.RP_STATUS_UNRECORDED 0 1).finding 4 s.replay.stamp
/-- Inject a record other than a mailbox command. Draws have been set out for their consumers, and the PIN inputs are the
replaying stack's own. -/
def State.injectOther (s : State) (r : RingRec) : State :=
  let b (k : Nat) : Nat := leNat (slice r.payload k 1)
  if r.kind = 1 then (if r.source < 32 then s.injectPacket r.source r.payload else s)
  else if r.kind = 2 then (if r.source < 32 then s.injectLink r.source (b 0) (b 1) else s)
  else if r.kind = 6 then (s.setThermLevel (b 0)).setThermReq (b 1 = 1)
  else if r.kind = 7 then s.updRp fun q => { q with hazRing := q.hazRing ++ [r.stamp] }
  else s
/-- The record that is due: the next one of the ring, in the present 65,536 root cycles, before the break stamp. -/
def State.dueRec (s : State) : Option RingRec :=
  if !s.replaying then none
  else match s.ringRec s.replay.readOff with
    | none => none
    | some r =>
      let broken : Bool := match s.breakAhead with | some b => decide (b ≤ r.stamp) | none => false
      if r.stamp < s.nextCheck ∧ !broken then some r else none
/-- The stamp and phase of a record are reached. -/
def State.reach (s : State) (r : RingRec) : State :=
  let t := max s.replay.stamp r.stamp
  let s := s.updRp fun q => { q with stamp := t, phase := r.phase }
  s.settle t

/-- The replay halts (R430): rooms PARKED at their next edge, engines in RUN halt, the round and the slices stop; the pipes
and the round look at the state. -/
def State.haltReplay (s : State) : State :=
  let s := s.setF Fld.RP_STATUS_STATE 0 4
  let s := s.each rooms128 fun s n =>
    if s.roomState n = 0 then s.updRoom n fun r => { r with toStop := 2, toRun := false } else s
  let s := s.each engines256 fun s e => if s.engState e = 2 then s.setF Fld.DE_CTRL_HALT e 1 else s
  (s.each rooms128 State.restoreSlice).mowRefresh
/-- REPLAY_HALT for a cause: 0 the break stamp, 1 a GAP record, 2 the end of the ring. -/
def State.replayHalts (s : State) (cause : Nat) : State :=
  if !s.replaying then s
  else
    let r? := s.ringRec s.replay.readOff
    if cause = 0 then
      match s.breakAhead with
      | none => s
      | some b =>
        let before : Bool := match r? with | some r => decide (r.stamp < b) | none => true
        if s.nextCheck < b || before then s
        else ((s.updRp fun q => { q with stamp := b, phase := if b = q.stamp then q.phase else 0 }).settle b).haltReplay
    else if cause = 1 then
      match s.dueRec with
      | none => s
      | some r => if r.kind ≠ 9 then s else (((s.reach r).setF Fld.RP_STATUS_GAP 0 1).finding 3 r.stamp).haltReplay
    else if cause = 2 then
      if r?.isNone then s.haltReplay
      else match s.dueRec with
        | none => s
        | some r => if r.kind = 10 ∨ r.kind = 11 then (s.reach r).haltReplay else s
    else s
def execReplayHalt (cause : Nat) (s : State) : Host.Outcome State Fault Refusal := .next (s.replayHalts cause)

/-! ### Commands (Table 17-18) -/

/-- RP_STATUS: the first 14 registers of the RP block. -/
def execRpStatus (h : CmdHdr) (s : State) : Host.Outcome State Fault Refusal :=
  .next (s.submit h 0x0D01 .s [] fun s =>
    let s := s.stampNow
    s.replyData h (regData ([.RP_STATUS, .RP_CFG, .RP_RING, .RP_LINKS, .RP_SOURCES].map (s.rd · 0)) ++
      leBytes 4 (s.replay.stamp % 2 ^ 32) ++ leBytes 4 (s.replay.stamp / 2 ^ 32) ++
      regData ([.RP_FILL, .RP_DROP, .RP_HAZARD, .RP_FIRST_LO, .RP_FIRST_HI, .RP_BREAK_LO, .RP_BREAK_HI].map (s.rd · 0))))
/-- RECORD_START and REPLAY_START share their conflicts: BUSY while a recording, a replay or a commit runs, NOT_READY while
the recorder's gate is closed. -/
def State.startConflicts (s : State) : List (Bool × Nat) := [(s.rpRuns || s.commit.isSome, 2), (s.gateShut 4 2, 5)]
def execRecordStart (h : CmdHdr) (firstBank banks links sources : Nat) (s : State) : Host.Outcome State Fault Refusal :=
  .next (s.submit h 0x0D02 .r (argBytes [(6, 2, firstBank), (8, 2, banks), (12, 4, links), (16, 1, sources)]) fun s =>
    s.checks h ((!s.ringOk firstBank banks || decide (16 ≤ sources), 3) :: s.startConflicts) fun s =>
      s.originBegin h.ref 2 firstBank banks links sources)
def execRecordStop (h : CmdHdr) (s : State) : Host.Outcome State Fault Refusal :=
  .next (s.submit h 0x0D03 .r [] fun s => s.checks h [(!s.recording, 4)] fun s => (s.endRecording 11 0 false).reply h 0)
/-- The end of the read of a ring's header for REPLAY_START: POISONED where a word of it is (R127), BAD_ARG for the header, then DENIED
for another profile or firmware (R429); links and sources are those of the header. -/
def State.replayHeadEnd (s : State) (c : CmdRef) (m : MemOp) : State :=
  let d := m.bytes
  let first := m.addr % 2 ^ 48 / 0x800000
  let ours : Bool := slice d 32 48 == fit 0 48 s.boot.profHash && slice d 80 48 == fit 0 48 s.sec.measurement
  let bad : List (Bool × Nat) := [(m.poison != 0, 0xB), (!s.ringOk first m.info || !ringHeadOk d m.info, 3), (!ours, 4)]
  match (bad ++ s.startConflicts).find? fun e => e.1 with
  | some (_, st) => s.respond c st []
  | none => s.originBegin c 3 first m.info (leNat (slice d 8 4)) (leNat (slice d 12 1) % 16)
/-- REPLAY_START: BAD_ARG for the banks, the conflicts, then the header is read (R13, R429). -/
def execReplayStart (h : CmdHdr) (firstBank banks : Nat) (s : State) : Host.Outcome State Fault Refusal :=
  .next (s.submit h 0x0D04 .r (argBytes [(6, 2, firstBank), (8, 2, banks)]) fun s =>
    s.checks h ((!s.ringOk firstBank banks, 3) :: s.startConflicts) fun s =>
      let (s, e) := s.memGo h.ref false 8
        { addr := 0x800000 * firstBank + 2 ^ 48 * s.node, len := 256, info := banks, bytes := [] }
      match e with | some m => s.replayHeadEnd h.ref m | none => s)
/-- REPLAY_STOP: OK, then a reset 10 µs later (R430). -/
def execReplayStop (h : CmdHdr) (s : State) : Host.Outcome State Fault Refusal :=
  .next (s.submit h 0x0D05 .r [] fun s =>
    s.checks h [(!(s.replaying || s.rpState = 4), 4)] fun s => (s.updBoot fun b => { b with delayedReset := some 2 }).reply h 0)

end Sys2Proof.Machine
end

