-- ==== Sys2Proof/Machine/Finish.lean ====
section
/-!
DEFINITION. The commit point with its origin (R24, R420), and the response of a commit with what follows it in the command
that it is part of: READY at start-up (R357, R409), RECOVER (R371), ENUMERATE (R279), an origin sequence (R420).
-/
namespace Sys2Proof.Machine

/-- READY (step 12): the pins, the event, the minimum SVN, the planes that load in the background. BT_START_TIME, the time
since reset, is a free value. -/
def State.reachReady (s : State) : State :=
  let s := (s.setStep 12).setF Fld.HK_STATUS_READY 0 1
  let s := s.updBoot fun b => { b with safeN := false }
  let s := ((s.setF Fld.PW_STATUS_FAB_LOST 0 0).setF Fld.PW_STATUS_LND_LOST 0 0).setF Fld.PW_STATUS_LOFT_LOST 0 0
  let s := (s.setF Fld.BT_START_TIME_US 0 (Config.freeWord s.fresh).toNat).drawn
  let v := s.f Fld.LC_FW_STATUS_SVN
  let s := if s.fuses.lc = 2 ∧ s.fuses.svn < v ∧ !s.fuses.ue then
      let s := (s.updFuses fun q => { q with svn := v }).setF Fld.LC_SVN_MIN 0 v
      s.setF Fld.LC_FW_STATUS_OTHER_VALID 0 (if s.imageOk 1 (s.fwImage (1 - s.sec.slot)) then 1 else 0)
    else s
  let s := s.event 0x0001 0 (s.f Fld.BT_START_TIME_US)
  s.reShed.each rooms128 State.bgNext

/-- Which origin a commit point is, if it is one: that of a command, or of start-up when RP_CFG.ARM takes effect and the
recorder's gate is open (R420). -/
def State.originOf (s : State) (c : Commit) : Nat :=
  if c.inner = 4 then s.replay.origin
  else if c.inner = 1 ∧ (s.takeSet s.snapshot).f Fld.RP_CFG_ARM = 1 ∧ !s.gateShut 4 2 then 1 else 0
/-- COMMIT_POINT: stamp 0 when the commit ends an origin. -/
def State.pointOf (s : State) : State :=
  match s.commit with
  | some c =>
    let o := s.originOf c
    if c.phase ≠ 3 ∨ o = 0 then s.commitPoint else ((s.stampZero o).commitPoint).originPoint
  | none => s
def execCommitPoint (s : State) : Host.Outcome State Fault Refusal := .next s.pointOf

/-- Last node ID that an enumeration assigned below this stack: the answer of ENUMERATE and ENUM_ASSIGN (R279). -/
def State.enumEnd (s : State) (cmd : Option CmdRef) : State :=
  match s.enumer with
  | none => s.respondTo cmd 0 []
  | some e => ({ s with enumer := none } : State).respondTo cmd 0 (leBytes 2 (e.next - 1))
/-- COMMIT_RESPONSE (4.0 µs). A safe state that waited for the commit follows. -/
def State.commitRespond (s : State) : State :=
  match s.commit with
  | none => s
  | some c =>
    if c.phase ≠ 4 then s
    else
      let s := ({ s with commit := none } : State).setF Fld.EP_STATUS_COMMIT_BUSY 0 0
      let s :=
        match c.inner with
        | 0 => s.respondTo c.cmd 0 (leBytes 8 s.epoch)
        | 1 => s.reachReady
        | 2 => s.recoverEnd.respondTo c.cmd 0 []
        | 3 => (s.enumEnd c.cmd).each links32 State.pumpLmb
        | _ => s.originEnd.respondTo c.cmd 0 []
      match s.boot.inSafePending with
      | some (cause, data) => (s.updBoot fun b => { b with inSafePending := none }).enterSafe cause data
      | none => s
def execCommitResponse (s : State) : Host.Outcome State Fault Refusal := .next s.commitRespond

end Sys2Proof.Machine
end

