-- ==== Sys2Proof/Machine/Transport.lean ====
section
/-!
DEFINITION. The transports of Ebryn commands (R378–R393): ABORT, a command block run by its opcode, port 0 with its I3C CCCs,
sideband messages, MB_CMD packets, doorbells, CSR accesses through the corridor, event blocks, and the injection of a replay.
-/
namespace Sys2Proof.Machine

/-! ### ABORT (R393) -/

/-- Whether a packet is the request of the management processor with a tag. -/
def State.mpPkt (s : State) (tag : Nat) (p : Packet) : Bool := p.srcEp == 546 && p.srcNode == s.node && p.srcPlane == 0 && p.tag == tag && isRequest p.type
/-- Tokens of a packet that is taken back are not issued (R180). -/
def State.unissue (s : State) (p : Packet) : State :=
  if p.type = 5 then
    let n := ((List.range (tokCount p)).filter fun j => bit (tokRepost p) j == 0).length
    s.updSched fun q => { q with issued := (q.issued + 2 ^ 64 - n) % 2 ^ 64, flight := q.flight - n }
  else s
/-- Take a request back that waits where it is served, nothing of it done: words in the queue of a bank, an access to a room's RAM,
lines of a protected range before their commit point, a TOKEN packet at its attachment, a packet that a link has not begun. -/
def State.unserve (s : State) (tag : Nat) : Option State :=
  let mine := s.mpPkt tag
  match s.svc.findSome? fun (e : Nat × Option SvcReq) => e.2.bind fun r => if mine r.pkt && r.data.isEmpty then some (e.1, r.pkt) else none with
  | some (id, p) =>
    let b := p.addr / 0x800000
    let s : State := { s with svc := mput (fun _ => none) s.svc id none }
    some ((s.updBank b fun k => { k with q := k.q.filter fun a => a.req != id }).drainCheck b)
  | none => match rooms128.find? fun n => (s.room n).ramQ.any mine with
  | some n => some (s.updRoom n fun r => { r with ramQ := r.ramQ.filter fun p => !mine p })
  | none => match s.crypto.reqs.findSome? fun (e : Nat × Option CrReq) => e.2.bind fun r => if mine r.pkt && r.data.isEmpty then some e.1 else none with
  | some q =>
    let l := s.crypto.jobs.filterMap fun (e : Nat × Option CrJob) => e.2.bind fun j => if j.req = q then some (e.1, j) else none
    if l.all fun x => x.2.phase ≤ 2 && x.2.kind ≤ 2 then some (((s.each l fun s x => s.setJob x.1 none).setReq q none).crWakeAll) else none
  | none => match (List.range 4).find? fun q => (s.tokPkt q).any fun x => mine x.1 && x.2.1 == 0 with
  | some q => some (match s.tokPkt q with | some x => (s.setTok q none).unissue x.1 | none => s)
  | none => (links32.find? fun k => (s.link k).txQ.any fun e => e.2.any fun t => mine t.pkt && t.left == t.pkt.wireSize).map fun k =>
    s.updLink k fun l => { l with txQ := mmapv (fun _ => []) (fun _ q => q.filter fun t => !(mine t.pkt)) l.txQ }
/-- Take a request of the management processor back while it waits to enter the corridor, lies in a buffer of it, or waits where it is
served; none when something of it is done, or it has left the stack. Its credits are released, and tokens that it issued are not
issued. -/
def State.withdraw (s : State) (tag : Nat) : Option State :=
  let mine := s.mpPkt tag
  let q := mget (fun _ => []) s.net.send 546
  (if q.any mine then
    some (s.updNet fun n => { n with send := mput (fun _ => []) n.send 546 (q.filter fun p => !mine p) })
  else
    match s.net.bufs.find? fun (e : Nat × List Packet) => e.2.any mine with
    | none => s.unserve tag
    | some (k, l) => some ((s.setBuf k (l.filter fun p => !mine p)).each (l.filter mine) fun s p => (s.releaseOn k p).unissue p)).map
  fun s => s.setOut (outKey 546 0 tag) none
/-- A command that has only read ends without its read: an answer that still comes is a late one (DESIGN CHOICE, log entry 159). -/
def State.forgo (s : State) (tag : Nat) : State :=
  match s.withdraw tag, s.outReq (outKey 546 0 tag) with
  | some s, _ => s
  | none, some r => s.setOut (outKey 546 0 tag) (some { r with expired := true })
  | none, none => s
/-- Stop a command before its commit point: none where nothing is left to stop. The state has its effect removed; its
ABORTED is sent by the caller. -/
def State.stopCmd (s : State) (e : InProg) (r : CmdRef) : Option State :=
  if e.opcode = 0x0405 ∨ e.opcode = 0x0406 then
    some (s.each rooms128 fun s n => s.updRoom n fun x => { x with parks := x.parks.filter fun c => c.2 != some r })
  else if memReaders.contains e.opcode ∧ !e.args.isEmpty then some (s.forgo (e.args.headD 0))
  else if e.opcode = 0x0502 ∨ (memUser e.opcode ∧ !e.args.isEmpty) then s.withdraw (e.args.headD 0)
  else if e.opcode = 0x0602 then
    some (s.each engines256 fun s n =>
      if (s.eng n).haltCmds.contains r then
        let s := s.updEng n fun g => { g with haltCmds := g.haltCmds.erase r }
        if (s.eng n).haltCmds.isEmpty then s.setF Fld.DE_CTRL_HALT n 0 else s
      else s)
  else if e.opcode = 0x0604 then
    some (s.each engines256 fun s n =>
      if (s.eng n).stepCmds.contains r then
        let s := s.updEng n fun g => { g with stepCmds := g.stepCmds.erase r }
        if (s.eng n).stepCmds.isEmpty then (s.setF Fld.DE_CTRL_STEP n 0).updEng n fun g => { g with stepping := false } else s
      else s)
  else if e.opcode = 0x0606 then
    some (s.each engines256 fun s n => match (s.eng n).startCmd with
      | some c => if c.cmd = r then s.unstart n c else s
      | none => s)
  else if s.journal.jobs.any fun j => j.cmd == r then
    let first : Bool := match s.journal.jobs with | j :: _ => j.cmd == r | [] => false
    let s := s.updJ fun q => { q with jobs := q.jobs.filter fun j => j.cmd != r }
    some (if first then s.startFlash else s)
  else none
/-- ABORT of a command in progress: the state after, with the ABORTED of its target sent; none where it is too late. -/
def State.abortIt (s : State) (e : InProg) (r : CmdRef) : Option State :=
  if e.committed then none
  else if e.opcode = 0x0201 then (match s.commit with
    | some c => if c.cmd = some r ∧ c.phase ≤ 3 then some (s.failCommit 6) else none
    | none => none)
  else if e.opcode = 0x0904 then
    (links32.find? fun k => (s.enc k).cmd == some r).map fun k => s.kexFails k 6
  else (s.stopCmd e r).map fun s => s.respond r 6 []
/-- ABORT of the requester's command with tag `victim`. -/
def execAbort (h : CmdHdr) (victim : Nat) (s : State) : Host.Outcome State Fault Refusal :=
  .next (s.submit h 0x0102 .b (argBytes [(6, 2, victim)]) fun s =>
    let r : CmdRef := (h.port, h.node, h.ep, victim)
    match (s.inprogOf r).bind fun e => s.abortIt e r with
    | some s => s.reply h 0
    | none => s.reply h 1)

/-! ### A command block by its opcode -/

/-- An argument field of a block: n bytes at block offset off; `a` begins at block byte 6. -/
def argN (a : List Byte) (off n : Nat) : Nat := leNat (slice a (off - 6) n)
/-- A number of bytes of a block from an offset on, no more than the block holds. -/
def argB (a : List Byte) (off n : Nat) : List Byte := slice a (off - 6) (min n (64 - off))
/-- Token records of a TASK_POST block: none where COUNT is not 1 to 4. -/
def argRecs (a : List Byte) : List TokRec :=
  if 4 < argN a 6 1 then [] else
  (List.range (min 4 (argN a 6 1))).map fun k =>
    { tag := argN a (8 + 12 * k) 8, value := argN a (16 + 12 * k) 4, poison := bit (argN a 56 1) k = 1 }

/-- How a block's command runs: its header, argument bytes, what a test that it starts finds, the state. -/
abbrev CmdRun := CmdHdr → List Byte → List TestFail → State → Host.Outcome State Fault Refusal
def cmdsDevice : List (Nat × CmdRun) :=
  [(0x0101, fun h _ _ => execDeviceInfo h), (0x0102, fun h a _ => execAbort h (argN a 6 2)),
   (0x0103, fun h a _ => execCsrRead h (argN a 6 4) (argN a 10 1)),
   (0x0104, fun h a _ => execCsrWrite h (argN a 6 4) ((List.range (argN a 10 1)).map fun k => argN a (12 + 4 * k) 4)),
   (0x0105, fun h a _ => execMemRead h (argN a 6 8) (argN a 14 1)),
   (0x0106, fun h a _ => execMemWrite h (argN a 6 8) (fit 0 (argN a 14 1) (argB a 16 (argN a 14 1)))),
   (0x0107, fun h _ _ => execEventRead h), (0x0108, fun h a _ => execEventCfg h (argN a 6 4)), (0x0109, fun h _ _ => execNop h),
   (0x0110, fun h _ _ => execClockStatus h),
   (0x0111, fun h a _ => execUnitGate h (argN a 6 1) (argN a 7 1) (argN a 8 1 != 0)),
   (0x0201, fun h _ _ => execEpochCommit h), (0x0202, fun h _ _ => execEpochDiscard h), (0x0203, fun h _ _ => execBooksAudit h),
   (0x0204, fun h a _ => execBooksRead h (argN a 6 8))]
def cmdsRooms : List (Nat × CmdRun) :=
  [(0x0301, fun h a _ => execBankOwner h (argN a 6 2) (argN a 8 4)), (0x0302, fun h a _ => execBankGuest h (argN a 6 2) (argN a 8 4)),
   (0x0303, fun h a _ => execBankRetain h (argN a 6 2)), (0x0304, fun h a _ => execBankWake h (argN a 6 2)),
   (0x0305, fun h a _ => execBankWipe h (argN a 6 2)), (0x0306, fun h a _ => execBankStatus h (argN a 6 2)),
   (0x0401, fun h a _ => execPlaneLoad h (argN a 6 1) (argN a 8 4)), (0x0402, fun h a _ => execPlaneSave h (argN a 6 1) (argN a 7 1)),
   (0x0403, fun h a _ => execPlaneSwitch h (argN a 6 1) (argN a 7 1)), (0x0404, fun h a _ => execRoomStatus h (argN a 6 1)),
   (0x0405, fun h a _ => execRoomPark h (argN a 6 1)), (0x0406, fun h a _ => execRoomUnpark h (argN a 6 1)),
   (0x0501, fun h _ _ => execSchedStatus h),
   (0x0502, fun h a _ => execTaskPost h (argRecs a) (argN a 57 1)),
   (0x0503, fun h a _ => execTemplateSet h (argN a 6 2) (argN a 8 4) (argN a 12 4) (argN a 16 4) (argN a 20 4)),
   (0x0504, fun h a _ => execImageSet h (argN a 6 2) (argN a 8 8) ((List.range (argN a 16 1)).map fun m => (argN a (20 + 8 * m) 2, argN a (24 + 8 * m) 4))),
   (0x0505, fun h a _ => execFlowSet h (argN a 6 4) (argN a 10 1) (argN a 11 1) (argN a 12 2)),
   (0x0506, fun h a _ => execGroupSet h (argN a 6 2) (argN a 8 4)), (0x0507, fun h a _ => execTaskCancel h (argN a 6 4)),
   (0x0508, fun h a _ => execSchedDrain h (argN a 6 4))]
def cmdsLinks : List (Nat × CmdRun) :=
  [(0x0601, fun h a _ => execDspStatus h (argN a 6 2)), (0x0602, fun h a _ => execDspHalt h (argN a 6 2)),
   (0x0603, fun h a _ => execDspResume h (argN a 6 2)), (0x0604, fun h a _ => execDspStep h (argN a 6 2)),
   (0x0605, fun h a _ => execDspReset h (argN a 6 2) (argN a 8 1)),
   (0x0606, fun h a _ => execDspStart h (argN a 6 2) (argN a 8 2) ((List.range 8).map fun k => argN a (12 + 4 * k) 4)),
   (0x0701, fun h a _ => execDpStatus h (argN a 6 1)), (0x0702, fun h a _ => execDpRetrain h (argN a 6 1) (argN a 8 4)),
   (0x0703, fun h a _ => execDpDown h (argN a 6 1)), (0x0704, fun h a _ => execDpUp h (argN a 6 1) (argN a 8 4)),
   (0x0801, fun h a _ => execSlStatus h (argN a 6 1)), (0x0802, fun h a _ => execSlRetrain h (argN a 6 1) (argN a 8 4)),
   (0x0803, fun h a _ => execSlDown h (argN a 6 1)), (0x0804, fun h a _ => execSlUp h (argN a 6 1) (argN a 8 4)),
   (0x0805, fun h a _ => execSlSlip h (argN a 6 1) (argN a 7 1)),
   (0x0806, fun h a _ => execSlPower h (argN a 6 1) (argN a 7 1) (argN a 8 1) (argN a 12 4)),
   (0x0807, fun h a _ => execEnumerate h (argN a 6 2) (argN a 8 4)), (0x0808, fun h a _ => execEnumAssign h (argN a 6 2) (argN a 8 4)),
   (0x0901, fun h a _ => execCrStatus h (argN a 6 1)), (0x0902, fun h a _ => execCrRangeRekey h (argN a 6 1)),
   (0x0903, fun h a _ => execCrRangeReset h (argN a 6 1)), (0x0904, fun h a _ => execLinkKex h (argN a 6 1)),
   (0x0905, fun h a _ => execKexMsg h (argN a 6 1) (argN a 7 1) (argN a 8 2) (argN a 10 2)
      (argB a 12 (min 52 (argN a 8 2 - argN a 10 2))))]
def cmdsSystem : List (Nat × CmdRun) :=
  [(0x0A01, fun h _ _ => execPowerStatus h), (0x0A02, fun h a _ => execThermalStatus h (argN a 6 1)), (0x0A03, fun h _ _ => execAgeReport h),
   (0x0A04, fun h a _ => execThermTest h (argN a 6 1) (argN a 8 4)), (0x0B01, fun h _ _ => execFoundationReset h),
   (0x0B02, fun h _ _ => execResume h), (0x0B03, fun h a l => execRecover h (argN a 6 1) l), (0x0B04, fun h _ _ => execStackReset h),
   (0x0B05, fun h a l => execSelftestRun h (argN a 6 1) (argN a 8 2) l), (0x0B06, fun h _ _ => execSelftestResult h),
   (0x0B10, fun h a _ => execCheckerMode h (argN a 6 2) (argN a 8 1) (argN a 9 1)), (0x0B11, fun h _ _ => execEcLogRead h),
   (0x0C01, fun h _ _ => execLcStatus h), (0x0C02, fun h a _ => execCertRead h (argN a 6 1) (argN a 8 8)),
   (0x0C03, fun h a _ => execAttest h (argN a 6 1) (argN a 8 8) (argB a 16 32)),
   (0x0C04, fun h a _ => execLcTransition h (argN a 6 1) (argN a 8 8) (argN a 16 4)),
   (0x0C05, fun h a _ => execDebugAccess h (argN a 6 1) (argN a 8 8) (argN a 16 4))]
def cmdsStore : List (Nat × CmdRun) :=
  [(0x0D01, fun h _ _ => execRpStatus h), (0x0D02, fun h a _ => execRecordStart h (argN a 6 2) (argN a 8 2) (argN a 12 4) (argN a 16 1)),
   (0x0D03, fun h _ _ => execRecordStop h), (0x0D04, fun h a _ => execReplayStart h (argN a 6 2) (argN a 8 2)),
   (0x0D05, fun h _ _ => execReplayStop h), (0x0E01, fun h _ _ => execStoreStatus h), (0x0E02, fun h _ _ => execProfileList h),
   (0x0E03, fun h a _ => execProfileWrite h (argN a 6 1) (argN a 8 8) (argN a 16 4)), (0x0E04, fun h a _ => execProfileErase h (argN a 6 1)),
   (0x0E05, fun h a _ => execProfilePush h (argN a 8 8) (argN a 16 4)), (0x0E06, fun h a _ => execProfileSelect h (argN a 6 1)),
   (0x0E07, fun h a _ => execFwWrite h (argN a 8 8) (argN a 16 4)),
   (0x0E08, fun h a _ => execJournalSet h (argN a 6 4) (argN a 10 4) (argN a 14 4)), (0x0E09, fun h a _ => execJournalClear h (argN a 6 4)),
   (0x0E0A, fun h a _ => execJournalRead h (argN a 8 8)), (0x0E0B, fun h _ _ => execJournalCompact h)]
/-- Every opcode of Tables 17-6 to 17-19. -/
def cmdTable : List (Nat × CmdRun) := cmdsDevice ++ cmdsRooms ++ cmdsLinks ++ cmdsSystem ++ cmdsStore

/-- Capacity, then an opcode that no table holds: UNSUPPORTED (R382). -/
def State.unknownOp (s : State) (h : CmdHdr) : State :=
  if h.port = 18 ∧ 0 < s.inProgress h then s.setF Fld.MB_STATUS_ENG_DROP 0 1
  else s.answerNow h (if s.noRoom h then 2 else if (s.inprogOf h.ref).isSome then 3 else 9)
/-- The state that an answer leaves: none but a next state changes it. -/
def State.after (s : State) : Host.Outcome State Fault Refusal → State
  | .next t => t
  | .fault _ => s
  | .refused _ => s
/-- Run the command of a 64-byte block from a requester. -/
def State.runCmd (s : State) (port node ep : Nat) (blk : List Byte) (found : List TestFail) : State :=
  let op := leNat (slice blk 0 2)
  let h : CmdHdr := { port := port, node := node, ep := ep, tag := leNat (slice blk 2 2), len := leNat (slice blk 4 2) }
  match cmdTable.find? fun c => c.1 == op with
  | none => s.unknownOp h
  | some c => s.after (c.2 h (slice blk 6 58) found (s.updMail fun m => { m with block := blk }))

/-! ### Port 0 (R383, R384) -/

/-- Port 0 is served from step 3 of start-up on, and not while a reset is held. -/
def State.busServed (s : State) : Bool := 3 ≤ s.boot.step && !s.boot.por && !s.boot.resetLow
/-- What a CCC returns to the controller. -/
def State.ccc (s : State) (b : List Byte) : State :=
  if s.busServed then s.updMail fun m => { m with i3cOut := b, i3cNack := false } else s.updMail fun m => { m with i3cOut := [], i3cNack := true }
/-- The provisional ID, most significant byte first (log entry 35). -/
def State.pid (s : State) : List Byte := beBytes 2 (s.f Fld.HK_ID_UID_HI_UID) ++ beBytes 4 (s.f Fld.HK_ID_UID_LO_UID)
/-- ENTDAA: a target without a dynamic address takes the one that the controller gives. -/
def execEntdaa (da : Nat) (s : State) : Host.Outcome State Fault Refusal :=
  .next (if s.busServed ∧ s.f Fld.MB_STATUS_I3C_DA = 0 then (s.ccc (s.pid ++ [0x06, 0x00])).setF Fld.MB_STATUS_I3C_DA 0 (da % 128)
    else s)
def execRstdaa (s : State) : Host.Outcome State Fault Refusal :=
  .next (if s.busServed then s.setF Fld.MB_STATUS_I3C_DA 0 0 else s)
/-- ENEC and DISEC: bit 0 of the events byte is in-band interrupts (log entry 35). -/
def execEnec (events : Nat) (s : State) : Host.Outcome State Fault Refusal :=
  .next (if s.busServed ∧ events % 2 = 1 then s.updMail fun m => { m with ibiEn := true } else s)
def execDisec (events : Nat) (s : State) : Host.Outcome State Fault Refusal :=
  .next (if s.busServed ∧ events % 2 = 1 then s.updMail fun m => { m with ibiEn := false } else s)
def execGetpid (s : State) : Host.Outcome State Fault Refusal := .next (s.ccc s.pid)
def execGetbcr (s : State) : Host.Outcome State Fault Refusal := .next (s.ccc [0x06])
def execGetdcr (s : State) : Host.Outcome State Fault Refusal := .next (s.ccc [0x00])
/-- GETSTATUS: two bytes, whose content the spec leaves open: free values. -/
def execGetstatus (s : State) : Host.Outcome State Fault Refusal := .next (s.drawn.ccc (s.freeBytes 2))
def execGetmwl (s : State) : Host.Outcome State Fault Refusal := .next (s.ccc (beBytes 2 64))
def execGetmrl (s : State) : Host.Outcome State Fault Refusal := .next (s.ccc (beBytes 2 64))
/-- I3C_PRIVATE_WRITE: 64 bytes are a command block; any other length is discarded. -/
def execI3cPrivateWrite (bytes : List Byte) (found : List TestFail) (s : State) : Host.Outcome State Fault Refusal :=
  .next (if !s.busServed then s.updMail fun m => { m with i3cNack := true }
    else if bytes.length ≠ 64 then s.setF Fld.MB_STATUS_I3C_BADLEN 0 1
    else (s.updMail fun m => { m with i3cNack := false }).runCmd 0 0 0 bytes found)
/-- I3C_PRIVATE_READ: the oldest response, or a NACK; a read of fewer bytes than 64 gets the first of them and removes it
(log entry 35). -/
def execI3cPrivateRead (len : Nat) (s : State) : Host.Outcome State Fault Refusal :=
  .next (match (if s.busServed then mget (fun _ => []) s.mail.rsp 0 else []) with
    | [] => s.updMail fun m => { m with i3cNack := true, i3cOut := [] }
    | b :: t => s.updMail fun m => { m with rsp := mput (fun _ => []) m.rsp 0 t, i3cOut := b.take len, i3cNack := false })
/-- IRQ_N is asserted (R384). -/
def State.irq (s : State) : Bool :=
  s.f Fld.MB_CFG_I3C_IRQ = 1 && (!(mget (fun _ => []) s.mail.rsp 0).isEmpty || !(mget (fun _ => []) s.mail.evq 0).isEmpty)

/-! ### Ports 1 to 16: the sideband (R254, R385) -/

/-- A whole block at port p: a command, the response to an ENUM_ASSIGN of this stack, or the events of a peer, which nothing
here consumes. -/
def State.sideBlock (s : State) (p kind : Nat) (blk : List Byte) (found : List TestFail) : State :=
  if kind = 1 then s.runCmd p 0 0 blk found
  else if kind = 2 then s.enumAnswer (p - 1) (leNat (slice blk 0 1)) (leNat (slice blk 4 2))
  else s
/-- A fragment of a block: in order 0 to 7, of one KIND and block number; anything else discards what was there. -/
def State.sideFrag (s : State) (d kind frag seq : Nat) (data : List Byte) (found : List TestFail) : State :=
  let key := 256 * kind + seq
  let have' := mget (fun _ => []) s.mail.part d
  let got := if frag = 0 then [] else have'
  let fitsOn := frag = 0 ∨ (frag * 8 = have'.length ∧ mget (fun _ => 0) s.mail.partKind d = key)
  let all := got ++ fit 0 8 data
  if !fitsOn then s.updMail fun m => { m with part := mput (fun _ => []) m.part d [] }
  else if all.length < 64 then s.updMail fun m => { m with
    part := mput (fun _ => []) m.part d all, partKind := mput (fun _ => 0) m.partKind d key }
  else (s.updMail fun m => { m with part := mput (fun _ => []) m.part d [] }).sideBlock (d + 1) kind all found
/-- SIDEBAND_MESSAGE on port d (Table 11-5). It has no effect while the sideband does not run, or in a replay, which leaves
only port 0 live (R430). THROTTLE_REQ and THROTTLE_CLEAR tell of the far stack's THERM_REQ_N; nothing here follows them. -/
def execSidebandMessage (port header : Nat) (data : List Byte) (found : List TestFail) (s : State) :
    Host.Outcome State Fault Refusal :=
  let kind := bits header 15 12
  .next (if !s.sideRuns ∨ s.replaying ∨ 16 ≤ port ∨ kind = 0 ∨ 3 < kind then s
    else s.sideFrag port kind (bits header 11 9) (bits header 7 0) data found)
def execSidebandBlockTimeout (port : Nat) (s : State) : Host.Outcome State Fault Refusal :=
  .next (s.updMail fun m => { m with part := mput (fun _ => []) m.part port [] })

/-! ### Port 17: MB_CMD packets (R386) -/

/-- A response block for a packet that is no command: its TAG where the payload has bytes 2 and 3, else a free value. -/
def State.badCmd (s : State) (p : Packet) (status : Nat) : State :=
  let here : Bool := 4 ≤ p.payload.length
  let tag := if here then leNat (slice p.payload 2 2) else (Config.freeWord s.fresh).toNat % 65536
  (if here then s else s.drawn).deliver (17, p.srcNode, p.srcEp, tag) (p.tag + 1024 * p.srcPlane) (rspBlock status tag [])
/-- 1 + the link through which a packet came into the stack, each of which has a router of its own (R143); 0 for a packet from inside. -/
def viaLink (p : Packet) : Nat :=
  match links32.find? fun k => 0 < p.entry && epRouter (linkEp k) 0 == p.entry - 1 && p.srcEp != linkEp k with
  | some k => k + 1
  | none => 0
/-- MB_CMD: the next MB_CMD packet at endpoint 546. One that carries poison returns POISONED (Table 06-3); in a replay port 17
is not live, and the packet has no effect (R430). -/
def execMbCmd (found : List TestFail) (s : State) : Host.Outcome State Fault Refusal :=
  .next (match s.takeOn (ejectLinks 546) 3 (fun p => p.type == 8 && s.isFor 546 p) with
    | none => s
    | some (p, s) =>
      if s.replaying then s
      else if p.len ≠ 63 then s.badCmd p 3
      else if p.poison ≠ 0 then s.badCmd p 0xB
      else
        let s := s.updMail fun m => { m with hdrTag := p.tag + 1024 * p.srcPlane, via := viaLink p }
        (s.runCmd 17 p.srcNode p.srcEp p.payload found).updMail fun m => { m with hdrTag := 0, via := 0 })

/-! ### Port 18: doorbells (R387) -/

/-- MB_ENG_BELL[e] := addr by engine e: the firmware reads the block from X memory as a service access (R387). -/
def State.engBell (s : State) (e addr : Nat) (found : List TestFail) : State :=
  let bad (s : State) (st : Nat) : State := s.deliver (18, s.node, e, 0) 0 (rspBlock st 0 [])
  if s.mail.inprog.any fun x => x.port == 18 && x.ep == e then s.setF Fld.MB_STATUS_ENG_DROP 0 1
  else if s.replaying then s
  else if 0x3FCF < addr + 15 then bad s 3
  else
    let s := s.updMail fun m => { m with
      inprog := m.inprog ++ [{ port := 18, node := s.node, ep := e, tag := 0x10000, opcode := opBell, committed := true }],
      bells := mput (fun _ => []) m.bells e found }
    (s.memGo (bellRef s.node e) false 8 { addr := xAddr e addr + 2 ^ 48 * s.node, len := 64, bytes := [] }).1
def execMbEngBell (engine addr : Nat) (found : List TestFail) (s : State) : Host.Outcome State Fault Refusal :=
  .next (if 256 ≤ engine then s
    else if !s.portOn 18 then s.busError 4 s.node (256 + engine) (0x140031000 + 4 * engine)
    else s.engBell engine (addr % 2 ^ 14) found)

/-! ### CSR space and scratch through the corridor (R160–R163) -/

/-- The doorbell that an offset names, for its own engine. -/
def State.bellOf (s : State) (p : Packet) (off : Nat) : Option Nat :=
  match Reg.atOffset off with
  | some (.MB_ENG_BELL, e) => if p.srcNode = s.node ∧ p.srcEp = 256 + e then some e else none
  | _ => none
/-- An access to CSR space by another agent (Table 07-8): the MB block and HK_ID_VENDOR to HK_ID_UID_HI are read, an engine
writes its own doorbell. -/
def State.csrRequest (s : State) (p : Packet) (off : Nat) (found : List TestFail) : State :=
  if p.len ≠ 3 ∨ off % 4 ≠ 0 then s.refuse p 546 2
  else if csrReserved off then s.refuse p 546 1
  else if p.type = 0 then
    if off ≤ 0x14 ∨ (0x30000 ≤ off ∧ off < 0x40000) then
      match Reg.atOffset off with
      | some (r, i) => let (w, s) := s.regRead r i; s.inject 546 (answer s p 3 546 0 (leBytes 4 w.toNat) 0 false)
      | none => s.inject 546 (answer s p 3 546 0 (leBytes 4 0) 0 false)
    else s.refuse p 546 4
  else match s.bellOf p off with
    | some e =>
      if s.portOn 18 then (s.inject 546 (answer s p 4 546 0 [] 0 false)).engBell e (leNat p.payload % 2 ^ 14) found
      else s.refuse p 546 4
    | none => s.refuse p 546 4
/-- CSR_ACCESS: the next request at the management processor's endpoint. A MSG has no taker there (cause 9). -/
def State.mpRequest (s : State) (found : List TestFail) : State :=
  match s.takeOn (ejectLinks 546) 0 (s.isFor 546) with
  | none => s
  | some (p, s) =>
    if !addrForm p.type then (if isRequest p.type then s.refuse p 546 9 else s)
    else match decodeAddr p.addr with
      | .csr off => s.csrRequest p off found
      | .scratch => s.memAccess 546 p
      | _ => s.refuse p 546 1
def execCsrAccess (found : List TestFail) (s : State) : Host.Outcome State Fault Refusal := .next (s.mpRequest found)

/-! ### Events (R392) -/

/-- Cut a list into runs of at most three. -/
def byThree {α : Type} : Nat → List α → List (List α)
  | 0, _ => []
  | _, [] => []
  | n + 1, l => l.take 3 :: byThree n (l.drop 3)
/-- The payload that carries some records: COUNT, zeros to byte 15, the records. -/
def evPayload (l : List EvRec) : List Byte := fit 0 16 (leBytes 1 l.length) ++ (l.map EvRec.bytes).flatten
/-- The queue of a destination goes out in order. -/
def State.sendEvents (s : State) (q : Nat) : State :=
  let l := mget (fun _ => []) s.mail.evq q
  let s := s.updMail fun m => { m with evq := mput (fun _ => []) m.evq q [] }
  s.each (byThree l.length l) fun s g =>
    let d := evPayload g
    if q ≤ 16 then s.updMail fun m => m.sendBlock q 3 (fit 0 64 d)
    else if s.f Fld.MB_EVT_DEST_VALID (q - 32) = 0 then s
    else
      let dest := epDest (s.f Fld.MB_EVT_DEST_NODE (q - 32)) (s.f Fld.MB_EVT_DEST_EP (q - 32))
      s.inject 546 { type := 10, vc := 3, flits := flitsOf 10 (d.length - 1), dest := dest, len := d.length - 1, tag := 0, srcEp := 546,
                     srcNode := s.node, hops := s.f Fld.CO_CFG_HOP_LIMIT, payload := d }
/-- EVENT_BLOCK_SEND: the end of a 1 µs window. Sideband queues wait while the sideband does not run. -/
def execEventBlockSend (s : State) : Host.Outcome State Fault Refusal :=
  .next (let s := if s.sideRuns then s.each ((List.range 16).map (· + 1)) State.sendEvents else s
    s.each ((List.range 4).map (· + 32)) State.sendEvents)

/-! ### Replay (R429) and configuration errors (R127) -/

/-- A recorded mailbox command runs as if accepted on its port; its response is discarded. -/
def State.injectCmd (s : State) (r : RingRec) (found : List TestFail) : State :=
  let b := r.payload
  let s := s.updRp fun q => { q with injecting := true }
  let s := s.runCmd r.source (leNat (slice b 0 2)) (leNat (slice b 2 2)) (fit 0 64 (slice b 16 64)) found
  s.updRp fun q => { q with injecting := false }
/-- REPLAY_INJECTION: the next record of the ring at its stamp and phase. GAP, SAFE and END records are REPLAY_HALT's. -/
def State.injectNext (s : State) (found : List TestFail) : State :=
  match s.dueRec with
  | none => s
  | some r =>
    if 9 ≤ r.kind then s
    else
      let s := s.reach r
      let s := if r.kind = 3 then s.injectCmd r found else s.injectOther r
      if s.replaying then s.readFrom (s.replay.readOff + r.size) else s
def execReplayInjection (found : List TestFail) (s : State) : Host.Outcome State Fault Refusal := .next (s.injectNext found)

/-- A syndrome of an uncorrectable word: the one given where it is one (log entry 128). -/
def ueSyn (w : Word) : Word := if classify w = .ue then w else 0x30000
/-- CONFIG_UE: an uncorrectable word in the active plane's configuration. The word, which the landing's decoders found, its
content and its syndrome are free values; it stays in the landing's memory until a load or a scrub rewrites it (R127). -/
def State.configUe (s : State) (n : Nat) : State :=
  match s.active n with
  | none => s
  | some p =>
    if 128 ≤ n then s
    else
      let w := (Config.freeWord s.fresh).toNat
      let a := landing n p (w % 2688) + 32 * (w / 2688 % 32)
      let syn := ueSyn (Config.freeWord (s.fresh + 1))
      let s := ((s.drawn.drawn.scramble a 32).setSyn a syn)
      let s := ((s.inc Fld.EC_UE_COUNT_COUNT 1).logEc (ecEntry a 3 0 syn)).hazard 4 a 0
      (s.setF Fld.EC_STATUS_CONFIG_UE 0 1).enterSafe 6
def execConfigUe (room : Nat) (s : State) : Host.Outcome State Fault Refusal := .next (s.configUe room)

end Sys2Proof.Machine
end

