-- ==== Sys2Proof/Machine/Arrival.lean ====
section
/-!
DEFINITION. RESPONSE_ARRIVAL (R149): what each requester does with a response, and the end of a command's accesses to memory.
-/
namespace Sys2Proof.Machine

/-! ### The end of a command's accesses to memory -/

/-- The block that a doorbell named has been read (R387): a poisoned one is answered POISONED (Table 06-3), any other is the engine's
command. -/
def State.bellEnd (s : State) (r : CmdRef) (m : MemOp) : State :=
  let e := r.2.2.1
  let found := mget (fun _ => []) s.mail.bells e
  let s := s.updMail fun q => { q with inprog := dropInprog q.inprog r, bells := mput (fun _ => []) q.bells e [] }
  if m.poison ≠ 0 then s.deliver (18, s.node, e, 0) 0 (rspBlock 0xB (leNat (slice m.bytes 2 2)) [])
  else s.runCmd 18 s.node e m.bytes found

/-- What a command does when every piece of memory that it reads or writes is done. -/
def State.memEnd (s : State) (op : Nat) (r : CmdRef) (m : MemOp) : State :=
  if op = 0x0105 then s.memReadEnd r m
  else if op = 0x0C04 then s.transitionEnd r m
  else if op = 0x0C05 then s.debugEnd r m
  else if op = 0x0D04 then s.replayHeadEnd r m
  else if op = opBell then s.bellEnd r m
  else if op = opProfileWrite ∨ op = opProfilePush ∨ op = opFwWrite then s.imageEnd r op m
  else s.memWriteEnd r m

/-- A response at the management processor: of a key exchange's message, a TASK_POST, a command's access to memory, a posted write. -/
def State.mpAnswer (s : State) (req p : Packet) : State :=
  if req.type = 8 then s.kexAnswer req.tag (if p.type = 9 then leNat (p.payload.take 1) else 7)
  else match s.mpUser req.tag with
    | none => (s.postAnswered 546 req p).startWaiting
    | some e =>
      let r : CmdRef := (e.port, e.node, e.ep, e.tag)
      if e.opcode = 0x0502 then s.respond r 0 (leBytes 1 p.status ++ leBytes 1 p.poison)
      else
        let (s, m) := s.memAnswer e req p
        match m with | some m => s.memEnd e.opcode r m | none => s
/-- RESPONSE_ARRIVAL: the next response at an endpoint (R149). -/
def State.responseArrives (s : State) (ep : Nat) : State :=
  if ep < 128 then
    match s.take ep 1 with
    | none => s
    | some (p, s) => match s.matchRsp ep p with
      | (some _, s) => s.roomResponse ep p
      | (none, s) => s
  else if 256 ≤ ep ∧ ep < 512 then s.engResponse (ep - 256)
  else if ep = 544 then s.dispatchResponse
  else if ep = 545 then s.homeResponse
  else if ep = 546 then
    match (s.take 546 1).orElse fun _ => s.takeOn (ejectLinks 546) 3 fun p => p.type == 9 && s.isFor 546 p with
    | none => s
    | some (p, s) => match s.matchRsp 546 p with
      | (some r, s) => if r.pkt.srcPlane = 1 then s.tapAnswer r.pkt p.status p.payload else (s.mpAnswer r.pkt p).pumpPosts 546
      | (none, s) => s
  else if 512 ≤ ep then
    match s.takeOn (ejectLinks ep) 1 fun p => s.isFor ep p && p.dstNode == s.node with
    | none => s
    | some (p, s) => match s.matchRsp ep p with
      | (some _, s) => if ep < 528 then s else s.rawResponse (ep - 528) p
      | (none, s) => s
  else s
def execResponseArrival (ep : Nat) (s : State) : Host.Outcome State Fault Refusal := .next (s.responseArrives ep)

end Sys2Proof.Machine
end

