-- ==== Sys2Proof/Machine/Dispatch.lean ====
section
/-! DEFINITION. The dispatch of a command to its meaning: one arm per row of the command table. -/
namespace Sys2Proof.Machine

/-- The effect of a command on everything but the queue of waiting commands. -/
def exec (i : Instr) (s : State) : Host.Outcome State Fault Refusal :=
  match i with
  | .deviceInfo h => Sys2Proof.Machine.execDeviceInfo h s
  | .abort h victim => Sys2Proof.Machine.execAbort h victim s
  | .csrRead h off n => Sys2Proof.Machine.execCsrRead h off n s
  | .csrWrite h off vals => Sys2Proof.Machine.execCsrWrite h off vals s
  | .memRead h addr n => Sys2Proof.Machine.execMemRead h addr n s
  | .memWrite h addr bytes => Sys2Proof.Machine.execMemWrite h addr bytes s
  | .eventRead h => Sys2Proof.Machine.execEventRead h s
  | .eventCfg h mask => Sys2Proof.Machine.execEventCfg h mask s
  | .nop h => Sys2Proof.Machine.execNop h s
  | .clockStatus h => Sys2Proof.Machine.execClockStatus h s
  | .unitGate h kind index opens => Sys2Proof.Machine.execUnitGate h kind index opens s
  | .epochCommit h => Sys2Proof.Machine.execEpochCommit h s
  | .epochDiscard h => Sys2Proof.Machine.execEpochDiscard h s
  | .booksAudit h => Sys2Proof.Machine.execBooksAudit h s
  | .booksRead h dest => Sys2Proof.Machine.execBooksRead h dest s
  | .bankOwner h bank value => Sys2Proof.Machine.execBankOwner h bank value s
  | .bankGuest h bank value => Sys2Proof.Machine.execBankGuest h bank value s
  | .bankRetain h bank => Sys2Proof.Machine.execBankRetain h bank s
  | .bankWake h bank => Sys2Proof.Machine.execBankWake h bank s
  | .bankWipe h bank => Sys2Proof.Machine.execBankWipe h bank s
  | .bankStatus h bank => Sys2Proof.Machine.execBankStatus h bank s
  | .planeLoad h room value => Sys2Proof.Machine.execPlaneLoad h room value s
  | .planeSave h room plane => Sys2Proof.Machine.execPlaneSave h room plane s
  | .planeSwitch h room plane => Sys2Proof.Machine.execPlaneSwitch h room plane s
  | .roomStatus h room => Sys2Proof.Machine.execRoomStatus h room s
  | .roomPark h room => Sys2Proof.Machine.execRoomPark h room s
  | .roomUnpark h room => Sys2Proof.Machine.execRoomUnpark h room s
  | .schedStatus h => Sys2Proof.Machine.execSchedStatus h s
  | .taskPost h recs repost => Sys2Proof.Machine.execTaskPost h recs repost s
  | .templateSet h index d0 d1 d2 d3 => Sys2Proof.Machine.execTemplateSet h index d0 d1 d2 d3 s
  | .imageSet h image imageId locs => Sys2Proof.Machine.execImageSet h image imageId locs s
  | .flowSet h flow prio grouped group => Sys2Proof.Machine.execFlowSet h flow prio grouped group s
  | .groupSet h group window => Sys2Proof.Machine.execGroupSet h group window s
  | .taskCancel h desc => Sys2Proof.Machine.execTaskCancel h desc s
  | .schedDrain h ms => Sys2Proof.Machine.execSchedDrain h ms s
  | .dspStatus h engine => Sys2Proof.Machine.execDspStatus h engine s
  | .dspHalt h engine => Sys2Proof.Machine.execDspHalt h engine s
  | .dspResume h engine => Sys2Proof.Machine.execDspResume h engine s
  | .dspStep h engine => Sys2Proof.Machine.execDspStep h engine s
  | .dspReset h engine drop => Sys2Proof.Machine.execDspReset h engine drop s
  | .dspStart h engine entry vals => Sys2Proof.Machine.execDspStart h engine entry vals s
  | .dpStatus h port => Sys2Proof.Machine.execDpStatus h port s
  | .dpRetrain h port us => Sys2Proof.Machine.execDpRetrain h port us s
  | .dpDown h port => Sys2Proof.Machine.execDpDown h port s
  | .dpUp h port us => Sys2Proof.Machine.execDpUp h port us s
  | .slStatus h group => Sys2Proof.Machine.execSlStatus h group s
  | .slRetrain h group us => Sys2Proof.Machine.execSlRetrain h group us s
  | .slDown h group => Sys2Proof.Machine.execSlDown h group s
  | .slUp h group us => Sys2Proof.Machine.execSlUp h group us s
  | .slSlip h group lane => Sys2Proof.Machine.execSlSlip h group lane s
  | .slPower h group txHold rxHold us => Sys2Proof.Machine.execSlPower h group txHold rxHold us s
  | .enumerate h firstId ms => Sys2Proof.Machine.execEnumerate h firstId ms s
  | .enumAssign h nodeId ms => Sys2Proof.Machine.execEnumAssign h nodeId ms s
  | .crStatus h first => Sys2Proof.Machine.execCrStatus h first s
  | .crRangeRekey h range => Sys2Proof.Machine.execCrRangeRekey h range s
  | .crRangeReset h range => Sys2Proof.Machine.execCrRangeReset h range s
  | .linkKex h link => Sys2Proof.Machine.execLinkKex h link s
  | .kexMsg h msg link total offset bytes => Sys2Proof.Machine.execKexMsg h msg link total offset bytes s
  | .powerStatus h => Sys2Proof.Machine.execPowerStatus h s
  | .thermalStatus h first => Sys2Proof.Machine.execThermalStatus h first s
  | .ageReport h => Sys2Proof.Machine.execAgeReport h s
  | .thermTest h offset ms => Sys2Proof.Machine.execThermTest h offset ms s
  | .foundationReset h => Sys2Proof.Machine.execFoundationReset h s
  | .resume h => Sys2Proof.Machine.execResume h s
  | .recover h retest found => Sys2Proof.Machine.execRecover h retest found s
  | .stackReset h => Sys2Proof.Machine.execStackReset h s
  | .selftestRun h kind unit found => Sys2Proof.Machine.execSelftestRun h kind unit found s
  | .selftestResult h => Sys2Proof.Machine.execSelftestResult h s
  | .checkerMode h bank enable rawRead => Sys2Proof.Machine.execCheckerMode h bank enable rawRead s
  | .ecLogRead h => Sys2Proof.Machine.execEcLogRead h s
  | .lcStatus h => Sys2Proof.Machine.execLcStatus h s
  | .certRead h curve dest => Sys2Proof.Machine.execCertRead h curve dest s
  | .attest h curve dest nonce => Sys2Proof.Machine.execAttest h curve dest nonce s
  | .lcTransition h target source len => Sys2Proof.Machine.execLcTransition h target source len s
  | .debugAccess h level source len => Sys2Proof.Machine.execDebugAccess h level source len s
  | .rpStatus h => Sys2Proof.Machine.execRpStatus h s
  | .recordStart h firstBank banks links sources => Sys2Proof.Machine.execRecordStart h firstBank banks links sources s
  | .recordStop h => Sys2Proof.Machine.execRecordStop h s
  | .replayStart h firstBank banks => Sys2Proof.Machine.execReplayStart h firstBank banks s
  | .replayStop h => Sys2Proof.Machine.execReplayStop h s
  | .storeStatus h => Sys2Proof.Machine.execStoreStatus h s
  | .profileList h => Sys2Proof.Machine.execProfileList h s
  | .profileWrite h slot source len => Sys2Proof.Machine.execProfileWrite h slot source len s
  | .profileErase h slot => Sys2Proof.Machine.execProfileErase h slot s
  | .profilePush h source len => Sys2Proof.Machine.execProfilePush h source len s
  | .profileSelect h slot => Sys2Proof.Machine.execProfileSelect h slot s
  | .fwWrite h source len => Sys2Proof.Machine.execFwWrite h source len s
  | .journalSet h off value mask => Sys2Proof.Machine.execJournalSet h off value mask s
  | .journalClear h off => Sys2Proof.Machine.execJournalClear h off s
  | .journalRead h dest => Sys2Proof.Machine.execJournalRead h dest s
  | .journalCompact h => Sys2Proof.Machine.execJournalCompact h s
  | .entdaa da => Sys2Proof.Machine.execEntdaa da s
  | .rstdaa => Sys2Proof.Machine.execRstdaa s
  | .enec events => Sys2Proof.Machine.execEnec events s
  | .disec events => Sys2Proof.Machine.execDisec events s
  | .getpid => Sys2Proof.Machine.execGetpid s
  | .getbcr => Sys2Proof.Machine.execGetbcr s
  | .getdcr => Sys2Proof.Machine.execGetdcr s
  | .getstatus => Sys2Proof.Machine.execGetstatus s
  | .getmwl => Sys2Proof.Machine.execGetmwl s
  | .getmrl => Sys2Proof.Machine.execGetmrl s
  | .i3cPrivateWrite bytes found => Sys2Proof.Machine.execI3cPrivateWrite bytes found s
  | .i3cPrivateRead len => Sys2Proof.Machine.execI3cPrivateRead len s
  | .mbCmd found => Sys2Proof.Machine.execMbCmd found s
  | .mbEngBell engine addr found => Sys2Proof.Machine.execMbEngBell engine addr found s
  | .sidebandMessage port header data found => Sys2Proof.Machine.execSidebandMessage port header data found s
  | .sidebandBlockTimeout port => Sys2Proof.Machine.execSidebandBlockTimeout port s
  | .eventBlockSend => Sys2Proof.Machine.execEventBlockSend s
  | .commandTimeLimit port node ep tag => Sys2Proof.Machine.execCommandTimeLimit port node ep tag s
  | .delayedStackReset => Sys2Proof.Machine.execDelayedStackReset s
  | .load room agent value => Sys2Proof.Machine.execLoad room agent value s
  | .stateReload room agent value => Sys2Proof.Machine.execStateReload room agent value s
  | .save room agent value => Sys2Proof.Machine.execSave room agent value s
  | .drainComplete room => Sys2Proof.Machine.execDrainComplete room s
  | .drainLimit room => Sys2Proof.Machine.execDrainLimit room s
  | .loadRow room crossing => Sys2Proof.Machine.execLoadRow room crossing s
  | .loadFinish room => Sys2Proof.Machine.execLoadFinish room s
  | .planectlSwitchRequest room target => Sys2Proof.Machine.execPlanectlSwitchRequest room target s
  | .planectlDone room => Sys2Proof.Machine.execPlanectlDone room s
  | .heldSwitch room => Sys2Proof.Machine.execHeldSwitch room s
  | .rowRequest room loft row write data poison => Sys2Proof.Machine.execRowRequest room loft row write data poison s
  | .rowMove room crossing => Sys2Proof.Machine.execRowMove room crossing s
  | .roomEndpointRequest room => Sys2Proof.Machine.execRoomEndpointRequest room s
  | .roomRamAccess room => Sys2Proof.Machine.execRoomRamAccess room s
  | .serviceLaneRequest stair => Sys2Proof.Machine.execServiceLaneRequest stair s
  | .serviceAccess stair sameCycle crossing => Sys2Proof.Machine.execServiceAccess stair sameCycle crossing s
  | .handover bank value => Sys2Proof.Machine.execHandover bank value s
  | .handoverComplete bank => Sys2Proof.Machine.execHandoverComplete bank s
  | .guestGrant bank value => Sys2Proof.Machine.execGuestGrant bank value s
  | .retentionRequest bank => Sys2Proof.Machine.execRetentionRequest bank s
  | .wakeRequest bank => Sys2Proof.Machine.execWakeRequest bank s
  | .retentionEntryComplete bank => Sys2Proof.Machine.execRetentionEntryComplete bank s
  | .wakeStart bank => Sys2Proof.Machine.execWakeStart bank s
  | .wakeComplete bank => Sys2Proof.Machine.execWakeComplete bank s
  | .wipeRequest bank => Sys2Proof.Machine.execWipeRequest bank s
  | .wipeComplete bank => Sys2Proof.Machine.execWipeComplete bank s
  | .startUpWipe loft => Sys2Proof.Machine.execStartUpWipe loft s
  | .checkerTestModeEntry value => Sys2Proof.Machine.execCheckerTestModeEntry value s
  | .checkerTestModeExit value => Sys2Proof.Machine.execCheckerTestModeExit value s
  | .ecLogPop => Sys2Proof.Machine.execEcLogPop s
  | .mowingRowVisit store => Sys2Proof.Machine.execMowingRowVisit store s
  | .scrubAccess visit => Sys2Proof.Machine.execScrubAccess visit s
  | .mowingWindow => Sys2Proof.Machine.execMowingWindow s
  | .copyPassRow bank => Sys2Proof.Machine.execCopyPassRow bank s
  | .vtParityMismatch stair group found => Sys2Proof.Machine.execVtParityMismatch stair group found s
  | .walkingPatternTest stair => Sys2Proof.Machine.execWalkingPatternTest stair s
  | .repairOutcome stair failing => Sys2Proof.Machine.execRepairOutcome stair failing s
  | .repairSamplingResume stair => Sys2Proof.Machine.execRepairSamplingResume stair s
  | .packetForward router out linkErr => Sys2Proof.Machine.execPacketForward router out linkErr s
  | .creditReturn link vc cls n => Sys2Proof.Machine.execCreditReturn link vc cls n s
  | .csrAccess found => Sys2Proof.Machine.execCsrAccess found s
  | .responseArrival ep => Sys2Proof.Machine.execResponseArrival ep s
  | .responseTimeLimit ep plane tag => Sys2Proof.Machine.execResponseTimeLimit ep plane tag s
  | .expiredTagRelease ep plane tag => Sys2Proof.Machine.execExpiredTagRelease ep plane tag s
  | .berrArm => Sys2Proof.Machine.execBerrArm s
  | .coBookSnapshot index => Sys2Proof.Machine.execCoBookSnapshot index s
  | .epPeek value => Sys2Proof.Machine.execEpPeek value s
  | .token attach => Sys2Proof.Machine.execToken attach s
  | .tokenRecord attach => Sys2Proof.Machine.execTokenRecord attach s
  | .dispatchPipe pipe => Sys2Proof.Machine.execDispatchPipe pipe s
  | .dispatch engine => Sys2Proof.Machine.execDispatch engine s
  | .dispatchResponse => Sys2Proof.Machine.execDispatchResponse s
  | .switchRepeat room => Sys2Proof.Machine.execSwitchRepeat room s
  | .done => Sys2Proof.Machine.execDone s
  | .resultRecordPost => Sys2Proof.Machine.execResultRecordPost s
  | .tick => Sys2Proof.Machine.execTick s
  | .delayExpiry list => Sys2Proof.Machine.execDelayExpiry list s
  | .delayListWalk list => Sys2Proof.Machine.execDelayListWalk list s
  | .useCountDecay => Sys2Proof.Machine.execUseCountDecay s
  | .haltRequest engine value => Sys2Proof.Machine.execHaltRequest engine value s
  | .engineHalt engine => Sys2Proof.Machine.execEngineHalt engine s
  | .step engine => Sys2Proof.Machine.execStep engine s
  | .deRfDataWrite engine value => Sys2Proof.Machine.execDeRfDataWrite engine value s
  | .engineMemoryAccess engine => Sys2Proof.Machine.execEngineMemoryAccess engine s
  | .engineResponse engine => Sys2Proof.Machine.execEngineResponse engine s
  | .nopInstruction engine f => Sys2Proof.Machine.execNopInstruction engine f s
  | .ld engine f => Sys2Proof.Machine.execLd engine f s
  | .st engine f => Sys2Proof.Machine.execSt engine f s
  | .mov engine f => Sys2Proof.Machine.execMov engine f s
  | .movr engine f => Sys2Proof.Machine.execMovr engine f s
  | .ldi engine f => Sys2Proof.Machine.execLdi engine f s
  | .setp engine f => Sys2Proof.Machine.execSetp engine f s
  | .movp engine f => Sys2Proof.Machine.execMovp engine f s
  | .rdr engine f => Sys2Proof.Machine.execRdr engine f s
  | .wrr engine f => Sys2Proof.Machine.execWrr engine f s
  | .acc engine f => Sys2Proof.Machine.execAcc engine f s
  | .alu engine f => Sys2Proof.Machine.execAlu engine f s
  | .alui engine f => Sys2Proof.Machine.execAlui engine f s
  | .cmac engine f => Sys2Proof.Machine.execCmac engine f s
  | .dmac engine f => Sys2Proof.Machine.execDmac engine f s
  | .tapm engine f => Sys2Proof.Machine.execTapm engine f s
  | .bfly engine f => Sys2Proof.Machine.execBfly engine f s
  | .sta engine f => Sys2Proof.Machine.execSta engine f s
  | .rep engine f => Sys2Proof.Machine.execRep engine f s
  | .br engine f => Sys2Proof.Machine.execBr engine f s
  | .dbnz engine f => Sys2Proof.Machine.execDbnz engine f s
  | .call engine f => Sys2Proof.Machine.execCall engine f s
  | .ret engine f => Sys2Proof.Machine.execRet engine f s
  | .get engine f => Sys2Proof.Machine.execGet engine f s
  | .put engine f => Sys2Proof.Machine.execPut engine f s
  | .sendtok engine f => Sys2Proof.Machine.execSendtok engine f s
  | .sendmsg engine f => Sys2Proof.Machine.execSendmsg engine f s
  | .wait engine f => Sys2Proof.Machine.execWait engine f s
  | .doneInstruction engine f => Sys2Proof.Machine.execDoneInstruction engine f s
  | .bkpt engine f => Sys2Proof.Machine.execBkpt engine f s
  | .dataFlit link flit => Sys2Proof.Machine.execDataFlit link flit s
  | .nullFlit link flit => Sys2Proof.Machine.execNullFlit link flit s
  | .initFlit link flit => Sys2Proof.Machine.execInitFlit link flit s
  | .resyncFlit link flit => Sys2Proof.Machine.execResyncFlit link flit s
  | .nak group flit => Sys2Proof.Machine.execNak group flit s
  | .pm group flit => Sys2Proof.Machine.execPm group flit s
  | .lmb group flit => Sys2Proof.Machine.execLmb group flit s
  | .teq group flit => Sys2Proof.Machine.execTeq group flit s
  | .frame group rx => Sys2Proof.Machine.execFrame group rx s
  | .flitSend link vc => Sys2Proof.Machine.execFlitSend link vc s
  | .ackTimer link => Sys2Proof.Machine.execAckTimer link s
  | .replayTimer group => Sys2Proof.Machine.execReplayTimer group s
  | .dpCtrlRetrain port => Sys2Proof.Machine.execDpCtrlRetrain port s
  | .dpCtrlHoldDown port value => Sys2Proof.Machine.execDpCtrlHoldDown port value s
  | .slCtrlRetrain group => Sys2Proof.Machine.execSlCtrlRetrain group s
  | .slCtrlHoldDown group value => Sys2Proof.Machine.execSlCtrlHoldDown group value s
  | .slCtrlSlip group value => Sys2Proof.Machine.execSlCtrlSlip group value s
  | .txHold group value => Sys2Proof.Machine.execTxHold group value s
  | .rxHold group value => Sys2Proof.Machine.execRxHold group value s
  | .replayBufferDrainLimit link => Sys2Proof.Machine.execReplayBufferDrainLimit link s
  | .trainingAttempt link => Sys2Proof.Machine.execTrainingAttempt link s
  | .alignmentCheck group matched => Sys2Proof.Machine.execAlignmentCheck group matched s
  | .ffeTuningRound group requests => Sys2Proof.Machine.execFfeTuningRound group requests s
  | .frameLock group => Sys2Proof.Machine.execFrameLock group s
  | .adapterActive link rate => Sys2Proof.Machine.execAdapterActive link rate s
  | .trainingFailure link => Sys2Proof.Machine.execTrainingFailure link s
  | .failedRetry link => Sys2Proof.Machine.execFailedRetry link s
  | .l1Entry port => Sys2Proof.Machine.execL1Entry port s
  | .l1Exit port => Sys2Proof.Machine.execL1Exit port s
  | .txiEntry group => Sys2Proof.Machine.execTxiEntry group s
  | .txsEntry group => Sys2Proof.Machine.execTxsEntry group s
  | .txExit group => Sys2Proof.Machine.execTxExit group s
  | .portMainbandStop port => Sys2Proof.Machine.execPortMainbandStop port s
  | .rawTransmit group => Sys2Proof.Machine.execRawTransmit group s
  | .rawReceive group block ue => Sys2Proof.Machine.execRawReceive group block ue s
  | .rawControlPoll group => Sys2Proof.Machine.execRawControlPoll group s
  | .rawRingRetry group => Sys2Proof.Machine.execRawRingRetry group s
  | .enumAssignResponse link status lastId => Sys2Proof.Machine.execEnumAssignResponse link status lastId s
  | .protectedRead => Sys2Proof.Machine.execProtectedRead s
  | .fullLineWrite => Sys2Proof.Machine.execFullLineWrite s
  | .partialWrite => Sys2Proof.Machine.execPartialWrite s
  | .homeResponse => Sys2Proof.Machine.execHomeResponse s
  | .nodeVerification job => Sys2Proof.Machine.execNodeVerification job s
  | .writeBack key => Sys2Proof.Machine.execWriteBack key s
  | .pageReEncryption range => Sys2Proof.Machine.execPageReEncryption range s
  | .rangeInitialisation range => Sys2Proof.Machine.execRangeInitialisation range s
  | .rekeyPage range => Sys2Proof.Machine.execRekeyPage range s
  | .rangeDisable range => Sys2Proof.Machine.execRangeDisable range s
  | .autoKex link => Sys2Proof.Machine.execAutoKex link s
  | .kexTimeout link => Sys2Proof.Machine.execKexTimeout link s
  | .kexFragmentGap link => Sys2Proof.Machine.execKexFragmentGap link s
  | .gateOpen kind index => Sys2Proof.Machine.execGateOpen kind index s
  | .gateOpenComplete kind index => Sys2Proof.Machine.execGateOpenComplete kind index s
  | .gateClose kind index => Sys2Proof.Machine.execGateClose kind index s
  | .gateDrainEnd kind index => Sys2Proof.Machine.execGateDrainEnd kind index s
  | .clockSwitch point toLoop forced => Sys2Proof.Machine.execClockSwitch point toLoop forced s
  | .powerOnReset => Sys2Proof.Machine.execPowerOnReset s
  | .powerOnResetRelease profilePins => Sys2Proof.Machine.execPowerOnResetRelease profilePins s
  | .railsPowerGood => Sys2Proof.Machine.execRailsPowerGood s
  | .resetN => Sys2Proof.Machine.execResetN s
  | .lockstepMismatch => Sys2Proof.Machine.execLockstepMismatch s
  | .bootVerification => Sys2Proof.Machine.execBootVerification s
  | .judgementWindow edges => Sys2Proof.Machine.execJudgementWindow edges s
  | .hearthLoopLock => Sys2Proof.Machine.execHearthLoopLock s
  | .refclkLost => Sys2Proof.Machine.execRefclkLost s
  | .hearthLoopStop => Sys2Proof.Machine.execHearthLoopStop s
  | .relockAttempt locked => Sys2Proof.Machine.execRelockAttempt locked s
  | .rcFail => Sys2Proof.Machine.execRcFail s
  | .startUpSelfTest order slice overrun found => Sys2Proof.Machine.execStartUpSelfTest order slice overrun found s
  | .profile content => Sys2Proof.Machine.execProfile content s
  | .commitFreeze => Sys2Proof.Machine.execCommitFreeze s
  | .commitApply => Sys2Proof.Machine.execCommitApply s
  | .commitPoint => Sys2Proof.Machine.execCommitPoint s
  | .commitResponse => Sys2Proof.Machine.execCommitResponse s
  | .audit => Sys2Proof.Machine.execAudit s
  | .foundationResetPendingEnd => Sys2Proof.Machine.execFoundationResetPendingEnd s
  | .foundationResetFreeze => Sys2Proof.Machine.execFoundationResetFreeze s
  | .foundationResetHold => Sys2Proof.Machine.execFoundationResetHold s
  | .foundationResetRelease => Sys2Proof.Machine.execFoundationResetRelease s
  | .backgroundSlice stair => Sys2Proof.Machine.execBackgroundSlice stair s
  | .sliceSaveDone rows => Sys2Proof.Machine.execSliceSaveDone rows s
  | .sliceMarchDone stair found => Sys2Proof.Machine.execSliceMarchDone stair found s
  | .sliceRestoreDone rows => Sys2Proof.Machine.execSliceRestoreDone rows s
  | .sliceBudgetExpiry stair => Sys2Proof.Machine.execSliceBudgetExpiry stair s
  | .sheddingStepEntry step rail => Sys2Proof.Machine.execSheddingStepEntry step rail s
  | .sheddingStepExit step => Sys2Proof.Machine.execSheddingStepExit step s
  | .railStateLost rail => Sys2Proof.Machine.execRailStateLost rail s
  | .adcConversion reading => Sys2Proof.Machine.execAdcConversion reading s
  | .slowRoundEnd => Sys2Proof.Machine.execSlowRoundEnd s
  | .ageingMeasurement readings => Sys2Proof.Machine.execAgeingMeasurement readings s
  | .lifeRecord => Sys2Proof.Machine.execLifeRecord s
  | .thermTestEnd => Sys2Proof.Machine.execThermTestEnd s
  | .journalCompaction => Sys2Proof.Machine.execJournalCompaction s
  | .recorderDrain => Sys2Proof.Machine.execRecorderDrain s
  | .checkRecord => Sys2Proof.Machine.execCheckRecord s
  | .stampLimit => Sys2Proof.Machine.execStampLimit s
  | .replayInjection found => Sys2Proof.Machine.execReplayInjection found s
  | .replayHalt cause => Sys2Proof.Machine.execReplayHalt cause s
  | .lcChalNew => Sys2Proof.Machine.execLcChalNew s
  | .btResPop => Sys2Proof.Machine.execBtResPop s
  | .readClear off => Sys2Proof.Machine.execReadClear off s
  | .lowWordReadLatch off => Sys2Proof.Machine.execLowWordReadLatch off s
  | .registerWrite off value => Sys2Proof.Machine.execRegisterWrite off value s
  | .ckRoomEdge room vt logic => Sys2Proof.Machine.execCkRoomEdge room vt logic s
  | .corridorTransmit room pkt => Sys2Proof.Machine.execCorridorTransmit room pkt s
  | .tapAccess op => Sys2Proof.Machine.execTapAccess op s
  | .forwardedClockStop group => Sys2Proof.Machine.execForwardedClockStop group s
  | .adapterRetryFailure port replays => Sys2Proof.Machine.execAdapterRetryFailure port replays s
  | .laneFault port lane tx => Sys2Proof.Machine.execLaneFault port lane tx s
  | .configUe room => Sys2Proof.Machine.execConfigUe room s
  | .resetNRelease profilePins => Sys2Proof.Machine.execResetNRelease profilePins s
  | .lockFail => Sys2Proof.Machine.execLockFail s
  | .programOrEraseEnd failed => Sys2Proof.Machine.execProgramOrEraseEnd failed s

end Sys2Proof.Machine
end

