-- ==== Sys2Proof/Safety.lean ====
section
/-!
DEFINITION. What counts as a well-kept state and as an accepted command, in the terms that the statements use.
-/
namespace Sys2Proof.Machine

/-- The canonical form of a memory: addresses strictly rising, no entry equal to what an unlisted address reads as (0,
log entry 4). -/
def Memory.wf (m : List Host.Cell) : Bool := mwf (fun _ => (0 : Byte)) m

/-- Every sparse table of the state is in its canonical form: the registers (an absent offset holds its reset value), the
memories and their syndromes, the flash (erased bytes read 0xFF), rooms, stairs, banks, engines and links, the storage on die. -/
structure State.canon (s : State) : Prop where
  regs : mwf regDefault s.regs = true
  mem : Memory.wf s.mem = true
  synd : mwf (fun _ => (0 : Word)) s.synd = true
  flash : mwf (fun _ => (0xFF : Byte)) s.flash = true
  rooms : mwf (fun _ => ({} : Room)) s.rooms = true
  stairs : mwf (fun _ => ({} : Stair)) s.stairs = true
  banks : mwf (fun _ => ({} : Bank)) s.banks = true
  engs : mwf (fun _ => ({} : Eng)) s.engs = true
  links : mwf (fun _ => ({} : Link)) s.links = true
  odie : mwf (fun _ => (0 : Word)) s.odie = true

/-! ### Tables inside the units -/

/-- The sparse tables that the units hold are in canonical form too: planes and their slots, corridor, services, mailbox,
scheduler, engines, links, crypto unit, clocks, mowing round, power, fuses, journal, staged sets. -/
structure State.tables (s : State) : Prop where
  planes : ∀ n, mwf (fun _ => ({} : Plane)) (s.room n).planes = true
  slots : ∀ n p, mwf (fun _ => Slot.free) (s.plane n p).slots = true
  mults : ∀ n p, mwf (fun _ => ({} : MultReg)) (s.plane n p).mults = true
  spares : ∀ b, mwf (fun _ => (0, 0)) (s.bank b).spares = true
  svc : mwf (fun _ => none) s.svc = true
  bufs : mwf (fun _ => []) s.net.bufs = true
  send : mwf (fun _ => []) s.net.send = true
  books : mwf bookDefault s.net.books = true
  arbs : mwf (fun _ => ({} : Arb)) s.net.arbs = true
  arbLast : ∀ i, mwf (fun _ => 5) (mget (fun _ => ({} : Arb)) s.net.arbs i).last = true
  outReq : mwf (fun _ => none) s.net.outReq = true
  posts : mwf (fun _ => []) s.net.posts = true
  rsp : mwf (fun _ => []) s.mail.rsp = true
  evq : mwf (fun _ => []) s.mail.evq = true
  part : mwf (fun _ => []) s.mail.part = true
  partKind : mwf (fun _ => 0) s.mail.partKind = true
  causes : mwf (fun _ => 0) s.mail.causes = true
  seq8 : mwf (fun _ => 0) s.mail.seq8 = true
  bells : mwf (fun _ => []) s.mail.bells = true
  descs : mwf (fun _ => ({} : Desc)) s.sched.descs = true
  mtab : mwf (fun _ => 0) s.sched.mtab = true
  flows : mwf (fun _ => ({} : Flow)) s.sched.flows = true
  groups : mwf (fun _ => ({} : Grp)) s.sched.groups = true
  delays : mwf (fun _ => ({} : DelayList)) s.sched.delays = true
  pipes : mwf (fun _ => ({} : Pipe)) s.sched.pipes = true
  ready : ∀ p, mwf (fun _ => []) (s.pipe p).ready = true
  use : mwf (fun _ => 0) s.sched.use = true
  tokPkt : mwf (fun _ => none) s.sched.tokPkt = true
  mways : mwf (fun _ => 0) s.sched.mways = true
  wantSwitch : mwf (fun _ => []) s.sched.wantSwitch = true
  d : ∀ e, mwf (fun _ => 0) (s.eng e).d = true
  a : ∀ e, mwf (fun _ => 0) (s.eng e).a = true
  ptr : ∀ e, mwf (fun _ => 0) (s.eng e).ptr = true
  mod : ∀ e, mwf (fun _ => 0) (s.eng e).mod = true
  len : ∀ e, mwf (fun _ => 0) (s.eng e).len = true
  tags : ∀ e, mwf (fun _ => ({} : EngTag)) (s.eng e).tags = true
  rxStream : ∀ k, mwf (fun _ => []) (s.link k).rxStream = true
  rxEnts : ∀ k, mwf (fun _ => []) (s.link k).rxEnts = true
  txQ : ∀ k, mwf (fun _ => []) (s.link k).txQ = true
  badFrames : ∀ k, mwf (fun _ => 0) (s.link k).badFrames = true
  replays : ∀ k, mwf (fun _ => 0) (s.link k).replays = true
  carriedCr : ∀ k, mwf (fun _ => zero4) (s.link k).carriedCr = true
  ranges : mwf (fun _ => ({} : CrRange)) s.crypto.ranges = true
  reqs : mwf (fun _ => none) s.crypto.reqs = true
  jobs : mwf (fun _ => none) s.crypto.jobs = true
  gating : mwf (fun _ => 0) s.clk.gating = true
  planeRow : mwf (fun _ => 0) s.mow.planeRow = true
  scrubs : mwf (fun _ => 0) s.mow.scrubs = true
  lifeUs : mwf (fun _ => 0) s.pow.lifeUs = true
  keyHash : mwf (fun _ => 0) s.fuses.keyHash = true
  settings : mwf (fun _ => (0, 0)) s.journal.settings = true
  latch : mwf (fun _ => 0) s.latch = true
  staged : mwf (fun _ => none) s.staged = true
  snapshot : mwf (fun _ => none) s.snapshot = true

/-! ### Engines -/

/-- No command that engine e answers came from an engine: such an answer is stored in X memory (R386). -/
def State.ownFree (s : State) (e : Nat) : Prop :=
  let g := s.eng e
  ∀ r ∈ g.haltCmds ++ g.stepCmds ++ g.startCmd.toList.map EngStart.cmd, r.1 ≠ 18

/-- Engine e, running, is at an instruction boundary with no halt requested, no repeat and no access that must come first, no
engine's command waits for it, and the word at its PC is opcode op with bits 25:0 f, which R224 accepts, read without poison. -/
structure State.fetched (s : State) (e op f : Nat) : Prop where
  eng : e < 256
  runs : s.engState e = 2
  noHalt : s.f Fld.DE_CTRL_HALT e = 0
  noRep : (s.eng e).rep = 0
  noStep : (s.eng e).stepping = false
  inside : (s.eng e).pcOver = false
  slots : s.svcDue e = false
  own : s.ownFree e
  word : (s.engRead (pAddr e (s.f Fld.DE_PC_PC e))).1 = 2 ^ 26 * op + f
  clean : (s.engRead (pAddr e (s.f Fld.DE_PC_PC e))).2.1 = false
  legal : illegalWord (2 ^ 26 * op + f) = false

/-- Completion of one instruction (R226, R228): the next program index, the cycles counted, still in RUN. -/
def State.engNext (s u : State) (e next c : Nat) : Prop :=
  u.f Fld.DE_PC_PC e = next % 8192 ∧ (u.eng e).pcOver = decide (8192 ≤ next) ∧
    (u.eng e).cycles = ((s.eng e).cycles + s.cyc e c) % 2 ^ 64 ∧ u.engState e = 2 ∧ (u.eng e).rep = 0

/-- The register file of engine e outside the listed D and A registers, pointers, modifiers and modes, and every other
engine, are as before. -/
def State.engKeeps (s u : State) (e : Nat) (ds as ps ms ls : List Nat) : Prop :=
  (∀ k, k ∉ ds → (u.eng e).dv k = (s.eng e).dv k) ∧ (∀ k, k ∉ as → (u.eng e).av k = (s.eng e).av k) ∧
    (∀ k, k ∉ ps → (u.eng e).pv k = (s.eng e).pv k) ∧ (∀ k, k ∉ ms → (u.eng e).mv k = (s.eng e).mv k) ∧
    (∀ k, k ∉ ls → (u.eng e).lv k = (s.eng e).lv k) ∧ ∀ j, j ≠ e → u.eng j = s.eng j

/-- No byte of memory, no syndrome and no flag of engine e changes. -/
def State.engQuiet (s u : State) (e : Nat) : Prop :=
  u.mem = s.mem ∧ u.synd = s.synd ∧ u.rd .DE_FLAGS e = s.rd .DE_FLAGS e

/-- The 32-bit word v with poison mark b is stored at address a: the other bytes of its 32-byte code word hold what the
decoder of s delivered, the word is stored as poison where b or the old code word was, and every byte outside the code
word is as before (R125, R126, R207). -/
def State.engStored (s u : State) (a v : Nat) (b : Bool) : Prop :=
  (u.engRead a).1 = v ∧ (u.engRead a).2.1 = (b || (s.decoded a).2) ∧
    (∀ j, j < 32 → ¬(a % 32 ≤ j ∧ j < a % 32 + 4) → u.byte (a / 32 * 32 + j) = (s.decoded a).1.getD j 0) ∧
    ∀ x, x / 32 ≠ a / 32 → u.byte x = s.byte x

/-- N, Z and V as given; STICKY is set where V is, else kept (R241). -/
def State.engFlags (s u : State) (e : Nat) (n z v : Bool) : Prop :=
  u.f Fld.DE_FLAGS_N e = n.toNat ∧ u.f Fld.DE_FLAGS_Z e = z.toNat ∧ u.f Fld.DE_FLAGS_V e = v.toNat ∧
    u.f Fld.DE_FLAGS_STICKY e = if v then 1 else s.f Fld.DE_FLAGS_STICKY e

/-- Entry into EXC (R222): the exception registers, the count, the event, and no change to the register file, flags and
memory (R242). -/
def State.engRaised (s u : State) (e cause space word : Nat) : Prop :=
  u.f Fld.DE_EXC_VALID e = 1 ∧ u.f Fld.DE_EXC_CAUSE e = cause ∧
    u.f Fld.DE_EXC_PC e = (if (s.eng e).pcOver then 8191 else s.f Fld.DE_PC_PC e) ∧
    u.f Fld.DE_EXC_ADDR_SPACE e = space ∧ u.f Fld.DE_EXC_ADDR_WORD e = word ∧
    u.f Fld.DE_EXC_COUNT_COUNT e = min (s.f Fld.DE_EXC_COUNT_COUNT e + 1) Fld.DE_EXC_COUNT_COUNT.top ∧
    (s.f Fld.DE_TASK_VALID e = 0 ∨ s.f Fld.DE_CFG_EXC_ACTION e = 0 → u.engState e = 4) ∧
    s.engKeeps u e [] [] [] [] [] ∧ s.engQuiet u e

/-! ### Links -/

/-- Link k is ACTIVE in flit mode with its receiver on, and nothing waits for its replay buffer to drain. -/
structure State.linkSteady (s : State) (k : Nat) : Prop where
  known : k < 32
  active : s.linkActive k = true
  flits : s.rawOn k = false
  receives : s.rxState k ≠ 3
  noHold : (s.link k).holdAfterDrain = false
  noDepths : (s.link k).depthChange = false
  noShed : (s.link k).l1Shed = false
  ref : s.refLost = false

/-- What the ACK and credits of a good flit do (R247): the flits they cover leave the replay buffer, and the credits go
from outstanding to available. -/
def State.linkAcked (s u : State) (k : Nat) (f : Flit) (rest : List Flit) : Prop :=
  (u.link k).replay = rest ∧ (u.link k).cred = add4 (s.link k).cred f.credits ∧
    (u.link k).outst = List.zipWith (· - ·) (s.link k).outst f.credits

/-- Nothing waits for link k to be ACTIVE but the commands that ask for it. -/
structure State.linkFree (s : State) (k : Nat) : Prop where
  held : s.heldDown k = false
  again : (s.link k).again = false
  retrain : s.linkF Fld.DP_CTRL_RETRAIN Fld.SL_CTRL_RETRAIN k = 0
  shed : s.f Fld.PW_SHED_STATUS_LEVEL 0 = 0
  ref : s.refLost = false
  noShed : (s.link k).l1Shed = false
  lmb : (s.link k).lmbOut = []

/-! ### Accepted commands -/

/-- An Ebryn command: its sender, opcode, service level (R389), argument bytes, and whether a further ground of R388 denies
it. -/
structure Ebryn where
  h : CmdHdr
  op : Nat
  svc : Svc
  args : List Byte
  deny : Bool

/-- The Ebryn command that a row of the table is (Tables 17-6 and following), none for the other rows. -/
def ebryn (s : State) : Instr → Option Ebryn
  | .deviceInfo h => some ⟨h, 0x0101, .b, [], false⟩
  | .abort h victim => some ⟨h, 0x0102, .b, (argBytes [(6, 2, victim)]), false⟩
  | .csrRead h off n => some ⟨h, 0x0103, .i, (argBytes [(6, 4, off), (10, 1, n)]), false⟩
  | .csrWrite h off vals => some ⟨h, 0x0104, .i, (argBytes ([(6, 4, off), (10, 1, vals.length)] ++ vals.zipIdx.map fun (x : Nat × Nat) => (12 + 4 * x.2, 4, x.1))), h.port != 0 && touchesMb off vals.length⟩
  | .memRead h addr n => some ⟨h, 0x0105, .i, (argBytes [(6, 8, addr), (14, 1, n)]), false⟩
  | .memWrite h addr bytes => some ⟨h, 0x0106, (if (addr / 2 ^ 48 = s.node ∧ inStaging (addr % 2 ^ 48) bytes.length) ∧ ¬(s.fuses.lc = 4 ∨ s.fuses.ue) then .b else .i), (argBytes [(6, 8, addr), (14, 1, bytes.length)] ++ [0] ++ bytes), false⟩
  | .eventRead h => some ⟨h, 0x0107, .i, [], false⟩
  | .eventCfg h mask => some ⟨h, 0x0108, .i, (argBytes [(6, 4, mask)]), false⟩
  | .nop h => some ⟨h, 0x0109, .b, [], false⟩
  | .clockStatus h => some ⟨h, 0x0110, .i, [], false⟩
  | .unitGate h kind index opens => some ⟨h, 0x0111, .r, (argBytes [(6, 1, kind), (7, 1, index), (8, 1, if opens then 1 else 0)]), false⟩
  | .epochCommit h => some ⟨h, 0x0201, .r, [], false⟩
  | .epochDiscard h => some ⟨h, 0x0202, .s, [], false⟩
  | .booksAudit h => some ⟨h, 0x0203, .r, [], false⟩
  | .booksRead h dest => some ⟨h, 0x0204, .s, (argBytes [(6, 8, dest)]), false⟩
  | .bankOwner h bank value => some ⟨h, 0x0301, .r, (argBytes [(6, 2, bank), (8, 4, value)]), false⟩
  | .bankGuest h bank value => some ⟨h, 0x0302, .r, (argBytes [(6, 2, bank), (8, 4, value)]), false⟩
  | .bankRetain h bank => some ⟨h, 0x0303, .r, (argBytes [(6, 2, bank)]), false⟩
  | .bankWake h bank => some ⟨h, 0x0304, .r, (argBytes [(6, 2, bank)]), false⟩
  | .bankWipe h bank => some ⟨h, 0x0305, .r, (argBytes [(6, 2, bank)]), false⟩
  | .bankStatus h bank => some ⟨h, 0x0306, .s, (argBytes [(6, 2, bank)]), false⟩
  | .planeLoad h room value => some ⟨h, 0x0401, .r, (argBytes [(6, 1, room), (8, 4, value)]), false⟩
  | .planeSave h room plane => some ⟨h, 0x0402, .r, (argBytes [(6, 1, room), (7, 1, plane)]), false⟩
  | .planeSwitch h room plane => some ⟨h, 0x0403, .r, (argBytes [(6, 1, room), (7, 1, plane)]), false⟩
  | .roomStatus h room => some ⟨h, 0x0404, .s, (argBytes [(6, 1, room)]), false⟩
  | .roomPark h room => some ⟨h, 0x0405, .r, (argBytes [(6, 1, room)]), false⟩
  | .roomUnpark h room => some ⟨h, 0x0406, .r, (argBytes [(6, 1, room)]), false⟩
  | .schedStatus h => some ⟨h, 0x0501, .s, [], false⟩
  | .taskPost h recs repost => some ⟨h, 0x0502, .r, (argBytes ([(6, 1, recs.length)] ++ (recs.zipIdx.flatMap fun (x : TokRec × Nat) => [(8 + 12 * x.2, 8, x.1.tag), (16 + 12 * x.2, 4, x.1.value)]) ++ [(56, 1, poisonBits recs), (57, 1, repost)])), false⟩
  | .templateSet h index d0 d1 d2 d3 => some ⟨h, 0x0503, .r, (argBytes [(6, 2, index), (8, 4, d0), (12, 4, d1), (16, 4, d2), (20, 4, d3)]), false⟩
  | .imageSet h image imageId locs => some ⟨h, 0x0504, .r, (argBytes ([(6, 2, image), (8, 8, imageId), (16, 1, locs.length)] ++ locs.zipIdx.flatMap fun (x : (Nat × Nat) × Nat) => [(20 + 8 * x.2, 2, x.1.1), (24 + 8 * x.2, 4, x.1.2)])), false⟩
  | .flowSet h flow prio grouped group => some ⟨h, 0x0505, .r, (argBytes [(6, 4, flow), (10, 1, prio), (11, 1, grouped), (12, 2, group)]), false⟩
  | .groupSet h group window => some ⟨h, 0x0506, .r, (argBytes [(6, 2, group), (8, 4, window)]), false⟩
  | .taskCancel h desc => some ⟨h, 0x0507, .r, (argBytes [(6, 4, desc)]), false⟩
  | .schedDrain h ms => some ⟨h, 0x0508, .r, (argBytes [(6, 4, ms)]), false⟩
  | .dspStatus h engine => some ⟨h, 0x0601, .s, (argBytes [(6, 2, engine)]), false⟩
  | .dspHalt h engine => some ⟨h, 0x0602, .r, (argBytes [(6, 2, engine)]), false⟩
  | .dspResume h engine => some ⟨h, 0x0603, .r, (argBytes [(6, 2, engine)]), false⟩
  | .dspStep h engine => some ⟨h, 0x0604, .r, (argBytes [(6, 2, engine)]), false⟩
  | .dspReset h engine drop => some ⟨h, 0x0605, .r, (argBytes [(6, 2, engine), (8, 1, drop)]), false⟩
  | .dspStart h engine entry vals => some ⟨h, 0x0606, .r, (argBytes ([(6, 2, engine), (8, 2, entry)] ++ (List.range 8).map fun k => (12 + 4 * k, 4, nth vals k))), false⟩
  | .dpStatus h port => some ⟨h, 0x0701, .s, (argBytes [(6, 1, port)]), false⟩
  | .dpRetrain h port us => some ⟨h, 0x0702, .r, (argBytes [(6, 1, port), (8, 4, us)]), false⟩
  | .dpDown h port => some ⟨h, 0x0703, .r, (argBytes [(6, 1, port)]), false⟩
  | .dpUp h port us => some ⟨h, 0x0704, .r, (argBytes [(6, 1, port), (8, 4, us)]), false⟩
  | .slStatus h group => some ⟨h, 0x0801, .s, (argBytes [(6, 1, group)]), false⟩
  | .slRetrain h group us => some ⟨h, 0x0802, .r, (argBytes [(6, 1, group), (8, 4, us)]), false⟩
  | .slDown h group => some ⟨h, 0x0803, .r, (argBytes [(6, 1, group)]), false⟩
  | .slUp h group us => some ⟨h, 0x0804, .r, (argBytes [(6, 1, group), (8, 4, us)]), false⟩
  | .slSlip h group lane => some ⟨h, 0x0805, .r, (argBytes [(6, 1, group), (7, 1, lane)]), false⟩
  | .slPower h group txHold rxHold us => some ⟨h, 0x0806, .r, (argBytes [(6, 1, group), (7, 1, txHold), (8, 1, rxHold), (12, 4, us)]), false⟩
  | .enumerate h firstId ms => some ⟨h, 0x0807, .r, (argBytes [(6, 2, firstId), (8, 4, ms)]), false⟩
  | .enumAssign h nodeId ms => some ⟨h, 0x0808, .i, (argBytes [(6, 2, nodeId), (8, 4, ms)]), false⟩
  | .crStatus h first => some ⟨h, 0x0901, .s, (argBytes [(6, 1, first)]), false⟩
  | .crRangeRekey h range => some ⟨h, 0x0902, .r, (argBytes [(6, 1, range)]), false⟩
  | .crRangeReset h range => some ⟨h, 0x0903, .r, (argBytes [(6, 1, range)]), false⟩
  | .linkKex h link => some ⟨h, 0x0904, .r, (argBytes [(6, 1, link)]), false⟩
  | .kexMsg h msg link total offset bytes => some ⟨h, 0x0905, .r, (argBytes [(6, 1, msg), (7, 1, link), (8, 2, total), (10, 2, offset)] ++ bytes), false⟩
  | .powerStatus h => some ⟨h, 0x0A01, .i, [], false⟩
  | .thermalStatus h first => some ⟨h, 0x0A02, .i, (argBytes [(6, 1, first)]), false⟩
  | .ageReport h => some ⟨h, 0x0A03, .i, [], false⟩
  | .thermTest h offset ms => some ⟨h, 0x0A04, .r, (argBytes [(6, 1, offset), (8, 4, ms)]), false⟩
  | .foundationReset h => some ⟨h, 0x0B01, .r, [], false⟩
  | .resume h => some ⟨h, 0x0B02, .s, [], false⟩
  | .recover h retest _ => some ⟨h, 0x0B03, .s, (argBytes [(6, 1, retest)]), false⟩
  | .stackReset h => some ⟨h, 0x0B04, .i, [], false⟩
  | .selftestRun h kind unit _ => some ⟨h, 0x0B05, .r, (argBytes [(6, 1, kind), (8, 2, unit)]), false⟩
  | .selftestResult h => some ⟨h, 0x0B06, .s, [], false⟩
  | .checkerMode h bank enable rawRead => some ⟨h, 0x0B10, .r, (argBytes [(6, 2, bank), (8, 1, enable), (9, 1, rawRead)]), false⟩
  | .ecLogRead h => some ⟨h, 0x0B11, .s, [], false⟩
  | .lcStatus h => some ⟨h, 0x0C01, .i, [], false⟩
  | .certRead h curve dest => some ⟨h, 0x0C02, .i, (argBytes [(6, 1, curve), (8, 8, dest)]), false⟩
  | .attest h curve dest nonce => some ⟨h, 0x0C03, .i, (argBytes [(6, 1, curve), (8, 8, dest)] ++ fit 0 32 nonce), false⟩
  | .lcTransition h target source len => some ⟨h, 0x0C04, .s, (argBytes [(6, 1, target), (8, 8, source), (16, 4, len)]), false⟩
  | .debugAccess h level source len => some ⟨h, 0x0C05, .s, (argBytes [(6, 1, level), (8, 8, source), (16, 4, len)]), false⟩
  | .rpStatus h => some ⟨h, 0x0D01, .s, [], false⟩
  | .recordStart h firstBank banks links sources => some ⟨h, 0x0D02, .r, (argBytes [(6, 2, firstBank), (8, 2, banks), (12, 4, links), (16, 1, sources)]), false⟩
  | .recordStop h => some ⟨h, 0x0D03, .r, [], false⟩
  | .replayStart h firstBank banks => some ⟨h, 0x0D04, .r, (argBytes [(6, 2, firstBank), (8, 2, banks)]), false⟩
  | .replayStop h => some ⟨h, 0x0D05, .r, [], false⟩
  | .storeStatus h => some ⟨h, 0x0E01, .b, [], false⟩
  | .profileList h => some ⟨h, 0x0E02, .i, [], false⟩
  | .profileWrite h slot source len => some ⟨h, 0x0E03, .r, (argBytes [(6, 1, slot), (8, 8, source), (16, 4, len)]), false⟩
  | .profileErase h slot => some ⟨h, 0x0E04, .i, (argBytes [(6, 1, slot)]), false⟩
  | .profilePush h source len => some ⟨h, 0x0E05, .w, (argBytes [(8, 8, source), (16, 4, len)]), false⟩
  | .profileSelect h slot => some ⟨h, 0x0E06, .w, (argBytes [(6, 1, slot)]), false⟩
  | .fwWrite h source len => some ⟨h, 0x0E07, .b, (argBytes [(8, 8, source), (16, 4, len)]), false⟩
  | .journalSet h off value mask => some ⟨h, 0x0E08, .i, (argBytes [(6, 4, off), (10, 4, value), (14, 4, mask)]), false⟩
  | .journalClear h off => some ⟨h, 0x0E09, .i, (argBytes [(6, 4, off)]), false⟩
  | .journalRead h dest => some ⟨h, 0x0E0A, .i, (argBytes [(8, 8, dest)]), false⟩
  | .journalCompact h => some ⟨h, 0x0E0B, .i, [], false⟩
  | _ => none

/-- The requester has room for a command, and none of its commands in progress has this TAG (R378, R379). -/
structure State.hasRoom (s : State) (h : CmdHdr) : Prop where
  bell : ¬(h.port = 18 ∧ 0 < s.inProgress h)
  room : s.noRoom h = false
  tag : s.inprogOf h.ref = none

/-- The status of the first check of R382 that a command fails before its own: length, permission, service. -/
def State.screen (s : State) (e : Ebryn) : Option Nat := s.verdict e.h e.op e.svc e.args.length e.deny

/-- A command passes every check of R382 that comes before its own. -/
structure State.accepts (s : State) (e : Ebryn) : Prop where
  room : s.hasRoom e.h
  screen : s.screen e = none

/-- The state in which a command has entered: counted, recorded, in progress (R379). -/
def State.entered (s : State) (e : Ebryn) : State := s.enter e.h e.op (s.blockOf e.h e.op e.args)

/-! ### What a command may change -/

/-- The commands that may blow fuses. -/
def blowsFuses : Instr → Bool
  | .recover .. | .lcTransition .. | .i3cPrivateWrite .. | .mbCmd .. | .sidebandMessage .. | .wakeComplete ..
  | .responseArrival .. | .commitResponse | .replayInjection .. => true
  | _ => false
/-- The commands that may program or erase flash, or start either. -/
def writesFlash : Instr → Bool
  | .abort .. | .recover .. | .selftestRun .. | .profileWrite .. | .profileErase .. | .profilePush .. | .fwWrite ..
  | .journalSet .. | .journalClear .. | .i3cPrivateWrite .. | .mbCmd .. | .sidebandMessage .. | .wakeComplete ..
  | .repairOutcome .. | .responseArrival .. | .clockSwitch .. | .railsPowerGood | .bootVerification
  | .judgementWindow .. | .hearthLoopLock | .relockAttempt .. | .startUpSelfTest .. | .sliceMarchDone .. | .lifeRecord
  | .journalCompaction | .replayInjection .. | .programOrEraseEnd .. => true
  | _ => false
/-- The commands that may latch a high word (R28), or reset the stack. -/
def latches : Instr → Bool
  | .csrRead .. | .memRead .. | .memWrite .. | .booksRead .. | .dspStatus .. | .recover .. | .certRead .. | .attest ..
  | .lcTransition .. | .debugAccess .. | .recordStart .. | .replayStart .. | .profileWrite .. | .profilePush ..
  | .fwWrite .. | .journalRead .. | .i3cPrivateWrite .. | .mbCmd .. | .mbEngBell .. | .sidebandMessage ..
  | .delayedStackReset | .csrAccess .. | .responseArrival .. | .rdr .. | .powerOnReset | .resetN | .lockstepMismatch
  | .startUpSelfTest .. | .foundationResetHold | .replayInjection .. | .readClear .. | .lowWordReadLatch ..
  | .tapAccess .. => true
  | _ => false
/-- The commands that may change the crypto unit, or reset the stack. -/
def usesCrypto : Instr → Bool
  | .abort .. | .crRangeRekey .. | .crRangeReset .. | .resume .. | .recover .. | .lcTransition .. | .debugAccess ..
  | .recordStart .. | .replayStart .. | .i3cPrivateWrite .. | .mbCmd .. | .sidebandMessage .. | .delayedStackReset
  | .wakeComplete .. | .responseArrival .. | .responseTimeLimit .. | .protectedRead | .fullLineWrite | .partialWrite
  | .homeResponse | .nodeVerification .. | .writeBack .. | .pageReEncryption .. | .rangeInitialisation ..
  | .rekeyPage .. | .rangeDisable .. | .powerOnReset | .resetN | .lockstepMismatch | .commitPoint | .commitResponse
  | .foundationResetPendingEnd | .replayInjection .. => true
  | _ => false
/-- The commands that may change a room, or reset the stack. -/
def movesRooms : Instr → Bool
  | .abort .. | .csrWrite .. | .memRead .. | .memWrite .. | .unitGate .. | .booksAudit .. | .booksRead ..
  | .bankOwner .. | .bankRetain .. | .bankWipe .. | .planeLoad .. | .planeSave .. | .planeSwitch .. | .roomPark ..
  | .roomUnpark .. | .flowSet .. | .taskCancel .. | .dspReset .. | .foundationReset .. | .resume .. | .recover ..
  | .selftestRun .. | .certRead .. | .attest .. | .lcTransition .. | .debugAccess .. | .recordStart ..
  | .replayStart .. | .profileWrite .. | .profilePush .. | .fwWrite .. | .journalRead .. | .i3cPrivateWrite ..
  | .mbCmd .. | .mbEngBell .. | .sidebandMessage .. | .delayedStackReset | .load .. | .stateReload .. | .save ..
  | .drainComplete .. | .drainLimit .. | .loadRow .. | .loadFinish .. | .planectlSwitchRequest .. | .heldSwitch ..
  | .rowRequest .. | .rowMove .. | .roomEndpointRequest .. | .roomRamAccess .. | .serviceLaneRequest ..
  | .serviceAccess .. | .handover .. | .retentionRequest .. | .wakeComplete .. | .wipeRequest .. | .scrubAccess ..
  | .copyPassRow .. | .vtParityMismatch .. | .repairOutcome .. | .packetForward .. | .csrAccess ..
  | .responseArrival .. | .responseTimeLimit .. | .tokenRecord .. | .dispatchPipe .. | .dispatchResponse
  | .switchRepeat .. | .done | .resultRecordPost | .delayExpiry .. | .delayListWalk .. | .dataFlit .. | .nullFlit ..
  | .initFlit .. | .resyncFlit .. | .nak .. | .pm .. | .lmb .. | .frame .. | .adapterActive .. | .gateOpen ..
  | .gateOpenComplete .. | .gateClose .. | .gateDrainEnd .. | .powerOnReset | .resetN | .lockstepMismatch
  | .judgementWindow .. | .refclkLost | .hearthLoopStop | .startUpSelfTest .. | .profile .. | .commitFreeze
  | .commitApply | .commitResponse | .audit | .foundationResetPendingEnd | .foundationResetFreeze
  | .foundationResetHold | .sliceRestoreDone .. | .sheddingStepEntry .. | .sheddingStepExit .. | .adcConversion ..
  | .replayInjection .. | .replayHalt .. | .registerWrite .. | .ckRoomEdge .. | .corridorTransmit .. | .tapAccess ..
  | .configUe .. => true
  | _ => false
/-- The commands that may change a bank or a service of it, or reset the stack. -/
def movesBanks : Instr → Bool
  | .abort .. | .csrWrite .. | .memRead .. | .memWrite .. | .booksAudit .. | .booksRead .. | .bankOwner ..
  | .bankRetain .. | .bankWake .. | .bankWipe .. | .planeLoad .. | .flowSet .. | .taskCancel .. | .dspReset ..
  | .foundationReset .. | .resume .. | .recover .. | .selftestRun .. | .checkerMode .. | .certRead .. | .attest ..
  | .lcTransition .. | .debugAccess .. | .recordStart .. | .recordStop .. | .replayStart .. | .profileWrite ..
  | .profilePush .. | .fwWrite .. | .journalRead .. | .i3cPrivateWrite .. | .mbCmd .. | .mbEngBell ..
  | .sidebandMessage .. | .delayedStackReset | .load .. | .stateReload .. | .loadRow .. | .loadFinish .. | .rowMove ..
  | .serviceLaneRequest .. | .serviceAccess .. | .handover .. | .handoverComplete .. | .retentionRequest ..
  | .wakeRequest .. | .retentionEntryComplete .. | .wakeStart .. | .wakeComplete .. | .wipeRequest ..
  | .wipeComplete .. | .checkerTestModeEntry .. | .checkerTestModeExit .. | .mowingRowVisit .. | .scrubAccess ..
  | .copyPassRow .. | .repairOutcome .. | .packetForward .. | .csrAccess .. | .responseArrival ..
  | .responseTimeLimit .. | .tokenRecord .. | .dispatchPipe .. | .dispatchResponse | .done | .resultRecordPost
  | .delayExpiry .. | .delayListWalk .. | .dataFlit .. | .nullFlit .. | .initFlit .. | .resyncFlit .. | .nak ..
  | .pm .. | .lmb .. | .frame .. | .adapterActive .. | .gateDrainEnd .. | .clockSwitch .. | .powerOnReset
  | .powerOnResetRelease .. | .railsPowerGood | .resetN | .lockstepMismatch | .bootVerification | .judgementWindow ..
  | .hearthLoopLock | .refclkLost | .hearthLoopStop | .relockAttempt .. | .startUpSelfTest .. | .commitFreeze
  | .commitApply | .commitPoint | .commitResponse | .audit | .foundationResetPendingEnd | .foundationResetFreeze
  | .foundationResetHold | .sliceMarchDone .. | .sliceRestoreDone .. | .sheddingStepEntry .. | .sheddingStepExit ..
  | .adcConversion .. | .recorderDrain | .stampLimit | .replayInjection .. | .replayHalt .. | .registerWrite ..
  | .tapAccess .. | .configUe .. | .resetNRelease .. | .programOrEraseEnd .. => true
  | _ => false
/-- The commands that may change the scheduler, or reset the stack. -/
def schedules : Instr → Bool
  | .abort .. | .csrWrite .. | .memRead .. | .memWrite .. | .unitGate .. | .booksAudit .. | .booksRead ..
  | .bankRetain .. | .planeLoad .. | .flowSet .. | .groupSet .. | .taskCancel .. | .schedDrain .. | .dspReset ..
  | .foundationReset .. | .resume .. | .recover .. | .selftestRun .. | .certRead .. | .attest .. | .lcTransition ..
  | .debugAccess .. | .recordStart .. | .replayStart .. | .profileWrite .. | .profilePush .. | .fwWrite ..
  | .journalRead .. | .i3cPrivateWrite .. | .mbCmd .. | .mbEngBell .. | .sidebandMessage .. | .commandTimeLimit ..
  | .delayedStackReset | .load .. | .stateReload .. | .drainComplete .. | .drainLimit .. | .loadRow ..
  | .loadFinish .. | .heldSwitch .. | .serviceLaneRequest .. | .serviceAccess .. | .retentionRequest ..
  | .wakeComplete .. | .scrubAccess .. | .copyPassRow .. | .repairOutcome .. | .packetForward .. | .csrAccess ..
  | .responseArrival .. | .responseTimeLimit .. | .token .. | .tokenRecord .. | .dispatchPipe .. | .dispatchResponse
  | .switchRepeat .. | .done | .resultRecordPost | .tick | .delayExpiry .. | .delayListWalk .. | .useCountDecay
  | .dataFlit .. | .nullFlit .. | .initFlit .. | .resyncFlit .. | .nak .. | .pm .. | .lmb .. | .frame ..
  | .adapterActive .. | .gateOpen .. | .gateOpenComplete .. | .gateClose .. | .gateDrainEnd .. | .powerOnReset
  | .resetN | .lockstepMismatch | .judgementWindow .. | .refclkLost | .hearthLoopStop | .startUpSelfTest ..
  | .profile .. | .commitFreeze | .commitApply | .commitPoint | .commitResponse | .audit | .foundationResetPendingEnd
  | .foundationResetHold | .sliceRestoreDone .. | .sheddingStepEntry .. | .adcConversion .. | .replayInjection ..
  | .registerWrite .. | .ckRoomEdge .. | .tapAccess .. | .configUe .. => true
  | _ => false
/-- The commands that may change an engine, or reset the stack. -/
def movesEngines : Instr → Bool
  | .abort .. | .csrWrite .. | .memRead .. | .memWrite .. | .booksAudit .. | .booksRead .. | .bankRetain ..
  | .planeLoad .. | .flowSet .. | .taskCancel .. | .dspHalt .. | .dspStep .. | .dspReset .. | .dspStart ..
  | .foundationReset .. | .resume .. | .recover .. | .selftestRun .. | .certRead .. | .attest .. | .lcTransition ..
  | .debugAccess .. | .recordStart .. | .replayStart .. | .profileWrite .. | .profilePush .. | .fwWrite ..
  | .journalRead .. | .i3cPrivateWrite .. | .mbCmd .. | .mbEngBell .. | .sidebandMessage .. | .delayedStackReset
  | .load .. | .stateReload .. | .loadRow .. | .loadFinish .. | .serviceLaneRequest .. | .serviceAccess ..
  | .retentionRequest .. | .wakeComplete .. | .scrubAccess .. | .copyPassRow .. | .repairOutcome ..
  | .packetForward .. | .csrAccess .. | .responseArrival .. | .responseTimeLimit .. | .tokenRecord ..
  | .dispatchPipe .. | .dispatch .. | .dispatchResponse | .done | .resultRecordPost | .delayExpiry ..
  | .delayListWalk .. | .engineHalt .. | .step .. | .deRfDataWrite .. | .engineMemoryAccess .. | .engineResponse ..
  | .nopInstruction .. | .ld .. | .st .. | .mov .. | .movr .. | .ldi .. | .setp .. | .movp .. | .rdr .. | .wrr ..
  | .acc .. | .alu .. | .alui .. | .cmac .. | .dmac .. | .tapm .. | .bfly .. | .sta .. | .rep .. | .br .. | .dbnz ..
  | .call .. | .ret .. | .get .. | .put .. | .sendtok .. | .sendmsg .. | .wait .. | .doneInstruction .. | .bkpt ..
  | .dataFlit .. | .nullFlit .. | .initFlit .. | .resyncFlit .. | .nak .. | .pm .. | .lmb .. | .frame ..
  | .adapterActive .. | .gateOpenComplete .. | .gateDrainEnd .. | .powerOnReset | .resetN | .lockstepMismatch
  | .judgementWindow .. | .refclkLost | .hearthLoopStop | .startUpSelfTest .. | .profile .. | .commitFreeze
  | .commitApply | .commitResponse | .audit | .foundationResetHold | .sliceRestoreDone .. | .sheddingStepEntry ..
  | .sheddingStepExit .. | .adcConversion .. | .replayInjection .. | .registerWrite .. | .tapAccess .. | .configUe .. => true
  | _ => false
/-- The commands that neither store to a memory nor wipe one nor reset the stack. -/
def storesNothing : Instr → Bool
  | .deviceInfo .. | .abort .. | .csrRead .. | .eventRead .. | .eventCfg .. | .nop .. | .clockStatus ..
  | .epochCommit .. | .epochDiscard .. | .bankOwner .. | .bankGuest .. | .bankWake .. | .bankWipe .. | .bankStatus ..
  | .planeSave .. | .planeSwitch .. | .roomStatus .. | .roomPark .. | .roomUnpark .. | .schedStatus .. | .taskPost ..
  | .templateSet .. | .imageSet .. | .groupSet .. | .schedDrain .. | .dspStatus .. | .dspHalt .. | .dspResume ..
  | .dspStep .. | .dspStart .. | .dpStatus .. | .dpRetrain .. | .dpDown .. | .dpUp .. | .slStatus .. | .slRetrain ..
  | .slDown .. | .slUp .. | .slSlip .. | .slPower .. | .enumerate .. | .enumAssign .. | .crStatus ..
  | .crRangeRekey .. | .crRangeReset .. | .linkKex .. | .kexMsg .. | .powerStatus .. | .thermalStatus ..
  | .ageReport .. | .thermTest .. | .stackReset .. | .selftestResult .. | .checkerMode .. | .ecLogRead ..
  | .lcStatus .. | .rpStatus .. | .replayStop .. | .storeStatus .. | .profileList .. | .profileErase ..
  | .profileSelect .. | .journalSet .. | .journalClear .. | .journalCompact .. | .entdaa .. | .rstdaa | .enec ..
  | .disec .. | .getpid | .getbcr | .getdcr | .getstatus | .getmwl | .getmrl | .i3cPrivateRead ..
  | .sidebandBlockTimeout .. | .eventBlockSend | .commandTimeLimit .. | .save .. | .drainComplete .. | .drainLimit ..
  | .planectlSwitchRequest .. | .planectlDone .. | .rowRequest .. | .roomEndpointRequest .. | .handover ..
  | .handoverComplete .. | .guestGrant .. | .wakeRequest .. | .retentionEntryComplete .. | .wakeStart ..
  | .wipeRequest .. | .checkerTestModeEntry .. | .checkerTestModeExit .. | .ecLogPop | .mowingRowVisit ..
  | .mowingWindow | .vtParityMismatch .. | .walkingPatternTest .. | .repairSamplingResume .. | .creditReturn ..
  | .expiredTagRelease .. | .berrArm | .coBookSnapshot .. | .epPeek .. | .token .. | .switchRepeat .. | .tick
  | .useCountDecay | .haltRequest .. | .engineHalt .. | .step .. | .deRfDataWrite .. | .nopInstruction .. | .ld ..
  | .movr .. | .ldi .. | .setp .. | .movp .. | .rdr .. | .wrr .. | .acc .. | .alu .. | .alui .. | .cmac .. | .dmac ..
  | .rep .. | .br .. | .dbnz .. | .call .. | .ret .. | .get .. | .put .. | .sendtok .. | .sendmsg .. | .wait ..
  | .doneInstruction .. | .bkpt .. | .teq .. | .flitSend .. | .ackTimer .. | .replayTimer .. | .dpCtrlRetrain ..
  | .dpCtrlHoldDown .. | .slCtrlRetrain .. | .slCtrlHoldDown .. | .slCtrlSlip .. | .txHold .. | .rxHold ..
  | .replayBufferDrainLimit .. | .trainingAttempt .. | .alignmentCheck .. | .ffeTuningRound .. | .frameLock ..
  | .trainingFailure .. | .failedRetry .. | .l1Entry .. | .l1Exit .. | .txiEntry .. | .txsEntry .. | .txExit ..
  | .portMainbandStop .. | .rawTransmit .. | .rawReceive .. | .rawControlPoll .. | .rawRingRetry ..
  | .enumAssignResponse .. | .protectedRead | .fullLineWrite | .partialWrite | .homeResponse | .nodeVerification ..
  | .writeBack .. | .pageReEncryption .. | .rangeInitialisation .. | .rekeyPage .. | .rangeDisable .. | .autoKex ..
  | .kexTimeout .. | .kexFragmentGap .. | .clockSwitch .. | .powerOnResetRelease .. | .railsPowerGood
  | .hearthLoopLock | .relockAttempt .. | .rcFail | .foundationResetFreeze | .foundationResetRelease
  | .backgroundSlice .. | .sliceMarchDone .. | .sliceBudgetExpiry .. | .sheddingStepExit .. | .railStateLost ..
  | .slowRoundEnd | .ageingMeasurement .. | .lifeRecord | .thermTestEnd | .journalCompaction | .checkRecord
  | .lcChalNew | .btResPop | .readClear .. | .lowWordReadLatch .. | .corridorTransmit .. | .forwardedClockStop ..
  | .adapterRetryFailure .. | .laneFault .. | .resetNRelease .. | .lockFail => true
  | _ => false

end Sys2Proof.Machine
end

