-- ==== Sys2Proof/Certificates/Slice0/Obligations.lean ====
section
/-!
DEFINITION. The statements about the model: one Prop per obligation, each citing the rules of spec/ that it formalises.
-/
open Sys2Proof Sys2Proof.Machine

/-- The queue of commands is first in, first out. That an empty queue idles is the model's choice (log entry 1). -/
def Obligations.StepRunsTheFrontCommand : Prop :=
  (∀ (c : Instr) (s : State) (rest : List Instr),
    step { s with pending := c :: rest } = exec c { s with pending := rest }) ∧
  (∀ s : State, s.pending = [] → step s = .next s) ∧
  ∀ (s : State) (nbits w : Nat), s.withFetchWord nbits w = s

/-- No command of the table is without an effect: each one answers a next state (R381 gives a command that cannot run a
status), and the queue is the senders'. -/
def Obligations.EveryCommandCompletes : Prop :=
  ∀ (c : Instr) (s : State), ∃ t, exec c s = .next t ∧ t.pending = s.pending

/-- R10, R118, R330; log entry 4 for memory and flash. -/
def Obligations.ResetLeavesTheBlockReady : Prop :=
  State.reset.canon ∧ State.reset.tables ∧
    (∀ r i, State.reset.rd r i = regDefault (r.addr i)) ∧
    (∀ b, b < 512 → State.reset.owner b = { kind := 5, id := 0 }) ∧
    (∀ kind idx, kind < 5 → idx < 128 → State.reset.gateOpen kind idx = false) ∧
    (∀ e, e < 256 → State.reset.engState e = 0) ∧
    State.reset.pending = [] ∧ State.reset.commit = none ∧ State.reset.staged = [] ∧ State.reset.epoch = 0 ∧
    State.reset.ready = false ∧ State.reset.safe = false ∧
    (∀ a, State.reset.byte a = 0) ∧ ∀ a n, State.reset.flashBytes a n = List.replicate n 0xFF

/-- The invariant that the other statements take as a premise. -/
def Obligations.EveryStepKeepsTheCanonicalForm : Prop :=
  ∀ s t : State, s.canon → step s = .next t → t.canon

/-- The second invariant that the other statements take as a premise. -/
def Obligations.EveryStepKeepsTheInnerTables : Prop :=
  ∀ s t : State, s.canon → s.tables → step s = .next t → t.tables

/-- R413: the life-cycle state is fused and changes only forward; R409: the SVN is only raised; R132: a spare is blown once. -/
def Obligations.FusesMoveOneWay : Prop :=
  ∀ s t : State, step s = .next t →
    (t.fuses.lc = s.fuses.lc ∨ (s.fuses.lc, t.fuses.lc) ∈ [(0, 1), (1, 2), (2, 3), (0, 4), (2, 4), (3, 4)]) ∧
    s.fuses.svn ≤ t.fuses.svn ∧ t.fuses.uid = s.fuses.uid ∧ ∀ x, x ∈ s.fuses.spares → x ∈ t.fuses.spares

/-- The frame of every command, by kind of state. -/
def Obligations.CommandsKeepToTheirState : Prop :=
  ∀ (c : Instr) (s u : State), exec c s = .next u →
    (blowsFuses c = false → u.fuses = s.fuses) ∧
    (writesFlash c = false → u.flash = s.flash) ∧
    (storesNothing c = true → u.mem = s.mem ∧ u.synd = s.synd ∧ ∀ a, u.byte a = s.byte a) ∧
    (usesCrypto c = false → u.crypto = s.crypto) ∧
    (movesRooms c = false → ∀ n, u.room n = s.room n) ∧
    (movesBanks c = false → (∀ b, u.bank b = s.bank b) ∧ u.svc = s.svc) ∧
    (schedules c = false → u.sched = s.sched) ∧
    (movesEngines c = false → ∀ e, u.eng e = s.eng e) ∧
    (latches c = false → u.latch = s.latch)

/-- R25. -/
def Obligations.WritesAfterTheSnapshotAreStaged : Prop :=
  ∀ (s : State) (c : Commit), s.canon → s.tables → s.commit = some c →
    (∀ off value r i, csrCause off = none → Reg.atOffset off = some (r, i) → r.accMask .rwe ≠ 0 → ¬(r = .MB_PERM ∧ i = 0) →
      ∃ u, exec (.registerWrite off value) s = .next u ∧
        mget (fun _ => none) u.staged (s.stageKey r i) = some (BitVec.ofNat 32 value &&& r.accMask .rwe) ∧
        (∀ k, k ≠ s.stageKey r i → mget (fun _ => none) u.staged k = mget (fun _ => none) s.staged k) ∧
        u.snapshot = s.snapshot ∧ u.commit = s.commit ∧ u.rd r i &&& r.accMask .rwe = s.rd r i &&& r.accMask .rwe) ∧
    (c.phase = 3 → ∃ u, exec .commitPoint s = .next u ∧ u.staged = s.staged ∧
      ∀ k, u.raw k &&& keyMask k = (mget (fun _ => none) s.snapshot k).getD (s.raw k) &&& keyMask k)

/-- R28. -/
def Obligations.TheEpochPairIsConsistent : Prop :=
  (∀ s : State, s.tables → ∃ u, exec (.lowWordReadLatch (Reg.addr .EP_EPOCH_LO 0)) s = .next u ∧ u.epoch = s.epoch ∧
    ∀ v : State, v.latch = u.latch → ∃ w, exec (.readClear (Reg.addr .EP_EPOCH_HI 0)) v = .next w ∧
      u.mail.csrOut.toNat + 2 ^ 32 * w.mail.csrOut.toNat = s.epoch % 2 ^ 64) ∧
  (∀ (c : Instr) (v w : State), (∃ h, c = .epochCommit h) ∨ c ∈ [.commitFreeze, .commitApply, .commitPoint, .commitResponse] →
    exec c v = .next w → w.latch = v.latch) ∧
  ∀ (s : State) (c : Commit), s.commit = some c → c.phase = 3 → ∃ u, exec .commitPoint s = .next u ∧ u.epoch = (s.epoch + 1) % 2 ^ 64

/-- R144, with the dateline classes that follow it. Routers are numbered 12 y + x. -/
def Obligations.RoutingIsDimensionOrdered : Prop :=
  (∀ r d, r < 144 → d < 144 →
    let east := (d % 12 + 12 - r % 12) % 12
    let north := (d / 12 + 12 - r / 12) % 12
    (r % 12 ≠ d % 12 → nextPort r d = if east < 12 - east ∨ east = 6 then 0 else 2) ∧
    (r % 12 = d % 12 → r / 12 ≠ d / 12 → nextPort r d = if north < 12 - north ∨ north = 6 then 1 else 3) ∧
    (r = d → nextPort r d = 4) ∧
    ∃ n, n ≤ 12 ∧ Nat.iterate (fun x => if nextPort x d = 4 then x else neighbor x (nextPort x d)) n r = d) ∧
  (∀ r i out c, r < 144 → i < 6 → out < 4 → nextClass r i out c =
    if isWrap r out then 1 else if 4 ≤ i ∨ i % 2 ≠ out % 2 then 0 else c) ∧
  ∀ (s : State) (r : Nat) (p : Packet) ep d l, s.exitOf p = some (ep, d, l) →
    s.outOf r p = if nextPort r d = 4 then 4 + l else nextPort r d

/-- R240. -/
def Obligations.BreakpointsHaltAtTheBoundary : Prop :=
  ∀ (s : State) (e f : Nat), s.canon → s.tables → s.fetched e 0x3F f →
    ∃ u, exec (.bkpt e f) s = .next u ∧ s.engNext u e (s.f Fld.DE_PC_PC e + 1) 1 ∧ s.engKeeps u e [] [] [] [] [] ∧ s.engQuiet u e ∧
      u.f Fld.DE_CTRL_HALT e = 1 ∧
      ∃ v, exec (.engineHalt e) u = .next v ∧ v.engState e = 3 ∧ v.f Fld.DE_CTRL_HALT e = 1 ∧
        v.f Fld.DE_PC_PC e = u.f Fld.DE_PC_PC e ∧ u.engKeeps v e [] [] [] [] [] ∧ ((u.eng e).haltCmds = [] → u.engQuiet v e)

/-- R382: checks in order; the status of the first that fails. The level of service and the permission are those of R388 and
R389 as State.permitted and State.serves give them. -/
def Obligations.FirstFailingCheckAnswers : Prop :=
  ∀ (s : State) (i : Instr) (e : Ebryn), ebryn s i = some e →
    (e.h.port = 18 ∧ 0 < s.inProgress e.h →
      exec i s = .next ((s.setF Fld.MB_STATUS_ENG_DROP 0 1).updMail fun m => { m with block := [] })) ∧
    (¬(e.h.port = 18 ∧ 0 < s.inProgress e.h) → s.noRoom e.h = true →
      exec i s = .next ((s.answerNow e.h 2).updMail fun m => { m with block := [] })) ∧
    (s.hasRoom e.h → 58 < e.h.len ∨ e.h.len < e.args.length → exec i s = .next ((s.entered e).respond e.h.ref 3 [])) ∧
    (s.hasRoom e.h → ¬(58 < e.h.len ∨ e.h.len < e.args.length) → s.permitted e.h e.op = false ∨ e.deny = true →
      exec i s = .next ((s.entered e).respond e.h.ref 4 [])) ∧
    (s.hasRoom e.h → ¬(58 < e.h.len ∨ e.h.len < e.args.length) → s.permitted e.h e.op = true → e.deny = false →
      s.serves e.svc = false → exec i s = .next ((s.entered e).respond e.h.ref 5 []))

/-- R379: what acceptance does. The record of a command (R422) changes RP registers and the recorder only. -/
def Obligations.EnteringACommand : Prop :=
  ∀ (s : State) (e : Ebryn), s.canon →
    let t := s.entered e
    (∃ c h j, t.mail.inprog = s.mail.inprog ++ [{ port := e.h.port, node := e.h.node, ep := e.h.ep, tag := e.h.tag, opcode := e.op, committed := c, hdrTag := h, injected := j }]) ∧
    t.mail.block = [] ∧
    t.f Fld.MB_CMD_COUNT_COUNT 0 = (s.f Fld.MB_CMD_COUNT_COUNT 0 + 1) % 2 ^ 32 ∧
    (∀ r n, r ∉ [Reg.MB_CMD_COUNT, .RP_STATUS, .RP_DROP, .RP_HAZARD, .RP_FIRST_LO, .RP_FIRST_HI] → t.rd r n = s.rd r n) ∧
    t.mem = s.mem ∧ t.synd = s.synd ∧ t.staged = s.staged ∧ t.commit = s.commit ∧ t.rooms = s.rooms ∧ t.stairs = s.stairs ∧
    t.banks = s.banks ∧ t.sched = s.sched ∧ t.engs = s.engs ∧ t.links = s.links ∧ t.crypto = s.crypto ∧ t.net = s.net ∧
    t.boot = s.boot ∧ t.pow = s.pow ∧ t.clk = s.clk ∧ t.sec = s.sec ∧ t.journal = s.journal ∧ t.flash = s.flash ∧
    t.fuses = s.fuses ∧ t.ecLog = s.ecLog ∧ t.epoch = s.epoch

/-- R379, R380, R384 to R386. -/
def Obligations.ResponseLeavesItsPort : Prop :=
  ∀ (s : State) (port node ep tag status : Nat) (data : List Byte) (p : InProg),
    let r : CmdRef := (port, node, ep, tag)
    let t := s.respond r status data
    s.inprogOf r = some p → p.injected = false → data.length ≤ 60 → status < 256 → tag < 65536 →
    (rspBlock status tag data).length = 64 ∧ leNat (slice (rspBlock status tag data) 0 1) = status ∧
    leNat (slice (rspBlock status tag data) 1 1) = data.length ∧ leNat (slice (rspBlock status tag data) 2 2) = tag ∧
    slice (rspBlock status tag data) 4 data.length = data ∧
    (port = 0 → mwf (fun _ => []) s.mail.rsp = true →
      mget (fun _ => []) t.mail.rsp 0 = mget (fun _ => []) s.mail.rsp 0 ++ [rspBlock status tag data] ∧ t.inprogOf r = none) ∧
    (1 ≤ port → port ≤ 16 → s.sideRuns = true → t.mail.sent = (port, 2, rspBlock status tag data) :: s.mail.sent ∧ t.inprogOf r = none) ∧
    (1 ≤ port → port ≤ 16 → s.sideRuns = false → mwf (fun _ => []) s.mail.rsp = true →
      mget (fun _ => []) t.mail.rsp port = mget (fun _ => []) s.mail.rsp port ++ [rspBlock status tag data] ∧ t.inprogOf r = some p) ∧
    (port = 17 → t.inprogOf r = none ∧
      ∃ k, k.type = 9 ∧ k.vc = 3 ∧ k.dest = epDest node ep ∧ k.tag = p.hdrTag % 1024 ∧ k.dstPlane = p.hdrTag / 1024 ∧ k.payload = rspBlock status tag data ∧ k.srcEp = 546 ∧
        t = ({ s with mail := { s.mail with inprog := dropInprog s.mail.inprog r } } : State).inject 546 k) ∧
    (32 ≤ port → mwf (fun _ => ({} : Link)) s.links = true →
      (t.link (port - 16)).lmbOut = (s.link (port - 16)).lmbOut ++ [rspBlock status tag data] ∧ t.inprogOf r = none)

/-- R332, R116, R69, R197, R219, R394: the data of the status commands. -/
def Obligations.StatusCommandsAnswer : Prop :=
  ∀ (s : State) (h : CmdHdr) (e : Ebryn), s.accepts e →
    let t := s.entered e
    (ebryn s (.deviceInfo h) = some e → exec (.deviceInfo h) s = .next (t.replyData h
      (regData [t.rd .HK_ID_VENDOR, t.rd .HK_ID_PART, t.rd .HK_ID_REV, t.rd .CO_NODE, t.rd .HK_ID_UID_LO, t.rd .HK_ID_UID_HI] ++
        leBytes 1 t.sec.editionMajor ++ leBytes 1 t.sec.editionMinor ++ leBytes 1 0 ++ leBytes 1 h.port))) ∧
    (ebryn s (.nop h) = some e → exec (.nop h) s = .next (t.reply h 0)) ∧
    (ebryn s (.clockStatus h) = some e → exec (.clockStatus h) s = .next (t.replyData h
      (regData [t.rd .CK_STATUS, t.rd .CK_REF_LOST, t.rd .CK_SW_FORCED, t.rd .CK_REF_JUDGE, t.rd .CK_GSTAT_ROOM 0,
        t.rd .CK_GSTAT_ROOM 1, t.rd .CK_GSTAT_ROOM 2, t.rd .CK_GSTAT_ROOM 3, t.rd .CK_GSTAT_DSP, t.rd .CK_GSTAT_LINK,
        t.rd .CK_GSTAT_UNIT]))) ∧
    (∀ bank, bank < 512 → ebryn s (.bankStatus h bank) = some e → exec (.bankStatus h bank) s = .next (t.replyData h
      (regData [t.rd .LB_OWNER bank, t.rd .LB_NEXT_OWNER bank, t.rd .LB_GUEST bank, t.rd .LB_CTRL bank, t.rd .LB_PWR bank,
        t.rd .LB_STATUS bank]))) ∧
    (∀ room, room < 128 → ebryn s (.roomStatus h room) = some e → exec (.roomStatus h room) s = .next (t.replyData h
      (regData [t.rd .RM_PLANE room, t.rd .RM_STATUS room, t.rd .RM_EFF_DIV room, t.rd .RM_LOAD_STATUS room]))) ∧
    (ebryn s (.schedStatus h) = some e → exec (.schedStatus h) s = .next (t.replyData h
      (leBytes 4 (t.rd .SC_STATUS).toNat ++ leBytes 4 (t.meadowCount 0) ++ leBytes 4 (t.meadowCount 1) ++ leBytes 4 (t.meadowCount 2) ++
        leBytes 4 (t.meadowCount 3) ++ leBytes 4 (t.meadowCount 4) ++ leBytes 4 (t.meadowCount 5) ++ leBytes 8 t.sched.issued ++
        leBytes 8 t.sched.matched ++ leBytes 4 t.sched.held ++ leBytes 4 t.sched.flight ++ leBytes 4 t.sched.mtab.length))) ∧
    (∀ engine, engine < 256 → t.engState engine ≠ 6 → ebryn s (.dspStatus h engine) = some e →
      exec (.dspStatus h engine) s = .next (t.replyData h
        (regData [(t.deRead engine .DE_STATE).1, t.rd .DE_PC engine, t.rd .DE_TASK engine, t.rd .DE_EXC engine,
          t.rd .DE_EXC_ADDR engine, t.rd .DE_REP engine])))

/-- R255, R281, R315, R349, R394, R397, R399: the data of the status commands of the link, crypto, power, security, recorder
and store units. -/
def Obligations.UnitStatusCommandsAnswer : Prop :=
  ∀ (s : State) (h : CmdHdr) (e : Ebryn), s.accepts e →
    let t := s.entered e
    (∀ port, port < 16 → ebryn s (.dpStatus h port) = some e → exec (.dpStatus h port) s = .next (t.replyData h
      (regData ([t.rd .DP_STATUS port, t.rd .DP_PEER port, t.rd .DP_REPAIR port] ++ (List.range 4).map (t.txBook port) ++
        (List.range 4).map (t.rxBook port))))) ∧
    (∀ g, g < 16 → ebryn s (.slStatus h g) = some e → exec (.slStatus h g) s = .next (t.replyData h
      (regData ([t.rd .SL_STATUS g, t.rd .SL_PEER g, t.rd .SL_PWR g, t.rd .SL_LANE (4 * g), t.rd .SL_LANE (4 * g + 1),
        t.rd .SL_LANE (4 * g + 2), t.rd .SL_LANE (4 * g + 3)] ++ (List.range 4).map (t.txBook (16 + g)) ++
        (List.range 4).map (t.rxBook (16 + g)))))) ∧
    (∀ first, first < 32 → ebryn s (.crStatus h first) = some e → exec (.crStatus h first) s = .next (t.replyData h
      (regData (t.rd .CR_STATUS :: (List.range (min 13 (32 - first))).map fun k => t.rd .CR_RANGE_STATE (first + k))))) ∧
    (ebryn s (.powerStatus h) = some e → exec (.powerStatus h) s = .next (t.replyData h
      (regData ([t.rd .PW_STATUS, t.rd .PW_SHED_STATUS] ++ (List.range 12).map fun k => t.rd .HK_CH (52 + k))))) ∧
    (∀ first, first < 52 → ebryn s (.thermalStatus h first) = some e → exec (.thermalStatus h first) s = .next (t.replyData h
      (regData ([t.rd .TH_STATUS, t.rd .TH_TJ] ++ (List.range (min 13 (52 - first))).map fun k => t.rd .HK_CH (first + k))))) ∧
    (ebryn s (.ageReport h) = some e → exec (.ageReport h) s = .next (t.replyData h
      (regData [t.rd .TH_AGE_STATUS] ++ ((List.range 18).map fun m => leBytes 2 (nth t.pow.ages m)).flatten ++
        regData ((List.range 5).map fun k => t.rd .TH_LIFE k)))) ∧
    (ebryn s (.lcStatus h) = some e → exec (.lcStatus h) s = .next (t.replyData h
      (leBytes 1 t.fuses.lc ++ leBytes 1 t.sec.slot ++ leBytes 2 (t.f Fld.LC_DEBUG_LEVEL)))) ∧
    (ebryn s (.rpStatus h) = some e →
      let u := t.stampNow
      exec (.rpStatus h) s = .next (u.replyData h
        (regData [u.rd .RP_STATUS, u.rd .RP_CFG, u.rd .RP_RING, u.rd .RP_LINKS, u.rd .RP_SOURCES] ++
          leBytes 4 (u.replay.stamp % 2 ^ 32) ++ leBytes 4 (u.replay.stamp / 2 ^ 32) ++
          regData [u.rd .RP_FILL, u.rd .RP_DROP, u.rd .RP_HAZARD, u.rd .RP_FIRST_LO, u.rd .RP_FIRST_HI, u.rd .RP_BREAK_LO,
            u.rd .RP_BREAK_HI]))) ∧
    (ebryn s (.storeStatus h) = some e → exec (.storeStatus h) s = .next (t.replyData h t.storeStatus)) ∧
    (ebryn s (.profileList h) = some e → exec (.profileList h) s = .next (t.replyData h
      ((List.range 8).map fun k =>
        if t.slotValid k then leBytes 1 1 ++ leBytes 1 0 ++ leBytes 4 (t.slotLen k) else List.replicate 6 0).flatten))

/-- R135, R138, R375, R377, R391, R394. -/
def Obligations.RecordsAreHandedOver : Prop :=
  ∀ (s : State) (h : CmdHdr) (e : Ebryn), s.accepts e → s.canon →
    let t := s.entered e
    (ebryn s (.eventRead h) = some e → ∃ u : State, exec (.eventRead h) s = .next (u.replyData h
        (fit 0 4 (leBytes 1 (min 3 (mget (fun _ => []) t.mail.evq 0).length)) ++
          (((mget (fun _ => []) t.mail.evq 0).take 3).map EvRec.bytes).flatten)) ∧
      (mwf (fun _ => []) s.mail.evq = true →
        mget (fun _ => []) u.mail.evq 0 = (mget (fun _ => []) s.mail.evq 0).drop 3 ∧
        ∀ k, k ≠ 0 → mget (fun _ => []) u.mail.evq k = mget (fun _ => []) s.mail.evq k)) ∧
    (ebryn s (.ecLogRead h) = some e → ∃ u : State, exec (.ecLogRead h) s = .next u ∧ u.ecLog = s.ecLog.drop 4 ∧
      u = (({ t with ecLog := s.ecLog.drop 4 } : State).replyData h
        (fit 0 4 (leBytes 1 (min 4 s.ecLog.length)) ++ ((s.ecLog.take 4).map LogEntry.bytes).flatten))) ∧
    (ebryn s (.selftestResult h) = some e → ∃ u : State, exec (.selftestResult h) s = .next (u.replyData h
        (fit 0 4 (leBytes 1 (min 4 s.boot.records.length)) ++
          ((s.boot.records.take 4).map fun x => regData [x.w0, x.w1, x.w2]).flatten)) ∧
      u.boot.records = s.boot.records.drop 4) ∧
    (∀ mask, h.port ≤ 16 → ebryn s (.eventCfg h mask) = some e → ∃ u : State, exec (.eventCfg h mask) s = .next (u.reply h 0) ∧
      u.f Fld.MB_EVT_MASK_MASK h.port = mask % 65536 ∧
      ∀ r n, (r ≠ .MB_EVT_MASK ∨ n < 17 ∧ n ≠ h.port) → u.rd r n = t.rd r n)

/-- R107, R108: a handover begins and ends. -/
def Obligations.HandoverChangesTheOwner : Prop :=
  ∀ (s : State) (b value : Nat), s.canon → b < 512 →
    let o : Owner := { kind := bits value 15 12, id := bits value 11 0 }
    (s.ownerStatus b value = 0 → o ≠ s.owner b → ∃ t, exec (.handover b value) s = .next t ∧ t.handover b = true ∧
      t.nextOwner b = o ∧ t.f Fld.LB_NEXT_OWNER_VALID b = 1 ∧ t.owner b = s.owner b) ∧
    (s.ownerStatus b value = 0 → o = s.owner b → exec (.handover b value) s = .next s) ∧
    (s.ownerStatus b value ≠ 0 → ∃ t, exec (.handover b value) s = .next t ∧ t.f Fld.LB_STATUS_WR_REFUSED b = 1 ∧
      t.rd .LB_OWNER b = s.rd .LB_OWNER b ∧ t.rd .LB_NEXT_OWNER b = s.rd .LB_NEXT_OWNER b ∧ t.banks = s.banks) ∧
    (s.safe = false → s.resuming = false →
      (s.bank b).op = .handoverReady ∨ ((s.bank b).op = .handoverDrain ∧ s.drained b = true ∧ s.f Fld.LB_CTRL_WIPE_ON_HANDOVER b = 0) →
      ∃ t, exec (.handoverComplete b) s = .next t ∧ t.owner b = s.nextOwner b ∧ t.handover b = false ∧
        t.rd .LB_NEXT_OWNER b = 0 ∧ t.rd .LB_GUEST b = 0 ∧
        t.f Fld.LB_HANDOVER_COUNT_COUNT b = (s.f Fld.LB_HANDOVER_COUNT_COUNT b + 1) % 2 ^ Fld.LB_HANDOVER_COUNT_COUNT.width)

/-- R110, R111, R113. -/
def Obligations.GuestsRetentionAndWakes : Prop :=
  ∀ (s : State) (b value : Nat), s.canon → b < 512 →
    (s.guestStatus b value = 0 → ∃ t, exec (.guestGrant b value) s = .next t ∧
      t.rd .LB_GUEST b = if bit value 31 = 0 then 0 else BitVec.ofNat 32 (2 ^ 31 + bits value 15 0)) ∧
    (s.guestStatus b value ≠ 0 → ∃ t, exec (.guestGrant b value) s = .next t ∧
      t.f Fld.LB_STATUS_WR_REFUSED b = 1 ∧ t.rd .LB_GUEST b = s.rd .LB_GUEST b) ∧
    ((s.owner b).kind ≠ 2 → (s.owner b).kind ≠ 3 → s.fallowBank b = false → s.f Fld.LB_PWR_PSTATE b = 0 →
      ∃ t, exec (.retentionRequest b) s = .next t ∧ t.f Fld.LB_PWR_PSTATE b = 1 ∧ t.f Fld.LB_PWR_CAUSE b = 1 ∧
        t.f Fld.LB_PWR_RET_REQ b = 1) ∧
    (s.f Fld.LB_PWR_PSTATE b = 1 → ∃ t, exec (.retentionEntryComplete b) s = .next t ∧ t.f Fld.LB_PWR_PSTATE b = 2) ∧
    (s.retained b = true → s.f Fld.LB_PWR_CAUSE b = 1 → ∃ t, exec (.wakeRequest b) s = .next t ∧
      (t.bank b).wakeWait = true ∧ t.f Fld.LB_PWR_RET_REQ b = 0 ∧ t.f Fld.LB_PWR_PSTATE b = s.f Fld.LB_PWR_PSTATE b) ∧
    ((s.bank b).wakeWait = true → s.f Fld.LB_PWR_PSTATE b = 2 →
      (banks512.filter fun k => s.f Fld.LB_PWR_PSTATE k = 3).length < 32 →
      (∀ k, k < b → ¬((s.bank k).wakeWait = true ∧ s.f Fld.LB_PWR_PSTATE k = 2)) →
      ∃ t, exec (.wakeStart b) s = .next t ∧ t.f Fld.LB_PWR_PSTATE b = 3 ∧ (t.bank b).wakeWait = false) ∧
    (s.f Fld.LB_PWR_PSTATE b = 3 → s.boot.frPhase ≠ 5 → s.boot.frPhase ≠ 6 → ∃ t, exec (.wakeComplete b) s = .next t ∧
      t.f Fld.LB_PWR_PSTATE b = 0 ∧ t.f Fld.LB_PWR_CAUSE b = 0)

/-- R114, R115. -/
def Obligations.WipesClearTheBank : Prop :=
  ∀ (s : State) (b : Nat), s.canon → b < 512 →
    (s.fallowBank b = false → s.f Fld.LB_PWR_PSTATE b = 0 → s.handover b = false → (s.bank b).op = .none →
      s.f Fld.LB_STATUS_WIPE_BUSY b = 0 → (s.bank b).q = [] → (∀ p, p < 4 → (s.plane (bankStair b) p).rowQ = []) → s.sliceOn b = false →
      ∃ t, exec (.wipeRequest b) s = .next t ∧ t.f Fld.LB_STATUS_WIPE_BUSY b = 1 ∧ (t.bank b).op = .wipe) ∧
    (s.f Fld.LB_STATUS_WIPE_BUSY b = 1 → (s.bank b).op = .wipe → (s.bank b).cmd = [] →
      ∃ t, exec (.wipeComplete b) s = .next t ∧ t.f Fld.LB_STATUS_WIPE_BUSY b = 0 ∧ t.f Fld.LB_STATUS_WIPE_DONE b = 1 ∧
        (t.bank b).op = .none ∧
        (∀ a, bankRow b 0 ≤ a → a < bankRow b 8192 → t.byte a = 0 ∧ t.syn a = 0) ∧
        (∀ a, a < bankRow b 0 ∨ bankRow b 8192 ≤ a → t.byte a = s.byte a)) ∧
    (s.boot.step = 8 → s.boot.stopped = false → s.safe = false → s.shutdown = false → s.boot.wipePos < 4 →
      ∃ t, exec (.startUpWipe (s.boot.wipePos + 1)) s = .next t ∧ t.boot.wipePos = s.boot.wipePos + 1 ∧
        t.boot.step = (if s.boot.wipePos = 3 then 9 else 8) ∧
        (b / 128 = s.boot.wipePos → s.fallowBank b = false → ∀ a, bankRow b 0 ≤ a → a < bankRow b 8192 → t.byte a = 0))

/-- R56 to R58, R69: requests, the edge, held switches. -/
def Obligations.SwitchesMakeThePlaneActive : Prop :=
  ∀ (s : State) (n p t : Nat), s.canon → n < 128 → t < 4 → p < 4 → s.roomState n = 0 → s.active n = some p → p ≠ t →
    (s.room n).ld = none → (s.room n).cmdSwitch = none → (s.room n).cyc = none →
    (s.planeState n t = 2 → s.storePoisoned n t = false → (s.room n).sw = none →
      (∃ u, exec (.planectlSwitchRequest n t) s = .next u ∧ (u.room n).sw = some (t, .planectl) ∧
        u.f Fld.RM_PLANE_PEND_VALID n = 0 ∧ u.active n = some p) ∧
      (∀ h, s.accepts ⟨h, 0x0403, .r, argBytes [(6, 1, n), (7, 1, t)], false⟩ →
        ∃ u, exec (.planeSwitch h n t) s = .next u ∧ (u.room n).sw = some (t, .reg) ∧ (u.room n).cmdSwitch = some h.ref ∧
          u.f Fld.RM_PLANE_PEND_VALID n = 0 ∧ u.active n = some p)) ∧
    (∀ src mask value l, (s.room n).sw = some (t, src) → s.planeState n t = 2 → s.storePoisoned n t = false →
      ∃ u, exec (.ckRoomEdge n ⟨mask, value⟩ l) s = .next u ∧ u.active n = some t ∧ (u.room n).sw = none ∧
        u.f Fld.RM_PLANE_PEND_VALID n = 0 ∧
        u.f Fld.RM_SWITCH_COUNT_COUNT n = (s.f Fld.RM_SWITCH_COUNT_COUNT n + 1) % 2 ^ 32) ∧
    (s.f Fld.RM_PLANE_PEND_VALID n = 1 → s.f Fld.RM_PLANE_PENDING n = t → s.planeState n t = 2 → s.storePoisoned n t = false →
      ∃ u, exec (.heldSwitch n) s = .next u ∧ u.active n = some t ∧ u.f Fld.RM_PLANE_PEND_VALID n = 0 ∧
        u.f Fld.RM_SWITCH_COUNT_COUNT n = (s.f Fld.RM_SWITCH_COUNT_COUNT n + 1) % 2 ^ 32) ∧
    (s.planeState n t = 1 → ∃ u, exec (.planectlSwitchRequest n t) s = .next u ∧ u.f Fld.RM_PLANE_PEND_VALID n = 1 ∧
      u.f Fld.RM_PLANE_PENDING n = t ∧ u.active n = some p) ∧
    (s.planeState n t = 0 → ∃ u, exec (.planectlSwitchRequest n t) s = .next u ∧ u.f Fld.RM_STATUS_SW_REFUSED n = 1 ∧
      u.rd .RM_PLANE n = s.rd .RM_PLANE n)

/-- R69, R85. -/
def Obligations.EdgesParkAndDrive : Prop :=
  ∀ (s : State) (n : Nat), s.canon → n < 128 →
    (∀ h, s.accepts ⟨h, 0x0405, .r, argBytes [(6, 1, n)], false⟩ → s.roomState n = 0 →
      ∃ u, exec (.roomPark h n) s = .next u ∧ (u.room n).parks = (s.room n).parks ++ [(true, some h.ref)]) ∧
    (∀ h, s.accepts ⟨h, 0x0406, .r, argBytes [(6, 1, n)], false⟩ → s.roomState n = 1 → s.f Fld.RM_STATUS_PARK_SHED n = 0 →
      ∃ u, exec (.roomUnpark h n) s = .next u ∧ (u.room n).parks = (s.room n).parks ++ [(false, some h.ref)]) ∧
    (∀ cmd rest mask value l, s.roomState n = 0 → (s.room n).parks = (true, cmd) :: rest → (s.room n).toRun = false →
      ∃ u, exec (.ckRoomEdge n ⟨mask, value⟩ l) s = .next u ∧ u.roomState n = 1 ∧ (u.room n).parks = rest) ∧
    (∀ cmd rest mask value l, s.roomState n = 1 → (s.room n).parks = (false, cmd) :: rest → s.f Fld.RM_STATUS_PARK_SHED n = 0 →
      (s.room n).toStop = 0 → ∃ u, exec (.ckRoomEdge n ⟨mask, value⟩ l) s = .next u ∧ u.roomState n = 0 ∧ (u.room n).parks = rest) ∧
    (∀ p mask value l, s.roomState n = 0 → s.active n = some p → (s.room n).sw = none → s.f Fld.RM_PLANE_PEND_VALID n = 0 →
      (s.room ((n + 64) % 128)).vtMask = 0 → (s.stair (n % 64)).win = none → (s.stair (n % 64 + 64)).win = none →
      (s.stair (n % 64)).dead = [] → (s.stair (n % 64 + 64)).dead = [] →
      ∃ u, exec (.ckRoomEdge n ⟨mask, value⟩ l) s = .next u ∧
        (u.stair (n % 64)).tracks = ((s.stair (n % 64)).tracks &&& ~~~mask) ||| (value &&& mask))

/-- R54, R55, R106: row moves. The row of a bank no background slice holds lies at its own address. -/
def Obligations.RowMovesReachTheBank : Prop :=
  ∀ (s : State) (n p : Nat), s.canon → s.tables → n < 128 → s.roomState n = 0 → s.active n = some p →
    (∀ loft row write data poison, loft < 4 → (s.plane n p).rowQ.length < 8 →
      (write = true → ((s.plane n p).rowQ.filter fun r => r.write).length + (s.plane n p).rowDone.length < 8) →
      (write = false → ((s.plane n p).rowQ.filter fun r => !r.write).length + (s.plane n p).rowRet.length < 4) →
      ∃ u, exec (.rowRequest n loft row write data poison) s = .next u ∧
        (u.plane n p).rowQ = (s.plane n p).rowQ ++ [{
          bank := 128 * loft + n, row := row % 8192, write := write, permitted := s.rowOk n p (128 * loft + n),
          late := s.arrivesLate (128 * loft + n) (.plane n p), data := fit 0 1024 data, poison := poison % 2 ^ 32 }]) ∧
    (∀ r rest, (s.plane n p).rowQ = r :: rest → r.row < 8192 → (s.room n).ld = none → s.paused n = false → s.resuming = false →
      (∀ q, q < 4 → q ≠ p → (s.plane n q).rowQ = []) → s.rowPick n = some (p, r) → s.stairFailed n = false → p < 4 →
      (r.permitted = true → s.fallowBank r.bank = false → s.retentionHold r.bank = none → r.bank < 512 → r.bank % 128 = n →
        (s.stair n).slice = none →
        (r.write = true → r.poison = 0 → r.data.length = 1024 → ∃ u, exec (.rowMove n []) s = .next u ∧ (u.plane n p).rowQ = rest ∧
          (u.plane n p).rowDone = (s.plane n p).rowDone ++ [false] ∧
          (∀ i, i < 1024 → u.byte (bankRow r.bank r.row + i) = r.data.getD i 0) ∧
          (∀ a, a < bankRow r.bank r.row ∨ bankRow r.bank r.row + 1024 ≤ a → u.byte a = s.byte a)) ∧
        (r.write = false → ∃ u, exec (.rowMove n []) s = .next u ∧ (u.plane n p).rowQ = rest ∧ u.mem = s.mem ∧
          ∃ e, (u.plane n p).rowRet = (s.plane n p).rowRet ++ [e] ∧ e.busy = false ∧ e.bank = r.bank ∧ e.row = r.row ∧
            e.data = (List.range 32).flatMap fun w => (s.decoded (bankRow r.bank r.row + 32 * w)).1)) ∧
      (r.permitted = false → ∃ u, exec (.rowMove n []) s = .next u ∧ (u.plane n p).rowQ = rest ∧ u.mem = s.mem ∧
        u.f Fld.LB_DENY_COUNT_COUNT r.bank = min (s.f Fld.LB_DENY_COUNT_COUNT r.bank + 1) Fld.LB_DENY_COUNT_COUNT.top ∧
        (r.write = true → (u.plane n p).rowDone = (s.plane n p).rowDone ++ [false]) ∧
        (r.write = false → ∃ e, (u.plane n p).rowRet = (s.plane n p).rowRet ++ [e] ∧ e.poison = 2 ^ 32 - 1)))

/-- R97 to R99, R106. `j` is the queue whose turn it is. -/
def Obligations.ServiceLaneAccesses : Prop :=
  ∀ (s : State) (n : Nat), s.canon → s.tables → n < 128 →
    (∀ p s', s.take (128 + n) 0 = some (p, s') → addrForm p.type = true → p.addr / 0x800000 < 512 →
      p.addr / 0x800000 % 128 = n → s.laneOk (s.agentOf p) (p.addr / 0x800000) = true → s.stairFailed n = false →
      s.f Fld.LB_PWR_PSTATE (p.addr / 0x800000) = 0 →
      (s.bank (p.addr / 0x800000)).q.length + (wordsOf p.addr p.len).length ≤ 16 →
      ∃ u, exec (.serviceLaneRequest n) s = .next u ∧
        (u.bank (p.addr / 0x800000)).q.length = (s.bank (p.addr / 0x800000)).q.length + (wordsOf p.addr p.len).length ∧
        (u.bank (p.addr / 0x800000)).q.take (s.bank (p.addr / 0x800000)).q.length = (s.bank (p.addr / 0x800000)).q ∧
        mget (fun _ => none) u.svc s.svcNext = some { pkt := p, left := (wordsOf p.addr p.len).length } ∧ u.mem = s.mem) ∧
    (∀ p s', s.take (128 + n) 0 = some (p, s') → addrForm p.type = true → p.addr / 0x800000 < 512 →
      p.addr / 0x800000 % 128 = n → s.laneOk (s.agentOf p) (p.addr / 0x800000) = false →
      ∃ u, exec (.serviceLaneRequest n) s = .next u ∧
        u.f Fld.LB_DENY_COUNT_COUNT (p.addr / 0x800000) =
          min (s.f Fld.LB_DENY_COUNT_COUNT (p.addr / 0x800000) + 1) Fld.LB_DENY_COUNT_COUNT.top ∧
        u.banks = s.banks ∧ u.mem = s.mem ∧
        mget (fun _ => []) u.net.send (128 + n) = mget (fun _ => []) s.net.send (128 + n) ++ [answer s p 4 (128 + n) 2 [] 0 false]) ∧
    (∀ acc rest, s.nextAcc (128 * (s.stair n).turn + n) = some (acc, rest) → ∀ r, mget (fun _ => none) s.svc acc.req = some r → (s.stair n).turn < 4 → s.paused n = false →
      s.stairFailed n = false → s.laneLoses n (128 * (s.stair n).turn + n) false = false → (s.stair n).slice = none →
      s.inCtm (128 * (s.stair n).turn + n) = false →
      (s.bank (128 * (s.stair n).turn + n)).op = .none → acc.addr % 32 = 0 →
      acc.addr / 0x800000 = 128 * (s.stair n).turn + n →
      (∀ d, acc.write = some (0, d) → d.length = 32 → acc.poison = false → 1 < r.left →
        ∃ u, exec (.serviceAccess n false []) s = .next u ∧ (u.bank (128 * (s.stair n).turn + n)).q = rest ∧
          (u.stair n).turn = ((s.stair n).turn + 1) % 4 ∧
          (∀ i, i < 32 → u.byte (acc.addr + i) = d.getD i 0) ∧
          (∀ a, a < acc.addr ∨ acc.addr + 32 ≤ a → u.byte a = s.byte a) ∧
          mget (fun _ => none) u.svc acc.req = some { r with left := r.left - 1, data := r.data ++ [(acc.addr, [])] }) ∧
      (acc.write = none → (s.decoded acc.addr).2 = false →
        ∃ u, exec (.serviceAccess n false []) s = .next u ∧ (u.bank (128 * (s.stair n).turn + n)).q = rest ∧ u.mem = s.mem ∧
          (1 < r.left → mget (fun _ => none) u.svc acc.req =
            some { r with left := r.left - 1, data := r.data ++ [(acc.addr, (s.decoded acc.addr).1)] }) ∧
          (r.left = 1 → mget (fun _ => none) u.svc acc.req = none ∧
            (r.pkt.type = 0 → r.busy = 0 → mget (fun _ => []) u.net.send (128 + n) = mget (fun _ => []) s.net.send (128 + n) ++
              [answer s r.pkt 3 (128 + n) 0 (slice ((r.data ++ [(acc.addr, (s.decoded acc.addr).1)]).map (·.2)).flatten
                (r.pkt.addr % 32) (r.pkt.len + 1)) r.poison false]))))

/-- R47, R54, R60, R149, R165. -/
def Obligations.RoomEndpointAndResponses : Prop :=
  ∀ (s : State) (n : Nat), s.canon → s.tables → n < 128 → s.roomState n = 0 →
    (∀ p s', s.take n 0 = some (p, s') → s.gateDraining 0 n = false → s.rxWaits n p = false →
      (addrForm p.type = true → p.addr % 0x100000 < 0x90000 →
        ∃ u, exec (.roomEndpointRequest n) s = .next u ∧ (u.room n).ramQ = (s.room n).ramQ ++ [p] ∧ u.mem = s.mem) ∧
      (p.type = 2 → p.vc = 0 → 2 ≤ s.planeState n (p.dstPlane % 4) → (s.plane n (p.dstPlane % 4)).rxReq.length < 8 →
        ∃ u, exec (.roomEndpointRequest n) s = .next u ∧
          (u.plane n (p.dstPlane % 4)).rxReq = (s.plane n (p.dstPlane % 4)).rxReq ++ [p] ∧
          mget (fun _ => []) u.net.send n = mget (fun _ => []) s.net.send n ++ [answer s p 4 n 0 [] 0 false])) ∧
    (∀ p rest, (s.room n).ramQ = p :: rest → (∀ q, s.active n = some q → s.portConflict n q p = false) →
      (p.type = 0 → ∃ u, exec (.roomRamAccess n) s = .next u ∧ (u.room n).ramQ = rest ∧
        (2 ^ 32 ≤ p.addr → u.mem = s.mem) ∧
        (mget (fun _ => []) u.net.send n).length = (mget (fun _ => []) s.net.send n).length + 1) ∧
      (p.type = 1 → 2 ^ 32 ≤ p.addr → p.addr % 32 = 0 → p.payload.length = 32 → p.poison = 0 →
        ∃ u, exec (.roomRamAccess n) s = .next u ∧ (u.room n).ramQ = rest ∧
          (∀ i, i < 32 → u.byte (p.addr + i) = p.payload.getD i 0) ∧
          (∀ a, a < p.addr ∨ p.addr + 32 ≤ a → u.byte a = s.byte a) ∧
          mget (fun _ => []) u.net.send n = mget (fun _ => []) s.net.send n ++ [answer s p 4 n 0 [] 0 false])) ∧
    (∀ k p, s.active n = some p → ((mget (fun _ => []) s.net.send n).filter fun q => q.srcPlane == p && !q.own && q.type != 3 && q.type != 4).length < 2 →
      (isRequest k.type = false → ∃ u, exec (.corridorTransmit n k) s = .next u ∧ ∃ q,
        mget (fun _ => []) u.net.send n = mget (fun _ => []) s.net.send n ++ [q] ∧ q.srcEp = n ∧ q.srcNode = s.node ∧
        q.srcPlane = p ∧ q.type = k.type ∧ q.dest = k.dest ∧ q.payload = k.payload) ∧
      (isRequest k.type = true → k.tag < 64 → mget (fun _ => Slot.free) (s.plane n p).slots k.tag = .free →
        s.outReq (outKey n p k.tag) = none →
        ∃ u, exec (.corridorTransmit n k) s = .next u ∧ ∃ q,
          mget (fun _ => []) u.net.send n = mget (fun _ => []) s.net.send n ++ [q] ∧ q.srcEp = n ∧ q.srcPlane = p ∧
          q.tag = k.tag ∧ mget (fun _ => Slot.free) (u.plane n p).slots k.tag = .waiting false ∧
          u.outReq (outKey n p k.tag) = some { pkt := q, expired := false })) ∧
    (∀ p s', s.take n 1 = some (p, s') → ∀ r, s.outReq (outKey n p.dstPlane p.tag) = some r → r.expired = false → p.dstPlane < 4 →
      mget (fun _ => Slot.free) (s.plane n p.dstPlane).slots p.tag = .waiting false →
      ∃ u, exec (.responseArrival n) s = .next u ∧ u.outReq (outKey n p.dstPlane p.tag) = none ∧
        mget (fun _ => Slot.free) (u.plane n p.dstPlane).slots p.tag = .answered p)

/-- R61, R62 step 1: LOAD, STATE_RELOAD, SAVE, PLANE_LOAD and PLANE_SAVE. -/
def Obligations.LoadsAreAccepted : Prop :=
  ∀ (s : State) (n p value : Nat) (agent : LoadAgent), s.canon → s.tables → n < 128 → s.roomState n < 4 → s.gateDraining 0 n = false → (s.room n).ld = none →
    p = bits value 27 26 → s.active n ≠ some p →
    let place : Nat × Nat := (128 * s.f Fld.RM_PSRC_LOFT (4 * n + p) + n, s.f Fld.RM_PSRC_ROW (4 * n + p))
    let started (u : State) (who : LoadAgent) (op b row : Nat) (cmd : Option CmdRef) : Prop :=
      u.f Fld.RM_LOAD_STATUS_BUSY n = 1 ∧ u.f Fld.RM_LOAD_STATUS_PLANE n = p ∧ u.f Fld.RM_LOAD_STATUS_ERR n = 0 ∧
      u.f Fld.RM_LOAD_STATUS_ROWS n = 0 ∧
      ∃ o, (u.room n).ld = some o ∧ o.agent = who ∧ o.op = op ∧ o.plane = p ∧ o.bank = b ∧ o.row = row ∧ o.phase = 1 ∧ o.cmd = cmd
    (bits value 12 0 ≤ 5480 → s.fallowBank (128 * bits value 25 24 + n) = false →
      loadOwner (s.owner (128 * bits value 25 24 + n)) n = true →
      (∃ u, exec (.load n agent value) s = .next u ∧ started u agent 0 (128 * bits value 25 24 + n) (bits value 12 0) none ∧
        u.planeState n p = 1) ∧
      (∀ h, s.accepts ⟨h, 0x0401, .r, argBytes [(6, 1, n), (8, 4, value)], false⟩ → bits value 29 28 = 0 →
        ∃ u, exec (.planeLoad h n value) s = .next u ∧
          started u .mp 0 (128 * bits value 25 24 + n) (bits value 12 0) (some h.ref) ∧ u.planeState n p = 1)) ∧
    (s.planeState n p = 2 → s.f Fld.RM_PSRC_VALID (4 * n + p) = 1 → s.fallowBank place.1 = false →
      loadOwner (s.owner place.1) n = true →
      (∃ u, exec (.stateReload n agent value) s = .next u ∧ started u agent 1 place.1 place.2 none) ∧
      (∃ u, exec (.save n agent value) s = .next u ∧ started u agent 2 place.1 place.2 none) ∧
      (∀ h, s.accepts ⟨h, 0x0402, .r, argBytes [(6, 1, n), (7, 1, p)], false⟩ →
        ∃ u, exec (.planeSave h n p) s = .next u ∧ started u .mp 2 place.1 place.2 (some h.ref)))

/-- R62, R63: the operation in progress is `o`. -/
def Obligations.LoadsProceed : Prop :=
  ∀ (s : State) (n : Nat), s.canon → s.tables → n < 128 → ∀ o, (s.room n).ld = some o → o.plane < 4 →
    (let place := s.loadPlace n 2 o.plane 0;
      let noMore : Prop := s.boot.bgLoads.find? (fun x => x.1 == n) = none;
      let own : Prop := o.agent = .sched → o.desc = none;
      let failed (u : State) (err : Nat) : Prop := (u.room n).ld = none ∧ u.f Fld.RM_LOAD_STATUS_DONE n = 1 ∧
        u.f Fld.RM_LOAD_STATUS_BUSY n = 0 ∧ u.f Fld.RM_LOAD_STATUS_ERR n = err;
      (o.phase = 1 → s.targetIdle n o.plane = true →
        (o.op ≠ 2 → o.saveFirst = false → ∃ u, exec (.drainComplete n) s = .next u ∧ u.planeState n o.plane = 1 ∧
          (u.room n).ld = some { o with phase := 3, next := if o.op = 0 then 0 else 2688 } ∧
          (o.op = 0 → u.f Fld.RM_PSRC_VALID (4 * n + o.plane) = 0)) ∧
        (o.op = 2 ∨ o.saveFirst = true → s.fallowBank place.1 = false → loadOwner (s.owner place.1) n = true →
          ∃ u, exec (.drainComplete n) s = .next u ∧ u.planeState n o.plane = 3 ∧
            (u.room n).ld = some { o with phase := 2, next := 0, row := if o.op = 2 then place.2 else o.row }) ∧
        (o.op = 2 ∨ o.saveFirst = true → noMore → s.fallowBank place.1 = true ∨ loadOwner (s.owner place.1) n = false →
          ∃ u, exec (.drainComplete n) s = .next u ∧ failed u 7 ∧ u.planeState n o.plane = 2)) ∧
      (o.phase = 1 → s.targetIdle n o.plane = false → exec (.drainComplete n) s = .next s) ∧
      (o.phase = 1 → ∃ u, exec (.drainLimit n) s = .next u ∧
        (∀ t, mget (fun _ => Slot.free) (s.plane n o.plane).slots t = .waiting false →
          mget (fun _ => Slot.free) (u.plane n o.plane).slots t = .waiting true) ∧
        ((s.plane n o.plane).rowQ ≠ [] → (u.room n).ld = some o) ∧
        ((s.plane n o.plane).rowQ = [] → o.op ≠ 2 → o.saveFirst = false →
          (u.room n).ld = some { o with phase := 3, next := if o.op = 0 then 0 else 2688 })) ∧
      (∀ b row, (b, row) = s.loadRowPlace n o → o.phase = 2 ∨ o.phase = 3 → s.paused n = false → s.roomState n < 2 →
        s.retentionHold b = none → s.loadWaits n b = false → s.sched.loadsDone = [] →
        (s.fallowBank b = false → s.mayEnter b false = true → s.stairFailed n = false → (s.stair n).slice = none → b < 512 →
          b % 128 = n → row < 8192 →
          (o.phase = 3 → (∀ w, w < 32 → (s.decoded (bankRow b row + 32 * w)).2 = false) → ∃ u, exec (.loadRow n []) s = .next u ∧
            (u.room n).ld = some { o with phase := if o.next = 2711 then 4 else 3, next := o.next + 1 } ∧
            u.f Fld.RM_LOAD_STATUS_ROWS n = min (s.f Fld.RM_LOAD_STATUS_ROWS n + 1) Fld.RM_LOAD_STATUS_ROWS.top ∧
            (∀ w i, w < 32 → i < 32 → u.byte (landing n o.plane o.next + 32 * w + i) =
              (s.decoded (bankRow b row + 32 * w)).1.getD i 0) ∧
            (∀ a, a < landing n o.plane o.next ∨ landing n o.plane o.next + 1024 ≤ a → u.byte a = s.byte a)) ∧
          (o.phase = 2 → (∀ w, w < 32 → (s.decoded (landing n o.plane (2688 + o.next) + 32 * w)).2 = false) → ∃ u, exec (.loadRow n []) s = .next u ∧
            u.f Fld.RM_LOAD_STATUS_ROWS n = min (s.f Fld.RM_LOAD_STATUS_ROWS n + 1) Fld.RM_LOAD_STATUS_ROWS.top ∧
            (o.next ≠ 23 → (u.room n).ld = some { o with next := o.next + 1 }) ∧
            (o.next = 23 → o.op = 2 → (u.room n).ld = some { o with phase := 4, next := 24 }) ∧
            (∀ w i, w < 32 → i < 32 → u.byte (bankRow b row + 32 * w + i) =
              (s.decoded (landing n o.plane (2688 + o.next) + 32 * w)).1.getD i 0) ∧
            (∀ a, a < bankRow b row ∨ bankRow b row + 1024 ≤ a → u.byte a = s.byte a))) ∧
        (s.fallowBank b = true → b < 512 → o.phase = 3 → noMore → own → ∃ u, exec (.loadRow n []) s = .next u ∧ failed u 4 ∧
          u.planeState n o.plane = 0 ∧ u.mem = s.mem ∧
          u.f Fld.LB_DENY_COUNT_COUNT b = min (s.f Fld.LB_DENY_COUNT_COUNT b + 1) Fld.LB_DENY_COUNT_COUNT.top)) ∧
      (o.phase = 4 → noMore → s.sched.loadsDone = [] →
        (o.op = 1 ∨ o.op = 2 → ∃ u, exec (.loadFinish n) s = .next u ∧ failed u 0 ∧ u.planeState n o.plane = 2) ∧
        (o.op = 0 → let t := s.bytesAt (landing n o.plane 0 + 2752448) 64;
          let bad : Bool := (crc32c (s.bytesAt (landing n o.plane 0) 2752508)).toNat != leNat (slice t 60 4) || !trailerOk t;
          ∃ u, exec (.loadFinish n) s = .next u ∧
            (bad = true → own → failed u 3 ∧ u.planeState n o.plane = 0) ∧
            (bad = false → own → (failed u 0 ∧ u.planeState n o.plane = 2 ∧ u.f Fld.RM_PSRC_VALID (4 * n + o.plane) = 1 ∧
                u.f Fld.RM_PSRC_ROW (4 * n + o.plane) = o.row % 2 ^ Fld.RM_PSRC_ROW.width) ∨
              (failed u 5 ∧ u.planeState n o.plane = 0)))))

/-- Tables 05-8 and 17-9: the five commands in an accepted case. -/
def Obligations.BankCommandsStartTheirWork : Prop :=
  ∀ (s : State) (h : CmdHdr) (b value : Nat), s.canon → s.tables → b < 512 →
    (let e : Ebryn := ⟨h, 0x0301, .r, argBytes [(6, 2, b), (8, 4, value)], false⟩;
      let o : Owner := { kind := bits value 15 12, id := bits value 11 0 };
      s.accepts e → (s.entered e).ringBank b = false → s.ownerStatus b value = 0 → o ≠ s.owner b →
      ∃ u, exec (.bankOwner h b value) s = .next u ∧ u.handover b = true ∧ u.nextOwner b = o ∧ u.owner b = s.owner b ∧
        (u.bank b).cmd = (s.bank b).cmd ++ [h.ref]) ∧
    (let e : Ebryn := ⟨h, 0x0302, .r, argBytes [(6, 2, b), (8, 4, value)], false⟩;
      s.accepts e → s.guestStatus b value = 0 → ∃ u, exec (.bankGuest h b value) s = .next u ∧
        u.rd .LB_GUEST b = if bit value 31 = 0 then 0 else BitVec.ofNat 32 (2 ^ 31 + bits value 15 0)) ∧
    (let e : Ebryn := ⟨h, 0x0303, .r, argBytes [(6, 2, b)], false⟩;
      s.accepts e → (s.entered e).ringBank b = false → (s.owner b).kind ≠ 2 → (s.owner b).kind ≠ 3 → s.fallowBank b = false →
      s.f Fld.LB_PWR_PSTATE b = 0 → ∃ u, exec (.bankRetain h b) s = .next u ∧ u.f Fld.LB_PWR_PSTATE b = 1 ∧
        u.f Fld.LB_PWR_CAUSE b = 1 ∧ (u.bank b).retCmd = (s.bank b).retCmd ++ [h.ref]) ∧
    (let e : Ebryn := ⟨h, 0x0304, .r, argBytes [(6, 2, b)], false⟩;
      s.accepts e → s.retained b = true → s.f Fld.LB_PWR_CAUSE b = 1 → ∃ u, exec (.bankWake h b) s = .next u ∧
        (u.bank b).wakeWait = true ∧ u.f Fld.LB_PWR_RET_REQ b = 0 ∧ (u.bank b).wakeCmd = (s.bank b).wakeCmd ++ [h.ref]) ∧
    (let e : Ebryn := ⟨h, 0x0305, .r, argBytes [(6, 2, b)], false⟩;
      s.accepts e → (s.entered e).ringBank b = false → s.fallowBank b = false → s.f Fld.LB_PWR_PSTATE b = 0 → s.handover b = false →
      (s.bank b).op = .none → s.f Fld.LB_STATUS_WIPE_BUSY b = 0 → (s.bank b).q = [] →
      (∀ p, p < 4 → (s.plane (bankStair b) p).rowQ = []) → s.sliceOn b = false →
      ∃ u, exec (.bankWipe h b) s = .next u ∧ u.f Fld.LB_STATUS_WIPE_BUSY b = 1 ∧ (u.bank b).op = .wipe ∧
        (u.bank b).cmd = (s.bank b).cmd ++ [h.ref])

/-- R144 to R169. `s1` is the state once packets of the router's own endpoints have entered, malformed ones are dropped and heads that no endpoint takes are discarded. -/
def Obligations.CorridorMovesPackets : Prop :=
  ∀ (s : State), s.canon → s.tables →
    (∀ r out, r < 144 → out < 6 →
      let s1 := ((s.pumpRouter r).dropMalformed r).sinkHeads r
      let a0 := mget (fun _ => ({} : Arb)) s1.net.arbs (8 * r + out)
      let a0 := if a0.left = 0 ∧ a0.last = [] then { a0 with left := nth a0.w 0 } else a0
      ∀ a vc i c, s1.chooseVc r out 9 a0 = some (a, vc, i, c) →
      let kin := bufKey (inLink r i) vc c
      let kout := bufKey (8 * r + out) vc (nextClass r i out c)
      ∀ p rest, s1.buf kin = p :: rest → kin ≠ kout →
      ∃ u, exec (.packetForward r out .clean) s = .next u ∧ u.buf kin = rest ∧ u.buf kout = s1.buf kout ++ [p] ∧
        (u.book kout).cred = (s1.book kout).cred - p.flits ∧ (u.book kout).flight = (s1.book kout).flight + p.flits ∧
        (u.book kin).flight = (s1.book kin).flight - p.flits ∧ (u.book kin).free = (s1.book kin).free + p.flits) ∧
    (∀ link vc cls n, ∃ u, exec (.creditReturn link vc cls n) s = .next u ∧
      let k := bufKey link vc cls
      (u.book k).cred = (s.book k).cred + min (min n 3) (s.book k).free ∧
      (u.book k).cred + (u.book k).free + (u.book k).flight = (s.book k).cred + (s.book k).free + (s.book k).flight ∧
      ∀ j, j ≠ k → u.book j = s.book j) ∧
    (∀ ep plane tag, ∀ r, s.outReq (outKey ep plane tag) = some r →
      (r.expired = false → s.resuming = false → s.safe = false → ∃ u, exec (.responseTimeLimit ep plane tag) s = .next u ∧
        u.f Fld.CO_TIMEOUT_COUNT_EXPIRED 0 = min (s.f Fld.CO_TIMEOUT_COUNT_EXPIRED 0 + 1) Fld.CO_TIMEOUT_COUNT_EXPIRED.top ∧
        (ep < 128 → plane < 4 → mget (fun _ => Slot.free) (s.plane ep plane).slots tag = .waiting false →
          u.outReq (outKey ep plane tag) = some { r with expired := true } ∧
          mget (fun _ => Slot.free) (u.plane ep plane).slots tag = .linkLost)) ∧
      (r.expired = true → ∃ u, exec (.expiredTagRelease ep plane tag) s = .next u ∧ u.outReq (outKey ep plane tag) = none)) ∧
    (∃ u, exec .berrArm s = .next u ∧ u.f Fld.CO_STATUS_BERR 0 = 0 ∧ u.f Fld.CO_STATUS_DROPPED 0 = s.f Fld.CO_STATUS_DROPPED 0 ∧
      u.rd .CO_BERR_SRC 0 = s.rd .CO_BERR_SRC 0) ∧
    (∀ link vc, vc < 4 → linkExists link = true → ∃ u, exec (.coBookSnapshot (4 * link + vc)) s = .next u ∧
      u.f Fld.CO_BOOK_IDX_INDEX 0 = 4 * link + vc ∧ u.f Fld.CO_BOOK_SEND_VALID 0 = 1 ∧
      u.f Fld.CO_BOOK_SEND_CREDITS 0 = (s.bookSum link vc).cred % 2 ^ Fld.CO_BOOK_SEND_CREDITS.width ∧
      u.f Fld.CO_BOOK_FLIGHT_FLITS 0 = (s.bookSum link vc).flight % 2 ^ Fld.CO_BOOK_FLIGHT_FLITS.width ∧
      u.f Fld.CO_BOOK_FREE_FREE 0 = (s.bookSum link vc).free % 2 ^ Fld.CO_BOOK_FREE_FREE.width) ∧
    (∀ value, ∃ u, exec (.epPeek value) s = .next u ∧ u.f Fld.EP_PEEK_ADDR_OFFSET 0 = bits value 27 2)

/-- R7, R28, R161. -/
def Obligations.RegisterAccessesFollowTheirTypes : Prop :=
  ∀ (s : State), s.canon →
    (∀ off value, csrCause off = none → ∀ r i, Reg.atOffset off = some (r, i) → r ≠ .MB_ENG_BELL →
      s.requestWrite r i value = none →
      ∃ u, exec (.registerWrite off value) s = .next u ∧
        u.rd r i = (((s.rd r i &&& ~~~ r.accMask .rw) ||| (BitVec.ofNat 32 value &&& r.accMask .rw)) &&&
          ~~~ (BitVec.ofNat 32 value &&& r.accMask .w1c)) ||| (BitVec.ofNat 32 value &&& r.accMask .w1s) ∧
        (r.accMask .rwe ≠ 0 → u.stagedAt (s.stageKey r i) = some (BitVec.ofNat 32 value &&& r.accMask .rwe)) ∧
        (r.accMask .rwe = 0 → u.staged = s.staged)) ∧
    (∀ off, csrCause off = none → ∀ r i, Reg.atOffset off = some (r, i) → s.shownReg r i = none → r ≠ .EP_PEEK_DATA →
      r ≠ .EP_PEEK_STATUS → ∃ u, exec (.readClear off) s = .next u ∧ u.mail.csrOut = s.rd r i &&& ~~~ r.accMask .wo ∧
        (r.accMask .rc ≠ 0 → u.rd r i = (s.rd r i &&& ~~~ r.accMask .wo) &&& ~~~ r.accMask .rc) ∧
        (r.accMask .rc = 0 → u.rd r i = s.rd r i)) ∧
    (let latches (lo hi : Reg) (v : Nat) : Prop := ∃ u, exec (.lowWordReadLatch (lo.addr 0)) s = .next u ∧
        u.mail.csrOut = BitVec.ofNat 32 v ∧
        (u.shownReg hi 0).map (·.1) = some (BitVec.ofNat 32 (v / 2 ^ 32));
      latches .EP_EPOCH_LO .EP_EPOCH_HI s.epoch ∧ latches .SC_TICK_LO .SC_TICK_HI s.sched.tick ∧
      latches .SC_TOK_ISSUED_LO .SC_TOK_ISSUED_HI s.sched.issued ∧ latches .SC_TOK_MATCHED_LO .SC_TOK_MATCHED_HI s.sched.matched) ∧
    (∃ u, exec .lcChalNew s = .next u ∧ u.f Fld.LC_CHAL_CTRL_VALID 0 = 1 ∧
      ∀ k, k < 8 → u.rd .LC_CHAL k = BitVec.ofNat 32 (leNat (slice (s.trng 1).1 (4 * k) 4))) ∧
    (∃ u, exec .btResPop s = .next u ∧ u.boot.records = s.boot.records.drop 1) ∧
    (∃ u, exec .ecLogPop s = .next u ∧ u.ecLog = s.ecLog.drop 1 ∧ u.regs = s.regs)

/-- R393, R394: the commands of Table 17-6 that reach registers and memory of this node. -/
def Obligations.RawCommandsAndAbort : Prop :=
  ∀ (s : State) (h : CmdHdr), s.canon →
    (∀ off,
      let e : Ebryn := ⟨h, 0x0103, .i, argBytes [(6, 4, off), (10, 1, 1)], false⟩;
      s.accepts e → csrCause off = none → ∀ r i, Reg.atOffset off = some (r, i) →
      let q := (s.entered e).regRead r i
      exec (.csrRead h off 1) s = .next (q.2.respond h.ref 0 (leBytes 4 q.1.toNat))) ∧
    (∀ off v, let e : Ebryn := ⟨h, 0x0104, .i, argBytes [(6, 4, off), (10, 1, 1), (12, 4, v)], h.port != 0 && touchesMb off 1⟩
      s.accepts e → csrCause off = none → ∀ r i, Reg.atOffset off = some (r, i) → r ≠ .MB_ENG_BELL →
      exec (.csrWrite h off [v]) s = .next (((s.entered e).regWrite r i v).respond h.ref 0 [])) ∧
    (∀ addr bytes, inStaging (addr % 2 ^ 48) bytes.length = true → addr / 2 ^ 48 = s.node → addr % 32 = 0 → bytes.length = 32 →
      s.fuses.lc ≠ 4 → s.fuses.ue = false → h.port ≤ 17 →
      s.accepts ⟨h, 0x0106, .b, argBytes [(6, 8, addr), (14, 1, 32)] ++ [0] ++ bytes, false⟩ →
      ∃ u, exec (.memWrite h addr bytes) s = .next u ∧ (∀ i, i < 32 → u.byte (addr % 2 ^ 48 + i) = bytes.getD i 0) ∧
        (∀ a, a < addr % 2 ^ 48 ∨ addr % 2 ^ 48 + 32 ≤ a → u.byte a = s.byte a) ∧
        (h.port = 0 → s.replay.injecting = false →
          mget (fun _ => []) u.mail.rsp 0 = mget (fun _ => []) s.mail.rsp 0 ++ [rspBlock 0 h.tag []])) ∧
    (∀ addr n, 0 < n → n ≤ 56 → decodeAddr (addr % 2 ^ 48) = .scratch → addr / 2 ^ 48 = s.node → addr % 256 + n ≤ 256 →
      (∀ k, k < 64 → s.syn (addr % 2 ^ 48 + k) = 0) → h.port = 0 → s.replay.injecting = false →
      s.accepts ⟨h, 0x0105, .i, argBytes [(6, 8, addr), (14, 1, n)], false⟩ →
      ∃ u, exec (.memRead h addr n) s = .next u ∧ u.mem = s.mem ∧
        mget (fun _ => []) u.mail.rsp 0 =
          mget (fun _ => []) s.mail.rsp 0 ++ [rspBlock 0 h.tag ([0, 0, 0, 0] ++ s.bytesAt (addr % 2 ^ 48) n)]) ∧
    (∀ victim, let e : Ebryn := ⟨h, 0x0102, .b, argBytes [(6, 2, victim)], false⟩;
      let r : CmdRef := (h.port, h.node, h.ep, victim)
      s.accepts e →
      ((s.entered e).inprogOf r = none → exec (.abort h victim) s = .next ((s.entered e).respond h.ref 1 [])) ∧
      (∀ v, (s.entered e).inprogOf r = some v → v.committed = false → v.opcode = 0x0405 → h.port = 0 →
        ∃ u, exec (.abort h victim) s = .next u ∧ u.inprogOf r = none ∧ u.inprogOf h.ref = none ∧
          ∀ n, n < 128 → (u.room n).parks = (s.room n).parks.filter fun c => c.2 != some r)) ∧
    (∀ p, s.inprogOf h.ref = some p → p.opcode = 0x0508 → s.sched.drainCmds = [h.ref] →
      ∃ u, exec (.commandTimeLimit h.port h.node h.ep h.tag) s = .next u ∧ u.sched.drainCmds = [] ∧
        u.f Fld.SC_STATUS_DRAINING 0 = 0)

/-- R383, R384. -/
def Obligations.PortZeroOnTheBus : Prop :=
  ∀ (s : State), s.canon → s.tables → s.busServed = true →
    (∀ da, s.f Fld.MB_STATUS_I3C_DA 0 = 0 → ∃ u, exec (.entdaa da) s = .next u ∧ u.f Fld.MB_STATUS_I3C_DA 0 = da % 128 ∧
      u.mail.i3cOut = s.pid ++ [0x06, 0x00]) ∧
    (∃ u, exec .rstdaa s = .next u ∧ u.f Fld.MB_STATUS_I3C_DA 0 = 0) ∧
    (∀ events, events % 2 = 1 → (∃ u, exec (.enec events) s = .next u ∧ u.mail.ibiEn = true) ∧
      (∃ u, exec (.disec events) s = .next u ∧ u.mail.ibiEn = false)) ∧
    (∃ u, exec .getpid s = .next u ∧ u.mail.i3cOut = s.pid ∧ u.mail.i3cNack = false ∧ u.regs = s.regs) ∧
    (∃ u, exec .getbcr s = .next u ∧ u.mail.i3cOut = [0x06] ∧ u.mail.i3cNack = false) ∧
    (∃ u, exec .getdcr s = .next u ∧ u.mail.i3cOut = [0x00] ∧ u.mail.i3cNack = false) ∧
    (∃ u, exec .getmwl s = .next u ∧ u.mail.i3cOut = [0, 64] ∧ u.mail.i3cNack = false) ∧
    (∃ u, exec .getmrl s = .next u ∧ u.mail.i3cOut = [0, 64] ∧ u.mail.i3cNack = false) ∧
    (∃ u, exec .getstatus s = .next u ∧ u.mail.i3cOut.length = 2 ∧ u.mail.i3cNack = false ∧ u.regs = s.regs) ∧
    (∀ tag found, tag < 2 ^ 16 → ∃ u, exec (.i3cPrivateWrite (cmdBlock 0x0109 tag 0 []) found) s = .next u ∧
      exec (.nop ⟨0, 0, 0, tag, 0⟩) (s.updMail fun m => { m with i3cNack := false, block := cmdBlock 0x0109 tag 0 [] }) = .next u) ∧
    (∀ bytes found, bytes.length ≠ 64 → ∃ u, exec (.i3cPrivateWrite bytes found) s = .next u ∧ u.f Fld.MB_STATUS_I3C_BADLEN 0 = 1 ∧
      u.mail = s.mail) ∧
    (∀ len b rest, mget (fun _ => []) s.mail.rsp 0 = b :: rest →
      ∃ u, exec (.i3cPrivateRead len) s = .next u ∧ mget (fun _ => []) u.mail.rsp 0 = rest ∧ u.mail.i3cOut = b.take len ∧
        u.mail.i3cNack = false)

/-- R385 to R387, R392, R162. -/
def Obligations.BlocksEventsAndAccessesArrive : Prop :=
  ∀ (s : State) (found : List TestFail), s.canon → s.tables → s.replaying = false →
    (∀ p s', s.takeOn (ejectLinks 546) 3 (fun p => p.type == 8 && s.isFor 546 p) = some (p, s') →
      ∀ tag, tag < 2 ^ 16 → p.payload = cmdBlock 0x0109 tag 0 [] → p.len = 63 → p.poison = 0 →
      ∃ u, exec (.mbCmd found) s = .next u ∧
        ∃ t, exec (.nop ⟨17, p.srcNode, p.srcEp, tag, 0⟩)
            (s'.updMail fun m => { m with hdrTag := p.tag + 1024 * p.srcPlane, via := viaLink p, block := p.payload }) = .next t ∧
          u = t.updMail fun m => { m with hdrTag := 0, via := 0 }) ∧
    (∀ engine addr, engine < 256 → addr + 15 ≤ 0x3FCF → addr % 64 ≤ 48 → s.portOn 18 = true →
      (s.mail.inprog.any fun x => x.port == 18 && x.ep == engine) = false →
      ∃ u, exec (.mbEngBell engine addr found) s = .next u ∧ u.mem = s.mem ∧ ∃ q,
        mget (fun _ => []) u.net.send 546 = mget (fun _ => []) s.net.send 546 ++ [q] ∧ q.type = 0 ∧ q.len = 63 ∧
        q.dest = xAddr engine addr + 2 ^ 48 * s.node ∧ u.outReq (outKey 546 0 q.tag) = some { pkt := q } ∧
        ∃ e, e ∈ u.mail.inprog ∧ e.port = 18 ∧ e.ep = engine ∧ e.opcode = opBell ∧
          e.args = (MemOp.args { tag := q.tag, addr := xAddr engine addr + 2 ^ 48 * s.node, len := 64, bytes := [] })) ∧
    (∀ p s', s.take 546 1 = some (p, s') → ∀ q, s'.outReq (outKey 546 p.dstPlane p.tag) = some q → q.expired = false →
      q.pkt.type = 0 → q.pkt.srcPlane = 0 → ∀ e, s.mpUser q.pkt.tag = some e → e.opcode = opBell → e.port = 18 → e.node = s.node →
      ∀ a, a % 256 ≤ 192 → e.args = MemOp.args { tag := q.pkt.tag, addr := a, len := 64, bytes := [] } →
      ∀ tag, tag < 2 ^ 16 → p.status = 0 → p.poison = 0 → p.payload = cmdBlock 0x0109 tag 0 [] →
      ∃ t, exec (.nop ⟨18, s.node, e.ep, tag, 0⟩) ((s'.setOut (outKey 546 p.dstPlane p.tag) none).updMail fun m =>
            { m with inprog := dropInprog m.inprog (18, s.node, e.ep, e.tag), bells := mput (fun _ => []) m.bells e.ep [],
                     block := p.payload }) = .next t ∧
        exec (.responseArrival 546) s = .next (t.pumpPosts 546)) ∧
    (∀ port header data, port < 16 → s.sideRuns = true → data.length = 8 →
      (1 ≤ bits header 15 12 → bits header 15 12 ≤ 3 → bits header 11 9 = 0 →
        ∃ u, exec (.sidebandMessage port header data found) s = .next u ∧ mget (fun _ => []) u.mail.part port = data) ∧
      (∀ tag, tag < 2 ^ 16 → bits header 15 12 = 1 → bits header 11 9 = 7 →
        mget (fun _ => 0) s.mail.partKind port = 256 + bits header 7 0 → (mget (fun _ => []) s.mail.part port).length = 56 →
        mget (fun _ => []) s.mail.part port ++ data = cmdBlock 0x0109 tag 0 [] →
        ∃ u, exec (.sidebandMessage port header data found) s = .next u ∧
          exec (.nop ⟨port + 1, 0, 0, tag, 0⟩) (s.updMail fun m =>
            { m with part := mput (fun _ => []) m.part port [], block := cmdBlock 0x0109 tag 0 [] }) = .next u) ∧
      (∃ u, exec (.sidebandBlockTimeout port) s = .next u ∧ mget (fun _ => []) u.mail.part port = [])) ∧
    (∀ port, 1 ≤ port → port ≤ 16 → s.sideRuns = true →
      0 < (mget (fun _ => []) s.mail.evq port).length → (mget (fun _ => []) s.mail.evq port).length ≤ 3 →
      ∃ u, exec .eventBlockSend s = .next u ∧ mget (fun _ => []) u.mail.evq port = [] ∧
        (port, 3, fit 0 64 (evPayload (mget (fun _ => []) s.mail.evq port))) ∈ u.mail.sent) ∧
    (∀ p s', s.takeOn (ejectLinks 546) 0 (s.isFor 546) = some (p, s') → addrForm p.type = true → p.len = 3 →
      ∀ off, decodeAddr p.addr = .csr off → off ≤ 0x14 → off % 4 = 0 →
      (p.type = 0 → ∀ r i, Reg.atOffset off = some (r, i) → ∃ u, exec (.csrAccess found) s = .next u ∧
        mget (fun _ => []) u.net.send 546 = mget (fun _ => []) s.net.send 546 ++
          [answer s p 3 546 0 (leBytes 4 (s'.regRead r i).1.toNat) 0 false]) ∧
      (p.type = 1 → ∃ u, exec (.csrAccess found) s = .next u ∧
        u.f Fld.CO_BERR_COUNT_COUNT 0 = min (s.f Fld.CO_BERR_COUNT_COUNT 0 + 1) Fld.CO_BERR_COUNT_COUNT.top ∧
        mget (fun _ => []) u.net.send 546 = mget (fun _ => []) s.net.send 546 ++ [answer s p 4 546 2 [] 0 false]))

/-- R178 to R181. `i` is the head of the free list, or the descriptor that the key's entry names. -/
def Obligations.TokensReachTheirInstances : Prop :=
  ∀ (s : State) (q : Nat), s.canon → s.tables → q < 4 → s.schedHeld = false →
    (∀ p s', s.takeOn [attachLink q] 2 (fun p => p.type == 5 && s.isFor 544 p) = some (p, s') → s.tokPkt q = none →
      s.gateShut 4 0 = false → tokCount p ≠ 0 → ∃ u, exec (.token q) s = .next u ∧ u.tokPkt q = some (p, 0, 0) ∧
        u.sched.flight = s.sched.flight) ∧
    (∀ p k mask, s.tokPkt q = some (p, k, mask) → s.schedOn = true → s.f Fld.SC_STATUS_DRAINING 0 = 0 →
      let r := recOf p k
      let t := r.tag / 2 ^ 52 % 4096
      let key := r.tag / 8 % 2 ^ 61
      (s.tplValid t = false → ∃ u, exec (.tokenRecord q) s = .next u ∧ u.f Fld.SC_STATUS_REFUSED 0 = 1 ∧
        u.f Fld.SC_STATUS_CAUSE 0 = 1 ∧ u.sched.matched = (s.sched.matched + 1) % 2 ^ 64 ∧ u.sched.flight = s.sched.flight - 1 ∧
        u.f Fld.SC_REFUSE_COUNT_COUNT 0 = min (s.f Fld.SC_REFUSE_COUNT_COUNT 0 + 1) Fld.SC_REFUSE_COUNT_COUNT.top ∧
        (tokCount p ≤ k + 1 → u.tokPkt q = none) ∧ (k + 1 < tokCount p → u.tokPkt q = some (p, k + 1, mask))) ∧
      (s.recWaits r = true → exec (.tokenRecord q) s = .next (s.fetchSet key) ∧ (s.fetchSet key).tokPkt q = s.tokPkt q) ∧
      (s.tplValid t = true → r.tag % 8 < s.tplNops t → 1 < s.tplNops t → s.inCache key = true →
        s.odBad (.matchSet (s.matchSet key)) = false →
        (∀ i, s.freeHead = some i → s.matchOf key = none → s.setFull key = false → s.descBad i = false →
          ∃ u, exec (.tokenRecord q) s = .next u ∧ u.matchOf key = some i ∧
            u.desc i = ({ state := 1, tmpl := t, flow := s.flowOf t (key % 2 ^ 49), key := key } : Desc).fill (r.tag % 8) r ∧
            u.sched.held = s.sched.held + 1 ∧ u.sched.flight = s.sched.flight - 1 ∧ u.sched.matched = s.sched.matched) ∧
        (∀ i, s.matchOf key = some i → s.descBad i = false → bit (s.desc i).amask (r.tag % 8) = 0 →
          Nat.lor (s.desc i).amask (2 ^ (r.tag % 8)) % 2 ^ s.tplNops t = 2 ^ s.tplNops t - 1 → s.tplDelay t = 0 →
          s.tplDelay (s.desc i).tmpl = 0 → (s.flow (s.desc i).flow).grouped = false →
          s.completeBad (s.desc i).tmpl (s.desc i).flow = false →
          ∃ u, exec (.tokenRecord q) s = .next u ∧ u.matchOf key = none ∧ (u.desc i).state = 2 ∧
            (u.flow (s.desc i).flow).queue = (s.flow (s.desc i).flow).queue ++ [i] ∧
            u.sched.held = s.sched.held - popc 8 (s.desc i).amask ∧ u.sched.flight = s.sched.flight - 1 ∧
            u.sched.matched = (s.sched.matched + popc 8 (s.desc i).amask + 1) % 2 ^ 64)))

/-- R182 to R189. -/
def Obligations.TasksAreDispatchedAndEnd : Prop :=
  ∀ (s : State), s.canon → s.tables →
    (∀ p, p < 4 → ∀ f, s.pipeHead p = some f → s.sched.loadsDone = [] → s.schedOn = true → s.schedHeld = false → s.rpState ≠ 4 → s.f Fld.SC_RATE_THERM_CAP 0 = 0 →
      (∀ q, q < p → (s.pipe q).took = none) →
      ∀ i rest, (s.flow f).queue = i :: rest → s.badWord (s.flowAddr f) = false → s.descBad i = false →
      s.tplEngine (s.desc i).tmpl = true →
      ∀ w, s.pickEngine (s.flow f) (s.desc i).tmpl (s.pipe p).rrE = some w → 512 ≤ w →
      ∃ u, exec (.dispatchPipe p) s = .next u ∧ (u.desc i).state = 4 ∧ (u.desc i).worker = w ∧ (u.flow f).busy = true ∧
        (u.flow f).last = w ∧ (u.flow f).queue = rest ∧
        u.f Fld.SC_DISPATCH_COUNT_COUNT 0 = (s.f Fld.SC_DISPATCH_COUNT_COUNT 0 + 1) % 2 ^ Fld.SC_DISPATCH_COUNT_COUNT.width ∧
        ∃ k, (mget (fun _ => []) u.net.send 544).filter (·.type == 6) = (mget (fun _ => []) s.net.send 544).filter (·.type == 6) ++ [k] ∧
          k.type = 6 ∧ k.dest = epDest s.node (256 + (w - 512)) ∧ dispatchIndex k = i % 2 ^ 21) ∧
    (∀ p s', s.take 544 1 = some (p, s') → ∀ r, s.outReq (outKey 544 p.dstPlane p.tag) = some r → r.expired = false → r.pkt.type = 6 →
      let i := dispatchIndex r.pkt
      (s.desc i).state = 4 → 512 ≤ (s.desc i).worker → r.pkt.dstEp = (s.desc i).worker - 256 → s.descBad i = false →
      s.flowBad (s.desc i).flow = false →
      (p.status = 1 → ∃ u, exec .dispatchResponse s = .next u ∧
        ((mget (fun _ => []) u.net.send 544).filter (·.type == 6)).length =
          ((mget (fun _ => []) s.net.send 544).filter (·.type == 6)).length + 1 ∧ u.sched = s.sched) ∧
      (p.status = 2 → ∃ u, exec .dispatchResponse s = .next u ∧ (u.desc i).state = 2 ∧ (u.flow (s.desc i).flow).busy = false ∧
        (u.flow (s.desc i).flow).queue = i :: (s.flow (s.desc i).flow).queue)) ∧
    (∀ n p rest, n < 128 → p < 4 → ((s.wants n).filter fun q => s.active n != some q && s.taskOn (4 * n + q)) = p :: rest →
      (s.room n).cyc = none → (s.room n).sw = none → s.f Fld.RM_PLANE_PEND_VALID n = 0 → s.roomState n = 0 → s.planeState n p = 2 →
      s.storePoisoned n p = false → (s.room n).ld = none → ∃ u, exec (.switchRepeat n) s = .next u ∧ (u.room n).sw = some (p, .sched) ∧ u.wants n = p :: rest) ∧
    (∀ p s', s.takeOn (ejectLinks 544) 2 (fun p => p.type == 7 && s.isFor 544 p) = some (p, s') → s.schedHeld = false →
      s.safe = false →
      let w0 := leNat (p.payload.take 4)
      let i := w0 % 2 ^ 21
      (∀ w, s.senderOf p = some w → (s.desc i).state = 4 → (s.desc i).worker = w → 512 ≤ w → s.descBad i = false →
        s.badWord (s.flowAddr (s.desc i).flow) = false → (s.flow (s.desc i).flow).grouped = false → s.f Fld.SC_STATUS_DRAINING 0 = 0 →
        (bits w0 26 24 = 0 → ∃ u, exec .done s = .next u ∧ u.desc i = {} ∧ (u.flow (s.desc i).flow).busy = false ∧
          u.freeHead = some i) ∧
        (0 < bits w0 26 24 → ∃ u, exec .done s = .next u ∧ (u.desc i).state = 5 ∧ (u.desc i).complete = true ∧
          (u.desc i).recs = (List.range (min 4 (bits w0 26 24))).map (recOf p) ∧ (u.flow (s.desc i).flow).busy = false ∧
          u.sched.posting = s.sched.posting ++ [i] ∧ u.sched.issued = (s.sched.issued + min 4 (bits w0 26 24)) % 2 ^ 64)) ∧
      ((s.desc i).state ≠ 4 → ∃ u, exec .done s = .next u ∧ u.f Fld.SC_STATUS_BAD_DONE 0 = 1 ∧
        u.f Fld.SC_BAD_DONE_COUNT_COUNT 0 = min (s.f Fld.SC_BAD_DONE_COUNT_COUNT 0 + 1) Fld.SC_BAD_DONE_COUNT_COUNT.top ∧
        u.sched = s.sched)) ∧
    (∀ n p, s.active n = some p → ∀ i, s.inService (4 * n + p) = some i → s.roomState n = 0 →
      ∃ u, exec (.planectlDone n) s = .next u ∧ ∃ k, mget (fun _ => []) u.net.send n = mget (fun _ => []) s.net.send n ++ [k] ∧
        k.type = 7 ∧ k.srcPlane = p ∧ k.dest = epDest s.node 544 ∧ k.payload = leBytes 4 i ++ List.replicate 12 0) ∧
    (∀ i rest, s.sched.posting = i :: rest → ∀ r, (s.desc i).recs = [r] → s.descBad i = false → s.schedHeld = false → (s.handleRec r).1 = false →
      ∃ u, exec .resultRecordPost s = .next u ∧ u.sched.posting = rest ∧ u.desc i = {})

/-- R185, R192 to R197. -/
def Obligations.DelaysAndSchedulerCommands : Prop :=
  ∀ (s : State) (h : CmdHdr), s.canon → s.tables →
    (∃ u, exec .tick s = .next u ∧ u.sched.tick = (s.sched.tick + 1) % 2 ^ 64 ∧ u.regs = s.regs) ∧
    (∀ l, ∀ e i rest, (s.delay l).items = (e, i) :: rest → e ≤ s.sched.tick → s.safe = false → s.schedHeld = false →
      (s.flow (s.desc i).flow).grouped = false → s.descBad i = false → s.readyBad (s.desc i).flow = false → ∃ u, exec (.delayExpiry l) s = .next u ∧ (u.delay l).items = rest ∧
        (u.desc i).state = 2 ∧ (u.flow (s.desc i).flow).queue = (s.flow (s.desc i).flow).queue ++ [i]) ∧
    (∀ l, ∀ e i k, (s.delay l).walk = some (e, i, k) → ∀ x j, (s.delay l).items[k]? = some (x, j) → (s.delay l).met.any s.descBad = false →
      (x ≤ e → ∃ u, exec (.delayListWalk l) s = .next u ∧ (u.delay l).walk = some (e, i, k + 1) ∧ (u.delay l).items = (s.delay l).items) ∧
      (e < x → ∃ u, exec (.delayListWalk l) s = .next u ∧ (u.delay l).walk = none ∧
        (u.delay l).items = (s.delay l).items.take k ++ [(e, i)] ++ (s.delay l).items.drop k)) ∧
    (∃ u, exec .useCountDecay s = .next u ∧ ∀ w, u.useCount w = s.useCount w / 2) ∧
    (∀ index d0 d1 d2 d3, s.accepts ⟨h, 0x0503, .r, argBytes [(6, 2, index), (8, 4, d0), (12, 4, d1), (16, 4, d2), (20, 4, d3)], false⟩ →
      index < 4096 → ∃ u, exec (.templateSet h index d0 d1 d2 d3) s = .next u ∧
        u.stagedAt (tplKey index 0) = some (rweWord .SC_TPL_DATA_0 d0) ∧ u.stagedAt (tplKey index 1) = some (rweWord .SC_TPL_DATA_1 d1) ∧
        u.stagedAt (tplKey index 2) = some (rweWord .SC_TPL_DATA_2 d2) ∧ u.stagedAt (tplKey index 3) = some (rweWord .SC_TPL_DATA_3 d3)) ∧
    (∀ image imageId slot data, s.accepts ⟨h, 0x0504, .r, argBytes [(6, 2, image), (8, 8, imageId), (16, 1, 1), (20, 2, slot), (24, 4, data)], false⟩ →
      image < 1024 → slot < 4096 → ∃ u, exec (.imageSet h image imageId [(slot, data)]) s = .next u ∧
        u.stagedAt (imgKey image 0) = some (BitVec.ofNat 32 imageId) ∧ u.stagedAt (imgKey image 1) = some (BitVec.ofNat 32 (imageId / 2 ^ 32)) ∧
        u.stagedAt (locKey slot 0) = some 0x80000000 ∧ u.stagedAt (locKey slot 1) = some (rweWord .SC_LOC_DATA data)) ∧
    (∀ flow prio grouped group, s.accepts ⟨h, 0x0505, .r, argBytes [(6, 4, flow), (10, 1, prio), (11, 1, grouped), (12, 2, group)], false⟩ →
      flow < 2 ^ s.f Fld.SC_SIZE_FLOW_LOG2 0 → prio < 4 → grouped < 2 → (s.flow flow).busy = false → (s.flow flow).queue = [] →
      s.flowBad flow = false → h.port ≤ 17 → ∃ u, exec (.flowSet h flow prio grouped group) s = .next u ∧ (u.flow flow).prio = prio ∧
        (u.flow flow).grouped = (grouped == 1) ∧ (u.flow flow).group = group ∧ (u.flow flow).queue = [] ∧ (u.flow flow).busy = false) ∧
    (∀ group window, s.accepts ⟨h, 0x0506, .r, argBytes [(6, 2, group), (8, 4, window)], false⟩ → 0 < window → window ≤ 65536 →
      (s.grp group).out = 0 → (s.grp group).overflow = [] → ∃ u, exec (.groupSet h group window) s = .next u ∧
        (u.grp group).window = window ∧ (u.grp group).out = 0) ∧
    (∀ i, s.accepts ⟨h, 0x0507, .r, argBytes [(6, 4, i)], false⟩ → i < s.meadowP → (s.desc i).state = 1 → s.cancelBad i = false →
      ∃ u, exec (.taskCancel h i) s = .next u ∧ u.desc i = {} ∧ u.matchOf (s.desc i).key = none ∧
        u.sched.held = s.sched.held - popc 8 (s.desc i).amask ∧
        u.sched.matched = (s.sched.matched + popc 8 (s.desc i).amask) % 2 ^ 64) ∧
    (∀ ms, s.accepts ⟨h, 0x0508, .r, argBytes [(6, 4, ms)], false⟩ → s.countState 2 ≠ 0 → ∃ u, exec (.schedDrain h ms) s = .next u ∧
      u.f Fld.SC_STATUS_DRAINING 0 = 1 ∧ u.sched.drainCmds = s.sched.drainCmds ++ [h.ref]) ∧
    (∀ r repost, s.accepts ⟨h, 0x0502, .r, argBytes [(6, 1, 1), (8, 8, r.tag), (16, 4, r.value), (56, 1, poisonBits [r]), (57, 1, repost)], false⟩ →
      ∃ u, exec (.taskPost h [r] repost) s = .next u ∧ ∃ k, mget (fun _ => []) u.net.send 546 = mget (fun _ => []) s.net.send 546 ++ [k] ∧
        k.type = 5 ∧ k.dest = epDest s.node 544 ∧ k.payload = tokPayload [r] (repost % 16) ∧ k.poison = poisonBits [r] ∧
        u.outReq (outKey 546 0 k.tag) = some { pkt := k })

/-- R229 and R235. A pointer named must be usable in its mode (R209); DIR 0 of MOVP and WRR need an unpoisoned source. -/
def Obligations.EngineMovesTakeEffect : Prop :=
  ∀ (s : State) (e f : Nat), s.canon → s.tables →
    let g := s.eng e
    let d := bits f 25 23
    let q := bits f 22 20
    let rdw (p : Nat) := s.engRead (memAddr e p (g.pv p))
    let step (p : Nat) : Nat := updPtr (g.lv p) (g.pv p) (sgn 15 (g.mv p)) % 2 ^ 14
    let next (u : State) : Prop := s.engNext u e (s.f Fld.DE_PC_PC e + 1) 1
    (s.fetched e 0x00 f → ∃ u, exec (.nopInstruction e f) s = .next u ∧ next u ∧ s.engKeeps u e [] [] [] [] [] ∧ s.engQuiet u e) ∧
    (s.fetched e 0x01 f → g.ptrOk q = true → ∃ u, exec (.ld e f) s = .next u ∧ next u ∧ s.engKeeps u e [d] [] [q] [] [] ∧ s.engQuiet u e ∧
      (u.eng e).dv d = ((rdw q).1, (rdw q).2.1) ∧ (u.eng e).pv q = step q) ∧
    (s.fetched e 0x02 f → g.ptrOk q = true → ∃ u, exec (.st e f) s = .next u ∧ next u ∧ s.engKeeps u e [] [] [q] [] [] ∧
      s.engStored u (memAddr e q (g.pv q)) (g.dv d).1 (g.dv d).2 ∧ u.rd .DE_FLAGS e = s.rd .DE_FLAGS e ∧ (u.eng e).pv q = step q) ∧
    (s.fetched e 0x03 f → g.ptrOk d = true → g.ptrOk q = true → ∃ u, exec (.mov e f) s = .next u ∧ next u ∧
      s.engKeeps u e [] [] [d, q] [] [] ∧ s.engStored u (memAddr e d (g.pv d)) (rdw q).1 (rdw q).2.1 ∧
      u.rd .DE_FLAGS e = s.rd .DE_FLAGS e ∧ (u.eng e).pv d = step d ∧ (u.eng e).pv q = step q) ∧
    (s.fetched e 0x04 f → ∃ u, exec (.movr e f) s = .next u ∧ next u ∧ s.engKeeps u e [d] [] [] [] [] ∧ s.engQuiet u e ∧
      (u.eng e).dv d = g.dv q) ∧
    (s.fetched e 0x05 f → ∃ u, exec (.ldi e f) s = .next u ∧ next u ∧ s.engKeeps u e [d] [] [] [] [] ∧ s.engQuiet u e ∧
      (bit f 22 = 0 → (u.eng e).dv d = (low 32 (sgn 16 (bits f 15 0)), false)) ∧
      (bit f 22 = 1 → (u.eng e).dv d = ((g.dv d).1 % 65536 + 65536 * bits f 15 0, (g.dv d).2))) ∧
    (s.fetched e 0x06 f → let p := bits f 23 21; let k := bits f 25 24; let imm := bits f 15 0
      ∃ u, exec (.setp e f) s = .next u ∧ next u ∧ s.engQuiet u e ∧
      (k = 0 → s.engKeeps u e [] [] [p] [] [] ∧ (u.eng e).pv p = imm % 2 ^ 14) ∧
      (k = 1 → s.engKeeps u e [] [] [] [p] [] ∧ (u.eng e).mv p = imm % 2 ^ 15) ∧
      (k = 2 → s.engKeeps u e [] [] [] [] [p] ∧ (u.eng e).lv p = imm)) ∧
    (s.fetched e 0x07 f → let k := bits f 24 23; let n := bits f 19 17
      (bit f 25 = 0 → (g.dv n).2 = false → ∃ u, exec (.movp e f) s = .next u ∧ next u ∧ s.engQuiet u e ∧
        (k = 0 → s.engKeeps u e [] [] [q] [] [] ∧ (u.eng e).pv q = (g.dv n).1 % 2 ^ 14) ∧
        (k = 1 → s.engKeeps u e [] [] [] [q] [] ∧ (u.eng e).mv q = (g.dv n).1 % 2 ^ 15) ∧
        (k = 2 → s.engKeeps u e [] [] [] [] [q] ∧ (u.eng e).lv q = (g.dv n).1 % 2 ^ 16)) ∧
      (bit f 25 = 1 → ∃ u, exec (.movp e f) s = .next u ∧ next u ∧ s.engQuiet u e ∧ s.engKeeps u e [n] [] [] [] [] ∧
        (k = 0 → (u.eng e).dv n = (g.pv q % 2 ^ 32, false)) ∧
        (k = 1 → (u.eng e).dv n = (low 32 (sgn 15 (g.mv q)), false)) ∧
        (k = 2 → (u.eng e).dv n = (g.lv q % 2 ^ 32, false)))) ∧
    (s.fetched e 0x08 f → ∃ u, exec (.rdr e f) s = .next u ∧ next u ∧ s.engKeeps u e [d] [] [] [] [] ∧ s.engQuiet u e ∧
      (∀ r, deRegAt (4 * bits f 7 2) = some r → (u.eng e).dv d = ((s.deRead e r).1.toNat, false)) ∧
      (deRegAt (4 * bits f 7 2) = none → (u.eng e).dv d = (0, false))) ∧
    (s.fetched e 0x09 f → (g.dv q).2 = false → let v := (g.dv q).1
      ∃ u, exec (.wrr e f) s = .next u ∧ next u ∧ s.engKeeps u e [] [] [] [] [] ∧ u.mem = s.mem ∧ u.synd = s.synd ∧
      (deRegAt (4 * bits f 7 2) = some .DE_MODE → u.f Fld.DE_MODE_SAT e = v % 2 ∧ u.rd .DE_FLAGS e = s.rd .DE_FLAGS e) ∧
      (deRegAt (4 * bits f 7 2) = some .DE_FLAGS → u.rd .DE_MODE e = s.rd .DE_MODE e ∧
        s.f Fld.DE_FLAGS_N e = u.f Fld.DE_FLAGS_N e ∧ s.f Fld.DE_FLAGS_Z e = u.f Fld.DE_FLAGS_Z e ∧
        s.f Fld.DE_FLAGS_V e = u.f Fld.DE_FLAGS_V e ∧
        u.f Fld.DE_FLAGS_STICKY e = if bit v 3 = 1 then 0 else s.f Fld.DE_FLAGS_STICKY e) ∧
      (deRegAt (4 * bits f 7 2) ≠ some .DE_MODE → deRegAt (4 * bits f 7 2) ≠ some .DE_FLAGS →
        u.rd .DE_MODE e = s.rd .DE_MODE e ∧ u.rd .DE_FLAGS e = s.rd .DE_FLAGS e)) ∧
    (s.fetched e 0x0A f → let a := bits f 22 21; let n := bits f 20 18; let v := (g.dv n).1; let x := low 48 (g.av a).1
      ∃ u, exec (.acc e f) s = .next u ∧ next u ∧ s.engQuiet u e ∧
      (d = 0 → s.engKeeps u e [] [a] [] [] [] ∧ (u.eng e).av a = (0, false)) ∧
      (d = 1 → s.engKeeps u e [] [a] [] [] [] ∧ (u.eng e).av a = (sgn 32 v, (g.dv n).2)) ∧
      (d = 2 → s.engKeeps u e [] [a] [] [] [] ∧
        (u.eng e).av a = (sgn 48 (x % 2 ^ 32 + 2 ^ 32 * (v % 65536)), (g.dv n).2 || (g.av a).2)) ∧
      (d = 3 → s.engKeeps u e [n] [] [] [] [] ∧ (u.eng e).dv n = (x % 2 ^ 32, (g.av a).2)) ∧
      (d = 4 → s.engKeeps u e [n] [] [] [] [] ∧ (u.eng e).dv n = (low 32 (sgn 16 (x / 2 ^ 32)), (g.av a).2)))

/-- R230 to R234 and R241. `aluWord`, `fitRange`, `cprod`, `dprod`, `roundShift` and `updPtr` are the arithmetic that
Obligations.EngineArithmeticRules states. -/
def Obligations.EngineArithmeticTakesEffect : Prop :=
  ∀ (s : State) (e f : Nat), s.canon → s.tables →
    let g := s.eng e
    let sat := s.satOn e
    let d := bits f 25 23
    let ds := bits f 22 20
    let memw (p : Nat) := s.engRead (memAddr e p (g.pv p))
    let step (p : Nat) : Nat := updPtr (g.lv p) (g.pv p) (sgn 15 (g.mv p)) % 2 ^ 14
    let next (u : State) (c : Nat) : Prop := s.engNext u e (s.f Fld.DE_PC_PC e + 1) c
    let pair := bit f 25
    let opc := bits f 24 23
    let a0 := 2 * pair
    let a1 := 2 * pair + 1
    let r0 (p : Int × Int) := fitRange 48 sat (opcApply opc (g.av a0).1 p.1)
    let r1 (p : Int × Int) := fitRange 48 sat (opcApply opc (g.av a1).1 p.2)
    let macs (u : State) (p : Int × Int) : Prop := (u.eng e).av a0 = ((r0 p).1, false) ∧ (u.eng e).av a1 = ((r1 p).1, false) ∧
      s.engFlags u e (decide ((r0 p).1 < 0)) (decide ((r0 p).1 = 0)) ((r0 p).2 || (r1 p).2)
    let sums : Prop := opc ≤ 1 → (g.av a0).2 = false ∧ (g.av a1).2 = false
    let fm := bit f 19 = 1
    let sm := bit f 15 = 1
    let px := bits f 18 16 % 4
    let py := 4 + bits f 14 12 % 4
    let x := if fm then (memw px).1 else (g.dv (bits f 18 16)).1
    let y := if sm then (memw py).1 else (g.dv (bits f 14 12)).1
    let operands : Prop := (fm → g.ptrOk px = true ∧ (memw px).2.1 = false) ∧ (¬fm → (g.dv (bits f 18 16)).2 = false) ∧
      (sm → g.ptrOk py = true ∧ (memw py).2.1 = false) ∧ (¬sm → (g.dv (bits f 14 12)).2 = false)
    let moved (u : State) : Prop := s.engKeeps u e [] [a0, a1] [px, py] [] [] ∧ u.mem = s.mem ∧ u.synd = s.synd ∧
      (u.eng e).pv px = (if fm then step px else g.pv px) ∧ (u.eng e).pv py = if sm then step py else g.pv py
    (s.fetched e 0x10 f → (g.dv ds).2 = false →
      let op := bits f 16 13
      let dt := bits f 19 17
      (op ≠ 0xA → op ≠ 0xB → (g.dv dt).2 = false) →
      ∃ u, exec (.alu e f) s = .next u ∧ next u 1 ∧ u.mem = s.mem ∧ u.synd = s.synd ∧
      (op = 9 → s.engKeeps u e [] [] [] [] [] ∧
        s.engFlags u e (decide (sgn 32 (g.dv ds).1 < sgn 32 (g.dv dt).1)) (decide (sgn 32 (g.dv ds).1 = sgn 32 (g.dv dt).1)) false) ∧
      (op ≠ 9 → let r := aluWord op (g.dv ds).1 (g.dv dt).1 (bit f 12 = 1 && !(2 ≤ op && op ≤ 5)) sat
        s.engKeeps u e [d] [] [] [] [] ∧ (u.eng e).dv d = (r.1 % 2 ^ 32, false) ∧ s.engFlags u e (bit r.1 31 == 1) (r.1 == 0) r.2)) ∧
    (s.fetched e 0x11 f → (g.dv ds).2 = false →
      let op := bits f 19 16
      let imm := if op = 0 then low 32 (sgn 16 (bits f 15 0)) else bits f 15 0 % 64
      let r := aluWord op (g.dv ds).1 imm false sat
      ∃ u, exec (.alui e f) s = .next u ∧ next u 1 ∧ u.mem = s.mem ∧ u.synd = s.synd ∧ s.engKeeps u e [d] [] [] [] [] ∧
      (u.eng e).dv d = (r.1 % 2 ^ 32, false) ∧ s.engFlags u e (bit r.1 31 == 1) (r.1 == 0) r.2) ∧
    (s.fetched e 0x20 f → sums → operands → ∃ u, exec (.cmac e f) s = .next u ∧ next u 1 ∧ moved u ∧
      macs u (cprod x y (bit f 22 == 1) (bit f 21 == 1) (bit f 20 == 1))) ∧
    (s.fetched e 0x21 f → sums → operands → ∃ u, exec (.dmac e f) s = .next u ∧ next u 1 ∧ moved u ∧
      macs u (dprod x y (bit f 21 == 1) (bit f 20 == 1))) ∧
    (s.fetched e 0x22 f → sums →
      let xi := bits f 20 19
      let yi := 4 + bits f 18 17
      g.ptrOk xi = true → g.ptrOk yi = true → (memw xi).2.1 = false → (memw yi).2.1 = false →
      (s.decoded (xAddr e (updPtr (g.lv xi) (g.pv xi) 1))).2 = false →
      ∃ u, exec (.tapm e f) s = .next u ∧ next u 1 ∧ s.engKeeps u e [] [a0, a1] [xi, yi] [] [] ∧
      (u.eng e).pv xi = step xi ∧ (u.eng e).pv yi = step yi ∧
      s.engStored u (xAddr e (updPtr (g.lv xi) (g.pv xi) 1)) (memw xi).1 false ∧
      macs u (if bit f 21 = 0 then cprod (memw xi).1 (memw yi).1 (bit f 22 == 1) false false
        else dprod (memw xi).1 (memw yi).1 false false)) ∧
    (s.fetched e 0x23 f → g.ptrOk 0 = true → g.ptrOk 1 = true → g.ptrOk 4 = true → (memw 0).2.1 = false →
      (memw 1).2.1 = false → (memw 4).2.1 = false →
      let sh := bits f 25 20
      let t := cprod (memw 1).1 (memw 4).1 false false false
      let re := 32768 * halfOf (memw 0).1 0 false
      let im := 32768 * halfOf (memw 0).1 1 false
      let q0 := fitRange 48 sat (re - t.1)
      let q1 := fitRange 48 sat (im - t.2)
      let q2 := fitRange 48 sat (re + t.1)
      let q3 := fitRange 48 sat (im + t.2)
      let n (q : Int × Bool) := fitRange 16 sat (roundShift q.1 sh)
      ∃ u, exec (.bfly e f) s = .next u ∧ next u 2 ∧ s.engKeeps u e [] [0, 1, 2, 3] [0, 1, 4] [] [] ∧
      (u.eng e).av 0 = (q0.1, false) ∧ (u.eng e).av 1 = (q1.1, false) ∧ (u.eng e).av 2 = (q2.1, false) ∧
      (u.eng e).av 3 = (q3.1, false) ∧ (u.eng e).pv 0 = step 0 ∧ (u.eng e).pv 1 = step 1 ∧ (u.eng e).pv 4 = step 4 ∧
      (u.engRead (xAddr e (g.pv 1))).1 = low 16 (n q0).1 + 65536 * low 16 (n q1).1 ∧
      (g.pv 0 % 16384 ≠ g.pv 1 % 16384 → (u.engRead (xAddr e (g.pv 0))).1 = low 16 (n q2).1 + 65536 * low 16 (n q3).1) ∧
      (∀ a, a / 32 ≠ xAddr e (g.pv 0) / 32 → a / 32 ≠ xAddr e (g.pv 1) / 32 → u.byte a = s.byte a) ∧
      s.engFlags u e (decide (q0.1 < 0)) (decide (q0.1 = 0))
        (q0.2 || q1.2 || q2.2 || q3.2 || (n q0).2 || (n q1).2 || (n q2).2 || (n q3).2)) ∧
    (s.fetched e 0x28 f →
      let p := bits f 21 19
      let sh := bits f 18 13
      let narrow := bit f 23 = 0
      let an := if narrow then bits f 25 24 else a0
      let n0 := fitRange (if narrow then 32 else 16) sat (roundShift (g.av an).1 sh)
      let n1 := fitRange 16 sat (roundShift (g.av (an + 1)).1 sh)
      let word := if narrow then low 32 n0.1 else low 16 n0.1 + 65536 * low 16 n1.1
      let bad := (g.av an).2 || (!decide narrow && (g.av (an + 1)).2)
      (bit f 22 = 0 → g.ptrOk p = true → ∃ u, exec (.sta e f) s = .next u ∧ next u 1 ∧ s.engKeeps u e [] [] [p] [] [] ∧
        s.engStored u (memAddr e p (g.pv p)) word bad ∧ (u.eng e).pv p = step p ∧
        s.engFlags u e (decide (n0.1 < 0)) (decide (n0.1 = 0)) (n0.2 || (!decide narrow && n1.2))) ∧
      (bit f 22 = 1 → ∃ u, exec (.sta e f) s = .next u ∧ next u 1 ∧ s.engKeeps u e [p] [] [] [] [] ∧ u.mem = s.mem ∧
        u.synd = s.synd ∧ (u.eng e).dv p = (word, bad) ∧
        s.engFlags u e (decide (n0.1 < 0)) (decide (n0.1 = 0)) (n0.2 || (!decide narrow && n1.2))))

/-- R236, R237, R239, R240 and R242, with R210 for the repeat. -/
def Obligations.EngineControlTakesEffect : Prop :=
  ∀ (s : State) (e f : Nat), s.canon → s.tables →
    let g := s.eng e
    let pc := s.f Fld.DE_PC_PC e
    let target := bits f 12 0
    (s.fetched e 0x31 f → ∃ u, exec (.br e f) s = .next u ∧ s.engKeeps u e [] [] [] [] [] ∧ s.engQuiet u e ∧
      (s.cond e (bits f 25 22) = true → s.engNext u e target 2) ∧ (s.cond e (bits f 25 22) = false → s.engNext u e (pc + 1) 1)) ∧
    (s.fetched e 0x32 f → let n := bits f 25 23; (g.dv n).2 = false →
      ∃ u, exec (.dbnz e f) s = .next u ∧ s.engKeeps u e [n] [] [] [] [] ∧ s.engQuiet u e ∧
      (u.eng e).dv n = (((g.dv n).1 + (2 ^ 32 - 1)) % 2 ^ 32, false) ∧
      ((g.dv n).1 = 1 → s.engNext u e (pc + 1) 1) ∧ ((g.dv n).1 ≠ 1 → s.engNext u e target 2)) ∧
    (s.fetched e 0x33 f → (g.stack.length < 4 → ∃ u, exec (.call e f) s = .next u ∧ s.engNext u e target 2 ∧
        s.engKeeps u e [] [] [] [] [] ∧ s.engQuiet u e ∧ (u.eng e).stack = (pc + 1) :: g.stack) ∧
      (4 ≤ g.stack.length → ∃ u, exec (.call e f) s = .next u ∧ s.engRaised u e 3 0 0 ∧ (u.eng e).stack = g.stack)) ∧
    (s.fetched e 0x34 f → (∀ n t, g.stack = n :: t → ∃ u, exec (.ret e f) s = .next u ∧ s.engNext u e n 2 ∧
        s.engKeeps u e [] [] [] [] [] ∧ s.engQuiet u e ∧ (u.eng e).stack = t) ∧
      (g.stack = [] → ∃ u, exec (.ret e f) s = .next u ∧ s.engRaised u e 3 0 0)) ∧
    (s.fetched e 0x30 f → pc < 8191 →
      let w := s.engRead (pAddr e (pc + 1))
      let n := if bit f 25 = 0 then bits f 15 0 + 1 else (g.dv (bits f 24 22)).1 % 2 ^ 17
      w.2.1 = false → (bit f 25 = 1 → (g.dv (bits f 24 22)).2 = false) →
      (∀ c, repeatCycles (w.1 / 2 ^ 26) = some c → 0 < n → n * c ≤ 65536 →
        ∃ u, exec (.rep e f) s = .next u ∧ s.engKeeps u e [] [] [] [] [] ∧ s.engQuiet u e ∧ u.engState e = 2 ∧
          u.f Fld.DE_PC_PC e = pc + 1 ∧ (u.eng e).rep = n ∧ u.f Fld.DE_REP_REMAINING e = n ∧ u.f Fld.DE_STATE_REP e = 1 ∧
          (u.eng e).cycles = (g.cycles + s.cyc e 1) % 2 ^ 64) ∧
      (repeatCycles (w.1 / 2 ^ 26) = none → ∃ u, exec (.rep e f) s = .next u ∧ s.engRaised u e 3 0 0)) ∧
    (e < 256 → s.engState e = 2 → 0 < g.rep → g.pcOver = false → g.stepping = false → s.ownFree e → (s.engRead (pAddr e pc)).1 = 0 →
      ∃ u, exec (.nopInstruction e 0) s = .next u ∧ s.engKeeps u e [] [] [] [] [] ∧ s.engQuiet u e ∧ (u.eng e).rep = g.rep - 1 ∧
      u.f Fld.DE_REP_REMAINING e = (g.rep - 1) % 2 ^ Fld.DE_REP_REMAINING.width ∧ (1 < g.rep → u.f Fld.DE_PC_PC e = pc) ∧
      (g.rep = 1 → u.f Fld.DE_PC_PC e = (pc + 1) % 8192 ∧ u.f Fld.DE_STATE_REP e = 0)) ∧
    (s.fetched e 0x3C f → (∀ t, t < 8 → bit f t = 1 → (g.tag t).used = false) →
      ∃ u, exec (.wait e f) s = .next u ∧ s.engNext u e (pc + 1) 1 ∧ s.engKeeps u e [] [] [] [] [] ∧ s.engQuiet u e) ∧
    (s.fetched e 0x3F f → ∃ u, exec (.bkpt e f) s = .next u ∧ s.engNext u e (pc + 1) 1 ∧ s.engKeeps u e [] [] [] [] [] ∧
      s.engQuiet u e ∧ u.f Fld.DE_CTRL_HALT e = 1) ∧
    (s.fetched e 0x3D f → (∀ t, t < 8 → (g.tag t).used = false) → g.started = false → g.haltCmds = [] →
      s.f Fld.SC_STATUS_ENG_SHED 0 = 0 → ∀ l s', s.engRecs e 0x3FE0 (f % 8) = ((none, l), s') →
      ∃ u, exec (.doneInstruction e f) s = .next u ∧ s.engKeeps u e [] [] [] [] [] ∧ s.engQuiet u e ∧ u.engState e = 1 ∧
      u.f Fld.DE_TASK_VALID e = 0 ∧ (u.eng e).cycles = (g.cycles + s.cyc e (1 + 3 * (f % 8))) % 2 ^ 64 ∧
      ∃ k, mget (fun _ => []) u.net.send (256 + e) = mget (fun _ => []) s.net.send (256 + e) ++ [k] ∧ k.type = 7 ∧
        k.dest = epDest s.node 544 ∧ k.payload = fit 0 16 (leBytes 4 (s.f Fld.DE_TASK_INDEX e + 2 ^ 24 * (f % 8))) ++ (l.map TokRec.bytes).flatten) ∧
    (s.svcDue e = true → exec (.nopInstruction e f) s = .next s) ∧
    (s.issues e = true → e < 256 → g.rep = 0 → s.svcDue e = false → s.ownFree e → (s.engRead (pAddr e pc)).1 = f → f < 2 ^ 26 →
      (g.pcOver = true → ∃ u, exec (.nopInstruction e f) s = .next u ∧ s.engRaised u e 4 0 0) ∧
      (g.pcOver = false → (s.engRead (pAddr e pc)).2.1 = true → ∃ u, exec (.nopInstruction e f) s = .next u ∧ s.engRaised u e 1 2 pc) ∧
      (g.pcOver = false → (s.engRead (pAddr e pc)).2.1 = false → f ≠ 0 →
        ∃ u, exec (.nopInstruction e f) s = .next u ∧ s.engRaised u e 3 0 0))

/-- R238 and R214. `t` is the lowest tag that is neither used nor expired. -/
def Obligations.EngineCorridorRequests : Prop :=
  ∀ (s : State) (e f : Nat), s.canon → s.tables →
    let g := s.eng e
    let k := bits f 22 20
    let da := bits f 19 17
    let dt := bits f 16 14
    let n := bits f 13 8 + 1
    let addr := (g.dv da).1 + 2 ^ 32 * (g.dv (da + 1)).1
    let ws (m : Nat) := (List.range m).map fun j => s.engRead (memAddr e k ((g.pv k + j) % 16384))
    let sent (u : State) (t c : Nat) (p : Packet) : Prop :=
      s.engNext u e (s.f Fld.DE_PC_PC e + 1) c ∧ s.engKeeps u e [dt] [] [k] [] [] ∧ s.engQuiet u e ∧ (u.eng e).dv dt = (t, false) ∧
      (u.eng e).pv k = updPtr (g.lv k) (g.pv k) (sgn 15 (g.mv k)) % 2 ^ 14 ∧ ((u.eng e).tag t).used = true ∧
      ((u.eng e).tag t).status = 0 ∧ u.outReq (outKey (256 + e) 0 t) = some { pkt := p } ∧
      mget (fun _ => []) u.net.send (256 + e) = mget (fun _ => []) s.net.send (256 + e) ++ [p]
    (∀ t, (List.range 8).find? (fun t => !(g.tag t).used && (s.outReq (outKey (256 + e) 0 t)).isNone) = some t → g.ptrOk k = true → (g.dv da).2 = false →
      (s.fetched e 0x38 f → (g.dv (da + 1)).2 = false → ∃ u, exec (.get e f) s = .next u ∧
        sent u t 1 (mkReq s 0 (256 + e) t addr (4 * n - 1) []) ∧ ((u.eng e).tag t).dst = g.pv k + if k < 4 then 0 else 16384) ∧
      (s.fetched e 0x39 f → (g.dv (da + 1)).2 = false → ∃ u, exec (.put e f) s = .next u ∧
        sent u t n (mkReq s 1 (256 + e) t addr (4 * n - 1) ((ws n).flatMap fun w => leBytes 4 w.1)
          (wordMarks (addr % 256) ((ws n).map fun w => (w.1, w.2.1))))) ∧
      (s.fetched e 0x3B f → let v := (g.dv da).1
        ∃ u, exec (.sendmsg e f) s = .next u ∧
        sent u t n { mkReq s 2 (256 + e) t (epDest (v % 1024) (v / 1024 % 1024)) (4 * n - 1) ((ws n).flatMap fun w => leBytes 4 w.1)
          (wordMarks 0 ((ws n).map fun w => (w.1, w.2.1))) with dstPlane := v / 2 ^ 20 % 4 }) ∧
      (s.fetched e 0x3A f → ∀ l s', s.engRecs e (g.pv k) (bits f 10 8) = ((none, l), s') →
        ∃ u, exec (.sendtok e f) s = .next u ∧
        sent u t (3 * bits f 10 8) (mkReq s 5 (256 + e) t (epDest ((g.dv da).1 % 1024) 544) (12 * bits f 10 8 + 15) (tokPayload l 0)
          (poisonBits l)))) ∧
    (e < 256 → ∀ p s', s.take (256 + e) 1 = some (p, s') → g.rep ≠ 0 → p.type = 3 → exec (.engineResponse e) s = .next s) ∧
    (e < 256 → ∀ p s', s.take (256 + e) 1 = some (p, s') → g.rep = 0 ∨ p.type ≠ 3 →
      ∀ r, s.outReq (outKey (256 + e) p.dstPlane p.tag) = some r → r.expired = false →
      (g.tag p.tag).used = true → (g.tag p.tag).more = [] →
      (p.status = 2 → ∃ u, exec (.engineResponse e) s = .next u ∧ (u.eng e).tag p.tag = { g.tag p.tag with status := 2 } ∧
        u.mem = s.mem ∧ u.outReq (outKey (256 + e) p.dstPlane p.tag) = none) ∧
      (p.status = 0 → ∃ u, exec (.engineResponse e) s = .next u ∧ (u.eng e).tag p.tag = {} ∧
        u.outReq (outKey (256 + e) p.dstPlane p.tag) = none ∧ (r.pkt.type ≠ 0 → u.mem = s.mem) ∧
        (r.pkt.type = 0 → r.pkt.len = 3 → r.pkt.addr % 32 = 0 → p.poison = 0 →
          let a := if (g.tag p.tag).dst < 16384 then xAddr e (g.tag p.tag).dst else yAddr e (g.tag p.tag).dst
          s.engStored u a (leNat (p.payload.take 4)) false)) ∧
      (p.status = 1 → r.pkt.type = 0 → r.pkt.srcPlane = p.dstPlane → r.pkt.tag = p.tag →
        ∃ u, exec (.engineResponse e) s = .next u ∧ u.outReq (outKey (256 + e) p.dstPlane p.tag) = some { pkt := r.pkt } ∧
        mget (fun _ => []) u.net.send (256 + e) = mget (fun _ => []) s.net.send (256 + e) ++ [r.pkt]))

/-- R208 to R223. -/
def Obligations.EnginesStartHaltAndStep : Prop :=
  ∀ (s : State) (h : CmdHdr) (e v : Nat), s.canon → s.tables →
    (e < 256 → ∀ p s', s.takeOn (ejectLinks (256 + e)) 2 (fun p => p.type == 6 && s.isFor (256 + e) p) = some (p, s') →
      s.gateShut 1 (e / 16) = false →
      (s.engState e = 1 → ∃ u, exec (.dispatch e) s = .next u ∧ u.engState e = 2 ∧
        u.f Fld.DE_PC_PC e = s.tplTarget (leNat (p.payload.take 4) % 4096) ∧ (∀ k, k < 8 → (u.eng e).dv k =
          (leNat (slice p.payload (32 + 4 * k) 4), bit (bits (leNat (p.payload.take 4)) 19 12) k == 1)) ∧
        (∀ k, (u.eng e).av k = (0, false) ∧ (u.eng e).pv k = 0 ∧ (u.eng e).mv k = 0 ∧ (u.eng e).lv k = 0) ∧ (u.eng e).stack = [] ∧
        u.rd .DE_FLAGS e = 0 ∧ u.rd .DE_MODE e = 0 ∧ u.f Fld.DE_TASK_VALID e = 1 ∧ u.f Fld.DE_TASK_INDEX e = dispatchIndex p ∧
        mget (fun _ => []) u.net.send (256 + e) =
          mget (fun _ => []) s.net.send (256 + e) ++ [answer s p 4 (256 + e) 0 [] 0 false]) ∧
      (s.engState e ≠ 1 → ∃ u, exec (.dispatch e) s = .next u ∧ u.engs = s.engs ∧ u.mem = s.mem ∧
        mget (fun _ => []) u.net.send (256 + e) =
          mget (fun _ => []) s.net.send (256 + e) ++ [answer s p 4 (256 + e) 2 [] 0 false])) ∧
    (∃ u, exec (.haltRequest e v) s = .next u ∧ u.f Fld.DE_CTRL_HALT e = bit v 31 ∧ u.engs = s.engs ∧ u.mem = s.mem) ∧
    (s.engState e = 2 → s.f Fld.DE_CTRL_HALT e = 1 → (s.eng e).rep = 0 → ∀ r, (s.eng e).haltCmds = [r] → ∀ q, s.inprogOf r = some q →
      (∃ u, exec (.engineHalt e) s = .next u ∧ u.engState e = 3 ∧ (u.eng e).haltCmds = [] ∧ (r.1 = 0 → q.injected = false →
        mget (fun _ => []) u.mail.rsp 0 = mget (fun _ => []) s.mail.rsp 0 ++ [rspBlock 0 r.2.2.2 []]))) ∧
    (s.engState e = 2 → s.f Fld.DE_CTRL_HALT e = 1 → (s.eng e).rep ≠ 0 → exec (.engineHalt e) s = .next s) ∧
    (s.engState e = 3 → ∃ u, exec (.step e) s = .next u ∧ u.f Fld.DE_CTRL_STEP e = 1 ∧ u.issues e = true ∧ u.mem = s.mem) ∧
    (s.rfOpen e = true → let k := s.f Fld.DE_RF_IDX_REG e
      ∃ u, exec (.deRfDataWrite e v) s = .next u ∧
      (k < 8 → s.engKeeps u e [k] [] [] [] [] ∧ (u.eng e).dv k = (v % 2 ^ 32, false)) ∧
      (8 ≤ k → k < 12 → s.engKeeps u e [] [k - 8] [] [] [] ∧ (u.eng e).rf k = v % 2 ^ 32 ∧ (u.eng e).rf (k + 4) = (s.eng e).rf (k + 4)) ∧
      (12 ≤ k → k < 16 → s.engKeeps u e [] [k - 12] [] [] [] ∧ (u.eng e).rf k = v % 2 ^ 16 ∧ (u.eng e).rf (k - 4) = (s.eng e).rf (k - 4)) ∧
      (16 ≤ k → k < 24 → s.engKeeps u e [] [] [k - 16] [] [] ∧ (u.eng e).pv (k - 16) = v % 2 ^ 14) ∧
      (24 ≤ k → k < 32 → s.engKeeps u e [] [] [] [k - 24] [] ∧ (u.eng e).mv (k - 24) = v % 2 ^ 15) ∧
      (32 ≤ k → k < 40 → s.engKeeps u e [] [] [] [] [k - 32] ∧ (u.eng e).lv (k - 32) = v % 2 ^ 16)) ∧
    (e < 256 → (s.eng e).rep ≠ 0 → exec (.engineMemoryAccess e) s = .next s) ∧
    (e < 256 → (s.eng e).rep = 0 → ∀ p s', s.take (256 + e) 0 = some (p, s') →
      (∀ c, s'.engDeny e p = some c → ∃ u, exec (.engineMemoryAccess e) s = .next u ∧ u.mem = s.mem ∧
        mget (fun _ => []) u.net.send (256 + e) = mget (fun _ => []) s.net.send (256 + e) ++ [answer s p 4 (256 + e) 2 [] 0 false]) ∧
      (s'.engDeny e p = none → p.type = 1 → p.poison = 0 → p.len = 3 → p.payload.length = 4 → p.addr % 32 = 0 →
        decodeAddr p.addr = .engMem e → s.syn p.addr = 0 →
        ∃ u, exec (.engineMemoryAccess e) s = .next u ∧ u.engRead p.addr = (leNat p.payload, false, u) ∧
          ∀ a, a / 32 ≠ p.addr / 32 → u.byte a = s.byte a)) ∧
    (let c : Ebryn := ⟨h, 0x0602, .r, argBytes [(6, 2, e)], false⟩;
      s.accepts c → e < 256 → s.engState e = 2 → ∃ u, exec (.dspHalt h e) s = .next u ∧ u.f Fld.DE_CTRL_HALT e = 1 ∧
        (u.eng e).haltCmds = (s.eng e).haltCmds ++ [h.ref] ∧ u.mem = s.mem ∧ (u.inprogOf h.ref).isSome = true) ∧
    (let c : Ebryn := ⟨h, 0x0603, .r, argBytes [(6, 2, e)], false⟩;
      s.accepts c → e < 256 → (s.engState e = 3 → exec (.dspResume h e) s = .next ((((s.entered c).setF Fld.DE_CTRL_HALT e 0).setF Fld.DE_STATE_STATE e 2).respond h.ref 0 [])) ∧
        (s.engState e = 2 → exec (.dspResume h e) s = .next ((s.entered c).respond h.ref 4 []))) ∧
    (let c : Ebryn := ⟨h, 0x0604, .r, argBytes [(6, 2, e)], false⟩;
      s.accepts c → e < 256 → s.engState e = 3 → ∃ u, exec (.dspStep h e) s = .next u ∧ u.issues e = true ∧
        (u.eng e).stepCmds = (s.eng e).stepCmds ++ [h.ref] ∧ u.mem = s.mem ∧ (u.inprogOf h.ref).isSome = true) ∧
    (let c : Ebryn := ⟨h, 0x0605, .r, argBytes [(6, 2, e), (8, 1, v)], false⟩;
      s.accepts c → e < 256 → v < 2 → s.engState e ≠ 6 → s.engState e ≠ 0 → s.f Fld.SC_STATUS_ENG_SHED 0 = 0 → s.ownFree e →
      ∃ u, exec (.dspReset h e v) s = .next u ∧ u.engState e = 1 ∧ u.f Fld.DE_TASK_VALID e = 0 ∧ u.f Fld.DE_EXC_VALID e = 0 ∧
        (u.eng e).stack = [] ∧ (∀ k, (u.eng e).dv k = (0, false) ∧ (u.eng e).av k = (0, false)) ∧ (h.port ≠ 18 → u.mem = s.mem) ∧
        (v = 1 → s.f Fld.DE_TASK_VALID e = 1 → (mget (fun _ => []) u.net.send (256 + e)).length =
          (mget (fun _ => []) s.net.send (256 + e)).length + 1)) ∧
    (∀ vals, let c : Ebryn := ⟨h, 0x0606, .r, argBytes ([(6, 2, e), (8, 2, v)] ++ (List.range 8).map fun k => (12 + 4 * k, 4, nth vals k)), false⟩;
      s.accepts c → e < 256 → v < 8192 → s.mapBit Fld.SC_EMAP_MAP e = false → s.engState e = 1 →
      ∃ u, exec (.dspStart h e v vals) s = .next u ∧ u.engState e = 2 ∧ u.f Fld.DE_PC_PC e = v ∧ (u.eng e).started = true ∧
        (∃ c, (u.eng e).startCmd = some c ∧ c.cmd = h.ref) ∧ (u.inprogOf h.ref).isSome = true ∧
        (∀ k, k < 8 → (u.eng e).dv k = (nth vals k % 2 ^ 32, false)) ∧ u.rd .DE_FLAGS e = 0 ∧ u.mem = s.mem) ∧
    (∀ c q, s.fetched e 0 0 → (s.eng e).startCmd = some c → c.cmd.1 = 0 → s.inprogOf c.cmd = some q → q.injected = false →
      ∃ u, exec (.nopInstruction e 0) s = .next u ∧ (u.eng e).startCmd = none ∧
        mget (fun _ => []) u.mail.rsp 0 = mget (fun _ => []) s.mail.rsp 0 ++ [rspBlock 0 c.cmd.2.2.2 []])

/-- R203, R204, R205, R209 and Table 10-5, over every operand. -/
def Obligations.EngineArithmeticRules : Prop :=
  (∀ (w : Nat) (sat : Bool) (v : Int), 0 < w →
    let r := fitRange w sat v
    (r.2 = false ↔ -(2 ^ (w - 1) : Int) ≤ v ∧ v < 2 ^ (w - 1)) ∧ (r.2 = false → r.1 = v) ∧
    (sat = true → r.2 = true → r.1 = if v < 0 then -(2 ^ (w - 1) : Int) else 2 ^ (w - 1) - 1) ∧
    (sat = false → -(2 ^ (w - 1) : Int) ≤ r.1 ∧ r.1 < 2 ^ (w - 1) ∧ (v - r.1) % 2 ^ w = 0)) ∧
  (∀ (v : Int) (sh : Nat), let q := roundShift v sh
    2 * (v - q * 2 ^ sh) ≤ 2 ^ sh ∧ -(2 ^ sh : Int) ≤ 2 * (v - q * 2 ^ sh) ∧
    (0 < sh → 2 * (v - q * 2 ^ sh) = 2 ^ sh ∨ 2 * (v - q * 2 ^ sh) = -(2 ^ sh : Int) → q % 2 = 0)) ∧
  (∀ (xl p : Nat) (m : Int), p < 2 ^ 14 → xl < 2 ^ 16 → modeOk xl = true →
    let l := xl % 2 ^ 14 + 1
    let b := p / 2 ^ clog2 l * 2 ^ clog2 l
    (xl / 2 ^ 14 = 0 ∨ (xl / 2 ^ 14 = 1 ∧ l ≤ p - b) → ((updPtr xl p m : Int) = ((p : Int) + m) % 2 ^ 14)) ∧
    (xl / 2 ^ 14 = 1 → p - b < l → b ≤ updPtr xl p m ∧ updPtr xl p m < b + l ∧ ((updPtr xl p m - b : Nat) : Int) = (((p - b : Nat) : Int) + m) % (l : Int)) ∧
    (xl / 2 ^ 14 = 2 → l = 2 ^ clog2 l ∧ b ≤ updPtr xl p m ∧ updPtr xl p m < b + l ∧
      rev (clog2 l) (updPtr xl p m - b) = (rev (clog2 l) (p - b) + rev (clog2 l) (low (clog2 l) m)) % l)) ∧
  (∀ (x y : BitVec 32) (sat : Bool),
    aluWord 0x2 x.toNat y.toNat false sat = ((x &&& y).toNat, false) ∧ aluWord 0x3 x.toNat y.toNat false sat = ((x ||| y).toNat, false) ∧
    aluWord 0x4 x.toNat y.toNat false sat = ((x ^^^ y).toNat, false) ∧ aluWord 0x5 x.toNat y.toNat false sat = ((x &&& ~~~y).toNat, false) ∧
    aluWord 0x0 x.toNat y.toNat false sat = (low 32 (fitRange 32 sat (x.toInt + y.toInt)).1, (fitRange 32 sat (x.toInt + y.toInt)).2) ∧
    aluWord 0x1 x.toNat y.toNat false sat = (low 32 (fitRange 32 sat (x.toInt - y.toInt)).1, (fitRange 32 sat (x.toInt - y.toInt)).2) ∧
    aluWord 0xC x.toNat y.toNat false sat = (if x.toInt ≤ y.toInt then x.toNat else y.toNat, false) ∧
    aluWord 0xD x.toNat y.toNat false sat = (if x.toInt ≤ y.toInt then y.toNat else x.toNat, false) ∧
    aluWord 0x6 x.toNat y.toNat false sat = ((x.sshiftRight (y.toNat % 64)).toNat, false) ∧
    aluWord 0x7 x.toNat y.toNat false sat = ((x >>> (y.toNat % 64)).toNat, false)) ∧
  (∀ (op x y x' y' : Nat) (sat : Bool),
    x % 65536 = x' % 65536 → y % 65536 = y' % 65536 → (aluWord op x y true sat).1 % 65536 = (aluWord op x' y' true sat).1 % 65536) ∧
  (∀ (op x y x' y' : Nat) (sat : Bool), x / 65536 % 65536 = x' / 65536 % 65536 → y / 65536 % 65536 = y' / 65536 % 65536 →
    (aluWord op x y true sat).1 / 65536 = (aluWord op x' y' true sat).1 / 65536)

/-- R77 to R82, R87 and R367 to R372. -/
def Obligations.RepairWindowsAndSlices : Prop :=
  ∀ (s : State) (n : Nat), s.canon → s.tables →
    (∀ w, (s.stair n).win = some w →
      (w.phase = 1 → ∃ u, exec (.walkingPatternTest n) s = .next u ∧ (u.stair n).win = some { w with phase := 2 } ∧ u.regs = s.regs ∧
        ∀ k, k ≠ n → u.stair k = s.stair k) ∧
      (w.phase = 2 → ∃ u, exec (.repairOutcome n []) s = .next u ∧ (u.stair n).win = some { w with phase := 3 } ∧
        (u.stair n).remaps = (s.stair n).remaps ∧ (u.stair n).corr = (s.stair n).corr ∧ u.f Fld.ST_REPAIR_COUNT_COUNT n = (s.f Fld.ST_REPAIR_COUNT_COUNT n + 1) % 2 ^ Fld.ST_REPAIR_COUNT_COUNT.width ∧
        u.f Fld.ST_STATUS_STATE n = s.f Fld.ST_STATUS_STATE n) ∧
      (w.phase = 2 → s.f Fld.ST_STATUS_STATE n ≠ 2 → ∀ seg pos, seg < 8 → pos < 32 → w.group < 317 →
        ∃ u, exec (.repairOutcome n [(seg, pos)]) s = .next u ∧
        (s.failKind n seg w.group ≠ 2 → (u.stair n).corr = (s.stair n).corr.filter (fun x => x.1 != 32 * w.group + pos) ∧ u.f Fld.ST_FAULT_VALID n = 1 ∧ u.f Fld.ST_FAULT_KIND n = s.failKind n seg w.group ∧
          u.f Fld.ST_FAULT_SEG n = seg ∧ u.f Fld.ST_FAULT_GROUP n = w.group ∧ u.f Fld.ST_FAULT_POS n = pos) ∧
        (s.failKind n seg w.group = 0 → (u.stair n).remaps = (s.stair n).remaps ++ [(seg, w.group, pos)] ∧
          u.f Fld.ST_STATUS_STATE n = s.f Fld.ST_STATUS_STATE n) ∧
        (s.failKind n seg w.group = 1 → u.f Fld.ST_STATUS_STATE n = 1 ∧ u.f Fld.ST_NARROW_ACTIVE n = 1 ∧
          u.f Fld.ST_NARROW_SURVIVOR n = (if w.group < 144 then 1 else 0) ∧ u.f Fld.RM_STATUS_NARROW n = 1 ∧
          (u.stair n).remaps = (s.stair n).remaps) ∧
        (s.failKind n seg w.group = 2 → u.f Fld.ST_STATUS_STATE n = 2 ∧ (s.pastCommitPoint = false → u.safe = true))) ∧
      (w.phase = 3 → w.waiting = [] → ∃ u, exec (.repairSamplingResume n) s = .next u ∧ (u.stair n).win = none ∧
        u.f Fld.ST_STATUS_REPAIR_BUSY n = 0 ∧ u.mem = s.mem) ∧
      (w.phase = 3 → ∀ g rest, w.waiting = g :: rest → ∃ u, exec (.repairSamplingResume n) s = .next u ∧
        u.f Fld.ST_STATUS_REPAIR_BUSY n = 1 ∧ ((u.stair n).win.map fun w => (w.group, w.phase)) = some (g, 1))) ∧
    (∀ g seg toB, n < 128 → 297 ≤ g → g ≤ 304 → seg = 1 ∨ seg = 2 → (s.stair n).win = none →
      let r := if toB then n % 64 + 64 else n % 64
      ∃ u, exec (.vtParityMismatch n g ⟨seg, toB⟩) s = .next u ∧
        (u.room r).perr = Nat.lor (s.room r).perr (2 ^ (g - 297 + if 64 ≤ n then 8 else 0)) ∧ u.f Fld.ST_STATUS_VT_PARITY n = 1 ∧ u.f Fld.ST_STATUS_REPAIR_BUSY n = 1 ∧
        (u.stair n).win = some { group := g, phase := 1 } ∧ u.mem = s.mem) ∧
    (n < 128 → s.f Fld.BT_BG_CFG_ENABLE 0 = 1 → s.ready = true → s.safe = false → s.resuming = false → s.f Fld.PW_SHED_STATUS_LEVEL 0 = 0 →
      s.rpState ≠ 4 → (s.stair n).slice = none → (s.stair n).win = none → s.sliceFits (128 * ((s.stair n).sliceBank % 4) + n) = true →
      let k := (s.stair n).sliceBank % 4
      ∃ u, exec (.backgroundSlice n) s = .next u ∧
        (u.stair n).slice = some { bank := 128 * k + n, seg := nth (s.stair n).slicesDone k % 64, phase := 1 } ∧
        (u.stair n).sliceBank = (k + 1) % 4 ∧ bit (u.f Fld.BT_SLICE_MAP_MAP (n / 32)) (n % 32) = 1 ∧
        u.f Fld.BT_STATUS_BG_RUNNING 0 = 1 ∧ u.mem = s.mem) ∧
    (∀ sl, (s.stair n).slice = some sl → n < 128 → sl.bank % 128 = n → sl.bank < 512 → sl.seg < 64 →
      ((s.stair n).win = none → sl.phase = 1 → ∀ l, ∃ u, exec (.sliceSaveDone ⟨n, l⟩) s = .next u ∧
        (u.stair n).slice = some { sl with phase := if sl.expired then 3 else 2 } ∧
        (∀ k w i, k < 128 → w < 32 → i < 32 → u.byte (shadowBuf n k + 32 * w + i) =
          (s.decoded (bankRow sl.bank (128 * sl.seg + k) + 32 * w)).1.getD i 0) ∧
        (∀ k w, k < 128 → w < 32 → u.syn (shadowBuf n k + 32 * w) =
          if bit (sliceUe (rowFindings l k)) w = 1 ∨ (s.decoded (bankRow sl.bank (128 * sl.seg + k) + 32 * w)).2 = true then poisonSyn else 0) ∧
        (∀ a, a < 2 ^ 49 → u.byte a = s.byte a) ∧
        (l = [] → (∀ k w, k < 128 → w < 32 → s.syn (bankRow sl.bank (128 * sl.seg + k) + 32 * w) = 0) → u.regs = s.regs)) ∧
      ((s.stair n).win = none → sl.phase = 2 →
        (∃ u, exec (.sliceMarchDone n []) s = .next u ∧ (u.stair n).slice = some { sl with phase := 3 } ∧ u.mem = s.mem ∧ u.regs = s.regs) ∧
        (∀ t, t.kind = 1 → t.unit = sl.bank → ∃ u, exec (.sliceMarchDone n [t]) s = .next u ∧ u.mem = s.mem ∧
          (u.stair n).slice = some (match s.freeSpare t.unit t.bit with
            | some k => { sl with phase := 3, spares := sl.spares ++ [k] }
            | none => { sl with phase := 3, fail := sl.fail ++ [t] }))) ∧
      ((s.stair n).win = none → sl.phase = 3 → sl.fail = [] → ∀ l, ∃ u, exec (.sliceRestoreDone ⟨n, l⟩) s = .next u ∧
        (u.stair n).slice = none ∧ bit (u.f Fld.BT_SLICE_MAP_MAP (n / 32)) (n % 32) = 0 ∧
        nth (u.stair n).slicesDone (sl.bank / 128) = (if sl.expired then nth (s.stair n).slicesDone (sl.bank / 128)
          else if sl.bank / 128 < (s.stair n).slicesDone.length then nth (s.stair n).slicesDone (sl.bank / 128) + 1 else 0) ∧
        ((u.bank sl.bank).copy = (s.bank sl.bank).copy ++ sl.spares.map fun k => (k, 0)) ∧
        ∀ k w i, k < 128 → w < 32 → i < 32 → planeHit (rowFindings l k) = false → rowDataUe (rowFindings l k) = 0 →
          (s.decoded (shadowBuf n k + 32 * w)).2 = false →
          u.byte (bankRow sl.bank (128 * sl.seg + k) + 32 * w + i) = (s.decoded (shadowBuf n k + 32 * w)).1.getD i 0) ∧
      (sl.expired = true ∨ sl.phase = 3 → exec (.sliceBudgetExpiry n) s = .next s) ∧
      (sl.expired = false → sl.phase ≠ 3 → ∃ u, exec (.sliceBudgetExpiry n) s = .next u ∧ u.mem = s.mem ∧
        (u.stair n).slice = some { sl with expired := true, phase := if sl.phase = 2 then 3 else sl.phase } ∧
        u.f Fld.BT_BG_STATUS_ABORTED 0 = min (s.f Fld.BT_BG_STATUS_ABORTED 0 + 1) Fld.BT_BG_STATUS_ABORTED.top)) ∧
    (∀ h kind unit, let e : Ebryn := ⟨h, 0x0B05, .r, argBytes [(6, 1, kind), (8, 2, unit)], false⟩;
      s.accepts e → unit < kindUnits kind →
      (s.outOfService kind unit = true → (s.ready = true → s.boot.failed = [] ∧ s.tierNow ≠ 0) → ∃ u, exec (.selftestRun h kind unit []) s = .next u ∧ u.mem = s.mem ∧
        (h.port = 0 → mget (fun _ => []) u.mail.rsp 0 = mget (fun _ => []) s.mail.rsp 0 ++ [rspBlock 0 h.tag [0, 0]])) ∧
      (s.outOfService kind unit = false → ∀ found, exec (.selftestRun h kind unit found) s = .next ((s.entered e).respond h.ref 4 [])))

/-- R128 to R134 and R139. -/
def Obligations.MowingAndCheckerTestMode : Prop :=
  ∀ (s : State) (m : MowStore) (b : Nat), s.canon → s.tables →
    (s.f Fld.EC_STATUS_MOW_RUNNING 0 = 1 → s.mowable m = true → s.mowWaits m = false → mget (fun _ => 0) s.mow.scrubs m.key = 0 →
      mwf (fun _ => 0) s.mow.scrubs = true → mwf (fun _ => 0) s.mow.planeRow = true →
      ∃ u, exec (.mowingRowVisit m) s = .next u ∧ u.mowRowOf m = (s.mowRowOf m + 1) % m.rows ∧
        mget (fun _ => 0) u.mow.scrubs m.key = 33 * s.mowRowOf m + 32 ∧ u.mem = s.mem ∧ u.synd = s.synd) ∧
    (∀ same l, let v := mget (fun _ => 0) s.mow.scrubs m.key;
      s.f Fld.EC_STATUS_MOW_RUNNING 0 = 1 → v % 33 ≠ 0 → s.mowWaits m = false → s.mowable m = true →
      mwf (fun _ => 0) s.mow.scrubs = true →
      let a := m.rowAddr (v / 33) + 32 * (32 - v % 33)
      let hit : Bool := match m with | .bank _ => laneHit l | .plane _ _ => hitBy l 313 314
      (s.scrubTurn m = false → exec (.scrubAccess ⟨m, same, l⟩) s = .next s) ∧
      (s.scrubTurn m = true → s.scrubLoses m same = true → ∃ u, exec (.scrubAccess ⟨m, same, l⟩) s = .next u ∧ u.mow = s.mow ∧ u.mem = s.mem ∧ u.regs = s.regs) ∧
      (s.scrubTurn m = true → s.scrubLoses m same = false → (s.scrubMeets m a same).isSome = true → ∃ u, exec (.scrubAccess ⟨m, same, l⟩) s = .next u ∧
        mget (fun _ => 0) u.mow.scrubs m.key = v) ∧
      (s.scrubTurn m = true → s.scrubLoses m same = false → s.scrubMeets m a same = none → ∃ u, exec (.scrubAccess ⟨m, same, l⟩) s = .next u ∧
        mget (fun _ => 0) u.mow.scrubs m.key = (if v % 33 = 1 then 0 else v - 1) ∧
        (hit = true ∨ s.syn (s.phys a) = 0 → u.mem = s.mem ∧ u.synd = s.synd ∧ (l = [] → u.regs = s.regs)) ∧
        (hit = false → classify (s.syn (s.phys a)) ∉ [SynClass.clean, .poison, .ue] →
          (u.decoded a).1 = (s.decoded a).1 ∧ u.syn (u.phys a) = 0 ∧
          u.f Fld.EC_CE_COUNT_COUNT (storeOf a) = min (s.f Fld.EC_CE_COUNT_COUNT (storeOf a) + 1) Fld.EC_CE_COUNT_COUNT.top) ∧
        (hit = false → classify (s.syn (s.phys a)) = .ue →
          (s.reserved (a / 0x800000) = false → u.syn (u.phys a) = poisonSyn ∧
            u.f Fld.EC_UE_COUNT_COUNT (storeOf a) = min (s.f Fld.EC_UE_COUNT_COUNT (storeOf a) + 1) Fld.EC_UE_COUNT_COUNT.top) ∧
          (s.reserved (a / 0x800000) = true → s.pastCommitPoint = false → u.safe = true)))) ∧
    (s.mow.started = true → let p := s.f Fld.EC_MOW_PERIOD_PERIOD_MS 0; let th := s.f Fld.EC_MOW_CFG_THRESH 0
      let base := 1000 * s.f Fld.EC_MOW_CFG_BASE_S 0
      base < 2 ^ Fld.EC_MOW_PERIOD_PERIOD_MS.width →
      ∃ u, exec .mowingWindow s = .next u ∧ u.mow.ceWindow = 0 ∧ u.f Fld.EC_MOW_STATUS_CE_WINDOW 0 = min s.mow.ceWindow 65535 ∧
        (th < s.mow.ceWindow → 4000 ≤ p → u.f Fld.EC_MOW_PERIOD_PERIOD_MS 0 = p / 2) ∧
        (th < s.mow.ceWindow → p < 4000 → u.f Fld.EC_MOW_PERIOD_PERIOD_MS 0 = 2000) ∧
        (s.mow.ceWindow ≤ th / 4 → 1 ≤ s.mow.roundsHere → u.f Fld.EC_MOW_PERIOD_PERIOD_MS 0 = min (2 * p) base) ∧
        (th / 4 < s.mow.ceWindow → s.mow.ceWindow ≤ th → u.f Fld.EC_MOW_PERIOD_PERIOD_MS 0 = p) ∧
        u.f Fld.EC_STATUS_MOW_FAST 0 = (if u.f Fld.EC_MOW_PERIOD_PERIOD_MS 0 < base then 1 else 0)) ∧
    (∀ sp row rest, (s.bank b).copy = (sp, row) :: rest → s.safe = false → s.resuming = false → s.f Fld.LB_PWR_PSTATE b = 0 →
      s.f Fld.LB_STATUS_WIPE_BUSY b = 0 →
      ∃ u, exec (.copyPassRow b) s = .next u ∧ (u.bank b).copy = (if row = 8191 then rest else (sp, row + 1) :: rest)) ∧
    (∀ v, bit v 31 = 1 → s.f Fld.EC_CTM_CTRL_ENABLE 0 = 0 → s.ctmWaits = false → let c := bits v 8 0
      (s.ctmStatus c = 0 → s.sliceOn c = false → ∃ u, exec (.checkerTestModeEntry v) s = .next u ∧ u.inCtm c = true ∧
        u.f Fld.EC_CTM_CTRL_RAW_READ 0 = bit v 30 ∧ u.f Fld.EC_STATUS_CTM_ACTIVE 0 = 1 ∧ u.mem = s.mem) ∧
      (s.ctmStatus c ≠ 0 → exec (.checkerTestModeEntry v) s =
        .next (((s.setF Fld.EC_CTM_CTRL_RAW_READ 0 (bit v 30)).setF Fld.EC_CTM_CTRL_BANK 0 c).setF Fld.EC_STATUS_CTM_REFUSED 0 1)) ∧
      (s.ctmStatus c = 0 → s.sliceOn c = true → ∃ u, exec (.checkerTestModeEntry v) s = .next u ∧ u.inCtm c = false ∧
        (u.bank c).ctmWait = true ∧ u.mem = s.mem)) ∧
    (∀ v, bit v 31 = 0 → s.f Fld.EC_CTM_CTRL_ENABLE 0 = 1 → s.ctmWaits = false → let c := s.f Fld.EC_CTM_CTRL_BANK 0
      ∃ u, exec (.checkerTestModeExit v) s = .next u ∧ u.inCtm c = false ∧ u.f Fld.LB_STATUS_WIPE_BUSY c = 1 ∧
        (u.bank c).ctmExit = true ∧ u.f Fld.EC_CTM_CTRL_RAW_READ 0 = bit v 30 ∧ u.mem = s.mem) ∧
    (∀ h en raw, let e : Ebryn := ⟨h, 0x0B10, .r, argBytes [(6, 2, b), (8, 1, en), (9, 1, raw)], false⟩;
      s.accepts e → b < 512 → raw < 2 →
      (en = 1 → s.ctmStatus b = 0 → s.sliceOn b = false → s.f Fld.EC_CTM_CTRL_ENABLE 0 = 0 → (s.bank b).ctmWait = false →
        ∃ u, exec (.checkerMode h b en raw) s = .next u ∧
        u.inCtm b = true ∧ u.f Fld.EC_CTM_CTRL_RAW_READ 0 = raw ∧ (h.port ≠ 18 → u.mem = s.mem) ∧ (h.port = 0 →
          mget (fun _ => []) u.mail.rsp 0 = mget (fun _ => []) s.mail.rsp 0 ++ [rspBlock 0 h.tag []])) ∧
      (en = 1 → s.ctmStatus b ≠ 0 → exec (.checkerMode h b en raw) s = .next (((s.entered e).setF Fld.EC_STATUS_CTM_REFUSED 0 1).respond h.ref (s.ctmStatus b) [])) ∧
      (en = 0 → s.inCtm b = true → s.ctmWaits = false → ∃ u, exec (.checkerMode h b en raw) s = .next u ∧ u.inCtm b = false ∧
        u.f Fld.LB_STATUS_WIPE_BUSY b = 1 ∧ (u.bank b).ctmOut = (s.bank b).ctmOut ++ [h.ref]) ∧
      (en = 0 → s.inCtm b = false → (s.bank b).ctmWait = false → exec (.checkerMode h b en raw) s = .next ((s.entered e).respond h.ref 0 []))) ∧
    (∀ n, n < 128 → s.active n ≠ none → s.pastCommitPoint = false → ∃ u, exec (.configUe n) s = .next u ∧ u.f Fld.EC_STATUS_CONFIG_UE 0 = 1 ∧ u.safe = true ∧
      u.f Fld.EC_UE_COUNT_COUNT 1 = min (s.f Fld.EC_UE_COUNT_COUNT 1 + 1) Fld.EC_UE_COUNT_COUNT.top)

/-- R246 to R250, R267, R269 and R274. `rest` is what stays unacknowledged after the flit's ACK. -/
def Obligations.FlitsAreSentTakenAndReplayed : Prop :=
  ∀ (s : State) (k : Nat), s.canon → s.tables →
    let l := s.link k
    (s.linkSteady k → s.mayStart k = true → s.replaying = false → s.linkShut k = false → ∀ v, v < 4 → 0 < nth l.cred v → s.requireEnc k = false → l.enc.txKey = none →
      l.lmbOut = [] → s.takeOn (ejectLinks (linkEp k)) v (fun p => s.isFor (linkEp k) p && p.dstNode == s.node && isRequest p.type) = none →
      s.takeOn (ejectLinks (linkEp k)) v (s.forLink k) = none →
      ∀ t rest, mget (fun _ => []) l.txQ v = t :: rest → rest = [] → t.left = t.pkt.wireSize → t.left ≤ 240 → t.pkt.wire.length = t.left → 0 < t.left →
      ∃ u, exec (.flitSend k v) s = .next u ∧ nth (u.link k).cred v = nth l.cred v - 1 ∧
        (l.outst.length = 4 → nth (u.link k).outst v = nth l.outst v + 1) ∧
        (u.link k).txSeq = (l.txSeq + 1) % 65536 ∧ mget (fun _ => []) (u.link k).txQ v = [] ∧
        (u.link k).replay = l.replay ++ [{ kind := 0, vc := v, start := 0, fill := t.left, seq := l.txSeq, bytes := fit 0 240 t.pkt.wire }] ∧
        u.mem = s.mem ∧ u.net = s.net) ∧
    (∀ f, s.resuming = false → s.linkSteady k → f.ok k = true → ∀ rest, ackReplay l f.ack = some rest →
      (∀ v, v < 4 → nth f.credits v ≤ nth l.outst v) →
      (f.seq = l.rxSeq → f.enc = false → s.requireEnc k = false → f.vc < 4 → l.enc.vcStarted.getD f.vc true = true →
        parsePkt (mget (fun _ => []) l.rxStream f.vc ++ f.bytes.take f.fill) = none →
        ∃ u, exec (.dataFlit k f) s = .next u ∧ (u.link k).rxSeq = (l.rxSeq + 1) % 65536 ∧ s.linkAcked u k f rest ∧
          mget (fun _ => []) (u.link k).rxStream f.vc = mget (fun _ => []) l.rxStream f.vc ++ f.bytes.take f.fill ∧
          (u.link k).nakSent = false ∧ u.mem = s.mem ∧ u.net = s.net) ∧
      (f.seq ≠ l.rxSeq → k < 16 → ∃ u, exec (.dataFlit k f) s = .next u ∧ (u.link k).rxSeq = l.rxSeq ∧ u.linkState k = 4 ∧
        (u.link k).rxStream = l.rxStream ∧ u.net = s.net) ∧
      (16 ≤ k → seqAhead l f.seq = true → l.nakSent = false → ∃ u, exec (.dataFlit k f) s = .next u ∧ (u.link k).rxSeq = l.rxSeq ∧
        (u.link k).nakSent = true ∧ (u.link k).replay = l.replay ∧ (u.link k).cred = l.cred ∧ (u.link k).outst = l.outst ∧
        (u.link k).rxStream = l.rxStream ∧
        ((u.link k).lastSent.head?.map fun x => (x.kind, x.ack)) = some (4, (l.rxSeq + 65535) % 65536)) ∧
      ((16 ≤ k → l.pmReq = 0 ∨ f.pmReq ≠ 0) → ∃ u, exec (.nullFlit k f) s = .next u ∧ s.linkAcked u k f rest ∧
        (u.link k).rxSeq = l.rxSeq ∧ (u.link k).pmReq = (if 16 ≤ k then f.pmReq else l.pmReq) ∧ (l.cmd = [] → u.net = s.net)) ∧
      (16 ≤ k → l.pmReq ≠ 0 → f.pmReq = 0 → l.forced = false → s.f Fld.SL_PWR_TX_HOLD (k - 16) = 0 → s.txState k = 1 ∨ s.txState k = 2 →
        ∃ u, exec (.nullFlit k f) s = .next u ∧ u.txState k = 0 ∧ (u.link k).pmReq = 0) ∧
      (16 ≤ k → f.seq = l.rxSeq → f.enc = false → leNat (f.bytes.take 2) ≠ 0x0808 → l.lmbWait = false → f.bytes.length = 240 →
        ∃ u, exec (.lmb (k - 16) f) s = .next u ∧ (u.link k).rxSeq = (l.rxSeq + 1) % 65536 ∧ (u.link k).rxStream = l.rxStream ∧
          (u.link k).lmbOut.length + (u.link k).replay.length = l.lmbOut.length + rest.length + 1) ∧
      (16 ≤ k → rest ≠ [] → (∀ x ∈ rest, l.replaysOf x.seq < 8) → ∃ u, exec (.nak (k - 16) f) s = .next u ∧
        s.linkAcked u k f rest ∧ u.f Fld.SL_RETRY_COUNT_REPLAYS (k - 16) =
          min (s.f Fld.SL_RETRY_COUNT_REPLAYS (k - 16) + 1) Fld.SL_RETRY_COUNT_REPLAYS.top ∧
        ((u.link k).lastSent.take rest.length).map (·.seq) = (rest.map (·.seq)).reverse) ∧
      (16 ≤ k → 1 ≤ f.txState → f.txState < 4 → l.pmReq = 0 ∨ f.pmReq ≠ 0 → ∃ u, exec (.pm (k - 16) f) s = .next u ∧
        u.rxState k = (if l.pmSeen = some f.txState then f.txState else 0) ∧
        (u.link k).pmSeen = (if l.pmSeen = some f.txState then none else some f.txState) ∧ (u.link k).pmReq = f.pmReq ∧ s.linkAcked u k f rest ∧ (u.link k).farForced = f.forced)) ∧
    (∀ f, s.resuming = false → 16 ≤ k → l.trainPhase = 3 → f.ok k = true → l.set.tune = true →
      (leNat (f.bytes.take 1) = 1 → ∃ u, exec (.teq (k - 16) f) s = .next u ∧ (u.link k).ffe = .preset (leNat (slice f.bytes 1 1)) ∧
        u.regs = s.regs) ∧
      (leNat (f.bytes.take 1) = 2 → tapsOk ((List.range 5).map fun i => leNat (slice f.bytes (2 + i) 1)) = true →
        ∃ u, exec (.teq (k - 16) f) s = .next u ∧ (u.link k).ffe = .taps ((List.range 5).map fun i => leNat (slice f.bytes (2 + i) 1)))) ∧
    (s.linkSteady k → s.txState k = 0 → l.forced = false → l.ackOwed = true → (16 ≤ k → s.txWanted k = 0) →
      ∃ u, exec (.ackTimer k) s = .next u ∧ (u.link k).ackOwed = false ∧ (u.link k).replay = l.replay ∧
        (u.link k).rel = List.zipWith (· - ·) l.rel (l.rel.map (min 255)) ∧
        ((u.link k).lastSent.head?.map fun x => (x.kind, x.ack, x.credits)) = some (1, (l.rxSeq + 65535) % 65536, l.rel.map (min 255))) ∧
    (s.linkSteady k → 16 ≤ k → l.farForced = false → s.txState k = 0 → l.replay ≠ [] →
      ((∀ x ∈ l.replay, l.replaysOf x.seq < 8) → ∃ u, exec (.replayTimer (k - 16)) s = .next u ∧ (u.link k).replay = l.replay ∧
        (∀ x ∈ l.replay, (u.link k).replaysOf x.seq = l.replaysOf x.seq + 1) ∧
        ((u.link k).lastSent.take l.replay.length).map (·.seq) = (l.replay.map (·.seq)).reverse) ∧
      ((∃ x ∈ l.replay, 8 ≤ l.replaysOf x.seq) → ∃ u, exec (.replayTimer (k - 16)) s = .next u ∧ u.linkState k = 4)) ∧
    (∀ f, s.resuming = false → k < 32 → s.linkState k = 2 → f.ok k = true → l.initRcvd = false → s.rawOn k = false →
      (l.fresh = true → let adv := (List.range 4).map fun v => leNat (slice f.bytes v 1)
        (l.initSent = false → ∃ u, exec (.initFlit k f) s = .next u ∧ (u.link k).initRcvd = true ∧ (u.link k).cred = adv ∧
          (u.link k).advDepth = adv ∧ (u.link k).outst = zero4 ∧ (u.link k).replay = [] ∧ (u.link k).txSeq = 0 ∧ (u.link k).rxSeq = 0 ∧
          (u.link k).far = l.set.depths ∧ (u.link k).rxDepth = l.set.depths ∧ (u.link k).enc = {} ∧ u.linkF Fld.DP_PEER_VALID Fld.SL_PEER_VALID k = 1 ∧
          u.linkF Fld.DP_PEER_UID_LO_UID Fld.SL_PEER_UID_LO_UID k = leNat (slice f.bytes 6 6) % 2 ^ 32 ∧ u.linkState k = 2) ∧
        (l.initSent = true → s.linkFree k → ∃ u, exec (.initFlit k f) s = .next u ∧ u.linkState k = 3 ∧ (u.link k).cred = adv ∧
          (u.link k).fresh = false ∧ (u.link k).up = true)) ∧
      (l.fresh = false → ∀ rest, ackReplay l f.ack = some rest →
        let n (v : Nat) := (rest.filter fun (x : Flit) => x.kind == 0 && x.vc == v).length
        ((∀ v, v < 4 → nth f.credits v + n v ≤ nth l.escTx v) → l.initSent = false → ∃ u, exec (.resyncFlit k f) s = .next u ∧
          (u.link k).cred = add4 l.cred f.credits ∧ (u.link k).outst = List.zipWith (· - ·) l.escTx f.credits ∧
          (u.link k).escTx = zero4 ∧ (u.link k).replay = rest ∧ (u.link k).initRcvd = true ∧ u.linkState k = 2) ∧
        (nth l.escTx 0 < nth f.credits 0 + n 0 → s.pastCommitPoint = false → ∃ u, exec (.resyncFlit k f) s = .next u ∧ u.safe = true ∧
          u.f Fld.EP_STATUS_BOOKS_FAULT 0 = 1))) ∧
    (∀ x, k < 16 → s.framing k = true → s.rxState (16 + k) = 3 → s.linkActive (16 + k) = true →
      ∃ u, exec (.frame k x) s = .next u ∧ u.linkState (16 + k) = 4) ∧
    (∀ x, k < 16 → s.framing k = true → s.rxState (16 + k) ≠ 3 → s.rawOn (16 + k) = false →
      let y := x.decode
      (∀ b ∈ y.slots (s.link (16 + k)).rxScr, 8 ≤ (parseFlit b).kind) →
      (s.linkActive (16 + k) = true → (∃ i, i < 4 ∧ 256 ≤ (sgn 10 (nth y.phase i)).natAbs) →
        ∃ u, exec (.frame k x) s = .next u ∧ u.linkState (16 + k) = 4) ∧
      ((∀ i, i < 4 → y.badMarker false i = false ∧ (sgn 10 (nth y.phase i)).natAbs < 256) → ∃ u, exec (.frame k x) s = .next u ∧
        (s.txState (16 + k) = 0 → 5 ≤ (s.link (16 + k)).slotQ.length →
          (u.link (16 + k)).txFrame = frameLanes (frameMessage (s.link (16 + k)).txScr flitMask (((s.link (16 + k)).slotQ.take 5).map Flit.wire)).1 ∧
          (u.link (16 + k)).slotQ = (s.link (16 + k)).slotQ.drop 5) ∧
        (u.link (16 + k)).rxScr = (scrambler 512 (s.link (16 + k)).rxScr).2 ∧
        (∀ j, j < 4 → u.f Fld.SL_LANE_PHASE (4 * k + j) = nth y.phase j % 2 ^ Fld.SL_LANE_PHASE.width) ∧
        u.f Fld.SL_FEC_COUNT_COUNT k = min (s.f Fld.SL_FEC_COUNT_COUNT k + y.corrected) Fld.SL_FEC_COUNT_COUNT.top ∧
        u.f Fld.SL_FEC_UE_COUNT_COUNT k = min (s.f Fld.SL_FEC_UE_COUNT_COUNT k + y.ue.toNat) Fld.SL_FEC_UE_COUNT_COUNT.top ∧
        (∀ j, j < 4 → u.f Fld.SL_LANE_FRAME_LOCK (4 * k + j) = 1) ∧ (u.link (16 + k)).rxSeq = (s.link (16 + k)).rxSeq))

/-- R248, R249, R251, R258, R265, R266, R271 and R280. -/
def Obligations.LinksTrainRetrainAndHold : Prop :=
  ∀ (s : State) (k : Nat), s.canon → s.tables → k < 32 →
    let l := s.link k
    let g := k - 16
    let retrained (u : State) : Prop := u.linkState k = 4 ∧ (u.link k).outst = zero4 ∧ (u.link k).rel = zero4 ∧
      (u.link k).escTx = add4 l.escTx l.outst ∧ (u.link k).escRx = add4 l.escRx l.rel ∧ (u.link k).replay = l.replay ∧
      u.linkF Fld.DP_TRAIN_COUNT_RETRAINS Fld.SL_TRAIN_COUNT_RETRAINS k =
        (s.linkF Fld.DP_TRAIN_COUNT_RETRAINS Fld.SL_TRAIN_COUNT_RETRAINS k + 1) % 65536
    (s.linkState k = 1 ∨ s.linkState k = 4 → l.trainPhase = 0 → s.refLost = false → ∃ u, exec (.trainingAttempt k) s = .next u ∧
      (u.link k).trainPhase = 1 ∧ (u.link k).checks = 0 ∧ (u.link k).initSent = false ∧ u.linkState k = s.linkState k) ∧
    (s.linkState k = failedState k → l.trainPhase = 0 → s.linkMayTrain k = true → ∃ u, exec (.failedRetry k) s = .next u ∧
      (u.link k).trainPhase = 1 ∧ u.linkState k = failedState k) ∧
    (16 ≤ k → l.trainPhase = 1 ∨ l.trainPhase = 2 → l.set.manual = false → l.checks < 39 → ∀ m, (∀ i, i < 4 → nth m i < 256) →
      ∃ u, exec (.alignmentCheck g m) s = .next u ∧ (u.link k).checks = l.checks + 1 ∧ (u.link k).trainPhase = 2 ∧ ∀ i, i < 4 →
      (250 ≤ nth m i → u.f Fld.SL_LANE_ALIGNED (4 * g + i) = 1 ∧ u.f Fld.SL_LANE_MATCH (4 * g + i) = nth m i) ∧
      (nth m i < 250 → i ∈ l.found → u.f Fld.SL_LANE_ALIGNED (4 * g + i) = 0 ∧ u.f Fld.SL_LANE_MATCH (4 * g + i) = nth m i) ∧
      (nth m i < 250 → i ∉ l.found → u.f Fld.SL_LANE_ALIGNED (4 * g + i) = 0 ∧
        u.f Fld.SL_LANE_SLIPS (4 * g + i) = (s.f Fld.SL_LANE_SLIPS (4 * g + i) + 1) % 2 ^ Fld.SL_LANE_SLIPS.width)) ∧
    (16 ≤ k → s.aligning g = true → l.steady = true → (∀ i, i < 4 → s.f Fld.SL_LANE_ALIGNED (4 * g + i) = 1) → ∃ u, exec (.frameLock g) s = .next u ∧
      (u.link k).trainPhase = 3 ∧ (u.link k).txScr = 2 ^ 31 - 1 ∧ (u.link k).rxScr = 2 ^ 31 - 1 ∧ (s.linkState k ≠ 6 → u.linkState k = 2) ∧ ∀ i, i < 4 → u.f Fld.SL_LANE_FRAME_LOCK (4 * g + i) = 1) ∧
    (16 ≤ k → l.trainPhase = 3 → l.set.tune = true → l.rounds < 16 → l.initSent = false → ∀ m,
      ∃ u, exec (.ffeTuningRound g m) s = .next u ∧ (u.link k).rounds = l.rounds + 1 ∧
      (u.link k).lastSent.head? = some (({ kind := 7, seq := l.txSeq, bytes := fit 0 240 (m.map (BitVec.ofNat 8)) } : Flit).seal k) ∧ u.regs = s.regs) ∧
    (l.trainPhase = (if 16 ≤ k then 3 else 1) → l.initSent = false → l.forced = false → l.initRcvd = false → (16 ≤ k → l.set.raw = false) → ∀ rate, rate < 8 → l.set.rate < 8 →
      ∃ u, exec (.adapterActive k rate) s = .next u ∧ u.linkState k = 2 ∧ (u.link k).initSent = true ∧
      ((u.link k).lastSent.head?.map (·.kind)) = some (if l.fresh then 2 else 3) ∧
      u.linkF Fld.DP_STATUS_RATE Fld.SL_STATUS_RATE k = (if 16 ≤ k then l.set.rate else min rate l.set.rate) % 2 ^ (if 16 ≤ k then Fld.SL_STATUS_RATE.width else Fld.DP_STATUS_RATE.width)) ∧
    (l.trainPhase ≠ 0 → s.linkState k = 1 ∨ s.linkState k = 4 →
      (l.trainPhase = 2 → l.set.manual = true → exec (.trainingFailure k) s = .next s) ∧
      (l.trainPhase ≠ 2 ∨ l.set.manual = false → l.tries + 1 < l.set.tries → ∃ u, exec (.trainingFailure k) s = .next u ∧
        (u.link k).tries = l.tries + 1 ∧ (u.link k).trainPhase = 1 ∧ u.linkState k = s.linkState k) ∧
      (l.trainPhase ≠ 2 ∨ l.set.manual = false → l.set.tries ≤ l.tries + 1 → l.again = false → ∃ u, exec (.trainingFailure k) s = .next u ∧
        u.linkState k = failedState k ∧ u.linkF Fld.DP_STATUS_TRAIN_FAIL Fld.SL_STATUS_TRAIN_FAIL k = 1 ∧ (u.link k).trainPhase = 0)) ∧
    (k < 16 → s.linkActive k = true → ∃ u, exec (.dpCtrlRetrain k) s = .next u ∧ retrained u) ∧
    (16 ≤ k → s.linkActive k = true → ∃ u, exec (.slCtrlRetrain g) s = .next u ∧ retrained u) ∧
    (k < 16 → s.linkState k ≠ 3 → s.linkState k ≠ 5 → exec (.dpCtrlRetrain k) s = .next (s.setF Fld.DP_CTRL_RETRAIN k 1)) ∧
    (16 ≤ k → s.linkState k ≠ 3 → exec (.slCtrlRetrain g) s = .next (s.setF Fld.SL_CTRL_RETRAIN g 1)) ∧
    (let held (u : State) : Prop := (l.replay = [] → u.linkState k = downHeld k) ∧ (l.replay ≠ [] → u.linkState k = 3 ∧
        (u.link k).holdAfterDrain = true ∧ (u.link k).replay = l.replay);
      (k < 16 → s.linkActive k = true → ∃ u, exec (.dpCtrlHoldDown k 1) s = .next u ∧ u.f Fld.DP_CTRL_HOLD_DOWN k = 1 ∧ held u) ∧
      (16 ≤ k → s.linkActive k = true → ∃ u, exec (.slCtrlHoldDown g 1) s = .next u ∧ u.f Fld.SL_CTRL_HOLD_DOWN g = 1 ∧ held u)) ∧
    (s.linkState k = downHeld k → s.linkMayTrain k = true → s.replaying = false → s.resuming = false →
      (k < 16 → ∃ u, exec (.dpCtrlHoldDown k 0) s = .next u ∧ u.linkState k = 1 ∧ u.f Fld.DP_CTRL_HOLD_DOWN k = 0) ∧
      (16 ≤ k → ∃ u, exec (.slCtrlHoldDown g 0) s = .next u ∧ u.linkState k = 1 ∧ u.f Fld.SL_CTRL_HOLD_DOWN g = 0)) ∧
    (16 ≤ k → ∀ i, i < 4 → s.aligning g = true → ∃ u, exec (.slCtrlSlip g i) s = .next u ∧
      u.f Fld.SL_LANE_SLIPS (4 * g + i) = (s.f Fld.SL_LANE_SLIPS (4 * g + i) + 1) % 2 ^ Fld.SL_LANE_SLIPS.width ∧
      u.f Fld.SL_LANE_MATCH (4 * g + i) = 0 ∧ u.f Fld.SL_LANE_ALIGNED (4 * g + i) = 0) ∧
    (l.holdAfterDrain = true → ∃ u, exec (.replayBufferDrainLimit k) s = .next u ∧ u.linkState k = downHeld k) ∧
    (s.linkActive k = true → l.holdAfterDrain = false → l.depthChange = true → ∃ u, exec (.replayBufferDrainLimit k) s = .next u ∧
      retrained u ∧ (u.link k).fresh = true) ∧
    (k < 16 → s.refLost = true → s.linkActive k = true → l.replay ≠ [] → ∃ u, exec (.portMainbandStop k) s = .next u ∧ retrained u ∧
      (u.link k).retrainAfterRef = true) ∧
    (16 ≤ k → s.linkActive k = true → s.rxState k < 2 → (∀ v, l.pmSeen = some v → v < 2) → ∃ u, exec (.forwardedClockStop g) s = .next u ∧ retrained u) ∧
    (k < 16 → s.linkActive k = true → ∀ n, ∃ u, exec (.adapterRetryFailure k n) s = .next u ∧ retrained u ∧
      u.f Fld.DP_RETRY_COUNT_COUNT k = min (s.f Fld.DP_RETRY_COUNT_COUNT k + n) Fld.DP_RETRY_COUNT_COUNT.top) ∧
    (k < 16 → s.linkActive k = true → ∀ lane tx, ∃ u, exec (.laneFault k lane tx) s = .next u ∧ retrained u ∧
      u.f (if tx then Fld.DP_REPAIR_TX_USED else Fld.DP_REPAIR_RX_USED) k =
        min (s.f (if tx then Fld.DP_REPAIR_TX_USED else Fld.DP_REPAIR_RX_USED) k + 1) (if tx then Fld.DP_REPAIR_TX_USED else Fld.DP_REPAIR_RX_USED).top)

/-- R252, R274 and R278. The control word holds TX_PROD, TX_CONS, RX_PROD and RX_CONS; `c` are its words in a response. -/
def Obligations.LinkPowerStatesAndRawRings : Prop :=
  ∀ (s : State) (g : Nat), s.canon → s.tables → g < 16 →
    let k := 16 + g
    let d := s.link g
    let idle : Prop := s.linkActive k = true ∧ s.rawOn k = false ∧ s.txIdle k = true
    let ep := 528 + g
    let ring (u : State) (rx : Bool) : RawDir := (u.link k).raw rx
    let asks (u : State) (rx : Bool) (phase type a len : Nat) (data : List Byte) (poison : Nat) : Prop := u.mem = s.mem ∧ ∃ q,
      mget (fun _ => []) u.net.send ep = mget (fun _ => []) s.net.send ep ++ [q] ∧ q.type = type ∧ q.dest = a + 2 ^ 48 * s.node ∧ q.len = len ∧
      q.payload = data ∧ q.poison = poison ∧ u.outReq (outKey ep 0 q.tag) = some { pkt := q } ∧ (ring u rx).phase = phase ∧
      (ring u rx).tag = q.tag ∧ (ring u rx).failed = false
    let reads (u : State) (rx : Bool) : Prop := asks u rx 1 0 (s.rawCtl g) 15 [] 0
    (∀ v, v < 4 → ∃ u, exec (.rxHold g v) s = .next u ∧ u.f Fld.SL_PWR_RX_HOLD g = v ∧ u.links = s.links) ∧
    (∀ v, v < 4 → ∃ u, exec (.txHold g v) s = .next u ∧ u.f Fld.SL_PWR_TX_HOLD g = v ∧
      (idle → (s.link k).forced = false → (s.link k).pmReq = 0 → s.txState k < v → u.txState k = v ∧
        (((u.link k).lastSent.filter (·.kind == 5)).take 2).map (·.txState) = [v, v]) ∧
      (v = 0 → s.linkActive k = true → s.f Fld.SL_PWR_TX_HOLD g ≠ 0 → (s.link k).forced = false → (s.link k).pmReq = 0 →
        s.txState k = 1 ∨ s.txState k = 2 → u.txState k = 0)) ∧
    (s.linkActive g = true → d.replay = [] → s.bytesReady g = false → s.f Fld.DP_CFG_L1_IDLE g ≠ 0 →
      ∃ u, exec (.l1Entry g) s = .next u ∧ u.linkState g = 5 ∧ u.links = s.links) ∧
    (s.linkState g = 5 → d.l1Shed = false → s.refLost = false → (∀ c ∈ d.cmd, c.1 ≠ 1) → ∃ u, exec (.l1Exit g) s = .next u ∧ u.linkState g = 3 ∧ u.links = s.links) ∧
    (idle → s.txState k = 0 → s.f Fld.SL_PWR_IDLE_NS g ≠ 0 → ∃ u, exec (.txiEntry g) s = .next u ∧ u.txState k = 1 ∧
      (((u.link k).lastSent.filter (·.kind == 5)).take 2).map (·.txState) = [1, 1]) ∧
    (idle → s.txState k = 1 → s.f Fld.SL_PWR_SLEEP_US g ≠ 0 → ∃ u, exec (.txsEntry g) s = .next u ∧ u.txState k = 2 ∧
      (((u.link k).lastSent.filter (·.kind == 5)).take 2).map (·.txState) = [2, 2]) ∧
    (s.linkActive k = true → s.txState k = 1 ∨ s.txState k = 2 → (s.link k).forced = false → (s.link k).ackOwed = true →
      ∃ u, exec (.txExit g) s = .next u ∧ u.txState k = 0) ∧
    (s.rawSends g = true → (ring s false).phase = 0 → ∃ u, exec (.rawTransmit g) s = .next u ∧ reads u false) ∧
    (s.rawSends g = true → (ring s false).phase ≠ 0 → exec (.rawTransmit g) s = .next s) ∧
    (s.rawRuns k = true → (ring s true).phase = 0 → (ring s false).phase = 0 → ∃ u, exec (.rawControlPoll g) s = .next u ∧ reads u false) ∧
    (s.rawRuns k = true → s.resuming = false → ∀ data ue, ∃ u, exec (.rawReceive g data ue) s = .next u ∧ u.mem = s.mem ∧
      (u.link k).rawIn = (s.link k).rawIn ++ [{ bytes := data, ue := ue, last := true }] ∧ ((ring s true).phase = 0 → reads u true)) ∧
    (∀ p s', s.takeOn (ejectLinks ep) 1 (fun p => s.isFor ep p && p.dstNode == s.node) = some (p, s') →
      ∀ r, s.outReq (outKey ep p.dstPlane p.tag) = some r → r.expired = false →
      let c (i : Nat) := leNat (slice p.payload (4 * i) 4)
      (∀ rx, (s.link k).rawOf p.tag = some rx →
        (p.status = 2 → ∃ u, exec (.responseArrival ep) s = .next u ∧ ring u rx = { ring s rx with failed := true } ∧ u.mem = s.mem ∧
          u.f Fld.SL_RAW_STATUS_RAM_ERR g = min (s.f Fld.SL_RAW_STATUS_RAM_ERR g + 1) Fld.SL_RAW_STATUS_RAM_ERR.top) ∧
        (p.status = 1 → ∃ u, exec (.responseArrival ep) s = .next u ∧ u.mem = s.mem ∧ (ring u rx).phase = (ring s rx).phase ∧
          (mget (fun _ => []) u.net.send ep).length = (mget (fun _ => []) s.net.send ep).length + 1)) ∧
      ((s.link k).rawOf p.tag = some false → p.status = 0 → s.rawSends g = true → let d := ring s false
        (d.phase = 1 → c 0 = c 1 → ∃ u, exec (.responseArrival ep) s = .next u ∧ ring u false = {} ∧ u.net.send = s.net.send) ∧
        (d.phase = 1 → c 0 ≠ c 1 → ∃ u, exec (.responseArrival ep) s = .next u ∧ (ring u false).ctr = c 1 ∧
          asks u false 2 0 (s.rawBlock g false (c 1)) 255 [] 0) ∧
        (d.phase = 2 → ∃ u, exec (.responseArrival ep) s = .next u ∧ (ring u false).ctr = d.ctr ∧
          asks u false 3 1 (s.rawCtl g + 4) 3 (leBytes 4 ((d.ctr + 1) % 2 ^ 32)) 0 ∧
          (p.poison = 0 → (u.link k).lastSent = { kind := 0, bytes := p.payload } :: (s.link k).lastSent) ∧
          (p.poison ≠ 0 → (u.link k).lastSent = (s.link k).lastSent ∧
            u.f Fld.SL_RAW_STATUS_TX_POISON g = min (s.f Fld.SL_RAW_STATUS_TX_POISON g + 1) Fld.SL_RAW_STATUS_TX_POISON.top)) ∧
        (2 < d.phase → ∃ u, exec (.responseArrival ep) s = .next u ∧ reads u false)) ∧
      ((s.link k).rawOf p.tag = some true → p.status = 0 → s.f Fld.SL_RAW_CFG_NOTIFY g = 0 → ∀ b rest, (s.link k).rawIn = b :: rest →
        let d := ring s true
        (d.phase = 1 → (c 2 + 2 ^ 32 - c 3) % 2 ^ 32 = s.rawN g → ∃ u, exec (.responseArrival ep) s = .next u ∧ (u.link k).rawIn = rest ∧
          u.mem = s.mem ∧ u.f Fld.SL_RAW_STATUS_RX_DROPPED g = min (s.f Fld.SL_RAW_STATUS_RX_DROPPED g + 1) Fld.SL_RAW_STATUS_RX_DROPPED.top) ∧
        (d.phase = 1 → (c 2 + 2 ^ 32 - c 3) % 2 ^ 32 ≠ s.rawN g → ∃ u, exec (.responseArrival ep) s = .next u ∧ (ring u true).ctr = c 2 ∧
          asks u true 2 1 (s.rawBlock g true (c 2)) 255 (fit 0 256 b.bytes) (if b.ue then 255 else 0)) ∧
        (d.phase = 2 → ∃ u, exec (.responseArrival ep) s = .next u ∧ (ring u true).ctr = d.ctr ∧
          asks u true 3 1 (s.rawCtl g + 8) 3 (leBytes 4 ((d.ctr + 1) % 2 ^ 32)) 0) ∧
        (2 < d.phase → ∃ u, exec (.responseArrival ep) s = .next u ∧ (u.link k).rawIn = rest ∧ reads u true))) ∧
    (∀ rx, (ring s rx).failed = true → (ring s (!rx)).failed = false → ∃ u, exec (.rawRingRetry g) s = .next u ∧ u.mem = s.mem ∧
      (ring u rx).failed = false ∧ (ring u rx).phase = (ring s rx).phase ∧ ring u (!rx) = ring s (!rx) ∧
      (mget (fun _ => []) u.net.send ep).length = (mget (fun _ => []) s.net.send ep).length + 1)

/-- R255, R279 and R281. -/
def Obligations.LinkCommandsAndEnumeration : Prop :=
  ∀ (s : State) (h : CmdHdr) (k g v : Nat), s.canon → s.tables → k < 32 →
    let l := s.link k
    let waits (u : State) (what : Nat) : Prop := (u.link k).cmd = l.cmd ++ [(what, h.port, h.node, h.ep, h.tag)] ∧
      (u.inprogOf h.ref).isSome = true
    let ok (u : State) : Prop := h.port = 0 → mget (fun _ => []) u.mail.rsp 0 = mget (fun _ => []) s.mail.rsp 0 ++ [rspBlock 0 h.tag []]
    (let e : Ebryn := ⟨h, 0x0702, .r, argBytes [(6, 1, k), (8, 4, v)], false⟩;
      s.accepts e → k < 16 →
      (s.linkActive k = true → ∃ u, exec (.dpRetrain h k v) s = .next u ∧ u.linkState k = 4 ∧ waits u 1) ∧
      (s.linkState k ≠ 3 → s.linkState k ≠ 5 → exec (.dpRetrain h k v) s = .next ((s.entered e).respond h.ref 5 []))) ∧
    (let e : Ebryn := ⟨h, 0x0802, .r, argBytes [(6, 1, g), (8, 4, v)], false⟩;
      s.accepts e → k = 16 + g →
      (s.linkActive k = true → ∃ u, exec (.slRetrain h g v) s = .next u ∧ u.linkState k = 4 ∧ waits u 1) ∧
      (s.linkActive k = false → exec (.slRetrain h g v) s = .next ((s.entered e).respond h.ref 5 []))) ∧
    (let e : Ebryn := ⟨h, 0x0703, .r, argBytes [(6, 1, k)], false⟩;
      s.accepts e → k < 16 →
      (s.linkActive k = true → l.replay ≠ [] → ∃ u, exec (.dpDown h k) s = .next u ∧ u.heldDown k = true ∧ waits u 2 ∧
        (u.link k).holdAfterDrain = true) ∧
      (s.linkState k = downHeld k → l.cmd = [] → ∃ u, exec (.dpDown h k) s = .next u ∧ u.heldDown k = true ∧ (u.link k).cmd = [] ∧ ok u)) ∧
    (let e : Ebryn := ⟨h, 0x0803, .r, argBytes [(6, 1, g)], false⟩;
      s.accepts e → k = 16 + g →
      (s.linkActive k = true → l.replay ≠ [] → ∃ u, exec (.slDown h g) s = .next u ∧ u.heldDown k = true ∧ waits u 2 ∧
        (u.link k).holdAfterDrain = true) ∧
      (s.linkState k = downHeld k → l.cmd = [] → ∃ u, exec (.slDown h g) s = .next u ∧ u.heldDown k = true ∧ (u.link k).cmd = [] ∧ ok u)) ∧
    (let e : Ebryn := ⟨h, 0x0704, .r, argBytes [(6, 1, k), (8, 4, v)], false⟩;
      s.accepts e → k < 16 →
      (s.linkActive k = true → l.cmd = [] → ∃ u, exec (.dpUp h k v) s = .next u ∧ u.heldDown k = false ∧ (u.link k).cmd = [] ∧ ok u) ∧
      (s.linkState k = downHeld k → s.linkMayTrain k = true → s.resuming = false → s.replaying = false → s.rpState ≠ 1 → s.rpState ≠ 2 →
        ∃ u, exec (.dpUp h k v) s = .next u ∧ u.linkState k = 1 ∧ waits u 1)) ∧
    (let e : Ebryn := ⟨h, 0x0804, .r, argBytes [(6, 1, g), (8, 4, v)], false⟩;
      s.accepts e → k = 16 + g →
      (s.linkActive k = true → l.cmd = [] → ∃ u, exec (.slUp h g v) s = .next u ∧ u.heldDown k = false ∧ (u.link k).cmd = [] ∧ ok u) ∧
      (s.linkState k = downHeld k → s.linkMayTrain k = true → s.resuming = false → s.replaying = false → s.rpState ≠ 1 → s.rpState ≠ 2 →
        ∃ u, exec (.slUp h g v) s = .next u ∧ u.linkState k = 1 ∧ waits u 1)) ∧
    (let e : Ebryn := ⟨h, 0x0805, .r, argBytes [(6, 1, g), (7, 1, v)], false⟩;
      s.accepts e → g < 16 → v < 4 →
      (s.aligning g = true → ∃ u, exec (.slSlip h g v) s = .next u ∧ u.f Fld.SL_LANE_SLIPS (4 * g + v) =
        (s.f Fld.SL_LANE_SLIPS (4 * g + v) + 1) % 2 ^ Fld.SL_LANE_SLIPS.width ∧ u.f Fld.SL_LANE_ALIGNED (4 * g + v) = 0 ∧ ok u) ∧
      (s.aligning g = false → exec (.slSlip h g v) s = .next ((s.entered e).respond h.ref 5 []))) ∧
    (∀ rx us, let e : Ebryn := ⟨h, 0x0806, .r, argBytes [(6, 1, g), (7, 1, v), (8, 1, rx), (12, 4, us)], false⟩;
      s.accepts e → k = 16 + g → v < 4 → rx < 4 → ∃ u, exec (.slPower h g v rx us) s = .next u ∧ u.f Fld.SL_PWR_TX_HOLD g = v ∧
      u.f Fld.SL_PWR_RX_HOLD g = rx ∧ (u.txState k = v → (u.link k).cmd = l.cmd.filter fun c => c.1 != 4 + v)) ∧
    (let e : Ebryn := ⟨h, 0x0807, .r, argBytes [(6, 2, g), (8, 4, v)], false⟩;
      s.accepts e → g < 1023 → 0 < v → s.f Fld.CO_NODE_VALID 0 = 0 → s.commit = none → k < 16 → s.linkActive k = true → s.rawOn k = false →
      (∀ j, j < k → s.linkActive j = false) →
      ∃ u, exec (.enumerate h g v) s = .next u ∧ u.f Fld.CO_NODE_NODE 0 = g ∧ u.f Fld.CO_NODE_VALID 0 = 1 ∧
        u.enumer = some { id := g, parent := none, next := g + 1, asked := k, waiting := true, ranges := [], cmd := h.ref, ms := v, round := s.f Fld.HK_ROUND_COUNT 0 } ∧
        ∃ x, u.mail.sent.head? = some x ∧ x = (k + 1, 1, cmdBlock 0x0808 k 6 (leBytes 2 (g + 1) ++ leBytes 4 v))) ∧
    (let e : Ebryn := ⟨h, 0x0808, .i, argBytes [(6, 2, g), (8, 4, v)], false⟩;
      s.accepts e → g < 1023 → 0 < v → 1 ≤ h.port → h.port ≤ 16 →
      (s.f Fld.CO_NODE_VALID 0 = 1 → exec (.enumAssign h g v) s = .next ((s.entered e).respond h.ref 4 [])) ∧
      (s.f Fld.CO_NODE_VALID 0 = 0 → k < 16 → k ≠ h.port - 1 → s.linkActive k = true → (∀ j, j < k → j = h.port - 1 ∨ s.linkActive j = false) →
        ∃ u, exec (.enumAssign h g v) s = .next u ∧ u.f Fld.CO_NODE_NODE 0 = g ∧ u.f Fld.CO_NODE_VALID 0 = 1 ∧
        u.enumer = some { id := g, parent := some (h.port - 1), next := g + 1, asked := k, waiting := true, ranges := [], cmd := h.ref, ms := v, round := s.f Fld.HK_ROUND_COUNT 0 })) ∧
    (∀ e, s.enumer = some e → e.waiting = true → g < k → k < 16 → e.asked = g → e.parent ≠ some k → s.linkActive k = true → s.enumLeft e ≠ 0 →
      (∀ j, g < j → j < k → s.linkActive j = false) →
      (e.next ≤ v → v < 1023 → ∃ u, exec (.enumAssignResponse g 0 v) s = .next u ∧
        u.enumer = some { e with asked := k, ranges := e.ranges ++ [(g, e.next, v)], next := v + 1 }) ∧
      (e.next ≤ 1023 → ∃ u, exec (.enumAssignResponse g 8 v) s = .next u ∧ u.enumer = some { e with asked := k }))

/-- R286 to R306. `ct` is the ciphertext that home delivered, `lf` the page's cached leaf. -/
def Obligations.ProtectedRangesAreServed : Prop :=
  ∀ (s : State), s.canon → s.tables → s.safe = false → s.resuming = false → s.odie = [] →
    let out (u : State) : Nat := (mget (fun _ => []) u.net.send 545).length
    let owed (u : State) (id : Nat) : Nat := ((u.crJob id).map (·.todo.length)).getD 0
    let asked (u : State) (id n : Nat) : Prop := out u + owed u id = out s + owed s id + n
    let row (p : Packet) (s' u : State) : Prop := ∀ r d wo, p.prot = some (r, d, wo) → s'.gateShut 4 1 = false →
      let barred := p.srcNode ≠ s.node ∨ (512 ≤ p.srcEp ∧ p.srcEp < 544) ∨ s.agentOf p = .debug ∨ d = false ∨ s.rgMeets r ≤ 1 ∨ (s.rgMeets r = 3 ∧ p.type = 1)
      let lines := linesOf (wo - 4096 * (s.crr r).base) (p.len + 1)
      (barred → u.f Fld.CR_REFUSE_COUNT_COUNT 0 = min (s.f Fld.CR_REFUSE_COUNT_COUNT 0 + 1) Fld.CR_REFUSE_COUNT_COUNT.top ∧ u.crypto = s.crypto ∧
        mget (fun _ => []) u.net.send 545 = mget (fun _ => []) s.net.send 545 ++ [answer s p 4 545 2 [] 0 false]) ∧
      (¬barred → s.rgMeets r = 2 → lines ≠ [] → (s.crReq s.crypto.next).isSome = false →
        (s.crypto.jobs.all fun x => decide (x.1 < s.crypto.next) && ((x.2.map fun j => j.req != s.crypto.next).getD true)) = true →
        ∃ q, u.crReq s.crypto.next = some q ∧ q.pkt = p ∧ q.left = lines.length ∧ q.status = 0 ∧ u.mem = s.mem)
    (∀ p s', s.takeProt (fun p => p.type == 0) = some (p, s') → ∃ u, exec .protectedRead s = .next u ∧ row p s' u) ∧
    (∀ p s', s.takeProt (fun p => p.type == 1 && fullLines p) = some (p, s') → ∃ u, exec .fullLineWrite s = .next u ∧ row p s' u) ∧
    (∀ p s', s.takeProt (fun p => p.type == 1 && !fullLines p) = some (p, s') → ∃ u, exec .partialWrite s = .next u ∧ row p s' u) ∧
    (∀ p s', s.take 545 1 = some (p, s') → ∀ x, s.outReq (outKey 545 p.dstPlane p.tag) = some x → x.expired = false ∧ x.post = false ∧ x.pkt.tag = p.tag ∧
      s.posts 545 = [] → ∀ b l, s.crypto.jobs = b :: l → l = [] → ∀ j, b.2 = some j → j.phase ≠ 0 ∧ j.todo = [] →
      ∀ a rest, j.waiting = a :: rest → a.1 = p.tag ∧ (rest.all fun y => y.1 != p.tag) = true →
      let id := b.1;
      let w := a.2;
      let r := j.range;
      (p.status = 0 → w < 254 → rest ≠ [] → ∃ u, exec .homeResponse s = .next u ∧
        u.crJob id = some { j with waiting := rest, got := j.got ++ [(w, p.payload, p.poison)] } ∧ u.net.send = s.net.send ∧ u.mem = s.mem) ∧
      (p.status = 1 ∧ x.pkt.type = 0 ∧ (s.postTag 545).isSome = true → ∃ u, exec .homeResponse s = .next u ∧ asked u id 1 ∧
        ((u.crJob id).map fun j' => (j'.waiting.length, j'.got)) = some (j.waiting.length, j.got)) ∧
      (p.status = 0 ∧ w = 255 ∧ rest = [] ∧ j.kind = 6 ∧ j.phase = 4 ∧ r < 32 → ∃ u, exec .homeResponse s = .next u ∧
        u.f Fld.CR_RANGE_STATE_PROGRESS r = min (j.pos + 1) (2 ^ (s.crr r).lp) % 2 ^ Fld.CR_RANGE_STATE_PROGRESS.width ∧
        (j.pos + 1 = initParts (s.crr r).lp → ((u.crJob id).map (·.phase)) = some 5)) ∧
      (p.status = 0 ∧ w = 255 ∧ rest = [] ∧ j.kind = 4 ∧ j.phase = 4 ∧ r < 32 ∧ (s.crr r).disabling = false → ∃ u, exec .homeResponse s = .next u ∧
        u.f Fld.CR_RANGE_STATE_PROGRESS r = (j.line / 64 + 1) % 2 ^ Fld.CR_RANGE_STATE_PROGRESS.width ∧
        (j.line / 64 + 1 < 2 ^ (s.crr r).lp → u.rgState r = s.rgState r ∧ ((u.jobsOf r).map fun x => (x.2.kind, x.2.line)) = [(4, 64 * (j.line / 64 + 1))]) ∧
        (2 ^ (s.crr r).lp ≤ j.line / 64 + 1 → u.rgState r = 2 ∧ (u.crr r).oldKd = [] ∧ u.f Fld.CR_RANGE_STATE_KEY_ROLL_REQUIRED r = 0 ∧
          (u.crr r).cmd = none ∧ u.jobsOf r = [])) ∧
      (∀ q, s.crReq j.req = some q → p.status = 0 ∧ w = 1 ∧ rest = [] ∧ j.kind = 0 ∧ j.phase = 1 ∧ j.status = 0 ∧ s.rgMeets r = 2 ∧
        s.missing j = [] ∧ q.left = 1 ∧ q.status = 0 ∧ q.pkt.type = 0 →
        let c := s.crr r
        let old := s.oldTree r (j.line / 64)
        let lf := s.leaf r (j.line / 64)
        let ct := j.data 0
        let good := p.poison = 0 ∧ j.bad 0 = false ∧ j.got.all (fun g => g.1 != 1) = true ∧
          lineTag (c.ktOf old) r j.line (leafMajor lf) (leafMinor lf (j.line % 64)) ct = p.payload;
        (good → q.data = [] → q.poison = 0 → ∃ u, exec .homeResponse s = .next u ∧ u.crReq j.req = none ∧ u.crJob id = none ∧
          mget (fun _ => []) u.net.send 545 = mget (fun _ => []) s.net.send 545 ++ [answer s q.pkt 3 545 0
            (splice (List.replicate (q.pkt.len + 1) 0) j.pos (slice (lineCipher (c.kdOf old) r j.line (leafMajor lf) (leafMinor lf (j.line % 64)) ct) j.off j.bytes.length)) 0 false] ∧
          u.f Fld.CR_TAG_FAIL_COUNT_COUNT 0 = s.f Fld.CR_TAG_FAIL_COUNT_COUNT 0) ∧
        (p.poison ≠ 0 → j.got.all (fun g => g.1 != 1) = true → ∃ u, exec .homeResponse s = .next u ∧ u.crReq j.req = none ∧ out u = out s + 1 ∧
          u.f Fld.CR_TAG_FAIL_COUNT_COUNT 0 = min (s.f Fld.CR_TAG_FAIL_COUNT_COUNT 0 + 1) Fld.CR_TAG_FAIL_COUNT_COUNT.top ∧
          u.f Fld.CR_STATUS_TAG_FAIL 0 = 1 ∧ u.f Fld.CR_FAIL_INFO_RANGE 0 = r % 2 ^ Fld.CR_FAIL_INFO_RANGE.width ∧ u.f Fld.CR_FAIL_INDEX_INDEX 0 = j.line % 2 ^ Fld.CR_FAIL_INDEX_INDEX.width))) ∧
    (∀ id, ∀ j, s.crJob id = some j → j.phase = 2 → j.range < 32 →
      ((s.verifyNodes j).1 = none → (s.crr j.range).cmd = none → (s.crr j.range).disabling = false → ∃ u, exec (.nodeVerification id) s = .next u ∧
        u.rgState j.range = 5 ∧ u.f Fld.CR_STATUS_RANGE_FAILED 0 = 1 ∧ u.f Fld.CR_FAIL_INFO_VALID 0 = 1 ∧ u.jobsOf j.range = []) ∧
      (∀ v, (s.verifyNodes j).1 = some v → v.missing j = [] → j.kind = 4 ∨ (j.kind = 3 ∧ j.has 64 = true) →
        ∃ u, exec (.nodeVerification id) s = .next u ∧ ((u.crJob id).map (·.phase)) = some 3)) ∧
    (∀ k, ∀ e, s.cached k = some e → s.pinned.contains k = false → (s.crypto.cache.all fun x => !(keyLevel x.1 + 1 == keyLevel k && parentKey x.1 == k)) = true →
      let sent (u : State) (n : Nat) : Prop := out u + (u.posts 545).length = out s + (s.posts 545).length + n
      let up := s.parentCtr (keyRange k) (keyOld k) (keyLevel k) (keyIdx k)
      (e.dirty = false → ∃ u, exec (.writeBack k) s = .next u ∧ u.cached k = none ∧ u.net = s.net ∧
        u.crypto.cache = s.crypto.cache.filter fun x => x.1 != k) ∧
      (e.dirty = true → up.isSome = true → ∃ u, exec (.writeBack k) s = .next u ∧ u.cached k = none ∧ sent u (if keyLevel k = 0 then 2 else 1)) ∧
      (e.dirty = true → up = none → ∃ u, exec (.writeBack k) s = .next u ∧ u.cached k = some e ∧ u.net = s.net)) ∧
    (∀ r, r < 32 →
      (∀ id j, s.pageJob r 3 = some (id, j) → s.crJob id = some j → s.missing j = [] →
        let lf := s.leaf r (j.line / 64);
        leafMajor lf + 1 < 2 ^ 56 - 1 → ∃ u, exec (.pageReEncryption r) s = .next u ∧ u.leaf r (j.line / 64) = leBytes 64 (leafMajor lf + 1) ∧ asked u id 18 ∧
          u.f Fld.CR_REENC_COUNT_COUNT 0 = (s.f Fld.CR_REENC_COUNT_COUNT 0 + 1) % 2 ^ Fld.CR_REENC_COUNT_COUNT.width ∧ ((u.crJob id).map (·.phase)) = some 4) ∧
      (∀ id j, (s.jobsOf r).find? (fun x => x.2.kind == 6 && x.2.phase == 5) = some (id, j) → (s.crr r).disabling = false →
        ∃ u, exec (.rangeInitialisation r) s = .next u ∧ u.rgState r = 2 ∧ u.crJob id = none ∧
        (u.crr r).cmd = none ∧ (u.crr r).kd = (s.crr r).kd) ∧
      (∀ id j, s.pageJob r 4 = some (id, j) → s.crJob id = some j → s.missing j = [] →
        ((pathKeys r false (s.crr r).lp (j.line / 64)).all fun k => keyLevel k == 0 || (s.cached k).isSome) = true →
        ∃ u, exec (.rekeyPage r) s = .next u ∧ (u.crr r).page = j.line / 64 + 1 ∧ u.rgState r = s.rgState r ∧ asked u id 20 ∧
          ((u.crJob id).map (·.phase)) = some 4) ∧
      ((s.crr r).disabling = true → s.jobsOf r = [] → s.protPkts r = false → ∃ u, exec (.rangeDisable r) s = .next u ∧ u.rgState r = s.rgState r ∧ u.crr r = {} ∧
        u.f Fld.CR_RANGE_STATE_KEY_ROLL_REQUIRED r = 0 ∧ (u.crypto.cache.all fun x => keyRange x.1 != r) = true) ∧
      (∀ h, let e : Ebryn := ⟨h, 0x0902, .r, argBytes [(6, 1, r)], false⟩;
        s.accepts e →
        (s.rgState r = 2 ∨ s.rgState r = 3 → s.f Fld.CR_RANGE_CTRL_ENABLE r = 1 → (s.crr r).disabling = false → s.jobsOf r = [] →
          ∃ u, exec (.crRangeRekey h r) s = .next u ∧ u.rgState r = 4 ∧
          u.f Fld.CR_RANGE_STATE_PROGRESS r = 0 ∧ (u.crr r).cmd = some h.ref ∧ (u.crr r).page = 0) ∧
        (s.rgState r = 1 → exec (.crRangeRekey h r) s = .next ((s.entered e).respond h.ref 4 []))) ∧
      (∀ h, let e : Ebryn := ⟨h, 0x0903, .r, argBytes [(6, 1, r)], false⟩;
        s.accepts e →
        (s.f Fld.CR_RANGE_CTRL_ENABLE r = 1 → s.rgState r ≠ 0 → ∃ u, exec (.crRangeReset h r) s = .next u ∧ u.rgState r = 1 ∧
          (u.crr r).root = List.replicate 8 0 ∧ (u.crr r).cmd = some h.ref ∧ u.f Fld.CR_RANGE_STATE_PROGRESS r = 0 ∧
          (u.jobsOf r).map (·.2.kind) = [6] ∧ (u.crypto.cache.all fun x => keyRange x.1 != r) = true) ∧
        (s.rgState r = 0 → exec (.crRangeReset h r) s = .next ((s.entered e).respond h.ref 4 []))))

/-- R308 to R314 and R396. -/
def Obligations.KeyExchangesInstallKeys : Prop :=
  ∀ (s : State) (h : CmdHdr) (k : Nat), s.canon → s.tables → k < 32 →
    let e := s.enc k
    let ok (u : State) (st : Nat) : Prop := h.port = 17 → (mget (fun _ => []) u.net.send 546).length =
      (mget (fun _ => []) s.net.send 546).length + st
    let started (u : State) (c : Option CmdRef) : Prop := (u.enc k).phase = 1 ∧ (u.enc k).cmd = c ∧ u.f Fld.CR_LINK_STATUS_KEX_BUSY k = 1 ∧
      (u.enc k).txKey = e.txKey ∧ (u.enc k).rxKey = e.rxKey ∧ ((u.enc k).helloI.take 2) = [1, BitVec.ofNat 8 (s.kexCurve k)] ∧
      (mget (fun _ => []) u.net.send 546).length = (mget (fun _ => []) s.net.send 546).length + 1
    let cleared (u : State) : Prop := (u.enc k).phase = 0 ∧ (u.enc k).rxMsg = [] ∧ u.f Fld.CR_LINK_STATUS_KEX_BUSY k = 0 ∧ (u.enc k).cmd = none
    (let c : Ebryn := ⟨h, 0x0904, .r, argBytes [(6, 1, k)], false⟩;
      s.accepts c →
      (s.kexReady k = true → e.phase = 0 → ∃ u, exec (.linkKex h k) s = .next u ∧ started u (some h.ref) ∧ (u.inprogOf h.ref).isSome = true) ∧
      (s.kexReady k = true → e.phase ≠ 0 → exec (.linkKex h k) s = .next ((s.entered c).respond h.ref 2 [])) ∧
      (s.kexReady k = false → exec (.linkKex h k) s = .next ((s.entered c).respond h.ref 5 []))) ∧
    (s.f Fld.CR_LINK_CFG_AUTO_KEX k = 1 → e.txKey = none → s.f Fld.CO_NODE_VALID 0 = 1 →
      s.linkF Fld.DP_PEER_NODE_VALID Fld.SL_PEER_NODE_VALID k = 1 →
      s.fuses.uid < s.linkF Fld.DP_PEER_UID_LO_UID Fld.SL_PEER_UID_LO_UID k + 2 ^ 32 * s.linkF Fld.DP_PEER_UID_HI_UID Fld.SL_PEER_UID_HI_UID k →
      s.linkActive k = true → s.peerEncCap k = true → s.hasChain = true → e.phase = 0 →
      ∃ u, exec (.autoKex k) s = .next u ∧ started u none) ∧
    (e.phase ≠ 0 → ∃ u, exec (.kexTimeout k) s = .next u ∧ cleared u ∧ (e.phase ≠ 3 → (u.enc k).rxKey = e.rxKey ∧ (u.enc k).txKey = e.txKey) ∧
      (e.phase = 3 → (u.enc k).rxKey = e.rxHeld ∧ (u.enc k).txKey = e.txKey)) ∧
    (e.rxMsg ≠ [] → ∃ u, exec (.kexFragmentGap k) s = .next u ∧ cleared u ∧ (u.enc k).txKey = e.txKey ∧
      (e.phase ≠ 3 → (u.enc k).rxKey = e.rxKey)) ∧
    (∀ msg far total off b, let c : Ebryn := ⟨h, 0x0905, .r, argBytes [(6, 1, msg), (7, 1, far), (8, 2, total), (10, 2, off)] ++ b, false⟩;
      s.accepts c → 1 ≤ msg → msg ≤ 3 → far < 32 → off % 52 = 0 → s.kexLink h.node = some k → 0 < total → total ≤ 8192 → off ≤ total →
      b.length = min 52 (total - off) →
      let inOrder := (off = 0 ∧ e.rxMsg = []) ∨ (e.rxMsgKind = msg ∧ e.rxTotal = total ∧ e.rxMsg.length = off);
      let due := (msg = 1 ∧ e.phase = 0) ∨ (msg = 2 ∧ e.phase = 1) ∨ (msg = 3 ∧ e.phase = 2);
      (inOrder → due → off + b.length < total → ∃ u, exec (.kexMsg h msg far total off b) s = .next u ∧ (u.enc k).rxMsg = e.rxMsg ++ b ∧
        (u.enc k).rxTotal = total ∧ (u.enc k).phase = e.phase ∧ u.f Fld.CR_LINK_STATUS_KEX_BUSY k = 1 ∧ ok u 1) ∧
      (¬inOrder → e.cmd = none → ∃ u, exec (.kexMsg h msg far total off b) s = .next u ∧ cleared u ∧ ok u 1 ∧ (u.enc k).txKey = e.txKey) ∧
      (inOrder → ¬due → exec (.kexMsg h msg far total off b) s = .next ((s.entered c).respond h.ref 4 [])) ∧
      (inOrder → msg = 3 → e.phase = 2 → off + b.length = total → ∀ i, parseHello e.helloI = some i →
        Config.ecdsaVerify (s.kexCurve k) (Config.chainKey (s.kexCurve k) i.chain) (hashOf (s.kexCurve k) (e.helloI ++ e.helloR)) (e.rxMsg ++ b) = true →
        ∃ u, exec (.kexMsg h msg far total off b) s = .next u ∧ cleared u ∧
        (u.enc k).rxKey = some (linkKey (s.kexCurve k) e.eph i.pub i.nonce (slice e.helloR 2 32) true) ∧
        (u.enc k).txKey = some (linkKey (s.kexCurve k) e.eph i.pub i.nonce (slice e.helloR 2 32) false) ∧
        (u.enc k).txE = 0 ∧ (u.enc k).rxE = 0 ∧ (u.enc k).rxOld = e.rxKey ∧ u.f Fld.CR_LINK_STATUS_TX_ENC k = 1 ∧ u.f Fld.CR_LINK_STATUS_RX_ENC k = 1))

/-- R321 to R329. Events whose enabling condition is false leave the state as it is (the model's choice, log entry 36). -/
def Obligations.ClockLoopFollowsItsRules : Prop :=
  ∀ (s : State), s.canon → s.tables →
    let windows := s.f Fld.CK_REF_JUDGE_WINDOWS 0
    let moved (x : State) : Bool := x.f Fld.CK_STATUS_HK_SRC 0 == 1 && x.f Fld.CK_STATUS_MP_SRC 0 == 1
    let lost (u : State) : Prop := u.f Fld.CK_STATUS_REF_GOOD 0 = 0 ∧ u.f Fld.CK_REF_JUDGE_WINDOWS 0 = 0 ∧
      u.f Fld.CK_REF_LOST_COUNT 0 = min (s.f Fld.CK_REF_LOST_COUNT 0 + 1) Fld.CK_REF_LOST_COUNT.top ∧
      (s.loopRuns = true → s.f Fld.CK_STATUS_RC_FAIL 0 = 0 → u.f Fld.CK_STATUS_HEARTH 0 = 3 ∧ u.f Fld.CK_REF_LOST_ACTIVE 0 = 1 ∧
        ((∀ k, (s.link k).cmd = []) → u.mem = s.mem)) ∧
      (s.loopRuns = true → s.f Fld.CK_STATUS_RC_FAIL 0 = 1 → u.f Fld.CK_STATUS_HEARTH 0 = 4 ∧ (s.pastCommitPoint = false → u.safe = true))
    (s.boot.por = false → s.f Fld.CK_STATUS_RC_FAIL 0 = 0 → s.clk.comp = true →
      (∀ n, 980 ≤ n → n ≤ 1020 → ∃ u, exec (.judgementWindow n) s = .next u ∧ u.f Fld.CK_REF_JUDGE_LAST 0 = n ∧
        u.f Fld.CK_REF_JUDGE_WINDOWS 0 = min 16 (windows + 1) ∧
        u.f Fld.CK_STATUS_REF_GOOD 0 = (if 15 ≤ windows then 1 else s.f Fld.CK_STATUS_REF_GOOD 0)) ∧
      (∀ n, n < 980 ∨ 1020 < n → ∃ u, exec (.judgementWindow n) s = .next u ∧ u.f Fld.CK_REF_JUDGE_LAST 0 = min n 2047 ∧
        u.f Fld.CK_REF_JUDGE_WINDOWS 0 = 0 ∧ u.f Fld.CK_STATUS_REF_GOOD 0 = 0 ∧
        (s.f Fld.CK_STATUS_REF_GOOD 0 = 1 → s.boot.step ≠ 5 → lost u))) ∧
    (s.f Fld.CK_STATUS_REF_GOOD 0 = 1 → ∃ u, exec .refclkLost s = .next u ∧ lost u) ∧
    (s.f Fld.CK_STATUS_REF_GOOD 0 = 0 → exec .refclkLost s = .next s) ∧
    (s.loopRuns = true → ∃ u, exec .hearthLoopStop s = .next u ∧ u.f Fld.CK_STATUS_HEARTH 0 = 4 ∧ u.f Fld.CK_REF_LOST_ACTIVE 0 = 0 ∧
      (s.pastCommitPoint = false → u.safe = true ∧
        (s.safe = false → u.f Fld.RP_SAFE_CAUSE_CAUSE 0 = 8 ∧ u.f Fld.RP_SAFE_CAUSE_VALID 0 = 1 ∧ u.boot.faultN = true ∧ u.boot.safeN = true))) ∧
    (s.loopRuns = false → exec .hearthLoopStop s = .next s) ∧
    (s.mayLock = true → ∃ u, exec .hearthLoopLock s = .next u ∧ u.f Fld.CK_STATUS_HEARTH 0 = 2 ∧ u.f Fld.CK_REF_LOST_ACTIVE 0 = 0 ∧
      (s.boot.step = 5 → s.safe = false → (moved s = true → u.boot.step = 6 ∧ u.f Fld.HK_STATUS_STEP 0 = 6 ∧ u.f Fld.BT_STATUS_ST_RUNNING 0 = 1) ∧
        (moved s = false → u.boot.step = 5)) ∧
      (s.boot.step ≠ 5 → s.boot.step ≠ 4 → s.hearth ≠ 3 → u.regs = ((s.setF Fld.CK_STATUS_HEARTH 0 2).setF Fld.CK_REF_LOST_ACTIVE 0 0).regs ∧ u.mem = s.mem)) ∧
    (s.mayLock = false → exec .hearthLoopLock s = .next s) ∧
    (s.hearth = 5 → s.mayLock = true → ∃ u, exec (.relockAttempt true) s = .next u ∧ u.f Fld.CK_STATUS_HEARTH 0 = 2 ∧
      (s.boot.step = 5 → s.safe = false → (moved s = true → u.boot.step = 6 ∧ u.f Fld.HK_STATUS_STEP 0 = 6 ∧ u.f Fld.BT_STATUS_ST_RUNNING 0 = 1) ∧
        (moved s = false → u.boot.step = 5))) ∧
    (∀ locked, s.hearth ≠ 5 ∨ s.mayLock = false ∨ locked = false → exec (.relockAttempt locked) s = .next s) ∧
    (s.mayLock = true → s.hearth ≠ 3 → ∃ u, exec .lockFail s = .next u ∧ u.f Fld.CK_STATUS_HEARTH 0 = 5 ∧
      u.boot.faultN = (s.boot.faultN || s.boot.step == 5) ∧ (∀ r i, r ≠ .CK_STATUS → u.rd r i = s.rd r i) ∧ u.mem = s.mem) ∧
    (s.mayLock = false ∨ s.hearth = 3 → exec .lockFail s = .next s) ∧
    (s.loopRuns = true → ∃ u, exec .rcFail s = .next u ∧ u.f Fld.CK_STATUS_RC_FAIL 0 = 1 ∧ u.f Fld.CK_STATUS_HEARTH 0 = s.f Fld.CK_STATUS_HEARTH 0 ∧
      (∀ r i, r ≠ .CK_STATUS → u.rd r i = s.rd r i) ∧ u.mem = s.mem) ∧
    (s.loopRuns = false → exec .rcFail s = .next s) ∧
    (∀ toLoop forced, toLoop = s.loopRuns → forced = (!toLoop || s.f Fld.CK_STATUS_RC_FAIL 0 == 1) →
      (s.f Fld.CK_STATUS_HK_SRC 0 ≠ toLoop.toNat → ∃ u, exec (.clockSwitch 0 toLoop forced) s = .next u ∧ u.f Fld.CK_STATUS_HK_SRC 0 = toLoop.toNat ∧
        u.f Fld.CK_STATUS_MP_SRC 0 = s.f Fld.CK_STATUS_MP_SRC 0 ∧ u.mem = s.mem ∧
        (s.boot.step = 5 → s.loopRuns = true → s.shutdown = false → s.safe = false → moved u = true → u.boot.step = 6) ∧
        u.f Fld.CK_SW_FORCED_HK 0 = (if forced then 1 else s.f Fld.CK_SW_FORCED_HK 0) ∧
        u.f Fld.CK_SW_FORCED_COUNT 0 = (if forced then min (s.f Fld.CK_SW_FORCED_COUNT 0 + 1) Fld.CK_SW_FORCED_COUNT.top else s.f Fld.CK_SW_FORCED_COUNT 0)) ∧
      (s.f Fld.CK_STATUS_MP_SRC 0 ≠ toLoop.toNat → ∃ u, exec (.clockSwitch 1 toLoop forced) s = .next u ∧ u.f Fld.CK_STATUS_MP_SRC 0 = toLoop.toNat ∧
        u.f Fld.CK_STATUS_HK_SRC 0 = s.f Fld.CK_STATUS_HK_SRC 0 ∧ u.mem = s.mem ∧
        (s.boot.step = 5 → s.loopRuns = true → s.shutdown = false → s.safe = false → moved u = true → u.boot.step = 6) ∧
        u.f Fld.CK_SW_FORCED_MP 0 = (if forced then 1 else s.f Fld.CK_SW_FORCED_MP 0) ∧
        u.f Fld.CK_SW_FORCED_COUNT 0 = (if forced then min (s.f Fld.CK_SW_FORCED_COUNT 0 + 1) Fld.CK_SW_FORCED_COUNT.top else s.f Fld.CK_SW_FORCED_COUNT 0))) ∧
    (∀ point toLoop forced, 2 ≤ point ∨ toLoop ≠ s.loopRuns ∨ forced ≠ (!toLoop || s.f Fld.CK_STATUS_RC_FAIL 0 == 1) → exec (.clockSwitch point toLoop forced) s = .next s.startClocks)

/-- R330 to R332 and Table 14-2. -/
def Obligations.UnitGatesOpenAndClose : Prop :=
  ∀ (s : State), s.canon → s.tables →
    let count (kind : Nat) : Nat := if kind = 0 then 128 else if kind = 4 then 3 else 16
    (∀ kind idx, kind ≤ 4 → idx < count kind →
      let bar := s.safe = true ∨ s.resuming = true;
      (s.gateReq kind idx = false → ¬bar → ∃ u, exec (.gateOpen kind idx) s = .next u ∧ u.gateReq kind idx = true ∧
        u.gateOpen kind idx = s.gateOpen kind idx ∧ (∀ j, j < count kind → j ≠ idx → u.gateReq kind j = s.gateReq kind j) ∧
        u.gating kind idx = (if s.gating kind idx = 0 ∧ s.gateOpen kind idx = false then 1 else s.gating kind idx) ∧ u.mem = s.mem ∧
        u.f Fld.CK_GATE_EVENT_REFUSED 0 = s.f Fld.CK_GATE_EVENT_REFUSED 0) ∧
      (s.gateReq kind idx = false → bar → ∃ u, exec (.gateOpen kind idx) s = .next u ∧ u.f Fld.CK_GATE_EVENT_REFUSED 0 = 1 ∧
        (∀ r i, r ≠ .CK_GATE_EVENT → u.rd r i = s.rd r i) ∧ u.clk = s.clk ∧ u.mem = s.mem) ∧
      (s.gateReq kind idx = true → exec (.gateOpen kind idx) s = .next s) ∧
      (s.gateReq kind idx = true → ¬bar → s.closeRefused kind idx = false → ∃ u, exec (.gateClose kind idx) s = .next u ∧ u.gateReq kind idx = false ∧
        u.gateOpen kind idx = s.gateOpen kind idx ∧ (∀ j, j < count kind → j ≠ idx → u.gateReq kind j = s.gateReq kind j) ∧
        u.gating kind idx = (if s.gating kind idx = 0 ∧ s.gateOpen kind idx = true then 2 else s.gating kind idx) ∧
        (kind = 0 → s.gating kind idx = 0 ∧ s.gateOpen kind idx = true → (u.room idx).ld = none)) ∧
      (s.gateReq kind idx = true → bar ∨ s.closeRefused kind idx = true → ∃ u, exec (.gateClose kind idx) s = .next u ∧
        u.f Fld.CK_GATE_EVENT_REFUSED 0 = 1 ∧ (∀ r i, r ≠ .CK_GATE_EVENT → u.rd r i = s.rd r i) ∧ u.clk = s.clk ∧ u.mem = s.mem) ∧
      (s.gateReq kind idx = false → exec (.gateClose kind idx) s = .next s) ∧
      (s.gating kind idx = 1 → ∃ u, exec (.gateOpenComplete kind idx) s = .next u ∧ u.gateOpen kind idx = true ∧
        u.gating kind idx = (if s.gateReq kind idx then 0 else 2) ∧ u.gateReq kind idx = s.gateReq kind idx ∧
        (∀ j, j < count kind → j ≠ idx → u.gateOpen kind j = s.gateOpen kind j) ∧
        (kind = 0 → s.roomState idx = 4 → u.roomState idx = 0 ∧ u.f Fld.RM_PLANE_NONE idx = 1 ∧ ∀ p, p < 4 → u.f (planeFld p) idx = 0) ∧
        (kind = 1 → ∀ j, j < 16 → s.engState (16 * idx + j) = 0 →
          u.engState (16 * idx + j) = if s.f Fld.SC_STATUS_ENG_SHED 0 = 1 then 5 else 1)) ∧
      (s.gating kind idx ≠ 1 → exec (.gateOpenComplete kind idx) s = .next s) ∧
      (s.gating kind idx = 2 → ∃ u, exec (.gateDrainEnd kind idx) s = .next u ∧ u.gateOpen kind idx = false ∧
        u.gating kind idx = (if s.gateReq kind idx then 1 else 0) ∧ u.gateReq kind idx = s.gateReq kind idx ∧
        (∀ j, j < count kind → j ≠ idx → u.gateOpen kind j = s.gateOpen kind j) ∧
        (kind = 0 → u.roomState idx = (if s.roomState idx = 5 then 5 else 4) ∧ u.f Fld.RM_PLANE_NONE idx = 1 ∧ ∀ p, p < 4 → u.f (planeFld p) idx = 0) ∧
        (kind = 1 → ∀ j, j < 16 → u.engState (16 * idx + j) = (if s.engState (16 * idx + j) = 6 then 6 else 0))) ∧
      (s.gating kind idx ≠ 2 → exec (.gateDrainEnd kind idx) s = .next s)) ∧
    (∀ h kind idx opens, let e : Ebryn := ⟨h, 0x0111, .r, argBytes [(6, 1, kind), (7, 1, idx), (8, 1, if opens then 1 else 0)], false⟩;
      s.accepts e →
      (5 ≤ kind ∨ count kind ≤ idx → exec (.unitGate h kind idx opens) s = .next ((s.entered e).respond h.ref 3 [])) ∧
      (kind < 5 → idx < count kind →
        (s.gateReq kind idx = opens → s.gateOpen kind idx = opens → s.gating kind idx = 0 →
          exec (.unitGate h kind idx opens) s = .next ((s.entered e).respond h.ref 0 [])) ∧
        (s.gateReq kind idx ≠ opens → s.safe = true ∨ (opens = false ∧ s.closeRefused kind idx = true) →
          exec (.unitGate h kind idx opens) s = .next (((s.entered e).setF Fld.CK_GATE_EVENT_REFUSED 0 1).respond h.ref 4 [])) ∧
        (s.gateReq kind idx ≠ opens → s.safe = false → s.gateOpen kind idx ≠ opens → (opens = false → s.closeRefused kind idx = false) →
          ∃ u, exec (.unitGate h kind idx opens) s = .next u ∧ u.gateReq kind idx = opens ∧ u.gating kind idx ≠ 0 ∧
          u.clk.gateCmd = s.clk.gateCmd ++ [(2 * gateKey kind idx + opens.toNat, h.ref)] ∧ (u.inprogOf h.ref).isSome = true)))

/-- R336 to R349. Events whose enabling condition is false leave the state as it is (log entry 36). -/
def Obligations.PowerAndTemperatureFollowTheirRules : Prop :=
  ∀ (s : State), s.canon → s.tables →
    (s.boot.por = false → let was := s.f Fld.PW_SHED_STATUS_LEVEL 0;
      (∀ step, ∀ rail : RailSag, was < step → step = s.shedDepth rail.sag → 2 ≤ rail.rail → rail.rail ≤ 9 → ∃ u, exec (.sheddingStepEntry step rail) s = .next u ∧
        u.f Fld.PW_SHED_STATUS_LEVEL 0 = step ∧ u.f Fld.PW_SHED_STATUS_WORST_RAIL 0 = rail.rail ∧ (300 ≤ rail.sag → bit (u.f Fld.PW_STATUS_PGOOD 0) rail.rail = 0) ∧
        u.f Fld.PW_SHED_STATUS_ENTRIES 0 = min (s.f Fld.PW_SHED_STATUS_ENTRIES 0 + (step - was)) Fld.PW_SHED_STATUS_ENTRIES.top ∧
        (was < 1 → u.f Fld.EC_STATUS_MOW_SHED 0 = 1) ∧
        (was < 2 → 2 ≤ step → u.f Fld.SC_STATUS_ENG_SHED 0 = 1 ∧ (step < 6 → ∀ e, e < 256 → u.engState e = if s.engState e = 1 then 5 else s.engState e)) ∧
        (was < 3 → 3 ≤ step → step < 6 → ∀ k, k < 64 → s.roomState (2 * k + 1) < 4 → u.f Fld.RM_STATUS_PARK_SHED (2 * k + 1) = 1 ∧ (u.room (2 * k + 1)).toStop = 2) ∧
        (was < 5 → 5 ≤ step → ∀ b, b < 512 → (s.owner b).kind ≠ 2 → (s.owner b).kind ≠ 3 → u.retained b = true) ∧
        (step = 6 → s.pastCommitPoint = false → u.safe = true)) ∧
      (∀ step, ∀ rail : RailSag, rail.rail < 2 ∨ 9 < rail.rail → exec (.sheddingStepEntry step rail) s = .next s) ∧
      (∀ step, ∀ rail : RailSag, 2 ≤ rail.rail → rail.rail ≤ 9 → step ≤ was ∨ step ≠ s.shedDepth rail.sag →
        exec (.sheddingStepEntry step rail) s = .next (if 300 ≤ rail.sag then s.setPgood rail.rail false else s)) ∧
      (∀ h : ShedHold, h.step = was → 1 ≤ was → was ≤ 5 ∨ (was = 6 ∧ s.safe = true) → s.shedMayLeave h = true →
        ∃ u, exec (.sheddingStepExit h) s = .next u ∧ u.f Fld.PW_SHED_STATUS_LEVEL 0 = was - 1 ∧
        (h.sag < 300 → 100 ≤ h.us → ∀ r, 2 ≤ r → r ≤ 9 → bit (u.f Fld.PW_STATUS_PGOOD 0) r = 1) ∧
        (was = 1 → u.f Fld.EC_STATUS_MOW_SHED 0 = 0) ∧
        (was = 2 → u.f Fld.SC_STATUS_ENG_SHED 0 = 0 ∧ ∀ e, e < 256 → u.engState e = if s.engState e = 5 ∧ s.safe = false then 1 else s.engState e) ∧
        (was = 3 → ∀ k, k < 64 → u.f Fld.RM_STATUS_PARK_SHED (2 * k + 1) = 0) ∧
        (was = 5 → ∀ d, d < 16 → (u.link d).l1Shed = false)) ∧
      (∀ h : ShedHold, h.step ≠ was ∨ h.step = 0 ∨ (h.step = 6 ∧ s.safe = false) ∨ s.shedMayLeave h = false → 300 ≤ h.sag ∨ h.us < 100 →
        exec (.sheddingStepExit h) s = .next s) ∧
      (∀ rail, ∃ u, exec (.railStateLost rail) s = .next u ∧
        u.f Fld.PW_STATUS_FAB_LOST 0 = (if rail = 4 then 1 else s.f Fld.PW_STATUS_FAB_LOST 0) ∧
        u.f Fld.PW_STATUS_LND_LOST 0 = (if rail = 5 then 1 else s.f Fld.PW_STATUS_LND_LOST 0) ∧
        u.f Fld.PW_STATUS_LOFT_LOST 0 = (if rail = 6 then 1 else s.f Fld.PW_STATUS_LOFT_LOST 0) ∧
        (4 ≤ rail → rail ≤ 6 → bit (u.f Fld.PW_STATUS_PGOOD 0) rail = 0) ∧ (∀ r i, r ≠ .PW_STATUS → u.rd r i = s.rd r i) ∧ u.mem = s.mem)) ∧
    (s.boot.por = false → s.boot.resetLow = false → let c := s.pow.adcCh;
      (c < 64 → ∀ r : AdcReading, let t := tempOf (if 44 ≤ c ∧ c < 52 ∧ s.f Fld.TH_XT_CFG_MODE (c - 44) = 2 then Config.thermistor (s.f Fld.TH_XT_CFG_BETA (c - 44)) r.value % 65536 else r.value);
        ∃ u, exec (.adcConversion r) s = .next u ∧ u.pow.adcCh = (c + 1) % 64 ∧ (c = 63 → u.pow.roundDue = true) ∧
        (44 ≤ c → c < 52 → s.f Fld.TH_XT_CFG_MODE (c - 44) = 0 → u.f Fld.HK_CH_FAULT c = 1 ∧ u.f Fld.HK_CH_VALUE c = s.f Fld.HK_CH_VALUE c) ∧
        (c < 44 ∨ 52 ≤ c ∨ s.f Fld.TH_XT_CFG_MODE (c - 44) ≠ 0 → u.f Fld.HK_CH_VALID c = 1 ∧ tempOf (u.f Fld.HK_CH_VALUE c) = t) ∧
        (c < 44 → u.f Fld.HK_CH_FAULT c = (if r.fault ∨ tempOf r.value < -640 ∨ 2400 < tempOf r.value then 1 else 0) ∧
          (u.f Fld.HK_CH_FAULT c = 1 → u.f Fld.TH_STATUS_DIODE_FAULT 0 = 1)) ∧
        (s.shutdown = false →
          (c < 44 → u.f Fld.HK_CH_FAULT c = 0 → 1840 ≤ tempOf r.value → u.shutdown = true ∧ u.f Fld.TH_STATUS_SHUT_CAUSE 0 = 1 ∧ u.f Fld.TH_STATUS_SHUT_CH 0 = c ∧
            u.loopRuns = false ∧ u.boot.thermReqN = true ∧ (s.pastCommitPoint = false → u.safe = true)) ∧
          (44 ≤ c → c < 52 → u.f Fld.HK_CH_FAULT c = 0 → s.f Fld.TH_XT_CFG_MODE (c - 44) ≠ 0 → s.f Fld.TH_XT_CFG_OUTLET_SHDN (c - 44) = 1 → 1200 < t →
            u.shutdown = true ∧ u.f Fld.TH_STATUS_SHUT_CAUSE 0 = 2 ∧ u.f Fld.TH_STATUS_SHUT_CH 0 = c) ∧
          (c < 44 → tempOf r.value < 1840 → u.shutdown = false))) ∧
      (s.pow.roundDue = false → exec .slowRoundEnd s = .next s) ∧
      (s.pow.roundDue = true → ∃ u, exec .slowRoundEnd s = .next u ∧ u.pow.roundDue = false ∧ u.f Fld.HK_ROUND_COUNT 0 = (s.f Fld.HK_ROUND_COUNT 0 + 1) % 2 ^ Fld.HK_ROUND_COUNT.width ∧
        (∀ c, c < 44 → s.chValid c = true → s.pow.testOff = none → s.chTemp c ≤ tempOf (u.f Fld.TH_TJ_TJ 0) ∧ s.chValid (u.f Fld.TH_TJ_HOT_CH 0) = true) ∧
        (s.replaying = false →
          let t := (s.incW Fld.HK_ROUND_COUNT 0).findTj
          let tj := tempOf (u.f Fld.TH_TJ_TJ 0)
          let reqC : Int := 16 * (s.f Fld.TH_CFG_REQ_C 0 : Nat)
          let lo : Int := reqC - 16 * (s.f Fld.TH_CFG_HYST 0 : Nat)
          let lvl := s.f Fld.TH_STATUS_LEVEL 0;
          (s.f Fld.TH_STATUS_REQ 0 = 0 → u.f Fld.TH_STATUS_REQ 0 = (if reqC ≤ tj then 1 else 0) ∧ u.f Fld.TH_STATUS_LEVEL 0 = lvl) ∧
          (s.f Fld.TH_STATUS_REQ 0 = 1 → lvl = 0 → tj < lo → u.f Fld.TH_STATUS_REQ 0 = 0 ∧ u.boot.thermReqN = s.shutdown) ∧
          (s.f Fld.TH_STATUS_REQ 0 = 1 → lvl = 0 → lo ≤ tj → reqC ≤ tj → 1000 * s.f Fld.TH_CFG_GRACE_MS 0 ≤ t.sinceUs s.pow.tReq →
            u.f Fld.TH_STATUS_LEVEL 0 = 1 ∧ u.f Fld.SC_RATE_THERM_CAP 0 = 512 ∧ ∀ n, n < 128 → u.f Fld.RM_EFF_DIV_THERM_DIV n = 24) ∧
          (s.f Fld.TH_STATUS_REQ 0 = 1 → 1 ≤ lvl → lvl < 4 → reqC ≤ tj → 1000 * s.f Fld.TH_CFG_STEP_MS 0 ≤ t.sinceUs s.pow.tLvl →
            u.f Fld.TH_STATUS_LEVEL 0 = lvl + 1 ∧ u.f Fld.SC_RATE_THERM_CAP 0 = thermCap (lvl + 1) ∧ ∀ n, n < 128 → u.f Fld.RM_EFF_DIV_THERM_DIV n = thermDiv (lvl + 1)) ∧
          (s.f Fld.TH_STATUS_REQ 0 = 1 → 1 ≤ lvl → lvl ≤ 4 → tj < lo → tj < reqC → s.pow.below = true → 1000 * s.f Fld.TH_CFG_STEP_MS 0 ≤ t.sinceUs s.pow.tBelow →
            u.f Fld.TH_STATUS_LEVEL 0 = lvl - 1 ∧ (lvl = 1 → u.f Fld.TH_STATUS_REQ 0 = 0)))) ∧
      (∀ l : List Nat, l.length = 18 → ∃ u, exec (.ageingMeasurement l) s = .next u ∧ u.pow.ages = l.map (min · 65535) ∧ u.mem = s.mem ∧
        let d := u.f Fld.TH_AGE_STATUS_DEGR 0;
        (∀ k, k < 18 → min (nth l k) 65535 ≤ d) ∧ (l.map (min · 65535)).contains d = true ∧
        u.f Fld.TH_AGE_STATUS_WARN 0 = (if 3000 ≤ d then 1 else 0) ∧ u.f Fld.TH_AGE_STATUS_EXCEEDED 0 = (if 4000 ≤ d then 1 else 0))) ∧
    (s.boot.step < 7 → exec .lifeRecord s = .next s) ∧
    (7 ≤ s.boot.step →
      let hours := (List.range 5).map fun k => s.f Fld.TH_LIFE_HOURS k
      let full := (s.journal.apply 9 (hours.flatMap (leBytes 4))).tooBig
      (full = false → ∃ u, exec .lifeRecord s = .next u ∧ u.regs = s.regs ∧ u.mem = s.mem ∧ u.journal.life = hours ∧
        u.journal.seq = s.journal.seq + 2 ∧ u.journal.off = s.journal.off + 64) ∧
      (full = true → exec .lifeRecord s = .next s)) ∧
    (∀ h offset ms, let e : Ebryn := ⟨h, 0x0A04, .r, argBytes [(6, 1, offset), (8, 4, ms)], false⟩;
      s.accepts e →
      let bad := sgn 8 offset < -20 ∨ 20 < sgn 8 offset ∨ ms < 1 ∨ 1000 < ms;
      (bad → exec (.thermTest h offset ms) s = .next ((s.entered e).respond h.ref 3 [])) ∧
      (¬bad → s.fuses.lc = 2 → exec (.thermTest h offset ms) s = .next ((s.entered e).respond h.ref 4 [])) ∧
      (¬bad → s.fuses.lc ≠ 2 →
        exec (.thermTest h offset ms) s = .next (((s.entered e).updPow fun p => { p with testOff := some (sgn 8 offset) }).respond h.ref 0 []))) ∧
    (∃ u, exec .thermTestEnd s = .next u ∧ u.pow.testOff = none ∧ u.regs = s.regs ∧ u.mem = s.mem ∧ u.boot = s.boot)

/-- R338, R354, R356, R357, R359 and R375. The pins keep their last sampling through a lockstep or delayed reset (log entry 36). -/
def Obligations.ResetDomainsAndFuseLoad : Prop :=
  ∀ (s : State), s.canon → s.tables →
    let kept (u : State) : Prop := u.flash = s.flash ∧ u.fuses = s.fuses ∧ u.pending = s.pending
    let stack (u : State) : Prop := kept u ∧ (s.recording = false → u.mem = s.mem ∧ u.synd = s.synd) ∧
      (∀ k, k < 8 → u.raw (0x10000 + 4 * k) = s.raw (0x10000 + 4 * k)) ∧ u.shutdown = s.shutdown ∧
      u.rooms = [] ∧ u.stairs = [] ∧ u.engs = [] ∧ u.links = [] ∧ u.mail.inprog = [] ∧ u.safe = false ∧ u.ready = false ∧ u.epoch = 0 ∧ u.staged = []
    let loaded (u : State) (cause pins : Nat) : Prop := u.boot.por = false ∧ u.boot.pins = pins ∧
      u.f Fld.BT_BOOT_CAUSE 0 = cause % 2 ^ Fld.BT_BOOT_CAUSE.width ∧ u.f Fld.BT_BOOT_PROFILE 0 = pins % 8 ∧
      u.f Fld.HK_ID_UID_LO_UID 0 = s.fuses.uid % 2 ^ 32 ∧ u.f Fld.HK_ID_UID_HI_UID 0 = s.fuses.uid / 2 ^ 32 % 2 ^ Fld.HK_ID_UID_HI_UID.width ∧
      u.f Fld.LC_STATE_STATE 0 = s.fuses.lc % 2 ^ Fld.LC_STATE_STATE.width ∧ u.f Fld.LC_SVN_MIN 0 = s.fuses.svn % 2 ^ Fld.LC_SVN_MIN.width ∧
      u.f Fld.HK_STATUS_STEP 0 = (if s.fuses.ue then 2 else 3) ∧ u.boot.stopped = s.fuses.ue ∧ u.boot.faultN = s.fuses.ue
    (∃ u, exec .powerOnReset s = .next u ∧ kept u ∧ u.boot.por = true ∧ u.boot.resetLow = s.boot.resetLow ∧ (∀ a, u.byte a = 0) ∧
      ∀ r i, u.rd r i = regDefault (r.addr i)) ∧
    (∀ pins, s.boot.por = true → ∃ u, exec (.powerOnResetRelease pins) s = .next u ∧ kept u ∧ u.mem = s.mem ∧ u.f Fld.PW_STATUS_PGOOD 0 = 3 ∧
      (s.boot.resetLow = false → loaded u 0 (pins % 8)) ∧
      (s.boot.resetLow = true → u.boot.por = false ∧ u.boot.step = s.boot.step ∧ u.f Fld.HK_STATUS_STEP 0 = s.f Fld.HK_STATUS_STEP 0)) ∧
    (∀ pins, s.boot.por = false → exec (.powerOnResetRelease pins) s = .next s) ∧
    (s.boot.por = true → exec .railsPowerGood s = .next s) ∧
    (s.boot.por = false → ∃ u, exec .railsPowerGood s = .next u ∧ u.f Fld.PW_STATUS_PGOOD 0 = 1023 ∧
      (s.boot.step = 4 → s.boot.stopped = false → s.refGood = true → s.loopRuns = false → u.boot.step = 5 ∧ u.f Fld.HK_STATUS_STEP 0 = 5 ∧
        u.hearth = (if s.hearth = 0 ∧ s.shutdown = false then 1 else s.hearth)) ∧
      (s.boot.step ≠ 4 → s.boot.step ≠ 5 → u.boot = s.boot ∧ u.mem = s.mem ∧ ∀ r i, r ≠ .PW_STATUS → u.rd r i = s.rd r i)) ∧
    (∃ u, exec .resetN s = .next u ∧ u.boot.resetLow = true ∧
      (s.boot.por = true → u.boot.por = true ∧ u.regs = s.regs ∧ u.mem = s.mem) ∧
      (s.boot.por = false → stack u ∧ u.boot.step = 0 ∧ u.f Fld.HK_STATUS_STEP 0 = 0)) ∧
    (∀ pins, s.boot.resetLow = true → s.boot.por = false → ∃ u, exec (.resetNRelease pins) s = .next u ∧ kept u ∧ u.mem = s.mem ∧
      u.boot.resetLow = false ∧ loaded u 1 (pins % 8)) ∧
    (∀ pins, s.boot.resetLow = true → s.boot.por = true → ∃ u, exec (.resetNRelease pins) s = .next u ∧ u.boot.resetLow = false ∧ u.regs = s.regs) ∧
    (∀ pins, s.boot.resetLow = false → exec (.resetNRelease pins) s = .next s) ∧
    (s.boot.por = false → s.boot.resetLow = false → ∃ u, exec .lockstepMismatch s = .next u ∧ stack u ∧ loaded u 3 s.boot.pins) ∧
    (s.boot.por = true ∨ s.boot.resetLow = true → exec .lockstepMismatch s = .next s) ∧
    (∀ h, let e : Ebryn := ⟨h, 0x0B04, .i, [], false⟩;
      s.accepts e → exec (.stackReset h) s = .next (((s.entered e).updBoot fun b => { b with delayedReset := some 2 }).respond h.ref 0 [])) ∧
    (∀ c, s.boot.delayedReset = some c → ∃ u, exec .delayedStackReset s = .next u ∧ stack u ∧ u.boot.delayedReset = none ∧
      (s.boot.resetLow = false → loaded u c s.boot.pins)) ∧
    (s.boot.delayedReset = none → exec .delayedStackReset s = .next s)

/-- R357, R358, R364 to R366 and R406 to R409. Whether a signature verifies is opaque (log entry 12). -/
def Obligations.StartUpStepsComplete : Prop :=
  ∀ (s : State), s.canon → s.tables →
    (s.boot.por = false → s.boot.resetLow = false → s.boot.step = 3 → s.boot.stopped = false → s.fuses.lc ≠ 4 →
      ∃ u, exec .bootVerification s = .next u ∧ (∀ j, j < 0x200000 → u.byte (0x120000000 + j) = 0) ∧
        (s.fwOrder.find? (fun k => s.imageOk 1 (s.fwImage k)) = none → u.boot.faultN = true ∧ u.boot.step = 3 ∧ u.regs = s.regs) ∧
        (∀ k, s.fwOrder.find? (fun k => s.imageOk 1 (s.fwImage k)) = some k → u.boot.faultN = false ∧ 4 ≤ u.boot.step ∧
          u.f Fld.LC_FW_STATUS_SLOT 0 = k ∧ u.sec.slot = k ∧ u.sec.measurement = sha384 (s.fwImage k) ∧
          u.f Fld.LC_FW_EDITION_EDITION 0 = imgF (s.fwImage k) 12 4 ∧ u.f Fld.MB_STATUS_BOOTROM 0 = 0)) ∧
    (s.boot.step ≠ 3 ∨ s.boot.stopped = true ∨ s.fuses.lc = 4 → exec .bootVerification s = .next s) ∧
    (s.boot.step = 6 → s.safe = false → s.shutdown = false → s.f Fld.BT_STATUS_ST_RUNNING 0 = 1 → s.f Fld.PW_SHED_STATUS_LEVEL 0 = 0 →
      ∀ order slice, sliceAt orderSlices 1 s.boot.testPos = (order, slice) →
      (∀ overrun, s.boot.testPos + 1 < 35 → ∃ u, exec (.startUpSelfTest order slice overrun []) s = .next u ∧ u.boot.testPos = s.boot.testPos + 1 ∧
        u.boot.step = 6 ∧ u.regs = s.regs ∧ u.mem = s.mem) ∧
      (∀ overrun, s.boot.testPos = 34 → ∃ u, exec (.startUpSelfTest order slice overrun []) s = .next u ∧ u.boot.step = 8 ∧ u.f Fld.HK_STATUS_STEP 0 = 8 ∧
        u.f Fld.BT_STATUS_ST_RUNNING 0 = 0 ∧ u.boot.failed = [] ∧ (s.boot.failed = [] → u.boot.fallow = s.boot.fallow)) ∧
      (∀ unit overrun, unit < 256 → s.boot.testPos + 1 < 35 → s.boot.records.length < 64 →
        let t : TestFail := { kind := 6, layer := 1, unit := unit, addr := 0, seg := 0, bit := 0 }
        ∃ u, exec (.startUpSelfTest order slice overrun [t]) s = .next u ∧ u.boot.failed = s.boot.failed ++ [t] ∧
          u.boot.records.length = s.boot.records.length + 1 ∧ u.f Fld.BT_RES_CTRL_FILL 0 = s.boot.records.length + 1) ∧
      (∀ col b, b < 512 → col < 9216 → s.boot.testPos + 1 < 35 → ∀ k, s.freeSpare b col = some k →
        let t : TestFail := { kind := 1, layer := 4, unit := b, addr := 0, seg := 0, bit := col }
        ∃ u, exec (.startUpSelfTest order slice false [t]) s = .next u ∧ u.boot.failed = s.boot.failed ∧
          mget (fun _ => (0, 0)) (u.bank b).spares k = (3, col))) ∧
    (∀ order slice overrun found, s.boot.step ≠ 6 ∨ s.safe = true ∨ s.f Fld.PW_SHED_STATUS_LEVEL 0 ≠ 0 ∨ sliceAt orderSlices 1 s.boot.testPos ≠ (order, slice) →
      exec (.startUpSelfTest order slice overrun found) s = .next s) ∧
    (∀ loft, s.boot.step = 8 → s.boot.stopped = false → s.safe = false → s.shutdown = false → loft = s.boot.wipePos + 1 → loft ≤ 4 →
      ∃ u, exec (.startUpWipe loft) s = .next u ∧ u.boot.wipePos = loft ∧
        (∀ k r j, k < 128 → r < 8192 → j < 1024 → s.fallowBank (128 * (loft - 1) + k) = false → u.byte (bankRow (128 * (loft - 1) + k) r + j) = 0) ∧
        (loft = 1 → ∀ a, landing 0 0 0 ≤ a → a < landing 128 0 0 → u.byte a = 0) ∧
        (loft = 1 → ∀ j, j < 0x2800000 → u.byte (0x110000000 + j) = 0) ∧
        (loft < 4 → u.boot.step = 8 ∧ u.regs = s.regs) ∧
        (loft = 4 → u.boot.step = 9 ∧ u.f Fld.HK_STATUS_STEP 0 = 9 ∧ u.f Fld.LC_DEBUG_LEVEL 0 = debugDefault s.fuses.lc)) ∧
    (∀ loft, s.boot.step ≠ 8 ∨ s.boot.stopped = true ∨ loft ≠ s.boot.wipePos + 1 ∨ 4 < loft → exec (.startUpWipe loft) s = .next s) ∧
    (s.boot.step = 9 → s.boot.stopped = false → s.safe = false → s.shutdown = false → s.commit = none →
      s.f Fld.BT_STATUS_PROFILE_WAIT 0 = 0 ∨ s.boot.selected.isSome = true ∨ s.boot.pushed.isSome = true →
      ∀ c, let slot := s.boot.selected.getD s.boot.pins
        let img := s.boot.pushed.getD (s.slotImage slot)
        let rejected (u : State) : Prop := u.f Fld.BT_STATUS_PROFILE_WAIT 0 = 1 ∧ u.commit = none ∧ u.staged = s.staged ∧ u.mem = s.mem ∧
          u.boot.pushed = none ∧ u.boot.selected = none;
        (s.boot.pushed.isNone = true → s.slotValid slot = false → ∃ u, exec (.profile c) s = .next u ∧ rejected u) ∧
        (s.boot.pushed.isSome = true ∨ s.slotValid slot = true → ∃ u, exec (.profile c) s = .next u ∧
          (s.imageOk 2 img = true ∧ ((s.setF Fld.BT_BOOT_DROPPED 0 0).stageProfile c).validSet ((s.setF Fld.BT_BOOT_DROPPED 0 0).stageProfile c).staged = true →
            u.f Fld.BT_STATUS_PROFILE_WAIT 0 = 0 ∧ u.boot.profile = some c ∧ u.boot.imageValid = true ∧ u.staged = [] ∧
            (u.commit.map fun x => (x.phase, x.inner)) = some (1, 1)) ∧
          (s.imageOk 2 img = false ∨ ((s.setF Fld.BT_BOOT_DROPPED 0 0).stageProfile c).validSet ((s.setF Fld.BT_BOOT_DROPPED 0 0).stageProfile c).staged = false →
            rejected u))) ∧
    (∀ c, s.boot.step ≠ 9 ∨ s.boot.stopped = true ∨ s.safe = true ∨ s.commit.isSome = true → exec (.profile c) s = .next s)

/-- R24 to R28, R31, R35, R36 and R395. The duration of an audit is free (log entry 36). -/
def Obligations.EpochCommitRunsItsPhases : Prop :=
  ∀ (s : State), s.canon → s.tables →
    let counted (u : State) (trigger : Nat) : Prop := u.f Fld.EP_AUDIT_COUNT_COUNT 0 = (s.f Fld.EP_AUDIT_COUNT_COUNT 0 + 1) % 2 ^ Fld.EP_AUDIT_COUNT_COUNT.width ∧
      u.f Fld.EP_AUDIT_LAST_TRIGGER 0 = trigger
    let fault (u : State) (book index : Nat) (delta : Int) : Prop := u.f Fld.EP_STATUS_BOOKS_FAULT 0 = 1 ∧ u.safe = true ∧
      (s.f Fld.EP_STATUS_BOOKS_FAULT 0 = 0 → u.f Fld.EP_FAULT_BOOK_BOOK 0 = book % 2 ^ Fld.EP_FAULT_BOOK_BOOK.width ∧
        u.f Fld.EP_FAULT_BOOK_INDEX 0 = index % 2 ^ Fld.EP_FAULT_BOOK_INDEX.width ∧ u.f Fld.EP_FAULT_DELTA_DELTA 0 = low 32 delta)
    (∀ h, let e : Ebryn := ⟨h, 0x0201, .r, [], false⟩;
      s.accepts e →
      (s.commit.isSome = true → exec (.epochCommit h) s = .next ((s.entered e).respond h.ref 2 [])) ∧
      (s.commit = none → ∃ u, exec (.epochCommit h) s = .next u ∧ u.snapshot = s.staged ∧ u.staged = [] ∧
        u.commit = some { phase := 1, inner := 0, cmd := some h.ref } ∧ u.f Fld.EP_STATUS_COMMIT_BUSY 0 = 1 ∧ u.epoch = s.epoch ∧
        (u.inprogOf h.ref).isSome = true)) ∧
    (∀ h, let e : Ebryn := ⟨h, 0x0202, .s, [], false⟩;
      s.accepts e → exec (.epochDiscard h) s = .next (({ s.entered e with staged := [] } : State).respond h.ref 0 (leBytes 4 s.staged.length))) ∧
    (∀ c, s.commit = some c → c.phase = 1 →
      (((List.range 128).any fun n => (s.room n).ld.isSome) = false ∨ (c.inner ≠ 1 ∧ c.inner ≠ 4) → s.validSet s.snapshot = true → c.inner ≠ 1 →
        ∃ u, exec .commitFreeze s = .next u ∧ u.f Fld.EP_STATUS_FROZEN 0 = 1 ∧ u.commit = some { c with phase := 2, audit := s.audit } ∧
        u.snapshot = s.snapshot ∧ u.staged = s.staged ∧ u.mem = s.mem ∧ ∀ r i, r ≠ .EP_STATUS → u.rd r i = s.rd r i) ∧
      (c.inner = 0 → s.validSet s.snapshot = false → ∃ u, exec .commitFreeze s = .next u ∧ u.commit = none ∧ u.snapshot = [] ∧
        u.f Fld.EP_STATUS_FROZEN 0 = 0 ∧ u.f Fld.EP_STATUS_COMMIT_BUSY 0 = 0 ∧ u.epoch = s.epoch ∧
        (∀ k, mget (fun _ => none) u.staged k = (mget (fun _ => none) s.staged k).orElse fun _ => mget (fun _ => none) s.snapshot k) ∧
        (∀ r, c.cmd = some r → r.1 = 0 → (s.inprogOf r).map (·.injected) = some false →
          mget (fun _ => []) u.mail.rsp 0 = mget (fun _ => []) s.mail.rsp 0 ++ [rspBlock 3 r.2.2.2 []])) ∧
      (c.inner = 1 ∨ c.inner = 4 → ((List.range 128).any fun n => (s.room n).ld.isSome) = true → exec .commitFreeze s = .next s) ∧
      (c.inner = 1 → ((List.range 128).any fun n => (s.room n).ld.isSome) = false → s.validSet s.snapshot = true →
        ∃ u, exec .commitFreeze s = .next u ∧ u.boot.step = 10 ∧ u.f Fld.HK_STATUS_STEP 0 = 10 ∧ (u.commit.map (·.phase)) = some 2)) ∧
    ((s.commit.all fun c => c.phase != 1) = true → exec .commitFreeze s = .next s) ∧
    (∀ c, s.commit = some c → c.phase = 2 →
      (c.audit = none → ∃ u, exec .commitApply s = .next u ∧ u.commit = some { c with phase := 3 } ∧ counted u 1 ∧ u.snapshot = s.snapshot ∧
        u.mem = s.mem ∧ ∀ r i, r ≠ .EP_AUDIT_COUNT → r ≠ .EP_AUDIT_LAST → u.rd r i = s.rd r i) ∧
      (∀ b i d, c.audit = some (b, i, d) → ∃ u, exec .commitApply s = .next u ∧ u.commit = none ∧ counted u 1 ∧ fault u b i d ∧ u.snapshot = [])) ∧
    ((s.commit.all fun c => c.phase != 2) = true → exec .commitApply s = .next s) ∧
    (∀ c, s.commit = some c → c.phase = 3 → c.inner = 0 → ∃ u, exec .commitPoint s = .next u ∧ u.epoch = (s.epoch + 1) % 2 ^ 64 ∧
      u.f Fld.EP_EPOCH_LO_EPOCH 0 = (s.epoch + 1) % 2 ^ 32 ∧ u.f Fld.EP_STATUS_FROZEN 0 = 0 ∧ u.snapshot = [] ∧ u.staged = s.staged ∧
      (u.commit.map (·.phase)) = some 4 ∧ u.boot.imageValid = true ∧
      (mwf (fun _ => none) s.snapshot = true → ∀ k w, mget (fun _ => none) s.snapshot k = some w → u.raw k &&& keyMask k = w &&& keyMask k)) ∧
    ((s.commit.all fun c => c.phase != 3) = true → exec .commitPoint s = .next s) ∧
    (∀ c, s.commit = some c → c.phase = 4 →
      (c.inner = 0 → s.boot.inSafePending = none →
        exec .commitResponse s = .next ((({ s with commit := none } : State).setF Fld.EP_STATUS_COMMIT_BUSY 0 0).respondTo c.cmd 0 (leBytes 8 s.epoch))) ∧
      (c.inner = 0 → s.boot.inSafePending.isSome = true → ∃ u, exec .commitResponse s = .next u ∧ u.commit = none ∧ u.safe = true ∧ u.boot.inSafePending = none) ∧
      (c.inner = 1 → s.boot.inSafePending = none → ∃ u, exec .commitResponse s = .next u ∧ u.commit = none ∧ u.ready = true ∧ u.boot.step = 12 ∧
        u.f Fld.HK_STATUS_STEP 0 = 12 ∧ u.boot.safeN = false)) ∧
    ((s.commit.all fun c => c.phase != 4) = true → exec .commitResponse s = .next s) ∧
    (s.f Fld.EP_STATUS_AUDIT_SUSPENDED 0 = 1 ∨ s.commit.isSome = true ∨ s.loopRuns = false → exec .audit s = .next s) ∧
    (s.f Fld.EP_STATUS_AUDIT_SUSPENDED 0 = 0 → s.commit = none → s.loopRuns = true →
      (s.audit = none → ∃ u, exec .audit s = .next u ∧ counted u 0 ∧ u.mem = s.mem ∧ ∀ r i, r ≠ .EP_AUDIT_COUNT → r ≠ .EP_AUDIT_LAST → u.rd r i = s.rd r i) ∧
      (∀ b i d, s.audit = some (b, i, d) → ∃ u, exec .audit s = .next u ∧ counted u 0 ∧ fault u b i d)) ∧
    (∀ h, let e : Ebryn := ⟨h, 0x0203, .r, [], false⟩;
      s.accepts e → s.replaying = false → s.recording = false →
      (s.audit = none → ∃ u, exec (.booksAudit h) s = .next u ∧ counted u 2 ∧ (h.port ≠ 18 → u.mem = s.mem) ∧
        (h.port = 0 → s.replay.injecting = false → mget (fun _ => []) u.mail.rsp 0 = mget (fun _ => []) s.mail.rsp 0 ++ [rspBlock 0 h.tag []])) ∧
      (∀ b i d, s.audit = some (b, i, d) → s.pastCommitPoint = false → ∃ u, exec (.booksAudit h) s = .next u ∧ counted u 2 ∧ fault u b i d)) ∧
    (∀ h dest, let e : Ebryn := ⟨h, 0x0204, .s, argBytes [(6, 8, dest)], false⟩;
      s.accepts e →
      (s.rangeOk dest 12032 = false → exec (.booksRead h dest) s = .next ((s.entered e).respond h.ref 3 [])) ∧
      (s.rangeOk dest 12032 = true → ∃ u, exec (.booksRead h dest) s = .next u ∧
        (inStaging (dest % 2 ^ 48) 12032 = true → h.port = 0 → s.recording = false → (∀ j, j < 12032 → u.byte (dest % 2 ^ 48 + j) = s.booksImage.getD j 0) ∧
          ∀ a, a + 31 < dest % 2 ^ 48 ∨ dest % 2 ^ 48 + 12032 + 31 ≤ a → u.byte a = s.byte a)))

/-- R37, R67, R111, R355, R361 to R363 and R371. RECOVER outside the safe state is DENIED (log entry 32). -/
def Obligations.FoundationResetAndRecovery : Prop :=
  ∀ (s : State), s.canon → s.tables →
    (∀ h, let e : Ebryn := ⟨h, 0x0B01, .r, [], false⟩;
      s.accepts e → ∃ u, exec (.foundationReset h) s = .next u ∧ u.resuming = true ∧ u.f Fld.EP_STATUS_AUDIT_SUSPENDED 0 = 1 ∧
        u.boot.frPhase = 1 ∧ u.boot.frCmd = some h.ref ∧ u.rd .BT_FRESET 0 = 0 ∧
        (∀ e, e < 256 → u.engState e = (if s.engState e = 0 ∨ s.engState e = 6 then s.engState e else 7)) ∧
        (s.pastCommitPoint = false → u.commit = none) ∧ (s.pastCommitPoint = true → u.commit = s.commit) ∧
        ∀ n, n < 128 → (u.room n).ld = none ∧ (u.stair n).win = none ∧ (u.stair n).slice = none) ∧
    (s.boot.frPhase = 1 → ∃ u, exec .foundationResetPendingEnd s = .next u ∧ u.boot.frPhase = 2 ∧
      u.net.bufs = [] ∧ u.net.send = [] ∧ u.net.books = [] ∧ u.net.arbs = [] ∧ u.net.outReq = s.net.outReq ∧ u.svc = [] ∧ u.crypto.reqs = [] ∧
      (∀ b, (u.bank b).q = []) ∧ (∀ n p, p < 4 → (u.plane n p).rowQ = [] ∧ (u.room n).ramQ = []) ∧
      u.sched.tokenLog.take s.sched.tokenLog.length = s.sched.tokenLog ∧
      (u.sched.tokenLog ≠ s.sched.tokenLog → u.f Fld.EP_ESC_TOKENS_COUNT 0 = u.sched.tokenLog.length % 2 ^ Fld.EP_ESC_TOKENS_COUNT.width) ∧
      u.f Fld.EP_ESC_RESET_CREDITS 0 = (corridorCredits + (links32.map fun k =>
        if (s.link k).up then (s.link k).advDepth.sum + (s.link k).rxDepth.sum else 0).sum) % 2 ^ Fld.EP_ESC_RESET_CREDITS.width) ∧
    (s.boot.frPhase ≠ 1 → exec .foundationResetPendingEnd s = .next s) ∧
    (s.boot.frPhase = 2 → ∃ u, exec .foundationResetFreeze s = .next u ∧ u.boot.frPhase = 3 ∧ u.mem = s.mem ∧
      (∀ n, n < 128 → u.roomState n = s.roomState n ∧ (s.roomState n = 0 → (u.room n).toStop = 3)) ∧
      ∀ b, b < 512 → u.retained b = true ∧ u.f Fld.LB_PWR_CAUSE b = (if s.retained b = true ∧ (s.bank b).wakeWait = false then s.f Fld.LB_PWR_CAUSE b else 3)) ∧
    (s.boot.frPhase ≠ 2 → exec .foundationResetFreeze s = .next s) ∧
    (s.boot.frPhase = 3 → ∃ u, exec .foundationResetHold s = .next u ∧ u.boot.frPhase = 4 ∧
      (∀ e, e < 256 → u.engState e = (if s.engState e = 0 ∨ s.engState e = 6 then s.engState e else 7)) ∧
      (∀ n, n < 128 → u.roomState n = if s.roomState n = 0 ∧ (s.room n).toStop ≠ 0 then ((s.room n).toStop - 1) % 2 ^ Fld.RM_STATUS_STATE.width else s.roomState n) ∧
      (∀ r i, r ∈ ([.RM_PLANE, .RM_PSRC, .RM_IMAGE_ID_LO, .RM_IMAGE_ID_HI, .RM_PLANE_CFG, .RM_LOADCFG] : List Reg) → u.rd r i = s.rd r i) ∧
      (∀ r i, r ∈ ([.DE_PC, .DE_CFG, .DE_FLAGS, .SC_CFG, .SC_SIZE, .SC_RES, .ST_CFG, .ST_FAULT] : List Reg) → 0x300000 ≤ r.addr i → r.addr i < 0x800000 → u.rd r i = regDefault (r.addr i)) ∧
      (∀ k, k < 32 → ({ u.link k with lmbOut := [] } : Link) = {} ∧ u.linkState k = 0) ∧
      (∀ g, g < 16 → u.f Fld.SL_STATUS_TXSTATE g = 3 ∧ u.f Fld.SL_STATUS_RXSTATE g = 3)) ∧
    (s.boot.frPhase ≠ 3 → exec .foundationResetHold s = .next s) ∧
    (s.boot.frPhase = 4 → exec .foundationResetRelease s = .next ((s.updBoot fun b => { b with frPhase := 0, frCmd := none }).respondTo s.boot.frCmd 0 [])) ∧
    (s.boot.frPhase ≠ 4 → exec .foundationResetRelease s = .next s) ∧
    (∀ h, let e : Ebryn := ⟨h, 0x0B02, .s, [], false⟩;
      s.accepts e →
      (s.resuming = false ∨ s.safe = true → exec (.resume h) s = .next ((s.entered e).respond h.ref 5 [])) ∧
      (s.resuming = true → s.safe = false →
        (s.boot.frPhase ≠ 0 → exec (.resume h) s = .next ((s.entered e).respond h.ref 2 [])) ∧
        (s.boot.frPhase = 0 → (banks512.any fun b => s.retained b && s.f Fld.LB_PWR_CAUSE b != 1 && !s.shedBank b && !(s.bank b).wakeWait) = true →
          s.f Fld.PW_SHED_STATUS_LEVEL 0 = 0 → ∃ u, exec (.resume h) s = .next u ∧ u.boot.frPhase = 5 ∧ u.boot.resumeCmd = some h.ref ∧ u.resuming = true ∧
          ∀ b, b < 512 → s.retained b = true → s.f Fld.LB_PWR_CAUSE b ≠ 1 → u.retained b = false ∨ (u.bank b).wakeWait = true) ∧
        (s.boot.frPhase = 0 → (banks512.any fun b => s.retained b || s.f Fld.LB_PWR_PSTATE b == 3 || (s.bank b).wakeWait) = false →
          ∃ u, exec (.resume h) s = .next u ∧ u.boot.frPhase = 0 ∧ u.boot.resumeCmd = none ∧ u.f Fld.EP_ESC_RESET_CREDITS 0 = 0 ∧
          (u.safe = false → u.resuming = false ∧ u.f Fld.EP_STATUS_AUDIT_SUSPENDED 0 = 0 ∧
            (∀ n, n < 128 → s.roomState n = 2 ∨ s.roomState n = 3 → s.f Fld.PW_SHED_STATUS_LEVEL 0 = 0 → u.roomState n = 0))))) ∧
    (∀ h retest, let e (v : Svc) : Ebryn := ⟨h, 0x0B03, v, argBytes [(6, 1, retest)], false⟩;
      (∀ found, s.shutdown = true → s.accepts (e .i) → exec (.recover h retest found) s = .next ((s.entered (e .i)).respond h.ref 4 [])) ∧
      (s.shutdown = false → s.accepts (e .s) → let no (st : Nat) := (s.entered (e .s)).respond h.ref st [];
        (∀ found, 2 ≤ retest → exec (.recover h retest found) s = .next (no 3)) ∧
        (∀ found, retest < 2 → s.safe = false → exec (.recover h retest found) s = .next (no 4)) ∧
        (∀ found, retest < 2 → s.safe = true → s.commit.isSome = true ∨ s.boot.frPhase = 6 → exec (.recover h retest found) s = .next (no 2)) ∧
        (∀ found, retest < 2 → s.safe = true → s.commit = none → s.boot.frPhase ≠ 6 → s.f Fld.PW_SHED_STATUS_LEVEL 0 = 0 →
          (banks512.any fun b => s.f Fld.LB_PWR_CAUSE b != 1) = true → ∃ u, exec (.recover h retest found) s = .next u ∧ u.safe = true ∧
          u.resuming = false ∧ u.boot.frPhase = 6 ∧ u.boot.resumeCmd = some h.ref ∧ u.boot.recov = some (retest, found) ∧
          (∀ b, b < 512 → u.retained b = true → u.f Fld.LB_PWR_CAUSE b = 1 ∨ (u.bank b).wakeWait = true) ∧
          (∀ e, e < 256 → u.engState e = (if s.engState e = 0 ∨ s.engState e = 6 then s.engState e else 7)) ∧
          (∀ k, k < 32 → u.linkState k = 0)))) ∧
    (∀ b, s.boot.frPhase = 6 ∧ s.commit = none → (s.wakeComplete b).wakesDone = true → ∀ retest, ∀ found, s.boot.recov = some (retest, found) →
      (s.loopRuns = true → s.epoch = 0 → ∃ u, exec (.wakeComplete b) s = .next u ∧ u.safe = false ∧
        u.boot.step = 6 ∧ u.f Fld.HK_STATUS_STEP 0 = 6 ∧ u.f Fld.BT_STATUS_ST_RUNNING 0 = 1 ∧ u.boot.testPos = 0 ∧ u.commit = none ∧
        u.f Fld.EP_STATUS_BOOKS_FAULT 0 = 0 ∧ u.boot.frPhase = 0 ∧ u.boot.resumeCmd = none) ∧
      (s.loopRuns = true → s.epoch ≠ 0 → s.boot.stopped = false → s.boot.failed = [] → s.tierNow ≠ 0 → found = [] →
        ∃ u, exec (.wakeComplete b) s = .next u ∧ u.commit = some { phase := 1, inner := 2, cmd := s.boot.resumeCmd } ∧
        u.f Fld.EP_STATUS_COMMIT_BUSY 0 = 1 ∧ u.staged = [] ∧ u.boot.frPhase = 0 ∧
        (s.f Fld.PW_STATUS_LND_LOST 0 = 1 → ∀ a, landing 0 0 0 ≤ a → a < landing 128 0 0 → u.byte a = 0)) ∧
      (s.loopRuns = true → s.epoch ≠ 0 → found = [{ kind := 7, layer := 0, unit := 3, addr := 0, seg := 0, bit := 0 }] →
        ∃ u, exec (.wakeComplete b) s = .next u ∧
        u.commit = none ∧ u.boot.stopped = true ∧ u.safe = true ∧ u.f Fld.HK_STATUS_TIER 0 = 0 ∧ u.boot.frPhase = 0) ∧
      (s.loopRuns = false → ∃ u, exec (.wakeComplete b) s = .next u ∧ u.boot.frPhase = 0 ∧ u.boot.recov = none ∧ u.boot.resumeCmd = none ∧
        u.safe = s.safe))

/-- R358, R398 to R402 and R408. Whether an image verifies is opaque (log entry 12). -/
def Obligations.StoreCommandsWriteFlash : Prop :=
  ∀ (s : State), s.canon → s.tables →
    let queued (u : State) (h : CmdHdr) (j : FlashJob) : Prop := u.journal.jobs = s.journal.jobs ++ [j] ∧ (u.inprogOf h.ref).isSome = true ∧
      (s.journal.jobs = [] → j.recs = [] → (∀ k, k < 0x10000 → u.flashByte (j.base + k) = 0xFF)) ∧
      ∀ a, ¬(j.base ≤ a ∧ a < j.base + 0x10000 ∧ s.journal.jobs = [] ∧ j.recs = []) → u.flashByte a = s.flashByte a
    let answered (u : State) (h : CmdHdr) (st : Nat) : Prop := u.journal = s.journal ∧ u.flash = s.flash ∧ (h.port = 0 → s.replay.injecting = false →
      mget (fun _ => []) u.mail.rsp 0 = mget (fun _ => []) s.mail.rsp 0 ++ [rspBlock st h.tag []])
    let clean (source len : Nat) : Prop := inStaging (source % 2 ^ 48) len = true ∧ s.node < 1024 ∧ ∀ k, k < len + 32 → s.syn (source % 2 ^ 48 / 32 * 32 + k) = 0
    let poisoned (source len : Nat) : Prop := inStaging (source % 2 ^ 48) len = true ∧ s.node < 1024 ∧ source % 32 = 0 ∧ len = 32 ∧ s.syn (source % 2 ^ 48) = poisonSyn
    let away (u : State) (source len : Nat) : Prop := decodeAddr (source % 2 ^ 48) ≠ .scratch → len ≠ 0 → u.journal = s.journal ∧ u.flash = s.flash ∧
      u.boot.pushed = s.boot.pushed
    (∀ h slot source len, let e : Ebryn := ⟨h, 0x0E03, .r, argBytes [(6, 1, slot), (8, 8, source), (16, 4, len)], false⟩;
      s.accepts e →
      let bad := 8 ≤ slot ∨ slotSize < len + 0x10000 ∨ s.rangeOk source len = false;
      (bad → exec (.profileWrite h slot source len) s = .next ((s.entered e).respond h.ref 3 [])) ∧
      (¬bad → ∃ u, exec (.profileWrite h slot source len) s = .next u ∧
        let img := s.bytesAt (source % 2 ^ 48) len
        (clean source len → s.imageOk 2 img = true → queued u h { op := 0x0E03, cmd := h.ref, slot := slot, img := img }) ∧
        (clean source len → s.imageOk 2 img = false → answered u h 4) ∧ (poisoned source len → answered u h 0xB) ∧ away u source len)) ∧
    (∀ h slot, let e : Ebryn := ⟨h, 0x0E04, .i, argBytes [(6, 1, slot)], false⟩;
      s.accepts e →
      (8 ≤ slot → exec (.profileErase h slot) s = .next ((s.entered e).respond h.ref 3 [])) ∧
      (slot < 8 → ∃ u, exec (.profileErase h slot) s = .next u ∧ queued u h { op := 0x0E04, cmd := h.ref, slot := slot } ∧
        (s.journal.jobs = [] → u.slotValid slot = false) ∧ u.mem = s.mem)) ∧
    (∀ h source len, let e : Ebryn := ⟨h, 0x0E05, .w, argBytes [(8, 8, source), (16, 4, len)], false⟩;
      s.accepts e →
      (s.rangeOk source len = false → exec (.profilePush h source len) s = .next ((s.entered e).respond h.ref 3 [])) ∧
      (s.rangeOk source len = true → ∃ u, exec (.profilePush h source len) s = .next u ∧ 
        (clean source len → u.boot.selected = none ∧ u.boot.pushed = some (s.bytesAt (source % 2 ^ 48) len) ∧ answered u h 0) ∧
        (poisoned source len → u.boot.pushed = s.boot.pushed ∧ answered u h 0xB) ∧ away u source len)) ∧
    (∀ h slot, let e : Ebryn := ⟨h, 0x0E06, .w, argBytes [(6, 1, slot)], false⟩;
      s.accepts e →
      (8 ≤ slot → exec (.profileSelect h slot) s = .next ((s.entered e).respond h.ref 3 [])) ∧
      (slot < 8 → exec (.profileSelect h slot) s = .next (((s.entered e).updBoot fun b => { b with selected := some slot, pushed := none }).respond h.ref 0 []))) ∧
    (∀ h source len, let e : Ebryn := ⟨h, 0x0E07, .b, argBytes [(8, 8, source), (16, 4, len)], false⟩;
      s.accepts e →
      (s.fuses.lc = 4 → exec (.fwWrite h source len) s = .next ((s.entered e).respond h.ref 4 [])) ∧
      (s.fuses.lc ≠ 4 → s.fuses.ue = true → exec (.fwWrite h source len) s = .next ((s.entered e).respond h.ref 5 [])) ∧
      (s.fuses.lc ≠ 4 → s.fuses.ue = false →
        (2 ^ 20 < len ∨ s.rangeOk source len = false → exec (.fwWrite h source len) s = .next ((s.entered e).respond h.ref 3 [])) ∧
        (len ≤ 2 ^ 20 → s.rangeOk source len = true → ∃ u, exec (.fwWrite h source len) s = .next u ∧
          let img := s.bytesAt (source % 2 ^ 48) len
          (clean source len → s.imageOk 1 img = true →
            queued u h { op := 0x0E07, cmd := h.ref, slot := if s.inBootRom then s.boot.fwSecond else 1 - s.sec.slot, img := img }) ∧
          (clean source len → s.imageOk 1 img = false → answered u h 4) ∧ (poisoned source len → answered u h 0xB) ∧ away u source len))) ∧
    (∀ h off value mask, let e : Ebryn := ⟨h, 0x0E08, .i, argBytes [(6, 4, off), (10, 4, value), (14, 4, mask)], false⟩;
      s.accepts e →
      let bad := off % 4 ≠ 0 ∨ (Reg.atOffset off).isNone = true
      let many := 4096 ≤ s.journal.settings.length ∧ mhas s.journal.settings off = false;
      (bad → exec (.journalSet h off value mask) s = .next ((s.entered e).respond h.ref 3 [])) ∧
      (¬bad → many → exec (.journalSet h off value mask) s = .next ((s.entered e).respond h.ref 4 [])) ∧
      (¬bad → ¬many → ∃ u, exec (.journalSet h off value mask) s = .next u ∧ u.mem = s.mem ∧
        queued u h { op := 0x0E08, cmd := h.ref, recs := [(2, leBytes 4 off ++ leBytes 4 value ++ leBytes 4 mask)] })) ∧
    (∀ h off, let e : Ebryn := ⟨h, 0x0E09, .i, argBytes [(6, 4, off)], false⟩;
      s.accepts e →
      let bad := off ≠ 0xFFFFFFFF ∧ (off % 4 ≠ 0 ∨ (Reg.atOffset off).isNone = true);
      (bad → exec (.journalClear h off) s = .next ((s.entered e).respond h.ref 3 [])) ∧
      (¬bad → ∃ u, exec (.journalClear h off) s = .next u ∧ u.mem = s.mem ∧ queued u h { op := 0x0E09, cmd := h.ref, recs := [(3, leBytes 4 off)] })) ∧
    (∀ h dest, let e : Ebryn := ⟨h, 0x0E0A, .i, argBytes [(8, 8, dest)], false⟩;
      s.accepts e →
      (s.rangeOk dest s.journal.off = false → exec (.journalRead h dest) s = .next ((s.entered e).respond h.ref 3 [])) ∧
      (s.rangeOk dest s.journal.off = true → ∃ u, exec (.journalRead h dest) s = .next u ∧
        (inStaging (dest % 2 ^ 48) s.journal.off = true → h.port = 0 → s.recording = false →
          ∀ k, k < s.journal.off → u.byte (dest % 2 ^ 48 + k) = s.flashByte (areaBase s.journal.area + k)))) ∧
    (∀ h, let e : Ebryn := ⟨h, 0x0E0B, .i, [], false⟩;
      s.accepts e → exec (.journalCompact h) s = .next ((s.entered e).updJ fun j => { j with compacting := true, waitCompact := j.waitCompact ++ [h.ref] })) ∧
    (s.journal.compacting = false → exec .journalCompaction s = .next s) ∧
    (s.journal.compacting = true → s.journal.area ≤ 1 → s.journal.tooBig = false → ∃ u, exec .journalCompaction s = .next u ∧ u.journal.compacting = false ∧
      u.journal.area = 1 - s.journal.area ∧ u.journal.gen = s.journal.gen + 1 ∧ u.journal.waitCompact = [] ∧ u.journal.records = s.journal.records ∧
      u.areaGen (1 - s.journal.area) = some ((s.journal.gen + 1) % 2 ^ 64) ∧ u.areaGen s.journal.area = none ∧ u.journal.jobs = s.journal.jobs ∧
      ∀ a, a < 0x200000 ∨ 0x400000 ≤ a → u.flashByte a = s.flashByte a) ∧
    (∀ failed, s.journal.jobs = [] → exec (.programOrEraseEnd failed) s = .next s) ∧
    (∀ j rest, s.journal.jobs = j :: rest →
      (j.recs ≠ [] → s.journal.compacting = true → ∀ failed, exec (.programOrEraseEnd failed) s = .next s) ∧
      (j.recs ≠ [] → s.journal.compacting = false → rest = [] → ∃ u, exec (.programOrEraseEnd true) s = .next u ∧ u.journal.jobs = [] ∧
        u.journal.compacting = true ∧ u.flash = s.flash ∧ u.journal.settings = s.journal.settings) ∧
      (∀ off value mask, j.recs = [(2, leBytes 4 off ++ leBytes 4 value ++ leBytes 4 mask)] → off < 2 ^ 32 ∧ value < 2 ^ 32 ∧ mask < 2 ^ 32 →
        s.journal.compacting = false → rest = [] → (s.journal.apply 2 (leBytes 4 off ++ leBytes 4 value ++ leBytes 4 mask)).tooBig = false →
        ∃ u, exec (.programOrEraseEnd false) s = .next u ∧ u.journal.jobs = [] ∧ u.journal.seq = s.journal.seq + 2 ∧ u.journal.off = s.journal.off + 48 ∧
          u.journal.settings = mput (fun _ => (0, 0)) s.journal.settings off (value, mask) ∧
          u.flashBytes (areaBase s.journal.area + s.journal.off) 32 = journalRec (s.journal.seq + 1) 2 (leBytes 4 off ++ leBytes 4 value ++ leBytes 4 mask)) ∧
      (j.recs = [] → rest = [] →
        (∃ u, exec (.programOrEraseEnd true) s = .next u ∧ u.journal.jobs = [] ∧ (∀ k, k < 256 → u.flashByte (j.base + k) = 0xFF)) ∧
        (j.op = 0x0E04 → ∃ u, exec (.programOrEraseEnd false) s = .next u ∧ u.journal.jobs = [] ∧ u.flash = s.flash ∧
          (j.cmd.1 ≠ 18 → u.mem = s.mem)) ∧
        (j.op ≠ 0x0E04 →
          (j.stage = 1 → ∃ u, exec (.programOrEraseEnd false) s = .next u ∧ u.journal.jobs = [{ j with stage := 2 }] ∧
            (∀ a, u.flashByte a = if j.base ≤ a ∧ a < j.top then 0xFF else s.flashByte a)) ∧
          (j.stage = 2 → ∃ u, exec (.programOrEraseEnd false) s = .next u ∧ u.journal.jobs = [{ j with stage := 3 }] ∧
            u.flashBytes j.body.1 j.body.2.length = j.body.2) ∧
          (3 ≤ j.stage → j.op = 0x0E03 → j.slot < 8 → j.img.length < 2 ^ 32 → ∃ u, exec (.programOrEraseEnd false) s = .next u ∧ u.journal.jobs = [] ∧
            u.slotValid j.slot = true ∧ u.slotLen j.slot = j.img.length))))

/-- R373, R374 and R410 to R417. Signatures and certificates are opaque (log entry 12). -/
def Obligations.SecurityCommandsAndTap : Prop :=
  ∀ (s : State), s.canon → s.tables →
    let spent (u : State) : Prop := u.f Fld.LC_CHAL_CTRL_VALID 0 = 0 ∧ ∀ k, k < 8 → u.f Fld.LC_CHAL_CHAL k = 0
    let clean (source len : Nat) : Prop := inStaging (source % 2 ^ 48) len = true ∧ s.node < 1024 ∧ ∀ k, k < len + 32 → s.syn (source % 2 ^ 48 / 32 * 32 + k) = 0
    let poisoned (source len : Nat) : Prop := inStaging (source % 2 ^ 48) len = true ∧ s.node < 1024 ∧ s.syn (source % 2 ^ 48) = poisonSyn
    (∀ h curve dest, let e : Ebryn := ⟨h, 0x0C02, .i, argBytes [(6, 1, curve), (8, 8, dest)], false⟩;
      s.accepts e →
      let d := (s.entered e).certBytes curve;
      (curve ≠ 1 ∧ curve ≠ 2 → exec (.certRead h curve dest) s = .next ((s.entered e).respond h.ref 3 [])) ∧
      (curve = 1 ∨ curve = 2 → s.fuses.lc = 0 → exec (.certRead h curve dest) s = .next ((s.entered e).respond h.ref 5 [])) ∧
      (curve = 1 ∨ curve = 2 → s.fuses.lc ≠ 0 → ∃ u, exec (.certRead h curve dest) s = .next u ∧
        (s.rangeOk dest d.length = false → u = (s.entered e).respond h.ref 3 []) ∧
        (inStaging (dest % 2 ^ 48) d.length = true → s.rangeOk dest d.length = true → h.port = 0 → ∀ k, k < d.length → u.byte (dest % 2 ^ 48 + k) = d.getD k 0))) ∧
    (∀ h curve dest nonce, let e : Ebryn := ⟨h, 0x0C03, .i, argBytes [(6, 1, curve), (8, 8, dest)] ++ fit 0 32 nonce, false⟩;
      s.accepts e →
      let r := (s.entered e).report curve nonce
      let d := r ++ (s.entered e).idSign curve r;
      (curve ≠ 1 ∧ curve ≠ 2 → exec (.attest h curve dest nonce) s = .next ((s.entered e).respond h.ref 3 [])) ∧
      (curve = 1 ∨ curve = 2 →
        (s.fuses.lc ≠ 2 → s.fuses.lc ≠ 3 → exec (.attest h curve dest nonce) s = .next ((s.entered e).respond h.ref 5 [])) ∧
        (s.fuses.lc = 2 ∨ s.fuses.lc = 3 →
          (s.rangeOk dest d.length = false → exec (.attest h curve dest nonce) s = .next ((s.entered e).respond h.ref 3 [])) ∧
          (s.rangeOk dest d.length = true → ∃ u, exec (.attest h curve dest nonce) s = .next u ∧
            (inStaging (dest % 2 ^ 48) d.length = true → h.port = 0 → ∀ k, k < d.length → u.byte (dest % 2 ^ 48 + k) = d.getD k 0))))) ∧
    (∀ h target source len, let e : Ebryn := ⟨h, 0x0C04, .s, argBytes [(6, 1, target), (8, 8, source), (16, 4, len)], false⟩;
      s.accepts e →
      let refused (st : Nat) : Prop := ∃ u, exec (.lcTransition h target source len) s = .next u ∧ spent u ∧ u.fuses = s.fuses ∧
        u = ((s.entered e).consumeChallenge).respond h.ref st [];
      (s.f Fld.PW_SHED_STATUS_LEVEL 0 ≠ 0 → refused 5) ∧
      (s.f Fld.PW_SHED_STATUS_LEVEL 0 = 0 → s.shutdown = true → refused 4) ∧
      (s.f Fld.PW_SHED_STATUS_LEVEL 0 = 0 → s.shutdown = false →
        (s.sec.transition.isSome = true → refused 2) ∧
        (s.sec.transition = none → len < 240 ∨ 432 < len ∨ s.rangeOk source len = false → refused 3) ∧
        (s.sec.transition = none → 240 ≤ len → len ≤ 432 → s.rangeOk source len = true →
          let a := s.bytesAt (source % 2 ^ 48) len
          ∃ u, exec (.lcTransition h target source len) s = .next u ∧
          (decodeAddr (source % 2 ^ 48) ≠ .scratch → u.fuses = s.fuses) ∧
          (poisoned source len → spent u ∧ u.fuses = s.fuses ∧ u.f Fld.LC_AUTH_FAIL_COUNT 0 = s.f Fld.LC_AUTH_FAIL_COUNT 0) ∧
          (clean source len → spent u ∧ (lcSlots s.fuses.lc target = none → u.fuses = s.fuses)) ∧
          (clean source len → ∀ lo hi, lcSlots s.fuses.lc target = some (lo, hi) →
            let ok := (s.entered e).authOk a 1 target lo hi = true ∧ lcLength target len = true;
            (¬ok → u.fuses = s.fuses ∧ (lcLength target len = true → u.f Fld.LC_AUTH_FAIL_COUNT 0 = min (s.f Fld.LC_AUTH_FAIL_COUNT 0 + 1) Fld.LC_AUTH_FAIL_COUNT.top)) ∧
            (ok → s.fuses.partTry = 0 → target ≠ 2 → u.fuses.lc = target ∧ u.boot.delayedReset = some 2 ∧
              (target = 4 → u.fuses.idKeys = false ∧ u.fuses.idSecret = 0 ∧ u.fuses.idSecret2 = 0) ∧ (target = 1 → u.fuses.idKeys = true) ∧
              (s.fuses.lc = 0 → u.fuses.portsOff = true) ∧
              ∀ k, k < 32 → u.rgState k = 0 ∧ (u.enc k).txKey = none ∧ (u.enc k).rxKey = none))))) ∧
    (∀ h level source len, let e : Ebryn := ⟨h, 0x0C05, .s, argBytes [(6, 1, level), (8, 8, source), (16, 4, len)], false⟩;
      s.accepts e →
      let t := (s.entered e).consumeChallenge;
      (2 < level → exec (.debugAccess h level source len) s = .next (t.respond h.ref 3 [])) ∧
      (level ≤ 2 → s.boot.step < 9 → exec (.debugAccess h level source len) s = .next (t.respond h.ref 5 [])) ∧
      (9 ≤ s.boot.step → level = 0 → exec (.debugAccess h level source len) s = .next ((t.setF Fld.LC_DEBUG_LEVEL 0 (debugDefault s.fuses.lc)).respond h.ref 0 [])) ∧
      (9 ≤ s.boot.step → 1 ≤ level → level ≤ 2 →
        (s.fuses.lc = 4 → exec (.debugAccess h level source len) s = .next (t.respond h.ref 4 [])) ∧
        (s.fuses.lc = 0 → exec (.debugAccess h level source len) s = .next ((t.setF Fld.LC_DEBUG_LEVEL 0 level).respond h.ref 0 [])) ∧
        (s.fuses.lc ≠ 0 → s.fuses.lc ≠ 4 → len ≠ 240 ∨ s.rangeOk source len = false → exec (.debugAccess h level source len) s = .next (t.respond h.ref 3 [])) ∧
        (s.fuses.lc ≠ 0 → s.fuses.lc ≠ 4 → len = 240 → s.rangeOk source len = true →
          let ok := (s.entered e).authOk (s.bytesAt (source % 2 ^ 48) len) 2 level (if s.fuses.lc = 2 then 4 else 0) (if s.fuses.lc = 2 then 7 else 3) = true;
          ∃ u, exec (.debugAccess h level source len) s = .next u ∧
          (poisoned source len → spent u ∧ u.f Fld.LC_DEBUG_LEVEL 0 = s.f Fld.LC_DEBUG_LEVEL 0 ∧ u.f Fld.LC_AUTH_FAIL_COUNT 0 = s.f Fld.LC_AUTH_FAIL_COUNT 0) ∧
          (decodeAddr (source % 2 ^ 48) ≠ .scratch → u.f Fld.LC_DEBUG_LEVEL 0 = s.f Fld.LC_DEBUG_LEVEL 0) ∧
          (clean source len → spent u) ∧ (clean source len → ok → u.f Fld.LC_DEBUG_LEVEL 0 = level) ∧
          (clean source len → ¬ok → u.f Fld.LC_DEBUG_LEVEL 0 = s.f Fld.LC_DEBUG_LEVEL 0 ∧
            u.f Fld.LC_AUTH_FAIL_COUNT 0 = min (s.f Fld.LC_AUTH_FAIL_COUNT 0 + 1) Fld.LC_AUTH_FAIL_COUNT.top)))) ∧
    (∀ op, (s.boot.por = true → exec (.tapAccess op) s = .next s) ∧
      (s.boot.por = false → s.f Fld.BT_STATUS_ST_RUNNING 0 = 1 → op ≠ .reset → ∃ u, exec (.tapAccess op) s = .next u ∧
        u.sec.tap = { s.sec.tap with q := s.sec.tap.q ++ [op] } ∧ u.regs = s.regs ∧ u.mem = s.mem)) ∧
    (s.boot.por = false → s.f Fld.BT_STATUS_ST_RUNNING 0 = 0 → s.sec.tap.busy = false → s.sec.tap.q = [] → let level := s.f Fld.LC_DEBUG_LEVEL 0;
      (∃ u, exec (.tapAccess .reset) s = .next u ∧ u.sec.tap.ir = 1 ∧ u.sec.tap.dr = 0 ∧ u.regs = s.regs ∧ u.mem = s.mem) ∧
      (∀ code, code < 256 → ∃ u, exec (.tapAccess (.shiftIr code)) s = .next u ∧ u.sec.tap.ir = (if tapLevel code ≤ level then code else 0xFF) ∧
        (s.recording = false → s.replaying = false → u.regs = s.regs ∧ u.mem = s.mem)) ∧
      (∀ v, s.sec.tap.ir = 1 → ∃ u, exec (.tapAccess (.shiftDr v 32)) s = .next u ∧ u.sec.tap.out = 0x18412CB7 ∧ u.sec.tap.dr = v % 2 ^ 32 ∧ u.regs = s.regs) ∧
      (∀ v n, s.sec.tap.ir = 0xFF → 1 ≤ n → ∃ u, exec (.tapAccess (.shiftDr v n)) s = .next u ∧ u.sec.tap.out = 2 * v % 2 ^ n ∧
        u.sec.tap.dr = v / 2 ^ (n - 1) % 2 ∧ u.regs = s.regs) ∧
      (level = 0 → ∀ a v e, exec (.tapAccess (.debugRead a)) s = .next s ∧ exec (.tapAccess (.debugWrite a v)) s = .next s ∧ exec (.tapAccess (.debugHalt e)) s = .next s) ∧
      (∀ a v, level ≠ 2 → exec (.tapAccess (.debugWrite a v)) s = .next s) ∧
      (∀ a v, level = 2 → 0x120000000 ≤ a → a + 4 ≤ 0x120200000 → a % 4 = 0 → s.recording = false → s.replaying = false →
        ∃ u, exec (.tapAccess (.debugWrite a v)) s = .next u ∧ u.f Fld.EP_STATUS_DEBUG_FORCED 0 = 1 ∧
        (∀ k, k < 4 → u.byte (a + k) = BitVec.ofNat 8 (v / 256 ^ k)) ∧ ∀ x, x / 32 ≠ a / 32 → u.byte x = s.byte x) ∧
      (∀ a, 1 ≤ level → 0x120000000 ≤ a → a + 4 ≤ 0x120200000 → a % 4 = 0 → s.recording = false → s.replaying = false →
        ∃ u, exec (.tapAccess (.debugRead a)) s = .next u ∧ u.sec.tap.out = leNat (slice (s.decoded a).1 (a % 32) 4) ∧
        ∀ x, x / 32 ≠ a / 32 → u.byte x = s.byte x))

/-- R420 to R431. The stamps between inputs are free (log entry 26). -/
def Obligations.RecordingsAndReplaysRun : Prop :=
  ∀ (s : State), s.canon → s.tables →
    (∀ h first banks links sources,
      let e : Ebryn := ⟨h, 0x0D02, .r, argBytes [(6, 2, first), (8, 2, banks), (12, 4, links), (16, 1, sources)], false⟩;
      s.accepts e →
      let bad := s.ringOk first banks = false ∨ 16 ≤ sources;
      (bad → exec (.recordStart h first banks links sources) s = .next ((s.entered e).respond h.ref 3 [])) ∧
      (¬bad → s.rpRuns = true ∨ s.commit.isSome = true → exec (.recordStart h first banks links sources) s = .next ((s.entered e).respond h.ref 2 [])) ∧
      (¬bad → s.rpRuns = false → s.commit = none → s.gateShut 4 2 = true → exec (.recordStart h first banks links sources) s = .next ((s.entered e).respond h.ref 5 [])) ∧
      (¬bad → s.rpRuns = false → s.commit = none → s.gateShut 4 2 = false → ∃ u, exec (.recordStart h first banks links sources) s = .next u ∧
        (let t := (s.entered e).originRun first banks links sources;
          (t.validSet t.staged = false → u = (s.entered e).respond h.ref 3 []) ∧
          (t.validSet t.staged = true → u.rpState = 1 ∧ u.replay.origin = 2 ∧ u.commit = some { phase := 1, inner := 4, cmd := some h.ref } ∧ u.staged = [])))) ∧
    (∀ h first banks, let e : Ebryn := ⟨h, 0x0D04, .r, argBytes [(6, 2, first), (8, 2, banks)], false⟩;
      s.accepts e →
      let no (st : Nat) := (s.entered e).respond h.ref st [];
      (s.ringOk first banks = false → exec (.replayStart h first banks) s = .next (no 3)) ∧
      (s.ringOk first banks = true → s.rpRuns = true ∨ s.commit.isSome = true → exec (.replayStart h first banks) s = .next (no 2)) ∧
      (s.ringOk first banks = true → s.rpRuns = false → s.commit = none → s.gateShut 4 2 = true → exec (.replayStart h first banks) s = .next (no 5)) ∧
      (s.ringOk first banks = true → s.rpRuns = false → s.commit = none → s.gateShut 4 2 = false →
        ∃ u, exec (.replayStart h first banks) s = .next u ∧ u.mem = s.mem ∧ u.commit = none ∧ u.rpState = s.rpState ∧ ∃ q,
        mget (fun _ => []) u.net.send 546 = mget (fun _ => []) s.net.send 546 ++ [q] ∧ q.type = 0 ∧ q.len = 255 ∧
        q.dest = 0x800000 * first + 2 ^ 48 * s.node ∧ u.outReq (outKey 546 0 q.tag) = some { pkt := q } ∧
        (u.inprogOf h.ref).map (·.args) = some (MemOp.args { tag := q.tag, addr := q.dest, len := 256, info := banks, bytes := [] }))) ∧
    (∀ p s', s.take 546 1 = some (p, s') → ∀ q, s'.outReq (outKey 546 p.dstPlane p.tag) = some q → q.expired = false ∧ q.pkt.type = 0 ∧ q.pkt.srcPlane = 0 →
      ∀ e, s.mpUser q.pkt.tag = some e → e.opcode = 0x0D04 → ∀ first banks,
      e.args = MemOp.args { tag := q.pkt.tag, addr := 0x800000 * first + 2 ^ 48 * s.node, len := 256, info := banks, bytes := [] } →
      first < 512 ∧ p.status = 0 ∧ p.payload.length = 256 ∧ p.poison < 256 →
      let d := p.payload
      let c : CmdRef := (e.port, e.node, e.ep, e.tag)
      let w := s'.setOut (outKey 546 p.dstPlane p.tag) none
      let no (st : Nat) := (w.respond c st []).pumpPosts 546
      let bad := s.ringOk first banks = false ∨ ringHeadOk d banks = false
      let ours := slice d 32 48 = fit 0 48 s.boot.profHash ∧ slice d 80 48 = fit 0 48 s.sec.measurement;
      (p.poison ≠ 0 → exec (.responseArrival 546) s = .next (no 0xB)) ∧
      (p.poison = 0 ∧ bad → exec (.responseArrival 546) s = .next (no 3)) ∧
      (p.poison = 0 ∧ ¬bad ∧ ¬ours → exec (.responseArrival 546) s = .next (no 4)) ∧
      (p.poison = 0 ∧ ¬bad ∧ ours ∧ (s.rpRuns = true ∨ s.commit.isSome = true) → exec (.responseArrival 546) s = .next (no 2)) ∧
      (p.poison = 0 ∧ ¬bad ∧ ours ∧ s.rpRuns = false ∧ s.commit = none ∧ s.gateShut 4 2 = true → exec (.responseArrival 546) s = .next (no 5)) ∧
      (p.poison = 0 ∧ ¬bad ∧ ours ∧ s.rpRuns = false ∧ s.commit = none ∧ s.gateShut 4 2 = false → ∃ u, exec (.responseArrival 546) s = .next u ∧
        (let t := w.originRun first banks (leNat (slice d 8 4)) (leNat (slice d 12 1) % 16);
          t.validSet t.staged = true → u.rpState = 1 ∧ u.replay.origin = 3 ∧ u.commit = some { phase := 1, inner := 4, cmd := some c }))) ∧
    (∀ h, let e : Ebryn := ⟨h, 0x0D03, .r, [], false⟩;
      s.accepts e →
      (s.recording = false → exec (.recordStop h) s = .next ((s.entered e).respond h.ref 4 [])) ∧
      (s.recording = true → (s.entered e).recording = true → ∃ u, exec (.recordStop h) s = .next u ∧ u.rpState = 5 ∧ u.replay.buf = [])) ∧
    (∀ h, let e : Ebryn := ⟨h, 0x0D05, .r, [], false⟩;
      s.accepts e →
      (s.rpState ≠ 3 → s.rpState ≠ 4 → exec (.replayStop h) s = .next ((s.entered e).respond h.ref 4 [])) ∧
      (s.rpState = 3 ∨ s.rpState = 4 → exec (.replayStop h) s = .next (((s.entered e).updBoot fun b => { b with delayedReset := some 2 }).respond h.ref 0 []))) ∧
    (s.recording = false ∨ s.replay.shedGap = true → exec .recorderDrain s = .next s) ∧
    (s.recording = true → s.replay.shedGap = false → ((List.range (s.f Fld.RP_RING_BANKS 0)).any fun j => s.retained (s.f Fld.RP_RING_FIRST 0 + j)) = false →
      s.replay.gapOwed = false → ∃ u, exec .recorderDrain s = .next u ∧ u.replay.buf = [] ∧ u.replay.bufBytes = 0 ∧ u.replay.seq = s.replay.seq ∧
      (u.rpState = 2 ∨ u.rpState = 5) ∧
      (∀ r, s.replay.buf = [r] → s.replay.ringOff + r.length ≤ s.ringSize → u.rpState = 2 ∧ u.replay.ringOff = s.replay.ringOff + r.length ∧
        u.net = (s.postSpan 546 (s.ringBase + s.replay.ringOff) r).net ∧ u.mem = s.mem ∧
        u.f Fld.RP_FILL_UNITS 0 = min (s.f Fld.RP_FILL_UNITS 0 + r.length / 16) Fld.RP_FILL_UNITS.top)) ∧
    (s.recording = false → s.replaying = false → exec .checkRecord s = .next s) ∧
    (s.recording = true → s.nextCheck ≤ 2 ^ 48 - 1 → s.replay.shedGap = false → s.replay.gapOwed = false → s.replay.bufBytes + 32 ≤ 2 ^ 20 →
      s.replay.last ≤ recPlace s.nextCheck 0 8 0 → ∃ u, exec .checkRecord s = .next u ∧ u.replay.stamp = s.nextCheck ∧ u.replay.outCount = 0 ∧ u.replay.outCrc = 0xFFFFFFFF ∧
      u.replay.buf = s.replay.buf ++ [recBytes s.nextCheck 0 8 0 s.replay.seq (leBytes 4 (~~~ s.replay.outCrc).toNat ++ leBytes 4 s.replay.outCount)] ∧
      u.regs = s.regs ∧ u.mem = s.mem) ∧
    (s.replaying = true → s.breakAhead = none → s.nextCheck ≤ 2 ^ 48 - 1 → ∀ r, s.ringRec s.replay.readOff = some r → r.kind = 8 ∧ r.stamp = s.nextCheck →
      ∃ u, exec .checkRecord s = .next u ∧ u.replay.stamp = s.nextCheck ∧ u.replay.readOff = s.replay.readOff + r.size ∧ u.mem = s.mem ∧
      (r.payload ≠ leBytes 4 (~~~ s.replay.outCrc).toNat ++ leBytes 4 s.replay.outCount → u.f Fld.RP_STATUS_DIVERGED 0 = 1) ∧
      (r.payload = leBytes 4 (~~~ s.replay.outCrc).toNat ++ leBytes 4 s.replay.outCount → u.f Fld.RP_STATUS_DIVERGED 0 = s.f Fld.RP_STATUS_DIVERGED 0)) ∧
    (s.recording = true → s.replay.stamp / 65536 = (2 ^ 48 - 1) / 65536 → ∃ u, exec .stampLimit s = .next u ∧ u.rpState = 5 ∧ u.replay.stamp = 2 ^ 48 - 1 ∧ u.replay.buf = []) ∧
    (s.recording = false ∨ s.replay.stamp / 65536 ≠ (2 ^ 48 - 1) / 65536 → exec .stampLimit s = .next s) ∧
    (∀ found, s.dueRec = none → exec (.replayInjection found) s = .next s) ∧
    (∀ found r, s.dueRec = some r →
      (9 ≤ r.kind → exec (.replayInjection found) s = .next s) ∧
      (r.kind = 6 → ∃ u, exec (.replayInjection found) s = .next u ∧ u.replay.stamp = max s.replay.stamp r.stamp ∧ u.replay.phase = r.phase ∧
        u.replay.readOff = s.replay.readOff + r.size ∧ u.f Fld.TH_STATUS_LEVEL 0 = leNat (slice r.payload 0 1) % 2 ^ Fld.TH_STATUS_LEVEL.width ∧
        u.f Fld.TH_STATUS_REQ 0 = (if leNat (slice r.payload 1 1) = 1 then 1 else 0)) ∧
      (r.kind = 7 → ∃ u, exec (.replayInjection found) s = .next u ∧ u.replay.hazRing.contains r.stamp = true ∧ u.replay.readOff = s.replay.readOff + r.size ∧ u.mem = s.mem) ∧
      (r.kind = 2 → r.source < 16 → ∃ u, exec (.replayInjection found) s = .next u ∧ u.replay.readOff = s.replay.readOff + r.size ∧
        u.f Fld.DP_STATUS_STATE r.source = leNat (slice r.payload 0 1) % 2 ^ Fld.DP_STATUS_STATE.width ∧
        u.f Fld.DP_STATUS_RATE r.source = leNat (slice r.payload 1 1) % 2 ^ Fld.DP_STATUS_RATE.width) ∧
      (r.kind = 2 → 16 ≤ r.source → r.source < 32 → ∃ u, exec (.replayInjection found) s = .next u ∧ u.replay.readOff = s.replay.readOff + r.size ∧
        u.f Fld.SL_STATUS_STATE (r.source - 16) = leNat (slice r.payload 0 1) % 2 ^ Fld.SL_STATUS_STATE.width ∧
        u.f Fld.SL_STATUS_RATE (r.source - 16) = leNat (slice r.payload 1 1) % 2 ^ Fld.SL_STATUS_RATE.width)) ∧
    (∀ cause, s.replaying = false ∨ 3 ≤ cause → exec (.replayHalt cause) s = .next s) ∧
    (s.replaying = true →
      let halted (u : State) : Prop := u.rpState = 4 ∧ (∀ e, e < 256 → s.engState e = 2 → u.f Fld.DE_CTRL_HALT e = 1) ∧
        (∀ n, n < 128 → s.roomState n = 0 → (u.room n).toStop = 2) ∧ ∀ n, n < 128 → (u.stair n).slice = none
      (s.ringRec s.replay.readOff = none → ∃ u, exec (.replayHalt 2) s = .next u ∧ halted u) ∧
      (∀ r, s.dueRec = some r → r.kind = 9 → ∃ u, exec (.replayHalt 1) s = .next u ∧ halted u ∧ u.f Fld.RP_STATUS_GAP 0 = 1) ∧
      (∀ r, s.dueRec = some r → r.kind = 10 ∨ r.kind = 11 → ∃ u, exec (.replayHalt 2) s = .next u ∧ halted u) ∧
      (∀ b, s.breakAhead = some b → ∀ r, s.ringRec s.replay.readOff = some r → b ≤ r.stamp ∧ b ≤ s.nextCheck →
        ∃ u, exec (.replayHalt 0) s = .next u ∧ halted u ∧ u.replay.stamp = b))
end

