-- ==== Sys2Proof/Laws/Closed.lean ====
section
/-!
SUPPORT. Predicates on states that the shared operations keep. `Clo m P` says that P is kept by every primitive change of
the kinds of state named by the bits of m; the lemmas `f_inv` of the files beside this one say, once for every operation of
the model, which kinds it may change: a predicate closed under these holds after it. Kinds, by bit: 0 any register, 1 the
counter of free values, 2 the staged and snapshot sets, the commit, the epoch and the enumeration, 3 mailbox, 4 corridor,
5 recorder, 6 rooms, 7 stairs and the mowing round, 8 banks and services, 9 error log, 10 memories, 11 scheduler,
12 engines, 13 links, 14 crypto unit, 15 clocks, power, boot and security, 16 journal, 17 fuses, 18 flash, 19 the resets of
the whole stack, 20 the scheduler's tables, 21 the high words latched, 22 the check bits of storage on die, and from 24 on the single registers, in the order of
`Reg`.
-/
namespace Sys2Proof.Machine

/-- P is kept by the primitive changes of the kinds in m. -/
structure Clo (m : Nat) (P : State → Prop) : Prop where
  wr : ∀ {r : Reg}, m.testBit (24 + r.ctorIdx) = true → ∀ {s i w}, P s → P (s.wr r i w)
  setTab : m.testBit 20 = true → ∀ {s} o w, 0x10000000 ≤ o → P s → P (s.setRaw o w)
  setRaw : m.testBit 0 = true → ∀ {s} o w, P s → P (s.setRaw o w)
  dropRegs : m.testBit 0 = true → ∀ {s : State} lo hi, P s → P { s with regs := Machine.dropRegs s.regs lo hi }
  latch : m.testBit 21 = true → ∀ {s : State} v, P s → P { s with latch := v }
  drawn : m.testBit 1 = true → ∀ {s}, P s → P s.drawn
  odClear : m.testBit 22 = true → ∀ {s} o, P s → P (s.odClear o)
  staged : m.testBit 2 = true → ∀ {s : State} v, P s → P { s with staged := v }
  snapshot : m.testBit 2 = true → ∀ {s : State} v, P s → P { s with snapshot := v }
  commit : m.testBit 2 = true → ∀ {s : State} v, P s → P { s with commit := v }
  epoch : m.testBit 2 = true → ∀ {s : State} v, P s → P { s with epoch := v }
  enumer : m.testBit 2 = true → ∀ {s : State} v, P s → P { s with enumer := v }
  mail : m.testBit 3 = true → ∀ {s : State} v, P s → P { s with mail := v }
  net : m.testBit 4 = true → ∀ {s : State} v, P s → P { s with net := v }
  replay : m.testBit 5 = true → ∀ {s : State} v, P s → P { s with replay := v }
  updRoom : m.testBit 6 = true → ∀ {s} n g, P s → P (s.updRoom n g)
  updStair : m.testBit 7 = true → ∀ {s} n g, P s → P (s.updStair n g)
  mow : m.testBit 7 = true → ∀ {s : State} v, P s → P { s with mow := v }
  updBank : m.testBit 8 = true → ∀ {s} n g, P s → P (s.updBank n g)
  svc : m.testBit 8 = true → ∀ {s : State} v, P s → P { s with svc := v }
  svcNext : m.testBit 8 = true → ∀ {s : State} v, P s → P { s with svcNext := v }
  ecLog : m.testBit 9 = true → ∀ {s : State} v, P s → P { s with ecLog := v }
  setByte : m.testBit 10 = true → ∀ {s} a b, P s → P (s.setByte a b)
  setSyn : m.testBit 10 = true → ∀ {s} a w, P s → P (s.setSyn a w)
  wipe : m.testBit 10 = true → ∀ {s} lo hi, P s → P (s.wipe lo hi)
  sched : m.testBit 11 = true → ∀ {s : State} v, P s → P { s with sched := v }
  updEng : m.testBit 12 = true → ∀ {s} n g, P s → P (s.updEng n g)
  updLink : m.testBit 13 = true → ∀ {s} n g, P s → P (s.updLink n g)
  linkPut : m.testBit 13 = true → ∀ {s : State} k l, P s → P { s with links := mput (fun _ => {}) s.links k l }
  crypto : m.testBit 14 = true → ∀ {s : State} v, P s → P { s with crypto := v }
  clk : m.testBit 15 = true → ∀ {s : State} v, P s → P { s with clk := v }
  pow : m.testBit 15 = true → ∀ {s : State} v, P s → P { s with pow := v }
  boot : m.testBit 15 = true → ∀ {s : State} v, P s → P { s with boot := v }
  sec : m.testBit 15 = true → ∀ {s : State} v, P s → P { s with sec := v }
  journal : m.testBit 16 = true → ∀ {s : State} v, P s → P { s with journal := v }
  fuses : m.testBit 17 = true → ∀ {s : State} v, P s → P { s with fuses := v }
  program : m.testBit 18 = true → ∀ {s} a d, P s → P (s.program a d)
  eraseFlash : m.testBit 18 = true → ∀ {s} lo hi, P s → P (s.eraseFlash lo hi)
  powerOn : m.testBit 19 = true → ∀ {s}, P s → P s.powerOn
  stackReset : m.testBit 19 = true → ∀ {s}, P s → P s.stackReset

theorem bit_sub {m m' : Nat} (h : m' &&& m = m') {i : Nat} (hi : m'.testBit i = true) : m.testBit i = true := by
  rw [← h, Nat.testBit_and, Bool.and_eq_true] at hi
  exact hi.2

variable {P : State → Prop}

/-- Closed under more kinds is closed under fewer. -/
theorem Clo.mono {m m' : Nat} (h : m' &&& m = m') (c : Clo m P) : Clo m' P :=
  { wr := fun i => c.wr (bit_sub h i), setTab := fun i => c.setTab (bit_sub h i), setRaw := fun i => c.setRaw (bit_sub h i), dropRegs := fun i => c.dropRegs (bit_sub h i), latch := fun i => c.latch (bit_sub h i),
    drawn := fun i => c.drawn (bit_sub h i), odClear := fun i => c.odClear (bit_sub h i), staged := fun i => c.staged (bit_sub h i), snapshot := fun i => c.snapshot (bit_sub h i),
    commit := fun i => c.commit (bit_sub h i), epoch := fun i => c.epoch (bit_sub h i), enumer := fun i => c.enumer (bit_sub h i),
    mail := fun i => c.mail (bit_sub h i), net := fun i => c.net (bit_sub h i), replay := fun i => c.replay (bit_sub h i),
    updRoom := fun i => c.updRoom (bit_sub h i), updStair := fun i => c.updStair (bit_sub h i), mow := fun i => c.mow (bit_sub h i),
    updBank := fun i => c.updBank (bit_sub h i), svc := fun i => c.svc (bit_sub h i), svcNext := fun i => c.svcNext (bit_sub h i),
    ecLog := fun i => c.ecLog (bit_sub h i), setByte := fun i => c.setByte (bit_sub h i), setSyn := fun i => c.setSyn (bit_sub h i),
    wipe := fun i => c.wipe (bit_sub h i), sched := fun i => c.sched (bit_sub h i), updEng := fun i => c.updEng (bit_sub h i),
    updLink := fun i => c.updLink (bit_sub h i), linkPut := fun i => c.linkPut (bit_sub h i), crypto := fun i => c.crypto (bit_sub h i),
    clk := fun i => c.clk (bit_sub h i), pow := fun i => c.pow (bit_sub h i), boot := fun i => c.boot (bit_sub h i),
    sec := fun i => c.sec (bit_sub h i), journal := fun i => c.journal (bit_sub h i), fuses := fun i => c.fuses (bit_sub h i),
    program := fun i => c.program (bit_sub h i), eraseFlash := fun i => c.eraseFlash (bit_sub h i),
    powerOn := fun i => c.powerOn (bit_sub h i), stackReset := fun i => c.stackReset (bit_sub h i) }

theorem Clo.setF {m : Nat} (c : Clo m P) {F : Field} (h : m.testBit (24 + F.reg.ctorIdx) = true) {s : State} {i v : Nat} (k : P s) :
    P (s.setF F i v) := c.wr h k
theorem Clo.inc {m : Nat} (c : Clo m P) {F : Field} (h : m.testBit (24 + F.reg.ctorIdx) = true) {s : State} {i v : Nat} (k : P s) :
    P (s.inc F i v) := c.wr h k
theorem Clo.incW {m : Nat} (c : Clo m P) {F : Field} (h : m.testBit (24 + F.reg.ctorIdx) = true) {s : State} {i v : Nat} (k : P s) :
    P (s.incW F i v) := c.wr h k
theorem Clo.wrAny {m : Nat} (c : Clo m P) (h : m.testBit 0 = true) {s : State} {r : Reg} {i : Nat} {w : Word} (k : P s) :
    P (s.wr r i w) := c.setRaw h _ _ k
theorem Clo.setLoc {m : Nat} (c : Clo m P) (h : m.testBit 20 = true) {s : State} {l i : Nat} {w : Word} (k : P s) :
    P (s.setRaw (locKey l i) w) := c.setTab h _ _ (by unfold locKey; omega) k
theorem Clo.setLinkF {m : Nat} (c : Clo m P) {F G : Field} (h : m.testBit (24 + F.reg.ctorIdx) = true)
    (h' : m.testBit (24 + G.reg.ctorIdx) = true) {s : State} {i v : Nat} (k : P s) : P (s.setLinkF F G i v) := by
  unfold State.setLinkF
  split
  · exact c.setF h' k
  · exact c.setF h k
theorem Clo.incLinkW {m : Nat} (c : Clo m P) {F G : Field} (h : m.testBit (24 + F.reg.ctorIdx) = true)
    (h' : m.testBit (24 + G.reg.ctorIdx) = true) {s : State} {i : Nat} (k : P s) : P (s.incLinkW F G i) := by
  unfold State.incLinkW
  split
  · exact c.incW h' k
  · exact c.incW h k

/-! ### The predicate on what an operation answers -/

def SndP {α β : Type} (Q : β → Prop) (x : α × β) : Prop := Q x.2
def FstP {α β : Type} (Q : α → Prop) (x : α × β) : Prop := Q x.1
def OptP {α : Type} (Q : α → Prop) : Option α → Prop
  | some a => Q a
  | none => True
def OutP (Q : State → Prop) : Host.Outcome State Fault Refusal → Prop
  | .next t => Q t
  | .fault _ => True
  | .refused _ => True
def FunP (Q : State → Prop) (f : State → State) : Prop := ∀ t, Q t → Q (f t)
def IssueP (Q : State → Prop) : Issue → Prop
  | .exc _ _ _ t => Q t
  | .wait => True
  | .fin t _ _ => Q t
  | .startRep t _ => Q t
  | .ended t _ => Q t

section combine
variable {α β : Type} {Q : α → Prop} {R : β → Prop}
theorem ite_p {α : Sort _} {Q : α → Prop} {c : Prop} [Decidable c] {a b : α} (h1 : c → Q a) (h2 : ¬c → Q b) : Q (if c then a else b) := by
  split
  · exact h1 ‹_›
  · exact h2 ‹_›
theorem dite_p {α : Sort _} {Q : α → Prop} {c : Prop} [Decidable c] {a : c → α} {b : ¬c → α} (h1 : ∀ h, Q (a h)) (h2 : ∀ h, Q (b h)) :
    Q (if h : c then a h else b h) := by
  split
  · exact h1 _
  · exact h2 _
theorem snd_p {x : β × α} (h : SndP Q x) : Q x.2 := h
theorem fst_p {x : α × β} (h : FstP Q x) : Q x.1 := h
theorem mk_snd {b : β} {a : α} (h : Q a) : SndP Q (b, a) := h
theorem mk_fst {b : β} {a : α} (h : Q a) : FstP Q (a, b) := h
theorem mk_some {a : α} (h : Q a) : OptP Q (some a) := h
theorem none_p : OptP Q none := trivial
theorem mk_next {t : State} (h : P t) : OutP P (.next t) := h
theorem exc_p {a b d : Nat} {t : State} (h : P t) : IssueP P (.exc a b d t) := h
theorem wait_p : IssueP P .wait := trivial
theorem fin_p {t : State} {n : Option Nat} {k : Nat} (h : P t) : IssueP P (.fin t n k) := h
theorem startRep_p {t : State} {n : Nat} (h : P t) : IssueP P (.startRep t n) := h
theorem ended_p {t : State} {n : Nat} (h : P t) : IssueP P (.ended t n) := h
theorem congr_p {x y : α} (e : x = y) (h : Q x) : Q y := e ▸ h
theorem foldl_p {γ : Type} {f : α → γ → α} {l : List γ} {a : α} (hf : ∀ a x, Q a → Q (f a x)) (h : Q a) : Q (l.foldl f a) := by
  induction l generalizing a with
  | nil => exact h
  | cons x t ih => exact ih (hf _ _ h)
theorem findSome_p {γ : Type} {f : γ → Option α} {l : List γ} (hf : ∀ x, OptP Q (f x)) : OptP Q (l.findSome? f) := by
  induction l with
  | nil => exact trivial
  | cons x t ih =>
    simp only [List.findSome?_cons]
    split
    · rename_i y e
      have := hf x
      rw [e] at this
      exact this
    · exact ih
theorem map_p {f : α → β} {o : Option α} (hf : ∀ x, Q x → R (f x)) (h : OptP Q o) : OptP R (o.map f) := by
  cases o with
  | none => exact trivial
  | some a => exact hf a h
theorem mapAny_p {γ : Type} {f : γ → β} {o : Option γ} (hf : ∀ x, R (f x)) : OptP R (o.map f) := by
  cases o with
  | none => exact trivial
  | some a => exact hf a
theorem filter_p {f : α → Bool} {o : Option α} (h : OptP Q o) : OptP Q (o.filter f) := by
  cases o with
  | none => exact trivial
  | some a => cases hf : f a <;> simp [Option.filter, hf, OptP] <;> exact h
theorem bind_p {γ : Type} {f : γ → Option β} {o : Option γ} (hf : ∀ x, OptP R (f x)) : OptP R (o.bind f) := by
  cases o with
  | none => exact trivial
  | some a => exact hf a
theorem getD_p {o : Option α} {d : α} (h : OptP Q o) (hd : Q d) : Q (o.getD d) := by
  cases o with
  | none => exact hd
  | some a => exact h
theorem orElse_p {o : Option α} {f : Unit → Option α} (h : OptP Q o) (hf : ∀ u, OptP Q (f u)) : OptP Q (o.orElse f) := by
  cases o with
  | none => exact hf ()
  | some a => exact h
end combine

/-- Every run of a list of opcodes keeps Q. -/
def RunP (Q : State → Prop) (l : List (Nat × CmdRun)) : Prop := ∀ e ∈ l, ∀ h a f t, Q t → OutP Q (e.2 h a f t)
theorem run_nil : RunP P [] := by
  intro e he
  cases he
theorem run_cons {x : Nat × CmdRun} {l : List (Nat × CmdRun)} (hx : ∀ h a f t, P t → OutP P (x.2 h a f t)) (hl : RunP P l) : RunP P (x :: l) := by
  intro e he
  cases he with
  | head => exact hx
  | tail _ h => exact hl e h
theorem run_append {l m : List (Nat × CmdRun)} (hl : RunP P l) (hm : RunP P m) : RunP P (l ++ m) := by
  intro e he
  rcases List.mem_append.1 he with h | h
  · exact hl e h
  · exact hm e h

end Sys2Proof.Machine
end

