-- ==== Sys2Proof/Laws/Addr.lean ====
section
/-!
SUPPORT. No two registers share a CSR offset: a register's number can be read back from the offset of any of its instances.
-/
namespace Sys2Proof.Machine

/-- Areas of CSR space: from, to, stride, and for each register in it the bytes of a stride and its number. -/
def area0 : Nat × Nat × Nat × List (Nat × Nat × Nat) :=
  (0x0, 0x200, 0x200, [(0x0, 0x4, 0), (0x4, 0x8, 1), (0x8, 0xc, 2), (0xc, 0x10, 3), (0x10, 0x14, 4), (0x14, 0x18, 5), (0x20, 0x24, 6), (0x24, 0x28, 7), (0x100, 0x200, 8)])
def area1 : Nat × Nat × Nat × List (Nat × Nat × Nat) :=
  (0x10000, 0x10064, 0x64, [(0x0, 0x4, 9), (0x4, 0x8, 10), (0x8, 0xc, 11), (0xc, 0x10, 12), (0x10, 0x14, 13), (0x20, 0x30, 14), (0x30, 0x34, 15), (0x34, 0x38, 16), (0x38, 0x3c, 17), (0x40, 0x50, 18), (0x50, 0x54, 19), (0x54, 0x58, 20), (0x58, 0x5c, 21), (0x60, 0x64, 22)])
def area2 : Nat × Nat × Nat × List (Nat × Nat × Nat) :=
  (0x20000, 0x20174, 0x174, [(0x0, 0x4, 23), (0x4, 0x8, 24), (0x8, 0xc, 25), (0xc, 0x10, 26), (0x100, 0x104, 27), (0x104, 0x108, 28), (0x108, 0x10c, 29), (0x120, 0x140, 30), (0x140, 0x144, 31), (0x160, 0x174, 32)])
def area3 : Nat × Nat × Nat × List (Nat × Nat × Nat) :=
  (0x30000, 0x300c8, 0xc8, [(0x0, 0x4, 33), (0x4, 0x8, 34), (0x10, 0x5c, 35), (0x60, 0xa4, 36), (0xb0, 0xc0, 37), (0xc0, 0xc4, 38), (0xc4, 0xc8, 39)])
def area4 : Nat × Nat × Nat × List (Nat × Nat × Nat) :=
  (0x31000, 0x31400, 0x400, [(0x0, 0x400, 40)])
def area5 : Nat × Nat × Nat × List (Nat × Nat × Nat) :=
  (0x40000, 0x40300, 0x300, [(0x0, 0x4, 41), (0x4, 0x8, 42), (0x8, 0xc, 43), (0xc, 0x10, 44), (0x10, 0x14, 45), (0x14, 0x18, 46), (0x18, 0x1c, 47), (0x20, 0x24, 48), (0x24, 0x28, 49), (0x28, 0x2c, 50), (0x2c, 0x30, 51), (0x30, 0x34, 52), (0x34, 0x38, 53), (0x38, 0x3c, 54), (0x100, 0x300, 55)])
def area6 : Nat × Nat × Nat × List (Nat × Nat × Nat) :=
  (0x100000, 0x120000, 0x100, [(0x0, 0x4, 56), (0x4, 0x8, 57), (0x8, 0xc, 58), (0xc, 0x10, 59), (0x10, 0x14, 60), (0x14, 0x18, 61), (0x18, 0x1c, 62), (0x1c, 0x20, 63), (0x20, 0x24, 64), (0x24, 0x28, 65)])
def area7 : Nat × Nat × Nat × List (Nat × Nat × Nat) :=
  (0x120000, 0x120090, 0x90, [(0x0, 0x4, 66), (0x10, 0x50, 67), (0x50, 0x90, 68)])
def area8 : Nat × Nat × Nat × List (Nat × Nat × Nat) :=
  (0x200000, 0x208000, 0x100, [(0x0, 0x4, 69), (0x4, 0x8, 70), (0x8, 0xc, 71), (0xc, 0x10, 72), (0x10, 0x14, 73), (0x14, 0x18, 74), (0x18, 0x1c, 75)])
def area9 : Nat × Nat × Nat × List (Nat × Nat × Nat) :=
  (0x208000, 0x208020, 0x20, [(0x0, 0x4, 76), (0x10, 0x20, 77)])
def area10 : Nat × Nat × Nat × List (Nat × Nat × Nat) :=
  (0x300000, 0x380000, 0x1000, [(0x0, 0x4, 78), (0x4, 0x8, 79), (0x8, 0xc, 80), (0xc, 0x10, 81), (0x10, 0x14, 82), (0x14, 0x18, 83), (0x18, 0x1c, 84), (0x20, 0x30, 85), (0x30, 0x40, 86), (0x40, 0x44, 87), (0x44, 0x48, 88), (0x48, 0x4c, 87), (0x4c, 0x50, 88), (0x50, 0x54, 87), (0x54, 0x58, 88), (0x58, 0x5c, 87), (0x5c, 0x60, 88), (0x60, 0x64, 89), (0x64, 0x68, 90), (0x68, 0x6c, 91), (0x6c, 0x70, 92)])
def area11 : Nat × Nat × Nat × List (Nat × Nat × Nat) :=
  (0x400000, 0x400160, 0x160, [(0x0, 0x4, 93), (0x4, 0x8, 94), (0x8, 0xc, 95), (0xc, 0x10, 96), (0x10, 0x14, 97), (0x14, 0x18, 98), (0x18, 0x1c, 99), (0x1c, 0x20, 100), (0x20, 0x38, 101), (0x40, 0x44, 102), (0x44, 0x48, 103), (0x48, 0x4c, 104), (0x4c, 0x50, 105), (0x50, 0x54, 106), (0x54, 0x58, 107), (0x58, 0x5c, 108), (0x60, 0x64, 109), (0x64, 0x68, 110), (0x68, 0x6c, 111), (0x6c, 0x70, 112), (0x70, 0x74, 113), (0x80, 0x84, 114), (0x84, 0x88, 115), (0x88, 0x8c, 116), (0x8c, 0x90, 117), (0x90, 0x94, 118), (0xa0, 0xa4, 119), (0xa4, 0xa8, 120), (0xa8, 0xac, 121), (0xb0, 0xb4, 122), (0xb4, 0xb8, 123), (0xb8, 0xbc, 124), (0xc0, 0xc4, 125), (0xc4, 0xc8, 126), (0xc8, 0xcc, 127), (0xd0, 0xd4, 128), (0xd4, 0xd8, 129), (0x100, 0x140, 130), (0x140, 0x160, 131)])
def area12 : Nat × Nat × Nat × List (Nat × Nat × Nat) :=
  (0x500000, 0x540000, 0x400, [(0x0, 0x4, 132), (0x4, 0x8, 133), (0x8, 0xc, 134), (0xc, 0x10, 135), (0x10, 0x14, 136), (0x14, 0x18, 137), (0x18, 0x1c, 138), (0x1c, 0x20, 139), (0x20, 0x24, 140), (0x24, 0x28, 141), (0x28, 0x2c, 142), (0x2c, 0x30, 143), (0x30, 0x34, 144), (0x34, 0x38, 145), (0x38, 0x3c, 146), (0x3c, 0x40, 147), (0x40, 0x44, 148), (0x44, 0x48, 149)])
def area13 : Nat × Nat × Nat × List (Nat × Nat × Nat) :=
  (0x600000, 0x640000, 0x4000, [(0x0, 0x4, 150), (0x4, 0x8, 151), (0x8, 0xc, 152), (0xc, 0x10, 153), (0x10, 0x14, 154), (0x14, 0x18, 155), (0x18, 0x1c, 156), (0x1c, 0x20, 157), (0x20, 0x24, 158), (0x24, 0x28, 159), (0x30, 0x40, 160), (0x40, 0x50, 161)])
def area14 : Nat × Nat × Nat × List (Nat × Nat × Nat) :=
  (0x700000, 0x740000, 0x4000, [(0x0, 0x4, 162), (0x4, 0x8, 163), (0x8, 0xc, 164), (0xc, 0x10, 165), (0x10, 0x14, 166), (0x14, 0x18, 167), (0x18, 0x1c, 168), (0x1c, 0x20, 169), (0x20, 0x24, 170), (0x24, 0x28, 171), (0x28, 0x2c, 172), (0x2c, 0x30, 173), (0x30, 0x34, 174), (0x34, 0x38, 175), (0x40, 0x50, 176), (0x50, 0x60, 177), (0x60, 0x70, 178), (0x70, 0x74, 179), (0x74, 0x78, 180), (0x78, 0x7c, 181), (0x80, 0x84, 182), (0x84, 0x88, 183)])
def area15 : Nat × Nat × Nat × List (Nat × Nat × Nat) :=
  (0x800000, 0x800020, 0x20, [(0x0, 0x4, 184), (0x4, 0x8, 185), (0x8, 0xc, 186), (0xc, 0x10, 187), (0x10, 0x14, 188), (0x14, 0x18, 189), (0x18, 0x1c, 190), (0x1c, 0x20, 191)])
def area16 : Nat × Nat × Nat × List (Nat × Nat × Nat) :=
  (0x800100, 0x800500, 0x20, [(0x0, 0x4, 192), (0x4, 0x8, 193), (0x8, 0xc, 194), (0xc, 0x10, 195)])
def area17 : Nat × Nat × Nat × List (Nat × Nat × Nat) :=
  (0x800800, 0x800a00, 0x10, [(0x0, 0x4, 196), (0x4, 0x8, 197), (0x8, 0xc, 198), (0xc, 0x10, 199)])
def area18 : Nat × Nat × Nat × List (Nat × Nat × Nat) :=
  (0x900000, 0x9000c8, 0xc8, [(0x0, 0x4, 200), (0x4, 0x8, 201), (0x8, 0xc, 202), (0xc, 0x10, 203), (0x10, 0x20, 204), (0x20, 0x30, 205), (0x30, 0x34, 206), (0x40, 0x44, 207), (0x44, 0x48, 208), (0x48, 0x4c, 209), (0x4c, 0x50, 210), (0x50, 0x54, 211), (0x80, 0x84, 212), (0x84, 0x88, 213), (0x88, 0x8c, 214), (0xa0, 0xc0, 215), (0xc0, 0xc4, 216), (0xc4, 0xc8, 217)])
def area19 : Nat × Nat × Nat × List (Nat × Nat × Nat) :=
  (0xa00000, 0xa00050, 0x50, [(0x0, 0x4, 218), (0x4, 0x8, 219), (0x8, 0xc, 220), (0xc, 0x10, 221), (0x10, 0x14, 222), (0x14, 0x18, 223), (0x20, 0x24, 224), (0x24, 0x28, 225), (0x28, 0x2c, 226), (0x2c, 0x30, 227), (0x40, 0x50, 228)])
def area20 : Nat × Nat × Nat × List (Nat × Nat × Nat) :=
  (0xb00000, 0xb00044, 0x44, [(0x0, 0x4, 229), (0x4, 0x8, 230), (0x8, 0xc, 231), (0xc, 0x10, 232), (0x10, 0x14, 233), (0x14, 0x18, 234), (0x18, 0x1c, 235), (0x1c, 0x20, 236), (0x20, 0x24, 237), (0x24, 0x28, 238), (0x28, 0x2c, 239), (0x2c, 0x30, 240), (0x30, 0x34, 241), (0x34, 0x38, 242), (0x38, 0x3c, 243), (0x3c, 0x40, 244), (0x40, 0x44, 245)])
def area21 : Nat × Nat × Nat × List (Nat × Nat × Nat) :=
  (0xc00000, 0xc00040, 0x40, [(0x0, 0x4, 246), (0x4, 0x8, 247), (0x8, 0xc, 248), (0xc, 0x10, 249), (0x10, 0x14, 250), (0x14, 0x18, 251), (0x18, 0x1c, 252), (0x1c, 0x20, 253), (0x20, 0x40, 254)])
def area22 : Nat × Nat × Nat × List (Nat × Nat × Nat) :=
  (0xd00000, 0xd00040, 0x40, [(0x0, 0x4, 255), (0x4, 0x8, 256), (0x8, 0xc, 257), (0xc, 0x10, 258), (0x10, 0x14, 259), (0x14, 0x18, 260), (0x18, 0x1c, 261), (0x1c, 0x20, 262), (0x20, 0x24, 263), (0x24, 0x28, 264), (0x28, 0x2c, 265), (0x30, 0x34, 266), (0x34, 0x38, 267), (0x38, 0x3c, 268), (0x3c, 0x40, 269)])
def area23 : Nat × Nat × Nat × List (Nat × Nat × Nat) :=
  (0xd01000, 0xd02000, 0x1000, [(0x0, 0x1000, 270)])
def area24 : Nat × Nat × Nat × List (Nat × Nat × Nat) :=
  (0xd02000, 0xd02200, 0x10, [(0x0, 0x4, 271), (0x4, 0x8, 272), (0x8, 0xc, 273)])
def areas : List (Nat × Nat × Nat × List (Nat × Nat × Nat)) :=
  [area0, area1, area2, area3, area4, area5, area6, area7, area8, area9, area10, area11, area12, area13, area14, area15, area16, area17, area18, area19, area20, area21, area22, area23, area24]
/-- The number of the register that an offset belongs to. -/
def slotOf (a : Nat) : Nat :=
  match areas.find? fun g => Nat.blt a g.2.1 with
  | none => 0
  | some g =>
    let x := (a - g.1) % g.2.2.1
    match g.2.2.2.find? fun e => Nat.blt x e.2.1 with
    | none => 0
    | some e => e.2.2
/-- Every instance of register k reads back as k and as itself, and lies below the scheduler's tables. -/
def slotOk (k : Nat) : Bool :=
  let r := Reg.ofNat k
  Nat.blt 0 r.map.count &&
  (List.range r.map.count).all fun i => Nat.beq (slotOf (r.addr i)) k && (r.instAt (r.addr i) == some i) && Nat.blt (r.addr i) 0x10000000
theorem slots0 : ((List.range 58).all fun k => slotOk (0 + k)) = true := by decide +kernel
theorem slots58 : ((List.range 3).all fun k => slotOk (58 + k)) = true := by decide +kernel
theorem slots61 : ((List.range 3).all fun k => slotOk (61 + k)) = true := by decide +kernel
theorem slots64 : ((List.range 9).all fun k => slotOk (64 + k)) = true := by decide +kernel
theorem slots73 : ((List.range 13).all fun k => slotOk (73 + k)) = true := by decide +kernel
theorem slots86 : ((List.range 3).all fun k => slotOk (86 + k)) = true := by decide +kernel
theorem slots89 : ((List.range 47).all fun k => slotOk (89 + k)) = true := by decide +kernel
theorem slots136 : ((List.range 6).all fun k => slotOk (136 + k)) = true := by decide +kernel
theorem slots142 : ((List.range 6).all fun k => slotOk (142 + k)) = true := by decide +kernel
theorem slots148 : ((List.range 51).all fun k => slotOk (148 + k)) = true := by decide +kernel
theorem slots199 : ((List.range 75).all fun k => slotOk (199 + k)) = true := by decide +kernel

theorem Reg.ctorIdx_lt (r : Reg) : r.ctorIdx < 274 := by cases r <;> decide

theorem slots_of {a b k : Nat} (h : ((List.range a).all fun k => slotOk (b + k)) = true) (h1 : b ≤ k) (h2 : k < b + a) : slotOk k = true := by
  rw [List.all_eq_true] at h
  have := h (k - b) (List.mem_range.2 (by omega))
  rwa [show b + (k - b) = k by omega] at this

theorem slotOk_all {k : Nat} (h : k < 274) : slotOk k = true := by
  by_cases h0 : k < 58
  · exact slots_of slots0 (by omega) (by omega)
  by_cases h58 : k < 61
  · exact slots_of slots58 (by omega) (by omega)
  by_cases h61 : k < 64
  · exact slots_of slots61 (by omega) (by omega)
  by_cases h64 : k < 73
  · exact slots_of slots64 (by omega) (by omega)
  by_cases h73 : k < 86
  · exact slots_of slots73 (by omega) (by omega)
  by_cases h86 : k < 89
  · exact slots_of slots86 (by omega) (by omega)
  by_cases h89 : k < 136
  · exact slots_of slots89 (by omega) (by omega)
  by_cases h136 : k < 142
  · exact slots_of slots136 (by omega) (by omega)
  by_cases h142 : k < 148
  · exact slots_of slots142 (by omega) (by omega)
  by_cases h148 : k < 199
  · exact slots_of slots148 (by omega) (by omega)
  by_cases h199 : k < 274
  · exact slots_of slots199 (by omega) (by omega)
  omega

theorem slot_addr (r : Reg) (i : Nat) :
    0 < r.map.count ∧ slotOf (r.addr i) = r.ctorIdx ∧ r.instAt (r.addr i) = some (i % r.map.count) ∧ r.addr i < 0x10000000 := by
  have h := slotOk_all r.ctorIdx_lt
  unfold slotOk at h
  rw [Reg.ofNat_ctorIdx r] at h
  simp only [Bool.and_eq_true, List.all_eq_true, Nat.blt_eq] at h
  obtain ⟨h0, h⟩ := h
  have h1 := h (i % r.map.count) (List.mem_range.2 (Nat.mod_lt _ h0))
  have e : r.addr (i % r.map.count) = r.addr i := by unfold Reg.addr; rw [Nat.mod_mod]
  rw [e] at h1
  exact ⟨h0, Nat.eq_of_beq_eq_true h1.1.1, by simpa using h1.1.2, h1.2⟩

/-- Two registers never share an offset. -/
theorem Reg.addr_ne {r q : Reg} (h : r ≠ q) (i j : Nat) : r.addr i ≠ q.addr j := by
  intro e
  have h1 := (slot_addr r i).2.1
  rw [e, (slot_addr q j).2.1] at h1
  exact h (by rw [← Reg.ofNat_ctorIdx r, ← h1, Reg.ofNat_ctorIdx q])

/-- Two instances of a register share an offset only if they are one instance. -/
theorem Reg.addr_inj {r : Reg} {i j : Nat} : r.addr i = r.addr j ↔ i % r.map.count = j % r.map.count := by
  constructor
  · intro e
    have h1 := (slot_addr r i).2.2.1
    rw [e, (slot_addr r j).2.2.1] at h1
    exact (Option.some.inj h1).symm
  · intro e
    unfold Reg.addr
    rw [e]

/-- Registers lie below the keys of the scheduler's tables. -/
theorem Reg.addr_lt (r : Reg) (i : Nat) : r.addr i < 0x10000000 := (slot_addr r i).2.2.2

end Sys2Proof.Machine
end

