-- ==== Sys2Proof/Laws/Maps.lean ====
section
/-!
SUPPORT. The laws of sparse tables: what a table holds after a change, and that every change keeps the canonical form.
-/
namespace Sys2Proof.Machine
variable {α : Type}

/-! ### What a table holds -/

theorem mget_of_lt {d : Nat → α} {k : Nat} : ∀ {m : SMap α}, (∀ e ∈ m, k < e.1) → mget d m k = d k
  | [], _ => rfl
  | (k', v) :: t, h => by
    have h1 : k < k' := h (k', v) (List.mem_cons_self ..)
    simp only [mget]
    rw [if_neg (by omega), if_pos h1]

theorem mwfFrom_mono [DecidableEq α] {d : Nat → α} : ∀ {m : SMap α} {lo lo' : Nat}, lo' ≤ lo → mwfFrom d lo m = true → mwfFrom d lo' m = true
  | [], _, _, _, _ => rfl
  | (k, v) :: t, lo, lo', h, hw => by
    simp only [mwfFrom, Bool.and_eq_true, decide_eq_true_eq] at hw ⊢
    exact ⟨⟨by omega, hw.1.2⟩, hw.2⟩

theorem mwfFrom_le [DecidableEq α] {d : Nat → α} : ∀ {m : SMap α} {lo : Nat}, mwfFrom d lo m = true → ∀ e ∈ m, lo ≤ e.1
  | [], _, _, _, he => by cases he
  | (k, v) :: t, lo, hw, e, he => by
    simp only [mwfFrom, Bool.and_eq_true, decide_eq_true_eq] at hw
    cases he with
    | head => exact hw.1.1
    | tail _ h => have := mwfFrom_le hw.2 e h; omega

theorem mget_mcons [DecidableEq α] {d : Nat → α} {k : Nat} {v : α} {t : SMap α} (ht : ∀ e ∈ t, k < e.1) (j : Nat) :
    mget d (mcons d k v t) j = if j = k then v else if j < k then d j else mget d t j := by
  unfold mcons
  by_cases hv : v = d k
  · rw [if_pos hv]
    by_cases hj : j = k
    · rw [if_pos hj, hj, mget_of_lt ht, hv]
    · rw [if_neg hj]
      by_cases hl : j < k
      · rw [if_pos hl, mget_of_lt fun e he => by have := ht e he; omega]
      · rw [if_neg hl]
  · rw [if_neg hv]
    simp only [mget]
    by_cases hj : j = k
    · rw [if_pos hj.symm, if_pos hj]
    · rw [if_neg (fun h => hj h.symm), if_neg hj]

/-- What a canonical table holds after a write. -/
theorem mget_mput [DecidableEq α] {d : Nat → α} (k : Nat) (v : α) (j : Nat) :
    ∀ {m : SMap α} {lo : Nat}, mwfFrom d lo m = true → mget d (mput d m k v) j = if j = k then v else mget d m j
  | [], _, _ => by
    simp only [mput]
    rw [mget_mcons (by intro e he; cases he)]
    simp only [mget]
    split
    · rfl
    · split <;> rfl
  | (k', w) :: t, lo, hw => by
    have hw' := hw
    simp only [mwfFrom, Bool.and_eq_true, decide_eq_true_eq] at hw
    have hk := mwfFrom_le hw.2
    simp only [mput]
    by_cases h1 : k < k'
    · rw [if_pos h1, mget_mcons (by
        intro e he
        cases he with
        | head => exact h1
        | tail _ h => have := hk e h; omega)]
      by_cases hj : j = k
      · rw [if_pos hj, if_pos hj]
      · rw [if_neg hj, if_neg hj]
        by_cases hl : j < k
        · rw [if_pos hl]
          simp only [mget]
          rw [if_neg (by omega), if_pos (by omega)]
        · rw [if_neg hl]
    · rw [if_neg h1]
      by_cases h2 : k = k'
      · rw [if_pos h2, mget_mcons fun e he => by have := hk e he; omega]
        subst h2
        simp only [mget]
        by_cases hj : j = k
        · rw [if_pos hj, if_pos hj]
        · rw [if_neg hj, if_neg hj, if_neg (show ¬ k = j from fun h => hj h.symm)]
      · rw [if_neg h2]
        simp only [mget]
        rw [mget_mput k v j hw.2]
        by_cases hj : j = k
        · subst hj
          rw [if_neg (fun h => h2 h.symm), if_neg (by omega)]
          simp
        · simp only [if_neg hj]

@[simp] theorem mget_nil {d : Nat → α} (k : Nat) : mget d [] k = d k := rfl

theorem mget_mput_same [DecidableEq α] {d : Nat → α} {m : SMap α} (h : mwf d m = true) (k : Nat) (v : α) :
    mget d (mput d m k v) k = v := by
  rw [mget_mput k v k h, if_pos rfl]
theorem mget_mput_ne [DecidableEq α] {d : Nat → α} {m : SMap α} (h : mwf d m = true) {k j : Nat} (hj : j ≠ k) (v : α) :
    mget d (mput d m k v) j = mget d m j := by
  rw [mget_mput k v j h, if_neg hj]

/-! ### The canonical form -/

theorem mwf_mcons [DecidableEq α] {d : Nat → α} {lo k : Nat} {v : α} {t : SMap α} (hk : lo ≤ k) (ht : mwfFrom d (k + 1) t = true) :
    mwfFrom d lo (mcons d k v t) = true := by
  unfold mcons
  by_cases hv : v = d k
  · rw [if_pos hv]
    exact mwfFrom_mono (by omega) ht
  · rw [if_neg hv]
    simp only [mwfFrom, Bool.and_eq_true, decide_eq_true_eq]
    exact ⟨⟨hk, hv⟩, ht⟩

theorem mwfFrom_mput [DecidableEq α] {d : Nat → α} (k : Nat) (v : α) :
    ∀ {m : SMap α} {lo : Nat}, lo ≤ k → mwfFrom d lo m = true → mwfFrom d lo (mput d m k v) = true
  | [], lo, hk, _ => mwf_mcons hk rfl
  | (k', w) :: t, lo, hk, hw => by
    have hw' := hw
    simp only [mwfFrom, Bool.and_eq_true, decide_eq_true_eq] at hw
    simp only [mput]
    by_cases h1 : k < k'
    · rw [if_pos h1]
      refine mwf_mcons hk ?_
      simp only [mwfFrom, Bool.and_eq_true, decide_eq_true_eq]
      exact ⟨⟨by omega, hw.1.2⟩, hw.2⟩
    · rw [if_neg h1]
      by_cases h2 : k = k'
      · rw [if_pos h2]
        subst h2
        exact mwf_mcons hk hw.2
      · rw [if_neg h2]
        simp only [mwfFrom, Bool.and_eq_true, decide_eq_true_eq]
        exact ⟨hw.1, mwfFrom_mput k v (by omega) hw.2⟩

/-- A write keeps the canonical form. -/
theorem mwf_mput [DecidableEq α] {d : Nat → α} {m : SMap α} (k : Nat) (v : α) (h : mwf d m = true) : mwf d (mput d m k v) = true :=
  mwfFrom_mput k v (Nat.zero_le k) h
theorem mwf_mupd [DecidableEq α] {d : Nat → α} {m : SMap α} (k : Nat) (f : α → α) (h : mwf d m = true) : mwf d (mupd d m k f) = true :=
  mwf_mput k _ h

theorem mwfFrom_filter [DecidableEq α] {d : Nat → α} (p : Nat × α → Bool) :
    ∀ {m : SMap α} {lo : Nat}, mwfFrom d lo m = true → mwfFrom d lo (m.filter p) = true
  | [], _, _ => rfl
  | (k, v) :: t, lo, hw => by
    simp only [mwfFrom, Bool.and_eq_true, decide_eq_true_eq] at hw
    simp only [List.filter_cons]
    split
    · simp only [mwfFrom, Bool.and_eq_true, decide_eq_true_eq]
      exact ⟨hw.1, mwfFrom_filter p hw.2⟩
    · exact mwfFrom_mono (by omega) (mwfFrom_filter p hw.2)
/-- Taking entries out keeps the canonical form. -/
theorem mwf_filter [DecidableEq α] {d : Nat → α} {m : SMap α} (p : Nat × α → Bool) (h : mwf d m = true) : mwf d (m.filter p) = true :=
  mwfFrom_filter p h
theorem mwf_mclear [DecidableEq α] {d : Nat → α} {m : SMap α} (lo hi : Nat) (h : mwf d m = true) : mwf d (mclear m lo hi) = true :=
  mwfFrom_filter _ h
theorem mwf_mdel [DecidableEq α] {d : Nat → α} {m : SMap α} (k : Nat) (h : mwf d m = true) : mwf d (mdel m k) = true :=
  mwfFrom_filter _ h

/-- What a table without some entries holds. -/
theorem mget_filter [DecidableEq α] {d : Nat → α} (q : Nat → Bool) (j : Nat) :
    ∀ {m : SMap α} {lo : Nat}, mwfFrom d lo m = true → mget d (m.filter fun e => q e.1) j = if q j then mget d m j else d j
  | [], _, _ => by simp
  | (k, v) :: t, lo, hw => by
    simp only [mwfFrom, Bool.and_eq_true, decide_eq_true_eq] at hw
    have ih := mget_filter (d := d) q j hw.2
    have hk := mwfFrom_le hw.2
    simp only [List.filter_cons]
    by_cases hq : q k
    · simp only [hq, if_true, mget]
      by_cases h1 : k = j
      · subst h1; simp [hq]
      · rw [if_neg h1, if_neg h1]
        by_cases h2 : j < k
        · rw [if_pos h2, if_pos h2]; simp
        · rw [if_neg h2, if_neg h2, ih]
    · simp only [hq, mget]
      simp only [Bool.false_eq_true, if_false]
      rw [ih]
      by_cases h1 : k = j
      · subst h1
        simp [hq]
      · rw [if_neg h1]
        by_cases h2 : j < k
        · rw [if_pos h2, mget_of_lt fun e he => by have := hk e he; omega]
        · rw [if_neg h2]
/-- Erasing a range: its keys hold their defaults, all others what they held. -/
theorem mget_mclear [DecidableEq α] {d : Nat → α} {m : SMap α} (h : mwf d m = true) (lo hi j : Nat) :
    mget d (mclear m lo hi) j = if lo ≤ j ∧ j < hi then d j else mget d m j := by
  unfold mclear
  rw [mget_filter (fun k => k < lo || hi ≤ k) j h]
  by_cases h1 : lo ≤ j ∧ j < hi
  · rw [if_pos h1, if_neg]
    simp only [Bool.or_eq_true, decide_eq_true_eq]
    omega
  · rw [if_neg h1, if_pos]
    simp only [Bool.or_eq_true, decide_eq_true_eq]
    omega

end Sys2Proof.Machine
end

