-- ==== Sys2Proof/Laws/State.lean ====
section
/-!
SUPPORT. The small laws of the state's updates: what each update leaves as it was, field by field, and what a register, a
field, a byte or a unit holds after it.
-/
namespace Sys2Proof.Machine
section updates
variable (s : State)

/-! ### setRaw -/
@[simp] theorem State.setRaw_pending (o : Nat) (w : Word) : (s.setRaw o w).pending = s.pending := (rfl)
@[simp] theorem State.setRaw_staged (o : Nat) (w : Word) : (s.setRaw o w).staged = s.staged := (rfl)
@[simp] theorem State.setRaw_snapshot (o : Nat) (w : Word) : (s.setRaw o w).snapshot = s.snapshot := (rfl)
@[simp] theorem State.setRaw_commit (o : Nat) (w : Word) : (s.setRaw o w).commit = s.commit := (rfl)
@[simp] theorem State.setRaw_epoch (o : Nat) (w : Word) : (s.setRaw o w).epoch = s.epoch := (rfl)
@[simp] theorem State.setRaw_latch (o : Nat) (w : Word) : (s.setRaw o w).latch = s.latch := (rfl)
@[simp] theorem State.setRaw_fresh (o : Nat) (w : Word) : (s.setRaw o w).fresh = s.fresh := (rfl)
@[simp] theorem State.setRaw_mem (o : Nat) (w : Word) : (s.setRaw o w).mem = s.mem := (rfl)
@[simp] theorem State.setRaw_synd (o : Nat) (w : Word) : (s.setRaw o w).synd = s.synd := (rfl)
@[simp] theorem State.setRaw_rooms (o : Nat) (w : Word) : (s.setRaw o w).rooms = s.rooms := (rfl)
@[simp] theorem State.setRaw_stairs (o : Nat) (w : Word) : (s.setRaw o w).stairs = s.stairs := (rfl)
@[simp] theorem State.setRaw_banks (o : Nat) (w : Word) : (s.setRaw o w).banks = s.banks := (rfl)
@[simp] theorem State.setRaw_svc (o : Nat) (w : Word) : (s.setRaw o w).svc = s.svc := (rfl)
@[simp] theorem State.setRaw_svcNext (o : Nat) (w : Word) : (s.setRaw o w).svcNext = s.svcNext := (rfl)
@[simp] theorem State.setRaw_ecLog (o : Nat) (w : Word) : (s.setRaw o w).ecLog = s.ecLog := (rfl)
@[simp] theorem State.setRaw_mow (o : Nat) (w : Word) : (s.setRaw o w).mow = s.mow := (rfl)
@[simp] theorem State.setRaw_net (o : Nat) (w : Word) : (s.setRaw o w).net = s.net := (rfl)
@[simp] theorem State.setRaw_sched (o : Nat) (w : Word) : (s.setRaw o w).sched = s.sched := (rfl)
@[simp] theorem State.setRaw_engs (o : Nat) (w : Word) : (s.setRaw o w).engs = s.engs := (rfl)
@[simp] theorem State.setRaw_links (o : Nat) (w : Word) : (s.setRaw o w).links = s.links := (rfl)
@[simp] theorem State.setRaw_enumer (o : Nat) (w : Word) : (s.setRaw o w).enumer = s.enumer := (rfl)
@[simp] theorem State.setRaw_crypto (o : Nat) (w : Word) : (s.setRaw o w).crypto = s.crypto := (rfl)
@[simp] theorem State.setRaw_mail (o : Nat) (w : Word) : (s.setRaw o w).mail = s.mail := (rfl)
@[simp] theorem State.setRaw_clk (o : Nat) (w : Word) : (s.setRaw o w).clk = s.clk := (rfl)
@[simp] theorem State.setRaw_pow (o : Nat) (w : Word) : (s.setRaw o w).pow = s.pow := (rfl)
@[simp] theorem State.setRaw_boot (o : Nat) (w : Word) : (s.setRaw o w).boot = s.boot := (rfl)
@[simp] theorem State.setRaw_fuses (o : Nat) (w : Word) : (s.setRaw o w).fuses = s.fuses := (rfl)
@[simp] theorem State.setRaw_flash (o : Nat) (w : Word) : (s.setRaw o w).flash = s.flash := (rfl)
@[simp] theorem State.setRaw_journal (o : Nat) (w : Word) : (s.setRaw o w).journal = s.journal := (rfl)
@[simp] theorem State.setRaw_replay (o : Nat) (w : Word) : (s.setRaw o w).replay = s.replay := (rfl)
@[simp] theorem State.setRaw_sec (o : Nat) (w : Word) : (s.setRaw o w).sec = s.sec := (rfl)
@[simp] theorem State.setRaw_odie (o : Nat) (w : Word) : (s.setRaw o w).odie = s.odie := (rfl)
@[simp] theorem State.setRaw_byte_of (o : Nat) (w : Word) (k : Nat) : (s.setRaw o w).byte k = s.byte k := (rfl)
@[simp] theorem State.setRaw_syn_of (o : Nat) (w : Word) (k : Nat) : (s.setRaw o w).syn k = s.syn k := (rfl)
@[simp] theorem State.setRaw_room_of (o : Nat) (w : Word) (k : Nat) : (s.setRaw o w).room k = s.room k := (rfl)
@[simp] theorem State.setRaw_plane_of (o : Nat) (w : Word) (k l : Nat) : (s.setRaw o w).plane k l = s.plane k l := (rfl)
@[simp] theorem State.setRaw_stair_of (o : Nat) (w : Word) (k : Nat) : (s.setRaw o w).stair k = s.stair k := (rfl)
@[simp] theorem State.setRaw_bank_of (o : Nat) (w : Word) (k : Nat) : (s.setRaw o w).bank k = s.bank k := (rfl)
@[simp] theorem State.setRaw_eng_of (o : Nat) (w : Word) (k : Nat) : (s.setRaw o w).eng k = s.eng k := (rfl)
@[simp] theorem State.setRaw_link_of (o : Nat) (w : Word) (k : Nat) : (s.setRaw o w).link k = s.link k := (rfl)
/-! ### wr -/
@[simp] theorem State.wr_pending (r : Reg) (i : Nat) (w : Word) : (s.wr r i w).pending = s.pending := (rfl)
@[simp] theorem State.wr_staged (r : Reg) (i : Nat) (w : Word) : (s.wr r i w).staged = s.staged := (rfl)
@[simp] theorem State.wr_snapshot (r : Reg) (i : Nat) (w : Word) : (s.wr r i w).snapshot = s.snapshot := (rfl)
@[simp] theorem State.wr_commit (r : Reg) (i : Nat) (w : Word) : (s.wr r i w).commit = s.commit := (rfl)
@[simp] theorem State.wr_epoch (r : Reg) (i : Nat) (w : Word) : (s.wr r i w).epoch = s.epoch := (rfl)
@[simp] theorem State.wr_latch (r : Reg) (i : Nat) (w : Word) : (s.wr r i w).latch = s.latch := (rfl)
@[simp] theorem State.wr_fresh (r : Reg) (i : Nat) (w : Word) : (s.wr r i w).fresh = s.fresh := (rfl)
@[simp] theorem State.wr_mem (r : Reg) (i : Nat) (w : Word) : (s.wr r i w).mem = s.mem := (rfl)
@[simp] theorem State.wr_synd (r : Reg) (i : Nat) (w : Word) : (s.wr r i w).synd = s.synd := (rfl)
@[simp] theorem State.wr_rooms (r : Reg) (i : Nat) (w : Word) : (s.wr r i w).rooms = s.rooms := (rfl)
@[simp] theorem State.wr_stairs (r : Reg) (i : Nat) (w : Word) : (s.wr r i w).stairs = s.stairs := (rfl)
@[simp] theorem State.wr_banks (r : Reg) (i : Nat) (w : Word) : (s.wr r i w).banks = s.banks := (rfl)
@[simp] theorem State.wr_svc (r : Reg) (i : Nat) (w : Word) : (s.wr r i w).svc = s.svc := (rfl)
@[simp] theorem State.wr_svcNext (r : Reg) (i : Nat) (w : Word) : (s.wr r i w).svcNext = s.svcNext := (rfl)
@[simp] theorem State.wr_ecLog (r : Reg) (i : Nat) (w : Word) : (s.wr r i w).ecLog = s.ecLog := (rfl)
@[simp] theorem State.wr_mow (r : Reg) (i : Nat) (w : Word) : (s.wr r i w).mow = s.mow := (rfl)
@[simp] theorem State.wr_net (r : Reg) (i : Nat) (w : Word) : (s.wr r i w).net = s.net := (rfl)
@[simp] theorem State.wr_sched (r : Reg) (i : Nat) (w : Word) : (s.wr r i w).sched = s.sched := (rfl)
@[simp] theorem State.wr_engs (r : Reg) (i : Nat) (w : Word) : (s.wr r i w).engs = s.engs := (rfl)
@[simp] theorem State.wr_links (r : Reg) (i : Nat) (w : Word) : (s.wr r i w).links = s.links := (rfl)
@[simp] theorem State.wr_enumer (r : Reg) (i : Nat) (w : Word) : (s.wr r i w).enumer = s.enumer := (rfl)
@[simp] theorem State.wr_crypto (r : Reg) (i : Nat) (w : Word) : (s.wr r i w).crypto = s.crypto := (rfl)
@[simp] theorem State.wr_mail (r : Reg) (i : Nat) (w : Word) : (s.wr r i w).mail = s.mail := (rfl)
@[simp] theorem State.wr_clk (r : Reg) (i : Nat) (w : Word) : (s.wr r i w).clk = s.clk := (rfl)
@[simp] theorem State.wr_pow (r : Reg) (i : Nat) (w : Word) : (s.wr r i w).pow = s.pow := (rfl)
@[simp] theorem State.wr_boot (r : Reg) (i : Nat) (w : Word) : (s.wr r i w).boot = s.boot := (rfl)
@[simp] theorem State.wr_fuses (r : Reg) (i : Nat) (w : Word) : (s.wr r i w).fuses = s.fuses := (rfl)
@[simp] theorem State.wr_flash (r : Reg) (i : Nat) (w : Word) : (s.wr r i w).flash = s.flash := (rfl)
@[simp] theorem State.wr_journal (r : Reg) (i : Nat) (w : Word) : (s.wr r i w).journal = s.journal := (rfl)
@[simp] theorem State.wr_replay (r : Reg) (i : Nat) (w : Word) : (s.wr r i w).replay = s.replay := (rfl)
@[simp] theorem State.wr_sec (r : Reg) (i : Nat) (w : Word) : (s.wr r i w).sec = s.sec := (rfl)
@[simp] theorem State.wr_odie (r : Reg) (i : Nat) (w : Word) : (s.wr r i w).odie = s.odie := (rfl)
@[simp] theorem State.wr_byte_of (r : Reg) (i : Nat) (w : Word) (k : Nat) : (s.wr r i w).byte k = s.byte k := (rfl)
@[simp] theorem State.wr_syn_of (r : Reg) (i : Nat) (w : Word) (k : Nat) : (s.wr r i w).syn k = s.syn k := (rfl)
@[simp] theorem State.wr_room_of (r : Reg) (i : Nat) (w : Word) (k : Nat) : (s.wr r i w).room k = s.room k := (rfl)
@[simp] theorem State.wr_plane_of (r : Reg) (i : Nat) (w : Word) (k l : Nat) : (s.wr r i w).plane k l = s.plane k l := (rfl)
@[simp] theorem State.wr_stair_of (r : Reg) (i : Nat) (w : Word) (k : Nat) : (s.wr r i w).stair k = s.stair k := (rfl)
@[simp] theorem State.wr_bank_of (r : Reg) (i : Nat) (w : Word) (k : Nat) : (s.wr r i w).bank k = s.bank k := (rfl)
@[simp] theorem State.wr_eng_of (r : Reg) (i : Nat) (w : Word) (k : Nat) : (s.wr r i w).eng k = s.eng k := (rfl)
@[simp] theorem State.wr_link_of (r : Reg) (i : Nat) (w : Word) (k : Nat) : (s.wr r i w).link k = s.link k := (rfl)
/-! ### setF -/
@[simp] theorem State.setF_pending (F : Field) (i v : Nat) : (s.setF F i v).pending = s.pending := (rfl)
@[simp] theorem State.setF_staged (F : Field) (i v : Nat) : (s.setF F i v).staged = s.staged := (rfl)
@[simp] theorem State.setF_snapshot (F : Field) (i v : Nat) : (s.setF F i v).snapshot = s.snapshot := (rfl)
@[simp] theorem State.setF_commit (F : Field) (i v : Nat) : (s.setF F i v).commit = s.commit := (rfl)
@[simp] theorem State.setF_epoch (F : Field) (i v : Nat) : (s.setF F i v).epoch = s.epoch := (rfl)
@[simp] theorem State.setF_latch (F : Field) (i v : Nat) : (s.setF F i v).latch = s.latch := (rfl)
@[simp] theorem State.setF_fresh (F : Field) (i v : Nat) : (s.setF F i v).fresh = s.fresh := (rfl)
@[simp] theorem State.setF_mem (F : Field) (i v : Nat) : (s.setF F i v).mem = s.mem := (rfl)
@[simp] theorem State.setF_synd (F : Field) (i v : Nat) : (s.setF F i v).synd = s.synd := (rfl)
@[simp] theorem State.setF_rooms (F : Field) (i v : Nat) : (s.setF F i v).rooms = s.rooms := (rfl)
@[simp] theorem State.setF_stairs (F : Field) (i v : Nat) : (s.setF F i v).stairs = s.stairs := (rfl)
@[simp] theorem State.setF_banks (F : Field) (i v : Nat) : (s.setF F i v).banks = s.banks := (rfl)
@[simp] theorem State.setF_svc (F : Field) (i v : Nat) : (s.setF F i v).svc = s.svc := (rfl)
@[simp] theorem State.setF_svcNext (F : Field) (i v : Nat) : (s.setF F i v).svcNext = s.svcNext := (rfl)
@[simp] theorem State.setF_ecLog (F : Field) (i v : Nat) : (s.setF F i v).ecLog = s.ecLog := (rfl)
@[simp] theorem State.setF_mow (F : Field) (i v : Nat) : (s.setF F i v).mow = s.mow := (rfl)
@[simp] theorem State.setF_net (F : Field) (i v : Nat) : (s.setF F i v).net = s.net := (rfl)
@[simp] theorem State.setF_sched (F : Field) (i v : Nat) : (s.setF F i v).sched = s.sched := (rfl)
@[simp] theorem State.setF_engs (F : Field) (i v : Nat) : (s.setF F i v).engs = s.engs := (rfl)
@[simp] theorem State.setF_links (F : Field) (i v : Nat) : (s.setF F i v).links = s.links := (rfl)
@[simp] theorem State.setF_enumer (F : Field) (i v : Nat) : (s.setF F i v).enumer = s.enumer := (rfl)
@[simp] theorem State.setF_crypto (F : Field) (i v : Nat) : (s.setF F i v).crypto = s.crypto := (rfl)
@[simp] theorem State.setF_mail (F : Field) (i v : Nat) : (s.setF F i v).mail = s.mail := (rfl)
@[simp] theorem State.setF_clk (F : Field) (i v : Nat) : (s.setF F i v).clk = s.clk := (rfl)
@[simp] theorem State.setF_pow (F : Field) (i v : Nat) : (s.setF F i v).pow = s.pow := (rfl)
@[simp] theorem State.setF_boot (F : Field) (i v : Nat) : (s.setF F i v).boot = s.boot := (rfl)
@[simp] theorem State.setF_fuses (F : Field) (i v : Nat) : (s.setF F i v).fuses = s.fuses := (rfl)
@[simp] theorem State.setF_flash (F : Field) (i v : Nat) : (s.setF F i v).flash = s.flash := (rfl)
@[simp] theorem State.setF_journal (F : Field) (i v : Nat) : (s.setF F i v).journal = s.journal := (rfl)
@[simp] theorem State.setF_replay (F : Field) (i v : Nat) : (s.setF F i v).replay = s.replay := (rfl)
@[simp] theorem State.setF_sec (F : Field) (i v : Nat) : (s.setF F i v).sec = s.sec := (rfl)
@[simp] theorem State.setF_odie (F : Field) (i v : Nat) : (s.setF F i v).odie = s.odie := (rfl)
@[simp] theorem State.setF_byte_of (F : Field) (i v : Nat) (k : Nat) : (s.setF F i v).byte k = s.byte k := (rfl)
@[simp] theorem State.setF_syn_of (F : Field) (i v : Nat) (k : Nat) : (s.setF F i v).syn k = s.syn k := (rfl)
@[simp] theorem State.setF_room_of (F : Field) (i v : Nat) (k : Nat) : (s.setF F i v).room k = s.room k := (rfl)
@[simp] theorem State.setF_plane_of (F : Field) (i v : Nat) (k l : Nat) : (s.setF F i v).plane k l = s.plane k l := (rfl)
@[simp] theorem State.setF_stair_of (F : Field) (i v : Nat) (k : Nat) : (s.setF F i v).stair k = s.stair k := (rfl)
@[simp] theorem State.setF_bank_of (F : Field) (i v : Nat) (k : Nat) : (s.setF F i v).bank k = s.bank k := (rfl)
@[simp] theorem State.setF_eng_of (F : Field) (i v : Nat) (k : Nat) : (s.setF F i v).eng k = s.eng k := (rfl)
@[simp] theorem State.setF_link_of (F : Field) (i v : Nat) (k : Nat) : (s.setF F i v).link k = s.link k := (rfl)
/-! ### inc -/
@[simp] theorem State.inc_pending (F : Field) (i n : Nat) : (s.inc F i n).pending = s.pending := (rfl)
@[simp] theorem State.inc_staged (F : Field) (i n : Nat) : (s.inc F i n).staged = s.staged := (rfl)
@[simp] theorem State.inc_snapshot (F : Field) (i n : Nat) : (s.inc F i n).snapshot = s.snapshot := (rfl)
@[simp] theorem State.inc_commit (F : Field) (i n : Nat) : (s.inc F i n).commit = s.commit := (rfl)
@[simp] theorem State.inc_epoch (F : Field) (i n : Nat) : (s.inc F i n).epoch = s.epoch := (rfl)
@[simp] theorem State.inc_latch (F : Field) (i n : Nat) : (s.inc F i n).latch = s.latch := (rfl)
@[simp] theorem State.inc_fresh (F : Field) (i n : Nat) : (s.inc F i n).fresh = s.fresh := (rfl)
@[simp] theorem State.inc_mem (F : Field) (i n : Nat) : (s.inc F i n).mem = s.mem := (rfl)
@[simp] theorem State.inc_synd (F : Field) (i n : Nat) : (s.inc F i n).synd = s.synd := (rfl)
@[simp] theorem State.inc_rooms (F : Field) (i n : Nat) : (s.inc F i n).rooms = s.rooms := (rfl)
@[simp] theorem State.inc_stairs (F : Field) (i n : Nat) : (s.inc F i n).stairs = s.stairs := (rfl)
@[simp] theorem State.inc_banks (F : Field) (i n : Nat) : (s.inc F i n).banks = s.banks := (rfl)
@[simp] theorem State.inc_svc (F : Field) (i n : Nat) : (s.inc F i n).svc = s.svc := (rfl)
@[simp] theorem State.inc_svcNext (F : Field) (i n : Nat) : (s.inc F i n).svcNext = s.svcNext := (rfl)
@[simp] theorem State.inc_ecLog (F : Field) (i n : Nat) : (s.inc F i n).ecLog = s.ecLog := (rfl)
@[simp] theorem State.inc_mow (F : Field) (i n : Nat) : (s.inc F i n).mow = s.mow := (rfl)
@[simp] theorem State.inc_net (F : Field) (i n : Nat) : (s.inc F i n).net = s.net := (rfl)
@[simp] theorem State.inc_sched (F : Field) (i n : Nat) : (s.inc F i n).sched = s.sched := (rfl)
@[simp] theorem State.inc_engs (F : Field) (i n : Nat) : (s.inc F i n).engs = s.engs := (rfl)
@[simp] theorem State.inc_links (F : Field) (i n : Nat) : (s.inc F i n).links = s.links := (rfl)
@[simp] theorem State.inc_enumer (F : Field) (i n : Nat) : (s.inc F i n).enumer = s.enumer := (rfl)
@[simp] theorem State.inc_crypto (F : Field) (i n : Nat) : (s.inc F i n).crypto = s.crypto := (rfl)
@[simp] theorem State.inc_mail (F : Field) (i n : Nat) : (s.inc F i n).mail = s.mail := (rfl)
@[simp] theorem State.inc_clk (F : Field) (i n : Nat) : (s.inc F i n).clk = s.clk := (rfl)
@[simp] theorem State.inc_pow (F : Field) (i n : Nat) : (s.inc F i n).pow = s.pow := (rfl)
@[simp] theorem State.inc_boot (F : Field) (i n : Nat) : (s.inc F i n).boot = s.boot := (rfl)
@[simp] theorem State.inc_fuses (F : Field) (i n : Nat) : (s.inc F i n).fuses = s.fuses := (rfl)
@[simp] theorem State.inc_flash (F : Field) (i n : Nat) : (s.inc F i n).flash = s.flash := (rfl)
@[simp] theorem State.inc_journal (F : Field) (i n : Nat) : (s.inc F i n).journal = s.journal := (rfl)
@[simp] theorem State.inc_replay (F : Field) (i n : Nat) : (s.inc F i n).replay = s.replay := (rfl)
@[simp] theorem State.inc_sec (F : Field) (i n : Nat) : (s.inc F i n).sec = s.sec := (rfl)
@[simp] theorem State.inc_odie (F : Field) (i n : Nat) : (s.inc F i n).odie = s.odie := (rfl)
@[simp] theorem State.inc_byte_of (F : Field) (i n : Nat) (k : Nat) : (s.inc F i n).byte k = s.byte k := (rfl)
@[simp] theorem State.inc_syn_of (F : Field) (i n : Nat) (k : Nat) : (s.inc F i n).syn k = s.syn k := (rfl)
@[simp] theorem State.inc_room_of (F : Field) (i n : Nat) (k : Nat) : (s.inc F i n).room k = s.room k := (rfl)
@[simp] theorem State.inc_plane_of (F : Field) (i n : Nat) (k l : Nat) : (s.inc F i n).plane k l = s.plane k l := (rfl)
@[simp] theorem State.inc_stair_of (F : Field) (i n : Nat) (k : Nat) : (s.inc F i n).stair k = s.stair k := (rfl)
@[simp] theorem State.inc_bank_of (F : Field) (i n : Nat) (k : Nat) : (s.inc F i n).bank k = s.bank k := (rfl)
@[simp] theorem State.inc_eng_of (F : Field) (i n : Nat) (k : Nat) : (s.inc F i n).eng k = s.eng k := (rfl)
@[simp] theorem State.inc_link_of (F : Field) (i n : Nat) (k : Nat) : (s.inc F i n).link k = s.link k := (rfl)
/-! ### incW -/
@[simp] theorem State.incW_pending (F : Field) (i n : Nat) : (s.incW F i n).pending = s.pending := (rfl)
@[simp] theorem State.incW_staged (F : Field) (i n : Nat) : (s.incW F i n).staged = s.staged := (rfl)
@[simp] theorem State.incW_snapshot (F : Field) (i n : Nat) : (s.incW F i n).snapshot = s.snapshot := (rfl)
@[simp] theorem State.incW_commit (F : Field) (i n : Nat) : (s.incW F i n).commit = s.commit := (rfl)
@[simp] theorem State.incW_epoch (F : Field) (i n : Nat) : (s.incW F i n).epoch = s.epoch := (rfl)
@[simp] theorem State.incW_latch (F : Field) (i n : Nat) : (s.incW F i n).latch = s.latch := (rfl)
@[simp] theorem State.incW_fresh (F : Field) (i n : Nat) : (s.incW F i n).fresh = s.fresh := (rfl)
@[simp] theorem State.incW_mem (F : Field) (i n : Nat) : (s.incW F i n).mem = s.mem := (rfl)
@[simp] theorem State.incW_synd (F : Field) (i n : Nat) : (s.incW F i n).synd = s.synd := (rfl)
@[simp] theorem State.incW_rooms (F : Field) (i n : Nat) : (s.incW F i n).rooms = s.rooms := (rfl)
@[simp] theorem State.incW_stairs (F : Field) (i n : Nat) : (s.incW F i n).stairs = s.stairs := (rfl)
@[simp] theorem State.incW_banks (F : Field) (i n : Nat) : (s.incW F i n).banks = s.banks := (rfl)
@[simp] theorem State.incW_svc (F : Field) (i n : Nat) : (s.incW F i n).svc = s.svc := (rfl)
@[simp] theorem State.incW_svcNext (F : Field) (i n : Nat) : (s.incW F i n).svcNext = s.svcNext := (rfl)
@[simp] theorem State.incW_ecLog (F : Field) (i n : Nat) : (s.incW F i n).ecLog = s.ecLog := (rfl)
@[simp] theorem State.incW_mow (F : Field) (i n : Nat) : (s.incW F i n).mow = s.mow := (rfl)
@[simp] theorem State.incW_net (F : Field) (i n : Nat) : (s.incW F i n).net = s.net := (rfl)
@[simp] theorem State.incW_sched (F : Field) (i n : Nat) : (s.incW F i n).sched = s.sched := (rfl)
@[simp] theorem State.incW_engs (F : Field) (i n : Nat) : (s.incW F i n).engs = s.engs := (rfl)
@[simp] theorem State.incW_links (F : Field) (i n : Nat) : (s.incW F i n).links = s.links := (rfl)
@[simp] theorem State.incW_enumer (F : Field) (i n : Nat) : (s.incW F i n).enumer = s.enumer := (rfl)
@[simp] theorem State.incW_crypto (F : Field) (i n : Nat) : (s.incW F i n).crypto = s.crypto := (rfl)
@[simp] theorem State.incW_mail (F : Field) (i n : Nat) : (s.incW F i n).mail = s.mail := (rfl)
@[simp] theorem State.incW_clk (F : Field) (i n : Nat) : (s.incW F i n).clk = s.clk := (rfl)
@[simp] theorem State.incW_pow (F : Field) (i n : Nat) : (s.incW F i n).pow = s.pow := (rfl)
@[simp] theorem State.incW_boot (F : Field) (i n : Nat) : (s.incW F i n).boot = s.boot := (rfl)
@[simp] theorem State.incW_fuses (F : Field) (i n : Nat) : (s.incW F i n).fuses = s.fuses := (rfl)
@[simp] theorem State.incW_flash (F : Field) (i n : Nat) : (s.incW F i n).flash = s.flash := (rfl)
@[simp] theorem State.incW_journal (F : Field) (i n : Nat) : (s.incW F i n).journal = s.journal := (rfl)
@[simp] theorem State.incW_replay (F : Field) (i n : Nat) : (s.incW F i n).replay = s.replay := (rfl)
@[simp] theorem State.incW_sec (F : Field) (i n : Nat) : (s.incW F i n).sec = s.sec := (rfl)
@[simp] theorem State.incW_odie (F : Field) (i n : Nat) : (s.incW F i n).odie = s.odie := (rfl)
@[simp] theorem State.incW_byte_of (F : Field) (i n : Nat) (k : Nat) : (s.incW F i n).byte k = s.byte k := (rfl)
@[simp] theorem State.incW_syn_of (F : Field) (i n : Nat) (k : Nat) : (s.incW F i n).syn k = s.syn k := (rfl)
@[simp] theorem State.incW_room_of (F : Field) (i n : Nat) (k : Nat) : (s.incW F i n).room k = s.room k := (rfl)
@[simp] theorem State.incW_plane_of (F : Field) (i n : Nat) (k l : Nat) : (s.incW F i n).plane k l = s.plane k l := (rfl)
@[simp] theorem State.incW_stair_of (F : Field) (i n : Nat) (k : Nat) : (s.incW F i n).stair k = s.stair k := (rfl)
@[simp] theorem State.incW_bank_of (F : Field) (i n : Nat) (k : Nat) : (s.incW F i n).bank k = s.bank k := (rfl)
@[simp] theorem State.incW_eng_of (F : Field) (i n : Nat) (k : Nat) : (s.incW F i n).eng k = s.eng k := (rfl)
@[simp] theorem State.incW_link_of (F : Field) (i n : Nat) (k : Nat) : (s.incW F i n).link k = s.link k := (rfl)
/-! ### drawn -/
@[simp] theorem State.drawn_pending : s.drawn.pending = s.pending := (rfl)
@[simp] theorem State.drawn_regs : s.drawn.regs = s.regs := (rfl)
@[simp] theorem State.drawn_staged : s.drawn.staged = s.staged := (rfl)
@[simp] theorem State.drawn_snapshot : s.drawn.snapshot = s.snapshot := (rfl)
@[simp] theorem State.drawn_commit : s.drawn.commit = s.commit := (rfl)
@[simp] theorem State.drawn_epoch : s.drawn.epoch = s.epoch := (rfl)
@[simp] theorem State.drawn_latch : s.drawn.latch = s.latch := (rfl)
@[simp] theorem State.drawn_mem : s.drawn.mem = s.mem := (rfl)
@[simp] theorem State.drawn_synd : s.drawn.synd = s.synd := (rfl)
@[simp] theorem State.drawn_rooms : s.drawn.rooms = s.rooms := (rfl)
@[simp] theorem State.drawn_stairs : s.drawn.stairs = s.stairs := (rfl)
@[simp] theorem State.drawn_banks : s.drawn.banks = s.banks := (rfl)
@[simp] theorem State.drawn_svc : s.drawn.svc = s.svc := (rfl)
@[simp] theorem State.drawn_svcNext : s.drawn.svcNext = s.svcNext := (rfl)
@[simp] theorem State.drawn_ecLog : s.drawn.ecLog = s.ecLog := (rfl)
@[simp] theorem State.drawn_mow : s.drawn.mow = s.mow := (rfl)
@[simp] theorem State.drawn_net : s.drawn.net = s.net := (rfl)
@[simp] theorem State.drawn_sched : s.drawn.sched = s.sched := (rfl)
@[simp] theorem State.drawn_engs : s.drawn.engs = s.engs := (rfl)
@[simp] theorem State.drawn_links : s.drawn.links = s.links := (rfl)
@[simp] theorem State.drawn_enumer : s.drawn.enumer = s.enumer := (rfl)
@[simp] theorem State.drawn_crypto : s.drawn.crypto = s.crypto := (rfl)
@[simp] theorem State.drawn_mail : s.drawn.mail = s.mail := (rfl)
@[simp] theorem State.drawn_clk : s.drawn.clk = s.clk := (rfl)
@[simp] theorem State.drawn_pow : s.drawn.pow = s.pow := (rfl)
@[simp] theorem State.drawn_boot : s.drawn.boot = s.boot := (rfl)
@[simp] theorem State.drawn_fuses : s.drawn.fuses = s.fuses := (rfl)
@[simp] theorem State.drawn_flash : s.drawn.flash = s.flash := (rfl)
@[simp] theorem State.drawn_journal : s.drawn.journal = s.journal := (rfl)
@[simp] theorem State.drawn_replay : s.drawn.replay = s.replay := (rfl)
@[simp] theorem State.drawn_sec : s.drawn.sec = s.sec := (rfl)
@[simp] theorem State.drawn_odie : s.drawn.odie = s.odie := (rfl)
@[simp] theorem State.drawn_raw_of  (k : Nat) : s.drawn.raw k = s.raw k := (rfl)
@[simp] theorem State.drawn_rd_of  (q : Reg) (j : Nat) : s.drawn.rd q j = s.rd q j := (rfl)
@[simp] theorem State.drawn_f_of  (G : Field) (j : Nat) : s.drawn.f G j = s.f G j := (rfl)
@[simp] theorem State.drawn_byte_of  (k : Nat) : s.drawn.byte k = s.byte k := (rfl)
@[simp] theorem State.drawn_syn_of  (k : Nat) : s.drawn.syn k = s.syn k := (rfl)
@[simp] theorem State.drawn_room_of  (k : Nat) : s.drawn.room k = s.room k := (rfl)
@[simp] theorem State.drawn_plane_of  (k l : Nat) : s.drawn.plane k l = s.plane k l := (rfl)
@[simp] theorem State.drawn_stair_of  (k : Nat) : s.drawn.stair k = s.stair k := (rfl)
@[simp] theorem State.drawn_bank_of  (k : Nat) : s.drawn.bank k = s.bank k := (rfl)
@[simp] theorem State.drawn_eng_of  (k : Nat) : s.drawn.eng k = s.eng k := (rfl)
@[simp] theorem State.drawn_link_of  (k : Nat) : s.drawn.link k = s.link k := (rfl)
/-! ### odClear -/
@[simp] theorem State.odClear_pending (o : OnDie) : (s.odClear o).pending = s.pending := (rfl)
@[simp] theorem State.odClear_regs (o : OnDie) : (s.odClear o).regs = s.regs := (rfl)
@[simp] theorem State.odClear_staged (o : OnDie) : (s.odClear o).staged = s.staged := (rfl)
@[simp] theorem State.odClear_snapshot (o : OnDie) : (s.odClear o).snapshot = s.snapshot := (rfl)
@[simp] theorem State.odClear_commit (o : OnDie) : (s.odClear o).commit = s.commit := (rfl)
@[simp] theorem State.odClear_epoch (o : OnDie) : (s.odClear o).epoch = s.epoch := (rfl)
@[simp] theorem State.odClear_latch (o : OnDie) : (s.odClear o).latch = s.latch := (rfl)
@[simp] theorem State.odClear_fresh (o : OnDie) : (s.odClear o).fresh = s.fresh := (rfl)
@[simp] theorem State.odClear_mem (o : OnDie) : (s.odClear o).mem = s.mem := (rfl)
@[simp] theorem State.odClear_synd (o : OnDie) : (s.odClear o).synd = s.synd := (rfl)
@[simp] theorem State.odClear_rooms (o : OnDie) : (s.odClear o).rooms = s.rooms := (rfl)
@[simp] theorem State.odClear_stairs (o : OnDie) : (s.odClear o).stairs = s.stairs := (rfl)
@[simp] theorem State.odClear_banks (o : OnDie) : (s.odClear o).banks = s.banks := (rfl)
@[simp] theorem State.odClear_svc (o : OnDie) : (s.odClear o).svc = s.svc := (rfl)
@[simp] theorem State.odClear_svcNext (o : OnDie) : (s.odClear o).svcNext = s.svcNext := (rfl)
@[simp] theorem State.odClear_ecLog (o : OnDie) : (s.odClear o).ecLog = s.ecLog := (rfl)
@[simp] theorem State.odClear_mow (o : OnDie) : (s.odClear o).mow = s.mow := (rfl)
@[simp] theorem State.odClear_net (o : OnDie) : (s.odClear o).net = s.net := (rfl)
@[simp] theorem State.odClear_sched (o : OnDie) : (s.odClear o).sched = s.sched := (rfl)
@[simp] theorem State.odClear_engs (o : OnDie) : (s.odClear o).engs = s.engs := (rfl)
@[simp] theorem State.odClear_links (o : OnDie) : (s.odClear o).links = s.links := (rfl)
@[simp] theorem State.odClear_enumer (o : OnDie) : (s.odClear o).enumer = s.enumer := (rfl)
@[simp] theorem State.odClear_crypto (o : OnDie) : (s.odClear o).crypto = s.crypto := (rfl)
@[simp] theorem State.odClear_mail (o : OnDie) : (s.odClear o).mail = s.mail := (rfl)
@[simp] theorem State.odClear_clk (o : OnDie) : (s.odClear o).clk = s.clk := (rfl)
@[simp] theorem State.odClear_pow (o : OnDie) : (s.odClear o).pow = s.pow := (rfl)
@[simp] theorem State.odClear_boot (o : OnDie) : (s.odClear o).boot = s.boot := (rfl)
@[simp] theorem State.odClear_fuses (o : OnDie) : (s.odClear o).fuses = s.fuses := (rfl)
@[simp] theorem State.odClear_flash (o : OnDie) : (s.odClear o).flash = s.flash := (rfl)
@[simp] theorem State.odClear_journal (o : OnDie) : (s.odClear o).journal = s.journal := (rfl)
@[simp] theorem State.odClear_replay (o : OnDie) : (s.odClear o).replay = s.replay := (rfl)
@[simp] theorem State.odClear_sec (o : OnDie) : (s.odClear o).sec = s.sec := (rfl)
@[simp] theorem State.odClear_raw_of (o : OnDie) (k : Nat) : (s.odClear o).raw k = s.raw k := (rfl)
@[simp] theorem State.odClear_rd_of (o : OnDie) (q : Reg) (j : Nat) : (s.odClear o).rd q j = s.rd q j := (rfl)
@[simp] theorem State.odClear_f_of (o : OnDie) (G : Field) (j : Nat) : (s.odClear o).f G j = s.f G j := (rfl)
@[simp] theorem State.odClear_byte_of (o : OnDie) (k : Nat) : (s.odClear o).byte k = s.byte k := (rfl)
@[simp] theorem State.odClear_syn_of (o : OnDie) (k : Nat) : (s.odClear o).syn k = s.syn k := (rfl)
@[simp] theorem State.odClear_room_of (o : OnDie) (k : Nat) : (s.odClear o).room k = s.room k := (rfl)
@[simp] theorem State.odClear_plane_of (o : OnDie) (k l : Nat) : (s.odClear o).plane k l = s.plane k l := (rfl)
@[simp] theorem State.odClear_stair_of (o : OnDie) (k : Nat) : (s.odClear o).stair k = s.stair k := (rfl)
@[simp] theorem State.odClear_bank_of (o : OnDie) (k : Nat) : (s.odClear o).bank k = s.bank k := (rfl)
@[simp] theorem State.odClear_eng_of (o : OnDie) (k : Nat) : (s.odClear o).eng k = s.eng k := (rfl)
@[simp] theorem State.odClear_link_of (o : OnDie) (k : Nat) : (s.odClear o).link k = s.link k := (rfl)
/-! ### updRoom -/
@[simp] theorem State.updRoom_pending (n : Nat) (g : Room → Room) : (s.updRoom n g).pending = s.pending := (rfl)
@[simp] theorem State.updRoom_regs (n : Nat) (g : Room → Room) : (s.updRoom n g).regs = s.regs := (rfl)
@[simp] theorem State.updRoom_staged (n : Nat) (g : Room → Room) : (s.updRoom n g).staged = s.staged := (rfl)
@[simp] theorem State.updRoom_snapshot (n : Nat) (g : Room → Room) : (s.updRoom n g).snapshot = s.snapshot := (rfl)
@[simp] theorem State.updRoom_commit (n : Nat) (g : Room → Room) : (s.updRoom n g).commit = s.commit := (rfl)
@[simp] theorem State.updRoom_epoch (n : Nat) (g : Room → Room) : (s.updRoom n g).epoch = s.epoch := (rfl)
@[simp] theorem State.updRoom_latch (n : Nat) (g : Room → Room) : (s.updRoom n g).latch = s.latch := (rfl)
@[simp] theorem State.updRoom_fresh (n : Nat) (g : Room → Room) : (s.updRoom n g).fresh = s.fresh := (rfl)
@[simp] theorem State.updRoom_mem (n : Nat) (g : Room → Room) : (s.updRoom n g).mem = s.mem := (rfl)
@[simp] theorem State.updRoom_synd (n : Nat) (g : Room → Room) : (s.updRoom n g).synd = s.synd := (rfl)
@[simp] theorem State.updRoom_stairs (n : Nat) (g : Room → Room) : (s.updRoom n g).stairs = s.stairs := (rfl)
@[simp] theorem State.updRoom_banks (n : Nat) (g : Room → Room) : (s.updRoom n g).banks = s.banks := (rfl)
@[simp] theorem State.updRoom_svc (n : Nat) (g : Room → Room) : (s.updRoom n g).svc = s.svc := (rfl)
@[simp] theorem State.updRoom_svcNext (n : Nat) (g : Room → Room) : (s.updRoom n g).svcNext = s.svcNext := (rfl)
@[simp] theorem State.updRoom_ecLog (n : Nat) (g : Room → Room) : (s.updRoom n g).ecLog = s.ecLog := (rfl)
@[simp] theorem State.updRoom_mow (n : Nat) (g : Room → Room) : (s.updRoom n g).mow = s.mow := (rfl)
@[simp] theorem State.updRoom_net (n : Nat) (g : Room → Room) : (s.updRoom n g).net = s.net := (rfl)
@[simp] theorem State.updRoom_sched (n : Nat) (g : Room → Room) : (s.updRoom n g).sched = s.sched := (rfl)
@[simp] theorem State.updRoom_engs (n : Nat) (g : Room → Room) : (s.updRoom n g).engs = s.engs := (rfl)
@[simp] theorem State.updRoom_links (n : Nat) (g : Room → Room) : (s.updRoom n g).links = s.links := (rfl)
@[simp] theorem State.updRoom_enumer (n : Nat) (g : Room → Room) : (s.updRoom n g).enumer = s.enumer := (rfl)
@[simp] theorem State.updRoom_crypto (n : Nat) (g : Room → Room) : (s.updRoom n g).crypto = s.crypto := (rfl)
@[simp] theorem State.updRoom_mail (n : Nat) (g : Room → Room) : (s.updRoom n g).mail = s.mail := (rfl)
@[simp] theorem State.updRoom_clk (n : Nat) (g : Room → Room) : (s.updRoom n g).clk = s.clk := (rfl)
@[simp] theorem State.updRoom_pow (n : Nat) (g : Room → Room) : (s.updRoom n g).pow = s.pow := (rfl)
@[simp] theorem State.updRoom_boot (n : Nat) (g : Room → Room) : (s.updRoom n g).boot = s.boot := (rfl)
@[simp] theorem State.updRoom_fuses (n : Nat) (g : Room → Room) : (s.updRoom n g).fuses = s.fuses := (rfl)
@[simp] theorem State.updRoom_flash (n : Nat) (g : Room → Room) : (s.updRoom n g).flash = s.flash := (rfl)
@[simp] theorem State.updRoom_journal (n : Nat) (g : Room → Room) : (s.updRoom n g).journal = s.journal := (rfl)
@[simp] theorem State.updRoom_replay (n : Nat) (g : Room → Room) : (s.updRoom n g).replay = s.replay := (rfl)
@[simp] theorem State.updRoom_sec (n : Nat) (g : Room → Room) : (s.updRoom n g).sec = s.sec := (rfl)
@[simp] theorem State.updRoom_odie (n : Nat) (g : Room → Room) : (s.updRoom n g).odie = s.odie := (rfl)
@[simp] theorem State.updRoom_raw_of (n : Nat) (g : Room → Room) (k : Nat) : (s.updRoom n g).raw k = s.raw k := (rfl)
@[simp] theorem State.updRoom_rd_of (n : Nat) (g : Room → Room) (q : Reg) (j : Nat) : (s.updRoom n g).rd q j = s.rd q j := (rfl)
@[simp] theorem State.updRoom_f_of (n : Nat) (g : Room → Room) (G : Field) (j : Nat) : (s.updRoom n g).f G j = s.f G j := (rfl)
@[simp] theorem State.updRoom_byte_of (n : Nat) (g : Room → Room) (k : Nat) : (s.updRoom n g).byte k = s.byte k := (rfl)
@[simp] theorem State.updRoom_syn_of (n : Nat) (g : Room → Room) (k : Nat) : (s.updRoom n g).syn k = s.syn k := (rfl)
@[simp] theorem State.updRoom_stair_of (n : Nat) (g : Room → Room) (k : Nat) : (s.updRoom n g).stair k = s.stair k := (rfl)
@[simp] theorem State.updRoom_bank_of (n : Nat) (g : Room → Room) (k : Nat) : (s.updRoom n g).bank k = s.bank k := (rfl)
@[simp] theorem State.updRoom_eng_of (n : Nat) (g : Room → Room) (k : Nat) : (s.updRoom n g).eng k = s.eng k := (rfl)
@[simp] theorem State.updRoom_link_of (n : Nat) (g : Room → Room) (k : Nat) : (s.updRoom n g).link k = s.link k := (rfl)
/-! ### updPlane -/
@[simp] theorem State.updPlane_pending (n p : Nat) (g : Plane → Plane) : (s.updPlane n p g).pending = s.pending := (rfl)
@[simp] theorem State.updPlane_regs (n p : Nat) (g : Plane → Plane) : (s.updPlane n p g).regs = s.regs := (rfl)
@[simp] theorem State.updPlane_staged (n p : Nat) (g : Plane → Plane) : (s.updPlane n p g).staged = s.staged := (rfl)
@[simp] theorem State.updPlane_snapshot (n p : Nat) (g : Plane → Plane) : (s.updPlane n p g).snapshot = s.snapshot := (rfl)
@[simp] theorem State.updPlane_commit (n p : Nat) (g : Plane → Plane) : (s.updPlane n p g).commit = s.commit := (rfl)
@[simp] theorem State.updPlane_epoch (n p : Nat) (g : Plane → Plane) : (s.updPlane n p g).epoch = s.epoch := (rfl)
@[simp] theorem State.updPlane_latch (n p : Nat) (g : Plane → Plane) : (s.updPlane n p g).latch = s.latch := (rfl)
@[simp] theorem State.updPlane_fresh (n p : Nat) (g : Plane → Plane) : (s.updPlane n p g).fresh = s.fresh := (rfl)
@[simp] theorem State.updPlane_mem (n p : Nat) (g : Plane → Plane) : (s.updPlane n p g).mem = s.mem := (rfl)
@[simp] theorem State.updPlane_synd (n p : Nat) (g : Plane → Plane) : (s.updPlane n p g).synd = s.synd := (rfl)
@[simp] theorem State.updPlane_stairs (n p : Nat) (g : Plane → Plane) : (s.updPlane n p g).stairs = s.stairs := (rfl)
@[simp] theorem State.updPlane_banks (n p : Nat) (g : Plane → Plane) : (s.updPlane n p g).banks = s.banks := (rfl)
@[simp] theorem State.updPlane_svc (n p : Nat) (g : Plane → Plane) : (s.updPlane n p g).svc = s.svc := (rfl)
@[simp] theorem State.updPlane_svcNext (n p : Nat) (g : Plane → Plane) : (s.updPlane n p g).svcNext = s.svcNext := (rfl)
@[simp] theorem State.updPlane_ecLog (n p : Nat) (g : Plane → Plane) : (s.updPlane n p g).ecLog = s.ecLog := (rfl)
@[simp] theorem State.updPlane_mow (n p : Nat) (g : Plane → Plane) : (s.updPlane n p g).mow = s.mow := (rfl)
@[simp] theorem State.updPlane_net (n p : Nat) (g : Plane → Plane) : (s.updPlane n p g).net = s.net := (rfl)
@[simp] theorem State.updPlane_sched (n p : Nat) (g : Plane → Plane) : (s.updPlane n p g).sched = s.sched := (rfl)
@[simp] theorem State.updPlane_engs (n p : Nat) (g : Plane → Plane) : (s.updPlane n p g).engs = s.engs := (rfl)
@[simp] theorem State.updPlane_links (n p : Nat) (g : Plane → Plane) : (s.updPlane n p g).links = s.links := (rfl)
@[simp] theorem State.updPlane_enumer (n p : Nat) (g : Plane → Plane) : (s.updPlane n p g).enumer = s.enumer := (rfl)
@[simp] theorem State.updPlane_crypto (n p : Nat) (g : Plane → Plane) : (s.updPlane n p g).crypto = s.crypto := (rfl)
@[simp] theorem State.updPlane_mail (n p : Nat) (g : Plane → Plane) : (s.updPlane n p g).mail = s.mail := (rfl)
@[simp] theorem State.updPlane_clk (n p : Nat) (g : Plane → Plane) : (s.updPlane n p g).clk = s.clk := (rfl)
@[simp] theorem State.updPlane_pow (n p : Nat) (g : Plane → Plane) : (s.updPlane n p g).pow = s.pow := (rfl)
@[simp] theorem State.updPlane_boot (n p : Nat) (g : Plane → Plane) : (s.updPlane n p g).boot = s.boot := (rfl)
@[simp] theorem State.updPlane_fuses (n p : Nat) (g : Plane → Plane) : (s.updPlane n p g).fuses = s.fuses := (rfl)
@[simp] theorem State.updPlane_flash (n p : Nat) (g : Plane → Plane) : (s.updPlane n p g).flash = s.flash := (rfl)
@[simp] theorem State.updPlane_journal (n p : Nat) (g : Plane → Plane) : (s.updPlane n p g).journal = s.journal := (rfl)
@[simp] theorem State.updPlane_replay (n p : Nat) (g : Plane → Plane) : (s.updPlane n p g).replay = s.replay := (rfl)
@[simp] theorem State.updPlane_sec (n p : Nat) (g : Plane → Plane) : (s.updPlane n p g).sec = s.sec := (rfl)
@[simp] theorem State.updPlane_odie (n p : Nat) (g : Plane → Plane) : (s.updPlane n p g).odie = s.odie := (rfl)
@[simp] theorem State.updPlane_raw_of (n p : Nat) (g : Plane → Plane) (k : Nat) : (s.updPlane n p g).raw k = s.raw k := (rfl)
@[simp] theorem State.updPlane_rd_of (n p : Nat) (g : Plane → Plane) (q : Reg) (j : Nat) : (s.updPlane n p g).rd q j = s.rd q j := (rfl)
@[simp] theorem State.updPlane_f_of (n p : Nat) (g : Plane → Plane) (G : Field) (j : Nat) : (s.updPlane n p g).f G j = s.f G j := (rfl)
@[simp] theorem State.updPlane_byte_of (n p : Nat) (g : Plane → Plane) (k : Nat) : (s.updPlane n p g).byte k = s.byte k := (rfl)
@[simp] theorem State.updPlane_syn_of (n p : Nat) (g : Plane → Plane) (k : Nat) : (s.updPlane n p g).syn k = s.syn k := (rfl)
@[simp] theorem State.updPlane_stair_of (n p : Nat) (g : Plane → Plane) (k : Nat) : (s.updPlane n p g).stair k = s.stair k := (rfl)
@[simp] theorem State.updPlane_bank_of (n p : Nat) (g : Plane → Plane) (k : Nat) : (s.updPlane n p g).bank k = s.bank k := (rfl)
@[simp] theorem State.updPlane_eng_of (n p : Nat) (g : Plane → Plane) (k : Nat) : (s.updPlane n p g).eng k = s.eng k := (rfl)
@[simp] theorem State.updPlane_link_of (n p : Nat) (g : Plane → Plane) (k : Nat) : (s.updPlane n p g).link k = s.link k := (rfl)
/-! ### updStair -/
@[simp] theorem State.updStair_pending (n : Nat) (g : Stair → Stair) : (s.updStair n g).pending = s.pending := (rfl)
@[simp] theorem State.updStair_regs (n : Nat) (g : Stair → Stair) : (s.updStair n g).regs = s.regs := (rfl)
@[simp] theorem State.updStair_staged (n : Nat) (g : Stair → Stair) : (s.updStair n g).staged = s.staged := (rfl)
@[simp] theorem State.updStair_snapshot (n : Nat) (g : Stair → Stair) : (s.updStair n g).snapshot = s.snapshot := (rfl)
@[simp] theorem State.updStair_commit (n : Nat) (g : Stair → Stair) : (s.updStair n g).commit = s.commit := (rfl)
@[simp] theorem State.updStair_epoch (n : Nat) (g : Stair → Stair) : (s.updStair n g).epoch = s.epoch := (rfl)
@[simp] theorem State.updStair_latch (n : Nat) (g : Stair → Stair) : (s.updStair n g).latch = s.latch := (rfl)
@[simp] theorem State.updStair_fresh (n : Nat) (g : Stair → Stair) : (s.updStair n g).fresh = s.fresh := (rfl)
@[simp] theorem State.updStair_mem (n : Nat) (g : Stair → Stair) : (s.updStair n g).mem = s.mem := (rfl)
@[simp] theorem State.updStair_synd (n : Nat) (g : Stair → Stair) : (s.updStair n g).synd = s.synd := (rfl)
@[simp] theorem State.updStair_rooms (n : Nat) (g : Stair → Stair) : (s.updStair n g).rooms = s.rooms := (rfl)
@[simp] theorem State.updStair_banks (n : Nat) (g : Stair → Stair) : (s.updStair n g).banks = s.banks := (rfl)
@[simp] theorem State.updStair_svc (n : Nat) (g : Stair → Stair) : (s.updStair n g).svc = s.svc := (rfl)
@[simp] theorem State.updStair_svcNext (n : Nat) (g : Stair → Stair) : (s.updStair n g).svcNext = s.svcNext := (rfl)
@[simp] theorem State.updStair_ecLog (n : Nat) (g : Stair → Stair) : (s.updStair n g).ecLog = s.ecLog := (rfl)
@[simp] theorem State.updStair_mow (n : Nat) (g : Stair → Stair) : (s.updStair n g).mow = s.mow := (rfl)
@[simp] theorem State.updStair_net (n : Nat) (g : Stair → Stair) : (s.updStair n g).net = s.net := (rfl)
@[simp] theorem State.updStair_sched (n : Nat) (g : Stair → Stair) : (s.updStair n g).sched = s.sched := (rfl)
@[simp] theorem State.updStair_engs (n : Nat) (g : Stair → Stair) : (s.updStair n g).engs = s.engs := (rfl)
@[simp] theorem State.updStair_links (n : Nat) (g : Stair → Stair) : (s.updStair n g).links = s.links := (rfl)
@[simp] theorem State.updStair_enumer (n : Nat) (g : Stair → Stair) : (s.updStair n g).enumer = s.enumer := (rfl)
@[simp] theorem State.updStair_crypto (n : Nat) (g : Stair → Stair) : (s.updStair n g).crypto = s.crypto := (rfl)
@[simp] theorem State.updStair_mail (n : Nat) (g : Stair → Stair) : (s.updStair n g).mail = s.mail := (rfl)
@[simp] theorem State.updStair_clk (n : Nat) (g : Stair → Stair) : (s.updStair n g).clk = s.clk := (rfl)
@[simp] theorem State.updStair_pow (n : Nat) (g : Stair → Stair) : (s.updStair n g).pow = s.pow := (rfl)
@[simp] theorem State.updStair_boot (n : Nat) (g : Stair → Stair) : (s.updStair n g).boot = s.boot := (rfl)
@[simp] theorem State.updStair_fuses (n : Nat) (g : Stair → Stair) : (s.updStair n g).fuses = s.fuses := (rfl)
@[simp] theorem State.updStair_flash (n : Nat) (g : Stair → Stair) : (s.updStair n g).flash = s.flash := (rfl)
@[simp] theorem State.updStair_journal (n : Nat) (g : Stair → Stair) : (s.updStair n g).journal = s.journal := (rfl)
@[simp] theorem State.updStair_replay (n : Nat) (g : Stair → Stair) : (s.updStair n g).replay = s.replay := (rfl)
@[simp] theorem State.updStair_sec (n : Nat) (g : Stair → Stair) : (s.updStair n g).sec = s.sec := (rfl)
@[simp] theorem State.updStair_odie (n : Nat) (g : Stair → Stair) : (s.updStair n g).odie = s.odie := (rfl)
@[simp] theorem State.updStair_raw_of (n : Nat) (g : Stair → Stair) (k : Nat) : (s.updStair n g).raw k = s.raw k := (rfl)
@[simp] theorem State.updStair_rd_of (n : Nat) (g : Stair → Stair) (q : Reg) (j : Nat) : (s.updStair n g).rd q j = s.rd q j := (rfl)
@[simp] theorem State.updStair_f_of (n : Nat) (g : Stair → Stair) (G : Field) (j : Nat) : (s.updStair n g).f G j = s.f G j := (rfl)
@[simp] theorem State.updStair_byte_of (n : Nat) (g : Stair → Stair) (k : Nat) : (s.updStair n g).byte k = s.byte k := (rfl)
@[simp] theorem State.updStair_syn_of (n : Nat) (g : Stair → Stair) (k : Nat) : (s.updStair n g).syn k = s.syn k := (rfl)
@[simp] theorem State.updStair_room_of (n : Nat) (g : Stair → Stair) (k : Nat) : (s.updStair n g).room k = s.room k := (rfl)
@[simp] theorem State.updStair_plane_of (n : Nat) (g : Stair → Stair) (k l : Nat) : (s.updStair n g).plane k l = s.plane k l := (rfl)
@[simp] theorem State.updStair_bank_of (n : Nat) (g : Stair → Stair) (k : Nat) : (s.updStair n g).bank k = s.bank k := (rfl)
@[simp] theorem State.updStair_eng_of (n : Nat) (g : Stair → Stair) (k : Nat) : (s.updStair n g).eng k = s.eng k := (rfl)
@[simp] theorem State.updStair_link_of (n : Nat) (g : Stair → Stair) (k : Nat) : (s.updStair n g).link k = s.link k := (rfl)
/-! ### updBank -/
@[simp] theorem State.updBank_pending (n : Nat) (g : Bank → Bank) : (s.updBank n g).pending = s.pending := (rfl)
@[simp] theorem State.updBank_regs (n : Nat) (g : Bank → Bank) : (s.updBank n g).regs = s.regs := (rfl)
@[simp] theorem State.updBank_staged (n : Nat) (g : Bank → Bank) : (s.updBank n g).staged = s.staged := (rfl)
@[simp] theorem State.updBank_snapshot (n : Nat) (g : Bank → Bank) : (s.updBank n g).snapshot = s.snapshot := (rfl)
@[simp] theorem State.updBank_commit (n : Nat) (g : Bank → Bank) : (s.updBank n g).commit = s.commit := (rfl)
@[simp] theorem State.updBank_epoch (n : Nat) (g : Bank → Bank) : (s.updBank n g).epoch = s.epoch := (rfl)
@[simp] theorem State.updBank_latch (n : Nat) (g : Bank → Bank) : (s.updBank n g).latch = s.latch := (rfl)
@[simp] theorem State.updBank_fresh (n : Nat) (g : Bank → Bank) : (s.updBank n g).fresh = s.fresh := (rfl)
@[simp] theorem State.updBank_mem (n : Nat) (g : Bank → Bank) : (s.updBank n g).mem = s.mem := (rfl)
@[simp] theorem State.updBank_synd (n : Nat) (g : Bank → Bank) : (s.updBank n g).synd = s.synd := (rfl)
@[simp] theorem State.updBank_rooms (n : Nat) (g : Bank → Bank) : (s.updBank n g).rooms = s.rooms := (rfl)
@[simp] theorem State.updBank_stairs (n : Nat) (g : Bank → Bank) : (s.updBank n g).stairs = s.stairs := (rfl)
@[simp] theorem State.updBank_svc (n : Nat) (g : Bank → Bank) : (s.updBank n g).svc = s.svc := (rfl)
@[simp] theorem State.updBank_svcNext (n : Nat) (g : Bank → Bank) : (s.updBank n g).svcNext = s.svcNext := (rfl)
@[simp] theorem State.updBank_ecLog (n : Nat) (g : Bank → Bank) : (s.updBank n g).ecLog = s.ecLog := (rfl)
@[simp] theorem State.updBank_mow (n : Nat) (g : Bank → Bank) : (s.updBank n g).mow = s.mow := (rfl)
@[simp] theorem State.updBank_net (n : Nat) (g : Bank → Bank) : (s.updBank n g).net = s.net := (rfl)
@[simp] theorem State.updBank_sched (n : Nat) (g : Bank → Bank) : (s.updBank n g).sched = s.sched := (rfl)
@[simp] theorem State.updBank_engs (n : Nat) (g : Bank → Bank) : (s.updBank n g).engs = s.engs := (rfl)
@[simp] theorem State.updBank_links (n : Nat) (g : Bank → Bank) : (s.updBank n g).links = s.links := (rfl)
@[simp] theorem State.updBank_enumer (n : Nat) (g : Bank → Bank) : (s.updBank n g).enumer = s.enumer := (rfl)
@[simp] theorem State.updBank_crypto (n : Nat) (g : Bank → Bank) : (s.updBank n g).crypto = s.crypto := (rfl)
@[simp] theorem State.updBank_mail (n : Nat) (g : Bank → Bank) : (s.updBank n g).mail = s.mail := (rfl)
@[simp] theorem State.updBank_clk (n : Nat) (g : Bank → Bank) : (s.updBank n g).clk = s.clk := (rfl)
@[simp] theorem State.updBank_pow (n : Nat) (g : Bank → Bank) : (s.updBank n g).pow = s.pow := (rfl)
@[simp] theorem State.updBank_boot (n : Nat) (g : Bank → Bank) : (s.updBank n g).boot = s.boot := (rfl)
@[simp] theorem State.updBank_fuses (n : Nat) (g : Bank → Bank) : (s.updBank n g).fuses = s.fuses := (rfl)
@[simp] theorem State.updBank_flash (n : Nat) (g : Bank → Bank) : (s.updBank n g).flash = s.flash := (rfl)
@[simp] theorem State.updBank_journal (n : Nat) (g : Bank → Bank) : (s.updBank n g).journal = s.journal := (rfl)
@[simp] theorem State.updBank_replay (n : Nat) (g : Bank → Bank) : (s.updBank n g).replay = s.replay := (rfl)
@[simp] theorem State.updBank_sec (n : Nat) (g : Bank → Bank) : (s.updBank n g).sec = s.sec := (rfl)
@[simp] theorem State.updBank_odie (n : Nat) (g : Bank → Bank) : (s.updBank n g).odie = s.odie := (rfl)
@[simp] theorem State.updBank_raw_of (n : Nat) (g : Bank → Bank) (k : Nat) : (s.updBank n g).raw k = s.raw k := (rfl)
@[simp] theorem State.updBank_rd_of (n : Nat) (g : Bank → Bank) (q : Reg) (j : Nat) : (s.updBank n g).rd q j = s.rd q j := (rfl)
@[simp] theorem State.updBank_f_of (n : Nat) (g : Bank → Bank) (G : Field) (j : Nat) : (s.updBank n g).f G j = s.f G j := (rfl)
@[simp] theorem State.updBank_byte_of (n : Nat) (g : Bank → Bank) (k : Nat) : (s.updBank n g).byte k = s.byte k := (rfl)
@[simp] theorem State.updBank_syn_of (n : Nat) (g : Bank → Bank) (k : Nat) : (s.updBank n g).syn k = s.syn k := (rfl)
@[simp] theorem State.updBank_room_of (n : Nat) (g : Bank → Bank) (k : Nat) : (s.updBank n g).room k = s.room k := (rfl)
@[simp] theorem State.updBank_plane_of (n : Nat) (g : Bank → Bank) (k l : Nat) : (s.updBank n g).plane k l = s.plane k l := (rfl)
@[simp] theorem State.updBank_stair_of (n : Nat) (g : Bank → Bank) (k : Nat) : (s.updBank n g).stair k = s.stair k := (rfl)
@[simp] theorem State.updBank_eng_of (n : Nat) (g : Bank → Bank) (k : Nat) : (s.updBank n g).eng k = s.eng k := (rfl)
@[simp] theorem State.updBank_link_of (n : Nat) (g : Bank → Bank) (k : Nat) : (s.updBank n g).link k = s.link k := (rfl)
/-! ### updEng -/
@[simp] theorem State.updEng_pending (n : Nat) (g : Eng → Eng) : (s.updEng n g).pending = s.pending := (rfl)
@[simp] theorem State.updEng_regs (n : Nat) (g : Eng → Eng) : (s.updEng n g).regs = s.regs := (rfl)
@[simp] theorem State.updEng_staged (n : Nat) (g : Eng → Eng) : (s.updEng n g).staged = s.staged := (rfl)
@[simp] theorem State.updEng_snapshot (n : Nat) (g : Eng → Eng) : (s.updEng n g).snapshot = s.snapshot := (rfl)
@[simp] theorem State.updEng_commit (n : Nat) (g : Eng → Eng) : (s.updEng n g).commit = s.commit := (rfl)
@[simp] theorem State.updEng_epoch (n : Nat) (g : Eng → Eng) : (s.updEng n g).epoch = s.epoch := (rfl)
@[simp] theorem State.updEng_latch (n : Nat) (g : Eng → Eng) : (s.updEng n g).latch = s.latch := (rfl)
@[simp] theorem State.updEng_fresh (n : Nat) (g : Eng → Eng) : (s.updEng n g).fresh = s.fresh := (rfl)
@[simp] theorem State.updEng_mem (n : Nat) (g : Eng → Eng) : (s.updEng n g).mem = s.mem := (rfl)
@[simp] theorem State.updEng_synd (n : Nat) (g : Eng → Eng) : (s.updEng n g).synd = s.synd := (rfl)
@[simp] theorem State.updEng_rooms (n : Nat) (g : Eng → Eng) : (s.updEng n g).rooms = s.rooms := (rfl)
@[simp] theorem State.updEng_stairs (n : Nat) (g : Eng → Eng) : (s.updEng n g).stairs = s.stairs := (rfl)
@[simp] theorem State.updEng_banks (n : Nat) (g : Eng → Eng) : (s.updEng n g).banks = s.banks := (rfl)
@[simp] theorem State.updEng_svc (n : Nat) (g : Eng → Eng) : (s.updEng n g).svc = s.svc := (rfl)
@[simp] theorem State.updEng_svcNext (n : Nat) (g : Eng → Eng) : (s.updEng n g).svcNext = s.svcNext := (rfl)
@[simp] theorem State.updEng_ecLog (n : Nat) (g : Eng → Eng) : (s.updEng n g).ecLog = s.ecLog := (rfl)
@[simp] theorem State.updEng_mow (n : Nat) (g : Eng → Eng) : (s.updEng n g).mow = s.mow := (rfl)
@[simp] theorem State.updEng_net (n : Nat) (g : Eng → Eng) : (s.updEng n g).net = s.net := (rfl)
@[simp] theorem State.updEng_sched (n : Nat) (g : Eng → Eng) : (s.updEng n g).sched = s.sched := (rfl)
@[simp] theorem State.updEng_links (n : Nat) (g : Eng → Eng) : (s.updEng n g).links = s.links := (rfl)
@[simp] theorem State.updEng_enumer (n : Nat) (g : Eng → Eng) : (s.updEng n g).enumer = s.enumer := (rfl)
@[simp] theorem State.updEng_crypto (n : Nat) (g : Eng → Eng) : (s.updEng n g).crypto = s.crypto := (rfl)
@[simp] theorem State.updEng_mail (n : Nat) (g : Eng → Eng) : (s.updEng n g).mail = s.mail := (rfl)
@[simp] theorem State.updEng_clk (n : Nat) (g : Eng → Eng) : (s.updEng n g).clk = s.clk := (rfl)
@[simp] theorem State.updEng_pow (n : Nat) (g : Eng → Eng) : (s.updEng n g).pow = s.pow := (rfl)
@[simp] theorem State.updEng_boot (n : Nat) (g : Eng → Eng) : (s.updEng n g).boot = s.boot := (rfl)
@[simp] theorem State.updEng_fuses (n : Nat) (g : Eng → Eng) : (s.updEng n g).fuses = s.fuses := (rfl)
@[simp] theorem State.updEng_flash (n : Nat) (g : Eng → Eng) : (s.updEng n g).flash = s.flash := (rfl)
@[simp] theorem State.updEng_journal (n : Nat) (g : Eng → Eng) : (s.updEng n g).journal = s.journal := (rfl)
@[simp] theorem State.updEng_replay (n : Nat) (g : Eng → Eng) : (s.updEng n g).replay = s.replay := (rfl)
@[simp] theorem State.updEng_sec (n : Nat) (g : Eng → Eng) : (s.updEng n g).sec = s.sec := (rfl)
@[simp] theorem State.updEng_odie (n : Nat) (g : Eng → Eng) : (s.updEng n g).odie = s.odie := (rfl)
@[simp] theorem State.updEng_raw_of (n : Nat) (g : Eng → Eng) (k : Nat) : (s.updEng n g).raw k = s.raw k := (rfl)
@[simp] theorem State.updEng_rd_of (n : Nat) (g : Eng → Eng) (q : Reg) (j : Nat) : (s.updEng n g).rd q j = s.rd q j := (rfl)
@[simp] theorem State.updEng_f_of (n : Nat) (g : Eng → Eng) (G : Field) (j : Nat) : (s.updEng n g).f G j = s.f G j := (rfl)
@[simp] theorem State.updEng_byte_of (n : Nat) (g : Eng → Eng) (k : Nat) : (s.updEng n g).byte k = s.byte k := (rfl)
@[simp] theorem State.updEng_syn_of (n : Nat) (g : Eng → Eng) (k : Nat) : (s.updEng n g).syn k = s.syn k := (rfl)
@[simp] theorem State.updEng_room_of (n : Nat) (g : Eng → Eng) (k : Nat) : (s.updEng n g).room k = s.room k := (rfl)
@[simp] theorem State.updEng_plane_of (n : Nat) (g : Eng → Eng) (k l : Nat) : (s.updEng n g).plane k l = s.plane k l := (rfl)
@[simp] theorem State.updEng_stair_of (n : Nat) (g : Eng → Eng) (k : Nat) : (s.updEng n g).stair k = s.stair k := (rfl)
@[simp] theorem State.updEng_bank_of (n : Nat) (g : Eng → Eng) (k : Nat) : (s.updEng n g).bank k = s.bank k := (rfl)
@[simp] theorem State.updEng_link_of (n : Nat) (g : Eng → Eng) (k : Nat) : (s.updEng n g).link k = s.link k := (rfl)
/-! ### updLink -/
@[simp] theorem State.updLink_pending (n : Nat) (g : Link → Link) : (s.updLink n g).pending = s.pending := (rfl)
@[simp] theorem State.updLink_regs (n : Nat) (g : Link → Link) : (s.updLink n g).regs = s.regs := (rfl)
@[simp] theorem State.updLink_staged (n : Nat) (g : Link → Link) : (s.updLink n g).staged = s.staged := (rfl)
@[simp] theorem State.updLink_snapshot (n : Nat) (g : Link → Link) : (s.updLink n g).snapshot = s.snapshot := (rfl)
@[simp] theorem State.updLink_commit (n : Nat) (g : Link → Link) : (s.updLink n g).commit = s.commit := (rfl)
@[simp] theorem State.updLink_epoch (n : Nat) (g : Link → Link) : (s.updLink n g).epoch = s.epoch := (rfl)
@[simp] theorem State.updLink_latch (n : Nat) (g : Link → Link) : (s.updLink n g).latch = s.latch := (rfl)
@[simp] theorem State.updLink_fresh (n : Nat) (g : Link → Link) : (s.updLink n g).fresh = s.fresh := (rfl)
@[simp] theorem State.updLink_mem (n : Nat) (g : Link → Link) : (s.updLink n g).mem = s.mem := (rfl)
@[simp] theorem State.updLink_synd (n : Nat) (g : Link → Link) : (s.updLink n g).synd = s.synd := (rfl)
@[simp] theorem State.updLink_rooms (n : Nat) (g : Link → Link) : (s.updLink n g).rooms = s.rooms := (rfl)
@[simp] theorem State.updLink_stairs (n : Nat) (g : Link → Link) : (s.updLink n g).stairs = s.stairs := (rfl)
@[simp] theorem State.updLink_banks (n : Nat) (g : Link → Link) : (s.updLink n g).banks = s.banks := (rfl)
@[simp] theorem State.updLink_svc (n : Nat) (g : Link → Link) : (s.updLink n g).svc = s.svc := (rfl)
@[simp] theorem State.updLink_svcNext (n : Nat) (g : Link → Link) : (s.updLink n g).svcNext = s.svcNext := (rfl)
@[simp] theorem State.updLink_ecLog (n : Nat) (g : Link → Link) : (s.updLink n g).ecLog = s.ecLog := (rfl)
@[simp] theorem State.updLink_mow (n : Nat) (g : Link → Link) : (s.updLink n g).mow = s.mow := (rfl)
@[simp] theorem State.updLink_net (n : Nat) (g : Link → Link) : (s.updLink n g).net = s.net := (rfl)
@[simp] theorem State.updLink_sched (n : Nat) (g : Link → Link) : (s.updLink n g).sched = s.sched := (rfl)
@[simp] theorem State.updLink_engs (n : Nat) (g : Link → Link) : (s.updLink n g).engs = s.engs := (rfl)
@[simp] theorem State.updLink_enumer (n : Nat) (g : Link → Link) : (s.updLink n g).enumer = s.enumer := (rfl)
@[simp] theorem State.updLink_crypto (n : Nat) (g : Link → Link) : (s.updLink n g).crypto = s.crypto := (rfl)
@[simp] theorem State.updLink_mail (n : Nat) (g : Link → Link) : (s.updLink n g).mail = s.mail := (rfl)
@[simp] theorem State.updLink_clk (n : Nat) (g : Link → Link) : (s.updLink n g).clk = s.clk := (rfl)
@[simp] theorem State.updLink_pow (n : Nat) (g : Link → Link) : (s.updLink n g).pow = s.pow := (rfl)
@[simp] theorem State.updLink_boot (n : Nat) (g : Link → Link) : (s.updLink n g).boot = s.boot := (rfl)
@[simp] theorem State.updLink_fuses (n : Nat) (g : Link → Link) : (s.updLink n g).fuses = s.fuses := (rfl)
@[simp] theorem State.updLink_flash (n : Nat) (g : Link → Link) : (s.updLink n g).flash = s.flash := (rfl)
@[simp] theorem State.updLink_journal (n : Nat) (g : Link → Link) : (s.updLink n g).journal = s.journal := (rfl)
@[simp] theorem State.updLink_replay (n : Nat) (g : Link → Link) : (s.updLink n g).replay = s.replay := (rfl)
@[simp] theorem State.updLink_sec (n : Nat) (g : Link → Link) : (s.updLink n g).sec = s.sec := (rfl)
@[simp] theorem State.updLink_odie (n : Nat) (g : Link → Link) : (s.updLink n g).odie = s.odie := (rfl)
@[simp] theorem State.updLink_raw_of (n : Nat) (g : Link → Link) (k : Nat) : (s.updLink n g).raw k = s.raw k := (rfl)
@[simp] theorem State.updLink_rd_of (n : Nat) (g : Link → Link) (q : Reg) (j : Nat) : (s.updLink n g).rd q j = s.rd q j := (rfl)
@[simp] theorem State.updLink_f_of (n : Nat) (g : Link → Link) (G : Field) (j : Nat) : (s.updLink n g).f G j = s.f G j := (rfl)
@[simp] theorem State.updLink_byte_of (n : Nat) (g : Link → Link) (k : Nat) : (s.updLink n g).byte k = s.byte k := (rfl)
@[simp] theorem State.updLink_syn_of (n : Nat) (g : Link → Link) (k : Nat) : (s.updLink n g).syn k = s.syn k := (rfl)
@[simp] theorem State.updLink_room_of (n : Nat) (g : Link → Link) (k : Nat) : (s.updLink n g).room k = s.room k := (rfl)
@[simp] theorem State.updLink_plane_of (n : Nat) (g : Link → Link) (k l : Nat) : (s.updLink n g).plane k l = s.plane k l := (rfl)
@[simp] theorem State.updLink_stair_of (n : Nat) (g : Link → Link) (k : Nat) : (s.updLink n g).stair k = s.stair k := (rfl)
@[simp] theorem State.updLink_bank_of (n : Nat) (g : Link → Link) (k : Nat) : (s.updLink n g).bank k = s.bank k := (rfl)
@[simp] theorem State.updLink_eng_of (n : Nat) (g : Link → Link) (k : Nat) : (s.updLink n g).eng k = s.eng k := (rfl)
/-! ### updSched -/
@[simp] theorem State.updSched_pending (g : Sched → Sched) : (s.updSched g).pending = s.pending := (rfl)
@[simp] theorem State.updSched_regs (g : Sched → Sched) : (s.updSched g).regs = s.regs := (rfl)
@[simp] theorem State.updSched_staged (g : Sched → Sched) : (s.updSched g).staged = s.staged := (rfl)
@[simp] theorem State.updSched_snapshot (g : Sched → Sched) : (s.updSched g).snapshot = s.snapshot := (rfl)
@[simp] theorem State.updSched_commit (g : Sched → Sched) : (s.updSched g).commit = s.commit := (rfl)
@[simp] theorem State.updSched_epoch (g : Sched → Sched) : (s.updSched g).epoch = s.epoch := (rfl)
@[simp] theorem State.updSched_latch (g : Sched → Sched) : (s.updSched g).latch = s.latch := (rfl)
@[simp] theorem State.updSched_fresh (g : Sched → Sched) : (s.updSched g).fresh = s.fresh := (rfl)
@[simp] theorem State.updSched_mem (g : Sched → Sched) : (s.updSched g).mem = s.mem := (rfl)
@[simp] theorem State.updSched_synd (g : Sched → Sched) : (s.updSched g).synd = s.synd := (rfl)
@[simp] theorem State.updSched_rooms (g : Sched → Sched) : (s.updSched g).rooms = s.rooms := (rfl)
@[simp] theorem State.updSched_stairs (g : Sched → Sched) : (s.updSched g).stairs = s.stairs := (rfl)
@[simp] theorem State.updSched_banks (g : Sched → Sched) : (s.updSched g).banks = s.banks := (rfl)
@[simp] theorem State.updSched_svc (g : Sched → Sched) : (s.updSched g).svc = s.svc := (rfl)
@[simp] theorem State.updSched_svcNext (g : Sched → Sched) : (s.updSched g).svcNext = s.svcNext := (rfl)
@[simp] theorem State.updSched_ecLog (g : Sched → Sched) : (s.updSched g).ecLog = s.ecLog := (rfl)
@[simp] theorem State.updSched_mow (g : Sched → Sched) : (s.updSched g).mow = s.mow := (rfl)
@[simp] theorem State.updSched_net (g : Sched → Sched) : (s.updSched g).net = s.net := (rfl)
@[simp] theorem State.updSched_engs (g : Sched → Sched) : (s.updSched g).engs = s.engs := (rfl)
@[simp] theorem State.updSched_links (g : Sched → Sched) : (s.updSched g).links = s.links := (rfl)
@[simp] theorem State.updSched_enumer (g : Sched → Sched) : (s.updSched g).enumer = s.enumer := (rfl)
@[simp] theorem State.updSched_crypto (g : Sched → Sched) : (s.updSched g).crypto = s.crypto := (rfl)
@[simp] theorem State.updSched_mail (g : Sched → Sched) : (s.updSched g).mail = s.mail := (rfl)
@[simp] theorem State.updSched_clk (g : Sched → Sched) : (s.updSched g).clk = s.clk := (rfl)
@[simp] theorem State.updSched_pow (g : Sched → Sched) : (s.updSched g).pow = s.pow := (rfl)
@[simp] theorem State.updSched_boot (g : Sched → Sched) : (s.updSched g).boot = s.boot := (rfl)
@[simp] theorem State.updSched_fuses (g : Sched → Sched) : (s.updSched g).fuses = s.fuses := (rfl)
@[simp] theorem State.updSched_flash (g : Sched → Sched) : (s.updSched g).flash = s.flash := (rfl)
@[simp] theorem State.updSched_journal (g : Sched → Sched) : (s.updSched g).journal = s.journal := (rfl)
@[simp] theorem State.updSched_replay (g : Sched → Sched) : (s.updSched g).replay = s.replay := (rfl)
@[simp] theorem State.updSched_sec (g : Sched → Sched) : (s.updSched g).sec = s.sec := (rfl)
@[simp] theorem State.updSched_odie (g : Sched → Sched) : (s.updSched g).odie = s.odie := (rfl)
@[simp] theorem State.updSched_sched (g : Sched → Sched) : (s.updSched g).sched = g s.sched := (rfl)
@[simp] theorem State.updSched_raw_of (g : Sched → Sched) (k : Nat) : (s.updSched g).raw k = s.raw k := (rfl)
@[simp] theorem State.updSched_rd_of (g : Sched → Sched) (q : Reg) (j : Nat) : (s.updSched g).rd q j = s.rd q j := (rfl)
@[simp] theorem State.updSched_f_of (g : Sched → Sched) (G : Field) (j : Nat) : (s.updSched g).f G j = s.f G j := (rfl)
@[simp] theorem State.updSched_byte_of (g : Sched → Sched) (k : Nat) : (s.updSched g).byte k = s.byte k := (rfl)
@[simp] theorem State.updSched_syn_of (g : Sched → Sched) (k : Nat) : (s.updSched g).syn k = s.syn k := (rfl)
@[simp] theorem State.updSched_room_of (g : Sched → Sched) (k : Nat) : (s.updSched g).room k = s.room k := (rfl)
@[simp] theorem State.updSched_plane_of (g : Sched → Sched) (k l : Nat) : (s.updSched g).plane k l = s.plane k l := (rfl)
@[simp] theorem State.updSched_stair_of (g : Sched → Sched) (k : Nat) : (s.updSched g).stair k = s.stair k := (rfl)
@[simp] theorem State.updSched_bank_of (g : Sched → Sched) (k : Nat) : (s.updSched g).bank k = s.bank k := (rfl)
@[simp] theorem State.updSched_eng_of (g : Sched → Sched) (k : Nat) : (s.updSched g).eng k = s.eng k := (rfl)
@[simp] theorem State.updSched_link_of (g : Sched → Sched) (k : Nat) : (s.updSched g).link k = s.link k := (rfl)
/-! ### updNet -/
@[simp] theorem State.updNet_pending (g : Net → Net) : (s.updNet g).pending = s.pending := (rfl)
@[simp] theorem State.updNet_regs (g : Net → Net) : (s.updNet g).regs = s.regs := (rfl)
@[simp] theorem State.updNet_staged (g : Net → Net) : (s.updNet g).staged = s.staged := (rfl)
@[simp] theorem State.updNet_snapshot (g : Net → Net) : (s.updNet g).snapshot = s.snapshot := (rfl)
@[simp] theorem State.updNet_commit (g : Net → Net) : (s.updNet g).commit = s.commit := (rfl)
@[simp] theorem State.updNet_epoch (g : Net → Net) : (s.updNet g).epoch = s.epoch := (rfl)
@[simp] theorem State.updNet_latch (g : Net → Net) : (s.updNet g).latch = s.latch := (rfl)
@[simp] theorem State.updNet_fresh (g : Net → Net) : (s.updNet g).fresh = s.fresh := (rfl)
@[simp] theorem State.updNet_mem (g : Net → Net) : (s.updNet g).mem = s.mem := (rfl)
@[simp] theorem State.updNet_synd (g : Net → Net) : (s.updNet g).synd = s.synd := (rfl)
@[simp] theorem State.updNet_rooms (g : Net → Net) : (s.updNet g).rooms = s.rooms := (rfl)
@[simp] theorem State.updNet_stairs (g : Net → Net) : (s.updNet g).stairs = s.stairs := (rfl)
@[simp] theorem State.updNet_banks (g : Net → Net) : (s.updNet g).banks = s.banks := (rfl)
@[simp] theorem State.updNet_svc (g : Net → Net) : (s.updNet g).svc = s.svc := (rfl)
@[simp] theorem State.updNet_svcNext (g : Net → Net) : (s.updNet g).svcNext = s.svcNext := (rfl)
@[simp] theorem State.updNet_ecLog (g : Net → Net) : (s.updNet g).ecLog = s.ecLog := (rfl)
@[simp] theorem State.updNet_mow (g : Net → Net) : (s.updNet g).mow = s.mow := (rfl)
@[simp] theorem State.updNet_sched (g : Net → Net) : (s.updNet g).sched = s.sched := (rfl)
@[simp] theorem State.updNet_engs (g : Net → Net) : (s.updNet g).engs = s.engs := (rfl)
@[simp] theorem State.updNet_links (g : Net → Net) : (s.updNet g).links = s.links := (rfl)
@[simp] theorem State.updNet_enumer (g : Net → Net) : (s.updNet g).enumer = s.enumer := (rfl)
@[simp] theorem State.updNet_crypto (g : Net → Net) : (s.updNet g).crypto = s.crypto := (rfl)
@[simp] theorem State.updNet_mail (g : Net → Net) : (s.updNet g).mail = s.mail := (rfl)
@[simp] theorem State.updNet_clk (g : Net → Net) : (s.updNet g).clk = s.clk := (rfl)
@[simp] theorem State.updNet_pow (g : Net → Net) : (s.updNet g).pow = s.pow := (rfl)
@[simp] theorem State.updNet_boot (g : Net → Net) : (s.updNet g).boot = s.boot := (rfl)
@[simp] theorem State.updNet_fuses (g : Net → Net) : (s.updNet g).fuses = s.fuses := (rfl)
@[simp] theorem State.updNet_flash (g : Net → Net) : (s.updNet g).flash = s.flash := (rfl)
@[simp] theorem State.updNet_journal (g : Net → Net) : (s.updNet g).journal = s.journal := (rfl)
@[simp] theorem State.updNet_replay (g : Net → Net) : (s.updNet g).replay = s.replay := (rfl)
@[simp] theorem State.updNet_sec (g : Net → Net) : (s.updNet g).sec = s.sec := (rfl)
@[simp] theorem State.updNet_odie (g : Net → Net) : (s.updNet g).odie = s.odie := (rfl)
@[simp] theorem State.updNet_net (g : Net → Net) : (s.updNet g).net = g s.net := (rfl)
@[simp] theorem State.updNet_raw_of (g : Net → Net) (k : Nat) : (s.updNet g).raw k = s.raw k := (rfl)
@[simp] theorem State.updNet_rd_of (g : Net → Net) (q : Reg) (j : Nat) : (s.updNet g).rd q j = s.rd q j := (rfl)
@[simp] theorem State.updNet_f_of (g : Net → Net) (G : Field) (j : Nat) : (s.updNet g).f G j = s.f G j := (rfl)
@[simp] theorem State.updNet_byte_of (g : Net → Net) (k : Nat) : (s.updNet g).byte k = s.byte k := (rfl)
@[simp] theorem State.updNet_syn_of (g : Net → Net) (k : Nat) : (s.updNet g).syn k = s.syn k := (rfl)
@[simp] theorem State.updNet_room_of (g : Net → Net) (k : Nat) : (s.updNet g).room k = s.room k := (rfl)
@[simp] theorem State.updNet_plane_of (g : Net → Net) (k l : Nat) : (s.updNet g).plane k l = s.plane k l := (rfl)
@[simp] theorem State.updNet_stair_of (g : Net → Net) (k : Nat) : (s.updNet g).stair k = s.stair k := (rfl)
@[simp] theorem State.updNet_bank_of (g : Net → Net) (k : Nat) : (s.updNet g).bank k = s.bank k := (rfl)
@[simp] theorem State.updNet_eng_of (g : Net → Net) (k : Nat) : (s.updNet g).eng k = s.eng k := (rfl)
@[simp] theorem State.updNet_link_of (g : Net → Net) (k : Nat) : (s.updNet g).link k = s.link k := (rfl)
/-! ### updMail -/
@[simp] theorem State.updMail_pending (g : Mail → Mail) : (s.updMail g).pending = s.pending := (rfl)
@[simp] theorem State.updMail_regs (g : Mail → Mail) : (s.updMail g).regs = s.regs := (rfl)
@[simp] theorem State.updMail_staged (g : Mail → Mail) : (s.updMail g).staged = s.staged := (rfl)
@[simp] theorem State.updMail_snapshot (g : Mail → Mail) : (s.updMail g).snapshot = s.snapshot := (rfl)
@[simp] theorem State.updMail_commit (g : Mail → Mail) : (s.updMail g).commit = s.commit := (rfl)
@[simp] theorem State.updMail_epoch (g : Mail → Mail) : (s.updMail g).epoch = s.epoch := (rfl)
@[simp] theorem State.updMail_latch (g : Mail → Mail) : (s.updMail g).latch = s.latch := (rfl)
@[simp] theorem State.updMail_fresh (g : Mail → Mail) : (s.updMail g).fresh = s.fresh := (rfl)
@[simp] theorem State.updMail_mem (g : Mail → Mail) : (s.updMail g).mem = s.mem := (rfl)
@[simp] theorem State.updMail_synd (g : Mail → Mail) : (s.updMail g).synd = s.synd := (rfl)
@[simp] theorem State.updMail_rooms (g : Mail → Mail) : (s.updMail g).rooms = s.rooms := (rfl)
@[simp] theorem State.updMail_stairs (g : Mail → Mail) : (s.updMail g).stairs = s.stairs := (rfl)
@[simp] theorem State.updMail_banks (g : Mail → Mail) : (s.updMail g).banks = s.banks := (rfl)
@[simp] theorem State.updMail_svc (g : Mail → Mail) : (s.updMail g).svc = s.svc := (rfl)
@[simp] theorem State.updMail_svcNext (g : Mail → Mail) : (s.updMail g).svcNext = s.svcNext := (rfl)
@[simp] theorem State.updMail_ecLog (g : Mail → Mail) : (s.updMail g).ecLog = s.ecLog := (rfl)
@[simp] theorem State.updMail_mow (g : Mail → Mail) : (s.updMail g).mow = s.mow := (rfl)
@[simp] theorem State.updMail_net (g : Mail → Mail) : (s.updMail g).net = s.net := (rfl)
@[simp] theorem State.updMail_sched (g : Mail → Mail) : (s.updMail g).sched = s.sched := (rfl)
@[simp] theorem State.updMail_engs (g : Mail → Mail) : (s.updMail g).engs = s.engs := (rfl)
@[simp] theorem State.updMail_links (g : Mail → Mail) : (s.updMail g).links = s.links := (rfl)
@[simp] theorem State.updMail_enumer (g : Mail → Mail) : (s.updMail g).enumer = s.enumer := (rfl)
@[simp] theorem State.updMail_crypto (g : Mail → Mail) : (s.updMail g).crypto = s.crypto := (rfl)
@[simp] theorem State.updMail_clk (g : Mail → Mail) : (s.updMail g).clk = s.clk := (rfl)
@[simp] theorem State.updMail_pow (g : Mail → Mail) : (s.updMail g).pow = s.pow := (rfl)
@[simp] theorem State.updMail_boot (g : Mail → Mail) : (s.updMail g).boot = s.boot := (rfl)
@[simp] theorem State.updMail_fuses (g : Mail → Mail) : (s.updMail g).fuses = s.fuses := (rfl)
@[simp] theorem State.updMail_flash (g : Mail → Mail) : (s.updMail g).flash = s.flash := (rfl)
@[simp] theorem State.updMail_journal (g : Mail → Mail) : (s.updMail g).journal = s.journal := (rfl)
@[simp] theorem State.updMail_replay (g : Mail → Mail) : (s.updMail g).replay = s.replay := (rfl)
@[simp] theorem State.updMail_sec (g : Mail → Mail) : (s.updMail g).sec = s.sec := (rfl)
@[simp] theorem State.updMail_odie (g : Mail → Mail) : (s.updMail g).odie = s.odie := (rfl)
@[simp] theorem State.updMail_mail (g : Mail → Mail) : (s.updMail g).mail = g s.mail := (rfl)
@[simp] theorem State.updMail_raw_of (g : Mail → Mail) (k : Nat) : (s.updMail g).raw k = s.raw k := (rfl)
@[simp] theorem State.updMail_rd_of (g : Mail → Mail) (q : Reg) (j : Nat) : (s.updMail g).rd q j = s.rd q j := (rfl)
@[simp] theorem State.updMail_f_of (g : Mail → Mail) (G : Field) (j : Nat) : (s.updMail g).f G j = s.f G j := (rfl)
@[simp] theorem State.updMail_byte_of (g : Mail → Mail) (k : Nat) : (s.updMail g).byte k = s.byte k := (rfl)
@[simp] theorem State.updMail_syn_of (g : Mail → Mail) (k : Nat) : (s.updMail g).syn k = s.syn k := (rfl)
@[simp] theorem State.updMail_room_of (g : Mail → Mail) (k : Nat) : (s.updMail g).room k = s.room k := (rfl)
@[simp] theorem State.updMail_plane_of (g : Mail → Mail) (k l : Nat) : (s.updMail g).plane k l = s.plane k l := (rfl)
@[simp] theorem State.updMail_stair_of (g : Mail → Mail) (k : Nat) : (s.updMail g).stair k = s.stair k := (rfl)
@[simp] theorem State.updMail_bank_of (g : Mail → Mail) (k : Nat) : (s.updMail g).bank k = s.bank k := (rfl)
@[simp] theorem State.updMail_eng_of (g : Mail → Mail) (k : Nat) : (s.updMail g).eng k = s.eng k := (rfl)
@[simp] theorem State.updMail_link_of (g : Mail → Mail) (k : Nat) : (s.updMail g).link k = s.link k := (rfl)
/-! ### updBoot -/
@[simp] theorem State.updBoot_pending (g : Boot → Boot) : (s.updBoot g).pending = s.pending := (rfl)
@[simp] theorem State.updBoot_regs (g : Boot → Boot) : (s.updBoot g).regs = s.regs := (rfl)
@[simp] theorem State.updBoot_staged (g : Boot → Boot) : (s.updBoot g).staged = s.staged := (rfl)
@[simp] theorem State.updBoot_snapshot (g : Boot → Boot) : (s.updBoot g).snapshot = s.snapshot := (rfl)
@[simp] theorem State.updBoot_commit (g : Boot → Boot) : (s.updBoot g).commit = s.commit := (rfl)
@[simp] theorem State.updBoot_epoch (g : Boot → Boot) : (s.updBoot g).epoch = s.epoch := (rfl)
@[simp] theorem State.updBoot_latch (g : Boot → Boot) : (s.updBoot g).latch = s.latch := (rfl)
@[simp] theorem State.updBoot_fresh (g : Boot → Boot) : (s.updBoot g).fresh = s.fresh := (rfl)
@[simp] theorem State.updBoot_mem (g : Boot → Boot) : (s.updBoot g).mem = s.mem := (rfl)
@[simp] theorem State.updBoot_synd (g : Boot → Boot) : (s.updBoot g).synd = s.synd := (rfl)
@[simp] theorem State.updBoot_rooms (g : Boot → Boot) : (s.updBoot g).rooms = s.rooms := (rfl)
@[simp] theorem State.updBoot_stairs (g : Boot → Boot) : (s.updBoot g).stairs = s.stairs := (rfl)
@[simp] theorem State.updBoot_banks (g : Boot → Boot) : (s.updBoot g).banks = s.banks := (rfl)
@[simp] theorem State.updBoot_svc (g : Boot → Boot) : (s.updBoot g).svc = s.svc := (rfl)
@[simp] theorem State.updBoot_svcNext (g : Boot → Boot) : (s.updBoot g).svcNext = s.svcNext := (rfl)
@[simp] theorem State.updBoot_ecLog (g : Boot → Boot) : (s.updBoot g).ecLog = s.ecLog := (rfl)
@[simp] theorem State.updBoot_mow (g : Boot → Boot) : (s.updBoot g).mow = s.mow := (rfl)
@[simp] theorem State.updBoot_net (g : Boot → Boot) : (s.updBoot g).net = s.net := (rfl)
@[simp] theorem State.updBoot_sched (g : Boot → Boot) : (s.updBoot g).sched = s.sched := (rfl)
@[simp] theorem State.updBoot_engs (g : Boot → Boot) : (s.updBoot g).engs = s.engs := (rfl)
@[simp] theorem State.updBoot_links (g : Boot → Boot) : (s.updBoot g).links = s.links := (rfl)
@[simp] theorem State.updBoot_enumer (g : Boot → Boot) : (s.updBoot g).enumer = s.enumer := (rfl)
@[simp] theorem State.updBoot_crypto (g : Boot → Boot) : (s.updBoot g).crypto = s.crypto := (rfl)
@[simp] theorem State.updBoot_mail (g : Boot → Boot) : (s.updBoot g).mail = s.mail := (rfl)
@[simp] theorem State.updBoot_clk (g : Boot → Boot) : (s.updBoot g).clk = s.clk := (rfl)
@[simp] theorem State.updBoot_pow (g : Boot → Boot) : (s.updBoot g).pow = s.pow := (rfl)
@[simp] theorem State.updBoot_fuses (g : Boot → Boot) : (s.updBoot g).fuses = s.fuses := (rfl)
@[simp] theorem State.updBoot_flash (g : Boot → Boot) : (s.updBoot g).flash = s.flash := (rfl)
@[simp] theorem State.updBoot_journal (g : Boot → Boot) : (s.updBoot g).journal = s.journal := (rfl)
@[simp] theorem State.updBoot_replay (g : Boot → Boot) : (s.updBoot g).replay = s.replay := (rfl)
@[simp] theorem State.updBoot_sec (g : Boot → Boot) : (s.updBoot g).sec = s.sec := (rfl)
@[simp] theorem State.updBoot_odie (g : Boot → Boot) : (s.updBoot g).odie = s.odie := (rfl)
@[simp] theorem State.updBoot_boot (g : Boot → Boot) : (s.updBoot g).boot = g s.boot := (rfl)
@[simp] theorem State.updBoot_raw_of (g : Boot → Boot) (k : Nat) : (s.updBoot g).raw k = s.raw k := (rfl)
@[simp] theorem State.updBoot_rd_of (g : Boot → Boot) (q : Reg) (j : Nat) : (s.updBoot g).rd q j = s.rd q j := (rfl)
@[simp] theorem State.updBoot_f_of (g : Boot → Boot) (G : Field) (j : Nat) : (s.updBoot g).f G j = s.f G j := (rfl)
@[simp] theorem State.updBoot_byte_of (g : Boot → Boot) (k : Nat) : (s.updBoot g).byte k = s.byte k := (rfl)
@[simp] theorem State.updBoot_syn_of (g : Boot → Boot) (k : Nat) : (s.updBoot g).syn k = s.syn k := (rfl)
@[simp] theorem State.updBoot_room_of (g : Boot → Boot) (k : Nat) : (s.updBoot g).room k = s.room k := (rfl)
@[simp] theorem State.updBoot_plane_of (g : Boot → Boot) (k l : Nat) : (s.updBoot g).plane k l = s.plane k l := (rfl)
@[simp] theorem State.updBoot_stair_of (g : Boot → Boot) (k : Nat) : (s.updBoot g).stair k = s.stair k := (rfl)
@[simp] theorem State.updBoot_bank_of (g : Boot → Boot) (k : Nat) : (s.updBoot g).bank k = s.bank k := (rfl)
@[simp] theorem State.updBoot_eng_of (g : Boot → Boot) (k : Nat) : (s.updBoot g).eng k = s.eng k := (rfl)
@[simp] theorem State.updBoot_link_of (g : Boot → Boot) (k : Nat) : (s.updBoot g).link k = s.link k := (rfl)
/-! ### updPow -/
@[simp] theorem State.updPow_pending (g : Pow → Pow) : (s.updPow g).pending = s.pending := (rfl)
@[simp] theorem State.updPow_regs (g : Pow → Pow) : (s.updPow g).regs = s.regs := (rfl)
@[simp] theorem State.updPow_staged (g : Pow → Pow) : (s.updPow g).staged = s.staged := (rfl)
@[simp] theorem State.updPow_snapshot (g : Pow → Pow) : (s.updPow g).snapshot = s.snapshot := (rfl)
@[simp] theorem State.updPow_commit (g : Pow → Pow) : (s.updPow g).commit = s.commit := (rfl)
@[simp] theorem State.updPow_epoch (g : Pow → Pow) : (s.updPow g).epoch = s.epoch := (rfl)
@[simp] theorem State.updPow_latch (g : Pow → Pow) : (s.updPow g).latch = s.latch := (rfl)
@[simp] theorem State.updPow_fresh (g : Pow → Pow) : (s.updPow g).fresh = s.fresh := (rfl)
@[simp] theorem State.updPow_mem (g : Pow → Pow) : (s.updPow g).mem = s.mem := (rfl)
@[simp] theorem State.updPow_synd (g : Pow → Pow) : (s.updPow g).synd = s.synd := (rfl)
@[simp] theorem State.updPow_rooms (g : Pow → Pow) : (s.updPow g).rooms = s.rooms := (rfl)
@[simp] theorem State.updPow_stairs (g : Pow → Pow) : (s.updPow g).stairs = s.stairs := (rfl)
@[simp] theorem State.updPow_banks (g : Pow → Pow) : (s.updPow g).banks = s.banks := (rfl)
@[simp] theorem State.updPow_svc (g : Pow → Pow) : (s.updPow g).svc = s.svc := (rfl)
@[simp] theorem State.updPow_svcNext (g : Pow → Pow) : (s.updPow g).svcNext = s.svcNext := (rfl)
@[simp] theorem State.updPow_ecLog (g : Pow → Pow) : (s.updPow g).ecLog = s.ecLog := (rfl)
@[simp] theorem State.updPow_mow (g : Pow → Pow) : (s.updPow g).mow = s.mow := (rfl)
@[simp] theorem State.updPow_net (g : Pow → Pow) : (s.updPow g).net = s.net := (rfl)
@[simp] theorem State.updPow_sched (g : Pow → Pow) : (s.updPow g).sched = s.sched := (rfl)
@[simp] theorem State.updPow_engs (g : Pow → Pow) : (s.updPow g).engs = s.engs := (rfl)
@[simp] theorem State.updPow_links (g : Pow → Pow) : (s.updPow g).links = s.links := (rfl)
@[simp] theorem State.updPow_enumer (g : Pow → Pow) : (s.updPow g).enumer = s.enumer := (rfl)
@[simp] theorem State.updPow_crypto (g : Pow → Pow) : (s.updPow g).crypto = s.crypto := (rfl)
@[simp] theorem State.updPow_mail (g : Pow → Pow) : (s.updPow g).mail = s.mail := (rfl)
@[simp] theorem State.updPow_clk (g : Pow → Pow) : (s.updPow g).clk = s.clk := (rfl)
@[simp] theorem State.updPow_boot (g : Pow → Pow) : (s.updPow g).boot = s.boot := (rfl)
@[simp] theorem State.updPow_fuses (g : Pow → Pow) : (s.updPow g).fuses = s.fuses := (rfl)
@[simp] theorem State.updPow_flash (g : Pow → Pow) : (s.updPow g).flash = s.flash := (rfl)
@[simp] theorem State.updPow_journal (g : Pow → Pow) : (s.updPow g).journal = s.journal := (rfl)
@[simp] theorem State.updPow_replay (g : Pow → Pow) : (s.updPow g).replay = s.replay := (rfl)
@[simp] theorem State.updPow_sec (g : Pow → Pow) : (s.updPow g).sec = s.sec := (rfl)
@[simp] theorem State.updPow_odie (g : Pow → Pow) : (s.updPow g).odie = s.odie := (rfl)
@[simp] theorem State.updPow_pow (g : Pow → Pow) : (s.updPow g).pow = g s.pow := (rfl)
@[simp] theorem State.updPow_raw_of (g : Pow → Pow) (k : Nat) : (s.updPow g).raw k = s.raw k := (rfl)
@[simp] theorem State.updPow_rd_of (g : Pow → Pow) (q : Reg) (j : Nat) : (s.updPow g).rd q j = s.rd q j := (rfl)
@[simp] theorem State.updPow_f_of (g : Pow → Pow) (G : Field) (j : Nat) : (s.updPow g).f G j = s.f G j := (rfl)
@[simp] theorem State.updPow_byte_of (g : Pow → Pow) (k : Nat) : (s.updPow g).byte k = s.byte k := (rfl)
@[simp] theorem State.updPow_syn_of (g : Pow → Pow) (k : Nat) : (s.updPow g).syn k = s.syn k := (rfl)
@[simp] theorem State.updPow_room_of (g : Pow → Pow) (k : Nat) : (s.updPow g).room k = s.room k := (rfl)
@[simp] theorem State.updPow_plane_of (g : Pow → Pow) (k l : Nat) : (s.updPow g).plane k l = s.plane k l := (rfl)
@[simp] theorem State.updPow_stair_of (g : Pow → Pow) (k : Nat) : (s.updPow g).stair k = s.stair k := (rfl)
@[simp] theorem State.updPow_bank_of (g : Pow → Pow) (k : Nat) : (s.updPow g).bank k = s.bank k := (rfl)
@[simp] theorem State.updPow_eng_of (g : Pow → Pow) (k : Nat) : (s.updPow g).eng k = s.eng k := (rfl)
@[simp] theorem State.updPow_link_of (g : Pow → Pow) (k : Nat) : (s.updPow g).link k = s.link k := (rfl)
/-! ### updClk -/
@[simp] theorem State.updClk_pending (g : Clk → Clk) : (s.updClk g).pending = s.pending := (rfl)
@[simp] theorem State.updClk_regs (g : Clk → Clk) : (s.updClk g).regs = s.regs := (rfl)
@[simp] theorem State.updClk_staged (g : Clk → Clk) : (s.updClk g).staged = s.staged := (rfl)
@[simp] theorem State.updClk_snapshot (g : Clk → Clk) : (s.updClk g).snapshot = s.snapshot := (rfl)
@[simp] theorem State.updClk_commit (g : Clk → Clk) : (s.updClk g).commit = s.commit := (rfl)
@[simp] theorem State.updClk_epoch (g : Clk → Clk) : (s.updClk g).epoch = s.epoch := (rfl)
@[simp] theorem State.updClk_latch (g : Clk → Clk) : (s.updClk g).latch = s.latch := (rfl)
@[simp] theorem State.updClk_fresh (g : Clk → Clk) : (s.updClk g).fresh = s.fresh := (rfl)
@[simp] theorem State.updClk_mem (g : Clk → Clk) : (s.updClk g).mem = s.mem := (rfl)
@[simp] theorem State.updClk_synd (g : Clk → Clk) : (s.updClk g).synd = s.synd := (rfl)
@[simp] theorem State.updClk_rooms (g : Clk → Clk) : (s.updClk g).rooms = s.rooms := (rfl)
@[simp] theorem State.updClk_stairs (g : Clk → Clk) : (s.updClk g).stairs = s.stairs := (rfl)
@[simp] theorem State.updClk_banks (g : Clk → Clk) : (s.updClk g).banks = s.banks := (rfl)
@[simp] theorem State.updClk_svc (g : Clk → Clk) : (s.updClk g).svc = s.svc := (rfl)
@[simp] theorem State.updClk_svcNext (g : Clk → Clk) : (s.updClk g).svcNext = s.svcNext := (rfl)
@[simp] theorem State.updClk_ecLog (g : Clk → Clk) : (s.updClk g).ecLog = s.ecLog := (rfl)
@[simp] theorem State.updClk_mow (g : Clk → Clk) : (s.updClk g).mow = s.mow := (rfl)
@[simp] theorem State.updClk_net (g : Clk → Clk) : (s.updClk g).net = s.net := (rfl)
@[simp] theorem State.updClk_sched (g : Clk → Clk) : (s.updClk g).sched = s.sched := (rfl)
@[simp] theorem State.updClk_engs (g : Clk → Clk) : (s.updClk g).engs = s.engs := (rfl)
@[simp] theorem State.updClk_links (g : Clk → Clk) : (s.updClk g).links = s.links := (rfl)
@[simp] theorem State.updClk_enumer (g : Clk → Clk) : (s.updClk g).enumer = s.enumer := (rfl)
@[simp] theorem State.updClk_crypto (g : Clk → Clk) : (s.updClk g).crypto = s.crypto := (rfl)
@[simp] theorem State.updClk_mail (g : Clk → Clk) : (s.updClk g).mail = s.mail := (rfl)
@[simp] theorem State.updClk_pow (g : Clk → Clk) : (s.updClk g).pow = s.pow := (rfl)
@[simp] theorem State.updClk_boot (g : Clk → Clk) : (s.updClk g).boot = s.boot := (rfl)
@[simp] theorem State.updClk_fuses (g : Clk → Clk) : (s.updClk g).fuses = s.fuses := (rfl)
@[simp] theorem State.updClk_flash (g : Clk → Clk) : (s.updClk g).flash = s.flash := (rfl)
@[simp] theorem State.updClk_journal (g : Clk → Clk) : (s.updClk g).journal = s.journal := (rfl)
@[simp] theorem State.updClk_replay (g : Clk → Clk) : (s.updClk g).replay = s.replay := (rfl)
@[simp] theorem State.updClk_sec (g : Clk → Clk) : (s.updClk g).sec = s.sec := (rfl)
@[simp] theorem State.updClk_odie (g : Clk → Clk) : (s.updClk g).odie = s.odie := (rfl)
@[simp] theorem State.updClk_clk (g : Clk → Clk) : (s.updClk g).clk = g s.clk := (rfl)
@[simp] theorem State.updClk_raw_of (g : Clk → Clk) (k : Nat) : (s.updClk g).raw k = s.raw k := (rfl)
@[simp] theorem State.updClk_rd_of (g : Clk → Clk) (q : Reg) (j : Nat) : (s.updClk g).rd q j = s.rd q j := (rfl)
@[simp] theorem State.updClk_f_of (g : Clk → Clk) (G : Field) (j : Nat) : (s.updClk g).f G j = s.f G j := (rfl)
@[simp] theorem State.updClk_byte_of (g : Clk → Clk) (k : Nat) : (s.updClk g).byte k = s.byte k := (rfl)
@[simp] theorem State.updClk_syn_of (g : Clk → Clk) (k : Nat) : (s.updClk g).syn k = s.syn k := (rfl)
@[simp] theorem State.updClk_room_of (g : Clk → Clk) (k : Nat) : (s.updClk g).room k = s.room k := (rfl)
@[simp] theorem State.updClk_plane_of (g : Clk → Clk) (k l : Nat) : (s.updClk g).plane k l = s.plane k l := (rfl)
@[simp] theorem State.updClk_stair_of (g : Clk → Clk) (k : Nat) : (s.updClk g).stair k = s.stair k := (rfl)
@[simp] theorem State.updClk_bank_of (g : Clk → Clk) (k : Nat) : (s.updClk g).bank k = s.bank k := (rfl)
@[simp] theorem State.updClk_eng_of (g : Clk → Clk) (k : Nat) : (s.updClk g).eng k = s.eng k := (rfl)
@[simp] theorem State.updClk_link_of (g : Clk → Clk) (k : Nat) : (s.updClk g).link k = s.link k := (rfl)
/-! ### updRp -/
@[simp] theorem State.updRp_pending (g : Replay → Replay) : (s.updRp g).pending = s.pending := (rfl)
@[simp] theorem State.updRp_regs (g : Replay → Replay) : (s.updRp g).regs = s.regs := (rfl)
@[simp] theorem State.updRp_staged (g : Replay → Replay) : (s.updRp g).staged = s.staged := (rfl)
@[simp] theorem State.updRp_snapshot (g : Replay → Replay) : (s.updRp g).snapshot = s.snapshot := (rfl)
@[simp] theorem State.updRp_commit (g : Replay → Replay) : (s.updRp g).commit = s.commit := (rfl)
@[simp] theorem State.updRp_epoch (g : Replay → Replay) : (s.updRp g).epoch = s.epoch := (rfl)
@[simp] theorem State.updRp_latch (g : Replay → Replay) : (s.updRp g).latch = s.latch := (rfl)
@[simp] theorem State.updRp_fresh (g : Replay → Replay) : (s.updRp g).fresh = s.fresh := (rfl)
@[simp] theorem State.updRp_mem (g : Replay → Replay) : (s.updRp g).mem = s.mem := (rfl)
@[simp] theorem State.updRp_synd (g : Replay → Replay) : (s.updRp g).synd = s.synd := (rfl)
@[simp] theorem State.updRp_rooms (g : Replay → Replay) : (s.updRp g).rooms = s.rooms := (rfl)
@[simp] theorem State.updRp_stairs (g : Replay → Replay) : (s.updRp g).stairs = s.stairs := (rfl)
@[simp] theorem State.updRp_banks (g : Replay → Replay) : (s.updRp g).banks = s.banks := (rfl)
@[simp] theorem State.updRp_svc (g : Replay → Replay) : (s.updRp g).svc = s.svc := (rfl)
@[simp] theorem State.updRp_svcNext (g : Replay → Replay) : (s.updRp g).svcNext = s.svcNext := (rfl)
@[simp] theorem State.updRp_ecLog (g : Replay → Replay) : (s.updRp g).ecLog = s.ecLog := (rfl)
@[simp] theorem State.updRp_mow (g : Replay → Replay) : (s.updRp g).mow = s.mow := (rfl)
@[simp] theorem State.updRp_net (g : Replay → Replay) : (s.updRp g).net = s.net := (rfl)
@[simp] theorem State.updRp_sched (g : Replay → Replay) : (s.updRp g).sched = s.sched := (rfl)
@[simp] theorem State.updRp_engs (g : Replay → Replay) : (s.updRp g).engs = s.engs := (rfl)
@[simp] theorem State.updRp_links (g : Replay → Replay) : (s.updRp g).links = s.links := (rfl)
@[simp] theorem State.updRp_enumer (g : Replay → Replay) : (s.updRp g).enumer = s.enumer := (rfl)
@[simp] theorem State.updRp_crypto (g : Replay → Replay) : (s.updRp g).crypto = s.crypto := (rfl)
@[simp] theorem State.updRp_mail (g : Replay → Replay) : (s.updRp g).mail = s.mail := (rfl)
@[simp] theorem State.updRp_clk (g : Replay → Replay) : (s.updRp g).clk = s.clk := (rfl)
@[simp] theorem State.updRp_pow (g : Replay → Replay) : (s.updRp g).pow = s.pow := (rfl)
@[simp] theorem State.updRp_boot (g : Replay → Replay) : (s.updRp g).boot = s.boot := (rfl)
@[simp] theorem State.updRp_fuses (g : Replay → Replay) : (s.updRp g).fuses = s.fuses := (rfl)
@[simp] theorem State.updRp_flash (g : Replay → Replay) : (s.updRp g).flash = s.flash := (rfl)
@[simp] theorem State.updRp_journal (g : Replay → Replay) : (s.updRp g).journal = s.journal := (rfl)
@[simp] theorem State.updRp_sec (g : Replay → Replay) : (s.updRp g).sec = s.sec := (rfl)
@[simp] theorem State.updRp_odie (g : Replay → Replay) : (s.updRp g).odie = s.odie := (rfl)
@[simp] theorem State.updRp_replay (g : Replay → Replay) : (s.updRp g).replay = g s.replay := (rfl)
@[simp] theorem State.updRp_raw_of (g : Replay → Replay) (k : Nat) : (s.updRp g).raw k = s.raw k := (rfl)
@[simp] theorem State.updRp_rd_of (g : Replay → Replay) (q : Reg) (j : Nat) : (s.updRp g).rd q j = s.rd q j := (rfl)
@[simp] theorem State.updRp_f_of (g : Replay → Replay) (G : Field) (j : Nat) : (s.updRp g).f G j = s.f G j := (rfl)
@[simp] theorem State.updRp_byte_of (g : Replay → Replay) (k : Nat) : (s.updRp g).byte k = s.byte k := (rfl)
@[simp] theorem State.updRp_syn_of (g : Replay → Replay) (k : Nat) : (s.updRp g).syn k = s.syn k := (rfl)
@[simp] theorem State.updRp_room_of (g : Replay → Replay) (k : Nat) : (s.updRp g).room k = s.room k := (rfl)
@[simp] theorem State.updRp_plane_of (g : Replay → Replay) (k l : Nat) : (s.updRp g).plane k l = s.plane k l := (rfl)
@[simp] theorem State.updRp_stair_of (g : Replay → Replay) (k : Nat) : (s.updRp g).stair k = s.stair k := (rfl)
@[simp] theorem State.updRp_bank_of (g : Replay → Replay) (k : Nat) : (s.updRp g).bank k = s.bank k := (rfl)
@[simp] theorem State.updRp_eng_of (g : Replay → Replay) (k : Nat) : (s.updRp g).eng k = s.eng k := (rfl)
@[simp] theorem State.updRp_link_of (g : Replay → Replay) (k : Nat) : (s.updRp g).link k = s.link k := (rfl)
/-! ### updJ -/
@[simp] theorem State.updJ_pending (g : Journal → Journal) : (s.updJ g).pending = s.pending := (rfl)
@[simp] theorem State.updJ_regs (g : Journal → Journal) : (s.updJ g).regs = s.regs := (rfl)
@[simp] theorem State.updJ_staged (g : Journal → Journal) : (s.updJ g).staged = s.staged := (rfl)
@[simp] theorem State.updJ_snapshot (g : Journal → Journal) : (s.updJ g).snapshot = s.snapshot := (rfl)
@[simp] theorem State.updJ_commit (g : Journal → Journal) : (s.updJ g).commit = s.commit := (rfl)
@[simp] theorem State.updJ_epoch (g : Journal → Journal) : (s.updJ g).epoch = s.epoch := (rfl)
@[simp] theorem State.updJ_latch (g : Journal → Journal) : (s.updJ g).latch = s.latch := (rfl)
@[simp] theorem State.updJ_fresh (g : Journal → Journal) : (s.updJ g).fresh = s.fresh := (rfl)
@[simp] theorem State.updJ_mem (g : Journal → Journal) : (s.updJ g).mem = s.mem := (rfl)
@[simp] theorem State.updJ_synd (g : Journal → Journal) : (s.updJ g).synd = s.synd := (rfl)
@[simp] theorem State.updJ_rooms (g : Journal → Journal) : (s.updJ g).rooms = s.rooms := (rfl)
@[simp] theorem State.updJ_stairs (g : Journal → Journal) : (s.updJ g).stairs = s.stairs := (rfl)
@[simp] theorem State.updJ_banks (g : Journal → Journal) : (s.updJ g).banks = s.banks := (rfl)
@[simp] theorem State.updJ_svc (g : Journal → Journal) : (s.updJ g).svc = s.svc := (rfl)
@[simp] theorem State.updJ_svcNext (g : Journal → Journal) : (s.updJ g).svcNext = s.svcNext := (rfl)
@[simp] theorem State.updJ_ecLog (g : Journal → Journal) : (s.updJ g).ecLog = s.ecLog := (rfl)
@[simp] theorem State.updJ_mow (g : Journal → Journal) : (s.updJ g).mow = s.mow := (rfl)
@[simp] theorem State.updJ_net (g : Journal → Journal) : (s.updJ g).net = s.net := (rfl)
@[simp] theorem State.updJ_sched (g : Journal → Journal) : (s.updJ g).sched = s.sched := (rfl)
@[simp] theorem State.updJ_engs (g : Journal → Journal) : (s.updJ g).engs = s.engs := (rfl)
@[simp] theorem State.updJ_links (g : Journal → Journal) : (s.updJ g).links = s.links := (rfl)
@[simp] theorem State.updJ_enumer (g : Journal → Journal) : (s.updJ g).enumer = s.enumer := (rfl)
@[simp] theorem State.updJ_crypto (g : Journal → Journal) : (s.updJ g).crypto = s.crypto := (rfl)
@[simp] theorem State.updJ_mail (g : Journal → Journal) : (s.updJ g).mail = s.mail := (rfl)
@[simp] theorem State.updJ_clk (g : Journal → Journal) : (s.updJ g).clk = s.clk := (rfl)
@[simp] theorem State.updJ_pow (g : Journal → Journal) : (s.updJ g).pow = s.pow := (rfl)
@[simp] theorem State.updJ_boot (g : Journal → Journal) : (s.updJ g).boot = s.boot := (rfl)
@[simp] theorem State.updJ_fuses (g : Journal → Journal) : (s.updJ g).fuses = s.fuses := (rfl)
@[simp] theorem State.updJ_flash (g : Journal → Journal) : (s.updJ g).flash = s.flash := (rfl)
@[simp] theorem State.updJ_replay (g : Journal → Journal) : (s.updJ g).replay = s.replay := (rfl)
@[simp] theorem State.updJ_sec (g : Journal → Journal) : (s.updJ g).sec = s.sec := (rfl)
@[simp] theorem State.updJ_odie (g : Journal → Journal) : (s.updJ g).odie = s.odie := (rfl)
@[simp] theorem State.updJ_journal (g : Journal → Journal) : (s.updJ g).journal = g s.journal := (rfl)
@[simp] theorem State.updJ_raw_of (g : Journal → Journal) (k : Nat) : (s.updJ g).raw k = s.raw k := (rfl)
@[simp] theorem State.updJ_rd_of (g : Journal → Journal) (q : Reg) (j : Nat) : (s.updJ g).rd q j = s.rd q j := (rfl)
@[simp] theorem State.updJ_f_of (g : Journal → Journal) (G : Field) (j : Nat) : (s.updJ g).f G j = s.f G j := (rfl)
@[simp] theorem State.updJ_byte_of (g : Journal → Journal) (k : Nat) : (s.updJ g).byte k = s.byte k := (rfl)
@[simp] theorem State.updJ_syn_of (g : Journal → Journal) (k : Nat) : (s.updJ g).syn k = s.syn k := (rfl)
@[simp] theorem State.updJ_room_of (g : Journal → Journal) (k : Nat) : (s.updJ g).room k = s.room k := (rfl)
@[simp] theorem State.updJ_plane_of (g : Journal → Journal) (k l : Nat) : (s.updJ g).plane k l = s.plane k l := (rfl)
@[simp] theorem State.updJ_stair_of (g : Journal → Journal) (k : Nat) : (s.updJ g).stair k = s.stair k := (rfl)
@[simp] theorem State.updJ_bank_of (g : Journal → Journal) (k : Nat) : (s.updJ g).bank k = s.bank k := (rfl)
@[simp] theorem State.updJ_eng_of (g : Journal → Journal) (k : Nat) : (s.updJ g).eng k = s.eng k := (rfl)
@[simp] theorem State.updJ_link_of (g : Journal → Journal) (k : Nat) : (s.updJ g).link k = s.link k := (rfl)
/-! ### updSec -/
@[simp] theorem State.updSec_pending (g : Sec → Sec) : (s.updSec g).pending = s.pending := (rfl)
@[simp] theorem State.updSec_regs (g : Sec → Sec) : (s.updSec g).regs = s.regs := (rfl)
@[simp] theorem State.updSec_staged (g : Sec → Sec) : (s.updSec g).staged = s.staged := (rfl)
@[simp] theorem State.updSec_snapshot (g : Sec → Sec) : (s.updSec g).snapshot = s.snapshot := (rfl)
@[simp] theorem State.updSec_commit (g : Sec → Sec) : (s.updSec g).commit = s.commit := (rfl)
@[simp] theorem State.updSec_epoch (g : Sec → Sec) : (s.updSec g).epoch = s.epoch := (rfl)
@[simp] theorem State.updSec_latch (g : Sec → Sec) : (s.updSec g).latch = s.latch := (rfl)
@[simp] theorem State.updSec_fresh (g : Sec → Sec) : (s.updSec g).fresh = s.fresh := (rfl)
@[simp] theorem State.updSec_mem (g : Sec → Sec) : (s.updSec g).mem = s.mem := (rfl)
@[simp] theorem State.updSec_synd (g : Sec → Sec) : (s.updSec g).synd = s.synd := (rfl)
@[simp] theorem State.updSec_rooms (g : Sec → Sec) : (s.updSec g).rooms = s.rooms := (rfl)
@[simp] theorem State.updSec_stairs (g : Sec → Sec) : (s.updSec g).stairs = s.stairs := (rfl)
@[simp] theorem State.updSec_banks (g : Sec → Sec) : (s.updSec g).banks = s.banks := (rfl)
@[simp] theorem State.updSec_svc (g : Sec → Sec) : (s.updSec g).svc = s.svc := (rfl)
@[simp] theorem State.updSec_svcNext (g : Sec → Sec) : (s.updSec g).svcNext = s.svcNext := (rfl)
@[simp] theorem State.updSec_ecLog (g : Sec → Sec) : (s.updSec g).ecLog = s.ecLog := (rfl)
@[simp] theorem State.updSec_mow (g : Sec → Sec) : (s.updSec g).mow = s.mow := (rfl)
@[simp] theorem State.updSec_net (g : Sec → Sec) : (s.updSec g).net = s.net := (rfl)
@[simp] theorem State.updSec_sched (g : Sec → Sec) : (s.updSec g).sched = s.sched := (rfl)
@[simp] theorem State.updSec_engs (g : Sec → Sec) : (s.updSec g).engs = s.engs := (rfl)
@[simp] theorem State.updSec_links (g : Sec → Sec) : (s.updSec g).links = s.links := (rfl)
@[simp] theorem State.updSec_enumer (g : Sec → Sec) : (s.updSec g).enumer = s.enumer := (rfl)
@[simp] theorem State.updSec_crypto (g : Sec → Sec) : (s.updSec g).crypto = s.crypto := (rfl)
@[simp] theorem State.updSec_mail (g : Sec → Sec) : (s.updSec g).mail = s.mail := (rfl)
@[simp] theorem State.updSec_clk (g : Sec → Sec) : (s.updSec g).clk = s.clk := (rfl)
@[simp] theorem State.updSec_pow (g : Sec → Sec) : (s.updSec g).pow = s.pow := (rfl)
@[simp] theorem State.updSec_boot (g : Sec → Sec) : (s.updSec g).boot = s.boot := (rfl)
@[simp] theorem State.updSec_fuses (g : Sec → Sec) : (s.updSec g).fuses = s.fuses := (rfl)
@[simp] theorem State.updSec_flash (g : Sec → Sec) : (s.updSec g).flash = s.flash := (rfl)
@[simp] theorem State.updSec_journal (g : Sec → Sec) : (s.updSec g).journal = s.journal := (rfl)
@[simp] theorem State.updSec_replay (g : Sec → Sec) : (s.updSec g).replay = s.replay := (rfl)
@[simp] theorem State.updSec_odie (g : Sec → Sec) : (s.updSec g).odie = s.odie := (rfl)
@[simp] theorem State.updSec_sec (g : Sec → Sec) : (s.updSec g).sec = g s.sec := (rfl)
@[simp] theorem State.updSec_raw_of (g : Sec → Sec) (k : Nat) : (s.updSec g).raw k = s.raw k := (rfl)
@[simp] theorem State.updSec_rd_of (g : Sec → Sec) (q : Reg) (j : Nat) : (s.updSec g).rd q j = s.rd q j := (rfl)
@[simp] theorem State.updSec_f_of (g : Sec → Sec) (G : Field) (j : Nat) : (s.updSec g).f G j = s.f G j := (rfl)
@[simp] theorem State.updSec_byte_of (g : Sec → Sec) (k : Nat) : (s.updSec g).byte k = s.byte k := (rfl)
@[simp] theorem State.updSec_syn_of (g : Sec → Sec) (k : Nat) : (s.updSec g).syn k = s.syn k := (rfl)
@[simp] theorem State.updSec_room_of (g : Sec → Sec) (k : Nat) : (s.updSec g).room k = s.room k := (rfl)
@[simp] theorem State.updSec_plane_of (g : Sec → Sec) (k l : Nat) : (s.updSec g).plane k l = s.plane k l := (rfl)
@[simp] theorem State.updSec_stair_of (g : Sec → Sec) (k : Nat) : (s.updSec g).stair k = s.stair k := (rfl)
@[simp] theorem State.updSec_bank_of (g : Sec → Sec) (k : Nat) : (s.updSec g).bank k = s.bank k := (rfl)
@[simp] theorem State.updSec_eng_of (g : Sec → Sec) (k : Nat) : (s.updSec g).eng k = s.eng k := (rfl)
@[simp] theorem State.updSec_link_of (g : Sec → Sec) (k : Nat) : (s.updSec g).link k = s.link k := (rfl)
/-! ### updCr -/
@[simp] theorem State.updCr_pending (g : Crypto → Crypto) : (s.updCr g).pending = s.pending := (rfl)
@[simp] theorem State.updCr_regs (g : Crypto → Crypto) : (s.updCr g).regs = s.regs := (rfl)
@[simp] theorem State.updCr_staged (g : Crypto → Crypto) : (s.updCr g).staged = s.staged := (rfl)
@[simp] theorem State.updCr_snapshot (g : Crypto → Crypto) : (s.updCr g).snapshot = s.snapshot := (rfl)
@[simp] theorem State.updCr_commit (g : Crypto → Crypto) : (s.updCr g).commit = s.commit := (rfl)
@[simp] theorem State.updCr_epoch (g : Crypto → Crypto) : (s.updCr g).epoch = s.epoch := (rfl)
@[simp] theorem State.updCr_latch (g : Crypto → Crypto) : (s.updCr g).latch = s.latch := (rfl)
@[simp] theorem State.updCr_fresh (g : Crypto → Crypto) : (s.updCr g).fresh = s.fresh := (rfl)
@[simp] theorem State.updCr_mem (g : Crypto → Crypto) : (s.updCr g).mem = s.mem := (rfl)
@[simp] theorem State.updCr_synd (g : Crypto → Crypto) : (s.updCr g).synd = s.synd := (rfl)
@[simp] theorem State.updCr_rooms (g : Crypto → Crypto) : (s.updCr g).rooms = s.rooms := (rfl)
@[simp] theorem State.updCr_stairs (g : Crypto → Crypto) : (s.updCr g).stairs = s.stairs := (rfl)
@[simp] theorem State.updCr_banks (g : Crypto → Crypto) : (s.updCr g).banks = s.banks := (rfl)
@[simp] theorem State.updCr_svc (g : Crypto → Crypto) : (s.updCr g).svc = s.svc := (rfl)
@[simp] theorem State.updCr_svcNext (g : Crypto → Crypto) : (s.updCr g).svcNext = s.svcNext := (rfl)
@[simp] theorem State.updCr_ecLog (g : Crypto → Crypto) : (s.updCr g).ecLog = s.ecLog := (rfl)
@[simp] theorem State.updCr_mow (g : Crypto → Crypto) : (s.updCr g).mow = s.mow := (rfl)
@[simp] theorem State.updCr_net (g : Crypto → Crypto) : (s.updCr g).net = s.net := (rfl)
@[simp] theorem State.updCr_sched (g : Crypto → Crypto) : (s.updCr g).sched = s.sched := (rfl)
@[simp] theorem State.updCr_engs (g : Crypto → Crypto) : (s.updCr g).engs = s.engs := (rfl)
@[simp] theorem State.updCr_links (g : Crypto → Crypto) : (s.updCr g).links = s.links := (rfl)
@[simp] theorem State.updCr_enumer (g : Crypto → Crypto) : (s.updCr g).enumer = s.enumer := (rfl)
@[simp] theorem State.updCr_mail (g : Crypto → Crypto) : (s.updCr g).mail = s.mail := (rfl)
@[simp] theorem State.updCr_clk (g : Crypto → Crypto) : (s.updCr g).clk = s.clk := (rfl)
@[simp] theorem State.updCr_pow (g : Crypto → Crypto) : (s.updCr g).pow = s.pow := (rfl)
@[simp] theorem State.updCr_boot (g : Crypto → Crypto) : (s.updCr g).boot = s.boot := (rfl)
@[simp] theorem State.updCr_fuses (g : Crypto → Crypto) : (s.updCr g).fuses = s.fuses := (rfl)
@[simp] theorem State.updCr_flash (g : Crypto → Crypto) : (s.updCr g).flash = s.flash := (rfl)
@[simp] theorem State.updCr_journal (g : Crypto → Crypto) : (s.updCr g).journal = s.journal := (rfl)
@[simp] theorem State.updCr_replay (g : Crypto → Crypto) : (s.updCr g).replay = s.replay := (rfl)
@[simp] theorem State.updCr_sec (g : Crypto → Crypto) : (s.updCr g).sec = s.sec := (rfl)
@[simp] theorem State.updCr_odie (g : Crypto → Crypto) : (s.updCr g).odie = s.odie := (rfl)
@[simp] theorem State.updCr_crypto (g : Crypto → Crypto) : (s.updCr g).crypto = g s.crypto := (rfl)
@[simp] theorem State.updCr_raw_of (g : Crypto → Crypto) (k : Nat) : (s.updCr g).raw k = s.raw k := (rfl)
@[simp] theorem State.updCr_rd_of (g : Crypto → Crypto) (q : Reg) (j : Nat) : (s.updCr g).rd q j = s.rd q j := (rfl)
@[simp] theorem State.updCr_f_of (g : Crypto → Crypto) (G : Field) (j : Nat) : (s.updCr g).f G j = s.f G j := (rfl)
@[simp] theorem State.updCr_byte_of (g : Crypto → Crypto) (k : Nat) : (s.updCr g).byte k = s.byte k := (rfl)
@[simp] theorem State.updCr_syn_of (g : Crypto → Crypto) (k : Nat) : (s.updCr g).syn k = s.syn k := (rfl)
@[simp] theorem State.updCr_room_of (g : Crypto → Crypto) (k : Nat) : (s.updCr g).room k = s.room k := (rfl)
@[simp] theorem State.updCr_plane_of (g : Crypto → Crypto) (k l : Nat) : (s.updCr g).plane k l = s.plane k l := (rfl)
@[simp] theorem State.updCr_stair_of (g : Crypto → Crypto) (k : Nat) : (s.updCr g).stair k = s.stair k := (rfl)
@[simp] theorem State.updCr_bank_of (g : Crypto → Crypto) (k : Nat) : (s.updCr g).bank k = s.bank k := (rfl)
@[simp] theorem State.updCr_eng_of (g : Crypto → Crypto) (k : Nat) : (s.updCr g).eng k = s.eng k := (rfl)
@[simp] theorem State.updCr_link_of (g : Crypto → Crypto) (k : Nat) : (s.updCr g).link k = s.link k := (rfl)
/-! ### updMow -/
@[simp] theorem State.updMow_pending (g : Mowing → Mowing) : (s.updMow g).pending = s.pending := (rfl)
@[simp] theorem State.updMow_regs (g : Mowing → Mowing) : (s.updMow g).regs = s.regs := (rfl)
@[simp] theorem State.updMow_staged (g : Mowing → Mowing) : (s.updMow g).staged = s.staged := (rfl)
@[simp] theorem State.updMow_snapshot (g : Mowing → Mowing) : (s.updMow g).snapshot = s.snapshot := (rfl)
@[simp] theorem State.updMow_commit (g : Mowing → Mowing) : (s.updMow g).commit = s.commit := (rfl)
@[simp] theorem State.updMow_epoch (g : Mowing → Mowing) : (s.updMow g).epoch = s.epoch := (rfl)
@[simp] theorem State.updMow_latch (g : Mowing → Mowing) : (s.updMow g).latch = s.latch := (rfl)
@[simp] theorem State.updMow_fresh (g : Mowing → Mowing) : (s.updMow g).fresh = s.fresh := (rfl)
@[simp] theorem State.updMow_mem (g : Mowing → Mowing) : (s.updMow g).mem = s.mem := (rfl)
@[simp] theorem State.updMow_synd (g : Mowing → Mowing) : (s.updMow g).synd = s.synd := (rfl)
@[simp] theorem State.updMow_rooms (g : Mowing → Mowing) : (s.updMow g).rooms = s.rooms := (rfl)
@[simp] theorem State.updMow_stairs (g : Mowing → Mowing) : (s.updMow g).stairs = s.stairs := (rfl)
@[simp] theorem State.updMow_banks (g : Mowing → Mowing) : (s.updMow g).banks = s.banks := (rfl)
@[simp] theorem State.updMow_svc (g : Mowing → Mowing) : (s.updMow g).svc = s.svc := (rfl)
@[simp] theorem State.updMow_svcNext (g : Mowing → Mowing) : (s.updMow g).svcNext = s.svcNext := (rfl)
@[simp] theorem State.updMow_ecLog (g : Mowing → Mowing) : (s.updMow g).ecLog = s.ecLog := (rfl)
@[simp] theorem State.updMow_net (g : Mowing → Mowing) : (s.updMow g).net = s.net := (rfl)
@[simp] theorem State.updMow_sched (g : Mowing → Mowing) : (s.updMow g).sched = s.sched := (rfl)
@[simp] theorem State.updMow_engs (g : Mowing → Mowing) : (s.updMow g).engs = s.engs := (rfl)
@[simp] theorem State.updMow_links (g : Mowing → Mowing) : (s.updMow g).links = s.links := (rfl)
@[simp] theorem State.updMow_enumer (g : Mowing → Mowing) : (s.updMow g).enumer = s.enumer := (rfl)
@[simp] theorem State.updMow_crypto (g : Mowing → Mowing) : (s.updMow g).crypto = s.crypto := (rfl)
@[simp] theorem State.updMow_mail (g : Mowing → Mowing) : (s.updMow g).mail = s.mail := (rfl)
@[simp] theorem State.updMow_clk (g : Mowing → Mowing) : (s.updMow g).clk = s.clk := (rfl)
@[simp] theorem State.updMow_pow (g : Mowing → Mowing) : (s.updMow g).pow = s.pow := (rfl)
@[simp] theorem State.updMow_boot (g : Mowing → Mowing) : (s.updMow g).boot = s.boot := (rfl)
@[simp] theorem State.updMow_fuses (g : Mowing → Mowing) : (s.updMow g).fuses = s.fuses := (rfl)
@[simp] theorem State.updMow_flash (g : Mowing → Mowing) : (s.updMow g).flash = s.flash := (rfl)
@[simp] theorem State.updMow_journal (g : Mowing → Mowing) : (s.updMow g).journal = s.journal := (rfl)
@[simp] theorem State.updMow_replay (g : Mowing → Mowing) : (s.updMow g).replay = s.replay := (rfl)
@[simp] theorem State.updMow_sec (g : Mowing → Mowing) : (s.updMow g).sec = s.sec := (rfl)
@[simp] theorem State.updMow_odie (g : Mowing → Mowing) : (s.updMow g).odie = s.odie := (rfl)
@[simp] theorem State.updMow_mow (g : Mowing → Mowing) : (s.updMow g).mow = g s.mow := (rfl)
@[simp] theorem State.updMow_raw_of (g : Mowing → Mowing) (k : Nat) : (s.updMow g).raw k = s.raw k := (rfl)
@[simp] theorem State.updMow_rd_of (g : Mowing → Mowing) (q : Reg) (j : Nat) : (s.updMow g).rd q j = s.rd q j := (rfl)
@[simp] theorem State.updMow_f_of (g : Mowing → Mowing) (G : Field) (j : Nat) : (s.updMow g).f G j = s.f G j := (rfl)
@[simp] theorem State.updMow_byte_of (g : Mowing → Mowing) (k : Nat) : (s.updMow g).byte k = s.byte k := (rfl)
@[simp] theorem State.updMow_syn_of (g : Mowing → Mowing) (k : Nat) : (s.updMow g).syn k = s.syn k := (rfl)
@[simp] theorem State.updMow_room_of (g : Mowing → Mowing) (k : Nat) : (s.updMow g).room k = s.room k := (rfl)
@[simp] theorem State.updMow_plane_of (g : Mowing → Mowing) (k l : Nat) : (s.updMow g).plane k l = s.plane k l := (rfl)
@[simp] theorem State.updMow_stair_of (g : Mowing → Mowing) (k : Nat) : (s.updMow g).stair k = s.stair k := (rfl)
@[simp] theorem State.updMow_bank_of (g : Mowing → Mowing) (k : Nat) : (s.updMow g).bank k = s.bank k := (rfl)
@[simp] theorem State.updMow_eng_of (g : Mowing → Mowing) (k : Nat) : (s.updMow g).eng k = s.eng k := (rfl)
@[simp] theorem State.updMow_link_of (g : Mowing → Mowing) (k : Nat) : (s.updMow g).link k = s.link k := (rfl)
/-! ### setByte -/
@[simp] theorem State.setByte_pending (a : Nat) (b : Byte) : (s.setByte a b).pending = s.pending := (rfl)
@[simp] theorem State.setByte_regs (a : Nat) (b : Byte) : (s.setByte a b).regs = s.regs := (rfl)
@[simp] theorem State.setByte_staged (a : Nat) (b : Byte) : (s.setByte a b).staged = s.staged := (rfl)
@[simp] theorem State.setByte_snapshot (a : Nat) (b : Byte) : (s.setByte a b).snapshot = s.snapshot := (rfl)
@[simp] theorem State.setByte_commit (a : Nat) (b : Byte) : (s.setByte a b).commit = s.commit := (rfl)
@[simp] theorem State.setByte_epoch (a : Nat) (b : Byte) : (s.setByte a b).epoch = s.epoch := (rfl)
@[simp] theorem State.setByte_latch (a : Nat) (b : Byte) : (s.setByte a b).latch = s.latch := (rfl)
@[simp] theorem State.setByte_fresh (a : Nat) (b : Byte) : (s.setByte a b).fresh = s.fresh := (rfl)
@[simp] theorem State.setByte_synd (a : Nat) (b : Byte) : (s.setByte a b).synd = s.synd := (rfl)
@[simp] theorem State.setByte_rooms (a : Nat) (b : Byte) : (s.setByte a b).rooms = s.rooms := (rfl)
@[simp] theorem State.setByte_stairs (a : Nat) (b : Byte) : (s.setByte a b).stairs = s.stairs := (rfl)
@[simp] theorem State.setByte_banks (a : Nat) (b : Byte) : (s.setByte a b).banks = s.banks := (rfl)
@[simp] theorem State.setByte_svc (a : Nat) (b : Byte) : (s.setByte a b).svc = s.svc := (rfl)
@[simp] theorem State.setByte_svcNext (a : Nat) (b : Byte) : (s.setByte a b).svcNext = s.svcNext := (rfl)
@[simp] theorem State.setByte_ecLog (a : Nat) (b : Byte) : (s.setByte a b).ecLog = s.ecLog := (rfl)
@[simp] theorem State.setByte_mow (a : Nat) (b : Byte) : (s.setByte a b).mow = s.mow := (rfl)
@[simp] theorem State.setByte_net (a : Nat) (b : Byte) : (s.setByte a b).net = s.net := (rfl)
@[simp] theorem State.setByte_sched (a : Nat) (b : Byte) : (s.setByte a b).sched = s.sched := (rfl)
@[simp] theorem State.setByte_engs (a : Nat) (b : Byte) : (s.setByte a b).engs = s.engs := (rfl)
@[simp] theorem State.setByte_links (a : Nat) (b : Byte) : (s.setByte a b).links = s.links := (rfl)
@[simp] theorem State.setByte_enumer (a : Nat) (b : Byte) : (s.setByte a b).enumer = s.enumer := (rfl)
@[simp] theorem State.setByte_crypto (a : Nat) (b : Byte) : (s.setByte a b).crypto = s.crypto := (rfl)
@[simp] theorem State.setByte_mail (a : Nat) (b : Byte) : (s.setByte a b).mail = s.mail := (rfl)
@[simp] theorem State.setByte_clk (a : Nat) (b : Byte) : (s.setByte a b).clk = s.clk := (rfl)
@[simp] theorem State.setByte_pow (a : Nat) (b : Byte) : (s.setByte a b).pow = s.pow := (rfl)
@[simp] theorem State.setByte_boot (a : Nat) (b : Byte) : (s.setByte a b).boot = s.boot := (rfl)
@[simp] theorem State.setByte_fuses (a : Nat) (b : Byte) : (s.setByte a b).fuses = s.fuses := (rfl)
@[simp] theorem State.setByte_flash (a : Nat) (b : Byte) : (s.setByte a b).flash = s.flash := (rfl)
@[simp] theorem State.setByte_journal (a : Nat) (b : Byte) : (s.setByte a b).journal = s.journal := (rfl)
@[simp] theorem State.setByte_replay (a : Nat) (b : Byte) : (s.setByte a b).replay = s.replay := (rfl)
@[simp] theorem State.setByte_sec (a : Nat) (b : Byte) : (s.setByte a b).sec = s.sec := (rfl)
@[simp] theorem State.setByte_odie (a : Nat) (b : Byte) : (s.setByte a b).odie = s.odie := (rfl)
@[simp] theorem State.setByte_raw_of (a : Nat) (b : Byte) (k : Nat) : (s.setByte a b).raw k = s.raw k := (rfl)
@[simp] theorem State.setByte_rd_of (a : Nat) (b : Byte) (q : Reg) (j : Nat) : (s.setByte a b).rd q j = s.rd q j := (rfl)
@[simp] theorem State.setByte_f_of (a : Nat) (b : Byte) (G : Field) (j : Nat) : (s.setByte a b).f G j = s.f G j := (rfl)
@[simp] theorem State.setByte_syn_of (a : Nat) (b : Byte) (k : Nat) : (s.setByte a b).syn k = s.syn k := (rfl)
@[simp] theorem State.setByte_room_of (a : Nat) (b : Byte) (k : Nat) : (s.setByte a b).room k = s.room k := (rfl)
@[simp] theorem State.setByte_plane_of (a : Nat) (b : Byte) (k l : Nat) : (s.setByte a b).plane k l = s.plane k l := (rfl)
@[simp] theorem State.setByte_stair_of (a : Nat) (b : Byte) (k : Nat) : (s.setByte a b).stair k = s.stair k := (rfl)
@[simp] theorem State.setByte_bank_of (a : Nat) (b : Byte) (k : Nat) : (s.setByte a b).bank k = s.bank k := (rfl)
@[simp] theorem State.setByte_eng_of (a : Nat) (b : Byte) (k : Nat) : (s.setByte a b).eng k = s.eng k := (rfl)
@[simp] theorem State.setByte_link_of (a : Nat) (b : Byte) (k : Nat) : (s.setByte a b).link k = s.link k := (rfl)
/-! ### setSyn -/
@[simp] theorem State.setSyn_pending (a : Nat) (w : Word) : (s.setSyn a w).pending = s.pending := (rfl)
@[simp] theorem State.setSyn_regs (a : Nat) (w : Word) : (s.setSyn a w).regs = s.regs := (rfl)
@[simp] theorem State.setSyn_staged (a : Nat) (w : Word) : (s.setSyn a w).staged = s.staged := (rfl)
@[simp] theorem State.setSyn_snapshot (a : Nat) (w : Word) : (s.setSyn a w).snapshot = s.snapshot := (rfl)
@[simp] theorem State.setSyn_commit (a : Nat) (w : Word) : (s.setSyn a w).commit = s.commit := (rfl)
@[simp] theorem State.setSyn_epoch (a : Nat) (w : Word) : (s.setSyn a w).epoch = s.epoch := (rfl)
@[simp] theorem State.setSyn_latch (a : Nat) (w : Word) : (s.setSyn a w).latch = s.latch := (rfl)
@[simp] theorem State.setSyn_fresh (a : Nat) (w : Word) : (s.setSyn a w).fresh = s.fresh := (rfl)
@[simp] theorem State.setSyn_mem (a : Nat) (w : Word) : (s.setSyn a w).mem = s.mem := (rfl)
@[simp] theorem State.setSyn_rooms (a : Nat) (w : Word) : (s.setSyn a w).rooms = s.rooms := (rfl)
@[simp] theorem State.setSyn_stairs (a : Nat) (w : Word) : (s.setSyn a w).stairs = s.stairs := (rfl)
@[simp] theorem State.setSyn_banks (a : Nat) (w : Word) : (s.setSyn a w).banks = s.banks := (rfl)
@[simp] theorem State.setSyn_svc (a : Nat) (w : Word) : (s.setSyn a w).svc = s.svc := (rfl)
@[simp] theorem State.setSyn_svcNext (a : Nat) (w : Word) : (s.setSyn a w).svcNext = s.svcNext := (rfl)
@[simp] theorem State.setSyn_ecLog (a : Nat) (w : Word) : (s.setSyn a w).ecLog = s.ecLog := (rfl)
@[simp] theorem State.setSyn_mow (a : Nat) (w : Word) : (s.setSyn a w).mow = s.mow := (rfl)
@[simp] theorem State.setSyn_net (a : Nat) (w : Word) : (s.setSyn a w).net = s.net := (rfl)
@[simp] theorem State.setSyn_sched (a : Nat) (w : Word) : (s.setSyn a w).sched = s.sched := (rfl)
@[simp] theorem State.setSyn_engs (a : Nat) (w : Word) : (s.setSyn a w).engs = s.engs := (rfl)
@[simp] theorem State.setSyn_links (a : Nat) (w : Word) : (s.setSyn a w).links = s.links := (rfl)
@[simp] theorem State.setSyn_enumer (a : Nat) (w : Word) : (s.setSyn a w).enumer = s.enumer := (rfl)
@[simp] theorem State.setSyn_crypto (a : Nat) (w : Word) : (s.setSyn a w).crypto = s.crypto := (rfl)
@[simp] theorem State.setSyn_mail (a : Nat) (w : Word) : (s.setSyn a w).mail = s.mail := (rfl)
@[simp] theorem State.setSyn_clk (a : Nat) (w : Word) : (s.setSyn a w).clk = s.clk := (rfl)
@[simp] theorem State.setSyn_pow (a : Nat) (w : Word) : (s.setSyn a w).pow = s.pow := (rfl)
@[simp] theorem State.setSyn_boot (a : Nat) (w : Word) : (s.setSyn a w).boot = s.boot := (rfl)
@[simp] theorem State.setSyn_fuses (a : Nat) (w : Word) : (s.setSyn a w).fuses = s.fuses := (rfl)
@[simp] theorem State.setSyn_flash (a : Nat) (w : Word) : (s.setSyn a w).flash = s.flash := (rfl)
@[simp] theorem State.setSyn_journal (a : Nat) (w : Word) : (s.setSyn a w).journal = s.journal := (rfl)
@[simp] theorem State.setSyn_replay (a : Nat) (w : Word) : (s.setSyn a w).replay = s.replay := (rfl)
@[simp] theorem State.setSyn_sec (a : Nat) (w : Word) : (s.setSyn a w).sec = s.sec := (rfl)
@[simp] theorem State.setSyn_odie (a : Nat) (w : Word) : (s.setSyn a w).odie = s.odie := (rfl)
@[simp] theorem State.setSyn_raw_of (a : Nat) (w : Word) (k : Nat) : (s.setSyn a w).raw k = s.raw k := (rfl)
@[simp] theorem State.setSyn_rd_of (a : Nat) (w : Word) (q : Reg) (j : Nat) : (s.setSyn a w).rd q j = s.rd q j := (rfl)
@[simp] theorem State.setSyn_f_of (a : Nat) (w : Word) (G : Field) (j : Nat) : (s.setSyn a w).f G j = s.f G j := (rfl)
@[simp] theorem State.setSyn_byte_of (a : Nat) (w : Word) (k : Nat) : (s.setSyn a w).byte k = s.byte k := (rfl)
@[simp] theorem State.setSyn_room_of (a : Nat) (w : Word) (k : Nat) : (s.setSyn a w).room k = s.room k := (rfl)
@[simp] theorem State.setSyn_plane_of (a : Nat) (w : Word) (k l : Nat) : (s.setSyn a w).plane k l = s.plane k l := (rfl)
@[simp] theorem State.setSyn_stair_of (a : Nat) (w : Word) (k : Nat) : (s.setSyn a w).stair k = s.stair k := (rfl)
@[simp] theorem State.setSyn_bank_of (a : Nat) (w : Word) (k : Nat) : (s.setSyn a w).bank k = s.bank k := (rfl)
@[simp] theorem State.setSyn_eng_of (a : Nat) (w : Word) (k : Nat) : (s.setSyn a w).eng k = s.eng k := (rfl)
@[simp] theorem State.setSyn_link_of (a : Nat) (w : Word) (k : Nat) : (s.setSyn a w).link k = s.link k := (rfl)
/-! ### wipe -/
@[simp] theorem State.wipe_pending (lo hi : Nat) : (s.wipe lo hi).pending = s.pending := (rfl)
@[simp] theorem State.wipe_regs (lo hi : Nat) : (s.wipe lo hi).regs = s.regs := (rfl)
@[simp] theorem State.wipe_staged (lo hi : Nat) : (s.wipe lo hi).staged = s.staged := (rfl)
@[simp] theorem State.wipe_snapshot (lo hi : Nat) : (s.wipe lo hi).snapshot = s.snapshot := (rfl)
@[simp] theorem State.wipe_commit (lo hi : Nat) : (s.wipe lo hi).commit = s.commit := (rfl)
@[simp] theorem State.wipe_epoch (lo hi : Nat) : (s.wipe lo hi).epoch = s.epoch := (rfl)
@[simp] theorem State.wipe_latch (lo hi : Nat) : (s.wipe lo hi).latch = s.latch := (rfl)
@[simp] theorem State.wipe_fresh (lo hi : Nat) : (s.wipe lo hi).fresh = s.fresh := (rfl)
@[simp] theorem State.wipe_rooms (lo hi : Nat) : (s.wipe lo hi).rooms = s.rooms := (rfl)
@[simp] theorem State.wipe_stairs (lo hi : Nat) : (s.wipe lo hi).stairs = s.stairs := (rfl)
@[simp] theorem State.wipe_banks (lo hi : Nat) : (s.wipe lo hi).banks = s.banks := (rfl)
@[simp] theorem State.wipe_svc (lo hi : Nat) : (s.wipe lo hi).svc = s.svc := (rfl)
@[simp] theorem State.wipe_svcNext (lo hi : Nat) : (s.wipe lo hi).svcNext = s.svcNext := (rfl)
@[simp] theorem State.wipe_ecLog (lo hi : Nat) : (s.wipe lo hi).ecLog = s.ecLog := (rfl)
@[simp] theorem State.wipe_mow (lo hi : Nat) : (s.wipe lo hi).mow = s.mow := (rfl)
@[simp] theorem State.wipe_net (lo hi : Nat) : (s.wipe lo hi).net = s.net := (rfl)
@[simp] theorem State.wipe_sched (lo hi : Nat) : (s.wipe lo hi).sched = s.sched := (rfl)
@[simp] theorem State.wipe_engs (lo hi : Nat) : (s.wipe lo hi).engs = s.engs := (rfl)
@[simp] theorem State.wipe_links (lo hi : Nat) : (s.wipe lo hi).links = s.links := (rfl)
@[simp] theorem State.wipe_enumer (lo hi : Nat) : (s.wipe lo hi).enumer = s.enumer := (rfl)
@[simp] theorem State.wipe_crypto (lo hi : Nat) : (s.wipe lo hi).crypto = s.crypto := (rfl)
@[simp] theorem State.wipe_mail (lo hi : Nat) : (s.wipe lo hi).mail = s.mail := (rfl)
@[simp] theorem State.wipe_clk (lo hi : Nat) : (s.wipe lo hi).clk = s.clk := (rfl)
@[simp] theorem State.wipe_pow (lo hi : Nat) : (s.wipe lo hi).pow = s.pow := (rfl)
@[simp] theorem State.wipe_boot (lo hi : Nat) : (s.wipe lo hi).boot = s.boot := (rfl)
@[simp] theorem State.wipe_fuses (lo hi : Nat) : (s.wipe lo hi).fuses = s.fuses := (rfl)
@[simp] theorem State.wipe_flash (lo hi : Nat) : (s.wipe lo hi).flash = s.flash := (rfl)
@[simp] theorem State.wipe_journal (lo hi : Nat) : (s.wipe lo hi).journal = s.journal := (rfl)
@[simp] theorem State.wipe_replay (lo hi : Nat) : (s.wipe lo hi).replay = s.replay := (rfl)
@[simp] theorem State.wipe_sec (lo hi : Nat) : (s.wipe lo hi).sec = s.sec := (rfl)
@[simp] theorem State.wipe_odie (lo hi : Nat) : (s.wipe lo hi).odie = s.odie := (rfl)
@[simp] theorem State.wipe_raw_of (lo hi : Nat) (k : Nat) : (s.wipe lo hi).raw k = s.raw k := (rfl)
@[simp] theorem State.wipe_rd_of (lo hi : Nat) (q : Reg) (j : Nat) : (s.wipe lo hi).rd q j = s.rd q j := (rfl)
@[simp] theorem State.wipe_f_of (lo hi : Nat) (G : Field) (j : Nat) : (s.wipe lo hi).f G j = s.f G j := (rfl)
@[simp] theorem State.wipe_room_of (lo hi : Nat) (k : Nat) : (s.wipe lo hi).room k = s.room k := (rfl)
@[simp] theorem State.wipe_plane_of (lo hi : Nat) (k l : Nat) : (s.wipe lo hi).plane k l = s.plane k l := (rfl)
@[simp] theorem State.wipe_stair_of (lo hi : Nat) (k : Nat) : (s.wipe lo hi).stair k = s.stair k := (rfl)
@[simp] theorem State.wipe_bank_of (lo hi : Nat) (k : Nat) : (s.wipe lo hi).bank k = s.bank k := (rfl)
@[simp] theorem State.wipe_eng_of (lo hi : Nat) (k : Nat) : (s.wipe lo hi).eng k = s.eng k := (rfl)
@[simp] theorem State.wipe_link_of (lo hi : Nat) (k : Nat) : (s.wipe lo hi).link k = s.link k := (rfl)
/-! ### program -/
@[simp] theorem State.program_pending (a : Nat) (d : List Byte) : (s.program a d).pending = s.pending := (rfl)
@[simp] theorem State.program_regs (a : Nat) (d : List Byte) : (s.program a d).regs = s.regs := (rfl)
@[simp] theorem State.program_staged (a : Nat) (d : List Byte) : (s.program a d).staged = s.staged := (rfl)
@[simp] theorem State.program_snapshot (a : Nat) (d : List Byte) : (s.program a d).snapshot = s.snapshot := (rfl)
@[simp] theorem State.program_commit (a : Nat) (d : List Byte) : (s.program a d).commit = s.commit := (rfl)
@[simp] theorem State.program_epoch (a : Nat) (d : List Byte) : (s.program a d).epoch = s.epoch := (rfl)
@[simp] theorem State.program_latch (a : Nat) (d : List Byte) : (s.program a d).latch = s.latch := (rfl)
@[simp] theorem State.program_fresh (a : Nat) (d : List Byte) : (s.program a d).fresh = s.fresh := (rfl)
@[simp] theorem State.program_mem (a : Nat) (d : List Byte) : (s.program a d).mem = s.mem := (rfl)
@[simp] theorem State.program_synd (a : Nat) (d : List Byte) : (s.program a d).synd = s.synd := (rfl)
@[simp] theorem State.program_rooms (a : Nat) (d : List Byte) : (s.program a d).rooms = s.rooms := (rfl)
@[simp] theorem State.program_stairs (a : Nat) (d : List Byte) : (s.program a d).stairs = s.stairs := (rfl)
@[simp] theorem State.program_banks (a : Nat) (d : List Byte) : (s.program a d).banks = s.banks := (rfl)
@[simp] theorem State.program_svc (a : Nat) (d : List Byte) : (s.program a d).svc = s.svc := (rfl)
@[simp] theorem State.program_svcNext (a : Nat) (d : List Byte) : (s.program a d).svcNext = s.svcNext := (rfl)
@[simp] theorem State.program_ecLog (a : Nat) (d : List Byte) : (s.program a d).ecLog = s.ecLog := (rfl)
@[simp] theorem State.program_mow (a : Nat) (d : List Byte) : (s.program a d).mow = s.mow := (rfl)
@[simp] theorem State.program_net (a : Nat) (d : List Byte) : (s.program a d).net = s.net := (rfl)
@[simp] theorem State.program_sched (a : Nat) (d : List Byte) : (s.program a d).sched = s.sched := (rfl)
@[simp] theorem State.program_engs (a : Nat) (d : List Byte) : (s.program a d).engs = s.engs := (rfl)
@[simp] theorem State.program_links (a : Nat) (d : List Byte) : (s.program a d).links = s.links := (rfl)
@[simp] theorem State.program_enumer (a : Nat) (d : List Byte) : (s.program a d).enumer = s.enumer := (rfl)
@[simp] theorem State.program_crypto (a : Nat) (d : List Byte) : (s.program a d).crypto = s.crypto := (rfl)
@[simp] theorem State.program_mail (a : Nat) (d : List Byte) : (s.program a d).mail = s.mail := (rfl)
@[simp] theorem State.program_clk (a : Nat) (d : List Byte) : (s.program a d).clk = s.clk := (rfl)
@[simp] theorem State.program_pow (a : Nat) (d : List Byte) : (s.program a d).pow = s.pow := (rfl)
@[simp] theorem State.program_boot (a : Nat) (d : List Byte) : (s.program a d).boot = s.boot := (rfl)
@[simp] theorem State.program_fuses (a : Nat) (d : List Byte) : (s.program a d).fuses = s.fuses := (rfl)
@[simp] theorem State.program_journal (a : Nat) (d : List Byte) : (s.program a d).journal = s.journal := (rfl)
@[simp] theorem State.program_replay (a : Nat) (d : List Byte) : (s.program a d).replay = s.replay := (rfl)
@[simp] theorem State.program_sec (a : Nat) (d : List Byte) : (s.program a d).sec = s.sec := (rfl)
@[simp] theorem State.program_odie (a : Nat) (d : List Byte) : (s.program a d).odie = s.odie := (rfl)
@[simp] theorem State.program_raw_of (a : Nat) (d : List Byte) (k : Nat) : (s.program a d).raw k = s.raw k := (rfl)
@[simp] theorem State.program_rd_of (a : Nat) (d : List Byte) (q : Reg) (j : Nat) : (s.program a d).rd q j = s.rd q j := (rfl)
@[simp] theorem State.program_f_of (a : Nat) (d : List Byte) (G : Field) (j : Nat) : (s.program a d).f G j = s.f G j := (rfl)
@[simp] theorem State.program_byte_of (a : Nat) (d : List Byte) (k : Nat) : (s.program a d).byte k = s.byte k := (rfl)
@[simp] theorem State.program_syn_of (a : Nat) (d : List Byte) (k : Nat) : (s.program a d).syn k = s.syn k := (rfl)
@[simp] theorem State.program_room_of (a : Nat) (d : List Byte) (k : Nat) : (s.program a d).room k = s.room k := (rfl)
@[simp] theorem State.program_plane_of (a : Nat) (d : List Byte) (k l : Nat) : (s.program a d).plane k l = s.plane k l := (rfl)
@[simp] theorem State.program_stair_of (a : Nat) (d : List Byte) (k : Nat) : (s.program a d).stair k = s.stair k := (rfl)
@[simp] theorem State.program_bank_of (a : Nat) (d : List Byte) (k : Nat) : (s.program a d).bank k = s.bank k := (rfl)
@[simp] theorem State.program_eng_of (a : Nat) (d : List Byte) (k : Nat) : (s.program a d).eng k = s.eng k := (rfl)
@[simp] theorem State.program_link_of (a : Nat) (d : List Byte) (k : Nat) : (s.program a d).link k = s.link k := (rfl)
/-! ### eraseFlash -/
@[simp] theorem State.eraseFlash_pending (lo hi : Nat) : (s.eraseFlash lo hi).pending = s.pending := (rfl)
@[simp] theorem State.eraseFlash_regs (lo hi : Nat) : (s.eraseFlash lo hi).regs = s.regs := (rfl)
@[simp] theorem State.eraseFlash_staged (lo hi : Nat) : (s.eraseFlash lo hi).staged = s.staged := (rfl)
@[simp] theorem State.eraseFlash_snapshot (lo hi : Nat) : (s.eraseFlash lo hi).snapshot = s.snapshot := (rfl)
@[simp] theorem State.eraseFlash_commit (lo hi : Nat) : (s.eraseFlash lo hi).commit = s.commit := (rfl)
@[simp] theorem State.eraseFlash_epoch (lo hi : Nat) : (s.eraseFlash lo hi).epoch = s.epoch := (rfl)
@[simp] theorem State.eraseFlash_latch (lo hi : Nat) : (s.eraseFlash lo hi).latch = s.latch := (rfl)
@[simp] theorem State.eraseFlash_fresh (lo hi : Nat) : (s.eraseFlash lo hi).fresh = s.fresh := (rfl)
@[simp] theorem State.eraseFlash_mem (lo hi : Nat) : (s.eraseFlash lo hi).mem = s.mem := (rfl)
@[simp] theorem State.eraseFlash_synd (lo hi : Nat) : (s.eraseFlash lo hi).synd = s.synd := (rfl)
@[simp] theorem State.eraseFlash_rooms (lo hi : Nat) : (s.eraseFlash lo hi).rooms = s.rooms := (rfl)
@[simp] theorem State.eraseFlash_stairs (lo hi : Nat) : (s.eraseFlash lo hi).stairs = s.stairs := (rfl)
@[simp] theorem State.eraseFlash_banks (lo hi : Nat) : (s.eraseFlash lo hi).banks = s.banks := (rfl)
@[simp] theorem State.eraseFlash_svc (lo hi : Nat) : (s.eraseFlash lo hi).svc = s.svc := (rfl)
@[simp] theorem State.eraseFlash_svcNext (lo hi : Nat) : (s.eraseFlash lo hi).svcNext = s.svcNext := (rfl)
@[simp] theorem State.eraseFlash_ecLog (lo hi : Nat) : (s.eraseFlash lo hi).ecLog = s.ecLog := (rfl)
@[simp] theorem State.eraseFlash_mow (lo hi : Nat) : (s.eraseFlash lo hi).mow = s.mow := (rfl)
@[simp] theorem State.eraseFlash_net (lo hi : Nat) : (s.eraseFlash lo hi).net = s.net := (rfl)
@[simp] theorem State.eraseFlash_sched (lo hi : Nat) : (s.eraseFlash lo hi).sched = s.sched := (rfl)
@[simp] theorem State.eraseFlash_engs (lo hi : Nat) : (s.eraseFlash lo hi).engs = s.engs := (rfl)
@[simp] theorem State.eraseFlash_links (lo hi : Nat) : (s.eraseFlash lo hi).links = s.links := (rfl)
@[simp] theorem State.eraseFlash_enumer (lo hi : Nat) : (s.eraseFlash lo hi).enumer = s.enumer := (rfl)
@[simp] theorem State.eraseFlash_crypto (lo hi : Nat) : (s.eraseFlash lo hi).crypto = s.crypto := (rfl)
@[simp] theorem State.eraseFlash_mail (lo hi : Nat) : (s.eraseFlash lo hi).mail = s.mail := (rfl)
@[simp] theorem State.eraseFlash_clk (lo hi : Nat) : (s.eraseFlash lo hi).clk = s.clk := (rfl)
@[simp] theorem State.eraseFlash_pow (lo hi : Nat) : (s.eraseFlash lo hi).pow = s.pow := (rfl)
@[simp] theorem State.eraseFlash_boot (lo hi : Nat) : (s.eraseFlash lo hi).boot = s.boot := (rfl)
@[simp] theorem State.eraseFlash_fuses (lo hi : Nat) : (s.eraseFlash lo hi).fuses = s.fuses := (rfl)
@[simp] theorem State.eraseFlash_journal (lo hi : Nat) : (s.eraseFlash lo hi).journal = s.journal := (rfl)
@[simp] theorem State.eraseFlash_replay (lo hi : Nat) : (s.eraseFlash lo hi).replay = s.replay := (rfl)
@[simp] theorem State.eraseFlash_sec (lo hi : Nat) : (s.eraseFlash lo hi).sec = s.sec := (rfl)
@[simp] theorem State.eraseFlash_odie (lo hi : Nat) : (s.eraseFlash lo hi).odie = s.odie := (rfl)
@[simp] theorem State.eraseFlash_raw_of (lo hi : Nat) (k : Nat) : (s.eraseFlash lo hi).raw k = s.raw k := (rfl)
@[simp] theorem State.eraseFlash_rd_of (lo hi : Nat) (q : Reg) (j : Nat) : (s.eraseFlash lo hi).rd q j = s.rd q j := (rfl)
@[simp] theorem State.eraseFlash_f_of (lo hi : Nat) (G : Field) (j : Nat) : (s.eraseFlash lo hi).f G j = s.f G j := (rfl)
@[simp] theorem State.eraseFlash_byte_of (lo hi : Nat) (k : Nat) : (s.eraseFlash lo hi).byte k = s.byte k := (rfl)
@[simp] theorem State.eraseFlash_syn_of (lo hi : Nat) (k : Nat) : (s.eraseFlash lo hi).syn k = s.syn k := (rfl)
@[simp] theorem State.eraseFlash_room_of (lo hi : Nat) (k : Nat) : (s.eraseFlash lo hi).room k = s.room k := (rfl)
@[simp] theorem State.eraseFlash_plane_of (lo hi : Nat) (k l : Nat) : (s.eraseFlash lo hi).plane k l = s.plane k l := (rfl)
@[simp] theorem State.eraseFlash_stair_of (lo hi : Nat) (k : Nat) : (s.eraseFlash lo hi).stair k = s.stair k := (rfl)
@[simp] theorem State.eraseFlash_bank_of (lo hi : Nat) (k : Nat) : (s.eraseFlash lo hi).bank k = s.bank k := (rfl)
@[simp] theorem State.eraseFlash_eng_of (lo hi : Nat) (k : Nat) : (s.eraseFlash lo hi).eng k = s.eng k := (rfl)
@[simp] theorem State.eraseFlash_link_of (lo hi : Nat) (k : Nat) : (s.eraseFlash lo hi).link k = s.link k := (rfl)
@[simp] theorem State.drawn_fresh : s.drawn.fresh = s.fresh + 1 := (rfl)
end updates

/-! ### Fields of a register word -/

theorem Field.mask_val (F : Field) : F.mask.toNat = (2 ^ F.width - 1) * 2 ^ F.lo % 2 ^ 32 := by
  unfold Field.mask; rw [BitVec.toNat_ofNat]

/-- A field lies inside a 32-bit register. -/
def Field.ok (F : Field) : Bool := decide (F.lo ≤ F.hi) && decide (F.hi < 32)

theorem Field.testBit_mask (F : Field) (h : F.ok = true) (i : Nat) : F.mask.getLsbD i = (decide (F.lo ≤ i) && decide (i ≤ F.hi)) := by
  simp only [Field.ok, Bool.and_eq_true, decide_eq_true_eq] at h
  unfold Field.mask Field.width
  rw [BitVec.getLsbD_ofNat, Nat.testBit_mul_two_pow, Nat.testBit_two_pow_sub_one]
  by_cases h1 : F.lo ≤ i <;> by_cases h2 : i ≤ F.hi <;> simp [h1, h2] <;> omega

theorem Field.get_testBit (F : Field) (w : Word) (i : Nat) : (F.get w).testBit i = (decide (i < F.width) && w.getLsbD (i + F.lo)) := by
  unfold Field.get
  rw [Nat.testBit_mod_two_pow, Nat.testBit_div_two_pow, BitVec.getLsbD]

theorem Field.set_testBit (F : Field) (h : F.ok = true) (w : Word) (v i : Nat) :
    (F.set w v).getLsbD i = if F.lo ≤ i ∧ i ≤ F.hi then v.testBit (i - F.lo) else w.getLsbD i := by
  have hm := F.testBit_mask h i
  simp only [Field.ok, Bool.and_eq_true, decide_eq_true_eq] at h
  unfold Field.set
  rw [BitVec.getLsbD_or, BitVec.getLsbD_and, BitVec.getLsbD_not, hm, BitVec.getLsbD_ofNat, Nat.testBit_mul_two_pow, Nat.testBit_mod_two_pow]
  unfold Field.width
  by_cases h3 : i < 32
  · by_cases h1 : F.lo ≤ i <;> by_cases h2 : i ≤ F.hi
    · rw [if_pos ⟨h1, h2⟩]
      have h4 : i - F.lo < F.hi - F.lo + 1 := by omega
      simp only [h1, h2, h3, h4, decide_true, Bool.true_and, Bool.and_false, Bool.false_or, Bool.not_true]
    · rw [if_neg fun x => h2 x.2]
      have h4 : ¬ i - F.lo < F.hi - F.lo + 1 := by omega
      simp [h2, h3, h4]
    · rw [if_neg fun x => h1 x.1]
      simp [h1, h3]
    · rw [if_neg fun x => h1 x.1]
      simp [h1, h3]
  · have h4 : w.getLsbD i = false := BitVec.getLsbD_of_ge w i (by omega)
    rw [if_neg fun x => h3 (by omega)]
    simp [h3, h4]

/-- A field reads as it was set, modulo its width. -/
theorem Field.get_set (F : Field) (h : F.ok = true) (w : Word) (v : Nat) : F.get (F.set w v) = v % 2 ^ F.width := by
  apply Nat.eq_of_testBit_eq
  intro i
  rw [F.get_testBit, F.set_testBit h, Nat.testBit_mod_two_pow]
  simp only [Field.ok, Bool.and_eq_true, decide_eq_true_eq] at h
  by_cases hi : i < F.width
  · have : F.lo ≤ i + F.lo ∧ i + F.lo ≤ F.hi := by unfold Field.width at hi; omega
    rw [if_pos this]
    simp
  · simp [hi]

/-- A field of the same register that shares no bit with the one set reads as before. -/
theorem Field.get_set_ne (F G : Field) (h : F.ok = true) (hG : G.ok = true) (hd : F.hi < G.lo ∨ G.hi < F.lo) (w : Word) (v : Nat) :
    G.get (F.set w v) = G.get w := by
  apply Nat.eq_of_testBit_eq
  intro i
  rw [G.get_testBit, G.get_testBit, F.set_testBit h]
  simp only [Field.ok, Bool.and_eq_true, decide_eq_true_eq] at hG
  by_cases hi : i < G.width
  · have : ¬(F.lo ≤ i + G.lo ∧ i + G.lo ≤ F.hi) := by unfold Field.width at hi; omega
    rw [if_neg this]
  · simp [hi]

theorem Field.get_lt (F : Field) (w : Word) : F.get w < 2 ^ F.width := Nat.mod_lt _ (Nat.two_pow_pos _)

/-! ### Registers after an update -/

/-- The register table is canonical. -/
abbrev State.regsOk (s : State) : Prop := mwf regDefault s.regs = true

section regs
variable {s : State}
theorem State.regsOk_setRaw (h : s.regsOk) (o : Nat) (w : Word) : (s.setRaw o w).regsOk := mwf_mput o w h
theorem State.regsOk_wr (h : s.regsOk) (r : Reg) (i : Nat) (w : Word) : (s.wr r i w).regsOk := mwf_mput _ w h
theorem State.regsOk_setF (h : s.regsOk) (F : Field) (i v : Nat) : (s.setF F i v).regsOk := mwf_mput _ _ h
theorem State.regsOk_inc (h : s.regsOk) (F : Field) (i v : Nat) : (s.inc F i v).regsOk := mwf_mput _ _ h
theorem State.regsOk_incW (h : s.regsOk) (F : Field) (i v : Nat) : (s.incW F i v).regsOk := mwf_mput _ _ h

theorem State.raw_setRaw (h : s.regsOk) (o : Nat) (w : Word) (k : Nat) : (s.setRaw o w).raw k = if k = o then w else s.raw k :=
  mget_mput o w k h
theorem State.rd_wr_same (h : s.regsOk) (r : Reg) (i : Nat) (w : Word) : (s.wr r i w).rd r i = w := mget_mput_same h _ w
theorem State.rd_wr_ne (h : s.regsOk) {r q : Reg} (hr : q ≠ r) (i j : Nat) (w : Word) : (s.wr r i w).rd q j = s.rd q j :=
  mget_mput_ne h (Reg.addr_ne hr j i) w
theorem State.rd_wr_inst (h : s.regsOk) (r : Reg) {i j : Nat} (hi : j % r.map.count ≠ i % r.map.count) (w : Word) :
    (s.wr r i w).rd r j = s.rd r j := mget_mput_ne h (fun e => hi (Reg.addr_inj.1 e)) w

/-- A field reads as it was set. -/
theorem State.f_setF_same (h : s.regsOk) (F : Field) (hF : F.ok = true) (i v : Nat) : (s.setF F i v).f F i = v % 2 ^ F.width := by
  show F.get ((s.wr F.reg i _).rd F.reg i) = _
  rw [State.rd_wr_same h, F.get_set hF]
/-- A field of another register reads as before. -/
theorem State.f_setF_reg (h : s.regsOk) {F G : Field} (hr : G.reg ≠ F.reg) (i j v : Nat) : (s.setF F i v).f G j = s.f G j := by
  show G.get ((s.wr F.reg i _).rd G.reg j) = G.get (s.rd G.reg j)
  rw [State.rd_wr_ne h hr]
/-- Another field of the same register reads as before, in every instance. -/
theorem State.f_setF_field (h : s.regsOk) {F G : Field} (hr : G.reg = F.reg) (hF : F.ok = true) (hG : G.ok = true) (hd : F.hi < G.lo ∨ G.hi < F.lo)
    (i j v : Nat) : (s.setF F i v).f G j = s.f G j := by
  show G.get ((s.wr F.reg i _).rd G.reg j) = G.get (s.rd G.reg j)
  rw [hr]
  by_cases e : j % F.reg.map.count = i % F.reg.map.count
  · have ea : F.reg.addr j = F.reg.addr i := Reg.addr_inj.2 e
    have e1 : ∀ t : State, t.rd F.reg j = t.rd F.reg i := fun t => by unfold State.rd; rw [ea]
    rw [e1, e1, State.rd_wr_same h, F.get_set_ne G hF hG hd]
  · rw [State.rd_wr_inst h _ e]
/-- Another instance reads as before. -/
theorem State.f_setF_inst (h : s.regsOk) {F G : Field} (hr : G.reg = F.reg) {i j : Nat} (hi : j % F.reg.map.count ≠ i % F.reg.map.count)
    (v : Nat) : (s.setF F i v).f G j = s.f G j := by
  show G.get ((s.wr F.reg i _).rd G.reg j) = G.get (s.rd G.reg j)
  rw [hr, State.rd_wr_inst h _ hi]
theorem State.rd_setF_ne (h : s.regsOk) {F : Field} {q : Reg} (hr : q ≠ F.reg) (i j v : Nat) : (s.setF F i v).rd q j = s.rd q j :=
  State.rd_wr_ne h hr i j _
theorem State.f_lt (s : State) (F : Field) (i : Nat) : s.f F i < 2 ^ F.width := F.get_lt _
end regs

/-! ### Memory after an update -/

theorem State.byte_setByte {s : State} (h : Memory.wf s.mem = true) (a : Nat) (b : Byte) (k : Nat) :
    (s.setByte a b).byte k = if k = a then b else s.byte k := mget_mput a b k h
theorem State.byte_wipe {s : State} (h : Memory.wf s.mem = true) (lo hi k : Nat) :
    (s.wipe lo hi).byte k = if lo ≤ k ∧ k < hi then 0 else s.byte k := mget_mclear h lo hi k

/-! ### Units after an update -/

section units
variable {s : State}
theorem State.room_updRoom (h : mwf (fun _ => ({} : Room)) s.rooms = true) (n : Nat) (g : Room → Room) (k : Nat) :
    (s.updRoom n g).room k = if k = n then g (s.room n) else s.room k := mget_mput n _ k h
theorem State.stair_updStair (h : mwf (fun _ => ({} : Stair)) s.stairs = true) (n : Nat) (g : Stair → Stair) (k : Nat) :
    (s.updStair n g).stair k = if k = n then g (s.stair n) else s.stair k := mget_mput n _ k h
theorem State.bank_updBank (h : mwf (fun _ => ({} : Bank)) s.banks = true) (n : Nat) (g : Bank → Bank) (k : Nat) :
    (s.updBank n g).bank k = if k = n then g (s.bank n) else s.bank k := mget_mput n _ k h
theorem State.eng_updEng (h : mwf (fun _ => ({} : Eng)) s.engs = true) (n : Nat) (g : Eng → Eng) (k : Nat) :
    (s.updEng n g).eng k = if k = n then g (s.eng n) else s.eng k := mget_mput n _ k h
theorem State.link_updLink (h : mwf (fun _ => ({} : Link)) s.links = true) (n : Nat) (g : Link → Link) (k : Nat) :
    (s.updLink n g).link k = if k = n then g (s.link n) else s.link k := mget_mput n _ k h
end units

end Sys2Proof.Machine
end

