-- ==== Sys2Proof/Laws/Canon.lean ====
section
/-!
SUPPORT. The canonical form and the queue under every primitive change, and the frames that follow from Laws/Closed.lean: a
register, a memory or a unit that an operation's kinds leave out is as it was.
-/
namespace Sys2Proof.Machine

theorem mwf_nil {α : Type} [DecidableEq α] (d : Nat → α) : mwf d ([] : SMap α) = true := rfl

theorem State.canon_reset : State.reset.canon :=
  ⟨rfl, rfl, rfl, rfl, rfl, rfl, rfl, rfl, rfl, rfl⟩

theorem progFlash_wf : ∀ (d : List Byte) (m : List Host.Cell) (a : Nat), mwf (fun _ => (0xFF : Byte)) m = true →
    mwf (fun _ => (0xFF : Byte)) (progFlash m a d) = true
  | [], _, _, h => h
  | b :: t, m, a, h => by
    unfold progFlash
    exact progFlash_wf t _ _ (mwf_mput _ _ h)

theorem State.canon_wr {s : State} (h : s.canon) (r : Reg) (i : Nat) (w : Word) : (s.wr r i w).canon :=
  { h with regs := mwf_mput _ _ h.regs }
theorem State.canon_setF {s : State} (h : s.canon) (F : Field) (i v : Nat) : (s.setF F i v).canon := State.canon_wr h _ _ _

theorem State.canon_powerOn {s : State} (h : s.canon) : s.powerOn.canon :=
  { regs := mwf_nil _, mem := mwf_nil _, synd := mwf_nil _, flash := h.flash, rooms := mwf_nil _, stairs := mwf_nil _,
    banks := mwf_nil _, engs := mwf_nil _, links := mwf_nil _, odie := mwf_nil _ }

theorem State.canon_stackReset {s : State} (h : s.canon) : s.stackReset.canon := by
  unfold State.stackReset
  refine State.canon_setF (State.canon_setF (State.canon_setF (State.canon_setF ?_ _ _ _) _ _ _) _ _ _) _ _ _
  exact { regs := mwf_filter _ h.regs, mem := h.mem, synd := h.synd, flash := h.flash, rooms := mwf_nil _,
          stairs := mwf_nil _, banks := mwf_nil _, engs := mwf_nil _, links := mwf_nil _, odie := mwf_nil _ }

/-- Every primitive change keeps the canonical form, the queue of waiting commands among the things it does not touch. -/
theorem clo_canon (q : List Instr) (m : Nat) : Clo m (fun t => t.canon ∧ t.pending = q) :=
  { wr := fun {_} _ {_ _ _} h => ⟨State.canon_wr h.1 _ _ _, h.2⟩
    setTab := fun _ {_} _ _ _ h => ⟨{ h.1 with regs := mwf_mput _ _ h.1.regs }, h.2⟩
    setRaw := fun _ {_} _ _ h => ⟨{ h.1 with regs := mwf_mput _ _ h.1.regs }, h.2⟩
    dropRegs := fun _ {_} _ _ h => ⟨{ h.1 with regs := mwf_filter _ h.1.regs }, h.2⟩
    latch := fun _ {_} _ h => ⟨{ h.1 with }, h.2⟩
    drawn := fun _ {_} h => ⟨{ h.1 with }, h.2⟩
    odClear := fun _ {_} _ h => ⟨{ h.1 with odie := mwf_mput _ _ h.1.odie }, h.2⟩
    staged := fun _ {_} _ h => ⟨{ h.1 with }, h.2⟩
    snapshot := fun _ {_} _ h => ⟨{ h.1 with }, h.2⟩
    commit := fun _ {_} _ h => ⟨{ h.1 with }, h.2⟩
    epoch := fun _ {_} _ h => ⟨{ h.1 with }, h.2⟩
    enumer := fun _ {_} _ h => ⟨{ h.1 with }, h.2⟩
    mail := fun _ {_} _ h => ⟨{ h.1 with }, h.2⟩
    net := fun _ {_} _ h => ⟨{ h.1 with }, h.2⟩
    replay := fun _ {_} _ h => ⟨{ h.1 with }, h.2⟩
    updRoom := fun _ {_} _ _ h => ⟨{ h.1 with rooms := mwf_mput _ _ h.1.rooms }, h.2⟩
    updStair := fun _ {_} _ _ h => ⟨{ h.1 with stairs := mwf_mput _ _ h.1.stairs }, h.2⟩
    mow := fun _ {_} _ h => ⟨{ h.1 with }, h.2⟩
    updBank := fun _ {_} _ _ h => ⟨{ h.1 with banks := mwf_mput _ _ h.1.banks }, h.2⟩
    svc := fun _ {_} _ h => ⟨{ h.1 with }, h.2⟩
    svcNext := fun _ {_} _ h => ⟨{ h.1 with }, h.2⟩
    ecLog := fun _ {_} _ h => ⟨{ h.1 with }, h.2⟩
    setByte := fun _ {_} _ _ h => ⟨{ h.1 with mem := mwf_mput _ _ h.1.mem }, h.2⟩
    setSyn := fun _ {_} _ _ h => ⟨{ h.1 with synd := mwf_mput _ _ h.1.synd }, h.2⟩
    wipe := fun _ {_} _ _ h => ⟨{ h.1 with mem := mwf_mclear _ _ h.1.mem, synd := mwf_mclear _ _ h.1.synd }, h.2⟩
    sched := fun _ {_} _ h => ⟨{ h.1 with }, h.2⟩
    updEng := fun _ {_} _ _ h => ⟨{ h.1 with engs := mwf_mput _ _ h.1.engs }, h.2⟩
    updLink := fun _ {_} _ _ h => ⟨{ h.1 with links := mwf_mput _ _ h.1.links }, h.2⟩
    linkPut := fun _ {_} _ _ h => ⟨{ h.1 with links := mwf_mput _ _ h.1.links }, h.2⟩
    crypto := fun _ {_} _ h => ⟨{ h.1 with }, h.2⟩
    clk := fun _ {_} _ h => ⟨{ h.1 with }, h.2⟩
    pow := fun _ {_} _ h => ⟨{ h.1 with }, h.2⟩
    boot := fun _ {_} _ h => ⟨{ h.1 with }, h.2⟩
    sec := fun _ {_} _ h => ⟨{ h.1 with }, h.2⟩
    journal := fun _ {_} _ h => ⟨{ h.1 with }, h.2⟩
    fuses := fun _ {_} _ h => ⟨{ h.1 with }, h.2⟩
    program := fun _ {_} _ _ h => ⟨{ h.1 with flash := progFlash_wf _ _ _ h.1.flash }, h.2⟩
    eraseFlash := fun _ {_} _ _ h => ⟨{ h.1 with flash := mwf_mclear _ _ h.1.flash }, h.2⟩
    powerOn := fun _ {_} h => ⟨State.canon_powerOn h.1, h.2⟩
    stackReset := fun _ {_} h => ⟨State.canon_stackReset h.1, h.2⟩ }

/-! ### Frames -/

/-- A register that no bit of m names keeps its value, and the register table its canonical form. -/
theorem clo_rd (s : State) (r : Reg) (i : Nat) {m : Nat} (h0 : m.testBit 0 = false) (h1 : m.testBit 19 = false)
    (h2 : m.testBit (24 + r.ctorIdx) = false) : Clo m (fun t => t.regsOk ∧ t.rd r i = s.rd r i) where
  wr := fun {q} h {t j w} k => by
    have hq : r ≠ q := fun e => by subst e; rw [h2] at h; cases h
    exact ⟨State.regsOk_wr k.1 _ _ _, by rw [State.rd_wr_ne k.1 hq, k.2]⟩
  setTab := fun h {t} o w ho k => ⟨State.regsOk_setRaw k.1 _ _, by
    rw [State.rd, State.raw_setRaw k.1, if_neg (by have := r.addr_lt i; omega)]; exact k.2⟩
  setRaw := fun h => by rw [h0] at h; cases h
  dropRegs := fun h => by rw [h0] at h; cases h
  latch := fun _ {_} _ k => k
  drawn := fun _ {_} k => k
  odClear := fun _ {_} _ k => k
  staged := fun _ {_} _ k => k
  snapshot := fun _ {_} _ k => k
  commit := fun _ {_} _ k => k
  epoch := fun _ {_} _ k => k
  enumer := fun _ {_} _ k => k
  mail := fun _ {_} _ k => k
  net := fun _ {_} _ k => k
  replay := fun _ {_} _ k => k
  updRoom := fun _ {_} _ _ k => k
  updStair := fun _ {_} _ _ k => k
  mow := fun _ {_} _ k => k
  updBank := fun _ {_} _ _ k => k
  svc := fun _ {_} _ k => k
  svcNext := fun _ {_} _ k => k
  ecLog := fun _ {_} _ k => k
  setByte := fun _ {_} _ _ k => k
  setSyn := fun _ {_} _ _ k => k
  wipe := fun _ {_} _ _ k => k
  sched := fun _ {_} _ k => k
  updEng := fun _ {_} _ _ k => k
  updLink := fun _ {_} _ _ k => k
  linkPut := fun _ {_} _ _ k => k
  crypto := fun _ {_} _ k => k
  clk := fun _ {_} _ k => k
  pow := fun _ {_} _ k => k
  boot := fun _ {_} _ k => k
  sec := fun _ {_} _ k => k
  journal := fun _ {_} _ k => k
  fuses := fun _ {_} _ k => k
  program := fun _ {_} _ _ k => k
  eraseFlash := fun _ {_} _ _ k => k
  powerOn := fun h => by rw [h1] at h; cases h
  stackReset := fun h => by rw [h1] at h; cases h

/-- The kinds of state that no bit of m names are as in s. -/
structure Same (m : Nat) (s t : State) : Prop where
  staged : m.testBit 2 = false → t.staged = s.staged
  snapshot : m.testBit 2 = false → t.snapshot = s.snapshot
  commit : m.testBit 2 = false → t.commit = s.commit
  epoch : m.testBit 2 = false → t.epoch = s.epoch
  enumer : m.testBit 2 = false → t.enumer = s.enumer
  mail : m.testBit 3 = false → t.mail = s.mail
  net : m.testBit 4 = false → t.net = s.net
  replay : m.testBit 5 = false → t.replay = s.replay
  rooms : m.testBit 6 = false → t.rooms = s.rooms
  stairs : m.testBit 7 = false → t.stairs = s.stairs
  mow : m.testBit 7 = false → t.mow = s.mow
  banks : m.testBit 8 = false → t.banks = s.banks
  svc : m.testBit 8 = false → t.svc = s.svc
  svcNext : m.testBit 8 = false → t.svcNext = s.svcNext
  ecLog : m.testBit 9 = false → t.ecLog = s.ecLog
  mem : m.testBit 10 = false → t.mem = s.mem
  synd : m.testBit 10 = false → t.synd = s.synd
  sched : m.testBit 11 = false → t.sched = s.sched
  engs : m.testBit 12 = false → t.engs = s.engs
  links : m.testBit 13 = false → t.links = s.links
  crypto : m.testBit 14 = false → t.crypto = s.crypto
  clk : m.testBit 15 = false → t.clk = s.clk
  pow : m.testBit 15 = false → t.pow = s.pow
  boot : m.testBit 15 = false → t.boot = s.boot
  sec : m.testBit 15 = false → t.sec = s.sec
  journal : m.testBit 16 = false → t.journal = s.journal
  fuses : m.testBit 17 = false → t.fuses = s.fuses
  flash : m.testBit 18 = false → t.flash = s.flash
  latch : m.testBit 21 = false → t.latch = s.latch
  fresh : m.testBit 1 = false → t.fresh = s.fresh
  odie : m.testBit 22 = false → t.odie = s.odie

theorem Same.refl (m : Nat) (s : State) : Same m s s := by constructor <;> intro _ <;> rfl

/-- Every primitive change keeps what its kind does not name. -/
theorem clo_same (s : State) {m : Nat} (h0 : m.testBit 19 = false) : Clo m (Same m s) where
  wr := fun {_} _ {_ _ _} k => { k with }
  setTab := fun _ {_} _ _ _ k => { k with }
  setRaw := fun _ {_} _ _ k => { k with }
  dropRegs := fun _ {_} _ _ k => { k with }
  latch := fun i {_} _ k => { k with latch := fun h => by rw [i] at h; cases h }
  odClear := fun i {_} _ k => { k with odie := fun h => by rw [i] at h; cases h }
  drawn := fun i {_} k => { k with fresh := fun h => by rw [i] at h; cases h }
  staged := fun i {_} _ k => { k with staged := fun h => by rw [i] at h; cases h }
  snapshot := fun i {_} _ k => { k with snapshot := fun h => by rw [i] at h; cases h }
  commit := fun i {_} _ k => { k with commit := fun h => by rw [i] at h; cases h }
  epoch := fun i {_} _ k => { k with epoch := fun h => by rw [i] at h; cases h }
  enumer := fun i {_} _ k => { k with enumer := fun h => by rw [i] at h; cases h }
  mail := fun i {_} _ k => { k with mail := fun h => by rw [i] at h; cases h }
  net := fun i {_} _ k => { k with net := fun h => by rw [i] at h; cases h }
  replay := fun i {_} _ k => { k with replay := fun h => by rw [i] at h; cases h }
  updRoom := fun i {_} _ _ k => { k with rooms := fun h => by rw [i] at h; cases h }
  updStair := fun i {_} _ _ k => { k with stairs := fun h => by rw [i] at h; cases h }
  mow := fun i {_} _ k => { k with mow := fun h => by rw [i] at h; cases h }
  updBank := fun i {_} _ _ k => { k with banks := fun h => by rw [i] at h; cases h }
  svc := fun i {_} _ k => { k with svc := fun h => by rw [i] at h; cases h }
  svcNext := fun i {_} _ k => { k with svcNext := fun h => by rw [i] at h; cases h }
  ecLog := fun i {_} _ k => { k with ecLog := fun h => by rw [i] at h; cases h }
  setByte := fun i {_} _ _ k => { k with mem := fun h => by rw [i] at h; cases h }
  setSyn := fun i {_} _ _ k => { k with synd := fun h => by rw [i] at h; cases h }
  wipe := fun i {_} _ _ k => { k with mem := fun h => (by rw [i] at h; cases h), synd := fun h => (by rw [i] at h; cases h) }
  sched := fun i {_} _ k => { k with sched := fun h => by rw [i] at h; cases h }
  updEng := fun i {_} _ _ k => { k with engs := fun h => by rw [i] at h; cases h }
  updLink := fun i {_} _ _ k => { k with links := fun h => by rw [i] at h; cases h }
  linkPut := fun i {_} _ _ k => { k with links := fun h => by rw [i] at h; cases h }
  crypto := fun i {_} _ k => { k with crypto := fun h => by rw [i] at h; cases h }
  clk := fun i {_} _ k => { k with clk := fun h => by rw [i] at h; cases h }
  pow := fun i {_} _ k => { k with pow := fun h => by rw [i] at h; cases h }
  boot := fun i {_} _ k => { k with boot := fun h => by rw [i] at h; cases h }
  sec := fun i {_} _ k => { k with sec := fun h => by rw [i] at h; cases h }
  journal := fun i {_} _ k => { k with journal := fun h => by rw [i] at h; cases h }
  fuses := fun i {_} _ k => { k with fuses := fun h => by rw [i] at h; cases h }
  program := fun i {_} _ _ k => { k with flash := fun h => by rw [i] at h; cases h }
  eraseFlash := fun i {_} _ _ k => { k with flash := fun h => by rw [i] at h; cases h }
  powerOn := fun i => by rw [h0] at i; cases i
  stackReset := fun i => by rw [h0] at i; cases i

end Sys2Proof.Machine
end

