-- ==== Sys2Proof/Laws/InvRoom.lean ====
section
/-!
SUPPORT. What each operation of rooms, banks, memories and commands may change (see Laws/Closed.lean): one lemma per definition.
-/
namespace Sys2Proof.Machine
variable {P : State → Prop}

/-! ### Ops -/

theorem State.when_inv (c : Clo 0x0 P) {v0} {v1} {v2 : Sys2Proof.Machine.State → Sys2Proof.Machine.State} (k0 : P v0) (k2 : ∀ a0, P a0 → P (v2 a0)) : P (State.when v0 v1 v2) := by
  unfold State.when
  exact (ite_p (fun _ => (k2 _ k0)) (fun _ => k0))
theorem State.each_inv (c : Clo 0x0 P) {α : Type} {v0 : State} {l : List α} {f : State → α → State} (k0 : P v0) (k2 : ∀ s x, P s → P (f s x)) : P (v0.each l f) := by
  unfold State.each
  exact foldl_p k2 k0
theorem State.updPlane_inv (c : Clo 0x40 P) {v0} {v1} {v2} {v3} (k0 : P v0) : P (State.updPlane v0 v1 v2 v3) := by
  unfold State.updPlane
  exact (c.updRoom rfl _ _ k0)
theorem State.updSched_inv (c : Clo 0x800 P) {v0} {v1} (k0 : P v0) : P (State.updSched v0 v1) := by
  unfold State.updSched
  exact (c.sched rfl _ k0)
theorem State.updNet_inv (c : Clo 0x10 P) {v0} {v1} (k0 : P v0) : P (State.updNet v0 v1) := by
  unfold State.updNet
  exact (c.net rfl _ k0)
theorem State.updMail_inv (c : Clo 0x8 P) {v0} {v1} (k0 : P v0) : P (State.updMail v0 v1) := by
  unfold State.updMail
  exact (c.mail rfl _ k0)
theorem State.updBoot_inv (c : Clo 0x8000 P) {v0} {v1} (k0 : P v0) : P (State.updBoot v0 v1) := by
  unfold State.updBoot
  exact (c.boot rfl _ k0)
theorem State.updPow_inv (c : Clo 0x8000 P) {v0} {v1} (k0 : P v0) : P (State.updPow v0 v1) := by
  unfold State.updPow
  exact (c.pow rfl _ k0)
theorem State.updClk_inv (c : Clo 0x8000 P) {v0} {v1} (k0 : P v0) : P (State.updClk v0 v1) := by
  unfold State.updClk
  exact (c.clk rfl _ k0)
theorem State.updRp_inv (c : Clo 0x20 P) {v0} {v1} (k0 : P v0) : P (State.updRp v0 v1) := by
  unfold State.updRp
  exact (c.replay rfl _ k0)
theorem State.updJ_inv (c : Clo 0x10000 P) {v0} {v1} (k0 : P v0) : P (State.updJ v0 v1) := by
  unfold State.updJ
  exact (c.journal rfl _ k0)
theorem State.updSec_inv (c : Clo 0x8000 P) {v0} {v1} (k0 : P v0) : P (State.updSec v0 v1) := by
  unfold State.updSec
  exact (c.sec rfl _ k0)
theorem State.updCr_inv (c : Clo 0x4000 P) {v0} {v1} (k0 : P v0) : P (State.updCr v0 v1) := by
  unfold State.updCr
  exact (c.crypto rfl _ k0)
theorem State.updMow_inv (c : Clo 0x80 P) {v0} {v1} (k0 : P v0) : P (State.updMow v0 v1) := by
  unfold State.updMow
  exact (c.mow rfl _ k0)

/-! ### Record -/

theorem State.orderRec_inv (c : Clo 0x20 P) {v0} {v1} {v2} (k0 : P v0) : P (State.orderRec v0 v1 v2) := by
  unfold State.orderRec
  extract_lets +onlyGivenNames -merge x1
  clear_value x1
  exact (ite_p (fun _ => k0) (fun _ => (ite_p (fun _ => (State.updRp_inv (c.mono rfl) k0)) (fun _ => (ite_p (fun _ => k0) (fun _ => (State.updRp_inv (c.mono rfl) k0)))))))
theorem State.pushRec_inv (c : Clo 0x20 P) {v0} {v1} {v2} {v3} (k0 : P v0) : P (State.pushRec v0 v1 v2 v3) := by
  unfold State.pushRec
  extract_lets +onlyGivenNames -merge x1 x3 x4
  have h2 : P x1 := by unfold x1; exact (State.orderRec_inv (c.mono rfl) k0)
  clear_value x1 x3 x4
  exact (State.updRp_inv (c.mono rfl) h2)
theorem State.pushGap_inv (c : Clo 0x202000000000000000000000000000000000000000000000000000000000000020 P) {v0} {v1} (k0 : P v0) : P (State.pushGap v0 v1) := by
  unfold State.pushGap
  exact (c.setF rfl (c.incW rfl (State.pushRec_inv (c.mono rfl) k0)))
theorem State.finding_inv (c : Clo 0x1800000000000000000000000000000000000000000000000000000000000000000 P) {v0} {v1} {v2} (k0 : P v0) : P (State.finding v0 v1 v2) := by
  unfold State.finding
  refine ite_p (fun _ => k0) (fun _ => ?_)
  extract_lets +onlyGivenNames -merge x1 x3
  have h2 : P x1 := by unfold x1; exact (c.setF rfl k0)
  have h4 : P x3 := by unfold x3; exact (c.setF rfl h2)
  clear_value x1 x3
  exact (c.setF rfl h4)
theorem State.settle_inv (c : Clo 0x1c02000000000000000000000000000000000000000000000000000000000000020 P) {v0} {v1} (k0 : P v0) : P (State.settle v0 v1) := by
  unfold State.settle
  extract_lets +onlyGivenNames -merge x1 x2 x3 x4
  have h5 : P x4 := by unfold x4; exact (State.updRp_inv (c.mono rfl) k0)
  clear_value x1 x2 x3 x4
  exact (State.each_inv (c.mono rfl) h5 (fun _ _ h6 => (State.finding_inv (c.mono rfl) (c.inc rfl (c.setF rfl h6)))))
theorem State.stampNow_inv (c : Clo 0x1c02000000000000000000000000000000000000000000000000000000000000022 P) {v0} (k0 : P v0) : P (State.stampNow v0) := by
  unfold State.stampNow
  refine ite_p (fun _ => k0) (fun _ => ?_)
  extract_lets +onlyGivenNames -merge x1 x2 x3 x4 x5 x6
  have h7 : P x6 := by unfold x6; exact (State.updRp_inv (c.mono rfl) (c.drawn rfl  (c.drawn rfl  k0)))
  clear_value x1 x2 x3 x4 x5 x6
  exact (ite_p (fun _ => (State.settle_inv (c.mono rfl) h7)) (fun _ => h7))
theorem State.recordAt_inv (c : Clo 0x202000000000000000000000000000000000000000000000000000000000000020 P) {v0} {v1} {v2} {v3} (k0 : P v0) : P (State.recordAt v0 v1 v2 v3) := by
  unfold State.recordAt
  refine ite_p (fun _ => k0) (fun _ => ?_)
  extract_lets +onlyGivenNames -merge x1 x2
  clear_value x1 x2
  refine ite_p (fun _ => (State.updRp_inv (c.mono rfl) (c.inc rfl k0))) (fun _ => ?_)
  extract_lets +onlyGivenNames -merge x3
  have h4 : P x3 := by unfold x3; exact (ite_p (fun _ => (State.updRp_inv (c.mono rfl) (State.pushGap_inv (c.mono rfl) k0))) (fun _ => k0))
  clear_value x3
  exact (State.pushRec_inv (c.mono rfl) h4)
theorem State.record_inv (c : Clo 0x1e02000000000000000000000000000000000000000000000000000000000000022 P) {v0} {v1} {v2} {v3} (k0 : P v0) : P (State.record v0 v1 v2 v3) := by
  unfold State.record
  exact (ite_p (fun _ => k0) (fun _ => (State.recordAt_inv (c.mono rfl) (State.stampNow_inv (c.mono rfl) k0))))
theorem State.unrecorded_inv (c : Clo 0x1c02000000000000000000000000000000000000000000000000000000000000022 P) {v0} (k0 : P v0) : P (State.unrecorded v0) := by
  unfold State.unrecorded
  refine ite_p (fun _ => ?_) (fun _ => k0)
  extract_lets +onlyGivenNames -merge x1
  have h2 : P x1 := by unfold x1; exact (State.stampNow_inv (c.mono rfl) k0)
  clear_value x1
  exact (State.finding_inv (c.mono rfl) (c.setF rfl h2))
theorem State.recordSrc_inv (c : Clo 0x1e02000000000000000000000000000000000000000000000000000000000000022 P) {v0} {v1} {v2} {v3} {v4} (k0 : P v0) : P (State.recordSrc v0 v1 v2 v3 v4) := by
  unfold State.recordSrc
  exact (ite_p (fun _ => (State.record_inv (c.mono rfl) k0)) (fun _ => (ite_p (fun _ => k0) (fun _ => (State.unrecorded_inv (c.mono rfl) k0)))))
theorem State.hazard_inv (c : Clo 0x1e02000000000000000000000000000000000000000000000000000000000000022 P) {v0} {v1} {v2} {v3} (k0 : P v0) : P (State.hazard v0 v1 v2 v3) := by
  unfold State.hazard
  refine ite_p (fun _ => (State.record_inv (c.mono rfl) k0)) (fun _ => ?_)
  refine ite_p (fun _ => ?_) (fun _ => k0)
  extract_lets +onlyGivenNames -merge x1
  have h2 : P x1 := by unfold x1; exact (State.stampNow_inv (c.mono rfl) k0)
  clear_value x1
  exact (State.updRp_inv (c.mono rfl) h2)
theorem State.trng_inv (c : Clo 0x1e02000000000000000000000000000000000000000000000000000000000000022 P) {v0} {v1} (k0 : P v0) : (SndP P) (State.trng v0 v1) := by
  unfold State.trng
  split
  ·
    rename_i y1 y2 y3
    exact (mk_snd (State.updRp_inv (c.mono rfl) k0))
  ·
    rename_i y4 y5
    extract_lets +onlyGivenNames -merge x6
    clear_value x6
    exact (mk_snd (State.recordSrc_inv (c.mono rfl) (c.drawn rfl  k0)))

/-! ### Mem -/

theorem State.putBytes_inv (c : Clo 0x400 P) {v0} {v1} {v2} (k0 : P v0) : P (State.putBytes v0 v1 v2) := by
  induction v2 generalizing v0 k0 v1 with
  | nil =>
    rw [State.putBytes]
    exact k0
  | cons z t ih =>
    rw [State.putBytes]
    exact (by apply ih; exact (c.setByte rfl _ _ k0))
theorem State.logEc_inv (c : Clo 0x100000000000000000000000000000000000000000000000000000200 P) {v0} {v1} (k0 : P v0) : P (State.logEc v0 v1) := by
  unfold State.logEc
  exact (ite_p (fun _ => (c.ecLog rfl _ k0)) (fun _ => (c.setF rfl k0)))
theorem State.noteWord_inv (c : Clo 0x1e020000031000000000000000000000000000000000000000000000000000002a2 P) {v0} {v1} {v2} (k0 : P v0) : P (State.noteWord v0 v1 v2) := by
  unfold State.noteWord
  extract_lets +onlyGivenNames -merge x1 x2 x3
  have h4 : ∀ a0 a1, P a0 → P (x3 a0 a1) := by
    intro a6 a7 h5
    unfold x3
    beta_reduce
    exact (State.logEc_inv (c.mono rfl) (c.inc rfl (c.mow rfl _ h5)))
  clear_value x1 x2 x3
  split
  ·
    rename_i y8 y9
    exact k0
  ·
    rename_i y10 y11
    exact k0
  ·
    rename_i y12 y13
    exact (h4 _ _ k0)
  ·
    rename_i y14 y15 y16
    exact (h4 _ _ k0)
  ·
    rename_i y17 y18
    exact (State.hazard_inv (c.mono rfl) (State.logEc_inv (c.mono rfl) (c.inc rfl k0)))
theorem State.storePoison_inv (c : Clo 0x4100000000000000000000000000000000000000000000000000000600 P) {v0} {v1} {v2} (k0 : P v0) : P (State.storePoison v0 v1 v2) := by
  unfold State.storePoison
  exact (State.logEc_inv (c.mono rfl) (c.inc rfl (c.setSyn rfl _ _ k0)))
theorem State.readWord_inv (c : Clo 0x1e020000031000000000000000000000000000000000000000000000000000002a2 P) {v0} {v1} (k0 : P v0) : (SndP (SndP P)) (State.readWord v0 v1) := by
  unfold State.readWord
  extract_lets +onlyGivenNames -merge x1
  clear_value x1
  split
  ·
    rename_i y2 y3 y4 y5
    exact (mk_snd (mk_snd (State.noteWord_inv (c.mono rfl) k0)))
theorem State.writeWord_inv (c : Clo 0x1e020000071000000000000000000000000000000000000000000000000000006a2 P) {v0} {v1} {v2} {v3} {v4} (k0 : P v0) : (FstP P) (State.writeWord v0 v1 v2 v3 v4) := by
  unfold State.writeWord
  extract_lets +onlyGivenNames -merge x1
  clear_value x1
  refine ite_p (fun _ => ?_) (fun _ => ?_)
  ·
    extract_lets +onlyGivenNames -merge x2
    have h3 : P x2 := by unfold x2; exact (c.setSyn rfl _ _ (State.putBytes_inv (c.mono rfl) k0))
    clear_value x2
    exact (ite_p (fun _ => (mk_fst (State.storePoison_inv (c.mono rfl) h3))) (fun _ => (mk_fst h3)))
  ·
    split
    ·
      rename_i y4 y5 y6 y7
      extract_lets +onlyGivenNames -merge x8 x10
      have h9 : P x8 := by unfold x8; exact (State.noteWord_inv (c.mono rfl) k0)
      have h11 : P x10 := by unfold x10; exact (c.setSyn rfl _ _ (State.putBytes_inv (c.mono rfl) h9))
      clear_value x8 x10
      exact (ite_p (fun _ => (mk_fst (State.storePoison_inv (c.mono rfl) h11))) (fun _ => (mk_fst h11)))
theorem State.rowRead_inv (c : Clo 0x1e020000031000000000000000000000000000000000000000000000000000002a2 P) {v0} {v1} (k0 : P v0) : (SndP (SndP P)) (State.rowRead v0 v1) := by
  unfold State.rowRead
  refine foldl_p ?_ (mk_snd (mk_snd k0))
  intro a4 a5 h3
  split
  ·
    rename_i y6 y7 y8 y9 y10
    have q12 := congr_p (Q := (SndP (SndP P))) y10 (by
        exact (State.readWord_inv (c.mono rfl) (snd_p (snd_p h3)))
      )
    have h11 : P y9 := q12
    exact (mk_snd (mk_snd h11))
theorem State.rowWrite_inv (c : Clo 0x1e020000071000000000000000000000000000000000000000000000000000006a2 P) {v0} {v1} {v2} {v3} (k0 : P v0) : P (State.rowWrite v0 v1 v2 v3) := by
  unfold State.rowWrite
  exact (State.each_inv (c.mono rfl) k0 (fun _ _ h1 => (fst_p (State.writeWord_inv (c.mono rfl) h1))))
theorem State.inject_inv (c : Clo 0x10 P) {v0} {v1} {v2} (k0 : P v0) : P (State.inject v0 v1 v2) := by
  unfold State.inject
  exact (State.updNet_inv (c.mono rfl) k0)
theorem State.setOut_inv (c : Clo 0x10 P) {v0} {v1} {v2} (k0 : P v0) : P (State.setOut v0 v1 v2) := by
  unfold State.setOut
  exact (State.updNet_inv (c.mono rfl) k0)
theorem State.request_inv (c : Clo 0x10 P) {v0} {v1} {v2} (k0 : P v0) : P (State.request v0 v1 v2) := by
  unfold State.request
  exact (State.inject_inv (c.mono rfl) (State.setOut_inv (c.mono rfl) k0))
theorem State.setPosts_inv (c : Clo 0x10 P) {v0} {v1} {v2} (k0 : P v0) : P (State.setPosts v0 v1 v2) := by
  unfold State.setPosts
  exact (State.updNet_inv (c.mono rfl) k0)
theorem State.pumpPosts_inv (c : Clo 0x10 P) {v0} {v1} (k0 : P v0) : P (State.pumpPosts v0 v1) := by
  unfold State.pumpPosts
  extract_lets +onlyGivenNames -merge x1
  clear_value x1
  refine State.each_inv (c.mono rfl) (State.setPosts_inv (c.mono rfl) k0) ?_
  intro a5 a6 h4
  split
  ·
    rename_i y7 y8 y9
    exact (State.inject_inv (c.mono rfl) (State.setOut_inv (c.mono rfl) h4))
  ·
    rename_i y10 y11
    exact (State.setPosts_inv (c.mono rfl) h4)
theorem State.sendPost_inv (c : Clo 0x10 P) {v0} {v1} {v2} (k0 : P v0) : P (State.sendPost v0 v1 v2) := by
  unfold State.sendPost
  exact (State.pumpPosts_inv (c.mono rfl) (State.setPosts_inv (c.mono rfl) k0))
theorem State.postSpan_inv (c : Clo 0x10 P) {v0} {v1} {v2} {v3} (k0 : P v0) : P (State.postSpan v0 v1 v2 v3) := by
  unfold State.postSpan
  exact (State.each_inv (c.mono rfl) k0 (fun _ _ h1 => (State.sendPost_inv (c.mono rfl) h1)))
theorem State.busError_inv (c : Clo 0x788000000000000000000000000000000000000000000000000000000000000000000000 P) {v0} {v1} {v2} {v3} {v4} (k0 : P v0) : P (State.busError v0 v1 v2 v3 v4) := by
  unfold State.busError
  extract_lets +onlyGivenNames -merge x1
  have h2 : P x1 := by unfold x1; exact (c.inc rfl k0)
  clear_value x1
  refine ite_p (fun _ => h2) (fun _ => ?_)
  extract_lets +onlyGivenNames -merge x3 x5 x7 x9 x11
  have h4 : P x3 := by unfold x3; exact (c.setF rfl h2)
  have h6 : P x5 := by unfold x5; exact (c.setF rfl h4)
  have h8 : P x7 := by unfold x7; exact (c.setF rfl h6)
  have h10 : P x9 := by unfold x9; exact (c.setF rfl h8)
  have h12 : P x11 := by unfold x11; exact (c.setF rfl h10)
  clear_value x3 x5 x7 x9 x11
  exact (c.setF rfl h12)
theorem State.refuse_inv (c : Clo 0x788000000000000000000000000000000000000000000000000000000000000000000018 P) {v0} {v1} {v2} {v3} (k0 : P v0) : P (State.refuse v0 v1 v2 v3) := by
  unfold State.refuse
  extract_lets +onlyGivenNames -merge x1 x3
  have h2 : P x1 := by unfold x1; exact (State.busError_inv (c.mono rfl) k0)
  have h4 : P x3 := by unfold x3; exact (ite_p (fun _ => (State.updMail_inv (c.mono rfl) h2)) (fun _ => h2))
  clear_value x1 x3
  exact (State.inject_inv (c.mono rfl) h4)
theorem State.queueEvent_inv (c : Clo 0x4000000000000008 P) {v0} {v1} {v2} (k0 : P v0) : P (State.queueEvent v0 v1 v2) := by
  unfold State.queueEvent
  extract_lets +onlyGivenNames -merge x1
  clear_value x1
  refine ite_p (fun _ => (c.inc rfl k0)) (fun _ => ?_)
  extract_lets +onlyGivenNames -merge x2
  have h3 : P x2 := by unfold x2; exact (State.updMail_inv (c.mono rfl) k0)
  clear_value x2
  exact (ite_p (fun _ => (State.updMail_inv (c.mono rfl) h3)) (fun _ => h3))
theorem State.event_inv (c : Clo 0x4000000000000008 P) {v0} {v1} {v2} {v3} (k0 : P v0) : P (State.event v0 v1 v2 v3) := by
  unfold State.event
  extract_lets +onlyGivenNames -merge x1 x2 x3 x5
  have h4 : P x3 := by unfold x3; exact (State.updMail_inv (c.mono rfl) k0)
  have h6 : P x5 := by unfold x5; exact (State.each_inv (c.mono rfl) h4 (fun _ _ h7 => (ite_p (fun _ => (State.queueEvent_inv (c.mono rfl) h7)) (fun _ => h7))))
  clear_value x1 x2 x3 x5
  exact (State.each_inv (c.mono rfl) h6 (fun _ _ h8 => (ite_p (fun _ => (State.queueEvent_inv (c.mono rfl) h8)) (fun _ => h8))))
theorem writeSpan_inv (c : Clo 0x1e020000071000000000000000000000000000000000000000000000000000006a2 P) {v0} {v1} {v2} {v3} (k1 : P v1) : P (writeSpan v0 v1 v2 v3) := by
  induction v0 generalizing v1 k1 v2 v3 with
  | zero =>
    rw [writeSpan]
    exact k1
  | succ n ih =>
    rw [writeSpan]
    refine ite_p (fun _ => k1) (fun _ => ?_)
    extract_lets +onlyGivenNames -merge x1
    clear_value x1
    exact (by apply ih; exact (fst_p (State.writeWord_inv (c.mono rfl) k1)))
theorem State.writeRun_inv (c : Clo 0x1e020000071000000000000000000000000000000000000000000000000000006a2 P) {v0} {v1} {v2} (k0 : P v0) : P (State.writeRun v0 v1 v2) := by
  unfold State.writeRun
  exact (writeSpan_inv (c.mono rfl) k0)
theorem State.deliver_inv (c : Clo 0x2018 P) {v0} {v1} {v2} {v3} (k0 : P v0) : P (State.deliver v0 v1 v2 v3) := by
  unfold State.deliver
  split
  ·
    rename_i y1 y2 y3 y4 y5
    refine ite_p (fun _ => ?_) (fun _ => (ite_p (fun _ => (ite_p (fun _ => (State.updMail_inv (c.mono rfl) k0)) (fun _ => (State.updMail_inv (c.mono rfl) k0)))) (fun _ => (ite_p (fun _ => (State.inject_inv (c.mono rfl) k0)) (fun _ => (ite_p (fun _ => (c.updLink rfl _ _ k0)) (fun _ => (State.postSpan_inv (c.mono rfl) (State.postSpan_inv (c.mono rfl) k0)))))))))
    extract_lets +onlyGivenNames -merge x6
    have h7 : P x6 := by unfold x6; exact (State.updMail_inv (c.mono rfl) k0)
    clear_value x6
    exact (ite_p (fun _ => (State.updMail_inv (c.mono rfl) h7)) (fun _ => h7))
theorem State.respond_inv (c : Clo 0x2018 P) {v0} {v1} {v2} {v3} (k0 : P v0) : P (State.respond v0 v1 v2 v3) := by
  unfold State.respond
  extract_lets +onlyGivenNames -merge x1 x2 x3 x4 x5
  have h6 : P x5 := by unfold x5; exact (ite_p (fun _ => k0) (fun _ => (State.updMail_inv (c.mono rfl) k0)))
  clear_value x1 x2 x3 x5
  exact (ite_p (fun _ => (State.updMail_inv (c.mono rfl) h6)) (fun _ => (State.deliver_inv (c.mono rfl) h6)))
theorem State.endLinkCmds_inv (c : Clo 0x2018 P) {v0} {v1} {v2} {v3} {v4} (k0 : P v0) : P (State.endLinkCmds v0 v1 v2 v3 v4) := by
  unfold State.endLinkCmds
  extract_lets +onlyGivenNames -merge x1
  clear_value x1
  exact (State.each_inv (c.mono rfl) (c.updLink rfl _ _ k0) (fun _ _ h2 => (State.respond_inv (c.mono rfl) h2)))
theorem State.respondTo_inv (c : Clo 0x2018 P) {v0} {v1} {v2} {v3} (k0 : P v0) : P (State.respondTo v0 v1 v2 v3) := by
  unfold State.respondTo
  split
  ·
    rename_i y1 y2
    exact (State.respond_inv (c.mono rfl) k0)
  ·
    rename_i y3
    exact k0
theorem State.flushHeld_inv (c : Clo 0x8 P) {v0} {v1} (k0 : P v0) : P (State.flushHeld v0 v1) := by
  unfold State.flushHeld
  extract_lets +onlyGivenNames -merge x1 x2
  have h3 : P x2 := by unfold x2; exact (State.updMail_inv (c.mono rfl) k0)
  clear_value x1 x2
  exact (State.updMail_inv (c.mono rfl) h3)
theorem State.sidesStart_inv (c : Clo 0x8 P) {v0} (k0 : P v0) : P (State.sidesStart v0) := by
  unfold State.sidesStart
  exact (ite_p (fun _ => (State.each_inv (c.mono rfl) k0 (fun _ _ h1 => (State.flushHeld_inv (c.mono rfl) h1)))) (fun _ => k0))
theorem State.committed_inv (c : Clo 0x8 P) {v0} {v1} (k0 : P v0) : P (State.committed v0 v1) := by
  unfold State.committed
  exact (State.updMail_inv (c.mono rfl) k0)
theorem State.setPlaneState_inv (c : Clo 0x40000000000000000000000000 P) {v0} {v1} {v2} {v3} (k0 : P v0) : P (State.setPlaneState v0 v1 v2 v3) := by
  unfold State.setPlaneState
  exact (c.setF (by repeat' (first | rfl | split | unfold gateReqFld | unfold gateStatFld | unfold planeFld)) k0)
theorem State.setLinkState_inv (c : Clo 0x1e02000000000000000040040000000000000000000000000000000000000000022 P) {v0} {v1} {v2} (k0 : P v0) : P (State.setLinkState v0 v1 v2) := by
  unfold State.setLinkState
  extract_lets +onlyGivenNames -merge x1 x2 x4
  have h3 : P x2 := by unfold x2; exact (ite_p (fun _ => (c.setF rfl k0)) (fun _ => (c.setF rfl k0)))
  clear_value x1 x2 x4
  exact (ite_p (fun _ => h3) (fun _ => (State.record_inv (c.mono rfl) h3)))

/-! ### SafeState -/

theorem State.scramble_inv (c : Clo 0x402 P) {v0} {v1} {v2} (k0 : P v0) : P (State.scramble v0 v1 v2) := by
  unfold State.scramble
  exact (c.drawn rfl  (State.putBytes_inv (c.mono rfl) k0))
theorem State.loadDone_inv (c : Clo 0x800000000000000000000002858 P) {v0} {v1} {v2} (k0 : P v0) : P (State.loadDone v0 v1 v2) := by
  unfold State.loadDone
  split
  ·
    rename_i y1 y2
    exact k0
  ·
    rename_i y3 y4 y5
    extract_lets +onlyGivenNames -merge x6 x8 x10 x12 x14
    have h7 : P x6 := by unfold x6; exact (c.setF rfl k0)
    have h9 : P x8 := by unfold x8; exact (c.setF rfl h7)
    have h11 : P x10 := by unfold x10; exact (c.setF rfl h9)
    have h13 : P x12 := by unfold x12; exact (c.updRoom rfl _ _ h11)
    have h15 : P x14 := by unfold x14; exact (ite_p (fun _ => (State.updSched_inv (c.mono rfl) h13)) (fun _ => h13))
    clear_value x6 x8 x10 x12 x14
    exact (State.respondTo_inv (c.mono rfl) h15)
theorem State.emptyPlane_inv (c : Clo 0x1c040000000000000000000000000 P) {v0} {v1} {v2} (k0 : P v0) : P (State.emptyPlane v0 v1 v2) := by
  unfold State.emptyPlane
  extract_lets +onlyGivenNames -merge x1 x3 x5
  have h2 : P x1 := by unfold x1; exact (State.setPlaneState_inv (c.mono rfl) k0)
  have h4 : P x3 := by unfold x3; exact (c.setF rfl h2)
  have h6 : P x5 := by unfold x5; exact (c.setF rfl h4)
  clear_value x1 x3 x5
  exact (c.setF rfl h6)
theorem State.dropHeld_inv (c : Clo 0x140000000000000000000002058 P) {v0} {v1} (k0 : P v0) : P (State.dropHeld v0 v1) := by
  unfold State.dropHeld
  extract_lets +onlyGivenNames -merge x1 x3 x5
  have h2 : P x1 := by unfold x1; exact (c.setF rfl k0)
  have h4 : P x3 := by unfold x3; exact (c.setF rfl h2)
  clear_value x1 x3 x5
  exact (State.respondTo_inv (c.mono rfl) (c.updRoom rfl _ _ h4))
theorem State.abandonLoad_inv (c : Clo 0x1c940000000000000000000002c5a P) {v0} {v1} (k0 : P v0) : P (State.abandonLoad v0 v1) := by
  unfold State.abandonLoad
  split
  ·
    rename_i y1 y2
    exact k0
  ·
    rename_i y3 y4 y5
    extract_lets +onlyGivenNames -merge x6 x8
    have h7 : P x6 := by unfold x6; exact (ite_p (fun _ => (State.scramble_inv (c.mono rfl) (State.setPlaneState_inv (c.mono rfl) k0))) (fun _ => (State.emptyPlane_inv (c.mono rfl) k0)))
    have h9 : P x8 := by unfold x8; exact (ite_p (fun _ => (State.dropHeld_inv (c.mono rfl) h7)) (fun _ => h7))
    clear_value x6 x8
    exact (State.loadDone_inv (c.mono rfl) h9)
theorem State.abandonWindow_inv (c : Clo 0x200000000000000000000080 P) {v0} {v1} (k0 : P v0) : P (State.abandonWindow v0 v1) := by
  unfold State.abandonWindow
  refine ite_p (fun _ => ?_) (fun _ => k0)
  extract_lets +onlyGivenNames -merge x1
  clear_value x1
  exact (c.setF rfl (c.updStair rfl _ _ k0))
theorem State.endSlice_inv (c : Clo 0x1e030040071000000000000000000000000000000000000000000000000000007a2 P) {v0} {v1} (k0 : P v0) : P (State.endSlice v0 v1) := by
  unfold State.endSlice
  split
  ·
    rename_i y1 y2
    exact k0
  ·
    rename_i y3 y4 y5
    extract_lets +onlyGivenNames -merge x6 x8 x25 x27 x28
    have h7 : P x6 := by unfold x6; exact (c.updStair rfl _ _ k0)
    have h9 : P x8 := by
      unfold x8
      refine ite_p (fun _ => h7) (fun _ => ?_)
      refine State.each_inv (c.mono rfl) h7 ?_
      intro a16 a17 h15
      split
      ·
        rename_i y18 y19 y20 y21 y22
        have q24 := congr_p (Q := (SndP (SndP P))) y22 (by
            exact (State.rowRead_inv (c.mono rfl) h15)
          )
        have h23 : P y21 := q24
        exact (State.rowWrite_inv (c.mono rfl) h23)
    have h26 : P x25 := by unfold x25; exact (ite_p (fun _ => h9) (fun _ => (State.hazard_inv (c.mono rfl) (c.updBank rfl _ _ h9))))
    have h29 : P x28 := by unfold x28; exact (c.setF rfl h26)
    clear_value x6 x8 x25 x27 x28
    exact (c.setF rfl h29)
theorem State.restoreSlice_inv (c : Clo 0x1e030440071000000000000000000000000000000000000000000000000000007a2 P) {v0} {v1} (k0 : P v0) : P (State.restoreSlice v0 v1) := by
  unfold State.restoreSlice
  exact (ite_p (fun _ => (c.inc rfl (State.endSlice_inv (c.mono rfl) k0))) (fun _ => k0))
theorem State.retain_inv (c : Clo 0x1000000000000000002118 P) {v0} {v1} {v2} (k0 : P v0) : P (State.retain v0 v1 v2) := by
  unfold State.retain
  refine ite_p (fun _ => k0) (fun _ => ?_)
  extract_lets +onlyGivenNames -merge x1 x2 x4
  have h3 : P x2 := by unfold x2; exact (c.updBank rfl _ _ k0)
  have h5 : P x4 := by unfold x4; exact (State.each_inv (c.mono rfl) h3 (fun _ _ h6 => (State.respond_inv (c.mono rfl) h6)))
  clear_value x1 x2 x4
  exact (c.setF rfl (ite_p (fun _ => h5) (fun _ => (c.setF rfl h5))))
theorem State.endEngCmds_inv (c : Clo 0x3018 P) {v0} {v1} {v2} (k0 : P v0) : P (State.endEngCmds v0 v1 v2) := by
  unfold State.endEngCmds
  extract_lets +onlyGivenNames -merge x1 x2
  clear_value x1 x2
  exact (State.each_inv (c.mono rfl) (c.updEng rfl _ _ k0) (fun _ _ h3 => (State.respond_inv (c.mono rfl) h3)))
theorem State.clearEngine_inv (c : Clo 0x413000000000000000000000000000000000003018 P) {v0} {v1} {v2} (k0 : P v0) : P (State.clearEngine v0 v1 v2) := by
  unfold State.clearEngine
  extract_lets +onlyGivenNames -merge x1 x3 x5 x7 x9 x11 x13
  have h2 : P x1 := by unfold x1; exact (c.updEng rfl _ _ k0)
  have h4 : P x3 := by unfold x3; exact (c.setF rfl h2)
  have h6 : P x5 := by unfold x5; exact (c.setF rfl h4)
  have h8 : P x7 := by unfold x7; exact (c.setF rfl h6)
  have h10 : P x9 := by unfold x9; exact (c.setF rfl h8)
  have h12 : P x11 := by unfold x11; exact (c.setF rfl (c.setF rfl h10))
  have h14 : P x13 := by unfold x13; exact (c.setF rfl h12)
  clear_value x1 x3 x5 x7 x9 x11 x13
  exact (State.endEngCmds_inv (c.mono rfl) h14)
theorem State.stopEngine_inv (c : Clo 0x413000000000000000000000000000000000003018 P) {v0} {v1} (k0 : P v0) : P (State.stopEngine v0 v1) := by
  unfold State.stopEngine
  exact (ite_p (fun _ => (c.setF rfl k0)) (fun _ => (State.clearEngine_inv (c.mono rfl) k0)))
theorem State.stopAtEdge_inv (c : Clo 0x40 P) {v0} {v1} {v2} (k0 : P v0) : P (State.stopAtEdge v0 v1 v2) := by
  unfold State.stopAtEdge
  exact (c.updRoom rfl _ _ k0)
theorem State.failCommit_inv (c : Clo 0x200000000000000000000000000000000000000000001008000000000000a85c P) {v0} {v1} (k0 : P v0) : P (State.failCommit v0 v1) := by
  unfold State.failCommit
  split
  ·
    rename_i y1 y2
    exact k0
  ·
    rename_i y3 y4 y5
    extract_lets +onlyGivenNames -merge x6 x8 x10 x12 x14 x16 x18 x21 x23
    have h7 : P x6 := by unfold x6; exact (c.staged rfl _ k0)
    have h9 : P x8 := by unfold x8; exact (c.snapshot rfl _ h7)
    have h11 : P x10 := by unfold x10; exact (c.commit rfl _ h9)
    have h13 : P x12 := by unfold x12; exact (c.setF rfl h11)
    have h15 : P x14 := by unfold x14; exact (c.setF rfl h13)
    have h17 : P x16 := by unfold x16; exact (State.updSched_inv (c.mono rfl) (c.setF rfl h15))
    have h19 : P x18 := by unfold x18; exact (ite_p (fun _ => (State.each_inv (c.mono rfl) h17 (fun _ _ h20 => (ite_p (fun _ => (State.stopAtEdge_inv (c.mono rfl) h20)) (fun _ => h20))))) (fun _ => h17))
    have h22 : P x21 := by unfold x21; exact (ite_p (fun _ => (State.updBoot_inv (c.mono rfl) h19)) (fun _ => h19))
    have h24 : P x23 := by unfold x23; exact (ite_p (fun _ => (c.enumer rfl _ h22)) (fun _ => (ite_p (fun _ => (c.setF rfl h22)) (fun _ => h22))))
    clear_value x6 x8 x10 x12 x14 x16 x18 x21 x23
    exact (State.respondTo_inv (c.mono rfl) h24)
theorem State.landBytes_inv (c : Clo 0x1e020000071000000000000000000000000000000000000000000000000000007a2 P) {v0} {v1} {v2} {v3} (k3 : P v3) : P (State.landBytes v0 v1 v2 v3) := by
  induction v0 generalizing v1 v2 v3 k3 with
  | zero =>
    rw [State.landBytes]
    exact k3
  | succ n ih =>
    rw [State.landBytes]
    refine ite_p (fun _ => k3) (fun _ => ?_)
    extract_lets +onlyGivenNames -merge x1 x2 x3
    have h4 : P x3 := by unfold x3; exact (ite_p (fun _ => (c.updBank rfl _ _ k3)) (fun _ => (fst_p (State.writeWord_inv (c.mono rfl) k3))))
    clear_value x1 x2 x3
    exact (by apply ih; exact h4)
theorem State.ringWrite_inv (c : Clo 0x1e020000071000000000000000000000000000000000000000000000000000007b2 P) {v0} {v1} {v2} {v3} (k0 : P v0) : P (State.ringWrite v0 v1 v2 v3) := by
  unfold State.ringWrite
  exact (ite_p (fun _ => (State.landBytes_inv (c.mono rfl) k0)) (fun _ => (State.postSpan_inv (c.mono rfl) k0)))
theorem State.ringLand_inv (c : Clo 0x1e020000071000000000000000000000000000000000000000000000000000007b2 P) {v0} (k0 : P v0) : P (State.ringLand v0) := by
  unfold State.ringLand
  extract_lets +onlyGivenNames -merge x1 x2 x3 x5
  have h4 : P x3 := by unfold x3; exact (State.setPosts_inv (c.mono rfl) k0)
  have h6 : P x5 := by unfold x5; exact (State.updNet_inv (c.mono rfl) h4)
  clear_value x1 x2 x3 x5
  exact (State.each_inv (c.mono rfl) h6 (fun _ _ h7 => (State.landBytes_inv (c.mono rfl) h7)))
theorem State.putRing_inv (c : Clo 0x1f020000071000000000000000000000000000000000000000000000000000007b2 P) {v0} {v1} {v2} (k1 : P v1) : P (State.putRing v0 v1 v2) := by
  unfold State.putRing
  extract_lets +onlyGivenNames -merge x1 x2
  clear_value x1
  refine ite_p (fun _ => k1) (fun _ => ?_)
  refine ite_p (fun _ => (c.setF rfl k1)) (fun _ => ?_)
  extract_lets +onlyGivenNames -merge x3 x5 x6 x8
  have h4 : P x3 := by unfold x3; exact (ite_p (fun _ => k1) (fun _ => (c.setF rfl k1)))
  have h7 : P x6 := by unfold x6; exact (State.ringWrite_inv (c.mono rfl) h4)
  have h9 : P x8 := by unfold x8; exact (c.inc rfl h7)
  clear_value x3 x5 x6 x8
  exact (State.updRp_inv (c.mono rfl) h9)
theorem State.flushRing_inv (c : Clo 0x1f020000071000000000000000000000000000000000000000000000000000007b2 P) {v0} {v1} (k0 : P v0) : P (State.flushRing v0 v1) := by
  unfold State.flushRing
  extract_lets +onlyGivenNames -merge x1
  clear_value x1
  exact (State.each_inv (c.mono rfl) (State.updRp_inv (c.mono rfl) k0) (fun _ _ h2 => (State.putRing_inv (c.mono rfl) h2)))
theorem State.ringTrailer_inv (c : Clo 0x1e020000071000000000000000000000000000000000000000000000000000007b2 P) {v0} {v1} (k0 : P v0) : P (State.ringTrailer v0 v1) := by
  unfold State.ringTrailer
  extract_lets +onlyGivenNames -merge x1 x2 x3 x5
  have h4 : P x3 := by unfold x3; exact (State.ringWrite_inv (c.mono rfl) k0)
  have h6 : P x5 := by unfold x5; exact (State.ringWrite_inv (c.mono rfl) h4)
  clear_value x1 x2 x3 x5
  exact (State.ringWrite_inv (c.mono rfl) h6)
theorem State.endRecording_inv (c : Clo 0x1f020000071000000000000000000000000000000000000000000000000000007b2 P) {v0} {v1} {v2} {v3} (k0 : P v0) : P (State.endRecording v0 v1 v2 v3) := by
  unfold State.endRecording
  refine ite_p (fun _ => ?_) (fun _ => k0)
  extract_lets +onlyGivenNames -merge x1
  have h2 : P x1 := by unfold x1; exact (ite_p (fun _ => (State.ringLand_inv (c.mono rfl) k0)) (fun _ => k0))
  clear_value x1
  exact (c.setF rfl (State.ringTrailer_inv (c.mono rfl) (State.flushRing_inv (c.mono rfl) (State.pushRec_inv (c.mono rfl) (State.stampNow_inv (c.mono rfl) h2)))))
theorem State.safeRecord_inv (c : Clo 0x39f020000071000000000000000000000000000000000000000000000000000007b2 P) {v0} {v1} (k0 : P v0) : P (State.safeRecord v0 v1) := by
  unfold State.safeRecord
  extract_lets +onlyGivenNames -merge x1 x3 x5 x7 x9
  have h2 : P x1 := by unfold x1; exact (ite_p (fun _ => (c.setF rfl k0)) (fun _ => k0))
  have h4 : P x3 := by unfold x3; exact (State.endRecording_inv (c.mono rfl) h2)
  have h6 : P x5 := by unfold x5; exact (c.setF rfl h4)
  have h8 : P x7 := by unfold x7; exact (c.setF rfl h6)
  have h10 : P x9 := by unfold x9; exact (c.setF rfl h8)
  clear_value x1 x3 x5 x7 x9
  exact (c.setF rfl h10)
theorem State.edgeOver_inv (c : Clo 0x140000000000000000000000040 P) {v0} {v1} (k0 : P v0) : P (State.edgeOver v0 v1) := by
  unfold State.edgeOver
  extract_lets +onlyGivenNames -merge x1
  clear_value x1
  refine ite_p (fun _ => k0) (fun _ => ?_)
  extract_lets +onlyGivenNames -merge x2
  have h3 : P x2 := by
    unfold x2
    split
    ·
      rename_i y4 y5 y6 y7
      exact (c.setF rfl (c.setF rfl k0))
    ·
      rename_i y8 y9
      exact k0
  clear_value x2
  exact (c.updRoom rfl _ _ (c.setF rfl h3))
theorem State.lanesOff_inv (c : Clo 0x400000000000000000000000000000000000000000000000000 P) {v0} {v1} (k0 : P v0) : P (State.lanesOff v0 v1) := by
  unfold State.lanesOff
  exact (ite_p (fun _ => k0) (fun _ => (State.each_inv (c.mono rfl) k0 (fun _ _ h1 => (c.setF rfl (c.setF rfl h1))))))
theorem State.stopUnits_inv (c : Clo 0x1e0304400710000040004004041300000000021c940201000000000000000003ffa P) {v0} (k0 : P v0) : P (State.stopUnits v0) := by
  unfold State.stopUnits
  extract_lets +onlyGivenNames -merge x1 x4 x7 x10 x13 x16 x19 x29 x32
  have h2 : P x1 := by unfold x1; exact (State.each_inv (c.mono rfl) k0 (fun _ _ h3 => (State.abandonLoad_inv (c.mono rfl) h3)))
  have h5 : P x4 := by unfold x4; exact (State.each_inv (c.mono rfl) h2 (fun _ _ h6 => (State.abandonWindow_inv (c.mono rfl) h6)))
  have h8 : P x7 := by unfold x7; exact (State.each_inv (c.mono rfl) h5 (fun _ _ h9 => (State.restoreSlice_inv (c.mono rfl) h9)))
  have h11 : P x10 := by unfold x10; exact (State.each_inv (c.mono rfl) h8 (fun _ _ h12 => (ite_p (fun _ => (State.stopAtEdge_inv (c.mono rfl) h12)) (fun _ => (ite_p (fun _ => (c.setF rfl h12)) (fun _ => h12))))))
  have h14 : P x13 := by unfold x13; exact (State.each_inv (c.mono rfl) h11 (fun _ _ h15 => (State.retain_inv (c.mono rfl) h15)))
  have h17 : P x16 := by unfold x16; exact (State.each_inv (c.mono rfl) h14 (fun _ _ h18 => (State.stopEngine_inv (c.mono rfl) h18)))
  have h20 : P x19 := by
    unfold x19
    refine State.each_inv (c.mono rfl) h17 ?_
    intro a25 a26 h24
    extract_lets +onlyGivenNames -merge x27
    have h28 : P x27 := by unfold x27; exact (ite_p (fun _ => h24) (fun _ => (State.endLinkCmds_inv (c.mono rfl) (State.setLinkState_inv (c.mono rfl) h24))))
    clear_value x27
    exact (ite_p (fun _ => (c.setF rfl h28)) (fun _ => (State.lanesOff_inv (c.mono rfl) (c.setF rfl (c.setF rfl (c.setF rfl h28))))))
  have h30 : P x29 := by unfold x29; exact (State.each_inv (c.mono rfl) h20 (fun _ _ h31 => (c.updLink rfl _ _ h31)))
  have h33 : P x32 := by unfold x32; exact (c.setF rfl h30)
  clear_value x1 x4 x7 x10 x13 x16 x19 x29 x32
  exact (c.setF rfl h33)
theorem State.enterSafe_inv (c : Clo 0x39f0304400710000040004004041300000000021c94020101008400000004000bffe P) {v0} {v1} {v2} {v3} (k0 : P v0) : P (State.enterSafe v0 v1 v2 v3) := by
  unfold State.enterSafe
  refine ite_p (fun _ => k0) (fun _ => ?_)
  refine ite_p (fun _ => (State.updBoot_inv (c.mono rfl) k0)) (fun _ => ?_)
  extract_lets +onlyGivenNames -merge x1 x3 x4 x6 x8 x10 x12 x14
  have h2 : P x1 := by unfold x1; exact (State.failCommit_inv (c.mono rfl) k0)
  have h5 : P x4 := by unfold x4; exact (State.respondTo_inv (c.mono rfl) (State.updBoot_inv (c.mono rfl) h2))
  have h7 : P x6 := by unfold x6; exact (c.setF rfl h5)
  have h9 : P x8 := by unfold x8; exact (c.setF rfl h7)
  have h11 : P x10 := by unfold x10; exact (State.updBoot_inv (c.mono rfl) h9)
  have h13 : P x12 := by unfold x12; exact (State.stopUnits_inv (c.mono rfl) h11)
  have h15 : P x14 := by unfold x14; exact (State.safeRecord_inv (c.mono rfl) h13)
  clear_value x1 x3 x4 x6 x8 x10 x12 x14
  exact (State.event_inv (c.mono rfl) h15)
theorem State.booksFault_inv (c : Clo 0x39f0304400710000040004004041300000000021c94020101c08400000004000bffe P) {v0} {v1} {v2} {v3} {v4} (k0 : P v0) : P (State.booksFault v0 v1 v2 v3 v4) := by
  unfold State.booksFault
  extract_lets +onlyGivenNames -merge x1 x3 x5
  have h2 : P x1 := by unfold x1; exact (c.setF rfl k0)
  have h4 : P x3 := by unfold x3; exact (c.setF rfl h2)
  have h6 : P x5 := by unfold x5; exact (ite_p (fun _ => k0) (fun _ => (c.setF rfl (c.setF rfl h4))))
  clear_value x1 x3 x5
  exact (State.enterSafe_inv (c.mono rfl) h6)

/-! ### Corridor -/

theorem State.updBook_inv (c : Clo 0x10 P) {v0} {v1} {v2} (k0 : P v0) : P (State.updBook v0 v1 v2) := by
  unfold State.updBook
  exact (State.updNet_inv (c.mono rfl) k0)
theorem State.setBuf_inv (c : Clo 0x10 P) {v0} {v1} {v2} (k0 : P v0) : P (State.setBuf v0 v1 v2) := by
  unfold State.setBuf
  exact (State.updNet_inv (c.mono rfl) k0)
theorem State.sendOn_inv (c : Clo 0x10 P) {v0} {v1} {v2} (k0 : P v0) : P (State.sendOn v0 v1 v2) := by
  unfold State.sendOn
  exact (State.setBuf_inv (c.mono rfl) (State.updBook_inv (c.mono rfl) k0))
theorem State.releaseOn_inv (c : Clo 0x10 P) {v0} {v1} {v2} (k0 : P v0) : P (State.releaseOn v0 v1 v2) := by
  unfold State.releaseOn
  exact (State.updBook_inv (c.mono rfl) k0)
theorem State.routerRefuse_inv (c : Clo 0xf88000000000000000000000000000000000000000000000000000000000000000000018 P) {v0} {v1} {v2} {v3} (k0 : P v0) : P (State.routerRefuse v0 v1 v2 v3) := by
  unfold State.routerRefuse
  exact (ite_p (fun _ => (State.refuse_inv (c.mono rfl) k0)) (fun _ => (c.setF rfl (c.inc rfl k0))))
theorem State.countTokens_inv (c : Clo 0x800 P) {v0} {v1} {v2} (k0 : P v0) : P (State.countTokens v0 v1 v2) := by
  unfold State.countTokens
  refine ite_p (fun _ => ?_) (fun _ => k0)
  extract_lets +onlyGivenNames -merge x1
  clear_value x1
  exact (State.updSched_inv (c.mono rfl) k0)
theorem State.linkConsumed_inv (c : Clo 0x2000 P) {v0} {v1} {v2} {v3} {v4} (k0 : P v0) : P (State.linkConsumed v0 v1 v2 v3 v4) := by
  unfold State.linkConsumed
  exact (c.updLink rfl _ _ k0)
theorem State.linkLeft_inv (c : Clo 0x2000 P) {v0} {v1} {v2} {v3} (k0 : P v0) : P (State.linkLeft v0 v1 v2 v3) := by
  unfold State.linkLeft
  exact (ite_p (fun _ => (c.updLink rfl _ _ k0)) (fun _ => (State.linkConsumed_inv (c.mono rfl) k0)))
theorem State.leftAttachment_inv (c : Clo 0x1e02000000000000000000000000000000000000000000000000000000000002022 P) {v0} {v1} {v2} (k0 : P v0) : P (State.leftAttachment v0 v1 v2) := by
  unfold State.leftAttachment
  refine ite_p (fun _ => ?_) (fun _ => k0)
  extract_lets +onlyGivenNames -merge x1
  have h2 : P x1 := by unfold x1; exact (State.linkLeft_inv (c.mono rfl) k0)
  clear_value x1
  exact (ite_p (fun _ => (State.record_inv (c.mono rfl) h2)) (fun _ => h2))
theorem State.cross_inv (c : Clo 0x1008039f0304400710000040004004041300000000021c94020101008400000004000bffe P) {v0} {v1} {v2} {v3} (k0 : P v0) : P (State.cross v0 v1 v2 v3) := by
  unfold State.cross
  extract_lets +onlyGivenNames -merge x1
  have h2 : P x1 := by unfold x1; exact (ite_p (fun _ => k0) (fun _ => (c.inc rfl k0)))
  clear_value x1
  exact (ite_p (fun _ => (State.enterSafe_inv (c.mono rfl) (c.setF rfl h2))) (fun _ => (State.sendOn_inv (c.mono rfl) h2)))
theorem State.countMalformed_inv (c : Clo 0x808000000000000000000000000000000000000000000000000000000000000000000000 P) {v0} (k0 : P v0) : P (State.countMalformed v0) := by
  unfold State.countMalformed
  exact (c.setF rfl (c.inc rfl k0))
theorem State.pumpVc_inv (c : Clo 0x1f88039f0304400710000040004004041300000000021c94020101008400000004000bffe P) {v0} {v1} {v2} {v3} {v4} (k0 : P v0) : (OptP P) (State.pumpVc v0 v1 v2 v3 v4) := by
  unfold State.pumpVc
  split
  ·
    rename_i y1 y2
    exact none_p
  ·
    rename_i y3 y4 y5 y6
    extract_lets +onlyGivenNames -merge x7
    have h8 : ∀ a0, P a0 → P (x7 a0) := by
      intro a10 h9
      unfold x7
      beta_reduce
      exact (State.leftAttachment_inv (c.mono rfl) (State.updNet_inv (c.mono rfl) h9))
    clear_value x7
    refine ite_p (fun _ => (mk_some (State.countMalformed_inv (c.mono rfl) (h8 _ k0)))) (fun _ => ?_)
    split
    ·
      rename_i y11 y12 y13
      exact (mk_some (State.routerRefuse_inv (c.mono rfl) (h8 _ k0)))
    ·
      rename_i y14 y15 y16 y17
      extract_lets +onlyGivenNames -merge x18 x19 x20 x21 x22
      clear_value x18 x19 x20 x21 x22
      exact (ite_p (fun _ => (mk_some (State.cross_inv (c.mono rfl) (State.countTokens_inv (c.mono rfl) (h8 _ k0))))) (fun _ => none_p))
theorem State.pump1_inv (c : Clo 0x1f88039f0304400710000040004004041300000000021c94020101008400000004000bffe P) {v0} {v1} (k0 : P v0) : P (State.pump1 v0 v1) := by
  unfold State.pump1
  exact (State.each_inv (c.mono rfl) k0 (fun _ _ h1 => (getD_p (State.pumpVc_inv (c.mono rfl) h1) h1)))
theorem State.pumpRouter_inv (c : Clo 0x1f88039f0304400710000040004004041300000000021c94020101008400000004000bffe P) {v0} {v1} (k0 : P v0) : P (State.pumpRouter v0 v1) := by
  unfold State.pumpRouter
  exact (State.each_inv (c.mono rfl) k0 (fun _ _ h1 => (State.pump1_inv (c.mono rfl) h1)))
theorem State.injectOn_inv (c : Clo 0x1f88039f0304400710000040004004041300000000021c94020101008400000004000bffe P) {v0} {v1} {v2} {v3} (k0 : P v0) : P (State.injectOn v0 v1 v2 v3) := by
  unfold State.injectOn
  exact (getD_p (findSome_p (fun _ => (State.pumpVc_inv (c.mono rfl) k0))) k0)
theorem State.dropMalformed_inv (c : Clo 0x808000000000000000000000000000000000000000000000000000000000000000000010 P) {v0} {v1} (k0 : P v0) : P (State.dropMalformed v0 v1) := by
  unfold State.dropMalformed
  refine State.each_inv (c.mono rfl) k0 ?_
  intro a4 a5 h3
  extract_lets +onlyGivenNames -merge x6
  clear_value x6
  split
  ·
    rename_i y7 y8 y9 y10
    exact (ite_p (fun _ => (State.countMalformed_inv (c.mono rfl) (State.releaseOn_inv (c.mono rfl) (State.setBuf_inv (c.mono rfl) h3)))) (fun _ => h3))
  ·
    rename_i y11 y12
    exact h3
theorem State.sinkHeads_inv (c : Clo 0x788000000000000000000000000000000000000000000000000000000000000000000018 P) {v0} {v1} (k0 : P v0) : P (State.sinkHeads v0 v1) := by
  unfold State.sinkHeads
  refine State.each_inv (c.mono rfl) k0 ?_
  intro a4 a5 h3
  extract_lets +onlyGivenNames -merge x6
  clear_value x6
  split
  ·
    rename_i y7 y8 y9 y10
    split
    ·
      rename_i y11 y12 y13 y14 y15
      refine ite_p (fun _ => h3) (fun _ => ?_)
      extract_lets +onlyGivenNames -merge x16
      have h17 : P x16 := by unfold x16; exact (State.releaseOn_inv (c.mono rfl) (State.setBuf_inv (c.mono rfl) h3))
      clear_value x16
      exact (ite_p (fun _ => (State.refuse_inv (c.mono rfl) h17)) (fun _ => h17))
    ·
      rename_i y18 y19
      exact h3
  ·
    rename_i y20 y21
    exact h3
theorem State.forward_inv (c : Clo 0x1f88039f0304400710000040004004041300000000021c94020101008400000004000bffe P) {v0} {v1} {v2} {v3} (k0 : P v0) : P (State.forward v0 v1 v2 v3) := by
  unfold State.forward
  extract_lets +onlyGivenNames -merge x1 x3 x4
  have h2 : P x1 := by unfold x1; exact (State.sinkHeads_inv (c.mono rfl) (State.dropMalformed_inv (c.mono rfl) (State.pumpRouter_inv (c.mono rfl) k0)))
  clear_value x1 x3 x4
  split
  ·
    rename_i y5 y6
    exact h2
  ·
    rename_i y7 y8 y9 y10 y11 y12
    extract_lets +onlyGivenNames -merge x13
    clear_value x13
    split
    ·
      rename_i y14 y15
      exact h2
    ·
      rename_i y16 y17 y18 y19
      extract_lets +onlyGivenNames -merge x20 x21
      have h22 : P x21 := by unfold x21; exact (State.updNet_inv (c.mono rfl) h2)
      clear_value x20 x21
      exact (State.cross_inv (c.mono rfl) (State.releaseOn_inv (c.mono rfl) (State.setBuf_inv (c.mono rfl) h22)))
theorem State.takeOn_inv (c : Clo 0x10 P) {v0} {v1} {v2} {v3} (k0 : P v0) : (OptP (SndP P)) (State.takeOn v0 v1 v2 v3) := by
  unfold State.takeOn
  refine findSome_p ?_
  intro a1
  split
  ·
    rename_i y2 y3 y4 y5
    exact (ite_p (fun _ => (mk_some (mk_snd (State.releaseOn_inv (c.mono rfl) (State.setBuf_inv (c.mono rfl) k0))))) (fun _ => none_p))
  ·
    rename_i y6 y7
    exact none_p
theorem State.take_inv (c : Clo 0x10 P) {v0} {v1} {v2} (k0 : P v0) : (OptP (SndP P)) (State.take v0 v1 v2) := by
  unfold State.take
  exact (State.takeOn_inv (c.mono rfl) k0)
theorem State.matchRsp_inv (c : Clo 0x2000000000000000000000000000000000000000000000000000000000000000000000010 P) {v0} {v1} {v2} (k0 : P v0) : (SndP P) (State.matchRsp v0 v1 v2) := by
  unfold State.matchRsp
  extract_lets +onlyGivenNames -merge x1
  clear_value x1
  split
  ·
    rename_i y2 y3
    exact (mk_snd k0)
  ·
    rename_i y4 y5 y6
    exact (ite_p (fun _ => (mk_snd (c.inc rfl k0))) (fun _ => (mk_snd (State.setOut_inv (c.mono rfl) k0))))
theorem State.postAnswered_inv (c : Clo 0x10 P) {v0} {v1} {v2} {v3} (k0 : P v0) : P (State.postAnswered v0 v1 v2 v3) := by
  unfold State.postAnswered
  extract_lets +onlyGivenNames -merge x1
  clear_value x1
  exact (State.pumpPosts_inv (c.mono rfl) (State.setPosts_inv (c.mono rfl) k0))
theorem State.creditReturn_inv (c : Clo 0x10 P) {v0} {v1} {v2} {v3} {v4} (k0 : P v0) : P (State.creditReturn v0 v1 v2 v3 v4) := by
  unfold State.creditReturn
  extract_lets +onlyGivenNames -merge x1 x2
  clear_value x1 x2
  exact (State.updBook_inv (c.mono rfl) k0)
theorem State.bookSnapshot_inv (c : Clo 0x3c000000000000000000000000000000000000000000000000000000000000000000000000 P) {v0} {v1} (k0 : P v0) : P (State.bookSnapshot v0 v1) := by
  unfold State.bookSnapshot
  extract_lets +onlyGivenNames -merge x1 x2 x4 x5 x6 x8 x10
  have h3 : P x2 := by unfold x2; exact (c.setF rfl k0)
  have h7 : P x6 := by unfold x6; exact (c.setF rfl h3)
  have h9 : P x8 := by unfold x8; exact (c.setF rfl h7)
  have h11 : P x10 := by unfold x10; exact (c.setF rfl h9)
  clear_value x1 x2 x4 x5 x6 x8 x10
  exact (c.setF rfl h11)
theorem execPacketForward_inv (c : Clo 0x1f88039f0304400710000040004004041300000000021c94020101008400000004000bffe P) {v0} {v1} {v2} {v3} (k3 : P v3) : (OutP P) (execPacketForward v0 v1 v2 v3) := by
  unfold execPacketForward
  exact (mk_next (ite_p (fun _ => (State.forward_inv (c.mono rfl) k3)) (fun _ => (State.injectOn_inv (c.mono rfl) k3))))
theorem execCreditReturn_inv (c : Clo 0x10 P) {v0} {v1} {v2} {v3} {v4} (k4 : P v4) : (OutP P) (execCreditReturn v0 v1 v2 v3 v4) := by
  unfold execCreditReturn
  exact (mk_next (State.creditReturn_inv (c.mono rfl) k4))
theorem execBerrArm_inv (c : Clo 0x8000000000000000000000000000000000000000000000000000000000000000000000 P) {v0} (k0 : P v0) : (OutP P) (execBerrArm v0) := by
  unfold execBerrArm
  exact (mk_next (c.setF rfl k0))
theorem execCoBookSnapshot_inv (c : Clo 0x3c000000000000000000000000000000000000000000000000000000000000000000000000 P) {v0} {v1} (k1 : P v1) : (OutP P) (execCoBookSnapshot v0 v1) := by
  unfold execCoBookSnapshot
  exact (mk_next (State.bookSnapshot_inv (c.mono rfl) k1))

/-! ### Store -/

theorem State.appendRecs_inv (c : Clo 0x50000 P) {v0} {v1} (k0 : P v0) : P (State.appendRecs v0 v1) := by
  unfold State.appendRecs
  refine foldl_p ?_ k0
  intro a4 a5 h3
  extract_lets +onlyGivenNames -merge x6
  clear_value x6
  exact (State.updJ_inv (c.mono rfl) (c.program rfl _ _ h3))
theorem State.compact_inv (c : Clo 0x50000 P) {v0} (k0 : P v0) : P (State.compact v0) := by
  unfold State.compact
  extract_lets +onlyGivenNames -merge x1 x2 x3 x5 x7 x9 x11
  have h4 : P x3 := by unfold x3; exact (c.eraseFlash rfl _ _ k0)
  have h6 : P x5 := by unfold x5; exact (State.updJ_inv (c.mono rfl) h4)
  have h8 : P x7 := by unfold x7; exact (State.appendRecs_inv (c.mono rfl) h6)
  have h10 : P x9 := by unfold x9; exact (c.program rfl _ _ h8)
  have h12 : P x11 := by unfold x11; exact (c.eraseFlash rfl _ _ h10)
  clear_value x1 x2 x3 x5 x7 x9 x11
  exact (State.updJ_inv (c.mono rfl) h12)
theorem State.journalBatch_inv (c : Clo 0x50000 P) {v0} {v1} (k0 : P v0) : P (State.journalBatch v0 v1) := by
  unfold State.journalBatch
  extract_lets +onlyGivenNames -merge x1
  clear_value x1
  refine ite_p (fun _ => (State.updJ_inv (c.mono rfl) k0)) (fun _ => ?_)
  refine ite_p (fun _ => k0) (fun _ => ?_)
  extract_lets +onlyGivenNames -merge x2
  have h3 : P x2 := by unfold x2; exact (c.journal rfl _ k0)
  clear_value x2
  exact (State.updJ_inv (c.mono rfl) (State.appendRecs_inv (c.mono rfl) h3))
theorem State.readJournal_inv (c : Clo 0x50000 P) {v0} (k0 : P v0) : P (State.readJournal v0) := by
  unfold State.readJournal
  extract_lets +onlyGivenNames -merge x1 x2 x3
  clear_value x1 x2 x3
  split
  ·
    rename_i y4
    exact (c.program rfl _ _ (c.journal rfl _ k0))
  ·
    rename_i y5 y6 y7
    extract_lets +onlyGivenNames -merge x8
    clear_value x8
    split
    ·
      rename_i y9 y10 y11 y12 y13
      extract_lets +onlyGivenNames -merge x14
      have h15 : P x14 := by unfold x14; exact (c.journal rfl _ k0)
      clear_value x14
      exact (ite_p (fun _ => h15) (fun _ => (State.compact_inv (c.mono rfl) h15)))

/-! ### Command -/

theorem State.answerNow_inv (c : Clo 0x2018 P) {v0} {v1} {v2} (k0 : P v0) : P (State.answerNow v0 v1 v2) := by
  unfold State.answerNow
  exact (ite_p (fun _ => k0) (fun _ => (ite_p (fun _ => (State.updMail_inv (c.mono rfl) k0)) (fun _ => (State.deliver_inv (c.mono rfl) k0)))))
theorem State.enter_inv (c : Clo 0x1e0200000000000000000000000000000000000000000000000800000000000002a P) {v0} {v1} {v2} {v3} (k0 : P v0) : P (State.enter v0 v1 v2 v3) := by
  unfold State.enter
  extract_lets +onlyGivenNames -merge x1 x3 x5
  have h2 : P x1 := by unfold x1; exact (c.incW rfl (State.updMail_inv (c.mono rfl) k0))
  have h4 : P x3 := by unfold x3; exact (ite_p (fun _ => h2) (fun _ => (State.recordSrc_inv (c.mono rfl) h2)))
  have h6 : P x5 := by unfold x5; exact (ite_p (fun _ => (State.hazard_inv (c.mono rfl) h4)) (fun _ => h4))
  clear_value x1 x3 x5
  exact (State.updMail_inv (c.mono rfl) h6)
theorem State.submit_inv (c : Clo 0x1e0200000000000000000000000000000000000000000000000820000000000203a P) {v0} {v1} {v2} {v3} {v4} {v5 : Sys2Proof.Machine.State → Sys2Proof.Machine.State} {v6} (k0 : P v0) (k5 : ∀ a0, P a0 → P (v5 a0)) : P (State.submit v0 v1 v2 v3 v4 v5 v6) := by
  unfold State.submit
  refine ite_p (fun _ => (State.updMail_inv (c.mono rfl) (c.setF rfl k0))) (fun _ => ?_)
  refine ite_p (fun _ => (State.updMail_inv (c.mono rfl) (State.answerNow_inv (c.mono rfl) k0))) (fun _ => ?_)
  refine ite_p (fun _ => (State.updMail_inv (c.mono rfl) (State.answerNow_inv (c.mono rfl) k0))) (fun _ => ?_)
  extract_lets +onlyGivenNames -merge x1
  have h2 : P x1 := by unfold x1; exact (State.enter_inv (c.mono rfl) k0)
  clear_value x1
  split
  ·
    rename_i y3 y4 y5
    exact (State.respond_inv (c.mono rfl) h2)
  ·
    rename_i y6 y7
    exact (k5 _ h2)
theorem State.uncommitted_inv (c : Clo 0x8 P) {v0} {v1} (k0 : P v0) : P (State.uncommitted v0 v1) := by
  unfold State.uncommitted
  exact (State.updMail_inv (c.mono rfl) k0)
theorem State.reply_inv (c : Clo 0x2018 P) {v0} {v1} {v2} (k0 : P v0) : P (State.reply v0 v1 v2) := by
  unfold State.reply
  exact (State.respond_inv (c.mono rfl) k0)
theorem State.replyData_inv (c : Clo 0x2018 P) {v0} {v1} {v2} (k0 : P v0) : P (State.replyData v0 v1 v2) := by
  unfold State.replyData
  exact (State.respond_inv (c.mono rfl) k0)
theorem State.checks_inv (c : Clo 0x2018 P) {v0} {v1} {v2} {v3 : Sys2Proof.Machine.State → Sys2Proof.Machine.State} (k0 : P v0) (k3 : ∀ a0, P a0 → P (v3 a0)) : P (State.checks v0 v1 v2 v3) := by
  unfold State.checks
  split
  ·
    rename_i y1 y2 y3 y4
    exact (State.reply_inv (c.mono rfl) k0)
  ·
    rename_i y5 y6
    exact (k3 _ k0)

/-! ### Stairs -/

theorem State.suspect_inv (c : Clo 0x1e020000000000000000000000000000000000000002000000000000000000000a2 P) {v0} {v1} {v2} (k0 : P v0) : P (State.suspect v0 v1 v2) := by
  unfold State.suspect
  split
  ·
    rename_i y1 y2 y3
    exact (ite_p (fun _ => k0) (fun _ => (c.updStair rfl _ _ k0)))
  ·
    rename_i y4 y5
    exact (State.hazard_inv (c.mono rfl) (c.setF rfl (c.updStair rfl _ _ k0)))
theorem State.crossing_inv (c : Clo 0x1e020000000000000000000000000000000000000012000000000000000000000a2 P) {v0} {v1} {v2} (k0 : P v0) : P (State.crossing v0 v1 v2) := by
  unfold State.crossing
  refine ite_p (fun _ => k0) (fun _ => ?_)
  refine ite_p (fun _ => (ite_p (fun _ => (State.suspect_inv (c.mono rfl) k0)) (fun _ => k0))) (fun _ => ?_)
  extract_lets +onlyGivenNames -merge x1 x2 x3 x4 x5
  have h6 : P x5 := by unfold x5; exact (c.inc rfl k0)
  clear_value x1 x2 x3 x4 x5
  exact (ite_p (fun _ => (State.suspect_inv (c.mono rfl) (c.updStair rfl _ _ h6))) (fun _ => (c.updStair rfl _ _ h6)))
theorem State.carry_inv (c : Clo 0x1e020000000000000000000000000000000000000012000000000000000000000a2 P) {v0} {v1} {v2} (k0 : P v0) : P (State.carry v0 v1 v2) := by
  unfold State.carry
  exact (State.each_inv (c.mono rfl) (c.updStair rfl _ _ k0) (fun _ _ h1 => (State.crossing_inv (c.mono rfl) h1)))
theorem State.stFault_inv (c : Clo 0x800000000000000000000000 P) {v0} {v1} {v2} {v3} {v4} {v5} (k0 : P v0) : P (State.stFault v0 v1 v2 v3 v4 v5) := by
  unfold State.stFault
  extract_lets +onlyGivenNames -merge x1 x3 x5
  have h2 : P x1 := by unfold x1; exact (c.setF rfl k0)
  have h4 : P x3 := by unfold x3; exact (c.setF rfl h2)
  have h6 : P x5 := by unfold x5; exact (c.setF rfl h4)
  clear_value x1 x3 x5
  exact (c.setF rfl (c.setF rfl h6))
theorem State.remap_inv (c : Clo 0x200000000000000000000080 P) {v0} {v1} {v2} {v3} {v4} (k0 : P v0) : P (State.remap v0 v1 v2 v3 v4) := by
  unfold State.remap
  extract_lets +onlyGivenNames -merge x1
  have h2 : P x1 := by unfold x1; exact (c.updStair rfl _ _ k0)
  clear_value x1
  exact (c.incW rfl h2)
theorem State.narrow_inv (c : Clo 0x120600000000000000000000000 P) {v0} {v1} {v2} {v3} (k0 : P v0) : P (State.narrow v0 v1 v2 v3) := by
  unfold State.narrow
  extract_lets +onlyGivenNames -merge x1 x3 x5 x7 x9
  have h2 : P x1 := by unfold x1; exact (c.setF rfl k0)
  have h4 : P x3 := by unfold x3; exact (c.setF rfl h2)
  have h6 : P x5 := by unfold x5; exact (c.setF rfl h4)
  have h8 : P x7 := by unfold x7; exact (c.setF rfl (c.setF rfl h6))
  have h10 : P x9 := by unfold x9; exact (c.setF rfl h8)
  clear_value x1 x3 x5 x7 x9
  exact (c.setF rfl h10)

/-! ### Loft -/

theorem State.bankRead_inv (c : Clo 0x1e020004031000000000000000000000000000000000000000000000000000002a2 P) {v0} {v1} {v2} {v3} (k0 : P v0) : (SndP (SndP P)) (State.bankRead v0 v1 v2 v3) := by
  unfold State.bankRead
  exact (ite_p (fun _ => (mk_snd (mk_snd (c.wr rfl k0)))) (fun _ => (State.readWord_inv (c.mono rfl) k0)))
theorem State.bankWrite_inv (c : Clo 0x1e020000071000000000000000000000000000000000000000000000000000006a2 P) {v0} {v1} {v2} {v3} {v4} {v5} {v6} (k0 : P v0) : (FstP P) (State.bankWrite v0 v1 v2 v3 v4 v5 v6) := by
  unfold State.bankWrite
  refine ite_p (fun _ => ?_) (fun _ => (State.writeWord_inv (c.mono rfl) k0))
  extract_lets +onlyGivenNames -merge x1 x2 x3
  clear_value x1 x2 x3
  exact (mk_fst (c.setSyn rfl _ _ (State.putBytes_inv (c.mono rfl) k0)))
theorem State.svcRespond_inv (c : Clo 0x10 P) {v0} {v1} {v2} (k0 : P v0) : P (State.svcRespond v0 v1 v2) := by
  unfold State.svcRespond
  extract_lets +onlyGivenNames -merge x1
  clear_value x1
  refine ite_p (fun _ => ?_) (fun _ => (ite_p (fun _ => (State.inject_inv (c.mono rfl) k0)) (fun _ => (State.inject_inv (c.mono rfl) k0))))
  refine ite_p (fun _ => (State.inject_inv (c.mono rfl) k0)) (fun _ => ?_)
  extract_lets +onlyGivenNames -merge x2
  clear_value x2
  exact (State.inject_inv (c.mono rfl) k0)
theorem State.finishAcc_inv (c : Clo 0x110 P) {v0} {v1} {v2} {v3} {v4} {v5} (k0 : P v0) : P (State.finishAcc v0 v1 v2 v3 v4 v5) := by
  unfold State.finishAcc
  split
  ·
    rename_i y1 y2
    exact k0
  ·
    rename_i y3 y4 y5
    extract_lets +onlyGivenNames -merge x6 x7
    clear_value x6 x7
    exact (ite_p (fun _ => (State.svcRespond_inv (c.mono rfl) (c.svc rfl _ k0))) (fun _ => (c.svc rfl _ k0)))
theorem State.dropWrite_inv (c : Clo 0x100 P) {v0} {v1} (k0 : P v0) : P (State.dropWrite v0 v1) := by
  unfold State.dropWrite
  exact (c.updBank rfl _ _ k0)
theorem State.askWake_inv (c : Clo 0x1000000000000000000100 P) {v0} {v1} (k0 : P v0) : P (State.askWake v0 v1) := by
  unfold State.askWake
  exact (c.updBank rfl _ _ (c.setF rfl k0))
theorem State.laneDeny_inv (c : Clo 0x788000000000000000000000000000000000000000000000010000000000000000000018 P) {v0} {v1} {v2} {v3} (k0 : P v0) : P (State.laneDeny v0 v1 v2 v3) := by
  unfold State.laneDeny
  exact (State.refuse_inv (c.mono rfl) (c.inc rfl k0))
theorem State.poisonAnswer_inv (c : Clo 0x112 P) {v0} {v1} {v2} (k0 : P v0) : P (State.poisonAnswer v0 v1 v2) := by
  unfold State.poisonAnswer
  extract_lets +onlyGivenNames -merge x1
  clear_value x1
  exact (ite_p (fun _ => (c.drawn rfl  (State.inject_inv (c.mono rfl) k0))) (fun _ => (State.inject_inv (c.mono rfl) (State.dropWrite_inv (c.mono rfl) k0))))
theorem State.enqueue_inv (c : Clo 0x100 P) {v0} {v1} {v2} {v3} (k0 : P v0) : P (State.enqueue v0 v1 v2 v3) := by
  unfold State.enqueue
  extract_lets +onlyGivenNames -merge x1 x2 x3 x4 x5 x7
  have h6 : P x5 := by unfold x5; exact (c.svc rfl _ k0)
  have h8 : P x7 := by unfold x7; exact (c.svcNext rfl _ h6)
  clear_value x1 x2 x3 x4 x5 x7
  exact (c.updBank rfl _ _ h8)
theorem State.laneRequest_inv (c : Clo 0x788039f0304400710000040004004041300000000021c94021101c08400000004000bffe P) {v0} {v1} (k0 : P v0) : P (State.laneRequest v0 v1) := by
  unfold State.laneRequest
  extract_lets +onlyGivenNames -merge x1
  clear_value x1
  split
  ·
    rename_i y2 y3
    exact k0
  ·
    rename_i y4 y5 y6 y7
    have q9 := congr_p (Q := (OptP (SndP P))) y7 (by
        exact (State.take_inv (c.mono rfl) k0)
      )
    have h8 : P y6 := q9
    refine ite_p (fun _ => (State.refuse_inv (c.mono rfl) h8)) (fun _ => ?_)
    extract_lets +onlyGivenNames -merge x10 x11
    clear_value x10 x11
    refine ite_p (fun _ => (State.refuse_inv (c.mono rfl) h8)) (fun _ => ?_)
    refine ite_p (fun _ => (State.booksFault_inv (c.mono rfl) (State.laneDeny_inv (c.mono rfl) h8))) (fun _ => ?_)
    refine ite_p (fun _ => (State.laneDeny_inv (c.mono rfl) h8)) (fun _ => ?_)
    refine ite_p (fun _ => (State.poisonAnswer_inv (c.mono rfl) h8)) (fun _ => ?_)
    refine ite_p (fun _ => (State.laneDeny_inv (c.mono rfl) h8)) (fun _ => ?_)
    refine ite_p (fun _ => k0) (fun _ => ?_)
    extract_lets +onlyGivenNames -merge x12
    have h13 : P x12 := by unfold x12; exact (ite_p (fun _ => (State.askWake_inv (c.mono rfl) h8)) (fun _ => h8))
    clear_value x12
    exact (State.enqueue_inv (c.mono rfl) h13)
theorem State.startWipe_inv (c : Clo 0x2000000000000000000100 P) {v0} {v1} {v2} (k0 : P v0) : P (State.startWipe v0 v1 v2) := by
  unfold State.startWipe
  exact (c.setF rfl (c.updBank rfl _ _ k0))
theorem State.drainCheck_inv (c : Clo 0x2200000000000000000100 P) {v0} {v1} (k0 : P v0) : P (State.drainCheck v0 v1) := by
  unfold State.drainCheck
  refine ite_p (fun _ => k0) (fun _ => ?_)
  split
  ·
    rename_i y1 y2
    exact (ite_p (fun _ => (c.setF rfl (State.startWipe_inv (c.mono rfl) k0))) (fun _ => k0))
  ·
    rename_i y3 y4
    exact (State.startWipe_inv (c.mono rfl) k0)
  ·
    rename_i y5 y6 y7
    exact k0
theorem State.patchRow_inv (c : Clo 0x40 P) {v0} {v1} {v2} {v3} (k0 : P v0) : P (State.patchRow v0 v1 v2 v3) := by
  unfold State.patchRow
  exact (State.updPlane_inv (c.mono rfl) k0)
theorem State.repeatLoadRow_inv (c : Clo 0x800000000000000000000000040 P) {v0} {v1} (k0 : P v0) : P (State.repeatLoadRow v0 v1) := by
  unfold State.repeatLoadRow
  exact (c.setF rfl (c.updRoom rfl _ _ k0))
theorem State.busyPair_inv (c : Clo 0x800008000000000000000000042 P) {v0} {v1} {v2} {v3} (k0 : P v0) : P (State.busyPair v0 v1 v2 v3) := by
  unfold State.busyPair
  extract_lets +onlyGivenNames -merge x1
  have h2 : P x1 := by unfold x1; exact (c.inc rfl k0)
  clear_value x1
  exact (ite_p (fun _ => h2) (fun _ => (ite_p (fun _ => (c.drawn rfl  (State.patchRow_inv (c.mono rfl) h2))) (fun _ => (State.repeatLoadRow_inv (c.mono rfl) h2)))))
theorem State.performAcc_inv (c : Clo 0x1e020004071000000000000000000000000000008000080000000000000000007f2 P) {v0} {v1} {v2} {v3} {v4} {v5} (k0 : P v0) : P (State.performAcc v0 v1 v2 v3 v4 v5) := by
  unfold State.performAcc
  extract_lets +onlyGivenNames -merge x1 x2 x3
  clear_value x1 x2 x3
  refine ite_p (fun _ => ?_) (fun _ => ?_)
  ·
    split
    ·
      rename_i y4 y5 y6
      exact (State.finishAcc_inv (c.mono rfl) (State.dropWrite_inv (c.mono rfl) k0))
    ·
      rename_i y7 y8
      exact (c.drawn rfl  (State.finishAcc_inv (c.mono rfl) k0))
  ·
    split
    ·
      rename_i y9 y10
      refine ite_p (fun _ => ?_) (fun _ => ?_)
      ·
        split
        ·
          rename_i y11 y12 y13 y14
          split
          ·
            rename_i y15 y16 y17 y18
            have q20 := congr_p (Q := (FstP P)) y18 (by
                exact (State.bankWrite_inv (c.mono rfl) k0)
              )
            have h19 : P y16 := q20
            extract_lets +onlyGivenNames -merge x21 x22
            have h23 : P x22 := by
              unfold x22
              refine ite_p (fun _ => h19) (fun _ => ?_)
              split
              ·
                rename_i y24 y25 y26 y27
                exact (State.patchRow_inv (c.mono rfl) h19)
            clear_value x21 x22
            exact (State.finishAcc_inv (c.mono rfl) h23)
        ·
          rename_i y28 y29
          split
          ·
            rename_i y30 y31 y32 y33 y34
            have q36 := congr_p (Q := (SndP (SndP P))) y34 (by
                exact (State.bankRead_inv (c.mono rfl) k0)
              )
            have h35 : P y33 := q36
            exact (State.finishAcc_inv (c.mono rfl) h35)
      ·
        extract_lets +onlyGivenNames -merge x37
        have h38 : P x37 := by unfold x37; exact (State.busyPair_inv (c.mono rfl) k0)
        clear_value x37
        exact (State.finishAcc_inv (c.mono rfl) h38)
    ·
      rename_i y39
      split
      ·
        rename_i y40 y41 y42 y43
        split
        ·
          rename_i y44 y45 y46 y47
          have q49 := congr_p (Q := (FstP P)) y47 (by
              exact (State.bankWrite_inv (c.mono rfl) k0)
            )
          have h48 : P y45 := q49
          exact (State.finishAcc_inv (c.mono rfl) h48)
      ·
        rename_i y50 y51
        split
        ·
          rename_i y52 y53 y54 y55 y56
          have q58 := congr_p (Q := (SndP (SndP P))) y56 (by
              exact (State.bankRead_inv (c.mono rfl) k0)
            )
          have h57 : P y55 := q58
          exact (State.finishAcc_inv (c.mono rfl) h57)
theorem State.serviceAccess_inv (c : Clo 0x39f0304440710000040004004041300000000021c94120b21c08400000004000bffe P) {v0} {v1} {v2} {v3} (k0 : P v0) : P (State.serviceAccess v0 v1 v2 v3) := by
  unfold State.serviceAccess
  refine ite_p (fun _ => k0) (fun _ => ?_)
  split
  ·
    rename_i y1 y2
    exact k0
  ·
    rename_i y3 y4 y5 y6
    extract_lets +onlyGivenNames -merge x7 x8
    have h9 : P x8 := by unfold x8; exact (ite_p (fun _ => (c.updStair rfl _ _ (c.updBank rfl _ _ k0))) (fun _ => k0))
    clear_value x7 x8
    split
    ·
      rename_i y10 y11
      exact h9
    ·
      rename_i y12 y13 y14
      extract_lets +onlyGivenNames -merge x15
      clear_value x15
      split
      ·
        rename_i y16 y17
        exact h9
      ·
        rename_i y18 y19 y20 y21
        extract_lets +onlyGivenNames -merge x22 x24 x26 x27 x28
        have h23 : P x22 := by unfold x22; exact (c.updBank rfl _ _ h9)
        have h25 : P x24 := by unfold x24; exact (c.updStair rfl _ _ h23)
        have h29 : P x28 := by unfold x28; exact (State.drainCheck_inv (c.mono rfl) (State.carry_inv (c.mono rfl) (State.performAcc_inv (c.mono rfl) h25)))
        clear_value x22 x24 x26 x27 x28
        exact (ite_p (fun _ => (State.booksFault_inv (c.mono rfl) h29)) (fun _ => h29))
theorem State.admitLate_inv (c : Clo 0x140 P) {v0} {v1} (k0 : P v0) : P (State.admitLate v0 v1) := by
  unfold State.admitLate
  extract_lets +onlyGivenNames -merge x1
  have h2 : P x1 := by unfold x1; exact (c.updBank rfl _ _ k0)
  clear_value x1
  exact (c.updRoom rfl _ _ h2)
theorem State.acceptHandover_inv (c : Clo 0x2300000000000000000140 P) {v0} {v1} {v2} (k0 : P v0) : P (State.acceptHandover v0 v1 v2) := by
  unfold State.acceptHandover
  extract_lets +onlyGivenNames -merge x1
  clear_value x1
  refine ite_p (fun _ => k0) (fun _ => ?_)
  extract_lets +onlyGivenNames -merge x2 x4 x6 x8
  have h3 : P x2 := by unfold x2; exact (c.setF rfl k0)
  have h5 : P x4 := by unfold x4; exact (c.setF rfl h3)
  have h7 : P x6 := by unfold x6; exact (c.setF rfl (c.setF rfl h5))
  have h9 : P x8 := by unfold x8; exact (c.updBank rfl _ _ (State.admitLate_inv (c.mono rfl) h7))
  clear_value x2 x4 x6 x8
  exact (State.drainCheck_inv (c.mono rfl) h9)
theorem State.writeOwner_inv (c : Clo 0x2300000000000000000140 P) {v0} {v1} {v2} (k0 : P v0) : (SndP P) (State.writeOwner v0 v1 v2) := by
  unfold State.writeOwner
  extract_lets +onlyGivenNames -merge x1
  clear_value x1
  exact (ite_p (fun _ => (mk_snd (State.acceptHandover_inv (c.mono rfl) k0))) (fun _ => (mk_snd (c.setF rfl k0))))
theorem State.endBankCmds_inv (c : Clo 0x2118 P) {v0} {v1} {v2} (k0 : P v0) : P (State.endBankCmds v0 v1 v2) := by
  unfold State.endBankCmds
  extract_lets +onlyGivenNames -merge x1
  clear_value x1
  exact (State.each_inv (c.mono rfl) (c.updBank rfl _ _ k0) (fun _ _ h2 => (State.respond_inv (c.mono rfl) h2)))
theorem State.completeHandover_inv (c : Clo 0x20700000000000000402118 P) {v0} {v1} (k0 : P v0) : P (State.completeHandover v0 v1) := by
  unfold State.completeHandover
  extract_lets +onlyGivenNames -merge x1 x2 x4 x6 x8 x10
  have h3 : P x2 := by unfold x2; exact (c.setF rfl k0)
  have h5 : P x4 := by unfold x4; exact (c.odClear rfl _ (c.setF rfl (c.setF rfl h3)))
  have h7 : P x6 := by unfold x6; exact (c.wr rfl (c.wr rfl h5))
  have h9 : P x8 := by unfold x8; exact (c.incW rfl h7)
  have h11 : P x10 := by unfold x10; exact (c.updBank rfl _ _ h9)
  clear_value x1 x2 x4 x6 x8 x10
  exact (State.endBankCmds_inv (c.mono rfl) h11)
theorem State.handoverComplete_inv (c : Clo 0x20700000000000000402118 P) {v0} {v1} (k0 : P v0) : P (State.handoverComplete v0 v1) := by
  unfold State.handoverComplete
  refine ite_p (fun _ => k0) (fun _ => ?_)
  split
  ·
    rename_i y1 y2
    exact (State.completeHandover_inv (c.mono rfl) k0)
  ·
    rename_i y3 y4
    exact (ite_p (fun _ => (State.completeHandover_inv (c.mono rfl) k0)) (fun _ => k0))
  ·
    rename_i y5 y6 y7
    exact k0
theorem State.writeGuest_inv (c : Clo 0x2400000000000000000000 P) {v0} {v1} {v2} (k0 : P v0) : (SndP P) (State.writeGuest v0 v1 v2) := by
  unfold State.writeGuest
  extract_lets +onlyGivenNames -merge x1
  clear_value x1
  exact (ite_p (fun _ => (mk_snd (c.setF rfl k0))) (fun _ => (ite_p (fun _ => (mk_snd (c.wr rfl k0))) (fun _ => (mk_snd (c.wr rfl k0))))))
theorem State.ctmLeave_inv (c : Clo 0x100000000000000000000000000000000000002000000000000000000100 P) {v0} (k0 : P v0) : P (State.ctmLeave v0) := by
  unfold State.ctmLeave
  extract_lets +onlyGivenNames -merge x1
  clear_value x1
  exact (ite_p (fun _ => (c.updBank rfl _ _ k0)) (fun _ => (ite_p (fun _ => k0) (fun _ => (c.setF rfl (c.updBank rfl _ _ (c.setF rfl k0)))))))
theorem State.ctmEntered_inv (c : Clo 0x100000000000000000000000000000000000002000000000000000002118 P) {v0} {v1} (k0 : P v0) : P (State.ctmEntered v0 v1) := by
  unfold State.ctmEntered
  refine ite_p (fun _ => ?_) (fun _ => k0)
  extract_lets +onlyGivenNames -merge x1 x2 x4
  have h3 : P x2 := by unfold x2; exact (c.setF rfl (c.updBank rfl _ _ k0))
  have h5 : P x4 := by unfold x4; exact (State.each_inv (c.mono rfl) h3 (fun _ _ h6 => (State.respond_inv (c.mono rfl) h6)))
  clear_value x1 x2 x4
  exact (ite_p (fun _ => (State.ctmLeave_inv (c.mono rfl) h5)) (fun _ => h5))
theorem State.sliceEnded_inv (c : Clo 0x100000000000000000000000000000000000002200000000000000002118 P) {v0} {v1} (k0 : P v0) : P (State.sliceEnded v0 v1) := by
  unfold State.sliceEnded
  exact (State.drainCheck_inv (c.mono rfl) (State.ctmEntered_inv (c.mono rfl) k0))
theorem State.cutSlice_inv (c : Clo 0x39f0304410710000040004004041300000000021c94020321008400000004000bffe P) {v0} {v1} (k0 : P v0) : P (State.cutSlice v0 v1) := by
  unfold State.cutSlice
  split
  ·
    rename_i y1 y2
    exact k0
  ·
    rename_i y3 y4 y5
    extract_lets +onlyGivenNames -merge x6
    have h7 : P x6 := by unfold x6; exact (State.sliceEnded_inv (c.mono rfl) (State.restoreSlice_inv (c.mono rfl) k0))
    clear_value x6
    exact (ite_p (fun _ => h7) (fun _ => (State.enterSafe_inv (c.mono rfl) h7)))
theorem State.abandonMarch_inv (c : Clo 0x40000000000000000000000000000000000000000000000000000000000080 P) {v0} {v1} (k0 : P v0) : P (State.abandonMarch v0 v1) := by
  unfold State.abandonMarch
  split
  ·
    rename_i y1 y2
    exact k0
  ·
    rename_i y3 y4 y5
    exact (ite_p (fun _ => k0) (fun _ => (c.inc rfl (c.updStair rfl _ _ k0))))
theorem State.refuseQueued_inv (c : Clo 0x788000000000000000000000000000000000000000000000010000000000000000000118 P) {v0} {v1} (k0 : P v0) : P (State.refuseQueued v0 v1) := by
  unfold State.refuseQueued
  extract_lets +onlyGivenNames -merge x1
  clear_value x1
  refine State.each_inv (c.mono rfl) (c.updBank rfl _ _ k0) ?_
  intro a5 a6 h4
  split
  ·
    rename_i y7 y8 y9
    exact (State.laneDeny_inv (c.mono rfl) (c.svc rfl _ h4))
  ·
    rename_i y10 y11
    exact h4
theorem State.retainQueue_inv (c : Clo 0x788000000000000000000000000000000000000000000000011000000000000000000118 P) {v0} {v1} (k0 : P v0) : P (State.retainQueue v0 v1) := by
  unfold State.retainQueue
  refine ite_p (fun _ => k0) (fun _ => ?_)
  split
  ·
    rename_i y1 y2
    exact (State.askWake_inv (c.mono rfl) k0)
  ·
    rename_i y3 y4
    exact (State.refuseQueued_inv (c.mono rfl) k0)
  ·
    rename_i y5 y6
    exact k0
theorem State.askRetain_inv (c : Clo 0x788039f0304410710000040004004041300000000021c94021321008400000004000bffe P) {v0} {v1} (k0 : P v0) : (SndP P) (State.askRetain v0 v1) := by
  unfold State.askRetain
  extract_lets +onlyGivenNames -merge x1
  clear_value x1
  refine ite_p (fun _ => (mk_snd k0)) (fun _ => ?_)
  extract_lets +onlyGivenNames -merge x2 x4 x6 x8
  have h3 : P x2 := by unfold x2; exact (ite_p (fun _ => (State.cutSlice_inv (c.mono rfl) k0)) (fun _ => k0))
  have h5 : P x4 := by unfold x4; exact (c.setF rfl h3)
  have h7 : P x6 := by unfold x6; exact (c.updBank rfl _ _ h5)
  have h9 : P x8 := by unfold x8; exact (ite_p (fun _ => h7) (fun _ => (c.setF rfl h7)))
  clear_value x2 x4 x6 x8
  exact (mk_snd (State.retainQueue_inv (c.mono rfl) (c.setF rfl h9)))
theorem State.askWakeCmd_inv (c : Clo 0x1000000000000000000100 P) {v0} {v1} (k0 : P v0) : P (State.askWakeCmd v0 v1) := by
  unfold State.askWakeCmd
  exact (ite_p (fun _ => (State.askWake_inv (c.mono rfl) k0)) (fun _ => (c.setF rfl k0)))
theorem State.retentionEntered_inv (c : Clo 0x1000000000000000002118 P) {v0} {v1} (k0 : P v0) : P (State.retentionEntered v0 v1) := by
  unfold State.retentionEntered
  refine ite_p (fun _ => ?_) (fun _ => k0)
  extract_lets +onlyGivenNames -merge x1 x3
  have h2 : P x1 := by unfold x1; exact (c.setF rfl k0)
  clear_value x1 x3
  exact (State.each_inv (c.mono rfl) (c.updBank rfl _ _ h2) (fun _ _ h4 => (State.respond_inv (c.mono rfl) h4)))
theorem State.wakeStart_inv (c : Clo 0x1000000000000000000100 P) {v0} {v1} (k0 : P v0) : P (State.wakeStart v0 v1) := by
  unfold State.wakeStart
  extract_lets +onlyGivenNames -merge x1 x2
  clear_value x1 x2
  exact (ite_p (fun _ => (c.setF rfl (c.updBank rfl _ _ k0))) (fun _ => k0))
theorem State.askWipe_inv (c : Clo 0x2200000000000000000140 P) {v0} {v1} (k0 : P v0) : (SndP P) (State.askWipe v0 v1) := by
  unfold State.askWipe
  refine ite_p (fun _ => (mk_snd k0)) (fun _ => ?_)
  refine ite_p (fun _ => (mk_snd k0)) (fun _ => ?_)
  refine ite_p (fun _ => (mk_snd k0)) (fun _ => ?_)
  extract_lets +onlyGivenNames -merge x1
  have h2 : P x1 := by unfold x1; exact (c.updBank rfl _ _ (State.admitLate_inv (c.mono rfl) k0))
  clear_value x1
  exact (mk_snd (State.drainCheck_inv (c.mono rfl) h2))
theorem State.wipeBank_inv (c : Clo 0x480 P) {v0} {v1} (k0 : P v0) : P (State.wipeBank v0 v1) := by
  unfold State.wipeBank
  exact (State.updMow_inv (c.mono rfl) (c.wipe rfl _ _ k0))
theorem State.ctmWiped_inv (c : Clo 0x100000000000000000000000000000000000000080000000000002118 P) {v0} {v1} (k0 : P v0) : P (State.ctmWiped v0 v1) := by
  unfold State.ctmWiped
  refine ite_p (fun _ => ?_) (fun _ => k0)
  extract_lets +onlyGivenNames -merge x1 x2
  have h3 : P x2 := by unfold x2; exact (c.setF rfl (c.updBank rfl _ _ k0))
  clear_value x1 x2
  exact (State.each_inv (c.mono rfl) (c.setF rfl h3) (fun _ _ h4 => (State.respond_inv (c.mono rfl) h4)))
theorem State.wipeComplete_inv (c : Clo 0x100000000000000000000000000000000002200080000000000002598 P) {v0} {v1} (k0 : P v0) : P (State.wipeComplete v0 v1) := by
  unfold State.wipeComplete
  refine ite_p (fun _ => k0) (fun _ => ?_)
  extract_lets +onlyGivenNames -merge x1
  have h2 : P x1 := by unfold x1; exact (State.ctmWiped_inv (c.mono rfl) (c.setF rfl (State.wipeBank_inv (c.mono rfl) k0)))
  clear_value x1
  split
  ·
    rename_i y3 y4
    exact (State.endBankCmds_inv (c.mono rfl) (c.setF rfl (c.updBank rfl _ _ h2)))
  ·
    rename_i y5 y6
    exact (c.setF rfl (c.updBank rfl _ _ h2))
  ·
    rename_i y7 y8 y9
    exact h2
theorem State.readSpan_inv (c : Clo 0x1e020004031000000000000000000000000000000000000000000000000000002a2 P) {v0} {v1} {v2} {v3} (k0 : P v0) : (SndP (SndP P)) (State.readSpan v0 v1 v2 v3) := by
  unfold State.readSpan
  refine foldl_p ?_ (mk_snd (mk_snd k0))
  intro a4 a5 h3
  split
  ·
    rename_i y6 y7 y8 y9 y10
    have q12 := congr_p (Q := (SndP (SndP P))) y10 (by
        exact (ite_p (fun _ => (State.bankRead_inv (c.mono rfl) (snd_p (snd_p h3)))) (fun _ => (State.readWord_inv (c.mono rfl) (snd_p (snd_p h3)))))
      )
    have h11 : P y9 := q12
    exact (mk_snd (mk_snd h11))
theorem State.writeSpanAs_inv (c : Clo 0x1e020000071000000000000000000000000000000000000000000000000000006a2 P) {v0} {v1} {v2} {v3} {v4} (k0 : P v0) : (SndP P) (State.writeSpanAs v0 v1 v2 v3 v4) := by
  unfold State.writeSpanAs
  refine foldl_p ?_ (mk_snd k0)
  intro a4 a5 h3
  extract_lets +onlyGivenNames -merge x6 x7
  clear_value x6
  split
  ·
    rename_i y8 y9 y10 y11
    have q13 := congr_p (Q := (FstP P)) y11 (by
        exact (ite_p (fun _ => (State.bankWrite_inv (c.mono rfl) (snd_p h3))) (fun _ => (State.writeWord_inv (c.mono rfl) (snd_p h3))))
      )
    have h12 : P y9 := q13
    exact (mk_snd h12)
theorem execServiceLaneRequest_inv (c : Clo 0x788039f0304400710000040004004041300000000021c94021101c08400000004000bffe P) {v0} {v1} (k1 : P v1) : (OutP P) (execServiceLaneRequest v0 v1) := by
  unfold execServiceLaneRequest
  exact (mk_next (State.laneRequest_inv (c.mono rfl) k1))
theorem execServiceAccess_inv (c : Clo 0x39f0304440710000040004004041300000000021c94120b21c08400000004000bffe P) {v0} {v1} {v2} {v3} (k3 : P v3) : (OutP P) (execServiceAccess v0 v1 v2 v3) := by
  unfold execServiceAccess
  exact (mk_next (State.serviceAccess_inv (c.mono rfl) k3))
theorem execHandover_inv (c : Clo 0x2300000000000000000140 P) {v0} {v1} {v2} (k2 : P v2) : (OutP P) (execHandover v0 v1 v2) := by
  unfold execHandover
  exact (mk_next (snd_p (State.writeOwner_inv (c.mono rfl) k2)))
theorem execHandoverComplete_inv (c : Clo 0x20700000000000000402118 P) {v0} {v1} (k1 : P v1) : (OutP P) (execHandoverComplete v0 v1) := by
  unfold execHandoverComplete
  exact (mk_next (State.handoverComplete_inv (c.mono rfl) k1))
theorem execGuestGrant_inv (c : Clo 0x2400000000000000000000 P) {v0} {v1} {v2} (k2 : P v2) : (OutP P) (execGuestGrant v0 v1 v2) := by
  unfold execGuestGrant
  exact (mk_next (snd_p (State.writeGuest_inv (c.mono rfl) k2)))
theorem execRetentionRequest_inv (c : Clo 0x788039f0304410710000040004004041300000000021c94021321008400000004000bffe P) {v0} {v1} (k1 : P v1) : (OutP P) (execRetentionRequest v0 v1) := by
  unfold execRetentionRequest
  exact (mk_next (snd_p (State.askRetain_inv (c.mono rfl) k1)))
theorem execWakeRequest_inv (c : Clo 0x1000000000000000000100 P) {v0} {v1} (k1 : P v1) : (OutP P) (execWakeRequest v0 v1) := by
  unfold execWakeRequest
  exact (mk_next (State.askWakeCmd_inv (c.mono rfl) k1))
theorem execRetentionEntryComplete_inv (c : Clo 0x1000000000000000002118 P) {v0} {v1} (k1 : P v1) : (OutP P) (execRetentionEntryComplete v0 v1) := by
  unfold execRetentionEntryComplete
  exact (mk_next (State.retentionEntered_inv (c.mono rfl) k1))
theorem execWakeStart_inv (c : Clo 0x1000000000000000000100 P) {v0} {v1} (k1 : P v1) : (OutP P) (execWakeStart v0 v1) := by
  unfold execWakeStart
  exact (mk_next (State.wakeStart_inv (c.mono rfl) k1))
theorem execWipeRequest_inv (c : Clo 0x2200000000000000000140 P) {v0} {v1} (k1 : P v1) : (OutP P) (execWipeRequest v0 v1) := by
  unfold execWipeRequest
  exact (mk_next (snd_p (State.askWipe_inv (c.mono rfl) k1)))
theorem execWipeComplete_inv (c : Clo 0x100000000000000000000000000000000002200080000000000002598 P) {v0} {v1} (k1 : P v1) : (OutP P) (execWipeComplete v0 v1) := by
  unfold execWipeComplete
  exact (mk_next (State.wipeComplete_inv (c.mono rfl) k1))
theorem execBankOwner_inv (c : Clo 0x1e0200000000000000000000000000000000000000000230000820000000000217a P) {v0} {v1} {v2} {v3} (k3 : P v3) : (OutP P) (execBankOwner v0 v1 v2 v3) := by
  unfold execBankOwner
  refine mk_next ?_
  refine State.submit_inv (c.mono rfl) k3 ?_
  intro a10 h9
  refine State.checks_inv (c.mono rfl) h9 ?_
  intro a14 h13
  split
  ·
    rename_i y15 y16 y17 y18
    have q20 := congr_p (Q := (SndP P)) y18 (by
        exact (State.writeOwner_inv (c.mono rfl) h13)
      )
    have h19 : P y17 := q20
    exact (ite_p (fun _ => (State.reply_inv (c.mono rfl) h19)) (fun _ => (ite_p (fun _ => (c.updBank rfl _ _ h19)) (fun _ => (State.reply_inv (c.mono rfl) h19)))))
theorem execBankGuest_inv (c : Clo 0x1e0200000000000000000000000000000000000000000240000820000000000203a P) {v0} {v1} {v2} {v3} (k3 : P v3) : (OutP P) (execBankGuest v0 v1 v2 v3) := by
  unfold execBankGuest
  refine mk_next ?_
  refine State.submit_inv (c.mono rfl) k3 ?_
  intro a10 h9
  refine State.checks_inv (c.mono rfl) h9 ?_
  intro a14 h13
  split
  ·
    rename_i y15 y16 y17 y18
    have q20 := congr_p (Q := (SndP P)) y18 (by
        exact (State.writeGuest_inv (c.mono rfl) h13)
      )
    have h19 : P y17 := q20
    exact (State.reply_inv (c.mono rfl) h19)
theorem execBankRetain_inv (c : Clo 0x788039f0304410710000040004004041300000000021c94021321008c20000004000bffe P) {v0} {v1} {v2} (k2 : P v2) : (OutP P) (execBankRetain v0 v1 v2) := by
  unfold execBankRetain
  refine mk_next ?_
  refine State.submit_inv (c.mono rfl) k2 ?_
  intro a10 h9
  refine State.checks_inv (c.mono rfl) h9 ?_
  intro a14 h13
  split
  ·
    rename_i y15 y16 y17 y18
    have q20 := congr_p (Q := (SndP P)) y18 (by
        exact (State.askRetain_inv (c.mono rfl) h13)
      )
    have h19 : P y17 := q20
    exact (ite_p (fun _ => (State.reply_inv (c.mono rfl) h19)) (fun _ => (ite_p (fun _ => (State.reply_inv (c.mono rfl) h19)) (fun _ => (c.updBank rfl _ _ h19)))))
theorem execBankWake_inv (c : Clo 0x1e0200000000000000000000000000000000000000000100000820000000000213a P) {v0} {v1} {v2} (k2 : P v2) : (OutP P) (execBankWake v0 v1 v2) := by
  unfold execBankWake
  refine mk_next ?_
  refine State.submit_inv (c.mono rfl) k2 ?_
  intro a10 h9
  refine State.checks_inv (c.mono rfl) h9 ?_
  intro a14 h13
  extract_lets +onlyGivenNames -merge x15
  have h16 : P x15 := by unfold x15; exact (State.askWakeCmd_inv (c.mono rfl) h13)
  clear_value x15
  exact (ite_p (fun _ => (State.reply_inv (c.mono rfl) h16)) (fun _ => (c.updBank rfl _ _ h16)))
theorem execBankWipe_inv (c : Clo 0x1e0200000000000000000000000000000000000000000220000820000000000217a P) {v0} {v1} {v2} (k2 : P v2) : (OutP P) (execBankWipe v0 v1 v2) := by
  unfold execBankWipe
  refine mk_next ?_
  refine State.submit_inv (c.mono rfl) k2 ?_
  intro a10 h9
  refine State.checks_inv (c.mono rfl) h9 ?_
  intro a14 h13
  split
  ·
    rename_i y15 y16 y17 y18
    have q20 := congr_p (Q := (SndP P)) y18 (by
        exact (State.askWipe_inv (c.mono rfl) h13)
      )
    have h19 : P y17 := q20
    exact (ite_p (fun _ => (State.reply_inv (c.mono rfl) h19)) (fun _ => (c.updBank rfl _ _ h19)))
theorem execBankStatus_inv (c : Clo 0x1e0200000000000000000000000000000000000000000000000820000000000203a P) {v0} {v1} {v2} (k2 : P v2) : (OutP P) (execBankStatus v0 v1 v2) := by
  unfold execBankStatus
  exact (mk_next (State.submit_inv (c.mono rfl) k2 (fun _ h1 => (State.checks_inv (c.mono rfl) h1 (fun _ h2 => (State.replyData_inv (c.mono rfl) h2))))))

/-! ### RoomLogic -/

theorem State.tracks_inv (c : Clo 0x200000000000000000000080 P) {v0} {v1} (k0 : P v0) : P (State.tracks v0 v1) := by
  unfold State.tracks
  extract_lets +onlyGivenNames -merge x1 x2 x3 x4 x5 x6 x7 x9 x10
  have h8 : P x7 := by unfold x7; exact (c.updStair rfl _ _ k0)
  have h11 : P x10 := by unfold x10; exact (ite_p (fun _ => (c.setF rfl h8)) (fun _ => h8))
  clear_value x1 x2 x3 x4 x5 x6 x7 x9 x10
  exact (ite_p (fun _ => (c.setF rfl h11)) (fun _ => h11))
theorem State.trackOff_inv (c : Clo 0x2000000000000000000000c0 P) {v0} {v1} (k0 : P v0) : P (State.trackOff v0 v1) := by
  unfold State.trackOff
  extract_lets +onlyGivenNames -merge x1 x2
  have h3 : P x2 := by unfold x2; exact (c.updStair rfl _ _ k0)
  clear_value x1 x2
  exact (State.tracks_inv (c.mono rfl) (c.updRoom rfl _ _ h3))
theorem State.syncTracks_inv (c : Clo 0x42 P) {v0} {v1} {v2} {v3} (k0 : P v0) : P (State.syncTracks v0 v1 v2 v3) := by
  unfold State.syncTracks
  extract_lets +onlyGivenNames -merge x1 x2 x3 x4 x5 x6 x7 x8 x9 x10
  clear_value x1 x2 x3 x4 x5 x6 x7 x8 x9 x10
  exact (c.drawn rfl  (c.updRoom rfl _ _ k0))
theorem State.ramFinish_inv (c : Clo 0x1e020000031000000000000000000000000001000000000000000000000000002e2 P) {v0} {v1} {v2} (k0 : P v0) : P (State.ramFinish v0 v1 v2) := by
  unfold State.ramFinish
  extract_lets +onlyGivenNames -merge x1 x2 x4
  have h3 : P x2 := by unfold x2; exact (c.updRoom rfl _ _ k0)
  have h5 : P x4 := by
    unfold x4
    refine State.each_inv (c.mono rfl) h3 ?_
    intro a10 a11 h9
    split
    ·
      rename_i y12 y13
      exact h9
    ·
      rename_i y14 y15 y16
      split
      ·
        rename_i y17 y18 y19 y20 y21
        extract_lets +onlyGivenNames -merge x22
        clear_value x22
        split
        ·
          rename_i y23 y24 y25 y26 y27
          have q29 := congr_p (Q := (SndP (SndP P))) y27 (by
              exact (State.readWord_inv (c.mono rfl) h9)
            )
          have h28 : P y26 := q29
          extract_lets +onlyGivenNames -merge x30
          clear_value x30
          exact (c.updRoom rfl _ _ h28)
  clear_value x1 x2 x4
  exact (c.inc rfl h5)
theorem State.ramStarve_inv (c : Clo 0x40 P) {v0} {v1} {v2} (k0 : P v0) : P (State.ramStarve v0 v1 v2) := by
  unfold State.ramStarve
  split
  ·
    rename_i y1 y2
    exact (c.updRoom rfl _ _ k0)
  ·
    rename_i y3 y4 y5 y6
    extract_lets +onlyGivenNames -merge x7
    clear_value x7
    exact (c.updRoom rfl _ _ k0)
theorem State.ramPresent_inv (c : Clo 0x1e020000071000000000000000000000000000000000000000000000000000006e2 P) {v0} {v1} {v2} {v3} (k0 : P v0) : P (State.ramPresent v0 v1 v2 v3) := by
  unfold State.ramPresent
  extract_lets +onlyGivenNames -merge x1 x2 x3 x4 x5
  have h6 : P x5 := by unfold x5; exact (c.updRoom rfl _ _ k0)
  clear_value x1 x2 x3 x4 x5
  refine State.each_inv (c.mono rfl) h6 ?_
  intro a10 a11 h9
  split
  ·
    rename_i y12 y13
    exact h9
  ·
    rename_i y14 y15 y16 y17
    extract_lets +onlyGivenNames -merge x18 x19
    clear_value x18 x19
    exact (fst_p (State.writeWord_inv (c.mono rfl) h9))
theorem State.rmregEdge_inv (c : Clo 0x40 P) {v0} {v1} {v2} (k0 : P v0) : P (State.rmregEdge v0 v1 v2) := by
  unfold State.rmregEdge
  extract_lets +onlyGivenNames -merge x1
  clear_value x1
  exact (c.updRoom rfl _ _ k0)
theorem State.cellEdge_inv (c : Clo 0x400 P) {v0} {v1} {v2} {v3} (k0 : P v0) : P (State.cellEdge v0 v1 v2 v3) := by
  unfold State.cellEdge
  extract_lets +onlyGivenNames -merge x1 x2 x3 x4 x5 x6
  clear_value x1 x2 x3 x4 x5 x6
  exact (c.setByte rfl _ _ (c.setByte rfl _ _ k0))
theorem State.copyBytes_inv (c : Clo 0x400 P) {v0} {v1} {v2} {v3} (k0 : P v0) : P (State.copyBytes v0 v1 v2 v3) := by
  unfold State.copyBytes
  extract_lets +onlyGivenNames -merge x1
  clear_value x1
  exact (State.each_inv (c.mono rfl) (c.wipe rfl _ _ k0) (fun _ _ h2 => (c.setByte rfl _ _ h2)))
theorem State.ffSave_inv (c : Clo 0x400 P) {v0} {v1} {v2} (k0 : P v0) : P (State.ffSave v0 v1 v2) := by
  unfold State.ffSave
  exact (State.copyBytes_inv (c.mono rfl) k0)
theorem State.ffLoad_inv (c : Clo 0x1e020000031000000000000000000000000000000000000000000000000000006a2 P) {v0} {v1} {v2} (k0 : P v0) : P (State.ffLoad v0 v1 v2) := by
  unfold State.ffLoad
  extract_lets +onlyGivenNames -merge x1 x2
  clear_value x1 x2
  exact (State.each_inv (c.mono rfl) (State.copyBytes_inv (c.mono rfl) k0) (fun _ _ h3 => (State.noteWord_inv (c.mono rfl) (State.putBytes_inv (c.mono rfl) h3))))
theorem State.multEdge_inv (c : Clo 0x40 P) {v0} {v1} {v2} {v3} (k0 : P v0) : P (State.multEdge v0 v1 v2 v3) := by
  unfold State.multEdge
  extract_lets +onlyGivenNames -merge x1 x2
  clear_value x1 x2
  exact (State.updPlane_inv (c.mono rfl) k0)
theorem State.fabricEdge_inv (c : Clo 0x440 P) {v0} {v1} {v2} {v3} {v4} (k0 : P v0) : P (State.fabricEdge v0 v1 v2 v3 v4) := by
  unfold State.fabricEdge
  exact (State.each_inv (c.mono rfl) (State.each_inv (c.mono rfl) k0 (fun _ _ h1 => (State.cellEdge_inv (c.mono rfl) h1))) (fun _ _ h2 => (State.multEdge_inv (c.mono rfl) h2)))

end Sys2Proof.Machine
end

