-- ==== Sys2Proof/Laws/Accept.lean ====
section
/-!
SUPPORT. What acceptance of an Ebryn command does, in the four ways that R382 gives it.
-/
namespace Sys2Proof.Machine
variable {s : State} {e : Ebryn} {run : State → State}

/-- An accepted command runs in the state in which it has entered. -/
theorem submit_ok (a : s.accepts e) : s.submit e.h e.op e.svc e.args run e.deny = run (s.entered e) := by
  have h := a.screen
  unfold State.screen at h
  unfold State.submit
  rw [if_neg a.room.bell, if_neg (by simp [a.room.room]), if_neg (by simp [a.room.tag])]
  simp only [h]
  rfl
/-- A command that fails a check is entered and answered with that check's status. -/
theorem submit_no (r : s.hasRoom e.h) {st : Nat} (h : s.screen e = some st) :
    s.submit e.h e.op e.svc e.args run e.deny = (s.entered e).respond e.h.ref st [] := by
  unfold State.screen at h
  unfold State.submit
  rw [if_neg r.bell, if_neg (by simp [r.room]), if_neg (by simp [r.tag])]
  simp only [h]
  rfl
/-- A second command of an engine whose first runs is dropped. -/
theorem submit_bell (h : e.h.port = 18 ∧ 0 < s.inProgress e.h) : s.submit e.h e.op e.svc e.args run e.deny =
    (s.setF Fld.MB_STATUS_ENG_DROP 0 1).updMail fun m => { m with block := [] } := by
  unfold State.submit
  rw [if_pos h]
/-- A command beyond its requester's room is answered BUSY. -/
theorem submit_busy (h1 : ¬(e.h.port = 18 ∧ 0 < s.inProgress e.h)) (h2 : s.noRoom e.h = true) :
    s.submit e.h e.op e.svc e.args run e.deny = (s.answerNow e.h 2).updMail fun m => { m with block := [] } := by
  unfold State.submit
  rw [if_neg h1, if_pos h2]
/-- A command whose TAG is in use is answered BAD_ARG. -/
theorem submit_twice (h1 : ¬(e.h.port = 18 ∧ 0 < s.inProgress e.h)) (h2 : s.noRoom e.h = false) (h3 : (s.inprogOf e.h.ref).isSome = true) :
    s.submit e.h e.op e.svc e.args run e.deny = (s.answerNow e.h 3).updMail fun m => { m with block := [] } := by
  unfold State.submit
  rw [if_neg h1, if_neg (by simp [h2]), if_pos h3]

/-- A command whose own checks all pass runs. -/
theorem checks_ok {h : CmdHdr} {l : List (Bool × Nat)} (hl : ∀ x ∈ l, x.1 = false) : s.checks h l run = run s := by
  unfold State.checks
  have : l.find? (fun e => e.1) = none := by
    rw [List.find?_eq_none]
    intro x hx
    rw [hl x hx]
    exact Bool.false_ne_true
  rw [this]

/-! ### Entry -/

/-- Entering changes only these kinds of state: free values, mailbox, recorder, and the registers of the command count and the
recorder. -/
abbrev entryMask : Nat := 0x1e0200000000000000000000000000000000000000000000000800000000000002a
theorem entered_same (s : State) (e : Ebryn) : Same entryMask s (s.entered e) :=
  State.enter_inv (clo_same s rfl) (Same.refl _ s)
theorem entered_canon {s : State} (h : s.canon) (e : Ebryn) : (s.entered e).canon :=
  (State.enter_inv (clo_canon s.pending _) ⟨h, rfl⟩).1
theorem entered_rd {s : State} (h : s.regsOk) (e : Ebryn) {r : Reg} (hr : entryMask.testBit (24 + r.ctorIdx) = false) (n : Nat) :
    (s.entered e).rd r n = s.rd r n := (State.enter_inv (clo_rd s r n rfl rfl hr) ⟨h, rfl⟩).2
theorem entered_f {s : State} (h : s.regsOk) (e : Ebryn) {F : Field} (hr : entryMask.testBit (24 + F.reg.ctorIdx) = false) (n : Nat) :
    (s.entered e).f F n = s.f F n := congrArg F.get (entered_rd h e hr n)
theorem recordSrc_same (s : State) (b k c : Nat) (p : List Byte) :
    Same 0x1e02000000000000000000000000000000000000000000000000000000000000022 s (s.recordSrc b k c p) :=
  State.recordSrc_inv (clo_same s rfl) (Same.refl _ s)
theorem hazard_same (s : State) (a b c : Nat) : Same 0x1e02000000000000000000000000000000000000000000000000000000000000022 s (s.hazard a b c) :=
  State.hazard_inv (clo_same s rfl) (Same.refl _ s)
/-- What entering does to the mailbox. -/
theorem entered_mail (s : State) (e : Ebryn) : ∃ j, (s.entered e).mail = { s.mail with block := [], inprog := s.mail.inprog ++ [{
    port := e.h.port, node := e.h.node, ep := e.h.ep, tag := e.h.tag, opcode := e.op, committed := true,
    hdrTag := s.mail.hdrTag, injected := j }] } := by
  unfold State.entered State.enter
  extract_lets a b c
  have hb : b.mail = a.mail := by
    simp only [b]
    split
    · rfl
    · exact (recordSrc_same _ _ _ _ _).mail rfl
  have hc : c.mail = b.mail := by
    simp only [c]
    split
    · exact (hazard_same _ _ _ _).mail rfl
    · rfl
  refine ⟨c.replay.injecting, ?_⟩
  rw [State.updMail_mail, hc, hb]
  rfl
theorem entered_count {s : State} (h : s.regsOk) (e : Ebryn) :
    (s.entered e).f Fld.MB_CMD_COUNT_COUNT 0 = (s.f Fld.MB_CMD_COUNT_COUNT 0 + 1) % 2 ^ 32 := by
  unfold State.entered State.enter
  extract_lets a b c
  have ha : a.f Fld.MB_CMD_COUNT_COUNT 0 = (s.f Fld.MB_CMD_COUNT_COUNT 0 + 1) % 2 ^ 32 :=
    State.f_setF_same (s := s.updMail _) h _ rfl 0 _
  have oa : a.regsOk := State.regsOk_incW (s := s.updMail _) h _ _ _
  have hb : b.regsOk ∧ b.rd .MB_CMD_COUNT 0 = a.rd .MB_CMD_COUNT 0 := by
    simp only [b]
    split
    · exact ⟨oa, rfl⟩
    · exact State.recordSrc_inv (clo_rd a .MB_CMD_COUNT 0 rfl rfl rfl) ⟨oa, rfl⟩
  have hc : c.regsOk ∧ c.rd .MB_CMD_COUNT 0 = b.rd .MB_CMD_COUNT 0 := by
    simp only [c]
    split
    · exact State.hazard_inv (clo_rd b .MB_CMD_COUNT 0 rfl rfl rfl) ⟨hb.1, rfl⟩
    · exact ⟨hb.1, rfl⟩
  rw [← ha]
  show Fld.MB_CMD_COUNT_COUNT.get (c.rd .MB_CMD_COUNT 0) = Fld.MB_CMD_COUNT_COUNT.get (a.rd .MB_CMD_COUNT 0)
  rw [hc.2, hb.2]

/-! ### Responses -/

/-- A response changes only these kinds of state. -/
abbrev respMask : Nat := 0x2018
theorem respond_rd {s : State} (h : s.regsOk) (q : CmdRef) (st : Nat) (d : List Byte) {r : Reg}
    (hr : respMask.testBit (24 + r.ctorIdx) = false) (n : Nat) : (s.respond q st d).rd r n = s.rd r n :=
  (State.respond_inv (clo_rd s r n rfl rfl hr) ⟨h, rfl⟩).2
theorem respond_f {s : State} (h : s.regsOk) (q : CmdRef) (st : Nat) (d : List Byte) {F : Field}
    (hr : respMask.testBit (24 + F.reg.ctorIdx) = false) (n : Nat) : (s.respond q st d).f F n = s.f F n :=
  congrArg F.get (respond_rd h q st d hr n)
theorem respond_same (s : State) (q : CmdRef) (st : Nat) (d : List Byte) : Same respMask s (s.respond q st d) :=
  State.respond_inv (clo_same s rfl) (Same.refl _ s)
theorem respond_canon {s : State} (h : s.canon) (q : CmdRef) (st : Nat) (d : List Byte) : (s.respond q st d).canon :=
  (State.respond_inv (clo_canon s.pending _) ⟨h, rfl⟩).1

end Sys2Proof.Machine
end

