-- ==== Sys2Proof/Laws/InvSched.lean ====
section
/-!
SUPPORT. What each operation of rooms, repair, protection and the scheduler may change (see Laws/Closed.lean): one lemma per definition.
-/
namespace Sys2Proof.Machine
variable {P : State → Prop}

/-! ### Rooms -/

theorem State.setDivisor_inv (c : Clo 0x200000000000000000000000000 P) {v0} {v1} (k0 : P v0) : P (State.setDivisor v0 v1) := by
  unfold State.setDivisor
  exact (c.setF rfl k0)
theorem State.refuseSwitch_inv (c : Clo 0x100000000000000000000002018 P) {v0} {v1} {v2} (k0 : P v0) : P (State.refuseSwitch v0 v1 v2) := by
  unfold State.refuseSwitch
  exact (State.respondTo_inv (c.mono rfl) (c.setF rfl k0))
theorem State.takeSwitch_inv (c : Clo 0x140000000000000000000002058 P) {v0} {v1} {v2} {v3} {v4} (k0 : P v0) : P (State.takeSwitch v0 v1 v2 v3 v4) := by
  unfold State.takeSwitch
  extract_lets +onlyGivenNames -merge x1 x2 x3 x4 x5 x7 x9 x11
  have h6 : P x5 := by unfold x5; exact (ite_p (fun _ => (c.setF rfl k0)) (fun _ => k0))
  have h8 : P x7 := by unfold x7; exact (State.respondTo_inv (c.mono rfl) h6)
  have h10 : P x9 := by unfold x9; exact (c.setF rfl h8)
  have h12 : P x11 := by unfold x11; exact (ite_p (fun _ => h10) (fun _ => (c.setF rfl h10)))
  clear_value x1 x2 x3 x4 x5 x7 x9 x11
  exact (c.updRoom rfl _ _ h12)
theorem State.askSwitch_inv (c : Clo 0x1c140000000000000000000002058 P) {v0} {v1} {v2} {v3} {v4} (k0 : P v0) : P (State.askSwitch v0 v1 v2 v3 v4) := by
  unfold State.askSwitch
  refine ite_p (fun _ => (State.respondTo_inv (c.mono rfl) k0)) (fun _ => ?_)
  refine ite_p (fun _ => (State.refuseSwitch_inv (c.mono rfl) k0)) (fun _ => ?_)
  refine ite_p (fun _ => (State.refuseSwitch_inv (c.mono rfl) (State.emptyPlane_inv (c.mono rfl) k0))) (fun _ => ?_)
  extract_lets +onlyGivenNames -merge x1
  clear_value x1
  exact (ite_p (fun _ => (State.refuseSwitch_inv (c.mono rfl) k0)) (fun _ => (State.takeSwitch_inv (c.mono rfl) k0)))
theorem State.doSwitch_inv (c : Clo 0x1e02000003100000000000000000000000000020040000000000000000000002efa P) {v0} {v1} {v2} (k0 : P v0) : P (State.doSwitch v0 v1 v2) := by
  unfold State.doSwitch
  extract_lets +onlyGivenNames -merge x1 x8 x10 x12 x14 x16 x17
  have h2 : P x1 := by
    unfold x1
    split
    ·
      rename_i y3 y4 y5
      exact (State.ffSave_inv (c.mono rfl) k0)
    ·
      rename_i y6 y7
      exact k0
  have h9 : P x8 := by unfold x8; exact (State.ffLoad_inv (c.mono rfl) h2)
  have h11 : P x10 := by unfold x10; exact (c.setF rfl (c.setF rfl h9))
  have h13 : P x12 := by unfold x12; exact (c.setF rfl h11)
  have h15 : P x14 := by unfold x14; exact (c.incW rfl h13)
  have h18 : P x17 := by unfold x17; exact (State.updSched_inv (c.mono rfl) h15)
  clear_value x1 x8 x10 x12 x14 x16 x17
  exact (State.respondTo_inv (c.mono rfl) (c.updRoom rfl _ _ h18))
theorem State.heldEdge_inv (c : Clo 0x1e0200000310000000000000000000000000003c140000000000000000000002efa P) {v0} {v1} (k0 : P v0) : P (State.heldEdge v0 v1) := by
  unfold State.heldEdge
  extract_lets +onlyGivenNames -merge x1
  clear_value x1
  refine ite_p (fun _ => k0) (fun _ => ?_)
  refine ite_p (fun _ => ?_) (fun _ => (ite_p (fun _ => (State.dropHeld_inv (c.mono rfl) k0)) (fun _ => k0)))
  refine ite_p (fun _ => (State.dropHeld_inv (c.mono rfl) (State.emptyPlane_inv (c.mono rfl) k0))) (fun _ => ?_)
  refine ite_p (fun _ => ?_) (fun _ => (State.doSwitch_inv (c.mono rfl) k0))
  extract_lets +onlyGivenNames -merge x2
  clear_value x2
  exact (State.respondTo_inv (c.mono rfl) (c.updRoom rfl _ _ (c.setF rfl k0)))
theorem State.switchEdge_inv (c : Clo 0x1e0200000310000000000000000000000000003c140000000000000000000002efa P) {v0} {v1} (k0 : P v0) : P (State.switchEdge v0 v1) := by
  unfold State.switchEdge
  split
  ·
    rename_i y1 y2 y3 y4
    exact (State.heldEdge_inv (c.mono rfl) (c.updRoom rfl _ _ (c.setF rfl (c.setF rfl k0))))
  ·
    rename_i y5 y6
    exact (State.heldEdge_inv (c.mono rfl) k0)
theorem State.logicTakes_inv (c : Clo 0x100000000000000000000000000040 P) {v0} {v1} {v2} (k0 : P v0) : P (State.logicTakes v0 v1 v2) := by
  unfold State.logicTakes
  extract_lets +onlyGivenNames -merge x1 x2 x3 x4 x5 x6
  have h7 : P x6 := by unfold x6; exact (c.inc rfl k0)
  clear_value x1 x2 x3 x4 x5 x6
  exact (State.updPlane_inv (c.mono rfl) h7)
theorem State.parkEdge_inv (c : Clo 0x100000000000000000000002058 P) {v0} {v1} (k0 : P v0) : P (State.parkEdge v0 v1) := by
  unfold State.parkEdge
  split
  ·
    rename_i y1 y2
    exact k0
  ·
    rename_i y3 y4 y5 y6 y7
    extract_lets +onlyGivenNames -merge x8
    have h9 : P x8 := by unfold x8; exact (c.updRoom rfl _ _ k0)
    clear_value x8
    exact (ite_p (fun _ => (ite_p (fun _ => (State.respondTo_inv (c.mono rfl) (c.updRoom rfl _ _ (c.setF rfl h9)))) (fun _ => (State.respondTo_inv (c.mono rfl) h9)))) (fun _ => (ite_p (fun _ => (State.respondTo_inv (c.mono rfl) h9)) (fun _ => (ite_p (fun _ => (State.respondTo_inv (c.mono rfl) (c.updRoom rfl _ _ (c.setF rfl h9)))) (fun _ => (State.respondTo_inv (c.mono rfl) h9)))))))
theorem State.stopEdge_inv (c : Clo 0x100000000000000000000000040 P) {v0} {v1} (k0 : P v0) : P (State.stopEdge v0 v1) := by
  unfold State.stopEdge
  extract_lets +onlyGivenNames -merge x1 x2 x4
  have h3 : P x2 := by unfold x2; exact (ite_p (fun _ => (c.setF rfl k0)) (fun _ => k0))
  have h5 : P x4 := by unfold x4; exact (ite_p (fun _ => (c.setF rfl h3)) (fun _ => h3))
  clear_value x1 x2 x4
  exact (c.updRoom rfl _ _ h5)
theorem State.lostPulse_inv (c : Clo 0x40 P) {v0} {v1} {v2} (k0 : P v0) : P (State.lostPulse v0 v1 v2) := by
  unfold State.lostPulse
  exact (ite_p (fun _ => (c.updRoom rfl _ _ (State.updPlane_inv (c.mono rfl) k0))) (fun _ => k0))
theorem State.drive_inv (c : Clo 0x2000000000000000000000c0 P) {v0} {v1} {v2} {v3} {v4} (k0 : P v0) : P (State.drive v0 v1 v2 v3 v4) := by
  unfold State.drive
  exact (State.lostPulse_inv (c.mono rfl) (State.tracks_inv (c.mono rfl) (c.updRoom rfl _ _ k0)))
theorem State.runEdge_inv (c : Clo 0x1e0200000710000000000000000000000000013c140200000000000000000002efa P) {v0} {v1} {v2} {v3} (k0 : P v0) : P (State.runEdge v0 v1 v2 v3) := by
  unfold State.runEdge
  extract_lets +onlyGivenNames -merge x1 x8
  have h2 : P x1 := by
    unfold x1
    split
    ·
      rename_i y3 y4 y5
      exact (State.ramStarve_inv (c.mono rfl) (State.ramFinish_inv (c.mono rfl) (State.logicTakes_inv (c.mono rfl) (State.fabricEdge_inv (c.mono rfl) k0))))
    ·
      rename_i y6 y7
      exact k0
  have h9 : P x8 := by unfold x8; exact (State.switchEdge_inv (c.mono rfl) h2)
  clear_value x1 x8
  split
  ·
    rename_i y10 y11 y12
    exact (State.rmregEdge_inv (c.mono rfl) (State.ramPresent_inv (c.mono rfl) (State.drive_inv (c.mono rfl) (State.syncTracks_inv (c.mono rfl) h9))))
  ·
    rename_i y13 y14
    exact h9
theorem State.roomEdge_inv (c : Clo 0x1e0200000710000000000000000000000000013c340200000000000000000002efa P) {v0} {v1} {v2} {v3} (k0 : P v0) : P (State.roomEdge v0 v1 v2 v3) := by
  unfold State.roomEdge
  refine ite_p (fun _ => k0) (fun _ => ?_)
  extract_lets +onlyGivenNames -merge x1 x3
  have h2 : P x1 := by unfold x1; exact (c.updRoom rfl _ _ k0)
  have h4 : P x3 := by unfold x3; exact (ite_p (fun _ => (State.runEdge_inv (c.mono rfl) h2)) (fun _ => h2))
  clear_value x1 x3
  exact (State.setDivisor_inv (c.mono rfl) (State.stopEdge_inv (c.mono rfl) (State.parkEdge_inv (c.mono rfl) h4)))
theorem State.heldSwitch_inv (c : Clo 0x1e0200000710000000000000000000000000013c340200000000000000000002efa P) {v0} {v1} (k0 : P v0) : P (State.heldSwitch v0 v1) := by
  unfold State.heldSwitch
  refine ite_p (fun _ => k0) (fun _ => ?_)
  extract_lets +onlyGivenNames -merge x1 x2 x3
  have h4 : P x3 := by unfold x3; exact (ite_p (fun _ => (State.scramble_inv (c.mono rfl) (c.drawn rfl  k0))) (fun _ => (c.drawn rfl  k0)))
  clear_value x1 x2 x3
  exact (State.roomEdge_inv (c.mono rfl) h4)
theorem State.rowRequest_inv (c : Clo 0x40 P) {v0} {v1} {v2} {v3} {v4} {v5} {v6} (k0 : P v0) : P (State.rowRequest v0 v1 v2 v3 v4 v5 v6) := by
  unfold State.rowRequest
  split
  ·
    rename_i y1 y2
    exact k0
  ·
    rename_i y3 y4 y5
    extract_lets +onlyGivenNames -merge x6 x7 x8 x9
    clear_value x6 x7 x8 x9
    refine ite_p (fun _ => k0) (fun _ => ?_)
    extract_lets +onlyGivenNames -merge x10
    clear_value x10
    exact (State.updPlane_inv (c.mono rfl) k0)
theorem State.rowPoison_inv (c : Clo 0x142 P) {v0} {v1} {v2} {v3} (k0 : P v0) : P (State.rowPoison v0 v1 v2 v3) := by
  unfold State.rowPoison
  exact (ite_p (fun _ => (State.updPlane_inv (c.mono rfl) (State.dropWrite_inv (c.mono rfl) k0))) (fun _ => (c.drawn rfl  (State.updPlane_inv (c.mono rfl) k0))))
theorem State.performRow_inv (c : Clo 0x1e020000071000000000000000000000000000000000122000000000000000007e2 P) {v0} {v1} {v2} {v3} {v4} {v5} (k0 : P v0) : P (State.performRow v0 v1 v2 v3 v4 v5) := by
  unfold State.performRow
  refine ite_p (fun _ => (State.drainCheck_inv (c.mono rfl) (State.rowPoison_inv (c.mono rfl) (c.inc rfl k0)))) (fun _ => ?_)
  refine ite_p (fun _ => (State.drainCheck_inv (c.mono rfl) (State.rowPoison_inv (c.mono rfl) k0))) (fun _ => ?_)
  extract_lets +onlyGivenNames -merge x1 x3 x5
  have h2 : P x1 := by unfold x1; exact (c.updStair rfl _ _ k0)
  have h4 : P x3 := by unfold x3; exact (State.rowWrite_inv (c.mono rfl) h2)
  have h6 : P x5 := by
    unfold x5
    refine ite_p (fun _ => (State.updPlane_inv (c.mono rfl) h4)) (fun _ => ?_)
    split
    ·
      rename_i y7 y8 y9 y10 y11
      have q13 := congr_p (Q := (SndP (SndP P))) y11 (by
          exact (State.rowRead_inv (c.mono rfl) h2)
        )
      have h12 : P y10 := q13
      exact (State.updPlane_inv (c.mono rfl) h12)
  clear_value x1 x3 x5
  exact (State.drainCheck_inv (c.mono rfl) h6)
theorem State.rowMove_inv (c : Clo 0x1e020000071000000000000000000000000000000012132000000000000000007e2 P) {v0} {v1} {v2} (k0 : P v0) : P (State.rowMove v0 v1 v2) := by
  unfold State.rowMove
  refine ite_p (fun _ => k0) (fun _ => ?_)
  extract_lets +onlyGivenNames -merge x1
  have h2 : P x1 := by
    unfold x1
    refine State.each_inv (c.mono rfl) k0 ?_
    intro a7 a8 h6
    split
    ·
      rename_i y9 y10 y11 y12
      exact (ite_p (fun _ => (State.askWake_inv (c.mono rfl) h6)) (fun _ => h6))
    ·
      rename_i y13 y14
      exact h6
  clear_value x1
  split
  ·
    rename_i y15 y16
    exact h2
  ·
    rename_i y17 y18 y19 y20
    extract_lets +onlyGivenNames -merge x21
    have h22 : P x21 := by unfold x21; exact (c.updRoom rfl _ _ (State.updPlane_inv (c.mono rfl) h2))
    clear_value x21
    exact (State.carry_inv (c.mono rfl) (State.performRow_inv (c.mono rfl) h22))
theorem State.roomResponse_inv (c : Clo 0x80000000000000000000000000040 P) {v0} {v1} {v2} (k0 : P v0) : P (State.roomResponse v0 v1 v2) := by
  unfold State.roomResponse
  extract_lets +onlyGivenNames -merge x1
  clear_value x1
  split
  ·
    rename_i y2 y3
    exact (State.updPlane_inv (c.mono rfl) (c.inc rfl k0))
  ·
    rename_i y4 y5
    exact (State.updPlane_inv (c.mono rfl) k0)
  ·
    rename_i y6 y7 y8
    exact k0
theorem State.endpointRequest_inv (c : Clo 0x2788000000000000000000000000000000000000000080000000000000000000000000058 P) {v0} {v1} (k0 : P v0) : P (State.endpointRequest v0 v1) := by
  unfold State.endpointRequest
  split
  ·
    rename_i y1 y2
    exact k0
  ·
    rename_i y3 y4 y5 y6
    have q8 := congr_p (Q := (OptP (SndP P))) y6 (by
        exact (findSome_p (fun _ => (filter_p (State.take_inv (c.mono rfl) k0))))
      )
    have h7 : P y5 := q8
    refine ite_p (fun _ => (ite_p (fun _ => (State.refuse_inv (c.mono rfl) h7)) (fun _ => (ite_p (fun _ => (State.refuse_inv (c.mono rfl) h7)) (fun _ => (c.updRoom rfl _ _ h7)))))) (fun _ => ?_)
    refine ite_p (fun _ => ?_) (fun _ => ?_)
    ·
      split
      ·
        rename_i y9 y10 y11 y12
        have q14 := congr_p (Q := (SndP P)) y12 (by
            exact (State.matchRsp_inv (c.mono rfl) h7)
          )
        have h13 : P y11 := q14
        exact (State.roomResponse_inv (c.mono rfl) h13)
      ·
        rename_i y15 y16 y17
        have q19 := congr_p (Q := (SndP P)) y17 (by
            exact (State.matchRsp_inv (c.mono rfl) h7)
          )
        have h18 : P y16 := q19
        exact h18
    ·
      extract_lets +onlyGivenNames -merge x20 x21 x22
      clear_value x20 x22
      refine ite_p (fun _ => (ite_p (fun _ => (State.refuse_inv (c.mono rfl) h7)) (fun _ => h7))) (fun _ => ?_)
      refine ite_p (fun _ => (ite_p (fun _ => (State.refuse_inv (c.mono rfl) h7)) (fun _ => h7))) (fun _ => ?_)
      refine ite_p (fun _ => (ite_p (fun _ => (State.inject_inv (c.mono rfl) h7)) (fun _ => k0))) (fun _ => ?_)
      extract_lets +onlyGivenNames -merge x23
      have h24 : P x23 := by unfold x23; exact (State.updPlane_inv (c.mono rfl) h7)
      clear_value x23
      exact (ite_p (fun _ => (State.inject_inv (c.mono rfl) h24)) (fun _ => h24))
theorem State.memAccess_inv (c : Clo 0x1e020004071000000000000000000000000000000000000000000000000000006b2 P) {v0} {v1} {v2} (k0 : P v0) : P (State.memAccess v0 v1 v2) := by
  unfold State.memAccess
  extract_lets +onlyGivenNames -merge x1
  clear_value x1
  refine ite_p (fun _ => ?_) (fun _ => ?_)
  ·
    split
    ·
      rename_i y2 y3 y4 y5 y6
      have q8 := congr_p (Q := (SndP (SndP P))) y6 (by
          exact (State.readSpan_inv (c.mono rfl) k0)
        )
      have h7 : P y5 := q8
      exact (State.inject_inv (c.mono rfl) h7)
  ·
    split
    ·
      rename_i y9 y10 y11 y12
      have q14 := congr_p (Q := (SndP P)) y12 (by
          exact (State.writeSpanAs_inv (c.mono rfl) k0)
        )
      have h13 : P y11 := q14
      exact (State.inject_inv (c.mono rfl) h13)
theorem State.ramAccess_inv (c : Clo 0x788001e020004071000000000000000000000000000000000000000000000000000006fa P) {v0} {v1} (k0 : P v0) : P (State.ramAccess v0 v1) := by
  unfold State.ramAccess
  split
  ·
    rename_i y1 y2
    exact k0
  ·
    rename_i y3 y4 y5 y6
    extract_lets +onlyGivenNames -merge x7
    clear_value x7
    refine ite_p (fun _ => k0) (fun _ => ?_)
    extract_lets +onlyGivenNames -merge x8
    have h9 : P x8 := by unfold x8; exact (c.updRoom rfl _ _ k0)
    clear_value x8
    exact (ite_p (fun _ => (State.refuse_inv (c.mono rfl) h9)) (fun _ => (State.memAccess_inv (c.mono rfl) h9)))
theorem State.transmit_inv (c : Clo 0x50 P) {v0} {v1} {v2} (k0 : P v0) : P (State.transmit v0 v1 v2) := by
  unfold State.transmit
  split
  ·
    rename_i y1 y2
    exact k0
  ·
    rename_i y3 y4 y5
    extract_lets +onlyGivenNames -merge x6 x7 x8
    clear_value x6 x7 x8
    exact (ite_p (fun _ => k0) (fun _ => (ite_p (fun _ => (ite_p (fun _ => k0) (fun _ => (State.request_inv (c.mono rfl) (State.updPlane_inv (c.mono rfl) k0))))) (fun _ => (State.inject_inv (c.mono rfl) k0)))))
theorem State.askLoad_inv (c : Clo 0xc40000000000000000000000040 P) {v0} {v1} {v2} {v3} {v4} {v5} {v6} (k0 : P v0) : (SndP P) (State.askLoad v0 v1 v2 v3 v4 v5 v6) := by
  unfold State.askLoad
  extract_lets +onlyGivenNames -merge x1 x2
  clear_value x1 x2
  split
  ·
    rename_i y3 y4 y5 y6
    extract_lets +onlyGivenNames -merge x7 x8
    clear_value x8
    refine ite_p (fun _ => (mk_snd k0)) (fun _ => ?_)
    refine ite_p (fun _ => (mk_snd k0)) (fun _ => ?_)
    refine ite_p (fun _ => (mk_snd k0)) (fun _ => ?_)
    extract_lets +onlyGivenNames -merge x9
    have h10 : P x9 := by unfold x9; exact (c.wr rfl k0)
    clear_value x9
    refine ite_p (fun _ => (mk_snd (c.setF rfl h10))) (fun _ => ?_)
    refine ite_p (fun _ => (mk_snd (c.setF rfl h10))) (fun _ => ?_)
    extract_lets +onlyGivenNames -merge x11 x12 x14 x16 x18
    have h13 : P x12 := by unfold x12; exact (c.setF rfl h10)
    have h15 : P x14 := by unfold x14; exact (c.setF rfl (c.setF rfl h13))
    have h17 : P x16 := by unfold x16; exact (c.setF rfl h15)
    have h19 : P x18 := by unfold x18; exact (c.updRoom rfl _ _ h17)
    clear_value x11 x12 x14 x16 x18
    exact (ite_p (fun _ => (mk_snd (State.updPlane_inv (c.mono rfl) (State.setPlaneState_inv (c.mono rfl) h19)))) (fun _ => (mk_snd h19)))
theorem State.bgNext_inv (c : Clo 0xc40000000000000000000008040 P) {v0} {v1} (k0 : P v0) : P (State.bgNext v0 v1) := by
  unfold State.bgNext
  refine ite_p (fun _ => k0) (fun _ => ?_)
  split
  ·
    rename_i y1 y2
    exact k0
  ·
    rename_i y3 y4 y5
    exact (snd_p (State.askLoad_inv (c.mono rfl) (State.updBoot_inv (c.mono rfl) k0)))
theorem State.loadOver_inv (c : Clo 0xc4000000000000000000000a858 P) {v0} {v1} {v2} (k0 : P v0) : P (State.loadOver v0 v1 v2) := by
  unfold State.loadOver
  exact (State.bgNext_inv (c.mono rfl) (State.loadDone_inv (c.mono rfl) k0))
theorem State.setLoad_inv (c : Clo 0x40 P) {v0} {v1} {v2} (k0 : P v0) : P (State.setLoad v0 v1 v2) := by
  unfold State.setLoad
  exact (c.updRoom rfl _ _ k0)
theorem State.startRows_inv (c : Clo 0x4040000000000000000000000040 P) {v0} {v1} {v2} (k0 : P v0) : P (State.startRows v0 v1 v2) := by
  unfold State.startRows
  extract_lets +onlyGivenNames -merge x1 x3
  have h2 : P x1 := by unfold x1; exact (State.setPlaneState_inv (c.mono rfl) k0)
  have h4 : P x3 := by unfold x3; exact (ite_p (fun _ => (c.setF rfl h2)) (fun _ => h2))
  clear_value x1 x3
  exact (State.setLoad_inv (c.mono rfl) h4)
theorem State.afterDrain_inv (c : Clo 0x4c4000000000000000000000a858 P) {v0} {v1} {v2} (k0 : P v0) : P (State.afterDrain v0 v1 v2) := by
  unfold State.afterDrain
  refine ite_p (fun _ => ?_) (fun _ => (State.startRows_inv (c.mono rfl) k0))
  split
  ·
    rename_i y1 y2 y3 y4
    exact (ite_p (fun _ => (State.loadOver_inv (c.mono rfl) (State.setPlaneState_inv (c.mono rfl) k0))) (fun _ => (State.setLoad_inv (c.mono rfl) (State.setPlaneState_inv (c.mono rfl) k0))))
theorem State.drainComplete_inv (c : Clo 0x4c4000000000000000000000a858 P) {v0} {v1} (k0 : P v0) : P (State.drainComplete v0 v1) := by
  unfold State.drainComplete
  split
  ·
    rename_i y1 y2 y3
    exact (ite_p (fun _ => (State.afterDrain_inv (c.mono rfl) k0)) (fun _ => k0))
  ·
    rename_i y4 y5
    exact k0
theorem State.drainLimit_inv (c : Clo 0x4c4000000000000000000000a858 P) {v0} {v1} (k0 : P v0) : P (State.drainLimit v0 v1) := by
  unfold State.drainLimit
  split
  ·
    rename_i y1 y2 y3
    exact (ite_p (fun _ => (State.drainComplete_inv (c.mono rfl) (State.updPlane_inv (c.mono rfl) k0))) (fun _ => k0))
  ·
    rename_i y4 y5
    exact k0
theorem State.shadowRow_inv (c : Clo 0x1e020000031000000000000000000000000000000000000000000000000000002a2 P) {v0} {v1} {v2} {v3} (k0 : P v0) : (SndP (SndP P)) (State.shadowRow v0 v1 v2 v3) := by
  unfold State.shadowRow
  exact (State.rowRead_inv (c.mono rfl) k0)
theorem State.loadFail_inv (c : Clo 0x1cd4000000000000000000000a858 P) {v0} {v1} {v2} {v3} (k0 : P v0) : P (State.loadFail v0 v1 v2 v3) := by
  unfold State.loadFail
  extract_lets +onlyGivenNames -merge x1 x3
  have h2 : P x1 := by unfold x1; exact (State.emptyPlane_inv (c.mono rfl) k0)
  have h4 : P x3 := by unfold x3; exact (ite_p (fun _ => (State.dropHeld_inv (c.mono rfl) h2)) (fun _ => h2))
  clear_value x1 x3
  exact (State.loadOver_inv (c.mono rfl) h4)
theorem State.moveLoadRow_inv (c : Clo 0x1e0200000710000000000000000000000000001cd4000000000000000000000affa P) {v0} {v1} {v2} {v3} {v4} {v5} {v6} (k0 : P v0) : P (State.moveLoadRow v0 v1 v2 v3 v4 v5 v6) := by
  unfold State.moveLoadRow
  refine ite_p (fun _ => ?_) (fun _ => ?_)
  ·
    split
    ·
      rename_i y1 y2 y3 y4 y5
      have q7 := congr_p (Q := (SndP (SndP P))) y5 (by
          exact (State.shadowRow_inv (c.mono rfl) k0)
        )
      have h6 : P y4 := q7
      extract_lets +onlyGivenNames -merge x8
      have h9 : P x8 := by unfold x8; exact (ite_p (fun _ => (State.dropWrite_inv (c.mono rfl) h6)) (fun _ => (State.rowWrite_inv (c.mono rfl) h6)))
      clear_value x8
      exact (ite_p (fun _ => (ite_p (fun _ => (State.setLoad_inv (c.mono rfl) h9)) (fun _ => (State.startRows_inv (c.mono rfl) h9)))) (fun _ => (State.setLoad_inv (c.mono rfl) h9)))
  ·
    split
    ·
      rename_i y10 y11 y12 y13 y14
      have q16 := congr_p (Q := (SndP (SndP P))) y14 (by
          exact (State.rowRead_inv (c.mono rfl) k0)
        )
      have h15 : P y13 := q16
      refine ite_p (fun _ => (State.loadFail_inv (c.mono rfl) (ite_p (fun _ => k0) (fun _ => h15)))) (fun _ => ?_)
      extract_lets +onlyGivenNames -merge x17
      have h18 : P x17 := by unfold x17; exact (State.rowWrite_inv (c.mono rfl) h15)
      clear_value x17
      exact (State.setLoad_inv (c.mono rfl) h18)
theorem State.loadRow_inv (c : Clo 0x1e0200000710000000000000000000000000001cd4121100000000000000000affa P) {v0} {v1} {v2} (k0 : P v0) : P (State.loadRow v0 v1 v2) := by
  unfold State.loadRow
  split
  ·
    rename_i y1 y2
    exact k0
  ·
    rename_i y3 y4 y5
    split
    ·
      rename_i y6 y7 y8 y9
      refine ite_p (fun _ => k0) (fun _ => ?_)
      refine ite_p (fun _ => (State.askWake_inv (c.mono rfl) k0)) (fun _ => ?_)
      extract_lets +onlyGivenNames -merge x10
      clear_value x10
      refine ite_p (fun _ => k0) (fun _ => ?_)
      extract_lets +onlyGivenNames -merge x11 x13 x15
      have h12 : P x11 := by unfold x11; exact (ite_p (fun _ => (c.inc rfl k0)) (fun _ => k0))
      have h14 : P x13 := by unfold x13; exact (c.updRoom rfl _ _ (c.inc rfl h12))
      have h16 : P x15 := by unfold x15; exact (c.updStair rfl _ _ h14)
      clear_value x11 x13 x15
      exact (State.carry_inv (c.mono rfl) (State.moveLoadRow_inv (c.mono rfl) h16))
theorem State.loadFinish_inv (c : Clo 0x5cd4000000000000000000000a8d8 P) {v0} {v1} (k0 : P v0) : P (State.loadFinish v0 v1) := by
  unfold State.loadFinish
  split
  ·
    rename_i y1 y2
    exact k0
  ·
    rename_i y3 y4 y5
    refine ite_p (fun _ => k0) (fun _ => ?_)
    refine ite_p (fun _ => (State.loadOver_inv (c.mono rfl) (State.setPlaneState_inv (c.mono rfl) k0))) (fun _ => ?_)
    refine ite_p (fun _ => (State.loadOver_inv (c.mono rfl) (State.updPlane_inv (c.mono rfl) (State.setPlaneState_inv (c.mono rfl) k0)))) (fun _ => ?_)
    extract_lets +onlyGivenNames -merge x6 x7 x8 x9 x10
    clear_value x6 x7 x8 x9 x10
    refine ite_p (fun _ => (State.loadFail_inv (c.mono rfl) k0)) (fun _ => ?_)
    refine ite_p (fun _ => (State.loadFail_inv (c.mono rfl) k0)) (fun _ => ?_)
    extract_lets +onlyGivenNames -merge x11 x12 x14 x16 x18 x20 x22 x24
    have h13 : P x12 := by unfold x12; exact (State.setPlaneState_inv (c.mono rfl) k0)
    have h15 : P x14 := by unfold x14; exact (c.setF rfl h13)
    have h17 : P x16 := by unfold x16; exact (c.setF rfl (c.setF rfl h15))
    have h19 : P x18 := by unfold x18; exact (c.setF rfl (c.setF rfl h17))
    have h21 : P x20 := by unfold x20; exact (c.incW rfl h19)
    have h23 : P x22 := by unfold x22; exact (State.updPlane_inv (c.mono rfl) h21)
    have h25 : P x24 := by unfold x24; exact (State.updMow_inv (c.mono rfl) h23)
    clear_value x11 x12 x14 x16 x18 x20 x22 x24
    exact (State.loadOver_inv (c.mono rfl) h25)
theorem execCkRoomEdge_inv (c : Clo 0x1e0200000710000000000000000000000000013c340200000000000000000002efa P) {v0} {v1} {v2} {v3} (k3 : P v3) : (OutP P) (execCkRoomEdge v0 v1 v2 v3) := by
  unfold execCkRoomEdge
  exact (mk_next (State.roomEdge_inv (c.mono rfl) k3))
theorem execHeldSwitch_inv (c : Clo 0x1e0200000710000000000000000000000000013c340200000000000000000002efa P) {v0} {v1} (k1 : P v1) : (OutP P) (execHeldSwitch v0 v1) := by
  unfold execHeldSwitch
  exact (mk_next (State.heldSwitch_inv (c.mono rfl) k1))
theorem execPlanectlSwitchRequest_inv (c : Clo 0x1c140000000000000000000002058 P) {v0} {v1} {v2} (k2 : P v2) : (OutP P) (execPlanectlSwitchRequest v0 v1 v2) := by
  unfold execPlanectlSwitchRequest
  exact (mk_next (ite_p (fun _ => (State.askSwitch_inv (c.mono rfl) k2)) (fun _ => k2)))
theorem execRowRequest_inv (c : Clo 0x40 P) {v0} {v1} {v2} {v3} {v4} {v5} {v6} (k6 : P v6) : (OutP P) (execRowRequest v0 v1 v2 v3 v4 v5 v6) := by
  unfold execRowRequest
  exact (mk_next (State.rowRequest_inv (c.mono rfl) k6))
theorem execRowMove_inv (c : Clo 0x1e020000071000000000000000000000000000000012132000000000000000007e2 P) {v0} {v1} {v2} (k2 : P v2) : (OutP P) (execRowMove v0 v1 v2) := by
  unfold execRowMove
  exact (mk_next (State.rowMove_inv (c.mono rfl) k2))
theorem execRoomEndpointRequest_inv (c : Clo 0x2788000000000000000000000000000000000000000080000000000000000000000000058 P) {v0} {v1} (k1 : P v1) : (OutP P) (execRoomEndpointRequest v0 v1) := by
  unfold execRoomEndpointRequest
  exact (mk_next (State.endpointRequest_inv (c.mono rfl) k1))
theorem execRoomRamAccess_inv (c : Clo 0x788001e020004071000000000000000000000000000000000000000000000000000006fa P) {v0} {v1} (k1 : P v1) : (OutP P) (execRoomRamAccess v0 v1) := by
  unfold execRoomRamAccess
  exact (mk_next (State.ramAccess_inv (c.mono rfl) k1))
theorem execCorridorTransmit_inv (c : Clo 0x50 P) {v0} {v1} {v2} (k2 : P v2) : (OutP P) (execCorridorTransmit v0 v1 v2) := by
  unfold execCorridorTransmit
  exact (mk_next (State.transmit_inv (c.mono rfl) k2))
theorem execSave_inv (c : Clo 0xc40000000000000000000000040 P) {v0} {v1} {v2} {v3} (k3 : P v3) : (OutP P) (execSave v0 v1 v2 v3) := by
  unfold execSave
  exact (mk_next (snd_p (State.askLoad_inv (c.mono rfl) k3)))
theorem execDrainComplete_inv (c : Clo 0x4c4000000000000000000000a858 P) {v0} {v1} (k1 : P v1) : (OutP P) (execDrainComplete v0 v1) := by
  unfold execDrainComplete
  exact (mk_next (State.drainComplete_inv (c.mono rfl) k1))
theorem execDrainLimit_inv (c : Clo 0x4c4000000000000000000000a858 P) {v0} {v1} (k1 : P v1) : (OutP P) (execDrainLimit v0 v1) := by
  unfold execDrainLimit
  exact (mk_next (State.drainLimit_inv (c.mono rfl) k1))
theorem State.loadCmd_inv (c : Clo 0xc40000000000000000000002058 P) {v0} {v1} {v2} {v3} (k0 : P v0) : P (State.loadCmd v0 v1 v2 v3) := by
  unfold State.loadCmd
  split
  ·
    rename_i y1 y2 y3 y4
    have q6 := congr_p (Q := (SndP P)) y4 (by
        exact (State.askLoad_inv (c.mono rfl) k0)
      )
    have h5 : P y3 := q6
    exact (ite_p (fun _ => h5) (fun _ => (State.reply_inv (c.mono rfl) h5)))
theorem execPlaneSave_inv (c : Clo 0x1e02000000000000000000000000000000000000c4000000000820000000000207a P) {v0} {v1} {v2} {v3} (k3 : P v3) : (OutP P) (execPlaneSave v0 v1 v2 v3) := by
  unfold execPlaneSave
  exact (mk_next (State.submit_inv (c.mono rfl) k3 (fun _ h1 => (State.checks_inv (c.mono rfl) h1 (fun _ h2 => (State.loadCmd_inv (c.mono rfl) h2))))))
theorem execPlaneSwitch_inv (c : Clo 0x1e0200000000000000000000000000000000001c14000000000820000000000207a P) {v0} {v1} {v2} {v3} (k3 : P v3) : (OutP P) (execPlaneSwitch v0 v1 v2 v3) := by
  unfold execPlaneSwitch
  exact (mk_next (State.submit_inv (c.mono rfl) k3 (fun _ h1 => (State.checks_inv (c.mono rfl) h1 (fun _ h2 => (State.askSwitch_inv (c.mono rfl) h2))))))
theorem execRoomStatus_inv (c : Clo 0x1e0200000000000000000000000000000000000000000000000820000000000203a P) {v0} {v1} {v2} (k2 : P v2) : (OutP P) (execRoomStatus v0 v1 v2) := by
  unfold execRoomStatus
  exact (mk_next (State.submit_inv (c.mono rfl) k2 (fun _ h1 => (State.checks_inv (c.mono rfl) h1 (fun _ h2 => (State.replyData_inv (c.mono rfl) h2))))))
theorem State.parkCmd_inv (c : Clo 0x2058 P) {v0} {v1} {v2} {v3} (k0 : P v0) : P (State.parkCmd v0 v1 v2 v3) := by
  unfold State.parkCmd
  exact (State.checks_inv (c.mono rfl) k0 (fun _ h1 => (ite_p (fun _ => (State.reply_inv (c.mono rfl) h1)) (fun _ => (c.updRoom rfl _ _ (State.uncommitted_inv (c.mono rfl) h1))))))
theorem execRoomPark_inv (c : Clo 0x1e0200000000000000000000000000000000000000000000000820000000000207a P) {v0} {v1} {v2} (k2 : P v2) : (OutP P) (execRoomPark v0 v1 v2) := by
  unfold execRoomPark
  exact (mk_next (State.submit_inv (c.mono rfl) k2 (fun _ h1 => (State.parkCmd_inv (c.mono rfl) h1))))
theorem execRoomUnpark_inv (c : Clo 0x1e0200000000000000000000000000000000000000000000000820000000000207a P) {v0} {v1} {v2} (k2 : P v2) : (OutP P) (execRoomUnpark v0 v1 v2) := by
  unfold execRoomUnpark
  exact (mk_next (State.submit_inv (c.mono rfl) k2 (fun _ h1 => (State.parkCmd_inv (c.mono rfl) h1))))

/-! ### Repair -/

theorem State.poisonWaiting_inv (c : Clo 0x1e020004071000000000000000000000000000008000080000000000000000007f2 P) {v0} {v1} (k0 : P v0) : P (State.poisonWaiting v0 v1) := by
  unfold State.poisonWaiting
  extract_lets +onlyGivenNames -merge x1
  have h2 : P x1 := by
    unfold x1
    refine State.each_inv (c.mono rfl) k0 ?_
    intro a7 a8 h6
    extract_lets +onlyGivenNames -merge x9
    clear_value x9
    exact (State.each_inv (c.mono rfl) (State.updPlane_inv (c.mono rfl) h6) (fun _ _ h10 => (State.rowPoison_inv (c.mono rfl) h10)))
  clear_value x1
  refine State.each_inv (c.mono rfl) h2 ?_
  intro a14 a15 h13
  extract_lets +onlyGivenNames -merge x16 x17
  clear_value x16 x17
  exact (State.each_inv (c.mono rfl) (c.updBank rfl _ _ h13) (fun _ _ h18 => (State.performAcc_inv (c.mono rfl) h18)))
theorem State.failStair_inv (c : Clo 0x39f0304440710000040004004041300000000021c94020901008400000004000bffe P) {v0} {v1} (k0 : P v0) : P (State.failStair v0 v1) := by
  unfold State.failStair
  exact (State.enterSafe_inv (c.mono rfl) (State.poisonWaiting_inv (c.mono rfl) (c.setF rfl k0)))
theorem State.handleFail_inv (c : Clo 0x39f0304440710000040004004041300000000021c960e0901008400000004005bffe P) {v0} {v1} {v2} {v3} (k0 : P v0) : P (State.handleFail v0 v1 v2 v3) := by
  unfold State.handleFail
  split
  ·
    rename_i y1 y2 y3
    extract_lets +onlyGivenNames -merge x4 x5 x6
    have h7 : P x6 := by unfold x6; exact (State.stFault_inv (c.mono rfl) k0)
    clear_value x4 x5 x6
    refine ite_p (fun _ => (State.journalBatch_inv (c.mono rfl) (State.remap_inv (c.mono rfl) h7))) (fun _ => ?_)
    refine ite_p (fun _ => ?_) (fun _ => ?_)
    ·
      extract_lets +onlyGivenNames -merge x8
      have h9 : P x8 := by unfold x8; exact (State.journalBatch_inv (c.mono rfl) (State.narrow_inv (c.mono rfl) h7))
      clear_value x8
      exact (ite_p (fun _ => (c.setF rfl h9)) (fun _ => h9))
    ·
      refine ite_p (fun _ => ?_) (fun _ => h7)
      extract_lets +onlyGivenNames -merge x10
      have h11 : P x10 := by unfold x10; exact (ite_p (fun _ => (c.updStair rfl _ _ h7)) (fun _ => h7))
      clear_value x10
      exact (ite_p (fun _ => h11) (fun _ => (State.failStair_inv (c.mono rfl) h11)))
theorem State.walkTest_inv (c : Clo 0x80 P) {v0} {v1} (k0 : P v0) : P (State.walkTest v0 v1) := by
  unfold State.walkTest
  split
  ·
    rename_i y1 y2 y3
    exact (ite_p (fun _ => (c.updStair rfl _ _ k0)) (fun _ => k0))
  ·
    rename_i y4 y5
    exact k0
theorem State.repairOutcome_inv (c : Clo 0x39f0304440710000040004004041300000000021c962e0901008400000004005bffe P) {v0} {v1} {v2} (k0 : P v0) : P (State.repairOutcome v0 v1 v2) := by
  unfold State.repairOutcome
  split
  ·
    rename_i y1 y2 y3
    refine ite_p (fun _ => k0) (fun _ => ?_)
    extract_lets +onlyGivenNames -merge x4 x6
    have h5 : P x4 := by unfold x4; exact (c.updStair rfl _ _ k0)
    have h7 : P x6 := by unfold x6; exact (c.incW rfl h5)
    clear_value x4 x6
    exact (State.each_inv (c.mono rfl) h7 (fun _ _ h8 => (State.handleFail_inv (c.mono rfl) h8)))
  ·
    rename_i y9 y10
    exact k0
theorem State.repairResume_inv (c : Clo 0x1e020000000000000000000000000000000000000002000000000000000000000a2 P) {v0} {v1} (k0 : P v0) : P (State.repairResume v0 v1) := by
  unfold State.repairResume
  split
  ·
    rename_i y1 y2 y3
    refine ite_p (fun _ => k0) (fun _ => ?_)
    extract_lets +onlyGivenNames -merge x4
    have h5 : P x4 := by unfold x4; exact (c.setF rfl (c.updStair rfl _ _ k0))
    clear_value x4
    split
    ·
      rename_i y6 y7
      exact h5
    ·
      rename_i y8 y9 y10 y11
      exact (State.each_inv (c.mono rfl) (State.suspect_inv (c.mono rfl) h5) (fun _ _ h12 => (State.suspect_inv (c.mono rfl) h12)))
  ·
    rename_i y13 y14
    exact k0
theorem State.vtParity_inv (c : Clo 0x1e020000000000000000000000000000000000000002000000000000000000000e2 P) {v0} {v1} {v2} {v3} (k0 : P v0) : P (State.vtParity v0 v1 v2 v3) := by
  unfold State.vtParity
  refine ite_p (fun _ => k0) (fun _ => ?_)
  extract_lets +onlyGivenNames -merge x1 x2 x3 x4 x6
  have h5 : P x4 := by unfold x4; exact (c.setF rfl k0)
  have h7 : P x6 := by unfold x6; exact (c.updRoom rfl _ _ h5)
  clear_value x1 x2 x3 x4 x6
  exact (State.suspect_inv (c.mono rfl) h7)
theorem execVtParityMismatch_inv (c : Clo 0x1e020000000000000000000000000000000000000002000000000000000000000e2 P) {v0} {v1} {v2} {v3} (k3 : P v3) : (OutP P) (execVtParityMismatch v0 v1 v2 v3) := by
  unfold execVtParityMismatch
  exact (mk_next (ite_p (fun _ => (State.vtParity_inv (c.mono rfl) k3)) (fun _ => k3)))
theorem execWalkingPatternTest_inv (c : Clo 0x80 P) {v0} {v1} (k1 : P v1) : (OutP P) (execWalkingPatternTest v0 v1) := by
  unfold execWalkingPatternTest
  exact (mk_next (State.walkTest_inv (c.mono rfl) k1))
theorem execRepairOutcome_inv (c : Clo 0x39f0304440710000040004004041300000000021c962e0901008400000004005bffe P) {v0} {v1} {v2} (k2 : P v2) : (OutP P) (execRepairOutcome v0 v1 v2) := by
  unfold execRepairOutcome
  exact (mk_next (State.repairOutcome_inv (c.mono rfl) k2))
theorem execRepairSamplingResume_inv (c : Clo 0x1e020000000000000000000000000000000000000002000000000000000000000a2 P) {v0} {v1} (k1 : P v1) : (OutP P) (execRepairSamplingResume v0 v1) := by
  unfold execRepairSamplingResume
  exact (mk_next (State.repairResume_inv (c.mono rfl) k1))

/-! ### Protect -/

theorem State.setMowRow_inv (c : Clo 0x180 P) {v0} {v1} {v2} (k0 : P v0) : P (State.setMowRow v0 v1 v2) := by
  unfold State.setMowRow
  split
  ·
    rename_i y1 y2
    exact (c.updBank rfl _ _ k0)
  ·
    rename_i y3 y4 y5
    exact (State.updMow_inv (c.mono rfl) k0)
theorem State.roundCheck_inv (c : Clo 0x400000000000000000000000000000000000000000000000000000080 P) {v0} (k0 : P v0) : P (State.roundCheck v0) := by
  unfold State.roundCheck
  exact (ite_p (fun _ => (State.updMow_inv (c.mono rfl) (c.incW rfl k0))) (fun _ => k0))
theorem State.mowVisit_inv (c : Clo 0x400000000000000000000000000000000000000000000000000000180 P) {v0} {v1} (k0 : P v0) : P (State.mowVisit v0 v1) := by
  unfold State.mowVisit
  refine ite_p (fun _ => k0) (fun _ => ?_)
  extract_lets +onlyGivenNames -merge x1 x2 x3 x5
  have h4 : P x3 := by unfold x3; exact (State.updMow_inv (c.mono rfl) k0)
  have h6 : P x5 := by unfold x5; exact (State.setMowRow_inv (c.mono rfl) h4)
  clear_value x1 x2 x3 x5
  exact (ite_p (fun _ => (State.roundCheck_inv (c.mono rfl) (State.updMow_inv (c.mono rfl) h6))) (fun _ => h6))
theorem State.scrubWord_inv (c : Clo 0x39f0304400710000040004004041300000000021c94020101c08400000004000bffe P) {v0} {v1} {v2} (k0 : P v0) : P (State.scrubWord v0 v1 v2) := by
  unfold State.scrubWord
  split
  ·
    rename_i y1 y2
    exact k0
  ·
    rename_i y3 y4
    exact k0
  ·
    rename_i y5 y6
    extract_lets +onlyGivenNames -merge x7
    have h8 : P x7 := by unfold x7; exact (State.storePoison_inv (c.mono rfl) (State.noteWord_inv (c.mono rfl) k0))
    clear_value x7
    exact (ite_p (fun _ => (State.booksFault_inv (c.mono rfl) h8)) (fun _ => h8))
  ·
    rename_i y9 y10 y11 y12
    split
    ·
      rename_i y13 y14 y15 y16
      extract_lets +onlyGivenNames -merge x17 x19
      have h18 : P x17 := by unfold x17; exact (State.noteWord_inv (c.mono rfl) k0)
      have h20 : P x19 := by unfold x19; exact (c.setSyn rfl _ _ (State.putBytes_inv (c.mono rfl) h18))
      clear_value x17 x19
      exact (ite_p (fun _ => (State.hazard_inv (c.mono rfl) h20)) (fun _ => h20))
theorem State.scrubOne_inv (c : Clo 0x39f0304400710000040004004041300000000021c94120901c08400000004000bffe P) {v0} {v1} {v2} {v3} {v4} (k0 : P v0) : P (State.scrubOne v0 v1 v2 v3 v4) := by
  unfold State.scrubOne
  extract_lets +onlyGivenNames -merge x1 x2
  clear_value x1 x2
  split
  ·
    rename_i y3 y4 y5
    exact (State.carry_inv (c.mono rfl) (State.busyPair_inv (c.mono rfl) k0))
  ·
    rename_i y6 y7
    extract_lets +onlyGivenNames -merge x8 x10 x17
    have h9 : P x8 := by unfold x8; exact (State.updMow_inv (c.mono rfl) k0)
    have h11 : P x10 := by
      unfold x10
      split
      ·
        rename_i y12 y13
        exact (c.updStair rfl _ _ (c.updBank rfl _ _ h9))
      ·
        rename_i y14 y15 y16
        exact h9
    clear_value x8 x10 x17
    exact (State.carry_inv (c.mono rfl) (ite_p (fun _ => h11) (fun _ => (State.scrubWord_inv (c.mono rfl) h11))))
theorem State.scrub_inv (c : Clo 0x39f0304400710000040004004041300000000021c94120901c08400000004000bffe P) {v0} {v1} {v2} {v3} (k0 : P v0) : P (State.scrub v0 v1 v2 v3) := by
  unfold State.scrub
  extract_lets +onlyGivenNames -merge x1
  clear_value x1
  refine ite_p (fun _ => k0) (fun _ => ?_)
  refine ite_p (fun _ => ?_) (fun _ => (State.scrubOne_inv (c.mono rfl) k0))
  split
  ·
    rename_i y2 y3
    exact (c.updBank rfl _ _ k0)
  ·
    rename_i y4 y5 y6
    exact k0
theorem State.setPeriod_inv (c : Clo 0x900000000000000000000000000000000000000000000000000000000 P) {v0} {v1} (k0 : P v0) : P (State.setPeriod v0 v1) := by
  unfold State.setPeriod
  exact (c.setF rfl (c.setF rfl k0))
theorem State.mowWindow_inv (c : Clo 0xd00000000000000000000000000000000000000000000000000000080 P) {v0} (k0 : P v0) : P (State.mowWindow v0) := by
  unfold State.mowWindow
  refine ite_p (fun _ => k0) (fun _ => ?_)
  extract_lets +onlyGivenNames -merge x1 x2 x3 x4 x5 x7
  have h6 : P x5 := by unfold x5; exact (c.setF rfl k0)
  have h8 : P x7 := by unfold x7; exact (State.updMow_inv (c.mono rfl) h6)
  clear_value x1 x2 x3 x4 x5 x7
  exact (State.setPeriod_inv (c.mono rfl) h8)
theorem State.mowRefresh_inv (c : Clo 0x100000000000000000000000000000000000000000000000000000000 P) {v0} (k0 : P v0) : P (State.mowRefresh v0) := by
  unfold State.mowRefresh
  exact (c.setF rfl k0)
theorem State.mowStart_inv (c : Clo 0x900000000000000000000000000000000000000000000000000000180 P) {v0} (k0 : P v0) : P (State.mowStart v0) := by
  unfold State.mowStart
  extract_lets +onlyGivenNames -merge x1 x3
  have h2 : P x1 := by unfold x1; exact (State.updMow_inv (c.mono rfl) k0)
  have h4 : P x3 := by unfold x3; exact (State.each_inv (c.mono rfl) h2 (fun _ _ h5 => (c.updBank rfl _ _ h5)))
  clear_value x1 x3
  exact (State.mowRefresh_inv (c.mono rfl) (State.setPeriod_inv (c.mono rfl) h4))
theorem State.copyRow_inv (c : Clo 0x39f0304400710000040004004041300000000021c94020101c08400000004000bffe P) {v0} {v1} (k0 : P v0) : P (State.copyRow v0 v1) := by
  unfold State.copyRow
  split
  ·
    rename_i y1 y2
    exact k0
  ·
    rename_i y3 y4 y5 y6 y7
    refine ite_p (fun _ => k0) (fun _ => ?_)
    extract_lets +onlyGivenNames -merge x8
    have h9 : P x8 := by unfold x8; exact (State.each_inv (c.mono rfl) k0 (fun _ _ h10 => (State.scrubWord_inv (c.mono rfl) h10)))
    clear_value x8
    exact (c.updBank rfl _ _ h9)
theorem State.ctmEnter_inv (c : Clo 0x100100000000000000000000000000000000000000080000000000000100 P) {v0} {v1} {v2} (k0 : P v0) : P (State.ctmEnter v0 v1 v2) := by
  unfold State.ctmEnter
  extract_lets +onlyGivenNames -merge x1 x3 x5
  have h2 : P x1 := by unfold x1; exact (c.setF rfl k0)
  have h4 : P x3 := by unfold x3; exact (c.setF rfl h2)
  have h6 : P x5 := by unfold x5; exact (c.setF rfl (c.setF rfl h4))
  clear_value x1 x3 x5
  exact (ite_p (fun _ => (c.updBank rfl _ _ h6)) (fun _ => (c.setF rfl h6)))
theorem State.ctmAsk_inv (c : Clo 0x100100000000000000000000000000000000000000080000000000000100 P) {v0} {v1} {v2} (k0 : P v0) : (SndP P) (State.ctmAsk v0 v1 v2) := by
  unfold State.ctmAsk
  extract_lets +onlyGivenNames -merge x1
  clear_value x1
  exact (ite_p (fun _ => (mk_snd (c.setF rfl k0))) (fun _ => (mk_snd (State.ctmEnter_inv (c.mono rfl) k0))))
theorem State.writeCtm_inv (c : Clo 0x100100000000000000000000000000000000002000080000000000000100 P) {v0} {v1} (k0 : P v0) : P (State.writeCtm v0 v1) := by
  unfold State.writeCtm
  extract_lets +onlyGivenNames -merge x1 x2 x4
  have h3 : P x2 := by unfold x2; exact (c.setF rfl k0)
  have h5 : P x4 := by unfold x4; exact (ite_p (fun _ => h3) (fun _ => (c.setF rfl h3)))
  clear_value x1 x2 x4
  exact (ite_p (fun _ => (State.ctmLeave_inv (c.mono rfl) h5)) (fun _ => (ite_p (fun _ => h5) (fun _ => (snd_p (State.ctmAsk_inv (c.mono rfl) h5))))))
theorem execMowingRowVisit_inv (c : Clo 0x400000000000000000000000000000000000000000000000000000180 P) {v0} {v1} (k1 : P v1) : (OutP P) (execMowingRowVisit v0 v1) := by
  unfold execMowingRowVisit
  exact (mk_next (State.mowVisit_inv (c.mono rfl) k1))
theorem execScrubAccess_inv (c : Clo 0x39f0304400710000040004004041300000000021c94120901c08400000004000bffe P) {v0} {v1} (k1 : P v1) : (OutP P) (execScrubAccess v0 v1) := by
  unfold execScrubAccess
  exact (mk_next (State.scrub_inv (c.mono rfl) k1))
theorem execMowingWindow_inv (c : Clo 0xd00000000000000000000000000000000000000000000000000000080 P) {v0} (k0 : P v0) : (OutP P) (execMowingWindow v0) := by
  unfold execMowingWindow
  exact (mk_next (State.mowWindow_inv (c.mono rfl) k0))
theorem execCopyPassRow_inv (c : Clo 0x39f0304400710000040004004041300000000021c94020101c08400000004000bffe P) {v0} {v1} (k1 : P v1) : (OutP P) (execCopyPassRow v0 v1) := by
  unfold execCopyPassRow
  exact (mk_next (State.copyRow_inv (c.mono rfl) k1))
theorem execCheckerTestModeEntry_inv (c : Clo 0x100100000000000000000000000000000000002000080000000000000100 P) {v0} {v1} (k1 : P v1) : (OutP P) (execCheckerTestModeEntry v0 v1) := by
  unfold execCheckerTestModeEntry
  exact (mk_next (ite_p (fun _ => k1) (fun _ => (State.writeCtm_inv (c.mono rfl) k1))))
theorem execCheckerTestModeExit_inv (c : Clo 0x100100000000000000000000000000000000002000080000000000000100 P) {v0} {v1} (k1 : P v1) : (OutP P) (execCheckerTestModeExit v0 v1) := by
  unfold execCheckerTestModeExit
  exact (mk_next (ite_p (fun _ => k1) (fun _ => (State.writeCtm_inv (c.mono rfl) k1))))
theorem execEcLogPop_inv (c : Clo 0x200 P) {v0} (k0 : P v0) : (OutP P) (execEcLogPop v0) := by
  unfold execEcLogPop
  exact (mk_next (c.ecLog rfl _ k0))
theorem execCheckerMode_inv (c : Clo 0x1e0200010010000000000000000000000000000000000200008820000000000213a P) {v0} {v1} {v2} {v3} {v4} (k4 : P v4) : (OutP P) (execCheckerMode v0 v1 v2 v3 v4) := by
  unfold execCheckerMode
  refine mk_next ?_
  refine State.submit_inv (c.mono rfl) k4 ?_
  intro a10 h9
  refine State.checks_inv (c.mono rfl) h9 ?_
  intro a14 h13
  refine ite_p (fun _ => ?_) (fun _ => (ite_p (fun _ => (c.updBank rfl _ _ (State.ctmLeave_inv (c.mono rfl) h13))) (fun _ => (State.reply_inv (c.mono rfl) h13))))
  split
  ·
    rename_i y15 y16 y17 y18
    have q20 := congr_p (Q := (SndP P)) y18 (by
        exact (State.ctmAsk_inv (c.mono rfl) h13)
      )
    have h19 : P y17 := q20
    exact (ite_p (fun _ => (c.updBank rfl _ _ h19)) (fun _ => (State.reply_inv (c.mono rfl) h19)))
theorem execEcLogRead_inv (c : Clo 0x1e0200000000000000000000000000000000000000000000000820000000000223a P) {v0} {v1} (k1 : P v1) : (OutP P) (execEcLogRead v0 v1) := by
  unfold execEcLogRead
  refine mk_next ?_
  refine State.submit_inv (c.mono rfl) k1 ?_
  intro a6 h5
  extract_lets +onlyGivenNames -merge x7 x8
  have h9 : P x8 := by unfold x8; exact (c.ecLog rfl _ h5)
  clear_value x7 x8
  exact (State.replyData_inv (c.mono rfl) h9)

/-! ### SchedTab -/

theorem State.schedStore_inv (c : Clo 0x10 P) {v0} {v1} {v2} (k0 : P v0) : P (State.schedStore v0 v1 v2) := by
  unfold State.schedStore
  exact (State.postSpan_inv (c.mono rfl) k0)
theorem State.setDesc_inv (c : Clo 0x810 P) {v0} {v1} {v2} (k0 : P v0) : P (State.setDesc v0 v1 v2) := by
  unfold State.setDesc
  exact (State.schedStore_inv (c.mono rfl) (State.updSched_inv (c.mono rfl) k0))
theorem State.updDesc_inv (c : Clo 0x810 P) {v0} {v1} {v2} (k0 : P v0) : P (State.updDesc v0 v1 v2) := by
  unfold State.updDesc
  exact (State.setDesc_inv (c.mono rfl) k0)
theorem State.linkTo_inv (c : Clo 0x810 P) {v0} {v1} {v2} (k0 : P v0) : P (State.linkTo v0 v1 v2) := by
  unfold State.linkTo
  split
  ·
    rename_i y1 y2
    exact (State.updDesc_inv (c.mono rfl) k0)
  ·
    rename_i y3
    exact k0
theorem State.unlinkFrom_inv (c : Clo 0x810 P) {v0} {v1} {v2} (k0 : P v0) : P (State.unlinkFrom v0 v1 v2) := by
  unfold State.unlinkFrom
  exact (State.linkTo_inv (c.mono rfl) k0)
theorem State.takeFree_inv (c : Clo 0x800 P) {v0} (k0 : P v0) : P (State.takeFree v0) := by
  unfold State.takeFree
  exact (State.updSched_inv (c.mono rfl) k0)
theorem State.freeDesc_inv (c : Clo 0x810 P) {v0} {v1} (k0 : P v0) : P (State.freeDesc v0 v1) := by
  unfold State.freeDesc
  extract_lets +onlyGivenNames -merge x1 x2
  have h3 : P x2 := by unfold x2; exact (State.schedStore_inv (c.mono rfl) k0)
  clear_value x1 x2
  exact (State.updSched_inv (c.mono rfl) h3)
theorem State.meadowInit_inv (c : Clo 0x800 P) {v0} (k0 : P v0) : P (State.meadowInit v0) := by
  unfold State.meadowInit
  exact (State.updSched_inv (c.mono rfl) k0)
theorem State.meadowStore_inv (c : Clo 0x10 P) {v0} (k0 : P v0) : P (State.meadowStore v0) := by
  unfold State.meadowStore
  extract_lets +onlyGivenNames -merge x1
  have h2 : P x1 := by unfold x1; exact (State.each_inv (c.mono rfl) k0 (fun _ _ h3 => (State.schedStore_inv (c.mono rfl) h3)))
  clear_value x1
  exact (State.each_inv (c.mono rfl) h2 (fun _ _ h4 => (State.schedStore_inv (c.mono rfl) h4)))
theorem State.cacheMatch_inv (c : Clo 0x400802 P) {v0} {v1} (k0 : P v0) : P (State.cacheMatch v0 v1) := by
  unfold State.cacheMatch
  extract_lets +onlyGivenNames -merge x1 x2
  have h3 : P x2 := by unfold x2; exact (c.odClear rfl _ k0)
  clear_value x1 x2
  exact (ite_p (fun _ => h3) (fun _ => (ite_p (fun _ => (State.updSched_inv (c.mono rfl) h3)) (fun _ => (c.drawn rfl  (State.updSched_inv (c.mono rfl) h3))))))
theorem State.fetchSet_inv (c : Clo 0x10 P) {v0} {v1} (k0 : P v0) : P (State.fetchSet v0 v1) := by
  unfold State.fetchSet
  extract_lets +onlyGivenNames -merge x1
  clear_value x1
  exact (ite_p (fun _ => k0) (fun _ => (State.sendPost_inv (c.mono rfl) k0)))
theorem State.putMatch_inv (c : Clo 0x810 P) {v0} {v1} {v2} (k0 : P v0) : P (State.putMatch v0 v1 v2) := by
  unfold State.putMatch
  extract_lets +onlyGivenNames -merge x1
  clear_value x1
  exact (State.schedStore_inv (c.mono rfl) (State.updSched_inv (c.mono rfl) k0))
theorem State.dropMatch_inv (c : Clo 0x810 P) {v0} {v1} (k0 : P v0) : P (State.dropMatch v0 v1) := by
  unfold State.dropMatch
  extract_lets +onlyGivenNames -merge x1 x2
  have h3 : P x2 := by unfold x2; exact (State.updSched_inv (c.mono rfl) k0)
  clear_value x1 x2
  exact (ite_p (fun _ => h3) (fun _ => (State.schedStore_inv (c.mono rfl) h3)))
theorem State.setFlow_inv (c : Clo 0x810 P) {v0} {v1} {v2} (k0 : P v0) : P (State.setFlow v0 v1 v2) := by
  unfold State.setFlow
  exact (State.schedStore_inv (c.mono rfl) (State.updSched_inv (c.mono rfl) k0))
theorem State.updFlow_inv (c : Clo 0x810 P) {v0} {v1} {v2} (k0 : P v0) : P (State.updFlow v0 v1 v2) := by
  unfold State.updFlow
  exact (State.setFlow_inv (c.mono rfl) k0)
theorem State.updPipe_inv (c : Clo 0x800 P) {v0} {v1} {v2} (k0 : P v0) : P (State.updPipe v0 v1 v2) := by
  unfold State.updPipe
  exact (State.updSched_inv (c.mono rfl) k0)
theorem State.listFlow_inv (c : Clo 0x800 P) {v0} {v1} (k0 : P v0) : P (State.listFlow v0 v1) := by
  unfold State.listFlow
  extract_lets +onlyGivenNames -merge x1
  clear_value x1
  exact (ite_p (fun _ => k0) (fun _ => (State.updPipe_inv (c.mono rfl) k0)))
theorem State.joinFlow_inv (c : Clo 0x810 P) {v0} {v1} {v2} (k0 : P v0) : P (State.joinFlow v0 v1 v2) := by
  unfold State.joinFlow
  extract_lets +onlyGivenNames -merge x1 x2
  have h3 : P x2 := by unfold x2; exact (ite_p (fun _ => (State.linkTo_inv (c.mono rfl) k0)) (fun _ => k0))
  clear_value x1 x2
  exact (State.listFlow_inv (c.mono rfl) (State.updFlow_inv (c.mono rfl) h3))
theorem State.updGrp_inv (c : Clo 0x800 P) {v0} {v1} {v2} (k0 : P v0) : P (State.updGrp v0 v1 v2) := by
  unfold State.updGrp
  exact (State.updSched_inv (c.mono rfl) k0)
theorem State.admitTask_inv (c : Clo 0x810 P) {v0} {v1} {v2} (k0 : P v0) : P (State.admitTask v0 v1 v2) := by
  unfold State.admitTask
  extract_lets +onlyGivenNames -merge x1 x2 x4 x6
  have h3 : P x2 := by unfold x2; exact (State.linkTo_inv (c.mono rfl) k0)
  have h5 : P x4 := by unfold x4; exact (State.updDesc_inv (c.mono rfl) h3)
  have h7 : P x6 := by unfold x6; exact (State.updGrp_inv (c.mono rfl) h5)
  clear_value x1 x2 x4 x6
  exact (State.joinFlow_inv (c.mono rfl) h7)
theorem State.makeReady_inv (c : Clo 0x810 P) {v0} {v1} (k0 : P v0) : P (State.makeReady v0 v1) := by
  unfold State.makeReady
  extract_lets +onlyGivenNames -merge x1 x3
  have h2 : P x1 := by unfold x1; exact (State.updDesc_inv (c.mono rfl) k0)
  clear_value x1 x3
  exact (ite_p (fun _ => (ite_p (fun _ => (State.updGrp_inv (c.mono rfl) (State.linkTo_inv (c.mono rfl) h2))) (fun _ => (State.admitTask_inv (c.mono rfl) h2)))) (fun _ => (State.joinFlow_inv (c.mono rfl) h2)))
theorem State.admitOverflow_inv (c : Clo 0x39f0304400710000040004004041300000000021c94020101c08400000004000bffe P) {v0} {v1} (k0 : P v0) : P (State.admitOverflow v0 v1) := by
  unfold State.admitOverflow
  split
  ·
    rename_i y1 y2 y3 y4
    exact (ite_p (fun _ => (ite_p (fun _ => (State.booksFault_inv (c.mono rfl) k0)) (fun _ => (State.admitTask_inv (c.mono rfl) (State.updGrp_inv (c.mono rfl) k0))))) (fun _ => k0))
  ·
    rename_i y5 y6
    exact k0
theorem State.post_inv (c : Clo 0x810 P) {v0} {v1} (k0 : P v0) : P (State.post v0 v1) := by
  unfold State.post
  extract_lets +onlyGivenNames -merge x1
  clear_value x1
  exact (ite_p (fun _ => (State.freeDesc_inv (c.mono rfl) k0)) (fun _ => (State.updSched_inv (c.mono rfl) k0)))
theorem State.release_inv (c : Clo 0x39f0304400710000040004004041300000000021c94020101c08400000004000bffe P) {v0} {v1} {v2} (k1 : P v1) : P (State.release v0 v1 v2) := by
  induction v0 generalizing v1 k1 v2 with
  | zero =>
    rw [State.release]
    exact k1
  | succ n ih =>
    rw [State.release]
    split
    ·
      rename_i y1 y2 y3 y4
      refine ite_p (fun _ => (State.booksFault_inv (c.mono rfl) k1)) (fun _ => ?_)
      refine ite_p (fun _ => ?_) (fun _ => k1)
      extract_lets +onlyGivenNames -merge x5
      have h6 : P x5 := by unfold x5; exact (State.updGrp_inv (c.mono rfl) k1)
      clear_value x5
      exact (by apply ih; exact (State.admitOverflow_inv (c.mono rfl) (State.post_inv (c.mono rfl) h6)))
    ·
      rename_i y7 y8
      exact k1
theorem State.updDelay_inv (c : Clo 0x800 P) {v0} {v1} {v2} (k0 : P v0) : P (State.updDelay v0 v1 v2) := by
  unfold State.updDelay
  exact (State.updSched_inv (c.mono rfl) k0)
theorem State.insertDelay_inv (c : Clo 0x810 P) {v0} {v1} {v2} {v3} (k0 : P v0) : P (State.insertDelay v0 v1 v2 v3) := by
  unfold State.insertDelay
  extract_lets +onlyGivenNames -merge x1
  clear_value x1
  split
  ·
    rename_i y2 y3
    exact (State.updDelay_inv (c.mono rfl) k0)
  ·
    rename_i y4 y5 y6 y7
    exact (ite_p (fun _ => (State.updDelay_inv (c.mono rfl) (State.linkTo_inv (c.mono rfl) k0))) (fun _ => (State.updDelay_inv (c.mono rfl) k0)))
theorem State.makeDelayed_inv (c : Clo 0x810 P) {v0} {v1} (k0 : P v0) : P (State.makeDelayed v0 v1) := by
  unfold State.makeDelayed
  extract_lets +onlyGivenNames -merge x1 x2 x3 x5
  have h4 : P x3 := by unfold x3; exact (State.updDesc_inv (c.mono rfl) k0)
  clear_value x1 x2 x3 x5
  exact (ite_p (fun _ => (State.updDelay_inv (c.mono rfl) h4)) (fun _ => (State.insertDelay_inv (c.mono rfl) h4)))
theorem State.delayWalk_inv (c : Clo 0x39f0304400710000040004004041300000000021c94020101c08400000004000bffe P) {v0} {v1} (k0 : P v0) : P (State.delayWalk v0 v1) := by
  unfold State.delayWalk
  extract_lets +onlyGivenNames -merge x1
  clear_value x1
  refine ite_p (fun _ => (State.booksFault_inv (c.mono rfl) k0)) (fun _ => ?_)
  split
  ·
    rename_i y2 y3 y4 y5 y6
    split
    ·
      rename_i y7 y8 y9 y10
      refine ite_p (fun _ => (State.updDelay_inv (c.mono rfl) k0)) (fun _ => ?_)
      extract_lets +onlyGivenNames -merge x11 x13
      have h12 : P x11 := by unfold x11; exact (State.linkTo_inv (c.mono rfl) k0)
      have h14 : P x13 := by unfold x13; exact (State.linkTo_inv (c.mono rfl) h12)
      clear_value x11 x13
      exact (State.updDelay_inv (c.mono rfl) h14)
    ·
      rename_i y15 y16
      exact (State.updDelay_inv (c.mono rfl) (State.linkTo_inv (c.mono rfl) k0))
  ·
    rename_i y17 y18
    split
    ·
      rename_i y19 y20 y21 y22 y23
      exact (State.insertDelay_inv (c.mono rfl) (State.updDelay_inv (c.mono rfl) k0))
    ·
      rename_i y24 y25
      exact k0
theorem State.delayExpire_inv (c : Clo 0x39f0304400710000040004004041300000000021c94020101c08400000004000bffe P) {v0} {v1} (k0 : P v0) : P (State.delayExpire v0 v1) := by
  unfold State.delayExpire
  split
  ·
    rename_i y1 y2 y3 y4 y5
    exact (ite_p (fun _ => (ite_p (fun _ => (State.booksFault_inv (c.mono rfl) k0)) (fun _ => (State.makeReady_inv (c.mono rfl) (State.updDelay_inv (c.mono rfl) k0))))) (fun _ => k0))
  ·
    rename_i y6 y7
    exact k0
theorem State.refuseRec_inv (c : Clo 0x4000200000000000000000000000000800 P) {v0} {v1} (k0 : P v0) : P (State.refuseRec v0 v1) := by
  unfold State.refuseRec
  extract_lets +onlyGivenNames -merge x1 x3
  have h2 : P x1 := by unfold x1; exact (c.setF rfl (c.inc rfl k0))
  have h4 : P x3 := by unfold x3; exact (c.setF rfl h2)
  clear_value x1 x3
  exact (State.updSched_inv (c.mono rfl) h4)
theorem State.completeInst_inv (c : Clo 0x810 P) {v0} {v1} {v2} (k0 : P v0) : P (State.completeInst v0 v1 v2) := by
  unfold State.completeInst
  extract_lets +onlyGivenNames -merge x1
  have h2 : P x1 := by unfold x1; exact (State.updSched_inv (c.mono rfl) k0)
  clear_value x1
  exact (ite_p (fun _ => (State.makeReady_inv (c.mono rfl) h2)) (fun _ => (State.makeDelayed_inv (c.mono rfl) h2)))
theorem State.recFetch_inv (c : Clo 0x10 P) {v0} {v1} (k0 : P v0) : P (State.recFetch v0 v1) := by
  unfold State.recFetch
  exact (State.fetchSet_inv (c.mono rfl) k0)
theorem State.handleRec_inv (c : Clo 0x39f0304400710000040004004041300000400021c94020101c08400000004000bffe P) {v0} {v1} (k0 : P v0) : (SndP P) (State.handleRec v0 v1) := by
  unfold State.handleRec
  extract_lets +onlyGivenNames -merge x1 x2 x3 x4 x5
  clear_value x1 x2 x3 x4 x5
  refine ite_p (fun _ => (mk_snd k0)) (fun _ => ?_)
  refine ite_p (fun _ => (mk_snd (State.refuseRec_inv (c.mono rfl) k0))) (fun _ => ?_)
  refine ite_p (fun _ => (mk_snd (State.refuseRec_inv (c.mono rfl) k0))) (fun _ => ?_)
  extract_lets +onlyGivenNames -merge x6
  clear_value x6
  refine ite_p (fun _ => ?_) (fun _ => ?_)
  ·
    split
    ·
      rename_i y7 y8
      exact (mk_snd k0)
    ·
      rename_i y9 y10 y11
      exact (ite_p (fun _ => (mk_snd (State.booksFault_inv (c.mono rfl) k0))) (fun _ => (ite_p (fun _ => (mk_snd k0)) (fun _ => (mk_snd (State.completeInst_inv (c.mono rfl) (State.setDesc_inv (c.mono rfl) (State.takeFree_inv (c.mono rfl) k0))))))))
  ·
    refine ite_p (fun _ => (mk_snd (State.fetchSet_inv (c.mono rfl) k0))) (fun _ => ?_)
    refine ite_p (fun _ => (mk_snd (State.booksFault_inv (c.mono rfl) k0))) (fun _ => ?_)
    split
    ·
      rename_i y12 y13
      split
      ·
        rename_i y14 y15
        exact (mk_snd k0)
      ·
        rename_i y16 y17 y18
        refine ite_p (fun _ => (mk_snd k0)) (fun _ => ?_)
        refine ite_p (fun _ => (mk_snd (State.booksFault_inv (c.mono rfl) k0))) (fun _ => ?_)
        extract_lets +onlyGivenNames -merge x19
        have h20 : P x19 := by unfold x19; exact (State.putMatch_inv (c.mono rfl) (State.setDesc_inv (c.mono rfl) (State.takeFree_inv (c.mono rfl) k0)))
        clear_value x19
        exact (mk_snd (State.updSched_inv (c.mono rfl) h20))
    ·
      rename_i y21 y22 y23
      extract_lets +onlyGivenNames -merge x24
      clear_value x24
      refine ite_p (fun _ => (mk_snd (State.booksFault_inv (c.mono rfl) k0))) (fun _ => ?_)
      refine ite_p (fun _ => (mk_snd (State.refuseRec_inv (c.mono rfl) k0))) (fun _ => ?_)
      extract_lets +onlyGivenNames -merge x25
      clear_value x25
      refine ite_p (fun _ => ?_) (fun _ => (mk_snd (State.updSched_inv (c.mono rfl) (State.setDesc_inv (c.mono rfl) k0))))
      refine ite_p (fun _ => (mk_snd (State.booksFault_inv (c.mono rfl) k0))) (fun _ => ?_)
      refine ite_p (fun _ => (mk_snd k0)) (fun _ => ?_)
      extract_lets +onlyGivenNames -merge x26
      have h27 : P x26 := by unfold x26; exact (State.dropMatch_inv (c.mono rfl) k0)
      clear_value x26
      exact (mk_snd (State.completeInst_inv (c.mono rfl) (State.setDesc_inv (c.mono rfl) h27)))

/-! ### Sched -/

theorem State.setTok_inv (c : Clo 0x800 P) {v0} {v1} {v2} (k0 : P v0) : P (State.setTok v0 v1 v2) := by
  unfold State.setTok
  exact (State.updSched_inv (c.mono rfl) k0)
theorem State.tokAnswer_inv (c : Clo 0x10 P) {v0} {v1} {v2} (k0 : P v0) : P (State.tokAnswer v0 v1 v2) := by
  unfold State.tokAnswer
  exact (State.inject_inv (c.mono rfl) k0)
theorem State.tokShut_inv (c : Clo 0x788000000000000000000000000000000000000000000000000000000000000000000818 P) {v0} {v1} (k0 : P v0) : P (State.tokShut v0 v1) := by
  unfold State.tokShut
  exact (State.refuse_inv (c.mono rfl) (State.updSched_inv (c.mono rfl) k0))
theorem State.takeToken_inv (c : Clo 0x788000000000000000000000000000000000000000000000000000000000000000000818 P) {v0} {v1} (k0 : P v0) : P (State.takeToken v0 v1) := by
  unfold State.takeToken
  refine ite_p (fun _ => k0) (fun _ => ?_)
  split
  ·
    rename_i y1 y2
    exact k0
  ·
    rename_i y3 y4 y5 y6
    have q8 := congr_p (Q := (OptP (SndP P))) y6 (by
        exact (State.takeOn_inv (c.mono rfl) k0)
      )
    have h7 : P y5 := q8
    exact (ite_p (fun _ => (State.tokShut_inv (c.mono rfl) h7)) (fun _ => (ite_p (fun _ => (State.tokAnswer_inv (c.mono rfl) h7)) (fun _ => (State.setTok_inv (c.mono rfl) h7)))))
theorem State.commitPost_inv (c : Clo 0x8 P) {v0} {v1} (k0 : P v0) : P (State.commitPost v0 v1) := by
  unfold State.commitPost
  exact (ite_p (fun _ => (State.updMail_inv (c.mono rfl) k0)) (fun _ => k0))
theorem State.tokenRecord_inv (c : Clo 0x39f0304400710000040004004041300000400021c94020101c08400000004000bffe P) {v0} {v1} (k0 : P v0) : P (State.tokenRecord v0 v1) := by
  unfold State.tokenRecord
  split
  ·
    rename_i y1 y2
    exact k0
  ·
    rename_i y3 y4 y5 y6 y7
    refine ite_p (fun _ => k0) (fun _ => ?_)
    refine ite_p (fun _ => (State.recFetch_inv (c.mono rfl) k0)) (fun _ => ?_)
    extract_lets +onlyGivenNames -merge x8
    have h9 : P x8 := by unfold x8; exact (State.commitPost_inv (c.mono rfl) k0)
    clear_value x8
    split
    ·
      rename_i y10 y11 y12 y13
      have q15 := congr_p (Q := (SndP P)) y13 (by
          exact (State.handleRec_inv (c.mono rfl) h9)
        )
      have h14 : P y12 := q15
      extract_lets +onlyGivenNames -merge x16
      clear_value x16
      exact (ite_p (fun _ => (State.tokAnswer_inv (c.mono rfl) (State.setTok_inv (c.mono rfl) h14))) (fun _ => (State.setTok_inv (c.mono rfl) h14)))
theorem State.sendDispatch_inv (c : Clo 0x39f0304400710000040004004041300000000021c94020101c08400000004000bffe P) {v0} {v1} (k0 : P v0) : P (State.sendDispatch v0 v1) := by
  unfold State.sendDispatch
  extract_lets +onlyGivenNames -merge x1
  clear_value x1
  split
  ·
    rename_i y2 y3 y4 y5
    extract_lets +onlyGivenNames -merge x6 x7
    clear_value x6 x7
    exact (ite_p (fun _ => (State.booksFault_inv (c.mono rfl) k0)) (fun _ => (State.sendPost_inv (c.mono rfl) k0)))
theorem State.setWants_inv (c : Clo 0x800 P) {v0} {v1} {v2} (k0 : P v0) : P (State.setWants v0 v1 v2) := by
  unfold State.setWants
  exact (State.updSched_inv (c.mono rfl) k0)
theorem State.wantPlane_inv (c : Clo 0x800 P) {v0} {v1} {v2} (k0 : P v0) : P (State.wantPlane v0 v1 v2) := by
  unfold State.wantPlane
  exact (State.setWants_inv (c.mono rfl) k0)
theorem State.schedSwitch_inv (c : Clo 0x1c140000000000000000000002858 P) {v0} {v1} {v2} (k0 : P v0) : P (State.schedSwitch v0 v1 v2) := by
  unfold State.schedSwitch
  refine ite_p (fun _ => k0) (fun _ => ?_)
  extract_lets +onlyGivenNames -merge x1
  have h2 : P x1 := by unfold x1; exact (State.wantPlane_inv (c.mono rfl) k0)
  clear_value x1
  exact (State.askSwitch_inv (c.mono rfl) h2)
theorem State.commitTo_inv (c : Clo 0x39f0304400710000040004004041300000200021c94020101c08400000004000bffe P) {v0} {v1} {v2} {v3} {v4} {v5} (k0 : P v0) : P (State.commitTo v0 v1 v2 v3 v4 v5) := by
  unfold State.commitTo
  extract_lets +onlyGivenNames -merge x1 x2 x4 x6 x8 x10 x11 x13 x20
  have h3 : P x2 := by unfold x2; exact (State.updDesc_inv (c.mono rfl) k0)
  have h5 : P x4 := by unfold x4; exact (State.setFlow_inv (c.mono rfl) h3)
  have h7 : P x6 := by unfold x6; exact (State.updPipe_inv (c.mono rfl) h5)
  have h9 : P x8 := by unfold x8; exact (c.incW rfl h7)
  have h12 : P x11 := by unfold x11; exact (State.updSched_inv (c.mono rfl) h9)
  have h14 : P x13 := by
    unfold x13
    split
    ·
      rename_i y15 y16 y17
      exact (ite_p (fun _ => (c.updRoom rfl _ _ h12)) (fun _ => h12))
    ·
      rename_i y18 y19
      exact h12
  have h21 : P x20 := by unfold x20; exact (ite_p (fun _ => (State.schedSwitch_inv (c.mono rfl) h14)) (fun _ => h9))
  clear_value x1 x2 x4 x6 x8 x10 x11 x13 x20
  exact (ite_p (fun _ => h21) (fun _ => (State.sendDispatch_inv (c.mono rfl) h21)))
theorem State.loadFailed_inv (c : Clo 0x10000200000000000000000000000100000 P) {v0} {v1} {v2} (k0 : P v0) : P (State.loadFailed v0 v1 v2) := by
  unfold State.loadFailed
  extract_lets +onlyGivenNames -merge x1
  have h2 : P x1 := by unfold x1; exact (c.inc rfl (c.setF rfl k0))
  clear_value x1
  split
  ·
    rename_i y3 y4
    exact (ite_p (fun _ => (c.setLoc rfl h2)) (fun _ => h2))
  ·
    rename_i y5
    exact h2
theorem State.tryLoads_inv (c : Clo 0x10000200c40000000000000000000100040 P) {v0} {v1} {v2} {v3} {v4} (k0 : P v0) : (SndP P) (State.tryLoads v0 v1 v2 v3 v4) := by
  induction v4 generalizing v0 k0 v1 v2 v3 with
  | nil =>
    rw [State.tryLoads]
    exact (mk_snd k0)
  | cons z t ih =>
    rw [State.tryLoads]
    refine ite_p (fun _ => (by apply ih; exact k0)) (fun _ => ?_)
    refine ite_p (fun _ => (by apply ih; exact k0)) (fun _ => ?_)
    split
    ·
      rename_i y1 y2
      exact (by apply ih; exact k0)
    ·
      rename_i y3 y4 y5
      split
      ·
        rename_i y6 y7 y8 y9
        have q11 := congr_p (Q := (SndP P)) y9 (by
            exact (State.askLoad_inv (c.mono rfl) k0)
          )
        have h10 : P y8 := q11
        exact (ite_p (fun _ => (mk_snd h10)) (fun _ => (ite_p (fun _ => (by apply ih; exact h10)) (fun _ => (by apply ih; exact (State.loadFailed_inv (c.mono rfl) h10))))))
theorem State.flowToTail_inv (c : Clo 0x800 P) {v0} {v1} {v2} (k0 : P v0) : P (State.flowToTail v0 v1 v2) := by
  unfold State.flowToTail
  extract_lets +onlyGivenNames -merge x1
  clear_value x1
  exact (State.updPipe_inv (c.mono rfl) k0)
theorem State.beforeTook_inv (c : Clo 0x40000000000000000000000840 P) {v0} {v1} (k0 : P v0) : P (State.beforeTook v0 v1) := by
  unfold State.beforeTook
  refine State.each_inv (c.mono rfl) k0 ?_
  intro a4 a5 h3
  split
  ·
    rename_i y6 y7
    exact h3
  ·
    rename_i y8 y9 y10
    extract_lets +onlyGivenNames -merge x11 x12
    have h13 : P x12 := by unfold x12; exact (State.updSched_inv (c.mono rfl) h3)
    clear_value x11 x12
    refine ite_p (fun _ => h13) (fun _ => ?_)
    extract_lets +onlyGivenNames -merge x14
    have h15 : P x14 := by unfold x14; exact (State.updSched_inv (c.mono rfl) h13)
    clear_value x14
    split
    ·
      rename_i y16 y17 y18
      exact (ite_p (fun _ => (c.updRoom rfl _ _ (State.setPlaneState_inv (c.mono rfl) h15))) (fun _ => h15))
    ·
      rename_i y19 y20
      exact h15
theorem State.placeFlow_inv (c : Clo 0x39f0304400710000040004004041300001200021cd4020101c08400000004010bffe P) {v0} {v1} {v2} {v3} (k0 : P v0) : P (State.placeFlow v0 v1 v2 v3) := by
  unfold State.placeFlow
  extract_lets +onlyGivenNames -merge x1 x2
  clear_value x1 x2
  refine ite_p (fun _ => k0) (fun _ => ?_)
  refine ite_p (fun _ => ?_) (fun _ => ?_)
  ·
    split
    ·
      rename_i y3 y4 y5
      exact (State.commitTo_inv (c.mono rfl) k0)
    ·
      rename_i y6 y7
      exact (State.flowToTail_inv (c.mono rfl) k0)
  ·
    extract_lets +onlyGivenNames -merge x8
    clear_value x8
    split
    ·
      rename_i y9 y10 y11
      exact (State.commitTo_inv (c.mono rfl) k0)
    ·
      rename_i y12 y13
      split
      ·
        rename_i y14 y15 y16 y17
        have q19 := congr_p (Q := (SndP P)) y17 (by
            exact (State.tryLoads_inv (c.mono rfl) k0)
          )
        have h18 : P y16 := q19
        split
        ·
          rename_i y20 y21
          exact (State.commitTo_inv (c.mono rfl) h18)
        ·
          rename_i y22
          exact (State.flowToTail_inv (c.mono rfl) h18)
theorem State.returnTask_inv (c : Clo 0x39f0304400710000040004004041300000000021c94020101c08400000004000bffe P) {v0} {v1} (k0 : P v0) : P (State.returnTask v0 v1) := by
  unfold State.returnTask
  extract_lets +onlyGivenNames -merge x1 x2
  clear_value x1 x2
  refine ite_p (fun _ => (State.booksFault_inv (c.mono rfl) k0)) (fun _ => ?_)
  extract_lets +onlyGivenNames -merge x3 x5
  have h4 : P x3 := by unfold x3; exact (State.updDesc_inv (c.mono rfl) k0)
  have h6 : P x5 := by unfold x5; exact (ite_p (fun _ => (c.updRoom rfl _ _ h4)) (fun _ => h4))
  clear_value x3 x5
  exact (State.listFlow_inv (c.mono rfl) (State.updFlow_inv (c.mono rfl) h6))
theorem State.schedLoads_inv (c : Clo 0x39f0304400710000040004004041300001000021c94020101c08400000004010bffe P) {v0} (k0 : P v0) : P (State.schedLoads v0) := by
  unfold State.schedLoads
  extract_lets +onlyGivenNames -merge x1
  clear_value x1
  refine State.each_inv (c.mono rfl) (State.updSched_inv (c.mono rfl) k0) ?_
  intro a5 a6 h4
  split
  ·
    rename_i y7 y8 y9 y10 y11 y12
    split
    ·
      rename_i y13
      exact h4
    ·
      rename_i y14 y15
      extract_lets +onlyGivenNames -merge x16
      clear_value x16
      refine ite_p (fun _ => (ite_p (fun _ => (State.sendDispatch_inv (c.mono rfl) h4)) (fun _ => h4))) (fun _ => ?_)
      extract_lets +onlyGivenNames -merge x17
      have h18 : P x17 := by unfold x17; exact (State.loadFailed_inv (c.mono rfl) h4)
      clear_value x17
      exact (ite_p (fun _ => (State.returnTask_inv (c.mono rfl) h18)) (fun _ => h18))
theorem State.dispatchPipe_inv (c : Clo 0x39f0304400710000040004004041300001200021cd4020101c08400000004010bffe P) {v0} {v1} (k0 : P v0) : P (State.dispatchPipe v0 v1) := by
  unfold State.dispatchPipe
  extract_lets +onlyGivenNames -merge x1 x3 x5
  have h2 : P x1 := by unfold x1; exact (State.schedLoads_inv (c.mono rfl) k0)
  have h4 : P x3 := by unfold x3; exact (State.updPipe_inv (c.mono rfl) h2)
  clear_value x1 x3 x5
  refine ite_p (fun _ => h4) (fun _ => ?_)
  split
  ·
    rename_i y6 y7
    exact h4
  ·
    rename_i y8 y9 y10
    split
    ·
      rename_i y11 y12
      exact (State.updPipe_inv (c.mono rfl) h4)
    ·
      rename_i y13 y14 y15
      exact (ite_p (fun _ => (State.booksFault_inv (c.mono rfl) h4)) (fun _ => (State.placeFlow_inv (c.mono rfl) h4)))
theorem State.dispatchAnswered_inv (c : Clo 0x39f0304400710000040004004041300000000021c94020101c08400000004000bffe P) {v0} {v1} {v2} (k0 : P v0) : P (State.dispatchAnswered v0 v1 v2) := by
  unfold State.dispatchAnswered
  extract_lets +onlyGivenNames -merge x1 x2 x3
  clear_value x1 x2 x3
  exact (ite_p (fun _ => k0) (fun _ => (ite_p (fun _ => (State.sendDispatch_inv (c.mono rfl) k0)) (fun _ => (State.returnTask_inv (c.mono rfl) k0)))))
theorem State.sendTokens_inv (c : Clo 0x10 P) {v0} {v1} (k0 : P v0) : P (State.sendTokens v0 v1) := by
  unfold State.sendTokens
  exact (State.sendPost_inv (c.mono rfl) k0)
theorem State.schedAnswered_inv (c : Clo 0x39f0304400710000040004004041300000000021c94020101c08400000004040bffe P) {v0} {v1} {v2} (k0 : P v0) : P (State.schedAnswered v0 v1 v2) := by
  unfold State.schedAnswered
  exact (ite_p (fun _ => (ite_p (fun _ => (State.sendTokens_inv (c.mono rfl) k0)) (fun _ => k0))) (fun _ => (ite_p (fun _ => (State.dispatchAnswered_inv (c.mono rfl) k0)) (fun _ => (ite_p (fun _ => (State.booksFault_inv (c.mono rfl) k0)) (fun _ => (ite_p (fun _ => (State.cacheMatch_inv (c.mono rfl) k0)) (fun _ => (State.postAnswered_inv (c.mono rfl) k0)))))))))
theorem State.dispatchResponse_inv (c : Clo 0x2000039f0304400710000040004004041300000000021c94020101c08400000004040bffe P) {v0} (k0 : P v0) : P (State.dispatchResponse v0) := by
  unfold State.dispatchResponse
  split
  ·
    rename_i y1 y2
    exact k0
  ·
    rename_i y3 y4 y5 y6
    have q8 := congr_p (Q := (OptP (SndP P))) y6 (by
        exact (State.take_inv (c.mono rfl) k0)
      )
    have h7 : P y5 := q8
    split
    ·
      rename_i y9 y10 y11 y12
      have q14 := congr_p (Q := (SndP P)) y12 (by
          exact (State.matchRsp_inv (c.mono rfl) h7)
        )
      have h13 : P y11 := q14
      split
      ·
        rename_i y15 y16
        exact (State.pumpPosts_inv (c.mono rfl) (State.schedAnswered_inv (c.mono rfl) h13))
      ·
        rename_i y17
        exact h13
theorem State.switchRepeat_inv (c : Clo 0x1c140000000000000000000002858 P) {v0} {v1} (k0 : P v0) : P (State.switchRepeat v0 v1) := by
  unfold State.switchRepeat
  extract_lets +onlyGivenNames -merge x1 x2
  have h3 : P x2 := by unfold x2; exact (State.setWants_inv (c.mono rfl) k0)
  clear_value x1 x2
  split
  ·
    rename_i y4
    exact h3
  ·
    rename_i y5 y6 y7
    exact (ite_p (fun _ => h3) (fun _ => (State.askSwitch_inv (c.mono rfl) h3)))
theorem State.schedDrained_inv (c : Clo 0x200000000000000000000000002818 P) {v0} (k0 : P v0) : P (State.schedDrained v0) := by
  unfold State.schedDrained
  refine ite_p (fun _ => ?_) (fun _ => k0)
  extract_lets +onlyGivenNames -merge x1
  clear_value x1
  exact (State.each_inv (c.mono rfl) (State.updSched_inv (c.mono rfl) (c.setF rfl k0)) (fun _ _ h2 => (State.respond_inv (c.mono rfl) h2)))
theorem State.resumePreempted_inv (c : Clo 0x1c140000000000000000000002858 P) {v0} {v1} (k0 : P v0) : P (State.resumePreempted v0 v1) := by
  unfold State.resumePreempted
  extract_lets +onlyGivenNames -merge x1
  clear_value x1
  refine ite_p (fun _ => (c.updRoom rfl _ _ k0)) (fun _ => ?_)
  split
  ·
    rename_i y2 y3 y4
    exact (State.schedSwitch_inv (c.mono rfl) (c.updRoom rfl _ _ k0))
  ·
    rename_i y5 y6
    exact k0
theorem State.taskDone_inv (c : Clo 0x39f0304400710000040004004041300000000021c94020101c08400000004000bffe P) {v0} {v1} {v2} {v3} (k0 : P v0) : P (State.taskDone v0 v1 v2 v3) := by
  unfold State.taskDone
  extract_lets +onlyGivenNames -merge x1 x2 x4 x5 x7 x9 x10
  have h3 : P x2 := by unfold x2; exact (State.setDesc_inv (c.mono rfl) k0)
  have h6 : P x5 := by unfold x5; exact (State.listFlow_inv (c.mono rfl) (State.updFlow_inv (c.mono rfl) h3))
  have h8 : P x7 := by unfold x7; exact (ite_p (fun _ => (State.resumePreempted_inv (c.mono rfl) h6)) (fun _ => h6))
  have h11 : P x10 := by unfold x10; exact (ite_p (fun _ => (State.release_inv (c.mono rfl) h8)) (fun _ => (State.post_inv (c.mono rfl) h8)))
  clear_value x1 x2 x4 x5 x7 x9 x10
  exact (State.schedDrained_inv (c.mono rfl) h11)
theorem State.doneArrives_inv (c : Clo 0x39f0304400710000040004004041300000800021c94020101c08400000004000bffe P) {v0} {v1} (k0 : P v0) : P (State.doneArrives v0 v1) := by
  unfold State.doneArrives
  extract_lets +onlyGivenNames -merge x1 x2 x3 x4
  clear_value x1 x2 x3 x4
  split
  ·
    rename_i y5
    exact (c.setF rfl (c.inc rfl k0))
  ·
    rename_i y6 y7
    exact (ite_p (fun _ => (State.booksFault_inv (c.mono rfl) k0)) (fun _ => (State.taskDone_inv (c.mono rfl) k0)))
theorem State.done_inv (c : Clo 0x39f0304400710000040004004041300000800021c94020101c08400000004000bffe P) {v0} (k0 : P v0) : P (State.done v0) := by
  unfold State.done
  refine ite_p (fun _ => k0) (fun _ => ?_)
  split
  ·
    rename_i y1 y2
    exact k0
  ·
    rename_i y3 y4 y5 y6
    have q8 := congr_p (Q := (OptP (SndP P))) y6 (by
        exact (State.takeOn_inv (c.mono rfl) k0)
      )
    have h7 : P y5 := q8
    exact (State.doneArrives_inv (c.mono rfl) h7)
theorem State.postRecord_inv (c : Clo 0x39f0304400710000040004004041300000400021c94020101c08400000004000bffe P) {v0} (k0 : P v0) : P (State.postRecord v0) := by
  unfold State.postRecord
  split
  ·
    rename_i y1 y2
    exact k0
  ·
    rename_i y3 y4 y5 y6
    refine ite_p (fun _ => (State.booksFault_inv (c.mono rfl) k0)) (fun _ => ?_)
    split
    ·
      rename_i y7 y8
      exact (State.freeDesc_inv (c.mono rfl) (State.updSched_inv (c.mono rfl) k0))
    ·
      rename_i y9 y10 y11 y12
      refine ite_p (fun _ => k0) (fun _ => ?_)
      refine ite_p (fun _ => (State.recFetch_inv (c.mono rfl) k0)) (fun _ => ?_)
      split
      ·
        rename_i y13 y14 y15 y16
        have q18 := congr_p (Q := (SndP P)) y16 (by
            exact (State.handleRec_inv (c.mono rfl) k0)
          )
        have h17 : P y15 := q18
        refine ite_p (fun _ => h17) (fun _ => ?_)
        extract_lets +onlyGivenNames -merge x19
        have h20 : P x19 := by unfold x19; exact (State.updDesc_inv (c.mono rfl) h17)
        clear_value x19
        exact (ite_p (fun _ => (State.schedDrained_inv (c.mono rfl) (State.freeDesc_inv (c.mono rfl) (State.updSched_inv (c.mono rfl) h20)))) (fun _ => h20))
theorem State.evict_inv (c : Clo 0x39f0304400710000040004004041300002000021c94020101c08400000004000bffe P) {v0} {v1} {v2} (k0 : P v0) : P (State.evict v0 v1 v2) := by
  unfold State.evict
  split
  ·
    rename_i y1 y2 y3
    exact (c.inc rfl (State.returnTask_inv (c.mono rfl) k0))
  ·
    rename_i y4 y5
    exact k0
theorem State.loadReq_inv (c : Clo 0x39f0304400710000040004004041300002000021cd4020101c08400000004000bffe P) {v0} {v1} {v2} {v3} {v4} (k0 : P v0) : (SndP P) (State.loadReq v0 v1 v2 v3 v4) := by
  unfold State.loadReq
  split
  ·
    rename_i y1 y2 y3 y4
    have q6 := congr_p (Q := (SndP P)) y4 (by
        exact (State.askLoad_inv (c.mono rfl) k0)
      )
    have h5 : P y3 := q6
    exact (ite_p (fun _ => (mk_snd (State.evict_inv (c.mono rfl) h5))) (fun _ => (mk_snd h5)))
theorem execToken_inv (c : Clo 0x788000000000000000000000000000000000000000000000000000000000000000000818 P) {v0} {v1} (k1 : P v1) : (OutP P) (execToken v0 v1) := by
  unfold execToken
  exact (mk_next (State.takeToken_inv (c.mono rfl) k1))
theorem execTokenRecord_inv (c : Clo 0x39f0304400710000040004004041300000400021c94020101c08400000004000bffe P) {v0} {v1} (k1 : P v1) : (OutP P) (execTokenRecord v0 v1) := by
  unfold execTokenRecord
  exact (mk_next (State.tokenRecord_inv (c.mono rfl) k1))
theorem execDispatchPipe_inv (c : Clo 0x39f0304400710000040004004041300001200021cd4020101c08400000004010bffe P) {v0} {v1} (k1 : P v1) : (OutP P) (execDispatchPipe v0 v1) := by
  unfold execDispatchPipe
  exact (mk_next (State.dispatchPipe_inv (c.mono rfl) k1))
theorem execDispatchResponse_inv (c : Clo 0x2000039f0304400710000040004004041300000000021c94020101c08400000004040bffe P) {v0} (k0 : P v0) : (OutP P) (execDispatchResponse v0) := by
  unfold execDispatchResponse
  exact (mk_next (State.dispatchResponse_inv (c.mono rfl) k0))
theorem execSwitchRepeat_inv (c : Clo 0x1c140000000000000000000002858 P) {v0} {v1} (k1 : P v1) : (OutP P) (execSwitchRepeat v0 v1) := by
  unfold execSwitchRepeat
  exact (mk_next (State.switchRepeat_inv (c.mono rfl) k1))
theorem execDone_inv (c : Clo 0x39f0304400710000040004004041300000800021c94020101c08400000004000bffe P) {v0} (k0 : P v0) : (OutP P) (execDone v0) := by
  unfold execDone
  exact (mk_next (State.done_inv (c.mono rfl) k0))
theorem execResultRecordPost_inv (c : Clo 0x39f0304400710000040004004041300000400021c94020101c08400000004000bffe P) {v0} (k0 : P v0) : (OutP P) (execResultRecordPost v0) := by
  unfold execResultRecordPost
  exact (mk_next (State.postRecord_inv (c.mono rfl) k0))
theorem execTick_inv (c : Clo 0x800 P) {v0} (k0 : P v0) : (OutP P) (execTick v0) := by
  unfold execTick
  exact (mk_next (State.updSched_inv (c.mono rfl) k0))
theorem execDelayExpiry_inv (c : Clo 0x39f0304400710000040004004041300000000021c94020101c08400000004000bffe P) {v0} {v1} (k1 : P v1) : (OutP P) (execDelayExpiry v0 v1) := by
  unfold execDelayExpiry
  exact (mk_next (State.delayExpire_inv (c.mono rfl) k1))
theorem execDelayListWalk_inv (c : Clo 0x39f0304400710000040004004041300000000021c94020101c08400000004000bffe P) {v0} {v1} (k1 : P v1) : (OutP P) (execDelayListWalk v0 v1) := by
  unfold execDelayListWalk
  exact (mk_next (State.delayWalk_inv (c.mono rfl) k1))
theorem execUseCountDecay_inv (c : Clo 0x800 P) {v0} (k0 : P v0) : (OutP P) (execUseCountDecay v0) := by
  unfold execUseCountDecay
  exact (mk_next (State.updSched_inv (c.mono rfl) k0))
theorem execPlanectlDone_inv (c : Clo 0x10 P) {v0} {v1} (k1 : P v1) : (OutP P) (execPlanectlDone v0 v1) := by
  unfold execPlanectlDone
  refine mk_next ?_
  split
  ·
    rename_i y1 y2 y3
    split
    ·
      rename_i y4 y5 y6
      exact (ite_p (fun _ => (State.inject_inv (c.mono rfl) k1)) (fun _ => k1))
    ·
      rename_i y7 y8
      exact k1
  ·
    rename_i y9 y10
    exact k1
theorem execLoad_inv (c : Clo 0x39f0304400710000040004004041300002000021cd4020101c08400000004000bffe P) {v0} {v1} {v2} {v3} (k3 : P v3) : (OutP P) (execLoad v0 v1 v2 v3) := by
  unfold execLoad
  exact (mk_next (snd_p (State.loadReq_inv (c.mono rfl) k3)))
theorem execStateReload_inv (c : Clo 0x39f0304400710000040004004041300002000021cd4020101c08400000004000bffe P) {v0} {v1} {v2} {v3} (k3 : P v3) : (OutP P) (execStateReload v0 v1 v2 v3) := by
  unfold execStateReload
  exact (mk_next (snd_p (State.loadReq_inv (c.mono rfl) k3)))
theorem execLoadRow_inv (c : Clo 0x39f0304400710000040004004041300001000021cd4121101c08400000004010bffe P) {v0} {v1} {v2} (k2 : P v2) : (OutP P) (execLoadRow v0 v1 v2) := by
  unfold execLoadRow
  exact (mk_next (State.schedLoads_inv (c.mono rfl) (State.loadRow_inv (c.mono rfl) k2)))
theorem execLoadFinish_inv (c : Clo 0x39f0304400710000040004004041300001000025cd4020101c08400000004010bffe P) {v0} {v1} (k1 : P v1) : (OutP P) (execLoadFinish v0 v1) := by
  unfold execLoadFinish
  exact (mk_next (State.schedLoads_inv (c.mono rfl) (State.loadFinish_inv (c.mono rfl) k1)))
theorem execPlaneLoad_inv (c : Clo 0x39f0304400710000040004004041300002000021cd4020101c08c20000004000bffe P) {v0} {v1} {v2} {v3} (k3 : P v3) : (OutP P) (execPlaneLoad v0 v1 v2 v3) := by
  unfold execPlaneLoad
  refine mk_next ?_
  refine State.submit_inv (c.mono rfl) k3 ?_
  intro a10 h9
  refine State.checks_inv (c.mono rfl) h9 ?_
  intro a14 h13
  split
  ·
    rename_i y15 y16 y17 y18
    have q20 := congr_p (Q := (SndP P)) y18 (by
        exact (State.loadReq_inv (c.mono rfl) h13)
      )
    have h19 : P y17 := q20
    exact (ite_p (fun _ => h19) (fun _ => (State.reply_inv (c.mono rfl) h19)))
theorem execSchedStatus_inv (c : Clo 0x1e0200000000000000000000000000000000000000000000000820000000000203a P) {v0} {v1} (k1 : P v1) : (OutP P) (execSchedStatus v0 v1) := by
  unfold execSchedStatus
  refine mk_next ?_
  refine State.submit_inv (c.mono rfl) k1 ?_
  intro a6 h5
  extract_lets +onlyGivenNames -merge x7
  clear_value x7
  exact (State.replyData_inv (c.mono rfl) h5)
theorem execTaskPost_inv (c : Clo 0x1e0200000000000000000000000000000000000000000000000820000000000203a P) {v0} {v1} {v2} {v3} (k3 : P v3) : (OutP P) (execTaskPost v0 v1 v2 v3) := by
  unfold execTaskPost
  refine mk_next ?_
  refine State.submit_inv (c.mono rfl) k3 ?_
  intro a10 h9
  refine State.checks_inv (c.mono rfl) h9 ?_
  intro a14 h13
  extract_lets +onlyGivenNames -merge x15 x16 x17
  have h18 : P x17 := by unfold x17; exact (State.updMail_inv (c.mono rfl) (State.uncommitted_inv (c.mono rfl) h13))
  clear_value x15 x16 x17
  exact (State.request_inv (c.mono rfl) h18)
theorem State.stage_inv (c : Clo 0x4 P) {v0} {v1} {v2} (k0 : P v0) : P (State.stage v0 v1 v2) := by
  unfold State.stage
  exact (c.staged rfl _ k0)
theorem execTemplateSet_inv (c : Clo 0x1e0200000000000000000000000000000000000000000000000820000000000203e P) {v0} {v1} {v2} {v3} {v4} {v5} {v6} (k6 : P v6) : (OutP P) (execTemplateSet v0 v1 v2 v3 v4 v5 v6) := by
  unfold execTemplateSet
  refine mk_next ?_
  refine State.submit_inv (c.mono rfl) k6 ?_
  intro a10 h9
  refine State.checks_inv (c.mono rfl) h9 ?_
  intro a14 h13
  extract_lets +onlyGivenNames -merge x15 x17
  have h16 : P x15 := by unfold x15; exact (State.stage_inv (c.mono rfl) (State.stage_inv (c.mono rfl) h13))
  have h18 : P x17 := by unfold x17; exact (State.stage_inv (c.mono rfl) (State.stage_inv (c.mono rfl) h16))
  clear_value x15 x17
  exact (State.reply_inv (c.mono rfl) h18)
theorem execImageSet_inv (c : Clo 0x1e0200000000000000000000000000000000000000000000000820000000000203e P) {v0} {v1} {v2} {v3} {v4} (k4 : P v4) : (OutP P) (execImageSet v0 v1 v2 v3 v4) := by
  unfold execImageSet
  refine mk_next ?_
  refine State.submit_inv (c.mono rfl) k4 ?_
  intro a10 h9
  refine State.checks_inv (c.mono rfl) h9 ?_
  intro a14 h13
  extract_lets +onlyGivenNames -merge x15 x17
  have h16 : P x15 := by unfold x15; exact (State.stage_inv (c.mono rfl) (State.stage_inv (c.mono rfl) h13))
  have h18 : P x17 := by unfold x17; exact (State.each_inv (c.mono rfl) h16 (fun _ _ h19 => (State.stage_inv (c.mono rfl) (State.stage_inv (c.mono rfl) h19))))
  clear_value x15 x17
  exact (State.reply_inv (c.mono rfl) h18)
theorem execFlowSet_inv (c : Clo 0x39f0304400710000040004004041300000000021c94020101c08c20000004000bffe P) {v0} {v1} {v2} {v3} {v4} {v5} (k5 : P v5) : (OutP P) (execFlowSet v0 v1 v2 v3 v4 v5) := by
  unfold execFlowSet
  exact (mk_next (State.submit_inv (c.mono rfl) k5 (fun _ h1 => (State.checks_inv (c.mono rfl) h1 (fun _ h2 => (ite_p (fun _ => (State.reply_inv (c.mono rfl) (State.booksFault_inv (c.mono rfl) h2))) (fun _ => (State.reply_inv (c.mono rfl) (State.updFlow_inv (c.mono rfl) h2)))))))))
theorem execGroupSet_inv (c : Clo 0x1e0200000000000000000000000000000000000000000000000820000000000283a P) {v0} {v1} {v2} {v3} (k3 : P v3) : (OutP P) (execGroupSet v0 v1 v2 v3) := by
  unfold execGroupSet
  exact (mk_next (State.submit_inv (c.mono rfl) k3 (fun _ h1 => (State.checks_inv (c.mono rfl) h1 (fun _ h2 => (State.reply_inv (c.mono rfl) (State.updGrp_inv (c.mono rfl) h2)))))))
theorem State.cancel_inv (c : Clo 0x810 P) {v0} {v1} (k0 : P v0) : P (State.cancel v0 v1) := by
  unfold State.cancel
  extract_lets +onlyGivenNames -merge x1
  clear_value x1
  refine ite_p (fun _ => ?_) (fun _ => ?_)
  ·
    extract_lets +onlyGivenNames -merge x2
    clear_value x2
    exact (State.freeDesc_inv (c.mono rfl) (State.updSched_inv (c.mono rfl) (State.dropMatch_inv (c.mono rfl) k0)))
  ·
    extract_lets +onlyGivenNames -merge x3 x6
    have h4 : P x3 := by unfold x3; exact (State.each_inv (c.mono rfl) k0 (fun _ _ h5 => (State.unlinkFrom_inv (c.mono rfl) h5)))
    have h7 : P x6 := by unfold x6; exact (State.each_inv (c.mono rfl) h4 (fun _ _ h8 => (State.updDelay_inv (c.mono rfl) h8)))
    clear_value x3 x6
    exact (State.freeDesc_inv (c.mono rfl) h7)
theorem execTaskCancel_inv (c : Clo 0x39f0304400710000040004004041300000000021c94020101c08c20000004000bffe P) {v0} {v1} {v2} (k2 : P v2) : (OutP P) (execTaskCancel v0 v1 v2) := by
  unfold execTaskCancel
  exact (mk_next (State.submit_inv (c.mono rfl) k2 (fun _ h1 => (State.checks_inv (c.mono rfl) h1 (fun _ h2 => (ite_p (fun _ => (State.reply_inv (c.mono rfl) (State.booksFault_inv (c.mono rfl) h2))) (fun _ => (State.reply_inv (c.mono rfl) (State.cancel_inv (c.mono rfl) h2)))))))))
theorem execSchedDrain_inv (c : Clo 0x1e0200000000000000000000000000000000020000000000000820000000000283a P) {v0} {v1} {v2} (k2 : P v2) : (OutP P) (execSchedDrain v0 v1 v2) := by
  unfold execSchedDrain
  exact (mk_next (State.submit_inv (c.mono rfl) k2 (fun _ h1 => (State.schedDrained_inv (c.mono rfl) (State.updSched_inv (c.mono rfl) (c.setF rfl h1))))))

end Sys2Proof.Machine
end

