-- ==== Sys2Proof/Laws/InvLink.lean ====
section
/-!
SUPPORT. What each operation of the engines and the links may change (see Laws/Closed.lean): one lemma per definition.
-/
namespace Sys2Proof.Machine
variable {P : State → Prop}

/-! ### Flags -/

theorem State.setNZV_inv (c : Clo 0x8000000000000000000000000000000000000000 P) {v0} {v1} {v2} {v3} {v4} (k0 : P v0) : P (State.setNZV v0 v1 v2 v3 v4) := by
  unfold State.setNZV
  extract_lets +onlyGivenNames -merge x1 x2 x4
  have h3 : P x2 := by unfold x2; exact (c.setF rfl (c.setF rfl k0))
  have h5 : P x4 := by unfold x4; exact (c.setF rfl h3)
  clear_value x1 x2 x4
  exact (ite_p (fun _ => (c.setF rfl h5)) (fun _ => h5))
theorem State.flagsOf_inv (c : Clo 0x8000000000000000000000000000000000000000 P) {v0} {v1} {v2} {v3} (k0 : P v0) : P (State.flagsOf v0 v1 v2 v3) := by
  unfold State.flagsOf
  exact (State.setNZV_inv (c.mono rfl) k0)

/-! ### Dsp -/

theorem State.setD_inv (c : Clo 0x1000 P) {v0} {v1} {v2} {v3} {v4} (k0 : P v0) : P (State.setD v0 v1 v2 v3 v4) := by
  unfold State.setD
  exact (c.updEng rfl _ _ k0)
theorem State.setA_inv (c : Clo 0x1000 P) {v0} {v1} {v2} {v3} {v4} (k0 : P v0) : P (State.setA v0 v1 v2 v3 v4) := by
  unfold State.setA
  exact (c.updEng rfl _ _ k0)
theorem State.stepPtrs_inv (c : Clo 0x1000 P) {v0} {v1} {v2} (k0 : P v0) : P (State.stepPtrs v0 v1 v2) := by
  unfold State.stepPtrs
  exact (c.updEng rfl _ _ k0)
theorem State.engRead_inv (c : Clo 0x1e020000031000000000000000000000000000000000000000000000000000002a2 P) {v0} {v1} (k0 : P v0) : (SndP (SndP P)) (State.engRead v0 v1) := by
  unfold State.engRead
  split
  ·
    rename_i y1 y2 y3 y4 y5
    have q7 := congr_p (Q := (SndP (SndP P))) y5 (by
        exact (State.readWord_inv (c.mono rfl) k0)
      )
    have h6 : P y4 := q7
    exact (mk_snd (mk_snd h6))
theorem State.engStore_inv (c : Clo 0x1e020000071000000000000000000000000000000000000000000000000000006a2 P) {v0} {v1} {v2} {v3} (k0 : P v0) : P (State.engStore v0 v1 v2 v3) := by
  unfold State.engStore
  exact (fst_p (State.writeWord_inv (c.mono rfl) k0))
theorem State.engIdle_inv (c : Clo 0x21000000000000000000000000000000000001000 P) {v0} {v1} (k0 : P v0) : P (State.engIdle v0 v1) := by
  unfold State.engIdle
  extract_lets +onlyGivenNames -merge x1 x3
  have h2 : P x1 := by unfold x1; exact (c.setF rfl k0)
  have h4 : P x3 := by unfold x3; exact (c.setF rfl (c.setF rfl h2))
  clear_value x1 x3
  exact (c.updEng rfl _ _ h4)
theorem State.endRep_inv (c : Clo 0x401000000000000000000000000000000000001000 P) {v0} {v1} (k0 : P v0) : P (State.endRep v0 v1) := by
  unfold State.endRep
  extract_lets +onlyGivenNames -merge x1
  have h2 : P x1 := by unfold x1; exact (c.setF rfl (c.setF rfl (c.updEng rfl _ _ k0)))
  clear_value x1
  exact (c.setF rfl h2)
theorem State.haltLost_inv (c : Clo 0x2000000000000000000000000000000000003018 P) {v0} {v1} (k0 : P v0) : P (State.haltLost v0 v1) := by
  unfold State.haltLost
  extract_lets +onlyGivenNames -merge x1 x2 x4 x6
  have h3 : P x2 := by unfold x2; exact (ite_p (fun _ => k0) (fun _ => (c.setF rfl k0)))
  have h5 : P x4 := by unfold x4; exact (c.setF rfl (c.updEng rfl _ _ h3))
  have h7 : P x6 := by unfold x6; exact (State.each_inv (c.mono rfl) h5 (fun _ _ h8 => (State.respond_inv (c.mono rfl) h8)))
  clear_value x1 x2 x4 x6
  exact (State.each_inv (c.mono rfl) h7 (fun _ _ h9 => (State.respond_inv (c.mono rfl) h9)))
theorem State.sendDone_inv (c : Clo 0x10 P) {v0} {v1} {v2} {v3} (k0 : P v0) : P (State.sendDone v0 v1 v2 v3) := by
  unfold State.sendDone
  extract_lets +onlyGivenNames -merge x1
  clear_value x1
  exact (State.inject_inv (c.mono rfl) k0)
theorem State.raise_inv (c : Clo 0x84e3000000000000000000000004000000000003018 P) {v0} {v1} {v2} {v3} {v4} (k0 : P v0) : P (State.raise v0 v1 v2 v3 v4) := by
  unfold State.raise
  extract_lets +onlyGivenNames -merge x1 x2 x4 x6 x8 x10 x12
  have h3 : P x2 := by unfold x2; exact (c.setF rfl (c.setF rfl k0))
  have h5 : P x4 := by unfold x4; exact (c.setF rfl h3)
  have h7 : P x6 := by unfold x6; exact (c.setF rfl (c.setF rfl h5))
  have h9 : P x8 := by unfold x8; exact (c.inc rfl h7)
  have h11 : P x10 := by unfold x10; exact (State.event_inv (c.mono rfl) h9)
  have h13 : P x12 := by unfold x12; exact (c.setF rfl (State.haltLost_inv (c.mono rfl) (State.endRep_inv (c.mono rfl) h11)))
  clear_value x1 x2 x4 x6 x8 x10 x12
  refine ite_p (fun _ => ?_) (fun _ => h13)
  extract_lets +onlyGivenNames -merge x14 x15
  clear_value x14 x15
  refine ite_p (fun _ => (State.engIdle_inv (c.mono rfl) (State.sendDone_inv (c.mono rfl) h13))) (fun _ => ?_)
  refine ite_p (fun _ => ?_) (fun _ => h13)
  extract_lets +onlyGivenNames -merge x16
  clear_value x16
  exact (State.engIdle_inv (c.mono rfl) (State.sendDone_inv (c.mono rfl) h13))
theorem State.passCycles_inv (c : Clo 0x1000 P) {v0} {v1} {v2} {v3} {v4} (k0 : P v0) : P (State.passCycles v0 v1 v2 v3 v4) := by
  unfold State.passCycles
  extract_lets +onlyGivenNames -merge x1 x2
  clear_value x1 x2
  exact (c.updEng rfl _ _ k0)
theorem State.spend_inv (c : Clo 0x1000 P) {v0} {v1} {v2} {v3} {v4} {v5} (k0 : P v0) : P (State.spend v0 v1 v2 v3 v4 v5) := by
  unfold State.spend
  extract_lets +onlyGivenNames -merge x1
  clear_value x1
  exact (State.passCycles_inv (c.mono rfl) k0)
theorem State.slotTaken_inv (c : Clo 0x4000000000000000000000000000000000000001000 P) {v0} {v1} {v2} {v3} (k0 : P v0) : P (State.slotTaken v0 v1 v2 v3) := by
  unfold State.slotTaken
  extract_lets +onlyGivenNames -merge x1 x2 x3
  have h4 : P x3 := by unfold x3; exact (c.updEng rfl _ _ k0)
  clear_value x1 x2 x3
  exact (ite_p (fun _ => (State.passCycles_inv (c.mono rfl) (c.inc rfl h4))) (fun _ => h4))
theorem State.setPc_inv (c : Clo 0x10000000000000000000000000000000000001000 P) {v0} {v1} {v2} (k0 : P v0) : P (State.setPc v0 v1 v2) := by
  unfold State.setPc
  exact (c.setF rfl (c.updEng rfl _ _ k0))
theorem State.stepEnd_inv (c : Clo 0x2000000000000000000000000000000000003018 P) {v0} {v1} (k0 : P v0) : P (State.stepEnd v0 v1) := by
  unfold State.stepEnd
  extract_lets +onlyGivenNames -merge x1 x2
  have h3 : P x2 := by unfold x2; exact (c.setF rfl (c.updEng rfl _ _ k0))
  clear_value x1 x2
  exact (State.each_inv (c.mono rfl) h3 (fun _ _ h4 => (State.respond_inv (c.mono rfl) h4)))
theorem State.begun_inv (c : Clo 0x2000000000000000000000000000000000003018 P) {v0} {v1} (k0 : P v0) : P (State.begun v0 v1) := by
  unfold State.begun
  extract_lets +onlyGivenNames -merge x1 x2
  have h3 : P x2 := by unfold x2; exact (ite_p (fun _ => (c.setF rfl (State.each_inv (c.mono rfl) k0 (fun _ _ h4 => (State.committed_inv (c.mono rfl) h4))))) (fun _ => k0))
  clear_value x1 x2
  split
  ·
    rename_i y5 y6 y7
    exact (State.respond_inv (c.mono rfl) (c.updEng rfl _ _ h3))
  ·
    rename_i y8 y9
    exact h3
theorem State.issue_inv (c : Clo 0x1e020000031000000000000084f30000000000000000000000040000000000032ba P) {v0} {v1} {v2} {v3} {v4 : Sys2Proof.Machine.State → Sys2Proof.Machine.Issue} (k0 : P v0) (k4 : ∀ a0, P a0 → (IssueP P) (v4 a0)) : P (State.issue v0 v1 v2 v3 v4) := by
  unfold State.issue
  extract_lets +onlyGivenNames -merge x1 x2 x3
  clear_value x1 x2
  refine ite_p (fun _ => k0) (fun _ => ?_)
  refine ite_p (fun _ => (State.raise_inv (c.mono rfl) (State.begun_inv (c.mono rfl) k0))) (fun _ => ?_)
  split
  ·
    rename_i y4 y5 y6 y7 y8
    have q10 := congr_p (Q := (SndP (SndP P))) y8 (by
        exact (State.engRead_inv (c.mono rfl) k0)
      )
    have h9 : P y7 := q10
    extract_lets +onlyGivenNames -merge x11
    have h12 : P x11 := by unfold x11; exact (ite_p (fun _ => h9) (fun _ => k0))
    clear_value x11
    refine ite_p (fun _ => (State.raise_inv (c.mono rfl) (State.begun_inv (c.mono rfl) h12))) (fun _ => ?_)
    refine ite_p (fun _ => (State.raise_inv (c.mono rfl) (State.begun_inv (c.mono rfl) h12))) (fun _ => ?_)
    refine ite_p (fun _ => (State.raise_inv (c.mono rfl) (State.begun_inv (c.mono rfl) h12))) (fun _ => ?_)
    refine ite_p (fun _ => k0) (fun _ => ?_)
    split
    ·
      rename_i y13 y14
      exact (State.passCycles_inv (c.mono rfl) k0)
    ·
      rename_i y15 y16 y17 y18 y19 y20
      have q22 := congr_p (Q := (IssueP P)) y20 (by
          exact (k4 _ (State.begun_inv (c.mono rfl) h12))
        )
      have h21 : P y19 := q22
      exact (State.raise_inv (c.mono rfl) h21)
    ·
      rename_i y23 y24 y25 y26
      have q28 := congr_p (Q := (IssueP P)) y26 (by
          exact (k4 _ (State.begun_inv (c.mono rfl) h12))
        )
      have h27 : P y24 := q28
      extract_lets +onlyGivenNames -merge x29
      have h30 : P x29 := by unfold x29; exact (c.updEng rfl _ _ (State.setPc_inv (c.mono rfl) (State.spend_inv (c.mono rfl) h27)))
      clear_value x29
      exact (c.setF rfl (c.setF rfl h30))
    ·
      rename_i y31 y32 y33 y34
      have q36 := congr_p (Q := (IssueP P)) y34 (by
          exact (k4 _ (State.begun_inv (c.mono rfl) h12))
        )
      have h35 : P y32 := q36
      exact (State.spend_inv (c.mono rfl) h35)
    ·
      rename_i y37 y38 y39 y40 y41
      have q43 := congr_p (Q := (IssueP P)) y41 (by
          exact (k4 _ (State.begun_inv (c.mono rfl) h12))
        )
      have h42 : P y38 := q43
      extract_lets +onlyGivenNames -merge x44
      have h45 : P x44 := by unfold x44; exact (State.spend_inv (c.mono rfl) h42)
      clear_value x44
      refine ite_p (fun _ => ?_) (fun _ => ?_)
      ·
        extract_lets +onlyGivenNames -merge x46
        have h47 : P x46 := by unfold x46; exact (State.setPc_inv (c.mono rfl) h45)
        clear_value x46
        exact (ite_p (fun _ => (State.stepEnd_inv (c.mono rfl) h47)) (fun _ => h47))
      ·
        extract_lets +onlyGivenNames -merge x48
        have h49 : P x48 := by unfold x48; exact (c.setF rfl (c.updEng rfl _ _ h45))
        clear_value x48
        refine ite_p (fun _ => ?_) (fun _ => h49)
        extract_lets +onlyGivenNames -merge x50
        have h51 : P x50 := by unfold x50; exact (State.setPc_inv (c.mono rfl) (State.endRep_inv (c.mono rfl) h49))
        clear_value x50
        exact (ite_p (fun _ => (State.stepEnd_inv (c.mono rfl) h51)) (fun _ => h51))
theorem State.withPtrs_inv (c : Clo 0x0 P) {v0} {v1} {v2} {v3 : Sys2Proof.Machine.State → Sys2Proof.Machine.Issue} (k0 : P v0) (k3 : ∀ a0, P a0 → (IssueP P) (v3 a0)) : (IssueP P) (State.withPtrs v0 v1 v2 v3) := by
  unfold State.withPtrs
  exact (ite_p (fun _ => (k3 _ k0)) (fun _ => (exc_p k0)))
theorem State.withRegs_inv (c : Clo 0x0 P) {v0} {v1} {v2} {v3 : Sys2Proof.Machine.State → Sys2Proof.Machine.Issue} (k0 : P v0) (k3 : ∀ a0, P a0 → (IssueP P) (v3 a0)) : (IssueP P) (State.withRegs v0 v1 v2 v3) := by
  unfold State.withRegs
  extract_lets +onlyGivenNames -merge x1
  clear_value x1
  split
  ·
    rename_i y2 y3 y4
    exact (exc_p k0)
  ·
    rename_i y5 y6
    exact (k3 _ k0)
theorem State.withMem_inv (c : Clo 0x1e020000031000000000000000000000000000000000000000000000000000002a2 P) {v0} {v1} {v2} {v3 : Sys2Proof.Machine.State → List ℕ → Sys2Proof.Machine.Issue} (k0 : P v0) (k3 : ∀ a0 a1, P a0 → (IssueP P) (v3 a0 a1)) : (IssueP P) (State.withMem v0 v1 v2 v3) := by
  induction v2 generalizing v0 k0 v1 v3 k3 with
  | nil =>
    rw [State.withMem]
    exact (k3 _ _ k0)
  | cons z t ih =>
    rw [State.withMem]
    split
    ·
      rename_i y1 y2 y3 y4 y5
      have q7 := congr_p (Q := (SndP (SndP P))) y5 (by
          exact (State.engRead_inv (c.mono rfl) k0)
        )
      have h6 : P y4 := q7
      exact (ite_p (fun _ => (exc_p h6)) (fun _ => (by apply ih; exact h6; exact (fun _ _ h8 => (k3 _ _ h8)))))
theorem State.doLd_inv (c : Clo 0x1e020000031000000000000000000000000000000000000000000000000000012a2 P) {v0} {v1} {v2} (k0 : P v0) : (IssueP P) (State.doLd v0 v1 v2) := by
  unfold State.doLd
  extract_lets +onlyGivenNames -merge x1 x2
  clear_value x1 x2
  refine State.withPtrs_inv (c.mono rfl) k0 ?_
  intro a6 h5
  split
  ·
    rename_i y7 y8 y9 y10 y11
    have q13 := congr_p (Q := (SndP (SndP P))) y11 (by
        exact (State.engRead_inv (c.mono rfl) h5)
      )
    have h12 : P y10 := q13
    exact (fin_p (State.stepPtrs_inv (c.mono rfl) (State.setD_inv (c.mono rfl) h12)))
theorem State.doSt_inv (c : Clo 0x1e020000071000000000000000000000000000000000000000000000000000016a2 P) {v0} {v1} {v2} (k0 : P v0) : (IssueP P) (State.doSt v0 v1 v2) := by
  unfold State.doSt
  extract_lets +onlyGivenNames -merge x1 x2
  clear_value x1 x2
  refine State.withPtrs_inv (c.mono rfl) k0 ?_
  intro a6 h5
  split
  ·
    rename_i y7 y8 y9 y10
    exact (fin_p (State.stepPtrs_inv (c.mono rfl) (State.engStore_inv (c.mono rfl) h5)))
theorem State.doMov_inv (c : Clo 0x1e020000071000000000000000000000000000000000000000000000000000016a2 P) {v0} {v1} {v2} (k0 : P v0) : (IssueP P) (State.doMov v0 v1 v2) := by
  unfold State.doMov
  extract_lets +onlyGivenNames -merge x1 x2
  clear_value x1 x2
  refine State.withPtrs_inv (c.mono rfl) k0 ?_
  intro a6 h5
  split
  ·
    rename_i y7 y8 y9 y10 y11
    have q13 := congr_p (Q := (SndP (SndP P))) y11 (by
        exact (State.engRead_inv (c.mono rfl) h5)
      )
    have h12 : P y10 := q13
    exact (fin_p (State.stepPtrs_inv (c.mono rfl) (State.engStore_inv (c.mono rfl) h12)))
theorem State.doMovr_inv (c : Clo 0x1000 P) {v0} {v1} {v2} (k0 : P v0) : (IssueP P) (State.doMovr v0 v1 v2) := by
  unfold State.doMovr
  split
  ·
    rename_i y1 y2 y3 y4
    exact (fin_p (State.setD_inv (c.mono rfl) k0))
theorem State.doLdi_inv (c : Clo 0x1000 P) {v0} {v1} {v2} (k0 : P v0) : (IssueP P) (State.doLdi v0 v1 v2) := by
  unfold State.doLdi
  extract_lets +onlyGivenNames -merge x1 x2
  clear_value x1 x2
  refine ite_p (fun _ => (fin_p (State.setD_inv (c.mono rfl) k0))) (fun _ => ?_)
  split
  ·
    rename_i y3 y4 y5 y6
    exact (fin_p (State.setD_inv (c.mono rfl) k0))
theorem State.setPtrReg_inv (c : Clo 0x1000 P) {v0} {v1} {v2} {v3} {v4} (k0 : P v0) : P (State.setPtrReg v0 v1 v2 v3 v4) := by
  unfold State.setPtrReg
  exact (c.updEng rfl _ _ k0)
theorem State.doSetp_inv (c : Clo 0x1000 P) {v0} {v1} {v2} (k0 : P v0) : (IssueP P) (State.doSetp v0 v1 v2) := by
  unfold State.doSetp
  exact (fin_p (State.setPtrReg_inv (c.mono rfl) k0))
theorem State.doMovp_inv (c : Clo 0x1000 P) {v0} {v1} {v2} (k0 : P v0) : (IssueP P) (State.doMovp v0 v1 v2) := by
  unfold State.doMovp
  extract_lets +onlyGivenNames -merge x1 x2 x3
  clear_value x1 x2 x3
  refine ite_p (fun _ => (State.withRegs_inv (c.mono rfl) k0 (fun _ h5 => (fin_p (State.setPtrReg_inv (c.mono rfl) h5))))) (fun _ => ?_)
  extract_lets +onlyGivenNames -merge x6 x7
  clear_value x6 x7
  exact (fin_p (State.setD_inv (c.mono rfl) k0))
theorem State.doAcc_inv (c : Clo 0x1000 P) {v0} {v1} {v2} (k0 : P v0) : (IssueP P) (State.doAcc v0 v1 v2) := by
  unfold State.doAcc
  extract_lets +onlyGivenNames -merge x1 x2 x3
  clear_value x1 x2 x3
  split
  ·
    rename_i y4 y5 y6 y7
    split
    ·
      rename_i y8 y9 y10 y11
      extract_lets +onlyGivenNames -merge x12
      have h13 : P x12 := by unfold x12; exact (ite_p (fun _ => (State.setA_inv (c.mono rfl) k0)) (fun _ => (ite_p (fun _ => (State.setA_inv (c.mono rfl) k0)) (fun _ => (ite_p (fun _ => (State.setA_inv (c.mono rfl) k0)) (fun _ => (ite_p (fun _ => (State.setD_inv (c.mono rfl) k0)) (fun _ => (State.setD_inv (c.mono rfl) k0)))))))))
      clear_value x12
      exact (fin_p h13)
theorem State.aluWrite_inv (c : Clo 0x8000000000000000000000000000000000001000 P) {v0} {v1} {v2} {v3} (k0 : P v0) : P (State.aluWrite v0 v1 v2 v3) := by
  unfold State.aluWrite
  exact (State.setNZV_inv (c.mono rfl) (State.setD_inv (c.mono rfl) k0))
theorem State.doAlu_inv (c : Clo 0x8000000000000000000000000000000000001000 P) {v0} {v1} {v2} (k0 : P v0) : (IssueP P) (State.doAlu v0 v1 v2) := by
  unfold State.doAlu
  extract_lets +onlyGivenNames -merge x1 x2 x3
  clear_value x1 x2 x3
  refine State.withRegs_inv (c.mono rfl) k0 ?_
  intro a7 h6
  extract_lets +onlyGivenNames -merge x8 x9
  clear_value x8 x9
  refine ite_p (fun _ => (fin_p (State.flagsOf_inv (c.mono rfl) h6))) (fun _ => ?_)
  extract_lets +onlyGivenNames -merge x10
  clear_value x10
  exact (fin_p (State.aluWrite_inv (c.mono rfl) h6))
theorem State.doAlui_inv (c : Clo 0x8000000000000000000000000000000000001000 P) {v0} {v1} {v2} (k0 : P v0) : (IssueP P) (State.doAlui v0 v1 v2) := by
  unfold State.doAlui
  extract_lets +onlyGivenNames -merge x1 x2 x3
  clear_value x1 x2 x3
  refine State.withRegs_inv (c.mono rfl) k0 ?_
  intro a7 h6
  extract_lets +onlyGivenNames -merge x8
  clear_value x8
  exact (fin_p (State.aluWrite_inv (c.mono rfl) h6))
theorem State.macPair_inv (c : Clo 0x8000000000000000000000000000000000001000 P) {v0} {v1} {v2} {v3} {v4} (k0 : P v0) : P (State.macPair v0 v1 v2 v3 v4) := by
  unfold State.macPair
  extract_lets +onlyGivenNames -merge x1
  clear_value x1
  split
  ·
    rename_i y2 y3 y4 y5
    split
    ·
      rename_i y6 y7 y8 y9
      exact (State.flagsOf_inv (c.mono rfl) (State.setA_inv (c.mono rfl) (State.setA_inv (c.mono rfl) k0)))
theorem State.doMac_inv (c : Clo 0x1e020000031000000000000000080000000000000000000000000000000000012a2 P) {v0} {v1} {v2} {v3} (k0 : P v0) : (IssueP P) (State.doMac v0 v1 v2 v3) := by
  unfold State.doMac
  extract_lets +onlyGivenNames -merge x1 x2 x3 x4 x5 x6 x7 x8
  clear_value x1 x2 x5 x6 x7 x8
  refine State.withRegs_inv (c.mono rfl) k0 ?_
  intro a16 h15
  refine State.withPtrs_inv (c.mono rfl) h15 ?_
  intro a22 h21
  refine State.withMem_inv (c.mono rfl) h21 ?_
  intro a26 a27 h25
  extract_lets +onlyGivenNames -merge x28 x29 x30
  clear_value x28 x29 x30
  exact (fin_p (State.stepPtrs_inv (c.mono rfl) (State.macPair_inv (c.mono rfl) h25)))
theorem State.doTapm_inv (c : Clo 0x1e020000071000000000000000080000000000000000000000000000000000016a2 P) {v0} {v1} {v2} (k0 : P v0) : (IssueP P) (State.doTapm v0 v1 v2) := by
  unfold State.doTapm
  extract_lets +onlyGivenNames -merge x1 x2 x3 x4
  clear_value x1 x2 x3 x4
  refine State.withRegs_inv (c.mono rfl) k0 ?_
  intro a10 h9
  refine State.withPtrs_inv (c.mono rfl) h9 ?_
  intro a14 h13
  extract_lets +onlyGivenNames -merge x15
  clear_value x15
  refine State.withMem_inv (c.mono rfl) h13 ?_
  intro a19 a20 h18
  extract_lets +onlyGivenNames -merge x21 x22 x23 x24
  have h25 : P x24 := by unfold x24; exact (State.engStore_inv (c.mono rfl) h18)
  clear_value x21 x22 x23 x24
  exact (fin_p (State.stepPtrs_inv (c.mono rfl) (State.macPair_inv (c.mono rfl) h25)))
theorem State.doBfly_inv (c : Clo 0x1e020000071000000000000000080000000000000000000000000000000000016a2 P) {v0} {v1} {v2} (k0 : P v0) : (IssueP P) (State.doBfly v0 v1 v2) := by
  unfold State.doBfly
  extract_lets +onlyGivenNames -merge x1
  clear_value x1
  refine State.withPtrs_inv (c.mono rfl) k0 ?_
  intro a5 h4
  extract_lets +onlyGivenNames -merge x6
  clear_value x6
  refine State.withMem_inv (c.mono rfl) h4 ?_
  intro a10 a11 h9
  extract_lets +onlyGivenNames -merge x12 x13 x14 x15 x16
  clear_value x12 x13 x14 x15 x16
  split
  ·
    rename_i y17 y18 y19 y20
    split
    ·
      rename_i y21 y22 y23 y24
      split
      ·
        rename_i y25 y26 y27 y28
        split
        ·
          rename_i y29 y30 y31 y32
          extract_lets +onlyGivenNames -merge x33 x35
          have h34 : P x33 := by unfold x33; exact (State.setA_inv (c.mono rfl) (State.setA_inv (c.mono rfl) (State.setA_inv (c.mono rfl) h9)))
          have h36 : P x35 := by unfold x35; exact (State.setA_inv (c.mono rfl) h34)
          clear_value x33 x35
          split
          ·
            rename_i y37 y38 y39 y40
            split
            ·
              rename_i y41 y42 y43 y44
              split
              ·
                rename_i y45 y46 y47 y48
                split
                ·
                  rename_i y49 y50 y51 y52
                  extract_lets +onlyGivenNames -merge x53 x55
                  have h54 : P x53 := by unfold x53; exact (State.engStore_inv (c.mono rfl) h36)
                  have h56 : P x55 := by unfold x55; exact (State.engStore_inv (c.mono rfl) h54)
                  clear_value x53 x55
                  exact (fin_p (State.stepPtrs_inv (c.mono rfl) (State.flagsOf_inv (c.mono rfl) h56)))
theorem State.doSta_inv (c : Clo 0x1e020000071000000000000000080000000000000000000000000000000000016a2 P) {v0} {v1} {v2} (k0 : P v0) : (IssueP P) (State.doSta v0 v1 v2) := by
  unfold State.doSta
  extract_lets +onlyGivenNames -merge x1 x2 x3 x4
  clear_value x2 x3 x4
  refine State.withPtrs_inv (c.mono rfl) k0 ?_
  intro a8 h7
  extract_lets +onlyGivenNames -merge x9 x10 x11
  clear_value x9 x10 x11
  split
  ·
    rename_i y12 y13 y14 y15
    split
    ·
      rename_i y16 y17 y18 y19
      split
      ·
        rename_i y20 y21 y22 y23
        split
        ·
          rename_i y24 y25 y26 y27
          extract_lets +onlyGivenNames -merge x28 x29 x30
          have h31 : P x30 := by unfold x30; exact (ite_p (fun _ => (State.stepPtrs_inv (c.mono rfl) (State.engStore_inv (c.mono rfl) h7))) (fun _ => (State.setD_inv (c.mono rfl) h7)))
          clear_value x28 x29 x30
          exact (fin_p (State.flagsOf_inv (c.mono rfl) h31))
theorem State.doRep_inv (c : Clo 0x1e020000031000000000000000000000000000000000000000000000000000002a2 P) {v0} {v1} {v2} (k0 : P v0) : (IssueP P) (State.doRep v0 v1 v2) := by
  unfold State.doRep
  extract_lets +onlyGivenNames -merge x1 x2 x3
  clear_value x1 x2 x3
  split
  ·
    rename_i y4 y5 y6 y7 y8
    have q10 := congr_p (Q := (SndP (SndP P))) y8 (by
        exact (State.engRead_inv (c.mono rfl) k0)
      )
    have h9 : P y7 := q10
    refine ite_p (fun _ => (exc_p h9)) (fun _ => ?_)
    split
    ·
      rename_i y11 y12
      exact (exc_p h9)
    ·
      rename_i y13 y14 y15
      split
      ·
        rename_i y16 y17 y18 y19
        extract_lets +onlyGivenNames -merge x20
        clear_value x20
        exact (ite_p (fun _ => (exc_p h9)) (fun _ => (ite_p (fun _ => (exc_p h9)) (fun _ => (ite_p (fun _ => (exc_p h9)) (fun _ => (startRep_p h9)))))))
theorem State.doBr_inv (c : Clo 0x0 P) {v0} {v1} {v2} (k0 : P v0) : (IssueP P) (State.doBr v0 v1 v2) := by
  unfold State.doBr
  exact (ite_p (fun _ => (fin_p k0)) (fun _ => (fin_p k0)))
theorem State.doDbnz_inv (c : Clo 0x1000 P) {v0} {v1} {v2} (k0 : P v0) : (IssueP P) (State.doDbnz v0 v1 v2) := by
  unfold State.doDbnz
  extract_lets +onlyGivenNames -merge x1
  clear_value x1
  refine State.withRegs_inv (c.mono rfl) k0 ?_
  intro a5 h4
  extract_lets +onlyGivenNames -merge x6 x7
  have h8 : P x7 := by unfold x7; exact (State.setD_inv (c.mono rfl) h4)
  clear_value x6 x7
  exact (ite_p (fun _ => (fin_p h8)) (fun _ => (fin_p h8)))
theorem State.doCall_inv (c : Clo 0x1000 P) {v0} {v1} {v2} (k0 : P v0) : (IssueP P) (State.doCall v0 v1 v2) := by
  unfold State.doCall
  refine ite_p (fun _ => (exc_p k0)) (fun _ => ?_)
  extract_lets +onlyGivenNames -merge x1
  clear_value x1
  exact (fin_p (c.updEng rfl _ _ k0))
theorem State.doRet_inv (c : Clo 0x1000 P) {v0} {v1} (k0 : P v0) : (IssueP P) (State.doRet v0 v1) := by
  unfold State.doRet
  split
  ·
    rename_i y1 y2
    exact (exc_p k0)
  ·
    rename_i y3 y4 y5 y6
    exact (fin_p (c.updEng rfl _ _ k0))
theorem State.deRead_inv (c : Clo 0xc000000000000000000000000000000000000200000 P) {v0} {v1} {v2} (k0 : P v0) : (SndP P) (State.deRead v0 v1 v2) := by
  unfold State.deRead
  split
  ·
    rename_i y1
    exact (mk_snd k0)
  ·
    rename_i y2
    extract_lets +onlyGivenNames -merge x3
    clear_value x3
    exact (mk_snd (c.latch rfl _ k0))
  ·
    rename_i y4
    exact (mk_snd k0)
  ·
    rename_i y5
    exact (mk_snd k0)
  ·
    rename_i y6
    exact (mk_snd (c.setF rfl k0))
  ·
    rename_i y7
    exact (mk_snd (c.setF rfl k0))
  ·
    rename_i y8 y9 y10 y11 y12 y13 y14
    exact (mk_snd k0)
theorem State.doRdr_inv (c : Clo 0xc000000000000000000000000000000000000201000 P) {v0} {v1} {v2} (k0 : P v0) : (IssueP P) (State.doRdr v0 v1 v2) := by
  unfold State.doRdr
  extract_lets +onlyGivenNames -merge x1
  clear_value x1
  split
  ·
    rename_i y2 y3 y4
    split
    ·
      rename_i y5 y6 y7 y8
      have q10 := congr_p (Q := (SndP P)) y8 (by
          exact (State.deRead_inv (c.mono rfl) k0)
        )
      have h9 : P y7 := q10
      exact (fin_p (State.setD_inv (c.mono rfl) h9))
  ·
    rename_i y11 y12
    exact (fin_p (State.setD_inv (c.mono rfl) k0))
theorem State.doWrr_inv (c : Clo 0xc000000000000000000000000000000000000000 P) {v0} {v1} {v2} (k0 : P v0) : (IssueP P) (State.doWrr v0 v1 v2) := by
  unfold State.doWrr
  extract_lets +onlyGivenNames -merge x1
  clear_value x1
  refine State.withRegs_inv (c.mono rfl) k0 ?_
  intro a5 h4
  extract_lets +onlyGivenNames -merge x6
  clear_value x6
  split
  ·
    rename_i y7 y8
    exact (fin_p (c.setF rfl h4))
  ·
    rename_i y9 y10
    exact (fin_p (ite_p (fun _ => (c.setF rfl h4)) (fun _ => h4)))
  ·
    rename_i y11 y12 y13
    exact (fin_p h4)
theorem State.withTag_inv (c : Clo 0x0 P) {v0} {v1} {v2 : ℕ → Sys2Proof.Machine.Issue} (k0 : P v0) (k2 : ∀ a0, (IssueP P) (v2 a0)) : (IssueP P) (State.withTag v0 v1 v2) := by
  unfold State.withTag
  extract_lets +onlyGivenNames -merge x1
  clear_value x1
  split
  ·
    rename_i y2 y3 y4
    exact (k2 _)
  ·
    rename_i y5 y6
    split
    ·
      rename_i y7 y8 y9
      exact (exc_p k0)
    ·
      rename_i y10 y11
      exact wait_p
theorem State.wordsAt_inv (c : Clo 0x1e020000031000000000000000000000000000000000000000000000000000002a2 P) {v0} {v1} {v2} {v3} {v4} (k0 : P v0) : (SndP P) (State.wordsAt v0 v1 v2 v3 v4) := by
  induction v4 generalizing v0 k0 v1 v2 v3 with
  | zero =>
    rw [State.wordsAt]
    exact (mk_snd k0)
  | succ n ih =>
    rw [State.wordsAt]
    split
    ·
      rename_i y1 y2 y3 y4
      have q6 := congr_p (Q := (SndP P)) y4 (by
          exact (by apply ih; exact k0)
        )
      have h5 : P y3 := q6
      split
      ·
        rename_i y7 y8 y9 y10 y11
        have q13 := congr_p (Q := (SndP (SndP P))) y11 (by
            exact (State.engRead_inv (c.mono rfl) h5)
          )
        have h12 : P y10 := q13
        exact (mk_snd h12)
theorem State.engSend_inv (c : Clo 0x1010 P) {v0} {v1} {v2} {v3} {v4} {v5} (k0 : P v0) : P (State.engSend v0 v1 v2 v3 v4 v5) := by
  unfold State.engSend
  extract_lets +onlyGivenNames -merge x1
  have h2 : P x1 := by unfold x1; exact (c.updEng rfl _ _ k0)
  clear_value x1
  exact (State.request_inv (c.mono rfl) h2)
theorem State.doGet_inv (c : Clo 0x1010 P) {v0} {v1} {v2} (k0 : P v0) : (IssueP P) (State.doGet v0 v1 v2) := by
  unfold State.doGet
  extract_lets +onlyGivenNames -merge x1 x2 x3
  clear_value x1 x2 x3
  refine State.withTag_inv (c.mono rfl) k0 ?_
  intro a8
  refine State.withRegs_inv (c.mono rfl) k0 ?_
  intro a14 h13
  refine State.withPtrs_inv (c.mono rfl) h13 ?_
  intro a18 h17
  extract_lets +onlyGivenNames -merge x19 x20 x21
  clear_value x19 x20 x21
  exact (fin_p (State.engSend_inv (c.mono rfl) h17))
theorem State.doPut_inv (c : Clo 0x1e020000031000000000000000000000000000000000000000000000000000012b2 P) {v0} {v1} {v2} (k0 : P v0) : (IssueP P) (State.doPut v0 v1 v2) := by
  unfold State.doPut
  extract_lets +onlyGivenNames -merge x1 x2 x3
  clear_value x1 x2 x3
  refine State.withTag_inv (c.mono rfl) k0 ?_
  intro a8
  refine State.withRegs_inv (c.mono rfl) k0 ?_
  intro a14 h13
  refine State.withPtrs_inv (c.mono rfl) h13 ?_
  intro a18 h17
  extract_lets +onlyGivenNames -merge x19 x20
  clear_value x19 x20
  split
  ·
    rename_i y21 y22 y23 y24
    have q26 := congr_p (Q := (SndP P)) y24 (by
        exact (State.wordsAt_inv (c.mono rfl) h17)
      )
    have h25 : P y23 := q26
    exact (fin_p (State.engSend_inv (c.mono rfl) h25))
theorem State.doSendmsg_inv (c : Clo 0x1e020000031000000000000000000000000000000000000000000000000000012b2 P) {v0} {v1} {v2} (k0 : P v0) : (IssueP P) (State.doSendmsg v0 v1 v2) := by
  unfold State.doSendmsg
  extract_lets +onlyGivenNames -merge x1 x2 x3
  clear_value x1 x2 x3
  refine State.withTag_inv (c.mono rfl) k0 ?_
  intro a8
  refine State.withRegs_inv (c.mono rfl) k0 ?_
  intro a14 h13
  refine State.withPtrs_inv (c.mono rfl) h13 ?_
  intro a18 h17
  extract_lets +onlyGivenNames -merge x19 x20
  clear_value x19 x20
  split
  ·
    rename_i y21 y22 y23 y24
    have q26 := congr_p (Q := (SndP P)) y24 (by
        exact (State.wordsAt_inv (c.mono rfl) h17)
      )
    have h25 : P y23 := q26
    extract_lets +onlyGivenNames -merge x27
    clear_value x27
    exact (fin_p (State.engSend_inv (c.mono rfl) h25))
theorem State.engRecs_inv (c : Clo 0x1e020000031000000000000000000000000000000000000000000000000000002a2 P) {v0} {v1} {v2} {v3} (k0 : P v0) : (SndP P) (State.engRecs v0 v1 v2 v3) := by
  induction v3 generalizing v0 k0 v1 v2 with
  | zero =>
    rw [State.engRecs]
    exact (mk_snd k0)
  | succ n ih =>
    rw [State.engRecs]
    split
    ·
      rename_i y1 y2 y3 y4 y5
      have q7 := congr_p (Q := (SndP P)) y5 (by
          exact (by apply ih; exact k0)
        )
      have h6 : P y4 := q7
      extract_lets +onlyGivenNames -merge x8
      clear_value x8
      split
      ·
        rename_i y9 y10 y11 y12 y13
        have q15 := congr_p (Q := (SndP (SndP P))) y13 (by
            exact (State.engRead_inv (c.mono rfl) h6)
          )
        have h14 : P y12 := q15
        split
        ·
          rename_i y16 y17 y18 y19 y20
          have q22 := congr_p (Q := (SndP (SndP P))) y20 (by
              exact (State.engRead_inv (c.mono rfl) h14)
            )
          have h21 : P y19 := q22
          split
          ·
            rename_i y23 y24 y25 y26 y27
            have q29 := congr_p (Q := (SndP (SndP P))) y27 (by
                exact (State.engRead_inv (c.mono rfl) h21)
              )
            have h28 : P y26 := q29
            extract_lets +onlyGivenNames -merge x30
            clear_value x30
            exact (mk_snd h28)
theorem State.doSendtok_inv (c : Clo 0x1e020000031000000000000000000000000000000000000000000000000000012b2 P) {v0} {v1} {v2} (k0 : P v0) : (IssueP P) (State.doSendtok v0 v1 v2) := by
  unfold State.doSendtok
  extract_lets +onlyGivenNames -merge x1 x2 x3
  clear_value x1 x2 x3
  refine State.withTag_inv (c.mono rfl) k0 ?_
  intro a8
  refine State.withRegs_inv (c.mono rfl) k0 ?_
  intro a14 h13
  refine State.withPtrs_inv (c.mono rfl) h13 ?_
  intro a18 h17
  extract_lets +onlyGivenNames -merge x19
  clear_value x19
  split
  ·
    rename_i y20 y21 y22 y23 y24
    have q26 := congr_p (Q := (SndP P)) y24 (by
        exact (State.engRecs_inv (c.mono rfl) h17)
      )
    have h25 : P y23 := q26
    split
    ·
      rename_i y27 y28
      exact (exc_p h25)
    ·
      rename_i y29
      extract_lets +onlyGivenNames -merge x30
      clear_value x30
      exact (fin_p (State.engSend_inv (c.mono rfl) h25))
theorem State.withWait_inv (c : Clo 0x0 P) {v0} {v1} {v2} {v3 : Sys2Proof.Machine.State → Sys2Proof.Machine.Issue} (k0 : P v0) (k3 : ∀ a0, P a0 → (IssueP P) (v3 a0)) : (IssueP P) (State.withWait v0 v1 v2 v3) := by
  unfold State.withWait
  extract_lets +onlyGivenNames -merge x1 x2
  clear_value x1 x2
  refine ite_p (fun _ => wait_p) (fun _ => ?_)
  split
  ·
    rename_i y3 y4 y5
    exact (exc_p k0)
  ·
    rename_i y6 y7
    exact (k3 _ k0)
theorem State.doWait_inv (c : Clo 0x0 P) {v0} {v1} {v2} (k0 : P v0) : (IssueP P) (State.doWait v0 v1 v2) := by
  unfold State.doWait
  exact (State.withWait_inv (c.mono rfl) k0 (fun _ h1 => (fin_p h1)))
theorem State.doDone_inv (c : Clo 0x1e020000031000000000000000330000000000000000000000000000000000032ba P) {v0} {v1} {v2} (k0 : P v0) : (IssueP P) (State.doDone v0 v1 v2) := by
  unfold State.doDone
  extract_lets +onlyGivenNames -merge x1
  clear_value x1
  refine State.withWait_inv (c.mono rfl) k0 ?_
  intro a5 h4
  split
  ·
    rename_i y6 y7 y8 y9 y10
    have q12 := congr_p (Q := (SndP P)) y10 (by
        exact (State.engRecs_inv (c.mono rfl) h4)
      )
    have h11 : P y9 := q12
    split
    ·
      rename_i y13 y14
      exact (exc_p h11)
    ·
      rename_i y15
      extract_lets +onlyGivenNames -merge x16 x17
      have h18 : ∀ a0, P a0 → (IssueP P) (x17 a0) := by
        intro a20 h19
        unfold x17
        beta_reduce
        exact (ended_p (State.engIdle_inv (c.mono rfl) (State.haltLost_inv (c.mono rfl) (State.setPc_inv (c.mono rfl) h19))))
      clear_value x16 x17
      exact (ite_p (fun _ => (State.withTag_inv (c.mono rfl) h11 (fun _ => (h18 _ (State.request_inv (c.mono rfl) (c.updEng rfl _ _ h11)))))) (fun _ => (h18 _ (ite_p (fun _ => h11) (fun _ => (State.sendDone_inv (c.mono rfl) h11))))))
theorem State.doBkpt_inv (c : Clo 0x2000000000000000000000000000000000000000 P) {v0} {v1} (k0 : P v0) : (IssueP P) (State.doBkpt v0 v1) := by
  unfold State.doBkpt
  exact (fin_p (c.setF rfl k0))
theorem execNopInstruction_inv (c : Clo 0x1e020000031000000000000084f30000000000000000000000040000000000032ba P) {v0} {v1} {v2} (k2 : P v2) : (OutP P) (execNopInstruction v0 v1 v2) := by
  unfold execNopInstruction
  exact (mk_next (State.issue_inv (c.mono rfl) k2 (fun _ h1 => (fin_p h1))))
theorem execLd_inv (c : Clo 0x1e020000031000000000000084f30000000000000000000000040000000000032ba P) {v0} {v1} {v2} (k2 : P v2) : (OutP P) (execLd v0 v1 v2) := by
  unfold execLd
  exact (mk_next (State.issue_inv (c.mono rfl) k2 (fun _ h1 => (State.doLd_inv (c.mono rfl) h1))))
theorem execSt_inv (c : Clo 0x1e020000071000000000000084f30000000000000000000000040000000000036ba P) {v0} {v1} {v2} (k2 : P v2) : (OutP P) (execSt v0 v1 v2) := by
  unfold execSt
  exact (mk_next (State.issue_inv (c.mono rfl) k2 (fun _ h1 => (State.doSt_inv (c.mono rfl) h1))))
theorem execMov_inv (c : Clo 0x1e020000071000000000000084f30000000000000000000000040000000000036ba P) {v0} {v1} {v2} (k2 : P v2) : (OutP P) (execMov v0 v1 v2) := by
  unfold execMov
  exact (mk_next (State.issue_inv (c.mono rfl) k2 (fun _ h1 => (State.doMov_inv (c.mono rfl) h1))))
theorem execMovr_inv (c : Clo 0x1e020000031000000000000084f30000000000000000000000040000000000032ba P) {v0} {v1} {v2} (k2 : P v2) : (OutP P) (execMovr v0 v1 v2) := by
  unfold execMovr
  exact (mk_next (State.issue_inv (c.mono rfl) k2 (fun _ h1 => (State.doMovr_inv (c.mono rfl) h1))))
theorem execLdi_inv (c : Clo 0x1e020000031000000000000084f30000000000000000000000040000000000032ba P) {v0} {v1} {v2} (k2 : P v2) : (OutP P) (execLdi v0 v1 v2) := by
  unfold execLdi
  exact (mk_next (State.issue_inv (c.mono rfl) k2 (fun _ h1 => (State.doLdi_inv (c.mono rfl) h1))))
theorem execSetp_inv (c : Clo 0x1e020000031000000000000084f30000000000000000000000040000000000032ba P) {v0} {v1} {v2} (k2 : P v2) : (OutP P) (execSetp v0 v1 v2) := by
  unfold execSetp
  exact (mk_next (State.issue_inv (c.mono rfl) k2 (fun _ h1 => (State.doSetp_inv (c.mono rfl) h1))))
theorem execMovp_inv (c : Clo 0x1e020000031000000000000084f30000000000000000000000040000000000032ba P) {v0} {v1} {v2} (k2 : P v2) : (OutP P) (execMovp v0 v1 v2) := by
  unfold execMovp
  exact (mk_next (State.issue_inv (c.mono rfl) k2 (fun _ h1 => (State.doMovp_inv (c.mono rfl) h1))))
theorem execRdr_inv (c : Clo 0x1e0200000310000000000000c4f30000000000000000000000040000000002032ba P) {v0} {v1} {v2} (k2 : P v2) : (OutP P) (execRdr v0 v1 v2) := by
  unfold execRdr
  exact (mk_next (State.issue_inv (c.mono rfl) k2 (fun _ h1 => (State.doRdr_inv (c.mono rfl) h1))))
theorem execWrr_inv (c : Clo 0x1e020000031000000000000084ff0000000000000000000000040000000000032ba P) {v0} {v1} {v2} (k2 : P v2) : (OutP P) (execWrr v0 v1 v2) := by
  unfold execWrr
  exact (mk_next (State.issue_inv (c.mono rfl) k2 (fun _ h1 => (State.doWrr_inv (c.mono rfl) h1))))
theorem execAcc_inv (c : Clo 0x1e020000031000000000000084f30000000000000000000000040000000000032ba P) {v0} {v1} {v2} (k2 : P v2) : (OutP P) (execAcc v0 v1 v2) := by
  unfold execAcc
  exact (mk_next (State.issue_inv (c.mono rfl) k2 (fun _ h1 => (State.doAcc_inv (c.mono rfl) h1))))
theorem execAlu_inv (c : Clo 0x1e020000031000000000000084fb0000000000000000000000040000000000032ba P) {v0} {v1} {v2} (k2 : P v2) : (OutP P) (execAlu v0 v1 v2) := by
  unfold execAlu
  exact (mk_next (State.issue_inv (c.mono rfl) k2 (fun _ h1 => (State.doAlu_inv (c.mono rfl) h1))))
theorem execAlui_inv (c : Clo 0x1e020000031000000000000084fb0000000000000000000000040000000000032ba P) {v0} {v1} {v2} (k2 : P v2) : (OutP P) (execAlui v0 v1 v2) := by
  unfold execAlui
  exact (mk_next (State.issue_inv (c.mono rfl) k2 (fun _ h1 => (State.doAlui_inv (c.mono rfl) h1))))
theorem execCmac_inv (c : Clo 0x1e020000031000000000000084fb0000000000000000000000040000000000032ba P) {v0} {v1} {v2} (k2 : P v2) : (OutP P) (execCmac v0 v1 v2) := by
  unfold execCmac
  exact (mk_next (State.issue_inv (c.mono rfl) k2 (fun _ h1 => (State.doMac_inv (c.mono rfl) h1))))
theorem execDmac_inv (c : Clo 0x1e020000031000000000000084fb0000000000000000000000040000000000032ba P) {v0} {v1} {v2} (k2 : P v2) : (OutP P) (execDmac v0 v1 v2) := by
  unfold execDmac
  exact (mk_next (State.issue_inv (c.mono rfl) k2 (fun _ h1 => (State.doMac_inv (c.mono rfl) h1))))
theorem execTapm_inv (c : Clo 0x1e020000071000000000000084fb0000000000000000000000040000000000036ba P) {v0} {v1} {v2} (k2 : P v2) : (OutP P) (execTapm v0 v1 v2) := by
  unfold execTapm
  exact (mk_next (State.issue_inv (c.mono rfl) k2 (fun _ h1 => (State.doTapm_inv (c.mono rfl) h1))))
theorem execBfly_inv (c : Clo 0x1e020000071000000000000084fb0000000000000000000000040000000000036ba P) {v0} {v1} {v2} (k2 : P v2) : (OutP P) (execBfly v0 v1 v2) := by
  unfold execBfly
  exact (mk_next (State.issue_inv (c.mono rfl) k2 (fun _ h1 => (State.doBfly_inv (c.mono rfl) h1))))
theorem execSta_inv (c : Clo 0x1e020000071000000000000084fb0000000000000000000000040000000000036ba P) {v0} {v1} {v2} (k2 : P v2) : (OutP P) (execSta v0 v1 v2) := by
  unfold execSta
  exact (mk_next (State.issue_inv (c.mono rfl) k2 (fun _ h1 => (State.doSta_inv (c.mono rfl) h1))))
theorem execRep_inv (c : Clo 0x1e020000031000000000000084f30000000000000000000000040000000000032ba P) {v0} {v1} {v2} (k2 : P v2) : (OutP P) (execRep v0 v1 v2) := by
  unfold execRep
  exact (mk_next (State.issue_inv (c.mono rfl) k2 (fun _ h1 => (State.doRep_inv (c.mono rfl) h1))))
theorem execBr_inv (c : Clo 0x1e020000031000000000000084f30000000000000000000000040000000000032ba P) {v0} {v1} {v2} (k2 : P v2) : (OutP P) (execBr v0 v1 v2) := by
  unfold execBr
  exact (mk_next (State.issue_inv (c.mono rfl) k2 (fun _ h1 => (State.doBr_inv (c.mono rfl) h1))))
theorem execDbnz_inv (c : Clo 0x1e020000031000000000000084f30000000000000000000000040000000000032ba P) {v0} {v1} {v2} (k2 : P v2) : (OutP P) (execDbnz v0 v1 v2) := by
  unfold execDbnz
  exact (mk_next (State.issue_inv (c.mono rfl) k2 (fun _ h1 => (State.doDbnz_inv (c.mono rfl) h1))))
theorem execCall_inv (c : Clo 0x1e020000031000000000000084f30000000000000000000000040000000000032ba P) {v0} {v1} {v2} (k2 : P v2) : (OutP P) (execCall v0 v1 v2) := by
  unfold execCall
  exact (mk_next (State.issue_inv (c.mono rfl) k2 (fun _ h1 => (State.doCall_inv (c.mono rfl) h1))))
theorem execRet_inv (c : Clo 0x1e020000031000000000000084f30000000000000000000000040000000000032ba P) {v0} {v1} {v2} (k2 : P v2) : (OutP P) (execRet v0 v1 v2) := by
  unfold execRet
  exact (mk_next (State.issue_inv (c.mono rfl) k2 (fun _ h1 => (State.doRet_inv (c.mono rfl) h1))))
theorem execGet_inv (c : Clo 0x1e020000031000000000000084f30000000000000000000000040000000000032ba P) {v0} {v1} {v2} (k2 : P v2) : (OutP P) (execGet v0 v1 v2) := by
  unfold execGet
  exact (mk_next (State.issue_inv (c.mono rfl) k2 (fun _ h1 => (State.doGet_inv (c.mono rfl) h1))))
theorem execPut_inv (c : Clo 0x1e020000031000000000000084f30000000000000000000000040000000000032ba P) {v0} {v1} {v2} (k2 : P v2) : (OutP P) (execPut v0 v1 v2) := by
  unfold execPut
  exact (mk_next (State.issue_inv (c.mono rfl) k2 (fun _ h1 => (State.doPut_inv (c.mono rfl) h1))))
theorem execSendtok_inv (c : Clo 0x1e020000031000000000000084f30000000000000000000000040000000000032ba P) {v0} {v1} {v2} (k2 : P v2) : (OutP P) (execSendtok v0 v1 v2) := by
  unfold execSendtok
  exact (mk_next (State.issue_inv (c.mono rfl) k2 (fun _ h1 => (State.doSendtok_inv (c.mono rfl) h1))))
theorem execSendmsg_inv (c : Clo 0x1e020000031000000000000084f30000000000000000000000040000000000032ba P) {v0} {v1} {v2} (k2 : P v2) : (OutP P) (execSendmsg v0 v1 v2) := by
  unfold execSendmsg
  exact (mk_next (State.issue_inv (c.mono rfl) k2 (fun _ h1 => (State.doSendmsg_inv (c.mono rfl) h1))))
theorem execWait_inv (c : Clo 0x1e020000031000000000000084f30000000000000000000000040000000000032ba P) {v0} {v1} {v2} (k2 : P v2) : (OutP P) (execWait v0 v1 v2) := by
  unfold execWait
  exact (mk_next (State.issue_inv (c.mono rfl) k2 (fun _ h1 => (State.doWait_inv (c.mono rfl) h1))))
theorem execDoneInstruction_inv (c : Clo 0x1e020000031000000000000084f30000000000000000000000040000000000032ba P) {v0} {v1} {v2} (k2 : P v2) : (OutP P) (execDoneInstruction v0 v1 v2) := by
  unfold execDoneInstruction
  exact (mk_next (State.issue_inv (c.mono rfl) k2 (fun _ h1 => (State.doDone_inv (c.mono rfl) h1))))
theorem execBkpt_inv (c : Clo 0x1e020000031000000000000084f30000000000000000000000040000000000032ba P) {v0} {v1} {v2} (k2 : P v2) : (OutP P) (execBkpt v0 v1 v2) := by
  unfold execBkpt
  exact (mk_next (State.issue_inv (c.mono rfl) k2 (fun _ h1 => (State.doBkpt_inv (c.mono rfl) h1))))

/-! ### Engines -/

theorem State.startEngine_inv (c : Clo 0x5d000000000000000000000000000000000001000 P) {v0} {v1} {v2} {v3} {v4} {v5} (k0 : P v0) : P (State.startEngine v0 v1 v2 v3 v4 v5) := by
  unfold State.startEngine
  extract_lets +onlyGivenNames -merge x1 x3 x6 x8
  have h2 : P x1 := by unfold x1; exact (c.updEng rfl _ _ k0)
  have h4 : P x3 := by unfold x3; exact (State.each_inv (c.mono rfl) h2 (fun _ _ h5 => (State.setD_inv (c.mono rfl) h5)))
  have h7 : P x6 := by unfold x6; exact (c.wr rfl (c.wr rfl h4))
  have h9 : P x8 := by unfold x8; exact (c.setF rfl (c.setF rfl h7))
  clear_value x1 x3 x6 x8
  exact (c.setF rfl h9)
theorem State.engDispatch_inv (c : Clo 0x788001e0200000710000000000000007d0000000000000000000000000000000000016ba P) {v0} {v1} (k0 : P v0) : P (State.engDispatch v0 v1) := by
  unfold State.engDispatch
  split
  ·
    rename_i y1 y2
    exact k0
  ·
    rename_i y3 y4 y5 y6
    have q8 := congr_p (Q := (OptP (SndP P))) y6 (by
        exact (State.takeOn_inv (c.mono rfl) k0)
      )
    have h7 : P y5 := q8
    refine ite_p (fun _ => (State.refuse_inv (c.mono rfl) h7)) (fun _ => ?_)
    refine ite_p (fun _ => (State.refuse_inv (c.mono rfl) h7)) (fun _ => ?_)
    extract_lets +onlyGivenNames -merge x9 x10 x12 x13 x15 x17
    have h11 : P x10 := by unfold x10; exact (State.writeRun_inv (c.mono rfl) h7)
    have h14 : P x13 := by unfold x13; exact (State.startEngine_inv (c.mono rfl) h11)
    have h16 : P x15 := by unfold x15; exact (c.setF rfl (c.setF rfl h14))
    have h18 : P x17 := by unfold x17; exact (c.setF rfl h16)
    clear_value x9 x10 x12 x13 x15 x17
    exact (State.inject_inv (c.mono rfl) h18)
theorem State.haltRequest_inv (c : Clo 0x2000000000000000000000000000000000000000 P) {v0} {v1} {v2} (k0 : P v0) : P (State.haltRequest v0 v1 v2) := by
  unfold State.haltRequest
  exact (c.setF rfl k0)
theorem State.engineHalt_inv (c : Clo 0x1000000000000000000000000000000000003018 P) {v0} {v1} (k0 : P v0) : P (State.engineHalt v0 v1) := by
  unfold State.engineHalt
  refine ite_p (fun _ => ?_) (fun _ => k0)
  extract_lets +onlyGivenNames -merge x1
  clear_value x1
  exact (State.each_inv (c.mono rfl) (c.updEng rfl _ _ (c.setF rfl k0)) (fun _ _ h2 => (State.respond_inv (c.mono rfl) h2)))
theorem State.askStep_inv (c : Clo 0x2000000000000000000000000000000000001000 P) {v0} {v1} (k0 : P v0) : P (State.askStep v0 v1) := by
  unfold State.askStep
  exact (ite_p (fun _ => (c.updEng rfl _ _ (c.setF rfl k0))) (fun _ => k0))
theorem State.rfWrite_inv (c : Clo 0x1000 P) {v0} {v1} {v2} (k0 : P v0) : P (State.rfWrite v0 v1 v2) := by
  unfold State.rfWrite
  refine ite_p (fun _ => k0) (fun _ => ?_)
  extract_lets +onlyGivenNames -merge x1
  clear_value x1
  exact (c.updEng rfl _ _ k0)
theorem State.getData_inv (c : Clo 0x1e020000071000000000000000000000000000000000000000000000000000006a2 P) {v0} {v1} {v2} {v3} {v4} (k0 : P v0) : P (State.getData v0 v1 v2 v3 v4) := by
  unfold State.getData
  extract_lets +onlyGivenNames -merge x1
  clear_value x1
  refine State.each_inv (c.mono rfl) k0 ?_
  intro a5 a6 h4
  extract_lets +onlyGivenNames -merge x7 x8
  clear_value x7 x8
  exact (State.engStore_inv (c.mono rfl) h4)
theorem State.setTag_inv (c : Clo 0x1000 P) {v0} {v1} {v2} {v3} (k0 : P v0) : P (State.setTag v0 v1 v2 v3) := by
  unfold State.setTag
  exact (c.updEng rfl _ _ k0)
theorem State.engAnswered_inv (c : Clo 0x1e020000071000000000000000000000000000000000000000000000000000016b2 P) {v0} {v1} {v2} {v3} {v4} (k0 : P v0) : P (State.engAnswered v0 v1 v2 v3 v4) := by
  unfold State.engAnswered
  extract_lets +onlyGivenNames -merge x1
  clear_value x1
  refine ite_p (fun _ => ?_) (fun _ => ?_)
  ·
    refine ite_p (fun _ => ?_) (fun _ => (ite_p (fun _ => (State.request_inv (c.mono rfl) k0)) (fun _ => (State.request_inv (c.mono rfl) k0))))
    split
    ·
      rename_i y2 y3 y4 y5
      exact (State.request_inv (c.mono rfl) (State.setTag_inv (c.mono rfl) k0))
    ·
      rename_i y6 y7
      exact (State.request_inv (c.mono rfl) k0)
  ·
    refine ite_p (fun _ => (State.setTag_inv (c.mono rfl) k0)) (fun _ => ?_)
    extract_lets +onlyGivenNames -merge x8
    have h9 : P x8 := by unfold x8; exact (ite_p (fun _ => (State.getData_inv (c.mono rfl) k0)) (fun _ => k0))
    clear_value x8
    split
    ·
      rename_i y10 y11 y12 y13
      exact (State.request_inv (c.mono rfl) (State.setTag_inv (c.mono rfl) h9))
    ·
      rename_i y14 y15
      exact (State.setTag_inv (c.mono rfl) h9)
theorem State.engResponse_inv (c : Clo 0x2000001e020000071000000000000040000000000000000000000000000000000000016b2 P) {v0} {v1} (k0 : P v0) : P (State.engResponse v0 v1) := by
  unfold State.engResponse
  split
  ·
    rename_i y1 y2
    exact k0
  ·
    rename_i y3 y4 y5 y6
    have q8 := congr_p (Q := (OptP (SndP P))) y6 (by
        exact (State.take_inv (c.mono rfl) k0)
      )
    have h7 : P y5 := q8
    refine ite_p (fun _ => k0) (fun _ => ?_)
    extract_lets +onlyGivenNames -merge x9
    have h10 : P x9 := by unfold x9; exact (State.slotTaken_inv (c.mono rfl) h7)
    clear_value x9
    split
    ·
      rename_i y11 y12 y13 y14
      have q16 := congr_p (Q := (SndP P)) y14 (by
          exact (State.matchRsp_inv (c.mono rfl) h10)
        )
      have h15 : P y13 := q16
      split
      ·
        rename_i y17 y18
        exact (ite_p (fun _ => (State.engAnswered_inv (c.mono rfl) h15)) (fun _ => h15))
      ·
        rename_i y19
        exact h15
theorem State.engMemAccess_inv (c : Clo 0x788001e020004071000000000000040000000000000000000000000000000000000016ba P) {v0} {v1} (k0 : P v0) : P (State.engMemAccess v0 v1) := by
  unfold State.engMemAccess
  refine ite_p (fun _ => k0) (fun _ => ?_)
  split
  ·
    rename_i y1 y2
    exact k0
  ·
    rename_i y3 y4 y5 y6
    have q8 := congr_p (Q := (OptP (SndP P))) y6 (by
        exact (State.take_inv (c.mono rfl) k0)
      )
    have h7 : P y5 := q8
    extract_lets +onlyGivenNames -merge x9
    have h10 : P x9 := by unfold x9; exact (State.slotTaken_inv (c.mono rfl) h7)
    clear_value x9
    split
    ·
      rename_i y11 y12 y13
      exact (State.refuse_inv (c.mono rfl) h10)
    ·
      rename_i y14 y15
      exact (State.memAccess_inv (c.mono rfl) h10)
theorem execDispatch_inv (c : Clo 0x788001e0200000710000000000000007d0000000000000000000000000000000000016ba P) {v0} {v1} (k1 : P v1) : (OutP P) (execDispatch v0 v1) := by
  unfold execDispatch
  exact (mk_next (ite_p (fun _ => (State.engDispatch_inv (c.mono rfl) k1)) (fun _ => k1)))
theorem execHaltRequest_inv (c : Clo 0x2000000000000000000000000000000000000000 P) {v0} {v1} {v2} (k2 : P v2) : (OutP P) (execHaltRequest v0 v1 v2) := by
  unfold execHaltRequest
  exact (mk_next (State.haltRequest_inv (c.mono rfl) k2))
theorem execEngineHalt_inv (c : Clo 0x1000000000000000000000000000000000003018 P) {v0} {v1} (k1 : P v1) : (OutP P) (execEngineHalt v0 v1) := by
  unfold execEngineHalt
  exact (mk_next (State.engineHalt_inv (c.mono rfl) k1))
theorem execStep_inv (c : Clo 0x2000000000000000000000000000000000001000 P) {v0} {v1} (k1 : P v1) : (OutP P) (execStep v0 v1) := by
  unfold execStep
  exact (mk_next (State.askStep_inv (c.mono rfl) k1))
theorem execDeRfDataWrite_inv (c : Clo 0x1000 P) {v0} {v1} {v2} (k2 : P v2) : (OutP P) (execDeRfDataWrite v0 v1 v2) := by
  unfold execDeRfDataWrite
  exact (mk_next (State.rfWrite_inv (c.mono rfl) k2))
theorem execEngineMemoryAccess_inv (c : Clo 0x788001e020004071000000000000040000000000000000000000000000000000000016ba P) {v0} {v1} (k1 : P v1) : (OutP P) (execEngineMemoryAccess v0 v1) := by
  unfold execEngineMemoryAccess
  exact (mk_next (ite_p (fun _ => (State.engMemAccess_inv (c.mono rfl) k1)) (fun _ => k1)))
theorem execEngineResponse_inv (c : Clo 0x2000001e020000071000000000000040000000000000000000000000000000000000016b2 P) {v0} {v1} (k1 : P v1) : (OutP P) (execEngineResponse v0 v1) := by
  unfold execEngineResponse
  exact (mk_next (ite_p (fun _ => (State.engResponse_inv (c.mono rfl) k1)) (fun _ => k1)))
theorem execDspStatus_inv (c : Clo 0x1e0200000000000000000000c00000000000000000000000000820000000020203a P) {v0} {v1} {v2} (k2 : P v2) : (OutP P) (execDspStatus v0 v1 v2) := by
  unfold execDspStatus
  exact (mk_next (State.submit_inv (c.mono rfl) k2 (fun _ h1 => (State.checks_inv (c.mono rfl) h1 (fun _ h2 => (State.replyData_inv (c.mono rfl) h2))))))
theorem execDspHalt_inv (c : Clo 0x1e0200000000000000000000000200000000000000000000000820000000000303a P) {v0} {v1} {v2} (k2 : P v2) : (OutP P) (execDspHalt v0 v1 v2) := by
  unfold execDspHalt
  exact (mk_next (State.submit_inv (c.mono rfl) k2 (fun _ h1 => (State.checks_inv (c.mono rfl) h1 (fun _ h2 => (c.updEng rfl _ _ (c.setF rfl (State.uncommitted_inv (c.mono rfl) h2))))))))
theorem execDspResume_inv (c : Clo 0x1e0200000000000000000000000300000000000000000000000820000000000203a P) {v0} {v1} {v2} (k2 : P v2) : (OutP P) (execDspResume v0 v1 v2) := by
  unfold execDspResume
  exact (mk_next (State.submit_inv (c.mono rfl) k2 (fun _ h1 => (State.checks_inv (c.mono rfl) h1 (fun _ h2 => (State.reply_inv (c.mono rfl) (c.setF rfl (c.setF rfl h2))))))))
theorem execDspStep_inv (c : Clo 0x1e0200000000000000000000000200000000000000000000000820000000000303a P) {v0} {v1} {v2} (k2 : P v2) : (OutP P) (execDspStep v0 v1 v2) := by
  unfold execDspStep
  exact (mk_next (State.submit_inv (c.mono rfl) k2 (fun _ h1 => (State.checks_inv (c.mono rfl) h1 (fun _ h2 => (c.updEng rfl _ _ (State.askStep_inv (c.mono rfl) (State.uncommitted_inv (c.mono rfl) h2))))))))
theorem State.resetEngine_inv (c : Clo 0x39f0304400710000040004004043300000000021c94020101c08400000004000bffe P) {v0} {v1} {v2} (k0 : P v0) : P (State.resetEngine v0 v1 v2) := by
  unfold State.resetEngine
  extract_lets +onlyGivenNames -merge x1 x2 x3
  have h4 : P x3 := by unfold x3; exact (State.engIdle_inv (c.mono rfl) (State.clearEngine_inv (c.mono rfl) k0))
  clear_value x2 x3
  exact (ite_p (fun _ => h4) (fun _ => (ite_p (fun _ => (ite_p (fun _ => (State.returnTask_inv (c.mono rfl) h4)) (fun _ => h4))) (fun _ => (State.sendDone_inv (c.mono rfl) h4)))))
theorem execDspReset_inv (c : Clo 0x39f0304400710000040004004047300000000021c94020101c08c20000004000bffe P) {v0} {v1} {v2} {v3} (k3 : P v3) : (OutP P) (execDspReset v0 v1 v2 v3) := by
  unfold execDspReset
  exact (mk_next (State.submit_inv (c.mono rfl) k3 (fun _ h1 => (State.checks_inv (c.mono rfl) h1 (fun _ h2 => (State.reply_inv (c.mono rfl) (c.setF rfl (State.resetEngine_inv (c.mono rfl) h2))))))))
theorem execDspStart_inv (c : Clo 0x1e0200000000000000000000005d00000000000000000000000820000000000303a P) {v0} {v1} {v2} {v3} {v4} (k4 : P v4) : (OutP P) (execDspStart v0 v1 v2 v3 v4) := by
  unfold execDspStart
  refine mk_next ?_
  refine State.submit_inv (c.mono rfl) k4 ?_
  intro a10 h9
  refine State.checks_inv (c.mono rfl) h9 ?_
  intro a14 h13
  extract_lets +onlyGivenNames -merge x15 x16
  clear_value x15 x16
  exact (c.updEng rfl _ _ (State.startEngine_inv (c.mono rfl) (State.uncommitted_inv (c.mono rfl) h13)))
theorem State.unstart_inv (c : Clo 0x1000000000000000000000000000000000001001 P) {v0} {v1} {v2} (k0 : P v0) : P (State.unstart v0 v1 v2) := by
  unfold State.unstart
  extract_lets +onlyGivenNames -merge x1 x3
  have h2 : P x1 := by unfold x1; exact (c.updEng rfl _ _ k0)
  have h4 : P x3 := by unfold x3; exact (foldl_p (fun _ _ h5 => (c.wrAny rfl h5)) h2)
  clear_value x1 x3
  exact (c.setF rfl h4)

/-! ### Links -/

theorem State.sealFlit_inv (c : Clo 0x60000000000000000000000000000000000000000000000000002000 P) {v0} {v1} {v2} (k0 : P v0) : (SndP P) (State.sealFlit v0 v1 v2) := by
  unfold State.sealFlit
  extract_lets +onlyGivenNames -merge x1
  clear_value x1
  split
  ·
    rename_i y2 y3
    exact (mk_snd k0)
  ·
    rename_i y4 y5 y6
    extract_lets +onlyGivenNames -merge x7 x8 x9 x10 x12
    have h11 : P x10 := by unfold x10; exact (c.updLink rfl _ _ k0)
    have h13 : P x12 := by unfold x12; exact (c.setF rfl h11)
    clear_value x7 x8 x9 x10 x12
    exact (mk_snd (c.setF rfl h13))
theorem State.countRxE_inv (c : Clo 0x2000 P) {v0} {v1} {v2} (k0 : P v0) : P (State.countRxE v0 v1 v2) := by
  unfold State.countRxE
  exact (ite_p (fun _ => k0) (fun _ => (c.updLink rfl _ _ k0)))
theorem State.dropKeys_inv (c : Clo 0x60000000040040000000000000000000000000000000000000002018 P) {v0} {v1} (k0 : P v0) : P (State.dropKeys v0 v1) := by
  unfold State.dropKeys
  extract_lets +onlyGivenNames -merge x1 x2 x4 x6
  have h3 : P x2 := by unfold x2; exact (State.respondTo_inv (c.mono rfl) (c.updLink rfl _ _ k0))
  have h5 : P x4 := by unfold x4; exact (c.wr rfl h3)
  have h7 : P x6 := by unfold x6; exact (c.wr rfl h5)
  clear_value x1 x2 x4 x6
  exact (c.setLinkF rfl rfl h7)
theorem State.onWire_inv (c : Clo 0x2000 P) {v0} {v1} {v2} (k0 : P v0) : P (State.onWire v0 v1 v2) := by
  unfold State.onWire
  extract_lets +onlyGivenNames -merge x1
  clear_value x1
  exact (c.updLink rfl _ _ k0)
theorem State.putFlit_inv (c : Clo 0x2000 P) {v0} {v1} {v2} (k0 : P v0) : P (State.putFlit v0 v1 v2) := by
  unfold State.putFlit
  extract_lets +onlyGivenNames -merge x1 x2
  clear_value x1 x2
  exact (State.onWire_inv (c.mono rfl) (c.updLink rfl _ _ k0))
theorem State.sendNull_inv (c : Clo 0x2000 P) {v0} {v1} (k0 : P v0) : P (State.sendNull v0 v1) := by
  unfold State.sendNull
  exact (State.putFlit_inv (c.mono rfl) k0)
theorem State.fillFlit_inv (c : Clo 0x2000 P) {v0} {v1} (k0 : P v0) : P (State.fillFlit v0 v1) := by
  unfold State.fillFlit
  extract_lets +onlyGivenNames -merge x1
  clear_value x1
  exact (ite_p (fun _ => (State.sendNull_inv (c.mono rfl) k0)) (fun _ => (ite_p (fun _ => (State.onWire_inv (c.mono rfl) k0)) (fun _ => (State.onWire_inv (c.mono rfl) k0)))))
theorem State.frameOut_inv (c : Clo 0x2000 P) {v0} {v1} {v2} {v3} (k0 : P v0) : P (State.frameOut v0 v1 v2 v3) := by
  unfold State.frameOut
  extract_lets +onlyGivenNames -merge x1 x2 x3 x6 x7 x8
  have h4 : P x3 := by unfold x3; exact (ite_p (fun _ => k0) (fun _ => (State.each_inv (c.mono rfl) k0 (fun _ _ h5 => (State.fillFlit_inv (c.mono rfl) h5)))))
  clear_value x1 x2 x3 x6 x7 x8
  exact (c.updLink rfl _ _ h4)
theorem State.sendFrame_inv (c : Clo 0x2000 P) {v0} {v1} (k0 : P v0) : P (State.sendFrame v0 v1) := by
  unfold State.sendFrame
  exact (ite_p (fun _ => k0) (fun _ => (State.frameOut_inv (c.mono rfl) k0)))
theorem State.pmFrame_inv (c : Clo 0x2000 P) {v0} {v1} {v2} {v3} (k0 : P v0) : P (State.pmFrame v0 v1 v2 v3) := by
  unfold State.pmFrame
  extract_lets +onlyGivenNames -merge x1 x2 x3
  clear_value x1 x2 x3
  exact (c.updLink rfl _ _ (State.frameOut_inv (c.mono rfl) k0))
theorem State.flushSlots_inv (c : Clo 0x2000 P) {v0} {v1} {v2} (k0 : P v0) : P (State.flushSlots v0 v1 v2) := by
  induction v2 generalizing v0 k0 v1 with
  | zero =>
    rw [State.flushSlots]
    exact k0
  | succ n ih =>
    rw [State.flushSlots]
    exact (ite_p (fun _ => k0) (fun _ => (by apply ih; exact (State.frameOut_inv (c.mono rfl) k0))))
theorem State.sendPm_inv (c : Clo 0x2000 P) {v0} {v1} {v2} {v3} (k0 : P v0) : P (State.sendPm v0 v1 v2 v3) := by
  unfold State.sendPm
  exact (State.pmFrame_inv (c.mono rfl) (State.pmFrame_inv (c.mono rfl) (State.flushSlots_inv (c.mono rfl) k0)))
theorem State.sayOff_inv (c : Clo 0x400040000000000000000000000000000000000000000002000 P) {v0} {v1} (k0 : P v0) : P (State.sayOff v0 v1) := by
  unfold State.sayOff
  extract_lets +onlyGivenNames -merge x1
  have h2 : P x1 := by unfold x1; exact (ite_p (fun _ => (State.sendPm_inv (c.mono rfl) k0)) (fun _ => k0))
  clear_value x1
  exact (ite_p (fun _ => (State.lanesOff_inv (c.mono rfl) (c.setF rfl (c.setF rfl h2)))) (fun _ => h2))
theorem State.replayFlits_inv (c : Clo 0x2000 P) {v0} {v1} (k0 : P v0) : P (State.replayFlits v0 v1) := by
  unfold State.replayFlits
  extract_lets +onlyGivenNames -merge x1 x2
  clear_value x1 x2
  exact (State.each_inv (c.mono rfl) (c.updLink rfl _ _ k0) (fun _ _ h3 => (State.putFlit_inv (c.mono rfl) h3)))
theorem State.keepFlit_inv (c : Clo 0x60000000000000000000000000000000000000000000000000002000 P) {v0} {v1} {v2} (k0 : P v0) : P (State.keepFlit v0 v1 v2) := by
  unfold State.keepFlit
  extract_lets +onlyGivenNames -merge x1
  clear_value x1
  split
  ·
    rename_i y2 y3 y4 y5
    have q7 := congr_p (Q := (SndP P)) y5 (by
        exact (State.sealFlit_inv (c.mono rfl) k0)
      )
    have h6 : P y4 := q7
    exact (State.putFlit_inv (c.mono rfl) (c.updLink rfl _ _ h6))
theorem State.pumpLmb_inv (c : Clo 0x60000000000000000000000000000000000000000000000000002000 P) {v0} {v1} (k0 : P v0) : P (State.pumpLmb v0 v1) := by
  unfold State.pumpLmb
  exact (State.each_inv (c.mono rfl) k0 (fun _ _ h1 => (ite_p (fun _ => (State.keepFlit_inv (c.mono rfl) (c.updLink rfl _ _ h1))) (fun _ => h1))))
theorem State.countOut_inv (c : Clo 0x20 P) {v0} {v1} (k0 : P v0) : P (State.countOut v0 v1) := by
  unfold State.countOut
  exact (ite_p (fun _ => (State.updRp_inv (c.mono rfl) k0)) (fun _ => k0))
theorem State.discardOut_inv (c : Clo 0x30 P) {v0} {v1} {v2} {v3} (k0 : P v0) : P (State.discardOut v0 v1 v2 v3) := by
  induction v3 generalizing v0 k0 v1 v2 with
  | zero =>
    rw [State.discardOut]
    exact k0
  | succ n ih =>
    rw [State.discardOut]
    split
    ·
      rename_i y1 y2
      exact k0
    ·
      rename_i y3 y4 y5 y6
      have q8 := congr_p (Q := (OptP (SndP P))) y6 (by
          exact (State.takeOn_inv (c.mono rfl) k0)
        )
      have h7 : P y5 := q8
      exact (by apply ih; exact (State.countOut_inv (c.mono rfl) h7))
theorem State.pullTx_inv (c : Clo 0x2030 P) {v0} {v1} {v2} {v3} {v4} (k0 : P v0) : P (State.pullTx v0 v1 v2 v3 v4) := by
  induction v4 generalizing v0 k0 v1 v2 v3 with
  | zero =>
    rw [State.pullTx]
    exact k0
  | succ n ih =>
    rw [State.pullTx]
    refine ite_p (fun _ => k0) (fun _ => ?_)
    split
    ·
      rename_i y1 y2
      exact k0
    ·
      rename_i y3 y4 y5 y6
      have q8 := congr_p (Q := (OptP (SndP P))) y6 (by
          exact (State.takeOn_inv (c.mono rfl) k0)
        )
      have h7 : P y5 := q8
      extract_lets +onlyGivenNames -merge x9
      have h10 : P x9 := by unfold x9; exact (ite_p (fun _ => h7) (fun _ => (State.countOut_inv (c.mono rfl) h7)))
      clear_value x9
      exact (by apply ih; exact (c.updLink rfl _ _ h10))
theorem State.shutTake_inv (c : Clo 0x788000000000000000000000000000000000000000000000000000000000000000000018 P) {v0} {v1} {v2} (k0 : P v0) : (OptP (SndP P)) (State.shutTake v0 v1 v2) := by
  unfold State.shutTake
  exact (map_p (fun _ h1 => (ite_p (fun _ => (mk_snd (State.refuse_inv (c.mono rfl) (snd_p h1)))) (fun _ => (mk_snd (snd_p h1))))) (State.take_inv (c.mono rfl) k0))
theorem State.shutDrain_inv (c : Clo 0x788000000000000000000000000000000000000000000000000000000000400000000018 P) {v0} {v1} {v2} {v3} (k0 : P v0) : P (State.shutDrain v0 v1 v2 v3) := by
  induction v3 generalizing v0 k0 v1 v2 with
  | zero =>
    rw [State.shutDrain]
    exact k0
  | succ n ih =>
    rw [State.shutDrain]
    split
    ·
      rename_i y1 y2 y3 y4
      have q6 := congr_p (Q := (OptP (SndP P))) y4 (by
          exact (State.shutTake_inv (c.mono rfl) k0)
        )
      have h5 : P y3 := q6
      exact (by apply ih; exact (ite_p (fun _ => (c.inc rfl h5)) (fun _ => h5)))
    ·
      rename_i y7 y8
      exact k0
theorem State.refuseAtLink_inv (c : Clo 0x788000000000000000000000000000000000000000000000000000000000000000000018 P) {v0} {v1} {v2} (k0 : P v0) : P (State.refuseAtLink v0 v1 v2) := by
  unfold State.refuseAtLink
  refine ite_p (fun _ => ?_) (fun _ => ?_)
  ·
    split
    ·
      rename_i y1 y2 y3 y4
      have q6 := congr_p (Q := (OptP (SndP P))) y4 (by
          exact (State.shutTake_inv (c.mono rfl) k0)
        )
      have h5 : P y3 := q6
      exact h5
    ·
      rename_i y7 y8
      exact k0
  ·
    split
    ·
      rename_i y9 y10 y11 y12
      have q14 := congr_p (Q := (OptP (SndP P))) y12 (by
          exact (State.takeOn_inv (c.mono rfl) k0)
        )
      have h13 : P y11 := q14
      exact (State.refuse_inv (c.mono rfl) h13)
    ·
      rename_i y15 y16
      exact k0
theorem State.flitSend_inv (c : Clo 0x788000000000000060000000000000000000000000000000000000000000000000002038 P) {v0} {v1} {v2} (k0 : P v0) : P (State.flitSend v0 v1 v2) := by
  unfold State.flitSend
  extract_lets +onlyGivenNames -merge x1
  have h2 : P x1 := by unfold x1; exact (State.pumpLmb_inv (c.mono rfl) (State.refuseAtLink_inv (c.mono rfl) k0))
  clear_value x1
  refine ite_p (fun _ => (State.discardOut_inv (c.mono rfl) h2)) (fun _ => ?_)
  refine ite_p (fun _ => h2) (fun _ => ?_)
  extract_lets +onlyGivenNames -merge x3 x4
  have h5 : P x4 := by unfold x4; exact (State.pullTx_inv (c.mono rfl) h2)
  clear_value x3 x4
  split
  ·
    rename_i y6 y7 y8 y9 y10 y11
    refine ite_p (fun _ => h5) (fun _ => ?_)
    extract_lets +onlyGivenNames -merge x12 x13
    have h14 : P x13 := by unfold x13; exact (c.updLink rfl _ _ h5)
    clear_value x12 x13
    exact (State.keepFlit_inv (c.mono rfl) h14)
theorem State.linkFault_inv (c : Clo 0x39f0304400710000040004004041300000000021c94020101c08400000004000bffe P) {v0} {v1} {v2} {v3} (k0 : P v0) : P (State.linkFault v0 v1 v2 v3) := by
  unfold State.linkFault
  exact (State.booksFault_inv (c.mono rfl) k0)
theorem State.takeCredits_inv (c : Clo 0x39f0304400710000040004004041300000000021c94020101c08400000004000bffe P) {v0} {v1} {v2} (k0 : P v0) : P (State.takeCredits v0 v1 v2) := by
  unfold State.takeCredits
  split
  ·
    rename_i y1 y2 y3
    exact (State.linkFault_inv (c.mono rfl) k0)
  ·
    rename_i y4 y5
    exact (c.updLink rfl _ _ k0)
theorem State.goDown_inv (c : Clo 0x1e0200000000000040004004000000000000000000000000000000000000000203a P) {v0} {v1} (k0 : P v0) : P (State.goDown v0 v1) := by
  unfold State.goDown
  extract_lets +onlyGivenNames -merge x1 x3 x5
  have h2 : P x1 := by unfold x1; exact (c.updLink rfl _ _ (State.sayOff_inv (c.mono rfl) k0))
  have h4 : P x3 := by unfold x3; exact (c.setLinkF rfl rfl h2)
  have h6 : P x5 := by unfold x5; exact (State.setLinkState_inv (c.mono rfl) h4)
  clear_value x1 x3 x5
  exact (State.endLinkCmds_inv (c.mono rfl) h6)
theorem State.beginTraining_inv (c : Clo 0x1e020000000000004000c00c0000000000000000000000000000000000000002022 P) {v0} {v1} {v2} (k0 : P v0) : P (State.beginTraining v0 v1 v2) := by
  unfold State.beginTraining
  extract_lets +onlyGivenNames -merge x1 x3 x5
  have h2 : P x1 := by unfold x1; exact (c.updLink rfl _ _ k0)
  have h4 : P x3 := by unfold x3; exact (State.lanesOff_inv (c.mono rfl) h2)
  have h6 : P x5 := by unfold x5; exact (c.setLinkF rfl rfl h4)
  clear_value x1 x3 x5
  exact (State.setLinkState_inv (c.mono rfl) h6)
theorem State.startRetrain_inv (c : Clo 0x1e020000000000004800c40c0000000000000000000000000000000000000002022 P) {v0} {v1} (k0 : P v0) : P (State.startRetrain v0 v1) := by
  unfold State.startRetrain
  extract_lets +onlyGivenNames -merge x1
  clear_value x1
  refine ite_p (fun _ => ?_) (fun _ => k0)
  extract_lets +onlyGivenNames -merge x2 x4 x5
  have h3 : P x2 := by unfold x2; exact (c.incLinkW rfl rfl k0)
  have h6 : P x5 := by unfold x5; exact (State.beginTraining_inv (c.mono rfl) h3)
  clear_value x2 x4 x5
  exact (ite_p (fun _ => (c.updLink rfl _ _ h6)) (fun _ => h6))
theorem State.bringUp_inv (c : Clo 0x1e020000000000004000c00c0000000000000000000000000000000000000002022 P) {v0} {v1} (k0 : P v0) : P (State.bringUp v0 v1) := by
  unfold State.bringUp
  extract_lets +onlyGivenNames -merge x1
  clear_value x1
  exact (ite_p (fun _ => (ite_p (fun _ => (State.setLinkState_inv (c.mono rfl) k0)) (fun _ => (State.beginTraining_inv (c.mono rfl) k0)))) (fun _ => k0))
theorem State.holdDown_inv (c : Clo 0x1e020000000000004000c00c000000000000000000000000000000000000000203a P) {v0} {v1} (k0 : P v0) : P (State.holdDown v0 v1) := by
  unfold State.holdDown
  extract_lets +onlyGivenNames -merge x1
  have h2 : P x1 := by unfold x1; exact (c.setLinkF rfl rfl k0)
  clear_value x1
  exact (ite_p (fun _ => (State.endLinkCmds_inv (c.mono rfl) h2)) (fun _ => (ite_p (fun _ => (c.updLink rfl _ _ h2)) (fun _ => (State.goDown_inv (c.mono rfl) h2)))))
theorem State.releaseHold_inv (c : Clo 0x1e020000000000004000c00c0000000000000000000000000000000000000002022 P) {v0} {v1} (k0 : P v0) : P (State.releaseHold v0 v1) := by
  unfold State.releaseHold
  extract_lets +onlyGivenNames -merge x1 x3
  have h2 : P x1 := by unfold x1; exact (c.setLinkF rfl rfl k0)
  have h4 : P x3 := by unfold x3; exact (c.updLink rfl _ _ h2)
  clear_value x1 x3
  exact (ite_p (fun _ => h4) (fun _ => (ite_p (fun _ => (State.bringUp_inv (c.mono rfl) h4)) (fun _ => (State.setLinkState_inv (c.mono rfl) h4)))))
theorem State.payAck_inv (c : Clo 0x2000 P) {v0} {v1} (k0 : P v0) : P (State.payAck v0 v1) := by
  unfold State.payAck
  exact (ite_p (fun _ => (State.sendNull_inv (c.mono rfl) k0)) (fun _ => k0))
theorem State.linkDrained_inv (c : Clo 0x1e020000000000004800c40c000000000000000000000000000000000000000203a P) {v0} {v1} (k0 : P v0) : P (State.linkDrained v0 v1) := by
  unfold State.linkDrained
  extract_lets +onlyGivenNames -merge x1
  clear_value x1
  refine ite_p (fun _ => k0) (fun _ => ?_)
  extract_lets +onlyGivenNames -merge x2
  have h3 : P x2 := by unfold x2; exact (State.payAck_inv (c.mono rfl) k0)
  clear_value x2
  exact (ite_p (fun _ => (State.goDown_inv (c.mono rfl) h3)) (fun _ => (ite_p (fun _ => (State.startRetrain_inv (c.mono rfl) h3)) (fun _ => (ite_p (fun _ => (State.setLinkState_inv (c.mono rfl) h3)) (fun _ => h3))))))
theorem State.changeDepths_inv (c : Clo 0x1e020000000000004800c40c000000000000000000000000000000000000000203a P) {v0} {v1} (k0 : P v0) : P (State.changeDepths v0 v1) := by
  unfold State.changeDepths
  extract_lets +onlyGivenNames -merge x1
  have h2 : P x1 := by unfold x1; exact (c.updLink rfl _ _ k0)
  clear_value x1
  exact (ite_p (fun _ => (State.startRetrain_inv (c.mono rfl) h2)) (fun _ => (State.linkDrained_inv (c.mono rfl) h2)))
theorem State.takeAgain_inv (c : Clo 0x1e020000000000004000c00c0000000000000000000000000000000000000002022 P) {v0} {v1} (k0 : P v0) : P (State.takeAgain v0 v1) := by
  unfold State.takeAgain
  extract_lets +onlyGivenNames -merge x1
  clear_value x1
  exact (State.beginTraining_inv (c.mono rfl) (c.updLink rfl _ _ k0))
theorem State.linkChanged_inv (c : Clo 0x1e020000000000004800c40c000000000000000000000000000000000000000203a P) {v0} {v1} {v2} (k0 : P v0) : P (State.linkChanged v0 v1 v2) := by
  unfold State.linkChanged
  extract_lets +onlyGivenNames -merge x1
  clear_value x1
  exact (ite_p (fun _ => (c.updLink rfl _ _ k0)) (fun _ => (ite_p (fun _ => (ite_p (fun _ => (State.changeDepths_inv (c.mono rfl) k0)) (fun _ => (State.startRetrain_inv (c.mono rfl) k0)))) (fun _ => (ite_p (fun _ => (State.takeAgain_inv (c.mono rfl) (c.updLink rfl _ _ k0))) (fun _ => (c.updLink rfl _ _ k0)))))))
theorem State.linkOff_inv (c : Clo 0x1e020000000000004000c00c0000000000000000000000000000000000000002022 P) {v0} {v1} (k0 : P v0) : P (State.linkOff v0 v1) := by
  unfold State.linkOff
  extract_lets +onlyGivenNames -merge x1 x3
  have h2 : P x1 := by unfold x1; exact (State.beginTraining_inv (c.mono rfl) (State.sayOff_inv (c.mono rfl) k0))
  have h4 : P x3 := by unfold x3; exact (c.setLinkF rfl rfl h2)
  clear_value x1 x3
  exact (c.updLink rfl _ _ h4)
theorem State.txReached_inv (c : Clo 0x2018 P) {v0} {v1} (k0 : P v0) : P (State.txReached v0 v1) := by
  unfold State.txReached
  exact (State.endLinkCmds_inv (c.mono rfl) k0)
theorem State.linkUp_inv (c : Clo 0x39f030440071600004800c40c041300000000021c94020101c08400000004000bffe P) {v0} {v1} (k0 : P v0) : P (State.linkUp v0 v1) := by
  unfold State.linkUp
  extract_lets +onlyGivenNames -merge x1
  have h2 : P x1 := by unfold x1; exact (State.setLinkState_inv (c.mono rfl) k0)
  clear_value x1
  refine ite_p (fun _ => (State.booksFault_inv (c.mono rfl) h2)) (fun _ => ?_)
  extract_lets +onlyGivenNames -merge x3 x5 x7 x9 x11 x13
  have h4 : P x3 := by unfold x3; exact (c.updLink rfl _ _ h2)
  have h6 : P x5 := by unfold x5; exact (State.replayFlits_inv (c.mono rfl) h4)
  have h8 : P x7 := by unfold x7; exact (State.endLinkCmds_inv (c.mono rfl) h6)
  have h10 : P x9 := by unfold x9; exact (ite_p (fun _ => (c.updLink rfl _ _ h8)) (fun _ => (ite_p (fun _ => (c.updLink rfl _ _ (c.setF rfl (ite_p (fun _ => (State.sendPm_inv (c.mono rfl) h8)) (fun _ => h8))))) (fun _ => h8))))
  have h12 : P x11 := by unfold x11; exact (ite_p (fun _ => (State.txReached_inv (c.mono rfl) h10)) (fun _ => h10))
  clear_value x3 x5 x7 x9 x11 x13
  refine ite_p (fun _ => (State.holdDown_inv (c.mono rfl) h12)) (fun _ => ?_)
  refine ite_p (fun _ => ?_) (fun _ => (ite_p (fun _ => (State.startRetrain_inv (c.mono rfl) h12)) (fun _ => (ite_p (fun _ => (State.linkDrained_inv (c.mono rfl) h12)) (fun _ => (State.pumpLmb_inv (c.mono rfl) h12))))))
  extract_lets +onlyGivenNames -merge x14
  have h15 : P x14 := by unfold x14; exact (c.updLink rfl _ _ h12)
  clear_value x14
  exact (ite_p (fun _ => (State.changeDepths_inv (c.mono rfl) h15)) (fun _ => (State.startRetrain_inv (c.mono rfl) h15)))
theorem State.sendFirst_inv (c : Clo 0x2000 P) {v0} {v1} (k0 : P v0) : P (State.sendFirst v0 v1) := by
  unfold State.sendFirst
  extract_lets +onlyGivenNames -merge x1 x2
  clear_value x1 x2
  exact (State.onWire_inv (c.mono rfl) (c.updLink rfl _ _ k0))
theorem State.recordPeer_inv (c : Clo 0x3841c40000000000000000000000000000000000000000000 P) {v0} {v1} {v2} (k0 : P v0) : P (State.recordPeer v0 v1 v2) := by
  unfold State.recordPeer
  extract_lets +onlyGivenNames -merge x1 x2 x3 x4 x5 x7 x9 x11 x13 x15 x17
  have h6 : P x5 := by unfold x5; exact (c.setLinkF rfl rfl k0)
  have h8 : P x7 := by unfold x7; exact (c.setLinkF rfl rfl h6)
  have h10 : P x9 := by unfold x9; exact (c.setLinkF rfl rfl h8)
  have h12 : P x11 := by unfold x11; exact (c.setLinkF rfl rfl h10)
  have h14 : P x13 := by unfold x13; exact (c.setLinkF rfl rfl h12)
  have h16 : P x15 := by unfold x15; exact (c.setLinkF rfl rfl h14)
  have h18 : P x17 := by unfold x17; exact (c.setLinkF rfl rfl h16)
  clear_value x1 x2 x3 x4 x5 x7 x9 x11 x13 x15 x17
  exact (c.setLinkF rfl rfl h18)
theorem State.reinit_inv (c : Clo 0x60000000040040000000000000000000000000004000000000002018 P) {v0} {v1} {v2} (k0 : P v0) : P (State.reinit v0 v1 v2) := by
  unfold State.reinit
  extract_lets +onlyGivenNames -merge x1 x2 x3 x6 x8 x9 x11
  have h4 : P x3 := by unfold x3; exact (State.each_inv (c.mono rfl) k0 (fun _ _ h5 => (State.inject_inv (c.mono rfl) h5)))
  have h7 : P x6 := by unfold x6; exact (State.dropKeys_inv (c.mono rfl) h4)
  have h10 : P x9 := by unfold x9; exact (c.updLink rfl _ _ h7)
  have h12 : P x11 := by unfold x11; exact (c.updLink rfl _ _ h10)
  clear_value x1 x2 x3 x6 x8 x9 x11
  exact (ite_p (fun _ => (State.event_inv (c.mono rfl) (c.setLinkF rfl rfl h12))) (fun _ => h12))
theorem State.initRecv_inv (c : Clo 0x39f030440071600004838c5cc041300000000021c94020101c08400000004000bffe P) {v0} {v1} {v2} (k0 : P v0) : P (State.initRecv v0 v1 v2) := by
  unfold State.initRecv
  refine ite_p (fun _ => k0) (fun _ => ?_)
  extract_lets +onlyGivenNames -merge x1 x3 x5 x6
  have h2 : P x1 := by unfold x1; exact (ite_p (fun _ => k0) (fun _ => (State.sendFirst_inv (c.mono rfl) (c.updLink rfl _ _ k0))))
  have h4 : P x3 := by unfold x3; exact (c.updLink rfl _ _ h2)
  have h7 : P x6 := by unfold x6; exact (State.recordPeer_inv (c.mono rfl) (State.reinit_inv (c.mono rfl) h4))
  clear_value x1 x3 x5 x6
  exact (ite_p (fun _ => (State.linkUp_inv (c.mono rfl) h7)) (fun _ => h7))
theorem State.resyncRecv_inv (c : Clo 0x39f030440071600004800c40c041300000000021c94020101c08400000004000bffe P) {v0} {v1} {v2} (k0 : P v0) : P (State.resyncRecv v0 v1 v2) := by
  unfold State.resyncRecv
  extract_lets +onlyGivenNames -merge x1
  clear_value x1
  refine ite_p (fun _ => k0) (fun _ => ?_)
  split
  ·
    rename_i y2 y3
    exact (State.linkFault_inv (c.mono rfl) k0)
  ·
    rename_i y4 y5 y6
    extract_lets +onlyGivenNames -merge x7 x8
    clear_value x7 x8
    split
    ·
      rename_i y9 y10 y11
      exact (State.linkFault_inv (c.mono rfl) k0)
    ·
      rename_i y12 y13
      extract_lets +onlyGivenNames -merge x14
      have h15 : P x14 := by unfold x14; exact (c.updLink rfl _ _ k0)
      clear_value x14
      exact (ite_p (fun _ => (State.linkUp_inv (c.mono rfl) h15)) (fun _ => h15))
theorem State.replayAll_inv (c : Clo 0x1e020000000000004c00c40c0000000000000000000000000000000000000002022 P) {v0} {v1} (k0 : P v0) : P (State.replayAll v0 v1) := by
  unfold State.replayAll
  refine ite_p (fun _ => k0) (fun _ => ?_)
  refine ite_p (fun _ => (State.startRetrain_inv (c.mono rfl) k0)) (fun _ => ?_)
  extract_lets +onlyGivenNames -merge x1 x3
  have h2 : P x1 := by unfold x1; exact (c.inc rfl k0)
  have h4 : P x3 := by unfold x3; exact (c.updLink rfl _ _ h2)
  clear_value x1 x3
  exact (State.replayFlits_inv (c.mono rfl) h4)
theorem State.sendNak_inv (c : Clo 0x40000000000000000000000000000000000000000000002000 P) {v0} {v1} (k0 : P v0) : P (State.sendNak v0 v1) := by
  unfold State.sendNak
  refine ite_p (fun _ => k0) (fun _ => ?_)
  extract_lets +onlyGivenNames -merge x1
  have h2 : P x1 := by unfold x1; exact (c.inc rfl k0)
  clear_value x1
  exact (c.updLink rfl _ _ (State.putFlit_inv (c.mono rfl) h2))
theorem State.enterTx_inv (c : Clo 0x40000000000000000000000000000000000000000002018 P) {v0} {v1} {v2} {v3} (k0 : P v0) : P (State.enterTx v0 v1 v2 v3) := by
  unfold State.enterTx
  exact (State.txReached_inv (c.mono rfl) (c.setF rfl (ite_p (fun _ => (State.sendPm_inv (c.mono rfl) k0)) (fun _ => k0))))
theorem State.exitTx_inv (c : Clo 0x1e020000000600004800c40c000000000000000000000000000000000000000203a P) {v0} {v1} (k0 : P v0) : P (State.exitTx v0 v1) := by
  unfold State.exitTx
  exact (ite_p (fun _ => (State.startRetrain_inv (c.mono rfl) k0)) (fun _ => (State.pumpLmb_inv (c.mono rfl) (State.txReached_inv (c.mono rfl) (c.setF rfl k0)))))
theorem State.takePmReq_inv (c : Clo 0x1e020000000600004800c40c000000000000000000000000000000000000000203a P) {v0} {v1} {v2} (k0 : P v0) : P (State.takePmReq v0 v1 v2) := by
  unfold State.takePmReq
  extract_lets +onlyGivenNames -merge x1 x2
  have h3 : P x2 := by unfold x2; exact (c.updLink rfl _ _ k0)
  clear_value x1 x2
  exact (ite_p (fun _ => (State.exitTx_inv (c.mono rfl) h3)) (fun _ => h3))
theorem State.txPower_inv (c : Clo 0x40000000000000000000000000000000000000000002018 P) {v0} {v1} (k0 : P v0) : P (State.txPower v0 v1) := by
  unfold State.txPower
  exact (ite_p (fun _ => k0) (fun _ => (ite_p (fun _ => (State.enterTx_inv (c.mono rfl) k0)) (fun _ => k0))))
theorem State.ackOf_inv (c : Clo 0x39f030440071000004800c40c041300000000021c94020101c08400000004000bffe P) {v0} {v1} {v2} (k0 : P v0) : P (State.ackOf v0 v1 v2) := by
  unfold State.ackOf
  extract_lets +onlyGivenNames -merge x1 x3
  have h2 : P x1 := by unfold x1; exact (State.takeCredits_inv (c.mono rfl) k0)
  clear_value x1 x3
  split
  ·
    rename_i y4 y5
    exact (ite_p (fun _ => (State.startRetrain_inv (c.mono rfl) h2)) (fun _ => h2))
  ·
    rename_i y6 y7 y8
    extract_lets +onlyGivenNames -merge x9
    clear_value x9
    exact (c.updLink rfl _ _ h2)
theorem State.takeAck_inv (c : Clo 0x39f030440071000004800c40c041300000000021c94020101c08400000004000bffe P) {v0} {v1} {v2} (k0 : P v0) : P (State.takeAck v0 v1 v2) := by
  unfold State.takeAck
  exact (State.linkDrained_inv (c.mono rfl) (State.ackOf_inv (c.mono rfl) k0))
theorem State.offExit_inv (c : Clo 0x1e020000000000004800c40c0000000000000000000000000000000000000002022 P) {v0} {v1} (k0 : P v0) : P (State.offExit v0 v1) := by
  unfold State.offExit
  exact (ite_p (fun _ => (State.startRetrain_inv (c.mono rfl) k0)) (fun _ => k0))
theorem State.resumeRx_inv (c : Clo 0x40000000000000000000000000000000000000000002000 P) {v0} {v1} (k0 : P v0) : P (State.resumeRx v0 v1) := by
  unfold State.resumeRx
  exact (ite_p (fun _ => (c.updLink rfl _ _ (c.setF rfl k0))) (fun _ => k0))
theorem State.deliverStream_inv (c : Clo 0x1f88039f0304400710000040004004041300000000021c94020101008400000004000bffe P) {v0} {v1} {v2} {v3} (k0 : P v0) : P (State.deliverStream v0 v1 v2 v3) := by
  induction v3 generalizing v0 k0 v1 v2 with
  | zero =>
    rw [State.deliverStream]
    exact k0
  | succ n ih =>
    rw [State.deliverStream]
    split
    ·
      rename_i y1 y2
      exact k0
    ·
      rename_i y3 y4 y5
      extract_lets +onlyGivenNames -merge x6 x8
      have h7 : P x6 := by unfold x6; exact (c.updLink rfl _ _ k0)
      have h9 : P x8 := by unfold x8; exact (ite_p (fun _ => (State.pump1_inv (c.mono rfl) (State.inject_inv (c.mono rfl) h7))) (fun _ => (State.linkConsumed_inv (c.mono rfl) (State.countMalformed_inv (c.mono rfl) h7))))
      clear_value x6 x8
      exact (by apply ih; exact h9)
theorem State.dropStream_inv (c : Clo 0x2000 P) {v0} {v1} {v2} (k0 : P v0) : P (State.dropStream v0 v1 v2) := by
  unfold State.dropStream
  extract_lets +onlyGivenNames -merge x1
  clear_value x1
  exact (c.updLink rfl _ _ (State.linkConsumed_inv (c.mono rfl) k0))
theorem State.takeData_inv (c : Clo 0x1f88039f0304400718000040004004041300000000021c94020101008400000004000bffe P) {v0} {v1} {v2} {v3} (k0 : P v0) : P (State.takeData v0 v1 v2 v3) := by
  unfold State.takeData
  extract_lets +onlyGivenNames -merge x1 x2
  have h3 : P x2 := by unfold x2; exact (c.updLink rfl _ _ k0)
  clear_value x1 x2
  refine ite_p (fun _ => (c.updLink rfl _ _ (State.dropStream_inv (c.mono rfl) (c.inc rfl h3)))) (fun _ => ?_)
  extract_lets +onlyGivenNames -merge x4 x5 x7 x8 x9 x10
  have h6 : P x5 := by unfold x5; exact (ite_p (fun _ => (State.dropStream_inv (c.mono rfl) h3)) (fun _ => h3))
  have h11 : P x10 := by unfold x10; exact (c.updLink rfl _ _ h6)
  clear_value x4 x5 x7 x8 x9 x10
  exact (State.deliverStream_inv (c.mono rfl) (State.linkConsumed_inv (c.mono rfl) h11))
theorem State.countIn_inv (c : Clo 0x2000 P) {v0} {v1} {v2} (k0 : P v0) : P (State.countIn v0 v1 v2) := by
  unfold State.countIn
  extract_lets +onlyGivenNames -merge x1
  have h2 : P x1 := by unfold x1; exact (c.updLink rfl _ _ (State.countRxE_inv (c.mono rfl) k0))
  clear_value x1
  exact (ite_p (fun _ => (State.sendNull_inv (c.mono rfl) h2)) (fun _ => h2))
theorem State.judgeSeq_inv (c : Clo 0x39f030440071800104c00cc0c041300000000021c94020101c08400000004000bffe P) {v0} {v1} {v2} (k0 : P v0) : (SndP P) (State.judgeSeq v0 v1 v2) := by
  unfold State.judgeSeq
  extract_lets +onlyGivenNames -merge x1
  have h2 : P x1 := by unfold x1; exact (State.resumeRx_inv (c.mono rfl) k0)
  clear_value x1
  refine ite_p (fun _ => ?_) (fun _ => (ite_p (fun _ => (mk_snd (ite_p (fun _ => (State.startRetrain_inv (c.mono rfl) (State.ackOf_inv (c.mono rfl) h2))) (fun _ => (c.inc rfl h2))))) (fun _ => (ite_p (fun _ => (mk_snd (State.sendNak_inv (c.mono rfl) h2))) (fun _ => (mk_snd (State.takeAck_inv (c.mono rfl) (c.updLink rfl _ _ h2))))))))
  split
  ·
    rename_i y3 y4 y5
    extract_lets +onlyGivenNames -merge x6
    have h7 : P x6 := by unfold x6; exact (State.ackOf_inv (c.mono rfl) h2)
    clear_value x6
    exact (mk_snd h7)
  ·
    rename_i y8 y9
    extract_lets +onlyGivenNames -merge x10
    have h11 : P x10 := by unfold x10; exact (c.setF rfl (c.inc rfl h2))
    clear_value x10
    exact (mk_snd (ite_p (fun _ => (State.sendNak_inv (c.mono rfl) h11)) (fun _ => h11)))
theorem State.dataRecv_inv (c : Clo 0x1f88039f030440071800104c00cc0c041300000000021c94020101c08400000004000bffe P) {v0} {v1} {v2} (k0 : P v0) : P (State.dataRecv v0 v1 v2) := by
  unfold State.dataRecv
  refine ite_p (fun _ => (State.offExit_inv (c.mono rfl) k0)) (fun _ => ?_)
  split
  ·
    rename_i y1 y2 y3
    have q5 := congr_p (Q := (SndP P)) y3 (by
        exact (State.judgeSeq_inv (c.mono rfl) k0)
      )
    have h4 : P y2 := q5
    exact h4
  ·
    rename_i y6 y7 y8 y9
    have q11 := congr_p (Q := (SndP P)) y9 (by
        exact (State.judgeSeq_inv (c.mono rfl) k0)
      )
    have h10 : P y8 := q11
    exact (State.linkDrained_inv (c.mono rfl) (State.takeData_inv (c.mono rfl) (State.countIn_inv (c.mono rfl) h10)))
theorem State.nullRecv_inv (c : Clo 0x39f030440071600004800c40c041300000000021c94020101c08400000004000bffe P) {v0} {v1} {v2} (k0 : P v0) : P (State.nullRecv v0 v1 v2) := by
  unfold State.nullRecv
  refine ite_p (fun _ => (State.offExit_inv (c.mono rfl) k0)) (fun _ => ?_)
  refine ite_p (fun _ => k0) (fun _ => ?_)
  extract_lets +onlyGivenNames -merge x1
  have h2 : P x1 := by unfold x1; exact (State.takeAck_inv (c.mono rfl) (State.resumeRx_inv (c.mono rfl) k0))
  clear_value x1
  exact (State.txPower_inv (c.mono rfl) (ite_p (fun _ => (State.takePmReq_inv (c.mono rfl) h2)) (fun _ => h2)))
theorem State.nakRecv_inv (c : Clo 0x39f030440071000004c00c40c041300000000021c94020101c08400000004000bffe P) {v0} {v1} {v2} (k0 : P v0) : P (State.nakRecv v0 v1 v2) := by
  unfold State.nakRecv
  refine ite_p (fun _ => (State.offExit_inv (c.mono rfl) k0)) (fun _ => ?_)
  refine ite_p (fun _ => k0) (fun _ => ?_)
  extract_lets +onlyGivenNames -merge x1
  have h2 : P x1 := by unfold x1; exact (State.takeAck_inv (c.mono rfl) (State.resumeRx_inv (c.mono rfl) k0))
  clear_value x1
  exact (ite_p (fun _ => (State.replayAll_inv (c.mono rfl) h2)) (fun _ => h2))
theorem State.enterRx_inv (c : Clo 0x400040000000000000000000000000000000000000000002000 P) {v0} {v1} {v2} (k0 : P v0) : P (State.enterRx v0 v1 v2) := by
  unfold State.enterRx
  extract_lets +onlyGivenNames -merge x1
  have h2 : P x1 := by unfold x1; exact (c.updLink rfl _ _ (c.setF rfl k0))
  clear_value x1
  exact (ite_p (fun _ => (State.lanesOff_inv (c.mono rfl) h2)) (fun _ => h2))
theorem State.pmRecv_inv (c : Clo 0x39f030440071600004800c40c041300000000021c94020101c08400000004000bffe P) {v0} {v1} {v2} (k0 : P v0) : P (State.pmRecv v0 v1 v2) := by
  unfold State.pmRecv
  refine ite_p (fun _ => (State.offExit_inv (c.mono rfl) k0)) (fun _ => ?_)
  refine ite_p (fun _ => k0) (fun _ => ?_)
  extract_lets +onlyGivenNames -merge x1 x3 x5
  have h2 : P x1 := by unfold x1; exact (State.takeAck_inv (c.mono rfl) (State.resumeRx_inv (c.mono rfl) k0))
  have h4 : P x3 := by unfold x3; exact (ite_p (fun _ => h2) (fun _ => (ite_p (fun _ => (State.enterRx_inv (c.mono rfl) h2)) (fun _ => (c.updLink rfl _ _ h2)))))
  have h6 : P x5 := by unfold x5; exact (c.updLink rfl _ _ h4)
  clear_value x1 x3 x5
  exact (State.txPower_inv (c.mono rfl) (State.takePmReq_inv (c.mono rfl) h6))
theorem State.teqRecv_inv (c : Clo 0x2000 P) {v0} {v1} {v2} (k0 : P v0) : P (State.teqRecv v0 v1 v2) := by
  unfold State.teqRecv
  extract_lets +onlyGivenNames -merge x1 x2
  clear_value x1 x2
  exact (ite_p (fun _ => k0) (fun _ => (ite_p (fun _ => (c.updLink rfl _ _ k0)) (fun _ => (ite_p (fun _ => (c.updLink rfl _ _ k0)) (fun _ => k0))))))
theorem State.attempt_inv (c : Clo 0x400040000000000000000000000000000000000000000002000 P) {v0} {v1} (k0 : P v0) : P (State.attempt v0 v1) := by
  unfold State.attempt
  extract_lets +onlyGivenNames -merge x1
  have h2 : P x1 := by unfold x1; exact (c.updLink rfl _ _ k0)
  clear_value x1
  refine ite_p (fun _ => ?_) (fun _ => h2)
  extract_lets +onlyGivenNames -merge x3 x4
  have h5 : P x4 := by unfold x4; exact (c.setF rfl (c.setF rfl h2))
  clear_value x3 x4
  exact (State.each_inv (c.mono rfl) h5 (fun _ _ h6 => (c.wr rfl h6)))
theorem State.attemptFails_inv (c : Clo 0x1e020000000000004800c40c000000000000000000000000000400000000000203a P) {v0} {v1} (k0 : P v0) : P (State.attemptFails v0 v1) := by
  unfold State.attemptFails
  refine ite_p (fun _ => k0) (fun _ => ?_)
  extract_lets +onlyGivenNames -merge x1 x3
  have h2 : P x1 := by unfold x1; exact (c.incLinkW rfl rfl k0)
  have h4 : P x3 := by unfold x3; exact (c.updLink rfl _ _ h2)
  clear_value x1 x3
  refine ite_p (fun _ => h4) (fun _ => ?_)
  extract_lets +onlyGivenNames -merge x5
  have h6 : P x5 := by unfold x5; exact (ite_p (fun _ => (State.setLinkState_inv (c.mono rfl) h4)) (fun _ => h4))
  clear_value x5
  refine ite_p (fun _ => ?_) (fun _ => (State.attempt_inv (c.mono rfl) h6))
  extract_lets +onlyGivenNames -merge x7 x9 x11 x13 x15
  have h8 : P x7 := by unfold x7; exact (State.setLinkState_inv (c.mono rfl) h6)
  have h10 : P x9 := by unfold x9; exact (c.setLinkF rfl rfl h8)
  have h12 : P x11 := by unfold x11; exact (c.setLinkF rfl rfl h10)
  have h14 : P x13 := by unfold x13; exact (State.endLinkCmds_inv (c.mono rfl) h12)
  have h16 : P x15 := by unfold x15; exact (State.event_inv (c.mono rfl) h14)
  clear_value x7 x9 x11 x13 x15
  exact (ite_p (fun _ => (State.takeAgain_inv (c.mono rfl) h16)) (fun _ => h16))
theorem State.trainingAttempt_inv (c : Clo 0x400040000000000000000000000000000000000000000002000 P) {v0} {v1} (k0 : P v0) : P (State.trainingAttempt v0 v1) := by
  unfold State.trainingAttempt
  extract_lets +onlyGivenNames -merge x1 x2
  clear_value x1 x2
  exact (ite_p (fun _ => (State.attempt_inv (c.mono rfl) (c.updLink rfl _ _ k0))) (fun _ => k0))
theorem State.failedRetry_inv (c : Clo 0x400040000000000000000000000000000000000000000002000 P) {v0} {v1} (k0 : P v0) : P (State.failedRetry v0 v1) := by
  unfold State.failedRetry
  exact (ite_p (fun _ => (State.attempt_inv (c.mono rfl) k0)) (fun _ => k0))
theorem State.slipLane_inv (c : Clo 0x400000000000000000000000000000000000000000000000000 P) {v0} {v1} {v2} (k0 : P v0) : P (State.slipLane v0 v1 v2) := by
  unfold State.slipLane
  refine ite_p (fun _ => ?_) (fun _ => k0)
  extract_lets +onlyGivenNames -merge x1 x2
  have h3 : P x2 := by unfold x2; exact (c.setF rfl k0)
  clear_value x1 x2
  exact (c.setF rfl (c.setF rfl h3))
theorem State.alignmentCheck_inv (c : Clo 0x1e020000000000004800c40c000000000000000000000000000400000000000203a P) {v0} {v1} {v2} (k0 : P v0) : P (State.alignmentCheck v0 v1 v2) := by
  unfold State.alignmentCheck
  extract_lets +onlyGivenNames -merge x1 x2
  clear_value x1 x2
  refine ite_p (fun _ => k0) (fun _ => ?_)
  extract_lets +onlyGivenNames -merge x3 x4 x5 x7
  have h6 : P x5 := by unfold x5; exact (c.updLink rfl _ _ k0)
  have h8 : P x7 := by
    unfold x7
    refine State.each_inv (c.mono rfl) h6 ?_
    intro a13 a14 h12
    extract_lets +onlyGivenNames -merge x15 x16
    have h17 : P x16 := by unfold x16; exact (c.setF rfl (c.setF rfl h12))
    clear_value x15 x16
    exact (ite_p (fun _ => h17) (fun _ => (State.slipLane_inv (c.mono rfl) h17)))
  clear_value x3 x4 x5 x7
  exact (ite_p (fun _ => (State.attemptFails_inv (c.mono rfl) h8)) (fun _ => h8))
theorem State.frameLock_inv (c : Clo 0x1e02000000000000408040040000000000000000000000000000000000000002022 P) {v0} {v1} (k0 : P v0) : P (State.frameLock v0 v1) := by
  unfold State.frameLock
  extract_lets +onlyGivenNames -merge x1
  clear_value x1
  refine ite_p (fun _ => ?_) (fun _ => k0)
  extract_lets +onlyGivenNames -merge x2 x4 x6 x9
  have h3 : P x2 := by unfold x2; exact (c.updLink rfl _ _ k0)
  have h5 : P x4 := by unfold x4; exact (c.drawn rfl  h3)
  have h7 : P x6 := by unfold x6; exact (State.each_inv (c.mono rfl) h5 (fun _ _ h8 => (c.setF rfl h8)))
  have h10 : P x9 := by
    unfold x9
    split
    ·
      rename_i y11 y12 y13
      exact (c.setF rfl h7)
    ·
      rename_i y14 y15
      exact (c.drawn rfl  (c.setF rfl h7))
  clear_value x2 x4 x6 x9
  exact (ite_p (fun _ => h10) (fun _ => (State.setLinkState_inv (c.mono rfl) h10)))
theorem State.ffeRound_inv (c : Clo 0x2000 P) {v0} {v1} {v2} (k0 : P v0) : P (State.ffeRound v0 v1 v2) := by
  unfold State.ffeRound
  extract_lets +onlyGivenNames -merge x1 x2
  clear_value x1 x2
  exact (ite_p (fun _ => (State.onWire_inv (c.mono rfl) (c.updLink rfl _ _ k0))) (fun _ => k0))
theorem State.adapterActive_inv (c : Clo 0x39f030440071600004808c44c041300000000021c94020101c08400000004000bffe P) {v0} {v1} {v2} (k0 : P v0) : P (State.adapterActive v0 v1 v2) := by
  unfold State.adapterActive
  extract_lets +onlyGivenNames -merge x1
  clear_value x1
  refine ite_p (fun _ => k0) (fun _ => ?_)
  extract_lets +onlyGivenNames -merge x2 x4 x6
  have h3 : P x2 := by unfold x2; exact (c.setLinkF rfl rfl k0)
  have h5 : P x4 := by unfold x4; exact (ite_p (fun _ => (c.setF rfl h3)) (fun _ => h3))
  have h7 : P x6 := by unfold x6; exact (State.setLinkState_inv (c.mono rfl) h5)
  clear_value x2 x4 x6
  refine ite_p (fun _ => (c.updLink rfl _ _ (State.linkUp_inv (c.mono rfl) (c.updLink rfl _ _ (State.dropKeys_inv (c.mono rfl) h7))))) (fun _ => ?_)
  extract_lets +onlyGivenNames -merge x8 x10 x12 x14
  have h9 : P x8 := by unfold x8; exact (c.updLink rfl _ _ h7)
  have h11 : P x10 := by unfold x10; exact (c.setLinkF rfl rfl h9)
  have h13 : P x12 := by unfold x12; exact (c.setLinkF rfl rfl h11)
  have h15 : P x14 := by unfold x14; exact (State.sendFirst_inv (c.mono rfl) h13)
  clear_value x8 x10 x12 x14
  exact (ite_p (fun _ => (State.linkUp_inv (c.mono rfl) h15)) (fun _ => h15))
theorem State.drainLimit10_inv (c : Clo 0x1e020000000000004800c40c000000000000000000000000000000000000000203a P) {v0} {v1} (k0 : P v0) : P (State.drainLimit10 v0 v1) := by
  unfold State.drainLimit10
  extract_lets +onlyGivenNames -merge x1
  clear_value x1
  exact (ite_p (fun _ => (State.goDown_inv (c.mono rfl) (State.payAck_inv (c.mono rfl) k0))) (fun _ => (ite_p (fun _ => k0) (fun _ => (ite_p (fun _ => (State.startRetrain_inv (c.mono rfl) k0)) (fun _ => k0))))))
theorem State.frameSeen_inv (c : Clo 0x1e020000000000004b00c40c0000000000000000000000000000000000000002022 P) {v0} {v1} {v2} (k0 : P v0) : P (State.frameSeen v0 v1 v2) := by
  unfold State.frameSeen
  extract_lets +onlyGivenNames -merge x1 x2 x4 x6 x9 x11 x13
  have h3 : P x2 := by unfold x2; exact (ite_p (fun _ => k0) (fun _ => (c.drawn rfl  (c.updLink rfl _ _ k0))))
  have h5 : P x4 := by unfold x4; exact (c.updLink rfl _ _ h3)
  have h7 : P x6 := by unfold x6; exact (State.each_inv (c.mono rfl) h5 (fun _ _ h8 => (c.setF rfl h8)))
  have h10 : P x9 := by unfold x9; exact (c.inc rfl h7)
  have h12 : P x11 := by unfold x11; exact (ite_p (fun _ => (c.inc rfl h10)) (fun _ => h10))
  have h14 : P x13 := by
    unfold x13
    refine State.each_inv (c.mono rfl) h12 ?_
    intro a19 a20 h18
    extract_lets +onlyGivenNames -merge x21 x22
    have h23 : P x22 := by unfold x22; exact (c.updLink rfl _ _ h18)
    clear_value x21 x22
    exact (c.setF rfl h23)
  clear_value x1 x2 x4 x6 x9 x11 x13
  exact (ite_p (fun _ => (State.startRetrain_inv (c.mono rfl) h14)) (fun _ => h14))
theorem State.forceTxs_inv (c : Clo 0x40000000000000000000000000000000000000000002018 P) {v0} {v1} (k0 : P v0) : P (State.forceTxs v0 v1) := by
  unfold State.forceTxs
  extract_lets +onlyGivenNames -merge x1
  clear_value x1
  refine ite_p (fun _ => k0) (fun _ => ?_)
  extract_lets +onlyGivenNames -merge x2
  exact (c.updLink rfl _ _ (ite_p (fun _ => k0) (fun _ => (State.enterTx_inv (c.mono rfl) k0))))
theorem State.unforceTxs_inv (c : Clo 0x1e020000000600004800c40c000000000000000000000000000000000000000203a P) {v0} {v1} (k0 : P v0) : P (State.unforceTxs v0 v1) := by
  unfold State.unforceTxs
  extract_lets +onlyGivenNames -merge x1
  clear_value x1
  refine ite_p (fun _ => ?_) (fun _ => k0)
  extract_lets +onlyGivenNames -merge x2 x3
  have h4 : P x3 := by unfold x3; exact (c.updLink rfl _ _ k0)
  clear_value x2 x3
  exact (ite_p (fun _ => (ite_p (fun _ => (State.enterTx_inv (c.mono rfl) h4)) (fun _ => (State.startRetrain_inv (c.mono rfl) h4)))) (fun _ => (State.exitTx_inv (c.mono rfl) h4)))
theorem State.shedPort_inv (c : Clo 0x1e020000000000004800c40c000000000000000000000000000000000000000203a P) {v0} {v1} (k0 : P v0) : P (State.shedPort v0 v1) := by
  unfold State.shedPort
  exact (State.linkDrained_inv (c.mono rfl) (c.updLink rfl _ _ k0))
theorem State.leaveL1_inv (c : Clo 0x1e0200000000000000004004000000000000000000000000000000000000000203a P) {v0} {v1} (k0 : P v0) : P (State.leaveL1 v0 v1) := by
  unfold State.leaveL1
  refine ite_p (fun _ => ?_) (fun _ => k0)
  extract_lets +onlyGivenNames -merge x1
  have h2 : P x1 := by unfold x1; exact (State.setLinkState_inv (c.mono rfl) k0)
  clear_value x1
  exact (ite_p (fun _ => (State.endLinkCmds_inv (c.mono rfl) h2)) (fun _ => h2))
theorem State.l1Wake_inv (c : Clo 0x1e0200000000000000004004000000000000000000000000000000000000000203a P) {v0} {v1} (k0 : P v0) : P (State.l1Wake v0 v1) := by
  unfold State.l1Wake
  exact (ite_p (fun _ => (State.leaveL1_inv (c.mono rfl) k0)) (fun _ => k0))
theorem State.unlessResuming_inv (c : Clo 0x0 P) {v0} {v1 : Sys2Proof.Machine.State → Sys2Proof.Machine.State} (k0 : P v0) (k1 : ∀ a0, P a0 → P (v1 a0)) : P (State.unlessResuming v0 v1) := by
  unfold State.unlessResuming
  exact (ite_p (fun _ => k0) (fun _ => (k1 _ k0)))
theorem execDataFlit_inv (c : Clo 0x1f88039f030440071800104c00cc0c041300000000021c94020101c08400000004000bffe P) {v0} {v1} {v2} (k2 : P v2) : (OutP P) (execDataFlit v0 v1 v2) := by
  unfold execDataFlit
  exact (mk_next (State.unlessResuming_inv (c.mono rfl) k2 (fun _ h1 => (State.dataRecv_inv (c.mono rfl) h1))))
theorem execNullFlit_inv (c : Clo 0x39f030440071600004800c40c041300000000021c94020101c08400000004000bffe P) {v0} {v1} {v2} (k2 : P v2) : (OutP P) (execNullFlit v0 v1 v2) := by
  unfold execNullFlit
  exact (mk_next (State.unlessResuming_inv (c.mono rfl) k2 (fun _ h1 => (State.nullRecv_inv (c.mono rfl) h1))))
theorem execInitFlit_inv (c : Clo 0x39f030440071600004838c5cc041300000000021c94020101c08400000004000bffe P) {v0} {v1} {v2} (k2 : P v2) : (OutP P) (execInitFlit v0 v1 v2) := by
  unfold execInitFlit
  exact (mk_next (State.unlessResuming_inv (c.mono rfl) k2 (fun _ h1 => (State.initRecv_inv (c.mono rfl) h1))))
theorem execResyncFlit_inv (c : Clo 0x39f030440071600004800c40c041300000000021c94020101c08400000004000bffe P) {v0} {v1} {v2} (k2 : P v2) : (OutP P) (execResyncFlit v0 v1 v2) := by
  unfold execResyncFlit
  exact (mk_next (State.unlessResuming_inv (c.mono rfl) k2 (fun _ h1 => (State.resyncRecv_inv (c.mono rfl) h1))))
theorem execNak_inv (c : Clo 0x39f030440071000004c00c40c041300000000021c94020101c08400000004000bffe P) {v0} {v1} {v2} (k2 : P v2) : (OutP P) (execNak v0 v1 v2) := by
  unfold execNak
  exact (mk_next (State.unlessResuming_inv (c.mono rfl) k2 (fun _ h1 => (State.nakRecv_inv (c.mono rfl) h1))))
theorem execPm_inv (c : Clo 0x39f030440071600004800c40c041300000000021c94020101c08400000004000bffe P) {v0} {v1} {v2} (k2 : P v2) : (OutP P) (execPm v0 v1 v2) := by
  unfold execPm
  exact (mk_next (State.unlessResuming_inv (c.mono rfl) k2 (fun _ h1 => (State.pmRecv_inv (c.mono rfl) h1))))
theorem execTeq_inv (c : Clo 0x2000 P) {v0} {v1} {v2} (k2 : P v2) : (OutP P) (execTeq v0 v1 v2) := by
  unfold execTeq
  exact (mk_next (State.unlessResuming_inv (c.mono rfl) k2 (fun _ h1 => (State.teqRecv_inv (c.mono rfl) h1))))
theorem execFlitSend_inv (c : Clo 0x788000000000000060000000000000000000000000000000000000000000000000002038 P) {v0} {v1} {v2} (k2 : P v2) : (OutP P) (execFlitSend v0 v1 v2) := by
  unfold execFlitSend
  exact (mk_next (State.flitSend_inv (c.mono rfl) k2))
theorem execAckTimer_inv (c : Clo 0x1e020000000600004800c40c000000000000000000000000000000000000000203a P) {v0} {v1} (k1 : P v1) : (OutP P) (execAckTimer v0 v1) := by
  unfold execAckTimer
  extract_lets +onlyGivenNames -merge x1
  have h2 : P x1 := by unfold x1; exact (ite_p (fun _ => (State.leaveL1_inv (c.mono rfl) k1)) (fun _ => k1))
  clear_value x1
  exact (mk_next (ite_p (fun _ => (State.txPower_inv (c.mono rfl) (State.sendNull_inv (c.mono rfl) (ite_p (fun _ => h2) (fun _ => (State.exitTx_inv (c.mono rfl) h2)))))) (fun _ => h2)))
theorem execReplayTimer_inv (c : Clo 0x1e020000000000004c00c40c0000000000000000000000000000000000000002022 P) {v0} {v1} (k1 : P v1) : (OutP P) (execReplayTimer v0 v1) := by
  unfold execReplayTimer
  exact (mk_next (ite_p (fun _ => (State.replayAll_inv (c.mono rfl) k1)) (fun _ => k1)))
theorem execDpCtrlRetrain_inv (c : Clo 0x1e020000000000004800c40c0000000000000000000000000000000000000002022 P) {v0} {v1} (k1 : P v1) : (OutP P) (execDpCtrlRetrain v0 v1) := by
  unfold execDpCtrlRetrain
  exact (mk_next (State.when_inv (c.mono rfl) (c.setF rfl k1) (fun _ h1 => (State.startRetrain_inv (c.mono rfl) h1))))
theorem execDpCtrlHoldDown_inv (c : Clo 0x1e020000000000004000c00c000000000000000000000000000000000000000203a P) {v0} {v1} {v2} (k2 : P v2) : (OutP P) (execDpCtrlHoldDown v0 v1 v2) := by
  unfold execDpCtrlHoldDown
  exact (mk_next (ite_p (fun _ => (State.holdDown_inv (c.mono rfl) k2)) (fun _ => (State.releaseHold_inv (c.mono rfl) k2))))
theorem execSlCtrlRetrain_inv (c : Clo 0x1e020000000000004800c40c0000000000000000000000000000000000000002022 P) {v0} {v1} (k1 : P v1) : (OutP P) (execSlCtrlRetrain v0 v1) := by
  unfold execSlCtrlRetrain
  exact (mk_next (State.when_inv (c.mono rfl) (c.setF rfl k1) (fun _ h1 => (State.startRetrain_inv (c.mono rfl) h1))))
theorem execSlCtrlHoldDown_inv (c : Clo 0x1e020000000000004000c00c000000000000000000000000000000000000000203a P) {v0} {v1} {v2} (k2 : P v2) : (OutP P) (execSlCtrlHoldDown v0 v1 v2) := by
  unfold execSlCtrlHoldDown
  exact (mk_next (ite_p (fun _ => (State.holdDown_inv (c.mono rfl) k2)) (fun _ => (State.releaseHold_inv (c.mono rfl) k2))))
theorem execSlCtrlSlip_inv (c : Clo 0x400080000000000000000000000000000000000000000000000 P) {v0} {v1} {v2} (k2 : P v2) : (OutP P) (execSlCtrlSlip v0 v1 v2) := by
  unfold execSlCtrlSlip
  exact (mk_next (State.slipLane_inv (c.mono rfl) (c.setF rfl k2)))
theorem State.writeTxHold_inv (c : Clo 0x1e020000000600004804c40c000000000000000000000000000000000000000203a P) {v0} {v1} {v2} (k0 : P v0) : P (State.writeTxHold v0 v1 v2) := by
  unfold State.writeTxHold
  extract_lets +onlyGivenNames -merge x1 x2 x3
  have h4 : P x3 := by unfold x3; exact (c.setF rfl k0)
  clear_value x1 x2 x3
  exact (ite_p (fun _ => (State.exitTx_inv (c.mono rfl) h4)) (fun _ => (State.txPower_inv (c.mono rfl) h4)))
theorem execTxHold_inv (c : Clo 0x1e020000000600004804c40c000000000000000000000000000000000000000203a P) {v0} {v1} {v2} (k2 : P v2) : (OutP P) (execTxHold v0 v1 v2) := by
  unfold execTxHold
  exact (mk_next (State.writeTxHold_inv (c.mono rfl) k2))
theorem execRxHold_inv (c : Clo 0x400000000000000000000000000000000000000000000000 P) {v0} {v1} {v2} (k2 : P v2) : (OutP P) (execRxHold v0 v1 v2) := by
  unfold execRxHold
  exact (mk_next (c.setF rfl k2))
theorem execReplayBufferDrainLimit_inv (c : Clo 0x1e020000000000004800c40c000000000000000000000000000000000000000203a P) {v0} {v1} (k1 : P v1) : (OutP P) (execReplayBufferDrainLimit v0 v1) := by
  unfold execReplayBufferDrainLimit
  exact (mk_next (State.drainLimit10_inv (c.mono rfl) k1))
theorem execTrainingAttempt_inv (c : Clo 0x400040000000000000000000000000000000000000000002000 P) {v0} {v1} (k1 : P v1) : (OutP P) (execTrainingAttempt v0 v1) := by
  unfold execTrainingAttempt
  exact (mk_next (State.trainingAttempt_inv (c.mono rfl) k1))
theorem execAlignmentCheck_inv (c : Clo 0x1e020000000000004800c40c000000000000000000000000000400000000000203a P) {v0} {v1} {v2} (k2 : P v2) : (OutP P) (execAlignmentCheck v0 v1 v2) := by
  unfold execAlignmentCheck
  exact (mk_next (State.alignmentCheck_inv (c.mono rfl) k2))
theorem execFfeTuningRound_inv (c : Clo 0x2000 P) {v0} {v1} {v2} (k2 : P v2) : (OutP P) (execFfeTuningRound v0 v1 v2) := by
  unfold execFfeTuningRound
  exact (mk_next (State.ffeRound_inv (c.mono rfl) k2))
theorem execFrameLock_inv (c : Clo 0x1e02000000000000408040040000000000000000000000000000000000000002022 P) {v0} {v1} (k1 : P v1) : (OutP P) (execFrameLock v0 v1) := by
  unfold execFrameLock
  exact (mk_next (State.frameLock_inv (c.mono rfl) k1))
theorem execAdapterActive_inv (c : Clo 0x39f030440071600004808c44c041300000000021c94020101c08400000004000bffe P) {v0} {v1} {v2} (k2 : P v2) : (OutP P) (execAdapterActive v0 v1 v2) := by
  unfold execAdapterActive
  exact (mk_next (State.adapterActive_inv (c.mono rfl) k2))
theorem execTrainingFailure_inv (c : Clo 0x1e020000000000004800c40c000000000000000000000000000400000000000203a P) {v0} {v1} (k1 : P v1) : (OutP P) (execTrainingFailure v0 v1) := by
  unfold execTrainingFailure
  exact (mk_next (ite_p (fun _ => k1) (fun _ => (State.attemptFails_inv (c.mono rfl) k1))))
theorem execFailedRetry_inv (c : Clo 0x400040000000000000000000000000000000000000000002000 P) {v0} {v1} (k1 : P v1) : (OutP P) (execFailedRetry v0 v1) := by
  unfold execFailedRetry
  exact (mk_next (State.failedRetry_inv (c.mono rfl) k1))
theorem execL1Entry_inv (c : Clo 0x1e02000000000000000040040000000000000000000000000000000000000000032 P) {v0} {v1} (k1 : P v1) : (OutP P) (execL1Entry v0 v1) := by
  unfold execL1Entry
  exact (mk_next (ite_p (fun _ => (State.setLinkState_inv (c.mono rfl) k1)) (fun _ => k1)))
theorem execL1Exit_inv (c : Clo 0x1e0200000000000000004004000000000000000000000000000000000000000203a P) {v0} {v1} (k1 : P v1) : (OutP P) (execL1Exit v0 v1) := by
  unfold execL1Exit
  exact (mk_next (State.leaveL1_inv (c.mono rfl) k1))
theorem execTxiEntry_inv (c : Clo 0x40000000000000000000000000000000000000000002018 P) {v0} {v1} (k1 : P v1) : (OutP P) (execTxiEntry v0 v1) := by
  unfold execTxiEntry
  exact (mk_next (ite_p (fun _ => (State.enterTx_inv (c.mono rfl) k1)) (fun _ => (State.txPower_inv (c.mono rfl) k1))))
theorem execTxsEntry_inv (c : Clo 0x40000000000000000000000000000000000000000002018 P) {v0} {v1} (k1 : P v1) : (OutP P) (execTxsEntry v0 v1) := by
  unfold execTxsEntry
  exact (mk_next (ite_p (fun _ => (State.enterTx_inv (c.mono rfl) k1)) (fun _ => (State.txPower_inv (c.mono rfl) k1))))
theorem execTxExit_inv (c : Clo 0x1e020000000600004800c40c000000000000000000000000000000000000000203a P) {v0} {v1} (k1 : P v1) : (OutP P) (execTxExit v0 v1) := by
  unfold execTxExit
  exact (mk_next (ite_p (fun _ => (State.exitTx_inv (c.mono rfl) k1)) (fun _ => k1)))
theorem execPortMainbandStop_inv (c : Clo 0x1e020000000000004800c40c0000000000000000000000000000000000000002022 P) {v0} {v1} (k1 : P v1) : (OutP P) (execPortMainbandStop v0 v1) := by
  unfold execPortMainbandStop
  exact (mk_next (ite_p (fun _ => (c.updLink rfl _ _ (State.startRetrain_inv (c.mono rfl) k1))) (fun _ => k1)))
theorem execForwardedClockStop_inv (c : Clo 0x1e020000000000004800c40c0000000000000000000000000000000000000002022 P) {v0} {v1} (k1 : P v1) : (OutP P) (execForwardedClockStop v0 v1) := by
  unfold execForwardedClockStop
  extract_lets +onlyGivenNames -merge x1
  clear_value x1
  refine mk_next ?_
  refine ite_p (fun _ => k1) (fun _ => ?_)
  split
  ·
    rename_i y2 y3 y4
    exact (ite_p (fun _ => (State.enterRx_inv (c.mono rfl) k1)) (fun _ => (State.startRetrain_inv (c.mono rfl) k1)))
  ·
    rename_i y5 y6
    exact (State.startRetrain_inv (c.mono rfl) k1)
theorem execAdapterRetryFailure_inv (c : Clo 0x1e020000000000004800cc0c0000000000000000000000000000000000000002022 P) {v0} {v1} {v2} (k2 : P v2) : (OutP P) (execAdapterRetryFailure v0 v1 v2) := by
  unfold execAdapterRetryFailure
  exact (mk_next (State.startRetrain_inv (c.mono rfl) (c.inc rfl k2)))
theorem execLaneFault_inv (c : Clo 0x1e020000000000004800c60c0000000000000000000000000000000000000002022 P) {v0} {v1} {v2} {v3} (k3 : P v3) : (OutP P) (execLaneFault v0 v1 v2 v3) := by
  unfold execLaneFault
  exact (mk_next (State.startRetrain_inv (c.mono rfl) (c.inc (by repeat' (first | rfl | split | unfold gateReqFld | unfold gateStatFld | unfold planeFld)) k3)))
theorem execDpStatus_inv (c : Clo 0x1e0200000000000000000000000000000000000000000000000820000000000203a P) {v0} {v1} {v2} (k2 : P v2) : (OutP P) (execDpStatus v0 v1 v2) := by
  unfold execDpStatus
  exact (mk_next (State.submit_inv (c.mono rfl) k2 (fun _ h1 => (State.checks_inv (c.mono rfl) h1 (fun _ h2 => (State.replyData_inv (c.mono rfl) h2))))))
theorem execSlStatus_inv (c : Clo 0x1e0200000000000000000000000000000000000000000000000820000000000203a P) {v0} {v1} {v2} (k2 : P v2) : (OutP P) (execSlStatus v0 v1 v2) := by
  unfold execSlStatus
  exact (mk_next (State.submit_inv (c.mono rfl) k2 (fun _ h1 => (State.checks_inv (c.mono rfl) h1 (fun _ h2 => (State.replyData_inv (c.mono rfl) h2))))))
theorem State.awaitLink_inv (c : Clo 0x2000 P) {v0} {v1} {v2} {v3} (k0 : P v0) : P (State.awaitLink v0 v1 v2 v3) := by
  unfold State.awaitLink
  exact (c.updLink rfl _ _ k0)
theorem execDpRetrain_inv (c : Clo 0x1e020000000000004800c40c000000000000000000000000000820000000000203a P) {v0} {v1} {v2} {v3} (k3 : P v3) : (OutP P) (execDpRetrain v0 v1 v2 v3) := by
  unfold execDpRetrain
  exact (mk_next (State.submit_inv (c.mono rfl) k3 (fun _ h1 => (State.checks_inv (c.mono rfl) h1 (fun _ h2 => (State.startRetrain_inv (c.mono rfl) (State.awaitLink_inv (c.mono rfl) h2)))))))
theorem execDpDown_inv (c : Clo 0x1e020000000000004000c00c000000000000000000000000000820000000000203a P) {v0} {v1} {v2} (k2 : P v2) : (OutP P) (execDpDown v0 v1 v2) := by
  unfold execDpDown
  exact (mk_next (State.submit_inv (c.mono rfl) k2 (fun _ h1 => (State.checks_inv (c.mono rfl) h1 (fun _ h2 => (State.holdDown_inv (c.mono rfl) (State.awaitLink_inv (c.mono rfl) h2)))))))
theorem State.upLink_inv (c : Clo 0x1e020000000000004000c00c000000000000000000000000000000000000000203a P) {v0} {v1} {v2} (k0 : P v0) : P (State.upLink v0 v1 v2) := by
  unfold State.upLink
  extract_lets +onlyGivenNames -merge x1
  have h2 : P x1 := by unfold x1; exact (State.releaseHold_inv (c.mono rfl) (State.awaitLink_inv (c.mono rfl) k0))
  clear_value x1
  exact (ite_p (fun _ => (State.endLinkCmds_inv (c.mono rfl) h2)) (fun _ => h2))
theorem execDpUp_inv (c : Clo 0x1e020000000000004000c00c000000000000000000000000000820000000000203a P) {v0} {v1} {v2} {v3} (k3 : P v3) : (OutP P) (execDpUp v0 v1 v2 v3) := by
  unfold execDpUp
  exact (mk_next (State.submit_inv (c.mono rfl) k3 (fun _ h1 => (State.checks_inv (c.mono rfl) h1 (fun _ h2 => (State.upLink_inv (c.mono rfl) h2))))))
theorem execSlRetrain_inv (c : Clo 0x1e020000000000004800c40c000000000000000000000000000820000000000203a P) {v0} {v1} {v2} {v3} (k3 : P v3) : (OutP P) (execSlRetrain v0 v1 v2 v3) := by
  unfold execSlRetrain
  exact (mk_next (State.submit_inv (c.mono rfl) k3 (fun _ h1 => (State.checks_inv (c.mono rfl) h1 (fun _ h2 => (State.startRetrain_inv (c.mono rfl) (State.awaitLink_inv (c.mono rfl) h2)))))))
theorem execSlDown_inv (c : Clo 0x1e020000000000004000c00c000000000000000000000000000820000000000203a P) {v0} {v1} {v2} (k2 : P v2) : (OutP P) (execSlDown v0 v1 v2) := by
  unfold execSlDown
  exact (mk_next (State.submit_inv (c.mono rfl) k2 (fun _ h1 => (State.checks_inv (c.mono rfl) h1 (fun _ h2 => (State.holdDown_inv (c.mono rfl) (State.awaitLink_inv (c.mono rfl) h2)))))))
theorem execSlUp_inv (c : Clo 0x1e020000000000004000c00c000000000000000000000000000820000000000203a P) {v0} {v1} {v2} {v3} (k3 : P v3) : (OutP P) (execSlUp v0 v1 v2 v3) := by
  unfold execSlUp
  exact (mk_next (State.submit_inv (c.mono rfl) k3 (fun _ h1 => (State.checks_inv (c.mono rfl) h1 (fun _ h2 => (State.upLink_inv (c.mono rfl) h2))))))
theorem execSlSlip_inv (c : Clo 0x1e0200000000000040000000000000000000000000000000000820000000000203a P) {v0} {v1} {v2} {v3} (k3 : P v3) : (OutP P) (execSlSlip v0 v1 v2 v3) := by
  unfold execSlSlip
  exact (mk_next (State.submit_inv (c.mono rfl) k3 (fun _ h1 => (State.checks_inv (c.mono rfl) h1 (fun _ h2 => (State.reply_inv (c.mono rfl) (State.slipLane_inv (c.mono rfl) h2)))))))
theorem execSlPower_inv (c : Clo 0x1e020000000600004804c40c000000000000000000000000000820000000000203a P) {v0} {v1} {v2} {v3} {v4} {v5} (k5 : P v5) : (OutP P) (execSlPower v0 v1 v2 v3 v4 v5) := by
  unfold execSlPower
  refine mk_next ?_
  refine State.submit_inv (c.mono rfl) k5 ?_
  intro a10 h9
  refine State.checks_inv (c.mono rfl) h9 ?_
  intro a14 h13
  extract_lets +onlyGivenNames -merge x15 x17
  have h16 : P x15 := by unfold x15; exact (c.setF rfl (State.awaitLink_inv (c.mono rfl) h13))
  have h18 : P x17 := by unfold x17; exact (State.writeTxHold_inv (c.mono rfl) h16)
  clear_value x15 x17
  exact (State.endLinkCmds_inv (c.mono rfl) h18)

/-! ### RawRing -/

theorem State.setRawDir_inv (c : Clo 0x2000 P) {v0} {v1} {v2} {v3} (k0 : P v0) : P (State.setRawDir v0 v1 v2 v3) := by
  unfold State.setRawDir
  exact (c.updLink rfl _ _ k0)
theorem State.rawAsk_inv (c : Clo 0x2010 P) {v0} {v1} {v2} {v3} (k0 : P v0) : P (State.rawAsk v0 v1 v2 v3) := by
  unfold State.rawAsk
  extract_lets +onlyGivenNames -merge x1
  clear_value x1
  exact (State.request_inv (c.mono rfl) (State.setRawDir_inv (c.mono rfl) k0))
theorem State.rawStart_inv (c : Clo 0x2010 P) {v0} {v1} {v2} (k0 : P v0) : P (State.rawStart v0 v1 v2) := by
  unfold State.rawStart
  exact (ite_p (fun _ => (State.rawAsk_inv (c.mono rfl) k0)) (fun _ => k0))
theorem State.rawNotify_inv (c : Clo 0x10 P) {v0} {v1} {v2} (k0 : P v0) : P (State.rawNotify v0 v1 v2) := by
  unfold State.rawNotify
  refine ite_p (fun _ => k0) (fun _ => ?_)
  extract_lets +onlyGivenNames -merge x1
  clear_value x1
  exact (State.request_inv (c.mono rfl) k0)
theorem State.rawPop_inv (c : Clo 0x2010 P) {v0} {v1} {v2} (k0 : P v0) : P (State.rawPop v0 v1 v2) := by
  unfold State.rawPop
  extract_lets +onlyGivenNames -merge x1 x2 x3 x4
  have h5 : P x4 := by unfold x4; exact (c.updLink rfl _ _ k0)
  clear_value x1 x2 x3 x4
  exact (ite_p (fun _ => (State.rawNotify_inv (c.mono rfl) h5)) (fun _ => h5))
theorem State.rawNext_inv (c : Clo 0x2000000000000000000000000000000000000000000000002010 P) {v0} {v1} {v2} {v3} (k0 : P v0) : P (State.rawNext v0 v1 v2 v3) := by
  unfold State.rawNext
  extract_lets +onlyGivenNames -merge x1 x2 x3
  clear_value x1 x2 x3
  refine ite_p (fun _ => ?_) (fun _ => ?_)
  ·
    refine ite_p (fun _ => ?_) (fun _ => (ite_p (fun _ => (State.setRawDir_inv (c.mono rfl) k0)) (fun _ => (State.rawAsk_inv (c.mono rfl) k0))))
    refine ite_p (fun _ => (State.setRawDir_inv (c.mono rfl) k0)) (fun _ => ?_)
    refine ite_p (fun _ => ?_) (fun _ => (State.rawAsk_inv (c.mono rfl) k0))
    extract_lets +onlyGivenNames -merge x4
    have h5 : P x4 := by unfold x4; exact (State.rawPop_inv (c.mono rfl) (State.setRawDir_inv (c.mono rfl) (c.inc rfl k0)))
    clear_value x4
    exact (ite_p (fun _ => h5) (fun _ => (State.rawStart_inv (c.mono rfl) h5)))
  ·
    refine ite_p (fun _ => ?_) (fun _ => ?_)
    ·
      refine ite_p (fun _ => (State.rawAsk_inv (c.mono rfl) k0)) (fun _ => ?_)
      refine ite_p (fun _ => (State.setRawDir_inv (c.mono rfl) k0)) (fun _ => ?_)
      extract_lets +onlyGivenNames -merge x6
      have h7 : P x6 := by unfold x6; exact (ite_p (fun _ => (c.inc rfl k0)) (fun _ => (c.updLink rfl _ _ k0)))
      clear_value x6
      exact (State.rawAsk_inv (c.mono rfl) h7)
    ·
      extract_lets +onlyGivenNames -merge x8
      have h9 : P x8 := by unfold x8; exact (ite_p (fun _ => (State.rawPop_inv (c.mono rfl) (c.updLink rfl _ _ k0))) (fun _ => k0))
      clear_value x8
      exact (State.rawAsk_inv (c.mono rfl) h9)
theorem State.rawResponse_inv (c : Clo 0x2000000000000000000000000000000000000000000000002010 P) {v0} {v1} {v2} (k0 : P v0) : P (State.rawResponse v0 v1 v2) := by
  unfold State.rawResponse
  split
  ·
    rename_i y1 y2
    exact k0
  ·
    rename_i y3 y4 y5
    extract_lets +onlyGivenNames -merge x6
    clear_value x6
    exact (ite_p (fun _ => (State.rawNext_inv (c.mono rfl) k0)) (fun _ => (ite_p (fun _ => (State.rawAsk_inv (c.mono rfl) k0)) (fun _ => (State.setRawDir_inv (c.mono rfl) (ite_p (fun _ => (c.inc rfl k0)) (fun _ => k0)))))))
theorem State.rawLost_inv (c : Clo 0x2000 P) {v0} {v1} {v2} (k0 : P v0) : P (State.rawLost v0 v1 v2) := by
  unfold State.rawLost
  split
  ·
    rename_i y1 y2
    exact k0
  ·
    rename_i y3 y4 y5
    exact (State.setRawDir_inv (c.mono rfl) k0)
theorem State.rawTake_inv (c : Clo 0x2010 P) {v0} {v1} {v2} {v3} (k0 : P v0) : P (State.rawTake v0 v1 v2 v3) := by
  unfold State.rawTake
  refine ite_p (fun _ => k0) (fun _ => ?_)
  extract_lets +onlyGivenNames -merge x1
  clear_value x1
  exact (State.rawStart_inv (c.mono rfl) (c.updLink rfl _ _ k0))
theorem execRawTransmit_inv (c : Clo 0x2010 P) {v0} {v1} (k1 : P v1) : (OutP P) (execRawTransmit v0 v1) := by
  unfold execRawTransmit
  exact (mk_next (ite_p (fun _ => (State.rawStart_inv (c.mono rfl) k1)) (fun _ => k1)))
theorem execRawReceive_inv (c : Clo 0x2010 P) {v0} {v1} {v2} {v3} (k3 : P v3) : (OutP P) (execRawReceive v0 v1 v2 v3) := by
  unfold execRawReceive
  exact (mk_next (State.unlessResuming_inv (c.mono rfl) k3 (fun _ h1 => (ite_p (fun _ => (State.rawTake_inv (c.mono rfl) h1)) (fun _ => h1)))))
theorem execRawControlPoll_inv (c : Clo 0x2010 P) {v0} {v1} (k1 : P v1) : (OutP P) (execRawControlPoll v0 v1) := by
  unfold execRawControlPoll
  exact (mk_next (ite_p (fun _ => (State.rawStart_inv (c.mono rfl) k1)) (fun _ => k1)))
theorem execRawRingRetry_inv (c : Clo 0x2010 P) {v0} {v1} (k1 : P v1) : (OutP P) (execRawRingRetry v0 v1) := by
  unfold execRawRingRetry
  refine mk_next ?_
  refine State.each_inv (c.mono rfl) k1 ?_
  intro a6 a7 h5
  extract_lets +onlyGivenNames -merge x8
  clear_value x8
  exact (ite_p (fun _ => (State.rawAsk_inv (c.mono rfl) h5)) (fun _ => h5))

end Sys2Proof.Machine
end

