-- ==== Sys2Proof/Laws/InvSystem.lean ====
section
/-!
SUPPORT. What each operation of the crypto unit, clocks, commit, power, resets and registers may change (see Laws/Closed.lean): one lemma per definition.
-/
namespace Sys2Proof.Machine
variable {P : State → Prop}

/-! ### CryptoUnit -/

theorem State.updCrr_inv (c : Clo 0x4000 P) {v0} {v1} {v2} (k0 : P v0) : P (State.updCrr v0 v1 v2) := by
  unfold State.updCrr
  exact (State.updCr_inv (c.mono rfl) k0)
theorem State.setJob_inv (c : Clo 0x4000 P) {v0} {v1} {v2} (k0 : P v0) : P (State.setJob v0 v1 v2) := by
  unfold State.setJob
  exact (State.updCr_inv (c.mono rfl) k0)
theorem State.updJob_inv (c : Clo 0x4000 P) {v0} {v1} {v2} (k0 : P v0) : P (State.updJob v0 v1 v2) := by
  unfold State.updJob
  split
  ·
    rename_i y1 y2 y3
    exact (State.setJob_inv (c.mono rfl) k0)
  ·
    rename_i y4 y5
    exact k0
theorem State.setReq_inv (c : Clo 0x4000 P) {v0} {v1} {v2} (k0 : P v0) : P (State.setReq v0 v1 v2) := by
  unfold State.setReq
  exact (State.updCr_inv (c.mono rfl) k0)
theorem State.crNext_inv (c : Clo 0x4000 P) {v0} (k0 : P v0) : (SndP P) (State.crNext v0) := by
  unfold State.crNext
  exact (mk_snd (State.updCr_inv (c.mono rfl) k0))
theorem State.cacheFront_inv (c : Clo 0x4000 P) {v0} {v1} {v2} (k0 : P v0) : P (State.cacheFront v0 v1 v2) := by
  unfold State.cacheFront
  exact (State.updCr_inv (c.mono rfl) k0)
theorem State.cacheTouch_inv (c : Clo 0x4000 P) {v0} {v1} (k0 : P v0) : P (State.cacheTouch v0 v1) := by
  unfold State.cacheTouch
  split
  ·
    rename_i y1 y2 y3
    exact (State.cacheFront_inv (c.mono rfl) k0)
  ·
    rename_i y4 y5
    exact k0
theorem State.cachePut_inv (c : Clo 0x404000 P) {v0} {v1} {v2} (k0 : P v0) : P (State.cachePut v0 v1 v2) := by
  unfold State.cachePut
  exact (c.odClear rfl _ (State.cacheFront_inv (c.mono rfl) k0))
theorem State.cacheSet_inv (c : Clo 0x404000 P) {v0} {v1} {v2} (k0 : P v0) : P (State.cacheSet v0 v1 v2) := by
  unfold State.cacheSet
  exact (c.odClear rfl _ (State.updCr_inv (c.mono rfl) k0))
theorem State.cacheDrop_inv (c : Clo 0x404000 P) {v0} {v1} (k0 : P v0) : P (State.cacheDrop v0 v1) := by
  unfold State.cacheDrop
  exact (c.odClear rfl _ (State.updCr_inv (c.mono rfl) k0))
theorem State.jobSend_inv (c : Clo 0x4010 P) {v0} {v1} {v2} {v3} (k0 : P v0) : P (State.jobSend v0 v1 v2 v3) := by
  unfold State.jobSend
  split
  ·
    rename_i y1 y2 y3
    exact (State.updJob_inv (c.mono rfl) (State.request_inv (c.mono rfl) k0))
  ·
    rename_i y4 y5
    exact (State.updJob_inv (c.mono rfl) k0)
theorem State.jobHome_inv (c : Clo 0x4010 P) {v0} {v1} {v2} {v3} {v4} {v5} {v6} {v7} (k0 : P v0) : P (State.jobHome v0 v1 v2 v3 v4 v5 v6 v7) := by
  unfold State.jobHome
  split
  ·
    rename_i y1 y2 y3
    exact (State.jobSend_inv (c.mono rfl) k0)
  ·
    rename_i y4 y5
    exact k0
theorem State.pumpJob_inv (c : Clo 0x4010 P) {v0} {v1} (k0 : P v0) : P (State.pumpJob v0 v1) := by
  unfold State.pumpJob
  split
  ·
    rename_i y1 y2 y3
    exact (State.each_inv (c.mono rfl) (State.updJob_inv (c.mono rfl) k0) (fun _ _ h4 => (State.jobSend_inv (c.mono rfl) h4)))
  ·
    rename_i y5 y6
    exact k0
theorem State.keyRoll_inv (c : Clo 0x10000000000000000000000000000000000000000000000000000 P) {v0} (k0 : P v0) : P (State.keyRoll v0) := by
  unfold State.keyRoll
  exact (c.setF rfl k0)
theorem State.setRange_inv (c : Clo 0x8010000000000000000000000000000000000000000000000004000 P) {v0} {v1} {v2} (k0 : P v0) : P (State.setRange v0 v1 v2) := by
  unfold State.setRange
  exact (ite_p (fun _ => (State.updCrr_inv (c.mono rfl) k0)) (fun _ => (State.keyRoll_inv (c.mono rfl) (c.setF rfl k0))))
theorem State.crFail_inv (c : Clo 0xc00000000000000000000000000000000000000000000000000000 P) {v0} {v1} {v2} {v3} {v4} (k0 : P v0) : P (State.crFail v0 v1 v2 v3 v4) := by
  unfold State.crFail
  extract_lets +onlyGivenNames -merge x1 x3 x5 x7
  have h2 : P x1 := by unfold x1; exact (c.setF rfl k0)
  have h4 : P x3 := by unfold x3; exact (c.setF rfl h2)
  have h6 : P x5 := by unfold x5; exact (c.setF rfl h4)
  have h8 : P x7 := by unfold x7; exact (c.setF rfl h6)
  clear_value x1 x3 x5 x7
  exact (c.setF rfl h8)
theorem State.tagFail_inv (c : Clo 0xc90000000000000000000000000000000000000000000000000000 P) {v0} {v1} {v2} {v3} (k0 : P v0) : P (State.tagFail v0 v1 v2 v3) := by
  unfold State.tagFail
  exact (State.crFail_inv (c.mono rfl) (c.setF rfl (c.inc rfl k0)))
theorem State.rangeFails_inv (c : Clo 0x8c10000000000000000000000000000000000004000000000006018 P) {v0} {v1} {v2} {v3} {v4} (k0 : P v0) : P (State.rangeFails v0 v1 v2 v3 v4) := by
  unfold State.rangeFails
  extract_lets +onlyGivenNames -merge x1 x3 x5 x6
  have h2 : P x1 := by unfold x1; exact (State.setRange_inv (c.mono rfl) (State.crFail_inv (c.mono rfl) k0))
  have h4 : P x3 := by unfold x3; exact (c.setF rfl h2)
  have h7 : P x6 := by unfold x6; exact (State.respondTo_inv (c.mono rfl) (State.updCrr_inv (c.mono rfl) h4))
  clear_value x1 x3 x5 x6
  exact (State.event_inv (c.mono rfl) h7)
theorem State.counterEnd_inv (c : Clo 0x8010000000000000000000000000000000000004000000000004008 P) {v0} {v1} {v2} (k0 : P v0) : P (State.counterEnd v0 v1 v2) := by
  unfold State.counterEnd
  exact (ite_p (fun _ => (State.event_inv (c.mono rfl) (c.setF rfl (State.setRange_inv (c.mono rfl) k0)))) (fun _ => k0))
theorem State.reqDone_inv (c : Clo 0x4010 P) {v0} {v1} {v2} (k0 : P v0) : P (State.reqDone v0 v1 v2) := by
  unfold State.reqDone
  extract_lets +onlyGivenNames -merge x1 x3
  have h2 : P x1 := by unfold x1; exact (State.setReq_inv (c.mono rfl) k0)
  clear_value x1 x3
  refine ite_p (fun _ => (State.inject_inv (c.mono rfl) h2)) (fun _ => ?_)
  refine ite_p (fun _ => ?_) (fun _ => (State.inject_inv (c.mono rfl) h2))
  extract_lets +onlyGivenNames -merge x4
  clear_value x4
  exact (State.inject_inv (c.mono rfl) h2)
theorem State.jobDone_inv (c : Clo 0x4010 P) {v0} {v1} {v2} {v3} {v4} {v5} (k0 : P v0) : P (State.jobDone v0 v1 v2 v3 v4 v5) := by
  unfold State.jobDone
  split
  ·
    exact k0
  ·
    extract_lets +onlyGivenNames -merge x6
    have h7 : P x6 := by unfold x6; exact (State.setJob_inv (c.mono rfl) k0)
    clear_value x6
    split
    ·
      exact h7
    ·
      extract_lets x13
      exact (ite_p (fun _ => (State.reqDone_inv (c.mono rfl) h7)) (fun _ => (State.setReq_inv (c.mono rfl) h7)))
theorem State.endJobs_inv (c : Clo 0x4012 P) {v0} {v1} (k0 : P v0) : P (State.endJobs v0 v1) := by
  unfold State.endJobs
  exact (State.each_inv (c.mono rfl) k0 (fun _ _ h1 => (ite_p (fun _ => (State.setJob_inv (c.mono rfl) h1)) (fun _ => (c.drawn rfl  (State.jobDone_inv (c.mono rfl) h1))))))
theorem State.cacheFails_inv (c : Clo 0x8c1000000000000000000000000000000000000400000000000601a P) {v0} {v1} {v2} (k0 : P v0) : P (State.cacheFails v0 v1 v2) := by
  unfold State.cacheFails
  exact (ite_p (fun _ => k0) (fun _ => (State.endJobs_inv (c.mono rfl) (State.rangeFails_inv (c.mono rfl) (c.setF rfl k0)))))
theorem State.cacheSound_inv (c : Clo 0x8c1000000000000000000000000000000000000400000000040601a P) {v0} {v1} {v2} (k0 : P v0) : P (State.cacheSound v0 v1 v2) := by
  unfold State.cacheSound
  refine ite_p (fun _ => (State.cacheFails_inv (c.mono rfl) k0)) (fun _ => ?_)
  refine State.each_inv (c.mono rfl) k0 ?_
  intro a6 a7 h5
  split
  ·
    rename_i y8 y9 y10
    exact (ite_p (fun _ => (State.cacheFails_inv (c.mono rfl) h5)) (fun _ => (State.cacheDrop_inv (c.mono rfl) (c.setF rfl h5))))
  ·
    rename_i y11 y12
    exact h5
theorem State.writeBackEnt_inv (c : Clo 0x8c1000000000000000000000000000000000000400000000040601a P) {v0} {v1} (k0 : P v0) : P (State.writeBackEnt v0 v1) := by
  unfold State.writeBackEnt
  split
  ·
    rename_i y1 y2
    exact k0
  ·
    rename_i y3 y4 y5
    extract_lets +onlyGivenNames -merge x6 x7 x8 x9
    clear_value x6 x7 x8 x9
    refine ite_p (fun _ => k0) (fun _ => ?_)
    extract_lets +onlyGivenNames -merge x10 x12
    have h11 : P x10 := by unfold x10; exact (State.cacheSound_inv (c.mono rfl) k0)
    clear_value x10 x12
    split
    ·
      rename_i y13 y14
      exact h11
    ·
      rename_i y15 y16 y17
      extract_lets +onlyGivenNames -merge x18 x19 x26 x27 x28 x30 x32
      have h20 : P x19 := by
        unfold x19
        refine ite_p (fun _ => (State.updCrr_inv (c.mono rfl) h11)) (fun _ => ?_)
        split
        ·
          rename_i y21 y22 y23
          exact (State.cacheSet_inv (c.mono rfl) h11)
        ·
          rename_i y24 y25
          exact h11
      have h29 : P x28 := by unfold x28; exact (State.cacheSet_inv (c.mono rfl) h20)
      have h31 : P x30 := by unfold x30; exact (State.sendPost_inv (c.mono rfl) h29)
      have h33 : P x32 := by unfold x32; exact (ite_p (fun _ => (State.sendPost_inv (c.mono rfl) h31)) (fun _ => h31))
      clear_value x18 x19 x26 x27 x28 x30 x32
      exact (State.counterEnd_inv (c.mono rfl) h33)
theorem State.evictEnt_inv (c : Clo 0x8c1000000000000000000000000000000000000400000000040601a P) {v0} {v1} {v2} (k1 : P v1) : P (State.evictEnt v0 v1 v2) := by
  induction v0 generalizing v1 k1 v2 with
  | zero =>
    rw [State.evictEnt]
    exact k1
  | succ n ih =>
    rw [State.evictEnt]
    split
    ·
      rename_i y1 y2 y3
      exact (ite_p (fun _ => (State.writeBackEnt_inv (c.mono rfl) (foldl_p (fun _ _ h4 => (by apply ih; exact h4)) k1))) (fun _ => (State.cacheDrop_inv (c.mono rfl) (State.writeBackEnt_inv (c.mono rfl) (foldl_p (fun _ _ h5 => (by apply ih; exact h5)) k1)))))
    ·
      rename_i y6 y7
      exact (State.writeBackEnt_inv (c.mono rfl) (foldl_p (fun _ _ h8 => (by apply ih; exact h8)) k1))
theorem State.evict1_inv (c : Clo 0x8c1000000000000000000000000000000000000400000000040601a P) {v0} {v1} (k0 : P v0) : P (State.evict1 v0 v1) := by
  unfold State.evict1
  exact (State.evictEnt_inv (c.mono rfl) k0)
theorem State.dropAsked_inv (c : Clo 0x4000 P) {v0} {v1} (k0 : P v0) : P (State.dropAsked v0 v1) := by
  unfold State.dropAsked
  extract_lets +onlyGivenNames -merge x1
  clear_value x1
  exact (State.each_inv (c.mono rfl) k0 (fun _ _ h2 => (ite_p (fun _ => (State.updJob_inv (c.mono rfl) h2)) (fun _ => h2))))
theorem State.cacheIn_inv (c : Clo 0x8c1000000000000000000000000000000000000400000000040601a P) {v0} {v1} {v2} {v3} (k0 : P v0) : P (State.cacheIn v0 v1 v2 v3) := by
  unfold State.cacheIn
  refine ite_p (fun _ => k0) (fun _ => ?_)
  extract_lets +onlyGivenNames -merge x1 x2 x3
  have h4 : P x3 := by
    unfold x3
    refine ite_p (fun _ => k0) (fun _ => ?_)
    split
    ·
      rename_i y5 y6 y7
      exact (State.evict1_inv (c.mono rfl) k0)
    ·
      rename_i y8 y9
      exact k0
  clear_value x1 x2 x3
  exact (ite_p (fun _ => (State.dropAsked_inv (c.mono rfl) (State.cachePut_inv (c.mono rfl) h4))) (fun _ => h4))
theorem State.writeBackAll_inv (c : Clo 0x8c1000000000000000000000000000000000000400000000040601a P) {v0} {v1} (k0 : P v0) : P (State.writeBackAll v0 v1) := by
  unfold State.writeBackAll
  exact (State.each_inv (c.mono rfl) k0 (fun _ _ h1 => (State.each_inv (c.mono rfl) h1 (fun _ _ h2 => (State.writeBackEnt_inv (c.mono rfl) h2)))))
theorem State.readPage_inv (c : Clo 0x4010 P) {v0} {v1} {v2} {v3} (k0 : P v0) : P (State.readPage v0 v1 v2 v3) := by
  unfold State.readPage
  extract_lets +onlyGivenNames -merge x1 x2
  have h3 : P x2 := by unfold x2; exact (State.each_inv (c.mono rfl) k0 (fun _ _ h4 => (State.jobHome_inv (c.mono rfl) h4)))
  clear_value x1 x2
  exact (State.each_inv (c.mono rfl) h3 (fun _ _ h5 => (State.jobHome_inv (c.mono rfl) h5)))
theorem State.startJob_inv (c : Clo 0x60000000000000000000000000000000000000000000000004010 P) {v0} {v1} {v2} (k0 : P v0) : P (State.startJob v0 v1 v2) := by
  unfold State.startJob
  extract_lets +onlyGivenNames -merge x1 x2 x3 x5 x8 x10 x12
  have h4 : P x3 := by unfold x3; exact (ite_p (fun _ => (c.inc rfl k0)) (fun _ => (c.inc rfl k0)))
  have h6 : P x5 := by unfold x5; exact (State.each_inv (c.mono rfl) h4 (fun _ _ h7 => (State.cacheTouch_inv (c.mono rfl) h7)))
  have h9 : P x8 := by unfold x8; exact (State.updJob_inv (c.mono rfl) h6)
  have h11 : P x10 := by unfold x10; exact (ite_p (fun _ => (State.jobHome_inv (c.mono rfl) (State.jobHome_inv (c.mono rfl) h9))) (fun _ => h9))
  have h13 : P x12 := by unfold x12; exact (ite_p (fun _ => (State.readPage_inv (c.mono rfl) h11)) (fun _ => h11))
  clear_value x1 x2 x3 x5 x8 x10 x12
  refine State.each_inv (c.mono rfl) h13 ?_
  intro a17 a18 h16
  extract_lets +onlyGivenNames -merge x19
  have h20 : P x19 := by unfold x19; exact (State.jobHome_inv (c.mono rfl) h16)
  clear_value x19
  exact (ite_p (fun _ => (State.jobHome_inv (c.mono rfl) h20)) (fun _ => h20))
theorem State.jobAgain_inv (c : Clo 0x4000 P) {v0} {v1} (k0 : P v0) : P (State.jobAgain v0 v1) := by
  unfold State.jobAgain
  exact (State.updJob_inv (c.mono rfl) k0)
theorem State.writeLine_inv (c : Clo 0x4010 P) {v0} {v1} {v2} {v3} {v4} {v5} (k0 : P v0) : P (State.writeLine v0 v1 v2 v3 v4 v5) := by
  unfold State.writeLine
  extract_lets +onlyGivenNames -merge x1
  clear_value x1
  exact (State.jobHome_inv (c.mono rfl) k0)
theorem State.writeTag_inv (c : Clo 0x4010 P) {v0} {v1} {v2} {v3} {v4} (k0 : P v0) : P (State.writeTag v0 v1 v2 v3 v4) := by
  unfold State.writeTag
  exact (State.jobHome_inv (c.mono rfl) k0)
theorem State.setLeaf_inv (c : Clo 0x404000 P) {v0} {v1} {v2} {v3} (k0 : P v0) : P (State.setLeaf v0 v1 v2 v3) := by
  unfold State.setLeaf
  exact (State.cachePut_inv (c.mono rfl) k0)
theorem State.encryptLine_inv (c : Clo 0x404010 P) {v0} {v1} {v2} {v3} (k0 : P v0) : P (State.encryptLine v0 v1 v2 v3) := by
  unfold State.encryptLine
  extract_lets +onlyGivenNames -merge x1 x2 x3 x4
  clear_value x1 x2 x3 x4
  refine ite_p (fun _ => (State.updJob_inv (c.mono rfl) k0)) (fun _ => ?_)
  extract_lets +onlyGivenNames -merge x5 x6 x7 x8 x10 x11
  have h9 : P x8 := by unfold x8; exact (State.setLeaf_inv (c.mono rfl) k0)
  have h12 : P x11 := by unfold x11; exact (State.updJob_inv (c.mono rfl) h9)
  clear_value x5 x6 x7 x8 x10 x11
  exact (State.writeTag_inv (c.mono rfl) (State.writeLine_inv (c.mono rfl) h12))
theorem State.finishLine_inv (c : Clo 0xc90000000000000000000000000000000000000000000000404012 P) {v0} {v1} {v2} (k0 : P v0) : P (State.finishLine v0 v1 v2) := by
  unfold State.finishLine
  extract_lets +onlyGivenNames -merge x1 x2 x3 x4 x5 x6 x7 x8 x9 x10 x11
  have h12 : ∀ a0 a1, P a0 → P (x11 a0 a1) := by
    intro a14 a15 h13
    unfold x11
    beta_reduce
    exact (State.writeLine_inv (c.mono rfl) (State.updJob_inv (c.mono rfl) h13))
  clear_value x1 x2 x3 x4 x5 x6 x7 x8 x9 x10 x11
  exact (ite_p (fun _ => (State.jobDone_inv (c.mono rfl) k0)) (fun _ => (ite_p (fun _ => (ite_p (fun _ => (c.drawn rfl  (State.jobDone_inv (c.mono rfl) (State.tagFail_inv (c.mono rfl) k0)))) (fun _ => (State.jobDone_inv (c.mono rfl) k0)))) (fun _ => (ite_p (fun _ => (ite_p (fun _ => (c.drawn rfl  (h12 _ _ k0))) (fun _ => (State.encryptLine_inv (c.mono rfl) k0)))) (fun _ => (ite_p (fun _ => (State.jobDone_inv (c.mono rfl) (State.crFail_inv (c.mono rfl) k0))) (fun _ => (ite_p (fun _ => (h12 _ _ (State.tagFail_inv (c.mono rfl) k0))) (fun _ => (ite_p (fun _ => (c.drawn rfl  (h12 _ _ k0))) (fun _ => (State.encryptLine_inv (c.mono rfl) k0)))))))))))))
theorem State.verifyNodes_inv (c : Clo 0x8c1000000000000000000000000000000000000400000000040601a P) {v0} {v1} (k0 : P v0) : (FstP (OptP P)) (State.verifyNodes v0 v1) := by
  unfold State.verifyNodes
  extract_lets +onlyGivenNames -merge x1 x2 x3 x4
  clear_value x1 x2 x3 x4
  refine foldl_p ?_ (mk_fst (mk_some k0))
  intro a8 a9 h7
  split
  ·
    rename_i y10 y11
    exact h7
  ·
    rename_i y12 y13 y14
    have q16 := congr_p (Q := (OptP P)) y14 (by
        exact (fst_p h7)
      )
    have h15 : P y13 := q16
    extract_lets +onlyGivenNames -merge x17 x18
    clear_value x17 x18
    refine ite_p (fun _ => h7) (fun _ => ?_)
    split
    ·
      rename_i y19 y20
      exact h7
    ·
      rename_i y21 y22 y23
      extract_lets +onlyGivenNames -merge x24 x25 x26
      clear_value x24 x25 x26
      exact (ite_p (fun _ => (mk_fst none_p)) (fun _ => (mk_fst (mk_some (State.cacheIn_inv (c.mono rfl) h15)))))
theorem State.rekeyBegin_inv (c : Clo 0x1e02000000008c1000000000000000000000000000000000000400000000040603a P) {v0} {v1} {v2} {v3} (k0 : P v0) : P (State.rekeyBegin v0 v1 v2 v3) := by
  unfold State.rekeyBegin
  extract_lets +onlyGivenNames -merge x1
  have h2 : P x1 := by unfold x1; exact (State.writeBackAll_inv (c.mono rfl) (State.setJob_inv (c.mono rfl) k0))
  clear_value x1
  refine ite_p (fun _ => h2) (fun _ => ?_)
  extract_lets +onlyGivenNames -merge x3
  have h4 : P x3 := by unfold x3; exact (State.updCr_inv (c.mono rfl) h2)
  clear_value x3
  split
  ·
    rename_i y5 y6 y7 y8
    have q10 := congr_p (Q := (SndP P)) y8 (by
        exact (State.trng_inv (c.mono rfl) h4)
      )
    have h9 : P y7 := q10
    split
    ·
      rename_i y11 y12 y13 y14
      have q16 := congr_p (Q := (SndP P)) y14 (by
          exact (State.trng_inv (c.mono rfl) h9)
        )
      have h15 : P y13 := q16
      extract_lets +onlyGivenNames -merge x17
      have h18 : P x17 := by unfold x17; exact (State.updCrr_inv (c.mono rfl) h15)
      clear_value x17
      split
      ·
        rename_i y19 y20 y21 y22
        have q24 := congr_p (Q := (SndP P)) y22 (by
            exact (State.crNext_inv (c.mono rfl) h18)
          )
        have h23 : P y21 := q24
        exact (State.setJob_inv (c.mono rfl) h23)
theorem State.initPart_inv (c : Clo 0x4010 P) {v0} {v1} {v2} {v3} (k0 : P v0) : P (State.initPart v0 v1 v2 v3) := by
  unfold State.initPart
  extract_lets +onlyGivenNames -merge x1 x2
  clear_value x1 x2
  refine ite_p (fun _ => ?_) (fun _ => ?_)
  ·
    extract_lets +onlyGivenNames -merge x5 x6 x9 x12
    have h7 : P x6 := by unfold x6; exact (State.each_inv (c.mono rfl) k0 (fun _ _ h8 => (State.jobHome_inv (c.mono rfl) h8)))
    have h10 : P x9 := by unfold x9; exact (State.each_inv (c.mono rfl) h7 (fun _ _ h11 => (State.jobHome_inv (c.mono rfl) h11)))
    have h13 : P x12 := by unfold x12; exact (State.jobHome_inv (c.mono rfl) h10)
    clear_value x5 x6 x9 x12
    exact (State.jobHome_inv (c.mono rfl) h13)
  ·
    refine State.each_inv (c.mono rfl) k0 ?_
    intro a17 a18 h16
    extract_lets +onlyGivenNames -merge x19
    clear_value x19
    refine ite_p (fun _ => h16) (fun _ => ?_)
    split
    ·
      rename_i y20 y21 y22 y23
      exact (State.jobHome_inv (c.mono rfl) h16)
theorem State.initNext_inv (c : Clo 0x8000000000000000000000000000000000000000000000000004010 P) {v0} {v1} {v2} (k0 : P v0) : P (State.initNext v0 v1 v2) := by
  unfold State.initNext
  extract_lets +onlyGivenNames -merge x1 x2 x3
  have h4 : P x3 := by unfold x3; exact (c.setF rfl k0)
  clear_value x1 x2 x3
  exact (ite_p (fun _ => (State.initPart_inv (c.mono rfl) (State.updJob_inv (c.mono rfl) h4))) (fun _ => (State.updJob_inv (c.mono rfl) h4)))
theorem State.rekeyNext_inv (c : Clo 0x8010000000000000000000000000000000000000000000000006018 P) {v0} {v1} {v2} (k0 : P v0) : P (State.rekeyNext v0 v1 v2) := by
  unfold State.rekeyNext
  extract_lets +onlyGivenNames -merge x1 x2 x3 x4
  have h5 : P x4 := by unfold x4; exact (c.setF rfl (State.setJob_inv (c.mono rfl) k0))
  clear_value x1 x2 x3 x4
  refine ite_p (fun _ => ?_) (fun _ => ?_)
  ·
    split
    ·
      rename_i y6 y7 y8 y9
      have q11 := congr_p (Q := (SndP P)) y9 (by
          exact (State.crNext_inv (c.mono rfl) h5)
        )
      have h10 : P y8 := q11
      exact (State.setJob_inv (c.mono rfl) h10)
  ·
    extract_lets +onlyGivenNames -merge x12 x14 x16
    have h13 : P x12 := by unfold x12; exact (State.updCr_inv (c.mono rfl) h5)
    have h15 : P x14 := by unfold x14; exact (State.updCrr_inv (c.mono rfl) h13)
    have h17 : P x16 := by unfold x16; exact (State.setRange_inv (c.mono rfl) (c.setF rfl h15))
    clear_value x12 x14 x16
    exact (State.respondTo_inv (c.mono rfl) h17)
theorem State.finishJob_inv (c : Clo 0xc90000000000000000000000000000000000000000000000404012 P) {v0} {v1} {v2} (k0 : P v0) : P (State.finishJob v0 v1 v2) := by
  unfold State.finishJob
  exact (ite_p (fun _ => (State.finishLine_inv (c.mono rfl) k0)) (fun _ => (ite_p (fun _ => (State.updJob_inv (c.mono rfl) k0)) (fun _ => (ite_p (fun _ => (State.readPage_inv (c.mono rfl) (State.updJob_inv (c.mono rfl) k0))) (fun _ => (State.encryptLine_inv (c.mono rfl) k0)))))))
theorem State.jobGo_inv (c : Clo 0x8c9000000000000000000000000000000000000000000000040601a P) {v0} {v1} (k0 : P v0) : P (State.jobGo v0 v1) := by
  unfold State.jobGo
  split
  ·
    rename_i y1 y2
    exact k0
  ·
    rename_i y3 y4 y5
    exact (ite_p (fun _ => k0) (fun _ => (ite_p (fun _ => (ite_p (fun _ => (State.rekeyNext_inv (c.mono rfl) k0)) (fun _ => (ite_p (fun _ => (State.initNext_inv (c.mono rfl) k0)) (fun _ => (State.jobDone_inv (c.mono rfl) k0)))))) (fun _ => (ite_p (fun _ => k0) (fun _ => (ite_p (fun _ => (ite_p (fun _ => (State.jobAgain_inv (c.mono rfl) k0)) (fun _ => (State.jobDone_inv (c.mono rfl) k0)))) (fun _ => (ite_p (fun _ => (State.finishJob_inv (c.mono rfl) k0)) (fun _ => (ite_p (fun _ => (State.updJob_inv (c.mono rfl) k0)) (fun _ => (State.jobAgain_inv (c.mono rfl) k0)))))))))))))
theorem State.crWake_inv (c : Clo 0x1e02000000008cf000000000000000000000000000000000000400000000040603a P) {v0} (k0 : P v0) : P (State.crWake v0) := by
  unfold State.crWake
  refine ite_p (fun _ => k0) (fun _ => ?_)
  extract_lets +onlyGivenNames -merge x1 x3
  have h2 : P x1 := by unfold x1; exact (State.pumpPosts_inv (c.mono rfl) k0)
  clear_value x1 x3
  refine State.each_inv (c.mono rfl) h2 ?_
  intro a7 a8 h6
  split
  ·
    rename_i y9 y10
    exact h6
  ·
    rename_i y11 y12 y13
    refine ite_p (fun _ => (State.jobGo_inv (c.mono rfl) (State.pumpJob_inv (c.mono rfl) h6))) (fun _ => ?_)
    extract_lets +onlyGivenNames -merge x14
    have h15 : P x14 := by unfold x14; exact (State.cacheSound_inv (c.mono rfl) h6)
    clear_value x14
    split
    ·
      rename_i y16 y17
      exact h15
    ·
      rename_i y18 y19 y20
      exact (ite_p (fun _ => h15) (fun _ => (ite_p (fun _ => (State.rekeyBegin_inv (c.mono rfl) h15)) (fun _ => (ite_p (fun _ => (State.initPart_inv (c.mono rfl) (State.updJob_inv (c.mono rfl) h15))) (fun _ => (State.jobGo_inv (c.mono rfl) (State.startJob_inv (c.mono rfl) h15))))))))
theorem State.crWakeAll_inv (c : Clo 0x1e02000000008cf000000000000000000000000000000000000400000000040603a P) {v0} (k0 : P v0) : P (State.crWakeAll v0) := by
  unfold State.crWakeAll
  exact (State.crWake_inv (c.mono rfl) (State.crWake_inv (c.mono rfl) k0))
theorem State.takeProt_inv (c : Clo 0x10 P) {v0} {v1} (k0 : P v0) : (OptP (SndP P)) (State.takeProt v0 v1) := by
  unfold State.takeProt
  exact (findSome_p (fun _ => (filter_p (State.takeOn_inv (c.mono rfl) k0))))
theorem State.protAccess_inv (c : Clo 0x788001e02000000008df000000000000000000000000000000000000400000000040603a P) {v0} {v1} (k0 : P v0) : P (State.protAccess v0 v1) := by
  unfold State.protAccess
  split
  ·
    rename_i y1 y2
    exact k0
  ·
    rename_i y3 y4 y5 y6 y7
    extract_lets +onlyGivenNames -merge x8 x9
    clear_value x8 x9
    refine ite_p (fun _ => (State.refuse_inv (c.mono rfl) k0)) (fun _ => ?_)
    refine ite_p (fun _ => (State.refuse_inv (c.mono rfl) (c.inc rfl k0))) (fun _ => ?_)
    extract_lets +onlyGivenNames -merge x10 x11
    clear_value x10 x11
    split
    ·
      rename_i y12 y13 y14 y15
      have q17 := congr_p (Q := (SndP P)) y15 (by
          exact (State.crNext_inv (c.mono rfl) k0)
        )
      have h16 : P y14 := q17
      extract_lets +onlyGivenNames -merge x18
      have h19 : P x18 := by unfold x18; exact (State.setReq_inv (c.mono rfl) h16)
      clear_value x18
      refine ite_p (fun _ => ?_) (fun _ => ?_)
      ·
        refine c.drawn rfl  ?_
        refine State.each_inv (c.mono rfl) h19 ?_
        intro a26 a27 h25
        split
        ·
          rename_i y28 y29 y30 y31
          have q33 := congr_p (Q := (SndP P)) y31 (by
              exact (State.crNext_inv (c.mono rfl) h25)
            )
          have h32 : P y30 := q33
          extract_lets +onlyGivenNames -merge x34
          have h35 : P x34 := by unfold x34; exact (State.setJob_inv (c.mono rfl) h32)
          clear_value x34
          exact (State.jobDone_inv (c.mono rfl) h35)
      ·
        extract_lets +onlyGivenNames -merge x36
        have h37 : P x36 := by
          unfold x36
          refine State.each_inv (c.mono rfl) h19 ?_
          intro a42 a43 h41
          split
          ·
            rename_i y44 y45 y46 y47
            have q49 := congr_p (Q := (SndP P)) y47 (by
                exact (State.crNext_inv (c.mono rfl) h41)
              )
            have h48 : P y46 := q49
            extract_lets +onlyGivenNames -merge x50 x51
            clear_value x51
            exact (State.setJob_inv (c.mono rfl) h48)
        clear_value x36
        exact (State.crWakeAll_inv (c.mono rfl) h37)
theorem State.protRow_inv (c : Clo 0x788001e02000000008df000000000000000000000000000000000000400000000040603a P) {v0} {v1} (k0 : P v0) : P (State.protRow v0 v1) := by
  unfold State.protRow
  refine ite_p (fun _ => k0) (fun _ => ?_)
  split
  ·
    rename_i y1 y2 y3 y4
    have q6 := congr_p (Q := (OptP (SndP P))) y4 (by
        exact (State.takeProt_inv (c.mono rfl) k0)
      )
    have h5 : P y3 := q6
    exact (State.protAccess_inv (c.mono rfl) h5)
  ·
    rename_i y7 y8
    exact k0
theorem State.homeAnswer_inv (c : Clo 0x1e02000000008cf000000000000000000000000000000000000400000000040603a P) {v0} {v1} {v2} (k0 : P v0) : P (State.homeAnswer v0 v1 v2) := by
  unfold State.homeAnswer
  extract_lets +onlyGivenNames -merge x1 x2
  clear_value x1 x2
  split
  ·
    rename_i y3
    exact (State.crWakeAll_inv (c.mono rfl) k0)
  ·
    rename_i y4 y5 y6
    extract_lets +onlyGivenNames -merge x7
    have h8 : P x7 := by unfold x7; exact (State.updJob_inv (c.mono rfl) k0)
    clear_value x7
    refine ite_p (fun _ => (State.crWakeAll_inv (c.mono rfl) (State.each_inv (c.mono rfl) h8 (fun _ _ h10 => (State.jobSend_inv (c.mono rfl) h10))))) (fun _ => ?_)
    extract_lets +onlyGivenNames -merge x11
    have h12 : P x11 := by unfold x11; exact (State.updJob_inv (c.mono rfl) h8)
    clear_value x11
    exact (State.crWakeAll_inv (c.mono rfl) (State.jobGo_inv (c.mono rfl) h12))
theorem State.homeResponse_inv (c : Clo 0x2000001e02000000008cf000000000000000000000000000000000000400000000040603a P) {v0} (k0 : P v0) : P (State.homeResponse v0) := by
  unfold State.homeResponse
  split
  ·
    rename_i y1 y2
    exact k0
  ·
    rename_i y3 y4 y5 y6
    have q8 := congr_p (Q := (OptP (SndP P))) y6 (by
        exact (State.take_inv (c.mono rfl) k0)
      )
    have h7 : P y5 := q8
    split
    ·
      rename_i y9 y10 y11
      have q13 := congr_p (Q := (SndP P)) y11 (by
          exact (State.matchRsp_inv (c.mono rfl) h7)
        )
      have h12 : P y10 := q13
      exact h12
    ·
      rename_i y14 y15 y16 y17
      have q19 := congr_p (Q := (SndP P)) y17 (by
          exact (State.matchRsp_inv (c.mono rfl) h7)
        )
      have h18 : P y16 := q19
      exact (ite_p (fun _ => (State.crWakeAll_inv (c.mono rfl) (State.postAnswered_inv (c.mono rfl) h18))) (fun _ => (State.homeAnswer_inv (c.mono rfl) h18)))
theorem State.nodeVerification_inv (c : Clo 0x1e02000000008cf000000000000000000000000000000000000400000000040603a P) {v0} {v1} (k0 : P v0) : P (State.nodeVerification v0 v1) := by
  unfold State.nodeVerification
  split
  ·
    rename_i y1 y2
    exact k0
  ·
    rename_i y3 y4 y5
    refine ite_p (fun _ => k0) (fun _ => ?_)
    extract_lets +onlyGivenNames -merge x6
    have h7 : P x6 := by unfold x6; exact (State.cacheSound_inv (c.mono rfl) k0)
    clear_value x6
    split
    ·
      rename_i y8 y9
      exact h7
    ·
      rename_i y10 y11 y12
      split
      ·
        rename_i y13 y14 y15 y16
        exact (State.crWakeAll_inv (c.mono rfl) (State.endJobs_inv (c.mono rfl) (State.rangeFails_inv (c.mono rfl) h7)))
      ·
        rename_i y17 y18 y19 y20 y21
        have q23 := congr_p (Q := (FstP (OptP P))) y21 (by
            exact (State.verifyNodes_inv (c.mono rfl) h7)
          )
        have h22 : P y18 := q23
        refine ite_p (fun _ => ?_) (fun _ => (ite_p (fun _ => h22) (fun _ => (State.crWakeAll_inv (c.mono rfl) (State.jobAgain_inv (c.mono rfl) h22)))))
        refine State.crWakeAll_inv (c.mono rfl) ?_
        split
        ·
          rename_i y24 y25 y26
          exact (State.finishJob_inv (c.mono rfl) h22)
        ·
          rename_i y27 y28
          exact h22
theorem State.writePage_inv (c : Clo 0x4010 P) {v0} {v1} {v2} {v3} {v4} (k0 : P v0) : P (State.writePage v0 v1 v2 v3 v4) := by
  unfold State.writePage
  extract_lets +onlyGivenNames -merge x1 x2
  have h3 : P x2 := by
    unfold x2
    refine State.each_inv (c.mono rfl) k0 ?_
    intro a8 a9 h7
    extract_lets +onlyGivenNames -merge x10 x11
    clear_value x10 x11
    exact (State.jobHome_inv (c.mono rfl) h7)
  clear_value x1 x2
  exact (State.each_inv (c.mono rfl) h3 (fun _ _ h12 => (State.jobHome_inv (c.mono rfl) h12)))
theorem State.pageReEncryption_inv (c : Clo 0x1e02000000008ef000000000000000000000000000000000000400000000040603a P) {v0} {v1} (k0 : P v0) : P (State.pageReEncryption v0 v1) := by
  unfold State.pageReEncryption
  split
  ·
    rename_i y1 y2
    exact k0
  ·
    rename_i y3 y4 y5 y6
    extract_lets +onlyGivenNames -merge x7
    have h8 : P x7 := by unfold x7; exact (State.cacheSound_inv (c.mono rfl) k0)
    clear_value x7
    refine ite_p (fun _ => (State.crWakeAll_inv (c.mono rfl) h8)) (fun _ => ?_)
    refine ite_p (fun _ => (State.crWakeAll_inv (c.mono rfl) (State.jobAgain_inv (c.mono rfl) h8))) (fun _ => ?_)
    extract_lets +onlyGivenNames -merge x9 x10 x11 x12
    clear_value x9 x10 x11 x12
    split
    ·
      rename_i y13 y14 y15 y16
      extract_lets +onlyGivenNames -merge x17 x20 x22 x24
      have h18 : P x17 := by unfold x17; exact (State.each_inv (c.mono rfl) h8 (fun _ _ h19 => (State.tagFail_inv (c.mono rfl) h19)))
      have h21 : P x20 := by unfold x20; exact (State.setLeaf_inv (c.mono rfl) h18)
      have h23 : P x22 := by unfold x22; exact (c.incW rfl h21)
      have h25 : P x24 := by unfold x24; exact (State.updJob_inv (c.mono rfl) h23)
      clear_value x17 x20 x22 x24
      exact (State.counterEnd_inv (c.mono rfl) (State.writePage_inv (c.mono rfl) h25))
theorem State.zeroPath_inv (c : Clo 0x8c1000000000000000000000000000000000000400000000040601a P) {v0} {v1} {v2} (k0 : P v0) : P (State.zeroPath v0 v1 v2) := by
  unfold State.zeroPath
  extract_lets +onlyGivenNames -merge x1
  clear_value x1
  exact (State.each_inv (c.mono rfl) k0 (fun _ _ h2 => (ite_p (fun _ => (State.cacheIn_inv (c.mono rfl) h2)) (fun _ => h2))))
theorem State.rekeyPage_inv (c : Clo 0x1e02000000008cf000000000000000000000000000000000000400000000040603a P) {v0} {v1} (k0 : P v0) : P (State.rekeyPage v0 v1) := by
  unfold State.rekeyPage
  split
  ·
    rename_i y1 y2
    exact k0
  ·
    rename_i y3 y4 y5 y6
    extract_lets +onlyGivenNames -merge x7 x8
    have h9 : P x8 := by unfold x8; exact (State.cacheSound_inv (c.mono rfl) k0)
    clear_value x7 x8
    refine ite_p (fun _ => (State.crWakeAll_inv (c.mono rfl) h9)) (fun _ => ?_)
    refine ite_p (fun _ => (State.crWakeAll_inv (c.mono rfl) (State.jobAgain_inv (c.mono rfl) h9))) (fun _ => ?_)
    extract_lets +onlyGivenNames -merge x10 x12
    have h11 : P x10 := by unfold x10; exact (State.zeroPath_inv (c.mono rfl) h9)
    clear_value x10 x12
    refine ite_p (fun _ => h11) (fun _ => ?_)
    extract_lets +onlyGivenNames -merge x13
    clear_value x13
    split
    ·
      rename_i y14 y15 y16 y17
      extract_lets +onlyGivenNames -merge x18 x21 x22 x24 x26 x28 x30
      have h19 : P x18 := by unfold x18; exact (State.each_inv (c.mono rfl) h11 (fun _ _ h20 => (State.tagFail_inv (c.mono rfl) h20)))
      have h23 : P x22 := by unfold x22; exact (State.writePage_inv (c.mono rfl) h19)
      have h25 : P x24 := by unfold x24; exact (State.jobHome_inv (c.mono rfl) h23)
      have h27 : P x26 := by unfold x26; exact (State.jobHome_inv (c.mono rfl) h25)
      have h29 : P x28 := by unfold x28; exact (State.cacheDrop_inv (c.mono rfl) h27)
      have h31 : P x30 := by unfold x30; exact (State.updCrr_inv (c.mono rfl) h29)
      clear_value x18 x21 x22 x24 x26 x28 x30
      exact (State.updJob_inv (c.mono rfl) h31)
theorem State.rangeInit_inv (c : Clo 0x1e02000000008cf000000000000000000000000000000000000400000000040603a P) {v0} {v1} (k0 : P v0) : P (State.rangeInit v0 v1) := by
  unfold State.rangeInit
  extract_lets +onlyGivenNames -merge x1 x3
  have h2 : P x1 := by unfold x1; exact (State.endJobs_inv (c.mono rfl) k0)
  have h4 : P x3 := by unfold x3; exact (State.updCr_inv (c.mono rfl) h2)
  clear_value x1 x3
  split
  ·
    rename_i y5 y6 y7 y8
    have q10 := congr_p (Q := (SndP P)) y8 (by
        exact (State.trng_inv (c.mono rfl) h4)
      )
    have h9 : P y7 := q10
    split
    ·
      rename_i y11 y12 y13 y14
      have q16 := congr_p (Q := (SndP P)) y14 (by
          exact (State.trng_inv (c.mono rfl) h9)
        )
      have h15 : P y13 := q16
      extract_lets +onlyGivenNames -merge x17 x18 x20 x22
      have h19 : P x18 := by unfold x18; exact (c.odClear rfl _ (State.updCrr_inv (c.mono rfl) h15))
      have h21 : P x20 := by unfold x20; exact (State.setRange_inv (c.mono rfl) h19)
      have h23 : P x22 := by unfold x22; exact (c.setF rfl (c.setF rfl h21))
      clear_value x17 x18 x20 x22
      split
      ·
        rename_i y24 y25 y26 y27
        have q29 := congr_p (Q := (SndP P)) y27 (by
            exact (State.crNext_inv (c.mono rfl) h23)
          )
        have h28 : P y26 := q29
        exact (State.crWakeAll_inv (c.mono rfl) (State.setJob_inv (c.mono rfl) h28))
theorem State.rangeOff_inv (c : Clo 0x1e02000000008cf000000000000000000000000000000000000400000000040603a P) {v0} {v1} (k0 : P v0) : P (State.rangeOff v0 v1) := by
  unfold State.rangeOff
  extract_lets +onlyGivenNames -merge x1 x2 x5 x7
  have h3 : P x2 := by unfold x2; exact (State.each_inv (c.mono rfl) k0 (fun _ _ h4 => (State.setJob_inv (c.mono rfl) h4)))
  have h6 : P x5 := by unfold x5; exact (c.setF rfl (State.setRange_inv (c.mono rfl) h3))
  clear_value x1 x2 x5 x7
  exact (State.crWakeAll_inv (c.mono rfl) (State.respondTo_inv (c.mono rfl) (State.updCrr_inv (c.mono rfl) h6)))
theorem State.rangeInitialised_inv (c : Clo 0x8010000000000000000000000000000000000000000000000006018 P) {v0} {v1} (k0 : P v0) : P (State.rangeInitialised v0 v1) := by
  unfold State.rangeInitialised
  split
  ·
    rename_i y1 y2
    exact k0
  ·
    rename_i y3 y4 y5 y6
    refine ite_p (fun _ => k0) (fun _ => ?_)
    extract_lets +onlyGivenNames -merge x7
    clear_value x7
    exact (State.respondTo_inv (c.mono rfl) (State.setRange_inv (c.mono rfl) (State.updCrr_inv (c.mono rfl) (State.setJob_inv (c.mono rfl) k0))))
theorem State.rangeDisabled_inv (c : Clo 0x8c1000000000000000000000000000000000000400000000040601a P) {v0} {v1} (k0 : P v0) : P (State.rangeDisabled v0 v1) := by
  unfold State.rangeDisabled
  refine ite_p (fun _ => k0) (fun _ => ?_)
  extract_lets +onlyGivenNames -merge x1 x3
  have h2 : P x1 := by unfold x1; exact (State.writeBackAll_inv (c.mono rfl) k0)
  have h4 : P x3 := by unfold x3; exact (State.updCr_inv (c.mono rfl) h2)
  clear_value x1 x3
  exact (c.setF rfl (State.updCrr_inv (c.mono rfl) h4))
theorem execProtectedRead_inv (c : Clo 0x788001e02000000008df000000000000000000000000000000000000400000000040603a P) {v0} (k0 : P v0) : (OutP P) (execProtectedRead v0) := by
  unfold execProtectedRead
  exact (mk_next (State.protRow_inv (c.mono rfl) k0))
theorem execFullLineWrite_inv (c : Clo 0x788001e02000000008df000000000000000000000000000000000000400000000040603a P) {v0} (k0 : P v0) : (OutP P) (execFullLineWrite v0) := by
  unfold execFullLineWrite
  exact (mk_next (State.protRow_inv (c.mono rfl) k0))
theorem execPartialWrite_inv (c : Clo 0x788001e02000000008df000000000000000000000000000000000000400000000040603a P) {v0} (k0 : P v0) : (OutP P) (execPartialWrite v0) := by
  unfold execPartialWrite
  exact (mk_next (State.protRow_inv (c.mono rfl) k0))
theorem execHomeResponse_inv (c : Clo 0x2000001e02000000008cf000000000000000000000000000000000000400000000040603a P) {v0} (k0 : P v0) : (OutP P) (execHomeResponse v0) := by
  unfold execHomeResponse
  exact (mk_next (State.homeResponse_inv (c.mono rfl) k0))
theorem execNodeVerification_inv (c : Clo 0x1e02000000008cf000000000000000000000000000000000000400000000040603a P) {v0} {v1} (k1 : P v1) : (OutP P) (execNodeVerification v0 v1) := by
  unfold execNodeVerification
  exact (mk_next (State.nodeVerification_inv (c.mono rfl) k1))
theorem execWriteBack_inv (c : Clo 0x8c1000000000000000000000000000000000000400000000040601a P) {v0} {v1} (k1 : P v1) : (OutP P) (execWriteBack v0 v1) := by
  unfold execWriteBack
  exact (mk_next (ite_p (fun _ => (State.evict1_inv (c.mono rfl) k1)) (fun _ => k1)))
theorem execPageReEncryption_inv (c : Clo 0x1e02000000008ef000000000000000000000000000000000000400000000040603a P) {v0} {v1} (k1 : P v1) : (OutP P) (execPageReEncryption v0 v1) := by
  unfold execPageReEncryption
  exact (mk_next (State.pageReEncryption_inv (c.mono rfl) k1))
theorem execRangeInitialisation_inv (c : Clo 0x8010000000000000000000000000000000000000000000000006018 P) {v0} {v1} (k1 : P v1) : (OutP P) (execRangeInitialisation v0 v1) := by
  unfold execRangeInitialisation
  exact (mk_next (State.rangeInitialised_inv (c.mono rfl) k1))
theorem execRekeyPage_inv (c : Clo 0x1e02000000008cf000000000000000000000000000000000000400000000040603a P) {v0} {v1} (k1 : P v1) : (OutP P) (execRekeyPage v0 v1) := by
  unfold execRekeyPage
  exact (mk_next (State.rekeyPage_inv (c.mono rfl) k1))
theorem execRangeDisable_inv (c : Clo 0x8c1000000000000000000000000000000000000400000000040601a P) {v0} {v1} (k1 : P v1) : (OutP P) (execRangeDisable v0 v1) := by
  unfold execRangeDisable
  exact (mk_next (State.rangeDisabled_inv (c.mono rfl) k1))
theorem execCrStatus_inv (c : Clo 0x1e0200000000000000000000000000000000000000000000000820000000000203a P) {v0} {v1} {v2} (k2 : P v2) : (OutP P) (execCrStatus v0 v1 v2) := by
  unfold execCrStatus
  exact (mk_next (State.submit_inv (c.mono rfl) k2 (fun _ h1 => (State.checks_inv (c.mono rfl) h1 (fun _ h2 => (State.replyData_inv (c.mono rfl) h2))))))
theorem execCrRangeRekey_inv (c : Clo 0x1e02000000008cf000000000000000000000000000000000000c20000000040603a P) {v0} {v1} {v2} (k2 : P v2) : (OutP P) (execCrRangeRekey v0 v1 v2) := by
  unfold execCrRangeRekey
  refine mk_next ?_
  refine State.submit_inv (c.mono rfl) k2 ?_
  intro a10 h9
  refine State.checks_inv (c.mono rfl) h9 ?_
  intro a14 h13
  extract_lets +onlyGivenNames -merge x15 x17
  have h16 : P x15 := by unfold x15; exact (c.setF rfl (State.setRange_inv (c.mono rfl) h13))
  have h18 : P x17 := by unfold x17; exact (State.updCrr_inv (c.mono rfl) h16)
  clear_value x15 x17
  split
  ·
    rename_i y19 y20 y21 y22
    have q24 := congr_p (Q := (SndP P)) y22 (by
        exact (State.crNext_inv (c.mono rfl) h18)
      )
    have h23 : P y21 := q24
    exact (State.crWakeAll_inv (c.mono rfl) (State.setJob_inv (c.mono rfl) h23))
theorem execCrRangeReset_inv (c : Clo 0x1e02000000008cf000000000000000000000000000000000000c20000000040603a P) {v0} {v1} {v2} (k2 : P v2) : (OutP P) (execCrRangeReset v0 v1 v2) := by
  unfold execCrRangeReset
  refine mk_next ?_
  refine State.submit_inv (c.mono rfl) k2 ?_
  intro a10 h9
  refine State.checks_inv (c.mono rfl) h9 ?_
  intro a14 h13
  extract_lets +onlyGivenNames -merge x15
  clear_value x15
  exact (State.rangeInit_inv (c.mono rfl) (State.respondTo_inv (c.mono rfl) (State.updCrr_inv (c.mono rfl) h13)))

/-! ### Kex -/

theorem State.updEnc_inv (c : Clo 0x2000 P) {v0} {v1} {v2} (k0 : P v0) : P (State.updEnc v0 v1 v2) := by
  unfold State.updEnc
  exact (c.updLink rfl _ _ k0)
theorem State.sendFragment_inv (c : Clo 0x2010 P) {v0} {v1} (k0 : P v0) : P (State.sendFragment v0 v1) := by
  unfold State.sendFragment
  extract_lets +onlyGivenNames -merge x1 x2 x3 x4
  clear_value x1 x2 x3 x4
  exact (State.updEnc_inv (c.mono rfl) (State.request_inv (c.mono rfl) k0))
theorem State.sendKex_inv (c : Clo 0x2010 P) {v0} {v1} {v2} {v3} (k0 : P v0) : P (State.sendKex v0 v1 v2 v3) := by
  unfold State.sendKex
  exact (State.sendFragment_inv (c.mono rfl) (State.updEnc_inv (c.mono rfl) k0))
theorem State.kexFails_inv (c : Clo 0x20000000000000000000000000000000000000000000000000002018 P) {v0} {v1} {v2} (k0 : P v0) : P (State.kexFails v0 v1 v2) := by
  unfold State.kexFails
  extract_lets +onlyGivenNames -merge x1 x2 x4 x6 x8 x10
  have h3 : P x2 := by unfold x2; exact (State.updEnc_inv (c.mono rfl) k0)
  have h5 : P x4 := by unfold x4; exact (ite_p (fun _ => (State.updEnc_inv (c.mono rfl) h3)) (fun _ => h3))
  have h7 : P x6 := by unfold x6; exact (c.setF rfl h5)
  have h9 : P x8 := by unfold x8; exact (c.setF rfl h7)
  have h11 : P x10 := by unfold x10; exact (c.setF rfl h9)
  clear_value x1 x2 x4 x6 x8 x10
  exact (State.respondTo_inv (c.mono rfl) h11)
theorem State.kexDraw_inv (c : Clo 0x1e02000000000000000000000000000000000000000000000000000000000000022 P) {v0} (k0 : P v0) : (SndP (SndP P)) (State.kexDraw v0) := by
  unfold State.kexDraw
  split
  ·
    rename_i y1 y2 y3 y4
    have q6 := congr_p (Q := (SndP P)) y4 (by
        exact (State.trng_inv (c.mono rfl) k0)
      )
    have h5 : P y3 := q6
    split
    ·
      rename_i y7 y8 y9 y10
      have q12 := congr_p (Q := (SndP P)) y10 (by
          exact (State.trng_inv (c.mono rfl) h5)
        )
      have h11 : P y9 := q12
      exact (mk_snd (mk_snd h11))
theorem State.installRx_inv (c : Clo 0x20000000000000000000000000000000000000000000000000002000 P) {v0} {v1} {v2} (k0 : P v0) : P (State.installRx v0 v1 v2) := by
  unfold State.installRx
  extract_lets +onlyGivenNames -merge x1
  have h2 : P x1 := by unfold x1; exact (State.updEnc_inv (c.mono rfl) k0)
  clear_value x1
  exact (c.setF rfl (c.setF rfl h2))
theorem State.installTx_inv (c : Clo 0x60000000040040000000000000000000000000000000000000002000 P) {v0} {v1} {v2} {v3} (k0 : P v0) : P (State.installTx v0 v1 v2 v3) := by
  unfold State.installTx
  extract_lets +onlyGivenNames -merge x1 x3 x5 x7
  have h2 : P x1 := by unfold x1; exact (State.updEnc_inv (c.mono rfl) k0)
  have h4 : P x3 := by unfold x3; exact (c.setF rfl (c.setF rfl h2))
  have h6 : P x5 := by unfold x5; exact (c.setF rfl (c.setF rfl h4))
  have h8 : P x7 := by unfold x7; exact (c.setF rfl h6)
  clear_value x1 x3 x5 x7
  exact (c.setLinkF rfl rfl h8)
theorem State.kexOver_inv (c : Clo 0x20000000000000000000000000000000000000000000000000002000 P) {v0} {v1} (k0 : P v0) : P (State.kexOver v0 v1) := by
  unfold State.kexOver
  exact (c.setF rfl (State.updEnc_inv (c.mono rfl) k0))
theorem State.kexStart_inv (c : Clo 0x1e02000000020000000000000000000000000000000000000000000000000002032 P) {v0} {v1} {v2} (k0 : P v0) : P (State.kexStart v0 v1 v2) := by
  unfold State.kexStart
  extract_lets +onlyGivenNames -merge x1
  clear_value x1
  split
  ·
    rename_i y2 y3 y4 y5 y6
    have q8 := congr_p (Q := (SndP (SndP P))) y6 (by
        exact (State.kexDraw_inv (c.mono rfl) k0)
      )
    have h7 : P y5 := q8
    extract_lets +onlyGivenNames -merge x9 x10
    have h11 : P x10 := by unfold x10; exact (State.updEnc_inv (c.mono rfl) h7)
    clear_value x9 x10
    exact (State.sendKex_inv (c.mono rfl) (c.setF rfl h11))
theorem State.kexMessage_inv (c : Clo 0x1e0200000006000000004004000000000000000000000000000000000000000203a P) {v0} {v1} {v2} {v3} (k0 : P v0) : (SndP (FunP P)) (State.kexMessage v0 v1 v2 v3) := by
  unfold State.kexMessage
  extract_lets +onlyGivenNames -merge x1 x2
  clear_value x1 x2
  refine ite_p (fun _ => ?_) (fun _ => ?_)
  ·
    split
    ·
      rename_i y3 y4
      exact (mk_snd (fun _ h5 => (State.kexFails_inv (c.mono rfl) h5)))
    ·
      rename_i y6 y7 y8
      refine ite_p (fun _ => (mk_snd (fun _ h11 => (State.kexFails_inv (c.mono rfl) h11)))) (fun _ => ?_)
      refine mk_snd ?_
      intro a15 h14
      beta_reduce
      split
      ·
        rename_i y16 y17 y18 y19 y20
        have q22 := congr_p (Q := (SndP (SndP P))) y20 (by
            exact (State.kexDraw_inv (c.mono rfl) h14)
          )
        have h21 : P y19 := q22
        extract_lets +onlyGivenNames -merge x23 x24 x25
        have h26 : P x25 := by unfold x25; exact (State.updEnc_inv (c.mono rfl) (c.drawn rfl  h21))
        clear_value x23 x24 x25
        exact (State.sendKex_inv (c.mono rfl) h26)
  ·
    refine ite_p (fun _ => ?_) (fun _ => ?_)
    ·
      split
      ·
        rename_i y27 y28
        exact (mk_snd (fun _ h29 => (State.kexFails_inv (c.mono rfl) h29)))
      ·
        rename_i y30 y31 y32
        extract_lets +onlyGivenNames -merge x33
        clear_value x33
        refine ite_p (fun _ => (mk_snd (fun _ h36 => (State.kexFails_inv (c.mono rfl) h36)))) (fun _ => ?_)
        refine mk_snd ?_
        intro a40 h39
        beta_reduce
        extract_lets +onlyGivenNames -merge x41 x42 x44 x46 x53
        have h43 : P x42 := by unfold x42; exact (State.updEnc_inv (c.mono rfl) h39)
        have h45 : P x44 := by unfold x44; exact (State.installRx_inv (c.mono rfl) h43)
        have h47 : P x46 := by
          unfold x46
          split
          ·
            rename_i y48 y49 y50
            exact (State.committed_inv (c.mono rfl) h45)
          ·
            rename_i y51 y52
            exact h45
        clear_value x41 x42 x44 x46 x53
        exact (State.sendKex_inv (c.mono rfl) (c.drawn rfl  h47))
    ·
      split
      ·
        rename_i y54 y55
        exact (mk_snd (fun _ h56 => (State.kexFails_inv (c.mono rfl) h56)))
      ·
        rename_i y57 y58 y59
        extract_lets +onlyGivenNames -merge x60
        clear_value x60
        refine ite_p (fun _ => (mk_snd (fun _ h63 => (State.kexFails_inv (c.mono rfl) h63)))) (fun _ => ?_)
        refine mk_snd ?_
        intro a67 h66
        beta_reduce
        extract_lets +onlyGivenNames -merge x68
        have h69 : P x68 := by unfold x68; exact (State.installRx_inv (c.mono rfl) h66)
        clear_value x68
        exact (State.kexOver_inv (c.mono rfl) (State.installTx_inv (c.mono rfl) h69))
theorem State.kexFragment_inv (c : Clo 0x1e0200000006000000004004000000000000000000000000000000000000000203a P) {v0} {v1} {v2} {v3} {v4} {v5} {v6} (k0 : P v0) : P (State.kexFragment v0 v1 v2 v3 v4 v5 v6) := by
  unfold State.kexFragment
  split
  ·
    rename_i y1 y2
    exact (State.reply_inv (c.mono rfl) k0)
  ·
    rename_i y3 y4 y5
    extract_lets +onlyGivenNames -merge x6 x7 x8 x9
    clear_value x6 x7 x8 x9
    refine ite_p (fun _ => (State.kexFails_inv (c.mono rfl) (State.reply_inv (c.mono rfl) k0))) (fun _ => ?_)
    refine ite_p (fun _ => (State.reply_inv (c.mono rfl) k0)) (fun _ => ?_)
    extract_lets +onlyGivenNames -merge x10 x12
    have h11 : P x10 := by unfold x10; exact (State.updEnc_inv (c.mono rfl) k0)
    have h13 : P x12 := by unfold x12; exact (c.setF rfl h11)
    clear_value x10 x12
    refine ite_p (fun _ => (State.reply_inv (c.mono rfl) h13)) (fun _ => ?_)
    extract_lets +onlyGivenNames -merge x14 x15
    have h16 : P x15 := by unfold x15; exact (State.updEnc_inv (c.mono rfl) h13)
    clear_value x14 x15
    split
    ·
      rename_i y17 y18 y19 y20
      have q22 := congr_p (Q := (SndP (FunP P))) y20 (by
          exact (State.kexMessage_inv (c.mono rfl) h16)
        )
      have h21 : ∀ a0, P a0 → P (y19 a0) := q22
      exact (h21 _ (State.reply_inv (c.mono rfl) h16))
theorem State.kexAnswer_inv (c : Clo 0x60000000040040000000000000000000000000000000000000002018 P) {v0} {v1} {v2} (k0 : P v0) : P (State.kexAnswer v0 v1 v2) := by
  unfold State.kexAnswer
  extract_lets +onlyGivenNames -merge x1
  clear_value x1
  refine ite_p (fun _ => k0) (fun _ => ?_)
  refine ite_p (fun _ => (State.kexFails_inv (c.mono rfl) k0)) (fun _ => ?_)
  refine ite_p (fun _ => (State.sendFragment_inv (c.mono rfl) k0)) (fun _ => ?_)
  extract_lets +onlyGivenNames -merge x2
  have h3 : P x2 := by unfold x2; exact (State.updEnc_inv (c.mono rfl) k0)
  clear_value x2
  refine ite_p (fun _ => ?_) (fun _ => h3)
  extract_lets +onlyGivenNames -merge x4
  have h5 : P x4 := by
    unfold x4
    split
    ·
      rename_i y6 y7 y8
      exact (State.installTx_inv (c.mono rfl) h3)
    ·
      rename_i y9 y10
      exact h3
  clear_value x4
  exact (State.respondTo_inv (c.mono rfl) (State.kexOver_inv (c.mono rfl) h5))
theorem execLinkKex_inv (c : Clo 0x1e0200000002000000000000000000000000000000000000000820000000000203a P) {v0} {v1} {v2} (k2 : P v2) : (OutP P) (execLinkKex v0 v1 v2) := by
  unfold execLinkKex
  exact (mk_next (State.submit_inv (c.mono rfl) k2 (fun _ h1 => (State.checks_inv (c.mono rfl) h1 (fun _ h2 => (State.kexStart_inv (c.mono rfl) (State.uncommitted_inv (c.mono rfl) h2)))))))
theorem execKexMsg_inv (c : Clo 0x1e0200000006000000004004000000000000000000000000000820000000000203a P) {v0} {v1} {v2} {v3} {v4} {v5} {v6} (k6 : P v6) : (OutP P) (execKexMsg v0 v1 v2 v3 v4 v5 v6) := by
  unfold execKexMsg
  exact (mk_next (State.submit_inv (c.mono rfl) k6 (fun _ h1 => (State.checks_inv (c.mono rfl) h1 (fun _ h2 => (State.kexFragment_inv (c.mono rfl) h2))))))
theorem execAutoKex_inv (c : Clo 0x1e02000000020000000000000000000000000000000000000000000000000002032 P) {v0} {v1} (k1 : P v1) : (OutP P) (execAutoKex v0 v1) := by
  unfold execAutoKex
  extract_lets +onlyGivenNames -merge x1 x2 x3
  clear_value x1 x2 x3
  exact (mk_next (ite_p (fun _ => (State.kexStart_inv (c.mono rfl) k1)) (fun _ => k1)))
theorem execKexTimeout_inv (c : Clo 0x20000000000000000000000000000000000000000000000000002018 P) {v0} {v1} (k1 : P v1) : (OutP P) (execKexTimeout v0 v1) := by
  unfold execKexTimeout
  exact (mk_next (ite_p (fun _ => k1) (fun _ => (State.kexFails_inv (c.mono rfl) k1))))
theorem execKexFragmentGap_inv (c : Clo 0x20000000000000000000000000000000000000000000000000002018 P) {v0} {v1} (k1 : P v1) : (OutP P) (execKexFragmentGap v0 v1) := by
  unfold execKexFragmentGap
  exact (mk_next (ite_p (fun _ => k1) (fun _ => (State.kexFails_inv (c.mono rfl) k1))))

/-! ### Clock -/

theorem State.setHearth_inv (c : Clo 0x200000000 P) {v0} {v1} (k0 : P v0) : P (State.setHearth v0 v1) := by
  unfold State.setHearth
  exact (c.setF rfl k0)
theorem State.loopStops_inv (c : Clo 0x39f0304400710000040004004041300000000021c94020101008400000064000bffe P) {v0} (k0 : P v0) : P (State.loopStops v0) := by
  unfold State.loopStops
  exact (ite_p (fun _ => (State.each_inv (c.mono rfl) (State.enterSafe_inv (c.mono rfl) (c.setF rfl (State.setHearth_inv (c.mono rfl) k0))) (fun _ _ h1 => (State.edgeOver_inv (c.mono rfl) h1)))) (fun _ => k0))
theorem State.refLoss_inv (c : Clo 0x39f030440071000004800c40c041300000000021c94020101008400000164000bffe P) {v0} (k0 : P v0) : P (State.refLoss v0) := by
  unfold State.refLoss
  refine ite_p (fun _ => k0) (fun _ => ?_)
  extract_lets +onlyGivenNames -merge x1 x3
  have h2 : P x1 := by unfold x1; exact (c.setF rfl (c.setF rfl k0))
  have h4 : P x3 := by unfold x3; exact (State.recordSrc_inv (c.mono rfl) (c.inc rfl h2))
  clear_value x1 x3
  refine ite_p (fun _ => h4) (fun _ => ?_)
  refine ite_p (fun _ => (State.loopStops_inv (c.mono rfl) h4)) (fun _ => ?_)
  extract_lets +onlyGivenNames -merge x5 x7
  have h6 : P x5 := by unfold x5; exact (c.setF rfl (State.setHearth_inv (c.mono rfl) h4))
  have h8 : P x7 := by unfold x7; exact (State.each_inv (c.mono rfl) h6 (fun _ _ h9 => (State.forceTxs_inv (c.mono rfl) h9)))
  clear_value x5 x7
  exact (State.each_inv (c.mono rfl) h8 (fun _ _ h10 => (State.linkDrained_inv (c.mono rfl) h10)))
theorem State.judge_inv (c : Clo 0x39f030440071000004800c40c041300000000021c94020101008400000164000bffe P) {v0} {v1} (k0 : P v0) : P (State.judge v0 v1) := by
  unfold State.judge
  refine ite_p (fun _ => k0) (fun _ => ?_)
  extract_lets +onlyGivenNames -merge x1
  have h2 : P x1 := by unfold x1; exact (c.setF rfl k0)
  clear_value x1
  refine ite_p (fun _ => ?_) (fun _ => (State.refLoss_inv (c.mono rfl) (c.setF rfl h2)))
  extract_lets +onlyGivenNames -merge x3 x4
  have h5 : P x4 := by unfold x4; exact (c.setF rfl h2)
  clear_value x3 x4
  exact (ite_p (fun _ => (State.recordSrc_inv (c.mono rfl) (c.setF rfl h5))) (fun _ => h5))
theorem State.loopLocks_inv (c : Clo 0x1e020000000600004800c40c000000000000000000000000000000000060000203a P) {v0} (k0 : P v0) : P (State.loopLocks v0) := by
  unfold State.loopLocks
  extract_lets +onlyGivenNames -merge x1 x2
  have h3 : P x2 := by unfold x2; exact (c.setF rfl (State.setHearth_inv (c.mono rfl) k0))
  clear_value x1 x2
  refine ite_p (fun _ => ?_) (fun _ => (State.sidesStart_inv (c.mono rfl) h3))
  extract_lets +onlyGivenNames -merge x4
  have h5 : P x4 := by unfold x4; exact (State.each_inv (c.mono rfl) h3 (fun _ _ h6 => (ite_p (fun _ => h6) (fun _ => (State.unforceTxs_inv (c.mono rfl) h6)))))
  clear_value x4
  exact (State.each_inv (c.mono rfl) h5 (fun _ _ h7 => (State.l1Wake_inv (c.mono rfl) h7)))
theorem execRefclkLost_inv (c : Clo 0x39f030440071000004800c40c041300000000021c94020101008400000164000bffe P) {v0} (k0 : P v0) : (OutP P) (execRefclkLost v0) := by
  unfold execRefclkLost
  exact (mk_next (State.refLoss_inv (c.mono rfl) k0))
theorem execHearthLoopStop_inv (c : Clo 0x39f0304400710000040004004041300000000021c94020101008400000064000bffe P) {v0} (k0 : P v0) : (OutP P) (execHearthLoopStop v0) := by
  unfold execHearthLoopStop
  exact (mk_next (State.loopStops_inv (c.mono rfl) k0))
theorem execLockFail_inv (c : Clo 0x200008000 P) {v0} (k0 : P v0) : (OutP P) (execLockFail v0) := by
  unfold execLockFail
  exact (mk_next (ite_p (fun _ => (State.updBoot_inv (c.mono rfl) (State.setHearth_inv (c.mono rfl) k0))) (fun _ => k0)))
theorem execRcFail_inv (c : Clo 0x200000000 P) {v0} (k0 : P v0) : (OutP P) (execRcFail v0) := by
  unfold execRcFail
  exact (mk_next (ite_p (fun _ => (c.setF rfl k0)) (fun _ => k0)))
theorem State.clockSwitch_inv (c : Clo 0xa00000000 P) {v0} {v1} {v2} {v3} (k0 : P v0) : P (State.clockSwitch v0 v1 v2 v3) := by
  unfold State.clockSwitch
  extract_lets +onlyGivenNames -merge x1
  clear_value x1
  refine ite_p (fun _ => k0) (fun _ => ?_)
  extract_lets +onlyGivenNames -merge x2 x3
  have h4 : P x3 := by unfold x3; exact (ite_p (fun _ => (c.setF rfl k0)) (fun _ => (c.setF rfl k0)))
  clear_value x2 x3
  exact (ite_p (fun _ => (c.inc rfl (c.setF (by repeat' (first | rfl | split | unfold gateReqFld | unfold gateStatFld | unfold planeFld)) h4))) (fun _ => h4))
theorem State.setGateReq_inv (c : Clo 0x3c000000000 P) {v0} {v1} {v2} {v3} (k0 : P v0) : P (State.setGateReq v0 v1 v2 v3) := by
  unfold State.setGateReq
  exact (c.setF (by repeat' (first | rfl | split | unfold gateReqFld | unfold gateStatFld | unfold planeFld)) k0)
theorem State.setGateStat_inv (c : Clo 0x3c0000000000 P) {v0} {v1} {v2} {v3} (k0 : P v0) : P (State.setGateStat v0 v1 v2 v3) := by
  unfold State.setGateStat
  exact (c.setF (by repeat' (first | rfl | split | unfold gateReqFld | unfold gateStatFld | unfold planeFld)) k0)
theorem State.setGating_inv (c : Clo 0x8000 P) {v0} {v1} {v2} {v3} (k0 : P v0) : P (State.setGating v0 v1 v2 v3) := by
  unfold State.setGating
  exact (State.updClk_inv (c.mono rfl) k0)
theorem State.gateStart_inv (c : Clo 0x1c94000000000000000000000ac5a P) {v0} {v1} {v2} (k0 : P v0) : P (State.gateStart v0 v1 v2) := by
  unfold State.gateStart
  refine ite_p (fun _ => k0) (fun _ => ?_)
  refine ite_p (fun _ => (State.setGating_inv (c.mono rfl) k0)) (fun _ => ?_)
  extract_lets +onlyGivenNames -merge x1
  have h2 : P x1 := by unfold x1; exact (State.setGating_inv (c.mono rfl) k0)
  clear_value x1
  exact (ite_p (fun _ => (State.abandonLoad_inv (c.mono rfl) h2)) (fun _ => h2))
theorem State.gateAsk_inv (c : Clo 0x1c94000000000000043c00000ac5a P) {v0} {v1} {v2} {v3} (k0 : P v0) : (SndP P) (State.gateAsk v0 v1 v2 v3) := by
  unfold State.gateAsk
  exact (ite_p (fun _ => (mk_snd k0)) (fun _ => (ite_p (fun _ => (mk_snd k0)) (fun _ => (ite_p (fun _ => (mk_snd (c.setF rfl k0))) (fun _ => (mk_snd (State.gateStart_inv (c.mono rfl) (State.setGateReq_inv (c.mono rfl) k0)))))))))
theorem State.gateReached_inv (c : Clo 0xa018 P) {v0} {v1} {v2} {v3} (k0 : P v0) : P (State.gateReached v0 v1 v2 v3) := by
  unfold State.gateReached
  extract_lets +onlyGivenNames -merge x1 x2 x3 x4 x5 x6
  have h7 : P x6 := by unfold x6; exact (State.updClk_inv (c.mono rfl) k0)
  clear_value x1 x2 x3 x5 x6
  exact (State.each_inv (c.mono rfl) h7 (fun _ _ h8 => (ite_p (fun _ => (State.respond_inv (c.mono rfl) h8)) (fun _ => (ite_p (fun _ => (State.respond_inv (c.mono rfl) h8)) (fun _ => h8))))))
theorem State.gateOpened_inv (c : Clo 0x1e020000000000004000c00c002100000000001cb400000000000003c000000bc7a P) {v0} {v1} {v2} (k0 : P v0) : P (State.gateOpened v0 v1 v2) := by
  unfold State.gateOpened
  refine ite_p (fun _ => k0) (fun _ => ?_)
  extract_lets +onlyGivenNames -merge x1 x3 x5
  have h2 : P x1 := by unfold x1; exact (State.setGateStat_inv (c.mono rfl) (State.setGating_inv (c.mono rfl) k0))
  have h4 : P x3 := by unfold x3; exact (c.setF rfl (c.setF rfl h2))
  have h6 : P x5 := by unfold x5; exact (ite_p (fun _ => (ite_p (fun _ => (State.setDivisor_inv (c.mono rfl) (State.each_inv (c.mono rfl) h4 (fun _ _ h7 => (State.emptyPlane_inv (c.mono rfl) h7))))) (fun _ => h2))) (fun _ => (ite_p (fun _ => (State.each_inv (c.mono rfl) h2 (fun _ _ h8 => (ite_p (fun _ => (State.engIdle_inv (c.mono rfl) h8)) (fun _ => h8))))) (fun _ => (ite_p (fun _ => (State.bringUp_inv (c.mono rfl) h2)) (fun _ => (ite_p (fun _ => (State.bringUp_inv (c.mono rfl) h2)) (fun _ => h2))))))))
  clear_value x1 x3 x5
  exact (State.gateStart_inv (c.mono rfl) (State.gateReached_inv (c.mono rfl) h6))
theorem State.forgetOut_inv (c : Clo 0x10 P) {v0} {v1} (k0 : P v0) : P (State.forgetOut v0 v1) := by
  unfold State.forgetOut
  exact (State.updNet_inv (c.mono rfl) k0)
theorem State.gateRoom_inv (c : Clo 0x788039f0304400710000040004004041300000000021cb4020101c08400040004000bffe P) {v0} {v1} (k0 : P v0) : P (State.gateRoom v0 v1) := by
  unfold State.gateRoom
  extract_lets +onlyGivenNames -merge x1 x3 x4 x7 x10 x12 x13 x15 x17 x19 x22 x24 x26 x28
  have h2 : P x1 := by unfold x1; exact (State.abandonLoad_inv (c.mono rfl) k0)
  have h5 : P x4 := by unfold x4; exact (State.each_inv (c.mono rfl) h2 (fun _ _ h6 => (c.inc rfl (State.refuse_inv (c.mono rfl) h6))))
  have h8 : P x7 := by unfold x7; exact (State.each_inv (c.mono rfl) h5 (fun _ _ h9 => (State.returnTask_inv (c.mono rfl) h9)))
  have h11 : P x10 := by unfold x10; exact (ite_p (fun _ => (State.dropHeld_inv (c.mono rfl) h8)) (fun _ => h8))
  have h14 : P x13 := by unfold x13; exact (State.trackOff_inv (c.mono rfl) h11)
  have h16 : P x15 := by unfold x15; exact (State.forgetOut_inv (c.mono rfl) h14)
  have h18 : P x17 := by unfold x17; exact (c.updRoom rfl _ _ h16)
  have h20 : P x19 := by unfold x19; exact (State.each_inv (c.mono rfl) h18 (fun _ _ h21 => (State.emptyPlane_inv (c.mono rfl) h21)))
  have h23 : P x22 := by unfold x22; exact (c.setF rfl (c.setF rfl h20))
  have h25 : P x24 := by unfold x24; exact (c.setF rfl h23)
  have h27 : P x26 := by unfold x26; exact (ite_p (fun _ => h25) (fun _ => (c.setF rfl h25)))
  have h29 : P x28 := by unfold x28; exact (State.scramble_inv (c.mono rfl) (State.setDivisor_inv (c.mono rfl) h27))
  clear_value x1 x3 x4 x7 x10 x12 x13 x15 x17 x19 x22 x24 x26 x28
  exact (State.each_inv (c.mono rfl) h29 (fun _ _ h30 => (State.respond_inv (c.mono rfl) h30)))
theorem State.gateEngine_inv (c : Clo 0x39f0304400710000040004004043300000000021c94020101c08400000004000bffe P) {v0} {v1} (k0 : P v0) : P (State.gateEngine v0 v1) := by
  unfold State.gateEngine
  refine ite_p (fun _ => (c.setF rfl k0)) (fun _ => ?_)
  extract_lets +onlyGivenNames -merge x1
  have h2 : P x1 := by unfold x1; exact (State.forgetOut_inv (c.mono rfl) (State.resetEngine_inv (c.mono rfl) k0))
  clear_value x1
  exact (c.setF rfl (c.updEng rfl _ _ h2))
theorem State.gateDrained_inv (c : Clo 0x788039f0304400710000040004004043300000000021cb4020101c0840007c004000bffe P) {v0} {v1} {v2} (k0 : P v0) : P (State.gateDrained v0 v1 v2) := by
  unfold State.gateDrained
  refine ite_p (fun _ => k0) (fun _ => ?_)
  extract_lets +onlyGivenNames -merge x1 x2 x6
  have h3 : P x2 := by unfold x2; exact (ite_p (fun _ => (State.gateRoom_inv (c.mono rfl) k0)) (fun _ => (ite_p (fun _ => (State.each_inv (c.mono rfl) k0 (fun _ _ h4 => (State.gateEngine_inv (c.mono rfl) h4)))) (fun _ => (ite_p (fun _ => (State.forgetOut_inv (c.mono rfl) (State.each_inv (c.mono rfl) k0 (fun _ _ h5 => (State.shutDrain_inv (c.mono rfl) h5))))) (fun _ => k0))))))
  have h7 : P x6 := by unfold x6; exact (State.setGateStat_inv (c.mono rfl) (State.setGating_inv (c.mono rfl) h3))
  clear_value x1 x2 x6
  exact (State.gateStart_inv (c.mono rfl) (State.gateReached_inv (c.mono rfl) h7))
theorem execGateOpen_inv (c : Clo 0x1c94000000000000043c00000ac5a P) {v0} {v1} {v2} (k2 : P v2) : (OutP P) (execGateOpen v0 v1 v2) := by
  unfold execGateOpen
  exact (mk_next (snd_p (State.gateAsk_inv (c.mono rfl) k2)))
theorem execGateClose_inv (c : Clo 0x1c94000000000000043c00000ac5a P) {v0} {v1} {v2} (k2 : P v2) : (OutP P) (execGateClose v0 v1 v2) := by
  unfold execGateClose
  exact (mk_next (snd_p (State.gateAsk_inv (c.mono rfl) k2)))
theorem execGateOpenComplete_inv (c : Clo 0x1e020000000000004000c00c002100000000001cb400000000000003c000000bc7a P) {v0} {v1} {v2} (k2 : P v2) : (OutP P) (execGateOpenComplete v0 v1 v2) := by
  unfold execGateOpenComplete
  exact (mk_next (State.gateOpened_inv (c.mono rfl) k2))
theorem execGateDrainEnd_inv (c : Clo 0x788039f0304400710000040004004043300000000021cb4020101c0840007c004000bffe P) {v0} {v1} {v2} (k2 : P v2) : (OutP P) (execGateDrainEnd v0 v1 v2) := by
  unfold execGateDrainEnd
  exact (mk_next (State.gateDrained_inv (c.mono rfl) k2))
theorem execClockStatus_inv (c : Clo 0x1e0200000000000000000000000000000000000000000000000820000000000203a P) {v0} {v1} (k1 : P v1) : (OutP P) (execClockStatus v0 v1) := by
  unfold execClockStatus
  exact (mk_next (State.submit_inv (c.mono rfl) k1 (fun _ h1 => (State.replyData_inv (c.mono rfl) h1))))
theorem execUnitGate_inv (c : Clo 0x1e0200000000000000000000000000000000001c94000000000820043c00000ac7a P) {v0} {v1} {v2} {v3} {v4} (k4 : P v4) : (OutP P) (execUnitGate v0 v1 v2 v3 v4) := by
  unfold execUnitGate
  refine mk_next ?_
  refine State.submit_inv (c.mono rfl) k4 ?_
  intro a10 h9
  refine State.checks_inv (c.mono rfl) h9 ?_
  intro a14 h13
  split
  ·
    rename_i y15 y16 y17 y18
    have q20 := congr_p (Q := (SndP P)) y18 (by
        exact (State.gateAsk_inv (c.mono rfl) h13)
      )
    have h19 : P y17 := q20
    exact (ite_p (fun _ => (State.reply_inv (c.mono rfl) h19)) (fun _ => (ite_p (fun _ => (State.reply_inv (c.mono rfl) h19)) (fun _ => (State.updClk_inv (c.mono rfl) h19)))))

/-! ### Commit -/

theorem State.noteAudit_inv (c : Clo 0x3000000000000000002 P) {v0} {v1} (k0 : P v0) : P (State.noteAudit v0 v1) := by
  unfold State.noteAudit
  extract_lets +onlyGivenNames -merge x1
  have h2 : P x1 := by unfold x1; exact (c.setF rfl (c.incW rfl k0))
  clear_value x1
  exact (c.drawn rfl  (c.setF rfl h2))
theorem State.runAudit_inv (c : Clo 0x39f0304400710000040004004041300000000021c94020101f08400000004000bffe P) {v0} {v1} (k0 : P v0) : (SndP P) (State.runAudit v0 v1) := by
  unfold State.runAudit
  extract_lets +onlyGivenNames -merge x1
  have h2 : P x1 := by unfold x1; exact (State.noteAudit_inv (c.mono rfl) k0)
  clear_value x1
  split
  ·
    rename_i y3 y4
    exact (mk_snd h2)
  ·
    rename_i y5 y6 y7 y8 y9
    exact (mk_snd (State.booksFault_inv (c.mono rfl) h2))
theorem State.takeSet_inv (c : Clo 0x1 P) {v0} {v1} (k0 : P v0) : P (State.takeSet v0 v1) := by
  unfold State.takeSet
  refine foldl_p ?_ k0
  intro a4 a5 h3
  split
  ·
    rename_i y6 y7 y8
    extract_lets +onlyGivenNames -merge x9
    clear_value x9
    exact (c.setRaw rfl _ _ h3)
  ·
    rename_i y10 y11
    exact h3
theorem State.commitBegin_inv (c : Clo 0x80000000000000004 P) {v0} {v1} {v2} (k0 : P v0) : P (State.commitBegin v0 v1 v2) := by
  unfold State.commitBegin
  extract_lets +onlyGivenNames -merge x1 x3 x5
  have h2 : P x1 := by unfold x1; exact (c.snapshot rfl _ k0)
  have h4 : P x3 := by unfold x3; exact (c.staged rfl _ h2)
  have h6 : P x5 := by unfold x5; exact (c.commit rfl _ h4)
  clear_value x1 x3 x5
  exact (c.setF rfl h6)
theorem State.pipesEmptied_inv (c : Clo 0x39f0304400710000040004004041300001200021cd4020101c08400000004010bffe P) {v0} (k0 : P v0) : P (State.pipesEmptied v0) := by
  unfold State.pipesEmptied
  extract_lets +onlyGivenNames -merge x1 x4
  have h2 : P x1 := by unfold x1; exact (State.each_inv (c.mono rfl) k0 (fun _ _ h3 => (State.dispatchPipe_inv (c.mono rfl) h3)))
  clear_value x1 x4
  exact (c.setF rfl (State.updSched_inv (c.mono rfl) h2))
theorem State.commitFreeze_inv (c : Clo 0x39f0304400710000040004004041300001200021cd4020101c08400000004010bfff P) {v0} (k0 : P v0) : P (State.commitFreeze v0) := by
  unfold State.commitFreeze
  split
  ·
    rename_i y1 y2
    exact k0
  ·
    rename_i y3 y4 y5
    refine ite_p (fun _ => k0) (fun _ => ?_)
    refine ite_p (fun _ => (State.failCommit_inv (c.mono rfl) k0)) (fun _ => ?_)
    extract_lets +onlyGivenNames -merge x6
    have h7 : P x6 := by unfold x6; exact (c.setF rfl (State.pipesEmptied_inv (c.mono rfl) k0))
    clear_value x6
    exact (c.commit rfl _ h7)
theorem State.commitApply_inv (c : Clo 0x39f0304400710000040004004041300000000021c94020101f08400000004000bffe P) {v0} (k0 : P v0) : P (State.commitApply v0) := by
  unfold State.commitApply
  split
  ·
    rename_i y1 y2
    exact k0
  ·
    rename_i y3 y4 y5
    refine ite_p (fun _ => k0) (fun _ => ?_)
    extract_lets +onlyGivenNames -merge x6
    have h7 : P x6 := by unfold x6; exact (State.noteAudit_inv (c.mono rfl) k0)
    clear_value x6
    split
    ·
      rename_i y8 y9 y10 y11 y12
      exact (State.failCommit_inv (c.mono rfl) (State.booksFault_inv (c.mono rfl) h7))
    ·
      rename_i y13 y14
      exact (c.commit rfl _ h7)
theorem State.linkSet_inv (c : Clo 0x1e020000000000004800c40c000000000000000000000000000000000000000203a P) {v0} {v1} {v2} (k0 : P v0) (k1 : P v1) : P (State.linkSet v0 v1 v2) := by
  unfold State.linkSet
  extract_lets +onlyGivenNames -merge x1 x2 x3 x4
  clear_value x1 x2 x3 x4
  exact (ite_p (fun _ => (State.bringUp_inv (c.mono rfl) k1)) (fun _ => (ite_p (fun _ => (State.linkOff_inv (c.mono rfl) k1)) (fun _ => (ite_p (fun _ => (State.linkChanged_inv (c.mono rfl) k1)) (fun _ => k1))))))
theorem State.rangeSet_inv (c : Clo 0x1e02000000008cf000000000000000000000000000000000000400000000040603a P) {v0} {v1} {v2} (k0 : P v0) (k1 : P v1) : P (State.rangeSet v0 v1 v2) := by
  unfold State.rangeSet
  extract_lets +onlyGivenNames -merge x1 x2
  clear_value x1 x2
  exact (ite_p (fun _ => (State.rangeInit_inv (c.mono rfl) k1)) (fun _ => (ite_p (fun _ => (State.rangeOff_inv (c.mono rfl) k1)) (fun _ => (ite_p (fun _ => (State.updCrr_inv (c.mono rfl) k1)) (fun _ => k1))))))
theorem State.rangesBack_inv (c : Clo 0x8c1000000000000000000000000000000000000400000000040601a P) {v0} {v1} (k0 : P v0) (k1 : P v1) : P (State.rangesBack v0 v1) := by
  unfold State.rangesBack
  exact (State.each_inv (c.mono rfl) k0 (fun _ _ h1 => (ite_p (fun _ => (State.writeBackAll_inv (c.mono rfl) h1)) (fun _ => h1))))
theorem State.schedSet_inv (c : Clo 0x1200000000000000000000000000810 P) {v0} {v1} (k0 : P v0) (k1 : P v1) : P (State.schedSet v0 v1) := by
  unfold State.schedSet
  extract_lets +onlyGivenNames -merge x1 x2 x3 x4
  have h5 : P x4 := by unfold x4; exact (ite_p (fun _ => (ite_p (fun _ => (State.meadowStore_inv (c.mono rfl) (State.meadowInit_inv (c.mono rfl) k1))) (fun _ => (State.meadowInit_inv (c.mono rfl) k1)))) (fun _ => k1))
  clear_value x1 x2 x3 x4
  exact (c.setF rfl (c.setF rfl h5))
theorem State.mowSet_inv (c : Clo 0x900000000000000000000000000000000000000000000000000000180 P) {v0} {v1} (k0 : P v0) (k1 : P v1) : P (State.mowSet v0 v1) := by
  unfold State.mowSet
  exact (ite_p (fun _ => (ite_p (fun _ => (State.mowStart_inv (c.mono rfl) k1)) (fun _ => k1))) (fun _ => (ite_p (fun _ => (State.mowRefresh_inv (c.mono rfl) (State.setPeriod_inv (c.mono rfl) (State.updMow_inv (c.mono rfl) k1)))) (fun _ => (State.mowRefresh_inv (c.mono rfl) k1)))))
theorem State.writeImage_inv (c : Clo 0x8000 P) {v0} (k0 : P v0) : P (State.writeImage v0) := by
  unfold State.writeImage
  exact (State.updBoot_inv (c.mono rfl) k0)
theorem State.commitPoint_inv (c : Clo 0x1e02000000908cf04800c40c00000000000012000000000100a400000000040e9bf P) {v0} (k0 : P v0) : P (State.commitPoint v0) := by
  unfold State.commitPoint
  split
  ·
    rename_i y1 y2
    exact k0
  ·
    rename_i y3 y4 y5
    refine ite_p (fun _ => k0) (fun _ => ?_)
    extract_lets +onlyGivenNames -merge x6 x8 x10 x12 x14 x16 x18 x20 x22 x25 x28 x30
    have h7 : P x6 := by unfold x6; exact (State.rangesBack_inv (c.mono rfl) k0 (State.takeSet_inv (c.mono rfl) k0))
    have h9 : P x8 := by unfold x8; exact h7
    have h11 : P x10 := by unfold x10; exact (State.takeSet_inv (c.mono rfl) h7)
    have h13 : P x12 := by unfold x12; exact (c.snapshot rfl _ h11)
    have h15 : P x14 := by unfold x14; exact (c.commit rfl _ h13)
    have h17 : P x16 := by unfold x16; exact (c.epoch rfl _ h15)
    have h19 : P x18 := by unfold x18; exact (c.setF rfl h17)
    have h21 : P x20 := by unfold x20; exact (State.updSched_inv (c.mono rfl) (c.setF rfl (c.setF rfl h19)))
    have h23 : P x22 := by unfold x22; exact (State.each_inv (c.mono rfl) h21 (fun _ _ h24 => (State.linkSet_inv (c.mono rfl) h9 h24)))
    have h26 : P x25 := by unfold x25; exact (State.each_inv (c.mono rfl) h23 (fun _ _ h27 => (State.rangeSet_inv (c.mono rfl) h9 h27)))
    have h29 : P x28 := by unfold x28; exact (State.mowSet_inv (c.mono rfl) h9 (State.schedSet_inv (c.mono rfl) h9 h26))
    have h31 : P x30 := by unfold x30; exact (State.writeImage_inv (c.mono rfl) h29)
    clear_value x6 x8 x10 x12 x14 x16 x18 x20 x22 x25 x28 x30
    split
    ·
      rename_i y32 y33 y34
      exact (ite_p (fun _ => (State.committed_inv (c.mono rfl) h31)) (fun _ => h31))
    ·
      rename_i y35 y36
      exact h31
theorem execCommitApply_inv (c : Clo 0x39f0304400710000040004004041300000000021c94020101f08400000004000bffe P) {v0} (k0 : P v0) : (OutP P) (execCommitApply v0) := by
  unfold execCommitApply
  exact (mk_next (State.commitApply_inv (c.mono rfl) k0))
theorem execAudit_inv (c : Clo 0x39f0304400710000040004004041300000000021c94020101f08400000004000bffe P) {v0} (k0 : P v0) : (OutP P) (execAudit v0) := by
  unfold execAudit
  exact (mk_next (ite_p (fun _ => k0) (fun _ => (snd_p (State.runAudit_inv (c.mono rfl) k0)))))
theorem execEpochCommit_inv (c : Clo 0x1e0200000000000000000000000000000000000000000000008820000000000203e P) {v0} {v1} (k1 : P v1) : (OutP P) (execEpochCommit v0 v1) := by
  unfold execEpochCommit
  exact (mk_next (State.submit_inv (c.mono rfl) k1 (fun _ h1 => (State.checks_inv (c.mono rfl) h1 (fun _ h2 => (State.commitBegin_inv (c.mono rfl) (State.uncommitted_inv (c.mono rfl) h2)))))))
theorem execEpochDiscard_inv (c : Clo 0x1e0200000000000000000000000000000000000000000000000820000000000203e P) {v0} {v1} (k1 : P v1) : (OutP P) (execEpochDiscard v0 v1) := by
  unfold execEpochDiscard
  exact (mk_next (State.submit_inv (c.mono rfl) k1 (fun _ h1 => (State.replyData_inv (c.mono rfl) (c.staged rfl _ h1)))))
theorem execBooksAudit_inv (c : Clo 0x39f0304400710000040004004041300000000021c94020101f08c20000004000bffe P) {v0} {v1} (k1 : P v1) : (OutP P) (execBooksAudit v0 v1) := by
  unfold execBooksAudit
  refine mk_next ?_
  refine State.submit_inv (c.mono rfl) k1 ?_
  intro a6 h5
  split
  ·
    rename_i y7 y8 y9 y10
    have q12 := congr_p (Q := (SndP P)) y10 (by
        exact (State.runAudit_inv (c.mono rfl) h5)
      )
    have h11 : P y9 := q12
    exact (State.reply_inv (c.mono rfl) h11)
theorem execEpPeek_inv (c : Clo 0x200000000000000000 P) {v0} {v1} (k1 : P v1) : (OutP P) (execEpPeek v0 v1) := by
  unfold execEpPeek
  exact (mk_next (c.setF rfl k1))

/-! ### LinkMail -/

theorem State.sendAssign_inv (c : Clo 0x60000000000000000000000000000000000000000000000000002008 P) {v0} {v1} {v2} {v3} (k0 : P v0) : P (State.sendAssign v0 v1 v2 v3) := by
  unfold State.sendAssign
  extract_lets +onlyGivenNames -merge x1
  clear_value x1
  exact (ite_p (fun _ => (State.pumpLmb_inv (c.mono rfl) (c.updLink rfl _ _ k0))) (fun _ => (State.updMail_inv (c.mono rfl) k0)))
theorem State.enumFinish_inv (c : Clo 0x8000000000000201c P) {v0} {v1} (k0 : P v0) : P (State.enumFinish v0 v1) := by
  unfold State.enumFinish
  extract_lets +onlyGivenNames -merge x1 x4
  have h2 : P x1 := by unfold x1; exact (State.each_inv (c.mono rfl) k0 (fun _ _ h3 => (State.stage_inv (c.mono rfl) h3)))
  clear_value x1 x4
  exact (ite_p (fun _ => (State.respond_inv (c.mono rfl) (c.enumer rfl _ h2))) (fun _ => (State.commitBegin_inv (c.mono rfl) h2)))
theorem State.enumNext_inv (c : Clo 0x6000000000000000000000000000000000000008000000000000201c P) {v0} {v1} {v2} (k1 : P v1) : P (State.enumNext v0 v1 v2) := by
  induction v0 generalizing v1 k1 v2 with
  | zero =>
    rw [State.enumNext]
    exact (State.enumFinish_inv (c.mono rfl) (c.enumer rfl _ k1))
  | succ n ih =>
    rw [State.enumNext]
    exact (ite_p (fun _ => (by apply ih; exact k1)) (fun _ => (State.sendAssign_inv (c.mono rfl) (c.enumer rfl _ k1))))
theorem State.enumStart_inv (c : Clo 0x2000000000000006000000000000000000000000000000000000008000000000000201c P) {v0} {v1} {v2} {v3} {v4} (k0 : P v0) : P (State.enumStart v0 v1 v2 v3 v4) := by
  unfold State.enumStart
  extract_lets +onlyGivenNames -merge x1
  have h2 : P x1 := by unfold x1; exact (c.setF rfl (c.setF rfl k0))
  clear_value x1
  exact (State.enumNext_inv (c.mono rfl) h2)
theorem State.enumAnswer_inv (c : Clo 0x6000000000000000000000000000000000000008000000000000201c P) {v0} {v1} {v2} {v3} (k0 : P v0) : P (State.enumAnswer v0 v1 v2 v3) := by
  unfold State.enumAnswer
  split
  ·
    rename_i y1 y2
    exact k0
  ·
    rename_i y3 y4 y5
    refine ite_p (fun _ => k0) (fun _ => ?_)
    extract_lets +onlyGivenNames -merge x6 x8 x9
    have h7 : P x6 := by unfold x6; exact (c.updLink rfl _ _ k0)
    clear_value x6 x9
    exact (State.enumNext_inv (c.mono rfl) h7)
theorem State.enumDeadline_inv (c : Clo 0x6000000000000000000000000000000000000008000000000000201c P) {v0} (k0 : P v0) : P (State.enumDeadline v0) := by
  unfold State.enumDeadline
  split
  ·
    rename_i y1 y2
    exact k0
  ·
    rename_i y3 y4 y5
    exact (State.enumAnswer_inv (c.mono rfl) (c.enumer rfl _ k0))
theorem execEnumerate_inv (c : Clo 0x20001e0200000006000000000000000000000000000000000000008820000000000203e P) {v0} {v1} {v2} {v3} (k3 : P v3) : (OutP P) (execEnumerate v0 v1 v2 v3) := by
  unfold execEnumerate
  exact (mk_next (State.submit_inv (c.mono rfl) k3 (fun _ h1 => (State.checks_inv (c.mono rfl) h1 (fun _ h2 => (State.enumStart_inv (c.mono rfl) h2))))))
theorem State.enumAssign_inv (c : Clo 0x20001e0200000006000000000000000000000000000000000000008820000000000203e P) {v0} {v1} {v2} {v3} (k0 : P v0) : P (State.enumAssign v0 v1 v2 v3) := by
  unfold State.enumAssign
  exact (State.submit_inv (c.mono rfl) k0 (fun _ h1 => (State.checks_inv (c.mono rfl) h1 (fun _ h2 => (State.enumStart_inv (c.mono rfl) h2)))))
theorem execEnumAssign_inv (c : Clo 0x20001e0200000006000000000000000000000000000000000000008820000000000203e P) {v0} {v1} {v2} {v3} (k3 : P v3) : (OutP P) (execEnumAssign v0 v1 v2 v3) := by
  unfold execEnumAssign
  exact (mk_next (State.enumAssign_inv (c.mono rfl) k3))
theorem execEnumAssignResponse_inv (c : Clo 0x6000000000000000000000000000000000000008000000000000201c P) {v0} {v1} {v2} {v3} (k3 : P v3) : (OutP P) (execEnumAssignResponse v0 v1 v2 v3) := by
  unfold execEnumAssignResponse
  exact (mk_next (State.enumAnswer_inv (c.mono rfl) k3))
theorem State.lmbBlock_inv (c : Clo 0x20001e0200000006000000000000000000000000000000000000008820000000000203e P) {v0} {v1} {v2} (k0 : P v0) : P (State.lmbBlock v0 v1 v2) := by
  unfold State.lmbBlock
  extract_lets +onlyGivenNames -merge x1 x2
  clear_value x1 x2
  refine ite_p (fun _ => (State.pumpLmb_inv (c.mono rfl) (State.enumAssign_inv (c.mono rfl) k0))) (fun _ => ?_)
  refine ite_p (fun _ => ?_) (fun _ => (State.pumpLmb_inv (c.mono rfl) (c.updLink rfl _ _ k0)))
  extract_lets +onlyGivenNames -merge x3
  have h4 : P x3 := by unfold x3; exact (c.updLink rfl _ _ k0)
  clear_value x3
  exact (State.enumAnswer_inv (c.mono rfl) h4)
theorem State.lmbRecv_inv (c : Clo 0x20039f030440071e00104c00cc0c041300000000021c94020101c08c20000004000bffe P) {v0} {v1} {v2} (k0 : P v0) : P (State.lmbRecv v0 v1 v2) := by
  unfold State.lmbRecv
  extract_lets +onlyGivenNames -merge x1
  clear_value x1
  refine ite_p (fun _ => k0) (fun _ => ?_)
  split
  ·
    rename_i y2 y3 y4
    have q6 := congr_p (Q := (SndP P)) y4 (by
        exact (State.judgeSeq_inv (c.mono rfl) k0)
      )
    have h5 : P y3 := q6
    exact h5
  ·
    rename_i y7 y8 y9 y10
    have q12 := congr_p (Q := (SndP P)) y10 (by
        exact (State.judgeSeq_inv (c.mono rfl) k0)
      )
    have h11 : P y9 := q12
    exact (State.lmbBlock_inv (c.mono rfl) (State.countIn_inv (c.mono rfl) h11))
theorem State.frameFlit_inv (c : Clo 0x1fa8039f030440071e00104c38cdcc041300000000021c94020101c08c20000004000bffe P) {v0} {v1} {v2} (k0 : P v0) : P (State.frameFlit v0 v1 v2) := by
  unfold State.frameFlit
  extract_lets +onlyGivenNames -merge x1
  clear_value x1
  split
  ·
    rename_i y2 y3
    exact (State.dataRecv_inv (c.mono rfl) k0)
  ·
    rename_i y4 y5
    exact (State.nullRecv_inv (c.mono rfl) k0)
  ·
    rename_i y6 y7
    exact (State.initRecv_inv (c.mono rfl) k0)
  ·
    rename_i y8 y9
    exact (State.resyncRecv_inv (c.mono rfl) k0)
  ·
    rename_i y10 y11
    exact (State.nakRecv_inv (c.mono rfl) k0)
  ·
    rename_i y12 y13
    exact (State.pmRecv_inv (c.mono rfl) k0)
  ·
    rename_i y14 y15
    exact (State.lmbRecv_inv (c.mono rfl) k0)
  ·
    rename_i y16 y17
    exact (State.teqRecv_inv (c.mono rfl) k0)
  ·
    rename_i y18 y19 y20 y21 y22 y23 y24 y25 y26
    exact k0
theorem State.pmFrameEnd_inv (c : Clo 0x400040000000000000000000000000000000000000000002000 P) {v0} {v1} {v2} {v3} (k0 : P v0) : P (State.pmFrameEnd v0 v1 v2 v3) := by
  unfold State.pmFrameEnd
  split
  ·
    rename_i y1 y2
    exact (ite_p (fun _ => k0) (fun _ => (ite_p (fun _ => (State.enterRx_inv (c.mono rfl) k0)) (fun _ => (c.updLink rfl _ _ k0)))))
  ·
    rename_i y3
    exact k0
theorem State.frame_inv (c : Clo 0x1fa8039f030440071e00104f38cdcc041300000000021c94020101c08c20000004000bffe P) {v0} {v1} {v2} (k0 : P v0) : P (State.frame v0 v1 v2) := by
  unfold State.frame
  refine ite_p (fun _ => k0) (fun _ => ?_)
  refine ite_p (fun _ => (State.offExit_inv (c.mono rfl) k0)) (fun _ => ?_)
  extract_lets +onlyGivenNames -merge x1 x2 x3 x4
  have h5 : P x4 := by unfold x4; exact (State.frameSeen_inv (c.mono rfl) (State.resumeRx_inv (c.mono rfl) (State.sendFrame_inv (c.mono rfl) k0)))
  clear_value x1 x2 x3 x4
  refine ite_p (fun _ => h5) (fun _ => ?_)
  refine ite_p (fun _ => (State.rawTake_inv (c.mono rfl) h5)) (fun _ => ?_)
  extract_lets +onlyGivenNames -merge x6
  have h7 : P x6 := by unfold x6; exact (State.each_inv (c.mono rfl) h5 (fun _ _ h8 => (State.frameFlit_inv (c.mono rfl) h8)))
  clear_value x6
  exact (State.pmFrameEnd_inv (c.mono rfl) h7)
theorem execLmb_inv (c : Clo 0x20039f030440071e00104c00cc0c041300000000021c94020101c08c20000004000bffe P) {v0} {v1} {v2} (k2 : P v2) : (OutP P) (execLmb v0 v1 v2) := by
  unfold execLmb
  exact (mk_next (ite_p (fun _ => (State.lmbRecv_inv (c.mono rfl) k2)) (fun _ => k2)))
theorem execFrame_inv (c : Clo 0x1fa8039f030440071e00104f38cdcc041300000000021c94020101c08c20000004000bffe P) {v0} {v1} {v2} (k2 : P v2) : (OutP P) (execFrame v0 v1 v2) := by
  unfold execFrame
  exact (mk_next (State.frame_inv (c.mono rfl) k2))

/-! ### Power -/

theorem State.parkShed_inv (c : Clo 0x100000000000000000000000040 P) {v0} {v1} (k0 : P v0) : P (State.parkShed v0 v1) := by
  unfold State.parkShed
  exact (ite_p (fun _ => k0) (fun _ => (c.updRoom rfl _ _ (c.setF rfl k0))))
theorem State.unparkShed_inv (c : Clo 0x100000000000000000000000040 P) {v0} {v1} {v2} (k0 : P v0) : P (State.unparkShed v0 v1 v2) := by
  unfold State.unparkShed
  exact (ite_p (fun _ => k0) (fun _ => (c.updRoom rfl _ _ (c.setF rfl k0))))
theorem State.sayPm_inv (c : Clo 0x2000 P) {v0} {v1} (k0 : P v0) : P (State.sayPm v0 v1) := by
  unfold State.sayPm
  exact (ite_p (fun _ => (State.sendPm_inv (c.mono rfl) k0)) (fun _ => k0))
theorem State.shedEnter_inv (c : Clo 0x788039f030441071000004800c40c041300000000021c94021321008400000004000bffe P) {v0} {v1} (k0 : P v0) : P (State.shedEnter v0 v1) := by
  unfold State.shedEnter
  split
  ·
    rename_i y1
    extract_lets +onlyGivenNames -merge x2 x4
    have h3 : P x2 := by unfold x2; exact (State.mowRefresh_inv (c.mono rfl) (c.setF rfl k0))
    have h5 : P x4 := by unfold x4; exact (State.each_inv (c.mono rfl) h3 (fun _ _ h6 => (State.abandonMarch_inv (c.mono rfl) h6)))
    clear_value x2 x4
    exact (ite_p (fun _ => (State.updRp_inv (c.mono rfl) h5)) (fun _ => h5))
  ·
    rename_i y7
    extract_lets +onlyGivenNames -merge x8
    have h9 : P x8 := by unfold x8; exact (c.setF rfl k0)
    clear_value x8
    exact (State.each_inv (c.mono rfl) h9 (fun _ _ h10 => (ite_p (fun _ => (c.setF rfl h10)) (fun _ => h10))))
  ·
    rename_i y11
    exact (State.each_inv (c.mono rfl) k0 (fun _ _ h12 => (State.parkShed_inv (c.mono rfl) h12)))
  ·
    rename_i y13
    refine State.each_inv (c.mono rfl) k0 ?_
    intro a17 a18 h16
    extract_lets +onlyGivenNames -merge x19
    have h20 : P x19 := by unfold x19; exact (State.forceTxs_inv (c.mono rfl) h16)
    clear_value x19
    exact (State.sayPm_inv (c.mono rfl) h20)
  ·
    rename_i y21
    extract_lets +onlyGivenNames -merge x22
    have h23 : P x22 := by unfold x22; exact (State.each_inv (c.mono rfl) k0 (fun _ _ h24 => (State.shedPort_inv (c.mono rfl) h24)))
    clear_value x22
    exact (State.each_inv (c.mono rfl) h23 (fun _ _ h25 => (ite_p (fun _ => (State.retainQueue_inv (c.mono rfl) (State.retain_inv (c.mono rfl) (ite_p (fun _ => (State.cutSlice_inv (c.mono rfl) h25)) (fun _ => h25))))) (fun _ => h25))))
  ·
    rename_i y26
    exact (State.enterSafe_inv (c.mono rfl) k0)
  ·
    rename_i y27 y28 y29 y30 y31 y32 y33
    exact k0
theorem State.shedLeave_inv (c : Clo 0x1e020000001600004800c40c002100000000020010000100000000000000000317a P) {v0} {v1} (k0 : P v0) : P (State.shedLeave v0 v1) := by
  unfold State.shedLeave
  extract_lets +onlyGivenNames -merge x1
  clear_value x1
  split
  ·
    rename_i y2
    extract_lets +onlyGivenNames -merge x3
    have h4 : P x3 := by unfold x3; exact (State.mowRefresh_inv (c.mono rfl) (c.setF rfl k0))
    clear_value x3
    refine ite_p (fun _ => ?_) (fun _ => h4)
    extract_lets +onlyGivenNames -merge x5
    have h6 : P x5 := by unfold x5; exact (State.updRp_inv (c.mono rfl) h4)
    clear_value x5
    exact (ite_p (fun _ => (State.pushGap_inv (c.mono rfl) (State.stampNow_inv (c.mono rfl) h6))) (fun _ => h6))
  ·
    rename_i y7
    extract_lets +onlyGivenNames -merge x8
    have h9 : P x8 := by unfold x8; exact (c.setF rfl k0)
    clear_value x8
    exact (ite_p (fun _ => (State.each_inv (c.mono rfl) h9 (fun _ _ h10 => (ite_p (fun _ => (State.engIdle_inv (c.mono rfl) h10)) (fun _ => h10))))) (fun _ => h9))
  ·
    rename_i y11
    exact (State.each_inv (c.mono rfl) k0 (fun _ _ h12 => (State.unparkShed_inv (c.mono rfl) h12)))
  ·
    rename_i y13
    exact (ite_p (fun _ => (State.each_inv (c.mono rfl) k0 (fun _ _ h14 => (State.sayPm_inv (c.mono rfl) (ite_p (fun _ => h14) (fun _ => (State.unforceTxs_inv (c.mono rfl) h14))))))) (fun _ => k0))
  ·
    rename_i y15
    extract_lets +onlyGivenNames -merge x16
    have h17 : P x16 := by unfold x16; exact (State.each_inv (c.mono rfl) k0 (fun _ _ h18 => (c.updLink rfl _ _ h18)))
    clear_value x16
    refine ite_p (fun _ => ?_) (fun _ => h17)
    extract_lets +onlyGivenNames -merge x19
    have h20 : P x19 := by unfold x19; exact (State.each_inv (c.mono rfl) h17 (fun _ _ h21 => (State.leaveL1_inv (c.mono rfl) h21)))
    clear_value x19
    exact (ite_p (fun _ => h20) (fun _ => (State.each_inv (c.mono rfl) h20 (fun _ _ h22 => (ite_p (fun _ => (State.askWake_inv (c.mono rfl) h22)) (fun _ => h22))))))
  ·
    rename_i y23 y24 y25 y26 y27 y28
    exact k0
theorem State.reShed_inv (c : Clo 0x788039f030441071000004800c40c041300000000021c94021321008400000004000bffe P) {v0} (k0 : P v0) : P (State.reShed v0) := by
  unfold State.reShed
  exact (State.each_inv (c.mono rfl) k0 (fun _ _ h1 => (State.shedEnter_inv (c.mono rfl) h1)))
theorem State.setPgood_inv (c : Clo 0x800000000000 P) {v0} {v1} {v2} (k0 : P v0) : P (State.setPgood v0 v1 v2) := by
  unfold State.setPgood
  exact (c.setF rfl k0)
theorem State.shedTo_inv (c : Clo 0x788039f030441071000004800c40c041300000000021c94021321008400480004000bffe P) {v0} {v1} {v2} (k0 : P v0) : P (State.shedTo v0 v1 v2) := by
  unfold State.shedTo
  extract_lets +onlyGivenNames -merge x1
  clear_value x1
  refine ite_p (fun _ => k0) (fun _ => ?_)
  extract_lets +onlyGivenNames -merge x2
  have h3 : P x2 := by unfold x2; exact (ite_p (fun _ => (State.setPgood_inv (c.mono rfl) k0)) (fun _ => k0))
  clear_value x2
  refine ite_p (fun _ => h3) (fun _ => ?_)
  extract_lets +onlyGivenNames -merge x4 x6
  have h5 : P x4 := by unfold x4; exact (c.setF rfl h3)
  have h7 : P x6 := by unfold x6; exact (c.setF rfl (c.inc rfl h5))
  clear_value x4 x6
  exact (State.each_inv (c.mono rfl) h7 (fun _ _ h8 => (State.shedEnter_inv (c.mono rfl) h8)))
theorem execSheddingStepEntry_inv (c : Clo 0x788039f030441071000004800c40c041300000000021c94021321008400480004000bffe P) {v0} {v1} {v2} (k2 : P v2) : (OutP P) (execSheddingStepEntry v0 v1 v2) := by
  unfold execSheddingStepEntry
  exact (mk_next (State.shedTo_inv (c.mono rfl) k2))
theorem State.shedExit_inv (c : Clo 0x1e020000001600004800c40c002100000000020010000100000000480000000317a P) {v0} {v1} (k0 : P v0) : P (State.shedExit v0 v1) := by
  unfold State.shedExit
  refine ite_p (fun _ => k0) (fun _ => ?_)
  extract_lets +onlyGivenNames -merge x1
  have h2 : P x1 := by unfold x1; exact (ite_p (fun _ => (foldl_p (fun _ _ h3 => (State.setPgood_inv (c.mono rfl) h3)) k0)) (fun _ => k0))
  clear_value x1
  exact (ite_p (fun _ => h2) (fun _ => (State.shedLeave_inv (c.mono rfl) (c.setF rfl h2))))
theorem execSheddingStepExit_inv (c : Clo 0x1e020000001600004800c40c002100000000020010000100000000480000000317a P) {v0} {v1} (k1 : P v1) : (OutP P) (execSheddingStepExit v0 v1) := by
  unfold execSheddingStepExit
  exact (mk_next (State.shedExit_inv (c.mono rfl) k1))
theorem execRailStateLost_inv (c : Clo 0x800000000000 P) {v0} {v1} (k1 : P v1) : (OutP P) (execRailStateLost v0 v1) := by
  unfold execRailStateLost
  exact (mk_next (ite_p (fun _ => k1) (fun _ => (ite_p (fun _ => (State.setPgood_inv (c.mono rfl) (c.setF rfl k1))) (fun _ => (ite_p (fun _ => (State.setPgood_inv (c.mono rfl) (c.setF rfl k1))) (fun _ => (ite_p (fun _ => (State.setPgood_inv (c.mono rfl) (c.setF rfl k1))) (fun _ => k1)))))))))
theorem State.throttleMsg_inv (c : Clo 0x8 P) {v0} {v1} (k0 : P v0) : P (State.throttleMsg v0 v1) := by
  unfold State.throttleMsg
  exact (ite_p (fun _ => (State.updMail_inv (c.mono rfl) k0)) (fun _ => k0))
theorem State.abandonReset_inv (c : Clo 0xa018 P) {v0} (k0 : P v0) : P (State.abandonReset v0) := by
  unfold State.abandonReset
  extract_lets +onlyGivenNames -merge x1 x2 x3
  have h4 : P x3 := by unfold x3; exact (State.updBoot_inv (c.mono rfl) k0)
  clear_value x1 x2 x3
  exact (State.respondTo_inv (c.mono rfl) (State.respondTo_inv (c.mono rfl) h4))
theorem State.thermalShutdown_inv (c : Clo 0x39f0304400710000040004004041300000000021c94020101008401000064000bffe P) {v0} {v1} {v2} (k0 : P v0) : P (State.thermalShutdown v0 v1 v2) := by
  unfold State.thermalShutdown
  refine ite_p (fun _ => k0) (fun _ => ?_)
  extract_lets +onlyGivenNames -merge x1 x3 x5 x7
  have h2 : P x1 := by unfold x1; exact (State.enterSafe_inv (c.mono rfl) (State.abandonReset_inv (c.mono rfl) k0))
  have h4 : P x3 := by unfold x3; exact (ite_p (fun _ => h2) (fun _ => (State.setHearth_inv (c.mono rfl) h2)))
  have h6 : P x5 := by unfold x5; exact (c.setF rfl (c.setF rfl h4))
  have h8 : P x7 := by unfold x7; exact (c.setF rfl (c.setF rfl h6))
  clear_value x1 x3 x5 x7
  exact (State.updBoot_inv (c.mono rfl) h8)
theorem State.convertTemp_inv (c : Clo 0x39f0304400710000040004004041300000000021c94020101008401000074000bffe P) {v0} {v1} {v2} (k0 : P v0) : P (State.convertTemp v0 v1 v2) := by
  unfold State.convertTemp
  extract_lets +onlyGivenNames -merge x1 x2 x3 x4 x6
  have h5 : P x4 := by unfold x4; exact (c.setF rfl (c.setF rfl k0))
  have h7 : P x6 := by unfold x6; exact (c.setF rfl h5)
  clear_value x1 x2 x3 x4 x6
  refine ite_p (fun _ => ?_) (fun _ => (ite_p (fun _ => (ite_p (fun _ => (State.thermalShutdown_inv (c.mono rfl) h7)) (fun _ => h7))) (fun _ => (ite_p (fun _ => (State.thermalShutdown_inv (c.mono rfl) h7)) (fun _ => h7)))))
  refine ite_p (fun _ => ?_) (fun _ => h7)
  extract_lets +onlyGivenNames -merge x8 x10
  have h9 : P x8 := by unfold x8; exact (c.setF rfl h7)
  have h11 : P x10 := by unfold x10; exact (ite_p (fun _ => h9) (fun _ => (State.event_inv (c.mono rfl) h9)))
  clear_value x8 x10
  exact (ite_p (fun _ => (State.enterSafe_inv (c.mono rfl) h11)) (fun _ => h11))
theorem State.adc_inv (c : Clo 0x39f0304400710000040004004041300000000021c94020101008401000074000bffe P) {v0} {v1} (k0 : P v0) : P (State.adc v0 v1) := by
  unfold State.adc
  refine ite_p (fun _ => k0) (fun _ => ?_)
  extract_lets +onlyGivenNames -merge x1 x2
  have h3 : P x2 := by unfold x2; exact (State.updPow_inv (c.mono rfl) k0)
  clear_value x1 x2
  exact (ite_p (fun _ => (c.setF rfl (c.setF rfl (c.setF rfl h3)))) (fun _ => (ite_p (fun _ => (c.setF rfl h3)) (fun _ => (ite_p (fun _ => (State.convertTemp_inv (c.mono rfl) h3)) (fun _ => (State.convertTemp_inv (c.mono rfl) h3)))))))
theorem execAdcConversion_inv (c : Clo 0x39f0304400710000040004004041300000000021c94020101008401000074000bffe P) {v0} {v1} (k1 : P v1) : (OutP P) (execAdcConversion v0 v1) := by
  unfold execAdcConversion
  exact (mk_next (State.adc_inv (c.mono rfl) k1))
theorem State.setThermLevel_inv (c : Clo 0x1000000010000200000000000010000000000000 P) {v0} {v1} (k0 : P v0) : P (State.setThermLevel v0 v1) := by
  unfold State.setThermLevel
  refine ite_p (fun _ => k0) (fun _ => ?_)
  extract_lets +onlyGivenNames -merge x1 x3 x6
  have h2 : P x1 := by unfold x1; exact (c.setF rfl k0)
  have h4 : P x3 := by unfold x3; exact (State.each_inv (c.mono rfl) h2 (fun _ _ h5 => (c.setF rfl h5)))
  have h7 : P x6 := by unfold x6; exact (c.setF rfl h4)
  clear_value x1 x3 x6
  exact (State.each_inv (c.mono rfl) h7 (fun _ _ h8 => (ite_p (fun _ => (c.setF rfl h8)) (fun _ => h8))))
theorem State.setThermReq_inv (c : Clo 0x4010000000008008 P) {v0} {v1} (k0 : P v0) : P (State.setThermReq v0 v1) := by
  unfold State.setThermReq
  refine ite_p (fun _ => k0) (fun _ => ?_)
  extract_lets +onlyGivenNames -merge x1 x3 x5
  have h2 : P x1 := by unfold x1; exact (c.setF rfl k0)
  have h4 : P x3 := by unfold x3; exact (State.updBoot_inv (c.mono rfl) h2)
  have h6 : P x5 := by unfold x5; exact (State.event_inv (c.mono rfl) h4)
  clear_value x1 x3 x5
  exact (State.throttleMsg_inv (c.mono rfl) h6)
theorem State.recordTherm_inv (c : Clo 0x1e02000000000000000000000000000000000000000000000000000000000000022 P) {v0} {v1} (k0 : P v0) : P (State.recordTherm v0 v1) := by
  unfold State.recordTherm
  exact (ite_p (fun _ => k0) (fun _ => (State.recordSrc_inv (c.mono rfl) k0)))
theorem State.throttle_inv (c : Clo 0x1000000010000200000000004010000000008008 P) {v0} (k0 : P v0) : P (State.throttle v0) := by
  unfold State.throttle
  extract_lets +onlyGivenNames -merge x1 x2 x3 x4 x5 x6
  clear_value x1 x2 x3 x4 x5 x6
  refine ite_p (fun _ => (ite_p (fun _ => (State.setThermReq_inv (c.mono rfl) (State.updPow_inv (c.mono rfl) k0))) (fun _ => k0))) (fun _ => ?_)
  refine ite_p (fun _ => (ite_p (fun _ => (State.setThermReq_inv (c.mono rfl) k0)) (fun _ => (ite_p (fun _ => (State.setThermLevel_inv (c.mono rfl) (State.updPow_inv (c.mono rfl) k0))) (fun _ => k0))))) (fun _ => ?_)
  extract_lets +onlyGivenNames -merge x7
  have h8 : P x7 := by unfold x7; exact (State.updPow_inv (c.mono rfl) k0)
  clear_value x7
  refine ite_p (fun _ => (State.setThermLevel_inv (c.mono rfl) (State.updPow_inv (c.mono rfl) h8))) (fun _ => ?_)
  refine ite_p (fun _ => ?_) (fun _ => h8)
  extract_lets +onlyGivenNames -merge x9
  have h10 : P x9 := by unfold x9; exact (State.setThermLevel_inv (c.mono rfl) (State.updPow_inv (c.mono rfl) h8))
  clear_value x9
  exact (ite_p (fun _ => (State.setThermReq_inv (c.mono rfl) (State.updPow_inv (c.mono rfl) h10))) (fun _ => h10))
theorem State.findTj_inv (c : Clo 0x20000000000000 P) {v0} (k0 : P v0) : P (State.findTj v0) := by
  unfold State.findTj
  extract_lets +onlyGivenNames -merge x1
  clear_value x1
  split
  ·
    rename_i y2
    exact k0
  ·
    rename_i y3 y4 y5
    extract_lets +onlyGivenNames -merge x6 x7
    clear_value x6 x7
    exact (c.setF rfl (c.setF rfl k0))
theorem State.rcTrim_inv (c : Clo 0x2000008002 P) {v0} (k0 : P v0) : P (State.rcTrim v0) := by
  unfold State.rcTrim
  extract_lets +onlyGivenNames -merge x1
  clear_value x1
  refine ite_p (fun _ => k0) (fun _ => ?_)
  extract_lets +onlyGivenNames -merge x2 x3 x4 x5 x6
  have h7 : P x6 := by unfold x6; exact (c.drawn rfl  (c.setF rfl (c.setF rfl k0)))
  clear_value x2 x3 x4 x5 x6
  exact (State.updClk_inv (c.mono rfl) h7)
theorem State.addLife_inv (c : Clo 0x100000000008000 P) {v0} (k0 : P v0) : P (State.addLife v0) := by
  unfold State.addLife
  extract_lets +onlyGivenNames -merge x1 x2 x3
  have h4 : P x3 := by unfold x3; exact (State.updPow_inv (c.mono rfl) k0)
  clear_value x1 x2 x3
  exact (ite_p (fun _ => (c.inc rfl h4)) (fun _ => h4))
theorem State.slowRound_inv (c : Clo 0x1e0200000000000000000000000100000001000020000000000413000208000802a P) {v0} (k0 : P v0) : P (State.slowRound v0) := by
  unfold State.slowRound
  refine ite_p (fun _ => k0) (fun _ => ?_)
  extract_lets +onlyGivenNames -merge x1 x2 x4 x6
  have h3 : P x2 := by unfold x2; exact (State.updPow_inv (c.mono rfl) k0)
  have h5 : P x4 := by unfold x4; exact (State.rcTrim_inv (c.mono rfl) (State.findTj_inv (c.mono rfl) (c.incW rfl h3)))
  have h7 : P x6 := by unfold x6; exact (ite_p (fun _ => h5) (fun _ => (State.recordTherm_inv (c.mono rfl) (State.throttle_inv (c.mono rfl) h5))))
  clear_value x1 x2 x4 x6
  exact (State.addLife_inv (c.mono rfl) h7)
theorem execSlowRoundEnd_inv (c : Clo 0x1e0200000000000000000000000100000001000020000000000413000208000802a P) {v0} (k0 : P v0) : (OutP P) (execSlowRoundEnd v0) := by
  unfold execSlowRoundEnd
  exact (mk_next (State.slowRound_inv (c.mono rfl) k0))
theorem State.ageing_inv (c : Clo 0x4080000000008008 P) {v0} {v1} (k0 : P v0) : P (State.ageing v0 v1) := by
  unfold State.ageing
  refine ite_p (fun _ => k0) (fun _ => ?_)
  extract_lets +onlyGivenNames -merge x1 x2 x3 x4 x5 x6 x8 x10 x12 x14 x19
  have h7 : P x6 := by unfold x6; exact (State.updPow_inv (c.mono rfl) k0)
  have h9 : P x8 := by unfold x8; exact (c.setF rfl (c.setF rfl h7))
  have h11 : P x10 := by unfold x10; exact (c.setF rfl h9)
  have h13 : P x12 := by unfold x12; exact (c.setF rfl h11)
  have h15 : ∀ a0 a1, P a0 → P (x14 a0 a1) := by
    intro a17 a18 h16
    unfold x14
    beta_reduce
    exact (State.event_inv (c.mono rfl) h16)
  have h20 : P x19 := by unfold x19; exact (ite_p (fun _ => (h15 _ _ h13)) (fun _ => h13))
  clear_value x1 x2 x3 x4 x5 x6 x8 x10 x12 x14 x19
  exact (ite_p (fun _ => (h15 _ _ h20)) (fun _ => h20))
theorem execAgeingMeasurement_inv (c : Clo 0x4080000000008008 P) {v0} {v1} (k1 : P v1) : (OutP P) (execAgeingMeasurement v0 v1) := by
  unfold execAgeingMeasurement
  exact (mk_next (State.ageing_inv (c.mono rfl) k1))
theorem execLifeRecord_inv (c : Clo 0x50000 P) {v0} (k0 : P v0) : (OutP P) (execLifeRecord v0) := by
  unfold execLifeRecord
  exact (mk_next (ite_p (fun _ => k0) (fun _ => (State.journalBatch_inv (c.mono rfl) k0))))
theorem execPowerStatus_inv (c : Clo 0x1e0200000000000000000000000000000000000000000000000820000000000203a P) {v0} {v1} (k1 : P v1) : (OutP P) (execPowerStatus v0 v1) := by
  unfold execPowerStatus
  exact (mk_next (State.submit_inv (c.mono rfl) k1 (fun _ h1 => (State.replyData_inv (c.mono rfl) h1))))
theorem execThermalStatus_inv (c : Clo 0x1e0200000000000000000000000000000000000000000000000820000000000203a P) {v0} {v1} {v2} (k2 : P v2) : (OutP P) (execThermalStatus v0 v1 v2) := by
  unfold execThermalStatus
  exact (mk_next (State.submit_inv (c.mono rfl) k2 (fun _ h1 => (State.checks_inv (c.mono rfl) h1 (fun _ h2 => (State.replyData_inv (c.mono rfl) h2))))))
theorem execAgeReport_inv (c : Clo 0x1e0200000000000000000000000000000000000000000000000820000000000203a P) {v0} {v1} (k1 : P v1) : (OutP P) (execAgeReport v0 v1) := by
  unfold execAgeReport
  exact (mk_next (State.submit_inv (c.mono rfl) k1 (fun _ h1 => (State.replyData_inv (c.mono rfl) h1))))
theorem execThermTest_inv (c : Clo 0x1e0200000000000000000000000000000000000000000000000820000000000a03a P) {v0} {v1} {v2} {v3} (k3 : P v3) : (OutP P) (execThermTest v0 v1 v2 v3) := by
  unfold execThermTest
  refine mk_next ?_
  refine State.submit_inv (c.mono rfl) k3 ?_
  intro a6 h5
  extract_lets +onlyGivenNames -merge x7
  clear_value x7
  exact (State.checks_inv (c.mono rfl) h5 (fun _ h8 => (State.reply_inv (c.mono rfl) (State.updPow_inv (c.mono rfl) h8))))
theorem execThermTestEnd_inv (c : Clo 0x8000 P) {v0} (k0 : P v0) : (OutP P) (execThermTestEnd v0) := by
  unfold execThermTestEnd
  exact (mk_next (State.updPow_inv (c.mono rfl) k0))

/-! ### Reset -/

theorem State.showRecord_inv (c : Clo 0xf00000000000000000000000000000000000000000000000000000000000000 P) {v0} (k0 : P v0) : P (State.showRecord v0) := by
  unfold State.showRecord
  extract_lets +onlyGivenNames -merge x1 x2
  have h3 : P x2 := by unfold x2; exact (c.wr rfl (c.wr rfl (c.wr rfl k0)))
  clear_value x1 x2
  exact (c.setF rfl h3)
theorem State.recordTest_inv (c : Clo 0xf04000000000000000000000000000000000000000000000000000000008000 P) {v0} {v1} {v2} {v3} (k0 : P v0) : P (State.recordTest v0 v1 v2 v3) := by
  unfold State.recordTest
  refine ite_p (fun _ => (c.setF rfl k0)) (fun _ => ?_)
  extract_lets +onlyGivenNames -merge x1
  clear_value x1
  exact (State.showRecord_inv (c.mono rfl) (State.updBoot_inv (c.mono rfl) k0))
theorem State.popRecords_inv (c : Clo 0xf00000000000000000000000000000000000000000000000000000000008000 P) {v0} {v1} (k0 : P v0) : P (State.popRecords v0 v1) := by
  unfold State.popRecords
  exact (State.showRecord_inv (c.mono rfl) (State.updBoot_inv (c.mono rfl) k0))
theorem State.setSpare_inv (c : Clo 0x100 P) {v0} {v1} {v2} {v3} {v4} (k0 : P v0) : P (State.setSpare v0 v1 v2 v3 v4) := by
  unfold State.setSpare
  exact (c.updBank rfl _ _ k0)
theorem State.assignSpare_inv (c : Clo 0x50100 P) {v0} {v1} {v2} {v3} (k0 : P v0) : P (State.assignSpare v0 v1 v2 v3) := by
  unfold State.assignSpare
  exact (State.journalBatch_inv (c.mono rfl) (State.setSpare_inv (c.mono rfl) k0))
theorem State.updFuses_inv (c : Clo 0x20000 P) {v0} {v1} (k0 : P v0) : P (State.updFuses v0 v1) := by
  unfold State.updFuses
  exact (c.fuses rfl _ k0)
theorem State.testFailure_inv (c : Clo 0xf04000000000000000000000000000000000120600000000000000000058180 P) {v0} {v1} {v2} {v3} (k0 : P v0) : P (State.testFailure v0 v1 v2 v3) := by
  unfold State.testFailure
  extract_lets +onlyGivenNames -merge x1
  have h2 : ∀ a0, P a0 → P (x1 a0) := by
    intro a4 h3
    unfold x1
    beta_reduce
    exact (State.updBoot_inv (c.mono rfl) (State.recordTest_inv (c.mono rfl) h3))
  clear_value x1
  refine ite_p (fun _ => (h2 _ k0)) (fun _ => ?_)
  refine ite_p (fun _ => ?_) (fun _ => ?_)
  ·
    split
    ·
      rename_i y5 y6 y7
      exact (State.recordTest_inv (c.mono rfl) (State.assignSpare_inv (c.mono rfl) k0))
    ·
      rename_i y8 y9
      exact (h2 _ k0)
  ·
    refine ite_p (fun _ => ?_) (fun _ => (h2 _ k0))
    extract_lets +onlyGivenNames -merge x10 x11 x12 x13
    clear_value x10 x11 x12 x13
    exact (ite_p (fun _ => (State.recordTest_inv (c.mono rfl) (State.journalBatch_inv (c.mono rfl) (State.remap_inv (c.mono rfl) k0)))) (fun _ => (ite_p (fun _ => (State.recordTest_inv (c.mono rfl) (State.journalBatch_inv (c.mono rfl) (State.narrow_inv (c.mono rfl) k0)))) (fun _ => (ite_p (fun _ => (h2 _ k0)) (fun _ => (State.recordTest_inv (c.mono rfl) k0)))))))
theorem State.showFallow_inv (c : Clo 0x10000000000003002021000000000000000000c0 P) {v0} {v1} (k0 : P v0) : P (State.showFallow v0 v1) := by
  unfold State.showFallow
  split
  ·
    rename_i y1 y2
    extract_lets +onlyGivenNames -merge x3
    have h4 : P x3 := by unfold x3; exact (c.setF rfl k0)
    clear_value x3
    exact (c.setF rfl (c.setF rfl h4))
  ·
    rename_i y5 y6
    exact (State.setDivisor_inv (c.mono rfl) (State.trackOff_inv (c.mono rfl) (c.setF rfl k0)))
  ·
    rename_i y7 y8
    exact (c.setF rfl k0)
  ·
    rename_i y9 y10
    exact (c.setF rfl k0)
  ·
    rename_i y11 y12 y13 y14 y15
    exact k0
theorem State.markFallow_inv (c : Clo 0x10000000000003002021000000000000400580c8 P) {v0} (k0 : P v0) : P (State.markFallow v0) := by
  unfold State.markFallow
  extract_lets +onlyGivenNames -merge x1 x2 x3 x4 x6 x8 x11 x12 x13
  have h5 : P x4 := by unfold x4; exact (State.updBoot_inv (c.mono rfl) k0)
  have h7 : P x6 := by unfold x6; exact (ite_p (fun _ => h5) (fun _ => (State.journalBatch_inv (c.mono rfl) h5)))
  have h9 : P x8 := by unfold x8; exact (State.each_inv (c.mono rfl) h7 (fun _ _ h10 => (State.showFallow_inv (c.mono rfl) h10)))
  have h14 : P x13 := by unfold x13; exact (c.setF rfl (State.updBoot_inv (c.mono rfl) h9))
  clear_value x1 x2 x3 x4 x6 x8 x11 x12 x13
  exact (ite_p (fun _ => h14) (fun _ => (State.sidesStart_inv (c.mono rfl) h14)))
theorem State.fuseLoad_inv (c : Clo 0x340000008000000000000000000000000000000000000000000000000000070008100 P) {v0} {v1} (k0 : P v0) : P (State.fuseLoad v0 v1) := by
  unfold State.fuseLoad
  extract_lets +onlyGivenNames -merge x1 x2 x4 x6 x8 x10 x12 x15 x17
  have h3 : P x2 := by unfold x2; exact (c.setF rfl (c.setF rfl k0))
  have h5 : P x4 := by unfold x4; exact (c.setF rfl (c.setF rfl h3))
  have h7 : P x6 := by unfold x6; exact (c.setF rfl (c.setF rfl h5))
  have h9 : P x8 := by unfold x8; exact (c.setF rfl h7)
  have h11 : P x10 := by unfold x10; exact (c.setF rfl h9)
  have h13 : P x12 := by unfold x12; exact (State.each_inv (c.mono rfl) h11 (fun _ _ h14 => (State.setSpare_inv (c.mono rfl) h14)))
  have h16 : P x15 := by unfold x15; exact (c.setF rfl (c.setF rfl h13))
  have h18 : P x17 := by unfold x17; exact (State.updBoot_inv (c.mono rfl) h16)
  clear_value x1 x2 x4 x6 x8 x10 x12 x15 x17
  exact (c.setF rfl h18)
theorem State.endByReset_inv (c : Clo 0x1f020000071000000000000000000000000000000000000000000000000000007b2 P) {v0} (k0 : P v0) : P (State.endByReset v0) := by
  unfold State.endByReset
  exact (ite_p (fun _ => (State.endRecording_inv (c.mono rfl) k0)) (fun _ => k0))
theorem State.restart_inv (c : Clo 0x341f020080071000000000000000000000000000000000000000000000000700887b2 P) {v0} {v1} (k0 : P v0) : P (State.restart v0 v1) := by
  unfold State.restart
  extract_lets +onlyGivenNames -merge x1
  have h2 : P x1 := by unfold x1; exact (c.stackReset rfl  (State.endByReset_inv (c.mono rfl) k0))
  clear_value x1
  exact (ite_p (fun _ => h2) (fun _ => (State.fuseLoad_inv (c.mono rfl) (c.drawn rfl  (State.updBoot_inv (c.mono rfl) h2)))))
theorem State.setStep_inv (c : Clo 0x40008000 P) {v0} {v1} (k0 : P v0) : P (State.setStep v0 v1) := by
  unfold State.setStep
  exact (c.setF rfl (State.updBoot_inv (c.mono rfl) k0))
theorem State.beginTests_inv (c : Clo 0x4000000000000000000000000000000000120600000000100000000058180 P) {v0} (k0 : P v0) : P (State.beginTests v0) := by
  unfold State.beginTests
  extract_lets +onlyGivenNames -merge x1 x3 x4 x7 x10 x13 x16
  have h2 : P x1 := by unfold x1; exact (State.readJournal_inv (c.mono rfl) k0)
  have h5 : P x4 := by unfold x4; exact (State.each_inv (c.mono rfl) h2 (fun _ _ h6 => (ite_p (fun _ => h6) (fun _ => (State.remap_inv (c.mono rfl) h6)))))
  have h8 : P x7 := by unfold x7; exact (State.each_inv (c.mono rfl) h5 (fun _ _ h9 => (State.narrow_inv (c.mono rfl) h9)))
  have h11 : P x10 := by unfold x10; exact (State.each_inv (c.mono rfl) h8 (fun _ _ h12 => (State.setSpare_inv (c.mono rfl) h12)))
  have h14 : P x13 := by unfold x13; exact (State.each_inv (c.mono rfl) h11 (fun _ _ h15 => (c.setF rfl h15)))
  have h17 : P x16 := by unfold x16; exact (State.updBoot_inv (c.mono rfl) h14)
  clear_value x1 x3 x4 x7 x10 x13 x16
  exact (c.setF rfl h17)
theorem State.startClocks_inv (c : Clo 0x4000000000000000000000000000000000120600000000100000240058180 P) {v0} (k0 : P v0) : P (State.startClocks v0) := by
  unfold State.startClocks
  extract_lets +onlyGivenNames -merge x1 x3
  have h2 : P x1 := by unfold x1; exact (State.setStep_inv (c.mono rfl) k0)
  have h4 : P x3 := by unfold x3; exact (ite_p (fun _ => (ite_p (fun _ => (State.setHearth_inv (c.mono rfl) h2)) (fun _ => h2))) (fun _ => k0))
  clear_value x1 x3
  exact (ite_p (fun _ => (State.beginTests_inv (c.mono rfl) (State.setStep_inv (c.mono rfl) (State.updBoot_inv (c.mono rfl) h4)))) (fun _ => h4))
theorem State.bootVerify_inv (c : Clo 0xc00000004000000000000000000000000000000000120600000000300000240058580 P) {v0} (k0 : P v0) : P (State.bootVerify v0) := by
  unfold State.bootVerify
  refine ite_p (fun _ => k0) (fun _ => ?_)
  extract_lets +onlyGivenNames -merge x1 x3 x4
  have h2 : P x1 := by unfold x1; exact (c.wipe rfl _ _ k0)
  have h5 : P x4 := by unfold x4; exact (State.updBoot_inv (c.mono rfl) h2)
  clear_value x1 x3 x4
  refine ite_p (fun _ => h5) (fun _ => ?_)
  split
  ·
    rename_i y6 y7
    exact (State.updBoot_inv (c.mono rfl) h5)
  ·
    rename_i y8 y9 y10
    extract_lets +onlyGivenNames -merge x11 x12 x14 x16 x18 x20
    have h13 : P x12 := by unfold x12; exact (State.updSec_inv (c.mono rfl) h5)
    have h15 : P x14 := by unfold x14; exact (c.setF rfl h13)
    have h17 : P x16 := by unfold x16; exact (c.setF rfl (c.setF rfl h15))
    have h19 : P x18 := by unfold x18; exact (c.setF rfl h17)
    have h21 : P x20 := by unfold x20; exact (State.updBoot_inv (c.mono rfl) (c.setF rfl h19))
    clear_value x11 x12 x14 x16 x18 x20
    exact (State.startClocks_inv (c.mono rfl) (State.setStep_inv (c.mono rfl) h21))
theorem execPowerOnReset_inv (c : Clo 0x80000 P) {v0} (k0 : P v0) : (OutP P) (execPowerOnReset v0) := by
  unfold execPowerOnReset
  exact (mk_next (c.powerOn rfl  k0))
theorem execPowerOnResetRelease_inv (c : Clo 0x340000008000000000000000000000000000000000000000000000000802070008100 P) {v0} {v1} (k1 : P v1) : (OutP P) (execPowerOnResetRelease v0 v1) := by
  unfold execPowerOnResetRelease
  refine mk_next ?_
  refine ite_p (fun _ => k1) (fun _ => ?_)
  extract_lets +onlyGivenNames -merge x1 x3
  have h2 : P x1 := by unfold x1; exact (State.updBoot_inv (c.mono rfl) k1)
  have h4 : P x3 := by unfold x3; exact (c.setF rfl (c.setF rfl h2))
  clear_value x1 x3
  exact (ite_p (fun _ => h4) (fun _ => (State.fuseLoad_inv (c.mono rfl) h4)))
theorem execRailsPowerGood_inv (c : Clo 0x4000000000000000000000000000000000120600000000100800240058180 P) {v0} (k0 : P v0) : (OutP P) (execRailsPowerGood v0) := by
  unfold execRailsPowerGood
  exact (mk_next (ite_p (fun _ => k0) (fun _ => (State.startClocks_inv (c.mono rfl) (c.setF rfl k0)))))
theorem execResetN_inv (c : Clo 0x341f020080071000000000000000000000000000000000000000000000000700887b2 P) {v0} (k0 : P v0) : (OutP P) (execResetN v0) := by
  unfold execResetN
  exact (mk_next (ite_p (fun _ => (State.updBoot_inv (c.mono rfl) k0)) (fun _ => (State.restart_inv (c.mono rfl) (State.updBoot_inv (c.mono rfl) (State.recordSrc_inv (c.mono rfl) k0))))))
theorem execResetNRelease_inv (c : Clo 0x340000008000000000000000000000000000000000000000000000000000070008100 P) {v0} {v1} (k1 : P v1) : (OutP P) (execResetNRelease v0 v1) := by
  unfold execResetNRelease
  exact (mk_next (ite_p (fun _ => k1) (fun _ => (ite_p (fun _ => (State.updBoot_inv (c.mono rfl) k1)) (fun _ => (State.fuseLoad_inv (c.mono rfl) (State.updBoot_inv (c.mono rfl) k1)))))))
theorem execLockstepMismatch_inv (c : Clo 0x341f020080071000000000000000000000000000000000000000000000000700887b2 P) {v0} (k0 : P v0) : (OutP P) (execLockstepMismatch v0) := by
  unfold execLockstepMismatch
  exact (mk_next (ite_p (fun _ => k0) (fun _ => (State.restart_inv (c.mono rfl) k0))))
theorem execBootVerification_inv (c : Clo 0xc00000004000000000000000000000000000000000120600000000300000240058580 P) {v0} (k0 : P v0) : (OutP P) (execBootVerification v0) := by
  unfold execBootVerification
  exact (mk_next (State.bootVerify_inv (c.mono rfl) k0))
theorem execJudgementWindow_inv (c : Clo 0x39f030440071000004800c40c041300000000021c96060101008410000164005bffe P) {v0} {v1} (k1 : P v1) : (OutP P) (execJudgementWindow v0 v1) := by
  unfold execJudgementWindow
  exact (mk_next (ite_p (fun _ => k1) (fun _ => (State.startClocks_inv (c.mono rfl) (State.judge_inv (c.mono rfl) k1)))))
theorem execClockSwitch_inv (c : Clo 0x4000000000000000000000000000000000120600000000100000a40058180 P) {v0} {v1} {v2} {v3} (k3 : P v3) : (OutP P) (execClockSwitch v0 v1 v2 v3) := by
  unfold execClockSwitch
  exact (mk_next (State.startClocks_inv (c.mono rfl) (State.clockSwitch_inv (c.mono rfl) k3)))
theorem execHearthLoopLock_inv (c : Clo 0x1e020040000600004800c40c000000000000000012060000000010000064005a1ba P) {v0} (k0 : P v0) : (OutP P) (execHearthLoopLock v0) := by
  unfold execHearthLoopLock
  exact (mk_next (ite_p (fun _ => (State.startClocks_inv (c.mono rfl) (State.loopLocks_inv (c.mono rfl) k0))) (fun _ => k0)))
theorem execRelockAttempt_inv (c : Clo 0x1e020040000600004800c40c000000000000000012060000000010000064005a1ba P) {v0} {v1} (k1 : P v1) : (OutP P) (execRelockAttempt v0 v1) := by
  unfold execRelockAttempt
  exact (mk_next (ite_p (fun _ => (State.startClocks_inv (c.mono rfl) (State.loopLocks_inv (c.mono rfl) k1))) (fun _ => k1)))
theorem State.startTest_inv (c : Clo 0xf040000000000000000000010000000000003206021000000000000400581c8 P) {v0} {v1} {v2} {v3} {v4} (k0 : P v0) : P (State.startTest v0 v1 v2 v3 v4) := by
  unfold State.startTest
  refine ite_p (fun _ => k0) (fun _ => ?_)
  extract_lets +onlyGivenNames -merge x1 x4
  have h2 : P x1 := by unfold x1; exact (State.each_inv (c.mono rfl) k0 (fun _ _ h3 => (State.testFailure_inv (c.mono rfl) h3)))
  have h5 : P x4 := by unfold x4; exact (State.updBoot_inv (c.mono rfl) h2)
  clear_value x1 x4
  exact (ite_p (fun _ => h5) (fun _ => (State.setStep_inv (c.mono rfl) (State.markFallow_inv (c.mono rfl) (State.setStep_inv (c.mono rfl) (c.setF rfl h5))))))
theorem State.wipeRooms_inv (c : Clo 0x400 P) {v0} (k0 : P v0) : P (State.wipeRooms v0) := by
  unfold State.wipeRooms
  exact (State.each_inv (c.mono rfl) k0 (fun _ _ h1 => (c.wipe rfl _ _ h1)))
theorem State.wipeLanding_inv (c : Clo 0x400 P) {v0} (k0 : P v0) : P (State.wipeLanding v0) := by
  unfold State.wipeLanding
  exact (c.wipe rfl _ _ (c.wipe rfl _ _ k0))
theorem State.wipeEngines_inv (c : Clo 0x400 P) {v0} (k0 : P v0) : P (State.wipeEngines v0) := by
  unfold State.wipeEngines
  exact (c.wipe rfl _ _ k0)
theorem State.startWipes_inv (c : Clo 0x80000000000000000000000000000000000000000000000000000000000040008400 P) {v0} {v1} (k0 : P v0) : P (State.startWipes v0 v1) := by
  unfold State.startWipes
  refine ite_p (fun _ => k0) (fun _ => ?_)
  extract_lets +onlyGivenNames -merge x1 x4 x6
  have h2 : P x1 := by unfold x1; exact (State.each_inv (c.mono rfl) k0 (fun _ _ h3 => (ite_p (fun _ => h3) (fun _ => (c.wipe rfl _ _ h3)))))
  have h5 : P x4 := by unfold x4; exact (ite_p (fun _ => (State.wipeEngines_inv (c.mono rfl) (State.wipeRooms_inv (c.mono rfl) (State.wipeLanding_inv (c.mono rfl) h2)))) (fun _ => h2))
  have h7 : P x6 := by unfold x6; exact (State.updBoot_inv (c.mono rfl) h5)
  clear_value x1 x4 x6
  exact (ite_p (fun _ => h7) (fun _ => (c.setF rfl (State.setStep_inv (c.mono rfl) h7))))
theorem execStartUpWipe_inv (c : Clo 0x80000000000000000000000000000000000000000000000000000000000040008400 P) {v0} {v1} (k1 : P v1) : (OutP P) (execStartUpWipe v0 v1) := by
  unfold execStartUpWipe
  exact (mk_next (State.startWipes_inv (c.mono rfl) k1))

/-! ### Csr -/

theorem State.latchHi_inv (c : Clo 0x200000 P) {v0} {v1} {v2} {v3} (k0 : P v0) : (SndP P) (State.latchHi v0 v1 v2 v3) := by
  unfold State.latchHi
  exact (mk_snd (c.latch rfl _ k0))
theorem State.shownReg_inv (c : Clo 0x1c0200000000000000000000c000000000000000000000000000000000000200022 P) {v0} {v1} {v2} (k0 : P v0) : (OptP (SndP P)) (State.shownReg v0 v1 v2) := by
  unfold State.shownReg
  split
  ·
    rename_i y1
    exact (mk_some (State.latchHi_inv (c.mono rfl) k0))
  ·
    rename_i y2
    exact (mk_some (mk_snd k0))
  ·
    rename_i y3
    exact (mk_some (mk_snd k0))
  ·
    rename_i y4
    exact (mk_some (mk_snd k0))
  ·
    rename_i y5
    extract_lets +onlyGivenNames -merge x6
    clear_value x6
    exact (mk_some (mk_snd k0))
  ·
    rename_i y7
    exact (mk_some (mk_snd k0))
  ·
    rename_i y8
    exact (mk_some (mk_snd k0))
  ·
    rename_i y9
    exact (mk_some (mk_snd k0))
  ·
    rename_i y10
    exact (mk_some (mk_snd k0))
  ·
    rename_i y11
    exact (mk_some (mk_snd k0))
  ·
    rename_i y12
    exact (mk_some (mk_snd k0))
  ·
    rename_i y13
    exact (mk_some (mk_snd k0))
  ·
    rename_i y14
    exact (mk_some (mk_snd k0))
  ·
    rename_i y15
    exact (mk_some (mk_snd k0))
  ·
    rename_i y16
    extract_lets +onlyGivenNames -merge x17 x18 x19 x20
    clear_value x17 x18 x19 x20
    exact (mk_some (mk_snd k0))
  ·
    rename_i y21
    exact (mk_some (State.latchHi_inv (c.mono rfl) k0))
  ·
    rename_i y22
    exact (mk_some (mk_snd k0))
  ·
    rename_i y23
    exact (mk_some (mk_snd k0))
  ·
    rename_i y24
    exact (mk_some (State.latchHi_inv (c.mono rfl) k0))
  ·
    rename_i y25
    exact (mk_some (mk_snd k0))
  ·
    rename_i y26
    exact (mk_some (State.latchHi_inv (c.mono rfl) k0))
  ·
    rename_i y27
    exact (mk_some (mk_snd k0))
  ·
    rename_i y28
    exact (mk_some (mk_snd k0))
  ·
    rename_i y29
    exact (mk_some (mk_snd k0))
  ·
    rename_i y30
    exact (mk_some (mk_snd k0))
  ·
    rename_i y31
    exact (mk_some (mk_snd k0))
  ·
    rename_i y32
    exact (mk_some (mk_snd k0))
  ·
    rename_i y33
    exact (mk_some (mk_snd k0))
  ·
    rename_i y34
    exact (mk_some (mk_snd k0))
  ·
    rename_i y35
    exact (mk_some (mk_snd k0))
  ·
    rename_i y36
    exact (mk_some (mk_snd k0))
  ·
    rename_i y37
    exact (mk_some (mk_snd k0))
  ·
    rename_i y38
    exact (mk_some (mk_snd k0))
  ·
    rename_i y39
    exact (mk_some (mk_snd k0))
  ·
    rename_i y40
    exact (mk_some (mk_snd k0))
  ·
    rename_i y41
    exact (mk_some (mk_snd k0))
  ·
    rename_i y42
    exact (mk_some (State.deRead_inv (c.mono rfl) k0))
  ·
    rename_i y43
    exact (mk_some (State.deRead_inv (c.mono rfl) k0))
  ·
    rename_i y44
    exact (mk_some (State.deRead_inv (c.mono rfl) k0))
  ·
    rename_i y45
    exact (mk_some (State.deRead_inv (c.mono rfl) k0))
  ·
    rename_i y46
    exact (mk_some (mk_snd k0))
  ·
    rename_i y47
    exact (mk_some (mk_snd k0))
  ·
    rename_i y48
    exact (mk_some (mk_snd k0))
  ·
    rename_i y49
    exact (mk_some (mk_snd k0))
  ·
    rename_i y50
    exact (ite_p (fun _ => (mk_some (mk_snd k0))) (fun _ => (mk_some (mk_snd k0))))
  ·
    rename_i y51
    exact (mk_some (mk_snd k0))
  ·
    rename_i y52
    extract_lets +onlyGivenNames -merge x53
    have h54 : P x53 := by unfold x53; exact (State.stampNow_inv (c.mono rfl) k0)
    clear_value x53
    exact (mk_some (State.latchHi_inv (c.mono rfl) h54))
  ·
    rename_i y55
    exact (mk_some (mk_snd k0))
  ·
    rename_i y56 y57 y58 y59 y60 y61 y62 y63 y64 y65 y66 y67 y68 y69 y70 y71 y72 y73 y74 y75 y76 y77 y78 y79 y80 y81 y82 y83 y84 y85 y86 y87 y88 y89 y90 y91 y92 y93 y94 y95 y96 y97 y98 y99 y100 y101 y102 y103 y104
    exact none_p
theorem State.plainRead_inv (c : Clo 0x1c0200000000000000000000c000000000000000000000000000000000000200023 P) {v0} {v1} {v2} (k0 : P v0) : (SndP P) (State.plainRead v0 v1 v2) := by
  unfold State.plainRead
  split
  ·
    rename_i y1 y2 y3
    have q5 := congr_p (Q := (OptP (SndP P))) y3 (by
        exact (State.shownReg_inv (c.mono rfl) k0)
      )
    have h4 : (SndP P) y2 := q5
    exact h4
  ·
    rename_i y6 y7
    extract_lets +onlyGivenNames -merge x8
    clear_value x8
    exact (mk_snd (ite_p (fun _ => k0) (fun _ => (c.wrAny rfl k0))))
theorem State.regRead_inv (c : Clo 0x1c0200000000000000000000c000000000000000000000000000000000000200023 P) {v0} {v1} {v2} (k0 : P v0) : (SndP P) (State.regRead v0 v1 v2) := by
  unfold State.regRead
  split
  ·
    rename_i y1
    split
    ·
      rename_i y2 y3
      exact (mk_snd k0)
    ·
      rename_i y4 y5 y6 y7 y8
      extract_lets +onlyGivenNames -merge x9
      clear_value x9
      exact (mk_snd k0)
  ·
    rename_i y10
    split
    ·
      rename_i y11 y12
      exact (mk_snd k0)
    ·
      rename_i y13 y14 y15 y16 y17
      exact (mk_snd k0)
  ·
    rename_i y18 y19 y20
    exact (State.plainRead_inv (c.mono rfl) k0)
theorem State.plainWrite_inv (c : Clo 0x5 P) {v0} {v1} {v2} {v3} (k0 : P v0) : P (State.plainWrite v0 v1 v2 v3) := by
  unfold State.plainWrite
  extract_lets +onlyGivenNames -merge x1 x2 x3 x4
  have h5 : P x4 := by unfold x4; exact (ite_p (fun _ => k0) (fun _ => (c.wrAny rfl k0)))
  clear_value x1 x2 x3 x4
  exact (ite_p (fun _ => h5) (fun _ => (State.stage_inv (c.mono rfl) h5)))
theorem State.writeGates_inv (c : Clo 0x1c94000000000000043c00000ac5a P) {v0} {v1} {v2} (k0 : P v0) : P (State.writeGates v0 v1 v2) := by
  unfold State.writeGates
  exact (State.each_inv (c.mono rfl) k0 (fun _ _ h1 => (snd_p (State.gateAsk_inv (c.mono rfl) h1))))
theorem State.newChallenge_inv (c : Clo 0x5001e02000000000000000000000000000000000000000000000000000000000000022 P) {v0} (k0 : P v0) : P (State.newChallenge v0) := by
  unfold State.newChallenge
  split
  ·
    rename_i y1 y2 y3 y4
    have q6 := congr_p (Q := (SndP P)) y4 (by
        exact (State.trng_inv (c.mono rfl) k0)
      )
    have h5 : P y3 := q6
    extract_lets +onlyGivenNames -merge x7
    have h8 : P x7 := by unfold x7; exact (State.each_inv (c.mono rfl) h5 (fun _ _ h9 => (c.setF rfl h9)))
    clear_value x7
    exact (c.setF rfl h8)
theorem State.writeLinkCtrl_inv (c : Clo 0x1e020000000000004800c40c000000000000000000000000000000000000000203a P) {v0} {v1} {v2} (k0 : P v0) : P (State.writeLinkCtrl v0 v1 v2) := by
  unfold State.writeLinkCtrl
  extract_lets +onlyGivenNames -merge x1
  have h2 : P x1 := by unfold x1; exact (ite_p (fun _ => k0) (fun _ => (ite_p (fun _ => (State.holdDown_inv (c.mono rfl) k0)) (fun _ => (State.releaseHold_inv (c.mono rfl) k0)))))
  clear_value x1
  exact (ite_p (fun _ => h2) (fun _ => (State.when_inv (c.mono rfl) (c.setLinkF rfl rfl h2) (fun _ h3 => (State.startRetrain_inv (c.mono rfl) h3)))))
theorem State.requestWrite_inv (c : Clo 0x3c78d039f03f441071600004804c40c041300002000021cd4021371c08400043c04000bfff P) {v0} {v1} {v2} {v3} (k0 : P v0) : (OptP P) (State.requestWrite v0 v1 v2 v3) := by
  unfold State.requestWrite
  split
  ·
    rename_i y1
    exact (mk_some (State.writeGates_inv (c.mono rfl) k0))
  ·
    rename_i y2
    exact (mk_some (State.writeGates_inv (c.mono rfl) k0))
  ·
    rename_i y3
    exact (mk_some (State.writeGates_inv (c.mono rfl) k0))
  ·
    rename_i y4
    exact (mk_some (State.writeGates_inv (c.mono rfl) k0))
  ·
    rename_i y5
    exact (mk_some (State.bookSnapshot_inv (c.mono rfl) k0))
  ·
    rename_i y6
    exact (mk_some (snd_p (State.writeOwner_inv (c.mono rfl) k0)))
  ·
    rename_i y7
    exact (mk_some (snd_p (State.writeGuest_inv (c.mono rfl) k0)))
  ·
    rename_i y8
    exact (mk_some (ite_p (fun _ => (snd_p (State.askRetain_inv (c.mono rfl) k0))) (fun _ => (State.askWakeCmd_inv (c.mono rfl) k0))))
  ·
    rename_i y9
    exact (mk_some (ite_p (fun _ => (snd_p (State.askWipe_inv (c.mono rfl) k0))) (fun _ => k0)))
  ·
    rename_i y10
    exact (mk_some (State.askSwitch_inv (c.mono rfl) k0))
  ·
    rename_i y11
    extract_lets +onlyGivenNames -merge x12
    have h13 : P x12 := by unfold x12; exact (State.plainWrite_inv (c.mono rfl) k0)
    clear_value x12
    exact (mk_some (ite_p (fun _ => (snd_p (State.loadReq_inv (c.mono rfl) h13))) (fun _ => h13)))
  ·
    rename_i y14
    extract_lets +onlyGivenNames -merge x15
    have h16 : P x15 := by unfold x15; exact (State.haltRequest_inv (c.mono rfl) k0)
    clear_value x15
    exact (mk_some (ite_p (fun _ => (State.askStep_inv (c.mono rfl) h16)) (fun _ => h16)))
  ·
    rename_i y17
    exact (mk_some (State.rfWrite_inv (c.mono rfl) k0))
  ·
    rename_i y18
    exact (mk_some (State.writeLinkCtrl_inv (c.mono rfl) k0))
  ·
    rename_i y19
    extract_lets +onlyGivenNames -merge x20
    have h21 : P x20 := by unfold x20; exact (State.writeLinkCtrl_inv (c.mono rfl) (c.setF rfl k0))
    clear_value x20
    exact (mk_some (ite_p (fun _ => (State.slipLane_inv (c.mono rfl) h21)) (fun _ => h21)))
  ·
    rename_i y22
    extract_lets +onlyGivenNames -merge x23
    have h24 : P x23 := by unfold x23; exact (c.setF rfl k0)
    clear_value x23
    exact (mk_some (State.writeTxHold_inv (c.mono rfl) (State.stage_inv (c.mono rfl) h24)))
  ·
    rename_i y25
    exact (mk_some (State.writeCtm_inv (c.mono rfl) k0))
  ·
    rename_i y26
    exact (ite_p (fun _ => (mk_some k0)) (fun _ => none_p))
  ·
    rename_i y27
    exact (ite_p (fun _ => (mk_some k0)) (fun _ => none_p))
  ·
    rename_i y28
    exact (mk_some (ite_p (fun _ => (c.ecLog rfl _ k0)) (fun _ => k0)))
  ·
    rename_i y29
    exact (mk_some (ite_p (fun _ => (State.popRecords_inv (c.mono rfl) k0)) (fun _ => k0)))
  ·
    rename_i y30
    exact (mk_some (ite_p (fun _ => (State.newChallenge_inv (c.mono rfl) k0)) (fun _ => k0)))
  ·
    rename_i y31
    exact (ite_p (fun _ => (mk_some k0)) (fun _ => none_p))
  ·
    rename_i y32
    exact (mk_some k0)
  ·
    rename_i y33 y34 y35 y36 y37 y38 y39 y40 y41 y42 y43 y44 y45 y46 y47 y48 y49 y50 y51 y52 y53 y54 y55 y56 y57
    exact none_p
theorem State.regWrite_inv (c : Clo 0x3c78d039f03f441071600004804c40c041300002000021cd4021371c08400043c04000bfff P) {v0} {v1} {v2} {v3} (k0 : P v0) : P (State.regWrite v0 v1 v2 v3) := by
  unfold State.regWrite
  exact (getD_p (State.requestWrite_inv (c.mono rfl) k0) (State.plainWrite_inv (c.mono rfl) k0))
theorem State.csrGet_inv (c : Clo 0x788001c0200000000000000000000c000000000000000000000000000000000000200023 P) {v0} {v1} (k0 : P v0) : (SndP P) (State.csrGet v0 v1) := by
  unfold State.csrGet
  split
  ·
    rename_i y1 y2 y3
    exact (mk_snd (State.busError_inv (c.mono rfl) k0))
  ·
    rename_i y4 y5
    split
    ·
      rename_i y6 y7 y8 y9
      split
      ·
        rename_i y10 y11 y12 y13
        have q15 := congr_p (Q := (SndP P)) y13 (by
            exact (State.regRead_inv (c.mono rfl) k0)
          )
        have h14 : P y12 := q15
        exact (mk_snd h14)
    ·
      rename_i y16 y17
      exact (mk_snd k0)
theorem State.csrPut_inv (c : Clo 0x3c78d039f03f441071600004804c40c041300002000021cd4021371c08400043c04000bfff P) {v0} {v1} {v2} (k0 : P v0) : (SndP P) (State.csrPut v0 v1 v2) := by
  unfold State.csrPut
  split
  ·
    rename_i y1 y2 y3
    exact (mk_snd (State.busError_inv (c.mono rfl) k0))
  ·
    rename_i y4 y5
    split
    ·
      rename_i y6 y7 y8 y9
      exact (mk_snd (State.regWrite_inv (c.mono rfl) k0))
    ·
      rename_i y10 y11
      exact (mk_snd k0)
theorem State.csrShow_inv (c : Clo 0x788001c0200000000000000000000c00000000000000000000000000000000000020002b P) {v0} {v1} (k0 : P v0) : P (State.csrShow v0 v1) := by
  unfold State.csrShow
  split
  ·
    rename_i y1 y2 y3 y4
    have q6 := congr_p (Q := (SndP P)) y4 (by
        exact (State.csrGet_inv (c.mono rfl) k0)
      )
    have h5 : P y3 := q6
    exact (State.updMail_inv (c.mono rfl) h5)
  ·
    rename_i y7 y8 y9 y10
    have q12 := congr_p (Q := (SndP P)) y10 (by
        exact (State.csrGet_inv (c.mono rfl) k0)
      )
    have h11 : P y9 := q12
    exact h11
theorem execRegisterWrite_inv (c : Clo 0x3c78d039f03f441071600004804c40c041300002000021cd4021371c08400043c04000bfff P) {v0} {v1} {v2} (k2 : P v2) : (OutP P) (execRegisterWrite v0 v1 v2) := by
  unfold execRegisterWrite
  exact (mk_next (snd_p (State.csrPut_inv (c.mono rfl) k2)))
theorem execReadClear_inv (c : Clo 0x788001c0200000000000000000000c00000000000000000000000000000000000020002b P) {v0} {v1} (k1 : P v1) : (OutP P) (execReadClear v0 v1) := by
  unfold execReadClear
  exact (mk_next (State.csrShow_inv (c.mono rfl) k1))
theorem execLowWordReadLatch_inv (c : Clo 0x788001c0200000000000000000000c00000000000000000000000000000000000020002b P) {v0} {v1} (k1 : P v1) : (OutP P) (execLowWordReadLatch v0 v1) := by
  unfold execLowWordReadLatch
  exact (mk_next (State.csrShow_inv (c.mono rfl) k1))
theorem execLcChalNew_inv (c : Clo 0x5001e02000000000000000000000000000000000000000000000000000000000000022 P) {v0} (k0 : P v0) : (OutP P) (execLcChalNew v0) := by
  unfold execLcChalNew
  exact (mk_next (State.newChallenge_inv (c.mono rfl) k0))
theorem execBtResPop_inv (c : Clo 0xf00000000000000000000000000000000000000000000000000000000008000 P) {v0} (k0 : P v0) : (OutP P) (execBtResPop v0) := by
  unfold execBtResPop
  exact (mk_next (State.popRecords_inv (c.mono rfl) k0))

/-! ### Mail -/

theorem execDeviceInfo_inv (c : Clo 0x1e0200000000000000000000000000000000000000000000000820000000000203a P) {v0} {v1} (k1 : P v1) : (OutP P) (execDeviceInfo v0 v1) := by
  unfold execDeviceInfo
  exact (mk_next (State.submit_inv (c.mono rfl) k1 (fun _ h1 => (State.replyData_inv (c.mono rfl) h1))))
theorem execNop_inv (c : Clo 0x1e0200000000000000000000000000000000000000000000000820000000000203a P) {v0} {v1} (k1 : P v1) : (OutP P) (execNop v0 v1) := by
  unfold execNop
  exact (mk_next (State.submit_inv (c.mono rfl) k1 (fun _ h1 => (State.reply_inv (c.mono rfl) h1))))
theorem execEventRead_inv (c : Clo 0x1e0200000000000000000000000000000000000000000000000820000000000203a P) {v0} {v1} (k1 : P v1) : (OutP P) (execEventRead v0 v1) := by
  unfold execEventRead
  refine mk_next ?_
  refine State.submit_inv (c.mono rfl) k1 ?_
  intro a6 h5
  extract_lets +onlyGivenNames -merge x7 x8
  have h9 : P x8 := by unfold x8; exact (State.updMail_inv (c.mono rfl) h5)
  clear_value x7 x8
  exact (State.replyData_inv (c.mono rfl) h9)
theorem execEventCfg_inv (c : Clo 0x1e0200000000000000000000000000000000000000000000000920000000000203a P) {v0} {v1} {v2} (k2 : P v2) : (OutP P) (execEventCfg v0 v1 v2) := by
  unfold execEventCfg
  exact (mk_next (State.submit_inv (c.mono rfl) k2 (fun _ h1 => (State.reply_inv (c.mono rfl) (c.setF rfl h1)))))
theorem State.csrReadRun_inv (c : Clo 0x788001c0200000000000000000000c00000000000000000000000000000000000020203b P) {v0} {v1} {v2} {v3} {v4} {v5} (k0 : P v0) : P (State.csrReadRun v0 v1 v2 v3 v4 v5) := by
  induction v3 generalizing v0 k0 v1 v2 v4 v5 with
  | zero =>
    rw [State.csrReadRun]
    exact (State.replyData_inv (c.mono rfl) k0)
  | succ n ih =>
    rw [State.csrReadRun]
    split
    ·
      rename_i y1 y2 y3 y4
      have q6 := congr_p (Q := (SndP P)) y4 (by
          exact (State.csrGet_inv (c.mono rfl) k0)
        )
      have h5 : P y3 := q6
      exact (State.respond_inv (c.mono rfl) h5)
    ·
      rename_i y7 y8 y9 y10
      have q12 := congr_p (Q := (SndP P)) y10 (by
          exact (State.csrGet_inv (c.mono rfl) k0)
        )
      have h11 : P y9 := q12
      exact (by apply ih; exact h11)
theorem execCsrRead_inv (c : Clo 0x788001e0200000000000000000000c00000000000000000000000000820000000020203b P) {v0} {v1} {v2} {v3} (k3 : P v3) : (OutP P) (execCsrRead v0 v1 v2 v3) := by
  unfold execCsrRead
  exact (mk_next (State.submit_inv (c.mono rfl) k3 (fun _ h1 => (State.checks_inv (c.mono rfl) h1 (fun _ h2 => (State.csrReadRun_inv (c.mono rfl) h2))))))
theorem State.csrWriteRun_inv (c : Clo 0x3c78d039f03f441071600004804c40c041300002000021cd4021371c08400043c04000bfff P) {v0} {v1} {v2} {v3} {v4} (k0 : P v0) : P (State.csrWriteRun v0 v1 v2 v3 v4) := by
  induction v3 generalizing v0 k0 v1 v2 v4 with
  | nil =>
    rw [State.csrWriteRun]
    exact (State.reply_inv (c.mono rfl) k0)
  | cons z t ih =>
    rw [State.csrWriteRun]
    split
    ·
      rename_i y1 y2 y3 y4
      have q6 := congr_p (Q := (SndP P)) y4 (by
          exact (State.csrPut_inv (c.mono rfl) k0)
        )
      have h5 : P y3 := q6
      exact (State.respond_inv (c.mono rfl) h5)
    ·
      rename_i y7 y8 y9
      have q11 := congr_p (Q := (SndP P)) y9 (by
          exact (State.csrPut_inv (c.mono rfl) k0)
        )
      have h10 : P y8 := q11
      exact (by apply ih; exact h10)
theorem execCsrWrite_inv (c : Clo 0x3c78d039f03f441071600004804c40c041300002000021cd4021371c08c20043c04000bfff P) {v0} {v1} {v2} {v3} (k3 : P v3) : (OutP P) (execCsrWrite v0 v1 v2 v3) := by
  unfold execCsrWrite
  exact (mk_next (State.submit_inv (c.mono rfl) k3 (fun _ h1 => (State.checks_inv (c.mono rfl) h1 (fun _ h2 => (State.csrWriteRun_inv (c.mono rfl) h2))))))
theorem State.setArgs_inv (c : Clo 0x8 P) {v0} {v1} {v2} (k0 : P v0) : P (State.setArgs v0 v1 v2) := by
  unfold State.setArgs
  exact (State.updMail_inv (c.mono rfl) k0)
theorem State.memSend_inv (c : Clo 0x18 P) {v0} {v1} {v2} {v3} (k0 : P v0) : P (State.memSend v0 v1 v2 v3) := by
  unfold State.memSend
  extract_lets +onlyGivenNames -merge x1 x2 x3
  clear_value x1 x2 x3
  exact (State.request_inv (c.mono rfl) (State.setArgs_inv (c.mono rfl) k0))
theorem State.memGo_inv (c : Clo 0x3c78d039f03f445071600004804c40cc41300002000021cd4021371c08400043c04020bfff P) {v0} {v1} {v2} {v3} {v4} (k0 : P v0) : (FstP P) (State.memGo v0 v1 v2 v3 v4) := by
  induction v3 generalizing v0 k0 v1 v2 v4 with
  | zero =>
    rw [State.memGo]
    exact (mk_fst k0)
  | succ n ih =>
    rw [State.memGo]
    refine ite_p (fun _ => (mk_fst k0)) (fun _ => ?_)
    extract_lets +onlyGivenNames -merge x1 x2 x3 x8
    have h4 : ∀ a0 a1, P a0 → (FstP P) (x3 a0 a1) := by
      intro a6 a7 h5
      unfold x3
      beta_reduce
      exact (mk_fst (State.respond_inv (c.mono rfl) h5))
    have h9 : ∀ a0 a1 a2, P a0 → (FstP P) (x8 a0 a1 a2) := by
      intro a11 a12 a13 h10
      unfold x8
      beta_reduce
      exact (by apply ih; exact h10)
    clear_value x1 x2 x3 x8
    refine ite_p (fun _ => (h4 _ _ (State.busError_inv (c.mono rfl) k0))) (fun _ => ?_)
    refine ite_p (fun _ => (mk_fst (State.memSend_inv (c.mono rfl) k0))) (fun _ => ?_)
    split
    ·
      rename_i y14 y15
      refine ite_p (fun _ => (h9 _ _ _ (snd_p (State.writeSpanAs_inv (c.mono rfl) k0)))) (fun _ => ?_)
      split
      ·
        rename_i y16 y17 y18 y19 y20
        have q22 := congr_p (Q := (SndP (SndP P))) y20 (by
            exact (State.readSpan_inv (c.mono rfl) k0)
          )
        have h21 : P y19 := q22
        exact (h9 _ _ _ h21)
    ·
      rename_i y23 y24 y25
      refine ite_p (fun _ => (h4 _ _ (State.busError_inv (c.mono rfl) k0))) (fun _ => ?_)
      refine ite_p (fun _ => ?_) (fun _ => ?_)
      ·
        split
        ·
          rename_i y26 y27 y28 y29
          have q31 := congr_p (Q := (SndP P)) y29 (by
              exact (State.csrPut_inv (c.mono rfl) k0)
            )
          have h30 : P y28 := q31
          exact (h4 _ _ h30)
        ·
          rename_i y32 y33 y34
          have q36 := congr_p (Q := (SndP P)) y34 (by
              exact (State.csrPut_inv (c.mono rfl) k0)
            )
          have h35 : P y33 := q36
          exact (h9 _ _ _ h35)
      ·
        split
        ·
          rename_i y37 y38 y39 y40
          have q42 := congr_p (Q := (SndP P)) y40 (by
              exact (State.csrGet_inv (c.mono rfl) k0)
            )
          have h41 : P y39 := q42
          exact (h4 _ _ h41)
        ·
          rename_i y43 y44 y45 y46
          have q48 := congr_p (Q := (SndP P)) y46 (by
              exact (State.csrGet_inv (c.mono rfl) k0)
            )
          have h47 : P y45 := q48
          exact (h9 _ _ _ h47)
    ·
      rename_i y49 y50 y51
      exact (mk_fst (State.memSend_inv (c.mono rfl) k0))
theorem State.memReadEnd_inv (c : Clo 0x2018 P) {v0} {v1} {v2} (k0 : P v0) : P (State.memReadEnd v0 v1 v2) := by
  unfold State.memReadEnd
  exact (State.respond_inv (c.mono rfl) k0)
theorem State.memWriteEnd_inv (c : Clo 0x2018 P) {v0} {v1} {v2} (k0 : P v0) : P (State.memWriteEnd v0 v1 v2) := by
  unfold State.memWriteEnd
  extract_lets +onlyGivenNames -merge x1
  clear_value x1
  exact (State.respond_inv (c.mono rfl) k0)
theorem State.memPut_inv (c : Clo 0x3c78d039f03f445071600004804c40cc41300002000021cd4021371c08400043c04020bfff P) {v0} {v1} {v2} (k0 : P v0) : P (State.memPut v0 v1 v2) := by
  unfold State.memPut
  split
  ·
    rename_i y1 y2 y3 y4
    have q6 := congr_p (Q := (FstP P)) y4 (by
        exact (State.memGo_inv (c.mono rfl) k0)
      )
    have h5 : P y2 := q6
    split
    ·
      rename_i y7 y8
      exact (State.memWriteEnd_inv (c.mono rfl) h5)
    ·
      rename_i y9
      exact h5
theorem execMemRead_inv (c : Clo 0x3c78d039f03f445071600004804c40cc41300002000021cd4021371c08c20043c04020bfff P) {v0} {v1} {v2} {v3} (k3 : P v3) : (OutP P) (execMemRead v0 v1 v2 v3) := by
  unfold execMemRead
  refine mk_next ?_
  refine State.submit_inv (c.mono rfl) k3 ?_
  intro a10 h9
  refine State.checks_inv (c.mono rfl) h9 ?_
  intro a14 h13
  split
  ·
    rename_i y15 y16 y17 y18
    have q20 := congr_p (Q := (FstP P)) y18 (by
        exact (State.memGo_inv (c.mono rfl) h13)
      )
    have h19 : P y16 := q20
    split
    ·
      rename_i y21 y22
      exact (State.memReadEnd_inv (c.mono rfl) h19)
    ·
      rename_i y23
      exact h19
theorem execMemWrite_inv (c : Clo 0x3c78d039f03f445071600004804c40cc41300002000021cd4021371c08c20043c04020bfff P) {v0} {v1} {v2} {v3} (k3 : P v3) : (OutP P) (execMemWrite v0 v1 v2 v3) := by
  unfold execMemWrite
  extract_lets +onlyGivenNames -merge x1 x2
  exact (mk_next (State.submit_inv (c.mono rfl) k3 (fun _ h3 => (State.checks_inv (c.mono rfl) h3 (fun _ h4 => (State.memPut_inv (c.mono rfl) (State.uncommitted_inv (c.mono rfl) h4)))))))
theorem State.writeOut_inv (c : Clo 0x3c78d039f03f445071600004804c40cc41300002000021cd4021371c08400043c04020bfff P) {v0} {v1} {v2} {v3} (k0 : P v0) : P (State.writeOut v0 v1 v2 v3) := by
  unfold State.writeOut
  exact (State.checks_inv (c.mono rfl) k0 (fun _ h1 => (State.memPut_inv (c.mono rfl) (c.drawn rfl  h1))))
theorem execBooksRead_inv (c : Clo 0x3c78d039f03f445071600004804c40cc41300002000021cd4021371c08c20043c04020bfff P) {v0} {v1} {v2} (k2 : P v2) : (OutP P) (execBooksRead v0 v1 v2) := by
  unfold execBooksRead
  exact (mk_next (State.submit_inv (c.mono rfl) k2 (fun _ h1 => (State.writeOut_inv (c.mono rfl) h1))))
theorem State.memAnswer_inv (c : Clo 0x3c78d039f03f445071600004804c40cc41300002000021cd4021371c08400043c04020bfff P) {v0} {v1} {v2} {v3} (k0 : P v0) : (FstP P) (State.memAnswer v0 v1 v2 v3) := by
  unfold State.memAnswer
  extract_lets +onlyGivenNames -merge x1 x2 x3 x4
  clear_value x1 x2 x3 x4
  refine ite_p (fun _ => ?_) (fun _ => ?_)
  ·
    refine ite_p (fun _ => (mk_fst (State.respond_inv (c.mono rfl) k0))) (fun _ => ?_)
    extract_lets +onlyGivenNames -merge x5 x6 x7
    have h8 : P x7 := by unfold x7; exact (ite_p (fun _ => (State.committed_inv (c.mono rfl) k0)) (fun _ => k0))
    clear_value x5 x6 x7
    exact (mk_fst (State.memSend_inv (c.mono rfl) h8))
  ·
    refine ite_p (fun _ => ?_) (fun _ => ?_)
    ·
      extract_lets +onlyGivenNames -merge x9 x10
      have h11 : P x10 := by unfold x10; exact (State.updMail_inv (c.mono rfl) k0)
      clear_value x9 x10
      exact (ite_p (fun _ => (mk_fst (c.drawn rfl  (State.respond_inv (c.mono rfl) h11)))) (fun _ => (mk_fst (State.respond_inv (c.mono rfl) h11))))
    ·
      refine ite_p (fun _ => (mk_fst (State.respond_inv (c.mono rfl) k0))) (fun _ => ?_)
      extract_lets +onlyGivenNames -merge x12 x14
      have h13 : P x12 := by unfold x12; exact (ite_p (fun _ => (State.committed_inv (c.mono rfl) k0)) (fun _ => k0))
      clear_value x12 x14
      exact (ite_p (fun _ => (mk_fst (State.memSend_inv (c.mono rfl) h13))) (fun _ => (State.memGo_inv (c.mono rfl) h13)))
theorem State.requestLost_inv (c : Clo 0x39f03044007108cf040004004041300000000021c94020101c08400000004040fffe P) {v0} {v1} {v2} {v3} {v4} (k0 : P v0) : P (State.requestLost v0 v1 v2 v3 v4) := by
  unfold State.requestLost
  refine ite_p (fun _ => ?_) (fun _ => ?_)
  ·
    split
    ·
      rename_i y1 y2
      exact (State.updPlane_inv (c.mono rfl) k0)
    ·
      rename_i y3 y4
      exact (State.updPlane_inv (c.mono rfl) k0)
    ·
      rename_i y5 y6 y7
      exact k0
  ·
    refine ite_p (fun _ => ?_) (fun _ => ?_)
    ·
      extract_lets +onlyGivenNames -merge x8
      clear_value x8
      exact (ite_p (fun _ => (State.setTag_inv (c.mono rfl) k0)) (fun _ => k0))
    ·
      refine ite_p (fun _ => (State.rawLost_inv (c.mono rfl) k0)) (fun _ => ?_)
      refine ite_p (fun _ => (ite_p (fun _ => (State.dispatchAnswered_inv (c.mono rfl) k0)) (fun _ => (ite_p (fun _ => (State.pumpPosts_inv (c.mono rfl) (State.setPosts_inv (c.mono rfl) k0))) (fun _ => k0))))) (fun _ => ?_)
      refine ite_p (fun _ => (State.homeAnswer_inv (c.mono rfl) k0)) (fun _ => ?_)
      refine ite_p (fun _ => (State.updSec_inv (c.mono rfl) k0)) (fun _ => ?_)
      refine ite_p (fun _ => ?_) (fun _ => k0)
      split
      ·
        rename_i y9 y10 y11
        exact (ite_p (fun _ => k0) (fun _ => (State.respond_inv (c.mono rfl) k0)))
      ·
        rename_i y12 y13
        exact (ite_p (fun _ => (State.pumpPosts_inv (c.mono rfl) (State.setPosts_inv (c.mono rfl) k0))) (fun _ => k0))
theorem State.responseLimit_inv (c : Clo 0x2000039f03044007108cf040004004041300000000021c94020101c08400000004040fffe P) {v0} {v1} {v2} {v3} (k0 : P v0) : P (State.responseLimit v0 v1 v2 v3) := by
  unfold State.responseLimit
  split
  ·
    rename_i y1 y2
    exact k0
  ·
    rename_i y3 y4 y5
    refine ite_p (fun _ => k0) (fun _ => ?_)
    extract_lets +onlyGivenNames -merge x6
    have h7 : P x6 := by unfold x6; exact (c.inc rfl (State.setOut_inv (c.mono rfl) k0))
    clear_value x6
    exact (State.requestLost_inv (c.mono rfl) h7)
theorem execResponseTimeLimit_inv (c : Clo 0x2000039f03044007108cf040004004041300000000021c94020101c08400000004040fffe P) {v0} {v1} {v2} {v3} (k3 : P v3) : (OutP P) (execResponseTimeLimit v0 v1 v2 v3) := by
  unfold execResponseTimeLimit
  exact (mk_next (State.responseLimit_inv (c.mono rfl) k3))
theorem execExpiredTagRelease_inv (c : Clo 0x10 P) {v0} {v1} {v2} {v3} (k3 : P v3) : (OutP P) (execExpiredTagRelease v0 v1 v2 v3) := by
  unfold execExpiredTagRelease
  refine mk_next ?_
  split
  ·
    rename_i y1 y2 y3
    exact (ite_p (fun _ => (State.setOut_inv (c.mono rfl) k3)) (fun _ => k3))
  ·
    rename_i y4 y5
    exact k3
theorem State.commandLimit_inv (c : Clo 0x6000000000000000000000000020000000000008000000000000281c P) {v0} {v1} (k0 : P v0) : P (State.commandLimit v0 v1) := by
  unfold State.commandLimit
  split
  ·
    rename_i y1 y2
    exact k0
  ·
    rename_i y3 y4 y5
    refine ite_p (fun _ => ?_) (fun _ => (ite_p (fun _ => (State.enumDeadline_inv (c.mono rfl) k0)) (fun _ => (ite_p (fun _ => (State.respond_inv (c.mono rfl) (State.each_inv (c.mono rfl) k0 (fun _ _ h7 => (c.updLink rfl _ _ h7))))) (fun _ => k0)))))
    extract_lets +onlyGivenNames -merge x8
    have h9 : P x8 := by unfold x8; exact (State.updSched_inv (c.mono rfl) k0)
    clear_value x8
    exact (State.respond_inv (c.mono rfl) (ite_p (fun _ => (c.setF rfl h9)) (fun _ => h9)))
theorem execCommandTimeLimit_inv (c : Clo 0x6000000000000000000000000020000000000008000000000000281c P) {v0} {v1} {v2} {v3} {v4} (k4 : P v4) : (OutP P) (execCommandTimeLimit v0 v1 v2 v3 v4) := by
  unfold execCommandTimeLimit
  exact (mk_next (State.commandLimit_inv (c.mono rfl) k4))

/-! ### Foundation -/

theorem State.stopWork_inv (c : Clo 0x39f0304410710000040004004041300001000021c94020321c08400000004010bffe P) {v0} (k0 : P v0) : P (State.stopWork v0) := by
  unfold State.stopWork
  extract_lets +onlyGivenNames -merge x1 x4 x7
  have h2 : P x1 := by unfold x1; exact (State.each_inv (c.mono rfl) k0 (fun _ _ h3 => (State.abandonLoad_inv (c.mono rfl) h3)))
  have h5 : P x4 := by unfold x4; exact (State.each_inv (c.mono rfl) h2 (fun _ _ h6 => (State.abandonWindow_inv (c.mono rfl) h6)))
  have h8 : P x7 := by unfold x7; exact (State.each_inv (c.mono rfl) h5 (fun _ _ h9 => (State.cutSlice_inv (c.mono rfl) h9)))
  clear_value x1 x4 x7
  exact (State.schedLoads_inv (c.mono rfl) (State.each_inv (c.mono rfl) h8 (fun _ _ h10 => (State.stopEngine_inv (c.mono rfl) h10))))
theorem State.resetAccepted_inv (c : Clo 0x39f030c410710000040004004041300001000021c94020321c08400000004010bffe P) {v0} {v1} (k0 : P v0) : P (State.resetAccepted v0 v1) := by
  unfold State.resetAccepted
  extract_lets +onlyGivenNames -merge x1 x3 x5 x7
  have h2 : P x1 := by unfold x1; exact (c.setF rfl k0)
  have h4 : P x3 := by unfold x3; exact (c.wr rfl (c.setF rfl h2))
  have h6 : P x5 := by unfold x5; exact (State.updBoot_inv (c.mono rfl) h4)
  have h8 : P x7 := by unfold x7; exact (ite_p (fun _ => h6) (fun _ => (State.failCommit_inv (c.mono rfl) h6)))
  clear_value x1 x3 x5 x7
  exact (State.mowRefresh_inv (c.mono rfl) (State.stopWork_inv (c.mono rfl) h8))
theorem State.endRow_inv (c : Clo 0x80000000000000000000000000000000000000000000000000000000000142 P) {v0} {v1} {v2} {v3} (k0 : P v0) : P (State.endRow v0 v1 v2 v3) := by
  unfold State.endRow
  exact (ite_p (fun _ => (c.inc rfl (State.updPlane_inv (c.mono rfl) (State.dropWrite_inv (c.mono rfl) k0)))) (fun _ => (c.inc rfl (State.rowPoison_inv (c.mono rfl) k0))))
theorem State.endRows_inv (c : Clo 0x80000000000000000000000000000000000000000000000000000000000142 P) {v0} {v1} (k0 : P v0) : P (State.endRows v0 v1) := by
  unfold State.endRows
  extract_lets +onlyGivenNames -merge x1 x11
  have h2 : P x1 := by
    unfold x1
    refine State.each_inv (c.mono rfl) k0 ?_
    intro a7 a8 h6
    extract_lets +onlyGivenNames -merge x9
    clear_value x9
    exact (State.each_inv (c.mono rfl) (State.updPlane_inv (c.mono rfl) h6) (fun _ _ h10 => (State.endRow_inv (c.mono rfl) h10)))
  clear_value x1 x11
  exact (State.each_inv (c.mono rfl) (c.updRoom rfl _ _ h2) (fun _ _ h12 => (c.inc (by repeat' (first | rfl | split | unfold gateReqFld | unfold gateStatFld | unfold planeFld)) h12)))
theorem State.countLost_inv (c : Clo 0x80000000000000000000000000000000000000000000000000000000000000 P) {v0} {v1} (k0 : P v0) : P (State.countLost v0 v1) := by
  unfold State.countLost
  extract_lets +onlyGivenNames -merge x1
  clear_value x1
  exact (ite_p (fun _ => k0) (fun _ => (ite_p (fun _ => (c.inc rfl k0)) (fun _ => (ite_p (fun _ => (c.inc rfl k0)) (fun _ => k0))))))
theorem State.logTokens_inv (c : Clo 0x40000000000000000c02 P) {v0} {v1} (k0 : P v0) : P (State.logTokens v0 v1) := by
  unfold State.logTokens
  refine ite_p (fun _ => k0) (fun _ => ?_)
  extract_lets +onlyGivenNames -merge x1 x2 x4
  have h3 : P x2 := by unfold x2; exact (State.updSched_inv (c.mono rfl) k0)
  have h5 : P x4 := by unfold x4; exact (c.setF rfl h3)
  clear_value x1 x2 x4
  exact (State.each_inv (c.mono rfl) h5 (fun _ _ h6 => (State.scramble_inv (c.mono rfl) h6)))
theorem State.endPending_inv (c : Clo 0x80000000000000000000000000000000000000000060000000000000004d52 P) {v0} (k0 : P v0) : P (State.endPending v0) := by
  unfold State.endPending
  extract_lets +onlyGivenNames -merge x1 x4 x7 x20 x33 x35 x36 x38 x40 x43
  have h2 : P x1 := by unfold x1; exact (State.each_inv (c.mono rfl) k0 (fun _ _ h3 => (State.endRows_inv (c.mono rfl) h3)))
  have h5 : P x4 := by unfold x4; exact (State.each_inv (c.mono rfl) h2 (fun _ _ h6 => (State.countLost_inv (c.mono rfl) h6)))
  have h8 : P x7 := by
    unfold x7
    refine State.each_inv (c.mono rfl) h5 ?_
    intro a13 a14 h12
    split
    ·
      rename_i y15 y16 y17
      exact (State.countLost_inv (c.mono rfl) h12)
    ·
      rename_i y18 y19
      exact h12
  have h21 : P x20 := by
    unfold x20
    refine State.each_inv (c.mono rfl) h8 ?_
    intro a26 a27 h25
    split
    ·
      rename_i y28 y29 y30
      exact (c.inc (by repeat' (first | rfl | split | unfold gateReqFld | unfold gateStatFld | unfold planeFld)) h25)
    ·
      rename_i y31 y32
      exact h25
  have h34 : P x33 := by unfold x33; exact (State.logTokens_inv (c.mono rfl) h21)
  have h37 : P x36 := by unfold x36; exact (c.setF rfl h34)
  have h39 : P x38 := by unfold x38; exact (c.svc rfl _ h37)
  have h41 : P x40 := by unfold x40; exact (State.each_inv (c.mono rfl) h39 (fun _ _ h42 => (c.updBank rfl _ _ h42)))
  have h44 : P x43 := by unfold x43; exact (State.updNet_inv (c.mono rfl) h41)
  clear_value x1 x4 x7 x20 x33 x35 x36 x38 x40 x43
  exact (State.updCr_inv (c.mono rfl) h44)
theorem State.freezeUnits_inv (c : Clo 0x1000000000000000002158 P) {v0} (k0 : P v0) : P (State.freezeUnits v0) := by
  unfold State.freezeUnits
  extract_lets +onlyGivenNames -merge x1
  have h2 : P x1 := by unfold x1; exact (State.each_inv (c.mono rfl) k0 (fun _ _ h3 => (ite_p (fun _ => (State.stopAtEdge_inv (c.mono rfl) h3)) (fun _ => h3))))
  clear_value x1
  exact (State.each_inv (c.mono rfl) h2 (fun _ _ h4 => (State.retain_inv (c.mono rfl) h4)))
theorem State.resetBlocks_inv (c : Clo 0x200005 P) {v0} (k0 : P v0) : P (State.resetBlocks v0) := by
  unfold State.resetBlocks
  extract_lets +onlyGivenNames -merge x1 x2 x4 x6
  have h3 : P x2 := by unfold x2; exact (c.latch rfl _ k0)
  have h5 : P x4 := by unfold x4; exact (c.dropRegs rfl _ _ h3)
  have h7 : P x6 := by unfold x6; exact (c.staged rfl _ h5)
  clear_value x1 x2 x4 x6
  exact (foldl_p (fun _ _ h8 => (c.setRaw rfl _ _ h8)) h7)
theorem State.resetSched_inv (c : Clo 0x2818 P) {v0} (k0 : P v0) : P (State.resetSched v0) := by
  unfold State.resetSched
  extract_lets +onlyGivenNames -merge x1 x2
  have h3 : P x2 := by unfold x2; exact (State.updSched_inv (c.mono rfl) k0)
  clear_value x1 x2
  exact (State.each_inv (c.mono rfl) h3 (fun _ _ h4 => (State.respond_inv (c.mono rfl) h4)))
theorem State.resetLink_inv (c : Clo 0x60000000040040000000000000000000000000000000000000002018 P) {v0} {v1} (k0 : P v0) : P (State.resetLink v0 v1) := by
  unfold State.resetLink
  extract_lets +onlyGivenNames -merge x1 x3 x5
  have h2 : P x1 := by unfold x1; exact (State.endLinkCmds_inv (c.mono rfl) k0)
  have h4 : P x3 := by unfold x3; exact (State.dropKeys_inv (c.mono rfl) h2)
  have h6 : P x5 := by unfold x5; exact (c.linkPut rfl _ _ h4)
  clear_value x1 x3 x5
  exact (ite_p (fun _ => (c.setF rfl (c.setF rfl h6))) (fun _ => h6))
theorem State.holdFoundation_inv (c : Clo 0x39f0304400716000040004004041300001000021c94020101c08400000004030bfff P) {v0} (k0 : P v0) : P (State.holdFoundation v0) := by
  unfold State.holdFoundation
  extract_lets +onlyGivenNames -merge x1 x4 x7 x8 x10
  have h2 : P x1 := by unfold x1; exact (State.updNet_inv (c.mono rfl) (State.schedLoads_inv (c.mono rfl) (State.each_inv (c.mono rfl) k0 (fun _ _ h3 => (State.edgeOver_inv (c.mono rfl) h3)))))
  have h5 : P x4 := by unfold x4; exact (State.each_inv (c.mono rfl) h2 (fun _ _ h6 => (c.updEng rfl _ _ (State.stopEngine_inv (c.mono rfl) h6))))
  have h9 : P x8 := by unfold x8; exact (State.resetBlocks_inv (c.mono rfl) (State.resetSched_inv (c.mono rfl) h5))
  have h11 : P x10 := by unfold x10; exact (State.each_inv (c.mono rfl) h9 (fun _ _ h12 => (c.setF rfl h12)))
  clear_value x1 x4 x7 x8 x10
  exact (State.each_inv (c.mono rfl) h11 (fun _ _ h13 => (State.resetLink_inv (c.mono rfl) h13)))
theorem State.fromImage_inv (c : Clo 0x1 P) {v0} {v1} {v2} (k0 : P v0) : P (State.fromImage v0 v1 v2) := by
  unfold State.fromImage
  exact (State.takeSet_inv (c.mono rfl) k0)
theorem State.endHandover_inv (c : Clo 0x100000000000000000000000000000000000022700000000000000402598 P) {v0} {v1} (k0 : P v0) : P (State.endHandover v0 v1) := by
  unfold State.endHandover
  split
  ·
    rename_i y1 y2
    exact (State.completeHandover_inv (c.mono rfl) k0)
  ·
    rename_i y3 y4
    refine ite_p (fun _ => (State.completeHandover_inv (c.mono rfl) k0)) (fun _ => ?_)
    refine ite_p (fun _ => k0) (fun _ => ?_)
    extract_lets +onlyGivenNames -merge x5
    have h6 : P x5 := by unfold x5; exact (c.setF rfl (c.setF rfl (State.wipeBank_inv (c.mono rfl) k0)))
    clear_value x5
    exact (State.completeHandover_inv (c.mono rfl) h6)
  ·
    rename_i y7 y8
    refine ite_p (fun _ => (State.completeHandover_inv (c.mono rfl) k0)) (fun _ => ?_)
    refine ite_p (fun _ => k0) (fun _ => ?_)
    extract_lets +onlyGivenNames -merge x9
    have h10 : P x9 := by unfold x9; exact (c.setF rfl (c.setF rfl (State.wipeBank_inv (c.mono rfl) k0)))
    clear_value x9
    exact (State.completeHandover_inv (c.mono rfl) h10)
  ·
    rename_i y11 y12 y13 y14
    exact (State.sliceEnded_inv (c.mono rfl) k0)
theorem State.schedRestored_inv (c : Clo 0x11200000000000000000000000000000 P) {v0} (k0 : P v0) : P (State.schedRestored v0) := by
  unfold State.schedRestored
  extract_lets +onlyGivenNames -merge x1 x2 x3
  have h4 : P x3 := by unfold x3; exact (c.setF rfl (c.setF rfl k0))
  clear_value x1 x2 x3
  exact (c.setF rfl h4)
theorem State.repostTokens_inv (c : Clo 0x39f0304400710000040004004041300000400021c94020105c08400000004000bffe P) {v0} (k0 : P v0) : P (State.repostTokens v0) := by
  unfold State.repostTokens
  extract_lets +onlyGivenNames -merge x1
  clear_value x1
  refine ite_p (fun _ => (State.booksFault_inv (c.mono rfl) k0)) (fun _ => ?_)
  extract_lets +onlyGivenNames -merge x2
  have h3 : P x2 := by unfold x2; exact (c.setF rfl (State.updSched_inv (c.mono rfl) k0))
  clear_value x2
  refine State.each_inv (c.mono rfl) h3 ?_
  intro a7 a8 h6
  split
  ·
    rename_i y9 y10 y11 y12
    have q14 := congr_p (Q := (SndP P)) y12 (by
        exact (State.handleRec_inv (c.mono rfl) h6)
      )
    have h13 : P y11 := q14
    exact (ite_p (fun _ => (State.sendTokens_inv (c.mono rfl) h13)) (fun _ => h13))
theorem State.schedTasks_inv (c : Clo 0x39f0304400710000040004004041300000000021c94020101c08400000004000bffe P) {v0} (k0 : P v0) : P (State.schedTasks v0) := by
  unfold State.schedTasks
  extract_lets +onlyGivenNames -merge x1
  have h2 : P x1 := by unfold x1; exact (State.each_inv (c.mono rfl) k0 (fun _ _ h3 => (State.returnTask_inv (c.mono rfl) h3)))
  clear_value x1
  exact (State.each_inv (c.mono rfl) h2 (fun _ _ h4 => (State.listFlow_inv (c.mono rfl) h4)))
theorem State.schedSwitches_inv (c : Clo 0x800 P) {v0} (k0 : P v0) : P (State.schedSwitches v0) := by
  unfold State.schedSwitches
  refine State.each_inv (c.mono rfl) k0 ?_
  intro a4 a5 h3
  extract_lets +onlyGivenNames -merge x6 x7
  clear_value x6 x7
  exact (ite_p (fun _ => h3) (fun _ => (State.wantPlane_inv (c.mono rfl) h3)))
theorem State.settleRequests_inv (c : Clo 0x39f03044007108cf040004004041300000000021c94020101c08400000004040fffe P) {v0} (k0 : P v0) : P (State.settleRequests v0) := by
  unfold State.settleRequests
  extract_lets +onlyGivenNames -merge x1
  clear_value x1
  refine State.each_inv (c.mono rfl) (State.updNet_inv (c.mono rfl) k0) ?_
  intro a5 a6 h4
  split
  ·
    rename_i y7 y8
    exact h4
  ·
    rename_i y9 y10 y11
    extract_lets +onlyGivenNames -merge x12 x13
    clear_value x12 x13
    refine ite_p (fun _ => h4) (fun _ => ?_)
    refine ite_p (fun _ => ?_) (fun _ => (State.requestLost_inv (c.mono rfl) h4))
    extract_lets +onlyGivenNames -merge x14
    clear_value x14
    exact (ite_p (fun _ => (State.request_inv (c.mono rfl) h4)) (fun _ => h4))
theorem State.roomBack_inv (c : Clo 0x300000000000000000000000040 P) {v0} {v1} (k0 : P v0) : P (State.roomBack v0 v1) := by
  unfold State.roomBack
  extract_lets +onlyGivenNames -merge x1
  clear_value x1
  refine ite_p (fun _ => k0) (fun _ => ?_)
  extract_lets +onlyGivenNames -merge x2 x4 x7 x9 x10
  have h3 : P x2 := by unfold x2; exact (c.updRoom rfl _ _ k0)
  have h5 : P x4 := by unfold x4; exact (State.each_inv (c.mono rfl) h3 (fun _ _ h6 => (State.updPlane_inv (c.mono rfl) h6)))
  have h8 : P x7 := by unfold x7; exact (c.setF rfl h5)
  clear_value x2 x4 x7 x9 x10
  exact (ite_p (fun _ => (State.setDivisor_inv (c.mono rfl) (c.setF rfl h8))) (fun _ => h8))
theorem State.restartUnits_inv (c : Clo 0x788039f03044107108cf04800c40c041300000000021c94021321008400000004040fffe P) {v0} (k0 : P v0) : P (State.restartUnits v0) := by
  unfold State.restartUnits
  extract_lets +onlyGivenNames -merge x1 x2 x12 x15
  have h3 : P x2 := by
    unfold x2
    refine State.each_inv (c.mono rfl) k0 ?_
    intro a8 a9 h7
    extract_lets +onlyGivenNames -merge x10
    have h11 : P x10 := by unfold x10; exact (c.setF rfl h7)
    clear_value x10
    exact (ite_p (fun _ => (c.setF rfl h11)) (fun _ => h11))
  have h13 : P x12 := by unfold x12; exact (State.each_inv (c.mono rfl) h3 (fun _ _ h14 => (ite_p (fun _ => (State.bringUp_inv (c.mono rfl) h14)) (fun _ => (ite_p (fun _ => (State.setLinkState_inv (c.mono rfl) h14)) (fun _ => h14))))))
  have h16 : P x15 := by unfold x15; exact (ite_p (fun _ => h13) (fun _ => (State.each_inv (c.mono rfl) h13 (fun _ _ h17 => (ite_p (fun _ => (State.askWake_inv (c.mono rfl) h17)) (fun _ => h17))))))
  clear_value x1 x2 x12 x15
  exact (State.crWakeAll_inv (c.mono rfl) (State.reShed_inv (c.mono rfl) (State.mowRefresh_inv (c.mono rfl) h16)))
theorem State.resumeFinish_inv (c : Clo 0x788039f03044107108cf04800c40c041300000401121cb4023377f08400000004040ffff P) {v0} (k0 : P v0) : P (State.resumeFinish v0) := by
  unfold State.resumeFinish
  extract_lets +onlyGivenNames -merge x1 x2 x4 x6 x9 x11 x13
  have h3 : P x2 := by unfold x2; exact (State.updBoot_inv (c.mono rfl) k0)
  have h5 : P x4 := by unfold x4; exact (State.schedRestored_inv (c.mono rfl) (State.fromImage_inv (c.mono rfl) h3))
  have h7 : P x6 := by unfold x6; exact (State.each_inv (c.mono rfl) h5 (fun _ _ h8 => (State.endHandover_inv (c.mono rfl) h8)))
  have h10 : P x9 := by unfold x9; exact (State.repostTokens_inv (c.mono rfl) h7)
  have h12 : P x11 := by unfold x11; exact (State.schedSwitches_inv (c.mono rfl) (State.settleRequests_inv (c.mono rfl) (State.schedTasks_inv (c.mono rfl) h10)))
  have h14 : P x13 := by unfold x13; exact (c.setF rfl h12)
  clear_value x1 x2 x4 x6 x9 x11 x13
  refine ite_p (fun _ => (State.respondTo_inv (c.mono rfl) h14)) (fun _ => ?_)
  split
  ·
    rename_i y15 y16 y17 y18
    have q20 := congr_p (Q := (SndP P)) y18 (by
        exact (State.runAudit_inv (c.mono rfl) h14)
      )
    have h19 : P y17 := q20
    refine ite_p (fun _ => (State.respondTo_inv (c.mono rfl) h19)) (fun _ => ?_)
    extract_lets +onlyGivenNames -merge x21
    have h22 : P x21 := by unfold x21; exact (c.setF rfl (c.setF rfl h19))
    clear_value x21
    exact (State.respondTo_inv (c.mono rfl) (State.restartUnits_inv (c.mono rfl) (State.each_inv (c.mono rfl) h22 (fun _ _ h23 => (State.roomBack_inv (c.mono rfl) h23)))))
theorem State.resumeStart_inv (c : Clo 0x788039f03044107108cf04800c40c041300000401121cb4023377f08400000004040ffff P) {v0} {v1} (k0 : P v0) : P (State.resumeStart v0 v1) := by
  unfold State.resumeStart
  extract_lets +onlyGivenNames -merge x1 x3 x4
  have h2 : P x1 := by unfold x1; exact (State.updBoot_inv (c.mono rfl) k0)
  have h5 : P x4 := by unfold x4; exact (State.each_inv (c.mono rfl) h2 (fun _ _ h6 => (ite_p (fun _ => h6) (fun _ => (ite_p (fun _ => (c.setF rfl h6)) (fun _ => (State.askWake_inv (c.mono rfl) h6)))))))
  clear_value x1 x3 x4
  exact (ite_p (fun _ => (State.resumeFinish_inv (c.mono rfl) h5)) (fun _ => h5))
theorem State.wakeComplete_inv (c : Clo 0x788039f03044107108cf04800c40c041300000401121cb4023377f08400000004040ffff P) {v0} {v1} (k0 : P v0) : P (State.wakeComplete v0 v1) := by
  unfold State.wakeComplete
  refine ite_p (fun _ => k0) (fun _ => ?_)
  extract_lets +onlyGivenNames -merge x1 x3 x4 x7
  have h2 : P x1 := by unfold x1; exact (c.setF rfl (c.setF rfl k0))
  have h5 : P x4 := by unfold x4; exact (State.each_inv (c.mono rfl) (c.updBank rfl _ _ h2) (fun _ _ h6 => (State.respond_inv (c.mono rfl) h6)))
  have h8 : P x7 := by unfold x7; exact (State.drainCheck_inv (c.mono rfl) h5)
  clear_value x1 x3 x4 x7
  exact (ite_p (fun _ => (State.resumeFinish_inv (c.mono rfl) h8)) (fun _ => h8))
theorem execFoundationReset_inv (c : Clo 0x39f030c410710000040004004041300001000021c94020321c08c20000004010bffe P) {v0} {v1} (k1 : P v1) : (OutP P) (execFoundationReset v0 v1) := by
  unfold execFoundationReset
  exact (mk_next (State.submit_inv (c.mono rfl) k1 (fun _ h1 => (State.resetAccepted_inv (c.mono rfl) h1))))
theorem execFoundationResetPendingEnd_inv (c : Clo 0x8000000000000000000000000000000000000000006000000000000000cd52 P) {v0} (k0 : P v0) : (OutP P) (execFoundationResetPendingEnd v0) := by
  unfold execFoundationResetPendingEnd
  exact (mk_next (ite_p (fun _ => (State.updBoot_inv (c.mono rfl) (State.endPending_inv (c.mono rfl) k0))) (fun _ => k0)))
theorem execFoundationResetFreeze_inv (c : Clo 0x100000000000000000a158 P) {v0} (k0 : P v0) : (OutP P) (execFoundationResetFreeze v0) := by
  unfold execFoundationResetFreeze
  exact (mk_next (ite_p (fun _ => (State.updBoot_inv (c.mono rfl) (State.freezeUnits_inv (c.mono rfl) k0))) (fun _ => k0)))
theorem execFoundationResetHold_inv (c : Clo 0x39f0304400716000040004004041300001000021c94020101c08400000004030bfff P) {v0} (k0 : P v0) : (OutP P) (execFoundationResetHold v0) := by
  unfold execFoundationResetHold
  exact (mk_next (ite_p (fun _ => (State.updBoot_inv (c.mono rfl) (State.holdFoundation_inv (c.mono rfl) k0))) (fun _ => k0)))
theorem execFoundationResetRelease_inv (c : Clo 0xa018 P) {v0} (k0 : P v0) : (OutP P) (execFoundationResetRelease v0) := by
  unfold execFoundationResetRelease
  refine mk_next ?_
  refine ite_p (fun _ => ?_) (fun _ => k0)
  extract_lets +onlyGivenNames -merge x1
  clear_value x1
  exact (State.respondTo_inv (c.mono rfl) (State.updBoot_inv (c.mono rfl) k0))
theorem execResume_inv (c : Clo 0x788039f03044107108cf04800c40c041300000401121cb4023377f08c20000004040ffff P) {v0} {v1} (k1 : P v1) : (OutP P) (execResume v0 v1) := by
  unfold execResume
  exact (mk_next (State.submit_inv (c.mono rfl) k1 (fun _ h1 => (State.checks_inv (c.mono rfl) h1 (fun _ h2 => (State.resumeStart_inv (c.mono rfl) h2))))))
theorem execStackReset_inv (c : Clo 0x1e0200000000000000000000000000000000000000000000000820000000000a03a P) {v0} {v1} (k1 : P v1) : (OutP P) (execStackReset v0 v1) := by
  unfold execStackReset
  exact (mk_next (State.submit_inv (c.mono rfl) k1 (fun _ h1 => (State.reply_inv (c.mono rfl) (State.updBoot_inv (c.mono rfl) h1)))))
theorem execDelayedStackReset_inv (c : Clo 0x341f020080071000000000000000000000000000000000000000000000000700887b2 P) {v0} (k0 : P v0) : (OutP P) (execDelayedStackReset v0) := by
  unfold execDelayedStackReset
  refine mk_next ?_
  split
  ·
    rename_i y1 y2 y3
    exact (State.restart_inv (c.mono rfl) k0)
  ·
    rename_i y4 y5
    exact k0

end Sys2Proof.Machine
end

