-- ==== Sys2Proof/Laws/InvMail.lean ====
section
/-!
SUPPORT. What each operation of self-test, profile, recovery, security, the store, replay and the transports may change (see Laws/Closed.lean): one lemma per definition.
-/
namespace Sys2Proof.Machine
variable {P : State → Prop}

/-! ### SelfTest -/

theorem State.fallowNow_inv (c : Clo 0x39f0304400710000040004004041300000000021cb4020311008400000004005bffe P) {v0} (k0 : P v0) : P (State.fallowNow v0) := by
  unfold State.fallowNow
  extract_lets +onlyGivenNames -merge x1 x2 x3
  have h4 : P x3 := by unfold x3; exact (State.updBoot_inv (c.mono rfl) (State.markFallow_inv (c.mono rfl) k0))
  clear_value x1 x2 x3
  exact (ite_p (fun _ => (State.enterSafe_inv (c.mono rfl) h4)) (fun _ => h4))
theorem execSelftestRun_inv (c : Clo 0x39f03f4400710000040004004041300000000021cb6060311008c20000004005bffe P) {v0} {v1} {v2} {v3} {v4} (k4 : P v4) : (OutP P) (execSelftestRun v0 v1 v2 v3 v4) := by
  unfold execSelftestRun
  refine mk_next ?_
  refine State.submit_inv (c.mono rfl) k4 ?_
  intro a10 h9
  refine State.checks_inv (c.mono rfl) h9 ?_
  intro a14 h13
  extract_lets +onlyGivenNames -merge x15 x16
  have h17 : P x16 := by unfold x16; exact (State.fallowNow_inv (c.mono rfl) (State.each_inv (c.mono rfl) h13 (fun _ _ h18 => (State.testFailure_inv (c.mono rfl) h18))))
  clear_value x15 x16
  exact (State.replyData_inv (c.mono rfl) h17)
theorem execSelftestResult_inv (c : Clo 0x1e02f0000000000000000000000000000000000000000000000820000000000a03a P) {v0} {v1} (k1 : P v1) : (OutP P) (execSelftestResult v0 v1) := by
  unfold execSelftestResult
  refine mk_next ?_
  refine State.submit_inv (c.mono rfl) k1 ?_
  intro a6 h5
  extract_lets +onlyGivenNames -merge x7
  clear_value x7
  exact (State.replyData_inv (c.mono rfl) (State.popRecords_inv (c.mono rfl) h5))
theorem State.sliceStart_inv (c : Clo 0x1004000000000000000000000000000000000000000000000000000000000080 P) {v0} {v1} (k0 : P v0) : P (State.sliceStart v0 v1) := by
  unfold State.sliceStart
  extract_lets +onlyGivenNames -merge x1
  clear_value x1
  refine ite_p (fun _ => k0) (fun _ => ?_)
  split
  ·
    rename_i y2 y3
    exact k0
  ·
    rename_i y4 y5 y6
    extract_lets +onlyGivenNames -merge x7 x9
    have h8 : P x7 := by unfold x7; exact (c.updStair rfl _ _ k0)
    clear_value x7 x9
    exact (c.setF rfl (c.setF rfl h8))
theorem State.inSlice_inv (c : Clo 0x0 P) {v0} {v1} {v2} {v3 : Sys2Proof.Machine.Slice → Sys2Proof.Machine.State} (k0 : P v0) (k3 : ∀ a0, P (v3 a0)) : P (State.inSlice v0 v1 v2 v3) := by
  unfold State.inSlice
  split
  ·
    rename_i y1 y2 y3
    exact (ite_p (fun _ => (k3 _)) (fun _ => k0))
  ·
    rename_i y4 y5
    exact k0
theorem State.setSlice_inv (c : Clo 0x80 P) {v0} {v1} {v2} (k0 : P v0) : P (State.setSlice v0 v1 v2) := by
  unfold State.setSlice
  exact (c.updStair rfl _ _ k0)
theorem State.carryRows_inv (c : Clo 0x1e020000000000000000000000000000000000000012000000000000000000000a2 P) {v0} {v1} {v2} (k0 : P v0) : P (State.carryRows v0 v1 v2) := by
  unfold State.carryRows
  exact (State.each_inv (c.mono rfl) k0 (fun _ _ h1 => (State.carry_inv (c.mono rfl) h1)))
theorem State.sliceSaved_inv (c : Clo 0x1e020000031000000000000000000000000000000012000000000000000000006a2 P) {v0} {v1} {v2} (k0 : P v0) : P (State.sliceSaved v0 v1 v2) := by
  unfold State.sliceSaved
  refine State.inSlice_inv (c.mono rfl) k0 ?_
  intro a1
  extract_lets +onlyGivenNames -merge x2
  have h3 : P x2 := by
    unfold x2
    refine State.each_inv (c.mono rfl) k0 ?_
    intro a8 a9 h7
    extract_lets +onlyGivenNames -merge x10 x11
    clear_value x10 x11
    split
    ·
      rename_i y12 y13 y14 y15 y16
      have q18 := congr_p (Q := (SndP (SndP P))) y16 (by
          exact (State.rowRead_inv (c.mono rfl) h7)
        )
      have h17 : P y15 := q18
      extract_lets +onlyGivenNames -merge x19
      clear_value x19
      exact (State.each_inv (c.mono rfl) (State.putBytes_inv (c.mono rfl) h17) (fun _ _ h20 => (c.setSyn rfl _ _ h20)))
  clear_value x2
  exact (State.carryRows_inv (c.mono rfl) (State.setSlice_inv (c.mono rfl) h3))
theorem State.sliceFailure_inv (c : Clo 0xf04000000000000000000000000000000000000000000000000000000058180 P) {v0} {v1} {v2} (k0 : P v0) : P (State.sliceFailure v0 v1 v2) := by
  unfold State.sliceFailure
  split
  ·
    rename_i y1 y2
    exact k0
  ·
    rename_i y3 y4 y5
    split
    ·
      rename_i y6 y7 y8
      exact (State.setSlice_inv (c.mono rfl) (State.recordTest_inv (c.mono rfl) (State.assignSpare_inv (c.mono rfl) k0)))
    ·
      rename_i y9 y10
      exact (State.setSlice_inv (c.mono rfl) (State.recordTest_inv (c.mono rfl) k0))
theorem State.sliceMarched_inv (c : Clo 0xf04000000000000000000000000000000000000000000000000000000058180 P) {v0} {v1} {v2} (k0 : P v0) : P (State.sliceMarched v0 v1 v2) := by
  unfold State.sliceMarched
  exact (State.inSlice_inv (c.mono rfl) k0 (fun _ => (State.each_inv (c.mono rfl) (State.setSlice_inv (c.mono rfl) k0) (fun _ _ h1 => (State.sliceFailure_inv (c.mono rfl) h1)))))
theorem State.restoreHits_inv (c : Clo 0x4100000000000000000000000000000000000000000000000000000702 P) {v0} {v1} {v2} (k0 : P v0) : P (State.restoreHits v0 v1 v2) := by
  unfold State.restoreHits
  refine State.each_inv (c.mono rfl) k0 ?_
  intro a4 a5 h3
  extract_lets +onlyGivenNames -merge x6 x7
  clear_value x6 x7
  exact (ite_p (fun _ => (State.scramble_inv (c.mono rfl) (State.dropWrite_inv (c.mono rfl) h3))) (fun _ => (State.each_inv (c.mono rfl) h3 (fun _ _ h8 => (State.storePoison_inv (c.mono rfl) h8)))))
theorem State.sliceRestored_inv (c : Clo 0x39f0304410710000040004004041300000000021c94120321008400000004000bffe P) {v0} {v1} {v2} (k0 : P v0) : P (State.sliceRestored v0 v1 v2) := by
  unfold State.sliceRestored
  refine State.inSlice_inv (c.mono rfl) k0 ?_
  intro a1
  extract_lets +onlyGivenNames -merge x2 x3 x5 x6 x8
  have h4 : P x3 := by unfold x3; exact (c.updStair rfl _ _ (State.carryRows_inv (c.mono rfl) (State.restoreHits_inv (c.mono rfl) (State.endSlice_inv (c.mono rfl) k0))))
  have h7 : P x6 := by unfold x6; exact (c.setF rfl h4)
  have h9 : P x8 := by unfold x8; exact (State.sliceEnded_inv (c.mono rfl) h7)
  clear_value x2 x3 x5 x6 x8
  exact (ite_p (fun _ => h9) (fun _ => (State.enterSafe_inv (c.mono rfl) h9)))
theorem execBackgroundSlice_inv (c : Clo 0x1004000000000000000000000000000000000000000000000000000000000080 P) {v0} {v1} (k1 : P v1) : (OutP P) (execBackgroundSlice v0 v1) := by
  unfold execBackgroundSlice
  exact (mk_next (State.sliceStart_inv (c.mono rfl) k1))
theorem execSliceSaveDone_inv (c : Clo 0x1e020000031000000000000000000000000000000012000000000000000000006a2 P) {v0} {v1} (k1 : P v1) : (OutP P) (execSliceSaveDone v0 v1) := by
  unfold execSliceSaveDone
  exact (mk_next (State.sliceSaved_inv (c.mono rfl) k1))
theorem execSliceMarchDone_inv (c : Clo 0xf04000000000000000000000000000000000000000000000000000000058180 P) {v0} {v1} {v2} (k2 : P v2) : (OutP P) (execSliceMarchDone v0 v1 v2) := by
  unfold execSliceMarchDone
  exact (mk_next (State.sliceMarched_inv (c.mono rfl) k2))
theorem execSliceRestoreDone_inv (c : Clo 0x39f0304410710000040004004041300000000021c94120321008400000004000bffe P) {v0} {v1} (k1 : P v1) : (OutP P) (execSliceRestoreDone v0 v1) := by
  unfold execSliceRestoreDone
  exact (mk_next (State.sliceRestored_inv (c.mono rfl) k1))
theorem execSliceBudgetExpiry_inv (c : Clo 0x40000000000000000000000000000000000000000000000000000000000080 P) {v0} {v1} (k1 : P v1) : (OutP P) (execSliceBudgetExpiry v0 v1) := by
  unfold execSliceBudgetExpiry
  exact (mk_next (State.abandonMarch_inv (c.mono rfl) k1))

/-! ### Profile -/

theorem State.settingWrite_inv (c : Clo 0x5 P) {v0} {v1} {v2} (k0 : P v0) : P (State.settingWrite v0 v1 v2) := by
  unfold State.settingWrite
  split
  ·
    rename_i y1 y2 y3 y4
    exact (ite_p (fun _ => k0) (fun _ => (State.plainWrite_inv (c.mono rfl) k0)))
  ·
    rename_i y5 y6
    exact k0
theorem State.dropped_inv (c : Clo 0x8000000000000000000000000000000000000000000000000000000000000 P) {v0} {v1} (k0 : P v0) : P (State.dropped v0 v1) := by
  unfold State.dropped
  exact (c.inc rfl k0)
theorem State.settingGates_inv (c : Clo 0x1e020080000000004000c00c002100000000001cb400000000000007fc00000bc7a P) {v0} {v1} {v2} (k0 : P v0) : P (State.settingGates v0 v1 v2) := by
  unfold State.settingGates
  exact (State.each_inv (c.mono rfl) k0 (fun _ _ h1 => (ite_p (fun _ => (State.dropped_inv (c.mono rfl) h1)) (fun _ => (ite_p (fun _ => (State.gateOpened_inv (c.mono rfl) (snd_p (State.gateAsk_inv (c.mono rfl) h1)))) (fun _ => (snd_p (State.gateAsk_inv (c.mono rfl) h1))))))))
theorem State.settingOwner_inv (c : Clo 0x8000000000000000000000000000000000000000100000000000000000000 P) {v0} {v1} {v2} (k0 : P v0) : P (State.settingOwner v0 v1 v2) := by
  unfold State.settingOwner
  exact (ite_p (fun _ => (State.dropped_inv (c.mono rfl) k0)) (fun _ => (c.setF rfl (c.setF rfl k0))))
theorem State.applySetting_inv (c : Clo 0x1e020080000000004000c00c002100000000001cb400001000000007fc00000bc7f P) {v0} {v1} {v2} (k0 : P v0) : P (State.applySetting v0 v1 v2) := by
  unfold State.applySetting
  split
  ·
    rename_i y1 y2 y3
    exact (State.settingOwner_inv (c.mono rfl) k0)
  ·
    rename_i y4 y5 y6
    exact (State.settingGates_inv (c.mono rfl) k0)
  ·
    rename_i y7 y8 y9
    exact (State.settingGates_inv (c.mono rfl) k0)
  ·
    rename_i y10 y11 y12
    exact (State.settingGates_inv (c.mono rfl) k0)
  ·
    rename_i y13 y14 y15
    exact (State.settingGates_inv (c.mono rfl) k0)
  ·
    rename_i y16 y17 y18 y19 y20 y21
    exact (State.settingWrite_inv (c.mono rfl) k0)
theorem State.journalSettings_inv (c : Clo 0x1e020080000000004000c00c002100000000001cb400001000000007fc00000bc7f P) {v0} (k0 : P v0) : P (State.journalSettings v0) := by
  unfold State.journalSettings
  refine State.each_inv (c.mono rfl) k0 ?_
  intro a4 a5 h3
  extract_lets +onlyGivenNames -merge x6 x7
  clear_value x6 x7
  exact (State.applySetting_inv (c.mono rfl) h3)
theorem State.dropWorkers_inv (c : Clo 0x8000000000000000000000000000000000000000000000000000000000004 P) {v0} (k0 : P v0) : P (State.dropWorkers v0) := by
  unfold State.dropWorkers
  extract_lets +onlyGivenNames -merge x1 x13
  have h2 : ∀ a0 a1 a2, P a0 → P (x1 a0 a1 a2) := by
    intro a4 a5 a6 h3
    unfold x1
    beta_reduce
    split
    ·
      rename_i y7 y8
      exact h3
    ·
      rename_i y9 y10 y11
      extract_lets +onlyGivenNames -merge x12
      clear_value x12
      exact (ite_p (fun _ => h3) (fun _ => (State.stage_inv (c.mono rfl) (State.dropped_inv (c.mono rfl) h3))))
  have h14 : P x13 := by unfold x13; exact (State.each_inv (c.mono rfl) k0 (fun _ _ h15 => (h2 _ _ _ h15)))
  clear_value x1 x13
  exact (State.each_inv (c.mono rfl) h14 (fun _ _ h16 => (h2 _ _ _ h16)))
theorem State.dropLocations_inv (c : Clo 0x8000000000000000000000000000000000000000000000000000000000004 P) {v0} (k0 : P v0) : P (State.dropLocations v0) := by
  unfold State.dropLocations
  refine State.each_inv (c.mono rfl) k0 ?_
  intro a4 a5 h3
  split
  ·
    rename_i y6 y7 y8 y9 y10 y11
    extract_lets +onlyGivenNames -merge x12
    clear_value x12
    exact (ite_p (fun _ => (State.stage_inv (c.mono rfl) (State.dropped_inv (c.mono rfl) h3))) (fun _ => h3))
  ·
    rename_i y13 y14 y15
    exact h3
theorem State.profileWrite_inv (c : Clo 0x20001e020080000000004000c00c002100000000001cb400001000000007fc00000bc7f P) {v0} {v1} (k0 : P v0) : P (State.profileWrite v0 v1) := by
  unfold State.profileWrite
  exact (ite_p (fun _ => (c.wr rfl k0)) (fun _ => (State.applySetting_inv (c.mono rfl) k0)))
theorem State.stageProfile_inv (c : Clo 0x20001e020080000000004000c00c002100000000001cb400001000000007fc00000bc7f P) {v0} {v1} (k0 : P v0) : P (State.stageProfile v0 v1) := by
  unfold State.stageProfile
  extract_lets +onlyGivenNames -merge x1 x4
  have h2 : P x1 := by unfold x1; exact (State.each_inv (c.mono rfl) k0 (fun _ _ h3 => (State.profileWrite_inv (c.mono rfl) h3)))
  have h5 : P x4 := by unfold x4; exact (State.dropLocations_inv (c.mono rfl) (State.dropWorkers_inv (c.mono rfl) (State.journalSettings_inv (c.mono rfl) h2)))
  clear_value x1 x4
  exact (State.each_inv (c.mono rfl) h5 (fun _ _ h6 => (State.settingOwner_inv (c.mono rfl) h6)))
theorem State.profileGates_inv (c : Clo 0x1e020080000000004000c00c002100000000001cb400000000000007fc00000bc7a P) {v0} {v1} (k0 : P v0) : P (State.profileGates v0 v1) := by
  unfold State.profileGates
  exact (State.each_inv (c.mono rfl) k0 (fun _ _ h1 => (ite_p (fun _ => (State.dropped_inv (c.mono rfl) h1)) (fun _ => (State.gateOpened_inv (c.mono rfl) (snd_p (State.gateAsk_inv (c.mono rfl) h1)))))))
theorem State.profileStores_inv (c : Clo 0x10 P) {v0} {v1} (k0 : P v0) : P (State.profileStores v0 v1) := by
  unfold State.profileStores
  exact (State.each_inv (c.mono rfl) k0 (fun _ _ h1 => (ite_p (fun _ => h1) (fun _ => (State.postSpan_inv (c.mono rfl) h1)))))
theorem State.startLoads_inv (c : Clo 0xc40000000000000000000000040 P) {v0} {v1} (k0 : P v0) : P (State.startLoads v0 v1) := by
  unfold State.startLoads
  exact (State.each_inv (c.mono rfl) k0 (fun _ _ h1 => (snd_p (State.askLoad_inv (c.mono rfl) h1))))
theorem State.startWaiting_inv (c : Clo 0xc40000000000000000000008040 P) {v0} (k0 : P v0) : P (State.startWaiting v0) := by
  unfold State.startWaiting
  refine ite_p (fun _ => k0) (fun _ => ?_)
  extract_lets +onlyGivenNames -merge x1
  clear_value x1
  exact (State.startLoads_inv (c.mono rfl) (State.updBoot_inv (c.mono rfl) k0))
theorem State.storesThenLoads_inv (c : Clo 0xc40000000000000000000008050 P) {v0} {v1} (k0 : P v0) : P (State.storesThenLoads v0 v1) := by
  unfold State.storesThenLoads
  extract_lets +onlyGivenNames -merge x1
  clear_value x1
  exact (State.startWaiting_inv (c.mono rfl) (State.updBoot_inv (c.mono rfl) (State.profileStores_inv (c.mono rfl) k0)))
theorem State.rejectProfile_inv (c : Clo 0x4000000000000000000000000000000000000000000004000000000008008 P) {v0} {v1} {v2} (k0 : P v0) : P (State.rejectProfile v0 v1 v2) := by
  unfold State.rejectProfile
  extract_lets +onlyGivenNames -merge x1
  have h2 : P x1 := by unfold x1; exact (State.updBoot_inv (c.mono rfl) k0)
  clear_value x1
  exact (State.event_inv (c.mono rfl) (c.setF rfl h2))
theorem State.applyProfile_inv (c : Clo 0x20001e0200c0000000004000c00c002100000000001cf400001000840007fc00000bc7f P) {v0} {v1} (k0 : P v0) : P (State.applyProfile v0 v1) := by
  unfold State.applyProfile
  extract_lets +onlyGivenNames -merge x1
  clear_value x1
  refine ite_p (fun _ => k0) (fun _ => ?_)
  extract_lets +onlyGivenNames -merge x2 x3 x4
  clear_value x2 x3 x4
  refine ite_p (fun _ => (State.rejectProfile_inv (c.mono rfl) k0)) (fun _ => ?_)
  refine ite_p (fun _ => (State.rejectProfile_inv (c.mono rfl) k0)) (fun _ => ?_)
  extract_lets +onlyGivenNames -merge x5
  have h6 : P x5 := by unfold x5; exact (State.stageProfile_inv (c.mono rfl) (c.setF rfl k0))
  clear_value x5
  refine ite_p (fun _ => (State.rejectProfile_inv (c.mono rfl) (c.setF rfl k0))) (fun _ => ?_)
  extract_lets +onlyGivenNames -merge x7 x9
  have h8 : P x7 := by unfold x7; exact (State.storesThenLoads_inv (c.mono rfl) (State.profileGates_inv (c.mono rfl) (c.setF rfl h6)))
  have h10 : P x9 := by unfold x9; exact (State.updBoot_inv (c.mono rfl) h8)
  clear_value x7 x9
  exact (State.commitBegin_inv (c.mono rfl) (State.writeImage_inv (c.mono rfl) h10))
theorem execProfile_inv (c : Clo 0x20001e0200c0000000004000c00c002100000000001cf400001000840007fc00000bc7f P) {v0} {v1} (k1 : P v1) : (OutP P) (execProfile v0 v1) := by
  unfold execProfile
  exact (mk_next (State.applyProfile_inv (c.mono rfl) k1))
theorem State.epochFreeze_inv (c : Clo 0x39f0304400710000040004004041300001200021cd4020101c08400000004010bfff P) {v0} (k0 : P v0) : P (State.epochFreeze v0) := by
  unfold State.epochFreeze
  split
  ·
    rename_i y1 y2 y3
    exact (ite_p (fun _ => (ite_p (fun _ => k0) (fun _ => (State.commitFreeze_inv (c.mono rfl) (ite_p (fun _ => (State.setStep_inv (c.mono rfl) k0)) (fun _ => k0)))))) (fun _ => (State.commitFreeze_inv (c.mono rfl) k0)))
  ·
    rename_i y4 y5
    exact k0
theorem execCommitFreeze_inv (c : Clo 0x39f0304400710000040004004041300001200021cd4020101c08400000004010bfff P) {v0} (k0 : P v0) : (OutP P) (execCommitFreeze v0) := by
  unfold execCommitFreeze
  exact (mk_next (State.epochFreeze_inv (c.mono rfl) k0))

/-! ### Recovery -/

theorem State.wakeAll_inv (c : Clo 0x1000000000000000002118 P) {v0} (k0 : P v0) : P (State.wakeAll v0) := by
  unfold State.wakeAll
  extract_lets +onlyGivenNames -merge x1
  clear_value x1
  refine State.each_inv (c.mono rfl) k0 ?_
  intro a5 a6 h4
  refine ite_p (fun _ => h4) (fun _ => ?_)
  refine ite_p (fun _ => (c.setF rfl h4)) (fun _ => ?_)
  extract_lets +onlyGivenNames -merge x7 x9
  have h8 : P x7 := by unfold x7; exact (c.updBank rfl _ _ (c.setF rfl (c.setF rfl h4)))
  clear_value x7 x9
  exact (State.each_inv (c.mono rfl) (c.updBank rfl _ _ h8) (fun _ _ h10 => (State.respond_inv (c.mono rfl) h10)))
theorem State.askWakes_inv (c : Clo 0x1000000000000000000100 P) {v0} (k0 : P v0) : P (State.askWakes v0) := by
  unfold State.askWakes
  extract_lets +onlyGivenNames -merge x1
  clear_value x1
  exact (State.each_inv (c.mono rfl) k0 (fun _ _ h2 => (ite_p (fun _ => h2) (fun _ => (ite_p (fun _ => (c.setF rfl h2)) (fun _ => (State.askWake_inv (c.mono rfl) h2)))))))
theorem State.fieldFuses_inv (c : Clo 0x70100 P) {v0} (k0 : P v0) : P (State.fieldFuses v0) := by
  unfold State.fieldFuses
  extract_lets +onlyGivenNames -merge x1 x2
  have h3 : P x2 := by unfold x2; exact (State.each_inv (c.mono rfl) k0 (fun _ _ h4 => (State.updFuses_inv (c.mono rfl) (State.setSpare_inv (c.mono rfl) h4))))
  clear_value x1 x2
  exact (ite_p (fun _ => h3) (fun _ => (State.journalBatch_inv (c.mono rfl) h3)))
theorem State.restoreUnit_inv (c : Clo 0x100000000001c340202100000000000000058080 P) {v0} {v1} (k0 : P v0) : P (State.restoreUnit v0 v1) := by
  unfold State.restoreUnit
  extract_lets +onlyGivenNames -merge x1 x3
  have h2 : P x1 := by unfold x1; exact (State.updBoot_inv (c.mono rfl) k0)
  have h4 : P x3 := by unfold x3; exact (State.journalBatch_inv (c.mono rfl) h2)
  clear_value x1 x3
  split
  ·
    rename_i y5 y6
    exact (c.setF rfl (c.setF rfl (c.setF rfl h4)))
  ·
    rename_i y7 y8
    extract_lets +onlyGivenNames -merge x9
    have h10 : P x9 := by unfold x9; exact (c.setF rfl (c.setF rfl h4))
    clear_value x9
    exact (State.setDivisor_inv (c.mono rfl) (State.each_inv (c.mono rfl) h10 (fun _ _ h11 => (State.emptyPlane_inv (c.mono rfl) h11))))
  ·
    rename_i y12 y13
    exact (c.setF rfl (c.updStair rfl _ _ h4))
  ·
    rename_i y14 y15
    exact (c.setF rfl h4)
  ·
    rename_i y16 y17 y18 y19 y20
    exact h4
theorem State.recoveryTest_inv (c : Clo 0xf0400000000000000000000100000000001c360602100000000000000058180 P) {v0} {v1} {v2} (k0 : P v0) : P (State.recoveryTest v0 v1 v2) := by
  unfold State.recoveryTest
  extract_lets +onlyGivenNames -merge x1 x2
  have h3 : P x2 := by unfold x2; exact (State.each_inv (c.mono rfl) k0 (fun _ _ h4 => (State.testFailure_inv (c.mono rfl) h4)))
  clear_value x1 x2
  refine ite_p (fun _ => h3) (fun _ => ?_)
  extract_lets +onlyGivenNames -merge x5
  clear_value x5
  exact (State.each_inv (c.mono rfl) h3 (fun _ _ h6 => (State.restoreUnit_inv (c.mono rfl) h6)))
theorem State.recoveryWipes_inv (c : Clo 0x1c0402000000000000000000004c0 P) {v0} (k0 : P v0) : P (State.recoveryWipes v0) := by
  unfold State.recoveryWipes
  extract_lets +onlyGivenNames -merge x1 x2 x3 x4 x6 x8
  have h5 : P x4 := by unfold x4; exact (ite_p (fun _ => (State.wipeRooms_inv (c.mono rfl) k0)) (fun _ => k0))
  have h7 : P x6 := by unfold x6; exact (ite_p (fun _ => (State.wipeLanding_inv (c.mono rfl) h5)) (fun _ => h5))
  have h9 : P x8 := by unfold x8; exact (ite_p (fun _ => (State.each_inv (c.mono rfl) h7 (fun _ _ h10 => (ite_p (fun _ => h10) (fun _ => (c.wipe rfl _ _ h10)))))) (fun _ => h7))
  clear_value x4 x6 x8
  exact (ite_p (fun _ => (State.each_inv (c.mono rfl) h9 (fun _ _ h11 => (ite_p (fun _ => h11) (fun _ => (State.trackOff_inv (c.mono rfl) (c.updRoom rfl _ _ (c.setF rfl (State.each_inv (c.mono rfl) h11 (fun _ _ h12 => (State.emptyPlane_inv (c.mono rfl) h12))))))))))) (fun _ => h9))
theorem State.recoverySettings_inv (c : Clo 0x20001e020080000000004000c00c002100000000001cb400001000000007fc00001bc7f P) {v0} (k0 : P v0) : P (State.recoverySettings v0) := by
  unfold State.recoverySettings
  refine ite_p (fun _ => (State.fromImage_inv (c.mono rfl) k0)) (fun _ => ?_)
  extract_lets +onlyGivenNames -merge x1 x2 x3 x5 x7 x9 x10 x12
  have h4 : P x3 := by unfold x3; exact (State.updJ_inv (c.mono rfl) k0)
  have h6 : P x5 := by unfold x5; exact (c.staged rfl _ h4)
  have h8 : P x7 := by unfold x7; exact (State.stageProfile_inv (c.mono rfl) h6)
  have h11 : P x10 := by unfold x10; exact (State.updJ_inv (c.mono rfl) h8)
  have h13 : P x12 := by unfold x12; exact (State.takeSet_inv (c.mono rfl) (c.staged rfl _ h11))
  clear_value x1 x2 x3 x5 x7 x9 x10 x12
  exact (State.profileStores_inv (c.mono rfl) h13)
theorem State.clearBooksFault_inv (c : Clo 0xc080000000000000000 P) {v0} (k0 : P v0) : P (State.clearBooksFault v0) := by
  unfold State.clearBooksFault
  extract_lets +onlyGivenNames -merge x1
  have h2 : P x1 := by unfold x1; exact (c.setF rfl k0)
  clear_value x1
  exact (c.wr rfl (c.wr rfl h2))
theorem State.leaveStep6_inv (c : Clo 0x4000000000000 P) {v0} (k0 : P v0) : P (State.leaveStep6 v0) := by
  unfold State.leaveStep6
  exact (ite_p (fun _ => (c.setF rfl k0)) (fun _ => k0))
theorem State.recoverStart_inv (c : Clo 0x39f03044007108cf040004004041300000001021c96060103c08410400004047fffe P) {v0} (k0 : P v0) : P (State.recoverStart v0) := by
  unfold State.recoverStart
  extract_lets +onlyGivenNames -merge x1 x3 x5 x9 x10 x20 x22 x24
  have h2 : P x1 := by unfold x1; exact (State.clearBooksFault_inv (c.mono rfl) (State.fieldFuses_inv (c.mono rfl) (State.readJournal_inv (c.mono rfl) k0)))
  have h4 : P x3 := by unfold x3; exact (State.settleRequests_inv (c.mono rfl) h2)
  have h6 : P x5 := by unfold x5; exact (State.each_inv (c.mono rfl) h4 (fun _ _ h7 => (ite_p (fun _ => h7) (fun _ => (State.trackOff_inv (c.mono rfl) (c.setF rfl (c.setF rfl (State.each_inv (c.mono rfl) h7 (fun _ _ h8 => (State.emptyPlane_inv (c.mono rfl) h8))))))))))
  have h11 : P x10 := by
    unfold x10
    refine State.each_inv (c.mono rfl) h6 ?_
    intro a16 a17 h15
    extract_lets +onlyGivenNames -merge x18
    have h19 : P x18 := by unfold x18; exact (c.setF rfl h15)
    clear_value x18
    exact (ite_p (fun _ => (c.setF rfl h19)) (fun _ => h19))
  have h21 : P x20 := by unfold x20; exact (c.setF rfl h11)
  have h23 : P x22 := by unfold x22; exact (c.setF rfl (c.setF rfl h21))
  have h25 : P x24 := by unfold x24; exact (State.updBoot_inv (c.mono rfl) h23)
  clear_value x1 x3 x5 x9 x10 x20 x22 x24
  exact (State.beginTests_inv (c.mono rfl) (State.setStep_inv (c.mono rfl) (State.leaveStep6_inv (c.mono rfl) h25)))
theorem State.recoverRooms_inv (c : Clo 0x39f03044007108cf040004004041300000000021cf4020101c08400000004040fffe P) {v0} (k0 : P v0) : P (State.recoverRooms v0) := by
  unfold State.recoverRooms
  extract_lets +onlyGivenNames -merge x1 x2
  have h3 : P x2 := by unfold x2; exact (State.each_inv (c.mono rfl) (State.settleRequests_inv (c.mono rfl) k0) (fun _ _ h4 => (State.roomBack_inv (c.mono rfl) h4)))
  clear_value x1 x2
  exact (ite_p (fun _ => (State.startLoads_inv (c.mono rfl) h3)) (fun _ => h3))
theorem State.recoverOn_inv (c : Clo 0x20039f03f4c007108cf04000c00c043300000001021cf6060313c0841047fc04047ffff P) {v0} (k0 : P v0) : P (State.recoverOn v0) := by
  unfold State.recoverOn
  split
  ·
    rename_i y1 y2
    exact k0
  ·
    rename_i y3 y4 y5 y6
    extract_lets +onlyGivenNames -merge x7 x8
    have h9 : P x8 := by unfold x8; exact (State.updBoot_inv (c.mono rfl) k0)
    clear_value x7 x8
    refine ite_p (fun _ => (State.respondTo_inv (c.mono rfl) h9)) (fun _ => ?_)
    refine ite_p (fun _ => (State.respondTo_inv (c.mono rfl) (State.recoverStart_inv (c.mono rfl) h9))) (fun _ => ?_)
    extract_lets +onlyGivenNames -merge x10 x13 x15
    have h11 : P x10 := by unfold x10; exact (State.each_inv (c.mono rfl) h9 (fun _ _ h12 => (ite_p (fun _ => h12) (fun _ => (State.remap_inv (c.mono rfl) h12)))))
    have h14 : P x13 := by unfold x13; exact (State.recoveryTest_inv (c.mono rfl) (State.fieldFuses_inv (c.mono rfl) h11))
    have h16 : P x15 := by unfold x15; exact (State.markFallow_inv (c.mono rfl) h14)
    clear_value x10 x13 x15
    exact (ite_p (fun _ => (State.respondTo_inv (c.mono rfl) h16)) (fun _ => (State.commitBegin_inv (c.mono rfl) (State.recoverRooms_inv (c.mono rfl) (State.recoverySettings_inv (c.mono rfl) (State.recoveryWipes_inv (c.mono rfl) h16))))))
theorem State.recoverBegin_inv (c : Clo 0x20039f03fcc107168cf04000c00c043300001001021cf6060337c0841047fc04077ffff P) {v0} {v1} {v2} {v3} (k0 : P v0) : P (State.recoverBegin v0 v1 v2 v3) := by
  unfold State.recoverBegin
  extract_lets +onlyGivenNames -merge x1 x3 x5 x7 x9
  have h2 : P x1 := by unfold x1; exact (c.setF rfl (State.abandonReset_inv (c.mono rfl) k0))
  have h4 : P x3 := by unfold x3; exact (c.setF rfl (c.setF rfl h2))
  have h6 : P x5 := by unfold x5; exact (State.stopWork_inv (c.mono rfl) (c.wr rfl h4))
  have h8 : P x7 := by unfold x7; exact (State.askWakes_inv (c.mono rfl) (State.holdFoundation_inv (c.mono rfl) (State.freezeUnits_inv (c.mono rfl) (State.endPending_inv (c.mono rfl) h6))))
  have h10 : P x9 := by unfold x9; exact (State.updBoot_inv (c.mono rfl) h8)
  clear_value x1 x3 x5 x7 x9
  exact (ite_p (fun _ => (State.recoverOn_inv (c.mono rfl) h10)) (fun _ => h10))
theorem execWakeComplete_inv (c : Clo 0x7a8039f03f4c107108cf04800c40c043300000401121cf6063377f0841047fc04047ffff P) {v0} {v1} (k1 : P v1) : (OutP P) (execWakeComplete v0 v1) := by
  unfold execWakeComplete
  refine mk_next ?_
  extract_lets +onlyGivenNames -merge x1
  have h2 : P x1 := by unfold x1; exact (State.wakeComplete_inv (c.mono rfl) k1)
  clear_value x1
  exact (ite_p (fun _ => (State.recoverOn_inv (c.mono rfl) h2)) (fun _ => h2))
theorem State.recoverEnd_inv (c : Clo 0x788039f03044107108cf04800c40c041300000401121c94023377c08400480004040fffe P) {v0} (k0 : P v0) : P (State.recoverEnd v0) := by
  unfold State.recoverEnd
  extract_lets +onlyGivenNames -merge x1 x3 x5 x7 x9 x11 x13 x15 x18
  have h2 : P x1 := by unfold x1; exact (State.clearBooksFault_inv (c.mono rfl) k0)
  have h4 : P x3 := by unfold x3; exact (c.setF rfl (c.setF rfl h2))
  have h6 : P x5 := by unfold x5; exact (c.setF rfl (c.setF rfl h4))
  have h8 : P x7 := by unfold x7; exact (c.setF rfl (c.setF rfl h6))
  have h10 : P x9 := by unfold x9; exact (c.setF rfl (c.setF rfl h8))
  have h12 : P x11 := by unfold x11; exact (State.updBoot_inv (c.mono rfl) h10)
  have h14 : P x13 := by unfold x13; exact (State.schedRestored_inv (c.mono rfl) (State.leaveStep6_inv (c.mono rfl) h12))
  have h16 : P x15 := by unfold x15; exact (State.each_inv (c.mono rfl) h14 (fun _ _ h17 => (State.endHandover_inv (c.mono rfl) h17)))
  have h19 : P x18 := by unfold x18; exact (State.repostTokens_inv (c.mono rfl) h16)
  clear_value x1 x3 x5 x7 x9 x11 x13 x15 x18
  exact (State.restartUnits_inv (c.mono rfl) (State.schedSwitches_inv (c.mono rfl) (State.schedTasks_inv (c.mono rfl) h19)))
theorem execRecover_inv (c : Clo 0x20039f03fcc107168cf04000c00c043300001001021cf6060337c08c3047fc04077ffff P) {v0} {v1} {v2} {v3} (k3 : P v3) : (OutP P) (execRecover v0 v1 v2 v3) := by
  unfold execRecover
  exact (mk_next (State.submit_inv (c.mono rfl) k3 (fun _ h1 => (State.checks_inv (c.mono rfl) h1 (fun _ h2 => (State.recoverBegin_inv (c.mono rfl) h2))))))

/-! ### Security -/

theorem execLcStatus_inv (c : Clo 0x1e0200000000000000000000000000000000000000000000000820000000000203a P) {v0} {v1} (k1 : P v1) : (OutP P) (execLcStatus v0 v1) := by
  unfold execLcStatus
  exact (mk_next (State.submit_inv (c.mono rfl) k1 (fun _ h1 => (State.replyData_inv (c.mono rfl) h1))))
theorem execCertRead_inv (c : Clo 0x3c78d039f03f445071600004804c40cc41300002000021cd4021371c08c20043c04020bfff P) {v0} {v1} {v2} {v3} (k3 : P v3) : (OutP P) (execCertRead v0 v1 v2 v3) := by
  unfold execCertRead
  exact (mk_next (State.submit_inv (c.mono rfl) k3 (fun _ h1 => (State.checks_inv (c.mono rfl) h1 (fun _ h2 => (State.writeOut_inv (c.mono rfl) h2))))))
theorem execAttest_inv (c : Clo 0x3c78d039f03f445071600004804c40cc41300002000021cd4021371c08c20043c04020bfff P) {v0} {v1} {v2} {v3} {v4} (k4 : P v4) : (OutP P) (execAttest v0 v1 v2 v3 v4) := by
  unfold execAttest
  refine mk_next ?_
  refine State.submit_inv (c.mono rfl) k4 ?_
  intro a10 h9
  refine State.checks_inv (c.mono rfl) h9 ?_
  intro a14 h13
  extract_lets +onlyGivenNames -merge x15
  clear_value x15
  exact (State.writeOut_inv (c.mono rfl) h13)
theorem State.consumeChallenge_inv (c : Clo 0x5000000000000000000000000000000000000000000000000000000000000000000000 P) {v0} (k0 : P v0) : P (State.consumeChallenge v0) := by
  unfold State.consumeChallenge
  extract_lets +onlyGivenNames -merge x1
  have h2 : P x1 := by unfold x1; exact (State.each_inv (c.mono rfl) k0 (fun _ _ h3 => (c.setF rfl h3)))
  clear_value x1
  exact (c.setF rfl h2)
theorem State.authFails_inv (c : Clo 0x2000000000000000000000000000000000000000000000000000000000000000002018 P) {v0} {v1} (k0 : P v0) : P (State.authFails v0 v1) := by
  unfold State.authFails
  exact (State.respond_inv (c.mono rfl) (c.inc rfl k0))
theorem State.eraseRange_inv (c : Clo 0x901000000000000000000000000000000000000000000000000601a P) {v0} {v1} (k0 : P v0) : P (State.eraseRange v0 v1) := by
  unfold State.eraseRange
  refine ite_p (fun _ => k0) (fun _ => ?_)
  extract_lets +onlyGivenNames -merge x1 x3 x5 x6 x8
  have h2 : P x1 := by unfold x1; exact (State.endJobs_inv (c.mono rfl) k0)
  have h4 : P x3 := by unfold x3; exact (State.updCr_inv (c.mono rfl) h2)
  have h7 : P x6 := by unfold x6; exact (State.setRange_inv (c.mono rfl) (State.updCrr_inv (c.mono rfl) h4))
  have h9 : P x8 := by unfold x8; exact (c.setF rfl (c.setF rfl h7))
  clear_value x1 x3 x5 x6 x8
  exact (State.respondTo_inv (c.mono rfl) (c.setF rfl h9))
theorem State.eraseSecrets_inv (c : Clo 0x1e020000000690104000c00c000000000000000000000000000000000000000603a P) {v0} (k0 : P v0) : P (State.eraseSecrets v0) := by
  unfold State.eraseSecrets
  extract_lets +onlyGivenNames -merge x1
  have h2 : P x1 := by unfold x1; exact (State.each_inv (c.mono rfl) k0 (fun _ _ h3 => (State.eraseRange_inv (c.mono rfl) h3)))
  clear_value x1
  exact (State.each_inv (c.mono rfl) h2 (fun _ _ h4 => (State.when_inv (c.mono rfl) (State.dropKeys_inv (c.mono rfl) h4) (fun _ h5 => (State.holdDown_inv (c.mono rfl) h5)))))
theorem State.fuseTransition_inv (c : Clo 0x1e02000000000000000000000000000000000000000000000000000000000020022 P) {v0} {v1} {v2} (k0 : P v0) : P (State.fuseTransition v0 v1 v2) := by
  unfold State.fuseTransition
  extract_lets +onlyGivenNames -merge x1
  have h2 : P x1 := by
    unfold x1
    refine ite_p (fun _ => ?_) (fun _ => (ite_p (fun _ => (State.updFuses_inv (c.mono rfl) k0)) (fun _ => (ite_p (fun _ => (State.updFuses_inv (c.mono rfl) k0)) (fun _ => k0)))))
    split
    ·
      rename_i y3 y4 y5 y6
      have q8 := congr_p (Q := (SndP P)) y6 (by
          exact (State.trng_inv (c.mono rfl) k0)
        )
      have h7 : P y5 := q8
      split
      ·
        rename_i y9 y10 y11 y12
        have q14 := congr_p (Q := (SndP P)) y12 (by
            exact (State.trng_inv (c.mono rfl) h7)
          )
        have h13 : P y11 := q14
        split
        ·
          rename_i y15 y16 y17 y18
          have q20 := congr_p (Q := (SndP P)) y18 (by
              exact (State.trng_inv (c.mono rfl) h13)
            )
          have h19 : P y17 := q20
          exact (State.updFuses_inv (c.mono rfl) h19)
  clear_value x1
  exact (State.updFuses_inv (c.mono rfl) h2)
theorem State.readSource_inv (c : Clo 0x3c78d039f03f445071600004804c40cc41300002000021cd4021371c08400043c04020bfff P) {v0} {v1} {v2} {v3} {v4} (k0 : P v0) : (FstP P) (State.readSource v0 v1 v2 v3 v4) := by
  unfold State.readSource
  extract_lets +onlyGivenNames -merge x1
  clear_value x1
  exact (State.memGo_inv (c.mono rfl) k0)
theorem State.transitionEnd_inv (c : Clo 0x7001e020000000690104000c00c000000000000000000000000000000000000002e03a P) {v0} {v1} {v2} (k0 : P v0) : P (State.transitionEnd v0 v1 v2) := by
  unfold State.transitionEnd
  extract_lets +onlyGivenNames -merge x1 x2 x3 x4
  clear_value x1 x2 x3 x4
  split
  ·
    rename_i y5 y6
    exact (State.respond_inv (c.mono rfl) (State.consumeChallenge_inv (c.mono rfl) k0))
  ·
    rename_i y7 y8 y9 y10
    extract_lets +onlyGivenNames -merge x11 x12
    have h13 : P x12 := by unfold x12; exact (State.consumeChallenge_inv (c.mono rfl) k0)
    clear_value x11 x12
    refine ite_p (fun _ => (State.respond_inv (c.mono rfl) h13)) (fun _ => ?_)
    refine ite_p (fun _ => (State.respond_inv (c.mono rfl) h13)) (fun _ => ?_)
    refine ite_p (fun _ => (State.authFails_inv (c.mono rfl) h13)) (fun _ => ?_)
    refine ite_p (fun _ => (State.respond_inv (c.mono rfl) h13)) (fun _ => ?_)
    refine ite_p (fun _ => (State.respond_inv (c.mono rfl) h13)) (fun _ => ?_)
    extract_lets +onlyGivenNames -merge x14
    have h15 : P x14 := by unfold x14; exact (State.updSec_inv (c.mono rfl) (State.fuseTransition_inv (c.mono rfl) (State.eraseSecrets_inv (c.mono rfl) h13)))
    clear_value x14
    exact (State.respond_inv (c.mono rfl) (State.updBoot_inv (c.mono rfl) h15))
theorem execLcTransition_inv (c : Clo 0x3c78f039f03f445071690104804c40cc41300002000021cd4021371c08c20043c04022ffff P) {v0} {v1} {v2} {v3} {v4} (k4 : P v4) : (OutP P) (execLcTransition v0 v1 v2 v3 v4) := by
  unfold execLcTransition
  refine mk_next ?_
  refine State.submit_inv (c.mono rfl) k4 ?_
  intro a6 h5
  extract_lets +onlyGivenNames -merge x7
  have h8 : ∀ a0 a1, (FunP P) a1 → P (x7 a0 a1) := by
    intro a9 a11 h10
    unfold x7
    beta_reduce
    split
    ·
      rename_i y12 y13 y14 y15
      exact (State.reply_inv (c.mono rfl) (State.consumeChallenge_inv (c.mono rfl) h5))
    ·
      rename_i y16 y17
      exact (h10 _ h5)
  clear_value x7
  refine h8 _ _ ?_
  intro a20 h19
  beta_reduce
  split
  ·
    rename_i y21 y22 y23 y24
    have q26 := congr_p (Q := (FstP P)) y24 (by
        exact (State.readSource_inv (c.mono rfl) (State.uncommitted_inv (c.mono rfl) h19))
      )
    have h25 : P y22 := q26
    split
    ·
      rename_i y27 y28
      exact (State.transitionEnd_inv (c.mono rfl) h25)
    ·
      rename_i y29
      exact h25
theorem State.grantDebug_inv (c : Clo 0x81e020000000690104000c00c000000000000000000000000000000000000000603a P) {v0} {v1} {v2} (k0 : P v0) : P (State.grantDebug v0 v1 v2) := by
  unfold State.grantDebug
  extract_lets +onlyGivenNames -merge x1
  have h2 : P x1 := by unfold x1; exact (ite_p (fun _ => (State.eraseSecrets_inv (c.mono rfl) k0)) (fun _ => k0))
  clear_value x1
  exact (State.respond_inv (c.mono rfl) (c.setF rfl h2))
theorem State.debugEnd_inv (c : Clo 0x7081e020000000690104000c00c000000000000000000000000000000000000000603a P) {v0} {v1} {v2} (k0 : P v0) : P (State.debugEnd v0 v1 v2) := by
  unfold State.debugEnd
  split
  ·
    rename_i y1 y2
    exact (State.respond_inv (c.mono rfl) k0)
  ·
    rename_i y3 y4 y5 y6
    extract_lets +onlyGivenNames -merge x7 x8
    have h9 : P x8 := by unfold x8; exact (State.consumeChallenge_inv (c.mono rfl) k0)
    clear_value x7 x8
    exact (ite_p (fun _ => (State.respond_inv (c.mono rfl) h9)) (fun _ => (ite_p (fun _ => (State.grantDebug_inv (c.mono rfl) h9)) (fun _ => (State.authFails_inv (c.mono rfl) h9)))))
theorem State.debugAccess_inv (c : Clo 0x3c78f0b9f03f445071690104804c40cc41300002000021cd4021371c08400043c04020ffff P) {v0} {v1} {v2} {v3} {v4} (k0 : P v0) : P (State.debugAccess v0 v1 v2 v3 v4) := by
  unfold State.debugAccess
  extract_lets +onlyGivenNames -merge x1 x2
  have h3 : P x2 := by unfold x2; exact (State.consumeChallenge_inv (c.mono rfl) k0)
  clear_value x1 x2
  refine ite_p (fun _ => (State.reply_inv (c.mono rfl) h3)) (fun _ => ?_)
  refine ite_p (fun _ => (State.reply_inv (c.mono rfl) h3)) (fun _ => ?_)
  refine ite_p (fun _ => (State.reply_inv (c.mono rfl) (c.setF rfl h3))) (fun _ => ?_)
  refine ite_p (fun _ => (State.reply_inv (c.mono rfl) h3)) (fun _ => ?_)
  split
  ·
    rename_i y4 y5
    exact (State.grantDebug_inv (c.mono rfl) h3)
  ·
    rename_i y6 y7 y8
    refine ite_p (fun _ => (State.reply_inv (c.mono rfl) h3)) (fun _ => ?_)
    split
    ·
      rename_i y9 y10 y11 y12
      have q14 := congr_p (Q := (FstP P)) y12 (by
          exact (State.readSource_inv (c.mono rfl) (State.uncommitted_inv (c.mono rfl) k0))
        )
      have h13 : P y10 := q14
      split
      ·
        rename_i y15 y16
        exact (State.debugEnd_inv (c.mono rfl) h13)
      ·
        rename_i y17
        exact h13
theorem execDebugAccess_inv (c : Clo 0x3c78f0b9f03f445071690104804c40cc41300002000021cd4021371c08c20043c04020ffff P) {v0} {v1} {v2} {v3} {v4} (k4 : P v4) : (OutP P) (execDebugAccess v0 v1 v2 v3 v4) := by
  unfold execDebugAccess
  exact (mk_next (State.submit_inv (c.mono rfl) k4 (fun _ h1 => (State.debugAccess_inv (c.mono rfl) h1))))
theorem State.setTap_inv (c : Clo 0x8000 P) {v0} {v1} (k0 : P v0) : P (State.setTap v0 v1) := by
  unfold State.setTap
  exact (State.updSec_inv (c.mono rfl) k0)
theorem State.debugSend_inv (c : Clo 0x8010 P) {v0} {v1} {v2} (k0 : P v0) : P (State.debugSend v0 v1 v2) := by
  unfold State.debugSend
  extract_lets +onlyGivenNames -merge x1 x2
  clear_value x1 x2
  exact (State.request_inv (c.mono rfl) (State.setTap_inv (c.mono rfl) k0))
theorem State.debugForced_inv (c : Clo 0x80000000000000000 P) {v0} (k0 : P v0) : P (State.debugForced v0) := by
  unfold State.debugForced
  exact (c.setF rfl k0)
theorem State.debugRead_inv (c : Clo 0x788001e0200040310000000000000c0000000000000000000000000000000000002082b3 P) {v0} {v1} (k0 : P v0) : P (State.debugRead v0 v1) := by
  unfold State.debugRead
  split
  ·
    rename_i y1 y2 y3
    split
    ·
      rename_i y4 y5 y6 y7
      have q9 := congr_p (Q := (SndP P)) y7 (by
          exact (State.csrGet_inv (c.mono rfl) k0)
        )
      have h8 : P y6 := q9
      exact (State.setTap_inv (c.mono rfl) h8)
    ·
      rename_i y10 y11 y12 y13
      have q15 := congr_p (Q := (SndP P)) y13 (by
          exact (State.csrGet_inv (c.mono rfl) k0)
        )
      have h14 : P y12 := q15
      exact h14
  ·
    rename_i y16 y17
    split
    ·
      rename_i y18 y19 y20 y21 y22
      have q24 := congr_p (Q := (SndP (SndP P))) y22 (by
          exact (State.readSpan_inv (c.mono rfl) k0)
        )
      have h23 : P y21 := q24
      exact (State.setTap_inv (c.mono rfl) h23)
  ·
    rename_i y25 y26
    exact (State.busError_inv (c.mono rfl) k0)
  ·
    rename_i y27 y28 y29 y30
    exact (State.debugSend_inv (c.mono rfl) k0)
theorem State.debugWrite_inv (c : Clo 0x3c78d039f03f441071600004804c40c041300002000021cd4021371c08400043c04000bfff P) {v0} {v1} {v2} (k0 : P v0) : P (State.debugWrite v0 v1 v2) := by
  unfold State.debugWrite
  split
  ·
    rename_i y1 y2 y3
    exact (snd_p (State.csrPut_inv (c.mono rfl) (State.debugForced_inv (c.mono rfl) k0)))
  ·
    rename_i y4 y5
    exact (snd_p (State.writeSpanAs_inv (c.mono rfl) (State.debugForced_inv (c.mono rfl) k0)))
  ·
    rename_i y6 y7
    exact (State.busError_inv (c.mono rfl) k0)
  ·
    rename_i y8 y9 y10 y11
    exact (State.debugSend_inv (c.mono rfl) k0)
theorem State.tapDo_inv (c : Clo 0x3c78d039f03f445071600004804c40cc41300002000021cd4021371c08400043c04020bfff P) {v0} {v1} (k0 : P v0) : P (State.tapDo v0 v1) := by
  unfold State.tapDo
  extract_lets +onlyGivenNames -merge x1
  clear_value x1
  split
  ·
    rename_i y2
    exact (State.setTap_inv (c.mono rfl) k0)
  ·
    rename_i y3 y4
    extract_lets +onlyGivenNames -merge x5 x6
    have h7 : P x6 := by unfold x6; exact (ite_p (fun _ => (State.hazard_inv (c.mono rfl) k0)) (fun _ => k0))
    clear_value x5 x6
    exact (c.drawn rfl  (State.setTap_inv (c.mono rfl) h7))
  ·
    rename_i y8 y9 y10
    extract_lets +onlyGivenNames -merge x11
    clear_value x11
    refine ite_p (fun _ => ?_) (fun _ => ?_)
    ·
      split
      ·
        rename_i y12 y13 y14 y15
        exact (State.setTap_inv (c.mono rfl) k0)
    ·
      refine ite_p (fun _ => ?_) (fun _ => ?_)
      ·
        extract_lets +onlyGivenNames -merge x16 x18
        have h17 : P x16 := by unfold x16; exact (ite_p (fun _ => (State.hazard_inv (c.mono rfl) k0)) (fun _ => k0))
        clear_value x16 x18
        exact (c.drawn rfl  (State.setTap_inv (c.mono rfl) h17))
      ·
        split
        ·
          rename_i y19 y20 y21 y22
          exact (State.setTap_inv (c.mono rfl) k0)
  ·
    rename_i y23 y24
    exact (ite_p (fun _ => (State.debugRead_inv (c.mono rfl) (State.hazard_inv (c.mono rfl) k0))) (fun _ => k0))
  ·
    rename_i y25 y26 y27
    exact (ite_p (fun _ => (State.debugWrite_inv (c.mono rfl) (State.hazard_inv (c.mono rfl) k0))) (fun _ => k0))
  ·
    rename_i y28 y29
    exact (ite_p (fun _ => (State.haltRequest_inv (c.mono rfl) (State.hazard_inv (c.mono rfl) k0))) (fun _ => k0))
theorem State.tapRun_inv (c : Clo 0x3c78d039f03f445071600004804c40cc41300002000021cd4021371c08400043c04020bfff P) {v0} {v1} (k1 : P v1) : P (State.tapRun v0 v1) := by
  induction v0 generalizing v1 k1 with
  | zero =>
    rw [State.tapRun]
    exact k1
  | succ n ih =>
    rw [State.tapRun]
    refine ite_p (fun _ => k1) (fun _ => ?_)
    split
    ·
      rename_i y1 y2
      exact k1
    ·
      rename_i y3 y4 y5 y6
      exact (by apply ih; exact (State.tapDo_inv (c.mono rfl) (State.setTap_inv (c.mono rfl) k1)))
theorem State.tapGo_inv (c : Clo 0x3c78d039f03f445071600004804c40cc41300002000021cd4021371c08400043c04020bfff P) {v0} (k0 : P v0) : P (State.tapGo v0) := by
  unfold State.tapGo
  exact (State.tapRun_inv (c.mono rfl) k0)
theorem execTapAccess_inv (c : Clo 0x3c78d039f03f445071600004804c40cc41300002000021cd4021371c08400043c04020bfff P) {v0} {v1} (k1 : P v1) : (OutP P) (execTapAccess v0 v1) := by
  unfold execTapAccess
  exact (mk_next (ite_p (fun _ => k1) (fun _ => (ite_p (fun _ => (State.tapDo_inv (c.mono rfl) (State.setTap_inv (c.mono rfl) k1))) (fun _ => (State.tapGo_inv (c.mono rfl) (State.setTap_inv (c.mono rfl) k1)))))))
theorem State.tapAnswer_inv (c : Clo 0x3c78d039f03f445071600004804c40cc41300002000021cd4021371c08400043c04020bfff P) {v0} {v1} {v2} {v3} (k0 : P v0) : P (State.tapAnswer v0 v1 v2 v3) := by
  unfold State.tapAnswer
  refine ite_p (fun _ => k0) (fun _ => ?_)
  refine ite_p (fun _ => (State.request_inv (c.mono rfl) k0)) (fun _ => ?_)
  extract_lets +onlyGivenNames -merge x1
  have h2 : P x1 := by unfold x1; exact (State.setTap_inv (c.mono rfl) k0)
  clear_value x1
  exact (State.tapGo_inv (c.mono rfl) (ite_p (fun _ => (State.debugForced_inv (c.mono rfl) h2)) (fun _ => h2)))
theorem execStartUpSelfTest_inv (c : Clo 0x3c78d039f03f445071600004804c40cc41300002000021cf6061371c08400043c04025bfff P) {v0} {v1} {v2} {v3} {v4} (k4 : P v4) : (OutP P) (execStartUpSelfTest v0 v1 v2 v3 v4) := by
  unfold execStartUpSelfTest
  exact (mk_next (State.tapGo_inv (c.mono rfl) (State.startTest_inv (c.mono rfl) k4)))

/-! ### StoreCmd -/

theorem execStoreStatus_inv (c : Clo 0x1e0200000000000000000000000000000000000000000000000820000000000203a P) {v0} {v1} (k1 : P v1) : (OutP P) (execStoreStatus v0 v1) := by
  unfold execStoreStatus
  exact (mk_next (State.submit_inv (c.mono rfl) k1 (fun _ h1 => (State.replyData_inv (c.mono rfl) h1))))
theorem execProfileList_inv (c : Clo 0x1e0200000000000000000000000000000000000000000000000820000000000203a P) {v0} {v1} (k1 : P v1) : (OutP P) (execProfileList v0 v1) := by
  unfold execProfileList
  exact (mk_next (State.submit_inv (c.mono rfl) k1 (fun _ h1 => (State.replyData_inv (c.mono rfl) h1))))
theorem State.startFlash_inv (c : Clo 0x40008 P) {v0} (k0 : P v0) : P (State.startFlash v0) := by
  unfold State.startFlash
  split
  ·
    rename_i y1 y2
    exact k0
  ·
    rename_i y3 y4 y5 y6
    exact (ite_p (fun _ => (State.committed_inv (c.mono rfl) (c.eraseFlash rfl _ _ k0))) (fun _ => k0))
theorem State.addFlash_inv (c : Clo 0x50008 P) {v0} {v1} (k0 : P v0) : P (State.addFlash v0 v1) := by
  unfold State.addFlash
  extract_lets +onlyGivenNames -merge x1 x2
  have h3 : P x2 := by unfold x2; exact (State.updJ_inv (c.mono rfl) (State.uncommitted_inv (c.mono rfl) k0))
  clear_value x1 x2
  exact (ite_p (fun _ => (State.startFlash_inv (c.mono rfl) h3)) (fun _ => h3))
theorem State.endFlash_inv (c : Clo 0x52018 P) {v0} {v1} {v2} (k0 : P v0) : P (State.endFlash v0 v1 v2) := by
  unfold State.endFlash
  exact (State.startFlash_inv (c.mono rfl) (State.respond_inv (c.mono rfl) (State.updJ_inv (c.mono rfl) k0)))
theorem State.journalEnd_inv (c : Clo 0x52018 P) {v0} {v1} {v2} (k0 : P v0) : P (State.journalEnd v0 v1 v2) := by
  unfold State.journalEnd
  refine ite_p (fun _ => k0) (fun _ => ?_)
  extract_lets +onlyGivenNames -merge x1
  clear_value x1
  exact (ite_p (fun _ => (State.endFlash_inv (c.mono rfl) (State.updJ_inv (c.mono rfl) k0))) (fun _ => (ite_p (fun _ => (State.endFlash_inv (c.mono rfl) k0)) (fun _ => (State.endFlash_inv (c.mono rfl) (State.journalBatch_inv (c.mono rfl) (State.committed_inv (c.mono rfl) k0)))))))
theorem State.flashEnd_inv (c : Clo 0xc0000000400000000000000000000000000000000012060000000030000024005a598 P) {v0} {v1} (k0 : P v0) : P (State.flashEnd v0 v1) := by
  unfold State.flashEnd
  split
  ·
    rename_i y1 y2
    exact k0
  ·
    rename_i y3 y4 y5 y6
    refine ite_p (fun _ => (State.journalEnd_inv (c.mono rfl) k0)) (fun _ => ?_)
    refine ite_p (fun _ => (State.endFlash_inv (c.mono rfl) (c.eraseFlash rfl _ _ k0))) (fun _ => ?_)
    refine ite_p (fun _ => (State.endFlash_inv (c.mono rfl) k0)) (fun _ => ?_)
    split
    ·
      rename_i y7 y8 y9 y10
      refine ite_p (fun _ => (State.updJ_inv (c.mono rfl) (c.eraseFlash rfl _ _ k0))) (fun _ => ?_)
      refine ite_p (fun _ => ?_) (fun _ => ?_)
      ·
        extract_lets +onlyGivenNames -merge x11
        have h12 : P x11 := by unfold x11; exact (c.program rfl _ _ k0)
        clear_value x11
        exact (ite_p (fun _ => (State.endFlash_inv (c.mono rfl) h12)) (fun _ => (State.updJ_inv (c.mono rfl) h12)))
      ·
        extract_lets +onlyGivenNames -merge x13
        have h14 : P x13 := by unfold x13; exact (State.endFlash_inv (c.mono rfl) (c.program rfl _ _ k0))
        clear_value x13
        exact (ite_p (fun _ => h14) (fun _ => (ite_p (fun _ => (State.bootVerify_inv (c.mono rfl) h14)) (fun _ => (c.setF rfl h14)))))
theorem execProgramOrEraseEnd_inv (c : Clo 0xc0000000400000000000000000000000000000000012060000000030000024005a598 P) {v0} {v1} (k1 : P v1) : (OutP P) (execProgramOrEraseEnd v0 v1) := by
  unfold execProgramOrEraseEnd
  exact (mk_next (State.flashEnd_inv (c.mono rfl) k1))
theorem State.imageEnd_inv (c : Clo 0x5a018 P) {v0} {v1} {v2} {v3} (k0 : P v0) : P (State.imageEnd v0 v1 v2 v3) := by
  unfold State.imageEnd
  extract_lets +onlyGivenNames -merge x1
  have h2 : P x1 := by unfold x1; exact (State.setArgs_inv (c.mono rfl) k0)
  clear_value x1
  exact (ite_p (fun _ => (State.respond_inv (c.mono rfl) h2)) (fun _ => (ite_p (fun _ => (State.respond_inv (c.mono rfl) (State.updBoot_inv (c.mono rfl) h2))) (fun _ => (ite_p (fun _ => (State.addFlash_inv (c.mono rfl) h2)) (fun _ => (State.respond_inv (c.mono rfl) h2)))))))
theorem State.imageRead_inv (c : Clo 0x3c78d039f03f445071600004804c40cc41300002000021cd4021371c08400043c04025bfff P) {v0} {v1} {v2} {v3} {v4} {v5} (k0 : P v0) : P (State.imageRead v0 v1 v2 v3 v4 v5) := by
  unfold State.imageRead
  split
  ·
    rename_i y1 y2 y3 y4
    have q6 := congr_p (Q := (FstP P)) y4 (by
        exact (State.readSource_inv (c.mono rfl) (State.uncommitted_inv (c.mono rfl) k0))
      )
    have h5 : P y2 := q6
    split
    ·
      rename_i y7 y8
      exact (State.imageEnd_inv (c.mono rfl) h5)
    ·
      rename_i y9
      exact h5
theorem execProfileWrite_inv (c : Clo 0x3c78d039f03f445071600004804c40cc41300002000021cd4021371c08c20043c04025bfff P) {v0} {v1} {v2} {v3} {v4} (k4 : P v4) : (OutP P) (execProfileWrite v0 v1 v2 v3 v4) := by
  unfold execProfileWrite
  exact (mk_next (State.submit_inv (c.mono rfl) k4 (fun _ h1 => (State.checks_inv (c.mono rfl) h1 (fun _ h2 => (State.imageRead_inv (c.mono rfl) h2))))))
theorem execProfileErase_inv (c : Clo 0x1e0200000000000000000000000000000000000000000000000820000000005203a P) {v0} {v1} {v2} (k2 : P v2) : (OutP P) (execProfileErase v0 v1 v2) := by
  unfold execProfileErase
  exact (mk_next (State.submit_inv (c.mono rfl) k2 (fun _ h1 => (State.checks_inv (c.mono rfl) h1 (fun _ h2 => (State.addFlash_inv (c.mono rfl) h2))))))
theorem execProfilePush_inv (c : Clo 0x3c78d039f03f445071600004804c40cc41300002000021cd4021371c08c20043c04025bfff P) {v0} {v1} {v2} {v3} (k3 : P v3) : (OutP P) (execProfilePush v0 v1 v2 v3) := by
  unfold execProfilePush
  exact (mk_next (State.submit_inv (c.mono rfl) k3 (fun _ h1 => (State.checks_inv (c.mono rfl) h1 (fun _ h2 => (State.imageRead_inv (c.mono rfl) h2))))))
theorem execProfileSelect_inv (c : Clo 0x1e0200000000000000000000000000000000000000000000000820000000000a03a P) {v0} {v1} {v2} (k2 : P v2) : (OutP P) (execProfileSelect v0 v1 v2) := by
  unfold execProfileSelect
  exact (mk_next (State.submit_inv (c.mono rfl) k2 (fun _ h1 => (State.checks_inv (c.mono rfl) h1 (fun _ h2 => (State.reply_inv (c.mono rfl) (State.updBoot_inv (c.mono rfl) h2)))))))
theorem execFwWrite_inv (c : Clo 0x3c78d039f03f445071600004804c40cc41300002000021cd4021371c08c20043c04025bfff P) {v0} {v1} {v2} {v3} (k3 : P v3) : (OutP P) (execFwWrite v0 v1 v2 v3) := by
  unfold execFwWrite
  refine mk_next ?_
  refine State.submit_inv (c.mono rfl) k3 ?_
  intro a10 h9
  refine State.checks_inv (c.mono rfl) h9 ?_
  intro a14 h13
  extract_lets +onlyGivenNames -merge x15
  clear_value x15
  exact (State.imageRead_inv (c.mono rfl) h13)
theorem execJournalSet_inv (c : Clo 0x1e0200000000000000000000000000000000000000000000000820000000005203a P) {v0} {v1} {v2} {v3} {v4} (k4 : P v4) : (OutP P) (execJournalSet v0 v1 v2 v3 v4) := by
  unfold execJournalSet
  exact (mk_next (State.submit_inv (c.mono rfl) k4 (fun _ h1 => (State.checks_inv (c.mono rfl) h1 (fun _ h2 => (State.addFlash_inv (c.mono rfl) h2))))))
theorem execJournalClear_inv (c : Clo 0x1e0200000000000000000000000000000000000000000000000820000000005203a P) {v0} {v1} {v2} (k2 : P v2) : (OutP P) (execJournalClear v0 v1 v2) := by
  unfold execJournalClear
  exact (mk_next (State.submit_inv (c.mono rfl) k2 (fun _ h1 => (State.checks_inv (c.mono rfl) h1 (fun _ h2 => (State.addFlash_inv (c.mono rfl) h2))))))
theorem execJournalRead_inv (c : Clo 0x3c78d039f03f445071600004804c40cc41300002000021cd4021371c08c20043c04020bfff P) {v0} {v1} {v2} (k2 : P v2) : (OutP P) (execJournalRead v0 v1 v2) := by
  unfold execJournalRead
  refine mk_next ?_
  refine State.submit_inv (c.mono rfl) k2 ?_
  intro a6 h5
  extract_lets +onlyGivenNames -merge x7
  clear_value x7
  exact (State.writeOut_inv (c.mono rfl) h5)
theorem execJournalCompact_inv (c : Clo 0x1e0200000000000000000000000000000000000000000000000820000000001203a P) {v0} {v1} (k1 : P v1) : (OutP P) (execJournalCompact v0 v1) := by
  unfold execJournalCompact
  exact (mk_next (State.submit_inv (c.mono rfl) k1 (fun _ h1 => (State.updJ_inv (c.mono rfl) h1))))
theorem execJournalCompaction_inv (c : Clo 0x52018 P) {v0} (k0 : P v0) : (OutP P) (execJournalCompaction v0) := by
  unfold execJournalCompaction
  refine mk_next ?_
  refine ite_p (fun _ => k0) (fun _ => ?_)
  extract_lets +onlyGivenNames -merge x1 x2 x3
  have h4 : P x3 := by unfold x3; exact (State.each_inv (c.mono rfl) (State.updJ_inv (c.mono rfl) (State.compact_inv (c.mono rfl) k0)) (fun _ _ h5 => (State.respond_inv (c.mono rfl) h5)))
  clear_value x1 x2 x3
  exact (State.each_inv (c.mono rfl) h4 (fun _ _ h6 => (State.journalBatch_inv (c.mono rfl) h6)))

/-! ### Replay -/

theorem State.writeHeader_inv (c : Clo 0x1e020000071000000000000000000000000000000000000000000000000000007b2 P) {v0} (k0 : P v0) : P (State.writeHeader v0) := by
  unfold State.writeHeader
  extract_lets +onlyGivenNames -merge x1
  clear_value x1
  exact (State.ringWrite_inv (c.mono rfl) k0)
theorem State.ringNote_inv (c : Clo 0x1e020000031000000000000000000000000000000000000000000000000000002a2 P) {v0} {v1} {v2} (k0 : P v0) : P (State.ringNote v0 v1 v2) := by
  unfold State.ringNote
  exact (State.each_inv (c.mono rfl) k0 (fun _ _ h1 => (State.noteWord_inv (c.mono rfl) h1)))
theorem State.readFrom_inv (c : Clo 0x1e020000031000000000000000000000000000000000000000000000000000002a2 P) {v0} {v1} (k0 : P v0) : P (State.readFrom v0 v1) := by
  unfold State.readFrom
  extract_lets +onlyGivenNames -merge x1 x8
  have h2 : P x1 := by
    unfold x1
    split
    ·
      rename_i y3 y4 y5
      exact (State.ringNote_inv (c.mono rfl) k0)
    ·
      rename_i y6 y7
      exact (State.ringNote_inv (c.mono rfl) k0)
  clear_value x1 x8
  exact (State.updRp_inv (c.mono rfl) h2)
theorem State.originReset_inv (c : Clo 0x788039f030c4107168cf04000c00c043300001000021cb4022377c0840007fc04070ffff P) {v0} {v1} {v2} (k0 : P v0) : P (State.originReset v0 v1 v2) := by
  unfold State.originReset
  extract_lets +onlyGivenNames -merge x1 x3 x5 x8 x11
  have h2 : P x1 := by unfold x1; exact (State.stopWork_inv (c.mono rfl) (c.wr rfl k0))
  have h4 : P x3 := by unfold x3; exact (State.settleRequests_inv (c.mono rfl) (State.wakeAll_inv (c.mono rfl) (State.holdFoundation_inv (c.mono rfl) (State.freezeUnits_inv (c.mono rfl) (State.endPending_inv (c.mono rfl) h2)))))
  have h6 : P x5 := by unfold x5; exact (State.each_inv (c.mono rfl) h4 (fun _ _ h7 => (State.endHandover_inv (c.mono rfl) h7)))
  have h9 : P x8 := by unfold x8; exact (State.each_inv (c.mono rfl) h6 (fun _ _ h10 => (State.gateOpened_inv (c.mono rfl) (State.setGating_inv (c.mono rfl) (State.setGateReq_inv (c.mono rfl) (State.setGateStat_inv (c.mono rfl) (State.gateRoom_inv (c.mono rfl) h10)))))))
  have h12 : P x11 := by unfold x11; exact (State.each_inv (c.mono rfl) h9 (fun _ _ h13 => (ite_p (fun _ => h13) (fun _ => (c.wipe rfl _ _ h13)))))
  clear_value x1 x3 x5 x8 x11
  exact (State.wipeEngines_inv (c.mono rfl) (State.wipeRooms_inv (c.mono rfl) (State.wipeLanding_inv (c.mono rfl) h12)))
theorem State.originSettings_inv (c : Clo 0x20001e020080001000004000c00c002100000000001cf400001600000007fc00000bdff P) {v0} (k0 : P v0) : P (State.originSettings v0) := by
  unfold State.originSettings
  extract_lets +onlyGivenNames -merge x1 x3 x5 x7 x9
  have h2 : P x1 := by unfold x1; exact (State.updNet_inv (c.mono rfl) (State.updSched_inv (c.mono rfl) k0))
  have h4 : P x3 := by unfold x3; exact (c.svcNext rfl _ h2)
  have h6 : P x5 := by unfold x5; exact (c.setF rfl (c.setF rfl h4))
  have h8 : P x7 := by unfold x7; exact (State.mowRefresh_inv (c.mono rfl) (State.updMow_inv (c.mono rfl) h6))
  have h10 : P x9 := by unfold x9; exact (State.each_inv (c.mono rfl) h8 (fun _ _ h11 => (ite_p (fun _ => (c.setF rfl (c.updEng rfl _ _ h11))) (fun _ => h11))))
  clear_value x1 x3 x5 x7 x9
  split
  ·
    rename_i y12 y13
    exact h10
  ·
    rename_i y14 y15 y16
    extract_lets +onlyGivenNames -merge x17
    have h18 : P x17 := by unfold x17; exact (State.stageProfile_inv (c.mono rfl) (c.setF rfl h10))
    clear_value x17
    exact (State.storesThenLoads_inv (c.mono rfl) (State.profileGates_inv (c.mono rfl) h18))
theorem State.originRun_inv (c : Clo 0x7a8039f030cc107168cf04000c00c043300001000021cf4022377c0840007fc04070ffff P) {v0} {v1} {v2} {v3} {v4} (k0 : P v0) : P (State.originRun v0 v1 v2 v3 v4) := by
  unfold State.originRun
  extract_lets +onlyGivenNames -merge x1 x3
  have h2 : P x1 := by unfold x1; exact (State.originSettings_inv (c.mono rfl) (State.originReset_inv (c.mono rfl) k0))
  have h4 : P x3 := by unfold x3; exact (State.stage_inv (c.mono rfl) h2)
  clear_value x1 x3
  exact (State.stage_inv (c.mono rfl) (State.stage_inv (c.mono rfl) h4))
theorem State.originBegin_inv (c : Clo 0x7a8039f030cc107168cf04000c00c043300001000021cf4022377c0840007fc04070ffff P) {v0} {v1} {v2} {v3} {v4} {v5} {v6} (k0 : P v0) : P (State.originBegin v0 v1 v2 v3 v4 v5 v6) := by
  unfold State.originBegin
  extract_lets +onlyGivenNames -merge x1
  have h2 : P x1 := by unfold x1; exact (State.originRun_inv (c.mono rfl) k0)
  clear_value x1
  exact (ite_p (fun _ => (State.respond_inv (c.mono rfl) k0)) (fun _ => (State.commitBegin_inv (c.mono rfl) (State.updRp_inv (c.mono rfl) (c.setF rfl h2)))))
theorem State.stampZero_inv (c : Clo 0x1d02000000000000000000000000000000000000000000000000000000000000020 P) {v0} {v1} (k0 : P v0) : P (State.stampZero v0 v1) := by
  unfold State.stampZero
  extract_lets +onlyGivenNames -merge x1 x3 x5
  have h2 : P x1 := by unfold x1; exact (c.wr rfl (c.wr rfl (c.wr rfl k0)))
  have h4 : P x3 := by unfold x3; exact (c.wr rfl (c.wr rfl h2))
  have h6 : P x5 := by unfold x5; exact (State.updRp_inv (c.mono rfl) h4)
  clear_value x1 x3 x5
  exact (c.setF rfl h6)
theorem State.originPoint_inv (c : Clo 0x1e020000071000000000000000000000000000000000000000000000000000007b2 P) {v0} (k0 : P v0) : P (State.originPoint v0) := by
  unfold State.originPoint
  refine ite_p (fun _ => (State.writeHeader_inv (c.mono rfl) k0)) (fun _ => ?_)
  extract_lets +onlyGivenNames -merge x1 x2 x4
  have h3 : P x2 := by unfold x2; exact (ite_p (fun _ => k0) (fun _ => (c.setF rfl k0)))
  clear_value x1 x2 x4
  exact (State.readFrom_inv (c.mono rfl) (State.updRp_inv (c.mono rfl) h3))
theorem State.originEnd_inv (c : Clo 0x788039f03044107108cf04800c40c041300000001021c94021321008400000004040fffe P) {v0} (k0 : P v0) : P (State.originEnd v0) := by
  unfold State.originEnd
  extract_lets +onlyGivenNames -merge x1 x3 x4
  have h2 : P x1 := by unfold x1; exact (c.setF rfl k0)
  have h5 : P x4 := by unfold x4; exact (State.each_inv (c.mono rfl) h2 (fun _ _ h6 => (c.setF rfl h6)))
  clear_value x1 x3 x4
  exact (State.crWakeAll_inv (c.mono rfl) (State.reShed_inv (c.mono rfl) (State.mowRefresh_inv (c.mono rfl) h5)))
theorem State.recorderDrain_inv (c : Clo 0x1f020000071000000000000000000000000000000000000000000000000000007b2 P) {v0} (k0 : P v0) : P (State.recorderDrain v0) := by
  unfold State.recorderDrain
  extract_lets +onlyGivenNames -merge x1
  clear_value x1
  refine ite_p (fun _ => k0) (fun _ => ?_)
  extract_lets +onlyGivenNames -merge x2
  have h3 : P x2 := by unfold x2; exact (State.flushRing_inv (c.mono rfl) k0)
  clear_value x2
  exact (ite_p (fun _ => (State.ringTrailer_inv (c.mono rfl) h3)) (fun _ => (ite_p (fun _ => (State.updRp_inv (c.mono rfl) (State.pushGap_inv (c.mono rfl) (State.stampNow_inv (c.mono rfl) h3)))) (fun _ => h3))))
theorem execRecorderDrain_inv (c : Clo 0x1f020000071000000000000000000000000000000000000000000000000000007b2 P) {v0} (k0 : P v0) : (OutP P) (execRecorderDrain v0) := by
  unfold execRecorderDrain
  exact (mk_next (State.recorderDrain_inv (c.mono rfl) k0))
theorem State.checkRecord_inv (c : Clo 0x1e020000031000000000000000000000000000000000000000000000000000002a2 P) {v0} (k0 : P v0) : P (State.checkRecord v0) := by
  unfold State.checkRecord
  extract_lets +onlyGivenNames -merge x1
  clear_value x1
  split
  ·
    rename_i y2 y3 y4 y5
    extract_lets +onlyGivenNames -merge x6 x10
    have h7 : ∀ a0, P a0 → P (x6 a0) := by
      intro a9 h8
      unfold x6
      beta_reduce
      exact (State.updRp_inv (c.mono rfl) h8)
    have h11 : ∀ a0, P a0 → P (x10 a0) := by
      intro a13 h12
      unfold x10
      beta_reduce
      exact (State.updRp_inv (c.mono rfl) h12)
    clear_value x6 x10
    refine ite_p (fun _ => k0) (fun _ => ?_)
    refine ite_p (fun _ => (h7 _ (State.recordAt_inv (c.mono rfl) (h11 _ k0)))) (fun _ => ?_)
    refine ite_p (fun _ => ?_) (fun _ => k0)
    extract_lets +onlyGivenNames -merge x14 x15 x16
    clear_value x14 x15 x16
    refine ite_p (fun _ => k0) (fun _ => ?_)
    extract_lets +onlyGivenNames -merge x17
    have h18 : P x17 := by unfold x17; exact (State.settle_inv (c.mono rfl) (h11 _ k0))
    clear_value x17
    split
    ·
      rename_i y19 y20
      refine ite_p (fun _ => ?_) (fun _ => (h7 _ h18))
      extract_lets +onlyGivenNames -merge x21
      have h22 : P x21 := by unfold x21; exact (ite_p (fun _ => h18) (fun _ => (State.finding_inv (c.mono rfl) (c.setF rfl h18))))
      clear_value x21
      exact (h7 _ (State.readFrom_inv (c.mono rfl) h22))
    ·
      rename_i y23
      exact (h7 _ h18)
theorem execCheckRecord_inv (c : Clo 0x1e020000031000000000000000000000000000000000000000000000000000002a2 P) {v0} (k0 : P v0) : (OutP P) (execCheckRecord v0) := by
  unfold execCheckRecord
  exact (mk_next (State.checkRecord_inv (c.mono rfl) k0))
theorem State.stampEnd_inv (c : Clo 0x1f020000071000000000000000000000000000000000000000000000000000007b2 P) {v0} (k0 : P v0) : P (State.stampEnd v0) := by
  unfold State.stampEnd
  extract_lets +onlyGivenNames -merge x1
  clear_value x1
  exact (ite_p (fun _ => (c.setF rfl (State.ringTrailer_inv (c.mono rfl) (State.flushRing_inv (c.mono rfl) (State.pushRec_inv (c.mono rfl) (State.updRp_inv (c.mono rfl) k0)))))) (fun _ => k0))
theorem execStampLimit_inv (c : Clo 0x1f020000071000000000000000000000000000000000000000000000000000007b2 P) {v0} (k0 : P v0) : (OutP P) (execStampLimit v0) := by
  unfold execStampLimit
  exact (mk_next (State.stampEnd_inv (c.mono rfl) k0))
theorem State.injectPacket_inv (c : Clo 0x1f88039f0304400710000040004004041300000000021c94020101008400000004000bffe P) {v0} {v1} {v2} (k0 : P v0) : P (State.injectPacket v0 v1 v2) := by
  unfold State.injectPacket
  split
  ·
    rename_i y1 y2
    exact k0
  ·
    rename_i y3 y4 y5
    extract_lets +onlyGivenNames -merge x6
    have h7 : P x6 := by unfold x6; exact (State.pump1_inv (c.mono rfl) (State.inject_inv (c.mono rfl) k0))
    clear_value x6
    exact (ite_p (fun _ => h7) (fun _ => (c.setF rfl h7)))
theorem State.injectLink_inv (c : Clo 0x1e02000000000000000040040000000000000000000000000000000000000002022 P) {v0} {v1} {v2} {v3} (k0 : P v0) : P (State.injectLink v0 v1 v2 v3) := by
  unfold State.injectLink
  extract_lets +onlyGivenNames -merge x1
  have h2 : P x1 := by unfold x1; exact (State.setLinkState_inv (c.mono rfl) (c.setLinkF rfl rfl k0))
  clear_value x1
  refine ite_p (fun _ => h2) (fun _ => ?_)
  extract_lets +onlyGivenNames -merge x3
  have h4 : P x3 := by unfold x3; exact (c.updLink rfl _ _ h2)
  clear_value x3
  exact (ite_p (fun _ => h4) (fun _ => (State.finding_inv (c.mono rfl) (c.setF rfl h4))))
theorem State.injectOther_inv (c : Clo 0x1f88039f0304400710000040004004041300000001021cb4020101008401000004000bffe P) {v0} {v1} (k0 : P v0) : P (State.injectOther v0 v1) := by
  unfold State.injectOther
  extract_lets +onlyGivenNames -merge x1
  clear_value x1
  exact (ite_p (fun _ => (ite_p (fun _ => (State.injectPacket_inv (c.mono rfl) k0)) (fun _ => k0))) (fun _ => (ite_p (fun _ => (ite_p (fun _ => (State.injectLink_inv (c.mono rfl) k0)) (fun _ => k0))) (fun _ => (ite_p (fun _ => (State.setThermReq_inv (c.mono rfl) (State.setThermLevel_inv (c.mono rfl) k0))) (fun _ => (ite_p (fun _ => (State.updRp_inv (c.mono rfl) k0)) (fun _ => k0))))))))
theorem State.reach_inv (c : Clo 0x1c02000000000000000000000000000000000000000000000000000000000000020 P) {v0} {v1} (k0 : P v0) : P (State.reach v0 v1) := by
  unfold State.reach
  extract_lets +onlyGivenNames -merge x1 x2
  have h3 : P x2 := by unfold x2; exact (State.updRp_inv (c.mono rfl) k0)
  clear_value x1 x2
  exact (State.settle_inv (c.mono rfl) h3)
theorem State.haltReplay_inv (c : Clo 0x1e030440071000000000000000020000000000000000000000000000000000007e2 P) {v0} (k0 : P v0) : P (State.haltReplay v0) := by
  unfold State.haltReplay
  extract_lets +onlyGivenNames -merge x1 x3 x6
  have h2 : P x1 := by unfold x1; exact (c.setF rfl k0)
  have h4 : P x3 := by unfold x3; exact (State.each_inv (c.mono rfl) h2 (fun _ _ h5 => (ite_p (fun _ => (c.updRoom rfl _ _ h5)) (fun _ => h5))))
  have h7 : P x6 := by unfold x6; exact (State.each_inv (c.mono rfl) h4 (fun _ _ h8 => (ite_p (fun _ => (c.setF rfl h8)) (fun _ => h8))))
  clear_value x1 x3 x6
  exact (State.mowRefresh_inv (c.mono rfl) (State.each_inv (c.mono rfl) h7 (fun _ _ h9 => (State.restoreSlice_inv (c.mono rfl) h9))))
theorem State.replayHalts_inv (c : Clo 0x1e030440071000000000000000020000000000000000000000000000000000007e2 P) {v0} {v1} (k0 : P v0) : P (State.replayHalts v0 v1) := by
  unfold State.replayHalts
  refine ite_p (fun _ => k0) (fun _ => ?_)
  extract_lets +onlyGivenNames -merge x1
  clear_value x1
  refine ite_p (fun _ => ?_) (fun _ => ?_)
  ·
    split
    ·
      rename_i y2 y3
      exact k0
    ·
      rename_i y4 y5 y6
      extract_lets +onlyGivenNames -merge x7
      clear_value x7
      exact (ite_p (fun _ => k0) (fun _ => (State.haltReplay_inv (c.mono rfl) (State.settle_inv (c.mono rfl) (State.updRp_inv (c.mono rfl) k0)))))
  ·
    refine ite_p (fun _ => ?_) (fun _ => ?_)
    ·
      split
      ·
        rename_i y8 y9
        exact k0
      ·
        rename_i y10 y11 y12
        exact (ite_p (fun _ => k0) (fun _ => (State.haltReplay_inv (c.mono rfl) (State.finding_inv (c.mono rfl) (c.setF rfl (State.reach_inv (c.mono rfl) k0))))))
    ·
      refine ite_p (fun _ => ?_) (fun _ => k0)
      refine ite_p (fun _ => (State.haltReplay_inv (c.mono rfl) k0)) (fun _ => ?_)
      split
      ·
        rename_i y13 y14
        exact k0
      ·
        rename_i y15 y16 y17
        exact (ite_p (fun _ => (State.haltReplay_inv (c.mono rfl) (State.reach_inv (c.mono rfl) k0))) (fun _ => k0))
theorem execReplayHalt_inv (c : Clo 0x1e030440071000000000000000020000000000000000000000000000000000007e2 P) {v0} {v1} (k1 : P v1) : (OutP P) (execReplayHalt v0 v1) := by
  unfold execReplayHalt
  exact (mk_next (State.replayHalts_inv (c.mono rfl) k1))
theorem execRpStatus_inv (c : Clo 0x1e0200000000000000000000000000000000000000000000000820000000000203a P) {v0} {v1} (k1 : P v1) : (OutP P) (execRpStatus v0 v1) := by
  unfold execRpStatus
  refine mk_next ?_
  refine State.submit_inv (c.mono rfl) k1 ?_
  intro a6 h5
  extract_lets +onlyGivenNames -merge x7
  have h8 : P x7 := by unfold x7; exact (State.stampNow_inv (c.mono rfl) h5)
  clear_value x7
  exact (State.replyData_inv (c.mono rfl) h8)
theorem execRecordStart_inv (c : Clo 0x7a8039f030cc107168cf04000c00c043300001000021cf4022377c08c2007fc04070ffff P) {v0} {v1} {v2} {v3} {v4} {v5} (k5 : P v5) : (OutP P) (execRecordStart v0 v1 v2 v3 v4 v5) := by
  unfold execRecordStart
  exact (mk_next (State.submit_inv (c.mono rfl) k5 (fun _ h1 => (State.checks_inv (c.mono rfl) h1 (fun _ h2 => (State.originBegin_inv (c.mono rfl) h2))))))
theorem execRecordStop_inv (c : Clo 0x1f020000071000000000000000000000000000000000000000082000000000027ba P) {v0} {v1} (k1 : P v1) : (OutP P) (execRecordStop v0 v1) := by
  unfold execRecordStop
  exact (mk_next (State.submit_inv (c.mono rfl) k1 (fun _ h1 => (State.checks_inv (c.mono rfl) h1 (fun _ h2 => (State.reply_inv (c.mono rfl) (State.endRecording_inv (c.mono rfl) h2)))))))
theorem State.replayHeadEnd_inv (c : Clo 0x7a8039f030cc107168cf04000c00c043300001000021cf4022377c0840007fc04070ffff P) {v0} {v1} {v2} (k0 : P v0) : P (State.replayHeadEnd v0 v1 v2) := by
  unfold State.replayHeadEnd
  extract_lets +onlyGivenNames -merge x1 x2 x3 x4
  clear_value x1 x2 x3 x4
  split
  ·
    rename_i y5 y6 y7 y8
    exact (State.respond_inv (c.mono rfl) k0)
  ·
    rename_i y9 y10
    exact (State.originBegin_inv (c.mono rfl) k0)
theorem execReplayStart_inv (c : Clo 0x3c7ad039f03fcc507168cf04804c40cc43300003000021cf4023377c08c2007fc04070ffff P) {v0} {v1} {v2} {v3} (k3 : P v3) : (OutP P) (execReplayStart v0 v1 v2 v3) := by
  unfold execReplayStart
  refine mk_next ?_
  refine State.submit_inv (c.mono rfl) k3 ?_
  intro a10 h9
  refine State.checks_inv (c.mono rfl) h9 ?_
  intro a14 h13
  split
  ·
    rename_i y15 y16 y17 y18
    have q20 := congr_p (Q := (FstP P)) y18 (by
        exact (State.memGo_inv (c.mono rfl) h13)
      )
    have h19 : P y16 := q20
    split
    ·
      rename_i y21 y22
      exact (State.replayHeadEnd_inv (c.mono rfl) h19)
    ·
      rename_i y23
      exact h19
theorem execReplayStop_inv (c : Clo 0x1e0200000000000000000000000000000000000000000000000820000000000a03a P) {v0} {v1} (k1 : P v1) : (OutP P) (execReplayStop v0 v1) := by
  unfold execReplayStop
  exact (mk_next (State.submit_inv (c.mono rfl) k1 (fun _ h1 => (State.checks_inv (c.mono rfl) h1 (fun _ h2 => (State.reply_inv (c.mono rfl) (State.updBoot_inv (c.mono rfl) h2)))))))

/-! ### Finish -/

theorem State.reachReady_inv (c : Clo 0x788a39f030541071000004800c40c041300000000021cd4021321008400080004002bffe P) {v0} (k0 : P v0) : P (State.reachReady v0) := by
  unfold State.reachReady
  extract_lets +onlyGivenNames -merge x1 x3 x5 x7 x9 x10 x12 x14
  have h2 : P x1 := by unfold x1; exact (c.setF rfl (State.setStep_inv (c.mono rfl) k0))
  have h4 : P x3 := by unfold x3; exact (State.updBoot_inv (c.mono rfl) h2)
  have h6 : P x5 := by unfold x5; exact (c.setF rfl (c.setF rfl (c.setF rfl h4)))
  have h8 : P x7 := by unfold x7; exact (c.drawn rfl  (c.setF rfl h6))
  have h11 : P x10 := by unfold x10; exact (c.setF rfl (State.updFuses_inv (c.mono rfl) h8))
  have h13 : P x12 := by unfold x12; exact (ite_p (fun _ => (c.setF rfl h11)) (fun _ => h8))
  have h15 : P x14 := by unfold x14; exact (State.event_inv (c.mono rfl) h13)
  clear_value x1 x3 x5 x7 x9 x10 x12 x14
  exact (State.each_inv (c.mono rfl) (State.reShed_inv (c.mono rfl) h15) (fun _ _ h16 => (State.bgNext_inv (c.mono rfl) h16)))
theorem State.pointOf_inv (c : Clo 0x1f02000007908cf04800c40c00000000000012000000000100a400000000040efbf P) {v0} (k0 : P v0) : P (State.pointOf v0) := by
  unfold State.pointOf
  split
  ·
    rename_i y1 y2 y3
    extract_lets +onlyGivenNames -merge x4
    clear_value x4
    exact (ite_p (fun _ => (State.commitPoint_inv (c.mono rfl) k0)) (fun _ => (State.originPoint_inv (c.mono rfl) (State.commitPoint_inv (c.mono rfl) (State.stampZero_inv (c.mono rfl) k0)))))
  ·
    rename_i y5 y6
    exact k0
theorem execCommitPoint_inv (c : Clo 0x1f02000007908cf04800c40c00000000000012000000000100a400000000040efbf P) {v0} (k0 : P v0) : (OutP P) (execCommitPoint v0) := by
  unfold execCommitPoint
  exact (mk_next (State.pointOf_inv (c.mono rfl) k0))
theorem State.enumEnd_inv (c : Clo 0x201c P) {v0} {v1} (k0 : P v0) : P (State.enumEnd v0 v1) := by
  unfold State.enumEnd
  split
  ·
    rename_i y1 y2
    exact (State.respondTo_inv (c.mono rfl) k0)
  ·
    rename_i y3 y4 y5
    exact (State.respondTo_inv (c.mono rfl) (c.enumer rfl _ k0))
theorem State.commitRespond_inv (c : Clo 0x788a39f03054107168cf04800c40c041300000401121cd4023377c08400480004042fffe P) {v0} (k0 : P v0) : P (State.commitRespond v0) := by
  unfold State.commitRespond
  split
  ·
    rename_i y1 y2
    exact k0
  ·
    rename_i y3 y4 y5
    refine ite_p (fun _ => k0) (fun _ => ?_)
    extract_lets +onlyGivenNames -merge x6 x8
    have h7 : P x6 := by unfold x6; exact (c.setF rfl (c.commit rfl _ k0))
    have h9 : P x8 := by
      unfold x8
      split
      ·
        rename_i y10 y11
        exact (State.respondTo_inv (c.mono rfl) h7)
      ·
        rename_i y12 y13
        exact (State.reachReady_inv (c.mono rfl) h7)
      ·
        rename_i y14 y15
        exact (State.respondTo_inv (c.mono rfl) (State.recoverEnd_inv (c.mono rfl) h7))
      ·
        rename_i y16 y17
        exact (State.each_inv (c.mono rfl) (State.enumEnd_inv (c.mono rfl) h7) (fun _ _ h18 => (State.pumpLmb_inv (c.mono rfl) h18)))
      ·
        rename_i y19 y20 y21 y22 y23
        exact (State.respondTo_inv (c.mono rfl) (State.originEnd_inv (c.mono rfl) h7))
    clear_value x6 x8
    split
    ·
      rename_i y24 y25 y26 y27
      exact (State.enterSafe_inv (c.mono rfl) (State.updBoot_inv (c.mono rfl) h9))
    ·
      rename_i y28 y29
      exact h9
theorem execCommitResponse_inv (c : Clo 0x788a39f03054107168cf04800c40c041300000401121cd4023377c08400480004042fffe P) {v0} (k0 : P v0) : (OutP P) (execCommitResponse v0) := by
  unfold execCommitResponse
  exact (mk_next (State.commitRespond_inv (c.mono rfl) k0))

/-! ### Transport -/

theorem State.unissue_inv (c : Clo 0x800 P) {v0} {v1} (k0 : P v0) : P (State.unissue v0 v1) := by
  unfold State.unissue
  refine ite_p (fun _ => ?_) (fun _ => k0)
  extract_lets +onlyGivenNames -merge x1
  clear_value x1
  exact (State.updSched_inv (c.mono rfl) k0)
theorem State.unserve_inv (c : Clo 0x1e02000000008cf000000000000000000000000000000220000400000000040697a P) {v0} {v1} (k0 : P v0) : (OptP P) (State.unserve v0 v1) := by
  unfold State.unserve
  extract_lets +onlyGivenNames -merge x1
  clear_value x1
  split
  ·
    rename_i y2 y3 y4 y5
    extract_lets +onlyGivenNames -merge x6 x7
    have h8 : P x7 := by unfold x7; exact (c.svc rfl _ k0)
    clear_value x6 x7
    exact (mk_some (State.drainCheck_inv (c.mono rfl) (c.updBank rfl _ _ h8)))
  ·
    rename_i y9 y10
    split
    ·
      rename_i y11 y12 y13
      exact (mk_some (c.updRoom rfl _ _ k0))
    ·
      rename_i y14 y15
      split
      ·
        rename_i y16 y17 y18
        extract_lets +onlyGivenNames -merge x19
        clear_value x19
        exact (ite_p (fun _ => (mk_some (State.crWakeAll_inv (c.mono rfl) (State.setReq_inv (c.mono rfl) (State.each_inv (c.mono rfl) k0 (fun _ _ h20 => (State.setJob_inv (c.mono rfl) h20))))))) (fun _ => none_p))
      ·
        rename_i y21 y22
        split
        ·
          rename_i y23 y24 y25
          refine mk_some ?_
          split
          ·
            rename_i y26 y27 y28
            exact (State.unissue_inv (c.mono rfl) (State.setTok_inv (c.mono rfl) k0))
          ·
            rename_i y29 y30
            exact k0
        ·
          rename_i y31 y32
          exact (mapAny_p (fun _ => (c.updLink rfl _ _ k0)))
theorem State.withdraw_inv (c : Clo 0x1e02000000008cf000000000000000000000000000000220000400000000040697a P) {v0} {v1} (k0 : P v0) : (OptP P) (State.withdraw v0 v1) := by
  unfold State.withdraw
  extract_lets +onlyGivenNames -merge x1 x2
  clear_value x1 x2
  refine map_p (fun _ h4 => (State.setOut_inv (c.mono rfl) h4)) ?_
  refine ite_p (fun _ => (mk_some (State.updNet_inv (c.mono rfl) k0))) (fun _ => ?_)
  split
  ·
    rename_i y5 y6
    exact (State.unserve_inv (c.mono rfl) k0)
  ·
    rename_i y7 y8 y9 y10
    exact (mk_some (State.each_inv (c.mono rfl) (State.setBuf_inv (c.mono rfl) k0) (fun _ _ h11 => (State.unissue_inv (c.mono rfl) (State.releaseOn_inv (c.mono rfl) h11)))))
theorem State.forgo_inv (c : Clo 0x1e02000000008cf000000000000000000000000000000220000400000000040697a P) {v0} {v1} (k0 : P v0) : P (State.forgo v0 v1) := by
  unfold State.forgo
  split
  ·
    rename_i y1 y2 y3 y4
    have q6 := congr_p (Q := (OptP P)) y4 (by
        exact (State.withdraw_inv (c.mono rfl) k0)
      )
    have h5 : P y3 := q6
    exact h5
  ·
    rename_i y7 y8 y9 y10 y11
    exact (State.setOut_inv (c.mono rfl) k0)
  ·
    rename_i y12 y13 y14 y15
    exact k0
theorem State.stopCmd_inv (c : Clo 0x1e02000000008cf000000000000300000000000000000220000400000000045797b P) {v0} {v1} {v2} (k0 : P v0) : (OptP P) (State.stopCmd v0 v1 v2) := by
  unfold State.stopCmd
  refine ite_p (fun _ => (mk_some (State.each_inv (c.mono rfl) k0 (fun _ _ h5 => (c.updRoom rfl _ _ h5))))) (fun _ => ?_)
  refine ite_p (fun _ => (mk_some (State.forgo_inv (c.mono rfl) k0))) (fun _ => ?_)
  refine ite_p (fun _ => (State.withdraw_inv (c.mono rfl) k0)) (fun _ => ?_)
  refine ite_p (fun _ => ?_) (fun _ => ?_)
  ·
    refine mk_some ?_
    refine State.each_inv (c.mono rfl) k0 ?_
    intro a32 a33 h31
    refine ite_p (fun _ => ?_) (fun _ => h31)
    extract_lets +onlyGivenNames -merge x34
    have h35 : P x34 := by unfold x34; exact (c.updEng rfl _ _ h31)
    clear_value x34
    exact (ite_p (fun _ => (c.setF rfl h35)) (fun _ => h35))
  ·
    refine ite_p (fun _ => ?_) (fun _ => ?_)
    ·
      refine mk_some ?_
      refine State.each_inv (c.mono rfl) k0 ?_
      intro a45 a46 h44
      refine ite_p (fun _ => ?_) (fun _ => h44)
      extract_lets +onlyGivenNames -merge x47
      have h48 : P x47 := by unfold x47; exact (c.updEng rfl _ _ h44)
      clear_value x47
      exact (ite_p (fun _ => (c.updEng rfl _ _ (c.setF rfl h48))) (fun _ => h48))
    ·
      refine ite_p (fun _ => ?_) (fun _ => ?_)
      ·
        refine mk_some ?_
        refine State.each_inv (c.mono rfl) k0 ?_
        intro a56 a57 h55
        split
        ·
          rename_i y58 y59 y60
          exact (ite_p (fun _ => (State.unstart_inv (c.mono rfl) h55)) (fun _ => h55))
        ·
          rename_i y61 y62
          exact h55
      ·
        refine ite_p (fun _ => ?_) (fun _ => none_p)
        extract_lets +onlyGivenNames -merge x63 x64
        have h65 : P x64 := by unfold x64; exact (State.updJ_inv (c.mono rfl) k0)
        clear_value x63 x64
        exact (mk_some (ite_p (fun _ => (State.startFlash_inv (c.mono rfl) h65)) (fun _ => h65)))
theorem State.abortIt_inv (c : Clo 0x1e02000000028cf000000000000300000000000000000221008400000000045f97f P) {v0} {v1} {v2} (k0 : P v0) : (OptP P) (State.abortIt v0 v1 v2) := by
  unfold State.abortIt
  refine ite_p (fun _ => none_p) (fun _ => ?_)
  refine ite_p (fun _ => ?_) (fun _ => (ite_p (fun _ => (mapAny_p (fun _ => (State.kexFails_inv (c.mono rfl) k0)))) (fun _ => (map_p (fun _ h4 => (State.respond_inv (c.mono rfl) h4)) (State.stopCmd_inv (c.mono rfl) k0)))))
  split
  ·
    rename_i y5 y6 y7
    exact (ite_p (fun _ => (mk_some (State.failCommit_inv (c.mono rfl) k0))) (fun _ => none_p))
  ·
    rename_i y8 y9
    exact none_p
theorem execAbort_inv (c : Clo 0x1e02000000028cf000000000000300000000000000000221008c20000000045f97f P) {v0} {v1} {v2} (k2 : P v2) : (OutP P) (execAbort v0 v1 v2) := by
  unfold execAbort
  refine mk_next ?_
  refine State.submit_inv (c.mono rfl) k2 ?_
  intro a6 h5
  extract_lets +onlyGivenNames -merge x7
  clear_value x7
  split
  ·
    rename_i y8 y9 y10
    have q12 := congr_p (Q := (OptP P)) y10 (by
        exact (bind_p (fun _ => (State.abortIt_inv (c.mono rfl) h5)))
      )
    have h11 : P y9 := q12
    exact (State.reply_inv (c.mono rfl) h11)
  ·
    rename_i y13 y14
    exact (State.reply_inv (c.mono rfl) h5)
theorem State.unknownOp_inv (c : Clo 0x200000000002018 P) {v0} {v1} (k0 : P v0) : P (State.unknownOp v0 v1) := by
  unfold State.unknownOp
  exact (ite_p (fun _ => (c.setF rfl k0)) (fun _ => (State.answerNow_inv (c.mono rfl) k0)))
theorem State.after_inv (c : Clo 0x0 P) {v0} {v1} (k0 : P v0) (k1 : (OutP P) v1) : P (State.after v0 v1) := by
  cases v1 with
  | next t => exact k1
  | fault _ => exact k0
  | refused _ => exact k0
theorem cmdsDevice_inv (c : Clo 0x3c7af0b9f03fcc507169cf04804c40cc47f00003401121cf6063377f08d3047fc04077ffff P) : RunP P cmdsDevice := by
  unfold cmdsDevice
  refine run_cons (fun h a f t k => execDeviceInfo_inv (c.mono rfl) k) ?_
  refine run_cons (fun h a f t k => execAbort_inv (c.mono rfl) k) ?_
  refine run_cons (fun h a f t k => execCsrRead_inv (c.mono rfl) k) ?_
  refine run_cons (fun h a f t k => execCsrWrite_inv (c.mono rfl) k) ?_
  refine run_cons (fun h a f t k => execMemRead_inv (c.mono rfl) k) ?_
  refine run_cons (fun h a f t k => execMemWrite_inv (c.mono rfl) k) ?_
  refine run_cons (fun h a f t k => execEventRead_inv (c.mono rfl) k) ?_
  refine run_cons (fun h a f t k => execEventCfg_inv (c.mono rfl) k) ?_
  refine run_cons (fun h a f t k => execNop_inv (c.mono rfl) k) ?_
  refine run_cons (fun h a f t k => execClockStatus_inv (c.mono rfl) k) ?_
  refine run_cons (fun h a f t k => execUnitGate_inv (c.mono rfl) k) ?_
  refine run_cons (fun h a f t k => execEpochCommit_inv (c.mono rfl) k) ?_
  refine run_cons (fun h a f t k => execEpochDiscard_inv (c.mono rfl) k) ?_
  refine run_cons (fun h a f t k => execBooksAudit_inv (c.mono rfl) k) ?_
  refine run_cons (fun h a f t k => execBooksRead_inv (c.mono rfl) k) ?_
  exact run_nil
theorem cmdsRooms_inv (c : Clo 0x3c7af0b9f03fcc507169cf04804c40cc47f00003401121cf6063377f08d3047fc04077ffff P) : RunP P cmdsRooms := by
  unfold cmdsRooms
  refine run_cons (fun h a f t k => execBankOwner_inv (c.mono rfl) k) ?_
  refine run_cons (fun h a f t k => execBankGuest_inv (c.mono rfl) k) ?_
  refine run_cons (fun h a f t k => execBankRetain_inv (c.mono rfl) k) ?_
  refine run_cons (fun h a f t k => execBankWake_inv (c.mono rfl) k) ?_
  refine run_cons (fun h a f t k => execBankWipe_inv (c.mono rfl) k) ?_
  refine run_cons (fun h a f t k => execBankStatus_inv (c.mono rfl) k) ?_
  refine run_cons (fun h a f t k => execPlaneLoad_inv (c.mono rfl) k) ?_
  refine run_cons (fun h a f t k => execPlaneSave_inv (c.mono rfl) k) ?_
  refine run_cons (fun h a f t k => execPlaneSwitch_inv (c.mono rfl) k) ?_
  refine run_cons (fun h a f t k => execRoomStatus_inv (c.mono rfl) k) ?_
  refine run_cons (fun h a f t k => execRoomPark_inv (c.mono rfl) k) ?_
  refine run_cons (fun h a f t k => execRoomUnpark_inv (c.mono rfl) k) ?_
  refine run_cons (fun h a f t k => execSchedStatus_inv (c.mono rfl) k) ?_
  refine run_cons (fun h a f t k => execTaskPost_inv (c.mono rfl) k) ?_
  refine run_cons (fun h a f t k => execTemplateSet_inv (c.mono rfl) k) ?_
  refine run_cons (fun h a f t k => execImageSet_inv (c.mono rfl) k) ?_
  refine run_cons (fun h a f t k => execFlowSet_inv (c.mono rfl) k) ?_
  refine run_cons (fun h a f t k => execGroupSet_inv (c.mono rfl) k) ?_
  refine run_cons (fun h a f t k => execTaskCancel_inv (c.mono rfl) k) ?_
  refine run_cons (fun h a f t k => execSchedDrain_inv (c.mono rfl) k) ?_
  exact run_nil
theorem cmdsLinks_inv (c : Clo 0x3c7af0b9f03fcc507169cf04804c40cc47f00003401121cf6063377f08d3047fc04077ffff P) : RunP P cmdsLinks := by
  unfold cmdsLinks
  refine run_cons (fun h a f t k => execDspStatus_inv (c.mono rfl) k) ?_
  refine run_cons (fun h a f t k => execDspHalt_inv (c.mono rfl) k) ?_
  refine run_cons (fun h a f t k => execDspResume_inv (c.mono rfl) k) ?_
  refine run_cons (fun h a f t k => execDspStep_inv (c.mono rfl) k) ?_
  refine run_cons (fun h a f t k => execDspReset_inv (c.mono rfl) k) ?_
  refine run_cons (fun h a f t k => execDspStart_inv (c.mono rfl) k) ?_
  refine run_cons (fun h a f t k => execDpStatus_inv (c.mono rfl) k) ?_
  refine run_cons (fun h a f t k => execDpRetrain_inv (c.mono rfl) k) ?_
  refine run_cons (fun h a f t k => execDpDown_inv (c.mono rfl) k) ?_
  refine run_cons (fun h a f t k => execDpUp_inv (c.mono rfl) k) ?_
  refine run_cons (fun h a f t k => execSlStatus_inv (c.mono rfl) k) ?_
  refine run_cons (fun h a f t k => execSlRetrain_inv (c.mono rfl) k) ?_
  refine run_cons (fun h a f t k => execSlDown_inv (c.mono rfl) k) ?_
  refine run_cons (fun h a f t k => execSlUp_inv (c.mono rfl) k) ?_
  refine run_cons (fun h a f t k => execSlSlip_inv (c.mono rfl) k) ?_
  refine run_cons (fun h a f t k => execSlPower_inv (c.mono rfl) k) ?_
  refine run_cons (fun h a f t k => execEnumerate_inv (c.mono rfl) k) ?_
  refine run_cons (fun h a f t k => execEnumAssign_inv (c.mono rfl) k) ?_
  refine run_cons (fun h a f t k => execCrStatus_inv (c.mono rfl) k) ?_
  refine run_cons (fun h a f t k => execCrRangeRekey_inv (c.mono rfl) k) ?_
  refine run_cons (fun h a f t k => execCrRangeReset_inv (c.mono rfl) k) ?_
  refine run_cons (fun h a f t k => execLinkKex_inv (c.mono rfl) k) ?_
  refine run_cons (fun h a f t k => execKexMsg_inv (c.mono rfl) k) ?_
  exact run_nil
theorem cmdsSystem_inv (c : Clo 0x3c7af0b9f03fcc507169cf04804c40cc47f00003401121cf6063377f08d3047fc04077ffff P) : RunP P cmdsSystem := by
  unfold cmdsSystem
  refine run_cons (fun h a f t k => execPowerStatus_inv (c.mono rfl) k) ?_
  refine run_cons (fun h a f t k => execThermalStatus_inv (c.mono rfl) k) ?_
  refine run_cons (fun h a f t k => execAgeReport_inv (c.mono rfl) k) ?_
  refine run_cons (fun h a f t k => execThermTest_inv (c.mono rfl) k) ?_
  refine run_cons (fun h a f t k => execFoundationReset_inv (c.mono rfl) k) ?_
  refine run_cons (fun h a f t k => execResume_inv (c.mono rfl) k) ?_
  refine run_cons (fun h a f t k => execRecover_inv (c.mono rfl) k) ?_
  refine run_cons (fun h a f t k => execStackReset_inv (c.mono rfl) k) ?_
  refine run_cons (fun h a f t k => execSelftestRun_inv (c.mono rfl) k) ?_
  refine run_cons (fun h a f t k => execSelftestResult_inv (c.mono rfl) k) ?_
  refine run_cons (fun h a f t k => execCheckerMode_inv (c.mono rfl) k) ?_
  refine run_cons (fun h a f t k => execEcLogRead_inv (c.mono rfl) k) ?_
  refine run_cons (fun h a f t k => execLcStatus_inv (c.mono rfl) k) ?_
  refine run_cons (fun h a f t k => execCertRead_inv (c.mono rfl) k) ?_
  refine run_cons (fun h a f t k => execAttest_inv (c.mono rfl) k) ?_
  refine run_cons (fun h a f t k => execLcTransition_inv (c.mono rfl) k) ?_
  refine run_cons (fun h a f t k => execDebugAccess_inv (c.mono rfl) k) ?_
  exact run_nil
theorem cmdsStore_inv (c : Clo 0x3c7af0b9f03fcc507169cf04804c40cc47f00003401121cf6063377f08d3047fc04077ffff P) : RunP P cmdsStore := by
  unfold cmdsStore
  refine run_cons (fun h a f t k => execRpStatus_inv (c.mono rfl) k) ?_
  refine run_cons (fun h a f t k => execRecordStart_inv (c.mono rfl) k) ?_
  refine run_cons (fun h a f t k => execRecordStop_inv (c.mono rfl) k) ?_
  refine run_cons (fun h a f t k => execReplayStart_inv (c.mono rfl) k) ?_
  refine run_cons (fun h a f t k => execReplayStop_inv (c.mono rfl) k) ?_
  refine run_cons (fun h a f t k => execStoreStatus_inv (c.mono rfl) k) ?_
  refine run_cons (fun h a f t k => execProfileList_inv (c.mono rfl) k) ?_
  refine run_cons (fun h a f t k => execProfileWrite_inv (c.mono rfl) k) ?_
  refine run_cons (fun h a f t k => execProfileErase_inv (c.mono rfl) k) ?_
  refine run_cons (fun h a f t k => execProfilePush_inv (c.mono rfl) k) ?_
  refine run_cons (fun h a f t k => execProfileSelect_inv (c.mono rfl) k) ?_
  refine run_cons (fun h a f t k => execFwWrite_inv (c.mono rfl) k) ?_
  refine run_cons (fun h a f t k => execJournalSet_inv (c.mono rfl) k) ?_
  refine run_cons (fun h a f t k => execJournalClear_inv (c.mono rfl) k) ?_
  refine run_cons (fun h a f t k => execJournalRead_inv (c.mono rfl) k) ?_
  refine run_cons (fun h a f t k => execJournalCompact_inv (c.mono rfl) k) ?_
  exact run_nil
theorem cmdTable_inv (c : Clo 0x3c7af0b9f03fcc507169cf04804c40cc47f00003401121cf6063377f08d3047fc04077ffff P) : RunP P cmdTable :=
  run_append (run_append (run_append (run_append (cmdsDevice_inv c) (cmdsRooms_inv c)) (cmdsLinks_inv c)) (cmdsSystem_inv c)) (cmdsStore_inv c)
theorem State.runCmd_inv (c : Clo 0x3c7af0b9f03fcc507169cf04804c40cc47f00003401121cf6063377f08d3047fc04077ffff P) {v0} {v1} {v2} {v3} {v4} {v5} (k0 : P v0) : P (State.runCmd v0 v1 v2 v3 v4 v5) := by
  unfold State.runCmd
  extract_lets +onlyGivenNames -merge x1 x2
  clear_value x1 x2
  split
  ·
    exact (State.unknownOp_inv (c.mono rfl) k0)
  ·
    rename_i y e
    exact State.after_inv (c.mono rfl) k0 (cmdTable_inv c _ (List.mem_of_find?_eq_some e) _ _ _ _ (State.updMail_inv (c.mono rfl) k0))
theorem State.ccc_inv (c : Clo 0x8 P) {v0} {v1} (k0 : P v0) : P (State.ccc v0 v1) := by
  unfold State.ccc
  exact (ite_p (fun _ => (State.updMail_inv (c.mono rfl) k0)) (fun _ => (State.updMail_inv (c.mono rfl) k0)))
theorem execEntdaa_inv (c : Clo 0x200000000000008 P) {v0} {v1} (k1 : P v1) : (OutP P) (execEntdaa v0 v1) := by
  unfold execEntdaa
  exact (mk_next (ite_p (fun _ => (c.setF rfl (State.ccc_inv (c.mono rfl) k1))) (fun _ => k1)))
theorem execRstdaa_inv (c : Clo 0x200000000000000 P) {v0} (k0 : P v0) : (OutP P) (execRstdaa v0) := by
  unfold execRstdaa
  exact (mk_next (ite_p (fun _ => (c.setF rfl k0)) (fun _ => k0)))
theorem execEnec_inv (c : Clo 0x8 P) {v0} {v1} (k1 : P v1) : (OutP P) (execEnec v0 v1) := by
  unfold execEnec
  exact (mk_next (ite_p (fun _ => (State.updMail_inv (c.mono rfl) k1)) (fun _ => k1)))
theorem execDisec_inv (c : Clo 0x8 P) {v0} {v1} (k1 : P v1) : (OutP P) (execDisec v0 v1) := by
  unfold execDisec
  exact (mk_next (ite_p (fun _ => (State.updMail_inv (c.mono rfl) k1)) (fun _ => k1)))
theorem execGetpid_inv (c : Clo 0x8 P) {v0} (k0 : P v0) : (OutP P) (execGetpid v0) := by
  unfold execGetpid
  exact (mk_next (State.ccc_inv (c.mono rfl) k0))
theorem execGetbcr_inv (c : Clo 0x8 P) {v0} (k0 : P v0) : (OutP P) (execGetbcr v0) := by
  unfold execGetbcr
  exact (mk_next (State.ccc_inv (c.mono rfl) k0))
theorem execGetdcr_inv (c : Clo 0x8 P) {v0} (k0 : P v0) : (OutP P) (execGetdcr v0) := by
  unfold execGetdcr
  exact (mk_next (State.ccc_inv (c.mono rfl) k0))
theorem execGetstatus_inv (c : Clo 0xa P) {v0} (k0 : P v0) : (OutP P) (execGetstatus v0) := by
  unfold execGetstatus
  exact (mk_next (State.ccc_inv (c.mono rfl) (c.drawn rfl  k0)))
theorem execGetmwl_inv (c : Clo 0x8 P) {v0} (k0 : P v0) : (OutP P) (execGetmwl v0) := by
  unfold execGetmwl
  exact (mk_next (State.ccc_inv (c.mono rfl) k0))
theorem execGetmrl_inv (c : Clo 0x8 P) {v0} (k0 : P v0) : (OutP P) (execGetmrl v0) := by
  unfold execGetmrl
  exact (mk_next (State.ccc_inv (c.mono rfl) k0))
theorem execI3cPrivateWrite_inv (c : Clo 0x3c7af0b9f03fcc507169cf04804c40cc47f00003401121cf6063377f08d3047fc04077ffff P) {v0} {v1} {v2} (k2 : P v2) : (OutP P) (execI3cPrivateWrite v0 v1 v2) := by
  unfold execI3cPrivateWrite
  exact (mk_next (ite_p (fun _ => (State.updMail_inv (c.mono rfl) k2)) (fun _ => (ite_p (fun _ => (c.setF rfl k2)) (fun _ => (State.runCmd_inv (c.mono rfl) (State.updMail_inv (c.mono rfl) k2)))))))
theorem execI3cPrivateRead_inv (c : Clo 0x8 P) {v0} {v1} (k1 : P v1) : (OutP P) (execI3cPrivateRead v0 v1) := by
  unfold execI3cPrivateRead
  refine mk_next ?_
  split
  ·
    rename_i y1 y2
    exact (State.updMail_inv (c.mono rfl) k1)
  ·
    rename_i y3 y4 y5 y6
    exact (State.updMail_inv (c.mono rfl) k1)
theorem State.sideBlock_inv (c : Clo 0x3c7af0b9f03fcc507169cf04804c40cc47f00003401121cf6063377f08d3047fc04077ffff P) {v0} {v1} {v2} {v3} {v4} (k0 : P v0) : P (State.sideBlock v0 v1 v2 v3 v4) := by
  unfold State.sideBlock
  exact (ite_p (fun _ => (State.runCmd_inv (c.mono rfl) k0)) (fun _ => (ite_p (fun _ => (State.enumAnswer_inv (c.mono rfl) k0)) (fun _ => k0))))
theorem State.sideFrag_inv (c : Clo 0x3c7af0b9f03fcc507169cf04804c40cc47f00003401121cf6063377f08d3047fc04077ffff P) {v0} {v1} {v2} {v3} {v4} {v5} {v6} (k0 : P v0) : P (State.sideFrag v0 v1 v2 v3 v4 v5 v6) := by
  unfold State.sideFrag
  extract_lets +onlyGivenNames -merge x1 x2 x3 x4 x5
  clear_value x1 x2 x3 x5
  exact (ite_p (fun _ => (State.updMail_inv (c.mono rfl) k0)) (fun _ => (ite_p (fun _ => (State.updMail_inv (c.mono rfl) k0)) (fun _ => (State.sideBlock_inv (c.mono rfl) (State.updMail_inv (c.mono rfl) k0))))))
theorem execSidebandMessage_inv (c : Clo 0x3c7af0b9f03fcc507169cf04804c40cc47f00003401121cf6063377f08d3047fc04077ffff P) {v0} {v1} {v2} {v3} {v4} (k4 : P v4) : (OutP P) (execSidebandMessage v0 v1 v2 v3 v4) := by
  unfold execSidebandMessage
  extract_lets +onlyGivenNames -merge x1
  clear_value x1
  exact (mk_next (ite_p (fun _ => k4) (fun _ => (State.sideFrag_inv (c.mono rfl) k4))))
theorem execSidebandBlockTimeout_inv (c : Clo 0x8 P) {v0} {v1} (k1 : P v1) : (OutP P) (execSidebandBlockTimeout v0 v1) := by
  unfold execSidebandBlockTimeout
  exact (mk_next (State.updMail_inv (c.mono rfl) k1))
theorem State.badCmd_inv (c : Clo 0x201a P) {v0} {v1} {v2} (k0 : P v0) : P (State.badCmd v0 v1 v2) := by
  unfold State.badCmd
  extract_lets +onlyGivenNames -merge x1 x2
  clear_value x1 x2
  exact (State.deliver_inv (c.mono rfl) (ite_p (fun _ => k0) (fun _ => (c.drawn rfl  k0))))
theorem execMbCmd_inv (c : Clo 0x3c7af0b9f03fcc507169cf04804c40cc47f00003401121cf6063377f08d3047fc04077ffff P) {v0} {v1} (k1 : P v1) : (OutP P) (execMbCmd v0 v1) := by
  unfold execMbCmd
  refine mk_next ?_
  split
  ·
    rename_i y1 y2
    exact k1
  ·
    rename_i y3 y4 y5 y6
    have q8 := congr_p (Q := (OptP (SndP P))) y6 (by
        exact (State.takeOn_inv (c.mono rfl) k1)
      )
    have h7 : P y5 := q8
    refine ite_p (fun _ => h7) (fun _ => ?_)
    refine ite_p (fun _ => (State.badCmd_inv (c.mono rfl) h7)) (fun _ => ?_)
    refine ite_p (fun _ => (State.badCmd_inv (c.mono rfl) h7)) (fun _ => ?_)
    extract_lets +onlyGivenNames -merge x9
    have h10 : P x9 := by unfold x9; exact (State.updMail_inv (c.mono rfl) h7)
    clear_value x9
    exact (State.updMail_inv (c.mono rfl) (State.runCmd_inv (c.mono rfl) h10))
theorem State.engBell_inv (c : Clo 0x3c78d039f03f445071600004804c40cc41300002000021cd4021371c08420043c04020bfff P) {v0} {v1} {v2} {v3} (k0 : P v0) : P (State.engBell v0 v1 v2 v3) := by
  unfold State.engBell
  extract_lets +onlyGivenNames -merge x1
  have h2 : ∀ a0 a1, P a0 → P (x1 a0 a1) := by
    intro a4 a5 h3
    unfold x1
    beta_reduce
    exact (State.deliver_inv (c.mono rfl) h3)
  clear_value x1
  refine ite_p (fun _ => (c.setF rfl k0)) (fun _ => ?_)
  refine ite_p (fun _ => k0) (fun _ => ?_)
  refine ite_p (fun _ => (h2 _ _ k0)) (fun _ => ?_)
  extract_lets +onlyGivenNames -merge x6
  have h7 : P x6 := by unfold x6; exact (State.updMail_inv (c.mono rfl) k0)
  clear_value x6
  exact (fst_p (State.memGo_inv (c.mono rfl) h7))
theorem execMbEngBell_inv (c : Clo 0x3c78d039f03f445071600004804c40cc41300002000021cd4021371c08420043c04020bfff P) {v0} {v1} {v2} {v3} (k3 : P v3) : (OutP P) (execMbEngBell v0 v1 v2 v3) := by
  unfold execMbEngBell
  exact (mk_next (ite_p (fun _ => k3) (fun _ => (ite_p (fun _ => (State.busError_inv (c.mono rfl) k3)) (fun _ => (State.engBell_inv (c.mono rfl) k3))))))
theorem State.csrRequest_inv (c : Clo 0x3c78d039f03f445071600004804c40cc41300002000021cd4021371c08420043c04020bfff P) {v0} {v1} {v2} {v3} (k0 : P v0) : P (State.csrRequest v0 v1 v2 v3) := by
  unfold State.csrRequest
  refine ite_p (fun _ => (State.refuse_inv (c.mono rfl) k0)) (fun _ => ?_)
  refine ite_p (fun _ => (State.refuse_inv (c.mono rfl) k0)) (fun _ => ?_)
  refine ite_p (fun _ => ?_) (fun _ => ?_)
  ·
    refine ite_p (fun _ => ?_) (fun _ => (State.refuse_inv (c.mono rfl) k0))
    split
    ·
      rename_i y1 y2 y3 y4
      split
      ·
        rename_i y5 y6 y7 y8
        have q10 := congr_p (Q := (SndP P)) y8 (by
            exact (State.regRead_inv (c.mono rfl) k0)
          )
        have h9 : P y7 := q10
        exact (State.inject_inv (c.mono rfl) h9)
    ·
      rename_i y11 y12
      exact (State.inject_inv (c.mono rfl) k0)
  ·
    split
    ·
      rename_i y13 y14 y15
      exact (ite_p (fun _ => (State.engBell_inv (c.mono rfl) (State.inject_inv (c.mono rfl) k0))) (fun _ => (State.refuse_inv (c.mono rfl) k0)))
    ·
      rename_i y16 y17
      exact (State.refuse_inv (c.mono rfl) k0)
theorem State.mpRequest_inv (c : Clo 0x3c78d039f03f445071600004804c40cc41300002000021cd4021371c08420043c04020bfff P) {v0} {v1} (k0 : P v0) : P (State.mpRequest v0 v1) := by
  unfold State.mpRequest
  split
  ·
    rename_i y1 y2
    exact k0
  ·
    rename_i y3 y4 y5 y6
    have q8 := congr_p (Q := (OptP (SndP P))) y6 (by
        exact (State.takeOn_inv (c.mono rfl) k0)
      )
    have h7 : P y5 := q8
    refine ite_p (fun _ => (ite_p (fun _ => (State.refuse_inv (c.mono rfl) h7)) (fun _ => h7))) (fun _ => ?_)
    split
    ·
      rename_i y9 y10 y11
      exact (State.csrRequest_inv (c.mono rfl) h7)
    ·
      rename_i y12 y13
      exact (State.memAccess_inv (c.mono rfl) h7)
    ·
      rename_i y14 y15 y16
      exact (State.refuse_inv (c.mono rfl) h7)
theorem execCsrAccess_inv (c : Clo 0x3c78d039f03f445071600004804c40cc41300002000021cd4021371c08420043c04020bfff P) {v0} {v1} (k1 : P v1) : (OutP P) (execCsrAccess v0 v1) := by
  unfold execCsrAccess
  exact (mk_next (State.mpRequest_inv (c.mono rfl) k1))
theorem State.sendEvents_inv (c : Clo 0x18 P) {v0} {v1} (k0 : P v0) : P (State.sendEvents v0 v1) := by
  unfold State.sendEvents
  extract_lets +onlyGivenNames -merge x1 x2
  have h3 : P x2 := by unfold x2; exact (State.updMail_inv (c.mono rfl) k0)
  clear_value x1 x2
  refine State.each_inv (c.mono rfl) h3 ?_
  intro a7 a8 h6
  extract_lets +onlyGivenNames -merge x9
  clear_value x9
  refine ite_p (fun _ => (State.updMail_inv (c.mono rfl) h6)) (fun _ => ?_)
  refine ite_p (fun _ => h6) (fun _ => ?_)
  extract_lets +onlyGivenNames -merge x10
  clear_value x10
  exact (State.inject_inv (c.mono rfl) h6)
theorem execEventBlockSend_inv (c : Clo 0x18 P) {v0} (k0 : P v0) : (OutP P) (execEventBlockSend v0) := by
  unfold execEventBlockSend
  refine mk_next ?_
  extract_lets +onlyGivenNames -merge x1
  have h2 : P x1 := by unfold x1; exact (ite_p (fun _ => (State.each_inv (c.mono rfl) k0 (fun _ _ h3 => (State.sendEvents_inv (c.mono rfl) h3)))) (fun _ => k0))
  clear_value x1
  exact (State.each_inv (c.mono rfl) h2 (fun _ _ h4 => (State.sendEvents_inv (c.mono rfl) h4)))
theorem State.injectCmd_inv (c : Clo 0x3c7af0b9f03fcc507169cf04804c40cc47f00003401121cf6063377f08d3047fc04077ffff P) {v0} {v1} {v2} (k0 : P v0) : P (State.injectCmd v0 v1 v2) := by
  unfold State.injectCmd
  extract_lets +onlyGivenNames -merge x1 x2 x4
  have h3 : P x2 := by unfold x2; exact (State.updRp_inv (c.mono rfl) k0)
  have h5 : P x4 := by unfold x4; exact (State.runCmd_inv (c.mono rfl) h3)
  clear_value x1 x2 x4
  exact (State.updRp_inv (c.mono rfl) h5)
theorem State.injectNext_inv (c : Clo 0x3dfaf0b9f03fcc507169cf04804c40cc47f00003401121cf6063377f08d3147fc04077ffff P) {v0} {v1} (k0 : P v0) : P (State.injectNext v0 v1) := by
  unfold State.injectNext
  split
  ·
    rename_i y1 y2
    exact k0
  ·
    rename_i y3 y4 y5
    refine ite_p (fun _ => k0) (fun _ => ?_)
    extract_lets +onlyGivenNames -merge x6 x8
    have h7 : P x6 := by unfold x6; exact (State.reach_inv (c.mono rfl) k0)
    have h9 : P x8 := by unfold x8; exact (ite_p (fun _ => (State.injectCmd_inv (c.mono rfl) h7)) (fun _ => (State.injectOther_inv (c.mono rfl) h7)))
    clear_value x6 x8
    exact (ite_p (fun _ => (State.readFrom_inv (c.mono rfl) h9)) (fun _ => h9))
theorem execReplayInjection_inv (c : Clo 0x3dfaf0b9f03fcc507169cf04804c40cc47f00003401121cf6063377f08d3147fc04077ffff P) {v0} {v1} (k1 : P v1) : (OutP P) (execReplayInjection v0 v1) := by
  unfold execReplayInjection
  exact (mk_next (State.injectNext_inv (c.mono rfl) k1))
theorem State.configUe_inv (c : Clo 0x39f0304400710000040004004041300000000021c94020101008400000004000bffe P) {v0} {v1} (k0 : P v0) : P (State.configUe v0 v1) := by
  unfold State.configUe
  split
  ·
    rename_i y1 y2
    exact k0
  ·
    rename_i y3 y4 y5
    refine ite_p (fun _ => k0) (fun _ => ?_)
    extract_lets +onlyGivenNames -merge x6 x7 x8 x9 x11
    have h10 : P x9 := by unfold x9; exact (c.setSyn rfl _ _ (State.scramble_inv (c.mono rfl) (c.drawn rfl  (c.drawn rfl  k0))))
    have h12 : P x11 := by unfold x11; exact (State.hazard_inv (c.mono rfl) (State.logEc_inv (c.mono rfl) (c.inc rfl h10)))
    clear_value x6 x7 x8 x9 x11
    exact (State.enterSafe_inv (c.mono rfl) (c.setF rfl h12))
theorem execConfigUe_inv (c : Clo 0x39f0304400710000040004004041300000000021c94020101008400000004000bffe P) {v0} {v1} (k1 : P v1) : (OutP P) (execConfigUe v0 v1) := by
  unfold execConfigUe
  exact (mk_next (State.configUe_inv (c.mono rfl) k1))

/-! ### Arrival -/

theorem State.bellEnd_inv (c : Clo 0x3c7af0b9f03fcc507169cf04804c40cc47f00003401121cf6063377f08d3047fc04077ffff P) {v0} {v1} {v2} (k0 : P v0) : P (State.bellEnd v0 v1 v2) := by
  unfold State.bellEnd
  extract_lets +onlyGivenNames -merge x1 x2 x3
  have h4 : P x3 := by unfold x3; exact (State.updMail_inv (c.mono rfl) k0)
  clear_value x1 x2 x3
  exact (ite_p (fun _ => (State.deliver_inv (c.mono rfl) h4)) (fun _ => (State.runCmd_inv (c.mono rfl) h4)))
theorem State.memEnd_inv (c : Clo 0x3c7af0b9f03fcc507169cf04804c40cc47f00003401121cf6063377f08d3047fc04077ffff P) {v0} {v1} {v2} {v3} (k0 : P v0) : P (State.memEnd v0 v1 v2 v3) := by
  unfold State.memEnd
  exact (ite_p (fun _ => (State.memReadEnd_inv (c.mono rfl) k0)) (fun _ => (ite_p (fun _ => (State.transitionEnd_inv (c.mono rfl) k0)) (fun _ => (ite_p (fun _ => (State.debugEnd_inv (c.mono rfl) k0)) (fun _ => (ite_p (fun _ => (State.replayHeadEnd_inv (c.mono rfl) k0)) (fun _ => (ite_p (fun _ => (State.bellEnd_inv (c.mono rfl) k0)) (fun _ => (ite_p (fun _ => (State.imageEnd_inv (c.mono rfl) k0)) (fun _ => (State.memWriteEnd_inv (c.mono rfl) k0)))))))))))))
theorem State.mpAnswer_inv (c : Clo 0x3c7af0b9f03fcc507169cf04804c40cc47f00003401121cf6063377f08d3047fc04077ffff P) {v0} {v1} {v2} (k0 : P v0) : P (State.mpAnswer v0 v1 v2) := by
  unfold State.mpAnswer
  refine ite_p (fun _ => (State.kexAnswer_inv (c.mono rfl) k0)) (fun _ => ?_)
  split
  ·
    rename_i y1 y2
    exact (State.startWaiting_inv (c.mono rfl) (State.postAnswered_inv (c.mono rfl) k0))
  ·
    rename_i y3 y4 y5
    extract_lets +onlyGivenNames -merge x6
    clear_value x6
    refine ite_p (fun _ => (State.respond_inv (c.mono rfl) k0)) (fun _ => ?_)
    split
    ·
      rename_i y7 y8 y9 y10
      have q12 := congr_p (Q := (FstP P)) y10 (by
          exact (State.memAnswer_inv (c.mono rfl) k0)
        )
      have h11 : P y8 := q12
      split
      ·
        rename_i y13 y14
        exact (State.memEnd_inv (c.mono rfl) h11)
      ·
        rename_i y15
        exact h11
theorem State.responseArrives_inv (c : Clo 0x3e7af0b9f03fcc507169cf24804c40cc47f00003401129cf6063377f08d3047fc04077ffff P) {v0} {v1} (k0 : P v0) : P (State.responseArrives v0 v1) := by
  unfold State.responseArrives
  refine ite_p (fun _ => ?_) (fun _ => ?_)
  ·
    split
    ·
      rename_i y1 y2
      exact k0
    ·
      rename_i y3 y4 y5 y6
      have q8 := congr_p (Q := (OptP (SndP P))) y6 (by
          exact (State.take_inv (c.mono rfl) k0)
        )
      have h7 : P y5 := q8
      split
      ·
        rename_i y9 y10 y11 y12
        have q14 := congr_p (Q := (SndP P)) y12 (by
            exact (State.matchRsp_inv (c.mono rfl) h7)
          )
        have h13 : P y11 := q14
        exact (State.roomResponse_inv (c.mono rfl) h13)
      ·
        rename_i y15 y16 y17
        have q19 := congr_p (Q := (SndP P)) y17 (by
            exact (State.matchRsp_inv (c.mono rfl) h7)
          )
        have h18 : P y16 := q19
        exact h18
  ·
    refine ite_p (fun _ => (State.engResponse_inv (c.mono rfl) k0)) (fun _ => ?_)
    refine ite_p (fun _ => (State.dispatchResponse_inv (c.mono rfl) k0)) (fun _ => ?_)
    refine ite_p (fun _ => (State.homeResponse_inv (c.mono rfl) k0)) (fun _ => ?_)
    refine ite_p (fun _ => ?_) (fun _ => ?_)
    ·
      split
      ·
        rename_i y20 y21
        exact k0
      ·
        rename_i y22 y23 y24 y25
        have q27 := congr_p (Q := (OptP (SndP P))) y25 (by
            exact (orElse_p (State.take_inv (c.mono rfl) k0) (fun _ => (State.takeOn_inv (c.mono rfl) k0)))
          )
        have h26 : P y24 := q27
        split
        ·
          rename_i y28 y29 y30 y31
          have q33 := congr_p (Q := (SndP P)) y31 (by
              exact (State.matchRsp_inv (c.mono rfl) h26)
            )
          have h32 : P y30 := q33
          exact (ite_p (fun _ => (State.tapAnswer_inv (c.mono rfl) h32)) (fun _ => (State.pumpPosts_inv (c.mono rfl) (State.mpAnswer_inv (c.mono rfl) h32))))
        ·
          rename_i y34 y35 y36
          have q38 := congr_p (Q := (SndP P)) y36 (by
              exact (State.matchRsp_inv (c.mono rfl) h26)
            )
          have h37 : P y35 := q38
          exact h37
    ·
      refine ite_p (fun _ => ?_) (fun _ => k0)
      split
      ·
        rename_i y39 y40
        exact k0
      ·
        rename_i y41 y42 y43 y44
        have q46 := congr_p (Q := (OptP (SndP P))) y44 (by
            exact (State.takeOn_inv (c.mono rfl) k0)
          )
        have h45 : P y43 := q46
        split
        ·
          rename_i y47 y48 y49 y50
          have q52 := congr_p (Q := (SndP P)) y50 (by
              exact (State.matchRsp_inv (c.mono rfl) h45)
            )
          have h51 : P y49 := q52
          exact (ite_p (fun _ => h51) (fun _ => (State.rawResponse_inv (c.mono rfl) h51)))
        ·
          rename_i y53 y54 y55
          have q57 := congr_p (Q := (SndP P)) y55 (by
              exact (State.matchRsp_inv (c.mono rfl) h45)
            )
          have h56 : P y54 := q57
          exact h56
theorem execResponseArrival_inv (c : Clo 0x3e7af0b9f03fcc507169cf24804c40cc47f00003401129cf6063377f08d3047fc04077ffff P) {v0} {v1} (k1 : P v1) : (OutP P) (execResponseArrival v0 v1) := by
  unfold execResponseArrival
  exact (mk_next (State.responseArrives_inv (c.mono rfl) k1))

end Sys2Proof.Machine
end

