-- ==== Sys2Proof/WellFormed.lean ====
section
/-!
DEFINITION. Well-formed commands: every operand names a unit that exists and fits the field it is carried in.
A command block's argument words are 32 bits wide; whether they name a unit is the command's own check (R382).
-/
namespace Sys2Proof
open Sys2Proof.Machine

/-- A number that fits in w bits. -/
def fits (w n : Nat) : Bool := n < 2 ^ w
/-- A CSR offset: a multiple of 4 in the 256 MiB register space (R5, R161). -/
def offOk (off : Nat) : Bool := off < 0x10000000 && off % 4 == 0
/-- A command header: a mailbox port (Table 17-1), a node and endpoint that exist, a 16-bit tag, a LENGTH byte. -/
def Machine.CmdHdr.wf (h : CmdHdr) : Bool := h.port < 19 && h.node < 1024 && h.ep < 547 && fits 16 h.tag && fits 16 h.len
/-- A bank of the lofts or a plane store of a room. -/
def Machine.MowStore.wf : MowStore → Bool
  | .bank b => b < 512
  | .plane room p => room < 128 && p < 4
/-- A flit's header fields in their widths (R245, R267). -/
def Machine.Flit.wf (x : Flit) : Bool := fits 4 x.kind && x.vc < 4 && x.kph < 2 && fits 16 x.seq && fits 16 x.ack && fits 32 x.crc && x.credits.length == 4
/-- A packet's header fields in their widths, and LEN + 1 payload bytes where its type carries a payload (R146, R147). -/
def Machine.Packet.wf (p : Packet) : Bool :=
  fits 4 p.type && p.vc < 4 && fits 58 p.dest && fits 3 p.status && fits 8 p.len && fits 10 p.tag &&
    (p.payload.isEmpty || p.payload.length == p.len + 1)

/-- A finding of a crossing names a signal of the stair: 320 groups of 32 (R75). -/
def Machine.Crossing.wf (c : Crossing) : Bool := c.group < 320 && c.pos < 32
/-- Findings of the rows of a slice. -/
def rowsWf (l : List (Nat × List Crossing)) : Bool := l.all fun (e : Nat × List Crossing) => e.1 < 128 && e.2.all Machine.Crossing.wf
/-- An access of the logic to a room-RAM block (R46): a block, port words in its deepest port, at most one word of data. -/
def Machine.RamOp.wf (o : RamOp) : Bool :=
  o.block < 128 && o.read.all (· < 1152) && o.write.all fun (e : Nat × List Byte) => e.1 < 1152 && e.2.length ≤ 32

/-- The cells and multipliers of a room that an edge names, from the lowest up, each once (Table 03-1). -/
def Machine.LogicIn.wf (l : LogicIn) : Bool :=
  let rising (bound : Nat) (k : List Nat) : Bool := k.all (· < bound) && (k.zip (k.drop 1)).all fun (e : Nat × Nat) => e.1 < e.2
  l.ram.all RamOp.wf && l.rmreg.all (· < 1024) && rising 24576 (l.cells.map CellIn.cell) &&
    rising 96 (l.mults.map MultIn.mult)

/-- Well-formedness of a command. -/
def wfInstr : Instr → Bool
  | .deviceInfo h => h.wf
  | .abort h victim => h.wf && fits 16 victim
  | .csrRead h off n => h.wf && fits 32 off && fits 8 n
  | .csrWrite h off vals => h.wf && fits 32 off && fits 8 vals.length && vals.all (fits 32)
  | .memRead h addr n => h.wf && fits 64 addr && fits 8 n
  | .memWrite h addr bytes => h.wf && fits 64 addr && fits 8 bytes.length
  | .eventRead h => h.wf
  | .eventCfg h mask => h.wf && fits 32 mask
  | .nop h => h.wf
  | .clockStatus h => h.wf
  | .unitGate h kind index _ => h.wf && fits 8 kind && fits 8 index
  | .epochCommit h => h.wf
  | .epochDiscard h => h.wf
  | .booksAudit h => h.wf
  | .booksRead h dest => h.wf && fits 64 dest
  | .bankOwner h bank value => h.wf && fits 16 bank && fits 32 value
  | .bankGuest h bank value => h.wf && fits 16 bank && fits 32 value
  | .bankRetain h bank => h.wf && fits 16 bank
  | .bankWake h bank => h.wf && fits 16 bank
  | .bankWipe h bank => h.wf && fits 16 bank
  | .bankStatus h bank => h.wf && fits 16 bank
  | .planeLoad h room value => h.wf && fits 8 room && fits 32 value
  | .planeSave h room plane => h.wf && fits 8 room && fits 8 plane
  | .planeSwitch h room plane => h.wf && fits 8 room && fits 8 plane
  | .roomStatus h room => h.wf && fits 8 room
  | .roomPark h room => h.wf && fits 8 room
  | .roomUnpark h room => h.wf && fits 8 room
  | .schedStatus h => h.wf
  | .taskPost h recs repost => h.wf && fits 8 repost && fits 8 recs.length && recs.all fun r => fits 64 r.tag && fits 32 r.value
  | .templateSet h index d0 d1 d2 d3 => h.wf && fits 16 index && fits 32 d0 && fits 32 d1 && fits 32 d2 && fits 32 d3
  | .imageSet h image imageId locs => h.wf && fits 16 image && fits 64 imageId && fits 8 locs.length && locs.all fun l => fits 16 l.1 && fits 32 l.2
  | .flowSet h flow prio grouped group => h.wf && fits 32 flow && fits 8 prio && fits 8 grouped && fits 16 group
  | .groupSet h group window => h.wf && fits 16 group && fits 32 window
  | .taskCancel h desc => h.wf && fits 32 desc
  | .schedDrain h ms => h.wf && fits 32 ms
  | .dspStatus h engine => h.wf && fits 16 engine
  | .dspHalt h engine => h.wf && fits 16 engine
  | .dspResume h engine => h.wf && fits 16 engine
  | .dspStep h engine => h.wf && fits 16 engine
  | .dspReset h engine drop => h.wf && fits 16 engine && fits 8 drop
  | .dspStart h engine entry vals => h.wf && fits 16 engine && fits 16 entry && vals.all (fits 32)
  | .dpStatus h port => h.wf && fits 8 port
  | .dpRetrain h port us => h.wf && fits 8 port && fits 32 us
  | .dpDown h port => h.wf && fits 8 port
  | .dpUp h port us => h.wf && fits 8 port && fits 32 us
  | .slStatus h group => h.wf && fits 8 group
  | .slRetrain h group us => h.wf && fits 8 group && fits 32 us
  | .slDown h group => h.wf && fits 8 group
  | .slUp h group us => h.wf && fits 8 group && fits 32 us
  | .slSlip h group lane => h.wf && fits 8 group && fits 8 lane
  | .slPower h group txHold rxHold us => h.wf && fits 8 group && fits 8 txHold && fits 8 rxHold && fits 32 us
  | .enumerate h firstId ms => h.wf && fits 16 firstId && fits 32 ms
  | .enumAssign h nodeId ms => h.wf && fits 16 nodeId && fits 32 ms
  | .crStatus h first => h.wf && fits 8 first
  | .crRangeRekey h range => h.wf && fits 8 range
  | .crRangeReset h range => h.wf && fits 8 range
  | .linkKex h link => h.wf && fits 8 link
  | .kexMsg h msg link total offset bytes => h.wf && fits 8 msg && fits 8 link && fits 16 total && fits 16 offset && decide (bytes.length ≤ 52)
  | .powerStatus h => h.wf
  | .thermalStatus h first => h.wf && fits 8 first
  | .ageReport h => h.wf
  | .thermTest h offset ms => h.wf && fits 8 offset && fits 32 ms
  | .foundationReset h => h.wf
  | .resume h => h.wf
  | .recover h retest _ => h.wf && fits 8 retest
  | .stackReset h => h.wf
  | .selftestRun h kind unit _ => h.wf && fits 8 kind && fits 16 unit
  | .selftestResult h => h.wf
  | .checkerMode h bank enable rawRead => h.wf && fits 16 bank && fits 8 enable && fits 8 rawRead
  | .ecLogRead h => h.wf
  | .lcStatus h => h.wf
  | .certRead h curve dest => h.wf && fits 8 curve && fits 64 dest
  | .attest h curve dest nonce => h.wf && fits 8 curve && fits 64 dest && nonce.length == 32
  | .lcTransition h target source len => h.wf && fits 8 target && fits 64 source && fits 32 len
  | .debugAccess h level source len => h.wf && fits 8 level && fits 64 source && fits 32 len
  | .rpStatus h => h.wf
  | .recordStart h firstBank banks links sources => h.wf && fits 16 firstBank && fits 16 banks && fits 32 links && fits 8 sources
  | .recordStop h => h.wf
  | .replayStart h firstBank banks => h.wf && fits 16 firstBank && fits 16 banks
  | .replayStop h => h.wf
  | .storeStatus h => h.wf
  | .profileList h => h.wf
  | .profileWrite h slot source len => h.wf && fits 8 slot && fits 64 source && fits 32 len
  | .profileErase h slot => h.wf && fits 8 slot
  | .profilePush h source len => h.wf && fits 64 source && fits 32 len
  | .profileSelect h slot => h.wf && fits 8 slot
  | .fwWrite h source len => h.wf && fits 64 source && fits 32 len
  | .journalSet h off value mask => h.wf && fits 32 off && fits 32 value && fits 32 mask
  | .journalClear h off => h.wf && fits 32 off
  | .journalRead h dest => h.wf && fits 64 dest
  | .journalCompact h => h.wf
  | .entdaa da => decide (da < 128)
  | .rstdaa => true
  | .enec events => fits 8 events
  | .disec events => fits 8 events
  | .getpid => true
  | .getbcr => true
  | .getdcr => true
  | .getstatus => true
  | .getmwl => true
  | .getmrl => true
  | .i3cPrivateWrite _ _ => true
  | .i3cPrivateRead _ => true
  | .mbCmd _ => true
  | .mbEngBell engine addr _ => decide (engine < 256) && fits 14 addr
  | .sidebandMessage port header data _ => decide (port < 16) && fits 16 header && (data.isEmpty || data.length == 8)
  | .sidebandBlockTimeout port => decide (port < 16)
  | .eventBlockSend => true
  | .commandTimeLimit port node ep tag => decide (port < 19) && decide (node < 1024) && decide (ep < 547) && decide (tag < 65536)
  | .delayedStackReset => true
  | .load room _ value => decide (room < 128) && fits 32 value
  | .stateReload room _ value => decide (room < 128) && fits 32 value
  | .save room _ value => decide (room < 128) && fits 32 value
  | .drainComplete room => decide (room < 128)
  | .drainLimit room => decide (room < 128)
  | .loadRow room crossing => decide (room < 128) && crossing.all Crossing.wf
  | .loadFinish room => decide (room < 128)
  | .planectlSwitchRequest room target => decide (room < 128) && decide (target < 4)
  | .planectlDone room => decide (room < 128)
  | .heldSwitch room => decide (room < 128)
  | .rowRequest room loft row _ _ poison => decide (room < 128) && decide (loft < 4) && decide (row < 8192) && fits 32 poison
  | .rowMove room crossing => decide (room < 128) && crossing.all Crossing.wf
  | .roomEndpointRequest room => decide (room < 128)
  | .roomRamAccess room => decide (room < 128)
  | .serviceLaneRequest stair => decide (stair < 128)
  | .serviceAccess stair _ crossing => decide (stair < 128) && crossing.all Crossing.wf
  | .handover bank value => decide (bank < 512) && fits 32 value
  | .handoverComplete bank => decide (bank < 512)
  | .guestGrant bank value => decide (bank < 512) && fits 32 value
  | .retentionRequest bank => decide (bank < 512)
  | .wakeRequest bank => decide (bank < 512)
  | .retentionEntryComplete bank => decide (bank < 512)
  | .wakeStart bank => decide (bank < 512)
  | .wakeComplete bank => decide (bank < 512)
  | .wipeRequest bank => decide (bank < 512)
  | .wipeComplete bank => decide (bank < 512)
  | .startUpWipe loft => decide (1 ≤ loft) && decide (loft ≤ 4)
  | .checkerTestModeEntry value => fits 32 value
  | .checkerTestModeExit value => fits 32 value
  | .ecLogPop => true
  | .mowingRowVisit store => store.wf
  | .scrubAccess visit => visit.store.wf && visit.crossing.all Crossing.wf
  | .mowingWindow => true
  | .copyPassRow bank => decide (bank < 512)
  | .vtParityMismatch stair group found => decide (stair < 128) && decide (group < 512) && decide (found.seg < 8)
  | .walkingPatternTest stair => decide (stair < 128)
  | .repairOutcome stair failing => decide (stair < 128) && failing.all fun (x : Nat × Nat) => x.1 < 7 && x.2 < 32
  | .repairSamplingResume stair => decide (stair < 128)
  | .packetForward router out _ => decide (router < 144) && decide (out < 8)
  | .creditReturn link vc cls _ => decide (link < 1152) && decide (vc < 4) && decide (cls < 2)
  | .csrAccess _ => true
  | .responseArrival ep => decide (ep < 547)
  | .responseTimeLimit ep plane tag => decide (ep < 547) && decide (plane < 4) && decide (tag < 1024)
  | .expiredTagRelease ep plane tag => decide (ep < 547) && decide (plane < 4) && decide (tag < 1024)
  | .berrArm => true
  | .coBookSnapshot index => decide (index < 4294967296)
  | .epPeek value => fits 32 value
  | .token attach => decide (attach < 4)
  | .tokenRecord attach => decide (attach < 4)
  | .dispatchPipe pipe => decide (pipe < 4)
  | .dispatch engine => decide (engine < 256)
  | .dispatchResponse => true
  | .switchRepeat room => decide (room < 128)
  | .done => true
  | .resultRecordPost => true
  | .tick => true
  | .delayExpiry list => decide (list < 16)
  | .delayListWalk list => decide (list < 16)
  | .useCountDecay => true
  | .haltRequest engine value => decide (engine < 256) && fits 32 value
  | .engineHalt engine => decide (engine < 256)
  | .step engine => decide (engine < 256)
  | .deRfDataWrite engine value => decide (engine < 256) && fits 32 value
  | .engineMemoryAccess engine => decide (engine < 256)
  | .engineResponse engine => decide (engine < 256)
  | .nopInstruction engine f => decide (engine < 256) && fits 26 f
  | .ld engine f => decide (engine < 256) && fits 26 f
  | .st engine f => decide (engine < 256) && fits 26 f
  | .mov engine f => decide (engine < 256) && fits 26 f
  | .movr engine f => decide (engine < 256) && fits 26 f
  | .ldi engine f => decide (engine < 256) && fits 26 f
  | .setp engine f => decide (engine < 256) && fits 26 f
  | .movp engine f => decide (engine < 256) && fits 26 f
  | .rdr engine f => decide (engine < 256) && fits 26 f
  | .wrr engine f => decide (engine < 256) && fits 26 f
  | .acc engine f => decide (engine < 256) && fits 26 f
  | .alu engine f => decide (engine < 256) && fits 26 f
  | .alui engine f => decide (engine < 256) && fits 26 f
  | .cmac engine f => decide (engine < 256) && fits 26 f
  | .dmac engine f => decide (engine < 256) && fits 26 f
  | .tapm engine f => decide (engine < 256) && fits 26 f
  | .bfly engine f => decide (engine < 256) && fits 26 f
  | .sta engine f => decide (engine < 256) && fits 26 f
  | .rep engine f => decide (engine < 256) && fits 26 f
  | .br engine f => decide (engine < 256) && fits 26 f
  | .dbnz engine f => decide (engine < 256) && fits 26 f
  | .call engine f => decide (engine < 256) && fits 26 f
  | .ret engine f => decide (engine < 256) && fits 26 f
  | .get engine f => decide (engine < 256) && fits 26 f
  | .put engine f => decide (engine < 256) && fits 26 f
  | .sendtok engine f => decide (engine < 256) && fits 26 f
  | .sendmsg engine f => decide (engine < 256) && fits 26 f
  | .wait engine f => decide (engine < 256) && fits 26 f
  | .doneInstruction engine f => decide (engine < 256) && fits 26 f
  | .bkpt engine f => decide (engine < 256) && fits 26 f
  | .dataFlit link flit => decide (link < 32) && flit.wf
  | .nullFlit link flit => decide (link < 32) && flit.wf
  | .initFlit link flit => decide (link < 32) && flit.wf
  | .resyncFlit link flit => decide (link < 32) && flit.wf
  | .nak group flit => decide (group < 16) && flit.wf
  | .pm group flit => decide (group < 16) && flit.wf
  | .lmb group flit => decide (group < 16) && flit.wf
  | .teq group flit => decide (group < 16) && flit.wf
  | .frame group rx => decide (group < 16) && rx.lanes.length == 4 && rx.lanes.all (fits 2720) && rx.phase.length == 4 && rx.phase.all (fits 10)
  | .flitSend link vc => decide (link < 32) && decide (vc < 4)
  | .ackTimer link => decide (link < 32)
  | .replayTimer group => decide (group < 16)
  | .dpCtrlRetrain port => decide (port < 16)
  | .dpCtrlHoldDown port value => decide (port < 16) && decide (value < 2)
  | .slCtrlRetrain group => decide (group < 16)
  | .slCtrlHoldDown group value => decide (group < 16) && decide (value < 2)
  | .slCtrlSlip group value => decide (group < 16) && decide (value < 4)
  | .txHold group value => decide (group < 16) && decide (value < 4)
  | .rxHold group value => decide (group < 16) && decide (value < 4)
  | .replayBufferDrainLimit link => decide (link < 32)
  | .trainingAttempt link => decide (link < 32)
  | .alignmentCheck group matched => decide (group < 16) && decide (matched.length = 4) && matched.all fun m => m ≤ 256
  | .ffeTuningRound group requests => decide (group < 16) && decide (requests.length = 8) && requests.all (· < 256)
  | .frameLock group => decide (group < 16)
  | .adapterActive link rate => decide (link < 32) && decide (rate < 8)
  | .trainingFailure link => decide (link < 32)
  | .failedRetry link => decide (link < 32)
  | .l1Entry port => decide (port < 16)
  | .l1Exit port => decide (port < 16)
  | .txiEntry group => decide (group < 16)
  | .txsEntry group => decide (group < 16)
  | .txExit group => decide (group < 16)
  | .portMainbandStop port => decide (port < 16)
  | .rawTransmit group => decide (group < 16)
  | .rawReceive group block _ => decide (group < 16) && block.length == 256
  | .rawControlPoll group => decide (group < 16)
  | .rawRingRetry group => decide (group < 16)
  | .enumAssignResponse link _ _ => decide (link < 32)
  | .protectedRead => true
  | .fullLineWrite => true
  | .partialWrite => true
  | .homeResponse => true
  | .nodeVerification _ => true
  | .writeBack _ => true
  | .pageReEncryption range => decide (range < 32)
  | .rangeInitialisation range => decide (range < 32)
  | .rekeyPage range => decide (range < 32)
  | .rangeDisable range => decide (range < 32)
  | .autoKex link => decide (link < 32)
  | .kexTimeout link => decide (link < 32)
  | .kexFragmentGap link => decide (link < 32)
  | .gateOpen kind index => decide (kind < 5) && decide (index < 128)
  | .gateOpenComplete kind index => decide (kind < 5) && decide (index < 128)
  | .gateClose kind index => decide (kind < 5) && decide (index < 128)
  | .gateDrainEnd kind index => decide (kind < 5) && decide (index < 128)
  | .clockSwitch point _ _ => decide (point < 2)
  | .powerOnReset => true
  | .powerOnResetRelease profilePins => decide (profilePins < 8)
  | .railsPowerGood => true
  | .resetN => true
  | .lockstepMismatch => true
  | .bootVerification => true
  | .judgementWindow _ => true
  | .hearthLoopLock => true
  | .refclkLost => true
  | .hearthLoopStop => true
  | .relockAttempt _ => true
  | .rcFail => true
  | .startUpSelfTest _ _ _ _ => true
  | .profile _ => true
  | .commitFreeze => true
  | .commitApply => true
  | .commitPoint => true
  | .commitResponse => true
  | .audit => true
  | .foundationResetPendingEnd => true
  | .foundationResetFreeze => true
  | .foundationResetHold => true
  | .foundationResetRelease => true
  | .backgroundSlice stair => decide (stair < 128)
  | .sliceSaveDone rows => decide (rows.stair < 128) && rowsWf rows.crossing
  | .sliceMarchDone stair _ => decide (stair < 128)
  | .sliceRestoreDone rows => decide (rows.stair < 128) && rowsWf rows.crossing
  | .sliceBudgetExpiry stair => decide (stair < 128)
  | .sheddingStepEntry step rail => decide (1 ≤ step) && decide (step ≤ 6) && decide (2 ≤ rail.rail) && decide (rail.rail ≤ 9)
  | .sheddingStepExit step => decide (1 ≤ step.step) && decide (step.step ≤ 6)
  | .railStateLost rail => decide (4 ≤ rail) && decide (rail ≤ 6)
  | .adcConversion _ => true
  | .slowRoundEnd => true
  | .ageingMeasurement _ => true
  | .lifeRecord => true
  | .thermTestEnd => true
  | .journalCompaction => true
  | .recorderDrain => true
  | .checkRecord => true
  | .stampLimit => true
  | .replayInjection _ => true
  | .replayHalt cause => decide (cause < 3)
  | .lcChalNew => true
  | .btResPop => true
  | .readClear off => offOk off
  | .lowWordReadLatch off => offOk off
  | .registerWrite off value => offOk off && fits 32 value
  | .ckRoomEdge room _ logic => decide (room < 128) && logic.wf
  | .corridorTransmit room pkt => decide (room < 128) && pkt.wf
  | .tapAccess _ => true
  | .forwardedClockStop group => decide (group < 16)
  | .adapterRetryFailure port replays => decide (port < 16) && fits 32 replays
  | .laneFault port lane _ => decide (port < 16) && decide (lane < 64)
  | .configUe room => decide (room < 128)
  | .resetNRelease profilePins => decide (profilePins < 8)
  | .lockFail => true
  | .programOrEraseEnd _ => true

end Sys2Proof
end

