-- ==== Sys2Proof/Tests/Slice0.lean ====
section
/-!
SUPPORT. The model's own tests: ill-formed commands that wfInstr refuses, and for each statement with hypotheses a small state
that meets them.
-/
open Sys2Proof Sys2Proof.Machine
section Witnesses
set_option Elab.async false
set_option maxRecDepth 1000000
set_option linter.unusedVariables false

/-! ### Helpers -/

/-- A command from the I3C port, LENGTH 58. -/
def h0 : CmdHdr := { port := 0, node := 0, ep := 546, tag := 7, len := 58 }
/-- A packet without payload. -/
def p0 : Packet := { type := 0, vc := 0, flits := 1, dest := 0, len := 31, tag := 0, srcEp := 546, srcNode := 0, hops := 8 }

/-! ### Well-formedness: each check of wfInstr refuses a command that breaks it alone -/

theorem test_wf_refuses_0 : ((
  [.abort h0 65536, .csrRead h0 4294967296 0, .csrRead h0 0 256, .csrWrite h0 4294967296 [],
   .csrWrite h0 0 (List.replicate 256 0), .memRead h0 18446744073709551616 0, .memRead h0 0 256,
   .memWrite h0 18446744073709551616 [], .memWrite h0 0 (List.replicate 256 0), .eventCfg h0 4294967296,
   .nop { h0 with port := 19 }, .unitGate h0 256 0 false, .unitGate h0 0 256 false, .booksRead h0 18446744073709551616,
   .bankOwner h0 65536 0, .bankOwner h0 0 4294967296, .bankGuest h0 65536 0, .bankGuest h0 0 4294967296,
   .bankRetain h0 65536, .bankWake h0 65536, .bankWipe h0 65536, .bankStatus h0 65536, .planeLoad h0 256 0,
   .planeLoad h0 0 4294967296, .planeSave h0 256 0, .planeSave h0 0 256, .planeSwitch h0 256 0, .planeSwitch h0 0 256,
   .roomStatus h0 256, .roomPark h0 256, .roomUnpark h0 256, .taskPost h0 [] 256,
   .taskPost h0 (List.replicate 256 { tag := 0, value := 0, poison := false }) 0, .templateSet h0 65536 0 0 0 0,
   .templateSet h0 0 4294967296 0 0 0, .templateSet h0 0 0 4294967296 0 0, .templateSet h0 0 0 0 4294967296 0,
   .templateSet h0 0 0 0 0 4294967296, .imageSet h0 65536 0 [], .imageSet h0 0 18446744073709551616 [],
   .imageSet h0 0 0 (List.replicate 256 (0, 0)), .flowSet h0 4294967296 0 0 0, .flowSet h0 0 256 0 0, .flowSet h0 0 0 256 0,
   .flowSet h0 0 0 0 65536, .groupSet h0 65536 0, .groupSet h0 0 4294967296, .taskCancel h0 4294967296,
   .schedDrain h0 4294967296, .dspStatus h0 65536, .dspHalt h0 65536, .dspResume h0 65536, .dspStep h0 65536,
   .dspReset h0 65536 0, .dspReset h0 0 256, .dspStart h0 65536 0 [], .dspStart h0 0 65536 [], .dpStatus h0 256,
   .dpRetrain h0 256 0, .dpRetrain h0 0 4294967296, .dpDown h0 256, .dpUp h0 256 0, .dpUp h0 0 4294967296, .slStatus h0 256,
   .slRetrain h0 256 0, .slRetrain h0 0 4294967296, .slDown h0 256, .slUp h0 256 0, .slUp h0 0 4294967296, .slSlip h0 256 0,
   .slSlip h0 0 256, .slPower h0 256 0 0 0, .slPower h0 0 256 0 0, .slPower h0 0 0 256 0, .slPower h0 0 0 0 4294967296,
   .enumerate h0 65536 0, .enumerate h0 0 4294967296, .enumAssign h0 65536 0, .enumAssign h0 0 4294967296, .crStatus h0 256,
   .crRangeRekey h0 256, .crRangeReset h0 256, .linkKex h0 256, .kexMsg h0 256 0 0 0 [], .kexMsg h0 0 256 0 0 [],
   .kexMsg h0 0 0 65536 0 [], .kexMsg h0 0 0 0 65536 [], .thermalStatus h0 256, .thermTest h0 256 0,
   .thermTest h0 0 4294967296, .recover h0 256 [], .selftestRun h0 256 0 [], .selftestRun h0 0 65536 [],
   .checkerMode h0 65536 0 0, .checkerMode h0 0 256 0, .checkerMode h0 0 0 256, .certRead h0 256 0,
   .certRead h0 0 18446744073709551616, .attest h0 256 0 (List.replicate 32 0),
   .attest h0 0 18446744073709551616 (List.replicate 32 0), .lcTransition h0 256 0 0,
   .lcTransition h0 0 18446744073709551616 0, .lcTransition h0 0 0 4294967296, .debugAccess h0 256 0 0,
   .debugAccess h0 0 18446744073709551616 0, .debugAccess h0 0 0 4294967296, .recordStart h0 65536 0 0 0,
   .recordStart h0 0 65536 0 0, .recordStart h0 0 0 4294967296 0, .recordStart h0 0 0 0 256, .replayStart h0 65536 0,
   .replayStart h0 0 65536, .profileWrite h0 256 0 0, .profileWrite h0 0 18446744073709551616 0,
   .profileWrite h0 0 0 4294967296, .profileErase h0 256, .profilePush h0 18446744073709551616 0,
   .profilePush h0 0 4294967296, .profileSelect h0 256, .fwWrite h0 18446744073709551616 0, .fwWrite h0 0 4294967296,
   .journalSet h0 4294967296 0 0, .journalSet h0 0 4294967296 0, .journalSet h0 0 0 4294967296, .journalClear h0 4294967296,
   .journalRead h0 18446744073709551616, .entdaa 128, .enec 256, .disec 256, .mbEngBell 256 0 []] : List Instr).all fun i => !wfInstr i) = true := by
  decide +kernel
theorem test_wf_refuses_1 : ((
  [.mbEngBell 0 16384 [], .sidebandMessage 16 0 [] [], .sidebandMessage 0 65536 [] [], .sidebandBlockTimeout 16,
   .commandTimeLimit 19 0 0 0, .commandTimeLimit 0 1024 0 0, .commandTimeLimit 0 0 547 0, .commandTimeLimit 0 0 0 65536,
   .load 128 .mp 0, .load 0 .mp 4294967296, .stateReload 128 .mp 0, .stateReload 0 .mp 4294967296, .save 128 .mp 0,
   .save 0 .mp 4294967296, .drainComplete 128, .drainLimit 128, .loadRow 128 [], .loadFinish 128,
   .planectlSwitchRequest 128 0, .planectlSwitchRequest 0 4, .planectlDone 128, .heldSwitch 128,
   .rowRequest 128 0 0 false [] 0, .rowRequest 0 4 0 false [] 0, .rowRequest 0 0 8192 false [] 0,
   .rowRequest 0 0 0 false [] 4294967296, .rowMove 128 [], .roomEndpointRequest 128, .roomRamAccess 128,
   .serviceLaneRequest 128, .serviceAccess 128 false [], .handover 512 0, .handover 0 4294967296, .handoverComplete 512,
   .guestGrant 512 0, .guestGrant 0 4294967296, .retentionRequest 512, .wakeRequest 512, .retentionEntryComplete 512,
   .wakeStart 512, .wakeComplete 512, .wipeRequest 512, .wipeComplete 512, .startUpWipe 0, .startUpWipe 5,
   .checkerTestModeEntry 4294967296, .checkerTestModeExit 4294967296, .copyPassRow 512, .vtParityMismatch 128 0 ⟨0, false⟩,
   .vtParityMismatch 0 512 ⟨0, false⟩, .vtParityMismatch 0 0 ⟨8, false⟩, .walkingPatternTest 128, .repairOutcome 128 [],
   .repairSamplingResume 128, .packetForward 144 0 .clean, .packetForward 0 8 .clean, .creditReturn 1152 0 0 0,
   .creditReturn 0 4 0 0, .creditReturn 0 0 2 0, .responseArrival 547, .responseTimeLimit 547 0 0, .responseTimeLimit 0 4 0,
   .responseTimeLimit 0 0 1024, .expiredTagRelease 547 0 0, .expiredTagRelease 0 4 0, .expiredTagRelease 0 0 1024,
   .coBookSnapshot 4294967296, .epPeek 4294967296, .token 4, .tokenRecord 4, .dispatchPipe 4, .dispatch 256,
   .switchRepeat 128, .delayExpiry 16, .delayListWalk 16, .haltRequest 256 0, .haltRequest 0 4294967296, .engineHalt 256,
   .step 256, .deRfDataWrite 256 0, .deRfDataWrite 0 4294967296, .engineMemoryAccess 256, .engineResponse 256,
   .nopInstruction 256 0, .nopInstruction 0 67108864, .ld 256 0, .ld 0 67108864, .st 256 0, .st 0 67108864, .mov 256 0,
   .mov 0 67108864, .movr 256 0, .movr 0 67108864, .ldi 256 0, .ldi 0 67108864, .setp 256 0, .setp 0 67108864, .movp 256 0,
   .movp 0 67108864, .rdr 256 0, .rdr 0 67108864, .wrr 256 0, .wrr 0 67108864, .acc 256 0, .acc 0 67108864, .alu 256 0,
   .alu 0 67108864, .alui 256 0, .alui 0 67108864, .cmac 256 0, .cmac 0 67108864, .dmac 256 0, .dmac 0 67108864,
   .tapm 256 0, .tapm 0 67108864, .bfly 256 0, .bfly 0 67108864, .sta 256 0, .sta 0 67108864, .rep 256 0, .rep 0 67108864,
   .br 256 0, .br 0 67108864, .dbnz 256 0, .dbnz 0 67108864, .call 256 0, .call 0 67108864, .ret 256 0, .ret 0 67108864,
   .get 256 0] : List Instr).all fun i => !wfInstr i) = true := by
  decide +kernel
theorem test_wf_refuses_2 : ((
  [.get 0 67108864, .put 256 0, .put 0 67108864, .sendtok 256 0, .sendtok 0 67108864, .sendmsg 256 0, .sendmsg 0 67108864,
   .wait 256 0, .wait 0 67108864, .doneInstruction 256 0, .doneInstruction 0 67108864, .bkpt 256 0, .bkpt 0 67108864,
   .dataFlit 32 { kind := 0 }, .nullFlit 32 { kind := 0 }, .initFlit 32 { kind := 0 }, .resyncFlit 32 { kind := 0 },
   .nak 16 { kind := 0 }, .pm 16 { kind := 0 }, .lmb 16 { kind := 0 }, .teq 16 { kind := 0 },
   .frame 16 { lanes := [0, 0, 0, 0] }, .flitSend 32 0, .flitSend 0 4, .ackTimer 32, .replayTimer 16,
   .dpCtrlRetrain 16, .dpCtrlHoldDown 16 0, .dpCtrlHoldDown 0 2, .slCtrlRetrain 16, .slCtrlHoldDown 16 0,
   .slCtrlHoldDown 0 2, .slCtrlSlip 16 0, .slCtrlSlip 0 4, .txHold 16 0, .txHold 0 4, .rxHold 16 0, .rxHold 0 4,
   .replayBufferDrainLimit 32, .trainingAttempt 32, .alignmentCheck 16 [0, 0, 0, 0],
   .ffeTuningRound 16 (List.replicate 8 0), .frameLock 16, .adapterActive 32 0, .adapterActive 0 8, .trainingFailure 32,
   .failedRetry 32, .l1Entry 16, .l1Exit 16, .txiEntry 16, .txsEntry 16, .txExit 16, .portMainbandStop 16, .rawTransmit 16,
   .rawReceive 16 (List.replicate 256 0) false, .rawControlPoll 16, .rawRingRetry 16, .enumAssignResponse 32 0 0,
   .pageReEncryption 32, .rangeInitialisation 32, .rekeyPage 32, .rangeDisable 32, .autoKex 32, .kexTimeout 32,
   .kexFragmentGap 32, .gateOpen 5 0, .gateOpen 0 128, .gateOpenComplete 5 0, .gateOpenComplete 0 128, .gateClose 5 0,
   .gateClose 0 128, .gateDrainEnd 5 0, .gateDrainEnd 0 128, .clockSwitch 2 false false, .powerOnResetRelease 8,
   .backgroundSlice 128, .sliceSaveDone ⟨128, []⟩, .sliceMarchDone 128 [], .sliceRestoreDone ⟨128, []⟩, .sliceBudgetExpiry 128,
   .sheddingStepEntry 0 ⟨2, 0⟩, .sheddingStepEntry 7 ⟨2, 0⟩, .sheddingStepEntry 1 ⟨1, 0⟩, .sheddingStepEntry 1 ⟨10, 0⟩,
   .sheddingStepExit ⟨0, 0, 0⟩, .sheddingStepExit ⟨7, 0, 0⟩, .railStateLost 3, .railStateLost 7, .replayHalt 3, .readClear 2, .readClear 268435456,
   .lowWordReadLatch 2, .lowWordReadLatch 268435456, .registerWrite 2 0, .registerWrite 268435456 0,
   .registerWrite 0 4294967296, .ckRoomEdge 128 ⟨0, 0⟩ ⟨[], none, [], []⟩, .corridorTransmit 128 p0, .forwardedClockStop 16,
   .adapterRetryFailure 16 0, .adapterRetryFailure 0 4294967296, .laneFault 16 0 false, .laneFault 0 64 false,
   .configUe 128, .resetNRelease 8, .ckRoomEdge 128 ⟨0, 0⟩ ⟨[], none, [], []⟩, .ckRoomEdge 0 ⟨0, 0⟩ ⟨[], some 1024, [], []⟩, .ckRoomEdge 0 ⟨0, 0⟩ ⟨[], none, [⟨24576, 0, 0, false, 0, 0, 0⟩], []⟩,
   .ckRoomEdge 0 ⟨0, 0⟩ ⟨[], none, [], [⟨96, 0, 0, false⟩]⟩, .ckRoomEdge 0 ⟨0, 0⟩ ⟨[], none, [⟨1, 0, 0, false, 0, 0, 0⟩, ⟨0, 0, 0, false, 0, 0, 0⟩], []⟩,
   .ckRoomEdge 0 ⟨0, 0⟩ ⟨[⟨128, none, none⟩], none, [], []⟩, .ckRoomEdge 0 ⟨0, 0⟩ ⟨[⟨0, none, some 1152⟩], none, [], []⟩, .csrWrite h0 0 [4294967296],
   .dspStart h0 0 0 [4294967296], .taskPost h0 [{ tag := 18446744073709551616, value := 0, poison := false }] 0,
   .taskPost h0 [{ tag := 0, value := 4294967296, poison := false }] 0, .imageSet h0 0 0 [(65536, 0)],
   .imageSet h0 0 0 [(0, 4294967296)], .kexMsg h0 0 0 0 0 (List.replicate 53 0), .attest h0 0 0 (List.replicate 31 0),
   .sidebandMessage 0 0 [0] [], .mowingRowVisit (.bank 512), .mowingRowVisit (.plane 128 0),
   .scrubAccess ⟨(.plane 0 4), false, []⟩, .scrubAccess ⟨(.bank 0), true, [⟨320, 0, false⟩]⟩,
   .serviceAccess 0 false [⟨0, 32, true⟩], .sliceSaveDone ⟨0, [(128, [])]⟩, .sliceRestoreDone ⟨0, [(0, [⟨320, 0, false⟩])]⟩,
   .alignmentCheck 0 [0], .alignmentCheck 0 [0, 0, 0, 257], .ffeTuningRound 0 [0], .ffeTuningRound 0 (List.replicate 8 256),
   .rawReceive 0 [] false] : List Instr).all fun i => !wfInstr i) = true := by
  decide +kernel
theorem test_wf_refuses_3 : ((
  [.frame 0 { lanes := [0, 0, 0, 2 ^ 2720] }, .frame 0 { lanes := [0, 0, 0] },
   .frame 0 { lanes := [0, 0, 0, 0], phase := [] }, .nop { h0 with node := 1024 },
   .nop { h0 with ep := 547 }, .nop { h0 with tag := 65536 }, .nop { h0 with len := 65536 }, .dataFlit 0 { kind := 16 },
   .nullFlit 0 { kind := 16 }, .initFlit 0 { kind := 16 }, .resyncFlit 0 { kind := 16 }, .nak 0 { kind := 16 },
   .pm 0 { kind := 16 }, .lmb 0 { kind := 16 }, .teq 0 { kind := 16 }, .dataFlit 0 { kind := 0, vc := 4 },
   .dataFlit 0 { kind := 0, kph := 2 }, .dataFlit 0 { kind := 0, seq := 65536 }, .dataFlit 0 { kind := 0, ack := 65536 },
   .dataFlit 0 { kind := 0, crc := 4294967296 }, .dataFlit 0 { kind := 0, credits := [] },
   .corridorTransmit 0 { p0 with type := 16 }, .corridorTransmit 0 { p0 with vc := 4 },
   .corridorTransmit 0 { p0 with dest := 288230376151711744 }, .corridorTransmit 0 { p0 with status := 8 },
   .corridorTransmit 0 { p0 with len := 256 }, .corridorTransmit 0 { p0 with tag := 1024 },
   .corridorTransmit 0 { p0 with payload := [0, 0] }] : List Instr).all fun i => !wfInstr i) = true := by
  decide +kernel

/-! ### The code of a stack-link frame (R260) -/

/-- One PAM4 symbol of each lane is wrong: four code symbols are corrected, and the message is the one that was sent. -/
theorem test_frame_is_corrected :
    let x := FrameRx.decode { lanes := (frameLanes 12345).map (Nat.xor 1) }
    (x.message, x.corrected, x.ue) = (12345, 4, false) := by decide +kernel

/-! ### Deciding the premises -/

/-- A table in canonical form over a constant default. -/
def mOk {α : Type} [DecidableEq α] (d : α) (m : SMap α) : Bool := mwf (fun _ => d) m
def canonB (s : State) : Bool :=
  mwf regDefault s.regs && Memory.wf s.mem && mOk (0 : Word) s.synd && mOk (0xFF : Byte) s.flash && mOk ({} : Room) s.rooms &&
    mOk ({} : Stair) s.stairs && mOk ({} : Bank) s.banks && mOk ({} : Eng) s.engs && mOk ({} : Link) s.links &&
    mOk (0 : Word) s.odie
theorem canon_of {s : State} (h : canonB s = true) : s.canon := by
  simp only [canonB, mOk, Bool.and_eq_true, and_assoc] at h
  obtain ⟨a, b, c, d, e, f, g, i, j, k⟩ := h
  exact ⟨a, b, c, d, e, f, g, i, j, k⟩

/-- What holds of the default and of every listed value holds of every value of a table. -/
theorem mget_all {α : Type} (d : Nat → α) (p : α → Bool) (k : Nat) (hd : p (d k) = true) :
    ∀ m : SMap α, (m.all fun e => p e.2) = true → p (mget d m k) = true
  | [], _ => hd
  | (k', v) :: t, h => by
    simp only [List.all_cons, Bool.and_eq_true] at h
    unfold mget
    split
    · exact h.1
    · split
      · exact hd
      · exact mget_all d p k hd t h.2

def planeB (p : Plane) : Bool := mOk Slot.free p.slots && mOk ({} : MultReg) p.mults
def roomB (r : Room) : Bool := mOk ({} : Plane) r.planes && r.planes.all fun p => planeB p.2
def engB (g : Eng) : Bool :=
  mOk 0 g.d && mOk 0 g.a && mOk 0 g.ptr && mOk 0 g.mod && mOk 0 g.len && mOk ({} : EngTag) g.tags
def linkB (l : Link) : Bool :=
  mOk [] l.rxStream && mOk [] l.rxEnts && mOk [] l.txQ && mOk 0 l.badFrames && mOk 0 l.replays && mOk zero4 l.carriedCr
def tablesB (s : State) : Bool :=
  (s.rooms.all fun e => roomB e.2) && (s.banks.all fun e => mOk (0, 0) e.2.spares) && (s.engs.all fun e => engB e.2) &&
  (s.links.all fun e => linkB e.2) && (s.sched.pipes.all fun e => mOk [] e.2.ready) &&
  (s.net.arbs.all fun e => mOk 5 e.2.last) && mOk [] s.net.posts && mOk [] s.mail.bells && mOk 0 s.mow.planeRow && mOk 0 s.mow.scrubs &&
  mOk 0 s.pow.lifeUs && mOk 0 s.fuses.keyHash && mOk (0, 0) s.journal.settings &&
  mOk none s.svc && mOk [] s.net.bufs && mOk [] s.net.send &&
  mwf bookDefault s.net.books && mOk ({} : Arb) s.net.arbs && mOk none s.net.outReq && mOk [] s.mail.rsp && mOk [] s.mail.evq &&
  mOk [] s.mail.part && mOk 0 s.mail.partKind && mOk 0 s.mail.causes && mOk 0 s.mail.seq8 && mOk ({} : Desc) s.sched.descs && mOk 0 s.sched.mtab &&
  mOk ({} : Flow) s.sched.flows && mOk ({} : Grp) s.sched.groups && mOk ({} : DelayList) s.sched.delays &&
  mOk ({} : Pipe) s.sched.pipes && mOk 0 s.sched.use && mOk none s.sched.tokPkt && mOk 0 s.sched.mways && mOk [] s.sched.wantSwitch &&
  mOk ({} : CrRange) s.crypto.ranges && mOk none s.crypto.reqs && mOk none s.crypto.jobs && mOk 0 s.clk.gating && mOk 0 s.latch &&
  mOk none s.staged && mOk none s.snapshot
theorem room_of {s : State} (h : (s.rooms.all fun e => roomB e.2) = true) (n : Nat) : roomB (s.room n) = true :=
  mget_all (fun _ => ({} : Room)) roomB n rfl s.rooms h
theorem tables_of {s : State} (h : tablesB s = true) : s.tables := by
  simp only [tablesB, Bool.and_eq_true, and_assoc] at h
  obtain ⟨hr, hb, he, hl, hp, ha, k1, k2, k3, k4, k5, k6, k7, h1, h2, h3, h4, h5, h6, h7, h8, h9, h10, h11, h12, h13, h14, h15, h16, h17, h18, h19, h20, h21, h22, h23, h24, h25, h26, h27, h28, h29⟩ := h
  have hr' := fun n => by have := room_of hr n; simp only [roomB, Bool.and_eq_true] at this; exact this
  have hp' := fun n p => by
    have := mget_all (fun _ => ({} : Plane)) planeB p rfl (s.room n).planes (hr' n).2; simp only [planeB, Bool.and_eq_true] at this; exact this
  have he' := fun e => by
    have := mget_all (fun _ => ({} : Eng)) engB e rfl s.engs he; simp only [engB, Bool.and_eq_true, and_assoc] at this; exact this
  have hl' := fun k => by
    have := mget_all (fun _ => ({} : Link)) linkB k rfl s.links hl; simp only [linkB, Bool.and_eq_true, and_assoc] at this; exact this
  exact
    { planes := fun n => (hr' n).1
      slots := fun n p => (hp' n p).1
      mults := fun n p => (hp' n p).2
      arbLast := fun i => mget_all (fun _ => ({} : Arb)) (fun q => mOk 5 q.last) i rfl s.net.arbs ha
      posts := k1, bells := k2, planeRow := k3, scrubs := k4, lifeUs := k5, keyHash := k6, settings := k7
      spares := fun b => mget_all (fun _ => ({} : Bank)) (fun q => mOk (0, 0) q.spares) b rfl s.banks hb
      svc := h1, bufs := h2, send := h3, books := h4, arbs := h5, outReq := h6, rsp := h7, evq := h8, part := h9, partKind := h10,
      causes := h11, seq8 := h12, descs := h13, mtab := h14, flows := h15, groups := h16, delays := h17, pipes := h18,
      ready := fun p => mget_all (fun _ => ({} : Pipe)) (fun q => mOk [] q.ready) p rfl s.sched.pipes hp
      use := h19, tokPkt := h20, mways := h21, wantSwitch := h22
      d := fun e => (he' e).1, a := fun e => (he' e).2.1, ptr := fun e => (he' e).2.2.1, mod := fun e => (he' e).2.2.2.1
      len := fun e => (he' e).2.2.2.2.1, tags := fun e => (he' e).2.2.2.2.2
      rxStream := fun k => (hl' k).1, rxEnts := fun k => (hl' k).2.1, txQ := fun k => (hl' k).2.2.1, badFrames := fun k => (hl' k).2.2.2.1
      replays := fun k => (hl' k).2.2.2.2.1, carriedCr := fun k => (hl' k).2.2.2.2.2
      ranges := h23, reqs := h24, jobs := h25, gating := h26, latch := h27, staged := h28, snapshot := h29 }
theorem hasRoom_of {s : State} {h : CmdHdr}
    (x : (¬(h.port = 18 ∧ 0 < s.inProgress h) ∧ s.noRoom h = false ∧ s.inprogOf h.ref = none)) : s.hasRoom h := ⟨x.1, x.2.1, x.2.2⟩
theorem accepts_of {s : State} {e : Ebryn}
    (x : (¬(e.h.port = 18 ∧ 0 < s.inProgress e.h) ∧ s.noRoom e.h = false ∧ s.inprogOf e.h.ref = none) ∧ s.screen e = none) :
    s.accepts e := ⟨hasRoom_of x.1, x.2⟩
def ownB (s : State) (e : Nat) : Bool :=
  ((s.eng e).haltCmds ++ (s.eng e).stepCmds ++ (s.eng e).startCmd.toList.map EngStart.cmd).all fun r => r.1 != 18
theorem own_of {s : State} {e : Nat} (h : ownB s e = true) : s.ownFree e := fun r hr => by simpa using List.all_eq_true.1 h r hr
theorem between_of {a b : Nat} {P : Nat → Prop} (h : ∀ j, j < b → a < j → P j) : ∀ j, a < j → j < b → P j := fun j x y => h j y x
theorem fetched_of {s : State} {e op f : Nat}
    (x : e < 256 ∧ s.engState e = 2 ∧ s.f Fld.DE_CTRL_HALT e = 0 ∧ (s.eng e).rep = 0 ∧ (s.eng e).stepping = false ∧
      (s.eng e).pcOver = false ∧ s.svcDue e = false ∧ ownB s e = true ∧
      (s.engRead (pAddr e (s.f Fld.DE_PC_PC e))).1 = 2 ^ 26 * op + f ∧
      (s.engRead (pAddr e (s.f Fld.DE_PC_PC e))).2.1 = false ∧ illegalWord (2 ^ 26 * op + f) = false) : s.fetched e op f := by
  obtain ⟨a, b, c, d, g, h, i, j, k, l, m⟩ := x
  exact ⟨a, b, c, d, g, h, i, fun r hr => by simpa using List.all_eq_true.1 j r hr, k, l, m⟩
theorem linkSteady_of {s : State} {k : Nat}
    (x : k < 32 ∧ s.linkActive k = true ∧ s.rawOn k = false ∧ s.rxState k ≠ 3 ∧ (s.link k).holdAfterDrain = false ∧
      (s.link k).depthChange = false ∧ (s.link k).l1Shed = false ∧ s.refLost = false) : s.linkSteady k :=
  ⟨x.1, x.2.1, x.2.2.1, x.2.2.2.1, x.2.2.2.2.1, x.2.2.2.2.2.1, x.2.2.2.2.2.2.1, x.2.2.2.2.2.2.2⟩
theorem linkFree_of {s : State} {k : Nat}
    (x : s.heldDown k = false ∧ (s.link k).again = false ∧ s.linkF Fld.DP_CTRL_RETRAIN Fld.SL_CTRL_RETRAIN k = 0 ∧
      s.f Fld.PW_SHED_STATUS_LEVEL 0 = 0 ∧ s.refLost = false ∧ (s.link k).l1Shed = false ∧ (s.link k).lmbOut = []) : s.linkFree k :=
  ⟨x.1, x.2.1, x.2.2.1, x.2.2.2.1, x.2.2.2.2.1, x.2.2.2.2.2.1, x.2.2.2.2.2.2⟩

/-! ### Operands that an equation of a premise gives -/

theorem exSome {α : Type} {o : Option α} {P : α → Prop} (e : o.isSome = true) (h : P (o.get e)) : ∃ a, o = some a ∧ P a :=
  ⟨_, (Option.some_get e).symm, h⟩
theorem exPair {α β : Type} {o : Option (α × β)} {P : α → β → Prop} (e : o.isSome = true) (h : P (o.get e).1 (o.get e).2) :
    ∃ a b, o = some (a, b) ∧ P a b := ⟨_, _, (Option.some_get e).symm, h⟩
theorem exTri {α β γ : Type} {o : Option (α × β × γ)} {P : α → β → γ → Prop} (e : o.isSome = true)
    (h : P (o.get e).1 (o.get e).2.1 (o.get e).2.2) : ∃ a b c, o = some (a, b, c) ∧ P a b c :=
  ⟨_, _, _, (Option.some_get e).symm, h⟩
theorem exQuad {α β γ δ : Type} {o : Option (α × β × γ × δ)} {P : α → β → γ → δ → Prop} (e : o.isSome = true)
    (h : P (o.get e).1 (o.get e).2.1 (o.get e).2.2.1 (o.get e).2.2.2) : ∃ a b c d, o = some (a, b, c, d) ∧ P a b c d :=
  ⟨_, _, _, _, (Option.some_get e).symm, h⟩
theorem exKey {α β : Type} {o : Option (α × β)} {k : α} {P : β → Prop} (e : o.isSome = true) (hk : (o.get e).1 = k)
    (h : P (o.get e).2) : ∃ b, o = some (k, b) ∧ P b := ⟨_, hk ▸ (Option.some_get e).symm, h⟩
theorem exCons {α : Type} {l : List α} {P : α → List α → Prop} (e : l ≠ []) (h : P (l.head e) l.tail) :
    ∃ a r, l = a :: r ∧ P a r := ⟨_, _, (List.cons_head_tail e).symm, h⟩
theorem exConsPair {α β : Type} {l : List (α × β)} {P : α → β → List (α × β) → Prop} (e : l ≠ [])
    (h : P (l.head e).1 (l.head e).2 l.tail) : ∃ a b r, l = (a, b) :: r ∧ P a b r :=
  ⟨_, _, _, (List.cons_head_tail e).symm, h⟩
theorem exEq {α : Type} {o : α} {P : α → Prop} (h : P o) : ∃ a, o = a ∧ P a := ⟨o, rfl, h⟩

/-- Under a first premise that stays as it is. -/
theorem keep {a b c : Prop} (f : b → c) : a ∧ b → a ∧ c := And.imp id f

/-! ### States -/

/-- A stack in service: start-up complete, READY, the hearth loop locked, every port enabled and permitted. -/
def rdy : State := { State.reset with
  boot := { State.reset.boot with por := false, step := 12, safeN := false }
  regs := [(Reg.HK_STATUS.addr 0, 33), (Reg.CK_STATUS.addr 0, 2), (Reg.MB_CFG.addr 0, 0xFFFFFFFF), (Reg.MB_PERM.addr 3, 0xFFFE),
    (Reg.MB_PERM.addr 17, 0xFFFE)] }
/-- The next value of a congruential generator, to fill registers. -/
def lcg (x : Nat) : Nat := (x * 6364136223846793005 + 1442695040888963407) % 2 ^ 64
def perturb (regs : List (Reg × Nat)) (seed : Nat) (s : State) : State :=
  if seed = 0 then s else
  (regs.foldl (fun (a : Nat × State) (r : Reg × Nat) =>
    let x := lcg a.1; (x, a.2.wr r.1 r.2 (BitVec.ofNat 32 (x / 2 ^ 20)))) (lcg seed, s)).2

/-- Engine 5 runs, and the word at its PC is wd. -/
def engAt (pc wd : Nat) : State :=
  let s := (rdy.setF Fld.DE_STATE_STATE 5 2).setF Fld.DE_PC_PC 5 pc
  (s.writeWord (pAddr 5 pc) (pAddr 5 pc % 32) (leBytes 4 wd) false).1

/-- A register that holds an offset does not lie wholly below or above it. -/
theorem instAt_within {r : Reg} {off i : Nat} (h : r.instAt off = some i) : r.map.base ≤ off ∧
    off ≤ r.map.base + r.map.ostride * (r.map.count / r.map.inner) + r.map.istride * (r.map.inner - 1) := by
  unfold Reg.instAt at h
  by_cases hb : off < r.map.base
  · simp [hb] at h
  · simp only [hb, if_false] at h
    generalize (if r.map.ostride = 0 then 0 else (off - r.map.base) / r.map.ostride) = o at h
    generalize (if r.map.istride = 0 then 0 else (off - r.map.base - o * r.map.ostride) / r.map.istride) = k at h
    by_cases hk : k < r.map.inner ∧ o * r.map.inner + k < r.map.count ∧ r.addr (o * r.map.inner + k) = off
    · refine ⟨by omega, ?_⟩
      rw [← hk.2.2]
      generalize o * r.map.inner + k = j at hk
      unfold Reg.addr
      have h1 : j % r.map.count / r.map.inner ≤ r.map.count / r.map.inner := Nat.div_le_div_right (Nat.mod_lt _ (by omega)).le
      have h2 : j % r.map.count % r.map.inner < r.map.inner := Nat.mod_lt _ (by omega)
      exact Nat.add_le_add (Nat.add_le_add_left (Nat.mul_le_mul_left _ h1) _) (Nat.mul_le_mul_left _ (Nat.le_sub_one_of_lt h2))
    · simp [hk] at h
/-- No register but CO_ROUTE has an offset inside CO_ROUTE's. -/
theorem route_alone : ∀ r ∈ Reg.all, r = .CO_ROUTE ∨ Reg.CO_ROUTE.map.base + 4 * 1023 < r.map.base ∨
    r.map.base + r.map.ostride * (r.map.count / r.map.inner) + r.map.istride * (r.map.inner - 1) < Reg.CO_ROUTE.map.base := by
  decide +kernel
theorem route_default {off : Nat} (h : Reg.CO_ROUTE.map.base ≤ off) (h' : off ≤ Reg.CO_ROUTE.map.base + 4 * 1023) :
    Fld.CO_ROUTE_VALID.get (regDefault off) = 0 := by
  unfold regDefault
  cases e : Reg.atOffset off with
  | none => decide
  | some x =>
    obtain ⟨r, hr, hm⟩ := List.exists_of_findSome?_eq_some e
    obtain ⟨i, hi, hx⟩ := Option.map_eq_some_iff.1 hm
    have w := instAt_within hi
    rcases route_alone r hr with rfl | q | q
    · subst hx; exact (by decide : Fld.CO_ROUTE_VALID.get Reg.CO_ROUTE.reset = 0)
    · omega
    · omega
/-- The offsets of CO_ROUTE that a state lists. -/
def noRoutes (s : State) : Bool :=
  s.regs.all fun e => e.1 < Reg.CO_ROUTE.map.base || Reg.CO_ROUTE.map.base + 4 * 1023 < e.1
theorem mget_unlisted {α : Type} (d : Nat → α) (k : Nat) : ∀ m : SMap α, (m.all fun e => e.1 != k) = true → mget d m k = d k
  | [], _ => rfl
  | (k', v) :: t, h => by
    simp only [List.all_cons, Bool.and_eq_true, bne_iff_ne] at h
    unfold mget
    rw [if_neg (fun q => h.1 q)]
    split
    · rfl
    · exact mget_unlisted d k t h.2
theorem route_invalid {s : State} (h : noRoutes s = true) {m : Nat} (hm : m < 1024) : s.f Fld.CO_ROUTE_VALID m = 0 := by
  have ha : Reg.addr .CO_ROUTE m = Reg.CO_ROUTE.map.base + 4 * m := by
    unfold Reg.addr
    simp only [Reg.map]
    omega
  show Fld.CO_ROUTE_VALID.get (mget regDefault s.regs (Reg.addr .CO_ROUTE m)) = 0
  rw [mget_unlisted, route_default] <;> try omega
  simp only [noRoutes, List.all_eq_true, Bool.or_eq_true, decide_eq_true_eq] at h
  simp only [List.all_eq_true, bne_iff_ne]
  intro e he
  have := h e he
  omega
/-- Validation of a set that leaves every route unlisted. -/
def validB (s : State) (l : SMap (Option Word)) : Bool :=
  let p := s.takeSet l
  noRoutes p && (l.all fun e => match Reg.atOffset e.1 with | some (r, i) => p.regValid r i | none => true) &&
  ((List.range 32).all p.windowOk) && ((List.range 32).all fun r => s.rangeOkIn p r) && s.schedOkIn p &&
  (p.f Fld.RP_CFG_ARM = 0 || p.ringOk (p.f Fld.RP_RING_FIRST) (p.f Fld.RP_RING_BANKS)) && p.profileSet
theorem valid_of {s : State} {l : SMap (Option Word)} (h : validB s l = true) : s.validSet l = true := by
  simp only [validB, Bool.and_eq_true] at h
  obtain ⟨⟨⟨⟨⟨⟨a, b⟩, c⟩, d⟩, e⟩, f⟩, g⟩ := h
  have r : ((List.range 1024).all fun m => (s.takeSet l).f Fld.CO_ROUTE_VALID m = 0 || (m != (s.takeSet l).node &&
      !((s.takeSet l).f Fld.CO_ROUTE_KIND m = 1 && (s.takeSet l).f Fld.SL_CFG_RAW ((s.takeSet l).f Fld.CO_ROUTE_INDEX m) = 1))) = true := by
    simp only [List.all_eq_true, List.mem_range]
    intro m hm
    simp [route_invalid a hm]
  simp only [State.validSet, Bool.and_eq_true]
  exact ⟨⟨⟨⟨⟨⟨b, r⟩, c⟩, d⟩, e⟩, f⟩, g⟩
/-- What ATTEST writes is 192 bytes and the signature. -/
theorem fit_len {α : Type} (d : α) (n : Nat) (l : List α) : (fit d n l).length = n := by simp [fit]; omega
theorem leBytes_len : ∀ n v : Nat, (leBytes n v).length = n
  | 0, _ => rfl
  | n + 1, v => by simp [leBytes, leBytes_len n]
theorem sign_of {s u : State} {curve : Nat} {nonce msg : List Byte} {dest : Nat} {b : Bool}
    (h : s.rangeOk dest (192 + curveLen curve) = b) : s.rangeOk dest (u.report curve nonce ++ u.idSign curve msg).length = b := by
  have e : (u.report curve nonce ++ u.idSign curve msg).length = 192 + curveLen curve := by
    simp only [State.report, State.idSign, fit_len, leBytes_len, List.length_append, List.length_replicate]
  rw [e]; exact h

/-- A journal of this many remaps is above three quarters of an area. -/
theorem big_of {j : Journal} {p : List Byte} (h : j.remaps = List.replicate 60000 (1, 2, 3, 4)) : (j.apply 9 p).tooBig = true := by
  have key : ∀ (l : List Nat) (a : Nat), l.foldl (· + ·) a = a + l.sum := by
    intro l
    induction l with
    | nil => intro a; rfl
    | cons x t ih => intro a; simp [ih, Nat.add_assoc]
  simp only [Journal.tooBig, Journal.liveBytes, Journal.apply, Journal.records, h, key, List.map_append, List.sum_append,
    List.map_replicate, List.sum_replicate, areaSize, recSize, decide_eq_true_eq, smul_eq_mul]
  omega

/-- An offset of a register whose strides are multiples of 256 lies at its base modulo 256. -/
theorem instAt_mod {r : Reg} {off i : Nat} (h : r.instAt off = some i) (ho : r.map.ostride % 256 = 0)
    (hi : r.map.istride % 256 = 0) : off % 256 = r.map.base % 256 := by
  obtain ⟨j, hj⟩ : ∃ j, r.addr j = off := by
    unfold Reg.instAt at h
    by_cases hb : off < r.map.base
    · simp [hb] at h
    · simp only [hb, if_false] at h
      generalize (if r.map.ostride = 0 then 0 else (off - r.map.base) / r.map.ostride) = o at h
      generalize (if r.map.istride = 0 then 0 else (off - r.map.base - o * r.map.ostride) / r.map.istride) = k at h
      by_cases hk : k < r.map.inner ∧ o * r.map.inner + k < r.map.count ∧ r.addr (o * r.map.inner + k) = off
      · exact ⟨_, hk.2.2⟩
      · simp [hk] at h
  rw [← hj]
  unfold Reg.addr
  simp [Nat.add_mod, Nat.mul_mod, ho, hi]
/-- No register but LB_OWNER has an offset of LB_OWNER. -/
theorem owner_alone : ∀ r ∈ Reg.all, r = .LB_OWNER ∨ Reg.LB_OWNER.map.base + 256 * 511 < r.map.base ∨
    r.map.base + r.map.ostride * (r.map.count / r.map.inner) + r.map.istride * (r.map.inner - 1) < Reg.LB_OWNER.map.base ∨
    (r.map.ostride % 256 = 0 ∧ r.map.istride % 256 = 0 ∧ r.map.base % 256 ≠ 0) := by
  decide +kernel
/-- An owner word that an audit accepts. -/
def ownWord (w : Word) : Bool := ownerOk (Fld.LB_OWNER_KIND.get w) (Fld.LB_OWNER_ID.get w)
theorem owner_default {b : Nat} (hb : b < 512) : ownWord (regDefault (Reg.addr .LB_OWNER b)) = true := by
  have ha : Reg.addr .LB_OWNER b = Reg.LB_OWNER.map.base + 256 * b := by
    unfold Reg.addr
    simp only [Reg.map]
    omega
  unfold regDefault
  cases e : Reg.atOffset (Reg.addr .LB_OWNER b) with
  | none => decide
  | some x =>
    obtain ⟨r, hr, hm⟩ := List.exists_of_findSome?_eq_some e
    obtain ⟨i, hi, hx⟩ := Option.map_eq_some_iff.1 hm
    have w := instAt_within hi
    have hB : Reg.LB_OWNER.map.base % 256 = 0 := by decide
    rcases owner_alone r hr with rfl | q | q | ⟨q, q', q''⟩
    · subst hx; exact (by decide : ownWord Reg.LB_OWNER.reset = true)
    · omega
    · omega
    · have := instAt_mod hi q q'
      omega
theorem mget_keyed {α : Type} (d : Nat → α) (P : α → Bool) (k : Nat) (hd : P (d k) = true) :
    ∀ m : SMap α, (m.all fun e => e.1 != k || P e.2) = true → P (mget d m k) = true
  | [], _ => hd
  | (k', v) :: t, h => by
    simp only [List.all_cons, Bool.and_eq_true, Bool.or_eq_true, bne_iff_ne] at h
    unfold mget
    split
    · next e => exact h.1.resolve_left fun q => q e
    · split
      · exact hd
      · exact mget_keyed d P k hd t h.2
/-- The words that a state lists for LB_OWNER are owners. -/
def ownersB (s : State) : Bool :=
  s.regs.all fun e => e.1 < Reg.LB_OWNER.map.base || Reg.LB_OWNER.map.base + 256 * 511 < e.1 || ownWord e.2
theorem owners_balance {s : State} (h : ownersB s = true) : s.auditOwners = none := by
  have key : ∀ b, b < 512 → ownerOk (s.owner b).kind (s.owner b).id = true := by
    intro b hb
    have ha : Reg.addr .LB_OWNER b = Reg.LB_OWNER.map.base + 256 * b := by
      unfold Reg.addr
      simp only [Reg.map]
      omega
    refine mget_keyed regDefault ownWord _ (owner_default hb) s.regs ?_
    simp only [ownersB, List.all_eq_true, Bool.or_eq_true, decide_eq_true_eq] at h
    simp only [List.all_eq_true, Bool.or_eq_true, bne_iff_ne]
    intro e he
    rw [ha]
    rcases h e he with (q | q) | q
    · left; omega
    · left; omega
    · exact .inr q
  have : (banks512.filter fun b => !s.fallowBank b && !ownerOk (s.owner b).kind (s.owner b).id) = [] := by
    simp only [List.filter_eq_nil_iff, banks512, List.mem_range]
    intro b hb
    simp [key b hb]
  simp [State.auditOwners, this]
theorem audit_of {s : State} (h : ownersB s = true) (h' : (s.auditStored.orElse fun _ => s.auditCorridor.orElse fun _ =>
    (links32.findSome? fun k => (List.range 4).findSome? fun v => s.auditVc k v).orElse fun _ =>
    s.auditMeadow.orElse fun _ => s.auditTokens.orElse fun _ => (links32.findSome? s.auditPool)) = none) : s.audit = none := by
  have j : ∀ {α : Type} (a b : Option α), (a.orElse fun _ => b) = none ↔ a = none ∧ b = none := by
    intro α a b
    cases a <;> simp [Option.orElse]
  simp only [State.audit, j] at h' ⊢
  simp [owners_balance h, h']

/-! ### Witnesses: for each statement, states and operands that meet the premises of its clauses -/


/-- Whether an outcome is a next state. -/
def goesOn (o : Host.Outcome State Fault Refusal) : Bool := match o with | .next _ => true | _ => false
theorem next_of {o : Host.Outcome State Fault Refusal} (h : goesOn o = true) : ∃ t, o = .next t := by
  cases o with
  | next t => exact ⟨t, rfl⟩
  | fault => cases h
  | refused => cases h

theorem test_witness_StepRunsTheFrontCommand : ∃ s : State, s.pending = [] := ⟨rdy, rfl⟩
/-- Of EveryStepKeepsTheCanonicalForm, EveryStepKeepsTheInnerTables and FusesMoveOneWay. -/
theorem test_witness_EveryStep : ∃ s t : State, s.canon ∧ s.tables ∧ step s = .next t := by
  obtain ⟨t, ht⟩ := next_of (o := step { rdy with pending := [.nop h0] }) (by decide +kernel)
  exact ⟨_, t, canon_of (by decide +kernel), tables_of (by decide +kernel), ht⟩
theorem test_witness_CommandsKeepToTheirState : ∃ (c : Instr) (s u : State), exec c s = .next u ∧ blowsFuses c = false ∧
    writesFlash c = false ∧ storesNothing c = true ∧ usesCrypto c = false ∧ movesRooms c = false ∧ movesBanks c = false ∧
    schedules c = false ∧ movesEngines c = false ∧ latches c = false := by
  obtain ⟨u, hu⟩ := next_of (o := exec .mowingWindow rdy) (by decide +kernel)
  exact ⟨_, _, u, hu, by decide +kernel⟩
theorem test_witness_TheEpochPairIsConsistent : (∃ s v : State, s.tables ∧ v.latch = s.latch) ∧
    (∃ (c : Instr) (v w : State), c ∈ [.commitFreeze, .commitApply, .commitPoint, .commitResponse] ∧ exec c v = .next w) ∧
    ∃ (s : State) (c : Commit), s.commit = some c ∧ c.phase = 3 := by
  obtain ⟨w, hw⟩ := next_of (o := exec .commitPoint rdy) (by decide +kernel)
  exact ⟨⟨rdy, rdy, tables_of (by decide +kernel), rfl⟩, ⟨_, _, w, by simp, hw⟩,
    { rdy with commit := some { phase := 3, inner := 0, cmd := none } }, _, rfl, rfl⟩
theorem test_witness_RoutingIsDimensionOrdered :
    (0 % 12 ≠ 143 % 12) ∧ (0 % 12 = 132 % 12 ∧ 0 / 12 ≠ 132 / 12) ∧ (isWrap 11 0 = true ∧ isWrap 0 0 = false) ∧
    ∃ (s : State) (p : Packet) (ep d l : Nat), s.exitOf p = some (ep, d, l) ∧ nextPort 0 d ≠ 4 ∧ nextPort d d = 4 := by
  refine ⟨by decide, by decide, by decide, rdy, { p0 with exit := 201 }, ?_⟩
  have h : ((rdy.exitOf { p0 with exit := 201 }).map fun x => (nextPort 0 x.2.1 != 4, nextPort x.2.1 x.2.1)) = some (true, 4) := by
    decide +kernel
  obtain ⟨⟨ep, d, l⟩, he, hx⟩ := Option.map_eq_some_iff.1 h
  simp only [Prod.mk.injEq, bne_iff_ne] at hx
  exact ⟨ep, d, l, he, hx.1, hx.2⟩

namespace WC1
def mkp (ep : Nat) (ty len dest : Nat) (pl : List Byte) (tag := 3): Packet := { type := ty, vc := vcOf ty, flits := flitsOf ty len, dest := dest, len := len, tag := tag, dstPlane := 0, srcEp := ep, srcNode := 0, hops := 8, payload := pl }
def cb (sd st lp : Nat) : State :=
  let s := perturb [(.CR_REFUSE_COUNT,0),(.CR_TAG_FAIL_COUNT,0),(.CR_REENC_COUNT,0),(.CR_FAIL_INFO,0),(.CR_FAIL_INDEX,0)] sd rdy
  let s := (s.setF Fld.CK_GSTAT_UNIT_OPEN 0 7).setF Fld.CR_RANGE_STATE_STATE 3 st
  let s := ((((s.setF Fld.CR_RANGE_CTRL_ENABLE 3 1).setF Fld.CR_RANGE_CTRL_WINDOW 3 2).setF Fld.CR_RANGE_CTRL_LOG2PAGES 3 lp).setF Fld.CR_RANGE_BASE_BASE 3 16).setF Fld.CR_RANGE_META_META 3 64
  let s := (s.setF Fld.CO_RWIN_CTRL_NODE 2 5)
  let key (n : Nat) : List Byte := (List.range 32).map fun i => BitVec.ofNat 8 (7*i+n)
  s.updCrr 3 fun c => {c with win := 2, lp := lp, base := 16, meta' := 64, kd := key 1, kt := key 2, root := List.replicate 8 5 }
def atp (s : State) (p : Packet) : State := s.setBuf (bufKey (ejectLinks (linkEp 2) |>.headD 0) 0 0) [p]
def rq (ty off len : Nat) (pl : List Byte) (se := 7) : Packet := {mkp se ty len (2^48*5 + 4096*16 + off) pl with exit := 515, prot := some (3, true, 4096*16 + off)}
def drain (s : State) : State := match execProtectedRead s with | .next u => u | _ => s
def leafD : List Byte := leBytes 64 (5 + 2^56 * 3)
def withLeaf (s : State) (d := leafD) (dirty := false) : State := s.updCr fun c => {c with cache := [(nodeKey 3 false 0 0, {data := d, dirty := dirty})]}
def rsp (s : State) (tag st : Nat) (pl : List Byte) (pz := 0) : State := s.setBuf (bufKey (8 * epRouter 545 0 + 4) 1 0) [{mkp 9 3 63 (epDest 0 545) pl tag with status := st, poison := pz, srcNode := 5}]
def rsp1 (s : State) (w st : Nat) (pl : List Byte) (pz := 0) : State :=
  match s.crypto.jobs with
  | [(id, some j)] => match j.waiting.find? (fun a => a.2 == w) with
     | some a => rsp (s.setJob id (some {j with waiting := a :: j.waiting.filter (· != a)})) a.1 st pl pz
     | none => s
  | _ => s
def ans (s : State) : State := match execHomeResponse s with | .next u => u | _ => s
def pageJob (s : State) (kind : Nat) (ph : Nat) (line := 5): State :=
  s.setJob 40 (some {req := 99, range := 3, line := line, kind := kind, phase := ph, bytes := List.replicate 64 0x11, got := ((List.range 16).map fun i => (64+i, List.replicate 256 0x22, if i = 2 then 1 else 0)) ++ [(96, List.replicate 256 1,0),(97, List.replicate 256 1,0)]})
def sts : List State := (List.range 2).flatMap fun sd =>
  let s := cb sd 2 0
  let r64 := withLeaf (atp s (rq 0 64 63 []))
  let d := drain r64
  let d1 := ans (rsp1 d 0 0 (List.replicate 64 0x33))
  let c := s.crr 3
  let tg := if sd = 0 then [255, 140, 106, 51, 193, 203, 205, 234] else lineTag c.kt 3 1 (leafMajor leafD) (leafMinor leafD 1) (List.replicate 64 0x33)
  [atp s (rq 0 64 63 []), r64, atp s (rq 0 0 255 []), atp s (rq 1 64 63 (List.replicate 64 9)), atp s (rq 1 60 7 (List.replicate 8 9)), withLeaf (atp s (rq 1 128 127 (List.replicate 128 9))), atp s (rq 1 64 63 (List.replicate 64 9) 515), atp (cb sd 1 0) (rq 0 64 63 []), atp (cb sd 3 0) (rq 1 64 63 (List.replicate 64 9)),  atp (cb sd 5 0) (rq 0 64 63 []),
   d, rsp1 d 0 0 (List.replicate 64 0x33), rsp1 d 0 1 [], rsp1 d1 1 0 tg, rsp1 d1 1 0 (List.replicate 8 0), rsp1 d1 1 0 tg 1,
   withLeaf s, withLeaf s leafD true, (withLeaf (cb sd 2 6) leafD true), (cb sd 2 6).updCr (fun c => {c with cache := [(nodeKey 3 false 1 0, {data := leafD, dirty := true})]}),
   withLeaf (pageJob s 3 3), pageJob (withLeaf s) 2 2, pageJob s 4 2, cb sd 1 0, (cb sd 1 1).updCrr 3 fun c => {c with cmd := some h0.ref},
   (pageJob (cb sd 4 1) 4 3).updCrr 3 (fun c => {c with oldKd := c.kd, oldKt := c.kt, page := 0}), (pageJob (cb sd 4 1) 4 3 64).updCrr 3 (fun c => {c with oldKd := c.kd, oldKt := c.kt, page := 1}), (withLeaf s leafD true).updCrr 3 (fun c => {c with disabling := true}), cb sd 0 0]
def UNUSED := 0
def outr (s : State) (t : Nat) : State := s.setOut (outKey 545 0 t) (some { pkt := mkp 545 1 63 0 [] t })
def jb (s : State) (j : CrJob) : State := s.setJob 40 (some j)
def wrsp (s : State) (j : CrJob) (w : Nat) (more : List (Nat × Nat) := []) (st := 0) : State := rsp (outr (jb s { j with waiting := (77, w) :: more }) 77) 77 st []
def initJ (pos : Nat) : CrJob := { req := 2^40, range := 3, line := 0, kind := 6, home := 2^48*5, phase := 4, pos := pos }
def rkJ (line : Nat) : CrJob := { req := 2^40, range := 3, line := line, kind := 4, home := 2^48*5, phase := 4 }
def pgJ (kind line ph : Nat) (more : List (Nat × List Byte × Nat) := []) : CrJob := {req := 99, range := 3, line := line, kind := kind, phase := ph, bytes := List.replicate 64 0x11, got := more ++ ((List.range 16).map fun i => (64+i, List.replicate 256 0x22, if i = 2 then 1 else 0)) ++ [(96, List.replicate 256 1,0),(97, List.replicate 256 1,0)]}
def old (s : State) (page : Nat) : State := s.updCrr 3 fun c => {c with oldKd := c.kd, oldKt := c.kt, oldRoot := c.root, page := page}
def lf (o : Bool) (q : Nat) (s : State) (l : Nat := 0) : State := s.updCr fun c => {c with cache := (nodeKey 3 o l q, {data := leafD, dirty := false}) :: c.cache}
def sts2 : List State := (List.range 1).flatMap fun sd =>
  let i0 := cb sd 1 0; let i1 := cb sd 1 1
  [wrsp i0 (initJ 0) 255, wrsp i1 (initJ 0) 255, wrsp i1 (initJ 1) 255, wrsp (cb sd 1 4) (initJ 15) 255, wrsp (cb sd 1 4) (initJ 16) 255, wrsp i1 (initJ 0) 255 [(78,255)], jb i0 {initJ 0 with phase := 5},
   wrsp (old (cb sd 4 1) 1) (rkJ 0) 255, wrsp (old (cb sd 4 1) 2) (rkJ 64) 255, wrsp (old (cb sd 4 0) 1) (rkJ 0) 255,
   lf true 0 (jb (old (cb sd 4 1) 0) (pgJ 4 0 3)), lf true 1 (jb (old (cb sd 4 1) 1) (pgJ 4 64 3)), lf true 1 (lf false 0 (lf true 0 (jb (old (cb sd 4 4) 1) (pgJ 4 64 3)) 1) 1),
   jb (cb sd 2 0) (pgJ 4 0 2 [(8, leafD, 0), (2, List.replicate 8 1, 0)]), lf false 0 (jb (cb sd 2 0) (pgJ 4 0 2)), lf false 0 (jb (cb sd 2 0) (pgJ 3 5 2)), jb (cb sd 2 0) (let c := (cb sd 2 0).crr 3; pgJ 3 5 2 [(8, leafD, 0), (2, nodeTag c.kt 3 0 0 5 leafD, 0)]),
   lf false 0 (jb (cb sd 2 0) {pgJ 3 5 3 with plain := List.replicate 64 3}),
   withLeaf (cb sd 2 6) leafD true |> fun s => lf false 0 s 1, (withLeaf (cb sd 2 6) leafD true)]
def pick (n : Nat) : State := (sts ++ sts2).getD n State.reset
end WC1

namespace WE1
def W : List Nat :=
  let w (op f : Nat) := 2^26*op+f
  let D (a b : Nat) := 2^23*a + 2^20*b
  [w 0 0, w 1 (D 3 2), w 1 (D 7 5), w 2 (D 3 2), w 2 (D 1 4), w 3 (D 2 2), w 3 (D 1 5), w 3 (D 6 0), w 4 (D 1 2), w 4 (D 7 7),
   w 5 (D 1 0 + 0x8001), w 5 (D 2 4 + 0x1234), w 6 (2^21*5+0xFFFF), w 6 (2^24+2^21*5+0xFFFF), w 6 (2*2^24+2^21*5+0xFFFF), w 6 (3*2^24),
   w 7 (2^20*5+2^17*3), w 7 (2^23+2^20*5+2^17*3), w 7 (2*2^23+2^20*5+2^17*3), w 7 (2^25+2^20*5+2^17*3), w 7 (2^25+2^23+2^20*5+2^17*3), w 7 (2^25+2*2^23+2^20*5+2^17*3),
   w 8 (D 2 0 + 0), w 8 (D 2 0 + 4), w 8 (D 2 0 + 0x28), w 8 (D 2 0 + 0x44), w 8 (D 2 0 + 0x48), w 8 (D 3 0 + 0x10), w 9 (D 0 2 + 0xc), w 9 (D 0 2 + 8), w 9 (D 0 2 + 0x10), w 9 (D 0 3 + 4),
   w 0xA 0, w 0xA (2^23+2^21+2^18*3), w 0xA (2*2^23+2^21*3+2^18*3), w 0xA (3*2^23+2^21*2+2^18*3), w 0xA (4*2^23+2^21*2+2^18*3)]
def ee := 5
def sts : List State := W.flatMap fun wd => (List.range 2).map fun sd => engAt (if sd = 1 then 8191 else 0x40) wd
def pick (n : Nat) : State := (sts).getD n State.reset
end WE1

namespace WE2
def W : List Nat :=
  let w (op f : Nat) := 2^26*op+f
  let D (a b : Nat) := 2^23*a + 2^20*b
  ((List.range 14).flatMap fun op => [w 0x10 (D 2 (op%8) + 2^17*3 + 2^13*op), w 0x10 (D 2 5 + 2^17*(op%8) + 2^13*op+2^12)]) ++
  [w 0x11 (D 2 5 + 0x8123), w 0x11 (D 2 5 + 2^16*6 + 0x8123), w 0x11 (D 2 5 + 2^16*7+5), w 0x11 (D 2 5 + 2^16*8+0x8102),
   w 0x20 0, w 0x20 (2^25+2^23+2^22+2^21+2^16*3+2^12*3), w 0x20 (2*2^23+2^20+2^19+2^16*2+2^15+2^12*1), w 0x20 (2^25+3*2^23+2^22+2^15+2^12*3+2^16), w 0x20 (2^19+2^12*4),
   w 0x21 (2^25+2^16*2+2^12*5), w 0x21 (2^23+2^19+2^16*1+2^15), w 0x21 (2*2^23+2^21+2^20+2^19+2^15+2^12*2),
   w 0x22 0, w 0x22 (2^25+2^23+2^22+2^19*2+2^17*1), w 0x22 (2*2^23+2^21+2^19*3+2^17*2), w 0x22 (3*2^23+2^19),
   w 0x23 0, w 0x23 (2^20*15), w 0x23 (47*2^20),
   w 0x28 (2^13*15), w 0x28 (2*2^24+2^19*5+2^13*3), w 0x28 (3*2^24+2^22+2^19*5+2^13*17), w 0x28 (2^25+2^23+2^19*2+2^13*15), w 0x28 (2^23+2^22+2^19*2), w 0x28 (2^23+2^13*31)]
def ee := 5
def sts : List State := W.flatMap fun wd => (List.range 2).map fun sd => engAt (if sd = 1 then 8191 else 0x40) wd
def pick (n : Nat) : State := (sts).getD n State.reset
end WE2

namespace WE3
def W : List Nat :=
  let w (op f : Nat) := 2^26*op+f
  ((List.range 9).map fun c => w 0x31 (2^22*c+0x123)) ++
  [w 0x32 (2^23*3+0x77), w 0x32 (2^23*4+0x1FFF), w 0x33 0x1FFF, w 0x33 5, w 0x34 0, w 0x30 0, w 0x30 6, w 0x30 0xFFFF, w 0x30 (2^25+2^22*3), w 0x3C 0, w 0x3C 0xFF, w 0x3C 2, w 0x3F 0, w 0x3D 0, w 0x3D 2, w 0x3D 4, w 0x3D 5, 0, 1, 0x100]
def ee := 5
def sts : List State := W.flatMap fun wd => (List.range 16).map fun sd =>
  let pc := if sd % 5 = 4 then 8191 else 0x40
  let s := engAt pc wd
  let s := s.setF Fld.SC_STATUS_ENG_SHED 0 0
  let s := if pc = 0x40 then (s.writeWord (pAddr ee 0x41) (pAddr ee 0x41 % 32) (leBytes 4 (nth [0, 2^26*0x22, 2^26*0x23, 2^26*0x31] (sd%4))) false).1 else s
  let s := s.updEng ee fun g => {g with stack := nth' (sd % 4)}
  let s := if sd % 3 = 1 then s.setD ee 3 1 false else s
  let s := if sd = 8 then s.setTag ee 1 {used := true} else if sd = 9 then s.setTag ee 1 {used := true, status := 2} else s
  let s := if sd = 10 then (s.updEng ee fun g => {g with rep := 3}) else if sd = 11 then (s.updEng ee fun g => {g with rep := 1}) else if sd = 12 then (s.updEng ee fun g => {g with pcOver := true}) else s
  let s := if sd = 14 then (s.updEng ee fun g => {g with svcWait := [32]}).setBuf (bufKey (ejectLinks 261 |>.headD 0) 0 0) [{type := 1, vc := 0, flits := 2, dest := xAddr 5 16, len := 3, tag := 3, dstPlane := 0, srcEp := 7, srcNode := 0, hops := 8, payload := [1,2,3,4]}] else s
  let s := if sd = 13 then s.setSyn (pAddr ee 0x40) poisonSyn else s
  let s := if sd % 2 = 0 then ((s.setF Fld.DE_TASK_VALID ee 1).setF Fld.DE_TASK_INDEX ee 777).setF Fld.DE_CFG_EXC_ACTION ee (sd/2%3) else s
  if sd % 2 = 1 then (s.writeWord (xAddr ee 0x3FE2) 8 [1,2,3,4] false).1 else s
where nth' (k : Nat) : List Nat := match k with | 0 => [] | 1 => [5,6] | 2 => [1,2,3,4] | _ => [8192]
def pick (n : Nat) : State := (sts).getD n State.reset
end WE3

namespace WE4
def W : List Nat :=
  let w (op f : Nat) := 2^26*op+f
  let F (k da dt n : Nat) := 2^20*k+2^17*da+2^14*dt+2^8*n
  [w 0x38 (F 2 4 1 3), w 0x38 (F 5 2 2 0), w 0x39 (F 1 4 5 7), w 0x39 (F 6 6 0 63), w 0x3B (F 3 1 1 2), w 0x3B (F 4 7 7 0), w 0x3A (F 1 3 4 2), w 0x3A (F 0 1 1 1), w 0x3A (F 3 1 1 4)]
def ee := 5
def mkp (ep : Nat) (ty len dest : Nat) (pl : List Byte) (tag := 3): Packet := { type := ty, vc := vcOf ty, flits := flitsOf ty len, dest := dest, len := len, tag := tag, dstPlane := 0, srcEp := ep, srcNode := 0, hops := 8, payload := pl }
def sts : List State := (W.flatMap fun wd => (List.range 12).map fun sd =>
  let pc := if sd % 5 = 4 then 8191 else 0x40
  let s := engAt pc wd
  if sd % 3 = 1 then s.setTag ee 0 {used := true} else if sd % 3 = 2 then (s.setTag ee 0 {used := true, status := 2}).setTag ee 1 {used := true} else s) ++
  (List.range 6).flatMap fun sd =>
   let s := engAt 0x40 0
   [0,1,2].flatMap fun st => [mkReq s 0 261 3 0x1000 3 [], mkReq s 0 261 3 0x1000 63 [], mkReq s 1 261 3 0x1000 3 [1,2,3,4], mkReq s 5 261 3 0x1000 27 []].flatMap fun rq => [0,1].map fun rep =>
     let s := ((s.setTag ee 3 {used := true, dst := if sd % 2 = 0 then 9 else 16384+20}).setOut (outKey 261 0 3) (some {pkt := rq})).updEng ee fun g => {g with rep := rep}
     s.setBuf (bufKey (ejectLinks 261 |>.headD 0) 1 0) [{ mkp 7 3 rq.len (epDest 0 261) (if rq.type = 0 then List.replicate (rq.len+1) 0xAB else []) 3 with status := st }]
def pick (n : Nat) : State := (sts).getD n State.reset
end WE4

namespace WE5
def W : List Nat := [0]
def ee := 5
def mkp (ep : Nat) (ty len dest : Nat) (pl : List Byte) (tag := 3): Packet := { type := ty, vc := vcOf ty, flits := flitsOf ty len, dest := dest, len := len, tag := tag, dstPlane := 0, srcEp := ep, srcNode := 0, hops := 8, payload := pl }
def sts : List State := (List.range 6).flatMap fun sd => [0,1,2,3,4,5,6].flatMap fun st => [0,1].map fun rep =>
  let s := engAt 0x40 0
  let s := (s.setF Fld.DE_STATE_STATE ee st).updEng ee fun g => {g with rep := rep, startCmd := if sd = 0 then some {cmd := h0.ref, words := [], tags := []} else none, haltCmds := if sd % 2 = 0 ∨ sd = 3 then [h0.ref] else [], stack := [1,2]}
  let s := (s.setF Fld.DE_CTRL_HALT ee (sd % 2)).setF Fld.SC_STATUS_ENG_SHED 0 0
  let s := if sd % 3 = 0 then s.updMail fun m => {m with inprog := [{port := 0, node := 0, ep := 546, tag := 7, opcode := 0x602, committed := true}]} else s
  let s := ((s.setF Fld.CK_GSTAT_DSP_OPEN 0 1).setF Fld.DE_RF_IDX_REG ee (nth [3, 9, 14, 20, 30, 39] sd)).setF Fld.DE_TASK_VALID ee (sd/2%2)
  let s := s.wr .SC_EMAP 0 (if sd = 2 then 0xFF else 0)
  let s := s.setRaw (tplKey 3 1) 0x1234567
  let s := s.setBuf (bufKey (ejectLinks 261 |>.headD 0) 2 0) [mkp 544 6 63 (epDest 0 261) (leBytes 4 (3 + 2^12*0xA5) ++ leBytes 4 9 ++ leBytes 4 77 ++ (List.range 52).map (BitVec.ofNat 8 <| · * 7))]
  if sd % 3 = 2 then s.setBuf (bufKey (ejectLinks 261 |>.headD 0) 0 0) [mkp 7 1 3 (xAddr 5 16) [1,2,3,4]] else
  if sd % 3 = 1 then s.setBuf (bufKey (ejectLinks 261 |>.headD 0) 0 0) [mkp 7 (if st = 1 then 0 else 1) 3 (pAddr 5 16) [1,2,3,4]] else s
def pick (n : Nat) : State := (sts).getD n State.reset
end WE5

namespace WF1
def win (g ph : Nat) (wt : List Nat := []) : RepairWin := {group := g, phase := ph, waiting := wt}
def sts : List State := (List.range 4).flatMap fun sd =>
  let s := perturb [(.ST_REPAIR_COUNT,5),(.BT_BG_STATUS,0),(.ST_FAULT,5)] sd rdy
  let s := (s.setF Fld.BT_BG_CFG_ENABLE 0 1).setF Fld.PW_SHED_STATUS_LEVEL 0 0
  let w (x : RepairWin) (s : State) : State := s.updStair 5 fun t => {t with win := some x, corr := [(32*100+3, 9)]}
  let sl (ph seg : Nat) (s : State) : State := (s.updStair 5 fun t => {t with slice := some {bank := 133, seg := seg, phase := ph}, slicesDone := [1,2,3,4]}).setF Fld.BT_SLICE_MAP_MAP 0 0x24
  let fill (s : State) : State := (s.putBytes (bankRow 133 (128*63)) [1,2,3,4,5,6]).putBytes (shadowBuf 5 0) [9,8,7,6] |>.putBytes (shadowBuf 5 127 + 1020) [9,8,7,6] |>.setSyn (shadowBuf 5 3) 7
  let used (s : State) (g : Nat) := s.updStair 5 fun t => {t with remaps := [(1,g,0),(2,g,0),(3,g,1)]}
  [s, w (win 100 1) s, w (win 100 2) s, w (win 100 2) (used s 100), w (win 200 2) (used s 200), w (win 310 2) (used s 310), (w (win 100 2) (used s 100)).setF Fld.ST_NARROW_ACTIVE 5 1 |>.setF Fld.ST_NARROW_SURVIVOR 5 (sd%2), w (win 100 3) s, w (win 100 3 [3, 299]) s, s.updStair 5 fun t => {t with sliceBank := sd}, fill (sl 1 63 s), fill (sl 2 63 s), fill (sl 3 63 s), fill (sl 3 0 s), w (win 100 1) (fill (sl 2 63 s))]
def pick (n : Nat) : State := (sts).getD n State.reset
end WF1

namespace WF2
def fm : List Nat → Nat := fun _ => 0
def sts : List State := (List.range 5).flatMap fun sd =>
  let s := perturb [(.EC_CE_COUNT,0),(.EC_UE_COUNT,0),(.EC_UE_COUNT,1),(.EC_CE_COUNT,1),(.EC_MOW_STATUS,0)] sd rdy
  let s := (s.setF Fld.EC_STATUS_MOW_RUNNING 0 1).setF Fld.LB_STATUS_FALLOW 5 0
  let s := s.setPlaneState 3 1 3
  let s := (s.setF Fld.RM_PLANE_NONE 3 0).setF Fld.RM_PLANE_ACTIVE 3 1
  let s := s.updMow fun q => {q with started := true, ceWindow := 3 * sd * sd, roundsHere := sd % 2}
  let s := (s.setF Fld.EC_MOW_PERIOD_PERIOD_MS 0 (nth [2000,3999,4000,10000,60000] sd)).setF Fld.EC_MOW_CFG_THRESH 0 (nth [0,5,12,100,10] sd) |>.setF Fld.EC_MOW_CFG_BASE_S 0 60
  let sc (v : Nat) (w : Word) (s : State) : State :=
    let s := s.updMow fun q => {q with scrubs := mput (fun _ => 0) (mput (fun _ => 0) q.scrubs 5 v) (512+13) v}
    let m : List MowStore := [.bank 5, .plane 3 1]
    m.foldl (fun s m => let a := m.rowAddr (v/33) + 32*(32 - v%33); (s.putBytes a [1,2,3,4,5]).setSyn a w) s
  let last := (s.updBank 5 fun k => {k with mowRow := 8191}).updMow fun q => {q with planeRow := mput (fun _ => 0) q.planeRow 13 2711}
  let own (s : State) : State := (s.setF Fld.LC_DEBUG_LEVEL 0 2).wr .LB_OWNER 5 (Fld.LB_OWNER_KIND.set 0 3) |>.wr .LB_OWNER 3 (Fld.LB_OWNER_KIND.set 0 3)
  let ctm (s : State) : State := (s.setF Fld.EC_CTM_CTRL_ENABLE 0 1).setF Fld.EC_CTM_CTRL_BANK 0 5
  let lose (s : State) : State := (((s.setF Fld.LB_STATUS_DUAL 5 0).setF Fld.LB_ARBCFG_SVC_WAIT 5 3).setF Fld.RM_PLANE_ACTIVE 5 0).updPlane 5 0 fun p => {p with rowQ := [{bank := 5, row := 3, write := true, permitted := true}]}
  let meet (s : State) : State := (s.setF Fld.LB_STATUS_DUAL 5 1).updStair 5 fun t => {t with last := some {room := 5, plane := 0, bank := 5, row := 7, write := true}}
  let wt (s : State) : State := s.updBank 5 fun k => {k with q := [{req := 4, addr := bankRow 5 9, agent := .mp, write := none, poison := false}]}
  let slc (s : State) : State := s.updStair 5 fun t => {t with slice := some {bank := 5, seg := 2, phase := 1}}
  [s, last, sc 33 0 s, sc (33*7+1) 1 s, sc (33*7+32) 0x00010003 s, sc (33*8+2) 0x00030003 s, sc (33*8+2) poisonSyn s, sc (33*8+2) 0x80008001 s,
   wt (sc (33*7+1) 1 s), lose (sc 33 0 s), lose (sc (33*7+1) 1 s), meet (sc (33*7+32) 1 s), meet (sc (33*7+32) 0x00010003 s), slc (own s),
   s.updBank 5 fun k => {k with copy := [(3, 8191)]}, (s.updBank 5 fun k => {k with copy := [(3, 7), (5, 0)]}).setSyn (bankRow 5 7) 1, own s, ctm s, ctm (own s)]
def pick (n : Nat) : State := (sts).getD n State.reset
end WF2

namespace WG1
def sts : List State := (List.range 4).flatMap fun sd =>
  let s := perturb [(.CK_STATUS,5),(.CK_REF_LOST,5),(.CK_SW_FORCED,5),(.CK_REF_JUDGE,5)] sd rdy
  let ck (hearth ref rc : Nat) (s : State) := ((s.setF Fld.CK_STATUS_HEARTH 0 hearth).setF Fld.CK_STATUS_REF_GOOD 0 ref).setF Fld.CK_STATUS_RC_FAIL 0 rc
  let comp (s : State) : State := s.updClk fun c => {c with comp := true}
  let win (w : Nat) (s : State) : State := s.setF Fld.CK_REF_JUDGE_WINDOWS 0 w
  let st (n : Nat) (s : State) : State := (s.updBoot fun b => {b with step := n}).setF Fld.PW_STATUS_PGOOD 0 1023
  let s := comp (s.setF Fld.HK_STATUS_SAFE 0 0)
  [s, ck 2 1 0 s, ck 2 1 1 s, ck 3 0 0 s, ck 3 1 0 s, ck 4 1 0 s, ck 5 1 0 s, ck 5 0 0 s, ck 1 1 0 (st 5 s), ck 2 1 0 (st 5 ((s.setF Fld.CK_STATUS_HK_SRC 0 1).setF Fld.CK_STATUS_MP_SRC 0 0)), ck 2 1 1 (st 5 ((s.setF Fld.CK_STATUS_HK_SRC 0 0).setF Fld.CK_STATUS_MP_SRC 0 1)), ck 1 1 0 (st 5 ((s.setF Fld.CK_STATUS_HK_SRC 0 1).setF Fld.CK_STATUS_MP_SRC 0 1)), ck 5 1 0 (st 5 ((s.setF Fld.CK_STATUS_HK_SRC 0 1).setF Fld.CK_STATUS_MP_SRC 0 1)), ck 5 1 0 (st 5 s), ck 0 0 0 (win 15 (st 4 s)), ck 0 1 0 (win 16 (st 4 s)), ck 2 0 0 (win 15 s), win 3 (ck 2 1 0 s), (ck 2 1 0 s).setF Fld.HK_STATUS_SAFE 0 1, (ck 4 1 0 s).setF Fld.TH_STATUS_SHUTDOWN 0 1, {ck 2 1 0 s with commit := some {phase := 4, inner := 0, cmd := none}}]
def pick (n : Nat) : State := (sts).getD n State.reset
end WG1

namespace WG2
def sts : List State := (List.range 3).flatMap fun sd =>
  let s := perturb [(.CK_GATE_EVENT,5),(.CK_GSTAT_ROOM,6),(.CK_GSTAT_DSP,5),(.CK_GSTAT_LINK,5),(.CK_GSTAT_UNIT,5),(.CK_GATE_ROOM,5),(.CK_GATE_DSP,5),(.CK_GATE_LINK,5),(.CK_GATE_UNIT,5),(.DP_CFG,4),(.SL_CFG,4)] sd rdy
  let g (k i v : Nat) (s : State) := s.setGating k i v
  let cmd (s : State) : State := s.updClk fun c => {c with gateCmd := [(2*gateKey 0 5 + 1, (0,0,0,9)), (2*gateKey 0 5, (0,0,0,8))]}
  let room (st : Nat) (s : State) : State := (s.setF Fld.RM_STATUS_STATE 5 st)
  let q (st : Nat) (s : State) : State := (List.range 3).foldl (fun s j => s.setF Fld.DE_STATE_STATE (16*5+j) st) s
  let s1 := s.setF Fld.HK_STATUS_SAFE 0 0
  let s2 := s1.setF Fld.SC_CFG_ENABLE 0 0
  [s1, s2, s1.setF Fld.HK_STATUS_SAFE 0 1, s1.setF Fld.EP_STATUS_RESUME_PENDING 0 1, cmd (g 0 5 1 (room 4 s1)), g 0 127 2 (g 0 5 2 (room 0 s1)), g 0 5 2 (room 5 s1), g 1 5 1 (q 0 s1), (g 1 5 1 (q 0 s1)).setF Fld.SC_STATUS_ENG_SHED 0 1, g 1 5 2 (q 2 s1), g 2 5 1 s1, g 2 5 2 s2, g 3 5 2 s2, g 3 5 1 s2, g 4 0 1 s2, g 4 0 2 s2, g 4 2 2 s2]
def pick (n : Nat) : State := (sts).getD n State.reset
end WG2

namespace WG3
def sts : List State := (List.range 3).flatMap fun sd =>
  let s := perturb [(.PW_STATUS,5),(.PW_SHED_STATUS,5),(.TH_STATUS,3),(.TH_TJ,5),(.HK_ROUND,5),(.TH_AGE_STATUS,5)] sd rdy
  let s := s.updPow fun p => {p with roundDue := true}
  let s1 := (s.setF Fld.HK_STATUS_SAFE 0 0).setF Fld.TH_STATUS_SHUTDOWN 0 0
  let lv (n : Nat) (s : State) := s.setF Fld.PW_SHED_STATUS_LEVEL 0 n
  let s1 := ((s1.setF Fld.DE_STATE_STATE 3 1).setF Fld.DE_STATE_STATE 5 5).setF Fld.RM_STATUS_STATE 5 0
  let ch (c : Nat) (s : State) : State := s.updPow fun p => {p with adcCh := c}
  let cv (l : List Nat) (s : State) : State := (List.range l.length).foldl (fun s k => ((s.setF Fld.HK_CH_VALID k 1).setF Fld.HK_CH_FAULT k (if k = 2 then 1 else 0)).setF Fld.HK_CH_VALUE k (l.getD k 0)) s
  let th (req lvl reqc hyst : Nat) (s : State) := ((((s.setF Fld.TH_STATUS_REQ 0 req).setF Fld.TH_STATUS_LEVEL 0 lvl).setF Fld.TH_CFG_REQ_C 0 reqc).setF Fld.TH_CFG_HYST 0 hyst).setF Fld.HK_ROUND_COUNT 0 100000
  let b (s : State) : State := s.updPow fun p => {p with below := true}
  let bm (s : State) : State := s.updBoot fun b => {b with step := 9}
  [(lv 6 s1).setF Fld.HK_STATUS_SAFE 0 1, s1.updPow (fun p => {p with roundDue := false}), lv 4 s1, (ch 45 s1).setF Fld.TH_XT_CFG_MODE 1 2, lv 0 s1, lv 1 s1, lv 2 s1, lv 3 s1, lv 5 s1, lv 6 s1, ch 3 (lv 0 s1), ch 43 (lv 2 s1), ch 44 s1, (ch 45 s1).setF Fld.TH_XT_CFG_MODE 1 1 |>.setF Fld.TH_XT_CFG_OUTLET_SHDN 1 1, ch 52 s1, ch 63 s1,
   th 0 0 95 5 (cv [1500, 1600, 1900] s1), th 0 0 95 5 (cv [1500, 1400, 1900] s1), th 1 0 95 5 (cv [1520, 100] s1), th 1 0 95 5 (cv [1400,65500] s1), th 1 1 95 5 (cv [1520, 100] s1), th 1 3 95 5 (cv [1520, 100] s1), th 1 4 95 5 (cv [1520, 100] s1), b (th 1 1 95 5 (cv [1400, 100] s1)), b (th 1 4 95 5 (cv [1400, 65500] s1)), (s1.updBoot fun b => {b with step := 6}), {s1 with fuses := {s1.fuses with lc := 2}}, (bm s1), (bm s1).updJ (fun q => {q with remaps := List.replicate 60000 (1,2,3,4)}), {lv 3 s1 with commit := some {phase := 4, inner := 0, cmd := none}}]
def pick (n : Nat) : State := (sts).getD n State.reset
end WG3

namespace WH1
def bm (n : Nat) (s : State) : State := s.updBoot fun b => {b with step := n}
def sts : List State := (List.range 3).flatMap fun sd =>
  let s := perturb [(.CK_STATUS,5),(.CK_REF_LOST,5),(.BT_BOOT,5),(.HK_STATUS,5),(.LC_STATE,5),(.RM_STATUS,5)] sd rdy
  let s := {s with fuses := {s.fuses with uid := 0xABCDEF123456, lc := sd, svn := 7, keyHash := [(0,5),(3,7)], trim := 9, spares := [(5,2,300,1)]}, mem := [], flash := [(5, 7)]}
  let s := (s.putBytes 0x120000000 [1,2,3]).putBytes 64 [5,5]
  let s := (s.updRoom 5 fun r => {r with alt := true}).setF Fld.RP_STATUS_STATE 0 0
  let por (b : Bool) (s : State) : State := s.updBoot fun x => {x with por := b}
  let low (b : Bool) (s : State) : State := s.updBoot fun x => {x with resetLow := b, pins := 5}
  let ue (s : State) : State := {s with fuses := {s.fuses with ue := true}}
  let ck (h g : Nat) (s : State) : State := (s.setF Fld.CK_STATUS_HEARTH 0 h).setF Fld.CK_STATUS_REF_GOOD 0 g
  [s, por true s, por true (low true s), ue (por true s), low true s, low true (ue s), ue s, ck 0 1 (bm 4 s), ck 0 0 (bm 4 s), ck 2 1 (bm 4 s), ck 2 1 (bm 5 s), (s.updBoot fun b => {b with delayedReset := some 2}), low true (s.updBoot fun b => {b with delayedReset := some 4}), s.setF Fld.TH_STATUS_SHUTDOWN 0 1, s.setF Fld.RP_STATUS_STATE 0 2]
def pick (n : Nat) : State := (sts).getD n State.reset
end WH1

namespace WH2
def bm (n : Nat) (s : State) : State := s.updBoot fun b => {b with step := n}
def sts : List State := (List.range 3).flatMap fun sd =>
  let s := perturb [(.BT_BOOT,5),(.HK_STATUS,5),(.LC_STATE,5),(.RM_STATUS,5)] sd rdy
  let s := (((s.setF Fld.HK_STATUS_SAFE 0 0).setF Fld.HK_STATUS_READY 0 0).setF Fld.BT_STATUS_ST_RUNNING 0 1).setF Fld.LB_STATUS_FALLOW 133 1
  let s := {s with fuses := {s.fuses with lc := sd, keyHash := [(0,5),(3,7)]}}
  let s := (s.putBytes 0x120000000 [1,2,3]).putBytes 64 [5,5] |>.putBytes (bankRow 133 5) [1] |>.putBytes (landing 3 0 1) [7] |>.putBytes 0x110000005 [3]
  let hd (st : Nat) : List Byte := leBytes 4 st ++ leBytes 4 260
  let s := (List.range 8).foldl (fun s k => s.program (slotBase k) (hd (if k < 2 then 1 else 0) ++ leBytes 4 (crc32c (hd (if k < 2 then 1 else 0))).toNat)) s
  let tp (n : Nat) (s : State) : State := (bm 6 s).updBoot fun b => {b with testPos := n}
  let wp (n : Nat) (s : State) : State := (bm 8 s).updBoot fun b => {b with wipePos := n}
  let recs : List LogEntry := List.replicate 63 { w0 := 0, w1 := 0, w2 := 0, w3 := 0 }
  let p9 := bm 9 s
  let img : List Byte := fit 0 256 (leBytes 4 0x5A525753 ++ leBytes 2 2 ++ [1, 0] ++ leBytes 4 0)
  [bm 3 s, (bm 3 s).updBoot fun b => {b with stopped := true}, tp 0 s, tp 1 s, tp 12 s, tp 13 s, tp 33 s, tp 34 s, (tp 34 s).updBoot fun b => {b with failed := [{kind := 6, layer := 1, unit := 7, addr := 0, seg := 0, bit := 0}]}, (tp 3 s).updBoot fun b => {b with records := recs}, (tp 2 s).setSpare 5 0 1 3, wp 0 s, wp 1 s, wp 3 s, p9, p9.updBoot fun b => {b with selected := some 2, pins := 1}, p9.updBoot fun b => {b with selected := some 1}, p9.updBoot fun b => {b with pushed := some img}, (p9.setF Fld.BT_STATUS_PROFILE_WAIT 0 1), {p9 with commit := some {phase := 1, inner := 0, cmd := none}}]
def pick (n : Nat) : State := (sts).getD n State.reset
end WH2

namespace WJ1
def sts : List State := (List.range 2).flatMap fun sd =>
  let s := perturb [(.EP_AUDIT_COUNT,5),(.EP_AUDIT_LAST,5),(.EP_STATUS,5),(.RM_STATUS,5)] sd rdy
  let s := (s.setF Fld.EP_STATUS_RESUME_PENDING 0 0).setF Fld.EP_STATUS_AUDIT_SUSPENDED 0 0
  let s := {s with epoch := 2^32 - 1 + sd, staged := [(Reg.DP_CFG.addr 3, some 0x01010103), (tplKey 3 0, some 5)]}
  let cm (ph inner : Nat) (c : Bool) (snap : SMap (Option Word)) (s : State) : State := {s with snapshot := snap, commit := some {phase := ph, inner := inner, cmd := if c then some (0,0,0,9) else none}, mail := {s.mail with inprog := [{port := 0, node := 0, ep := 0, tag := 9, opcode := 0x201, committed := false}]}}
  let good : SMap (Option Word) := [(Reg.DE_CFG.addr 7, some 1), (Reg.EC_MOW_CFG.addr 0, some (Fld.EC_MOW_CFG_THRESH.set (Fld.EC_MOW_CFG_BASE_S.set 0 10) 9))]
  let bad : SMap (Option Word) := [(Reg.EC_MOW_CFG.addr 0, some 0)]
  let off (s : State) : State := {s with sched := {s.sched with issued := 5}}
  let own (s : State) : State := { s with regs := s.regs ++ (List.range 512).map fun b => (Reg.LB_OWNER.addr b, 3) }
  let prof (s : State) : State := (List.range 16).foldl (fun s g => ((s.setF Fld.SL_TXEQ_C0 g 40).setF Fld.SL_RAW_RING_LOG2N g 2).setF Fld.SL_RAW_RING_RXBASE g 1) s
  let au (s : State) : State := {s with commit := s.commit.map fun c => {c with audit := some (5, 0, -7)}}
  let ld (s : State) : State := s.updRoom 7 fun r => {r with ld := some {agent := .mp, op := 0, plane := 1, bank := 7, row := 0, saveFirst := false, phase := 1, next := 0, err := 0, loc := none, desc := none, cmd := none}}
  [s, off s, cm 3 0 true good s, cm 1 0 true bad s, cm 1 0 true good s, cm 1 0 false bad s, cm 1 1 false good s, ld (cm 1 1 false good s), ld (cm 1 4 false good s), cm 1 3 false good s, cm 2 0 true good s, au (cm 2 0 true good s), cm 3 0 true good (own s), cm 3 0 true [(Reg.SC_CFG.addr 0, some 0xFFFFFFFF),(Reg.DP_CFG.addr 3, some 0x01010103),(Reg.SL_CFG.addr 3, some 0x01010103),(tplKey 3 0, some 5)] s, cm 4 0 true [] s, (cm 4 0 true [] s).updBoot fun b => {b with inSafePending := some (3, 5)}, cm 4 1 false [] s, cm 1 0 true good (prof s), cm 1 1 false good (prof s), cm 1 1 false [] (prof s), own s, off (own s)]
def pick (n : Nat) : State := (sts).getD n State.reset
end WJ1

namespace WJ2
def sts : List State := (List.range 2).flatMap fun sd =>
  let s := perturb [(.EP_ESC_RESET,0),(.EP_STATUS,0),(.RM_STATUS,5),(.BT_FRESET,0),(.DE_PC,3),(.DE_CFG,7),(.RM_PLANE,5),(.ST_CFG,2)] sd rdy
  let s := ((s.setF Fld.EP_STATUS_RESUME_PENDING 0 0).setF Fld.EP_STATUS_AUDIT_SUSPENDED 0 0).setF Fld.HK_STATUS_SAFE 0 0
  let s := (((s.setF Fld.RM_STATUS_STATE 5 0).setF Fld.RM_STATUS_STATE 7 4).setF Fld.DE_STATE_STATE 2 2).setF Fld.DE_STATE_STATE 3 6
  let s := {s with epoch := 5}
  let ph (n : Nat) (s : State) : State := s.updBoot fun b => {b with frPhase := n, frCmd := some (0,0,0,9)}
  let busy (s : State) : State := (((s.updRoom 5 fun r => {r with ld := some {agent := .mp, op := 0, plane := 1, bank := 7, row := 0, saveFirst := false, phase := 1, next := 0, err := 0, loc := none, desc := none, cmd := none}}).updStair 5 fun t => {t with win := some {group := 3, phase := 1}}).updStair 6 fun t => {t with slice := some {bank := 6, seg := 2, phase := 2}})
  let pend (s : State) : State := (s.updPlane 5 1 fun p => {p with rowQ := [{bank := 5, row := 3, write := false, permitted := true}, {bank := 5, row := 3, write := true, permitted := true}]}).updNet fun n => {n with send := [(3, [{type := 5, vc := 0, flits := 2, dest := epDest 0 544, len := 27, tag := 3, srcEp := 3, srcNode := 0, hops := 4, payload := []}])]}
  let re (s : State) : State := s.setF Fld.EP_STATUS_RESUME_PENDING 0 1
  let ret (s : State) : State := [3,5,511].foldl (fun s b => (s.setF Fld.LB_PWR_PSTATE b 2).setF Fld.LB_PWR_CAUSE b 3) s
  let own3 (s : State) : State := [5,511].foldl (fun s b => s.setF Fld.LB_OWNER_KIND b 3) s
  let safe (s : State) : State := s.setF Fld.HK_STATUS_SAFE 0 1
  let up (s : State) : State := (s.updLink 3 fun l => {l with up := true, advDepth := [1,2,3,4], rxDepth := [5,6,7,8]}).setLinkState 3 3
  [s, busy s, {busy s with commit := some {phase := 4, inner := 0, cmd := none}}, {busy s with commit := some {phase := 2, inner := 0, cmd := none}}, ph 1 (pend (up s)), ph 2 s, ph 2 (ret s), ph 3 (up s), ph 3 (s.updRoom 5 fun r => {r with toStop := 3}), ph 4 s, re s, ph 5 (re s), re (ret s), re (own3 (ret s)), re (own3 (ret (s.wr .LB_OWNER 3 5))), re (s.setF Fld.RM_STATUS_STATE 5 2), safe (re s), safe s, safe (ret s), (safe s).setF Fld.TH_STATUS_SHUTDOWN 0 1, {safe s with epoch := 0}, {safe s with commit := some {phase := 1, inner := 0, cmd := none}}, (safe s).setF Fld.PW_STATUS_LND_LOST 0 1 |>.putBytes (landing 3 1 1) [4]]
def rec (s : State) (found : List TestFail) : State := (safe0 s).updBoot fun b => {b with frPhase := 6, resumeCmd := some (0,0,0,9), recov := some (1, found)}
where safe0 (s : State) : State := s.setF Fld.HK_STATUS_SAFE 0 1
def sts3 : List State := [sts.getD 0 State.reset, sts.getD 17 State.reset].flatMap fun s =>
  let w (s : State) : State := s.setF Fld.LB_PWR_PSTATE 5 3
  let f7 : List TestFail := [{ kind := 7, layer := 0, unit := 3, addr := 0, seg := 0, bit := 0 }]
  let nf (s : State) : State := s.updBoot fun b => {b with failed := [], stopped := false}
  [w (rec (nf s) []), w (rec s f7), w (rec {s with epoch := 0} []), w (rec (s.setF Fld.CK_STATUS_HEARTH 0 4) []), rec (nf (s.setF Fld.PW_STATUS_LND_LOST 0 1)) [] |>.putBytes (landing 3 1 1) [4], rec s [], ((rec s []).setF Fld.TH_STATUS_SHUTDOWN 0 1)]
def pick (n : Nat) : State := (sts ++ sts3).getD n State.reset
end WJ2

namespace WK1
def mkp (ep : Nat) (ty len dest : Nat) (pl : List Byte) (tag := 3): Packet := { type := ty, vc := vcOf ty, flits := flitsOf ty len, dest := dest, len := len, tag := tag, dstPlane := 0, srcEp := ep, srcNode := 0, hops := 8, payload := pl }
def lbase (sd k : Nat) (st : Nat := 3) : State :=
  let s := perturb [(.SL_RETRY_COUNT,k-16),(.SL_FEC_COUNT,k-16),(.SL_FEC_UE_COUNT,k-16),(.SL_TRAIN_COUNT,k-16),(.DP_TRAIN_COUNT,k),(.DP_RETRY_COUNT,k)] sd rdy
  let s := s.setLinkF Fld.DP_STATUS_STATE Fld.SL_STATUS_STATE k st
  let s := s.setLinkF Fld.DP_CFG_ENABLE Fld.SL_CFG_ENABLE k 1
  let s := (s.setF Fld.CK_GSTAT_LINK_OPEN 0 0xFFFFFFFF).setF Fld.CK_REF_LOST_ACTIVE 0 0
  let s := if isGroup k then (s.setF Fld.SL_STATUS_TXSTATE (k-16) 0).setF Fld.SL_STATUS_RXSTATE (k-16) 0 else s
  let s := s.setLinkF Fld.DP_CFG_TRAIN_TRIES Fld.SL_CFG_TRAIN_TRIES k 2
  s.updLink k fun l => { l with txSeq := 7, rxSeq := 3, replay := [{kind := 0, vc := 1, seq := 5}, {kind := 0, vc := 2, seq := 6}], cred := [3,4,5,6], outst := [2,3,4,5], rel := [1,0,300,2], far := [4,5,6,7], advDepth := [10,10,10,10], rxDepth := [12,12,12,12], carried := [(5, mkp 3 0 3 77 [])], fresh := false, up := true, set := {rate := 2, depths := [9,8,7,6], tries := 2}, escTx := [0,3,5,0], escRx := [1,2,3,4] }
def sts : List State := [3, 20].flatMap fun k => (List.range 2).flatMap fun sd =>
  let b := lbase sd k 3
  let b := (b.setLinkF Fld.DP_PEER_ENC_CAP Fld.SL_PEER_ENC_CAP k 1).setLinkF Fld.DP_PEER_NODE Fld.SL_PEER_NODE k 5
  let b := {b with fuses := {b.fuses with lc := 2, uid := 3}}
  let b := (((b.setF Fld.CO_ROUTE_VALID 5 1).setF Fld.CO_ROUTE_KIND 5 (if k < 16 then 0 else 1)).setF Fld.CO_ROUTE_INDEX 5 (k % 16)).setF Fld.CR_LINK_CFG_CURVE k 1
  let b := ((b.setLinkF Fld.DP_PEER_NODE_VALID Fld.SL_PEER_NODE_VALID k 1).setLinkF Fld.DP_PEER_UID_LO_UID Fld.SL_PEER_UID_LO_UID k 9).setF Fld.CO_NODE_VALID 0 1 |>.setF Fld.CR_LINK_CFG_AUTO_KEX k 1
  let en (f : LinkEnc → LinkEnc) (s : State) : State := s.updEnc k f
  [b, {b with fuses := {b.fuses with lc := 1}}, en (fun e => {e with phase := 1, cmd := some h0.ref}) b, en (fun e => {e with phase := 3, rxOld := some [1], rxKey := some [2]}) b, en (fun e => {e with rxMsg := List.replicate 52 7, rxTotal := 100, rxMsgKind := 1}) b, en (fun e => {e with phase := 2, rxMsg := List.replicate 52 7, rxTotal := 64, rxMsgKind := 3, helloI := [1,1] ++ List.replicate 97 3 ++ [0,0]}) b]
def pick (n : Nat) : State := (sts).getD n State.reset
end WK1

namespace WL1
def mkp (ep : Nat) (ty len dest : Nat) (pl : List Byte) (tag := 3): Packet := { type := ty, vc := vcOf ty, flits := flitsOf ty len, dest := dest, len := len, tag := tag, dstPlane := 0, srcEp := ep, srcNode := 0, hops := 8, payload := pl }
def lbase (sd k : Nat) (st : Nat := 3) : State :=
  let s := perturb [(.SL_RETRY_COUNT,k-16),(.SL_FEC_COUNT,k-16),(.SL_FEC_UE_COUNT,k-16),(.SL_TRAIN_COUNT,k-16),(.DP_TRAIN_COUNT,k),(.DP_RETRY_COUNT,k)] sd rdy
  let s := s.setLinkF Fld.DP_STATUS_STATE Fld.SL_STATUS_STATE k st
  let s := s.setLinkF Fld.DP_CFG_ENABLE Fld.SL_CFG_ENABLE k 1
  let s := (s.setF Fld.CK_GSTAT_LINK_OPEN 0 0xFFFFFFFF).setF Fld.CK_REF_LOST_ACTIVE 0 0
  let s := if isGroup k then (s.setF Fld.SL_STATUS_TXSTATE (k-16) 0).setF Fld.SL_STATUS_RXSTATE (k-16) 0 else s
  let s := s.setLinkF Fld.DP_CFG_TRAIN_TRIES Fld.SL_CFG_TRAIN_TRIES k 2
  s.updLink k fun l => { l with txSeq := 7, rxSeq := 3, replay := [{kind := 0, vc := 1, seq := 5}, {kind := 0, vc := 2, seq := 6}], cred := [3,4,5,6], outst := [2,3,4,5], rel := [1,0,300,2], far := [4,5,6,7], advDepth := [10,10,10,10], rxDepth := [12,12,12,12], carried := [(5, mkp 3 0 3 77 [])], fresh := false, up := true, set := {rate := 2, depths := [9,8,7,6], tries := 2}, escTx := [0,3,5,0], escRx := [1,2,3,4] }
def sts : List State := [3, 20, 31].flatMap fun k => (List.range 4).flatMap fun sd =>
  let s := lbase sd k
  let ul (f : Link → Link) (s : State) : State := s.updLink k f
  let pk := mkp 5 1 63 0x123456 (List.replicate 64 0x5A)
  let st2 := lbase sd k 2
  [s, ul (fun l => {l with txQ := mput (fun _ => []) [] 1 [{pkt := pk, left := pk.wireSize}]}) s, ul (fun l => {l with txQ := mput (fun _ => []) [] 0 [{pkt := pk, left := pk.wireSize}], replay := []}) s,
   ul (fun l => {l with rxStream := mput (fun _ => []) [] 1 [1,2,3], ackOwed := true, unacked := 63}) s, ul (fun l => {l with replays := [(5,8),(6,8)], nakSent := true}) s, ul (fun l => {l with ackOwed := true, replays := [(5,7),(6,7)]}) s,
   ul (fun l => {l with trainPhase := 3, set := {l.set with tune := true}}) (lbase sd k 1) |>.setF Fld.SL_CFG_FFE_TUNE (k-16) 1, st2, ul (fun l => {l with fresh := true}) st2, ul (fun l => {l with fresh := true, initSent := true}) st2, ul (fun l => {l with escTx := [9,9,9,9], trainPhase := 3}) st2,
   ((ul (fun l => {l with pmReq := 2}) s).setF Fld.SL_STATUS_TXSTATE (k - 16) (1 + sd % 2)).setF Fld.SL_PWR_TX_HOLD (k - 16) 0, s.setF Fld.SL_STATUS_RXSTATE (k - 16) 2, s.setF Fld.SL_STATUS_RXSTATE (k - 16) 3]
def fm (k : Nat) : Nat := (frameMessage (2^31-1) flitMask (List.replicate 5 (({kind := k, ack := 4, seq := 3} : Flit).seal 20).wire)).1
def fl (k : Nat) : List Nat := frameLanes (fm k)
def damage (n : Nat) (l : List Nat) : List Nat := l.zipIdx.map fun e => if e.2 = 1 then (List.range n).foldl (fun v i => Nat.xor v (3 * 1024 ^ (7 * i))) e.1 else e.1
def pick (n : Nat) : State := (sts).getD n State.reset
end WL1

namespace WL2
def mkp (ep : Nat) (ty len dest : Nat) (pl : List Byte) (tag := 3): Packet := { type := ty, vc := vcOf ty, flits := flitsOf ty len, dest := dest, len := len, tag := tag, dstPlane := 0, srcEp := ep, srcNode := 0, hops := 8, payload := pl }
def lbase (sd k : Nat) (st : Nat := 3) : State :=
  let s := perturb [(.SL_RETRY_COUNT,k-16),(.SL_FEC_COUNT,k-16),(.SL_FEC_UE_COUNT,k-16),(.SL_TRAIN_COUNT,k-16),(.DP_TRAIN_COUNT,k),(.DP_RETRY_COUNT,k)] sd rdy
  let s := s.setLinkF Fld.DP_STATUS_STATE Fld.SL_STATUS_STATE k st
  let s := s.setLinkF Fld.DP_CFG_ENABLE Fld.SL_CFG_ENABLE k 1
  let s := (s.setF Fld.CK_GSTAT_LINK_OPEN 0 0xFFFFFFFF).setF Fld.CK_REF_LOST_ACTIVE 0 0
  let s := if isGroup k then (s.setF Fld.SL_STATUS_TXSTATE (k-16) 0).setF Fld.SL_STATUS_RXSTATE (k-16) 0 else s
  let s := s.setLinkF Fld.DP_CFG_TRAIN_TRIES Fld.SL_CFG_TRAIN_TRIES k 2
  s.updLink k fun l => { l with txSeq := 7, rxSeq := 3, replay := [{kind := 0, vc := 1, seq := 5}, {kind := 0, vc := 2, seq := 6}], cred := [3,4,5,6], outst := [2,3,4,5], rel := [1,0,300,2], far := [4,5,6,7], advDepth := [10,10,10,10], rxDepth := [12,12,12,12], carried := [(5, mkp 3 0 3 77 [])], fresh := false, up := true, set := {rate := 2, depths := [9,8,7,6], tries := 2}, escTx := [0,3,5,0], escRx := [1,2,3,4] }
def sts : List State := [3, 20].flatMap fun k => (List.range 2).flatMap fun sd =>
  let ul (f : Link → Link) (s : State) : State := s.updLink k f
  let b (st : Nat) := lbase sd k st
  [b 3, b 1, b 4, b (failedState k), ul (fun l => {l with trainPhase := 2, checks := 7}) (b 1), (ul (fun l => {l with trainPhase := 2, checks := 38}) (b 4)).wr .SL_LANE 17 (Fld.SL_LANE_ALIGNED.set 0 1),
   (ul (fun l => {l with trainPhase := 2, steady := true, allWas := true, found := [0,1,2,3]}) (b 4)) |> fun s => [16,17,18,19].foldl (fun s i => s.setF Fld.SL_LANE_ALIGNED i 1) s,
   (ul (fun l => {l with trainPhase := 2, steady := true, set := {l.set with manual := true}}) (b 6)) |> fun s => [16,17,18,19].foldl (fun s i => s.setF Fld.SL_LANE_ALIGNED i 1) s,
   (ul (fun l => {l with trainPhase := 3, set := {l.set with tune := true}}) (b 1)).setF Fld.SL_CFG_FFE_TUNE (k-16) 1, ul (fun l => {l with trainPhase := 1, fresh := true}) (b 1), ul (fun l => {l with trainPhase := 3, fresh := true, tries := 1}) (b 4), ul (fun l => {l with trainPhase := 1, tries := 1}) (b 4),
   ul (fun l => {l with replay := []}) (b 3), b (downHeld k), ul (fun l => {l with holdAfterDrain := true}) (b 3), ul (fun l => {l with depthChange := true}) (b 3), (b 3).setF Fld.CK_REF_LOST_ACTIVE 0 1, b 2, b 5, b 0,
   (ul (fun l => {l with trainPhase := 2, checks := 3, steady := true, set := {l.set with manual := true}}) (b 4)) |> fun s => [16,17,18,19].foldl (fun s i => s.setF Fld.SL_LANE_ALIGNED i 1) s,
   ul (fun l => {l with trainPhase := 2, set := {l.set with manual := true}}) (b 1)]
def pick (n : Nat) : State := (sts).getD n State.reset
end WL2

namespace WL3
def mkp (ep : Nat) (ty len dest : Nat) (pl : List Byte) (tag := 3): Packet := { type := ty, vc := vcOf ty, flits := flitsOf ty len, dest := dest, len := len, tag := tag, dstPlane := 0, srcEp := ep, srcNode := 0, hops := 8, payload := pl }
def lbase (sd k : Nat) (st : Nat := 3) : State :=
  let s := perturb [(.SL_RETRY_COUNT,k-16),(.SL_FEC_COUNT,k-16),(.SL_FEC_UE_COUNT,k-16),(.SL_TRAIN_COUNT,k-16),(.DP_TRAIN_COUNT,k),(.DP_RETRY_COUNT,k)] sd rdy
  let s := s.setLinkF Fld.DP_STATUS_STATE Fld.SL_STATUS_STATE k st
  let s := s.setLinkF Fld.DP_CFG_ENABLE Fld.SL_CFG_ENABLE k 1
  let s := (s.setF Fld.CK_GSTAT_LINK_OPEN 0 0xFFFFFFFF).setF Fld.CK_REF_LOST_ACTIVE 0 0
  let s := if isGroup k then (s.setF Fld.SL_STATUS_TXSTATE (k-16) 0).setF Fld.SL_STATUS_RXSTATE (k-16) 0 else s
  let s := s.setLinkF Fld.DP_CFG_TRAIN_TRIES Fld.SL_CFG_TRAIN_TRIES k 2
  s.updLink k fun l => { l with txSeq := 7, rxSeq := 3, replay := [{kind := 0, vc := 1, seq := 5}, {kind := 0, vc := 2, seq := 6}], cred := [3,4,5,6], outst := [2,3,4,5], rel := [1,0,300,2], far := [4,5,6,7], advDepth := [10,10,10,10], rxDepth := [12,12,12,12], carried := [(5, mkp 3 0 3 77 [])], fresh := false, up := true, set := {rate := 2, depths := [9,8,7,6], tries := 2}, escTx := [0,3,5,0], escRx := [1,2,3,4] }
def sts : List State := [19, 3].flatMap fun k => (List.range 3).flatMap fun sd =>
  let ul (f : Link → Link) (s : State) : State := s.updLink k f
  let g := 3
  let b (st : Nat) := (((lbase sd k st).setF Fld.DP_CFG_L1_IDLE 3 sd).setF Fld.SL_PWR_IDLE_NS 3 1).setF Fld.SL_PWR_SLEEP_US 3 1
  let e (st : Nat) := ul (fun l => {l with replay := [], rel := [0,0,0,0], pmReq := 0}) (b st)
  let tx (v : Nat) (s : State) := s.setF Fld.SL_STATUS_TXSTATE 3 v
  let raw (s : State) : State := ((((((s.setF Fld.SL_STATUS_RAW 3 1).setF Fld.SL_RAW_CFG_ROOM 3 5).setF Fld.SL_RAW_RING_LOG2N 3 2).setF Fld.SL_RAW_RING_CTLBASE 3 1).setF Fld.SL_RAW_RING_TXBASE 3 2).setF Fld.SL_RAW_RING_RXBASE 3 3).setF Fld.RM_STATUS_STATE 5 0
  let nx (o : Host.Outcome State Fault Refusal) (s : State) : State := match o with | .next u => u | _ => s
  let tag (s : State) (rx : Bool) : Nat := ((s.link 19).raw rx).tag
  let ans (s : State) (rx : Bool) (d : List Byte) (st := 0) (pz := 0) : State := ({ s with net := { s.net with send := [] } } : State).setBuf (bufKey (8*epRouter 531 0+4) 1 0) [{ mkp 5 3 (d.length - 1) (epDest 0 531) d (tag s rx) with vc := 1, status := st, poison := pz }]
  let go (s : State) : State := nx (execResponseArrival 531 s) s
  let c (l : List Nat) : List Byte := l.flatMap (leBytes 4)
  let R := raw (e 3)
  let t1 := nx (execRawTransmit 3 R) R
  let b256 : List Byte := (List.range 256).map (BitVec.ofNat 8)
  let tt := ans t1 false (c [5,3,3,2^32-1])
  let t2 := go tt
  let t3 := go (ans t2 false b256)
  let r1 := nx (execRawReceive 3 b256 (sd == 1) R) R
  let r1 := if sd = 2 then nx (execRawReceive 3 (List.replicate 256 0xA) true r1) r1 else r1
  let rr := ans r1 true (c [5,3,2^32-1,2^32-2])
  let r2 := go rr
  let r3 := go (ans r2 true [])
  let fl (rx : Bool) (s : State) : State := s.setRawDir 3 rx { (s.link 19).raw rx with failed := true }
  [b 3, e 3, tx 1 (e 3), tx 2 (e 3), (tx 1 (e 3)).setF Fld.SL_PWR_TX_HOLD 3 2, ul (fun l => {l with ackOwed := true}) (tx 2 (e 3)), b 5, e 5, R, R.setF Fld.RM_STATUS_STATE 5 2,
   t1, r1, ans t1 false (c [5,5,3,3]), tt, ans t1 false [] 2, ans r1 true [] 2, ans t1 false [] 1, ans r1 true [] 1, ans t2 false b256, ans t2 false b256 0 7, ans t2 false [] 2, ans t2 false [] 1, ans t3 false [], ans t3 false [] 2,
   rr, ans r1 true (c [5,3,6,2]), ans r2 true [], ans r2 true [] 2, ans r3 true [], (ans r3 true []).setF Fld.SL_RAW_CFG_NOTIFY 3 1, fl true r1, fl false t1, fl false t2, fl true r3, fl false t3]
def pick (n : Nat) : State := (sts).getD n State.reset
end WL3

namespace WL4
def mkp (ep : Nat) (ty len dest : Nat) (pl : List Byte) (tag := 3): Packet := { type := ty, vc := vcOf ty, flits := flitsOf ty len, dest := dest, len := len, tag := tag, dstPlane := 0, srcEp := ep, srcNode := 0, hops := 8, payload := pl }
def lbase (sd k : Nat) (st : Nat := 3) : State :=
  let s := perturb [(.SL_RETRY_COUNT,k-16),(.SL_FEC_COUNT,k-16),(.SL_FEC_UE_COUNT,k-16),(.SL_TRAIN_COUNT,k-16),(.DP_TRAIN_COUNT,k),(.DP_RETRY_COUNT,k)] sd rdy
  let s := s.setLinkF Fld.DP_STATUS_STATE Fld.SL_STATUS_STATE k st
  let s := s.setLinkF Fld.DP_CFG_ENABLE Fld.SL_CFG_ENABLE k 1
  let s := (s.setF Fld.CK_GSTAT_LINK_OPEN 0 0xFFFFFFFF).setF Fld.CK_REF_LOST_ACTIVE 0 0
  let s := if isGroup k then (s.setF Fld.SL_STATUS_TXSTATE (k-16) 0).setF Fld.SL_STATUS_RXSTATE (k-16) 0 else s
  let s := s.setLinkF Fld.DP_CFG_TRAIN_TRIES Fld.SL_CFG_TRAIN_TRIES k 2
  s.updLink k fun l => { l with txSeq := 7, rxSeq := 3, replay := [{kind := 0, vc := 1, seq := 5}, {kind := 0, vc := 2, seq := 6}], cred := [3,4,5,6], outst := [2,3,4,5], rel := [1,0,300,2], far := [4,5,6,7], advDepth := [10,10,10,10], rxDepth := [12,12,12,12], carried := [(5, mkp 3 0 3 77 [])], fresh := false, up := true, set := {rate := 2, depths := [9,8,7,6], tries := 2}, escTx := [0,3,5,0], escRx := [1,2,3,4] }
def sts : List State := [3, 19].flatMap fun k => (List.range 2).flatMap fun sd =>
  let ul (f : Link → Link) (s : State) : State := s.updLink k f
  let b (st : Nat) := lbase sd k st
  let act (j : Nat) (s : State) : State := s.setLinkF Fld.DP_STATUS_STATE Fld.SL_STATUS_STATE j 3
  let en (s : State) : State := {(act 1 (act 3 s)) with enumer := some {id := 5, parent := some 7, next := 6, asked := 1, waiting := true, ranges := [(0,9,9)], cmd := h0.ref, ms := 100, round := s.f Fld.HK_ROUND_COUNT 0}}
  [b 3, b (downHeld k), ul (fun l => {l with replay := []}) (b 3), ul (fun l => {l with trainPhase := 2}) (b 4), b 1, (b 3).setF Fld.CO_NODE_VALID 0 1, en (b 1), en (b 3), ul (fun l => {l with replay := [], rel := [0,0,0,0], cmd := [(5,0,0,0,1),(6,0,0,0,1)]}) (b 3)]
def pick (n : Nat) : State := (sts).getD n State.reset
end WL4

namespace WN1
def hB : CmdHdr := { h0 with port := 17, node := 0, ep := 3 }
def sts : List State :=
  [rdy, State.reset, rdy.updMail fun m => { m with inprog := [{ port := 0, node := 0, ep := 546, tag := 7, opcode := 0x0109, committed := true, hdrTag := 0, injected := false }] },
   rdy.updMail fun m => { m with inprog := [{ port := 17, node := 0, ep := 546, tag := 7, opcode := 0x0109, committed := true, hdrTag := 9, injected := false }] },
   rdy.updMail fun m => { m with inprog := [{ port := 3, node := 0, ep := 546, tag := 7, opcode := 0x0109, committed := true, hdrTag := 9, injected := false }] },
   (rdy.setF Fld.CK_STATUS_HEARTH 0 0).updMail fun m => { m with inprog := [{ port := 3, node := 0, ep := 546, tag := 7, opcode := 0x0109, committed := true, hdrTag := 9, injected := false }] },
   rdy.updMail fun m => { m with inprog := [{ port := 35, node := 0, ep := 546, tag := 7, opcode := 0x0109, committed := true, hdrTag := 9, injected := false }] },
   rdy.updMail fun m => { m with inprog := (List.range 8).map fun k => { port := 0, node := 0, ep := 546, tag := 100 + k, opcode := 0x0109, committed := true, hdrTag := 9, injected := false } },
   rdy.updMail fun m => { m with inprog := [{ port := 18, node := 0, ep := 259, tag := 100, opcode := 0x0109, committed := true, hdrTag := 9, injected := false }] },
   rdy.setF Fld.HK_STATUS_READY 0 0, rdy.wr .MB_PERM 0 0]
def pick (n : Nat) : State := (sts).getD n State.reset
end WN1

namespace WP1
def putAll (s : State) (a : Nat) (d : List Byte) : State := (s.writeRun a d)
def hdr (e : Nat) (ph : List Byte) : List Byte := fit 0 256 (leBytes 4 0x47505252 ++ [1,0] ++ List.replicate 18 0 ++ leBytes 4 e ++ List.replicate 4 0 ++ ph)
def sts : List State := (List.range 2).flatMap fun sd =>
  let s := (rdy.setF Fld.HK_STATUS_SAFE 0 0).setF Fld.HK_STATUS_READY 0 0
  let s := [8,9].foldl (fun s b => s.setF Fld.LB_OWNER_KIND b 3) s
  let s := (s.setF Fld.RP_RING_FIRST 0 8).setF Fld.RP_RING_BANKS 0 2
  let s := s.setGateStat 4 2 true
  let rp (n : Nat) (s : State) : State := s.setF Fld.RP_STATUS_STATE 0 n
  let r1 := recBytes 5 2 6 0 0 [2, 1]
  let ring (l : List (List Byte)) (s : State) : State := putAll (putAll s (0x800000*8) (hdr (256 + l.flatten.length) [])) (0x800000*8+256) l.flatten
  let st (n : Nat) (s : State) : State := s.updRp fun q => {q with stamp := n}
  let chk := leBytes 4 (~~~ (0xFFFFFFFF : Word)).toNat ++ leBytes 4 0
  let brk (n : Nat) (s : State) : State := (s.setF Fld.RP_BREAK_HI_ENABLE 0 1).setF Fld.RP_BREAK_LO_STAMP 0 n
  let rcd (f : Replay → Replay) : State := (rp 2 s).updRp f
  let run (s : State) : State := ((s.setF Fld.RM_STATUS_STATE 5 0).setF Fld.DE_STATE_STATE 3 2).updStair 6 fun t => {t with slice := some {bank := 6, seg := 2, phase := 2}}
  let pl (l : List (List Byte)) : State := run (rp 3 (ring l s))
  [s, s.setGateStat 4 2 false, {s with commit := some {phase := 1, inner := 0, cmd := none}}, rp 1 s, ring [r1] s, rp 3 (ring [r1] s), rp 2 (ring [r1] s), {ring [r1] s with commit := some {phase := 1, inner := 0, cmd := none}}, putAll (ring [r1] s) (0x800000*8 + 32) [1], rp 4 s, rp 2 s,
   rcd (fun q => {q with buf := [r1], bufBytes := 32, seq := 3, stamp := sd}), rcd (fun q => {q with buf := [r1, r1], bufBytes := 64, ringOff := 0x1000000 - 32}), rcd (fun q => {q with stamp := 2^48-5, seq := 65535}), rcd (fun q => {q with shedGap := true}), rcd (fun q => {q with outCount := 7, outCrc := 5, stamp := 65535}),
   pl [r1], pl [recBytes 7 0 7 3 0 [0,0,0,0,0,0,0,0,1]], pl [recBytes 7 0 2 3 0 [3, 2]], pl [recBytes 7 0 2 19 0 [3, 2]], pl [recBytes 65536 0 8 0 0 chk], pl [recBytes 65536 0 8 0 0 (leBytes 8 5)], pl [], pl [recBytes 7 0 9 1 0 (leBytes 6 7)], pl [recBytes 7 0 10 1 0 []], pl [recBytes 7 0 11 1 0 []], brk 3 (pl [r1]), brk 5 (pl [r1]), brk 6 (pl [r1])]
def pick (n : Nat) : State := (sts).getD n State.reset
end WP1

namespace WP2
def putAll (s : State) (a : Nat) (d : List Byte) : State := s.writeRun a d
def hdr (e : Nat) (ph : List Byte) : List Byte := fit 0 256 (leBytes 4 0x47505252 ++ [1,0] ++ List.replicate 18 0 ++ leBytes 4 e ++ List.replicate 4 0 ++ ph)
def sts : List State := (List.range 2).flatMap fun sd =>
  let s := rdy.setF Fld.HK_STATUS_SAFE 0 0
  let s := [8,9].foldl (fun s b => s.setF Fld.LB_OWNER_KIND b 3) s
  let s := (s.setF Fld.RP_RING_FIRST 0 8).setF Fld.RP_RING_BANKS 0 2
  let s := s.setGateStat 4 2 true
  let rp (n : Nat) (s : State) : State := s.setF Fld.RP_STATUS_STATE 0 n
  let s := (s.wr .RP_SOURCES 0 0)
  let r1 := recBytes 5 2 6 0 0 [2, 1]
  let ring (l : List (List Byte)) (s : State) : State := putAll (putAll s (0x800000*8) (hdr (256 + l.flatten.length) [])) (0x800000*8+256) l.flatten
  let st (n : Nat) (s : State) : State := s.updRp fun q => {q with stamp := n}
  let chk := leBytes 4 (~~~ (0xFFFFFFFF : Word)).toNat ++ leBytes 4 0
  let brk (n : Nat) (s : State) : State := (s.setF Fld.RP_BREAK_HI_ENABLE 0 1).setF Fld.RP_BREAK_LO_STAMP 0 n
  let rcd (f : Replay → Replay) : State := (rp 2 s).updRp f
  let run (s : State) : State := ((s.setF Fld.RM_STATUS_STATE 5 0).setF Fld.DE_STATE_STATE 3 2).updStair 6 fun t => {t with slice := some {bank := 6, seg := 2, phase := 2}}
  let pl (l : List (List Byte)) : State := run (rp 3 (ring l s))
  [s.setGateStat 4 2 false, {s with commit := some {phase := 1, inner := 0, cmd := none}}, rp 1 s, ring [r1] s, rp 3 (ring [r1] s), rp 4 s, rp 2 s, rp 2 (ring [r1] s), {ring [r1] s with commit := some {phase := 1, inner := 0, cmd := none}}, putAll (ring [r1] s) (0x800000*8 + 32) [1]].drop (if sd = 1 then 3 else 0) |>.take (if sd = 1 then 1 else 12)
def mkp (ep : Nat) (ty len dest : Nat) (pl : List Byte) (tag := 3): Packet := { type := ty, vc := vcOf ty, flits := flitsOf ty len, dest := dest, len := len, tag := tag, dstPlane := 0, srcEp := ep, srcNode := 0, hops := 8, payload := pl }
def at546 (s : State) (p : Packet) : State := s.setBuf (bufKey (8*epRouter 546 0+4) p.vc 0) [p]
def hok (s : State) : List Byte := let h := hdr 512 []; fit 0 256 (h.take 32 ++ fit 0 48 s.boot.profHash ++ fit 0 48 s.sec.measurement)
def ansd (s : State) (d : List Byte) (pz : Nat) : State :=
  match execReplayStart h0 8 2 s with | .next u => at546 { u with net := { u.net with send := [] } } { mkp 261 3 255 (epDest 0 546) d (u.mail.inprog.foldl (fun _ e => nth e.args 0) 0) with vc := 1, poison := pz } | _ => s
def sts4 : List State :=
  let s := sts.getD 3 State.reset
  let h := hok s
  [ansd s h 0, ansd s h 5, ansd s (List.replicate 256 0) 0, ansd s (h.take 32 ++ [7] ++ h.drop 33) 0, (ansd s h 0).setF Fld.RP_STATUS_STATE 0 2, {ansd s h 0 with commit := some {phase := 1, inner := 0, cmd := none}}, (ansd s h 0).setGateStat 4 2 false]
def pick (n : Nat) : State := (sts).getD n State.reset
end WP2

namespace WP3
def putAll (s : State) (a : Nat) (d : List Byte) : State := s.writeRun a d
def hdr (e : Nat) (ph : List Byte) : List Byte := fit 0 256 (leBytes 4 0x47505252 ++ [1,0] ++ List.replicate 18 0 ++ leBytes 4 e ++ List.replicate 4 0 ++ ph)
def sts : List State := (List.range 2).flatMap fun sd =>
  let s := rdy.setF Fld.HK_STATUS_SAFE 0 0
  let s := [8,9].foldl (fun s b => s.setF Fld.LB_OWNER_KIND b 3) s
  let s := (s.setF Fld.RP_RING_FIRST 0 8).setF Fld.RP_RING_BANKS 0 2
  let s := s.setGateStat 4 2 true
  let rp (n : Nat) (s : State) : State := s.setF Fld.RP_STATUS_STATE 0 n
  let s := (s.wr .RP_SOURCES 0 0)
  let r1 := recBytes 5 2 6 0 0 [2, 1]
  let ring (l : List (List Byte)) (s : State) : State := putAll (putAll s (0x800000*8) (hdr (256 + l.flatten.length) [])) (0x800000*8+256) l.flatten
  let st (n : Nat) (s : State) : State := s.updRp fun q => {q with stamp := n}
  let chk := leBytes 4 (~~~ (0xFFFFFFFF : Word)).toNat ++ leBytes 4 0
  let brk (n : Nat) (s : State) : State := (s.setF Fld.RP_BREAK_HI_ENABLE 0 1).setF Fld.RP_BREAK_LO_STAMP 0 n
  let rcd (f : Replay → Replay) : State := (rp 2 s).updRp f
  let run (s : State) : State := ((s.setF Fld.RM_STATUS_STATE 5 0).setF Fld.DE_STATE_STATE 3 2).updStair 6 fun t => {t with slice := some {bank := 6, seg := 2, phase := 2}}
  let pl (l : List (List Byte)) : State := run (rp 3 (ring l s))
  [s.setGateStat 4 2 false, {s with commit := some {phase := 1, inner := 0, cmd := none}}, rp 1 s, ring [r1] s, rp 3 (ring [r1] s), rp 4 s, rp 2 s, rp 2 (ring [r1] s), {ring [r1] s with commit := some {phase := 1, inner := 0, cmd := none}}, putAll (ring [r1] s) (0x800000*8 + 32) [1]].drop (if sd = 1 then 3 else 0) |>.take (if sd = 1 then 1 else 12)
def mkp (ep : Nat) (ty len dest : Nat) (pl : List Byte) (tag := 3): Packet := { type := ty, vc := vcOf ty, flits := flitsOf ty len, dest := dest, len := len, tag := tag, dstPlane := 0, srcEp := ep, srcNode := 0, hops := 8, payload := pl }
def at546 (s : State) (p : Packet) : State := s.setBuf (bufKey (8*epRouter 546 0+4) p.vc 0) [p]
def hok (s : State) : List Byte := let h := hdr 512 []; fit 0 256 (h.take 32 ++ fit 0 48 s.boot.profHash ++ fit 0 48 s.sec.measurement)
def ansd (s : State) (d : List Byte) (pz : Nat) : State :=
  match execReplayStart h0 8 2 s with | .next u => at546 { u with net := { u.net with send := [] } } { mkp 261 3 255 (epDest 0 546) d (u.mail.inprog.foldl (fun _ e => nth e.args 0) 0) with vc := 1, poison := pz } | _ => s
def sts4 : List State :=
  let s := sts.getD 3 State.reset
  let h := hok s
  [ansd s h 0, ansd s h 5, ansd s (List.replicate 256 0) 0, ansd s (h.take 32 ++ [7] ++ h.drop 33) 0, (ansd s h 0).setF Fld.RP_STATUS_STATE 0 2, {ansd s h 0 with commit := some {phase := 1, inner := 0, cmd := none}}, (ansd s h 0).setGateStat 4 2 false]
def pick (n : Nat) : State := (sts4).getD n State.reset
end WP3

namespace WR
def regs5 : List (Reg × Nat) := [(.RM_PLANE,5),(.RM_STATUS,5),(.RM_SWITCH_COUNT,5),(.RM_EFF_DIV,5),(.RM_PLANE_CFG,20),(.RM_PLANE_CFG,21),(.RM_POISON_COUNT,5),(.LB_PWR,5),(.ST_STATUS,5)]
def mk (seed st act t pst : Nat) (g : Room → Room) (pend : Nat := 2) : State :=
  let s := perturb regs5 seed rdy
  let s := (s.setF Fld.RM_STATUS_STATE 5 st).setF Fld.RM_PLANE_NONE 5 0
  let s := (s.setF Fld.RM_PLANE_ACTIVE 5 act).setPlaneState 5 act 2
  let s := s.setPlaneState 5 t pst
  let s := if pend < 2 then s.setF Fld.RM_PLANE_PEND_VALID 5 pend else s
  let s := s.setF Fld.RM_PLANE_PENDING 5 t
  let s := if seed % 2 = 0 then s.setF Fld.RM_STATUS_PARK_SHED 5 0 else s
  s.updRoom 5 g
def sts : List State := (List.range 7).flatMap fun sd =>
  [mk sd 0 1 2 2 id, mk sd 0 1 2 2 (fun r => { r with sw := some (2, .reg) }), mk sd 0 3 0 2 (fun r => { r with sw := some (0, .sched), parks := [(true, none), (false, some (0,0,0,1))], toStop := 2 }),
   mk sd 0 1 2 2 id 1, mk sd 0 1 3 1 id, mk sd 0 1 0 0 id, mk sd 1 1 0 2 (fun r => { r with parks := [(false, some (17,0,0,1))] }),
   mk sd 0 1 2 2 (fun r => { r with sw := some (2, .reg), parks := [(true, some (3,0,0,1))], toStop := 3 }), mk sd 0 1 2 2 (fun r => {r with vtMask := 255, vtVal := 7 }) 0 ]
def pick (n : Nat) : State := (sts).getD n State.reset
end WR

namespace WR1
def pr (sd n p : Nat) : State :=
  let s := perturb [(.RM_PLANE,n),(.LB_DENY_COUNT,n),(.LB_DENY_COUNT,128+n),(.LB_CTRL,n),(.ST_STATUS,n),(.RM_STATUS,n),(.LB_NEXT_OWNER,n),(.LB_NEXT_OWNER,128+n)] sd rdy
  let s := ((s.setF Fld.RM_STATUS_STATE n 0).setF Fld.RM_PLANE_NONE n 0).setF Fld.RM_PLANE_ACTIVE n p
  s.setF Fld.ST_STATUS_STATE n 0
def rq (b row : Nat) (w perm : Bool) (po := 0) : RowReq := { bank := b, row := row, write := w, permitted := perm, data := (List.range 1024).map (fun i => BitVec.ofNat 8 (i*7+1)), poison := po }
def fillb (s : State) (a : Nat) (k : Nat) : State := s.putBytes a ((List.range 70).map (fun i => BitVec.ofNat 8 (i*k+3)))
def mkp (n b : Nat) (ty len : Nat) (who := 546) : Packet := { type := ty, vc := 0, flits := 1, dest := 0x800000*b+0x440, len := len, tag := 3, srcEp := who, srcNode := 0, hops := 8, payload := (List.range (len+1)).map (BitVec.ofNat 8) }
def sts : List State := (List.range 4).flatMap fun sd => [(5,1),(127,3)].flatMap fun (n,p) =>
  let s := pr sd n p
  [s, s.updPlane n p (fun q => {q with rowQ := [rq n 3 true true], rowRet := [{data := [], poison := 0, busy := false, bank := 1, row := 2}]})
   , fillb (s.updPlane n p (fun q => {q with rowQ := [rq (128+n) 3 false true, rq n 1 true true]})) (bankRow (128+n) 3 + 40) 5
   , ((fillb (s.updPlane n p (fun q => {q with rowQ := [rq (128+n) 3 false true, rq n 1 true true]})) (bankRow (128+n) 3 + 40) 5).setSyn (bankRow (128+n) 3 + 64) 0x10003).setSyn (bankRow (128+n) 3 + 32) 0xFFFF0000
   , s.updPlane n p (fun q => {q with rowQ := [rq n 3 true false]}), s.updPlane n p (fun q => {q with rowQ := [rq n 3 false false]}),
   (s.setBuf (bufKey (8*epRouter (128+n) 0+5) 0 0) [mkp n (128+n) 1 70]), (s.setBuf (bufKey (8*epRouter (128+n) 0+5) 0 0) [mkp n n 0 70 3])]
   ++ [1,2].flatMap fun left => [none, some (0, (List.range 32).map (BitVec.ofNat 8)) ].map fun w =>
     let b := 128 + n
     let s := { s with svc := mput (fun _ => none) s.svc 4 (some { pkt := mkp n b (if w.isSome then 1 else 0) 40, left := left }) }
     let s := fillb s (0x800000*b+0x440) 3
     (s.updStair n fun t => {t with turn := 1}).updBank b fun k => { k with q := [{req := 4, addr := 0x800000*b+0x440, agent := .mp, write := w, poison := false}] }
def pick (n : Nat) : State := (sts).getD n State.reset
end WR1

namespace WR2
def pr (sd n p : Nat) : State :=
  let s := perturb [(.RM_PLANE,n),(.RM_LOAD_STATUS,n),(.RM_LOAD_CTRL,n),(.RM_PSRC,4*n+2),(.RM_PSRC,4*n+1),(.RM_STATUS,n),(.RM_EFF_DIV,n),(.LB_OWNER,128+n),(.LB_OWNER,n)] sd rdy
  let s := ((s.setF Fld.RM_STATUS_STATE n 0).setF Fld.RM_PLANE_NONE n 0).setF Fld.RM_PLANE_ACTIVE n p
  let s := s.each [0,1,2,3] fun s k => ((s.setF Fld.LB_OWNER_KIND (128*k+n) 3).setF Fld.LB_STATUS_FALLOW (128*k+n) 0).setF Fld.LB_PWR_PSTATE (128*k+n) 0
  s.setF Fld.ST_STATUS_STATE n 0
def mkp (ep : Nat) (ty len dest : Nat) (pl := 0) (tag := 3): Packet := { type := ty, vc := vcOf ty, flits := flitsOf ty len, dest := dest, len := len, tag := tag, dstPlane := pl, srcEp := ep, srcNode := 0, hops := 8, payload := (List.range (len+1)).map (BitVec.ofNat 8) }
def dst (n : Nat) := 0x100000000 + 0x100000*n
def put (s : State) (n vc : Nat) (p : Packet) : State := s.setBuf (bufKey (8*epRouter n 0+4) vc 0) [p]
def fillb (s : State) (a : Nat) (k : Nat) : State := s.putBytes a ((List.range 70).map (fun i => BitVec.ofNat 8 (i*k+3)))
def sts : List State := (List.range 4).flatMap fun sd => [(5,1),(127,3)].flatMap fun (n,p) =>
  let s := pr sd n p
  let r2 (s : State) := (s.setPlaneState n 2 2).setF Fld.RM_PSRC_VALID (4*n+2) 1
  [s, r2 s, put s n 0 (mkp 3 1 31 (dst n+64)), put (r2 s) n 0 (mkp 3 2 31 (epDest 0 n) 2), s.updRoom n fun r => {r with ramQ := [mkp 3 1 31 (dst n + 64)]}
  , fillb (s.updRoom n fun r => {r with ramQ := [mkp 3 0 31 (dst n + 64), mkp 3 0 31 (dst n + 64)]}) (dst n+70) 4
  , (put s n 1 { mkp 200 3 31 (epDest 0 n) 2 3 with srcPlane := 0 }).setOut (outKey n 2 3) (some { pkt := mkp n 0 31 0 0 3 }) |>.updPlane n 2 fun q => {q with slots := mput (fun _ => .free) q.slots 3 (.waiting false)}]
  ++ ([(1,0),(1,1),(3,0),(3,1),(4,0),(4,1),(4,2)].map fun (ph, op) =>
     fillb ((r2 s).updPlane n 2 (fun q => {q with slots := mput (fun _ => .free) q.slots 3 (.waiting (ph = 1 && sd % 2 = 0))}) |>.updRoom n fun r => {r with ld := some {agent := .mp, op := op, plane := 2, bank := 128+n, row := 8, saveFirst := false, phase := ph, next := 7, err := 0, loc := none, desc := none, cmd := if sd = 1 then some (0,0,0,3) else none}}) (bankRow (128+n) 15 + 100) 5)
def pick (n : Nat) : State := (sts).getD n State.reset
end WR2

namespace WR2b
def pr (sd n p : Nat) : State :=
  let s := perturb [(.RM_PLANE,n),(.RM_LOAD_STATUS,n),(.RM_LOAD_CTRL,n),(.RM_PSRC,4*n+2),(.RM_PSRC,4*n+1),(.RM_STATUS,n),(.RM_EFF_DIV,n),(.LB_OWNER,128+n),(.LB_OWNER,n)] sd rdy
  let s := ((s.setF Fld.RM_STATUS_STATE n 0).setF Fld.RM_PLANE_NONE n 0).setF Fld.RM_PLANE_ACTIVE n p
  let s := s.each [0,1,2,3] fun s k => ((s.setF Fld.LB_OWNER_KIND (128*k+n) 3).setF Fld.LB_STATUS_FALLOW (128*k+n) 0).setF Fld.LB_PWR_PSTATE (128*k+n) 0
  s.setF Fld.ST_STATUS_STATE n 0
def mkp (ep : Nat) (ty len dest : Nat) (pl := 0) (tag := 3): Packet := { type := ty, vc := vcOf ty, flits := flitsOf ty len, dest := dest, len := len, tag := tag, dstPlane := pl, srcEp := ep, srcNode := 0, hops := 8, payload := (List.range (len+1)).map (BitVec.ofNat 8) }
def dst (n : Nat) := 0x100000000 + 0x100000*n
def put (s : State) (n vc : Nat) (p : Packet) : State := s.setBuf (bufKey (8*epRouter n 0+4) vc 0) [p]
def fillb (s : State) (a : Nat) (k : Nat) : State := s.putBytes a ((List.range 70).map (fun i => BitVec.ofNat 8 (i*k+3)))
def sts : List State := (List.range 2).flatMap fun sd => [(5,1),(127,3)].flatMap fun (n,p) =>
  let s := pr sd n p
  let r2 (s : State) := (s.setPlaneState n 2 2).setF Fld.RM_PSRC_VALID (4*n+2) 1
  [(1,0,0),(1,0,1),(1,2,7),(1,2,8),(4,1,24),(4,2,24),(4,0,2712),(2,0,0),(2,1,1),(2,2,7),(2,2,23),(3,0,7),(3,1,2700),(3,0,2711)].flatMap fun (ph, op, nx) => [0,4].map fun fal =>
     let s := fillb ((r2 s).updRoom n fun r => {r with ld := some {agent := .mp, op := op, plane := 2, bank := 128+n, row := 8, saveFirst := false, phase := ph, next := nx, err := 0, loc := none, desc := none, cmd := if sd = 1 then some (0,0,0,3) else none}}) (bankRow (128+n) 15 + 100) 5
     let s := if ph = 1 && fal = 4 && nx = 1 then s.updPlane n 2 fun q => {q with slots := mput (fun _ => .free) q.slots 3 (.waiting false)} else if ph = 1 && nx = 7 && fal = 4 then s.setF Fld.LB_OWNER_KIND (s.loadPlace n 2 2 0).1 0 else s
     let s := if ph ≠ 1 && fal = 4 then s.setF Fld.LB_STATUS_FALLOW (128+n) 1 else s
     s
def places : List Nat := sts.flatMap fun s => [5,127].flatMap fun n => match (s.room n).ld with | some o => [(s.loadRowPlace n o).1, (s.loadRowPlace n o).2] | none => []
def pick (n : Nat) : State := (sts).getD n State.reset
end WR2b

namespace WR3
def pr (sd b : Nat) : State :=
  let s := perturb [(.LB_OWNER,b),(.LB_GUEST,b),(.LB_STATUS,b),(.LB_PWR,b),(.LB_CTRL,b),(.LB_NEXT_OWNER,b),(.CO_STATUS,0),(.CO_BERR_SRC,0),(.CO_TIMEOUT_COUNT,0),(.CO_BOOK_IDX,0),(.CO_BOOK_SEND,0),(.CO_CFG,0),(.EC_STATUS,0),(.CO_BERR_COUNT,0),(.CO_CE_COUNT,0)] sd rdy
  (((s.setF Fld.LB_STATUS_FALLOW b 0).setF Fld.LB_OWNER_HANDOVER b 0).setF Fld.LB_STATUS_WIPE_BUSY b 0).setF Fld.LB_STATUS_DUAL b (sd%2)
def mkp (ep : Nat) (ty len dest : Nat) (pl := 0) (tag := 3): Packet := { type := ty, vc := vcOf ty, flits := flitsOf ty len, dest := dest, len := len, tag := tag, dstPlane := pl, srcEp := ep, srcNode := 0, hops := 8, payload := (List.range (len+1)).map (BitVec.ofNat 8) }
def sts : List State := (List.range 5).flatMap fun sd => [5,133].flatMap fun b =>
  let s := pr sd b
  [s, (s.setF Fld.LB_PWR_PSTATE b 0).setF Fld.LB_OWNER_KIND b 0, (s.setF Fld.LB_PWR_PSTATE b 2).setF Fld.LB_PWR_CAUSE b 1, (s.setF Fld.LB_PWR_PSTATE b 0).setF Fld.LB_OWNER_KIND b 3
  , s.setOut (outKey 5 0 3) (some { pkt := mkp 5 0 31 0 }) |>.updPlane 5 0 fun q => {q with slots := mput (fun _ => .free) q.slots 3 (.waiting false)}
  , s.setOut (outKey 5 0 3) (some { pkt := mkp 5 0 31 0, expired := true })
  , s.updBook (bufKey 64 1 0) fun b => {b with cred := 2, free := 3, flight := 1}
  , (s.setBuf (bufKey (8*64+6) 1 0) [mkp 6 4 0 (epDest 0 200) , mkp 7 4 0 (epDest 0 200)]).setBuf (bufKey (8*65+2) 1 1) [mkp 6 4 0 (epDest 0 200)]
  , (s.inject 5 (mkp 5 0 31 (0x800000*9)))
  , s.updMail (fun m => {m with inprog := [{ port := 0, node := 0, ep := 546, tag := 5, opcode := 0x0405, committed := false}]}) |>.updRoom 3 fun r => {r with parks := [(true, some (0,0,546,5)), (true,none)]}
  , s.updBank b fun k => {k with op := .handoverReady}
  , (s.setF Fld.LB_PWR_PSTATE b 2).updBank b fun k => {k with wakeWait := true}
  , (s.setF Fld.LB_STATUS_WIPE_BUSY b 1).updBank b fun k => {k with op := .wipe}
  , s.updBoot fun q => {q with step := 8, stopped := false, wipePos := 3}
  , {s with ecLog := [{w0 := 1, w1:=2,w2:=3,w3:=4},{w0 := 1, w1:=2,w2:=3,w3:=4}], epoch := 5*2^33+7, sched := {s.sched with tick := 2^35+9, issued := 2^40+3, matched := 2^33, drainCmds := [(0,0,546,7)]}, boot := {s.boot with records := [{w0 := 1, w1:=2,w2:=3,w3:=4},{w0 := 5, w1:=2,w2:=3,w3:=4}]}, mail := {s.mail with inprog := [{ port := 0, node := 0, ep := 546, tag := 7, opcode := 0x0508, committed := false}] } }.putBytes 0x120100000 [1,2,3,4,5,6,7,8]]
def pick (n : Nat) : State := (sts).getD n State.reset
end WR3

namespace WR4
def regsamp : List (Reg × Nat) := [(.LB_CTRL,5),(.EC_STATUS,0),(.CO_CE_COUNT,0),(.CO_STATUS,0),(.RM_SWITCH_COUNT,3),(.MB_EVT_MASK,2),(.MB_EVT_DROP,0),(.CO_NODE,0),(.CO_CFG,0),(.RM_POISON_COUNT,2),(.TH_CFG,0),(.LC_CHAL,3)]
def sts : List State := (List.range 5).flatMap fun sd =>
  let s := perturb regsamp sd rdy
  let s := s.updMail (fun m => {m with inprog := [{ port := 0, node := 0, ep := 546, tag := 5, opcode := 0x0405, committed := false}]}) |>.updRoom 3 fun r => {r with parks := [(true, some (0,0,546,5)), (true,none)]}
  [s, s.setF Fld.CO_NODE_VALID 0 0, {s with ecLog := [{w0 := 1, w1:=2,w2:=3,w3:=4},{w0 := 1, w1:=2,w2:=3,w3:=4}], epoch := 5*2^33+7, sched := {s.sched with tick := 2^35+9, issued := 2^40+3, matched := 2^33, drainCmds := [(0,0,546,7)]}, boot := {s.boot with records := [{w0 := 1, w1:=2,w2:=3,w3:=4},{w0 := 5, w1:=2,w2:=3,w3:=4}]}, mail := {s.mail with inprog := [{ port := 0, node := 0, ep := 546, tag := 7, opcode := 0x0508, committed := false}] } }.putBytes 0x120100000 [1,2,3,4,5,6,7,8]]
def pick (n : Nat) : State := (sts).getD n State.reset
end WR4

namespace WR5
def mkp (ep : Nat) (ty len dest : Nat) (pl : List Byte) (tag := 3): Packet := { type := ty, vc := vcOf ty, flits := flitsOf ty len, dest := dest, len := len, tag := tag, dstPlane := 0, srcEp := ep, srcNode := 0, hops := 8, payload := pl }
def at546 (s : State) (p : Packet) : State := s.setBuf (bufKey (8*epRouter 546 0+4) p.vc 0) [p]
def sts : List State := (List.range 5).flatMap fun sd =>
  let s := perturb [(.MB_STATUS,0),(.CO_CFG,0),(.CO_BERR_COUNT,0),(.CO_STATUS,0),(.HK_ID_UID_LO,0)] sd rdy
  let s := if sd%2=0 then s.setF Fld.MB_STATUS_I3C_DA 0 0 else s
  let blk := cmdBlock 0x0109 7 0 []
  [s, s.updMail fun m => {m with rsp := mput (fun _ => []) m.rsp 0 [blk, [1,2,3]], evq := mput (fun _ => []) (mput (fun _ => []) m.evq 3 [{code:=1,source:=2,seq:=3,data:=4}]) 16 (List.replicate 3 {code:=1,source:=2,seq:=3,data:=4})},
   at546 s (mkp 3 8 63 (epDest 0 546) blk 9), at546 s (mkp 3 0 3 (0x140000000 + 8) [] 9), at546 s (mkp 3 1 3 (0x140000000 + 8) [1,2,3,4] 9),
   (match execMbEngBell 5 64 [] s with | .next u => at546 { u with net := { u.net with send := [] } } { mkp 261 3 63 (epDest 0 546) blk (u.mail.inprog.foldl (fun _ e => nth e.args 0) 0) with vc := 1 } | _ => s), s.updMail fun m => {m with part := mput (fun _ => []) m.part 3 (blk.take 56), partKind := mput (fun _ => 0) m.partKind 3 (256+9)}]
def pick (n : Nat) : State := (sts).getD n State.reset
end WR5

namespace WR6
def mkp (ep : Nat) (ty len dest : Nat) (pl : List Byte) (tag := 3): Packet := { type := ty, vc := vcOf ty, flits := flitsOf ty len, dest := dest, len := len, tag := tag, dstPlane := 0, srcEp := ep, srcNode := 0, hops := 8, payload := pl }
def atAt (s : State) (q : Nat) (p : Packet) : State := s.setBuf (bufKey (attachLink q) p.vc 0) [p]
def rec1 (t slot inst v : Nat) : TokRec := {tag := t * 2^52 + 8*inst + slot, value := v, poison := v % 2 = 1}
def base (_ : Nat) : State := { rdy with
  regs := [(Reg.HK_STATUS.addr 0, 33), (Reg.CK_STATUS.addr 0, 2), (Reg.CK_GSTAT_UNIT.addr 0, 7), (Reg.MB_CFG.addr 0, 0xFFFFFFFF),
    (Reg.SC_CFG.addr 0, 0x8000000A), (Reg.SC_SIZE.addr 0, 0x131211), (Reg.SC_RES.addr 0, 8), (Reg.SC_EMAP.addr 0, 0xFFFFFFFF),
    (Reg.SC_EMAP.addr 1, 0xFFFFFFFF), (Reg.DE_STATE.addr 20, 1), (tplKey 3 0, 0xC8000009), (tplKey 3 2, 0xFFFFFFFF), (tplKey 4 0, 0xC4000009),
    (tplKey 4 2, 0xFFFFFFFF), (tplKey 5 0, 0x88000009), (tplKey 5 2, 0xFFFFFFFF), (tplKey 5 3, 10)]
  sched := { inited := true } }
def rec1d (st am wk : Nat) (ops : List Nat) : Desc :=
  { state := st, amask := am, tmpl := 3, flow := 9, key := 1688849860264013, worker := wk, ops := ops ++ List.replicate (8 - ops.length) 0 }
def tk (s : State) (k : Nat) (rs : List TokRec) : State :=
  s.setTok 1 (some (mkp 5 5 (16+12*rs.length-1) (epDest 0 544) (tokPayload rs 0), k, 0))
def one : State := (base 0).updSched fun q => { q with
  freshIdx := 1, descs := [(0, rec1d 1 1 0 [8])], mtab := [(1688849860264013, 1)], mways := [(1688849860264013, 1)], mcache := [1613], held := 1 }
def ready : State := (base 0).updSched fun q => { q with
  freshIdx := 1, descs := [(0, rec1d 2 3 0 [8, 9])], flows := [(9, { queue := [0] })], pipes := [(1, { ready := [(0, [9])] })], matched := 2 }
def disp : State :=
  let d : Packet := { mkp 544 6 63 (epDest 0 276) (rec1d 4 3 532 [8, 9]).bytes 0 with hops := 16 }
  ((base 0).updSched fun q => { q with
    freshIdx := 1, descs := [(0, rec1d 4 3 532 [8, 9])], flows := [(9, { busy := true, lastValid := true, last := 532 })], matched := 2 }).setOut
    (outKey 544 0 0) (some { pkt := d })
def rsp (st : Nat) : State := disp.setBuf (bufKey (8 * epRouter 544 0 + 4) 1 0) [{ mkp 276 4 0 (epDest 0 544) [] 0 with status := st }]
def dn (s : State) (n : Nat) : State := s.setBuf (bufKey (8 * epRouter 544 0 + 4) 2 0)
  [mkp 276 7 (15+12*n) (epDest 0 544) (leBytes 4 (2^24*n) ++ List.replicate 12 0 ++ (List.replicate n (rec1 3 0 77 4).bytes).flatten)]
def act (p : Nat) : State :=
  let s := ((base 0).updDesc 7 fun d => {d with state := 4, worker := 4*5+2}).updSched fun q => {q with wantSwitch := [(5, [2])]}
  (((s.setF Fld.RM_STATUS_STATE 5 0).setF Fld.RM_PLANE_NONE 5 0).setF Fld.RM_PLANE_ACTIVE 5 p).setPlaneState 5 2 2
def sts : List State :=
  let s := base 0
  [s, atAt s 1 (mkp 5 5 27 (epDest 0 544) (tokPayload [rec1 3 0 77 8] 0)), tk s 0 [rec1 3 0 77 8], tk s 0 [rec1 9 0 77 8, rec1 3 0 3 3], tk s 0 [rec1 9 0 77 8], tk (s.updSched fun q => { q with mcache := [1613] }) 0 [rec1 3 0 77 8], one, tk one 0 [rec1 3 1 77 9], tk one 0 [rec1 3 1 77 9, rec1 3 1 78 9],
   ready, disp, rsp 1, rsp 2, dn disp 0, dn disp 2, dn s 1,
   (s.updDesc 7 fun d => {d with state := 5, complete := true, recs := [rec1 4 0 99 1]}).updSched fun q => {q with posting := [7, 8]},
   (s.updDesc 7 fun d => {d with state := 3, expiry := 9, flow := 11}).updSched fun q => {q with tick := 10, delays := [(0, {items := [(9,7),(12,8)]})], use := [(3, 7), (5, 1)]},
   s.updSched fun q => {q with delays := [(2, {items := [(9,7),(12,8)], walk := some (10,4,0)})]},
   s.updSched fun q => {q with delays := [(2, {items := [(9,7),(12,8)], walk := some (10,4,1)})]},
   act 1, act 2]
def pick (n : Nat) : State := (sts).getD n State.reset
end WR6

namespace WS1
def sts : List State := (List.range 2).flatMap fun sd =>
  let s := rdy.setF Fld.HK_STATUS_SAFE 0 0
  let s := s.putBytes 0x120100000 (List.replicate 32 7)
  let s := s.program (slotBase 1) (List.replicate 8 5)
  let s := ((s.program (slotBase 2) [1,2,3]).program 0x100000 [9,9]).program 0x200000 (journalHeader 1)
  let j (g : Journal → Journal) (s : State) : State := s.updJ g
  let s := j (fun q => {q with gen := 1, seq := 3, off := 256, settings := [(0x20, (5,6))], remaps := [(1,2,3,4)], life := [1,2,3,4,5]}) s
  let cm (s : State) : State := {s with mail := {s.mail with inprog := [{port := 0, node := 0, ep := 0, tag := 9, opcode := 0x0E03, committed := false}]}}
  let jb (x : FlashJob) (s : State) : State := cm (j (fun q => {q with jobs := [x]}) s)
  let pw (st slot len : Nat) : FlashJob := {op := 0x0E03, cmd := (0,0,0,9), slot := slot, img := List.replicate len 7, stage := st}
  let rec' : FlashJob := {op := 0x0E08, cmd := (0,0,0,9), recs := [(2, leBytes 4 0x40 ++ leBytes 4 7 ++ leBytes 4 0xFFFFFFFF)]}
  let po (s : State) : State := s.setSyn 0x120100000 poisonSyn
  [j (fun q => {q with settings := (List.range 4096).map fun k => (0x10000 + 4 * k, (5, 6))}) s, s, po s, po (s.setF Fld.BT_STATUS_PROFILE_WAIT 0 1), s.setF Fld.BT_STATUS_PROFILE_WAIT 0 1, {s with fuses := {s.fuses with lc := 4}}, {s with fuses := {s.fuses with ue := true}}, j (fun q => {q with compacting := true, waitCompact := [(0,0,0,9)], area := sd}) (cm s), jb (pw 1 1 100) s, jb (pw 2 1 100) s, jb (pw 3 7 100) s, jb {pw 1 1 0 with op := 0x0E04} s, jb {pw 1 1 100 with op := 0x0E07} s, jb {pw 2 0 100 with op := 0x0E07} s, jb {pw 2 0 700 with op := 0x0E07} s, jb rec' s, j (fun q => {q with compacting := true}) (jb rec' s)]
def pick (n : Nat) : State := (sts).getD n State.reset
end WS1

namespace WS2
def sts : List State := (List.range 2).flatMap fun sd =>
  let s := perturb [(.LC_CHAL,0),(.LC_CHAL,7),(.LC_AUTH_FAIL,0)] sd (rdy.setF Fld.HK_STATUS_SAFE 0 0)
  let s := s.setF Fld.LC_CHAL_CTRL_VALID 0 1
  let s := s.putBytes 0x120100000 (List.replicate 100 7)
  let lc (n : Nat) (s : State) : State := {s with fuses := {s.fuses with lc := n, uid := 77}}
  let lv (n : Nat) (s : State) : State := s.setF Fld.LC_DEBUG_LEVEL 0 n
  let ir (n : Nat) (s : State) : State := s.updSec fun q => {q with tap := {ir := n, dr := 5}}
  [(lc 2 s).setSyn 0x120100000 poisonSyn, (lc 0 s).setSyn 0x120100000 poisonSyn, lc 0 s, lv 1 (lc 1 s), lv 2 (lc 2 s), lc 3 s, lc 4 s, (lc 2 s).setF Fld.PW_SHED_STATUS_LEVEL 0 1, (lc 2 s).setF Fld.TH_STATUS_SHUTDOWN 0 1, (lc 2 s).updSec fun q => {q with transition := some (0,0,0,1)}, (lc 0 s).updBoot fun b => {b with step := 8}, s.setF Fld.BT_STATUS_ST_RUNNING 0 1, ir 2 s, ir 0x10 (lv 2 s), s.updBoot fun b => {b with por := true}]
def pick (n : Nat) : State := (sts).getD n State.reset
end WS2

namespace WS4
def sts : List State := (List.range 2).flatMap fun sd =>
  let s := perturb [(.LC_CHAL,0),(.LC_CHAL,7),(.LC_AUTH_FAIL,0)] sd (rdy.setF Fld.HK_STATUS_SAFE 0 0)
  let s := s.setF Fld.LC_CHAL_CTRL_VALID 0 1
  let s := s.putBytes 0x120100000 (List.replicate 100 7)
  let lc (n : Nat) (s : State) : State := {s with fuses := {s.fuses with lc := n, uid := 77}}
  let lv (n : Nat) (s : State) : State := s.setF Fld.LC_DEBUG_LEVEL 0 n
  let ir (n : Nat) (s : State) : State := s.updSec fun q => {q with tap := {ir := n, dr := 5}}
  [(lc 2 s).setSyn 0x120100000 poisonSyn, (lc 0 s).setSyn 0x120100000 poisonSyn, lc 0 s, lv 1 (lc 1 s), lv 2 (lc 2 s), lc 3 s, lc 4 s, (lc 2 s).setF Fld.PW_SHED_STATUS_LEVEL 0 1, (lc 2 s).setF Fld.TH_STATUS_SHUTDOWN 0 1, (lc 2 s).updSec fun q => {q with transition := some (0,0,0,1)}, (lc 0 s).updBoot fun b => {b with step := 8}, s.setF Fld.BT_STATUS_ST_RUNNING 0 1, ir 0xFF s, ir 2 s, ir 0x10 (lv 2 s), s.updBoot fun b => {b with por := true}]
def pick (n : Nat) : State := (sts).getD n State.reset
end WS4

/-- The books of the state that the epoch witnesses use balance. -/
theorem audit_rest : (WJ1.pick 0).audit = none := audit_of (by decide +kernel) (by decide +kernel)

theorem test_witness_WritesAfterTheSnapshotAreStaged_0 :
    (∃ (s : State), s.canon ∧ s.tables ∧ ∃ c, s.commit = some c ∧ ∃ (off : Nat), ∃ r, ∃ (i : Nat), csrCause off = none ∧ Reg.atOffset off = some (r, i) ∧ r.accMask .rwe ≠ 0 ∧ (¬(r = .MB_PERM ∧ i = 0))) ∧
    (∃ (s : State), s.canon ∧ s.tables ∧ ∃ c, s.commit = some c ∧ c.phase = 3) :=
    ⟨⟨WJ1.pick 2, And.imp canon_of (fun x => ⟨tables_of x, exSome (by decide +kernel) (⟨6340616, Reg.DP_CFG, 3, (by decide +kernel)⟩)⟩) (by decide +kernel)⟩,
    ⟨WJ1.pick 2, And.imp canon_of (fun x => ⟨tables_of x, exSome (by decide +kernel) ((by decide +kernel))⟩) (by decide +kernel)⟩⟩

theorem test_witness_BreakpointsHaltAtTheBoundary_0 :
    (∃ (s : State), ∃ (e : Nat), ∃ (f : Nat), s.canon ∧ s.tables ∧ s.fetched e 0x3F f) :=
    ⟨WE3.pick 336, 5, 0, (And.imp canon_of (And.imp tables_of fetched_of)) (by decide +kernel)⟩

theorem test_witness_FirstFailingCheckAnswers_0 :
    (∃ (s : State), ∃ (i : Instr), ∃ e, ebryn s i = some e ∧ (e.h.port = 18 ∧ 0 < s.inProgress e.h)) ∧
    (∃ (s : State), ∃ (i : Instr), ∃ e, ebryn s i = some e ∧ (¬(e.h.port = 18 ∧ 0 < s.inProgress e.h)) ∧ s.noRoom e.h = true) ∧
    (∃ (s : State), ∃ (i : Instr), ∃ e, ebryn s i = some e ∧ s.hasRoom e.h ∧ (58 < e.h.len ∨ e.h.len < e.args.length)) ∧
    (∃ (s : State), ∃ (i : Instr), ∃ e, ebryn s i = some e ∧ s.hasRoom e.h ∧ (¬(58 < e.h.len ∨ e.h.len < e.args.length)) ∧ (s.permitted e.h e.op = false ∨ e.deny = true)) ∧
    (∃ (s : State), ∃ (i : Instr), ∃ e, ebryn s i = some e ∧ s.hasRoom e.h ∧ (¬(58 < e.h.len ∨ e.h.len < e.args.length)) ∧ s.permitted e.h e.op = true ∧ e.deny = false ∧ s.serves e.svc = false) :=
    ⟨⟨WN1.pick 8, Instr.epochCommit { port := 18, node := 0, ep := 259, tag := 7, len := 58 }, exSome (by decide +kernel) ((by decide +kernel))⟩,
    ⟨WN1.pick 7, Instr.epochCommit { port := 0, node := 0, ep := 546, tag := 7, len := 58 }, exSome (by decide +kernel) ((by decide +kernel))⟩,
    ⟨WN1.pick 0, Instr.epochCommit { port := 0, node := 0, ep := 546, tag := 7, len := 59 }, exSome (by decide +kernel) ((And.imp hasRoom_of id) (by decide +kernel))⟩,
    ⟨WN1.pick 0, Instr.epochCommit { port := 18, node := 0, ep := 259, tag := 7, len := 58 }, exSome (by decide +kernel) ((And.imp hasRoom_of id) (by decide +kernel))⟩,
    ⟨WN1.pick 1, Instr.epochCommit { port := 0, node := 0, ep := 546, tag := 7, len := 58 }, exSome (by decide +kernel) ((And.imp hasRoom_of id) (by decide +kernel))⟩⟩

theorem test_witness_EnteringACommand_0 :
    (∃ (s : State), s.canon) ∧
    (∃ (s : State), ∃ r, s.canon ∧ r ∉ [Reg.MB_CMD_COUNT, .RP_STATUS, .RP_DROP, .RP_HAZARD, .RP_FIRST_LO, .RP_FIRST_HI]) :=
    ⟨⟨WN1.pick 0, canon_of (by decide +kernel)⟩,
    ⟨WN1.pick 0, Reg.DP_CFG, (And.imp canon_of id) (by decide +kernel)⟩⟩

theorem test_witness_ResponseLeavesItsPort_0 :
    (∃ (s : State), ∃ (port : Nat), ∃ (node : Nat), ∃ (ep : Nat), ∃ (tag : Nat), ∃ (status : Nat), ∃ (data : List Byte), ∃ p, s.inprogOf (((port, node, ep, tag) : CmdRef)) = some p ∧ p.injected = false ∧ data.length ≤ 60 ∧ status < 256 ∧ tag < 65536) ∧
    (∃ (s : State), ∃ (port : Nat), ∃ (node : Nat), ∃ (ep : Nat), ∃ (tag : Nat), ∃ (status : Nat), ∃ (data : List Byte), ∃ p, s.inprogOf (((port, node, ep, tag) : CmdRef)) = some p ∧ p.injected = false ∧ data.length ≤ 60 ∧ status < 256 ∧ tag < 65536 ∧ port = 0 ∧ mwf (fun _ => []) s.mail.rsp = true) ∧
    (∃ (s : State), ∃ (port : Nat), ∃ (node : Nat), ∃ (ep : Nat), ∃ (tag : Nat), ∃ (status : Nat), ∃ (data : List Byte), ∃ p, s.inprogOf (((port, node, ep, tag) : CmdRef)) = some p ∧ p.injected = false ∧ data.length ≤ 60 ∧ status < 256 ∧ tag < 65536 ∧ 1 ≤ port ∧ port ≤ 16 ∧ s.sideRuns = true) ∧
    (∃ (s : State), ∃ (port : Nat), ∃ (node : Nat), ∃ (ep : Nat), ∃ (tag : Nat), ∃ (status : Nat), ∃ (data : List Byte), ∃ p, s.inprogOf (((port, node, ep, tag) : CmdRef)) = some p ∧ p.injected = false ∧ data.length ≤ 60 ∧ status < 256 ∧ tag < 65536 ∧ 1 ≤ port ∧ port ≤ 16 ∧ s.sideRuns = false ∧ mwf (fun _ => []) s.mail.rsp = true) ∧
    (∃ (s : State), ∃ (port : Nat), ∃ (node : Nat), ∃ (ep : Nat), ∃ (tag : Nat), ∃ (status : Nat), ∃ (data : List Byte), ∃ p, s.inprogOf (((port, node, ep, tag) : CmdRef)) = some p ∧ p.injected = false ∧ data.length ≤ 60 ∧ status < 256 ∧ tag < 65536 ∧ port = 17) ∧
    (∃ (s : State), ∃ (port : Nat), ∃ (node : Nat), ∃ (ep : Nat), ∃ (tag : Nat), ∃ (status : Nat), ∃ (data : List Byte), ∃ p, s.inprogOf (((port, node, ep, tag) : CmdRef)) = some p ∧ p.injected = false ∧ data.length ≤ 60 ∧ status < 256 ∧ tag < 65536 ∧ 32 ≤ port ∧ mwf (fun _ => ({} : Link)) s.links = true) :=
    ⟨⟨WN1.pick 2, 0, 0, 546, 7, 0, [0x1#8, 0x2#8, 0x3#8], exSome (by decide +kernel) ((by decide +kernel))⟩,
    ⟨WN1.pick 2, 0, 0, 546, 7, 0, [0x1#8, 0x2#8, 0x3#8], exSome (by decide +kernel) ((by decide +kernel))⟩,
    ⟨WN1.pick 4, 3, 0, 546, 7, 0, [0x1#8, 0x2#8, 0x3#8], exSome (by decide +kernel) ((by decide +kernel))⟩,
    ⟨WN1.pick 5, 3, 0, 546, 7, 0, [0x1#8, 0x2#8, 0x3#8], exSome (by decide +kernel) ((by decide +kernel))⟩,
    ⟨WN1.pick 3, 17, 0, 546, 7, 0, [0x1#8, 0x2#8, 0x3#8], exSome (by decide +kernel) ((by decide +kernel))⟩,
    ⟨WN1.pick 6, 35, 0, 546, 7, 0, [0x1#8, 0x2#8, 0x3#8], exSome (by decide +kernel) ((by decide +kernel))⟩⟩

theorem test_witness_StatusCommandsAnswer_0 :
    (∃ (s : State), ∃ (h : CmdHdr), ∃ (e : Ebryn), s.accepts e ∧ ebryn s (.deviceInfo h) = some e) ∧
    (∃ (s : State), ∃ (h : CmdHdr), ∃ (e : Ebryn), s.accepts e ∧ ebryn s (.nop h) = some e) ∧
    (∃ (s : State), ∃ (h : CmdHdr), ∃ (e : Ebryn), s.accepts e ∧ ebryn s (.clockStatus h) = some e) ∧
    (∃ (s : State), ∃ (h : CmdHdr), ∃ (e : Ebryn), ∃ (bank : Nat), s.accepts e ∧ bank < 512 ∧ ebryn s (.bankStatus h bank) = some e) ∧
    (∃ (s : State), ∃ (h : CmdHdr), ∃ (e : Ebryn), ∃ (room : Nat), s.accepts e ∧ room < 128 ∧ ebryn s (.roomStatus h room) = some e) ∧
    (∃ (s : State), ∃ (h : CmdHdr), ∃ (e : Ebryn), s.accepts e ∧ ebryn s (.schedStatus h) = some e) ∧
    (∃ (s : State), ∃ (h : CmdHdr), ∃ (e : Ebryn), ∃ (engine : Nat), s.accepts e ∧ engine < 256 ∧ (s.entered e).engState engine ≠ 6 ∧ ebryn s (.dspStatus h engine) = some e) :=
    ⟨⟨WN1.pick 0, { port := 0, node := 0, ep := 546, tag := 7, len := 58 }, (⟨{ port := 0, node := 0, ep := 546, tag := 7, len := 58 }, 257, Svc.b, [], false⟩ : Ebryn), (And.imp accepts_of (fun (_ : True) => rfl)) (by decide +kernel)⟩,
    ⟨WN1.pick 0, { port := 0, node := 0, ep := 546, tag := 7, len := 58 }, (⟨{ port := 0, node := 0, ep := 546, tag := 7, len := 58 }, 265, Svc.b, [], false⟩ : Ebryn), (And.imp accepts_of (fun (_ : True) => rfl)) (by decide +kernel)⟩,
    ⟨WN1.pick 0, { port := 0, node := 0, ep := 546, tag := 7, len := 58 }, (⟨{ port := 0, node := 0, ep := 546, tag := 7, len := 58 }, 272, Svc.i, [], false⟩ : Ebryn), (And.imp accepts_of (fun (_ : True) => rfl)) (by decide +kernel)⟩,
    ⟨WN1.pick 0, { port := 0, node := 0, ep := 546, tag := 7, len := 58 }, (⟨{ port := 0, node := 0, ep := 546, tag := 7, len := 58 }, 774, Svc.s, [0xff#8, 0x1#8], false⟩ : Ebryn), 511, (And.imp accepts_of (And.imp id (fun (_ : True) => rfl))) (by decide +kernel)⟩,
    ⟨WN1.pick 0, { port := 0, node := 0, ep := 546, tag := 7, len := 58 }, (⟨{ port := 0, node := 0, ep := 546, tag := 7, len := 58 }, 1028, Svc.s, [0x3#8], false⟩ : Ebryn), 3, (And.imp accepts_of (And.imp id (fun (_ : True) => rfl))) (by decide +kernel)⟩,
    ⟨WN1.pick 0, { port := 0, node := 0, ep := 546, tag := 7, len := 58 }, (⟨{ port := 0, node := 0, ep := 546, tag := 7, len := 58 }, 1281, Svc.s, [], false⟩ : Ebryn), (And.imp accepts_of (fun (_ : True) => rfl)) (by decide +kernel)⟩,
    ⟨WN1.pick 0, { port := 0, node := 0, ep := 546, tag := 7, len := 58 }, (⟨{ port := 0, node := 0, ep := 546, tag := 7, len := 58 }, 1537, Svc.s, [0x7#8, 0x0#8], false⟩ : Ebryn), 7, (And.imp accepts_of (And.imp id (And.imp id (fun (_ : True) => rfl)))) (by decide +kernel)⟩⟩

theorem test_witness_UnitStatusCommandsAnswer_0 :
    (∃ (s : State), ∃ (h : CmdHdr), ∃ (e : Ebryn), ∃ (port : Nat), s.accepts e ∧ port < 16 ∧ ebryn s (.dpStatus h port) = some e) ∧
    (∃ (s : State), ∃ (h : CmdHdr), ∃ (e : Ebryn), ∃ (g : Nat), s.accepts e ∧ g < 16 ∧ ebryn s (.slStatus h g) = some e) ∧
    (∃ (s : State), ∃ (h : CmdHdr), ∃ (e : Ebryn), ∃ (first : Nat), s.accepts e ∧ first < 32 ∧ ebryn s (.crStatus h first) = some e) ∧
    (∃ (s : State), ∃ (h : CmdHdr), ∃ (e : Ebryn), s.accepts e ∧ ebryn s (.powerStatus h) = some e) ∧
    (∃ (s : State), ∃ (h : CmdHdr), ∃ (e : Ebryn), ∃ (first : Nat), s.accepts e ∧ first < 52 ∧ ebryn s (.thermalStatus h first) = some e) ∧
    (∃ (s : State), ∃ (h : CmdHdr), ∃ (e : Ebryn), s.accepts e ∧ ebryn s (.ageReport h) = some e) ∧
    (∃ (s : State), ∃ (h : CmdHdr), ∃ (e : Ebryn), s.accepts e ∧ ebryn s (.lcStatus h) = some e) ∧
    (∃ (s : State), ∃ (h : CmdHdr), ∃ (e : Ebryn), s.accepts e ∧ ebryn s (.rpStatus h) = some e) :=
    ⟨⟨WN1.pick 0, { port := 0, node := 0, ep := 546, tag := 7, len := 58 }, (⟨{ port := 0, node := 0, ep := 546, tag := 7, len := 58 }, 1793, Svc.s, [0x7#8], false⟩ : Ebryn), 7, (And.imp accepts_of (And.imp id (fun (_ : True) => rfl))) (by decide +kernel)⟩,
    ⟨WN1.pick 0, { port := 0, node := 0, ep := 546, tag := 7, len := 58 }, (⟨{ port := 0, node := 0, ep := 546, tag := 7, len := 58 }, 2049, Svc.s, [0x7#8], false⟩ : Ebryn), 7, (And.imp accepts_of (And.imp id (fun (_ : True) => rfl))) (by decide +kernel)⟩,
    ⟨WN1.pick 0, { port := 0, node := 0, ep := 546, tag := 7, len := 58 }, (⟨{ port := 0, node := 0, ep := 546, tag := 7, len := 58 }, 2305, Svc.s, [0x3#8], false⟩ : Ebryn), 3, (And.imp accepts_of (And.imp id (fun (_ : True) => rfl))) (by decide +kernel)⟩,
    ⟨WN1.pick 0, { port := 0, node := 0, ep := 546, tag := 7, len := 58 }, (⟨{ port := 0, node := 0, ep := 546, tag := 7, len := 58 }, 2561, Svc.i, [], false⟩ : Ebryn), (And.imp accepts_of (fun (_ : True) => rfl)) (by decide +kernel)⟩,
    ⟨WN1.pick 0, { port := 0, node := 0, ep := 546, tag := 7, len := 58 }, (⟨{ port := 0, node := 0, ep := 546, tag := 7, len := 58 }, 2562, Svc.i, [0x3#8], false⟩ : Ebryn), 3, (And.imp accepts_of (And.imp id (fun (_ : True) => rfl))) (by decide +kernel)⟩,
    ⟨WN1.pick 0, { port := 0, node := 0, ep := 546, tag := 7, len := 58 }, (⟨{ port := 0, node := 0, ep := 546, tag := 7, len := 58 }, 2563, Svc.i, [], false⟩ : Ebryn), (And.imp accepts_of (fun (_ : True) => rfl)) (by decide +kernel)⟩,
    ⟨WN1.pick 0, { port := 0, node := 0, ep := 546, tag := 7, len := 58 }, (⟨{ port := 0, node := 0, ep := 546, tag := 7, len := 58 }, 3073, Svc.i, [], false⟩ : Ebryn), (And.imp accepts_of (fun (_ : True) => rfl)) (by decide +kernel)⟩,
    ⟨WN1.pick 0, { port := 0, node := 0, ep := 546, tag := 7, len := 58 }, (⟨{ port := 0, node := 0, ep := 546, tag := 7, len := 58 }, 3329, Svc.s, [], false⟩ : Ebryn), (And.imp accepts_of (fun (_ : True) => rfl)) (by decide +kernel)⟩⟩

theorem test_witness_UnitStatusCommandsAnswer_1 :
    (∃ (s : State), ∃ (h : CmdHdr), ∃ (e : Ebryn), s.accepts e ∧ ebryn s (.storeStatus h) = some e) ∧
    (∃ (s : State), ∃ (h : CmdHdr), ∃ (e : Ebryn), s.accepts e ∧ ebryn s (.profileList h) = some e) :=
    ⟨⟨WN1.pick 0, { port := 0, node := 0, ep := 546, tag := 7, len := 58 }, (⟨{ port := 0, node := 0, ep := 546, tag := 7, len := 58 }, 3585, Svc.b, [], false⟩ : Ebryn), (And.imp accepts_of (fun (_ : True) => rfl)) (by decide +kernel)⟩,
    ⟨WN1.pick 0, { port := 0, node := 0, ep := 546, tag := 7, len := 58 }, (⟨{ port := 0, node := 0, ep := 546, tag := 7, len := 58 }, 3586, Svc.i, [], false⟩ : Ebryn), (And.imp accepts_of (fun (_ : True) => rfl)) (by decide +kernel)⟩⟩

theorem test_witness_RecordsAreHandedOver_0 :
    (∃ (s : State), ∃ (h : CmdHdr), ∃ (e : Ebryn), s.canon ∧ s.accepts e ∧ ebryn s (.eventRead h) = some e) ∧
    (∃ (s : State), ∃ (h : CmdHdr), ∃ (e : Ebryn), s.canon ∧ s.accepts e ∧ ebryn s (.ecLogRead h) = some e) ∧
    (∃ (s : State), ∃ (h : CmdHdr), ∃ (e : Ebryn), s.canon ∧ s.accepts e ∧ ebryn s (.selftestResult h) = some e) ∧
    (∃ (s : State), ∃ (h : CmdHdr), ∃ (e : Ebryn), ∃ (mask : Nat), s.canon ∧ s.accepts e ∧ h.port ≤ 16 ∧ ebryn s (.eventCfg h mask) = some e) :=
    ⟨⟨WN1.pick 0, { port := 0, node := 0, ep := 546, tag := 7, len := 58 }, (⟨{ port := 0, node := 0, ep := 546, tag := 7, len := 58 }, 263, Svc.i, [], false⟩ : Ebryn), (And.imp canon_of (And.imp accepts_of (fun (_ : True) => rfl))) (by decide +kernel)⟩,
    ⟨WN1.pick 0, { port := 0, node := 0, ep := 546, tag := 7, len := 58 }, (⟨{ port := 0, node := 0, ep := 546, tag := 7, len := 58 }, 2833, Svc.s, [], false⟩ : Ebryn), (And.imp canon_of (And.imp accepts_of (fun (_ : True) => rfl))) (by decide +kernel)⟩,
    ⟨WN1.pick 0, { port := 0, node := 0, ep := 546, tag := 7, len := 58 }, (⟨{ port := 0, node := 0, ep := 546, tag := 7, len := 58 }, 2822, Svc.s, [], false⟩ : Ebryn), (And.imp canon_of (And.imp accepts_of (fun (_ : True) => rfl))) (by decide +kernel)⟩,
    ⟨WN1.pick 0, { port := 0, node := 0, ep := 546, tag := 7, len := 58 }, (⟨{ port := 0, node := 0, ep := 546, tag := 7, len := 58 }, 264, Svc.i, [0x7#8, 0x0#8, 0x0#8, 0x0#8], false⟩ : Ebryn), 7, (And.imp canon_of (And.imp accepts_of (And.imp id (fun (_ : True) => rfl)))) (by decide +kernel)⟩⟩

theorem test_witness_HandoverChangesTheOwner_0 :
    (∃ (s : State), ∃ (b : Nat), ∃ (value : Nat), s.canon ∧ b < 512 ∧ s.ownerStatus b value = 0 ∧ (({ kind := bits value 15 12, id := bits value 11 0 } : Owner)) ≠ s.owner b) ∧
    (∃ (s : State), ∃ (b : Nat), ∃ (value : Nat), s.canon ∧ b < 512 ∧ s.ownerStatus b value = 0 ∧ (({ kind := bits value 15 12, id := bits value 11 0 } : Owner)) = s.owner b) ∧
    (∃ (s : State), ∃ (b : Nat), ∃ (value : Nat), s.canon ∧ b < 512 ∧ s.ownerStatus b value ≠ 0) ∧
    (∃ (s : State), ∃ (b : Nat), s.canon ∧ b < 512 ∧ s.safe = false ∧ s.resuming = false ∧ ((s.bank b).op = .handoverReady ∨ ((s.bank b).op = .handoverDrain ∧ s.drained b = true ∧ s.f Fld.LB_CTRL_WIPE_ON_HANDOVER b = 0))) :=
    ⟨⟨WR3.pick 0, 0, 0, (And.imp canon_of id) (by decide +kernel)⟩,
    ⟨WR3.pick 1, 5, 0, (And.imp canon_of id) (by decide +kernel)⟩,
    ⟨WR3.pick 0, 0, 546, (And.imp canon_of id) (by decide +kernel)⟩,
    ⟨WR3.pick 10, 5, (And.imp canon_of id) (by decide +kernel)⟩⟩

theorem test_witness_GuestsRetentionAndWakes_0 :
    (∃ (s : State), ∃ (b : Nat), ∃ (value : Nat), s.canon ∧ b < 512 ∧ s.guestStatus b value = 0) ∧
    (∃ (s : State), ∃ (b : Nat), ∃ (value : Nat), s.canon ∧ b < 512 ∧ s.guestStatus b value ≠ 0) ∧
    (∃ (s : State), ∃ (b : Nat), s.canon ∧ b < 512 ∧ (s.owner b).kind ≠ 2 ∧ (s.owner b).kind ≠ 3 ∧ s.fallowBank b = false ∧ s.f Fld.LB_PWR_PSTATE b = 0) ∧
    (∃ (s : State), ∃ (b : Nat), s.canon ∧ b < 512 ∧ s.f Fld.LB_PWR_PSTATE b = 1) ∧
    (∃ (s : State), ∃ (b : Nat), s.canon ∧ b < 512 ∧ s.retained b = true ∧ s.f Fld.LB_PWR_CAUSE b = 1) ∧
    (∃ (s : State), ∃ (b : Nat), s.canon ∧ b < 512 ∧ (s.bank b).wakeWait = true ∧ s.f Fld.LB_PWR_PSTATE b = 2 ∧ (banks512.filter fun k => s.f Fld.LB_PWR_PSTATE k = 3).length < 32 ∧ ((∀ k, k < b → ¬((s.bank k).wakeWait = true ∧ s.f Fld.LB_PWR_PSTATE k = 2)))) ∧
    (∃ (s : State), ∃ (b : Nat), s.canon ∧ b < 512 ∧ s.f Fld.LB_PWR_PSTATE b = 3 ∧ s.boot.frPhase ≠ 5 ∧ s.boot.frPhase ≠ 6) :=
    ⟨⟨WR3.pick 0, 0, 0, (And.imp canon_of id) (by decide +kernel)⟩,
    ⟨WR3.pick 0, 0, 2147487749, (And.imp canon_of id) (by decide +kernel)⟩,
    ⟨WR3.pick 0, 0, (And.imp canon_of id) (by decide +kernel)⟩,
    ⟨WR3.pick 90, 5, (And.imp canon_of id) (by decide +kernel)⟩,
    ⟨WR3.pick 2, 5, (And.imp canon_of id) (by decide +kernel)⟩,
    ⟨WR3.pick 11, 5, (And.imp canon_of id) (by decide +kernel)⟩,
    ⟨WR3.pick 120, 5, (And.imp canon_of id) (by decide +kernel)⟩⟩

theorem test_witness_WipesClearTheBank_0 :
    (∃ (s : State), ∃ (b : Nat), s.canon ∧ b < 512 ∧ s.fallowBank b = false ∧ s.f Fld.LB_PWR_PSTATE b = 0 ∧ s.handover b = false ∧ (s.bank b).op = .none ∧ s.f Fld.LB_STATUS_WIPE_BUSY b = 0 ∧ (s.bank b).q = [] ∧ ((∀ p, p < 4 → (s.plane (bankStair b) p).rowQ = [])) ∧ s.sliceOn b = false) ∧
    (∃ (s : State), ∃ (b : Nat), s.canon ∧ b < 512 ∧ s.f Fld.LB_STATUS_WIPE_BUSY b = 1 ∧ (s.bank b).op = .wipe ∧ (s.bank b).cmd = []) ∧
    (∃ (s : State), ∃ (b : Nat), s.canon ∧ b < 512 ∧ s.boot.step = 8 ∧ s.boot.stopped = false ∧ s.safe = false ∧ s.shutdown = false ∧ s.boot.wipePos < 4) :=
    ⟨⟨WR3.pick 0, 0, (And.imp canon_of id) (by decide +kernel)⟩,
    ⟨WR3.pick 12, 5, (And.imp canon_of id) (by decide +kernel)⟩,
    ⟨WR3.pick 13, 0, (And.imp canon_of id) (by decide +kernel)⟩⟩

theorem test_witness_SwitchesMakeThePlaneActive_0 :
    (∃ (s : State), ∃ (n : Nat), ∃ (p : Nat), ∃ (t : Nat), s.canon ∧ n < 128 ∧ t < 4 ∧ p < 4 ∧ s.roomState n = 0 ∧ s.active n = some p ∧ p ≠ t ∧ (s.room n).ld = none ∧ (s.room n).cmdSwitch = none ∧ (s.room n).cyc = none ∧ s.planeState n t = 2 ∧ s.storePoisoned n t = false ∧ (s.room n).sw = none) ∧
    (∃ (s : State), ∃ (n : Nat), ∃ (p : Nat), ∃ (t : Nat), ∃ (h : CmdHdr), s.canon ∧ n < 128 ∧ t < 4 ∧ p < 4 ∧ s.roomState n = 0 ∧ s.active n = some p ∧ p ≠ t ∧ (s.room n).ld = none ∧ (s.room n).cmdSwitch = none ∧ (s.room n).cyc = none ∧ s.planeState n t = 2 ∧ s.storePoisoned n t = false ∧ (s.room n).sw = none ∧ s.accepts ⟨h, 0x0403, .r, argBytes [(6, 1, n), (7, 1, t)], false⟩) ∧
    (∃ (s : State), ∃ (n : Nat), ∃ (p : Nat), ∃ (t : Nat), s.canon ∧ n < 128 ∧ t < 4 ∧ p < 4 ∧ s.roomState n = 0 ∧ s.active n = some p ∧ p ≠ t ∧ (s.room n).ld = none ∧ (s.room n).cmdSwitch = none ∧ (s.room n).cyc = none ∧ ∃ src, (s.room n).sw = some (t, src) ∧ s.planeState n t = 2 ∧ s.storePoisoned n t = false) ∧
    (∃ (s : State), ∃ (n : Nat), ∃ (p : Nat), ∃ (t : Nat), s.canon ∧ n < 128 ∧ t < 4 ∧ p < 4 ∧ s.roomState n = 0 ∧ s.active n = some p ∧ p ≠ t ∧ (s.room n).ld = none ∧ (s.room n).cmdSwitch = none ∧ (s.room n).cyc = none ∧ s.f Fld.RM_PLANE_PEND_VALID n = 1 ∧ s.f Fld.RM_PLANE_PENDING n = t ∧ s.planeState n t = 2 ∧ s.storePoisoned n t = false) ∧
    (∃ (s : State), ∃ (n : Nat), ∃ (p : Nat), ∃ (t : Nat), s.canon ∧ n < 128 ∧ t < 4 ∧ p < 4 ∧ s.roomState n = 0 ∧ s.active n = some p ∧ p ≠ t ∧ (s.room n).ld = none ∧ (s.room n).cmdSwitch = none ∧ (s.room n).cyc = none ∧ s.planeState n t = 1) ∧
    (∃ (s : State), ∃ (n : Nat), ∃ (p : Nat), ∃ (t : Nat), s.canon ∧ n < 128 ∧ t < 4 ∧ p < 4 ∧ s.roomState n = 0 ∧ s.active n = some p ∧ p ≠ t ∧ (s.room n).ld = none ∧ (s.room n).cmdSwitch = none ∧ (s.room n).cyc = none ∧ s.planeState n t = 0) :=
    ⟨⟨WR.pick 0, 5, 1, 2, (And.imp canon_of id) (by decide +kernel)⟩,
    ⟨WR.pick 0, 5, 1, 2, { port := 0, node := 0, ep := 546, tag := 7, len := 58 }, (And.imp canon_of (And.imp id (And.imp id (And.imp id (And.imp id (And.imp id (And.imp id (And.imp id (And.imp id (And.imp id (And.imp id (And.imp id (And.imp id accepts_of))))))))))))) (by decide +kernel)⟩,
    ⟨WR.pick 1, 5, 1, 2, And.imp canon_of (keep (keep (keep (keep (keep (keep (keep (keep (⟨·, exKey (by decide +kernel) (by decide +kernel) ((by decide +kernel))⟩))))))))) (by decide +kernel)⟩,
    ⟨WR.pick 3, 5, 1, 2, (And.imp canon_of id) (by decide +kernel)⟩,
    ⟨WR.pick 4, 5, 1, 3, (And.imp canon_of id) (by decide +kernel)⟩,
    ⟨WR.pick 0, 5, 1, 0, (And.imp canon_of id) (by decide +kernel)⟩⟩

theorem test_witness_EdgesParkAndDrive_0 :
    (∃ (s : State), ∃ (n : Nat), ∃ (h : CmdHdr), s.canon ∧ n < 128 ∧ s.accepts ⟨h, 0x0405, .r, argBytes [(6, 1, n)], false⟩ ∧ s.roomState n = 0) ∧
    (∃ (s : State), ∃ (n : Nat), ∃ (h : CmdHdr), s.canon ∧ n < 128 ∧ s.accepts ⟨h, 0x0406, .r, argBytes [(6, 1, n)], false⟩ ∧ s.roomState n = 1 ∧ s.f Fld.RM_STATUS_PARK_SHED n = 0) ∧
    (∃ (s : State), ∃ (n : Nat), ∃ cmd, ∃ rest, s.canon ∧ n < 128 ∧ s.roomState n = 0 ∧ (s.room n).parks = (true, cmd) :: rest ∧ (s.room n).toRun = false) ∧
    (∃ (s : State), ∃ (n : Nat), ∃ cmd, ∃ rest, s.canon ∧ n < 128 ∧ s.roomState n = 1 ∧ (s.room n).parks = (false, cmd) :: rest ∧ s.f Fld.RM_STATUS_PARK_SHED n = 0 ∧ (s.room n).toStop = 0) ∧
    (∃ (s : State), ∃ (n : Nat), ∃ (p : Nat), s.canon ∧ n < 128 ∧ s.roomState n = 0 ∧ s.active n = some p ∧ (s.room n).sw = none ∧ s.f Fld.RM_PLANE_PEND_VALID n = 0 ∧ (s.room ((n + 64) % 128)).vtMask = 0 ∧ (s.stair (n % 64)).win = none ∧ (s.stair (n % 64 + 64)).win = none ∧ (s.stair (n % 64)).dead = [] ∧ (s.stair (n % 64 + 64)).dead = []) :=
    ⟨⟨WR.pick 0, 5, { port := 0, node := 0, ep := 546, tag := 7, len := 58 }, (And.imp canon_of (And.imp id (And.imp accepts_of id))) (by decide +kernel)⟩,
    ⟨WR.pick 6, 5, { port := 0, node := 0, ep := 546, tag := 7, len := 58 }, (And.imp canon_of (And.imp id (And.imp accepts_of id))) (by decide +kernel)⟩,
    ⟨WR.pick 2, 5, none, [(false, some (0, 0, 0, 1))], (And.imp canon_of id) (by decide +kernel)⟩,
    ⟨WR.pick 6, 5, some (17, 0, 0, 1), [], (And.imp canon_of id) (by decide +kernel)⟩,
    ⟨WR.pick 0, 5, 1, (And.imp canon_of id) (by decide +kernel)⟩⟩

theorem test_witness_RowMovesReachTheBank_0 :
    (∃ (s : State), ∃ (n : Nat), ∃ (p : Nat), ∃ (loft : Nat), ∃ (write : Bool), s.canon ∧ s.tables ∧ n < 128 ∧ s.roomState n = 0 ∧ s.active n = some p ∧ loft < 4 ∧ (s.plane n p).rowQ.length < 8 ∧ ((write = true → ((s.plane n p).rowQ.filter fun r => r.write).length + (s.plane n p).rowDone.length < 8)) ∧ ((write = false → ((s.plane n p).rowQ.filter fun r => !r.write).length + (s.plane n p).rowRet.length < 4))) ∧
    (∃ (s : State), ∃ (n : Nat), ∃ (p : Nat), s.canon ∧ s.tables ∧ n < 128 ∧ s.roomState n = 0 ∧ s.active n = some p ∧ ∃ r, ∃ rest, (s.plane n p).rowQ = r :: rest ∧ r.row < 8192 ∧ (s.room n).ld = none ∧ s.paused n = false ∧ s.resuming = false ∧ ((∀ q, q < 4 → q ≠ p → (s.plane n q).rowQ = [])) ∧ s.rowPick n = some (p, r) ∧ s.stairFailed n = false ∧ p < 4 ∧ r.permitted = true ∧ s.fallowBank r.bank = false ∧ s.retentionHold r.bank = none ∧ r.bank < 512 ∧ r.bank % 128 = n ∧ (s.stair n).slice = none ∧ r.write = true ∧ r.poison = 0 ∧ r.data.length = 1024) ∧
    (∃ (s : State), ∃ (n : Nat), ∃ (p : Nat), s.canon ∧ s.tables ∧ n < 128 ∧ s.roomState n = 0 ∧ s.active n = some p ∧ ∃ r, ∃ rest, (s.plane n p).rowQ = r :: rest ∧ r.row < 8192 ∧ (s.room n).ld = none ∧ s.paused n = false ∧ s.resuming = false ∧ ((∀ q, q < 4 → q ≠ p → (s.plane n q).rowQ = [])) ∧ s.rowPick n = some (p, r) ∧ s.stairFailed n = false ∧ p < 4 ∧ r.permitted = true ∧ s.fallowBank r.bank = false ∧ s.retentionHold r.bank = none ∧ r.bank < 512 ∧ r.bank % 128 = n ∧ (s.stair n).slice = none ∧ r.write = false) ∧
    (∃ (s : State), ∃ (n : Nat), ∃ (p : Nat), s.canon ∧ s.tables ∧ n < 128 ∧ s.roomState n = 0 ∧ s.active n = some p ∧ ∃ r, ∃ rest, (s.plane n p).rowQ = r :: rest ∧ r.row < 8192 ∧ (s.room n).ld = none ∧ s.paused n = false ∧ s.resuming = false ∧ ((∀ q, q < 4 → q ≠ p → (s.plane n q).rowQ = [])) ∧ s.rowPick n = some (p, r) ∧ s.stairFailed n = false ∧ p < 4 ∧ r.permitted = false) :=
    ⟨⟨WR1.pick 0, 5, 1, 0, true, (And.imp canon_of (And.imp tables_of id)) (by decide +kernel)⟩,
    ⟨WR1.pick 1, 5, 1, And.imp canon_of (And.imp tables_of (keep (keep (⟨·, exCons (by decide +kernel) ((by decide +kernel))⟩)))) (by decide +kernel)⟩,
    ⟨WR1.pick 2, 5, 1, And.imp canon_of (And.imp tables_of (keep (keep (⟨·, exCons (by decide +kernel) ((by decide +kernel))⟩)))) (by decide +kernel)⟩,
    ⟨WR1.pick 4, 5, 1, And.imp canon_of (And.imp tables_of (keep (keep (⟨·, exCons (by decide +kernel) ((by decide +kernel))⟩)))) (by decide +kernel)⟩⟩

theorem test_witness_ServiceLaneAccesses_0 :
    (∃ (s : State), ∃ (n : Nat), s.canon ∧ s.tables ∧ n < 128 ∧ ∃ p, ∃ s', s.take (128 + n) 0 = some (p, s') ∧ addrForm p.type = true ∧ p.addr / 0x800000 < 512 ∧ p.addr / 0x800000 % 128 = n ∧ s.laneOk (s.agentOf p) (p.addr / 0x800000) = true ∧ s.stairFailed n = false ∧ s.f Fld.LB_PWR_PSTATE (p.addr / 0x800000) = 0 ∧ (s.bank (p.addr / 0x800000)).q.length + (wordsOf p.addr p.len).length ≤ 16) ∧
    (∃ (s : State), ∃ (n : Nat), s.canon ∧ s.tables ∧ n < 128 ∧ ∃ p, ∃ s', s.take (128 + n) 0 = some (p, s') ∧ addrForm p.type = true ∧ p.addr / 0x800000 < 512 ∧ p.addr / 0x800000 % 128 = n ∧ s.laneOk (s.agentOf p) (p.addr / 0x800000) = false) ∧
    (∃ (s : State), ∃ (n : Nat), s.canon ∧ s.tables ∧ n < 128 ∧ ∃ acc, ∃ rest, s.nextAcc (128 * (s.stair n).turn + n) = some (acc, rest) ∧ ∃ r, mget (fun _ => none) s.svc acc.req = some r ∧ (s.stair n).turn < 4 ∧ s.paused n = false ∧ s.stairFailed n = false ∧ s.laneLoses n (128 * (s.stair n).turn + n) false = false ∧ (s.stair n).slice = none ∧ s.inCtm (128 * (s.stair n).turn + n) = false ∧ (s.bank (128 * (s.stair n).turn + n)).op = .none ∧ acc.addr % 32 = 0 ∧ acc.addr / 0x800000 = 128 * (s.stair n).turn + n ∧ ∃ d, acc.write = some (0, d) ∧ d.length = 32 ∧ acc.poison = false ∧ 1 < r.left) ∧
    (∃ (s : State), ∃ (n : Nat), s.canon ∧ s.tables ∧ n < 128 ∧ ∃ acc, ∃ rest, s.nextAcc (128 * (s.stair n).turn + n) = some (acc, rest) ∧ ∃ r, mget (fun _ => none) s.svc acc.req = some r ∧ (s.stair n).turn < 4 ∧ s.paused n = false ∧ s.stairFailed n = false ∧ s.laneLoses n (128 * (s.stair n).turn + n) false = false ∧ (s.stair n).slice = none ∧ s.inCtm (128 * (s.stair n).turn + n) = false ∧ (s.bank (128 * (s.stair n).turn + n)).op = .none ∧ acc.addr % 32 = 0 ∧ acc.addr / 0x800000 = 128 * (s.stair n).turn + n ∧ acc.write = none ∧ (s.decoded acc.addr).2 = false) :=
    ⟨⟨WR1.pick 6, 5, And.imp canon_of (And.imp tables_of (⟨·, exPair (by decide +kernel) ((by decide +kernel))⟩)) (by decide +kernel)⟩,
    ⟨WR1.pick 7, 5, And.imp canon_of (And.imp tables_of (⟨·, exPair (by decide +kernel) ((by decide +kernel))⟩)) (by decide +kernel)⟩,
    ⟨WR1.pick 11, 5, And.imp canon_of (And.imp tables_of (⟨·, exPair (by decide +kernel) (exSome (by decide +kernel) (keep (keep (keep (keep (keep (keep (keep (keep (⟨·, exKey (by decide +kernel) (by decide +kernel) ((by decide +kernel))⟩)))))))) (by decide +kernel)))⟩)) (by decide +kernel)⟩,
    ⟨WR1.pick 8, 5, And.imp canon_of (And.imp tables_of (⟨·, exPair (by decide +kernel) (exSome (by decide +kernel) ((by decide +kernel)))⟩)) (by decide +kernel)⟩⟩

theorem test_witness_RoomEndpointAndResponses_0 :
    (∃ (s : State), ∃ (n : Nat), s.canon ∧ s.tables ∧ n < 128 ∧ s.roomState n = 0 ∧ ∃ p, ∃ s', s.take n 0 = some (p, s') ∧ s.gateDraining 0 n = false ∧ s.rxWaits n p = false ∧ addrForm p.type = true ∧ p.addr % 0x100000 < 0x90000) ∧
    (∃ (s : State), ∃ (n : Nat), s.canon ∧ s.tables ∧ n < 128 ∧ s.roomState n = 0 ∧ ∃ p, ∃ s', s.take n 0 = some (p, s') ∧ s.gateDraining 0 n = false ∧ s.rxWaits n p = false ∧ p.type = 2 ∧ p.vc = 0 ∧ 2 ≤ s.planeState n (p.dstPlane % 4) ∧ (s.plane n (p.dstPlane % 4)).rxReq.length < 8) ∧
    (∃ (s : State), ∃ (n : Nat), s.canon ∧ s.tables ∧ n < 128 ∧ s.roomState n = 0 ∧ ∃ p, ∃ rest, (s.room n).ramQ = p :: rest ∧ ((∀ q, s.active n = some q → s.portConflict n q p = false)) ∧ p.type = 0) ∧
    (∃ (s : State), ∃ (n : Nat), s.canon ∧ s.tables ∧ n < 128 ∧ s.roomState n = 0 ∧ ∃ p, ∃ rest, (s.room n).ramQ = p :: rest ∧ ((∀ q, s.active n = some q → s.portConflict n q p = false)) ∧ p.type = 1 ∧ 2 ^ 32 ≤ p.addr ∧ p.addr % 32 = 0 ∧ p.payload.length = 32 ∧ p.poison = 0) ∧
    (∃ (s : State), ∃ (n : Nat), ∃ (k : Packet), s.canon ∧ s.tables ∧ n < 128 ∧ s.roomState n = 0 ∧ ∃ p, s.active n = some p ∧ ((mget (fun _ => []) s.net.send n).filter fun q => q.srcPlane == p && !q.own && q.type != 3 && q.type != 4).length < 2 ∧ isRequest k.type = false) ∧
    (∃ (s : State), ∃ (n : Nat), ∃ (k : Packet), s.canon ∧ s.tables ∧ n < 128 ∧ s.roomState n = 0 ∧ ∃ p, s.active n = some p ∧ ((mget (fun _ => []) s.net.send n).filter fun q => q.srcPlane == p && !q.own && q.type != 3 && q.type != 4).length < 2 ∧ isRequest k.type = true ∧ k.tag < 64 ∧ mget (fun _ => Slot.free) (s.plane n p).slots k.tag = .free ∧ s.outReq (outKey n p k.tag) = none) ∧
    (∃ (s : State), ∃ (n : Nat), s.canon ∧ s.tables ∧ n < 128 ∧ s.roomState n = 0 ∧ ∃ p, ∃ s', s.take n 1 = some (p, s') ∧ ∃ r, s.outReq (outKey n p.dstPlane p.tag) = some r ∧ r.expired = false ∧ p.dstPlane < 4 ∧ mget (fun _ => Slot.free) (s.plane n p.dstPlane).slots p.tag = .waiting false) :=
    ⟨⟨WR2.pick 2, 5, And.imp canon_of (And.imp tables_of (keep (⟨·, exPair (by decide +kernel) ((by decide +kernel))⟩))) (by decide +kernel)⟩,
    ⟨WR2.pick 3, 5, And.imp canon_of (And.imp tables_of (keep (⟨·, exPair (by decide +kernel) ((by decide +kernel))⟩))) (by decide +kernel)⟩,
    ⟨WR2.pick 5, 5, And.imp canon_of (And.imp tables_of (keep (⟨·, exCons (by decide +kernel) ((by decide +kernel))⟩))) (by decide +kernel)⟩,
    ⟨WR2.pick 4, 5, And.imp canon_of (And.imp tables_of (keep (⟨·, exCons (by decide +kernel) ((by decide +kernel))⟩))) (by decide +kernel)⟩,
    ⟨WR2.pick 0, 5, { type := 7, vc := 2, flits := 1, dest := 1374389534720, status := 0, pstored := false, poison := 0, len := 31, tag := 9, dstPlane := 1, srcPlane := 0, srcEp := 9, srcNode := 0, hops := 8, payload := ((List.range 32).map (BitVec.ofNat 8)), win := 0, entry := 0, exit := 0, base := 0, own := false, prot := none }, And.imp canon_of (And.imp tables_of (keep (⟨·, exSome (by decide +kernel) ((by decide +kernel))⟩))) (by decide +kernel)⟩,
    ⟨WR2.pick 0, 5, { type := 2, vc := 0, flits := 1, dest := 1374389534720, status := 0, pstored := false, poison := 0, len := 31, tag := 4, dstPlane := 2, srcPlane := 0, srcEp := 9, srcNode := 0, hops := 8, payload := ((List.range 32).map (BitVec.ofNat 8)), win := 0, entry := 0, exit := 0, base := 0, own := false, prot := none }, And.imp canon_of (And.imp tables_of (keep (⟨·, exSome (by decide +kernel) ((by decide +kernel))⟩))) (by decide +kernel)⟩,
    ⟨WR2.pick 6, 5, And.imp canon_of (And.imp tables_of (keep (⟨·, exPair (by decide +kernel) (exSome (by decide +kernel) ((by decide +kernel)))⟩))) (by decide +kernel)⟩⟩

theorem test_witness_LoadsAreAccepted_0 :
    (∃ (s : State), ∃ (n : Nat), ∃ (p : Nat), ∃ (value : Nat), s.canon ∧ s.tables ∧ n < 128 ∧ s.roomState n < 4 ∧ s.gateDraining 0 n = false ∧ (s.room n).ld = none ∧ p = bits value 27 26 ∧ s.active n ≠ some p ∧ bits value 12 0 ≤ 5480 ∧ s.fallowBank (128 * bits value 25 24 + n) = false ∧ loadOwner (s.owner (128 * bits value 25 24 + n)) n = true) ∧
    (∃ (s : State), ∃ (n : Nat), ∃ (p : Nat), ∃ (value : Nat), ∃ (h : CmdHdr), s.canon ∧ s.tables ∧ n < 128 ∧ s.roomState n < 4 ∧ s.gateDraining 0 n = false ∧ (s.room n).ld = none ∧ p = bits value 27 26 ∧ s.active n ≠ some p ∧ bits value 12 0 ≤ 5480 ∧ s.fallowBank (128 * bits value 25 24 + n) = false ∧ loadOwner (s.owner (128 * bits value 25 24 + n)) n = true ∧ s.accepts ⟨h, 0x0401, .r, argBytes [(6, 1, n), (8, 4, value)], false⟩ ∧ bits value 29 28 = 0) ∧
    (∃ (s : State), ∃ (n : Nat), ∃ (p : Nat), ∃ (value : Nat), s.canon ∧ s.tables ∧ n < 128 ∧ s.roomState n < 4 ∧ s.gateDraining 0 n = false ∧ (s.room n).ld = none ∧ p = bits value 27 26 ∧ s.active n ≠ some p ∧ s.planeState n p = 2 ∧ s.f Fld.RM_PSRC_VALID (4 * n + p) = 1 ∧ s.fallowBank (((128 * s.f Fld.RM_PSRC_LOFT (4 * n + p) + n, s.f Fld.RM_PSRC_ROW (4 * n + p)) : Nat × Nat)).1 = false ∧ loadOwner (s.owner (((128 * s.f Fld.RM_PSRC_LOFT (4 * n + p) + n, s.f Fld.RM_PSRC_ROW (4 * n + p)) : Nat × Nat)).1) n = true) ∧
    (∃ (s : State), ∃ (n : Nat), ∃ (p : Nat), ∃ (value : Nat), ∃ (h : CmdHdr), s.canon ∧ s.tables ∧ n < 128 ∧ s.roomState n < 4 ∧ s.gateDraining 0 n = false ∧ (s.room n).ld = none ∧ p = bits value 27 26 ∧ s.active n ≠ some p ∧ s.planeState n p = 2 ∧ s.f Fld.RM_PSRC_VALID (4 * n + p) = 1 ∧ s.fallowBank (((128 * s.f Fld.RM_PSRC_LOFT (4 * n + p) + n, s.f Fld.RM_PSRC_ROW (4 * n + p)) : Nat × Nat)).1 = false ∧ loadOwner (s.owner (((128 * s.f Fld.RM_PSRC_LOFT (4 * n + p) + n, s.f Fld.RM_PSRC_ROW (4 * n + p)) : Nat × Nat)).1) n = true ∧ s.accepts ⟨h, 0x0402, .r, argBytes [(6, 1, n), (7, 1, p)], false⟩) :=
    ⟨⟨WR2.pick 0, 5, 0, 0, (And.imp canon_of (And.imp tables_of id)) (by decide +kernel)⟩,
    ⟨WR2.pick 0, 5, 0, 0, { port := 0, node := 0, ep := 546, tag := 7, len := 58 }, (And.imp canon_of (And.imp tables_of (And.imp id (And.imp id (And.imp id (And.imp id (And.imp id (And.imp id (And.imp id (And.imp id (And.imp id (And.imp accepts_of id)))))))))))) (by decide +kernel)⟩,
    ⟨WR2.pick 1, 5, 2, 2281701667, (And.imp canon_of (And.imp tables_of id)) (by decide +kernel)⟩,
    ⟨WR2.pick 1, 5, 2, 2281701667, { port := 0, node := 0, ep := 546, tag := 7, len := 58 }, (And.imp canon_of (And.imp tables_of (And.imp id (And.imp id (And.imp id (And.imp id (And.imp id (And.imp id (And.imp id (And.imp id (And.imp id (And.imp id accepts_of)))))))))))) (by decide +kernel)⟩⟩

theorem test_witness_LoadsProceed_0 :
    (∃ (s : State), ∃ (n : Nat), s.canon ∧ s.tables ∧ n < 128 ∧ ∃ o, (s.room n).ld = some o ∧ o.plane < 4 ∧ o.phase = 1 ∧ s.targetIdle n o.plane = true ∧ o.op ≠ 2 ∧ o.saveFirst = false) ∧
    (∃ (s : State), ∃ (n : Nat), s.canon ∧ s.tables ∧ n < 128 ∧ ∃ o, (s.room n).ld = some o ∧ o.plane < 4 ∧ o.phase = 1 ∧ s.targetIdle n o.plane = true ∧ (o.op = 2 ∨ o.saveFirst = true) ∧ s.fallowBank (s.loadPlace n 2 o.plane 0).1 = false ∧ loadOwner (s.owner (s.loadPlace n 2 o.plane 0).1) n = true) ∧
    (∃ (s : State), ∃ (n : Nat), s.canon ∧ s.tables ∧ n < 128 ∧ ∃ o, (s.room n).ld = some o ∧ o.plane < 4 ∧ o.phase = 1 ∧ s.targetIdle n o.plane = true ∧ (o.op = 2 ∨ o.saveFirst = true) ∧ ((s.boot.bgLoads.find? (fun x => x.1 == n) = none : Prop)) ∧ (s.fallowBank (s.loadPlace n 2 o.plane 0).1 = true ∨ loadOwner (s.owner (s.loadPlace n 2 o.plane 0).1) n = false)) ∧
    (∃ (s : State), ∃ (n : Nat), s.canon ∧ s.tables ∧ n < 128 ∧ ∃ o, (s.room n).ld = some o ∧ o.plane < 4 ∧ o.phase = 1 ∧ s.targetIdle n o.plane = false) ∧
    (∃ (s : State), ∃ (n : Nat), s.canon ∧ s.tables ∧ n < 128 ∧ ∃ o, (s.room n).ld = some o ∧ o.plane < 4 ∧ o.phase = 1) ∧
    (∃ (s : State), ∃ (n : Nat), s.canon ∧ s.tables ∧ n < 128 ∧ ∃ o, (s.room n).ld = some o ∧ ∃ (b : Nat), ∃ (row : Nat), o.plane < 4 ∧ (b, row) = s.loadRowPlace n o ∧ (o.phase = 2 ∨ o.phase = 3) ∧ s.paused n = false ∧ s.roomState n < 2 ∧ s.retentionHold b = none ∧ s.loadWaits n b = false ∧ s.sched.loadsDone = [] ∧ s.fallowBank b = false ∧ s.mayEnter b false = true ∧ s.stairFailed n = false ∧ (s.stair n).slice = none ∧ b < 512 ∧ b % 128 = n ∧ row < 8192 ∧ o.phase = 3 ∧ ((∀ w, w < 32 → (s.decoded (bankRow b row + 32 * w)).2 = false))) ∧
    (∃ (s : State), ∃ (n : Nat), s.canon ∧ s.tables ∧ n < 128 ∧ ∃ o, (s.room n).ld = some o ∧ ∃ (b : Nat), ∃ (row : Nat), o.plane < 4 ∧ (b, row) = s.loadRowPlace n o ∧ (o.phase = 2 ∨ o.phase = 3) ∧ s.paused n = false ∧ s.roomState n < 2 ∧ s.retentionHold b = none ∧ s.loadWaits n b = false ∧ s.sched.loadsDone = [] ∧ s.fallowBank b = false ∧ s.mayEnter b false = true ∧ s.stairFailed n = false ∧ (s.stair n).slice = none ∧ b < 512 ∧ b % 128 = n ∧ row < 8192 ∧ o.phase = 2 ∧ ((∀ w, w < 32 → (s.decoded (landing n o.plane (2688 + o.next) + 32 * w)).2 = false))) ∧
    (∃ (s : State), ∃ (n : Nat), s.canon ∧ s.tables ∧ n < 128 ∧ ∃ o, (s.room n).ld = some o ∧ ∃ (b : Nat), ∃ (row : Nat), o.plane < 4 ∧ (b, row) = s.loadRowPlace n o ∧ (o.phase = 2 ∨ o.phase = 3) ∧ s.paused n = false ∧ s.roomState n < 2 ∧ s.retentionHold b = none ∧ s.loadWaits n b = false ∧ s.sched.loadsDone = [] ∧ s.fallowBank b = true ∧ b < 512 ∧ o.phase = 3 ∧ ((s.boot.bgLoads.find? (fun x => x.1 == n) = none : Prop)) ∧ (((o.agent = .sched → o.desc = none : Prop)))) :=
    ⟨⟨WR2b.pick 0, 5, And.imp canon_of (And.imp tables_of (⟨·, exSome (by decide +kernel) ((by decide +kernel))⟩)) (by decide +kernel)⟩,
    ⟨WR2b.pick 4, 5, And.imp canon_of (And.imp tables_of (⟨·, exSome (by decide +kernel) ((by decide +kernel))⟩)) (by decide +kernel)⟩,
    ⟨WR2b.pick 5, 5, And.imp canon_of (And.imp tables_of (⟨·, exSome (by decide +kernel) ((by decide +kernel))⟩)) (by decide +kernel)⟩,
    ⟨WR2b.pick 3, 5, And.imp canon_of (And.imp tables_of (⟨·, exSome (by decide +kernel) ((by decide +kernel))⟩)) (by decide +kernel)⟩,
    ⟨WR2b.pick 0, 5, And.imp canon_of (And.imp tables_of (⟨·, exSome (by decide +kernel) ((by decide +kernel))⟩)) (by decide +kernel)⟩,
    ⟨WR2b.pick 22, 5, And.imp canon_of (And.imp tables_of (⟨·, exSome (by decide +kernel) (⟨133, 15, (by decide +kernel)⟩)⟩)) (by decide +kernel)⟩,
    ⟨WR2b.pick 14, 5, And.imp canon_of (And.imp tables_of (⟨·, exSome (by decide +kernel) (⟨5, 2688, (by decide +kernel)⟩)⟩)) (by decide +kernel)⟩,
    ⟨WR2b.pick 23, 5, And.imp canon_of (And.imp tables_of (⟨·, exSome (by decide +kernel) (⟨133, 15, (by decide +kernel)⟩)⟩)) (by decide +kernel)⟩⟩

theorem test_witness_LoadsProceed_1 :
    (∃ (s : State), ∃ (n : Nat), s.canon ∧ s.tables ∧ n < 128 ∧ ∃ o, (s.room n).ld = some o ∧ o.plane < 4 ∧ o.phase = 4 ∧ ((s.boot.bgLoads.find? (fun x => x.1 == n) = none : Prop)) ∧ s.sched.loadsDone = [] ∧ (o.op = 1 ∨ o.op = 2)) ∧
    (∃ (s : State), ∃ (n : Nat), s.canon ∧ s.tables ∧ n < 128 ∧ ∃ o, (s.room n).ld = some o ∧ o.plane < 4 ∧ o.phase = 4 ∧ ((s.boot.bgLoads.find? (fun x => x.1 == n) = none : Prop)) ∧ s.sched.loadsDone = [] ∧ o.op = 0) :=
    ⟨⟨WR2b.pick 8, 5, And.imp canon_of (And.imp tables_of (⟨·, exSome (by decide +kernel) ((by decide +kernel))⟩)) (by decide +kernel)⟩,
    ⟨WR2b.pick 12, 5, And.imp canon_of (And.imp tables_of (⟨·, exSome (by decide +kernel) ((by decide +kernel))⟩)) (by decide +kernel)⟩⟩

theorem test_witness_BankCommandsStartTheirWork_0 :
    (∃ (s : State), ∃ (h : CmdHdr), ∃ (b : Nat), ∃ (value : Nat), s.canon ∧ s.tables ∧ b < 512 ∧ s.accepts ((⟨h, 0x0301, .r, argBytes [(6, 2, b), (8, 4, value)], false⟩ : Ebryn)) ∧ (s.entered ((⟨h, 0x0301, .r, argBytes [(6, 2, b), (8, 4, value)], false⟩ : Ebryn))).ringBank b = false ∧ s.ownerStatus b value = 0 ∧ (({ kind := bits value 15 12, id := bits value 11 0 } : Owner)) ≠ s.owner b) ∧
    (∃ (s : State), ∃ (h : CmdHdr), ∃ (b : Nat), ∃ (value : Nat), s.canon ∧ s.tables ∧ b < 512 ∧ s.accepts ((⟨h, 0x0302, .r, argBytes [(6, 2, b), (8, 4, value)], false⟩ : Ebryn)) ∧ s.guestStatus b value = 0) ∧
    (∃ (s : State), ∃ (h : CmdHdr), ∃ (b : Nat), s.canon ∧ s.tables ∧ b < 512 ∧ s.accepts ((⟨h, 0x0303, .r, argBytes [(6, 2, b)], false⟩ : Ebryn)) ∧ (s.entered ((⟨h, 0x0303, .r, argBytes [(6, 2, b)], false⟩ : Ebryn))).ringBank b = false ∧ (s.owner b).kind ≠ 2 ∧ (s.owner b).kind ≠ 3 ∧ s.fallowBank b = false ∧ s.f Fld.LB_PWR_PSTATE b = 0) ∧
    (∃ (s : State), ∃ (h : CmdHdr), ∃ (b : Nat), s.canon ∧ s.tables ∧ b < 512 ∧ s.accepts ((⟨h, 0x0304, .r, argBytes [(6, 2, b)], false⟩ : Ebryn)) ∧ s.retained b = true ∧ s.f Fld.LB_PWR_CAUSE b = 1) ∧
    (∃ (s : State), ∃ (h : CmdHdr), ∃ (b : Nat), s.canon ∧ s.tables ∧ b < 512 ∧ s.accepts ((⟨h, 0x0305, .r, argBytes [(6, 2, b)], false⟩ : Ebryn)) ∧ (s.entered ((⟨h, 0x0305, .r, argBytes [(6, 2, b)], false⟩ : Ebryn))).ringBank b = false ∧ s.fallowBank b = false ∧ s.f Fld.LB_PWR_PSTATE b = 0 ∧ s.handover b = false ∧ (s.bank b).op = .none ∧ s.f Fld.LB_STATUS_WIPE_BUSY b = 0 ∧ (s.bank b).q = [] ∧ ((∀ p, p < 4 → (s.plane (bankStair b) p).rowQ = [])) ∧ s.sliceOn b = false) :=
    ⟨⟨WR3.pick 0, { port := 0, node := 0, ep := 546, tag := 7, len := 58 }, 0, 0, (And.imp canon_of (And.imp tables_of (And.imp id (And.imp accepts_of id)))) (by decide +kernel)⟩,
    ⟨WR3.pick 0, { port := 0, node := 0, ep := 546, tag := 7, len := 58 }, 0, 0, (And.imp canon_of (And.imp tables_of (And.imp id (And.imp accepts_of id)))) (by decide +kernel)⟩,
    ⟨WR3.pick 0, { port := 0, node := 0, ep := 546, tag := 7, len := 58 }, 0, (And.imp canon_of (And.imp tables_of (And.imp id (And.imp accepts_of id)))) (by decide +kernel)⟩,
    ⟨WR3.pick 2, { port := 0, node := 0, ep := 546, tag := 7, len := 58 }, 5, (And.imp canon_of (And.imp tables_of (And.imp id (And.imp accepts_of id)))) (by decide +kernel)⟩,
    ⟨WR3.pick 0, { port := 0, node := 0, ep := 546, tag := 7, len := 58 }, 0, (And.imp canon_of (And.imp tables_of (And.imp id (And.imp accepts_of id)))) (by decide +kernel)⟩⟩

theorem test_witness_CorridorMovesPackets_0 :
    (∃ (s : State), ∃ (r : Nat), ∃ (out : Nat), s.canon ∧ s.tables ∧ r < 144 ∧ out < 6 ∧ ∃ a, ∃ vc, ∃ i, ∃ c, ((((s.pumpRouter r).dropMalformed r).sinkHeads r).chooseVc r out 9 (if (mget (fun _ => ({} : Arb)) (((s.pumpRouter r).dropMalformed r).sinkHeads r).net.arbs (8 * r + out)).left = 0 ∧ (mget (fun _ => ({} : Arb)) (((s.pumpRouter r).dropMalformed r).sinkHeads r).net.arbs (8 * r + out)).last = [] then { (mget (fun _ => ({} : Arb)) (((s.pumpRouter r).dropMalformed r).sinkHeads r).net.arbs (8 * r + out)) with left := nth (mget (fun _ => ({} : Arb)) (((s.pumpRouter r).dropMalformed r).sinkHeads r).net.arbs (8 * r + out)).w 0 } else (mget (fun _ => ({} : Arb)) (((s.pumpRouter r).dropMalformed r).sinkHeads r).net.arbs (8 * r + out))) = some (a, vc, i, c)) ∧ ∃ p, ∃ rest, (((s.pumpRouter r).dropMalformed r).sinkHeads r).buf (bufKey (inLink r i) vc c) = p :: rest ∧ (bufKey (inLink r i) vc c) ≠ (bufKey (8 * r + out) vc (nextClass r i out c))) ∧
    (∃ (s : State), s.canon ∧ s.tables) ∧
    (∃ (s : State), ∃ (ep : Nat), ∃ (plane : Nat), ∃ (tag : Nat), s.canon ∧ s.tables ∧ ∃ r, s.outReq (outKey ep plane tag) = some r ∧ r.expired = false ∧ s.resuming = false ∧ s.safe = false) ∧
    (∃ (s : State), ∃ (ep : Nat), ∃ (plane : Nat), ∃ (tag : Nat), s.canon ∧ s.tables ∧ ∃ r, s.outReq (outKey ep plane tag) = some r ∧ r.expired = true) ∧
    (∃ (s : State), s.canon ∧ s.tables) ∧
    (∃ (s : State), ∃ (link : Nat), ∃ (vc : Nat), s.canon ∧ s.tables ∧ vc < 4 ∧ linkExists link = true) ∧
    (∃ (s : State), s.canon ∧ s.tables) :=
    ⟨⟨WR3.pick 7, 64, 2, And.imp canon_of (And.imp tables_of (keep (⟨·, exQuad (by decide +kernel) (exCons (by decide +kernel) ((by decide +kernel)))⟩))) (by decide +kernel)⟩,
    ⟨WR3.pick 0, (And.imp canon_of tables_of) (by decide +kernel)⟩,
    ⟨WR3.pick 4, 5, 0, 3, And.imp canon_of (fun x => ⟨tables_of x, exSome (by decide +kernel) ((by decide +kernel))⟩) (by decide +kernel)⟩,
    ⟨WR3.pick 5, 5, 0, 3, And.imp canon_of (fun x => ⟨tables_of x, exSome (by decide +kernel) ((by decide +kernel))⟩) (by decide +kernel)⟩,
    ⟨WR3.pick 0, (And.imp canon_of tables_of) (by decide +kernel)⟩,
    ⟨WR3.pick 0, 0, 0, (And.imp canon_of (And.imp tables_of id)) (by decide +kernel)⟩,
    ⟨WR3.pick 0, (And.imp canon_of tables_of) (by decide +kernel)⟩⟩

theorem test_witness_RegisterAccessesFollowTheirTypes_0 :
    (∃ (s : State), ∃ (off : Nat), ∃ (value : Nat), s.canon ∧ csrCause off = none ∧ ∃ r, ∃ i, Reg.atOffset off = some (r, i) ∧ r ≠ .MB_ENG_BELL ∧ s.requestWrite r i value = none) ∧
    (∃ (s : State), ∃ (off : Nat), s.canon ∧ csrCause off = none ∧ ∃ r, ∃ i, Reg.atOffset off = some (r, i) ∧ s.shownReg r i = none ∧ r ≠ .EP_PEEK_DATA ∧ r ≠ .EP_PEEK_STATUS) ∧
    (∃ (s : State), s.canon) ∧
    (∃ (s : State), s.canon) :=
    ⟨⟨WR4.pick 0, 0, 0, And.imp canon_of (⟨·, exPair (by decide +kernel) ((by decide +kernel))⟩) (by decide +kernel)⟩,
    ⟨WR4.pick 0, 0, And.imp canon_of (⟨·, exPair (by decide +kernel) ((by decide +kernel))⟩) (by decide +kernel)⟩,
    ⟨WR4.pick 0, canon_of (by decide +kernel)⟩,
    ⟨WR4.pick 0, canon_of (by decide +kernel)⟩⟩

theorem test_witness_RawCommandsAndAbort_0 :
    (∃ (s : State), ∃ (h : CmdHdr), ∃ (off : Nat), s.canon ∧ s.accepts ((⟨h, 0x0103, .i, argBytes [(6, 4, off), (10, 1, 1)], false⟩ : Ebryn)) ∧ csrCause off = none ∧ ∃ r, ∃ i, Reg.atOffset off = some (r, i) ∧ True) ∧
    (∃ (s : State), ∃ (h : CmdHdr), ∃ (off : Nat), ∃ (v : Nat), s.canon ∧ s.accepts ((⟨h, 0x0104, .i, argBytes [(6, 4, off), (10, 1, 1), (12, 4, v)], h.port != 0 && touchesMb off 1⟩ : Ebryn)) ∧ csrCause off = none ∧ ∃ r, ∃ i, Reg.atOffset off = some (r, i) ∧ r ≠ .MB_ENG_BELL) ∧
    (∃ (s : State), ∃ (h : CmdHdr), ∃ (addr : Nat), ∃ (bytes : List Byte), s.canon ∧ inStaging (addr % 2 ^ 48) bytes.length = true ∧ addr / 2 ^ 48 = s.node ∧ addr % 32 = 0 ∧ bytes.length = 32 ∧ s.fuses.lc ≠ 4 ∧ s.fuses.ue = false ∧ h.port ≤ 17 ∧ s.accepts ⟨h, 0x0106, .b, argBytes [(6, 8, addr), (14, 1, 32)] ++ [0] ++ bytes, false⟩) ∧
    (∃ (s : State), ∃ (h : CmdHdr), ∃ (addr : Nat), ∃ (n : Nat), s.canon ∧ 0 < n ∧ n ≤ 56 ∧ decodeAddr (addr % 2 ^ 48) = .scratch ∧ addr / 2 ^ 48 = s.node ∧ addr % 256 + n ≤ 256 ∧ ((∀ k, k < 64 → s.syn (addr % 2 ^ 48 + k) = 0)) ∧ h.port = 0 ∧ s.replay.injecting = false ∧ s.accepts ⟨h, 0x0105, .i, argBytes [(6, 8, addr), (14, 1, n)], false⟩) ∧
    (∃ (s : State), ∃ (h : CmdHdr), ∃ (victim : Nat), s.canon ∧ s.accepts ((⟨h, 0x0102, .b, argBytes [(6, 2, victim)], false⟩ : Ebryn)) ∧ (s.entered ((⟨h, 0x0102, .b, argBytes [(6, 2, victim)], false⟩ : Ebryn))).inprogOf (((h.port, h.node, h.ep, victim) : CmdRef)) = none) ∧
    (∃ (s : State), ∃ (h : CmdHdr), ∃ (victim : Nat), s.canon ∧ s.accepts ((⟨h, 0x0102, .b, argBytes [(6, 2, victim)], false⟩ : Ebryn)) ∧ ∃ v, (s.entered ((⟨h, 0x0102, .b, argBytes [(6, 2, victim)], false⟩ : Ebryn))).inprogOf (((h.port, h.node, h.ep, victim) : CmdRef)) = some v ∧ v.committed = false ∧ v.opcode = 0x0405 ∧ h.port = 0) ∧
    (∃ (s : State), ∃ (h : CmdHdr), s.canon ∧ ∃ p, s.inprogOf h.ref = some p ∧ p.opcode = 0x0508 ∧ s.sched.drainCmds = [h.ref]) :=
    ⟨⟨WR4.pick 0, { port := 0, node := 0, ep := 546, tag := 7, len := 58 }, 0, And.imp canon_of (And.imp accepts_of (⟨·, exPair (by decide +kernel) trivial⟩)) (by decide +kernel)⟩,
    ⟨WR4.pick 0, { port := 0, node := 0, ep := 546, tag := 7, len := 58 }, 0, 0, And.imp canon_of (And.imp accepts_of (⟨·, exPair (by decide +kernel) ((by decide +kernel))⟩)) (by decide +kernel)⟩,
    ⟨WR4.pick 0, { port := 0, node := 0, ep := 546, tag := 7, len := 58 }, 4832886784, ((List.range 32).map (BitVec.ofNat 8)), (And.imp canon_of (And.imp id (And.imp id (And.imp id (And.imp id (And.imp id (And.imp id (And.imp id accepts_of)))))))) (by decide +kernel)⟩,
    ⟨WR4.pick 0, { port := 0, node := 0, ep := 546, tag := 7, len := 58 }, 4832886784, 1, (And.imp canon_of (And.imp id (And.imp id (And.imp id (And.imp id (And.imp id (And.imp id (And.imp id (And.imp id accepts_of))))))))) (by decide +kernel)⟩,
    ⟨WR4.pick 0, { port := 0, node := 0, ep := 546, tag := 7, len := 58 }, 0, (And.imp canon_of (And.imp accepts_of id)) (by decide +kernel)⟩,
    ⟨WR4.pick 0, { port := 0, node := 0, ep := 546, tag := 7, len := 58 }, 5, And.imp canon_of (fun x => ⟨accepts_of x, exSome (by decide +kernel) ((by decide +kernel))⟩) (by decide +kernel)⟩,
    ⟨WR4.pick 2, { port := 0, node := 0, ep := 546, tag := 7, len := 58 }, (fun x => ⟨canon_of x, exSome (by decide +kernel) ((by decide +kernel))⟩) (by decide +kernel)⟩⟩

theorem test_witness_PortZeroOnTheBus_0 :
    (∃ (s : State), s.canon ∧ s.tables ∧ s.busServed = true ∧ s.f Fld.MB_STATUS_I3C_DA 0 = 0) ∧
    (∃ (s : State), s.canon ∧ s.tables ∧ s.busServed = true) ∧
    (∃ (s : State), ∃ (events : Nat), s.canon ∧ s.tables ∧ s.busServed = true ∧ events % 2 = 1) ∧
    (∃ (s : State), ∃ (tag : Nat), s.canon ∧ s.tables ∧ s.busServed = true ∧ tag < 2 ^ 16) ∧
    (∃ (s : State), ∃ (bytes : List Byte), s.canon ∧ s.tables ∧ s.busServed = true ∧ bytes.length ≠ 64) ∧
    (∃ (s : State), s.canon ∧ s.tables ∧ s.busServed = true ∧ ∃ b, ∃ rest, mget (fun _ => []) s.mail.rsp 0 = b :: rest ∧ True) :=
    ⟨⟨WR5.pick 0, (And.imp canon_of (And.imp tables_of id)) (by decide +kernel)⟩,
    ⟨WR5.pick 0, (And.imp canon_of (And.imp tables_of id)) (by decide +kernel)⟩,
    ⟨WR5.pick 0, 1, (And.imp canon_of (And.imp tables_of id)) (by decide +kernel)⟩,
    ⟨WR5.pick 0, 0, (And.imp canon_of (And.imp tables_of id)) (by decide +kernel)⟩,
    ⟨WR5.pick 0, (List.replicate 8 0), (And.imp canon_of (And.imp tables_of id)) (by decide +kernel)⟩,
    ⟨WR5.pick 1, And.imp canon_of (And.imp tables_of (⟨·, exCons (by decide +kernel) trivial⟩)) (by decide +kernel)⟩⟩

theorem test_witness_BlocksEventsAndAccessesArrive_0 :
    (∃ (s : State), s.canon ∧ s.tables ∧ s.replaying = false ∧ ∃ p, ∃ s', s.takeOn (ejectLinks 546) 3 (fun p => p.type == 8 && s.isFor 546 p) = some (p, s') ∧ ∃ (tag : Nat), tag < 2 ^ 16 ∧ p.payload = cmdBlock 0x0109 tag 0 [] ∧ p.len = 63 ∧ p.poison = 0) ∧
    (∃ (s : State), ∃ (engine : Nat), ∃ (addr : Nat), s.canon ∧ s.tables ∧ s.replaying = false ∧ engine < 256 ∧ addr + 15 ≤ 0x3FCF ∧ addr % 64 ≤ 48 ∧ s.portOn 18 = true ∧ (s.mail.inprog.any fun x => x.port == 18 && x.ep == engine) = false) ∧
    (∃ (s : State), s.canon ∧ s.tables ∧ s.replaying = false ∧ ∃ p, ∃ s', s.take 546 1 = some (p, s') ∧ ∃ q, s'.outReq (outKey 546 p.dstPlane p.tag) = some q ∧ q.expired = false ∧ q.pkt.type = 0 ∧ q.pkt.srcPlane = 0 ∧ ∃ e, s.mpUser q.pkt.tag = some e ∧ ∃ (a : Nat), ∃ (tag : Nat), e.opcode = opBell ∧ e.port = 18 ∧ e.node = s.node ∧ a % 256 ≤ 192 ∧ e.args = MemOp.args { tag := q.pkt.tag, addr := a, len := 64, bytes := [] } ∧ tag < 2 ^ 16 ∧ p.status = 0 ∧ p.poison = 0 ∧ p.payload = cmdBlock 0x0109 tag 0 []) ∧
    (∃ (s : State), ∃ (port : Nat), ∃ (header : Nat), ∃ (data : List Byte), s.canon ∧ s.tables ∧ s.replaying = false ∧ port < 16 ∧ s.sideRuns = true ∧ data.length = 8 ∧ 1 ≤ bits header 15 12 ∧ bits header 15 12 ≤ 3 ∧ bits header 11 9 = 0) ∧
    (∃ (s : State), ∃ (port : Nat), ∃ (header : Nat), ∃ (data : List Byte), ∃ (tag : Nat), s.canon ∧ s.tables ∧ s.replaying = false ∧ port < 16 ∧ s.sideRuns = true ∧ data.length = 8 ∧ tag < 2 ^ 16 ∧ bits header 15 12 = 1 ∧ bits header 11 9 = 7 ∧ mget (fun _ => 0) s.mail.partKind port = 256 + bits header 7 0 ∧ (mget (fun _ => []) s.mail.part port).length = 56 ∧ mget (fun _ => []) s.mail.part port ++ data = cmdBlock 0x0109 tag 0 []) ∧
    (∃ (s : State), ∃ (port : Nat), ∃ (data : List Byte), s.canon ∧ s.tables ∧ s.replaying = false ∧ port < 16 ∧ s.sideRuns = true ∧ data.length = 8) ∧
    (∃ (s : State), ∃ (port : Nat), s.canon ∧ s.tables ∧ s.replaying = false ∧ 1 ≤ port ∧ port ≤ 16 ∧ s.sideRuns = true ∧ 0 < (mget (fun _ => []) s.mail.evq port).length ∧ (mget (fun _ => []) s.mail.evq port).length ≤ 3) ∧
    (∃ (s : State), s.canon ∧ s.tables ∧ s.replaying = false ∧ ∃ p, ∃ s', s.takeOn (ejectLinks 546) 0 (s.isFor 546) = some (p, s') ∧ ∃ (off : Nat), addrForm p.type = true ∧ p.len = 3 ∧ decodeAddr p.addr = .csr off ∧ off ≤ 0x14 ∧ off % 4 = 0 ∧ p.type = 0 ∧ ∃ r, ∃ i, Reg.atOffset off = some (r, i) ∧ True) :=
    ⟨⟨WR5.pick 2, And.imp canon_of (And.imp tables_of (⟨·, exPair (by decide +kernel) (⟨7, (by decide +kernel)⟩)⟩)) (by decide +kernel)⟩,
    ⟨WR5.pick 0, 0, 0, (And.imp canon_of (And.imp tables_of id)) (by decide +kernel)⟩,
    ⟨WR5.pick 5, And.imp canon_of (And.imp tables_of (⟨·, exPair (by decide +kernel) (exSome (by decide +kernel) (keep (keep (⟨·, exSome (by decide +kernel) (⟨4564058368, 7, (by decide +kernel)⟩)⟩)) (by decide +kernel)))⟩)) (by decide +kernel)⟩,
    ⟨WR5.pick 0, 0, 4105, (List.replicate 8 0), (And.imp canon_of (And.imp tables_of id)) (by decide +kernel)⟩,
    ⟨WR5.pick 6, 3, 7689, (List.replicate 8 0), 7, (And.imp canon_of (And.imp tables_of id)) (by decide +kernel)⟩,
    ⟨WR5.pick 0, 0, (List.replicate 8 0), (And.imp canon_of (And.imp tables_of id)) (by decide +kernel)⟩,
    ⟨WR5.pick 1, 3, (And.imp canon_of (And.imp tables_of id)) (by decide +kernel)⟩,
    ⟨WR5.pick 3, And.imp canon_of (And.imp tables_of (⟨·, exPair (by decide +kernel) (⟨8, keep (keep (keep (keep (keep (⟨·, exPair (by decide +kernel) trivial⟩))))) (by decide +kernel)⟩)⟩)) (by decide +kernel)⟩⟩

theorem test_witness_BlocksEventsAndAccessesArrive_1 :
    (∃ (s : State), s.canon ∧ s.tables ∧ s.replaying = false ∧ ∃ p, ∃ s', s.takeOn (ejectLinks 546) 0 (s.isFor 546) = some (p, s') ∧ ∃ (off : Nat), addrForm p.type = true ∧ p.len = 3 ∧ decodeAddr p.addr = .csr off ∧ off ≤ 0x14 ∧ off % 4 = 0 ∧ p.type = 1) :=
    ⟨WR5.pick 4, And.imp canon_of (And.imp tables_of (⟨·, exPair (by decide +kernel) (⟨8, (by decide +kernel)⟩)⟩)) (by decide +kernel)⟩

theorem test_witness_TokensReachTheirInstances_0 :
    (∃ (s : State), ∃ (q : Nat), s.canon ∧ s.tables ∧ q < 4 ∧ s.schedHeld = false ∧ ∃ p, ∃ s', s.takeOn [attachLink q] 2 (fun p => p.type == 5 && s.isFor 544 p) = some (p, s') ∧ s.tokPkt q = none ∧ s.gateShut 4 0 = false ∧ tokCount p ≠ 0) ∧
    (∃ (s : State), ∃ (q : Nat), s.canon ∧ s.tables ∧ q < 4 ∧ s.schedHeld = false ∧ ∃ p, ∃ k, ∃ mask, s.tokPkt q = some (p, k, mask) ∧ s.schedOn = true ∧ s.f Fld.SC_STATUS_DRAINING 0 = 0 ∧ s.tplValid ((recOf p k).tag / 2 ^ 52 % 4096) = false) ∧
    (∃ (s : State), ∃ (q : Nat), s.canon ∧ s.tables ∧ q < 4 ∧ s.schedHeld = false ∧ ∃ p, ∃ k, ∃ mask, s.tokPkt q = some (p, k, mask) ∧ s.schedOn = true ∧ s.f Fld.SC_STATUS_DRAINING 0 = 0 ∧ s.recWaits (recOf p k) = true) ∧
    (∃ (s : State), ∃ (q : Nat), s.canon ∧ s.tables ∧ q < 4 ∧ s.schedHeld = false ∧ ∃ p, ∃ k, ∃ mask, s.tokPkt q = some (p, k, mask) ∧ s.schedOn = true ∧ s.f Fld.SC_STATUS_DRAINING 0 = 0 ∧ s.tplValid ((recOf p k).tag / 2 ^ 52 % 4096) = true ∧ (recOf p k).tag % 8 < s.tplNops ((recOf p k).tag / 2 ^ 52 % 4096) ∧ 1 < s.tplNops ((recOf p k).tag / 2 ^ 52 % 4096) ∧ s.inCache ((recOf p k).tag / 8 % 2 ^ 61) = true ∧ s.odBad (.matchSet (s.matchSet ((recOf p k).tag / 8 % 2 ^ 61))) = false ∧ ∃ i, s.freeHead = some i ∧ s.matchOf ((recOf p k).tag / 8 % 2 ^ 61) = none ∧ s.setFull ((recOf p k).tag / 8 % 2 ^ 61) = false ∧ s.descBad i = false) ∧
    (∃ (s : State), ∃ (q : Nat), s.canon ∧ s.tables ∧ q < 4 ∧ s.schedHeld = false ∧ ∃ p, ∃ k, ∃ mask, s.tokPkt q = some (p, k, mask) ∧ s.schedOn = true ∧ s.f Fld.SC_STATUS_DRAINING 0 = 0 ∧ s.tplValid ((recOf p k).tag / 2 ^ 52 % 4096) = true ∧ (recOf p k).tag % 8 < s.tplNops ((recOf p k).tag / 2 ^ 52 % 4096) ∧ 1 < s.tplNops ((recOf p k).tag / 2 ^ 52 % 4096) ∧ s.inCache ((recOf p k).tag / 8 % 2 ^ 61) = true ∧ s.odBad (.matchSet (s.matchSet ((recOf p k).tag / 8 % 2 ^ 61))) = false ∧ ∃ i, s.matchOf ((recOf p k).tag / 8 % 2 ^ 61) = some i ∧ s.descBad i = false ∧ bit (s.desc i).amask ((recOf p k).tag % 8) = 0 ∧ Nat.lor (s.desc i).amask (2 ^ ((recOf p k).tag % 8)) % 2 ^ s.tplNops ((recOf p k).tag / 2 ^ 52 % 4096) = 2 ^ s.tplNops ((recOf p k).tag / 2 ^ 52 % 4096) - 1 ∧ s.tplDelay ((recOf p k).tag / 2 ^ 52 % 4096) = 0 ∧ s.tplDelay (s.desc i).tmpl = 0 ∧ (s.flow (s.desc i).flow).grouped = false ∧ s.completeBad (s.desc i).tmpl (s.desc i).flow = false) :=
    ⟨⟨WR6.pick 1, 1, And.imp canon_of (And.imp tables_of (keep (⟨·, exPair (by decide +kernel) ((by decide +kernel))⟩))) (by decide +kernel)⟩,
    ⟨WR6.pick 3, 1, And.imp canon_of (And.imp tables_of (keep (⟨·, exTri (by decide +kernel) ((by decide +kernel))⟩))) (by decide +kernel)⟩,
    ⟨WR6.pick 2, 1, And.imp canon_of (And.imp tables_of (keep (⟨·, exTri (by decide +kernel) ((by decide +kernel))⟩))) (by decide +kernel)⟩,
    ⟨WR6.pick 5, 1, And.imp canon_of (And.imp tables_of (keep (⟨·, exTri (by decide +kernel) (keep (keep (keep (keep (keep (keep (⟨·, exSome (by decide +kernel) ((by decide +kernel))⟩)))))) (by decide +kernel))⟩))) (by decide +kernel)⟩,
    ⟨WR6.pick 7, 1, And.imp canon_of (And.imp tables_of (keep (⟨·, exTri (by decide +kernel) (keep (keep (keep (keep (keep (keep (⟨·, exSome (by decide +kernel) ((by decide +kernel))⟩)))))) (by decide +kernel))⟩))) (by decide +kernel)⟩⟩

theorem test_witness_TasksAreDispatchedAndEnd_0 :
    (∃ (s : State), ∃ (p : Nat), s.canon ∧ s.tables ∧ p < 4 ∧ ∃ f, s.pipeHead p = some f ∧ s.sched.loadsDone = [] ∧ s.schedOn = true ∧ s.schedHeld = false ∧ s.rpState ≠ 4 ∧ s.f Fld.SC_RATE_THERM_CAP 0 = 0 ∧ ((∀ q, q < p → (s.pipe q).took = none)) ∧ ∃ i, ∃ rest, (s.flow f).queue = i :: rest ∧ s.badWord (s.flowAddr f) = false ∧ s.descBad i = false ∧ s.tplEngine (s.desc i).tmpl = true ∧ ∃ w, s.pickEngine (s.flow f) (s.desc i).tmpl (s.pipe p).rrE = some w ∧ 512 ≤ w) ∧
    (∃ (s : State), s.canon ∧ s.tables ∧ ∃ p, ∃ s', s.take 544 1 = some (p, s') ∧ ∃ r, s.outReq (outKey 544 p.dstPlane p.tag) = some r ∧ r.expired = false ∧ r.pkt.type = 6 ∧ (s.desc (dispatchIndex r.pkt)).state = 4 ∧ 512 ≤ (s.desc (dispatchIndex r.pkt)).worker ∧ r.pkt.dstEp = (s.desc (dispatchIndex r.pkt)).worker - 256 ∧ s.descBad (dispatchIndex r.pkt) = false ∧ s.flowBad (s.desc (dispatchIndex r.pkt)).flow = false ∧ p.status = 1) ∧
    (∃ (s : State), s.canon ∧ s.tables ∧ ∃ p, ∃ s', s.take 544 1 = some (p, s') ∧ ∃ r, s.outReq (outKey 544 p.dstPlane p.tag) = some r ∧ r.expired = false ∧ r.pkt.type = 6 ∧ (s.desc (dispatchIndex r.pkt)).state = 4 ∧ 512 ≤ (s.desc (dispatchIndex r.pkt)).worker ∧ r.pkt.dstEp = (s.desc (dispatchIndex r.pkt)).worker - 256 ∧ s.descBad (dispatchIndex r.pkt) = false ∧ s.flowBad (s.desc (dispatchIndex r.pkt)).flow = false ∧ p.status = 2) ∧
    (∃ (s : State), ∃ (n : Nat), ∃ (p : Nat), ∃ rest, s.canon ∧ s.tables ∧ n < 128 ∧ p < 4 ∧ ((s.wants n).filter fun q => s.active n != some q && s.taskOn (4 * n + q)) = p :: rest ∧ (s.room n).cyc = none ∧ (s.room n).sw = none ∧ s.f Fld.RM_PLANE_PEND_VALID n = 0 ∧ s.roomState n = 0 ∧ s.planeState n p = 2 ∧ s.storePoisoned n p = false ∧ (s.room n).ld = none) ∧
    (∃ (s : State), s.canon ∧ s.tables ∧ ∃ p, ∃ s', s.takeOn (ejectLinks 544) 2 (fun p => p.type == 7 && s.isFor 544 p) = some (p, s') ∧ s.schedHeld = false ∧ s.safe = false ∧ ∃ w, s.senderOf p = some w ∧ (s.desc ((leNat (p.payload.take 4)) % 2 ^ 21)).state = 4 ∧ (s.desc ((leNat (p.payload.take 4)) % 2 ^ 21)).worker = w ∧ 512 ≤ w ∧ s.descBad ((leNat (p.payload.take 4)) % 2 ^ 21) = false ∧ s.badWord (s.flowAddr (s.desc ((leNat (p.payload.take 4)) % 2 ^ 21)).flow) = false ∧ (s.flow (s.desc ((leNat (p.payload.take 4)) % 2 ^ 21)).flow).grouped = false ∧ s.f Fld.SC_STATUS_DRAINING 0 = 0 ∧ bits (leNat (p.payload.take 4)) 26 24 = 0) ∧
    (∃ (s : State), s.canon ∧ s.tables ∧ ∃ p, ∃ s', s.takeOn (ejectLinks 544) 2 (fun p => p.type == 7 && s.isFor 544 p) = some (p, s') ∧ s.schedHeld = false ∧ s.safe = false ∧ ∃ w, s.senderOf p = some w ∧ (s.desc ((leNat (p.payload.take 4)) % 2 ^ 21)).state = 4 ∧ (s.desc ((leNat (p.payload.take 4)) % 2 ^ 21)).worker = w ∧ 512 ≤ w ∧ s.descBad ((leNat (p.payload.take 4)) % 2 ^ 21) = false ∧ s.badWord (s.flowAddr (s.desc ((leNat (p.payload.take 4)) % 2 ^ 21)).flow) = false ∧ (s.flow (s.desc ((leNat (p.payload.take 4)) % 2 ^ 21)).flow).grouped = false ∧ s.f Fld.SC_STATUS_DRAINING 0 = 0 ∧ 0 < bits (leNat (p.payload.take 4)) 26 24) ∧
    (∃ (s : State), s.canon ∧ s.tables ∧ ∃ p, ∃ s', s.takeOn (ejectLinks 544) 2 (fun p => p.type == 7 && s.isFor 544 p) = some (p, s') ∧ s.schedHeld = false ∧ s.safe = false ∧ (s.desc ((leNat (p.payload.take 4)) % 2 ^ 21)).state ≠ 4) ∧
    (∃ (s : State), ∃ (n : Nat), s.canon ∧ s.tables ∧ ∃ p, s.active n = some p ∧ ∃ i, s.inService (4 * n + p) = some i ∧ s.roomState n = 0) :=
    ⟨⟨WR6.pick 9, 1, And.imp canon_of (And.imp tables_of (⟨·, exSome (by decide +kernel) (keep (keep (keep (keep (keep (⟨·, exCons (by decide +kernel) (keep (keep (⟨·, exSome (by decide +kernel) ((by decide +kernel))⟩)) (by decide +kernel))⟩))))) (by decide +kernel))⟩)) (by decide +kernel)⟩,
    ⟨WR6.pick 11, And.imp canon_of (fun x => ⟨tables_of x, exPair (by decide +kernel) (exSome (by decide +kernel) ((by decide +kernel)))⟩) (by decide +kernel)⟩,
    ⟨WR6.pick 12, And.imp canon_of (fun x => ⟨tables_of x, exPair (by decide +kernel) (exSome (by decide +kernel) ((by decide +kernel)))⟩) (by decide +kernel)⟩,
    ⟨WR6.pick 20, 5, 2, [], (And.imp canon_of (And.imp tables_of id)) (by decide +kernel)⟩,
    ⟨WR6.pick 13, And.imp canon_of (fun x => ⟨tables_of x, exPair (by decide +kernel) (keep (⟨·, exSome (by decide +kernel) ((by decide +kernel))⟩) (by decide +kernel))⟩) (by decide +kernel)⟩,
    ⟨WR6.pick 14, And.imp canon_of (fun x => ⟨tables_of x, exPair (by decide +kernel) (keep (⟨·, exSome (by decide +kernel) ((by decide +kernel))⟩) (by decide +kernel))⟩) (by decide +kernel)⟩,
    ⟨WR6.pick 15, And.imp canon_of (fun x => ⟨tables_of x, exPair (by decide +kernel) ((by decide +kernel))⟩) (by decide +kernel)⟩,
    ⟨WR6.pick 21, 5, And.imp canon_of (fun x => ⟨tables_of x, exSome (by decide +kernel) (exSome (by decide +kernel) ((by decide +kernel)))⟩) (by decide +kernel)⟩⟩

theorem test_witness_TasksAreDispatchedAndEnd_1 :
    (∃ (s : State), s.canon ∧ s.tables ∧ ∃ i, ∃ rest, s.sched.posting = i :: rest ∧ ∃ r, (s.desc i).recs = [r] ∧ s.descBad i = false ∧ s.schedHeld = false ∧ (s.handleRec r).1 = false) :=
    ⟨WR6.pick 16, And.imp canon_of (fun x => ⟨tables_of x, exCons (by decide +kernel) (⟨{ tag := 18014398509482776, value := 1, poison := true }, (by decide +kernel)⟩)⟩) (by decide +kernel)⟩

theorem test_witness_DelaysAndSchedulerCommands_0 :
    (∃ (s : State), s.canon ∧ s.tables) ∧
    (∃ (s : State), ∃ (l : Nat), s.canon ∧ s.tables ∧ ∃ e, ∃ i, ∃ rest, (s.delay l).items = (e, i) :: rest ∧ e ≤ s.sched.tick ∧ s.safe = false ∧ s.schedHeld = false ∧ (s.flow (s.desc i).flow).grouped = false ∧ s.descBad i = false ∧ s.readyBad (s.desc i).flow = false) ∧
    (∃ (s : State), ∃ (l : Nat), s.canon ∧ s.tables ∧ ∃ e, ∃ i, ∃ k, (s.delay l).walk = some (e, i, k) ∧ ∃ x, ∃ j, (s.delay l).items[k]? = some (x, j) ∧ (s.delay l).met.any s.descBad = false ∧ x ≤ e) ∧
    (∃ (s : State), ∃ (l : Nat), s.canon ∧ s.tables ∧ ∃ e, ∃ i, ∃ k, (s.delay l).walk = some (e, i, k) ∧ ∃ x, ∃ j, (s.delay l).items[k]? = some (x, j) ∧ (s.delay l).met.any s.descBad = false ∧ e < x) ∧
    (∃ (s : State), ∃ (h : CmdHdr), ∃ (index : Nat), ∃ (d0 : Nat), ∃ (d1 : Nat), ∃ (d2 : Nat), ∃ (d3 : Nat), s.canon ∧ s.tables ∧ s.accepts ⟨h, 0x0503, .r, argBytes [(6, 2, index), (8, 4, d0), (12, 4, d1), (16, 4, d2), (20, 4, d3)], false⟩ ∧ index < 4096) ∧
    (∃ (s : State), ∃ (h : CmdHdr), ∃ (image : Nat), ∃ (imageId : Nat), ∃ (slot : Nat), ∃ (data : Nat), s.canon ∧ s.tables ∧ s.accepts ⟨h, 0x0504, .r, argBytes [(6, 2, image), (8, 8, imageId), (16, 1, 1), (20, 2, slot), (24, 4, data)], false⟩ ∧ image < 1024 ∧ slot < 4096) ∧
    (∃ (s : State), ∃ (h : CmdHdr), ∃ (flow : Nat), ∃ (prio : Nat), ∃ (grouped : Nat), ∃ (group : Nat), s.canon ∧ s.tables ∧ s.accepts ⟨h, 0x0505, .r, argBytes [(6, 4, flow), (10, 1, prio), (11, 1, grouped), (12, 2, group)], false⟩ ∧ flow < 2 ^ s.f Fld.SC_SIZE_FLOW_LOG2 0 ∧ prio < 4 ∧ grouped < 2 ∧ (s.flow flow).busy = false ∧ (s.flow flow).queue = [] ∧ s.flowBad flow = false ∧ h.port ≤ 17) ∧
    (∃ (s : State), ∃ (h : CmdHdr), ∃ (group : Nat), ∃ (window : Nat), s.canon ∧ s.tables ∧ s.accepts ⟨h, 0x0506, .r, argBytes [(6, 2, group), (8, 4, window)], false⟩ ∧ 0 < window ∧ window ≤ 65536 ∧ (s.grp group).out = 0 ∧ (s.grp group).overflow = []) :=
    ⟨⟨WR6.pick 0, (And.imp canon_of tables_of) (by decide +kernel)⟩,
    ⟨WR6.pick 17, 0, And.imp canon_of (fun x => ⟨tables_of x, exConsPair (by decide +kernel) ((by decide +kernel))⟩) (by decide +kernel)⟩,
    ⟨WR6.pick 18, 2, And.imp canon_of (fun x => ⟨tables_of x, exTri (by decide +kernel) (exPair (by decide +kernel) ((by decide +kernel)))⟩) (by decide +kernel)⟩,
    ⟨WR6.pick 19, 2, And.imp canon_of (fun x => ⟨tables_of x, exTri (by decide +kernel) (exPair (by decide +kernel) ((by decide +kernel)))⟩) (by decide +kernel)⟩,
    ⟨WR6.pick 0, { port := 0, node := 0, ep := 546, tag := 7, len := 58 }, 0, 0, 0, 0, 0, (And.imp canon_of (And.imp tables_of (And.imp accepts_of id))) (by decide +kernel)⟩,
    ⟨WR6.pick 0, { port := 0, node := 0, ep := 546, tag := 7, len := 58 }, 0, 0, 0, 0, (And.imp canon_of (And.imp tables_of (And.imp accepts_of id))) (by decide +kernel)⟩,
    ⟨WR6.pick 0, { port := 0, node := 0, ep := 546, tag := 7, len := 58 }, 0, 0, 0, 0, (And.imp canon_of (And.imp tables_of (And.imp accepts_of id))) (by decide +kernel)⟩,
    ⟨WR6.pick 0, { port := 0, node := 0, ep := 546, tag := 7, len := 58 }, 0, 1, (And.imp canon_of (And.imp tables_of (And.imp accepts_of id))) (by decide +kernel)⟩⟩

theorem test_witness_DelaysAndSchedulerCommands_1 :
    (∃ (s : State), ∃ (h : CmdHdr), ∃ (i : Nat), s.canon ∧ s.tables ∧ s.accepts ⟨h, 0x0507, .r, argBytes [(6, 4, i)], false⟩ ∧ i < s.meadowP ∧ (s.desc i).state = 1 ∧ s.cancelBad i = false) ∧
    (∃ (s : State), ∃ (h : CmdHdr), ∃ (ms : Nat), s.canon ∧ s.tables ∧ s.accepts ⟨h, 0x0508, .r, argBytes [(6, 4, ms)], false⟩ ∧ s.countState 2 ≠ 0) ∧
    (∃ (s : State), ∃ (h : CmdHdr), ∃ r, ∃ (repost : Nat), s.canon ∧ s.tables ∧ s.accepts ⟨h, 0x0502, .r, argBytes [(6, 1, 1), (8, 8, r.tag), (16, 4, r.value), (56, 1, poisonBits [r]), (57, 1, repost)], false⟩) :=
    ⟨⟨WR6.pick 6, { port := 0, node := 0, ep := 546, tag := 7, len := 58 }, 0, (And.imp canon_of (And.imp tables_of (And.imp accepts_of id))) (by decide +kernel)⟩,
    ⟨WR6.pick 9, { port := 0, node := 0, ep := 546, tag := 7, len := 58 }, 0, (And.imp canon_of (And.imp tables_of (And.imp accepts_of id))) (by decide +kernel)⟩,
    ⟨WR6.pick 0, { port := 0, node := 0, ep := 546, tag := 7, len := 58 }, { tag := 13510798882112104, value := 8, poison := false }, 0, (And.imp canon_of (And.imp tables_of accepts_of)) (by decide +kernel)⟩⟩

theorem test_witness_EngineMovesTakeEffect_0 :
    (∃ (s : State), ∃ (e : Nat), ∃ (f : Nat), s.canon ∧ s.tables ∧ s.fetched e 0x00 f) ∧
    (∃ (s : State), ∃ (e : Nat), ∃ (f : Nat), s.canon ∧ s.tables ∧ s.fetched e 0x01 f ∧ (s.eng e).ptrOk (bits f 22 20) = true) ∧
    (∃ (s : State), ∃ (e : Nat), ∃ (f : Nat), s.canon ∧ s.tables ∧ s.fetched e 0x02 f ∧ (s.eng e).ptrOk (bits f 22 20) = true) ∧
    (∃ (s : State), ∃ (e : Nat), ∃ (f : Nat), s.canon ∧ s.tables ∧ s.fetched e 0x03 f ∧ (s.eng e).ptrOk (bits f 25 23) = true ∧ (s.eng e).ptrOk (bits f 22 20) = true) ∧
    (∃ (s : State), ∃ (e : Nat), ∃ (f : Nat), s.canon ∧ s.tables ∧ s.fetched e 0x04 f) ∧
    (∃ (s : State), ∃ (e : Nat), ∃ (f : Nat), s.canon ∧ s.tables ∧ s.fetched e 0x05 f) ∧
    (∃ (s : State), ∃ (e : Nat), ∃ (f : Nat), s.canon ∧ s.tables ∧ s.fetched e 0x06 f) ∧
    (∃ (s : State), ∃ (e : Nat), ∃ (f : Nat), s.canon ∧ s.tables ∧ s.fetched e 0x07 f ∧ bit f 25 = 0 ∧ ((s.eng e).dv (bits f 19 17)).2 = false) :=
    ⟨⟨WE1.pick 0, 5, 0, (And.imp canon_of (And.imp tables_of fetched_of)) (by decide +kernel)⟩,
    ⟨WE1.pick 2, 5, 27262976, (And.imp canon_of (And.imp tables_of (And.imp fetched_of id))) (by decide +kernel)⟩,
    ⟨WE1.pick 6, 5, 27262976, (And.imp canon_of (And.imp tables_of (And.imp fetched_of id))) (by decide +kernel)⟩,
    ⟨WE1.pick 10, 5, 18874368, (And.imp canon_of (And.imp tables_of (And.imp fetched_of id))) (by decide +kernel)⟩,
    ⟨WE1.pick 16, 5, 10485760, (And.imp canon_of (And.imp tables_of fetched_of)) (by decide +kernel)⟩,
    ⟨WE1.pick 20, 5, 8421377, (And.imp canon_of (And.imp tables_of fetched_of)) (by decide +kernel)⟩,
    ⟨WE1.pick 24, 5, 10551295, (And.imp canon_of (And.imp tables_of fetched_of)) (by decide +kernel)⟩,
    ⟨WE1.pick 32, 5, 5636096, (And.imp canon_of (And.imp tables_of (And.imp fetched_of id))) (by decide +kernel)⟩⟩

theorem test_witness_EngineMovesTakeEffect_1 :
    (∃ (s : State), ∃ (e : Nat), ∃ (f : Nat), s.canon ∧ s.tables ∧ s.fetched e 0x07 f ∧ bit f 25 = 1) ∧
    (∃ (s : State), ∃ (e : Nat), ∃ (f : Nat), s.canon ∧ s.tables ∧ s.fetched e 0x08 f) ∧
    (∃ (s : State), ∃ (e : Nat), ∃ (f : Nat), s.canon ∧ s.tables ∧ s.fetched e 0x09 f ∧ ((s.eng e).dv (bits f 22 20)).2 = false) ∧
    (∃ (s : State), ∃ (e : Nat), ∃ (f : Nat), s.canon ∧ s.tables ∧ s.fetched e 0x0A f) :=
    ⟨⟨WE1.pick 38, 5, 39190528, (And.imp canon_of (And.imp tables_of (And.imp fetched_of id))) (by decide +kernel)⟩,
    ⟨WE1.pick 44, 5, 16777216, (And.imp canon_of (And.imp tables_of fetched_of)) (by decide +kernel)⟩,
    ⟨WE1.pick 56, 5, 2097164, (And.imp canon_of (And.imp tables_of (And.imp fetched_of id))) (by decide +kernel)⟩,
    ⟨WE1.pick 64, 5, 0, (And.imp canon_of (And.imp tables_of fetched_of)) (by decide +kernel)⟩⟩

theorem test_witness_EngineArithmeticTakesEffect_0 :
    (∃ (s : State), ∃ (e : Nat), ∃ (f : Nat), s.canon ∧ s.tables ∧ s.fetched e 0x10 f ∧ ((s.eng e).dv (bits f 22 20)).2 = false ∧ (((bits f 16 13) ≠ 0xA → (bits f 16 13) ≠ 0xB → ((s.eng e).dv (bits f 19 17)).2 = false))) ∧
    (∃ (s : State), ∃ (e : Nat), ∃ (f : Nat), s.canon ∧ s.tables ∧ s.fetched e 0x11 f ∧ ((s.eng e).dv (bits f 22 20)).2 = false) ∧
    (∃ (s : State), ∃ (e : Nat), ∃ (f : Nat), s.canon ∧ s.tables ∧ s.fetched e 0x20 f ∧ ((((bits f 24 23) ≤ 1 → ((s.eng e).av (2 * (bit f 25))).2 = false ∧ ((s.eng e).av (2 * (bit f 25) + 1)).2 = false : Prop))) ∧ (((((bit f 19 = 1) → (s.eng e).ptrOk (bits f 18 16 % 4) = true ∧ ((fun (p : Nat) => s.engRead (memAddr e p ((s.eng e).pv p))) (bits f 18 16 % 4)).2.1 = false) ∧ (¬(bit f 19 = 1) → ((s.eng e).dv (bits f 18 16)).2 = false) ∧ ((bit f 15 = 1) → (s.eng e).ptrOk (4 + bits f 14 12 % 4) = true ∧ ((fun (p : Nat) => s.engRead (memAddr e p ((s.eng e).pv p))) (4 + bits f 14 12 % 4)).2.1 = false) ∧ (¬(bit f 15 = 1) → ((s.eng e).dv (bits f 14 12)).2 = false) : Prop)))) ∧
    (∃ (s : State), ∃ (e : Nat), ∃ (f : Nat), s.canon ∧ s.tables ∧ s.fetched e 0x21 f ∧ ((((bits f 24 23) ≤ 1 → ((s.eng e).av (2 * (bit f 25))).2 = false ∧ ((s.eng e).av (2 * (bit f 25) + 1)).2 = false : Prop))) ∧ (((((bit f 19 = 1) → (s.eng e).ptrOk (bits f 18 16 % 4) = true ∧ ((fun (p : Nat) => s.engRead (memAddr e p ((s.eng e).pv p))) (bits f 18 16 % 4)).2.1 = false) ∧ (¬(bit f 19 = 1) → ((s.eng e).dv (bits f 18 16)).2 = false) ∧ ((bit f 15 = 1) → (s.eng e).ptrOk (4 + bits f 14 12 % 4) = true ∧ ((fun (p : Nat) => s.engRead (memAddr e p ((s.eng e).pv p))) (4 + bits f 14 12 % 4)).2.1 = false) ∧ (¬(bit f 15 = 1) → ((s.eng e).dv (bits f 14 12)).2 = false) : Prop)))) ∧
    (∃ (s : State), ∃ (e : Nat), ∃ (f : Nat), s.canon ∧ s.tables ∧ s.fetched e 0x22 f ∧ ((((bits f 24 23) ≤ 1 → ((s.eng e).av (2 * (bit f 25))).2 = false ∧ ((s.eng e).av (2 * (bit f 25) + 1)).2 = false : Prop))) ∧ (s.eng e).ptrOk (bits f 20 19) = true ∧ (s.eng e).ptrOk (4 + bits f 18 17) = true ∧ ((fun (p : Nat) => s.engRead (memAddr e p ((s.eng e).pv p))) (bits f 20 19)).2.1 = false ∧ ((fun (p : Nat) => s.engRead (memAddr e p ((s.eng e).pv p))) (4 + bits f 18 17)).2.1 = false ∧ (s.decoded (xAddr e (updPtr ((s.eng e).lv (bits f 20 19)) ((s.eng e).pv (bits f 20 19)) 1))).2 = false) ∧
    (∃ (s : State), ∃ (e : Nat), ∃ (f : Nat), s.canon ∧ s.tables ∧ s.fetched e 0x23 f ∧ (s.eng e).ptrOk 0 = true ∧ (s.eng e).ptrOk 1 = true ∧ (s.eng e).ptrOk 4 = true ∧ ((fun (p : Nat) => s.engRead (memAddr e p ((s.eng e).pv p))) 0).2.1 = false ∧ ((fun (p : Nat) => s.engRead (memAddr e p ((s.eng e).pv p))) 1).2.1 = false ∧ ((fun (p : Nat) => s.engRead (memAddr e p ((s.eng e).pv p))) 4).2.1 = false) ∧
    (∃ (s : State), ∃ (e : Nat), ∃ (f : Nat), s.canon ∧ s.tables ∧ s.fetched e 0x28 f ∧ bit f 22 = 0 ∧ (s.eng e).ptrOk (bits f 21 19) = true) ∧
    (∃ (s : State), ∃ (e : Nat), ∃ (f : Nat), s.canon ∧ s.tables ∧ s.fetched e 0x28 f ∧ bit f 22 = 1) :=
    ⟨⟨WE2.pick 0, 5, 17170432, (And.imp canon_of (And.imp tables_of (And.imp fetched_of id))) (by decide +kernel)⟩,
    ⟨WE2.pick 56, 5, 22053155, (And.imp canon_of (And.imp tables_of (And.imp fetched_of id))) (by decide +kernel)⟩,
    ⟨WE2.pick 64, 5, 0, (And.imp canon_of (And.imp tables_of (And.imp fetched_of id))) (by decide +kernel)⟩,
    ⟨WE2.pick 74, 5, 33705984, (And.imp canon_of (And.imp tables_of (And.imp fetched_of id))) (by decide +kernel)⟩,
    ⟨WE2.pick 80, 5, 0, (And.imp canon_of (And.imp tables_of (And.imp fetched_of id))) (by decide +kernel)⟩,
    ⟨WE2.pick 88, 5, 0, (And.imp canon_of (And.imp tables_of (And.imp fetched_of id))) (by decide +kernel)⟩,
    ⟨WE2.pick 94, 5, 122880, (And.imp canon_of (And.imp tables_of (And.imp fetched_of id))) (by decide +kernel)⟩,
    ⟨WE2.pick 98, 5, 57286656, (And.imp canon_of (And.imp tables_of (And.imp fetched_of id))) (by decide +kernel)⟩⟩

theorem test_witness_EngineControlTakesEffect_0 :
    (∃ (s : State), ∃ (e : Nat), ∃ (f : Nat), s.canon ∧ s.tables ∧ s.fetched e 0x31 f) ∧
    (∃ (s : State), ∃ (e : Nat), ∃ (f : Nat), s.canon ∧ s.tables ∧ s.fetched e 0x32 f ∧ ((s.eng e).dv (bits f 25 23)).2 = false) ∧
    (∃ (s : State), ∃ (e : Nat), ∃ (f : Nat), s.canon ∧ s.tables ∧ s.fetched e 0x33 f ∧ (s.eng e).stack.length < 4) ∧
    (∃ (s : State), ∃ (e : Nat), ∃ (f : Nat), s.canon ∧ s.tables ∧ s.fetched e 0x33 f ∧ 4 ≤ (s.eng e).stack.length) ∧
    (∃ (s : State), ∃ (e : Nat), ∃ (f : Nat), s.canon ∧ s.tables ∧ s.fetched e 0x34 f ∧ ∃ n, ∃ t, (s.eng e).stack = n :: t ∧ True) ∧
    (∃ (s : State), ∃ (e : Nat), ∃ (f : Nat), s.canon ∧ s.tables ∧ s.fetched e 0x34 f ∧ (s.eng e).stack = []) ∧
    (∃ (s : State), ∃ (e : Nat), ∃ (f : Nat), s.canon ∧ s.tables ∧ s.fetched e 0x30 f ∧ (s.f Fld.DE_PC_PC e) < 8191 ∧ (s.engRead (pAddr e ((s.f Fld.DE_PC_PC e) + 1))).2.1 = false ∧ ((bit f 25 = 1 → ((s.eng e).dv (bits f 24 22)).2 = false)) ∧ ∃ c, repeatCycles ((s.engRead (pAddr e ((s.f Fld.DE_PC_PC e) + 1))).1 / 2 ^ 26) = some c ∧ 0 < (if bit f 25 = 0 then bits f 15 0 + 1 else ((s.eng e).dv (bits f 24 22)).1 % 2 ^ 17) ∧ (if bit f 25 = 0 then bits f 15 0 + 1 else ((s.eng e).dv (bits f 24 22)).1 % 2 ^ 17) * c ≤ 65536) ∧
    (∃ (s : State), ∃ (e : Nat), ∃ (f : Nat), s.canon ∧ s.tables ∧ s.fetched e 0x30 f ∧ (s.f Fld.DE_PC_PC e) < 8191 ∧ (s.engRead (pAddr e ((s.f Fld.DE_PC_PC e) + 1))).2.1 = false ∧ ((bit f 25 = 1 → ((s.eng e).dv (bits f 24 22)).2 = false)) ∧ repeatCycles ((s.engRead (pAddr e ((s.f Fld.DE_PC_PC e) + 1))).1 / 2 ^ 26) = none) :=
    ⟨⟨WE3.pick 0, 5, 291, (And.imp canon_of (And.imp tables_of fetched_of)) (by decide +kernel)⟩,
    ⟨WE3.pick 144, 5, 25165943, (And.imp canon_of (And.imp tables_of (And.imp fetched_of id))) (by decide +kernel)⟩,
    ⟨WE3.pick 176, 5, 8191, (And.imp canon_of (And.imp tables_of (And.imp fetched_of id))) (by decide +kernel)⟩,
    ⟨WE3.pick 178, 5, 8191, (And.imp canon_of (And.imp tables_of (And.imp fetched_of id))) (by decide +kernel)⟩,
    ⟨WE3.pick 209, 5, 0, And.imp canon_of (And.imp tables_of (fun x => ⟨fetched_of x, exCons (by decide +kernel) trivial⟩)) (by decide +kernel)⟩,
    ⟨WE3.pick 208, 5, 0, (And.imp canon_of (And.imp tables_of (And.imp fetched_of id))) (by decide +kernel)⟩,
    ⟨WE3.pick 224, 5, 0, And.imp canon_of (And.imp tables_of (And.imp fetched_of (keep (keep (⟨·, exSome (by decide +kernel) ((by decide +kernel))⟩))))) (by decide +kernel)⟩,
    ⟨WE3.pick 227, 5, 0, (And.imp canon_of (And.imp tables_of (And.imp fetched_of id))) (by decide +kernel)⟩⟩

theorem test_witness_EngineControlTakesEffect_1 :
    (∃ (s : State), ∃ (e : Nat), s.canon ∧ s.tables ∧ e < 256 ∧ s.engState e = 2 ∧ 0 < (s.eng e).rep ∧ (s.eng e).pcOver = false ∧ (s.eng e).stepping = false ∧ s.ownFree e ∧ (s.engRead (pAddr e (s.f Fld.DE_PC_PC e))).1 = 0) ∧
    (∃ (s : State), ∃ (e : Nat), ∃ (f : Nat), s.canon ∧ s.tables ∧ s.fetched e 0x3C f ∧ ((∀ t, t < 8 → bit f t = 1 → ((s.eng e).tag t).used = false))) ∧
    (∃ (s : State), ∃ (e : Nat), ∃ (f : Nat), s.canon ∧ s.tables ∧ s.fetched e 0x3F f) ∧
    (∃ (s : State), ∃ (e : Nat), s.canon ∧ s.tables ∧ s.svcDue e = true) ∧
    (∃ (s : State), ∃ (e : Nat), ∃ (f : Nat), s.canon ∧ s.tables ∧ s.issues e = true ∧ e < 256 ∧ (s.eng e).rep = 0 ∧ s.svcDue e = false ∧ s.ownFree e ∧ (s.engRead (pAddr e (s.f Fld.DE_PC_PC e))).1 = f ∧ f < 2 ^ 26 ∧ (s.eng e).pcOver = true) ∧
    (∃ (s : State), ∃ (e : Nat), ∃ (f : Nat), s.canon ∧ s.tables ∧ s.issues e = true ∧ e < 256 ∧ (s.eng e).rep = 0 ∧ s.svcDue e = false ∧ s.ownFree e ∧ (s.engRead (pAddr e (s.f Fld.DE_PC_PC e))).1 = f ∧ f < 2 ^ 26 ∧ (s.eng e).pcOver = false ∧ (s.engRead (pAddr e (s.f Fld.DE_PC_PC e))).2.1 = true) ∧
    (∃ (s : State), ∃ (e : Nat), ∃ (f : Nat), s.canon ∧ s.tables ∧ s.issues e = true ∧ e < 256 ∧ (s.eng e).rep = 0 ∧ s.svcDue e = false ∧ s.ownFree e ∧ (s.engRead (pAddr e (s.f Fld.DE_PC_PC e))).1 = f ∧ f < 2 ^ 26 ∧ (s.eng e).pcOver = false ∧ (s.engRead (pAddr e (s.f Fld.DE_PC_PC e))).2.1 = false ∧ f ≠ 0) :=
    ⟨⟨WE3.pick 426, 5, (And.imp canon_of (And.imp tables_of (And.imp id (And.imp id (And.imp id (And.imp id (And.imp id (And.imp own_of id)))))))) (by decide +kernel)⟩,
    ⟨WE3.pick 288, 5, 0, (And.imp canon_of (And.imp tables_of (And.imp fetched_of id))) (by decide +kernel)⟩,
    ⟨WE3.pick 336, 5, 0, (And.imp canon_of (And.imp tables_of fetched_of)) (by decide +kernel)⟩,
    ⟨WE3.pick 14, 5, (And.imp canon_of (And.imp tables_of id)) (by decide +kernel)⟩,
    ⟨WE3.pick 428, 5, 0, (And.imp canon_of (And.imp tables_of (And.imp id (And.imp id (And.imp id (And.imp id (And.imp own_of id))))))) (by decide +kernel)⟩,
    ⟨WE3.pick 429, 5, 0, (And.imp canon_of (And.imp tables_of (And.imp id (And.imp id (And.imp id (And.imp id (And.imp own_of id))))))) (by decide +kernel)⟩,
    ⟨WE3.pick 432, 5, 1, (And.imp canon_of (And.imp tables_of (And.imp id (And.imp id (And.imp id (And.imp id (And.imp own_of id))))))) (by decide +kernel)⟩⟩

theorem test_witness_EngineCorridorRequests_0 :
    (∃ (s : State), ∃ (e : Nat), ∃ (f : Nat), ∃ (t : Nat), s.canon ∧ s.tables ∧ (List.range 8).find? (fun t => !((s.eng e).tag t).used && (s.outReq (outKey (256 + e) 0 t)).isNone) = some t ∧ (s.eng e).ptrOk (bits f 22 20) = true ∧ ((s.eng e).dv (bits f 19 17)).2 = false ∧ s.fetched e 0x38 f ∧ ((s.eng e).dv ((bits f 19 17) + 1)).2 = false) ∧
    (∃ (s : State), ∃ (e : Nat), ∃ (f : Nat), ∃ (t : Nat), s.canon ∧ s.tables ∧ (List.range 8).find? (fun t => !((s.eng e).tag t).used && (s.outReq (outKey (256 + e) 0 t)).isNone) = some t ∧ (s.eng e).ptrOk (bits f 22 20) = true ∧ ((s.eng e).dv (bits f 19 17)).2 = false ∧ s.fetched e 0x39 f ∧ ((s.eng e).dv ((bits f 19 17) + 1)).2 = false) ∧
    (∃ (s : State), ∃ (e : Nat), ∃ (f : Nat), ∃ (t : Nat), s.canon ∧ s.tables ∧ (List.range 8).find? (fun t => !((s.eng e).tag t).used && (s.outReq (outKey (256 + e) 0 t)).isNone) = some t ∧ (s.eng e).ptrOk (bits f 22 20) = true ∧ ((s.eng e).dv (bits f 19 17)).2 = false ∧ s.fetched e 0x3B f) ∧
    (∃ (s : State), ∃ (e : Nat), ∃ (f : Nat), s.canon ∧ s.tables ∧ e < 256 ∧ ∃ p, ∃ s', s.take (256 + e) 1 = some (p, s') ∧ (s.eng e).rep ≠ 0 ∧ p.type = 3) ∧
    (∃ (s : State), ∃ (e : Nat), ∃ (f : Nat), s.canon ∧ s.tables ∧ e < 256 ∧ ∃ p, ∃ s', s.take (256 + e) 1 = some (p, s') ∧ ((s.eng e).rep = 0 ∨ p.type ≠ 3) ∧ ∃ r, s.outReq (outKey (256 + e) p.dstPlane p.tag) = some r ∧ r.expired = false ∧ ((s.eng e).tag p.tag).used = true ∧ ((s.eng e).tag p.tag).more = [] ∧ p.status = 2) ∧
    (∃ (s : State), ∃ (e : Nat), ∃ (f : Nat), s.canon ∧ s.tables ∧ e < 256 ∧ ∃ p, ∃ s', s.take (256 + e) 1 = some (p, s') ∧ ((s.eng e).rep = 0 ∨ p.type ≠ 3) ∧ ∃ r, s.outReq (outKey (256 + e) p.dstPlane p.tag) = some r ∧ r.expired = false ∧ ((s.eng e).tag p.tag).used = true ∧ ((s.eng e).tag p.tag).more = [] ∧ p.status = 0) ∧
    (∃ (s : State), ∃ (e : Nat), ∃ (f : Nat), s.canon ∧ s.tables ∧ e < 256 ∧ ∃ p, ∃ s', s.take (256 + e) 1 = some (p, s') ∧ ((s.eng e).rep = 0 ∨ p.type ≠ 3) ∧ ∃ r, s.outReq (outKey (256 + e) p.dstPlane p.tag) = some r ∧ r.expired = false ∧ ((s.eng e).tag p.tag).used = true ∧ ((s.eng e).tag p.tag).more = [] ∧ p.status = 1 ∧ r.pkt.type = 0 ∧ r.pkt.srcPlane = p.dstPlane ∧ r.pkt.tag = p.tag) :=
    ⟨⟨WE4.pick 0, 5, 2638592, 0, (And.imp canon_of (And.imp tables_of (And.imp id (And.imp id (And.imp id (And.imp fetched_of id)))))) (by decide +kernel)⟩,
    ⟨WE4.pick 24, 5, 1656576, 0, (And.imp canon_of (And.imp tables_of (And.imp id (And.imp id (And.imp id (And.imp fetched_of id)))))) (by decide +kernel)⟩,
    ⟨WE4.pick 48, 5, 3293696, 0, (And.imp canon_of (And.imp tables_of (And.imp id (And.imp id (And.imp id fetched_of))))) (by decide +kernel)⟩,
    ⟨WE4.pick 109, 5, 0, And.imp canon_of (And.imp tables_of (⟨·, exPair (by decide +kernel) ((by decide +kernel))⟩)) (by decide +kernel)⟩,
    ⟨WE4.pick 124, 5, 0, And.imp canon_of (And.imp tables_of (⟨·, exPair (by decide +kernel) ((⟨·, exSome (by decide +kernel) ((by decide +kernel))⟩) (by decide +kernel))⟩)) (by decide +kernel)⟩,
    ⟨WE4.pick 108, 5, 0, And.imp canon_of (And.imp tables_of (⟨·, exPair (by decide +kernel) ((⟨·, exSome (by decide +kernel) ((by decide +kernel))⟩) (by decide +kernel))⟩)) (by decide +kernel)⟩,
    ⟨WE4.pick 116, 5, 0, And.imp canon_of (And.imp tables_of (⟨·, exPair (by decide +kernel) ((⟨·, exSome (by decide +kernel) ((by decide +kernel))⟩) (by decide +kernel))⟩)) (by decide +kernel)⟩⟩

theorem test_witness_EnginesStartHaltAndStep_0 :
    (∃ (s : State), ∃ (e : Nat), s.canon ∧ s.tables ∧ e < 256 ∧ ∃ p, ∃ s', s.takeOn (ejectLinks (256 + e)) 2 (fun p => p.type == 6 && s.isFor (256 + e) p) = some (p, s') ∧ s.gateShut 1 (e / 16) = false ∧ s.engState e = 1) ∧
    (∃ (s : State), ∃ (e : Nat), s.canon ∧ s.tables ∧ e < 256 ∧ ∃ p, ∃ s', s.takeOn (ejectLinks (256 + e)) 2 (fun p => p.type == 6 && s.isFor (256 + e) p) = some (p, s') ∧ s.gateShut 1 (e / 16) = false ∧ s.engState e ≠ 1) ∧
    (∃ (s : State), s.canon ∧ s.tables) ∧
    (∃ (s : State), ∃ (e : Nat), ∃ r, s.canon ∧ s.tables ∧ s.engState e = 2 ∧ s.f Fld.DE_CTRL_HALT e = 1 ∧ (s.eng e).rep = 0 ∧ (s.eng e).haltCmds = [r] ∧ ∃ q, s.inprogOf r = some q ∧ True) ∧
    (∃ (s : State), ∃ (e : Nat), s.canon ∧ s.tables ∧ s.engState e = 2 ∧ s.f Fld.DE_CTRL_HALT e = 1 ∧ (s.eng e).rep ≠ 0) ∧
    (∃ (s : State), ∃ (e : Nat), s.canon ∧ s.tables ∧ s.engState e = 3) ∧
    (∃ (s : State), ∃ (e : Nat), s.canon ∧ s.tables ∧ s.rfOpen e = true) ∧
    (∃ (s : State), ∃ (e : Nat), s.canon ∧ s.tables ∧ e < 256 ∧ (s.eng e).rep ≠ 0) :=
    ⟨⟨WE5.pick 2, 5, And.imp canon_of (And.imp tables_of (⟨·, exPair (by decide +kernel) ((by decide +kernel))⟩)) (by decide +kernel)⟩,
    ⟨WE5.pick 0, 5, And.imp canon_of (And.imp tables_of (⟨·, exPair (by decide +kernel) ((by decide +kernel))⟩)) (by decide +kernel)⟩,
    ⟨WE5.pick 0, (And.imp canon_of tables_of) (by decide +kernel)⟩,
    ⟨WE5.pick 46, 5, (0, 0, 546, 7), And.imp canon_of (And.imp tables_of (keep (keep (keep (⟨·, exSome (by decide +kernel) trivial⟩))))) (by decide +kernel)⟩,
    ⟨WE5.pick 19, 5, (And.imp canon_of (And.imp tables_of id)) (by decide +kernel)⟩,
    ⟨WE5.pick 6, 5, (And.imp canon_of (And.imp tables_of id)) (by decide +kernel)⟩,
    ⟨WE5.pick 6, 5, (And.imp canon_of (And.imp tables_of id)) (by decide +kernel)⟩,
    ⟨WE5.pick 1, 5, (And.imp canon_of (And.imp tables_of id)) (by decide +kernel)⟩⟩

theorem test_witness_EnginesStartHaltAndStep_1 :
    (∃ (s : State), ∃ (e : Nat), s.canon ∧ s.tables ∧ e < 256 ∧ (s.eng e).rep = 0 ∧ ∃ p, ∃ s', s.take (256 + e) 0 = some (p, s') ∧ ∃ c, s'.engDeny e p = some c ∧ True) ∧
    (∃ (s : State), ∃ (e : Nat), s.canon ∧ s.tables ∧ e < 256 ∧ (s.eng e).rep = 0 ∧ ∃ p, ∃ s', s.take (256 + e) 0 = some (p, s') ∧ s'.engDeny e p = none ∧ p.type = 1 ∧ p.poison = 0 ∧ p.len = 3 ∧ p.payload.length = 4 ∧ p.addr % 32 = 0 ∧ decodeAddr p.addr = .engMem e ∧ s.syn p.addr = 0) ∧
    (∃ (s : State), ∃ (h : CmdHdr), ∃ (e : Nat), s.canon ∧ s.tables ∧ s.accepts ((⟨h, 0x0602, .r, argBytes [(6, 2, e)], false⟩ : Ebryn)) ∧ e < 256 ∧ s.engState e = 2) ∧
    (∃ (s : State), ∃ (h : CmdHdr), ∃ (e : Nat), s.canon ∧ s.tables ∧ s.accepts ((⟨h, 0x0603, .r, argBytes [(6, 2, e)], false⟩ : Ebryn)) ∧ e < 256 ∧ s.engState e = 3) ∧
    (∃ (s : State), ∃ (h : CmdHdr), ∃ (e : Nat), s.canon ∧ s.tables ∧ s.accepts ((⟨h, 0x0603, .r, argBytes [(6, 2, e)], false⟩ : Ebryn)) ∧ e < 256 ∧ s.engState e = 2) ∧
    (∃ (s : State), ∃ (h : CmdHdr), ∃ (e : Nat), s.canon ∧ s.tables ∧ s.accepts ((⟨h, 0x0604, .r, argBytes [(6, 2, e)], false⟩ : Ebryn)) ∧ e < 256 ∧ s.engState e = 3) ∧
    (∃ (s : State), ∃ (h : CmdHdr), ∃ (e : Nat), ∃ (v : Nat), s.canon ∧ s.tables ∧ s.accepts ((⟨h, 0x0605, .r, argBytes [(6, 2, e), (8, 1, v)], false⟩ : Ebryn)) ∧ e < 256 ∧ v < 2 ∧ s.engState e ≠ 6 ∧ s.engState e ≠ 0 ∧ s.f Fld.SC_STATUS_ENG_SHED 0 = 0 ∧ s.ownFree e) ∧
    (∃ (s : State), ∃ (h : CmdHdr), ∃ (e : Nat), ∃ (v : Nat), ∃ vals, s.canon ∧ s.tables ∧ s.accepts ((⟨h, 0x0606, .r, argBytes ([(6, 2, e), (8, 2, v)] ++ (List.range 8).map fun k => (12 + 4 * k, 4, nth vals k)), false⟩ : Ebryn)) ∧ e < 256 ∧ v < 8192 ∧ s.mapBit Fld.SC_EMAP_MAP e = false ∧ s.engState e = 1) :=
    ⟨⟨WE5.pick 14, 5, And.imp canon_of (And.imp tables_of (keep (⟨·, exPair (by decide +kernel) (exSome (by decide +kernel) trivial)⟩))) (by decide +kernel)⟩,
    ⟨WE5.pick 30, 5, And.imp canon_of (And.imp tables_of (keep (⟨·, exPair (by decide +kernel) ((by decide +kernel))⟩))) (by decide +kernel)⟩,
    ⟨WE5.pick 4, { port := 17, node := 0, ep := 3, tag := 263, len := 58 }, 5, (And.imp canon_of (And.imp tables_of (And.imp accepts_of id))) (by decide +kernel)⟩,
    ⟨WE5.pick 6, { port := 17, node := 0, ep := 3, tag := 263, len := 58 }, 5, (And.imp canon_of (And.imp tables_of (And.imp accepts_of id))) (by decide +kernel)⟩,
    ⟨WE5.pick 4, { port := 17, node := 0, ep := 3, tag := 263, len := 58 }, 5, (And.imp canon_of (And.imp tables_of (And.imp accepts_of id))) (by decide +kernel)⟩,
    ⟨WE5.pick 6, { port := 17, node := 0, ep := 3, tag := 263, len := 58 }, 5, (And.imp canon_of (And.imp tables_of (And.imp accepts_of id))) (by decide +kernel)⟩,
    ⟨WE5.pick 2, { port := 17, node := 0, ep := 3, tag := 263, len := 58 }, 5, 0, (And.imp canon_of (And.imp tables_of (And.imp accepts_of (And.imp id (And.imp id (And.imp id (And.imp id (And.imp id own_of)))))))) (by decide +kernel)⟩,
    ⟨WE5.pick 2, { port := 17, node := 0, ep := 3, tag := 263, len := 58 }, 5, 0, [], (And.imp canon_of (And.imp tables_of (And.imp accepts_of id))) (by decide +kernel)⟩⟩

theorem test_witness_EnginesStartHaltAndStep_2 :
    (∃ (s : State), ∃ (e : Nat), ∃ c, ∃ q, s.canon ∧ s.tables ∧ s.fetched e 0 0 ∧ (s.eng e).startCmd = some c ∧ c.cmd.1 = 0 ∧ s.inprogOf c.cmd = some q ∧ q.injected = false) :=
    ⟨WE5.pick 4, 5, { cmd := (0, 0, 546, 7), words := [], tags := [] }, { port := 0, node := 0, ep := 546, tag := 7, opcode := 1538, committed := true, hdrTag := 0, args := [], injected := false }, (And.imp canon_of (And.imp tables_of (And.imp fetched_of id))) (by decide +kernel)⟩

theorem test_witness_EngineArithmeticRules_0 :
    (∃ (w : Nat), 0 < w) ∧
    (∃ (w : Nat), ∃ (sat : Bool), ∃ (v : Int), 0 < w ∧ (fitRange w sat v).2 = false) ∧
    (∃ (w : Nat), ∃ (sat : Bool), ∃ (v : Int), 0 < w ∧ sat = true ∧ (fitRange w sat v).2 = true) ∧
    (∃ (w : Nat), ∃ (sat : Bool), 0 < w ∧ sat = false) ∧
    (∃ (v : Int), ∃ (sh : Nat), 0 < sh ∧ (2 * (v - (roundShift v sh) * 2 ^ sh) = 2 ^ sh ∨ 2 * (v - (roundShift v sh) * 2 ^ sh) = -(2 ^ sh : Int))) ∧
    (∃ (xl : Nat), ∃ (p : Nat), p < 2 ^ 14 ∧ xl < 2 ^ 16 ∧ modeOk xl = true ∧ (xl / 2 ^ 14 = 0 ∨ (xl / 2 ^ 14 = 1 ∧ (xl % 2 ^ 14 + 1) ≤ p - (p / 2 ^ clog2 (xl % 2 ^ 14 + 1) * 2 ^ clog2 (xl % 2 ^ 14 + 1))))) ∧
    (∃ (xl : Nat), ∃ (p : Nat), p < 2 ^ 14 ∧ xl < 2 ^ 16 ∧ modeOk xl = true ∧ xl / 2 ^ 14 = 1 ∧ p - (p / 2 ^ clog2 (xl % 2 ^ 14 + 1) * 2 ^ clog2 (xl % 2 ^ 14 + 1)) < (xl % 2 ^ 14 + 1)) ∧
    (∃ (xl : Nat), ∃ (p : Nat), p < 2 ^ 14 ∧ xl < 2 ^ 16 ∧ modeOk xl = true ∧ xl / 2 ^ 14 = 2) :=
    ⟨⟨1, (by decide +kernel)⟩,
    ⟨1, true, 0, (by decide +kernel)⟩,
    ⟨1, true, 1, (by decide +kernel)⟩,
    ⟨1, false, (by decide +kernel)⟩,
    ⟨1, 1, (by decide +kernel)⟩,
    ⟨0, 0, (by decide +kernel)⟩,
    ⟨16387, 0, (by decide +kernel)⟩,
    ⟨32771, 0, (by decide +kernel)⟩⟩

theorem test_witness_EngineArithmeticRules_1 :
    (∃ (x : Nat), ∃ (y : Nat), ∃ (x' : Nat), ∃ (y' : Nat), x % 65536 = x' % 65536 ∧ y % 65536 = y' % 65536) ∧
    (∃ (x : Nat), ∃ (y : Nat), ∃ (x' : Nat), ∃ (y' : Nat), x / 65536 % 65536 = x' / 65536 % 65536 ∧ y / 65536 % 65536 = y' / 65536 % 65536) :=
    ⟨⟨0, 0, 0, 0, (by decide +kernel)⟩,
    ⟨0, 0, 0, 0, (by decide +kernel)⟩⟩

theorem test_witness_RepairWindowsAndSlices_0 :
    (∃ (s : State), ∃ (n : Nat), s.canon ∧ s.tables ∧ ∃ w, (s.stair n).win = some w ∧ w.phase = 1) ∧
    (∃ (s : State), ∃ (n : Nat), s.canon ∧ s.tables ∧ ∃ w, (s.stair n).win = some w ∧ w.phase = 2) ∧
    (∃ (s : State), ∃ (n : Nat), s.canon ∧ s.tables ∧ ∃ w, (s.stair n).win = some w ∧ ∃ (seg : Nat), ∃ (pos : Nat), w.phase = 2 ∧ s.f Fld.ST_STATUS_STATE n ≠ 2 ∧ seg < 8 ∧ pos < 32 ∧ w.group < 317) ∧
    (∃ (s : State), ∃ (n : Nat), s.canon ∧ s.tables ∧ ∃ w, (s.stair n).win = some w ∧ w.phase = 3 ∧ w.waiting = []) ∧
    (∃ (s : State), ∃ (n : Nat), s.canon ∧ s.tables ∧ ∃ w, (s.stair n).win = some w ∧ w.phase = 3 ∧ ∃ g, ∃ rest, w.waiting = g :: rest ∧ True) ∧
    (∃ (s : State), ∃ (n : Nat), ∃ (g : Nat), ∃ (seg : Nat), s.canon ∧ s.tables ∧ n < 128 ∧ 297 ≤ g ∧ g ≤ 304 ∧ (seg = 1 ∨ seg = 2) ∧ (s.stair n).win = none) ∧
    (∃ (s : State), ∃ (n : Nat), s.canon ∧ s.tables ∧ n < 128 ∧ s.f Fld.BT_BG_CFG_ENABLE 0 = 1 ∧ s.ready = true ∧ s.safe = false ∧ s.resuming = false ∧ s.f Fld.PW_SHED_STATUS_LEVEL 0 = 0 ∧ s.rpState ≠ 4 ∧ (s.stair n).slice = none ∧ (s.stair n).win = none ∧ s.sliceFits (128 * ((s.stair n).sliceBank % 4) + n) = true) ∧
    (∃ (s : State), ∃ (n : Nat), s.canon ∧ s.tables ∧ ∃ sl, (s.stair n).slice = some sl ∧ n < 128 ∧ sl.bank % 128 = n ∧ sl.bank < 512 ∧ sl.seg < 64 ∧ (s.stair n).win = none ∧ sl.phase = 1) :=
    ⟨⟨WF1.pick 1, 5, And.imp canon_of (fun x => ⟨tables_of x, exSome (by decide +kernel) ((by decide +kernel))⟩) (by decide +kernel)⟩,
    ⟨WF1.pick 2, 5, And.imp canon_of (fun x => ⟨tables_of x, exSome (by decide +kernel) ((by decide +kernel))⟩) (by decide +kernel)⟩,
    ⟨WF1.pick 2, 5, And.imp canon_of (fun x => ⟨tables_of x, exSome (by decide +kernel) (⟨0, 0, (by decide +kernel)⟩)⟩) (by decide +kernel)⟩,
    ⟨WF1.pick 7, 5, And.imp canon_of (fun x => ⟨tables_of x, exSome (by decide +kernel) ((by decide +kernel))⟩) (by decide +kernel)⟩,
    ⟨WF1.pick 8, 5, And.imp canon_of (fun x => ⟨tables_of x, exSome (by decide +kernel) ((⟨·, exCons (by decide +kernel) trivial⟩) (by decide +kernel))⟩) (by decide +kernel)⟩,
    ⟨WF1.pick 0, 0, 297, 1, (And.imp canon_of (And.imp tables_of id)) (by decide +kernel)⟩,
    ⟨WF1.pick 0, 0, (And.imp canon_of (And.imp tables_of id)) (by decide +kernel)⟩,
    ⟨WF1.pick 10, 5, And.imp canon_of (fun x => ⟨tables_of x, exSome (by decide +kernel) ((by decide +kernel))⟩) (by decide +kernel)⟩⟩

theorem test_witness_RepairWindowsAndSlices_1 :
    (∃ (s : State), ∃ (n : Nat), s.canon ∧ s.tables ∧ ∃ sl, (s.stair n).slice = some sl ∧ n < 128 ∧ sl.bank % 128 = n ∧ sl.bank < 512 ∧ sl.seg < 64 ∧ (s.stair n).win = none ∧ sl.phase = 2) ∧
    (∃ (s : State), ∃ (n : Nat), s.canon ∧ s.tables ∧ ∃ sl, (s.stair n).slice = some sl ∧ ∃ (t : TestFail), n < 128 ∧ sl.bank % 128 = n ∧ sl.bank < 512 ∧ sl.seg < 64 ∧ (s.stair n).win = none ∧ sl.phase = 2 ∧ t.kind = 1 ∧ t.unit = sl.bank) ∧
    (∃ (s : State), ∃ (n : Nat), s.canon ∧ s.tables ∧ ∃ sl, (s.stair n).slice = some sl ∧ n < 128 ∧ sl.bank % 128 = n ∧ sl.bank < 512 ∧ sl.seg < 64 ∧ (s.stair n).win = none ∧ sl.phase = 3 ∧ sl.fail = []) ∧
    (∃ (s : State), ∃ (n : Nat), s.canon ∧ s.tables ∧ ∃ sl, (s.stair n).slice = some sl ∧ n < 128 ∧ sl.bank % 128 = n ∧ sl.bank < 512 ∧ sl.seg < 64 ∧ (sl.expired = true ∨ sl.phase = 3)) ∧
    (∃ (s : State), ∃ (n : Nat), s.canon ∧ s.tables ∧ ∃ sl, (s.stair n).slice = some sl ∧ n < 128 ∧ sl.bank % 128 = n ∧ sl.bank < 512 ∧ sl.seg < 64 ∧ sl.expired = false ∧ sl.phase ≠ 3) ∧
    (∃ (s : State), ∃ (h : CmdHdr), ∃ (kind : Nat), ∃ (unit : Nat), s.canon ∧ s.tables ∧ s.accepts ((⟨h, 0x0B05, .r, argBytes [(6, 1, kind), (8, 2, unit)], false⟩ : Ebryn)) ∧ unit < kindUnits kind ∧ s.outOfService kind unit = true ∧ ((s.ready = true → s.boot.failed = [] ∧ s.tierNow ≠ 0))) ∧
    (∃ (s : State), ∃ (h : CmdHdr), ∃ (kind : Nat), ∃ (unit : Nat), s.canon ∧ s.tables ∧ s.accepts ((⟨h, 0x0B05, .r, argBytes [(6, 1, kind), (8, 2, unit)], false⟩ : Ebryn)) ∧ unit < kindUnits kind ∧ s.outOfService kind unit = false) :=
    ⟨⟨WF1.pick 11, 5, And.imp canon_of (fun x => ⟨tables_of x, exSome (by decide +kernel) ((by decide +kernel))⟩) (by decide +kernel)⟩,
    ⟨WF1.pick 11, 5, And.imp canon_of (fun x => ⟨tables_of x, exSome (by decide +kernel) (⟨{ kind := 1, layer := 0, unit := 133, addr := 5, seg := 0, bit := 17 }, (by decide +kernel)⟩)⟩) (by decide +kernel)⟩,
    ⟨WF1.pick 12, 5, And.imp canon_of (fun x => ⟨tables_of x, exSome (by decide +kernel) ((by decide +kernel))⟩) (by decide +kernel)⟩,
    ⟨WF1.pick 12, 5, And.imp canon_of (fun x => ⟨tables_of x, exSome (by decide +kernel) ((by decide +kernel))⟩) (by decide +kernel)⟩,
    ⟨WF1.pick 10, 5, And.imp canon_of (fun x => ⟨tables_of x, exSome (by decide +kernel) ((by decide +kernel))⟩) (by decide +kernel)⟩,
    ⟨WF1.pick 0, { port := 0, node := 0, ep := 546, tag := 7, len := 58 }, 1, 0, (And.imp canon_of (And.imp tables_of (And.imp accepts_of id))) (by decide +kernel)⟩,
    ⟨WF1.pick 0, { port := 0, node := 0, ep := 546, tag := 7, len := 58 }, 5, 0, (And.imp canon_of (And.imp tables_of (And.imp accepts_of id))) (by decide +kernel)⟩⟩

theorem test_witness_MowingAndCheckerTestMode_0 :
    (∃ (s : State), ∃ (m : MowStore), s.canon ∧ s.tables ∧ s.f Fld.EC_STATUS_MOW_RUNNING 0 = 1 ∧ s.mowable m = true ∧ s.mowWaits m = false ∧ mget (fun _ => 0) s.mow.scrubs m.key = 0 ∧ mwf (fun _ => 0) s.mow.scrubs = true ∧ mwf (fun _ => 0) s.mow.planeRow = true) ∧
    (∃ (s : State), ∃ (m : MowStore), s.canon ∧ s.tables ∧ s.f Fld.EC_STATUS_MOW_RUNNING 0 = 1 ∧ (mget (fun _ => 0) s.mow.scrubs m.key) % 33 ≠ 0 ∧ s.mowWaits m = false ∧ s.mowable m = true ∧ mwf (fun _ => 0) s.mow.scrubs = true ∧ s.scrubTurn m = false) ∧
    (∃ (s : State), ∃ (m : MowStore), ∃ (same : Bool), s.canon ∧ s.tables ∧ s.f Fld.EC_STATUS_MOW_RUNNING 0 = 1 ∧ (mget (fun _ => 0) s.mow.scrubs m.key) % 33 ≠ 0 ∧ s.mowWaits m = false ∧ s.mowable m = true ∧ mwf (fun _ => 0) s.mow.scrubs = true ∧ s.scrubTurn m = true ∧ s.scrubLoses m same = true) ∧
    (∃ (s : State), ∃ (m : MowStore), ∃ (same : Bool), s.canon ∧ s.tables ∧ s.f Fld.EC_STATUS_MOW_RUNNING 0 = 1 ∧ (mget (fun _ => 0) s.mow.scrubs m.key) % 33 ≠ 0 ∧ s.mowWaits m = false ∧ s.mowable m = true ∧ mwf (fun _ => 0) s.mow.scrubs = true ∧ s.scrubTurn m = true ∧ s.scrubLoses m same = false ∧ (s.scrubMeets m (m.rowAddr ((mget (fun _ => 0) s.mow.scrubs m.key) / 33) + 32 * (32 - (mget (fun _ => 0) s.mow.scrubs m.key) % 33)) same).isSome = true) ∧
    (∃ (s : State), ∃ (m : MowStore), ∃ (same : Bool), s.canon ∧ s.tables ∧ s.f Fld.EC_STATUS_MOW_RUNNING 0 = 1 ∧ (mget (fun _ => 0) s.mow.scrubs m.key) % 33 ≠ 0 ∧ s.mowWaits m = false ∧ s.mowable m = true ∧ mwf (fun _ => 0) s.mow.scrubs = true ∧ s.scrubTurn m = true ∧ s.scrubLoses m same = false ∧ s.scrubMeets m (m.rowAddr ((mget (fun _ => 0) s.mow.scrubs m.key) / 33) + 32 * (32 - (mget (fun _ => 0) s.mow.scrubs m.key) % 33)) same = none) ∧
    (∃ (s : State), s.canon ∧ s.tables ∧ s.mow.started = true ∧ (1000 * s.f Fld.EC_MOW_CFG_BASE_S 0) < 2 ^ Fld.EC_MOW_PERIOD_PERIOD_MS.width) ∧
    (∃ (s : State), ∃ (b : Nat), s.canon ∧ s.tables ∧ ∃ sp, ∃ row, ∃ rest, (s.bank b).copy = (sp, row) :: rest ∧ s.safe = false ∧ s.resuming = false ∧ s.f Fld.LB_PWR_PSTATE b = 0 ∧ s.f Fld.LB_STATUS_WIPE_BUSY b = 0) ∧
    (∃ (s : State), ∃ (v : Nat), s.canon ∧ s.tables ∧ bit v 31 = 1 ∧ s.f Fld.EC_CTM_CTRL_ENABLE 0 = 0 ∧ s.ctmWaits = false ∧ s.ctmStatus (bits v 8 0) = 0 ∧ s.sliceOn (bits v 8 0) = false) :=
    ⟨⟨WF2.pick 0, MowStore.bank 5, (And.imp canon_of (And.imp tables_of id)) (by decide +kernel)⟩,
    ⟨WF2.pick 8, MowStore.bank 5, (And.imp canon_of (And.imp tables_of id)) (by decide +kernel)⟩,
    ⟨WF2.pick 10, MowStore.bank 5, true, (And.imp canon_of (And.imp tables_of id)) (by decide +kernel)⟩,
    ⟨WF2.pick 11, MowStore.bank 5, true, (And.imp canon_of (And.imp tables_of id)) (by decide +kernel)⟩,
    ⟨WF2.pick 3, MowStore.bank 5, true, (And.imp canon_of (And.imp tables_of id)) (by decide +kernel)⟩,
    ⟨WF2.pick 0, (And.imp canon_of (And.imp tables_of id)) (by decide +kernel)⟩,
    ⟨WF2.pick 14, 5, And.imp canon_of (fun x => ⟨tables_of x, exConsPair (by decide +kernel) ((by decide +kernel))⟩) (by decide +kernel)⟩,
    ⟨WF2.pick 13, 3221225475, (And.imp canon_of (And.imp tables_of id)) (by decide +kernel)⟩⟩

theorem test_witness_MowingAndCheckerTestMode_1 :
    (∃ (s : State), ∃ (v : Nat), s.canon ∧ s.tables ∧ bit v 31 = 1 ∧ s.f Fld.EC_CTM_CTRL_ENABLE 0 = 0 ∧ s.ctmWaits = false ∧ s.ctmStatus (bits v 8 0) ≠ 0) ∧
    (∃ (s : State), ∃ (v : Nat), s.canon ∧ s.tables ∧ bit v 31 = 1 ∧ s.f Fld.EC_CTM_CTRL_ENABLE 0 = 0 ∧ s.ctmWaits = false ∧ s.ctmStatus (bits v 8 0) = 0 ∧ s.sliceOn (bits v 8 0) = true) ∧
    (∃ (s : State), ∃ (v : Nat), s.canon ∧ s.tables ∧ bit v 31 = 0 ∧ s.f Fld.EC_CTM_CTRL_ENABLE 0 = 1 ∧ s.ctmWaits = false) ∧
    (∃ (s : State), ∃ (b : Nat), ∃ (h : CmdHdr), ∃ (en : Nat), ∃ (raw : Nat), s.canon ∧ s.tables ∧ s.accepts ((⟨h, 0x0B10, .r, argBytes [(6, 2, b), (8, 1, en), (9, 1, raw)], false⟩ : Ebryn)) ∧ b < 512 ∧ raw < 2 ∧ en = 1 ∧ s.ctmStatus b = 0 ∧ s.sliceOn b = false ∧ s.f Fld.EC_CTM_CTRL_ENABLE 0 = 0 ∧ (s.bank b).ctmWait = false) ∧
    (∃ (s : State), ∃ (b : Nat), ∃ (h : CmdHdr), ∃ (en : Nat), ∃ (raw : Nat), s.canon ∧ s.tables ∧ s.accepts ((⟨h, 0x0B10, .r, argBytes [(6, 2, b), (8, 1, en), (9, 1, raw)], false⟩ : Ebryn)) ∧ b < 512 ∧ raw < 2 ∧ en = 1 ∧ s.ctmStatus b ≠ 0) ∧
    (∃ (s : State), ∃ (b : Nat), ∃ (h : CmdHdr), ∃ (en : Nat), ∃ (raw : Nat), s.canon ∧ s.tables ∧ s.accepts ((⟨h, 0x0B10, .r, argBytes [(6, 2, b), (8, 1, en), (9, 1, raw)], false⟩ : Ebryn)) ∧ b < 512 ∧ raw < 2 ∧ en = 0 ∧ s.inCtm b = true ∧ s.ctmWaits = false) ∧
    (∃ (s : State), ∃ (b : Nat), ∃ (h : CmdHdr), ∃ (en : Nat), ∃ (raw : Nat), s.canon ∧ s.tables ∧ s.accepts ((⟨h, 0x0B10, .r, argBytes [(6, 2, b), (8, 1, en), (9, 1, raw)], false⟩ : Ebryn)) ∧ b < 512 ∧ raw < 2 ∧ en = 0 ∧ s.inCtm b = false ∧ (s.bank b).ctmWait = false) ∧
    (∃ (s : State), ∃ (n : Nat), s.canon ∧ s.tables ∧ n < 128 ∧ s.active n ≠ none ∧ s.pastCommitPoint = false) :=
    ⟨⟨WF2.pick 0, 2147483653, (And.imp canon_of (And.imp tables_of id)) (by decide +kernel)⟩,
    ⟨WF2.pick 13, 2147483653, (And.imp canon_of (And.imp tables_of id)) (by decide +kernel)⟩,
    ⟨WF2.pick 17, 0, (And.imp canon_of (And.imp tables_of id)) (by decide +kernel)⟩,
    ⟨WF2.pick 13, 3, { port := 0, node := 0, ep := 546, tag := 7, len := 58 }, 1, 0, (And.imp canon_of (And.imp tables_of (And.imp accepts_of id))) (by decide +kernel)⟩,
    ⟨WF2.pick 0, 0, { port := 0, node := 0, ep := 546, tag := 7, len := 58 }, 1, 0, (And.imp canon_of (And.imp tables_of (And.imp accepts_of id))) (by decide +kernel)⟩,
    ⟨WF2.pick 17, 5, { port := 0, node := 0, ep := 546, tag := 7, len := 58 }, 0, 0, (And.imp canon_of (And.imp tables_of (And.imp accepts_of id))) (by decide +kernel)⟩,
    ⟨WF2.pick 0, 0, { port := 0, node := 0, ep := 546, tag := 7, len := 58 }, 0, 0, (And.imp canon_of (And.imp tables_of (And.imp accepts_of id))) (by decide +kernel)⟩,
    ⟨WF2.pick 0, 3, (And.imp canon_of (And.imp tables_of id)) (by decide +kernel)⟩⟩

theorem test_witness_FlitsAreSentTakenAndReplayed_0 :
    (∃ (s : State), ∃ (k : Nat), ∃ (v : Nat), s.canon ∧ s.tables ∧ s.linkSteady k ∧ s.mayStart k = true ∧ s.replaying = false ∧ s.linkShut k = false ∧ v < 4 ∧ 0 < nth (s.link k).cred v ∧ s.requireEnc k = false ∧ (s.link k).enc.txKey = none ∧ (s.link k).lmbOut = [] ∧ s.takeOn (ejectLinks (linkEp k)) v (fun p => s.isFor (linkEp k) p && p.dstNode == s.node && isRequest p.type) = none ∧ s.takeOn (ejectLinks (linkEp k)) v (s.forLink k) = none ∧ ∃ t, ∃ rest, mget (fun _ => []) (s.link k).txQ v = t :: rest ∧ rest = [] ∧ t.left = t.pkt.wireSize ∧ t.left ≤ 240 ∧ t.pkt.wire.length = t.left ∧ 0 < t.left) ∧
    (∃ (s : State), ∃ (k : Nat), ∃ (f : Flit), s.canon ∧ s.tables ∧ s.resuming = false ∧ s.linkSteady k ∧ f.ok k = true ∧ ∃ rest, ackReplay (s.link k) f.ack = some rest ∧ ((∀ v, v < 4 → nth f.credits v ≤ nth (s.link k).outst v)) ∧ f.seq = (s.link k).rxSeq ∧ f.enc = false ∧ s.requireEnc k = false ∧ f.vc < 4 ∧ (s.link k).enc.vcStarted.getD f.vc true = true ∧ parsePkt (mget (fun _ => []) (s.link k).rxStream f.vc ++ f.bytes.take f.fill) = none) ∧
    (∃ (s : State), ∃ (k : Nat), ∃ (f : Flit), s.canon ∧ s.tables ∧ s.resuming = false ∧ s.linkSteady k ∧ f.ok k = true ∧ ∃ rest, ackReplay (s.link k) f.ack = some rest ∧ ((∀ v, v < 4 → nth f.credits v ≤ nth (s.link k).outst v)) ∧ f.seq ≠ (s.link k).rxSeq ∧ k < 16) ∧
    (∃ (s : State), ∃ (k : Nat), ∃ (f : Flit), s.canon ∧ s.tables ∧ s.resuming = false ∧ s.linkSteady k ∧ f.ok k = true ∧ ∃ rest, ackReplay (s.link k) f.ack = some rest ∧ ((∀ v, v < 4 → nth f.credits v ≤ nth (s.link k).outst v)) ∧ 16 ≤ k ∧ seqAhead (s.link k) f.seq = true ∧ (s.link k).nakSent = false) ∧
    (∃ (s : State), ∃ (k : Nat), ∃ (f : Flit), s.canon ∧ s.tables ∧ s.resuming = false ∧ s.linkSteady k ∧ f.ok k = true ∧ ∃ rest, ackReplay (s.link k) f.ack = some rest ∧ ((∀ v, v < 4 → nth f.credits v ≤ nth (s.link k).outst v)) ∧ ((16 ≤ k → (s.link k).pmReq = 0 ∨ f.pmReq ≠ 0))) ∧
    (∃ (s : State), ∃ (k : Nat), ∃ (f : Flit), s.canon ∧ s.tables ∧ s.resuming = false ∧ s.linkSteady k ∧ f.ok k = true ∧ ∃ rest, ackReplay (s.link k) f.ack = some rest ∧ ((∀ v, v < 4 → nth f.credits v ≤ nth (s.link k).outst v)) ∧ 16 ≤ k ∧ (s.link k).pmReq ≠ 0 ∧ f.pmReq = 0 ∧ (s.link k).forced = false ∧ s.f Fld.SL_PWR_TX_HOLD (k - 16) = 0 ∧ (s.txState k = 1 ∨ s.txState k = 2)) ∧
    (∃ (s : State), ∃ (k : Nat), ∃ (f : Flit), s.canon ∧ s.tables ∧ s.resuming = false ∧ s.linkSteady k ∧ f.ok k = true ∧ ∃ rest, ackReplay (s.link k) f.ack = some rest ∧ ((∀ v, v < 4 → nth f.credits v ≤ nth (s.link k).outst v)) ∧ 16 ≤ k ∧ f.seq = (s.link k).rxSeq ∧ f.enc = false ∧ leNat (f.bytes.take 2) ≠ 0x0808 ∧ (s.link k).lmbWait = false ∧ f.bytes.length = 240) ∧
    (∃ (s : State), ∃ (k : Nat), ∃ (f : Flit), s.canon ∧ s.tables ∧ s.resuming = false ∧ s.linkSteady k ∧ f.ok k = true ∧ ∃ rest, ackReplay (s.link k) f.ack = some rest ∧ ((∀ v, v < 4 → nth f.credits v ≤ nth (s.link k).outst v)) ∧ 16 ≤ k ∧ rest ≠ [] ∧ ((∀ x ∈ rest, (s.link k).replaysOf x.seq < 8))) :=
    ⟨⟨WL1.pick 1, 3, 1, And.imp canon_of (And.imp tables_of (And.imp linkSteady_of (keep (keep (keep (keep (keep (keep (keep (keep (keep (⟨·, exCons (by decide +kernel) ((by decide +kernel))⟩)))))))))))) (by decide +kernel)⟩,
    ⟨WL1.pick 0, 3, { kind := 0, vc := 1, enc := false, kph := 0, start := 255, fill := 20, seq := 3, ack := 4, credits := [0, 0, 0, 0], bytes := ([3, 0, 1] ++ List.replicate 237 119), txState := 3, pmReq := 0, forced := false, crc := 2625380591, good := true }, And.imp canon_of (And.imp tables_of (keep (And.imp linkSteady_of (⟨·, exSome (by decide +kernel) ((by decide +kernel))⟩)))) (by decide +kernel)⟩,
    ⟨WL1.pick 0, 3, { kind := 0, vc := 1, enc := false, kph := 0, start := 255, fill := 20, seq := 4, ack := 4, credits := [0, 0, 0, 0], bytes := ([3, 0, 1] ++ List.replicate 237 119), txState := 0, pmReq := 0, forced := false, crc := 1335250228, good := true }, And.imp canon_of (And.imp tables_of (keep (And.imp linkSteady_of (⟨·, exSome (by decide +kernel) ((by decide +kernel))⟩)))) (by decide +kernel)⟩,
    ⟨WL1.pick 56, 20, { kind := 0, vc := 1, enc := false, kph := 0, start := 255, fill := 20, seq := 4, ack := 4, credits := [0, 0, 0, 0], bytes := ([3, 0, 1] ++ List.replicate 237 119), txState := 0, pmReq := 0, forced := false, crc := 1335250228, good := true }, And.imp canon_of (And.imp tables_of (keep (And.imp linkSteady_of (⟨·, exSome (by decide +kernel) ((by decide +kernel))⟩)))) (by decide +kernel)⟩,
    ⟨WL1.pick 0, 3, { kind := 0, vc := 1, enc := false, kph := 0, start := 255, fill := 20, seq := 3, ack := 4, credits := [0, 0, 0, 0], bytes := ([3, 0, 1] ++ List.replicate 237 119), txState := 3, pmReq := 0, forced := false, crc := 2625380591, good := true }, And.imp canon_of (And.imp tables_of (keep (And.imp linkSteady_of (⟨·, exSome (by decide +kernel) ((by decide +kernel))⟩)))) (by decide +kernel)⟩,
    ⟨WL1.pick 67, 20, { kind := 0, vc := 1, enc := false, kph := 0, start := 255, fill := 20, seq := 3, ack := 4, credits := [0, 0, 0, 0], bytes := ([3, 0, 1] ++ List.replicate 237 119), txState := 3, pmReq := 0, forced := false, crc := 2625380591, good := true }, And.imp canon_of (And.imp tables_of (keep (And.imp linkSteady_of (⟨·, exSome (by decide +kernel) ((by decide +kernel))⟩)))) (by decide +kernel)⟩,
    ⟨WL1.pick 56, 20, { kind := 0, vc := 1, enc := false, kph := 0, start := 255, fill := 20, seq := 3, ack := 4, credits := [0, 0, 0, 0], bytes := ([3, 0, 1] ++ List.replicate 237 119), txState := 3, pmReq := 0, forced := false, crc := 2625380591, good := true }, And.imp canon_of (And.imp tables_of (keep (And.imp linkSteady_of (⟨·, exSome (by decide +kernel) ((by decide +kernel))⟩)))) (by decide +kernel)⟩,
    ⟨WL1.pick 56, 20, { kind := 0, vc := 1, enc := false, kph := 0, start := 255, fill := 20, seq := 3, ack := 4, credits := [0, 0, 0, 0], bytes := ([3, 0, 1] ++ List.replicate 237 119), txState := 3, pmReq := 0, forced := false, crc := 2625380591, good := true }, And.imp canon_of (And.imp tables_of (keep (And.imp linkSteady_of (⟨·, exSome (by decide +kernel) ((by decide +kernel))⟩)))) (by decide +kernel)⟩⟩

theorem test_witness_FlitsAreSentTakenAndReplayed_1 :
    (∃ (s : State), ∃ (k : Nat), ∃ (f : Flit), s.canon ∧ s.tables ∧ s.resuming = false ∧ s.linkSteady k ∧ f.ok k = true ∧ ∃ rest, ackReplay (s.link k) f.ack = some rest ∧ ((∀ v, v < 4 → nth f.credits v ≤ nth (s.link k).outst v)) ∧ 16 ≤ k ∧ 1 ≤ f.txState ∧ f.txState < 4 ∧ ((s.link k).pmReq = 0 ∨ f.pmReq ≠ 0)) ∧
    (∃ (s : State), ∃ (k : Nat), ∃ (f : Flit), s.canon ∧ s.tables ∧ s.resuming = false ∧ 16 ≤ k ∧ (s.link k).trainPhase = 3 ∧ f.ok k = true ∧ (s.link k).set.tune = true ∧ leNat (f.bytes.take 1) = 1) ∧
    (∃ (s : State), ∃ (k : Nat), ∃ (f : Flit), s.canon ∧ s.tables ∧ s.resuming = false ∧ 16 ≤ k ∧ (s.link k).trainPhase = 3 ∧ f.ok k = true ∧ (s.link k).set.tune = true ∧ leNat (f.bytes.take 1) = 2 ∧ tapsOk ((List.range 5).map fun i => leNat (slice f.bytes (2 + i) 1)) = true) ∧
    (∃ (s : State), ∃ (k : Nat), s.canon ∧ s.tables ∧ s.linkSteady k ∧ s.txState k = 0 ∧ (s.link k).forced = false ∧ (s.link k).ackOwed = true ∧ ((16 ≤ k → s.txWanted k = 0))) ∧
    (∃ (s : State), ∃ (k : Nat), s.canon ∧ s.tables ∧ s.linkSteady k ∧ 16 ≤ k ∧ (s.link k).farForced = false ∧ s.txState k = 0 ∧ (s.link k).replay ≠ [] ∧ ((∀ x ∈ (s.link k).replay, (s.link k).replaysOf x.seq < 8))) ∧
    (∃ (s : State), ∃ (k : Nat), s.canon ∧ s.tables ∧ s.linkSteady k ∧ 16 ≤ k ∧ (s.link k).farForced = false ∧ s.txState k = 0 ∧ (s.link k).replay ≠ [] ∧ ((∃ x ∈ (s.link k).replay, 8 ≤ (s.link k).replaysOf x.seq))) ∧
    (∃ (s : State), ∃ (k : Nat), ∃ (f : Flit), s.canon ∧ s.tables ∧ s.resuming = false ∧ k < 32 ∧ s.linkState k = 2 ∧ f.ok k = true ∧ (s.link k).initRcvd = false ∧ s.rawOn k = false ∧ (s.link k).fresh = true ∧ (s.link k).initSent = false) ∧
    (∃ (s : State), ∃ (k : Nat), ∃ (f : Flit), s.canon ∧ s.tables ∧ s.resuming = false ∧ k < 32 ∧ s.linkState k = 2 ∧ f.ok k = true ∧ (s.link k).initRcvd = false ∧ s.rawOn k = false ∧ (s.link k).fresh = true ∧ (s.link k).initSent = true ∧ s.linkFree k) :=
    ⟨⟨WL1.pick 56, 20, { kind := 0, vc := 1, enc := false, kph := 0, start := 255, fill := 20, seq := 3, ack := 4, credits := [0, 0, 0, 0], bytes := ([3, 0, 1] ++ List.replicate 237 119), txState := 3, pmReq := 0, forced := false, crc := 2625380591, good := true }, And.imp canon_of (And.imp tables_of (keep (And.imp linkSteady_of (⟨·, exSome (by decide +kernel) ((by decide +kernel))⟩)))) (by decide +kernel)⟩,
    ⟨WL1.pick 62, 20, { kind := 7, vc := 0, enc := false, kph := 0, start := 255, fill := 0, seq := 0, ack := 65535, credits := [0, 0, 0, 0], bytes := [0x1#8, 0x6#8], txState := 0, pmReq := 0, forced := false, crc := 437334380, good := true }, (And.imp canon_of (And.imp tables_of id)) (by decide +kernel)⟩,
    ⟨WL1.pick 62, 20, { kind := 7, vc := 0, enc := false, kph := 0, start := 255, fill := 0, seq := 0, ack := 65535, credits := [0, 0, 0, 0], bytes := [0x2#8, 0x0#8, 0x0#8, 0xfc#8, 0x28#8, 0x3#8, 0x0#8], txState := 0, pmReq := 0, forced := false, crc := 984832567, good := true }, (And.imp canon_of (And.imp tables_of id)) (by decide +kernel)⟩,
    ⟨WL1.pick 3, 3, (And.imp canon_of (And.imp tables_of (And.imp linkSteady_of id))) (by decide +kernel)⟩,
    ⟨WL1.pick 56, 20, (And.imp canon_of (And.imp tables_of (And.imp linkSteady_of id))) (by decide +kernel)⟩,
    ⟨WL1.pick 60, 20, (And.imp canon_of (And.imp tables_of (And.imp linkSteady_of id))) (by decide +kernel)⟩,
    ⟨WL1.pick 8, 3, { kind := 0, vc := 1, enc := false, kph := 0, start := 255, fill := 20, seq := 3, ack := 65535, credits := [0, 0, 0, 0], bytes := ([3, 0, 1] ++ List.replicate 237 119), txState := 3, pmReq := 3, forced := false, crc := 986553260, good := true }, (And.imp canon_of (And.imp tables_of id)) (by decide +kernel)⟩,
    ⟨WL1.pick 9, 3, { kind := 0, vc := 1, enc := false, kph := 0, start := 255, fill := 20, seq := 3, ack := 65535, credits := [0, 0, 0, 0], bytes := ([3, 0, 1] ++ List.replicate 237 119), txState := 3, pmReq := 3, forced := false, crc := 986553260, good := true }, (And.imp canon_of (And.imp tables_of (And.imp id (And.imp id (And.imp id (And.imp id (And.imp id (And.imp id (And.imp id (And.imp id linkFree_of)))))))))) (by decide +kernel)⟩⟩

theorem test_witness_FlitsAreSentTakenAndReplayed_2 :
    (∃ (s : State), ∃ (k : Nat), ∃ (f : Flit), s.canon ∧ s.tables ∧ s.resuming = false ∧ k < 32 ∧ s.linkState k = 2 ∧ f.ok k = true ∧ (s.link k).initRcvd = false ∧ s.rawOn k = false ∧ (s.link k).fresh = false ∧ ∃ rest, ackReplay (s.link k) f.ack = some rest ∧ ((∀ v, v < 4 → nth f.credits v + (fun (v : Nat) => (rest.filter fun (x : Flit) => x.kind == 0 && x.vc == v).length) v ≤ nth (s.link k).escTx v)) ∧ (s.link k).initSent = false) ∧
    (∃ (s : State), ∃ (k : Nat), ∃ (f : Flit), s.canon ∧ s.tables ∧ s.resuming = false ∧ k < 32 ∧ s.linkState k = 2 ∧ f.ok k = true ∧ (s.link k).initRcvd = false ∧ s.rawOn k = false ∧ (s.link k).fresh = false ∧ ∃ rest, ackReplay (s.link k) f.ack = some rest ∧ nth (s.link k).escTx 0 < nth f.credits 0 + (fun (v : Nat) => (rest.filter fun (x : Flit) => x.kind == 0 && x.vc == v).length) 0 ∧ s.pastCommitPoint = false) ∧
    (∃ (s : State), ∃ (k : Nat), s.canon ∧ s.tables ∧ k < 16 ∧ s.framing k = true ∧ s.rxState (16 + k) = 3 ∧ s.linkActive (16 + k) = true) ∧
    (∃ (s : State), ∃ (k : Nat), ∃ (x : FrameRx), s.canon ∧ s.tables ∧ k < 16 ∧ s.framing k = true ∧ s.rxState (16 + k) ≠ 3 ∧ s.rawOn (16 + k) = false ∧ ((∀ b ∈ (x.decode).slots (s.link (16 + k)).rxScr, 8 ≤ (parseFlit b).kind)) ∧ s.linkActive (16 + k) = true ∧ ((∃ i, i < 4 ∧ 256 ≤ (sgn 10 (nth (x.decode).phase i)).natAbs))) ∧
    (∃ (s : State), ∃ (k : Nat), ∃ (x : FrameRx), s.canon ∧ s.tables ∧ k < 16 ∧ s.framing k = true ∧ s.rxState (16 + k) ≠ 3 ∧ s.rawOn (16 + k) = false ∧ ((∀ b ∈ (x.decode).slots (s.link (16 + k)).rxScr, 8 ≤ (parseFlit b).kind)) ∧ ((∀ i, i < 4 → (x.decode).badMarker false i = false ∧ (sgn 10 (nth (x.decode).phase i)).natAbs < 256))) :=
    ⟨⟨WL1.pick 7, 3, { kind := 0, vc := 1, enc := false, kph := 0, start := 255, fill := 20, seq := 3, ack := 4, credits := [0, 0, 0, 0], bytes := ([3, 0, 1] ++ List.replicate 237 119), txState := 3, pmReq := 0, forced := false, crc := 2625380591, good := true }, And.imp canon_of (And.imp tables_of (keep (keep (keep (keep (keep (keep (⟨·, exSome (by decide +kernel) ((by decide +kernel))⟩)))))))) (by decide +kernel)⟩,
    ⟨WL1.pick 7, 3, { kind := 0, vc := 1, enc := false, kph := 0, start := 255, fill := 20, seq := 3, ack := 4, credits := [1, 0, 2, 1], bytes := ([3, 0, 1] ++ List.replicate 237 119), txState := 3, pmReq := 0, forced := false, crc := 148523367, good := true }, And.imp canon_of (And.imp tables_of (keep (keep (keep (keep (keep (keep (⟨·, exSome (by decide +kernel) ((by decide +kernel))⟩)))))))) (by decide +kernel)⟩,
    ⟨WL1.pick 69, 4, (And.imp canon_of (And.imp tables_of id)) (by decide +kernel)⟩,
    ⟨WL1.pick 56, 4, { lanes := [535626952835778269346905492609003018454114613237797850098544127965104752360669825184876952646266279201281047370779464792436216931198950050203021787114338159758422718644169929993670641439311139210900235019800116081409001731996155976519916359971810801150876499648114724345095093785676911547746120518043188804172480322377233421540017683552388420892869911367840103605093530106462075982416945369240761304845503885705378298737529469483422273867081755137930023503035840123650040142162379057706315740112636034999159103473389798652961680015352548872020504081293356876657397148528151031814867608531205471070279132347721737998313758073649225000072621823506250175184850666932456636943220148578738014735038068217481002915060570945737069795359204113831484123424333843790947939261542986135993303285557698602762688306551857274050590274, 35397409371009617379056307537080315081863381781630733694169240131864048505863950673699012567431873722148933787715795993871029475279907477752028199533829186225421815805344718000874175541728733904312990341194532495153992134012674822241307940018836678737163453717692462273912624254045263820062334150539622657877242746605884009547093355137302699359395717150417112404426121274657780582214046857504248128610504944910394926711703174016349685478262417734207012177836143982583842311045144523648659996063980912062999441022412243412082179014977896477121140976760410991053341580160670917481413850860085231043258309840293406001737597749427216873166300297166154285245572759938743148133199150869528434038992613918475886750264200947486665154954425753915234061995349894906411806054045875409180464265941457457790421078954343546930375238, 278830428328798453698878623256624021996594720667831025012205402744073856557178646052283461167892348553883506249321115289415390027926741818974177575407421911456017760726964679994862441002848362887266651606076424062468666921883838589175099347080996783041015082463175934932517370958096109567613391229600379076154196343259615385840022879782516531875948705197153959485548070838310064351513752504589260050274834660066237252228980637203590842809895108089960202661864600518034134333413246518643402392513488927754843459408815022319971735047740887389626384891988635469747791534506910315151703282455498761387367498081522347635196826646357161870155602274937972890181771718023574122557594360340331010989188005214692844601723561633156630996681583698160319832913232363866018057162674131419575041287470238987477204590035953323088544333, 618593866708091035284216544775296420899267066081919146968839110880418699883346674770883528397562096555642433842435093737917576347945579723073821212588201286123427630628491997238505588848166451724636831645270601943847840712108309991559796539064089891394680186559234550340227177661633871707137161894054759670433431812149661442012071258238692995512922390523044720705251009831165417845868874121653011272005111092466325641410648047590339652235919534532804673120093571530352166493661719834822179078384006875547617581533158791629869037890326904861081265562402580749864682708641575360221097910493890085151515926596907388353658127437433640069204859543134767265930202053181363419202505943579184426394169308291656358943643875286720211596902816245671744027935335035335524802771056074415587713552148090977494256784513298090963248712], phase := [1, 1023, 256, 769] }, (And.imp canon_of (And.imp tables_of id)) (by decide +kernel)⟩,
    ⟨WL1.pick 56, 4, { lanes := [535626952835778269346905492609003018454114613237797850098544127965104752360669825184876952646266279201281047370779464792436216931198950050203021787114338159758422718644169929993670641439311139210900235019800116081409001731996155976519916359971810801150876499648114724345095093785676911547746120518043188804172480322377233421540017683552388420892869911367840103605093530106462075982416945369240761304845503885705378298737529469483422273867081755137930023503035840123650040142162379057706315740112636034999159103473389798652961680015352548872020504081293356876657397148528151031814867608531205471070279132347721737998313758073649225000072621823506250175184850666932456636943220148578738014735038068217481002915060570945737069795359204113831484123424333843790947939261542986135993303285557698602762688306551857274050590274, 35397409371009617379056307537080315081863381781630733694169240131864048505863950673699012567431873722148933787715795993871029475279907477752028199533829186225421815805344718000874175541728733904312990341194532495153992134012674822241307940018836678737163453717692462273912624254045263820062334150539622657877242746605884009547093355137302699359395717150417112404426121274657780582214046857504248128610504944910394926711703174016349685478262417734207012177836143982583842311045144523648659996063980912062999441022412243412082179014977896477121140976760410991053341580160670917481413850860085231043258309840293406001737597749427216873166300297166154285245572759938743148133199150869528434038992613918475886750264200947486665154954425753915234061995349894906411806054045875409184645655666181949629462567905327266946656837, 278830428328798453698878623256624021996594720667831025012205402744073856557178646052283461167892348553883506249321115289415390027926741818974177575407421911456017760726964679994862441002848362887266651606076424062468666921883838589175099347080996783041015082463175934932517370958096109567613391229600379076154196343259615385840022879782516531875948705197153959485548070838310064351513752504589260050274834660066237252228980637203590842809895108089960202661864600518034134333413246518643402392513488927754843459408815022319971735047740887389626384891988635469747791534506910315151703282455498761387367498081522347635196826646357161870155602274937972890181771718023574122557594360340331010989188005214692844601723561633156630996681583698160319832913232363866018057162674131419575041287470238987477204590035953323088544333, 618593866708091035284216544775296420899267066081919146968839110880418699883346674770883528397562096555642433842435093737917576347945579723073821212588201286123427630628491997238505588848166451724636831645270601943847840712108309991559796539064089891394680186559234550340227177661633871707137161894054759670433431812149661442012071258238692995512922390523044720705251009831165417845868874121653011272005111092466325641410648047590339652235919534532804673120093571530352166493661719834822179078384006875547617581533158791629869037890326904861081265562402580749864682708641575360221097910493890085151515926596907388353658127437433640069204859543134767265930202053181363419202505943579184426394169308291656358943643875286720211596902816245671744027935335035335524802771056074415587713552148090977494256784513298090963248712], phase := [0, 0, 0, 0] }, (And.imp canon_of (And.imp tables_of id)) (by decide +kernel)⟩⟩

theorem test_witness_LinksTrainRetrainAndHold_0 :
    (∃ (s : State), ∃ (k : Nat), s.canon ∧ s.tables ∧ k < 32 ∧ (s.linkState k = 1 ∨ s.linkState k = 4) ∧ (s.link k).trainPhase = 0 ∧ s.refLost = false) ∧
    (∃ (s : State), ∃ (k : Nat), s.canon ∧ s.tables ∧ k < 32 ∧ s.linkState k = failedState k ∧ (s.link k).trainPhase = 0 ∧ s.linkMayTrain k = true) ∧
    (∃ (s : State), ∃ (k : Nat), ∃ m, s.canon ∧ s.tables ∧ k < 32 ∧ 16 ≤ k ∧ ((s.link k).trainPhase = 1 ∨ (s.link k).trainPhase = 2) ∧ (s.link k).set.manual = false ∧ (s.link k).checks < 39 ∧ ((∀ i, i < 4 → nth m i < 256))) ∧
    (∃ (s : State), ∃ (k : Nat), s.canon ∧ s.tables ∧ k < 32 ∧ 16 ≤ k ∧ s.aligning (k - 16) = true ∧ (s.link k).steady = true ∧ ((∀ i, i < 4 → s.f Fld.SL_LANE_ALIGNED (4 * (k - 16) + i) = 1))) ∧
    (∃ (s : State), ∃ (k : Nat), s.canon ∧ s.tables ∧ k < 32 ∧ 16 ≤ k ∧ (s.link k).trainPhase = 3 ∧ (s.link k).set.tune = true ∧ (s.link k).rounds < 16 ∧ (s.link k).initSent = false) ∧
    (∃ (s : State), ∃ (k : Nat), ∃ (rate : Nat), s.canon ∧ s.tables ∧ k < 32 ∧ (s.link k).trainPhase = (if 16 ≤ k then 3 else 1) ∧ (s.link k).initSent = false ∧ (s.link k).forced = false ∧ (s.link k).initRcvd = false ∧ ((16 ≤ k → (s.link k).set.raw = false)) ∧ rate < 8 ∧ (s.link k).set.rate < 8) ∧
    (∃ (s : State), ∃ (k : Nat), s.canon ∧ s.tables ∧ k < 32 ∧ (s.link k).trainPhase ≠ 0 ∧ (s.linkState k = 1 ∨ s.linkState k = 4) ∧ (s.link k).trainPhase = 2 ∧ (s.link k).set.manual = true) ∧
    (∃ (s : State), ∃ (k : Nat), s.canon ∧ s.tables ∧ k < 32 ∧ (s.link k).trainPhase ≠ 0 ∧ (s.linkState k = 1 ∨ s.linkState k = 4) ∧ ((s.link k).trainPhase ≠ 2 ∨ (s.link k).set.manual = false) ∧ (s.link k).tries + 1 < (s.link k).set.tries) :=
    ⟨⟨WL2.pick 1, 3, (And.imp canon_of (And.imp tables_of id)) (by decide +kernel)⟩,
    ⟨WL2.pick 3, 3, (And.imp canon_of (And.imp tables_of id)) (by decide +kernel)⟩,
    ⟨WL2.pick 48, 20, [0, 255, 250, 249], (And.imp canon_of (And.imp tables_of id)) (by decide +kernel)⟩,
    ⟨WL2.pick 50, 20, (And.imp canon_of (And.imp tables_of id)) (by decide +kernel)⟩,
    ⟨WL2.pick 52, 20, (And.imp canon_of (And.imp tables_of id)) (by decide +kernel)⟩,
    ⟨WL2.pick 9, 3, 0, (And.imp canon_of (And.imp tables_of id)) (by decide +kernel)⟩,
    ⟨WL2.pick 20, 3, (And.imp canon_of (And.imp tables_of id)) (by decide +kernel)⟩,
    ⟨WL2.pick 4, 3, (And.imp canon_of (And.imp tables_of id)) (by decide +kernel)⟩⟩

theorem test_witness_LinksTrainRetrainAndHold_1 :
    (∃ (s : State), ∃ (k : Nat), s.canon ∧ s.tables ∧ k < 32 ∧ (s.link k).trainPhase ≠ 0 ∧ (s.linkState k = 1 ∨ s.linkState k = 4) ∧ ((s.link k).trainPhase ≠ 2 ∨ (s.link k).set.manual = false) ∧ (s.link k).set.tries ≤ (s.link k).tries + 1 ∧ (s.link k).again = false) ∧
    (∃ (s : State), ∃ (k : Nat), s.canon ∧ s.tables ∧ k < 32 ∧ k < 16 ∧ s.linkActive k = true) ∧
    (∃ (s : State), ∃ (k : Nat), s.canon ∧ s.tables ∧ k < 32 ∧ 16 ≤ k ∧ s.linkActive k = true) ∧
    (∃ (s : State), ∃ (k : Nat), s.canon ∧ s.tables ∧ k < 32 ∧ k < 16 ∧ s.linkState k ≠ 3 ∧ s.linkState k ≠ 5) ∧
    (∃ (s : State), ∃ (k : Nat), s.canon ∧ s.tables ∧ k < 32 ∧ 16 ≤ k ∧ s.linkState k ≠ 3) ∧
    (∃ (s : State), ∃ (k : Nat), s.canon ∧ s.tables ∧ k < 32 ∧ k < 16 ∧ s.linkActive k = true) ∧
    (∃ (s : State), ∃ (k : Nat), s.canon ∧ s.tables ∧ k < 32 ∧ 16 ≤ k ∧ s.linkActive k = true) ∧
    (∃ (s : State), ∃ (k : Nat), s.canon ∧ s.tables ∧ k < 32 ∧ s.linkState k = downHeld k ∧ s.linkMayTrain k = true ∧ s.replaying = false ∧ s.resuming = false ∧ k < 16) :=
    ⟨⟨WL2.pick 10, 3, (And.imp canon_of (And.imp tables_of id)) (by decide +kernel)⟩,
    ⟨WL2.pick 0, 3, (And.imp canon_of (And.imp tables_of id)) (by decide +kernel)⟩,
    ⟨WL2.pick 44, 20, (And.imp canon_of (And.imp tables_of id)) (by decide +kernel)⟩,
    ⟨WL2.pick 0, 0, (And.imp canon_of (And.imp tables_of id)) (by decide +kernel)⟩,
    ⟨WL2.pick 0, 20, (And.imp canon_of (And.imp tables_of id)) (by decide +kernel)⟩,
    ⟨WL2.pick 0, 3, (And.imp canon_of (And.imp tables_of id)) (by decide +kernel)⟩,
    ⟨WL2.pick 44, 20, (And.imp canon_of (And.imp tables_of id)) (by decide +kernel)⟩,
    ⟨WL2.pick 7, 3, (And.imp canon_of (And.imp tables_of id)) (by decide +kernel)⟩⟩

theorem test_witness_LinksTrainRetrainAndHold_2 :
    (∃ (s : State), ∃ (k : Nat), s.canon ∧ s.tables ∧ k < 32 ∧ s.linkState k = downHeld k ∧ s.linkMayTrain k = true ∧ s.replaying = false ∧ s.resuming = false ∧ 16 ≤ k) ∧
    (∃ (s : State), ∃ (k : Nat), ∃ (i : Nat), s.canon ∧ s.tables ∧ k < 32 ∧ 16 ≤ k ∧ i < 4 ∧ s.aligning (k - 16) = true) ∧
    (∃ (s : State), ∃ (k : Nat), s.canon ∧ s.tables ∧ k < 32 ∧ (s.link k).holdAfterDrain = true) ∧
    (∃ (s : State), ∃ (k : Nat), s.canon ∧ s.tables ∧ k < 32 ∧ s.linkActive k = true ∧ (s.link k).holdAfterDrain = false ∧ (s.link k).depthChange = true) ∧
    (∃ (s : State), ∃ (k : Nat), s.canon ∧ s.tables ∧ k < 32 ∧ k < 16 ∧ s.refLost = true ∧ s.linkActive k = true ∧ (s.link k).replay ≠ []) ∧
    (∃ (s : State), ∃ (k : Nat), s.canon ∧ s.tables ∧ k < 32 ∧ 16 ≤ k ∧ s.linkActive k = true ∧ s.rxState k < 2 ∧ ((∀ v, (s.link k).pmSeen = some v → v < 2))) ∧
    (∃ (s : State), ∃ (k : Nat), s.canon ∧ s.tables ∧ k < 32 ∧ k < 16 ∧ s.linkActive k = true) ∧
    (∃ (s : State), ∃ (k : Nat), s.canon ∧ s.tables ∧ k < 32 ∧ k < 16 ∧ s.linkActive k = true) :=
    ⟨⟨WL2.pick 57, 20, (And.imp canon_of (And.imp tables_of id)) (by decide +kernel)⟩,
    ⟨WL2.pick 48, 20, 0, (And.imp canon_of (And.imp tables_of id)) (by decide +kernel)⟩,
    ⟨WL2.pick 14, 3, (And.imp canon_of (And.imp tables_of id)) (by decide +kernel)⟩,
    ⟨WL2.pick 15, 3, (And.imp canon_of (And.imp tables_of id)) (by decide +kernel)⟩,
    ⟨WL2.pick 16, 3, (And.imp canon_of (And.imp tables_of id)) (by decide +kernel)⟩,
    ⟨WL2.pick 44, 20, (And.imp canon_of (And.imp tables_of id)) (by decide +kernel)⟩,
    ⟨WL2.pick 0, 3, (And.imp canon_of (And.imp tables_of id)) (by decide +kernel)⟩,
    ⟨WL2.pick 0, 3, (And.imp canon_of (And.imp tables_of id)) (by decide +kernel)⟩⟩

theorem test_witness_LinkPowerStatesAndRawRings_0 :
    (∃ (s : State), ∃ (g : Nat), ∃ (v : Nat), s.canon ∧ s.tables ∧ g < 16 ∧ v < 4) ∧
    (∃ (s : State), ∃ (g : Nat), s.canon ∧ s.tables ∧ g < 16 ∧ s.linkActive g = true ∧ (s.link g).replay = [] ∧ s.bytesReady g = false ∧ s.f Fld.DP_CFG_L1_IDLE g ≠ 0) ∧
    (∃ (s : State), ∃ (g : Nat), s.canon ∧ s.tables ∧ g < 16 ∧ s.linkState g = 5 ∧ (s.link g).l1Shed = false ∧ s.refLost = false ∧ ((∀ c ∈ (s.link g).cmd, c.1 ≠ 1))) ∧
    (∃ (s : State), ∃ (g : Nat), s.canon ∧ s.tables ∧ g < 16 ∧ (((s.linkActive (16 + g) = true ∧ s.rawOn (16 + g) = false ∧ s.txIdle (16 + g) = true : Prop))) ∧ s.txState (16 + g) = 0 ∧ s.f Fld.SL_PWR_IDLE_NS g ≠ 0) ∧
    (∃ (s : State), ∃ (g : Nat), s.canon ∧ s.tables ∧ g < 16 ∧ (((s.linkActive (16 + g) = true ∧ s.rawOn (16 + g) = false ∧ s.txIdle (16 + g) = true : Prop))) ∧ s.txState (16 + g) = 1 ∧ s.f Fld.SL_PWR_SLEEP_US g ≠ 0) ∧
    (∃ (s : State), ∃ (g : Nat), s.canon ∧ s.tables ∧ g < 16 ∧ s.linkActive (16 + g) = true ∧ (s.txState (16 + g) = 1 ∨ s.txState (16 + g) = 2) ∧ (s.link (16 + g)).forced = false ∧ (s.link (16 + g)).ackOwed = true) ∧
    (∃ (s : State), ∃ (g : Nat), s.canon ∧ s.tables ∧ g < 16 ∧ s.rawSends g = true ∧ ((fun (u : State) (rx : Bool) => ((u.link (16 + g)).raw rx : RawDir)) s false).phase = 0) ∧
    (∃ (s : State), ∃ (g : Nat), s.canon ∧ s.tables ∧ g < 16 ∧ s.rawSends g = true ∧ ((fun (u : State) (rx : Bool) => ((u.link (16 + g)).raw rx : RawDir)) s false).phase ≠ 0) :=
    ⟨⟨WL3.pick 0, 0, 0, (And.imp canon_of (And.imp tables_of id)) (by decide +kernel)⟩,
    ⟨WL3.pick 141, 3, (And.imp canon_of (And.imp tables_of id)) (by decide +kernel)⟩,
    ⟨WL3.pick 111, 3, (And.imp canon_of (And.imp tables_of id)) (by decide +kernel)⟩,
    ⟨WL3.pick 1, 3, (And.imp canon_of (And.imp tables_of id)) (by decide +kernel)⟩,
    ⟨WL3.pick 2, 3, (And.imp canon_of (And.imp tables_of id)) (by decide +kernel)⟩,
    ⟨WL3.pick 5, 3, (And.imp canon_of (And.imp tables_of id)) (by decide +kernel)⟩,
    ⟨WL3.pick 8, 3, (And.imp canon_of (And.imp tables_of id)) (by decide +kernel)⟩,
    ⟨WL3.pick 10, 3, (And.imp canon_of (And.imp tables_of id)) (by decide +kernel)⟩⟩

theorem test_witness_LinkPowerStatesAndRawRings_1 :
    (∃ (s : State), ∃ (g : Nat), s.canon ∧ s.tables ∧ g < 16 ∧ s.rawRuns (16 + g) = true ∧ ((fun (u : State) (rx : Bool) => ((u.link (16 + g)).raw rx : RawDir)) s true).phase = 0 ∧ ((fun (u : State) (rx : Bool) => ((u.link (16 + g)).raw rx : RawDir)) s false).phase = 0) ∧
    (∃ (s : State), ∃ (g : Nat), s.canon ∧ s.tables ∧ g < 16 ∧ s.rawRuns (16 + g) = true ∧ s.resuming = false) ∧
    (∃ (s : State), ∃ (g : Nat), s.canon ∧ s.tables ∧ g < 16 ∧ ∃ p, ∃ s', s.takeOn (ejectLinks (528 + g)) 1 (fun p => s.isFor (528 + g) p && p.dstNode == s.node) = some (p, s') ∧ ∃ r, s.outReq (outKey (528 + g) p.dstPlane p.tag) = some r ∧ r.expired = false ∧ ∃ rx, (s.link (16 + g)).rawOf p.tag = some rx ∧ p.status = 2) ∧
    (∃ (s : State), ∃ (g : Nat), s.canon ∧ s.tables ∧ g < 16 ∧ ∃ p, ∃ s', s.takeOn (ejectLinks (528 + g)) 1 (fun p => s.isFor (528 + g) p && p.dstNode == s.node) = some (p, s') ∧ ∃ r, s.outReq (outKey (528 + g) p.dstPlane p.tag) = some r ∧ r.expired = false ∧ ∃ rx, (s.link (16 + g)).rawOf p.tag = some rx ∧ p.status = 1) ∧
    (∃ (s : State), ∃ (g : Nat), s.canon ∧ s.tables ∧ g < 16 ∧ ∃ p, ∃ s', s.takeOn (ejectLinks (528 + g)) 1 (fun p => s.isFor (528 + g) p && p.dstNode == s.node) = some (p, s') ∧ ∃ r, s.outReq (outKey (528 + g) p.dstPlane p.tag) = some r ∧ r.expired = false ∧ (s.link (16 + g)).rawOf p.tag = some false ∧ p.status = 0 ∧ s.rawSends g = true ∧ ((fun (u : State) (rx : Bool) => ((u.link (16 + g)).raw rx : RawDir)) s false).phase = 1 ∧ (fun (i : Nat) => leNat (slice p.payload (4 * i) 4)) 0 = (fun (i : Nat) => leNat (slice p.payload (4 * i) 4)) 1) ∧
    (∃ (s : State), ∃ (g : Nat), s.canon ∧ s.tables ∧ g < 16 ∧ ∃ p, ∃ s', s.takeOn (ejectLinks (528 + g)) 1 (fun p => s.isFor (528 + g) p && p.dstNode == s.node) = some (p, s') ∧ ∃ r, s.outReq (outKey (528 + g) p.dstPlane p.tag) = some r ∧ r.expired = false ∧ (s.link (16 + g)).rawOf p.tag = some false ∧ p.status = 0 ∧ s.rawSends g = true ∧ ((fun (u : State) (rx : Bool) => ((u.link (16 + g)).raw rx : RawDir)) s false).phase = 1 ∧ (fun (i : Nat) => leNat (slice p.payload (4 * i) 4)) 0 ≠ (fun (i : Nat) => leNat (slice p.payload (4 * i) 4)) 1) ∧
    (∃ (s : State), ∃ (g : Nat), s.canon ∧ s.tables ∧ g < 16 ∧ ∃ p, ∃ s', s.takeOn (ejectLinks (528 + g)) 1 (fun p => s.isFor (528 + g) p && p.dstNode == s.node) = some (p, s') ∧ ∃ r, s.outReq (outKey (528 + g) p.dstPlane p.tag) = some r ∧ r.expired = false ∧ (s.link (16 + g)).rawOf p.tag = some false ∧ p.status = 0 ∧ s.rawSends g = true ∧ ((fun (u : State) (rx : Bool) => ((u.link (16 + g)).raw rx : RawDir)) s false).phase = 2) ∧
    (∃ (s : State), ∃ (g : Nat), s.canon ∧ s.tables ∧ g < 16 ∧ ∃ p, ∃ s', s.takeOn (ejectLinks (528 + g)) 1 (fun p => s.isFor (528 + g) p && p.dstNode == s.node) = some (p, s') ∧ ∃ r, s.outReq (outKey (528 + g) p.dstPlane p.tag) = some r ∧ r.expired = false ∧ (s.link (16 + g)).rawOf p.tag = some false ∧ p.status = 0 ∧ s.rawSends g = true ∧ 2 < ((fun (u : State) (rx : Bool) => ((u.link (16 + g)).raw rx : RawDir)) s false).phase) :=
    ⟨⟨WL3.pick 8, 3, (And.imp canon_of (And.imp tables_of id)) (by decide +kernel)⟩,
    ⟨WL3.pick 8, 3, (And.imp canon_of (And.imp tables_of id)) (by decide +kernel)⟩,
    ⟨WL3.pick 14, 3, And.imp canon_of (And.imp tables_of (⟨·, exPair (by decide +kernel) (exSome (by decide +kernel) ((⟨·, exSome (by decide +kernel) ((by decide +kernel))⟩) (by decide +kernel)))⟩)) (by decide +kernel)⟩,
    ⟨WL3.pick 16, 3, And.imp canon_of (And.imp tables_of (⟨·, exPair (by decide +kernel) (exSome (by decide +kernel) ((⟨·, exSome (by decide +kernel) ((by decide +kernel))⟩) (by decide +kernel)))⟩)) (by decide +kernel)⟩,
    ⟨WL3.pick 12, 3, And.imp canon_of (And.imp tables_of (⟨·, exPair (by decide +kernel) (exSome (by decide +kernel) ((by decide +kernel)))⟩)) (by decide +kernel)⟩,
    ⟨WL3.pick 13, 3, And.imp canon_of (And.imp tables_of (⟨·, exPair (by decide +kernel) (exSome (by decide +kernel) ((by decide +kernel)))⟩)) (by decide +kernel)⟩,
    ⟨WL3.pick 18, 3, And.imp canon_of (And.imp tables_of (⟨·, exPair (by decide +kernel) (exSome (by decide +kernel) ((by decide +kernel)))⟩)) (by decide +kernel)⟩,
    ⟨WL3.pick 22, 3, And.imp canon_of (And.imp tables_of (⟨·, exPair (by decide +kernel) (exSome (by decide +kernel) ((by decide +kernel)))⟩)) (by decide +kernel)⟩⟩

theorem test_witness_LinkPowerStatesAndRawRings_2 :
    (∃ (s : State), ∃ (g : Nat), s.canon ∧ s.tables ∧ g < 16 ∧ ∃ p, ∃ s', s.takeOn (ejectLinks (528 + g)) 1 (fun p => s.isFor (528 + g) p && p.dstNode == s.node) = some (p, s') ∧ ∃ r, s.outReq (outKey (528 + g) p.dstPlane p.tag) = some r ∧ r.expired = false ∧ (s.link (16 + g)).rawOf p.tag = some true ∧ p.status = 0 ∧ s.f Fld.SL_RAW_CFG_NOTIFY g = 0 ∧ ∃ b, ∃ rest, (s.link (16 + g)).rawIn = b :: rest ∧ ((fun (u : State) (rx : Bool) => ((u.link (16 + g)).raw rx : RawDir)) s true).phase = 1 ∧ ((fun (i : Nat) => leNat (slice p.payload (4 * i) 4)) 2 + 2 ^ 32 - (fun (i : Nat) => leNat (slice p.payload (4 * i) 4)) 3) % 2 ^ 32 = s.rawN g) ∧
    (∃ (s : State), ∃ (g : Nat), s.canon ∧ s.tables ∧ g < 16 ∧ ∃ p, ∃ s', s.takeOn (ejectLinks (528 + g)) 1 (fun p => s.isFor (528 + g) p && p.dstNode == s.node) = some (p, s') ∧ ∃ r, s.outReq (outKey (528 + g) p.dstPlane p.tag) = some r ∧ r.expired = false ∧ (s.link (16 + g)).rawOf p.tag = some true ∧ p.status = 0 ∧ s.f Fld.SL_RAW_CFG_NOTIFY g = 0 ∧ ∃ b, ∃ rest, (s.link (16 + g)).rawIn = b :: rest ∧ ((fun (u : State) (rx : Bool) => ((u.link (16 + g)).raw rx : RawDir)) s true).phase = 1 ∧ ((fun (i : Nat) => leNat (slice p.payload (4 * i) 4)) 2 + 2 ^ 32 - (fun (i : Nat) => leNat (slice p.payload (4 * i) 4)) 3) % 2 ^ 32 ≠ s.rawN g) ∧
    (∃ (s : State), ∃ (g : Nat), s.canon ∧ s.tables ∧ g < 16 ∧ ∃ p, ∃ s', s.takeOn (ejectLinks (528 + g)) 1 (fun p => s.isFor (528 + g) p && p.dstNode == s.node) = some (p, s') ∧ ∃ r, s.outReq (outKey (528 + g) p.dstPlane p.tag) = some r ∧ r.expired = false ∧ (s.link (16 + g)).rawOf p.tag = some true ∧ p.status = 0 ∧ s.f Fld.SL_RAW_CFG_NOTIFY g = 0 ∧ ∃ b, ∃ rest, (s.link (16 + g)).rawIn = b :: rest ∧ ((fun (u : State) (rx : Bool) => ((u.link (16 + g)).raw rx : RawDir)) s true).phase = 2) ∧
    (∃ (s : State), ∃ (g : Nat), s.canon ∧ s.tables ∧ g < 16 ∧ ∃ p, ∃ s', s.takeOn (ejectLinks (528 + g)) 1 (fun p => s.isFor (528 + g) p && p.dstNode == s.node) = some (p, s') ∧ ∃ r, s.outReq (outKey (528 + g) p.dstPlane p.tag) = some r ∧ r.expired = false ∧ (s.link (16 + g)).rawOf p.tag = some true ∧ p.status = 0 ∧ s.f Fld.SL_RAW_CFG_NOTIFY g = 0 ∧ ∃ b, ∃ rest, (s.link (16 + g)).rawIn = b :: rest ∧ 2 < ((fun (u : State) (rx : Bool) => ((u.link (16 + g)).raw rx : RawDir)) s true).phase) ∧
    (∃ (s : State), ∃ (g : Nat), ∃ (rx : Bool), s.canon ∧ s.tables ∧ g < 16 ∧ ((fun (u : State) (rx : Bool) => ((u.link (16 + g)).raw rx : RawDir)) s rx).failed = true ∧ ((fun (u : State) (rx : Bool) => ((u.link (16 + g)).raw rx : RawDir)) s (!rx)).failed = false) :=
    ⟨⟨WL3.pick 25, 3, And.imp canon_of (And.imp tables_of (⟨·, exPair (by decide +kernel) (exSome (by decide +kernel) (keep (keep (keep (⟨·, exCons (by decide +kernel) ((by decide +kernel))⟩))) (by decide +kernel)))⟩)) (by decide +kernel)⟩,
    ⟨WL3.pick 24, 3, And.imp canon_of (And.imp tables_of (⟨·, exPair (by decide +kernel) (exSome (by decide +kernel) (keep (keep (keep (⟨·, exCons (by decide +kernel) ((by decide +kernel))⟩))) (by decide +kernel)))⟩)) (by decide +kernel)⟩,
    ⟨WL3.pick 26, 3, And.imp canon_of (And.imp tables_of (⟨·, exPair (by decide +kernel) (exSome (by decide +kernel) (keep (keep (keep (⟨·, exCons (by decide +kernel) ((by decide +kernel))⟩))) (by decide +kernel)))⟩)) (by decide +kernel)⟩,
    ⟨WL3.pick 28, 3, And.imp canon_of (And.imp tables_of (⟨·, exPair (by decide +kernel) (exSome (by decide +kernel) (keep (keep (keep (⟨·, exCons (by decide +kernel) ((by decide +kernel))⟩))) (by decide +kernel)))⟩)) (by decide +kernel)⟩,
    ⟨WL3.pick 30, 3, true, (And.imp canon_of (And.imp tables_of id)) (by decide +kernel)⟩⟩

theorem test_witness_LinkCommandsAndEnumeration_0 :
    (∃ (s : State), ∃ (h : CmdHdr), ∃ (k : Nat), ∃ (v : Nat), s.canon ∧ s.tables ∧ k < 32 ∧ s.accepts ((⟨h, 0x0702, .r, argBytes [(6, 1, k), (8, 4, v)], false⟩ : Ebryn)) ∧ k < 16 ∧ s.linkActive k = true) ∧
    (∃ (s : State), ∃ (h : CmdHdr), ∃ (k : Nat), ∃ (v : Nat), s.canon ∧ s.tables ∧ k < 32 ∧ s.accepts ((⟨h, 0x0702, .r, argBytes [(6, 1, k), (8, 4, v)], false⟩ : Ebryn)) ∧ k < 16 ∧ s.linkState k ≠ 3 ∧ s.linkState k ≠ 5) ∧
    (∃ (s : State), ∃ (h : CmdHdr), ∃ (k : Nat), ∃ (g : Nat), ∃ (v : Nat), s.canon ∧ s.tables ∧ k < 32 ∧ s.accepts ((⟨h, 0x0802, .r, argBytes [(6, 1, g), (8, 4, v)], false⟩ : Ebryn)) ∧ k = 16 + g ∧ s.linkActive k = true) ∧
    (∃ (s : State), ∃ (h : CmdHdr), ∃ (k : Nat), ∃ (g : Nat), ∃ (v : Nat), s.canon ∧ s.tables ∧ k < 32 ∧ s.accepts ((⟨h, 0x0802, .r, argBytes [(6, 1, g), (8, 4, v)], false⟩ : Ebryn)) ∧ k = 16 + g ∧ s.linkActive k = false) ∧
    (∃ (s : State), ∃ (h : CmdHdr), ∃ (k : Nat), s.canon ∧ s.tables ∧ k < 32 ∧ s.accepts ((⟨h, 0x0703, .r, argBytes [(6, 1, k)], false⟩ : Ebryn)) ∧ k < 16 ∧ s.linkActive k = true ∧ (s.link k).replay ≠ []) ∧
    (∃ (s : State), ∃ (h : CmdHdr), ∃ (k : Nat), s.canon ∧ s.tables ∧ k < 32 ∧ s.accepts ((⟨h, 0x0703, .r, argBytes [(6, 1, k)], false⟩ : Ebryn)) ∧ k < 16 ∧ s.linkState k = downHeld k ∧ (s.link k).cmd = []) ∧
    (∃ (s : State), ∃ (h : CmdHdr), ∃ (k : Nat), ∃ (g : Nat), s.canon ∧ s.tables ∧ k < 32 ∧ s.accepts ((⟨h, 0x0803, .r, argBytes [(6, 1, g)], false⟩ : Ebryn)) ∧ k = 16 + g ∧ s.linkActive k = true ∧ (s.link k).replay ≠ []) ∧
    (∃ (s : State), ∃ (h : CmdHdr), ∃ (k : Nat), ∃ (g : Nat), s.canon ∧ s.tables ∧ k < 32 ∧ s.accepts ((⟨h, 0x0803, .r, argBytes [(6, 1, g)], false⟩ : Ebryn)) ∧ k = 16 + g ∧ s.linkState k = downHeld k ∧ (s.link k).cmd = []) :=
    ⟨⟨WL4.pick 0, { port := 0, node := 0, ep := 546, tag := 7, len := 58 }, 3, 0, (And.imp canon_of (And.imp tables_of (And.imp id (And.imp accepts_of id)))) (by decide +kernel)⟩,
    ⟨WL4.pick 0, { port := 0, node := 0, ep := 546, tag := 7, len := 58 }, 0, 0, (And.imp canon_of (And.imp tables_of (And.imp id (And.imp accepts_of id)))) (by decide +kernel)⟩,
    ⟨WL4.pick 18, { port := 0, node := 0, ep := 546, tag := 7, len := 58 }, 19, 3, 0, (And.imp canon_of (And.imp tables_of (And.imp id (And.imp accepts_of id)))) (by decide +kernel)⟩,
    ⟨WL4.pick 0, { port := 0, node := 0, ep := 546, tag := 7, len := 58 }, 19, 3, 0, (And.imp canon_of (And.imp tables_of (And.imp id (And.imp accepts_of id)))) (by decide +kernel)⟩,
    ⟨WL4.pick 0, { port := 0, node := 0, ep := 546, tag := 7, len := 58 }, 3, (And.imp canon_of (And.imp tables_of (And.imp id (And.imp accepts_of id)))) (by decide +kernel)⟩,
    ⟨WL4.pick 1, { port := 0, node := 0, ep := 546, tag := 7, len := 58 }, 3, (And.imp canon_of (And.imp tables_of (And.imp id (And.imp accepts_of id)))) (by decide +kernel)⟩,
    ⟨WL4.pick 18, { port := 0, node := 0, ep := 546, tag := 7, len := 58 }, 19, 3, (And.imp canon_of (And.imp tables_of (And.imp id (And.imp accepts_of id)))) (by decide +kernel)⟩,
    ⟨WL4.pick 19, { port := 0, node := 0, ep := 546, tag := 7, len := 58 }, 19, 3, (And.imp canon_of (And.imp tables_of (And.imp id (And.imp accepts_of id)))) (by decide +kernel)⟩⟩

theorem test_witness_LinkCommandsAndEnumeration_1 :
    (∃ (s : State), ∃ (h : CmdHdr), ∃ (k : Nat), ∃ (v : Nat), s.canon ∧ s.tables ∧ k < 32 ∧ s.accepts ((⟨h, 0x0704, .r, argBytes [(6, 1, k), (8, 4, v)], false⟩ : Ebryn)) ∧ k < 16 ∧ s.linkActive k = true ∧ (s.link k).cmd = []) ∧
    (∃ (s : State), ∃ (h : CmdHdr), ∃ (k : Nat), ∃ (v : Nat), s.canon ∧ s.tables ∧ k < 32 ∧ s.accepts ((⟨h, 0x0704, .r, argBytes [(6, 1, k), (8, 4, v)], false⟩ : Ebryn)) ∧ k < 16 ∧ s.linkState k = downHeld k ∧ s.linkMayTrain k = true ∧ s.resuming = false ∧ s.replaying = false ∧ s.rpState ≠ 1 ∧ s.rpState ≠ 2) ∧
    (∃ (s : State), ∃ (h : CmdHdr), ∃ (k : Nat), ∃ (g : Nat), ∃ (v : Nat), s.canon ∧ s.tables ∧ k < 32 ∧ s.accepts ((⟨h, 0x0804, .r, argBytes [(6, 1, g), (8, 4, v)], false⟩ : Ebryn)) ∧ k = 16 + g ∧ s.linkActive k = true ∧ (s.link k).cmd = []) ∧
    (∃ (s : State), ∃ (h : CmdHdr), ∃ (k : Nat), ∃ (g : Nat), ∃ (v : Nat), s.canon ∧ s.tables ∧ k < 32 ∧ s.accepts ((⟨h, 0x0804, .r, argBytes [(6, 1, g), (8, 4, v)], false⟩ : Ebryn)) ∧ k = 16 + g ∧ s.linkState k = downHeld k ∧ s.linkMayTrain k = true ∧ s.resuming = false ∧ s.replaying = false ∧ s.rpState ≠ 1 ∧ s.rpState ≠ 2) ∧
    (∃ (s : State), ∃ (h : CmdHdr), ∃ (k : Nat), ∃ (g : Nat), ∃ (v : Nat), s.canon ∧ s.tables ∧ k < 32 ∧ s.accepts ((⟨h, 0x0805, .r, argBytes [(6, 1, g), (7, 1, v)], false⟩ : Ebryn)) ∧ g < 16 ∧ v < 4 ∧ s.aligning g = true) ∧
    (∃ (s : State), ∃ (h : CmdHdr), ∃ (k : Nat), ∃ (g : Nat), ∃ (v : Nat), s.canon ∧ s.tables ∧ k < 32 ∧ s.accepts ((⟨h, 0x0805, .r, argBytes [(6, 1, g), (7, 1, v)], false⟩ : Ebryn)) ∧ g < 16 ∧ v < 4 ∧ s.aligning g = false) ∧
    (∃ (s : State), ∃ (h : CmdHdr), ∃ (k : Nat), ∃ (g : Nat), ∃ (v : Nat), ∃ (rx : Nat), ∃ (us : Nat), s.canon ∧ s.tables ∧ k < 32 ∧ s.accepts ((⟨h, 0x0806, .r, argBytes [(6, 1, g), (7, 1, v), (8, 1, rx), (12, 4, us)], false⟩ : Ebryn)) ∧ k = 16 + g ∧ v < 4 ∧ rx < 4) ∧
    (∃ (s : State), ∃ (h : CmdHdr), ∃ (k : Nat), ∃ (g : Nat), ∃ (v : Nat), s.canon ∧ s.tables ∧ k < 32 ∧ s.accepts ((⟨h, 0x0807, .r, argBytes [(6, 2, g), (8, 4, v)], false⟩ : Ebryn)) ∧ g < 1023 ∧ 0 < v ∧ s.f Fld.CO_NODE_VALID 0 = 0 ∧ s.commit = none ∧ k < 16 ∧ s.linkActive k = true ∧ s.rawOn k = false ∧ ((∀ j, j < k → s.linkActive j = false))) :=
    ⟨⟨WL4.pick 0, { port := 0, node := 0, ep := 546, tag := 7, len := 58 }, 3, 0, (And.imp canon_of (And.imp tables_of (And.imp id (And.imp accepts_of id)))) (by decide +kernel)⟩,
    ⟨WL4.pick 1, { port := 0, node := 0, ep := 546, tag := 7, len := 58 }, 3, 0, (And.imp canon_of (And.imp tables_of (And.imp id (And.imp accepts_of id)))) (by decide +kernel)⟩,
    ⟨WL4.pick 18, { port := 0, node := 0, ep := 546, tag := 7, len := 58 }, 19, 3, 0, (And.imp canon_of (And.imp tables_of (And.imp id (And.imp accepts_of id)))) (by decide +kernel)⟩,
    ⟨WL4.pick 19, { port := 0, node := 0, ep := 546, tag := 7, len := 58 }, 19, 3, 0, (And.imp canon_of (And.imp tables_of (And.imp id (And.imp accepts_of id)))) (by decide +kernel)⟩,
    ⟨WL4.pick 21, { port := 0, node := 0, ep := 546, tag := 7, len := 58 }, 0, 3, 0, (And.imp canon_of (And.imp tables_of (And.imp id (And.imp accepts_of id)))) (by decide +kernel)⟩,
    ⟨WL4.pick 0, { port := 0, node := 0, ep := 546, tag := 7, len := 58 }, 0, 0, 0, (And.imp canon_of (And.imp tables_of (And.imp id (And.imp accepts_of id)))) (by decide +kernel)⟩,
    ⟨WL4.pick 0, { port := 0, node := 0, ep := 546, tag := 7, len := 58 }, 19, 3, 0, 0, 0, (And.imp canon_of (And.imp tables_of (And.imp id (And.imp accepts_of id)))) (by decide +kernel)⟩,
    ⟨WL4.pick 0, { port := 0, node := 0, ep := 546, tag := 7, len := 58 }, 3, 0, 1, (And.imp canon_of (And.imp tables_of (And.imp id (And.imp accepts_of id)))) (by decide +kernel)⟩⟩

theorem test_witness_LinkCommandsAndEnumeration_2 :
    (∃ (s : State), ∃ (h : CmdHdr), ∃ (k : Nat), ∃ (g : Nat), ∃ (v : Nat), s.canon ∧ s.tables ∧ k < 32 ∧ s.accepts ((⟨h, 0x0808, .i, argBytes [(6, 2, g), (8, 4, v)], false⟩ : Ebryn)) ∧ g < 1023 ∧ 0 < v ∧ 1 ≤ h.port ∧ h.port ≤ 16 ∧ s.f Fld.CO_NODE_VALID 0 = 1) ∧
    (∃ (s : State), ∃ (h : CmdHdr), ∃ (k : Nat), ∃ (g : Nat), ∃ (v : Nat), s.canon ∧ s.tables ∧ k < 32 ∧ s.accepts ((⟨h, 0x0808, .i, argBytes [(6, 2, g), (8, 4, v)], false⟩ : Ebryn)) ∧ g < 1023 ∧ 0 < v ∧ 1 ≤ h.port ∧ h.port ≤ 16 ∧ s.f Fld.CO_NODE_VALID 0 = 0 ∧ k < 16 ∧ k ≠ h.port - 1 ∧ s.linkActive k = true ∧ ((∀ j, j < k → j = h.port - 1 ∨ s.linkActive j = false))) ∧
    (∃ (s : State), ∃ (k : Nat), ∃ (g : Nat), ∃ (v : Nat), s.canon ∧ s.tables ∧ k < 32 ∧ ∃ e, s.enumer = some e ∧ e.waiting = true ∧ g < k ∧ k < 16 ∧ e.asked = g ∧ e.parent ≠ some k ∧ s.linkActive k = true ∧ s.enumLeft e ≠ 0 ∧ ((∀ j, g < j → j < k → s.linkActive j = false)) ∧ e.next ≤ v ∧ v < 1023) ∧
    (∃ (s : State), ∃ (k : Nat), ∃ (g : Nat), s.canon ∧ s.tables ∧ k < 32 ∧ ∃ e, s.enumer = some e ∧ e.waiting = true ∧ g < k ∧ k < 16 ∧ e.asked = g ∧ e.parent ≠ some k ∧ s.linkActive k = true ∧ s.enumLeft e ≠ 0 ∧ ((∀ j, g < j → j < k → s.linkActive j = false)) ∧ e.next ≤ 1023) :=
    ⟨⟨WL4.pick 5, { port := 3, node := 0, ep := 546, tag := 8, len := 58 }, 0, 0, 1, (And.imp canon_of (And.imp tables_of (And.imp id (And.imp accepts_of id)))) (by decide +kernel)⟩,
    ⟨WL4.pick 0, { port := 3, node := 0, ep := 546, tag := 8, len := 58 }, 3, 0, 1, (And.imp canon_of (And.imp tables_of (And.imp id (And.imp accepts_of id)))) (by decide +kernel)⟩,
    ⟨WL4.pick 6, 3, 1, 7, And.imp canon_of (And.imp tables_of (⟨·, exSome (by decide +kernel) ((And.imp id (And.imp id (And.imp id (And.imp id (And.imp id (And.imp id (And.imp id (And.imp between_of id)))))))) (by decide +kernel))⟩)) (by decide +kernel)⟩,
    ⟨WL4.pick 6, 3, 1, And.imp canon_of (And.imp tables_of (⟨·, exSome (by decide +kernel) ((And.imp id (And.imp id (And.imp id (And.imp id (And.imp id (And.imp id (And.imp id (And.imp between_of id)))))))) (by decide +kernel))⟩)) (by decide +kernel)⟩⟩

theorem test_witness_ProtectedRangesAreServed_0 :
    (∃ (s : State), s.canon ∧ s.tables ∧ s.safe = false ∧ s.resuming = false ∧ s.odie = [] ∧ ∃ p, ∃ s', s.takeProt (fun p => p.type == 0) = some (p, s') ∧ True) ∧
    (∃ (s : State), s.canon ∧ s.tables ∧ s.safe = false ∧ s.resuming = false ∧ s.odie = [] ∧ ∃ p, ∃ s', s.takeProt (fun p => p.type == 1 && fullLines p) = some (p, s') ∧ True) ∧
    (∃ (s : State), s.canon ∧ s.tables ∧ s.safe = false ∧ s.resuming = false ∧ s.odie = [] ∧ ∃ p, ∃ s', s.takeProt (fun p => p.type == 1 && !fullLines p) = some (p, s') ∧ True) ∧
    (∃ (s : State), s.canon ∧ s.tables ∧ s.safe = false ∧ s.resuming = false ∧ s.odie = [] ∧ ∃ p, ∃ s', s.take 545 1 = some (p, s') ∧ ∃ x, s.outReq (outKey 545 p.dstPlane p.tag) = some x ∧ (x.expired = false ∧ x.post = false ∧ x.pkt.tag = p.tag ∧ s.posts 545 = []) ∧ ∃ b, ∃ l, s.crypto.jobs = b :: l ∧ l = [] ∧ ∃ j, b.2 = some j ∧ (j.phase ≠ 0 ∧ j.todo = []) ∧ ∃ a, ∃ rest, j.waiting = a :: rest ∧ (a.1 = p.tag ∧ (rest.all fun y => y.1 != p.tag) = true) ∧ p.status = 0 ∧ (a.2) < 254 ∧ rest ≠ []) :=
    ⟨⟨WC1.pick 0, And.imp canon_of (And.imp tables_of (keep (keep (⟨·, exPair (by decide +kernel) trivial⟩)))) (by decide +kernel)⟩,
    ⟨WC1.pick 3, And.imp canon_of (And.imp tables_of (keep (keep (⟨·, exPair (by decide +kernel) trivial⟩)))) (by decide +kernel)⟩,
    ⟨WC1.pick 4, And.imp canon_of (And.imp tables_of (keep (keep (⟨·, exPair (by decide +kernel) trivial⟩)))) (by decide +kernel)⟩,
    ⟨WC1.pick 11, And.imp canon_of (And.imp tables_of (keep (keep (⟨·, exPair (by decide +kernel) (exSome (by decide +kernel) ((⟨·, exCons (by decide +kernel) ((⟨·, exSome (by decide +kernel) ((⟨·, exCons (by decide +kernel) ((by decide +kernel))⟩) (by decide +kernel))⟩) (by decide +kernel))⟩) (by decide +kernel)))⟩)))) (by decide +kernel)⟩⟩

theorem test_witness_ProtectedRangesAreServed_1 :
    (∃ (s : State), s.canon ∧ s.tables ∧ s.safe = false ∧ s.resuming = false ∧ s.odie = [] ∧ ∃ p, ∃ s', s.take 545 1 = some (p, s') ∧ ∃ x, s.outReq (outKey 545 p.dstPlane p.tag) = some x ∧ (x.expired = false ∧ x.post = false ∧ x.pkt.tag = p.tag ∧ s.posts 545 = []) ∧ ∃ b, ∃ l, s.crypto.jobs = b :: l ∧ l = [] ∧ ∃ j, b.2 = some j ∧ (j.phase ≠ 0 ∧ j.todo = []) ∧ ∃ a, ∃ rest, j.waiting = a :: rest ∧ (a.1 = p.tag ∧ (rest.all fun y => y.1 != p.tag) = true) ∧ (p.status = 1 ∧ x.pkt.type = 0 ∧ (s.postTag 545).isSome = true)) ∧
    (∃ (s : State), s.canon ∧ s.tables ∧ s.safe = false ∧ s.resuming = false ∧ s.odie = [] ∧ ∃ p, ∃ s', s.take 545 1 = some (p, s') ∧ ∃ x, s.outReq (outKey 545 p.dstPlane p.tag) = some x ∧ (x.expired = false ∧ x.post = false ∧ x.pkt.tag = p.tag ∧ s.posts 545 = []) ∧ ∃ b, ∃ l, s.crypto.jobs = b :: l ∧ l = [] ∧ ∃ j, b.2 = some j ∧ (j.phase ≠ 0 ∧ j.todo = []) ∧ ∃ a, ∃ rest, j.waiting = a :: rest ∧ (a.1 = p.tag ∧ (rest.all fun y => y.1 != p.tag) = true) ∧ (p.status = 0 ∧ (a.2) = 255 ∧ rest = [] ∧ j.kind = 6 ∧ j.phase = 4 ∧ (j.range) < 32)) ∧
    (∃ (s : State), s.canon ∧ s.tables ∧ s.safe = false ∧ s.resuming = false ∧ s.odie = [] ∧ ∃ p, ∃ s', s.take 545 1 = some (p, s') ∧ ∃ x, s.outReq (outKey 545 p.dstPlane p.tag) = some x ∧ (x.expired = false ∧ x.post = false ∧ x.pkt.tag = p.tag ∧ s.posts 545 = []) ∧ ∃ b, ∃ l, s.crypto.jobs = b :: l ∧ l = [] ∧ ∃ j, b.2 = some j ∧ (j.phase ≠ 0 ∧ j.todo = []) ∧ ∃ a, ∃ rest, j.waiting = a :: rest ∧ (a.1 = p.tag ∧ (rest.all fun y => y.1 != p.tag) = true) ∧ (p.status = 0 ∧ (a.2) = 255 ∧ rest = [] ∧ j.kind = 4 ∧ j.phase = 4 ∧ (j.range) < 32 ∧ (s.crr (j.range)).disabling = false)) ∧
    (∃ (s : State), s.canon ∧ s.tables ∧ s.safe = false ∧ s.resuming = false ∧ s.odie = [] ∧ ∃ p, ∃ s', s.take 545 1 = some (p, s') ∧ ∃ x, s.outReq (outKey 545 p.dstPlane p.tag) = some x ∧ (x.expired = false ∧ x.post = false ∧ x.pkt.tag = p.tag ∧ s.posts 545 = []) ∧ ∃ b, ∃ l, s.crypto.jobs = b :: l ∧ l = [] ∧ ∃ j, b.2 = some j ∧ (j.phase ≠ 0 ∧ j.todo = []) ∧ ∃ a, ∃ rest, j.waiting = a :: rest ∧ (a.1 = p.tag ∧ (rest.all fun y => y.1 != p.tag) = true) ∧ ∃ q, s.crReq j.req = some q ∧ (p.status = 0 ∧ (a.2) = 1 ∧ rest = [] ∧ j.kind = 0 ∧ j.phase = 1 ∧ j.status = 0 ∧ s.rgMeets (j.range) = 2 ∧ s.missing j = [] ∧ q.left = 1 ∧ q.status = 0 ∧ q.pkt.type = 0) ∧ ((p.poison = 0 ∧ j.bad 0 = false ∧ j.got.all (fun g => g.1 != 1) = true ∧ lineTag ((s.crr (j.range)).ktOf (s.oldTree (j.range) (j.line / 64))) (j.range) j.line (leafMajor (s.leaf (j.range) (j.line / 64))) (leafMinor (s.leaf (j.range) (j.line / 64)) (j.line % 64)) (j.data 0) = p.payload)) ∧ q.data = [] ∧ q.poison = 0) :=
    ⟨⟨WC1.pick 12, And.imp canon_of (And.imp tables_of (keep (keep (⟨·, exPair (by decide +kernel) (exSome (by decide +kernel) ((⟨·, exCons (by decide +kernel) ((⟨·, exSome (by decide +kernel) ((⟨·, exCons (by decide +kernel) ((by decide +kernel))⟩) (by decide +kernel))⟩) (by decide +kernel))⟩) (by decide +kernel)))⟩)))) (by decide +kernel)⟩,
    ⟨WC1.pick 58, And.imp canon_of (And.imp tables_of (keep (keep (⟨·, exPair (by decide +kernel) (exSome (by decide +kernel) ((⟨·, exCons (by decide +kernel) ((⟨·, exSome (by decide +kernel) ((⟨·, exCons (by decide +kernel) ((by decide +kernel))⟩) (by decide +kernel))⟩) (by decide +kernel))⟩) (by decide +kernel)))⟩)))) (by decide +kernel)⟩,
    ⟨WC1.pick 65, And.imp canon_of (And.imp tables_of (keep (keep (⟨·, exPair (by decide +kernel) (exSome (by decide +kernel) ((⟨·, exCons (by decide +kernel) ((⟨·, exSome (by decide +kernel) ((⟨·, exCons (by decide +kernel) ((by decide +kernel))⟩) (by decide +kernel))⟩) (by decide +kernel))⟩) (by decide +kernel)))⟩)))) (by decide +kernel)⟩,
    ⟨WC1.pick 13, And.imp canon_of (And.imp tables_of (keep (keep (⟨·, exPair (by decide +kernel) (exSome (by decide +kernel) ((⟨·, exCons (by decide +kernel) ((⟨·, exSome (by decide +kernel) ((⟨·, exCons (by decide +kernel) ((⟨·, exSome (by decide +kernel) ((by decide +kernel))⟩) (by decide +kernel))⟩) (by decide +kernel))⟩) (by decide +kernel))⟩) (by decide +kernel)))⟩)))) (by decide +kernel)⟩⟩

theorem test_witness_ProtectedRangesAreServed_2 :
    (∃ (s : State), s.canon ∧ s.tables ∧ s.safe = false ∧ s.resuming = false ∧ s.odie = [] ∧ ∃ p, ∃ s', s.take 545 1 = some (p, s') ∧ ∃ x, s.outReq (outKey 545 p.dstPlane p.tag) = some x ∧ (x.expired = false ∧ x.post = false ∧ x.pkt.tag = p.tag ∧ s.posts 545 = []) ∧ ∃ b, ∃ l, s.crypto.jobs = b :: l ∧ l = [] ∧ ∃ j, b.2 = some j ∧ (j.phase ≠ 0 ∧ j.todo = []) ∧ ∃ a, ∃ rest, j.waiting = a :: rest ∧ (a.1 = p.tag ∧ (rest.all fun y => y.1 != p.tag) = true) ∧ ∃ q, s.crReq j.req = some q ∧ (p.status = 0 ∧ (a.2) = 1 ∧ rest = [] ∧ j.kind = 0 ∧ j.phase = 1 ∧ j.status = 0 ∧ s.rgMeets (j.range) = 2 ∧ s.missing j = [] ∧ q.left = 1 ∧ q.status = 0 ∧ q.pkt.type = 0) ∧ p.poison ≠ 0 ∧ j.got.all (fun g => g.1 != 1) = true) ∧
    (∃ (s : State), ∃ (id : Nat), s.canon ∧ s.tables ∧ s.safe = false ∧ s.resuming = false ∧ s.odie = [] ∧ ∃ j, s.crJob id = some j ∧ j.phase = 2 ∧ j.range < 32 ∧ (s.verifyNodes j).1 = none ∧ (s.crr j.range).cmd = none ∧ (s.crr j.range).disabling = false) ∧
    (∃ (s : State), ∃ (id : Nat), s.canon ∧ s.tables ∧ s.safe = false ∧ s.resuming = false ∧ s.odie = [] ∧ ∃ j, s.crJob id = some j ∧ j.phase = 2 ∧ j.range < 32 ∧ ∃ v, (s.verifyNodes j).1 = some v ∧ v.missing j = [] ∧ (j.kind = 4 ∨ (j.kind = 3 ∧ j.has 64 = true))) ∧
    (∃ (s : State), ∃ (k : Nat), s.canon ∧ s.tables ∧ s.safe = false ∧ s.resuming = false ∧ s.odie = [] ∧ ∃ e, s.cached k = some e ∧ s.pinned.contains k = false ∧ (s.crypto.cache.all fun x => !(keyLevel x.1 + 1 == keyLevel k && parentKey x.1 == k)) = true ∧ e.dirty = false) :=
    ⟨⟨WC1.pick 15, And.imp canon_of (And.imp tables_of (keep (keep (⟨·, exPair (by decide +kernel) (exSome (by decide +kernel) ((⟨·, exCons (by decide +kernel) ((⟨·, exSome (by decide +kernel) ((⟨·, exCons (by decide +kernel) ((⟨·, exSome (by decide +kernel) ((by decide +kernel))⟩) (by decide +kernel))⟩) (by decide +kernel))⟩) (by decide +kernel))⟩) (by decide +kernel)))⟩)))) (by decide +kernel)⟩,
    ⟨WC1.pick 71, 40, And.imp canon_of (And.imp tables_of (keep (keep (⟨·, exSome (by decide +kernel) ((by decide +kernel))⟩)))) (by decide +kernel)⟩,
    ⟨WC1.pick 72, 40, And.imp canon_of (And.imp tables_of (keep (keep (⟨·, exSome (by decide +kernel) (keep (⟨·, exSome (by decide +kernel) ((by decide +kernel))⟩) (by decide +kernel))⟩)))) (by decide +kernel)⟩,
    ⟨WC1.pick 1, 805306368, And.imp canon_of (And.imp tables_of (keep (keep (⟨·, exSome (by decide +kernel) ((by decide +kernel))⟩)))) (by decide +kernel)⟩⟩

theorem test_witness_ProtectedRangesAreServed_3 :
    (∃ (s : State), ∃ (k : Nat), s.canon ∧ s.tables ∧ s.safe = false ∧ s.resuming = false ∧ s.odie = [] ∧ ∃ e, s.cached k = some e ∧ s.pinned.contains k = false ∧ (s.crypto.cache.all fun x => !(keyLevel x.1 + 1 == keyLevel k && parentKey x.1 == k)) = true ∧ e.dirty = true ∧ (s.parentCtr (keyRange k) (keyOld k) (keyLevel k) (keyIdx k)).isSome = true) ∧
    (∃ (s : State), ∃ (k : Nat), s.canon ∧ s.tables ∧ s.safe = false ∧ s.resuming = false ∧ s.odie = [] ∧ ∃ e, s.cached k = some e ∧ s.pinned.contains k = false ∧ (s.crypto.cache.all fun x => !(keyLevel x.1 + 1 == keyLevel k && parentKey x.1 == k)) = true ∧ e.dirty = true ∧ (s.parentCtr (keyRange k) (keyOld k) (keyLevel k) (keyIdx k)) = none) ∧
    (∃ (s : State), ∃ (r : Nat), s.canon ∧ s.tables ∧ s.safe = false ∧ s.resuming = false ∧ s.odie = [] ∧ r < 32 ∧ ∃ id, ∃ j, s.pageJob r 3 = some (id, j) ∧ s.crJob id = some j ∧ s.missing j = [] ∧ leafMajor (s.leaf r (j.line / 64)) + 1 < 2 ^ 56 - 1) ∧
    (∃ (s : State), ∃ (r : Nat), s.canon ∧ s.tables ∧ s.safe = false ∧ s.resuming = false ∧ s.odie = [] ∧ r < 32 ∧ ∃ id, ∃ j, (s.jobsOf r).find? (fun x => x.2.kind == 6 && x.2.phase == 5) = some (id, j) ∧ (s.crr r).disabling = false) :=
    ⟨⟨WC1.pick 17, 805306368, And.imp canon_of (And.imp tables_of (keep (keep (⟨·, exSome (by decide +kernel) ((by decide +kernel))⟩)))) (by decide +kernel)⟩,
    ⟨WC1.pick 18, 805306368, And.imp canon_of (And.imp tables_of (keep (keep (⟨·, exSome (by decide +kernel) ((by decide +kernel))⟩)))) (by decide +kernel)⟩,
    ⟨WC1.pick 20, 3, And.imp canon_of (And.imp tables_of (keep (keep (keep (⟨·, exPair (by decide +kernel) ((by decide +kernel))⟩))))) (by decide +kernel)⟩,
    ⟨WC1.pick 64, 3, And.imp canon_of (And.imp tables_of (keep (keep (keep (⟨·, exPair (by decide +kernel) ((by decide +kernel))⟩))))) (by decide +kernel)⟩⟩

theorem test_witness_ProtectedRangesAreServed_4 :
    (∃ (s : State), ∃ (r : Nat), s.canon ∧ s.tables ∧ s.safe = false ∧ s.resuming = false ∧ s.odie = [] ∧ r < 32 ∧ ∃ id, ∃ j, s.pageJob r 4 = some (id, j) ∧ s.crJob id = some j ∧ s.missing j = [] ∧ ((pathKeys r false (s.crr r).lp (j.line / 64)).all fun k => keyLevel k == 0 || (s.cached k).isSome) = true) ∧
    (∃ (s : State), ∃ (r : Nat), s.canon ∧ s.tables ∧ s.safe = false ∧ s.resuming = false ∧ s.odie = [] ∧ r < 32 ∧ (s.crr r).disabling = true ∧ s.jobsOf r = [] ∧ s.protPkts r = false) ∧
    (∃ (s : State), ∃ (r : Nat), ∃ (h : CmdHdr), s.canon ∧ s.tables ∧ s.safe = false ∧ s.resuming = false ∧ s.odie = [] ∧ r < 32 ∧ s.accepts ((⟨h, 0x0902, .r, argBytes [(6, 1, r)], false⟩ : Ebryn)) ∧ (s.rgState r = 2 ∨ s.rgState r = 3) ∧ s.f Fld.CR_RANGE_CTRL_ENABLE r = 1 ∧ (s.crr r).disabling = false ∧ s.jobsOf r = []) ∧
    (∃ (s : State), ∃ (r : Nat), ∃ (h : CmdHdr), s.canon ∧ s.tables ∧ s.safe = false ∧ s.resuming = false ∧ s.odie = [] ∧ r < 32 ∧ s.accepts ((⟨h, 0x0902, .r, argBytes [(6, 1, r)], false⟩ : Ebryn)) ∧ s.rgState r = 1) :=
    ⟨⟨WC1.pick 68, 3, And.imp canon_of (And.imp tables_of (keep (keep (keep (⟨·, exPair (by decide +kernel) ((by decide +kernel))⟩))))) (by decide +kernel)⟩,
    ⟨WC1.pick 27, 3, (And.imp canon_of (And.imp tables_of id)) (by decide +kernel)⟩,
    ⟨WC1.pick 0, 3, { port := 0, node := 0, ep := 546, tag := 7, len := 58 }, (And.imp canon_of (And.imp tables_of (And.imp id (And.imp id (And.imp id (And.imp id (And.imp accepts_of id))))))) (by decide +kernel)⟩,
    ⟨WC1.pick 7, 3, { port := 0, node := 0, ep := 546, tag := 7, len := 58 }, (And.imp canon_of (And.imp tables_of (And.imp id (And.imp id (And.imp id (And.imp id (And.imp accepts_of id))))))) (by decide +kernel)⟩⟩

theorem test_witness_ProtectedRangesAreServed_5 :
    (∃ (s : State), ∃ (r : Nat), ∃ (h : CmdHdr), s.canon ∧ s.tables ∧ s.safe = false ∧ s.resuming = false ∧ s.odie = [] ∧ r < 32 ∧ s.accepts ((⟨h, 0x0903, .r, argBytes [(6, 1, r)], false⟩ : Ebryn)) ∧ s.f Fld.CR_RANGE_CTRL_ENABLE r = 1 ∧ s.rgState r ≠ 0) ∧
    (∃ (s : State), ∃ (r : Nat), ∃ (h : CmdHdr), s.canon ∧ s.tables ∧ s.safe = false ∧ s.resuming = false ∧ s.odie = [] ∧ r < 32 ∧ s.accepts ((⟨h, 0x0903, .r, argBytes [(6, 1, r)], false⟩ : Ebryn)) ∧ s.rgState r = 0) :=
    ⟨⟨WC1.pick 0, 3, { port := 0, node := 0, ep := 546, tag := 7, len := 58 }, (And.imp canon_of (And.imp tables_of (And.imp id (And.imp id (And.imp id (And.imp id (And.imp accepts_of id))))))) (by decide +kernel)⟩,
    ⟨WC1.pick 0, 0, { port := 0, node := 0, ep := 546, tag := 7, len := 58 }, (And.imp canon_of (And.imp tables_of (And.imp id (And.imp id (And.imp id (And.imp id (And.imp accepts_of id))))))) (by decide +kernel)⟩⟩

theorem test_witness_KeyExchangesInstallKeys_0 :
    (∃ (s : State), ∃ (h : CmdHdr), ∃ (k : Nat), s.canon ∧ s.tables ∧ k < 32 ∧ s.accepts ((⟨h, 0x0904, .r, argBytes [(6, 1, k)], false⟩ : Ebryn)) ∧ s.kexReady k = true ∧ (s.enc k).phase = 0) ∧
    (∃ (s : State), ∃ (h : CmdHdr), ∃ (k : Nat), s.canon ∧ s.tables ∧ k < 32 ∧ s.accepts ((⟨h, 0x0904, .r, argBytes [(6, 1, k)], false⟩ : Ebryn)) ∧ s.kexReady k = true ∧ (s.enc k).phase ≠ 0) ∧
    (∃ (s : State), ∃ (h : CmdHdr), ∃ (k : Nat), s.canon ∧ s.tables ∧ k < 32 ∧ s.accepts ((⟨h, 0x0904, .r, argBytes [(6, 1, k)], false⟩ : Ebryn)) ∧ s.kexReady k = false) ∧
    (∃ (s : State), ∃ (k : Nat), s.canon ∧ s.tables ∧ k < 32 ∧ s.f Fld.CR_LINK_CFG_AUTO_KEX k = 1 ∧ (s.enc k).txKey = none ∧ s.f Fld.CO_NODE_VALID 0 = 1 ∧ s.linkF Fld.DP_PEER_NODE_VALID Fld.SL_PEER_NODE_VALID k = 1 ∧ s.fuses.uid < s.linkF Fld.DP_PEER_UID_LO_UID Fld.SL_PEER_UID_LO_UID k + 2 ^ 32 * s.linkF Fld.DP_PEER_UID_HI_UID Fld.SL_PEER_UID_HI_UID k ∧ s.linkActive k = true ∧ s.peerEncCap k = true ∧ s.hasChain = true ∧ (s.enc k).phase = 0) ∧
    (∃ (s : State), ∃ (k : Nat), s.canon ∧ s.tables ∧ k < 32 ∧ (s.enc k).phase ≠ 0) ∧
    (∃ (s : State), ∃ (k : Nat), s.canon ∧ s.tables ∧ k < 32 ∧ (s.enc k).rxMsg ≠ []) ∧
    (∃ (s : State), ∃ (h : CmdHdr), ∃ (k : Nat), ∃ (msg : Nat), ∃ (far : Nat), ∃ (total : Nat), ∃ (off : Nat), ∃ (b : List Byte), s.canon ∧ s.tables ∧ k < 32 ∧ s.accepts ((⟨h, 0x0905, .r, argBytes [(6, 1, msg), (7, 1, far), (8, 2, total), (10, 2, off)] ++ b, false⟩ : Ebryn)) ∧ 1 ≤ msg ∧ msg ≤ 3 ∧ far < 32 ∧ off % 52 = 0 ∧ s.kexLink h.node = some k ∧ 0 < total ∧ total ≤ 8192 ∧ off ≤ total ∧ b.length = min 52 (total - off) ∧ (((off = 0 ∧ (s.enc k).rxMsg = []) ∨ ((s.enc k).rxMsgKind = msg ∧ (s.enc k).rxTotal = total ∧ (s.enc k).rxMsg.length = off))) ∧ (((msg = 1 ∧ (s.enc k).phase = 0) ∨ (msg = 2 ∧ (s.enc k).phase = 1) ∨ (msg = 3 ∧ (s.enc k).phase = 2))) ∧ off + b.length < total) ∧
    (∃ (s : State), ∃ (h : CmdHdr), ∃ (k : Nat), ∃ (msg : Nat), ∃ (far : Nat), ∃ (total : Nat), ∃ (off : Nat), ∃ (b : List Byte), s.canon ∧ s.tables ∧ k < 32 ∧ s.accepts ((⟨h, 0x0905, .r, argBytes [(6, 1, msg), (7, 1, far), (8, 2, total), (10, 2, off)] ++ b, false⟩ : Ebryn)) ∧ 1 ≤ msg ∧ msg ≤ 3 ∧ far < 32 ∧ off % 52 = 0 ∧ s.kexLink h.node = some k ∧ 0 < total ∧ total ≤ 8192 ∧ off ≤ total ∧ b.length = min 52 (total - off) ∧ (¬((off = 0 ∧ (s.enc k).rxMsg = []) ∨ ((s.enc k).rxMsgKind = msg ∧ (s.enc k).rxTotal = total ∧ (s.enc k).rxMsg.length = off))) ∧ (s.enc k).cmd = none) :=
    ⟨⟨WK1.pick 0, { port := 17, node := 5, ep := 546, tag := 7, len := 58 }, 3, (And.imp canon_of (And.imp tables_of (And.imp id (And.imp accepts_of id)))) (by decide +kernel)⟩,
    ⟨WK1.pick 2, { port := 17, node := 5, ep := 546, tag := 7, len := 58 }, 3, (And.imp canon_of (And.imp tables_of (And.imp id (And.imp accepts_of id)))) (by decide +kernel)⟩,
    ⟨WK1.pick 0, { port := 17, node := 5, ep := 546, tag := 7, len := 58 }, 0, (And.imp canon_of (And.imp tables_of (And.imp id (And.imp accepts_of id)))) (by decide +kernel)⟩,
    ⟨WK1.pick 0, 3, (And.imp canon_of (And.imp tables_of id)) (by decide +kernel)⟩,
    ⟨WK1.pick 2, 3, (And.imp canon_of (And.imp tables_of id)) (by decide +kernel)⟩,
    ⟨WK1.pick 4, 3, (And.imp canon_of (And.imp tables_of id)) (by decide +kernel)⟩,
    ⟨WK1.pick 0, { port := 17, node := 5, ep := 546, tag := 7, len := 58 }, 3, 1, 0, 64, 0, (List.replicate 52 10), (And.imp canon_of (And.imp tables_of (And.imp id (And.imp accepts_of id)))) (by decide +kernel)⟩,
    ⟨WK1.pick 0, { port := 17, node := 5, ep := 546, tag := 7, len := 58 }, 3, 1, 0, 64, 52, (List.replicate 12 3), (And.imp canon_of (And.imp tables_of (And.imp id (And.imp accepts_of id)))) (by decide +kernel)⟩⟩

theorem test_witness_KeyExchangesInstallKeys_1 :
    (∃ (s : State), ∃ (h : CmdHdr), ∃ (k : Nat), ∃ (msg : Nat), ∃ (far : Nat), ∃ (total : Nat), ∃ (off : Nat), ∃ (b : List Byte), s.canon ∧ s.tables ∧ k < 32 ∧ s.accepts ((⟨h, 0x0905, .r, argBytes [(6, 1, msg), (7, 1, far), (8, 2, total), (10, 2, off)] ++ b, false⟩ : Ebryn)) ∧ 1 ≤ msg ∧ msg ≤ 3 ∧ far < 32 ∧ off % 52 = 0 ∧ s.kexLink h.node = some k ∧ 0 < total ∧ total ≤ 8192 ∧ off ≤ total ∧ b.length = min 52 (total - off) ∧ (((off = 0 ∧ (s.enc k).rxMsg = []) ∨ ((s.enc k).rxMsgKind = msg ∧ (s.enc k).rxTotal = total ∧ (s.enc k).rxMsg.length = off))) ∧ (¬((msg = 1 ∧ (s.enc k).phase = 0) ∨ (msg = 2 ∧ (s.enc k).phase = 1) ∨ (msg = 3 ∧ (s.enc k).phase = 2)))) :=
    ⟨WK1.pick 0, { port := 17, node := 5, ep := 546, tag := 7, len := 58 }, 3, 2, 0, 52, 0, (List.replicate 52 10), (And.imp canon_of (And.imp tables_of (And.imp id (And.imp accepts_of id)))) (by decide +kernel)⟩

theorem test_witness_ClockLoopFollowsItsRules_0 :
    (∃ (s : State), ∃ (n : Nat), s.canon ∧ s.tables ∧ s.boot.por = false ∧ s.f Fld.CK_STATUS_RC_FAIL 0 = 0 ∧ s.clk.comp = true ∧ 980 ≤ n ∧ n ≤ 1020) ∧
    (∃ (s : State), ∃ (n : Nat), s.canon ∧ s.tables ∧ s.boot.por = false ∧ s.f Fld.CK_STATUS_RC_FAIL 0 = 0 ∧ s.clk.comp = true ∧ (n < 980 ∨ 1020 < n)) ∧
    (∃ (s : State), s.canon ∧ s.tables ∧ s.f Fld.CK_STATUS_REF_GOOD 0 = 1) ∧
    (∃ (s : State), s.canon ∧ s.tables ∧ s.f Fld.CK_STATUS_REF_GOOD 0 = 0) ∧
    (∃ (s : State), s.canon ∧ s.tables ∧ s.loopRuns = true) ∧
    (∃ (s : State), s.canon ∧ s.tables ∧ s.loopRuns = false) ∧
    (∃ (s : State), s.canon ∧ s.tables ∧ s.mayLock = true) ∧
    (∃ (s : State), s.canon ∧ s.tables ∧ s.mayLock = false) :=
    ⟨⟨WG1.pick 0, 980, (And.imp canon_of (And.imp tables_of id)) (by decide +kernel)⟩,
    ⟨WG1.pick 0, 0, (And.imp canon_of (And.imp tables_of id)) (by decide +kernel)⟩,
    ⟨WG1.pick 1, (And.imp canon_of (And.imp tables_of id)) (by decide +kernel)⟩,
    ⟨WG1.pick 0, (And.imp canon_of (And.imp tables_of id)) (by decide +kernel)⟩,
    ⟨WG1.pick 0, (And.imp canon_of (And.imp tables_of id)) (by decide +kernel)⟩,
    ⟨WG1.pick 5, (And.imp canon_of (And.imp tables_of id)) (by decide +kernel)⟩,
    ⟨WG1.pick 4, (And.imp canon_of (And.imp tables_of id)) (by decide +kernel)⟩,
    ⟨WG1.pick 0, (And.imp canon_of (And.imp tables_of id)) (by decide +kernel)⟩⟩

theorem test_witness_ClockLoopFollowsItsRules_1 :
    (∃ (s : State), s.canon ∧ s.tables ∧ s.hearth = 5 ∧ s.mayLock = true) ∧
    (∃ (s : State), ∃ (locked : Bool), s.canon ∧ s.tables ∧ (s.hearth ≠ 5 ∨ s.mayLock = false ∨ locked = false)) ∧
    (∃ (s : State), s.canon ∧ s.tables ∧ s.mayLock = true ∧ s.hearth ≠ 3) ∧
    (∃ (s : State), s.canon ∧ s.tables ∧ (s.mayLock = false ∨ s.hearth = 3)) ∧
    (∃ (s : State), ∃ (toLoop : Bool), ∃ (forced : Bool), s.canon ∧ s.tables ∧ toLoop = s.loopRuns ∧ forced = (!toLoop || s.f Fld.CK_STATUS_RC_FAIL 0 == 1) ∧ s.f Fld.CK_STATUS_HK_SRC 0 ≠ toLoop.toNat) ∧
    (∃ (s : State), ∃ (toLoop : Bool), ∃ (forced : Bool), s.canon ∧ s.tables ∧ toLoop = s.loopRuns ∧ forced = (!toLoop || s.f Fld.CK_STATUS_RC_FAIL 0 == 1) ∧ s.f Fld.CK_STATUS_MP_SRC 0 ≠ toLoop.toNat) ∧
    (∃ (s : State), ∃ (point : Nat), ∃ (toLoop : Bool), ∃ (forced : Bool), s.canon ∧ s.tables ∧ (2 ≤ point ∨ toLoop ≠ s.loopRuns ∨ forced ≠ (!toLoop || s.f Fld.CK_STATUS_RC_FAIL 0 == 1))) :=
    ⟨⟨WG1.pick 6, (And.imp canon_of (And.imp tables_of id)) (by decide +kernel)⟩,
    ⟨WG1.pick 0, true, (And.imp canon_of (And.imp tables_of id)) (by decide +kernel)⟩,
    ⟨WG1.pick 5, (And.imp canon_of (And.imp tables_of id)) (by decide +kernel)⟩,
    ⟨WG1.pick 0, (And.imp canon_of (And.imp tables_of id)) (by decide +kernel)⟩,
    ⟨WG1.pick 0, true, false, (And.imp canon_of (And.imp tables_of id)) (by decide +kernel)⟩,
    ⟨WG1.pick 0, true, false, (And.imp canon_of (And.imp tables_of id)) (by decide +kernel)⟩,
    ⟨WG1.pick 0, 0, true, true, (And.imp canon_of (And.imp tables_of id)) (by decide +kernel)⟩⟩

theorem test_witness_UnitGatesOpenAndClose_0 :
    (∃ (s : State), ∃ (kind : Nat), ∃ (idx : Nat), s.canon ∧ s.tables ∧ kind ≤ 4 ∧ idx < (fun (kind : Nat) => (if kind = 0 then 128 else if kind = 4 then 3 else 16 : Nat)) kind ∧ s.gateReq kind idx = false ∧ (¬(s.safe = true ∨ s.resuming = true))) ∧
    (∃ (s : State), ∃ (kind : Nat), ∃ (idx : Nat), s.canon ∧ s.tables ∧ kind ≤ 4 ∧ idx < (fun (kind : Nat) => (if kind = 0 then 128 else if kind = 4 then 3 else 16 : Nat)) kind ∧ s.gateReq kind idx = false ∧ ((s.safe = true ∨ s.resuming = true))) ∧
    (∃ (s : State), ∃ (kind : Nat), ∃ (idx : Nat), s.canon ∧ s.tables ∧ kind ≤ 4 ∧ idx < (fun (kind : Nat) => (if kind = 0 then 128 else if kind = 4 then 3 else 16 : Nat)) kind ∧ s.gateReq kind idx = true) ∧
    (∃ (s : State), ∃ (kind : Nat), ∃ (idx : Nat), s.canon ∧ s.tables ∧ kind ≤ 4 ∧ idx < (fun (kind : Nat) => (if kind = 0 then 128 else if kind = 4 then 3 else 16 : Nat)) kind ∧ s.gateReq kind idx = true ∧ (¬(s.safe = true ∨ s.resuming = true)) ∧ s.closeRefused kind idx = false) ∧
    (∃ (s : State), ∃ (kind : Nat), ∃ (idx : Nat), s.canon ∧ s.tables ∧ kind ≤ 4 ∧ idx < (fun (kind : Nat) => (if kind = 0 then 128 else if kind = 4 then 3 else 16 : Nat)) kind ∧ s.gateReq kind idx = true ∧ ((s.safe = true ∨ s.resuming = true) ∨ s.closeRefused kind idx = true)) ∧
    (∃ (s : State), ∃ (kind : Nat), ∃ (idx : Nat), s.canon ∧ s.tables ∧ kind ≤ 4 ∧ idx < (fun (kind : Nat) => (if kind = 0 then 128 else if kind = 4 then 3 else 16 : Nat)) kind ∧ s.gateReq kind idx = false) ∧
    (∃ (s : State), ∃ (kind : Nat), ∃ (idx : Nat), s.canon ∧ s.tables ∧ kind ≤ 4 ∧ idx < (fun (kind : Nat) => (if kind = 0 then 128 else if kind = 4 then 3 else 16 : Nat)) kind ∧ s.gating kind idx = 1) ∧
    (∃ (s : State), ∃ (kind : Nat), ∃ (idx : Nat), s.canon ∧ s.tables ∧ kind ≤ 4 ∧ idx < (fun (kind : Nat) => (if kind = 0 then 128 else if kind = 4 then 3 else 16 : Nat)) kind ∧ s.gating kind idx ≠ 1) :=
    ⟨⟨WG2.pick 0, 0, 0, (And.imp canon_of (And.imp tables_of id)) (by decide +kernel)⟩,
    ⟨WG2.pick 2, 0, 0, (And.imp canon_of (And.imp tables_of id)) (by decide +kernel)⟩,
    ⟨WG2.pick 17, 1, 2, (And.imp canon_of (And.imp tables_of id)) (by decide +kernel)⟩,
    ⟨WG2.pick 17, 1, 2, (And.imp canon_of (And.imp tables_of id)) (by decide +kernel)⟩,
    ⟨WG2.pick 19, 1, 2, (And.imp canon_of (And.imp tables_of id)) (by decide +kernel)⟩,
    ⟨WG2.pick 0, 0, 0, (And.imp canon_of (And.imp tables_of id)) (by decide +kernel)⟩,
    ⟨WG2.pick 4, 0, 5, (And.imp canon_of (And.imp tables_of id)) (by decide +kernel)⟩,
    ⟨WG2.pick 0, 0, 0, (And.imp canon_of (And.imp tables_of id)) (by decide +kernel)⟩⟩

theorem test_witness_UnitGatesOpenAndClose_1 :
    (∃ (s : State), ∃ (kind : Nat), ∃ (idx : Nat), s.canon ∧ s.tables ∧ kind ≤ 4 ∧ idx < (fun (kind : Nat) => (if kind = 0 then 128 else if kind = 4 then 3 else 16 : Nat)) kind ∧ s.gating kind idx = 2) ∧
    (∃ (s : State), ∃ (kind : Nat), ∃ (idx : Nat), s.canon ∧ s.tables ∧ kind ≤ 4 ∧ idx < (fun (kind : Nat) => (if kind = 0 then 128 else if kind = 4 then 3 else 16 : Nat)) kind ∧ s.gating kind idx ≠ 2) ∧
    (∃ (s : State), ∃ (h : CmdHdr), ∃ (kind : Nat), ∃ (idx : Nat), ∃ (opens : Bool), s.canon ∧ s.tables ∧ s.accepts ((⟨h, 0x0111, .r, argBytes [(6, 1, kind), (7, 1, idx), (8, 1, if opens then 1 else 0)], false⟩ : Ebryn)) ∧ (5 ≤ kind ∨ (fun (kind : Nat) => (if kind = 0 then 128 else if kind = 4 then 3 else 16 : Nat)) kind ≤ idx)) ∧
    (∃ (s : State), ∃ (h : CmdHdr), ∃ (kind : Nat), ∃ (idx : Nat), ∃ (opens : Bool), s.canon ∧ s.tables ∧ s.accepts ((⟨h, 0x0111, .r, argBytes [(6, 1, kind), (7, 1, idx), (8, 1, if opens then 1 else 0)], false⟩ : Ebryn)) ∧ kind < 5 ∧ idx < (fun (kind : Nat) => (if kind = 0 then 128 else if kind = 4 then 3 else 16 : Nat)) kind ∧ s.gateReq kind idx = opens ∧ s.gateOpen kind idx = opens ∧ s.gating kind idx = 0) ∧
    (∃ (s : State), ∃ (h : CmdHdr), ∃ (kind : Nat), ∃ (idx : Nat), ∃ (opens : Bool), s.canon ∧ s.tables ∧ s.accepts ((⟨h, 0x0111, .r, argBytes [(6, 1, kind), (7, 1, idx), (8, 1, if opens then 1 else 0)], false⟩ : Ebryn)) ∧ kind < 5 ∧ idx < (fun (kind : Nat) => (if kind = 0 then 128 else if kind = 4 then 3 else 16 : Nat)) kind ∧ s.gateReq kind idx ≠ opens ∧ (s.safe = true ∨ (opens = false ∧ s.closeRefused kind idx = true))) ∧
    (∃ (s : State), ∃ (h : CmdHdr), ∃ (kind : Nat), ∃ (idx : Nat), ∃ (opens : Bool), s.canon ∧ s.tables ∧ s.accepts ((⟨h, 0x0111, .r, argBytes [(6, 1, kind), (7, 1, idx), (8, 1, if opens then 1 else 0)], false⟩ : Ebryn)) ∧ kind < 5 ∧ idx < (fun (kind : Nat) => (if kind = 0 then 128 else if kind = 4 then 3 else 16 : Nat)) kind ∧ s.gateReq kind idx ≠ opens ∧ s.safe = false ∧ s.gateOpen kind idx ≠ opens ∧ ((opens = false → s.closeRefused kind idx = false))) :=
    ⟨⟨WG2.pick 5, 0, 5, (And.imp canon_of (And.imp tables_of id)) (by decide +kernel)⟩,
    ⟨WG2.pick 0, 0, 0, (And.imp canon_of (And.imp tables_of id)) (by decide +kernel)⟩,
    ⟨WG2.pick 0, { port := 0, node := 0, ep := 546, tag := 7, len := 58 }, 1, 127, true, (And.imp canon_of (And.imp tables_of (And.imp accepts_of id))) (by decide +kernel)⟩,
    ⟨WG2.pick 0, { port := 0, node := 0, ep := 546, tag := 7, len := 58 }, 0, 0, false, (And.imp canon_of (And.imp tables_of (And.imp accepts_of id))) (by decide +kernel)⟩,
    ⟨WG2.pick 2, { port := 0, node := 0, ep := 546, tag := 7, len := 58 }, 0, 0, true, (And.imp canon_of (And.imp tables_of (And.imp accepts_of id))) (by decide +kernel)⟩,
    ⟨WG2.pick 0, { port := 0, node := 0, ep := 546, tag := 7, len := 58 }, 0, 0, true, (And.imp canon_of (And.imp tables_of (And.imp accepts_of id))) (by decide +kernel)⟩⟩

theorem test_witness_PowerAndTemperatureFollowTheirRules_0 :
    (∃ (s : State), ∃ (step : Nat), ∃ (rail : RailSag), s.canon ∧ s.tables ∧ s.boot.por = false ∧ (s.f Fld.PW_SHED_STATUS_LEVEL 0) < step ∧ step = s.shedDepth rail.sag ∧ 2 ≤ rail.rail ∧ rail.rail ≤ 9) ∧
    (∃ (s : State), ∃ (rail : RailSag), s.canon ∧ s.tables ∧ s.boot.por = false ∧ (rail.rail < 2 ∨ 9 < rail.rail)) ∧
    (∃ (s : State), ∃ (step : Nat), ∃ (rail : RailSag), s.canon ∧ s.tables ∧ s.boot.por = false ∧ 2 ≤ rail.rail ∧ rail.rail ≤ 9 ∧ (step ≤ (s.f Fld.PW_SHED_STATUS_LEVEL 0) ∨ step ≠ s.shedDepth rail.sag)) ∧
    (∃ (s : State), ∃ (h : ShedHold), s.canon ∧ s.tables ∧ s.boot.por = false ∧ h.step = (s.f Fld.PW_SHED_STATUS_LEVEL 0) ∧ 1 ≤ (s.f Fld.PW_SHED_STATUS_LEVEL 0) ∧ ((s.f Fld.PW_SHED_STATUS_LEVEL 0) ≤ 5 ∨ ((s.f Fld.PW_SHED_STATUS_LEVEL 0) = 6 ∧ s.safe = true)) ∧ s.shedMayLeave h = true) ∧
    (∃ (s : State), ∃ (h : ShedHold), s.canon ∧ s.tables ∧ s.boot.por = false ∧ (h.step ≠ (s.f Fld.PW_SHED_STATUS_LEVEL 0) ∨ h.step = 0 ∨ (h.step = 6 ∧ s.safe = false) ∨ s.shedMayLeave h = false) ∧ (300 ≤ h.sag ∨ h.us < 100)) ∧
    (∃ (s : State), s.canon ∧ s.tables ∧ s.boot.por = false) ∧
    (∃ (s : State), s.canon ∧ s.tables ∧ s.boot.por = false ∧ s.boot.resetLow = false ∧ (s.pow.adcCh) < 64) ∧
    (∃ (s : State), s.canon ∧ s.tables ∧ s.boot.por = false ∧ s.boot.resetLow = false ∧ s.pow.roundDue = false) :=
    ⟨⟨WG3.pick 1, 1, { rail := 2, sag := 301 }, (And.imp canon_of (And.imp tables_of id)) (by decide +kernel)⟩,
    ⟨WG3.pick 0, { rail := 1, sag := 0 }, (And.imp canon_of (And.imp tables_of id)) (by decide +kernel)⟩,
    ⟨WG3.pick 0, 0, { rail := 2, sag := 0 }, (And.imp canon_of (And.imp tables_of id)) (by decide +kernel)⟩,
    ⟨WG3.pick 0, { step := 6, sag := 0, us := 100000 }, (And.imp canon_of (And.imp tables_of id)) (by decide +kernel)⟩,
    ⟨WG3.pick 0, { step := 0, sag := 0, us := 50 }, (And.imp canon_of (And.imp tables_of id)) (by decide +kernel)⟩,
    ⟨WG3.pick 0, (And.imp canon_of (And.imp tables_of id)) (by decide +kernel)⟩,
    ⟨WG3.pick 0, (And.imp canon_of (And.imp tables_of id)) (by decide +kernel)⟩,
    ⟨WG3.pick 1, (And.imp canon_of (And.imp tables_of id)) (by decide +kernel)⟩⟩

theorem test_witness_PowerAndTemperatureFollowTheirRules_1 :
    (∃ (s : State), s.canon ∧ s.tables ∧ s.boot.por = false ∧ s.boot.resetLow = false ∧ s.pow.roundDue = true) ∧
    (∃ (s : State), ∃ (l : List Nat), s.canon ∧ s.tables ∧ s.boot.por = false ∧ s.boot.resetLow = false ∧ l.length = 18) ∧
    (∃ (s : State), s.canon ∧ s.tables ∧ s.boot.step < 7) ∧
    (∃ (s : State), s.canon ∧ s.tables ∧ 7 ≤ s.boot.step ∧ ((s.journal.apply 9 (((List.range 5).map fun k => s.f Fld.TH_LIFE_HOURS k).flatMap (leBytes 4))).tooBig) = false) ∧
    (∃ (s : State), s.canon ∧ s.tables ∧ 7 ≤ s.boot.step ∧ ((s.journal.apply 9 (((List.range 5).map fun k => s.f Fld.TH_LIFE_HOURS k).flatMap (leBytes 4))).tooBig) = true) ∧
    (∃ (s : State), ∃ (h : CmdHdr), ∃ (offset : Nat), ∃ (ms : Nat), s.canon ∧ s.tables ∧ s.accepts ((⟨h, 0x0A04, .r, argBytes [(6, 1, offset), (8, 4, ms)], false⟩ : Ebryn)) ∧ ((sgn 8 offset < -20 ∨ 20 < sgn 8 offset ∨ ms < 1 ∨ 1000 < ms))) ∧
    (∃ (s : State), ∃ (h : CmdHdr), ∃ (offset : Nat), ∃ (ms : Nat), s.canon ∧ s.tables ∧ s.accepts ((⟨h, 0x0A04, .r, argBytes [(6, 1, offset), (8, 4, ms)], false⟩ : Ebryn)) ∧ (¬(sgn 8 offset < -20 ∨ 20 < sgn 8 offset ∨ ms < 1 ∨ 1000 < ms)) ∧ s.fuses.lc = 2) ∧
    (∃ (s : State), ∃ (h : CmdHdr), ∃ (offset : Nat), ∃ (ms : Nat), s.canon ∧ s.tables ∧ s.accepts ((⟨h, 0x0A04, .r, argBytes [(6, 1, offset), (8, 4, ms)], false⟩ : Ebryn)) ∧ (¬(sgn 8 offset < -20 ∨ 20 < sgn 8 offset ∨ ms < 1 ∨ 1000 < ms)) ∧ s.fuses.lc ≠ 2) :=
    ⟨⟨WG3.pick 0, (And.imp canon_of (And.imp tables_of id)) (by decide +kernel)⟩,
    ⟨WG3.pick 0, [0, 1, 2, 3, 4, 5, 6, 7, 8, 9, 10, 11, 12, 13, 14, 15, 16, 17], (And.imp canon_of (And.imp tables_of id)) (by decide +kernel)⟩,
    ⟨WG3.pick 25, (And.imp canon_of (And.imp tables_of id)) (by decide +kernel)⟩,
    ⟨WG3.pick 0, (And.imp canon_of (And.imp tables_of id)) (by decide +kernel)⟩,
    ⟨WG3.pick 28, (And.imp canon_of (And.imp tables_of (And.imp id (fun (_ : True) => big_of rfl)))) (by decide +kernel)⟩,
    ⟨WG3.pick 0, { port := 0, node := 0, ep := 546, tag := 7, len := 58 }, 0, 0, (And.imp canon_of (And.imp tables_of (And.imp accepts_of id))) (by decide +kernel)⟩,
    ⟨WG3.pick 26, { port := 0, node := 0, ep := 546, tag := 7, len := 58 }, 0, 1, (And.imp canon_of (And.imp tables_of (And.imp accepts_of id))) (by decide +kernel)⟩,
    ⟨WG3.pick 0, { port := 0, node := 0, ep := 546, tag := 7, len := 58 }, 0, 1, (And.imp canon_of (And.imp tables_of (And.imp accepts_of id))) (by decide +kernel)⟩⟩

theorem test_witness_PowerAndTemperatureFollowTheirRules_2 :
    (∃ (s : State), s.canon ∧ s.tables) :=
    ⟨WG3.pick 0, (And.imp canon_of tables_of) (by decide +kernel)⟩

theorem test_witness_ResetDomainsAndFuseLoad_0 :
    (∃ (s : State), s.canon ∧ s.tables) ∧
    (∃ (s : State), s.canon ∧ s.tables ∧ s.boot.por = true) ∧
    (∃ (s : State), s.canon ∧ s.tables ∧ s.boot.por = false) ∧
    (∃ (s : State), s.canon ∧ s.tables ∧ s.boot.por = true) ∧
    (∃ (s : State), s.canon ∧ s.tables ∧ s.boot.por = false) ∧
    (∃ (s : State), s.canon ∧ s.tables ∧ s.boot.resetLow = true ∧ s.boot.por = false) ∧
    (∃ (s : State), s.canon ∧ s.tables ∧ s.boot.resetLow = true ∧ s.boot.por = true) ∧
    (∃ (s : State), s.canon ∧ s.tables ∧ s.boot.resetLow = false) :=
    ⟨⟨WH1.pick 0, (And.imp canon_of tables_of) (by decide +kernel)⟩,
    ⟨WH1.pick 1, (And.imp canon_of (And.imp tables_of id)) (by decide +kernel)⟩,
    ⟨WH1.pick 0, (And.imp canon_of (And.imp tables_of id)) (by decide +kernel)⟩,
    ⟨WH1.pick 1, (And.imp canon_of (And.imp tables_of id)) (by decide +kernel)⟩,
    ⟨WH1.pick 0, (And.imp canon_of (And.imp tables_of id)) (by decide +kernel)⟩,
    ⟨WH1.pick 4, (And.imp canon_of (And.imp tables_of id)) (by decide +kernel)⟩,
    ⟨WH1.pick 2, (And.imp canon_of (And.imp tables_of id)) (by decide +kernel)⟩,
    ⟨WH1.pick 0, (And.imp canon_of (And.imp tables_of id)) (by decide +kernel)⟩⟩

theorem test_witness_ResetDomainsAndFuseLoad_1 :
    (∃ (s : State), s.canon ∧ s.tables ∧ s.boot.por = false ∧ s.boot.resetLow = false) ∧
    (∃ (s : State), s.canon ∧ s.tables ∧ (s.boot.por = true ∨ s.boot.resetLow = true)) ∧
    (∃ (s : State), ∃ (h : CmdHdr), s.canon ∧ s.tables ∧ s.accepts ((⟨h, 0x0B04, .i, [], false⟩ : Ebryn))) ∧
    (∃ (s : State), s.canon ∧ s.tables ∧ ∃ c, s.boot.delayedReset = some c ∧ True) ∧
    (∃ (s : State), s.canon ∧ s.tables ∧ s.boot.delayedReset = none) :=
    ⟨⟨WH1.pick 0, (And.imp canon_of (And.imp tables_of id)) (by decide +kernel)⟩,
    ⟨WH1.pick 1, (And.imp canon_of (And.imp tables_of id)) (by decide +kernel)⟩,
    ⟨WH1.pick 0, { port := 0, node := 0, ep := 546, tag := 7, len := 58 }, (And.imp canon_of (And.imp tables_of accepts_of)) (by decide +kernel)⟩,
    ⟨WH1.pick 11, And.imp canon_of (fun x => ⟨tables_of x, exSome (by decide +kernel) trivial⟩) (by decide +kernel)⟩,
    ⟨WH1.pick 0, (And.imp canon_of (And.imp tables_of id)) (by decide +kernel)⟩⟩

theorem test_witness_StartUpStepsComplete_0 :
    (∃ (s : State), s.canon ∧ s.tables ∧ s.boot.por = false ∧ s.boot.resetLow = false ∧ s.boot.step = 3 ∧ s.boot.stopped = false ∧ s.fuses.lc ≠ 4) ∧
    (∃ (s : State), s.canon ∧ s.tables ∧ (s.boot.step ≠ 3 ∨ s.boot.stopped = true ∨ s.fuses.lc = 4)) ∧
    (∃ (s : State), ∃ (order : Nat), ∃ (slice : Nat), s.canon ∧ s.tables ∧ s.boot.step = 6 ∧ s.safe = false ∧ s.shutdown = false ∧ s.f Fld.BT_STATUS_ST_RUNNING 0 = 1 ∧ s.f Fld.PW_SHED_STATUS_LEVEL 0 = 0 ∧ sliceAt orderSlices 1 s.boot.testPos = (order, slice) ∧ s.boot.testPos + 1 < 35) ∧
    (∃ (s : State), ∃ (order : Nat), ∃ (slice : Nat), s.canon ∧ s.tables ∧ s.boot.step = 6 ∧ s.safe = false ∧ s.shutdown = false ∧ s.f Fld.BT_STATUS_ST_RUNNING 0 = 1 ∧ s.f Fld.PW_SHED_STATUS_LEVEL 0 = 0 ∧ sliceAt orderSlices 1 s.boot.testPos = (order, slice) ∧ s.boot.testPos = 34) ∧
    (∃ (s : State), ∃ (order : Nat), ∃ (slice : Nat), ∃ (unit : Nat), s.canon ∧ s.tables ∧ s.boot.step = 6 ∧ s.safe = false ∧ s.shutdown = false ∧ s.f Fld.BT_STATUS_ST_RUNNING 0 = 1 ∧ s.f Fld.PW_SHED_STATUS_LEVEL 0 = 0 ∧ sliceAt orderSlices 1 s.boot.testPos = (order, slice) ∧ unit < 256 ∧ s.boot.testPos + 1 < 35 ∧ s.boot.records.length < 64) ∧
    (∃ (s : State), ∃ (order : Nat), ∃ (slice : Nat), ∃ (col : Nat), ∃ (b : Nat), s.canon ∧ s.tables ∧ s.boot.step = 6 ∧ s.safe = false ∧ s.shutdown = false ∧ s.f Fld.BT_STATUS_ST_RUNNING 0 = 1 ∧ s.f Fld.PW_SHED_STATUS_LEVEL 0 = 0 ∧ sliceAt orderSlices 1 s.boot.testPos = (order, slice) ∧ b < 512 ∧ col < 9216 ∧ s.boot.testPos + 1 < 35 ∧ ∃ k, s.freeSpare b col = some k ∧ True) ∧
    (∃ (s : State), ∃ (order : Nat), ∃ (slice : Nat), s.canon ∧ s.tables ∧ (s.boot.step ≠ 6 ∨ s.safe = true ∨ s.f Fld.PW_SHED_STATUS_LEVEL 0 ≠ 0 ∨ sliceAt orderSlices 1 s.boot.testPos ≠ (order, slice))) ∧
    (∃ (s : State), ∃ (loft : Nat), s.canon ∧ s.tables ∧ s.boot.step = 8 ∧ s.boot.stopped = false ∧ s.safe = false ∧ s.shutdown = false ∧ loft = s.boot.wipePos + 1 ∧ loft ≤ 4) :=
    ⟨⟨WH2.pick 0, (And.imp canon_of (And.imp tables_of id)) (by decide +kernel)⟩,
    ⟨WH2.pick 1, (And.imp canon_of (And.imp tables_of id)) (by decide +kernel)⟩,
    ⟨WH2.pick 2, 1, 0, (And.imp canon_of (And.imp tables_of id)) (by decide +kernel)⟩,
    ⟨WH2.pick 7, 8, 3, (And.imp canon_of (And.imp tables_of id)) (by decide +kernel)⟩,
    ⟨WH2.pick 2, 1, 0, 0, (And.imp canon_of (And.imp tables_of id)) (by decide +kernel)⟩,
    ⟨WH2.pick 2, 1, 0, 0, 0, And.imp canon_of (And.imp tables_of (keep (keep (keep (keep (keep (keep (keep (keep (⟨·, exSome (by decide +kernel) trivial⟩)))))))))) (by decide +kernel)⟩,
    ⟨WH2.pick 0, 0, 0, (And.imp canon_of (And.imp tables_of id)) (by decide +kernel)⟩,
    ⟨WH2.pick 11, 1, (And.imp canon_of (And.imp tables_of id)) (by decide +kernel)⟩⟩

theorem test_witness_StartUpStepsComplete_1 :
    (∃ (s : State), ∃ (loft : Nat), s.canon ∧ s.tables ∧ (s.boot.step ≠ 8 ∨ s.boot.stopped = true ∨ loft ≠ s.boot.wipePos + 1 ∨ 4 < loft)) ∧
    (∃ (s : State), s.canon ∧ s.tables ∧ s.boot.step = 9 ∧ s.boot.stopped = false ∧ s.safe = false ∧ s.shutdown = false ∧ s.commit = none ∧ (s.f Fld.BT_STATUS_PROFILE_WAIT 0 = 0 ∨ s.boot.selected.isSome = true ∨ s.boot.pushed.isSome = true) ∧ s.boot.pushed.isNone = true ∧ s.slotValid (s.boot.selected.getD s.boot.pins) = false) ∧
    (∃ (s : State), s.canon ∧ s.tables ∧ s.boot.step = 9 ∧ s.boot.stopped = false ∧ s.safe = false ∧ s.shutdown = false ∧ s.commit = none ∧ (s.f Fld.BT_STATUS_PROFILE_WAIT 0 = 0 ∨ s.boot.selected.isSome = true ∨ s.boot.pushed.isSome = true) ∧ (s.boot.pushed.isSome = true ∨ s.slotValid (s.boot.selected.getD s.boot.pins) = true)) ∧
    (∃ (s : State), s.canon ∧ s.tables ∧ (s.boot.step ≠ 9 ∨ s.boot.stopped = true ∨ s.safe = true ∨ s.commit.isSome = true)) :=
    ⟨⟨WH2.pick 0, 0, (And.imp canon_of (And.imp tables_of id)) (by decide +kernel)⟩,
    ⟨WH2.pick 15, (And.imp canon_of (And.imp tables_of id)) (by decide +kernel)⟩,
    ⟨WH2.pick 14, (And.imp canon_of (And.imp tables_of id)) (by decide +kernel)⟩,
    ⟨WH2.pick 0, (And.imp canon_of (And.imp tables_of id)) (by decide +kernel)⟩⟩

theorem test_witness_EpochCommitRunsItsPhases_0 :
    (∃ (s : State), ∃ (h : CmdHdr), s.canon ∧ s.tables ∧ s.accepts ((⟨h, 0x0201, .r, [], false⟩ : Ebryn)) ∧ s.commit.isSome = true) ∧
    (∃ (s : State), ∃ (h : CmdHdr), s.canon ∧ s.tables ∧ s.accepts ((⟨h, 0x0201, .r, [], false⟩ : Ebryn)) ∧ s.commit = none) ∧
    (∃ (s : State), ∃ (h : CmdHdr), s.canon ∧ s.tables ∧ s.accepts ((⟨h, 0x0202, .s, [], false⟩ : Ebryn))) ∧
    (∃ (s : State), s.canon ∧ s.tables ∧ ∃ c, s.commit = some c ∧ c.phase = 1 ∧ (((List.range 128).any fun n => (s.room n).ld.isSome) = false ∨ (c.inner ≠ 1 ∧ c.inner ≠ 4)) ∧ s.validSet s.snapshot = true ∧ c.inner ≠ 1) ∧
    (∃ (s : State), s.canon ∧ s.tables ∧ ∃ c, s.commit = some c ∧ c.phase = 1 ∧ c.inner = 0 ∧ s.validSet s.snapshot = false) ∧
    (∃ (s : State), s.canon ∧ s.tables ∧ ∃ c, s.commit = some c ∧ c.phase = 1 ∧ (c.inner = 1 ∨ c.inner = 4) ∧ ((List.range 128).any fun n => (s.room n).ld.isSome) = true) ∧
    (∃ (s : State), s.canon ∧ s.tables ∧ ∃ c, s.commit = some c ∧ c.phase = 1 ∧ c.inner = 1 ∧ ((List.range 128).any fun n => (s.room n).ld.isSome) = false ∧ s.validSet s.snapshot = true) ∧
    (∃ (s : State), s.canon ∧ s.tables ∧ (s.commit.all fun c => c.phase != 1) = true) :=
    ⟨⟨WJ1.pick 2, { port := 0, node := 0, ep := 546, tag := 7, len := 58 }, (And.imp canon_of (And.imp tables_of (And.imp accepts_of id))) (by decide +kernel)⟩,
    ⟨WJ1.pick 0, { port := 0, node := 0, ep := 546, tag := 7, len := 58 }, (And.imp canon_of (And.imp tables_of (And.imp accepts_of id))) (by decide +kernel)⟩,
    ⟨WJ1.pick 0, { port := 0, node := 0, ep := 546, tag := 7, len := 58 }, (And.imp canon_of (And.imp tables_of accepts_of)) (by decide +kernel)⟩,
    ⟨WJ1.pick 17, And.imp canon_of (fun x => ⟨tables_of x, exSome (by decide +kernel) ((And.imp id (And.imp id (And.imp valid_of id))) (by decide +kernel))⟩) (by decide +kernel)⟩,
    ⟨WJ1.pick 3, And.imp canon_of (fun x => ⟨tables_of x, exSome (by decide +kernel) ((by decide +kernel))⟩) (by decide +kernel)⟩,
    ⟨WJ1.pick 7, And.imp canon_of (fun x => ⟨tables_of x, exSome (by decide +kernel) ((by decide +kernel))⟩) (by decide +kernel)⟩,
    ⟨WJ1.pick 18, And.imp canon_of (fun x => ⟨tables_of x, exSome (by decide +kernel) ((And.imp id (And.imp id (And.imp id valid_of))) (by decide +kernel))⟩) (by decide +kernel)⟩,
    ⟨WJ1.pick 0, (And.imp canon_of (And.imp tables_of id)) (by decide +kernel)⟩⟩

theorem test_witness_EpochCommitRunsItsPhases_1 :
    (∃ (s : State), s.canon ∧ s.tables ∧ ∃ c, s.commit = some c ∧ c.phase = 2 ∧ c.audit = none) ∧
    (∃ (s : State), s.canon ∧ s.tables ∧ ∃ c, s.commit = some c ∧ c.phase = 2 ∧ ∃ b, ∃ i, ∃ d, c.audit = some (b, i, d) ∧ True) ∧
    (∃ (s : State), s.canon ∧ s.tables ∧ (s.commit.all fun c => c.phase != 2) = true) ∧
    (∃ (s : State), s.canon ∧ s.tables ∧ ∃ c, s.commit = some c ∧ c.phase = 3 ∧ c.inner = 0) ∧
    (∃ (s : State), s.canon ∧ s.tables ∧ (s.commit.all fun c => c.phase != 3) = true) ∧
    (∃ (s : State), s.canon ∧ s.tables ∧ ∃ c, s.commit = some c ∧ c.phase = 4 ∧ c.inner = 0 ∧ s.boot.inSafePending = none) ∧
    (∃ (s : State), s.canon ∧ s.tables ∧ ∃ c, s.commit = some c ∧ c.phase = 4 ∧ c.inner = 0 ∧ s.boot.inSafePending.isSome = true) ∧
    (∃ (s : State), s.canon ∧ s.tables ∧ ∃ c, s.commit = some c ∧ c.phase = 4 ∧ c.inner = 1 ∧ s.boot.inSafePending = none) :=
    ⟨⟨WJ1.pick 10, And.imp canon_of (fun x => ⟨tables_of x, exSome (by decide +kernel) ((by decide +kernel))⟩) (by decide +kernel)⟩,
    ⟨WJ1.pick 11, And.imp canon_of (fun x => ⟨tables_of x, exSome (by decide +kernel) ((⟨·, exTri (by decide +kernel) trivial⟩) (by decide +kernel))⟩) (by decide +kernel)⟩,
    ⟨WJ1.pick 0, (And.imp canon_of (And.imp tables_of id)) (by decide +kernel)⟩,
    ⟨WJ1.pick 2, And.imp canon_of (fun x => ⟨tables_of x, exSome (by decide +kernel) ((by decide +kernel))⟩) (by decide +kernel)⟩,
    ⟨WJ1.pick 0, (And.imp canon_of (And.imp tables_of id)) (by decide +kernel)⟩,
    ⟨WJ1.pick 14, And.imp canon_of (fun x => ⟨tables_of x, exSome (by decide +kernel) ((by decide +kernel))⟩) (by decide +kernel)⟩,
    ⟨WJ1.pick 15, And.imp canon_of (fun x => ⟨tables_of x, exSome (by decide +kernel) ((by decide +kernel))⟩) (by decide +kernel)⟩,
    ⟨WJ1.pick 16, And.imp canon_of (fun x => ⟨tables_of x, exSome (by decide +kernel) ((by decide +kernel))⟩) (by decide +kernel)⟩⟩

theorem test_witness_EpochCommitRunsItsPhases_2 :
    (∃ (s : State), s.canon ∧ s.tables ∧ (s.commit.all fun c => c.phase != 4) = true) ∧
    (∃ (s : State), s.canon ∧ s.tables ∧ (s.f Fld.EP_STATUS_AUDIT_SUSPENDED 0 = 1 ∨ s.commit.isSome = true ∨ s.loopRuns = false)) ∧
    (∃ (s : State), s.canon ∧ s.tables ∧ s.f Fld.EP_STATUS_AUDIT_SUSPENDED 0 = 0 ∧ s.commit = none ∧ s.loopRuns = true ∧ s.audit = none) ∧
    (∃ (s : State), s.canon ∧ s.tables ∧ s.f Fld.EP_STATUS_AUDIT_SUSPENDED 0 = 0 ∧ s.commit = none ∧ s.loopRuns = true ∧ ∃ b, ∃ i, ∃ d, s.audit = some (b, i, d) ∧ True) ∧
    (∃ (s : State), ∃ (h : CmdHdr), s.canon ∧ s.tables ∧ s.accepts ((⟨h, 0x0203, .r, [], false⟩ : Ebryn)) ∧ s.replaying = false ∧ s.recording = false ∧ s.audit = none) ∧
    (∃ (s : State), ∃ (h : CmdHdr), s.canon ∧ s.tables ∧ s.accepts ((⟨h, 0x0203, .r, [], false⟩ : Ebryn)) ∧ s.replaying = false ∧ s.recording = false ∧ ∃ b, ∃ i, ∃ d, s.audit = some (b, i, d) ∧ s.pastCommitPoint = false) ∧
    (∃ (s : State), ∃ (h : CmdHdr), ∃ (dest : Nat), s.canon ∧ s.tables ∧ s.accepts ((⟨h, 0x0204, .s, argBytes [(6, 8, dest)], false⟩ : Ebryn)) ∧ s.rangeOk dest 12032 = false) ∧
    (∃ (s : State), ∃ (h : CmdHdr), ∃ (dest : Nat), s.canon ∧ s.tables ∧ s.accepts ((⟨h, 0x0204, .s, argBytes [(6, 8, dest)], false⟩ : Ebryn)) ∧ s.rangeOk dest 12032 = true) :=
    ⟨⟨WJ1.pick 0, (And.imp canon_of (And.imp tables_of id)) (by decide +kernel)⟩,
    ⟨WJ1.pick 2, (And.imp canon_of (And.imp tables_of id)) (by decide +kernel)⟩,
    ⟨WJ1.pick 0, (And.imp canon_of (And.imp tables_of (And.imp id (And.imp id (And.imp id (fun (_ : True) => audit_rest)))))) (by decide +kernel)⟩,
    ⟨WJ1.pick 1, And.imp canon_of (And.imp tables_of (keep (keep (⟨·, exTri (by decide +kernel) trivial⟩)))) (by decide +kernel)⟩,
    ⟨WJ1.pick 0, { port := 0, node := 0, ep := 546, tag := 7, len := 58 }, (And.imp canon_of (And.imp tables_of (And.imp accepts_of (And.imp id (And.imp id (fun (_ : True) => audit_rest)))))) (by decide +kernel)⟩,
    ⟨WJ1.pick 1, { port := 0, node := 0, ep := 546, tag := 7, len := 58 }, And.imp canon_of (And.imp tables_of (And.imp accepts_of (keep (⟨·, exTri (by decide +kernel) ((by decide +kernel))⟩)))) (by decide +kernel)⟩,
    ⟨WJ1.pick 0, { port := 0, node := 0, ep := 546, tag := 7, len := 58 }, 0, (And.imp canon_of (And.imp tables_of (And.imp accepts_of id))) (by decide +kernel)⟩,
    ⟨WJ1.pick 0, { port := 0, node := 0, ep := 546, tag := 7, len := 58 }, 4832886784, (And.imp canon_of (And.imp tables_of (And.imp accepts_of id))) (by decide +kernel)⟩⟩

theorem test_witness_FoundationResetAndRecovery_0 :
    (∃ (s : State), ∃ (h : CmdHdr), s.canon ∧ s.tables ∧ s.accepts ((⟨h, 0x0B01, .r, [], false⟩ : Ebryn))) ∧
    (∃ (s : State), s.canon ∧ s.tables ∧ s.boot.frPhase = 1) ∧
    (∃ (s : State), s.canon ∧ s.tables ∧ s.boot.frPhase ≠ 1) ∧
    (∃ (s : State), s.canon ∧ s.tables ∧ s.boot.frPhase = 2) :=
    ⟨⟨WJ2.pick 0, { port := 0, node := 0, ep := 546, tag := 7, len := 58 }, (And.imp canon_of (And.imp tables_of accepts_of)) (by decide +kernel)⟩,
    ⟨WJ2.pick 4, (And.imp canon_of (And.imp tables_of id)) (by decide +kernel)⟩,
    ⟨WJ2.pick 0, (And.imp canon_of (And.imp tables_of id)) (by decide +kernel)⟩,
    ⟨WJ2.pick 5, (And.imp canon_of (And.imp tables_of id)) (by decide +kernel)⟩⟩

theorem test_witness_FoundationResetAndRecovery_1 :
    (∃ (s : State), s.canon ∧ s.tables ∧ s.boot.frPhase ≠ 2) ∧
    (∃ (s : State), s.canon ∧ s.tables ∧ s.boot.frPhase = 3) ∧
    (∃ (s : State), s.canon ∧ s.tables ∧ s.boot.frPhase ≠ 3) ∧
    (∃ (s : State), s.canon ∧ s.tables ∧ s.boot.frPhase = 4) :=
    ⟨⟨WJ2.pick 0, (And.imp canon_of (And.imp tables_of id)) (by decide +kernel)⟩,
    ⟨WJ2.pick 7, (And.imp canon_of (And.imp tables_of id)) (by decide +kernel)⟩,
    ⟨WJ2.pick 0, (And.imp canon_of (And.imp tables_of id)) (by decide +kernel)⟩,
    ⟨WJ2.pick 9, (And.imp canon_of (And.imp tables_of id)) (by decide +kernel)⟩⟩

theorem test_witness_FoundationResetAndRecovery_2 :
    (∃ (s : State), s.canon ∧ s.tables ∧ s.boot.frPhase ≠ 4) ∧
    (∃ (s : State), ∃ (h : CmdHdr), s.canon ∧ s.tables ∧ s.accepts ((⟨h, 0x0B02, .s, [], false⟩ : Ebryn)) ∧ (s.resuming = false ∨ s.safe = true)) ∧
    (∃ (s : State), ∃ (h : CmdHdr), s.canon ∧ s.tables ∧ s.accepts ((⟨h, 0x0B02, .s, [], false⟩ : Ebryn)) ∧ s.resuming = true ∧ s.safe = false ∧ s.boot.frPhase ≠ 0) ∧
    (∃ (s : State), ∃ (h : CmdHdr), s.canon ∧ s.tables ∧ s.accepts ((⟨h, 0x0B02, .s, [], false⟩ : Ebryn)) ∧ s.resuming = true ∧ s.safe = false ∧ s.boot.frPhase = 0 ∧ (banks512.any fun b => s.retained b && s.f Fld.LB_PWR_CAUSE b != 1 && !s.shedBank b && !(s.bank b).wakeWait) = true ∧ s.f Fld.PW_SHED_STATUS_LEVEL 0 = 0) :=
    ⟨⟨WJ2.pick 0, (And.imp canon_of (And.imp tables_of id)) (by decide +kernel)⟩,
    ⟨WJ2.pick 0, { port := 0, node := 0, ep := 546, tag := 7, len := 58 }, (And.imp canon_of (And.imp tables_of (And.imp accepts_of id))) (by decide +kernel)⟩,
    ⟨WJ2.pick 11, { port := 0, node := 0, ep := 546, tag := 7, len := 58 }, (And.imp canon_of (And.imp tables_of (And.imp accepts_of id))) (by decide +kernel)⟩,
    ⟨WJ2.pick 13, { port := 0, node := 0, ep := 546, tag := 7, len := 58 }, (And.imp canon_of (And.imp tables_of (And.imp accepts_of id))) (by decide +kernel)⟩⟩

theorem test_witness_FoundationResetAndRecovery_3 :
    (∃ (s : State), ∃ (h : CmdHdr), s.canon ∧ s.tables ∧ s.accepts ((⟨h, 0x0B02, .s, [], false⟩ : Ebryn)) ∧ s.resuming = true ∧ s.safe = false ∧ s.boot.frPhase = 0 ∧ (banks512.any fun b => s.retained b || s.f Fld.LB_PWR_PSTATE b == 3 || (s.bank b).wakeWait) = false) ∧
    (∃ (s : State), ∃ (h : CmdHdr), ∃ (retest : Nat), s.canon ∧ s.tables ∧ s.shutdown = true ∧ s.accepts ((fun (v : Svc) => (⟨h, 0x0B03, v, argBytes [(6, 1, retest)], false⟩ : Ebryn)) .i)) ∧
    (∃ (s : State), ∃ (h : CmdHdr), ∃ (retest : Nat), s.canon ∧ s.tables ∧ s.shutdown = false ∧ s.accepts ((fun (v : Svc) => (⟨h, 0x0B03, v, argBytes [(6, 1, retest)], false⟩ : Ebryn)) .s) ∧ 2 ≤ retest) ∧
    (∃ (s : State), ∃ (h : CmdHdr), ∃ (retest : Nat), s.canon ∧ s.tables ∧ s.shutdown = false ∧ s.accepts ((fun (v : Svc) => (⟨h, 0x0B03, v, argBytes [(6, 1, retest)], false⟩ : Ebryn)) .s) ∧ retest < 2 ∧ s.safe = false) :=
    ⟨⟨WJ2.pick 10, { port := 0, node := 0, ep := 546, tag := 7, len := 58 }, (And.imp canon_of (And.imp tables_of (And.imp accepts_of id))) (by decide +kernel)⟩,
    ⟨WJ2.pick 19, { port := 0, node := 0, ep := 546, tag := 7, len := 58 }, 0, (And.imp canon_of (And.imp tables_of (And.imp id accepts_of))) (by decide +kernel)⟩,
    ⟨WJ2.pick 0, { port := 0, node := 0, ep := 546, tag := 7, len := 58 }, 2, (And.imp canon_of (And.imp tables_of (And.imp id (And.imp accepts_of id)))) (by decide +kernel)⟩,
    ⟨WJ2.pick 0, { port := 0, node := 0, ep := 546, tag := 7, len := 58 }, 0, (And.imp canon_of (And.imp tables_of (And.imp id (And.imp accepts_of id)))) (by decide +kernel)⟩⟩

theorem test_witness_FoundationResetAndRecovery_4 :
    (∃ (s : State), ∃ (h : CmdHdr), ∃ (retest : Nat), s.canon ∧ s.tables ∧ s.shutdown = false ∧ s.accepts ((fun (v : Svc) => (⟨h, 0x0B03, v, argBytes [(6, 1, retest)], false⟩ : Ebryn)) .s) ∧ retest < 2 ∧ s.safe = true ∧ (s.commit.isSome = true ∨ s.boot.frPhase = 6)) ∧
    (∃ (s : State), ∃ (h : CmdHdr), ∃ (retest : Nat), s.canon ∧ s.tables ∧ s.shutdown = false ∧ s.accepts ((fun (v : Svc) => (⟨h, 0x0B03, v, argBytes [(6, 1, retest)], false⟩ : Ebryn)) .s) ∧ retest < 2 ∧ s.safe = true ∧ s.commit = none ∧ s.boot.frPhase ≠ 6 ∧ s.f Fld.PW_SHED_STATUS_LEVEL 0 = 0 ∧ (banks512.any fun b => s.f Fld.LB_PWR_CAUSE b != 1) = true) ∧
    (∃ (s : State), ∃ (b : Nat), s.canon ∧ s.tables ∧ (s.boot.frPhase = 6 ∧ s.commit = none) ∧ (s.wakeComplete b).wakesDone = true ∧ ∃ retest, ∃ found, s.boot.recov = some (retest, found) ∧ s.loopRuns = true ∧ s.epoch = 0) ∧
    (∃ (s : State), ∃ (b : Nat), s.canon ∧ s.tables ∧ (s.boot.frPhase = 6 ∧ s.commit = none) ∧ (s.wakeComplete b).wakesDone = true ∧ ∃ retest, ∃ found, s.boot.recov = some (retest, found) ∧ s.loopRuns = true ∧ s.epoch ≠ 0 ∧ s.boot.stopped = false ∧ s.boot.failed = [] ∧ s.tierNow ≠ 0 ∧ found = []) :=
    ⟨⟨WJ2.pick 21, { port := 0, node := 0, ep := 546, tag := 7, len := 58 }, 0, (And.imp canon_of (And.imp tables_of (And.imp id (And.imp accepts_of id)))) (by decide +kernel)⟩,
    ⟨WJ2.pick 16, { port := 0, node := 0, ep := 546, tag := 7, len := 58 }, 0, (And.imp canon_of (And.imp tables_of (And.imp id (And.imp accepts_of id)))) (by decide +kernel)⟩,
    ⟨WJ2.pick 48, 5, And.imp canon_of (And.imp tables_of (keep (⟨·, exPair (by decide +kernel) ((by decide +kernel))⟩))) (by decide +kernel)⟩,
    ⟨WJ2.pick 46, 5, And.imp canon_of (And.imp tables_of (keep (⟨·, exPair (by decide +kernel) ((by decide +kernel))⟩))) (by decide +kernel)⟩⟩

theorem test_witness_FoundationResetAndRecovery_5 :
    (∃ (s : State), ∃ (b : Nat), s.canon ∧ s.tables ∧ (s.boot.frPhase = 6 ∧ s.commit = none) ∧ (s.wakeComplete b).wakesDone = true ∧ ∃ retest, ∃ found, s.boot.recov = some (retest, found) ∧ s.loopRuns = true ∧ s.epoch ≠ 0 ∧ found = [{ kind := 7, layer := 0, unit := 3, addr := 0, seg := 0, bit := 0 }]) ∧
    (∃ (s : State), ∃ (b : Nat), s.canon ∧ s.tables ∧ (s.boot.frPhase = 6 ∧ s.commit = none) ∧ (s.wakeComplete b).wakesDone = true ∧ ∃ retest, ∃ found, s.boot.recov = some (retest, found) ∧ s.loopRuns = false) :=
    ⟨⟨WJ2.pick 47, 5, And.imp canon_of (And.imp tables_of (keep (⟨·, exPair (by decide +kernel) ((by decide +kernel))⟩))) (by decide +kernel)⟩,
    ⟨WJ2.pick 49, 5, And.imp canon_of (And.imp tables_of (keep (⟨·, exPair (by decide +kernel) ((by decide +kernel))⟩))) (by decide +kernel)⟩⟩

theorem test_witness_StoreCommandsWriteFlash_0 :
    (∃ (s : State), ∃ (h : CmdHdr), ∃ (slot : Nat), ∃ (source : Nat), ∃ (len : Nat), s.canon ∧ s.tables ∧ s.accepts ((⟨h, 0x0E03, .r, argBytes [(6, 1, slot), (8, 8, source), (16, 4, len)], false⟩ : Ebryn)) ∧ ((8 ≤ slot ∨ slotSize < len + 0x10000 ∨ s.rangeOk source len = false))) ∧
    (∃ (s : State), ∃ (h : CmdHdr), ∃ (slot : Nat), ∃ (source : Nat), ∃ (len : Nat), s.canon ∧ s.tables ∧ s.accepts ((⟨h, 0x0E03, .r, argBytes [(6, 1, slot), (8, 8, source), (16, 4, len)], false⟩ : Ebryn)) ∧ (¬(8 ≤ slot ∨ slotSize < len + 0x10000 ∨ s.rangeOk source len = false))) ∧
    (∃ (s : State), ∃ (h : CmdHdr), ∃ (slot : Nat), s.canon ∧ s.tables ∧ s.accepts ((⟨h, 0x0E04, .i, argBytes [(6, 1, slot)], false⟩ : Ebryn)) ∧ 8 ≤ slot) ∧
    (∃ (s : State), ∃ (h : CmdHdr), ∃ (slot : Nat), s.canon ∧ s.tables ∧ s.accepts ((⟨h, 0x0E04, .i, argBytes [(6, 1, slot)], false⟩ : Ebryn)) ∧ slot < 8) ∧
    (∃ (s : State), ∃ (h : CmdHdr), ∃ (source : Nat), ∃ (len : Nat), s.canon ∧ s.tables ∧ s.accepts ((⟨h, 0x0E05, .w, argBytes [(8, 8, source), (16, 4, len)], false⟩ : Ebryn)) ∧ s.rangeOk source len = false) ∧
    (∃ (s : State), ∃ (h : CmdHdr), ∃ (source : Nat), ∃ (len : Nat), s.canon ∧ s.tables ∧ s.accepts ((⟨h, 0x0E05, .w, argBytes [(8, 8, source), (16, 4, len)], false⟩ : Ebryn)) ∧ s.rangeOk source len = true) ∧
    (∃ (s : State), ∃ (h : CmdHdr), ∃ (slot : Nat), s.canon ∧ s.tables ∧ s.accepts ((⟨h, 0x0E06, .w, argBytes [(6, 1, slot)], false⟩ : Ebryn)) ∧ 8 ≤ slot) ∧
    (∃ (s : State), ∃ (h : CmdHdr), ∃ (slot : Nat), s.canon ∧ s.tables ∧ s.accepts ((⟨h, 0x0E06, .w, argBytes [(6, 1, slot)], false⟩ : Ebryn)) ∧ slot < 8) :=
    ⟨⟨WS1.pick 0, { port := 0, node := 0, ep := 546, tag := 7, len := 58 }, 0, 0, 0, (And.imp canon_of (And.imp tables_of (And.imp accepts_of id))) (by decide +kernel)⟩,
    ⟨WS1.pick 0, { port := 0, node := 0, ep := 546, tag := 7, len := 58 }, 0, 4832886784, 0, (And.imp canon_of (And.imp tables_of (And.imp accepts_of id))) (by decide +kernel)⟩,
    ⟨WS1.pick 0, { port := 0, node := 0, ep := 546, tag := 7, len := 58 }, 8, (And.imp canon_of (And.imp tables_of (And.imp accepts_of id))) (by decide +kernel)⟩,
    ⟨WS1.pick 0, { port := 0, node := 0, ep := 546, tag := 7, len := 58 }, 0, (And.imp canon_of (And.imp tables_of (And.imp accepts_of id))) (by decide +kernel)⟩,
    ⟨WS1.pick 3, { port := 0, node := 0, ep := 546, tag := 7, len := 58 }, 0, 0, (And.imp canon_of (And.imp tables_of (And.imp accepts_of id))) (by decide +kernel)⟩,
    ⟨WS1.pick 3, { port := 0, node := 0, ep := 546, tag := 7, len := 58 }, 4832886784, 0, (And.imp canon_of (And.imp tables_of (And.imp accepts_of id))) (by decide +kernel)⟩,
    ⟨WS1.pick 3, { port := 0, node := 0, ep := 546, tag := 7, len := 58 }, 8, (And.imp canon_of (And.imp tables_of (And.imp accepts_of id))) (by decide +kernel)⟩,
    ⟨WS1.pick 3, { port := 0, node := 0, ep := 546, tag := 7, len := 58 }, 0, (And.imp canon_of (And.imp tables_of (And.imp accepts_of id))) (by decide +kernel)⟩⟩

theorem test_witness_StoreCommandsWriteFlash_1 :
    (∃ (s : State), ∃ (h : CmdHdr), ∃ (source : Nat), ∃ (len : Nat), s.canon ∧ s.tables ∧ s.accepts ((⟨h, 0x0E07, .b, argBytes [(8, 8, source), (16, 4, len)], false⟩ : Ebryn)) ∧ s.fuses.lc = 4) ∧
    (∃ (s : State), ∃ (h : CmdHdr), ∃ (source : Nat), ∃ (len : Nat), s.canon ∧ s.tables ∧ s.accepts ((⟨h, 0x0E07, .b, argBytes [(8, 8, source), (16, 4, len)], false⟩ : Ebryn)) ∧ s.fuses.lc ≠ 4 ∧ s.fuses.ue = true) ∧
    (∃ (s : State), ∃ (h : CmdHdr), ∃ (source : Nat), ∃ (len : Nat), s.canon ∧ s.tables ∧ s.accepts ((⟨h, 0x0E07, .b, argBytes [(8, 8, source), (16, 4, len)], false⟩ : Ebryn)) ∧ s.fuses.lc ≠ 4 ∧ s.fuses.ue = false ∧ (2 ^ 20 < len ∨ s.rangeOk source len = false)) ∧
    (∃ (s : State), ∃ (h : CmdHdr), ∃ (source : Nat), ∃ (len : Nat), s.canon ∧ s.tables ∧ s.accepts ((⟨h, 0x0E07, .b, argBytes [(8, 8, source), (16, 4, len)], false⟩ : Ebryn)) ∧ s.fuses.lc ≠ 4 ∧ s.fuses.ue = false ∧ len ≤ 2 ^ 20 ∧ s.rangeOk source len = true) ∧
    (∃ (s : State), ∃ (h : CmdHdr), ∃ (off : Nat), ∃ (value : Nat), ∃ (mask : Nat), s.canon ∧ s.tables ∧ s.accepts ((⟨h, 0x0E08, .i, argBytes [(6, 4, off), (10, 4, value), (14, 4, mask)], false⟩ : Ebryn)) ∧ ((off % 4 ≠ 0 ∨ (Reg.atOffset off).isNone = true))) ∧
    (∃ (s : State), ∃ (h : CmdHdr), ∃ (off : Nat), ∃ (value : Nat), ∃ (mask : Nat), s.canon ∧ s.tables ∧ s.accepts ((⟨h, 0x0E08, .i, argBytes [(6, 4, off), (10, 4, value), (14, 4, mask)], false⟩ : Ebryn)) ∧ (¬(off % 4 ≠ 0 ∨ (Reg.atOffset off).isNone = true)) ∧ ((4096 ≤ s.journal.settings.length ∧ mhas s.journal.settings off = false))) ∧
    (∃ (s : State), ∃ (h : CmdHdr), ∃ (off : Nat), ∃ (value : Nat), ∃ (mask : Nat), s.canon ∧ s.tables ∧ s.accepts ((⟨h, 0x0E08, .i, argBytes [(6, 4, off), (10, 4, value), (14, 4, mask)], false⟩ : Ebryn)) ∧ (¬(off % 4 ≠ 0 ∨ (Reg.atOffset off).isNone = true)) ∧ (¬(4096 ≤ s.journal.settings.length ∧ mhas s.journal.settings off = false))) ∧
    (∃ (s : State), ∃ (h : CmdHdr), ∃ (off : Nat), s.canon ∧ s.tables ∧ s.accepts ((⟨h, 0x0E09, .i, argBytes [(6, 4, off)], false⟩ : Ebryn)) ∧ ((off ≠ 0xFFFFFFFF ∧ (off % 4 ≠ 0 ∨ (Reg.atOffset off).isNone = true)))) :=
    ⟨⟨WS1.pick 5, { port := 0, node := 0, ep := 546, tag := 7, len := 58 }, 0, 0, (And.imp canon_of (And.imp tables_of (And.imp accepts_of id))) (by decide +kernel)⟩,
    ⟨WS1.pick 6, { port := 0, node := 0, ep := 546, tag := 7, len := 58 }, 0, 0, (And.imp canon_of (And.imp tables_of (And.imp accepts_of id))) (by decide +kernel)⟩,
    ⟨WS1.pick 0, { port := 0, node := 0, ep := 546, tag := 7, len := 58 }, 0, 0, (And.imp canon_of (And.imp tables_of (And.imp accepts_of id))) (by decide +kernel)⟩,
    ⟨WS1.pick 0, { port := 0, node := 0, ep := 546, tag := 7, len := 58 }, 4832886784, 0, (And.imp canon_of (And.imp tables_of (And.imp accepts_of id))) (by decide +kernel)⟩,
    ⟨WS1.pick 0, { port := 0, node := 0, ep := 546, tag := 7, len := 58 }, 1, 0, 0, (And.imp canon_of (And.imp tables_of (And.imp accepts_of id))) (by decide +kernel)⟩,
    ⟨WS1.pick 0, { port := 0, node := 0, ep := 546, tag := 7, len := 58 }, 0, 0, 0, (And.imp canon_of (And.imp tables_of (And.imp accepts_of id))) (by decide +kernel)⟩,
    ⟨WS1.pick 1, { port := 0, node := 0, ep := 546, tag := 7, len := 58 }, 0, 0, 0, (And.imp canon_of (And.imp tables_of (And.imp accepts_of id))) (by decide +kernel)⟩,
    ⟨WS1.pick 0, { port := 0, node := 0, ep := 546, tag := 7, len := 58 }, 1, (And.imp canon_of (And.imp tables_of (And.imp accepts_of id))) (by decide +kernel)⟩⟩

theorem test_witness_StoreCommandsWriteFlash_2 :
    (∃ (s : State), ∃ (h : CmdHdr), ∃ (off : Nat), s.canon ∧ s.tables ∧ s.accepts ((⟨h, 0x0E09, .i, argBytes [(6, 4, off)], false⟩ : Ebryn)) ∧ (¬(off ≠ 0xFFFFFFFF ∧ (off % 4 ≠ 0 ∨ (Reg.atOffset off).isNone = true)))) ∧
    (∃ (s : State), ∃ (h : CmdHdr), ∃ (dest : Nat), s.canon ∧ s.tables ∧ s.accepts ((⟨h, 0x0E0A, .i, argBytes [(8, 8, dest)], false⟩ : Ebryn)) ∧ s.rangeOk dest s.journal.off = false) ∧
    (∃ (s : State), ∃ (h : CmdHdr), ∃ (dest : Nat), s.canon ∧ s.tables ∧ s.accepts ((⟨h, 0x0E0A, .i, argBytes [(8, 8, dest)], false⟩ : Ebryn)) ∧ s.rangeOk dest s.journal.off = true) ∧
    (∃ (s : State), ∃ (h : CmdHdr), s.canon ∧ s.tables ∧ s.accepts ((⟨h, 0x0E0B, .i, [], false⟩ : Ebryn))) ∧
    (∃ (s : State), s.canon ∧ s.tables ∧ s.journal.compacting = false) ∧
    (∃ (s : State), s.canon ∧ s.tables ∧ s.journal.compacting = true ∧ s.journal.area ≤ 1 ∧ s.journal.tooBig = false) ∧
    (∃ (s : State), s.canon ∧ s.tables ∧ s.journal.jobs = []) ∧
    (∃ (s : State), s.canon ∧ s.tables ∧ ∃ j, ∃ rest, s.journal.jobs = j :: rest ∧ j.recs ≠ [] ∧ s.journal.compacting = true) :=
    ⟨⟨WS1.pick 0, { port := 0, node := 0, ep := 546, tag := 7, len := 58 }, 0, (And.imp canon_of (And.imp tables_of (And.imp accepts_of id))) (by decide +kernel)⟩,
    ⟨WS1.pick 0, { port := 0, node := 0, ep := 546, tag := 7, len := 58 }, 0, (And.imp canon_of (And.imp tables_of (And.imp accepts_of id))) (by decide +kernel)⟩,
    ⟨WS1.pick 0, { port := 0, node := 0, ep := 546, tag := 7, len := 58 }, 4832886784, (And.imp canon_of (And.imp tables_of (And.imp accepts_of id))) (by decide +kernel)⟩,
    ⟨WS1.pick 0, { port := 0, node := 0, ep := 546, tag := 7, len := 58 }, (And.imp canon_of (And.imp tables_of accepts_of)) (by decide +kernel)⟩,
    ⟨WS1.pick 0, (And.imp canon_of (And.imp tables_of id)) (by decide +kernel)⟩,
    ⟨WS1.pick 7, (And.imp canon_of (And.imp tables_of id)) (by decide +kernel)⟩,
    ⟨WS1.pick 0, (And.imp canon_of (And.imp tables_of id)) (by decide +kernel)⟩,
    ⟨WS1.pick 16, And.imp canon_of (fun x => ⟨tables_of x, exCons (by decide +kernel) ((by decide +kernel))⟩) (by decide +kernel)⟩⟩

theorem test_witness_StoreCommandsWriteFlash_3 :
    (∃ (s : State), s.canon ∧ s.tables ∧ ∃ j, ∃ rest, s.journal.jobs = j :: rest ∧ j.recs ≠ [] ∧ s.journal.compacting = false ∧ rest = []) ∧
    (∃ (s : State), s.canon ∧ s.tables ∧ ∃ j, ∃ rest, s.journal.jobs = j :: rest ∧ ∃ (off : Nat), ∃ (value : Nat), ∃ (mask : Nat), j.recs = [(2, leBytes 4 off ++ leBytes 4 value ++ leBytes 4 mask)] ∧ (off < 2 ^ 32 ∧ value < 2 ^ 32 ∧ mask < 2 ^ 32) ∧ s.journal.compacting = false ∧ rest = [] ∧ (s.journal.apply 2 (leBytes 4 off ++ leBytes 4 value ++ leBytes 4 mask)).tooBig = false) ∧
    (∃ (s : State), s.canon ∧ s.tables ∧ ∃ j, ∃ rest, s.journal.jobs = j :: rest ∧ j.recs = [] ∧ rest = []) ∧
    (∃ (s : State), s.canon ∧ s.tables ∧ ∃ j, ∃ rest, s.journal.jobs = j :: rest ∧ j.recs = [] ∧ rest = [] ∧ j.op = 0x0E04) ∧
    (∃ (s : State), s.canon ∧ s.tables ∧ ∃ j, ∃ rest, s.journal.jobs = j :: rest ∧ j.recs = [] ∧ rest = [] ∧ j.op ≠ 0x0E04 ∧ j.stage = 1) ∧
    (∃ (s : State), s.canon ∧ s.tables ∧ ∃ j, ∃ rest, s.journal.jobs = j :: rest ∧ j.recs = [] ∧ rest = [] ∧ j.op ≠ 0x0E04 ∧ j.stage = 2) ∧
    (∃ (s : State), s.canon ∧ s.tables ∧ ∃ j, ∃ rest, s.journal.jobs = j :: rest ∧ j.recs = [] ∧ rest = [] ∧ j.op ≠ 0x0E04 ∧ 3 ≤ j.stage ∧ j.op = 0x0E03 ∧ j.slot < 8 ∧ j.img.length < 2 ^ 32) :=
    ⟨⟨WS1.pick 15, And.imp canon_of (fun x => ⟨tables_of x, exCons (by decide +kernel) ((by decide +kernel))⟩) (by decide +kernel)⟩,
    ⟨WS1.pick 15, And.imp canon_of (fun x => ⟨tables_of x, exCons (by decide +kernel) (⟨64, 7, 4294967295, (by decide +kernel)⟩)⟩) (by decide +kernel)⟩,
    ⟨WS1.pick 8, And.imp canon_of (fun x => ⟨tables_of x, exCons (by decide +kernel) ((by decide +kernel))⟩) (by decide +kernel)⟩,
    ⟨WS1.pick 11, And.imp canon_of (fun x => ⟨tables_of x, exCons (by decide +kernel) ((by decide +kernel))⟩) (by decide +kernel)⟩,
    ⟨WS1.pick 8, And.imp canon_of (fun x => ⟨tables_of x, exCons (by decide +kernel) ((by decide +kernel))⟩) (by decide +kernel)⟩,
    ⟨WS1.pick 9, And.imp canon_of (fun x => ⟨tables_of x, exCons (by decide +kernel) ((by decide +kernel))⟩) (by decide +kernel)⟩,
    ⟨WS1.pick 10, And.imp canon_of (fun x => ⟨tables_of x, exCons (by decide +kernel) ((by decide +kernel))⟩) (by decide +kernel)⟩⟩

theorem test_witness_SecurityCommandsAndTap_0 :
    (∃ (s : State), ∃ (h : CmdHdr), ∃ (curve : Nat), ∃ (dest : Nat), s.canon ∧ s.tables ∧ s.accepts ((⟨h, 0x0C02, .i, argBytes [(6, 1, curve), (8, 8, dest)], false⟩ : Ebryn)) ∧ (curve ≠ 1 ∧ curve ≠ 2)) ∧
    (∃ (s : State), ∃ (h : CmdHdr), ∃ (curve : Nat), ∃ (dest : Nat), s.canon ∧ s.tables ∧ s.accepts ((⟨h, 0x0C02, .i, argBytes [(6, 1, curve), (8, 8, dest)], false⟩ : Ebryn)) ∧ (curve = 1 ∨ curve = 2) ∧ s.fuses.lc = 0) ∧
    (∃ (s : State), ∃ (h : CmdHdr), ∃ (curve : Nat), ∃ (dest : Nat), s.canon ∧ s.tables ∧ s.accepts ((⟨h, 0x0C02, .i, argBytes [(6, 1, curve), (8, 8, dest)], false⟩ : Ebryn)) ∧ (curve = 1 ∨ curve = 2) ∧ s.fuses.lc ≠ 0) ∧
    (∃ (s : State), ∃ (h : CmdHdr), ∃ (curve : Nat), ∃ (dest : Nat), ∃ nonce, s.canon ∧ s.tables ∧ s.accepts ((⟨h, 0x0C03, .i, argBytes [(6, 1, curve), (8, 8, dest)] ++ fit 0 32 nonce, false⟩ : Ebryn)) ∧ (curve ≠ 1 ∧ curve ≠ 2)) ∧
    (∃ (s : State), ∃ (h : CmdHdr), ∃ (curve : Nat), ∃ (dest : Nat), ∃ nonce, s.canon ∧ s.tables ∧ s.accepts ((⟨h, 0x0C03, .i, argBytes [(6, 1, curve), (8, 8, dest)] ++ fit 0 32 nonce, false⟩ : Ebryn)) ∧ (curve = 1 ∨ curve = 2) ∧ s.fuses.lc ≠ 2 ∧ s.fuses.lc ≠ 3) ∧
    (∃ (s : State), ∃ (h : CmdHdr), ∃ (curve : Nat), ∃ (dest : Nat), ∃ nonce, s.canon ∧ s.tables ∧ s.accepts ((⟨h, 0x0C03, .i, argBytes [(6, 1, curve), (8, 8, dest)] ++ fit 0 32 nonce, false⟩ : Ebryn)) ∧ (curve = 1 ∨ curve = 2) ∧ (s.fuses.lc = 2 ∨ s.fuses.lc = 3) ∧ s.rangeOk dest (((s.entered ((⟨h, 0x0C03, .i, argBytes [(6, 1, curve), (8, 8, dest)] ++ fit 0 32 nonce, false⟩ : Ebryn))).report curve nonce) ++ (s.entered ((⟨h, 0x0C03, .i, argBytes [(6, 1, curve), (8, 8, dest)] ++ fit 0 32 nonce, false⟩ : Ebryn))).idSign curve ((s.entered ((⟨h, 0x0C03, .i, argBytes [(6, 1, curve), (8, 8, dest)] ++ fit 0 32 nonce, false⟩ : Ebryn))).report curve nonce)).length = false) ∧
    (∃ (s : State), ∃ (h : CmdHdr), ∃ (curve : Nat), ∃ (dest : Nat), ∃ nonce, s.canon ∧ s.tables ∧ s.accepts ((⟨h, 0x0C03, .i, argBytes [(6, 1, curve), (8, 8, dest)] ++ fit 0 32 nonce, false⟩ : Ebryn)) ∧ (curve = 1 ∨ curve = 2) ∧ (s.fuses.lc = 2 ∨ s.fuses.lc = 3) ∧ s.rangeOk dest (((s.entered ((⟨h, 0x0C03, .i, argBytes [(6, 1, curve), (8, 8, dest)] ++ fit 0 32 nonce, false⟩ : Ebryn))).report curve nonce) ++ (s.entered ((⟨h, 0x0C03, .i, argBytes [(6, 1, curve), (8, 8, dest)] ++ fit 0 32 nonce, false⟩ : Ebryn))).idSign curve ((s.entered ((⟨h, 0x0C03, .i, argBytes [(6, 1, curve), (8, 8, dest)] ++ fit 0 32 nonce, false⟩ : Ebryn))).report curve nonce)).length = true) ∧
    (∃ (s : State), ∃ (h : CmdHdr), ∃ (target : Nat), ∃ (source : Nat), ∃ (len : Nat), s.canon ∧ s.tables ∧ s.accepts ((⟨h, 0x0C04, .s, argBytes [(6, 1, target), (8, 8, source), (16, 4, len)], false⟩ : Ebryn)) ∧ s.f Fld.PW_SHED_STATUS_LEVEL 0 ≠ 0) :=
    ⟨⟨WS2.pick 0, { port := 0, node := 0, ep := 546, tag := 7, len := 58 }, 0, 0, (And.imp canon_of (And.imp tables_of (And.imp accepts_of id))) (by decide +kernel)⟩,
    ⟨WS2.pick 1, { port := 0, node := 0, ep := 546, tag := 7, len := 58 }, 1, 0, (And.imp canon_of (And.imp tables_of (And.imp accepts_of id))) (by decide +kernel)⟩,
    ⟨WS2.pick 0, { port := 0, node := 0, ep := 546, tag := 7, len := 58 }, 1, 0, (And.imp canon_of (And.imp tables_of (And.imp accepts_of id))) (by decide +kernel)⟩,
    ⟨WS2.pick 0, { port := 0, node := 0, ep := 546, tag := 7, len := 58 }, 0, 0, (List.replicate 32 5), (And.imp canon_of (And.imp tables_of (And.imp accepts_of id))) (by decide +kernel)⟩,
    ⟨WS2.pick 1, { port := 0, node := 0, ep := 546, tag := 7, len := 58 }, 1, 0, (List.replicate 32 5), (And.imp canon_of (And.imp tables_of (And.imp accepts_of id))) (by decide +kernel)⟩,
    ⟨WS2.pick 0, { port := 0, node := 0, ep := 546, tag := 7, len := 58 }, 1, 0, (List.replicate 32 5), (And.imp canon_of (And.imp tables_of (And.imp accepts_of (And.imp id (And.imp id sign_of))))) (by decide +kernel)⟩,
    ⟨WS2.pick 0, { port := 0, node := 0, ep := 546, tag := 7, len := 58 }, 1, 4832886784, (List.replicate 32 5), (And.imp canon_of (And.imp tables_of (And.imp accepts_of (And.imp id (And.imp id sign_of))))) (by decide +kernel)⟩,
    ⟨WS2.pick 7, { port := 0, node := 0, ep := 546, tag := 7, len := 58 }, 0, 0, 0, (And.imp canon_of (And.imp tables_of (And.imp accepts_of id))) (by decide +kernel)⟩⟩

theorem test_witness_SecurityCommandsAndTap_1 :
    (∃ (s : State), ∃ (h : CmdHdr), ∃ (target : Nat), ∃ (source : Nat), ∃ (len : Nat), s.canon ∧ s.tables ∧ s.accepts ((⟨h, 0x0C04, .s, argBytes [(6, 1, target), (8, 8, source), (16, 4, len)], false⟩ : Ebryn)) ∧ s.f Fld.PW_SHED_STATUS_LEVEL 0 = 0 ∧ s.shutdown = true) ∧
    (∃ (s : State), ∃ (h : CmdHdr), ∃ (target : Nat), ∃ (source : Nat), ∃ (len : Nat), s.canon ∧ s.tables ∧ s.accepts ((⟨h, 0x0C04, .s, argBytes [(6, 1, target), (8, 8, source), (16, 4, len)], false⟩ : Ebryn)) ∧ s.f Fld.PW_SHED_STATUS_LEVEL 0 = 0 ∧ s.shutdown = false ∧ s.sec.transition.isSome = true) ∧
    (∃ (s : State), ∃ (h : CmdHdr), ∃ (target : Nat), ∃ (source : Nat), ∃ (len : Nat), s.canon ∧ s.tables ∧ s.accepts ((⟨h, 0x0C04, .s, argBytes [(6, 1, target), (8, 8, source), (16, 4, len)], false⟩ : Ebryn)) ∧ s.f Fld.PW_SHED_STATUS_LEVEL 0 = 0 ∧ s.shutdown = false ∧ s.sec.transition = none ∧ (len < 240 ∨ 432 < len ∨ s.rangeOk source len = false)) ∧
    (∃ (s : State), ∃ (h : CmdHdr), ∃ (target : Nat), ∃ (source : Nat), ∃ (len : Nat), s.canon ∧ s.tables ∧ s.accepts ((⟨h, 0x0C04, .s, argBytes [(6, 1, target), (8, 8, source), (16, 4, len)], false⟩ : Ebryn)) ∧ s.f Fld.PW_SHED_STATUS_LEVEL 0 = 0 ∧ s.shutdown = false ∧ s.sec.transition = none ∧ 240 ≤ len ∧ len ≤ 432 ∧ s.rangeOk source len = true) ∧
    (∃ (s : State), ∃ (h : CmdHdr), ∃ (level : Nat), ∃ (source : Nat), ∃ (len : Nat), s.canon ∧ s.tables ∧ s.accepts ((⟨h, 0x0C05, .s, argBytes [(6, 1, level), (8, 8, source), (16, 4, len)], false⟩ : Ebryn)) ∧ 2 < level) ∧
    (∃ (s : State), ∃ (h : CmdHdr), ∃ (level : Nat), ∃ (source : Nat), ∃ (len : Nat), s.canon ∧ s.tables ∧ s.accepts ((⟨h, 0x0C05, .s, argBytes [(6, 1, level), (8, 8, source), (16, 4, len)], false⟩ : Ebryn)) ∧ level ≤ 2 ∧ s.boot.step < 9) ∧
    (∃ (s : State), ∃ (h : CmdHdr), ∃ (level : Nat), ∃ (source : Nat), ∃ (len : Nat), s.canon ∧ s.tables ∧ s.accepts ((⟨h, 0x0C05, .s, argBytes [(6, 1, level), (8, 8, source), (16, 4, len)], false⟩ : Ebryn)) ∧ 9 ≤ s.boot.step ∧ level = 0) ∧
    (∃ (s : State), ∃ (h : CmdHdr), ∃ (level : Nat), ∃ (source : Nat), ∃ (len : Nat), s.canon ∧ s.tables ∧ s.accepts ((⟨h, 0x0C05, .s, argBytes [(6, 1, level), (8, 8, source), (16, 4, len)], false⟩ : Ebryn)) ∧ 9 ≤ s.boot.step ∧ 1 ≤ level ∧ level ≤ 2 ∧ s.fuses.lc = 4) :=
    ⟨⟨WS2.pick 8, { port := 0, node := 0, ep := 546, tag := 7, len := 58 }, 0, 0, 0, (And.imp canon_of (And.imp tables_of (And.imp accepts_of id))) (by decide +kernel)⟩,
    ⟨WS2.pick 9, { port := 0, node := 0, ep := 546, tag := 7, len := 58 }, 0, 0, 0, (And.imp canon_of (And.imp tables_of (And.imp accepts_of id))) (by decide +kernel)⟩,
    ⟨WS2.pick 0, { port := 0, node := 0, ep := 546, tag := 7, len := 58 }, 0, 0, 0, (And.imp canon_of (And.imp tables_of (And.imp accepts_of id))) (by decide +kernel)⟩,
    ⟨WS2.pick 0, { port := 0, node := 0, ep := 546, tag := 7, len := 58 }, 0, 4832886784, 240, (And.imp canon_of (And.imp tables_of (And.imp accepts_of id))) (by decide +kernel)⟩,
    ⟨WS2.pick 0, { port := 0, node := 0, ep := 546, tag := 7, len := 58 }, 3, 0, 0, (And.imp canon_of (And.imp tables_of (And.imp accepts_of id))) (by decide +kernel)⟩,
    ⟨WS2.pick 10, { port := 0, node := 0, ep := 546, tag := 7, len := 58 }, 0, 0, 0, (And.imp canon_of (And.imp tables_of (And.imp accepts_of id))) (by decide +kernel)⟩,
    ⟨WS2.pick 0, { port := 0, node := 0, ep := 546, tag := 7, len := 58 }, 0, 0, 0, (And.imp canon_of (And.imp tables_of (And.imp accepts_of id))) (by decide +kernel)⟩,
    ⟨WS2.pick 6, { port := 0, node := 0, ep := 546, tag := 7, len := 58 }, 1, 0, 0, (And.imp canon_of (And.imp tables_of (And.imp accepts_of id))) (by decide +kernel)⟩⟩

theorem test_witness_SecurityCommandsAndTap_2 :
    (∃ (s : State), ∃ (h : CmdHdr), ∃ (level : Nat), ∃ (source : Nat), ∃ (len : Nat), s.canon ∧ s.tables ∧ s.accepts ((⟨h, 0x0C05, .s, argBytes [(6, 1, level), (8, 8, source), (16, 4, len)], false⟩ : Ebryn)) ∧ 9 ≤ s.boot.step ∧ 1 ≤ level ∧ level ≤ 2 ∧ s.fuses.lc = 0) ∧
    (∃ (s : State), ∃ (h : CmdHdr), ∃ (level : Nat), ∃ (source : Nat), ∃ (len : Nat), s.canon ∧ s.tables ∧ s.accepts ((⟨h, 0x0C05, .s, argBytes [(6, 1, level), (8, 8, source), (16, 4, len)], false⟩ : Ebryn)) ∧ 9 ≤ s.boot.step ∧ 1 ≤ level ∧ level ≤ 2 ∧ s.fuses.lc ≠ 0 ∧ s.fuses.lc ≠ 4 ∧ (len ≠ 240 ∨ s.rangeOk source len = false)) ∧
    (∃ (s : State), ∃ (h : CmdHdr), ∃ (level : Nat), ∃ (source : Nat), ∃ (len : Nat), s.canon ∧ s.tables ∧ s.accepts ((⟨h, 0x0C05, .s, argBytes [(6, 1, level), (8, 8, source), (16, 4, len)], false⟩ : Ebryn)) ∧ 9 ≤ s.boot.step ∧ 1 ≤ level ∧ level ≤ 2 ∧ s.fuses.lc ≠ 0 ∧ s.fuses.lc ≠ 4 ∧ len = 240 ∧ s.rangeOk source len = true) ∧
    (∃ (s : State), s.canon ∧ s.tables ∧ s.boot.por = true) ∧
    (∃ (s : State), ∃ (op : TapOp), s.canon ∧ s.tables ∧ s.boot.por = false ∧ s.f Fld.BT_STATUS_ST_RUNNING 0 = 1 ∧ op ≠ .reset) ∧
    (∃ (s : State), s.canon ∧ s.tables ∧ s.boot.por = false ∧ s.f Fld.BT_STATUS_ST_RUNNING 0 = 0 ∧ s.sec.tap.busy = false ∧ s.sec.tap.q = []) ∧
    (∃ (s : State), ∃ (code : Nat), s.canon ∧ s.tables ∧ s.boot.por = false ∧ s.f Fld.BT_STATUS_ST_RUNNING 0 = 0 ∧ s.sec.tap.busy = false ∧ s.sec.tap.q = [] ∧ code < 256) ∧
    (∃ (s : State), s.canon ∧ s.tables ∧ s.boot.por = false ∧ s.f Fld.BT_STATUS_ST_RUNNING 0 = 0 ∧ s.sec.tap.busy = false ∧ s.sec.tap.q = [] ∧ s.sec.tap.ir = 1) :=
    ⟨⟨WS2.pick 1, { port := 0, node := 0, ep := 546, tag := 7, len := 58 }, 1, 0, 0, (And.imp canon_of (And.imp tables_of (And.imp accepts_of id))) (by decide +kernel)⟩,
    ⟨WS2.pick 0, { port := 0, node := 0, ep := 546, tag := 7, len := 58 }, 1, 0, 0, (And.imp canon_of (And.imp tables_of (And.imp accepts_of id))) (by decide +kernel)⟩,
    ⟨WS2.pick 0, { port := 0, node := 0, ep := 546, tag := 7, len := 58 }, 1, 4832886784, 240, (And.imp canon_of (And.imp tables_of (And.imp accepts_of id))) (by decide +kernel)⟩,
    ⟨WS2.pick 14, (And.imp canon_of (And.imp tables_of id)) (by decide +kernel)⟩,
    ⟨WS2.pick 11, TapOp.shiftIr 3, (And.imp canon_of (And.imp tables_of id)) (by decide +kernel)⟩,
    ⟨WS2.pick 0, (And.imp canon_of (And.imp tables_of id)) (by decide +kernel)⟩,
    ⟨WS2.pick 0, 0, (And.imp canon_of (And.imp tables_of id)) (by decide +kernel)⟩,
    ⟨WS2.pick 0, (And.imp canon_of (And.imp tables_of id)) (by decide +kernel)⟩⟩

theorem test_witness_SecurityCommandsAndTap_3 :
    (∃ (s : State), ∃ (n : Nat), s.canon ∧ s.tables ∧ s.boot.por = false ∧ s.f Fld.BT_STATUS_ST_RUNNING 0 = 0 ∧ s.sec.tap.busy = false ∧ s.sec.tap.q = [] ∧ s.sec.tap.ir = 0xFF ∧ 1 ≤ n) ∧
    (∃ (s : State), s.canon ∧ s.tables ∧ s.boot.por = false ∧ s.f Fld.BT_STATUS_ST_RUNNING 0 = 0 ∧ s.sec.tap.busy = false ∧ s.sec.tap.q = [] ∧ (s.f Fld.LC_DEBUG_LEVEL 0) = 0) ∧
    (∃ (s : State), s.canon ∧ s.tables ∧ s.boot.por = false ∧ s.f Fld.BT_STATUS_ST_RUNNING 0 = 0 ∧ s.sec.tap.busy = false ∧ s.sec.tap.q = [] ∧ (s.f Fld.LC_DEBUG_LEVEL 0) ≠ 2) ∧
    (∃ (s : State), ∃ (a : Nat), s.canon ∧ s.tables ∧ s.boot.por = false ∧ s.f Fld.BT_STATUS_ST_RUNNING 0 = 0 ∧ s.sec.tap.busy = false ∧ s.sec.tap.q = [] ∧ (s.f Fld.LC_DEBUG_LEVEL 0) = 2 ∧ 0x120000000 ≤ a ∧ a + 4 ≤ 0x120200000 ∧ a % 4 = 0 ∧ s.recording = false ∧ s.replaying = false) ∧
    (∃ (s : State), ∃ (a : Nat), s.canon ∧ s.tables ∧ s.boot.por = false ∧ s.f Fld.BT_STATUS_ST_RUNNING 0 = 0 ∧ s.sec.tap.busy = false ∧ s.sec.tap.q = [] ∧ 1 ≤ (s.f Fld.LC_DEBUG_LEVEL 0) ∧ 0x120000000 ≤ a ∧ a + 4 ≤ 0x120200000 ∧ a % 4 = 0 ∧ s.recording = false ∧ s.replaying = false) :=
    ⟨⟨WS4.pick 12, 1, (And.imp canon_of (And.imp tables_of id)) (by decide +kernel)⟩,
    ⟨WS2.pick 0, (And.imp canon_of (And.imp tables_of id)) (by decide +kernel)⟩,
    ⟨WS2.pick 0, (And.imp canon_of (And.imp tables_of id)) (by decide +kernel)⟩,
    ⟨WS2.pick 4, 4832886784, (And.imp canon_of (And.imp tables_of id)) (by decide +kernel)⟩,
    ⟨WS2.pick 3, 4832886784, (And.imp canon_of (And.imp tables_of id)) (by decide +kernel)⟩⟩

theorem test_witness_RecordingsAndReplaysRun_0 :
    (∃ (s : State), ∃ (h : CmdHdr), ∃ (first : Nat), ∃ (banks : Nat), ∃ (links : Nat), ∃ (sources : Nat), s.canon ∧ s.tables ∧ s.accepts ((⟨h, 0x0D02, .r, argBytes [(6, 2, first), (8, 2, banks), (12, 4, links), (16, 1, sources)], false⟩ : Ebryn)) ∧ ((s.ringOk first banks = false ∨ 16 ≤ sources))) ∧
    (∃ (s : State), ∃ (h : CmdHdr), ∃ (first : Nat), ∃ (banks : Nat), ∃ (links : Nat), ∃ (sources : Nat), s.canon ∧ s.tables ∧ s.accepts ((⟨h, 0x0D02, .r, argBytes [(6, 2, first), (8, 2, banks), (12, 4, links), (16, 1, sources)], false⟩ : Ebryn)) ∧ (¬(s.ringOk first banks = false ∨ 16 ≤ sources)) ∧ (s.rpRuns = true ∨ s.commit.isSome = true)) ∧
    (∃ (s : State), ∃ (h : CmdHdr), ∃ (first : Nat), ∃ (banks : Nat), ∃ (links : Nat), ∃ (sources : Nat), s.canon ∧ s.tables ∧ s.accepts ((⟨h, 0x0D02, .r, argBytes [(6, 2, first), (8, 2, banks), (12, 4, links), (16, 1, sources)], false⟩ : Ebryn)) ∧ (¬(s.ringOk first banks = false ∨ 16 ≤ sources)) ∧ s.rpRuns = false ∧ s.commit = none ∧ s.gateShut 4 2 = true) ∧
    (∃ (s : State), ∃ (h : CmdHdr), ∃ (first : Nat), ∃ (banks : Nat), ∃ (links : Nat), ∃ (sources : Nat), s.canon ∧ s.tables ∧ s.accepts ((⟨h, 0x0D02, .r, argBytes [(6, 2, first), (8, 2, banks), (12, 4, links), (16, 1, sources)], false⟩ : Ebryn)) ∧ (¬(s.ringOk first banks = false ∨ 16 ≤ sources)) ∧ s.rpRuns = false ∧ s.commit = none ∧ s.gateShut 4 2 = false) :=
    ⟨⟨WP2.pick 0, { port := 0, node := 0, ep := 546, tag := 7, len := 58 }, 2, 2, 2, 2, (And.imp canon_of (And.imp tables_of (And.imp accepts_of id))) (by decide +kernel)⟩,
    ⟨WP2.pick 1, { port := 0, node := 0, ep := 546, tag := 7, len := 58 }, 8, 2, 2, 2, (And.imp canon_of (And.imp tables_of (And.imp accepts_of id))) (by decide +kernel)⟩,
    ⟨WP2.pick 0, { port := 0, node := 0, ep := 546, tag := 7, len := 58 }, 8, 2, 2, 2, (And.imp canon_of (And.imp tables_of (And.imp accepts_of id))) (by decide +kernel)⟩,
    ⟨WP2.pick 3, { port := 0, node := 0, ep := 546, tag := 7, len := 58 }, 8, 2, 2, 2, (And.imp canon_of (And.imp tables_of (And.imp accepts_of id))) (by decide +kernel)⟩⟩

theorem test_witness_RecordingsAndReplaysRun_1 :
    (∃ (s : State), ∃ (h : CmdHdr), ∃ (first : Nat), ∃ (banks : Nat), s.canon ∧ s.tables ∧ s.accepts ((⟨h, 0x0D04, .r, argBytes [(6, 2, first), (8, 2, banks)], false⟩ : Ebryn)) ∧ s.ringOk first banks = false) ∧
    (∃ (s : State), ∃ (h : CmdHdr), ∃ (first : Nat), ∃ (banks : Nat), s.canon ∧ s.tables ∧ s.accepts ((⟨h, 0x0D04, .r, argBytes [(6, 2, first), (8, 2, banks)], false⟩ : Ebryn)) ∧ s.ringOk first banks = true ∧ (s.rpRuns = true ∨ s.commit.isSome = true)) ∧
    (∃ (s : State), ∃ (h : CmdHdr), ∃ (first : Nat), ∃ (banks : Nat), s.canon ∧ s.tables ∧ s.accepts ((⟨h, 0x0D04, .r, argBytes [(6, 2, first), (8, 2, banks)], false⟩ : Ebryn)) ∧ s.ringOk first banks = true ∧ s.rpRuns = false ∧ s.commit = none ∧ s.gateShut 4 2 = true) ∧
    (∃ (s : State), ∃ (h : CmdHdr), ∃ (first : Nat), ∃ (banks : Nat), s.canon ∧ s.tables ∧ s.accepts ((⟨h, 0x0D04, .r, argBytes [(6, 2, first), (8, 2, banks)], false⟩ : Ebryn)) ∧ s.ringOk first banks = true ∧ s.rpRuns = false ∧ s.commit = none ∧ s.gateShut 4 2 = false) :=
    ⟨⟨WP2.pick 0, { port := 0, node := 0, ep := 546, tag := 7, len := 58 }, 2, 2, (And.imp canon_of (And.imp tables_of (And.imp accepts_of id))) (by decide +kernel)⟩,
    ⟨WP2.pick 1, { port := 0, node := 0, ep := 546, tag := 7, len := 58 }, 8, 2, (And.imp canon_of (And.imp tables_of (And.imp accepts_of id))) (by decide +kernel)⟩,
    ⟨WP2.pick 0, { port := 0, node := 0, ep := 546, tag := 7, len := 58 }, 8, 2, (And.imp canon_of (And.imp tables_of (And.imp accepts_of id))) (by decide +kernel)⟩,
    ⟨WP2.pick 3, { port := 0, node := 0, ep := 546, tag := 7, len := 58 }, 8, 2, (And.imp canon_of (And.imp tables_of (And.imp accepts_of id))) (by decide +kernel)⟩⟩

theorem test_witness_RecordingsAndReplaysRun_2 :
    (∃ (s : State), s.canon ∧ s.tables ∧ ∃ p, ∃ s', s.take 546 1 = some (p, s') ∧ ∃ q, s'.outReq (outKey 546 p.dstPlane p.tag) = some q ∧ (q.expired = false ∧ q.pkt.type = 0 ∧ q.pkt.srcPlane = 0) ∧ ∃ e, s.mpUser q.pkt.tag = some e ∧ ∃ (first : Nat), ∃ (banks : Nat), e.opcode = 0x0D04 ∧ e.args = MemOp.args { tag := q.pkt.tag, addr := 0x800000 * first + 2 ^ 48 * s.node, len := 256, info := banks, bytes := [] } ∧ (first < 512 ∧ p.status = 0 ∧ p.payload.length = 256 ∧ p.poison < 256) ∧ p.poison ≠ 0) ∧
    (∃ (s : State), s.canon ∧ s.tables ∧ ∃ p, ∃ s', s.take 546 1 = some (p, s') ∧ ∃ q, s'.outReq (outKey 546 p.dstPlane p.tag) = some q ∧ (q.expired = false ∧ q.pkt.type = 0 ∧ q.pkt.srcPlane = 0) ∧ ∃ e, s.mpUser q.pkt.tag = some e ∧ ∃ (first : Nat), ∃ (banks : Nat), e.opcode = 0x0D04 ∧ e.args = MemOp.args { tag := q.pkt.tag, addr := 0x800000 * first + 2 ^ 48 * s.node, len := 256, info := banks, bytes := [] } ∧ (first < 512 ∧ p.status = 0 ∧ p.payload.length = 256 ∧ p.poison < 256) ∧ (p.poison = 0 ∧ (s.ringOk first banks = false ∨ ringHeadOk (p.payload) banks = false))) ∧
    (∃ (s : State), s.canon ∧ s.tables ∧ ∃ p, ∃ s', s.take 546 1 = some (p, s') ∧ ∃ q, s'.outReq (outKey 546 p.dstPlane p.tag) = some q ∧ (q.expired = false ∧ q.pkt.type = 0 ∧ q.pkt.srcPlane = 0) ∧ ∃ e, s.mpUser q.pkt.tag = some e ∧ ∃ (first : Nat), ∃ (banks : Nat), e.opcode = 0x0D04 ∧ e.args = MemOp.args { tag := q.pkt.tag, addr := 0x800000 * first + 2 ^ 48 * s.node, len := 256, info := banks, bytes := [] } ∧ (first < 512 ∧ p.status = 0 ∧ p.payload.length = 256 ∧ p.poison < 256) ∧ (p.poison = 0 ∧ ¬(s.ringOk first banks = false ∨ ringHeadOk (p.payload) banks = false) ∧ ¬(slice (p.payload) 32 48 = fit 0 48 s.boot.profHash ∧ slice (p.payload) 80 48 = fit 0 48 s.sec.measurement))) ∧
    (∃ (s : State), s.canon ∧ s.tables ∧ ∃ p, ∃ s', s.take 546 1 = some (p, s') ∧ ∃ q, s'.outReq (outKey 546 p.dstPlane p.tag) = some q ∧ (q.expired = false ∧ q.pkt.type = 0 ∧ q.pkt.srcPlane = 0) ∧ ∃ e, s.mpUser q.pkt.tag = some e ∧ ∃ (first : Nat), ∃ (banks : Nat), e.opcode = 0x0D04 ∧ e.args = MemOp.args { tag := q.pkt.tag, addr := 0x800000 * first + 2 ^ 48 * s.node, len := 256, info := banks, bytes := [] } ∧ (first < 512 ∧ p.status = 0 ∧ p.payload.length = 256 ∧ p.poison < 256) ∧ (p.poison = 0 ∧ ¬(s.ringOk first banks = false ∨ ringHeadOk (p.payload) banks = false) ∧ (slice (p.payload) 32 48 = fit 0 48 s.boot.profHash ∧ slice (p.payload) 80 48 = fit 0 48 s.sec.measurement) ∧ (s.rpRuns = true ∨ s.commit.isSome = true))) :=
    ⟨⟨WP3.pick 1, And.imp canon_of (fun x => ⟨tables_of x, exPair (by decide +kernel) (exSome (by decide +kernel) ((⟨·, exSome (by decide +kernel) (⟨8, 2, (by decide +kernel)⟩)⟩) (by decide +kernel)))⟩) (by decide +kernel)⟩,
    ⟨WP3.pick 2, And.imp canon_of (fun x => ⟨tables_of x, exPair (by decide +kernel) (exSome (by decide +kernel) ((⟨·, exSome (by decide +kernel) (⟨8, 2, (by decide +kernel)⟩)⟩) (by decide +kernel)))⟩) (by decide +kernel)⟩,
    ⟨WP3.pick 3, And.imp canon_of (fun x => ⟨tables_of x, exPair (by decide +kernel) (exSome (by decide +kernel) ((⟨·, exSome (by decide +kernel) (⟨8, 2, (by decide +kernel)⟩)⟩) (by decide +kernel)))⟩) (by decide +kernel)⟩,
    ⟨WP3.pick 4, And.imp canon_of (fun x => ⟨tables_of x, exPair (by decide +kernel) (exSome (by decide +kernel) ((⟨·, exSome (by decide +kernel) (⟨8, 2, (by decide +kernel)⟩)⟩) (by decide +kernel)))⟩) (by decide +kernel)⟩⟩

theorem test_witness_RecordingsAndReplaysRun_3 :
    (∃ (s : State), s.canon ∧ s.tables ∧ ∃ p, ∃ s', s.take 546 1 = some (p, s') ∧ ∃ q, s'.outReq (outKey 546 p.dstPlane p.tag) = some q ∧ (q.expired = false ∧ q.pkt.type = 0 ∧ q.pkt.srcPlane = 0) ∧ ∃ e, s.mpUser q.pkt.tag = some e ∧ ∃ (first : Nat), ∃ (banks : Nat), e.opcode = 0x0D04 ∧ e.args = MemOp.args { tag := q.pkt.tag, addr := 0x800000 * first + 2 ^ 48 * s.node, len := 256, info := banks, bytes := [] } ∧ (first < 512 ∧ p.status = 0 ∧ p.payload.length = 256 ∧ p.poison < 256) ∧ (p.poison = 0 ∧ ¬(s.ringOk first banks = false ∨ ringHeadOk (p.payload) banks = false) ∧ (slice (p.payload) 32 48 = fit 0 48 s.boot.profHash ∧ slice (p.payload) 80 48 = fit 0 48 s.sec.measurement) ∧ s.rpRuns = false ∧ s.commit = none ∧ s.gateShut 4 2 = true)) ∧
    (∃ (s : State), s.canon ∧ s.tables ∧ ∃ p, ∃ s', s.take 546 1 = some (p, s') ∧ ∃ q, s'.outReq (outKey 546 p.dstPlane p.tag) = some q ∧ (q.expired = false ∧ q.pkt.type = 0 ∧ q.pkt.srcPlane = 0) ∧ ∃ e, s.mpUser q.pkt.tag = some e ∧ ∃ (first : Nat), ∃ (banks : Nat), e.opcode = 0x0D04 ∧ e.args = MemOp.args { tag := q.pkt.tag, addr := 0x800000 * first + 2 ^ 48 * s.node, len := 256, info := banks, bytes := [] } ∧ (first < 512 ∧ p.status = 0 ∧ p.payload.length = 256 ∧ p.poison < 256) ∧ (p.poison = 0 ∧ ¬(s.ringOk first banks = false ∨ ringHeadOk (p.payload) banks = false) ∧ (slice (p.payload) 32 48 = fit 0 48 s.boot.profHash ∧ slice (p.payload) 80 48 = fit 0 48 s.sec.measurement) ∧ s.rpRuns = false ∧ s.commit = none ∧ s.gateShut 4 2 = false)) ∧
    (∃ (s : State), ∃ (h : CmdHdr), s.canon ∧ s.tables ∧ s.accepts ((⟨h, 0x0D03, .r, [], false⟩ : Ebryn)) ∧ s.recording = false) ∧
    (∃ (s : State), ∃ (h : CmdHdr), s.canon ∧ s.tables ∧ s.accepts ((⟨h, 0x0D03, .r, [], false⟩ : Ebryn)) ∧ s.recording = true ∧ (s.entered ((⟨h, 0x0D03, .r, [], false⟩ : Ebryn))).recording = true) :=
    ⟨⟨WP3.pick 6, And.imp canon_of (fun x => ⟨tables_of x, exPair (by decide +kernel) (exSome (by decide +kernel) ((⟨·, exSome (by decide +kernel) (⟨8, 2, (by decide +kernel)⟩)⟩) (by decide +kernel)))⟩) (by decide +kernel)⟩,
    ⟨WP3.pick 0, And.imp canon_of (fun x => ⟨tables_of x, exPair (by decide +kernel) (exSome (by decide +kernel) ((⟨·, exSome (by decide +kernel) (⟨8, 2, (by decide +kernel)⟩)⟩) (by decide +kernel)))⟩) (by decide +kernel)⟩,
    ⟨WP2.pick 0, { port := 0, node := 0, ep := 546, tag := 7, len := 58 }, (And.imp canon_of (And.imp tables_of (And.imp accepts_of id))) (by decide +kernel)⟩,
    ⟨WP2.pick 6, { port := 0, node := 0, ep := 546, tag := 7, len := 58 }, (And.imp canon_of (And.imp tables_of (And.imp accepts_of id))) (by decide +kernel)⟩⟩

theorem test_witness_RecordingsAndReplaysRun_4 :
    (∃ (s : State), ∃ (h : CmdHdr), s.canon ∧ s.tables ∧ s.accepts ((⟨h, 0x0D05, .r, [], false⟩ : Ebryn)) ∧ s.rpState ≠ 3 ∧ s.rpState ≠ 4) ∧
    (∃ (s : State), ∃ (h : CmdHdr), s.canon ∧ s.tables ∧ s.accepts ((⟨h, 0x0D05, .r, [], false⟩ : Ebryn)) ∧ (s.rpState = 3 ∨ s.rpState = 4)) ∧
    (∃ (s : State), s.canon ∧ s.tables ∧ (s.recording = false ∨ s.replay.shedGap = true)) ∧
    (∃ (s : State), s.canon ∧ s.tables ∧ s.recording = true ∧ s.replay.shedGap = false ∧ ((List.range (s.f Fld.RP_RING_BANKS 0)).any fun j => s.retained (s.f Fld.RP_RING_FIRST 0 + j)) = false ∧ s.replay.gapOwed = false) :=
    ⟨⟨WP2.pick 0, { port := 0, node := 0, ep := 546, tag := 7, len := 58 }, (And.imp canon_of (And.imp tables_of (And.imp accepts_of id))) (by decide +kernel)⟩,
    ⟨WP2.pick 4, { port := 0, node := 0, ep := 546, tag := 7, len := 58 }, (And.imp canon_of (And.imp tables_of (And.imp accepts_of id))) (by decide +kernel)⟩,
    ⟨WP1.pick 0, (And.imp canon_of (And.imp tables_of id)) (by decide +kernel)⟩,
    ⟨WP1.pick 6, (And.imp canon_of (And.imp tables_of id)) (by decide +kernel)⟩⟩

theorem test_witness_RecordingsAndReplaysRun_5 :
    (∃ (s : State), s.canon ∧ s.tables ∧ s.recording = false ∧ s.replaying = false) ∧
    (∃ (s : State), s.canon ∧ s.tables ∧ s.recording = true ∧ s.nextCheck ≤ 2 ^ 48 - 1 ∧ s.replay.shedGap = false ∧ s.replay.gapOwed = false ∧ s.replay.bufBytes + 32 ≤ 2 ^ 20 ∧ s.replay.last ≤ recPlace s.nextCheck 0 8 0) ∧
    (∃ (s : State), s.canon ∧ s.tables ∧ s.replaying = true ∧ s.breakAhead = none ∧ s.nextCheck ≤ 2 ^ 48 - 1 ∧ ∃ r, s.ringRec s.replay.readOff = some r ∧ (r.kind = 8 ∧ r.stamp = s.nextCheck)) ∧
    (∃ (s : State), s.canon ∧ s.tables ∧ s.recording = true ∧ s.replay.stamp / 65536 = (2 ^ 48 - 1) / 65536) :=
    ⟨⟨WP1.pick 0, (And.imp canon_of (And.imp tables_of id)) (by decide +kernel)⟩,
    ⟨WP1.pick 6, (And.imp canon_of (And.imp tables_of id)) (by decide +kernel)⟩,
    ⟨WP1.pick 20, And.imp canon_of (And.imp tables_of (keep (keep (⟨·, exSome (by decide +kernel) ((by decide +kernel))⟩)))) (by decide +kernel)⟩,
    ⟨WP1.pick 13, (And.imp canon_of (And.imp tables_of id)) (by decide +kernel)⟩⟩

theorem test_witness_RecordingsAndReplaysRun_6 :
    (∃ (s : State), s.canon ∧ s.tables ∧ (s.recording = false ∨ s.replay.stamp / 65536 ≠ (2 ^ 48 - 1) / 65536)) ∧
    (∃ (s : State), s.canon ∧ s.tables ∧ s.dueRec = none) ∧
    (∃ (s : State), s.canon ∧ s.tables ∧ ∃ r, s.dueRec = some r ∧ 9 ≤ r.kind) ∧
    (∃ (s : State), s.canon ∧ s.tables ∧ ∃ r, s.dueRec = some r ∧ r.kind = 6) :=
    ⟨⟨WP1.pick 0, (And.imp canon_of (And.imp tables_of id)) (by decide +kernel)⟩,
    ⟨WP1.pick 0, (And.imp canon_of (And.imp tables_of id)) (by decide +kernel)⟩,
    ⟨WP1.pick 23, And.imp canon_of (fun x => ⟨tables_of x, exSome (by decide +kernel) ((by decide +kernel))⟩) (by decide +kernel)⟩,
    ⟨WP1.pick 5, And.imp canon_of (fun x => ⟨tables_of x, exSome (by decide +kernel) ((by decide +kernel))⟩) (by decide +kernel)⟩⟩

theorem test_witness_RecordingsAndReplaysRun_7 :
    (∃ (s : State), s.canon ∧ s.tables ∧ ∃ r, s.dueRec = some r ∧ r.kind = 7) ∧
    (∃ (s : State), s.canon ∧ s.tables ∧ ∃ r, s.dueRec = some r ∧ r.kind = 2 ∧ r.source < 16) ∧
    (∃ (s : State), s.canon ∧ s.tables ∧ ∃ r, s.dueRec = some r ∧ r.kind = 2 ∧ 16 ≤ r.source ∧ r.source < 32) ∧
    (∃ (s : State), ∃ (cause : Nat), s.canon ∧ s.tables ∧ (s.replaying = false ∨ 3 ≤ cause)) :=
    ⟨⟨WP1.pick 17, And.imp canon_of (fun x => ⟨tables_of x, exSome (by decide +kernel) ((by decide +kernel))⟩) (by decide +kernel)⟩,
    ⟨WP1.pick 18, And.imp canon_of (fun x => ⟨tables_of x, exSome (by decide +kernel) ((by decide +kernel))⟩) (by decide +kernel)⟩,
    ⟨WP1.pick 19, And.imp canon_of (fun x => ⟨tables_of x, exSome (by decide +kernel) ((by decide +kernel))⟩) (by decide +kernel)⟩,
    ⟨WP1.pick 0, 0, (And.imp canon_of (And.imp tables_of id)) (by decide +kernel)⟩⟩

theorem test_witness_RecordingsAndReplaysRun_8 :
    (∃ (s : State), s.canon ∧ s.tables ∧ s.replaying = true ∧ s.ringRec s.replay.readOff = none) ∧
    (∃ (s : State), s.canon ∧ s.tables ∧ s.replaying = true ∧ ∃ r, s.dueRec = some r ∧ r.kind = 9) ∧
    (∃ (s : State), s.canon ∧ s.tables ∧ s.replaying = true ∧ ∃ r, s.dueRec = some r ∧ (r.kind = 10 ∨ r.kind = 11)) ∧
    (∃ (s : State), s.canon ∧ s.tables ∧ s.replaying = true ∧ ∃ b, s.breakAhead = some b ∧ ∃ r, s.ringRec s.replay.readOff = some r ∧ (b ≤ r.stamp ∧ b ≤ s.nextCheck)) :=
    ⟨⟨WP1.pick 22, (And.imp canon_of (And.imp tables_of id)) (by decide +kernel)⟩,
    ⟨WP1.pick 23, And.imp canon_of (And.imp tables_of (⟨·, exSome (by decide +kernel) ((by decide +kernel))⟩)) (by decide +kernel)⟩,
    ⟨WP1.pick 24, And.imp canon_of (And.imp tables_of (⟨·, exSome (by decide +kernel) ((by decide +kernel))⟩)) (by decide +kernel)⟩,
    ⟨WP1.pick 26, And.imp canon_of (And.imp tables_of (⟨·, exSome (by decide +kernel) (exSome (by decide +kernel) ((by decide +kernel)))⟩)) (by decide +kernel)⟩⟩

end Witnesses
end

/-!
SUPPORT. What a command may change, for every command at once, and the invariant of the canonical form that follows.
-/
namespace Sys2Proof.Machine
/-- The kinds of state, numbered as the bits of `Clo`, that a command may change: those of its meaning's `_inv` lemma. -/
def kinds : Instr → Nat
  | .deviceInfo .. | .eventRead .. | .nop .. | .clockStatus .. | .bankStatus .. | .roomStatus ..
  | .schedStatus .. | .taskPost .. | .dpStatus .. | .slStatus .. | .crStatus .. | .powerStatus ..
  | .thermalStatus .. | .ageReport .. | .lcStatus .. | .rpStatus .. | .storeStatus .. | .profileList ..
    => 0x1e0200000000000000000000000000000000000000000000000820000000000203a
  | .abort .. => 0x1e02000000028cf000000000000300000000000000000221008c20000000045f97f
  | .csrRead .. => 0x788001e0200000000000000000000c00000000000000000000000000820000000020203b
  | .csrWrite .. => 0x3c78d039f03f441071600004804c40c041300002000021cd4021371c08c20043c04000bfff
  | .memRead .. | .memWrite .. | .booksRead .. | .certRead .. | .attest .. | .journalRead ..
    => 0x3c78d039f03f445071600004804c40cc41300002000021cd4021371c08c20043c04020bfff
  | .eventCfg .. => 0x1e0200000000000000000000000000000000000000000000000920000000000203a
  | .unitGate .. => 0x1e0200000000000000000000000000000000001c94000000000820043c00000ac7a
  | .epochCommit .. => 0x1e0200000000000000000000000000000000000000000000008820000000000203e
  | .epochDiscard .. | .templateSet .. | .imageSet ..
    => 0x1e0200000000000000000000000000000000000000000000000820000000000203e
  | .booksAudit .. => 0x39f0304400710000040004004041300000000021c94020101f08c20000004000bffe
  | .bankOwner .. => 0x1e0200000000000000000000000000000000000000000230000820000000000217a
  | .bankGuest .. => 0x1e0200000000000000000000000000000000000000000240000820000000000203a
  | .bankRetain .. => 0x788039f0304410710000040004004041300000000021c94021321008c20000004000bffe
  | .bankWake .. => 0x1e0200000000000000000000000000000000000000000100000820000000000213a
  | .bankWipe .. => 0x1e0200000000000000000000000000000000000000000220000820000000000217a
  | .planeLoad .. => 0x39f0304400710000040004004041300002000021cd4020101c08c20000004000bffe
  | .planeSave .. => 0x1e02000000000000000000000000000000000000c4000000000820000000000207a
  | .planeSwitch .. => 0x1e0200000000000000000000000000000000001c14000000000820000000000207a
  | .roomPark .. | .roomUnpark .. => 0x1e0200000000000000000000000000000000000000000000000820000000000207a
  | .flowSet .. | .taskCancel .. => 0x39f0304400710000040004004041300000000021c94020101c08c20000004000bffe
  | .groupSet .. => 0x1e0200000000000000000000000000000000000000000000000820000000000283a
  | .schedDrain .. => 0x1e0200000000000000000000000000000000020000000000000820000000000283a
  | .dspStatus .. => 0x1e0200000000000000000000c00000000000000000000000000820000000020203a
  | .dspHalt .. | .dspStep .. => 0x1e0200000000000000000000000200000000000000000000000820000000000303a
  | .dspResume .. => 0x1e0200000000000000000000000300000000000000000000000820000000000203a
  | .dspReset .. => 0x39f0304400710000040004004047300000000021c94020101c08c20000004000bffe
  | .dspStart .. => 0x1e0200000000000000000000005d00000000000000000000000820000000000303a
  | .dpRetrain .. | .slRetrain .. => 0x1e020000000000004800c40c000000000000000000000000000820000000000203a
  | .dpDown .. | .dpUp .. | .slDown .. | .slUp ..
    => 0x1e020000000000004000c00c000000000000000000000000000820000000000203a
  | .slSlip .. => 0x1e0200000000000040000000000000000000000000000000000820000000000203a
  | .slPower .. => 0x1e020000000600004804c40c000000000000000000000000000820000000000203a
  | .enumerate .. | .enumAssign .. => 0x20001e0200000006000000000000000000000000000000000000008820000000000203e
  | .crRangeRekey .. | .crRangeReset .. => 0x1e02000000008cf000000000000000000000000000000000000c20000000040603a
  | .linkKex .. => 0x1e0200000002000000000000000000000000000000000000000820000000000203a
  | .kexMsg .. => 0x1e0200000006000000004004000000000000000000000000000820000000000203a
  | .thermTest .. | .stackReset .. | .replayStop .. | .profileSelect ..
    => 0x1e0200000000000000000000000000000000000000000000000820000000000a03a
  | .foundationReset .. => 0x39f030c410710000040004004041300001000021c94020321c08c20000004010bffe
  | .resume .. => 0x788039f03044107108cf04800c40c041300000401121cb4023377f08c20000004040ffff
  | .recover .. => 0x20039f03fcc107168cf04000c00c043300001001021cf6060337c08c3047fc04077ffff
  | .selftestRun .. => 0x39f03f4400710000040004004041300000000021cb6060311008c20000004005bffe
  | .selftestResult .. => 0x1e02f0000000000000000000000000000000000000000000000820000000000a03a
  | .checkerMode .. => 0x1e0200010010000000000000000000000000000000000200008820000000000213a
  | .ecLogRead .. => 0x1e0200000000000000000000000000000000000000000000000820000000000223a
  | .lcTransition .. => 0x3c78f039f03f445071690104804c40cc41300002000021cd4021371c08c20043c04022ffff
  | .debugAccess .. => 0x3c78f0b9f03f445071690104804c40cc41300002000021cd4021371c08c20043c04020ffff
  | .recordStart .. => 0x7a8039f030cc107168cf04000c00c043300001000021cf4022377c08c2007fc04070ffff
  | .recordStop .. => 0x1f020000071000000000000000000000000000000000000000082000000000027ba
  | .replayStart .. => 0x3c7ad039f03fcc507168cf04804c40cc43300003000021cf4023377c08c2007fc04070ffff
  | .profileWrite .. | .profilePush .. | .fwWrite ..
    => 0x3c78d039f03f445071600004804c40cc41300002000021cd4021371c08c20043c04025bfff
  | .profileErase .. | .journalSet .. | .journalClear ..
    => 0x1e0200000000000000000000000000000000000000000000000820000000005203a
  | .journalCompact .. => 0x1e0200000000000000000000000000000000000000000000000820000000001203a
  | .entdaa .. => 0x200000000000008
  | .rstdaa => 0x200000000000000
  | .enec .. | .disec .. | .getpid | .getbcr | .getdcr | .getmwl | .getmrl | .i3cPrivateRead ..
  | .sidebandBlockTimeout .. => 0x8
  | .getstatus => 0xa
  | .i3cPrivateWrite .. | .mbCmd .. | .sidebandMessage ..
    => 0x3c7af0b9f03fcc507169cf04804c40cc47f00003401121cf6063377f08d3047fc04077ffff
  | .mbEngBell .. | .csrAccess .. => 0x3c78d039f03f445071600004804c40cc41300002000021cd4021371c08420043c04020bfff
  | .eventBlockSend => 0x18
  | .commandTimeLimit .. => 0x6000000000000000000000000020000000000008000000000000281c
  | .delayedStackReset | .resetN | .lockstepMismatch
    => 0x341f020080071000000000000000000000000000000000000000000000000700887b2
  | .load .. | .stateReload .. => 0x39f0304400710000040004004041300002000021cd4020101c08400000004000bffe
  | .save .. => 0xc40000000000000000000000040
  | .drainComplete .. | .drainLimit .. => 0x4c4000000000000000000000a858
  | .loadRow .. => 0x39f0304400710000040004004041300001000021cd4121101c08400000004010bffe
  | .loadFinish .. => 0x39f0304400710000040004004041300001000025cd4020101c08400000004010bffe
  | .planectlSwitchRequest .. => 0x1c140000000000000000000002058
  | .planectlDone .. | .creditReturn .. | .expiredTagRelease .. => 0x10
  | .heldSwitch .. | .ckRoomEdge .. => 0x1e0200000710000000000000000000000000013c340200000000000000000002efa
  | .rowRequest .. => 0x40
  | .rowMove .. => 0x1e020000071000000000000000000000000000000012132000000000000000007e2
  | .roomEndpointRequest .. => 0x2788000000000000000000000000000000000000000080000000000000000000000000058
  | .roomRamAccess .. => 0x788001e020004071000000000000000000000000000000000000000000000000000006fa
  | .serviceLaneRequest .. => 0x788039f0304400710000040004004041300000000021c94021101c08400000004000bffe
  | .serviceAccess .. => 0x39f0304440710000040004004041300000000021c94120b21c08400000004000bffe
  | .handover .. => 0x2300000000000000000140
  | .handoverComplete .. => 0x20700000000000000402118
  | .guestGrant .. => 0x2400000000000000000000
  | .retentionRequest .. => 0x788039f0304410710000040004004041300000000021c94021321008400000004000bffe
  | .wakeRequest .. | .wakeStart .. => 0x1000000000000000000100
  | .retentionEntryComplete .. => 0x1000000000000000002118
  | .wakeComplete .. => 0x7a8039f03f4c107108cf04800c40c043300000401121cf6063377f0841047fc04047ffff
  | .wipeRequest .. => 0x2200000000000000000140
  | .wipeComplete .. => 0x100000000000000000000000000000000002200080000000000002598
  | .startUpWipe .. => 0x80000000000000000000000000000000000000000000000000000000000040008400
  | .checkerTestModeEntry .. | .checkerTestModeExit .. => 0x100100000000000000000000000000000000002000080000000000000100
  | .ecLogPop => 0x200
  | .mowingRowVisit .. => 0x400000000000000000000000000000000000000000000000000000180
  | .scrubAccess .. => 0x39f0304400710000040004004041300000000021c94120901c08400000004000bffe
  | .mowingWindow => 0xd00000000000000000000000000000000000000000000000000000080
  | .copyPassRow .. | .delayExpiry .. | .delayListWalk ..
    => 0x39f0304400710000040004004041300000000021c94020101c08400000004000bffe
  | .vtParityMismatch .. => 0x1e020000000000000000000000000000000000000002000000000000000000000e2
  | .walkingPatternTest .. => 0x80
  | .repairOutcome .. => 0x39f0304440710000040004004041300000000021c962e0901008400000004005bffe
  | .repairSamplingResume .. => 0x1e020000000000000000000000000000000000000002000000000000000000000a2
  | .packetForward .. => 0x1f88039f0304400710000040004004041300000000021c94020101008400000004000bffe
  | .responseArrival .. => 0x3e7af0b9f03fcc507169cf24804c40cc47f00003401129cf6063377f08d3047fc04077ffff
  | .responseTimeLimit .. => 0x2000039f03044007108cf040004004041300000000021c94020101c08400000004040fffe
  | .berrArm => 0x8000000000000000000000000000000000000000000000000000000000000000000000
  | .coBookSnapshot .. => 0x3c000000000000000000000000000000000000000000000000000000000000000000000000
  | .epPeek .. => 0x200000000000000000
  | .token .. => 0x788000000000000000000000000000000000000000000000000000000000000000000818
  | .tokenRecord .. | .resultRecordPost => 0x39f0304400710000040004004041300000400021c94020101c08400000004000bffe
  | .dispatchPipe .. => 0x39f0304400710000040004004041300001200021cd4020101c08400000004010bffe
  | .dispatch .. => 0x788001e0200000710000000000000007d0000000000000000000000000000000000016ba
  | .dispatchResponse => 0x2000039f0304400710000040004004041300000000021c94020101c08400000004040bffe
  | .switchRepeat .. => 0x1c140000000000000000000002858
  | .done => 0x39f0304400710000040004004041300000800021c94020101c08400000004000bffe
  | .tick | .useCountDecay => 0x800
  | .haltRequest .. => 0x2000000000000000000000000000000000000000
  | .engineHalt .. => 0x1000000000000000000000000000000000003018
  | .step .. => 0x2000000000000000000000000000000000001000
  | .deRfDataWrite .. => 0x1000
  | .engineMemoryAccess .. => 0x788001e020004071000000000000040000000000000000000000000000000000000016ba
  | .engineResponse .. => 0x2000001e020000071000000000000040000000000000000000000000000000000000016b2
  | .nopInstruction .. | .ld .. | .movr .. | .ldi .. | .setp .. | .movp .. | .acc .. | .rep .. | .br ..
  | .dbnz .. | .call .. | .ret .. | .get .. | .put .. | .sendtok .. | .sendmsg .. | .wait ..
  | .doneInstruction .. | .bkpt .. => 0x1e020000031000000000000084f30000000000000000000000040000000000032ba
  | .st .. | .mov .. => 0x1e020000071000000000000084f30000000000000000000000040000000000036ba
  | .rdr .. => 0x1e0200000310000000000000c4f30000000000000000000000040000000002032ba
  | .wrr .. => 0x1e020000031000000000000084ff0000000000000000000000040000000000032ba
  | .alu .. | .alui .. | .cmac .. | .dmac .. => 0x1e020000031000000000000084fb0000000000000000000000040000000000032ba
  | .tapm .. | .bfly .. | .sta .. => 0x1e020000071000000000000084fb0000000000000000000000040000000000036ba
  | .dataFlit .. => 0x1f88039f030440071800104c00cc0c041300000000021c94020101c08400000004000bffe
  | .nullFlit .. | .resyncFlit .. | .pm .. => 0x39f030440071600004800c40c041300000000021c94020101c08400000004000bffe
  | .initFlit .. => 0x39f030440071600004838c5cc041300000000021c94020101c08400000004000bffe
  | .nak .. => 0x39f030440071000004c00c40c041300000000021c94020101c08400000004000bffe
  | .lmb .. => 0x20039f030440071e00104c00cc0c041300000000021c94020101c08c20000004000bffe
  | .teq .. | .ffeTuningRound .. => 0x2000
  | .frame .. => 0x1fa8039f030440071e00104f38cdcc041300000000021c94020101c08c20000004000bffe
  | .flitSend .. => 0x788000000000000060000000000000000000000000000000000000000000000000002038
  | .ackTimer .. | .txExit .. => 0x1e020000000600004800c40c000000000000000000000000000000000000000203a
  | .replayTimer .. => 0x1e020000000000004c00c40c0000000000000000000000000000000000000002022
  | .dpCtrlRetrain .. | .slCtrlRetrain .. | .portMainbandStop .. | .forwardedClockStop ..
    => 0x1e020000000000004800c40c0000000000000000000000000000000000000002022
  | .dpCtrlHoldDown .. | .slCtrlHoldDown .. => 0x1e020000000000004000c00c000000000000000000000000000000000000000203a
  | .slCtrlSlip .. => 0x400080000000000000000000000000000000000000000000000
  | .txHold .. => 0x1e020000000600004804c40c000000000000000000000000000000000000000203a
  | .rxHold .. => 0x400000000000000000000000000000000000000000000000
  | .replayBufferDrainLimit .. => 0x1e020000000000004800c40c000000000000000000000000000000000000000203a
  | .trainingAttempt .. | .failedRetry .. => 0x400040000000000000000000000000000000000000000002000
  | .alignmentCheck .. | .trainingFailure .. => 0x1e020000000000004800c40c000000000000000000000000000400000000000203a
  | .frameLock .. => 0x1e02000000000000408040040000000000000000000000000000000000000002022
  | .adapterActive .. => 0x39f030440071600004808c44c041300000000021c94020101c08400000004000bffe
  | .l1Entry .. => 0x1e02000000000000000040040000000000000000000000000000000000000000032
  | .l1Exit .. => 0x1e0200000000000000004004000000000000000000000000000000000000000203a
  | .txiEntry .. | .txsEntry .. => 0x40000000000000000000000000000000000000000002018
  | .rawTransmit .. | .rawReceive .. | .rawControlPoll .. | .rawRingRetry .. => 0x2010
  | .enumAssignResponse .. => 0x6000000000000000000000000000000000000008000000000000201c
  | .protectedRead | .fullLineWrite | .partialWrite
    => 0x788001e02000000008df000000000000000000000000000000000000400000000040603a
  | .homeResponse => 0x2000001e02000000008cf000000000000000000000000000000000000400000000040603a
  | .nodeVerification .. | .rekeyPage .. => 0x1e02000000008cf000000000000000000000000000000000000400000000040603a
  | .writeBack .. | .rangeDisable .. => 0x8c1000000000000000000000000000000000000400000000040601a
  | .pageReEncryption .. => 0x1e02000000008ef000000000000000000000000000000000000400000000040603a
  | .rangeInitialisation .. => 0x8010000000000000000000000000000000000000000000000006018
  | .autoKex .. => 0x1e02000000020000000000000000000000000000000000000000000000000002032
  | .kexTimeout .. | .kexFragmentGap .. => 0x20000000000000000000000000000000000000000000000000002018
  | .gateOpen .. | .gateClose .. => 0x1c94000000000000043c00000ac5a
  | .gateOpenComplete .. => 0x1e020000000000004000c00c002100000000001cb400000000000003c000000bc7a
  | .gateDrainEnd .. => 0x788039f0304400710000040004004043300000000021cb4020101c0840007c004000bffe
  | .clockSwitch .. => 0x4000000000000000000000000000000000120600000000100000a40058180
  | .powerOnReset => 0x80000
  | .powerOnResetRelease .. => 0x340000008000000000000000000000000000000000000000000000000802070008100
  | .railsPowerGood => 0x4000000000000000000000000000000000120600000000100800240058180
  | .bootVerification => 0xc00000004000000000000000000000000000000000120600000000300000240058580
  | .judgementWindow .. => 0x39f030440071000004800c40c041300000000021c96060101008410000164005bffe
  | .hearthLoopLock | .relockAttempt .. => 0x1e020040000600004800c40c000000000000000012060000000010000064005a1ba
  | .refclkLost => 0x39f030440071000004800c40c041300000000021c94020101008400000164000bffe
  | .hearthLoopStop => 0x39f0304400710000040004004041300000000021c94020101008400000064000bffe
  | .rcFail => 0x200000000
  | .startUpSelfTest .. => 0x3c78d039f03f445071600004804c40cc41300002000021cf6061371c08400043c04025bfff
  | .profile .. => 0x20001e0200c0000000004000c00c002100000000001cf400001000840007fc00000bc7f
  | .commitFreeze => 0x39f0304400710000040004004041300001200021cd4020101c08400000004010bfff
  | .commitApply | .audit => 0x39f0304400710000040004004041300000000021c94020101f08400000004000bffe
  | .commitPoint => 0x1f02000007908cf04800c40c00000000000012000000000100a400000000040efbf
  | .commitResponse => 0x788a39f03054107168cf04800c40c041300000401121cd4023377c08400480004042fffe
  | .foundationResetPendingEnd => 0x8000000000000000000000000000000000000000006000000000000000cd52
  | .foundationResetFreeze => 0x100000000000000000a158
  | .foundationResetHold => 0x39f0304400716000040004004041300001000021c94020101c08400000004030bfff
  | .foundationResetRelease => 0xa018
  | .backgroundSlice .. => 0x1004000000000000000000000000000000000000000000000000000000000080
  | .sliceSaveDone .. => 0x1e020000031000000000000000000000000000000012000000000000000000006a2
  | .sliceMarchDone .. => 0xf04000000000000000000000000000000000000000000000000000000058180
  | .sliceRestoreDone .. => 0x39f0304410710000040004004041300000000021c94120321008400000004000bffe
  | .sliceBudgetExpiry .. => 0x40000000000000000000000000000000000000000000000000000000000080
  | .sheddingStepEntry .. => 0x788039f030441071000004800c40c041300000000021c94021321008400480004000bffe
  | .sheddingStepExit .. => 0x1e020000001600004800c40c002100000000020010000100000000480000000317a
  | .railStateLost .. => 0x800000000000
  | .adcConversion .. => 0x39f0304400710000040004004041300000000021c94020101008401000074000bffe
  | .slowRoundEnd => 0x1e0200000000000000000000000100000001000020000000000413000208000802a
  | .ageingMeasurement .. => 0x4080000000008008
  | .lifeRecord => 0x50000
  | .thermTestEnd => 0x8000
  | .journalCompaction => 0x52018
  | .recorderDrain | .stampLimit => 0x1f020000071000000000000000000000000000000000000000000000000000007b2
  | .checkRecord => 0x1e020000031000000000000000000000000000000000000000000000000000002a2
  | .replayInjection .. => 0x3dfaf0b9f03fcc507169cf04804c40cc47f00003401121cf6063377f08d3147fc04077ffff
  | .replayHalt .. => 0x1e030440071000000000000000020000000000000000000000000000000000007e2
  | .lcChalNew => 0x5001e02000000000000000000000000000000000000000000000000000000000000022
  | .btResPop => 0xf00000000000000000000000000000000000000000000000000000000008000
  | .readClear .. | .lowWordReadLatch .. => 0x788001c0200000000000000000000c00000000000000000000000000000000000020002b
  | .registerWrite .. => 0x3c78d039f03f441071600004804c40c041300002000021cd4021371c08400043c04000bfff
  | .corridorTransmit .. => 0x50
  | .tapAccess .. => 0x3c78d039f03f445071600004804c40cc41300002000021cd4021371c08400043c04020bfff
  | .adapterRetryFailure .. => 0x1e020000000000004800cc0c0000000000000000000000000000000000000002022
  | .laneFault .. => 0x1e020000000000004800c60c0000000000000000000000000000000000000002022
  | .configUe .. => 0x39f0304400710000040004004041300000000021c94020101008400000004000bffe
  | .resetNRelease .. => 0x340000008000000000000000000000000000000000000000000000000000070008100
  | .lockFail => 0x200008000
  | .programOrEraseEnd .. => 0xc0000000400000000000000000000000000000000012060000000030000024005a598

/-- A command keeps every predicate that is closed under the kinds of change that it may make. -/
theorem exec_inv {P : State → Prop} {s : State} (k : P s) : ∀ i : Instr, Clo (kinds i) P → OutP P (exec i s)
  | .deviceInfo .., c => execDeviceInfo_inv c k
  | .abort .., c => execAbort_inv c k
  | .csrRead .., c => execCsrRead_inv c k
  | .csrWrite .., c => execCsrWrite_inv c k
  | .memRead .., c => execMemRead_inv c k
  | .memWrite .., c => execMemWrite_inv c k
  | .eventRead .., c => execEventRead_inv c k
  | .eventCfg .., c => execEventCfg_inv c k
  | .nop .., c => execNop_inv c k
  | .clockStatus .., c => execClockStatus_inv c k
  | .unitGate .., c => execUnitGate_inv c k
  | .epochCommit .., c => execEpochCommit_inv c k
  | .epochDiscard .., c => execEpochDiscard_inv c k
  | .booksAudit .., c => execBooksAudit_inv c k
  | .booksRead .., c => execBooksRead_inv c k
  | .bankOwner .., c => execBankOwner_inv c k
  | .bankGuest .., c => execBankGuest_inv c k
  | .bankRetain .., c => execBankRetain_inv c k
  | .bankWake .., c => execBankWake_inv c k
  | .bankWipe .., c => execBankWipe_inv c k
  | .bankStatus .., c => execBankStatus_inv c k
  | .planeLoad .., c => execPlaneLoad_inv c k
  | .planeSave .., c => execPlaneSave_inv c k
  | .planeSwitch .., c => execPlaneSwitch_inv c k
  | .roomStatus .., c => execRoomStatus_inv c k
  | .roomPark .., c => execRoomPark_inv c k
  | .roomUnpark .., c => execRoomUnpark_inv c k
  | .schedStatus .., c => execSchedStatus_inv c k
  | .taskPost .., c => execTaskPost_inv c k
  | .templateSet .., c => execTemplateSet_inv c k
  | .imageSet .., c => execImageSet_inv c k
  | .flowSet .., c => execFlowSet_inv c k
  | .groupSet .., c => execGroupSet_inv c k
  | .taskCancel .., c => execTaskCancel_inv c k
  | .schedDrain .., c => execSchedDrain_inv c k
  | .dspStatus .., c => execDspStatus_inv c k
  | .dspHalt .., c => execDspHalt_inv c k
  | .dspResume .., c => execDspResume_inv c k
  | .dspStep .., c => execDspStep_inv c k
  | .dspReset .., c => execDspReset_inv c k
  | .dspStart .., c => execDspStart_inv c k
  | .dpStatus .., c => execDpStatus_inv c k
  | .dpRetrain .., c => execDpRetrain_inv c k
  | .dpDown .., c => execDpDown_inv c k
  | .dpUp .., c => execDpUp_inv c k
  | .slStatus .., c => execSlStatus_inv c k
  | .slRetrain .., c => execSlRetrain_inv c k
  | .slDown .., c => execSlDown_inv c k
  | .slUp .., c => execSlUp_inv c k
  | .slSlip .., c => execSlSlip_inv c k
  | .slPower .., c => execSlPower_inv c k
  | .enumerate .., c => execEnumerate_inv c k
  | .enumAssign .., c => execEnumAssign_inv c k
  | .crStatus .., c => execCrStatus_inv c k
  | .crRangeRekey .., c => execCrRangeRekey_inv c k
  | .crRangeReset .., c => execCrRangeReset_inv c k
  | .linkKex .., c => execLinkKex_inv c k
  | .kexMsg .., c => execKexMsg_inv c k
  | .powerStatus .., c => execPowerStatus_inv c k
  | .thermalStatus .., c => execThermalStatus_inv c k
  | .ageReport .., c => execAgeReport_inv c k
  | .thermTest .., c => execThermTest_inv c k
  | .foundationReset .., c => execFoundationReset_inv c k
  | .resume .., c => execResume_inv c k
  | .recover .., c => execRecover_inv c k
  | .stackReset .., c => execStackReset_inv c k
  | .selftestRun .., c => execSelftestRun_inv c k
  | .selftestResult .., c => execSelftestResult_inv c k
  | .checkerMode .., c => execCheckerMode_inv c k
  | .ecLogRead .., c => execEcLogRead_inv c k
  | .lcStatus .., c => execLcStatus_inv c k
  | .certRead .., c => execCertRead_inv c k
  | .attest .., c => execAttest_inv c k
  | .lcTransition .., c => execLcTransition_inv c k
  | .debugAccess .., c => execDebugAccess_inv c k
  | .rpStatus .., c => execRpStatus_inv c k
  | .recordStart .., c => execRecordStart_inv c k
  | .recordStop .., c => execRecordStop_inv c k
  | .replayStart .., c => execReplayStart_inv c k
  | .replayStop .., c => execReplayStop_inv c k
  | .storeStatus .., c => execStoreStatus_inv c k
  | .profileList .., c => execProfileList_inv c k
  | .profileWrite .., c => execProfileWrite_inv c k
  | .profileErase .., c => execProfileErase_inv c k
  | .profilePush .., c => execProfilePush_inv c k
  | .profileSelect .., c => execProfileSelect_inv c k
  | .fwWrite .., c => execFwWrite_inv c k
  | .journalSet .., c => execJournalSet_inv c k
  | .journalClear .., c => execJournalClear_inv c k
  | .journalRead .., c => execJournalRead_inv c k
  | .journalCompact .., c => execJournalCompact_inv c k
  | .entdaa .., c => execEntdaa_inv c k
  | .rstdaa, c => execRstdaa_inv c k
  | .enec .., c => execEnec_inv c k
  | .disec .., c => execDisec_inv c k
  | .getpid, c => execGetpid_inv c k
  | .getbcr, c => execGetbcr_inv c k
  | .getdcr, c => execGetdcr_inv c k
  | .getstatus, c => execGetstatus_inv c k
  | .getmwl, c => execGetmwl_inv c k
  | .getmrl, c => execGetmrl_inv c k
  | .i3cPrivateWrite .., c => execI3cPrivateWrite_inv c k
  | .i3cPrivateRead .., c => execI3cPrivateRead_inv c k
  | .mbCmd .., c => execMbCmd_inv c k
  | .mbEngBell .., c => execMbEngBell_inv c k
  | .sidebandMessage .., c => execSidebandMessage_inv c k
  | .sidebandBlockTimeout .., c => execSidebandBlockTimeout_inv c k
  | .eventBlockSend, c => execEventBlockSend_inv c k
  | .commandTimeLimit .., c => execCommandTimeLimit_inv c k
  | .delayedStackReset, c => execDelayedStackReset_inv c k
  | .load .., c => execLoad_inv c k
  | .stateReload .., c => execStateReload_inv c k
  | .save .., c => execSave_inv c k
  | .drainComplete .., c => execDrainComplete_inv c k
  | .drainLimit .., c => execDrainLimit_inv c k
  | .loadRow .., c => execLoadRow_inv c k
  | .loadFinish .., c => execLoadFinish_inv c k
  | .planectlSwitchRequest .., c => execPlanectlSwitchRequest_inv c k
  | .planectlDone .., c => execPlanectlDone_inv c k
  | .heldSwitch .., c => execHeldSwitch_inv c k
  | .rowRequest .., c => execRowRequest_inv c k
  | .rowMove .., c => execRowMove_inv c k
  | .roomEndpointRequest .., c => execRoomEndpointRequest_inv c k
  | .roomRamAccess .., c => execRoomRamAccess_inv c k
  | .serviceLaneRequest .., c => execServiceLaneRequest_inv c k
  | .serviceAccess .., c => execServiceAccess_inv c k
  | .handover .., c => execHandover_inv c k
  | .handoverComplete .., c => execHandoverComplete_inv c k
  | .guestGrant .., c => execGuestGrant_inv c k
  | .retentionRequest .., c => execRetentionRequest_inv c k
  | .wakeRequest .., c => execWakeRequest_inv c k
  | .retentionEntryComplete .., c => execRetentionEntryComplete_inv c k
  | .wakeStart .., c => execWakeStart_inv c k
  | .wakeComplete .., c => execWakeComplete_inv c k
  | .wipeRequest .., c => execWipeRequest_inv c k
  | .wipeComplete .., c => execWipeComplete_inv c k
  | .startUpWipe .., c => execStartUpWipe_inv c k
  | .checkerTestModeEntry .., c => execCheckerTestModeEntry_inv c k
  | .checkerTestModeExit .., c => execCheckerTestModeExit_inv c k
  | .ecLogPop, c => execEcLogPop_inv c k
  | .mowingRowVisit .., c => execMowingRowVisit_inv c k
  | .scrubAccess .., c => execScrubAccess_inv c k
  | .mowingWindow, c => execMowingWindow_inv c k
  | .copyPassRow .., c => execCopyPassRow_inv c k
  | .vtParityMismatch .., c => execVtParityMismatch_inv c k
  | .walkingPatternTest .., c => execWalkingPatternTest_inv c k
  | .repairOutcome .., c => execRepairOutcome_inv c k
  | .repairSamplingResume .., c => execRepairSamplingResume_inv c k
  | .packetForward .., c => execPacketForward_inv c k
  | .creditReturn .., c => execCreditReturn_inv c k
  | .csrAccess .., c => execCsrAccess_inv c k
  | .responseArrival .., c => execResponseArrival_inv c k
  | .responseTimeLimit .., c => execResponseTimeLimit_inv c k
  | .expiredTagRelease .., c => execExpiredTagRelease_inv c k
  | .berrArm, c => execBerrArm_inv c k
  | .coBookSnapshot .., c => execCoBookSnapshot_inv c k
  | .epPeek .., c => execEpPeek_inv c k
  | .token .., c => execToken_inv c k
  | .tokenRecord .., c => execTokenRecord_inv c k
  | .dispatchPipe .., c => execDispatchPipe_inv c k
  | .dispatch .., c => execDispatch_inv c k
  | .dispatchResponse, c => execDispatchResponse_inv c k
  | .switchRepeat .., c => execSwitchRepeat_inv c k
  | .done, c => execDone_inv c k
  | .resultRecordPost, c => execResultRecordPost_inv c k
  | .tick, c => execTick_inv c k
  | .delayExpiry .., c => execDelayExpiry_inv c k
  | .delayListWalk .., c => execDelayListWalk_inv c k
  | .useCountDecay, c => execUseCountDecay_inv c k
  | .haltRequest .., c => execHaltRequest_inv c k
  | .engineHalt .., c => execEngineHalt_inv c k
  | .step .., c => execStep_inv c k
  | .deRfDataWrite .., c => execDeRfDataWrite_inv c k
  | .engineMemoryAccess .., c => execEngineMemoryAccess_inv c k
  | .engineResponse .., c => execEngineResponse_inv c k
  | .nopInstruction .., c => execNopInstruction_inv c k
  | .ld .., c => execLd_inv c k
  | .st .., c => execSt_inv c k
  | .mov .., c => execMov_inv c k
  | .movr .., c => execMovr_inv c k
  | .ldi .., c => execLdi_inv c k
  | .setp .., c => execSetp_inv c k
  | .movp .., c => execMovp_inv c k
  | .rdr .., c => execRdr_inv c k
  | .wrr .., c => execWrr_inv c k
  | .acc .., c => execAcc_inv c k
  | .alu .., c => execAlu_inv c k
  | .alui .., c => execAlui_inv c k
  | .cmac .., c => execCmac_inv c k
  | .dmac .., c => execDmac_inv c k
  | .tapm .., c => execTapm_inv c k
  | .bfly .., c => execBfly_inv c k
  | .sta .., c => execSta_inv c k
  | .rep .., c => execRep_inv c k
  | .br .., c => execBr_inv c k
  | .dbnz .., c => execDbnz_inv c k
  | .call .., c => execCall_inv c k
  | .ret .., c => execRet_inv c k
  | .get .., c => execGet_inv c k
  | .put .., c => execPut_inv c k
  | .sendtok .., c => execSendtok_inv c k
  | .sendmsg .., c => execSendmsg_inv c k
  | .wait .., c => execWait_inv c k
  | .doneInstruction .., c => execDoneInstruction_inv c k
  | .bkpt .., c => execBkpt_inv c k
  | .dataFlit .., c => execDataFlit_inv c k
  | .nullFlit .., c => execNullFlit_inv c k
  | .initFlit .., c => execInitFlit_inv c k
  | .resyncFlit .., c => execResyncFlit_inv c k
  | .nak .., c => execNak_inv c k
  | .pm .., c => execPm_inv c k
  | .lmb .., c => execLmb_inv c k
  | .teq .., c => execTeq_inv c k
  | .frame .., c => execFrame_inv c k
  | .flitSend .., c => execFlitSend_inv c k
  | .ackTimer .., c => execAckTimer_inv c k
  | .replayTimer .., c => execReplayTimer_inv c k
  | .dpCtrlRetrain .., c => execDpCtrlRetrain_inv c k
  | .dpCtrlHoldDown .., c => execDpCtrlHoldDown_inv c k
  | .slCtrlRetrain .., c => execSlCtrlRetrain_inv c k
  | .slCtrlHoldDown .., c => execSlCtrlHoldDown_inv c k
  | .slCtrlSlip .., c => execSlCtrlSlip_inv c k
  | .txHold .., c => execTxHold_inv c k
  | .rxHold .., c => execRxHold_inv c k
  | .replayBufferDrainLimit .., c => execReplayBufferDrainLimit_inv c k
  | .trainingAttempt .., c => execTrainingAttempt_inv c k
  | .alignmentCheck .., c => execAlignmentCheck_inv c k
  | .ffeTuningRound .., c => execFfeTuningRound_inv c k
  | .frameLock .., c => execFrameLock_inv c k
  | .adapterActive .., c => execAdapterActive_inv c k
  | .trainingFailure .., c => execTrainingFailure_inv c k
  | .failedRetry .., c => execFailedRetry_inv c k
  | .l1Entry .., c => execL1Entry_inv c k
  | .l1Exit .., c => execL1Exit_inv c k
  | .txiEntry .., c => execTxiEntry_inv c k
  | .txsEntry .., c => execTxsEntry_inv c k
  | .txExit .., c => execTxExit_inv c k
  | .portMainbandStop .., c => execPortMainbandStop_inv c k
  | .rawTransmit .., c => execRawTransmit_inv c k
  | .rawReceive .., c => execRawReceive_inv c k
  | .rawControlPoll .., c => execRawControlPoll_inv c k
  | .rawRingRetry .., c => execRawRingRetry_inv c k
  | .enumAssignResponse .., c => execEnumAssignResponse_inv c k
  | .protectedRead, c => execProtectedRead_inv c k
  | .fullLineWrite, c => execFullLineWrite_inv c k
  | .partialWrite, c => execPartialWrite_inv c k
  | .homeResponse, c => execHomeResponse_inv c k
  | .nodeVerification .., c => execNodeVerification_inv c k
  | .writeBack .., c => execWriteBack_inv c k
  | .pageReEncryption .., c => execPageReEncryption_inv c k
  | .rangeInitialisation .., c => execRangeInitialisation_inv c k
  | .rekeyPage .., c => execRekeyPage_inv c k
  | .rangeDisable .., c => execRangeDisable_inv c k
  | .autoKex .., c => execAutoKex_inv c k
  | .kexTimeout .., c => execKexTimeout_inv c k
  | .kexFragmentGap .., c => execKexFragmentGap_inv c k
  | .gateOpen .., c => execGateOpen_inv c k
  | .gateOpenComplete .., c => execGateOpenComplete_inv c k
  | .gateClose .., c => execGateClose_inv c k
  | .gateDrainEnd .., c => execGateDrainEnd_inv c k
  | .clockSwitch .., c => execClockSwitch_inv c k
  | .powerOnReset, c => execPowerOnReset_inv c k
  | .powerOnResetRelease .., c => execPowerOnResetRelease_inv c k
  | .railsPowerGood, c => execRailsPowerGood_inv c k
  | .resetN, c => execResetN_inv c k
  | .lockstepMismatch, c => execLockstepMismatch_inv c k
  | .bootVerification, c => execBootVerification_inv c k
  | .judgementWindow .., c => execJudgementWindow_inv c k
  | .hearthLoopLock, c => execHearthLoopLock_inv c k
  | .refclkLost, c => execRefclkLost_inv c k
  | .hearthLoopStop, c => execHearthLoopStop_inv c k
  | .relockAttempt .., c => execRelockAttempt_inv c k
  | .rcFail, c => execRcFail_inv c k
  | .startUpSelfTest .., c => execStartUpSelfTest_inv c k
  | .profile .., c => execProfile_inv c k
  | .commitFreeze, c => execCommitFreeze_inv c k
  | .commitApply, c => execCommitApply_inv c k
  | .commitPoint, c => execCommitPoint_inv c k
  | .commitResponse, c => execCommitResponse_inv c k
  | .audit, c => execAudit_inv c k
  | .foundationResetPendingEnd, c => execFoundationResetPendingEnd_inv c k
  | .foundationResetFreeze, c => execFoundationResetFreeze_inv c k
  | .foundationResetHold, c => execFoundationResetHold_inv c k
  | .foundationResetRelease, c => execFoundationResetRelease_inv c k
  | .backgroundSlice .., c => execBackgroundSlice_inv c k
  | .sliceSaveDone .., c => execSliceSaveDone_inv c k
  | .sliceMarchDone .., c => execSliceMarchDone_inv c k
  | .sliceRestoreDone .., c => execSliceRestoreDone_inv c k
  | .sliceBudgetExpiry .., c => execSliceBudgetExpiry_inv c k
  | .sheddingStepEntry .., c => execSheddingStepEntry_inv c k
  | .sheddingStepExit .., c => execSheddingStepExit_inv c k
  | .railStateLost .., c => execRailStateLost_inv c k
  | .adcConversion .., c => execAdcConversion_inv c k
  | .slowRoundEnd, c => execSlowRoundEnd_inv c k
  | .ageingMeasurement .., c => execAgeingMeasurement_inv c k
  | .lifeRecord, c => execLifeRecord_inv c k
  | .thermTestEnd, c => execThermTestEnd_inv c k
  | .journalCompaction, c => execJournalCompaction_inv c k
  | .recorderDrain, c => execRecorderDrain_inv c k
  | .checkRecord, c => execCheckRecord_inv c k
  | .stampLimit, c => execStampLimit_inv c k
  | .replayInjection .., c => execReplayInjection_inv c k
  | .replayHalt .., c => execReplayHalt_inv c k
  | .lcChalNew, c => execLcChalNew_inv c k
  | .btResPop, c => execBtResPop_inv c k
  | .readClear .., c => execReadClear_inv c k
  | .lowWordReadLatch .., c => execLowWordReadLatch_inv c k
  | .registerWrite .., c => execRegisterWrite_inv c k
  | .ckRoomEdge .., c => execCkRoomEdge_inv c k
  | .corridorTransmit .., c => execCorridorTransmit_inv c k
  | .tapAccess .., c => execTapAccess_inv c k
  | .forwardedClockStop .., c => execForwardedClockStop_inv c k
  | .adapterRetryFailure .., c => execAdapterRetryFailure_inv c k
  | .laneFault _ lane _, c => execLaneFault_inv (v1 := lane) c k
  | .configUe .., c => execConfigUe_inv c k
  | .resetNRelease .., c => execResetNRelease_inv c k
  | .lockFail, c => execLockFail_inv c k
  | .programOrEraseEnd .., c => execProgramOrEraseEnd_inv c k

/-- The predicate on what an operation answers, at the next state that it answers. -/
theorem OutP.next {P : State → Prop} {o : Host.Outcome State Fault Refusal} {t : State} (h : OutP P o) (e : o = .next t) : P t := by
  subst e
  exact h

/-- What a step can do: idle on an empty queue, or run the command at its front. -/
theorem step_cases {s t : State} (h : step s = .next t) :
    (s.pending = [] ∧ t = s) ∨ ∃ c rest, s.pending = c :: rest ∧ exec c { s with pending := rest } = .next t := by
  unfold step at h
  split at h
  case h_1 hq => exact .inl ⟨hq, (Host.Outcome.next.inj h).symm⟩
  case h_2 c rest hq => exact .inr ⟨c, rest, hq, h⟩

/-- A command keeps the canonical form, and the queue behind it. -/
theorem exec_keeps_canon {s t : State} {c : Instr} (hs : s.canon) (h : exec c s = .next t) : t.canon ∧ t.pending = s.pending :=
  (exec_inv ⟨hs, rfl⟩ c (clo_canon s.pending _)).next h

/-- Settles O4: a step idles, or runs a command on the state with a shorter queue, which is no sparse table. -/
theorem everyStepKeepsTheCanonicalForm : Obligations.EveryStepKeepsTheCanonicalForm := by
  intro s t hs h
  rcases step_cases h with ⟨-, rfl⟩ | ⟨c, rest, -, hc⟩
  · exact hs
  · have hq : State.canon { s with pending := rest } := { hs with }
    exact (exec_keeps_canon hq hc).1

end Sys2Proof.Machine

/-!
SUPPORT. What an access of the management processor to a register does (R7, R28), and where the statement on register
accesses fails: it does not ask for a canonical table of latched high words.
-/
namespace Sys2Proof.Machine

/-! ### Tables and registers -/

/-- A value that is not the default of its key is found in every table that it was put into, canonical or not. -/
theorem mget_mput_of_ne_default {α : Type} [DecidableEq α] {d : Nat → α} {k : Nat} {v : α} (hv : v ≠ d k) :
    ∀ m : SMap α, mget d (mput d m k v) k = v
  | [] => by simp [mput, mcons, hv, mget]
  | (k', w) :: t => by
    have ih := mget_mput_of_ne_default hv t
    rcases Nat.lt_trichotomy k k' with hlt | rfl | hgt
    · simp [mput, mcons, hv, mget, hlt]
    · simp [mput, mcons, hv, mget]
    · have hne : ¬ k = k' := by omega
      have hne' : ¬ k' = k := by omega
      have hge : ¬ k < k' := by omega
      simp [mput, mget, hne, hne', hge, ih]

section accesses
variable {s : State} {r : Reg} {i off value : Nat}

theorem State.f_wr_ne (h : s.regsOk) {F : Field} (hr : F.reg ≠ r) (w : Word) (j : Nat) : (s.wr r i w).f F j = s.f F j :=
  congrArg F.get (State.rd_wr_ne h hr i j w)

/-- The key that a register stages under rests on index registers alone, none of which stages under a key of its own. -/
theorem State.stageKey_wr (h : s.regsOk) (w : Word) : (s.wr r i w).stageKey r i = s.stageKey r i := by
  unfold State.stageKey
  split
  case h_9 => rfl
  all_goals rw [State.f_wr_ne h (by decide)]

theorem State.stagedAt_stage (key : Nat) (w : Word) : (s.stage key w).stagedAt key = some w := by
  unfold State.stagedAt State.stage
  rw [mget_mput_of_ne_default (by simp)]
  rfl

/-! ### A write that is no request -/

/-- The word that a write leaves in a register at once: its RW bits are the written ones, W1C clears and W1S sets. -/
def writtenWord (r : Reg) (old w : Word) : Word :=
  (((old &&& ~~~ r.accMask .rw) ||| (w &&& r.accMask .rw)) &&& ~~~ (w &&& r.accMask .w1c)) ||| (w &&& r.accMask .w1s)

/-- A register without RW, W1C and W1S fields is left as it was. -/
theorem writtenWord_of_no_mask (old w : Word) (h : r.accMask .rw ||| r.accMask .w1c ||| r.accMask .w1s = 0) :
    writtenWord r old w = old := by
  obtain ⟨h1, hs⟩ := BitVec.or_eq_zero_iff.1 h
  obtain ⟨hrw, hc⟩ := BitVec.or_eq_zero_iff.1 h1
  unfold writtenWord
  rw [hrw, hc, hs]
  simp only [BitVec.and_zero, BitVec.not_zero, BitVec.and_allOnes, BitVec.or_zero]

/-- The state with the fields written that take effect at once. -/
def State.writtenNow (s : State) (r : Reg) (i value : Nat) : State :=
  if r.accMask .rw ||| r.accMask .w1c ||| r.accMask .w1s = 0 then s
  else s.wr r i (writtenWord r (s.rd r i) (BitVec.ofNat 32 value))

/-- A write of the access types of R7: what takes effect at once, and the RWE bits staged. -/
theorem State.plainWrite_eq : s.plainWrite r i value =
    let t := s.writtenNow r i value
    if r.accMask .rwe = 0 then t else t.stage (t.stageKey r i) (rweWord r value) := rfl

theorem State.rd_writtenNow (h : s.regsOk) :
    (s.writtenNow r i value).rd r i = writtenWord r (s.rd r i) (BitVec.ofNat 32 value) := by
  unfold State.writtenNow
  split
  case isTrue h0 => rw [writtenWord_of_no_mask _ _ h0]
  case isFalse => exact State.rd_wr_same h ..

theorem State.stageKey_writtenNow (h : s.regsOk) : (s.writtenNow r i value).stageKey r i = s.stageKey r i := by
  unfold State.writtenNow
  split
  · rfl
  · exact State.stageKey_wr h _

theorem State.staged_writtenNow : (s.writtenNow r i value).staged = s.staged := by
  unfold State.writtenNow
  split <;> rfl

theorem State.rd_plainWrite (h : s.regsOk) :
    (s.plainWrite r i value).rd r i = writtenWord r (s.rd r i) (BitVec.ofNat 32 value) := by
  rw [← State.rd_writtenNow h, State.plainWrite_eq]
  dsimp only
  split <;> rfl

theorem State.stagedAt_plainWrite (h : s.regsOk) (hm : r.accMask .rwe ≠ 0) :
    (s.plainWrite r i value).stagedAt (s.stageKey r i) = some (rweWord r value) := by
  rw [State.plainWrite_eq, ← State.stageKey_writtenNow h (value := value)]
  dsimp only
  rw [if_neg hm, State.stagedAt_stage]

theorem State.staged_plainWrite (hm : r.accMask .rwe = 0) : (s.plainWrite r i value).staged = s.staged := by
  rw [State.plainWrite_eq]
  dsimp only
  rw [if_pos hm, State.staged_writtenNow]

theorem exec_registerWrite (hc : csrCause off = none) (ho : Reg.atOffset off = some (r, i)) :
    exec (.registerWrite off value) s = .next (s.regWrite r i value) := by
  show Host.Outcome.next (s.csrPut off value).2 = _
  simp only [State.csrPut, hc, ho]

theorem State.regWrite_of_no_request (h : s.requestWrite r i value = none) : s.regWrite r i value = s.plainWrite r i value := by
  rw [State.regWrite, h]
  rfl

/-! ### A read -/

/-- A read shows its word in the mailbox's state and leaves everything else to the register's own read. -/
theorem State.csrShow_of_offset (hc : csrCause off = none) (ho : Reg.atOffset off = some (r, i)) :
    s.csrShow off = (s.regRead r i).2.updMail fun m => { m with csrOut := (s.regRead r i).1 } := by
  simp only [State.csrShow, State.csrGet, hc, ho]

theorem State.regRead_of_ne_peek (hd : r ≠ .EP_PEEK_DATA) (hs : r ≠ .EP_PEEK_STATUS) : s.regRead r i = s.plainRead r i := by
  unfold State.regRead
  split
  case h_1 => exact absurd rfl hd
  case h_2 => exact absurd rfl hs
  case h_3 => rfl

/-- A register that shows no other state: its word without write-only bits, and its RC fields cleared. -/
theorem State.plainRead_of_not_shown (h : s.shownReg r i = none) : s.plainRead r i =
    (s.rd r i &&& ~~~ r.accMask .wo, if r.accMask .rc = 0 then s else s.wr r i (s.rd r i &&& ~~~ r.accMask .rc)) := by
  rw [State.plainRead, h]

theorem State.plainRead_of_shown {x : Word × State} (h : s.shownReg r i = some x) : s.plainRead r i = x := by
  rw [State.plainRead, h]

theorem rc_or_wo_empty :
    ((List.range 274).all fun k => (Reg.ofNat k).accMask .rc == 0 || (Reg.ofNat k).accMask .wo == 0) = true := by
  decide +kernel

/-- No register has both read-to-clear and write-only fields. -/
theorem Reg.wo_of_rc (h : r.accMask .rc ≠ 0) : r.accMask .wo = 0#32 := by
  have hk := List.all_eq_true.1 rc_or_wo_empty r.ctorIdx (List.mem_range.2 r.ctorIdx_lt)
  rw [Reg.ofNat_ctorIdx] at hk
  rw [Bool.or_eq_true, beq_iff_eq, beq_iff_eq] at hk
  exact hk.resolve_left h

theorem exec_readClear (hc : csrCause off = none) (ho : Reg.atOffset off = some (r, i)) (hn : s.shownReg r i = none)
    (hd : r ≠ .EP_PEEK_DATA) (hs : r ≠ .EP_PEEK_STATUS) : exec (.readClear off) s = .next
      ((if r.accMask .rc = 0 then s else s.wr r i (s.rd r i &&& ~~~ r.accMask .rc)).updMail
        fun m => { m with csrOut := s.rd r i &&& ~~~ r.accMask .wo }) := by
  show Host.Outcome.next (s.csrShow off) = _
  rw [State.csrShow_of_offset hc ho, State.regRead_of_ne_peek hd hs, State.plainRead_of_not_shown hn]

end accesses

/-! ### The pairs that latch -/

/-- A pair of registers that together show a 64-bit value: reading the low word latches the high one, and the high word shows
what is latched. -/
structure LatchPair (lo hi : Reg) (v : State → Nat) : Prop where
  reached : csrCause (lo.addr 0) = none ∧ Reg.atOffset (lo.addr 0) = some (lo, 0)
  noPeek : lo ≠ .EP_PEEK_DATA ∧ lo ≠ .EP_PEEK_STATUS
  low : ∀ s : State, s.shownReg lo 0 = some (s.latchHi hi 0 (v s))
  high : ∀ s : State, s.shownReg hi 0 = some (s.latched hi 0, s)

/-- A read of the low word returns v's low word, and the high word then shows v's high word. -/
def State.ReadLatches (s : State) (lo hi : Reg) (v : Nat) : Prop :=
  ∃ u, exec (.lowWordReadLatch (lo.addr 0)) s = .next u ∧ u.mail.csrOut = BitVec.ofNat 32 v ∧
    (u.shownReg hi 0).map (·.1) = some (BitVec.ofNat 32 (v / 2 ^ 32))

theorem latchPair_epoch : LatchPair .EP_EPOCH_LO .EP_EPOCH_HI (·.epoch) :=
  ⟨by decide +kernel, by decide, fun _ => rfl, fun _ => rfl⟩
theorem latchPair_tick : LatchPair .SC_TICK_LO .SC_TICK_HI (·.sched.tick) :=
  ⟨by decide +kernel, by decide, fun _ => rfl, fun _ => rfl⟩
theorem latchPair_issued : LatchPair .SC_TOK_ISSUED_LO .SC_TOK_ISSUED_HI (·.sched.issued) :=
  ⟨by decide +kernel, by decide, fun _ => rfl, fun _ => rfl⟩
theorem latchPair_matched : LatchPair .SC_TOK_MATCHED_LO .SC_TOK_MATCHED_HI (·.sched.matched) :=
  ⟨by decide +kernel, by decide, fun _ => rfl, fun _ => rfl⟩

section pairs
variable {lo hi : Reg} {v : State → Nat} {s : State}

theorem LatchPair.exec_read (p : LatchPair lo hi v) : exec (.lowWordReadLatch (lo.addr 0)) s = .next
    ((s.latchHi hi 0 (v s)).2.updMail fun m => { m with csrOut := BitVec.ofNat 32 (v s) }) := by
  show Host.Outcome.next (s.csrShow (lo.addr 0)) = _
  rw [State.csrShow_of_offset p.reached.1 p.reached.2, State.regRead_of_ne_peek p.noPeek.1 p.noPeek.2,
    State.plainRead_of_shown (p.low s)]
  rfl

/-- With a canonical table of latched words, the pair reads as the value did when its low word was read. -/
theorem LatchPair.latches (p : LatchPair lo hi v) (hl : mwf (fun _ => (0 : Word)) s.latch = true) :
    s.ReadLatches lo hi (v s) := by
  refine ⟨_, p.exec_read, rfl, ?_⟩
  rw [p.high]
  exact congrArg some (mget_mput_same hl _ _)

end pairs

/-! ### The challenge -/

section challenge
variable {s : State}

/-- A field that fills its register is set by writing the register. -/
theorem State.setF_of_full {F : Field} (hlo : F.lo = 0) (hhi : F.hi = 31) (i v : Nat) :
    s.setF F i v = s.wr F.reg i (BitVec.ofNat 32 v) := by
  have hw : F.width = 32 := by rw [Field.width, hlo, hhi]
  have hm : F.mask = BitVec.allOnes 32 := by rw [Field.mask, hw, hlo]; rfl
  have hv : BitVec.ofNat 32 (v % 2 ^ 32) = BitVec.ofNat 32 v := BitVec.eq_of_toNat_eq (by simp)
  rw [State.setF, Field.set, hm, hw, hlo, Nat.pow_zero, Nat.mul_one, hv, BitVec.not_allOnes, BitVec.and_zero, BitVec.zero_or]

/-- Writing the first instances of a register one after the other: each holds what was written to it. -/
theorem State.rd_each_wr (h : s.regsOk) (r : Reg) (w : Nat → Word) : ∀ n, n ≤ r.map.count →
    (s.each (List.range n) fun t k => t.wr r k (w k)).regsOk ∧
      ∀ k, k < n → (s.each (List.range n) fun t k => t.wr r k (w k)).rd r k = w k
  | 0, _ => ⟨h, fun k hk => absurd hk (Nat.not_lt_zero k)⟩
  | n + 1, hn => by
    obtain ⟨hok, hrd⟩ := State.rd_each_wr h r w n (by omega)
    have hlast : (s.each (List.range (n + 1)) fun t k => t.wr r k (w k)) =
        (s.each (List.range n) fun t k => t.wr r k (w k)).wr r n (w n) := by
      simp only [State.each, List.range_succ, List.foldl_append, List.foldl_cons, List.foldl_nil]
    rw [hlast]
    refine ⟨State.regsOk_wr hok .., fun k hk => ?_⟩
    rcases Nat.lt_succ_iff_lt_or_eq.1 hk with hlt | rfl
    · rw [State.rd_wr_inst hok r (by rw [Nat.mod_eq_of_lt (by omega), Nat.mod_eq_of_lt (by omega)]; omega), hrd k hlt]
    · exact State.rd_wr_same hok ..

/-- The challenge that the TRNG's bytes spell stands in LC_CHAL, and LC_CHAL_CTRL shows it valid. -/
theorem State.newChallenge_shows (hs : s.canon) : s.newChallenge.f Fld.LC_CHAL_CTRL_VALID 0 = 1 ∧
    ∀ k, k < 8 → s.newChallenge.rd .LC_CHAL k = BitVec.ofNat 32 (leNat (slice (s.trng 1).1 (4 * k) 4)) := by
  have hok : (s.trng 1).2.regsOk := (State.trng_inv (clo_canon s.pending _) ⟨hs, rfl⟩ : SndP _ (s.trng 1)).1.regs
  obtain ⟨hok8, hrd⟩ := State.rd_each_wr hok .LC_CHAL
    (fun k => BitVec.ofNat 32 (leNat (slice (s.trng 1).1 (4 * k) 4))) 8 (by decide)
  have hnew : s.newChallenge = ((s.trng 1).2.each (List.range 8) fun t k =>
      t.wr .LC_CHAL k (BitVec.ofNat 32 (leNat (slice (s.trng 1).1 (4 * k) 4)))).setF Fld.LC_CHAL_CTRL_VALID 0 1 := by
    rw [State.newChallenge]
    simp only [State.setF_of_full (F := Fld.LC_CHAL_CHAL) rfl rfl]
    rfl
  rw [hnew]
  exact ⟨State.f_setF_same hok8 _ (by decide) .., fun k hk => by rw [State.rd_setF_ne hok8 (by decide), hrd k hk]⟩

end challenge

/-! ### The statement on register accesses -/

/-- Every clause of `Obligations.RegisterAccessesFollowTheirTypes` holds of a state whose latched words are canonical too, which
`State.tables` says and `State.canon` does not. -/
theorem registerAccesses_of_canonical_latch (s : State) (hs : s.canon) (hl : mwf (fun _ => (0 : Word)) s.latch = true) :
    (∀ off value, csrCause off = none → ∀ r i, Reg.atOffset off = some (r, i) → s.requestWrite r i value = none →
      ∃ u, exec (.registerWrite off value) s = .next u ∧
        u.rd r i = writtenWord r (s.rd r i) (BitVec.ofNat 32 value) ∧
        (r.accMask .rwe ≠ 0 → u.stagedAt (s.stageKey r i) = some (rweWord r value)) ∧
        (r.accMask .rwe = 0 → u.staged = s.staged)) ∧
    (∀ off, csrCause off = none → ∀ r i, Reg.atOffset off = some (r, i) → s.shownReg r i = none → r ≠ .EP_PEEK_DATA →
      r ≠ .EP_PEEK_STATUS → ∃ u, exec (.readClear off) s = .next u ∧ u.mail.csrOut = s.rd r i &&& ~~~ r.accMask .wo ∧
        (r.accMask .rc ≠ 0 → u.rd r i = (s.rd r i &&& ~~~ r.accMask .wo) &&& ~~~ r.accMask .rc) ∧
        (r.accMask .rc = 0 → u.rd r i = s.rd r i)) ∧
    (s.ReadLatches .EP_EPOCH_LO .EP_EPOCH_HI s.epoch ∧ s.ReadLatches .SC_TICK_LO .SC_TICK_HI s.sched.tick ∧
      s.ReadLatches .SC_TOK_ISSUED_LO .SC_TOK_ISSUED_HI s.sched.issued ∧
      s.ReadLatches .SC_TOK_MATCHED_LO .SC_TOK_MATCHED_HI s.sched.matched) ∧
    (∃ u, exec .lcChalNew s = .next u ∧ u.f Fld.LC_CHAL_CTRL_VALID 0 = 1 ∧
      ∀ k, k < 8 → u.rd .LC_CHAL k = BitVec.ofNat 32 (leNat (slice (s.trng 1).1 (4 * k) 4))) ∧
    (∃ u, exec .btResPop s = .next u ∧ u.boot.records = s.boot.records.drop 1) ∧
    (∃ u, exec .ecLogPop s = .next u ∧ u.ecLog = s.ecLog.drop 1 ∧ u.regs = s.regs) := by
  refine ⟨?write, ?read, ?latch, ⟨_, rfl, State.newChallenge_shows hs⟩, ⟨_, rfl, rfl⟩, ⟨_, rfl, rfl, rfl⟩⟩
  case write =>
    intro off value hc r i ho hr
    refine ⟨_, exec_registerWrite hc ho, ?_⟩
    rw [State.regWrite_of_no_request hr]
    exact ⟨State.rd_plainWrite hs.regs, State.stagedAt_plainWrite hs.regs, State.staged_plainWrite⟩
  case read =>
    intro off hc r i ho hn hd hst
    refine ⟨_, exec_readClear hc ho hn hd hst, rfl, fun hrc => ?_, fun hrc => ?_⟩
    · rw [if_neg hrc, State.updMail_rd_of, State.rd_wr_same hs.regs, Reg.wo_of_rc hrc, BitVec.not_zero, BitVec.and_allOnes]
    · rw [if_pos hrc, State.updMail_rd_of]
  case latch =>
    exact ⟨latchPair_epoch.latches hl, latchPair_tick.latches hl, latchPair_issued.latches hl, latchPair_matched.latches hl⟩

/-- Refutes O30: `State.canon` does not speak of the latched high words. Where that table lists EP_EPOCH_HI twice, a read of
EP_EPOCH_LO with a high word of 0, the default, removes the first entry alone, and EP_EPOCH_HI shows the second. -/
theorem not_registerAccessesFollowTheirTypes : ¬ Obligations.RegisterAccessesFollowTheirTypes := by
  unfold Obligations.RegisterAccessesFollowTheirTypes
  intro h
  let hi := Reg.EP_EPOCH_HI.addr 0
  let s : State := { State.reset with latch := [(hi, 1), (hi, 1)] }
  have hs : s.canon := { State.canon_reset with }
  obtain ⟨-, -, ⟨⟨u, hu, -, hshown⟩, -⟩, -⟩ := h s hs
  have hread : s.csrShow (Reg.EP_EPOCH_LO.addr 0) = u := Host.Outcome.next.inj hu
  rw [← hread] at hshown
  exact absurd hshown (by decide +kernel)

end Sys2Proof.Machine

/-!
SUPPORT. The frames of every command at once: a kind of state that a command's mask `kinds` leaves out is as it was.
-/
namespace Sys2Proof.Machine

/-! ### The masks of the commands outside each class -/

theorem testBit_of_land_eq_zero {m k i : Nat} (h : m &&& k = 0) (hi : k.testBit i = true) : m.testBit i = false := by
  have hb := congrArg (Nat.testBit · i) h
  simpa [hi] using hb

section masks
variable {c : Instr}

theorem kinds_of_not_blowsFuses (h : blowsFuses c = false) : kinds c &&& 0x20000 = 0 := by
  cases c <;> (conv in kinds _ => whnf) <;> simp only [Nat.reduceAnd] <;> cases h
theorem kinds_of_not_writesFlash (h : writesFlash c = false) : kinds c &&& 0x40000 = 0 := by
  cases c <;> (conv in kinds _ => whnf) <;> simp only [Nat.reduceAnd] <;> cases h
theorem kinds_of_storesNothing (h : storesNothing c = true) : kinds c &&& 0x80400 = 0 := by
  cases c <;> (conv in kinds _ => whnf) <;> simp only [Nat.reduceAnd] <;> cases h
theorem kinds_of_not_usesCrypto (h : usesCrypto c = false) : kinds c &&& 0x84000 = 0 := by
  cases c <;> (conv in kinds _ => whnf) <;> simp only [Nat.reduceAnd] <;> cases h
theorem kinds_of_not_movesRooms (h : movesRooms c = false) : kinds c &&& 0x80040 = 0 := by
  cases c <;> (conv in kinds _ => whnf) <;> simp only [Nat.reduceAnd] <;> cases h
theorem kinds_of_not_movesBanks (h : movesBanks c = false) : kinds c &&& 0x80100 = 0 := by
  cases c <;> (conv in kinds _ => whnf) <;> simp only [Nat.reduceAnd] <;> cases h
theorem kinds_of_not_schedules (h : schedules c = false) : kinds c &&& 0x80800 = 0 := by
  cases c <;> (conv in kinds _ => whnf) <;> simp only [Nat.reduceAnd] <;> cases h
theorem kinds_of_not_movesEngines (h : movesEngines c = false) : kinds c &&& 0x81000 = 0 := by
  cases c <;> (conv in kinds _ => whnf) <;> simp only [Nat.reduceAnd] <;> cases h
theorem kinds_of_not_latches (h : latches c = false) : kinds c &&& 0x280000 = 0 := by
  cases c <;> (conv in kinds _ => whnf) <;> simp only [Nat.reduceAnd] <;> cases h

end masks

/-! ### What a mask leaves out is kept -/

/-- Fuses and flash are kept by every other kind of change, the resets of the stack among them. -/
theorem clo_fuses_flash (s : State) (m : Nat) :
    Clo m fun t => (m.testBit 17 = false → t.fuses = s.fuses) ∧ (m.testBit 18 = false → t.flash = s.flash) := by
  constructor
  case fuses => exact fun i {_} _ k => ⟨fun h => (by rw [i] at h; cases h), k.2⟩
  case program => exact fun i {_} _ _ k => ⟨k.1, fun h => by rw [i] at h; cases h⟩
  case eraseFlash => exact fun i {_} _ _ k => ⟨k.1, fun h => by rw [i] at h; cases h⟩
  all_goals intros; exact ‹_ ∧ _›

section frames
variable {c : Instr} {s u : State} (h : exec c s = .next u)
include h

theorem exec_keeps_fuses (h17 : (kinds c).testBit 17 = false) : u.fuses = s.fuses :=
  ((exec_inv ⟨fun _ => rfl, fun _ => rfl⟩ c (clo_fuses_flash s _)).next h).1 h17
theorem exec_keeps_flash (h18 : (kinds c).testBit 18 = false) : u.flash = s.flash :=
  ((exec_inv ⟨fun _ => rfl, fun _ => rfl⟩ c (clo_fuses_flash s _)).next h).2 h18

/-- A command that does not reset the stack keeps what its mask leaves out. -/
theorem exec_same (h19 : (kinds c).testBit 19 = false) : Same (kinds c) s u :=
  (exec_inv (Same.refl _ s) c (clo_same s h19)).next h

end frames

/-- Settles O7: each clause reads one bit of the command's mask, and the bit of the stack's resets where a reset would
clear that kind of state. -/
theorem commandsKeepToTheirState : Obligations.CommandsKeepToTheirState := by
  intro c s u h
  have same {m : Nat} (hm : kinds c &&& m = 0) (h19 : m.testBit 19 = true) : Same (kinds c) s u :=
    exec_same h (testBit_of_land_eq_zero hm h19)
  refine ⟨?fuses, ?flash, ?memory, ?crypto, ?rooms, ?banks, ?sched, ?engines, ?latch⟩
  case fuses =>
    exact fun hc => exec_keeps_fuses h (testBit_of_land_eq_zero (kinds_of_not_blowsFuses hc) rfl)
  case flash =>
    exact fun hc => exec_keeps_flash h (testBit_of_land_eq_zero (kinds_of_not_writesFlash hc) rfl)
  case memory =>
    intro hc
    have hm := kinds_of_storesNothing hc
    have hmem : u.mem = s.mem := (same hm rfl).mem (testBit_of_land_eq_zero hm rfl)
    exact ⟨hmem, (same hm rfl).synd (testBit_of_land_eq_zero hm rfl), fun a => by rw [State.byte, State.byte, hmem]⟩
  case crypto =>
    intro hc
    have hm := kinds_of_not_usesCrypto hc
    exact (same hm rfl).crypto (testBit_of_land_eq_zero hm rfl)
  case rooms =>
    intro hc n
    have hm := kinds_of_not_movesRooms hc
    rw [State.room, State.room, (same hm rfl).rooms (testBit_of_land_eq_zero hm rfl)]
  case banks =>
    intro hc
    have hm := kinds_of_not_movesBanks hc
    have hbanks := (same hm rfl).banks (testBit_of_land_eq_zero hm rfl)
    exact ⟨fun b => by rw [State.bank, State.bank, hbanks], (same hm rfl).svc (testBit_of_land_eq_zero hm rfl)⟩
  case sched =>
    intro hc
    have hm := kinds_of_not_schedules hc
    exact (same hm rfl).sched (testBit_of_land_eq_zero hm rfl)
  case engines =>
    intro hc e
    have hm := kinds_of_not_movesEngines hc
    rw [State.eng, State.eng, (same hm rfl).engs (testBit_of_land_eq_zero hm rfl)]
  case latch =>
    intro hc
    have hm := kinds_of_not_latches hc
    exact (same hm rfl).latch (testBit_of_land_eq_zero hm rfl)

end Sys2Proof.Machine

/-!
SUPPORT. The settings: the RWE bits of the registers and the scheduler's table entries, each under its key (R24). Which
changes leave them as they are, and what a set of staged words makes of them.
-/
namespace Sys2Proof.Machine

/-! ### The register at an offset -/

theorem Reg.addr_of_instAt {r : Reg} {off i : Nat} (h : r.instAt off = some i) : r.addr i = off := by
  simp only [Reg.instAt, Option.ite_none_left_eq_some, Option.ite_none_right_eq_some, Option.some.injEq] at h
  obtain ⟨-, ⟨-, -, haddr⟩, rfl⟩ := h
  exact haddr

theorem all_registers_listed : ((List.range 274).all fun k => Reg.all.contains (Reg.ofNat k)) = true := by decide +kernel

theorem Reg.mem_all (r : Reg) : r ∈ Reg.all := by
  have h := List.all_eq_true.1 all_registers_listed r.ctorIdx (List.mem_range.2 r.ctorIdx_lt)
  rwa [Reg.ofNat_ctorIdx, List.contains_iff_mem] at h

/-- An offset of a register's word names that word. -/
theorem Reg.atOffset_addr (r : Reg) (i : Nat) : Reg.atOffset (r.addr i) = some (r, i % r.map.count) := by
  obtain ⟨-, -, hinst, -⟩ := slot_addr r i
  unfold Reg.atOffset
  cases hf : Reg.all.findSome? fun q => (q.instAt (r.addr i)).map fun j => (q, j) with
  | none =>
    have hr := List.findSome?_eq_none_iff.1 hf r r.mem_all
    rw [hinst] at hr
    cases hr
  | some x =>
    obtain ⟨q, -, hq⟩ := List.exists_of_findSome?_eq_some hf
    obtain ⟨j, hj, rfl⟩ := Option.map_eq_some_iff.1 hq
    have hqr : q = r := by_contra fun hne => Reg.addr_ne hne j i (Reg.addr_of_instAt hj)
    subst hqr
    rw [hinst] at hj
    cases hj
    rfl

@[simp] theorem keyMask_addr (r : Reg) (i : Nat) : keyMask (r.addr i) = r.accMask .rwe := by
  unfold keyMask
  rw [if_neg (Nat.not_le.2 (r.addr_lt i)), Reg.atOffset_addr]

/-! ### Changes that keep every setting -/

/-- Every setting in effect is as in s, in a canonical register table. -/
def SettingsAs (s t : State) : Prop := t.regsOk ∧ ∀ k, t.raw k &&& keyMask k = s.raw k &&& keyMask k

theorem SettingsAs.refl {s : State} (h : s.regsOk) : SettingsAs s s := ⟨h, fun _ => rfl⟩

theorem SettingsAs.trans {s t u : State} (h1 : SettingsAs s t) (h2 : SettingsAs t u) : SettingsAs s u :=
  ⟨h2.1, fun k => (h2.2 k).trans (h1.2 k)⟩

theorem SettingsAs.rd {s t : State} (h : SettingsAs s t) (r : Reg) (i : Nat) :
    t.rd r i &&& r.accMask .rwe = s.rd r i &&& r.accMask .rwe := by
  have hk := h.2 (r.addr i)
  rwa [keyMask_addr] at hk

/-- A write that leaves a register's RWE bits alone. -/
theorem SettingsAs.wr {s t : State} (h : SettingsAs s t) {r : Reg} {i : Nat} {w : Word}
    (hw : w &&& r.accMask .rwe = t.rd r i &&& r.accMask .rwe) : SettingsAs s (t.wr r i w) := by
  refine ⟨State.regsOk_wr h.1 .., fun k => ?_⟩
  rw [← h.2 k, State.wr, State.raw_setRaw h.1]
  split
  case isTrue hk => rw [hk, keyMask_addr, hw, State.rd]
  case isFalse => rfl

theorem Field.set_and_of_disjoint {F : Field} {m : Word} (hF : F.ok = true) (hm : F.mask &&& m = 0) (w : Word) (v : Nat) :
    F.set w v &&& m = w &&& m := by
  refine BitVec.eq_of_getLsbD_eq fun j _ => ?_
  have hj : (F.mask.getLsbD j && m.getLsbD j) = false := by rw [← BitVec.getLsbD_and, hm]; simp
  rw [F.testBit_mask hF] at hj
  rw [BitVec.getLsbD_and, BitVec.getLsbD_and, F.set_testBit hF]
  split
  case isTrue h =>
    simp only [h.1, h.2, decide_true, Bool.true_and] at hj
    rw [hj, Bool.and_false, Bool.and_false]
  case isFalse => rfl

/-- A field without RWE bits is no setting. -/
theorem SettingsAs.setF {s t : State} (h : SettingsAs s t) {F : Field} (hF : F.ok = true)
    (hm : F.mask &&& F.reg.accMask .rwe = 0) (i v : Nat) : SettingsAs s (t.setF F i v) :=
  h.wr (Field.set_and_of_disjoint hF hm ..)

/-- Of the registers that m names, none has an RWE field. -/
def namesNoSetting (m : Nat) : Bool := (List.range 274).all fun k => !m.testBit (24 + k) || (Reg.ofNat k).accMask .rwe == 0

theorem accMask_rwe_of_namesNoSetting {m : Nat} (h : namesNoSetting m = true) {r : Reg}
    (hr : m.testBit (24 + r.ctorIdx) = true) : r.accMask .rwe = 0 := by
  have hk := List.all_eq_true.1 h r.ctorIdx (List.mem_range.2 r.ctorIdx_lt)
  rw [hr, Reg.ofNat_ctorIdx] at hk
  simpa using hk

/-- Changes of kinds that name no register with RWE fields, no table entry and no reset keep every setting. -/
theorem clo_settings (s : State) {m : Nat} (h0 : m.testBit 0 = false) (h19 : m.testBit 19 = false) (h20 : m.testBit 20 = false)
    (hm : namesNoSetting m = true) : Clo m (SettingsAs s) := by
  unfold SettingsAs
  constructor
  case wr =>
    intro r hr t i w k
    exact SettingsAs.wr k (by simp [accMask_rwe_of_namesNoSetting hm hr])
  case setTab => exact fun h => by rw [h20] at h; cases h
  case setRaw => exact fun h => by rw [h0] at h; cases h
  case dropRegs => exact fun h => by rw [h0] at h; cases h
  case powerOn => exact fun h => by rw [h19] at h; cases h
  case stackReset => exact fun h => by rw [h19] at h; cases h
  all_goals intros; exact ‹_ ∧ _›

/-! ### A set that takes effect -/

/-- The words of a set replace the settings that it holds, and no other. -/
theorem State.settings_takeSet : ∀ {l : SMap (Option Word)} {lo : Nat} {s : State}, mwfFrom (fun _ => none) lo l = true → s.regsOk →
    (s.takeSet l).regsOk ∧ ∀ k, (s.takeSet l).raw k &&& keyMask k = (mget (fun _ => none) l k).getD (s.raw k) &&& keyMask k
  | [], _, _, _, h => ⟨h, fun _ => rfl⟩
  | (k', none) :: t, lo, s, hl, h => by simp [mwfFrom] at hl
  | (k', some w) :: t, lo, s, hl, h => by
    simp only [mwfFrom, Bool.and_eq_true] at hl
    have hstep := State.regsOk_setRaw h k' ((s.raw k' &&& ~~~keyMask k') ||| (w &&& keyMask k'))
    obtain ⟨hok, hraw⟩ := State.settings_takeSet hl.2 hstep
    refine ⟨hok, fun k => (hraw k).trans ?_⟩
    have hrest := mwfFrom_le hl.2
    rw [State.raw_setRaw h, mget]
    rcases Nat.lt_trichotomy k' k with hlt | rfl | hgt
    · rw [if_neg (by omega), if_neg (by omega), if_neg (by omega)]
    · rw [if_pos rfl, if_pos rfl, mget_of_lt hrest]
      refine BitVec.eq_of_getLsbD_eq fun j _ => ?_
      cases hj : (keyMask k').getLsbD j <;> simp [hj]
    · rw [if_neg (by omega), if_neg (by omega), if_pos hgt, mget_of_lt fun e he => by have := hrest e he; omega]

end Sys2Proof.Machine

/-!
SUPPORT. The commit point (Table 02-3): the set takes effect, the epoch counts, and what follows in the units leaves the
settings, the commit and the staged set as they are (R24, R25).
-/
namespace Sys2Proof.Machine
variable {P : State → Prop} {s t old : State} {c : Commit}

/-! ### The parts of a commit point -/

/-- The commit point itself: the set is spent, the epoch counts, the pools thaw. -/
def State.epochCounted (s : State) (c : Commit) : State :=
  let s := { s with snapshot := [] }
  let s := { s with commit := some { c with phase := 4 } }
  let s := { s with epoch := (s.epoch + 1) % 2 ^ 64 }
  let s := s.setF Fld.EP_EPOCH_LO_EPOCH 0 (s.epoch % 2 ^ 32)
  ((s.setF Fld.EP_STATUS_FROZEN 0 0).setF Fld.EP_ESC_COMMIT_COUNT 0 0).updSched fun q => { q with inPipe := [] }

/-- What the units make of the settings that were in effect, `old`, and those that are now. -/
def State.settingEffects (old s : State) (c : Commit) : State :=
  let s := s.each links32 fun s k => State.linkSet old s k
  let s := s.each (List.range 32) fun s r => State.rangeSet old s r
  let s := (State.mowSet old (State.schedSet old s)).writeImage
  match c.cmd with | some r => if c.inner = 0 then s.committed r else s | none => s

theorem State.commitPoint_eq (hc : s.commit = some c) (hp : c.phase = 3) : s.commitPoint =
    let b := s.rangesBack (s.takeSet s.snapshot)
    State.settingEffects b ((b.takeSet b.snapshot).epochCounted c) c := by
  simp only [State.commitPoint, hc, hp, ne_eq, not_true_eq_false, if_false]
  rfl

/-! ### What each part may change -/

theorem State.rangesBack_keeps (h : Clo 0x8c1000000000000000000000000000000000000400000000040601a P) (k : P s) :
    P (s.rangesBack t) :=
  State.each_inv (h.mono rfl) k fun _ _ k => ite_p (fun _ => State.writeBackAll_inv (h.mono rfl) k) fun _ => k

/-- The kinds of state that the effects of settings may change, but for the two fields of the scheduler. -/
abbrev effectsMask : Nat := 0x1e02000000908cf04800c40c000000000000000000000000000400000000040e9ba

theorem State.linkSet_keeps (h : Clo effectsMask P) (k : P s) (n : Nat) : P (State.linkSet old s n) := by
  unfold State.linkSet
  exact ite_p (fun _ => State.bringUp_inv (h.mono rfl) k) fun _ =>
    ite_p (fun _ => State.linkOff_inv (h.mono rfl) k) fun _ => ite_p (fun _ => State.linkChanged_inv (h.mono rfl) k) fun _ => k

theorem State.rangeSet_keeps (h : Clo effectsMask P) (k : P s) (r : Nat) : P (State.rangeSet old s r) := by
  unfold State.rangeSet
  exact ite_p (fun _ => State.rangeInit_inv (h.mono rfl) k) fun _ =>
    ite_p (fun _ => State.rangeOff_inv (h.mono rfl) k) fun _ => ite_p (fun _ => State.updCrr_inv (h.mono rfl) k) fun _ => k

theorem State.mowSet_keeps (h : Clo effectsMask P) (k : P s) : P (State.mowSet old s) := by
  unfold State.mowSet
  exact ite_p (fun _ => ite_p (fun _ => State.mowStart_inv (h.mono rfl) k) fun _ => k) fun _ =>
    ite_p (fun _ => State.mowRefresh_inv (h.mono rfl) (State.setPeriod_inv (h.mono rfl) (State.updMow_inv (h.mono rfl) k)))
      fun _ => State.mowRefresh_inv (h.mono rfl) k

/-- The scheduler's settings show in two fields that are no settings: the length of its reservation, and RUNNING. -/
theorem State.schedSet_keeps (h : Clo effectsMask P) (hres : ∀ t v, P t → P (t.setF Fld.SC_RES_COUNT 0 v))
    (hrun : ∀ t v, P t → P (t.setF Fld.SC_STATUS_RUNNING 0 v)) (k : P s) : P (State.schedSet old s) := by
  unfold State.schedSet
  refine hrun _ _ (hres _ _ (ite_p (fun _ => ite_p (fun _ => ?_) fun _ => ?_) fun _ => k))
  · exact State.meadowStore_inv (h.mono rfl) (State.meadowInit_inv (h.mono rfl) k)
  · exact State.meadowInit_inv (h.mono rfl) k

theorem State.settingEffects_keeps (h : Clo effectsMask P) (hres : ∀ t v, P t → P (t.setF Fld.SC_RES_COUNT 0 v))
    (hrun : ∀ t v, P t → P (t.setF Fld.SC_STATUS_RUNNING 0 v)) (k : P s) : P (State.settingEffects old s c) := by
  have hlinks := State.each_inv (l := links32) (h.mono rfl) k fun s n k => State.linkSet_keeps (old := old) h k n
  have hranges := State.each_inv (l := List.range 32) (h.mono rfl) hlinks fun s r k => State.rangeSet_keeps (old := old) h k r
  have hmow := State.mowSet_keeps (old := old) h (State.schedSet_keeps (old := old) h hres hrun hranges)
  have himage := State.writeImage_inv (h.mono rfl) hmow
  unfold State.settingEffects
  cases c.cmd with
  | none => exact himage
  | some r => exact ite_p (fun _ => State.committed_inv (h.mono rfl) himage) fun _ => himage

/-! ### What holds after a commit point -/

theorem settings_rangesBack (h : s.regsOk) : SettingsAs s (s.rangesBack t) :=
  State.rangesBack_keeps (clo_settings s rfl rfl rfl (by decide +kernel)) (.refl h)

theorem settings_epochCounted (h : s.regsOk) : SettingsAs s (s.epochCounted c) :=
  (((SettingsAs.refl h : SettingsAs s { s with snapshot := [], commit := some { c with phase := 4 }, epoch := (s.epoch + 1) % 2 ^ 64 }).setF
    (F := Fld.EP_EPOCH_LO_EPOCH) (by decide) (by decide) _ _).setF (F := Fld.EP_STATUS_FROZEN) (by decide) (by decide) _ _).setF
    (F := Fld.EP_ESC_COMMIT_COUNT) (by decide) (by decide) _ _

theorem settings_settingEffects (h : s.regsOk) : SettingsAs s (State.settingEffects old s c) :=
  State.settingEffects_keeps (clo_settings s rfl rfl rfl (by decide +kernel))
    (fun _ _ k => k.setF (by decide) (by decide) _ _) (fun _ _ k => k.setF (by decide) (by decide) _ _) (.refl h)

theorem same_settingEffects (old s : State) (c : Commit) : Same effectsMask s (State.settingEffects old s c) :=
  State.settingEffects_keeps (clo_same s rfl) (fun _ _ k => { k with }) (fun _ _ k => { k with }) (.refl _ s)

theorem same_rangesBack (s t : State) : Same 0x8c1000000000000000000000000000000000000400000000040601a s (s.rangesBack t) :=
  State.rangesBack_keeps (clo_same s rfl) (.refl _ s)

theorem same_takeSet (s : State) (l : SMap (Option Word)) : Same 1 s (s.takeSet l) :=
  State.takeSet_inv (clo_same s rfl) (.refl _ s)

theorem State.commitPoint_epoch (hc : s.commit = some c) (hp : c.phase = 3) : s.commitPoint.epoch = (s.epoch + 1) % 2 ^ 64 := by
  rw [State.commitPoint_eq hc hp]
  dsimp only
  rw [(same_settingEffects ..).epoch rfl]
  show ((State.takeSet _ _).epoch + 1) % 2 ^ 64 = _
  rw [(same_takeSet ..).epoch rfl, (same_rangesBack ..).epoch rfl]

theorem State.commitPoint_staged (hc : s.commit = some c) (hp : c.phase = 3) : s.commitPoint.staged = s.staged := by
  rw [State.commitPoint_eq hc hp]
  dsimp only
  rw [(same_settingEffects ..).staged rfl]
  show (State.takeSet _ _).staged = _
  rw [(same_takeSet ..).staged rfl, (same_rangesBack ..).staged rfl]

/-- At the commit point the snapshot's settings are in effect, and the others stay (R25). -/
theorem State.commitPoint_settings (h : s.regsOk) (hl : mwf (fun _ => none) s.snapshot = true) (hc : s.commit = some c)
    (hp : c.phase = 3) : s.commitPoint.regsOk ∧
      ∀ k, s.commitPoint.raw k &&& keyMask k = (mget (fun _ => none) s.snapshot k).getD (s.raw k) &&& keyMask k := by
  rw [State.commitPoint_eq hc hp]
  dsimp only
  have hback := settings_rangesBack (t := s.takeSet s.snapshot) h
  obtain ⟨htake, hraw⟩ := State.settings_takeSet hl hback.1
  rw [(same_rangesBack ..).snapshot rfl]
  have hrest := (settings_epochCounted htake (c := c)).trans
    (settings_settingEffects (old := s.rangesBack (s.takeSet s.snapshot)) (c := c) (settings_epochCounted htake).1)
  refine ⟨hrest.1, fun k => ?_⟩
  rw [hrest.2 k, hraw k]
  cases mget (fun _ => none) s.snapshot k with
  | none => exact hback.2 k
  | some w => rfl

/-! ### The command -/

/-- A commit point is that of `commitPoint`, alone or between the zero of the stamp and the start of a recording or replay (R420). -/
theorem exec_commitPoint_cases (hc : s.commit = some c) (hp : c.phase = 3) : exec .commitPoint s = .next s.commitPoint ∨
    ∃ o, exec .commitPoint s = .next (s.stampZero o).commitPoint.originPoint := by
  have hexec : exec .commitPoint s = .next s.pointOf := rfl
  rw [hexec, State.pointOf]
  simp only [hc, hp, ne_eq, not_true_eq_false, false_or]
  split
  · exact .inl rfl
  · exact .inr ⟨_, rfl⟩

theorem same_stampZero (s : State) (o : Nat) :
    Same 0x1d02000000000000000000000000000000000000000000000000000000000000020 s (s.stampZero o) :=
  State.stampZero_inv (clo_same s rfl) (.refl _ s)

theorem same_originPoint (s : State) :
    Same 0x1e020000071000000000000000000000000000000000000000000000000000007b2 s s.originPoint :=
  State.originPoint_inv (clo_same s rfl) (.refl _ s)

theorem settings_stampZero (h : s.regsOk) (o : Nat) : SettingsAs s (s.stampZero o) :=
  State.stampZero_inv (clo_settings s rfl rfl rfl (by decide +kernel)) (.refl h)

theorem settings_originPoint (h : s.regsOk) : SettingsAs s s.originPoint :=
  State.originPoint_inv (clo_settings s rfl rfl rfl (by decide +kernel)) (.refl h)

/-- The epoch counts at every commit point. -/
theorem exec_commitPoint_epoch (hc : s.commit = some c) (hp : c.phase = 3) :
    ∃ u, exec .commitPoint s = .next u ∧ u.epoch = (s.epoch + 1) % 2 ^ 64 := by
  rcases exec_commitPoint_cases hc hp with hu | ⟨o, hu⟩
  · exact ⟨_, hu, State.commitPoint_epoch hc hp⟩
  · have hz := same_stampZero s o
    refine ⟨_, hu, ?_⟩
    rw [(same_originPoint _).epoch rfl, State.commitPoint_epoch ((hz.commit rfl).trans hc) hp, hz.epoch rfl]

/-- Every commit point brings the snapshot's settings into effect and leaves what is staged staged. -/
theorem exec_commitPoint_settings (h : s.regsOk) (hl : mwf (fun _ => none) s.snapshot = true) (hc : s.commit = some c)
    (hp : c.phase = 3) : ∃ u, exec .commitPoint s = .next u ∧ u.staged = s.staged ∧
      ∀ k, u.raw k &&& keyMask k = (mget (fun _ => none) s.snapshot k).getD (s.raw k) &&& keyMask k := by
  rcases exec_commitPoint_cases hc hp with hu | ⟨o, hu⟩
  · exact ⟨_, hu, State.commitPoint_staged hc hp, (State.commitPoint_settings h hl hc hp).2⟩
  · have hz := same_stampZero s o
    have hset := settings_stampZero h o
    have hsnap := hz.snapshot rfl
    have hcommit := (hz.commit rfl).trans hc
    obtain ⟨hok, hraw⟩ := State.commitPoint_settings hset.1 (hsnap ▸ hl) hcommit hp
    refine ⟨_, hu, ?_, fun k => ?_⟩
    · rw [(same_originPoint _).staged rfl, State.commitPoint_staged hcommit hp, hz.staged rfl]
    · rw [(settings_originPoint hok).2 k, hraw k, hsnap]
      cases mget (fun _ => none) s.snapshot k with
      | none => exact hset.2 k
      | some w => rfl

end Sys2Proof.Machine

/-!
SUPPORT. Writes of settings while a commit runs (R25), and the epoch's pair of registers (R28).
-/
namespace Sys2Proof.Machine
variable {s : State} {r : Reg} {i value : Nat}

/-! ### A write of a register with RWE fields -/

/-- Of the registers with RWE fields, SL_PWR and MB_PERM[0] alone are requests to their unit. -/
theorem State.requestWrite_of_rwe : r.accMask .rwe ≠ 0 →
    s.requestWrite r i value = none ∨ r = .SL_PWR ∨ r = .MB_PERM ∧ i = 0 := by
  unfold State.requestWrite
  split
  case h_16 => exact fun _ => .inr (.inl rfl)
  case h_23 =>
    intro _
    split
    case isTrue h0 => exact .inr (.inr ⟨rfl, h0⟩)
    case isFalse => exact .inl rfl
  case h_25 => exact fun _ => .inl rfl
  all_goals exact fun hm => absurd (by decide) hm

theorem rwe_apart :
    ((List.range 274).all fun k => (Reg.ofNat k).accMask .rwe &&&
      ((Reg.ofNat k).accMask .rw ||| (Reg.ofNat k).accMask .w1c ||| (Reg.ofNat k).accMask .w1s) == 0) = true := by
  decide +kernel

/-- No bit is both a setting and written at once. -/
theorem Reg.rwe_and_immediate (r : Reg) : r.accMask .rwe &&& (r.accMask .rw ||| r.accMask .w1c ||| r.accMask .w1s) = 0 := by
  have hk := List.all_eq_true.1 rwe_apart r.ctorIdx (List.mem_range.2 r.ctorIdx_lt)
  rwa [Reg.ofNat_ctorIdx, beq_iff_eq] at hk

theorem writtenWord_and_rwe (old w : Word) : writtenWord r old w &&& r.accMask .rwe = old &&& r.accMask .rwe := by
  refine BitVec.eq_of_getLsbD_eq fun j h32 => ?_
  have hj := congrArg (BitVec.getLsbD · j) r.rwe_and_immediate
  unfold writtenWord
  simp only [BitVec.getLsbD_and, BitVec.getLsbD_or, BitVec.getLsbD_not, BitVec.ofNat_eq_ofNat, BitVec.getLsbD_zero] at hj ⊢
  cases hm : (r.accMask .rwe).getLsbD j with
  | false => simp
  | true =>
    simp only [hm, Bool.true_and, Bool.or_eq_false_iff] at hj
    obtain ⟨⟨hrw, hc⟩, hs⟩ := hj
    simp only [hrw, hc, hs, h32, decide_true, Bool.and_false, Bool.not_false, Bool.and_true, Bool.or_false]

theorem settings_writtenNow (h : s.regsOk) : SettingsAs s (s.writtenNow r i value) := by
  unfold State.writtenNow
  split
  · exact .refl h
  · exact (SettingsAs.refl h).wr (writtenWord_and_rwe ..)

theorem settings_writeTxHold (h : s.regsOk) (g v : Nat) : SettingsAs s (s.writeTxHold g v) := by
  have hset := (SettingsAs.refl h).setF (F := Fld.SL_PWR_TX_HOLD) (by decide) (by decide) g v
  unfold State.writeTxHold
  dsimp only
  split
  · exact State.exitTx_inv (clo_settings s rfl rfl rfl (by decide +kernel)) hset
  · exact State.txPower_inv (clo_settings s rfl rfl rfl (by decide +kernel)) hset

theorem same_writeTxHold (s : State) (g v : Nat) :
    Same 0x1e020000000600004804c40c000000000000000000000000000000000000000203a s (s.writeTxHold g v) :=
  State.writeTxHold_inv (clo_same s rfl) (.refl _ s)

/-- A write in state s stages w under a key, in u: nothing else staged changes, nor the snapshot, the commit, or a setting. -/
structure StagesOnly (s u : State) (key : Nat) (w : Word) : Prop where
  staged : u.staged = mput (fun _ => none) s.staged key (some w)
  snapshot : u.snapshot = s.snapshot
  commit : u.commit = s.commit
  settings : SettingsAs s u

theorem stagesOnly_plainWrite (h : s.regsOk) (hm : r.accMask .rwe ≠ 0) :
    StagesOnly s (s.plainWrite r i value) (s.stageKey r i) (rweWord r value) := by
  have heq : s.plainWrite r i value = (s.writtenNow r i value).stage (s.stageKey r i) (rweWord r value) := by
    rw [State.plainWrite_eq, ← State.stageKey_writtenNow h (value := value)]
    exact if_neg hm
  have hsame : Same 0 s (s.writtenNow r i value) := by
    unfold State.writtenNow
    split
    · exact .refl _ s
    · exact { Same.refl 0 s with }
  rw [heq]
  exact ⟨congrArg (mput _ · _ _) (hsame.staged rfl), hsame.snapshot rfl, hsame.commit rfl, settings_writtenNow h⟩

/-- SL_PWR is a request for its holds; its settings are staged all the same. -/
theorem stagesOnly_writePower (h : s.regsOk) :
    StagesOnly s (s.regWrite .SL_PWR i value) (s.stageKey .SL_PWR i) (rweWord .SL_PWR value) := by
  let t := s.setF Fld.SL_PWR_RX_HOLD i (bits value 29 28)
  let v := t.stage (t.stageKey .SL_PWR i) (rweWord .SL_PWR value)
  have ht : SettingsAs s v := (SettingsAs.refl h).setF (F := Fld.SL_PWR_RX_HOLD) (by decide) (by decide) i _
  have hw := same_writeTxHold v i (bits value 31 30)
  exact ⟨hw.staged rfl, hw.snapshot rfl, hw.commit rfl, ht.trans (settings_writeTxHold ht.1 ..)⟩

theorem stagesOnly_regWrite (h : s.regsOk) (hm : r.accMask .rwe ≠ 0) (hp : ¬(r = .MB_PERM ∧ i = 0)) :
    StagesOnly s (s.regWrite r i value) (s.stageKey r i) (rweWord r value) := by
  rcases State.requestWrite_of_rwe (s := s) (i := i) (value := value) hm with hn | rfl | hperm
  · rw [State.regWrite_of_no_request hn]
    exact stagesOnly_plainWrite h hm
  · exact stagesOnly_writePower h
  · exact absurd hperm hp

/-- Settles O8: a write stages, which touches no snapshot; the commit point takes the snapshot, which touches nothing staged. -/
theorem writesAfterTheSnapshotAreStaged : Obligations.WritesAfterTheSnapshotAreStaged := by
  intro s c hs ht hc
  refine ⟨fun off value r i hcause hoff hm hp => ?_, fun hphase => exec_commitPoint_settings hs.regs ht.snapshot hc hphase⟩
  have hw : StagesOnly s (s.regWrite r i value) (s.stageKey r i) (rweWord r value) := stagesOnly_regWrite hs.regs hm hp
  refine ⟨_, exec_registerWrite hcause hoff, ?_, fun k hk => ?_, hw.snapshot, hw.commit, hw.settings.rd r i⟩
  · rw [hw.staged, mget_mput_same ht.staged]
    rfl
  · rw [hw.staged, mget_mput_ne ht.staged hk]

/-! ### The pair of the epoch -/

/-- A read of EP_EPOCH_HI shows the word that is latched. -/
theorem exec_readClear_epochHigh (v : State) : ∃ w, exec (.readClear (Reg.addr .EP_EPOCH_HI 0)) v = .next w ∧
    w.mail.csrOut = v.latched .EP_EPOCH_HI 0 := by
  refine ⟨v.csrShow (Reg.addr .EP_EPOCH_HI 0), rfl, ?_⟩
  rw [State.csrShow_of_offset (r := .EP_EPOCH_HI) (i := 0) (by decide +kernel) (Reg.atOffset_addr ..),
    State.regRead_of_ne_peek (by decide) (by decide), State.plainRead_of_shown (latchPair_epoch.high v)]
  rfl

theorem low_add_high (n : Nat) : (BitVec.ofNat 32 n).toNat + 2 ^ 32 * (BitVec.ofNat 32 (n / 2 ^ 32)).toNat = n % 2 ^ 64 := by
  rw [BitVec.toNat_ofNat, BitVec.toNat_ofNat]
  omega

/-- Settles O9: the high word is latched with the low one, and no phase of a commit latches. -/
theorem theEpochPairIsConsistent : Obligations.TheEpochPairIsConsistent := by
  refine ⟨fun s hs => ⟨_, latchPair_epoch.exec_read, rfl, fun v hv => ?_⟩, fun c v w hc h => ?_, fun s c hc hp => exec_commitPoint_epoch hc hp⟩
  · obtain ⟨w, hw, hout⟩ := exec_readClear_epochHigh v
    refine ⟨w, hw, ?_⟩
    have hlatched : v.latched .EP_EPOCH_HI 0 = BitVec.ofNat 32 (s.epoch / 2 ^ 32) := by
      rw [State.latched, hv]
      exact mget_mput_same hs.latch _ _
    rw [hout, hlatched]
    exact low_add_high s.epoch
  · have hn : latches c = false := by
      rcases hc with ⟨h, rfl⟩ | hc
      · rfl
      · fin_cases hc <;> rfl
    have hm := kinds_of_not_latches hn
    exact (exec_same h (testBit_of_land_eq_zero hm rfl)).latch (testBit_of_land_eq_zero hm rfl)

end Sys2Proof.Machine

/-!
SUPPORT. Where the statement on the phases of a commit fails: the commit of an origin sequence waits for every plane-0 load
of the profile (R357, R420), and so for one that itself still waits for the profile's stores.
-/
namespace Sys2Proof.Machine
variable {s : State} {c : Commit}

/-- The reset state has no entry in any table of its units. -/
theorem State.tables_reset : State.reset.tables := by
  constructor <;> intros <;> rfl

/-- A freeze that has loads to wait for leaves the state as it is. -/
theorem exec_commitFreeze_of_loads (hc : s.commit = some c) (hp : c.phase = 1) (hi : c.inner = 1 ∨ c.inner = 4)
    (hl : s.boot.loads ≠ []) : exec .commitFreeze s = .next s := by
  have hexec : exec .commitFreeze s = .next s.epochFreeze := rfl
  rw [hexec, State.epochFreeze]
  simp only [hc]
  rw [if_pos ⟨hi, hp⟩, if_pos (.inl (by simpa using hl))]

/-! ### Settings that pass validation -/

/-- Group g with a main tap and with raw rings that do not overlap, as R10 asks of a profile. -/
def State.groupSet (s : State) (g : Nat) : State :=
  ((s.setF Fld.SL_TXEQ_C0 g 32).setF Fld.SL_RAW_RING_LOG2N g 2).setF Fld.SL_RAW_RING_RXBASE g 1

/-- The reset state with the settings of every group in effect. -/
def groupsSet : State := State.reset.each (List.range 16) State.groupSet

/-- The commit of an origin sequence, at its start, while a load of room 0 waits for the profile's stores. -/
def originWaits : State :=
  { State.reset with
    regs := groupsSet.regs
    commit := some { phase := 1, inner := 4, cmd := none }
    boot := { loads := [(0, 0)] } }

theorem groupSet_keeps_route {t : State} {g m : Nat} (h : t.regsOk ∧ t.rd .CO_ROUTE m = 0) :
    (t.groupSet g).regsOk ∧ (t.groupSet g).rd .CO_ROUTE m = 0 := by
  obtain ⟨hok, hrd⟩ := h
  have h1 := State.regsOk_setF hok Fld.SL_TXEQ_C0 g 32
  have h2 := State.regsOk_setF h1 Fld.SL_RAW_RING_LOG2N g 2
  refine ⟨State.regsOk_setF h2 .., ?_⟩
  rw [State.groupSet, State.rd_setF_ne h2 (by decide), State.rd_setF_ne h1 (by decide), State.rd_setF_ne hok (by decide), hrd]

theorem regDefault_route (m : Nat) : regDefault (Reg.addr .CO_ROUTE m) = 0 := by
  unfold regDefault
  rw [Reg.atOffset_addr]
  show Reg.reset .CO_ROUTE = 0
  decide

theorem groupsSet_route (m : Nat) : groupsSet.regsOk ∧ groupsSet.rd .CO_ROUTE m = 0 :=
  foldl_p (Q := fun t : State => t.regsOk ∧ t.rd .CO_ROUTE m = 0) (fun _ _ => groupSet_keeps_route)
    ⟨State.canon_reset.regs, regDefault_route m⟩

theorem originWaits_route (m : Nat) : originWaits.rd .CO_ROUTE m = 0 := by
  have h := (groupsSet_route m).2
  rw [State.rd, State.raw] at h
  exact h

theorem originWaits_canon : originWaits.canon := { State.canon_reset with regs := (groupsSet_route 0).1 }

theorem originWaits_tables : originWaits.tables := { State.tables_reset with }

theorem originWaits_valid : originWaits.validSet originWaits.snapshot = true := by
  have hroutes : ((List.range 1024).all fun m => originWaits.f Fld.CO_ROUTE_VALID m = 0 || (m != originWaits.node &&
      !(originWaits.f Fld.CO_ROUTE_KIND m = 1 && originWaits.f Fld.SL_CFG_RAW (originWaits.f Fld.CO_ROUTE_INDEX m) = 1))) = true := by
    refine List.all_eq_true.2 fun m _ => ?_
    have hv : originWaits.f Fld.CO_ROUTE_VALID m = 0 := congrArg Fld.CO_ROUTE_VALID.get (originWaits_route m)
    rw [hv]
    rfl
  have hrest : ((List.range 32).all originWaits.windowOk && ((List.range 32).all fun r => originWaits.rangeOkIn originWaits r) &&
      originWaits.schedOkIn originWaits && originWaits.f Fld.RP_CFG_ARM = 0 && originWaits.profileSet) = true := by
    decide +kernel
  simp only [Bool.and_eq_true, decide_eq_true_eq] at hrest
  obtain ⟨⟨⟨⟨hwin, hrange⟩, hsched⟩, harm⟩, hprof⟩ := hrest
  have htake : originWaits.takeSet originWaits.snapshot = originWaits := rfl
  have hsnap : originWaits.snapshot = [] := rfl
  unfold State.validSet
  rw [htake, hsnap]
  simp only [List.all_nil, hroutes, hwin, hrange, hsched, harm, hprof, decide_true, Bool.true_or, Bool.and_true]

/-- Refutes O56: of a commit of an origin sequence the statement asks only that no room loads. Where a load still waits for the
profile's stores, the freeze waits too, and nothing is frozen. -/
theorem not_epochCommitRunsItsPhases : ¬ Obligations.EpochCommitRunsItsPhases := by
  intro h
  obtain ⟨-, -, hfreeze, -⟩ := h originWaits originWaits_canon originWaits_tables
  obtain ⟨hvalid, -⟩ := hfreeze _ rfl rfl
  obtain ⟨u, hu, hfrozen, -⟩ := hvalid (.inl (by decide)) originWaits_valid (by decide)
  have hwaits : exec .commitFreeze originWaits = .next originWaits :=
    exec_commitFreeze_of_loads rfl rfl (.inr rfl) (List.cons_ne_nil _ _)
  have hus : originWaits = u := Host.Outcome.next.inj (hwaits.symm.trans hu)
  rw [← hus] at hfrozen
  exact absurd hfrozen (by decide +kernel)

end Sys2Proof.Machine

/-!
SUPPORT. Where the statement on the foundation reset fails: at the hold, a room that stops at its edge keeps the switch that was
accepted for that edge as a pending switch, and RM_PLANE shows it (R57, R67).
-/
namespace Sys2Proof.Machine
variable {s : State}

/-! ### What the hold leaves of RM_PLANE -/

/-- A fold of register writes leaves each offset that g keeps with the word that the list gives it. -/
theorem State.raw_foldl_setRaw {g : Nat → Word → Word} {k : Nat} (hg : ∀ w, g k w = w) :
    ∀ {l : SMap Word} {d : Nat → Word} {lo : Nat} {s : State}, mwfFrom regDefault lo l = true → s.regsOk → s.raw k = d k →
      (l.foldl (fun s (e : Nat × Word) => s.setRaw e.1 (g e.1 e.2)) s).regsOk ∧
        (l.foldl (fun s (e : Nat × Word) => s.setRaw e.1 (g e.1 e.2)) s).raw k = mget d l k
  | [], d, lo, s, _, hs, hd => ⟨hs, hd⟩
  | (k', v) :: t, d, lo, s, hl, hs, hd => by
    simp only [mwfFrom, Bool.and_eq_true] at hl
    have hrest := mwfFrom_le hl.2
    have hstep := State.regsOk_setRaw hs k' (g k' v)
    have hraw := State.raw_setRaw hs k' (g k' v) k
    rcases Nat.lt_trichotomy k' k with hlt | rfl | hgt
    · rw [if_neg (by omega)] at hraw
      rw [mget, if_neg (by omega), if_neg (by omega)]
      exact raw_foldl_setRaw hg hl.2 hstep (hraw.trans hd)
    · rw [if_pos rfl] at hraw
      have htail := raw_foldl_setRaw (d := fun _ => v) hg hl.2 hstep (hraw.trans (hg v))
      rw [mget_of_lt hrest] at htail
      rwa [mget, if_pos rfl]
    · rw [if_neg (by omega)] at hraw
      rw [mget, if_neg (by omega), if_pos hgt, ← mget_of_lt (d := d) fun e he => by have := hrest e he; omega]
      exact raw_foldl_setRaw hg hl.2 hstep (hraw.trans hd)

theorem rmKeeps_of_kept {r : Reg} (hr : rmKept.contains r = true) (i : Nat) (w : Word) : rmKeeps (r.addr i) w = w := by
  unfold rmKeeps
  rw [Reg.atOffset_addr]
  exact if_pos hr

/-- The reset of the register blocks keeps the RM registers that R355 names. -/
theorem State.rd_resetBlocks (h : s.regsOk) {r : Reg} (hr : rmKept.contains r = true) {i : Nat} (hlo : 0x300000 ≤ r.addr i)
    (hhi : r.addr i < 0x400000) : s.resetBlocks.regsOk ∧ s.resetBlocks.rd r i = s.rd r i := by
  have hdropped : mget regDefault (dropRegs s.regs 0x300000 0x800000) (r.addr i) = regDefault (r.addr i) :=
    (mget_mclear h ..).trans (if_pos ⟨hlo, by omega⟩)
  have hlisted := mget_filter (fun k => decide (0x300000 ≤ k) && decide (k < 0x400000)) (r.addr i) h
  rw [if_pos (by simp [hlo, hhi])] at hlisted
  obtain ⟨hok, hraw⟩ := State.raw_foldl_setRaw (g := rmKeeps) (rmKeeps_of_kept hr i) (d := regDefault)
    (s := { s with
      latch := dropRegs s.latch 0x300000 0x800000
      regs := dropRegs s.regs 0x300000 0x800000
      staged := dropStaged (dropStaged s.staged 0x300000 0x800000) (tplKey 0 0) (locKey 4096 0) })
    (mwf_filter (fun e => decide (0x300000 ≤ e.1) && decide (e.1 < 0x400000)) h) (mwf_mclear _ _ h) hdropped
  exact ⟨hok, hraw.trans hlisted⟩

/-- Where no load has ended, the loads' ends change nothing. -/
theorem State.schedLoads_of_none (h : s.sched.loadsDone = []) : s.schedLoads = s.updSched fun q => { q with loadsDone := [] } := by
  unfold State.schedLoads
  rw [h]
  rfl

/-- What the hold does once the rooms' edges are over, the ends of loads apart. -/
def State.resetDomain (s : State) : State :=
  let s := s.each engines256 fun s e => (s.stopEngine e).updEng e fun g => { g with tags := [], cycles := 0 }
  let states := engines256.map s.engState
  let s := s.resetSched.resetBlocks
  let s := s.each engines256 fun s e => s.setF Fld.DE_STATE_STATE e (nth states e)
  s.each links32 State.resetLink

theorem State.holdFoundation_eq : s.holdFoundation =
    ((s.each rooms128 State.edgeOver).schedLoads.updNet fun n => { n with send := [] }).resetDomain := rfl

theorem State.plane_resetDomain {n : Nat} (h : s.regsOk) (hlo : 0x300000 ≤ Reg.addr .RM_PLANE n)
    (hhi : Reg.addr .RM_PLANE n < 0x400000) : s.resetDomain.rd .RM_PLANE n = s.rd .RM_PLANE n := by
  have keeps (t : State) : Clo 0x60000000040040413000000000000000000000000000000000003818
      fun u => u.regsOk ∧ u.rd .RM_PLANE n = t.rd .RM_PLANE n := clo_rd t .RM_PLANE n rfl rfl rfl
  let t1 := s.each engines256 fun s e => (s.stopEngine e).updEng e fun g => { g with tags := [], cycles := 0 }
  let t2 := t1.resetSched
  let t3 := t2.resetBlocks.each engines256 fun s e => s.setF Fld.DE_STATE_STATE e (nth (engines256.map t1.engState) e)
  have h1 : t1.regsOk ∧ t1.rd .RM_PLANE n = s.rd .RM_PLANE n :=
    State.each_inv ((keeps s).mono rfl) ⟨h, rfl⟩ fun _ _ k => (keeps s).updEng rfl _ _ (State.stopEngine_inv ((keeps s).mono rfl) k)
  have h2 : t2.regsOk ∧ t2.rd .RM_PLANE n = t1.rd .RM_PLANE n := State.resetSched_inv ((keeps t1).mono rfl) ⟨h1.1, rfl⟩
  have hblocks := State.rd_resetBlocks h2.1 (r := .RM_PLANE) rfl hlo hhi
  have h3 : t3.regsOk ∧ t3.rd .RM_PLANE n = t2.resetBlocks.rd .RM_PLANE n :=
    State.each_inv ((keeps _).mono rfl) ⟨hblocks.1, rfl⟩ fun _ _ k =>
      ⟨State.regsOk_setF k.1 .., (State.rd_setF_ne k.1 (by decide) ..).trans k.2⟩
  have h4 : s.resetDomain.regsOk ∧ s.resetDomain.rd .RM_PLANE n = t3.rd .RM_PLANE n :=
    State.each_inv ((keeps t3).mono rfl) ⟨h3.1, rfl⟩ fun _ _ => State.resetLink_inv ((keeps t3).mono rfl)
  rw [h4.2, h3.2, hblocks.2, h2.2, h1.2]

/-- Of what the hold does, only the rooms' edges can change RM_PLANE where no load of the scheduler has ended. -/
theorem State.plane_holdFoundation {n : Nat} (h : s.canon) (hl : s.sched.loadsDone = []) (hlo : 0x300000 ≤ Reg.addr .RM_PLANE n)
    (hhi : Reg.addr .RM_PLANE n < 0x400000) : s.holdFoundation.rd .RM_PLANE n = (s.each rooms128 State.edgeOver).rd .RM_PLANE n := by
  have hcanon := State.each_inv ((clo_canon s.pending 0x140000000000000000000000040).mono rfl) ⟨h, rfl⟩
    (l := rooms128) (f := State.edgeOver) fun _ _ => State.edgeOver_inv (clo_canon s.pending _)
  have hsame : Same 0x140000000000000000000000040 s (s.each rooms128 State.edgeOver) :=
    State.each_inv ((clo_same s rfl).mono rfl) (Same.refl _ s) fun _ _ => State.edgeOver_inv (clo_same s rfl)
  rw [State.holdFoundation_eq]
  generalize s.each rooms128 State.edgeOver = t at hcanon hsame
  rw [State.schedLoads_of_none (by rw [hsame.sched rfl, hl])]
  exact State.plane_resetDomain hcanon.1.regs hlo hhi

/-- The registers after the hold are those that the units' hold leaves. -/
theorem rd_of_exec_foundationResetHold {u : State} {r : Reg} {i : Nat} (hp : s.boot.frPhase = 3)
    (hu : exec .foundationResetHold s = .next u) : u.rd r i = s.holdFoundation.rd r i := by
  have hexec : exec .foundationResetHold s = .next (if s.boot.frPhase = 3 then
      s.holdFoundation.updBoot fun b => { b with frPhase := 4 } else s) := rfl
  rw [if_pos hp] at hexec
  cases Host.Outcome.next.inj (hexec.symm.trans hu)
  generalize s.holdFoundation = t
  rfl

/-! ### A switch that is accepted for the edge at which a room stops -/

/-- At the hold: room 0 runs, freezes at its next edge, and has accepted a switch to plane 1 for that edge. -/
def switchHeld : State :=
  { State.reset with
    boot := { frPhase := 3 }
    rooms := [(0, { toStop := 3, sw := some (1, .reg) })]
    regs := [(Reg.RM_STATUS.addr 0, 0)] }

theorem switchHeld_canon : switchHeld.canon :=
  { State.canon_reset with regs := by decide +kernel, rooms := by decide +kernel }

/-- Its one room holds no table entry either. -/
theorem switchHeld_room_planes (n : Nat) : (switchHeld.room n).planes = [] := by
  have hroom : switchHeld.room n = if 0 = n then { toStop := 3, sw := some (1, .reg) } else {} := by
    show mget _ [(0, _)] n = _
    simp only [mget, ite_self]
  rw [hroom]
  split <;> rfl

theorem switchHeld_tables : switchHeld.tables :=
  { State.tables_reset with
    planes := fun n => by rw [switchHeld_room_planes]; rfl
    slots := fun n p => by rw [State.plane, Room.plane, switchHeld_room_planes]; rfl
    mults := fun n p => by rw [State.plane, Room.plane, switchHeld_room_planes]; rfl }

theorem switchHeld_edges : (switchHeld.each rooms128 State.edgeOver).rd .RM_PLANE 0 ≠ switchHeld.rd .RM_PLANE 0 := by
  decide +kernel

/-- Refutes O57: the statement has the hold leave RM_PLANE as it was. A switch that a room had accepted for the edge at which it
stops is held from there on, and RM_PLANE then shows it pending. -/
theorem not_foundationResetAndRecovery : ¬ Obligations.FoundationResetAndRecovery := by
  intro h
  obtain ⟨-, -, -, -, -, hhold, -⟩ := h switchHeld switchHeld_canon switchHeld_tables
  obtain ⟨u, hu, -, -, -, hkept, -⟩ := hhold rfl
  have hplane := rd_of_exec_foundationResetHold (r := .RM_PLANE) (i := 0) rfl hu
  have hedges := State.plane_holdFoundation (n := 0) switchHeld_canon rfl (by decide) (by decide)
  exact switchHeld_edges (hedges.symm.trans (hplane.symm.trans (hkept .RM_PLANE 0 (List.mem_cons_self ..))))

end Sys2Proof.Machine

/-!
SUPPORT. Where the statement on row moves fails: its hypotheses leave out the safe state, in which the row port of a room that
still runs to its next edge samples nothing (R67).
-/
namespace Sys2Proof.Machine

/-- A read of bank 0 that was launched without permission. -/
def strandedRead : RowReq := { bank := 0, row := 0, write := false, permitted := false }
/-- Room 0 when the safe state has just begun: it runs until its next edge, at which it is STOPPED, and a row move waits. -/
def strandedRoom : Room := { toStop := 4, planes := [(0, { rowQ := [strandedRead] })] }
def safeBeforeEdge : State :=
  { State.reset with
    regs := [(Reg.addr .HK_STATUS 0, 16), (Reg.addr .RM_PLANE 0, 0), (Reg.addr .RM_STATUS 0, 0)]
    rooms := [(0, strandedRoom)] }

theorem safeBeforeEdge_canon : safeBeforeEdge.canon :=
  { State.canon_reset with regs := by decide +kernel, rooms := by decide +kernel }

theorem safeBeforeEdge_room (n : Nat) : safeBeforeEdge.room n = if n = 0 then strandedRoom else {} := by
  cases n <;> rfl

theorem safeBeforeEdge_plane (n p : Nat) :
    safeBeforeEdge.plane n p = if n = 0 ∧ p = 0 then { rowQ := [strandedRead] } else {} := by
  cases n <;> cases p <;> rfl

theorem safeBeforeEdge_tables : safeBeforeEdge.tables :=
  { State.tables_reset with
    planes := fun n => by rw [safeBeforeEdge_room]; split <;> decide
    slots := fun n p => by rw [safeBeforeEdge_plane]; split <;> rfl
    mults := fun n p => by rw [safeBeforeEdge_plane]; split <;> rfl }

/-- A row port that is stopped leaves every row move where it is. -/
theorem exec_rowMove_of_portStopped {s : State} {n : Nat} {l : List Crossing} (h : s.portStopped n = true) :
    exec (.rowMove n l) s = .next s := by
  have hexec : exec (.rowMove n l) s = .next (s.rowMove n l) := rfl
  rw [hexec, State.rowMove, if_pos (by rw [h]; rfl)]

/-- Refutes O23: in the safe state a room runs on to its next edge, and its row port samples nothing any more, so that the move at
the head of its active plane's queue stays there. -/
theorem not_rowMovesReachTheBank : ¬ Obligations.RowMovesReachTheBank := by
  intro h
  obtain ⟨-, hmove⟩ := h safeBeforeEdge 0 0 safeBeforeEdge_canon safeBeforeEdge_tables (by decide) (by decide +kernel) (by decide +kernel)
  obtain ⟨-, hrefused⟩ := hmove strandedRead [] rfl (by decide) rfl rfl (by decide +kernel)
    (fun q _ hq => by rw [safeBeforeEdge_plane, if_neg (by omega)]) (by decide +kernel) (by decide +kernel) (by decide)
  obtain ⟨u, hu, hqueue, -⟩ := hrefused rfl
  cases Host.Outcome.next.inj ((exec_rowMove_of_portStopped (by decide +kernel)).symm.trans hu)
  cases hqueue

end Sys2Proof.Machine

/-!
SUPPORT. Where the statement on loads fails: the eviction at the acceptance (Table 08-7) reads the task's descriptor, and one that
the check bits cannot correct is a books fault (R39); the safe state then ends the load that was just accepted (R65).
-/
namespace Sys2Proof.Machine
variable {s : State} {P : State → Prop}

/-! ### The safe state after the loads have ended -/

/-- What the units do at the safe state once the loads have ended leaves RM_LOAD_STATUS alone. -/
theorem State.stopUnits_keeps (c : Clo 0x1e0304400710000040004004041300000000021c140201000000000000000003ffa P)
    (k : P (s.each rooms128 State.abandonLoad)) : P s.stopUnits := by
  unfold State.stopUnits
  refine c.setF rfl (c.setF rfl (State.each_inv (c.mono rfl) (State.each_inv (c.mono rfl) (State.each_inv (c.mono rfl)
    (State.each_inv (c.mono rfl) (State.each_inv (c.mono rfl) (State.each_inv (c.mono rfl) (State.each_inv (c.mono rfl) k
      fun t n h => ?windows) fun t n h => ?slices) fun t n h => ?rooms) fun t b h => ?banks) fun t e h => ?engines)
      fun t k h => ?links) fun t k h => ?flits))
  case windows => exact State.abandonWindow_inv (c.mono rfl) h
  case slices => exact State.restoreSlice_inv (c.mono rfl) h
  case rooms =>
    split
    · exact State.stopAtEdge_inv (c.mono rfl) h
    · split
      · exact c.setF rfl h
      · exact h
  case banks => exact State.retain_inv (c.mono rfl) h
  case engines => exact State.stopEngine_inv (c.mono rfl) h
  case links =>
    have hdown : P (if t.linkState k = 0 then t else (t.setLinkState k (downHeld k)).endLinkCmds k (· == 2) 0 []) :=
      ite_p (fun _ => h) fun _ => State.endLinkCmds_inv (c.mono rfl) (State.setLinkState_inv (c.mono rfl) h)
    exact ite_p (fun _ => c.setF rfl hdown)
      fun _ => State.lanesOff_inv (c.mono rfl) (c.setF rfl (c.setF rfl (c.setF rfl hdown)))
  case flits => exact c.updLink rfl _ _ h

/-- The state in which the units stop. -/
def State.safeBegun (s : State) (status : Nat) : State :=
  let s := s.failCommit status
  let c := s.boot.resumeCmd
  let s := (s.updBoot fun b => { b with resumeCmd := none, frPhase := if b.frPhase = 5 then 0 else b.frPhase }).respondTo c 7 []
  let s := (s.setF Fld.HK_STATUS_SAFE 0 1).setF Fld.HK_STATUS_READY 0 0
  s.updBoot fun b => { b with faultN := true, safeN := true, inSafePending := none }

theorem State.enterSafe_eq (cause data status : Nat) (hsafe : s.safe = false) (hpast : s.pastCommitPoint = false) :
    s.enterSafe cause data status =
      ((s.safeBegun status).stopUnits.safeRecord cause).event 0x0002 0 (cause + 2 ^ 32 * data) := by
  rw [State.enterSafe, hsafe, hpast]
  rfl

theorem State.safeBegun_inv (c : Clo 0x200000000000000000000000000000000000000000001008000000004000a85c P) (k : P s) {status : Nat} :
    P (s.safeBegun status) := by
  unfold State.safeBegun
  exact State.updBoot_inv (c.mono rfl) (c.setF rfl (c.setF rfl (State.respondTo_inv (c.mono rfl)
    (State.updBoot_inv (c.mono rfl) (State.failCommit_inv (c.mono rfl) k)))))

/-- RM_LOAD_STATUS in the safe state: what the ends of the loads left. -/
theorem State.loadStatus_enterSafe (h : s.canon) (cause data status n : Nat) (hsafe : s.safe = false)
    (hpast : s.pastCommitPoint = false) : (s.enterSafe cause data status).rd .RM_LOAD_STATUS n =
      ((s.safeBegun status).each rooms128 State.abandonLoad).rd .RM_LOAD_STATUS n := by
  let t := (s.safeBegun status).each rooms128 State.abandonLoad
  have ht : t.canon := (State.each_inv (clo_canon s.pending 0) (State.safeBegun_inv (clo_canon s.pending _) ⟨h, rfl⟩)
    fun _ _ => State.abandonLoad_inv (clo_canon s.pending _)).1
  have keeps : Clo 0x39f0304400710000040004004041300000000021c140201000004000000000003ffa
      fun u => u.regsOk ∧ u.rd .RM_LOAD_STATUS n = t.rd .RM_LOAD_STATUS n := clo_rd t .RM_LOAD_STATUS n rfl rfl rfl
  rw [State.enterSafe_eq cause data status hsafe hpast]
  exact (State.event_inv (keeps.mono rfl) (State.safeRecord_inv (keeps.mono rfl)
    (State.stopUnits_keeps (keeps.mono rfl) ⟨ht.regs, rfl⟩))).2

/-! ### An eviction that meets a bad descriptor -/

/-- The books fault of a descriptor that its check bits cannot correct (R39), at the return of the task on a plane. -/
theorem State.evict_of_descBad {n p i : Nat} (hi : s.inService (4 * n + p) = some i) (hb : s.descBad i = true) :
    s.evict n p = (s.booksFault 9 0 0).inc Fld.SC_EVICT_COUNT_COUNT 0 := by
  have hreturn : s.returnTask i = s.booksFault 9 0 0 := by
    rw [State.returnTask, if_pos (by rw [hb, Bool.true_or])]
  rw [State.evict, hi, ← hreturn]

/-- The fault registers that a books fault fills when it is the first. -/
def State.faultNoted (s : State) (book index : Nat) (delta : Int) : State :=
  (((s.setF Fld.EP_FAULT_BOOK_BOOK 0 book).setF Fld.EP_FAULT_BOOK_INDEX 0 index).setF Fld.EP_FAULT_DELTA_DELTA 0 (low 32 delta)).setF
    Fld.EP_STATUS_BOOKS_FAULT 0 1

theorem State.booksFault_eq {book index : Nat} {delta : Int} (h : s.f Fld.EP_STATUS_BOOKS_FAULT = 0) :
    s.booksFault book index delta = (s.faultNoted book index delta).enterSafe 1
      ((s.faultNoted book index delta).rd .EP_FAULT_BOOK 0).toNat 6 := by
  rw [State.booksFault, if_neg (by omega)]
  rfl

/-- Room 0 runs plane 0; plane 1, which a dispatch pre-empted, still has its task in service. The stored descriptor of that task
is poisoned. -/
def evictionFault : State :=
  { State.reset with
    regs := [(Reg.addr .LB_OWNER 0, 0), (Reg.addr .RM_PLANE 0, 0xA000), (Reg.addr .RM_STATUS 0, 0)]
    sched := { descs := [(1, { state := 4, worker := 1 })] }
    synd := [(2, poisonSyn)] }

theorem evictionFault_canon : evictionFault.canon :=
  { State.canon_reset with regs := by decide +kernel, synd := by decide }

theorem evictionFault_tables : evictionFault.tables := { State.tables_reset with descs := by decide }

/-- Row 0 of bank 0, which plane 0 of room 0 owns, is to become plane 1. -/
def loadPlane1 : Nat := 2 ^ 26

/-- The state in which the management processor's load has been accepted. -/
def loadAccepted : State := (evictionFault.askLoad 0 .mp loadPlane1 none none none).2

theorem loadAccepted_canon : loadAccepted.canon :=
  (State.askLoad_inv (clo_canon [] _) ⟨evictionFault_canon, rfl⟩ : _ ∧ _).1

theorem exec_load_evictionFault : exec (.load 0 .mp loadPlane1) evictionFault = .next (loadAccepted.evict 0 1) := by
  have hstatus : (evictionFault.askLoad 0 .mp loadPlane1 none none none).1 = 0 := by decide +kernel
  have hload : exec (.load 0 .mp loadPlane1) evictionFault = .next (if (evictionFault.askLoad 0 .mp loadPlane1 none none none).1 = 0 ∧
      LoadAgent.mp = .mp then (0, loadAccepted.evict 0 1) else evictionFault.askLoad 0 .mp loadPlane1 none none none).2 := rfl
  rw [hload, if_pos ⟨hstatus, rfl⟩]

/-- The load is no longer in service once the eviction is over. -/
theorem busy_evict_loadAccepted : (loadAccepted.evict 0 1).f Fld.RM_LOAD_STATUS_BUSY 0 = 0 := by
  have hi : loadAccepted.inService (4 * 0 + 1) = some 1 := by decide +kernel
  have hnoted : (loadAccepted.faultNoted 9 0 0).canon :=
    State.canon_setF (State.canon_setF (State.canon_setF (State.canon_setF loadAccepted_canon ..) ..) ..) ..
  have hsafe := (State.enterSafe_inv (clo_canon [] _) ⟨hnoted, rfl⟩ :
    ((loadAccepted.faultNoted 9 0 0).enterSafe 1 ((loadAccepted.faultNoted 9 0 0).rd .EP_FAULT_BOOK 0).toNat 6).canon ∧ _).1
  rw [State.evict_of_descBad hi (by decide +kernel), State.booksFault_eq (by decide +kernel), State.inc,
    State.f_setF_reg hsafe.regs (by decide)]
  show Fld.RM_LOAD_STATUS_BUSY.get (State.rd _ .RM_LOAD_STATUS 0) = 0
  rw [State.loadStatus_enterSafe hnoted _ _ _ _ (by decide +kernel) (by decide +kernel)]
  decide +kernel

/-- Refutes O26: the load of the management processor is accepted and then ends at once, because the eviction of the plane's task
meets a descriptor that the check bits cannot correct, and the books fault brings the safe state. -/
theorem not_loadsAreAccepted : ¬ Obligations.LoadsAreAccepted := by
  intro h
  obtain ⟨hload, -⟩ := h evictionFault 0 1 loadPlane1 .mp evictionFault_canon evictionFault_tables (by decide) (by decide +kernel)
    rfl rfl (by decide) (by decide +kernel)
  obtain ⟨⟨u, hu, ⟨hbusy, -⟩, -⟩, -⟩ := hload (by decide) (by decide +kernel) (by decide +kernel)
  cases Host.Outcome.next.inj (exec_load_evictionFault.symm.trans hu)
  exact absurd (busy_evict_loadAccepted.symm.trans hbusy) (by decide)

end Sys2Proof.Machine

/-!
SUPPORT. What the operations at a room's endpoint do: taking a packet, queueing an answer, a service access to the room RAM, and
bytes written to memory (R47, R54, R60, R149, R165).
-/
namespace Sys2Proof.Machine
variable {s s' : State} {n : Nat} {p : Packet}

/-! ### The corridor's tables -/

/-- A packet taken from an ejection buffer changes the buffers and their books alone. -/
theorem State.take_cases {ep vc : Nat} (h : s.take ep vc = some (p, s')) :
    ∃ bufs books, s' = { s with net := { s.net with bufs := bufs, books := books } } := by
  obtain ⟨k, -, hk⟩ := List.exists_of_findSome?_eq_some h
  split at hk
  · rw [Option.ite_none_right_eq_some] at hk
    obtain ⟨-, hk⟩ := hk
    cases hk
    exact ⟨_, _, rfl⟩
  · cases hk

theorem State.send_inject (h : mwf (fun _ => []) s.net.send = true) (ep : Nat) (p : Packet) :
    mget (fun _ => []) (s.inject ep p).net.send ep = mget (fun _ => []) s.net.send ep ++ [p] := mget_mput_same h ..

theorem State.outReq_setOut (h : mwf (fun _ => none) s.net.outReq = true) (k : Nat) (r : Option OutReq) :
    (s.setOut k r).outReq k = r := mget_mput_same h ..

/-! ### Rooms and planes -/

theorem State.room_updRoom_same (h : s.canon) (n : Nat) (g : Room → Room) : (s.updRoom n g).room n = g (s.room n) :=
  mget_mput_same h.rooms ..

theorem State.room_updRoom_ne (h : s.canon) {n m : Nat} (hm : m ≠ n) (g : Room → Room) : (s.updRoom n g).room m = s.room m :=
  mget_mput_ne h.rooms hm _

theorem State.plane_updPlane_same (h : s.canon) (hn : mwf (fun _ => ({} : Plane)) (s.room n).planes = true) (p : Nat)
    (g : Plane → Plane) : (s.updPlane n p g).plane n p = g (s.plane n p) := by
  rw [State.plane, State.updPlane, State.room_updRoom_same h]
  exact mget_mput_same hn ..

/-! ### Bytes written to memory -/

theorem State.byte_putBytes : ∀ (d : List Byte) {s : State}, Memory.wf s.mem = true → ∀ a k,
    (s.putBytes a d).byte k = if a ≤ k ∧ k < a + d.length then d.getD (k - a) 0 else s.byte k
  | [], _, _, a, k => by rw [State.putBytes, if_neg (by simp only [List.length_nil]; omega)]
  | b :: t, s, h, a, k => by
    rw [State.putBytes, State.byte_putBytes t (s := s.setByte a b) (mwf_mput _ _ h), State.byte_setByte h, List.length_cons]
    by_cases hk : k = a
    · subst hk
      rw [if_neg (by omega), if_pos rfl, if_pos (by omega), Nat.sub_self, List.getD_cons_zero]
    · rw [if_neg hk]
      by_cases hr : a + 1 ≤ k ∧ k < a + 1 + t.length
      · rw [if_pos hr, if_pos (by omega), show k - a = k - (a + 1) + 1 by omega, List.getD_cons_succ]
      · rw [if_neg hr, if_neg (by omega)]

/-- A row that no background slice holds lies at its own address. -/
theorem State.phys_of_above {a : Nat} (h : 2 ^ 32 ≤ a) : s.phys a = a := by
  rw [State.phys, if_neg (by omega)]

theorem wordsOf_aligned {a : Nat} (h : a % 32 = 0) : wordsOf a 31 = [(a, 0, 32)] := by
  have h1 : (a + 31) / 32 - a / 32 + 1 = 1 := by omega
  have h2 : a / 32 * 32 = a := by omega
  have h3 : a + 31 + 1 - a = 32 := by omega
  simp [wordsOf, h1, h2, h3]

/-- A write of one aligned, unpoisoned word above the lofts. -/
theorem State.writeSpanAs_word {a : Nat} {d : List Byte} (ha : a % 32 = 0) (hlo : 2 ^ 32 ≤ a) (hd : d.length = 32) (who : Agent) :
    s.writeSpanAs a d 0 who = (0, (s.putBytes a d).setSyn a 0) := by
  have hslice : slice d 0 32 = d := by simp [slice, ← hd]
  have hbase : a / 32 * 32 = a := by omega
  rw [State.writeSpanAs, hd, wordsOf_aligned ha]
  have hloft : ¬a < 0x100000000 := by omega
  simp [hslice, hloft, State.writeWord, hd, hbase, State.phys_of_above hlo, bit]

/-! ### Requests, dispatches and messages at the endpoint -/

/-- The first packet that need not wait is that of VC 0. -/
theorem State.endpoint_first (h : s.take n 0 = some (p, s')) (hw : s.rxWaits n p = false) :
    ([0, 2, 3].findSome? fun vc => (s.take n vc).filter fun x => !s.rxWaits n x.1) = some (p, s') := by
  simp [h, hw]

/-- A room-RAM access of a running room joins its queue. -/
theorem exec_endpointRequest_ram (h : s.take n 0 = some (p, s')) (hw : s.rxWaits n p = false) (hrun : s.roomState n = 0)
    (hgate : s.gateDraining 0 n = false) (hform : addrForm p.type = true) (haddr : p.addr % 0x100000 < 0x90000) :
    exec (.roomEndpointRequest n) s = .next (s'.updRoom n fun r => { r with ramQ := r.ramQ ++ [p] }) := by
  have hexec : exec (.roomEndpointRequest n) s = .next (s.endpointRequest n) := rfl
  rw [hexec, State.endpointRequest, State.endpoint_first h hw]
  simp only
  rw [if_pos hform, if_neg (by omega), if_neg (by rw [hrun, hgate]; simp)]

/-- A request for a resident plane joins its buffer, and the endpoint answers it. -/
theorem exec_endpointRequest_req (h : s.take n 0 = some (p, s')) (hw : s.rxWaits n p = false) (hrun : s.roomState n = 0)
    (hgate : s.gateDraining 0 n = false) (htype : p.type = 2) (hvc : p.vc = 0) (hres : 2 ≤ s.planeState n (p.dstPlane % 4))
    (hroom : (s.plane n (p.dstPlane % 4)).rxReq.length < 8) :
    exec (.roomEndpointRequest n) s = .next ((s'.updPlane n (p.dstPlane % 4) fun q => { q with rxReq := q.rxReq ++ [p] }).inject n
      (answer s p 4 n 0 [] 0 false)) := by
  have hexec : exec (.roomEndpointRequest n) s = .next (s.endpointRequest n) := rfl
  have hfull : (s.plane n (p.dstPlane % 4)).rxFull 0 = false := by simp [Plane.rxFull, hroom]
  have hform : addrForm p.type = false := by rw [htype]; rfl
  have hanswered : isAnswered p.type = true := by rw [htype]; rfl
  rw [hexec, State.endpointRequest, State.endpoint_first h hw]
  simp only [hform, hfull, hanswered, hvc]
  rw [if_neg (by decide), if_neg (by omega), if_neg (by rw [hrun, hgate]; simp), if_neg (by omega), if_neg (by decide)]
  rfl

/-! ### Service accesses to the room RAM -/

/-- The access at the head of the queue is performed when the logic leaves its ports free. -/
theorem exec_ramAccess_of_free {rest : List Packet} (hq : (s.room n).ramQ = p :: rest) (hrun : s.roomState n = 0)
    (hfree : ∀ q, s.active n = some q → s.portConflict n q p = false) :
    exec (.roomRamAccess n) s = .next ((s.updRoom n fun r => { r with ramQ := rest, ramBusy := 0 }).memAccess n p) := by
  have hexec : exec (.roomRamAccess n) s = .next (s.ramAccess n) := rfl
  have hgo : ∀ busy : Bool, busy = false → (if s.roomState n = 0 ∧ busy = true then s
      else let t := s.updRoom n fun r => { r with ramQ := rest, ramBusy := 0 }
        if t.roomState n ≠ 0 then t.refuse p n 5 else t.memAccess n p) =
      (s.updRoom n fun r => { r with ramQ := rest, ramBusy := 0 }).memAccess n p := by
    intro busy hbusy
    rw [if_neg (by simp [hbusy])]
    exact if_neg (not_not.2 hrun)
  rw [hexec, State.ramAccess, hq]
  refine congrArg _ (hgo _ ?_)
  split
  · exact hfree _ ‹_›
  · rfl

/-! ### Packets of a plane, and responses -/

/-- The packet that leaves when plane `q` of room `n` issues `k`. -/
def State.issuedBy (s : State) (n q : Nat) (k : Packet) : Packet :=
  { k with
    srcEp := n, srcNode := s.node, srcPlane := q, hops := s.f Fld.CO_CFG_HOP_LIMIT, status := 0, pstored := false,
    win := 0, entry := 0, exit := 0, base := 0, own := false, prot := none }

/-- The packets of a plane that wait in its transmit buffer. -/
def State.waitingOf (s : State) (n q : Nat) : List Packet :=
  (mget (fun _ => []) s.net.send n).filter fun k => k.srcPlane == q && !k.own && k.type != 3 && k.type != 4

theorem exec_corridorTransmit {q : Nat} {k : Packet} (hrun : s.roomState n = 0) (hq : s.active n = some q)
    (hw : (s.waitingOf n q).length < 2) (hk : isRequest k.type = false) :
    exec (.corridorTransmit n k) s = .next (s.inject n (s.issuedBy n q k)) := by
  have hexec : exec (.corridorTransmit n k) s = .next (s.transmit n k) := rfl
  rw [hexec, State.transmit, hq]
  refine congrArg _ ((if_neg ?_).trans (if_neg ?_))
  · exact fun h => h.elim (· hrun) fun h => absurd h (Nat.not_le.2 hw)
  · exact fun h => absurd (hk.symm.trans h) (by decide)

/-- A request takes its free tag and reserves its response slot. -/
theorem exec_corridorTransmit_request {q : Nat} {k : Packet} (hrun : s.roomState n = 0) (hq : s.active n = some q)
    (hw : (s.waitingOf n q).length < 2) (hk : isRequest k.type = true) (htag : k.tag < 64)
    (hslot : mget (fun _ => Slot.free) (s.plane n q).slots k.tag = .free) (hout : s.outReq (outKey n q k.tag) = none) :
    exec (.corridorTransmit n k) s = .next ((s.updPlane n q fun r =>
      { r with slots := mput (fun _ => .free) r.slots k.tag (.waiting false) }).request n (s.issuedBy n q k)) := by
  have hexec : exec (.corridorTransmit n k) s = .next (s.transmit n k) := rfl
  rw [hexec, State.transmit, hq]
  refine congrArg _ ((if_neg ?_).trans ((if_pos hk).trans (if_neg ?_)))
  · exact fun h => h.elim (· hrun) fun h => absurd h (Nat.not_le.2 hw)
  · rintro (h | h | h)
    · exact absurd h (Nat.not_le.2 htag)
    · exact h hslot
    · exact absurd h (by rw [show s.outReq _ = none from hout]; simp)

/-- A response finds its outstanding request, whose tag becomes free. -/
theorem State.matchRsp_of_awaited {r : OutReq} (hreq : s.outReq (outKey n p.dstPlane p.tag) = some r) (hexp : r.expired = false) :
    s.matchRsp n p = (some r, s.setOut (outKey n p.dstPlane p.tag) none) := by
  rw [State.matchRsp]
  simp only [hreq, hexp]
  rfl

theorem State.roomResponse_of_waiting (hp : p.dstPlane < 4)
    (hslot : mget (fun _ => Slot.free) (s.plane n p.dstPlane).slots p.tag = .waiting false) :
    s.roomResponse n p = s.updPlane n p.dstPlane fun q => { q with slots := mput (fun _ => .free) q.slots p.tag (.answered p) } := by
  rw [State.roomResponse, Nat.mod_eq_of_lt hp, hslot]

/-- A response that its request awaits goes into the slot of its tag. -/
theorem exec_responseArrival_of_awaited {r : OutReq} (hn : n < 128) (h : s.take n 1 = some (p, s'))
    (hreq : s.outReq (outKey n p.dstPlane p.tag) = some r) (hexp : r.expired = false) (hp : p.dstPlane < 4)
    (hslot : mget (fun _ => Slot.free) (s.plane n p.dstPlane).slots p.tag = .waiting false) :
    exec (.responseArrival n) s = .next ((s'.setOut (outKey n p.dstPlane p.tag) none).updPlane n p.dstPlane fun q =>
      { q with slots := mput (fun _ => .free) q.slots p.tag (.answered p) }) := by
  have hexec : exec (.responseArrival n) s = .next (s.responseArrives n) := rfl
  have htake : s'.outReq (outKey n p.dstPlane p.tag) = s.outReq (outKey n p.dstPlane p.tag) ∧ s'.rooms = s.rooms := by
    obtain ⟨bufs, books, rfl⟩ := State.take_cases h
    exact ⟨rfl, rfl⟩
  have hslot' : mget (fun _ => Slot.free) ((s'.setOut (outKey n p.dstPlane p.tag) none).plane n p.dstPlane).slots p.tag =
      .waiting false := by
    rw [← hslot, State.plane, State.plane, State.room, State.room, ← htake.2]
    rfl
  rw [hexec, State.responseArrives, if_pos hn, h]
  simp only
  rw [State.matchRsp_of_awaited (htake.1.trans hreq) hexp]
  simp only
  rw [State.roomResponse_of_waiting hp hslot']

/-! ### The statement on a room's endpoint -/

/-- A request for room RAM or for a plane's buffer. -/
theorem endpointRequest_clause (hc : s.canon) (ht : s.tables) (hrun : s.roomState n = 0) (h : s.take n 0 = some (p, s'))
    (hgate : s.gateDraining 0 n = false) (hw : s.rxWaits n p = false) :
    (addrForm p.type = true → p.addr % 0x100000 < 0x90000 →
      ∃ u, exec (.roomEndpointRequest n) s = .next u ∧ (u.room n).ramQ = (s.room n).ramQ ++ [p] ∧ u.mem = s.mem) ∧
    (p.type = 2 → p.vc = 0 → 2 ≤ s.planeState n (p.dstPlane % 4) → (s.plane n (p.dstPlane % 4)).rxReq.length < 8 →
      ∃ u, exec (.roomEndpointRequest n) s = .next u ∧
        (u.plane n (p.dstPlane % 4)).rxReq = (s.plane n (p.dstPlane % 4)).rxReq ++ [p] ∧
        mget (fun _ => []) u.net.send n = mget (fun _ => []) s.net.send n ++ [answer s p 4 n 0 [] 0 false]) := by
  obtain ⟨bufs, books, hs'⟩ := State.take_cases h
  have hc' : s'.canon := hs' ▸ { hc with }
  have hplanes : mwf (fun _ => ({} : Plane)) (s'.room n).planes = true := hs' ▸ ht.planes n
  constructor
  · intro hform haddr
    refine ⟨_, exec_endpointRequest_ram h hw hrun hgate hform haddr, ?_, ?_⟩
    · rw [State.room_updRoom_same hc', hs']
      rfl
    · rw [hs']
      rfl
  · intro htype hvc hres hroom
    refine ⟨_, exec_endpointRequest_req h hw hrun hgate htype hvc hres hroom, ?_, ?_⟩
    · show ((s'.updPlane n _ _).plane n _).rxReq = _
      rw [State.plane_updPlane_same hc' hplanes, hs']
      rfl
    · rw [State.send_inject (by rw [hs']; exact ht.send), hs']
      rfl

/-- What a READ at a room's endpoint leaves as it was. -/
theorem State.memAccess_read (h : p.type = 0) (ep : Nat) : ∃ (t : State) (d : List Byte) (m : Nat),
    s.memAccess ep p = t.inject ep (answer s p 3 ep 0 d m false) ∧ t.rooms = s.rooms ∧ t.net = s.net ∧ t.mem = s.mem := by
  have hsame : SndP (SndP (Same 0x1e020004031000000000000000000000000000000000000000000000000000002a2 s))
      (s.readSpan p.addr (p.len + 1) (s.agentOf p)) := State.readSpan_inv (clo_same s rfl) (Same.refl _ s)
  rw [State.memAccess, if_pos h]
  generalize s.readSpan p.addr (p.len + 1) (s.agentOf p) = x at hsame
  obtain ⟨d, m, t⟩ := x
  have ht : Same 0x1e020004031000000000000000000000000000000000000000000000000000002a2 s t := hsame
  exact ⟨t, d, m, rfl, ht.rooms rfl, ht.net rfl, ht.mem rfl⟩

/-- A WRITE of one aligned, unpoisoned word of the room RAM. -/
theorem State.memAccess_word (hm : Memory.wf s.mem = true) (h : p.type = 1) (hlo : 2 ^ 32 ≤ p.addr) (ha : p.addr % 32 = 0)
    (hd : p.payload.length = 32) (hp : p.poison = 0) (ep : Nat) : ∃ t : State,
    s.memAccess ep p = t.inject ep (answer s p 4 ep 0 [] 0 false) ∧ t.rooms = s.rooms ∧ t.net = s.net ∧
      ∀ a, t.byte a = if p.addr ≤ a ∧ a < p.addr + 32 then p.payload.getD (a - p.addr) 0 else s.byte a := by
  have hput : Same 0x400 s (s.putBytes p.addr p.payload) := State.putBytes_inv (clo_same _ rfl) (Same.refl _ _)
  refine ⟨(s.putBytes p.addr p.payload).setSyn p.addr 0, ?_, hput.rooms rfl, hput.net rfl, fun a => ?_⟩
  · rw [State.memAccess, if_neg (by omega), hp, State.writeSpanAs_word ha hlo hd]
    rfl
  · exact (State.byte_putBytes p.payload hm p.addr a).trans (by rw [hd])

/-- The access at the head of a room's queue has its turn. -/
def State.ramTurn (s : State) (n : Nat) (rest : List Packet) : State := s.updRoom n fun r => { r with ramQ := rest, ramBusy := 0 }

theorem State.ramQ_of_rooms_ramTurn {t : State} {rest : List Packet} (hc : s.canon) (h : t.rooms = (s.ramTurn n rest).rooms) :
    (t.room n).ramQ = rest := by
  rw [State.room, h]
  exact congrArg Room.ramQ (State.room_updRoom_same hc n _)

/-- A service access to the room RAM. -/
theorem ramAccess_clause {rest : List Packet} (hc : s.canon) (ht : s.tables) (hrun : s.roomState n = 0)
    (hq : (s.room n).ramQ = p :: rest) (hfree : ∀ q, s.active n = some q → s.portConflict n q p = false) :
    (p.type = 0 → ∃ u, exec (.roomRamAccess n) s = .next u ∧ (u.room n).ramQ = rest ∧ (2 ^ 32 ≤ p.addr → u.mem = s.mem) ∧
      (mget (fun _ => []) u.net.send n).length = (mget (fun _ => []) s.net.send n).length + 1) ∧
    (p.type = 1 → 2 ^ 32 ≤ p.addr → p.addr % 32 = 0 → p.payload.length = 32 → p.poison = 0 →
      ∃ u, exec (.roomRamAccess n) s = .next u ∧ (u.room n).ramQ = rest ∧
        (∀ i, i < 32 → u.byte (p.addr + i) = p.payload.getD i 0) ∧
        (∀ a, a < p.addr ∨ p.addr + 32 ≤ a → u.byte a = s.byte a) ∧
        mget (fun _ => []) u.net.send n = mget (fun _ => []) s.net.send n ++ [answer s p 4 n 0 [] 0 false]) := by
  have hexec := exec_ramAccess_of_free hq hrun hfree
  constructor
  · intro htype
    obtain ⟨t, d, m, hread, hrooms, hnet, hmem⟩ := State.memAccess_read (s := s.ramTurn n rest) htype n
    refine ⟨_, hexec.trans (congrArg _ hread), State.ramQ_of_rooms_ramTurn hc hrooms, fun _ => hmem, ?_⟩
    rw [State.send_inject (by rw [hnet]; exact ht.send), hnet, List.length_append]
    rfl
  · intro htype hlo ha hd hpoison
    obtain ⟨t, hword, hrooms, hnet, hbyte⟩ := State.memAccess_word (s := s.ramTurn n rest) hc.mem htype hlo ha hd hpoison n
    refine ⟨_, hexec.trans (congrArg _ hword), State.ramQ_of_rooms_ramTurn hc hrooms, fun i hi => ?_, fun a ha => ?_, ?_⟩
    · refine (hbyte _).trans ?_
      rw [if_pos (by omega), Nat.add_sub_cancel_left]
    · refine (hbyte a).trans ?_
      rw [if_neg (by omega)]
      rfl
    · rw [State.send_inject (by rw [hnet]; exact ht.send), hnet]
      rfl

/-- A packet that the active plane issues. -/
theorem transmit_clause {q : Nat} {k : Packet} (hc : s.canon) (ht : s.tables) (hrun : s.roomState n = 0) (hq : s.active n = some q)
    (hw : (s.waitingOf n q).length < 2) :
    (isRequest k.type = false → ∃ u, exec (.corridorTransmit n k) s = .next u ∧ ∃ r,
      mget (fun _ => []) u.net.send n = mget (fun _ => []) s.net.send n ++ [r] ∧ r.srcEp = n ∧ r.srcNode = s.node ∧
      r.srcPlane = q ∧ r.type = k.type ∧ r.dest = k.dest ∧ r.payload = k.payload) ∧
    (isRequest k.type = true → k.tag < 64 → mget (fun _ => Slot.free) (s.plane n q).slots k.tag = .free →
      s.outReq (outKey n q k.tag) = none →
      ∃ u, exec (.corridorTransmit n k) s = .next u ∧ ∃ r,
        mget (fun _ => []) u.net.send n = mget (fun _ => []) s.net.send n ++ [r] ∧ r.srcEp = n ∧ r.srcPlane = q ∧
        r.tag = k.tag ∧ mget (fun _ => Slot.free) (u.plane n q).slots k.tag = .waiting false ∧
        u.outReq (outKey n q k.tag) = some { pkt := r, expired := false }) := by
  constructor
  · intro hk
    exact ⟨_, exec_corridorTransmit hrun hq hw hk, s.issuedBy n q k, State.send_inject ht.send .., rfl, rfl, rfl, rfl, rfl, rfl⟩
  · intro hk htag hslot hout
    refine ⟨_, exec_corridorTransmit_request hrun hq hw hk htag hslot hout, s.issuedBy n q k, State.send_inject ht.send ..,
      rfl, rfl, rfl, ?_, State.outReq_setOut ht.outReq ..⟩
    have hplane := State.plane_updPlane_same hc (ht.planes n) q fun r =>
      { r with slots := mput (fun _ => .free) r.slots k.tag (.waiting false) }
    exact (congrArg (fun r : Plane => mget (fun _ => Slot.free) r.slots k.tag) hplane).trans (mget_mput_same (ht.slots n q) ..)

/-- A response whose request is outstanding. -/
theorem responseArrival_clause {r : OutReq} (hc : s.canon) (ht : s.tables) (hn : n < 128) (h : s.take n 1 = some (p, s'))
    (hreq : s.outReq (outKey n p.dstPlane p.tag) = some r) (hexp : r.expired = false) (hp : p.dstPlane < 4)
    (hslot : mget (fun _ => Slot.free) (s.plane n p.dstPlane).slots p.tag = .waiting false) :
    ∃ u, exec (.responseArrival n) s = .next u ∧ u.outReq (outKey n p.dstPlane p.tag) = none ∧
      mget (fun _ => Slot.free) (u.plane n p.dstPlane).slots p.tag = .answered p := by
  refine ⟨_, exec_responseArrival_of_awaited hn h hreq hexp hp hslot, ?_⟩
  obtain ⟨bufs, books, rfl⟩ := State.take_cases h
  refine ⟨State.outReq_setOut ht.outReq .., ?_⟩
  have hplane := State.plane_updPlane_same hc (ht.planes n) p.dstPlane fun q =>
    { q with slots := mput (fun _ => .free) q.slots p.tag (.answered p) }
  exact (congrArg (fun q : Plane => mget (fun _ => Slot.free) q.slots p.tag) hplane).trans (mget_mput_same (ht.slots n _) ..)

/-- Settles O25: requests at the endpoint, accesses to the room RAM, packets of the active plane and responses, each by its own
clause. -/
theorem roomEndpointAndResponses : Obligations.RoomEndpointAndResponses := by
  intro s n hc ht hn hrun
  exact ⟨fun p s' h hgate hw => endpointRequest_clause hc ht hrun h hgate hw,
    fun p rest hq hfree => ramAccess_clause hc ht hrun hq hfree,
    fun k q hq hw => transmit_clause hc ht hrun hq hw,
    fun p s' h r hreq hexp hp hslot => responseArrival_clause hc ht hn h hreq hexp hp hslot⟩

end Sys2Proof.Machine

/-!
SUPPORT. What the work of a CK_ROOM edge leaves as it was: the room's state, its waiting parks and stops, and, but for the switch
and the drive, the stairs, the other rooms and RM_PLANE (R46, R50, R57, R69, R85).
-/
namespace Sys2Proof.Machine
variable {s t u : State} {n : Nat}

/-! ### The two frames -/

/-- What every part of an edge of room n keeps. -/
structure EdgeKept (n : Nat) (s t : State) : Prop where
  canon : t.canon
  state : t.roomState n = s.roomState n
  parks : (t.room n).parks = (s.room n).parks
  toStop : (t.room n).toStop = (s.room n).toStop
  toRun : (t.room n).toRun = (s.room n).toRun

/-- What the logic's part of the edge keeps besides. -/
structure EdgeWork (n : Nat) (s t : State) : Prop extends EdgeKept n s t where
  stairs : t.stairs = s.stairs
  others : ∀ k, k ≠ n → t.room k = s.room k
  sw : (t.room n).sw = (s.room n).sw
  plane : t.rd .RM_PLANE n = s.rd .RM_PLANE n

theorem EdgeKept.refl (h : s.canon) : EdgeKept n s s := ⟨h, rfl, rfl, rfl, rfl⟩
theorem EdgeWork.refl (h : s.canon) : EdgeWork n s s := ⟨.refl h, rfl, fun _ _ => rfl, rfl, rfl⟩

theorem EdgeKept.trans (h : EdgeKept n s t) (k : EdgeKept n t u) : EdgeKept n s u :=
  ⟨k.canon, k.state.trans h.state, k.parks.trans h.parks, k.toStop.trans h.toStop, k.toRun.trans h.toRun⟩
theorem EdgeWork.trans (h : EdgeWork n s t) (k : EdgeWork n t u) : EdgeWork n s u :=
  ⟨h.toEdgeKept.trans k.toEdgeKept, k.stairs.trans h.stairs, fun j hj => (k.others j hj).trans (h.others j hj), k.sw.trans h.sw,
    k.plane.trans h.plane⟩
/-- One change after another, the second from a canonical state. -/
theorem EdgeKept.then (h : EdgeKept n s t) (k : t.canon → EdgeKept n t u) : EdgeKept n s u := h.trans (k h.canon)
theorem EdgeWork.then (h : EdgeWork n s t) (k : t.canon → EdgeWork n t u) : EdgeWork n s u := h.trans (k h.canon)

/-- The active plane is a field of RM_PLANE. -/
theorem EdgeWork.active (h : EdgeWork n s t) : t.active n = s.active n := by
  have hfield (v : State) : v.active n = if Fld.RM_PLANE_NONE.get (v.rd .RM_PLANE n) = 1 then none else
      some (Fld.RM_PLANE_ACTIVE.get (v.rd .RM_PLANE n)) := rfl
  rw [hfield, hfield, h.plane]

/-! ### Changes outside the rooms -/

/-- A change that names no room, nor RM_STATUS, nor every register. -/
theorem EdgeKept.of_keeps (hs : s.canon) {m : Nat} (h : ∀ {P : State → Prop}, Clo m P → P s → P t)
    (hm : m &&& 0x100000000000000000000080041 = 0) : EdgeKept n s t := by
  have h0 := testBit_of_land_eq_zero hm (i := 0) rfl
  have h6 := testBit_of_land_eq_zero hm (i := 6) rfl
  have h19 := testBit_of_land_eq_zero hm (i := 19) rfl
  have hrooms : t.rooms = s.rooms := (h (clo_same s h19) (Same.refl _ s)).rooms h6
  have hstatus := (h (clo_rd s .RM_STATUS n h0 h19 (testBit_of_land_eq_zero hm rfl)) ⟨hs.regs, rfl⟩).2
  have hroom : t.room n = s.room n := by rw [State.room, hrooms]; rfl
  exact ⟨(h (clo_canon s.pending m) ⟨hs, rfl⟩).1, congrArg Fld.RM_STATUS_STATE.get hstatus, by rw [hroom], by rw [hroom], by rw [hroom]⟩

/-- A change that names no stair nor RM_PLANE either. -/
theorem EdgeWork.of_keeps (hs : s.canon) {m : Nat} (h : ∀ {P : State → Prop}, Clo m P → P s → P t)
    (hm : m &&& 0x1400000000000000000000800c1 = 0) : EdgeWork n s t := by
  have h19 := testBit_of_land_eq_zero hm (i := 19) rfl
  have hsame := h (clo_same s h19) (Same.refl _ s)
  have hrooms : t.rooms = s.rooms := hsame.rooms (testBit_of_land_eq_zero hm rfl)
  have hroom (k : Nat) : t.room k = s.room k := by rw [State.room, hrooms]; rfl
  have hkept : m &&& 0x100000000000000000000080041 = 0 := by
    rw [show 0x100000000000000000000080041 = 0x1400000000000000000000800c1 &&& 0x100000000000000000000080041 from rfl,
      ← Nat.and_assoc, hm, Nat.zero_and]
  exact { toEdgeKept := .of_keeps hs h hkept
          stairs := hsame.stairs (testBit_of_land_eq_zero hm rfl)
          others := fun k _ => hroom k
          sw := by rw [hroom]
          plane := (h (clo_rd s .RM_PLANE n (testBit_of_land_eq_zero hm rfl) h19 (testBit_of_land_eq_zero hm rfl)) ⟨hs.regs, rfl⟩).2 }

/-! ### Changes of the room itself -/

theorem EdgeKept.updRoom (hs : s.canon) {g : Room → Room} (hparks : (g (s.room n)).parks = (s.room n).parks)
    (hstop : (g (s.room n)).toStop = (s.room n).toStop) (hrun : (g (s.room n)).toRun = (s.room n).toRun) :
    EdgeKept n s (s.updRoom n g) := by
  have hroom := State.room_updRoom_same hs n g
  exact ⟨{ hs with rooms := mwf_mput _ _ hs.rooms }, rfl, by rw [hroom, hparks], by rw [hroom, hstop], by rw [hroom, hrun]⟩

theorem EdgeWork.updRoom (hs : s.canon) {g : Room → Room} (hparks : (g (s.room n)).parks = (s.room n).parks)
    (hstop : (g (s.room n)).toStop = (s.room n).toStop) (hrun : (g (s.room n)).toRun = (s.room n).toRun)
    (hsw : (g (s.room n)).sw = (s.room n).sw) : EdgeWork n s (s.updRoom n g) :=
  { toEdgeKept := .updRoom hs hparks hstop hrun
    stairs := rfl
    others := fun _ hk => State.room_updRoom_ne hs hk g
    sw := by rw [State.room_updRoom_same hs n g, hsw]
    plane := rfl }

theorem EdgeWork.updPlane (hs : s.canon) {p : Nat} {g : Plane → Plane} : EdgeWork n s (s.updPlane n p g) :=
  .updRoom hs rfl rfl rfl rfl

theorem EdgeWork.each {α : Type} {l : List α} {f : State → α → State} (hs : s.canon)
    (h : ∀ t x, t.canon → EdgeWork n t (f t x)) : EdgeWork n s (s.each l f) :=
  foldl_p (Q := EdgeWork n s) (fun t x k => k.trans (h t x k.canon)) (.refl hs)

/-! ### Words of memory -/

theorem edgeWork_noteWord (hs : s.canon) (a src : Nat) : EdgeWork n s (s.noteWord a src) := by
  have hmow (v : Mowing) : EdgeWork n s { s with mow := v } := ⟨⟨{ hs with }, rfl, rfl, rfl, rfl⟩, rfl, fun _ _ => rfl, rfl, rfl⟩
  have hce (v : Mowing) (k : Nat) (e : LogEntry) :
      EdgeWork n s ((State.inc { s with mow := v } Fld.EC_CE_COUNT_COUNT k).logEc e) :=
    (hmow v).then fun h => .of_keeps (m := 0x1e02000003100000000000000000000000000000000000000000000000000000222) h
      (fun c k => State.logEc_inv (c.mono rfl) (c.inc rfl k)) rfl
  rw [State.noteWord]
  split
  · exact .refl hs
  · exact .refl hs
  · exact hce ..
  · exact hce ..
  · exact .of_keeps (m := 0x1e02000003100000000000000000000000000000000000000000000000000000222) hs
      (fun c k => State.hazard_inv (c.mono rfl) (State.logEc_inv (c.mono rfl) (c.inc rfl k))) rfl

theorem edgeWork_readWord (hs : s.canon) (a : Nat) : EdgeWork n s (s.readWord a).2.2 := edgeWork_noteWord hs _ _

theorem edgeWork_writeWord (hs : s.canon) (a off : Nat) (d : List Byte) (poison : Bool) :
    EdgeWork n s (s.writeWord a off d poison).1 := by
  have hput (t : State) (ht : t.canon) (b c : Nat) (l : List Byte) : EdgeWork n t ((t.putBytes b l).setSyn c 0) :=
    .of_keeps (m := 0x400) ht (fun c k => c.setSyn rfl _ _ (State.putBytes_inv (c.mono rfl) k)) rfl
  have hmark (t : State) (h : EdgeWork n s t) (b : Nat) (c : Bool) : EdgeWork n s (if c then (t.storePoison b 1, true) else (t, false)).1 := by
    split
    · exact h.then fun ht => .of_keeps ht (fun c k => State.storePoison_inv c k) rfl
    · exact h
  rw [State.writeWord]
  split
  · exact hmark _ (hput s hs ..) ..
  · exact hmark _ ((edgeWork_noteWord hs ..).then fun h => hput _ h ..) ..

/-! ### The logic's part of an edge -/

theorem edgeWork_fabricEdge (hs : s.canon) (p : Nat) (cells : List CellIn) (mults : List MultIn) :
    EdgeWork n s (s.fabricEdge n p cells mults) :=
  (EdgeWork.each hs fun _ _ ht => .of_keeps ht (fun c k => State.cellEdge_inv c k) rfl).then fun h => .each h fun _ _ ht => .updPlane ht

theorem edgeWork_inc_poison (hs : s.canon) (i k : Nat) : EdgeWork n s (s.inc Fld.RM_POISON_COUNT_COUNT i k) :=
  .of_keeps (m := 0x100000000000000000000000000000) hs (fun c k => c.inc rfl k) rfl

theorem edgeWork_logicTakes (hs : s.canon) (p : Nat) : EdgeWork n s (s.logicTakes n p) :=
  (edgeWork_inc_poison hs ..).then fun h => .updPlane h

theorem edgeWork_ramFinish (hs : s.canon) (p : Nat) : EdgeWork n s (s.ramFinish n p) := by
  refine ((EdgeWork.updRoom hs rfl rfl rfl rfl).then fun h => .each h fun t o ht => ?_).then fun h => edgeWork_inc_poison h ..
  split
  · exact .refl ht
  · refine (edgeWork_readWord ht _).then fun h => .updRoom h ?_ ?_ ?_ ?_ <;> (split <;> rfl)

theorem edgeWork_ramStarve (hs : s.canon) (p : Nat) : EdgeWork n s (s.ramStarve n p) := by
  rw [State.ramStarve]
  split
  · exact .updRoom hs rfl rfl rfl rfl
  · exact .updRoom hs rfl rfl rfl rfl

theorem edgeWork_syncTracks (hs : s.canon) (p : Nat) (switched : Bool) : EdgeWork n s (s.syncTracks n p switched) :=
  (EdgeWork.updRoom hs rfl rfl rfl rfl).then fun h => .of_keeps (m := 2) h (fun c k => c.drawn rfl k) rfl

theorem edgeWork_lostPulse (hs : s.canon) (p : Nat) : EdgeWork n s (s.lostPulse n p) := by
  rw [State.lostPulse]
  split
  · exact (EdgeWork.updPlane hs).then fun h => .updRoom h rfl rfl rfl rfl
  · exact .refl hs

theorem edgeWork_ramPresent (hs : s.canon) (p : Nat) (ops : List RamOp) : EdgeWork n s (s.ramPresent n p ops) := by
  refine (EdgeWork.updRoom hs rfl rfl rfl rfl).then fun h => .each h fun t o ht => ?_
  split
  · exact .refl ht
  · exact edgeWork_writeWord ht ..

theorem edgeWork_rmregEdge (hs : s.canon) (ask : Option Nat) : EdgeWork n s (s.rmregEdge n ask) :=
  .updRoom hs rfl rfl rfl rfl

/-- What the plane active until an edge presented in the cycle that ends. -/
def State.logicEnds (s : State) (n p : Nat) (l : LogicIn) : State :=
  (((s.fabricEdge n p l.cells l.mults).logicTakes n p).ramFinish n p).ramStarve n p

theorem edgeWork_logicEnds (hs : s.canon) (p : Nat) (l : LogicIn) : EdgeWork n s (s.logicEnds n p l) :=
  (((edgeWork_fabricEdge hs ..).then fun h => edgeWork_logicTakes h p).then fun h => edgeWork_ramFinish h p).then
    fun h => edgeWork_ramStarve h p

/-! ### The switch and the drive -/

/-- Another field of RM_STATUS. -/
theorem edgeKept_setF_status (hs : s.canon) {F : Field} (hF : F.reg = .RM_STATUS) (hok : F.ok = true)
    (hd : F.hi < Fld.RM_STATUS_STATE.lo ∨ Fld.RM_STATUS_STATE.hi < F.lo) (v : Nat) : EdgeKept n s (s.setF F n v) :=
  ⟨State.canon_setF hs .., State.f_setF_field hs.regs hF.symm hok rfl hd .., rfl, rfl, rfl⟩

theorem edgeKept_respondTo (hs : s.canon) (c : Option CmdRef) (st : Nat) (d : List Byte) : EdgeKept n s (s.respondTo c st d) :=
  .of_keeps hs (fun c k => State.respondTo_inv c k) rfl

theorem edgeKept_dropHeld (hs : s.canon) : EdgeKept n s (s.dropHeld n) :=
  (((EdgeKept.of_keeps (m := 0x40000000000000000000000000) hs (fun c k => c.setF rfl k) rfl).then fun h =>
    edgeKept_setF_status h rfl rfl (by decide) 1).then fun h => .updRoom h rfl rfl rfl).then fun h => edgeKept_respondTo h ..

theorem edgeKept_doSwitch (hs : s.canon) (p : Nat) : EdgeKept n s (s.doSwitch n p) := by
  unfold State.doSwitch
  extract_lets t1 t2 t3 t4 t5 c t6
  have h1 : EdgeKept n s t1 := by
    unfold t1
    split
    · exact .of_keeps hs (fun c k => State.ffSave_inv c k) rfl
    · exact .refl hs
  have h6 : EdgeKept n t1 t6 := .of_keeps (m := 0x1e02000003100000000000000000000000000020040000000000000000000002eba) h1.canon
    (fun c k => State.updSched_inv (c.mono rfl) (c.incW rfl (c.setF rfl (c.setF rfl (c.setF rfl (State.ffLoad_inv (c.mono rfl) k)))))) rfl
  exact ((h1.trans h6).then fun h => .updRoom h rfl rfl rfl).then fun h => edgeKept_respondTo h ..

theorem edgeKept_heldEdge (hs : s.canon) : EdgeKept n s (s.heldEdge n) := by
  unfold State.heldEdge
  extract_lets p c
  have hpend (v : Nat) : EdgeKept n s (s.setF Fld.RM_PLANE_PEND_VALID n v) :=
    .of_keeps (m := 0x40000000000000000000000000) hs (fun c k => c.setF rfl k) rfl
  have hempty : EdgeKept n s (s.emptyPlane n p) := .of_keeps hs (fun c k => State.emptyPlane_inv c k) rfl
  split_ifs
  · exact .refl hs
  · exact hempty.then fun h => edgeKept_dropHeld h
  · exact ((hpend 0).then fun h => .updRoom h rfl rfl rfl).then fun h => edgeKept_respondTo h ..
  · exact edgeKept_doSwitch hs p
  · exact edgeKept_dropHeld hs
  · exact .refl hs

theorem edgeKept_switchEdge (hs : s.canon) : EdgeKept n s (s.switchEdge n) := by
  rw [State.switchEdge]
  split
  · exact ((EdgeKept.of_keeps (m := 0x40000000000000000000000000) hs (fun c k => c.setF rfl (c.setF rfl k)) rfl).then fun h =>
      .updRoom h rfl rfl rfl).then fun h => edgeKept_heldEdge h
  · exact edgeKept_heldEdge hs

theorem edgeKept_drive (hs : s.canon) (p : Nat) (mask value : BitVec 512) : EdgeKept n s (s.drive n p mask value) :=
  ((EdgeKept.updRoom hs rfl rfl rfl).then fun h => .of_keeps h (fun c k => State.tracks_inv c k) rfl).then fun h =>
    (edgeWork_lostPulse h p).toEdgeKept

/-- The cycle that begins at an edge, of the plane active from it. -/
def State.cycleBegins (s : State) (n p : Nat) (switched : Bool) (vt : VtDrive) (l : LogicIn) : State :=
  (((s.syncTracks n p switched).drive n p vt.mask vt.value).ramPresent n p l.ram).rmregEdge n l.rmreg

theorem edgeKept_cycleBegins (hs : s.canon) (p : Nat) (switched : Bool) (vt : VtDrive) (l : LogicIn) :
    EdgeKept n s (s.cycleBegins n p switched vt l) := by
  have hdrive := (edgeWork_syncTracks (n := n) hs p switched).toEdgeKept.then fun h => edgeKept_drive h p vt.mask vt.value
  have hram := hdrive.then fun h => (edgeWork_ramPresent h p l.ram).toEdgeKept
  exact hram.then fun h => (edgeWork_rmregEdge h l.rmreg).toEdgeKept

/-- The whole edge of a running room, before its parks and stops. -/
theorem edgeKept_runEdge (hs : s.canon) (vt : VtDrive) (l : LogicIn) : EdgeKept n s (s.runEdge n vt l) := by
  unfold State.runEdge
  extract_lets t1 t2
  have h1 : EdgeKept n s t1 := by
    unfold t1
    split
    · exact (edgeWork_logicEnds hs _ l).toEdgeKept
    · exact .refl hs
  have h2 : EdgeKept n s t2 := h1.then fun h => edgeKept_switchEdge h
  split
  · exact h2.then fun h => edgeKept_cycleBegins h ..
  · exact h2

/-! ### An edge with no switch -/

theorem State.switchEdge_of_none (hsw : (s.room n).sw = none) (hpend : s.f Fld.RM_PLANE_PEND_VALID n = 0) : s.switchEdge n = s := by
  rw [State.switchEdge, hsw]
  exact if_pos (.inl hpend)

theorem State.runEdge_of_active {p : Nat} {vt : VtDrive} {l : LogicIn} (hs : s.canon) (hp : s.active n = some p)
    (hsw : (s.room n).sw = none) (hpend : s.f Fld.RM_PLANE_PEND_VALID n = 0) :
    s.runEdge n vt l = (s.logicEnds n p l).cycleBegins n p false vt l := by
  have hw := edgeWork_logicEnds (n := n) hs p l
  have hpend' : (s.logicEnds n p l).f Fld.RM_PLANE_PEND_VALID n = 0 := (congrArg Fld.RM_PLANE_PEND_VALID.get hw.plane).trans hpend
  have hswitch : (s.logicEnds n p l).switchEdge n = s.logicEnds n p l := State.switchEdge_of_none (hw.sw.trans hsw) hpend'
  have hactive : (s.logicEnds n p l).active n = some p := hw.active.trans hp
  have hsame : (some p != some p) = false := by simp
  unfold State.logicEnds at hswitch hactive
  rw [State.runEdge, hp]
  simp only
  rw [hswitch, hactive]
  simp only
  rw [hsame]
  rfl

/-! ### The tracks -/

theorem and_not_zero {w : Nat} (x : BitVec w) : x &&& ~~~0#w = x := by simp

/-- The tracks that a room drives take its values where the other room of the pair drives none and no group of theirs has failed. -/
theorem State.stair_tracks (hs : s.canon) (hn : n < 128) (hother : (s.room ((n + 64) % 128)).vtMask = 0)
    (hdead : (s.stair (n % 64)).dead = []) (hdead' : (s.stair (n % 64 + 64)).dead = []) :
    ((s.tracks n).stair (n % 64)).tracks = ((s.stair (n % 64)).tracks &&& ~~~(s.room n).vtMask) |||
      ((s.room n).vtVal &&& (s.room n).vtMask) := by
  have hhold : s.deadTracks (n % 64) 0 ||| s.deadTracks (n % 64 + 64) 256 = 0 := by
    simp [State.deadTracks, hdead, hdead']
  unfold State.tracks
  extract_lets a ra rb hold old new t1 both t2
  have hconflict (c : Prop) [Decidable c] (v : State) (i : Nat) :
      (if c then v.setF Fld.ST_STATUS_VT_CONFLICT i 1 else v).stair a = v.stair a := by
    split <;> rfl
  have hstair : t1.stair a = { s.stair a with tracks := (old &&& hold) ||| (new &&& ~~~hold) } := mget_mput_same hs.stairs ..
  have hnew : new = (old &&& ~~~(s.room n).vtMask) ||| ((s.room n).vtVal &&& (s.room n).vtMask) := by
    rcases Nat.lt_or_ge n 64 with h | h
    · have ha : a = n := Nat.mod_eq_of_lt h
      have hrb : rb.vtMask = 0 := by rw [← hother, show (n + 64) % 128 = a + 64 by omega]
      have hra : ra = s.room n := by rw [← ha]
      simp [new, hrb, hra]
    · have ha : a + 64 = n := by omega
      have hra : ra.vtMask = 0 := by rw [← hother, show (n + 64) % 128 = a by omega]
      have hrb : rb = s.room n := by rw [← ha]
      simp only [new, hra, hrb, BitVec.ofNat_eq_ofNat, BitVec.zero_or, BitVec.and_zero, BitVec.or_zero, and_not_zero]
  rw [hconflict, hconflict, hstair]
  show (old &&& hold) ||| (new &&& ~~~hold) = _
  rw [show hold = 0 from hhold, hnew]
  simp only [BitVec.ofNat_eq_ofNat, BitVec.and_zero, BitVec.zero_or, and_not_zero, old, a]

/-- In the cycle that begins at an edge, the active plane drives the tracks of its mask, where the other room drives none and no
group of theirs has failed. -/
theorem State.stair_cycleBegins (hs : s.canon) (hn : n < 128) (hother : (s.room ((n + 64) % 128)).vtMask = 0)
    (hdead : (s.stair (n % 64)).dead = []) (hdead' : (s.stair (n % 64 + 64)).dead = []) (p : Nat) (switched : Bool) (vt : VtDrive)
    (l : LogicIn) : ((s.cycleBegins n p switched vt l).stair (n % 64)).tracks =
      ((s.stair (n % 64)).tracks &&& ~~~vt.mask) ||| (vt.value &&& vt.mask) := by
  have hsync := edgeWork_syncTracks (n := n) hs p switched
  let t := (s.syncTracks n p switched).updRoom n fun r => { r with vtMask := vt.mask, vtVal := vt.value }
  have ht : EdgeWork n s t := hsync.then fun h => .updRoom h rfl rfl rfl rfl
  have htracks : EdgeKept n t (t.tracks n) := .of_keeps ht.canon (fun c k => State.tracks_inv c k) rfl
  have hafter : EdgeWork n (t.tracks n) (s.cycleBegins n p switched vt l) :=
    ((edgeWork_lostPulse htracks.canon p).then fun h => edgeWork_ramPresent h p l.ram).then fun h => edgeWork_rmregEdge h l.rmreg
  have hroom : t.room n = { (s.syncTracks n p switched).room n with vtMask := vt.mask, vtVal := vt.value } :=
    State.room_updRoom_same hsync.canon ..
  have hstairs (k : Nat) : t.stair k = s.stair k := by rw [State.stair, ht.stairs]; rfl
  have hlast : (s.cycleBegins n p switched vt l).stair (n % 64) = (t.tracks n).stair (n % 64) := by
    rw [State.stair, hafter.stairs]
    rfl
  rw [hlast, State.stair_tracks ht.canon hn (by rw [ht.others _ (by omega), hother]) (by rw [hstairs, hdead])
    (by rw [hstairs, hdead']), hstairs, hroom]

/-! ### Parks and stops at an edge -/

/-- A park at its edge. -/
theorem State.parkEdge_park {cmd : Option CmdRef} {rest : List (Bool × Option CmdRef)} (h : (s.room n).parks = (true, cmd) :: rest)
    (hrun : s.roomState n = 0) : s.parkEdge n = (((s.updRoom n fun r => { r with parks := rest }).setF Fld.RM_STATUS_STATE n 1).updRoom n
      fun r => { r with parkedByCmd := true }).respondTo cmd 0 [] := by
  rw [State.parkEdge, h]
  exact if_pos hrun

/-- An unpark at its edge, when shedding does not hold the room. -/
theorem State.parkEdge_unpark {cmd : Option CmdRef} {rest : List (Bool × Option CmdRef)} (h : (s.room n).parks = (false, cmd) :: rest)
    (hparked : s.roomState n = 1) (hshed : s.f Fld.RM_STATUS_PARK_SHED n = 0) :
    s.parkEdge n = (((s.updRoom n fun r => { r with parks := rest }).setF Fld.RM_STATUS_STATE n 0).updRoom n
      fun r => { r with parkedByCmd := false }).respondTo cmd 0 [] := by
  rw [State.parkEdge, h]
  have hfree : ¬ s.f Fld.RM_STATUS_PARK_SHED n = 1 := by omega
  refine (if_neg Bool.false_ne_true).trans ((if_neg ?_).trans (if_pos ?_))
  · exact hfree
  · exact hparked

/-- The state that a park or an unpark gives, and what it leaves to the stops of the same edge. -/
theorem park_settled (hs : s.canon) (v : Nat) (hv : v < 16) (byCmd : Bool) (cmd : Option CmdRef)
    (rest : List (Bool × Option CmdRef)) {t : State}
    (ht : t = (((s.updRoom n fun r => { r with parks := rest }).setF Fld.RM_STATUS_STATE n v).updRoom n
      fun r => { r with parkedByCmd := byCmd }).respondTo cmd 0 []) :
    t.canon ∧ t.roomState n = v ∧ (t.room n).parks = rest ∧ (t.room n).toStop = (s.room n).toStop ∧ (t.room n).toRun = (s.room n).toRun := by
  have h1 : (s.updRoom n fun r => { r with parks := rest }).canon := { hs with rooms := mwf_mput _ _ hs.rooms }
  let t2 := (s.updRoom n fun r => { r with parks := rest }).setF Fld.RM_STATUS_STATE n v
  have h2 : t2.canon := State.canon_setF h1 ..
  have hkept : EdgeKept n t2 t := ht ▸ (EdgeKept.updRoom h2 rfl rfl rfl).then fun h => edgeKept_respondTo h cmd 0 []
  have hroom : t2.room n = { s.room n with parks := rest } :=
    State.room_updRoom_same hs n fun r => { r with parks := rest }
  have hstate : t2.roomState n = v := (State.f_setF_same h1.regs _ rfl ..).trans (Nat.mod_eq_of_lt hv)
  exact ⟨hkept.canon, hkept.state.trans hstate, by rw [hkept.parks, hroom], by rw [hkept.toStop, hroom], by rw [hkept.toRun, hroom]⟩

/-- An edge at which no stop and no restart of shedding is due settles the room's state and parks. -/
theorem stopEdge_settled (hs : s.canon) (hstop : (s.room n).toStop ≠ 0 → s.roomState n ≠ 0)
    (hrun : (s.room n).toRun = true → s.roomState n ≠ 1) : ((s.stopEdge n).setDivisor n).roomState n = s.roomState n ∧
      (((s.stopEdge n).setDivisor n).room n).parks = (s.room n).parks := by
  have hskip : s.stopEdge n = s.updRoom n fun r => { r with toStop := 0, toRun := false } := by
    rw [State.stopEdge]
    refine congrArg (fun v : State => v.updRoom n fun r => { r with toStop := 0, toRun := false }) ((if_neg ?_).trans (if_neg ?_))
    · rw [if_neg fun h => hstop h.1 h.2]
      exact fun h => hrun h.1 h.2
    · exact fun h => hstop h.1 h.2
  have hc : (s.updRoom n fun r => { r with toStop := 0, toRun := false }).canon := { hs with rooms := mwf_mput _ _ hs.rooms }
  have hdiv : EdgeKept n (s.stopEdge n) ((s.stopEdge n).setDivisor n) :=
    .of_keeps (hskip ▸ hc) (fun c k => State.setDivisor_inv c k) rfl
  refine ⟨hdiv.state.trans (by rw [hskip]; rfl), hdiv.parks.trans ?_⟩
  have hroom : (s.updRoom n fun r => { r with toStop := 0, toRun := false }).room n = { s.room n with toStop := 0, toRun := false } :=
    State.room_updRoom_same hs ..
  rw [hskip, hroom]

/-! ### The whole edge -/

/-- A room in which a new cycle begins: last cycle's findings are gone. -/
def State.freshCycle (s : State) (n : Nat) : State :=
  s.updRoom n fun r => { r with perr := 0, cyc := none, resumed := false, linkLost := false }

theorem edgeWork_freshCycle (hs : s.canon) : EdgeWork n s (s.freshCycle n) := .updRoom hs rfl rfl rfl rfl

theorem State.roomEdge_running (hrun : s.roomState n = 0) (vt : VtDrive) (l : LogicIn) :
    s.roomEdge n vt l = (((((s.freshCycle n).runEdge n vt l).parkEdge n).stopEdge n).setDivisor n) := by
  rw [State.roomEdge, if_neg (by omega)]
  exact congrArg (fun v : State => ((v.parkEdge n).stopEdge n).setDivisor n) (if_pos hrun)

theorem State.roomEdge_parked (hparked : s.roomState n = 1) (vt : VtDrive) (l : LogicIn) :
    s.roomEdge n vt l = ((((s.freshCycle n).parkEdge n).stopEdge n).setDivisor n) := by
  have hstill : ¬ (s.freshCycle n).roomState n = 0 := fun h => by
    have : s.roomState n = 0 := h
    omega
  rw [State.roomEdge, if_neg (by omega)]
  exact congrArg (fun v : State => ((v.parkEdge n).stopEdge n).setDivisor n) (if_neg hstill)

/-- Parks, stops and the divisor, which end an edge, leave the stairs as they were. -/
theorem stairs_edgeEnds (s : State) (n : Nat) : (((s.parkEdge n).stopEdge n).setDivisor n).stairs = s.stairs := by
  have hpark := (State.parkEdge_inv (v1 := n) (clo_same s rfl) (Same.refl _ s)).stairs rfl
  have hstop := (State.stopEdge_inv (v1 := n) (clo_same (s.parkEdge n) rfl) (Same.refl _ _)).stairs rfl
  have hdiv := (State.setDivisor_inv (v1 := n) (clo_same ((s.parkEdge n).stopEdge n) rfl) (Same.refl _ _)).stairs rfl
  exact hdiv.trans (hstop.trans hpark)

/-! ### The clauses -/

/-- ROOM_PARK and ROOM_UNPARK of a room in the other state wait for an edge. -/
theorem State.parks_parkCmd (hs : s.canon) (hn : n < 128) {stop : Bool} (hst : s.roomState n = if stop then 0 else 1)
    (hshed : stop = false → s.f Fld.RM_STATUS_PARK_SHED n = 0) (h : CmdHdr) :
    ((s.parkCmd h n stop).room n).parks = (s.room n).parks ++ [(stop, some h.ref)] := by
  have hpass : ∀ x ∈ [(decide (128 ≤ n), 3), (decide (s.roomState n = 4), 5), (decide (s.roomState n = 5), 4),
      (!stop && decide (s.f Fld.RM_STATUS_PARK_SHED n = 1), 4)], x.1 = false := by
    cases stop <;> simp_all
  have hother : ¬ ((s.room n).parks.isEmpty && decide (s.roomState n = if stop then 1 else 0)) = true := by
    cases stop <;> simp_all
  have hwaits : s.parkCmd h n stop = (s.uncommitted h.ref).updRoom n fun r => { r with parks := r.parks ++ [(stop, some h.ref)] } :=
    (checks_ok hpass).trans (if_neg hother)
  have huncommitted : (s.uncommitted h.ref).canon := (State.uncommitted_inv (clo_canon s.pending _) ⟨hs, rfl⟩).1
  have hroom : ((s.uncommitted h.ref).updRoom n fun r => { r with parks := r.parks ++ [(stop, some h.ref)] }).room n =
      { s.room n with parks := (s.room n).parks ++ [(stop, some h.ref)] } := State.room_updRoom_same huncommitted ..
  rw [hwaits, hroom]

/-- The same of a command that is accepted. -/
theorem parks_submit_parkCmd (hs : s.canon) (hn : n < 128) {stop : Bool} {e : Ebryn} (ha : s.accepts e)
    (hst : s.roomState n = if stop then 0 else 1) (hshed : stop = false → s.f Fld.RM_STATUS_PARK_SHED n = 0) :
    ((s.submit e.h e.op e.svc e.args (fun v => v.parkCmd e.h n stop) e.deny).room n).parks = (s.room n).parks ++ [(stop, some e.h.ref)] := by
  have hstate : (s.entered e).roomState n = s.roomState n := entered_f hs.regs e rfl n
  have hheld : (s.entered e).f Fld.RM_STATUS_PARK_SHED n = s.f Fld.RM_STATUS_PARK_SHED n := entered_f hs.regs e rfl n
  have hroom : (s.entered e).room n = s.room n := by rw [State.room, (entered_same s e).rooms rfl]; rfl
  rw [submit_ok ha, State.parks_parkCmd (entered_canon hs e) hn (hstate.trans hst) (fun h => hheld.trans (hshed h)), hroom]

/-- A running room with a park waiting at its edge is parked. -/
theorem State.roomEdge_parks (hs : s.canon) (hrun : s.roomState n = 0) {cmd : Option CmdRef} {rest : List (Bool × Option CmdRef)}
    (hparks : (s.room n).parks = (true, cmd) :: rest) (hrestart : (s.room n).toRun = false) (vt : VtDrive) (l : LogicIn) :
    (s.roomEdge n vt l).roomState n = 1 ∧ ((s.roomEdge n vt l).room n).parks = rest := by
  have hkept : EdgeKept n s ((s.freshCycle n).runEdge n vt l) :=
    (edgeWork_freshCycle hs).toEdgeKept.then fun h => edgeKept_runEdge h vt l
  obtain ⟨hcanon, hstate, hrest, -, htoRun⟩ := park_settled hkept.canon 1 (by decide) true cmd rest
    (State.parkEdge_park (hkept.parks.trans hparks) (hkept.state.trans hrun))
  rw [hkept.toRun, hrestart] at htoRun
  obtain ⟨hstop, hend⟩ := stopEdge_settled hcanon (fun _ => by rw [hstate]; decide) (fun h => by simp [htoRun] at h)
  rw [State.roomEdge_running hrun]
  exact ⟨hstop.trans hstate, hend.trans hrest⟩

/-- A parked room with an unpark waiting at its edge runs again. -/
theorem State.roomEdge_unparks (hs : s.canon) (hparked : s.roomState n = 1) {cmd : Option CmdRef}
    {rest : List (Bool × Option CmdRef)} (hparks : (s.room n).parks = (false, cmd) :: rest)
    (hshed : s.f Fld.RM_STATUS_PARK_SHED n = 0) (hnostop : (s.room n).toStop = 0) (vt : VtDrive) (l : LogicIn) :
    (s.roomEdge n vt l).roomState n = 0 ∧ ((s.roomEdge n vt l).room n).parks = rest := by
  have hkept := (edgeWork_freshCycle (n := n) hs).toEdgeKept
  obtain ⟨hcanon, hstate, hrest, htoStop, -⟩ := park_settled hkept.canon 0 (by decide) false cmd rest
    (State.parkEdge_unpark (hkept.parks.trans hparks) (hkept.state.trans hparked) hshed)
  rw [hkept.toStop, hnostop] at htoStop
  obtain ⟨hstop, hend⟩ := stopEdge_settled hcanon (fun h => absurd htoStop h) (fun _ => by rw [hstate]; decide)
  rw [State.roomEdge_parked hparked]
  exact ⟨hstop.trans hstate, hend.trans hrest⟩

/-- The active plane of a running room drives the tracks of its mask. -/
theorem State.roomEdge_drives (hs : s.canon) (hn : n < 128) (hrun : s.roomState n = 0) {p : Nat} (hactive : s.active n = some p)
    (hsw : (s.room n).sw = none) (hpend : s.f Fld.RM_PLANE_PEND_VALID n = 0) (hother : (s.room ((n + 64) % 128)).vtMask = 0)
    (hdead : (s.stair (n % 64)).dead = []) (hdead' : (s.stair (n % 64 + 64)).dead = []) (vt : VtDrive) (l : LogicIn) :
    ((s.roomEdge n vt l).stair (n % 64)).tracks = ((s.stair (n % 64)).tracks &&& ~~~vt.mask) ||| (vt.value &&& vt.mask) := by
  have hfresh := edgeWork_freshCycle (n := n) hs
  have hwork : EdgeWork n s ((s.freshCycle n).logicEnds n p l) := hfresh.then fun h => edgeWork_logicEnds h p l
  have hrunEdge : (s.freshCycle n).runEdge n vt l = ((s.freshCycle n).logicEnds n p l).cycleBegins n p false vt l :=
    State.runEdge_of_active hfresh.canon (hfresh.active.trans hactive) (hfresh.sw.trans hsw) hpend
  have hstair (k : Nat) : ((s.freshCycle n).logicEnds n p l).stair k = s.stair k := by rw [State.stair, hwork.stairs]; rfl
  have hends : (s.roomEdge n vt l).stair (n % 64) = (((s.freshCycle n).logicEnds n p l).cycleBegins n p false vt l).stair (n % 64) := by
    rw [State.roomEdge_running hrun, hrunEdge, State.stair, stairs_edgeEnds]
    rfl
  rw [hends, State.stair_cycleBegins hwork.canon hn (by rw [hwork.others _ (by omega), hother]) (by rw [hstair, hdead])
    (by rw [hstair, hdead']), hstair]

/-- Settles O22: a park waits for the edge that performs it, and the tracks take their values in the cycle that the edge begins,
which nothing after it in the edge changes. -/
theorem edgesParkAndDrive : Obligations.EdgesParkAndDrive := by
  unfold Obligations.EdgesParkAndDrive
  intro s n hs hn
  refine ⟨fun h ha hrun => ⟨_, rfl, ?park⟩, fun h ha hparked hshed => ⟨_, rfl, ?unpark⟩,
    fun cmd rest mask value l hrun hparks hrestart => ⟨_, rfl, ?parks⟩,
    fun cmd rest mask value l hparked hparks hshed hnostop => ⟨_, rfl, ?unparks⟩,
    fun p mask value l hrun hactive hsw hpend hother _ _ hdead hdead' => ⟨_, rfl, ?drives⟩⟩
  case park => exact parks_submit_parkCmd hs hn ha hrun (fun h => absurd h (by decide))
  case unpark => exact parks_submit_parkCmd hs hn ha hparked (fun _ => hshed)
  case parks => exact State.roomEdge_parks hs hrun hparks hrestart ⟨mask, value⟩ l
  case unparks => exact State.roomEdge_unparks hs hparked hparks hshed hnostop ⟨mask, value⟩ l
  case drives => exact State.roomEdge_drives hs hn hrun hactive hsw hpend hother hdead hdead' ⟨mask, value⟩ l

end Sys2Proof.Machine

/-!
SUPPORT. Where the statement on repair windows, slices and tests on demand fails: its clause on the response of SELFTEST_RUN leaves out
the command that a replay injects, whose response is discarded (R429).
-/
namespace Sys2Proof.Machine
variable {s : State}

/-- The response of a command that a replay injected reaches no requester (R429). -/
theorem State.respond_rsp_of_injected {r : CmdRef} {q : InProg} (hq : s.inprogOf r = some q) (hinjected : q.injected = true)
    (st : Nat) (d : List Byte) : (s.respond r st d).mail.rsp = s.mail.rsp := by
  simp only [State.respond, hq, hinjected, ↓reduceIte]
  split <;> rfl

/-- SELFTEST_RUN as an Ebryn command. -/
def selftestCommand (h : CmdHdr) (kind unit : Nat) : Ebryn := ⟨h, 0x0B05, .r, argBytes [(6, 1, kind), (8, 2, unit)], false⟩

/-- A test of a block out of service that finds nothing marks what had failed before, and answers that it found nothing (R372). -/
theorem exec_selftestRun_of_nothingFound {h : CmdHdr} {kind unit : Nat} (ha : s.accepts (selftestCommand h kind unit))
    (hunit : unit < kindUnits kind) (hout : (s.entered (selftestCommand h kind unit)).outOfService kind unit = true) :
    exec (.selftestRun h kind unit []) s =
      .next ((s.entered (selftestCommand h kind unit)).fallowNow.respond h.ref 0 (leBytes 2 0)) := by
  refine congrArg Host.Outcome.next ((submit_ok ha).trans (checks_ok fun x hx => ?_))
  obtain rfl | rfl : x = (decide (kindUnits kind ≤ unit), 3) ∨
      x = (!(s.entered (selftestCommand h kind unit)).outOfService kind unit, 4) := by simpa using hx
  · exact decide_eq_false (Nat.not_le.mpr hunit)
  · exact congrArg Bool.not hout

/-- A stack in service that replays a recording, at the point where REPLAY_INJECTION runs the command of a record
(State.injectCmd). -/
def replayInjects : State :=
  { State.reset with
    regs := [(Reg.addr .HK_STATUS 0, 0x22), (Reg.addr .CK_STATUS 0, 2), (Reg.addr .RP_STATUS 0, 3)]
    replay := { injecting := true } }

theorem replayInjects_canon : replayInjects.canon := { State.canon_reset with regs := by decide +kernel }
theorem replayInjects_tables : replayInjects.tables := { State.tables_reset with }

/-- The command of the record: port 0 asks for a test of bank 0, which has no owner. -/
def injectedHdr : CmdHdr := { port := 0, node := 0, ep := 546, tag := 7, len := 58 }
def injectedTest : Ebryn := selftestCommand injectedHdr 1 0

theorem replayInjects_accepts : replayInjects.accepts injectedTest :=
  ⟨⟨by decide, by decide +kernel, rfl⟩, by decide +kernel⟩

/-- The state in which the injected test has marked the blocks that failed, which are none. -/
def injectedTested : State := (replayInjects.entered injectedTest).fallowNow

theorem exec_injectedTest : exec (.selftestRun injectedHdr 1 0 []) replayInjects =
    .next (injectedTested.respond injectedHdr.ref 0 (leBytes 2 0)) :=
  exec_selftestRun_of_nothingFound replayInjects_accepts (by decide) (by decide +kernel)

/-- Refutes O43: the response of a SELFTEST_RUN that a replay injects on port 0 is discarded, so that nothing joins the port's
responses. -/
theorem not_repairWindowsAndSlices : ¬ Obligations.RepairWindowsAndSlices := by
  intro h
  obtain ⟨-, -, -, -, htest⟩ := h replayInjects 0 replayInjects_canon replayInjects_tables
  obtain ⟨hanswer, -⟩ := htest injectedHdr 1 0 replayInjects_accepts (by decide)
  obtain ⟨u, hu, -, hrsp⟩ := hanswer (by decide +kernel) fun _ => ⟨rfl, by decide +kernel⟩
  cases Host.Outcome.next.inj (exec_injectedTest.symm.trans hu)
  obtain ⟨q, hq, hinjected⟩ : ∃ q, injectedTested.inprogOf injectedHdr.ref = some q ∧ q.injected = true :=
    ⟨_, (Option.some_get (by decide +kernel)).symm, by decide +kernel⟩
  have hkept := State.respond_rsp_of_injected hq hinjected 0 (leBytes 2 0)
  have hempty : mget (fun _ => []) injectedTested.mail.rsp 0 = [] := by decide +kernel
  have hjoined := hrsp rfl
  rw [hkept, hempty] at hjoined
  exact List.append_ne_nil_of_right_ne_nil _ (List.cons_ne_nil _ _) hjoined.symm

end Sys2Proof.Machine

/-!
SUPPORT. What the registers, the memory and the flash read after reset (R10, R118, R330).
-/
namespace Sys2Proof.Machine

/-! ### The default word of a register -/

/-- A register reads its Reset column, but for the two whose default depends on the instance. -/
theorem regDefault_addr {r : Reg} (hperm : r ≠ .MB_PERM) (hstatus : r ≠ .LB_STATUS) (i : Nat) :
    regDefault (r.addr i) = r.reset := by
  rw [regDefault, Reg.atOffset_addr]
  split
  case h_1 h => cases h
  case h_2 h => exact absurd (congrArg Prod.fst (Option.some.inj h)) hperm
  case h_3 h => exact absurd (congrArg Prod.fst (Option.some.inj h)) hstatus
  case h_4 h => cases h; rfl

/-- The reset value of a field. -/
theorem State.f_reset (F : Field) (hperm : F.reg ≠ .MB_PERM) (hstatus : F.reg ≠ .LB_STATUS) (i : Nat) :
    State.reset.f F i = F.get F.reg.reset :=
  congrArg F.get (regDefault_addr hperm hstatus i)

theorem State.owner_reset (b : Nat) : State.reset.owner b = { kind := 5, id := 0 } := by
  rw [State.owner, State.f_reset _ (by decide) (by decide), State.f_reset _ (by decide) (by decide)]
  rfl

theorem State.engState_reset (e : Nat) : State.reset.engState e = 0 :=
  State.f_reset Fld.DE_STATE_STATE (by decide) (by decide) e

/-- Every word of CK_GSTAT is 0 at reset. -/
theorem State.gateOpen_reset (kind idx : Nat) : State.reset.gateOpen kind idx = false := by
  have hroom : State.reset.f Fld.CK_GSTAT_ROOM_OPEN (idx / 32) = 0 := State.f_reset _ (by decide) (by decide) _
  have hdsp : State.reset.f Fld.CK_GSTAT_DSP_OPEN = 0 := State.f_reset _ (by decide) (by decide) _
  have hlink : State.reset.f Fld.CK_GSTAT_LINK_OPEN = 0 := State.f_reset _ (by decide) (by decide) _
  have hunit : State.reset.f Fld.CK_GSTAT_UNIT_OPEN = 0 := State.f_reset _ (by decide) (by decide) _
  simp [State.gateOpen, hroom, hdsp, hlink, hunit, bit]

theorem State.flashBytes_reset (a n : Nat) : State.reset.flashBytes a n = List.replicate n 0xFF := by
  exact List.map_const'.trans (congrArg (List.replicate · _) List.length_range)

/-- Settles O3: no table of the reset state has an entry, so that every register, byte and unit reads its default. -/
theorem resetLeavesTheBlockReady : Obligations.ResetLeavesTheBlockReady := by
  have hready : State.reset.f Fld.HK_STATUS_READY 0 = 0 := State.f_reset _ (by decide) (by decide) 0
  have hsafe : State.reset.f Fld.HK_STATUS_SAFE 0 = 0 := State.f_reset _ (by decide) (by decide) 0
  refine ⟨State.canon_reset, State.tables_reset, fun _ _ => rfl, fun b _ => State.owner_reset b,
    fun kind idx _ _ => State.gateOpen_reset kind idx, fun e _ => State.engState_reset e, rfl, rfl, rfl, rfl, ?_, ?_, fun _ => rfl,
    State.flashBytes_reset⟩
  · simp [State.ready, hready]
  · simp [State.safe, hsafe]

end Sys2Proof.Machine

/-!
SUPPORT. How a handover of a bank begins and ends (R107, R108): what the write of the owner, the check of the drain and the completion
leave in the bank's registers.
-/
namespace Sys2Proof.Machine
variable {s t : State} {b : Nat} {o : Owner}

theorem bits_lt (v hi lo : Nat) : bits v hi lo < 2 ^ (hi + 1 - lo) := Nat.mod_lt _ (Nat.two_pow_pos _)

theorem State.bank_updBank_same (h : s.canon) (b : Nat) (g : Bank → Bank) : (s.updBank b g).bank b = g (s.bank b) :=
  mget_mput_same h.banks ..

theorem State.regsOk_updBank (h : s.regsOk) (b : Nat) (g : Bank → Bank) : (s.updBank b g).regsOk := h
theorem State.regsOk_odClear (h : s.regsOk) (o : OnDie) : (s.odClear o).regsOk := h

/-! ### What a bank's registers say -/

/-- A field of a register that reads the same. -/
theorem State.f_of_rd {F : Field} {r : Reg} {i : Nat} (hF : F.reg = r) (h : t.rd r i = s.rd r i) : t.f F i = s.f F i := by
  rw [State.f, State.f, hF, h]

/-- Every instance of a field after one of them was set. -/
theorem State.f_setF_instances (h : s.regsOk) (F : Field) (hF : F.ok = true) (i j v : Nat) :
    (s.setF F i v).f F j = if j % F.reg.map.count = i % F.reg.map.count then v % 2 ^ F.width else s.f F j := by
  split
  case isTrue hij =>
    rw [State.f, State.rd, Reg.addr_inj.2 hij]
    exact State.f_setF_same h F hF i v
  case isFalse hij => exact State.f_setF_inst h rfl hij v

theorem State.owner_of_rd (h : t.rd .LB_OWNER b = s.rd .LB_OWNER b) : t.owner b = s.owner b := by
  rw [State.owner, State.owner, State.f_of_rd (F := Fld.LB_OWNER_KIND) rfl h, State.f_of_rd (F := Fld.LB_OWNER_ID) rfl h]

theorem State.handover_of_rd (h : t.rd .LB_OWNER b = s.rd .LB_OWNER b) : t.handover b = s.handover b := by
  rw [State.handover, State.handover, State.f_of_rd (F := Fld.LB_OWNER_HANDOVER) rfl h]

/-! ### The start of what a drained bank waits for -/

/-- A drained bank starts the wipe of its operation; nothing else starts. -/
theorem State.drainCheck_cases (s : State) (b : Nat) : s.drainCheck b = s ∨
    s.drainCheck b = (s.startWipe b .handoverWipe).setF Fld.LB_NEXT_OWNER_WIPE b 1 ∨ s.drainCheck b = s.startWipe b .wipe := by
  rw [State.drainCheck]
  split
  · exact .inl rfl
  · split
    · split
      · exact .inr (.inl rfl)
      · exact .inl rfl
    · exact .inr (.inr rfl)
    · exact .inl rfl

theorem State.rd_drainCheck (h : s.regsOk) {r : Reg} (hr : (0x2200000000000000000100 : Nat).testBit (24 + r.ctorIdx) = false)
    (i : Nat) : (s.drainCheck b).rd r i = s.rd r i :=
  (State.drainCheck_inv (clo_rd s r i rfl rfl hr) ⟨h, rfl⟩).2

/-- Of LB_NEXT_OWNER, the start of a wipe sets bit WIPE alone. -/
theorem State.f_drainCheck_nextOwner (h : s.regsOk) {F : Field} (hreg : F.reg = .LB_NEXT_OWNER) (hF : F.ok = true)
    (hd : 30 < F.lo ∨ F.hi < 30) (i : Nat) : (s.drainCheck b).f F i = s.f F i := by
  have hbusy (op : BankOp) : (s.startWipe b op).f F i = s.f F i :=
    State.f_setF_reg (s := s.updBank b _) h (by rw [hreg]; decide) b i 1
  have hok (op : BankOp) : (s.startWipe b op).regsOk := State.regsOk_setF (s := s.updBank b _) h ..
  rcases s.drainCheck_cases b with hsame | hwipe | hwipe
  · rw [hsame]
  · rw [hwipe, State.f_setF_field (hok _) hreg rfl hF hd, hbusy]
  · rw [hwipe, hbusy]

/-- The start of a wipe changes a bank's operation alone. -/
theorem State.cmd_drainCheck (h : s.canon) : ((s.drainCheck b).bank b).cmd = (s.bank b).cmd := by
  have hstart (op : BankOp) : ((s.startWipe b op).bank b).cmd = (s.bank b).cmd :=
    by rw [State.startWipe, State.setF_bank_of, State.bank_updBank_same h]
  rcases s.drainCheck_cases b with hsame | hwipe | hwipe
  · rw [hsame]
  · rw [hwipe]
    exact hstart _
  · rw [hwipe, hstart]

/-! ### Accesses that no longer wait -/

theorem State.canon_updBank (h : s.canon) (b : Nat) (g : Bank → Bank) : (s.updBank b g).canon :=
  { h with banks := mwf_mput _ _ h.banks }

theorem State.canon_admitLate (h : s.canon) (b : Nat) : (s.admitLate b).canon :=
  (State.admitLate_inv (clo_canon s.pending _) ⟨h, rfl⟩).1

theorem State.bank_admitLate (h : s.canon) (b : Nat) :
    (s.admitLate b).bank b = { s.bank b with q := (s.bank b).q.map fun a => { a with late := false } } := by
  rw [State.admitLate, State.updRoom_bank_of, State.bank_updBank_same h]

/-! ### A handover begins -/

/-- The registers of a bank whose handover to o is accepted. -/
def State.handoverNoted (s : State) (b : Nat) (o : Owner) : State :=
  (((s.setF Fld.LB_OWNER_HANDOVER b 1).setF Fld.LB_NEXT_OWNER_VALID b 1).setF Fld.LB_NEXT_OWNER_KIND b o.kind).setF
    Fld.LB_NEXT_OWNER_ID b o.id

/-- The state in which the bank drains for its handover. -/
def State.handoverBegun (s : State) (b : Nat) (o : Owner) : State :=
  ((s.handoverNoted b o).admitLate b).updBank b fun k => { k with op := .handoverDrain }

theorem State.acceptHandover_eq {value : Nat} (hne : ({ kind := bits value 15 12, id := bits value 11 0 } : Owner) ≠ s.owner b) :
    s.acceptHandover b value =
      (s.handoverBegun b { kind := bits value 15 12, id := bits value 11 0 }).drainCheck b := if_neg hne

/-- A handover of bank b to o is in progress in t; s is the state before it. -/
structure HandoverBegins (b : Nat) (o : Owner) (s t : State) : Prop where
  handover : t.handover b = true
  next : t.nextOwner b = o
  valid : t.f Fld.LB_NEXT_OWNER_VALID b = 1
  owner : t.owner b = s.owner b
  cmd : (t.bank b).cmd = (s.bank b).cmd

theorem handoverBegins_noted (h : s.canon) (hkind : o.kind < 2 ^ 4) (hid : o.id < 2 ^ 12) :
    HandoverBegins b o s (s.handoverNoted b o) := by
  have h1 := State.regsOk_setF h.regs Fld.LB_OWNER_HANDOVER b 1
  have h2 := State.regsOk_setF h1 Fld.LB_NEXT_OWNER_VALID b 1
  have h3 := State.regsOk_setF h2 Fld.LB_NEXT_OWNER_KIND b o.kind
  have hnext {F : Field} (hF : F.reg = .LB_OWNER) : (s.handoverNoted b o).f F b = (s.setF Fld.LB_OWNER_HANDOVER b 1).f F b := by
    rw [State.handoverNoted, State.f_setF_reg h3 (by rw [hF]; decide), State.f_setF_reg h2 (by rw [hF]; decide),
      State.f_setF_reg h1 (by rw [hF]; decide)]
  have hk : (s.handoverNoted b o).f Fld.LB_NEXT_OWNER_KIND b = o.kind := by
    rw [State.handoverNoted, State.f_setF_field h3 (by rfl) rfl rfl (by decide), State.f_setF_same h2 _ rfl]
    exact Nat.mod_eq_of_lt hkind
  have hi : (s.handoverNoted b o).f Fld.LB_NEXT_OWNER_ID b = o.id :=
    (State.f_setF_same h3 _ rfl ..).trans (Nat.mod_eq_of_lt hid)
  refine ⟨decide_eq_true ?_, ?_, ?_, ?_, rfl⟩
  · rw [hnext rfl, State.f_setF_same h.regs _ rfl]
    rfl
  · rw [State.nextOwner, hk, hi]
  · rw [State.handoverNoted, State.f_setF_field h3 (by rfl) rfl rfl (by decide), State.f_setF_field h2 (by rfl) rfl rfl (by decide),
      State.f_setF_same h1 _ rfl]
    rfl
  · rw [State.owner, hnext rfl, hnext rfl, State.f_setF_field h.regs (by rfl) rfl rfl (by decide),
      State.f_setF_field h.regs (by rfl) rfl rfl (by decide)]
    rfl

theorem handoverBegins_acceptHandover (h : s.canon) {value : Nat}
    (hne : ({ kind := bits value 15 12, id := bits value 11 0 } : Owner) ≠ s.owner b) :
    HandoverBegins b { kind := bits value 15 12, id := bits value 11 0 } s (s.acceptHandover b value) := by
  rw [State.acceptHandover_eq hne]
  generalize ho : ({ kind := bits value 15 12, id := bits value 11 0 } : Owner) = o
  have hkind : o.kind < 2 ^ 4 := ho ▸ bits_lt ..
  have hid : o.id < 2 ^ 12 := ho ▸ bits_lt ..
  have hnoted : (s.handoverNoted b o).canon := State.canon_setF (State.canon_setF (State.canon_setF (State.canon_setF h ..) ..) ..) ..
  have hbegun : (s.handoverBegun b o).canon := State.canon_updBank (State.canon_admitLate hnoted b) ..
  obtain ⟨hhandover, hnext, hvalid, howner, -⟩ := handoverBegins_noted (b := b) h hkind hid
  have hword : ((s.handoverBegun b o).drainCheck b).rd .LB_OWNER b = (s.handoverNoted b o).rd .LB_OWNER b :=
    State.rd_drainCheck hbegun.regs rfl b
  refine ⟨?_, ?_, ?_, ?_, ?_⟩
  · rw [State.handover_of_rd hword, hhandover]
  · rw [State.nextOwner, State.f_drainCheck_nextOwner hbegun.regs rfl rfl (by decide),
      State.f_drainCheck_nextOwner hbegun.regs rfl rfl (by decide)]
    exact hnext
  · rw [State.f_drainCheck_nextOwner hbegun.regs rfl rfl (by decide)]
    exact hvalid
  · rw [State.owner_of_rd hword, howner]
  · rw [State.cmd_drainCheck hbegun, State.handoverBegun, State.bank_updBank_same (State.canon_admitLate hnoted b),
      State.bank_admitLate hnoted]
    rfl

/-! ### A handover ends -/

/-- The bank with the owner that a handover gives it. -/
def State.ownedBy (s : State) (b : Nat) (o : Owner) : State :=
  (((s.setF Fld.LB_OWNER_HANDOVER b 0).setF Fld.LB_OWNER_KIND b o.kind).setF Fld.LB_OWNER_ID b o.id).odClear (.owner b)

/-- The registers of the bank at the end of a handover to o. -/
def State.handedOver (s : State) (b : Nat) (o : Owner) : State :=
  (((s.ownedBy b o).wr .LB_NEXT_OWNER b 0).wr .LB_GUEST b 0).incW Fld.LB_HANDOVER_COUNT_COUNT b

theorem State.completeHandover_eq (s : State) (b : Nat) : s.completeHandover b =
    ((s.handedOver b (s.nextOwner b)).updBank b fun k => { k with op := .none }).endBankCmds b 0 := rfl

/-- The answers to the commands that wait for a bank change no register. -/
theorem State.rd_endBankCmds (h : s.regsOk) (st : Nat) (r : Reg) (i : Nat) : (s.endBankCmds b st).rd r i = s.rd r i := by
  have hmask : (0x2118 : Nat).testBit (24 + r.ctorIdx) = false := Nat.testBit_lt_two_pow (Nat.lt_of_lt_of_le (by decide)
    (Nat.pow_le_pow_right (by decide) (Nat.le_add_right 24 _)))
  exact (State.endBankCmds_inv (clo_rd s r i rfl rfl hmask) ⟨h, rfl⟩).2

/-- A handover of bank b to o has ended in t; s is the state before it. -/
structure HandoverEnds (b : Nat) (o : Owner) (s t : State) : Prop where
  owner : t.owner b = o
  handover : t.handover b = false
  next : t.rd .LB_NEXT_OWNER b = 0
  guest : t.rd .LB_GUEST b = 0
  count : t.f Fld.LB_HANDOVER_COUNT_COUNT b = (s.f Fld.LB_HANDOVER_COUNT_COUNT b + 1) % 2 ^ Fld.LB_HANDOVER_COUNT_COUNT.width

theorem handoverEnds_handedOver (h : s.regsOk) (hkind : o.kind < 2 ^ 4) (hid : o.id < 2 ^ 12) :
    HandoverEnds b o s (s.handedOver b o) := by
  have h1 := State.regsOk_setF h Fld.LB_OWNER_HANDOVER b 0
  have h2 := State.regsOk_setF h1 Fld.LB_OWNER_KIND b o.kind
  have h3 : (s.ownedBy b o).regsOk := State.regsOk_odClear (State.regsOk_setF h2 ..) _
  have h4 := State.regsOk_wr h3 .LB_NEXT_OWNER b 0
  have h5 := State.regsOk_wr h4 .LB_GUEST b 0
  have hword : (s.handedOver b o).rd .LB_OWNER b = (s.ownedBy b o).rd .LB_OWNER b := by
    rw [State.handedOver, State.incW, State.rd_setF_ne h5 (by decide), State.rd_wr_ne h4 (by decide), State.rd_wr_ne h3 (by decide)]
  have hcount : (((s.ownedBy b o).wr .LB_NEXT_OWNER b 0).wr .LB_GUEST b 0).rd .LB_HANDOVER_COUNT b = s.rd .LB_HANDOVER_COUNT b := by
    rw [State.rd_wr_ne h4 (by decide), State.rd_wr_ne h3 (by decide), State.ownedBy, State.odClear_rd_of,
      State.rd_setF_ne h2 (by decide), State.rd_setF_ne h1 (by decide), State.rd_setF_ne h (by decide)]
  refine ⟨?_, ?_, ?_, ?_, ?_⟩
  · have hk : (s.ownedBy b o).f Fld.LB_OWNER_KIND b = o.kind := by
      rw [State.ownedBy, State.odClear_f_of, State.f_setF_field h2 (by rfl) rfl rfl (by decide), State.f_setF_same h1 _ rfl]
      exact Nat.mod_eq_of_lt hkind
    have hi : (s.ownedBy b o).f Fld.LB_OWNER_ID b = o.id := by
      rw [State.ownedBy, State.odClear_f_of, State.f_setF_same h2 _ rfl]
      exact Nat.mod_eq_of_lt hid
    rw [State.owner_of_rd hword, State.owner, hk, hi]
  · have hflag : (s.ownedBy b o).f Fld.LB_OWNER_HANDOVER b = 0 := by
      rw [State.ownedBy, State.odClear_f_of, State.f_setF_field h2 (by rfl) rfl rfl (by decide),
        State.f_setF_field h1 (by rfl) rfl rfl (by decide), State.f_setF_same h _ rfl]
      rfl
    rw [State.handover_of_rd hword, State.handover, hflag]
    rfl
  · rw [State.handedOver, State.incW, State.rd_setF_ne h5 (by decide), State.rd_wr_ne h4 (by decide), State.rd_wr_same h3]
  · rw [State.handedOver, State.incW, State.rd_setF_ne h5 (by decide), State.rd_wr_same h4]
  · rw [State.handedOver, State.incW, State.f_setF_same h5 _ rfl, State.f_of_rd (F := Fld.LB_HANDOVER_COUNT_COUNT) rfl hcount]

/-- The new owner has the bank once the waiting commands are answered. -/
theorem handoverEnds_completeHandover (h : s.regsOk) : HandoverEnds b (s.nextOwner b) s (s.completeHandover b) := by
  have hended : HandoverEnds b (s.nextOwner b) s (s.handedOver b (s.nextOwner b)) :=
    handoverEnds_handedOver h (State.f_lt ..) (State.f_lt ..)
  have howned : (s.ownedBy b (s.nextOwner b)).regsOk :=
    State.regsOk_odClear (State.regsOk_setF (State.regsOk_setF (State.regsOk_setF h ..) ..) ..) _
  have hok : (s.handedOver b (s.nextOwner b)).regsOk := State.regsOk_incW (State.regsOk_wr (State.regsOk_wr howned ..) ..) ..
  have hrd (r : Reg) : (s.completeHandover b).rd r b = (s.handedOver b (s.nextOwner b)).rd r b := by
    rw [State.completeHandover_eq, State.rd_endBankCmds (State.regsOk_updBank hok ..), State.updBank_rd_of]
  obtain ⟨howner, hhandover, hnext, hguest, hcount⟩ := hended
  refine ⟨?_, ?_, (hrd _).trans hnext, (hrd _).trans hguest, ?_⟩
  · rw [State.owner_of_rd (hrd _), howner]
  · rw [State.handover_of_rd (hrd _), hhandover]
  · rw [State.f_of_rd (F := Fld.LB_HANDOVER_COUNT_COUNT) rfl (hrd _), hcount]

/-- HANDOVER_COMPLETE of a bank that has drained or is wiped. -/
theorem State.handoverComplete_of_ready (hsafe : s.safe = false) (hresuming : s.resuming = false)
    (hop : (s.bank b).op = .handoverReady ∨
      ((s.bank b).op = .handoverDrain ∧ s.drained b = true ∧ s.f Fld.LB_CTRL_WIPE_ON_HANDOVER b = 0)) :
    s.handoverComplete b = s.completeHandover b := by
  rw [State.handoverComplete, hsafe, hresuming]
  rcases hop with hready | ⟨hdrain, hdrained, hwipe⟩
  · rw [hready]
    rfl
  · rw [hdrain, hdrained, hwipe]
    rfl

/-! ### The statement on handovers -/

/-- Settles O18: a write of LB_OWNER begins a handover, marks its refusal or changes nothing, by Table 05-5 and the owner; the end gives
the bank to the owner that was recorded. -/
theorem handoverChangesTheOwner : Obligations.HandoverChangesTheOwner := by
  intro s b value h _ o
  have hexec : exec (.handover b value) s = .next (s.writeOwner b value).2 := rfl
  refine ⟨fun hstatus hne => ?_, fun hstatus heq => ?_, fun hstatus => ?_, fun hsafe hresuming hop => ?_⟩
  · obtain ⟨hhandover, hnext, hvalid, howner, -⟩ := handoverBegins_acceptHandover h hne
    rw [hexec, State.writeOwner, if_pos hstatus]
    exact ⟨_, rfl, hhandover, hnext, hvalid, howner⟩
  · rw [hexec, State.writeOwner, if_pos hstatus]
    exact congrArg Host.Outcome.next (if_pos heq)
  · rw [hexec, State.writeOwner, if_neg hstatus]
    exact ⟨_, rfl, State.f_setF_same h.regs _ rfl .., State.rd_setF_ne h.regs (by decide) .., State.rd_setF_ne h.regs (by decide) ..,
      rfl⟩
  · have hends := handoverEnds_completeHandover (b := b) h.regs
    have hcomplete : exec (.handoverComplete b) s = .next (s.completeHandover b) :=
      congrArg _ (State.handoverComplete_of_ready hsafe hresuming hop)
    exact ⟨_, hcomplete, hends.owner, hends.handover, hends.next, hends.guest, hends.count⟩

end Sys2Proof.Machine

/-!
SUPPORT. Where the statement on guests, retention and wakes fails: a wake that was asked for does not start in the safe state (R111).
-/
namespace Sys2Proof.Machine
variable {s : State}

theorem State.wakeStart_of_safe (hsafe : s.safe = true) (hphase : s.boot.frPhase = 0) (b : Nat) : s.wakeStart b = s := by
  rw [State.wakeStart, hsafe, hphase]
  exact if_neg (by simp)

/-- The safe state, in which bank 0 is retained by a command. -/
def retainedInSafe : State :=
  ((State.reset.setF Fld.HK_STATUS_SAFE 0 1).setF Fld.LB_PWR_CAUSE 0 1).setF Fld.LB_PWR_PSTATE 0 2

/-- LB_PWR.RET_REQ of the bank was written 0 since: its wake is asked for. -/
def wakeInSafe : State := retainedInSafe.updBank 0 fun k => { k with wakeWait := true }

theorem wakeInSafe_canon : wakeInSafe.canon :=
  State.canon_updBank (State.canon_setF (State.canon_setF (State.canon_setF State.canon_reset ..) ..) ..) ..

theorem wakeInSafe_safe : wakeInSafe.safe = true := by
  have h1 := State.regsOk_setF State.canon_reset.regs Fld.HK_STATUS_SAFE 0 1
  have h2 := State.regsOk_setF h1 Fld.LB_PWR_CAUSE 0 1
  rw [State.safe, wakeInSafe, State.updBank_f_of, retainedInSafe, State.f_setF_reg h2 (by decide), State.f_setF_reg h1 (by decide),
    State.f_setF_same State.canon_reset.regs _ rfl]
  rfl

theorem wakeInSafe_pstate (b : Nat) : wakeInSafe.f Fld.LB_PWR_PSTATE b = if b % 512 = 0 then 2 else 0 := by
  have h1 := State.regsOk_setF State.canon_reset.regs Fld.HK_STATUS_SAFE 0 1
  have h2 := State.regsOk_setF h1 Fld.LB_PWR_CAUSE 0 1
  rw [wakeInSafe, State.updBank_f_of, retainedInSafe, State.f_setF_instances h2 _ rfl,
    State.f_setF_field h1 (by rfl) rfl rfl (by decide), State.f_setF_reg State.canon_reset.regs (by decide),
    State.f_reset _ (by decide) (by decide)]
  rfl

/-- Refutes O19: WAKE_START of a waiting bank in the safe state leaves the bank in retention. -/
theorem not_guestsRetentionAndWakes : ¬ Obligations.GuestsRetentionAndWakes := by
  intro h
  obtain ⟨-, -, -, -, -, hwake, -⟩ := h wakeInSafe 0 0 wakeInSafe_canon (by decide)
  have hslots : (banks512.filter fun k => wakeInSafe.f Fld.LB_PWR_PSTATE k = 3) = [] := by
    refine List.filter_eq_nil_iff.2 fun k _ => ?_
    rw [wakeInSafe_pstate]
    split <;> decide
  have hwaits : (wakeInSafe.bank 0).wakeWait = true := rfl
  obtain ⟨t, ht, hwaking, -⟩ := hwake hwaits (wakeInSafe_pstate 0) (by rw [hslots]; decide) fun k hk => absurd hk (Nat.not_lt_zero k)
  have hexec : exec (.wakeStart 0) wakeInSafe = .next wakeInSafe :=
    congrArg Host.Outcome.next (State.wakeStart_of_safe wakeInSafe_safe rfl 0)
  cases Host.Outcome.next.inj (hexec.symm.trans ht)
  exact absurd ((wakeInSafe_pstate 0).symm.trans hwaking) (by decide)

end Sys2Proof.Machine

/-!
SUPPORT. What the safe state and the end of a slice leave of a bank: the commands that wait for its entry into retention, and the service
lanes' requests; a bank that was active or on the way into retention is so afterwards (R30, R36, R111, R370).
-/
namespace Sys2Proof.Machine
variable {P : State → Prop} {s : State}

/-! ### Predicates that speak of one bank -/

/-- Every kind of change but those of the banks, of LB_PWR, of every register at once and the resets of the whole stack. -/
abbrev besideBanks : Nat := 0x3ffffffffffffffffffffffffffffffffffffffffffffffffffffeffffffffffffffff7fefe

/-- P is kept by all changes beside the banks, by the changes of a bank that leave its waiting retention commands, and by a bank's
way into retention. -/
structure BankClo (P : State → Prop) : Prop where
  clo : Clo besideBanks P
  updBank : ∀ {s} n g, (∀ k, (g k).retCmd = k.retCmd) → P s → P (s.updBank n g)
  pstate : ∀ {s} n, P s → P (s.setF Fld.LB_PWR_PSTATE n 1)
  cause : ∀ {s} n c, P s → P (s.setF Fld.LB_PWR_CAUSE n c)

/-- A predicate on the banks and the services alone. -/
theorem clo_banks (Q : SMap Bank → SMap (Option SvcReq) → Prop) {m : Nat} (h8 : m.testBit 8 = false) (h19 : m.testBit 19 = false) :
    Clo m fun t => Q t.banks t.svc := by
  constructor
  case updBank => exact fun h => by rw [h8] at h; cases h
  case svc => exact fun h => by rw [h8] at h; cases h
  case powerOn => exact fun h => by rw [h19] at h; cases h
  case stackReset => exact fun h => by rw [h19] at h; cases h
  all_goals intros; exact ‹Q _ _›

/-- A predicate on one instance of a register that m does not name. -/
theorem clo_word (Q : Word → Prop) (r : Reg) (i : Nat) {m : Nat} (h0 : m.testBit 0 = false) (h19 : m.testBit 19 = false)
    (hr : m.testBit (24 + r.ctorIdx) = false) : Clo m fun t => t.regsOk ∧ Q (t.rd r i) := by
  have hrd (t : State) := clo_rd t r i h0 h19 hr
  constructor
  case wr =>
    intro q hq t j w ⟨hok, hQ⟩
    obtain ⟨hok', hsame⟩ := (hrd t).wr hq (i := j) (w := w) ⟨hok, rfl⟩
    exact ⟨hok', hsame ▸ hQ⟩
  case setTab =>
    intro hbit t o w ho ⟨hok, hQ⟩
    obtain ⟨hok', hsame⟩ := (hrd t).setTab hbit o w ho ⟨hok, rfl⟩
    exact ⟨hok', hsame ▸ hQ⟩
  case setRaw => exact fun h => by rw [h0] at h; cases h
  case dropRegs => exact fun h => by rw [h0] at h; cases h
  case powerOn => exact fun h => by rw [h19] at h; cases h
  case stackReset => exact fun h => by rw [h19] at h; cases h
  all_goals intros; exact ‹_ ∧ _›

theorem bankClo_svc (v : SMap (Option SvcReq)) : BankClo fun t => t.svc = v where
  clo := clo_banks (fun _ svc => svc = v) rfl rfl
  updBank := fun _ _ _ h => h
  pstate := fun _ h => h
  cause := fun _ _ h => h

/-- The commands that wait for bank b to be in retention are those of l. -/
theorem bankClo_retCmd (b : Nat) (l : List CmdRef) :
    BankClo fun t => mwf (fun _ => ({} : Bank)) t.banks = true ∧ (t.bank b).retCmd = l where
  clo := clo_banks (fun banks _ => mwf (fun _ => ({} : Bank)) banks = true ∧ (mget (fun _ => {}) banks b).retCmd = l) rfl rfl
  updBank := fun {t} n g hg h => by
    refine ⟨mwf_mput _ _ h.1, ?_⟩
    rw [State.bank_updBank h.1]
    split
    case isTrue hbn => rw [hg, ← hbn, h.2]
    case isFalse => exact h.2
  pstate := fun _ h => h
  cause := fun _ _ h => h

/-- Bank b is active or on its way into retention. -/
theorem bankClo_pstate (b : Nat) : BankClo fun t => t.regsOk ∧ t.f Fld.LB_PWR_PSTATE b ≤ 1 where
  clo := clo_word (fun w => Fld.LB_PWR_PSTATE.get w ≤ 1) .LB_PWR b rfl rfl rfl
  updBank := fun _ _ _ h => h
  pstate := fun {t} n h => by
    refine ⟨State.regsOk_setF h.1 .., ?_⟩
    rw [State.f_setF_instances h.1 _ rfl]
    split
    · decide
    · exact h.2
  cause := fun {t} n c h => by
    refine ⟨State.regsOk_setF h.1 .., ?_⟩
    rw [State.f_setF_field h.1 (by rfl) rfl rfl (by decide)]
    exact h.2

/-! ### Slices -/

theorem State.endSlice_keeps (c : BankClo P) (k : P s) (n : Nat) : P (s.endSlice n) := by
  unfold State.endSlice
  split
  · exact k
  · rename_i sl _
    extract_lets ended restored copied m mapped
    have hended : P ended := c.clo.updStair rfl _ _ k
    have hrestored : P restored := by
      refine ite_p (fun _ => hended) fun _ => State.each_inv (c.clo.mono rfl) hended fun t j ht => ?_
      have hread := State.rowRead_inv (v1 := shadowBuf n j) (c.clo.mono rfl) ht
      generalize t.rowRead (shadowBuf n j) = x at hread ⊢
      exact State.rowWrite_inv (c.clo.mono rfl) hread
    have hcopied : P copied :=
      ite_p (fun _ => hrestored) fun _ => State.hazard_inv (c.clo.mono rfl) (c.updBank _ _ (fun _ => rfl) hrestored)
    exact c.clo.setF rfl (c.clo.setF rfl hcopied)

theorem State.restoreSlice_keeps (c : BankClo P) (k : P s) (n : Nat) : P (s.restoreSlice n) :=
  ite_p (fun _ => c.clo.inc rfl (State.endSlice_keeps c k n)) fun _ => k

/-! ### The safe state -/

theorem State.retain_keeps (c : BankClo P) (k : P s) (b cause : Nat) : P (s.retain b cause) := by
  unfold State.retain
  refine ite_p (fun _ => k) fun _ => ?_
  extract_lets l given answered
  have hgiven : P given := c.updBank _ _ (fun _ => rfl) k
  have hanswered : P answered := State.each_inv (c.clo.mono rfl) hgiven fun _ _ => State.respond_inv (c.clo.mono rfl)
  exact c.cause _ _ (ite_p (fun _ => hanswered) fun _ => c.pstate _ hanswered)

theorem State.stopUnits_keepsBanks (c : BankClo P) (k : P s) : P s.stopUnits := by
  unfold State.stopUnits
  refine c.clo.setF rfl (c.clo.setF rfl (State.each_inv (c.clo.mono rfl) (State.each_inv (c.clo.mono rfl)
    (State.each_inv (c.clo.mono rfl) (State.each_inv (c.clo.mono rfl) (State.each_inv (c.clo.mono rfl)
      (State.each_inv (c.clo.mono rfl) (State.each_inv (c.clo.mono rfl) (State.each_inv (c.clo.mono rfl) k
        fun _ _ => State.abandonLoad_inv (c.clo.mono rfl)) fun _ _ => State.abandonWindow_inv (c.clo.mono rfl))
        fun _ n h => State.restoreSlice_keeps c h n) fun t n h => ?rooms) fun _ b h => State.retain_keeps c h b 3)
        fun _ _ => State.stopEngine_inv (c.clo.mono rfl)) fun t k h => ?links) fun _ _ h => c.clo.updLink rfl _ _ h))
  case rooms =>
    exact ite_p (fun _ => State.stopAtEdge_inv (c.clo.mono rfl) h) fun _ => ite_p (fun _ => c.clo.setF rfl h) fun _ => h
  case links =>
    have hdown : P (if t.linkState k = 0 then t else (t.setLinkState k (downHeld k)).endLinkCmds k (· == 2) 0 []) :=
      ite_p (fun _ => h) fun _ => State.endLinkCmds_inv (c.clo.mono rfl) (State.setLinkState_inv (c.clo.mono rfl) h)
    exact ite_p (fun _ => c.clo.setF rfl hdown)
      fun _ => State.lanesOff_inv (c.clo.mono rfl) (c.clo.setF rfl (c.clo.setF rfl (c.clo.setF rfl hdown)))

/-- Bytes of the ring that do not reach a failed stair are logged with the bank. -/
theorem State.landBytes_keeps (c : BankClo P) (fuel : Nat) : ∀ {s : State} (a : Nat) (d : List Byte), P s →
    P (State.landBytes fuel a d s) := by
  induction fuel with
  | zero => exact fun _ _ k => k
  | succ fuel ih =>
    intro s a d k
    rw [State.landBytes]
    refine ite_p (fun _ => k) fun _ => ih _ _ ?_
    exact ite_p (fun _ => c.updBank _ _ (fun _ => rfl) k) fun _ => fst_p (State.writeWord_inv (c.clo.mono rfl) k)

theorem State.ringWrite_keeps (c : BankClo P) (k : P s) (now : Bool) (a : Nat) (d : List Byte) : P (s.ringWrite now a d) :=
  ite_p (fun _ => State.landBytes_keeps c _ _ _ k) fun _ => State.postSpan_inv (c.clo.mono rfl) k

theorem State.ringLand_keeps (c : BankClo P) (k : P s) : P s.ringLand :=
  State.each_inv (c.clo.mono rfl) (State.updNet_inv (c.clo.mono rfl) (State.setPosts_inv (c.clo.mono rfl) k))
    fun _ _ => State.landBytes_keeps c _ _ _

theorem State.putRing_keeps (c : BankClo P) (k : P s) (now : Bool) (r : List Byte) : P (State.putRing now s r) := by
  unfold State.putRing
  extract_lets +onlyGivenNames off fits
  refine ite_p (fun _ => k) fun _ => ?_
  refine ite_p (fun _ => c.clo.setF rfl k) fun _ => ?_
  extract_lets wrapped at' written counted
  have hwrapped : P wrapped := ite_p (fun _ => k) fun _ => c.clo.setF rfl k
  exact State.updRp_inv (c.clo.mono rfl) (c.clo.inc rfl (State.ringWrite_keeps c hwrapped _ _ _))

theorem State.endRecording_keeps (c : BankClo P) (k : P s) (kind source : Nat) : P (s.endRecording kind source true) := by
  have hlast : P ((s.ringLand.stampNow).pushRec kind source []) :=
    State.pushRec_inv (c.clo.mono rfl) (State.stampNow_inv (c.clo.mono rfl) (State.ringLand_keeps c k))
  have hflushed : P (((s.ringLand.stampNow).pushRec kind source []).flushRing true) :=
    State.each_inv (c.clo.mono rfl) (State.updRp_inv (c.clo.mono rfl) hlast) fun _ r h => State.putRing_keeps c h true r
  exact ite_p (fun _ => c.clo.setF rfl (State.ringWrite_keeps c (State.ringWrite_keeps c (State.ringWrite_keeps c hflushed ..) ..) ..))
    fun _ => k

theorem State.safeRecord_keeps (c : BankClo P) (k : P s) (cause : Nat) : P (s.safeRecord cause) := by
  have hmarked : P (if s.recording then s.setF Fld.RP_STATUS_SAFE 0 1 else s) := ite_p (fun _ => c.clo.setF rfl k) fun _ => k
  exact c.clo.setF rfl (c.clo.setF rfl (c.clo.setF rfl (c.clo.setF rfl (State.endRecording_keeps c hmarked ..))))

theorem State.enterSafe_keeps (c : BankClo P) (k : P s) (cause data status : Nat) : P (s.enterSafe cause data status) := by
  by_cases hsafe : s.safe = true
  · rwa [State.enterSafe, if_pos hsafe]
  · by_cases hpast : s.pastCommitPoint = true
    · rw [State.enterSafe, if_neg hsafe, if_pos hpast]
      exact State.updBoot_inv (c.clo.mono rfl) k
    · rw [State.enterSafe_eq cause data status (by simpa using hsafe) (by simpa using hpast)]
      exact State.event_inv (c.clo.mono rfl) (State.safeRecord_keeps c (State.stopUnits_keepsBanks c
        (State.safeBegun_inv (c.clo.mono rfl) k)) cause)

theorem State.booksFault_keeps (c : BankClo P) (k : P s) (book index : Nat) (delta : Int) (status : Nat) :
    P (s.booksFault book index delta status) :=
  State.enterSafe_keeps c (ite_p (fun _ => k) fun _ => c.clo.setF rfl (c.clo.setF rfl (c.clo.setF rfl (c.clo.setF rfl k)))) ..

/-! ### What waits for the end of a slice -/

theorem State.drainCheck_keeps (c : BankClo P) (k : P s) (b : Nat) : P (s.drainCheck b) := by
  have hstart (op : BankOp) : P (s.startWipe b op) := c.clo.setF rfl (c.updBank _ _ (fun _ => rfl) k)
  rcases s.drainCheck_cases b with hsame | hwipe | hwipe
  · rwa [hsame]
  · rw [hwipe]
    exact c.clo.setF rfl (hstart _)
  · rw [hwipe]
    exact hstart _

theorem State.ctmLeave_keeps (c : BankClo P) (k : P s) : P s.ctmLeave :=
  ite_p (fun _ => c.updBank _ _ (fun _ => rfl) k) fun _ => ite_p (fun _ => k)
    fun _ => c.clo.setF rfl (c.updBank _ _ (fun _ => rfl) (c.clo.setF rfl k))

theorem State.ctmEntered_keeps (c : BankClo P) (k : P s) (b : Nat) : P (s.ctmEntered b) := by
  refine ite_p (fun _ => ?_) fun _ => k
  have hanswered := State.each_inv (l := (s.bank b).ctmIn) (f := fun s r => s.respond r 0 []) (c.clo.mono rfl)
    (c.clo.setF (F := Fld.EC_CTM_CTRL_ENABLE) (i := 0) (v := 1) rfl
      (c.updBank b (fun k => { k with ctmWait := false, ctmIn := [] }) (fun _ => rfl) k)) fun _ _ => State.respond_inv (c.clo.mono rfl)
  exact ite_p (fun _ => State.ctmLeave_keeps c hanswered) fun _ => hanswered

theorem State.sliceEnded_keeps (c : BankClo P) (k : P s) (b : Nat) : P (s.sliceEnded b) :=
  State.drainCheck_keeps c (State.ctmEntered_keeps c k b) b

theorem State.cutSlice_keeps (c : BankClo P) (k : P s) (n : Nat) : P (s.cutSlice n) := by
  unfold State.cutSlice
  split
  · exact k
  · have hended (b : Nat) : P ((s.restoreSlice n).sliceEnded b) := State.sliceEnded_keeps c (State.restoreSlice_keeps c k n) b
    exact ite_p (fun _ => hended _) fun _ => State.enterSafe_keeps c (hended _) ..

end Sys2Proof.Machine

/-!
SUPPORT. Where the statement on the service lanes fails: a bank whose LB_OWNER the check bits cannot correct admits no request, that of
an agent which needs no ownership neither (R39, R106).
-/
namespace Sys2Proof.Machine
variable {s s' : State} {n : Nat} {p : Packet}

/-- An uncorrectable LB_OWNER tells nobody's permission: the request is denied, and the books have a fault. -/
theorem State.laneRequest_of_ownerBad (ht : s.take (128 + n) 0 = some (p, s')) (ha : addrForm p.type = true)
    (hb : p.addr / 0x800000 < 512) (hn : bankStair (p.addr / 0x800000) = n) (hbad : s.odBad (.owner (p.addr / 0x800000)) = true) :
    s.laneRequest n = (s'.laneDeny (128 + n) (p.addr / 0x800000) p).booksFault 9 0 0 := by
  rw [State.laneRequest, ht]
  show (if !addrForm p.type then _ else if _ then _ else _) = _
  rw [ha, if_neg (by decide), if_neg (by omega), if_pos hbad]

/-- Such a request is no service in progress. -/
theorem State.svc_laneRequest_of_ownerBad (ht : s.take (128 + n) 0 = some (p, s')) (ha : addrForm p.type = true)
    (hb : p.addr / 0x800000 < 512) (hn : bankStair (p.addr / 0x800000) = n) (hbad : s.odBad (.owner (p.addr / 0x800000)) = true) :
    (s.laneRequest n).svc = s.svc := by
  obtain ⟨bufs, books, hs'⟩ := State.take_cases ht
  have hsvc : s'.svc = s.svc := by rw [hs']
  rw [State.laneRequest_of_ownerBad ht ha hb hn hbad]
  exact State.booksFault_keeps (bankClo_svc s.svc) (State.laneDeny_inv ((bankClo_svc s.svc).clo.mono rfl) hsvc) ..

/-- The management processor reads one byte of bank 0. -/
def readOfBank0 : Packet :=
  { type := 0, vc := 0, flits := 1, dest := 0, len := 0, tag := 0, srcEp := 546, srcNode := 0, hops := 0, exit := 129 }

/-- The request waits at the endpoint of stair 0's service lane, and two check bits of bank 0's LB_OWNER are wrong. -/
def ownerBad : State :=
  { State.reset with
    net := { State.reset.net with bufs := [(bufKey (8 * epRouter 128 0 + 4) 0 0, [readOfBank0])] }
    odie := [(OnDie.key (.owner 0), 3)] }

theorem ownerBad_canon : ownerBad.canon := { State.canon_reset with odie := by decide }

theorem ownerBad_tables : ownerBad.tables := { State.tables_reset with bufs := by decide +kernel }

theorem take_ownerBad : ∃ s', ownerBad.take 128 0 = some (readOfBank0, s') := ⟨_, rfl⟩

/-- Refutes O24: the request of an agent with permission adds no access where the check bits cannot correct the bank's LB_OWNER. -/
theorem not_serviceLaneAccesses : ¬ Obligations.ServiceLaneAccesses := by
  intro h
  obtain ⟨s', htake⟩ := take_ownerBad
  obtain ⟨hadmitted, -⟩ := h ownerBad 0 ownerBad_canon ownerBad_tables (by decide)
  obtain ⟨u, hu, -, -, hentered, -⟩ := hadmitted readOfBank0 s' htake rfl (by decide) (by decide) (by decide +kernel) (by decide +kernel)
    (by decide +kernel) (by decide +kernel)
  have hexec : exec (.serviceLaneRequest 0) ownerBad = .next (ownerBad.laneRequest 0) := rfl
  cases Host.Outcome.next.inj (hexec.symm.trans hu)
  rw [State.svc_laneRequest_of_ownerBad htake rfl (by decide) (by decide) (by decide)] at hentered
  cases hentered

end Sys2Proof.Machine

/-!
SUPPORT. What the commands of a bank start (Table 05-8): a command enters before it acts, and what it reads of the bank is as before.
-/
namespace Sys2Proof.Machine
variable {s : State} {b : Nat}

/-! ### A command that enters -/

theorem entered_bank (s : State) (e : Ebryn) (b : Nat) : (s.entered e).bank b = s.bank b :=
  congrArg (fun banks => mget (fun _ => ({} : Bank)) banks b) ((entered_same s e).banks rfl)

theorem entered_room (s : State) (e : Ebryn) (n : Nat) : (s.entered e).room n = s.room n :=
  congrArg (fun rooms => mget (fun _ => ({} : Room)) rooms n) ((entered_same s e).rooms rfl)

theorem entered_plane (s : State) (e : Ebryn) (n p : Nat) : (s.entered e).plane n p = s.plane n p :=
  congrArg (Room.plane · p) (entered_room s e n)

theorem entered_sliceOn (s : State) (e : Ebryn) (b : Nat) : (s.entered e).sliceOn b = s.sliceOn b := by
  rw [State.sliceOn, State.sliceOn, State.stair, State.stair, (entered_same s e).stairs rfl]

theorem entered_owner (h : s.regsOk) (e : Ebryn) (b : Nat) : (s.entered e).owner b = s.owner b :=
  State.owner_of_rd (entered_rd h e rfl b)

theorem entered_handover (h : s.regsOk) (e : Ebryn) (b : Nat) : (s.entered e).handover b = s.handover b :=
  State.handover_of_rd (entered_rd h e rfl b)

theorem entered_fallowBank (h : s.regsOk) (e : Ebryn) (b : Nat) : (s.entered e).fallowBank b = s.fallowBank b := by
  rw [State.fallowBank, State.fallowBank, entered_f h e rfl]

theorem entered_retained (h : s.regsOk) (e : Ebryn) (b : Nat) : (s.entered e).retained b = s.retained b := by
  rw [State.retained, State.retained, entered_f h e rfl]

theorem entered_fallowOwner (h : s.regsOk) (e : Ebryn) (kind id : Nat) : (s.entered e).fallowOwner kind id = s.fallowOwner kind id := by
  rw [State.fallowOwner, State.fallowOwner, State.roomState, State.roomState, State.engState, State.engState, entered_f h e rfl,
    entered_f h e rfl, (entered_same s e).boot rfl]

theorem entered_ownerStatus (h : s.regsOk) (e : Ebryn) (b value : Nat) : (s.entered e).ownerStatus b value = s.ownerStatus b value := by
  have hreserved : (s.entered e).reserved b = s.reserved b := by
    rw [State.reserved, State.reserved, entered_f h e rfl, entered_f h e rfl]
  rw [State.ownerStatus, State.ownerStatus, entered_fallowOwner h, entered_fallowBank h, entered_owner h, hreserved,
    entered_handover h, entered_bank, entered_f h e rfl]

theorem entered_guestStatus (h : s.regsOk) (e : Ebryn) (b value : Nat) : (s.entered e).guestStatus b value = s.guestStatus b value := by
  rw [State.guestStatus, State.guestStatus, entered_handover h, State.dual, State.dual, entered_f h e rfl, entered_owner h]

/-- The checks of a command that names a bank which exists, where x is its second one. -/
theorem bankChecks_pass {x : Bool} (hb : b < 512) (hx : x = false) (st : Nat) : ∀ c ∈ [(decide (512 ≤ b), 3), (x, st)], c.1 = false := by
  intro c hc
  obtain rfl | rfl : c = (decide (512 ≤ b), 3) ∨ c = (x, st) := by simpa using hc
  · exact decide_eq_false (Nat.not_le.mpr hb)
  · exact hx

/-! ### BANK_OWNER and BANK_GUEST -/

def bankOwnerCommand (h : CmdHdr) (b value : Nat) : Ebryn := ⟨h, 0x0301, .r, argBytes [(6, 2, b), (8, 4, value)], false⟩
def bankGuestCommand (h : CmdHdr) (b value : Nat) : Ebryn := ⟨h, 0x0302, .r, argBytes [(6, 2, b), (8, 4, value)], false⟩

theorem exec_bankOwner_of_admitted {h : CmdHdr} {value : Nat} (ha : s.accepts (bankOwnerCommand h b value)) (hb : b < 512)
    (hring : (s.entered (bankOwnerCommand h b value)).ringBank b = false)
    (hstatus : (s.entered (bankOwnerCommand h b value)).ownerStatus b value = 0)
    (hbegun : ((s.entered (bankOwnerCommand h b value)).acceptHandover b value).handover b = true) :
    exec (.bankOwner h b value) s = .next (((s.entered (bankOwnerCommand h b value)).acceptHandover b value).updBank b
      fun k => { k with cmd := k.cmd ++ [h.ref] }) := by
  refine congrArg Host.Outcome.next ((submit_ok ha).trans ((checks_ok (bankChecks_pass hb hring 4)).trans ?_))
  rw [State.writeOwner, if_pos hstatus]
  exact (if_neg (by decide)).trans (if_pos hbegun)

/-- An accepted BANK_OWNER that names another owner. -/
theorem bankOwner_begins {h : CmdHdr} {value : Nat} (hs : s.canon) (hb : b < 512) (ha : s.accepts (bankOwnerCommand h b value))
    (hring : (s.entered (bankOwnerCommand h b value)).ringBank b = false) (hstatus : s.ownerStatus b value = 0)
    (hne : ({ kind := bits value 15 12, id := bits value 11 0 } : Owner) ≠ s.owner b) :
    ∃ u, exec (.bankOwner h b value) s = .next u ∧ u.handover b = true ∧
      u.nextOwner b = { kind := bits value 15 12, id := bits value 11 0 } ∧ u.owner b = s.owner b ∧
      (u.bank b).cmd = (s.bank b).cmd ++ [h.ref] := by
  have hentered := entered_canon hs (bankOwnerCommand h b value)
  have howner := entered_owner hs.regs (bankOwnerCommand h b value) b
  have hbegins := handoverBegins_acceptHandover (b := b) hentered (howner ▸ hne)
  refine ⟨_, exec_bankOwner_of_admitted ha hb hring ((entered_ownerStatus hs.regs _ b value).trans hstatus) hbegins.handover,
    hbegins.handover, hbegins.next, hbegins.owner.trans howner, ?_⟩
  rw [State.bank_updBank_same (State.acceptHandover_inv (clo_canon _ _) ⟨hentered, rfl⟩).1, hbegins.cmd, entered_bank]

/-- The guest that an accepted write of LB_GUEST leaves, or none. -/
theorem State.rd_writeGuest (h : s.regsOk) {value : Nat} (hstatus : s.guestStatus b value = 0) :
    (s.writeGuest b value).2.rd .LB_GUEST b = if bit value 31 = 0 then 0 else BitVec.ofNat 32 (2 ^ 31 + bits value 15 0) := by
  rw [State.writeGuest, if_neg (by omega)]
  split
  · exact State.rd_wr_same h ..
  · exact State.rd_wr_same h ..

theorem State.canon_writeGuest (h : s.canon) (value : Nat) : (s.writeGuest b value).2.canon :=
  (snd_p (State.writeGuest_inv (clo_canon s.pending _) ⟨h, rfl⟩)).1

theorem exec_bankGuest {h : CmdHdr} {value : Nat} (ha : s.accepts (bankGuestCommand h b value)) (hb : b < 512) :
    exec (.bankGuest h b value) s = .next (((s.entered (bankGuestCommand h b value)).writeGuest b value).2.respond h.ref
      ((s.entered (bankGuestCommand h b value)).writeGuest b value).1 []) :=
  congrArg Host.Outcome.next ((submit_ok ha).trans (checks_ok fun c hc => by
    rw [List.mem_singleton.1 hc]
    exact decide_eq_false (Nat.not_le.mpr hb)))

/-- An accepted BANK_GUEST of a guest that may be one, or of none. -/
theorem bankGuest_writes {h : CmdHdr} {value : Nat} (hs : s.canon) (hb : b < 512) (ha : s.accepts (bankGuestCommand h b value))
    (hstatus : s.guestStatus b value = 0) : ∃ u, exec (.bankGuest h b value) s = .next u ∧
      u.rd .LB_GUEST b = if bit value 31 = 0 then 0 else BitVec.ofNat 32 (2 ^ 31 + bits value 15 0) := by
  have hentered := entered_canon hs (bankGuestCommand h b value)
  refine ⟨_, exec_bankGuest ha hb, ?_⟩
  rw [respond_rd (State.canon_writeGuest hentered value).regs _ _ _ (by decide)]
  exact State.rd_writeGuest hentered.regs ((entered_guestStatus hs.regs _ b value).trans hstatus)

/-! ### BANK_RETAIN -/

def bankRetainCommand (h : CmdHdr) (b : Nat) : Ebryn := ⟨h, 0x0303, .r, argBytes [(6, 2, b)], false⟩

/-- Bank b is on its way into retention by command; the commands in l wait for it to arrive. -/
structure RetentionBegins (b : Nat) (l : List CmdRef) (t : State) : Prop where
  pstate : t.f Fld.LB_PWR_PSTATE b = 1
  cause : t.f Fld.LB_PWR_CAUSE b = 1
  waits : (t.bank b).retCmd = l

/-- The bank with retention by command asked for. -/
def State.retentionAsked (s : State) (b : Nat) : State :=
  (s.setF Fld.LB_PWR_RET_REQ b 1).updBank b fun k => { k with wakeWait := false }

/-- The bank on its way into retention by command, unless it is retained already. -/
def State.retentionNoted (s : State) (b : Nat) : State :=
  (if (s.retentionAsked b).retained b then s.retentionAsked b else (s.retentionAsked b).setF Fld.LB_PWR_PSTATE b 1).setF
    Fld.LB_PWR_CAUSE b 1

theorem State.askRetain_eq (hkind : (s.owner b).kind ≠ 2) (hkind' : (s.owner b).kind ≠ 3) (hfallow : s.fallowBank b = false) :
    s.askRetain b =
      (0, ((if s.sliceOn b then s.cutSlice (bankStair b) else s).retentionNoted b).retainQueue b) :=
  if_neg (by simp [hkind, hkind', hfallow])

theorem State.canon_retentionAsked (h : s.canon) (b : Nat) : (s.retentionAsked b).canon :=
  State.canon_updBank (State.canon_setF h ..) ..

theorem State.canon_retentionNoted (h : s.canon) (b : Nat) : (s.retentionNoted b).canon :=
  State.canon_setF (ite_p (Q := State.canon) (fun _ => State.canon_retentionAsked h b)
    fun _ => State.canon_setF (State.canon_retentionAsked h b) ..) ..

theorem retentionBegins_setCause (h : s.regsOk) (hp : s.f Fld.LB_PWR_PSTATE b = 1) :
    RetentionBegins b (s.bank b).retCmd (s.setF Fld.LB_PWR_CAUSE b 1) where
  pstate := by rw [State.f_setF_field h (by rfl) rfl rfl (by decide), hp]
  cause := State.f_setF_same h _ rfl ..
  waits := rfl

theorem retentionBegins_noted (h : s.canon) (hp : s.f Fld.LB_PWR_PSTATE b ≤ 1) :
    RetentionBegins b (s.bank b).retCmd (s.retentionNoted b) := by
  have hasked := (State.canon_retentionAsked h b).regs
  have hpower : (s.retentionAsked b).f Fld.LB_PWR_PSTATE b = s.f Fld.LB_PWR_PSTATE b := by
    rw [State.retentionAsked, State.updBank_f_of, State.f_setF_field h.regs (by rfl) rfl rfl (by decide)]
  have hwaits : ((s.retentionAsked b).bank b).retCmd = (s.bank b).retCmd := by
    rw [State.retentionAsked, State.bank_updBank_same (State.canon_setF h ..), State.setF_bank_of]
  rw [← hwaits, State.retentionNoted]
  split
  case isTrue hret =>
    have hret : (s.retentionAsked b).f Fld.LB_PWR_PSTATE b = 1 ∨ (s.retentionAsked b).f Fld.LB_PWR_PSTATE b = 2 := by
      simpa [State.retained] using hret
    exact retentionBegins_setCause hasked (by omega)
  case isFalse => exact retentionBegins_setCause (State.regsOk_setF hasked ..) (State.f_setF_same hasked _ rfl ..)

theorem State.retCmd_refuseQueued (h : s.canon) : ((s.refuseQueued b).bank b).retCmd = (s.bank b).retCmd := by
  have hemptied : ((s.updBank b fun k => { k with q := [], loss := 0 }).bank b).retCmd = (s.bank b).retCmd := by
    rw [State.bank_updBank_same h]
  refine foldl_p (Q := fun t : State => (t.bank b).retCmd = (s.bank b).retCmd) (fun t id ht => ?_) hemptied
  have keeps := clo_banks (m := besideBanks)
    (fun banks _ => (mget (fun _ => ({} : Bank)) banks b).retCmd = (s.bank b).retCmd) rfl rfl
  split
  · exact State.laneDeny_inv (keeps.mono rfl) ht
  · exact ht

/-- The accesses that wait in the bank's queue are refused or wake it: neither changes how it came to retention. -/
theorem retentionBegins_retainQueue (h : s.canon) {l : List CmdRef} (hs : RetentionBegins b l s) :
    RetentionBegins b l (s.retainQueue b) := by
  obtain ⟨hpstate, hcause, hwaits⟩ := hs
  rw [State.retainQueue]
  refine ite_p (Q := RetentionBegins b l) (fun _ => ⟨hpstate, hcause, hwaits⟩) fun _ => ?_
  split
  · refine ⟨?_, ?_, ?_⟩
    · rw [State.askWake, State.updBank_f_of, State.f_setF_field h.regs (by rfl) rfl rfl (by decide), hpstate]
    · rw [State.askWake, State.updBank_f_of, State.f_setF_field h.regs (by rfl) rfl rfl (by decide), hcause]
    · rw [State.askWake, State.bank_updBank_same (State.canon_setF h ..), State.setF_bank_of, hwaits]
  · have hword : (s.refuseQueued b).rd .LB_PWR b = s.rd .LB_PWR b :=
      (State.refuseQueued_inv (clo_rd s .LB_PWR b rfl rfl rfl) ⟨h.regs, rfl⟩).2
    exact ⟨(State.f_of_rd (F := Fld.LB_PWR_PSTATE) rfl hword).trans hpstate,
      (State.f_of_rd (F := Fld.LB_PWR_CAUSE) rfl hword).trans hcause, (State.retCmd_refuseQueued h).trans hwaits⟩
  · exact ⟨hpstate, hcause, hwaits⟩

/-- A slice on the bank ends first, which may lead to the safe state, and with it the bank into retention. -/
theorem retentionBegins_askRetain (h : s.canon) (hkind : (s.owner b).kind ≠ 2) (hkind' : (s.owner b).kind ≠ 3)
    (hfallow : s.fallowBank b = false) (hp : s.f Fld.LB_PWR_PSTATE b = 0) :
    (s.askRetain b).1 = 0 ∧ RetentionBegins b (s.bank b).retCmd (s.askRetain b).2 := by
  rw [State.askRetain_eq hkind hkind' hfallow]
  refine ⟨rfl, ?_⟩
  let cut := if s.sliceOn b then s.cutSlice (bankStair b) else s
  have hcut : cut.canon := by
    show State.canon (if _ then _ else _)
    exact ite_p (fun _ => (State.cutSlice_inv (clo_canon s.pending _) ⟨h, rfl⟩).1) fun _ => h
  have hpower : cut.f Fld.LB_PWR_PSTATE b ≤ 1 := by
    have hactive : s.regsOk ∧ s.f Fld.LB_PWR_PSTATE b ≤ 1 := ⟨h.regs, by omega⟩
    exact (ite_p (Q := fun t : State => t.regsOk ∧ t.f Fld.LB_PWR_PSTATE b ≤ 1)
      (fun _ => State.cutSlice_keeps (bankClo_pstate b) hactive _) fun _ => hactive).2
  have hwaits : (cut.bank b).retCmd = (s.bank b).retCmd :=
    (ite_p (Q := fun t : State => mwf (fun _ => ({} : Bank)) t.banks = true ∧ (t.bank b).retCmd = (s.bank b).retCmd)
      (fun _ => State.cutSlice_keeps (bankClo_retCmd b _) ⟨h.banks, rfl⟩ _) fun _ => ⟨h.banks, rfl⟩).2
  have hnoted := retentionBegins_noted hcut hpower
  rw [hwaits] at hnoted
  exact retentionBegins_retainQueue (State.canon_retentionNoted hcut b) hnoted

theorem exec_bankRetain_of_begun {h : CmdHdr} (ha : s.accepts (bankRetainCommand h b)) (hb : b < 512)
    (hring : (s.entered (bankRetainCommand h b)).ringBank b = false)
    (hstatus : ((s.entered (bankRetainCommand h b)).askRetain b).1 = 0)
    (hbegun : ((s.entered (bankRetainCommand h b)).askRetain b).2.f Fld.LB_PWR_PSTATE b = 1) :
    exec (.bankRetain h b) s = .next (((s.entered (bankRetainCommand h b)).askRetain b).2.updBank b
      fun k => { k with retCmd := k.retCmd ++ [h.ref] }) :=
  congrArg Host.Outcome.next ((submit_ok ha).trans ((checks_ok (bankChecks_pass hb hring 4)).trans
    ((if_neg (not_not.2 hstatus)).trans (if_neg fun hthere => absurd (hbegun.symm.trans hthere) (by decide)))))

/-- An accepted BANK_RETAIN of an active bank. -/
theorem bankRetain_begins {h : CmdHdr} (hs : s.canon) (hb : b < 512) (ha : s.accepts (bankRetainCommand h b))
    (hring : (s.entered (bankRetainCommand h b)).ringBank b = false) (hkind : (s.owner b).kind ≠ 2) (hkind' : (s.owner b).kind ≠ 3)
    (hfallow : s.fallowBank b = false) (hp : s.f Fld.LB_PWR_PSTATE b = 0) :
    ∃ u, exec (.bankRetain h b) s = .next u ∧ RetentionBegins b ((s.bank b).retCmd ++ [h.ref]) u := by
  have hentered := entered_canon hs (bankRetainCommand h b)
  have howner := entered_owner hs.regs (bankRetainCommand h b) b
  obtain ⟨hstatus, hpstate, hcause, hwaits⟩ := retentionBegins_askRetain hentered (howner ▸ hkind) (howner ▸ hkind')
    ((entered_fallowBank hs.regs _ b).trans hfallow) ((entered_f hs.regs _ rfl b).trans hp)
  refine ⟨_, exec_bankRetain_of_begun ha hb hring hstatus hpstate, hpstate, hcause, ?_⟩
  have hcanon := (snd_p (State.askRetain_inv (v1 := b) (clo_canon _ _) ⟨hentered, rfl⟩)).1
  rw [State.bank_updBank_same hcanon, hwaits, entered_bank]

/-! ### BANK_WAKE -/

def bankWakeCommand (h : CmdHdr) (b : Nat) : Ebryn := ⟨h, 0x0304, .r, argBytes [(6, 2, b)], false⟩

theorem State.askWakeCmd_of_retained (hretained : s.retained b = true) (hcause : s.f Fld.LB_PWR_CAUSE b = 1) :
    s.askWakeCmd b = s.askWake b := if_pos (by simp [hretained, hcause])

theorem State.f_askWake (h : s.regsOk) {F : Field} (hreg : F.reg = .LB_PWR) (hF : F.ok = true)
    (hd : Fld.LB_PWR_RET_REQ.hi < F.lo ∨ F.hi < Fld.LB_PWR_RET_REQ.lo) (i : Nat) : (s.askWake b).f F i = s.f F i := by
  rw [State.askWake, State.updBank_f_of, State.f_setF_field h hreg rfl hF hd]

theorem State.canon_askWake (h : s.canon) (b : Nat) : (s.askWake b).canon := State.canon_updBank (State.canon_setF h ..) ..

theorem State.bank_askWake (h : s.canon) (b : Nat) : (s.askWake b).bank b = { s.bank b with wakeWait := true } := by
  rw [State.askWake, State.bank_updBank_same (State.canon_setF h ..), State.setF_bank_of]

theorem exec_bankWake_of_retained {h : CmdHdr} (ha : s.accepts (bankWakeCommand h b)) (hb : b < 512)
    (hretained : (s.entered (bankWakeCommand h b)).retained b = true)
    (hcause : (s.entered (bankWakeCommand h b)).f Fld.LB_PWR_CAUSE b = 1)
    (hwakes : ((s.entered (bankWakeCommand h b)).askWake b).f Fld.LB_PWR_PSTATE b ≠ 0) :
    exec (.bankWake h b) s = .next (((s.entered (bankWakeCommand h b)).askWake b).updBank b
      fun k => { k with wakeCmd := k.wakeCmd ++ [h.ref] }) := by
  refine congrArg Host.Outcome.next ((submit_ok ha).trans ((checks_ok (bankChecks_pass hb ?_ 4)).trans ?_))
  · simp [hcause]
  · rw [State.askWakeCmd_of_retained hretained hcause]
    exact if_neg hwakes

/-- An accepted BANK_WAKE of a bank that a command retained. -/
theorem bankWake_asks {h : CmdHdr} (hs : s.canon) (hb : b < 512) (ha : s.accepts (bankWakeCommand h b))
    (hretained : s.retained b = true) (hcause : s.f Fld.LB_PWR_CAUSE b = 1) :
    ∃ u, exec (.bankWake h b) s = .next u ∧ (u.bank b).wakeWait = true ∧ u.f Fld.LB_PWR_RET_REQ b = 0 ∧
      (u.bank b).wakeCmd = (s.bank b).wakeCmd ++ [h.ref] := by
  have hentered := entered_canon hs (bankWakeCommand h b)
  have hpstate : ((s.entered (bankWakeCommand h b)).askWake b).f Fld.LB_PWR_PSTATE b = s.f Fld.LB_PWR_PSTATE b := by
    rw [State.f_askWake hentered.regs rfl rfl (by decide), entered_f hs.regs _ rfl]
  have hwakes : s.f Fld.LB_PWR_PSTATE b ≠ 0 := fun h0 => by simp [State.retained, h0] at hretained
  refine ⟨_, exec_bankWake_of_retained ha hb ((entered_retained hs.regs _ b).trans hretained)
    ((entered_f hs.regs _ rfl b).trans hcause) (hpstate ▸ hwakes), ?_⟩
  rw [State.bank_updBank_same (State.canon_askWake hentered b), State.bank_askWake hentered, entered_bank, State.updBank_f_of,
    State.askWake, State.updBank_f_of, State.f_setF_same hentered.regs _ rfl]
  exact ⟨rfl, rfl, rfl⟩

/-! ### BANK_WIPE -/

def bankWipeCommand (h : CmdHdr) (b : Nat) : Ebryn := ⟨h, 0x0305, .r, argBytes [(6, 2, b)], false⟩

theorem mget_mmapv {α : Type} [DecidableEq α] {d : Nat → α} {f : Nat → α → α} (hd : ∀ k, f k (d k) = d k) (j : Nat) :
    ∀ {m : SMap α} {lo : Nat}, mwfFrom d lo m = true → mget d (mmapv d f m) j = f j (mget d m j)
  | [], _, _ => (hd j).symm
  | (k, v) :: t, lo, hw => by
    simp only [mwfFrom, Bool.and_eq_true, decide_eq_true_eq] at hw
    obtain ⟨-, ht⟩ := hw
    have hcons : mmapv d f ((k, v) :: t) = mcons d k (f k v) (mmapv d f t) := by
      by_cases hv : f k v = d k <;> simp [mmapv, mcons, hv]
    have hkeys : ∀ e ∈ mmapv d f t, k < e.1 := by
      intro e he
      obtain ⟨x, hx, hfx⟩ := List.mem_filterMap.1 he
      obtain ⟨-, rfl⟩ : ¬ f x.1 x.2 = d x.1 ∧ (x.1, f x.1 x.2) = e := by simpa using hfx
      exact mwfFrom_le ht x hx
    rw [hcons, mget_mcons hkeys, mget_mmapv hd j ht, mget]
    rcases Nat.lt_trichotomy j k with hlt | rfl | hgt
    · rw [if_neg hlt.ne, if_pos hlt, if_neg hlt.ne', if_pos hlt, hd]
    · rw [if_pos rfl, if_pos rfl]
    · rw [if_neg hgt.ne', if_neg hgt.not_gt, if_neg hgt.ne, if_neg hgt.not_gt]

/-- A plane's waiting rows, those of bank b waiting no longer for the operation on it. -/
def Plane.admitRows (b : Nat) (p : Plane) : Plane :=
  { p with rowQ := p.rowQ.map fun q => if q.bank = b then { q with late := false } else q }

theorem State.planes_admitLate (h : s.canon) (b : Nat) : ((s.admitLate b).room (bankStair b)).planes =
    mmapv (fun _ => ({} : Plane)) (fun _ => Plane.admitRows b) (s.room (bankStair b)).planes :=
  congrArg Room.planes (State.room_updRoom_same (State.canon_updBank h b _) ..)

theorem State.plane_admitLate (h : s.canon) (hplanes : ∀ n, mwf (fun _ => ({} : Plane)) (s.room n).planes = true) (b p : Nat) :
    (s.admitLate b).plane (bankStair b) p = (s.plane (bankStair b) p).admitRows b := by
  rw [State.plane, Room.plane, State.planes_admitLate h]
  exact mget_mmapv (d := fun _ => ({} : Plane)) (f := fun _ => Plane.admitRows b) (fun _ => rfl) p (hplanes _)

theorem State.canon_startWipe (h : s.canon) (b : Nat) (op : BankOp) : (s.startWipe b op).canon :=
  State.canon_setF (State.canon_updBank h ..) ..

theorem State.bank_startWipe (h : s.canon) (b : Nat) (op : BankOp) : (s.startWipe b op).bank b = { s.bank b with op := op } := by
  rw [State.startWipe, State.setF_bank_of, State.bank_updBank_same h]

theorem State.drained_of_empty (hq : (s.bank b).q = []) (hrows : ∀ p, p < 4 → (s.plane (bankStair b) p).rowQ = []) :
    s.drained b = true := by
  rw [State.drained, hq]
  refine Bool.and_eq_true_iff.2 ⟨rfl, List.all_eq_true.2 fun p hp => ?_⟩
  rw [hrows p (List.mem_range.1 hp)]
  rfl

/-- A drained bank in no retention, which no slice holds, starts the wipe that it drained for. -/
theorem State.drainCheck_of_wipeDrain (hdrained : s.drained b = true) (hretained : s.retained b = false) (hslice : s.sliceOn b = false)
    (hop : (s.bank b).op = .wipeDrain) : s.drainCheck b = s.startWipe b .wipe := by
  rw [State.drainCheck, if_neg (by simp [hdrained, hretained, hslice]), hop]

/-- The bank on its way into a wipe. -/
def State.wipeAsked (s : State) (b : Nat) : State := (s.admitLate b).updBank b fun k => { k with op := .wipeDrain }

theorem State.canon_wipeAsked (h : s.canon) (b : Nat) : (s.wipeAsked b).canon := State.canon_updBank (State.canon_admitLate h b) ..

theorem State.bank_wipeAsked (h : s.canon) (b : Nat) : (s.wipeAsked b).bank b =
    { s.bank b with q := (s.bank b).q.map fun a => { a with late := false }, op := .wipeDrain } := by
  rw [State.wipeAsked, State.bank_updBank_same (State.canon_admitLate h b), State.bank_admitLate h]

/-- A wipe of a bank without work starts at once. -/
theorem State.askWipe_of_idle (h : s.canon) (hplanes : ∀ n, mwf (fun _ => ({} : Plane)) (s.room n).planes = true)
    (hfallow : s.fallowBank b = false) (hp : s.f Fld.LB_PWR_PSTATE b = 0) (hhandover : s.handover b = false)
    (hop : (s.bank b).op = .none) (hbusy : s.f Fld.LB_STATUS_WIPE_BUSY b = 0) (hq : (s.bank b).q = [])
    (hrows : ∀ p, p < 4 → (s.plane (bankStair b) p).rowQ = []) (hslice : s.sliceOn b = false) :
    s.askWipe b = (0, (s.wipeAsked b).startWipe b .wipe) := by
  have hdrained : (s.wipeAsked b).drained b = true :=
    State.drained_of_empty (by rw [State.bank_wipeAsked h, hq]; rfl) fun p hp => by
      show ((s.admitLate b).plane (bankStair b) p).rowQ = []
      rw [State.plane_admitLate h hplanes, Plane.admitRows, hrows p hp]
      rfl
  have hretained : (s.wipeAsked b).retained b = false := by
    have hactive : (s.wipeAsked b).f Fld.LB_PWR_PSTATE b = 0 := hp
    rw [State.retained, hactive]
    rfl
  have hwipes := State.drainCheck_of_wipeDrain hdrained hretained hslice (by rw [State.bank_wipeAsked h])
  rw [State.askWipe, if_neg (by simp [hfallow]), if_neg (by omega), if_neg (by simp [hhandover, hop, hbusy])]
  exact congrArg (Prod.mk 0) hwipes

theorem exec_bankWipe_of_begun {h : CmdHdr} {u : State} (ha : s.accepts (bankWipeCommand h b)) (hb : b < 512)
    (hring : (s.entered (bankWipeCommand h b)).ringBank b = false)
    (hbegun : (s.entered (bankWipeCommand h b)).askWipe b = (0, u)) :
    exec (.bankWipe h b) s = .next (u.updBank b fun k => { k with cmd := k.cmd ++ [h.ref] }) := by
  refine congrArg Host.Outcome.next ((submit_ok ha).trans ((checks_ok (bankChecks_pass hb hring 4)).trans ?_))
  rw [hbegun]
  exact if_neg (by decide)

/-- An accepted BANK_WIPE of an active bank with nothing to drain. -/
theorem bankWipe_starts {h : CmdHdr} (hs : s.canon) (hplanes : ∀ n, mwf (fun _ => ({} : Plane)) (s.room n).planes = true)
    (hb : b < 512) (ha : s.accepts (bankWipeCommand h b)) (hring : (s.entered (bankWipeCommand h b)).ringBank b = false)
    (hfallow : s.fallowBank b = false) (hp : s.f Fld.LB_PWR_PSTATE b = 0) (hhandover : s.handover b = false)
    (hop : (s.bank b).op = .none) (hbusy : s.f Fld.LB_STATUS_WIPE_BUSY b = 0) (hq : (s.bank b).q = [])
    (hrows : ∀ p, p < 4 → (s.plane (bankStair b) p).rowQ = []) (hslice : s.sliceOn b = false) :
    ∃ u, exec (.bankWipe h b) s = .next u ∧ u.f Fld.LB_STATUS_WIPE_BUSY b = 1 ∧ (u.bank b).op = .wipe ∧
      (u.bank b).cmd = (s.bank b).cmd ++ [h.ref] := by
  have hentered := entered_canon hs (bankWipeCommand h b)
  have hasked := State.canon_wipeAsked hentered b
  have hidle := State.askWipe_of_idle hentered (fun n => by rw [entered_room]; exact hplanes n)
    ((entered_fallowBank hs.regs _ b).trans hfallow) ((entered_f hs.regs _ rfl b).trans hp)
    ((entered_handover hs.regs _ b).trans hhandover) (by rw [entered_bank, hop]) ((entered_f hs.regs _ rfl b).trans hbusy)
    (by rw [entered_bank, hq]) (fun p hp => by rw [entered_plane, hrows p hp]) ((entered_sliceOn s _ b).trans hslice)
  refine ⟨_, exec_bankWipe_of_begun ha hb hring hidle, ?_⟩
  rw [State.bank_updBank_same (State.canon_startWipe hasked ..), State.bank_startWipe hasked, State.bank_wipeAsked hentered,
    entered_bank, State.updBank_f_of, State.startWipe, State.f_setF_same (State.regsOk_updBank hasked.regs ..) _ rfl]
  exact ⟨rfl, rfl, rfl⟩

/-- Settles O28, command by command: each starts what it names, and those that take time join the commands that wait for the bank. -/
theorem bankCommandsStartTheirWork : Obligations.BankCommandsStartTheirWork := by
  intro s h b value hs htables hb
  refine ⟨?owner, ?guest, ?retain, ?wake, ?wipe⟩
  case owner => exact fun ha hring hstatus hne => bankOwner_begins hs hb ha hring hstatus hne
  case guest => exact fun ha hstatus => bankGuest_writes hs hb ha hstatus
  case retain =>
    intro e ha hring hkind hkind' hfallow hp
    obtain ⟨u, hu, hpstate, hcause, hwaits⟩ := bankRetain_begins hs hb ha hring hkind hkind' hfallow hp
    exact ⟨u, hu, hpstate, hcause, hwaits⟩
  case wake => exact fun ha hretained hcause => bankWake_asks hs hb ha hretained hcause
  case wipe =>
    exact fun ha hring hfallow hp hhandover hop hbusy hq hrows hslice =>
      bankWipe_starts hs htables.planes hb ha hring hfallow hp hhandover hop hbusy hq hrows hslice

end Sys2Proof.Machine

/-!
SUPPORT. Where the statement on the mowing round and checker test mode fails: its clause on the response of CHECKER_MODE leaves out
the command that a replay injects, whose response is discarded (R429).
-/
namespace Sys2Proof.Machine
variable {s : State}

/-- CHECKER_MODE as an Ebryn command. -/
def checkerModeCommand (h : CmdHdr) (bank enable rawRead : Nat) : Ebryn :=
  ⟨h, 0x0B10, .r, argBytes [(6, 2, bank), (8, 1, enable), (9, 1, rawRead)], false⟩

/-- No entry waits on a bank without a slice (R134, Table 16-9). -/
theorem State.ctmWait_ctmEnter_of_noSlice {b : Nat} (hslice : s.sliceOn b = false) (raw : Nat) :
    ((s.ctmEnter b raw).bank b).ctmWait = (s.bank b).ctmWait := by
  have hkept : (s.ctmEnter b raw).banks = s.banks :=
    (congrArg State.banks (if_neg (Bool.eq_false_iff.mp hslice))).trans rfl
  rw [State.bank, hkept, State.bank]

theorem State.ctmAsk_of_allowed {b : Nat} (hstatus : s.ctmStatus b = 0) (raw : Nat) : s.ctmAsk b raw = (0, s.ctmEnter b raw) :=
  if_neg (not_not_intro hstatus)

/-- An accepted entry to checker test mode on a bank that allows it and holds no slice is answered at once (R134). -/
theorem exec_checkerMode_of_allowed {h : CmdHdr} {b raw : Nat} (ha : s.accepts (checkerModeCommand h b 1 raw)) (hb : b < 512)
    (hraw : raw < 2) (hstatus : (s.entered (checkerModeCommand h b 1 raw)).ctmStatus b = 0)
    (hslice : (s.entered (checkerModeCommand h b 1 raw)).sliceOn b = false)
    (hidle : ((s.entered (checkerModeCommand h b 1 raw)).bank b).ctmWait = false) :
    exec (.checkerMode h b 1 raw) s =
      .next (((s.entered (checkerModeCommand h b 1 raw)).ctmEnter b raw).respond h.ref 0 []) := by
  refine congrArg Host.Outcome.next ((submit_ok ha).trans ((checks_ok fun x hx => ?_).trans ?_))
  · obtain rfl | rfl | rfl : x = (decide (512 ≤ b), 3) ∨ x = (decide (2 ≤ 1), 3) ∨ x = (decide (2 ≤ raw), 3) := by simpa using hx
    · exact decide_eq_false (Nat.not_le.mpr hb)
    · rfl
    · exact decide_eq_false (Nat.not_le.mpr hraw)
  · rw [if_pos rfl, State.ctmAsk_of_allowed hstatus]
    refine if_neg fun hwaits => ?_
    rw [State.ctmWait_ctmEnter_of_noSlice hslice, hidle] at hwaits
    exact Bool.false_ne_true hwaits.2

/-- The replaying stack at debug level 2, with bank 0 owned by the management processor, so that bank 0 allows checker test mode. -/
def replayAllowsCtm : State := (replayInjects.setF Fld.LC_DEBUG_LEVEL 0 2).setF Fld.LB_OWNER_KIND 0 3

theorem replayAllowsCtm_canon : replayAllowsCtm.canon := { replayInjects_canon with regs := by decide +kernel }
theorem replayAllowsCtm_tables : replayAllowsCtm.tables := { replayInjects_tables with }

/-- The command of the record: port 0 asks for checker test mode on bank 0. -/
def injectedCtm : Ebryn := checkerModeCommand injectedHdr 0 1 0

theorem replayAllowsCtm_accepts : replayAllowsCtm.accepts injectedCtm :=
  ⟨⟨by decide, by decide +kernel, rfl⟩, by decide +kernel⟩

/-- The state in which bank 0 is in the mode and the injected command is not answered yet. -/
def injectedInCtm : State := (replayAllowsCtm.entered injectedCtm).ctmEnter 0 0

theorem exec_injectedCtm :
    exec (.checkerMode injectedHdr 0 1 0) replayAllowsCtm = .next (injectedInCtm.respond injectedHdr.ref 0 []) :=
  exec_checkerMode_of_allowed replayAllowsCtm_accepts (by decide) (by decide) (by decide +kernel) (by decide +kernel)
    (by decide +kernel)

/-- Refutes O44: the response of a CHECKER_MODE that a replay injects on port 0 is discarded, so that nothing joins the port's
responses. -/
theorem not_mowingAndCheckerTestMode : ¬ Obligations.MowingAndCheckerTestMode := by
  intro h
  obtain ⟨-, -, -, -, -, -, hmode, -⟩ := h replayAllowsCtm (.bank 0) 0 replayAllowsCtm_canon replayAllowsCtm_tables
  obtain ⟨henters, -⟩ := hmode injectedHdr 1 0 replayAllowsCtm_accepts (by decide) (by decide)
  obtain ⟨u, hu, -, -, -, hrsp⟩ := henters rfl (by decide +kernel) (by decide +kernel) (by decide +kernel) (by decide +kernel)
  cases Host.Outcome.next.inj (exec_injectedCtm.symm.trans hu)
  obtain ⟨q, hq, hinjected⟩ : ∃ q, injectedInCtm.inprogOf injectedHdr.ref = some q ∧ q.injected = true :=
    ⟨_, (Option.some_get (by decide +kernel)).symm, by decide +kernel⟩
  have hkept := State.respond_rsp_of_injected hq hinjected 0 []
  have hempty : mget (fun _ => []) injectedInCtm.mail.rsp 0 = [] := by decide +kernel
  have hjoined := hrsp rfl
  rw [hkept, hempty] at hjoined
  exact List.append_ne_nil_of_right_ne_nil _ (List.cons_ne_nil _ _) hjoined.symm

end Sys2Proof.Machine

/-!
SUPPORT. Routes on the torus (R144): the port that a router takes, and the hops that are left, which every step makes one fewer.
-/
namespace Sys2Proof.Machine
variable {r d : Nat}

/-! ### The port that a router takes -/

theorem nextPort_of_column (h : r % 12 ≠ d % 12) :
    nextPort r d = if (d % 12 + 12 - r % 12) % 12 ≤ 6 then 0 else 2 :=
  if_pos (by omega)

theorem nextPort_of_row (hr : r < 144) (hd : d < 144) (hcolumn : r % 12 = d % 12) (hrow : r / 12 ≠ d / 12) :
    nextPort r d = if (d / 12 + 12 - r / 12) % 12 ≤ 6 then 1 else 3 :=
  (if_neg (by omega)).trans (if_pos (by omega))

theorem nextPort_self (r : Nat) : nextPort r r = 4 :=
  (if_neg (by omega)).trans (if_neg (by omega))

/-! ### The hops that are left -/

/-- Hops between places a and b of a ring of 12, the shorter way round. -/
def ringHops (a b : Nat) : Nat := min ((b + 12 - a) % 12) ((a + 12 - b) % 12)

theorem ringHops_le (a b : Nat) : ringHops a b ≤ 6 := by
  unfold ringHops
  omega

theorem ringHops_up {a b : Nat} (ha : a < 12) (hb : b < 12) (hne : a ≠ b) (hnear : (b + 12 - a) % 12 ≤ 6) :
    ringHops ((a + 1) % 12) b + 1 = ringHops a b := by
  unfold ringHops
  omega

theorem ringHops_down {a b : Nat} (ha : a < 12) (hb : b < 12) (hfar : ¬(b + 12 - a) % 12 ≤ 6) :
    ringHops ((a + 11) % 12) b + 1 = ringHops a b := by
  unfold ringHops
  omega

/-- Hops between two routers: those along x and those along y. -/
def torusHops (r d : Nat) : Nat := ringHops (r % 12) (d % 12) + ringHops (r / 12) (d / 12)

theorem torusHops_le (r d : Nat) : torusHops r d ≤ 12 := Nat.add_le_add (ringHops_le ..) (ringHops_le ..)

/-- The router at which a packet for router d stands after one hop, if it is not there. -/
def routeStep (d x : Nat) : Nat := if nextPort x d = 4 then x else neighbor x (nextPort x d)

theorem torusHops_place {x y : Nat} (hx : x < 12) : torusHops (12 * y + x) d = ringHops x (d % 12) + ringHops y (d / 12) := by
  rw [torusHops, show (12 * y + x) % 12 = x by omega, show (12 * y + x) / 12 = y by omega]

theorem neighbor_east (r : Nat) : neighbor r 0 = 12 * (r / 12) + (r % 12 + 1) % 12 := rfl
theorem neighbor_north (r : Nat) : neighbor r 1 = 12 * ((r / 12 + 1) % 12) + r % 12 := rfl
theorem neighbor_west (r : Nat) : neighbor r 2 = 12 * (r / 12) + (r % 12 + 11) % 12 := rfl
theorem neighbor_south (r : Nat) : neighbor r 3 = 12 * ((r / 12 + 11) % 12) + r % 12 := rfl

/-- A hop along x, while the columns differ, or along y leaves one hop fewer. -/
theorem torusHops_routeStep (hr : r < 144) (hd : d < 144) (hne : r ≠ d) :
    routeStep d r < 144 ∧ torusHops (routeStep d r) d + 1 = torusHops r d := by
  have hstep {p : Nat} (hport : nextPort r d = p) (h4 : p ≠ 4) : routeStep d r = neighbor r p := by
    rw [routeStep, hport, if_neg h4]
  have hx : r % 12 < 12 ∧ d % 12 < 12 := by omega
  have hy : r / 12 < 12 ∧ d / 12 < 12 := by omega
  have hhops : torusHops r d = ringHops (r % 12) (d % 12) + ringHops (r / 12) (d / 12) := rfl
  by_cases hcolumn : r % 12 = d % 12
  · have hrow : r / 12 ≠ d / 12 := by omega
    have hport := nextPort_of_row hr hd hcolumn hrow
    split at hport
    case isTrue hnear =>
      have hfewer := ringHops_up hy.1 hy.2 hrow hnear
      rw [hstep hport (by decide), neighbor_north, torusHops_place hx.1]
      omega
    case isFalse hfar =>
      have hfewer := ringHops_down hy.1 hy.2 hfar
      rw [hstep hport (by decide), neighbor_south, torusHops_place hx.1]
      omega
  · have hport := nextPort_of_column hcolumn
    split at hport
    case isTrue hnear =>
      have hfewer := ringHops_up hx.1 hx.2 hcolumn hnear
      rw [hstep hport (by decide), neighbor_east, torusHops_place (Nat.mod_lt _ (by decide))]
      omega
    case isFalse hfar =>
      have hfewer := ringHops_down hx.1 hx.2 hfar
      rw [hstep hport (by decide), neighbor_west, torusHops_place (Nat.mod_lt _ (by decide))]
      omega

/-- As many steps as hops are left lead to the destination. -/
theorem routeStep_iterate (hd : d < 144) : ∀ n r, r < 144 → torusHops r d = n → (routeStep d)^[n] r = d := by
  intro n
  induction n with
  | zero =>
    intro r hr hhops
    by_contra hne
    have := (torusHops_routeStep hr hd hne).2
    omega
  | succ n ih =>
    intro r hr hhops
    have hne : r ≠ d := by
      rintro rfl
      simp [torusHops, ringHops] at hhops
    obtain ⟨hlt, hless⟩ := torusHops_routeStep hr hd hne
    rw [Function.iterate_succ_apply]
    exact ih _ hlt (by omega)

/-! ### The statement on routes -/

theorem nextClass_of_mesh {out : Nat} (hout : out < 4) (r i c : Nat) :
    nextClass r i out c = if isWrap r out then 1 else if 4 ≤ i ∨ i % 2 ≠ out % 2 then 0 else c := by
  rw [nextClass, if_neg (by omega)]
  simp only [Bool.or_eq_true, decide_eq_true_eq]

/-- Settles O10: the port by the difference of the columns, then of the rows; the route by the hops that are left, at most 6 in
each dimension. -/
theorem routingIsDimensionOrdered : Obligations.RoutingIsDimensionOrdered := by
  refine ⟨fun r d hr hd => ⟨fun hcolumn => ?_, fun hcolumn hrow => ?_, ?_, ?_⟩,
    fun r i out c _ _ hout => nextClass_of_mesh hout r i c, fun s r p ep d l hexit => ?_⟩
  · rw [nextPort_of_column hcolumn]
    exact if_congr (by omega) rfl rfl
  · rw [nextPort_of_row hr hd hcolumn hrow]
    exact if_congr (by omega) rfl rfl
  · rintro rfl
    exact nextPort_self r
  · exact ⟨torusHops r d, torusHops_le r d, routeStep_iterate hd _ r hr rfl⟩
  · rw [State.outOf, hexit]

end Sys2Proof.Machine

/-!
SUPPORT. The corridor's buffers and credit books (R151, R152): what each move of a packet does to them, and that a router's intake
and what it refuses keep their tables in canonical form.
-/
namespace Sys2Proof.Machine
variable {s : State} {k : Nat} {p : Packet}

/-! ### Buffers and books after an update -/

/-- The tables of the receive buffers and of the credit books are canonical. -/
structure State.LinkTables (s : State) : Prop where
  bufs : mwf (fun _ => []) s.net.bufs = true
  books : mwf bookDefault s.net.books = true

theorem State.LinkTables.setBuf (h : s.LinkTables) (k : Nat) (l : List Packet) : (s.setBuf k l).LinkTables :=
  { h with bufs := mwf_mput _ _ h.bufs }
theorem State.LinkTables.updBook (h : s.LinkTables) (k : Nat) (g : Book → Book) : (s.updBook k g).LinkTables :=
  { h with books := mwf_mupd _ _ h.books }
theorem State.LinkTables.sendOn (h : s.LinkTables) (k : Nat) (p : Packet) : (s.sendOn k p).LinkTables :=
  (h.updBook k _).setBuf k _
theorem State.LinkTables.releaseOn (h : s.LinkTables) (k : Nat) (p : Packet) : (s.releaseOn k p).LinkTables := h.updBook k _

theorem State.buf_setBuf (h : s.LinkTables) (k : Nat) (l : List Packet) (j : Nat) :
    (s.setBuf k l).buf j = if j = k then l else s.buf j := mget_mput k l j h.bufs
theorem State.book_updBook (h : s.LinkTables) (k : Nat) (g : Book → Book) (j : Nat) :
    (s.updBook k g).book j = if j = k then g (s.book k) else s.book j := mget_mput k _ j h.books

theorem State.buf_releaseOn (k : Nat) (p : Packet) (j : Nat) : (s.releaseOn k p).buf j = s.buf j := rfl
theorem State.book_setBuf (k : Nat) (l : List Packet) (j : Nat) : (s.setBuf k l).book j = s.book j := rfl

/-- A packet's flits leave the entries of the receiver: their credits are on the way back. -/
theorem State.book_releaseOn (h : s.LinkTables) (k : Nat) (p : Packet) (j : Nat) : (s.releaseOn k p).book j =
    if j = k then { s.book k with flight := (s.book k).flight - p.flits, free := (s.book k).free + p.flits } else s.book j :=
  State.book_updBook h ..
theorem State.buf_sendOn (h : s.LinkTables) (k : Nat) (p : Packet) (j : Nat) :
    (s.sendOn k p).buf j = if j = k then s.buf k ++ [p] else s.buf j := State.buf_setBuf (h.updBook k _) ..
/-- A packet's flits use the credits of the link. -/
theorem State.book_sendOn (h : s.LinkTables) (k : Nat) (p : Packet) (j : Nat) : (s.sendOn k p).book j =
    if j = k then { s.book k with cred := (s.book k).cred - p.flits, flight := (s.book k).flight + p.flits } else s.book j := by
  rw [State.sendOn, State.book_setBuf, State.book_updBook h]

/-! ### A router's intake -/

theorem State.LinkTables.of_net {t : State} (h : s.LinkTables) (hnet : t.net = s.net) : t.LinkTables :=
  ⟨hnet ▸ h.bufs, hnet ▸ h.books⟩

theorem State.LinkTables.each {α : Type} {f : State → α → State} {l : List α} (h : s.LinkTables)
    (hf : ∀ t x, t.LinkTables → (f t x).LinkTables) : (s.each l f).LinkTables := foldl_p hf h

theorem State.LinkTables.leftAttachment (h : s.LinkTables) (ep : Nat) (p : Packet) : (s.leftAttachment ep p).LinkTables :=
  h.of_net ((State.leftAttachment_inv (clo_same s rfl) (Same.refl _ s)).net rfl)
theorem State.LinkTables.countTokens (h : s.LinkTables) (p : Packet) (dst : Nat) : (s.countTokens p dst).LinkTables :=
  h.of_net ((State.countTokens_inv (clo_same s rfl) (Same.refl _ s)).net rfl)
theorem State.LinkTables.busError (h : s.LinkTables) (cause srcNode srcEp addr : Nat) :
    (s.busError cause srcNode srcEp addr).LinkTables :=
  h.of_net ((State.busError_inv (clo_same s rfl) (Same.refl _ s)).net rfl)
theorem State.LinkTables.countMalformed (h : s.LinkTables) : s.countMalformed.LinkTables := ⟨h.bufs, h.books⟩
theorem State.LinkTables.inject (h : s.LinkTables) (ep : Nat) (p : Packet) : (s.inject ep p).LinkTables := ⟨h.bufs, h.books⟩
theorem State.LinkTables.refuse (h : s.LinkTables) (p : Packet) (ep cause : Nat) : (s.refuse p ep cause).LinkTables := by
  unfold State.refuse
  extract_lets counted noted
  have hcounted : counted.LinkTables := h.busError ..
  have hnoted : noted.LinkTables := ite_p (fun _ => ⟨hcounted.bufs, hcounted.books⟩) fun _ => hcounted
  exact hnoted.inject ..
theorem State.LinkTables.routerRefuse (h : s.LinkTables) (p : Packet) (ep cause : Nat) : (s.routerRefuse p ep cause).LinkTables :=
  ite_p (fun _ => h.refuse p ep cause) fun _ => ⟨h.bufs, h.books⟩

/-- On a link without an error a packet crosses as it is. -/
theorem State.cross_clean (s : State) (k : Nat) (p : Packet) : s.cross k p .clean = s.sendOn k p := rfl
theorem State.LinkTables.cross_clean (h : s.LinkTables) (k : Nat) (p : Packet) : (s.cross k p .clean).LinkTables :=
  s.cross_clean k p ▸ h.sendOn k p

theorem State.LinkTables.pumpVc (h : s.LinkTables) (ep vc : Nat) (on : Option Nat) :
    OptP State.LinkTables (s.pumpVc ep vc on .clean) := by
  unfold State.pumpVc
  split
  · exact none_p
  · rename_i p rest _
    extract_lets pop
    have hpop : (pop s).LinkTables := State.LinkTables.leftAttachment
      (s := s.updNet fun n => { n with send := mput (fun _ => []) n.send ep rest }) ⟨h.bufs, h.books⟩ ep p
    refine ite_p (fun _ => mk_some hpop.countMalformed) fun _ => ?_
    split
    · exact mk_some (hpop.routerRefuse ..)
    · exact ite_p (fun _ => mk_some ((hpop.countTokens ..).cross_clean ..)) fun _ => none_p

theorem State.LinkTables.pumpRouter (h : s.LinkTables) (r : Nat) : (s.pumpRouter r).LinkTables :=
  h.each fun _ ep ht => ht.each fun _ vc hu => getD_p (hu.pumpVc ep vc none) hu

theorem State.LinkTables.dropMalformed (h : s.LinkTables) (r : Nat) : (s.dropMalformed r).LinkTables := by
  refine h.each fun t j ht => ?_
  extract_lets k
  split
  · exact ite_p (fun _ => ((ht.setBuf ..).releaseOn ..).countMalformed) fun _ => ht
  · exact ht

theorem State.LinkTables.sinkHeads (h : s.LinkTables) (r : Nat) : (s.sinkHeads r).LinkTables := by
  refine h.each fun t j ht => ?_
  extract_lets k
  split
  · rename_i p rest _
    have hsunk : ((t.setBuf k rest).releaseOn k p).LinkTables := (ht.setBuf ..).releaseOn ..
    split
    · exact ite_p (fun _ => ht) fun _ => ite_p (fun _ => hsunk.refuse ..) fun _ => hsunk
    · exact ht
  · exact ht

/-! ### Forwarding -/

/-- The arbiter of output port out of router r, which starts its first round with the weight of VC 0. -/
def State.arbiterAt (s : State) (r out : Nat) : Arb :=
  let a := mget (fun _ => ({} : Arb)) s.net.arbs (8 * r + out)
  if a.left = 0 ∧ a.last = [] then { a with left := nth a.w 0 } else a

/-- The packet at the head of buffer kin goes to buffer kout, and the arbiter of port o is then a. -/
def State.passOn (s : State) (o : Nat) (a : Arb) (kin kout : Nat) (p : Packet) (rest : List Packet) : State :=
  (((s.updNet fun n => { n with arbs := mput (fun _ => {}) n.arbs o a }).setBuf kin rest).releaseOn kin p).sendOn kout p

/-- The first packet of the chosen buffer goes on when the endpoints' packets have entered and the heads that are malformed or that
nobody takes are gone. -/
theorem State.forward_of_chosen {ready : State} {r out vc i c : Nat} {a : Arb} {rest : List Packet}
    (hready : ((s.pumpRouter r).dropMalformed r).sinkHeads r = ready)
    (hchosen : ready.chooseVc r out 9 (ready.arbiterAt r out) = some (a, vc, i, c))
    (hhead : ready.buf (bufKey (inLink r i) vc c) = p :: rest) :
    s.forward r out .clean = ready.passOn (8 * r + out) a (bufKey (inLink r i) vc c)
      (bufKey (8 * r + out) vc (nextClass r i out c)) p rest := by
  unfold State.forward
  rw [hready]
  extract_lets s1 first turn
  rw [show turn = ready.arbiterAt r out from rfl, hchosen]
  simp only
  rw [hhead]
  exact State.cross_clean ..

theorem exec_packetForward {r out : Nat} (hout : out < 6) (err : LinkErr) :
    exec (.packetForward r out err) s = .next (s.forward r out err) := by
  show execPacketForward r out err s = _
  rw [execPacketForward, if_pos hout]

/-- What passing a packet on does to the two buffers and their books. -/
theorem State.passOn_moves (h : s.LinkTables) {kin kout : Nat} (hne : kin ≠ kout) (o : Nat) (a : Arb) (p : Packet)
    (rest : List Packet) :
    let u := s.passOn o a kin kout p rest
    u.buf kin = rest ∧ u.buf kout = s.buf kout ++ [p] ∧
      u.book kin = { s.book kin with flight := (s.book kin).flight - p.flits, free := (s.book kin).free + p.flits } ∧
      u.book kout = { s.book kout with cred := (s.book kout).cred - p.flits, flight := (s.book kout).flight + p.flits } := by
  have hturn : (s.updNet fun n => { n with arbs := mput (fun _ => {}) n.arbs o a }).LinkTables := ⟨h.bufs, h.books⟩
  have htaken := hturn.setBuf kin rest
  have hreleased := htaken.releaseOn kin p
  have hbook := State.book_sendOn hreleased kout p
  have hbuf := State.buf_sendOn hreleased kout p
  simp only [State.book_releaseOn htaken, State.book_setBuf] at hbook
  simp only [State.buf_releaseOn, State.buf_setBuf hturn] at hbuf
  refine ⟨(hbuf kin).trans ?_, (hbuf kout).trans ?_, (hbook kin).trans ?_, (hbook kout).trans ?_⟩
  · rw [if_neg hne, if_pos rfl]
  · rw [if_pos rfl, if_neg hne.symm]; rfl
  · rw [if_neg hne, if_pos rfl]; rfl
  · rw [if_pos rfl, if_neg hne.symm]; rfl

theorem packetForward_clause {ready : State} {r out vc i c : Nat} {a : Arb} {rest : List Packet} (h : s.LinkTables)
    (hready : ((s.pumpRouter r).dropMalformed r).sinkHeads r = ready) (hout : out < 6)
    (hchosen : ready.chooseVc r out 9 (ready.arbiterAt r out) = some (a, vc, i, c))
    (hhead : ready.buf (bufKey (inLink r i) vc c) = p :: rest)
    (hne : bufKey (inLink r i) vc c ≠ bufKey (8 * r + out) vc (nextClass r i out c)) :
    let kin := bufKey (inLink r i) vc c
    let kout := bufKey (8 * r + out) vc (nextClass r i out c)
    ∃ u, exec (.packetForward r out .clean) s = .next u ∧ u.buf kin = rest ∧ u.buf kout = ready.buf kout ++ [p] ∧
      (u.book kout).cred = (ready.book kout).cred - p.flits ∧ (u.book kout).flight = (ready.book kout).flight + p.flits ∧
      (u.book kin).flight = (ready.book kin).flight - p.flits ∧ (u.book kin).free = (ready.book kin).free + p.flits := by
  have hlinks : ready.LinkTables := hready ▸ ((h.pumpRouter r).dropMalformed r).sinkHeads r
  obtain ⟨hin, hbuf, hfrom, hto⟩ := State.passOn_moves hlinks hne (8 * r + out) a p rest
  exact ⟨_, (exec_packetForward hout _).trans (congrArg _ (State.forward_of_chosen hready hchosen hhead)), hin, hbuf,
    congrArg Book.cred hto, congrArg Book.flight hto, congrArg Book.flight hfrom, congrArg Book.free hfrom⟩

end Sys2Proof.Machine

/-!
SUPPORT. The corridor's credit returns, response time limits, bus error and books, command by command (R152, R164, R165, R169).
-/
namespace Sys2Proof.Machine
variable {s : State}

/-- Credits come back: from the free entries to the sender, and no other book changes. -/
theorem creditReturn_clause (h : s.LinkTables) (link vc cls n : Nat) : ∃ u, exec (.creditReturn link vc cls n) s = .next u ∧
    let k := bufKey link vc cls
    (u.book k).cred = (s.book k).cred + min (min n 3) (s.book k).free ∧
    (u.book k).cred + (u.book k).free + (u.book k).flight = (s.book k).cred + (s.book k).free + (s.book k).flight ∧
    ∀ j, j ≠ k → u.book j = s.book j := by
  have hbook := State.book_updBook h (bufKey link vc cls) fun b =>
    { b with cred := b.cred + min (min n 3) (s.book (bufKey link vc cls)).free,
             free := b.free - min (min n 3) (s.book (bufKey link vc cls)).free }
  have hsame := (hbook (bufKey link vc cls)).trans (if_pos rfl)
  refine ⟨s.creditReturn link vc cls n, rfl, congrArg Book.cred hsame, ?_, fun j hj => (hbook j).trans (if_neg hj)⟩
  rw [show (s.creditReturn link vc cls n).book (bufKey link vc cls) = _ from hsame]
  have hfree := Nat.min_le_right (min n 3) (s.book (bufKey link vc cls)).free
  simp only
  omega

/-! ### Response time limits -/

/-- The tag of the request is kept from use, and its expiry is counted. -/
def State.requestExpired (s : State) (key : Nat) (r : OutReq) : State :=
  (s.setOut key (some { r with expired := true })).inc Fld.CO_TIMEOUT_COUNT_EXPIRED 0

theorem exec_responseTimeLimit_of_due {ep plane tag : Nat} {r : OutReq} (hreq : s.outReq (outKey ep plane tag) = some r)
    (hexp : r.expired = false) (hresuming : s.resuming = false) (hsafe : s.safe = false) :
    exec (.responseTimeLimit ep plane tag) s =
      .next ((s.requestExpired (outKey ep plane tag) r).requestLost ep plane tag r.pkt) := by
  have hexec : exec (.responseTimeLimit ep plane tag) s = .next (s.responseLimit ep plane tag) := rfl
  rw [hexec, State.responseLimit, hreq]
  simp only [hexp, hresuming, hsafe]
  rfl

theorem State.f_inc_same (h : s.regsOk) (F : Field) (hF : F.ok = true) (i n : Nat) :
    (s.inc F i n).f F i = min (s.f F i + n) F.top := by
  have htop : F.top < 2 ^ F.width := Nat.sub_lt (Nat.two_pow_pos _) Nat.one_pos
  exact (State.f_setF_same h F hF i _).trans (Nat.mod_eq_of_lt (lt_of_le_of_lt (Nat.min_le_right ..) htop))

/-- The count of expiries belongs to the limit alone: no end of a wait changes it. -/
theorem State.rd_timeouts_requestLost (h : s.regsOk) (ep plane tag : Nat) (p : Packet) :
    (s.requestLost ep plane tag p).rd .CO_TIMEOUT_COUNT 0 = s.rd .CO_TIMEOUT_COUNT 0 :=
  (State.requestLost_inv (clo_rd s .CO_TIMEOUT_COUNT 0 rfl rfl rfl) ⟨h, rfl⟩).2

/-- The wait of a plane ends in its response slot. -/
theorem State.requestLost_of_waiting {n q tag : Nat} (hn : n < 128) (p : Packet)
    (hslot : mget (fun _ => Slot.free) (s.plane n q).slots tag = .waiting false) :
    s.requestLost n q tag p = s.updPlane n q fun x => { x with slots := mput (fun _ => .free) x.slots tag .linkLost } := by
  rw [State.requestLost, if_pos hn, hslot]

theorem responseTimeLimit_clause (hc : s.canon) (ht : s.tables) {ep plane tag : Nat} {r : OutReq}
    (hreq : s.outReq (outKey ep plane tag) = some r) (hexp : r.expired = false) (hresuming : s.resuming = false)
    (hsafe : s.safe = false) : ∃ u, exec (.responseTimeLimit ep plane tag) s = .next u ∧
      u.f Fld.CO_TIMEOUT_COUNT_EXPIRED 0 = min (s.f Fld.CO_TIMEOUT_COUNT_EXPIRED 0 + 1) Fld.CO_TIMEOUT_COUNT_EXPIRED.top ∧
      (ep < 128 → plane < 4 → mget (fun _ => Slot.free) (s.plane ep plane).slots tag = .waiting false →
        u.outReq (outKey ep plane tag) = some { r with expired := true } ∧
        mget (fun _ => Slot.free) (u.plane ep plane).slots tag = .linkLost) := by
  have hc' : (s.requestExpired (outKey ep plane tag) r).canon := State.canon_setF (s := s.setOut _ _) { hc with } ..
  refine ⟨_, exec_responseTimeLimit_of_due hreq hexp hresuming hsafe, ?_, fun hep _ hslot => ?_⟩
  · rw [State.f_of_rd (F := Fld.CO_TIMEOUT_COUNT_EXPIRED) rfl (State.rd_timeouts_requestLost hc'.regs ..)]
    exact State.f_inc_same hc.regs _ rfl 0 1
  · rw [State.requestLost_of_waiting (s := s.requestExpired _ r) hep _ hslot]
    refine ⟨State.outReq_setOut ht.outReq .., ?_⟩
    rw [State.plane_updPlane_same hc' (ht.planes ep)]
    exact mget_mput_same (ht.slots ep plane) ..

theorem expiredTagRelease_clause (ht : s.tables) {ep plane tag : Nat} {r : OutReq}
    (hreq : s.outReq (outKey ep plane tag) = some r) (hexp : r.expired = true) :
    ∃ u, exec (.expiredTagRelease ep plane tag) s = .next u ∧ u.outReq (outKey ep plane tag) = none := by
  have hexec : exec (.expiredTagRelease ep plane tag) s = .next (s.setOut (outKey ep plane tag) none) := by
    show execExpiredTagRelease ep plane tag s = _
    rw [execExpiredTagRelease, hreq]
    exact congrArg Host.Outcome.next (if_pos hexp)
  exact ⟨_, hexec, State.outReq_setOut ht.outReq ..⟩

/-! ### The bus error and the books -/

theorem berrArm_clause (h : s.regsOk) : ∃ u, exec .berrArm s = .next u ∧ u.f Fld.CO_STATUS_BERR 0 = 0 ∧
    u.f Fld.CO_STATUS_DROPPED 0 = s.f Fld.CO_STATUS_DROPPED 0 ∧ u.rd .CO_BERR_SRC 0 = s.rd .CO_BERR_SRC 0 :=
  ⟨_, rfl, State.f_setF_same h _ rfl ..,
    State.f_setF_field h (F := Fld.CO_STATUS_BERR) (G := Fld.CO_STATUS_DROPPED) rfl rfl rfl (by decide) ..,
    State.rd_setF_ne h (by decide) ..⟩

theorem lt_of_linkExists {link : Nat} (h : linkExists link = true) : link < 1152 := by
  obtain ⟨hrouter, -⟩ := Bool.and_eq_true_iff.1 h
  have := of_decide_eq_true hrouter
  omega

/-- The registers of the books after a snapshot of entry `index`, whose sums are b. -/
def State.bookShown (s : State) (index : Nat) (b : Book) : State :=
  ((((s.setF Fld.CO_BOOK_IDX_INDEX 0 index).setF Fld.CO_BOOK_SEND_VALID 0 1).setF Fld.CO_BOOK_SEND_CREDITS 0 b.cred).setF
    Fld.CO_BOOK_FLIGHT_FLITS 0 b.flight).setF Fld.CO_BOOK_FREE_FREE 0 b.free

theorem State.bookSnapshot_of_exists {link vc : Nat} (hvc : vc < 4) (hlink : linkExists link = true) :
    s.bookSnapshot (4 * link + vc) = s.bookShown (4 * link + vc) (s.bookSum link vc) := by
  have hlt := lt_of_linkExists hlink
  have hindex : (4 * link + vc) % 8192 = 4 * link + vc := by omega
  have hdiv : (4 * link + vc) / 4 = link := by omega
  have hmod : (4 * link + vc) % 4 = vc := by omega
  rw [State.bookSnapshot]
  simp only [hindex, hdiv, hmod, hlink, if_true]
  rfl

theorem coBookSnapshot_clause (h : s.regsOk) {link vc : Nat} (hvc : vc < 4) (hlink : linkExists link = true) :
    ∃ u, exec (.coBookSnapshot (4 * link + vc)) s = .next u ∧
      u.f Fld.CO_BOOK_IDX_INDEX 0 = 4 * link + vc ∧ u.f Fld.CO_BOOK_SEND_VALID 0 = 1 ∧
      u.f Fld.CO_BOOK_SEND_CREDITS 0 = (s.bookSum link vc).cred % 2 ^ Fld.CO_BOOK_SEND_CREDITS.width ∧
      u.f Fld.CO_BOOK_FLIGHT_FLITS 0 = (s.bookSum link vc).flight % 2 ^ Fld.CO_BOOK_FLIGHT_FLITS.width ∧
      u.f Fld.CO_BOOK_FREE_FREE 0 = (s.bookSum link vc).free % 2 ^ Fld.CO_BOOK_FREE_FREE.width := by
  have hlt := lt_of_linkExists hlink
  have hindex := State.regsOk_setF h Fld.CO_BOOK_IDX_INDEX 0 (4 * link + vc)
  have hvalid := State.regsOk_setF hindex Fld.CO_BOOK_SEND_VALID 0 1
  have hcredits := State.regsOk_setF hvalid Fld.CO_BOOK_SEND_CREDITS 0 (s.bookSum link vc).cred
  have hflight := State.regsOk_setF hcredits Fld.CO_BOOK_FLIGHT_FLITS 0 (s.bookSum link vc).flight
  refine ⟨_, congrArg Host.Outcome.next (State.bookSnapshot_of_exists hvc hlink), ?_, ?_, ?_, ?_, ?_⟩
  · rw [State.bookShown, State.f_setF_reg hflight (by decide), State.f_setF_reg hcredits (by decide),
      State.f_setF_reg hvalid (by decide), State.f_setF_reg hindex (by decide), State.f_setF_same h _ rfl]
    exact Nat.mod_eq_of_lt (lt_of_lt_of_le (show 4 * link + vc < 4608 by omega) (by decide))
  · rw [State.bookShown, State.f_setF_reg hflight (by decide), State.f_setF_reg hcredits (by decide),
      State.f_setF_field hvalid (F := Fld.CO_BOOK_SEND_CREDITS) (G := Fld.CO_BOOK_SEND_VALID) rfl rfl rfl (by decide),
      State.f_setF_same hindex _ rfl]
    rfl
  · rw [State.bookShown, State.f_setF_reg hflight (by decide), State.f_setF_reg hcredits (by decide), State.f_setF_same hvalid _ rfl]
  · rw [State.bookShown, State.f_setF_reg hflight (by decide), State.f_setF_same hcredits _ rfl]
  · rw [State.bookShown, State.f_setF_same hflight _ rfl]

theorem epPeek_clause (h : s.regsOk) (value : Nat) :
    ∃ u, exec (.epPeek value) s = .next u ∧ u.f Fld.EP_PEEK_ADDR_OFFSET 0 = bits value 27 2 :=
  ⟨_, rfl, (State.f_setF_same h _ rfl ..).trans (Nat.mod_eq_of_lt (bits_lt ..))⟩

/-- Settles O29: each clause is what its command does to the buffers, books, requests or registers that it names. -/
theorem corridorMovesPackets : Obligations.CorridorMovesPackets := by
  intro s hc ht
  have hlinks : s.LinkTables := ⟨ht.bufs, ht.books⟩
  refine ⟨fun r out _ hout => ?_, fun link vc cls n => creditReturn_clause hlinks link vc cls n,
    fun ep plane tag r hreq => ⟨responseTimeLimit_clause hc ht hreq, expiredTagRelease_clause ht hreq⟩, berrArm_clause hc.regs,
    fun link vc hvc hlink => coBookSnapshot_clause hc.regs hvc hlink, fun value => epPeek_clause hc.regs value⟩
  generalize hready : ((s.pumpRouter r).dropMalformed r).sinkHeads r = ready
  exact fun a vc i c hchosen p rest hhead hne => packetForward_clause hlinks hready hout hchosen hhead hne

end Sys2Proof.Machine

/-!
SUPPORT. The rules of the scheduler's tables: what each operation on descriptors, match entries, flows and delay lists leaves in the
scheduler, and that it changes nothing beside the scheduler and the corridor (R176, R181, R182, R190, R192).
-/
namespace Sys2Proof.Machine
variable {s t : State}

/-! ### Beside the scheduler -/

/-- t is s but for the mailbox, the corridor and the scheduler. -/
def State.BesideSched (s t : State) : Prop := t = { s with mail := t.mail, net := t.net, sched := t.sched }

theorem clo_besideSched (s : State) : Clo 0x818 s.BesideSched := by
  constructor
  case wr => exact fun h => absurd h (by rw [Nat.testBit_lt_two_pow (lt_of_lt_of_le (by decide) (Nat.pow_le_pow_right Nat.two_pos (Nat.le_add_right ..)))]; decide)
  case mail => intro _ t v h; unfold State.BesideSched at h ⊢; rw [h]
  case net => intro _ t v h; unfold State.BesideSched at h ⊢; rw [h]
  case sched => intro _ t v h; unfold State.BesideSched at h ⊢; rw [h]
  all_goals exact fun h => absurd h (by decide)

theorem State.BesideSched.raw (h : s.BesideSched t) (k : Nat) : t.raw k = s.raw k := by rw [h]; rfl

/-! ### Descriptors -/

@[simp] theorem State.schedStore_sched (s : State) (a : Nat) (d : List Byte) : (s.schedStore a d).sched = s.sched :=
  (State.schedStore_inv (clo_same (m := 0x10) s rfl) (Same.refl _ s)).sched rfl

@[simp] theorem State.setDesc_sched (s : State) (i : Nat) (d : Desc) :
    (s.setDesc i d).sched = { s.sched with descs := mput (fun _ => {}) s.sched.descs i d } := by
  rw [State.setDesc, State.schedStore_sched, State.updSched_sched]

/-- The descriptors are in canonical form. -/
abbrev State.descsOk (s : State) : Prop := mwf (fun _ => ({} : Desc)) s.sched.descs = true

theorem State.descsOk_setDesc (h : s.descsOk) (i : Nat) (d : Desc) : (s.setDesc i d).descsOk := by
  rw [State.descsOk, State.setDesc_sched]
  exact mwf_mput _ _ h

theorem State.desc_setDesc (h : s.descsOk) (i : Nat) (d : Desc) (j : Nat) : (s.setDesc i d).desc j = if j = i then d else s.desc j := by
  rw [State.desc, State.setDesc_sched]
  exact mget_mput _ _ _ h

theorem State.desc_setDesc_same (h : s.descsOk) (i : Nat) (d : Desc) : (s.setDesc i d).desc i = d :=
  (State.desc_setDesc h ..).trans (if_pos rfl)

/-- A list's link changes the descriptors alone. -/
theorem State.linkTo_sched (s : State) (prev : Option Nat) (i : Nat) :
    (s.linkTo prev i).sched = { s.sched with descs := (s.linkTo prev i).sched.descs } := by
  cases prev with
  | none => rfl
  | some p => rw [State.linkTo, State.updDesc, State.setDesc_sched]

/-- A descriptor that takes a link keeps all else. -/
theorem State.desc_linkTo (h : s.descsOk) (prev : Option Nat) (i j : Nat) : ∃ l, (s.linkTo prev i).desc j = { s.desc j with link := l } := by
  cases prev with
  | none => exact ⟨_, rfl⟩
  | some p =>
    rw [State.linkTo, State.updDesc, State.desc_setDesc h]
    split
    case isTrue hj => exact ⟨i, by rw [hj]⟩
    case isFalse => exact ⟨_, rfl⟩

/-- A descriptor that is freed is as it was at reset, and no other table changes. -/
theorem State.freeDesc_sched (s : State) (i : Nat) :
    (s.freeDesc i).sched = { s.sched with descs := mdel s.sched.descs i, freed := i :: s.sched.freed } := by
  rw [State.freeDesc, State.updSched_sched, State.schedStore_sched]

theorem mget_mdel_same {α : Type} [DecidableEq α] {d : Nat → α} {m : SMap α} (h : mwf d m = true) (k : Nat) : mget d (mdel m k) k = d k :=
  (mget_filter (· != k) k h).trans (if_neg (by simp))

theorem State.desc_freeDesc (h : s.descsOk) (i : Nat) : (s.freeDesc i).desc i = {} := by
  rw [State.desc, State.freeDesc_sched]
  exact mget_mdel_same h i

/-- A descriptor taken off the free list changes that list alone. -/
theorem State.takeFree_sched (s : State) :
    s.takeFree.sched = { s.sched with freed := s.takeFree.sched.freed, freshIdx := s.takeFree.sched.freshIdx } := by
  rw [State.takeFree, State.updSched_sched]
  split <;> rfl

/-! ### Match entries -/

theorem State.putMatch_sched (s : State) (key i : Nat) : (s.putMatch key i).sched = { s.sched with
    mtab := mput (fun _ => 0) s.sched.mtab key (i + 1), mways := mput (fun _ => 0) s.sched.mways key (s.freeWay key + 1) } := by
  rw [State.putMatch, State.schedStore_sched, State.updSched_sched]

theorem State.matchOf_putMatch (h : mwf (fun _ => 0) s.sched.mtab = true) (key i : Nat) : (s.putMatch key i).matchOf key = some i := by
  rw [State.matchOf, State.putMatch_sched, mget_mput_same h]

theorem State.dropMatch_sched (s : State) (key : Nat) :
    (s.dropMatch key).sched = { s.sched with mtab := mdel s.sched.mtab key, mways := mdel s.sched.mways key } := by
  rw [State.dropMatch]
  split
  · rfl
  · rw [State.schedStore_sched, State.updSched_sched]

theorem State.matchOf_of_mtab_dropped (h : mwf (fun _ => 0) s.sched.mtab = true) {key : Nat} (ht : t.sched.mtab = mdel s.sched.mtab key) :
    t.matchOf key = none := by
  rw [State.matchOf, ht, mget_mdel_same h]

/-! ### Flows -/

theorem State.setFlow_sched (s : State) (f : Nat) (c : Flow) :
    (s.setFlow f c).sched = { s.sched with flows := mput (fun _ => {}) s.sched.flows f c } := by
  rw [State.setFlow, State.schedStore_sched, State.updSched_sched]

/-- The flow contexts are in canonical form. -/
abbrev State.flowsOk (s : State) : Prop := mwf (fun _ => ({} : Flow)) s.sched.flows = true

theorem State.flow_setFlow (h : s.flowsOk) (f : Nat) (c : Flow) : (s.setFlow f c).flow f = c := by
  rw [State.flow, State.setFlow_sched]
  exact mget_mput_same h ..

theorem State.flow_setDesc (s : State) (i : Nat) (d : Desc) (f : Nat) : (s.setDesc i d).flow f = s.flow f := by
  rw [State.flow, State.setDesc_sched, State.flow]

theorem State.flow_linkTo (s : State) (prev : Option Nat) (i f : Nat) : (s.linkTo prev i).flow f = s.flow f := by
  rw [State.flow, State.linkTo_sched, State.flow]

theorem State.desc_setFlow (s : State) (f : Nat) (c : Flow) (i : Nat) : (s.setFlow f c).desc i = s.desc i := by
  rw [State.desc, State.setFlow_sched, State.desc]

/-- The ready lists belong to the pipes. -/
theorem State.listFlow_sched (s : State) (f : Nat) : (s.listFlow f).sched = { s.sched with pipes := (s.listFlow f).sched.pipes } := by
  rw [State.listFlow]
  split <;> rfl

theorem State.desc_listFlow (s : State) (f i : Nat) : (s.listFlow f).desc i = s.desc i := by
  rw [State.desc, State.listFlow_sched, State.desc]

theorem State.flow_listFlow (s : State) (f g : Nat) : (s.listFlow f).flow g = s.flow g := by
  rw [State.flow, State.listFlow_sched, State.flow]

/-- Delay lists, match entries, packets being handled and the sums of records are as before. -/
structure State.SumsKept (s t : State) : Prop where
  delays : t.sched.delays = s.sched.delays
  mtab : t.sched.mtab = s.sched.mtab
  tokPkt : t.sched.tokPkt = s.sched.tokPkt
  held : t.sched.held = s.sched.held
  flight : t.sched.flight = s.sched.flight
  matched : t.sched.matched = s.sched.matched

theorem State.SumsKept.trans {u : State} (h : s.SumsKept t) (k : t.SumsKept u) : s.SumsKept u :=
  ⟨k.delays.trans h.delays, k.mtab.trans h.mtab, k.tokPkt.trans h.tokPkt, k.held.trans h.held, k.flight.trans h.flight,
    k.matched.trans h.matched⟩

/-- A change of descriptors, flow contexts and pipes alone. -/
theorem State.SumsKept.of_tables {descs : SMap Desc} {flows : SMap Flow} {pipes : SMap Pipe}
    (h : t.sched = { s.sched with descs := descs, flows := flows, pipes := pipes }) : s.SumsKept t := by
  constructor <;> rw [h]

/-- A descriptor is at the end of its flow's queue, where the one before it names it. -/
structure State.Joins (s t : State) (i : Nat) : Prop extends s.SumsKept t where
  desc : ∃ l, t.desc i = { s.desc i with link := l }
  queue : (t.flow (s.desc i).flow).queue = (s.flow (s.desc i).flow).queue ++ [i]

/-- Flow f with descriptor i at the end of its queue. -/
def State.joinQueue (s : State) (f i : Nat) : State := s.updFlow f fun c => { c with queue := c.queue ++ [i] }

theorem State.joinFlow_eq (s : State) (i : Nat) : s.joinFlow i true =
    ((s.linkTo (s.flow (s.desc i).flow).queue.getLast? i).joinQueue (s.desc i).flow i).listFlow (s.desc i).flow := by
  simp only [State.joinFlow, State.joinQueue, if_true]

theorem State.joinFlow_joins (hd : s.descsOk) (hf : s.flowsOk) (i : Nat) : s.Joins (s.joinFlow i true) i := by
  have hlink := State.linkTo_sched s (s.flow (s.desc i).flow).queue.getLast? i
  have hflows : (s.linkTo (s.flow (s.desc i).flow).queue.getLast? i).flowsOk := by rw [State.flowsOk, hlink]; exact hf
  have hkept := (State.SumsKept.of_tables hlink).trans ((State.SumsKept.of_tables (State.setFlow_sched ..)).trans
    (State.SumsKept.of_tables (State.listFlow_sched (State.joinQueue _ (s.desc i).flow i) (s.desc i).flow)))
  rw [State.joinFlow_eq]
  refine { hkept with desc := ?_, queue := ?_ }
  · rw [State.desc_listFlow, State.joinQueue, State.updFlow, State.desc_setFlow]
    exact State.desc_linkTo hd ..
  · rw [State.flow_listFlow, State.joinQueue, State.updFlow, State.flow_setFlow hflows, State.flow_linkTo]

/-- An instance of a flow that is in no group is READY at the end of its flow's queue (R182, R190). -/
structure State.ReadyIn (s t : State) (i : Nat) : Prop extends s.SumsKept t where
  state : (t.desc i).state = 2
  queue : (t.flow (s.desc i).flow).queue = (s.flow (s.desc i).flow).queue ++ [i]

theorem State.makeReady_of_ungrouped (hd : s.descsOk) (hf : s.flowsOk) {i : Nat} (hg : (s.flow (s.desc i).flow).grouped = false) :
    s.ReadyIn (s.makeReady i) i := by
  generalize hready : s.updDesc i (fun d => { d with state := 2 }) = ready
  have hupd : s.setDesc i { s.desc i with state := 2 } = ready := hready
  have hdesc : ready.desc i = { s.desc i with state := 2 } := by rw [← hupd, State.desc_setDesc_same hd]
  have hflow (f : Nat) : ready.flow f = s.flow f := by rw [← hupd, State.flow_setDesc]
  have hflows : ready.flowsOk := by rw [State.flowsOk, ← hupd, State.setDesc_sched]; exact hf
  have hkept : s.SumsKept ready := by rw [← hupd]; exact State.SumsKept.of_tables (State.setDesc_sched ..)
  have hjoin : s.makeReady i = ready.joinFlow i true := by
    simp only [State.makeReady, hready, hdesc, hflow, hg, Bool.false_eq_true, if_false]
  obtain ⟨hjoins, ⟨l, hl⟩, hqueue⟩ := State.joinFlow_joins (hupd ▸ State.descsOk_setDesc hd ..) hflows i
  rw [hdesc, hflow] at hqueue
  rw [hjoin]
  exact { hkept.trans hjoins with state := by rw [hl, hdesc], queue := hqueue }

/-! ### Delay lists -/

theorem State.delay_updDelay (h : mwf (fun _ => ({} : DelayList)) s.sched.delays = true) (l : Nat) (g : DelayList → DelayList) :
    (s.updDelay l g).delay l = g (s.delay l) := mget_mput_same h ..

/-- The head of a list whose expiry has come becomes READY, and the list goes on behind it (R193). -/
theorem State.delayExpire_of_due {l e i : Nat} {rest : List (Nat × Nat)} (hitems : (s.delay l).items = (e, i) :: rest)
    (hdue : e ≤ s.sched.tick) (hsafe : s.safe = false) (hheld : s.schedHeld = false) (hdesc : s.descBad i = false)
    (hready : s.readyBad (s.desc i).flow = false) :
    s.delayExpire l = (s.updDelay l fun d => { d with items := rest, walk := d.walk.map fun w => (w.1, w.2.1, w.2.2 - 1) }).makeReady i := by
  rw [State.delayExpire, hitems]
  simp [hdue, hsafe, hheld, hdesc, hready]

theorem State.delayWalk_of_met {l e i k x j : Nat} (hwalk : (s.delay l).walk = some (e, i, k))
    (hitem : (s.delay l).items[k]? = some (x, j)) (hmet : (s.delay l).met.any s.descBad = false) : s.delayWalk l =
      if x ≤ e then s.updDelay l fun d => { d with walk := some (e, i, k + 1) }
      else ((s.linkTo (if k = 0 then none else (s.delay l).items[k - 1]?.map (·.2)) i).linkTo (some i) j).updDelay l
        fun d => { d with items := d.items.take k ++ [(e, i)] ++ d.items.drop k, walk := none } := by
  rw [State.delayWalk]
  simp only [hmet, hwalk, hitem]
  rfl

end Sys2Proof.Machine

/-!
SUPPORT. What TOKEN and TOKEN_RECORD do: an attachment takes a packet, and each of its records is refused, waits for its set, is held
or completes its instance (R178 to R181).
-/
namespace Sys2Proof.Machine
variable {s t : State} {q k mask : Nat} {p : Packet}

theorem State.takeOn_besideSched {links : List Nat} {vc : Nat} {g : Packet → Bool} {s' : State}
    (h : s.takeOn links vc g = some (p, s')) : s.BesideSched s' ∧ s'.sched = s.sched := by
  have hclo := congr_p h (State.takeOn_inv (v1 := links) (v2 := vc) (v3 := g) ((clo_besideSched s).mono (m' := 0x10) rfl) rfl)
  have hsame := congr_p h (State.takeOn_inv (v1 := links) (v2 := vc) (v3 := g) (clo_same (m := 0x10) s rfl) (Same.refl _ s))
  exact ⟨hclo, Same.sched hsame rfl⟩

theorem State.tokPkt_setTok (h : mwf (fun _ => none) s.sched.tokPkt = true) (q : Nat) (v : Option (Packet × Nat × Nat)) :
    (s.setTok q v).tokPkt q = v := mget_mput_same h ..

/-- A packet with records waits at its attachment from its first record on. -/
theorem token_clause (ht : s.tables) (hheld : s.schedHeld = false) {s' : State}
    (htake : s.takeOn [attachLink q] 2 (fun p => p.type == 5 && s.isFor 544 p) = some (p, s')) (hfree : s.tokPkt q = none)
    (hgate : s.gateShut 4 0 = false) (hrecs : tokCount p ≠ 0) :
    ∃ u, exec (.token q) s = .next u ∧ u.tokPkt q = some (p, 0, 0) ∧ u.sched.flight = s.sched.flight := by
  obtain ⟨hbeside, hsched⟩ := State.takeOn_besideSched htake
  have hgate' : s'.gateShut 4 0 = false := (congrArg (State.gateShut · 4 0) hbeside).trans hgate
  have htoken : s.takeToken q = s'.setTok q (some (p, 0, 0)) := by
    rw [State.takeToken, hheld, hfree, htake]
    simp [hgate', hrecs]
  refine ⟨_, congrArg Host.Outcome.next htoken, State.tokPkt_setTok (hsched ▸ ht.tokPkt) .., ?_⟩
  rw [State.setTok, State.updSched_sched, hsched]

/-! ### One record -/

/-- The packet goes on to its next record, or is answered. -/
def State.recordOver (s : State) (q : Nat) (p : Packet) (k mask : Nat) : State :=
  if tokCount p ≤ k + 1 then (s.setTok q none).tokAnswer p mask else s.setTok q (some (p, k + 1, mask))

theorem State.recordOver_sched (s : State) (q : Nat) (p : Packet) (k mask : Nat) : (s.recordOver q p k mask).sched =
    { s.sched with tokPkt := (s.recordOver q p k mask).sched.tokPkt } := by
  rw [State.recordOver]
  split <;> rfl

theorem State.recordOver_f (s : State) (q : Nat) (p : Packet) (k mask : Nat) (F : Field) (i : Nat) :
    (s.recordOver q p k mask).f F i = s.f F i := by
  rw [State.recordOver]
  split <;> rfl

theorem State.recordOver_tokPkt (h : mwf (fun _ => none) s.sched.tokPkt = true) (q : Nat) (p : Packet) (k mask : Nat) :
    (tokCount p ≤ k + 1 → (s.recordOver q p k mask).tokPkt q = none) ∧
      (k + 1 < tokCount p → (s.recordOver q p k mask).tokPkt q = some (p, k + 1, mask)) := by
  refine ⟨fun hlast => ?_, fun hmore => ?_⟩
  · rw [State.recordOver, if_pos hlast]
    exact State.tokPkt_setTok h ..
  · rw [State.recordOver, if_neg (Nat.not_le.2 hmore)]
    exact State.tokPkt_setTok h ..

/-- The command that sent the packet is at its commit point; only the mailbox knows. -/
theorem State.commitPost_mail (s : State) (p : Packet) : ∃ g, s.commitPost p = s.updMail g := by
  rw [State.commitPost]
  split
  · exact ⟨_, rfl⟩
  · exact ⟨id, rfl⟩

theorem exec_tokenRecord_of_taken (hpkt : s.tokPkt q = some (p, k, mask)) (hheld : s.schedHeld = false)
    (hwaits : s.recWaits (recOf p k) = false) (htaken : (s.commitPost p).handleRec (recOf p k) = (false, t)) :
    exec (.tokenRecord q) s = .next (t.recordOver q p k mask) := by
  show Host.Outcome.next (s.tokenRecord q) = _
  rw [State.tokenRecord, hpkt]
  simp only [hheld, hwaits, htaken]
  rfl

/-- A record whose key's set is not in the cache waits while the set is read (R181). -/
theorem exec_tokenRecord_of_waits (hpkt : s.tokPkt q = some (p, k, mask)) (hheld : s.schedHeld = false)
    (hwaits : s.recWaits (recOf p k) = true) :
    exec (.tokenRecord q) s = .next (s.fetchSet ((recOf p k).tag / 8 % 2 ^ 61)) := by
  show Host.Outcome.next (s.tokenRecord q) = _
  rw [State.tokenRecord, hpkt]
  simp only [hheld, hwaits]
  rfl

theorem State.tokPkt_fetchSet (s : State) (key q : Nat) : (s.fetchSet key).tokPkt q = s.tokPkt q :=
  congrArg (fun c : Sched => mget (fun _ => none) c.tokPkt q)
    ((State.fetchSet_inv (clo_same (m := 0x10) s rfl) (Same.refl _ s)).sched rfl)

/-! ### What a record does -/

/-- The scheduler runs and does not drain. -/
structure State.takesRecords (s : State) : Prop where
  on : s.schedOn = true
  notDraining : s.f Fld.SC_STATUS_DRAINING 0 = 0

theorem State.takesRecords.open (h : s.takesRecords) : ¬(!s.schedOn || decide (s.f Fld.SC_STATUS_DRAINING = 1)) = true := by
  simp [h.on, h.notDraining]

variable {r : TokRec}

theorem State.handleRec_of_invalid (h : s.takesRecords) (hvalid : s.tplValid (r.tag / 2 ^ 52 % 4096) = false) :
    s.handleRec r = (false, s.refuseRec 1) := by
  rw [State.handleRec, if_neg h.open, if_pos (by rw [hvalid]; rfl)]

/-- The record names one of several operands of a valid template, and its key's set is in the cache and good. -/
structure State.matches (s : State) (r : TokRec) : Prop extends s.takesRecords where
  valid : s.tplValid (r.tag / 2 ^ 52 % 4096) = true
  slot : r.tag % 8 < s.tplNops (r.tag / 2 ^ 52 % 4096)
  several : 1 < s.tplNops (r.tag / 2 ^ 52 % 4096)
  cached : s.inCache (r.tag / 8 % 2 ^ 61) = true
  good : s.odBad (.matchSet (s.matchSet (r.tag / 8 % 2 ^ 61))) = false

theorem State.matches.recWaits (h : s.matches r) : s.recWaits r = false := by
  rw [State.recWaits, h.cached]
  exact Bool.and_false _

/-- The descriptor of a new instance. -/
def State.newInstance (s : State) (r : TokRec) : Desc :=
  { state := 1, tmpl := r.tag / 2 ^ 52 % 4096, flow := s.flowOf (r.tag / 2 ^ 52 % 4096) (r.tag / 8 % 2 ^ 61 % 2 ^ 49), key := r.tag / 8 % 2 ^ 61 }

/-- The first record of an instance is held in the descriptor at the head of the free list. -/
def State.heldFirst (s : State) (r : TokRec) (i : Nat) : State :=
  ((s.takeFree.setDesc i ((s.newInstance r).fill (r.tag % 8) r)).putMatch (r.tag / 8 % 2 ^ 61) i).updSched
    fun c => { c with flight := c.flight - 1, held := c.held + 1 }

theorem State.handleRec_of_first (h : s.matches r) {i : Nat} (hfree : s.freeHead = some i)
    (hnone : s.matchOf (r.tag / 8 % 2 ^ 61) = none) (hroom : s.setFull (r.tag / 8 % 2 ^ 61) = false) (hdesc : s.descBad i = false) :
    s.handleRec r = (false, s.heldFirst r i) := by
  rw [State.handleRec, if_neg h.open, if_neg (by rw [h.valid]; decide), if_neg (Nat.not_le.2 h.slot), if_neg h.several.ne',
    if_neg (by rw [h.cached]; decide), if_neg (by rw [h.good]; decide), hnone]
  simp only [hfree, hroom, hdesc]
  rfl

/-- The record fills a slot of its instance's descriptor, which leaves the matching store complete. -/
def State.completed (s : State) (r : TokRec) (i : Nat) : State :=
  ((s.dropMatch (r.tag / 8 % 2 ^ 61)).setDesc i ((s.desc i).fill (r.tag % 8) r)).completeInst i (popc 8 (s.desc i).amask)

theorem State.handleRec_of_last (h : s.matches r) {i : Nat} (hmatch : s.matchOf (r.tag / 8 % 2 ^ 61) = some i)
    (hdesc : s.descBad i = false) (hslot : bit (s.desc i).amask (r.tag % 8) = 0)
    (hlast : Nat.lor (s.desc i).amask (2 ^ (r.tag % 8)) % 2 ^ s.tplNops (r.tag / 2 ^ 52 % 4096) =
      2 ^ s.tplNops (r.tag / 2 ^ 52 % 4096) - 1)
    (hdelay : s.tplDelay (r.tag / 2 ^ 52 % 4096) = 0) (hgood : s.completeBad (s.desc i).tmpl (s.desc i).flow = false) :
    s.handleRec r = (false, s.completed r i) := by
  rw [State.handleRec, if_neg h.open, if_neg (by rw [h.valid]; decide), if_neg (Nat.not_le.2 h.slot), if_neg h.several.ne',
    if_neg (by rw [h.cached]; decide), if_neg (by rw [h.good]; decide), hmatch]
  have hfill : ((s.desc i).fill (r.tag % 8) r).amask = Nat.lor (s.desc i).amask (2 ^ (r.tag % 8)) := rfl
  simp only [hdesc, hslot, hfill, hlast, hdelay, hgood]
  rfl

theorem State.heldFirst_holds (hd : s.descsOk) (hm : mwf (fun _ => 0) s.sched.mtab = true) {r : TokRec} {i : Nat} :
    (s.heldFirst r i).matchOf (r.tag / 8 % 2 ^ 61) = some i ∧ (s.heldFirst r i).desc i = (s.newInstance r).fill (r.tag % 8) r ∧
      (s.heldFirst r i).sched.held = s.sched.held + 1 ∧ (s.heldFirst r i).sched.flight = s.sched.flight - 1 ∧
      (s.heldFirst r i).sched.matched = s.sched.matched := by
  generalize hfilled : s.takeFree.setDesc i ((s.newInstance r).fill (r.tag % 8) r) = filled
  have hsched : filled.sched = _ := hfilled ▸ State.setDesc_sched ..
  rw [State.takeFree_sched] at hsched
  have hheld : s.heldFirst r i = (filled.putMatch (r.tag / 8 % 2 ^ 61) i).updSched
      fun c => { c with flight := c.flight - 1, held := c.held + 1 } := hfilled ▸ rfl
  have hmatch : mwf (fun _ => 0) filled.sched.mtab = true := by rw [hsched]; exact hm
  rw [hheld]
  simp only [State.updSched_sched, State.putMatch_sched, hsched]
  refine ⟨State.matchOf_putMatch hmatch .., ?_, trivial, trivial, trivial⟩
  rw [State.desc, State.updSched_sched, State.putMatch_sched, hsched]
  exact mget_mput_same hd ..

/-- The n held records of an instance without delay, whose flow is in no group, and its last one are matched, and it is READY. -/
theorem State.completed_readies (hds : s.descsOk) (hfs : s.flowsOk) (hm : mwf (fun _ => 0) s.sched.mtab = true) {r : TokRec} {i : Nat} (hdelay : s.tplDelay (s.desc i).tmpl = 0)
    (hgroup : (s.flow (s.desc i).flow).grouped = false) :
    (s.completed r i).matchOf (r.tag / 8 % 2 ^ 61) = none ∧ ((s.completed r i).desc i).state = 2 ∧
      ((s.completed r i).flow (s.desc i).flow).queue = (s.flow (s.desc i).flow).queue ++ [i] ∧
      (s.completed r i).sched.held = s.sched.held - popc 8 (s.desc i).amask ∧
      (s.completed r i).sched.flight = s.sched.flight - 1 ∧
      (s.completed r i).sched.matched = (s.sched.matched + popc 8 (s.desc i).amask + 1) % 2 ^ 64 := by
  generalize hd : s.desc i = d at *
  generalize hcounted : ((s.dropMatch (r.tag / 8 % 2 ^ 61)).setDesc i (d.fill (r.tag % 8) r)).updSched (fun c =>
    { c with flight := c.flight - 1, held := c.held - popc 8 d.amask, matched := (c.matched + popc 8 d.amask + 1) % 2 ^ 64 }) = counted
  have hsched : counted.sched = _ := hcounted ▸ State.updSched_sched ..
  simp only [State.setDesc_sched, State.dropMatch_sched] at hsched
  have hbeside : s.BesideSched counted := hcounted ▸ State.updSched_inv ((clo_besideSched s).mono (m' := 0x800) rfl)
    (State.setDesc_inv ((clo_besideSched s).mono (m' := 0x810) rfl) (State.dropMatch_inv ((clo_besideSched s).mono (m' := 0x810) rfl) rfl))
  have hdesc : counted.desc i = d.fill (r.tag % 8) r := by
    rw [State.desc, hsched]
    exact mget_mput_same hds ..
  have hflow : counted.flow d.flow = s.flow d.flow := by rw [State.flow, hsched]; rfl
  have hcomplete : s.completed r i = counted.makeReady i := by
    have hcases : s.completed r i = if counted.tplDelay (counted.desc i).tmpl = 0 then counted.makeReady i else counted.makeDelayed i := by
      rw [State.completed, hd, ← hcounted]
      rfl
    rw [hcases, hdesc]
    exact if_pos ((congrArg Fld.SC_TPL_DATA_3_DELAY.get (hbeside.raw _)).trans hdelay)
  have hcflow : (counted.desc i).flow = d.flow := by rw [hdesc]; rfl
  obtain ⟨hkept, hstate, hqueue⟩ := State.makeReady_of_ungrouped (s := counted) (i := i)
    (by rw [State.descsOk, hsched]; exact mwf_mput _ _ hds) (by rw [State.flowsOk, hsched]; exact hfs)
    (by rw [hcflow, hflow]; exact hgroup)
  rw [hcflow, hflow] at hqueue
  rw [hcomplete]
  refine ⟨State.matchOf_of_mtab_dropped hm (hkept.mtab.trans ?_), hstate, hqueue, hkept.held.trans ?_, hkept.flight.trans ?_,
    hkept.matched.trans ?_⟩
  all_goals rw [hsched]

theorem State.refuseRec_refuses (hr : s.regsOk) {cause : Nat} (hcause : cause < 2 ^ Fld.SC_STATUS_CAUSE.width) :
    (s.refuseRec cause).f Fld.SC_STATUS_REFUSED 0 = 1 ∧ (s.refuseRec cause).f Fld.SC_STATUS_CAUSE 0 = cause ∧
      (s.refuseRec cause).f Fld.SC_REFUSE_COUNT_COUNT 0 =
        min (s.f Fld.SC_REFUSE_COUNT_COUNT 0 + 1) Fld.SC_REFUSE_COUNT_COUNT.top := by
  have hcount := State.regsOk_inc hr Fld.SC_REFUSE_COUNT_COUNT 0 1
  have hrefused := State.regsOk_setF hcount Fld.SC_STATUS_REFUSED 0 1
  simp only [State.refuseRec, State.updSched_f_of]
  refine ⟨?_, ?_, ?_⟩
  · rw [State.f_setF_field hrefused (F := Fld.SC_STATUS_CAUSE) (G := Fld.SC_STATUS_REFUSED) rfl rfl rfl (by decide), State.f_setF_same hcount _ rfl]
    rfl
  · rw [State.f_setF_same hrefused _ rfl, Nat.mod_eq_of_lt hcause]
  · rw [State.f_setF_reg hrefused (by decide), State.f_setF_reg hcount (by decide), State.f_inc_same hr _ rfl]

/-! ### The clauses -/

theorem tokenRecord_refused (hr : s.regsOk) (ht : s.tables) (hpkt : s.tokPkt q = some (p, k, mask)) (hheld : s.schedHeld = false)
    (hon : s.takesRecords) (hvalid : s.tplValid ((recOf p k).tag / 2 ^ 52 % 4096) = false) :
    ∃ u, exec (.tokenRecord q) s = .next u ∧ u.f Fld.SC_STATUS_REFUSED 0 = 1 ∧
        u.f Fld.SC_STATUS_CAUSE 0 = 1 ∧ u.sched.matched = (s.sched.matched + 1) % 2 ^ 64 ∧ u.sched.flight = s.sched.flight - 1 ∧
        u.f Fld.SC_REFUSE_COUNT_COUNT 0 = min (s.f Fld.SC_REFUSE_COUNT_COUNT 0 + 1) Fld.SC_REFUSE_COUNT_COUNT.top ∧
        (tokCount p ≤ k + 1 → u.tokPkt q = none) ∧ (k + 1 < tokCount p → u.tokPkt q = some (p, k + 1, mask)) := by
  obtain ⟨g, hcommit⟩ := State.commitPost_mail s p
  have hwaits : s.recWaits (recOf p k) = false := by
    rw [State.recWaits, hvalid]
    simp
  have htaken : (s.commitPost p).handleRec (recOf p k) = (false, (s.updMail g).refuseRec 1) :=
    hcommit ▸ State.handleRec_of_invalid (s := s.updMail g) ⟨hon.on, hon.notDraining⟩ hvalid
  obtain ⟨hrefused, hcause, hcount⟩ := State.refuseRec_refuses (s := s.updMail g) (cause := 1) hr (by decide)
  refine ⟨_, exec_tokenRecord_of_taken hpkt hheld hwaits htaken, ?_, ?_, ?_, ?_, ?_,
    State.recordOver_tokPkt (s := (s.updMail g).refuseRec 1) ht.tokPkt ..⟩
  · rw [State.recordOver_f, hrefused]
  · rw [State.recordOver_f, hcause]
  · rw [State.recordOver_sched]
    rfl
  · rw [State.recordOver_sched]
    rfl
  · rw [State.recordOver_f, hcount, State.updMail_f_of]

theorem State.matches.updMail {r : TokRec} (h : s.matches r) (g : Mail → Mail) : (s.updMail g).matches r :=
  ⟨⟨h.on, h.notDraining⟩, h.valid, h.slot, h.several, h.cached, h.good⟩

theorem tokenRecord_first (ht : s.tables) (hpkt : s.tokPkt q = some (p, k, mask)) (hheld : s.schedHeld = false)
    (hmatches : s.matches (recOf p k)) {i : Nat} (hfree : s.freeHead = some i)
    (hnone : s.matchOf ((recOf p k).tag / 8 % 2 ^ 61) = none) (hroom : s.setFull ((recOf p k).tag / 8 % 2 ^ 61) = false)
    (hdesc : s.descBad i = false) :
    ∃ u, exec (.tokenRecord q) s = .next u ∧ u.matchOf ((recOf p k).tag / 8 % 2 ^ 61) = some i ∧
      u.desc i = (s.newInstance (recOf p k)).fill ((recOf p k).tag % 8) (recOf p k) ∧ u.sched.held = s.sched.held + 1 ∧
      u.sched.flight = s.sched.flight - 1 ∧ u.sched.matched = s.sched.matched := by
  obtain ⟨g, hcommit⟩ := State.commitPost_mail s p
  have htaken : (s.commitPost p).handleRec (recOf p k) = (false, (s.updMail g).heldFirst (recOf p k) i) :=
    hcommit ▸ State.handleRec_of_first (hmatches.updMail g) hfree hnone hroom hdesc
  obtain ⟨hmatch, hinst, hsums⟩ := State.heldFirst_holds (s := s.updMail g) (r := recOf p k) (i := i) ht.descs ht.mtab
  refine ⟨_, exec_tokenRecord_of_taken hpkt hheld hmatches.recWaits htaken, ?_, ?_, ?_⟩
  · rw [State.matchOf, State.recordOver_sched]
    exact hmatch
  · rw [State.desc, State.recordOver_sched]
    exact hinst
  · rw [State.recordOver_sched]
    exact hsums

theorem tokenRecord_last (ht : s.tables) (hpkt : s.tokPkt q = some (p, k, mask)) (hheld : s.schedHeld = false)
    (hmatches : s.matches (recOf p k)) {i : Nat} (hmatch : s.matchOf ((recOf p k).tag / 8 % 2 ^ 61) = some i)
    (hdesc : s.descBad i = false) (hslot : bit (s.desc i).amask ((recOf p k).tag % 8) = 0)
    (hlast : Nat.lor (s.desc i).amask (2 ^ ((recOf p k).tag % 8)) % 2 ^ s.tplNops ((recOf p k).tag / 2 ^ 52 % 4096) =
      2 ^ s.tplNops ((recOf p k).tag / 2 ^ 52 % 4096) - 1)
    (hdelay : s.tplDelay ((recOf p k).tag / 2 ^ 52 % 4096) = 0) (hdelay' : s.tplDelay (s.desc i).tmpl = 0)
    (hgroup : (s.flow (s.desc i).flow).grouped = false) (hgood : s.completeBad (s.desc i).tmpl (s.desc i).flow = false) :
    ∃ u, exec (.tokenRecord q) s = .next u ∧ u.matchOf ((recOf p k).tag / 8 % 2 ^ 61) = none ∧ (u.desc i).state = 2 ∧
      (u.flow (s.desc i).flow).queue = (s.flow (s.desc i).flow).queue ++ [i] ∧
      u.sched.held = s.sched.held - popc 8 (s.desc i).amask ∧ u.sched.flight = s.sched.flight - 1 ∧
      u.sched.matched = (s.sched.matched + popc 8 (s.desc i).amask + 1) % 2 ^ 64 := by
  obtain ⟨g, hcommit⟩ := State.commitPost_mail s p
  have htaken : (s.commitPost p).handleRec (recOf p k) = (false, (s.updMail g).completed (recOf p k) i) :=
    hcommit ▸ State.handleRec_of_last (hmatches.updMail g) hmatch hdesc hslot hlast hdelay hgood
  obtain ⟨hgone, hstate, hqueue, hsums⟩ := State.completed_readies (s := s.updMail g) (r := recOf p k) (i := i)
    ht.descs ht.flows ht.mtab hdelay' hgroup
  refine ⟨_, exec_tokenRecord_of_taken hpkt hheld hmatches.recWaits htaken, ?_, ?_, ?_, ?_⟩
  · rw [State.matchOf, State.recordOver_sched]
    exact hgone
  · rw [State.desc, State.recordOver_sched]
    exact hstate
  · rw [State.flow, State.recordOver_sched]
    exact hqueue
  · rw [State.recordOver_sched]
    exact hsums

/-- Settles O34: a packet is taken, and a record does what Table 08-3 says for its template, its set and its instance. -/
theorem tokensReachTheirInstances : Obligations.TokensReachTheirInstances := by
  intro s q hc ht _ hheld
  refine ⟨fun p s' htake hfree hgate hrecs => token_clause ht hheld htake hfree hgate hrecs,
    fun p k mask hpkt hon hdrain => ⟨fun hvalid => tokenRecord_refused hc.regs ht hpkt hheld ⟨hon, hdrain⟩ hvalid,
      fun hwaits => ⟨exec_tokenRecord_of_waits hpkt hheld hwaits, State.tokPkt_fetchSet ..⟩, ?_⟩⟩
  intro hvalid hslot hseveral hcached hgood
  have hmatches : s.matches (recOf p k) := ⟨⟨hon, hdrain⟩, hvalid, hslot, hseveral, hcached, hgood⟩
  exact ⟨fun i hhead hnone hroom hdesc => tokenRecord_first ht hpkt hheld hmatches hhead hnone hroom hdesc,
    fun i hmatch hdesc hempty hlast hdelay hdelay' hgroup hready =>
      tokenRecord_last ht hpkt hheld hmatches hmatch hdesc hempty hlast hdelay hdelay' hgroup hready⟩

end Sys2Proof.Machine

/-!
SUPPORT. What ticks, delay lists, use counts and the scheduler's commands do (R185, R192 to R194, R197, Table 08-8).
-/
namespace Sys2Proof.Machine
variable {s t : State} {h : CmdHdr}

theorem delayExpiry_clause (ht : s.tables) {l e i : Nat} {rest : List (Nat × Nat)} (hitems : (s.delay l).items = (e, i) :: rest)
    (hdue : e ≤ s.sched.tick) (hsafe : s.safe = false) (hheld : s.schedHeld = false)
    (hgroup : (s.flow (s.desc i).flow).grouped = false) (hdesc : s.descBad i = false) (hready : s.readyBad (s.desc i).flow = false) :
    ∃ u, exec (.delayExpiry l) s = .next u ∧ (u.delay l).items = rest ∧ (u.desc i).state = 2 ∧
      (u.flow (s.desc i).flow).queue = (s.flow (s.desc i).flow).queue ++ [i] := by
  obtain ⟨hkept, hstate, hqueue⟩ := State.makeReady_of_ungrouped (i := i) (s := s.updDelay l fun d =>
    { d with items := rest, walk := d.walk.map fun w => (w.1, w.2.1, w.2.2 - 1) }) ht.descs ht.flows hgroup
  refine ⟨_, congrArg Host.Outcome.next (State.delayExpire_of_due hitems hdue hsafe hheld hdesc hready), ?_, hstate, hqueue⟩
  rw [State.delay, hkept.delays]
  exact congrArg DelayList.items (State.delay_updDelay ht.delays ..)

/-- A step of a walk: on behind an earlier expiry, or the insertion before a later one. -/
theorem delayListWalk_clause (ht : s.tables) {l e i k x j : Nat} (hwalk : (s.delay l).walk = some (e, i, k))
    (hitem : (s.delay l).items[k]? = some (x, j)) (hmet : (s.delay l).met.any s.descBad = false) :
    (x ≤ e → ∃ u, exec (.delayListWalk l) s = .next u ∧ (u.delay l).walk = some (e, i, k + 1) ∧ (u.delay l).items = (s.delay l).items) ∧
      (e < x → ∃ u, exec (.delayListWalk l) s = .next u ∧ (u.delay l).walk = none ∧
        (u.delay l).items = (s.delay l).items.take k ++ [(e, i)] ++ (s.delay l).items.drop k) := by
  have hstep : exec (.delayListWalk l) s = _ := congrArg Host.Outcome.next (State.delayWalk_of_met hwalk hitem hmet)
  refine ⟨fun hon => ?_, fun hhere => ?_⟩
  · rw [if_pos hon] at hstep
    have hdelay := State.delay_updDelay ht.delays l fun d => { d with walk := some (e, i, k + 1) }
    exact ⟨_, hstep, by rw [hdelay], by rw [hdelay]⟩
  · rw [if_neg (Nat.not_le.2 hhere)] at hstep
    generalize hlinked : (s.linkTo (if k = 0 then none else (s.delay l).items[k - 1]?.map (·.2)) i).linkTo (some i) j = linked at hstep
    have hsched : linked.sched.delays = s.sched.delays :=
      hlinked ▸ ((State.SumsKept.of_tables (State.linkTo_sched ..)).trans (State.SumsKept.of_tables (State.linkTo_sched ..))).delays
    have hdelay := State.delay_updDelay (hsched ▸ ht.delays) l fun d =>
      { d with items := d.items.take k ++ [(e, i)] ++ d.items.drop k, walk := none }
    rw [show linked.delay l = s.delay l by rw [State.delay, hsched, State.delay]] at hdelay
    exact ⟨_, hstep, by rw [hdelay], by rw [hdelay]⟩

theorem useCountDecay_clause (ht : s.tables) : ∃ u, exec .useCountDecay s = .next u ∧ ∀ w, u.useCount w = s.useCount w / 2 :=
  ⟨_, rfl, fun w => mget_mmapv (d := fun _ => 0) (f := fun _ v => v / 2) (fun _ => rfl) w ht.use⟩

/-! ### Staged words -/

/-- Words staged one after another, each under its key. -/
def State.stageAll (s : State) (l : List (Nat × Word)) : State := s.each l fun s x => s.stage x.1 x.2

theorem State.stagedAt_stage_ne (hs : mwf (fun _ => none) s.staged = true) {key k : Nat} (hk : k ≠ key) (w : Word) :
    (s.stage key w).stagedAt k = s.stagedAt k := by
  rw [State.stagedAt, State.stage, mget_mput_ne hs hk]
  rfl

theorem State.stagedAt_stageAll_other {l : List (Nat × Word)} (hs : mwf (fun _ => none) s.staged = true) {k : Nat}
    (hk : k ∉ l.map (·.1)) : (s.stageAll l).stagedAt k = s.stagedAt k := by
  induction l generalizing s with
  | nil => rfl
  | cons x l ih =>
    obtain ⟨hx, hl⟩ := not_or.1 (List.mem_cons.not.1 hk)
    exact (ih (s := s.stage x.1 x.2) (mwf_mput _ _ hs) hl).trans (State.stagedAt_stage_ne hs hx _)

/-- Under different keys each word is staged as given. -/
theorem State.stagedAt_stageAll {l : List (Nat × Word)} (hs : mwf (fun _ => none) s.staged = true) (hkeys : (l.map (·.1)).Nodup) :
    ∀ x ∈ l, (s.stageAll l).stagedAt x.1 = some x.2 := by
  induction l generalizing s with
  | nil => exact fun _ hx => absurd hx List.not_mem_nil
  | cons y l ih =>
    intro x hx
    obtain ⟨hy, hl⟩ := List.nodup_cons.1 hkeys
    have hs' : mwf (fun _ => none) (s.stage y.1 y.2).staged = true := mwf_mput _ _ hs
    rcases List.mem_cons.1 hx with rfl | hx
    · exact (State.stagedAt_stageAll_other hs' hy).trans (State.stagedAt_stage ..)
    · exact ih hs' hl x hx

theorem respond_stagedAt (s : State) (q : CmdRef) (st : Nat) (d : List Byte) (k : Nat) : (s.respond q st d).stagedAt k = s.stagedAt k := by
  rw [State.stagedAt, State.stagedAt, (respond_same s q st d).staged rfl, (respond_same s q st d).snapshot rfl]

/-- A command that stages words under different keys and is then answered. -/
theorem stagedAt_reply_stageAll (ht : s.tables) (e : Ebryn) {l : List (Nat × Word)} (hkeys : (l.map (·.1)).Nodup) :
    ∀ x ∈ l, (((s.entered e).stageAll l).reply h 0).stagedAt x.1 = some x.2 := fun x hx =>
  (respond_stagedAt ..).trans (State.stagedAt_stageAll ((entered_same s e).staged rfl ▸ ht.staged) hkeys x hx)

/-- The words of a template. -/
def templateWords (index d0 d1 d2 d3 : Nat) : List (Nat × Word) :=
  [(tplKey index 0, rweWord .SC_TPL_DATA_0 d0), (tplKey index 1, rweWord .SC_TPL_DATA_1 d1), (tplKey index 2, rweWord .SC_TPL_DATA_2 d2),
    (tplKey index 3, rweWord .SC_TPL_DATA_3 d3)]

/-- The words of an image and of one location of it. -/
def imageWords (image imageId slot data : Nat) : List (Nat × Word) :=
  [(imgKey image 0, BitVec.ofNat 32 imageId), (imgKey image 1, BitVec.ofNat 32 (imageId / 2 ^ 32)), (locKey slot 0, 0x80000000),
    (locKey slot 1, rweWord .SC_LOC_DATA data)]

theorem templateSet_clause (ht : s.tables) {index d0 d1 d2 d3 : Nat}
    (ha : s.accepts ⟨h, 0x0503, .r, argBytes [(6, 2, index), (8, 4, d0), (12, 4, d1), (16, 4, d2), (20, 4, d3)], false⟩)
    (hindex : index < 4096) : ∃ u, exec (.templateSet h index d0 d1 d2 d3) s = .next u ∧
      ∀ x ∈ templateWords index d0 d1 d2 d3, u.stagedAt x.1 = some x.2 := by
  have hkeys : ((templateWords index d0 d1 d2 d3).map (·.1)).Nodup := by simp [templateWords, tplKey]
  exact ⟨_, congrArg Host.Outcome.next ((submit_ok ha).trans (checks_ok (by simp; omega))), stagedAt_reply_stageAll ht _ hkeys⟩

theorem imageSet_clause (ht : s.tables) {image imageId slot data : Nat}
    (ha : s.accepts ⟨h, 0x0504, .r, argBytes [(6, 2, image), (8, 8, imageId), (16, 1, 1), (20, 2, slot), (24, 4, data)], false⟩)
    (himage : image < 1024) (hslot : slot < 4096) : ∃ u, exec (.imageSet h image imageId [(slot, data)]) s = .next u ∧
      ∀ x ∈ imageWords image imageId slot data, u.stagedAt x.1 = some x.2 := by
  have hkeys : ((imageWords image imageId slot data).map (·.1)).Nodup := by
    simp [imageWords, imgKey, locKey]
    omega
  exact ⟨_, congrArg Host.Outcome.next ((submit_ok ha).trans (checks_ok (by simp; omega))), stagedAt_reply_stageAll ht _ hkeys⟩

/-! ### The scheduler's state as a command enters -/

theorem entered_desc (s : State) (e : Ebryn) (i : Nat) : (s.entered e).desc i = s.desc i := by
  rw [State.desc, (entered_same s e).sched rfl, State.desc]

theorem entered_flow (s : State) (e : Ebryn) (f : Nat) : (s.entered e).flow f = s.flow f := by
  rw [State.flow, (entered_same s e).sched rfl, State.flow]

theorem entered_grp (s : State) (e : Ebryn) (g : Nat) : (s.entered e).grp g = s.grp g := by
  rw [State.grp, (entered_same s e).sched rfl, State.grp]

theorem entered_badWord (s : State) (e : Ebryn) (a : Nat) : (s.entered e).badWord a = s.badWord a := by
  have hsame := entered_same s e
  have hrewriting : (s.entered e).rewriting a = s.rewriting a := by
    rw [State.rewriting, State.rewriting, State.posts, State.posts, State.posted, State.posted, hsame.net rfl]
  have hphys : (s.entered e).phys a = s.phys a := by
    unfold State.phys State.stair
    rw [hsame.stairs rfl]
  rw [State.badWord, State.badWord, hrewriting, hphys, State.syn, State.syn, hsame.synd rfl]

theorem entered_descBad (hr : s.regsOk) (e : Ebryn) (i : Nat) : (s.entered e).descBad i = s.descBad i := by
  rw [State.descBad, State.descBad, entered_badWord, entered_badWord, State.descAddr, State.descAddr, entered_f hr e rfl]

theorem entered_setBad (hr : s.regsOk) (e : Ebryn) (key : Nat) : (s.entered e).setBad key = s.setBad key := by
  rw [State.setBad, State.setBad, State.matchAddr, State.matchAddr, State.matchSet, State.matchSet, entered_f hr e rfl,
    entered_f hr e rfl, entered_f hr e rfl]
  exact List.any_congr rfl fun k => entered_badWord ..

theorem entered_flowBad (hr : s.regsOk) (e : Ebryn) (f : Nat) : (s.entered e).flowBad f = s.flowBad f := by
  rw [State.flowBad, State.flowBad, entered_badWord, State.flowAddr, State.flowAddr, entered_f hr e rfl, entered_f hr e rfl,
    entered_f hr e rfl]

/-! ### The other commands -/

theorem sched_reply (s : State) (st : Nat) : (s.reply h st).sched = s.sched := (respond_same s h.ref st []).sched rfl

def flowSetCommand (h : CmdHdr) (flow prio grouped group : Nat) : Ebryn :=
  ⟨h, 0x0505, .r, argBytes [(6, 4, flow), (10, 1, prio), (11, 1, grouped), (12, 2, group)], false⟩

theorem exec_flowSet_of_idle (hr : s.regsOk) {flow prio grouped group : Nat} (ha : s.accepts (flowSetCommand h flow prio grouped group))
    (hflow : flow < 2 ^ s.f Fld.SC_SIZE_FLOW_LOG2 0) (hprio : prio < 4) (hgrouped : grouped < 2) (hbusy : (s.flow flow).busy = false)
    (hqueue : (s.flow flow).queue = []) (hgood : s.flowBad flow = false) :
    exec (.flowSet h flow prio grouped group) s = .next (((s.entered (flowSetCommand h flow prio grouped group)).updFlow flow
      fun c => { c with prio := prio, grouped := grouped == 1, group := group }).reply h 0) := by
  refine congrArg Host.Outcome.next ((submit_ok ha).trans ((checks_ok ?_).trans (if_neg ?_)))
  · rw [entered_f hr _ rfl, entered_flow]
    simp [hbusy, hqueue, hflow, hprio, hgrouped]
  · rw [entered_flowBad hr, hgood]
    exact Bool.false_ne_true

theorem flowSet_clause (hr : s.regsOk) (ht : s.tables) {flow prio grouped group : Nat}
    (ha : s.accepts (flowSetCommand h flow prio grouped group))
    (hflow : flow < 2 ^ s.f Fld.SC_SIZE_FLOW_LOG2 0) (hprio : prio < 4) (hgrouped : grouped < 2) (hbusy : (s.flow flow).busy = false)
    (hqueue : (s.flow flow).queue = []) (hgood : s.flowBad flow = false) :
    ∃ u, exec (.flowSet h flow prio grouped group) s = .next u ∧ (u.flow flow).prio = prio ∧
        (u.flow flow).grouped = (grouped == 1) ∧ (u.flow flow).group = group ∧ (u.flow flow).queue = [] ∧ (u.flow flow).busy = false := by
  refine ⟨_, exec_flowSet_of_idle hr ha hflow hprio hgrouped hbusy hqueue hgood, ?_⟩
  have hflows : (s.entered (flowSetCommand h flow prio grouped group)).flowsOk := by
    rw [State.flowsOk, (entered_same ..).sched rfl]
    exact ht.flows
  rw [State.flow, sched_reply, ← State.flow, State.updFlow, State.flow_setFlow hflows, entered_flow]
  exact ⟨rfl, rfl, rfl, hqueue, hbusy⟩

def groupSetCommand (h : CmdHdr) (group window : Nat) : Ebryn := ⟨h, 0x0506, .r, argBytes [(6, 2, group), (8, 4, window)], false⟩

theorem groupSet_clause (ht : s.tables) {group window : Nat} (ha : s.accepts (groupSetCommand h group window)) (hpos : 0 < window)
    (hmax : window ≤ 65536) (hout : (s.grp group).out = 0) (hoverflow : (s.grp group).overflow = []) :
    ∃ u, exec (.groupSet h group window) s = .next u ∧ (u.grp group).window = window ∧ (u.grp group).out = 0 := by
  have hrun : exec (.groupSet h group window) s =
      .next (((s.entered (groupSetCommand h group window)).updGrp group fun g => { g with window := window }).reply h 0) := by
    refine congrArg Host.Outcome.next ((submit_ok ha).trans (checks_ok ?_))
    rw [entered_grp]
    simp [hout, hoverflow, hmax, hpos.ne']
  have hgroups : mwf (fun _ => ({} : Grp)) (s.entered (groupSetCommand h group window)).sched.groups = true := by
    rw [(entered_same ..).sched rfl]
    exact ht.groups
  have hgrp : ((s.entered (groupSetCommand h group window)).updGrp group fun g => { g with window := window }).grp group =
      { s.grp group with window := window } := by
    rw [← entered_grp s (groupSetCommand h group window)]
    exact mget_mput_same hgroups ..
  refine ⟨_, hrun, ?_⟩
  rw [State.grp, sched_reply, ← State.grp, hgrp]
  exact ⟨rfl, hout⟩

def taskCancelCommand (h : CmdHdr) (i : Nat) : Ebryn := ⟨h, 0x0507, .r, argBytes [(6, 4, i)], false⟩

theorem State.cancelBad_of_waiting {i : Nat} (hstate : (s.desc i).state = 1) :
    s.cancelBad i = (s.descBad i || s.setBad (s.desc i).key) := by
  simp [State.cancelBad, hstate]

theorem State.cancel_of_waiting {i : Nat} (hstate : (s.desc i).state = 1) : s.cancel i =
    ((s.dropMatch (s.desc i).key).updSched fun q => { q with
      held := q.held - popc 8 (s.desc i).amask, matched := (q.matched + popc 8 (s.desc i).amask) % 2 ^ 64 }).freeDesc i := by
  rw [State.cancel]
  exact if_pos hstate

theorem State.cancel_frees (hd : s.descsOk) (hm : mwf (fun _ => 0) s.sched.mtab = true) {i : Nat} (hstate : (s.desc i).state = 1) :
    (s.cancel i).desc i = {} ∧ (s.cancel i).matchOf (s.desc i).key = none ∧
      (s.cancel i).sched.held = s.sched.held - popc 8 (s.desc i).amask ∧
      (s.cancel i).sched.matched = (s.sched.matched + popc 8 (s.desc i).amask) % 2 ^ 64 := by
  rw [State.cancel_of_waiting hstate]
  refine ⟨State.desc_freeDesc ?_ i, State.matchOf_of_mtab_dropped hm ?_, ?_, ?_⟩
  · rw [State.descsOk, State.updSched_sched, State.dropMatch_sched]
    exact hd
  all_goals rw [State.freeDesc_sched, State.updSched_sched, State.dropMatch_sched]

theorem exec_taskCancel_of_waiting (hr : s.regsOk) {i : Nat} (ha : s.accepts (taskCancelCommand h i)) (hi : i < s.meadowP)
    (hstate : (s.desc i).state = 1) (hgood : s.cancelBad i = false) :
    exec (.taskCancel h i) s = .next (((s.entered (taskCancelCommand h i)).cancel i).reply h 0) := by
  have hdesc := entered_desc s (taskCancelCommand h i) i
  refine congrArg Host.Outcome.next ((submit_ok ha).trans ((checks_ok ?_).trans (if_neg ?_)))
  · rw [State.meadowP, entered_f hr _ rfl, hdesc, ← State.meadowP]
    simp [hstate, hi]
  · rw [State.cancelBad_of_waiting (hdesc ▸ hstate), entered_descBad hr, hdesc, entered_setBad hr, ← State.cancelBad_of_waiting hstate, hgood]
    exact Bool.false_ne_true

theorem taskCancel_clause (hr : s.regsOk) (ht : s.tables) {i : Nat} (ha : s.accepts (taskCancelCommand h i)) (hi : i < s.meadowP)
    (hstate : (s.desc i).state = 1) (hgood : s.cancelBad i = false) :
    ∃ u, exec (.taskCancel h i) s = .next u ∧ u.desc i = {} ∧ u.matchOf (s.desc i).key = none ∧
        u.sched.held = s.sched.held - popc 8 (s.desc i).amask ∧
        u.sched.matched = (s.sched.matched + popc 8 (s.desc i).amask) % 2 ^ 64 := by
  refine ⟨_, exec_taskCancel_of_waiting hr ha hi hstate hgood, ?_⟩
  have hdesc := entered_desc s (taskCancelCommand h i) i
  have hsched := (entered_same s (taskCancelCommand h i)).sched rfl
  have hfrees := State.cancel_frees (s := s.entered (taskCancelCommand h i)) (i := i) (by rw [State.descsOk, hsched]; exact ht.descs)
    (by rw [hsched]; exact ht.mtab) (hdesc ▸ hstate)
  rw [hdesc, hsched] at hfrees
  rw [State.desc, State.matchOf, sched_reply, ← State.desc, ← State.matchOf]
  exact hfrees

/-! ### SCHED_DRAIN and TASK_POST -/

def schedDrainCommand (h : CmdHdr) (ms : Nat) : Ebryn := ⟨h, 0x0508, .r, argBytes [(6, 4, ms)], false⟩

/-- A drain waits while a task is READY. -/
theorem State.schedDrained_of_ready (hready : s.countState 2 ≠ 0) : s.schedDrained = s := by
  rw [State.schedDrained]
  exact if_neg (by simp [hready])

theorem schedDrain_clause (hr : s.regsOk) {ms : Nat} (ha : s.accepts (schedDrainCommand h ms)) (hready : s.countState 2 ≠ 0) :
    ∃ u, exec (.schedDrain h ms) s = .next u ∧ u.f Fld.SC_STATUS_DRAINING 0 = 1 ∧ u.sched.drainCmds = s.sched.drainCmds ++ [h.ref] := by
  have hsched := (entered_same s (schedDrainCommand h ms)).sched rfl
  have hregs : (s.entered (schedDrainCommand h ms)).regsOk := (State.enter_inv (clo_rd s .SC_STATUS 0 rfl rfl rfl) ⟨hr, rfl⟩).1
  refine ⟨_, congrArg Host.Outcome.next ((submit_ok ha).trans (State.schedDrained_of_ready ?_)), ?_, ?_⟩
  · rw [State.countState, State.updSched_sched, State.setF_sched, hsched]
    exact hready
  · rw [State.updSched_f_of, State.f_setF_same hregs _ rfl]
    rfl
  · rw [State.updSched_sched, State.setF_sched, hsched]

def taskPostCommand (h : CmdHdr) (r : TokRec) (repost : Nat) : Ebryn :=
  ⟨h, 0x0502, .r, argBytes [(6, 1, 1), (8, 8, r.tag), (16, 4, r.value), (56, 1, poisonBits [r]), (57, 1, repost)], false⟩

/-- The TOKEN packet of a command with one record. -/
def State.taskPacket (s : State) (r : TokRec) (repost : Nat) : Packet :=
  mkReq s 5 546 s.mpTag (epDest s.node 544) 27 (tokPayload [r] (repost % 16)) (poisonBits [r])

theorem State.taskPacket_fields (s : State) (r : TokRec) (repost : Nat) :
    (s.taskPacket r repost).type = 5 ∧ (s.taskPacket r repost).dest = epDest s.node 544 ∧
      (s.taskPacket r repost).payload = tokPayload [r] (repost % 16) ∧ (s.taskPacket r repost).poison = poisonBits [r] ∧
      (s.taskPacket r repost).srcPlane = 0 := ⟨rfl, rfl, rfl, rfl, rfl⟩

theorem exec_taskPost_of_accepted {r : TokRec} {repost : Nat} (ha : s.accepts (taskPostCommand h r repost)) :
    ∃ g, exec (.taskPost h [r] repost) s = .next ((((s.entered (taskPostCommand h r repost)).uncommitted h.ref).updMail g).request 546
      ((s.entered (taskPostCommand h r repost)).taskPacket r repost)) :=
  ⟨_, congrArg Host.Outcome.next ((submit_ok ha).trans (checks_ok (by simp)))⟩

theorem State.send_request (hsend : mwf (fun _ => []) s.net.send = true) (ep : Nat) (p : Packet) :
    mget (fun _ => []) (s.request ep p).net.send ep = mget (fun _ => []) s.net.send ep ++ [p] :=
  State.send_inject (s := s.setOut _ _) hsend ..

theorem State.outReq_request (hreqs : mwf (fun _ => none) s.net.outReq = true) (ep : Nat) (p : Packet) :
    (s.request ep p).outReq (outKey ep p.srcPlane p.tag) = some { pkt := p } := State.outReq_setOut hreqs ..

theorem taskPost_clause (hr : s.regsOk) (ht : s.tables) {r : TokRec} {repost : Nat} (ha : s.accepts (taskPostCommand h r repost)) :
    ∃ u, exec (.taskPost h [r] repost) s = .next u ∧ ∃ k, mget (fun _ => []) u.net.send 546 = mget (fun _ => []) s.net.send 546 ++ [k] ∧
      k.type = 5 ∧ k.dest = epDest s.node 544 ∧ k.payload = tokPayload [r] (repost % 16) ∧ k.poison = poisonBits [r] ∧
      u.outReq (outKey 546 0 k.tag) = some { pkt := k } := by
  obtain ⟨g, hexec⟩ := exec_taskPost_of_accepted ha
  have hnode : (s.entered (taskPostCommand h r repost)).node = s.node := by
    rw [State.node, State.node, entered_f hr _ rfl, entered_f hr _ rfl]
  have hnet : (((s.entered (taskPostCommand h r repost)).uncommitted h.ref).updMail g).net = s.net :=
    (entered_same s (taskPostCommand h r repost)).net rfl
  obtain ⟨htype, hdest, hpayload, hpoison, hplane⟩ := State.taskPacket_fields (s.entered (taskPostCommand h r repost)) r repost
  generalize (s.entered (taskPostCommand h r repost)).taskPacket r repost = k at *
  have hout := State.outReq_request (s := ((s.entered (taskPostCommand h r repost)).uncommitted h.ref).updMail g) (hnet ▸ ht.outReq) 546 k
  rw [hplane] at hout
  refine ⟨_, hexec, k, ?_, htype, hdest.trans (by rw [hnode]), hpayload, hpoison, hout⟩
  rw [State.send_request (hnet ▸ ht.send), hnet]

/-- Settles O36: each clause is what its event or command leaves in the tables of the scheduler, the staged set or the corridor. -/
theorem delaysAndSchedulerCommands : Obligations.DelaysAndSchedulerCommands := by
  intro s h hc ht
  refine ⟨⟨_, rfl, rfl, rfl⟩, fun l e i rest hitems hdue hsafe hheld hgroup hdesc hready =>
      delayExpiry_clause ht hitems hdue hsafe hheld hgroup hdesc hready,
    fun l e i k hwalk x j hitem hmet => delayListWalk_clause ht hwalk hitem hmet, useCountDecay_clause ht, ?_, ?_,
    fun flow prio grouped group ha hflow hprio hgrouped hbusy hqueue hgood _ =>
      flowSet_clause hc.regs ht ha hflow hprio hgrouped hbusy hqueue hgood,
    fun group window ha hpos hmax hout hoverflow => groupSet_clause ht ha hpos hmax hout hoverflow,
    fun i ha hi hstate hgood => taskCancel_clause hc.regs ht ha hi hstate hgood,
    fun ms ha hready => schedDrain_clause hc.regs ha hready, fun r repost ha => taskPost_clause hc.regs ht ha⟩
  · intro index d0 d1 d2 d3 ha hindex
    obtain ⟨u, hu, hwords⟩ := templateSet_clause ht ha hindex
    exact ⟨u, hu, by simpa [templateWords] using hwords⟩
  · intro image imageId slot data ha himage hslot
    obtain ⟨u, hu, hwords⟩ := imageSet_clause ht ha himage hslot
    exact ⟨u, hu, by simpa [imageWords] using hwords⟩

end Sys2Proof.Machine

/-!
SUPPORT. The arithmetic of the DSP engines against the library's: numbers of w bits are bit vectors, a wrapped value is the
one that a bit vector keeps, and a reversed number has the bits of the other in reverse order (R204, R205, R209, R230).
-/
namespace Sys2Proof.Machine

/-! ### Numbers of w bits -/

theorem low_eq_toNat (w : Nat) (v : Int) : low w v = (BitVec.ofInt w v).toNat := (BitVec.toNat_ofInt v).symm

theorem low_lt (w : Nat) (v : Int) : low w v < 2 ^ w := low_eq_toNat w v ▸ BitVec.isLt _

theorem low_cast (w : Nat) (v : Int) : (low w v : Int) = v % 2 ^ w := by
  simp [low, Int.emod_nonneg]

@[simp] theorem low_toInt {w : Nat} (x : BitVec w) : low w x.toInt = x.toNat := by
  rw [low_eq_toNat, BitVec.ofInt_toInt]

theorem sgn_eq_toInt (w n : Nat) : sgn w n = (BitVec.ofNat w n).toInt := by
  have hlt : n % 2 ^ w < 2 ^ (w - 1) ↔ 2 * (n % 2 ^ w) < 2 ^ w := by
    cases w with
    | zero => simp [Nat.mod_one]
    | succ k => rw [Nat.add_sub_cancel, Nat.pow_succ]; omega
  simp only [sgn, BitVec.toInt_eq_toNat_cond, BitVec.toNat_ofNat, hlt]

@[simp] theorem sgn_toNat {w : Nat} (x : BitVec w) : sgn w x.toNat = x.toInt := by
  rw [sgn_eq_toInt, BitVec.ofNat_toNat, BitVec.setWidth_eq]

theorem sgn_low (w : Nat) (v : Int) : sgn w (low w v) = (BitVec.ofInt w v).toInt := by
  rw [low_eq_toNat, sgn_toNat]

/-- Reading w bits as a signed number loses none of them. -/
theorem low_sgn (w n : Nat) : low w (sgn w n) = (BitVec.ofNat w n).toNat := by
  rw [sgn_eq_toInt, low_toInt]

/-! ### Range checks -/

/-- The values that a field of w bits holds (R204). -/
def Fits (w : Nat) (v : Int) : Prop := -(2 ^ (w - 1) : Int) ≤ v ∧ v < 2 ^ (w - 1)

theorem fitRange_of_fits {w : Nat} {v : Int} (h : Fits w v) (sat : Bool) : fitRange w sat v = (v, false) := by
  unfold Fits at h
  simp only [fitRange]
  push_cast
  rw [if_pos (by omega)]

theorem fitRange_of_not_fits {w : Nat} {v : Int} (h : ¬ Fits w v) (sat : Bool) :
    fitRange w sat v =
      (if sat then if v < 0 then -(2 ^ (w - 1) : Int) else 2 ^ (w - 1) - 1 else (BitVec.ofInt w v).toInt, true) := by
  have hpos : (0 : Int) < 2 ^ (w - 1) := by positivity
  have hside : v < -(2 ^ (w - 1) : Int) ↔ v < 0 := by unfold Fits at h; omega
  unfold Fits at h
  simp only [fitRange, sgn_low]
  push_cast
  rw [if_neg (by omega)]
  cases sat <;> simp [hside]

theorem fitRange_out_iff {w : Nat} {v : Int} (sat : Bool) : (fitRange w sat v).2 = false ↔ Fits w v := by
  by_cases h : Fits w v
  · simp [fitRange_of_fits h, h]
  · simp [fitRange_of_not_fits h, h]

theorem fits_toInt {w : Nat} (x : BitVec w) : Fits w x.toInt := ⟨BitVec.le_toInt x, BitVec.toInt_lt⟩

/-- A wrapping check keeps a value of the range that is congruent to v. -/
theorem fitRange_wraps (w : Nat) (v : Int) :
    Fits w (fitRange w false v).1 ∧ (v - (fitRange w false v).1) % 2 ^ w = 0 := by
  by_cases h : Fits w v
  · simp [fitRange_of_fits h, h]
  · simp only [fitRange_of_not_fits h, Bool.false_eq_true, if_false]
    refine ⟨fits_toInt _, ?_⟩
    rw [BitVec.toInt_ofInt]
    exact_mod_cast Int.emod_eq_zero_of_dvd (Int.dvd_self_sub_bmod (x := v) (m := 2 ^ w))

/-! ### Convergent rounding -/

theorem roundShift_zero (v : Int) : roundShift v 0 = v := by simp [roundShift]

/-- The floor, or one more where the remainder is above the half or ties with it at an odd floor (R205). -/
theorem roundShift_succ (v : Int) (k : Nat) :
    roundShift v (k + 1) = if 2 ^ k < v % 2 ^ (k + 1) ∨ (v % 2 ^ (k + 1) = 2 ^ k ∧ v / 2 ^ (k + 1) % 2 = 1)
      then v / 2 ^ (k + 1) + 1 else v / 2 ^ (k + 1) := by
  have hrem : v - v / 2 ^ (k + 1) * 2 ^ (k + 1) = v % 2 ^ (k + 1) := by rw [Int.emod_def, Int.mul_comm]
  simp only [roundShift, Nat.add_sub_cancel, Nat.succ_ne_zero, if_false]
  push_cast
  rw [hrem]

theorem roundShift_nearest (v : Int) (sh : Nat) :
    2 * (v - roundShift v sh * 2 ^ sh) ≤ 2 ^ sh ∧ -(2 ^ sh : Int) ≤ 2 * (v - roundShift v sh * 2 ^ sh) ∧
      (0 < sh → 2 * (v - roundShift v sh * 2 ^ sh) = 2 ^ sh ∨ 2 * (v - roundShift v sh * 2 ^ sh) = -(2 ^ sh : Int) →
        roundShift v sh % 2 = 0) := by
  cases sh with
  | zero => simp [roundShift_zero]
  | succ k =>
    have hdiv := Int.mul_ediv_add_emod v (2 ^ (k + 1))
    have hlo : 0 ≤ v % 2 ^ (k + 1) := Int.emod_nonneg _ (by positivity)
    have hhi : v % 2 ^ (k + 1) < 2 ^ (k + 1) := Int.emod_lt_of_pos _ (by positivity)
    have hhalf : (2 : Int) ^ (k + 1) = 2 * 2 ^ k := Int.pow_succ' ..
    rw [roundShift_succ]
    generalize v / 2 ^ (k + 1) = q at *
    generalize v % 2 ^ (k + 1) = r at *
    split
    · have hleft : v - (q + 1) * 2 ^ (k + 1) = r - 2 ^ (k + 1) := by rw [← hdiv]; ring
      rw [hleft, hhalf]
      omega
    · have hleft : v - q * 2 ^ (k + 1) = r := by rw [← hdiv]; ring
      rw [hleft, hhalf]
      omega

/-! ### Bits in reverse order -/

theorem bit_eq_toNat_testBit (v i : Nat) : bit v i = (v.testBit i).toNat := (Nat.toNat_testBit v i).symm

theorem bit_lt (v i : Nat) : bit v i < 2 := Nat.mod_lt _ (by decide)

theorem foldl_add_range (f : Nat → Nat) (k : Nat) :
    (List.range k).foldl (fun a i => a + f i) 0 = ∑ i ∈ Finset.range k, f i := by
  induction k with
  | zero => rfl
  | succ k ih => rw [List.range_succ, List.foldl_append, ih, Finset.sum_range_succ]; rfl

/-- One more bit enters at the low end. -/
theorem rev_succ (k v : Nat) : rev (k + 1) v = 2 * rev k v + bit v k := by
  simp only [rev, foldl_add_range, Finset.sum_range_succ, Finset.mul_sum]
  congr 1
  · refine Finset.sum_congr rfl fun i hi => ?_
    have hshift : k + 1 - 1 - i = k - 1 - i + 1 := by have := Finset.mem_range.mp hi; omega
    rw [hshift, Nat.pow_succ]
    ring
  · simp

theorem rev_lt (k v : Nat) : rev k v < 2 ^ k := by
  induction k with
  | zero => exact Nat.one_pos
  | succ k ih => have := bit_lt v k; rw [rev_succ, Nat.pow_succ]; omega

theorem testBit_rev (k v i : Nat) : (rev k v).testBit i = (decide (i < k) && v.testBit (k - 1 - i)) := by
  induction k generalizing i with
  | zero => simp [rev]
  | succ k ih =>
    have hbit := bit_lt v k
    rw [rev_succ]
    cases i with
    | zero => cases hv : v.testBit k <;> simp [bit_eq_toNat_testBit, hv]
    | succ i =>
      have hhalf : (2 * rev k v + bit v k) / 2 = rev k v := by omega
      rw [Nat.testBit_succ, hhalf, ih, Nat.add_sub_cancel, Nat.sub_sub, Nat.add_comm 1 i]
      simp

theorem rev_rev {k v : Nat} (h : v < 2 ^ k) : rev k (rev k v) = v := by
  refine Nat.eq_of_testBit_eq fun i => ?_
  rw [testBit_rev, testBit_rev]
  by_cases hi : i < k
  · have hback : k - 1 - (k - 1 - i) = i := by omega
    have hin : k - 1 - i < k := by omega
    simp [hi, hback, hin]
  · simp [hi, Nat.testBit_lt_two_pow (h.trans_le (Nat.pow_le_pow_right two_pos (not_lt.mp hi)))]

/-! ### Pointers -/

/-- The length L of a pointer's buffer (R209). -/
def ptrLen (xl : Nat) : Nat := xl % 2 ^ 14 + 1

/-- The base of the buffer that a pointer stands in: the multiple of 2^k below it (R209). -/
def ptrBase (xl p : Nat) : Nat := p / 2 ^ clog2 (ptrLen xl) * 2 ^ clog2 (ptrLen xl)

theorem bits_mode {xl : Nat} (h : xl < 2 ^ 16) : bits xl 15 14 = xl / 2 ^ 14 :=
  Nat.mod_eq_of_lt (Nat.div_lt_of_lt_mul h)

theorem bits_length_add_one (xl : Nat) : bits xl 13 0 + 1 = ptrLen xl := by simp [bits, ptrLen]

/-- A pointer in bit-reversed mode may be used only with a length that is a power of two. -/
theorem ptrLen_of_modeOk_reversed {xl : Nat} (hok : modeOk xl = true) (h : bits xl 15 14 = 2) :
    ptrLen xl = 2 ^ clog2 (ptrLen xl) := by
  have hlen : 2 ≤ ptrLen xl ∧ ptrLen xl = 2 ^ clog2 (ptrLen xl) := by simpa [modeOk, bits_length_add_one, h] using hok
  exact hlen.2

section
variable {xl : Nat} (p : Nat) (m : Int)

theorem updPtr_linear (h : bits xl 15 14 = 0) : updPtr xl p m = low 14 (p + m) := by simp [updPtr, h]

theorem updPtr_modulo_inside (h : bits xl 15 14 = 1) (hinside : p - ptrBase xl p < ptrLen xl) :
    updPtr xl p m = ptrBase xl p + (((p - ptrBase xl p : Nat) + m) % (ptrLen xl : Int)).toNat := by
  rw [ptrBase] at *
  simp only [updPtr, bits_length_add_one, h, Nat.one_ne_zero, if_false, if_true, if_pos hinside]

theorem updPtr_modulo_outside (h : bits xl 15 14 = 1) (houtside : ptrLen xl ≤ p - ptrBase xl p) :
    updPtr xl p m = low 14 (p + m) := by
  rw [ptrBase] at houtside
  simp only [updPtr, bits_length_add_one, h, Nat.one_ne_zero, if_false, if_true, if_neg houtside.not_gt]

theorem updPtr_reversed (hok : modeOk xl = true) (h : bits xl 15 14 = 2) :
    let k := clog2 (ptrLen xl)
    updPtr xl p m = ptrBase xl p + rev k ((rev k (p - ptrBase xl p) + rev k (low k m)) % ptrLen xl) := by
  have hbase : p / ptrLen xl * ptrLen xl = ptrBase xl p := by rw [ptrBase, ← ptrLen_of_modeOk_reversed hok h]
  simp [updPtr, bits_length_add_one, h, hbase, ← ptrLen_of_modeOk_reversed hok h]

end

/-! ### The ALU -/

theorem aluField_checked {op w x y sh : Nat} {v : Int} (h : aluOp op w x y sh = (v, true)) (sat : Bool) :
    aluField op w x y sh sat = (low w (fitRange w sat v).1, (fitRange w sat v).2) := by
  simp [aluField, h]

theorem aluField_unchecked {op w x y sh : Nat} {v : Int} (h : aluOp op w x y sh = (v, false)) (sat : Bool) :
    aluField op w x y sh sat = (low w v, false) := by
  simp [aluField, h]

theorem aluField_lt (op w x y sh : Nat) (sat : Bool) : (aluField op w x y sh sat).1 < 2 ^ w := by
  rcases hop : aluOp op w x y sh with ⟨v, _ | _⟩
  · rw [aluField_unchecked hop]; exact low_lt ..
  · rw [aluField_checked hop]; exact low_lt ..

/-- A logic operation keeps the bits of its result. -/
theorem aluField_logic {op w x y sh n : Nat} (h : aluOp op w x y sh = (sgn w n, false)) (z : BitVec w)
    (hz : n = z.toNat) (sat : Bool) : aluField op w x y sh sat = (z.toNat, false) := by
  rw [aluField_unchecked h, hz, sgn_toNat, low_toInt]

section
variable {w : Nat} (x y : BitVec w) (sh : Nat) (sat : Bool)

theorem aluField_and : aluField 0x2 w x.toNat y.toNat sh sat = ((x &&& y).toNat, false) :=
  aluField_logic rfl _ (BitVec.toNat_and ..).symm sat

theorem aluField_or : aluField 0x3 w x.toNat y.toNat sh sat = ((x ||| y).toNat, false) :=
  aluField_logic rfl _ (BitVec.toNat_or ..).symm sat

theorem aluField_xor : aluField 0x4 w x.toNat y.toNat sh sat = ((x ^^^ y).toNat, false) :=
  aluField_logic rfl _ (BitVec.toNat_xor ..).symm sat

theorem aluField_andn : aluField 0x5 w x.toNat y.toNat sh sat = ((x &&& ~~~y).toNat, false) := by
  refine aluField_logic rfl _ ?_ sat
  rw [BitVec.toNat_and, BitVec.toNat_not, Nat.mod_eq_of_lt y.isLt]
  rfl

theorem aluField_add : aluField 0x0 w x.toNat y.toNat sh sat =
    (low w (fitRange w sat (x.toInt + y.toInt)).1, (fitRange w sat (x.toInt + y.toInt)).2) := by
  rw [← sgn_toNat x, ← sgn_toNat y]
  exact aluField_checked rfl sat

theorem aluField_sub : aluField 0x1 w x.toNat y.toNat sh sat =
    (low w (fitRange w sat (x.toInt - y.toInt)).1, (fitRange w sat (x.toInt - y.toInt)).2) := by
  rw [← sgn_toNat x, ← sgn_toNat y]
  exact aluField_checked rfl sat

theorem aluField_min : aluField 0xC w x.toNat y.toNat sh sat = (if x.toInt ≤ y.toInt then x.toNat else y.toNat, false) := by
  rw [aluField_unchecked rfl, sgn_toNat, sgn_toNat, apply_ite (low w), low_toInt, low_toInt]

theorem aluField_max : aluField 0xD w x.toNat y.toNat sh sat = (if x.toInt ≤ y.toInt then y.toNat else x.toNat, false) := by
  rw [aluField_unchecked rfl, sgn_toNat, sgn_toNat, apply_ite (low w), low_toInt, low_toInt]

theorem aluField_asr : aluField 0x6 w x.toNat y.toNat sh sat = ((x.sshiftRight sh).toNat, false) := by
  rw [aluField_unchecked rfl, sgn_toNat, low_eq_toNat, BitVec.sshiftRight_eq, Int.shiftRight_eq_div_pow]

theorem aluField_lsr : aluField 0x7 w x.toNat y.toNat sh sat = ((x >>> sh).toNat, false) := by
  refine aluField_logic rfl _ ?_ sat
  rw [Nat.mod_eq_of_lt x.isLt, BitVec.toNat_ushiftRight, Nat.shiftRight_eq_div_pow]

end

theorem aluWord_whole (op x y : Nat) (sat : Bool) : aluWord op x y false sat = aluField op 32 x y (y % 64) sat := rfl

theorem aluWord_low_lane (op x y : Nat) (sat : Bool) :
    (aluWord op x y true sat).1 % 65536 = (aluField op 16 (x % 65536) (y % 65536) (y % 65536 % 32) sat).1 := by
  have hlt := aluField_lt op 16 (x % 65536) (y % 65536) (y % 32) sat
  rw [Nat.mod_mod_of_dvd y (by decide)]
  simp only [aluWord, if_true]
  omega

theorem aluWord_high_lane (op x y : Nat) (sat : Bool) :
    (aluWord op x y true sat).1 / 65536 =
      (aluField op 16 (x / 65536 % 65536) (y / 65536 % 65536) (y / 65536 % 65536 % 32) sat).1 := by
  have hlt := aluField_lt op 16 (x % 65536) (y % 65536) (y % 32) sat
  rw [Nat.mod_mod_of_dvd (y / 65536) (by decide)]
  simp only [aluWord, if_true]
  omega

end Sys2Proof.Machine

/-!
CLAIM. The arithmetic of the DSP engines computes what the rules say (R204, R205, R209, R230).
-/
namespace Sys2Proof.Machine

theorem fitRange_clause (w : Nat) (sat : Bool) (v : Int) :
    let r := fitRange w sat v
    (r.2 = false ↔ Fits w v) ∧ (r.2 = false → r.1 = v) ∧
    (sat = true → r.2 = true → r.1 = if v < 0 then -(2 ^ (w - 1) : Int) else 2 ^ (w - 1) - 1) ∧
    (sat = false → -(2 ^ (w - 1) : Int) ≤ r.1 ∧ r.1 < 2 ^ (w - 1) ∧ (v - r.1) % 2 ^ w = 0) := by
  refine ⟨fitRange_out_iff sat, fun hin => ?_, fun hsat hout => ?_, fun hsat => ?_⟩
  · rw [fitRange_of_fits ((fitRange_out_iff sat).mp hin)]
  · have hnot : ¬ Fits w v := fun h => by simp [fitRange_of_fits h] at hout
    simp [fitRange_of_not_fits hnot, hsat]
  · exact hsat ▸ and_assoc.mp (fitRange_wraps w v)

section
variable {xl p : Nat} (m : Int) (hxl : xl < 2 ^ 16)
include hxl

theorem updPtr_linear_clause
    (h : xl / 2 ^ 14 = 0 ∨ (xl / 2 ^ 14 = 1 ∧ ptrLen xl ≤ p - ptrBase xl p)) :
    (updPtr xl p m : Int) = (p + m) % 2 ^ 14 := by
  rw [← bits_mode hxl] at h
  obtain hlinear | ⟨hmodulo, houtside⟩ := h
  · rw [updPtr_linear p m hlinear, low_cast]
  · rw [updPtr_modulo_outside p m hmodulo houtside, low_cast]

theorem updPtr_modulo_clause (hmodulo : xl / 2 ^ 14 = 1) (hinside : p - ptrBase xl p < ptrLen xl) :
    ptrBase xl p ≤ updPtr xl p m ∧ updPtr xl p m < ptrBase xl p + ptrLen xl ∧
      ((updPtr xl p m - ptrBase xl p : Nat) : Int) = (((p - ptrBase xl p : Nat) : Int) + m) % (ptrLen xl : Int) := by
  have hpos : (0 : Int) < ptrLen xl := Int.natCast_pos.mpr (Nat.succ_pos _)
  have hnonneg := Int.emod_nonneg (((p - ptrBase xl p : Nat) : Int) + m) hpos.ne'
  have hlt := Int.emod_lt_of_pos (((p - ptrBase xl p : Nat) : Int) + m) hpos
  rw [updPtr_modulo_inside p m ((bits_mode hxl).trans hmodulo) hinside]
  omega

theorem updPtr_reversed_clause (hok : modeOk xl = true) (hreversed : xl / 2 ^ 14 = 2) :
    let k := clog2 (ptrLen xl)
    ptrLen xl = 2 ^ k ∧ ptrBase xl p ≤ updPtr xl p m ∧ updPtr xl p m < ptrBase xl p + ptrLen xl ∧
      rev k (updPtr xl p m - ptrBase xl p) = (rev k (p - ptrBase xl p) + rev k (low k m)) % ptrLen xl := by
  intro k
  have hmode := (bits_mode hxl).trans hreversed
  have hlen : ptrLen xl = 2 ^ k := ptrLen_of_modeOk_reversed hok hmode
  rw [updPtr_reversed p m hok hmode]
  refine ⟨hlen, Nat.le_add_right .., Nat.add_lt_add_left ((rev_lt ..).trans_eq hlen.symm) _, ?_⟩
  rw [Nat.add_sub_cancel_left]
  exact rev_rev ((Nat.mod_lt _ (Nat.succ_pos _)).trans_eq hlen)

end

/-- Settles O42: the range check, the rounding, the three pointer modes, the ALU's words and its two lanes, each over every operand. -/
theorem engineArithmeticRules : Obligations.EngineArithmeticRules := by
  refine ⟨fun w sat v _ => fitRange_clause w sat v, roundShift_nearest, fun xl p m _ hxl hok => ?_, fun x y sat => ?_, ?_, ?_⟩
  · exact ⟨updPtr_linear_clause m hxl, updPtr_modulo_clause m hxl, updPtr_reversed_clause m hxl hok⟩
  · simp only [aluWord_whole]
    exact ⟨aluField_and .., aluField_or .., aluField_xor .., aluField_andn .., aluField_add .., aluField_sub ..,
      aluField_min .., aluField_max .., aluField_asr .., aluField_lsr ..⟩
  · intro op x y x' y' sat hx hy
    rw [aluWord_low_lane, aluWord_low_lane, hx, hy]
  · intro op x y x' y' sat hx hy
    rw [aluWord_high_lane, aluWord_high_lane, hx, hy]

end Sys2Proof.Machine

/-!
SUPPORT. A D register after a write (R202), an engine after an update, and a 32-bit word of an engine's memories as the decoder
delivers it (R122, R126).
-/
namespace Sys2Proof.Machine
variable {s t u : State} {e : Nat}

/-! ### A D register after a write -/

theorem poison_over (w v : Nat) (p : Bool) :
    (v % 2 ^ w + if p then 2 ^ w else 0) % 2 ^ (w + 1) = v % 2 ^ w + if p then 2 ^ w else 0 := by
  have := Nat.mod_lt v (Nat.two_pow_pos w)
  rw [Nat.mod_eq_of_lt]
  split <;> (rw [Nat.pow_succ]; omega)

theorem poison_div (w v : Nat) (p : Bool) : decide ((v % 2 ^ w + if p then 2 ^ w else 0) / 2 ^ w = 1) = p := by
  have hw := Nat.two_pow_pos w
  have hv := Nat.mod_lt v hw
  cases p
  · simp [Nat.div_eq_of_lt hv]
  · rw [if_pos rfl, Nat.add_div_right _ hw, Nat.div_eq_of_lt hv]
    rfl

theorem Eng.dv_setD {g : Eng} (h : mwf (fun _ => 0) g.d = true) (k v : Nat) (p : Bool) (j : Nat) :
    (g.setD k v p).dv j = if j = k then (v % 2 ^ 32, p) else g.dv j := by
  rw [Eng.dv, Eng.setD, mget_mput _ _ _ h]
  split
  · rw [BitVec.toNat_ofNat, poison_over 32 v p, poison_div 32 v p]
    refine Prod.ext ?_ rfl
    show (v % 2 ^ 32 + if p then 2 ^ 32 else 0) % 2 ^ 32 = v % 2 ^ 32
    split <;> simp
  · rfl

theorem Eng.dv_lt (g : Eng) (k : Nat) : (g.dv k).1 < 2 ^ 32 := Nat.mod_lt _ (by decide)

/-! ### An engine after an update -/

theorem State.eng_updEng_same (h : s.canon) (e : Nat) (g : Eng → Eng) : (s.updEng e g).eng e = g (s.eng e) := mget_mput_same h.engs ..
theorem State.eng_updEng_ne (h : s.canon) {j : Nat} (hj : j ≠ e) (g : Eng → Eng) : (s.updEng e g).eng j = s.eng j := mget_mput_ne h.engs hj _
theorem State.canon_updEng (h : s.canon) (e : Nat) (g : Eng → Eng) : (s.updEng e g).canon := { h with engs := mwf_mput _ _ h.engs }

/-! ### Words as the decoder delivers them -/

theorem xAddr_above (e w : Nat) : 2 ^ 32 ≤ xAddr e w := by unfold xAddr; omega
theorem pAddr_above (e i : Nat) : 2 ^ 32 ≤ pAddr e i := by unfold pAddr; omega

section words
variable {a : Nat} (h : 2 ^ 32 ≤ a) (hmem : t.mem = s.mem) (hsynd : t.synd = s.synd)

/-- The word and the poison mark that a read of an engine's memory gives. -/
theorem State.engRead_decoded (s : State) (a : Nat) :
    (s.engRead a).1 = leNat (slice (s.decoded a).1 (a % 32) 4) ∧ (s.engRead a).2.1 = (s.decoded a).2 := by
  have hbase : a / 32 * 32 / 32 * 32 = a / 32 * 32 := by omega
  have hdecoded : s.decoded (a / 32 * 32) = s.decoded a := by unfold State.decoded; rw [hbase]
  rw [← hdecoded]
  exact ⟨rfl, rfl⟩

include h hmem hsynd

/-- Above the lofts, what the decoder delivers depends on the bytes and the syndromes alone. -/
theorem State.decoded_congr : t.decoded a = s.decoded a := by
  have hbyte : t.byte = s.byte := funext fun x => congrArg (fun m => mget (fun _ => 0) m x) hmem
  have hsyn : t.syn = s.syn := funext fun x => congrArg (fun m => mget (fun _ => 0) m (x / 32)) hsynd
  have hphys (r : State) : r.phys (a / 32 * 32) = a / 32 * 32 := State.phys_of_above (by omega)
  unfold State.decoded State.bytesAt
  rw [hphys, hphys, hbyte, hsyn]

theorem State.engRead_congr : (t.engRead a).1 = (s.engRead a).1 ∧ (t.engRead a).2.1 = (s.engRead a).2.1 := by
  obtain ⟨hv, hp⟩ := s.engRead_decoded a
  obtain ⟨hv', hp'⟩ := t.engRead_decoded a
  rw [hv, hp, hv', hp', State.decoded_congr h hmem hsynd]
  exact ⟨rfl, rfl⟩
end words

end Sys2Proof.Machine

/-!
SUPPORT. What an answer to a command leaves of the corridor: only the management processor's endpoint sends something (R379, R384 to R386).
-/
namespace Sys2Proof.Machine
variable {s t u : State}

/-- Beside those of endpoint 546, the packets sent are as before. -/
structure State.MpOnly (s t : State) : Prop where
  send : mwf (fun _ => []) t.net.send = true
  sent : ∀ ep, ep ≠ 546 → mget (fun _ => []) t.net.send ep = mget (fun _ => []) s.net.send ep

theorem State.MpOnly.of_send (h : s.MpOnly t) (hsend : u.net.send = t.net.send) : s.MpOnly u :=
  ⟨hsend ▸ h.send, fun ep hep => hsend ▸ h.sent ep hep⟩

theorem State.MpOnly.of_net (h : s.MpOnly t) (hnet : u.net = t.net) : s.MpOnly u := h.of_send (congrArg _ hnet)

theorem State.MpOnly.inject (h : s.MpOnly t) (p : Packet) : s.MpOnly (t.inject 546 p) :=
  ⟨mwf_mput _ _ h.send, fun ep hep => (mget_mput_ne h.send hep _).trans (h.sent ep hep)⟩

theorem State.MpOnly.setOut (h : s.MpOnly t) (k : Nat) (r : Option OutReq) : s.MpOnly (t.setOut k r) := h.of_send rfl
theorem State.MpOnly.setPosts (h : s.MpOnly t) (ep : Nat) (l : List Packet) : s.MpOnly (t.setPosts ep l) := h.of_send rfl

theorem State.MpOnly.pumpPosts (h : s.MpOnly t) : s.MpOnly (t.pumpPosts 546) := by
  refine foldl_p (Q := s.MpOnly) (fun a p ha => ?_) (h.setPosts ..)
  split
  case h_1 => exact (ha.setOut ..).inject _
  case h_2 => exact ha.setPosts ..

theorem State.MpOnly.postSpan (h : s.MpOnly t) (a : Nat) (d : List Byte) : s.MpOnly (t.postSpan 546 a d) :=
  foldl_p (Q := s.MpOnly) (fun _ _ ha => (ha.setPosts ..).pumpPosts) h

theorem State.MpOnly.deliver (h : s.MpOnly t) (r : CmdRef) (hdrTag : Nat) (blk : List Byte) : s.MpOnly (t.deliver r hdrTag blk) := by
  obtain ⟨port, node, ep, tag⟩ := r
  unfold State.deliver
  refine ite_p (fun _ => ?_) fun _ => ite_p (fun _ => ?_) fun _ => ite_p (fun _ => h.inject _) fun _ => ite_p (fun _ => h.of_net rfl)
    fun _ => (h.postSpan ..).postSpan ..
  · exact ite_p (fun _ => h.of_net rfl) fun _ => h.of_net rfl
  · exact ite_p (fun _ => h.of_net rfl) fun _ => h.of_net rfl

theorem State.MpOnly.respond (h : s.MpOnly t) (r : CmdRef) (st : Nat) (d : List Byte) : s.MpOnly (t.respond r st d) := by
  unfold State.respond
  extract_lets hdrTag silent blk keep t'
  have ht' : s.MpOnly t' := ite_p (fun _ => h) fun _ => h.of_net rfl
  exact ite_p (fun _ => ht'.of_net rfl) fun _ => ht'.deliver ..

end Sys2Proof.Machine

/-!
SUPPORT. The state in which the body of an instruction runs, and what its completion changes: the decoder's counts of the fetch, the answer
to a DSP_START or DSP_STEP, the cycles and the next program index, and nothing else that the instruction set speaks of (R228, R240).
-/
namespace Sys2Proof.Machine
variable {s t u : State} {e : Nat}

/-! ### Beside the engine's registers -/

/-- The kinds of state that reads of words and answers to commands may change. -/
abbrev issueMask : Nat := 0x1e020000071000000000000000000000000000000000000000000000000000022ba

/-- t is s but for the decoder's counts, commands answered, and the start of a program or a step noted. -/
structure State.AtIssue (s t : State) (e : Nat) : Prop where
  canon : t.canon
  mem : t.mem = s.mem
  synd : t.synd = s.synd
  others : ∀ j, j ≠ e → t.eng j = s.eng j
  own : t.eng e = { s.eng e with startCmd := (t.eng e).startCmd }
  rd : ∀ r i, issueMask.testBit (24 + r.ctorIdx) = false → r ≠ .DE_CTRL → t.rd r i = s.rd r i
  mp : s.MpOnly t

theorem State.AtIssue.refl (hc : s.canon) (ht : s.tables) (e : Nat) : s.AtIssue s e :=
  ⟨hc, rfl, rfl, fun _ _ => rfl, rfl, fun _ _ _ _ => rfl, ht.send, fun _ _ => rfl⟩

theorem State.AtIssue.of_keeps (h : s.AtIssue t e) (k : ∀ {P : State → Prop}, Clo issueMask P → P t → P u) (hmp : s.MpOnly u) :
    s.AtIssue u e := by
  have hsame := k (clo_same t rfl) (Same.refl _ t)
  have heng (j : Nat) : u.eng j = t.eng j := by rw [State.eng, hsame.engs rfl]; rfl
  exact {
    canon := (k (clo_canon t.pending _) ⟨h.canon, rfl⟩).1
    mem := (hsame.mem rfl).trans h.mem
    synd := (hsame.synd rfl).trans h.synd
    others := fun j hj => (heng j).trans (h.others j hj)
    own := by rw [heng]; exact h.own
    rd := fun r i hr hne => (k (clo_rd t r i rfl rfl hr) ⟨h.canon.regs, rfl⟩).2.trans (h.rd r i hr hne)
    mp := hmp }

/-- A read of a word counts what the decoder finds. -/
theorem State.AtIssue.engRead (h : s.AtIssue t e) (a : Nat) : s.AtIssue (t.engRead a).2.2 e :=
  h.of_keeps (fun c k => snd_p (snd_p (State.engRead_inv (c.mono rfl) k)))
    (h.mp.of_net ((snd_p (snd_p (State.engRead_inv (clo_same t rfl) (Same.refl _ t)))).net rfl))

theorem State.AtIssue.respond (h : s.AtIssue t e) (r : CmdRef) (st : Nat) (d : List Byte) : s.AtIssue (t.respond r st d) e :=
  h.of_keeps (fun c k => State.respond_inv (c.mono rfl) k) (h.mp.respond ..)

section view
variable (h : s.AtIssue t e)
include h

theorem State.AtIssue.dv : (t.eng e).dv = (s.eng e).dv := by rw [h.own]; rfl
theorem State.AtIssue.av : (t.eng e).av = (s.eng e).av := by rw [h.own]; rfl
theorem State.AtIssue.pv : (t.eng e).pv = (s.eng e).pv := by rw [h.own]; rfl
theorem State.AtIssue.mv : (t.eng e).mv = (s.eng e).mv := by rw [h.own]; rfl
theorem State.AtIssue.lv : (t.eng e).lv = (s.eng e).lv := by rw [h.own]; rfl
theorem State.AtIssue.tag : (t.eng e).tag = (s.eng e).tag := by rw [h.own]; rfl
theorem State.AtIssue.stack : (t.eng e).stack = (s.eng e).stack := by rw [h.own]
theorem State.AtIssue.rep : (t.eng e).rep = (s.eng e).rep := by rw [h.own]
theorem State.AtIssue.stepping : (t.eng e).stepping = (s.eng e).stepping := by rw [h.own]
theorem State.AtIssue.cycles : (t.eng e).cycles = (s.eng e).cycles := by rw [h.own]
theorem State.AtIssue.pcOver : (t.eng e).pcOver = (s.eng e).pcOver := by rw [h.own]
theorem State.AtIssue.f {F : Field} (hr : issueMask.testBit (24 + F.reg.ctorIdx) = false) (hne : F.reg ≠ .DE_CTRL) (i : Nat) :
    t.f F i = s.f F i := congrArg F.get (h.rd _ i hr hne)
end view

/-! ### The start of an instruction -/

/-- The start of a program or a step is noted where its command waits for it. -/
theorem State.AtIssue.begun (h : s.AtIssue t e) : s.AtIssue (t.begun e) e := by
  unfold State.begun
  extract_lets g t1
  have h1 : s.AtIssue t1 e := by
    unfold t1
    split
    case isTrue hstep =>
      have hcommitted : s.AtIssue (t.each g.stepCmds State.committed) e :=
        foldl_p (Q := fun x => s.AtIssue x e)
          (fun _ _ k => k.of_keeps (fun c k => State.committed_inv (c.mono rfl) k) (k.mp.of_net rfl)) h
      have hstepping : (s.eng e).stepping = true := by
        rw [← h.stepping]
        exact (Bool.and_eq_true _ _ ▸ hstep).1
      exact {
        canon := State.canon_setF hcommitted.canon ..
        others := hcommitted.others
        own := hcommitted.own
        rd := fun r i hr hne => (State.rd_setF_ne hcommitted.canon.regs hne ..).trans (hcommitted.rd r i hr hne)
        mp := hcommitted.mp.of_net rfl
        mem := hcommitted.mem
        synd := hcommitted.synd }
    case isFalse => exact h
  split
  · refine State.AtIssue.respond ?_ ..
    exact { h1 with
      canon := State.canon_updEng h1.canon ..
      others := fun j hj => (State.eng_updEng_ne h1.canon hj _).trans (h1.others j hj)
      own := by rw [State.eng_updEng_same h1.canon, h1.own]
      mp := h1.mp.of_net rfl }
  · exact h1

/-- The state in which the instruction that engine e fetches runs. -/
def State.issued (s : State) (e : Nat) : State := (s.engRead (pAddr e (s.f Fld.DE_PC_PC e))).2.2.begun e

theorem State.atIssue_issued (hc : s.canon) (ht : s.tables) (e : Nat) : s.AtIssue (s.issued e) e := ((State.AtIssue.refl hc ht e).engRead _).begun

/-! ### What issue makes of the body's answer -/

/-- An instruction completes: its cycles are counted, and the PC goes on. -/
def State.finished (t : State) (e n c : Nat) (slots : List Nat) : State := (t.spend true e c false slots).setPc e n

/-- A repeat of n steps starts at program index pc, once its REP has completed (R210). -/
def State.repStarted (t : State) (e pc n : Nat) : State :=
  (((t.finished e pc 1 []).updEng e fun g => { g with rep := n }).setF Fld.DE_REP_REMAINING e n).setF Fld.DE_STATE_REP e 1

/-- The end of an issue outside a repeat and outside a step (R210, R228). -/
def State.concluded (s : State) (e op f : Nat) : Issue → State
  | .wait => s.passCycles true e 1 fun _ => false
  | .exc c sp w t => t.raise e c sp w
  | .startRep t n => t.repStarted e (s.f Fld.DE_PC_PC e + 1) n
  | .ended t c => t.spend true e c false (usedSlots op f)
  | .fin t next c =>
    let t := t.finished e (next.getD (s.f Fld.DE_PC_PC e + 1)) c (usedSlots op f)
    if (t.eng e).stepping then t.stepEnd e else t

variable {op f : Nat}

theorem State.fetched.issues (h : s.fetched e op f) : s.issues e = true := by
  simp [State.issues, h.runs, h.noHalt]

/-- Outside a repeat, an engine that issues fetches the word at its PC. -/
theorem State.fetched.issue_eq (h : s.fetched e op f) (hlast : ¬(s.f Fld.DE_PC_PC e = 8191 ∧ (2 ^ 26 * op + f) / 2 ^ 26 = 0x30)) (body : State → Issue) :
    s.issue e op f body = s.concluded e op f (body (s.issued e)) := by
  have hword := h.word
  have hclean := h.clean
  unfold State.issue State.issued
  rw [if_neg (by simp [h.eng, h.issues, h.slots]), if_neg (by simp [h.inside])]
  revert hword hclean
  rcases s.engRead (pAddr e (s.f Fld.DE_PC_PC e)) with ⟨w, p, s1⟩
  rintro rfl rfl
  simp only [h.noRep, h.runs, h.legal]
  rw [if_neg (by simp), if_neg hlast, if_neg (by decide), if_neg (by simp)]
  rfl

/-! ### The completion of an instruction -/

theorem State.canon_setPc (h : s.canon) (e n : Nat) : (s.setPc e n).canon := State.canon_setF (State.canon_updEng h ..) ..
theorem State.eng_setPc (h : s.canon) (e n : Nat) : (s.setPc e n).eng e = { s.eng e with pcOver := decide (8192 ≤ n) } :=
  State.eng_updEng_same h e fun g => { g with pcOver := 8192 ≤ n }
theorem State.eng_setPc_ne (h : s.canon) {j : Nat} (hj : j ≠ e) (n : Nat) : (s.setPc e n).eng j = s.eng j :=
  State.eng_updEng_ne h hj fun g => { g with pcOver := 8192 ≤ n }
theorem State.rd_setPc (h : s.canon) {r : Reg} (hr : r ≠ .DE_PC) (e n i : Nat) : (s.setPc e n).rd r i = s.rd r i :=
  State.rd_setF_ne (State.canon_updEng h e fun g => { g with pcOver := 8192 ≤ n }).regs hr ..
theorem State.pc_setPc (h : s.canon) (e n : Nat) : (s.setPc e n).f Fld.DE_PC_PC e = n % 8192 :=
  State.f_setF_same (State.canon_updEng h e fun g => { g with pcOver := 8192 ≤ n }).regs Fld.DE_PC_PC rfl e n

/-- What the cycles of an instruction make of an engine. -/
theorem State.eng_spend (h : s.canon) (e c : Nat) (rep : Bool) (slots : List Nat) : ∃ w r, (s.spend true e c rep slots).eng e =
    { s.eng e with cycles := ((s.eng e).cycles + s.cyc e c) % 2 ^ 64, svcWait := w, rspWait := r } :=
  ⟨_, _, State.eng_updEng_same h e _⟩
theorem State.eng_spend_ne (h : s.canon) {j : Nat} (hj : j ≠ e) (c : Nat) (rep : Bool) (slots : List Nat) :
    (s.spend true e c rep slots).eng j = s.eng j := State.eng_updEng_ne h hj _
theorem State.canon_spend (h : s.canon) (e c : Nat) (rep : Bool) (slots : List Nat) : (s.spend true e c rep slots).canon :=
  State.canon_updEng h ..

/-- What completion makes of an engine. -/
theorem State.eng_finished (hc : t.canon) (e n c : Nat) (slots : List Nat) : ∃ w r, (t.finished e n c slots).eng e =
    { t.eng e with pcOver := decide (8192 ≤ n), cycles := ((t.eng e).cycles + t.cyc e c) % 2 ^ 64, svcWait := w, rspWait := r } := by
  obtain ⟨w, r, heng⟩ := State.eng_spend hc e c false slots
  exact ⟨w, r, by rw [State.finished, State.eng_setPc (State.canon_spend hc ..), heng]⟩

theorem State.rd_finished (hc : t.canon) {r : Reg} (hr : r ≠ .DE_PC) (e i n c : Nat) (slots : List Nat) :
    (t.finished e n c slots).rd r i = t.rd r i := State.rd_setPc (State.canon_spend hc e c false slots) hr ..

/-- t has the sequencer of s: what a completion counts on. -/
structure State.Runs (s t : State) (e : Nat) : Prop where
  canon : t.canon
  state : t.rd .DE_STATE e = s.rd .DE_STATE e
  rep : (t.eng e).rep = (s.eng e).rep
  cycles : (t.eng e).cycles = (s.eng e).cycles
  stepping : (t.eng e).stepping = (s.eng e).stepping

/-- u is t but for the PC, the cycles and the waits counted with them. -/
structure State.Settles (t u : State) (e : Nat) : Prop where
  canon : u.canon
  mem : u.mem = t.mem
  synd : u.synd = t.synd
  rd : ∀ r i, r ≠ .DE_PC → u.rd r i = t.rd r i
  others : ∀ j, j ≠ e → u.eng j = t.eng j
  own : ∃ p c w r, u.eng e = { t.eng e with pcOver := p, cycles := c, svcWait := w, rspWait := r }

theorem State.Runs.finished (h : s.Runs t e) (hrun : s.engState e = 2) (hrep : (s.eng e).rep = 0) (n c : Nat) (slots : List Nat) :
    s.engNext (t.finished e n c slots) e n c := by
  obtain ⟨w, r, heng⟩ := State.eng_finished h.canon e n c slots
  have hcyc : t.cyc e c = s.cyc e c := by
    unfold State.cyc State.f
    rw [show t.rd Fld.DE_STATE_THROTTLED.reg e = s.rd Fld.DE_STATE_THROTTLED.reg e from h.state]
  have hstate : (t.finished e n c slots).rd .DE_STATE e = s.rd .DE_STATE e := (State.rd_finished h.canon (by decide) ..).trans h.state
  refine ⟨State.pc_setPc (State.canon_spend h.canon ..) .., by rw [heng], ?_, ?_, ?_⟩
  · rw [heng, ← h.cycles, ← hcyc]
  · rw [← hrun]
    exact congrArg Fld.DE_STATE_STATE.get hstate
  · rw [heng, ← hrep, ← h.rep]

theorem State.settles_finished (hc : t.canon) (n c : Nat) (slots : List Nat) : t.Settles (t.finished e n c slots) e := by
  obtain ⟨w, r, heng⟩ := State.eng_finished hc e n c slots
  exact ⟨State.canon_setPc (State.canon_spend hc ..) .., rfl, rfl, fun r i hr => State.rd_finished hc hr .., fun j hj =>
    (State.eng_setPc_ne (State.canon_spend hc ..) hj _).trans (State.eng_spend_ne hc hj ..), _, _, w, r, heng⟩

/-- A fetched instruction whose body completes. -/
theorem State.fetched.completes (h : s.fetched e op f) {i : Instr} {body : State → Issue} (hexec : exec i s = .next (s.issue e op f body))
    (hlast : ¬(s.f Fld.DE_PC_PC e = 8191 ∧ (2 ^ 26 * op + f) / 2 ^ 26 = 0x30)) {next : Option Nat} {c : Nat}
    (hbody : body (s.issued e) = .fin t next c) (hruns : s.Runs t e) :
    ∃ u, exec i s = .next u ∧ s.engNext u e (next.getD (s.f Fld.DE_PC_PC e + 1)) c ∧ t.Settles u e := by
  refine ⟨t.finished e (next.getD (s.f Fld.DE_PC_PC e + 1)) c (usedSlots op f), ?_, hruns.finished h.runs h.noRep ..,
    State.settles_finished hruns.canon ..⟩
  rw [hexec, h.issue_eq hlast, hbody]
  obtain ⟨w, r, heng⟩ := State.eng_finished hruns.canon e (next.getD (s.f Fld.DE_PC_PC e + 1)) c (usedSlots op f)
  have hstepping : ((t.finished e (next.getD (s.f Fld.DE_PC_PC e + 1)) c (usedSlots op f)).eng e).stepping = false := by
    rw [heng]
    exact hruns.stepping.trans h.noStep
  unfold State.concluded
  simp only [hstepping]
  rfl

section settles
variable (h : t.Settles u e)
include h

theorem State.Settles.dv : (u.eng e).dv = (t.eng e).dv := by obtain ⟨_, _, _, _, ho⟩ := h.own; rw [ho]; rfl
theorem State.Settles.av : (u.eng e).av = (t.eng e).av := by obtain ⟨_, _, _, _, ho⟩ := h.own; rw [ho]; rfl
theorem State.Settles.pv : (u.eng e).pv = (t.eng e).pv := by obtain ⟨_, _, _, _, ho⟩ := h.own; rw [ho]; rfl
theorem State.Settles.mv : (u.eng e).mv = (t.eng e).mv := by obtain ⟨_, _, _, _, ho⟩ := h.own; rw [ho]; rfl
theorem State.Settles.lv : (u.eng e).lv = (t.eng e).lv := by obtain ⟨_, _, _, _, ho⟩ := h.own; rw [ho]; rfl
theorem State.Settles.stack : (u.eng e).stack = (t.eng e).stack := by obtain ⟨_, _, _, _, ho⟩ := h.own; rw [ho]

theorem State.Settles.engKeeps {ds as ps ms ls : List Nat} (k : s.engKeeps t e ds as ps ms ls) : s.engKeeps u e ds as ps ms ls := by
  unfold State.engKeeps at k ⊢
  rw [h.dv, h.av, h.pv, h.mv, h.lv]
  obtain ⟨hd, ha, hp, hm, hl, ho⟩ := k
  exact ⟨hd, ha, hp, hm, hl, fun j hj => (h.others j hj).trans (ho j hj)⟩

theorem State.Settles.engQuiet (k : s.engQuiet t e) : s.engQuiet u e := by
  obtain ⟨hmem, hsynd, hflags⟩ := k
  exact ⟨h.mem.trans hmem, h.synd.trans hsynd, (h.rd _ _ (by decide)).trans hflags⟩
end settles

/-! ### Bodies that change registers of the engine -/

/-- A change of an engine's registers leaves its sequencer. -/
theorem State.AtIssue.runs_updEng (h : s.AtIssue t e) {g : Eng → Eng}
    (hg : ∀ x, (g x).rep = x.rep ∧ (g x).cycles = x.cycles ∧ (g x).stepping = x.stepping) : s.Runs (t.updEng e g) e := by
  obtain ⟨hrep, hcycles, hstepping⟩ := hg (t.eng e)
  have heng := State.eng_updEng_same h.canon e g
  exact ⟨State.canon_updEng h.canon .., h.rd _ _ rfl (by decide), by rw [heng, hrep, h.rep], by rw [heng, hcycles, h.cycles],
    by rw [heng, hstepping, h.stepping]⟩

theorem State.AtIssue.runs (h : s.AtIssue t e) : s.Runs t e :=
  ⟨h.canon, h.rd _ _ rfl (by decide), h.rep, h.cycles, h.stepping⟩

theorem State.AtIssue.engKeeps (h : s.AtIssue t e) : s.engKeeps t e [] [] [] [] [] := by
  unfold State.engKeeps
  rw [h.dv, h.av, h.pv, h.mv, h.lv]
  exact ⟨fun _ _ => rfl, fun _ _ => rfl, fun _ _ => rfl, fun _ _ => rfl, fun _ _ => rfl, h.others⟩

theorem State.AtIssue.engQuiet (h : s.AtIssue t e) : s.engQuiet t e := ⟨h.mem, h.synd, h.rd _ _ rfl (by decide)⟩

end Sys2Proof.Machine

/-!
SUPPORT. Entry into EXC (R217, R222, R242): the exception registers and the count take their values, and the register file, the flags and
the memories stay.
-/
namespace Sys2Proof.Machine
variable {s t u : State} {e : Nat}

/-! ### The register file -/

/-- t has the registers and the return stack of engine e, and the other engines, as s has them. -/
structure State.SameFile (s t : State) (e : Nat) : Prop where
  canon : t.canon
  others : ∀ j, j ≠ e → t.eng j = s.eng j
  d : (t.eng e).d = (s.eng e).d
  a : (t.eng e).a = (s.eng e).a
  ptr : (t.eng e).ptr = (s.eng e).ptr
  mod : (t.eng e).mod = (s.eng e).mod
  len : (t.eng e).len = (s.eng e).len
  stack : (t.eng e).stack = (s.eng e).stack

theorem State.SameFile.of_canon (h : t.canon) (hengs : t.engs = s.engs) : s.SameFile t e := by
  have heng (j : Nat) : t.eng j = s.eng j := by rw [State.eng, hengs]; rfl
  refine ⟨h, fun j _ => heng j, ?_, ?_, ?_, ?_, ?_, ?_⟩ <;> rw [heng]

theorem State.SameFile.trans (h : s.SameFile t e) (k : t.SameFile u e) : s.SameFile u e :=
  ⟨k.canon, fun j hj => (k.others j hj).trans (h.others j hj), k.d.trans h.d, k.a.trans h.a, k.ptr.trans h.ptr, k.mod.trans h.mod,
    k.len.trans h.len, k.stack.trans h.stack⟩

/-- A change that names no engine and no reset of the stack. -/
theorem State.SameFile.of_keeps (h : s.SameFile t e) {m : Nat} (h12 : m.testBit 12 = false) (h19 : m.testBit 19 = false)
    (k : ∀ {P : State → Prop}, Clo m P → P t → P u) : s.SameFile u e :=
  h.trans (.of_canon (k (clo_canon t.pending m) ⟨h.canon, rfl⟩).1 ((k (clo_same t h19) (Same.refl _ t)).engs h12))

theorem State.SameFile.setF (h : s.SameFile t e) (F : Field) (i v : Nat) : s.SameFile (t.setF F i v) e :=
  h.trans (.of_canon (State.canon_setF h.canon ..) rfl)

/-- A change of an engine's sequencer. -/
theorem State.SameFile.updEng (h : s.SameFile t e) (g : Eng → Eng) (hg : ∀ x, (g x).d = x.d ∧ (g x).a = x.a ∧ (g x).ptr = x.ptr ∧
    (g x).mod = x.mod ∧ (g x).len = x.len ∧ (g x).stack = x.stack) : s.SameFile (t.updEng e g) e := by
  obtain ⟨hd, ha, hp, hm, hl, hs⟩ := hg (t.eng e)
  have heng := State.eng_updEng_same h.canon e g
  refine h.trans ⟨State.canon_updEng h.canon .., fun j hj => State.eng_updEng_ne h.canon hj g, ?_, ?_, ?_, ?_, ?_, ?_⟩ <;> rw [heng]
  all_goals assumption

theorem State.SameFile.engKeeps (h : s.SameFile t e) : s.engKeeps t e [] [] [] [] [] :=
  ⟨fun k _ => by rw [Eng.dv, h.d]; rfl, fun k _ => by rw [Eng.av, h.a]; rfl, fun k _ => by rw [Eng.pv, h.ptr]; rfl,
    fun k _ => by rw [Eng.mv, h.mod]; rfl, fun k _ => by rw [Eng.lv, h.len]; rfl, h.others⟩

theorem State.AtIssue.sameFile (h : s.AtIssue t e) : s.SameFile t e := by
  refine ⟨h.canon, h.others, ?_, ?_, ?_, ?_, ?_, ?_⟩ <;> rw [h.own]

theorem State.SameFile.respond (h : s.SameFile t e) (l : List CmdRef) (st : Nat) : s.SameFile (t.each l fun s r => s.respond r st []) e :=
  foldl_p (Q := fun x => s.SameFile x e) (fun _ _ k => k.of_keeps rfl rfl fun c p => State.respond_inv c p) h

theorem State.SameFile.endRep (h : s.SameFile t e) : s.SameFile (t.endRep e) e :=
  (((h.updEng (fun g => { g with rep := 0 }) fun _ => ⟨rfl, rfl, rfl, rfl, rfl, rfl⟩).setF ..).setF ..).setF ..

theorem State.SameFile.haltLost (h : s.SameFile t e) : s.SameFile (t.haltLost e) e := by
  unfold State.haltLost
  extract_lets g t1 t2 t3
  have h1 : s.SameFile t1 e := ite_p (Q := fun x => s.SameFile x e) (fun _ => h) fun _ => h.setF ..
  have h2 : s.SameFile t2 e :=
    (h1.updEng (fun g => { g with haltCmds := [], stepCmds := [], stepping := false }) fun _ => ⟨rfl, rfl, rfl, rfl, rfl, rfl⟩).setF ..
  exact (h2.respond ..).respond ..

theorem State.SameFile.sendDone (h : s.SameFile t e) (i : Nat) (recs : List TokRec) : s.SameFile (t.sendDone e i recs) e :=
  h.of_keeps rfl rfl fun c p => State.sendDone_inv c p

theorem State.SameFile.engIdle (h : s.SameFile t e) : s.SameFile (t.engIdle e) e :=
  (((h.setF ..).setF ..).setF ..).updEng _ fun _ => ⟨rfl, rfl, rfl, rfl, rfl, rfl⟩

/-! ### The exception registers -/

/-- DE_EXC.PC of an exception (R222). -/
def State.excPc (s : State) (e : Nat) : Nat := if (s.eng e).pcOver then 8191 else s.f Fld.DE_PC_PC e

/-- The exception registers and the count. -/
def State.excNoted (s : State) (e cause space word : Nat) : State :=
  (((((s.setF Fld.DE_EXC_VALID e 1).setF Fld.DE_EXC_CAUSE e cause).setF Fld.DE_EXC_PC e (s.excPc e)).setF Fld.DE_EXC_ADDR_SPACE e space).setF
    Fld.DE_EXC_ADDR_WORD e word).inc Fld.DE_EXC_COUNT_COUNT e

/-- Entry into EXC, before EXC_ACTION is applied to a task. -/
def State.excEntered (s : State) (e cause space word : Nat) : State :=
  let t := s.excNoted e cause space word
  (((t.event 0x0020 e ((t.rd .DE_EXC e).toNat + 2 ^ 32 * (t.rd .DE_EXC_ADDR e).toNat)).endRep e).haltLost e).setF Fld.DE_STATE_STATE e 4

/-- An exception enters EXC, and a scheduled task whose EXC_ACTION says so ends. -/
theorem State.raise_cases (s : State) (e cause space word : Nat) : s.raise e cause space word = s.excEntered e cause space word ∨
    (∃ i recs, s.raise e cause space word = ((s.excEntered e cause space word).sendDone e i recs).engIdle e) ∧
      (s.excEntered e cause space word).f Fld.DE_TASK_VALID e = 1 ∧ (s.excEntered e cause space word).f Fld.DE_CFG_EXC_ACTION e ≠ 0 := by
  have hraise : s.raise e cause space word =
    let t := s.excEntered e cause space word
    if t.f Fld.DE_TASK_VALID e = 1 then
      if t.f Fld.DE_CFG_EXC_ACTION e = 1 then (t.sendDone e (t.f Fld.DE_TASK_INDEX e) []).engIdle e
      else if t.f Fld.DE_CFG_EXC_ACTION e = 2 then (t.sendDone e (t.f Fld.DE_TASK_INDEX e) [{
        tag := t.f Fld.DE_FAULT_TAG_LO_TAG e + 2 ^ 32 * t.f Fld.DE_FAULT_TAG_HI_TAG e, value := 2 ^ 28 * cause + s.excPc e, poison := false }]).engIdle e
      else t
    else t := rfl
  rw [hraise]
  extract_lets t
  split
  case isTrue htask =>
    split
    case isTrue hact => exact .inr ⟨⟨_, _, rfl⟩, htask, by rw [hact]; decide⟩
    case isFalse =>
      split
      case isTrue hact => exact .inr ⟨⟨_, _, rfl⟩, htask, by rw [hact]; decide⟩
      case isFalse => exact .inl rfl
  case isFalse => exact .inl rfl

/-- What follows the exception registers: the event, the engine's state, its task and the answers. -/
abbrev afterExcMask : Nat := 0x423000000000000000000000004000000000003018

/-- The same without the task. -/
abbrev inExcMask : Nat := 0x403000000000000000000000004000000000003018

theorem State.excEntered_keeps {P : State → Prop} (c : Clo inExcMask P) {cause space word : Nat} (h : P (s.excNoted e cause space word)) :
    P (s.excEntered e cause space word) :=
  c.setF rfl (State.haltLost_inv (c.mono rfl) (State.endRep_inv (c.mono rfl) (State.event_inv (c.mono rfl) h)))

theorem State.raise_keeps {P : State → Prop} (c : Clo afterExcMask P) {cause space word : Nat} (h : P (s.excNoted e cause space word)) :
    P (s.raise e cause space word) := by
  have hentered : P (s.excEntered e cause space word) := State.excEntered_keeps (c.mono rfl) h
  obtain hraise | ⟨⟨i, recs, hraise⟩, -⟩ := s.raise_cases e cause space word
  · rw [hraise]
    exact hentered
  · rw [hraise]
    exact State.engIdle_inv (c.mono rfl) (State.sendDone_inv (c.mono rfl) hentered)

theorem State.SameFile.excNoted (h : s.SameFile t e) (cause space word : Nat) : s.SameFile (t.excNoted e cause space word) e :=
  (((((h.setF ..).setF ..).setF ..).setF ..).setF ..).setF ..

/-- The state in which the engine enters EXC. -/
theorem State.SameFile.excLost (h : s.SameFile t e) (code source data : Nat) : s.SameFile (((t.event code source data).endRep e).haltLost e) e :=
  (h.of_keeps rfl rfl fun c p => State.event_inv c p).endRep.haltLost

theorem State.SameFile.raise (h : s.SameFile t e) (cause space word : Nat) : s.SameFile (t.raise e cause space word) e := by
  have hentered : s.SameFile (t.excEntered e cause space word) e := ((h.excNoted cause space word).excLost ..).setF ..
  obtain hraise | ⟨⟨i, recs, hraise⟩, -⟩ := t.raise_cases e cause space word
  · rw [hraise]
    exact hentered
  · rw [hraise]
    exact (hentered.sendDone ..).engIdle

/-- The exception registers, once written. -/
theorem State.excNoted_reads (h : s.regsOk) {cause space word : Nat} (hcause : cause < 16) (hspace : space < 4) (hword : word < 2 ^ 14) :
    let t := s.excNoted e cause space word
    t.f Fld.DE_EXC_VALID e = 1 ∧ t.f Fld.DE_EXC_CAUSE e = cause ∧ t.f Fld.DE_EXC_PC e = s.excPc e ∧
      t.f Fld.DE_EXC_ADDR_SPACE e = space ∧ t.f Fld.DE_EXC_ADDR_WORD e = word ∧
      t.f Fld.DE_EXC_COUNT_COUNT e = min (s.f Fld.DE_EXC_COUNT_COUNT e + 1) Fld.DE_EXC_COUNT_COUNT.top := by
  intro t
  let s1 := s.setF Fld.DE_EXC_VALID e 1
  let s2 := s1.setF Fld.DE_EXC_CAUSE e cause
  let s3 := s2.setF Fld.DE_EXC_PC e (s.excPc e)
  let s4 := s3.setF Fld.DE_EXC_ADDR_SPACE e space
  let s5 := s4.setF Fld.DE_EXC_ADDR_WORD e word
  have h1 : s1.regsOk := State.regsOk_setF h ..
  have h2 : s2.regsOk := State.regsOk_setF h1 ..
  have h3 : s3.regsOk := State.regsOk_setF h2 ..
  have h4 : s4.regsOk := State.regsOk_setF h3 ..
  have h5 : s5.regsOk := State.regsOk_setF h4 ..
  have hexc {F : Field} (hF : F.reg = .DE_EXC) : t.f F e = s3.f F e :=
    (State.f_setF_reg h5 (by rw [hF]; decide) ..).trans ((State.f_setF_reg h4 (by rw [hF]; decide) ..).trans
      (State.f_setF_reg h3 (by rw [hF]; decide) ..))
  have hpc : s.excPc e < 8192 := by
    unfold State.excPc
    split
    · decide
    · exact s.f_lt Fld.DE_PC_PC e
  refine ⟨(hexc rfl).trans ?_, (hexc rfl).trans ?_, (hexc rfl).trans ?_, ?_, ?_, ?_⟩
  · refine (State.f_setF_field (F := Fld.DE_EXC_PC) (G := Fld.DE_EXC_VALID) h2 rfl rfl rfl (by decide) ..).trans ?_
    refine (State.f_setF_field (F := Fld.DE_EXC_CAUSE) (G := Fld.DE_EXC_VALID) h1 rfl rfl rfl (by decide) ..).trans ?_
    exact State.f_setF_same h Fld.DE_EXC_VALID rfl ..
  · refine (State.f_setF_field (F := Fld.DE_EXC_PC) (G := Fld.DE_EXC_CAUSE) h2 rfl rfl rfl (by decide) ..).trans ?_
    exact (State.f_setF_same h1 Fld.DE_EXC_CAUSE rfl ..).trans (Nat.mod_eq_of_lt hcause)
  · exact (State.f_setF_same h2 Fld.DE_EXC_PC rfl ..).trans (Nat.mod_eq_of_lt hpc)
  · refine (State.f_setF_reg h5 (by decide) ..).trans ?_
    refine (State.f_setF_field (F := Fld.DE_EXC_ADDR_WORD) (G := Fld.DE_EXC_ADDR_SPACE) h4 rfl rfl rfl (by decide) ..).trans ?_
    exact (State.f_setF_same h3 Fld.DE_EXC_ADDR_SPACE rfl ..).trans (Nat.mod_eq_of_lt hspace)
  · refine (State.f_setF_reg h5 (by decide) ..).trans ?_
    exact (State.f_setF_same h4 Fld.DE_EXC_ADDR_WORD rfl ..).trans (Nat.mod_eq_of_lt hword)
  · have hcount : s5.f Fld.DE_EXC_COUNT_COUNT e = s.f Fld.DE_EXC_COUNT_COUNT e := by
      rw [State.f_setF_reg h4 (by decide), State.f_setF_reg h3 (by decide), State.f_setF_reg h2 (by decide),
        State.f_setF_reg h1 (by decide), State.f_setF_reg h (by decide)]
    rw [← hcount]
    exact (State.f_setF_same h5 Fld.DE_EXC_COUNT_COUNT rfl ..).trans (Nat.mod_eq_of_lt (Nat.lt_of_le_of_lt (Nat.min_le_right ..) (by decide)))

/-- A register that no exception writes. -/
theorem State.rd_excNoted (h : s.regsOk) {r : Reg} (hr : r ≠ .DE_EXC ∧ r ≠ .DE_EXC_ADDR ∧ r ≠ .DE_EXC_COUNT) (cause space word i : Nat) :
    (s.excNoted e cause space word).rd r i = s.rd r i := by
  obtain ⟨hexc, haddr, hcount⟩ := hr
  have h1 := State.regsOk_setF h Fld.DE_EXC_VALID e 1
  have h2 := State.regsOk_setF h1 Fld.DE_EXC_CAUSE e cause
  have h3 := State.regsOk_setF h2 Fld.DE_EXC_PC e (s.excPc e)
  have h4 := State.regsOk_setF h3 Fld.DE_EXC_ADDR_SPACE e space
  have h5 := State.regsOk_setF h4 Fld.DE_EXC_ADDR_WORD e word
  refine (State.rd_setF_ne h5 hcount ..).trans ?_
  rw [State.rd_setF_ne h4 haddr, State.rd_setF_ne h3 haddr, State.rd_setF_ne h2 hexc, State.rd_setF_ne h1 hexc, State.rd_setF_ne h hexc]

/-! ### The exception as the statements give it -/

/-- The engine is in EXC where no task is scheduled or EXC_ACTION leaves it there. -/
theorem State.engState_raise (h : t.canon) (cause space word : Nat) (hstay : t.f Fld.DE_TASK_VALID e = 0 ∨ t.f Fld.DE_CFG_EXC_ACTION e = 0) :
    (t.raise e cause space word).engState e = 4 := by
  have hnoted : (t.excNoted e cause space word).canon := ((State.SameFile.of_canon (e := e) h rfl).excNoted ..).canon
  have hkept {F : Field} (hF : inExcMask.testBit (24 + F.reg.ctorIdx) = false)
      (hexc : F.reg ≠ .DE_EXC ∧ F.reg ≠ .DE_EXC_ADDR ∧ F.reg ≠ .DE_EXC_COUNT) : (t.excEntered e cause space word).f F e = t.f F e :=
    congrArg F.get ((State.excEntered_keeps (clo_rd _ F.reg e rfl rfl hF) ⟨hnoted.regs, rfl⟩).2.trans (State.rd_excNoted h.regs hexc ..))
  obtain hraise | ⟨-, htask, hact⟩ := t.raise_cases e cause space word
  · rw [hraise]
    exact State.f_setF_same ((State.SameFile.of_canon (e := e) hnoted rfl).excLost ..).canon.regs Fld.DE_STATE_STATE rfl e 4
  · rw [hkept rfl (by decide)] at htask hact
    omega

/-- A state that differs from s beside the engine's registers and words raises as s does. -/
theorem State.AtIssue.raised (h : s.AtIssue t e) {cause space word : Nat} (hcause : cause < 16) (hspace : space < 4) (hword : word < 2 ^ 14) :
    s.engRaised (t.raise e cause space word) e cause space word ∧ ((t.raise e cause space word).eng e).stack = (s.eng e).stack := by
  have hnoted : (t.excNoted e cause space word).canon := (h.sameFile.excNoted ..).canon
  have hfile := h.sameFile.raise cause space word
  have hsame : Same afterExcMask _ (t.raise e cause space word) := State.raise_keeps (clo_same _ rfl) (Same.refl _ _)
  have hrd {r : Reg} (hr : afterExcMask.testBit (24 + r.ctorIdx) = false) :
      (t.raise e cause space word).rd r e = (t.excNoted e cause space word).rd r e :=
    (State.raise_keeps (clo_rd _ r e rfl rfl hr) ⟨hnoted.regs, rfl⟩).2
  have hf {F : Field} (hF : afterExcMask.testBit (24 + F.reg.ctorIdx) = false) :
      (t.raise e cause space word).f F e = (t.excNoted e cause space word).f F e := congrArg F.get (hrd hF)
  have hpc : t.excPc e = if (s.eng e).pcOver then 8191 else s.f Fld.DE_PC_PC e := by
    unfold State.excPc
    rw [h.pcOver, h.f rfl (by decide)]
  obtain ⟨hvalid, hcause', hpc', hspace', hword', hcount⟩ := State.excNoted_reads (e := e) h.canon.regs hcause hspace hword
  refine ⟨⟨(hf rfl).trans hvalid, (hf rfl).trans hcause', (hf rfl).trans (hpc'.trans hpc), (hf rfl).trans hspace', (hf rfl).trans hword',
    (hf rfl).trans (hcount.trans ?_), fun hstay => ?_, hfile.engKeeps, hsame.mem rfl |>.trans h.mem, hsame.synd rfl |>.trans h.synd, ?_⟩, hfile.stack⟩
  · rw [h.f rfl (by decide)]
  · refine State.engState_raise h.canon cause space word ?_
    rwa [h.f rfl (by decide), h.f rfl (by decide)]
  · exact (hrd rfl).trans ((State.rd_excNoted h.canon.regs (by decide) ..).trans (h.rd _ _ rfl (by decide)))

end Sys2Proof.Machine

/-!
SUPPORT. What the parts of a body answer: the checks of registers, pointers and tags, changes of registers, and fetched instructions that
raise or complete (R210, R228, R239, R242).
-/
namespace Sys2Proof.Machine
variable {s t u : State} {e op f : Nat}

/-! ### Checks that pass -/

/-- Whether a register source, coded as DE_RF_IDX codes it, is poisoned. -/
def Eng.sourceBad (g : Eng) (r : Nat) : Bool := if r < 8 then (g.dv r).2 else (g.av (r - 8)).2

theorem State.withRegs_of_clean {l : List Nat} (h : ∀ r ∈ l, (s.eng e).sourceBad r = false) (k : State → Issue) : s.withRegs e l k = k s := by
  have hnone : l.find? (fun r => if r < 8 then ((s.eng e).dv r).2 else ((s.eng e).av (r - 8)).2) = none :=
    List.find?_eq_none.2 fun r hr => Bool.not_eq_true _ ▸ h r hr
  unfold State.withRegs
  simp only [hnone]

theorem State.withWait_of_unused {mask : Nat} (h : ∀ t, t < 8 → bit mask t = 1 → ((s.eng e).tag t).used = false) (k : State → Issue) :
    s.withWait e mask k = k s := by
  have hnil : ((List.range 8).filter fun t => bit mask t == 1 && ((s.eng e).tag t).used) = [] := by
    refine List.filter_eq_nil_iff.2 fun t ht => ?_
    rw [Bool.and_eq_true, beq_iff_eq]
    rintro ⟨hbit, hused⟩
    rw [h t (List.mem_range.1 ht) hbit] at hused
    cases hused
  unfold State.withWait
  simp only [hnil]
  rfl

/-! ### Registers of the engine -/

/-- An update of an engine that keeps the registers outside the lists. -/
theorem State.AtIssue.engKeeps_updEng (h : s.AtIssue t e) {g : Eng → Eng} {ds as ps ms ls : List Nat}
    (hd : ∀ k, k ∉ ds → (g (t.eng e)).dv k = (t.eng e).dv k) (ha : ∀ k, k ∉ as → (g (t.eng e)).av k = (t.eng e).av k)
    (hp : ∀ k, k ∉ ps → (g (t.eng e)).pv k = (t.eng e).pv k) (hm : ∀ k, k ∉ ms → (g (t.eng e)).mv k = (t.eng e).mv k)
    (hl : ∀ k, k ∉ ls → (g (t.eng e)).lv k = (t.eng e).lv k) : s.engKeeps (t.updEng e g) e ds as ps ms ls := by
  unfold State.engKeeps
  rw [State.eng_updEng_same h.canon, ← h.dv, ← h.av, ← h.pv, ← h.mv, ← h.lv]
  exact ⟨hd, ha, hp, hm, hl, fun j hj => (State.eng_updEng_ne h.canon hj g).trans (h.others j hj)⟩

theorem State.AtIssue.dv_setD (h : s.AtIssue t e) (hd : mwf (fun _ => 0) (s.eng e).d = true) (k v : Nat) (p : Bool) (j : Nat) :
    ((t.setD e k v p).eng e).dv j = if j = k then (v % 2 ^ 32, p) else (s.eng e).dv j := by
  rw [State.setD, State.eng_updEng_same h.canon, Eng.dv_setD (h.own ▸ hd), h.dv]

/-- A D register is written. -/
theorem State.AtIssue.engKeeps_setD (h : s.AtIssue t e) (hd : mwf (fun _ => 0) (s.eng e).d = true) (k v : Nat) (p : Bool) :
    s.engKeeps (t.setD e k v p) e [k] [] [] [] [] :=
  h.engKeeps_updEng (fun j hj => (Eng.dv_setD (h.own ▸ hd) k v p j).trans (if_neg (List.mem_singleton.not.1 hj)))
    (fun _ _ => rfl) (fun _ _ => rfl) (fun _ _ => rfl) fun _ _ => rfl

theorem State.AtIssue.runs_setD (h : s.AtIssue t e) (k v : Nat) (p : Bool) : s.Runs (t.setD e k v p) e :=
  h.runs_updEng fun _ => ⟨rfl, rfl, rfl⟩

/-! ### A fetched instruction -/

/-- A fetched instruction whose body raises. -/
theorem State.fetched.raises (h : s.fetched e op f) {i : Instr} {body : State → Issue} (hexec : exec i s = .next (s.issue e op f body))
    (hlast : ¬(s.f Fld.DE_PC_PC e = 8191 ∧ (2 ^ 26 * op + f) / 2 ^ 26 = 0x30)) {cause space word : Nat}
    (hbody : body (s.issued e) = .exc cause space word t) (hat : s.AtIssue t e) (hcause : cause < 16) (hspace : space < 4) (hword : word < 2 ^ 14) :
    ∃ u, exec i s = .next u ∧ s.engRaised u e cause space word ∧ (u.eng e).stack = (s.eng e).stack :=
  ⟨_, by rw [hexec, h.issue_eq hlast, hbody]; rfl, hat.raised hcause hspace hword⟩

/-! ### The statements on control -/

section control
variable (hc : s.canon) (ht : s.tables)
include hc ht

theorem State.cond_issued (c : Nat) : (s.issued e).cond e c = s.cond e c := by
  have h := State.atIssue_issued hc ht e
  unfold State.cond
  simp only [h.f (F := Fld.DE_FLAGS_Z) rfl (by decide), h.f (F := Fld.DE_FLAGS_N) rfl (by decide), h.f (F := Fld.DE_FLAGS_V) rfl (by decide),
    h.f (F := Fld.DE_FLAGS_STICKY) rfl (by decide)]

/-- An instruction that changes the sequencing alone. -/
theorem State.fetched.completes_still (h : s.fetched e op f) {i : Instr} {body : State → Issue} (hexec : exec i s = .next (s.issue e op f body))
    (hop : 0x30 < op) {next : Option Nat} {c : Nat} (hbody : body (s.issued e) = .fin (s.issued e) next c) :
    ∃ u, exec i s = .next u ∧ s.engNext u e (next.getD (s.f Fld.DE_PC_PC e + 1)) c ∧ s.engKeeps u e [] [] [] [] [] ∧ s.engQuiet u e := by
  have hat := State.atIssue_issued hc ht e
  obtain ⟨u, hu, hnext, hset⟩ := h.completes hexec (by omega) hbody hat.runs
  exact ⟨u, hu, hnext, hset.engKeeps hat.engKeeps, hset.engQuiet hat.engQuiet⟩

theorem br_clause (h : s.fetched e 0x31 f) : ∃ u, exec (.br e f) s = .next u ∧ s.engKeeps u e [] [] [] [] [] ∧ s.engQuiet u e ∧
    (s.cond e (bits f 25 22) = true → s.engNext u e (bits f 12 0) 2) ∧
    (s.cond e (bits f 25 22) = false → s.engNext u e (s.f Fld.DE_PC_PC e + 1) 1) := by
  have hexec : exec (.br e f) s = .next (s.issue e 0x31 f fun s => s.doBr e f) := rfl
  cases hcond : s.cond e (bits f 25 22)
  case false =>
    have hbody : (s.issued e).doBr e f = .fin (s.issued e) none 1 := by rw [State.doBr, State.cond_issued hc ht, hcond]; rfl
    obtain ⟨u, hu, hnext, hkeeps, hquiet⟩ := h.completes_still hc ht hexec (by decide) hbody
    exact ⟨u, hu, hkeeps, hquiet, nofun, fun _ => hnext⟩
  case true =>
    have hbody : (s.issued e).doBr e f = .fin (s.issued e) (some (bits f 12 0)) 2 := by rw [State.doBr, State.cond_issued hc ht, hcond]; rfl
    obtain ⟨u, hu, hnext, hkeeps, hquiet⟩ := h.completes_still hc ht hexec (by decide) hbody
    exact ⟨u, hu, hkeeps, hquiet, fun _ => hnext, nofun⟩

theorem dbnz_clause (h : s.fetched e 0x32 f) {n : Nat} (hn : bits f 25 23 = n) (hclean : ((s.eng e).dv n).2 = false) :
    ∃ u, exec (.dbnz e f) s = .next u ∧ s.engKeeps u e [n] [] [] [] [] ∧ s.engQuiet u e ∧
      (u.eng e).dv n = ((((s.eng e).dv n).1 + (2 ^ 32 - 1)) % 2 ^ 32, false) ∧
      (((s.eng e).dv n).1 = 1 → s.engNext u e (s.f Fld.DE_PC_PC e + 1) 1) ∧ (((s.eng e).dv n).1 ≠ 1 → s.engNext u e (bits f 12 0) 2) := by
  have hexec : exec (.dbnz e f) s = .next (s.issue e 0x32 f fun s => s.doDbnz e f) := rfl
  have hat := State.atIssue_issued hc ht e
  have hlt := (s.eng e).dv_lt n
  have hn8 : n < 8 := hn ▸ bits_lt f 25 23
  have hsource : ∀ r ∈ [n], ((s.issued e).eng e).sourceBad r = false := by
    simp [Eng.sourceBad, hat.dv, hn8, hclean]
  let v := (((s.eng e).dv n).1 + (2 ^ 32 - 1)) % 2 ^ 32
  let t := (s.issued e).setD e n v false
  have hbody : (s.issued e).doDbnz e f = if v = 0 then .fin t none 1 else .fin t (some (bits f 12 0)) 2 := by
    unfold State.doDbnz
    simp only [hn]
    rw [State.withRegs_of_clean hsource, hat.dv]
  have hkeeps := hat.engKeeps_setD (ht.d e) n v false
  have hquiet : s.engQuiet t e := hat.engQuiet
  have hdv : (t.eng e).dv n = (v, false) := by
    rw [hat.dv_setD (ht.d e), if_pos rfl, Nat.mod_mod]
  have hruns := hat.runs_setD n v false
  by_cases hone : ((s.eng e).dv n).1 = 1
  · have hv : v = 0 := by simp [v, hone]
    rw [if_pos hv] at hbody
    obtain ⟨u, hu, hnext, hset⟩ := h.completes hexec (by omega) hbody hruns
    exact ⟨u, hu, hset.engKeeps hkeeps, hset.engQuiet hquiet, hset.dv ▸ hdv, fun _ => hnext, fun hne => absurd hone hne⟩
  · have hv : v ≠ 0 := by omega
    rw [if_neg hv] at hbody
    obtain ⟨u, hu, hnext, hset⟩ := h.completes hexec (by omega) hbody hruns
    exact ⟨u, hu, hset.engKeeps hkeeps, hset.engQuiet hquiet, hset.dv ▸ hdv, fun hone' => absurd hone' hone, fun _ => hnext⟩

theorem call_clause (h : s.fetched e 0x33 f) :
    ((s.eng e).stack.length < 4 → ∃ u, exec (.call e f) s = .next u ∧ s.engNext u e (bits f 12 0) 2 ∧ s.engKeeps u e [] [] [] [] [] ∧
      s.engQuiet u e ∧ (u.eng e).stack = (s.f Fld.DE_PC_PC e + 1) :: (s.eng e).stack) ∧
    (4 ≤ (s.eng e).stack.length → ∃ u, exec (.call e f) s = .next u ∧ s.engRaised u e 3 0 0 ∧ (u.eng e).stack = (s.eng e).stack) := by
  have hexec : exec (.call e f) s = .next (s.issue e 0x33 f fun s => s.doCall e f) := rfl
  have hat := State.atIssue_issued hc ht e
  constructor
  · intro hroom
    let g : Eng → Eng := fun x => { x with stack := ((s.issued e).f Fld.DE_PC_PC e + 1) :: x.stack }
    have hbody : (s.issued e).doCall e f = .fin ((s.issued e).updEng e g) (some (bits f 12 0)) 2 := by
      rw [State.doCall, hat.stack, if_neg (by omega)]
    obtain ⟨u, hu, hnext, hset⟩ := h.completes hexec (by omega) hbody (hat.runs_updEng fun _ => ⟨rfl, rfl, rfl⟩)
    have hkeeps : s.engKeeps ((s.issued e).updEng e g) e [] [] [] [] [] :=
      hat.engKeeps_updEng (fun _ _ => rfl) (fun _ _ => rfl) (fun _ _ => rfl) (fun _ _ => rfl) fun _ _ => rfl
    refine ⟨u, hu, hnext, hset.engKeeps hkeeps, hset.engQuiet hat.engQuiet, ?_⟩
    rw [hset.stack, State.eng_updEng_same hat.canon, ← hat.stack, ← hat.f (F := Fld.DE_PC_PC) rfl (by decide)]
  · intro hfull
    exact h.raises hexec (by omega) (by rw [State.doCall, hat.stack, if_pos hfull]) hat (by decide) (by decide) (by decide)

theorem ret_clause (h : s.fetched e 0x34 f) :
    (∀ n l, (s.eng e).stack = n :: l → ∃ u, exec (.ret e f) s = .next u ∧ s.engNext u e n 2 ∧ s.engKeeps u e [] [] [] [] [] ∧
      s.engQuiet u e ∧ (u.eng e).stack = l) ∧
    ((s.eng e).stack = [] → ∃ u, exec (.ret e f) s = .next u ∧ s.engRaised u e 3 0 0) := by
  have hexec : exec (.ret e f) s = .next (s.issue e 0x34 f fun s => s.doRet e) := rfl
  have hat := State.atIssue_issued hc ht e
  constructor
  · intro n l hstack
    let g : Eng → Eng := fun x => { x with stack := l }
    have hbody : (s.issued e).doRet e = .fin ((s.issued e).updEng e g) (some n) 2 := by
      unfold State.doRet
      simp only [hat.stack, hstack]
      rfl
    obtain ⟨u, hu, hnext, hset⟩ := h.completes hexec (by omega) hbody (hat.runs_updEng fun _ => ⟨rfl, rfl, rfl⟩)
    have hkeeps : s.engKeeps ((s.issued e).updEng e g) e [] [] [] [] [] :=
      hat.engKeeps_updEng (fun _ _ => rfl) (fun _ _ => rfl) (fun _ _ => rfl) (fun _ _ => rfl) fun _ _ => rfl
    refine ⟨u, hu, hnext, hset.engKeeps hkeeps, hset.engQuiet hat.engQuiet, ?_⟩
    rw [hset.stack, State.eng_updEng_same hat.canon]
  · intro hstack
    have hbody : (s.issued e).doRet e = .exc 3 0 0 (s.issued e) := by
      unfold State.doRet
      simp only [hat.stack, hstack]
    obtain ⟨u, hu, hraised, -⟩ := h.raises hexec (by omega) hbody hat (by decide) (by decide) (by decide)
    exact ⟨u, hu, hraised⟩

theorem wait_clause (h : s.fetched e 0x3C f) (hfree : ∀ t, t < 8 → bit f t = 1 → ((s.eng e).tag t).used = false) :
    ∃ u, exec (.wait e f) s = .next u ∧ s.engNext u e (s.f Fld.DE_PC_PC e + 1) 1 ∧ s.engKeeps u e [] [] [] [] [] ∧ s.engQuiet u e := by
  have hexec : exec (.wait e f) s = .next (s.issue e 0x3C f fun s => s.doWait e f) := rfl
  have hat := State.atIssue_issued hc ht e
  refine h.completes_still hc ht hexec (by decide) (State.withWait_of_unused (fun t ht8 hbit => ?_) _)
  have hlow : bit (f % 256) t = bit f t := by
    rw [bit_eq_toNat_testBit, bit_eq_toNat_testBit, show 256 = 2 ^ 8 from rfl, Nat.testBit_mod_two_pow]
    simp [ht8]
  rw [hat.tag]
  exact hfree t ht8 (hlow ▸ hbit)

theorem bkpt_clause (h : s.fetched e 0x3F f) : ∃ u, exec (.bkpt e f) s = .next u ∧ s.engNext u e (s.f Fld.DE_PC_PC e + 1) 1 ∧
    s.engKeeps u e [] [] [] [] [] ∧ s.engQuiet u e ∧ u.f Fld.DE_CTRL_HALT e = 1 ∧ u.canon := by
  have hexec : exec (.bkpt e f) s = .next (s.issue e 0x3F f fun s => s.doBkpt e) := rfl
  have hat := State.atIssue_issued hc ht e
  let t := (s.issued e).setF Fld.DE_CTRL_HALT e 1
  have hrd {r : Reg} (hr : r ≠ .DE_CTRL) : t.rd r e = (s.issued e).rd r e := State.rd_setF_ne hat.canon.regs hr ..
  have hruns : s.Runs t e := { hat.runs with
    canon := State.canon_setF hat.canon ..
    state := (hrd (by decide)).trans hat.runs.state }
  obtain ⟨hmem, hsynd, hflags⟩ := hat.engQuiet
  obtain ⟨u, hu, hnext, hset⟩ := h.completes hexec (by omega) (t := t) rfl hruns
  refine ⟨u, hu, hnext, hset.engKeeps (t := t) hat.engKeeps, hset.engQuiet ⟨hmem, hsynd, (hrd (by decide)).trans hflags⟩, ?_, hset.canon⟩
  exact (congrArg Fld.DE_CTRL_HALT.get (hset.rd .DE_CTRL e (by decide))).trans (State.f_setF_same hat.canon.regs Fld.DE_CTRL_HALT rfl e 1)
end control

end Sys2Proof.Machine

/-!
SUPPORT. The control statements of the engines that issue in a way of their own: the start of a repeat and its steps (R210), and the
faults of a fetch (R224, R228, R242).
-/
namespace Sys2Proof.Machine
variable {s t u : State} {e op f : Nat}

theorem State.eng_setF (s : State) (F : Field) (i v j : Nat) : (s.setF F i v).eng j = s.eng j := rfl

theorem State.f_setPc (h : s.canon) {F : Field} (hF : F.reg ≠ .DE_PC) (e n i : Nat) : (s.setPc e n).f F i = s.f F i :=
  congrArg F.get (State.rd_setPc h hF ..)

theorem State.SameFile.setPc (h : s.SameFile t e) (n : Nat) : s.SameFile (t.setPc e n) e :=
  (h.updEng (fun g => { g with pcOver := 8192 ≤ n }) fun _ => ⟨rfl, rfl, rfl, rfl, rfl, rfl⟩).setF ..

theorem State.engQuiet.setPc (k : s.engQuiet t e) (h : t.canon) (n : Nat) : s.engQuiet (t.setPc e n) e := by
  obtain ⟨hmem, hsynd, hflags⟩ := k
  exact ⟨hmem, hsynd, (State.rd_setPc h (by decide) ..).trans hflags⟩

/-! ### Repeats -/

theorem State.SameFile.settles (h : s.SameFile t e) (k : t.Settles u e) : s.SameFile u e := by
  obtain ⟨_, _, _, _, hown⟩ := k.own
  refine h.trans ⟨k.canon, k.others, ?_, ?_, ?_, ?_, ?_, ?_⟩ <;> rw [hown]

/-- The engine at the start of a repeat. -/
theorem State.AtIssue.repStarted_reads (h : s.AtIssue t e) (hrun : s.engState e = 2) (hnoRep : (s.eng e).rep = 0) {pc n : Nat}
    (hpc : pc < 8192) (hn : n < 2 ^ 17) : s.engKeeps (t.repStarted e pc n) e [] [] [] [] [] ∧ s.engQuiet (t.repStarted e pc n) e ∧
      (t.repStarted e pc n).engState e = 2 ∧ (t.repStarted e pc n).f Fld.DE_PC_PC e = pc ∧ ((t.repStarted e pc n).eng e).rep = n ∧
      (t.repStarted e pc n).f Fld.DE_REP_REMAINING e = n ∧ (t.repStarted e pc n).f Fld.DE_STATE_REP e = 1 ∧
      ((t.repStarted e pc n).eng e).cycles = ((s.eng e).cycles + s.cyc e 1) % 2 ^ 64 := by
  let v := t.finished e pc 1 []
  let w := v.updEng e fun g => { g with rep := n }
  have hset : t.Settles v e := State.settles_finished h.canon ..
  obtain ⟨hvpc, -, hvcycles, hvstate, -⟩ := h.runs.finished hrun hnoRep pc 1 []
  have hfile : s.SameFile w e := (h.sameFile.settles hset).updEng _ fun _ => ⟨rfl, rfl, rfl, rfl, rfl, rfl⟩
  have hw : w.regsOk := hfile.canon.regs
  have hw1 : (w.setF Fld.DE_REP_REMAINING e n).regsOk := State.regsOk_setF hw ..
  have hweng : w.eng e = { v.eng e with rep := n } := State.eng_updEng_same hset.canon ..
  obtain ⟨hmem, hsynd, hflags⟩ := hset.engQuiet h.engQuiet
  unfold State.repStarted
  refine ⟨((hfile.setF ..).setF ..).engKeeps, ⟨hmem, hsynd, ?_⟩, ?_, ?_, congrArg Eng.rep hweng, ?_,
    State.f_setF_same hw1 Fld.DE_STATE_REP rfl e 1, (congrArg Eng.cycles hweng).trans hvcycles⟩
  · rw [State.rd_setF_ne hw1 (by decide), State.rd_setF_ne hw (by decide)]
    exact hflags
  · unfold State.engState
    rw [State.f_setF_field hw1 (by rfl) rfl rfl (by decide), State.f_setF_reg hw (by decide)]
    exact hvstate
  · rw [State.f_setF_reg hw1 (by decide), State.f_setF_reg hw (by decide)]
    exact hvpc.trans (Nat.mod_eq_of_lt hpc)
  · rw [State.f_setF_reg hw1 (by decide), State.f_setF_same hw _ rfl]
    exact Nat.mod_eq_of_lt hn

/-- How many steps a REP asks for (R210). -/
def State.repSteps (s : State) (e f : Nat) : Nat := if bit f 25 = 0 then bits f 15 0 + 1 else ((s.eng e).dv (bits f 24 22)).1 % 2 ^ 17

section control
variable (hc : s.canon) (ht : s.tables)
include hc ht

/-- REP looks at the instruction to be repeated before it starts. -/
theorem State.doRep_issued (hclean : (s.engRead (pAddr e (s.f Fld.DE_PC_PC e + 1))).2.1 = false)
    (hsource : bit f 25 = 1 → ((s.eng e).dv (bits f 24 22)).2 = false) : ∃ t, s.AtIssue t e ∧
      (repeatCycles ((s.engRead (pAddr e (s.f Fld.DE_PC_PC e + 1))).1 / 2 ^ 26) = none → (s.issued e).doRep e f = .exc 3 0 0 t) ∧
      ∀ c, repeatCycles ((s.engRead (pAddr e (s.f Fld.DE_PC_PC e + 1))).1 / 2 ^ 26) = some c → 0 < s.repSteps e f → s.repSteps e f * c ≤ 65536 →
        (s.issued e).doRep e f = .startRep t (s.repSteps e f) := by
  have hat := State.atIssue_issued hc ht e
  have hpc : (s.issued e).f Fld.DE_PC_PC e = s.f Fld.DE_PC_PC e := hat.f (F := Fld.DE_PC_PC) rfl (by decide) e
  have hat' := hat.engRead (pAddr e (s.f Fld.DE_PC_PC e + 1))
  obtain ⟨hw, hp⟩ := State.engRead_congr (pAddr_above e (s.f Fld.DE_PC_PC e + 1)) hat.mem hat.synd
  rw [← hw]
  rw [← hp] at hclean
  unfold State.doRep State.repSteps
  rw [hpc]
  dsimp only
  revert hat' hclean
  rcases (s.issued e).engRead (pAddr e (s.f Fld.DE_PC_PC e + 1)) with ⟨w, p, t⟩
  rintro rfl hat'
  refine ⟨t, hat', fun hnone => ?_, fun c hsome hpos hle => ?_⟩
  · simp only [hnone]
    rw [if_neg Bool.false_ne_true]
  · simp only [hsome, hat'.dv]
    have hgood : ¬(bit f 25 = 1 ∧ ((s.eng e).dv (bits f 24 22)).2 = true) := by
      rintro ⟨hreg, hbad⟩
      rw [hsource hreg] at hbad
      cases hbad
    rw [if_neg Bool.false_ne_true, if_neg (by omega), if_neg hgood, if_neg (by omega)]

theorem rep_clause (h : s.fetched e 0x30 f) (hpc : s.f Fld.DE_PC_PC e < 8191)
    (hclean : (s.engRead (pAddr e (s.f Fld.DE_PC_PC e + 1))).2.1 = false)
    (hsource : bit f 25 = 1 → ((s.eng e).dv (bits f 24 22)).2 = false) :
    (∀ c, repeatCycles ((s.engRead (pAddr e (s.f Fld.DE_PC_PC e + 1))).1 / 2 ^ 26) = some c → 0 < s.repSteps e f → s.repSteps e f * c ≤ 65536 →
      ∃ u, exec (.rep e f) s = .next u ∧ s.engKeeps u e [] [] [] [] [] ∧ s.engQuiet u e ∧ u.engState e = 2 ∧
        u.f Fld.DE_PC_PC e = s.f Fld.DE_PC_PC e + 1 ∧ (u.eng e).rep = s.repSteps e f ∧ u.f Fld.DE_REP_REMAINING e = s.repSteps e f ∧
        u.f Fld.DE_STATE_REP e = 1 ∧ (u.eng e).cycles = ((s.eng e).cycles + s.cyc e 1) % 2 ^ 64) ∧
    (repeatCycles ((s.engRead (pAddr e (s.f Fld.DE_PC_PC e + 1))).1 / 2 ^ 26) = none →
      ∃ u, exec (.rep e f) s = .next u ∧ s.engRaised u e 3 0 0) := by
  have hexec : exec (.rep e f) s = .next (s.issue e 0x30 f fun s => s.doRep e f) := rfl
  obtain ⟨t, hat, hnone, hsome⟩ := State.doRep_issued hc ht hclean hsource
  constructor
  · intro c hcycles hpos hle
    have hone : 1 ≤ c := by
      unfold repeatCycles at hcycles
      split at hcycles
      · cases hcycles; decide
      · split at hcycles <;> cases hcycles
        decide
    have hn : s.repSteps e f < 2 ^ 17 := by
      have := Nat.le_mul_of_pos_right (s.repSteps e f) hone
      omega
    generalize s.repSteps e f = n at hpos hle hn hsome ⊢
    obtain ⟨hkeeps, hquiet, hrun, hpc', hrep⟩ := hat.repStarted_reads h.runs h.noRep (pc := s.f Fld.DE_PC_PC e + 1) (by omega) hn
    refine ⟨t.repStarted e (s.f Fld.DE_PC_PC e + 1) n, ?_, hkeeps, hquiet, hrun, hpc', hrep⟩
    rw [hexec, h.issue_eq (by omega), hsome c hcycles hpos hle]
    rfl
  · intro hcycles
    obtain ⟨u, hu, hraised, -⟩ := h.raises hexec (by omega) (hnone hcycles) hat (by decide) (by decide) (by decide)
    exact ⟨u, hu, hraised⟩

/-- A step of a repeated NOP, before the end of the repeat is looked at. -/
def State.nopStepped (s : State) (e : Nat) : State :=
  (((s.begun e).spend true e 1 true (usedSlots 0 0)).updEng e fun g => { g with rep := (s.eng e).rep - 1 }).setF Fld.DE_REP_REMAINING e ((s.eng e).rep - 1)

omit hc ht in
theorem State.eng_endRep (h : t.canon) (e : Nat) : (t.endRep e).eng e = { t.eng e with rep := 0 } := State.eng_updEng_same h e fun g => { g with rep := 0 }

theorem State.canon_nopStepped (e : Nat) : (s.nopStepped e).canon :=
  State.canon_setF (State.canon_updEng (State.canon_spend (State.AtIssue.refl hc ht e).begun.canon ..) ..) ..

theorem State.eng_nopStepped (e : Nat) : ∃ c w r, (s.nopStepped e).eng e =
    { (s.begun e).eng e with cycles := c, svcWait := w, rspWait := r, rep := (s.eng e).rep - 1 } := by
  have hbegun := (State.AtIssue.refl hc ht e).begun.canon
  obtain ⟨w, r, hspend⟩ := State.eng_spend hbegun e 1 true (usedSlots 0 0)
  refine ⟨(((s.begun e).eng e).cycles + (s.begun e).cyc e 1) % 2 ^ 64, w, r, ?_⟩
  rw [State.nopStepped, State.eng_setF, State.eng_updEng_same (State.canon_spend hbegun ..), hspend]

theorem State.sameFile_nopStepped (e : Nat) : s.SameFile (s.nopStepped e) e := by
  have hat := (State.AtIssue.refl hc ht e).begun
  obtain ⟨c, w, r, heng⟩ := State.eng_nopStepped hc ht e
  refine hat.sameFile.trans ⟨State.canon_nopStepped hc ht e, fun j hj => ?_, ?_, ?_, ?_, ?_, ?_, ?_⟩
  · rw [State.nopStepped, State.eng_setF, State.eng_updEng_ne (State.canon_spend hat.canon ..) hj, State.eng_spend_ne hat.canon hj]
  all_goals rw [heng]

theorem State.rd_nopStepped {r : Reg} (hr : issueMask.testBit (24 + r.ctorIdx) = false) (hne : r ≠ .DE_CTRL) (hrem : r ≠ .DE_REP) (e i : Nat) :
    (s.nopStepped e).rd r i = s.rd r i := by
  have hat := (State.AtIssue.refl hc ht e).begun
  exact (State.rd_setF_ne (State.canon_updEng (State.canon_spend hat.canon ..) ..).regs hrem ..).trans (hat.rd r i hr hne)

omit hc ht in
/-- The registers at the end of a repeat. -/
theorem State.endRep_reads (h : t.canon) (e : Nat) : (t.endRep e).f Fld.DE_REP_REMAINING e = 0 ∧ (t.endRep e).f Fld.DE_STATE_REP e = 0 ∧
    ∀ r i, r ≠ .DE_REP → r ≠ .DE_STATE → (t.endRep e).rd r i = t.rd r i := by
  let t1 := t.updEng e fun g => { g with rep := 0 }
  let t2 := t1.setF Fld.DE_REP_REMAINING e 0
  let t3 := t2.setF Fld.DE_STATE_REP e 0
  have h1 : t1.regsOk := h.regs
  have h2 : t2.regsOk := State.regsOk_setF h1 ..
  have h3 : t3.regsOk := State.regsOk_setF h2 ..
  refine ⟨?_, ?_, fun r i hrep hstate => ?_⟩
  · exact (State.f_setF_reg h3 (by decide) ..).trans ((State.f_setF_reg h2 (by decide) ..).trans (State.f_setF_same h1 Fld.DE_REP_REMAINING rfl e 0))
  · exact (State.f_setF_field (F := Fld.DE_STATE_THROTTLED) (G := Fld.DE_STATE_REP) h3 rfl rfl rfl (by decide) ..).trans
      (State.f_setF_same h2 Fld.DE_STATE_REP rfl e 0)
  · exact (State.rd_setF_ne h3 hstate ..).trans ((State.rd_setF_ne h2 hstate ..).trans (State.rd_setF_ne h1 hrep ..))

omit hc ht in
theorem State.engQuiet.endRep (k : s.engQuiet t e) (h : t.canon) : s.engQuiet (t.endRep e) e := by
  obtain ⟨hmem, hsynd, hflags⟩ := k
  exact ⟨hmem, hsynd, ((State.endRep_reads h e).2.2 _ _ (by decide) (by decide)).trans hflags⟩

/-- Within a repeat the word at the PC issues again, and no cycle is due to an access (R207, R210). -/
theorem State.issue_nop_repeated (he : e < 256) (hrun : s.engState e = 2) (hrep : 0 < (s.eng e).rep) (hinside : (s.eng e).pcOver = false)
    (hnoStep : (s.eng e).stepping = false) (hword : (s.engRead (pAddr e (s.f Fld.DE_PC_PC e))).1 = 0) :
    exec (.nopInstruction e 0) s = .next (if (s.eng e).rep = 1 then
      ((s.nopStepped e).endRep e).setPc e (s.f Fld.DE_PC_PC e + 1) else s.nopStepped e) := by
  have hat := (State.AtIssue.refl hc ht e).begun
  have hissues : s.issues e = true := by simp [State.issues, hrun, Nat.ne_of_gt hrep]
  have hnotDue : s.svcDue e = false := by simp [State.svcDue, Nat.ne_of_gt hrep]
  show Host.Outcome.next (s.issue e 0 0 fun s => .fin s none 1) = _
  congr 1
  unfold State.issue
  rw [if_neg (by simp [hissues, hnotDue]; omega), if_neg (by simp [hinside])]
  revert hword
  rcases s.engRead (pAddr e (s.f Fld.DE_PC_PC e)) with ⟨w, p, s1⟩
  rintro rfl
  simp only [Nat.ne_of_gt hrep, hrun]
  rw [if_neg (by simp), if_neg (by simp), if_neg (by decide), if_neg (by simp)]
  obtain ⟨c, w, r, heng⟩ := State.eng_nopStepped hc ht e
  have hstepping : ((((s.nopStepped e).endRep e).setPc e (s.f Fld.DE_PC_PC e + 1)).eng e).stepping = false := by
    have hfile := (State.sameFile_nopStepped hc ht e).endRep
    rw [State.eng_setPc hfile.canon, State.eng_endRep (State.canon_nopStepped hc ht e), heng]
    exact hat.stepping.trans hnoStep
  have hrepeats : ((s.eng e).rep != 0) = true := by simp [Nat.ne_of_gt hrep]
  simp only [if_false, hrepeats, decide_true]
  let x := ((s.nopStepped e).endRep e).setPc e (s.f Fld.DE_PC_PC e + 1)
  have hx : (if (x.eng e).stepping = true then x.stepEnd e else x) = x := if_neg (by rw [hstepping]; decide)
  change (if (s.eng e).rep = 1 then if (x.eng e).stepping = true then x.stepEnd e else x else s.nopStepped e) = _
  rw [hx]

theorem repeat_clause (he : e < 256) (hrun : s.engState e = 2) (hrep : 0 < (s.eng e).rep) (hinside : (s.eng e).pcOver = false)
    (hnoStep : (s.eng e).stepping = false) (hword : (s.engRead (pAddr e (s.f Fld.DE_PC_PC e))).1 = 0) :
    ∃ u, exec (.nopInstruction e 0) s = .next u ∧ s.engKeeps u e [] [] [] [] [] ∧ s.engQuiet u e ∧ (u.eng e).rep = (s.eng e).rep - 1 ∧
      u.f Fld.DE_REP_REMAINING e = ((s.eng e).rep - 1) % 2 ^ Fld.DE_REP_REMAINING.width ∧
      (1 < (s.eng e).rep → u.f Fld.DE_PC_PC e = s.f Fld.DE_PC_PC e) ∧
      ((s.eng e).rep = 1 → u.f Fld.DE_PC_PC e = (s.f Fld.DE_PC_PC e + 1) % 8192 ∧ u.f Fld.DE_STATE_REP e = 0) := by
  have hexec := State.issue_nop_repeated hc ht he hrun hrep hinside hnoStep hword
  have hat := (State.AtIssue.refl hc ht e).begun
  have hcanon := State.canon_nopStepped hc ht e
  have hfile := State.sameFile_nopStepped hc ht e
  have hquiet : s.engQuiet (s.nopStepped e) e := ⟨hat.mem, hat.synd, State.rd_nopStepped hc ht rfl (by decide) (by decide) ..⟩
  obtain ⟨c, w, r, heng⟩ := State.eng_nopStepped hc ht e
  by_cases hone : (s.eng e).rep = 1
  · rw [if_pos hone] at hexec
    obtain ⟨hremaining, hrepBit, hrd⟩ := State.endRep_reads hcanon e
    refine ⟨_, hexec, (hfile.endRep.setPc _).engKeeps, hquiet.endRep hcanon |>.setPc hfile.endRep.canon _, ?_, ?_,
      fun hmore => absurd hone (Nat.ne_of_gt hmore), fun _ => ⟨?_, ?_⟩⟩
    · rw [State.eng_setPc hfile.endRep.canon, State.eng_endRep hcanon, hone]
    · rw [State.f_setPc hfile.endRep.canon (by decide), hremaining, hone, Nat.sub_self, Nat.zero_mod]
    · exact State.pc_setPc hfile.endRep.canon ..
    · rw [State.f_setPc hfile.endRep.canon (by decide), hrepBit]
  · rw [if_neg hone] at hexec
    have hspent := (State.canon_updEng (State.canon_spend hat.canon e 1 true (usedSlots 0 0)) e fun g => { g with rep := (s.eng e).rep - 1 }).regs
    refine ⟨_, hexec, hfile.engKeeps, hquiet, by rw [heng], State.f_setF_same hspent Fld.DE_REP_REMAINING rfl .., fun _ => ?_,
      fun h => absurd h hone⟩
    exact congrArg Fld.DE_PC_PC.get (State.rd_nopStepped hc ht rfl (by decide) (by decide) ..)

/-! ### Faults of a fetch -/

omit hc ht in
/-- A NOP's word lists no bit of 25:0. -/
theorem illegalWord_nop {f : Nat} (hf : f < 2 ^ 26) (hne : f ≠ 0) : illegalWord f = true := by
  have hop : f / 2 ^ 26 = 0 := by omega
  unfold illegalWord
  simp only [hop, listedBits, Nat.mod_eq_of_lt hf]
  simp [Nat.land, hne.symm]

theorem fault_clause (hissues : s.issues e = true) (he : e < 256) (hrep : (s.eng e).rep = 0) (hnotDue : s.svcDue e = false)
    (hword : (s.engRead (pAddr e (s.f Fld.DE_PC_PC e))).1 = f) (hf : f < 2 ^ 26) :
    ((s.eng e).pcOver = true → ∃ u, exec (.nopInstruction e f) s = .next u ∧ s.engRaised u e 4 0 0) ∧
    ((s.eng e).pcOver = false → (s.engRead (pAddr e (s.f Fld.DE_PC_PC e))).2.1 = true →
      ∃ u, exec (.nopInstruction e f) s = .next u ∧ s.engRaised u e 1 2 (s.f Fld.DE_PC_PC e)) ∧
    ((s.eng e).pcOver = false → (s.engRead (pAddr e (s.f Fld.DE_PC_PC e))).2.1 = false → f ≠ 0 →
      ∃ u, exec (.nopInstruction e f) s = .next u ∧ s.engRaised u e 3 0 0) := by
  have hexec : exec (.nopInstruction e f) s = .next (s.issue e 0 f fun s => .fin s none 1) := rfl
  have hat := State.atIssue_issued hc ht e
  have hgoes : ¬(256 ≤ e ∨ !s.issues e ∨ s.svcDue e) := by simp [hissues, hnotDue]; omega
  have hpc : s.f Fld.DE_PC_PC e < 2 ^ 14 := Nat.lt_of_lt_of_le (s.f_lt Fld.DE_PC_PC e) (by decide)
  rw [hexec]
  refine ⟨fun hover => ?_, fun hinside hpoison => ?_, fun hinside hclean hne => ?_⟩
  · refine ⟨(s.begun e).raise e 4 0 0, ?_, ((State.AtIssue.refl hc ht e).begun.raised (by decide) (by decide) (by decide)).1⟩
    rw [State.issue, if_neg hgoes, if_pos hover]
  · refine ⟨(s.issued e).raise e 1 2 (s.f Fld.DE_PC_PC e), ?_, (hat.raised (by decide) (by decide) hpc).1⟩
    unfold State.issue State.issued
    rw [if_neg hgoes, if_neg (by rw [hinside]; decide)]
    revert hpoison
    rcases s.engRead (pAddr e (s.f Fld.DE_PC_PC e)) with ⟨w, p, s1⟩
    rintro rfl
    simp only [hrep]
    rw [if_pos (by simp)]
    rfl
  · refine ⟨(s.issued e).raise e 3 0 0, ?_, (hat.raised (by decide) (by decide) (by decide)).1⟩
    have hop : f / 2 ^ 26 = 0 := by omega
    unfold State.issue State.issued
    rw [if_neg hgoes, if_neg (by rw [hinside]; decide)]
    revert hclean hword
    rcases s.engRead (pAddr e (s.f Fld.DE_PC_PC e)) with ⟨w, p, s1⟩
    rintro rfl rfl
    simp only [hrep, hop, illegalWord_nop hf hne]
    rw [if_neg (by simp), if_neg (by omega), if_pos trivial]
    rfl

end control
end Sys2Proof.Machine

/-!
SUPPORT. DONE of a dispatched task (R213): the token records read, the packet sent, and the engine's way out of RUN.
-/
namespace Sys2Proof.Machine
variable {s t t' u : State} {e op f : Nat}

/-! ### Token records -/

/-- A word read in two states that hold the same words. -/
theorem State.AtIssue.engRead_pair (h : s.AtIssue t e) (h' : s.AtIssue t' e) {a : Nat} (ha : 2 ^ 32 ≤ a) :
    ∃ v p u u', t.engRead a = (v, p, u) ∧ t'.engRead a = (v, p, u') ∧ s.AtIssue u e ∧ s.AtIssue u' e := by
  obtain ⟨hv, hp⟩ := State.engRead_congr ha (h'.mem.trans h.mem.symm) (h'.synd.trans h.synd.symm)
  exact ⟨(t.engRead a).1, (t.engRead a).2.1, (t.engRead a).2.2, (t'.engRead a).2.2, rfl, Prod.ext hv (Prod.ext hp rfl), h.engRead a, h'.engRead a⟩

theorem State.AtIssue.engRecs_pair (h : s.AtIssue t e) (h' : s.AtIssue t' e) (p n : Nat) :
    ∃ r u u', t.engRecs e p n = (r, u) ∧ t'.engRecs e p n = (r, u') ∧ s.AtIssue u e ∧ s.AtIssue u' e := by
  induction n with
  | zero => exact ⟨_, t, t', rfl, rfl, h, h'⟩
  | succ n ih =>
    obtain ⟨⟨bad, l⟩, t0, t0', ht0, ht0', h0, h0'⟩ := ih
    obtain ⟨a, pa, t1, t1', ht1, ht1', h1, h1'⟩ := h0.engRead_pair h0' (xAddr_above e ((p + 3 * n + 0) % 16384))
    obtain ⟨b, pb, t2, t2', ht2, ht2', h2, h2'⟩ := h1.engRead_pair h1' (xAddr_above e ((p + 3 * n + 1) % 16384))
    obtain ⟨v, pv, t3, t3', ht3, ht3', h3, h3'⟩ := h2.engRead_pair h2' (xAddr_above e ((p + 3 * n + 2) % 16384))
    have hrecs : t'.engRecs e p (n + 1) = ((t.engRecs e p (n + 1)).1, t3') := by
      rw [State.engRecs, State.engRecs, ht0, ht0']
      simp only [ht1, ht2, ht3, ht1', ht2', ht3']
    refine ⟨(t.engRecs e p (n + 1)).1, t3, t3', ?_, hrecs, h3, h3'⟩
    rw [State.engRecs, ht0]
    simp only [ht1, ht2, ht3]

theorem State.engRecs_length (s : State) (e p n : Nat) : (s.engRecs e p n).1.2.length = n := by
  induction n with
  | zero => rfl
  | succ n ih =>
    rw [State.engRecs]
    simp [ih]

/-! ### Out of RUN -/

theorem State.engs_responded (t : State) (l : List CmdRef) (st : Nat) : (t.each l fun s r => s.respond r st []).engs = t.engs :=
  foldl_p (Q := fun x : State => x.engs = t.engs)
    (fun _ _ k => ((State.respond_inv (clo_same _ rfl) (Same.refl _ _)).engs rfl).trans k) rfl

theorem State.MpOnly.responded (h : s.MpOnly t) (l : List CmdRef) (st : Nat) : s.MpOnly (t.each l fun s r => s.respond r st []) :=
  foldl_p (Q := s.MpOnly) (fun _ _ k => k.respond ..) h

theorem State.MpOnly.haltLost (h : s.MpOnly t) (e : Nat) : s.MpOnly (t.haltLost e) := by
  unfold State.haltLost
  extract_lets g t1 t2 t3
  have h1 : s.MpOnly t1 := ite_p (fun _ => h) fun _ => h.of_net rfl
  have h2 : s.MpOnly t2 := h1.of_net rfl
  exact (h2.responded ..).responded ..

/-- The commands that waited for the engine are answered, and nothing of its sequencer changes. -/
theorem State.eng_haltLost (h : t.canon) (e : Nat) : (t.haltLost e).eng e = { t.eng e with haltCmds := [], stepCmds := [], stepping := false } := by
  unfold State.haltLost
  extract_lets g t1 t2 t3
  have h1 : t1.canon := ite_p (Q := State.canon) (fun _ => h) fun _ => State.canon_setF h ..
  have heng1 : t1.eng e = t.eng e := ite_p (Q := fun x : State => x.eng e = t.eng e) (fun _ => rfl) fun _ => rfl
  rw [State.eng, State.engs_responded, State.engs_responded, ← State.eng]
  exact (State.eng_updEng_same h1 e fun g => { g with haltCmds := [], stepCmds := [], stepping := false }).trans (by rw [heng1])

/-- The kinds of state that the answers to the commands waiting for an engine may change. -/
abbrev haltLostMask : Nat := 0x2000000000000000000000000000000000003018

theorem State.rd_haltLost (h : t.canon) {r : Reg} (hr : haltLostMask.testBit (24 + r.ctorIdx) = false) (e i : Nat) :
    (t.haltLost e).rd r i = t.rd r i := (State.haltLost_inv (clo_rd t r i rfl rfl hr) ⟨h.regs, rfl⟩).2

theorem State.engQuiet.haltLost (k : s.engQuiet t e) (h : t.canon) : s.engQuiet (t.haltLost e) e := by
  obtain ⟨hmem, hsynd, hflags⟩ := k
  have hsame := State.haltLost_inv (v1 := e) (clo_same t rfl) (Same.refl _ t)
  exact ⟨(hsame.mem rfl).trans hmem, (hsame.synd rfl).trans hsynd, (State.rd_haltLost h rfl ..).trans hflags⟩

theorem State.f_updEng (t : State) (e : Nat) (g : Eng → Eng) (F : Field) (i : Nat) : (t.updEng e g).f F i = t.f F i := rfl
theorem State.rd_updEng (t : State) (e : Nat) (g : Eng → Eng) (r : Reg) (i : Nat) : (t.updEng e g).rd r i = t.rd r i := rfl

/-- The registers of an engine that enters IDLE. -/
def State.idled (t : State) (e : Nat) : State :=
  ((t.setF Fld.DE_STATE_STATE e 1).setF Fld.DE_TASK_VALID e 0).setF Fld.DE_STATE_TASK_VALID e 0

/-- Outside shedding the engine enters IDLE. -/
theorem State.engIdle_eq (hrun : t.f Fld.SC_STATUS_ENG_SHED 0 = 0) (e : Nat) : t.engIdle e = (t.idled e).updEng e fun g =>
    { g with started := false, tags := g.tags.filter fun (x : Nat × EngTag) => x.2.status == 0 } := by
  unfold State.engIdle State.idled
  rw [hrun]
  rfl

theorem State.canon_idled (h : t.canon) (e : Nat) : (t.idled e).canon := State.canon_setF (State.canon_setF (State.canon_setF h ..) ..) ..

theorem State.idled_reads (h : t.canon) (e : Nat) : (t.idled e).engState e = 1 ∧ (t.idled e).f Fld.DE_TASK_VALID e = 0 ∧
    (t.idled e).f Fld.DE_STATE_THROTTLED e = t.f Fld.DE_STATE_THROTTLED e := by
  have h1 := State.regsOk_setF h.regs Fld.DE_STATE_STATE e 1
  have h2 := State.regsOk_setF h1 Fld.DE_TASK_VALID e 0
  unfold State.idled State.engState
  refine ⟨?_, ?_, ?_⟩
  · rw [State.f_setF_field h2 (by rfl) rfl rfl (by decide), State.f_setF_reg h1 (by decide), State.f_setF_same h.regs _ rfl]
    rfl
  · rw [State.f_setF_reg h2 (by decide), State.f_setF_same h1 _ rfl]
    rfl
  · rw [State.f_setF_field h2 (by rfl) rfl rfl (by decide), State.f_setF_reg h1 (by decide), State.f_setF_field h.regs (by rfl) rfl rfl (by decide)]

theorem State.engQuiet.engIdle (k : s.engQuiet t e) (h : t.canon) (hrun : t.f Fld.SC_STATUS_ENG_SHED 0 = 0) : s.engQuiet (t.engIdle e) e := by
  obtain ⟨hmem, hsynd, hflags⟩ := k
  have h1 := State.regsOk_setF h.regs Fld.DE_STATE_STATE e 1
  have h2 := State.regsOk_setF h1 Fld.DE_TASK_VALID e 0
  rw [State.engIdle_eq hrun]
  refine ⟨hmem, hsynd, ?_⟩
  rw [State.rd_updEng, State.idled, State.rd_setF_ne h2 (by decide), State.rd_setF_ne h1 (by decide), State.rd_setF_ne h.regs (by decide), hflags]

/-! ### DONE -/

/-- The DONE packet of a task. -/
def State.donePkt (t : State) (e i : Nat) (l : List TokRec) : Packet := mkReq t 7 (256 + e) 0 (epDest t.node 544) (16 + 12 * l.length - 1)
  (fit 0 16 (leBytes 4 (i + 2 ^ 24 * l.length)) ++ (l.map TokRec.bytes).flatten) (poisonBits l)

/-- A dispatched task's engine leaves RUN (R213). -/
def State.doneLost (t : State) (e : Nat) (l : List TokRec) : State :=
  ((t.sendDone e (t.f Fld.DE_TASK_INDEX e) l).setPc e (t.f Fld.DE_PC_PC e + 1)).haltLost e

theorem State.AtIssue.node (h : s.AtIssue t e) : t.node = s.node := by
  unfold State.node
  rw [h.f (F := Fld.CO_NODE_VALID) rfl (by decide), h.f (F := Fld.CO_NODE_NODE) rfl (by decide)]

section doneLost
variable (hat : s.AtIssue t e) (l : List TokRec)
include hat

theorem State.AtIssue.sameFile_sent (i : Nat) : s.SameFile (t.sendDone e i l) e := hat.sameFile.sendDone ..

theorem State.AtIssue.sameFile_doneLost : s.SameFile (t.doneLost e l) e := ((hat.sameFile_sent l _).setPc _).haltLost

theorem State.AtIssue.quiet_doneLost : s.engQuiet (t.doneLost e l) e := by
  have hquiet : s.engQuiet (t.sendDone e (t.f Fld.DE_TASK_INDEX e) l) e := hat.engQuiet
  exact (hquiet.setPc (hat.sameFile_sent l _).canon _).haltLost ((hat.sameFile_sent l _).setPc _).canon

theorem State.AtIssue.f_doneLost {F : Field} (hF : issueMask.testBit (24 + F.reg.ctorIdx) = false) (hne : F.reg ≠ .DE_CTRL ∧ F.reg ≠ .DE_PC)
    (hlost : haltLostMask.testBit (24 + F.reg.ctorIdx) = false) (i : Nat) : (t.doneLost e l).f F i = s.f F i := by
  have hrd := State.rd_haltLost ((hat.sameFile_sent l (t.f Fld.DE_TASK_INDEX e)).setPc (t.f Fld.DE_PC_PC e + 1)).canon hlost e i
  exact (congrArg F.get hrd).trans ((State.f_setPc (hat.sameFile_sent l _).canon hne.2 ..).trans (hat.f hF hne.1 i))

theorem State.AtIssue.cycles_doneLost : ((t.doneLost e l).eng e).cycles = (s.eng e).cycles := by
  rw [State.doneLost, State.eng_haltLost ((hat.sameFile_sent l _).setPc _).canon, State.eng_setPc (hat.sameFile_sent l _).canon]
  exact hat.cycles

theorem State.AtIssue.sent_doneLost (he : e < 256) : mget (fun _ => []) (t.doneLost e l).net.send (256 + e) =
    mget (fun _ => []) s.net.send (256 + e) ++ [t.donePkt e (s.f Fld.DE_TASK_INDEX e) l] := by
  let a := t.sendDone e (t.f Fld.DE_TASK_INDEX e) l
  have ha : a.MpOnly a := ⟨mwf_mput _ _ hat.mp.send, fun _ _ => rfl⟩
  have hpc : a.MpOnly (a.setPc e (t.f Fld.DE_PC_PC e + 1)) := ha.of_net rfl
  have hb : a.MpOnly (t.doneLost e l) := hpc.haltLost e
  rw [hb.sent _ (by omega), ← hat.mp.sent _ (by omega), ← hat.f (F := Fld.DE_TASK_INDEX) rfl (by decide)]
  exact mget_mput_same hat.mp.send ..
end doneLost

theorem State.SameFile.spend (h : s.SameFile t e) (c : Nat) (rep : Bool) (slots : List Nat) : s.SameFile (t.spend true e c rep slots) e :=
  h.updEng _ fun _ => ⟨rfl, rfl, rfl, rfl, rfl, rfl⟩

theorem State.engQuiet.spend (k : s.engQuiet t e) (c : Nat) (rep : Bool) (slots : List Nat) : s.engQuiet (t.spend true e c rep slots) e := k

section done
variable (hc : s.canon) (ht : s.tables)
include hc ht

/-- DONE with no tag outstanding, no poisoned tag among its records and no program of DSP_START. -/
theorem State.doDone_issued (hfree : ∀ t, t < 8 → ((s.eng e).tag t).used = false) (hstarted : (s.eng e).started = false) {l : List TokRec}
    (hrecs : s.engRecs e 0x3FE0 (f % 8) = ((none, l), t')) :
    ∃ t, s.AtIssue t e ∧ (s.issued e).doDone e f = .ended ((t.doneLost e l).engIdle e) (1 + 3 * (f % 8)) := by
  have hat := State.atIssue_issued hc ht e
  obtain ⟨r, u', t, hs, ht', -, hat'⟩ := (State.AtIssue.refl hc ht e).engRecs_pair hat 0x3FE0 (f % 8)
  obtain rfl : r = (none, l) := congrArg Prod.fst (hs.symm.trans hrecs)
  have hnot : (t.eng e).started = false := by rw [hat'.own]; exact hstarted
  refine ⟨t, hat', ?_⟩
  rw [State.doDone, State.withWait_of_unused fun k hk _ => by rw [hat.tag]; exact hfree k hk]
  simp only [ht', hnot]
  rfl

theorem done_clause (h : s.fetched e 0x3D f) (hfree : ∀ t, t < 8 → ((s.eng e).tag t).used = false) (hstarted : (s.eng e).started = false)
    (hshed : s.f Fld.SC_STATUS_ENG_SHED 0 = 0) {l : List TokRec} (hrecs : s.engRecs e 0x3FE0 (f % 8) = ((none, l), t')) :
    ∃ u, exec (.doneInstruction e f) s = .next u ∧ s.engKeeps u e [] [] [] [] [] ∧ s.engQuiet u e ∧ u.engState e = 1 ∧
      u.f Fld.DE_TASK_VALID e = 0 ∧ (u.eng e).cycles = ((s.eng e).cycles + s.cyc e (1 + 3 * (f % 8))) % 2 ^ 64 ∧
      ∃ k, mget (fun _ => []) u.net.send (256 + e) = mget (fun _ => []) s.net.send (256 + e) ++ [k] ∧ k.type = 7 ∧
        k.dest = epDest s.node 544 ∧
        k.payload = fit 0 16 (leBytes 4 (s.f Fld.DE_TASK_INDEX e + 2 ^ 24 * (f % 8))) ++ (l.map TokRec.bytes).flatten := by
  have hexec : exec (.doneInstruction e f) s = .next (s.issue e 0x3D f fun s => s.doDone e f) := rfl
  obtain ⟨t, hat, hbody⟩ := State.doDone_issued hc ht (f := f) hfree hstarted hrecs
  have hlen : l.length = f % 8 := by
    have := s.engRecs_length e 0x3FE0 (f % 8)
    rwa [hrecs] at this
  have hquiet : s.engQuiet (t.doneLost e l) e := hat.quiet_doneLost l
  have hfile : s.SameFile (t.doneLost e l) e := hat.sameFile_doneLost l
  have hrun : (t.doneLost e l).f Fld.SC_STATUS_ENG_SHED 0 = 0 := (hat.f_doneLost l (F := Fld.SC_STATUS_ENG_SHED) rfl (by decide) rfl 0).trans hshed
  have hidle := State.engIdle_eq hrun e
  have hcyc : ((t.doneLost e l).engIdle e).cyc e (1 + 3 * (f % 8)) = s.cyc e (1 + 3 * (f % 8)) := by
    unfold State.cyc
    rw [hidle, State.f_updEng, (State.idled_reads hfile.canon e).2.2, hat.f_doneLost l (F := Fld.DE_STATE_THROTTLED) rfl (by decide) rfl]
  have hcycles : (((t.doneLost e l).engIdle e).eng e).cycles = (s.eng e).cycles := by
    rw [hidle, State.eng_updEng_same (State.canon_idled hfile.canon e)]
    exact hat.cycles_doneLost l
  obtain ⟨w, r, hspend⟩ := State.eng_spend hfile.engIdle.canon e (1 + 3 * (f % 8)) false (usedSlots 0x3D f)
  obtain ⟨hstate, htask, -⟩ := State.idled_reads hfile.canon e
  refine ⟨((t.doneLost e l).engIdle e).spend true e (1 + 3 * (f % 8)) false (usedSlots 0x3D f), ?_, (hfile.engIdle.spend ..).engKeeps,
    (hquiet.engIdle hfile.canon hrun).spend .., ?_, ?_, ?_, t.donePkt e (s.f Fld.DE_TASK_INDEX e) l, ?_, rfl, ?_, ?_⟩
  · rw [hexec, h.issue_eq (by omega), hbody]
    rfl
  · rw [hidle]
    exact hstate
  · rw [hidle]
    exact htask
  · rw [hspend]
    show (_ + _) % 2 ^ 64 = _
    rw [hcycles, hcyc]
  · rw [hidle]
    exact hat.sent_doneLost l h.eng
  · rw [← hat.node]
    rfl
  · rw [← hlen]
    rfl
end done

end Sys2Proof.Machine

/-!
PROOF. Control of the engines (R236, R237, R239, R240, R242), and the halt that a BKPT asks for.
-/
namespace Sys2Proof.Machine

/-- Settles O39: one statement per instruction, from what its body answers in the state in which it issues. -/
theorem engineControlTakesEffect : Obligations.EngineControlTakesEffect := by
  intro s e f hc ht g pc target
  refine ⟨br_clause hc ht, fun h hclean => dbnz_clause hc ht h rfl hclean, call_clause hc ht, ret_clause hc ht,
    fun h hpc hclean hsource => rep_clause hc ht h hpc hclean hsource,
    fun he hrun hrep hinside hnoStep _ hword => repeat_clause hc ht he hrun hrep hinside hnoStep hword,
    wait_clause hc ht, fun h => ?_, fun h hfree hstarted _ hshed l s' hrecs => done_clause hc ht h hfree hstarted hshed hrecs,
    fun hdue => ?_, fun hissues he hrep hnotDue _ hword hf => fault_clause hc ht hissues he hrep hnotDue hword hf⟩
  · obtain ⟨u, hu, hnext, hkeeps, hquiet, hhalt, -⟩ := bkpt_clause hc ht h
    exact ⟨u, hu, hnext, hkeeps, hquiet, hhalt⟩
  · show Host.Outcome.next (s.issue e 0 f fun s => .fin s none 1) = _
    rw [State.issue, if_pos (.inr (.inr hdue))]

/-! ### A halt at the boundary -/

section halt
variable {u : State} {e : Nat} (hc : u.canon)
include hc

/-- What the answers to the waiting DSP_HALT commands leave of the registers. -/
theorem State.rd_responded (l : List CmdRef) (st : Nat) {r : Reg} (hr : (0x2018).testBit (24 + r.ctorIdx) = false) (i : Nat) :
    (u.each l fun s c => s.respond c st []).rd r i = u.rd r i :=
  (foldl_p (Q := fun x : State => x.regsOk ∧ x.rd r i = u.rd r i) (fun _ _ k => State.respond_inv (clo_rd u r i rfl rfl hr) k) ⟨hc.regs, rfl⟩).2

/-- R211: at the boundary an engine with HALT = 1 enters HALTED, and its registers and the memories stay. -/
theorem State.engineHalt_halts (hrun : u.engState e = 2) (hhalt : u.f Fld.DE_CTRL_HALT e = 1) (hrep : (u.eng e).rep = 0) :
    (u.engineHalt e).engState e = 3 ∧ (u.engineHalt e).f Fld.DE_CTRL_HALT e = 1 ∧ (u.engineHalt e).f Fld.DE_PC_PC e = u.f Fld.DE_PC_PC e ∧
      u.engKeeps (u.engineHalt e) e [] [] [] [] [] ∧ u.engQuiet (u.engineHalt e) e := by
  let v := (u.setF Fld.DE_STATE_STATE e 3).updEng e fun g => { g with haltCmds := [] }
  have hv : v.canon := State.canon_updEng (State.canon_setF hc ..) ..
  have hhalts : u.engineHalt e = v.each (u.eng e).haltCmds fun s r => s.respond r 0 [] := if_pos ⟨hrun, hhalt, hrep⟩
  have hrd {r : Reg} (hr : (0x2018).testBit (24 + r.ctorIdx) = false) (hne : r ≠ .DE_STATE) : (u.engineHalt e).rd r e = u.rd r e := by
    rw [hhalts, State.rd_responded hv _ _ hr]
    exact State.rd_setF_ne hc.regs hne ..
  have hfile : u.SameFile v e := ((State.SameFile.of_canon hc rfl).setF ..).updEng _ fun _ => ⟨rfl, rfl, rfl, rfl, rfl, rfl⟩
  have hsame : Same 0x2018 v (u.engineHalt e) := by
    rw [hhalts]
    exact foldl_p (Q := Same 0x2018 v) (fun _ _ k => State.respond_inv (clo_same v rfl) k) (Same.refl _ v)
  refine ⟨?_, congrArg Fld.DE_CTRL_HALT.get (hrd rfl (by decide)) |>.trans hhalt, congrArg Fld.DE_PC_PC.get (hrd rfl (by decide)), ?_,
    hsame.mem rfl, hsame.synd rfl, hrd rfl (by decide)⟩
  · rw [hhalts]
    exact (congrArg Fld.DE_STATE_STATE.get (State.rd_responded hv _ _ rfl _)).trans (State.f_setF_same hc.regs Fld.DE_STATE_STATE rfl e 3)
  · rw [hhalts]
    exact (hfile.respond ..).engKeeps
end halt

/-- Settles O11: the BKPT completes as an instruction that changes the sequencing alone, and leaves what a halt at the boundary asks for. -/
theorem breakpointsHaltAtTheBoundary : Obligations.BreakpointsHaltAtTheBoundary := by
  intro s e f hc ht h
  obtain ⟨u, hu, hnext, hkeeps, hquiet, hhalt, hcanon⟩ := bkpt_clause hc ht h
  have ⟨_, _, _, hrun, hrep⟩ := hnext
  obtain ⟨hstate, hhalted, hpc, hkeeps', hquiet'⟩ := State.engineHalt_halts hcanon hrun hhalt hrep
  exact ⟨u, hu, hnext, hkeeps, hquiet, hhalt, u.engineHalt e, rfl, hstate, hhalted, hpc, hkeeps', fun _ => hquiet'⟩

end Sys2Proof.Machine

/-!
SUPPORT. Where the statements on moves and on corridor requests fail: f stands for any number there, and a word that is read as opcode op
with f beyond bit 25 is the word of another opcode, which issues with that opcode's checks (R224, R228, R242).
-/
namespace Sys2Proof.Machine

/-! ### A REP in the last word -/

/-- R228: a REP in the last word has no instruction to repeat. -/
theorem State.fetched.issue_last {s : State} {e op f : Nat} (h : s.fetched e op f)
    (hlast : s.f Fld.DE_PC_PC e = 8191 ∧ (2 ^ 26 * op + f) / 2 ^ 26 = 0x30) (body : State → Issue) :
    s.issue e op f body = (s.issued e).raise e 4 0 0 := by
  have hword := h.word
  have hclean := h.clean
  unfold State.issue State.issued
  rw [if_neg (by simp [h.eng, h.issues, h.slots]), if_neg (by simp [h.inside])]
  revert hword hclean
  rcases s.engRead (pAddr e (s.f Fld.DE_PC_PC e)) with ⟨w, p, s1⟩
  rintro rfl rfl
  simp only [h.noRep]
  rw [if_neg (by simp), if_pos hlast]
  rfl

/-- Engine 0 runs at program index 8,191, where its program holds the word 0xC0000000, REP of one step. -/
def repAtTheEnd : State :=
  { State.reset with
    regs := [(Reg.addr .DE_STATE 0, 2), (Reg.addr .DE_PC 0, 8191)]
    mem := [(pAddr 0 8191 + 3, 0xC0)] }

theorem repAtTheEnd_canon : repAtTheEnd.canon := { State.canon_reset with regs := by decide +kernel, mem := by decide }

theorem repAtTheEnd_tables : repAtTheEnd.tables := { State.tables_reset with }

/-- The word is that of opcode 0x30 with f = 0, and so 2 ^ 26 × 0 + f for an f of 2 ^ 26 × 0x30. -/
theorem repAtTheEnd_fetched : repAtTheEnd.fetched 0 0 (2 ^ 26 * 0x30) :=
  { eng := by decide
    runs := by decide +kernel
    noHalt := by decide +kernel
    noRep := rfl
    noStep := rfl
    inside := rfl
    slots := by decide +kernel
    own := by intro r hr; cases hr
    word := by decide +kernel
    clean := by decide +kernel
    legal := by decide +kernel }

/-- Refutes O37: the NOP with f = 0xC0000000 is a REP in the last word, which raises PC_OVERFLOW and leaves RUN. -/
theorem not_engineMovesTakeEffect : ¬ Obligations.EngineMovesTakeEffect := by
  intro h
  obtain ⟨hnop, -⟩ := h repAtTheEnd 0 (2 ^ 26 * 0x30) repAtTheEnd_canon repAtTheEnd_tables
  obtain ⟨u, hu, ⟨-, -, -, hrun, -⟩, -⟩ := hnop repAtTheEnd_fetched
  have hexec : exec (.nopInstruction 0 (2 ^ 26 * 0x30)) repAtTheEnd = .next ((repAtTheEnd.issued 0).raise 0 4 0 0) :=
    congrArg Host.Outcome.next (repAtTheEnd_fetched.issue_last (by decide +kernel) _)
  have hat := State.atIssue_issued repAtTheEnd_canon repAtTheEnd_tables 0
  obtain ⟨⟨-, -, -, -, -, -, hexc, -⟩, -⟩ := hat.raised (cause := 4) (space := 0) (word := 0) (by decide) (by decide) (by decide)
  cases Host.Outcome.next.inj (hexec.symm.trans hu)
  exact absurd ((hexc (by decide +kernel)).symm.trans hrun) (by decide)

/-! ### A SENDMSG read as a GET -/

/-- Engine 0 runs at program index 0, where its program holds the word 0xEC0E0000, SENDMSG with DA = 7; A0 is poisoned, D7 is not. -/
def sendmsgAtGet : State :=
  { State.reset with
    regs := [(Reg.addr .DE_STATE 0, 2)]
    mem := [(pAddr 0 0 + 2, 0x0E), (pAddr 0 0 + 3, 0xEC)]
    engs := [(0, { a := [(0, 2 ^ 48)] })] }

theorem sendmsgAtGet_canon : sendmsgAtGet.canon := { State.canon_reset with regs := by decide +kernel, mem := by decide, engs := by decide }

theorem sendmsgAtGet_eng (e : Nat) : sendmsgAtGet.eng e = if e = 0 then { a := [(0, 2 ^ 48)] } else {} := by
  by_cases he : e = 0
  · rw [he]
    rfl
  · rw [if_neg he]
    show (if 0 = e then _ else if e < 0 then _ else _) = _
    rw [if_neg (Ne.symm he), if_neg (Nat.not_lt_zero e)]
    rfl

theorem sendmsgAtGet_tables : sendmsgAtGet.tables :=
  have hreset := State.tables_reset
  { hreset with
    d := fun e => by rw [sendmsgAtGet_eng]; split <;> rfl
    a := fun e => by rw [sendmsgAtGet_eng]; split <;> rfl
    ptr := fun e => by rw [sendmsgAtGet_eng]; split <;> rfl
    mod := fun e => by rw [sendmsgAtGet_eng]; split <;> rfl
    len := fun e => by rw [sendmsgAtGet_eng]; split <;> rfl
    tags := fun e => by rw [sendmsgAtGet_eng]; split <;> rfl }

/-- The word is that of opcode 0x3B, and so 2 ^ 26 × 0x38 + f for this f beyond 2 ^ 26. -/
def getFields : Nat := 3 * 2 ^ 26 + 7 * 2 ^ 17

theorem sendmsgAtGet_fetched : sendmsgAtGet.fetched 0 0x38 getFields :=
  { eng := by decide
    runs := by decide +kernel
    noHalt := by decide +kernel
    noRep := rfl
    noStep := rfl
    inside := rfl
    slots := by decide +kernel
    own := by intro r hr; cases hr
    word := by decide +kernel
    clean := by decide +kernel
    legal := by decide +kernel }

/-- DA + 1 = 8 names A0 among the register sources, and its poison raises POISON (R242). -/
theorem doGet_sendmsgAtGet : (sendmsgAtGet.issued 0).doGet 0 getFields = .exc 1 3 8 (sendmsgAtGet.issued 0) := by
  have htag : (List.range 8).find? (fun t => !(((sendmsgAtGet.issued 0).eng 0).tag t).used &&
      ((sendmsgAtGet.issued 0).outReq (outKey (256 + 0) 0 t)).isNone) = some 0 := by decide +kernel
  have hsource : [bits getFields 19 17, bits getFields 19 17 + 1].find? (fun r =>
      if r < 8 then (((sendmsgAtGet.issued 0).eng 0).dv r).2 else (((sendmsgAtGet.issued 0).eng 0).av (r - 8)).2) = some 8 := by decide +kernel
  rw [State.doGet, State.withTag, htag]
  simp only [State.withRegs]
  rw [hsource]

/-- Refutes O40: the SENDMSG that the GET with f beyond bit 25 spells raises POISON for A0 and leaves RUN. -/
theorem not_engineCorridorRequests : ¬ Obligations.EngineCorridorRequests := by
  intro h
  obtain ⟨hsent, -⟩ := h sendmsgAtGet 0 getFields sendmsgAtGet_canon sendmsgAtGet_tables
  obtain ⟨hget, -⟩ := hsent 0 (by decide +kernel) (by decide +kernel) (by decide +kernel)
  obtain ⟨u, hu, ⟨⟨-, -, -, hrun, -⟩, -⟩, -⟩ := hget sendmsgAtGet_fetched (by decide +kernel)
  have hat := State.atIssue_issued sendmsgAtGet_canon sendmsgAtGet_tables 0
  obtain ⟨v, hv, ⟨-, -, -, -, -, -, hexc, -⟩, -⟩ :=
    sendmsgAtGet_fetched.raises (i := .get 0 getFields) (body := fun s => s.doGet 0 getFields) rfl (by decide +kernel) doGet_sendmsgAtGet hat
      (by decide) (by decide) (by decide)
  cases Host.Outcome.next.inj (hv.symm.trans hu)
  exact absurd ((hexc (by decide +kernel)).symm.trans hrun) (by decide)

end Sys2Proof.Machine

/-!
SUPPORT. Fields of registers that lie apart, and what a change that a mask allows leaves as it was.
-/
namespace Sys2Proof.Machine
variable {s t u : State} {m : Nat}

/-- Whether a write of F leaves G as it was, at every index: another register, or other bits of the same. -/
def Field.apart (F G : Field) : Bool := G.reg != F.reg || (F.ok && G.ok && (decide (F.hi < G.lo) || decide (G.hi < F.lo)))

theorem State.f_setF_apart (h : s.regsOk) {F G : Field} (hFG : F.apart G = true) (i j v : Nat) : (s.setF F i v).f G j = s.f G j := by
  by_cases hr : G.reg = F.reg
  · obtain ⟨⟨hF, hG⟩, hd⟩ : (F.ok = true ∧ G.ok = true) ∧ (F.hi < G.lo ∨ G.hi < F.lo) := by simpa [Field.apart, hr] using hFG
    exact State.f_setF_field h hr hF hG hd i j v
  · exact State.f_setF_reg h hr i j v

theorem State.f_inc_apart (h : s.regsOk) {F G : Field} (hFG : F.apart G = true) (i j n : Nat) : (s.inc F i n).f G j = s.f G j :=
  State.f_setF_apart h hFG i j _

/-- t is reached from s by changes of the kinds and registers that m names. -/
def State.Within (m : Nat) (s t : State) : Prop := ∀ P : State → Prop, Clo m P → P s → P t

theorem State.Within.same (h : s.Within m t) (h19 : m.testBit 19 = false := by rfl) : Same m s t :=
  h _ (clo_same s h19) (Same.refl m s)

theorem State.Within.canon (h : s.Within m t) (hs : s.canon) : t.canon := (h _ (clo_canon s.pending m) ⟨hs, rfl⟩).1

theorem State.Within.rd (h : s.Within m t) (hs : s.regsOk) {r : Reg} (i : Nat) (hr : m.testBit (24 + r.ctorIdx) = false := by rfl)
    (h0 : m.testBit 0 = false := by rfl) (h19 : m.testBit 19 = false := by rfl) : t.rd r i = s.rd r i :=
  (h _ (clo_rd s r i h0 h19 hr) ⟨hs, rfl⟩).2

theorem State.Within.f (h : s.Within m t) (hs : s.regsOk) {F : Field} (i : Nat) (hr : m.testBit (24 + F.reg.ctorIdx) = false := by rfl)
    (h0 : m.testBit 0 = false := by rfl) (h19 : m.testBit 19 = false := by rfl) : t.f F i = s.f F i :=
  congrArg F.get (h.rd hs i hr h0 h19)

theorem State.Within.link (h : s.Within m t) (k : Nat) (h13 : m.testBit 13 = false := by rfl) (h19 : m.testBit 19 = false := by rfl) :
    t.link k = s.link k :=
  congrArg (fun ls => mget (fun _ => ({} : Link)) ls k) ((h.same h19).links h13)

theorem State.canon.regsOk (h : s.canon) : s.regsOk := h.regs

theorem State.canon_updLink (h : s.canon) (k : Nat) (g : Link → Link) : (s.updLink k g).canon := { h with links := mwf_mput _ _ h.links }
theorem State.canon_inc (h : s.canon) (F : Field) (i n : Nat) : (s.inc F i n).canon := State.canon_setF h ..
theorem State.canon_setLinkF (h : s.canon) (D S : Field) (k v : Nat) : (s.setLinkF D S k v).canon := by
  rw [State.setLinkF]
  split
  · exact State.canon_setF h ..
  · exact State.canon_setF h ..

theorem State.link_updLink_same (h : s.canon) (k : Nat) (g : Link → Link) : (s.updLink k g).link k = g (s.link k) :=
  (State.link_updLink h.links k g k).trans (if_pos rfl)

end Sys2Proof.Machine

/-!
SUPPORT. The registers of a link, whichever kind it is, and its state.
-/
namespace Sys2Proof.Machine
variable {s t u : State} {D S D' S' : Field} {k v : Nat}

theorem isGroup_iff {k : Nat} : isGroup k = true ↔ 16 ≤ k := decide_eq_true_iff
theorem isGroup_add (g : Nat) : isGroup (16 + g) = true := isGroup_iff.2 (Nat.le_add_right ..)

theorem State.linkF_of_group (hk : 16 ≤ k) : s.linkF D S k = s.f S (k - 16) := if_pos (isGroup_iff.2 hk)
theorem State.linkF_of_port (hk : k < 16) : s.linkF D S k = s.f D k := if_neg (by simp [isGroup, hk])
theorem State.setLinkF_of_group (hk : 16 ≤ k) : s.setLinkF D S k v = s.setF S (k - 16) v := if_pos (isGroup_iff.2 hk)
theorem State.setLinkF_of_port (hk : k < 16) : s.setLinkF D S k v = s.setF D k v := if_neg (by simp [isGroup, hk])

@[simp] theorem State.setLinkF_link (j : Nat) : (s.setLinkF D S k v).link j = s.link j := by
  rw [State.setLinkF]
  split <;> rfl

theorem State.linkF_setLinkF_same (h : s.regsOk) (hD : D.ok = true) (hS : S.ok = true) :
    (s.setLinkF D S k v).linkF D S k = v % 2 ^ (if 16 ≤ k then S.width else D.width) := by
  rcases Nat.lt_or_ge k 16 with hk | hk
  · rw [State.setLinkF_of_port hk, State.linkF_of_port hk, if_neg (Nat.not_le.2 hk), State.f_setF_same h D hD]
  · rw [State.setLinkF_of_group hk, State.linkF_of_group hk, if_pos hk, State.f_setF_same h S hS]

theorem State.linkF_setLinkF_apart (h : s.regsOk) (hD : D.apart D' = true := by rfl) (hS : S.apart S' = true := by rfl) :
    (s.setLinkF D S k v).linkF D' S' k = s.linkF D' S' k := by
  rcases Nat.lt_or_ge k 16 with hk | hk
  · rw [State.setLinkF_of_port hk, State.linkF_of_port hk, State.linkF_of_port hk, State.f_setF_apart h hD]
  · rw [State.setLinkF_of_group hk, State.linkF_of_group hk, State.linkF_of_group hk, State.f_setF_apart h hS]

theorem State.linkF_setF_apart (h : s.regsOk) {F : Field} {i : Nat} (hD : F.apart D = true := by rfl) (hS : F.apart S = true := by rfl) :
    (s.setF F i v).linkF D S k = s.linkF D S k := by
  rw [State.linkF, State.linkF, State.f_setF_apart h hD, State.f_setF_apart h hS]

theorem State.linkF_of_f (hD : t.f D k = s.f D k) (hS : t.f S (k - 16) = s.f S (k - 16)) : t.linkF D S k = s.linkF D S k := by
  rw [State.linkF, State.linkF, hD, hS]

theorem State.Within.linkF {m : Nat} (h : s.Within m t) (hs : s.regsOk) (k : Nat)
    (hD : m.testBit (24 + D.reg.ctorIdx) = false := by rfl) (hS : m.testBit (24 + S.reg.ctorIdx) = false := by rfl)
    (h0 : m.testBit 0 = false := by rfl) (h19 : m.testBit 19 = false := by rfl) : t.linkF D S k = s.linkF D S k :=
  State.linkF_of_f (h.f hs k hD h0 h19) (h.f hs _ hS h0 h19)

/-- The state of a link is the field STATE of its status register. -/
theorem State.linkState_eq_linkF : s.linkState k = s.linkF Fld.DP_STATUS_STATE Fld.SL_STATUS_STATE k := by
  rcases Nat.lt_or_ge k 16 with hk | hk
  · rw [State.linkState, if_pos hk, State.linkF_of_port hk]
  · rw [State.linkState, if_neg (Nat.not_lt.2 hk), State.linkF_of_group hk]

theorem State.Within.linkState {m : Nat} (h : s.Within m t) (hs : s.regsOk) (k : Nat)
    (hD : m.testBit (24 + Reg.DP_STATUS.ctorIdx) = false := by rfl) (hS : m.testBit (24 + Reg.SL_STATUS.ctorIdx) = false := by rfl)
    (h0 : m.testBit 0 = false := by rfl) (h19 : m.testBit 19 = false := by rfl) : t.linkState k = s.linkState k := by
  rw [State.linkState_eq_linkF, State.linkState_eq_linkF]
  exact h.linkF (D := Fld.DP_STATUS_STATE) (S := Fld.SL_STATUS_STATE) hs k hD hS h0 h19

theorem State.linkState_setLinkF_apart (h : s.regsOk) (hD : D.apart Fld.DP_STATUS_STATE = true := by rfl)
    (hS : S.apart Fld.SL_STATUS_STATE = true := by rfl) : (s.setLinkF D S k v).linkState k = s.linkState k := by
  rw [State.linkState_eq_linkF, State.linkState_eq_linkF, State.linkF_setLinkF_apart h hD hS]

theorem State.linkState_setF_apart (h : s.regsOk) {F : Field} {i : Nat} (hD : F.apart Fld.DP_STATUS_STATE = true := by rfl)
    (hS : F.apart Fld.SL_STATUS_STATE = true := by rfl) : (s.setF F i v).linkState k = s.linkState k := by
  rw [State.linkState_eq_linkF, State.linkState_eq_linkF, State.linkF_setF_apart h hD hS]

/-- A new link state is written and, where it is another, recorded. -/
theorem State.setLinkState_eq :
    s.setLinkState k v = s.setLinkF Fld.DP_STATUS_STATE Fld.SL_STATUS_STATE k v ∨
      ∃ p, s.setLinkState k v = (s.setLinkF Fld.DP_STATUS_STATE Fld.SL_STATUS_STATE k v).record 2 k p := by
  have hset : s.setLinkF Fld.DP_STATUS_STATE Fld.SL_STATUS_STATE k v =
      if k < 16 then s.setF Fld.DP_STATUS_STATE k v else s.setF Fld.SL_STATUS_STATE (k - 16) v := by
    rcases Nat.lt_or_ge k 16 with hk | hk
    · rw [State.setLinkF_of_port hk, if_pos hk]
    · rw [State.setLinkF_of_group hk, if_neg (Nat.not_lt.2 hk)]
  rw [hset, State.setLinkState]
  split
  · exact .inl rfl
  · exact .inr ⟨_, rfl⟩

theorem State.setLinkState_within :
    (s.setLinkF Fld.DP_STATUS_STATE Fld.SL_STATUS_STATE k v).Within
      0x1e02000000000000000000000000000000000000000000000000000000000000022 (s.setLinkState k v) := by
  intro P c h
  rcases s.setLinkState_eq (k := k) (v := v) with heq | ⟨p, heq⟩
  · rwa [heq]
  · rw [heq]
    exact State.record_inv c h

@[simp] theorem State.setLinkState_link (j : Nat) : (s.setLinkState k v).link j = s.link j :=
  (State.setLinkState_within.link j).trans (State.setLinkF_link j)

theorem State.canon_setLinkState (h : s.canon) (k v : Nat) : (s.setLinkState k v).canon :=
  State.setLinkState_within.canon (State.canon_setLinkF h ..)

theorem State.linkState_setLinkState (h : s.canon) (hv : v < 16) : (s.setLinkState k v).linkState k = v := by
  rw [State.setLinkState_within.linkState (State.canon_setLinkF h ..).regsOk k, State.linkState_eq_linkF,
    State.linkF_setLinkF_same h.regsOk rfl rfl]
  split <;> exact Nat.mod_eq_of_lt hv

end Sys2Proof.Machine

/-!
SUPPORT. Training and retraining: what the start of a training does to the link's books, its state and its counters (R248, R249).
-/
namespace Sys2Proof.Machine
variable {s t u : State} {D S : Field} {k v : Nat}

theorem State.lanesOff_within (s : State) (k : Nat) :
    s.Within 0x400000000000000000000000000000000000000000000000000 (s.lanesOff k) := fun _ c h => State.lanesOff_inv c h

theorem State.incLinkW_eq : s.incLinkW D S k = s.setLinkF D S k (s.linkF D S k + 1) := by
  rw [State.incLinkW, State.setLinkF, State.linkF]
  split <;> rfl

theorem State.linkF_setLinkState_apart (h : s.canon) (hD : Fld.DP_STATUS_STATE.apart D = true := by rfl)
    (hS : Fld.SL_STATUS_STATE.apart S = true := by rfl)
    (hD' : Nat.testBit 0x1e02000000000000000000000000000000000000000000000000000000000000022 (24 + D.reg.ctorIdx) = false := by rfl)
    (hS' : Nat.testBit 0x1e02000000000000000000000000000000000000000000000000000000000000022 (24 + S.reg.ctorIdx) = false := by rfl) :
    (s.setLinkState k v).linkF D S k = s.linkF D S k :=
  (State.setLinkState_within.linkF (State.canon_setLinkF h ..).regsOk k hD' hS').trans (State.linkF_setLinkF_apart h.regsOk hD hS)

/-- The books of a link that starts to train: what was outstanding and unreturned is in escrow, what is unacknowledged is kept (R249). -/
structure Link.Escrowed (l t : Link) : Prop where
  outst : t.outst = zero4
  rel : t.rel = zero4
  escTx : t.escTx = add4 l.escTx l.outst
  escRx : t.escRx = add4 l.escRx l.rel
  replay : t.replay = l.replay

@[simp] theorem State.lanesOff_link (j : Nat) : (s.lanesOff k).link j = s.link j := (s.lanesOff_within k).link j

theorem State.beginTraining_escrows (h : s.canon) (k st : Nat) : (s.link k).Escrowed ((s.beginTraining k st).link k) := by
  simp only [State.beginTraining, State.setLinkState_link, State.setLinkF_link, State.lanesOff_link, State.link_updLink_same h]
  exact ⟨rfl, rfl, rfl, rfl, rfl⟩

theorem State.linkState_beginTraining (h : s.canon) {st : Nat} (hst : st < 16) : (s.beginTraining k st).linkState k = st :=
  State.linkState_setLinkState (State.canon_setLinkF ((State.lanesOff_within _ k).canon (State.canon_updLink h ..)) ..) hst

/-- A field of the link's registers that the start of a training leaves as it was. -/
theorem State.linkF_beginTraining (h : s.canon) (st : Nat) (hD : Fld.DP_STATUS_STATE.apart D = true := by rfl)
    (hS : Fld.SL_STATUS_STATE.apart S = true := by rfl) (hD' : Fld.DP_CTRL_RETRAIN.apart D = true := by rfl)
    (hS' : Fld.SL_CTRL_RETRAIN.apart S = true := by rfl)
    (hDm : Nat.testBit 0x1e02000000000000400000000000000000000000000000000000000000000000022 (24 + D.reg.ctorIdx) = false := by rfl)
    (hSm : Nat.testBit 0x1e02000000000000400000000000000000000000000000000000000000000000022 (24 + S.reg.ctorIdx) = false := by rfl) :
    (s.beginTraining k st).linkF D S k = s.linkF D S k := by
  have hmask {i : Nat} (hi : Nat.testBit 0x1e02000000000000400000000000000000000000000000000000000000000000022 i = false) :
      Nat.testBit 0x1e02000000000000000000000000000000000000000000000000000000000000022 i = false ∧
      Nat.testBit 0x400000000000000000000000000000000000000000000000000 i = false := by
    rw [show 0x1e02000000000000400000000000000000000000000000000000000000000000022 =
      0x1e02000000000000000000000000000000000000000000000000000000000000022 ||| 0x400000000000000000000000000000000000000000000000000
      from rfl, Nat.testBit_or, Bool.or_eq_false_iff] at hi
    exact hi
  have hoff {g : Link → Link} : ((s.updLink k g).lanesOff k).canon := (State.lanesOff_within _ k).canon (State.canon_updLink h ..)
  calc (s.beginTraining k st).linkF D S k
    _ = _ := State.linkF_setLinkState_apart (State.canon_setLinkF hoff ..) hD hS (hmask hDm).1 (hmask hSm).1
    _ = _ := State.linkF_setLinkF_apart hoff.regsOk hD' hS'
    _ = _ := (State.lanesOff_within _ k).linkF (State.canon_updLink h ..).regsOk k (hmask hDm).2 (hmask hSm).2

/-- A retraining of link k from s to u: its state is RETRAIN, it is counted, and its credits are in escrow (R249, R271). -/
structure State.Retrained (s : State) (k : Nat) (u : State) : Prop where
  state : u.linkState k = 4
  books : (s.link k).Escrowed (u.link k)
  counted : u.linkF Fld.DP_TRAIN_COUNT_RETRAINS Fld.SL_TRAIN_COUNT_RETRAINS k =
    (s.linkF Fld.DP_TRAIN_COUNT_RETRAINS Fld.SL_TRAIN_COUNT_RETRAINS k + 1) % 65536

/-- What a retraining is counted and judged from. -/
theorem State.Retrained.of_eq (hu : t.Retrained k u) (hlink : t.link k = s.link k)
    (hcount : t.linkF Fld.DP_TRAIN_COUNT_RETRAINS Fld.SL_TRAIN_COUNT_RETRAINS k =
      s.linkF Fld.DP_TRAIN_COUNT_RETRAINS Fld.SL_TRAIN_COUNT_RETRAINS k) : s.Retrained k u :=
  ⟨hu.state, hlink ▸ hu.books, hcount ▸ hu.counted⟩

/-- A write of another register before the retraining. -/
theorem State.Retrained.of_setF (h : s.canon) {F : Field} {i : Nat} (hu : (s.setF F i v).Retrained k u)
    (hD : F.apart Fld.DP_TRAIN_COUNT_RETRAINS = true := by rfl) (hS : F.apart Fld.SL_TRAIN_COUNT_RETRAINS = true := by rfl) :
    s.Retrained k u :=
  hu.of_eq rfl (State.linkF_setF_apart h.regsOk hD hS)

/-- A change of the link's record that keeps its books, after the retraining. -/
theorem State.Retrained.updLink (hu : s.Retrained k u) (hc : u.canon) {g : Link → Link}
    (hg : (s.link k).Escrowed (u.link k) → (s.link k).Escrowed (g (u.link k))) : s.Retrained k (u.updLink k g) :=
  ⟨hu.state, by rw [State.link_updLink_same hc]; exact hg hu.books, hu.counted⟩

theorem State.startRetrain_within (s : State) (k : Nat) :
    s.Within 0x1e020000000000004800c40c0000000000000000000000000000000000000002022 (s.startRetrain k) :=
  fun _ c h => State.startRetrain_inv c h

/-- The start of a retraining from ACTIVE, before a change of the receive depths makes the link fresh. -/
def State.retrainBegun (s : State) (k : Nat) : State :=
  (s.incLinkW Fld.DP_TRAIN_COUNT_RETRAINS Fld.SL_TRAIN_COUNT_RETRAINS k).beginTraining k 4

theorem State.canon_incLinkW (h : s.canon) (D S : Field) (k : Nat) : (s.incLinkW D S k).canon :=
  State.incLinkW_eq ▸ State.canon_setLinkF h ..

theorem State.canon_beginTraining (h : s.canon) (k st : Nat) : (s.beginTraining k st).canon :=
  State.Within.canon (m := 0x1e020000000000004000c00c0000000000000000000000000000000000000002022)
    (fun _ c k => State.beginTraining_inv c k) h

theorem State.retrainBegun_retrained (h : s.canon) (k : Nat) : s.Retrained k (s.retrainBegun k) := by
  have hc := State.canon_incLinkW h Fld.DP_TRAIN_COUNT_RETRAINS Fld.SL_TRAIN_COUNT_RETRAINS k
  have hlink : (s.incLinkW Fld.DP_TRAIN_COUNT_RETRAINS Fld.SL_TRAIN_COUNT_RETRAINS k).link k = s.link k := by
    rw [State.incLinkW_eq, State.setLinkF_link]
  refine ⟨State.linkState_beginTraining hc (by decide), hlink ▸ State.beginTraining_escrows hc k 4, ?_⟩
  rw [State.retrainBegun, State.linkF_beginTraining hc, State.incLinkW_eq, State.linkF_setLinkF_same h.regsOk rfl rfl]
  split <;> rfl

theorem State.startRetrain_of_active (hup : s.linkActive k = true) :
    s.startRetrain k =
      if (s.link k).depthChange then (s.retrainBegun k).updLink k fun l => { l with fresh := true } else s.retrainBegun k := by
  have hlink : (s.incLinkW Fld.DP_TRAIN_COUNT_RETRAINS Fld.SL_TRAIN_COUNT_RETRAINS k).link k = s.link k := by
    rw [State.incLinkW_eq, State.setLinkF_link]
  refine (if_pos (.inr (.inl (of_decide_eq_true hup)))).trans ?_
  rw [hlink]
  rfl

theorem State.canon_retrainBegun (h : s.canon) (k : Nat) : (s.retrainBegun k).canon :=
  State.canon_beginTraining (State.canon_incLinkW h ..) ..

/-- A link that is ACTIVE retrains. -/
theorem State.startRetrain_retrained (h : s.canon) (hup : s.linkActive k = true) : s.Retrained k (s.startRetrain k) := by
  rw [State.startRetrain_of_active hup]
  split
  · exact (s.retrainBegun_retrained h k).updLink (State.canon_retrainBegun h k) fun hb => { hb with }
  · exact s.retrainBegun_retrained h k

theorem State.startRetrain_fresh (h : s.canon) (hup : s.linkActive k = true) (hdepth : (s.link k).depthChange = true) :
    ((s.startRetrain k).link k).fresh = true := by
  rw [State.startRetrain_of_active hup, if_pos hdepth, State.link_updLink_same (State.canon_retrainBegun h k)]

theorem State.linkActive_setF_apart (h : s.regsOk) {F : Field} {i : Nat} (hD : F.apart Fld.DP_STATUS_STATE = true := by rfl)
    (hS : F.apart Fld.SL_STATUS_STATE = true := by rfl) : (s.setF F i v).linkActive k = s.linkActive k := by
  rw [State.linkActive, State.linkActive, State.linkState_setF_apart h hD hS]

/-- An ACTIVE link retrains after a write of a register that neither its state nor its count of retrainings stands in. -/
theorem State.startRetrain_setF_retrained (h : s.canon) (hup : s.linkActive k = true) (F : Field) (i v : Nat)
    (hD : F.apart Fld.DP_TRAIN_COUNT_RETRAINS = true := by rfl) (hS : F.apart Fld.SL_TRAIN_COUNT_RETRAINS = true := by rfl)
    (hD' : F.apart Fld.DP_STATUS_STATE = true := by rfl) (hS' : F.apart Fld.SL_STATUS_STATE = true := by rfl) :
    s.Retrained k ((s.setF F i v).startRetrain k) :=
  .of_setF h (State.startRetrain_retrained (State.canon_setF h ..) ((State.linkActive_setF_apart h.regsOk hD' hS').trans hup)) hD hS

end Sys2Proof.Machine

/-!
SUPPORT. Commands that wait on a link end, and a link goes down, is held, or is released (R251, R255, R280).
-/
namespace Sys2Proof.Machine
variable {s t u : State} {D S : Field} {k v : Nat}

/-! ### The end of waiting commands -/

/-- Two links that differ at most in the commands that wait and in what the link mailbox has to send. -/
def Link.SameButCmd (l t : Link) : Prop := { t with cmd := [], lmbOut := [] } = { l with cmd := [], lmbOut := [] }

theorem Link.SameButCmd.again {l t : Link} (h : l.SameButCmd t) : t.again = l.again := by
  have hagain := congrArg Link.again h
  exact hagain

theorem Link.SameButCmd.trainPhase {l t : Link} (h : l.SameButCmd t) : t.trainPhase = l.trainPhase := by
  have hphase := congrArg Link.trainPhase h
  exact hphase

/-- t is canonical, and every link of t is as in s but for the commands that wait and what the link mailbox has to send. -/
def State.LinksButCmd (s t : State) : Prop := t.canon ∧ ∀ j, (s.link j).SameButCmd (t.link j)

theorem State.LinksButCmd.refl (h : s.canon) : s.LinksButCmd s := ⟨h, fun _ => rfl⟩

theorem State.LinksButCmd.within {m : Nat} (h : s.LinksButCmd t) (hw : t.Within m u) (h13 : m.testBit 13 = false := by rfl)
    (h19 : m.testBit 19 = false := by rfl) : s.LinksButCmd u :=
  ⟨hw.canon h.1, fun j => hw.link j h13 h19 ▸ h.2 j⟩

theorem State.LinksButCmd.updLink (h : s.LinksButCmd t) (n : Nat) {g : Link → Link} (hg : ∀ l : Link, l.SameButCmd (g l)) :
    s.LinksButCmd (t.updLink n g) := by
  refine ⟨State.canon_updLink h.1 n g, fun j => ?_⟩
  rw [State.link_updLink h.1.links]
  split
  case isTrue hj => subst hj; exact (hg _).trans (h.2 j)
  case isFalse => exact h.2 j

theorem State.updMail_within (s : State) (g : Mail → Mail) : s.Within 0x8 (s.updMail g) := fun _ c h => State.updMail_inv c h

/-- A response to a group may wait in its link mailbox (R267); it changes nothing else of a link. -/
theorem State.LinksButCmd.deliver (h : s.LinksButCmd t) (r : CmdRef) (tag : Nat) (blk : List Byte) :
    s.LinksButCmd (t.deliver r tag blk) := by
  have hmail (g : Mail → Mail) : s.LinksButCmd (t.updMail g) := h.within (t.updMail_within g)
  obtain ⟨port, node, ep, x⟩ := r
  refine ite_p (fun _ => ite_p (fun _ => (hmail _).within (State.updMail_within _ _)) fun _ => hmail _) fun _ =>
    ite_p (fun _ => ite_p (fun _ => hmail _) fun _ => hmail _) fun _ => ite_p (fun _ => ?_) fun _ => ite_p (fun _ => ?_) fun _ => ?_
  · exact h.within (m := 0x10) fun _ c k => State.inject_inv c k
  · exact h.updLink _ fun _ => rfl
  · exact h.within (m := 0x10) fun _ c k => State.postSpan_inv (c.mono rfl) (State.postSpan_inv (c.mono rfl) k)

theorem State.LinksButCmd.respond (h : s.LinksButCmd t) (r : CmdRef) (st : Nat) (d : List Byte) : s.LinksButCmd (t.respond r st d) := by
  have hmail {v : State} (hv : s.LinksButCmd v) (g : Mail → Mail) : s.LinksButCmd (v.updMail g) := hv.within (v.updMail_within g)
  have htaken {c : Prop} [Decidable c] (g : Mail → Mail) : s.LinksButCmd (if c then t else t.updMail g) :=
    ite_p (fun _ => h) fun _ => hmail h g
  exact ite_p (fun _ => hmail (htaken _) _) fun _ => (htaken _).deliver r _ _

theorem State.endLinkCmds_link (h : s.canon) (k : Nat) (sel : Nat → Bool) (st : Nat) (d : List Byte) (j : Nat) :
    (s.link j).SameButCmd ((s.endLinkCmds k sel st d).link j) := by
  refine (foldl_p (Q := s.LinksButCmd) (fun _ c ht => ?_) ?_).2 j
  · exact ht.respond c.2 st d
  · exact (State.LinksButCmd.refl h).updLink k fun _ => rfl

theorem State.endLinkCmds_within (s : State) (k : Nat) (sel : Nat → Bool) (st : Nat) (d : List Byte) :
    s.Within 0x2018 (s.endLinkCmds k sel st d) := fun _ c h => State.endLinkCmds_inv c h

/-! ### A link goes down -/

theorem State.sayOff_within (s : State) (k : Nat) : s.Within 0x400040000000000000000000000000000000000000000002000 (s.sayOff k) :=
  fun _ c h => State.sayOff_inv c h

theorem State.goDown_within (s : State) (k : Nat) :
    s.Within 0x1e0200000000000040004004000000000000000000000000000000000000000203a (s.goDown k) := fun _ c h => State.goDown_inv c h

theorem downHeld_lt (k : Nat) : downHeld k < 16 := by
  rw [downHeld]
  split <;> decide

theorem downHeld_ne_active (k : Nat) : 3 ≠ downHeld k := by
  rw [downHeld]
  split <;> decide

/-- A link that goes down is DOWN_HELD. -/
theorem State.linkState_goDown (h : s.canon) (k : Nat) : (s.goDown k).linkState k = downHeld k := by
  have hoff := (s.sayOff_within k).canon h
  have hdown {g : Link → Link} : (((s.sayOff k).updLink k g).setLinkF Fld.DP_STATUS_RATE Fld.SL_STATUS_RATE k 0).canon :=
    State.canon_setLinkF (State.canon_updLink hoff ..) ..
  exact ((State.endLinkCmds_within _ k _ 0 []).linkState (State.canon_setLinkState hdown ..).regsOk k).trans
    (State.linkState_setLinkState hdown (downHeld_lt k))

theorem State.payAck_within (s : State) (k : Nat) : s.Within 0x2000 (s.payAck k) := fun _ c h => State.payAck_inv c h

/-- 10 µs after a hold-down the link goes down, whatever is still unacknowledged. -/
theorem State.linkState_drainLimit10 (h : s.canon) (hhold : (s.link k).holdAfterDrain = true) :
    (s.drainLimit10 k).linkState k = downHeld k := by
  rw [State.drainLimit10, if_pos hhold]
  exact State.linkState_goDown ((s.payAck_within k).canon h) k

/-! ### Holds -/

/-- HOLD_DOWN set on an ACTIVE link: the link goes down, or waits for its replay buffer to drain. -/
theorem State.holdDown_of_active (hup : s.linkActive k = true) (h : s.canon) :
    s.holdDown k =
      if (s.link k).replay.isEmpty then (s.setLinkF Fld.DP_CTRL_HOLD_DOWN Fld.SL_CTRL_HOLD_DOWN k 1).goDown k
      else (s.setLinkF Fld.DP_CTRL_HOLD_DOWN Fld.SL_CTRL_HOLD_DOWN k 1).updLink k fun l => { l with holdAfterDrain := true } := by
  have hstate : (s.setLinkF Fld.DP_CTRL_HOLD_DOWN Fld.SL_CTRL_HOLD_DOWN k 1).linkState k = 3 :=
    (State.linkState_setLinkF_apart h.regsOk).trans (of_decide_eq_true hup)
  rw [State.holdDown, if_neg (hstate ▸ downHeld_ne_active k), State.setLinkF_link, hstate]
  by_cases hempty : (s.link k).replay.isEmpty <;> simp [hempty]

/-- What HOLD_DOWN does to a link that is ACTIVE (R251, R280). -/
structure State.Held (s : State) (k : Nat) (u : State) : Prop where
  hold : u.linkF Fld.DP_CTRL_HOLD_DOWN Fld.SL_CTRL_HOLD_DOWN k = 1
  down : (s.link k).replay = [] → u.linkState k = downHeld k
  waits : (s.link k).replay ≠ [] → u.linkState k = 3 ∧ (u.link k).holdAfterDrain = true ∧ (u.link k).replay = (s.link k).replay

theorem State.holdDown_held (h : s.canon) (hup : s.linkActive k = true) : s.Held k (s.holdDown k) := by
  have hc := State.canon_setLinkF h Fld.DP_CTRL_HOLD_DOWN Fld.SL_CTRL_HOLD_DOWN k 1
  have hset : (s.setLinkF Fld.DP_CTRL_HOLD_DOWN Fld.SL_CTRL_HOLD_DOWN k 1).linkF Fld.DP_CTRL_HOLD_DOWN Fld.SL_CTRL_HOLD_DOWN k = 1 := by
    rw [State.linkF_setLinkF_same h.regsOk rfl rfl]
    split <;> rfl
  rw [State.holdDown_of_active hup h]
  by_cases hempty : (s.link k).replay = []
  · rw [if_pos (List.isEmpty_iff.2 hempty)]
    exact ⟨((State.goDown_within _ k).linkF hc.regsOk k).trans hset, fun _ => State.linkState_goDown hc k, fun hne => absurd hempty hne⟩
  · rw [if_neg (mt List.isEmpty_iff.1 hempty)]
    have hstate := (State.linkState_setLinkF_apart h.regsOk (v := 1) (D := Fld.DP_CTRL_HOLD_DOWN) (S := Fld.SL_CTRL_HOLD_DOWN)).trans
      (of_decide_eq_true hup)
    refine ⟨hset, fun he => absurd he hempty, fun _ => ⟨hstate, ?_⟩⟩
    rw [State.link_updLink_same hc, State.setLinkF_link]
    exact ⟨rfl, rfl⟩

/-! ### Release -/

theorem State.f_setLinkF_apart (h : s.regsOk) {F : Field} {i : Nat} (hD : D.apart F = true := by rfl) (hS : S.apart F = true := by rfl) :
    (s.setLinkF D S k v).f F i = s.f F i := by
  rw [State.setLinkF]
  split
  · exact State.f_setF_apart h hS ..
  · exact State.f_setF_apart h hD ..

theorem State.linkMayTrain_setLinkF (h : s.regsOk) (hDc : D.apart Fld.DP_CFG_ENABLE = true := by rfl)
    (hSc : S.apart Fld.SL_CFG_ENABLE = true := by rfl) (hDg : D.apart Fld.CK_GSTAT_LINK_OPEN = true := by rfl)
    (hSg : S.apart Fld.CK_GSTAT_LINK_OPEN = true := by rfl) (hDs : D.apart Fld.HK_STATUS_SAFE = true := by rfl)
    (hSs : S.apart Fld.HK_STATUS_SAFE = true := by rfl) : (s.setLinkF D S k v).linkMayTrain k = s.linkMayTrain k := by
  have hboot : (s.setLinkF D S k v).boot = s.boot := by
    rw [State.setLinkF]
    split <;> rfl
  simp only [State.linkMayTrain, State.safe, State.linkF_setLinkF_apart h hDc hSc, hboot, State.f_setLinkF_apart h hDg hSg,
    State.f_setLinkF_apart h hDs hSs]

/-- The state of a released link before it trains. -/
def State.released (s : State) (k : Nat) : State :=
  (s.setLinkF Fld.DP_CTRL_HOLD_DOWN Fld.SL_CTRL_HOLD_DOWN k 0).updLink k fun l => { l with holdAfterDrain := false }

theorem State.canon_released (h : s.canon) (k : Nat) : (s.released k).canon := State.canon_updLink (State.canon_setLinkF h ..) ..

theorem State.released_holdDown (h : s.regsOk) (k : Nat) :
    (s.released k).linkF Fld.DP_CTRL_HOLD_DOWN Fld.SL_CTRL_HOLD_DOWN k = 0 :=
  (State.linkF_setLinkF_same h rfl rfl).trans (Nat.zero_mod _)

/-- A held link that may train begins to when it is released (R248, R272, R420). -/
theorem State.releaseHold_of_held (h : s.canon) (hheld : s.linkState k = downHeld k) (hmay : s.linkMayTrain k = true)
    (hreplaying : s.replaying = false) (hresuming : s.resuming = false) : s.releaseHold k = (s.released k).beginTraining k 1 := by
  have hstate : (s.released k).linkState k = downHeld k := (State.linkState_setLinkF_apart h.regsOk).trans hheld
  have hmay' : (s.released k).linkMayTrain k = true := (State.linkMayTrain_setLinkF h.regsOk).trans hmay
  have hreplaying' : (s.released k).replaying = false := by
    rw [← hreplaying, State.replaying, State.replaying, State.rpState, State.rpState]
    exact congrArg (fun n => decide (n = 3)) (State.f_setLinkF_apart h.regsOk)
  have hresuming' : (s.released k).resuming = false :=
    (congrArg (fun n => decide (n = 1)) (State.f_setLinkF_apart h.regsOk)).trans hresuming
  have hsafe : (s.released k).safe = false := by
    have hnot : (!(s.released k).safe) = true := (Bool.and_eq_true_iff.1 hmay').2
    simpa using hnot
  have hfree : (s.released k).heldDown k = false := decide_eq_false (s.released_holdDown h.regsOk k ▸ Nat.zero_ne_one)
  have hbring : (s.released k).bringUp k = (s.released k).beginTraining k 1 := by
    rw [State.bringUp, if_pos ⟨by rw [hreplaying']; rfl, hmay', .inr hstate⟩, if_neg (hfree ▸ Bool.false_ne_true)]
  rw [State.releaseHold, if_neg, if_pos]
  · exact hbring
  · exact hmay'
  · rintro (⟨hdown, -⟩ | hs | hr)
    · exact hdown hstate
    · exact Bool.false_ne_true (hsafe.symm.trans hs)
    · exact Bool.false_ne_true (hresuming'.symm.trans hr)

theorem State.releaseHold_trains (h : s.canon) (hheld : s.linkState k = downHeld k) (hmay : s.linkMayTrain k = true)
    (hreplaying : s.replaying = false) (hresuming : s.resuming = false) :
    (s.releaseHold k).linkState k = 1 ∧ (s.releaseHold k).linkF Fld.DP_CTRL_HOLD_DOWN Fld.SL_CTRL_HOLD_DOWN k = 0 := by
  rw [State.releaseHold_of_held h hheld hmay hreplaying hresuming]
  have hc := State.canon_released h k
  exact ⟨State.linkState_beginTraining hc (by decide), (State.linkF_beginTraining hc 1).trans (s.released_holdDown h.regsOk k)⟩

end Sys2Proof.Machine

/-!
SUPPORT. Training attempts: their start, their failure, the alignment of a group's lanes and its frame lock (R248, R265, R266).
-/
namespace Sys2Proof.Machine
variable {s t u : State} {k v g : Nat}

/-! ### The lanes of a group -/

/-- A step on each of several indices, where the step on one keeps what is read of the others: of each index is read what its own
step leaves. -/
theorem State.each_instance {α : Type} {Q : State → Prop} {f : State → Nat → State} {read : State → Nat → α}
    (hQ : ∀ t i, Q t → Q (f t i)) {l : List Nat} (hl : l.Nodup)
    (hkeep : ∀ t, Q t → ∀ i ∈ l, ∀ j ∈ l, j ≠ i → read (f t i) j = read t j) (h : Q s) {j : Nat} (hj : j ∈ l) :
    ∃ t, Q t ∧ read t j = read s j ∧ read (s.each l f) j = read (f t j) j := by
  induction l generalizing s with
  | nil => cases hj
  | cons i l ih =>
    obtain ⟨hi, hl⟩ := List.nodup_cons.1 hl
    have hkept : ∀ t, Q t → ∀ i ∈ l, ∀ j ∈ l, j ≠ i → read (f t i) j = read t j := fun t ht a ha b hb =>
      hkeep t ht a (List.mem_cons_of_mem _ ha) b (List.mem_cons_of_mem _ hb)
    rcases List.mem_cons.1 hj with rfl | hjl
    · refine ⟨s, h, rfl, ?_⟩
      have hrest : ∀ (l' : List Nat), (∀ a ∈ l', a ∈ l) → ∀ t, Q t → read (t.each l' f) j = read t j := by
        intro l'
        induction l' with
        | nil => exact fun _ _ _ => rfl
        | cons a l' ihl =>
          intro hsub t ht
          have ha : a ∈ l := hsub a List.mem_cons_self
          refine (ihl (fun b hb => hsub b (List.mem_cons_of_mem _ hb)) (f t a) (hQ t a ht)).trans ?_
          exact hkeep t ht a (List.mem_cons_of_mem _ ha) j hj fun he => hi (he ▸ ha)
      exact hrest l (fun _ => id) (f s j) (hQ s j h)
    · obtain ⟨t, ht, hread, hafter⟩ := ih hl hkept (hQ s i h) hjl
      exact ⟨t, ht, hread.trans (hkeep s h i List.mem_cons_self j hj fun he => hi (he ▸ hjl)), hafter⟩

/-- Different lanes of a group have different registers. -/
theorem lane_ne {i j : Nat} (hi : i < 4) (hj : j < 4) (hij : j ≠ i) :
    (4 * g + j) % Reg.SL_LANE.map.count ≠ (4 * g + i) % Reg.SL_LANE.map.count := by
  show (4 * g + j) % 64 ≠ (4 * g + i) % 64
  omega

/-- What a slip of a lane leaves in its register (R266). -/
theorem State.slipLane_fields (h : s.regsOk) {lane : Nat} (haligning : s.aligning g = true) (hlane : lane < 4) :
    (s.slipLane g lane).f Fld.SL_LANE_SLIPS (4 * g + lane) =
        (s.f Fld.SL_LANE_SLIPS (4 * g + lane) + 1) % 2 ^ Fld.SL_LANE_SLIPS.width ∧
      (s.slipLane g lane).f Fld.SL_LANE_MATCH (4 * g + lane) = 0 ∧
      (s.slipLane g lane).f Fld.SL_LANE_ALIGNED (4 * g + lane) = 0 := by
  have hslip := State.regsOk_setF h Fld.SL_LANE_SLIPS (4 * g + lane) (s.f Fld.SL_LANE_SLIPS (4 * g + lane) + 1)
  have hmatch := State.regsOk_setF hslip Fld.SL_LANE_MATCH (4 * g + lane) 0
  rw [State.slipLane, if_pos ⟨haligning, hlane⟩]
  refine ⟨?_, ?_, ?_⟩
  · rw [State.f_setF_apart hmatch rfl, State.f_setF_apart hslip rfl, State.f_setF_same h _ rfl]
  · rw [State.f_setF_apart hmatch rfl, State.f_setF_same hslip _ rfl]
    rfl
  · rw [State.f_setF_same hmatch _ rfl]
    rfl

theorem State.regsOk_slipLane (h : s.regsOk) (lane : Nat) : (s.slipLane g lane).regsOk :=
  ite_p (fun _ => State.regsOk_setF (State.regsOk_setF (State.regsOk_setF h ..) ..) ..) fun _ => h

/-- A slip of one lane leaves the registers of the others. -/
theorem State.slipLane_keeps (h : s.regsOk) {i j : Nat} (hi : i < 4) (hj : j < 4) (hij : j ≠ i) :
    (s.slipLane g i).rd .SL_LANE (4 * g + j) = s.rd .SL_LANE (4 * g + j) := by
  have hne := lane_ne (g := g) hi hj hij
  have hslip := State.regsOk_setF h Fld.SL_LANE_SLIPS (4 * g + i) (s.f Fld.SL_LANE_SLIPS (4 * g + i) + 1)
  refine ite_p (Q := fun t : State => t.rd .SL_LANE (4 * g + j) = _) (fun _ => ?_) fun _ => rfl
  exact (State.rd_wr_inst (State.regsOk_setF hslip ..) _ hne _).trans
    ((State.rd_wr_inst hslip _ hne _).trans (State.rd_wr_inst h _ hne _))

/-- What a check shows of a lane with n matches of 256 (R266). -/
def State.laneShown (s : State) (g i n : Nat) : State :=
  (s.setF Fld.SL_LANE_MATCH (4 * g + i) n).setF Fld.SL_LANE_ALIGNED (4 * g + i) (if 250 ≤ n then 1 else 0)

theorem State.regsOk_laneShown (h : s.regsOk) (i n : Nat) : (s.laneShown g i n).regsOk := State.regsOk_setF (State.regsOk_setF h ..) ..

theorem State.laneShown_keeps (h : s.regsOk) {i j : Nat} (hi : i < 4) (hj : j < 4) (hij : j ≠ i) (n : Nat) :
    (s.laneShown g i n).rd .SL_LANE (4 * g + j) = s.rd .SL_LANE (4 * g + j) :=
  (State.rd_wr_inst (State.regsOk_setF h ..) _ (lane_ne hi hj hij) _).trans (State.rd_wr_inst h _ (lane_ne hi hj hij) _)

theorem State.laneShown_aligned (h : s.regsOk) (i n : Nat) :
    (s.laneShown g i n).f Fld.SL_LANE_ALIGNED (4 * g + i) = if 250 ≤ n then 1 else 0 := by
  refine (State.f_setF_same (State.regsOk_setF h ..) _ rfl _ _).trans ?_
  split <;> rfl

theorem State.laneShown_match (h : s.regsOk) (i : Nat) {n : Nat} (hn : n < 256) :
    (s.laneShown g i n).f Fld.SL_LANE_MATCH (4 * g + i) = n :=
  (State.f_setF_apart (State.regsOk_setF h ..) rfl _ _ _).trans
    ((State.f_setF_same h _ rfl _ _).trans (Nat.mod_eq_of_lt (hn.trans (by decide))))

theorem State.laneShown_slips (h : s.regsOk) (i n : Nat) :
    (s.laneShown g i n).f Fld.SL_LANE_SLIPS (4 * g + i) = s.f Fld.SL_LANE_SLIPS (4 * g + i) :=
  (State.f_setF_apart (State.regsOk_setF h ..) rfl _ _ _).trans (State.f_setF_apart h rfl _ _ _)

/-! ### The alignment search -/

/-- The lanes that the search has found after a check with these matches. -/
def Link.foundBy (l : Link) (m : List Nat) : List Nat := (List.range 4).filter fun i => l.found.contains i || 250 ≤ nth m i

theorem Link.mem_foundBy {l : Link} {m : List Nat} {i : Nat} (hi : i < 4) :
    (l.foundBy m).contains i = true ↔ i ∈ l.found ∨ 250 ≤ nth m i := by
  simp [Link.foundBy, hi]

/-- The link after a check of the search. -/
def Link.checked (l : Link) (m found : List Nat) : Link :=
  let all : Bool := (List.range 4).all fun i => 250 ≤ nth m i
  { l with trainPhase := 2, checks := l.checks + 1, found := found, allWas := all, steady := all && l.allWas }

/-- What a check of the search does with a lane: one that it has not found slips. -/
def State.laneChecked (m found : List Nat) (g : Nat) (s : State) (i : Nat) : State :=
  if found.contains i then s.laneShown g i (nth m i) else (s.laneShown g i (nth m i)).slipLane g i

/-- A check of the search that is not its last. -/
theorem State.alignmentCheck_eq (hphase : (s.link (16 + g)).trainPhase = 1 ∨ (s.link (16 + g)).trainPhase = 2)
    (hmanual : (s.link (16 + g)).set.manual = false) (hchecks : (s.link (16 + g)).checks < 39) (m : List Nat) :
    s.alignmentCheck g m = (s.updLink (16 + g) fun l => l.checked m ((s.link (16 + g)).foundBy m)).each (List.range 4)
      (State.laneChecked m ((s.link (16 + g)).foundBy m) g) := by
  rw [State.alignmentCheck, if_neg (by omega)]
  simp only [hmanual, Nat.not_le.2 hchecks, Bool.false_eq_true, false_or, or_false, if_false, and_false, false_and]
  rfl

/-- The registers of t are canonical and its links are those of s, in which group g is in its alignment phase. -/
structure State.LanesOnly (s : State) (g : Nat) (t : State) : Prop where
  regsOk : t.regsOk
  links : t.links = s.links
  before : s.aligning g = true

theorem State.LanesOnly.aligning (h : s.LanesOnly g t) : t.aligning g = true := by
  rw [State.aligning, State.link, h.links]
  exact h.before

theorem State.LanesOnly.slipLane (h : s.LanesOnly g t) (i : Nat) : s.LanesOnly g (t.slipLane g i) :=
  ⟨State.regsOk_slipLane h.regsOk i, ite_p (Q := fun t : State => t.links = s.links) (fun _ => h.links) fun _ => h.links, h.before⟩

theorem State.LanesOnly.laneChecked (h : s.LanesOnly g t) (m found : List Nat) (i : Nat) :
    s.LanesOnly g (State.laneChecked m found g t i) := by
  have hshown : s.LanesOnly g (t.laneShown g i (nth m i)) := ⟨State.regsOk_laneShown h.regsOk .., h.links, h.before⟩
  exact ite_p (fun _ => hshown) fun _ => hshown.slipLane i

theorem State.laneChecked_keeps (h : s.regsOk) (m found : List Nat) {i j : Nat} (hi : i < 4) (hj : j < 4) (hij : j ≠ i) :
    (State.laneChecked m found g s i).rd .SL_LANE (4 * g + j) = s.rd .SL_LANE (4 * g + j) := by
  have hshown := State.laneShown_keeps (g := g) h hi hj hij (nth m i)
  exact ite_p (Q := fun t : State => t.rd .SL_LANE (4 * g + j) = _) (fun _ => hshown) fun _ =>
    (State.slipLane_keeps (State.regsOk_laneShown h ..) hi hj hij).trans hshown

/-- What a check of the search leaves of group g's links and lanes: of each lane its register is that of the lane's own check. -/
theorem State.alignmentCheck_lanes (h : s.canon) (hphase : (s.link (16 + g)).trainPhase = 1 ∨ (s.link (16 + g)).trainPhase = 2)
    (hmanual : (s.link (16 + g)).set.manual = false) (hchecks : (s.link (16 + g)).checks < 39) (m : List Nat) :
    (s.alignmentCheck g m).link (16 + g) = (s.link (16 + g)).checked m ((s.link (16 + g)).foundBy m) ∧
    ∀ j, j < 4 → ∃ t : State, t.regsOk ∧ t.aligning g = true ∧ t.rd .SL_LANE (4 * g + j) = s.rd .SL_LANE (4 * g + j) ∧
      (s.alignmentCheck g m).rd .SL_LANE (4 * g + j) =
        (State.laneChecked m ((s.link (16 + g)).foundBy m) g t j).rd .SL_LANE (4 * g + j) := by
  generalize hfound : (s.link (16 + g)).foundBy m = found
  have hupd := State.link_updLink_same h (16 + g) fun l => l.checked m found
  have hbegin : (s.updLink (16 + g) fun l => l.checked m found).LanesOnly g (s.updLink (16 + g) fun l => l.checked m found) :=
    ⟨h.regsOk, rfl, by rw [State.aligning, hupd]; rfl⟩
  rw [State.alignmentCheck_eq hphase hmanual hchecks, hfound]
  constructor
  · have hend := foldl_p (Q := (s.updLink (16 + g) fun l => l.checked m found).LanesOnly g) (l := List.range 4)
      (fun t i ht => State.LanesOnly.laneChecked ht m found i) hbegin
    exact (congrArg (fun ls => mget (fun _ => ({} : Link)) ls (16 + g)) hend.links).trans hupd
  · intro j hj
    obtain ⟨t, ht, hbefore, hafter⟩ := State.each_instance (Q := (s.updLink (16 + g) fun l => l.checked m found).LanesOnly g)
      (read := fun t j => t.rd .SL_LANE (4 * g + j)) (fun t i ht => State.LanesOnly.laneChecked ht m found i) List.nodup_range
      (fun t ht i hi j hj hij => State.laneChecked_keeps ht.regsOk m found (List.mem_range.1 hi) (List.mem_range.1 hj) hij) hbegin
      (List.mem_range.2 hj)
    exact ⟨t, ht.regsOk, ht.aligning, hbefore, hafter⟩

/-- A lane that a check of the search finds, or has found before: its register shows the check. -/
theorem State.alignmentCheck_found (h : s.canon) (hphase : (s.link (16 + g)).trainPhase = 1 ∨ (s.link (16 + g)).trainPhase = 2)
    (hmanual : (s.link (16 + g)).set.manual = false) (hchecks : (s.link (16 + g)).checks < 39) {m : List Nat} {i : Nat} (hi : i < 4)
    (hfound : i ∈ (s.link (16 + g)).found ∨ 250 ≤ nth m i) (hn : nth m i < 256) :
    (s.alignmentCheck g m).f Fld.SL_LANE_ALIGNED (4 * g + i) = (if 250 ≤ nth m i then 1 else 0) ∧
      (s.alignmentCheck g m).f Fld.SL_LANE_MATCH (4 * g + i) = nth m i := by
  obtain ⟨-, hlanes⟩ := State.alignmentCheck_lanes h hphase hmanual hchecks m
  obtain ⟨t, ht, -, -, hafter⟩ := hlanes i hi
  rw [State.laneChecked, if_pos ((Link.mem_foundBy hi).2 hfound)] at hafter
  exact ⟨(State.f_of_rd (F := Fld.SL_LANE_ALIGNED) rfl hafter).trans (State.laneShown_aligned ht i _),
    (State.f_of_rd (F := Fld.SL_LANE_MATCH) rfl hafter).trans (State.laneShown_match ht i hn)⟩

/-- A lane that the search has not found slips by one symbol. -/
theorem State.alignmentCheck_slips (h : s.canon) (hphase : (s.link (16 + g)).trainPhase = 1 ∨ (s.link (16 + g)).trainPhase = 2)
    (hmanual : (s.link (16 + g)).set.manual = false) (hchecks : (s.link (16 + g)).checks < 39) {m : List Nat} {i : Nat} (hi : i < 4)
    (hnot : i ∉ (s.link (16 + g)).found) (hn : nth m i < 250) :
    (s.alignmentCheck g m).f Fld.SL_LANE_ALIGNED (4 * g + i) = 0 ∧
      (s.alignmentCheck g m).f Fld.SL_LANE_SLIPS (4 * g + i) =
        (s.f Fld.SL_LANE_SLIPS (4 * g + i) + 1) % 2 ^ Fld.SL_LANE_SLIPS.width := by
  obtain ⟨-, hlanes⟩ := State.alignmentCheck_lanes h hphase hmanual hchecks m
  obtain ⟨t, ht, haligning, hbefore, hafter⟩ := hlanes i hi
  have hmissing : ¬ ((s.link (16 + g)).foundBy m).contains i = true := fun hc =>
    ((Link.mem_foundBy hi).1 hc).elim hnot (Nat.not_le.2 hn)
  rw [State.laneChecked, if_neg hmissing] at hafter
  obtain ⟨hslips, -, haligned⟩ := State.slipLane_fields (State.regsOk_laneShown (g := g) ht i (nth m i)) (lane := i) haligning hi
  rw [State.laneShown_slips ht, State.f_of_rd (F := Fld.SL_LANE_SLIPS) rfl hbefore] at hslips
  exact ⟨(State.f_of_rd (F := Fld.SL_LANE_ALIGNED) rfl hafter).trans haligned,
    (State.f_of_rd (F := Fld.SL_LANE_SLIPS) rfl hafter).trans hslips⟩

end Sys2Proof.Machine

/-!
SUPPORT. Training attempts: their start and their failure (R248, R249, R252, R265).
-/
namespace Sys2Proof.Machine
variable {s t u : State} {k v g : Nat}

/-- A link that has begun a training attempt. -/
structure Link.Attempts (l t : Link) : Prop where
  phase : t.trainPhase = 1
  checks : t.checks = 0
  initSent : t.initSent = false
  tries : t.tries = l.tries

/-- The registers of a group's lanes are cleared. -/
def State.lanesCleared (s : State) (g : Nat) : State := s.each (List.range 4) fun s l => s.wr .SL_LANE (4 * g + l) 0

theorem State.lanesCleared_within (s : State) (g : Nat) :
    s.Within 0x400000000000000000000000000000000000000000000000000 (s.lanesCleared g) :=
  fun _ c h => foldl_p (fun _ _ k => c.wr rfl k) h

/-- A link as an attempt starts it. -/
def Link.started (l : Link) : Link :=
  { l with trainPhase := 1, checks := 0, rounds := 0, ffe := .reg, initSent := false, initRcvd := false, found := [], allWas := false,
           steady := false }

theorem Link.started_attempts (l : Link) : l.Attempts l.started := ⟨rfl, rfl, rfl, rfl⟩

/-- The registers of a group as an attempt starts it: both lane directions on, x the transmitter's state. -/
def State.lanesRestarted (s : State) (g x : Nat) : State :=
  ((s.setF Fld.SL_STATUS_TXSTATE g x).setF Fld.SL_STATUS_RXSTATE g 0).lanesCleared g

/-- An attempt starts the link, and of a group the lanes. -/
theorem State.attempt_eq (s : State) (k : Nat) : s.attempt k =
    if isGroup k then
      (s.updLink k Link.started).lanesRestarted (k - 16) (if ((s.updLink k Link.started).link k).forced then 2 else 0)
    else s.updLink k Link.started := rfl

theorem State.attempt_cases (s : State) (k : Nat) :
    s.attempt k = s.updLink k Link.started ∨ ∃ x, s.attempt k = (s.updLink k Link.started).lanesRestarted (k - 16) x := by
  rw [State.attempt_eq]
  split
  · exact .inr ⟨_, rfl⟩
  · exact .inl rfl

theorem State.lanesRestarted_link (j x : Nat) : (s.lanesRestarted g x).link j = s.link j :=
  (State.lanesCleared_within _ g).link j

theorem State.lanesRestarted_linkState (h : s.regsOk) (j x : Nat) : (s.lanesRestarted g x).linkState j = s.linkState j :=
  have htx := State.regsOk_setF h Fld.SL_STATUS_TXSTATE g x
  ((State.lanesCleared_within _ g).linkState (State.regsOk_setF htx ..) j).trans
    ((State.linkState_setF_apart htx).trans (State.linkState_setF_apart h))

theorem State.attempt_attempts (h : s.canon) (k : Nat) : (s.link k).Attempts ((s.attempt k).link k) := by
  have hstarted : (s.updLink k Link.started).link k = (s.link k).started := State.link_updLink_same h k _
  rcases s.attempt_cases k with heq | ⟨x, heq⟩
  · rw [heq, hstarted]
    exact Link.started_attempts _
  · rw [heq, State.lanesRestarted_link, hstarted]
    exact Link.started_attempts _

theorem State.linkState_attempt (h : s.canon) (k : Nat) : (s.attempt k).linkState k = s.linkState k := by
  rcases s.attempt_cases k with heq | ⟨x, heq⟩
  · rw [heq]
    rfl
  · rw [heq]
    exact State.lanesRestarted_linkState (State.canon_updLink h k Link.started).regsOk k x

theorem State.trainingAttempt_attempts (h : s.canon) (hstate : s.linkState k = 1 ∨ s.linkState k = 4) (hphase : (s.link k).trainPhase = 0)
    (href : s.refLost = false) :
    (s.link k).Attempts ((s.trainingAttempt k).link k) ∧ (s.trainingAttempt k).linkState k = s.linkState k := by
  rw [State.trainingAttempt, if_pos ⟨hstate, hphase, by rw [href, Bool.and_false]; rfl⟩]
  have hc {g : Link → Link} : (s.updLink k g).canon := State.canon_updLink h k g
  have hbegun := State.attempt_attempts (hc (g := fun l => { l with retrainAfterRef := false })) k
  rw [State.link_updLink_same h] at hbegun
  exact ⟨⟨hbegun.phase, hbegun.checks, hbegun.initSent, hbegun.tries⟩, State.linkState_attempt hc k⟩

theorem State.failedRetry_attempts (h : s.canon) (hstate : s.linkState k = failedState k) (hphase : (s.link k).trainPhase = 0)
    (hmay : s.linkMayTrain k = true) :
    (s.link k).Attempts ((s.failedRetry k).link k) ∧ (s.failedRetry k).linkState k = s.linkState k := by
  rw [State.failedRetry, if_pos ⟨hstate, hphase, hmay⟩]
  exact ⟨State.attempt_attempts h k, State.linkState_attempt h k⟩

/-! ### The failure of an attempt -/

theorem failedState_lt (k : Nat) : failedState k < 16 := by
  rw [failedState]
  split <;> decide

/-- A link after an attempt that failed, before the next. -/
def Link.failedOnce (l : Link) : Link := { l with tries := l.tries + 1, trainPhase := 0, initSent := false, initRcvd := false }

/-- The state after an attempt that failed is counted. -/
def State.failureCounted (s : State) (k : Nat) : State :=
  (s.incLinkW Fld.DP_TRAIN_COUNT_FAILS Fld.SL_TRAIN_COUNT_FAILS k).updLink k Link.failedOnce

theorem State.canon_failureCounted (h : s.canon) (k : Nat) : (s.failureCounted k).canon :=
  State.canon_updLink (State.canon_incLinkW h ..) ..

theorem State.failureCounted_link (h : s.canon) (k : Nat) : (s.failureCounted k).link k = (s.link k).failedOnce := by
  rw [State.failureCounted, State.link_updLink_same (State.canon_incLinkW h ..), State.incLinkW_eq, State.setLinkF_link]

theorem State.failureCounted_linkState (h : s.canon) (k : Nat) : (s.failureCounted k).linkState k = s.linkState k := by
  have hkept : (s.incLinkW Fld.DP_TRAIN_COUNT_FAILS Fld.SL_TRAIN_COUNT_FAILS k).linkState k = s.linkState k := by
    rw [State.incLinkW_eq, State.linkState_setLinkF_apart h.regsOk]
  exact hkept

/-- A link whose last attempt failed, before commands that wait are answered. -/
def State.trainingFailed (s : State) (k : Nat) : State :=
  ((s.setLinkState k (failedState k)).setLinkF Fld.DP_STATUS_TRAIN_FAIL Fld.SL_STATUS_TRAIN_FAIL k 1).setLinkF Fld.DP_STATUS_RATE
    Fld.SL_STATUS_RATE k 0

/-- What the commands that wait and the management processor learn of it. -/
def State.failureTold (s : State) (k : Nat) : State :=
  (s.endLinkCmds k (· == 1) 7 [BitVec.ofNat 8 (failedState k)]).event 0x40 k 0

/-- What follows an attempt that failed and is counted: the next attempt, or FAILED (R248, R249). -/
def State.nextAttempt (s : State) (k : Nat) : State :=
  if (s.link k).set.tries ≤ (s.link k).tries then
    let t := (s.trainingFailed k).failureTold k
    if (t.link k).again then t.takeAgain k else t
  else s.attempt k

/-- The failure of an attempt in TRAINING or RETRAIN. -/
theorem State.attemptFails_eq (h : s.canon) (hphase : (s.link k).trainPhase ≠ 0) (hstate : s.linkState k = 1 ∨ s.linkState k = 4) :
    s.attemptFails k = (s.failureCounted k).nextAttempt k := by
  have hcounted := State.failureCounted_linkState h k
  have hnotFailed : ¬ s.linkState k = failedState k := by
    rw [failedState]
    split <;> omega
  have hnotInit : ¬ s.linkState k = 2 := by omega
  have hback : (if (s.failureCounted k).linkState k = 2 then (s.failureCounted k).setLinkState k ((s.failureCounted k).link k).origin
      else s.failureCounted k) = s.failureCounted k := if_neg (hcounted.symm ▸ hnotInit)
  have heq : s.attemptFails k = (if (s.failureCounted k).linkState k = 2 then
      (s.failureCounted k).setLinkState k ((s.failureCounted k).link k).origin else s.failureCounted k).nextAttempt k :=
    (if_neg hphase).trans ((if_neg (hcounted.symm ▸ hnotFailed)).trans rfl)
  rw [heq, hback]

/-- With tries left the next attempt begins. -/
theorem State.attemptFails_retries (h : s.canon) (hphase : (s.link k).trainPhase ≠ 0) (hstate : s.linkState k = 1 ∨ s.linkState k = 4)
    (htries : (s.link k).tries + 1 < (s.link k).set.tries) :
    ((s.attemptFails k).link k).tries = (s.link k).tries + 1 ∧ ((s.attemptFails k).link k).trainPhase = 1 ∧
      (s.attemptFails k).linkState k = s.linkState k := by
  have hlink := State.failureCounted_link h k
  have hc := State.canon_failureCounted h k
  have hagain : ¬ ((s.failureCounted k).link k).set.tries ≤ ((s.failureCounted k).link k).tries := by
    rw [hlink]
    exact Nat.not_le.2 htries
  rw [State.attemptFails_eq h hphase hstate, State.nextAttempt, if_neg hagain]
  have hnext := State.attempt_attempts hc k
  exact ⟨hnext.tries.trans (congrArg Link.tries hlink), hnext.phase,
    (State.linkState_attempt hc k).trans (State.failureCounted_linkState h k)⟩

theorem State.canon_trainingFailed (h : s.canon) (k : Nat) : (s.trainingFailed k).canon :=
  State.canon_setLinkF (State.canon_setLinkF (State.canon_setLinkState h ..) ..) ..

theorem State.failureTold_link (h : s.canon) (k : Nat) : (s.link k).SameButCmd ((s.failureTold k).link k) := by
  have hevent : (s.endLinkCmds k (· == 1) 7 [BitVec.ofNat 8 (failedState k)]).Within 0x4000000000000008 (s.failureTold k) :=
    fun _ c h => State.event_inv c h
  rw [hevent.link k]
  exact State.endLinkCmds_link h k ..

theorem State.failureTold_within (s : State) (k : Nat) : s.Within 0x4000000000002018 (s.failureTold k) :=
  fun _ c h => State.event_inv (c.mono rfl) (State.endLinkCmds_inv (c.mono rfl) h)

/-- What a link in FAILED shows. -/
theorem State.trainingFailed_shows (h : s.canon) (k : Nat) : (s.trainingFailed k).linkState k = failedState k ∧
    (s.trainingFailed k).linkF Fld.DP_STATUS_TRAIN_FAIL Fld.SL_STATUS_TRAIN_FAIL k = 1 ∧ (s.trainingFailed k).link k = s.link k := by
  have hstate := State.canon_setLinkState h k (failedState k)
  have hfail := State.canon_setLinkF hstate Fld.DP_STATUS_TRAIN_FAIL Fld.SL_STATUS_TRAIN_FAIL k 1
  refine ⟨?_, ?_, by rw [State.trainingFailed, State.setLinkF_link, State.setLinkF_link, State.setLinkState_link]⟩
  · exact (State.linkState_setLinkF_apart hfail.regsOk).trans ((State.linkState_setLinkF_apart hstate.regsOk).trans
      (State.linkState_setLinkState h (failedState_lt k)))
  · rw [State.trainingFailed, State.linkF_setLinkF_apart hfail.regsOk, State.linkF_setLinkF_same hstate.regsOk rfl rfl]
    split <;> rfl

/-- With no tries left the link is FAILED, unless other settings wait for it. -/
theorem State.attemptFails_fails (h : s.canon) (hphase : (s.link k).trainPhase ≠ 0) (hstate : s.linkState k = 1 ∨ s.linkState k = 4)
    (htries : (s.link k).set.tries ≤ (s.link k).tries + 1) (hagain : (s.link k).again = false) :
    (s.attemptFails k).linkState k = failedState k ∧
      (s.attemptFails k).linkF Fld.DP_STATUS_TRAIN_FAIL Fld.SL_STATUS_TRAIN_FAIL k = 1 ∧ ((s.attemptFails k).link k).trainPhase = 0 := by
  have hc := State.canon_failureCounted h k
  have hlink := State.failureCounted_link h k
  have hlast : ((s.failureCounted k).link k).set.tries ≤ ((s.failureCounted k).link k).tries := by
    rw [hlink]
    exact htries
  have hcf := State.canon_trainingFailed hc k
  obtain ⟨hfailed, hshown, hkept⟩ := State.trainingFailed_shows hc k
  have htold := State.failureTold_link hcf k
  rw [hkept, hlink] at htold
  have hnot : ¬ ((((s.failureCounted k).trainingFailed k).failureTold k).link k).again = true := by
    rw [htold.again, Link.failedOnce, hagain]
    exact Bool.false_ne_true
  rw [State.attemptFails_eq h hphase hstate, State.nextAttempt, if_pos hlast, if_neg hnot]
  have hw := ((s.failureCounted k).trainingFailed k).failureTold_within k
  exact ⟨(hw.linkState hcf.regsOk k).trans hfailed, (hw.linkF hcf.regsOk k).trans hshown, htold.trainPhase⟩

end Sys2Proof.Machine

/-!
SUPPORT. The frame lock of a group, its tuning rounds, and the first flit of an active period (R248, R265, R266, R270).
-/
namespace Sys2Proof.Machine
variable {s t u : State} {k v g : Nat}

/-! ### Frame lock -/

/-- A group's link as it enters frame lock, n the number of the equaliser's adaptation. -/
def Link.locked (n : Nat) (l : Link) : Link :=
  { l with trainPhase := 3, badFrames := [], txScr := 2 ^ 31 - 1, rxScr := 2 ^ 31 - 1, slotQ := [], dfe := some n }

/-- The markers are found on every lane. -/
def State.lanesLocked (s : State) (g : Nat) : State := s.each (List.range 4) fun s l => s.setF Fld.SL_LANE_FRAME_LOCK (4 * g + l) 1

/-- The CTLE's setting in use: a fixed one, or one that the training chose. -/
def State.ctleShown (s : State) (g : Nat) : State :=
  match (s.link (16 + g)).set.ctle with
  | some v => s.setF Fld.SL_RXEQ_CTLE_USED g v
  | none => (s.setF Fld.SL_RXEQ_CTLE_USED g ((Config.freeWord s.fresh).toNat % 16)).drawn

/-- A group at frame lock, before its state changes. -/
def State.lockTaken (s : State) (g : Nat) : State := (((s.updLink (16 + g) (Link.locked s.fresh)).drawn).lanesLocked g).ctleShown g

theorem State.frameLock_eq (haligning : s.aligning g = true) (hsteady : (s.link (16 + g)).steady = true)
    (hlanes : ∀ i, i < 4 → s.f Fld.SL_LANE_ALIGNED (4 * g + i) = 1) :
    s.frameLock g = if (s.lockTaken g).linkState (16 + g) = failedState (16 + g) then s.lockTaken g
      else (s.lockTaken g).setLinkState (16 + g) 2 := by
  have hall : (List.range 4).all (fun l => decide (s.f Fld.SL_LANE_ALIGNED (4 * g + l) = 1)) = true :=
    List.all_eq_true.2 fun i hi => decide_eq_true (hlanes i (List.mem_range.1 hi))
  exact (if_pos ⟨haligning, hsteady, hall⟩).trans rfl

theorem State.lanesLocked_within (s : State) (g : Nat) :
    s.Within 0x400000000000000000000000000000000000000000000000000 (s.lanesLocked g) :=
  fun _ c h => foldl_p (fun _ _ k => c.setF rfl k) h

theorem State.ctleShown_cases (s : State) (g : Nat) :
    ∃ v, s.ctleShown g = s.setF Fld.SL_RXEQ_CTLE_USED g v ∨ s.ctleShown g = (s.setF Fld.SL_RXEQ_CTLE_USED g v).drawn := by
  rw [State.ctleShown]
  split
  · exact ⟨_, .inl rfl⟩
  · exact ⟨_, .inr rfl⟩

theorem State.canon_drawn (h : s.canon) : s.drawn.canon := { h with }

theorem State.ctleShown_keeps (h : s.canon) (g : Nat) : (s.ctleShown g).canon ∧ (s.ctleShown g).links = s.links ∧
    ∀ {F : Field} (j : Nat), Fld.SL_RXEQ_CTLE_USED.apart F = true → (s.ctleShown g).f F j = s.f F j := by
  obtain ⟨v, heq | heq⟩ := s.ctleShown_cases g <;> rw [heq]
  · exact ⟨State.canon_setF h .., rfl, fun j hF => State.f_setF_apart h.regsOk hF ..⟩
  · exact ⟨State.canon_drawn (State.canon_setF h ..), rfl, fun j hF => State.f_setF_apart h.regsOk hF ..⟩

/-- Every lane of a locked group shows it. -/
theorem State.lanesLocked_shows (h : s.regsOk) {i : Nat} (hi : i < 4) : (s.lanesLocked g).f Fld.SL_LANE_FRAME_LOCK (4 * g + i) = 1 := by
  obtain ⟨t, ht, -, hafter⟩ := State.each_instance (Q := State.regsOk) (read := fun t j => t.rd .SL_LANE (4 * g + j))
    (f := fun t l => t.setF Fld.SL_LANE_FRAME_LOCK (4 * g + l) 1) (fun t _ ht => State.regsOk_setF ht ..) List.nodup_range
    (fun t ht a ha b hb hab => State.rd_wr_inst ht _ (lane_ne (List.mem_range.1 ha) (List.mem_range.1 hb) hab) _) h (List.mem_range.2 hi)
  exact (State.f_of_rd (F := Fld.SL_LANE_FRAME_LOCK) rfl hafter).trans (State.f_setF_same ht _ rfl _ _)

/-- What frame lock leaves (R261, R265, R266). -/
theorem State.lockTaken_shows (h : s.canon) (g : Nat) : (s.lockTaken g).canon ∧
    (s.lockTaken g).link (16 + g) = (s.link (16 + g)).locked s.fresh ∧
    (s.lockTaken g).linkState (16 + g) = s.linkState (16 + g) ∧
    ∀ i, i < 4 → (s.lockTaken g).f Fld.SL_LANE_FRAME_LOCK (4 * g + i) = 1 := by
  have hdrawn := State.canon_drawn (State.canon_updLink h (16 + g) (Link.locked s.fresh))
  have hw := ((s.updLink (16 + g) (Link.locked s.fresh)).drawn).lanesLocked_within g
  obtain ⟨hcanon, hlinks, hf⟩ := State.ctleShown_keeps (hw.canon hdrawn) g
  refine ⟨hcanon, ?_, ?_, fun i hi => (hf _ rfl).trans (State.lanesLocked_shows hdrawn.regsOk hi)⟩
  · calc (s.lockTaken g).link (16 + g)
      _ = (((s.updLink (16 + g) (Link.locked s.fresh)).drawn).lanesLocked g).link (16 + g) :=
        congrArg (fun ls => mget (fun _ => ({} : Link)) ls (16 + g)) hlinks
      _ = (s.updLink (16 + g) (Link.locked s.fresh)).link (16 + g) := hw.link (16 + g)
      _ = (s.link (16 + g)).locked s.fresh := State.link_updLink_same h (16 + g) _
  · rw [State.linkState_eq_linkF, State.linkState_eq_linkF]
    exact (State.linkF_of_f (hf _ rfl) (hf _ rfl)).trans (hw.linkF hdrawn.regsOk (16 + g))

theorem State.frameLock_shows (h : s.canon) (haligning : s.aligning g = true) (hsteady : (s.link (16 + g)).steady = true)
    (hlanes : ∀ i, i < 4 → s.f Fld.SL_LANE_ALIGNED (4 * g + i) = 1) :
    (s.frameLock g).link (16 + g) = (s.link (16 + g)).locked s.fresh ∧
    (s.linkState (16 + g) ≠ 6 → (s.frameLock g).linkState (16 + g) = 2) ∧
    ∀ i, i < 4 → (s.frameLock g).f Fld.SL_LANE_FRAME_LOCK (4 * g + i) = 1 := by
  obtain ⟨hcanon, hlink, hstate, hlock⟩ := State.lockTaken_shows h g
  have hfailed : failedState (16 + g) = 6 := if_neg (Nat.not_lt.2 (Nat.le_add_right 16 g))
  rw [State.frameLock_eq haligning hsteady hlanes, hstate, hfailed]
  split
  case isTrue hs => exact ⟨hlink, fun hne => absurd hs hne, hlock⟩
  case isFalse =>
    refine ⟨(State.setLinkState_link _).trans hlink, fun _ => State.linkState_setLinkState hcanon (by decide), fun i hi => ?_⟩
    have hset := State.canon_setLinkF hcanon Fld.DP_STATUS_STATE Fld.SL_STATUS_STATE (16 + g) 2
    exact (State.setLinkState_within.f hset.regsOk _).trans ((State.f_setLinkF_apart hcanon.regsOk).trans (hlock i hi))

/-! ### Flits on the wire -/

/-- A flit that leaves is the last one sent. -/
theorem State.onWire_link (h : s.canon) (k : Nat) (f : Flit) :
    (s.onWire k f).link k = { s.link k with
      lastSent := f.seal k :: (s.link k).lastSent
      slotQ := if isGroup k then (s.link k).slotQ ++ [f.seal k] else (s.link k).slotQ } :=
  State.link_updLink_same h k _

theorem Flit.seal_kind (f : Flit) (k : Nat) : (f.seal k).kind = f.kind := by
  rw [Flit.seal]
  split <;> rfl

/-- One of the rounds of a tuning: a TEQ flit that asks for something (R265). -/
theorem State.ffeRound_eq (hphase : (s.link (16 + g)).trainPhase = 3) (htune : (s.link (16 + g)).set.tune = true)
    (hrounds : (s.link (16 + g)).rounds < 16) (hsent : (s.link (16 + g)).initSent = false) (m : List Nat) :
    s.ffeRound g m = (s.updLink (16 + g) fun l => { l with rounds := l.rounds + 1 }).onWire (16 + g)
      { kind := 7, seq := (s.link (16 + g)).txSeq, bytes := fit 0 240 (m.map (BitVec.ofNat 8)) } :=
  if_pos ⟨hphase, htune, hrounds, by rw [hsent]; rfl⟩

/-! ### The first flit -/

theorem State.sendFirst_within (s : State) (k : Nat) : s.Within 0x2000 (s.sendFirst k) := fun _ c h => State.sendFirst_inv c h

/-- The first flit of an active period is INIT of a fresh link, else RESYNC (R248). -/
theorem State.sendFirst_link (h : s.canon) (k : Nat) : ((s.sendFirst k).link k).initSent = true ∧
    ((s.sendFirst k).link k).lastSent.head?.map (·.kind) = some (if (s.link k).fresh then 2 else 3) := by
  have hc := State.canon_updLink h k fun l => { l with initSent := true }
  rw [State.sendFirst, State.onWire_link hc, State.link_updLink_same h]
  refine ⟨rfl, congrArg some ((Flit.seal_kind _ k).trans ?_)⟩
  split <;> rfl

/-- A link that has reached the active state at a rate and enters INIT; a group shows whether it is raw. -/
def State.initEntered (s : State) (k rate : Nat) : State :=
  let t := s.setLinkF Fld.DP_STATUS_RATE Fld.SL_STATUS_RATE k rate
  (if isGroup k then t.setF Fld.SL_STATUS_RAW (k - 16) (if (s.link k).set.raw then 1 else 0) else t).setLinkState k 2

/-- A link in INIT, whose peer's INIT counts only where the link keeps its books. -/
def State.peerAwaited (s : State) (k valid : Nat) : State :=
  ((s.updLink k fun l => { l with rawTx := {}, rawRx := {}, rawIn := [], rawGot := false }).setLinkF Fld.DP_STATUS_PEER_INIT
    Fld.SL_STATUS_PEER_INIT k valid).setLinkF Fld.DP_PEER_VALID Fld.SL_PEER_VALID k valid

theorem State.adapterActive_eq (hphase : (s.link k).trainPhase = if 16 ≤ k then 3 else 1) (hsent : (s.link k).initSent = false)
    (hforced : (s.link k).forced = false) (hrcvd : (s.link k).initRcvd = false) (rate : Nat)
    (hraw : (s.initEntered k (if 16 ≤ k then (s.link k).set.rate else min rate (s.link k).set.rate)).rawOn k = false) :
    s.adapterActive k rate = ((s.initEntered k (if 16 ≤ k then (s.link k).set.rate else min rate (s.link k).set.rate)).peerAwaited k
      (if (s.link k).fresh then 0 else 1)).sendFirst k := by
  have hgroup {α : Type} (a b : α) : (if isGroup k = true then a else b) = if 16 ≤ k then a else b := by simp only [isGroup_iff]
  have hnot : ¬ ((s.link k).trainPhase ≠ (if isGroup k = true then 3 else 1) ∨ (s.link k).initSent = true ∨
      (s.link k).forced = true) := by
    rw [hgroup, hsent, hforced]
    simp [hphase]
  rw [← hgroup] at hraw ⊢
  refine (if_neg hnot).trans ((if_neg (Bool.eq_false_iff.1 hraw)).trans ?_)
  exact if_neg (Bool.eq_false_iff.1 hrcvd)

/-- In u, link k of s is in INIT at its rate and, of a group, without raw mode. -/
structure State.InInit (s : State) (k rate : Nat) (u : State) : Prop where
  canon : u.canon
  link : u.link k = s.link k
  state : u.linkState k = 2
  rawOff : u.rawOn k = false
  rate : u.linkF Fld.DP_STATUS_RATE Fld.SL_STATUS_RATE k =
    rate % 2 ^ (if 16 ≤ k then Fld.SL_STATUS_RATE.width else Fld.DP_STATUS_RATE.width)

theorem State.initEntered_inInit (h : s.canon) (hraw : 16 ≤ k → (s.link k).set.raw = false) (rate : Nat) :
    s.InInit k rate (s.initEntered k rate) := by
  have hrate := State.canon_setLinkF h Fld.DP_STATUS_RATE Fld.SL_STATUS_RATE k rate
  have hshown := State.linkF_setLinkF_same (v := rate) (k := k) h.regsOk (D := Fld.DP_STATUS_RATE) (S := Fld.SL_STATUS_RATE) rfl rfl
  rcases Nat.lt_or_ge k 16 with hk | hk
  · have hport : ¬ isGroup k = true := mt isGroup_iff.1 (Nat.not_le.2 hk)
    rw [State.initEntered, if_neg hport]
    refine ⟨State.canon_setLinkState hrate .., by rw [State.setLinkState_link, State.setLinkF_link],
      State.linkState_setLinkState hrate (by decide), ?_,
      (State.linkF_setLinkState_apart (D := Fld.DP_STATUS_RATE) (S := Fld.SL_STATUS_RATE) hrate).trans hshown⟩
    rw [State.rawOn, Bool.eq_false_iff.2 hport, Bool.false_and]
  · have hset := State.canon_setF hrate Fld.SL_STATUS_RAW (k - 16) 0
    rw [State.initEntered, if_pos (isGroup_iff.2 hk), hraw hk]
    refine ⟨State.canon_setLinkState hset .., ?_, State.linkState_setLinkState hset (by decide), ?_,
      (State.linkF_setLinkState_apart (D := Fld.DP_STATUS_RATE) (S := Fld.SL_STATUS_RATE) hset).trans
        ((State.linkF_setF_apart hrate.regsOk).trans hshown)⟩
    · exact (State.setLinkState_link k).trans (State.setLinkF_link k)
    · have hoff : ((s.setLinkF Fld.DP_STATUS_RATE Fld.SL_STATUS_RATE k rate).setF Fld.SL_STATUS_RAW (k - 16) 0).f Fld.SL_STATUS_RAW
          (k - 16) = 0 := (State.f_setF_same hrate.regsOk _ rfl ..).trans (Nat.zero_mod _)
      have hentered := (State.setLinkState_within (k := k) (v := 2)).f (F := Fld.SL_STATUS_RAW)
        (State.canon_setLinkF hset ..).regsOk (k - 16)
      have hclear := hentered.trans ((State.f_setLinkF_apart hset.regsOk).trans hoff)
      exact Bool.and_eq_false_iff.2 (.inr (decide_eq_false fun hone => Nat.zero_ne_one (hclear.symm.trans hone)))

/-- A link that trains without raw mode sends its first flit and waits for the peer's (R248, R270). -/
theorem State.adapterActive_shows (h : s.canon) (hphase : (s.link k).trainPhase = if 16 ≤ k then 3 else 1)
    (hsent : (s.link k).initSent = false) (hforced : (s.link k).forced = false) (hrcvd : (s.link k).initRcvd = false)
    (hraw : 16 ≤ k → (s.link k).set.raw = false) (rate : Nat) :
    (s.adapterActive k rate).linkState k = 2 ∧ ((s.adapterActive k rate).link k).initSent = true ∧
    ((s.adapterActive k rate).link k).lastSent.head?.map (·.kind) = some (if (s.link k).fresh then 2 else 3) ∧
    (s.adapterActive k rate).linkF Fld.DP_STATUS_RATE Fld.SL_STATUS_RATE k =
      (if 16 ≤ k then (s.link k).set.rate else min rate (s.link k).set.rate) %
        2 ^ (if 16 ≤ k then Fld.SL_STATUS_RATE.width else Fld.DP_STATUS_RATE.width) := by
  obtain ⟨hc, hlink, hstate, hoff, hshown⟩ :=
    State.initEntered_inInit h hraw (if 16 ≤ k then (s.link k).set.rate else min rate (s.link k).set.rate)
  rw [State.adapterActive_eq hphase hsent hforced hrcvd rate hoff]
  generalize s.initEntered k _ = t at hc hlink hstate hshown
  generalize (if (s.link k).fresh = true then 0 else 1) = valid
  have hupd {G : Link → Link} : (t.updLink k G).canon := State.canon_updLink hc k G
  have hpeer {G : Link → Link} : ((t.updLink k G).setLinkF Fld.DP_STATUS_PEER_INIT Fld.SL_STATUS_PEER_INIT k valid).canon :=
    State.canon_setLinkF hupd ..
  have hawaited : (t.peerAwaited k valid).canon := State.canon_setLinkF hpeer ..
  have hfresh : ((t.peerAwaited k valid).link k).fresh = (s.link k).fresh := by
    rw [State.peerAwaited, State.setLinkF_link, State.setLinkF_link, State.link_updLink_same hc, hlink]
  have hw := (t.peerAwaited k valid).sendFirst_within k
  obtain ⟨hinit, hkind⟩ := State.sendFirst_link hawaited k
  refine ⟨?_, hinit, hfresh ▸ hkind, ?_⟩
  · exact (hw.linkState hawaited.regsOk k).trans ((State.linkState_setLinkF_apart hpeer.regsOk).trans
      ((State.linkState_setLinkF_apart hupd.regsOk).trans hstate))
  · exact (hw.linkF hawaited.regsOk k).trans ((State.linkF_setLinkF_apart hpeer.regsOk).trans
      ((State.linkF_setLinkF_apart hupd.regsOk).trans hshown))

end Sys2Proof.Machine

/-!
SUPPORT. What the commands of training, retraining and holds do to a link, and the statement on them (R248, R249, R251, R258, R263,
R265, R266, R271, R280).
-/
namespace Sys2Proof.Machine
variable {s t u : State} {k v g : Nat}

/-! ### Retraining -/

/-- What a retraining leaves, part by part. -/
theorem State.Retrained.parts (hu : s.Retrained k u) : u.linkState k = 4 ∧ (u.link k).outst = zero4 ∧ (u.link k).rel = zero4 ∧
    (u.link k).escTx = add4 (s.link k).escTx (s.link k).outst ∧ (u.link k).escRx = add4 (s.link k).escRx (s.link k).rel ∧
    (u.link k).replay = (s.link k).replay ∧
    u.linkF Fld.DP_TRAIN_COUNT_RETRAINS Fld.SL_TRAIN_COUNT_RETRAINS k =
      (s.linkF Fld.DP_TRAIN_COUNT_RETRAINS Fld.SL_TRAIN_COUNT_RETRAINS k + 1) % 65536 := by
  obtain ⟨hstate, ⟨houtst, hrel, hescTx, hescRx, hreplay⟩, hcounted⟩ := hu
  exact ⟨hstate, houtst, hrel, hescTx, hescRx, hreplay, hcounted⟩

theorem exec_dpCtrlRetrain_of_active (h : s.canon) (hup : s.linkActive k = true) :
    ∃ u, exec (.dpCtrlRetrain k) s = .next u ∧ s.Retrained k u := by
  refine ⟨_, congrArg Host.Outcome.next (if_pos ?_), State.startRetrain_setF_retrained h hup ..⟩
  rw [hup, Bool.true_or]

theorem exec_slCtrlRetrain_of_active (h : s.canon) (hup : s.linkActive (16 + g) = true) :
    ∃ u, exec (.slCtrlRetrain g) s = .next u ∧ s.Retrained (16 + g) u :=
  ⟨_, congrArg Host.Outcome.next (if_pos hup), State.startRetrain_setF_retrained h hup ..⟩

theorem exec_dpCtrlRetrain_of_notUp (hactive : s.linkState k ≠ 3) (hl1 : s.linkState k ≠ 5) :
    exec (.dpCtrlRetrain k) s = .next (s.setF Fld.DP_CTRL_RETRAIN k 1) := by
  refine congrArg Host.Outcome.next (if_neg ?_)
  rw [State.linkActive, decide_eq_false hactive, decide_eq_false hl1]
  exact Bool.false_ne_true

theorem exec_slCtrlRetrain_of_notActive (hactive : s.linkState (16 + g) ≠ 3) :
    exec (.slCtrlRetrain g) s = .next (s.setF Fld.SL_CTRL_RETRAIN g 1) :=
  congrArg Host.Outcome.next (if_neg (mt of_decide_eq_true hactive))

theorem exec_portMainbandStop_of_unacked (h : s.canon) (href : s.refLost = true) (hup : s.linkActive k = true)
    (hreplay : (s.link k).replay ≠ []) : ∃ u, exec (.portMainbandStop k) s = .next u ∧ s.Retrained k u ∧
      (u.link k).retrainAfterRef = true := by
  have hstops : (s.refLost && s.linkActive k && !(s.link k).replay.isEmpty) = true := by
    rw [href, hup, Bool.true_and, Bool.true_and, Bool.not_eq_true', List.isEmpty_eq_false_iff]
    exact hreplay
  have hc := (s.startRetrain_within k).canon h
  refine ⟨_, congrArg Host.Outcome.next (if_pos hstops), (State.startRetrain_retrained h hup).updLink hc fun hb => { hb with }, ?_⟩
  rw [State.link_updLink_same hc]

/-- A forwarded clock that stops with nothing announced retrains the group (R271). -/
theorem exec_forwardedClockStop_of_unannounced (hrx : s.rxState (16 + g) < 2)
    (hseen : ∀ v, (s.link (16 + g)).pmSeen = some v → v < 2) :
    exec (.forwardedClockStop g) s = .next (s.startRetrain (16 + g)) := by
  have hon : (decide (s.rxState (16 + g) = 2) || decide (s.rxState (16 + g) = 3)) = false := by
    rw [decide_eq_false (by omega), decide_eq_false (by omega)]
    rfl
  refine congrArg Host.Outcome.next ((if_neg (Bool.eq_false_iff.1 hon)).trans ?_)
  cases hpm : (s.link (16 + g)).pmSeen with
  | none => rfl
  | some v => exact if_neg (Nat.not_le.2 (hseen v hpm))

/-- A counter that the link's own registers do not hold counts before the retraining. -/
theorem State.startRetrain_inc_counts (h : s.canon) (F : Field) (i n : Nat) (hF : F.ok = true := by rfl)
    (hm : Nat.testBit 0x1e020000000000004800c40c0000000000000000000000000000000000000002022 (24 + F.reg.ctorIdx) = false := by rfl) :
    ((s.inc F i n).startRetrain k).f F i = min (s.f F i + n) F.top :=
  (((s.inc F i n).startRetrain_within k).f (State.canon_inc h F i n).regsOk i hm).trans (State.f_inc_same h.regsOk F hF i n)

theorem exec_adapterRetryFailure_of_active (h : s.canon) (hup : s.linkActive k = true) (n : Nat) :
    ∃ u, exec (.adapterRetryFailure k n) s = .next u ∧ s.Retrained k u ∧
      u.f Fld.DP_RETRY_COUNT_COUNT k = min (s.f Fld.DP_RETRY_COUNT_COUNT k + n) Fld.DP_RETRY_COUNT_COUNT.top :=
  ⟨_, rfl, State.startRetrain_setF_retrained h hup .., State.startRetrain_inc_counts h Fld.DP_RETRY_COUNT_COUNT k n⟩

theorem exec_laneFault_of_active (h : s.canon) (hup : s.linkActive k = true) (lane : Nat) (tx : Bool) :
    ∃ u, exec (.laneFault k lane tx) s = .next u ∧ s.Retrained k u ∧
      u.f (if tx then Fld.DP_REPAIR_TX_USED else Fld.DP_REPAIR_RX_USED) k =
        min (s.f (if tx then Fld.DP_REPAIR_TX_USED else Fld.DP_REPAIR_RX_USED) k + 1)
          (if tx then Fld.DP_REPAIR_TX_USED else Fld.DP_REPAIR_RX_USED).top := by
  cases tx with
  | false => exact ⟨_, rfl, State.startRetrain_setF_retrained h hup .., State.startRetrain_inc_counts h Fld.DP_REPAIR_RX_USED k 1⟩
  | true => exact ⟨_, rfl, State.startRetrain_setF_retrained h hup .., State.startRetrain_inc_counts h Fld.DP_REPAIR_TX_USED k 1⟩

/-- The limit of a drain for a change of the receive depths: the link retrains, and the retraining ends with INIT (R249, R271). -/
theorem exec_replayBufferDrainLimit_of_depthChange (h : s.canon) (hup : s.linkActive k = true)
    (hhold : (s.link k).holdAfterDrain = false) (hdepth : (s.link k).depthChange = true) :
    ∃ u, exec (.replayBufferDrainLimit k) s = .next u ∧ s.Retrained k u ∧ (u.link k).fresh = true := by
  have heq : s.drainLimit10 k = s.startRetrain k :=
    (if_neg (Bool.eq_false_iff.1 hhold)).trans ((if_neg (by rw [hup]; decide)).trans (if_pos hdepth))
  exact ⟨_, congrArg Host.Outcome.next heq, State.startRetrain_retrained h hup, State.startRetrain_fresh h hup hdepth⟩

/-! ### Attempts -/

theorem exec_trainingFailure_of_limited (hlimited : (s.link k).trainPhase ≠ 2 ∨ (s.link k).set.manual = false) :
    exec (.trainingFailure k) s = .next (s.attemptFails k) := by
  refine congrArg Host.Outcome.next (if_neg fun hmanual => ?_)
  obtain ⟨hphase, hset⟩ := Bool.and_eq_true_iff.1 hmanual
  exact hlimited.elim (· (of_decide_eq_true hphase)) fun hoff => Bool.false_ne_true (hoff.symm.trans hset)

/-- Manual alignment suspends the limit of an attempt (R266). -/
theorem exec_trainingFailure_of_manual (hphase : (s.link k).trainPhase = 2) (hmanual : (s.link k).set.manual = true) :
    exec (.trainingFailure k) s = .next s :=
  congrArg Host.Outcome.next (if_pos (Bool.and_eq_true_iff.2 ⟨decide_eq_true hphase, hmanual⟩))

theorem exec_ffeTuningRound_of_tuning (h : s.canon) (hphase : (s.link (16 + g)).trainPhase = 3)
    (htune : (s.link (16 + g)).set.tune = true) (hrounds : (s.link (16 + g)).rounds < 16) (hsent : (s.link (16 + g)).initSent = false)
    (m : List Nat) : ∃ u, exec (.ffeTuningRound g m) s = .next u ∧ (u.link (16 + g)).rounds = (s.link (16 + g)).rounds + 1 ∧
      (u.link (16 + g)).lastSent.head? = some
        (({ kind := 7, seq := (s.link (16 + g)).txSeq, bytes := fit 0 240 (m.map (BitVec.ofNat 8)) } : Flit).seal (16 + g)) ∧
      u.regs = s.regs := by
  refine ⟨_, congrArg Host.Outcome.next (State.ffeRound_eq hphase htune hrounds hsent m), ?_⟩
  rw [State.onWire_link (State.canon_updLink h ..), State.link_updLink_same h]
  exact ⟨rfl, rfl, rfl⟩

/-! ### The statement -/

/-- Settles O46: a retraining from ACTIVE is one lemma, cited by every clause in which one starts, and a check of the alignment search
treats each lane by itself. -/
theorem linksTrainRetrainAndHold : Obligations.LinksTrainRetrainAndHold := by
  intro s k hs _ hk l g retrained
  have hretrained {u : State} (hu : s.Retrained k u) : retrained u := hu.parts
  have hgroup (hk16 : 16 ≤ k) : 16 + g = k := Nat.add_sub_cancel' hk16
  refine ⟨?attempt, ?retry, ?alignment, ?lock, ?tuning, ?active, ?failure, ?dpRetrain, ?slRetrain, ?dpNotUp, ?slNotUp, ?hold, ?release,
    ?slip, ?drainHold, ?drainDepth, ?mainband, ?clock, ?adapter, ?lane⟩
  case attempt =>
    intro hstate hphase href
    obtain ⟨hbegun, hkept⟩ := State.trainingAttempt_attempts hs hstate hphase href
    exact ⟨_, rfl, hbegun.phase, hbegun.checks, hbegun.initSent, hkept⟩
  case retry =>
    intro hstate hphase hmay
    obtain ⟨hbegun, hkept⟩ := State.failedRetry_attempts hs hstate hphase hmay
    exact ⟨_, rfl, hbegun.phase, hkept.trans hstate⟩
  case alignment =>
    intro hk16 hphase hmanual hchecks m hm
    clear_value g
    obtain rfl := hgroup hk16
    obtain ⟨hlink, -⟩ := State.alignmentCheck_lanes hs hphase hmanual hchecks m
    refine ⟨_, rfl, congrArg Link.checks hlink, congrArg Link.trainPhase hlink, fun i hi =>
      ⟨fun hfound => ?_, fun hnot hbefore => ?_, fun hnot hbefore => ?_⟩⟩
    · have hshown := State.alignmentCheck_found hs hphase hmanual hchecks hi (.inr hfound) (hm i hi)
      rwa [if_pos hfound] at hshown
    · have hshown := State.alignmentCheck_found hs hphase hmanual hchecks hi (.inl hbefore) (hm i hi)
      rwa [if_neg (Nat.not_le.2 hnot)] at hshown
    · exact State.alignmentCheck_slips hs hphase hmanual hchecks hi hbefore hnot
  case lock =>
    intro hk16 haligning hsteady hlanes
    clear_value g
    obtain rfl := hgroup hk16
    obtain ⟨hlink, hstate, hlock⟩ := State.frameLock_shows hs haligning hsteady hlanes
    refine ⟨_, rfl, ?_, ?_, ?_, hstate, hlock⟩ <;> rw [hlink, Link.locked]
  case tuning =>
    intro hk16 hphase htune hrounds hsent m
    clear_value g
    obtain rfl := hgroup hk16
    exact exec_ffeTuningRound_of_tuning hs hphase htune hrounds hsent m
  case active =>
    intro hphase hsent hforced hrcvd hraw rate _ _
    exact ⟨_, rfl, State.adapterActive_shows hs hphase hsent hforced hrcvd hraw rate⟩
  case failure =>
    intro hphase hstate
    refine ⟨exec_trainingFailure_of_manual, fun hlimited htries => ?_, fun hlimited htries hagain => ?_⟩
    · exact ⟨_, exec_trainingFailure_of_limited hlimited, State.attemptFails_retries hs hphase hstate htries⟩
    · exact ⟨_, exec_trainingFailure_of_limited hlimited, State.attemptFails_fails hs hphase hstate htries hagain⟩
  case dpRetrain =>
    intro _ hup
    obtain ⟨u, hu, hre⟩ := exec_dpCtrlRetrain_of_active hs hup
    exact ⟨u, hu, hretrained hre⟩
  case slRetrain =>
    intro hk16 hup
    rw [← hgroup hk16] at hup
    obtain ⟨u, hu, hre⟩ := exec_slCtrlRetrain_of_active hs hup
    exact ⟨u, hu, hretrained (hgroup hk16 ▸ hre)⟩
  case dpNotUp => exact fun _ => exec_dpCtrlRetrain_of_notUp
  case slNotUp =>
    intro hk16 hactive
    rw [← hgroup hk16] at hactive
    exact exec_slCtrlRetrain_of_notActive hactive
  case hold =>
    refine ⟨fun hport hup => ?_, fun hk16 hup => ?_⟩
    · obtain ⟨hhold, hdown, hwaits⟩ := State.holdDown_held hs hup
      exact ⟨_, rfl, (State.linkF_of_port hport).symm.trans hhold, hdown, hwaits⟩
    · obtain ⟨hhold, hdown, hwaits⟩ := State.holdDown_held hs hup
      refine ⟨s.holdDown k, ?_, (State.linkF_of_group hk16).symm.trans hhold, hdown, hwaits⟩
      rw [← hgroup hk16]
      rfl
  case release =>
    intro hheld hmay hreplaying hresuming
    obtain ⟨htrains, hfree⟩ := State.releaseHold_trains hs hheld hmay hreplaying hresuming
    refine ⟨fun hport => ⟨_, rfl, htrains, (State.linkF_of_port hport).symm.trans hfree⟩, fun hk16 =>
      ⟨s.releaseHold k, ?_, htrains, (State.linkF_of_group hk16).symm.trans hfree⟩⟩
    rw [← hgroup hk16]
    rfl
  case slip =>
    intro _ i hi haligning
    have hset := State.canon_setF hs Fld.SL_CTRL_LANE g i
    obtain ⟨hslips, hmatch, haligned⟩ := State.slipLane_fields (g := g) (lane := i) hset.regsOk haligning hi
    rw [State.f_setF_apart hs.regsOk rfl] at hslips
    exact ⟨_, rfl, hslips, hmatch, haligned⟩
  case drainHold => exact fun hhold => ⟨_, rfl, State.linkState_drainLimit10 hs hhold⟩
  case drainDepth =>
    intro hup hhold hdepth
    obtain ⟨u, hu, hre, hfresh⟩ := exec_replayBufferDrainLimit_of_depthChange hs hup hhold hdepth
    exact ⟨u, hu, hretrained hre, hfresh⟩
  case mainband =>
    intro _ href hup hreplay
    obtain ⟨u, hu, hre, hafter⟩ := exec_portMainbandStop_of_unacked hs href hup hreplay
    exact ⟨u, hu, hretrained hre, hafter⟩
  case clock =>
    intro hk16 hup hrx hseen
    refine ⟨s.startRetrain k, ?_, hretrained (State.startRetrain_retrained hs hup)⟩
    clear_value g
    obtain rfl := hgroup hk16
    exact exec_forwardedClockStop_of_unannounced hrx hseen
  case adapter =>
    intro _ hup n
    obtain ⟨u, hu, hre, hcount⟩ := exec_adapterRetryFailure_of_active hs hup n
    exact ⟨u, hu, hretrained hre, hcount⟩
  case lane =>
    intro _ hup lane tx
    obtain ⟨u, hu, hre, hcount⟩ := exec_laneFault_of_active hs hup lane tx
    exact ⟨u, hu, hretrained hre, hcount⟩

end Sys2Proof.Machine

/-!
SUPPORT. The power states of links: what a transmitter that is idle waits for, its PM flits, and its entry and return (R252, R274).
-/
namespace Sys2Proof.Machine
variable {s t u : State} {k v g : Nat}

/-! ### What an endpoint takes -/

/-- The registers by which a packet is decoded and routed (R149, R157–R160). -/
def routingRegs : List Reg := [.CO_NODE, .CO_ROUTE, .CO_RWIN_CTRL, .CO_RWIN_BASE_LO, .CO_RWIN_BASE_HI]

/-- t routes packets as s does. -/
structure State.RoutesAs (s t : State) : Prop where
  reads : ∀ r ∈ routingRegs, ∀ j, t.rd r j = s.rd r j

theorem State.RoutesAs.f (h : s.RoutesAs t) (F : Field) (j : Nat) (hF : F.reg ∈ routingRegs := by decide) : t.f F j = s.f F j :=
  congrArg F.get (h.reads _ hF j)

theorem State.RoutesAs.node (h : s.RoutesAs t) : t.node = s.node := by
  rw [State.node, State.node, h.f Fld.CO_NODE_VALID, h.f Fld.CO_NODE_NODE]

theorem State.RoutesAs.decodePkt (h : s.RoutesAs t) (p : Packet) : t.decodePkt p = s.decodePkt p := by
  simp only [State.decodePkt, State.decodeRemote, State.routeEp, h.node, h.f Fld.CO_NODE_VALID, h.f Fld.CO_ROUTE_VALID,
    h.f Fld.CO_ROUTE_KIND, h.f Fld.CO_ROUTE_INDEX, h.f Fld.CO_RWIN_CTRL_ENABLE, h.f Fld.CO_RWIN_BASE_LO_BASE,
    h.f Fld.CO_RWIN_BASE_HI_BASE, h.f Fld.CO_RWIN_CTRL_NODE]

theorem State.RoutesAs.forLink (h : s.RoutesAs t) (k : Nat) : t.forLink k = s.forLink k := by
  funext p
  simp only [State.forLink, State.isFor, State.exitOf, h.decodePkt, h.node]

/-- Whether an endpoint takes a packet depends on its buffers and on the packets that it takes. -/
theorem State.takeOn_isSome (hnet : t.net = s.net) (links : List Nat) (vc : Nat) (f : Packet → Bool) :
    (t.takeOn links vc f).isSome = (s.takeOn links vc f).isSome := by
  rw [State.takeOn, State.takeOn]
  induction links.flatMap fun l => [bufKey l vc 0, bufKey l vc 1] with
  | nil => rfl
  | cons b bs ih =>
    have hbuf : t.buf b = s.buf b := by rw [State.buf, State.buf, hnet]
    rw [List.findSome?_cons, List.findSome?_cons, hbuf]
    cases hb : s.buf b with
    | nil => exact ih
    | cons p rest =>
      by_cases hf : f p = true
      · simp only [hf, if_true]
        rfl
      · simp only [hf]
        exact ih

/-- Whether bytes are ready for a link depends on its record, on the corridor and on the routes. -/
theorem State.bytesReady_of_eq (hroutes : s.RoutesAs t) (hnet : t.net = s.net) (hlink : t.link k = s.link k) :
    t.bytesReady k = s.bytesReady k := by
  simp only [State.bytesReady, hlink, hroutes.forLink, State.takeOn_isSome hnet]

theorem State.routesAs_setF (h : s.regsOk) (F : Field) (i v : Nat) (hF : F.reg ∉ routingRegs := by decide) :
    s.RoutesAs (s.setF F i v) := ⟨fun _ hr j => State.rd_setF_ne h (fun he => hF (he ▸ hr)) i j v⟩

theorem State.txIdle_setF (h : s.regsOk) (F : Field) (i v : Nat) (hF : F.reg ∉ routingRegs := by decide) :
    (s.setF F i v).txIdle k = s.txIdle k := by
  rw [State.txIdle, State.txIdle, State.bytesReady_of_eq (State.routesAs_setF h F i v hF) rfl rfl]
  rfl

/-! ### PM flits -/

/-- The PM flits that a link has sent, the last one first. -/
def State.pmSent (s : State) (k : Nat) : List Flit := (s.link k).lastSent.filter fun f => f.kind == 5

theorem State.onWire_pmSent (h : s.canon) {f : Flit} (hf : (f.kind == 5) = false := by rfl) : (s.onWire k f).pmSent k = s.pmSent k := by
  rw [State.pmSent, State.onWire_link h]
  exact List.filter_cons_of_neg (by rw [Flit.seal_kind, hf]; exact Bool.false_ne_true)

theorem State.updLink_pmSent (h : s.canon) {G : Link → Link} (hG : ∀ l, (G l).lastSent = l.lastSent) :
    (s.updLink k G).pmSent k = s.pmSent k := by
  rw [State.pmSent, State.link_updLink_same h, hG]
  rfl

theorem State.fillFlit_pmSent (h : s.canon) : (s.fillFlit k).pmSent k = s.pmSent k := by
  rw [State.fillFlit]
  split
  · exact (State.onWire_pmSent (State.canon_updLink h ..)).trans (State.updLink_pmSent h fun _ => rfl)
  · split
    · exact State.onWire_pmSent h
    · exact State.onWire_pmSent h

/-- A state that is canonical and in which link k has sent the PM flits l. -/
structure State.PmSent (k : Nat) (l : List Flit) (s : State) : Prop where
  canon : s.canon
  sent : s.pmSent k = l

theorem State.PmSent.updLink {l : List Flit} (h : s.PmSent k l) {G : Link → Link} (hG : ∀ l, (G l).lastSent = l.lastSent) :
    (s.updLink k G).PmSent k l :=
  ⟨State.canon_updLink h.canon .., (State.updLink_pmSent h.canon hG).trans h.sent⟩

theorem State.frameOut_pmSent {l : List Flit} (h : s.PmSent (16 + g) l) (n : Nat) (last : List Flit) :
    (s.frameOut g n last).PmSent (16 + g) l := by
  have hfilled (m : Nat) : (s.each (List.range m) fun s _ => s.fillFlit (16 + g)).PmSent (16 + g) l :=
    foldl_p (fun t _ ht => ⟨State.Within.canon (m := 0x2000) (fun _ c k => State.fillFlit_inv c k) ht.canon,
      (State.fillFlit_pmSent ht.canon).trans ht.sent⟩) h
  have hbefore (m : Nat) : (if s.rawRuns (16 + g) then s else s.each (List.range m) fun s _ => s.fillFlit (16 + g)).PmSent (16 + g) l :=
    ite_p (fun _ => h) fun _ => hfilled m
  exact (hbefore (n - (s.link (16 + g)).slotQ.length)).updLink fun _ => rfl

theorem State.flushSlots_pmSent {l : List Flit} (n : Nat) (h : s.PmSent (16 + g) l) : (s.flushSlots (16 + g) n).PmSent (16 + g) l := by
  induction n generalizing s with
  | zero => exact h
  | succ n ih =>
    refine ite_p (Q := State.PmSent (16 + g) l) (fun _ => h) fun _ => ih ?_
    rw [Nat.add_sub_cancel_left]
    exact State.frameOut_pmSent h 5 []

/-- A frame of a PM flit sends this flit and no other PM flit. -/
theorem State.pmFrame_pmSent {l : List Flit} (h : s.PmSent (16 + g) l) (tx : Nat) (forced : Bool) :
    ∃ f : Flit, f.txState = tx ∧ (s.pmFrame (16 + g) tx forced).PmSent (16 + g) (f :: l) := by
  obtain ⟨f, hkind, htx, heq⟩ : ∃ f : Flit, f.kind = 5 ∧ f.txState = tx ∧ s.pmFrame (16 + g) tx forced =
      (s.frameOut (16 + g - 16) 4 [f]).updLink (16 + g) fun l => { l with lastSent := f :: l.lastSent } := by
    refine ⟨_, Flit.seal_kind _ _, ?_, rfl⟩
    rw [Flit.seal]
    split <;> rfl
  rw [Nat.add_sub_cancel_left] at heq
  obtain ⟨hc, hsent⟩ := State.frameOut_pmSent h 4 [f]
  refine ⟨f, htx, ?_⟩
  rw [heq]
  refine ⟨State.canon_updLink hc .., ?_⟩
  rw [State.pmSent, State.link_updLink_same hc]
  exact (List.filter_cons_of_pos (by rw [hkind]; rfl)).trans (congrArg (f :: ·) hsent)

/-- Two PM flits go before an idle state is entered (R274). -/
theorem State.sendPm_pmSent (h : s.canon) (tx : Nat) (forced : Bool) : (s.sendPm (16 + g) tx forced).canon ∧
    (((s.sendPm (16 + g) tx forced).pmSent (16 + g)).take 2).map (·.txState) = [tx, tx] := by
  obtain ⟨f1, htx1, h1⟩ := State.pmFrame_pmSent (State.flushSlots_pmSent (g := g) (s.link (16 + g)).slotQ.length ⟨h, rfl⟩) tx forced
  obtain ⟨f2, htx2, hc, hsent⟩ := State.pmFrame_pmSent h1 tx forced
  refine ⟨hc, ?_⟩
  rw [State.sendPm, hsent]
  exact congrArg₂ (fun a b => [a, b]) htx2 htx1

end Sys2Proof.Machine

/-!
SUPPORT. The entry of a group's transmitter into an idle state, its return, and L1 of a port (R252, R274).
-/
namespace Sys2Proof.Machine
variable {s t u : State} {k v g : Nat}

theorem State.txState_group : s.txState (16 + g) = s.f Fld.SL_STATUS_TXSTATE g := by
  rw [State.txState, if_pos (isGroup_add g), Nat.add_sub_cancel_left]

/-- A group whose link layer is ACTIVE sends flits unless its lanes are off. -/
theorem State.sendsFlits_of_active (hup : s.linkActive (16 + g) = true) (hraw : s.rawOn (16 + g) = false)
    (hlanes : s.txState (16 + g) ≠ 3) : s.sendsFlits (16 + g) = true := by
  rw [State.sendsFlits, isGroup_add, hup, State.rawRuns, hraw, decide_eq_true hlanes, Bool.and_false]
  rfl

theorem State.txReached_within (s : State) (k : Nat) : s.Within 0x2018 (s.txReached k) := fun _ c h => State.txReached_inv c h

theorem State.pumpLmb_within (s : State) (k : Nat) :
    s.Within 0x60000000000000000000000000000000000000000000000000002000 (s.pumpLmb k) := fun _ c h => State.pumpLmb_inv c h

theorem Link.SameButCmd.lastSent {l t : Link} (h : l.SameButCmd t) : t.lastSent = l.lastSent := by
  have hsent := congrArg Link.lastSent h
  exact hsent

/-- What waits for a transmitter's state hears of it, and no flit goes. -/
theorem State.txReached_setTxState (h : s.canon) {tx : Nat} (htx : tx < 4) :
    ((s.setF Fld.SL_STATUS_TXSTATE g tx).txReached (16 + g)).txState (16 + g) = tx ∧
      ((s.setF Fld.SL_STATUS_TXSTATE g tx).txReached (16 + g)).pmSent (16 + g) = s.pmSent (16 + g) := by
  have hset := State.canon_setF h Fld.SL_STATUS_TXSTATE g tx
  constructor
  · rw [State.txState_group, (State.txReached_within _ _).f hset.regsOk g, State.f_setF_same h.regsOk _ rfl]
    exact Nat.mod_eq_of_lt htx
  · rw [State.pmSent, State.txReached, (State.endLinkCmds_link hset (16 + g) _ 0 [] (16 + g)).lastSent]
    rfl

/-- A transmitter that sends flits enters an idle state after two PM flits that announce it (R274). -/
theorem State.enterTx_enters (h : s.canon) (hup : s.linkActive (16 + g) = true) (hraw : s.rawOn (16 + g) = false)
    (hlanes : s.txState (16 + g) ≠ 3) {tx : Nat} (htx : tx < 4) :
    (s.enterTx (16 + g) tx false).txState (16 + g) = tx ∧
      (((s.enterTx (16 + g) tx false).pmSent (16 + g)).take 2).map (·.txState) = [tx, tx] := by
  obtain ⟨hc, hpm⟩ := State.sendPm_pmSent (g := g) h tx false
  rw [State.enterTx, if_pos (State.sendsFlits_of_active hup hraw hlanes), Nat.add_sub_cancel_left]
  obtain ⟨hreached, hkept⟩ := State.txReached_setTxState (g := g) hc htx
  exact ⟨hreached, hkept.symm ▸ hpm⟩

/-- A transmitter that is in TXI or TXS returns to TXA (R274). -/
theorem State.exitTx_exits (h : s.canon) (htx : s.txState (16 + g) = 1 ∨ s.txState (16 + g) = 2) :
    (s.exitTx (16 + g)).txState (16 + g) = 0 := by
  have hset := State.canon_setF h Fld.SL_STATUS_TXSTATE g 0
  have hreached := (State.txReached_within (s.setF Fld.SL_STATUS_TXSTATE g 0) (16 + g))
  rw [State.exitTx, if_neg (by omega), Nat.add_sub_cancel_left, State.txState_group,
    (State.pumpLmb_within _ _).f (hreached.canon hset).regsOk g, hreached.f hset.regsOk g, State.f_setF_same h.regsOk _ rfl]
  rfl

/-! ### The holds -/

/-- The state after TX_HOLD is written, before it takes effect. -/
def State.txHeld (s : State) (g v : Nat) : State := s.setF Fld.SL_PWR_TX_HOLD g v

theorem State.txHeld_txState (h : s.regsOk) : (s.txHeld g v).txState (16 + g) = s.txState (16 + g) := by
  rw [State.txState_group, State.txState_group]
  exact State.f_setF_apart h rfl ..

theorem State.txHeld_shows (h : s.regsOk) (hv : v < 4) : (s.txHeld g v).f Fld.SL_PWR_TX_HOLD g = v :=
  (State.f_setF_same h _ rfl ..).trans (Nat.mod_eq_of_lt hv)

/-- Whatever a hold makes the transmitter do, TX_HOLD shows it. -/
theorem State.writeTxHold_shows (h : s.canon) (hv : v < 4) : (s.writeTxHold g v).f Fld.SL_PWR_TX_HOLD g = v := by
  have hset : (s.txHeld g v).canon := State.canon_setF h ..
  have hexit : (s.txHeld g v).Within 0x1e020000000600004800c40c000000000000000000000000000000000000000203a
      ((s.txHeld g v).exitTx (16 + g)) := fun _ c h => State.exitTx_inv c h
  have hpower : (s.txHeld g v).Within 0x40000000000000000000000000000000000000000002018 ((s.txHeld g v).txPower (16 + g)) :=
    fun _ c h => State.txPower_inv c h
  have hshown := State.txHeld_shows (s := s) (g := g) h.regsOk hv
  exact ite_p (Q := fun t : State => t.f Fld.SL_PWR_TX_HOLD g = v) (fun _ => (hexit.f hset.regsOk g).trans hshown)
    fun _ => (hpower.f hset.regsOk g).trans hshown

/-- An idle transmitter enters the deeper state that TX_HOLD asks for. -/
theorem State.writeTxHold_enters (h : s.canon) (hv : v < 4) (hup : s.linkActive (16 + g) = true)
    (hidle : s.txIdle (16 + g) = true) (hforced : (s.link (16 + g)).forced = false) (hreq : (s.link (16 + g)).pmReq = 0)
    (hdeeper : s.txState (16 + g) < v) : s.writeTxHold g v = (s.txHeld g v).enterTx (16 + g) v false := by
  have hup' : (s.txHeld g v).linkActive (16 + g) = true := (State.linkActive_setF_apart h.regsOk).trans hup
  have hwanted : (s.txHeld g v).txWanted (16 + g) = v := by
    have hshown := State.txHeld_shows (s := s) (g := g) h.regsOk hv
    have hreq' : ((s.txHeld g v).link (16 + g)).pmReq = 0 := hreq
    rw [State.txWanted, Nat.add_sub_cancel_left, hshown, hreq', Nat.max_zero]
  have hstops : ¬ (v = 0 ∧ s.f Fld.SL_PWR_TX_HOLD g ≠ 0 ∧ (s.txHeld g v).linkActive (16 + g) = true ∧
      (s.txHeld g v).txState (16 + g) ≠ 0 ∧ ((s.txHeld g v).link (16 + g)).pmReq = 0 ∧
        (!((s.txHeld g v).link (16 + g)).forced) = true) :=
    fun hc => by omega
  have hpower : (s.txHeld g v).txPower (16 + g) = (s.txHeld g v).enterTx (16 + g) v false := by
    have hforced' : ((s.txHeld g v).link (16 + g)).forced = false := hforced
    have hidle' : (s.txHeld g v).txIdle (16 + g) = true := (State.txIdle_setF h.regsOk ..).trans hidle
    rw [State.txPower, if_neg, if_pos ⟨by rw [hwanted, State.txHeld_txState h.regsOk]; exact hdeeper, hidle'⟩, hwanted]
    simp [isGroup_add, hup', hforced']
  exact (if_neg hstops).trans hpower

/-- TX_HOLD cleared is an exit trigger (R274). -/
theorem State.writeTxHold_exits (h : s.canon) (hup : s.linkActive (16 + g) = true) (hold : s.f Fld.SL_PWR_TX_HOLD g ≠ 0)
    (hforced : (s.link (16 + g)).forced = false) (hreq : (s.link (16 + g)).pmReq = 0)
    (htx : s.txState (16 + g) = 1 ∨ s.txState (16 + g) = 2) : (s.writeTxHold g 0).txState (16 + g) = 0 := by
  have hup' : (s.txHeld g 0).linkActive (16 + g) = true := (State.linkActive_setF_apart h.regsOk).trans hup
  have htx' : (s.txHeld g 0).txState (16 + g) = 1 ∨ (s.txHeld g 0).txState (16 + g) = 2 := by rwa [State.txHeld_txState h.regsOk]
  have hout : (s.txHeld g 0).txState (16 + g) ≠ 0 := by omega
  have hexits : s.writeTxHold g 0 = (s.txHeld g 0).exitTx (16 + g) :=
    if_pos ⟨rfl, hold, hup', hout, hreq, congrArg Bool.not hforced⟩
  rw [hexits]
  exact State.exitTx_exits (State.canon_setF h ..) htx'

/-! ### L1 of a port -/

theorem State.setLinkState_links (k v : Nat) : (s.setLinkState k v).links = s.links := by
  have hset : (s.setLinkF Fld.DP_STATUS_STATE Fld.SL_STATUS_STATE k v).links = s.links := by
    rw [State.setLinkF]
    split <;> rfl
  exact (State.setLinkState_within.same.links rfl).trans hset

theorem State.leaveL1_of_idle (hstate : s.linkState k = 5) (hshed : (s.link k).l1Shed = false) (href : s.refLost = false)
    (hcmd : ∀ c ∈ (s.link k).cmd, c.1 ≠ 1) : s.leaveL1 k = s.setLinkState k 3 := by
  have hdue : s.l1Due k = false := by rw [State.l1Due, hshed, href, Bool.or_false, Bool.and_false]
  have hnone : ¬ ((s.setLinkState k 3).link k).cmd.any (fun c => c.1 == 1) = true := by
    rw [State.setLinkState_link, List.any_eq_true]
    rintro ⟨c, hc, hone⟩
    exact hcmd c hc (beq_iff_eq.1 hone)
  exact (if_pos ⟨hstate, by rw [hdue]; rfl⟩).trans (if_neg hnone)

end Sys2Proof.Machine

/-!
SUPPORT. Raw mode: the ring accesses of a group as packets of its endpoint, and what each response makes it do (R277, R278).
-/
namespace Sys2Proof.Machine
variable {s t u : State} {g : Nat} {rx : Bool} {d : RawDir} {p : Packet}

/-! ### Ring accesses -/

/-- A canonical state whose tables of waiting packets and of outstanding requests are canonical too. -/
structure State.NetReady (s : State) : Prop where
  canon : s.canon
  send : mwf (fun _ => []) s.net.send = true
  outReq : mwf (fun _ => none) s.net.outReq = true

theorem State.NetReady.setF (h : s.NetReady) (F : Field) (i v : Nat) : (s.setF F i v).NetReady :=
  ⟨State.canon_setF h.canon .., h.send, h.outReq⟩
theorem State.NetReady.updLink (h : s.NetReady) (k : Nat) (G : Link → Link) : (s.updLink k G).NetReady :=
  ⟨State.canon_updLink h.canon .., h.send, h.outReq⟩
theorem State.NetReady.setRawDir (h : s.NetReady) (g : Nat) (rx : Bool) (d : RawDir) : (s.setRawDir g rx d).NetReady := h.updLink ..

/-- From s to u one direction of group g has made an access of endpoint 528 + g, which awaits its response. -/
def State.RawAsks (s : State) (g : Nat) (u : State) (rx : Bool) (phase type a len : Nat) (data : List Byte) (poison : Nat) : Prop :=
  u.mem = s.mem ∧ ∃ q, mget (fun _ => []) u.net.send (528 + g) = mget (fun _ => []) s.net.send (528 + g) ++ [q] ∧ q.type = type ∧
    q.dest = a + 2 ^ 48 * s.node ∧ q.len = len ∧ q.payload = data ∧ q.poison = poison ∧
    u.outReq (outKey (528 + g) 0 q.tag) = some { pkt := q } ∧ ((u.link (16 + g)).raw rx).phase = phase ∧
    ((u.link (16 + g)).raw rx).tag = q.tag ∧ ((u.link (16 + g)).raw rx).failed = false

/-- What an access is judged from: the memory, the packets that wait and the node. -/
theorem State.RawAsks.of_eq {phase type a len poison : Nat} {data : List Byte} (h : t.RawAsks g u rx phase type a len data poison)
    (hmem : t.mem = s.mem) (hsend : t.net.send = s.net.send) (hnode : t.node = s.node) : s.RawAsks g u rx phase type a len data poison := by
  rwa [State.RawAsks, hmem, hsend, hnode] at h

theorem State.link_setRawDir (h : s.canon) (g : Nat) (rx : Bool) (d : RawDir) : (s.setRawDir g rx d).link (16 + g) =
    if rx then { s.link (16 + g) with rawRx := d } else { s.link (16 + g) with rawTx := d } := State.link_updLink_same h ..

theorem State.raw_setRawDir_same (h : s.canon) (g : Nat) (rx : Bool) (d : RawDir) : ((s.setRawDir g rx d).link (16 + g)).raw rx = d := by
  rw [State.link_setRawDir h]
  cases rx <;> rfl

theorem State.raw_setRawDir_other (h : s.canon) (g : Nat) (rx : Bool) (d : RawDir) :
    ((s.setRawDir g rx d).link (16 + g)).raw (!rx) = (s.link (16 + g)).raw (!rx) := by
  rw [State.link_setRawDir h]
  cases rx <;> rfl

theorem State.rawIn_setRawDir (h : s.canon) (g : Nat) (rx : Bool) (d : RawDir) :
    ((s.setRawDir g rx d).link (16 + g)).rawIn = (s.link (16 + g)).rawIn := by
  rw [State.link_setRawDir h]
  cases rx <;> rfl

theorem State.lastSent_setRawDir (h : s.canon) (g : Nat) (rx : Bool) (d : RawDir) :
    ((s.setRawDir g rx d).link (16 + g)).lastSent = (s.link (16 + g)).lastSent := by
  rw [State.link_setRawDir h]
  cases rx <;> rfl

/-- The tag that the next access takes. -/
def State.rawTag (s : State) (g : Nat) : Nat := s.freeTag (528 + g) 0 1024

theorem State.rawAsk_link (g : Nat) (rx : Bool) (d : RawDir) :
    (s.rawAsk g rx d).link (16 + g) = (s.setRawDir g rx { d with tag := s.rawTag g, failed := false }).link (16 + g) := rfl

theorem State.rawAsk_regs (g : Nat) (rx : Bool) (d : RawDir) : (s.rawAsk g rx d).regs = s.regs := rfl

theorem State.raw_rawAsk_same (h : s.canon) (g : Nat) (rx : Bool) (d : RawDir) :
    ((s.rawAsk g rx d).link (16 + g)).raw rx = { d with tag := s.rawTag g, failed := false } := State.raw_setRawDir_same h ..

theorem State.raw_rawAsk_other (h : s.canon) (g : Nat) (rx : Bool) (d : RawDir) :
    ((s.rawAsk g rx d).link (16 + g)).raw (!rx) = (s.link (16 + g)).raw (!rx) := State.raw_setRawDir_other h ..

theorem State.rawAsk_send (h : s.NetReady) (g : Nat) (rx : Bool) (d : RawDir) :
    mget (fun _ => []) (s.rawAsk g rx d).net.send (528 + g) = mget (fun _ => []) s.net.send (528 + g) ++ [s.rawReq g rx d (s.rawTag g)] :=
  State.send_request (s := s.setRawDir g rx _) h.send ..

theorem State.rawAsk_send_length (h : s.NetReady) (g : Nat) (rx : Bool) (d : RawDir) :
    (mget (fun _ => []) (s.rawAsk g rx d).net.send (528 + g)).length = (mget (fun _ => []) s.net.send (528 + g)).length + 1 := by
  rw [State.rawAsk_send h, List.length_append, List.length_singleton]

/-- An access is the packet of its request, which awaits its response. -/
theorem State.rawAsk_asks (h : s.NetReady) {type a len poison : Nat} {data : List Byte}
    (hreq : ∀ tag, s.rawReq g rx d tag = mkReq s type (528 + g) tag (a + 2 ^ 48 * s.node) len data poison) :
    s.RawAsks g (s.rawAsk g rx d) rx d.phase type a len data poison := by
  have hraw := State.raw_rawAsk_same h.canon g rx d
  refine ⟨rfl, s.rawReq g rx d (s.rawTag g), State.rawAsk_send h g rx d, ?_⟩
  have hout : (s.rawAsk g rx d).outReq (outKey (528 + g) (s.rawReq g rx d (s.rawTag g)).srcPlane (s.rawReq g rx d (s.rawTag g)).tag) =
      some { pkt := s.rawReq g rx d (s.rawTag g) } := State.outReq_request (s := s.setRawDir g rx _) h.outReq ..
  rw [hreq] at hout ⊢
  exact ⟨rfl, rfl, rfl, rfl, rfl, hout, by rw [hraw], by rw [hraw]; rfl, by rw [hraw]⟩

theorem State.rawReq_control (hd : d.phase = 1) (tag : Nat) :
    s.rawReq g rx d tag = mkReq s 0 (528 + g) tag (s.rawCtl g + 2 ^ 48 * s.node) 15 [] := if_pos hd

theorem State.rawReq_txBlock (hd : d.phase = 2) (tag : Nat) :
    s.rawReq g false d tag = mkReq s 0 (528 + g) tag (s.rawBlock g false d.ctr + 2 ^ 48 * s.node) 255 [] :=
  (if_neg (by omega)).trans ((if_pos hd).trans rfl)

theorem State.rawReq_rxBlock (hd : d.phase = 2) {b : RawBlk} {rest : List RawBlk} (hin : (s.link (16 + g)).rawIn = b :: rest) (tag : Nat) :
    s.rawReq g true d tag = mkReq s 1 (528 + g) tag (s.rawBlock g true d.ctr + 2 ^ 48 * s.node) 255 (fit 0 256 b.bytes)
      (if b.ue then 255 else 0) := by
  rw [State.rawReq, if_neg (by omega), if_pos hd, hin]
  rfl

theorem State.rawReq_counter (hd : 2 < d.phase) (tag : Nat) :
    s.rawReq g rx d tag = mkReq s 1 (528 + g) tag (s.rawCtl g + (if rx then 8 else 4) + 2 ^ 48 * s.node) 3
      (leBytes 4 ((d.ctr + 1) % 2 ^ 32)) :=
  (if_neg (by omega)).trans (if_neg (by omega))

/-- The access of an idle direction: it reads the control word. -/
theorem State.rawAsk_reads (h : s.NetReady) (g : Nat) (rx : Bool) :
    s.RawAsks g (s.rawAsk g rx { phase := 1 }) rx 1 0 (s.rawCtl g) 15 [] 0 := State.rawAsk_asks h (State.rawReq_control rfl)

theorem State.rawStart_reads (h : s.NetReady) (hidle : ((s.link (16 + g)).raw rx).phase = 0) :
    s.RawAsks g (s.rawStart g rx) rx 1 0 (s.rawCtl g) 15 [] 0 := by
  rw [State.rawStart, if_pos hidle]
  exact State.rawAsk_reads h g rx

/-- The start of an access changes neither memory nor registers nor the blocks that wait. -/
theorem State.rawStart_keeps (h : s.canon) (g : Nat) (rx : Bool) : (s.rawStart g rx).mem = s.mem ∧ (s.rawStart g rx).regs = s.regs ∧
    ((s.rawStart g rx).link (16 + g)).rawIn = (s.link (16 + g)).rawIn :=
  ite_p (Q := fun t : State => t.mem = s.mem ∧ t.regs = s.regs ∧ (t.link (16 + g)).rawIn = (s.link (16 + g)).rawIn)
    (fun _ => ⟨rfl, rfl, State.rawIn_setRawDir h ..⟩) fun _ => ⟨rfl, rfl, rfl⟩

/-! ### A response at a raw group -/

/-- A packet taken from an ejection buffer, whichever packets are taken, changes the buffers and their books alone. -/
theorem State.takeOn_cases {links : List Nat} {vc : Nat} {f : Packet → Bool} {s' : State} (h : s.takeOn links vc f = some (p, s')) :
    ∃ bufs books, s' = { s with net := { s.net with bufs := bufs, books := books } } := by
  obtain ⟨k, -, hk⟩ := List.exists_of_findSome?_eq_some h
  split at hk
  · rw [Option.ite_none_right_eq_some] at hk
    obtain ⟨-, hk⟩ := hk
    cases hk
    exact ⟨_, _, rfl⟩
  · cases hk

/-- The response of an access that is awaited reaches the group; until then only the corridor has changed. -/
theorem exec_responseArrival_of_raw (h : s.NetReady) (hg : g < 16) {s' : State}
    (htake : s.takeOn (ejectLinks (528 + g)) 1 (fun p => s.isFor (528 + g) p && p.dstNode == s.node) = some (p, s')) {r : OutReq}
    (hreq : s.outReq (outKey (528 + g) p.dstPlane p.tag) = some r) (hexp : r.expired = false) :
    ∃ n : Net, n.send = s.net.send ∧ ({ s with net := n } : State).NetReady ∧
      exec (.responseArrival (528 + g)) s = .next (({ s with net := n } : State).rawResponse g p) := by
  obtain ⟨bufs, books, rfl⟩ := State.takeOn_cases htake
  have hmatch := State.matchRsp_of_awaited (s := { s with net := { s.net with bufs := bufs, books := books } }) hreq hexp
  have heq : s.responseArrives (528 + g) =
      State.rawResponse (State.setOut { s with net := { s.net with bufs := bufs, books := books } }
        (outKey (528 + g) p.dstPlane p.tag) none) g p := by
    rw [State.responseArrives, if_neg (by omega), if_neg (by omega), if_neg (by omega), if_neg (by omega), if_neg (by omega),
      if_pos (by omega)]
    simp only [htake, hmatch]
    rw [if_neg (by omega), Nat.add_sub_cancel_left]
  exact ⟨{ s.net with
    bufs := bufs, books := books, outReq := mput (fun _ => none) s.net.outReq (outKey (528 + g) p.dstPlane p.tag) none },
    rfl, ⟨{ h.canon with }, h.send, mwf_mput _ _ h.outReq⟩, congrArg Host.Outcome.next heq⟩

theorem State.rawResponse_of_done (hof : (s.link (16 + g)).rawOf p.tag = some rx) (hstatus : p.status = 0) :
    s.rawResponse g p = s.rawNext g rx p := by
  rw [State.rawResponse, hof]
  exact if_pos hstatus

/-- A BUSY response: the access is made again. -/
theorem State.rawResponse_of_busy (hof : (s.link (16 + g)).rawOf p.tag = some rx) (hstatus : p.status = 1) :
    s.rawResponse g p = s.rawAsk g rx ((s.link (16 + g)).raw rx) := by
  rw [State.rawResponse, hof]
  exact (if_neg (by omega)).trans (if_pos hstatus)

/-- A bus error is counted, and the access waits for the retry (R278). -/
theorem State.rawResponse_of_busError (hof : (s.link (16 + g)).rawOf p.tag = some rx) (hstatus : p.status = 2) :
    s.rawResponse g p = (s.inc Fld.SL_RAW_STATUS_RAM_ERR g).setRawDir g rx { (s.link (16 + g)).raw rx with failed := true } := by
  rw [State.rawResponse, hof]
  refine (if_neg (by omega)).trans ((if_neg (by omega)).trans ?_)
  rw [if_pos hstatus]

/-! ### The next access of a direction -/

/-- Word i of a control word that was read. -/
def ctlWord (p : Packet) (i : Nat) : Nat := leNat (slice p.payload (4 * i) 4)

theorem State.rawNext_of_txEmpty (hphase : ((s.link (16 + g)).raw false).phase = 1) (hempty : ctlWord p 0 = ctlWord p 1) :
    s.rawNext g false p = s.setRawDir g false {} :=
  (if_pos hphase).trans ((if_neg Bool.false_ne_true).trans (if_pos (.inl hempty)))

theorem State.rawNext_of_txBlock (hphase : ((s.link (16 + g)).raw false).phase = 1) (hblock : ctlWord p 0 ≠ ctlWord p 1)
    (hsends : s.rawSends g = true) :
    s.rawNext g false p = s.rawAsk g false { (s.link (16 + g)).raw false with phase := 2, ctr := ctlWord p 1 } := by
  refine (if_pos hphase).trans ((if_neg Bool.false_ne_true).trans (if_neg ?_))
  rintro (he | hn)
  · exact hblock he
  · rw [hsends] at hn
    exact Bool.false_ne_true hn

/-- The state after a block was read, where it is sent unless it is poisoned. -/
def State.rawBlockSent (s : State) (g : Nat) (p : Packet) : State :=
  if p.poison ≠ 0 then s.inc Fld.SL_RAW_STATUS_TX_POISON g
  else s.updLink (16 + g) fun l => { l with
    lastSent := { kind := 0, bytes := p.payload } :: l.lastSent, slotQ := l.slotQ ++ [{ kind := 0, bytes := p.payload }] }

theorem State.rawNext_of_txRead (hphase : ((s.link (16 + g)).raw false).phase = 2) (hsends : s.rawSends g = true) :
    s.rawNext g false p = (s.rawBlockSent g p).rawAsk g false { (s.link (16 + g)).raw false with phase := 3 } := by
  have hon : ¬ (!s.rawSends g) = true := by rw [hsends]; exact Bool.false_ne_true
  exact (if_neg (by omega)).trans ((if_pos hphase).trans ((if_neg Bool.false_ne_true).trans (if_neg hon)))

theorem State.rawNext_of_txDone (hphase : 2 < ((s.link (16 + g)).raw false).phase) :
    s.rawNext g false p = s.rawAsk g false { phase := 1 } := by
  refine (if_neg (by omega)).trans ((if_neg (by omega)).trans ?_)
  rw [if_neg Bool.false_ne_true]

/-- The state after a block was dropped, as the ring is full. -/
def State.rawDropped (s : State) (g : Nat) (p : Packet) : State :=
  ((s.inc Fld.SL_RAW_STATUS_RX_DROPPED g).setRawDir g true {}).rawPop g (ctlWord p 2)

theorem State.rawNext_of_rxFull (hphase : ((s.link (16 + g)).raw true).phase = 1) (hin : (s.link (16 + g)).rawIn ≠ [])
    (hfull : (ctlWord p 2 + 2 ^ 32 - ctlWord p 3) % 2 ^ 32 = s.rawN g) :
    s.rawNext g true p =
      if ((s.rawDropped g p).link (16 + g)).rawIn.isEmpty then s.rawDropped g p else (s.rawDropped g p).rawStart g true :=
  (if_pos hphase).trans ((if_pos rfl).trans ((if_neg (mt List.isEmpty_iff.1 hin)).trans ((if_pos hfull).trans rfl)))

theorem State.rawNext_of_rxFree (hphase : ((s.link (16 + g)).raw true).phase = 1) (hin : (s.link (16 + g)).rawIn ≠ [])
    (hfree : (ctlWord p 2 + 2 ^ 32 - ctlWord p 3) % 2 ^ 32 ≠ s.rawN g) :
    s.rawNext g true p = s.rawAsk g true { (s.link (16 + g)).raw true with phase := 2, ctr := ctlWord p 2 } :=
  (if_pos hphase).trans ((if_pos rfl).trans ((if_neg (mt List.isEmpty_iff.1 hin)).trans (if_neg hfree)))

theorem State.rawNext_of_rxWritten (hphase : ((s.link (16 + g)).raw true).phase = 2) :
    s.rawNext g true p = s.rawAsk g true { (s.link (16 + g)).raw true with phase := 3 } :=
  (if_neg (by omega)).trans ((if_pos hphase).trans (if_pos rfl))

/-- The state after a block has reached the receive ring. -/
def State.rawDelivered (s : State) (g : Nat) : State :=
  (s.updLink (16 + g) fun l => { l with rawGot := true }).rawPop g ((((s.link (16 + g)).raw true).ctr + 1) % 2 ^ 32)

theorem State.rawNext_of_rxDone (hphase : 2 < ((s.link (16 + g)).raw true).phase) :
    s.rawNext g true p = (s.rawDelivered g).rawAsk g true { phase := 1 } := by
  refine (if_neg (by omega)).trans ((if_neg (by omega)).trans ?_)
  rw [if_pos rfl]
  rfl

end Sys2Proof.Machine

/-!
SUPPORT. What a response leaves at a raw group, case by case of the access that it answers (R278).
-/
namespace Sys2Proof.Machine
variable {s t u : State} {g : Nat} {rx : Bool} {d : RawDir} {p : Packet}

/-- t differs from s in nothing that the next access of group g is judged from. -/
structure State.RawSame (s : State) (g : Nat) (t : State) : Prop where
  ready : t.NetReady
  mem : t.mem = s.mem
  send : t.net.send = s.net.send
  node : t.node = s.node
  ctl : t.rawCtl g = s.rawCtl g

theorem State.RawSame.asks (h : s.RawSame g t) {phase type a len poison : Nat} {data : List Byte}
    (ha : t.RawAsks g u rx phase type a len data poison) : s.RawAsks g u rx phase type a len data poison := ha.of_eq h.mem h.send h.node

theorem State.RawSame.reads (h : s.RawSame g t) : s.RawAsks g (t.rawAsk g rx { phase := 1 }) rx 1 0 (s.rawCtl g) 15 [] 0 :=
  h.ctl ▸ h.asks (State.rawAsk_reads h.ready g rx)

theorem State.RawSame.updLink (h : s.RawSame g t) (k : Nat) (G : Link → Link) : s.RawSame g (t.updLink k G) :=
  ⟨h.ready.updLink k G, h.mem, h.send, h.node, h.ctl⟩

/-- A counter of SL_RAW_STATUS. -/
theorem State.RawSame.inc (h : s.NetReady) (F : Field) (n : Nat) (hF : F.reg = .SL_RAW_STATUS := by rfl) : s.RawSame g (s.inc F g n) := by
  have hrd {r : Reg} (hr : r ≠ .SL_RAW_STATUS) (j : Nat) : (s.inc F g n).rd r j = s.rd r j :=
    State.rd_setF_ne h.canon.regsOk (hF ▸ hr) ..
  have hroutes : s.RoutesAs (s.inc F g n) := ⟨fun r hr j => hrd (fun he => absurd (he ▸ hr) (by decide)) j⟩
  refine ⟨h.setF .., rfl, rfl, hroutes.node, ?_⟩
  rw [State.rawCtl, State.rawCtl, State.rawBase, State.rawBase, State.rawRoom, State.rawRoom,
    State.f_of_rd (F := Fld.SL_RAW_CFG_ROOM) rfl (hrd (by decide) g), State.f_of_rd (F := Fld.SL_RAW_RING_CTLBASE) rfl (hrd (by decide) g)]

/-! ### Transmit -/

theorem State.rawBlockSent_same (h : s.NetReady) (g : Nat) (p : Packet) : s.RawSame g (s.rawBlockSent g p) :=
  ite_p (fun _ => State.RawSame.inc h Fld.SL_RAW_STATUS_TX_POISON 1) fun _ =>
    State.RawSame.updLink ⟨h, rfl, rfl, rfl, rfl⟩ ..

/-- A block that was read goes on the wire, and the counter TX_CONS moves on (R278). -/
theorem State.rawNext_txRead (h : s.NetReady) (hphase : ((s.link (16 + g)).raw false).phase = 2) (hsends : s.rawSends g = true) :
    (((s.rawNext g false p).link (16 + g)).raw false).ctr = ((s.link (16 + g)).raw false).ctr ∧
    s.RawAsks g (s.rawNext g false p) false 3 1 (s.rawCtl g + 4) 3 (leBytes 4 ((((s.link (16 + g)).raw false).ctr + 1) % 2 ^ 32)) 0 ∧
    ((s.rawNext g false p).link (16 + g)).lastSent = ((s.rawBlockSent g p).link (16 + g)).lastSent ∧
    (s.rawNext g false p).regs = (s.rawBlockSent g p).regs := by
  have hsame := State.rawBlockSent_same h g p
  rw [State.rawNext_of_txRead hphase hsends]
  generalize s.rawBlockSent g p = sent at hsame ⊢
  have hasks := State.rawAsk_asks (g := g) (rx := false) (d := { (s.link (16 + g)).raw false with phase := 3 }) hsame.ready
    (State.rawReq_counter (show 2 < 3 by decide))
  exact ⟨by rw [State.raw_rawAsk_same hsame.ready.canon], hsame.ctl ▸ hsame.asks hasks, State.lastSent_setRawDir hsame.ready.canon ..,
    State.rawAsk_regs ..⟩

theorem State.rawBlockSent_good (h : s.canon) (hpoison : p.poison = 0) :
    ((s.rawBlockSent g p).link (16 + g)).lastSent = { kind := 0, bytes := p.payload } :: (s.link (16 + g)).lastSent := by
  rw [State.rawBlockSent, if_neg (not_not_intro hpoison), State.link_updLink_same h]

theorem State.rawBlockSent_poisoned (hpoison : p.poison ≠ 0) : s.rawBlockSent g p = s.inc Fld.SL_RAW_STATUS_TX_POISON g := if_pos hpoison

/-! ### Receive -/

/-- Without NOTIFY a block that is done with leaves the group, and nothing else happens. -/
theorem State.rawPop_of_silent (hsilent : s.f Fld.SL_RAW_CFG_NOTIFY g = 0) (prod : Nat) :
    ∃ G : Link → Link, (∀ l, (G l).rawIn = l.rawIn.drop 1) ∧ s.rawPop g prod = s.updLink (16 + g) G := by
  have hnotify {G : Link → Link} : (s.updLink (16 + g) G).rawNotify g prod = s.updLink (16 + g) G := if_pos hsilent
  refine ⟨fun l => { l with
    rawIn := l.rawIn.drop 1
    rawGot := l.rawGot && !((s.link (16 + g)).rawIn.head?.any fun b => b.last) }, fun _ => rfl, ?_⟩
  refine ite_p (Q := fun t => t = _) (fun _ => ?_) fun _ => rfl
  exact hnotify

theorem State.notify_inc (h : s.regsOk) (F : Field) (n : Nat) (hF : F.apart Fld.SL_RAW_CFG_NOTIFY = true := by rfl) :
    (s.inc F g n).f Fld.SL_RAW_CFG_NOTIFY g = s.f Fld.SL_RAW_CFG_NOTIFY g := State.f_inc_apart h hF ..

/-- A block that the full ring has no room for is dropped and counted (R278). -/
theorem State.rawDropped_drops (h : s.NetReady) (hsilent : s.f Fld.SL_RAW_CFG_NOTIFY g = 0) :
    (s.rawDropped g p).canon ∧ (s.rawDropped g p).mem = s.mem ∧
    ((s.rawDropped g p).link (16 + g)).rawIn = (s.link (16 + g)).rawIn.drop 1 ∧
    (s.rawDropped g p).f Fld.SL_RAW_STATUS_RX_DROPPED g =
      min (s.f Fld.SL_RAW_STATUS_RX_DROPPED g + 1) Fld.SL_RAW_STATUS_RX_DROPPED.top := by
  have hinc : (s.inc Fld.SL_RAW_STATUS_RX_DROPPED g).NetReady := h.setF ..
  have hidle := hinc.setRawDir g true {}
  obtain ⟨G, hG, heq⟩ := State.rawPop_of_silent (s := (s.inc Fld.SL_RAW_STATUS_RX_DROPPED g).setRawDir g true {})
    ((State.notify_inc h.canon.regsOk Fld.SL_RAW_STATUS_RX_DROPPED 1).trans hsilent) (ctlWord p 2)
  rw [State.rawDropped, heq]
  refine ⟨State.canon_updLink hidle.canon .., rfl, ?_, ?_⟩
  · rw [State.link_updLink_same hidle.canon, hG]
    exact congrArg (List.drop 1) (State.rawIn_setRawDir hinc.canon ..)
  · rw [State.updLink_f_of, State.setRawDir, State.updLink_f_of]
    exact State.f_inc_same h.canon.regsOk Fld.SL_RAW_STATUS_RX_DROPPED rfl g 1

theorem State.rawNext_rxFull (h : s.NetReady) (hsilent : s.f Fld.SL_RAW_CFG_NOTIFY g = 0)
    (hphase : ((s.link (16 + g)).raw true).phase = 1) (hin : (s.link (16 + g)).rawIn ≠ [])
    (hfull : (ctlWord p 2 + 2 ^ 32 - ctlWord p 3) % 2 ^ 32 = s.rawN g) :
    ((s.rawNext g true p).link (16 + g)).rawIn = (s.link (16 + g)).rawIn.drop 1 ∧ (s.rawNext g true p).mem = s.mem ∧
    (s.rawNext g true p).f Fld.SL_RAW_STATUS_RX_DROPPED g =
      min (s.f Fld.SL_RAW_STATUS_RX_DROPPED g + 1) Fld.SL_RAW_STATUS_RX_DROPPED.top := by
  obtain ⟨hc, hmem, hrawIn, hcount⟩ := State.rawDropped_drops (p := p) h hsilent
  obtain ⟨hkmem, hkregs, hkin⟩ := State.rawStart_keeps hc g true
  rw [State.rawNext_of_rxFull hphase hin hfull]
  split
  · exact ⟨hrawIn, hmem, hcount⟩
  · refine ⟨hkin.trans hrawIn, hkmem.trans hmem, Eq.trans ?_ hcount⟩
    rw [State.f, State.rd, State.raw, hkregs]
    rfl

/-- A block that was written has left the group, which reads the control word for the next (R278). -/
theorem State.rawNext_rxDone (h : s.NetReady) (hsilent : s.f Fld.SL_RAW_CFG_NOTIFY g = 0)
    (hphase : 2 < ((s.link (16 + g)).raw true).phase) :
    ((s.rawNext g true p).link (16 + g)).rawIn = (s.link (16 + g)).rawIn.drop 1 ∧
    s.RawAsks g (s.rawNext g true p) true 1 0 (s.rawCtl g) 15 [] 0 := by
  obtain ⟨G, hG, heq⟩ := State.rawPop_of_silent (s := s.updLink (16 + g) fun l => { l with rawGot := true }) hsilent
    ((((s.link (16 + g)).raw true).ctr + 1) % 2 ^ 32)
  have hgot := h.updLink (16 + g) fun l => { l with rawGot := true }
  have hsame : s.RawSame g ((s.updLink (16 + g) fun l => { l with rawGot := true }).updLink (16 + g) G) :=
    .updLink (.updLink ⟨h, rfl, rfl, rfl, rfl⟩ ..) ..
  rw [State.rawNext_of_rxDone hphase, State.rawDelivered, heq]
  refine ⟨?_, hsame.reads⟩
  rw [State.rawAsk_link, State.rawIn_setRawDir hsame.ready.canon, State.link_updLink_same hgot.canon, hG,
    State.link_updLink_same h.canon]

/-! ### Received blocks and retries -/

/-- A block that a raw group receives waits behind those before it. -/
theorem State.rawTake_one (hruns : s.rawRuns (16 + g) = true) (data : List Byte) (ue : Bool) :
    s.rawTake g [data] ue =
      (s.updLink (16 + g) fun q => { q with rawIn := q.rawIn ++ [{ bytes := data, ue := ue, last := true }] }).rawStart g true := by
  have hon : ¬ ([data].isEmpty = true ∨ (!s.rawRuns (16 + g)) = true) := by
    simp [hruns]
  exact (if_neg hon).trans rfl

/-- A retry of one direction: its access is made again. -/
def State.rawRetried (s : State) (g : Nat) (rx : Bool) : State :=
  let d := (s.link (16 + g)).raw rx
  if g < 16 ∧ d.failed then s.rawAsk g rx d else s

theorem State.rawRetried_of_failed (hg : g < 16) (hfailed : ((s.link (16 + g)).raw rx).failed = true) :
    s.rawRetried g rx = s.rawAsk g rx ((s.link (16 + g)).raw rx) := if_pos ⟨hg, hfailed⟩

theorem State.rawRetried_of_waiting (hwaits : ((s.link (16 + g)).raw rx).failed = false) : s.rawRetried g rx = s :=
  if_neg fun hc => Bool.false_ne_true (hwaits.symm.trans hc.2)

/-- Where only one direction has failed its access alone is made again (R278). -/
theorem exec_rawRingRetry_of_one (h : s.canon) (hg : g < 16) (hfailed : ((s.link (16 + g)).raw rx).failed = true)
    (hother : ((s.link (16 + g)).raw (!rx)).failed = false) :
    exec (.rawRingRetry g) s = .next (s.rawAsk g rx ((s.link (16 + g)).raw rx)) := by
  have htwo : exec (.rawRingRetry g) s = .next ((s.rawRetried g false).rawRetried g true) := rfl
  have hkept := State.raw_rawAsk_other h g rx ((s.link (16 + g)).raw rx)
  rw [htwo]
  cases rx with
  | false =>
    rw [State.rawRetried_of_failed hg hfailed]
    exact congrArg Host.Outcome.next (State.rawRetried_of_waiting ((congrArg RawDir.failed hkept).trans hother))
  | true =>
    have hwaits : s.rawRetried g false = s := State.rawRetried_of_waiting hother
    rw [hwaits, State.rawRetried_of_failed hg hfailed]

end Sys2Proof.Machine

/-!
SUPPORT. The statement on the power states of links and on the rings of raw groups (R252, R274, R278).
-/
namespace Sys2Proof.Machine
variable {s t u : State} {g : Nat} {rx : Bool} {p : Packet}

/-! ### A response, by the state that the group meets it in -/

/-- A bus error at a group: counted, and the access has failed. -/
theorem State.rawResponse_busError_shows (h : s.NetReady) (hof : (s.link (16 + g)).rawOf p.tag = some rx) (hstatus : p.status = 2) :
    ((s.rawResponse g p).link (16 + g)).raw rx = { (s.link (16 + g)).raw rx with failed := true } ∧ (s.rawResponse g p).mem = s.mem ∧
      (s.rawResponse g p).f Fld.SL_RAW_STATUS_RAM_ERR g =
        min (s.f Fld.SL_RAW_STATUS_RAM_ERR g + 1) Fld.SL_RAW_STATUS_RAM_ERR.top := by
  have hinc : (s.inc Fld.SL_RAW_STATUS_RAM_ERR g).NetReady := h.setF ..
  rw [State.rawResponse_of_busError hof hstatus]
  refine ⟨State.raw_setRawDir_same hinc.canon .., rfl, ?_⟩
  rw [State.setRawDir, State.updLink_f_of]
  exact State.f_inc_same h.canon.regsOk Fld.SL_RAW_STATUS_RAM_ERR rfl g 1

/-- BUSY at a group: the access is made again. -/
theorem State.rawResponse_busy_asks (h : s.NetReady) (hof : (s.link (16 + g)).rawOf p.tag = some rx) (hstatus : p.status = 1) :
    (s.rawResponse g p).mem = s.mem ∧ (((s.rawResponse g p).link (16 + g)).raw rx).phase = ((s.link (16 + g)).raw rx).phase ∧
      (mget (fun _ => []) (s.rawResponse g p).net.send (528 + g)).length = (mget (fun _ => []) s.net.send (528 + g)).length + 1 := by
  rw [State.rawResponse_of_busy hof hstatus]
  exact ⟨rfl, by rw [State.raw_rawAsk_same h.canon], State.rawAsk_send_length h ..⟩

/-- The control word names a block to send: it is read. -/
theorem State.rawNext_txBlock_asks (h : s.NetReady) (hphase : ((s.link (16 + g)).raw false).phase = 1)
    (hblock : ctlWord p 0 ≠ ctlWord p 1) (hsends : s.rawSends g = true) :
    (((s.rawNext g false p).link (16 + g)).raw false).ctr = ctlWord p 1 ∧
      s.RawAsks g (s.rawNext g false p) false 2 0 (s.rawBlock g false (ctlWord p 1)) 255 [] 0 := by
  rw [State.rawNext_of_txBlock hphase hblock hsends]
  exact ⟨by rw [State.raw_rawAsk_same h.canon], State.rawAsk_asks h (State.rawReq_txBlock rfl)⟩

/-- The control word names room for a received block: it is written. -/
theorem State.rawNext_rxFree_asks (h : s.NetReady) (hphase : ((s.link (16 + g)).raw true).phase = 1) {b : RawBlk} {rest : List RawBlk}
    (hin : (s.link (16 + g)).rawIn = b :: rest) (hfree : (ctlWord p 2 + 2 ^ 32 - ctlWord p 3) % 2 ^ 32 ≠ s.rawN g) :
    (((s.rawNext g true p).link (16 + g)).raw true).ctr = ctlWord p 2 ∧
      s.RawAsks g (s.rawNext g true p) true 2 1 (s.rawBlock g true (ctlWord p 2)) 255 (fit 0 256 b.bytes) (if b.ue then 255 else 0) := by
  rw [State.rawNext_of_rxFree hphase (by rw [hin]; exact List.cons_ne_nil b rest) hfree]
  exact ⟨by rw [State.raw_rawAsk_same h.canon], State.rawAsk_asks h (State.rawReq_rxBlock rfl hin)⟩

/-- The block is written: RX_PROD moves on. -/
theorem State.rawNext_rxWritten_asks (h : s.NetReady) (hphase : ((s.link (16 + g)).raw true).phase = 2) :
    (((s.rawNext g true p).link (16 + g)).raw true).ctr = ((s.link (16 + g)).raw true).ctr ∧
      s.RawAsks g (s.rawNext g true p) true 3 1 (s.rawCtl g + 8) 3
        (leBytes 4 ((((s.link (16 + g)).raw true).ctr + 1) % 2 ^ 32)) 0 := by
  rw [State.rawNext_of_rxWritten hphase]
  exact ⟨by rw [State.raw_rawAsk_same h.canon], State.rawAsk_asks h (State.rawReq_counter (show 2 < 3 by decide))⟩

/-! ### The statement -/

/-- Settles O47: an access of a ring is one packet whose response its tag finds, and a transmitter that enters an idle state sends its two
PM flits as the last ones of their kind. -/
theorem linkPowerStatesAndRawRings : Obligations.LinkPowerStatesAndRawRings := by
  intro s g hs htables hg k d idle ep ring asks reads
  have hready : s.NetReady := ⟨hs, htables.send, htables.outReq⟩
  refine ⟨?rxHold, ?txHold, ?l1Entry, ?l1Exit, ?txi, ?txs, ?txExit, ?transmit, ?busyTransmit, ?poll, ?receive, ?response, ?retry⟩
  case rxHold =>
    exact fun v hv => ⟨_, rfl, (State.f_setF_same hs.regsOk _ rfl ..).trans (Nat.mod_eq_of_lt hv), rfl⟩
  case txHold =>
    intro v hv
    refine ⟨_, rfl, State.writeTxHold_shows hs hv, ?_, ?_⟩
    · rintro ⟨hup, hraw, hidle⟩ hforced hreq hdeeper
      have hset : (s.txHeld g v).canon := State.canon_setF hs ..
      rw [State.writeTxHold_enters hs hv hup hidle hforced hreq hdeeper]
      refine State.enterTx_enters hset ((State.linkActive_setF_apart hs.regsOk).trans hup) ?_ ?_ hv
      · rw [← hraw, State.rawOn, State.rawOn]
        exact congrArg (fun n => isGroup k && decide (n = 1)) (State.f_setF_apart hs.regsOk rfl ..)
      · rw [State.txHeld_txState hs.regsOk]
        exact Nat.ne_of_lt (Nat.lt_of_lt_of_le hdeeper (Nat.le_of_lt_succ hv))
    · rintro rfl hup hold hforced hreq htx
      exact State.writeTxHold_exits hs hup hold hforced hreq htx
  case l1Entry =>
    intro hup hreplay hbytes hidle
    have henters : (s.linkActive g && (s.link g).replay.isEmpty &&
        ((decide (s.f Fld.DP_CFG_L1_IDLE g ≠ 0) && !s.bytesReady g) || s.l1Due g)) = true := by
      rw [hup, show (s.link g).replay = [] from hreplay, hbytes, decide_eq_true hidle]
      rfl
    exact ⟨_, congrArg Host.Outcome.next (if_pos henters), State.linkState_setLinkState hs (by decide), State.setLinkState_links ..⟩
  case l1Exit =>
    intro hstate hshed href hcmd
    exact ⟨_, congrArg Host.Outcome.next (State.leaveL1_of_idle hstate hshed href hcmd), State.linkState_setLinkState hs (by decide),
      State.setLinkState_links ..⟩
  case txi =>
    rintro ⟨hup, hraw, hidle⟩ htx hcfg
    have henters : (s.linkActive (16 + g) && decide (s.txState (16 + g) = 0) && s.txIdle (16 + g) && !s.rawOn (16 + g) &&
        decide (s.f Fld.SL_PWR_IDLE_NS g ≠ 0)) = true := by
      rw [hup, hraw, hidle, decide_eq_true htx, decide_eq_true hcfg]
      rfl
    exact ⟨_, congrArg Host.Outcome.next (if_pos henters), State.enterTx_enters hs hup hraw
      (fun hoff => absurd (htx.symm.trans hoff) (by decide)) (by decide)⟩
  case txs =>
    rintro ⟨hup, hraw, hidle⟩ htx hcfg
    have henters : (s.linkActive (16 + g) && decide (s.txState (16 + g) = 1) && s.txIdle (16 + g) &&
        decide (s.f Fld.SL_PWR_SLEEP_US g ≠ 0)) = true := by
      rw [hup, hidle, decide_eq_true htx, decide_eq_true hcfg]
      rfl
    exact ⟨_, congrArg Host.Outcome.next (if_pos henters), State.enterTx_enters hs hup hraw
      (fun hoff => absurd (htx.symm.trans hoff) (by decide)) (by decide)⟩
  case txExit =>
    intro hup htx hforced howed
    have hexits : (s.linkActive (16 + g) && (decide (s.txState (16 + g) = 1) || decide (s.txState (16 + g) = 2)) &&
        !(s.link (16 + g)).forced && (s.bytesReady (16 + g) || (s.link (16 + g)).ackOwed)) = true := by
      rw [hup, hforced, howed, Bool.or_true, ← Bool.decide_or, decide_eq_true htx]
      rfl
    exact ⟨_, congrArg Host.Outcome.next (if_pos hexits), State.exitTx_exits hs htx⟩
  case transmit =>
    exact fun hsends hidle => ⟨_, congrArg Host.Outcome.next (if_pos ⟨hg, hsends⟩), State.rawStart_reads hready hidle⟩
  case busyTransmit =>
    exact fun hsends hbusy => congrArg Host.Outcome.next ((if_pos ⟨hg, hsends⟩).trans (if_neg hbusy))
  case poll =>
    exact fun hruns hrx htx => ⟨_, congrArg Host.Outcome.next (if_pos ⟨hg, hruns, hrx⟩), State.rawStart_reads hready htx⟩
  case receive =>
    intro hruns hresuming data ue
    have htaken := hready.updLink (16 + g) fun q => { q with rawIn := q.rawIn ++ [{ bytes := data, ue := ue, last := true }] }
    obtain ⟨hmem, -, hin⟩ := State.rawStart_keeps htaken.canon g true
    have heq : (s.unlessResuming fun s => if g < 16 then s.rawTake g [data] ue else s) =
        (s.updLink (16 + g) fun q => { q with rawIn := q.rawIn ++ [{ bytes := data, ue := ue, last := true }] }).rawStart g true :=
      (if_neg (Bool.eq_false_iff.1 hresuming)).trans ((if_pos hg).trans (State.rawTake_one hruns data ue))
    refine ⟨_, congrArg Host.Outcome.next heq, hmem, ?_, fun hidle => ?_⟩
    · rw [hin, State.link_updLink_same hs]
    · refine State.RawSame.asks (.updLink ⟨hready, rfl, rfl, rfl, rfl⟩ ..) (State.rawStart_reads htaken ?_)
      rw [State.link_updLink_same hs]
      exact hidle
  case response =>
    intro p s' htake r hreq hexp c
    obtain ⟨n, hsend, hnet, hexec⟩ := exec_responseArrival_of_raw hready hg htake hreq hexp
    have hsame : s.RawSame g { s with net := n } := ⟨hnet, rfl, hsend, rfl, rfl⟩
    refine ⟨fun rx hof => ⟨fun hstatus => ?_, fun hstatus => ?_⟩, fun hof hstatus hsends => ?_,
      fun hof hstatus hsilent b rest hin => ?_⟩
    · exact ⟨_, hexec, State.rawResponse_busError_shows hnet hof hstatus⟩
    · obtain ⟨hmem, hphase, hlen⟩ := State.rawResponse_busy_asks hnet hof hstatus
      exact ⟨_, hexec, hmem, hphase, hsend ▸ hlen⟩
    · rw [State.rawResponse_of_done (s := { s with net := n }) hof hstatus] at hexec
      refine ⟨fun hphase hempty => ?_, fun hphase hblock => ?_, fun hphase => ?_, fun hphase => ?_⟩
      · rw [State.rawNext_of_txEmpty (s := { s with net := n }) hphase hempty] at hexec
        exact ⟨_, hexec, State.raw_setRawDir_same hnet.canon .., hsend⟩
      · obtain ⟨hctr, hasks⟩ := State.rawNext_txBlock_asks hnet hphase hblock hsends
        exact ⟨_, hexec, hctr, hsame.asks hasks⟩
      · obtain ⟨hctr, hasks, hsent, hregs⟩ := State.rawNext_txRead (p := p) hnet hphase hsends
        refine ⟨_, hexec, hctr, hsame.asks hasks, fun hgood => hsent.trans (State.rawBlockSent_good hnet.canon hgood), fun hbad => ?_⟩
        rw [State.rawBlockSent_poisoned hbad] at hsent hregs
        refine ⟨hsent, Eq.trans ?_ (State.f_inc_same (s := { s with net := n }) hs.regsOk Fld.SL_RAW_STATUS_TX_POISON rfl g 1)⟩
        rw [State.f, State.rd, State.raw, hregs]
        rfl
      · rw [State.rawNext_of_txDone (s := { s with net := n }) hphase] at hexec
        exact ⟨_, hexec, hsame.reads⟩
    · rw [State.rawResponse_of_done (s := { s with net := n }) hof hstatus] at hexec
      have hsome : (({ s with net := n } : State).link (16 + g)).rawIn ≠ [] := fun he => List.cons_ne_nil b rest (hin.symm.trans he)
      have hrest : (({ s with net := n } : State).link (16 + g)).rawIn.drop 1 = rest := congrArg (List.drop 1) hin
      refine ⟨fun hphase hfull => ?_, fun hphase hfree => ?_, fun hphase => ?_, fun hphase => ?_⟩
      · obtain ⟨hleft, hmem, hcount⟩ := State.rawNext_rxFull (s := { s with net := n }) hnet hsilent hphase hsome hfull
        exact ⟨_, hexec, hleft.trans hrest, hmem, hcount⟩
      · obtain ⟨hctr, hasks⟩ := State.rawNext_rxFree_asks hnet hphase hin hfree
        exact ⟨_, hexec, hctr, hsame.asks hasks⟩
      · obtain ⟨hctr, hasks⟩ := State.rawNext_rxWritten_asks (p := p) hnet hphase
        exact ⟨_, hexec, hctr, hsame.asks hasks⟩
      · obtain ⟨hleft, hasks⟩ := State.rawNext_rxDone (s := { s with net := n }) (p := p) hnet hsilent hphase
        exact ⟨_, hexec, hleft.trans hrest, hsame.asks hasks⟩
  case retry =>
    intro rx hfailed hother
    have hraw := State.raw_rawAsk_same hs g rx ((s.link (16 + g)).raw rx)
    have hfailed' := congrArg RawDir.failed hraw
    have hphase := congrArg RawDir.phase hraw
    exact ⟨_, exec_rawRingRetry_of_one hs hg hfailed hother, rfl, hfailed', hphase, State.raw_rawAsk_other hs ..,
      State.rawAsk_send_length hready ..⟩

end Sys2Proof.Machine

/-!
SUPPORT. Where the statement on the flits of a link fails: a training latches a group's raw mode before SL_STATUS shows it, and from
then on the group takes no INIT flit (R277, R278).
-/
namespace Sys2Proof.Machine
variable {s : State}

/-- A table with one entry. -/
theorem mget_singleton {α : Type} (d : Nat → α) (i : Nat) (v : α) (k : Nat) : mget d [(i, v)] k = if k = i then v else d k := by
  by_cases hk : k = i
  · simp [mget, hk]
  · simp [mget, hk, Ne.symm hk]

/-- A link whose training latched raw mode takes no INIT flit. -/
theorem exec_initFlit_of_rawSet {k : Nat} (hraw : (s.link k).set.raw = true) (f : Flit) : exec (.initFlit k f) s = .next s :=
  have hignored : s.initRecv k f = s := if_pos (.inr (.inr (.inr hraw)))
  congrArg Host.Outcome.next ((congrArg (ite _ s) hignored).trans (ite_self s))

/-- A sealed flit carries the CRC of its bytes, and the far end finds it good. -/
theorem Flit.ok_seal {f : Flit} (hgood : f.good = true) (k : Nat) : (f.seal k).ok k = true := by
  rw [Flit.ok, Flit.seal]
  split
  case isTrue hk => exact Bool.and_eq_true_iff.2 ⟨hgood, Bool.or_eq_true_iff.2 (.inr (beq_self_eq_true f.crcOf))⟩
  case isFalse hk => rw [hgood, Bool.eq_false_iff.2 hk]; rfl

/-- Group 0 between FRAME_LOCK and ADAPTER_ACTIVE: it is in INIT, its training has latched raw mode, and SL_STATUS_RAW is not set yet. -/
def rawGroupInInit : State :=
  { State.reset with
    regs := [(Reg.addr .SL_STATUS 0, 2)]
    links := [(16, { set := { raw := true }, trainPhase := 3 })] }

theorem rawGroupInInit_canon : rawGroupInInit.canon :=
  { State.canon_reset with regs := by decide, links := by decide }

theorem rawGroupInInit_link (k : Nat) : rawGroupInInit.link k = if k = 16 then { set := { raw := true }, trainPhase := 3 } else {} :=
  mget_singleton _ 16 _ k

theorem rawGroupInInit_tables : rawGroupInInit.tables :=
  { State.tables_reset with
    rxStream := fun k => by rw [rawGroupInInit_link]; split <;> rfl
    rxEnts := fun k => by rw [rawGroupInInit_link]; split <;> rfl
    txQ := fun k => by rw [rawGroupInInit_link]; split <;> rfl
    badFrames := fun k => by rw [rawGroupInInit_link]; split <;> rfl
    replays := fun k => by rw [rawGroupInInit_link]; split <;> rfl
    carriedCr := fun k => by rw [rawGroupInInit_link]; split <;> rfl }

/-- An INIT flit of the group with nothing declared. -/
def emptyInit : Flit := ({ kind := 2, bytes := [] } : Flit).seal 16

/-- Refutes O45: a group that trains for raw mode is in INIT with SL_STATUS_RAW not set yet, and the INIT flit changes nothing. -/
theorem not_flitsAreSentTakenAndReplayed : ¬ Obligations.FlitsAreSentTakenAndReplayed := by
  intro h
  obtain ⟨-, -, -, -, -, hinit, -⟩ := h rawGroupInInit 16 rawGroupInInit_canon rawGroupInInit_tables
  obtain ⟨hfresh, -⟩ := hinit emptyInit (by decide) (by decide) (by decide) (Flit.ok_seal rfl 16) rfl
    (by decide)
  obtain ⟨u, hu, hrcvd, -⟩ := (hfresh rfl).1 rfl
  cases Host.Outcome.next.inj ((exec_initFlit_of_rawSet rfl emptyInit).symm.trans hu)
  exact Bool.false_ne_true hrcvd

end Sys2Proof.Machine

/-!
SUPPORT. Where the statement on the commands of links fails: its clauses on a response leave out the command that a replay injects,
whose response is discarded (R429).
-/
namespace Sys2Proof.Machine
variable {s : State}

/-- SL_SLIP as an Ebryn command. -/
def slSlipCommand (h : CmdHdr) (group lane : Nat) : Ebryn := ⟨h, 0x0805, .r, argBytes [(6, 1, group), (7, 1, lane)], false⟩

/-- SL_SLIP of a group that aligns slips the lane and is answered at once (R281). -/
theorem exec_slSlip_of_aligning {h : CmdHdr} {g v : Nat} (ha : s.accepts (slSlipCommand h g v)) (hg : g < 16) (hv : v < 4)
    (haligning : (s.entered (slSlipCommand h g v)).aligning g = true) :
    exec (.slSlip h g v) s = .next (((s.entered (slSlipCommand h g v)).slipLane g v).respond h.ref 0 []) := by
  refine congrArg Host.Outcome.next ((submit_ok ha).trans (checks_ok fun x hx => ?_))
  obtain rfl | rfl : x = (decide (16 ≤ g ∨ 4 ≤ v), 3) ∨ x = (!(s.entered (slSlipCommand h g v)).aligning g, 5) := by simpa using hx
  · exact decide_eq_false (by omega)
  · exact congrArg Bool.not haligning

/-- The replaying stack with group 0 in its alignment phase. -/
def replayAligns : State := { replayInjects with links := [(16, { trainPhase := 2 })] }

theorem replayAligns_canon : replayAligns.canon := { replayInjects_canon with links := by decide }

theorem replayAligns_link (k : Nat) : replayAligns.link k = if k = 16 then { trainPhase := 2 } else {} :=
  mget_singleton _ 16 _ k

theorem replayAligns_tables : replayAligns.tables :=
  { replayInjects_tables with
    rxStream := fun k => by rw [replayAligns_link]; split <;> rfl
    rxEnts := fun k => by rw [replayAligns_link]; split <;> rfl
    txQ := fun k => by rw [replayAligns_link]; split <;> rfl
    badFrames := fun k => by rw [replayAligns_link]; split <;> rfl
    replays := fun k => by rw [replayAligns_link]; split <;> rfl
    carriedCr := fun k => by rw [replayAligns_link]; split <;> rfl }

/-- The command of the record: port 0 asks for a slip of lane 0 of group 0. -/
def injectedSlip : Ebryn := slSlipCommand injectedHdr 0 0

theorem replayAligns_accepts : replayAligns.accepts injectedSlip :=
  ⟨⟨by decide, by decide, rfl⟩, by decide⟩

/-- The state in which the lane has slipped and the injected command is not answered yet. -/
def injectedSlipped : State := (replayAligns.entered injectedSlip).slipLane 0 0

theorem exec_injectedSlip : exec (.slSlip injectedHdr 0 0) replayAligns = .next (injectedSlipped.respond injectedHdr.ref 0 []) :=
  exec_slSlip_of_aligning replayAligns_accepts (by decide) (by decide) (by decide)

/-- Refutes O48: the response of an SL_SLIP that a replay injects on port 0 is discarded, so that nothing joins the port's
responses. -/
theorem not_linkCommandsAndEnumeration : ¬ Obligations.LinkCommandsAndEnumeration := by
  intro h
  obtain ⟨-, -, -, -, -, -, hslip, -⟩ := h replayAligns injectedHdr 0 0 0 replayAligns_canon replayAligns_tables (by decide)
  obtain ⟨haligning, -⟩ := hslip replayAligns_accepts (by decide) (by decide)
  obtain ⟨u, hu, -, -, hrsp⟩ := haligning (by decide)
  cases Host.Outcome.next.inj (exec_injectedSlip.symm.trans hu)
  obtain ⟨q, hq, hinjected⟩ : ∃ q, injectedSlipped.inprogOf injectedHdr.ref = some q ∧ q.injected = true :=
    ⟨_, (Option.some_get (by decide)).symm, by decide⟩
  have hkept := State.respond_rsp_of_injected hq hinjected 0 []
  have hempty : mget (fun _ => []) injectedSlipped.mail.rsp 0 = [] := by decide
  have hjoined := hrsp rfl
  rw [hkept, hempty] at hjoined
  exact List.append_ne_nil_of_right_ne_nil _ (List.cons_ne_nil _ _) hjoined.symm

end Sys2Proof.Machine

section
/-! One thread elaborates what follows, so that one heap serves the states that the kernel evaluates. -/
set_option Elab.async false

/-!
SUPPORT. Every command answers a next state and leaves the queue alone; a step takes the command at the queue's front.
-/
namespace Sys2Proof.Machine

/-- Every arm of the table of meanings answers a next state. -/
theorem exec_next (c : Instr) (s : State) : ∃ t, exec c s = .next t := by
  cases c <;> exact ⟨_, rfl⟩

/-- No primitive change touches the queue of waiting commands. -/
theorem clo_pending (q : List Instr) (m : Nat) : Clo m fun t => t.pending = q := by
  constructor <;> intros <;> assumption

/-- Settles O1: `step` matches on the queue, and no word decodes to a command. -/
theorem stepRunsTheFrontCommand : Obligations.StepRunsTheFrontCommand := by
  refine ⟨fun c s rest => rfl, fun s hq => ?_, fun s nbits w => rfl⟩
  unfold step
  rw [hq]

/-- Settles O2: every arm of `exec` answers a next state, and the queue is among what every primitive change keeps. -/
theorem everyCommandCompletes : Obligations.EveryCommandCompletes := by
  intro c s
  obtain ⟨t, ht⟩ := exec_next c s
  have hq : t.pending = s.pending := (exec_inv (P := fun t => t.pending = s.pending) rfl c (clo_pending s.pending _)).next ht
  exact ⟨t, ht, hq⟩

end Sys2Proof.Machine

/-!
SUPPORT. RECOVER with the shutdown latch set is served at level I (R389) and denied by its own check, so that the service
level of its row is not what the model asks of it.
-/
namespace Sys2Proof.Machine

/-- A stack that has shut down after its profile was loaded, with the loop stopped: level I is served, level S is not. -/
def shutDown : State :=
  { State.reset with regs := [(Reg.addr .TH_STATUS 0, 0x80000000)], boot := { step := 4, por := false } }

/-- RECOVER as port 0 sends it, and its row. -/
def recoverHdr : CmdHdr := { port := 0, node := 0, ep := 0, tag := 7, len := 58 }
def recoverCommand : Ebryn := ⟨recoverHdr, 0x0B03, .s, argBytes [(6, 1, 0)], false⟩

/-- The command as the model submits it while the shutdown latch is set (R389). -/
def recoverShut : Ebryn := { recoverCommand with svc := .i }

theorem shutDown_hasRoom : shutDown.hasRoom recoverHdr := ⟨by decide, by decide +kernel, rfl⟩

/-- The model lets the command through its level and denies it by its own check. -/
theorem exec_recover_shutDown :
    exec (.recover recoverHdr 0 []) shutDown = .next ((shutDown.entered recoverCommand).respond recoverHdr.ref 4 []) := by
  have haccepts : shutDown.accepts recoverShut := ⟨shutDown_hasRoom, by decide +kernel⟩
  have hlevel : (if shutDown.shutdown then Svc.i else Svc.s) = .i := by decide +kernel
  have hlatch : (shutDown.entered recoverShut).shutdown = true := by decide +kernel
  unfold exec execRecover
  rw [hlevel]
  refine congrArg Host.Outcome.next ((submit_ok haccepts).trans ?_)
  simp only [State.checks, hlatch, List.find?_cons]
  rfl

/-- Refutes O12: in a stack that has shut down the model answers RECOVER with DENIED, where its row's level S is not served and the
statement asks for NOT_READY. -/
theorem not_firstFailingCheckAnswers : ¬ Obligations.FirstFailingCheckAnswers := by
  intro h
  obtain ⟨-, -, -, -, hlevel⟩ := h shutDown (.recover recoverHdr 0 []) recoverCommand rfl
  have hnext := hlevel shutDown_hasRoom (by decide) (by decide +kernel) rfl (by decide +kernel)
  have hsame := Host.Outcome.next.inj (exec_recover_shutDown.symm.trans hnext)
  have hrsp := congrArg (fun t : State => mget (fun _ => []) t.mail.rsp 0) hsame
  exact absurd hrsp (by decide +kernel)

end Sys2Proof.Machine

/-!
SUPPORT. What entering and answering a command does, as the statements on the mailbox put it.
-/
namespace Sys2Proof.Machine

/-- The registers that entering may change: the command count and those of the recorder. -/
theorem reg_of_entryMask (r : Reg) : entryMask.testBit (24 + r.ctorIdx) = true →
    r ∈ [Reg.MB_CMD_COUNT, .RP_STATUS, .RP_DROP, .RP_HAZARD, .RP_FIRST_LO, .RP_FIRST_HI] := by
  cases r <;> decide

/-- Settles O13: the mailbox by `entered_mail`, the count by `entered_count`, the rest by the mask of entering. -/
theorem enteringACommand : Obligations.EnteringACommand := by
  intro s e hc t
  obtain ⟨j, hmail⟩ := entered_mail s e
  have same : Same entryMask s t := entered_same s e
  refine ⟨⟨true, s.mail.hdrTag, j, congrArg Mail.inprog hmail⟩, congrArg Mail.block hmail, entered_count hc.regs e, ?regs,
    same.mem rfl, same.synd rfl, same.staged rfl, same.commit rfl, same.rooms rfl, same.stairs rfl, same.banks rfl, same.sched rfl,
    same.engs rfl, same.links rfl, same.crypto rfl, same.net rfl, same.boot rfl, same.pow rfl, same.clk rfl, same.sec rfl,
    same.journal rfl, same.flash rfl, same.fuses rfl, same.ecLog rfl, same.epoch rfl⟩
  case regs =>
    intro r n hr
    exact entered_rd hc.regs e (Bool.eq_false_iff.2 fun hbit => hr (reg_of_entryMask r hbit)) n

end Sys2Proof.Machine

/-!
SUPPORT. Little-endian numbers and the blocks of the mailbox (Tables 17-2 and 17-3), byte by byte.
-/
namespace Sys2Proof.Machine

/-! ### Numbers in bytes -/

@[simp] theorem length_leBytes (n v : Nat) : (leBytes n v).length = n := by
  induction n generalizing v with
  | zero => rfl
  | succ n ih => simp [leBytes, ih]

/-- Little-endian bytes spell the number modulo their range. -/
theorem leNat_leBytes (n v : Nat) : leNat (leBytes n v) = v % 256 ^ n := by
  induction n generalizing v with
  | zero => simp [leBytes, leNat, Nat.mod_one]
  | succ n ih =>
    rw [leBytes, leNat, ih, BitVec.toNat_ofNat, Nat.pow_succ' (m := 256), Nat.mod_mul]

theorem leNat_leBytes_of_lt {n v : Nat} (h : v < 256 ^ n) : leNat (leBytes n v) = v := by
  rw [leNat_leBytes, Nat.mod_eq_of_lt h]

/-! ### Parts of a list -/

section lists
variable {α : Type}

@[simp] theorem length_fit (d : α) (n : Nat) (l : List α) : (fit d n l).length = n := by
  simp only [fit, List.length_append, List.length_take, List.length_replicate]
  omega
theorem fit_of_le {d : α} {n : Nat} {l : List α} (h : l.length ≤ n) : fit d n l = l ++ List.replicate (n - l.length) d := by
  rw [fit, List.take_of_length_le h]
/-- The slice that follows a prefix. -/
theorem slice_append_right (a l : List α) {off : Nat} (h : off = a.length) (n : Nat) : slice (a ++ l) off n = slice l 0 n := by
  subst h
  simp [slice]
theorem slice_append_self (a l : List α) {n : Nat} (h : n = a.length) : slice (a ++ l) 0 n = a := by
  subst h
  simp [slice]
end lists

/-! ### A response block -/

section response
variable {data : List Byte} (hlen : data.length ≤ 60) (status tag : Nat)
include hlen

/-- The parts of a response block (Table 17-3). -/
theorem rspBlock_eq : rspBlock status tag data =
    leBytes 1 status ++ (leBytes 1 data.length ++ (leBytes 2 tag ++ (data ++ List.replicate (60 - data.length) 0))) := by
  unfold rspBlock
  rw [fit_of_le (by simp; omega)]
  simp only [List.length_append, length_leBytes, List.append_assoc, show 64 - (1 + (1 + (2 + data.length))) = 60 - data.length by omega]

theorem rspBlock_status : slice (rspBlock status tag data) 0 1 = leBytes 1 status := by
  rw [rspBlock_eq hlen, slice_append_self _ _ (by simp)]
theorem rspBlock_length : slice (rspBlock status tag data) 1 1 = leBytes 1 data.length := by
  rw [rspBlock_eq hlen, slice_append_right _ _ (by simp), slice_append_self _ _ (by simp)]
theorem rspBlock_tag : slice (rspBlock status tag data) 2 2 = leBytes 2 tag := by
  rw [rspBlock_eq hlen, ← List.append_assoc, slice_append_right _ _ (by simp), slice_append_self _ _ (by simp)]
theorem rspBlock_data : slice (rspBlock status tag data) 4 data.length = data := by
  rw [rspBlock_eq hlen, ← List.append_assoc, ← List.append_assoc, slice_append_right _ _ (by simp), slice_append_self _ _ rfl]

end response

/-! ### Where a response goes -/

theorem find?_dropInprog (l : List InProg) (r : CmdRef) :
    (dropInprog l r).find? (fun e => e.port == r.1 && e.node == r.2.1 && e.ep == r.2.2.1 && e.tag == r.2.2.2) = none := by
  refine List.find?_eq_none.2 fun e he => ?_
  have hkept := (List.mem_filter.1 he).2
  simpa [Bool.and_eq_true, imp_iff_not_or, or_assoc] using hkept

section deliver
variable {s : State} {r : CmdRef} {p : InProg} (hp : s.inprogOf r = some p) (hsound : p.injected = false) (status : Nat) (data : List Byte)
include hp hsound

/-- The state in which a command is no longer in progress. -/
def State.cmdOff (s : State) (r : CmdRef) : State := s.updMail fun m => { m with inprog := dropInprog m.inprog r }

/-- The response of a command that no replay injected goes to its port; off a sideband that does not run the command ends. -/
theorem respond_of_inProgress (hruns : ¬(1 ≤ r.1 ∧ r.1 ≤ 16 ∧ s.sideRuns = false)) :
    s.respond r status data = (s.cmdOff r).deliver r p.hdrTag (rspBlock status r.2.2.2 data) := by
  have hsides : ¬(1 ≤ r.1 ∧ r.1 ≤ 16 ∧ (!s.sideRuns) = true) := by simpa using hruns
  unfold State.respond
  rw [hp]
  extract_lets hdrTag silent blk keep t
  have ht : t = s.cmdOff r := if_neg hsides
  have hloud : ¬silent = true := by simp only [silent, hsound]; decide
  exact (if_neg hloud).trans (congrArg (State.deliver · r p.hdrTag blk) ht)
/-- On a sideband that does not run the block is held and the command stays in progress (R385). -/
theorem respond_of_held (hport : 1 ≤ r.1 ∧ r.1 ≤ 16) (hstops : s.sideRuns = false) :
    s.respond r status data = s.deliver r p.hdrTag (rspBlock status r.2.2.2 data) := by
  have hsides : 1 ≤ r.1 ∧ r.1 ≤ 16 ∧ (!s.sideRuns) = true := ⟨hport.1, hport.2, by simp [hstops]⟩
  unfold State.respond
  rw [hp]
  extract_lets hdrTag silent blk keep t
  have ht : t = s := if_pos hsides
  have hloud : ¬silent = true := by simp only [silent, hsound]; decide
  exact (if_neg hloud).trans (congrArg (State.deliver · r p.hdrTag blk) ht)

end deliver

theorem inprogOf_cmdOff (s : State) (r : CmdRef) : (s.cmdOff r).inprogOf r = none := find?_dropInprog s.mail.inprog r

section ports
variable (t : State) (port node ep tag hdrTag : Nat) (blk : List Byte)

theorem deliver_port0 : (t.deliver (0, node, ep, tag) hdrTag blk).mail.inprog = t.mail.inprog ∧
    (t.deliver (0, node, ep, tag) hdrTag blk).mail.rsp = mupd (fun _ => []) t.mail.rsp 0 (· ++ [blk]) := by
  unfold State.deliver
  simp only [if_true]
  split <;> exact ⟨rfl, rfl⟩
variable {port}
theorem deliver_sideband (h1 : 1 ≤ port) (h2 : port ≤ 16) : t.deliver (port, node, ep, tag) hdrTag blk =
    if t.sideRuns then t.updMail fun m => m.sendBlock port 2 blk
    else t.updMail fun m => { m with rsp := mupd (fun _ => []) m.rsp port (· ++ [blk]) } := by
  unfold State.deliver
  simp only [if_neg (show ¬port = 0 by omega), if_pos h2]
theorem deliver_link (h : 32 ≤ port) : t.deliver (port, node, ep, tag) hdrTag blk =
    t.updLink (port - 16) fun l => { l with lmbOut := l.lmbOut ++ [blk] } := by
  unfold State.deliver
  simp only [if_neg (show ¬port = 0 by omega), if_neg (show ¬port ≤ 16 by omega), if_neg (show ¬port = 17 by omega), if_pos h]

end ports

/-- The MB_RSP packet of a response (R147, R386). -/
def State.rspPacket (s : State) (node ep hdrTag : Nat) (blk : List Byte) : Packet :=
  { type := 9, vc := 3, flits := 1, dest := epDest node ep, len := 63, tag := hdrTag % 1024, dstPlane := hdrTag / 1024, srcEp := 546,
    srcNode := s.node, hops := s.f Fld.CO_CFG_HOP_LIMIT, payload := blk }

/-- Settles O14: the block by its parts, then one rule of `deliver` for each kind of port. -/
theorem responseLeavesItsPort : Obligations.ResponseLeavesItsPort := by
  intro s port node ep tag status data p r t hp hsound hlen hstatus htag
  have runs (h : ¬(1 ≤ port ∧ port ≤ 16 ∧ s.sideRuns = false)) : t = (s.cmdOff r).deliver r p.hdrTag (rspBlock status tag data) :=
    respond_of_inProgress hp hsound status data h
  refine ⟨length_fit .., ?_, ?_, ?_, rspBlock_data hlen status tag, ?port0, ?sends, ?holds, ?packet, ?link⟩
  · rw [rspBlock_status hlen, leNat_leBytes_of_lt hstatus]
  · rw [rspBlock_length hlen, leNat_leBytes_of_lt (by omega)]
  · rw [rspBlock_tag hlen, leNat_leBytes_of_lt htag]
  case port0 =>
    rintro rfl hrsp
    obtain ⟨hinprog, hqueue⟩ := deliver_port0 (s.cmdOff r) node ep tag p.hdrTag (rspBlock status tag data)
    rw [runs (by omega)]
    refine ⟨by rw [hqueue]; exact mget_mput_same hrsp _ _, ?_⟩
    unfold State.inprogOf
    rw [hinprog]
    exact inprogOf_cmdOff s r
  case sends =>
    intro h1 h2 hside
    have ht : t = _ := (runs (by simp [hside])).trans (deliver_sideband (s.cmdOff r) node ep tag p.hdrTag _ h1 h2)
    rw [if_pos (show (s.cmdOff r).sideRuns = true from hside)] at ht
    rw [ht]
    exact ⟨rfl, inprogOf_cmdOff s r⟩
  case holds =>
    intro h1 h2 hside hrsp
    have ht : t = _ := (respond_of_held hp hsound status data ⟨h1, h2⟩ hside).trans (deliver_sideband s node ep tag p.hdrTag _ h1 h2)
    rw [if_neg (by simp [hside])] at ht
    rw [ht]
    exact ⟨mget_mput_same hrsp _ _, hp⟩
  case packet =>
    rintro rfl
    rw [runs (by omega)]
    exact ⟨inprogOf_cmdOff s r, s.rspPacket node ep p.hdrTag (rspBlock status tag data), rfl, rfl, rfl, rfl, rfl, rfl, rfl, rfl⟩
  case link =>
    intro h32 hlinks
    rw [runs (by omega), deliver_link _ node ep tag p.hdrTag _ h32]
    refine ⟨?_, inprogOf_cmdOff s r⟩
    rw [State.link_updLink (s := s.cmdOff r) hlinks, if_pos rfl]
    rfl

end Sys2Proof.Machine

/-!
SUPPORT. The status commands, and the commands that hand over records: an accepted one runs in the state in which it has entered.
-/
namespace Sys2Proof.Machine

/-- A check on an index in range passes. -/
theorem checks_index {s : State} {h : CmdHdr} {n k st : Nat} {run : State → State} (hk : k < n) :
    s.checks h [(decide (n ≤ k), st)] run = run s :=
  checks_ok fun x hx => by
    obtain rfl := List.mem_singleton.1 hx
    exact decide_eq_false (Nat.not_le.mpr hk)

/-- The checks of a status command of an engine that exists and is not fallow pass. -/
theorem checks_engine {s : State} {h : CmdHdr} {e : Nat} {run : State → State} (he : e < 256) (hfallow : s.engState e ≠ 6) :
    s.checks h (s.dspChecks e false []) run = run s :=
  checks_ok fun x hx => by
    have hx : x = (decide (256 ≤ e), 3) ∨ x = (decide (s.engState e = 6), 4) ∨ x = (false, 5) := by
      simpa [State.dspChecks] using hx
    obtain rfl | rfl | rfl := hx
    · exact decide_eq_false (Nat.not_le.mpr he)
    · exact decide_eq_false hfallow
    · rfl

section accepted
variable {s : State} {e : Ebryn} (ha : s.accepts e)
include ha

/-- What an accepted row answers is what its meaning gives in the state in which the command has entered. -/
theorem next_submit_ok {run : State → State} {t : State} (ht : run (s.entered e) = t) :
    (.next (s.submit e.h e.op e.svc e.args run e.deny) : Host.Outcome State Fault Refusal) = .next t :=
  congrArg Host.Outcome.next ((submit_ok ha).trans ht)

end accepted

/-- Settles O15: each row's command enters, passes the check of its argument and answers with the registers it lists. -/
theorem statusCommandsAnswer : Obligations.StatusCommandsAnswer := by
  intro s h e ha t
  refine ⟨?_, ?_, ?_, ?bank, ?room, ?_, ?engine⟩
  case bank => rintro bank hbank ⟨⟩; exact next_submit_ok ha (checks_index hbank)
  case room => rintro room hroom ⟨⟩; exact next_submit_ok ha (checks_index hroom)
  case engine => rintro engine hengine hfallow ⟨⟩; exact next_submit_ok ha (checks_engine hengine hfallow)
  all_goals rintro ⟨⟩; exact next_submit_ok ha rfl

/-- Settles O16: as for the status commands of the other units. -/
theorem unitStatusCommandsAnswer : Obligations.UnitStatusCommandsAnswer := by
  intro s h e ha t
  refine ⟨?port, ?group, ?range, ?_, ?thermal, ?_, ?_, ?_, ?_, ?_⟩
  case port =>
    rintro port hport ⟨⟩
    refine next_submit_ok ha ((checks_index hport).trans ?_)
    rw [List.append_assoc]; rfl
  case group =>
    rintro group hgroup ⟨⟩
    refine next_submit_ok ha ((checks_index hgroup).trans ?_)
    rw [List.append_assoc]; rfl
  case range => rintro first hfirst ⟨⟩; exact next_submit_ok ha (checks_index hfirst)
  case thermal => rintro first hfirst ⟨⟩; exact next_submit_ok ha (checks_index hfirst)
  all_goals rintro ⟨⟩; exact next_submit_ok ha rfl

/-! ### Records -/

theorem entered_evq (s : State) (e : Ebryn) : (s.entered e).mail.evq = s.mail.evq := by
  obtain ⟨j, hmail⟩ := entered_mail s e
  rw [hmail]

/-- Settles O17: the queue, the log or the records lose what the answer holds, and the mask of the port is written. -/
theorem recordsAreHandedOver : Obligations.RecordsAreHandedOver := by
  intro s h e ha hc t
  have hevq : t.mail.evq = s.mail.evq := entered_evq s e
  refine ⟨?events, ?log, ?selftest, ?mask⟩
  case events =>
    rintro ⟨⟩
    refine ⟨t.updMail fun m => { m with evq := mupd (fun _ => []) m.evq 0 (·.drop 3) }, next_submit_ok ha ?_, fun hwf => ?_⟩
    · simp only [List.length_take]; rfl
    · have hwf : mwf (fun _ => []) t.mail.evq = true := by rw [hevq]; exact hwf
      exact ⟨(mget_mput_same hwf _ _).trans (by rw [hevq]), fun k hk => (mget_mput_ne hwf hk _).trans (by rw [hevq])⟩
  case log =>
    rintro ⟨⟩
    have hlog : t.ecLog = s.ecLog := (entered_same s _).ecLog rfl
    refine ⟨_, next_submit_ok ha rfl, ?_, ?_⟩
    · exact ((respond_same _ _ _ _).ecLog rfl).trans (congrArg (List.drop 4) hlog)
    · simp only [List.length_take, ← hlog]; rfl
  case selftest =>
    rintro ⟨⟩
    have hboot : t.boot = s.boot := (entered_same s _).boot rfl
    refine ⟨t.popRecords (min 4 s.boot.records.length), next_submit_ok ha ?_, ?_⟩
    · simp only [List.length_take, ← hboot]; rfl
    · show (t.boot.records).drop (min 4 s.boot.records.length) = _
      rw [hboot, ← List.drop_eq_drop_min]
  case mask =>
    rintro mask hport ⟨⟩
    have hr : t.regsOk := (entered_canon hc _).regs
    refine ⟨t.setF Fld.MB_EVT_MASK_MASK h.port mask, next_submit_ok ha rfl, State.f_setF_same hr _ rfl _ _, fun r n hrn => ?_⟩
    obtain hne | ⟨hn, hne⟩ := hrn
    · exact State.rd_setF_ne hr hne _ _ _
    · by_cases hreg : r = .MB_EVT_MASK
      · subst hreg
        refine State.rd_wr_inst hr _ ?_ _
        show n % 17 ≠ h.port % 17
        omega
      · exact State.rd_setF_ne hr hreg _ _ _

end Sys2Proof.Machine

/-!
SUPPORT. The fuse array (R413, R409, R410, R132): which operations write it, and how. Everything else keeps it, by the masks of
Laws/Closed.lean, and each operation that writes it either lets it grow or fuses one transition of Table 18-3.
-/
namespace Sys2Proof.Machine

/-! ### How the array may change -/

/-- The transitions of Table 18-3. -/
def lcMoves : List (Nat × Nat) := [(0, 1), (1, 2), (2, 3), (0, 4), (2, 4), (3, 4)]

/-- What is written besides a transition: the minimum SVN is raised, spare entries are added (R409, R132). -/
structure Fuses.Grows (q r : Fuses) : Prop where
  lc : r.lc = q.lc
  svn : q.svn ≤ r.svn
  uid : r.uid = q.uid
  spares : ∀ x, x ∈ q.spares → x ∈ r.spares

/-- What one step may do: growth, and at most one transition. -/
structure Fuses.Moves (q r : Fuses) : Prop where
  lc : r.lc = q.lc ∨ (q.lc, r.lc) ∈ lcMoves
  svn : q.svn ≤ r.svn
  uid : r.uid = q.uid
  spares : ∀ x, x ∈ q.spares → x ∈ r.spares

theorem Fuses.Grows.refl (q : Fuses) : q.Grows q := ⟨rfl, Nat.le_refl _, rfl, fun _ h => h⟩
theorem Fuses.Grows.trans {p q r : Fuses} (h : p.Grows q) (k : q.Grows r) : p.Grows r :=
  ⟨k.lc.trans h.lc, h.svn.trans k.svn, k.uid.trans h.uid, fun x hx => k.spares x (h.spares x hx)⟩
theorem Fuses.Grows.moves {q r : Fuses} (h : q.Grows r) : q.Moves r := ⟨.inl h.lc, h.svn, h.uid, h.spares⟩
theorem Fuses.Moves.refl (q : Fuses) : q.Moves q := (Fuses.Grows.refl q).moves

/-- What holds of the array is kept by every change of another kind. -/
theorem clo_ofFuses (F : Fuses → Prop) {m : Nat} (h : m.testBit 17 = false) : Clo m fun t => F t.fuses := by
  constructor
  case fuses => exact fun i => by rw [h] at i; cases i
  all_goals intros; assumption

/-! ### Growth -/

/-- The array of a state is grown from q. -/
def FusesGrown (q : Fuses) (t : State) : Prop := q.Grows t.fuses

theorem clo_grown (q : Fuses) {m : Nat} (h : m.testBit 17 = false) : Clo m (FusesGrown q) := clo_ofFuses q.Grows h

section grows
variable {q : Fuses} {s : State} (k : FusesGrown q s)
include k

theorem FusesGrown.setF (F : Field) (i v : Nat) : FusesGrown q (s.setF F i v) := k
theorem FusesGrown.wr (r : Reg) (i : Nat) (w : Word) : FusesGrown q (s.wr r i w) := k
theorem FusesGrown.raiseSvn {v : Nat} (h : s.fuses.svn < v) : FusesGrown q (s.updFuses fun p => { p with svn := v }) :=
  ⟨k.lc, k.svn.trans (Nat.le_of_lt h), k.uid, k.spares⟩
theorem FusesGrown.drawn : FusesGrown q s.drawn := k
theorem FusesGrown.updBoot (g : Boot → Boot) : FusesGrown q (s.updBoot g) := k

/-- R132: the repairs that the journal holds become field fuse entries. -/
theorem State.grows_fieldFuses : FusesGrown q s.fieldFuses := by
  unfold State.fieldFuses
  extract_lets l t
  have ht : FusesGrown q t := by
    refine State.each_inv (clo_ofFuses q.Grows rfl) k fun u r hu => hu.trans ?_
    have hset : (u.setSpare r.1 r.2.1 2 r.2.2).fuses = u.fuses := State.setSpare_inv (clo_ofFuses (· = u.fuses) rfl) rfl
    exact ⟨(congrArg Fuses.lc hset :), Nat.le_of_eq (congrArg Fuses.svn hset :).symm, (congrArg Fuses.uid hset :),
      fun x hx => List.mem_append_left _ (by rw [hset]; exact hx)⟩
  split
  · exact ht
  · exact State.journalBatch_inv (clo_ofFuses q.Grows rfl) ht

/-- R371: what RECOVER does before the rooms run again. -/
theorem State.grows_recoverStart : FusesGrown q s.recoverStart := by
  have c {m : Nat} : m.testBit 17 = false → Clo m (FusesGrown q) := clo_grown q
  unfold State.recoverStart
  extract_lets +onlyGivenNames -merge t u v hot w x y z
  have ht : FusesGrown q t := State.clearBooksFault_inv (c rfl) (State.grows_fieldFuses (State.readJournal_inv (c rfl) k))
  have hu : FusesGrown q u := State.settleRequests_inv (c rfl) ht
  have hv : FusesGrown q v := by
    refine State.each_inv (c rfl) hu fun a n ha => ite_p (Q := FusesGrown q) (fun _ => ha) fun _ => ?_
    have hempty := State.each_inv (l := List.range 4) (f := fun s p => s.emptyPlane n p) (c rfl) ha fun _ _ hb => State.emptyPlane_inv (c rfl) hb
    exact State.trackOff_inv (c rfl) ((hempty.setF _ _ _).setF _ _ _)
  have hw : FusesGrown q w :=
    State.each_inv (c rfl) hv fun a n ha => ite_p (Q := FusesGrown q) (fun _ => ha) fun _ => ha
  have hz : FusesGrown q z := (((hw.setF _ _ _).setF _ _ _).setF _ _ _).updBoot _
  exact State.beginTests_inv (c rfl) (State.setStep_inv (c rfl) (State.leaveStep6_inv (c rfl) hz))

theorem State.grows_recoverOn : FusesGrown q s.recoverOn := by
  have c {m : Nat} : m.testBit 17 = false → Clo m (FusesGrown q) := clo_grown q
  unfold State.recoverOn
  split
  · exact k
  · extract_lets +onlyGivenNames -merge cmd t
    have ht : FusesGrown q t := k
    refine ite_p (fun _ => State.respondTo_inv (c rfl) ht) fun _ => ?_
    refine ite_p (fun _ => State.respondTo_inv (c rfl) (State.grows_recoverStart ht)) fun _ => ?_
    extract_lets +onlyGivenNames -merge u v w
    have hu : FusesGrown q u := State.each_inv (c rfl) ht fun a r ha =>
      ite_p (Q := FusesGrown q) (fun _ => ha) fun _ => State.remap_inv (c rfl) ha
    have hv : FusesGrown q v := State.recoveryTest_inv (c rfl) (State.grows_fieldFuses hu)
    have hw : FusesGrown q w := State.markFallow_inv (c rfl) hv
    refine ite_p (fun _ => State.respondTo_inv (c rfl) hw) fun _ => ?_
    exact State.commitBegin_inv (c rfl) (State.recoverRooms_inv (c rfl) (State.recoverySettings_inv (c rfl) (State.recoveryWipes_inv (c rfl) hw)))

theorem State.grows_recoverBegin (h : CmdHdr) (retest : Nat) (found : List TestFail) : FusesGrown q (s.recoverBegin h retest found) := by
  have c {m : Nat} : m.testBit 17 = false → Clo m (FusesGrown q) := clo_grown q
  unfold State.recoverBegin
  extract_lets +onlyGivenNames -merge t u v w x
  have hu : FusesGrown q u := ((((State.abandonReset_inv (c rfl) k : FusesGrown q s.abandonReset).setF _ _ _).setF _ _ _).setF _ _ _)
  have hv : FusesGrown q v := State.stopWork_inv (c rfl) (hu.wr _ _ _)
  have hw : FusesGrown q w :=
    State.askWakes_inv (c rfl) (State.holdFoundation_inv (c rfl) (State.freezeUnits_inv (c rfl) (State.endPending_inv (c rfl) hv)))
  have hx : FusesGrown q x := hw.updBoot _
  exact ite_p (Q := FusesGrown q) (fun _ => State.grows_recoverOn hx) fun _ => hx

/-- R409: the minimum SVN is raised where the running image's exceeds it. -/
theorem State.grows_reachReady : FusesGrown q s.reachReady := by
  have c {m : Nat} : m.testBit 17 = false → Clo m (FusesGrown q) := clo_grown q
  unfold State.reachReady
  extract_lets +onlyGivenNames -merge a b d e svn f g i
  have ha : FusesGrown q a := (State.setStep_inv (c rfl) k : FusesGrown q (s.setStep 12)).setF _ _ _
  have hd : FusesGrown q d := (((ha.updBoot _).setF _ _ _).setF _ _ _).setF _ _ _
  have he : FusesGrown q e := (hd.setF _ _ _).drawn
  clear_value e
  have hg : FusesGrown q g :=
    dite_p (fun hraise => ((he.raiseSvn hraise.2.1).setF _ _ _).setF _ _ _) fun _ => he
  clear_value g
  have hi : FusesGrown q i := State.event_inv (c rfl) hg
  exact State.each_inv (c rfl) (State.reShed_inv (c rfl) hi) fun _ _ ht => State.bgNext_inv (c rfl) ht

theorem State.grows_commitRespond : FusesGrown q s.commitRespond := by
  have c {m : Nat} : m.testBit 17 = false → Clo m (FusesGrown q) := clo_grown q
  unfold State.commitRespond
  split
  · exact k
  · rename_i cm hcm
    refine ite_p (fun _ => k) fun _ => ?_
    extract_lets +onlyGivenNames -merge t u
    have ht : FusesGrown q t := k
    have hu : FusesGrown q u := by
      unfold u
      split
      · exact State.respondTo_inv (c rfl) ht
      · exact State.grows_reachReady ht
      · exact State.respondTo_inv (c rfl) (State.recoverEnd_inv (c rfl) ht)
      · exact State.each_inv (c rfl) (State.enumEnd_inv (c rfl) ht) fun _ _ hb => State.pumpLmb_inv (c rfl) hb
      · exact State.respondTo_inv (c rfl) (State.originEnd_inv (c rfl) ht)
    split
    · exact State.enterSafe_inv (c rfl) (hu.updBoot _)
    · exact hu

end grows
end Sys2Proof.Machine

/-!
SUPPORT. The commands of the mailbox's table are rows of the command table, so that what holds of those rows holds of every command
that a transport delivers.
-/
namespace Sys2Proof.Machine

/-- The rows that deliver a command block, or an answer that a command waits for, and run a command inside. -/
def delivers : Instr → Bool
  | .i3cPrivateWrite .. | .mbCmd .. | .sidebandMessage .. | .responseArrival .. | .replayInjection .. => true
  | _ => false

/-- Every run of a list is that of a row that delivers nothing further. -/
def RunsRows (l : List (Nat × CmdRun)) : Prop := ∀ e ∈ l, ∀ h a f t, ∃ c : Instr, e.2 h a f t = exec c t ∧ delivers c = false

theorem RunsRows.nil : RunsRows [] := by
  intro e he
  cases he
theorem RunsRows.cons {n : Nat} {x : CmdRun} {l : List (Nat × CmdRun)} (hx : ∀ h a f t, ∃ c : Instr, x h a f t = exec c t ∧ delivers c = false)
    (hl : RunsRows l) : RunsRows ((n, x) :: l) := by
  intro e he
  cases he with
  | head => exact hx
  | tail _ h => exact hl e h
theorem RunsRows.append {l m : List (Nat × CmdRun)} (hl : RunsRows l) (hm : RunsRows m) : RunsRows (l ++ m) :=
  fun e he => (List.mem_append.1 he).elim (hl e) (hm e)

theorem cmdsDevice_rows : RunsRows cmdsDevice := by
  unfold cmdsDevice
  refine .cons (fun h a f t => ⟨.deviceInfo _, rfl, rfl⟩) ?_
  refine .cons (fun h a f t => ⟨.abort _ _, rfl, rfl⟩) ?_
  refine .cons (fun h a f t => ⟨.csrRead _ _ _, rfl, rfl⟩) ?_
  refine .cons (fun h a f t => ⟨.csrWrite _ _ _, rfl, rfl⟩) ?_
  refine .cons (fun h a f t => ⟨.memRead _ _ _, rfl, rfl⟩) ?_
  refine .cons (fun h a f t => ⟨.memWrite _ _ _, rfl, rfl⟩) ?_
  refine .cons (fun h a f t => ⟨.eventRead _, rfl, rfl⟩) ?_
  refine .cons (fun h a f t => ⟨.eventCfg _ _, rfl, rfl⟩) ?_
  refine .cons (fun h a f t => ⟨.nop _, rfl, rfl⟩) ?_
  refine .cons (fun h a f t => ⟨.clockStatus _, rfl, rfl⟩) ?_
  refine .cons (fun h a f t => ⟨.unitGate _ _ _ _, rfl, rfl⟩) ?_
  refine .cons (fun h a f t => ⟨.epochCommit _, rfl, rfl⟩) ?_
  refine .cons (fun h a f t => ⟨.epochDiscard _, rfl, rfl⟩) ?_
  refine .cons (fun h a f t => ⟨.booksAudit _, rfl, rfl⟩) ?_
  refine .cons (fun h a f t => ⟨.booksRead _ _, rfl, rfl⟩) ?_
  exact .nil
theorem cmdsRooms_rows : RunsRows cmdsRooms := by
  unfold cmdsRooms
  refine .cons (fun h a f t => ⟨.bankOwner _ _ _, rfl, rfl⟩) ?_
  refine .cons (fun h a f t => ⟨.bankGuest _ _ _, rfl, rfl⟩) ?_
  refine .cons (fun h a f t => ⟨.bankRetain _ _, rfl, rfl⟩) ?_
  refine .cons (fun h a f t => ⟨.bankWake _ _, rfl, rfl⟩) ?_
  refine .cons (fun h a f t => ⟨.bankWipe _ _, rfl, rfl⟩) ?_
  refine .cons (fun h a f t => ⟨.bankStatus _ _, rfl, rfl⟩) ?_
  refine .cons (fun h a f t => ⟨.planeLoad _ _ _, rfl, rfl⟩) ?_
  refine .cons (fun h a f t => ⟨.planeSave _ _ _, rfl, rfl⟩) ?_
  refine .cons (fun h a f t => ⟨.planeSwitch _ _ _, rfl, rfl⟩) ?_
  refine .cons (fun h a f t => ⟨.roomStatus _ _, rfl, rfl⟩) ?_
  refine .cons (fun h a f t => ⟨.roomPark _ _, rfl, rfl⟩) ?_
  refine .cons (fun h a f t => ⟨.roomUnpark _ _, rfl, rfl⟩) ?_
  refine .cons (fun h a f t => ⟨.schedStatus _, rfl, rfl⟩) ?_
  refine .cons (fun h a f t => ⟨.taskPost _ _ _, rfl, rfl⟩) ?_
  refine .cons (fun h a f t => ⟨.templateSet _ _ _ _ _ _, rfl, rfl⟩) ?_
  refine .cons (fun h a f t => ⟨.imageSet _ _ _ _, rfl, rfl⟩) ?_
  refine .cons (fun h a f t => ⟨.flowSet _ _ _ _ _, rfl, rfl⟩) ?_
  refine .cons (fun h a f t => ⟨.groupSet _ _ _, rfl, rfl⟩) ?_
  refine .cons (fun h a f t => ⟨.taskCancel _ _, rfl, rfl⟩) ?_
  refine .cons (fun h a f t => ⟨.schedDrain _ _, rfl, rfl⟩) ?_
  exact .nil
theorem cmdsLinks_rows : RunsRows cmdsLinks := by
  unfold cmdsLinks
  refine .cons (fun h a f t => ⟨.dspStatus _ _, rfl, rfl⟩) ?_
  refine .cons (fun h a f t => ⟨.dspHalt _ _, rfl, rfl⟩) ?_
  refine .cons (fun h a f t => ⟨.dspResume _ _, rfl, rfl⟩) ?_
  refine .cons (fun h a f t => ⟨.dspStep _ _, rfl, rfl⟩) ?_
  refine .cons (fun h a f t => ⟨.dspReset _ _ _, rfl, rfl⟩) ?_
  refine .cons (fun h a f t => ⟨.dspStart _ _ _ _, rfl, rfl⟩) ?_
  refine .cons (fun h a f t => ⟨.dpStatus _ _, rfl, rfl⟩) ?_
  refine .cons (fun h a f t => ⟨.dpRetrain _ _ _, rfl, rfl⟩) ?_
  refine .cons (fun h a f t => ⟨.dpDown _ _, rfl, rfl⟩) ?_
  refine .cons (fun h a f t => ⟨.dpUp _ _ _, rfl, rfl⟩) ?_
  refine .cons (fun h a f t => ⟨.slStatus _ _, rfl, rfl⟩) ?_
  refine .cons (fun h a f t => ⟨.slRetrain _ _ _, rfl, rfl⟩) ?_
  refine .cons (fun h a f t => ⟨.slDown _ _, rfl, rfl⟩) ?_
  refine .cons (fun h a f t => ⟨.slUp _ _ _, rfl, rfl⟩) ?_
  refine .cons (fun h a f t => ⟨.slSlip _ _ _, rfl, rfl⟩) ?_
  refine .cons (fun h a f t => ⟨.slPower _ _ _ _ _, rfl, rfl⟩) ?_
  refine .cons (fun h a f t => ⟨.enumerate _ _ _, rfl, rfl⟩) ?_
  refine .cons (fun h a f t => ⟨.enumAssign _ _ _, rfl, rfl⟩) ?_
  refine .cons (fun h a f t => ⟨.crStatus _ _, rfl, rfl⟩) ?_
  refine .cons (fun h a f t => ⟨.crRangeRekey _ _, rfl, rfl⟩) ?_
  refine .cons (fun h a f t => ⟨.crRangeReset _ _, rfl, rfl⟩) ?_
  refine .cons (fun h a f t => ⟨.linkKex _ _, rfl, rfl⟩) ?_
  refine .cons (fun h a f t => ⟨.kexMsg _ _ _ _ _ _, rfl, rfl⟩) ?_
  exact .nil
theorem cmdsSystem_rows : RunsRows cmdsSystem := by
  unfold cmdsSystem
  refine .cons (fun h a f t => ⟨.powerStatus _, rfl, rfl⟩) ?_
  refine .cons (fun h a f t => ⟨.thermalStatus _ _, rfl, rfl⟩) ?_
  refine .cons (fun h a f t => ⟨.ageReport _, rfl, rfl⟩) ?_
  refine .cons (fun h a f t => ⟨.thermTest _ _ _, rfl, rfl⟩) ?_
  refine .cons (fun h a f t => ⟨.foundationReset _, rfl, rfl⟩) ?_
  refine .cons (fun h a f t => ⟨.resume _, rfl, rfl⟩) ?_
  refine .cons (fun h a f t => ⟨.recover _ _ _, rfl, rfl⟩) ?_
  refine .cons (fun h a f t => ⟨.stackReset _, rfl, rfl⟩) ?_
  refine .cons (fun h a f t => ⟨.selftestRun _ _ _ _, rfl, rfl⟩) ?_
  refine .cons (fun h a f t => ⟨.selftestResult _, rfl, rfl⟩) ?_
  refine .cons (fun h a f t => ⟨.checkerMode _ _ _ _, rfl, rfl⟩) ?_
  refine .cons (fun h a f t => ⟨.ecLogRead _, rfl, rfl⟩) ?_
  refine .cons (fun h a f t => ⟨.lcStatus _, rfl, rfl⟩) ?_
  refine .cons (fun h a f t => ⟨.certRead _ _ _, rfl, rfl⟩) ?_
  refine .cons (fun h a f t => ⟨.attest _ _ _ _, rfl, rfl⟩) ?_
  refine .cons (fun h a f t => ⟨.lcTransition _ _ _ _, rfl, rfl⟩) ?_
  refine .cons (fun h a f t => ⟨.debugAccess _ _ _ _, rfl, rfl⟩) ?_
  exact .nil
theorem cmdsStore_rows : RunsRows cmdsStore := by
  unfold cmdsStore
  refine .cons (fun h a f t => ⟨.rpStatus _, rfl, rfl⟩) ?_
  refine .cons (fun h a f t => ⟨.recordStart _ _ _ _ _, rfl, rfl⟩) ?_
  refine .cons (fun h a f t => ⟨.recordStop _, rfl, rfl⟩) ?_
  refine .cons (fun h a f t => ⟨.replayStart _ _ _, rfl, rfl⟩) ?_
  refine .cons (fun h a f t => ⟨.replayStop _, rfl, rfl⟩) ?_
  refine .cons (fun h a f t => ⟨.storeStatus _, rfl, rfl⟩) ?_
  refine .cons (fun h a f t => ⟨.profileList _, rfl, rfl⟩) ?_
  refine .cons (fun h a f t => ⟨.profileWrite _ _ _ _, rfl, rfl⟩) ?_
  refine .cons (fun h a f t => ⟨.profileErase _ _, rfl, rfl⟩) ?_
  refine .cons (fun h a f t => ⟨.profilePush _ _ _, rfl, rfl⟩) ?_
  refine .cons (fun h a f t => ⟨.profileSelect _ _, rfl, rfl⟩) ?_
  refine .cons (fun h a f t => ⟨.fwWrite _ _ _, rfl, rfl⟩) ?_
  refine .cons (fun h a f t => ⟨.journalSet _ _ _ _, rfl, rfl⟩) ?_
  refine .cons (fun h a f t => ⟨.journalClear _ _, rfl, rfl⟩) ?_
  refine .cons (fun h a f t => ⟨.journalRead _ _, rfl, rfl⟩) ?_
  refine .cons (fun h a f t => ⟨.journalCompact _, rfl, rfl⟩) ?_
  exact .nil

theorem cmdTable_rows : RunsRows cmdTable :=
  (((cmdsDevice_rows.append cmdsRooms_rows).append cmdsLinks_rows).append cmdsSystem_rows).append cmdsStore_rows

/-- A delivered block is an opcode that no table holds, or runs a row on the state with the block. -/
theorem State.runCmd_cases (s : State) (port node ep : Nat) (blk : List Byte) (found : List TestFail) :
    (∃ h, s.runCmd port node ep blk found = s.unknownOp h) ∨
      ∃ c : Instr, delivers c = false ∧ exec c (s.updMail fun m => { m with block := blk }) = .next (s.runCmd port node ep blk found) := by
  unfold State.runCmd
  extract_lets op h
  split
  · exact .inl ⟨h, rfl⟩
  · next e he =>
    obtain ⟨c, hc, hdirect⟩ := cmdTable_rows e (List.mem_of_find?_eq_some he) h (slice blk 6 58) found (s.updMail fun m => { m with block := blk })
    obtain ⟨t, ht⟩ := exec_next c (s.updMail fun m => { m with block := blk })
    rw [hc, ht]
    exact .inr ⟨c, hdirect, ht⟩

end Sys2Proof.Machine

/-!
SUPPORT. The commands that write the fuse array: a life-cycle transition, RECOVER, the commit's answer, and those that run one of them.
-/
namespace Sys2Proof.Machine

/-- The array of a state is reached from q by one step's work. -/
def FusesMoved (q : Fuses) (t : State) : Prop := q.Moves t.fuses

theorem clo_moved (q : Fuses) {m : Nat} (h : m.testBit 17 = false) : Clo m (FusesMoved q) := clo_ofFuses q.Moves h
theorem clo_sameFuses (q : Fuses) {m : Nat} (h : m.testBit 17 = false) : Clo m fun t : State => t.fuses = q := clo_ofFuses (· = q) h

section moves
variable {q : Fuses} {s : State}

theorem FusesMoved.of_eq (k : s.fuses = q) : FusesMoved q s := by
  unfold FusesMoved
  rw [k]
  exact Fuses.Moves.refl q
theorem FusesMoved.of_grown (k : FusesGrown q s) : FusesMoved q s := Fuses.Grows.moves k
theorem FusesGrown.of_eq (k : s.fuses = q) : FusesGrown q s := by
  unfold FusesGrown
  rw [k]
  exact Fuses.Grows.refl q

/-- Only the transitions of Table 18-3 have key slots. -/
theorem lcMoves_of_lcSlots {n m : Nat} {x : Nat × Nat} (h : lcSlots n m = some x) : (n, m) ∈ lcMoves := by
  unfold lcSlots at h
  split at h
  case h_7 => cases h
  all_goals decide

/-- R413, R415: fusing a transition sets its state and keeps SVN, identity and spares. -/
theorem State.moved_fuseTransition (k : s.fuses = q) {target : Nat} (h : (q.lc, target) ∈ lcMoves) (payload : List Byte) :
    FusesMoved q (s.fuseTransition target payload) := by
  unfold State.fuseTransition
  extract_lets t
  have ht : t.fuses.svn = q.svn ∧ t.fuses.uid = q.uid ∧ t.fuses.spares = q.spares := by
    have c {m : Nat} : m.testBit 17 = false → Clo m fun t : State => t.fuses = q := clo_sameFuses q
    have of_eq {u : State} (e : u.fuses = q) : u.fuses.svn = q.svn ∧ u.fuses.uid = q.uid ∧ u.fuses.spares = q.spares := by simp [e]
    unfold t
    split
    · have h1 : (s.trng 0).2.fuses = q := State.trng_inv (c rfl) k
      have h2 : ((s.trng 0).2.trng 0).2.fuses = q := State.trng_inv (c rfl) h1
      have h3 : (((s.trng 0).2.trng 0).2.trng 0).2.fuses = q := State.trng_inv (c rfl) h2
      exact (of_eq h3 :)
    split
    · exact (of_eq k :)
    split
    · exact (of_eq k :)
    · exact of_eq k
  obtain ⟨hsvn, huid, hspares⟩ := ht
  exact ⟨.inr h, Nat.le_of_eq hsvn.symm, huid, fun x hx => (by rw [← hspares] at hx; exact hx)⟩

/-- R415: the end of LC_TRANSITION fuses its transition, or refuses it and fuses nothing. -/
theorem State.moved_transitionEnd (k : s.fuses = q) (r : CmdRef) (m : MemOp) : FusesMoved q (s.transitionEnd r m) := by
  have c {m : Nat} : m.testBit 17 = false → Clo m (FusesMoved q) := clo_moved q
  unfold State.transitionEnd
  extract_lets a target payload q' t u
  have hcon : s.consumeChallenge.fuses = q := State.consumeChallenge_inv (clo_sameFuses q rfl) k
  have hno : FusesMoved q s.consumeChallenge := .of_eq hcon
  split
  · exact State.respond_inv (c rfl) hno
  · next _ _ hslots =>
    have hmove : (q.lc, target) ∈ lcMoves := by rw [← k]; exact lcMoves_of_lcSlots hslots
    extract_lets ok
    refine ite_p (fun _ => State.respond_inv (c rfl) hno) fun _ => ?_
    refine ite_p (fun _ => State.respond_inv (c rfl) hno) fun _ => ?_
    refine ite_p (fun _ => State.authFails_inv (c rfl) hno) fun _ => ?_
    refine ite_p (fun _ => State.respond_inv (c rfl) hno) fun _ => ?_
    refine ite_p (fun _ => State.respond_inv (c rfl) hno) fun _ => ?_
    have hu : FusesMoved q u := State.updSec_inv (c rfl)
      (State.moved_fuseTransition (State.eraseSecrets_inv (clo_sameFuses q rfl) hcon) hmove payload)
    exact State.respond_inv (c rfl) (State.updBoot_inv (c rfl) hu)

/-- What a submitted command does to the array is what its meaning does. -/
theorem State.moved_submit (k : s.fuses = q) {h : CmdHdr} {op : Nat} {svc : Svc} {args : List Byte} {run : State → State} {deny : Bool}
    (hrun : ∀ t, t.fuses = q → FusesMoved q (run t)) : FusesMoved q (s.submit h op svc args run deny) := by
  have c {m : Nat} : m.testBit 17 = false → Clo m (FusesMoved q) := clo_moved q
  have hs : FusesMoved q s := .of_eq k
  unfold State.submit
  refine ite_p (fun _ => State.updMail_inv (c rfl) hs) fun _ => ?_
  refine ite_p (fun _ => State.updMail_inv (c rfl) (State.answerNow_inv (c rfl) hs)) fun _ => ?_
  refine ite_p (fun _ => State.updMail_inv (c rfl) (State.answerNow_inv (c rfl) hs)) fun _ => ?_
  extract_lets t
  have ht : t.fuses = q := State.enter_inv (clo_sameFuses q rfl) k
  split
  · exact State.respond_inv (c rfl) (.of_eq ht)
  · exact hrun t ht

theorem State.moved_checks (k : s.fuses = q) {h : CmdHdr} {l : List (Bool × Nat)} {run : State → State}
    (hrun : ∀ t, t.fuses = q → FusesMoved q (run t)) : FusesMoved q (s.checks h l run) := by
  unfold State.checks
  split
  · exact State.respond_inv (clo_moved q rfl) (.of_eq k)
  · exact hrun s k

/-! ### The rows -/

theorem execRecover_moved (h : CmdHdr) (retest : Nat) (found : List TestFail) : OutP (FusesMoved s.fuses) (execRecover h retest found s) :=
  State.moved_submit rfl fun _ ht => State.moved_checks ht fun _ hu => .of_grown (State.grows_recoverBegin (.of_eq hu) h retest found)

theorem execWakeComplete_moved (bank : Nat) : OutP (FusesMoved s.fuses) (execWakeComplete bank s) := by
  have hs : FusesGrown s.fuses (s.wakeComplete bank) := State.wakeComplete_inv (clo_grown s.fuses rfl) (.of_eq rfl)
  exact ite_p (Q := FusesMoved s.fuses) (fun _ => .of_grown (State.grows_recoverOn hs)) fun _ => .of_grown hs

theorem execCommitResponse_moved : OutP (FusesMoved s.fuses) (execCommitResponse s) :=
  FusesMoved.of_grown (State.grows_commitRespond (.of_eq rfl))

theorem execLcTransition_moved (h : CmdHdr) (target source len : Nat) : OutP (FusesMoved s.fuses) (execLcTransition h target source len s) := by
  refine State.moved_submit rfl fun t ht => ?_
  dsimp only
  split
  · have hcon : t.consumeChallenge.fuses = s.fuses := State.consumeChallenge_inv (clo_sameFuses _ rfl) ht
    exact State.respond_inv (clo_moved _ rfl) (.of_eq hcon)
  · have hread : ((t.uncommitted h.ref).readSource h.ref source len target).1.fuses = s.fuses :=
      State.readSource_inv (clo_sameFuses _ rfl) (State.uncommitted_inv (clo_sameFuses _ rfl) ht)
    split
    · exact State.moved_transitionEnd hread h.ref _
    · exact .of_eq hread

/-- A row that delivers nothing further moves the array by at most one transition. -/
theorem exec_moved {c : Instr} (hc : delivers c = false) {t : State} (ht : exec c s = .next t) : FusesMoved s.fuses t := by
  by_cases hb : blowsFuses c = false
  · exact .of_eq (exec_keeps_fuses ht (testBit_of_land_eq_zero (kinds_of_not_blowsFuses hb) rfl))
  · cases c
    case recover h retest found => exact (execRecover_moved h retest found).next ht
    case lcTransition h target source len => exact (execLcTransition_moved h target source len).next ht
    case wakeComplete bank => exact (execWakeComplete_moved bank).next ht
    case commitResponse => exact execCommitResponse_moved.next ht
    case i3cPrivateWrite | mbCmd | sidebandMessage | responseArrival | replayInjection => cases hc
    all_goals exact (hb rfl).elim

/-! ### Delivered commands -/

theorem State.moved_runCmd (k : s.fuses = q) (port node ep : Nat) (blk : List Byte) (found : List TestFail) :
    FusesMoved q (s.runCmd port node ep blk found) := by
  obtain ⟨h, e⟩ | ⟨c, hc, e⟩ := s.runCmd_cases port node ep blk found
  · rw [e]
    exact State.unknownOp_inv (clo_moved q rfl) (.of_eq k)
  · have hrun := exec_moved hc e
    rw [← k]
    exact hrun

theorem execI3cPrivateWrite_moved (bytes : List Byte) (found : List TestFail) : OutP (FusesMoved s.fuses) (execI3cPrivateWrite bytes found s) :=
  ite_p (Q := FusesMoved s.fuses) (fun _ => .of_eq rfl) fun _ =>
    ite_p (Q := FusesMoved s.fuses) (fun _ => .of_eq rfl) fun _ => State.moved_runCmd (s := s.updMail _) rfl 0 0 0 bytes found

theorem execSidebandMessage_moved (port header : Nat) (data : List Byte) (found : List TestFail) :
    OutP (FusesMoved s.fuses) (execSidebandMessage port header data found s) := by
  have hs : FusesMoved s.fuses s := .of_eq rfl
  have c {m : Nat} : m.testBit 17 = false → Clo m (FusesMoved s.fuses) := clo_moved s.fuses
  refine ite_p (Q := FusesMoved s.fuses) (fun _ => hs) fun _ => ?_
  unfold State.sideFrag
  refine ite_p (fun _ => State.updMail_inv (c rfl) hs) fun _ => ite_p (fun _ => State.updMail_inv (c rfl) hs) fun _ => ?_
  unfold State.sideBlock
  refine ite_p (fun _ => State.moved_runCmd (s := s.updMail _) rfl _ 0 0 _ found) fun _ => ?_
  exact ite_p (fun _ => State.enumAnswer_inv (c rfl) (State.updMail_inv (c rfl) hs)) fun _ => State.updMail_inv (c rfl) hs

theorem execMbCmd_moved (found : List TestFail) : OutP (FusesMoved s.fuses) (execMbCmd found s) := by
  have hs : FusesMoved s.fuses s := .of_eq rfl
  have c {m : Nat} : m.testBit 17 = false → Clo m (FusesMoved s.fuses) := clo_moved s.fuses
  unfold execMbCmd
  refine mk_next ?_
  split
  · exact hs
  · next p t htake =>
    have hsame : OptP (SndP fun t : State => t.fuses = s.fuses) (some (p, t)) := congr_p htake (State.takeOn_inv (clo_sameFuses _ rfl) rfl)
    have ht : FusesMoved s.fuses t := .of_eq hsame
    refine ite_p (fun _ => ht) fun _ => ?_
    refine ite_p (fun _ => State.badCmd_inv (c rfl) ht) fun _ => ?_
    refine ite_p (fun _ => State.badCmd_inv (c rfl) ht) fun _ => ?_
    exact State.updMail_inv (c rfl) (State.moved_runCmd (s := t.updMail _) hsame 17 _ _ _ found)

theorem execReplayInjection_moved (found : List TestFail) : OutP (FusesMoved s.fuses) (execReplayInjection found s) := by
  have hs : FusesMoved s.fuses s := .of_eq rfl
  have c {m : Nat} : m.testBit 17 = false → Clo m (FusesMoved s.fuses) := clo_moved s.fuses
  unfold execReplayInjection State.injectNext
  refine mk_next ?_
  split
  · exact hs
  · next r hr =>
    refine ite_p (fun _ => hs) fun _ => ?_
    extract_lets t u
    have ht : t.fuses = s.fuses := State.reach_inv (clo_sameFuses _ rfl) rfl
    have hu : FusesMoved s.fuses u := by
      refine ite_p (fun _ => ?_) fun _ => State.injectOther_inv (c rfl) (.of_eq ht)
      exact State.updRp_inv (c rfl) (State.moved_runCmd (s := t.updRp _) ht _ _ _ _ found)
    exact ite_p (fun _ => State.readFrom_inv (c rfl) hu) fun _ => hu

/-! ### Answers of the corridor -/

theorem State.moved_bellEnd (k : s.fuses = q) (r : CmdRef) (m : MemOp) : FusesMoved q (s.bellEnd r m) := by
  unfold State.bellEnd
  extract_lets e found t
  have ht : t.fuses = q := k
  exact ite_p (fun _ => State.deliver_inv (clo_moved q rfl) (.of_eq ht)) fun _ => State.moved_runCmd ht 18 _ _ _ _

theorem State.moved_memEnd (k : s.fuses = q) (op : Nat) (r : CmdRef) (m : MemOp) : FusesMoved q (s.memEnd op r m) := by
  have hs : FusesMoved q s := .of_eq k
  have c {m : Nat} : m.testBit 17 = false → Clo m (FusesMoved q) := clo_moved q
  unfold State.memEnd
  refine ite_p (fun _ => State.memReadEnd_inv (c rfl) hs) fun _ => ?_
  refine ite_p (fun _ => State.moved_transitionEnd k r m) fun _ => ?_
  refine ite_p (fun _ => State.debugEnd_inv (c rfl) hs) fun _ => ?_
  refine ite_p (fun _ => State.replayHeadEnd_inv (c rfl) hs) fun _ => ?_
  refine ite_p (fun _ => State.moved_bellEnd k r m) fun _ => ?_
  exact ite_p (fun _ => State.imageEnd_inv (c rfl) hs) fun _ => State.memWriteEnd_inv (c rfl) hs

theorem State.moved_mpAnswer (k : s.fuses = q) (req p : Packet) : FusesMoved q (s.mpAnswer req p) := by
  have hs : FusesMoved q s := .of_eq k
  have c {m : Nat} : m.testBit 17 = false → Clo m (FusesMoved q) := clo_moved q
  unfold State.mpAnswer
  refine ite_p (fun _ => State.kexAnswer_inv (c rfl) hs) fun _ => ?_
  split
  · exact State.startWaiting_inv (c rfl) (State.postAnswered_inv (c rfl) hs)
  · next e he =>
    extract_lets r
    refine ite_p (fun _ => State.respond_inv (c rfl) hs) fun _ => ?_
    have hans : (s.memAnswer e req p).1.fuses = q := State.memAnswer_inv (clo_sameFuses q rfl) k
    cases hm : (s.memAnswer e req p).2 with
    | some m => simpa only [hm] using State.moved_memEnd hans e.opcode r m
    | none => simpa only [hm] using FusesMoved.of_eq hans

/-- An answer at another endpoint than the management processor's keeps the array. -/
theorem State.fuses_responseArrives {ep : Nat} (h546 : ep ≠ 546) : (s.responseArrives ep).fuses = s.fuses := by
  have c {m : Nat} : m.testBit 17 = false → Clo m fun t : State => t.fuses = s.fuses := clo_sameFuses s.fuses
  unfold State.responseArrives
  rw [if_neg h546]
  refine ite_p (Q := fun t : State => t.fuses = s.fuses) (fun _ => ?_) fun _ => ?_
  · split
    · rfl
    · next p t htake =>
      have ht : OptP (SndP fun t : State => t.fuses = s.fuses) (some (p, t)) := congr_p htake (State.take_inv (c rfl) rfl)
      split
      · next r u hmatch =>
        have hu : SndP (fun t : State => t.fuses = s.fuses) (some r, u) := congr_p hmatch (State.matchRsp_inv (c rfl) ht)
        exact State.roomResponse_inv (c rfl) hu
      · next u hmatch => exact (congr_p hmatch (State.matchRsp_inv (c rfl) ht) : SndP (fun t : State => t.fuses = s.fuses) (none, u))
  refine ite_p (Q := fun t : State => t.fuses = s.fuses) (fun _ => State.engResponse_inv (c rfl) rfl) fun _ => ?_
  refine ite_p (Q := fun t : State => t.fuses = s.fuses) (fun _ => State.dispatchResponse_inv (c rfl) rfl) fun _ => ?_
  refine ite_p (Q := fun t : State => t.fuses = s.fuses) (fun _ => State.homeResponse_inv (c rfl) rfl) fun _ => ?_
  refine ite_p (Q := fun t : State => t.fuses = s.fuses) (fun _ => ?_) fun _ => rfl
  split
  · rfl
  · next p t htake =>
    have ht : OptP (SndP fun t : State => t.fuses = s.fuses) (some (p, t)) := congr_p htake (State.takeOn_inv (c rfl) rfl)
    split
    · next r u hmatch =>
      have hu : SndP (fun t : State => t.fuses = s.fuses) (some r, u) := congr_p hmatch (State.matchRsp_inv (c rfl) ht)
      exact ite_p (Q := fun t : State => t.fuses = s.fuses) (fun _ => hu) fun _ => State.rawResponse_inv (c rfl) hu
    · next u hmatch => exact (congr_p hmatch (State.matchRsp_inv (c rfl) ht) : SndP (fun t : State => t.fuses = s.fuses) (none, u))

theorem State.moved_responseArrives (ep : Nat) : FusesMoved s.fuses (s.responseArrives ep) := by
  have c {m : Nat} : m.testBit 17 = false → Clo m fun t : State => t.fuses = s.fuses := clo_sameFuses s.fuses
  by_cases h546 : ep = 546
  · subst h546
    unfold State.responseArrives
    simp only [Nat.reduceLT, Nat.reduceLeDiff, Nat.reduceEqDiff, if_false, if_true, and_false]
    split
    · exact .of_eq rfl
    · next p t htake =>
      have ht : OptP (SndP fun t : State => t.fuses = s.fuses) (some (p, t)) :=
        congr_p htake (orElse_p (State.take_inv (c rfl) rfl) fun _ => State.takeOn_inv (c rfl) rfl)
      split
      · next r u hmatch =>
        have hu : SndP (fun t : State => t.fuses = s.fuses) (some r, u) := congr_p hmatch (State.matchRsp_inv (c rfl) ht)
        refine ite_p (fun _ => State.tapAnswer_inv (clo_moved _ rfl) (.of_eq hu)) fun _ => ?_
        exact State.pumpPosts_inv (clo_moved _ rfl) (State.moved_mpAnswer hu _ _)
      · next u hmatch =>
        have hu : SndP (fun t : State => t.fuses = s.fuses) (none, u) := congr_p hmatch (State.matchRsp_inv (c rfl) ht)
        exact .of_eq hu
  · exact .of_eq (State.fuses_responseArrives h546)

/-- Every command moves the array by at most one transition. -/
theorem exec_fuses {c : Instr} {t : State} (ht : exec c s = .next t) : s.fuses.Moves t.fuses := by
  by_cases hc : delivers c = false
  · exact exec_moved hc ht
  · cases c
    case i3cPrivateWrite bytes found => exact (execI3cPrivateWrite_moved bytes found).next ht
    case mbCmd found => exact (execMbCmd_moved found).next ht
    case sidebandMessage port header data found => exact (execSidebandMessage_moved port header data found).next ht
    case responseArrival ep => exact Host.Outcome.next.inj ht ▸ State.moved_responseArrives ep
    case replayInjection found => exact (execReplayInjection_moved found).next ht
    all_goals exact (hc rfl).elim

end moves

/-- Settles O6: an idle step keeps the array, and a command moves it by at most one transition. -/
theorem fusesMoveOneWay : Obligations.FusesMoveOneWay := by
  intro s t h
  have hmoves : s.fuses.Moves t.fuses := by
    rcases step_cases h with ⟨-, rfl⟩ | ⟨c, rest, -, hc⟩
    · exact Fuses.Moves.refl _
    · exact exec_fuses (s := { s with pending := rest }) hc
  exact ⟨hmoves.lc, hmoves.svn, hmoves.uid, hmoves.spares⟩

end Sys2Proof.Machine

/-!
SUPPORT. The profile pins through a reset that no command gives them for: the model samples them anew at its release, as a free
value (log entry 38), so that they do not follow those of the state before.
-/
namespace Sys2Proof.Machine

/-- Fuse load keeps the sampled pins. -/
theorem State.fuseLoad_pins (s : State) (cause : Nat) : (s.fuseLoad cause).boot.pins = s.boot.pins := by
  have hspares (t : State) (l : List (Nat × Nat × Nat × Nat)) :
      (t.each l fun s x => s.setSpare x.1 x.2.1 x.2.2.2 x.2.2.1).boot = t.boot :=
    (foldl_p (Q := Same 0x100 t) (fun _ _ => State.setSpare_inv (clo_same t rfl)) (Same.refl _ t)).boot rfl
  simp [State.fuseLoad, hspares]

/-- The pins after the restart of a stack whose RESET_N is high and that records nothing. -/
theorem State.restart_pins {s : State} {cause : Nat} (hlow : s.boot.resetLow = false) (hrec : s.recording = false) :
    (s.restart cause).boot.pins = (Config.freeWord s.fresh).toNat % 8 := by
  unfold State.restart State.endByReset
  rw [hrec]
  simp [State.stackReset, hlow, State.fuseLoad_pins, State.drawn]

/-- The reset state released from power-on reset, with the pins given. -/
def released (pins : Nat) : State := { State.reset with boot := { por := false, pins := pins } }

theorem released_canon (pins : Nat) : (released pins).canon := { State.canon_reset with }
theorem released_tables (pins : Nat) : (released pins).tables := { State.tables_reset with }

theorem released_recording (pins : Nat) : (released pins).recording = false := by
  have hreset : State.reset.recording = false := by decide +kernel
  exact hreset

/-- Refutes O54: two states that differ in their sampled pins alone meet a lockstep mismatch with the same free value, and the
statement asks for the pins of each. -/
theorem not_resetDomainsAndFuseLoad : ¬ Obligations.ResetDomainsAndFuseLoad := by
  intro h
  have hpins (pins : Nat) : (Config.freeWord 0).toNat % 8 = pins := by
    obtain ⟨-, -, -, -, -, -, -, -, -, hlock, -⟩ := h (released pins) (released_canon pins) (released_tables pins)
    obtain ⟨u, hu, -, -, hsame, -⟩ := hlock rfl rfl
    cases Host.Outcome.next.inj hu
    exact (State.restart_pins rfl (released_recording pins)).symm.trans hsame
  exact absurd ((hpins 0).symm.trans (hpins 1)) (by decide)

end Sys2Proof.Machine

/-!
SUPPORT. A room whose gate ends its opening while the gate is no longer requested starts to close at once, and the close abandons the
room's load; a save abandoned so leaves its plane RESIDENT (R65).
-/
namespace Sys2Proof.Machine

/-- A save of plane 0 that is abandoned leaves the plane RESIDENT. -/
theorem State.planeState_abandonLoad_save {s : State} {n : Nat} {op : LoadOp} (h : s.regsOk) (hld : (s.room n).ld = some op)
    (hop : op.op = 2) (hplane : op.plane = 0) : (s.abandonLoad n).f Fld.RM_PLANE_P0_STATE n = 2 := by
  let t := s.setF Fld.RM_PLANE_P0_STATE n 2
  have ht : t.regsOk ∧ t.rd .RM_PLANE n = t.rd .RM_PLANE n := ⟨State.regsOk_setF h _ _ _, rfl⟩
  have hsave := State.scramble_inv (v1 := bankRow op.bank (op.row + 2688)) (v2 := 24576) (clo_rd t .RM_PLANE n rfl rfl rfl) ht
  have hdone := State.loadDone_inv (v1 := n) (v2 := 6) (clo_rd t .RM_PLANE n rfl rfl rfl) hsave
  have habandon : s.abandonLoad n = (t.scramble (bankRow op.bank (op.row + 2688)) 24576).loadDone n 6 := by
    unfold State.abandonLoad
    simp [hld, hop, hplane, State.setPlaneState, planeFld, t]
  have hset := State.f_setF_same h Fld.RM_PLANE_P0_STATE rfl n 2
  rw [habandon]
  exact (congrArg Fld.RM_PLANE_P0_STATE.get hdone.2).trans hset

/-- A room's gate that stands open, is not requested and does not move starts to close, and the room's load is abandoned. -/
theorem State.gateStart_close {s : State} {n : Nat} (hstill : s.gating 0 n = 0) (hreq : s.gateReq 0 n = false)
    (hopen : s.gateOpen 0 n = true) : s.gateStart 0 n = (s.setGating 0 n 2).abandonLoad n := by
  simp [State.gateStart, hstill, hreq, hopen]

/-- Room 0 in GATED while its gate opens, the gate no longer requested, and a save of plane 0 in progress. -/
def saveOp : LoadOp :=
  { agent := .sched, op := 2, plane := 0, bank := 0, row := 0, saveFirst := false, phase := 1, next := 0, err := 0, loc := none,
    desc := none, cmd := none }
def gatedSave : State :=
  { State.reset with clk := { gating := [(gateKey 0 0, 1)] }, rooms := [(0, { ld := some saveOp })] }

theorem gatedSave_canon : gatedSave.canon := { State.canon_reset with rooms := by decide +kernel }

theorem gatedSave_tables : gatedSave.tables :=
  { State.tables_reset with
    gating := by decide +kernel, planes := fun n => by cases n <;> rfl, slots := fun n p => by cases n <;> rfl,
    mults := fun n p => by cases n <;> rfl }

/-- The state in which its gate has opened, before the gate starts again. -/
def gatedSaveOpened : State :=
  let s := (gatedSave.setGating 0 0 0).setGateStat 0 0 true
  let s := (s.setF Fld.RM_STATUS_STATE 0 0).setF Fld.RM_PLANE_NONE 0 1
  ((s.each (List.range 4) fun s p => s.emptyPlane 0 p).setDivisor 0).gateReached 0 0 true

theorem gatedSave_gateOpened : gatedSave.gateOpened 0 0 = gatedSaveOpened.gateStart 0 0 := by
  have hmoves : ¬ gatedSave.gating 0 0 ≠ 1 := by decide +kernel
  have hgated : ((gatedSave.setGating 0 0 0).setGateStat 0 0 true).roomState 0 = 4 := by decide +kernel
  unfold State.gateOpened
  rw [if_neg hmoves]
  simp only [hgated, if_true]
  rfl

/-- Refutes O52: as the gate of `gatedSave` has opened it starts to close, and plane 0 ends RESIDENT, not EMPTY. -/
theorem not_unitGatesOpenAndClose : ¬ Obligations.UnitGatesOpenAndClose := by
  intro h
  obtain ⟨hgates, -⟩ := h gatedSave gatedSave_canon gatedSave_tables
  obtain ⟨-, -, -, -, -, -, hopened, -⟩ := hgates 0 0 (by decide) (by decide)
  obtain ⟨u, hu, -, -, -, -, hroom, -⟩ := hopened (by decide +kernel)
  obtain ⟨-, -, hempty⟩ := hroom rfl (by decide +kernel)
  cases Host.Outcome.next.inj hu
  have hclose : gatedSaveOpened.gateStart 0 0 = (gatedSaveOpened.setGating 0 0 2).abandonLoad 0 :=
    State.gateStart_close (by decide +kernel) (by decide +kernel) (by decide +kernel)
  have hsaved : ((gatedSaveOpened.setGating 0 0 2).abandonLoad 0).f Fld.RM_PLANE_P0_STATE 0 = 2 :=
    State.planeState_abandonLoad_save (op := saveOp) (by unfold State.regsOk; decide +kernel) (by decide +kernel) rfl rfl
  have hplane := hempty 0 (by decide)
  rw [gatedSave_gateOpened, hclose] at hplane
  exact absurd (hsaved.symm.trans hplane) (by decide)

end Sys2Proof.Machine

/-!
SUPPORT. A life record that meets a compaction waits for its end (Table 17-22): the live state keeps its life bins until then.
-/
namespace Sys2Proof.Machine

/-- A batch that meets a compaction waits, and the live state stays. -/
theorem State.journalBatch_of_compacting {s : State} (h : s.journal.compacting = true) (l : List (Nat × List Byte)) :
    s.journalBatch l = s.updJ fun j => { j with held := j.held ++ [l] } := by
  simp [State.journalBatch, h]

/-- After step 7 of start-up, while the journal compacts. -/
def compactingState : State :=
  { State.reset with boot := { step := 7, por := false }, journal := { compacting := true } }

/-- Refutes O53: the life record of `compactingState` waits, and the statement has the five bins in the live state at once. -/
theorem not_powerAndTemperatureFollowTheirRules : ¬ Obligations.PowerAndTemperatureFollowTheirRules := by
  intro h
  obtain ⟨-, -, -, hlife, -⟩ := h compactingState { State.canon_reset with } { State.tables_reset with }
  obtain ⟨hfits, -⟩ := hlife (by decide)
  obtain ⟨u, hu, -, -, hbins, -⟩ := hfits (by decide +kernel)
  have hwaits : exec .lifeRecord compactingState = .next _ :=
    congrArg Host.Outcome.next ((if_neg (by decide)).trans (State.journalBatch_of_compacting rfl _))
  cases Host.Outcome.next.inj (hwaits.symm.trans hu)
  exact absurd (congrArg List.length hbins) (by decide)

end Sys2Proof.Machine

/-!
SUPPORT. Boot verification in SCRAPPED: the boot ROM clears the scratch and orders the slots before it finds that no firmware may start
(R408), so that the state does not stay as it is.
-/
namespace Sys2Proof.Machine

/-- A scrapped stack after fuse load, with a byte in the boot ROM's scratch. -/
def scrapped : State :=
  { State.reset with mem := [(0x120000000, 1)], boot := { step := 3, por := false }, fuses := { lc := 4 } }

theorem scrapped_canon : scrapped.canon := { State.canon_reset with mem := by decide }
theorem scrapped_tables : scrapped.tables := { State.tables_reset with keyHash := by decide }

/-- In `scrapped` the model clears the scratch, records the order of the slots and stops. -/
theorem bootVerify_scrapped :
    scrapped.bootVerify =
      (scrapped.wipe 0x120000000 0x120200000).updBoot fun b => { b with fwSecond := nth (scrapped.wipe 0x120000000 0x120200000).fwOrder 1 } := by
  unfold State.bootVerify
  rw [if_neg (by decide)]
  exact if_pos rfl

/-- Refutes O55: boot verification clears the byte of `scrapped`. -/
theorem not_startUpStepsComplete : ¬ Obligations.StartUpStepsComplete := by
  intro h
  obtain ⟨-, hidle, -⟩ := h scrapped scrapped_canon scrapped_tables
  have hstays : scrapped.bootVerify = scrapped := Host.Outcome.next.inj (hidle (Or.inr (Or.inr rfl)))
  have hmem := congrArg (fun t : State => t.mem) (bootVerify_scrapped.symm.trans hstays)
  exact absurd hmem (by decide +kernel)

end Sys2Proof.Machine

/-!
SUPPORT. A batch that has waited for a compaction follows it (Table 17-22), so that the live state after JOURNAL_COMPACTION is not
always that before it.
-/
namespace Sys2Proof.Machine

/-- A compaction is due, and a life record waits for its end. -/
def batchWaits : State :=
  { State.reset with journal := { compacting := true, held := [[(9, List.replicate 20 1)]] } }

theorem batchWaits_tables : batchWaits.tables := { State.tables_reset with settings := by decide }

/-- Refutes O58: the compaction of `batchWaits` is followed by the life record, whose bins join the empty live state. -/
theorem not_storeCommandsWriteFlash : ¬ Obligations.StoreCommandsWriteFlash := by
  intro h
  obtain ⟨-, -, -, -, -, -, -, -, -, -, hcompact, -⟩ := h batchWaits { State.canon_reset with } batchWaits_tables
  obtain ⟨u, hu, -, -, -, -, hrecords, -⟩ := hcompact rfl (by decide) (by decide +kernel)
  cases Host.Outcome.next.inj hu
  exact absurd hrecords (by decide +kernel)

end Sys2Proof.Machine

/-!
SUPPORT. What the read of the ring's next record meets: an uncorrectable word there is a hazard of the replay (R426), at whose stamp the
hazards noted below it are settled (R428). A hazard record of an earlier stamp, just injected, is settled with them.
-/
namespace Sys2Proof.Machine

/-- Settling leaves no hazard of the ring below its stamp. -/
theorem State.settle_hazRing (s : State) {t x : Nat} (hx : x < t) : (s.settle t).replay.hazRing.contains x = false := by
  have hfind (v : State) (k y : Nat) : (v.finding k y).replay = v.replay :=
    (State.finding_inv (clo_same v rfl) (Same.refl _ v)).replay rfl
  have hkept (u : State) (l : List Nat) :
      (u.each l fun v y => ((v.setF Fld.RP_STATUS_HAZARD 0 1).inc Fld.RP_HAZARD_COUNT 0).finding 1 y).replay = u.replay :=
    foldl_p (Q := fun v : State => v.replay = u.replay) (fun v y hv => (hfind _ _ _).trans hv) rfl
  unfold State.settle
  simp only [hkept]
  simp [hx]

/-- A replay settles, at the stamp at which an input enters, a state whose records are those of before. -/
theorem State.stampNow_replaying {s : State} (hruns : s.replaying = true) :
    ∃ (v : State) (t : Nat), s.stampNow = v.settle t ∧ s.replay.stamp ≤ t := by
  have hstate : s.rpState = 3 := by simpa [State.replaying] using hruns
  unfold State.stampNow
  rw [if_neg (by simp [hstate])]
  exact ⟨_, _, if_pos hruns, Nat.le_add_right _ _⟩

/-- The stamp at which an input of a replay enters is none below the present one. -/
theorem State.hazard_hazRing {s : State} (hruns : s.replaying = true) {x : Nat} (hx : x < s.replay.stamp) (source unit sub : Nat) :
    (s.hazard source unit sub).replay.hazRing.contains x = false := by
  have hstate : s.rpState = 3 := by simpa [State.replaying] using hruns
  obtain ⟨v, t, hnow, ht⟩ := State.stampNow_replaying hruns
  have hrec : s.recording = false := by simp [State.recording, hstate]
  unfold State.hazard
  simp only [hrec, hruns, hnow, Bool.false_eq_true, if_false, if_true]
  exact State.settle_hazRing v (Nat.lt_of_lt_of_le hx ht)

/-- Reading on past the last record notes the word in which the next would begin. -/
theorem State.readFrom_hazRing {s : State} {off : Nat} (hends : s.ringRec off = none) (hplace : s.ringBase + off = 272) :
    (s.readFrom off).replay.hazRing = (s.noteWord 256 0).replay.hazRing := by
  unfold State.readFrom
  simp only [hends, hplace]
  rfl

/-- A record that is no command takes effect, and the ring is read on where the replay still runs. -/
theorem State.injectNext_other {s : State} {r : RingRec} (hdue : s.dueRec = some r) (hother : r.kind ≠ 3) (hinput : ¬9 ≤ r.kind)
    (hruns : ((s.reach r).injectOther r).replaying = true) (found : List TestFail) :
    s.injectNext found = ((s.reach r).injectOther r).readFrom (((s.reach r).injectOther r).replay.readOff + r.size) := by
  unfold State.injectNext
  simp only [hdue, if_neg hinput, if_neg hother]
  exact if_pos hruns

/-- A replay at stamp 5 whose ring holds one hazard record, of stamp 0, in an uncorrectable word, and ends after it. -/
def lateHazard : State :=
  { State.reset with
    regs := [(Reg.addr .RP_STATUS 0, Fld.RP_STATUS_STATE.set 0 3)]
    mem := [(24, 0x10), (25, 0x01), (262, 0x70), (268, 5), (269, 200), (270, 156), (271, 96)]
    synd := [(8, 0x30000)], replay := { stamp := 5, readOff := 256 } }

def hazardRec : RingRec := { stamp := 0, phase := 0, kind := 7, source := 0, payload := [], size := 16 }

theorem lateHazard_canon : lateHazard.canon :=
  { State.canon_reset with regs := by decide +kernel, mem := by decide +kernel, synd := by decide +kernel }

theorem lateHazard_due : lateHazard.dueRec = some hazardRec := by decide +kernel

/-- The state in which the record has been injected, and the one in which the word of the next is counted and logged. -/
def lateInjected : State := (lateHazard.reach hazardRec).injectOther hazardRec
def lateNoted : State := (lateInjected.inc Fld.EC_UE_COUNT_COUNT (storeOf 256)).logEc (ecEntry 256 3 0 (lateInjected.syn (lateInjected.phys 256)))

theorem lateInjected_note : lateInjected.noteWord 256 0 = lateNoted.hazard 4 256 0 := by
  have hue : classify (lateInjected.syn (lateInjected.phys 256)) = .ue := by decide +kernel
  unfold State.noteWord
  simp only [hue]
  rfl

theorem lateHazard_injected (found : List TestFail) :
    (lateHazard.injectNext found).replay.hazRing = (lateNoted.hazard 4 256 0).replay.hazRing := by
  have hinject := State.injectNext_other lateHazard_due (by decide) (by decide) (by decide +kernel) found
  have hread := State.readFrom_hazRing (s := lateInjected) (off := lateInjected.replay.readOff + hazardRec.size) (by decide +kernel)
    (by decide +kernel)
  rw [hinject]
  exact hread.trans (congrArg (fun t : State => t.replay.hazRing) lateInjected_note)

/-- Refutes O60: the late hazard record of `lateHazard` is settled by the hazard that reading on meets, and the statement wants it
noted. -/
theorem not_recordingsAndReplaysRun : ¬ Obligations.RecordingsAndReplaysRun := by
  intro h
  obtain ⟨-, -, -, -, -, -, -, -, -, -, -, -, -, hinject, -⟩ := h lateHazard lateHazard_canon { State.tables_reset with }
  obtain ⟨-, -, hhazard, -⟩ := hinject [] hazardRec lateHazard_due
  obtain ⟨u, hu, hnoted, -⟩ := hhazard rfl
  cases Host.Outcome.next.inj hu
  rw [lateHazard_injected] at hnoted
  exact absurd (hnoted.symm.trans (State.hazard_hazRing (by decide +kernel) (by decide +kernel) 4 256 0)) (by decide)

end Sys2Proof.Machine

/-!
SUPPORT. The tree of a range that is rekeyed moves to the old half of the range's cache keys; an entry that stands there already moves
on to the keys of the next range.
-/
namespace Sys2Proof.Machine

/-- CR_RANGE_RESET of range 1 as port 0 sends it, and its row. -/
def resetHdr : CmdHdr := { port := 0, node := 0, ep := 0, tag := 7, len := 58 }
def resetCommand : Ebryn := ⟨resetHdr, 0x0903, .r, argBytes [(6, 1, 1)], false⟩

/-- Range 1 is enabled and initialising; a rekey of range 0 waits to begin, with an entry of an old tree of range 0 in the cache. -/
def rekeyWaits : State :=
  { State.reset with
    regs := [(Reg.addr .HK_STATUS 0, Fld.HK_STATUS_READY.set 0 1),
      (Reg.addr .CR_RANGE_STATE 0, Fld.CR_RANGE_STATE_STATE.set 0 4),
      (Reg.addr .CR_RANGE_CTRL 1, Fld.CR_RANGE_CTRL_ENABLE.set 0 1), (Reg.addr .CR_RANGE_STATE 1, Fld.CR_RANGE_STATE_STATE.set 0 1)]
    crypto :=
      { cache := [(nodeKey 0 true 0 0, { data := [], dirty := false })], next := 1,
        jobs := [(0, some { req := 2 ^ 40, range := 0, line := 0, kind := 5, home := 0 })] } }

theorem rekeyWaits_canon : rekeyWaits.canon := { State.canon_reset with regs := by decide +kernel }
theorem rekeyWaits_tables : rekeyWaits.tables :=
  { State.tables_reset with ranges := by decide +kernel, reqs := by decide +kernel, jobs := by decide +kernel }
theorem rekeyWaits_accepts : rekeyWaits.accepts resetCommand := by
  refine ⟨⟨by decide, by decide +kernel, rfl⟩, by decide +kernel⟩

/-- Refutes O49: as range 1 of `rekeyWaits` is reset, the rekey of range 0 begins and moves its old entry to a key of range 1, where the
statement has no entry of the range that is reset. -/
theorem not_protectedRangesAreServed : ¬ Obligations.ProtectedRangesAreServed := by
  intro h
  obtain ⟨-, -, -, -, -, -, hranges⟩ :=
    h rekeyWaits rekeyWaits_canon rekeyWaits_tables (by decide +kernel) (by decide +kernel) rfl
  obtain ⟨-, -, -, -, -, hreset⟩ := hranges 1 (by decide)
  obtain ⟨hinit, -⟩ := hreset resetHdr rekeyWaits_accepts
  obtain ⟨u, hu, -, -, -, -, -, hcache⟩ := hinit (by decide +kernel) (by decide +kernel)
  cases Host.Outcome.next.inj hu
  exact absurd hcache (by decide +kernel)

end Sys2Proof.Machine

/-!
SUPPORT. A command block by its fields (Table 17-2), the block of a NOP, and port 0 on the bus (R383, R384).
-/
namespace Sys2Proof.Machine

/-! ### The block of a NOP -/

/-- The block of a NOP with a tag, byte by byte. -/
theorem nopBlock_eq (tag : Nat) :
    cmdBlock 0x0109 tag 0 [] = leBytes 2 0x0109 ++ (leBytes 2 tag ++ (leBytes 2 0 ++ List.replicate 58 0)) := by
  unfold cmdBlock
  rw [fit_of_le (by simp)]
  simp

theorem length_nopBlock (tag : Nat) : (cmdBlock 0x0109 tag 0 []).length = 64 := length_fit _ _ _

theorem nopBlock_op (tag : Nat) : leNat (slice (cmdBlock 0x0109 tag 0 []) 0 2) = 0x0109 := by
  rw [nopBlock_eq, slice_append_self _ _ (by simp), leNat_leBytes_of_lt (by decide)]
theorem nopBlock_tag {tag : Nat} (h : tag < 2 ^ 16) : leNat (slice (cmdBlock 0x0109 tag 0 []) 2 2) = tag := by
  rw [nopBlock_eq, slice_append_right _ _ (by simp), slice_append_self _ _ (by simp), leNat_leBytes_of_lt h]
theorem nopBlock_len (tag : Nat) : leNat (slice (cmdBlock 0x0109 tag 0 []) 4 2) = 0 := by
  rw [nopBlock_eq, ← List.append_assoc, slice_append_right _ _ (by simp), slice_append_self _ _ (by simp), leNat_leBytes_of_lt (by decide)]

/-- A block that spells a NOP runs it, from whatever requester. -/
theorem runCmd_nop (s : State) (port node ep : Nat) {tag : Nat} (htag : tag < 2 ^ 16) (found : List TestFail) :
    exec (.nop ⟨port, node, ep, tag, 0⟩) (s.updMail fun m => { m with block := cmdBlock 0x0109 tag 0 [] }) =
      .next (s.runCmd port node ep (cmdBlock 0x0109 tag 0 []) found) := by
  have hrow : cmdTable.find? (fun c => c.1 == 0x0109) = some (0x0109, fun h _ _ => execNop h) := rfl
  unfold State.runCmd
  simp only [nopBlock_op, nopBlock_tag htag, nopBlock_len, hrow]
  rfl

/-! ### Port 0 -/

/-- What a CCC returns while the bus is served. -/
theorem State.ccc_of_served {s : State} (h : s.busServed = true) (b : List Byte) :
    s.ccc b = s.updMail fun m => { m with i3cOut := b, i3cNack := false } := if_pos h

theorem State.length_freeBytes (s : State) (n : Nat) : (s.freeBytes n).length = n := by simp [State.freeBytes]

section served
variable {s : State} (hserved : s.busServed = true)
include hserved

/-- ENTDAA gives the target its address. -/
theorem exec_entdaa (da : Nat) (hnone : s.f Fld.MB_STATUS_I3C_DA 0 = 0) :
    exec (.entdaa da) s = .next ((s.updMail fun m => { m with i3cOut := s.pid ++ [0x06, 0x00], i3cNack := false }).setF
      Fld.MB_STATUS_I3C_DA 0 (da % 128)) :=
  congrArg Host.Outcome.next ((if_pos ⟨hserved, hnone⟩).trans (by rw [State.ccc_of_served hserved]))

/-- RSTDAA drops the address. -/
theorem exec_rstdaa : exec .rstdaa s = .next (s.setF Fld.MB_STATUS_I3C_DA 0 0) := congrArg Host.Outcome.next (if_pos hserved)

/-- A block on the bus is a command of port 0. -/
theorem exec_privateWrite {bytes : List Byte} (hlen : bytes.length = 64) (found : List TestFail) :
    exec (.i3cPrivateWrite bytes found) s = .next ((s.updMail fun m => { m with i3cNack := false }).runCmd 0 0 0 bytes found) := by
  refine congrArg Host.Outcome.next ((if_neg (by simp [hserved])).trans (if_neg (by simp [hlen])))

/-- Bytes on the bus that are no block are discarded. -/
theorem exec_privateWrite_badlen {bytes : List Byte} (hlen : bytes.length ≠ 64) (found : List TestFail) :
    exec (.i3cPrivateWrite bytes found) s = .next (s.setF Fld.MB_STATUS_I3C_BADLEN 0 1) :=
  congrArg Host.Outcome.next ((if_neg (by simp [hserved])).trans (if_pos hlen))

/-- A private read takes the oldest response. -/
theorem exec_privateRead (len : Nat) {b : List Byte} {rest : List (List Byte)} (hrsp : mget (fun _ => []) s.mail.rsp 0 = b :: rest) :
    exec (.i3cPrivateRead len) s =
      .next (s.updMail fun m => { m with rsp := mput (fun _ => []) m.rsp 0 rest, i3cOut := b.take len, i3cNack := false }) := by
  unfold exec execI3cPrivateRead
  simp only [hserved, if_true, hrsp]

end served

/-- Settles O32. -/
theorem portZeroOnTheBus : Obligations.PortZeroOnTheBus := by
  intro s hs ht hserved
  have hccc (b : List Byte) := State.ccc_of_served hserved b
  refine ⟨fun da hnone => ?entdaa, ?rstdaa, fun events hevents => ?events, ?getpid, ?getbcr, ?getdcr, ?getmwl, ?getmrl, ?getstatus,
    fun tag found htag => ?nop, fun bytes found hlen => ?badlen, fun len b rest hrsp => ?read⟩
  case entdaa =>
    refine ⟨_, exec_entdaa hserved da hnone, ?_, by simp⟩
    exact (State.f_setF_same hs.regs _ rfl _ _).trans (Nat.mod_eq_of_lt (Nat.mod_lt _ (by decide)))
  case rstdaa => exact ⟨_, exec_rstdaa hserved, (State.f_setF_same hs.regs _ rfl _ _).trans rfl⟩
  case events =>
    exact ⟨⟨_, congrArg Host.Outcome.next (if_pos ⟨hserved, hevents⟩), rfl⟩, ⟨_, congrArg Host.Outcome.next (if_pos ⟨hserved, hevents⟩), rfl⟩⟩
  case getpid => exact ⟨_, congrArg Host.Outcome.next (hccc _), rfl, rfl, rfl⟩
  case getbcr => exact ⟨_, congrArg Host.Outcome.next (hccc _), rfl, rfl⟩
  case getdcr => exact ⟨_, congrArg Host.Outcome.next (hccc _), rfl, rfl⟩
  case getmwl => exact ⟨_, congrArg Host.Outcome.next (hccc _), rfl, rfl⟩
  case getmrl => exact ⟨_, congrArg Host.Outcome.next (hccc _), rfl, rfl⟩
  case getstatus =>
    exact ⟨_, congrArg Host.Outcome.next (State.ccc_of_served (s := s.drawn) hserved _), State.length_freeBytes s 2, rfl, rfl⟩
  case nop =>
    have hblock : (s.updMail fun m => { m with i3cNack := false, block := cmdBlock 0x0109 tag 0 [] }) =
        (s.updMail fun m => { m with i3cNack := false }).updMail fun m => { m with block := cmdBlock 0x0109 tag 0 [] } := rfl
    refine ⟨_, exec_privateWrite hserved (length_nopBlock tag) found, ?_⟩
    rw [hblock, runCmd_nop _ 0 0 0 htag found]
  case badlen =>
    exact ⟨_, exec_privateWrite_badlen hserved hlen found, (State.f_setF_same hs.regs _ rfl _ _).trans rfl, by simp⟩
  case read => exact ⟨_, exec_privateRead hserved len hrsp, mget_mput_same ht.rsp 0 rest, rfl, rfl⟩

end Sys2Proof.Machine

/-!
SUPPORT. How a command's access to memory goes when its piece lies in the corridor, and the ways in which a block arrives at the mailbox
(R385 to R387), in which events leave it (R391) and other agents reach CSR space (R162, R163).
-/
namespace Sys2Proof.Machine
variable {s s' : State} {p : Packet}

/-! ### A command's access to memory -/

theorem State.node_lt (s : State) : s.node < 1024 := by
  unfold State.node
  split
  · exact s.f_lt Fld.CO_NODE_NODE 0
  · decide

/-- Words of X memory lie in an engine's memory. -/
theorem decodeAddr_xAddr {e : Nat} (he : e < 256) (w : Nat) : decodeAddr (xAddr e w) = .engMem e := by
  have hw : w % 16384 < 16384 := Nat.mod_lt _ (by decide)
  unfold decodeAddr xAddr
  rw [if_neg (by omega), if_pos (by omega), if_neg (by omega), if_pos (by omega)]
  congr 1
  omega

/-- An access to an engine's memory of this stack asks for its piece through the corridor. -/
theorem State.memGo_of_engMem {r : CmdRef} {wr : Bool} {m : MemOp} {e : Nat} (fuel : Nat) (hleft : m.off < m.len)
    (hlocal : (m.addr + m.off) / 2 ^ 48 = s.node) (hmem : decodeAddr ((m.addr + m.off) % 2 ^ 48) = .engMem e) :
    s.memGo r wr (fuel + 1) m = (s.memSend r wr m, none) := by
  have hnode := s.node_lt
  rw [State.memGo, if_neg (by omega), if_neg (by omega), if_neg (by omega)]
  simp only [hmem]

theorem writeParts_none (p : Packet) : writeParts p 0 = [] := by simp [writeParts, bit]

/-- The request of the first try of a piece, its arguments kept with its command. -/
theorem State.memSend_of_untried {r : CmdRef} {wr : Bool} {m : MemOp} (htodo : m.todo = 0) :
    s.memSend r wr m = (s.setArgs r { m with tag := s.mpTag }.args).request 546 (s.memPacket wr { m with tag := s.mpTag }) := by
  unfold State.memSend
  simp only [htodo, writeParts_none]

/-- The command in progress at its place keeps the arguments. -/
theorem mem_setArgs {e : InProg} (he : e ∈ s.mail.inprog) (l : List Nat) :
    { e with args := l } ∈ (s.setArgs (e.port, e.node, e.ep, e.tag) l).mail.inprog :=
  List.mem_map.2 ⟨e, he, if_pos (by simp)⟩

/-- The first try of a read of memory through the corridor: its packet, which awaits its answer, and its arguments, which its command
keeps. -/
theorem State.memSend_reads (hsend : mwf (fun _ => []) s.net.send = true) (hreqs : mwf (fun _ => none) s.net.outReq = true)
    {e : InProg} (he : e ∈ s.mail.inprog) {m : MemOp} (htodo : m.todo = 0) :
    (s.memSend (e.port, e.node, e.ep, e.tag) false m).mem = s.mem ∧ ∃ q,
      mget (fun _ => []) (s.memSend (e.port, e.node, e.ep, e.tag) false m).net.send 546 = mget (fun _ => []) s.net.send 546 ++ [q] ∧
      q.type = 0 ∧ q.len = m.piece - 1 ∧ q.dest = m.addr + m.off ∧
      (s.memSend (e.port, e.node, e.ep, e.tag) false m).outReq (outKey 546 0 q.tag) = some { pkt := q } ∧
      { e with args := { m with tag := q.tag }.args } ∈ (s.memSend (e.port, e.node, e.ep, e.tag) false m).mail.inprog := by
  rw [State.memSend_of_untried htodo]
  have hlen : (s.memPacket false { m with tag := s.mpTag }).len = m.piece - 1 := by simp only [State.memPacket, mkReq, MemOp.piece]
  generalize hq : s.memPacket false { m with tag := s.mpTag } = q at hlen
  have htype : q.type = 0 := by rw [← hq]; rfl
  have htag : q.tag = s.mpTag := by simp only [← hq, State.memPacket, mkReq]
  have hplane : q.srcPlane = 0 := by rw [← hq]; rfl
  have hdest : q.dest = m.addr + m.off := by rw [← hq]; rfl
  have hout := State.outReq_request (s := s.setArgs (e.port, e.node, e.ep, e.tag) { m with tag := s.mpTag }.args) hreqs 546 q
  rw [hplane] at hout
  exact ⟨rfl, q, State.send_request hsend 546 q, htype, hlen, hdest, hout, htag.symm ▸ mem_setArgs he _⟩

/-! ### Port 17 -/

section packet
variable (hreplay : s.replaying = false) (htake : s.takeOn (ejectLinks 546) 3 (fun p => p.type == 8 && s.isFor 546 p) = some (p, s'))
  (hlen : p.len = 63) (hclean : p.poison = 0) (found : List TestFail)
include hreplay htake hlen hclean

/-- The block of a packet runs with the packet's tag and way at hand. -/
theorem exec_mbCmd : exec (.mbCmd found) s =
    .next (((s'.updMail fun m => { m with hdrTag := p.tag + 1024 * p.srcPlane, via := viaLink p }).runCmd 17 p.srcNode p.srcEp p.payload
      found).updMail fun m => { m with hdrTag := 0, via := 0 }) := by
  obtain ⟨bufs, books, rfl⟩ := State.takeOn_cases htake
  have hstill : ({ s with net := { s.net with bufs := bufs, books := books } } : State).replaying = false := hreplay
  unfold exec execMbCmd
  simp only [htake, hstill, hlen, hclean, Bool.false_eq_true, if_false, ne_eq, not_true_eq_false]

theorem mbCmd_clause {tag : Nat} (htag : tag < 2 ^ 16) (hpay : p.payload = cmdBlock 0x0109 tag 0 []) :
    ∃ u, exec (.mbCmd found) s = .next u ∧
      ∃ t, exec (.nop ⟨17, p.srcNode, p.srcEp, tag, 0⟩)
          (s'.updMail fun m => { m with hdrTag := p.tag + 1024 * p.srcPlane, via := viaLink p, block := p.payload }) = .next t ∧
        u = t.updMail fun m => { m with hdrTag := 0, via := 0 } := by
  have hblock : (s'.updMail fun m => { m with hdrTag := p.tag + 1024 * p.srcPlane, via := viaLink p, block := p.payload }) =
      (s'.updMail fun m => { m with hdrTag := p.tag + 1024 * p.srcPlane, via := viaLink p }).updMail fun m =>
        { m with block := cmdBlock 0x0109 tag 0 [] } := by rw [hpay]; rfl
  refine ⟨_, exec_mbCmd hreplay htake hlen hclean found, _, ?_, rfl⟩
  rw [hblock, hpay]
  exact runCmd_nop _ 17 p.srcNode p.srcEp htag found

end packet

/-! ### Port 18 -/

/-- The read of a doorbell's block, as it stands among the commands in progress. -/
def State.bellRead (s : State) (e : Nat) : InProg := { port := 18, node := s.node, ep := e, tag := 0x10000, opcode := opBell, committed := true }
def State.bellState (s : State) (e : Nat) (found : List TestFail) : State :=
  s.updMail fun m => { m with inprog := m.inprog ++ [s.bellRead e], bells := mput (fun _ => []) m.bells e found }
/-- The access to its 64 bytes. -/
def State.bellOp (s : State) (e addr : Nat) : MemOp := { addr := xAddr e addr + 2 ^ 48 * s.node, len := 64, bytes := [] }

section bell
variable {e addr : Nat} (he : e < 256) (haddr : addr + 15 ≤ 0x3FCF) (hport : s.portOn 18 = true)
  (hfree : (s.mail.inprog.any fun x => x.port == 18 && x.ep == e) = false) (hreplay : s.replaying = false) (found : List TestFail)
include he haddr hport hfree hreplay

/-- A doorbell in time asks for its block through the corridor. -/
theorem exec_mbEngBell : exec (.mbEngBell e addr found) s =
    .next ((s.bellState e found).memSend (bellRef s.node e) false (s.bellOp e addr)) := by
  have hmod : addr % 2 ^ 14 = addr := Nat.mod_eq_of_lt (by omega)
  have hx : xAddr e addr < 2 ^ 48 := by unfold xAddr; omega
  have hgo : (s.bellState e found).memGo (bellRef s.node e) false 8 (s.bellOp e addr) =
      ((s.bellState e found).memSend (bellRef s.node e) false (s.bellOp e addr), none) := by
    refine State.memGo_of_engMem 7 (show 0 < 64 by decide) ?_ (e := e) ?_
    · show (xAddr e addr + 2 ^ 48 * s.node + 0) / 2 ^ 48 = s.node
      omega
    · show decodeAddr ((xAddr e addr + 2 ^ 48 * s.node + 0) % 2 ^ 48) = .engMem e
      rw [show (xAddr e addr + 2 ^ 48 * s.node + 0) % 2 ^ 48 = xAddr e addr by omega, decodeAddr_xAddr he]
  refine congrArg Host.Outcome.next ((if_neg (by omega)).trans ((if_neg (by simp [hport])).trans ?_))
  unfold State.engBell
  rw [if_neg (by simp [hfree]), if_neg (by simp [hreplay]), hmod, if_neg (by omega)]
  exact congrArg Prod.fst hgo

theorem mbEngBell_clause (ht : s.tables) (halign : addr % 64 ≤ 48) :
    ∃ u, exec (.mbEngBell e addr found) s = .next u ∧ u.mem = s.mem ∧ ∃ q,
      mget (fun _ => []) u.net.send 546 = mget (fun _ => []) s.net.send 546 ++ [q] ∧ q.type = 0 ∧ q.len = 63 ∧
      q.dest = xAddr e addr + 2 ^ 48 * s.node ∧ u.outReq (outKey 546 0 q.tag) = some { pkt := q } ∧
      ∃ x, x ∈ u.mail.inprog ∧ x.port = 18 ∧ x.ep = e ∧ x.opcode = opBell ∧
        x.args = (MemOp.args { tag := q.tag, addr := xAddr e addr + 2 ^ 48 * s.node, len := 64, bytes := [] }) := by
  have hpiece : (s.bellOp e addr).piece = 64 := by
    have hx : (xAddr e addr + 2 ^ 48 * s.node + 0) % 256 ≤ 192 := by unfold xAddr; omega
    have hmin : min (64 - 0) (256 - (xAddr e addr + 2 ^ 48 * s.node + 0) % 256) = 64 := by omega
    exact hmin
  have hread : s.bellRead e ∈ (s.bellState e found).mail.inprog := List.mem_append_right _ (List.mem_singleton_self _)
  obtain ⟨hmem, q, hsent, htype, hlen, hdest, hout, hargs⟩ :=
    State.memSend_reads (s := s.bellState e found) ht.send ht.outReq hread (m := s.bellOp e addr) rfl
  rw [hpiece] at hlen
  rw [State.bellOp, Nat.add_zero] at hdest
  exact ⟨_, exec_mbEngBell he haddr hport hfree hreplay found, hmem, q, hsent, htype, hlen, hdest, hout, _, hargs, rfl, rfl, rfl, rfl⟩

end bell

end Sys2Proof.Machine

/-!
SUPPORT. The answer to the read of a doorbell's block (R387): the block is the engine's command.
-/
namespace Sys2Proof.Machine
variable {s s' : State} {p : Packet}

/-! ### The end of a read -/

/-- What a command keeps of its access is the access. -/
theorem memOfArgs_args (m : MemOp) : memOfArgs m.args = m := by
  have hbytes : (BitVec.ofNat 8 ∘ BitVec.toNat : Byte → Byte) = id := funext fun b => by simp
  unfold memOfArgs MemOp.args
  simp [nth, hbytes]

theorem MemOp.marks_zero (m : MemOp) : m.marks 0 = 0 := by simp [MemOp.marks, bit]

/-- An answer without poison that brings the last piece of a read ends the read. -/
theorem State.memAnswer_last {e : InProg} {m : MemOp} (hargs : e.args = m.args) (hread : memWriters.contains e.opcode = false)
    (hstatus : p.status = 0) (hclean : p.poison = 0) (hlast : m.len ≤ m.off + m.piece) (req : Packet) :
    s.memAnswer e req p = (s, some { m with off := m.off + m.piece, todo := 0, bytes := m.bytes ++ p.payload }) := by
  unfold State.memAnswer
  simp only [hargs, memOfArgs_args, hread, hstatus, hclean, MemOp.marks_zero, Nat.zero_ne_one, Nat.reduceEqDiff, if_false,
    Bool.false_eq_true, false_and]
  unfold MemOp.fuel State.memGo
  rw [if_pos hlast, show Nat.lor m.poison 0 = m.poison from Nat.or_zero _]

/-- The answer to a command's access goes to what the command does with it. -/
theorem State.mpAnswer_of_user {req : Packet} {e : InProg} (htype : req.type ≠ 8) (huser : s.mpUser req.tag = some e)
    (hop : e.opcode ≠ 0x0502) {m : MemOp} (hans : s.memAnswer e req p = (s', some m)) :
    s.mpAnswer req p = s'.memEnd e.opcode (e.port, e.node, e.ep, e.tag) m := by
  unfold State.mpAnswer
  rw [if_neg htype, huser]
  simp only [if_neg hop, hans]

/-- A response that a request of the management processor awaits is an answer to it. -/
theorem exec_responseArrival_of_mp (htake : s.take 546 1 = some (p, s')) {q : OutReq}
    (hout : s'.outReq (outKey 546 p.dstPlane p.tag) = some q) (hexp : q.expired = false) (hplane : q.pkt.srcPlane = 0) :
    exec (.responseArrival 546) s = .next (((s'.setOut (outKey 546 p.dstPlane p.tag) none).mpAnswer q.pkt p).pumpPosts 546) := by
  refine congrArg Host.Outcome.next ?_
  unfold State.responseArrives
  simp only [Nat.reduceLT, Nat.reduceLeDiff, Nat.reduceEqDiff, if_false, if_true, and_false, htake, Option.orElse_some,
    State.matchRsp_of_awaited hout hexp, hplane, Nat.zero_ne_one]

/-! ### The block that a doorbell named -/

/-- The state in which the read of a doorbell's block is done. -/
def State.bellDone (s : State) (e : InProg) : State :=
  s.updMail fun m => { m with inprog := dropInprog m.inprog (18, s.node, e.ep, e.tag), bells := mput (fun _ => []) m.bells e.ep [] }

section bell
variable {e : InProg} (hop : e.opcode = opBell) (hport : e.port = 18) (hnode : e.node = s.node) {a : Nat} (ha : a % 256 ≤ 192)
  (hstatus : p.status = 0) (hclean : p.poison = 0)
include hop hport hnode ha hstatus hclean

/-- The block that has been read is the engine's command. -/
theorem State.mpAnswer_bell {req : Packet} (htype : req.type = 0) (huser : s.mpUser req.tag = some e)
    (hargs : e.args = MemOp.args { tag := req.tag, addr := a, len := 64, bytes := [] }) :
    s.mpAnswer req p = (s.bellDone e).runCmd 18 s.node e.ep p.payload (mget (fun _ => []) s.mail.bells e.ep) := by
  let m : MemOp := { tag := req.tag, addr := a, len := 64, bytes := [] }
  have hpiece : m.piece = 64 := by
    have hmin : min (64 - 0) (256 - (a + 0) % 256) = 64 := by omega
    exact hmin
  have hans := State.memAnswer_last (s := s) (p := p) (m := m) hargs (by rw [hop]; rfl) hstatus hclean (by rw [hpiece]) req
  rw [State.mpAnswer_of_user (by omega) huser (by rw [hop]; decide) hans, hop, hport, hnode]
  rfl

end bell

theorem bellAnswer_clause (htake : s.take 546 1 = some (p, s')) {q : OutReq}
    (hout : s'.outReq (outKey 546 p.dstPlane p.tag) = some q) (hexp : q.expired = false) (htype : q.pkt.type = 0)
    (hplane : q.pkt.srcPlane = 0) {e : InProg} (huser : s.mpUser q.pkt.tag = some e) (hop : e.opcode = opBell) (hport : e.port = 18)
    (hnode : e.node = s.node) {a : Nat} (ha : a % 256 ≤ 192)
    (hargs : e.args = MemOp.args { tag := q.pkt.tag, addr := a, len := 64, bytes := [] }) {tag : Nat} (htag : tag < 2 ^ 16)
    (hstatus : p.status = 0) (hclean : p.poison = 0) (hpay : p.payload = cmdBlock 0x0109 tag 0 []) :
    ∃ t, exec (.nop ⟨18, s.node, e.ep, tag, 0⟩) ((s'.setOut (outKey 546 p.dstPlane p.tag) none).updMail fun m =>
          { m with inprog := dropInprog m.inprog (18, s.node, e.ep, e.tag), bells := mput (fun _ => []) m.bells e.ep [],
                   block := p.payload }) = .next t ∧
      exec (.responseArrival 546) s = .next (t.pumpPosts 546) := by
  have harrives := exec_responseArrival_of_mp htake hout hexp hplane
  obtain ⟨bufs, books, rfl⟩ := State.take_cases htake
  generalize hw : State.setOut { s with net := { s.net with bufs := bufs, books := books } } (outKey 546 p.dstPlane p.tag) none = w
    at harrives ⊢
  have hsame : w.node = s.node := by subst hw; rfl
  have huser' : w.mpUser q.pkt.tag = some e := by subst hw; exact huser
  have hend := State.mpAnswer_bell (s := w) hop hport (hnode.trans hsame.symm) ha hstatus hclean htype huser' hargs
  have hblock : (w.updMail fun m =>
        { m with inprog := dropInprog m.inprog (18, s.node, e.ep, e.tag), bells := mput (fun _ => []) m.bells e.ep [],
                 block := p.payload }) =
      (w.bellDone e).updMail fun m => { m with block := cmdBlock 0x0109 tag 0 [] } := by
    rw [← hpay, State.bellDone, hsame]
    rfl
  rw [hend, hpay, hsame] at harrives
  refine ⟨_, ?_, harrives⟩
  rw [hblock]
  exact runCmd_nop _ 18 s.node e.ep htag _

end Sys2Proof.Machine

/-!
SUPPORT. Fragments and blocks of a sideband (R254, R385), event blocks (R391, R392), and other agents' accesses to CSR space (R162, R163).
-/
namespace Sys2Proof.Machine
variable {s s' : State} {p : Packet}

/-! ### Ports 1 to 16 -/

section sideband
variable {port header : Nat} {data : List Byte} (hport : port < 16) (hruns : s.sideRuns = true) (hreplay : s.replaying = false)
  (hkind : 1 ≤ bits header 15 12) (hkind' : bits header 15 12 ≤ 3) (hlen : data.length = 8) (found : List TestFail)
include hport hruns hreplay hkind hkind'

/-- A message of a block's kinds brings one fragment. -/
theorem exec_sidebandMessage : exec (.sidebandMessage port header data found) s =
    .next (s.sideFrag port (bits header 15 12) (bits header 11 9) (bits header 7 0) data found) := by
  refine congrArg Host.Outcome.next (if_neg ?_)
  rw [hruns, hreplay]
  simp only [Bool.not_true, Bool.false_eq_true, false_or]
  omega

include hlen

/-- A first fragment begins a block. -/
theorem sideband_first (hpart : mwf (fun _ => []) s.mail.part = true) (hfrag : bits header 11 9 = 0) :
    ∃ u, exec (.sidebandMessage port header data found) s = .next u ∧ mget (fun _ => []) u.mail.part port = data := by
  have hdata : fit 0 8 data = data := by rw [fit_of_le (by omega), hlen]; simp
  refine ⟨_, exec_sidebandMessage hport hruns hreplay hkind hkind' found, ?_⟩
  unfold State.sideFrag
  simp only [hfrag, if_true, true_or, List.nil_append, hdata, hlen, show (8 : Nat) < 64 by decide]
  exact mget_mput_same hpart port data

/-- The last fragment of a NOP's block runs the NOP. -/
theorem sideband_last {tag : Nat} (htag : tag < 2 ^ 16) (hone : bits header 15 12 = 1) (hfrag : bits header 11 9 = 7)
    (hkey : mget (fun _ => 0) s.mail.partKind port = 256 + bits header 7 0) (hhave : (mget (fun _ => []) s.mail.part port).length = 56)
    (hblock : mget (fun _ => []) s.mail.part port ++ data = cmdBlock 0x0109 tag 0 []) :
    ∃ u, exec (.sidebandMessage port header data found) s = .next u ∧
      exec (.nop ⟨port + 1, 0, 0, tag, 0⟩) (s.updMail fun m =>
        { m with part := mput (fun _ => []) m.part port [], block := cmdBlock 0x0109 tag 0 [] }) = .next u := by
  have hdata : fit 0 8 data = data := by rw [fit_of_le (by omega), hlen]; simp
  have hfull : s.sideFrag port 1 7 (bits header 7 0) data found =
      (s.updMail fun m => { m with part := mput (fun _ => []) m.part port [] }).runCmd (port + 1) 0 0 (cmdBlock 0x0109 tag 0 []) found := by
    unfold State.sideFrag
    simp only [hdata]
    simp [hkey, hhave, hblock, length_nopBlock, State.sideBlock]
  have hmerge : (s.updMail fun m => { m with part := mput (fun _ => []) m.part port [], block := cmdBlock 0x0109 tag 0 [] }) =
      (s.updMail fun m => { m with part := mput (fun _ => []) m.part port [] }).updMail fun m => { m with block := cmdBlock 0x0109 tag 0 [] } :=
    rfl
  have hexec := exec_sidebandMessage hport hruns hreplay hkind hkind' (data := data) found
  rw [hone, hfrag, hfull] at hexec
  refine ⟨_, hexec, ?_⟩
  rw [hmerge]
  exact runCmd_nop _ (port + 1) 0 0 htag found

end sideband

/-! ### Events -/

/-- Three records or fewer make one block. -/
theorem byThree_of_short {α : Type} {l : List α} (hsome : 0 < l.length) (hfew : l.length ≤ 3) : byThree l.length l = [l] := by
  obtain ⟨a, t, rfl⟩ := List.exists_cons_of_length_pos hsome
  have hdrop : (a :: t).drop 3 = [] := List.drop_eq_nil_of_le hfew
  rw [List.length_cons, byThree, hdrop, List.take_of_length_le hfew]
  · cases t.length <;> rfl
  · exact List.cons_ne_nil a t

/-- The blocks of one queue leave no record in it, and change no other. -/
theorem State.evq_sendEvents (q : Nat) : (s.sendEvents q).mail.evq = mput (fun _ => []) s.mail.evq q [] := by
  unfold State.sendEvents
  refine foldl_p (Q := fun t : State => t.mail.evq = mput (fun _ => []) s.mail.evq q []) (fun t g ht => ?_) rfl
  dsimp only
  split
  · exact ht
  · split <;> exact ht

/-- What has been sent stays. -/
theorem State.sent_sendEvents {x : Nat × Nat × List Byte} (hx : x ∈ s.mail.sent) (q : Nat) : x ∈ (s.sendEvents q).mail.sent := by
  unfold State.sendEvents
  refine foldl_p (Q := fun t : State => x ∈ t.mail.sent) (fun t g ht => ?_) hx
  dsimp only
  split
  · exact List.mem_cons_of_mem _ ht
  · split <;> exact ht

/-- A short queue of a sideband leaves as one block. -/
theorem State.sendEvents_block {port : Nat} (hport : port ≤ 16) (hsome : 0 < (mget (fun _ => []) s.mail.evq port).length)
    (hfew : (mget (fun _ => []) s.mail.evq port).length ≤ 3) :
    (port, 3, fit 0 64 (evPayload (mget (fun _ => []) s.mail.evq port))) ∈ (s.sendEvents port).mail.sent := by
  unfold State.sendEvents
  dsimp only
  rw [byThree_of_short hsome hfew, State.each, List.foldl_cons, List.foldl_nil, if_pos hport]
  exact List.mem_cons_self

/-- From s to u the queue of a port has left as one block. -/
def State.EventsSent (s : State) (port : Nat) (u : State) : Prop :=
  mwf (fun _ => []) u.mail.evq = true ∧ mget (fun _ => []) u.mail.evq port = [] ∧
    (port, 3, fit 0 64 (evPayload (mget (fun _ => []) s.mail.evq port))) ∈ u.mail.sent

theorem State.EventsSent.sendEvents {port : Nat} {u : State} (h : s.EventsSent port u) (q : Nat) : s.EventsSent port (u.sendEvents q) := by
  obtain ⟨hwf, hnone, hsent⟩ := h
  refine ⟨?_, ?_, State.sent_sendEvents hsent q⟩
  · rw [State.evq_sendEvents]
    exact mwf_mput _ _ hwf
  · rw [State.evq_sendEvents]
    by_cases hq : port = q
    · subst hq
      exact mget_mput_same hwf ..
    · rw [mget_mput_ne hwf hq]
      exact hnone

theorem State.EventsSent.each {port : Nat} {u : State} (h : s.EventsSent port u) (l : List Nat) : s.EventsSent port (u.each l State.sendEvents) :=
  foldl_p (Q := s.EventsSent port) (fun _ q ht => ht.sendEvents q) h

/-- Among the ports whose queues leave, one with a short queue sends its block. -/
theorem State.eventsSent_each {port : Nat} (hport : port ≤ 16) (hsome : 0 < (mget (fun _ => []) s.mail.evq port).length)
    (hfew : (mget (fun _ => []) s.mail.evq port).length ≤ 3) : ∀ (l : List Nat) (t : State), port ∈ l →
      mwf (fun _ => []) t.mail.evq = true → mget (fun _ => []) t.mail.evq port = mget (fun _ => []) s.mail.evq port →
      s.EventsSent port (t.each l State.sendEvents)
  | [], _, hmem, _, _ => (List.not_mem_nil hmem).elim
  | q :: l, t, hmem, hwf, hsame => by
    by_cases hq : port = q
    · subst hq
      have hblock := State.sendEvents_block (s := t) hport (by rwa [hsame]) (by rwa [hsame])
      rw [hsame] at hblock
      refine State.EventsSent.each (u := t.sendEvents port) ⟨?_, ?_, hblock⟩ l
      · rw [State.evq_sendEvents]
        exact mwf_mput _ _ hwf
      · rw [State.evq_sendEvents]
        exact mget_mput_same hwf ..
    · refine State.eventsSent_each hport hsome hfew l (t.sendEvents q) (List.mem_of_ne_of_mem hq hmem) ?_ ?_
      · rw [State.evq_sendEvents]
        exact mwf_mput _ _ hwf
      · rw [State.evq_sendEvents, mget_mput_ne hwf hq]
        exact hsame

theorem eventBlockSend_clause (hwf : mwf (fun _ => []) s.mail.evq = true) {port : Nat} (hlow : 1 ≤ port) (hport : port ≤ 16)
    (hruns : s.sideRuns = true) (hsome : 0 < (mget (fun _ => []) s.mail.evq port).length)
    (hfew : (mget (fun _ => []) s.mail.evq port).length ≤ 3) :
    ∃ u, exec .eventBlockSend s = .next u ∧ mget (fun _ => []) u.mail.evq port = [] ∧
      (port, 3, fit 0 64 (evPayload (mget (fun _ => []) s.mail.evq port))) ∈ u.mail.sent := by
  have hmem : port ∈ (List.range 16).map (· + 1) := List.mem_map.2 ⟨port - 1, List.mem_range.2 (by omega), by omega⟩
  have hsides := State.eventsSent_each hport hsome hfew _ s hmem hwf rfl
  obtain ⟨-, hnone, hsent⟩ := hsides.each ((List.range 4).map (· + 32))
  have hexec : exec .eventBlockSend s =
      .next ((s.each ((List.range 16).map (· + 1)) State.sendEvents).each ((List.range 4).map (· + 32)) State.sendEvents) := by
    unfold exec execEventBlockSend
    rw [if_pos hruns]
  exact ⟨_, hexec, hnone, hsent⟩

/-! ### Bus errors -/

/-- A bus error is counted. -/
theorem State.f_busError_count (h : s.regsOk) (cause srcNode srcEp addr : Nat) :
    (s.busError cause srcNode srcEp addr).f Fld.CO_BERR_COUNT_COUNT 0 =
      min (s.f Fld.CO_BERR_COUNT_COUNT 0 + 1) Fld.CO_BERR_COUNT_COUNT.top := by
  have hcount : (s.inc Fld.CO_BERR_COUNT_COUNT 0).f Fld.CO_BERR_COUNT_COUNT 0 = _ := State.f_inc_same h Fld.CO_BERR_COUNT_COUNT rfl 0 1
  have hkeeps {t : State} (ht : t.regsOk ∧ t.f Fld.CO_BERR_COUNT_COUNT 0 = min (s.f Fld.CO_BERR_COUNT_COUNT 0 + 1) Fld.CO_BERR_COUNT_COUNT.top)
      {F : Field} (hF : Fld.CO_BERR_COUNT_COUNT.reg ≠ F.reg) (v : Nat) : (t.setF F 0 v).regsOk ∧
        (t.setF F 0 v).f Fld.CO_BERR_COUNT_COUNT 0 = min (s.f Fld.CO_BERR_COUNT_COUNT 0 + 1) Fld.CO_BERR_COUNT_COUNT.top :=
    ⟨State.regsOk_setF ht.1 F 0 v, (State.f_setF_reg ht.1 hF 0 0 v).trans ht.2⟩
  have hstart : (s.inc Fld.CO_BERR_COUNT_COUNT 0).regsOk ∧ _ := ⟨State.regsOk_setF h _ _ _, hcount⟩
  unfold State.busError
  refine ite_p (Q := fun t : State => t.f Fld.CO_BERR_COUNT_COUNT 0 = _) (fun _ => hcount) fun _ => ?_
  exact (hkeeps (hkeeps (hkeeps (hkeeps (hkeeps (hkeeps hstart (by decide) _) (by decide) _) (by decide) _) (by decide) _) (by decide) _)
    (by decide) _).2

/-- What an answer takes from the state. -/
theorem answer_congr {t : State} (hnode : t.rd .CO_NODE 0 = s.rd .CO_NODE 0) (hcfg : t.rd .CO_CFG 0 = s.rd .CO_CFG 0) (req : Packet)
    (type ep status : Nat) (payload : List Byte) (poison : Nat) (pst : Bool) :
    answer t req type ep status payload poison pst = answer s req type ep status payload poison pst := by
  have hvalid (F : Field) (hF : F.reg = .CO_NODE) : t.f F 0 = s.f F 0 := congrArg F.get (by rw [hF, hnode])
  have hhops : t.f Fld.CO_CFG_HOP_LIMIT 0 = s.f Fld.CO_CFG_HOP_LIMIT 0 := congrArg Fld.CO_CFG_HOP_LIMIT.get hcfg
  unfold answer State.node
  rw [hvalid Fld.CO_NODE_VALID rfl, hvalid Fld.CO_NODE_NODE rfl, hhops]

/-- A refused request is answered with a bus error. -/
theorem State.send_refuse (h : s.regsOk) (hsend : mwf (fun _ => []) s.net.send = true) (ep cause : Nat) :
    mget (fun _ => []) (s.refuse p ep cause).net.send ep = mget (fun _ => []) s.net.send ep ++ [answer s p 4 ep 2 [] 0 false] := by
  let b := s.busError cause p.srcNode p.srcEp (if addrForm p.type then p.addr else 0)
  have hnet : b.net = s.net := (State.busError_inv (clo_same s rfl) (Same.refl _ s)).net rfl
  have hnode : b.rd .CO_NODE 0 = s.rd .CO_NODE 0 := (State.busError_inv (clo_rd s .CO_NODE 0 rfl rfl rfl) ⟨h, rfl⟩).2
  have hcfg : b.rd .CO_CFG 0 = s.rd .CO_CFG 0 := (State.busError_inv (clo_rd s .CO_CFG 0 rfl rfl rfl) ⟨h, rfl⟩).2
  have hsends (t : State) (ht : t.net = b.net) (hregs : t.regs = b.regs) :
      mget (fun _ => []) (t.inject ep (answer t p 4 ep 2 [] 0 false)).net.send ep =
        mget (fun _ => []) s.net.send ep ++ [answer s p 4 ep 2 [] 0 false] := by
    have hrd (r : Reg) : t.rd r 0 = b.rd r 0 := by unfold State.rd State.raw; rw [hregs]
    rw [State.send_inject (by rwa [ht, hnet]), ht, hnet, answer_congr ((hrd _).trans hnode) ((hrd _).trans hcfg)]
  unfold State.refuse
  exact ite_p (Q := fun t : State => mget (fun _ => []) (t.inject ep (answer t p 4 ep 2 [] 0 false)).net.send ep = _)
    (fun _ => hsends _ rfl rfl) fun _ => hsends _ rfl rfl

/-- A refusal counts its bus error. -/
theorem State.f_refuse_count (h : s.regsOk) (ep cause : Nat) : (s.refuse p ep cause).f Fld.CO_BERR_COUNT_COUNT 0 =
    min (s.f Fld.CO_BERR_COUNT_COUNT 0 + 1) Fld.CO_BERR_COUNT_COUNT.top := by
  have hcount := State.f_busError_count h cause p.srcNode p.srcEp (if addrForm p.type then p.addr else 0)
  unfold State.refuse
  exact ite_p (Q := fun t : State => (t.inject ep (answer t p 4 ep 2 [] 0 false)).f Fld.CO_BERR_COUNT_COUNT 0 = _)
    (fun _ => hcount) fun _ => hcount

/-! ### CSR space -/

/-- The six registers that identify the stack stand at the start of CSR space. -/
theorem ident_offset {off : Nat} (hoff : off ≤ 0x14) (halign : off % 4 = 0) :
    off = 0 ∨ off = 4 ∨ off = 8 ∨ off = 12 ∨ off = 16 ∨ off = 20 := by omega

theorem atOffset_ident {off : Nat} (hoff : off ≤ 0x14) (halign : off % 4 = 0) {r : Reg} {i : Nat} (hreg : Reg.atOffset off = some (r, i)) :
    r ∈ [Reg.HK_ID_VENDOR, .HK_ID_PART, .HK_ID_REV, .HK_ID_NODE, .HK_ID_UID_LO, .HK_ID_UID_HI] := by
  have hall : ([0, 4, 8, 12, 16, 20].all fun o => (Reg.atOffset o).all fun x =>
      [Reg.HK_ID_VENDOR, .HK_ID_PART, .HK_ID_REV, .HK_ID_NODE, .HK_ID_UID_LO, .HK_ID_UID_HI].contains x.1) = true := by decide +kernel
  have hof := List.all_eq_true.1 hall off (by simpa using ident_offset hoff halign)
  rw [hreg] at hof
  simpa using hof

/-- A read of one of them leaves the state as it is. -/
theorem State.regRead_ident (r : Reg) (i : Nat)
    (hr : r ∈ [Reg.HK_ID_VENDOR, .HK_ID_PART, .HK_ID_REV, .HK_ID_NODE, .HK_ID_UID_LO, .HK_ID_UID_HI]) : (s.regRead r i).2 = s := by
  simp only [List.mem_cons, List.not_mem_nil, or_false] at hr
  rcases hr with rfl | rfl | rfl | rfl | rfl | rfl <;> rfl

/-- No doorbell stands there. -/
theorem State.bellOf_ident {off : Nat} (hoff : off ≤ 0x14) (halign : off % 4 = 0) : s.bellOf p off = none := by
  unfold State.bellOf
  split
  · next e hreg => exact absurd (atOffset_ident hoff halign hreg) (by decide)
  · rfl

section csr
variable (htake : s.takeOn (ejectLinks 546) 0 (s.isFor 546) = some (p, s')) (hform : addrForm p.type = true) (hlen : p.len = 3)
  {off : Nat} (hdec : decodeAddr p.addr = .csr off) (hoff : off ≤ 0x14) (halign : off % 4 = 0) (found : List TestFail)
include htake hform hdec

/-- A request to CSR space at the management processor's endpoint. -/
theorem exec_csrAccess : exec (.csrAccess found) s = .next (s'.csrRequest p off found) := by
  unfold exec execCsrAccess State.mpRequest
  simp only [htake, hform, hdec, Bool.not_true, Bool.false_eq_true, if_false]

include hlen hoff halign

theorem csrAccess_read (hsend : mwf (fun _ => []) s.net.send = true) (hread : p.type = 0) {r : Reg} {i : Nat}
    (hreg : Reg.atOffset off = some (r, i)) : ∃ u, exec (.csrAccess found) s = .next u ∧
      mget (fun _ => []) u.net.send 546 = mget (fun _ => []) s.net.send 546 ++
        [answer s p 3 546 0 (leBytes 4 (s'.regRead r i).1.toNat) 0 false] := by
  have hanswers : s'.csrRequest p off found = s'.inject 546 (answer s' p 3 546 0 (leBytes 4 (s'.regRead r i).1.toNat) 0 false) := by
    have hsame := State.regRead_ident (s := s') r i (atOffset_ident hoff halign hreg)
    unfold State.csrRequest csrReserved
    rw [if_neg (by omega), if_neg (by simp; omega), if_pos hread, if_pos (Or.inl hoff), hreg]
    dsimp only
    rw [hsame]
  obtain ⟨bufs, books, rfl⟩ := State.takeOn_cases htake
  refine ⟨_, (exec_csrAccess htake hform hdec found).trans (congrArg _ hanswers), ?_⟩
  exact State.send_inject (s := { s with net := { s.net with bufs := bufs, books := books } }) hsend 546 _

theorem csrAccess_write (hs : s.regsOk) (hsend : mwf (fun _ => []) s.net.send = true) (hwrite : p.type = 1) :
    ∃ u, exec (.csrAccess found) s = .next u ∧
      u.f Fld.CO_BERR_COUNT_COUNT 0 = min (s.f Fld.CO_BERR_COUNT_COUNT 0 + 1) Fld.CO_BERR_COUNT_COUNT.top ∧
      mget (fun _ => []) u.net.send 546 = mget (fun _ => []) s.net.send 546 ++ [answer s p 4 546 2 [] 0 false] := by
  have hrefuses : s'.csrRequest p off found = s'.refuse p 546 4 := by
    unfold State.csrRequest csrReserved
    rw [if_neg (by omega), if_neg (by simp; omega), if_neg (by omega), State.bellOf_ident hoff halign]
  obtain ⟨bufs, books, rfl⟩ := State.takeOn_cases htake
  refine ⟨_, (exec_csrAccess htake hform hdec found).trans (congrArg _ hrefuses), ?_, ?_⟩
  · exact State.f_refuse_count (s := { s with net := { s.net with bufs := bufs, books := books } }) hs 546 4
  · exact State.send_refuse (s := { s with net := { s.net with bufs := bufs, books := books } }) hs hsend 546 4

end csr

/-- Settles O33, one transport at a time. -/
theorem blocksEventsAndAccessesArrive : Obligations.BlocksEventsAndAccessesArrive := by
  intro s found hs ht hreplay
  refine ⟨fun p s' htake tag htag hpay hlen hclean => mbCmd_clause hreplay htake hlen hclean found htag hpay,
    fun engine addr he haddr halign hport hfree => mbEngBell_clause he haddr hport hfree hreplay found ht halign,
    fun p s' htake q hout hexp htype hplane e huser hop hport hnode a ha hargs tag htag hstatus hclean hpay =>
      bellAnswer_clause htake hout hexp htype hplane huser hop hport hnode ha hargs htag hstatus hclean hpay,
    fun port header data hport hruns hlen => ⟨fun hkind hkind' hfrag => ?first, fun tag htag hone hfrag hkey hhave hblock => ?last, ?timeout⟩,
    fun port hlow hport hruns hsome hfew => eventBlockSend_clause ht.evq hlow hport hruns hsome hfew,
    fun p s' htake hform hlen off hdec hoff halign => ⟨fun hread r i hreg => ?read, fun hwrite => ?write⟩⟩
  case first => exact sideband_first hport hruns hreplay hkind hkind' hlen found ht.part hfrag
  case last => exact sideband_last hport hruns hreplay (by omega) (by omega) hlen found htag hone hfrag hkey hhave hblock
  case timeout => exact ⟨_, rfl, mget_mput_same ht.part port []⟩
  case read => exact csrAccess_read htake hform hlen hdec hoff halign found ht.send hread hreg
  case write => exact csrAccess_write htake hform hlen hdec hoff halign found hs.regs ht.send hwrite

end Sys2Proof.Machine

/-!
SUPPORT. The clocks: start-up's steps 5 and 6, the judgement of REFCLK, its loss, and the stop, the lock and the switches of the hearth
loop (R321 to R329, Table 16-2), each as what it leaves in the clock registers.
-/
namespace Sys2Proof.Machine
variable {s t u : State} {P : State → Prop}

/-- Single registers that are written keep the register table's canonical form. -/
theorem clo_regsOk {m : Nat} (h0 : m.testBit 0 = false) (h19 : m.testBit 19 = false) : Clo m State.regsOk := by
  constructor
  case wr => exact fun _ {_ _ _ _} k => State.regsOk_wr k ..
  case setTab => exact fun _ {_} _ _ _ k => State.regsOk_setRaw k ..
  case setRaw => exact fun h => by rw [h0] at h; cases h
  case dropRegs => exact fun h => by rw [h0] at h; cases h
  case powerOn => exact fun h => by rw [h19] at h; cases h
  case stackReset => exact fun h => by rw [h19] at h; cases h
  all_goals intros; exact ‹State.regsOk _›

theorem State.Within.regsOk {m : Nat} (h : s.Within m t) (hs : s.regsOk) (h0 : m.testBit 0 = false := by rfl)
    (h19 : m.testBit 19 = false := by rfl) : t.regsOk := h _ (clo_regsOk h0 h19) hs

theorem State.regsOk_updBoot (h : s.regsOk) (g : Boot → Boot) : (s.updBoot g).regsOk := h

/-! ### Steps 5 and 6 of start-up -/

/-- The state in which the self-tests begin: what the journal holds is in force. -/
def State.journalInForce (s : State) : State :=
  let s := s.readJournal
  let j := s.journal
  let s := s.each j.remaps fun s (r : Nat × Nat × Nat × Nat) =>
    if (s.stair r.1).remaps.contains (r.2.1, r.2.2.1, r.2.2.2) then s else s.remap r.1 r.2.1 r.2.2.1 r.2.2.2
  let s := s.each j.narrows fun s (r : Nat × Nat × Nat) => s.narrow r.1 r.2.1 r.2.2
  let s := s.each j.repairs fun s (r : Nat × Nat × Nat) => s.setSpare r.1 r.2.1 3 r.2.2
  s.each (j.life.zipIdx) fun s (x : Nat × Nat) => s.setF Fld.TH_LIFE_HOURS x.2 x.1

theorem State.beginTests_eq (s : State) : s.beginTests = (s.journalInForce.updBoot fun b =>
    { b with fallow := s.readJournal.journal.fallow, testPos := 0, wipePos := 0, failed := [] }).setF Fld.BT_STATUS_ST_RUNNING 0 1 := rfl

theorem State.journalInForce_within (s : State) :
    s.Within 0x4000000000000000000000000000000000120600000000100000000050180 s.journalInForce := by
  intro P c k
  unfold State.journalInForce
  refine State.each_inv (c.mono rfl) (State.each_inv (c.mono rfl) (State.each_inv (c.mono rfl) (State.each_inv (c.mono rfl)
    (State.readJournal_inv (c.mono rfl) k) fun _ _ h => ?remaps) fun _ _ h => ?narrows) fun _ _ h => ?repairs) fun _ _ h => ?life
  case remaps => exact ite_p (fun _ => h) fun _ => State.remap_inv (c.mono rfl) h
  case narrows => exact State.narrow_inv (c.mono rfl) h
  case repairs => exact State.setSpare_inv (c.mono rfl) h
  case life => exact c.setF rfl h

theorem State.untested_step (s : State) (l : List (Nat × Nat)) :
    (s.updBoot fun b => { b with fallow := l, testPos := 0, wipePos := 0, failed := [] }).boot.step = s.boot.step := rfl

/-- The begin of the self-tests leaves the step and says that they run. -/
theorem State.beginTests_step (s : State) : s.beginTests.boot.step = s.boot.step := by
  have hboot : s.journalInForce.boot = s.boot := s.journalInForce_within.same.boot rfl
  rw [State.beginTests_eq, State.setF_boot]
  exact (State.untested_step _ _).trans (congrArg Boot.step hboot)

theorem State.beginTests_running (h : s.regsOk) : s.beginTests.f Fld.BT_STATUS_ST_RUNNING 0 = 1 := by
  have hok : s.journalInForce.regsOk := s.journalInForce_within.regsOk h
  rw [State.beginTests_eq]
  exact State.f_setF_same (State.regsOk_updBoot hok _) Fld.BT_STATUS_ST_RUNNING rfl 0 1

/-- Step 6 of start-up: FAULT_N ends and the self-tests begin. -/
def State.atStep6 (s : State) : State := ((s.updBoot fun b => { b with faultN := false }).setStep 6).beginTests

theorem State.atStep6_step (s : State) : s.atStep6.boot.step = 6 := State.beginTests_step _

theorem State.atStep6_running (h : s.regsOk) :
    s.atStep6.f Fld.HK_STATUS_STEP 0 = 6 ∧ s.atStep6.f Fld.BT_STATUS_ST_RUNNING 0 = 1 := by
  let t := (s.updBoot fun b => { b with faultN := false }).setStep 6
  have hok : t.regsOk := State.regsOk_setF (s := (s.updBoot fun b => { b with faultN := false }).updBoot fun b => { b with step := 6 }) h ..
  have hw : t.Within 0x4000000000000000000000000000000000120600000000100000000058180 t.beginTests := fun _ c k => State.beginTests_inv c k
  refine ⟨(hw.f hok 0).trans (State.f_setF_same (s := (s.updBoot fun b => { b with faultN := false }).updBoot fun b => { b with step := 6 })
    h Fld.HK_STATUS_STEP rfl 0 6), State.beginTests_running hok⟩

/-- What holds at step 6: the loop runs, the island's clocks have moved to it, and neither the shutdown nor the safe state is on. -/
def State.clocksMoved (s : State) : Prop :=
  s.loopRuns = true ∧ s.f Fld.CK_STATUS_HK_SRC 0 = 1 ∧ s.f Fld.CK_STATUS_MP_SRC 0 = 1 ∧ s.shutdown = false ∧ s.safe = false

theorem State.startClocks_of_not4 (h : ¬(s.boot.step = 4 ∧ !s.boot.stopped ∧ s.refGood ∧ s.f Fld.PW_STATUS_PGOOD = 1023)) :
    s.startClocks = if s.boot.step = 5 ∧ s.loopRuns ∧ s.f Fld.CK_STATUS_HK_SRC = 1 ∧ s.f Fld.CK_STATUS_MP_SRC = 1 ∧ !s.shutdown ∧ !s.safe
      then s.atStep6 else s := by
  unfold State.startClocks
  simp only [if_neg h]
  rfl

theorem State.startClocks_of_moved (hstep : s.boot.step = 5) (h : s.clocksMoved) : s.startClocks = s.atStep6 := by
  obtain ⟨hruns, hhk, hmp, hshut, hsafe⟩ := h
  rw [State.startClocks_of_not4 (by omega)]
  exact if_pos ⟨hstep, hruns, hhk, hmp, by rw [hshut]; rfl, by rw [hsafe]; rfl⟩

theorem State.startClocks_of_notMoved (hstep : s.boot.step = 5) (h : ¬s.clocksMoved) : s.startClocks = s := by
  rw [State.startClocks_of_not4 (by omega)]
  refine if_neg fun hall => h ?_
  obtain ⟨-, hruns, hhk, hmp, hshut, hsafe⟩ := hall
  exact ⟨hruns, hhk, hmp, by simpa using hshut, by simpa using hsafe⟩

/-- Elsewhere than at steps 4 and 5 nothing starts, and at step 4 nothing without a good REFCLK. -/
theorem State.startClocks_of_idle (h5 : s.boot.step ≠ 5) (h4 : s.boot.step ≠ 4 ∨ s.f Fld.CK_STATUS_REF_GOOD 0 = 0) : s.startClocks = s := by
  rw [State.startClocks_of_not4 fun hall => ?_]
  · exact if_neg fun hall => h5 hall.1
  · obtain ⟨hstep, -, hgood, -⟩ := hall
    have hgood : s.f Fld.CK_STATUS_REF_GOOD 0 = 1 := of_decide_eq_true hgood
    omega

/-- Start-up keeps what its kinds keep and the begin of locking does. -/
theorem State.startClocks_keeps (c : Clo 0x4000000000000000000000000000000000120600000000100000040058180 P) (k : P s)
    (hlocking : ∀ t, P t → t.hearth = 0 → P (t.setHearth 1)) : P s.startClocks := by
  unfold State.startClocks
  extract_lets step5 begun
  have hstep5 : P step5 := State.setStep_inv (c.mono rfl) k
  have hbegun : P begun := ite_p (fun _ => ite_p (fun h => hlocking _ hstep5 h.1) fun _ => hstep5) fun _ => k
  exact ite_p (fun _ => State.beginTests_inv (c.mono rfl) (State.setStep_inv (c.mono rfl) (State.updBoot_inv (c.mono rfl) hbegun))) fun _ => hbegun

/-- The mask of the registers and kinds that start-up's steps 5 and 6 change, but for the state of the loop. -/
abbrev startMask : Nat := 0x4000000000000000000000000000000000120600000000100000040058180

theorem State.startClocks_f (h : s.regsOk) {F : Field} (hF : Fld.CK_STATUS_HEARTH.apart F = true := by rfl)
    (hr : startMask.testBit (24 + F.reg.ctorIdx) = false := by rfl) : s.startClocks.f F 0 = s.f F 0 :=
  (State.startClocks_keeps (P := fun t => t.regsOk ∧ F.get (t.rd F.reg 0) = s.f F 0) (clo_word (fun w => F.get w = s.f F 0) F.reg 0 rfl rfl hr) ⟨h, rfl⟩
    fun _ ht _ => ⟨State.regsOk_setF ht.1 .., (State.f_setF_apart ht.1 hF ..).trans ht.2⟩).2

theorem State.startClocks_hearth (h : s.regsOk) (h0 : s.hearth ≠ 0) :
    s.startClocks.f Fld.CK_STATUS_HEARTH 0 = s.f Fld.CK_STATUS_HEARTH 0 :=
  (State.startClocks_keeps (P := fun t => t.regsOk ∧ Fld.CK_STATUS_HEARTH.get (t.rd .CK_STATUS 0) = s.f Fld.CK_STATUS_HEARTH 0)
    (clo_word (fun w => Fld.CK_STATUS_HEARTH.get w = s.f Fld.CK_STATUS_HEARTH 0) .CK_STATUS 0 rfl rfl rfl) ⟨h, rfl⟩ fun _ ht hz => absurd (ht.2.symm.trans hz) h0).2

theorem State.startClocks_mem (s : State) : s.startClocks.mem = s.mem :=
  (State.startClocks_inv (clo_same s rfl) (Same.refl _ s)).mem rfl

end Sys2Proof.Machine

/-!
SUPPORT. The safe state that a stop of the hearth loop leads to, the loss of REFCLK and its judgement (R322, R324, R327).
-/
namespace Sys2Proof.Machine
variable {s t u : State} {cause data status n : Nat}

/-! ### Entering the safe state -/

theorem State.safeBegun_spec (h : s.regsOk) : (s.safeBegun status).regsOk ∧ (s.safeBegun status).f Fld.HK_STATUS_SAFE 0 = 1 ∧
    (s.safeBegun status).boot.faultN = true ∧ (s.safeBegun status).boot.safeN = true := by
  unfold State.safeBegun
  extract_lets failed cmd answered begun
  have hok : answered.regsOk := State.respondTo_inv (clo_regsOk rfl rfl) (State.regsOk_updBoot
    (State.failCommit_inv (clo_regsOk rfl rfl) h) _)
  have hsafe : begun.f Fld.HK_STATUS_SAFE 0 = 1 :=
    (State.f_setF_apart (State.regsOk_setF hok ..) (F := Fld.HK_STATUS_READY) rfl ..).trans (State.f_setF_same hok Fld.HK_STATUS_SAFE rfl 0 1)
  exact ⟨State.regsOk_updBoot (State.regsOk_setF (State.regsOk_setF hok ..) ..) _, hsafe, rfl, rfl⟩

theorem State.stopUnits_within (s : State) :
    s.Within 0x1e0304400710000040004004041300000000021c940201000000000000000003ffa s.stopUnits := fun _ c k => State.stopUnits_inv c k
theorem State.safeRecord_within (s : State) (cause : Nat) :
    s.Within 0x39f020000071000000000000000000000000000000000000000000000000000007b2 (s.safeRecord cause) := fun _ c k => State.safeRecord_inv c k
theorem State.event_within (s : State) (code source data : Nat) : s.Within 0x4000000000000008 (s.event code source data) :=
  fun _ c k => State.event_inv c k
theorem State.enterSafe_within (s : State) (cause data status : Nat) :
    s.Within 0x39f0304400710000040004004041300000000021c94020101008400000004000bffe (s.enterSafe cause data status) :=
  fun _ c k => State.enterSafe_inv c k

theorem State.safeRecord_cause (h : s.regsOk) : (s.safeRecord cause).f Fld.RP_SAFE_CAUSE_CAUSE 0 = cause % 2 ^ 8 ∧
    (s.safeRecord cause).f Fld.RP_SAFE_CAUSE_VALID 0 = 1 := by
  unfold State.safeRecord
  extract_lets shown ended valid named stamped
  have hended : ended.regsOk := State.endRecording_inv (clo_regsOk rfl rfl) (ite_p (fun _ => State.regsOk_setF h ..) fun _ => h)
  have hvalid : valid.regsOk := State.regsOk_setF hended ..
  have hnamed : named.regsOk := State.regsOk_setF hvalid ..
  have hlast (F : Field) (hlo : Fld.RP_SAFE_STAMP_LO_STAMP.apart F = true) (hhi : Fld.RP_SAFE_STAMP_HI_STAMP.apart F = true) :
      (stamped.setF Fld.RP_SAFE_STAMP_HI_STAMP 0 (stamped.replay.stamp / 2 ^ 32)).f F 0 = named.f F 0 :=
    (State.f_setF_apart (State.regsOk_setF hnamed ..) hhi ..).trans (State.f_setF_apart hnamed hlo ..)
  constructor
  · exact (hlast _ rfl rfl).trans (State.f_setF_same hvalid Fld.RP_SAFE_CAUSE_CAUSE rfl 0 cause)
  · exact (hlast _ rfl rfl).trans ((State.f_setF_apart hvalid rfl ..).trans (State.f_setF_same hended Fld.RP_SAFE_CAUSE_VALID rfl 0 1))

/-- What the entry leaves where it takes place. -/
theorem State.enterSafe_spec (h : s.regsOk) (hsafe : s.safe = false) (hpast : s.pastCommitPoint = false) :
    let u := s.enterSafe cause data status
    u.f Fld.HK_STATUS_SAFE 0 = 1 ∧ u.f Fld.RP_SAFE_CAUSE_CAUSE 0 = cause % 2 ^ 8 ∧ u.f Fld.RP_SAFE_CAUSE_VALID 0 = 1 ∧
      u.boot.faultN = true ∧ u.boot.safeN = true := by
  intro u
  obtain ⟨hbegun, hstatus, hfault, hsafeN⟩ := State.safeBegun_spec (status := status) h
  let b := s.safeBegun status
  let r := b.stopUnits.safeRecord cause
  have hu : u = r.event 0x0002 0 (cause + 2 ^ 32 * data) := State.enterSafe_eq cause data status hsafe hpast
  have hstop : b.stopUnits.regsOk := b.stopUnits_within.regsOk hbegun
  have hr : r.regsOk := (State.safeRecord_within _ cause).regsOk hstop
  have hevent := State.event_within r 0x0002 0 (cause + 2 ^ 32 * data)
  obtain ⟨hcause, hvalid⟩ := State.safeRecord_cause (cause := cause) hstop
  have hboot : u.boot = b.boot := by
    rw [hu, hevent.same.boot rfl, (State.safeRecord_within _ cause).same.boot rfl, b.stopUnits_within.same.boot rfl]
  refine ⟨?_, ?_, ?_, hboot ▸ hfault, hboot ▸ hsafeN⟩
  · rw [hu, hevent.f hr 0, (State.safeRecord_within _ cause).f hstop 0, b.stopUnits_within.f hbegun 0]
    exact hstatus
  · rw [hu, hevent.f hr 0]
    exact hcause
  · rw [hu, hevent.f hr 0]
    exact hvalid

theorem State.safe_enterSafe (h : s.regsOk) (hpast : s.pastCommitPoint = false) : (s.enterSafe cause data status).safe = true := by
  cases hsafe : s.safe with
  | true => rw [State.enterSafe, if_pos hsafe, hsafe]
  | false => exact decide_eq_true (State.enterSafe_spec h hsafe hpast).1

/-! ### The stop of the loop -/

theorem State.loopRuns_iff : s.loopRuns = true ↔ s.f Fld.CK_STATUS_HEARTH 0 = 2 ∨ s.f Fld.CK_STATUS_HEARTH 0 = 3 := by
  simp [State.loopRuns]

theorem State.edgesOver_within (s : State) : s.Within 0x140000000000000000000000040 (s.each rooms128 State.edgeOver) :=
  fun _ c k => State.each_inv (c.mono rfl) k fun _ _ h => State.edgeOver_inv c h

/-- The loop's own registers once it has stopped. -/
def State.loopStopped (s : State) : State := (s.setHearth 4).setF Fld.CK_REF_LOST_ACTIVE 0 0

theorem State.loopStops_eq (hruns : s.loopRuns = true) :
    s.loopStops = (s.loopStopped.enterSafe 8).each rooms128 State.edgeOver := if_pos hruns

theorem State.regsOk_loopStopped (h : s.regsOk) : s.loopStopped.regsOk := State.regsOk_setF (State.regsOk_setF h ..) ..

theorem State.loopStopped_f (h : s.regsOk) {F : Field} (hF : Fld.CK_STATUS_HEARTH.apart F = true := by rfl)
    (hA : Fld.CK_REF_LOST_ACTIVE.apart F = true := by rfl) : s.loopStopped.f F 0 = s.f F 0 :=
  (State.f_setF_apart (State.regsOk_setF h ..) hA ..).trans (State.f_setF_apart h hF ..)

theorem State.loopStops_clock (h : s.regsOk) (hruns : s.loopRuns = true) :
    s.loopStops.f Fld.CK_STATUS_HEARTH 0 = 4 ∧ s.loopStops.f Fld.CK_REF_LOST_ACTIVE 0 = 0 := by
  have hok := State.regsOk_loopStopped h
  have hsafe := State.enterSafe_within s.loopStopped 8 0 6
  have hedges := State.edgesOver_within (s.loopStopped.enterSafe 8)
  rw [State.loopStops_eq hruns, hedges.f (hsafe.regsOk hok) 0, hedges.f (hsafe.regsOk hok) 0, hsafe.f hok 0, hsafe.f hok 0]
  exact ⟨(State.f_setF_apart (State.regsOk_setF h ..) rfl ..).trans (State.f_setF_same h Fld.CK_STATUS_HEARTH rfl 0 4),
    State.f_setF_same (State.regsOk_setF h ..) Fld.CK_REF_LOST_ACTIVE rfl 0 0⟩

theorem State.loopStops_safe (h : s.regsOk) (hruns : s.loopRuns = true) (hpast : s.pastCommitPoint = false) :
    s.loopStops.safe = true := by
  have hok := State.regsOk_loopStopped h
  have hsafe := State.enterSafe_within s.loopStopped 8 0 6
  have hentered : (s.loopStopped.enterSafe 8).safe = true := State.safe_enterSafe hok hpast
  rw [State.loopStops_eq hruns, State.safe, (State.edgesOver_within _).f (hsafe.regsOk hok) 0]
  exact hentered

theorem State.loopStops_cause (h : s.regsOk) (hruns : s.loopRuns = true) (hpast : s.pastCommitPoint = false) (hsafe : s.safe = false) :
    s.loopStops.f Fld.RP_SAFE_CAUSE_CAUSE 0 = 8 ∧ s.loopStops.f Fld.RP_SAFE_CAUSE_VALID 0 = 1 ∧ s.loopStops.boot.faultN = true ∧
      s.loopStops.boot.safeN = true := by
  have hok := State.regsOk_loopStopped h
  have hin := (State.enterSafe_within s.loopStopped 8 0 6).regsOk hok
  have hedges := State.edgesOver_within (s.loopStopped.enterSafe 8)
  have hfree : s.loopStopped.safe = false := (congrArg (fun v => decide (v = 1)) (State.loopStopped_f h)).trans hsafe
  obtain ⟨-, hcause, hvalid, hfault, hsafeN⟩ := State.enterSafe_spec (cause := 8) (data := 0) (status := 6) hok hfree hpast
  rw [State.loopStops_eq hruns, hedges.f hin 0, hedges.f hin 0, hedges.same.boot rfl]
  exact ⟨hcause, hvalid, hfault, hsafeN⟩

/-! ### The loss of REFCLK -/

/-- The loss is noted in the registers of the judgement. -/
def State.lossNoted (s : State) : State := ((s.setF Fld.CK_STATUS_REF_GOOD 0 0).setF Fld.CK_REF_JUDGE_WINDOWS 0 0).inc Fld.CK_REF_LOST_COUNT 0
/-- The loop coasts: groups are forced into TXS and ports drain (R324). -/
def State.coasts (s : State) : State :=
  (((s.setHearth 3).setF Fld.CK_REF_LOST_ACTIVE 0 1).each (List.range 16) State.forceTxs).each (List.range 16) State.linkDrained

/-- The state in which the loss is noted and recorded. -/
def State.lossRecorded (s : State) : State := s.lossNoted.recordSrc 1 4 1 []

theorem State.refLoss_eq (hgood : s.f Fld.CK_STATUS_REF_GOOD 0 = 1) : s.refLoss =
    if !s.lossRecorded.loopRuns then s.lossRecorded else if s.lossRecorded.f Fld.CK_STATUS_RC_FAIL = 1 then s.lossRecorded.loopStops
    else s.lossRecorded.coasts :=
  if_neg (by simp [State.refGood, hgood])

theorem State.refLoss_of_bad (hgood : s.f Fld.CK_STATUS_REF_GOOD 0 = 0) : s.refLoss = s := if_pos (by simp [State.refGood, hgood])

theorem State.recordSrc_within (s : State) (b kind source : Nat) (payload : List Byte) :
    s.Within 0x1e02000000000000000000000000000000000000000000000000000000000000022 (s.recordSrc b kind source payload) :=
  fun _ c k => State.recordSrc_inv c k

/-- What coasting changes beside the two registers of the loop. -/
theorem State.coasts_within (s : State) : ((s.setHearth 3).setF Fld.CK_REF_LOST_ACTIVE 0 1).Within
    0x1e020000000000004800c40c000000000000000000000000000000000000000203a s.coasts := fun _ c k =>
  State.each_inv (c.mono rfl) (State.each_inv (c.mono rfl) k fun _ _ h => State.forceTxs_inv (c.mono rfl) h)
    fun _ _ h => State.linkDrained_inv (c.mono rfl) h

theorem State.regsOk_lossNoted (h : s.regsOk) : s.lossNoted.regsOk := State.regsOk_inc (State.regsOk_setF (State.regsOk_setF h ..) ..) ..

/-- A field that the note of the loss does not name. -/
theorem State.lossNoted_f (h : s.regsOk) {F : Field} (hgood : Fld.CK_STATUS_REF_GOOD.apart F = true := by rfl)
    (hwin : Fld.CK_REF_JUDGE_WINDOWS.apart F = true := by rfl) (hcount : Fld.CK_REF_LOST_COUNT.apart F = true := by rfl) :
    s.lossNoted.f F 0 = s.f F 0 :=
  (State.f_inc_apart (State.regsOk_setF (State.regsOk_setF h ..) ..) hcount ..).trans
    ((State.f_setF_apart (State.regsOk_setF h ..) hwin ..).trans (State.f_setF_apart h hgood ..))

theorem State.lossNoted_shown (h : s.regsOk) : s.lossNoted.f Fld.CK_STATUS_REF_GOOD 0 = 0 ∧
    s.lossNoted.f Fld.CK_REF_JUDGE_WINDOWS 0 = 0 ∧
    s.lossNoted.f Fld.CK_REF_LOST_COUNT 0 = min (s.f Fld.CK_REF_LOST_COUNT 0 + 1) Fld.CK_REF_LOST_COUNT.top := by
  have hgood : (s.setF Fld.CK_STATUS_REF_GOOD 0 0).regsOk := State.regsOk_setF h ..
  have hwin : ((s.setF Fld.CK_STATUS_REF_GOOD 0 0).setF Fld.CK_REF_JUDGE_WINDOWS 0 0).regsOk := State.regsOk_setF hgood ..
  refine ⟨?_, ?_, ?_⟩
  · exact (State.f_inc_apart hwin rfl ..).trans ((State.f_setF_apart hgood rfl ..).trans (State.f_setF_same h Fld.CK_STATUS_REF_GOOD rfl 0 0))
  · exact (State.f_inc_apart hwin rfl ..).trans (State.f_setF_same hgood Fld.CK_REF_JUDGE_WINDOWS rfl 0 0)
  · rw [State.lossNoted, State.f_inc_same hwin _ rfl, State.f_setF_apart hgood (by rfl), State.f_setF_apart h (by rfl)]

/-- What the loss leaves in the registers of the judgement. -/
structure State.LossShown (s u : State) : Prop where
  good : u.f Fld.CK_STATUS_REF_GOOD 0 = 0
  windows : u.f Fld.CK_REF_JUDGE_WINDOWS 0 = 0
  last : u.f Fld.CK_REF_JUDGE_LAST 0 = s.f Fld.CK_REF_JUDGE_LAST 0
  count : u.f Fld.CK_REF_LOST_COUNT 0 = min (s.f Fld.CK_REF_LOST_COUNT 0 + 1) Fld.CK_REF_LOST_COUNT.top

theorem State.regsOk_lossRecorded (h : s.regsOk) : s.lossRecorded.regsOk :=
  (State.recordSrc_within s.lossNoted 1 4 1 []).regsOk (State.regsOk_lossNoted h)

theorem State.lossRecorded_shown (h : s.regsOk) : s.LossShown s.lossRecorded := by
  obtain ⟨hgood, hwin, hcount⟩ := State.lossNoted_shown h
  have hw := State.recordSrc_within s.lossNoted 1 4 1 []
  have hok := State.regsOk_lossNoted h
  exact ⟨(hw.f hok 0).trans hgood, (hw.f hok 0).trans hwin, (hw.f hok 0).trans (State.lossNoted_f h), (hw.f hok 0).trans hcount⟩

/-- A change of the two fields of the loop and of other registers keeps what the loss shows. -/
theorem State.LossShown.of_f (h : s.LossShown t)
    (hf : ∀ F : Field, Fld.CK_STATUS_HEARTH.apart F = true → Fld.CK_REF_LOST_ACTIVE.apart F = true →
      (F.reg = .CK_STATUS ∨ F.reg = .CK_REF_JUDGE ∨ F.reg = .CK_REF_LOST) → u.f F 0 = t.f F 0) : s.LossShown u :=
  ⟨(hf _ rfl rfl (.inl rfl)).trans h.good, (hf _ rfl rfl (.inr (.inl rfl))).trans h.windows, (hf _ rfl rfl (.inr (.inl rfl))).trans h.last,
    (hf _ rfl rfl (.inr (.inr rfl))).trans h.count⟩

theorem State.lossRecorded_loop (h : s.regsOk) : s.lossRecorded.f Fld.CK_STATUS_HEARTH 0 = s.f Fld.CK_STATUS_HEARTH 0 ∧
    s.lossRecorded.f Fld.CK_STATUS_RC_FAIL 0 = s.f Fld.CK_STATUS_RC_FAIL 0 := by
  have hw := State.recordSrc_within s.lossNoted 1 4 1 []
  exact ⟨(hw.f (State.regsOk_lossNoted h) 0).trans (State.lossNoted_f h), (hw.f (State.regsOk_lossNoted h) 0).trans (State.lossNoted_f h)⟩

theorem State.lossRecorded_same (s : State) : Same 0x1e02000000000000000000000000000000000000000000000000000000000000022 s s.lossRecorded :=
  (State.recordSrc_within s.lossNoted 1 4 1 []) (Same _ s) (clo_same s rfl) { Same.refl _ s with }

theorem State.coasts_f (h : s.regsOk) {F : Field} (hF : Fld.CK_STATUS_HEARTH.apart F = true) (hA : Fld.CK_REF_LOST_ACTIVE.apart F = true)
    (hreg : F.reg = .CK_STATUS ∨ F.reg = .CK_REF_JUDGE ∨ F.reg = .CK_REF_LOST) : s.coasts.f F 0 = s.f F 0 := by
  have hh : (s.setHearth 3).regsOk := State.regsOk_setF h ..
  refine (s.coasts_within.f (State.regsOk_setF hh ..) 0 ?_).trans ((State.f_setF_apart hh hA ..).trans (State.f_setF_apart h hF ..))
  rcases hreg with hr | hr | hr <;> rw [hr] <;> rfl

theorem State.coasts_loop (h : s.regsOk) : s.coasts.f Fld.CK_STATUS_HEARTH 0 = 3 ∧ s.coasts.f Fld.CK_REF_LOST_ACTIVE 0 = 1 := by
  have hh : (s.setHearth 3).regsOk := State.regsOk_setF h ..
  have hw := s.coasts_within
  exact ⟨(hw.f (State.regsOk_setF hh ..) 0).trans ((State.f_setF_apart hh rfl ..).trans (State.f_setF_same h Fld.CK_STATUS_HEARTH rfl 0 3)),
    (hw.f (State.regsOk_setF hh ..) 0).trans (State.f_setF_same hh Fld.CK_REF_LOST_ACTIVE rfl 0 1)⟩

theorem State.loopStops_f (h : s.regsOk) (hruns : s.loopRuns = true) {F : Field} (hF : Fld.CK_STATUS_HEARTH.apart F = true)
    (hA : Fld.CK_REF_LOST_ACTIVE.apart F = true) (hreg : F.reg = .CK_STATUS ∨ F.reg = .CK_REF_JUDGE ∨ F.reg = .CK_REF_LOST) :
    s.loopStops.f F 0 = s.f F 0 := by
  have hok := State.regsOk_loopStopped h
  have hsafe := State.enterSafe_within s.loopStopped 8 0 6
  rw [State.loopStops_eq hruns, (State.edgesOver_within _).f (hsafe.regsOk hok) 0 (by rcases hreg with hr | hr | hr <;> rw [hr] <;> rfl),
    hsafe.f hok 0 (by rcases hreg with hr | hr | hr <;> rw [hr] <;> rfl)]
  exact State.loopStopped_f h hF hA

theorem State.refLoss_shown (h : s.regsOk) (hgood : s.f Fld.CK_STATUS_REF_GOOD 0 = 1) : s.LossShown s.refLoss := by
  have hshown := State.lossRecorded_shown h
  have hok := State.regsOk_lossRecorded h
  rw [State.refLoss_eq hgood]
  cases hruns : s.lossRecorded.loopRuns with
  | false => exact hshown
  | true =>
    rw [Bool.not_true, if_neg Bool.false_ne_true]
    split
    · exact hshown.of_f fun F hF hA hreg => State.loopStops_f hok hruns hF hA hreg
    · exact hshown.of_f fun F hF hA hreg => State.coasts_f hok hF hA hreg

theorem State.refLoss_of_coasts (h : s.regsOk) (hgood : s.f Fld.CK_STATUS_REF_GOOD 0 = 1) (hruns : s.loopRuns = true)
    (hrc : s.f Fld.CK_STATUS_RC_FAIL 0 = 0) : s.refLoss = s.lossRecorded.coasts := by
  obtain ⟨hhearth, hfail⟩ := State.lossRecorded_loop h
  have hruns' : s.lossRecorded.loopRuns = true := by rw [State.loopRuns, hhearth]; exact hruns
  have hrc' : ¬s.lossRecorded.f Fld.CK_STATUS_RC_FAIL 0 = 1 := by rw [hfail, hrc]; decide
  rw [State.refLoss_eq hgood]
  rw [hruns']
  exact if_neg hrc'

theorem State.refLoss_of_stops (h : s.regsOk) (hgood : s.f Fld.CK_STATUS_REF_GOOD 0 = 1) (hruns : s.loopRuns = true)
    (hrc : s.f Fld.CK_STATUS_RC_FAIL 0 = 1) : s.lossRecorded.loopRuns = true ∧ s.refLoss = s.lossRecorded.loopStops := by
  obtain ⟨hhearth, hfail⟩ := State.lossRecorded_loop h
  have hruns' : s.lossRecorded.loopRuns = true := by rw [State.loopRuns, hhearth]; exact hruns
  refine ⟨hruns', ?_⟩
  rw [State.refLoss_eq hgood]
  rw [hruns']
  exact if_pos (hfail.trans hrc)

theorem State.refLoss_coasting (h : s.regsOk) (hgood : s.f Fld.CK_STATUS_REF_GOOD 0 = 1) (hruns : s.loopRuns = true)
    (hrc : s.f Fld.CK_STATUS_RC_FAIL 0 = 0) : s.refLoss.f Fld.CK_STATUS_HEARTH 0 = 3 ∧ s.refLoss.f Fld.CK_REF_LOST_ACTIVE 0 = 1 ∧
      s.refLoss.mem = s.mem := by
  obtain ⟨hhearth, hactive⟩ := State.coasts_loop (State.regsOk_lossRecorded h)
  rw [State.refLoss_of_coasts h hgood hruns hrc]
  exact ⟨hhearth, hactive, ((State.coasts_within _).same.mem rfl).trans (s.lossRecorded_same.mem rfl)⟩

theorem State.refLoss_stopping (h : s.regsOk) (hgood : s.f Fld.CK_STATUS_REF_GOOD 0 = 1) (hruns : s.loopRuns = true)
    (hrc : s.f Fld.CK_STATUS_RC_FAIL 0 = 1) : s.refLoss.f Fld.CK_STATUS_HEARTH 0 = 4 ∧
      (s.pastCommitPoint = false → s.refLoss.safe = true) := by
  obtain ⟨hruns', heq⟩ := State.refLoss_of_stops h hgood hruns hrc
  have hok := State.regsOk_lossRecorded h
  have hpast : s.lossRecorded.pastCommitPoint = s.pastCommitPoint := by
    rw [State.pastCommitPoint, State.pastCommitPoint, s.lossRecorded_same.commit rfl]
  rw [heq]
  exact ⟨(State.loopStops_clock hok hruns').1, fun h0 => State.loopStops_safe hok hruns' (hpast.trans h0)⟩

/-- With the RC oscillator running the loss moves nothing of start-up. -/
theorem State.refLoss_boot (h : s.regsOk) (hrc : s.f Fld.CK_STATUS_RC_FAIL 0 = 0) : s.refLoss.boot = s.boot := by
  rcases (show s.f Fld.CK_STATUS_REF_GOOD 0 = 0 ∨ s.f Fld.CK_STATUS_REF_GOOD 0 = 1 by
    have := s.f_lt Fld.CK_STATUS_REF_GOOD 0; simp [Field.width, Fld.CK_STATUS_REF_GOOD] at this; simp [Fld.CK_STATUS_REF_GOOD]; omega) with hgood | hgood
  · rw [State.refLoss_of_bad hgood]
  · cases hruns : s.loopRuns with
    | true => rw [State.refLoss_of_coasts h hgood hruns hrc, (State.coasts_within _).same.boot rfl]; exact s.lossRecorded_same.boot rfl
    | false =>
      have hstill : s.lossRecorded.loopRuns = false := by rw [State.loopRuns, (State.lossRecorded_loop h).1]; exact hruns
      rw [State.refLoss_eq hgood]
      rw [hstill]
      exact s.lossRecorded_same.boot rfl

end Sys2Proof.Machine

/-!
SUPPORT. The clauses of O51: judgement windows, the loss, the stop, the lock, and the clock switches (R321 to R329).
-/
namespace Sys2Proof.Machine
variable {s t u : State} {n : Nat}

/-! ### Judgement windows -/

theorem State.judge_of_good (hrc : s.f Fld.CK_STATUS_RC_FAIL 0 = 0) (hcomp : s.clk.comp = true) (hlo : 980 ≤ n) (hhi : n ≤ 1020) :
    s.judge n =
      let s := s.setF Fld.CK_REF_JUDGE_LAST 0 (min n 2047)
      let w := min 16 (s.f Fld.CK_REF_JUDGE_WINDOWS + 1)
      let s := s.setF Fld.CK_REF_JUDGE_WINDOWS 0 w
      if w = 16 ∧ !s.refGood then (s.setF Fld.CK_STATUS_REF_GOOD 0 1).recordSrc 1 4 2 [] else s := by
  unfold State.judge
  rw [if_neg (by simp [hrc, hcomp])]
  exact if_pos ⟨hlo, hhi⟩

theorem State.judge_of_outside (hrc : s.f Fld.CK_STATUS_RC_FAIL 0 = 0) (hcomp : s.clk.comp = true) (hn : n < 980 ∨ 1020 < n) :
    s.judge n = ((s.setF Fld.CK_REF_JUDGE_LAST 0 (min n 2047)).setF Fld.CK_REF_JUDGE_WINDOWS 0 0).refLoss := by
  unfold State.judge
  rw [if_neg (by simp [hrc, hcomp])]
  exact if_neg (by omega)

theorem State.refGood_le_one (s : State) : s.f Fld.CK_STATUS_REF_GOOD 0 ≤ 1 := Nat.le_of_lt_succ (s.f_lt Fld.CK_STATUS_REF_GOOD 0)

theorem State.judge_good_shown (h : s.regsOk) (hrc : s.f Fld.CK_STATUS_RC_FAIL 0 = 0) (hcomp : s.clk.comp = true) (hlo : 980 ≤ n)
    (hhi : n ≤ 1020) : (s.judge n).regsOk ∧ (s.judge n).f Fld.CK_REF_JUDGE_LAST 0 = n ∧
      (s.judge n).f Fld.CK_REF_JUDGE_WINDOWS 0 = min 16 (s.f Fld.CK_REF_JUDGE_WINDOWS 0 + 1) ∧
      (s.judge n).f Fld.CK_STATUS_REF_GOOD 0 = if 15 ≤ s.f Fld.CK_REF_JUDGE_WINDOWS 0 then 1 else s.f Fld.CK_STATUS_REF_GOOD 0 := by
  rw [State.judge_of_good hrc hcomp hlo hhi]
  extract_lets counted w judged
  have hcounted : counted.regsOk := State.regsOk_setF h ..
  have hjudged : judged.regsOk := State.regsOk_setF hcounted ..
  have hw : w = min 16 (s.f Fld.CK_REF_JUDGE_WINDOWS 0 + 1) :=
    congrArg (fun v => min 16 (v + 1)) (State.f_setF_apart h (F := Fld.CK_REF_JUDGE_LAST) rfl ..)
  have hlast : judged.f Fld.CK_REF_JUDGE_LAST 0 = n := by
    rw [State.f_setF_apart hcounted (by rfl), State.f_setF_same h Fld.CK_REF_JUDGE_LAST rfl]
    exact (Nat.mod_eq_of_lt (by simp [Field.width, Fld.CK_REF_JUDGE_LAST])).trans (by omega)
  have hwin : judged.f Fld.CK_REF_JUDGE_WINDOWS 0 = w := by
    rw [State.f_setF_same hcounted Fld.CK_REF_JUDGE_WINDOWS rfl]
    exact Nat.mod_eq_of_lt (by simp [Field.width, Fld.CK_REF_JUDGE_WINDOWS]; omega)
  have hgood : judged.f Fld.CK_STATUS_REF_GOOD 0 = s.f Fld.CK_STATUS_REF_GOOD 0 :=
    (State.f_setF_apart hcounted rfl ..).trans (State.f_setF_apart h rfl ..)
  have hbit := s.refGood_le_one
  have hdecide : judged.refGood = decide (s.f Fld.CK_STATUS_REF_GOOD 0 = 1) := by rw [State.refGood, hgood]
  split
  next hnew =>
    obtain ⟨h16, hbad⟩ := hnew
    let found := judged.setF Fld.CK_STATUS_REF_GOOD 0 1
    have hfound : found.regsOk := State.regsOk_setF hjudged ..
    have hrec := State.recordSrc_within found 1 4 2 []
    refine ⟨hrec.regsOk hfound, ?_, ?_, ?_⟩
    · rw [hrec.f hfound 0, State.f_setF_apart hjudged (by rfl), hlast]
    · rw [hrec.f hfound 0, State.f_setF_apart hjudged (by rfl), hwin, hw]
    · rw [hrec.f hfound 0, State.f_setF_same hjudged Fld.CK_STATUS_REF_GOOD rfl, if_pos (by omega)]
      rfl
  next hold =>
    refine ⟨hjudged, hlast, hwin.trans hw, hgood.trans ?_⟩
    rw [hdecide] at hold
    split
    · have : s.f Fld.CK_STATUS_REF_GOOD 0 = 1 := by simpa [show w = 16 by omega] using hold
      exact this
    · rfl

/-- The state in which a window outside the range is counted. -/
def State.windowOutside (s : State) (n : Nat) : State :=
  (s.setF Fld.CK_REF_JUDGE_LAST 0 (min n 2047)).setF Fld.CK_REF_JUDGE_WINDOWS 0 0

theorem State.regsOk_windowOutside (h : s.regsOk) (n : Nat) : (s.windowOutside n).regsOk := State.regsOk_setF (State.regsOk_setF h ..) ..

theorem State.windowOutside_f (h : s.regsOk) (n : Nat) {F : Field} (hL : Fld.CK_REF_JUDGE_LAST.apart F = true := by rfl)
    (hW : Fld.CK_REF_JUDGE_WINDOWS.apart F = true := by rfl) : (s.windowOutside n).f F 0 = s.f F 0 :=
  (State.f_setF_apart (State.regsOk_setF h ..) hW ..).trans (State.f_setF_apart h hL ..)

theorem State.windowOutside_shown (h : s.regsOk) (n : Nat) : (s.windowOutside n).f Fld.CK_REF_JUDGE_LAST 0 = min n 2047 ∧
    (s.windowOutside n).f Fld.CK_REF_JUDGE_WINDOWS 0 = 0 := by
  have h1 : (s.setF Fld.CK_REF_JUDGE_LAST 0 (min n 2047)).regsOk := State.regsOk_setF h ..
  refine ⟨?_, State.f_setF_same h1 Fld.CK_REF_JUDGE_WINDOWS rfl 0 0⟩
  rw [State.windowOutside, State.f_setF_apart h1 (by rfl), State.f_setF_same h Fld.CK_REF_JUDGE_LAST rfl]
  exact Nat.mod_eq_of_lt (by simp [Field.width, Fld.CK_REF_JUDGE_LAST])

theorem State.judge_outside_shown (h : s.regsOk) (n : Nat) : (s.windowOutside n).refLoss.f Fld.CK_REF_JUDGE_LAST 0 = min n 2047 ∧
    (s.windowOutside n).refLoss.f Fld.CK_REF_JUDGE_WINDOWS 0 = 0 ∧ (s.windowOutside n).refLoss.f Fld.CK_STATUS_REF_GOOD 0 = 0 := by
  obtain ⟨hlast, hwin⟩ := State.windowOutside_shown h n
  have hbit := (s.windowOutside n).refGood_le_one
  rcases (show (s.windowOutside n).f Fld.CK_STATUS_REF_GOOD 0 = 0 ∨ (s.windowOutside n).f Fld.CK_STATUS_REF_GOOD 0 = 1 by omega) with
    hgood | hgood
  · rw [State.refLoss_of_bad hgood]
    exact ⟨hlast, hwin, hgood⟩
  · have hshown := State.refLoss_shown (State.regsOk_windowOutside h n) hgood
    exact ⟨hshown.last.trans hlast, hshown.windows, hshown.good⟩

theorem State.refLoss_within (s : State) : s.Within 0x39f030440071000004800c40c041300000000021c94020101008400000164000bffe s.refLoss :=
  fun _ c k => State.refLoss_inv c k

/-- What the loss of a good reference is, in the state in which it is lost (R321, R324). -/
def State.Lost (s u : State) : Prop :=
  u.f Fld.CK_STATUS_REF_GOOD 0 = 0 ∧ u.f Fld.CK_REF_JUDGE_WINDOWS 0 = 0 ∧
    u.f Fld.CK_REF_LOST_COUNT 0 = min (s.f Fld.CK_REF_LOST_COUNT 0 + 1) Fld.CK_REF_LOST_COUNT.top ∧
    (s.loopRuns = true → s.f Fld.CK_STATUS_RC_FAIL 0 = 0 → u.f Fld.CK_STATUS_HEARTH 0 = 3 ∧ u.f Fld.CK_REF_LOST_ACTIVE 0 = 1 ∧
      ((∀ k, (s.link k).cmd = []) → u.mem = s.mem)) ∧
    (s.loopRuns = true → s.f Fld.CK_STATUS_RC_FAIL 0 = 1 → u.f Fld.CK_STATUS_HEARTH 0 = 4 ∧ (s.pastCommitPoint = false → u.safe = true))

theorem State.lost_refLoss (h : s.regsOk) (hgood : s.f Fld.CK_STATUS_REF_GOOD 0 = 1) : s.Lost s.refLoss := by
  have hshown := State.refLoss_shown h hgood
  refine ⟨hshown.good, hshown.windows, hshown.count, fun hruns hrc => ?_, fun hruns hrc => State.refLoss_stopping h hgood hruns hrc⟩
  obtain ⟨hhearth, hactive, hmem⟩ := State.refLoss_coasting h hgood hruns hrc
  exact ⟨hhearth, hactive, fun _ => hmem⟩

theorem State.lost_windowOutside (h : s.regsOk) (n : Nat) (hgood : s.f Fld.CK_STATUS_REF_GOOD 0 = 1) :
    s.Lost (s.windowOutside n).refLoss := by
  obtain ⟨hbad, hwin, hcount, hcoasts, hstops⟩ :=
    State.lost_refLoss (State.regsOk_windowOutside h n) ((State.windowOutside_f h n).trans hgood)
  have hruns : (s.windowOutside n).loopRuns = s.loopRuns := by rw [State.loopRuns, State.windowOutside_f h n]; rfl
  have hrc : (s.windowOutside n).f Fld.CK_STATUS_RC_FAIL 0 = s.f Fld.CK_STATUS_RC_FAIL 0 := State.windowOutside_f h n
  have hlost : (s.windowOutside n).f Fld.CK_REF_LOST_COUNT 0 = s.f Fld.CK_REF_LOST_COUNT 0 := State.windowOutside_f h n
  rw [hruns, hrc] at hcoasts hstops
  rw [hlost] at hcount
  exact ⟨hbad, hwin, hcount, hcoasts, hstops⟩

/-- A window inside the range. -/
theorem judgementWindow_good (h : s.regsOk) (hpor : s.boot.por = false) (hrc : s.f Fld.CK_STATUS_RC_FAIL 0 = 0)
    (hcomp : s.clk.comp = true) (hlo : 980 ≤ n) (hhi : n ≤ 1020) :
    ∃ u, exec (.judgementWindow n) s = .next u ∧ u.f Fld.CK_REF_JUDGE_LAST 0 = n ∧
      u.f Fld.CK_REF_JUDGE_WINDOWS 0 = min 16 (s.f Fld.CK_REF_JUDGE_WINDOWS 0 + 1) ∧
      u.f Fld.CK_STATUS_REF_GOOD 0 = if 15 ≤ s.f Fld.CK_REF_JUDGE_WINDOWS 0 then 1 else s.f Fld.CK_STATUS_REF_GOOD 0 := by
  obtain ⟨hok, hlast, hwin, hgood⟩ := State.judge_good_shown h hrc hcomp hlo hhi
  exact ⟨_, congrArg Host.Outcome.next (if_neg (by rw [hpor]; decide)), (State.startClocks_f hok).trans hlast,
    (State.startClocks_f hok).trans hwin, (State.startClocks_f hok).trans hgood⟩

/-- A window outside the range. -/
theorem judgementWindow_outside (h : s.regsOk) (hpor : s.boot.por = false) (hrc : s.f Fld.CK_STATUS_RC_FAIL 0 = 0)
    (hcomp : s.clk.comp = true) (hn : n < 980 ∨ 1020 < n) :
    ∃ u, exec (.judgementWindow n) s = .next u ∧ u.f Fld.CK_REF_JUDGE_LAST 0 = min n 2047 ∧
      u.f Fld.CK_REF_JUDGE_WINDOWS 0 = 0 ∧ u.f Fld.CK_STATUS_REF_GOOD 0 = 0 ∧
      (s.f Fld.CK_STATUS_REF_GOOD 0 = 1 → s.boot.step ≠ 5 → s.Lost u) := by
  let t := (s.windowOutside n).refLoss
  have hexec : exec (.judgementWindow n) s = .next t.startClocks := by
    refine (congrArg Host.Outcome.next (if_neg (by rw [hpor]; decide))).trans ?_
    rw [State.judge_of_outside hrc hcomp hn]
    rfl
  have hok : t.regsOk := (State.refLoss_within _).regsOk (State.regsOk_windowOutside h n)
  obtain ⟨hlast, hwin, hbad⟩ := State.judge_outside_shown h n
  refine ⟨_, hexec, (State.startClocks_f hok).trans hlast, (State.startClocks_f hok).trans hwin, (State.startClocks_f hok).trans hbad,
    fun hgood hstep => ?_⟩
  have hboot : t.boot = s.boot := State.refLoss_boot (State.regsOk_windowOutside h n) ((State.windowOutside_f h n).trans hrc)
  rw [State.startClocks_of_idle (by rw [hboot]; exact hstep) (.inr hbad)]
  exact State.lost_windowOutside h n hgood

end Sys2Proof.Machine

/-!
SUPPORT. The lock of the hearth loop, its failures, and the switches of the island's clocks (R321, R323, R326 to R329, Table 16-2).
-/
namespace Sys2Proof.Machine
variable {s t u : State}

/-! ### The lock -/

/-- The loop's own registers once it has locked. -/
def State.loopShownLocked (s : State) : State := (s.setHearth 2).setF Fld.CK_REF_LOST_ACTIVE 0 0

theorem State.regsOk_loopShownLocked (h : s.regsOk) : s.loopShownLocked.regsOk := State.regsOk_setF (State.regsOk_setF h ..) ..

theorem State.loopShownLocked_f (h : s.regsOk) {F : Field} (hF : Fld.CK_STATUS_HEARTH.apart F = true := by rfl)
    (hA : Fld.CK_REF_LOST_ACTIVE.apart F = true := by rfl) : s.loopShownLocked.f F 0 = s.f F 0 :=
  (State.f_setF_apart (State.regsOk_setF h ..) hA ..).trans (State.f_setF_apart h hF ..)

theorem State.loopLocks_within (s : State) :
    s.loopShownLocked.Within 0x1e020000000600004800c40c000000000000000000000000000000000000000203a s.loopLocks := by
  intro P c k
  unfold State.loopLocks
  refine ite_p (fun _ => State.each_inv (c.mono rfl) (State.each_inv (c.mono rfl) k fun _ _ h => ?_)
    fun _ _ h => State.l1Wake_inv (c.mono rfl) h) fun _ => State.sidesStart_inv (c.mono rfl) k
  exact ite_p (fun _ => h) fun _ => State.unforceTxs_inv (c.mono rfl) h

theorem State.loopLocks_of_notCoasting (hhearth : s.hearth ≠ 3) : s.loopLocks = s.loopShownLocked.sidesStart := if_neg hhearth

theorem State.loopLocks_f (h : s.regsOk) {F : Field} (hF : Fld.CK_STATUS_HEARTH.apart F = true := by rfl)
    (hA : Fld.CK_REF_LOST_ACTIVE.apart F = true := by rfl)
    (hr : Nat.testBit 0x1e020000000600004800c40c000000000000000000000000000000000000000203a (24 + F.reg.ctorIdx) = false := by rfl) :
    s.loopLocks.f F 0 = s.f F 0 :=
  (s.loopLocks_within.f (State.regsOk_loopShownLocked h) 0 hr).trans (State.loopShownLocked_f h hF hA)

theorem State.loopLocks_clock (h : s.regsOk) : s.loopLocks.regsOk ∧ s.loopLocks.f Fld.CK_STATUS_HEARTH 0 = 2 ∧
    s.loopLocks.f Fld.CK_REF_LOST_ACTIVE 0 = 0 := by
  have hok := State.regsOk_loopShownLocked h
  have hw := s.loopLocks_within
  have h1 : (s.setHearth 2).regsOk := State.regsOk_setF h ..
  exact ⟨hw.regsOk hok, (hw.f hok 0).trans ((State.f_setF_apart h1 rfl ..).trans (State.f_setF_same h Fld.CK_STATUS_HEARTH rfl 0 2)),
    (hw.f hok 0).trans (State.f_setF_same h1 Fld.CK_REF_LOST_ACTIVE rfl 0 0)⟩

/-- Both switches of the island's clocks have moved to the loop. -/
def State.moved (s : State) : Bool := s.f Fld.CK_STATUS_HK_SRC 0 == 1 && s.f Fld.CK_STATUS_MP_SRC 0 == 1

theorem State.moved_iff : s.moved = true ↔ s.f Fld.CK_STATUS_HK_SRC 0 = 1 ∧ s.f Fld.CK_STATUS_MP_SRC 0 = 1 := by
  simp [State.moved]

theorem State.mayLock_iff : s.mayLock = true ↔ s.f Fld.CK_STATUS_REF_GOOD 0 = 1 ∧ s.shutdown = false ∧
    (s.hearth = 1 ∨ s.hearth = 3 ∨ s.hearth = 4 ∨ s.hearth = 5) := by
  simp [State.mayLock, State.refGood, and_assoc, or_assoc]

/-- What a lock has to be for start-up: at step 5 it waits for the clock switches (Table 16-2). -/
def State.StepSix (s u : State) : Prop :=
  s.boot.step = 5 → s.safe = false → (s.moved = true → u.boot.step = 6 ∧ u.f Fld.HK_STATUS_STEP 0 = 6 ∧ u.f Fld.BT_STATUS_ST_RUNNING 0 = 1) ∧
    (s.moved = false → u.boot.step = 5)

theorem State.clocksMoved_loopLocks (h : s.regsOk) (hlock : s.mayLock = true) (hsafe : s.safe = false) :
    s.loopLocks.clocksMoved ↔ s.moved = true := by
  obtain ⟨-, hshut, -⟩ := State.mayLock_iff.1 hlock
  have hkept : s.loopLocks.shutdown = s.shutdown ∧ s.loopLocks.safe = s.safe := by
    constructor
    · rw [State.shutdown, State.loopLocks_f h]; rfl
    · rw [State.safe, State.loopLocks_f h]; rfl
  rw [State.moved_iff, State.clocksMoved, hkept.1, hkept.2, State.loopLocks_f h, State.loopLocks_f h]
  exact ⟨fun hm => ⟨hm.2.1, hm.2.2.1⟩, fun hm => ⟨State.loopRuns_iff.2 (.inl (State.loopLocks_clock h).2.1), hm.1, hm.2, hshut, hsafe⟩⟩

theorem State.lock_stepSix (h : s.regsOk) (hlock : s.mayLock = true) : s.StepSix s.loopLocks.startClocks := by
  intro hstep hsafe
  have hboot : s.loopLocks.boot = s.boot := s.loopLocks_within.same.boot rfl
  have hstep' : s.loopLocks.boot.step = 5 := by rw [hboot]; exact hstep
  refine ⟨fun hmoved => ?_, fun hstay => ?_⟩
  · rw [State.startClocks_of_moved hstep' ((State.clocksMoved_loopLocks h hlock hsafe).2 hmoved)]
    exact ⟨State.atStep6_step _, State.atStep6_running (State.loopLocks_clock h).1⟩
  · rw [State.startClocks_of_notMoved hstep' (by rw [State.clocksMoved_loopLocks h hlock hsafe, hstay]; decide)]
    exact hstep'

theorem State.lock_clock (h : s.regsOk) : s.loopLocks.startClocks.f Fld.CK_STATUS_HEARTH 0 = 2 ∧
    s.loopLocks.startClocks.f Fld.CK_REF_LOST_ACTIVE 0 = 0 := by
  obtain ⟨hok, hhearth, hactive⟩ := State.loopLocks_clock h
  have hne : s.loopLocks.hearth ≠ 0 := by rw [State.hearth, hhearth]; decide
  exact ⟨(State.startClocks_hearth hok hne).trans hhearth, (State.startClocks_f hok).trans hactive⟩

/-- The sidebands' start touches nothing but the mailbox. -/
theorem clo_regs (s : State) : Clo 0x8 fun t => t.regs = s.regs := by
  constructor
  case wr =>
    exact fun {r} h => absurd h (by
      rw [Nat.testBit_lt_two_pow (lt_of_lt_of_le (by decide) (Nat.pow_le_pow_right Nat.two_pos (Nat.le_add_right 24 r.ctorIdx)))]; decide)
  case mail => exact fun _ {_} _ k => k
  all_goals exact fun h => absurd h (by decide)

theorem State.lock_elsewhere (h5 : s.boot.step ≠ 5) (h4 : s.boot.step ≠ 4) (hhearth : s.hearth ≠ 3) :
    s.loopLocks.startClocks.regs = s.loopShownLocked.regs ∧ s.loopLocks.startClocks.mem = s.mem := by
  have hboot : s.loopLocks.boot = s.boot := s.loopLocks_within.same.boot rfl
  refine ⟨?_, (State.startClocks_mem _).trans (s.loopLocks_within.same.mem rfl)⟩
  rw [State.startClocks_of_idle (by rw [hboot]; exact h5) (.inl (by rw [hboot]; exact h4)), State.loopLocks_of_notCoasting hhearth]
  exact State.sidesStart_inv (clo_regs s.loopShownLocked) rfl

/-! ### The switches -/

/-- A switch whose end is taken: its source moves, and a forced one is recorded. -/
def State.switched (s : State) (F S : Field) (v : Nat) (forced : Bool) : State :=
  let s := s.setF F 0 v
  if forced then (s.setF S 0 1).inc Fld.CK_SW_FORCED_COUNT 0 else s

/-- The value of a source. -/
theorem ite_eq_toNat (b : Bool) : (if b then 1 else 0) = b.toNat := by cases b <;> rfl

theorem State.clockSwitch_hk {toLoop forced : Bool} (hruns : toLoop = s.loopRuns)
    (hforced : forced = (!toLoop || s.f Fld.CK_STATUS_RC_FAIL 0 == 1)) (hsrc : s.f Fld.CK_STATUS_HK_SRC 0 ≠ toLoop.toNat) :
    s.clockSwitch 0 toLoop forced = s.switched Fld.CK_STATUS_HK_SRC Fld.CK_SW_FORCED_HK toLoop.toNat forced := by
  rw [← ite_eq_toNat] at hsrc ⊢
  refine if_neg fun h => ?_
  rcases h with h | h | h | h
  · exact absurd h (by decide)
  · exact h hruns
  · exact hsrc h
  · exact h hforced

theorem State.clockSwitch_mp {toLoop forced : Bool} (hruns : toLoop = s.loopRuns)
    (hforced : forced = (!toLoop || s.f Fld.CK_STATUS_RC_FAIL 0 == 1)) (hsrc : s.f Fld.CK_STATUS_MP_SRC 0 ≠ toLoop.toNat) :
    s.clockSwitch 1 toLoop forced = s.switched Fld.CK_STATUS_MP_SRC Fld.CK_SW_FORCED_MP toLoop.toNat forced := by
  rw [← ite_eq_toNat] at hsrc ⊢
  refine if_neg fun h => ?_
  rcases h with h | h | h | h
  · exact absurd h (by decide)
  · exact h hruns
  · exact hsrc h
  · exact h hforced

theorem State.clockSwitch_none {point : Nat} {toLoop forced : Bool}
    (h : 2 ≤ point ∨ toLoop ≠ s.loopRuns ∨ forced ≠ (!toLoop || s.f Fld.CK_STATUS_RC_FAIL 0 == 1)) :
    s.clockSwitch point toLoop forced = s := by
  refine if_pos ?_
  rcases h with h | h | h
  · exact .inl h
  · exact .inr (.inl h)
  · exact .inr (.inr (.inr h))

/-- F is the source of a switch, G that of the other, S what records a forced one. -/
structure SwitchPoint (F G S : Field) : Prop where
  src : F.reg = .CK_STATUS ∧ F.ok = true ∧ F.width = 1
  other : G.reg = .CK_STATUS ∧ F.apart G = true
  loop : F.apart Fld.CK_STATUS_HEARTH = true ∧ Fld.CK_STATUS_HEARTH.apart F = true ∧ Fld.CK_STATUS_HEARTH.apart G = true
  forced : S.reg = .CK_SW_FORCED ∧ S.ok = true ∧ S.width = 1
  count : Fld.CK_SW_FORCED_COUNT.apart S = true ∧ S.apart Fld.CK_SW_FORCED_COUNT = true
  both : ∀ s : State, s.moved = true ↔ s.f F 0 = 1 ∧ s.f G 0 = 1

theorem hkPoint : SwitchPoint Fld.CK_STATUS_HK_SRC Fld.CK_STATUS_MP_SRC Fld.CK_SW_FORCED_HK :=
  ⟨⟨rfl, rfl, rfl⟩, ⟨rfl, rfl⟩, ⟨rfl, rfl, rfl⟩, ⟨rfl, rfl, rfl⟩, ⟨rfl, rfl⟩, fun _ => State.moved_iff⟩
theorem mpPoint : SwitchPoint Fld.CK_STATUS_MP_SRC Fld.CK_STATUS_HK_SRC Fld.CK_SW_FORCED_MP :=
  ⟨⟨rfl, rfl, rfl⟩, ⟨rfl, rfl⟩, ⟨rfl, rfl, rfl⟩, ⟨rfl, rfl, rfl⟩, ⟨rfl, rfl⟩, fun _ => State.moved_iff.trans and_comm⟩

section switched
variable {F G S : Field} {v : Nat} {forced : Bool}

theorem SwitchPoint.within (p : SwitchPoint F G S) (s : State) : s.Within 0xa00000000 (s.switched F S v forced) := by
  intro P c k
  have hF : P (s.setF F 0 v) := c.setF (by rw [p.src.1]; rfl) k
  exact ite_p (fun _ => c.inc rfl (c.setF (by rw [p.forced.1]; rfl) hF)) fun _ => hF

theorem SwitchPoint.status (p : SwitchPoint F G S) (h : s.regsOk) {H : Field} (hH : H.reg = .CK_STATUS) :
    (s.switched F S v forced).f H 0 = (s.setF F 0 v).f H 0 := by
  have hF : (s.setF F 0 v).regsOk := State.regsOk_setF h ..
  unfold State.switched
  cases forced with
  | false => rfl
  | true =>
    exact (State.f_setF_reg (State.regsOk_setF hF ..) (by rw [hH]; decide) ..).trans (State.f_setF_reg hF (by rw [hH, p.forced.1]; decide) ..)

theorem SwitchPoint.shown (p : SwitchPoint F G S) (h : s.regsOk) (hv : v < 2) : (s.switched F S v forced).f F 0 = v ∧
    (s.switched F S v forced).f G 0 = s.f G 0 ∧ (s.switched F S v forced).loopRuns = s.loopRuns := by
  obtain ⟨hreg, hok, hwidth⟩ := p.src
  obtain ⟨hother, hFG⟩ := p.other
  refine ⟨?_, ?_, ?_⟩
  · rw [p.status h hreg, State.f_setF_same h F hok, hwidth]
    exact Nat.mod_eq_of_lt hv
  · rw [p.status h hother, State.f_setF_apart h hFG]
  · rw [State.loopRuns, State.loopRuns, p.status h rfl, State.f_setF_apart h p.loop.1]

theorem SwitchPoint.recorded (p : SwitchPoint F G S) (h : s.regsOk) :
    (s.switched F S v forced).f S 0 = (if forced then 1 else s.f S 0) ∧
    (s.switched F S v forced).f Fld.CK_SW_FORCED_COUNT 0 =
      if forced then min (s.f Fld.CK_SW_FORCED_COUNT 0 + 1) Fld.CK_SW_FORCED_COUNT.top else s.f Fld.CK_SW_FORCED_COUNT 0 := by
  obtain ⟨hSreg, hSok, hSwidth⟩ := p.forced
  obtain ⟨hCS, hSC⟩ := p.count
  have hF : (s.setF F 0 v).regsOk := State.regsOk_setF h ..
  have hother {H : Field} (hH : H.reg = .CK_SW_FORCED) : (s.setF F 0 v).f H 0 = s.f H 0 :=
    State.f_setF_reg h (by rw [hH, p.src.1]; decide) ..
  unfold State.switched
  cases forced with
  | false => exact ⟨hother hSreg, hother rfl⟩
  | true =>
    refine ⟨?_, ?_⟩
    · refine (State.f_inc_apart (State.regsOk_setF hF ..) hCS ..).trans ((State.f_setF_same hF S hSok 0 1).trans ?_)
      rw [hSwidth]
      rfl
    · refine (State.f_inc_same (State.regsOk_setF hF ..) _ rfl 0 1).trans ?_
      rw [State.f_setF_apart hF hSC, hother rfl]
      rfl

/-- At step 5 the second switch to the loop ends the step. -/
theorem SwitchPoint.stepSix (p : SwitchPoint F G S) (h : s.regsOk) (hv : v < 2) (hstep : s.boot.step = 5) (hruns : s.loopRuns = true)
    (hshut : s.shutdown = false) (hsafe : s.safe = false) (hmoved : (s.switched F S v forced).startClocks.moved = true) :
    (s.switched F S v forced).startClocks.boot.step = 6 := by
  let t := s.switched F S v forced
  have hw : s.Within 0xa00000000 t := p.within s
  have hok : t.regsOk := hw.regsOk h
  have hmoved' : t.moved = true := by
    rw [State.moved_iff] at hmoved ⊢
    rwa [State.startClocks_f hok, State.startClocks_f hok] at hmoved
  obtain ⟨hhk, hmp⟩ := State.moved_iff.1 hmoved'
  have hkept : t.shutdown = s.shutdown ∧ t.safe = s.safe := by
    constructor
    · rw [State.shutdown, hw.f h 0]; rfl
    · rw [State.safe, hw.f h 0]; rfl
  have hboot : t.boot = s.boot := hw.same.boot rfl
  rw [State.startClocks_of_moved (by rw [hboot]; exact hstep)
    ⟨(p.shown h hv).2.2.trans hruns, hhk, hmp, hkept.1.trans hshut, hkept.2.trans hsafe⟩]
  exact State.atStep6_step _

/-- What the end of a switch leaves, start-up's next step taken. -/
theorem SwitchPoint.clause (p : SwitchPoint F G S) (h : s.regsOk) (hv : v < 2) :
    let u := (s.switched F S v forced).startClocks
    u.f F 0 = v ∧ u.f G 0 = s.f G 0 ∧ u.mem = s.mem ∧
      (s.boot.step = 5 → s.loopRuns = true → s.shutdown = false → s.safe = false → u.moved = true → u.boot.step = 6) ∧
      u.f S 0 = (if forced then 1 else s.f S 0) ∧
      u.f Fld.CK_SW_FORCED_COUNT 0 =
        if forced then min (s.f Fld.CK_SW_FORCED_COUNT 0 + 1) Fld.CK_SW_FORCED_COUNT.top else s.f Fld.CK_SW_FORCED_COUNT 0 := by
  intro u
  have hw : s.Within 0xa00000000 (s.switched F S v forced) := p.within s
  have hok := hw.regsOk h
  obtain ⟨hF, hG, -⟩ := p.shown (forced := forced) h hv
  obtain ⟨hS, hC⟩ := p.recorded (v := v) (forced := forced) h
  refine ⟨(State.startClocks_f hok p.loop.2.1 (by rw [p.src.1]; rfl)).trans hF,
    (State.startClocks_f hok p.loop.2.2 (by rw [p.other.1]; rfl)).trans hG, (State.startClocks_mem _).trans (hw.same.mem rfl),
    fun hstep hruns hshut hsafe hmoved => p.stepSix h hv hstep hruns hshut hsafe hmoved,
    (State.startClocks_f hok ?_ (by rw [p.forced.1]; rfl)).trans hS, (State.startClocks_f hok).trans hC⟩
  simp [Field.apart, p.forced.1, Fld.CK_STATUS_HEARTH]

end switched

/-! ### Failures -/

theorem lockFail_clause (h : s.regsOk) (hlock : s.mayLock = true) (hhearth : s.hearth ≠ 3) : ∃ u, exec .lockFail s = .next u ∧
    u.f Fld.CK_STATUS_HEARTH 0 = 5 ∧ u.boot.faultN = (s.boot.faultN || s.boot.step == 5) ∧
    (∀ r i, r ≠ .CK_STATUS → u.rd r i = s.rd r i) ∧ u.mem = s.mem := by
  refine ⟨_, congrArg Host.Outcome.next (if_pos ⟨hlock, hhearth⟩), State.f_setF_same h Fld.CK_STATUS_HEARTH rfl 0 5, rfl,
    fun r i hr => State.rd_wr_ne h hr _ _ _, rfl⟩

theorem rcFail_clause (h : s.regsOk) (hruns : s.loopRuns = true) : ∃ u, exec .rcFail s = .next u ∧
    u.f Fld.CK_STATUS_RC_FAIL 0 = 1 ∧ u.f Fld.CK_STATUS_HEARTH 0 = s.f Fld.CK_STATUS_HEARTH 0 ∧
    (∀ r i, r ≠ .CK_STATUS → u.rd r i = s.rd r i) ∧ u.mem = s.mem :=
  ⟨_, congrArg Host.Outcome.next (if_pos hruns), State.f_setF_same h Fld.CK_STATUS_RC_FAIL rfl 0 1, State.f_setF_apart h rfl ..,
    fun _ _ hr => State.rd_wr_ne h hr _ _ _, rfl⟩

end Sys2Proof.Machine

/-!
OBLIGATION O51. REFCLK is judged, lost and found again; the hearth loop coasts, stops and locks; the island's clocks follow (R321 to R329).
-/
namespace Sys2Proof.Machine
variable {s : State}

theorem hearthLoopStop_clause (h : s.regsOk) (hruns : s.loopRuns = true) : ∃ u, exec .hearthLoopStop s = .next u ∧
    u.f Fld.CK_STATUS_HEARTH 0 = 4 ∧ u.f Fld.CK_REF_LOST_ACTIVE 0 = 0 ∧
    (s.pastCommitPoint = false → u.safe = true ∧
      (s.safe = false → u.f Fld.RP_SAFE_CAUSE_CAUSE 0 = 8 ∧ u.f Fld.RP_SAFE_CAUSE_VALID 0 = 1 ∧ u.boot.faultN = true ∧
        u.boot.safeN = true)) := by
  obtain ⟨hhearth, hactive⟩ := State.loopStops_clock h hruns
  exact ⟨_, rfl, hhearth, hactive, fun hpast => ⟨State.loopStops_safe h hruns hpast, State.loopStops_cause h hruns hpast⟩⟩

theorem hearthLoopLock_clause (h : s.regsOk) (hlock : s.mayLock = true) : ∃ u, exec .hearthLoopLock s = .next u ∧
    u.f Fld.CK_STATUS_HEARTH 0 = 2 ∧ u.f Fld.CK_REF_LOST_ACTIVE 0 = 0 ∧ s.StepSix u ∧
    (s.boot.step ≠ 5 → s.boot.step ≠ 4 → s.hearth ≠ 3 →
      u.regs = ((s.setF Fld.CK_STATUS_HEARTH 0 2).setF Fld.CK_REF_LOST_ACTIVE 0 0).regs ∧ u.mem = s.mem) := by
  obtain ⟨hhearth, hactive⟩ := State.lock_clock h
  exact ⟨_, congrArg Host.Outcome.next (if_pos hlock), hhearth, hactive, State.lock_stepSix h hlock, State.lock_elsewhere⟩

theorem relockAttempt_clause (h : s.regsOk) (hhearth : s.hearth = 5) (hlock : s.mayLock = true) :
    ∃ u, exec (.relockAttempt true) s = .next u ∧ u.f Fld.CK_STATUS_HEARTH 0 = 2 ∧ s.StepSix u :=
  ⟨_, congrArg Host.Outcome.next (if_pos ⟨hhearth, hlock, rfl⟩), (State.lock_clock h).1, State.lock_stepSix h hlock⟩

theorem relockAttempt_none {locked : Bool} (h : s.hearth ≠ 5 ∨ s.mayLock = false ∨ locked = false) :
    exec (.relockAttempt locked) s = .next s := by
  refine congrArg Host.Outcome.next (if_neg ?_)
  rintro ⟨hhearth, hlock, hlocked⟩
  rcases h with h | h | h
  · exact h hhearth
  · rw [hlock] at h; cases h
  · rw [hlocked] at h; cases h

/-- Settles O51: each row as what it leaves in the clock registers, start-up's next step taken. -/
theorem clockLoopFollowsItsRules : Obligations.ClockLoopFollowsItsRules := by
  unfold Obligations.ClockLoopFollowsItsRules
  intro s hc ht
  have h := hc.regs
  refine ⟨fun hpor hrc hcomp => ⟨fun n hlo hhi => judgementWindow_good h hpor hrc hcomp hlo hhi,
      fun n hn => judgementWindow_outside h hpor hrc hcomp hn⟩,
    fun hgood => ⟨_, rfl, State.lost_refLoss h hgood⟩, fun hbad => congrArg Host.Outcome.next (State.refLoss_of_bad hbad),
    hearthLoopStop_clause h, fun hruns => congrArg Host.Outcome.next (if_neg (by rw [hruns]; decide)),
    hearthLoopLock_clause h, fun hlock => congrArg Host.Outcome.next (if_neg (by rw [hlock]; decide)),
    relockAttempt_clause h, fun _ => relockAttempt_none, lockFail_clause h, fun hnot => congrArg Host.Outcome.next (if_neg ?_),
    rcFail_clause h, fun hruns => congrArg Host.Outcome.next (if_neg (by rw [hruns]; decide)),
    fun toLoop forced hruns hforced => ⟨fun hsrc => ?_, fun hsrc => ?_⟩, fun _ _ _ hnone =>
      congrArg (fun t => Host.Outcome.next (State.startClocks t)) (State.clockSwitch_none hnone)⟩
  · rintro ⟨hlock, hhearth⟩
    rcases hnot with hnot | hnot
    · rw [hlock] at hnot; cases hnot
    · exact hhearth hnot
  · exact ⟨_, congrArg (fun t => Host.Outcome.next (State.startClocks t)) (State.clockSwitch_hk hruns hforced hsrc),
      hkPoint.clause h (Bool.toNat_lt toLoop)⟩
  · exact ⟨_, congrArg (fun t => Host.Outcome.next (State.startClocks t)) (State.clockSwitch_mp hruns hforced hsrc),
      mpPoint.clause h (Bool.toNat_lt toLoop)⟩

end Sys2Proof.Machine

/-!
SUPPORT. Words, spans and blocks of memory above the lofts: what a read delivers and what a write leaves (R98, R121 to R126).
-/
namespace Sys2Proof.Machine
variable {s t u : State} {a n : Nat} {who : Agent}

/-! ### Reach -/

theorem State.Within.refl (m : Nat) (s : State) : s.Within m s := fun _ _ k => k
theorem State.Within.trans {m : Nat} (h : s.Within m t) (h' : t.Within m u) : s.Within m u := fun P c k => h' P c (h P c k)
theorem State.Within.mono {m m' : Nat} (h : s.Within m t) (hm : m &&& m' = m := by rfl) : s.Within m' t :=
  fun P c k => h P (c.mono hm) k

/-- The mask of what the note of a word that a decoder delivers changes. -/
abbrev noteMask : Nat := 0x1e020000031000000000000000000000000000000000000000000000000000002a2

theorem State.noteWord_within (s : State) (a src : Nat) : s.Within noteMask (s.noteWord a src) := fun _ c k => State.noteWord_inv c k

/-! ### Bytes in a row -/

theorem State.bytesAt_length (s : State) (a n : Nat) : (s.bytesAt a n).length = n := by simp [State.bytesAt]

theorem State.bytesAt_append (s : State) (a m n : Nat) : s.bytesAt a m ++ s.bytesAt (a + m) n = s.bytesAt a (m + n) := by
  simp only [State.bytesAt, List.range_add, List.map_append, List.map_map]
  congr 1
  exact List.map_congr_left fun i _ => congrArg s.byte (Nat.add_assoc ..)

theorem State.slice_bytesAt (s : State) (a : Nat) {off n m : Nat} (h : off + n ≤ m) : slice (s.bytesAt a m) off n = s.bytesAt (a + off) n := by
  refine List.ext_getElem (by simp [slice, State.bytesAt]; omega) fun i h1 h2 => ?_
  simp [slice, State.bytesAt, Nat.add_assoc]

theorem State.bytesAt_congr (hmem : t.mem = s.mem) (a n : Nat) : t.bytesAt a n = s.bytesAt a n := by
  simp only [State.bytesAt, State.byte, hmem]

/-- A word whose check bits agree is delivered as it stands. -/
theorem State.decoded_of_clean (ha : 2 ^ 32 ≤ a) (hclean : s.syn a = 0) : s.decoded a = (s.bytesAt (a / 32 * 32) 32, false) := by
  have hphys : s.phys (a / 32 * 32) = a / 32 * 32 := State.phys_of_above (by omega)
  have hword : s.syn (a / 32 * 32) = 0 := by
    rw [← hclean, State.syn, State.syn, Nat.mul_div_cancel _ (by decide : 0 < 32)]
  simp only [State.decoded, hphys, hword, show classify 0 = .clean from rfl]

/-- A word that carries poison is delivered with its mark. -/
theorem State.decoded_of_poison (ha : 2 ^ 32 ≤ a) (hpoison : s.syn a = poisonSyn) : (s.decoded a).2 = true := by
  have hphys : s.phys (a / 32 * 32) = a / 32 * 32 := State.phys_of_above (by omega)
  have hword : s.syn (a / 32 * 32) = poisonSyn := by
    rw [← hpoison, State.syn, State.syn, Nat.mul_div_cancel _ (by decide : 0 < 32)]
  have hclass : classify poisonSyn = .poison := by decide
  simp only [State.decoded, hphys, hword, hclass]

theorem State.readWord_of_aligned (ha : a % 32 = 0) : s.readWord a = ((s.decoded a).1, (s.decoded a).2, s.noteWord a 0) := by
  have hbase : a / 32 * 32 = a := by omega
  rw [State.readWord, hbase]

/-! ### The words of a span -/

/-- Word k of the words that n bytes from a on touch. -/
def wordAt (a n k : Nat) : Nat × Nat × Nat :=
  ((a / 32 + k) * 32, max a ((a / 32 + k) * 32) - (a / 32 + k) * 32, min (a + n) ((a / 32 + k) * 32 + 32) - max a ((a / 32 + k) * 32))

theorem wordsOf_eq (hn : 0 < n) : wordsOf a (n - 1) = (List.range ((a + n - 1) / 32 - a / 32 + 1)).map (wordAt a n) := by
  have h1 : a + (n - 1) = a + n - 1 := by omega
  have h2 : a + n - 1 + 1 = a + n := by omega
  simp only [wordsOf, h1, h2]
  rfl

/-- One word of a span read. -/
def readStep (who : Agent) (acc : List Byte × Nat × State) (w : Nat × Nat × Nat) : List Byte × Nat × State :=
  let (d, p, s) := if w.1 < 0x100000000 then acc.2.2.bankRead (w.1 / 0x800000) w.1 who else acc.2.2.readWord w.1
  (acc.1 ++ slice d w.2.1 w.2.2, if p then Nat.lor acc.2.1 (wordBit w.1) else acc.2.1, s)

theorem State.readSpan_eq (hn : 0 < n) :
    s.readSpan a n who = ((List.range ((a + n - 1) / 32 - a / 32 + 1)).map (wordAt a n)).foldl (readStep who) ([], 0, s) := by
  rw [← wordsOf_eq hn]
  rfl

theorem readStep_above {acc : List Byte × Nat × State} {w : Nat × Nat × Nat} (hlo : 2 ^ 32 ≤ w.1) (hw : w.1 % 32 = 0) :
    readStep who acc w = (acc.1 ++ slice (acc.2.2.decoded w.1).1 w.2.1 w.2.2,
      if (acc.2.2.decoded w.1).2 then Nat.lor acc.2.1 (wordBit w.1) else acc.2.1, acc.2.2.noteWord w.1 0) := by
  rw [readStep, if_neg (by omega), State.readWord_of_aligned hw]

theorem wordAt_above (ha : 2 ^ 32 ≤ a) (k : Nat) : 2 ^ 32 ≤ (wordAt a n k).1 ∧ (wordAt a n k).1 % 32 = 0 := by
  simp only [wordAt]
  omega

/-- The first k words of a span read above the lofts. -/
def State.readWords (s : State) (who : Agent) (a n k : Nat) : List Byte × Nat × State :=
  ((List.range k).map (wordAt a n)).foldl (readStep who) ([], 0, s)

theorem State.readWords_succ (s : State) (ha : 2 ^ 32 ≤ a) (k : Nat) : s.readWords who a n (k + 1) =
    let r := s.readWords who a n k
    let w := wordAt a n k
    (r.1 ++ slice (r.2.2.decoded w.1).1 w.2.1 w.2.2, if (r.2.2.decoded w.1).2 then Nat.lor r.2.1 (wordBit w.1) else r.2.1,
      r.2.2.noteWord w.1 0) := by
  obtain ⟨hlo, hw⟩ := wordAt_above (n := n) ha k
  unfold State.readWords
  rw [List.range_succ, List.map_append, List.foldl_append]
  exact readStep_above hlo hw

theorem State.readWords_within (s : State) (ha : 2 ^ 32 ≤ a) : ∀ k, s.Within noteMask (s.readWords who a n k).2.2
  | 0 => State.Within.refl noteMask s
  | k + 1 => by
    rw [State.readWords_succ s ha k]
    exact (State.readWords_within s ha k).trans (State.noteWord_within _ _ 0)

/-- Above the lofts the words of a read are those that the state before it would deliver. -/
theorem State.readWords_decoded (s : State) (ha : 2 ^ 32 ≤ a) (k : Nat) {b : Nat} (hb : 2 ^ 32 ≤ b) :
    (s.readWords who a n k).2.2.decoded b = s.decoded b :=
  State.decoded_congr hb ((s.readWords_within ha k).same.mem rfl) ((s.readWords_within ha k).same.synd rfl)

/-- The bytes that k whole words of a clean span give. -/
theorem State.readWords_clean (s : State) (ha : 2 ^ 32 ≤ a) (hclean : ∀ b, a / 32 * 32 ≤ b → b < a + n → s.syn b = 0) :
    ∀ k, k ≤ (a + n - 1) / 32 - a / 32 + 1 → 0 < n →
      (s.readWords who a n k).1 = s.bytesAt a (min (a + n) ((a / 32 + k) * 32) - a) ∧ (s.readWords who a n k).2.1 = 0
  | 0, _, _ => by
    have hnone : min (a + n) ((a / 32 + 0) * 32) - a = 0 := by omega
    rw [hnone]
    exact ⟨rfl, rfl⟩
  | k + 1, hk, hn => by
    obtain ⟨hdata, hmask⟩ := State.readWords_clean s ha hclean k (by omega) hn
    obtain ⟨hlo, -⟩ := wordAt_above (n := n) ha k
    have hsyn : s.syn (wordAt a n k).1 = 0 := hclean _ (by simp only [wordAt]; omega) (by simp only [wordAt]; omega)
    have hdec : (s.readWords who a n k).2.2.decoded (wordAt a n k).1 = (s.bytesAt (wordAt a n k).1 32, false) := by
      rw [State.readWords_decoded s ha k hlo, State.decoded_of_clean hlo hsyn]
      congr 2
      simp only [wordAt]
      omega
    rw [State.readWords_succ s ha k]
    simp only [hdec, hdata, hmask]
    refine ⟨?_, by simp⟩
    rw [State.slice_bytesAt s _ (by simp only [wordAt]; omega)]
    have hnext : (wordAt a n k).1 + (wordAt a n k).2.1 = a + (min (a + n) ((a / 32 + k) * 32) - a) := by simp only [wordAt]; omega
    rw [hnext, State.bytesAt_append]
    congr 1
    simp only [wordAt]
    omega

theorem bit_lor_left {x y i : Nat} (h : bit x i = 1) : bit (Nat.lor x y) i = 1 := by
  rw [bit_eq_toNat_testBit] at h ⊢
  have hx : x.testBit i = true := by simpa using h
  rw [show Nat.lor x y = x ||| y from rfl, Nat.testBit_or, hx]
  rfl

theorem bit_lor_pow (x i : Nat) : bit (Nat.lor x (2 ^ i)) i = 1 := by
  rw [bit_eq_toNat_testBit, show Nat.lor x (2 ^ i) = x ||| 2 ^ i from rfl, Nat.testBit_or, Nat.testBit_two_pow_self, Bool.or_true]
  rfl

/-- The mark of a poisoned first word stays. -/
theorem State.readWords_poison (s : State) (ha : 2 ^ 32 ≤ a) (hpoison : s.syn a = poisonSyn) :
    ∀ k, bit (s.readWords who a n (k + 1)).2.1 (a % 256 / 32) = 1
  | 0 => by
    have hsyn : s.syn (wordAt a n 0).1 = poisonSyn := by
      rw [← hpoison, State.syn, State.syn]
      congr 1
      simp only [wordAt]
      omega
    have hdec : (s.decoded (wordAt a n 0).1).2 = true := State.decoded_of_poison (wordAt_above ha 0).1 hsyn
    have hbit : wordBit (wordAt a n 0).1 = 2 ^ (a % 256 / 32) := by
      rw [wordBit]
      congr 1
      simp only [wordAt]
      omega
    rw [State.readWords_succ s ha 0]
    simp only [State.readWords_decoded s ha 0 (wordAt_above ha 0).1, hdec, if_true, hbit]
    exact bit_lor_pow ..
  | k + 1 => by
    have hk := State.readWords_poison s ha hpoison k
    rw [State.readWords_succ s ha (k + 1)]
    dsimp only
    split
    · exact bit_lor_left hk
    · exact hk

/-! ### Span reads -/

theorem State.readSpan_within (s : State) (ha : 2 ^ 32 ≤ a) (hn : 0 < n) : s.Within noteMask (s.readSpan a n who).2.2 := by
  rw [State.readSpan_eq hn]
  exact State.readWords_within s ha _

/-- A span whose words are clean is read as it stands. -/
theorem State.readSpan_clean (ha : 2 ^ 32 ≤ a) (hn : 0 < n) (hclean : ∀ b, a / 32 * 32 ≤ b → b < a + n → s.syn b = 0) :
    (s.readSpan a n who).1 = s.bytesAt a n ∧ (s.readSpan a n who).2.1 = 0 := by
  obtain ⟨hdata, hmask⟩ := State.readWords_clean (who := who) s ha hclean _ (Nat.le_refl _) hn
  have hall : min (a + n) ((a / 32 + ((a + n - 1) / 32 - a / 32 + 1)) * 32) - a = n := by omega
  rw [State.readSpan_eq hn]
  exact ⟨hdata.trans (by rw [hall]), hmask⟩

theorem State.readSpan_poison (ha : 2 ^ 32 ≤ a) (hn : 0 < n) (hpoison : s.syn a = poisonSyn) :
    bit (s.readSpan a n who).2.1 (a % 256 / 32) = 1 := by
  rw [State.readSpan_eq hn]
  exact State.readWords_poison s ha hpoison _

end Sys2Proof.Machine

/-!
SUPPORT. Writes of words and spans above the lofts (R98, R121 to R126).
-/
namespace Sys2Proof.Machine
variable {s t u : State} {a n : Nat} {who : Agent}

/-! ### One word -/

/-- The mask of what a write of a word above the lofts changes. -/
abbrev writeMask : Nat := 0x1e020000071000000000000000000000000000000000000000000000000000006a2

theorem State.writeWord_within (s : State) (a off : Nat) (d : List Byte) (poison : Bool) : s.Within writeMask (s.writeWord a off d poison).1 :=
  fun _ c k => State.writeWord_inv c k

/-- Stored poison marks the word and leaves its bytes. -/
theorem State.mem_storePoison (s : State) (a src : Nat) : (s.storePoison a src).mem = s.mem := by
  rw [State.storePoison, State.logEc]
  split <;> rfl

theorem flipBit_length (l : List Byte) (i : Nat) : (flipBit l i).length = l.length := by simp [flipBit]

theorem State.decoded_length (s : State) (a : Nat) : (s.decoded a).1.length = 32 := by
  unfold State.decoded
  extract_lets base d
  have hd : d.length = 32 := State.bytesAt_length ..
  split
  · exact hd
  · exact hd
  · rw [flipBit_length, hd]
  · exact hd
  · exact hd

theorem splice_length {l d : List Byte} {off : Nat} (h : off + d.length ≤ l.length) : (splice l off d).length = l.length := by
  simp [splice]
  omega

theorem getD_splice {l d : List Byte} {off j : Nat} (h : off ≤ l.length) (hj : j < d.length) : (splice l off d).getD (off + j) 0 = d.getD j 0 := by
  have htake : (l.take off).length = off := by simp [h]
  rw [splice, List.append_assoc, List.getD_append_right _ _ _ _ (by omega), htake, Nat.add_sub_cancel_left, List.getD_append _ _ _ _ hj]

theorem State.mem_writeWord (ha : 2 ^ 32 ≤ a) (hal : a % 32 = 0) (off : Nat) (d : List Byte) (poison : Bool) :
    (s.writeWord a off d poison).1.mem = (s.putBytes a (if d.length = 32 then d else splice (s.decoded a).1 off d)).mem := by
  have hbase : a / 32 * 32 = a := by omega
  have hnoted (d' : List Byte) : ((s.noteWord a 1).putBytes a d').mem = (s.putBytes a d').mem := by
    have hput : ∀ (l : List Byte) (x y : State) (b : Nat), x.mem = y.mem → (x.putBytes b l).mem = (y.putBytes b l).mem := by
      intro l
      induction l with
      | nil => exact fun _ _ _ h => h
      | cons c l ih => exact fun x y b h => ih _ _ _ (congrArg (mput (fun _ => 0) · b c) h)
    exact hput _ _ _ _ ((State.noteWord_within s a 1).same.mem rfl)
  have hphys (x : State) : x.phys a = a := State.phys_of_above ha
  unfold State.writeWord
  simp only [hbase, hphys]
  split
  · split
    · exact State.mem_storePoison ..
    · rfl
  · split
    · exact (State.mem_storePoison ..).trans (hnoted _)
    · exact hnoted _

/-- A write of a word stores its bytes and leaves the other words. -/
theorem State.byte_writeWord (h : Memory.wf s.mem = true) (ha : 2 ^ 32 ≤ a) (hal : a % 32 = 0) {off : Nat} {d : List Byte}
    (hfit : off + d.length ≤ 32) (poison : Bool) :
    (∀ j, j < d.length → (s.writeWord a off d poison).1.byte (a + off + j) = d.getD j 0) ∧
      ∀ x, x / 32 ≠ a / 32 → (s.writeWord a off d poison).1.byte x = s.byte x := by
  let l := if d.length = 32 then d else splice (s.decoded a).1 off d
  have hlen : l.length = 32 := by
    simp only [l]
    split
    · assumption
    · rw [splice_length (by rw [State.decoded_length]; exact hfit), State.decoded_length]
  have hbyte (x : Nat) : (s.writeWord a off d poison).1.byte x = if a ≤ x ∧ x < a + 32 then l.getD (x - a) 0 else s.byte x := by
    rw [State.byte, State.mem_writeWord ha hal]
    exact (State.byte_putBytes l h a x).trans (by rw [hlen])
  refine ⟨fun j hj => ?_, fun x hx => ?_⟩
  · rw [hbyte, if_pos (by omega), show a + off + j - a = off + j by omega]
    simp only [l]
    split
    · rw [show off = 0 by omega, Nat.zero_add]
    · exact getD_splice (by rw [State.decoded_length]; omega) hj
  · rw [hbyte, if_neg (by omega)]

/-! ### The words of a span -/

/-- One word of a span write. -/
def writeStep (who : Agent) (a : Nat) (d : List Byte) (poison : Nat) (acc : Nat × State) (w : Nat × Nat × Nat) : Nat × State :=
  let piece := slice d (w.1 + w.2.1 - a) w.2.2
  let mark := bit poison (w.1 % 256 / 32) = 1
  let (s, st) := if w.1 < 0x100000000 then acc.2.bankWrite (w.1 / 0x800000) w.1 w.2.1 piece mark who
    else acc.2.writeWord w.1 w.2.1 piece mark
  (if st then Nat.lor acc.1 (wordBit w.1) else acc.1, s)

/-- The first k words of a span write. -/
def State.writeWords (s : State) (who : Agent) (a : Nat) (d : List Byte) (poison k : Nat) : State :=
  (((List.range k).map (wordAt a d.length)).foldl (writeStep who a d poison) (0, s)).2

theorem State.writeSpanAs_eq {d : List Byte} (hd : 0 < d.length) (poison : Nat) :
    (s.writeSpanAs a d poison who).2 = s.writeWords who a d poison ((a + d.length - 1) / 32 - a / 32 + 1) := by
  rw [State.writeWords, ← wordsOf_eq hd]
  rfl

theorem State.writeWords_succ (s : State) (ha : 2 ^ 32 ≤ a) (d : List Byte) (poison k : Nat) : s.writeWords who a d poison (k + 1) =
    let w := wordAt a d.length k
    ((s.writeWords who a d poison k).writeWord w.1 w.2.1 (slice d (w.1 + w.2.1 - a) w.2.2) (bit poison (w.1 % 256 / 32) = 1)).1 := by
  obtain ⟨hlo, -⟩ := wordAt_above (n := d.length) ha k
  unfold State.writeWords
  rw [List.range_succ, List.map_append, List.foldl_append]
  simp only [List.map_cons, List.map_nil, List.foldl_cons, List.foldl_nil]
  rw [writeStep, if_neg (by omega)]

theorem State.writeWords_within (s : State) (ha : 2 ^ 32 ≤ a) (d : List Byte) (poison : Nat) :
    ∀ k, s.Within writeMask (s.writeWords who a d poison k)
  | 0 => State.Within.refl writeMask s
  | k + 1 => by
    rw [State.writeWords_succ s ha d poison k]
    exact (State.writeWords_within s ha d poison k).trans (State.writeWord_within _ _ _ _ _)

theorem getD_slice {l : List Byte} {off m j : Nat} (hj : j < m) : (slice l off m).getD j 0 = l.getD (off + j) 0 := by
  simp [slice, List.getD_eq_getElem?_getD, hj]

/-- The bytes that k words of a span write store, and those that they leave. -/
theorem State.byte_writeWords (h : s.canon) (ha : 2 ^ 32 ≤ a) {d : List Byte} (hd : 0 < d.length) (poison : Nat) :
    ∀ k, k ≤ (a + d.length - 1) / 32 - a / 32 + 1 →
      (∀ i, i < d.length → a + i < (a / 32 + k) * 32 → (s.writeWords who a d poison k).byte (a + i) = d.getD i 0) ∧
      ∀ x, x / 32 < a / 32 ∨ a / 32 + k ≤ x / 32 → (s.writeWords who a d poison k).byte x = s.byte x
  | 0, _ => ⟨fun i _ hi => absurd hi (by omega), fun _ _ => rfl⟩
  | k + 1, hk => by
    obtain ⟨hbefore, hframe⟩ := State.byte_writeWords h ha hd poison k (by omega)
    obtain ⟨hlo, hal⟩ := wordAt_above (n := d.length) ha k
    let w := wordAt a d.length k
    let piece := slice d (w.1 + w.2.1 - a) w.2.2
    have hlen : piece.length = w.2.2 := by simp only [piece, slice, List.length_take, List.length_drop, w, wordAt]; omega
    have hwf := ((State.writeWords_within s ha d poison k (who := who)).canon h).mem
    obtain ⟨hnew, hkeep⟩ := State.byte_writeWord hwf hlo hal (off := w.2.1) (d := piece) (by rw [hlen]; simp only [w, wordAt]; omega)
      (bit poison (w.1 % 256 / 32) = 1)
    rw [State.writeWords_succ s ha d poison k]
    refine ⟨fun i hi hik => ?_, fun x hx => ?_⟩
    · by_cases hin : a + i < (a / 32 + k) * 32
      · exact (hkeep _ (by simp only [wordAt]; omega)).trans (hbefore i hi hin)
      · have hat : a + i = w.1 + w.2.1 + (a + i - (w.1 + w.2.1)) := by simp only [w, wordAt]; omega
        have hj : a + i - (w.1 + w.2.1) < w.2.2 := by simp only [w, wordAt]; omega
        have hpos : w.1 + w.2.1 - a + (a + i - (w.1 + w.2.1)) = i := by simp only [w, wordAt]; omega
        rw [hat, hnew _ (by rw [hlen]; exact hj), getD_slice hj, hpos]
    · exact (hkeep x (by simp only [wordAt]; omega)).trans (hframe x (by omega))

/-! ### Span writes -/

theorem State.writeSpanAs_within (s : State) (ha : 2 ^ 32 ≤ a) {d : List Byte} (hd : 0 < d.length) (poison : Nat) :
    s.Within writeMask (s.writeSpanAs a d poison who).2 := by
  rw [State.writeSpanAs_eq hd]
  exact State.writeWords_within s ha d poison _

/-- A span write above the lofts stores its bytes and leaves the words that it does not touch. -/
theorem State.byte_writeSpanAs (h : s.canon) (ha : 2 ^ 32 ≤ a) {d : List Byte} (hd : 0 < d.length) (poison : Nat) :
    (∀ i, i < d.length → (s.writeSpanAs a d poison who).2.byte (a + i) = d.getD i 0) ∧
      ∀ x, x / 32 < a / 32 ∨ (a + d.length - 1) / 32 < x / 32 → (s.writeSpanAs a d poison who).2.byte x = s.byte x := by
  obtain ⟨hnew, hkeep⟩ := State.byte_writeWords (who := who) h ha hd poison _ (Nat.le_refl _)
  rw [State.writeSpanAs_eq hd]
  exact ⟨fun i hi => hnew i hi (by omega), fun x hx => hkeep x (by omega)⟩

end Sys2Proof.Machine

/-!
SUPPORT. A command's access to the scratch memory: its pieces are read or written at once, in order (R13, R98, R390).
-/
namespace Sys2Proof.Machine
variable {s t u : State} {x : Nat} {r : CmdRef} {m : MemOp}

/-! ### One piece -/

/-- The scratch memory. -/
def inScratch (x n : Nat) : Prop := 0x120000000 ≤ x ∧ x + n ≤ 0x120200000

theorem inScratch_of_inStaging {n : Nat} (h : inStaging x n = true) : inScratch x n := by
  simp only [inStaging, Bool.and_eq_true, decide_eq_true_eq] at h
  exact ⟨by omega, h.2⟩

theorem decodeAddr_scratch {x : Nat} (hlo : 0x120000000 ≤ x) (hhi : x < 0x120200000) : decodeAddr x = .scratch := by
  unfold decodeAddr
  rw [if_neg (by omega), if_pos (by omega), if_neg (by omega), if_neg (by omega), if_neg (by omega), if_pos (by omega)]

/-- The operation after its piece. -/
def MemOp.after (m : MemOp) (d : List Byte) (poison : Nat) : MemOp :=
  { m with off := m.off + m.piece, bytes := m.bytes ++ d, poison := Nat.lor m.poison (m.marks poison) }

section piece
variable (haddr : m.addr = x + 2 ^ 48 * s.node) (hin : inScratch x m.len) (hleft : m.off < m.len)
include haddr hin hleft

/-- A piece in the scratch is performed at once. -/
theorem State.memGo_scratch (wr : Bool) (fuel : Nat) : s.memGo r wr (fuel + 1) m =
    if wr then (s.writeSpanAs (x + m.off) (slice m.bytes m.off m.piece) 0 .mp).2.memGo r wr fuel (m.after [] 0)
    else (s.readSpan (x + m.off) m.piece .mp).2.2.memGo r wr fuel
      (m.after (s.readSpan (x + m.off) m.piece .mp).1 (s.readSpan (x + m.off) m.piece .mp).2.1) := by
  have hnode := s.node_lt
  obtain ⟨hlo, hhi⟩ := hin
  have hloc : (m.addr + m.off) % 2 ^ 48 = x + m.off := by omega
  have hdec : decodeAddr (x + m.off) = .scratch := decodeAddr_scratch (by omega) (by omega)
  rw [State.memGo, if_neg (by omega), if_neg (by omega), if_neg (by omega)]
  simp only [hloc, hdec]
  cases wr with
  | true => simp [MemOp.after]
  | false => simp [MemOp.after]

omit hin in
theorem MemOp.piece_bounds : 0 < m.piece ∧ m.off + m.piece ≤ m.len ∧
    (m.off + m.piece = m.len ∨ ((x + (m.off + m.piece)) % 256 = 0 ∧ (x + (m.off + m.piece)) / 256 = (x + m.off) / 256 + 1)) := by
  have hmod : (m.addr + m.off) % 256 = (x + m.off) % 256 := by omega
  rw [MemOp.piece, hmod]
  omega

end piece

/-! ### Marks -/

theorem foldl_lor_ne_zero {l : List Nat} {c : Nat → Prop} [DecidablePred c] {e : Nat → Nat} :
    ∀ {p : Nat}, (p ≠ 0 ∨ ∃ j ∈ l, c j) → l.foldl (fun p j => if c j then Nat.lor p (2 ^ e j) else p) p ≠ 0 := by
  have hlor (p i : Nat) : Nat.lor p (2 ^ i) ≠ 0 := by
    intro h0
    have hbit := bit_lor_pow p i
    rw [h0, bit, Nat.zero_div] at hbit
    cases hbit
  induction l with
  | nil => exact fun h => h.elim id fun ⟨_, hj, _⟩ => absurd hj (by simp)
  | cons i l ih =>
    intro p h
    rw [List.foldl_cons]
    refine ih ?_
    rcases h with h | ⟨j, hj, hc⟩
    · split
      · exact .inl (hlor _ _)
      · exact .inl h
    · rcases List.mem_cons.1 hj with rfl | hj
      · rw [if_pos hc]
        exact .inl (hlor _ _)
      · exact .inr ⟨j, hj, hc⟩

/-- The mark of the first word stands among the marks of the operation. -/
theorem MemOp.marks_first (hoff : m.off = 0) {mask : Nat} (hbit : bit mask (m.addr % 256 / 32) = 1) : m.marks mask ≠ 0 := by
  refine foldl_lor_ne_zero (.inr ⟨m.addr % 256 / 32, List.mem_range.2 (by omega), hbit, ?_⟩)
  rw [hoff]
  omega

theorem Nat.lor_ne_zero_left {p q : Nat} (h : p ≠ 0) : Nat.lor p q ≠ 0 := fun h0 => h (Nat.eq_zero_of_le_zero (h0 ▸ Nat.left_le_or))
theorem Nat.lor_ne_zero_right {p q : Nat} (h : q ≠ 0) : Nat.lor p q ≠ 0 := fun h0 => h (Nat.eq_zero_of_le_zero (h0 ▸ Nat.right_le_or))

/-! ### All pieces of a read -/

/-- What a read of n bytes at x brings: the bytes where every word is clean, a mark where the first is poisoned. -/
structure ReadEnd (s : State) (x : Nat) (m m' : MemOp) : Prop where
  len : m'.len = m.len
  info : m'.info = m.info
  clean : (∀ b, x / 32 * 32 ≤ b → b < x + m.len → s.syn b = 0) → m.bytes = s.bytesAt x m.off → m.poison = 0 →
    m'.bytes = s.bytesAt x m.len ∧ m'.poison = 0
  marked : m.poison ≠ 0 → m'.poison ≠ 0
  first : s.syn x = poisonSyn → m.off = 0 → 0 < m.len → m'.poison ≠ 0

theorem State.syn_congr (h : t.synd = s.synd) (b : Nat) : t.syn b = s.syn b := by rw [State.syn, State.syn, h]

theorem ReadEnd.step (hw : s.Within noteMask t) (haddr : m.addr = x + 2 ^ 48 * t.node) (hin : inScratch x m.len) (hleft : m.off < m.len)
    {m' : MemOp} (h : ReadEnd s x (m.after (t.readSpan (x + m.off) m.piece .mp).1 (t.readSpan (x + m.off) m.piece .mp).2.1) m') :
    ReadEnd s x m m' := by
  obtain ⟨hpos, hfit, -⟩ := MemOp.piece_bounds (s := t) haddr hleft
  have hlo : 2 ^ 32 ≤ x + m.off := by have := hin.1; omega
  have hsyn (b : Nat) : t.syn b = s.syn b := State.syn_congr (hw.same.synd rfl) b
  refine ⟨h.len, h.info, fun hclean hbytes hpoison => ?_, fun hp => h.marked (Nat.lor_ne_zero_left hp), fun hfirst hoff _ => ?_⟩
  · obtain ⟨hdata, hmask⟩ := State.readSpan_clean (s := t) (who := .mp) hlo hpos fun b hb1 hb2 =>
      (hsyn b).trans (hclean b (by omega) (by omega))
    refine h.clean hclean ?_ ?_
    · simp only [MemOp.after]
      rw [hbytes, hdata, State.bytesAt_congr (hw.same.mem rfl), State.bytesAt_append]
    · simp only [MemOp.after]
      rw [hmask, hpoison, MemOp.marks_zero]
      exact Nat.or_zero 0
  · refine h.marked (Nat.lor_ne_zero_right (MemOp.marks_first hoff ?_))
    have hword : m.addr % 256 / 32 = (x + m.off) % 256 / 32 := by omega
    rw [hword]
    exact State.readSpan_poison hlo hpos ((hsyn _).trans (by rw [hoff]; exact hfirst))

/-- A read in the scratch ends at once. -/
theorem State.memGo_read : ∀ (fuel : Nat) {t : State} {m : MemOp}, s.Within noteMask t → s.regsOk → m.addr = x + 2 ^ 48 * s.node →
    inScratch x m.len → m.off ≤ m.len → 1 ≤ fuel → (m.off < m.len → (x + m.len + 255) / 256 + 1 ≤ fuel + (x + m.off) / 256) →
    ∃ u m', t.memGo r false fuel m = (u, some m') ∧ s.Within noteMask u ∧ ReadEnd s x m m'
  | 0, _, _, _, _, _, _, _, h1, _ => absurd h1 (by decide)
  | fuel + 1, t, m, hw, hok, haddr, hin, hle, _, hfuel => by
    by_cases hleft : m.off < m.len
    · have hnode : t.node = s.node := by rw [State.node, State.node, hw.f hok 0, hw.f hok 0]
      have haddr' : m.addr = x + 2 ^ 48 * t.node := by rw [hnode]; exact haddr
      obtain ⟨hpos, hfit, hend⟩ := MemOp.piece_bounds haddr' hleft
      have hlo : 2 ^ 32 ≤ x + m.off := by have := hin.1; omega
      have hf := hfuel hleft
      rw [State.memGo_scratch haddr' hin hleft false fuel]
      let sp := t.readSpan (x + m.off) m.piece .mp
      obtain ⟨u, m', hgo, hwu, hread⟩ := State.memGo_read fuel (m := m.after sp.1 sp.2.1) (hw.trans (t.readSpan_within hlo hpos)) hok haddr hin
        hfit (by omega) (fun hl => by simp only [MemOp.after] at hl ⊢; omega)
      exact ⟨u, m', hgo, hwu, hread.step hw haddr' hin hleft⟩
    · have hall : m.off = m.len := by omega
      exact ⟨t, m, by rw [State.memGo, if_pos (by omega)], hw, rfl, rfl, fun _ hb hp => ⟨hall ▸ hb, hp⟩, id, fun _ h0 hp => absurd hp (by omega)⟩

/-! ### All pieces of a write -/

/-- A write in the scratch ends at once, and its bytes stand there. -/
theorem State.memGo_write : ∀ (fuel : Nat) {t : State} {m : MemOp}, s.Within writeMask t → s.canon → m.addr = x + 2 ^ 48 * s.node →
    inScratch x m.len → m.bytes.length = m.len → m.off ≤ m.len → 1 ≤ fuel →
    (m.off < m.len → (x + m.len + 255) / 256 + 1 ≤ fuel + (x + m.off) / 256) → (m.off = 0 ∨ m.off = m.len ∨ (x + m.off) % 256 = 0) →
    (∀ k, k < m.off → t.byte (x + k) = m.bytes.getD k 0) →
    ∃ u m', t.memGo r true fuel m = (u, some m') ∧ s.Within writeMask u ∧ ∀ k, k < m.len → u.byte (x + k) = m.bytes.getD k 0
  | 0, _, _, _, _, _, _, _, _, h1, _, _, _ => absurd h1 (by decide)
  | fuel + 1, t, m, hw, hc, haddr, hin, hlen, hle, _, hfuel, hat, hbytes => by
    by_cases hleft : m.off < m.len
    · have hnode : t.node = s.node := by rw [State.node, State.node, hw.f hc.regs 0, hw.f hc.regs 0]
      have haddr' : m.addr = x + 2 ^ 48 * t.node := by rw [hnode]; exact haddr
      obtain ⟨hpos, hfit, hend⟩ := MemOp.piece_bounds haddr' hleft
      have hlo : 2 ^ 32 ≤ x + m.off := by have := hin.1; omega
      have hf := hfuel hleft
      let d := slice m.bytes m.off m.piece
      have hd : d.length = m.piece := by simp only [d, slice, List.length_take, List.length_drop]; omega
      obtain ⟨hnew, hkeep⟩ := State.byte_writeSpanAs (who := .mp) (hw.canon hc) hlo (d := d) (by omega) 0
      have hgot : (m.after [] 0).bytes = m.bytes := List.append_nil _
      have hnow : ∀ k, k < m.off + m.piece →
          (t.writeSpanAs (x + m.off) d 0 .mp).2.byte (x + k) = (m.after [] 0).bytes.getD k 0 := by
        intro k hk
        rw [hgot]
        by_cases hold : k < m.off
        · rw [hkeep (x + k) (by omega)]
          exact hbytes k hold
        · have hidx : x + k = x + m.off + (k - m.off) := by omega
          rw [hidx, hnew (k - m.off) (by omega), getD_slice (by omega), show m.off + (k - m.off) = k by omega]
      rw [State.memGo_scratch haddr' hin hleft true fuel, if_pos rfl]
      obtain ⟨u, m', hgo, hwu, hall⟩ := State.memGo_write fuel (m := m.after [] 0)
        (hw.trans (t.writeSpanAs_within (who := .mp) hlo (d := d) (by omega) 0)) hc haddr hin (by rw [hgot]; exact hlen) hfit (by omega)
        (fun hl => by simp only [MemOp.after] at hl ⊢; omega) (by simp only [MemOp.after]; omega) hnow
      exact ⟨u, m', hgo, hwu, fun k hk => (hall k hk).trans (by rw [hgot])⟩
    · exact ⟨t, m, by rw [State.memGo, if_pos (by omega)], hw, fun k hk => hbytes k (by omega)⟩

end Sys2Proof.Machine

/-!
SUPPORT. Ranges that a command's argument names, and what CERT_READ and ATTEST write there (R389 to R391, R410 to R412).
-/
namespace Sys2Proof.Machine
variable {s t u : State} {h : CmdHdr} {e : Ebryn}

/-! ### Checks, one by one -/

section checks
variable {b : Bool} {st : Nat} {l : List (Bool × Nat)} {run : State → State}

theorem checks_of_refused (hb : b = true) : s.checks h ((b, st) :: l) run = s.respond h.ref st [] := by
  rw [hb]
  rfl
theorem checks_of_passed (hb : b = false) : s.checks h ((b, st) :: l) run = s.checks h l run := by
  rw [hb]
  rfl
theorem checks_nil : s.checks h [] run = run s := rfl
end checks

/-! ### Ranges -/

theorem State.entered_within (s : State) (e : Ebryn) : s.Within entryMask (s.entered e) := fun _ c k => State.enter_inv c k
theorem State.respond_within (s : State) (r : CmdRef) (st : Nat) (d : List Byte) : s.Within 0x2018 (s.respond r st d) :=
  fun _ c k => State.respond_inv c k

/-- A range is judged by three registers. -/
theorem State.rangeOk_of_rd (hrd : ∀ r i, r = .CO_NODE ∨ r = .HK_STATUS ∨ r = .LB_OWNER → t.rd r i = s.rd r i) (dest n : Nat) :
    t.rangeOk dest n = s.rangeOk dest n := by
  have hnode : t.node = s.node := by
    have hvalid : t.f Fld.CO_NODE_VALID 0 = s.f Fld.CO_NODE_VALID 0 := State.f_of_rd rfl (hrd .CO_NODE 0 (.inl rfl))
    have hid : t.f Fld.CO_NODE_NODE 0 = s.f Fld.CO_NODE_NODE 0 := State.f_of_rd rfl (hrd .CO_NODE 0 (.inl rfl))
    rw [State.node, State.node, hvalid, hid]
  have htier : t.f Fld.HK_STATUS_TIER 0 = s.f Fld.HK_STATUS_TIER 0 := State.f_of_rd rfl (hrd .HK_STATUS 0 (.inr (.inl rfl)))
  have howner (b : Nat) : t.owner b = s.owner b := State.owner_of_rd (hrd .LB_OWNER b (.inr (.inr rfl)))
  simp only [State.rangeOk, hnode, htier, howner]

theorem State.Within.rangeOk {m : Nat} (hw : s.Within m t) (hs : s.regsOk) (dest n : Nat)
    (hm : (m.testBit 0 || m.testBit 19 || m.testBit (24 + Reg.CO_NODE.ctorIdx) || m.testBit (24 + Reg.HK_STATUS.ctorIdx) ||
      m.testBit (24 + Reg.LB_OWNER.ctorIdx)) = false := by rfl) : t.rangeOk dest n = s.rangeOk dest n := by
  simp only [Bool.or_eq_false_iff] at hm
  obtain ⟨⟨⟨⟨h0, h19⟩, hnode⟩, htier⟩, howner⟩ := hm
  refine State.rangeOk_of_rd (fun r i hr => ?_) dest n
  rcases hr with rfl | rfl | rfl
  · exact hw.rd hs i hnode h0 h19
  · exact hw.rd hs i htier h0 h19
  · exact hw.rd hs i howner h0 h19

theorem State.rangeOk_entered (hs : s.regsOk) (e : Ebryn) (dest n : Nat) : (s.entered e).rangeOk dest n = s.rangeOk dest n :=
  (s.entered_within e).rangeOk hs dest n

/-! ### What is written to a destination -/

section writeOut
variable {dest : Nat} {d : List Byte}

theorem State.writeOut_refused (hr : s.rangeOk dest d.length = false) : s.writeOut h dest d = s.respond h.ref 3 [] :=
  checks_of_refused (by rw [hr]; rfl)

/-- What goes to the staging area stands there. -/
theorem State.byte_writeOut (hc : s.canon) (hr : s.rangeOk dest d.length = true) (hin : inStaging (dest % 2 ^ 48) d.length = true)
    {k : Nat} (hk : k < d.length) : (s.writeOut h dest d).byte (dest % 2 ^ 48 + k) = d.getD k 0 := by
  let m : MemOp := { addr := dest % 2 ^ 48 + 2 ^ 48 * s.node, len := d.length, bytes := d }
  have hdrawn : s.drawn.canon := { hc with }
  obtain ⟨u, m', hgo, -, hall⟩ := State.memGo_write (s := s.drawn) (r := h.ref) (x := dest % 2 ^ 48) m.fuel (t := s.drawn) (m := m)
    (State.Within.refl writeMask s.drawn) hdrawn rfl (inScratch_of_inStaging hin) rfl (Nat.zero_le _) (by simp only [MemOp.fuel]; omega)
    (fun _ => by simp only [MemOp.fuel, m]; omega) (.inl rfl) fun k hk => absurd hk (Nat.not_lt_zero k)
  have hrun : s.writeOut h dest d = u.memWriteEnd h.ref m' := by
    rw [State.writeOut, checks_of_passed (by rw [hr]; rfl), checks_nil]
    change s.drawn.memPut h.ref m = _
    rw [State.memPut, hgo]
  have hmem : (u.memWriteEnd h.ref m').mem = u.mem := (u.respond_within h.ref 0 _).same.mem rfl
  rw [hrun, State.byte, hmem]
  exact hall k hk
end writeOut

/-! ### CERT_READ and ATTEST -/

section identity
variable {curve dest : Nat} {nonce : List Byte}

theorem exec_certRead (ha : s.accepts ⟨h, 0x0C02, .i, argBytes [(6, 1, curve), (8, 8, dest)], false⟩) :
    let t := s.entered ⟨h, 0x0C02, .i, argBytes [(6, 1, curve), (8, 8, dest)], false⟩
    exec (.certRead h curve dest) s = .next (t.checks h [(curve ≠ 1 ∧ curve ≠ 2, 3), (t.fuses.lc = 0, 5)]
      fun s => s.writeOut h dest (s.certBytes curve)) :=
  congrArg Host.Outcome.next (submit_ok ha)

theorem exec_attest (ha : s.accepts ⟨h, 0x0C03, .i, argBytes [(6, 1, curve), (8, 8, dest)] ++ fit 0 32 nonce, false⟩) :
    let t := s.entered ⟨h, 0x0C03, .i, argBytes [(6, 1, curve), (8, 8, dest)] ++ fit 0 32 nonce, false⟩
    exec (.attest h curve dest nonce) s = .next (t.checks h [(curve ≠ 1 ∧ curve ≠ 2, 3), (t.fuses.lc ≠ 2 ∧ t.fuses.lc ≠ 3, 5)]
      fun s => s.writeOut h dest (s.report curve nonce ++ s.idSign curve (s.report curve nonce))) :=
  congrArg Host.Outcome.next (submit_ok ha)

theorem State.fuses_entered (s : State) (e : Ebryn) : (s.entered e).fuses = s.fuses := (entered_same s e).fuses rfl

/-- CERT_READ in the order of its checks (R411). -/
theorem certRead_clause (hc : s.canon) (ha : s.accepts ⟨h, 0x0C02, .i, argBytes [(6, 1, curve), (8, 8, dest)], false⟩) :
    let e : Ebryn := ⟨h, 0x0C02, .i, argBytes [(6, 1, curve), (8, 8, dest)], false⟩
    let d := (s.entered e).certBytes curve
    (curve ≠ 1 ∧ curve ≠ 2 → exec (.certRead h curve dest) s = .next ((s.entered e).respond h.ref 3 [])) ∧
    (curve = 1 ∨ curve = 2 → s.fuses.lc = 0 → exec (.certRead h curve dest) s = .next ((s.entered e).respond h.ref 5 [])) ∧
    (curve = 1 ∨ curve = 2 → s.fuses.lc ≠ 0 → ∃ u, exec (.certRead h curve dest) s = .next u ∧
      (s.rangeOk dest d.length = false → u = (s.entered e).respond h.ref 3 []) ∧
      (inStaging (dest % 2 ^ 48) d.length = true → s.rangeOk dest d.length = true → h.port = 0 →
        ∀ k, k < d.length → u.byte (dest % 2 ^ 48 + k) = d.getD k 0)) := by
  intro e d
  have hexec := exec_certRead ha
  have hrange := State.rangeOk_entered hc.regs e dest d.length
  refine ⟨fun hcurve => ?_, fun hcurve hlc => ?_, fun hcurve hlc => ⟨_, hexec, ?_⟩⟩
  · rw [hexec, checks_of_refused (decide_eq_true hcurve)]
  · rw [hexec, checks_of_passed (decide_eq_false (by omega)), checks_of_refused (decide_eq_true (by rw [State.fuses_entered]; exact hlc))]
  · rw [checks_of_passed (decide_eq_false (by omega)), checks_of_passed (decide_eq_false (by rw [State.fuses_entered]; exact hlc)), checks_nil]
    exact ⟨fun hr => State.writeOut_refused (hrange.trans hr), fun hin hr _ k hk =>
      State.byte_writeOut (entered_canon hc e) (hrange.trans hr) hin hk⟩

/-- ATTEST in the order of its checks (R412). -/
theorem attest_clause (hc : s.canon) (ha : s.accepts ⟨h, 0x0C03, .i, argBytes [(6, 1, curve), (8, 8, dest)] ++ fit 0 32 nonce, false⟩) :
    let e : Ebryn := ⟨h, 0x0C03, .i, argBytes [(6, 1, curve), (8, 8, dest)] ++ fit 0 32 nonce, false⟩
    let r := (s.entered e).report curve nonce
    let d := r ++ (s.entered e).idSign curve r
    (curve ≠ 1 ∧ curve ≠ 2 → exec (.attest h curve dest nonce) s = .next ((s.entered e).respond h.ref 3 [])) ∧
    (curve = 1 ∨ curve = 2 →
      (s.fuses.lc ≠ 2 → s.fuses.lc ≠ 3 → exec (.attest h curve dest nonce) s = .next ((s.entered e).respond h.ref 5 [])) ∧
      (s.fuses.lc = 2 ∨ s.fuses.lc = 3 →
        (s.rangeOk dest d.length = false → exec (.attest h curve dest nonce) s = .next ((s.entered e).respond h.ref 3 [])) ∧
        (s.rangeOk dest d.length = true → ∃ u, exec (.attest h curve dest nonce) s = .next u ∧
          (inStaging (dest % 2 ^ 48) d.length = true → h.port = 0 → ∀ k, k < d.length → u.byte (dest % 2 ^ 48 + k) = d.getD k 0)))) := by
  intro e r d
  have hexec := exec_attest ha
  have hrange := State.rangeOk_entered hc.regs e dest d.length
  have hlc : (s.entered e).fuses.lc = s.fuses.lc := congrArg Fuses.lc (s.fuses_entered e)
  refine ⟨fun hcurve => ?_, fun hcurve => ⟨fun h2 h3 => ?_, fun h23 => ?_⟩⟩
  · rw [hexec, checks_of_refused (decide_eq_true hcurve)]
  · rw [hexec, checks_of_passed (decide_eq_false (by omega)), checks_of_refused (decide_eq_true (by rw [hlc]; exact ⟨h2, h3⟩))]
  · have hruns : exec (.attest h curve dest nonce) s = .next ((s.entered e).writeOut h dest d) := by
      rw [hexec, checks_of_passed (decide_eq_false (by omega)), checks_of_passed (decide_eq_false (by rw [hlc]; omega)), checks_nil]
    exact ⟨fun hr => by rw [hruns, State.writeOut_refused (hrange.trans hr)],
      fun hr => ⟨_, hruns, fun hin _ k hk => State.byte_writeOut (entered_canon hc e) (hrange.trans hr) hin hk⟩⟩
end identity

end Sys2Proof.Machine

/-!
SUPPORT. The challenge, the authorisations that it guards, and the sources that they are read from (R390, R414).
-/
namespace Sys2Proof.Machine
variable {s t u : State} {h : CmdHdr} {e : Ebryn}

/-! ### The challenge -/

/-- The challenge reads 0 and is not valid. -/
def State.spent (u : State) : Prop := u.f Fld.LC_CHAL_CTRL_VALID 0 = 0 ∧ ∀ k, k < 8 → u.f Fld.LC_CHAL_CHAL k = 0

theorem State.each_challenge : ∀ (l : List Nat) {s : State}, s.regsOk →
    (s.each l fun s k => s.setF Fld.LC_CHAL_CHAL k 0).regsOk ∧
    ∀ j, j < 8 → ((j ∈ l ∧ ∀ k ∈ l, k < 8) ∨ s.f Fld.LC_CHAL_CHAL j = 0) → (s.each l fun s k => s.setF Fld.LC_CHAL_CHAL k 0).f Fld.LC_CHAL_CHAL j = 0
  | [], _, hs => ⟨hs, fun j _ hj => hj.elim (fun hin => absurd hin.1 (by simp)) id⟩
  | k :: l, s, hs => by
    obtain ⟨hok, hall⟩ := State.each_challenge l (State.regsOk_setF hs Fld.LC_CHAL_CHAL k 0)
    refine ⟨hok, fun j hj8 hj => hall j hj8 ?_⟩
    rw [State.f_setF_instances hs _ rfl]
    split
    · exact .inr (Nat.zero_mod _)
    next hne =>
      rcases hj with ⟨hin, hlt⟩ | hz
      · refine .inl ⟨(List.mem_cons.1 hin).resolve_left fun hjk => hne (by rw [hjk]), fun i hi => hlt i (List.mem_cons_of_mem _ hi)⟩
      · exact .inr hz

/-- The kinds of state that a spent challenge lies in. -/
abbrev chalMask : Nat := 0x5000000000000000000000000000000000000000000000000000000000000000000000

theorem State.consumeChallenge_within (s : State) : s.Within chalMask s.consumeChallenge := fun _ c k => State.consumeChallenge_inv c k

theorem State.spent_consumeChallenge (hs : s.regsOk) : s.consumeChallenge.spent := by
  obtain ⟨hok, hall⟩ := State.each_challenge (List.range 8) hs
  refine ⟨State.f_setF_same hok Fld.LC_CHAL_CTRL_VALID rfl 0 0, fun k hk => ?_⟩
  exact (State.f_setF_apart hok (F := Fld.LC_CHAL_CTRL_VALID) rfl ..).trans
    (hall k hk (.inl ⟨List.mem_range.2 hk, fun i hi => List.mem_range.1 hi⟩))

theorem State.spent.within {m : Nat} (h : s.spent) (hw : s.Within m t) (hs : s.regsOk)
    (hm : (m.testBit 0 || m.testBit 19 || m.testBit (24 + Reg.LC_CHAL_CTRL.ctorIdx) || m.testBit (24 + Reg.LC_CHAL.ctorIdx)) = false := by rfl) :
    t.spent := by
  simp only [Bool.or_eq_false_iff] at hm
  obtain ⟨⟨⟨h0, h19⟩, hctrl⟩, hchal⟩ := hm
  exact ⟨(hw.f hs 0 hctrl h0 h19).trans h.1, fun k hk => (hw.f hs k hchal h0 h19).trans (h.2 k hk)⟩

theorem State.spent_respond (hs : s.regsOk) (r : CmdRef) (st : Nat) (d : List Byte) : (s.consumeChallenge.respond r st d).spent :=
  (State.spent_consumeChallenge hs).within (State.respond_within _ r st d) (s.consumeChallenge_within.regsOk hs)

/-! ### Authorisations -/

/-- An authorisation is judged by the challenge and the fuses. -/
theorem State.authOk_of_rd (hctrl : t.rd .LC_CHAL_CTRL 0 = s.rd .LC_CHAL_CTRL 0) (hchal : ∀ k, t.rd .LC_CHAL k = s.rd .LC_CHAL k)
    (hfuses : t.fuses = s.fuses) (a : List Byte) (kind target lo hi : Nat) : t.authOk a kind target lo hi = s.authOk a kind target lo hi := by
  have hvalid : t.f Fld.LC_CHAL_CTRL_VALID 0 = s.f Fld.LC_CHAL_CTRL_VALID 0 := State.f_of_rd rfl hctrl
  have hword (k : Nat) : t.f Fld.LC_CHAL_CHAL k = s.f Fld.LC_CHAL_CHAL k := State.f_of_rd rfl (hchal k)
  simp only [State.authOk, hvalid, hword, hfuses]

theorem State.Within.authOk {m : Nat} (hw : s.Within m t) (hs : s.regsOk) (a : List Byte) (kind target lo hi : Nat)
    (hm : (m.testBit 0 || m.testBit 19 || m.testBit 17 || m.testBit (24 + Reg.LC_CHAL_CTRL.ctorIdx) ||
      m.testBit (24 + Reg.LC_CHAL.ctorIdx)) = false := by rfl) : t.authOk a kind target lo hi = s.authOk a kind target lo hi := by
  simp only [Bool.or_eq_false_iff] at hm
  obtain ⟨⟨⟨⟨h0, h19⟩, h17⟩, hctrl⟩, hchal⟩ := hm
  exact State.authOk_of_rd (hw.rd hs 0 hctrl h0 h19) (fun k => hw.rd hs k hchal h0 h19) ((hw.same h19).fuses h17) a kind target lo hi

/-! ### Sources -/

/-- The state in which an accepted command reads its source. -/
def State.reading (s : State) (e : Ebryn) : State := (s.entered e).uncommitted e.h.ref

/-- The mask of what entering and reading change. -/
abbrev readMask : Nat := 0x1e020000031000000000000000000000000000000000000000080000000000002aa

theorem State.reading_within (s : State) (e : Ebryn) : s.Within entryMask (s.reading e) :=
  fun _ c k => State.uncommitted_inv (c.mono rfl) (State.enter_inv c k)

section source
variable {source len info : Nat}

/-- A source in the staging area is read at once. -/
theorem State.readSource_staging (hc : s.canon) (e : Ebryn) (r : CmdRef) (hin : inStaging (source % 2 ^ 48) len = true) (info : Nat) :
    ∃ u m', (s.reading e).readSource r source len info = (u, some m') ∧ s.Within readMask u ∧ m'.len = len ∧ m'.info = info ∧
      ((∀ b, source % 2 ^ 48 / 32 * 32 ≤ b → b < source % 2 ^ 48 + len → s.syn b = 0) →
        m'.bytes = s.bytesAt (source % 2 ^ 48) len ∧ m'.poison = 0) ∧
      (s.syn (source % 2 ^ 48) = poisonSyn → 0 < len → m'.poison ≠ 0) := by
  let t := s.reading e
  have hw : s.Within entryMask t := s.reading_within e
  let m : MemOp := { addr := source % 2 ^ 48 + 2 ^ 48 * t.node, len := len, info := info, bytes := [] }
  obtain ⟨u, m', hgo, hwu, hread⟩ := State.memGo_read (s := t) (r := r) (x := source % 2 ^ 48) m.fuel (t := t) (m := m)
    (State.Within.refl noteMask t) (hw.regsOk hc.regs) rfl (inScratch_of_inStaging hin) (Nat.zero_le _) (by simp only [MemOp.fuel]; omega)
    (fun _ => by simp only [MemOp.fuel, m]; omega)
  have hsyn (b : Nat) : t.syn b = s.syn b := State.syn_congr (hw.same.synd rfl) b
  have hmem : t.mem = s.mem := hw.same.mem rfl
  refine ⟨u, m', hgo, hw.mono.trans hwu.mono, hread.len, hread.info, fun hclean => ?_, fun hpoison hlen => ?_⟩
  · obtain ⟨hbytes, hp⟩ := hread.clean (fun b h1 h2 => (hsyn b).trans (hclean b h1 h2)) rfl rfl
    exact ⟨hbytes.trans (State.bytesAt_congr hmem ..), hp⟩
  · exact hread.first ((hsyn _).trans hpoison) rfl hlen

/-- A source that may be named and is not the scratch lies in a loft bank: it is asked for through the corridor. -/
theorem State.readSource_loft (r : CmdRef) (hr : s.rangeOk source len = true) (hlen : 0 < len)
    (hother : decodeAddr (source % 2 ^ 48) ≠ .scratch) (info : Nat) : ∃ u, s.readSource r source len info = (u, none) ∧ s.Within 0x18 u := by
  have hnode := s.node_lt
  have hloft : source % 2 ^ 48 + len ≤ 0x100000000 := by
    simp only [State.rangeOk, inStaging, Bool.and_eq_true, Bool.or_eq_true, decide_eq_true_eq] at hr
    obtain ⟨-, ⟨hlo, hhi⟩ | ⟨⟨⟨⟨-, hend⟩, -⟩, -⟩, -⟩⟩ := hr
    · exact absurd (decodeAddr_scratch (by omega) (by omega)) hother
    · exact hend
  let m : MemOp := { addr := source % 2 ^ 48 + 2 ^ 48 * s.node, len := len, info := info, bytes := [] }
  have hloc : (m.addr + m.off) % 2 ^ 48 = source % 2 ^ 48 := by simp only [m]; omega
  have hhere : (m.addr + m.off) / 2 ^ 48 = s.node := by simp only [m]; omega
  have hdec : decodeAddr (source % 2 ^ 48) = .loft (source % 2 ^ 48 / 0x800000) := if_pos (by omega)
  refine ⟨s.memSend r false m, ?_, fun _ c k => State.memSend_inv c k⟩
  change s.memGo r false (m.len / 256 + 2 + 1) m = _
  rw [State.memGo, if_neg (by simp only [m]; omega), if_neg (by simp only [m]; omega), if_neg (by omega)]
  simp only [hloc, hdec]

end source

end Sys2Proof.Machine

/-!
SUPPORT. The erasure of secrets before a transition or a grant of full debug access (R415): ranges DISABLED, link keys none; and the
fuses of a transition (R413).
-/
namespace Sys2Proof.Machine
variable {s t u : State} {k r : Nat}

/-! ### Link keys -/

/-- t is canonical, and the encryption state of every link is as in s. -/
def State.EncKept (s t : State) : Prop := t.canon ∧ ∀ j, (t.link j).enc = (s.link j).enc

theorem State.EncKept.refl (h : s.canon) : s.EncKept s := ⟨h, fun _ => rfl⟩
theorem State.EncKept.trans (h : s.EncKept t) (h' : t.EncKept u) : s.EncKept u := ⟨h'.1, fun j => (h'.2 j).trans (h.2 j)⟩

theorem State.EncKept.within {m : Nat} (h : s.EncKept t) (hw : t.Within m u) (h13 : m.testBit 13 = false := by rfl)
    (h19 : m.testBit 19 = false := by rfl) : s.EncKept u :=
  ⟨hw.canon h.1, fun j => hw.link j h13 h19 ▸ h.2 j⟩

theorem State.EncKept.updLink (h : s.EncKept t) (n : Nat) {g : Link → Link} (hg : ∀ l : Link, (g l).enc = l.enc) :
    s.EncKept (t.updLink n g) := by
  refine ⟨State.canon_updLink h.1 n g, fun j => ?_⟩
  rw [State.link_updLink h.1.links]
  split
  case isTrue hj => subst hj; exact (hg _).trans (h.2 j)
  case isFalse => exact h.2 j

theorem Link.SameButCmd.enc {l t : Link} (h : l.SameButCmd t) : t.enc = l.enc := by
  have henc := congrArg Link.enc h
  exact henc

theorem State.EncKept.of_butCmd (h : s.EncKept t) (h' : t.LinksButCmd u) : s.EncKept u :=
  ⟨h'.1, fun j => (h'.2 j).enc.trans (h.2 j)⟩

section kept
variable (h : s.EncKept t)
include h

theorem State.EncKept.onWire (k : Nat) (f : Flit) : s.EncKept (t.onWire k f) := h.updLink k fun _ => rfl
theorem State.EncKept.putFlit (k : Nat) (f : Flit) : s.EncKept (t.putFlit k f) := by
  unfold State.putFlit
  refine State.EncKept.onWire ?_ k _
  exact h.updLink k fun _ => rfl
theorem State.EncKept.sendNull (k : Nat) : s.EncKept (t.sendNull k) := h.putFlit k _
theorem State.EncKept.fillFlit (k : Nat) : s.EncKept (t.fillFlit k) :=
  ite_p (fun _ => h.sendNull k) fun _ => ite_p (fun _ => h.onWire k _) fun _ => h.onWire k _
theorem State.EncKept.frameOut (g n : Nat) (last : List Flit) : s.EncKept (t.frameOut g n last) := by
  unfold State.frameOut
  extract_lets link raw filled
  have hfilled : s.EncKept filled := ite_p (fun _ => h) fun _ => foldl_p (Q := s.EncKept) (fun _ _ hk => hk.fillFlit _) h
  exact hfilled.updLink _ fun _ => rfl
theorem State.EncKept.pmFrame (k tx : Nat) (forced : Bool) : s.EncKept (t.pmFrame k tx forced) := (h.frameOut ..).updLink _ fun _ => rfl

omit h in
theorem State.EncKept.flushSlots : ∀ (n : Nat) {t : State}, s.EncKept t → ∀ k, s.EncKept (t.flushSlots k n)
  | 0, _, h, _ => h
  | n + 1, _, h, k => ite_p (fun _ => h) fun _ => State.EncKept.flushSlots n (h.frameOut ..) k

theorem State.EncKept.sendPm (k tx : Nat) (forced : Bool) : s.EncKept (t.sendPm k tx forced) :=
  ((State.EncKept.flushSlots _ h k).pmFrame k tx forced).pmFrame k tx forced

theorem State.EncKept.sayOff (k : Nat) : s.EncKept (t.sayOff k) := by
  unfold State.sayOff
  extract_lets said
  have hsaid : s.EncKept said := ite_p (fun _ => h.sendPm ..) fun _ => h
  refine ite_p (fun _ => ?_) fun _ => hsaid
  exact hsaid.within (m := 0x400040000000000000000000000000000000000000000000000) fun _ c k =>
    State.lanesOff_inv (c.mono rfl) (c.setF rfl (c.setF rfl k))

theorem State.EncKept.setLinkF (D S : Field) (k v : Nat) : s.EncKept (t.setLinkF D S k v) :=
  ⟨State.canon_setLinkF h.1 D S k v, fun j => by rw [State.setLinkF_link]; exact h.2 j⟩

theorem State.EncKept.endLinkCmds (k : Nat) (sel : Nat → Bool) (st : Nat) (d : List Byte) : s.EncKept (t.endLinkCmds k sel st d) :=
  ⟨(t.endLinkCmds_within k sel st d).canon h.1, fun j => (t.endLinkCmds_link h.1 k sel st d j).enc.trans (h.2 j)⟩

theorem State.EncKept.setLinkState (k v : Nat) : s.EncKept (t.setLinkState k v) :=
  h.within (m := 0x1e02000000000000000040040000000000000000000000000000000000000000022) fun _ c hk => State.setLinkState_inv c hk

theorem State.EncKept.goDown (k : Nat) : s.EncKept (t.goDown k) := by
  unfold State.goDown
  extract_lets cut slowed held
  have hcut : s.EncKept cut := (h.sayOff k).updLink k fun _ => rfl
  have hslowed : s.EncKept slowed := hcut.setLinkF ..
  have hheld : s.EncKept held := hslowed.setLinkState ..
  exact hheld.endLinkCmds ..

theorem State.EncKept.holdDown (k : Nat) : s.EncKept (t.holdDown k) := by
  have hset := h.setLinkF Fld.DP_CTRL_HOLD_DOWN Fld.SL_CTRL_HOLD_DOWN k 1
  exact ite_p (fun _ => hset.endLinkCmds k _ 0 []) fun _ => ite_p (fun _ => hset.updLink k fun _ => rfl) fun _ => hset.goDown k

end kept

/-- No key is left of a link's directions. -/
def State.keyless (s : State) (k : Nat) : Prop := (s.enc k).txKey = none ∧ (s.enc k).rxKey = none

theorem State.keyless_of_kept (h : s.EncKept t) (hk : s.keyless k) : t.keyless k := by
  rw [State.keyless, State.enc, h.2 k]
  exact hk

theorem State.dropKeys_link (h : s.canon) (k j : Nat) : (s.dropKeys k).canon ∧
    ((s.dropKeys k).link j).enc = if j = k then {} else (s.link j).enc := by
  let l := s.updLink k fun l => { l with enc := {} }
  have hl : l.canon := State.canon_updLink h ..
  have hanswered : l.EncKept (l.respondTo (s.link k).enc.cmd (if (s.link k).enc.phase = 3 then 7 else 6) []) := by
    unfold State.respondTo
    split
    · exact (State.EncKept.refl hl).of_butCmd ((State.LinksButCmd.refl hl).respond ..)
    · exact State.EncKept.refl hl
  have hdropped : l.EncKept (s.dropKeys k) := by
    refine State.EncKept.setLinkF (hanswered.within (m := 0x60000000000000000000000000000000000000000000000000000000) fun _ c hp => ?_) ..
    exact c.wr rfl (c.wr rfl hp)
  refine ⟨hdropped.1, (hdropped.2 j).trans ?_⟩
  rw [State.link_updLink h.links]
  by_cases hj : j = k
  · rw [if_pos hj, if_pos hj]
  · rw [if_neg hj, if_neg hj]

/-- One link's keys are erased and the link is held down. -/
def State.dropHold (s : State) (k : Nat) : State := (s.dropKeys k).when (s.linkState k ≠ 0) (·.holdDown k)

theorem State.dropHold_kept (h : s.canon) (k : Nat) : (s.dropKeys k).EncKept (s.dropHold k) := by
  have hdropped := State.EncKept.refl (s.dropKeys_link h k k).1
  exact ite_p (fun _ => hdropped.holdDown k) fun _ => hdropped

theorem State.dropHold_keyless (h : s.canon) (k j : Nat) (hj : j = k ∨ s.keyless j) : (s.dropHold k).keyless j := by
  refine State.keyless_of_kept (State.dropHold_kept h k) ?_
  have henc := (State.dropKeys_link h k j).2
  rw [State.keyless, State.enc, henc]
  split
  · exact ⟨rfl, rfl⟩
  next hne => exact hj.resolve_left hne

theorem State.each_dropHold : ∀ (l : List Nat) {s : State}, s.canon →
    (s.each l State.dropHold).canon ∧ ∀ j, (j ∈ l ∨ s.keyless j) → (s.each l State.dropHold).keyless j
  | [], _, h => ⟨h, fun _ hj => hj.resolve_left (by simp)⟩
  | k :: l, s, h => by
    obtain ⟨hc, hall⟩ := State.each_dropHold l (State.dropHold_kept h k).1
    refine ⟨hc, fun j hj => hall j ?_⟩
    rcases hj with hin | hk
    · rcases List.mem_cons.1 hin with rfl | hin
      · exact .inr (State.dropHold_keyless h j j (.inl rfl))
      · exact .inl hin
    · exact .inr (State.dropHold_keyless h k j (.inr hk))

end Sys2Proof.Machine

/-!
SUPPORT. Ranges that are erased (R415 step 2) and the fuses that a transition writes (R413, R410).
-/
namespace Sys2Proof.Machine
variable {s t u : State} {r : Nat}

/-! ### Ranges -/

theorem State.crypto_inject (s : State) (ep : Nat) (p : Packet) : (s.inject ep p).crypto = s.crypto :=
  (State.inject_inv (clo_same (m := 0x10) s rfl) (Same.refl _ s)).crypto rfl

theorem State.ranges_reqDone (s : State) (q : Nat) (x : CrReq) : (s.reqDone q x).crypto.ranges = s.crypto.ranges := by
  unfold State.reqDone
  extract_lets freed p d
  have hinject (x : Packet) : (freed.inject 545 x).crypto.ranges = s.crypto.ranges :=
    (congrArg Crypto.ranges (freed.crypto_inject 545 x)).trans rfl
  split
  · exact hinject _
  · split
    · exact hinject _
    · exact hinject _

/-- The end of a job leaves the ranges. -/
theorem State.ranges_jobDone (s : State) (id : Nat) (d : List Byte) (poison stored : Bool) (st : Nat) :
    (s.jobDone id d poison stored st).crypto.ranges = s.crypto.ranges := by
  unfold State.jobDone
  split
  · rfl
  · extract_lets freed
    split
    · rfl
    · extract_lets x
      split
      · exact freed.ranges_reqDone ..
      · rfl

theorem State.ranges_endJobs (s : State) (r : Nat) : (s.endJobs r).crypto.ranges = s.crypto.ranges := by
  refine foldl_p (Q := fun u : State => u.crypto.ranges = s.crypto.ranges) (fun t x h => ?_) rfl
  split
  · exact h
  · exact (t.ranges_jobDone ..).trans h

/-- Canonical, the ranges' table among it. -/
def State.rangesOk (s : State) : Prop := s.regsOk ∧ mwf (fun _ => ({} : CrRange)) s.crypto.ranges = true

theorem State.rangesOk.within {m : Nat} (h : s.rangesOk) (hw : s.Within m t) (h14 : m.testBit 14 = false := by rfl)
    (h0 : m.testBit 0 = false := by rfl) (h19 : m.testBit 19 = false := by rfl) : t.rangesOk :=
  ⟨hw.regsOk h.1 h0 h19, by rw [(hw.same h19).crypto h14]; exact h.2⟩

/-- The range as it is about to be set to DISABLED: its jobs, its cached nodes, its keys and its root are gone. -/
def State.rangeEmptied (s : State) (r : Nat) : State :=
  ((s.endJobs r).updCr fun c => { c with cache := c.cache.filter fun (e : Nat × CacheEnt) => keyRange e.1 != r }).updCrr r fun _ => {}

theorem State.rangeEmptied_within (s : State) (r : Nat) : s.Within 0x4012 (s.rangeEmptied r) := fun _ c k =>
  State.updCrr_inv (c.mono rfl) (State.updCr_inv (c.mono rfl) (State.endJobs_inv (c.mono rfl) k))

theorem State.rangesOk_rangeEmptied (h : s.rangesOk) (r : Nat) : (s.rangeEmptied r).rangesOk :=
  ⟨(s.rangeEmptied_within r).regsOk h.1, mwf_mput _ _ ((s.ranges_endJobs r).symm ▸ h.2)⟩

theorem State.disabling_rangeEmptied (h : s.rangesOk) (r : Nat) : ((s.rangeEmptied r).crr r).disabling = false := by
  have hwf : mwf (fun _ => ({} : CrRange)) (s.endJobs r).crypto.ranges = true := by rw [State.ranges_endJobs]; exact h.2
  have hempty : (s.rangeEmptied r).crr r = {} := mget_mput_same hwf _ _
  rw [hempty]

/-- The range shown DISABLED. -/
def State.rangeShown (s : State) (r : Nat) : State :=
  (((s.rangeEmptied r).setRange r 0).setF Fld.CR_RANGE_STATE_PROGRESS r 0).setF Fld.CR_RANGE_STATE_KEY_ROLL_REQUIRED r 0

theorem State.eraseRange_eq (h : ¬(s.rgState r = 0 ∧ !(s.crr r).disabling)) : s.eraseRange r =
    ((s.rangeShown r).setF Fld.CR_RANGE_CTRL_ENABLE r 0).respondTo
      (((s.endJobs r).updCr fun c => { c with cache := c.cache.filter fun (e : Nat × CacheEnt) => keyRange e.1 != r }).crr r).cmd 6 [] :=
  if_neg h

theorem State.rgState_setF (h : s.regsOk) {j : Nat} (hr : r < 32) (hj : j < 32) :
    (s.setF Fld.CR_RANGE_STATE_STATE r 0).rgState j = if j = r then 0 else s.rgState j := by
  have hcount : Fld.CR_RANGE_STATE_STATE.reg.map.count = 32 := rfl
  rw [State.rgState, State.f_setF_instances h _ rfl, hcount, Nat.mod_eq_of_lt hj, Nat.mod_eq_of_lt hr, Nat.zero_mod]
  rfl

theorem State.rgState_setF_apart (h : s.regsOk) {F : Field} (hF : F.apart Fld.CR_RANGE_STATE_STATE = true) (i v j : Nat) :
    (s.setF F i v).rgState j = s.rgState j := State.f_setF_apart h hF ..

theorem State.rgState_rangeShown (h : s.rangesOk) {j : Nat} (hr : r < 32) (hj : j < 32) :
    (s.rangeShown r).rangesOk ∧ (s.rangeShown r).rgState j = if j = r then 0 else s.rgState j := by
  let e := s.rangeEmptied r
  have he : e.rangesOk := State.rangesOk_rangeEmptied h r
  have hset : e.setRange r 0 = (e.setF Fld.CR_RANGE_STATE_STATE r 0).keyRoll := by
    rw [State.setRange, State.disabling_rangeEmptied h r]
    exact if_neg Bool.false_ne_true
  have hone : (e.setF Fld.CR_RANGE_STATE_STATE r 0).regsOk := State.regsOk_setF he.1 ..
  have hroll : (e.setF Fld.CR_RANGE_STATE_STATE r 0).keyRoll.regsOk := State.regsOk_setF hone ..
  have hprog : ((e.setF Fld.CR_RANGE_STATE_STATE r 0).keyRoll.setF Fld.CR_RANGE_STATE_PROGRESS r 0).regsOk := State.regsOk_setF hroll ..
  have hkept : e.rgState j = s.rgState j := (s.rangeEmptied_within r).f h.1 j
  change ((e.setRange r 0).setF _ r 0 |>.setF _ r 0).rangesOk ∧ ((e.setRange r 0).setF _ r 0 |>.setF _ r 0).rgState j = _
  rw [hset]
  refine ⟨⟨State.regsOk_setF hprog .., he.2⟩, ?_⟩
  rw [State.rgState_setF_apart hprog rfl, State.rgState_setF_apart hroll rfl]
  exact (State.rgState_setF_apart hone rfl ..).trans ((State.rgState_setF he.1 hr hj).trans (by rw [hkept]))

theorem State.respondTo_within (s : State) (c : Option CmdRef) (st : Nat) (d : List Byte) : s.Within 0x2018 (s.respondTo c st d) :=
  fun _ k h => State.respondTo_inv k h

/-- A range that is erased is DISABLED; the others are as they were. -/
theorem State.rgState_eraseRange (h : s.rangesOk) {j : Nat} (hr : r < 32) (hj : j < 32) :
    (s.eraseRange r).rangesOk ∧ (s.eraseRange r).rgState j = if j = r then 0 else s.rgState j := by
  by_cases hoff : s.rgState r = 0 ∧ !(s.crr r).disabling
  · rw [State.eraseRange, if_pos hoff]
    refine ⟨h, ?_⟩
    split
    next hjr => rw [hjr]; exact hoff.1
    next => rfl
  · obtain ⟨hshown, hstate⟩ := State.rgState_rangeShown h hr hj
    have hctrl : ((s.rangeShown r).setF Fld.CR_RANGE_CTRL_ENABLE r 0).rangesOk := ⟨State.regsOk_setF hshown.1 .., hshown.2⟩
    rw [State.eraseRange_eq hoff]
    generalize (State.crr _ r).cmd = cmd
    have hw := State.respondTo_within ((s.rangeShown r).setF Fld.CR_RANGE_CTRL_ENABLE r 0) cmd 6 []
    exact ⟨hctrl.within hw, (hw.f hctrl.1 j).trans ((State.rgState_setF_apart hshown.1 rfl ..).trans hstate)⟩

theorem State.each_eraseRange : ∀ (l : List Nat) {s : State}, s.rangesOk → (∀ r ∈ l, r < 32) →
    (s.each l State.eraseRange).rangesOk ∧ ∀ j, j < 32 → (j ∈ l ∨ s.rgState j = 0) → (s.each l State.eraseRange).rgState j = 0
  | [], _, h, _ => ⟨h, fun _ _ hj => hj.resolve_left (by simp)⟩
  | r :: l, s, h, hl => by
    have hr : r < 32 := hl r List.mem_cons_self
    obtain ⟨hc, hall⟩ := State.each_eraseRange l (State.rgState_eraseRange h hr hr).1 fun i hi => hl i (List.mem_cons_of_mem _ hi)
    refine ⟨hc, fun j hj hin => hall j hj ?_⟩
    have hstep := (State.rgState_eraseRange h hr hj).2
    rcases hin with hin | hz
    · rcases List.mem_cons.1 hin with rfl | hin
      · exact .inr (hstep.trans (if_pos rfl))
      · exact .inl hin
    · refine .inr (hstep.trans ?_)
      split
      · rfl
      · exact hz

/-! ### All secrets -/

theorem State.eraseSecrets_eq (s : State) : s.eraseSecrets = (s.each (List.range 32) State.eraseRange).each links32 State.dropHold := rfl

/-- After the erasure every range is DISABLED and no link has a key. -/
theorem State.eraseSecrets_clear (hc : s.canon) (hranges : mwf (fun _ => ({} : CrRange)) s.crypto.ranges = true) {k : Nat} (hk : k < 32) :
    s.eraseSecrets.rgState k = 0 ∧ s.eraseSecrets.keyless k := by
  let t := s.each (List.range 32) State.eraseRange
  have htc : t.canon := State.Within.canon (m := 0x901000000000000000000000000000000000000000000000000601a)
    (fun _ c h => State.each_inv (c.mono rfl) h fun _ _ h => State.eraseRange_inv (c.mono rfl) h) hc
  obtain ⟨-, hstates⟩ := State.each_eraseRange (List.range 32) ⟨hc.regs, hranges⟩ fun r hr => List.mem_range.1 hr
  obtain ⟨-, hkeys⟩ := State.each_dropHold links32 htc
  have hw : t.Within 0x1e020000000600004000c00c000000000000000000000000000000000000000203a (t.each links32 State.dropHold) := fun _ c h =>
    State.each_inv (c.mono rfl) h fun _ _ h =>
      State.when_inv (c.mono rfl) (State.dropKeys_inv (c.mono rfl) h) fun _ h => State.holdDown_inv (c.mono rfl) h
  rw [State.eraseSecrets_eq]
  exact ⟨(hw.f htc.regs k).trans (hstates k hk (.inl (List.mem_range.2 hk))), hkeys k (.inl (List.mem_range.2 hk))⟩

end Sys2Proof.Machine

/-!
SUPPORT. LC_TRANSITION: its refusals, what its end answers, and the fuses it writes (R413 to R415).
-/
namespace Sys2Proof.Machine
variable {s t u : State} {h : CmdHdr} {e : Ebryn} {r : CmdRef} {m : MemOp} {target : Nat} {payload : List Byte}

/-! ### The fuses -/

theorem State.fuses_trng (s : State) (consumer : Nat) : (s.trng consumer).2.fuses = s.fuses :=
  (State.trng_inv (clo_same (m := 0x1e02000000000000000000000000000000000000000000000000000000000000022) s rfl) (Same.refl _ s)).fuses rfl

/-- The key pair that PROVISIONED brings. -/
def State.keysFused (s : State) (payload : List Byte) : State :=
  let (k, s) := s.trng 0
  let (a, s) := s.trng 0
  let (b, s) := s.trng 0
  s.updFuses fun q => { q with
    keyHash := (List.range (payload.length / 48)).foldl (fun m i => mput (fun _ => 0) m (4 + i) (beNat (slice payload (48 * i) 48))) q.keyHash,
    idKeys := true, idSecret := leNat k, idSecret2 := leNat (a ++ b.take 16) }

theorem State.keysFused_fuses (s : State) (payload : List Byte) : (s.keysFused payload).fuses.idKeys = true ∧
    (s.keysFused payload).fuses.lc = s.fuses.lc := by
  refine ⟨rfl, ?_⟩
  change (((s.trng 0).2.trng 0).2.trng 0).2.fuses.lc = s.fuses.lc
  rw [State.fuses_trng, State.fuses_trng, State.fuses_trng]

/-- What the transition fuses of its own. -/
def State.targetFused (s : State) (target : Nat) (payload : List Byte) : State :=
  if target = 1 then s.keysFused payload
  else if target = 2 then s.updFuses fun q => { q with certified := true, cert := payload }
  else if target = 4 then s.updFuses fun q => { q with idKeys := false, idSecret := 0, idSecret2 := 0 }
  else s

theorem State.fuseTransition_eq : s.fuseTransition target payload = (s.targetFused target payload).updFuses fun q =>
    { q with portsOff := q.portsOff || q.lc == 0, lc := target, partTry := 0, partFor := 0, partPayload := [] } := rfl

theorem State.lc_targetFused (s : State) (target : Nat) (payload : List Byte) : (s.targetFused target payload).fuses.lc = s.fuses.lc :=
  ite_p (Q := fun t : State => t.fuses.lc = s.fuses.lc) (fun _ => (s.keysFused_fuses payload).2)
    fun _ => ite_p (Q := fun t : State => t.fuses.lc = s.fuses.lc) (fun _ => rfl)
    fun _ => ite_p (Q := fun t : State => t.fuses.lc = s.fuses.lc) (fun _ => rfl) fun _ => rfl

theorem State.fuseTransition_fuses (s : State) (target : Nat) (payload : List Byte) :
    let q := (s.fuseTransition target payload).fuses
    q.lc = target ∧ (target = 4 → q.idKeys = false ∧ q.idSecret = 0 ∧ q.idSecret2 = 0) ∧ (target = 1 → q.idKeys = true) ∧
      (s.fuses.lc = 0 → q.portsOff = true) := by
  intro q
  refine ⟨rfl, fun h4 => ?_, fun h1 => ?_, fun h0 => ?_⟩
  · subst h4
    exact ⟨rfl, rfl, rfl⟩
  · subst h1
    exact (s.keysFused_fuses payload).1
  · change ((s.targetFused target payload).fuses.portsOff || (s.targetFused target payload).fuses.lc == 0) = true
    rw [s.lc_targetFused target payload, h0, Bool.or_eq_true]
    exact .inr rfl

/-! ### The end of a transition -/

theorem State.transitionEnd_eq {lo hi : Nat} (hslots : lcSlots s.fuses.lc m.info = some (lo, hi)) : s.transitionEnd r m =
    let t := s.consumeChallenge
    if !lcLength m.info m.len then t.respond r 3 []
    else if m.poison ≠ 0 then t.respond r 0xB []
    else if !s.authOk m.bytes 1 m.info lo hi then t.authFails r
    else if 2 ≤ s.fuses.partTry ∨ (s.fuses.partTry = 1 ∧ !(s.fuses.partFor = m.info ∧ s.fuses.partPayload = m.bytes.drop 240)) then t.respond r 4 []
    else if m.info = 2 ∧ !([1, 2].all fun c => Config.certOk c s.fuses.uid (s.fuses.secret c) (m.bytes.drop 240) t.sec.measurement) then
      t.respond r 4 []
    else
      let u := (t.eraseSecrets.fuseTransition m.info (m.bytes.drop 240)).updSec fun x => { x with transition := some r }
      (u.updBoot fun b => { b with delayedReset := some 2 }).respond r 0 [] := by
  unfold State.transitionEnd
  simp only [hslots]

theorem State.transitionEnd_of_none (hslots : lcSlots s.fuses.lc m.info = none) : s.transitionEnd r m = s.consumeChallenge.respond r 4 [] := by
  unfold State.transitionEnd
  simp only [hslots]

/-- What a transition's end changes once the challenge is spent. -/
abbrev transitionMask : Nat := 0x2001e020000000690104000c00c000000000000000000000000000000000000002e03a

theorem State.transitionEnd_within (s : State) (r : CmdRef) (m : MemOp) : s.consumeChallenge.Within transitionMask (s.transitionEnd r m) := by
  intro P c k
  have hanswer (st : Nat) : P (s.consumeChallenge.respond r st []) := State.respond_inv (c.mono rfl) k
  cases hslots : lcSlots s.fuses.lc m.info with
  | none => rw [State.transitionEnd_of_none hslots]; exact hanswer 4
  | some x =>
    rw [State.transitionEnd_eq hslots]
    refine ite_p (fun _ => hanswer 3) fun _ => ite_p (fun _ => hanswer 0xB) fun _ => ite_p (fun _ => State.authFails_inv (c.mono rfl) k)
      fun _ => ite_p (fun _ => hanswer 4) fun _ => ite_p (fun _ => hanswer 4) fun _ => ?_
    exact State.respond_inv (c.mono rfl) (State.updBoot_inv (c.mono rfl) (State.updSec_inv (c.mono rfl)
      (State.fuseTransition_inv (c.mono rfl) (State.eraseSecrets_inv (c.mono rfl) k))))

theorem State.spent_transitionEnd (hs : s.regsOk) (r : CmdRef) (m : MemOp) : (s.transitionEnd r m).spent :=
  (State.spent_consumeChallenge hs).within (s.transitionEnd_within r m) (s.consumeChallenge_within.regsOk hs)

theorem State.fuses_consumeChallenge (s : State) : s.consumeChallenge.fuses = s.fuses := s.consumeChallenge_within.same.fuses rfl

/-- A response leaves the fuses and the count of failed authorisations. -/
theorem State.respond_kept (hs : s.regsOk) (r : CmdRef) (st : Nat) : (s.consumeChallenge.respond r st []).fuses = s.fuses ∧
    (s.consumeChallenge.respond r st []).f Fld.LC_AUTH_FAIL_COUNT 0 = s.f Fld.LC_AUTH_FAIL_COUNT 0 := by
  have hw := State.respond_within s.consumeChallenge r st []
  exact ⟨(hw.same.fuses rfl).trans s.fuses_consumeChallenge,
    (hw.f (s.consumeChallenge_within.regsOk hs) 0).trans (s.consumeChallenge_within.f hs 0)⟩

/-- A failed authorisation is counted. -/
theorem State.authFails_kept (hs : s.regsOk) (r : CmdRef) : (s.consumeChallenge.authFails r).fuses = s.fuses ∧
    (s.consumeChallenge.authFails r).f Fld.LC_AUTH_FAIL_COUNT 0 = min (s.f Fld.LC_AUTH_FAIL_COUNT 0 + 1) Fld.LC_AUTH_FAIL_COUNT.top := by
  have hok := s.consumeChallenge_within.regsOk hs
  have hw := State.respond_within (s.consumeChallenge.inc Fld.LC_AUTH_FAIL_COUNT 0) r 4 []
  refine ⟨(hw.same.fuses rfl).trans s.fuses_consumeChallenge, (hw.f (State.regsOk_inc hok ..) 0).trans ?_⟩
  rw [State.f_inc_same hok _ rfl, s.consumeChallenge_within.f hs 0]

theorem State.transitionEnd_of_poison (hs : s.regsOk) (hpoison : m.poison ≠ 0) : (s.transitionEnd r m).fuses = s.fuses ∧
    (s.transitionEnd r m).f Fld.LC_AUTH_FAIL_COUNT 0 = s.f Fld.LC_AUTH_FAIL_COUNT 0 := by
  cases hslots : lcSlots s.fuses.lc m.info with
  | none => rw [State.transitionEnd_of_none hslots]; exact State.respond_kept hs r 4
  | some x =>
    rw [State.transitionEnd_eq hslots]
    simp only [if_pos hpoison]
    split
    · exact State.respond_kept hs r 3
    · exact State.respond_kept hs r 0xB

/-- An end whose source is clean and whose authorisation or length fails. -/
theorem State.transitionEnd_of_failed (hs : s.regsOk) {lo hi : Nat} (hslots : lcSlots s.fuses.lc m.info = some (lo, hi))
    (hclean : m.poison = 0) (hfail : ¬(s.authOk m.bytes 1 m.info lo hi = true ∧ lcLength m.info m.len = true)) :
    (s.transitionEnd r m).fuses = s.fuses ∧ (lcLength m.info m.len = true →
      (s.transitionEnd r m).f Fld.LC_AUTH_FAIL_COUNT 0 = min (s.f Fld.LC_AUTH_FAIL_COUNT 0 + 1) Fld.LC_AUTH_FAIL_COUNT.top) := by
  cases hlen : lcLength m.info m.len with
  | false =>
    have hu : s.transitionEnd r m = s.consumeChallenge.respond r 3 [] := (State.transitionEnd_eq hslots).trans (if_pos (by simp [hlen]))
    rw [hu]
    exact ⟨(State.respond_kept hs r 3).1, fun h => absurd h (by decide)⟩
  | true =>
    have hauth : s.authOk m.bytes 1 m.info lo hi = false := by simpa [hlen] using hfail
    have hu : s.transitionEnd r m = s.consumeChallenge.authFails r := (State.transitionEnd_eq hslots).trans
      ((if_neg (by simp [hlen])).trans ((if_neg (by simp [hclean])).trans (if_pos (by simp [hauth]))))
    obtain ⟨hfuses, hcount⟩ := State.authFails_kept hs r
    rw [hu]
    exact ⟨hfuses, fun _ => hcount⟩

/-- A transition that takes place. -/
theorem State.transitionEnd_of_ok (hc : s.canon) (hranges : mwf (fun _ => ({} : CrRange)) s.crypto.ranges = true) {lo hi : Nat}
    (hslots : lcSlots s.fuses.lc m.info = some (lo, hi)) (hclean : m.poison = 0) (hauth : s.authOk m.bytes 1 m.info lo hi = true)
    (hlen : lcLength m.info m.len = true) (htry : s.fuses.partTry = 0) (htarget : m.info ≠ 2) :
    let u := s.transitionEnd r m
    u.fuses.lc = m.info ∧ u.boot.delayedReset = some 2 ∧
      (m.info = 4 → u.fuses.idKeys = false ∧ u.fuses.idSecret = 0 ∧ u.fuses.idSecret2 = 0) ∧ (m.info = 1 → u.fuses.idKeys = true) ∧
      (s.fuses.lc = 0 → u.fuses.portsOff = true) ∧ ∀ k, k < 32 → u.rgState k = 0 ∧ (u.enc k).txKey = none ∧ (u.enc k).rxKey = none := by
  intro u
  let t := s.consumeChallenge
  have htc : t.canon := s.consumeChallenge_within.canon hc
  let erased := t.eraseSecrets
  have herase : t.Within 0x1e020000000690104000c00c000000000000000000000000000000000000000603a erased := fun _ c k => State.eraseSecrets_inv c k
  let fused := erased.fuseTransition m.info (m.bytes.drop 240)
  have hfuse : erased.Within 0x1e02000000000000000000000000000000000000000000000000000000000020022 fused :=
    fun _ c k => State.fuseTransition_inv c k
  let noted := (fused.updSec fun x => { x with transition := some r }).updBoot fun b => { b with delayedReset := some 2 }
  have hu : u = noted.respond r 0 [] := by
    change s.transitionEnd r m = _
    rw [State.transitionEnd_eq hslots]
    simp only [hlen, hclean, hauth, htry]
    rw [if_neg (by decide), if_neg (by decide), if_neg (by decide), if_neg (by omega), if_neg (by omega)]
  have hrespond : noted.Within 0x2018 u := hu ▸ noted.respond_within r 0 []
  have hfuses : u.fuses = fused.fuses := hrespond.same.fuses rfl
  have hlc : erased.fuses.lc = s.fuses.lc := congrArg Fuses.lc ((herase.same.fuses rfl).trans s.fuses_consumeChallenge)
  obtain ⟨hnow, hscrap, hkeys, hports⟩ := erased.fuseTransition_fuses m.info (m.bytes.drop 240)
  have hfusedc : fused.canon := hfuse.canon (herase.canon htc)
  have hcrypto : t.crypto = s.crypto := s.consumeChallenge_within.same.crypto rfl
  refine ⟨hfuses ▸ hnow, congrArg Boot.delayedReset (hrespond.same.boot rfl), hfuses ▸ hscrap, hfuses ▸ hkeys,
    fun h0 => hfuses ▸ hports (hlc.trans h0), fun k hk => ?_⟩
  obtain ⟨hstate, hkeyless⟩ := State.eraseSecrets_clear htc (by rw [hcrypto]; exact hranges) hk
  have hburnt : erased.EncKept fused := (State.EncKept.refl (herase.canon htc)).within hfuse
  have hkept : erased.EncKept noted := ⟨{ hburnt.1 with }, hburnt.2⟩
  refine ⟨?_, ?_⟩
  · exact (hrespond.f (s := noted) hfusedc.regs k).trans ((hfuse.f (herase.canon htc).regs k).trans hstate)
  · have hall : erased.EncKept u := by
      have hl := State.LinksButCmd.respond (State.LinksButCmd.refl (s := noted) hkept.1) r 0 []
      exact hu ▸ hkept.of_butCmd hl
    exact State.keyless_of_kept hall hkeyless

end Sys2Proof.Machine

/-!
SUPPORT. LC_TRANSITION in the order of its checks, with its source read (R415, R390).
-/
namespace Sys2Proof.Machine
variable {s t u : State} {h : CmdHdr} {target source len : Nat}

/-! ### Refusals that spend the challenge -/

/-- A command that spends the challenge whatever it answers. -/
def State.refuseSpent (s : State) (h : CmdHdr) (l : List (Bool × Nat)) (run : State → State) : State :=
  match l.find? fun e => e.1 with | some (_, st) => s.consumeChallenge.reply h st | none => run s

section spent
variable {b : Bool} {st : Nat} {l : List (Bool × Nat)} {run : State → State}

theorem refuseSpent_of_refused (hb : b = true) : s.refuseSpent h ((b, st) :: l) run = s.consumeChallenge.respond h.ref st [] := by
  rw [hb]
  rfl
theorem refuseSpent_of_passed (hb : b = false) : s.refuseSpent h ((b, st) :: l) run = s.refuseSpent h l run := by
  rw [hb]
  rfl
theorem refuseSpent_nil : s.refuseSpent h [] run = run s := rfl
end spent

/-- LC_TRANSITION as its row spells it. -/
def transitionRow (h : CmdHdr) (target source len : Nat) : Ebryn :=
  ⟨h, 0x0C04, .s, argBytes [(6, 1, target), (8, 8, source), (16, 4, len)], false⟩

/-- The read of the source, and the end where it is done at once. -/
def State.transitionRead (s : State) (h : CmdHdr) (target source len : Nat) : State :=
  let (s, o) := (s.uncommitted h.ref).readSource h.ref source len target
  match o with | some m => s.transitionEnd h.ref m | none => s

theorem exec_lcTransition (ha : s.accepts (transitionRow h target source len)) :
    let t := s.entered (transitionRow h target source len)
    exec (.lcTransition h target source len) s = .next (t.refuseSpent h
      [(t.f Fld.PW_SHED_STATUS_LEVEL ≠ 0, 5), (t.shutdown, 4), (t.sec.transition.isSome, 2), (decide (len < 240 ∨ 432 < len), 3),
        (!t.rangeOk source len, 3)] fun s => s.transitionRead h target source len) := by
  refine congrArg Host.Outcome.next ((submit_ok ha).trans ?_)
  rfl

/-- What refuses a transition stands as it did before the command entered. -/
structure State.SameGuards (s t : State) (source len : Nat) : Prop where
  level : t.f Fld.PW_SHED_STATUS_LEVEL 0 = s.f Fld.PW_SHED_STATUS_LEVEL 0
  shutdown : t.shutdown = s.shutdown
  sec : t.sec = s.sec
  range : t.rangeOk source len = s.rangeOk source len

theorem State.sameGuards_entered (hc : s.canon) (e : Ebryn) (source len : Nat) : s.SameGuards (s.entered e) source len := by
  have hw := s.entered_within e
  refine ⟨hw.f hc.regs 0, ?_, hw.same.sec rfl, hw.rangeOk hc.regs source len⟩
  rw [State.shutdown, hw.f hc.regs 0]
  rfl

/-- A refusal: the challenge is spent, the fuses stay. -/
theorem lcTransition_refused (hc : s.canon) {st : Nat}
    (hexec : exec (.lcTransition h target source len) s =
      .next ((s.entered (transitionRow h target source len)).consumeChallenge.respond h.ref st [])) :
    ∃ u, exec (.lcTransition h target source len) s = .next u ∧ u.spent ∧ u.fuses = s.fuses ∧
      u = (s.entered (transitionRow h target source len)).consumeChallenge.respond h.ref st [] := by
  have hok := (s.entered_within (transitionRow h target source len)).regsOk hc.regs
  exact ⟨_, hexec, State.spent_respond hok .., (State.respond_kept hok h.ref st).1.trans (s.fuses_entered _), rfl⟩

section refusals
variable (hc : s.canon) (ha : s.accepts (transitionRow h target source len))
include hc ha

theorem lcTransition_shed (hshed : s.f Fld.PW_SHED_STATUS_LEVEL 0 ≠ 0) : exec (.lcTransition h target source len) s =
    .next ((s.entered (transitionRow h target source len)).consumeChallenge.respond h.ref 5 []) := by
  have hg := State.sameGuards_entered hc (transitionRow h target source len) source len
  rw [exec_lcTransition ha, refuseSpent_of_refused (decide_eq_true (by rw [hg.level]; exact hshed))]

theorem lcTransition_shutdown (hshed : s.f Fld.PW_SHED_STATUS_LEVEL 0 = 0) (hshut : s.shutdown = true) :
    exec (.lcTransition h target source len) s =
      .next ((s.entered (transitionRow h target source len)).consumeChallenge.respond h.ref 4 []) := by
  have hg := State.sameGuards_entered hc (transitionRow h target source len) source len
  rw [exec_lcTransition ha, refuseSpent_of_passed (decide_eq_false (by rw [hg.level, hshed]; decide)),
    refuseSpent_of_refused (by rw [hg.shutdown, hshut])]

theorem lcTransition_busy (hshed : s.f Fld.PW_SHED_STATUS_LEVEL 0 = 0) (hshut : s.shutdown = false)
    (hbusy : s.sec.transition.isSome = true) : exec (.lcTransition h target source len) s =
      .next ((s.entered (transitionRow h target source len)).consumeChallenge.respond h.ref 2 []) := by
  have hg := State.sameGuards_entered hc (transitionRow h target source len) source len
  rw [exec_lcTransition ha, refuseSpent_of_passed (decide_eq_false (by rw [hg.level, hshed]; decide)),
    refuseSpent_of_passed (by rw [hg.shutdown, hshut]), refuseSpent_of_refused (by rw [hg.sec, hbusy])]

variable (hshed : s.f Fld.PW_SHED_STATUS_LEVEL 0 = 0) (hshut : s.shutdown = false) (hfree : s.sec.transition = none)
include hshed hshut hfree

theorem lcTransition_badArg (hbad : len < 240 ∨ 432 < len ∨ s.rangeOk source len = false) : exec (.lcTransition h target source len) s =
    .next ((s.entered (transitionRow h target source len)).consumeChallenge.respond h.ref 3 []) := by
  have hg := State.sameGuards_entered hc (transitionRow h target source len) source len
  rw [exec_lcTransition ha, refuseSpent_of_passed (decide_eq_false (by rw [hg.level, hshed]; decide)),
    refuseSpent_of_passed (by rw [hg.shutdown, hshut]), refuseSpent_of_passed (by rw [hg.sec, hfree]; rfl)]
  by_cases hlen : len < 240 ∨ 432 < len
  · rw [refuseSpent_of_refused (decide_eq_true hlen)]
  · have hrange : s.rangeOk source len = false := (hbad.resolve_left fun h => hlen (.inl h)).resolve_left fun h => hlen (.inr h)
    rw [refuseSpent_of_passed (decide_eq_false hlen), refuseSpent_of_refused (by rw [hg.range, hrange]; rfl)]

theorem lcTransition_runs (hlo : 240 ≤ len) (hhi : len ≤ 432) (hrange : s.rangeOk source len = true) :
    exec (.lcTransition h target source len) s =
      .next ((s.entered (transitionRow h target source len)).transitionRead h target source len) := by
  have hg := State.sameGuards_entered hc (transitionRow h target source len) source len
  rw [exec_lcTransition ha, refuseSpent_of_passed (decide_eq_false (by rw [hg.level, hshed]; decide)),
    refuseSpent_of_passed (by rw [hg.shutdown, hshut]), refuseSpent_of_passed (by rw [hg.sec, hfree]; rfl),
    refuseSpent_of_passed (decide_eq_false (by omega)), refuseSpent_of_passed (by rw [hg.range, hrange]; rfl), refuseSpent_nil]
end refusals

/-! ### The source read -/

theorem State.transitionRead_of_done {t' : State} {m : MemOp} (hread : (t.uncommitted h.ref).readSource h.ref source len target = (t', some m)) :
    t.transitionRead h target source len = t'.transitionEnd h.ref m := by
  unfold State.transitionRead
  rw [hread]

theorem State.transitionRead_of_waiting {t' : State} (hread : (t.uncommitted h.ref).readSource h.ref source len target = (t', none)) :
    t.transitionRead h target source len = t' := by
  unfold State.transitionRead
  rw [hread]

/-- A source whose words need no correction, and one whose first word carries poison. -/
def State.cleanSource (s : State) (source len : Nat) : Prop :=
  inStaging (source % 2 ^ 48) len = true ∧ s.node < 1024 ∧ ∀ k, k < len + 32 → s.syn (source % 2 ^ 48 / 32 * 32 + k) = 0
def State.poisonedSource (s : State) (source len : Nat) : Prop :=
  inStaging (source % 2 ^ 48) len = true ∧ s.node < 1024 ∧ s.syn (source % 2 ^ 48) = poisonSyn

theorem State.syn_of_cleanSource (hclean : s.cleanSource source len) (b : Nat) (hlo : source % 2 ^ 48 / 32 * 32 ≤ b)
    (hhi : b < source % 2 ^ 48 + len) : s.syn b = 0 := by
  have hk := hclean.2.2 (b - source % 2 ^ 48 / 32 * 32) (by omega)
  rwa [Nat.add_sub_cancel' hlo] at hk

/-- What an operation that has read a clean source in the staging area holds. -/
theorem State.readSource_cleanSource (hc : s.canon) (e : Ebryn) (r : CmdRef) (hclean : s.cleanSource source len) (info : Nat) :
    ∃ u m, (s.reading e).readSource r source len info = (u, some m) ∧ s.Within readMask u ∧ m.len = len ∧ m.info = info ∧
      m.bytes = s.bytesAt (source % 2 ^ 48) len ∧ m.poison = 0 := by
  obtain ⟨u, m, hread, hw, hlen, hinfo, hbytes, -⟩ := State.readSource_staging hc e r hclean.1 info
  obtain ⟨hb, hp⟩ := hbytes (State.syn_of_cleanSource hclean)
  exact ⟨u, m, hread, hw, hlen, hinfo, hb, hp⟩

theorem State.readSource_poisonedSource (hc : s.canon) (e : Ebryn) (r : CmdRef) (hpoison : s.poisonedSource source len) (hlen : 0 < len)
    (info : Nat) : ∃ u m, (s.reading e).readSource r source len info = (u, some m) ∧ s.Within readMask u ∧ m.info = info ∧ m.poison ≠ 0 := by
  obtain ⟨u, m, hread, hw, -, hinfo, -, hmark⟩ := State.readSource_staging hc e r hpoison.1 info
  exact ⟨u, m, hread, hw, hinfo, hmark hpoison.2.2 hlen⟩

theorem State.readSource_waiting (hc : s.canon) (e : Ebryn) (r : CmdRef) (hrange : s.rangeOk source len = true) (hlen : 0 < len)
    (hother : decodeAddr (source % 2 ^ 48) ≠ .scratch) (info : Nat) :
    ∃ u, (s.reading e).readSource r source len info = (u, none) ∧ (s.reading e).Within 0x18 u :=
  State.readSource_loft r (((s.reading_within e).rangeOk hc.regs source len).trans hrange) hlen hother info

/-- The end of a transition whose source lies clean in the staging area. -/
theorem lcTransition_clean (hc : s.canon) (hranges : mwf (fun _ => ({} : CrRange)) s.crypto.ranges = true)
    (hclean : s.cleanSource source len) :
    let e := transitionRow h target source len
    let u := (s.entered e).transitionRead h target source len
    let a := s.bytesAt (source % 2 ^ 48) len
    u.spent ∧ (lcSlots s.fuses.lc target = none → u.fuses = s.fuses) ∧
      ∀ lo hi, lcSlots s.fuses.lc target = some (lo, hi) →
        let ok := (s.entered e).authOk a 1 target lo hi = true ∧ lcLength target len = true
        (¬ok → u.fuses = s.fuses ∧ (lcLength target len = true →
          u.f Fld.LC_AUTH_FAIL_COUNT 0 = min (s.f Fld.LC_AUTH_FAIL_COUNT 0 + 1) Fld.LC_AUTH_FAIL_COUNT.top)) ∧
        (ok → s.fuses.partTry = 0 → target ≠ 2 → u.fuses.lc = target ∧ u.boot.delayedReset = some 2 ∧
          (target = 4 → u.fuses.idKeys = false ∧ u.fuses.idSecret = 0 ∧ u.fuses.idSecret2 = 0) ∧ (target = 1 → u.fuses.idKeys = true) ∧
          (s.fuses.lc = 0 → u.fuses.portsOff = true) ∧ ∀ k, k < 32 → u.rgState k = 0 ∧ (u.enc k).txKey = none ∧ (u.enc k).rxKey = none) := by
  intro e u a
  obtain ⟨t, m, hread, hw, hlen, hinfo, hbytes, hpoison⟩ := State.readSource_cleanSource hc e h.ref hclean target
  have hu : u = t.transitionEnd h.ref m := State.transitionRead_of_done hread
  have hok := hw.regsOk hc.regs
  have hfuses : t.fuses = s.fuses := hw.same.fuses rfl
  have hcount : t.f Fld.LC_AUTH_FAIL_COUNT 0 = s.f Fld.LC_AUTH_FAIL_COUNT 0 := hw.f hc.regs 0
  have hauth (lo hi : Nat) : t.authOk m.bytes 1 m.info lo hi = (s.entered e).authOk a 1 target lo hi := by
    rw [hbytes, hinfo, hw.authOk hc.regs, (s.entered_within e).authOk hc.regs]
  rw [hu]
  refine ⟨State.spent_transitionEnd hok .., fun hnone => ?_, fun lo hi hslots => ⟨fun hfail => ?_, fun hgood htry htarget => ?_⟩⟩
  · rw [State.transitionEnd_of_none (by rw [hfuses, hinfo]; exact hnone)]
    exact (State.respond_kept hok h.ref 4).1.trans hfuses
  · obtain ⟨hsame, hfailed⟩ := State.transitionEnd_of_failed (r := h.ref) hok (lo := lo) (hi := hi) (by rw [hfuses, hinfo]; exact hslots) hpoison
      (by rw [hauth, hinfo, hlen]; exact hfail)
    rw [hinfo, hlen, hcount] at hfailed
    exact ⟨hsame.trans hfuses, hfailed⟩
  · have hdone := State.transitionEnd_of_ok (r := h.ref) (hw.canon hc) (by rw [hw.same.crypto rfl]; exact hranges) (lo := lo) (hi := hi)
      (by rw [hfuses, hinfo]; exact hslots) hpoison (by rw [hauth]; exact hgood.1) (by rw [hinfo, hlen]; exact hgood.2)
      (by rw [hfuses]; exact htry) (by rw [hinfo]; exact htarget)
    rw [hinfo, hfuses] at hdone
    exact hdone

theorem lcTransition_poisoned (hc : s.canon) (hpoison : s.poisonedSource source len) (hlen : 0 < len) :
    let u := (s.entered (transitionRow h target source len)).transitionRead h target source len
    u.spent ∧ u.fuses = s.fuses ∧ u.f Fld.LC_AUTH_FAIL_COUNT 0 = s.f Fld.LC_AUTH_FAIL_COUNT 0 := by
  intro u
  obtain ⟨t, m, hread, hw, -, hmark⟩ :=
    State.readSource_poisonedSource hc (transitionRow h target source len) h.ref hpoison hlen target
  have hu : u = t.transitionEnd h.ref m := State.transitionRead_of_done hread
  have hok := hw.regsOk hc.regs
  obtain ⟨hfuses, hcount⟩ := State.transitionEnd_of_poison (r := h.ref) hok hmark
  rw [hu]
  exact ⟨State.spent_transitionEnd hok .., hfuses.trans (hw.same.fuses rfl), hcount.trans (hw.f hc.regs 0)⟩

theorem lcTransition_waiting (hc : s.canon) (hrange : s.rangeOk source len = true) (hlen : 0 < len)
    (hother : decodeAddr (source % 2 ^ 48) ≠ .scratch) :
    ((s.entered (transitionRow h target source len)).transitionRead h target source len).fuses = s.fuses := by
  obtain ⟨t, hread, hw⟩ := State.readSource_waiting hc (transitionRow h target source len) h.ref hrange hlen hother target
  have hu := State.transitionRead_of_waiting (h := h) (t := s.entered (transitionRow h target source len)) hread
  rw [hu, hw.same.fuses rfl]
  exact (s.reading_within _).same.fuses rfl

end Sys2Proof.Machine

/-!
SUPPORT. DEBUG_ACCESS in the order of its checks, with its grant read (R416, R417).
-/
namespace Sys2Proof.Machine
variable {s t u : State} {h : CmdHdr} {level source len : Nat} {r : CmdRef} {m : MemOp}

/-- DEBUG_ACCESS as its row spells it. -/
def debugRow (h : CmdHdr) (level source len : Nat) : Ebryn :=
  ⟨h, 0x0C05, .s, argBytes [(6, 1, level), (8, 8, source), (16, 4, len)], false⟩

theorem exec_debugAccess (ha : s.accepts (debugRow h level source len)) :
    exec (.debugAccess h level source len) s = .next ((s.entered (debugRow h level source len)).debugAccess h level source len) :=
  congrArg Host.Outcome.next (submit_ok ha)

theorem debugHighest_of_ne {lc : Nat} (hlc : lc ≠ 4) : debugHighest lc = 2 := if_neg hlc

theorem debugSlots_of_ne {lc : Nat} (hlc : lc ≠ 0) : debugSlots lc = some (if lc = 2 then 4 else 0, if lc = 2 then 7 else 3) := by
  rw [debugSlots, if_neg hlc]
  split <;> rfl

/-- The read of the grant, and the end where it is done at once. -/
def State.grantRead (s : State) (h : CmdHdr) (level source len : Nat) : State :=
  let (s, o) := (s.uncommitted h.ref).readSource h.ref source len level
  match o with | some m => s.debugEnd h.ref m | none => s

/-! ### Answers that need no grant -/

section answers
variable (hc : s.canon) (ha : s.accepts (debugRow h level source len))
include ha

theorem debugAccess_badLevel (hlevel : 2 < level) : exec (.debugAccess h level source len) s =
    .next ((s.entered (debugRow h level source len)).consumeChallenge.respond h.ref 3 []) := by
  rw [exec_debugAccess ha, State.debugAccess, if_pos hlevel]
  rfl

theorem debugAccess_early (hlevel : level ≤ 2) (hstep : s.boot.step < 9) : exec (.debugAccess h level source len) s =
    .next ((s.entered (debugRow h level source len)).consumeChallenge.respond h.ref 5 []) := by
  have hboot : (s.entered (debugRow h level source len)).boot = s.boot := (entered_same s _).boot rfl
  rw [exec_debugAccess ha, State.debugAccess, if_neg (by omega), if_pos (by rw [hboot]; exact hstep)]
  rfl

variable (hstep : 9 ≤ s.boot.step)
include hstep

theorem debugAccess_default (hlevel : level = 0) : exec (.debugAccess h level source len) s =
    .next (((s.entered (debugRow h level source len)).consumeChallenge.setF Fld.LC_DEBUG_LEVEL 0 (debugDefault s.fuses.lc)).respond h.ref 0 []) := by
  have hboot : (s.entered (debugRow h level source len)).boot = s.boot := (entered_same s _).boot rfl
  have hfuses := s.fuses_entered (debugRow h level source len)
  rw [exec_debugAccess ha, State.debugAccess, if_neg (by omega), if_neg (by rw [hboot]; omega), if_pos hlevel, hfuses]
  rfl

variable (hlo : 1 ≤ level) (hhi : level ≤ 2)
include hlo hhi

theorem debugAccess_scrapped (hlc : s.fuses.lc = 4) : exec (.debugAccess h level source len) s =
    .next ((s.entered (debugRow h level source len)).consumeChallenge.respond h.ref 4 []) := by
  have hboot : (s.entered (debugRow h level source len)).boot = s.boot := (entered_same s _).boot rfl
  have hfuses := s.fuses_entered (debugRow h level source len)
  rw [exec_debugAccess ha, State.debugAccess, if_neg (by omega), if_neg (by rw [hboot]; omega), if_neg (by omega),
    if_pos (by rw [hfuses, hlc]; exact hlo)]
  rfl

theorem debugAccess_manufacture (hlc : s.fuses.lc = 0) : exec (.debugAccess h level source len) s =
    .next (((s.entered (debugRow h level source len)).consumeChallenge.setF Fld.LC_DEBUG_LEVEL 0 level).respond h.ref 0 []) := by
  have hboot : (s.entered (debugRow h level source len)).boot = s.boot := (entered_same s _).boot rfl
  have hfuses := s.fuses_entered (debugRow h level source len)
  have hspent : (s.entered (debugRow h level source len)).consumeChallenge.fuses.lc = 0 := by
    rw [State.fuses_consumeChallenge, hfuses, hlc]
  have hslots : debugSlots (s.entered (debugRow h level source len)).fuses.lc = none := by rw [hfuses, hlc]; rfl
  rw [exec_debugAccess ha, State.debugAccess, if_neg (by omega), if_neg (by rw [hboot]; omega), if_neg (by omega),
    if_neg (by rw [hfuses, hlc, debugHighest_of_ne (by decide)]; omega)]
  simp only [hslots]
  rw [State.grantDebug, if_neg (by omega)]

variable (h0 : s.fuses.lc ≠ 0) (h4 : s.fuses.lc ≠ 4)
include h0 h4

include hc in
theorem debugAccess_grant : exec (.debugAccess h level source len) s = .next (
    if len ≠ 240 ∨ !s.rangeOk source len then (s.entered (debugRow h level source len)).consumeChallenge.respond h.ref 3 []
    else (s.entered (debugRow h level source len)).grantRead h level source len) := by
  have hboot : (s.entered (debugRow h level source len)).boot = s.boot := (entered_same s _).boot rfl
  have hfuses := s.fuses_entered (debugRow h level source len)
  have hslots : debugSlots (s.entered (debugRow h level source len)).fuses.lc =
      some (if s.fuses.lc = 2 then 4 else 0, if s.fuses.lc = 2 then 7 else 3) := by rw [hfuses]; exact debugSlots_of_ne h0
  have hrange := State.rangeOk_entered hc.regs (debugRow h level source len) source len
  rw [exec_debugAccess ha, State.debugAccess, if_neg (by omega), if_neg (by rw [hboot]; omega), if_neg (by omega),
    if_neg (by rw [hfuses, debugHighest_of_ne h4]; omega)]
  simp only [hslots, hrange]
  rfl

end answers

/-! ### The end of a grant -/

theorem State.debugEnd_eq (h0 : s.fuses.lc ≠ 0) : s.debugEnd r m =
    if m.poison ≠ 0 then s.consumeChallenge.respond r 0xB []
    else if s.authOk m.bytes 2 m.info (if s.fuses.lc = 2 then 4 else 0) (if s.fuses.lc = 2 then 7 else 3) then
      s.consumeChallenge.grantDebug r m.info
    else s.consumeChallenge.authFails r := by
  unfold State.debugEnd
  simp only [debugSlots_of_ne h0]

theorem State.grantDebug_within (s : State) (r : CmdRef) (level : Nat) :
    s.Within 0x81e020000000690104000c00c000000000000000000000000000000000000000603a (s.grantDebug r level) := fun _ c k => State.grantDebug_inv c k
theorem State.authFails_within (s : State) (r : CmdRef) :
    s.Within 0x2000000000000000000000000000000000000000000000000000000000000000002018 (s.authFails r) := fun _ c k => State.authFails_inv c k

/-- A level that is granted is in force. -/
theorem State.level_grantDebug (hs : s.regsOk) (r : CmdRef) (hlevel : level ≤ 2) : (s.grantDebug r level).f Fld.LC_DEBUG_LEVEL 0 = level := by
  unfold State.grantDebug
  extract_lets granted
  have hgranted : granted.regsOk := ite_p (fun _ => State.eraseSecrets_inv (clo_regsOk rfl rfl) hs) fun _ => hs
  have hw := State.respond_within (granted.setF Fld.LC_DEBUG_LEVEL 0 level) r 0 []
  rw [hw.f (State.regsOk_setF hgranted ..) 0, State.f_setF_same hgranted Fld.LC_DEBUG_LEVEL rfl]
  exact Nat.mod_eq_of_lt (by simp [Field.width, Fld.LC_DEBUG_LEVEL]; omega)

theorem State.debugEnd_of_poison (hs : s.regsOk) (h0 : s.fuses.lc ≠ 0) (hpoison : m.poison ≠ 0) : (s.debugEnd r m).spent ∧
    (s.debugEnd r m).f Fld.LC_DEBUG_LEVEL 0 = s.f Fld.LC_DEBUG_LEVEL 0 ∧
    (s.debugEnd r m).f Fld.LC_AUTH_FAIL_COUNT 0 = s.f Fld.LC_AUTH_FAIL_COUNT 0 := by
  have hw := State.respond_within s.consumeChallenge r 0xB []
  have hok := s.consumeChallenge_within.regsOk hs
  rw [State.debugEnd_eq h0, if_pos hpoison]
  exact ⟨State.spent_respond hs .., (hw.f hok 0).trans (s.consumeChallenge_within.f hs 0), (State.respond_kept hs r 0xB).2⟩

theorem State.debugEnd_of_ok (hs : s.regsOk) (h0 : s.fuses.lc ≠ 0) (hclean : m.poison = 0) (hlevel : m.info ≤ 2)
    (hauth : s.authOk m.bytes 2 m.info (if s.fuses.lc = 2 then 4 else 0) (if s.fuses.lc = 2 then 7 else 3) = true) :
    (s.debugEnd r m).spent ∧ (s.debugEnd r m).f Fld.LC_DEBUG_LEVEL 0 = m.info := by
  have hok := s.consumeChallenge_within.regsOk hs
  rw [State.debugEnd_eq h0, if_neg (by omega), if_pos hauth]
  exact ⟨(State.spent_consumeChallenge hs).within (State.grantDebug_within _ r m.info) hok, State.level_grantDebug hok r hlevel⟩

theorem State.debugEnd_of_failed (hs : s.regsOk) (h0 : s.fuses.lc ≠ 0) (hclean : m.poison = 0)
    (hauth : ¬s.authOk m.bytes 2 m.info (if s.fuses.lc = 2 then 4 else 0) (if s.fuses.lc = 2 then 7 else 3) = true) :
    (s.debugEnd r m).spent ∧ (s.debugEnd r m).f Fld.LC_DEBUG_LEVEL 0 = s.f Fld.LC_DEBUG_LEVEL 0 ∧
      (s.debugEnd r m).f Fld.LC_AUTH_FAIL_COUNT 0 = min (s.f Fld.LC_AUTH_FAIL_COUNT 0 + 1) Fld.LC_AUTH_FAIL_COUNT.top := by
  have hok := s.consumeChallenge_within.regsOk hs
  have hw := State.authFails_within s.consumeChallenge r
  rw [State.debugEnd_eq h0, if_neg (by omega), if_neg hauth]
  exact ⟨(State.spent_consumeChallenge hs).within hw hok, (hw.f hok 0).trans (s.consumeChallenge_within.f hs 0), (State.authFails_kept hs r).2⟩

/-! ### The grant read -/

theorem State.grantRead_of_done {t' : State} (hread : (t.uncommitted h.ref).readSource h.ref source len level = (t', some m)) :
    t.grantRead h level source len = t'.debugEnd h.ref m := by
  unfold State.grantRead
  rw [hread]

theorem State.grantRead_of_waiting {t' : State} (hread : (t.uncommitted h.ref).readSource h.ref source len level = (t', none)) :
    t.grantRead h level source len = t' := by
  unfold State.grantRead
  rw [hread]

theorem debugAccess_poisoned (hc : s.canon) (h0 : s.fuses.lc ≠ 0) (hpoison : s.poisonedSource source len) (hlen : 0 < len) :
    let u := (s.entered (debugRow h level source len)).grantRead h level source len
    u.spent ∧ u.f Fld.LC_DEBUG_LEVEL 0 = s.f Fld.LC_DEBUG_LEVEL 0 ∧ u.f Fld.LC_AUTH_FAIL_COUNT 0 = s.f Fld.LC_AUTH_FAIL_COUNT 0 := by
  intro u
  obtain ⟨t, m, hread, hw, -, hmark⟩ := State.readSource_poisonedSource hc (debugRow h level source len) h.ref hpoison hlen level
  have hu : u = t.debugEnd h.ref m := State.grantRead_of_done hread
  obtain ⟨hspent, hlevel, hcount⟩ := State.debugEnd_of_poison (r := h.ref) (hw.regsOk hc.regs) (by rw [hw.same.fuses rfl]; exact h0) hmark
  rw [hu]
  exact ⟨hspent, hlevel.trans (hw.f hc.regs 0), hcount.trans (hw.f hc.regs 0)⟩

theorem debugAccess_waiting (hc : s.canon) (hrange : s.rangeOk source len = true) (hlen : 0 < len)
    (hother : decodeAddr (source % 2 ^ 48) ≠ .scratch) :
    ((s.entered (debugRow h level source len)).grantRead h level source len).f Fld.LC_DEBUG_LEVEL 0 = s.f Fld.LC_DEBUG_LEVEL 0 := by
  obtain ⟨t, hread, hw⟩ := State.readSource_waiting hc (debugRow h level source len) h.ref hrange hlen hother level
  have hu := State.grantRead_of_waiting (h := h) (t := s.entered (debugRow h level source len)) hread
  have hr := s.reading_within (debugRow h level source len)
  rw [hu, hw.f (hr.regsOk hc.regs) 0]
  exact hr.f hc.regs 0

theorem debugAccess_clean (hc : s.canon) (h0 : s.fuses.lc ≠ 0) (hlevel : level ≤ 2) (hclean : s.cleanSource source len) :
    let e := debugRow h level source len
    let u := (s.entered e).grantRead h level source len
    let ok := (s.entered e).authOk (s.bytesAt (source % 2 ^ 48) len) 2 level (if s.fuses.lc = 2 then 4 else 0)
      (if s.fuses.lc = 2 then 7 else 3) = true
    u.spent ∧ (ok → u.f Fld.LC_DEBUG_LEVEL 0 = level) ∧ (¬ok → u.f Fld.LC_DEBUG_LEVEL 0 = s.f Fld.LC_DEBUG_LEVEL 0 ∧
      u.f Fld.LC_AUTH_FAIL_COUNT 0 = min (s.f Fld.LC_AUTH_FAIL_COUNT 0 + 1) Fld.LC_AUTH_FAIL_COUNT.top) := by
  intro e u ok
  obtain ⟨t, m, hread, hw, -, hinfo, hbytes, hpoison⟩ := State.readSource_cleanSource hc e h.ref hclean level
  have hu : u = t.debugEnd h.ref m := State.grantRead_of_done hread
  have hs := hw.regsOk hc.regs
  have hfuses : t.fuses = s.fuses := hw.same.fuses rfl
  have h0' : t.fuses.lc ≠ 0 := by rw [hfuses]; exact h0
  have hauth : t.authOk m.bytes 2 m.info (if t.fuses.lc = 2 then 4 else 0) (if t.fuses.lc = 2 then 7 else 3) = true ↔ ok := by
    rw [hbytes, hinfo, hfuses, hw.authOk hc.regs, ← (s.entered_within e).authOk hc.regs]
  rw [hu]
  by_cases hok : ok
  · obtain ⟨hspent, hgranted⟩ := State.debugEnd_of_ok (r := h.ref) hs h0' hpoison (by rw [hinfo]; exact hlevel) (hauth.2 hok)
    exact ⟨hspent, fun _ => hgranted.trans hinfo, fun hno => absurd hok hno⟩
  · obtain ⟨hspent, hsame, hcount⟩ := State.debugEnd_of_failed (r := h.ref) hs h0' hpoison (mt hauth.1 hok)
    exact ⟨hspent, fun hyes => absurd hyes hok, fun _ => ⟨hsame.trans (hw.f hc.regs 0), by rw [hcount, hw.f hc.regs 0]⟩⟩

end Sys2Proof.Machine

/-!
SUPPORT. The test access port: its shifts and its debug accesses (R373, R374, R416, R417).
-/
namespace Sys2Proof.Machine
variable {s t u : State} {op : TapOp} {a v n : Nat}

/-! ### What waits, and what runs -/

theorem tapRun_of_waits (hst : s.f Fld.BT_STATUS_ST_RUNNING 0 = 1) : ∀ fuel, State.tapRun fuel s = s
  | 0 => rfl
  | _ + 1 => if_pos (.inr hst)

theorem tapRun_of_empty (hq : s.sec.tap.q = []) : ∀ fuel, State.tapRun fuel s = s
  | 0 => rfl
  | _ + 1 => by
    rw [State.tapRun, hq]
    exact ite_self s

/-- While a slice of the start-up test runs an operation only joins those that wait. -/
theorem exec_tapAccess_waits (hpor : s.boot.por = false) (hst : s.f Fld.BT_STATUS_ST_RUNNING 0 = 1) (hop : op ≠ .reset) :
    exec (.tapAccess op) s = .next (s.setTap fun q => { q with q := q.q ++ [op] }) := by
  refine congrArg Host.Outcome.next ((if_neg (by simp [hpor])).trans ((if_neg hop).trans ?_))
  exact tapRun_of_waits (s := s.setTap fun q => { q with q := q.q ++ [op] }) hst _

theorem setTap_of_empty (hq : s.sec.tap.q = []) : (s.setTap fun q => { q with q := [] }) = s := by rw [← hq]; rfl

/-- Where nothing waits and no debug access is on its way an operation takes effect at once. -/
structure State.tapFree (s : State) : Prop where
  por : s.boot.por = false
  running : s.f Fld.BT_STATUS_ST_RUNNING 0 = 0
  busy : s.sec.tap.busy = false
  q : s.sec.tap.q = []

theorem exec_tapAccess (h : s.tapFree) (hop : op ≠ .reset) (hq : (s.tapDo op).sec.tap.q = []) :
    exec (.tapAccess op) s = .next (s.tapDo op) := by
  have hstay : (s.setTap fun q => { q with q := [op] }).setTap (fun q => { q with q := [] }) = s := setTap_of_empty h.q
  have hone : (s.setTap fun q => { q with q := q.q ++ [op] }) = s.setTap fun q => { q with q := [op] } := by
    simp only [State.setTap, State.updSec, h.q, List.nil_append]
  refine congrArg Host.Outcome.next ((if_neg (by simp [h.por])).trans ((if_neg hop).trans ?_))
  rw [hone]
  have hgo : (s.setTap fun q => { q with q := [op] }).tapGo =
      State.tapRun 1 (((s.setTap fun q => { q with q := [op] }).setTap fun q => { q with q := [] }).tapDo op) := by
    refine if_neg ?_
    rintro (hbusy | hst)
    · exact Bool.false_ne_true (h.busy.symm.trans hbusy)
    · exact absurd (h.running.symm.trans hst) (by decide)
  rw [hgo, hstay, tapRun_of_empty hq]

theorem exec_tapReset (h : s.tapFree) : exec (.tapAccess .reset) s =
    .next ((s.setTap fun q => { q with busy := false, q := [] }).tapDo .reset) :=
  congrArg Host.Outcome.next ((if_neg (by simp [h.por])).trans (if_pos rfl))

theorem exec_tapAccess_stays (h : s.tapFree) (hop : op ≠ .reset) (hdo : s.tapDo op = s) : exec (.tapAccess op) s = .next s :=
  (exec_tapAccess h hop (by rw [hdo]; exact h.q)).trans (congrArg Host.Outcome.next hdo)

/-! ### Shifts -/

theorem State.hazard_of_idle (hrec : s.recording = false) (hrep : s.replaying = false) (source unit sub : Nat) :
    s.hazard source unit sub = s := (if_neg (by simp [hrec])).trans (if_neg (by simp [hrep]))

theorem sec_hazard (s : State) (source unit sub : Nat) : (s.hazard source unit sub).sec = s.sec := (hazard_same s source unit sub).sec rfl

/-- The state whose TAP captures an instruction: a privileged one is a hazard. -/
def State.irNoted (s : State) (code : Nat) : State := if tapLevel code ≠ 0 then s.hazard 5 code 0 else s

theorem State.sec_irNoted (s : State) (code : Nat) : (s.irNoted code).sec = s.sec := by
  unfold State.irNoted
  split
  · exact sec_hazard ..
  · rfl

theorem State.irNoted_of_idle (hrec : s.recording = false) (hrep : s.replaying = false) (code : Nat) : s.irNoted code = s :=
  (congrArg (ite _ · s) (State.hazard_of_idle hrec hrep ..)).trans (ite_self s)

theorem tapDo_shiftIr (s : State) {code : Nat} (hcode : code < 256) : s.tapDo (.shiftIr code) =
    ((s.irNoted code).setTap fun t => { t with
      ir := if tapLevel code ≤ s.f Fld.LC_DEBUG_LEVEL then code else 0xFF
      out := (Config.freeWord (s.irNoted code).fresh).toNat % 256 }).drawn := by
  have hmod : code % 256 = code := Nat.mod_eq_of_lt hcode
  simp only [State.tapDo, hmod]
  rfl

theorem shiftReg_idcode (v : Nat) : shiftReg 32 0x18412CB7 v 32 = (0x18412CB7, v % 2 ^ 32) := by
  simp only [shiftReg, Prod.mk.injEq]
  omega

theorem shiftReg_bypass (hn : 1 ≤ n) : shiftReg 1 0 v n = (2 * v % 2 ^ n, v / 2 ^ (n - 1) % 2) := by
  obtain ⟨m, rfl⟩ : ∃ m, n = m + 1 := ⟨n - 1, by omega⟩
  simp only [shiftReg, Prod.mk.injEq, Nat.add_sub_cancel, pow_one, Nat.zero_mod, Nat.zero_add]
  refine ⟨by rw [Nat.mul_comm 2 v, Nat.mod_mul_mod], ?_⟩
  rw [Nat.pow_succ, Nat.mul_div_mul_right _ _ (by decide), Nat.mod_mul_right_div_self, Nat.mod_mod]

theorem tapDo_idcode (hir : s.sec.tap.ir = 1) (v : Nat) : s.tapDo (.shiftDr v 32) =
    s.setTap fun t => { t with dr := v % 2 ^ 32, out := 0x18412CB7 } := by
  simp only [State.tapDo, hir, if_true, shiftReg_idcode]

theorem tapDo_bypass (hir : s.sec.tap.ir = 0xFF) (hn : 1 ≤ n) (v : Nat) : s.tapDo (.shiftDr v n) =
    s.setTap fun t => { t with dr := v / 2 ^ (n - 1) % 2, out := 2 * v % 2 ^ n } := by
  have hbypass : ¬((0xFF : Nat) = 2 ∨ 0xFF = 3 ∨ 0xFF = 0x10 ∨ 0xFF = 0x11) := by decide
  simp only [State.tapDo, hir, if_neg hbypass, shiftReg_bypass hn]
  rfl

/-! ### Debug accesses to the scratch -/

theorem tapDo_debugWrite (hlevel : s.f Fld.LC_DEBUG_LEVEL 0 = 2) (hrec : s.recording = false) (hrep : s.replaying = false)
    (hlo : 0x120000000 ≤ a) (hhi : a + 4 ≤ 0x120200000) (hal : a % 4 = 0) :
    s.tapDo (.debugWrite a v) = (s.debugForced.writeSpanAs a (leBytes 4 (v % 2 ^ 32)) 0 .debug).2 := by
  have hloc : a % 2 ^ 48 = a := Nat.mod_eq_of_lt (by omega)
  have hword : a / 4 * 4 = a := by omega
  simp only [State.tapDo]
  rw [if_pos hlevel, State.hazard_of_idle hrec hrep, hloc, State.debugWrite, decodeAddr_scratch hlo (by omega)]
  simp only [hword]

theorem tapDo_debugRead (hlevel : 1 ≤ s.f Fld.LC_DEBUG_LEVEL 0) (hrec : s.recording = false) (hrep : s.replaying = false)
    (hlo : 0x120000000 ≤ a) (hhi : a + 4 ≤ 0x120200000) (hal : a % 4 = 0) :
    s.tapDo (.debugRead a) = (s.readSpan a 4 .debug).2.2.setTap fun t => { t with out := leNat (s.readSpan a 4 .debug).1 } := by
  have hloc : a % 2 ^ 48 = a := Nat.mod_eq_of_lt (by omega)
  have hword : a / 4 * 4 = a := by omega
  simp only [State.tapDo]
  rw [if_pos hlevel, State.hazard_of_idle hrec hrep, hloc, State.debugRead, decodeAddr_scratch hlo (by omega)]
  simp only [hword]

theorem getD_leBytes : ∀ (k n v : Nat), k < n → (leBytes n v).getD k 0 = BitVec.ofNat 8 (v / 256 ^ k)
  | _, 0, _, h => absurd h (by omega)
  | 0, n + 1, v, _ => by simp [leBytes]
  | k + 1, n + 1, v, h => by
    rw [leBytes, List.getD_cons_succ, getD_leBytes k n _ (by omega), Nat.div_div_eq_div_mul, Nat.pow_succ, Nat.mul_comm 256]

theorem ofNat_div_mod {k : Nat} (hk : k < 4) : BitVec.ofNat 8 (v % 2 ^ 32 / 256 ^ k) = BitVec.ofNat 8 (v / 256 ^ k) := by
  refine BitVec.eq_of_toNat_eq ?_
  rw [BitVec.toNat_ofNat, BitVec.toNat_ofNat]
  have : k = 0 ∨ k = 1 ∨ k = 2 ∨ k = 3 := by omega
  rcases this with rfl | rfl | rfl | rfl
  all_goals omega

/-- A word that lies in one row is read as that row stands. -/
theorem State.readSpan_word (ha : 2 ^ 32 ≤ a) (hal : a % 4 = 0) (who : Agent) :
    (s.readSpan a 4 who).1 = slice (s.decoded a).1 (a % 32) 4 := by
  have hone : (a + 4 - 1) / 32 - a / 32 + 1 = 0 + 1 := by omega
  have hat : wordAt a 4 0 = (a / 32 * 32, a % 32, 4) := by simp only [wordAt, Prod.mk.injEq]; omega
  have hdec : s.decoded (a / 32 * 32) = s.decoded a := by
    have hrow : a / 32 * 32 / 32 * 32 = a / 32 * 32 := by omega
    simp only [State.decoded, hrow]
  have hread := State.readWords_succ (who := who) (n := 4) s ha 0
  rw [hat, show s.readWords who a 4 0 = ([], 0, s) from rfl] at hread
  rw [State.readSpan_eq (by decide), hone]
  exact (congrArg Prod.fst hread).trans (congrArg (fun d : List Byte × Bool => slice d.1 (a % 32) 4) hdec)

end Sys2Proof.Machine

/-!
SUPPORT. What a test access leaves and what a shift or a debug access gives out (R373, R416); the obligation on security.
-/
namespace Sys2Proof.Machine
variable {s : State} {a v n : Nat} {h : CmdHdr}

/-! ### The test access port -/

theorem tapReset_clause (hf : s.tapFree) :
    ∃ u, exec (.tapAccess .reset) s = .next u ∧ u.sec.tap.ir = 1 ∧ u.sec.tap.dr = 0 ∧ u.regs = s.regs ∧ u.mem = s.mem :=
  ⟨_, exec_tapReset hf, rfl, rfl, rfl, rfl⟩

theorem shiftIr_clause (hf : s.tapFree) {code : Nat} (hcode : code < 256) : ∃ u, exec (.tapAccess (.shiftIr code)) s = .next u ∧
    u.sec.tap.ir = (if tapLevel code ≤ s.f Fld.LC_DEBUG_LEVEL 0 then code else 0xFF) ∧
    (s.recording = false → s.replaying = false → u.regs = s.regs ∧ u.mem = s.mem) := by
  have hdo := tapDo_shiftIr s hcode
  refine ⟨_, exec_tapAccess hf nofun ?_, ?_, fun hrec hrep => ?_⟩
  · rw [hdo]
    exact (congrArg (·.tap.q) (s.sec_irNoted code)).trans hf.q
  · rw [hdo]
    rfl
  · rw [hdo, State.irNoted_of_idle hrec hrep]
    exact ⟨rfl, rfl⟩

theorem idcode_clause (hf : s.tapFree) (hir : s.sec.tap.ir = 1) (v : Nat) : ∃ u, exec (.tapAccess (.shiftDr v 32)) s = .next u ∧
    u.sec.tap.out = 0x18412CB7 ∧ u.sec.tap.dr = v % 2 ^ 32 ∧ u.regs = s.regs := by
  have hdo := tapDo_idcode hir v
  refine ⟨_, exec_tapAccess hf nofun (by rw [hdo]; exact hf.q), ?_⟩
  rw [hdo]
  exact ⟨rfl, rfl, rfl⟩

theorem bypass_clause (hf : s.tapFree) (hir : s.sec.tap.ir = 0xFF) (hn : 1 ≤ n) (v : Nat) :
    ∃ u, exec (.tapAccess (.shiftDr v n)) s = .next u ∧ u.sec.tap.out = 2 * v % 2 ^ n ∧ u.sec.tap.dr = v / 2 ^ (n - 1) % 2 ∧
      u.regs = s.regs := by
  have hdo := tapDo_bypass hir hn v
  refine ⟨_, exec_tapAccess hf nofun (by rw [hdo]; exact hf.q), ?_⟩
  rw [hdo]
  exact ⟨rfl, rfl, rfl⟩

theorem locked_clause (hf : s.tapFree) (hlevel : s.f Fld.LC_DEBUG_LEVEL 0 = 0) (a v e : Nat) :
    exec (.tapAccess (.debugRead a)) s = .next s ∧ exec (.tapAccess (.debugWrite a v)) s = .next s ∧
      exec (.tapAccess (.debugHalt e)) s = .next s :=
  ⟨exec_tapAccess_stays hf nofun (if_neg (by omega)), exec_tapAccess_stays hf nofun (if_neg (by omega)),
    exec_tapAccess_stays hf nofun (if_neg (by omega))⟩

theorem debugWrite_clause (hc : s.canon) (hf : s.tapFree) (hlevel : s.f Fld.LC_DEBUG_LEVEL 0 = 2) (hlo : 0x120000000 ≤ a)
    (hhi : a + 4 ≤ 0x120200000) (hal : a % 4 = 0) (hrec : s.recording = false) (hrep : s.replaying = false) :
    ∃ u, exec (.tapAccess (.debugWrite a v)) s = .next u ∧ u.f Fld.EP_STATUS_DEBUG_FORCED 0 = 1 ∧
      (∀ k, k < 4 → u.byte (a + k) = BitVec.ofNat 8 (v / 256 ^ k)) ∧ ∀ x, x / 32 ≠ a / 32 → u.byte x = s.byte x := by
  have hdo := tapDo_debugWrite (v := v) hlevel hrec hrep hlo hhi hal
  have ha : 2 ^ 32 ≤ a := by omega
  have hlen : (leBytes 4 (v % 2 ^ 32)).length = 4 := rfl
  have hforced : s.debugForced.canon := State.canon_setF hc ..
  have hw := State.writeSpanAs_within (who := .debug) s.debugForced ha (d := leBytes 4 (v % 2 ^ 32)) (by rw [hlen]; decide) 0
  obtain ⟨hnew, hkeep⟩ := State.byte_writeSpanAs (who := .debug) hforced ha (d := leBytes 4 (v % 2 ^ 32)) (by rw [hlen]; decide) 0
  rw [hlen] at hnew hkeep
  refine ⟨_, exec_tapAccess hf nofun ?_, ?_⟩
  · rw [hdo, hw.same.sec rfl]
    exact hf.q
  · rw [hdo]
    refine ⟨?_, fun k hk => ?_, fun x hx => hkeep x (by omega)⟩
    · exact (hw.f hforced.regs 0).trans (State.f_setF_same hc.regs Fld.EP_STATUS_DEBUG_FORCED rfl 0 1)
    · rw [hnew k hk, getD_leBytes k 4 _ hk, ofNat_div_mod hk]

theorem debugRead_clause (hf : s.tapFree) (hlevel : 1 ≤ s.f Fld.LC_DEBUG_LEVEL 0) (hlo : 0x120000000 ≤ a) (hhi : a + 4 ≤ 0x120200000)
    (hal : a % 4 = 0) (hrec : s.recording = false) (hrep : s.replaying = false) :
    ∃ u, exec (.tapAccess (.debugRead a)) s = .next u ∧ u.sec.tap.out = leNat (slice (s.decoded a).1 (a % 32) 4) ∧
      ∀ x, x / 32 ≠ a / 32 → u.byte x = s.byte x := by
  have hdo := tapDo_debugRead hlevel hrec hrep hlo hhi hal
  have ha : 2 ^ 32 ≤ a := by omega
  have hw := (State.readSpan_within (who := .debug) s ha (n := 4) (by decide)).same
  refine ⟨_, exec_tapAccess hf nofun ?_, ?_, fun x _ => ?_⟩
  · rw [hdo]
    exact (congrArg (·.tap.q) (hw.sec rfl)).trans hf.q
  · rw [hdo]
    exact congrArg leNat (State.readSpan_word ha hal .debug)
  · rw [hdo]
    exact congrArg (mget (fun _ => (0 : Byte)) · x) (hw.mem rfl)

/-! ### Life cycle and debug access -/

/-- What LC_TRANSITION leaves once its checks let its source be read. -/
theorem lcTransition_read (hc : s.canon) (ht : s.tables) {target source len : Nat} (hlen : 0 < len) (hrange : s.rangeOk source len = true) :
    let e := transitionRow h target source len
    let u := (s.entered e).transitionRead h target source len
    let a := s.bytesAt (source % 2 ^ 48) len
    (decodeAddr (source % 2 ^ 48) ≠ .scratch → u.fuses = s.fuses) ∧
    (s.poisonedSource source len → u.spent ∧ u.fuses = s.fuses ∧ u.f Fld.LC_AUTH_FAIL_COUNT 0 = s.f Fld.LC_AUTH_FAIL_COUNT 0) ∧
    (s.cleanSource source len → u.spent ∧ (lcSlots s.fuses.lc target = none → u.fuses = s.fuses)) ∧
    (s.cleanSource source len → ∀ lo hi, lcSlots s.fuses.lc target = some (lo, hi) →
      let ok := (s.entered e).authOk a 1 target lo hi = true ∧ lcLength target len = true
      (¬ok → u.fuses = s.fuses ∧ (lcLength target len = true →
        u.f Fld.LC_AUTH_FAIL_COUNT 0 = min (s.f Fld.LC_AUTH_FAIL_COUNT 0 + 1) Fld.LC_AUTH_FAIL_COUNT.top)) ∧
      (ok → s.fuses.partTry = 0 → target ≠ 2 → u.fuses.lc = target ∧ u.boot.delayedReset = some 2 ∧
        (target = 4 → u.fuses.idKeys = false ∧ u.fuses.idSecret = 0 ∧ u.fuses.idSecret2 = 0) ∧ (target = 1 → u.fuses.idKeys = true) ∧
        (s.fuses.lc = 0 → u.fuses.portsOff = true) ∧ ∀ k, k < 32 → u.rgState k = 0 ∧ (u.enc k).txKey = none ∧ (u.enc k).rxKey = none)) := by
  intro e u a
  refine ⟨lcTransition_waiting hc hrange hlen, fun hpoison => lcTransition_poisoned hc hpoison hlen, fun hclean => ?_, fun hclean => ?_⟩
  · obtain ⟨hspent, hnone, -⟩ := lcTransition_clean hc ht.ranges hclean
    exact ⟨hspent, hnone⟩
  · obtain ⟨-, -, hsome⟩ := lcTransition_clean hc ht.ranges hclean
    exact hsome

/-- What DEBUG_ACCESS leaves once its checks let its grant be read. -/
theorem debugAccess_read (hc : s.canon) {level source len : Nat} (h0 : s.fuses.lc ≠ 0) (hlevel : level ≤ 2) (hlen : 0 < len)
    (hrange : s.rangeOk source len = true) :
    let e := debugRow h level source len
    let u := (s.entered e).grantRead h level source len
    let ok := (s.entered e).authOk (s.bytesAt (source % 2 ^ 48) len) 2 level (if s.fuses.lc = 2 then 4 else 0)
      (if s.fuses.lc = 2 then 7 else 3) = true
    (s.poisonedSource source len → u.spent ∧ u.f Fld.LC_DEBUG_LEVEL 0 = s.f Fld.LC_DEBUG_LEVEL 0 ∧
      u.f Fld.LC_AUTH_FAIL_COUNT 0 = s.f Fld.LC_AUTH_FAIL_COUNT 0) ∧
    (decodeAddr (source % 2 ^ 48) ≠ .scratch → u.f Fld.LC_DEBUG_LEVEL 0 = s.f Fld.LC_DEBUG_LEVEL 0) ∧
    (s.cleanSource source len → u.spent) ∧ (s.cleanSource source len → ok → u.f Fld.LC_DEBUG_LEVEL 0 = level) ∧
    (s.cleanSource source len → ¬ok → u.f Fld.LC_DEBUG_LEVEL 0 = s.f Fld.LC_DEBUG_LEVEL 0 ∧
      u.f Fld.LC_AUTH_FAIL_COUNT 0 = min (s.f Fld.LC_AUTH_FAIL_COUNT 0 + 1) Fld.LC_AUTH_FAIL_COUNT.top) := by
  intro e u ok
  have hdone (hclean : s.cleanSource source len) := debugAccess_clean (h := h) hc h0 hlevel hclean
  exact ⟨fun hpoison => debugAccess_poisoned hc h0 hpoison hlen, debugAccess_waiting hc hrange hlen, fun hclean => (hdone hclean).1,
    fun hclean => (hdone hclean).2.1, fun hclean => (hdone hclean).2.2⟩

/-- Settles O59: each command by its checks in order, then by the end of its read; each test access by what the port captures. -/
theorem securityCommandsAndTap : Obligations.SecurityCommandsAndTap := by
  unfold Obligations.SecurityCommandsAndTap
  intro s hc ht spent clean poisoned
  refine ⟨fun h curve dest ha => certRead_clause hc ha, fun h curve dest nonce ha => attest_clause hc ha, ?_, ?_, ?_, ?_⟩
  · intro h target source len e ha refused
    have href {st : Nat} := lcTransition_refused (h := h) (target := target) (source := source) (len := len) hc (st := st)
    refine ⟨fun hshed => href (lcTransition_shed hc ha hshed), fun hshed hshut => href (lcTransition_shutdown hc ha hshed hshut),
      fun hshed hshut => ⟨fun hbusy => href (lcTransition_busy hc ha hshed hshut hbusy),
        fun hfree hbad => href (lcTransition_badArg hc ha hshed hshut hfree hbad), fun hfree hlo hhi hrange => ?_⟩⟩
    exact ⟨_, lcTransition_runs hc ha hshed hshut hfree hlo hhi hrange, lcTransition_read hc ht (by omega) hrange⟩
  · intro h level source len e ha t
    refine ⟨debugAccess_badLevel ha, debugAccess_early ha, debugAccess_default ha, fun hstep hlo hhi => ?_⟩
    refine ⟨debugAccess_scrapped ha hstep hlo hhi, debugAccess_manufacture ha hstep hlo hhi, fun h0 h4 hbad => ?_,
      fun h0 h4 hlen hrange => ?_⟩
    · exact (debugAccess_grant hc ha hstep hlo hhi h0 h4).trans
        (congrArg Host.Outcome.next (if_pos (hbad.imp id fun hr => by rw [hr]; rfl)))
    · refine ⟨_, (debugAccess_grant hc ha hstep hlo hhi h0 h4).trans
        (congrArg Host.Outcome.next (if_neg (by rw [hrange]; simp [hlen]))), debugAccess_read hc h0 hhi (by omega) hrange⟩
  · exact fun op => ⟨fun hpor => congrArg Host.Outcome.next (if_pos hpor),
      fun hpor hst hop => ⟨_, exec_tapAccess_waits hpor hst hop, rfl, rfl, rfl⟩⟩
  · intro hpor hst hbusy hq level
    have hf : s.tapFree := ⟨hpor, hst, hbusy, hq⟩
    exact ⟨tapReset_clause hf, fun code hcode => shiftIr_clause hf hcode, fun v hir => idcode_clause hf hir v,
      fun v n hir hn => bypass_clause hf hir hn v, fun hlevel a v e => locked_clause hf hlevel a v e,
      fun a v hlevel => exec_tapAccess_stays hf nofun (if_neg hlevel),
      fun a v hlevel hlo hhi hal hrec hrep => debugWrite_clause hc hf hlevel hlo hhi hal hrec hrep,
      fun a hlevel hlo hhi hal hrec hrep => debugRead_clause hf hlevel hlo hhi hal hrec hrep⟩

end Sys2Proof.Machine

/-!
SUPPORT. The tables inside the units in canonical form, unit by unit, and the primitive changes that leave them so.
-/
namespace Sys2Proof.Machine

/-! ### Unit by unit -/

structure Plane.inner (p : Plane) : Prop where
  slots : mwf (fun _ => Slot.free) p.slots = true
  mults : mwf (fun _ => ({} : MultReg)) p.mults = true

structure Room.inner (r : Room) : Prop where
  planes : mwf (fun _ => ({} : Plane)) r.planes = true
  plane : ∀ p, (r.plane p).inner

structure Bank.inner (b : Bank) : Prop where
  spares : mwf (fun _ => (0, 0)) b.spares = true

structure Arb.inner (a : Arb) : Prop where
  last : mwf (fun _ => 5) a.last = true

structure Net.inner (n : Net) : Prop where
  bufs : mwf (fun _ => []) n.bufs = true
  send : mwf (fun _ => []) n.send = true
  books : mwf bookDefault n.books = true
  arbs : mwf (fun _ => ({} : Arb)) n.arbs = true
  arb : ∀ i, (mget (fun _ => ({} : Arb)) n.arbs i).inner
  outReq : mwf (fun _ => none) n.outReq = true
  posts : mwf (fun _ => []) n.posts = true

structure Mail.inner (m : Mail) : Prop where
  rsp : mwf (fun _ => []) m.rsp = true
  evq : mwf (fun _ => []) m.evq = true
  part : mwf (fun _ => []) m.part = true
  partKind : mwf (fun _ => 0) m.partKind = true
  causes : mwf (fun _ => 0) m.causes = true
  seq8 : mwf (fun _ => 0) m.seq8 = true
  bells : mwf (fun _ => []) m.bells = true

structure Pipe.inner (p : Pipe) : Prop where
  ready : mwf (fun _ => []) p.ready = true

structure Sched.inner (q : Sched) : Prop where
  descs : mwf (fun _ => ({} : Desc)) q.descs = true
  mtab : mwf (fun _ => 0) q.mtab = true
  flows : mwf (fun _ => ({} : Flow)) q.flows = true
  groups : mwf (fun _ => ({} : Grp)) q.groups = true
  delays : mwf (fun _ => ({} : DelayList)) q.delays = true
  pipes : mwf (fun _ => ({} : Pipe)) q.pipes = true
  pipe : ∀ p, (mget (fun _ => ({} : Pipe)) q.pipes p).inner
  use : mwf (fun _ => 0) q.use = true
  tokPkt : mwf (fun _ => none) q.tokPkt = true
  mways : mwf (fun _ => 0) q.mways = true
  wantSwitch : mwf (fun _ => []) q.wantSwitch = true

structure Eng.inner (g : Eng) : Prop where
  d : mwf (fun _ => 0) g.d = true
  a : mwf (fun _ => 0) g.a = true
  ptr : mwf (fun _ => 0) g.ptr = true
  mod : mwf (fun _ => 0) g.mod = true
  len : mwf (fun _ => 0) g.len = true
  tags : mwf (fun _ => ({} : EngTag)) g.tags = true

structure Link.inner (l : Link) : Prop where
  rxStream : mwf (fun _ => []) l.rxStream = true
  rxEnts : mwf (fun _ => []) l.rxEnts = true
  txQ : mwf (fun _ => []) l.txQ = true
  badFrames : mwf (fun _ => 0) l.badFrames = true
  replays : mwf (fun _ => 0) l.replays = true
  carriedCr : mwf (fun _ => zero4) l.carriedCr = true

structure Crypto.inner (c : Crypto) : Prop where
  ranges : mwf (fun _ => ({} : CrRange)) c.ranges = true
  reqs : mwf (fun _ => none) c.reqs = true
  jobs : mwf (fun _ => none) c.jobs = true

structure Mowing.inner (m : Mowing) : Prop where
  planeRow : mwf (fun _ => 0) m.planeRow = true
  scrubs : mwf (fun _ => 0) m.scrubs = true

structure Clk.inner (c : Clk) : Prop where
  gating : mwf (fun _ => 0) c.gating = true
structure Pow.inner (p : Pow) : Prop where
  lifeUs : mwf (fun _ => 0) p.lifeUs = true
structure Fuses.inner (q : Fuses) : Prop where
  keyHash : mwf (fun _ => 0) q.keyHash = true
structure Journal.inner (j : Journal) : Prop where
  settings : mwf (fun _ => (0, 0)) j.settings = true

/-- The tables of units and the tables inside the units are in canonical form. -/
structure State.inner (s : State) : Prop where
  rooms : mwf (fun _ => ({} : Room)) s.rooms = true
  banks : mwf (fun _ => ({} : Bank)) s.banks = true
  engs : mwf (fun _ => ({} : Eng)) s.engs = true
  links : mwf (fun _ => ({} : Link)) s.links = true
  room : ∀ n, (s.room n).inner
  bank : ∀ n, (s.bank n).inner
  eng : ∀ n, (s.eng n).inner
  link : ∀ n, (s.link n).inner
  svc : mwf (fun _ => none) s.svc = true
  net : s.net.inner
  mail : s.mail.inner
  sched : s.sched.inner
  crypto : s.crypto.inner
  mow : s.mow.inner
  clk : s.clk.inner
  pow : s.pow.inner
  fuses : s.fuses.inner
  journal : s.journal.inner
  latch : mwf (fun _ => (0 : Word)) s.latch = true
  staged : mwf (fun _ => none) s.staged = true
  snapshot : mwf (fun _ => none) s.snapshot = true

variable {s t : State}

theorem State.inner_of_tables (hc : s.canon) (h : s.tables) : s.inner where
  rooms := hc.rooms
  banks := hc.banks
  engs := hc.engs
  links := hc.links
  room n := ⟨h.planes n, fun p => ⟨h.slots n p, h.mults n p⟩⟩
  bank n := ⟨h.spares n⟩
  eng n := ⟨h.d n, h.a n, h.ptr n, h.mod n, h.len n, h.tags n⟩
  link n := ⟨h.rxStream n, h.rxEnts n, h.txQ n, h.badFrames n, h.replays n, h.carriedCr n⟩
  svc := h.svc
  net := { h with arb := fun i => ⟨h.arbLast i⟩ }
  mail := { h with }
  sched := { h with pipe := fun p => ⟨h.ready p⟩ }
  crypto := { h with }
  mow := { h with }
  clk := { h with }
  pow := { h with }
  fuses := { h with }
  journal := { h with }
  latch := h.latch
  staged := h.staged
  snapshot := h.snapshot

theorem State.inner.tables (h : s.inner) : s.tables :=
  { h.net, h.mail, h.sched, h.crypto, h.mow, h.clk, h.pow, h.fuses, h.journal, h with
    planes := fun n => (h.room n).planes
    slots := fun n p => ((h.room n).plane p).slots
    mults := fun n p => ((h.room n).plane p).mults
    spares := fun n => (h.bank n).spares
    arbLast := fun i => (h.net.arb i).last
    ready := fun p => (h.sched.pipe p).ready
    d := fun e => (h.eng e).d
    a := fun e => (h.eng e).a
    ptr := fun e => (h.eng e).ptr
    mod := fun e => (h.eng e).mod
    len := fun e => (h.eng e).len
    tags := fun e => (h.eng e).tags
    rxStream := fun k => (h.link k).rxStream
    rxEnts := fun k => (h.link k).rxEnts
    txQ := fun k => (h.link k).txQ
    badFrames := fun k => (h.link k).badFrames
    replays := fun k => (h.link k).replays
    carriedCr := fun k => (h.link k).carriedCr }

/-! ### Primitive changes -/

/-- The kinds of change that meet no table of a unit. -/
abbrev plainMask : Nat := 0xffffffffffffffffffffffffffffffffffffffffffffffffffffffffffffffffffffffffffffffffffff540623

theorem not_plain {b : Nat} {Q : Prop} (i : plainMask.testBit b = true) (h : plainMask.testBit b = false := by rfl) : Q :=
  nomatch i.symm.trans h

theorem clo_inner : Clo plainMask State.inner where
  wr := fun {_} _ {_ _ _} k => { k with }
  setTab := fun _ {_} _ _ _ k => { k with }
  setRaw := fun _ {_} _ _ k => { k with }
  dropRegs := fun _ {_} _ _ k => { k with }
  latch := fun i => not_plain i
  odClear := fun _ {_} _ k => { k with }
  drawn := fun _ {_} k => { k with }
  staged := fun i => not_plain i
  snapshot := fun i => not_plain i
  commit := fun i => not_plain i
  epoch := fun i => not_plain i
  enumer := fun i => not_plain i
  mail := fun i => not_plain i
  net := fun i => not_plain i
  replay := fun _ {_} _ k => { k with }
  updRoom := fun i => not_plain i
  updStair := fun i => not_plain i
  mow := fun i => not_plain i
  updBank := fun i => not_plain i
  svc := fun i => not_plain i
  svcNext := fun i => not_plain i
  ecLog := fun _ {_} _ k => { k with }
  setByte := fun _ {_} _ _ k => { k with }
  setSyn := fun _ {_} _ _ k => { k with }
  wipe := fun _ {_} _ _ k => { k with }
  sched := fun i => not_plain i
  updEng := fun i => not_plain i
  updLink := fun i => not_plain i
  linkPut := fun i => not_plain i
  crypto := fun i => not_plain i
  clk := fun i => not_plain i
  pow := fun i => not_plain i
  boot := fun i => not_plain i
  sec := fun i => not_plain i
  journal := fun i => not_plain i
  fuses := fun i => not_plain i
  program := fun _ {_} _ _ k => { k with }
  eraseFlash := fun _ {_} _ _ k => { k with }
  powerOn := fun i => not_plain i
  stackReset := fun i => not_plain i

end Sys2Proof.Machine

/-!
SUPPORT. Changes of one unit that leave its tables in canonical form leave those of all units so.
-/
namespace Sys2Proof.Machine
variable {s : State} {n : Nat}

section units
theorem State.updRoom_inner {g : Room → Room} (hg : ∀ r, r.inner → (g r).inner) (k : s.inner) : (s.updRoom n g).inner :=
  { k with
    rooms := mwf_mupd _ _ k.rooms
    room := fun j => by
      rw [State.room_updRoom k.rooms]
      exact ite_p (fun _ => hg _ (k.room n)) fun _ => k.room j }

theorem State.updBank_inner {g : Bank → Bank} (hg : ∀ b, b.inner → (g b).inner) (k : s.inner) : (s.updBank n g).inner :=
  { k with
    banks := mwf_mupd _ _ k.banks
    bank := fun j => by
      rw [State.bank_updBank k.banks]
      exact ite_p (fun _ => hg _ (k.bank n)) fun _ => k.bank j }

theorem State.updEng_inner {g : Eng → Eng} (hg : ∀ e, e.inner → (g e).inner) (k : s.inner) : (s.updEng n g).inner :=
  { k with
    engs := mwf_mupd _ _ k.engs
    eng := fun j => by
      rw [State.eng_updEng k.engs]
      exact ite_p (fun _ => hg _ (k.eng n)) fun _ => k.eng j }

theorem State.updLink_inner {g : Link → Link} (hg : ∀ l, l.inner → (g l).inner) (k : s.inner) : (s.updLink n g).inner :=
  { k with
    links := mwf_mupd _ _ k.links
    link := fun j => by
      rw [State.link_updLink k.links]
      exact ite_p (fun _ => hg _ (k.link n)) fun _ => k.link j }

theorem State.updStair_inner {g : Stair → Stair} (k : s.inner) : (s.updStair n g).inner := { k with }
end units

/-! ### Room planes, pipes, arbiters -/

theorem Room.updPlane_inner {r : Room} {p : Nat} {g : Plane → Plane} (hg : ∀ q, q.inner → (g q).inner) (k : r.inner) :
    (r.updPlane p g).inner where
  planes := mwf_mupd _ _ k.planes
  plane j := by
    rw [Room.plane, Room.updPlane, mupd, mget_mput _ _ _ k.planes]
    exact ite_p (fun _ => hg _ (k.plane p)) fun _ => k.plane j

theorem State.updPlane_inner {p : Nat} {g : Plane → Plane} (hg : ∀ q, q.inner → (g q).inner) (k : s.inner) :
    (s.updPlane n p g).inner := State.updRoom_inner (fun _ => Room.updPlane_inner hg) k

theorem Plane.inner.default : ({} : Plane).inner := ⟨rfl, rfl⟩
theorem Link.inner.default : ({} : Link).inner := ⟨rfl, rfl, rfl, rfl, rfl, rfl⟩
theorem Pipe.inner.default : ({} : Pipe).inner := ⟨rfl⟩
theorem Arb.inner.default : ({} : Arb).inner := ⟨rfl⟩

/-! ### Whole parts -/

section parts
theorem State.updNet_inner {g : Net → Net} (hg : ∀ v, v.inner → (g v).inner) (k : s.inner) : (s.updNet g).inner :=
  { k with net := hg _ k.net }
theorem State.updMail_inner {g : Mail → Mail} (hg : ∀ v, v.inner → (g v).inner) (k : s.inner) : (s.updMail g).inner :=
  { k with mail := hg _ k.mail }
theorem State.updSched_inner {g : Sched → Sched} (hg : ∀ v, v.inner → (g v).inner) (k : s.inner) : (s.updSched g).inner :=
  { k with sched := hg _ k.sched }
theorem State.updCr_inner {g : Crypto → Crypto} (hg : ∀ v, v.inner → (g v).inner) (k : s.inner) : (s.updCr g).inner :=
  { k with crypto := hg _ k.crypto }
theorem State.updMow_inner {g : Mowing → Mowing} (hg : ∀ v, v.inner → (g v).inner) (k : s.inner) : (s.updMow g).inner :=
  { k with mow := hg _ k.mow }
theorem State.updClk_inner {g : Clk → Clk} (hg : ∀ v, v.inner → (g v).inner) (k : s.inner) : (s.updClk g).inner :=
  { k with clk := hg _ k.clk }
theorem State.updPow_inner {g : Pow → Pow} (hg : ∀ v, v.inner → (g v).inner) (k : s.inner) : (s.updPow g).inner :=
  { k with pow := hg _ k.pow }
theorem State.updJ_inner {g : Journal → Journal} (hg : ∀ v, v.inner → (g v).inner) (k : s.inner) : (s.updJ g).inner :=
  { k with journal := hg _ k.journal }
theorem State.updFuses_inner {g : Fuses → Fuses} (hg : ∀ v, v.inner → (g v).inner) (k : s.inner) : (s.updFuses g).inner :=
  { k with fuses := hg _ k.fuses }
theorem State.updBoot_inner {g : Boot → Boot} (k : s.inner) : (s.updBoot g).inner := { k with }
theorem State.updSec_inner {g : Sec → Sec} (k : s.inner) : (s.updSec g).inner := { k with }
theorem inner_mow {v : Mowing} (hv : s.mow.inner → v.inner) (k : s.inner) : ({ s with mow := v } : State).inner :=
  { k with mow := hv k.mow }
theorem inner_journal {v : Journal} (hv : s.journal.inner → v.inner) (k : s.inner) : ({ s with journal := v } : State).inner :=
  { k with journal := hv k.journal }
theorem inner_svc {v : SMap (Option SvcReq)} (hv : mwf (fun _ => none) s.svc = true → mwf (fun _ => none) v = true) (k : s.inner) :
    ({ s with svc := v } : State).inner := { k with svc := hv k.svc }
theorem inner_latch {v : SMap Word} (hv : mwf (fun _ => (0 : Word)) s.latch = true → mwf (fun _ => (0 : Word)) v = true) (k : s.inner) :
    ({ s with latch := v } : State).inner := { k with latch := hv k.latch }
theorem inner_staged {v : SMap (Option Word)} (hv : s.inner → mwf (fun _ => none) v = true) (k : s.inner) :
    ({ s with staged := v } : State).inner := { k with staged := hv k }
theorem inner_snapshot {v : SMap (Option Word)} (hv : s.inner → mwf (fun _ => none) v = true) (k : s.inner) :
    ({ s with snapshot := v } : State).inner := { k with snapshot := hv k }
theorem inner_commit {v : Option Commit} (k : s.inner) : ({ s with commit := v } : State).inner := { k with }
theorem inner_enumer {v : Option Enumer} (k : s.inner) : ({ s with enumer := v } : State).inner := { k with }
theorem inner_epoch {v : Nat} (k : s.inner) : ({ s with epoch := v } : State).inner := { k with }
theorem inner_svcNext {v : Nat} (k : s.inner) : ({ s with svcNext := v } : State).inner := { k with }
end parts

theorem State.inner_reset : State.reset.inner := State.inner_of_tables State.canon_reset State.tables_reset

theorem State.powerOn_inner (k : s.inner) : s.powerOn.inner := { State.inner_reset with fuses := k.fuses }

theorem State.stackReset_inner (k : s.inner) : s.stackReset.inner := by
  refine clo_inner.setF rfl (clo_inner.setF rfl (clo_inner.setF rfl (clo_inner.setF rfl ?_)))
  exact { State.inner_reset with fuses := k.fuses, clk := ⟨rfl⟩, pow := ⟨rfl⟩ }

end Sys2Proof.Machine

/-!
SUPPORT. Tables inside the units after the operations that are stated on one unit: engines, mailbox, journal, arbiters, planes.
-/
namespace Sys2Proof.Machine

/-! ### Tables mapped entry by entry -/

section tables
variable {α : Type} [DecidableEq α] {d : Nat → α}

theorem mwfFrom_mmapv {f : Nat → α → α} : ∀ {m : SMap α} {lo : Nat}, mwfFrom d lo m = true → mwfFrom d lo (mmapv d f m) = true
  | [], _, _ => rfl
  | (k, v) :: t, lo, h => by
    simp only [mwfFrom, Bool.and_eq_true, decide_eq_true_eq] at h
    obtain ⟨⟨hlo, -⟩, ht⟩ := h
    have htail := mwfFrom_mmapv (f := f) ht
    by_cases hv : f k v = d k
    · have hdrop : mmapv d f ((k, v) :: t) = mmapv d f t := by simp [mmapv, hv]
      rw [hdrop]
      exact mwfFrom_mono (by omega) htail
    · have hkeep : mmapv d f ((k, v) :: t) = (k, f k v) :: mmapv d f t := by simp [mmapv, hv]
      rw [hkeep]
      simp only [mwfFrom, Bool.and_eq_true, decide_eq_true_eq]
      exact ⟨⟨hlo, hv⟩, htail⟩
theorem mwf_mmapv {f : Nat → α → α} {m : SMap α} (h : mwf d m = true) : mwf d (mmapv d f m) = true := mwfFrom_mmapv h

/-- A map of the values that gives no default keeps the canonical form. -/
theorem mwfFrom_map {f : Nat × α → Nat × α} (hkey : ∀ e, (f e).1 = e.1) (hval : ∀ e, e.2 ≠ d e.1 → (f e).2 ≠ d e.1) :
    ∀ {m : SMap α} {lo : Nat}, mwfFrom d lo m = true → mwfFrom d lo (m.map f) = true
  | [], _, _ => rfl
  | e :: t, lo, h => by
    simp only [mwfFrom, Bool.and_eq_true, decide_eq_true_eq] at h
    simp only [List.map_cons, mwfFrom, Bool.and_eq_true, decide_eq_true_eq, hkey]
    exact ⟨⟨h.1.1, hval e h.1.2⟩, mwfFrom_map hkey hval h.2⟩

/-- Values mapped, and those dropped that are the default then. -/
theorem mwfFrom_map_filter {f : Nat × α → Nat × α} {p : Nat × α → Bool} (hkey : ∀ e, (f e).1 = e.1)
    (hval : ∀ e, p e = true → e.2 ≠ d e.1) :
    ∀ {m : SMap α} {lo : Nat}, mwfFrom d lo m = true → mwfFrom d lo ((m.map f).filter p) = true
  | [], _, _ => rfl
  | e :: t, lo, h => by
    simp only [mwfFrom, Bool.and_eq_true, decide_eq_true_eq] at h
    have htail := mwfFrom_map_filter (f := f) hkey hval h.2
    rw [List.map_cons, List.filter_cons]
    split
    next hp =>
      have hne := hval _ hp
      rw [hkey] at hne
      simp only [mwfFrom, Bool.and_eq_true, decide_eq_true_eq, hkey]
      exact ⟨⟨h.1.1, hne⟩, htail⟩
    next => exact mwfFrom_mono (by omega) htail

theorem mwf_foldl_mput {β : Type} {k : β → Nat} {v : β → α} {l : List β} {m : SMap α} (h : mwf d m = true) :
    mwf d (l.foldl (fun m x => mput d m (k x) (v x)) m) = true :=
  foldl_p (Q := fun m => mwf d m = true) (fun _ _ hm => mwf_mput _ _ hm) h

/-- Entries put in where no entry is listed. -/
theorem mwf_fill {l : SMap α} {m : SMap α} (h : mwf d m = true) :
    mwf d (l.foldl (fun m e => if mhas m e.1 then m else mput d m e.1 e.2) m) = true :=
  foldl_p (Q := fun m => mwf d m = true) (fun _ _ hm => ite_p (Q := fun m => mwf d m = true) (fun _ => hm) fun _ => mwf_mput _ _ hm) h
end tables

/-! ### Planes -/

/-- Tags that are retired stay listed. -/
theorem mwf_retire {m : SMap Slot} (h : mwf (fun _ => Slot.free) m = true) :
    mwf (fun _ => Slot.free) (m.map fun e => match e.2 with | .waiting _ => (e.1, .waiting true) | _ => e) = true := by
  refine mwfFrom_map (fun e => ?_) (fun e he => ?_) h
  · split <;> rfl
  · split
    · exact Slot.noConfusion
    · exact he

/-- A map of the planes that leaves their tables and the plane of a fresh room. -/
theorem Room.mapPlanes_inner {r : Room} {f : Plane → Plane} (hdefault : f {} = {}) (hf : ∀ p, p.inner → (f p).inner) (h : r.inner) :
    ({ r with planes := mmapv (fun _ => ({} : Plane)) (fun _ => f) r.planes } : Room).inner where
  planes := mwf_mmapv (f := fun _ => f) h.planes
  plane p := by
    rw [Room.plane, mget_mmapv (fun _ => hdefault) p h.planes]
    exact hf _ (h.plane p)

theorem Sched.inner.default : ({} : Sched).inner :=
  ⟨rfl, rfl, rfl, rfl, rfl, rfl, fun _ => Pipe.inner.default, rfl, rfl, rfl, rfl⟩
theorem Room.inner.default : ({} : Room).inner := ⟨rfl, fun _ => Plane.inner.default⟩

/-! ### Engines -/

theorem Eng.inner.default : ({} : Eng).inner := ⟨rfl, rfl, rfl, rfl, rfl, rfl⟩

section engines
variable {g : Eng}
theorem Eng.setD_inner {k v : Nat} {p : Bool} (h : g.inner) : (g.setD k v p).inner := { h with d := mwf_mput _ _ h.d }
theorem Eng.setA_inner {k : Nat} {v : Int} {p : Bool} (h : g.inner) : (g.setA k v p).inner := { h with a := mwf_mput _ _ h.a }
theorem Eng.setPtr_inner {k v : Nat} (h : g.inner) : (g.setPtr k v).inner := { h with ptr := mwf_mput _ _ h.ptr }
theorem Eng.setMod_inner {k v : Nat} (h : g.inner) : (g.setMod k v).inner := { h with mod := mwf_mput _ _ h.mod }
theorem Eng.setLen_inner {k v : Nat} (h : g.inner) : (g.setLen k v).inner := { h with len := mwf_mput _ _ h.len }
theorem Eng.setTag_inner {t : Nat} {x : EngTag} (h : g.inner) : (g.setTag t x).inner := { h with tags := mwf_mput _ _ h.tags }
theorem Eng.stepPtrs_inner {l : List Nat} (h : g.inner) : (l.foldl Eng.stepPtr g).inner :=
  foldl_p (fun _ _ hg => Eng.setPtr_inner hg) h
theorem Eng.clear_inner {p : Nat × EngTag → Bool} (h : g.inner) :
    ({ g with d := [], a := [], ptr := [], mod := [], len := [], tags := g.tags.filter p } : Eng).inner :=
  ⟨rfl, rfl, rfl, rfl, rfl, mwf_filter _ h.tags⟩
end engines

/-! ### Links -/

/-- Two changes of a link, of which the second leaves tables in canonical form. -/
theorem State.updLink_twice_inner {s : State} {n : Nat} {g g' : Link → Link} (hg : ∀ l, l.inner → (g' (g l)).inner) (k : s.inner) :
    ((s.updLink n g).updLink n g').inner :=
  { k with
    links := mwf_mupd _ _ (mwf_mupd _ _ k.links)
    link := fun j => by
      rw [State.link_updLink (mwf_mupd _ _ k.links), State.link_updLink k.links, State.link_updLink k.links, if_pos rfl]
      refine ite_p (fun _ => hg _ (k.link n)) fun hj => ?_
      rw [if_neg hj]
      exact k.link j }

/-- Packets of which a part has left go, and so do the queues that they leave empty. -/
theorem mwf_unsent {m : SMap (List TxPkt)} (h : mwf (fun _ => []) m = true) : mwf (fun _ => ([] : List TxPkt))
    ((m.map fun e => (e.1, e.2.filter fun t => t.left == t.pkt.wireSize)).filter fun e => !e.2.isEmpty) = true :=
  mwfFrom_map_filter (α := List TxPkt) (f := fun e => (e.1, e.2.filter fun t => t.left == t.pkt.wireSize)) (p := fun e => !e.2.isEmpty) (fun _ => rfl)
    (fun e he h0 => by rw [h0] at he; exact Bool.noConfusion he) h

theorem Link.rxScr_inner {l : Link} {v : Nat} (h : l.inner) : ({ l with rxScr := v } : Link).inner := { h with }

/-! ### Mailbox and journal -/

theorem Mail.sendBlock_inner {m : Mail} {port kind : Nat} {b : List Byte} (h : m.inner) : (m.sendBlock port kind b).inner :=
  { h with seq8 := mwf_mput _ _ h.seq8 }

theorem Journal.apply_inner {j : Journal} {type : Nat} {p : List Byte} (h : j.inner) : (j.apply type p).inner := by
  unfold Journal.apply
  extract_lets at'
  split
  · exact { h with settings := mwf_mput _ _ h.settings }
  · exact ite_p (fun _ => { h with settings := rfl }) fun _ => { h with settings := mwf_mdel _ h.settings }
  all_goals exact { h with }

/-- The live state that a scan of an area ends with. -/
theorem scanArea_inner {flash : Nat → Nat → List Byte} {base : Nat} : ∀ (fuel : Nat) {held live : Journal} {seq off : Nat},
    held.inner → live.inner → (scanArea flash base fuel held live seq off).1.inner
  | 0, _, _, _, _, _, hlive => hlive
  | fuel + 1, held, live, seq, off, hheld, hlive => by
    rw [scanArea]
    refine ite_p (Q := fun x : Journal × Nat × Nat => x.1.inner) (fun _ => hlive) fun _ => ?_
    refine ite_p (Q := fun x : Journal × Nat × Nat => x.1.inner) (fun _ => hlive) fun _ => ?_
    exact scanArea_inner fuel (Journal.apply_inner hheld) (ite_p (fun _ => Journal.apply_inner hheld) fun _ => hlive)

/-! ### Arbiters -/

theorem State.chooseVc_arb {s : State} {r out : Nat} : ∀ (fuel : Nat) {a : Arb}, a.inner →
    OptP (FstP Arb.inner) (s.chooseVc r out fuel a)
  | 0, _, _ => trivial
  | fuel + 1, a, h => by
    rw [State.chooseVc]
    extract_lets v w
    refine ite_p (fun _ => State.chooseVc_arb fuel ⟨h.last⟩) fun _ => ?_
    split
    · exact State.chooseVc_arb fuel ⟨h.last⟩
    · exact ⟨mwf_mput _ _ h.last⟩

theorem Net.putArb_inner {n : Net} {i : Nat} {a : Arb} (ha : a.inner) (h : n.inner) :
    ({ n with arbs := mput (fun _ => ({} : Arb)) n.arbs i a } : Net).inner :=
  { h with
    arbs := mwf_mput _ _ h.arbs
    arb := fun j => by
      rw [mget_mput _ _ _ h.arbs]
      exact ite_p (fun _ => ha) fun _ => h.arb j }

theorem Sched.updPipe_inner {q : Sched} {i : Nat} {g : Pipe → Pipe} (hg : ∀ p, p.inner → (g p).inner) (h : q.inner) :
    ({ q with pipes := mupd (fun _ => ({} : Pipe)) q.pipes i g } : Sched).inner :=
  { h with
    pipes := mwf_mupd _ _ h.pipes
    pipe := fun j => by
      rw [mupd, mget_mput _ _ _ h.pipes]
      exact ite_p (fun _ => hg _ (h.pipe i)) fun _ => h.pipe j }

theorem State.updPipe_inner {s : State} {i : Nat} {g : Pipe → Pipe} (hg : ∀ p, p.inner → (g p).inner) (k : s.inner) :
    (s.updPipe i g).inner := State.updSched_inner (fun _ => Sched.updPipe_inner hg) k

theorem Pipe.setList_inner {p : Pipe} {prio : Nat} {l : List Nat} (h : p.inner) : (p.setList prio l).inner := ⟨mwf_mput _ _ h.ready⟩

end Sys2Proof.Machine

/-!
SUPPORT. What each operation of Laws/InvRoom leaves of the tables inside the units: one lemma per definition.
-/
namespace Sys2Proof.Machine


/-! ### Mem -/

theorem State.noteWord_inner {v0} {v1} {v2} (k0 : State.inner v0) : State.inner (State.noteWord v0 v1 v2) := by
  unfold State.noteWord
  extract_lets +onlyGivenNames -merge x1 x2 x3
  have h4 : ∀ a0 a1, State.inner a0 → State.inner (x3 a0 a1) := by
    intro a6 a7 h5
    unfold x3
    exact (State.logEc_inv (clo_inner.mono rfl) (clo_inner.inc rfl (inner_mow (fun h => { h with }) h5)))
  clear_value x1 x2 x3
  split
  ·
    rename_i y8 y9
    exact k0
  ·
    rename_i y10 y11
    exact k0
  ·
    rename_i y12 y13
    exact (h4 _ _ k0)
  ·
    rename_i y14 y15 y16
    exact (h4 _ _ k0)
  ·
    rename_i y17 y18
    exact (State.hazard_inv (clo_inner.mono rfl) (State.logEc_inv (clo_inner.mono rfl) (clo_inner.inc rfl k0)))
theorem State.readWord_inner {v0} {v1} (k0 : State.inner v0) : (SndP (SndP State.inner)) (State.readWord v0 v1) := by
  unfold State.readWord
  extract_lets +onlyGivenNames -merge x1
  clear_value x1
  split
  ·
    rename_i y2 y3 y4 y5
    exact (mk_snd (mk_snd (State.noteWord_inner k0)))
theorem State.writeWord_inner {v0} {v1} {v2} {v3} {v4} (k0 : State.inner v0) : (FstP State.inner) (State.writeWord v0 v1 v2 v3 v4) := by
  unfold State.writeWord
  extract_lets +onlyGivenNames -merge x1
  clear_value x1
  refine ite_p (fun _ => ?_) (fun _ => ?_)
  ·
    extract_lets +onlyGivenNames -merge x2
    have h3 : State.inner x2 := by unfold x2; exact (clo_inner.setSyn rfl _ _ (State.putBytes_inv (clo_inner.mono rfl) k0))
    clear_value x2
    exact (ite_p (fun _ => (mk_fst (State.storePoison_inv (clo_inner.mono rfl) h3))) (fun _ => (mk_fst h3)))
  ·
    split
    ·
      rename_i y4 y5 y6 y7
      extract_lets +onlyGivenNames -merge x8 x10
      have h9 : State.inner x8 := by unfold x8; exact (State.noteWord_inner k0)
      have h11 : State.inner x10 := by unfold x10; exact (clo_inner.setSyn rfl _ _ (State.putBytes_inv (clo_inner.mono rfl) h9))
      clear_value x8 x10
      exact (ite_p (fun _ => (mk_fst (State.storePoison_inv (clo_inner.mono rfl) h11))) (fun _ => (mk_fst h11)))
theorem State.rowRead_inner {v0} {v1} (k0 : State.inner v0) : (SndP (SndP State.inner)) (State.rowRead v0 v1) := by
  unfold State.rowRead
  refine foldl_p ?_ (mk_snd (mk_snd k0))
  intro a4 a5 h3
  split
  ·
    rename_i y6 y7 y8 y9 y10
    have q12 := congr_p (Q := (SndP (SndP State.inner))) y10 (by
        exact (State.readWord_inner (snd_p (snd_p h3)))
      )
    have h11 : State.inner y9 := q12
    exact (mk_snd (mk_snd h11))
theorem State.rowWrite_inner {v0} {v1} {v2} {v3} (k0 : State.inner v0) : State.inner (State.rowWrite v0 v1 v2 v3) := by
  unfold State.rowWrite
  exact (State.each_inv (clo_inner.mono rfl) k0 (fun _ _ h1 => (fst_p (State.writeWord_inner h1))))
theorem State.inject_inner {v0} {v1} {v2} (k0 : State.inner v0) : State.inner (State.inject v0 v1 v2) := by
  unfold State.inject
  exact (State.updNet_inner (fun _ h => { h with send := mwf_mput _ _ h.send }) k0)
theorem State.setOut_inner {v0} {v1} {v2} (k0 : State.inner v0) : State.inner (State.setOut v0 v1 v2) := by
  unfold State.setOut
  exact (State.updNet_inner (fun _ h => { h with outReq := mwf_mput _ _ h.outReq }) k0)
theorem State.request_inner {v0} {v1} {v2} (k0 : State.inner v0) : State.inner (State.request v0 v1 v2) := by
  unfold State.request
  exact (State.inject_inner (State.setOut_inner k0))
theorem State.setPosts_inner {v0} {v1} {v2} (k0 : State.inner v0) : State.inner (State.setPosts v0 v1 v2) := by
  unfold State.setPosts
  exact (State.updNet_inner (fun _ h => { h with posts := mwf_mput _ _ h.posts }) k0)
theorem State.pumpPosts_inner {v0} {v1} (k0 : State.inner v0) : State.inner (State.pumpPosts v0 v1) := by
  unfold State.pumpPosts
  extract_lets +onlyGivenNames -merge x1
  clear_value x1
  refine State.each_inv (clo_inner.mono rfl) (State.setPosts_inner k0) ?_
  intro a5 a6 h4
  split
  ·
    rename_i y7 y8 y9
    exact (State.inject_inner (State.setOut_inner h4))
  ·
    rename_i y10 y11
    exact (State.setPosts_inner h4)
theorem State.sendPost_inner {v0} {v1} {v2} (k0 : State.inner v0) : State.inner (State.sendPost v0 v1 v2) := by
  unfold State.sendPost
  exact (State.pumpPosts_inner (State.setPosts_inner k0))
theorem State.postSpan_inner {v0} {v1} {v2} {v3} (k0 : State.inner v0) : State.inner (State.postSpan v0 v1 v2 v3) := by
  unfold State.postSpan
  exact (State.each_inv (clo_inner.mono rfl) k0 (fun _ _ h1 => (State.sendPost_inner h1)))
theorem State.refuse_inner {v0} {v1} {v2} {v3} (k0 : State.inner v0) : State.inner (State.refuse v0 v1 v2 v3) := by
  unfold State.refuse
  extract_lets +onlyGivenNames -merge x1 x3
  have h2 : State.inner x1 := by unfold x1; exact (State.busError_inv (clo_inner.mono rfl) k0)
  have h4 : State.inner x3 := by unfold x3; exact (ite_p (fun _ => (State.updMail_inner (fun _ h => { h with causes := mwf_mput _ _ h.causes }) h2)) (fun _ => h2))
  clear_value x1 x3
  exact (State.inject_inner h4)
theorem State.queueEvent_inner {v0} {v1} {v2} (k0 : State.inner v0) : State.inner (State.queueEvent v0 v1 v2) := by
  unfold State.queueEvent
  extract_lets +onlyGivenNames -merge x1
  clear_value x1
  refine ite_p (fun _ => (clo_inner.inc rfl k0)) (fun _ => ?_)
  extract_lets +onlyGivenNames -merge x2
  have h3 : State.inner x2 := by unfold x2; exact (State.updMail_inner (fun _ h => { h with evq := mwf_mput _ _ h.evq }) k0)
  clear_value x2
  exact (ite_p (fun _ => (State.updMail_inner (fun _ h => { h with }) h3)) (fun _ => h3))
theorem State.event_inner {v0} {v1} {v2} {v3} (k0 : State.inner v0) : State.inner (State.event v0 v1 v2 v3) := by
  unfold State.event
  extract_lets +onlyGivenNames -merge x1 x2 x3 x5
  have h4 : State.inner x3 := by unfold x3; exact (State.updMail_inner (fun _ h => { h with }) k0)
  have h6 : State.inner x5 := by unfold x5; exact (State.each_inv (clo_inner.mono rfl) h4 (fun _ _ h7 => (ite_p (fun _ => (State.queueEvent_inner h7)) (fun _ => h7))))
  clear_value x1 x2 x3 x5
  exact (State.each_inv (clo_inner.mono rfl) h6 (fun _ _ h8 => (ite_p (fun _ => (State.queueEvent_inner h8)) (fun _ => h8))))
theorem writeSpan_inner {v0} {v1} {v2} {v3} (k1 : State.inner v1) : State.inner (writeSpan v0 v1 v2 v3) := by
  induction v0 generalizing v1 k1 v2 v3 with
  | zero =>
    rw [writeSpan]
    exact k1
  | succ n ih =>
    rw [writeSpan]
    refine ite_p (fun _ => k1) (fun _ => ?_)
    extract_lets +onlyGivenNames -merge x1
    clear_value x1
    exact (by apply ih; exact (fst_p (State.writeWord_inner k1)))
theorem State.writeRun_inner {v0} {v1} {v2} (k0 : State.inner v0) : State.inner (State.writeRun v0 v1 v2) := by
  unfold State.writeRun
  exact (writeSpan_inner k0)
theorem State.deliver_inner {v0} {v1} {v2} {v3} (k0 : State.inner v0) : State.inner (State.deliver v0 v1 v2 v3) := by
  unfold State.deliver
  split
  ·
    rename_i y1 y2 y3 y4 y5
    refine ite_p (fun _ => ?_) (fun _ => (ite_p (fun _ => (ite_p (fun _ => (State.updMail_inner (fun _ => Mail.sendBlock_inner) k0)) (fun _ => (State.updMail_inner (fun _ h => { h with rsp := mwf_mput _ _ h.rsp }) k0)))) (fun _ => (ite_p (fun _ => (State.inject_inner k0)) (fun _ => (ite_p (fun _ => (State.updLink_inner (fun _ h => { h with }) k0)) (fun _ => (State.postSpan_inner (State.postSpan_inner k0)))))))))
    extract_lets +onlyGivenNames -merge x6
    have h7 : State.inner x6 := by unfold x6; exact (State.updMail_inner (fun _ h => { h with rsp := mwf_mput _ _ h.rsp }) k0)
    clear_value x6
    exact (ite_p (fun _ => (State.updMail_inner (fun _ h => { h with }) h7)) (fun _ => h7))
theorem State.respond_inner {v0} {v1} {v2} {v3} (k0 : State.inner v0) : State.inner (State.respond v0 v1 v2 v3) := by
  unfold State.respond
  extract_lets +onlyGivenNames -merge x1 x2 x3 x4 x5
  have h6 : State.inner x5 := by unfold x5; exact (ite_p (fun _ => k0) (fun _ => (State.updMail_inner (fun _ h => { h with }) k0)))
  clear_value x1 x2 x3 x5
  exact (ite_p (fun _ => (State.updMail_inner (fun _ h => { h with }) h6)) (fun _ => (State.deliver_inner h6)))
theorem State.endLinkCmds_inner {v0} {v1} {v2} {v3} {v4} (k0 : State.inner v0) : State.inner (State.endLinkCmds v0 v1 v2 v3 v4) := by
  unfold State.endLinkCmds
  extract_lets +onlyGivenNames -merge x1
  clear_value x1
  exact (State.each_inv (clo_inner.mono rfl) (State.updLink_inner (fun _ h => { h with }) k0) (fun _ _ h2 => (State.respond_inner h2)))
theorem State.respondTo_inner {v0} {v1} {v2} {v3} (k0 : State.inner v0) : State.inner (State.respondTo v0 v1 v2 v3) := by
  unfold State.respondTo
  split
  ·
    rename_i y1 y2
    exact (State.respond_inner k0)
  ·
    rename_i y3
    exact k0
theorem State.flushHeld_inner {v0} {v1} (k0 : State.inner v0) : State.inner (State.flushHeld v0 v1) := by
  unfold State.flushHeld
  extract_lets +onlyGivenNames -merge x1 x2
  have h3 : State.inner x2 := by unfold x2; exact (State.updMail_inner (fun _ h => foldl_p (fun _ _ => Mail.sendBlock_inner) h) k0)
  clear_value x1 x2
  exact (State.updMail_inner (fun _ h => { h with rsp := mwf_mput _ _ h.rsp }) h3)
theorem State.sidesStart_inner {v0} (k0 : State.inner v0) : State.inner (State.sidesStart v0) := by
  unfold State.sidesStart
  exact (ite_p (fun _ => (State.each_inv (clo_inner.mono rfl) k0 (fun _ _ h1 => (State.flushHeld_inner h1)))) (fun _ => k0))
theorem State.committed_inner {v0} {v1} (k0 : State.inner v0) : State.inner (State.committed v0 v1) := by
  unfold State.committed
  exact (State.updMail_inner (fun _ h => { h with }) k0)

/-! ### SafeState -/

theorem State.loadDone_inner {v0} {v1} {v2} (k0 : State.inner v0) : State.inner (State.loadDone v0 v1 v2) := by
  unfold State.loadDone
  split
  ·
    rename_i y1 y2
    exact k0
  ·
    rename_i y3 y4 y5
    extract_lets +onlyGivenNames -merge x6 x8 x10 x12 x14
    have h7 : State.inner x6 := by unfold x6; exact (clo_inner.setF rfl k0)
    have h9 : State.inner x8 := by unfold x8; exact (clo_inner.setF rfl h7)
    have h11 : State.inner x10 := by unfold x10; exact (clo_inner.setF rfl h9)
    have h13 : State.inner x12 := by unfold x12; exact (State.updRoom_inner (fun _ h => { h with }) h11)
    have h15 : State.inner x14 := by unfold x14; exact (ite_p (fun _ => (State.updSched_inner (fun _ h => { h with }) h13)) (fun _ => h13))
    clear_value x6 x8 x10 x12 x14
    exact (State.respondTo_inner h15)
theorem State.dropHeld_inner {v0} {v1} (k0 : State.inner v0) : State.inner (State.dropHeld v0 v1) := by
  unfold State.dropHeld
  extract_lets +onlyGivenNames -merge x1 x3 x5
  have h2 : State.inner x1 := by unfold x1; exact (clo_inner.setF rfl k0)
  have h4 : State.inner x3 := by unfold x3; exact (clo_inner.setF rfl h2)
  clear_value x1 x3 x5
  exact (State.respondTo_inner (State.updRoom_inner (fun _ h => { h with }) h4))
theorem State.abandonLoad_inner {v0} {v1} (k0 : State.inner v0) : State.inner (State.abandonLoad v0 v1) := by
  unfold State.abandonLoad
  split
  ·
    rename_i y1 y2
    exact k0
  ·
    rename_i y3 y4 y5
    extract_lets +onlyGivenNames -merge x6 x8
    have h7 : State.inner x6 := by unfold x6; exact (ite_p (fun _ => (State.scramble_inv (clo_inner.mono rfl) (State.setPlaneState_inv (clo_inner.mono rfl) k0))) (fun _ => (State.emptyPlane_inv (clo_inner.mono rfl) k0)))
    have h9 : State.inner x8 := by unfold x8; exact (ite_p (fun _ => (State.dropHeld_inner h7)) (fun _ => h7))
    clear_value x6 x8
    exact (State.loadDone_inner h9)
theorem State.abandonWindow_inner {v0} {v1} (k0 : State.inner v0) : State.inner (State.abandonWindow v0 v1) := by
  unfold State.abandonWindow
  refine ite_p (fun _ => ?_) (fun _ => k0)
  extract_lets +onlyGivenNames -merge x1
  clear_value x1
  exact (clo_inner.setF rfl (State.updStair_inner k0))
theorem State.endSlice_inner {v0} {v1} (k0 : State.inner v0) : State.inner (State.endSlice v0 v1) := by
  unfold State.endSlice
  split
  ·
    rename_i y1 y2
    exact k0
  ·
    rename_i y3 y4 y5
    extract_lets +onlyGivenNames -merge x6 x8 x25 x27 x28
    have h7 : State.inner x6 := by unfold x6; exact (State.updStair_inner k0)
    have h9 : State.inner x8 := by
      unfold x8
      refine ite_p (fun _ => h7) (fun _ => ?_)
      refine State.each_inv (clo_inner.mono rfl) h7 ?_
      intro a16 a17 h15
      split
      ·
        rename_i y18 y19 y20 y21 y22
        have q24 := congr_p (Q := (SndP (SndP State.inner))) y22 (by
            exact (State.rowRead_inner h15)
          )
        have h23 : State.inner y21 := q24
        exact (State.rowWrite_inner h23)
    have h26 : State.inner x25 := by unfold x25; exact (ite_p (fun _ => h9) (fun _ => (State.hazard_inv (clo_inner.mono rfl) (State.updBank_inner (fun _ h => { h with }) h9))))
    have h29 : State.inner x28 := by unfold x28; exact (clo_inner.setF rfl h26)
    clear_value x6 x8 x25 x27 x28
    exact (clo_inner.setF rfl h29)
theorem State.restoreSlice_inner {v0} {v1} (k0 : State.inner v0) : State.inner (State.restoreSlice v0 v1) := by
  unfold State.restoreSlice
  exact (ite_p (fun _ => (clo_inner.inc rfl (State.endSlice_inner k0))) (fun _ => k0))
theorem State.retain_inner {v0} {v1} {v2} (k0 : State.inner v0) : State.inner (State.retain v0 v1 v2) := by
  unfold State.retain
  refine ite_p (fun _ => k0) (fun _ => ?_)
  extract_lets +onlyGivenNames -merge x1 x2 x4
  have h3 : State.inner x2 := by unfold x2; exact (State.updBank_inner (fun _ h => { h with }) k0)
  have h5 : State.inner x4 := by unfold x4; exact (State.each_inv (clo_inner.mono rfl) h3 (fun _ _ h6 => (State.respond_inner h6)))
  clear_value x1 x2 x4
  exact (clo_inner.setF rfl (ite_p (fun _ => h5) (fun _ => (clo_inner.setF rfl h5))))
theorem State.endEngCmds_inner {v0} {v1} {v2} (k0 : State.inner v0) : State.inner (State.endEngCmds v0 v1 v2) := by
  unfold State.endEngCmds
  extract_lets +onlyGivenNames -merge x1 x2
  clear_value x1 x2
  exact (State.each_inv (clo_inner.mono rfl) (State.updEng_inner (fun _ h => { h with }) k0) (fun _ _ h3 => (State.respond_inner h3)))
theorem State.clearEngine_inner {v0} {v1} {v2} (k0 : State.inner v0) : State.inner (State.clearEngine v0 v1 v2) := by
  unfold State.clearEngine
  extract_lets +onlyGivenNames -merge x1 x3 x5 x7 x9 x11 x13
  have h2 : State.inner x1 := by unfold x1; exact (State.updEng_inner (fun _ h => { Eng.clear_inner h with }) k0)
  have h4 : State.inner x3 := by unfold x3; exact (clo_inner.setF rfl h2)
  have h6 : State.inner x5 := by unfold x5; exact (clo_inner.setF rfl h4)
  have h8 : State.inner x7 := by unfold x7; exact (clo_inner.setF rfl h6)
  have h10 : State.inner x9 := by unfold x9; exact (clo_inner.setF rfl h8)
  have h12 : State.inner x11 := by unfold x11; exact (clo_inner.setF rfl (clo_inner.setF rfl h10))
  have h14 : State.inner x13 := by unfold x13; exact (clo_inner.setF rfl h12)
  clear_value x1 x3 x5 x7 x9 x11 x13
  exact (State.endEngCmds_inner h14)
theorem State.stopEngine_inner {v0} {v1} (k0 : State.inner v0) : State.inner (State.stopEngine v0 v1) := by
  unfold State.stopEngine
  exact (ite_p (fun _ => (clo_inner.setF rfl k0)) (fun _ => (State.clearEngine_inner k0)))
theorem State.stopAtEdge_inner {v0} {v1} {v2} (k0 : State.inner v0) : State.inner (State.stopAtEdge v0 v1 v2) := by
  unfold State.stopAtEdge
  exact (State.updRoom_inner (fun _ h => { h with }) k0)
theorem State.failCommit_inner {v0} {v1} (k0 : State.inner v0) : State.inner (State.failCommit v0 v1) := by
  unfold State.failCommit
  split
  ·
    rename_i y1 y2
    exact k0
  ·
    rename_i y3 y4 y5
    extract_lets +onlyGivenNames -merge x6 x8 x10 x12 x14 x16 x18 x21 x23
    have h7 : State.inner x6 := by unfold x6; exact (inner_staged (fun h => mwf_fill h.staged) k0)
    have h9 : State.inner x8 := by unfold x8; exact (inner_snapshot (fun _ => rfl) h7)
    have h11 : State.inner x10 := by unfold x10; exact (inner_commit h9)
    have h13 : State.inner x12 := by unfold x12; exact (clo_inner.setF rfl h11)
    have h15 : State.inner x14 := by unfold x14; exact (clo_inner.setF rfl h13)
    have h17 : State.inner x16 := by unfold x16; exact (State.updSched_inner (fun _ h => { h with }) (clo_inner.setF rfl h15))
    have h19 : State.inner x18 := by unfold x18; exact (ite_p (fun _ => (State.each_inv (clo_inner.mono rfl) h17 (fun _ _ h20 => (ite_p (fun _ => (State.stopAtEdge_inner h20)) (fun _ => h20))))) (fun _ => h17))
    have h22 : State.inner x21 := by unfold x21; exact (ite_p (fun _ => (State.updBoot_inner h19)) (fun _ => h19))
    have h24 : State.inner x23 := by unfold x23; exact (ite_p (fun _ => (inner_enumer h22)) (fun _ => (ite_p (fun _ => (clo_inner.setF rfl h22)) (fun _ => h22))))
    clear_value x6 x8 x10 x12 x14 x16 x18 x21 x23
    exact (State.respondTo_inner h24)
theorem State.landBytes_inner {v0} {v1} {v2} {v3} (k3 : State.inner v3) : State.inner (State.landBytes v0 v1 v2 v3) := by
  induction v0 generalizing v1 v2 v3 k3 with
  | zero =>
    rw [State.landBytes]
    exact k3
  | succ n ih =>
    rw [State.landBytes]
    refine ite_p (fun _ => k3) (fun _ => ?_)
    extract_lets +onlyGivenNames -merge x1 x2 x3
    have h4 : State.inner x3 := by unfold x3; exact (ite_p (fun _ => (State.updBank_inner (fun _ h => { h with }) k3)) (fun _ => (fst_p (State.writeWord_inner k3))))
    clear_value x1 x2 x3
    exact (by apply ih; exact h4)
theorem State.ringWrite_inner {v0} {v1} {v2} {v3} (k0 : State.inner v0) : State.inner (State.ringWrite v0 v1 v2 v3) := by
  unfold State.ringWrite
  exact (ite_p (fun _ => (State.landBytes_inner k0)) (fun _ => (State.postSpan_inner k0)))
theorem State.ringLand_inner {v0} (k0 : State.inner v0) : State.inner (State.ringLand v0) := by
  unfold State.ringLand
  extract_lets +onlyGivenNames -merge x1 x2 x3 x5
  have h4 : State.inner x3 := by unfold x3; exact (State.setPosts_inner k0)
  have h6 : State.inner x5 := by unfold x5; exact (State.updNet_inner (fun _ h => { h with outReq := mwf_filter _ h.outReq }) h4)
  clear_value x1 x2 x3 x5
  exact (State.each_inv (clo_inner.mono rfl) h6 (fun _ _ h7 => (State.landBytes_inner h7)))
theorem State.putRing_inner {v0} {v1} {v2} (k1 : State.inner v1) : State.inner (State.putRing v0 v1 v2) := by
  unfold State.putRing
  extract_lets +onlyGivenNames -merge x1 x2
  clear_value x1
  refine ite_p (fun _ => k1) (fun _ => ?_)
  refine ite_p (fun _ => (clo_inner.setF rfl k1)) (fun _ => ?_)
  extract_lets +onlyGivenNames -merge x3 x5 x6 x8
  have h4 : State.inner x3 := by unfold x3; exact (ite_p (fun _ => k1) (fun _ => (clo_inner.setF rfl k1)))
  have h7 : State.inner x6 := by unfold x6; exact (State.ringWrite_inner h4)
  have h9 : State.inner x8 := by unfold x8; exact (clo_inner.inc rfl h7)
  clear_value x3 x5 x6 x8
  exact (State.updRp_inv (clo_inner.mono rfl) h9)
theorem State.flushRing_inner {v0} {v1} (k0 : State.inner v0) : State.inner (State.flushRing v0 v1) := by
  unfold State.flushRing
  extract_lets +onlyGivenNames -merge x1
  clear_value x1
  exact (State.each_inv (clo_inner.mono rfl) (State.updRp_inv (clo_inner.mono rfl) k0) (fun _ _ h2 => (State.putRing_inner h2)))
theorem State.ringTrailer_inner {v0} {v1} (k0 : State.inner v0) : State.inner (State.ringTrailer v0 v1) := by
  unfold State.ringTrailer
  extract_lets +onlyGivenNames -merge x1 x2 x3 x5
  have h4 : State.inner x3 := by unfold x3; exact (State.ringWrite_inner k0)
  have h6 : State.inner x5 := by unfold x5; exact (State.ringWrite_inner h4)
  clear_value x1 x2 x3 x5
  exact (State.ringWrite_inner h6)
theorem State.endRecording_inner {v0} {v1} {v2} {v3} (k0 : State.inner v0) : State.inner (State.endRecording v0 v1 v2 v3) := by
  unfold State.endRecording
  refine ite_p (fun _ => ?_) (fun _ => k0)
  extract_lets +onlyGivenNames -merge x1
  have h2 : State.inner x1 := by unfold x1; exact (ite_p (fun _ => (State.ringLand_inner k0)) (fun _ => k0))
  clear_value x1
  exact (clo_inner.setF rfl (State.ringTrailer_inner (State.flushRing_inner (State.pushRec_inv (clo_inner.mono rfl) (State.stampNow_inv (clo_inner.mono rfl) h2)))))
theorem State.safeRecord_inner {v0} {v1} (k0 : State.inner v0) : State.inner (State.safeRecord v0 v1) := by
  unfold State.safeRecord
  extract_lets +onlyGivenNames -merge x1 x3 x5 x7 x9
  have h2 : State.inner x1 := by unfold x1; exact (ite_p (fun _ => (clo_inner.setF rfl k0)) (fun _ => k0))
  have h4 : State.inner x3 := by unfold x3; exact (State.endRecording_inner h2)
  have h6 : State.inner x5 := by unfold x5; exact (clo_inner.setF rfl h4)
  have h8 : State.inner x7 := by unfold x7; exact (clo_inner.setF rfl h6)
  have h10 : State.inner x9 := by unfold x9; exact (clo_inner.setF rfl h8)
  clear_value x1 x3 x5 x7 x9
  exact (clo_inner.setF rfl h10)
theorem State.edgeOver_inner {v0} {v1} (k0 : State.inner v0) : State.inner (State.edgeOver v0 v1) := by
  unfold State.edgeOver
  extract_lets +onlyGivenNames -merge x1
  clear_value x1
  refine ite_p (fun _ => k0) (fun _ => ?_)
  extract_lets +onlyGivenNames -merge x2
  have h3 : State.inner x2 := by
    unfold x2
    split
    ·
      rename_i y4 y5 y6 y7
      exact (clo_inner.setF rfl (clo_inner.setF rfl k0))
    ·
      rename_i y8 y9
      exact k0
  clear_value x2
  exact (State.updRoom_inner (fun _ h => { h with }) (clo_inner.setF rfl h3))
theorem State.stopUnits_inner {v0} (k0 : State.inner v0) : State.inner (State.stopUnits v0) := by
  unfold State.stopUnits
  extract_lets +onlyGivenNames -merge x1 x4 x7 x10 x13 x16 x19 x29 x32
  have h2 : State.inner x1 := by unfold x1; exact (State.each_inv (clo_inner.mono rfl) k0 (fun _ _ h3 => (State.abandonLoad_inner h3)))
  have h5 : State.inner x4 := by unfold x4; exact (State.each_inv (clo_inner.mono rfl) h2 (fun _ _ h6 => (State.abandonWindow_inner h6)))
  have h8 : State.inner x7 := by unfold x7; exact (State.each_inv (clo_inner.mono rfl) h5 (fun _ _ h9 => (State.restoreSlice_inner h9)))
  have h11 : State.inner x10 := by unfold x10; exact (State.each_inv (clo_inner.mono rfl) h8 (fun _ _ h12 => (ite_p (fun _ => (State.stopAtEdge_inner h12)) (fun _ => (ite_p (fun _ => (clo_inner.setF rfl h12)) (fun _ => h12))))))
  have h14 : State.inner x13 := by unfold x13; exact (State.each_inv (clo_inner.mono rfl) h11 (fun _ _ h15 => (State.retain_inner h15)))
  have h17 : State.inner x16 := by unfold x16; exact (State.each_inv (clo_inner.mono rfl) h14 (fun _ _ h18 => (State.stopEngine_inner h18)))
  have h20 : State.inner x19 := by
    unfold x19
    refine State.each_inv (clo_inner.mono rfl) h17 ?_
    intro a25 a26 h24
    extract_lets +onlyGivenNames -merge x27
    have h28 : State.inner x27 := by unfold x27; exact (ite_p (fun _ => h24) (fun _ => (State.endLinkCmds_inner (State.setLinkState_inv (clo_inner.mono rfl) h24))))
    clear_value x27
    exact (ite_p (fun _ => (clo_inner.setF rfl h28)) (fun _ => (State.lanesOff_inv (clo_inner.mono rfl) (clo_inner.setF rfl (clo_inner.setF rfl (clo_inner.setF rfl h28))))))
  have h30 : State.inner x29 := by unfold x29; exact (State.each_inv (clo_inner.mono rfl) h20 (fun _ _ h31 => (State.updLink_inner (fun _ h => { h with }) h31)))
  have h33 : State.inner x32 := by unfold x32; exact (clo_inner.setF rfl h30)
  clear_value x1 x4 x7 x10 x13 x16 x19 x29 x32
  exact (clo_inner.setF rfl h33)
theorem State.enterSafe_inner {v0} {v1} {v2} {v3} (k0 : State.inner v0) : State.inner (State.enterSafe v0 v1 v2 v3) := by
  unfold State.enterSafe
  refine ite_p (fun _ => k0) (fun _ => ?_)
  refine ite_p (fun _ => (State.updBoot_inner k0)) (fun _ => ?_)
  extract_lets +onlyGivenNames -merge x1 x3 x4 x6 x8 x10 x12 x14
  have h2 : State.inner x1 := by unfold x1; exact (State.failCommit_inner k0)
  have h5 : State.inner x4 := by unfold x4; exact (State.respondTo_inner (State.updBoot_inner h2))
  have h7 : State.inner x6 := by unfold x6; exact (clo_inner.setF rfl h5)
  have h9 : State.inner x8 := by unfold x8; exact (clo_inner.setF rfl h7)
  have h11 : State.inner x10 := by unfold x10; exact (State.updBoot_inner h9)
  have h13 : State.inner x12 := by unfold x12; exact (State.stopUnits_inner h11)
  have h15 : State.inner x14 := by unfold x14; exact (State.safeRecord_inner h13)
  clear_value x1 x3 x4 x6 x8 x10 x12 x14
  exact (State.event_inner h15)
theorem State.booksFault_inner {v0} {v1} {v2} {v3} {v4} (k0 : State.inner v0) : State.inner (State.booksFault v0 v1 v2 v3 v4) := by
  unfold State.booksFault
  extract_lets +onlyGivenNames -merge x1 x3 x5
  have h2 : State.inner x1 := by unfold x1; exact (clo_inner.setF rfl k0)
  have h4 : State.inner x3 := by unfold x3; exact (clo_inner.setF rfl h2)
  have h6 : State.inner x5 := by unfold x5; exact (ite_p (fun _ => k0) (fun _ => (clo_inner.setF rfl (clo_inner.setF rfl h4))))
  clear_value x1 x3 x5
  exact (State.enterSafe_inner h6)

/-! ### Corridor -/

theorem State.updBook_inner {v0} {v1} {v2} (k0 : State.inner v0) : State.inner (State.updBook v0 v1 v2) := by
  unfold State.updBook
  exact (State.updNet_inner (fun _ h => { h with books := mwf_mupd _ _ h.books }) k0)
theorem State.setBuf_inner {v0} {v1} {v2} (k0 : State.inner v0) : State.inner (State.setBuf v0 v1 v2) := by
  unfold State.setBuf
  exact (State.updNet_inner (fun _ h => { h with bufs := mwf_mput _ _ h.bufs }) k0)
theorem State.sendOn_inner {v0} {v1} {v2} (k0 : State.inner v0) : State.inner (State.sendOn v0 v1 v2) := by
  unfold State.sendOn
  exact (State.setBuf_inner (State.updBook_inner k0))
theorem State.releaseOn_inner {v0} {v1} {v2} (k0 : State.inner v0) : State.inner (State.releaseOn v0 v1 v2) := by
  unfold State.releaseOn
  exact (State.updBook_inner k0)
theorem State.routerRefuse_inner {v0} {v1} {v2} {v3} (k0 : State.inner v0) : State.inner (State.routerRefuse v0 v1 v2 v3) := by
  unfold State.routerRefuse
  exact (ite_p (fun _ => (State.refuse_inner k0)) (fun _ => (clo_inner.setF rfl (clo_inner.inc rfl k0))))
theorem State.countTokens_inner {v0} {v1} {v2} (k0 : State.inner v0) : State.inner (State.countTokens v0 v1 v2) := by
  unfold State.countTokens
  refine ite_p (fun _ => ?_) (fun _ => k0)
  extract_lets +onlyGivenNames -merge x1
  clear_value x1
  exact (State.updSched_inner (fun _ h => { h with }) k0)
theorem State.linkConsumed_inner {v0} {v1} {v2} {v3} {v4} (k0 : State.inner v0) : State.inner (State.linkConsumed v0 v1 v2 v3 v4) := by
  unfold State.linkConsumed
  exact (State.updLink_inner (fun _ h => { h with rxEnts := mwf_mput _ _ h.rxEnts }) k0)
theorem State.linkLeft_inner {v0} {v1} {v2} {v3} (k0 : State.inner v0) : State.inner (State.linkLeft v0 v1 v2 v3) := by
  unfold State.linkLeft
  exact (ite_p (fun _ => (State.updLink_inner (fun _ h => { h with }) k0)) (fun _ => (State.linkConsumed_inner k0)))
theorem State.leftAttachment_inner {v0} {v1} {v2} (k0 : State.inner v0) : State.inner (State.leftAttachment v0 v1 v2) := by
  unfold State.leftAttachment
  refine ite_p (fun _ => ?_) (fun _ => k0)
  extract_lets +onlyGivenNames -merge x1
  have h2 : State.inner x1 := by unfold x1; exact (State.linkLeft_inner k0)
  clear_value x1
  exact (ite_p (fun _ => (State.record_inv (clo_inner.mono rfl) h2)) (fun _ => h2))
theorem State.cross_inner {v0} {v1} {v2} {v3} (k0 : State.inner v0) : State.inner (State.cross v0 v1 v2 v3) := by
  unfold State.cross
  extract_lets +onlyGivenNames -merge x1
  have h2 : State.inner x1 := by unfold x1; exact (ite_p (fun _ => k0) (fun _ => (clo_inner.inc rfl k0)))
  clear_value x1
  exact (ite_p (fun _ => (State.enterSafe_inner (clo_inner.setF rfl h2))) (fun _ => (State.sendOn_inner h2)))
theorem State.pumpVc_inner {v0} {v1} {v2} {v3} {v4} (k0 : State.inner v0) : (OptP State.inner) (State.pumpVc v0 v1 v2 v3 v4) := by
  unfold State.pumpVc
  split
  ·
    rename_i y1 y2
    exact none_p
  ·
    rename_i y3 y4 y5 y6
    extract_lets +onlyGivenNames -merge x7
    have h8 : ∀ a0, State.inner a0 → State.inner (x7 a0) := by
      intro a10 h9
      unfold x7
      exact (State.leftAttachment_inner (State.updNet_inner (fun _ h => { h with send := mwf_mput _ _ h.send }) h9))
    clear_value x7
    refine ite_p (fun _ => (mk_some (State.countMalformed_inv (clo_inner.mono rfl) (h8 _ k0)))) (fun _ => ?_)
    split
    ·
      rename_i y11 y12 y13
      exact (mk_some (State.routerRefuse_inner (h8 _ k0)))
    ·
      rename_i y14 y15 y16 y17
      extract_lets +onlyGivenNames -merge x18 x19 x20 x21 x22
      clear_value x18 x19 x20 x21 x22
      exact (ite_p (fun _ => (mk_some (State.cross_inner (State.countTokens_inner (h8 _ k0))))) (fun _ => none_p))
theorem State.pump1_inner {v0} {v1} (k0 : State.inner v0) : State.inner (State.pump1 v0 v1) := by
  unfold State.pump1
  exact (State.each_inv (clo_inner.mono rfl) k0 (fun _ _ h1 => (getD_p (State.pumpVc_inner h1) h1)))
theorem State.pumpRouter_inner {v0} {v1} (k0 : State.inner v0) : State.inner (State.pumpRouter v0 v1) := by
  unfold State.pumpRouter
  exact (State.each_inv (clo_inner.mono rfl) k0 (fun _ _ h1 => (State.pump1_inner h1)))
theorem State.injectOn_inner {v0} {v1} {v2} {v3} (k0 : State.inner v0) : State.inner (State.injectOn v0 v1 v2 v3) := by
  unfold State.injectOn
  exact (getD_p (findSome_p (fun _ => (State.pumpVc_inner k0))) k0)
theorem State.dropMalformed_inner {v0} {v1} (k0 : State.inner v0) : State.inner (State.dropMalformed v0 v1) := by
  unfold State.dropMalformed
  refine State.each_inv (clo_inner.mono rfl) k0 ?_
  intro a4 a5 h3
  extract_lets +onlyGivenNames -merge x6
  clear_value x6
  split
  ·
    rename_i y7 y8 y9 y10
    exact (ite_p (fun _ => (State.countMalformed_inv (clo_inner.mono rfl) (State.releaseOn_inner (State.setBuf_inner h3)))) (fun _ => h3))
  ·
    rename_i y11 y12
    exact h3
theorem State.sinkHeads_inner {v0} {v1} (k0 : State.inner v0) : State.inner (State.sinkHeads v0 v1) := by
  unfold State.sinkHeads
  refine State.each_inv (clo_inner.mono rfl) k0 ?_
  intro a4 a5 h3
  extract_lets +onlyGivenNames -merge x6
  clear_value x6
  split
  ·
    rename_i y7 y8 y9 y10
    split
    ·
      rename_i y11 y12 y13 y14 y15
      refine ite_p (fun _ => h3) (fun _ => ?_)
      extract_lets +onlyGivenNames -merge x16
      have h17 : State.inner x16 := by unfold x16; exact (State.releaseOn_inner (State.setBuf_inner h3))
      clear_value x16
      exact (ite_p (fun _ => (State.refuse_inner h17)) (fun _ => h17))
    ·
      rename_i y18 y19
      exact h3
  ·
    rename_i y20 y21
    exact h3
theorem State.forward_inner {v0} {v1} {v2} {v3} (k0 : State.inner v0) : State.inner (State.forward v0 v1 v2 v3) := by
  unfold State.forward
  extract_lets +onlyGivenNames -merge x1 x3 x4
  have h2 : State.inner x1 := by unfold x1; exact (State.sinkHeads_inner (State.dropMalformed_inner (State.pumpRouter_inner k0)))
  clear_value x1
  have h4 : x4.inner := by unfold x4; exact ite_p (fun _ => ⟨(h2.net.arb _).last⟩) fun _ => h2.net.arb _
  clear_value x3 x4
  have harb := x1.chooseVc_arb (r := v1) (out := v2) 9 h4
  split
  ·
    rename_i y5 y6
    exact h2
  ·
    rename_i y7 y8 y9 y10 y11 y12
    rw [y12] at harb
    have ha : y8.inner := harb
    extract_lets +onlyGivenNames -merge x13
    clear_value x13
    split
    ·
      rename_i y14 y15
      exact h2
    ·
      rename_i y16 y17 y18 y19
      extract_lets +onlyGivenNames -merge x20 x21
      have h22 : State.inner x21 := by unfold x21; exact (State.updNet_inner (fun _ h => Net.putArb_inner ha h) h2)
      clear_value x20 x21
      exact (State.cross_inner (State.releaseOn_inner (State.setBuf_inner h22)))
theorem State.takeOn_inner {v0} {v1} {v2} {v3} (k0 : State.inner v0) : (OptP (SndP State.inner)) (State.takeOn v0 v1 v2 v3) := by
  unfold State.takeOn
  refine findSome_p ?_
  intro a1
  split
  ·
    rename_i y2 y3 y4 y5
    exact (ite_p (fun _ => (mk_some (mk_snd (State.releaseOn_inner (State.setBuf_inner k0))))) (fun _ => none_p))
  ·
    rename_i y6 y7
    exact none_p
theorem State.take_inner {v0} {v1} {v2} (k0 : State.inner v0) : (OptP (SndP State.inner)) (State.take v0 v1 v2) := by
  unfold State.take
  exact (State.takeOn_inner k0)
theorem State.matchRsp_inner {v0} {v1} {v2} (k0 : State.inner v0) : (SndP State.inner) (State.matchRsp v0 v1 v2) := by
  unfold State.matchRsp
  extract_lets +onlyGivenNames -merge x1
  clear_value x1
  split
  ·
    rename_i y2 y3
    exact (mk_snd k0)
  ·
    rename_i y4 y5 y6
    exact (ite_p (fun _ => (mk_snd (clo_inner.inc rfl k0))) (fun _ => (mk_snd (State.setOut_inner k0))))
theorem State.postAnswered_inner {v0} {v1} {v2} {v3} (k0 : State.inner v0) : State.inner (State.postAnswered v0 v1 v2 v3) := by
  unfold State.postAnswered
  extract_lets +onlyGivenNames -merge x1
  clear_value x1
  exact (State.pumpPosts_inner (State.setPosts_inner k0))
theorem State.creditReturn_inner {v0} {v1} {v2} {v3} {v4} (k0 : State.inner v0) : State.inner (State.creditReturn v0 v1 v2 v3 v4) := by
  unfold State.creditReturn
  extract_lets +onlyGivenNames -merge x1 x2
  clear_value x1 x2
  exact (State.updBook_inner k0)
theorem execPacketForward_inner {v0} {v1} {v2} {v3} (k3 : State.inner v3) : (OutP State.inner) (execPacketForward v0 v1 v2 v3) := by
  unfold execPacketForward
  exact (mk_next (ite_p (fun _ => (State.forward_inner k3)) (fun _ => (State.injectOn_inner k3))))
theorem execCreditReturn_inner {v0} {v1} {v2} {v3} {v4} (k4 : State.inner v4) : (OutP State.inner) (execCreditReturn v0 v1 v2 v3 v4) := by
  unfold execCreditReturn
  exact (mk_next (State.creditReturn_inner k4))

/-! ### Store -/

theorem State.appendRecs_inner {v0} {v1} (k0 : State.inner v0) : State.inner (State.appendRecs v0 v1) := by
  unfold State.appendRecs
  refine foldl_p ?_ k0
  intro a4 a5 h3
  extract_lets +onlyGivenNames -merge x6
  clear_value x6
  exact (State.updJ_inner (fun _ h => { h with }) (clo_inner.program rfl _ _ h3))
theorem State.compact_inner {v0} (k0 : State.inner v0) : State.inner (State.compact v0) := by
  unfold State.compact
  extract_lets +onlyGivenNames -merge x1 x2 x3 x5 x7 x9 x11
  have h4 : State.inner x3 := by unfold x3; exact (clo_inner.eraseFlash rfl _ _ k0)
  have h6 : State.inner x5 := by unfold x5; exact (State.updJ_inner (fun _ h => { h with }) h4)
  have h8 : State.inner x7 := by unfold x7; exact (State.appendRecs_inner h6)
  have h10 : State.inner x9 := by unfold x9; exact (clo_inner.program rfl _ _ h8)
  have h12 : State.inner x11 := by unfold x11; exact (clo_inner.eraseFlash rfl _ _ h10)
  clear_value x1 x2 x3 x5 x7 x9 x11
  exact (State.updJ_inner (fun _ h => { h with }) h12)
theorem State.journalBatch_inner {v0} {v1} (k0 : State.inner v0) : State.inner (State.journalBatch v0 v1) := by
  unfold State.journalBatch
  extract_lets +onlyGivenNames -merge x1
  have hj : x1.inner := by unfold x1; exact foldl_p (fun _ _ => Journal.apply_inner) k0.journal
  clear_value x1
  refine ite_p (fun _ => (State.updJ_inner (fun _ h => { h with }) k0)) (fun _ => ?_)
  refine ite_p (fun _ => k0) (fun _ => ?_)
  extract_lets +onlyGivenNames -merge x2
  have h3 : State.inner x2 := by unfold x2; exact (inner_journal (fun _ => hj) k0)
  clear_value x2
  exact (State.updJ_inner (fun _ h => { h with }) (State.appendRecs_inner h3))
theorem State.readJournal_inner {v0} (k0 : State.inner v0) : State.inner (State.readJournal v0) := by
  unfold State.readJournal
  extract_lets +onlyGivenNames -merge x1 x2 x3
  clear_value x1 x2 x3
  split
  ·
    rename_i y4
    exact (clo_inner.program rfl _ _ (inner_journal (fun _ => ⟨rfl⟩) k0))
  ·
    rename_i y5 y6 y7
    extract_lets +onlyGivenNames -merge x8
    have hempty : x8.inner := ⟨rfl⟩
    have hlive := scanArea_inner (flash := v0.flashBytes) (base := areaBase y6) (seq := 0) (off := 256) 65536 hempty hempty
    clear_value x8
    split
    ·
      rename_i y9 y10 y11 y12 y13
      rw [y13] at hlive
      extract_lets +onlyGivenNames -merge x14
      have h15 : State.inner x14 := by unfold x14; exact (inner_journal (fun _ => { hlive with }) k0)
      clear_value x14
      exact (ite_p (fun _ => h15) (fun _ => (State.compact_inner h15)))

/-! ### Command -/

theorem State.answerNow_inner {v0} {v1} {v2} (k0 : State.inner v0) : State.inner (State.answerNow v0 v1 v2) := by
  unfold State.answerNow
  exact (ite_p (fun _ => k0) (fun _ => (ite_p (fun _ => (State.updMail_inner (fun _ h => { h with }) k0)) (fun _ => (State.deliver_inner k0)))))
theorem State.enter_inner {v0} {v1} {v2} {v3} (k0 : State.inner v0) : State.inner (State.enter v0 v1 v2 v3) := by
  unfold State.enter
  extract_lets +onlyGivenNames -merge x1 x3 x5
  have h2 : State.inner x1 := by unfold x1; exact (clo_inner.incW rfl (State.updMail_inner (fun _ h => { h with }) k0))
  have h4 : State.inner x3 := by unfold x3; exact (ite_p (fun _ => h2) (fun _ => (State.recordSrc_inv (clo_inner.mono rfl) h2)))
  have h6 : State.inner x5 := by unfold x5; exact (ite_p (fun _ => (State.hazard_inv (clo_inner.mono rfl) h4)) (fun _ => h4))
  clear_value x1 x3 x5
  exact (State.updMail_inner (fun _ h => { h with }) h6)
theorem State.submit_inner {v0} {v1} {v2} {v3} {v4} {v5 : Sys2Proof.Machine.State → Sys2Proof.Machine.State} {v6} (k0 : State.inner v0) (k5 : ∀ a0, State.inner a0 → State.inner (v5 a0)) : State.inner (State.submit v0 v1 v2 v3 v4 v5 v6) := by
  unfold State.submit
  refine ite_p (fun _ => (State.updMail_inner (fun _ h => { h with }) (clo_inner.setF rfl k0))) (fun _ => ?_)
  refine ite_p (fun _ => (State.updMail_inner (fun _ h => { h with }) (State.answerNow_inner k0))) (fun _ => ?_)
  refine ite_p (fun _ => (State.updMail_inner (fun _ h => { h with }) (State.answerNow_inner k0))) (fun _ => ?_)
  extract_lets +onlyGivenNames -merge x1
  have h2 : State.inner x1 := by unfold x1; exact (State.enter_inner k0)
  clear_value x1
  split
  ·
    rename_i y3 y4 y5
    exact (State.respond_inner h2)
  ·
    rename_i y6 y7
    exact (k5 _ h2)
theorem State.uncommitted_inner {v0} {v1} (k0 : State.inner v0) : State.inner (State.uncommitted v0 v1) := by
  unfold State.uncommitted
  exact (State.updMail_inner (fun _ h => { h with }) k0)
theorem State.reply_inner {v0} {v1} {v2} (k0 : State.inner v0) : State.inner (State.reply v0 v1 v2) := by
  unfold State.reply
  exact (State.respond_inner k0)
theorem State.replyData_inner {v0} {v1} {v2} (k0 : State.inner v0) : State.inner (State.replyData v0 v1 v2) := by
  unfold State.replyData
  exact (State.respond_inner k0)
theorem State.checks_inner {v0} {v1} {v2} {v3 : Sys2Proof.Machine.State → Sys2Proof.Machine.State} (k0 : State.inner v0) (k3 : ∀ a0, State.inner a0 → State.inner (v3 a0)) : State.inner (State.checks v0 v1 v2 v3) := by
  unfold State.checks
  split
  ·
    rename_i y1 y2 y3 y4
    exact (State.reply_inner k0)
  ·
    rename_i y5 y6
    exact (k3 _ k0)

/-! ### Stairs -/

theorem State.suspect_inner {v0} {v1} {v2} (k0 : State.inner v0) : State.inner (State.suspect v0 v1 v2) := by
  unfold State.suspect
  split
  ·
    rename_i y1 y2 y3
    exact (ite_p (fun _ => k0) (fun _ => (State.updStair_inner k0)))
  ·
    rename_i y4 y5
    exact (State.hazard_inv (clo_inner.mono rfl) (clo_inner.setF rfl (State.updStair_inner k0)))
theorem State.crossing_inner {v0} {v1} {v2} (k0 : State.inner v0) : State.inner (State.crossing v0 v1 v2) := by
  unfold State.crossing
  refine ite_p (fun _ => k0) (fun _ => ?_)
  refine ite_p (fun _ => (ite_p (fun _ => (State.suspect_inner k0)) (fun _ => k0))) (fun _ => ?_)
  extract_lets +onlyGivenNames -merge x1 x2 x3 x4 x5
  have h6 : State.inner x5 := by unfold x5; exact (clo_inner.inc rfl k0)
  clear_value x1 x2 x3 x4 x5
  exact (ite_p (fun _ => (State.suspect_inner (State.updStair_inner h6))) (fun _ => (State.updStair_inner h6)))
theorem State.carry_inner {v0} {v1} {v2} (k0 : State.inner v0) : State.inner (State.carry v0 v1 v2) := by
  unfold State.carry
  exact (State.each_inv (clo_inner.mono rfl) (State.updStair_inner k0) (fun _ _ h1 => (State.crossing_inner h1)))
theorem State.remap_inner {v0} {v1} {v2} {v3} {v4} (k0 : State.inner v0) : State.inner (State.remap v0 v1 v2 v3 v4) := by
  unfold State.remap
  extract_lets +onlyGivenNames -merge x1
  have h2 : State.inner x1 := by unfold x1; exact (State.updStair_inner k0)
  clear_value x1
  exact (clo_inner.incW rfl h2)

/-! ### Loft -/

theorem State.bankRead_inner {v0} {v1} {v2} {v3} (k0 : State.inner v0) : (SndP (SndP State.inner)) (State.bankRead v0 v1 v2 v3) := by
  unfold State.bankRead
  exact (ite_p (fun _ => (mk_snd (mk_snd (clo_inner.wr rfl k0)))) (fun _ => (State.readWord_inner k0)))
theorem State.bankWrite_inner {v0} {v1} {v2} {v3} {v4} {v5} {v6} (k0 : State.inner v0) : (FstP State.inner) (State.bankWrite v0 v1 v2 v3 v4 v5 v6) := by
  unfold State.bankWrite
  refine ite_p (fun _ => ?_) (fun _ => (State.writeWord_inner k0))
  extract_lets +onlyGivenNames -merge x1 x2 x3
  clear_value x1 x2 x3
  exact (mk_fst (clo_inner.setSyn rfl _ _ (State.putBytes_inv (clo_inner.mono rfl) k0)))
theorem State.svcRespond_inner {v0} {v1} {v2} (k0 : State.inner v0) : State.inner (State.svcRespond v0 v1 v2) := by
  unfold State.svcRespond
  extract_lets +onlyGivenNames -merge x1
  clear_value x1
  refine ite_p (fun _ => ?_) (fun _ => (ite_p (fun _ => (State.inject_inner k0)) (fun _ => (State.inject_inner k0))))
  refine ite_p (fun _ => (State.inject_inner k0)) (fun _ => ?_)
  extract_lets +onlyGivenNames -merge x2
  clear_value x2
  exact (State.inject_inner k0)
theorem State.finishAcc_inner {v0} {v1} {v2} {v3} {v4} {v5} (k0 : State.inner v0) : State.inner (State.finishAcc v0 v1 v2 v3 v4 v5) := by
  unfold State.finishAcc
  split
  ·
    rename_i y1 y2
    exact k0
  ·
    rename_i y3 y4 y5
    extract_lets +onlyGivenNames -merge x6 x7
    clear_value x6 x7
    exact (ite_p (fun _ => (State.svcRespond_inner (inner_svc (fun h => mwf_mput _ _ h) k0))) (fun _ => (inner_svc (fun h => mwf_mput _ _ h) k0)))
theorem State.dropWrite_inner {v0} {v1} (k0 : State.inner v0) : State.inner (State.dropWrite v0 v1) := by
  unfold State.dropWrite
  exact (State.updBank_inner (fun _ h => { h with }) k0)
theorem State.askWake_inner {v0} {v1} (k0 : State.inner v0) : State.inner (State.askWake v0 v1) := by
  unfold State.askWake
  exact (State.updBank_inner (fun _ h => { h with }) (clo_inner.setF rfl k0))
theorem State.laneDeny_inner {v0} {v1} {v2} {v3} (k0 : State.inner v0) : State.inner (State.laneDeny v0 v1 v2 v3) := by
  unfold State.laneDeny
  exact (State.refuse_inner (clo_inner.inc rfl k0))
theorem State.poisonAnswer_inner {v0} {v1} {v2} (k0 : State.inner v0) : State.inner (State.poisonAnswer v0 v1 v2) := by
  unfold State.poisonAnswer
  extract_lets +onlyGivenNames -merge x1
  clear_value x1
  exact (ite_p (fun _ => (clo_inner.drawn rfl  (State.inject_inner k0))) (fun _ => (State.inject_inner (State.dropWrite_inner k0))))
theorem State.enqueue_inner {v0} {v1} {v2} {v3} (k0 : State.inner v0) : State.inner (State.enqueue v0 v1 v2 v3) := by
  unfold State.enqueue
  extract_lets +onlyGivenNames -merge x1 x2 x3 x4 x5 x7
  have h6 : State.inner x5 := by unfold x5; exact (inner_svc (fun h => mwf_mput _ _ h) k0)
  have h8 : State.inner x7 := by unfold x7; exact (inner_svcNext h6)
  clear_value x1 x2 x3 x4 x5 x7
  exact (State.updBank_inner (fun _ h => { h with }) h8)
theorem State.laneRequest_inner {v0} {v1} (k0 : State.inner v0) : State.inner (State.laneRequest v0 v1) := by
  unfold State.laneRequest
  extract_lets +onlyGivenNames -merge x1
  clear_value x1
  split
  ·
    rename_i y2 y3
    exact k0
  ·
    rename_i y4 y5 y6 y7
    have q9 := congr_p (Q := (OptP (SndP State.inner))) y7 (by
        exact (State.take_inner k0)
      )
    have h8 : State.inner y6 := q9
    refine ite_p (fun _ => (State.refuse_inner h8)) (fun _ => ?_)
    extract_lets +onlyGivenNames -merge x10 x11
    clear_value x10 x11
    refine ite_p (fun _ => (State.refuse_inner h8)) (fun _ => ?_)
    refine ite_p (fun _ => (State.booksFault_inner (State.laneDeny_inner h8))) (fun _ => ?_)
    refine ite_p (fun _ => (State.laneDeny_inner h8)) (fun _ => ?_)
    refine ite_p (fun _ => (State.poisonAnswer_inner h8)) (fun _ => ?_)
    refine ite_p (fun _ => (State.laneDeny_inner h8)) (fun _ => ?_)
    refine ite_p (fun _ => k0) (fun _ => ?_)
    extract_lets +onlyGivenNames -merge x12
    have h13 : State.inner x12 := by unfold x12; exact (ite_p (fun _ => (State.askWake_inner h8)) (fun _ => h8))
    clear_value x12
    exact (State.enqueue_inner h13)
theorem State.startWipe_inner {v0} {v1} {v2} (k0 : State.inner v0) : State.inner (State.startWipe v0 v1 v2) := by
  unfold State.startWipe
  exact (clo_inner.setF rfl (State.updBank_inner (fun _ h => { h with }) k0))
theorem State.drainCheck_inner {v0} {v1} (k0 : State.inner v0) : State.inner (State.drainCheck v0 v1) := by
  unfold State.drainCheck
  refine ite_p (fun _ => k0) (fun _ => ?_)
  split
  ·
    rename_i y1 y2
    exact (ite_p (fun _ => (clo_inner.setF rfl (State.startWipe_inner k0))) (fun _ => k0))
  ·
    rename_i y3 y4
    exact (State.startWipe_inner k0)
  ·
    rename_i y5 y6 y7
    exact k0
theorem State.patchRow_inner {v0} {v1} {v2} {v3} (k0 : State.inner v0) : State.inner (State.patchRow v0 v1 v2 v3) := by
  unfold State.patchRow
  exact (State.updPlane_inner (fun _ h => { h with }) k0)
theorem State.repeatLoadRow_inner {v0} {v1} (k0 : State.inner v0) : State.inner (State.repeatLoadRow v0 v1) := by
  unfold State.repeatLoadRow
  exact (clo_inner.setF rfl (State.updRoom_inner (fun _ h => { h with }) k0))
theorem State.busyPair_inner {v0} {v1} {v2} {v3} (k0 : State.inner v0) : State.inner (State.busyPair v0 v1 v2 v3) := by
  unfold State.busyPair
  extract_lets +onlyGivenNames -merge x1
  have h2 : State.inner x1 := by unfold x1; exact (clo_inner.inc rfl k0)
  clear_value x1
  exact (ite_p (fun _ => h2) (fun _ => (ite_p (fun _ => (clo_inner.drawn rfl  (State.patchRow_inner h2))) (fun _ => (State.repeatLoadRow_inner h2)))))
theorem State.performAcc_inner {v0} {v1} {v2} {v3} {v4} {v5} (k0 : State.inner v0) : State.inner (State.performAcc v0 v1 v2 v3 v4 v5) := by
  unfold State.performAcc
  extract_lets +onlyGivenNames -merge x1 x2 x3
  clear_value x1 x2 x3
  refine ite_p (fun _ => ?_) (fun _ => ?_)
  ·
    split
    ·
      rename_i y4 y5 y6
      exact (State.finishAcc_inner (State.dropWrite_inner k0))
    ·
      rename_i y7 y8
      exact (clo_inner.drawn rfl  (State.finishAcc_inner k0))
  ·
    split
    ·
      rename_i y9 y10
      refine ite_p (fun _ => ?_) (fun _ => ?_)
      ·
        split
        ·
          rename_i y11 y12 y13 y14
          split
          ·
            rename_i y15 y16 y17 y18
            have q20 := congr_p (Q := (FstP State.inner)) y18 (by
                exact (State.bankWrite_inner k0)
              )
            have h19 : State.inner y16 := q20
            extract_lets +onlyGivenNames -merge x21 x22
            have h23 : State.inner x22 := by
              unfold x22
              refine ite_p (fun _ => h19) (fun _ => ?_)
              split
              ·
                rename_i y24 y25 y26 y27
                exact (State.patchRow_inner h19)
            clear_value x21 x22
            exact (State.finishAcc_inner h23)
        ·
          rename_i y28 y29
          split
          ·
            rename_i y30 y31 y32 y33 y34
            have q36 := congr_p (Q := (SndP (SndP State.inner))) y34 (by
                exact (State.bankRead_inner k0)
              )
            have h35 : State.inner y33 := q36
            exact (State.finishAcc_inner h35)
      ·
        extract_lets +onlyGivenNames -merge x37
        have h38 : State.inner x37 := by unfold x37; exact (State.busyPair_inner k0)
        clear_value x37
        exact (State.finishAcc_inner h38)
    ·
      rename_i y39
      split
      ·
        rename_i y40 y41 y42 y43
        split
        ·
          rename_i y44 y45 y46 y47
          have q49 := congr_p (Q := (FstP State.inner)) y47 (by
              exact (State.bankWrite_inner k0)
            )
          have h48 : State.inner y45 := q49
          exact (State.finishAcc_inner h48)
      ·
        rename_i y50 y51
        split
        ·
          rename_i y52 y53 y54 y55 y56
          have q58 := congr_p (Q := (SndP (SndP State.inner))) y56 (by
              exact (State.bankRead_inner k0)
            )
          have h57 : State.inner y55 := q58
          exact (State.finishAcc_inner h57)
theorem State.serviceAccess_inner {v0} {v1} {v2} {v3} (k0 : State.inner v0) : State.inner (State.serviceAccess v0 v1 v2 v3) := by
  unfold State.serviceAccess
  refine ite_p (fun _ => k0) (fun _ => ?_)
  split
  ·
    rename_i y1 y2
    exact k0
  ·
    rename_i y3 y4 y5 y6
    extract_lets +onlyGivenNames -merge x7 x8
    have h9 : State.inner x8 := by unfold x8; exact (ite_p (fun _ => (State.updStair_inner (State.updBank_inner (fun _ h => { h with }) k0))) (fun _ => k0))
    clear_value x7 x8
    split
    ·
      rename_i y10 y11
      exact h9
    ·
      rename_i y12 y13 y14
      extract_lets +onlyGivenNames -merge x15
      clear_value x15
      split
      ·
        rename_i y16 y17
        exact h9
      ·
        rename_i y18 y19 y20 y21
        extract_lets +onlyGivenNames -merge x22 x24 x26 x27 x28
        have h23 : State.inner x22 := by unfold x22; exact (State.updBank_inner (fun _ h => { h with }) h9)
        have h25 : State.inner x24 := by unfold x24; exact (State.updStair_inner h23)
        have h29 : State.inner x28 := by unfold x28; exact (State.drainCheck_inner (State.carry_inner (State.performAcc_inner h25)))
        clear_value x22 x24 x26 x27 x28
        exact (ite_p (fun _ => (State.booksFault_inner h29)) (fun _ => h29))
theorem State.admitLate_inner {v0} {v1} (k0 : State.inner v0) : State.inner (State.admitLate v0 v1) := by
  unfold State.admitLate
  extract_lets +onlyGivenNames -merge x1
  have h2 : State.inner x1 := by unfold x1; exact (State.updBank_inner (fun _ h => { h with }) k0)
  clear_value x1
  exact (State.updRoom_inner (fun _ h => Room.mapPlanes_inner (f := Plane.admitRows v1) rfl (fun _ hp => { hp with }) h) h2)
theorem State.acceptHandover_inner {v0} {v1} {v2} (k0 : State.inner v0) : State.inner (State.acceptHandover v0 v1 v2) := by
  unfold State.acceptHandover
  extract_lets +onlyGivenNames -merge x1
  clear_value x1
  refine ite_p (fun _ => k0) (fun _ => ?_)
  extract_lets +onlyGivenNames -merge x2 x4 x6 x8
  have h3 : State.inner x2 := by unfold x2; exact (clo_inner.setF rfl k0)
  have h5 : State.inner x4 := by unfold x4; exact (clo_inner.setF rfl h3)
  have h7 : State.inner x6 := by unfold x6; exact (clo_inner.setF rfl (clo_inner.setF rfl h5))
  have h9 : State.inner x8 := by unfold x8; exact (State.updBank_inner (fun _ h => { h with }) (State.admitLate_inner h7))
  clear_value x2 x4 x6 x8
  exact (State.drainCheck_inner h9)
theorem State.writeOwner_inner {v0} {v1} {v2} (k0 : State.inner v0) : (SndP State.inner) (State.writeOwner v0 v1 v2) := by
  unfold State.writeOwner
  extract_lets +onlyGivenNames -merge x1
  clear_value x1
  exact (ite_p (fun _ => (mk_snd (State.acceptHandover_inner k0))) (fun _ => (mk_snd (clo_inner.setF rfl k0))))
theorem State.endBankCmds_inner {v0} {v1} {v2} (k0 : State.inner v0) : State.inner (State.endBankCmds v0 v1 v2) := by
  unfold State.endBankCmds
  extract_lets +onlyGivenNames -merge x1
  clear_value x1
  exact (State.each_inv (clo_inner.mono rfl) (State.updBank_inner (fun _ h => { h with }) k0) (fun _ _ h2 => (State.respond_inner h2)))
theorem State.completeHandover_inner {v0} {v1} (k0 : State.inner v0) : State.inner (State.completeHandover v0 v1) := by
  unfold State.completeHandover
  extract_lets +onlyGivenNames -merge x1 x2 x4 x6 x8 x10
  have h3 : State.inner x2 := by unfold x2; exact (clo_inner.setF rfl k0)
  have h5 : State.inner x4 := by unfold x4; exact (clo_inner.odClear rfl _ (clo_inner.setF rfl (clo_inner.setF rfl h3)))
  have h7 : State.inner x6 := by unfold x6; exact (clo_inner.wr rfl (clo_inner.wr rfl h5))
  have h9 : State.inner x8 := by unfold x8; exact (clo_inner.incW rfl h7)
  have h11 : State.inner x10 := by unfold x10; exact (State.updBank_inner (fun _ h => { h with }) h9)
  clear_value x1 x2 x4 x6 x8 x10
  exact (State.endBankCmds_inner h11)
theorem State.handoverComplete_inner {v0} {v1} (k0 : State.inner v0) : State.inner (State.handoverComplete v0 v1) := by
  unfold State.handoverComplete
  refine ite_p (fun _ => k0) (fun _ => ?_)
  split
  ·
    rename_i y1 y2
    exact (State.completeHandover_inner k0)
  ·
    rename_i y3 y4
    exact (ite_p (fun _ => (State.completeHandover_inner k0)) (fun _ => k0))
  ·
    rename_i y5 y6 y7
    exact k0
theorem State.ctmLeave_inner {v0} (k0 : State.inner v0) : State.inner (State.ctmLeave v0) := by
  unfold State.ctmLeave
  extract_lets +onlyGivenNames -merge x1
  clear_value x1
  exact (ite_p (fun _ => (State.updBank_inner (fun _ h => { h with }) k0)) (fun _ => (ite_p (fun _ => k0) (fun _ => (clo_inner.setF rfl (State.updBank_inner (fun _ h => { h with }) (clo_inner.setF rfl k0)))))))
theorem State.ctmEntered_inner {v0} {v1} (k0 : State.inner v0) : State.inner (State.ctmEntered v0 v1) := by
  unfold State.ctmEntered
  refine ite_p (fun _ => ?_) (fun _ => k0)
  extract_lets +onlyGivenNames -merge x1 x2 x4
  have h3 : State.inner x2 := by unfold x2; exact (clo_inner.setF rfl (State.updBank_inner (fun _ h => { h with }) k0))
  have h5 : State.inner x4 := by unfold x4; exact (State.each_inv (clo_inner.mono rfl) h3 (fun _ _ h6 => (State.respond_inner h6)))
  clear_value x1 x2 x4
  exact (ite_p (fun _ => (State.ctmLeave_inner h5)) (fun _ => h5))
theorem State.sliceEnded_inner {v0} {v1} (k0 : State.inner v0) : State.inner (State.sliceEnded v0 v1) := by
  unfold State.sliceEnded
  exact (State.drainCheck_inner (State.ctmEntered_inner k0))
theorem State.cutSlice_inner {v0} {v1} (k0 : State.inner v0) : State.inner (State.cutSlice v0 v1) := by
  unfold State.cutSlice
  split
  ·
    rename_i y1 y2
    exact k0
  ·
    rename_i y3 y4 y5
    extract_lets +onlyGivenNames -merge x6
    have h7 : State.inner x6 := by unfold x6; exact (State.sliceEnded_inner (State.restoreSlice_inner k0))
    clear_value x6
    exact (ite_p (fun _ => h7) (fun _ => (State.enterSafe_inner h7)))
theorem State.abandonMarch_inner {v0} {v1} (k0 : State.inner v0) : State.inner (State.abandonMarch v0 v1) := by
  unfold State.abandonMarch
  split
  ·
    rename_i y1 y2
    exact k0
  ·
    rename_i y3 y4 y5
    exact (ite_p (fun _ => k0) (fun _ => (clo_inner.inc rfl (State.updStair_inner k0))))
theorem State.refuseQueued_inner {v0} {v1} (k0 : State.inner v0) : State.inner (State.refuseQueued v0 v1) := by
  unfold State.refuseQueued
  extract_lets +onlyGivenNames -merge x1
  clear_value x1
  refine State.each_inv (clo_inner.mono rfl) (State.updBank_inner (fun _ h => { h with }) k0) ?_
  intro a5 a6 h4
  split
  ·
    rename_i y7 y8 y9
    exact (State.laneDeny_inner (inner_svc (fun h => mwf_mput _ _ h) h4))
  ·
    rename_i y10 y11
    exact h4
theorem State.retainQueue_inner {v0} {v1} (k0 : State.inner v0) : State.inner (State.retainQueue v0 v1) := by
  unfold State.retainQueue
  refine ite_p (fun _ => k0) (fun _ => ?_)
  split
  ·
    rename_i y1 y2
    exact (State.askWake_inner k0)
  ·
    rename_i y3 y4
    exact (State.refuseQueued_inner k0)
  ·
    rename_i y5 y6
    exact k0
theorem State.askRetain_inner {v0} {v1} (k0 : State.inner v0) : (SndP State.inner) (State.askRetain v0 v1) := by
  unfold State.askRetain
  extract_lets +onlyGivenNames -merge x1
  clear_value x1
  refine ite_p (fun _ => (mk_snd k0)) (fun _ => ?_)
  extract_lets +onlyGivenNames -merge x2 x4 x6 x8
  have h3 : State.inner x2 := by unfold x2; exact (ite_p (fun _ => (State.cutSlice_inner k0)) (fun _ => k0))
  have h5 : State.inner x4 := by unfold x4; exact (clo_inner.setF rfl h3)
  have h7 : State.inner x6 := by unfold x6; exact (State.updBank_inner (fun _ h => { h with }) h5)
  have h9 : State.inner x8 := by unfold x8; exact (ite_p (fun _ => h7) (fun _ => (clo_inner.setF rfl h7)))
  clear_value x2 x4 x6 x8
  exact (mk_snd (State.retainQueue_inner (clo_inner.setF rfl h9)))
theorem State.askWakeCmd_inner {v0} {v1} (k0 : State.inner v0) : State.inner (State.askWakeCmd v0 v1) := by
  unfold State.askWakeCmd
  exact (ite_p (fun _ => (State.askWake_inner k0)) (fun _ => (clo_inner.setF rfl k0)))
theorem State.retentionEntered_inner {v0} {v1} (k0 : State.inner v0) : State.inner (State.retentionEntered v0 v1) := by
  unfold State.retentionEntered
  refine ite_p (fun _ => ?_) (fun _ => k0)
  extract_lets +onlyGivenNames -merge x1 x3
  have h2 : State.inner x1 := by unfold x1; exact (clo_inner.setF rfl k0)
  clear_value x1 x3
  exact (State.each_inv (clo_inner.mono rfl) (State.updBank_inner (fun _ h => { h with }) h2) (fun _ _ h4 => (State.respond_inner h4)))
theorem State.wakeStart_inner {v0} {v1} (k0 : State.inner v0) : State.inner (State.wakeStart v0 v1) := by
  unfold State.wakeStart
  extract_lets +onlyGivenNames -merge x1 x2
  clear_value x1 x2
  exact (ite_p (fun _ => (clo_inner.setF rfl (State.updBank_inner (fun _ h => { h with }) k0))) (fun _ => k0))
theorem State.askWipe_inner {v0} {v1} (k0 : State.inner v0) : (SndP State.inner) (State.askWipe v0 v1) := by
  unfold State.askWipe
  refine ite_p (fun _ => (mk_snd k0)) (fun _ => ?_)
  refine ite_p (fun _ => (mk_snd k0)) (fun _ => ?_)
  refine ite_p (fun _ => (mk_snd k0)) (fun _ => ?_)
  extract_lets +onlyGivenNames -merge x1
  have h2 : State.inner x1 := by unfold x1; exact (State.updBank_inner (fun _ h => { h with }) (State.admitLate_inner k0))
  clear_value x1
  exact (mk_snd (State.drainCheck_inner h2))
theorem State.wipeBank_inner {v0} {v1} (k0 : State.inner v0) : State.inner (State.wipeBank v0 v1) := by
  unfold State.wipeBank
  exact (State.updMow_inner (fun _ h => { h with scrubs := mwf_mput _ _ h.scrubs }) (clo_inner.wipe rfl _ _ k0))
theorem State.ctmWiped_inner {v0} {v1} (k0 : State.inner v0) : State.inner (State.ctmWiped v0 v1) := by
  unfold State.ctmWiped
  refine ite_p (fun _ => ?_) (fun _ => k0)
  extract_lets +onlyGivenNames -merge x1 x2
  have h3 : State.inner x2 := by unfold x2; exact (clo_inner.setF rfl (State.updBank_inner (fun _ h => { h with }) k0))
  clear_value x1 x2
  exact (State.each_inv (clo_inner.mono rfl) (clo_inner.setF rfl h3) (fun _ _ h4 => (State.respond_inner h4)))
theorem State.wipeComplete_inner {v0} {v1} (k0 : State.inner v0) : State.inner (State.wipeComplete v0 v1) := by
  unfold State.wipeComplete
  refine ite_p (fun _ => k0) (fun _ => ?_)
  extract_lets +onlyGivenNames -merge x1
  have h2 : State.inner x1 := by unfold x1; exact (State.ctmWiped_inner (clo_inner.setF rfl (State.wipeBank_inner k0)))
  clear_value x1
  split
  ·
    rename_i y3 y4
    exact (State.endBankCmds_inner (clo_inner.setF rfl (State.updBank_inner (fun _ h => { h with }) h2)))
  ·
    rename_i y5 y6
    exact (clo_inner.setF rfl (State.updBank_inner (fun _ h => { h with }) h2))
  ·
    rename_i y7 y8 y9
    exact h2
theorem State.readSpan_inner {v0} {v1} {v2} {v3} (k0 : State.inner v0) : (SndP (SndP State.inner)) (State.readSpan v0 v1 v2 v3) := by
  unfold State.readSpan
  refine foldl_p ?_ (mk_snd (mk_snd k0))
  intro a4 a5 h3
  split
  ·
    rename_i y6 y7 y8 y9 y10
    have q12 := congr_p (Q := (SndP (SndP State.inner))) y10 (by
        exact (ite_p (fun _ => (State.bankRead_inner (snd_p (snd_p h3)))) (fun _ => (State.readWord_inner (snd_p (snd_p h3)))))
      )
    have h11 : State.inner y9 := q12
    exact (mk_snd (mk_snd h11))
theorem State.writeSpanAs_inner {v0} {v1} {v2} {v3} {v4} (k0 : State.inner v0) : (SndP State.inner) (State.writeSpanAs v0 v1 v2 v3 v4) := by
  unfold State.writeSpanAs
  refine foldl_p ?_ (mk_snd k0)
  intro a4 a5 h3
  extract_lets +onlyGivenNames -merge x6 x7
  clear_value x6
  split
  ·
    rename_i y8 y9 y10 y11
    have q13 := congr_p (Q := (FstP State.inner)) y11 (by
        exact (ite_p (fun _ => (State.bankWrite_inner (snd_p h3))) (fun _ => (State.writeWord_inner (snd_p h3))))
      )
    have h12 : State.inner y9 := q13
    exact (mk_snd h12)
theorem execServiceLaneRequest_inner {v0} {v1} (k1 : State.inner v1) : (OutP State.inner) (execServiceLaneRequest v0 v1) := by
  unfold execServiceLaneRequest
  exact (mk_next (State.laneRequest_inner k1))
theorem execServiceAccess_inner {v0} {v1} {v2} {v3} (k3 : State.inner v3) : (OutP State.inner) (execServiceAccess v0 v1 v2 v3) := by
  unfold execServiceAccess
  exact (mk_next (State.serviceAccess_inner k3))
theorem execHandover_inner {v0} {v1} {v2} (k2 : State.inner v2) : (OutP State.inner) (execHandover v0 v1 v2) := by
  unfold execHandover
  exact (mk_next (snd_p (State.writeOwner_inner k2)))
theorem execHandoverComplete_inner {v0} {v1} (k1 : State.inner v1) : (OutP State.inner) (execHandoverComplete v0 v1) := by
  unfold execHandoverComplete
  exact (mk_next (State.handoverComplete_inner k1))
theorem execRetentionRequest_inner {v0} {v1} (k1 : State.inner v1) : (OutP State.inner) (execRetentionRequest v0 v1) := by
  unfold execRetentionRequest
  exact (mk_next (snd_p (State.askRetain_inner k1)))
theorem execWakeRequest_inner {v0} {v1} (k1 : State.inner v1) : (OutP State.inner) (execWakeRequest v0 v1) := by
  unfold execWakeRequest
  exact (mk_next (State.askWakeCmd_inner k1))
theorem execRetentionEntryComplete_inner {v0} {v1} (k1 : State.inner v1) : (OutP State.inner) (execRetentionEntryComplete v0 v1) := by
  unfold execRetentionEntryComplete
  exact (mk_next (State.retentionEntered_inner k1))
theorem execWakeStart_inner {v0} {v1} (k1 : State.inner v1) : (OutP State.inner) (execWakeStart v0 v1) := by
  unfold execWakeStart
  exact (mk_next (State.wakeStart_inner k1))
theorem execWipeRequest_inner {v0} {v1} (k1 : State.inner v1) : (OutP State.inner) (execWipeRequest v0 v1) := by
  unfold execWipeRequest
  exact (mk_next (snd_p (State.askWipe_inner k1)))
theorem execWipeComplete_inner {v0} {v1} (k1 : State.inner v1) : (OutP State.inner) (execWipeComplete v0 v1) := by
  unfold execWipeComplete
  exact (mk_next (State.wipeComplete_inner k1))
theorem execBankOwner_inner {v0} {v1} {v2} {v3} (k3 : State.inner v3) : (OutP State.inner) (execBankOwner v0 v1 v2 v3) := by
  unfold execBankOwner
  refine mk_next ?_
  refine State.submit_inner k3 ?_
  intro a10 h9
  refine State.checks_inner h9 ?_
  intro a14 h13
  split
  ·
    rename_i y15 y16 y17 y18
    have q20 := congr_p (Q := (SndP State.inner)) y18 (by
        exact (State.writeOwner_inner h13)
      )
    have h19 : State.inner y17 := q20
    exact (ite_p (fun _ => (State.reply_inner h19)) (fun _ => (ite_p (fun _ => (State.updBank_inner (fun _ h => { h with }) h19)) (fun _ => (State.reply_inner h19)))))
theorem execBankGuest_inner {v0} {v1} {v2} {v3} (k3 : State.inner v3) : (OutP State.inner) (execBankGuest v0 v1 v2 v3) := by
  unfold execBankGuest
  refine mk_next ?_
  refine State.submit_inner k3 ?_
  intro a10 h9
  refine State.checks_inner h9 ?_
  intro a14 h13
  split
  ·
    rename_i y15 y16 y17 y18
    have q20 := congr_p (Q := (SndP State.inner)) y18 (by
        exact (State.writeGuest_inv (clo_inner.mono rfl) h13)
      )
    have h19 : State.inner y17 := q20
    exact (State.reply_inner h19)
theorem execBankRetain_inner {v0} {v1} {v2} (k2 : State.inner v2) : (OutP State.inner) (execBankRetain v0 v1 v2) := by
  unfold execBankRetain
  refine mk_next ?_
  refine State.submit_inner k2 ?_
  intro a10 h9
  refine State.checks_inner h9 ?_
  intro a14 h13
  split
  ·
    rename_i y15 y16 y17 y18
    have q20 := congr_p (Q := (SndP State.inner)) y18 (by
        exact (State.askRetain_inner h13)
      )
    have h19 : State.inner y17 := q20
    exact (ite_p (fun _ => (State.reply_inner h19)) (fun _ => (ite_p (fun _ => (State.reply_inner h19)) (fun _ => (State.updBank_inner (fun _ h => { h with }) h19)))))
theorem execBankWake_inner {v0} {v1} {v2} (k2 : State.inner v2) : (OutP State.inner) (execBankWake v0 v1 v2) := by
  unfold execBankWake
  refine mk_next ?_
  refine State.submit_inner k2 ?_
  intro a10 h9
  refine State.checks_inner h9 ?_
  intro a14 h13
  extract_lets +onlyGivenNames -merge x15
  have h16 : State.inner x15 := by unfold x15; exact (State.askWakeCmd_inner h13)
  clear_value x15
  exact (ite_p (fun _ => (State.reply_inner h16)) (fun _ => (State.updBank_inner (fun _ h => { h with }) h16)))
theorem execBankWipe_inner {v0} {v1} {v2} (k2 : State.inner v2) : (OutP State.inner) (execBankWipe v0 v1 v2) := by
  unfold execBankWipe
  refine mk_next ?_
  refine State.submit_inner k2 ?_
  intro a10 h9
  refine State.checks_inner h9 ?_
  intro a14 h13
  split
  ·
    rename_i y15 y16 y17 y18
    have q20 := congr_p (Q := (SndP State.inner)) y18 (by
        exact (State.askWipe_inner h13)
      )
    have h19 : State.inner y17 := q20
    exact (ite_p (fun _ => (State.reply_inner h19)) (fun _ => (State.updBank_inner (fun _ h => { h with }) h19)))
theorem execBankStatus_inner {v0} {v1} {v2} (k2 : State.inner v2) : (OutP State.inner) (execBankStatus v0 v1 v2) := by
  unfold execBankStatus
  exact (mk_next (State.submit_inner k2 (fun _ h1 => (State.checks_inner h1 (fun _ h2 => (State.replyData_inner h2))))))

/-! ### RoomLogic -/

theorem State.tracks_inner {v0} {v1} (k0 : State.inner v0) : State.inner (State.tracks v0 v1) := by
  unfold State.tracks
  extract_lets +onlyGivenNames -merge x1 x2 x3 x4 x5 x6 x7 x9 x10
  have h8 : State.inner x7 := by unfold x7; exact (State.updStair_inner k0)
  have h11 : State.inner x10 := by unfold x10; exact (ite_p (fun _ => (clo_inner.setF rfl h8)) (fun _ => h8))
  clear_value x1 x2 x3 x4 x5 x6 x7 x9 x10
  exact (ite_p (fun _ => (clo_inner.setF rfl h11)) (fun _ => h11))
theorem State.trackOff_inner {v0} {v1} (k0 : State.inner v0) : State.inner (State.trackOff v0 v1) := by
  unfold State.trackOff
  extract_lets +onlyGivenNames -merge x1 x2
  have h3 : State.inner x2 := by unfold x2; exact (State.updStair_inner k0)
  clear_value x1 x2
  exact (State.tracks_inner (State.updRoom_inner (fun _ h => { h with }) h3))
theorem State.syncTracks_inner {v0} {v1} {v2} {v3} (k0 : State.inner v0) : State.inner (State.syncTracks v0 v1 v2 v3) := by
  unfold State.syncTracks
  extract_lets +onlyGivenNames -merge x1 x2 x3 x4 x5 x6 x7 x8 x9 x10
  clear_value x1 x2 x3 x4 x5 x6 x7 x8 x9 x10
  exact (clo_inner.drawn rfl  (State.updRoom_inner (fun _ h => { h with }) k0))
theorem State.ramFinish_inner {v0} {v1} {v2} (k0 : State.inner v0) : State.inner (State.ramFinish v0 v1 v2) := by
  unfold State.ramFinish
  extract_lets +onlyGivenNames -merge x1 x2 x4
  have h3 : State.inner x2 := by unfold x2; exact (State.updRoom_inner (fun _ h => { h with }) k0)
  have h5 : State.inner x4 := by
    unfold x4
    refine State.each_inv (clo_inner.mono rfl) h3 ?_
    intro a10 a11 h9
    split
    ·
      rename_i y12 y13
      exact h9
    ·
      rename_i y14 y15 y16
      split
      ·
        rename_i y17 y18 y19 y20 y21
        extract_lets +onlyGivenNames -merge x22
        clear_value x22
        split
        ·
          rename_i y23 y24 y25 y26 y27
          have q29 := congr_p (Q := (SndP (SndP State.inner))) y27 (by
              exact (State.readWord_inner h9)
            )
          have h28 : State.inner y26 := q29
          extract_lets +onlyGivenNames -merge x30
          clear_value x30
          exact (State.updRoom_inner (fun _ h => ite_p (fun _ => { h with }) fun _ => { h with }) h28)
  clear_value x1 x2 x4
  exact (clo_inner.inc rfl h5)
theorem State.ramStarve_inner {v0} {v1} {v2} (k0 : State.inner v0) : State.inner (State.ramStarve v0 v1 v2) := by
  unfold State.ramStarve
  split
  ·
    rename_i y1 y2
    exact (State.updRoom_inner (fun _ h => { h with }) k0)
  ·
    rename_i y3 y4 y5 y6
    extract_lets +onlyGivenNames -merge x7
    clear_value x7
    exact (State.updRoom_inner (fun _ h => { h with }) k0)
theorem State.ramPresent_inner {v0} {v1} {v2} {v3} (k0 : State.inner v0) : State.inner (State.ramPresent v0 v1 v2 v3) := by
  unfold State.ramPresent
  extract_lets +onlyGivenNames -merge x1 x2 x3 x4 x5
  have h6 : State.inner x5 := by unfold x5; exact (State.updRoom_inner (fun _ h => { h with }) k0)
  clear_value x1 x2 x3 x4 x5
  refine State.each_inv (clo_inner.mono rfl) h6 ?_
  intro a10 a11 h9
  split
  ·
    rename_i y12 y13
    exact h9
  ·
    rename_i y14 y15 y16 y17
    extract_lets +onlyGivenNames -merge x18 x19
    clear_value x18 x19
    exact (fst_p (State.writeWord_inner h9))
theorem State.rmregEdge_inner {v0} {v1} {v2} (k0 : State.inner v0) : State.inner (State.rmregEdge v0 v1 v2) := by
  unfold State.rmregEdge
  extract_lets +onlyGivenNames -merge x1
  clear_value x1
  exact (State.updRoom_inner (fun _ h => { h with }) k0)
theorem State.ffLoad_inner {v0} {v1} {v2} (k0 : State.inner v0) : State.inner (State.ffLoad v0 v1 v2) := by
  unfold State.ffLoad
  extract_lets +onlyGivenNames -merge x1 x2
  clear_value x1 x2
  exact (State.each_inv (clo_inner.mono rfl) (State.copyBytes_inv (clo_inner.mono rfl) k0) (fun _ _ h3 => (State.noteWord_inner (State.putBytes_inv (clo_inner.mono rfl) h3))))
theorem State.multEdge_inner {v0} {v1} {v2} {v3} (k0 : State.inner v0) : State.inner (State.multEdge v0 v1 v2 v3) := by
  unfold State.multEdge
  extract_lets +onlyGivenNames -merge x1 x2
  clear_value x1 x2
  exact (State.updPlane_inner (fun _ h => { h with mults := mwf_mput _ _ h.mults }) k0)
theorem State.fabricEdge_inner {v0} {v1} {v2} {v3} {v4} (k0 : State.inner v0) : State.inner (State.fabricEdge v0 v1 v2 v3 v4) := by
  unfold State.fabricEdge
  exact (State.each_inv (clo_inner.mono rfl) (State.each_inv (clo_inner.mono rfl) k0 (fun _ _ h1 => (State.cellEdge_inv (clo_inner.mono rfl) h1))) (fun _ _ h2 => (State.multEdge_inner h2)))

end Sys2Proof.Machine

/-!
SUPPORT. What each operation of Laws/InvSched leaves of the tables inside the units: one lemma per definition.
-/
namespace Sys2Proof.Machine


/-! ### Rooms -/

theorem State.refuseSwitch_inner {v0} {v1} {v2} (k0 : State.inner v0) : State.inner (State.refuseSwitch v0 v1 v2) := by
  unfold State.refuseSwitch
  exact (State.respondTo_inner (clo_inner.setF rfl k0))
theorem State.takeSwitch_inner {v0} {v1} {v2} {v3} {v4} (k0 : State.inner v0) : State.inner (State.takeSwitch v0 v1 v2 v3 v4) := by
  unfold State.takeSwitch
  extract_lets +onlyGivenNames -merge x1 x2 x3 x4 x5 x7 x9 x11
  have h6 : State.inner x5 := by unfold x5; exact (ite_p (fun _ => (clo_inner.setF rfl k0)) (fun _ => k0))
  have h8 : State.inner x7 := by unfold x7; exact (State.respondTo_inner h6)
  have h10 : State.inner x9 := by unfold x9; exact (clo_inner.setF rfl h8)
  have h12 : State.inner x11 := by unfold x11; exact (ite_p (fun _ => h10) (fun _ => (clo_inner.setF rfl h10)))
  clear_value x1 x2 x3 x4 x5 x7 x9 x11
  exact (State.updRoom_inner (fun _ h => { h with }) h12)
theorem State.askSwitch_inner {v0} {v1} {v2} {v3} {v4} (k0 : State.inner v0) : State.inner (State.askSwitch v0 v1 v2 v3 v4) := by
  unfold State.askSwitch
  refine ite_p (fun _ => (State.respondTo_inner k0)) (fun _ => ?_)
  refine ite_p (fun _ => (State.refuseSwitch_inner k0)) (fun _ => ?_)
  refine ite_p (fun _ => (State.refuseSwitch_inner (State.emptyPlane_inv (clo_inner.mono rfl) k0))) (fun _ => ?_)
  extract_lets +onlyGivenNames -merge x1
  clear_value x1
  exact (ite_p (fun _ => (State.refuseSwitch_inner k0)) (fun _ => (State.takeSwitch_inner k0)))
theorem State.doSwitch_inner {v0} {v1} {v2} (k0 : State.inner v0) : State.inner (State.doSwitch v0 v1 v2) := by
  unfold State.doSwitch
  extract_lets +onlyGivenNames -merge x1 x8 x10 x12 x14 x16 x17
  have h2 : State.inner x1 := by
    unfold x1
    split
    ·
      rename_i y3 y4 y5
      exact (State.ffSave_inv (clo_inner.mono rfl) k0)
    ·
      rename_i y6 y7
      exact k0
  have h9 : State.inner x8 := by unfold x8; exact (State.ffLoad_inner h2)
  have h11 : State.inner x10 := by unfold x10; exact (clo_inner.setF rfl (clo_inner.setF rfl h9))
  have h13 : State.inner x12 := by unfold x12; exact (clo_inner.setF rfl h11)
  have h15 : State.inner x14 := by unfold x14; exact (clo_inner.incW rfl h13)
  have h18 : State.inner x17 := by unfold x17; exact (State.updSched_inner (fun _ h => { h with wantSwitch := mwf_mupd _ _ h.wantSwitch }) h15)
  clear_value x1 x8 x10 x12 x14 x16 x17
  exact (State.respondTo_inner (State.updRoom_inner (fun _ h => { h with }) h18))
theorem State.heldEdge_inner {v0} {v1} (k0 : State.inner v0) : State.inner (State.heldEdge v0 v1) := by
  unfold State.heldEdge
  extract_lets +onlyGivenNames -merge x1
  clear_value x1
  refine ite_p (fun _ => k0) (fun _ => ?_)
  refine ite_p (fun _ => ?_) (fun _ => (ite_p (fun _ => (State.dropHeld_inner k0)) (fun _ => k0)))
  refine ite_p (fun _ => (State.dropHeld_inner (State.emptyPlane_inv (clo_inner.mono rfl) k0))) (fun _ => ?_)
  refine ite_p (fun _ => ?_) (fun _ => (State.doSwitch_inner k0))
  extract_lets +onlyGivenNames -merge x2
  clear_value x2
  exact (State.respondTo_inner (State.updRoom_inner (fun _ h => { h with }) (clo_inner.setF rfl k0)))
theorem State.switchEdge_inner {v0} {v1} (k0 : State.inner v0) : State.inner (State.switchEdge v0 v1) := by
  unfold State.switchEdge
  split
  ·
    rename_i y1 y2 y3 y4
    exact (State.heldEdge_inner (State.updRoom_inner (fun _ h => { h with }) (clo_inner.setF rfl (clo_inner.setF rfl k0))))
  ·
    rename_i y5 y6
    exact (State.heldEdge_inner k0)
theorem State.logicTakes_inner {v0} {v1} {v2} (k0 : State.inner v0) : State.inner (State.logicTakes v0 v1 v2) := by
  unfold State.logicTakes
  extract_lets +onlyGivenNames -merge x1 x2 x3 x4 x5 x6
  have h7 : State.inner x6 := by unfold x6; exact (clo_inner.inc rfl k0)
  clear_value x1 x2 x3 x4 x5 x6
  exact (State.updPlane_inner (fun _ h => { h with slots := by dsimp only; split <;> [exact mwf_mput _ _ h.slots; exact h.slots] }) h7)
theorem State.parkEdge_inner {v0} {v1} (k0 : State.inner v0) : State.inner (State.parkEdge v0 v1) := by
  unfold State.parkEdge
  split
  ·
    rename_i y1 y2
    exact k0
  ·
    rename_i y3 y4 y5 y6 y7
    extract_lets +onlyGivenNames -merge x8
    have h9 : State.inner x8 := by unfold x8; exact (State.updRoom_inner (fun _ h => { h with }) k0)
    clear_value x8
    exact (ite_p (fun _ => (ite_p (fun _ => (State.respondTo_inner (State.updRoom_inner (fun _ h => { h with }) (clo_inner.setF rfl h9)))) (fun _ => (State.respondTo_inner h9)))) (fun _ => (ite_p (fun _ => (State.respondTo_inner h9)) (fun _ => (ite_p (fun _ => (State.respondTo_inner (State.updRoom_inner (fun _ h => { h with }) (clo_inner.setF rfl h9)))) (fun _ => (State.respondTo_inner h9)))))))
theorem State.stopEdge_inner {v0} {v1} (k0 : State.inner v0) : State.inner (State.stopEdge v0 v1) := by
  unfold State.stopEdge
  extract_lets +onlyGivenNames -merge x1 x2 x4
  have h3 : State.inner x2 := by unfold x2; exact (ite_p (fun _ => (clo_inner.setF rfl k0)) (fun _ => k0))
  have h5 : State.inner x4 := by unfold x4; exact (ite_p (fun _ => (clo_inner.setF rfl h3)) (fun _ => h3))
  clear_value x1 x2 x4
  exact (State.updRoom_inner (fun _ h => { h with }) h5)
theorem State.lostPulse_inner {v0} {v1} {v2} (k0 : State.inner v0) : State.inner (State.lostPulse v0 v1 v2) := by
  unfold State.lostPulse
  exact (ite_p (fun _ => (State.updRoom_inner (fun _ h => { h with }) (State.updPlane_inner (fun _ h => { h with }) k0))) (fun _ => k0))
theorem State.drive_inner {v0} {v1} {v2} {v3} {v4} (k0 : State.inner v0) : State.inner (State.drive v0 v1 v2 v3 v4) := by
  unfold State.drive
  exact (State.lostPulse_inner (State.tracks_inner (State.updRoom_inner (fun _ h => { h with }) k0)))
theorem State.runEdge_inner {v0} {v1} {v2} {v3} (k0 : State.inner v0) : State.inner (State.runEdge v0 v1 v2 v3) := by
  unfold State.runEdge
  extract_lets +onlyGivenNames -merge x1 x8
  have h2 : State.inner x1 := by
    unfold x1
    split
    ·
      rename_i y3 y4 y5
      exact (State.ramStarve_inner (State.ramFinish_inner (State.logicTakes_inner (State.fabricEdge_inner k0))))
    ·
      rename_i y6 y7
      exact k0
  have h9 : State.inner x8 := by unfold x8; exact (State.switchEdge_inner h2)
  clear_value x1 x8
  split
  ·
    rename_i y10 y11 y12
    exact (State.rmregEdge_inner (State.ramPresent_inner (State.drive_inner (State.syncTracks_inner h9))))
  ·
    rename_i y13 y14
    exact h9
theorem State.roomEdge_inner {v0} {v1} {v2} {v3} (k0 : State.inner v0) : State.inner (State.roomEdge v0 v1 v2 v3) := by
  unfold State.roomEdge
  refine ite_p (fun _ => k0) (fun _ => ?_)
  extract_lets +onlyGivenNames -merge x1 x3
  have h2 : State.inner x1 := by unfold x1; exact (State.updRoom_inner (fun _ h => { h with }) k0)
  have h4 : State.inner x3 := by unfold x3; exact (ite_p (fun _ => (State.runEdge_inner h2)) (fun _ => h2))
  clear_value x1 x3
  exact (State.setDivisor_inv (clo_inner.mono rfl) (State.stopEdge_inner (State.parkEdge_inner h4)))
theorem State.heldSwitch_inner {v0} {v1} (k0 : State.inner v0) : State.inner (State.heldSwitch v0 v1) := by
  unfold State.heldSwitch
  refine ite_p (fun _ => k0) (fun _ => ?_)
  extract_lets +onlyGivenNames -merge x1 x2 x3
  have h4 : State.inner x3 := by unfold x3; exact (ite_p (fun _ => (State.scramble_inv (clo_inner.mono rfl) (clo_inner.drawn rfl  k0))) (fun _ => (clo_inner.drawn rfl  k0)))
  clear_value x1 x2 x3
  exact (State.roomEdge_inner h4)
theorem State.rowRequest_inner {v0} {v1} {v2} {v3} {v4} {v5} {v6} (k0 : State.inner v0) : State.inner (State.rowRequest v0 v1 v2 v3 v4 v5 v6) := by
  unfold State.rowRequest
  split
  ·
    rename_i y1 y2
    exact k0
  ·
    rename_i y3 y4 y5
    extract_lets +onlyGivenNames -merge x6 x7 x8 x9
    clear_value x6 x7 x8 x9
    refine ite_p (fun _ => k0) (fun _ => ?_)
    extract_lets +onlyGivenNames -merge x10
    clear_value x10
    exact (State.updPlane_inner (fun _ h => { h with }) k0)
theorem State.rowPoison_inner {v0} {v1} {v2} {v3} (k0 : State.inner v0) : State.inner (State.rowPoison v0 v1 v2 v3) := by
  unfold State.rowPoison
  exact (ite_p (fun _ => (State.updPlane_inner (fun _ h => { h with }) (State.dropWrite_inner k0))) (fun _ => (clo_inner.drawn rfl  (State.updPlane_inner (fun _ h => { h with }) k0))))
theorem State.performRow_inner {v0} {v1} {v2} {v3} {v4} {v5} (k0 : State.inner v0) : State.inner (State.performRow v0 v1 v2 v3 v4 v5) := by
  unfold State.performRow
  refine ite_p (fun _ => (State.drainCheck_inner (State.rowPoison_inner (clo_inner.inc rfl k0)))) (fun _ => ?_)
  refine ite_p (fun _ => (State.drainCheck_inner (State.rowPoison_inner k0))) (fun _ => ?_)
  extract_lets +onlyGivenNames -merge x1 x3 x5
  have h2 : State.inner x1 := by unfold x1; exact (State.updStair_inner k0)
  have h4 : State.inner x3 := by unfold x3; exact (State.rowWrite_inner h2)
  have h6 : State.inner x5 := by
    unfold x5
    refine ite_p (fun _ => (State.updPlane_inner (fun _ h => { h with }) h4)) (fun _ => ?_)
    split
    ·
      rename_i y7 y8 y9 y10 y11
      have q13 := congr_p (Q := (SndP (SndP State.inner))) y11 (by
          exact (State.rowRead_inner h2)
        )
      have h12 : State.inner y10 := q13
      exact (State.updPlane_inner (fun _ h => { h with }) h12)
  clear_value x1 x3 x5
  exact (State.drainCheck_inner h6)
theorem State.rowMove_inner {v0} {v1} {v2} (k0 : State.inner v0) : State.inner (State.rowMove v0 v1 v2) := by
  unfold State.rowMove
  refine ite_p (fun _ => k0) (fun _ => ?_)
  extract_lets +onlyGivenNames -merge x1
  have h2 : State.inner x1 := by
    unfold x1
    refine State.each_inv (clo_inner.mono rfl) k0 ?_
    intro a7 a8 h6
    split
    ·
      rename_i y9 y10 y11 y12
      exact (ite_p (fun _ => (State.askWake_inner h6)) (fun _ => h6))
    ·
      rename_i y13 y14
      exact h6
  clear_value x1
  split
  ·
    rename_i y15 y16
    exact h2
  ·
    rename_i y17 y18 y19 y20
    extract_lets +onlyGivenNames -merge x21
    have h22 : State.inner x21 := by unfold x21; exact (State.updRoom_inner (fun _ h => { h with }) (State.updPlane_inner (fun _ h => { h with }) h2))
    clear_value x21
    exact (State.carry_inner (State.performRow_inner h22))
theorem State.roomResponse_inner {v0} {v1} {v2} (k0 : State.inner v0) : State.inner (State.roomResponse v0 v1 v2) := by
  unfold State.roomResponse
  extract_lets +onlyGivenNames -merge x1
  clear_value x1
  split
  ·
    rename_i y2 y3
    exact (State.updPlane_inner (fun _ h => { h with slots := mwf_mput _ _ h.slots }) (clo_inner.inc rfl k0))
  ·
    rename_i y4 y5
    exact (State.updPlane_inner (fun _ h => { h with slots := mwf_mput _ _ h.slots }) k0)
  ·
    rename_i y6 y7 y8
    exact k0
theorem State.endpointRequest_inner {v0} {v1} (k0 : State.inner v0) : State.inner (State.endpointRequest v0 v1) := by
  unfold State.endpointRequest
  split
  ·
    rename_i y1 y2
    exact k0
  ·
    rename_i y3 y4 y5 y6
    have q8 := congr_p (Q := (OptP (SndP State.inner))) y6 (by
        exact (findSome_p (fun _ => (filter_p (State.take_inner k0))))
      )
    have h7 : State.inner y5 := q8
    refine ite_p (fun _ => (ite_p (fun _ => (State.refuse_inner h7)) (fun _ => (ite_p (fun _ => (State.refuse_inner h7)) (fun _ => (State.updRoom_inner (fun _ h => { h with }) h7)))))) (fun _ => ?_)
    refine ite_p (fun _ => ?_) (fun _ => ?_)
    ·
      split
      ·
        rename_i y9 y10 y11 y12
        have q14 := congr_p (Q := (SndP State.inner)) y12 (by
            exact (State.matchRsp_inner h7)
          )
        have h13 : State.inner y11 := q14
        exact (State.roomResponse_inner h13)
      ·
        rename_i y15 y16 y17
        have q19 := congr_p (Q := (SndP State.inner)) y17 (by
            exact (State.matchRsp_inner h7)
          )
        have h18 : State.inner y16 := q19
        exact h18
    ·
      extract_lets +onlyGivenNames -merge x20 x21 x22
      clear_value x20 x22
      refine ite_p (fun _ => (ite_p (fun _ => (State.refuse_inner h7)) (fun _ => h7))) (fun _ => ?_)
      refine ite_p (fun _ => (ite_p (fun _ => (State.refuse_inner h7)) (fun _ => h7))) (fun _ => ?_)
      refine ite_p (fun _ => (ite_p (fun _ => (State.inject_inner h7)) (fun _ => k0))) (fun _ => ?_)
      extract_lets +onlyGivenNames -merge x23
      have h24 : State.inner x23 := by unfold x23; exact (State.updPlane_inner (fun _ h => ite_p (fun _ => { h with }) fun _ => ite_p (fun _ => { h with }) fun _ => { h with }) h7)
      clear_value x23
      exact (ite_p (fun _ => (State.inject_inner h24)) (fun _ => h24))
theorem State.memAccess_inner {v0} {v1} {v2} (k0 : State.inner v0) : State.inner (State.memAccess v0 v1 v2) := by
  unfold State.memAccess
  extract_lets +onlyGivenNames -merge x1
  clear_value x1
  refine ite_p (fun _ => ?_) (fun _ => ?_)
  ·
    split
    ·
      rename_i y2 y3 y4 y5 y6
      have q8 := congr_p (Q := (SndP (SndP State.inner))) y6 (by
          exact (State.readSpan_inner k0)
        )
      have h7 : State.inner y5 := q8
      exact (State.inject_inner h7)
  ·
    split
    ·
      rename_i y9 y10 y11 y12
      have q14 := congr_p (Q := (SndP State.inner)) y12 (by
          exact (State.writeSpanAs_inner k0)
        )
      have h13 : State.inner y11 := q14
      exact (State.inject_inner h13)
theorem State.ramAccess_inner {v0} {v1} (k0 : State.inner v0) : State.inner (State.ramAccess v0 v1) := by
  unfold State.ramAccess
  split
  ·
    rename_i y1 y2
    exact k0
  ·
    rename_i y3 y4 y5 y6
    extract_lets +onlyGivenNames -merge x7
    clear_value x7
    refine ite_p (fun _ => k0) (fun _ => ?_)
    extract_lets +onlyGivenNames -merge x8
    have h9 : State.inner x8 := by unfold x8; exact (State.updRoom_inner (fun _ h => { h with }) k0)
    clear_value x8
    exact (ite_p (fun _ => (State.refuse_inner h9)) (fun _ => (State.memAccess_inner h9)))
theorem State.transmit_inner {v0} {v1} {v2} (k0 : State.inner v0) : State.inner (State.transmit v0 v1 v2) := by
  unfold State.transmit
  split
  ·
    rename_i y1 y2
    exact k0
  ·
    rename_i y3 y4 y5
    extract_lets +onlyGivenNames -merge x6 x7 x8
    clear_value x6 x7 x8
    exact (ite_p (fun _ => k0) (fun _ => (ite_p (fun _ => (ite_p (fun _ => k0) (fun _ => (State.request_inner (State.updPlane_inner (fun _ h => { h with slots := mwf_mput _ _ h.slots }) k0))))) (fun _ => (State.inject_inner k0)))))
theorem State.askLoad_inner {v0} {v1} {v2} {v3} {v4} {v5} {v6} (k0 : State.inner v0) : (SndP State.inner) (State.askLoad v0 v1 v2 v3 v4 v5 v6) := by
  unfold State.askLoad
  extract_lets +onlyGivenNames -merge x1 x2
  clear_value x1 x2
  split
  ·
    rename_i y3 y4 y5 y6
    extract_lets +onlyGivenNames -merge x7 x8
    clear_value x8
    refine ite_p (fun _ => (mk_snd k0)) (fun _ => ?_)
    refine ite_p (fun _ => (mk_snd k0)) (fun _ => ?_)
    refine ite_p (fun _ => (mk_snd k0)) (fun _ => ?_)
    extract_lets +onlyGivenNames -merge x9
    have h10 : State.inner x9 := by unfold x9; exact (clo_inner.wr rfl k0)
    clear_value x9
    refine ite_p (fun _ => (mk_snd (clo_inner.setF rfl h10))) (fun _ => ?_)
    refine ite_p (fun _ => (mk_snd (clo_inner.setF rfl h10))) (fun _ => ?_)
    extract_lets +onlyGivenNames -merge x11 x12 x14 x16 x18
    have h13 : State.inner x12 := by unfold x12; exact (clo_inner.setF rfl h10)
    have h15 : State.inner x14 := by unfold x14; exact (clo_inner.setF rfl (clo_inner.setF rfl h13))
    have h17 : State.inner x16 := by unfold x16; exact (clo_inner.setF rfl h15)
    have h19 : State.inner x18 := by unfold x18; exact (State.updRoom_inner (fun _ h => { h with }) h17)
    clear_value x11 x12 x14 x16 x18
    exact (ite_p (fun _ => (mk_snd (State.updPlane_inner (fun _ h => { h with }) (State.setPlaneState_inv (clo_inner.mono rfl) h19)))) (fun _ => (mk_snd h19)))
theorem State.bgNext_inner {v0} {v1} (k0 : State.inner v0) : State.inner (State.bgNext v0 v1) := by
  unfold State.bgNext
  refine ite_p (fun _ => k0) (fun _ => ?_)
  split
  ·
    rename_i y1 y2
    exact k0
  ·
    rename_i y3 y4 y5
    exact (snd_p (State.askLoad_inner (State.updBoot_inner k0)))
theorem State.loadOver_inner {v0} {v1} {v2} (k0 : State.inner v0) : State.inner (State.loadOver v0 v1 v2) := by
  unfold State.loadOver
  exact (State.bgNext_inner (State.loadDone_inner k0))
theorem State.setLoad_inner {v0} {v1} {v2} (k0 : State.inner v0) : State.inner (State.setLoad v0 v1 v2) := by
  unfold State.setLoad
  exact (State.updRoom_inner (fun _ h => { h with }) k0)
theorem State.startRows_inner {v0} {v1} {v2} (k0 : State.inner v0) : State.inner (State.startRows v0 v1 v2) := by
  unfold State.startRows
  extract_lets +onlyGivenNames -merge x1 x3
  have h2 : State.inner x1 := by unfold x1; exact (State.setPlaneState_inv (clo_inner.mono rfl) k0)
  have h4 : State.inner x3 := by unfold x3; exact (ite_p (fun _ => (clo_inner.setF rfl h2)) (fun _ => h2))
  clear_value x1 x3
  exact (State.setLoad_inner h4)
theorem State.afterDrain_inner {v0} {v1} {v2} (k0 : State.inner v0) : State.inner (State.afterDrain v0 v1 v2) := by
  unfold State.afterDrain
  refine ite_p (fun _ => ?_) (fun _ => (State.startRows_inner k0))
  split
  ·
    rename_i y1 y2 y3 y4
    exact (ite_p (fun _ => (State.loadOver_inner (State.setPlaneState_inv (clo_inner.mono rfl) k0))) (fun _ => (State.setLoad_inner (State.setPlaneState_inv (clo_inner.mono rfl) k0))))
theorem State.drainComplete_inner {v0} {v1} (k0 : State.inner v0) : State.inner (State.drainComplete v0 v1) := by
  unfold State.drainComplete
  split
  ·
    rename_i y1 y2 y3
    exact (ite_p (fun _ => (State.afterDrain_inner k0)) (fun _ => k0))
  ·
    rename_i y4 y5
    exact k0
theorem State.drainLimit_inner {v0} {v1} (k0 : State.inner v0) : State.inner (State.drainLimit v0 v1) := by
  unfold State.drainLimit
  split
  ·
    rename_i y1 y2 y3
    exact (ite_p (fun _ => (State.drainComplete_inner (State.updPlane_inner (fun _ h => { h with slots := mwf_retire h.slots }) k0))) (fun _ => k0))
  ·
    rename_i y4 y5
    exact k0
theorem State.shadowRow_inner {v0} {v1} {v2} {v3} (k0 : State.inner v0) : (SndP (SndP State.inner)) (State.shadowRow v0 v1 v2 v3) := by
  unfold State.shadowRow
  exact (State.rowRead_inner k0)
theorem State.loadFail_inner {v0} {v1} {v2} {v3} (k0 : State.inner v0) : State.inner (State.loadFail v0 v1 v2 v3) := by
  unfold State.loadFail
  extract_lets +onlyGivenNames -merge x1 x3
  have h2 : State.inner x1 := by unfold x1; exact (State.emptyPlane_inv (clo_inner.mono rfl) k0)
  have h4 : State.inner x3 := by unfold x3; exact (ite_p (fun _ => (State.dropHeld_inner h2)) (fun _ => h2))
  clear_value x1 x3
  exact (State.loadOver_inner h4)
theorem State.moveLoadRow_inner {v0} {v1} {v2} {v3} {v4} {v5} {v6} (k0 : State.inner v0) : State.inner (State.moveLoadRow v0 v1 v2 v3 v4 v5 v6) := by
  unfold State.moveLoadRow
  refine ite_p (fun _ => ?_) (fun _ => ?_)
  ·
    split
    ·
      rename_i y1 y2 y3 y4 y5
      have q7 := congr_p (Q := (SndP (SndP State.inner))) y5 (by
          exact (State.shadowRow_inner k0)
        )
      have h6 : State.inner y4 := q7
      extract_lets +onlyGivenNames -merge x8
      have h9 : State.inner x8 := by unfold x8; exact (ite_p (fun _ => (State.dropWrite_inner h6)) (fun _ => (State.rowWrite_inner h6)))
      clear_value x8
      exact (ite_p (fun _ => (ite_p (fun _ => (State.setLoad_inner h9)) (fun _ => (State.startRows_inner h9)))) (fun _ => (State.setLoad_inner h9)))
  ·
    split
    ·
      rename_i y10 y11 y12 y13 y14
      have q16 := congr_p (Q := (SndP (SndP State.inner))) y14 (by
          exact (State.rowRead_inner k0)
        )
      have h15 : State.inner y13 := q16
      refine ite_p (fun _ => (State.loadFail_inner (ite_p (fun _ => k0) (fun _ => h15)))) (fun _ => ?_)
      extract_lets +onlyGivenNames -merge x17
      have h18 : State.inner x17 := by unfold x17; exact (State.rowWrite_inner h15)
      clear_value x17
      exact (State.setLoad_inner h18)
theorem State.loadRow_inner {v0} {v1} {v2} (k0 : State.inner v0) : State.inner (State.loadRow v0 v1 v2) := by
  unfold State.loadRow
  split
  ·
    rename_i y1 y2
    exact k0
  ·
    rename_i y3 y4 y5
    split
    ·
      rename_i y6 y7 y8 y9
      refine ite_p (fun _ => k0) (fun _ => ?_)
      refine ite_p (fun _ => (State.askWake_inner k0)) (fun _ => ?_)
      extract_lets +onlyGivenNames -merge x10
      clear_value x10
      refine ite_p (fun _ => k0) (fun _ => ?_)
      extract_lets +onlyGivenNames -merge x11 x13 x15
      have h12 : State.inner x11 := by unfold x11; exact (ite_p (fun _ => (clo_inner.inc rfl k0)) (fun _ => k0))
      have h14 : State.inner x13 := by unfold x13; exact (State.updRoom_inner (fun _ h => { h with }) (clo_inner.inc rfl h12))
      have h16 : State.inner x15 := by unfold x15; exact (State.updStair_inner h14)
      clear_value x11 x13 x15
      exact (State.carry_inner (State.moveLoadRow_inner h16))
theorem State.loadFinish_inner {v0} {v1} (k0 : State.inner v0) : State.inner (State.loadFinish v0 v1) := by
  unfold State.loadFinish
  split
  ·
    rename_i y1 y2
    exact k0
  ·
    rename_i y3 y4 y5
    refine ite_p (fun _ => k0) (fun _ => ?_)
    refine ite_p (fun _ => (State.loadOver_inner (State.setPlaneState_inv (clo_inner.mono rfl) k0))) (fun _ => ?_)
    refine ite_p (fun _ => (State.loadOver_inner (State.updPlane_inner (fun _ h => { h with mults := rfl }) (State.setPlaneState_inv (clo_inner.mono rfl) k0)))) (fun _ => ?_)
    extract_lets +onlyGivenNames -merge x6 x7 x8 x9 x10
    clear_value x6 x7 x8 x9 x10
    refine ite_p (fun _ => (State.loadFail_inner k0)) (fun _ => ?_)
    refine ite_p (fun _ => (State.loadFail_inner k0)) (fun _ => ?_)
    extract_lets +onlyGivenNames -merge x11 x12 x14 x16 x18 x20 x22 x24
    have h13 : State.inner x12 := by unfold x12; exact (State.setPlaneState_inv (clo_inner.mono rfl) k0)
    have h15 : State.inner x14 := by unfold x14; exact (clo_inner.setF rfl h13)
    have h17 : State.inner x16 := by unfold x16; exact (clo_inner.setF rfl (clo_inner.setF rfl h15))
    have h19 : State.inner x18 := by unfold x18; exact (clo_inner.setF rfl (clo_inner.setF rfl h17))
    have h21 : State.inner x20 := by unfold x20; exact (clo_inner.incW rfl h19)
    have h23 : State.inner x22 := by unfold x22; exact (State.updPlane_inner (fun _ h => { h with mults := rfl }) h21)
    have h25 : State.inner x24 := by unfold x24; exact (State.updMow_inner (fun _ h => { h with planeRow := mwf_mput _ _ h.planeRow, scrubs := mwf_mput _ _ h.scrubs }) h23)
    clear_value x11 x12 x14 x16 x18 x20 x22 x24
    exact (State.loadOver_inner h25)
theorem execCkRoomEdge_inner {v0} {v1} {v2} {v3} (k3 : State.inner v3) : (OutP State.inner) (execCkRoomEdge v0 v1 v2 v3) := by
  unfold execCkRoomEdge
  exact (mk_next (State.roomEdge_inner k3))
theorem execHeldSwitch_inner {v0} {v1} (k1 : State.inner v1) : (OutP State.inner) (execHeldSwitch v0 v1) := by
  unfold execHeldSwitch
  exact (mk_next (State.heldSwitch_inner k1))
theorem execPlanectlSwitchRequest_inner {v0} {v1} {v2} (k2 : State.inner v2) : (OutP State.inner) (execPlanectlSwitchRequest v0 v1 v2) := by
  unfold execPlanectlSwitchRequest
  exact (mk_next (ite_p (fun _ => (State.askSwitch_inner k2)) (fun _ => k2)))
theorem execRowRequest_inner {v0} {v1} {v2} {v3} {v4} {v5} {v6} (k6 : State.inner v6) : (OutP State.inner) (execRowRequest v0 v1 v2 v3 v4 v5 v6) := by
  unfold execRowRequest
  exact (mk_next (State.rowRequest_inner k6))
theorem execRowMove_inner {v0} {v1} {v2} (k2 : State.inner v2) : (OutP State.inner) (execRowMove v0 v1 v2) := by
  unfold execRowMove
  exact (mk_next (State.rowMove_inner k2))
theorem execRoomEndpointRequest_inner {v0} {v1} (k1 : State.inner v1) : (OutP State.inner) (execRoomEndpointRequest v0 v1) := by
  unfold execRoomEndpointRequest
  exact (mk_next (State.endpointRequest_inner k1))
theorem execRoomRamAccess_inner {v0} {v1} (k1 : State.inner v1) : (OutP State.inner) (execRoomRamAccess v0 v1) := by
  unfold execRoomRamAccess
  exact (mk_next (State.ramAccess_inner k1))
theorem execCorridorTransmit_inner {v0} {v1} {v2} (k2 : State.inner v2) : (OutP State.inner) (execCorridorTransmit v0 v1 v2) := by
  unfold execCorridorTransmit
  exact (mk_next (State.transmit_inner k2))
theorem execSave_inner {v0} {v1} {v2} {v3} (k3 : State.inner v3) : (OutP State.inner) (execSave v0 v1 v2 v3) := by
  unfold execSave
  exact (mk_next (snd_p (State.askLoad_inner k3)))
theorem execDrainComplete_inner {v0} {v1} (k1 : State.inner v1) : (OutP State.inner) (execDrainComplete v0 v1) := by
  unfold execDrainComplete
  exact (mk_next (State.drainComplete_inner k1))
theorem execDrainLimit_inner {v0} {v1} (k1 : State.inner v1) : (OutP State.inner) (execDrainLimit v0 v1) := by
  unfold execDrainLimit
  exact (mk_next (State.drainLimit_inner k1))
theorem State.loadCmd_inner {v0} {v1} {v2} {v3} (k0 : State.inner v0) : State.inner (State.loadCmd v0 v1 v2 v3) := by
  unfold State.loadCmd
  split
  ·
    rename_i y1 y2 y3 y4
    have q6 := congr_p (Q := (SndP State.inner)) y4 (by
        exact (State.askLoad_inner k0)
      )
    have h5 : State.inner y3 := q6
    exact (ite_p (fun _ => h5) (fun _ => (State.reply_inner h5)))
theorem execPlaneSave_inner {v0} {v1} {v2} {v3} (k3 : State.inner v3) : (OutP State.inner) (execPlaneSave v0 v1 v2 v3) := by
  unfold execPlaneSave
  exact (mk_next (State.submit_inner k3 (fun _ h1 => (State.checks_inner h1 (fun _ h2 => (State.loadCmd_inner h2))))))
theorem execPlaneSwitch_inner {v0} {v1} {v2} {v3} (k3 : State.inner v3) : (OutP State.inner) (execPlaneSwitch v0 v1 v2 v3) := by
  unfold execPlaneSwitch
  exact (mk_next (State.submit_inner k3 (fun _ h1 => (State.checks_inner h1 (fun _ h2 => (State.askSwitch_inner h2))))))
theorem execRoomStatus_inner {v0} {v1} {v2} (k2 : State.inner v2) : (OutP State.inner) (execRoomStatus v0 v1 v2) := by
  unfold execRoomStatus
  exact (mk_next (State.submit_inner k2 (fun _ h1 => (State.checks_inner h1 (fun _ h2 => (State.replyData_inner h2))))))
theorem State.parkCmd_inner {v0} {v1} {v2} {v3} (k0 : State.inner v0) : State.inner (State.parkCmd v0 v1 v2 v3) := by
  unfold State.parkCmd
  exact (State.checks_inner k0 (fun _ h1 => (ite_p (fun _ => (State.reply_inner h1)) (fun _ => (State.updRoom_inner (fun _ h => { h with }) (State.uncommitted_inner h1))))))
theorem execRoomPark_inner {v0} {v1} {v2} (k2 : State.inner v2) : (OutP State.inner) (execRoomPark v0 v1 v2) := by
  unfold execRoomPark
  exact (mk_next (State.submit_inner k2 (fun _ h1 => (State.parkCmd_inner h1))))
theorem execRoomUnpark_inner {v0} {v1} {v2} (k2 : State.inner v2) : (OutP State.inner) (execRoomUnpark v0 v1 v2) := by
  unfold execRoomUnpark
  exact (mk_next (State.submit_inner k2 (fun _ h1 => (State.parkCmd_inner h1))))

/-! ### Repair -/

theorem State.poisonWaiting_inner {v0} {v1} (k0 : State.inner v0) : State.inner (State.poisonWaiting v0 v1) := by
  unfold State.poisonWaiting
  extract_lets +onlyGivenNames -merge x1
  have h2 : State.inner x1 := by
    unfold x1
    refine State.each_inv (clo_inner.mono rfl) k0 ?_
    intro a7 a8 h6
    extract_lets +onlyGivenNames -merge x9
    clear_value x9
    exact (State.each_inv (clo_inner.mono rfl) (State.updPlane_inner (fun _ h => { h with }) h6) (fun _ _ h10 => (State.rowPoison_inner h10)))
  clear_value x1
  refine State.each_inv (clo_inner.mono rfl) h2 ?_
  intro a14 a15 h13
  extract_lets +onlyGivenNames -merge x16 x17
  clear_value x16 x17
  exact (State.each_inv (clo_inner.mono rfl) (State.updBank_inner (fun _ h => { h with }) h13) (fun _ _ h18 => (State.performAcc_inner h18)))
theorem State.failStair_inner {v0} {v1} (k0 : State.inner v0) : State.inner (State.failStair v0 v1) := by
  unfold State.failStair
  exact (State.enterSafe_inner (State.poisonWaiting_inner (clo_inner.setF rfl k0)))
theorem State.handleFail_inner {v0} {v1} {v2} {v3} (k0 : State.inner v0) : State.inner (State.handleFail v0 v1 v2 v3) := by
  unfold State.handleFail
  split
  ·
    rename_i y1 y2 y3
    extract_lets +onlyGivenNames -merge x4 x5 x6
    have h7 : State.inner x6 := by unfold x6; exact (State.stFault_inv (clo_inner.mono rfl) k0)
    clear_value x4 x5 x6
    refine ite_p (fun _ => (State.journalBatch_inner (State.remap_inner h7))) (fun _ => ?_)
    refine ite_p (fun _ => ?_) (fun _ => ?_)
    ·
      extract_lets +onlyGivenNames -merge x8
      have h9 : State.inner x8 := by unfold x8; exact (State.journalBatch_inner (State.narrow_inv (clo_inner.mono rfl) h7))
      clear_value x8
      exact (ite_p (fun _ => (clo_inner.setF rfl h9)) (fun _ => h9))
    ·
      refine ite_p (fun _ => ?_) (fun _ => h7)
      extract_lets +onlyGivenNames -merge x10
      have h11 : State.inner x10 := by unfold x10; exact (ite_p (fun _ => (State.updStair_inner h7)) (fun _ => h7))
      clear_value x10
      exact (ite_p (fun _ => h11) (fun _ => (State.failStair_inner h11)))
theorem State.walkTest_inner {v0} {v1} (k0 : State.inner v0) : State.inner (State.walkTest v0 v1) := by
  unfold State.walkTest
  split
  ·
    rename_i y1 y2 y3
    exact (ite_p (fun _ => (State.updStair_inner k0)) (fun _ => k0))
  ·
    rename_i y4 y5
    exact k0
theorem State.repairOutcome_inner {v0} {v1} {v2} (k0 : State.inner v0) : State.inner (State.repairOutcome v0 v1 v2) := by
  unfold State.repairOutcome
  split
  ·
    rename_i y1 y2 y3
    refine ite_p (fun _ => k0) (fun _ => ?_)
    extract_lets +onlyGivenNames -merge x4 x6
    have h5 : State.inner x4 := by unfold x4; exact (State.updStair_inner k0)
    have h7 : State.inner x6 := by unfold x6; exact (clo_inner.incW rfl h5)
    clear_value x4 x6
    exact (State.each_inv (clo_inner.mono rfl) h7 (fun _ _ h8 => (State.handleFail_inner h8)))
  ·
    rename_i y9 y10
    exact k0
theorem State.repairResume_inner {v0} {v1} (k0 : State.inner v0) : State.inner (State.repairResume v0 v1) := by
  unfold State.repairResume
  split
  ·
    rename_i y1 y2 y3
    refine ite_p (fun _ => k0) (fun _ => ?_)
    extract_lets +onlyGivenNames -merge x4
    have h5 : State.inner x4 := by unfold x4; exact (clo_inner.setF rfl (State.updStair_inner k0))
    clear_value x4
    split
    ·
      rename_i y6 y7
      exact h5
    ·
      rename_i y8 y9 y10 y11
      exact (State.each_inv (clo_inner.mono rfl) (State.suspect_inner h5) (fun _ _ h12 => (State.suspect_inner h12)))
  ·
    rename_i y13 y14
    exact k0
theorem State.vtParity_inner {v0} {v1} {v2} {v3} (k0 : State.inner v0) : State.inner (State.vtParity v0 v1 v2 v3) := by
  unfold State.vtParity
  refine ite_p (fun _ => k0) (fun _ => ?_)
  extract_lets +onlyGivenNames -merge x1 x2 x3 x4 x6
  have h5 : State.inner x4 := by unfold x4; exact (clo_inner.setF rfl k0)
  have h7 : State.inner x6 := by unfold x6; exact (State.updRoom_inner (fun _ h => { h with }) h5)
  clear_value x1 x2 x3 x4 x6
  exact (State.suspect_inner h7)
theorem execVtParityMismatch_inner {v0} {v1} {v2} {v3} (k3 : State.inner v3) : (OutP State.inner) (execVtParityMismatch v0 v1 v2 v3) := by
  unfold execVtParityMismatch
  exact (mk_next (ite_p (fun _ => (State.vtParity_inner k3)) (fun _ => k3)))
theorem execWalkingPatternTest_inner {v0} {v1} (k1 : State.inner v1) : (OutP State.inner) (execWalkingPatternTest v0 v1) := by
  unfold execWalkingPatternTest
  exact (mk_next (State.walkTest_inner k1))
theorem execRepairOutcome_inner {v0} {v1} {v2} (k2 : State.inner v2) : (OutP State.inner) (execRepairOutcome v0 v1 v2) := by
  unfold execRepairOutcome
  exact (mk_next (State.repairOutcome_inner k2))
theorem execRepairSamplingResume_inner {v0} {v1} (k1 : State.inner v1) : (OutP State.inner) (execRepairSamplingResume v0 v1) := by
  unfold execRepairSamplingResume
  exact (mk_next (State.repairResume_inner k1))

/-! ### Protect -/

theorem State.setMowRow_inner {v0} {v1} {v2} (k0 : State.inner v0) : State.inner (State.setMowRow v0 v1 v2) := by
  unfold State.setMowRow
  split
  ·
    rename_i y1 y2
    exact (State.updBank_inner (fun _ h => { h with }) k0)
  ·
    rename_i y3 y4 y5
    exact (State.updMow_inner (fun _ h => { h with planeRow := mwf_mput _ _ h.planeRow }) k0)
theorem State.roundCheck_inner {v0} (k0 : State.inner v0) : State.inner (State.roundCheck v0) := by
  unfold State.roundCheck
  exact (ite_p (fun _ => (State.updMow_inner (fun _ h => { h with }) (clo_inner.incW rfl k0))) (fun _ => k0))
theorem State.mowVisit_inner {v0} {v1} (k0 : State.inner v0) : State.inner (State.mowVisit v0 v1) := by
  unfold State.mowVisit
  refine ite_p (fun _ => k0) (fun _ => ?_)
  extract_lets +onlyGivenNames -merge x1 x2 x3 x5
  have h4 : State.inner x3 := by unfold x3; exact (State.updMow_inner (fun _ h => { h with scrubs := mwf_mput _ _ h.scrubs }) k0)
  have h6 : State.inner x5 := by unfold x5; exact (State.setMowRow_inner h4)
  clear_value x1 x2 x3 x5
  exact (ite_p (fun _ => (State.roundCheck_inner (State.updMow_inner (fun _ h => { h with }) h6))) (fun _ => h6))
theorem State.scrubWord_inner {v0} {v1} {v2} (k0 : State.inner v0) : State.inner (State.scrubWord v0 v1 v2) := by
  unfold State.scrubWord
  split
  ·
    rename_i y1 y2
    exact k0
  ·
    rename_i y3 y4
    exact k0
  ·
    rename_i y5 y6
    extract_lets +onlyGivenNames -merge x7
    have h8 : State.inner x7 := by unfold x7; exact (State.storePoison_inv (clo_inner.mono rfl) (State.noteWord_inner k0))
    clear_value x7
    exact (ite_p (fun _ => (State.booksFault_inner h8)) (fun _ => h8))
  ·
    rename_i y9 y10 y11 y12
    split
    ·
      rename_i y13 y14 y15 y16
      extract_lets +onlyGivenNames -merge x17 x19
      have h18 : State.inner x17 := by unfold x17; exact (State.noteWord_inner k0)
      have h20 : State.inner x19 := by unfold x19; exact (clo_inner.setSyn rfl _ _ (State.putBytes_inv (clo_inner.mono rfl) h18))
      clear_value x17 x19
      exact (ite_p (fun _ => (State.hazard_inv (clo_inner.mono rfl) h20)) (fun _ => h20))
theorem State.scrubOne_inner {v0} {v1} {v2} {v3} {v4} (k0 : State.inner v0) : State.inner (State.scrubOne v0 v1 v2 v3 v4) := by
  unfold State.scrubOne
  extract_lets +onlyGivenNames -merge x1 x2
  clear_value x1 x2
  split
  ·
    rename_i y3 y4 y5
    exact (State.carry_inner (State.busyPair_inner k0))
  ·
    rename_i y6 y7
    extract_lets +onlyGivenNames -merge x8 x10 x17
    have h9 : State.inner x8 := by unfold x8; exact (State.updMow_inner (fun _ h => { h with scrubs := mwf_mput _ _ h.scrubs }) k0)
    have h11 : State.inner x10 := by
      unfold x10
      split
      ·
        rename_i y12 y13
        exact (State.updStair_inner (State.updBank_inner (fun _ h => { h with }) h9))
      ·
        rename_i y14 y15 y16
        exact h9
    clear_value x8 x10 x17
    exact (State.carry_inner (ite_p (fun _ => h11) (fun _ => (State.scrubWord_inner h11))))
theorem State.scrub_inner {v0} {v1} {v2} {v3} (k0 : State.inner v0) : State.inner (State.scrub v0 v1 v2 v3) := by
  unfold State.scrub
  extract_lets +onlyGivenNames -merge x1
  clear_value x1
  refine ite_p (fun _ => k0) (fun _ => ?_)
  refine ite_p (fun _ => ?_) (fun _ => (State.scrubOne_inner k0))
  split
  ·
    rename_i y2 y3
    exact (State.updBank_inner (fun _ h => { h with }) k0)
  ·
    rename_i y4 y5 y6
    exact k0
theorem State.mowWindow_inner {v0} (k0 : State.inner v0) : State.inner (State.mowWindow v0) := by
  unfold State.mowWindow
  refine ite_p (fun _ => k0) (fun _ => ?_)
  extract_lets +onlyGivenNames -merge x1 x2 x3 x4 x5 x7
  have h6 : State.inner x5 := by unfold x5; exact (clo_inner.setF rfl k0)
  have h8 : State.inner x7 := by unfold x7; exact (State.updMow_inner (fun _ h => { h with }) h6)
  clear_value x1 x2 x3 x4 x5 x7
  exact (State.setPeriod_inv (clo_inner.mono rfl) h8)
theorem State.mowStart_inner {v0} (k0 : State.inner v0) : State.inner (State.mowStart v0) := by
  unfold State.mowStart
  extract_lets +onlyGivenNames -merge x1 x3
  have h2 : State.inner x1 := by unfold x1; exact (State.updMow_inner (fun _ _ => ⟨rfl, rfl⟩) k0)
  have h4 : State.inner x3 := by unfold x3; exact (State.each_inv (clo_inner.mono rfl) h2 (fun _ _ h5 => (State.updBank_inner (fun _ h => { h with }) h5)))
  clear_value x1 x3
  exact (State.mowRefresh_inv (clo_inner.mono rfl) (State.setPeriod_inv (clo_inner.mono rfl) h4))
theorem State.copyRow_inner {v0} {v1} (k0 : State.inner v0) : State.inner (State.copyRow v0 v1) := by
  unfold State.copyRow
  split
  ·
    rename_i y1 y2
    exact k0
  ·
    rename_i y3 y4 y5 y6 y7
    refine ite_p (fun _ => k0) (fun _ => ?_)
    extract_lets +onlyGivenNames -merge x8
    have h9 : State.inner x8 := by unfold x8; exact (State.each_inv (clo_inner.mono rfl) k0 (fun _ _ h10 => (State.scrubWord_inner h10)))
    clear_value x8
    exact (State.updBank_inner (fun _ h => { h with }) h9)
theorem State.ctmEnter_inner {v0} {v1} {v2} (k0 : State.inner v0) : State.inner (State.ctmEnter v0 v1 v2) := by
  unfold State.ctmEnter
  extract_lets +onlyGivenNames -merge x1 x3 x5
  have h2 : State.inner x1 := by unfold x1; exact (clo_inner.setF rfl k0)
  have h4 : State.inner x3 := by unfold x3; exact (clo_inner.setF rfl h2)
  have h6 : State.inner x5 := by unfold x5; exact (clo_inner.setF rfl (clo_inner.setF rfl h4))
  clear_value x1 x3 x5
  exact (ite_p (fun _ => (State.updBank_inner (fun _ h => { h with }) h6)) (fun _ => (clo_inner.setF rfl h6)))
theorem State.ctmAsk_inner {v0} {v1} {v2} (k0 : State.inner v0) : (SndP State.inner) (State.ctmAsk v0 v1 v2) := by
  unfold State.ctmAsk
  extract_lets +onlyGivenNames -merge x1
  clear_value x1
  exact (ite_p (fun _ => (mk_snd (clo_inner.setF rfl k0))) (fun _ => (mk_snd (State.ctmEnter_inner k0))))
theorem State.writeCtm_inner {v0} {v1} (k0 : State.inner v0) : State.inner (State.writeCtm v0 v1) := by
  unfold State.writeCtm
  extract_lets +onlyGivenNames -merge x1 x2 x4
  have h3 : State.inner x2 := by unfold x2; exact (clo_inner.setF rfl k0)
  have h5 : State.inner x4 := by unfold x4; exact (ite_p (fun _ => h3) (fun _ => (clo_inner.setF rfl h3)))
  clear_value x1 x2 x4
  exact (ite_p (fun _ => (State.ctmLeave_inner h5)) (fun _ => (ite_p (fun _ => h5) (fun _ => (snd_p (State.ctmAsk_inner h5))))))
theorem execMowingRowVisit_inner {v0} {v1} (k1 : State.inner v1) : (OutP State.inner) (execMowingRowVisit v0 v1) := by
  unfold execMowingRowVisit
  exact (mk_next (State.mowVisit_inner k1))
theorem execScrubAccess_inner {v0} {v1} (k1 : State.inner v1) : (OutP State.inner) (execScrubAccess v0 v1) := by
  unfold execScrubAccess
  exact (mk_next (State.scrub_inner k1))
theorem execMowingWindow_inner {v0} (k0 : State.inner v0) : (OutP State.inner) (execMowingWindow v0) := by
  unfold execMowingWindow
  exact (mk_next (State.mowWindow_inner k0))
theorem execCopyPassRow_inner {v0} {v1} (k1 : State.inner v1) : (OutP State.inner) (execCopyPassRow v0 v1) := by
  unfold execCopyPassRow
  exact (mk_next (State.copyRow_inner k1))
theorem execCheckerTestModeEntry_inner {v0} {v1} (k1 : State.inner v1) : (OutP State.inner) (execCheckerTestModeEntry v0 v1) := by
  unfold execCheckerTestModeEntry
  exact (mk_next (ite_p (fun _ => k1) (fun _ => (State.writeCtm_inner k1))))
theorem execCheckerTestModeExit_inner {v0} {v1} (k1 : State.inner v1) : (OutP State.inner) (execCheckerTestModeExit v0 v1) := by
  unfold execCheckerTestModeExit
  exact (mk_next (ite_p (fun _ => k1) (fun _ => (State.writeCtm_inner k1))))
theorem execCheckerMode_inner {v0} {v1} {v2} {v3} {v4} (k4 : State.inner v4) : (OutP State.inner) (execCheckerMode v0 v1 v2 v3 v4) := by
  unfold execCheckerMode
  refine mk_next ?_
  refine State.submit_inner k4 ?_
  intro a10 h9
  refine State.checks_inner h9 ?_
  intro a14 h13
  refine ite_p (fun _ => ?_) (fun _ => (ite_p (fun _ => (State.updBank_inner (fun _ h => { h with }) (State.ctmLeave_inner h13))) (fun _ => (State.reply_inner h13))))
  split
  ·
    rename_i y15 y16 y17 y18
    have q20 := congr_p (Q := (SndP State.inner)) y18 (by
        exact (State.ctmAsk_inner h13)
      )
    have h19 : State.inner y17 := q20
    exact (ite_p (fun _ => (State.updBank_inner (fun _ h => { h with }) h19)) (fun _ => (State.reply_inner h19)))
theorem execEcLogRead_inner {v0} {v1} (k1 : State.inner v1) : (OutP State.inner) (execEcLogRead v0 v1) := by
  unfold execEcLogRead
  refine mk_next ?_
  refine State.submit_inner k1 ?_
  intro a6 h5
  extract_lets +onlyGivenNames -merge x7 x8
  have h9 : State.inner x8 := by unfold x8; exact (clo_inner.ecLog rfl _ h5)
  clear_value x7 x8
  exact (State.replyData_inner h9)

/-! ### SchedTab -/

theorem State.schedStore_inner {v0} {v1} {v2} (k0 : State.inner v0) : State.inner (State.schedStore v0 v1 v2) := by
  unfold State.schedStore
  exact (State.postSpan_inner k0)
theorem State.setDesc_inner {v0} {v1} {v2} (k0 : State.inner v0) : State.inner (State.setDesc v0 v1 v2) := by
  unfold State.setDesc
  exact (State.schedStore_inner (State.updSched_inner (fun _ h => { h with descs := mwf_mput _ _ h.descs }) k0))
theorem State.updDesc_inner {v0} {v1} {v2} (k0 : State.inner v0) : State.inner (State.updDesc v0 v1 v2) := by
  unfold State.updDesc
  exact (State.setDesc_inner k0)
theorem State.linkTo_inner {v0} {v1} {v2} (k0 : State.inner v0) : State.inner (State.linkTo v0 v1 v2) := by
  unfold State.linkTo
  split
  ·
    rename_i y1 y2
    exact (State.updDesc_inner k0)
  ·
    rename_i y3
    exact k0
theorem State.unlinkFrom_inner {v0} {v1} {v2} (k0 : State.inner v0) : State.inner (State.unlinkFrom v0 v1 v2) := by
  unfold State.unlinkFrom
  exact (State.linkTo_inner k0)
theorem State.takeFree_inner {v0} (k0 : State.inner v0) : State.inner (State.takeFree v0) := by
  unfold State.takeFree
  exact (State.updSched_inner (fun q h => by cases hq : q.freed <;> exact { h with }) k0)
theorem State.freeDesc_inner {v0} {v1} (k0 : State.inner v0) : State.inner (State.freeDesc v0 v1) := by
  unfold State.freeDesc
  extract_lets +onlyGivenNames -merge x1 x2
  have h3 : State.inner x2 := by unfold x2; exact (State.schedStore_inner k0)
  clear_value x1 x2
  exact (State.updSched_inner (fun _ h => { h with descs := mwf_mdel _ h.descs }) h3)
theorem State.meadowInit_inner {v0} (k0 : State.inner v0) : State.inner (State.meadowInit v0) := by
  unfold State.meadowInit
  exact (State.updSched_inner (fun _ h => { h with descs := rfl, mtab := rfl, mways := rfl }) k0)
theorem State.meadowStore_inner {v0} (k0 : State.inner v0) : State.inner (State.meadowStore v0) := by
  unfold State.meadowStore
  extract_lets +onlyGivenNames -merge x1
  have h2 : State.inner x1 := by unfold x1; exact (State.each_inv (clo_inner.mono rfl) k0 (fun _ _ h3 => (State.schedStore_inner h3)))
  clear_value x1
  exact (State.each_inv (clo_inner.mono rfl) h2 (fun _ _ h4 => (State.schedStore_inner h4)))
theorem State.cacheMatch_inner {v0} {v1} (k0 : State.inner v0) : State.inner (State.cacheMatch v0 v1) := by
  unfold State.cacheMatch
  extract_lets +onlyGivenNames -merge x1 x2
  have h3 : State.inner x2 := by unfold x2; exact (clo_inner.odClear rfl _ k0)
  clear_value x1 x2
  exact (ite_p (fun _ => h3) (fun _ => (ite_p (fun _ => (State.updSched_inner (fun _ h => { h with }) h3)) (fun _ => (clo_inner.drawn rfl  (State.updSched_inner (fun _ h => { h with }) h3))))))
theorem State.fetchSet_inner {v0} {v1} (k0 : State.inner v0) : State.inner (State.fetchSet v0 v1) := by
  unfold State.fetchSet
  extract_lets +onlyGivenNames -merge x1
  clear_value x1
  exact (ite_p (fun _ => k0) (fun _ => (State.sendPost_inner k0)))
theorem State.putMatch_inner {v0} {v1} {v2} (k0 : State.inner v0) : State.inner (State.putMatch v0 v1 v2) := by
  unfold State.putMatch
  extract_lets +onlyGivenNames -merge x1
  clear_value x1
  exact (State.schedStore_inner (State.updSched_inner (fun _ h => { h with mtab := mwf_mput _ _ h.mtab, mways := mwf_mput _ _ h.mways }) k0))
theorem State.dropMatch_inner {v0} {v1} (k0 : State.inner v0) : State.inner (State.dropMatch v0 v1) := by
  unfold State.dropMatch
  extract_lets +onlyGivenNames -merge x1 x2
  have h3 : State.inner x2 := by unfold x2; exact (State.updSched_inner (fun _ h => { h with mtab := mwf_mdel _ h.mtab, mways := mwf_mdel _ h.mways }) k0)
  clear_value x1 x2
  exact (ite_p (fun _ => h3) (fun _ => (State.schedStore_inner h3)))
theorem State.setFlow_inner {v0} {v1} {v2} (k0 : State.inner v0) : State.inner (State.setFlow v0 v1 v2) := by
  unfold State.setFlow
  exact (State.schedStore_inner (State.updSched_inner (fun _ h => { h with flows := mwf_mput _ _ h.flows }) k0))
theorem State.updFlow_inner {v0} {v1} {v2} (k0 : State.inner v0) : State.inner (State.updFlow v0 v1 v2) := by
  unfold State.updFlow
  exact (State.setFlow_inner k0)
theorem State.listFlow_inner {v0} {v1} (k0 : State.inner v0) : State.inner (State.listFlow v0 v1) := by
  unfold State.listFlow
  extract_lets +onlyGivenNames -merge x1
  clear_value x1
  exact (ite_p (fun _ => k0) (fun _ => (State.updPipe_inner (fun _ => Pipe.setList_inner) k0)))
theorem State.joinFlow_inner {v0} {v1} {v2} (k0 : State.inner v0) : State.inner (State.joinFlow v0 v1 v2) := by
  unfold State.joinFlow
  extract_lets +onlyGivenNames -merge x1 x2
  have h3 : State.inner x2 := by unfold x2; exact (ite_p (fun _ => (State.linkTo_inner k0)) (fun _ => k0))
  clear_value x1 x2
  exact (State.listFlow_inner (State.updFlow_inner h3))
theorem State.updGrp_inner {v0} {v1} {v2} (k0 : State.inner v0) : State.inner (State.updGrp v0 v1 v2) := by
  unfold State.updGrp
  exact (State.updSched_inner (fun _ h => { h with groups := mwf_mupd _ _ h.groups }) k0)
theorem State.admitTask_inner {v0} {v1} {v2} (k0 : State.inner v0) : State.inner (State.admitTask v0 v1 v2) := by
  unfold State.admitTask
  extract_lets +onlyGivenNames -merge x1 x2 x4 x6
  have h3 : State.inner x2 := by unfold x2; exact (State.linkTo_inner k0)
  have h5 : State.inner x4 := by unfold x4; exact (State.updDesc_inner h3)
  have h7 : State.inner x6 := by unfold x6; exact (State.updGrp_inner h5)
  clear_value x1 x2 x4 x6
  exact (State.joinFlow_inner h7)
theorem State.makeReady_inner {v0} {v1} (k0 : State.inner v0) : State.inner (State.makeReady v0 v1) := by
  unfold State.makeReady
  extract_lets +onlyGivenNames -merge x1 x3
  have h2 : State.inner x1 := by unfold x1; exact (State.updDesc_inner k0)
  clear_value x1 x3
  exact (ite_p (fun _ => (ite_p (fun _ => (State.updGrp_inner (State.linkTo_inner h2))) (fun _ => (State.admitTask_inner h2)))) (fun _ => (State.joinFlow_inner h2)))
theorem State.admitOverflow_inner {v0} {v1} (k0 : State.inner v0) : State.inner (State.admitOverflow v0 v1) := by
  unfold State.admitOverflow
  split
  ·
    rename_i y1 y2 y3 y4
    exact (ite_p (fun _ => (ite_p (fun _ => (State.booksFault_inner k0)) (fun _ => (State.admitTask_inner (State.updGrp_inner k0))))) (fun _ => k0))
  ·
    rename_i y5 y6
    exact k0
theorem State.post_inner {v0} {v1} (k0 : State.inner v0) : State.inner (State.post v0 v1) := by
  unfold State.post
  extract_lets +onlyGivenNames -merge x1
  clear_value x1
  exact (ite_p (fun _ => (State.freeDesc_inner k0)) (fun _ => (State.updSched_inner (fun _ h => { h with }) k0)))
theorem State.release_inner {v0} {v1} {v2} (k1 : State.inner v1) : State.inner (State.release v0 v1 v2) := by
  induction v0 generalizing v1 k1 v2 with
  | zero =>
    rw [State.release]
    exact k1
  | succ n ih =>
    rw [State.release]
    split
    ·
      rename_i y1 y2 y3 y4
      refine ite_p (fun _ => (State.booksFault_inner k1)) (fun _ => ?_)
      refine ite_p (fun _ => ?_) (fun _ => k1)
      extract_lets +onlyGivenNames -merge x5
      have h6 : State.inner x5 := by unfold x5; exact (State.updGrp_inner k1)
      clear_value x5
      exact (by apply ih; exact (State.admitOverflow_inner (State.post_inner h6)))
    ·
      rename_i y7 y8
      exact k1
theorem State.updDelay_inner {v0} {v1} {v2} (k0 : State.inner v0) : State.inner (State.updDelay v0 v1 v2) := by
  unfold State.updDelay
  exact (State.updSched_inner (fun _ h => { h with delays := mwf_mupd _ _ h.delays }) k0)
theorem State.insertDelay_inner {v0} {v1} {v2} {v3} (k0 : State.inner v0) : State.inner (State.insertDelay v0 v1 v2 v3) := by
  unfold State.insertDelay
  extract_lets +onlyGivenNames -merge x1
  clear_value x1
  split
  ·
    rename_i y2 y3
    exact (State.updDelay_inner k0)
  ·
    rename_i y4 y5 y6 y7
    exact (ite_p (fun _ => (State.updDelay_inner (State.linkTo_inner k0))) (fun _ => (State.updDelay_inner k0)))
theorem State.makeDelayed_inner {v0} {v1} (k0 : State.inner v0) : State.inner (State.makeDelayed v0 v1) := by
  unfold State.makeDelayed
  extract_lets +onlyGivenNames -merge x1 x2 x3 x5
  have h4 : State.inner x3 := by unfold x3; exact (State.updDesc_inner k0)
  clear_value x1 x2 x3 x5
  exact (ite_p (fun _ => (State.updDelay_inner h4)) (fun _ => (State.insertDelay_inner h4)))
theorem State.delayWalk_inner {v0} {v1} (k0 : State.inner v0) : State.inner (State.delayWalk v0 v1) := by
  unfold State.delayWalk
  extract_lets +onlyGivenNames -merge x1
  clear_value x1
  refine ite_p (fun _ => (State.booksFault_inner k0)) (fun _ => ?_)
  split
  ·
    rename_i y2 y3 y4 y5 y6
    split
    ·
      rename_i y7 y8 y9 y10
      refine ite_p (fun _ => (State.updDelay_inner k0)) (fun _ => ?_)
      extract_lets +onlyGivenNames -merge x11 x13
      have h12 : State.inner x11 := by unfold x11; exact (State.linkTo_inner k0)
      have h14 : State.inner x13 := by unfold x13; exact (State.linkTo_inner h12)
      clear_value x11 x13
      exact (State.updDelay_inner h14)
    ·
      rename_i y15 y16
      exact (State.updDelay_inner (State.linkTo_inner k0))
  ·
    rename_i y17 y18
    split
    ·
      rename_i y19 y20 y21 y22 y23
      exact (State.insertDelay_inner (State.updDelay_inner k0))
    ·
      rename_i y24 y25
      exact k0
theorem State.delayExpire_inner {v0} {v1} (k0 : State.inner v0) : State.inner (State.delayExpire v0 v1) := by
  unfold State.delayExpire
  split
  ·
    rename_i y1 y2 y3 y4 y5
    exact (ite_p (fun _ => (ite_p (fun _ => (State.booksFault_inner k0)) (fun _ => (State.makeReady_inner (State.updDelay_inner k0))))) (fun _ => k0))
  ·
    rename_i y6 y7
    exact k0
theorem State.refuseRec_inner {v0} {v1} (k0 : State.inner v0) : State.inner (State.refuseRec v0 v1) := by
  unfold State.refuseRec
  extract_lets +onlyGivenNames -merge x1 x3
  have h2 : State.inner x1 := by unfold x1; exact (clo_inner.setF rfl (clo_inner.inc rfl k0))
  have h4 : State.inner x3 := by unfold x3; exact (clo_inner.setF rfl h2)
  clear_value x1 x3
  exact (State.updSched_inner (fun _ h => { h with }) h4)
theorem State.completeInst_inner {v0} {v1} {v2} (k0 : State.inner v0) : State.inner (State.completeInst v0 v1 v2) := by
  unfold State.completeInst
  extract_lets +onlyGivenNames -merge x1
  have h2 : State.inner x1 := by unfold x1; exact (State.updSched_inner (fun _ h => { h with }) k0)
  clear_value x1
  exact (ite_p (fun _ => (State.makeReady_inner h2)) (fun _ => (State.makeDelayed_inner h2)))
theorem State.recFetch_inner {v0} {v1} (k0 : State.inner v0) : State.inner (State.recFetch v0 v1) := by
  unfold State.recFetch
  exact (State.fetchSet_inner k0)
theorem State.handleRec_inner {v0} {v1} (k0 : State.inner v0) : (SndP State.inner) (State.handleRec v0 v1) := by
  unfold State.handleRec
  extract_lets +onlyGivenNames -merge x1 x2 x3 x4 x5
  clear_value x1 x2 x3 x4 x5
  refine ite_p (fun _ => (mk_snd k0)) (fun _ => ?_)
  refine ite_p (fun _ => (mk_snd (State.refuseRec_inner k0))) (fun _ => ?_)
  refine ite_p (fun _ => (mk_snd (State.refuseRec_inner k0))) (fun _ => ?_)
  extract_lets +onlyGivenNames -merge x6
  clear_value x6
  refine ite_p (fun _ => ?_) (fun _ => ?_)
  ·
    split
    ·
      rename_i y7 y8
      exact (mk_snd k0)
    ·
      rename_i y9 y10 y11
      exact (ite_p (fun _ => (mk_snd (State.booksFault_inner k0))) (fun _ => (ite_p (fun _ => (mk_snd k0)) (fun _ => (mk_snd (State.completeInst_inner (State.setDesc_inner (State.takeFree_inner k0))))))))
  ·
    refine ite_p (fun _ => (mk_snd (State.fetchSet_inner k0))) (fun _ => ?_)
    refine ite_p (fun _ => (mk_snd (State.booksFault_inner k0))) (fun _ => ?_)
    split
    ·
      rename_i y12 y13
      split
      ·
        rename_i y14 y15
        exact (mk_snd k0)
      ·
        rename_i y16 y17 y18
        refine ite_p (fun _ => (mk_snd k0)) (fun _ => ?_)
        refine ite_p (fun _ => (mk_snd (State.booksFault_inner k0))) (fun _ => ?_)
        extract_lets +onlyGivenNames -merge x19
        have h20 : State.inner x19 := by unfold x19; exact (State.putMatch_inner (State.setDesc_inner (State.takeFree_inner k0)))
        clear_value x19
        exact (mk_snd (State.updSched_inner (fun _ h => { h with }) h20))
    ·
      rename_i y21 y22 y23
      extract_lets +onlyGivenNames -merge x24
      clear_value x24
      refine ite_p (fun _ => (mk_snd (State.booksFault_inner k0))) (fun _ => ?_)
      refine ite_p (fun _ => (mk_snd (State.refuseRec_inner k0))) (fun _ => ?_)
      extract_lets +onlyGivenNames -merge x25
      clear_value x25
      refine ite_p (fun _ => ?_) (fun _ => (mk_snd (State.updSched_inner (fun _ h => { h with }) (State.setDesc_inner k0))))
      refine ite_p (fun _ => (mk_snd (State.booksFault_inner k0))) (fun _ => ?_)
      refine ite_p (fun _ => (mk_snd k0)) (fun _ => ?_)
      extract_lets +onlyGivenNames -merge x26
      have h27 : State.inner x26 := by unfold x26; exact (State.dropMatch_inner k0)
      clear_value x26
      exact (mk_snd (State.completeInst_inner (State.setDesc_inner h27)))

/-! ### Sched -/

theorem State.setTok_inner {v0} {v1} {v2} (k0 : State.inner v0) : State.inner (State.setTok v0 v1 v2) := by
  unfold State.setTok
  exact (State.updSched_inner (fun _ h => { h with tokPkt := mwf_mput _ _ h.tokPkt }) k0)
theorem State.tokAnswer_inner {v0} {v1} {v2} (k0 : State.inner v0) : State.inner (State.tokAnswer v0 v1 v2) := by
  unfold State.tokAnswer
  exact (State.inject_inner k0)
theorem State.tokShut_inner {v0} {v1} (k0 : State.inner v0) : State.inner (State.tokShut v0 v1) := by
  unfold State.tokShut
  exact (State.refuse_inner (State.updSched_inner (fun _ h => { h with }) k0))
theorem State.takeToken_inner {v0} {v1} (k0 : State.inner v0) : State.inner (State.takeToken v0 v1) := by
  unfold State.takeToken
  refine ite_p (fun _ => k0) (fun _ => ?_)
  split
  ·
    rename_i y1 y2
    exact k0
  ·
    rename_i y3 y4 y5 y6
    have q8 := congr_p (Q := (OptP (SndP State.inner))) y6 (by
        exact (State.takeOn_inner k0)
      )
    have h7 : State.inner y5 := q8
    exact (ite_p (fun _ => (State.tokShut_inner h7)) (fun _ => (ite_p (fun _ => (State.tokAnswer_inner h7)) (fun _ => (State.setTok_inner h7)))))
theorem State.commitPost_inner {v0} {v1} (k0 : State.inner v0) : State.inner (State.commitPost v0 v1) := by
  unfold State.commitPost
  exact (ite_p (fun _ => (State.updMail_inner (fun _ h => { h with }) k0)) (fun _ => k0))
theorem State.tokenRecord_inner {v0} {v1} (k0 : State.inner v0) : State.inner (State.tokenRecord v0 v1) := by
  unfold State.tokenRecord
  split
  ·
    rename_i y1 y2
    exact k0
  ·
    rename_i y3 y4 y5 y6 y7
    refine ite_p (fun _ => k0) (fun _ => ?_)
    refine ite_p (fun _ => (State.recFetch_inner k0)) (fun _ => ?_)
    extract_lets +onlyGivenNames -merge x8
    have h9 : State.inner x8 := by unfold x8; exact (State.commitPost_inner k0)
    clear_value x8
    split
    ·
      rename_i y10 y11 y12 y13
      have q15 := congr_p (Q := (SndP State.inner)) y13 (by
          exact (State.handleRec_inner h9)
        )
      have h14 : State.inner y12 := q15
      extract_lets +onlyGivenNames -merge x16
      clear_value x16
      exact (ite_p (fun _ => (State.tokAnswer_inner (State.setTok_inner h14))) (fun _ => (State.setTok_inner h14)))
theorem State.sendDispatch_inner {v0} {v1} (k0 : State.inner v0) : State.inner (State.sendDispatch v0 v1) := by
  unfold State.sendDispatch
  extract_lets +onlyGivenNames -merge x1
  clear_value x1
  split
  ·
    rename_i y2 y3 y4 y5
    extract_lets +onlyGivenNames -merge x6 x7
    clear_value x6 x7
    exact (ite_p (fun _ => (State.booksFault_inner k0)) (fun _ => (State.sendPost_inner k0)))
theorem State.setWants_inner {v0} {v1} {v2} (k0 : State.inner v0) : State.inner (State.setWants v0 v1 v2) := by
  unfold State.setWants
  exact (State.updSched_inner (fun _ h => { h with wantSwitch := mwf_mput _ _ h.wantSwitch }) k0)
theorem State.wantPlane_inner {v0} {v1} {v2} (k0 : State.inner v0) : State.inner (State.wantPlane v0 v1 v2) := by
  unfold State.wantPlane
  exact (State.setWants_inner k0)
theorem State.schedSwitch_inner {v0} {v1} {v2} (k0 : State.inner v0) : State.inner (State.schedSwitch v0 v1 v2) := by
  unfold State.schedSwitch
  refine ite_p (fun _ => k0) (fun _ => ?_)
  extract_lets +onlyGivenNames -merge x1
  have h2 : State.inner x1 := by unfold x1; exact (State.wantPlane_inner k0)
  clear_value x1
  exact (State.askSwitch_inner h2)
theorem State.commitTo_inner {v0} {v1} {v2} {v3} {v4} {v5} (k0 : State.inner v0) : State.inner (State.commitTo v0 v1 v2 v3 v4 v5) := by
  unfold State.commitTo
  extract_lets +onlyGivenNames -merge x1 x2 x4 x6 x8 x10 x11 x13 x20
  have h3 : State.inner x2 := by unfold x2; exact (State.updDesc_inner k0)
  have h5 : State.inner x4 := by unfold x4; exact (State.setFlow_inner h3)
  have h7 : State.inner x6 := by unfold x6; exact (State.updPipe_inner (fun _ h => ite_p (fun _ => ⟨mwf_mput _ _ h.ready⟩) fun _ => ⟨mwf_mput _ _ h.ready⟩) h5)
  have h9 : State.inner x8 := by unfold x8; exact (clo_inner.incW rfl h7)
  have h12 : State.inner x11 := by unfold x11; exact (State.updSched_inner (fun _ h => { h with use := mwf_mput _ _ h.use }) h9)
  have h14 : State.inner x13 := by
    unfold x13
    split
    ·
      rename_i y15 y16 y17
      exact (ite_p (fun _ => (State.updRoom_inner (fun _ h => { h with }) h12)) (fun _ => h12))
    ·
      rename_i y18 y19
      exact h12
  have h21 : State.inner x20 := by unfold x20; exact (ite_p (fun _ => (State.schedSwitch_inner h14)) (fun _ => h9))
  clear_value x1 x2 x4 x6 x8 x10 x11 x13 x20
  exact (ite_p (fun _ => h21) (fun _ => (State.sendDispatch_inner h21)))
theorem State.tryLoads_inner {v0} {v1} {v2} {v3} {v4} (k0 : State.inner v0) : (SndP State.inner) (State.tryLoads v0 v1 v2 v3 v4) := by
  induction v4 generalizing v0 k0 v1 v2 v3 with
  | nil =>
    rw [State.tryLoads]
    exact (mk_snd k0)
  | cons z t ih =>
    rw [State.tryLoads]
    refine ite_p (fun _ => (by apply ih; exact k0)) (fun _ => ?_)
    refine ite_p (fun _ => (by apply ih; exact k0)) (fun _ => ?_)
    split
    ·
      rename_i y1 y2
      exact (by apply ih; exact k0)
    ·
      rename_i y3 y4 y5
      split
      ·
        rename_i y6 y7 y8 y9
        have q11 := congr_p (Q := (SndP State.inner)) y9 (by
            exact (State.askLoad_inner k0)
          )
        have h10 : State.inner y8 := q11
        exact (ite_p (fun _ => (mk_snd h10)) (fun _ => (ite_p (fun _ => (by apply ih; exact h10)) (fun _ => (by apply ih; exact (State.loadFailed_inv (clo_inner.mono rfl) h10))))))
theorem State.flowToTail_inner {v0} {v1} {v2} (k0 : State.inner v0) : State.inner (State.flowToTail v0 v1 v2) := by
  unfold State.flowToTail
  extract_lets +onlyGivenNames -merge x1
  clear_value x1
  exact (State.updPipe_inner (fun _ => Pipe.setList_inner) k0)
theorem State.beforeTook_inner {v0} {v1} (k0 : State.inner v0) : State.inner (State.beforeTook v0 v1) := by
  unfold State.beforeTook
  refine State.each_inv (clo_inner.mono rfl) k0 ?_
  intro a4 a5 h3
  split
  ·
    rename_i y6 y7
    exact h3
  ·
    rename_i y8 y9 y10
    extract_lets +onlyGivenNames -merge x11 x12
    have h13 : State.inner x12 := by unfold x12; exact (State.updSched_inner (fun _ h => { h with descs := mwf_mput _ _ h.descs }) h3)
    clear_value x11 x12
    refine ite_p (fun _ => h13) (fun _ => ?_)
    extract_lets +onlyGivenNames -merge x14
    have h15 : State.inner x14 := by unfold x14; exact (State.updSched_inner (fun _ h => { h with use := mwf_mput _ _ h.use }) h13)
    clear_value x14
    split
    ·
      rename_i y16 y17 y18
      exact (ite_p (fun _ => (State.updRoom_inner (fun _ h => { h with }) (State.setPlaneState_inv (clo_inner.mono rfl) h15))) (fun _ => h15))
    ·
      rename_i y19 y20
      exact h15
theorem State.placeFlow_inner {v0} {v1} {v2} {v3} (k0 : State.inner v0) : State.inner (State.placeFlow v0 v1 v2 v3) := by
  unfold State.placeFlow
  extract_lets +onlyGivenNames -merge x1 x2
  clear_value x1 x2
  refine ite_p (fun _ => k0) (fun _ => ?_)
  refine ite_p (fun _ => ?_) (fun _ => ?_)
  ·
    split
    ·
      rename_i y3 y4 y5
      exact (State.commitTo_inner k0)
    ·
      rename_i y6 y7
      exact (State.flowToTail_inner k0)
  ·
    extract_lets +onlyGivenNames -merge x8
    clear_value x8
    split
    ·
      rename_i y9 y10 y11
      exact (State.commitTo_inner k0)
    ·
      rename_i y12 y13
      split
      ·
        rename_i y14 y15 y16 y17
        have q19 := congr_p (Q := (SndP State.inner)) y17 (by
            exact (State.tryLoads_inner k0)
          )
        have h18 : State.inner y16 := q19
        split
        ·
          rename_i y20 y21
          exact (State.commitTo_inner h18)
        ·
          rename_i y22
          exact (State.flowToTail_inner h18)
theorem State.returnTask_inner {v0} {v1} (k0 : State.inner v0) : State.inner (State.returnTask v0 v1) := by
  unfold State.returnTask
  extract_lets +onlyGivenNames -merge x1 x2
  clear_value x1 x2
  refine ite_p (fun _ => (State.booksFault_inner k0)) (fun _ => ?_)
  extract_lets +onlyGivenNames -merge x3 x5
  have h4 : State.inner x3 := by unfold x3; exact (State.updDesc_inner k0)
  have h6 : State.inner x5 := by unfold x5; exact (ite_p (fun _ => (State.updRoom_inner (fun _ h => { h with }) h4)) (fun _ => h4))
  clear_value x3 x5
  exact (State.listFlow_inner (State.updFlow_inner h6))
theorem State.schedLoads_inner {v0} (k0 : State.inner v0) : State.inner (State.schedLoads v0) := by
  unfold State.schedLoads
  extract_lets +onlyGivenNames -merge x1
  clear_value x1
  refine State.each_inv (clo_inner.mono rfl) (State.updSched_inner (fun _ h => { h with }) k0) ?_
  intro a5 a6 h4
  split
  ·
    rename_i y7 y8 y9 y10 y11 y12
    split
    ·
      rename_i y13
      exact h4
    ·
      rename_i y14 y15
      extract_lets +onlyGivenNames -merge x16
      clear_value x16
      refine ite_p (fun _ => (ite_p (fun _ => (State.sendDispatch_inner h4)) (fun _ => h4))) (fun _ => ?_)
      extract_lets +onlyGivenNames -merge x17
      have h18 : State.inner x17 := by unfold x17; exact (State.loadFailed_inv (clo_inner.mono rfl) h4)
      clear_value x17
      exact (ite_p (fun _ => (State.returnTask_inner h18)) (fun _ => h18))
theorem State.dispatchPipe_inner {v0} {v1} (k0 : State.inner v0) : State.inner (State.dispatchPipe v0 v1) := by
  unfold State.dispatchPipe
  extract_lets +onlyGivenNames -merge x1 x3 x5
  have h2 : State.inner x1 := by unfold x1; exact (State.schedLoads_inner k0)
  have h4 : State.inner x3 := by unfold x3; exact (State.updPipe_inner (fun _ h => ite_p (fun _ => { h with }) fun _ => { h with }) h2)
  clear_value x1 x3 x5
  refine ite_p (fun _ => h4) (fun _ => ?_)
  split
  ·
    rename_i y6 y7
    exact h4
  ·
    rename_i y8 y9 y10
    split
    ·
      rename_i y11 y12
      exact (State.updPipe_inner (fun _ => Pipe.setList_inner) h4)
    ·
      rename_i y13 y14 y15
      exact (ite_p (fun _ => (State.booksFault_inner h4)) (fun _ => (State.placeFlow_inner h4)))
theorem State.dispatchAnswered_inner {v0} {v1} {v2} (k0 : State.inner v0) : State.inner (State.dispatchAnswered v0 v1 v2) := by
  unfold State.dispatchAnswered
  extract_lets +onlyGivenNames -merge x1 x2 x3
  clear_value x1 x2 x3
  exact (ite_p (fun _ => k0) (fun _ => (ite_p (fun _ => (State.sendDispatch_inner k0)) (fun _ => (State.returnTask_inner k0)))))
theorem State.sendTokens_inner {v0} {v1} (k0 : State.inner v0) : State.inner (State.sendTokens v0 v1) := by
  unfold State.sendTokens
  exact (State.sendPost_inner k0)
theorem State.schedAnswered_inner {v0} {v1} {v2} (k0 : State.inner v0) : State.inner (State.schedAnswered v0 v1 v2) := by
  unfold State.schedAnswered
  exact (ite_p (fun _ => (ite_p (fun _ => (State.sendTokens_inner k0)) (fun _ => k0))) (fun _ => (ite_p (fun _ => (State.dispatchAnswered_inner k0)) (fun _ => (ite_p (fun _ => (State.booksFault_inner k0)) (fun _ => (ite_p (fun _ => (State.cacheMatch_inner k0)) (fun _ => (State.postAnswered_inner k0)))))))))
theorem State.dispatchResponse_inner {v0} (k0 : State.inner v0) : State.inner (State.dispatchResponse v0) := by
  unfold State.dispatchResponse
  split
  ·
    rename_i y1 y2
    exact k0
  ·
    rename_i y3 y4 y5 y6
    have q8 := congr_p (Q := (OptP (SndP State.inner))) y6 (by
        exact (State.take_inner k0)
      )
    have h7 : State.inner y5 := q8
    split
    ·
      rename_i y9 y10 y11 y12
      have q14 := congr_p (Q := (SndP State.inner)) y12 (by
          exact (State.matchRsp_inner h7)
        )
      have h13 : State.inner y11 := q14
      split
      ·
        rename_i y15 y16
        exact (State.pumpPosts_inner (State.schedAnswered_inner h13))
      ·
        rename_i y17
        exact h13
theorem State.switchRepeat_inner {v0} {v1} (k0 : State.inner v0) : State.inner (State.switchRepeat v0 v1) := by
  unfold State.switchRepeat
  extract_lets +onlyGivenNames -merge x1 x2
  have h3 : State.inner x2 := by unfold x2; exact (State.setWants_inner k0)
  clear_value x1 x2
  split
  ·
    rename_i y4
    exact h3
  ·
    rename_i y5 y6 y7
    exact (ite_p (fun _ => h3) (fun _ => (State.askSwitch_inner h3)))
theorem State.schedDrained_inner {v0} (k0 : State.inner v0) : State.inner (State.schedDrained v0) := by
  unfold State.schedDrained
  refine ite_p (fun _ => ?_) (fun _ => k0)
  extract_lets +onlyGivenNames -merge x1
  clear_value x1
  exact (State.each_inv (clo_inner.mono rfl) (State.updSched_inner (fun _ h => { h with }) (clo_inner.setF rfl k0)) (fun _ _ h2 => (State.respond_inner h2)))
theorem State.resumePreempted_inner {v0} {v1} (k0 : State.inner v0) : State.inner (State.resumePreempted v0 v1) := by
  unfold State.resumePreempted
  extract_lets +onlyGivenNames -merge x1
  clear_value x1
  refine ite_p (fun _ => (State.updRoom_inner (fun _ h => { h with }) k0)) (fun _ => ?_)
  split
  ·
    rename_i y2 y3 y4
    exact (State.schedSwitch_inner (State.updRoom_inner (fun _ h => { h with }) k0))
  ·
    rename_i y5 y6
    exact k0
theorem State.taskDone_inner {v0} {v1} {v2} {v3} (k0 : State.inner v0) : State.inner (State.taskDone v0 v1 v2 v3) := by
  unfold State.taskDone
  extract_lets +onlyGivenNames -merge x1 x2 x4 x5 x7 x9 x10
  have h3 : State.inner x2 := by unfold x2; exact (State.setDesc_inner k0)
  have h6 : State.inner x5 := by unfold x5; exact (State.listFlow_inner (State.updFlow_inner h3))
  have h8 : State.inner x7 := by unfold x7; exact (ite_p (fun _ => (State.resumePreempted_inner h6)) (fun _ => h6))
  have h11 : State.inner x10 := by unfold x10; exact (ite_p (fun _ => (State.release_inner h8)) (fun _ => (State.post_inner h8)))
  clear_value x1 x2 x4 x5 x7 x9 x10
  exact (State.schedDrained_inner h11)
theorem State.doneArrives_inner {v0} {v1} (k0 : State.inner v0) : State.inner (State.doneArrives v0 v1) := by
  unfold State.doneArrives
  extract_lets +onlyGivenNames -merge x1 x2 x3 x4
  clear_value x1 x2 x3 x4
  split
  ·
    rename_i y5
    exact (clo_inner.setF rfl (clo_inner.inc rfl k0))
  ·
    rename_i y6 y7
    exact (ite_p (fun _ => (State.booksFault_inner k0)) (fun _ => (State.taskDone_inner k0)))
theorem State.done_inner {v0} (k0 : State.inner v0) : State.inner (State.done v0) := by
  unfold State.done
  refine ite_p (fun _ => k0) (fun _ => ?_)
  split
  ·
    rename_i y1 y2
    exact k0
  ·
    rename_i y3 y4 y5 y6
    have q8 := congr_p (Q := (OptP (SndP State.inner))) y6 (by
        exact (State.takeOn_inner k0)
      )
    have h7 : State.inner y5 := q8
    exact (State.doneArrives_inner h7)
theorem State.postRecord_inner {v0} (k0 : State.inner v0) : State.inner (State.postRecord v0) := by
  unfold State.postRecord
  split
  ·
    rename_i y1 y2
    exact k0
  ·
    rename_i y3 y4 y5 y6
    refine ite_p (fun _ => (State.booksFault_inner k0)) (fun _ => ?_)
    split
    ·
      rename_i y7 y8
      exact (State.freeDesc_inner (State.updSched_inner (fun _ h => { h with }) k0))
    ·
      rename_i y9 y10 y11 y12
      refine ite_p (fun _ => k0) (fun _ => ?_)
      refine ite_p (fun _ => (State.recFetch_inner k0)) (fun _ => ?_)
      split
      ·
        rename_i y13 y14 y15 y16
        have q18 := congr_p (Q := (SndP State.inner)) y16 (by
            exact (State.handleRec_inner k0)
          )
        have h17 : State.inner y15 := q18
        refine ite_p (fun _ => h17) (fun _ => ?_)
        extract_lets +onlyGivenNames -merge x19
        have h20 : State.inner x19 := by unfold x19; exact (State.updDesc_inner h17)
        clear_value x19
        exact (ite_p (fun _ => (State.schedDrained_inner (State.freeDesc_inner (State.updSched_inner (fun _ h => { h with }) h20)))) (fun _ => h20))
theorem State.evict_inner {v0} {v1} {v2} (k0 : State.inner v0) : State.inner (State.evict v0 v1 v2) := by
  unfold State.evict
  split
  ·
    rename_i y1 y2 y3
    exact (clo_inner.inc rfl (State.returnTask_inner k0))
  ·
    rename_i y4 y5
    exact k0
theorem State.loadReq_inner {v0} {v1} {v2} {v3} {v4} (k0 : State.inner v0) : (SndP State.inner) (State.loadReq v0 v1 v2 v3 v4) := by
  unfold State.loadReq
  split
  ·
    rename_i y1 y2 y3 y4
    have q6 := congr_p (Q := (SndP State.inner)) y4 (by
        exact (State.askLoad_inner k0)
      )
    have h5 : State.inner y3 := q6
    exact (ite_p (fun _ => (mk_snd (State.evict_inner h5))) (fun _ => (mk_snd h5)))
theorem execToken_inner {v0} {v1} (k1 : State.inner v1) : (OutP State.inner) (execToken v0 v1) := by
  unfold execToken
  exact (mk_next (State.takeToken_inner k1))
theorem execTokenRecord_inner {v0} {v1} (k1 : State.inner v1) : (OutP State.inner) (execTokenRecord v0 v1) := by
  unfold execTokenRecord
  exact (mk_next (State.tokenRecord_inner k1))
theorem execDispatchPipe_inner {v0} {v1} (k1 : State.inner v1) : (OutP State.inner) (execDispatchPipe v0 v1) := by
  unfold execDispatchPipe
  exact (mk_next (State.dispatchPipe_inner k1))
theorem execDispatchResponse_inner {v0} (k0 : State.inner v0) : (OutP State.inner) (execDispatchResponse v0) := by
  unfold execDispatchResponse
  exact (mk_next (State.dispatchResponse_inner k0))
theorem execSwitchRepeat_inner {v0} {v1} (k1 : State.inner v1) : (OutP State.inner) (execSwitchRepeat v0 v1) := by
  unfold execSwitchRepeat
  exact (mk_next (State.switchRepeat_inner k1))
theorem execDone_inner {v0} (k0 : State.inner v0) : (OutP State.inner) (execDone v0) := by
  unfold execDone
  exact (mk_next (State.done_inner k0))
theorem execResultRecordPost_inner {v0} (k0 : State.inner v0) : (OutP State.inner) (execResultRecordPost v0) := by
  unfold execResultRecordPost
  exact (mk_next (State.postRecord_inner k0))
theorem execTick_inner {v0} (k0 : State.inner v0) : (OutP State.inner) (execTick v0) := by
  unfold execTick
  exact (mk_next (State.updSched_inner (fun _ h => { h with }) k0))
theorem execDelayExpiry_inner {v0} {v1} (k1 : State.inner v1) : (OutP State.inner) (execDelayExpiry v0 v1) := by
  unfold execDelayExpiry
  exact (mk_next (State.delayExpire_inner k1))
theorem execDelayListWalk_inner {v0} {v1} (k1 : State.inner v1) : (OutP State.inner) (execDelayListWalk v0 v1) := by
  unfold execDelayListWalk
  exact (mk_next (State.delayWalk_inner k1))
theorem execUseCountDecay_inner {v0} (k0 : State.inner v0) : (OutP State.inner) (execUseCountDecay v0) := by
  unfold execUseCountDecay
  exact (mk_next (State.updSched_inner (fun _ h => { h with use := mwf_mmapv (f := fun _ v => v / 2) h.use }) k0))
theorem execPlanectlDone_inner {v0} {v1} (k1 : State.inner v1) : (OutP State.inner) (execPlanectlDone v0 v1) := by
  unfold execPlanectlDone
  refine mk_next ?_
  split
  ·
    rename_i y1 y2 y3
    split
    ·
      rename_i y4 y5 y6
      exact (ite_p (fun _ => (State.inject_inner k1)) (fun _ => k1))
    ·
      rename_i y7 y8
      exact k1
  ·
    rename_i y9 y10
    exact k1
theorem execLoad_inner {v0} {v1} {v2} {v3} (k3 : State.inner v3) : (OutP State.inner) (execLoad v0 v1 v2 v3) := by
  unfold execLoad
  exact (mk_next (snd_p (State.loadReq_inner k3)))
theorem execStateReload_inner {v0} {v1} {v2} {v3} (k3 : State.inner v3) : (OutP State.inner) (execStateReload v0 v1 v2 v3) := by
  unfold execStateReload
  exact (mk_next (snd_p (State.loadReq_inner k3)))
theorem execLoadRow_inner {v0} {v1} {v2} (k2 : State.inner v2) : (OutP State.inner) (execLoadRow v0 v1 v2) := by
  unfold execLoadRow
  exact (mk_next (State.schedLoads_inner (State.loadRow_inner k2)))
theorem execLoadFinish_inner {v0} {v1} (k1 : State.inner v1) : (OutP State.inner) (execLoadFinish v0 v1) := by
  unfold execLoadFinish
  exact (mk_next (State.schedLoads_inner (State.loadFinish_inner k1)))
theorem execPlaneLoad_inner {v0} {v1} {v2} {v3} (k3 : State.inner v3) : (OutP State.inner) (execPlaneLoad v0 v1 v2 v3) := by
  unfold execPlaneLoad
  refine mk_next ?_
  refine State.submit_inner k3 ?_
  intro a10 h9
  refine State.checks_inner h9 ?_
  intro a14 h13
  split
  ·
    rename_i y15 y16 y17 y18
    have q20 := congr_p (Q := (SndP State.inner)) y18 (by
        exact (State.loadReq_inner h13)
      )
    have h19 : State.inner y17 := q20
    exact (ite_p (fun _ => h19) (fun _ => (State.reply_inner h19)))
theorem execSchedStatus_inner {v0} {v1} (k1 : State.inner v1) : (OutP State.inner) (execSchedStatus v0 v1) := by
  unfold execSchedStatus
  refine mk_next ?_
  refine State.submit_inner k1 ?_
  intro a6 h5
  extract_lets +onlyGivenNames -merge x7
  clear_value x7
  exact (State.replyData_inner h5)
theorem execTaskPost_inner {v0} {v1} {v2} {v3} (k3 : State.inner v3) : (OutP State.inner) (execTaskPost v0 v1 v2 v3) := by
  unfold execTaskPost
  refine mk_next ?_
  refine State.submit_inner k3 ?_
  intro a10 h9
  refine State.checks_inner h9 ?_
  intro a14 h13
  extract_lets +onlyGivenNames -merge x15 x16 x17
  have h18 : State.inner x17 := by unfold x17; exact (State.updMail_inner (fun _ h => { h with }) (State.uncommitted_inner h13))
  clear_value x15 x16 x17
  exact (State.request_inner h18)
theorem State.stage_inner {v0} {v1} {v2} (k0 : State.inner v0) : State.inner (State.stage v0 v1 v2) := by
  unfold State.stage
  exact (inner_staged (fun h => mwf_mput _ _ h.staged) k0)
theorem execTemplateSet_inner {v0} {v1} {v2} {v3} {v4} {v5} {v6} (k6 : State.inner v6) : (OutP State.inner) (execTemplateSet v0 v1 v2 v3 v4 v5 v6) := by
  unfold execTemplateSet
  refine mk_next ?_
  refine State.submit_inner k6 ?_
  intro a10 h9
  refine State.checks_inner h9 ?_
  intro a14 h13
  extract_lets +onlyGivenNames -merge x15 x17
  have h16 : State.inner x15 := by unfold x15; exact (State.stage_inner (State.stage_inner h13))
  have h18 : State.inner x17 := by unfold x17; exact (State.stage_inner (State.stage_inner h16))
  clear_value x15 x17
  exact (State.reply_inner h18)
theorem execImageSet_inner {v0} {v1} {v2} {v3} {v4} (k4 : State.inner v4) : (OutP State.inner) (execImageSet v0 v1 v2 v3 v4) := by
  unfold execImageSet
  refine mk_next ?_
  refine State.submit_inner k4 ?_
  intro a10 h9
  refine State.checks_inner h9 ?_
  intro a14 h13
  extract_lets +onlyGivenNames -merge x15 x17
  have h16 : State.inner x15 := by unfold x15; exact (State.stage_inner (State.stage_inner h13))
  have h18 : State.inner x17 := by unfold x17; exact (State.each_inv (clo_inner.mono rfl) h16 (fun _ _ h19 => (State.stage_inner (State.stage_inner h19))))
  clear_value x15 x17
  exact (State.reply_inner h18)
theorem execFlowSet_inner {v0} {v1} {v2} {v3} {v4} {v5} (k5 : State.inner v5) : (OutP State.inner) (execFlowSet v0 v1 v2 v3 v4 v5) := by
  unfold execFlowSet
  exact (mk_next (State.submit_inner k5 (fun _ h1 => (State.checks_inner h1 (fun _ h2 => (ite_p (fun _ => (State.reply_inner (State.booksFault_inner h2))) (fun _ => (State.reply_inner (State.updFlow_inner h2)))))))))
theorem execGroupSet_inner {v0} {v1} {v2} {v3} (k3 : State.inner v3) : (OutP State.inner) (execGroupSet v0 v1 v2 v3) := by
  unfold execGroupSet
  exact (mk_next (State.submit_inner k3 (fun _ h1 => (State.checks_inner h1 (fun _ h2 => (State.reply_inner (State.updGrp_inner h2)))))))
theorem State.cancel_inner {v0} {v1} (k0 : State.inner v0) : State.inner (State.cancel v0 v1) := by
  unfold State.cancel
  extract_lets +onlyGivenNames -merge x1
  clear_value x1
  refine ite_p (fun _ => ?_) (fun _ => ?_)
  ·
    extract_lets +onlyGivenNames -merge x2
    clear_value x2
    exact (State.freeDesc_inner (State.updSched_inner (fun _ h => { h with }) (State.dropMatch_inner k0)))
  ·
    extract_lets +onlyGivenNames -merge x3 x6
    have h4 : State.inner x3 := by unfold x3; exact (State.each_inv (clo_inner.mono rfl) k0 (fun _ _ h5 => (State.unlinkFrom_inner h5)))
    have h7 : State.inner x6 := by unfold x6; exact (State.each_inv (clo_inner.mono rfl) h4 (fun _ _ h8 => (State.updDelay_inner h8)))
    clear_value x3 x6
    exact (State.freeDesc_inner h7)
theorem execTaskCancel_inner {v0} {v1} {v2} (k2 : State.inner v2) : (OutP State.inner) (execTaskCancel v0 v1 v2) := by
  unfold execTaskCancel
  exact (mk_next (State.submit_inner k2 (fun _ h1 => (State.checks_inner h1 (fun _ h2 => (ite_p (fun _ => (State.reply_inner (State.booksFault_inner h2))) (fun _ => (State.reply_inner (State.cancel_inner h2)))))))))
theorem execSchedDrain_inner {v0} {v1} {v2} (k2 : State.inner v2) : (OutP State.inner) (execSchedDrain v0 v1 v2) := by
  unfold execSchedDrain
  exact (mk_next (State.submit_inner k2 (fun _ h1 => (State.schedDrained_inner (State.updSched_inner (fun _ h => { h with }) (clo_inner.setF rfl h1))))))

end Sys2Proof.Machine

/-!
SUPPORT. What each operation of Laws/InvLink leaves of the tables inside the units: one lemma per definition.
-/
namespace Sys2Proof.Machine


/-! ### Dsp -/

theorem State.setD_inner {v0} {v1} {v2} {v3} {v4} (k0 : State.inner v0) : State.inner (State.setD v0 v1 v2 v3 v4) := by
  unfold State.setD
  exact (State.updEng_inner (fun _ => Eng.setD_inner) k0)
theorem State.setA_inner {v0} {v1} {v2} {v3} {v4} (k0 : State.inner v0) : State.inner (State.setA v0 v1 v2 v3 v4) := by
  unfold State.setA
  exact (State.updEng_inner (fun _ => Eng.setA_inner) k0)
theorem State.stepPtrs_inner {v0} {v1} {v2} (k0 : State.inner v0) : State.inner (State.stepPtrs v0 v1 v2) := by
  unfold State.stepPtrs
  exact (State.updEng_inner (fun _ => Eng.stepPtrs_inner) k0)
theorem State.engRead_inner {v0} {v1} (k0 : State.inner v0) : (SndP (SndP State.inner)) (State.engRead v0 v1) := by
  unfold State.engRead
  split
  ·
    rename_i y1 y2 y3 y4 y5
    have q7 := congr_p (Q := (SndP (SndP State.inner))) y5 (by
        exact (State.readWord_inner k0)
      )
    have h6 : State.inner y4 := q7
    exact (mk_snd (mk_snd h6))
theorem State.engStore_inner {v0} {v1} {v2} {v3} (k0 : State.inner v0) : State.inner (State.engStore v0 v1 v2 v3) := by
  unfold State.engStore
  exact (fst_p (State.writeWord_inner k0))
theorem State.engIdle_inner {v0} {v1} (k0 : State.inner v0) : State.inner (State.engIdle v0 v1) := by
  unfold State.engIdle
  extract_lets +onlyGivenNames -merge x1 x3
  have h2 : State.inner x1 := by unfold x1; exact (clo_inner.setF rfl k0)
  have h4 : State.inner x3 := by unfold x3; exact (clo_inner.setF rfl (clo_inner.setF rfl h2))
  clear_value x1 x3
  exact (State.updEng_inner (fun _ h => { h with tags := mwf_filter _ h.tags }) h4)
theorem State.endRep_inner {v0} {v1} (k0 : State.inner v0) : State.inner (State.endRep v0 v1) := by
  unfold State.endRep
  extract_lets +onlyGivenNames -merge x1
  have h2 : State.inner x1 := by unfold x1; exact (clo_inner.setF rfl (clo_inner.setF rfl (State.updEng_inner (fun _ h => { h with }) k0)))
  clear_value x1
  exact (clo_inner.setF rfl h2)
theorem State.haltLost_inner {v0} {v1} (k0 : State.inner v0) : State.inner (State.haltLost v0 v1) := by
  unfold State.haltLost
  extract_lets +onlyGivenNames -merge x1 x2 x4 x6
  have h3 : State.inner x2 := by unfold x2; exact (ite_p (fun _ => k0) (fun _ => (clo_inner.setF rfl k0)))
  have h5 : State.inner x4 := by unfold x4; exact (clo_inner.setF rfl (State.updEng_inner (fun _ h => { h with }) h3))
  have h7 : State.inner x6 := by unfold x6; exact (State.each_inv (clo_inner.mono rfl) h5 (fun _ _ h8 => (State.respond_inner h8)))
  clear_value x1 x2 x4 x6
  exact (State.each_inv (clo_inner.mono rfl) h7 (fun _ _ h9 => (State.respond_inner h9)))
theorem State.sendDone_inner {v0} {v1} {v2} {v3} (k0 : State.inner v0) : State.inner (State.sendDone v0 v1 v2 v3) := by
  unfold State.sendDone
  extract_lets +onlyGivenNames -merge x1
  clear_value x1
  exact (State.inject_inner k0)
theorem State.raise_inner {v0} {v1} {v2} {v3} {v4} (k0 : State.inner v0) : State.inner (State.raise v0 v1 v2 v3 v4) := by
  unfold State.raise
  extract_lets +onlyGivenNames -merge x1 x2 x4 x6 x8 x10 x12
  have h3 : State.inner x2 := by unfold x2; exact (clo_inner.setF rfl (clo_inner.setF rfl k0))
  have h5 : State.inner x4 := by unfold x4; exact (clo_inner.setF rfl h3)
  have h7 : State.inner x6 := by unfold x6; exact (clo_inner.setF rfl (clo_inner.setF rfl h5))
  have h9 : State.inner x8 := by unfold x8; exact (clo_inner.inc rfl h7)
  have h11 : State.inner x10 := by unfold x10; exact (State.event_inner h9)
  have h13 : State.inner x12 := by unfold x12; exact (clo_inner.setF rfl (State.haltLost_inner (State.endRep_inner h11)))
  clear_value x1 x2 x4 x6 x8 x10 x12
  refine ite_p (fun _ => ?_) (fun _ => h13)
  extract_lets +onlyGivenNames -merge x14 x15
  clear_value x14 x15
  refine ite_p (fun _ => (State.engIdle_inner (State.sendDone_inner h13))) (fun _ => ?_)
  refine ite_p (fun _ => ?_) (fun _ => h13)
  extract_lets +onlyGivenNames -merge x16
  clear_value x16
  exact (State.engIdle_inner (State.sendDone_inner h13))
theorem State.passCycles_inner {v0} {v1} {v2} {v3} {v4} (k0 : State.inner v0) : State.inner (State.passCycles v0 v1 v2 v3 v4) := by
  unfold State.passCycles
  extract_lets +onlyGivenNames -merge x1 x2
  clear_value x1 x2
  exact (State.updEng_inner (fun _ h => { h with }) k0)
theorem State.spend_inner {v0} {v1} {v2} {v3} {v4} {v5} (k0 : State.inner v0) : State.inner (State.spend v0 v1 v2 v3 v4 v5) := by
  unfold State.spend
  extract_lets +onlyGivenNames -merge x1
  clear_value x1
  exact (State.passCycles_inner k0)
theorem State.slotTaken_inner {v0} {v1} {v2} {v3} (k0 : State.inner v0) : State.inner (State.slotTaken v0 v1 v2 v3) := by
  unfold State.slotTaken
  extract_lets +onlyGivenNames -merge x1 x2 x3
  have h4 : State.inner x3 := by unfold x3; exact (State.updEng_inner (fun _ h => ite_p (fun _ => { h with }) fun _ => { h with }) k0)
  clear_value x1 x2 x3
  exact (ite_p (fun _ => (State.passCycles_inner (clo_inner.inc rfl h4))) (fun _ => h4))
theorem State.setPc_inner {v0} {v1} {v2} (k0 : State.inner v0) : State.inner (State.setPc v0 v1 v2) := by
  unfold State.setPc
  exact (clo_inner.setF rfl (State.updEng_inner (fun _ h => { h with }) k0))
theorem State.stepEnd_inner {v0} {v1} (k0 : State.inner v0) : State.inner (State.stepEnd v0 v1) := by
  unfold State.stepEnd
  extract_lets +onlyGivenNames -merge x1 x2
  have h3 : State.inner x2 := by unfold x2; exact (clo_inner.setF rfl (State.updEng_inner (fun _ h => { h with }) k0))
  clear_value x1 x2
  exact (State.each_inv (clo_inner.mono rfl) h3 (fun _ _ h4 => (State.respond_inner h4)))
theorem State.begun_inner {v0} {v1} (k0 : State.inner v0) : State.inner (State.begun v0 v1) := by
  unfold State.begun
  extract_lets +onlyGivenNames -merge x1 x2
  have h3 : State.inner x2 := by unfold x2; exact (ite_p (fun _ => (clo_inner.setF rfl (State.each_inv (clo_inner.mono rfl) k0 (fun _ _ h4 => (State.committed_inner h4))))) (fun _ => k0))
  clear_value x1 x2
  split
  ·
    rename_i y5 y6 y7
    exact (State.respond_inner (State.updEng_inner (fun _ h => { h with }) h3))
  ·
    rename_i y8 y9
    exact h3
theorem State.issue_inner {v0} {v1} {v2} {v3} {v4 : Sys2Proof.Machine.State → Sys2Proof.Machine.Issue} (k0 : State.inner v0) (k4 : ∀ a0, State.inner a0 → (IssueP State.inner) (v4 a0)) : State.inner (State.issue v0 v1 v2 v3 v4) := by
  unfold State.issue
  extract_lets +onlyGivenNames -merge x1 x2 x3
  clear_value x1 x2
  refine ite_p (fun _ => k0) (fun _ => ?_)
  refine ite_p (fun _ => (State.raise_inner (State.begun_inner k0))) (fun _ => ?_)
  split
  ·
    rename_i y4 y5 y6 y7 y8
    have q10 := congr_p (Q := (SndP (SndP State.inner))) y8 (by
        exact (State.engRead_inner k0)
      )
    have h9 : State.inner y7 := q10
    extract_lets +onlyGivenNames -merge x11
    have h12 : State.inner x11 := by unfold x11; exact (ite_p (fun _ => h9) (fun _ => k0))
    clear_value x11
    refine ite_p (fun _ => (State.raise_inner (State.begun_inner h12))) (fun _ => ?_)
    refine ite_p (fun _ => (State.raise_inner (State.begun_inner h12))) (fun _ => ?_)
    refine ite_p (fun _ => (State.raise_inner (State.begun_inner h12))) (fun _ => ?_)
    refine ite_p (fun _ => k0) (fun _ => ?_)
    split
    ·
      rename_i y13 y14
      exact (State.passCycles_inner k0)
    ·
      rename_i y15 y16 y17 y18 y19 y20
      have q22 := congr_p (Q := (IssueP State.inner)) y20 (by
          exact (k4 _ (State.begun_inner h12))
        )
      have h21 : State.inner y19 := q22
      exact (State.raise_inner h21)
    ·
      rename_i y23 y24 y25 y26
      have q28 := congr_p (Q := (IssueP State.inner)) y26 (by
          exact (k4 _ (State.begun_inner h12))
        )
      have h27 : State.inner y24 := q28
      extract_lets +onlyGivenNames -merge x29
      have h30 : State.inner x29 := by unfold x29; exact (State.updEng_inner (fun _ h => { h with }) (State.setPc_inner (State.spend_inner h27)))
      clear_value x29
      exact (clo_inner.setF rfl (clo_inner.setF rfl h30))
    ·
      rename_i y31 y32 y33 y34
      have q36 := congr_p (Q := (IssueP State.inner)) y34 (by
          exact (k4 _ (State.begun_inner h12))
        )
      have h35 : State.inner y32 := q36
      exact (State.spend_inner h35)
    ·
      rename_i y37 y38 y39 y40 y41
      have q43 := congr_p (Q := (IssueP State.inner)) y41 (by
          exact (k4 _ (State.begun_inner h12))
        )
      have h42 : State.inner y38 := q43
      extract_lets +onlyGivenNames -merge x44
      have h45 : State.inner x44 := by unfold x44; exact (State.spend_inner h42)
      clear_value x44
      refine ite_p (fun _ => ?_) (fun _ => ?_)
      ·
        extract_lets +onlyGivenNames -merge x46
        have h47 : State.inner x46 := by unfold x46; exact (State.setPc_inner h45)
        clear_value x46
        exact (ite_p (fun _ => (State.stepEnd_inner h47)) (fun _ => h47))
      ·
        extract_lets +onlyGivenNames -merge x48
        have h49 : State.inner x48 := by unfold x48; exact (clo_inner.setF rfl (State.updEng_inner (fun _ h => { h with }) h45))
        clear_value x48
        refine ite_p (fun _ => ?_) (fun _ => h49)
        extract_lets +onlyGivenNames -merge x50
        have h51 : State.inner x50 := by unfold x50; exact (State.setPc_inner (State.endRep_inner h49))
        clear_value x50
        exact (ite_p (fun _ => (State.stepEnd_inner h51)) (fun _ => h51))
theorem State.withMem_inner {v0} {v1} {v2} {v3 : Sys2Proof.Machine.State → List ℕ → Sys2Proof.Machine.Issue} (k0 : State.inner v0) (k3 : ∀ a0 a1, State.inner a0 → (IssueP State.inner) (v3 a0 a1)) : (IssueP State.inner) (State.withMem v0 v1 v2 v3) := by
  induction v2 generalizing v0 k0 v1 v3 k3 with
  | nil =>
    rw [State.withMem]
    exact (k3 _ _ k0)
  | cons z t ih =>
    rw [State.withMem]
    split
    ·
      rename_i y1 y2 y3 y4 y5
      have q7 := congr_p (Q := (SndP (SndP State.inner))) y5 (by
          exact (State.engRead_inner k0)
        )
      have h6 : State.inner y4 := q7
      exact (ite_p (fun _ => (exc_p h6)) (fun _ => (by apply ih; exact h6; exact (fun _ _ h8 => (k3 _ _ h8)))))
theorem State.doLd_inner {v0} {v1} {v2} (k0 : State.inner v0) : (IssueP State.inner) (State.doLd v0 v1 v2) := by
  unfold State.doLd
  extract_lets +onlyGivenNames -merge x1 x2
  clear_value x1 x2
  refine State.withPtrs_inv (clo_inner.mono rfl) k0 ?_
  intro a6 h5
  split
  ·
    rename_i y7 y8 y9 y10 y11
    have q13 := congr_p (Q := (SndP (SndP State.inner))) y11 (by
        exact (State.engRead_inner h5)
      )
    have h12 : State.inner y10 := q13
    exact (fin_p (State.stepPtrs_inner (State.setD_inner h12)))
theorem State.doSt_inner {v0} {v1} {v2} (k0 : State.inner v0) : (IssueP State.inner) (State.doSt v0 v1 v2) := by
  unfold State.doSt
  extract_lets +onlyGivenNames -merge x1 x2
  clear_value x1 x2
  refine State.withPtrs_inv (clo_inner.mono rfl) k0 ?_
  intro a6 h5
  split
  ·
    rename_i y7 y8 y9 y10
    exact (fin_p (State.stepPtrs_inner (State.engStore_inner h5)))
theorem State.doMov_inner {v0} {v1} {v2} (k0 : State.inner v0) : (IssueP State.inner) (State.doMov v0 v1 v2) := by
  unfold State.doMov
  extract_lets +onlyGivenNames -merge x1 x2
  clear_value x1 x2
  refine State.withPtrs_inv (clo_inner.mono rfl) k0 ?_
  intro a6 h5
  split
  ·
    rename_i y7 y8 y9 y10 y11
    have q13 := congr_p (Q := (SndP (SndP State.inner))) y11 (by
        exact (State.engRead_inner h5)
      )
    have h12 : State.inner y10 := q13
    exact (fin_p (State.stepPtrs_inner (State.engStore_inner h12)))
theorem State.doMovr_inner {v0} {v1} {v2} (k0 : State.inner v0) : (IssueP State.inner) (State.doMovr v0 v1 v2) := by
  unfold State.doMovr
  split
  ·
    rename_i y1 y2 y3 y4
    exact (fin_p (State.setD_inner k0))
theorem State.doLdi_inner {v0} {v1} {v2} (k0 : State.inner v0) : (IssueP State.inner) (State.doLdi v0 v1 v2) := by
  unfold State.doLdi
  extract_lets +onlyGivenNames -merge x1 x2
  clear_value x1 x2
  refine ite_p (fun _ => (fin_p (State.setD_inner k0))) (fun _ => ?_)
  split
  ·
    rename_i y3 y4 y5 y6
    exact (fin_p (State.setD_inner k0))
theorem State.setPtrReg_inner {v0} {v1} {v2} {v3} {v4} (k0 : State.inner v0) : State.inner (State.setPtrReg v0 v1 v2 v3 v4) := by
  unfold State.setPtrReg
  exact (State.updEng_inner (fun _ h => ite_p (fun _ => Eng.setPtr_inner h) fun _ => ite_p (fun _ => Eng.setMod_inner h) fun _ => Eng.setLen_inner h) k0)
theorem State.doSetp_inner {v0} {v1} {v2} (k0 : State.inner v0) : (IssueP State.inner) (State.doSetp v0 v1 v2) := by
  unfold State.doSetp
  exact (fin_p (State.setPtrReg_inner k0))
theorem State.doMovp_inner {v0} {v1} {v2} (k0 : State.inner v0) : (IssueP State.inner) (State.doMovp v0 v1 v2) := by
  unfold State.doMovp
  extract_lets +onlyGivenNames -merge x1 x2 x3
  clear_value x1 x2 x3
  refine ite_p (fun _ => (State.withRegs_inv (clo_inner.mono rfl) k0 (fun _ h5 => (fin_p (State.setPtrReg_inner h5))))) (fun _ => ?_)
  extract_lets +onlyGivenNames -merge x6 x7
  clear_value x6 x7
  exact (fin_p (State.setD_inner k0))
theorem State.doAcc_inner {v0} {v1} {v2} (k0 : State.inner v0) : (IssueP State.inner) (State.doAcc v0 v1 v2) := by
  unfold State.doAcc
  extract_lets +onlyGivenNames -merge x1 x2 x3
  clear_value x1 x2 x3
  split
  ·
    rename_i y4 y5 y6 y7
    split
    ·
      rename_i y8 y9 y10 y11
      extract_lets +onlyGivenNames -merge x12
      have h13 : State.inner x12 := by unfold x12; exact (ite_p (fun _ => (State.setA_inner k0)) (fun _ => (ite_p (fun _ => (State.setA_inner k0)) (fun _ => (ite_p (fun _ => (State.setA_inner k0)) (fun _ => (ite_p (fun _ => (State.setD_inner k0)) (fun _ => (State.setD_inner k0)))))))))
      clear_value x12
      exact (fin_p h13)
theorem State.aluWrite_inner {v0} {v1} {v2} {v3} (k0 : State.inner v0) : State.inner (State.aluWrite v0 v1 v2 v3) := by
  unfold State.aluWrite
  exact (State.setNZV_inv (clo_inner.mono rfl) (State.setD_inner k0))
theorem State.doAlu_inner {v0} {v1} {v2} (k0 : State.inner v0) : (IssueP State.inner) (State.doAlu v0 v1 v2) := by
  unfold State.doAlu
  extract_lets +onlyGivenNames -merge x1 x2 x3
  clear_value x1 x2 x3
  refine State.withRegs_inv (clo_inner.mono rfl) k0 ?_
  intro a7 h6
  extract_lets +onlyGivenNames -merge x8 x9
  clear_value x8 x9
  refine ite_p (fun _ => (fin_p (State.flagsOf_inv (clo_inner.mono rfl) h6))) (fun _ => ?_)
  extract_lets +onlyGivenNames -merge x10
  clear_value x10
  exact (fin_p (State.aluWrite_inner h6))
theorem State.doAlui_inner {v0} {v1} {v2} (k0 : State.inner v0) : (IssueP State.inner) (State.doAlui v0 v1 v2) := by
  unfold State.doAlui
  extract_lets +onlyGivenNames -merge x1 x2 x3
  clear_value x1 x2 x3
  refine State.withRegs_inv (clo_inner.mono rfl) k0 ?_
  intro a7 h6
  extract_lets +onlyGivenNames -merge x8
  clear_value x8
  exact (fin_p (State.aluWrite_inner h6))
theorem State.macPair_inner {v0} {v1} {v2} {v3} {v4} (k0 : State.inner v0) : State.inner (State.macPair v0 v1 v2 v3 v4) := by
  unfold State.macPair
  extract_lets +onlyGivenNames -merge x1
  clear_value x1
  split
  ·
    rename_i y2 y3 y4 y5
    split
    ·
      rename_i y6 y7 y8 y9
      exact (State.flagsOf_inv (clo_inner.mono rfl) (State.setA_inner (State.setA_inner k0)))
theorem State.doMac_inner {v0} {v1} {v2} {v3} (k0 : State.inner v0) : (IssueP State.inner) (State.doMac v0 v1 v2 v3) := by
  unfold State.doMac
  extract_lets +onlyGivenNames -merge x1 x2 x3 x4 x5 x6 x7 x8
  clear_value x1 x2 x5 x6 x7 x8
  refine State.withRegs_inv (clo_inner.mono rfl) k0 ?_
  intro a16 h15
  refine State.withPtrs_inv (clo_inner.mono rfl) h15 ?_
  intro a22 h21
  refine State.withMem_inner h21 ?_
  intro a26 a27 h25
  extract_lets +onlyGivenNames -merge x28 x29 x30
  clear_value x28 x29 x30
  exact (fin_p (State.stepPtrs_inner (State.macPair_inner h25)))
theorem State.doTapm_inner {v0} {v1} {v2} (k0 : State.inner v0) : (IssueP State.inner) (State.doTapm v0 v1 v2) := by
  unfold State.doTapm
  extract_lets +onlyGivenNames -merge x1 x2 x3 x4
  clear_value x1 x2 x3 x4
  refine State.withRegs_inv (clo_inner.mono rfl) k0 ?_
  intro a10 h9
  refine State.withPtrs_inv (clo_inner.mono rfl) h9 ?_
  intro a14 h13
  extract_lets +onlyGivenNames -merge x15
  clear_value x15
  refine State.withMem_inner h13 ?_
  intro a19 a20 h18
  extract_lets +onlyGivenNames -merge x21 x22 x23 x24
  have h25 : State.inner x24 := by unfold x24; exact (State.engStore_inner h18)
  clear_value x21 x22 x23 x24
  exact (fin_p (State.stepPtrs_inner (State.macPair_inner h25)))
theorem State.doBfly_inner {v0} {v1} {v2} (k0 : State.inner v0) : (IssueP State.inner) (State.doBfly v0 v1 v2) := by
  unfold State.doBfly
  extract_lets +onlyGivenNames -merge x1
  clear_value x1
  refine State.withPtrs_inv (clo_inner.mono rfl) k0 ?_
  intro a5 h4
  extract_lets +onlyGivenNames -merge x6
  clear_value x6
  refine State.withMem_inner h4 ?_
  intro a10 a11 h9
  extract_lets +onlyGivenNames -merge x12 x13 x14 x15 x16
  clear_value x12 x13 x14 x15 x16
  split
  ·
    rename_i y17 y18 y19 y20
    split
    ·
      rename_i y21 y22 y23 y24
      split
      ·
        rename_i y25 y26 y27 y28
        split
        ·
          rename_i y29 y30 y31 y32
          extract_lets +onlyGivenNames -merge x33 x35
          have h34 : State.inner x33 := by unfold x33; exact (State.setA_inner (State.setA_inner (State.setA_inner h9)))
          have h36 : State.inner x35 := by unfold x35; exact (State.setA_inner h34)
          clear_value x33 x35
          split
          ·
            rename_i y37 y38 y39 y40
            split
            ·
              rename_i y41 y42 y43 y44
              split
              ·
                rename_i y45 y46 y47 y48
                split
                ·
                  rename_i y49 y50 y51 y52
                  extract_lets +onlyGivenNames -merge x53 x55
                  have h54 : State.inner x53 := by unfold x53; exact (State.engStore_inner h36)
                  have h56 : State.inner x55 := by unfold x55; exact (State.engStore_inner h54)
                  clear_value x53 x55
                  exact (fin_p (State.stepPtrs_inner (State.flagsOf_inv (clo_inner.mono rfl) h56)))
theorem State.doSta_inner {v0} {v1} {v2} (k0 : State.inner v0) : (IssueP State.inner) (State.doSta v0 v1 v2) := by
  unfold State.doSta
  extract_lets +onlyGivenNames -merge x1 x2 x3 x4
  clear_value x2 x3 x4
  refine State.withPtrs_inv (clo_inner.mono rfl) k0 ?_
  intro a8 h7
  extract_lets +onlyGivenNames -merge x9 x10 x11
  clear_value x9 x10 x11
  split
  ·
    rename_i y12 y13 y14 y15
    split
    ·
      rename_i y16 y17 y18 y19
      split
      ·
        rename_i y20 y21 y22 y23
        split
        ·
          rename_i y24 y25 y26 y27
          extract_lets +onlyGivenNames -merge x28 x29 x30
          have h31 : State.inner x30 := by unfold x30; exact (ite_p (fun _ => (State.stepPtrs_inner (State.engStore_inner h7))) (fun _ => (State.setD_inner h7)))
          clear_value x28 x29 x30
          exact (fin_p (State.flagsOf_inv (clo_inner.mono rfl) h31))
theorem State.doRep_inner {v0} {v1} {v2} (k0 : State.inner v0) : (IssueP State.inner) (State.doRep v0 v1 v2) := by
  unfold State.doRep
  extract_lets +onlyGivenNames -merge x1 x2 x3
  clear_value x1 x2 x3
  split
  ·
    rename_i y4 y5 y6 y7 y8
    have q10 := congr_p (Q := (SndP (SndP State.inner))) y8 (by
        exact (State.engRead_inner k0)
      )
    have h9 : State.inner y7 := q10
    refine ite_p (fun _ => (exc_p h9)) (fun _ => ?_)
    split
    ·
      rename_i y11 y12
      exact (exc_p h9)
    ·
      rename_i y13 y14 y15
      split
      ·
        rename_i y16 y17 y18 y19
        extract_lets +onlyGivenNames -merge x20
        clear_value x20
        exact (ite_p (fun _ => (exc_p h9)) (fun _ => (ite_p (fun _ => (exc_p h9)) (fun _ => (ite_p (fun _ => (exc_p h9)) (fun _ => (startRep_p h9)))))))
theorem State.doDbnz_inner {v0} {v1} {v2} (k0 : State.inner v0) : (IssueP State.inner) (State.doDbnz v0 v1 v2) := by
  unfold State.doDbnz
  extract_lets +onlyGivenNames -merge x1
  clear_value x1
  refine State.withRegs_inv (clo_inner.mono rfl) k0 ?_
  intro a5 h4
  extract_lets +onlyGivenNames -merge x6 x7
  have h8 : State.inner x7 := by unfold x7; exact (State.setD_inner h4)
  clear_value x6 x7
  exact (ite_p (fun _ => (fin_p h8)) (fun _ => (fin_p h8)))
theorem State.doCall_inner {v0} {v1} {v2} (k0 : State.inner v0) : (IssueP State.inner) (State.doCall v0 v1 v2) := by
  unfold State.doCall
  refine ite_p (fun _ => (exc_p k0)) (fun _ => ?_)
  extract_lets +onlyGivenNames -merge x1
  clear_value x1
  exact (fin_p (State.updEng_inner (fun _ h => { h with }) k0))
theorem State.doRet_inner {v0} {v1} (k0 : State.inner v0) : (IssueP State.inner) (State.doRet v0 v1) := by
  unfold State.doRet
  split
  ·
    rename_i y1 y2
    exact (exc_p k0)
  ·
    rename_i y3 y4 y5 y6
    exact (fin_p (State.updEng_inner (fun _ h => { h with }) k0))
theorem State.deRead_inner {v0} {v1} {v2} (k0 : State.inner v0) : (SndP State.inner) (State.deRead v0 v1 v2) := by
  unfold State.deRead
  split
  ·
    rename_i y1
    exact (mk_snd k0)
  ·
    rename_i y2
    extract_lets +onlyGivenNames -merge x3
    clear_value x3
    exact (mk_snd (inner_latch (fun h => mwf_mput _ _ h) k0))
  ·
    rename_i y4
    exact (mk_snd k0)
  ·
    rename_i y5
    exact (mk_snd k0)
  ·
    rename_i y6
    exact (mk_snd (clo_inner.setF rfl k0))
  ·
    rename_i y7
    exact (mk_snd (clo_inner.setF rfl k0))
  ·
    rename_i y8 y9 y10 y11 y12 y13 y14
    exact (mk_snd k0)
theorem State.doRdr_inner {v0} {v1} {v2} (k0 : State.inner v0) : (IssueP State.inner) (State.doRdr v0 v1 v2) := by
  unfold State.doRdr
  extract_lets +onlyGivenNames -merge x1
  clear_value x1
  split
  ·
    rename_i y2 y3 y4
    split
    ·
      rename_i y5 y6 y7 y8
      have q10 := congr_p (Q := (SndP State.inner)) y8 (by
          exact (State.deRead_inner k0)
        )
      have h9 : State.inner y7 := q10
      exact (fin_p (State.setD_inner h9))
  ·
    rename_i y11 y12
    exact (fin_p (State.setD_inner k0))
theorem State.wordsAt_inner {v0} {v1} {v2} {v3} {v4} (k0 : State.inner v0) : (SndP State.inner) (State.wordsAt v0 v1 v2 v3 v4) := by
  induction v4 generalizing v0 k0 v1 v2 v3 with
  | zero =>
    rw [State.wordsAt]
    exact (mk_snd k0)
  | succ n ih =>
    rw [State.wordsAt]
    split
    ·
      rename_i y1 y2 y3 y4
      have q6 := congr_p (Q := (SndP State.inner)) y4 (by
          exact (by apply ih; exact k0)
        )
      have h5 : State.inner y3 := q6
      split
      ·
        rename_i y7 y8 y9 y10 y11
        have q13 := congr_p (Q := (SndP (SndP State.inner))) y11 (by
            exact (State.engRead_inner h5)
          )
        have h12 : State.inner y10 := q13
        exact (mk_snd h12)
theorem State.engSend_inner {v0} {v1} {v2} {v3} {v4} {v5} (k0 : State.inner v0) : State.inner (State.engSend v0 v1 v2 v3 v4 v5) := by
  unfold State.engSend
  extract_lets +onlyGivenNames -merge x1
  have h2 : State.inner x1 := by unfold x1; exact (State.updEng_inner (fun _ h => Eng.setPtr_inner (Eng.setD_inner (Eng.setTag_inner h))) k0)
  clear_value x1
  exact (State.request_inner h2)
theorem State.doGet_inner {v0} {v1} {v2} (k0 : State.inner v0) : (IssueP State.inner) (State.doGet v0 v1 v2) := by
  unfold State.doGet
  extract_lets +onlyGivenNames -merge x1 x2 x3
  clear_value x1 x2 x3
  refine State.withTag_inv (clo_inner.mono rfl) k0 ?_
  intro a8
  refine State.withRegs_inv (clo_inner.mono rfl) k0 ?_
  intro a14 h13
  refine State.withPtrs_inv (clo_inner.mono rfl) h13 ?_
  intro a18 h17
  extract_lets +onlyGivenNames -merge x19 x20 x21
  clear_value x19 x20 x21
  exact (fin_p (State.engSend_inner h17))
theorem State.doPut_inner {v0} {v1} {v2} (k0 : State.inner v0) : (IssueP State.inner) (State.doPut v0 v1 v2) := by
  unfold State.doPut
  extract_lets +onlyGivenNames -merge x1 x2 x3
  clear_value x1 x2 x3
  refine State.withTag_inv (clo_inner.mono rfl) k0 ?_
  intro a8
  refine State.withRegs_inv (clo_inner.mono rfl) k0 ?_
  intro a14 h13
  refine State.withPtrs_inv (clo_inner.mono rfl) h13 ?_
  intro a18 h17
  extract_lets +onlyGivenNames -merge x19 x20
  clear_value x19 x20
  split
  ·
    rename_i y21 y22 y23 y24
    have q26 := congr_p (Q := (SndP State.inner)) y24 (by
        exact (State.wordsAt_inner h17)
      )
    have h25 : State.inner y23 := q26
    exact (fin_p (State.engSend_inner h25))
theorem State.doSendmsg_inner {v0} {v1} {v2} (k0 : State.inner v0) : (IssueP State.inner) (State.doSendmsg v0 v1 v2) := by
  unfold State.doSendmsg
  extract_lets +onlyGivenNames -merge x1 x2 x3
  clear_value x1 x2 x3
  refine State.withTag_inv (clo_inner.mono rfl) k0 ?_
  intro a8
  refine State.withRegs_inv (clo_inner.mono rfl) k0 ?_
  intro a14 h13
  refine State.withPtrs_inv (clo_inner.mono rfl) h13 ?_
  intro a18 h17
  extract_lets +onlyGivenNames -merge x19 x20
  clear_value x19 x20
  split
  ·
    rename_i y21 y22 y23 y24
    have q26 := congr_p (Q := (SndP State.inner)) y24 (by
        exact (State.wordsAt_inner h17)
      )
    have h25 : State.inner y23 := q26
    extract_lets +onlyGivenNames -merge x27
    clear_value x27
    exact (fin_p (State.engSend_inner h25))
theorem State.engRecs_inner {v0} {v1} {v2} {v3} (k0 : State.inner v0) : (SndP State.inner) (State.engRecs v0 v1 v2 v3) := by
  induction v3 generalizing v0 k0 v1 v2 with
  | zero =>
    rw [State.engRecs]
    exact (mk_snd k0)
  | succ n ih =>
    rw [State.engRecs]
    split
    ·
      rename_i y1 y2 y3 y4 y5
      have q7 := congr_p (Q := (SndP State.inner)) y5 (by
          exact (by apply ih; exact k0)
        )
      have h6 : State.inner y4 := q7
      extract_lets +onlyGivenNames -merge x8
      clear_value x8
      split
      ·
        rename_i y9 y10 y11 y12 y13
        have q15 := congr_p (Q := (SndP (SndP State.inner))) y13 (by
            exact (State.engRead_inner h6)
          )
        have h14 : State.inner y12 := q15
        split
        ·
          rename_i y16 y17 y18 y19 y20
          have q22 := congr_p (Q := (SndP (SndP State.inner))) y20 (by
              exact (State.engRead_inner h14)
            )
          have h21 : State.inner y19 := q22
          split
          ·
            rename_i y23 y24 y25 y26 y27
            have q29 := congr_p (Q := (SndP (SndP State.inner))) y27 (by
                exact (State.engRead_inner h21)
              )
            have h28 : State.inner y26 := q29
            extract_lets +onlyGivenNames -merge x30
            clear_value x30
            exact (mk_snd h28)
theorem State.doSendtok_inner {v0} {v1} {v2} (k0 : State.inner v0) : (IssueP State.inner) (State.doSendtok v0 v1 v2) := by
  unfold State.doSendtok
  extract_lets +onlyGivenNames -merge x1 x2 x3
  clear_value x1 x2 x3
  refine State.withTag_inv (clo_inner.mono rfl) k0 ?_
  intro a8
  refine State.withRegs_inv (clo_inner.mono rfl) k0 ?_
  intro a14 h13
  refine State.withPtrs_inv (clo_inner.mono rfl) h13 ?_
  intro a18 h17
  extract_lets +onlyGivenNames -merge x19
  clear_value x19
  split
  ·
    rename_i y20 y21 y22 y23 y24
    have q26 := congr_p (Q := (SndP State.inner)) y24 (by
        exact (State.engRecs_inner h17)
      )
    have h25 : State.inner y23 := q26
    split
    ·
      rename_i y27 y28
      exact (exc_p h25)
    ·
      rename_i y29
      extract_lets +onlyGivenNames -merge x30
      clear_value x30
      exact (fin_p (State.engSend_inner h25))
theorem State.doDone_inner {v0} {v1} {v2} (k0 : State.inner v0) : (IssueP State.inner) (State.doDone v0 v1 v2) := by
  unfold State.doDone
  extract_lets +onlyGivenNames -merge x1
  clear_value x1
  refine State.withWait_inv (clo_inner.mono rfl) k0 ?_
  intro a5 h4
  split
  ·
    rename_i y6 y7 y8 y9 y10
    have q12 := congr_p (Q := (SndP State.inner)) y10 (by
        exact (State.engRecs_inner h4)
      )
    have h11 : State.inner y9 := q12
    split
    ·
      rename_i y13 y14
      exact (exc_p h11)
    ·
      rename_i y15
      extract_lets +onlyGivenNames -merge x16 x17
      have h18 : ∀ a0, State.inner a0 → (IssueP State.inner) (x17 a0) := by
        intro a20 h19
        unfold x17
        exact (ended_p (State.engIdle_inner (State.haltLost_inner (State.setPc_inner h19))))
      clear_value x16 x17
      exact (ite_p (fun _ => (State.withTag_inv (clo_inner.mono rfl) h11 (fun _ => (h18 _ (State.request_inner (State.updEng_inner (fun _ => Eng.setTag_inner) h11)))))) (fun _ => (h18 _ (ite_p (fun _ => h11) (fun _ => (State.sendDone_inner h11))))))
theorem execNopInstruction_inner {v0} {v1} {v2} (k2 : State.inner v2) : (OutP State.inner) (execNopInstruction v0 v1 v2) := by
  unfold execNopInstruction
  exact (mk_next (State.issue_inner k2 (fun _ h1 => (fin_p h1))))
theorem execLd_inner {v0} {v1} {v2} (k2 : State.inner v2) : (OutP State.inner) (execLd v0 v1 v2) := by
  unfold execLd
  exact (mk_next (State.issue_inner k2 (fun _ h1 => (State.doLd_inner h1))))
theorem execSt_inner {v0} {v1} {v2} (k2 : State.inner v2) : (OutP State.inner) (execSt v0 v1 v2) := by
  unfold execSt
  exact (mk_next (State.issue_inner k2 (fun _ h1 => (State.doSt_inner h1))))
theorem execMov_inner {v0} {v1} {v2} (k2 : State.inner v2) : (OutP State.inner) (execMov v0 v1 v2) := by
  unfold execMov
  exact (mk_next (State.issue_inner k2 (fun _ h1 => (State.doMov_inner h1))))
theorem execMovr_inner {v0} {v1} {v2} (k2 : State.inner v2) : (OutP State.inner) (execMovr v0 v1 v2) := by
  unfold execMovr
  exact (mk_next (State.issue_inner k2 (fun _ h1 => (State.doMovr_inner h1))))
theorem execLdi_inner {v0} {v1} {v2} (k2 : State.inner v2) : (OutP State.inner) (execLdi v0 v1 v2) := by
  unfold execLdi
  exact (mk_next (State.issue_inner k2 (fun _ h1 => (State.doLdi_inner h1))))
theorem execSetp_inner {v0} {v1} {v2} (k2 : State.inner v2) : (OutP State.inner) (execSetp v0 v1 v2) := by
  unfold execSetp
  exact (mk_next (State.issue_inner k2 (fun _ h1 => (State.doSetp_inner h1))))
theorem execMovp_inner {v0} {v1} {v2} (k2 : State.inner v2) : (OutP State.inner) (execMovp v0 v1 v2) := by
  unfold execMovp
  exact (mk_next (State.issue_inner k2 (fun _ h1 => (State.doMovp_inner h1))))
theorem execRdr_inner {v0} {v1} {v2} (k2 : State.inner v2) : (OutP State.inner) (execRdr v0 v1 v2) := by
  unfold execRdr
  exact (mk_next (State.issue_inner k2 (fun _ h1 => (State.doRdr_inner h1))))
theorem execWrr_inner {v0} {v1} {v2} (k2 : State.inner v2) : (OutP State.inner) (execWrr v0 v1 v2) := by
  unfold execWrr
  exact (mk_next (State.issue_inner k2 (fun _ h1 => (State.doWrr_inv (clo_inner.mono rfl) h1))))
theorem execAcc_inner {v0} {v1} {v2} (k2 : State.inner v2) : (OutP State.inner) (execAcc v0 v1 v2) := by
  unfold execAcc
  exact (mk_next (State.issue_inner k2 (fun _ h1 => (State.doAcc_inner h1))))
theorem execAlu_inner {v0} {v1} {v2} (k2 : State.inner v2) : (OutP State.inner) (execAlu v0 v1 v2) := by
  unfold execAlu
  exact (mk_next (State.issue_inner k2 (fun _ h1 => (State.doAlu_inner h1))))
theorem execAlui_inner {v0} {v1} {v2} (k2 : State.inner v2) : (OutP State.inner) (execAlui v0 v1 v2) := by
  unfold execAlui
  exact (mk_next (State.issue_inner k2 (fun _ h1 => (State.doAlui_inner h1))))
theorem execCmac_inner {v0} {v1} {v2} (k2 : State.inner v2) : (OutP State.inner) (execCmac v0 v1 v2) := by
  unfold execCmac
  exact (mk_next (State.issue_inner k2 (fun _ h1 => (State.doMac_inner h1))))
theorem execDmac_inner {v0} {v1} {v2} (k2 : State.inner v2) : (OutP State.inner) (execDmac v0 v1 v2) := by
  unfold execDmac
  exact (mk_next (State.issue_inner k2 (fun _ h1 => (State.doMac_inner h1))))
theorem execTapm_inner {v0} {v1} {v2} (k2 : State.inner v2) : (OutP State.inner) (execTapm v0 v1 v2) := by
  unfold execTapm
  exact (mk_next (State.issue_inner k2 (fun _ h1 => (State.doTapm_inner h1))))
theorem execBfly_inner {v0} {v1} {v2} (k2 : State.inner v2) : (OutP State.inner) (execBfly v0 v1 v2) := by
  unfold execBfly
  exact (mk_next (State.issue_inner k2 (fun _ h1 => (State.doBfly_inner h1))))
theorem execSta_inner {v0} {v1} {v2} (k2 : State.inner v2) : (OutP State.inner) (execSta v0 v1 v2) := by
  unfold execSta
  exact (mk_next (State.issue_inner k2 (fun _ h1 => (State.doSta_inner h1))))
theorem execRep_inner {v0} {v1} {v2} (k2 : State.inner v2) : (OutP State.inner) (execRep v0 v1 v2) := by
  unfold execRep
  exact (mk_next (State.issue_inner k2 (fun _ h1 => (State.doRep_inner h1))))
theorem execBr_inner {v0} {v1} {v2} (k2 : State.inner v2) : (OutP State.inner) (execBr v0 v1 v2) := by
  unfold execBr
  exact (mk_next (State.issue_inner k2 (fun _ h1 => (State.doBr_inv (clo_inner.mono rfl) h1))))
theorem execDbnz_inner {v0} {v1} {v2} (k2 : State.inner v2) : (OutP State.inner) (execDbnz v0 v1 v2) := by
  unfold execDbnz
  exact (mk_next (State.issue_inner k2 (fun _ h1 => (State.doDbnz_inner h1))))
theorem execCall_inner {v0} {v1} {v2} (k2 : State.inner v2) : (OutP State.inner) (execCall v0 v1 v2) := by
  unfold execCall
  exact (mk_next (State.issue_inner k2 (fun _ h1 => (State.doCall_inner h1))))
theorem execRet_inner {v0} {v1} {v2} (k2 : State.inner v2) : (OutP State.inner) (execRet v0 v1 v2) := by
  unfold execRet
  exact (mk_next (State.issue_inner k2 (fun _ h1 => (State.doRet_inner h1))))
theorem execGet_inner {v0} {v1} {v2} (k2 : State.inner v2) : (OutP State.inner) (execGet v0 v1 v2) := by
  unfold execGet
  exact (mk_next (State.issue_inner k2 (fun _ h1 => (State.doGet_inner h1))))
theorem execPut_inner {v0} {v1} {v2} (k2 : State.inner v2) : (OutP State.inner) (execPut v0 v1 v2) := by
  unfold execPut
  exact (mk_next (State.issue_inner k2 (fun _ h1 => (State.doPut_inner h1))))
theorem execSendtok_inner {v0} {v1} {v2} (k2 : State.inner v2) : (OutP State.inner) (execSendtok v0 v1 v2) := by
  unfold execSendtok
  exact (mk_next (State.issue_inner k2 (fun _ h1 => (State.doSendtok_inner h1))))
theorem execSendmsg_inner {v0} {v1} {v2} (k2 : State.inner v2) : (OutP State.inner) (execSendmsg v0 v1 v2) := by
  unfold execSendmsg
  exact (mk_next (State.issue_inner k2 (fun _ h1 => (State.doSendmsg_inner h1))))
theorem execWait_inner {v0} {v1} {v2} (k2 : State.inner v2) : (OutP State.inner) (execWait v0 v1 v2) := by
  unfold execWait
  exact (mk_next (State.issue_inner k2 (fun _ h1 => (State.doWait_inv (clo_inner.mono rfl) h1))))
theorem execDoneInstruction_inner {v0} {v1} {v2} (k2 : State.inner v2) : (OutP State.inner) (execDoneInstruction v0 v1 v2) := by
  unfold execDoneInstruction
  exact (mk_next (State.issue_inner k2 (fun _ h1 => (State.doDone_inner h1))))
theorem execBkpt_inner {v0} {v1} {v2} (k2 : State.inner v2) : (OutP State.inner) (execBkpt v0 v1 v2) := by
  unfold execBkpt
  exact (mk_next (State.issue_inner k2 (fun _ h1 => (State.doBkpt_inv (clo_inner.mono rfl) h1))))

/-! ### Engines -/

theorem State.startEngine_inner {v0} {v1} {v2} {v3} {v4} {v5} (k0 : State.inner v0) : State.inner (State.startEngine v0 v1 v2 v3 v4 v5) := by
  unfold State.startEngine
  extract_lets +onlyGivenNames -merge x1 x3 x6 x8
  have h2 : State.inner x1 := by unfold x1; exact (State.updEng_inner (fun _ h => { Eng.clear_inner h with }) k0)
  have h4 : State.inner x3 := by unfold x3; exact (State.each_inv (clo_inner.mono rfl) h2 (fun _ _ h5 => (State.setD_inner h5)))
  have h7 : State.inner x6 := by unfold x6; exact (clo_inner.wr rfl (clo_inner.wr rfl h4))
  have h9 : State.inner x8 := by unfold x8; exact (clo_inner.setF rfl (clo_inner.setF rfl h7))
  clear_value x1 x3 x6 x8
  exact (clo_inner.setF rfl h9)
theorem State.engDispatch_inner {v0} {v1} (k0 : State.inner v0) : State.inner (State.engDispatch v0 v1) := by
  unfold State.engDispatch
  split
  ·
    rename_i y1 y2
    exact k0
  ·
    rename_i y3 y4 y5 y6
    have q8 := congr_p (Q := (OptP (SndP State.inner))) y6 (by
        exact (State.takeOn_inner k0)
      )
    have h7 : State.inner y5 := q8
    refine ite_p (fun _ => (State.refuse_inner h7)) (fun _ => ?_)
    refine ite_p (fun _ => (State.refuse_inner h7)) (fun _ => ?_)
    extract_lets +onlyGivenNames -merge x9 x10 x12 x13 x15 x17
    have h11 : State.inner x10 := by unfold x10; exact (State.writeRun_inner h7)
    have h14 : State.inner x13 := by unfold x13; exact (State.startEngine_inner h11)
    have h16 : State.inner x15 := by unfold x15; exact (clo_inner.setF rfl (clo_inner.setF rfl h14))
    have h18 : State.inner x17 := by unfold x17; exact (clo_inner.setF rfl h16)
    clear_value x9 x10 x12 x13 x15 x17
    exact (State.inject_inner h18)
theorem State.engineHalt_inner {v0} {v1} (k0 : State.inner v0) : State.inner (State.engineHalt v0 v1) := by
  unfold State.engineHalt
  refine ite_p (fun _ => ?_) (fun _ => k0)
  extract_lets +onlyGivenNames -merge x1
  clear_value x1
  exact (State.each_inv (clo_inner.mono rfl) (State.updEng_inner (fun _ h => { h with }) (clo_inner.setF rfl k0)) (fun _ _ h2 => (State.respond_inner h2)))
theorem State.askStep_inner {v0} {v1} (k0 : State.inner v0) : State.inner (State.askStep v0 v1) := by
  unfold State.askStep
  exact (ite_p (fun _ => (State.updEng_inner (fun _ h => { h with }) (clo_inner.setF rfl k0))) (fun _ => k0))
theorem State.rfWrite_inner {v0} {v1} {v2} (k0 : State.inner v0) : State.inner (State.rfWrite v0 v1 v2) := by
  unfold State.rfWrite
  refine ite_p (fun _ => k0) (fun _ => ?_)
  extract_lets +onlyGivenNames -merge x1
  clear_value x1
  exact (State.updEng_inner (fun _ h => ite_p (fun _ => Eng.setD_inner h) fun _ => ite_p (fun _ => Eng.setA_inner h) fun _ => ite_p (fun _ => Eng.setA_inner h) fun _ =>
    ite_p (fun _ => Eng.setPtr_inner h) fun _ => ite_p (fun _ => Eng.setMod_inner h) fun _ => ite_p (fun _ => Eng.setLen_inner h) fun _ => h) k0)
theorem State.getData_inner {v0} {v1} {v2} {v3} {v4} (k0 : State.inner v0) : State.inner (State.getData v0 v1 v2 v3 v4) := by
  unfold State.getData
  extract_lets +onlyGivenNames -merge x1
  clear_value x1
  refine State.each_inv (clo_inner.mono rfl) k0 ?_
  intro a5 a6 h4
  extract_lets +onlyGivenNames -merge x7 x8
  clear_value x7 x8
  exact (State.engStore_inner h4)
theorem State.setTag_inner {v0} {v1} {v2} {v3} (k0 : State.inner v0) : State.inner (State.setTag v0 v1 v2 v3) := by
  unfold State.setTag
  exact (State.updEng_inner (fun _ => Eng.setTag_inner) k0)
theorem State.engAnswered_inner {v0} {v1} {v2} {v3} {v4} (k0 : State.inner v0) : State.inner (State.engAnswered v0 v1 v2 v3 v4) := by
  unfold State.engAnswered
  extract_lets +onlyGivenNames -merge x1
  clear_value x1
  refine ite_p (fun _ => ?_) (fun _ => ?_)
  ·
    refine ite_p (fun _ => ?_) (fun _ => (ite_p (fun _ => (State.request_inner k0)) (fun _ => (State.request_inner k0))))
    split
    ·
      rename_i y2 y3 y4 y5
      exact (State.request_inner (State.setTag_inner k0))
    ·
      rename_i y6 y7
      exact (State.request_inner k0)
  ·
    refine ite_p (fun _ => (State.setTag_inner k0)) (fun _ => ?_)
    extract_lets +onlyGivenNames -merge x8
    have h9 : State.inner x8 := by unfold x8; exact (ite_p (fun _ => (State.getData_inner k0)) (fun _ => k0))
    clear_value x8
    split
    ·
      rename_i y10 y11 y12 y13
      exact (State.request_inner (State.setTag_inner h9))
    ·
      rename_i y14 y15
      exact (State.setTag_inner h9)
theorem State.engResponse_inner {v0} {v1} (k0 : State.inner v0) : State.inner (State.engResponse v0 v1) := by
  unfold State.engResponse
  split
  ·
    rename_i y1 y2
    exact k0
  ·
    rename_i y3 y4 y5 y6
    have q8 := congr_p (Q := (OptP (SndP State.inner))) y6 (by
        exact (State.take_inner k0)
      )
    have h7 : State.inner y5 := q8
    refine ite_p (fun _ => k0) (fun _ => ?_)
    extract_lets +onlyGivenNames -merge x9
    have h10 : State.inner x9 := by unfold x9; exact (State.slotTaken_inner h7)
    clear_value x9
    split
    ·
      rename_i y11 y12 y13 y14
      have q16 := congr_p (Q := (SndP State.inner)) y14 (by
          exact (State.matchRsp_inner h10)
        )
      have h15 : State.inner y13 := q16
      split
      ·
        rename_i y17 y18
        exact (ite_p (fun _ => (State.engAnswered_inner h15)) (fun _ => h15))
      ·
        rename_i y19
        exact h15
theorem State.engMemAccess_inner {v0} {v1} (k0 : State.inner v0) : State.inner (State.engMemAccess v0 v1) := by
  unfold State.engMemAccess
  refine ite_p (fun _ => k0) (fun _ => ?_)
  split
  ·
    rename_i y1 y2
    exact k0
  ·
    rename_i y3 y4 y5 y6
    have q8 := congr_p (Q := (OptP (SndP State.inner))) y6 (by
        exact (State.take_inner k0)
      )
    have h7 : State.inner y5 := q8
    extract_lets +onlyGivenNames -merge x9
    have h10 : State.inner x9 := by unfold x9; exact (State.slotTaken_inner h7)
    clear_value x9
    split
    ·
      rename_i y11 y12 y13
      exact (State.refuse_inner h10)
    ·
      rename_i y14 y15
      exact (State.memAccess_inner h10)
theorem execDispatch_inner {v0} {v1} (k1 : State.inner v1) : (OutP State.inner) (execDispatch v0 v1) := by
  unfold execDispatch
  exact (mk_next (ite_p (fun _ => (State.engDispatch_inner k1)) (fun _ => k1)))
theorem execEngineHalt_inner {v0} {v1} (k1 : State.inner v1) : (OutP State.inner) (execEngineHalt v0 v1) := by
  unfold execEngineHalt
  exact (mk_next (State.engineHalt_inner k1))
theorem execStep_inner {v0} {v1} (k1 : State.inner v1) : (OutP State.inner) (execStep v0 v1) := by
  unfold execStep
  exact (mk_next (State.askStep_inner k1))
theorem execDeRfDataWrite_inner {v0} {v1} {v2} (k2 : State.inner v2) : (OutP State.inner) (execDeRfDataWrite v0 v1 v2) := by
  unfold execDeRfDataWrite
  exact (mk_next (State.rfWrite_inner k2))
theorem execEngineMemoryAccess_inner {v0} {v1} (k1 : State.inner v1) : (OutP State.inner) (execEngineMemoryAccess v0 v1) := by
  unfold execEngineMemoryAccess
  exact (mk_next (ite_p (fun _ => (State.engMemAccess_inner k1)) (fun _ => k1)))
theorem execEngineResponse_inner {v0} {v1} (k1 : State.inner v1) : (OutP State.inner) (execEngineResponse v0 v1) := by
  unfold execEngineResponse
  exact (mk_next (ite_p (fun _ => (State.engResponse_inner k1)) (fun _ => k1)))
theorem execDspStatus_inner {v0} {v1} {v2} (k2 : State.inner v2) : (OutP State.inner) (execDspStatus v0 v1 v2) := by
  unfold execDspStatus
  exact (mk_next (State.submit_inner k2 (fun _ h1 => (State.checks_inner h1 (fun _ h2 => (State.replyData_inner h2))))))
theorem execDspHalt_inner {v0} {v1} {v2} (k2 : State.inner v2) : (OutP State.inner) (execDspHalt v0 v1 v2) := by
  unfold execDspHalt
  exact (mk_next (State.submit_inner k2 (fun _ h1 => (State.checks_inner h1 (fun _ h2 => (State.updEng_inner (fun _ h => { h with }) (clo_inner.setF rfl (State.uncommitted_inner h2))))))))
theorem execDspResume_inner {v0} {v1} {v2} (k2 : State.inner v2) : (OutP State.inner) (execDspResume v0 v1 v2) := by
  unfold execDspResume
  exact (mk_next (State.submit_inner k2 (fun _ h1 => (State.checks_inner h1 (fun _ h2 => (State.reply_inner (clo_inner.setF rfl (clo_inner.setF rfl h2))))))))
theorem execDspStep_inner {v0} {v1} {v2} (k2 : State.inner v2) : (OutP State.inner) (execDspStep v0 v1 v2) := by
  unfold execDspStep
  exact (mk_next (State.submit_inner k2 (fun _ h1 => (State.checks_inner h1 (fun _ h2 => (State.updEng_inner (fun _ h => { h with }) (State.askStep_inner (State.uncommitted_inner h2))))))))
theorem State.resetEngine_inner {v0} {v1} {v2} (k0 : State.inner v0) : State.inner (State.resetEngine v0 v1 v2) := by
  unfold State.resetEngine
  extract_lets +onlyGivenNames -merge x1 x2 x3
  have h4 : State.inner x3 := by unfold x3; exact (State.engIdle_inner (State.clearEngine_inner k0))
  clear_value x2 x3
  exact (ite_p (fun _ => h4) (fun _ => (ite_p (fun _ => (ite_p (fun _ => (State.returnTask_inner h4)) (fun _ => h4))) (fun _ => (State.sendDone_inner h4)))))
theorem execDspReset_inner {v0} {v1} {v2} {v3} (k3 : State.inner v3) : (OutP State.inner) (execDspReset v0 v1 v2 v3) := by
  unfold execDspReset
  exact (mk_next (State.submit_inner k3 (fun _ h1 => (State.checks_inner h1 (fun _ h2 => (State.reply_inner (clo_inner.setF rfl (State.resetEngine_inner h2))))))))
theorem execDspStart_inner {v0} {v1} {v2} {v3} {v4} (k4 : State.inner v4) : (OutP State.inner) (execDspStart v0 v1 v2 v3 v4) := by
  unfold execDspStart
  refine mk_next ?_
  refine State.submit_inner k4 ?_
  intro a10 h9
  refine State.checks_inner h9 ?_
  intro a14 h13
  extract_lets +onlyGivenNames -merge x15 x16
  clear_value x15 x16
  exact (State.updEng_inner (fun _ h => { h with }) (State.startEngine_inner (State.uncommitted_inner h13)))
theorem State.unstart_inner {v0} {v1} {v2} (k0 : State.inner v0) : State.inner (State.unstart v0 v1 v2) := by
  unfold State.unstart
  extract_lets +onlyGivenNames -merge x1 x3
  have h2 : State.inner x1 := by unfold x1; exact (State.updEng_inner (fun _ h => { h with d := rfl, tags := mwf_foldl_mput h.tags }) k0)
  have h4 : State.inner x3 := by unfold x3; exact (foldl_p (fun _ _ h5 => (clo_inner.wrAny rfl h5)) h2)
  clear_value x1 x3
  exact (clo_inner.setF rfl h4)

/-! ### Links -/

theorem State.sealFlit_inner {v0} {v1} {v2} (k0 : State.inner v0) : (SndP State.inner) (State.sealFlit v0 v1 v2) := by
  unfold State.sealFlit
  extract_lets +onlyGivenNames -merge x1
  clear_value x1
  split
  ·
    rename_i y2 y3
    exact (mk_snd k0)
  ·
    rename_i y4 y5 y6
    extract_lets +onlyGivenNames -merge x7 x8 x9 x10 x12
    have h11 : State.inner x10 := by unfold x10; exact (State.updLink_inner (fun _ h => { h with }) k0)
    have h13 : State.inner x12 := by unfold x12; exact (clo_inner.setF rfl h11)
    clear_value x7 x8 x9 x10 x12
    exact (mk_snd (clo_inner.setF rfl h13))
theorem State.countRxE_inner {v0} {v1} {v2} (k0 : State.inner v0) : State.inner (State.countRxE v0 v1 v2) := by
  unfold State.countRxE
  exact (ite_p (fun _ => k0) (fun _ => (State.updLink_inner (fun _ h => { h with }) k0)))
theorem State.dropKeys_inner {v0} {v1} (k0 : State.inner v0) : State.inner (State.dropKeys v0 v1) := by
  unfold State.dropKeys
  extract_lets +onlyGivenNames -merge x1 x2 x4 x6
  have h3 : State.inner x2 := by unfold x2; exact (State.respondTo_inner (State.updLink_inner (fun _ h => { h with }) k0))
  have h5 : State.inner x4 := by unfold x4; exact (clo_inner.wr rfl h3)
  have h7 : State.inner x6 := by unfold x6; exact (clo_inner.wr rfl h5)
  clear_value x1 x2 x4 x6
  exact (clo_inner.setLinkF rfl rfl h7)
theorem State.onWire_inner {v0} {v1} {v2} (k0 : State.inner v0) : State.inner (State.onWire v0 v1 v2) := by
  unfold State.onWire
  extract_lets +onlyGivenNames -merge x1
  clear_value x1
  exact (State.updLink_inner (fun _ h => { h with }) k0)
theorem State.putFlit_inner {v0} {v1} {v2} (k0 : State.inner v0) : State.inner (State.putFlit v0 v1 v2) := by
  unfold State.putFlit
  extract_lets +onlyGivenNames -merge x1 x2
  clear_value x1 x2
  exact (State.onWire_inner (State.updLink_inner (fun _ h => { h with carriedCr := ite_p (Q := fun m => mwf (fun _ => zero4) m = true) (fun _ => mwf_mput _ _ h.carriedCr) fun _ => h.carriedCr }) k0))
theorem State.sendNull_inner {v0} {v1} (k0 : State.inner v0) : State.inner (State.sendNull v0 v1) := by
  unfold State.sendNull
  exact (State.putFlit_inner k0)
theorem State.fillFlit_inner {v0} {v1} (k0 : State.inner v0) : State.inner (State.fillFlit v0 v1) := by
  unfold State.fillFlit
  extract_lets +onlyGivenNames -merge x1
  clear_value x1
  exact (ite_p (fun _ => (State.sendNull_inner k0)) (fun _ => (ite_p (fun _ => (State.onWire_inner k0)) (fun _ => (State.onWire_inner k0)))))
theorem State.frameOut_inner {v0} {v1} {v2} {v3} (k0 : State.inner v0) : State.inner (State.frameOut v0 v1 v2 v3) := by
  unfold State.frameOut
  extract_lets +onlyGivenNames -merge x1 x2 x3 x6 x7 x8
  have h4 : State.inner x3 := by unfold x3; exact (ite_p (fun _ => k0) (fun _ => (State.each_inv (clo_inner.mono rfl) k0 (fun _ _ h5 => (State.fillFlit_inner h5)))))
  clear_value x1 x2 x3 x6 x7 x8
  exact (State.updLink_inner (fun _ h => { h with }) h4)
theorem State.sendFrame_inner {v0} {v1} (k0 : State.inner v0) : State.inner (State.sendFrame v0 v1) := by
  unfold State.sendFrame
  exact (ite_p (fun _ => k0) (fun _ => (State.frameOut_inner k0)))
theorem State.pmFrame_inner {v0} {v1} {v2} {v3} (k0 : State.inner v0) : State.inner (State.pmFrame v0 v1 v2 v3) := by
  unfold State.pmFrame
  extract_lets +onlyGivenNames -merge x1 x2 x3
  clear_value x1 x2 x3
  exact (State.updLink_inner (fun _ h => { h with }) (State.frameOut_inner k0))
theorem State.flushSlots_inner {v0} {v1} {v2} (k0 : State.inner v0) : State.inner (State.flushSlots v0 v1 v2) := by
  induction v2 generalizing v0 k0 v1 with
  | zero =>
    rw [State.flushSlots]
    exact k0
  | succ n ih =>
    rw [State.flushSlots]
    exact (ite_p (fun _ => k0) (fun _ => (by apply ih; exact (State.frameOut_inner k0))))
theorem State.sendPm_inner {v0} {v1} {v2} {v3} (k0 : State.inner v0) : State.inner (State.sendPm v0 v1 v2 v3) := by
  unfold State.sendPm
  exact (State.pmFrame_inner (State.pmFrame_inner (State.flushSlots_inner k0)))
theorem State.sayOff_inner {v0} {v1} (k0 : State.inner v0) : State.inner (State.sayOff v0 v1) := by
  unfold State.sayOff
  extract_lets +onlyGivenNames -merge x1
  have h2 : State.inner x1 := by unfold x1; exact (ite_p (fun _ => (State.sendPm_inner k0)) (fun _ => k0))
  clear_value x1
  exact (ite_p (fun _ => (State.lanesOff_inv (clo_inner.mono rfl) (clo_inner.setF rfl (clo_inner.setF rfl h2)))) (fun _ => h2))
theorem State.replayFlits_inner {v0} {v1} (k0 : State.inner v0) : State.inner (State.replayFlits v0 v1) := by
  unfold State.replayFlits
  extract_lets +onlyGivenNames -merge x1 x2
  clear_value x1 x2
  exact (State.each_inv (clo_inner.mono rfl) (State.updLink_inner (fun _ h => { h with }) k0) (fun _ _ h3 => (State.putFlit_inner h3)))
theorem State.keepFlit_inner {v0} {v1} {v2} (k0 : State.inner v0) : State.inner (State.keepFlit v0 v1 v2) := by
  unfold State.keepFlit
  extract_lets +onlyGivenNames -merge x1
  clear_value x1
  split
  ·
    rename_i y2 y3 y4 y5
    have q7 := congr_p (Q := (SndP State.inner)) y5 (by
        exact (State.sealFlit_inner k0)
      )
    have h6 : State.inner y4 := q7
    exact (State.putFlit_inner (State.updLink_inner (fun _ h => { h with }) h6))
theorem State.pumpLmb_inner {v0} {v1} (k0 : State.inner v0) : State.inner (State.pumpLmb v0 v1) := by
  unfold State.pumpLmb
  exact (State.each_inv (clo_inner.mono rfl) k0 (fun _ _ h1 => (ite_p (fun _ => (State.keepFlit_inner (State.updLink_inner (fun _ h => { h with }) h1))) (fun _ => h1))))
theorem State.discardOut_inner {v0} {v1} {v2} {v3} (k0 : State.inner v0) : State.inner (State.discardOut v0 v1 v2 v3) := by
  induction v3 generalizing v0 k0 v1 v2 with
  | zero =>
    rw [State.discardOut]
    exact k0
  | succ n ih =>
    rw [State.discardOut]
    split
    ·
      rename_i y1 y2
      exact k0
    ·
      rename_i y3 y4 y5 y6
      have q8 := congr_p (Q := (OptP (SndP State.inner))) y6 (by
          exact (State.takeOn_inner k0)
        )
      have h7 : State.inner y5 := q8
      exact (by apply ih; exact (State.countOut_inv (clo_inner.mono rfl) h7))
theorem State.pullTx_inner {v0} {v1} {v2} {v3} {v4} (k0 : State.inner v0) : State.inner (State.pullTx v0 v1 v2 v3 v4) := by
  induction v4 generalizing v0 k0 v1 v2 v3 with
  | zero =>
    rw [State.pullTx]
    exact k0
  | succ n ih =>
    rw [State.pullTx]
    refine ite_p (fun _ => k0) (fun _ => ?_)
    split
    ·
      rename_i y1 y2
      exact k0
    ·
      rename_i y3 y4 y5 y6
      have q8 := congr_p (Q := (OptP (SndP State.inner))) y6 (by
          exact (State.takeOn_inner k0)
        )
      have h7 : State.inner y5 := q8
      extract_lets +onlyGivenNames -merge x9
      have h10 : State.inner x9 := by unfold x9; exact (ite_p (fun _ => h7) (fun _ => (State.countOut_inv (clo_inner.mono rfl) h7)))
      clear_value x9
      exact (by apply ih; exact (State.updLink_inner (fun _ h => { h with txQ := mwf_mput _ _ h.txQ }) h10))
theorem State.shutTake_inner {v0} {v1} {v2} (k0 : State.inner v0) : (OptP (SndP State.inner)) (State.shutTake v0 v1 v2) := by
  unfold State.shutTake
  exact (map_p (fun _ h1 => (ite_p (fun _ => (mk_snd (State.refuse_inner (snd_p h1)))) (fun _ => (mk_snd (snd_p h1))))) (State.take_inner k0))
theorem State.shutDrain_inner {v0} {v1} {v2} {v3} (k0 : State.inner v0) : State.inner (State.shutDrain v0 v1 v2 v3) := by
  induction v3 generalizing v0 k0 v1 v2 with
  | zero =>
    rw [State.shutDrain]
    exact k0
  | succ n ih =>
    rw [State.shutDrain]
    split
    ·
      rename_i y1 y2 y3 y4
      have q6 := congr_p (Q := (OptP (SndP State.inner))) y4 (by
          exact (State.shutTake_inner k0)
        )
      have h5 : State.inner y3 := q6
      exact (by apply ih; exact (ite_p (fun _ => (clo_inner.inc rfl h5)) (fun _ => h5)))
    ·
      rename_i y7 y8
      exact k0
theorem State.refuseAtLink_inner {v0} {v1} {v2} (k0 : State.inner v0) : State.inner (State.refuseAtLink v0 v1 v2) := by
  unfold State.refuseAtLink
  refine ite_p (fun _ => ?_) (fun _ => ?_)
  ·
    split
    ·
      rename_i y1 y2 y3 y4
      have q6 := congr_p (Q := (OptP (SndP State.inner))) y4 (by
          exact (State.shutTake_inner k0)
        )
      have h5 : State.inner y3 := q6
      exact h5
    ·
      rename_i y7 y8
      exact k0
  ·
    split
    ·
      rename_i y9 y10 y11 y12
      have q14 := congr_p (Q := (OptP (SndP State.inner))) y12 (by
          exact (State.takeOn_inner k0)
        )
      have h13 : State.inner y11 := q14
      exact (State.refuse_inner h13)
    ·
      rename_i y15 y16
      exact k0
theorem State.flitSend_inner {v0} {v1} {v2} (k0 : State.inner v0) : State.inner (State.flitSend v0 v1 v2) := by
  unfold State.flitSend
  extract_lets +onlyGivenNames -merge x1
  have h2 : State.inner x1 := by unfold x1; exact (State.pumpLmb_inner (State.refuseAtLink_inner k0))
  clear_value x1
  refine ite_p (fun _ => (State.discardOut_inner h2)) (fun _ => ?_)
  refine ite_p (fun _ => h2) (fun _ => ?_)
  extract_lets +onlyGivenNames -merge x3 x4
  have h5 : State.inner x4 := by unfold x4; exact (State.pullTx_inner h2)
  clear_value x3 x4
  split
  ·
    rename_i y6 y7 y8 y9 y10 y11
    refine ite_p (fun _ => h5) (fun _ => ?_)
    extract_lets +onlyGivenNames -merge x12 x13
    have h14 : State.inner x13 := by unfold x13; exact (State.updLink_inner (fun _ h => { h with txQ := mwf_mput _ _ h.txQ }) h5)
    clear_value x12 x13
    exact (State.keepFlit_inner h14)
theorem State.linkFault_inner {v0} {v1} {v2} {v3} (k0 : State.inner v0) : State.inner (State.linkFault v0 v1 v2 v3) := by
  unfold State.linkFault
  exact (State.booksFault_inner k0)
theorem State.takeCredits_inner {v0} {v1} {v2} (k0 : State.inner v0) : State.inner (State.takeCredits v0 v1 v2) := by
  unfold State.takeCredits
  split
  ·
    rename_i y1 y2 y3
    exact (State.linkFault_inner k0)
  ·
    rename_i y4 y5
    exact (State.updLink_inner (fun _ h => { h with }) k0)
theorem State.goDown_inner {v0} {v1} (k0 : State.inner v0) : State.inner (State.goDown v0 v1) := by
  unfold State.goDown
  extract_lets +onlyGivenNames -merge x1 x3 x5
  have h2 : State.inner x1 := by unfold x1; exact (State.updLink_inner (fun _ h => { h with }) (State.sayOff_inner k0))
  have h4 : State.inner x3 := by unfold x3; exact (clo_inner.setLinkF rfl rfl h2)
  have h6 : State.inner x5 := by unfold x5; exact (State.setLinkState_inv (clo_inner.mono rfl) h4)
  clear_value x1 x3 x5
  exact (State.endLinkCmds_inner h6)
theorem State.beginTraining_inner {v0} {v1} {v2} (k0 : State.inner v0) : State.inner (State.beginTraining v0 v1 v2) := by
  unfold State.beginTraining
  extract_lets +onlyGivenNames -merge x1 x3 x5
  have h2 : State.inner x1 := by unfold x1; exact (State.updLink_inner (fun _ h => { h with badFrames := rfl, replays := rfl }) k0)
  have h4 : State.inner x3 := by unfold x3; exact (State.lanesOff_inv (clo_inner.mono rfl) h2)
  have h6 : State.inner x5 := by unfold x5; exact (clo_inner.setLinkF rfl rfl h4)
  clear_value x1 x3 x5
  exact (State.setLinkState_inv (clo_inner.mono rfl) h6)
theorem State.startRetrain_inner {v0} {v1} (k0 : State.inner v0) : State.inner (State.startRetrain v0 v1) := by
  unfold State.startRetrain
  extract_lets +onlyGivenNames -merge x1
  clear_value x1
  refine ite_p (fun _ => ?_) (fun _ => k0)
  extract_lets +onlyGivenNames -merge x2 x4 x5
  have h3 : State.inner x2 := by unfold x2; exact (clo_inner.incLinkW rfl rfl k0)
  have h6 : State.inner x5 := by unfold x5; exact (State.beginTraining_inner h3)
  clear_value x2 x4 x5
  exact (ite_p (fun _ => (State.updLink_inner (fun _ h => { h with }) h6)) (fun _ => h6))
theorem State.bringUp_inner {v0} {v1} (k0 : State.inner v0) : State.inner (State.bringUp v0 v1) := by
  unfold State.bringUp
  extract_lets +onlyGivenNames -merge x1
  clear_value x1
  exact (ite_p (fun _ => (ite_p (fun _ => (State.setLinkState_inv (clo_inner.mono rfl) k0)) (fun _ => (State.beginTraining_inner k0)))) (fun _ => k0))
theorem State.holdDown_inner {v0} {v1} (k0 : State.inner v0) : State.inner (State.holdDown v0 v1) := by
  unfold State.holdDown
  extract_lets +onlyGivenNames -merge x1
  have h2 : State.inner x1 := by unfold x1; exact (clo_inner.setLinkF rfl rfl k0)
  clear_value x1
  exact (ite_p (fun _ => (State.endLinkCmds_inner h2)) (fun _ => (ite_p (fun _ => (State.updLink_inner (fun _ h => { h with }) h2)) (fun _ => (State.goDown_inner h2)))))
theorem State.releaseHold_inner {v0} {v1} (k0 : State.inner v0) : State.inner (State.releaseHold v0 v1) := by
  unfold State.releaseHold
  extract_lets +onlyGivenNames -merge x1 x3
  have h2 : State.inner x1 := by unfold x1; exact (clo_inner.setLinkF rfl rfl k0)
  have h4 : State.inner x3 := by unfold x3; exact (State.updLink_inner (fun _ h => { h with }) h2)
  clear_value x1 x3
  exact (ite_p (fun _ => h4) (fun _ => (ite_p (fun _ => (State.bringUp_inner h4)) (fun _ => (State.setLinkState_inv (clo_inner.mono rfl) h4)))))
theorem State.payAck_inner {v0} {v1} (k0 : State.inner v0) : State.inner (State.payAck v0 v1) := by
  unfold State.payAck
  exact (ite_p (fun _ => (State.sendNull_inner k0)) (fun _ => k0))
theorem State.linkDrained_inner {v0} {v1} (k0 : State.inner v0) : State.inner (State.linkDrained v0 v1) := by
  unfold State.linkDrained
  extract_lets +onlyGivenNames -merge x1
  clear_value x1
  refine ite_p (fun _ => k0) (fun _ => ?_)
  extract_lets +onlyGivenNames -merge x2
  have h3 : State.inner x2 := by unfold x2; exact (State.payAck_inner k0)
  clear_value x2
  exact (ite_p (fun _ => (State.goDown_inner h3)) (fun _ => (ite_p (fun _ => (State.startRetrain_inner h3)) (fun _ => (ite_p (fun _ => (State.setLinkState_inv (clo_inner.mono rfl) h3)) (fun _ => h3))))))
theorem State.changeDepths_inner {v0} {v1} (k0 : State.inner v0) : State.inner (State.changeDepths v0 v1) := by
  unfold State.changeDepths
  extract_lets +onlyGivenNames -merge x1
  have h2 : State.inner x1 := by unfold x1; exact (State.updLink_inner (fun _ h => { h with }) k0)
  clear_value x1
  exact (ite_p (fun _ => (State.startRetrain_inner h2)) (fun _ => (State.linkDrained_inner h2)))
theorem State.takeAgain_inner {v0} {v1} (k0 : State.inner v0) : State.inner (State.takeAgain v0 v1) := by
  unfold State.takeAgain
  extract_lets +onlyGivenNames -merge x1
  clear_value x1
  exact (State.beginTraining_inner (State.updLink_inner (fun _ h => { h with }) k0))
theorem State.linkChanged_inner {v0} {v1} {v2} (k0 : State.inner v0) : State.inner (State.linkChanged v0 v1 v2) := by
  unfold State.linkChanged
  extract_lets +onlyGivenNames -merge x1
  clear_value x1
  exact (ite_p (fun _ => (State.updLink_inner (fun _ h => { h with }) k0)) (fun _ => (ite_p (fun _ => (ite_p (fun _ => (State.changeDepths_inner k0)) (fun _ => (State.startRetrain_inner k0)))) (fun _ => (ite_p (fun _ => (State.takeAgain_inner (State.updLink_inner (fun _ h => { h with }) k0))) (fun _ => (State.updLink_inner (fun _ h => { h with }) k0)))))))
theorem State.linkOff_inner {v0} {v1} (k0 : State.inner v0) : State.inner (State.linkOff v0 v1) := by
  unfold State.linkOff
  extract_lets +onlyGivenNames -merge x1 x3
  have h2 : State.inner x1 := by unfold x1; exact (State.beginTraining_inner (State.sayOff_inner k0))
  have h4 : State.inner x3 := by unfold x3; exact (clo_inner.setLinkF rfl rfl h2)
  clear_value x1 x3
  exact (State.updLink_inner (fun _ h => { h with }) h4)
theorem State.txReached_inner {v0} {v1} (k0 : State.inner v0) : State.inner (State.txReached v0 v1) := by
  unfold State.txReached
  exact (State.endLinkCmds_inner k0)
theorem State.linkUp_inner {v0} {v1} (k0 : State.inner v0) : State.inner (State.linkUp v0 v1) := by
  unfold State.linkUp
  extract_lets +onlyGivenNames -merge x1
  have h2 : State.inner x1 := by unfold x1; exact (State.setLinkState_inv (clo_inner.mono rfl) k0)
  clear_value x1
  refine ite_p (fun _ => (State.booksFault_inner h2)) (fun _ => ?_)
  extract_lets +onlyGivenNames -merge x3 x5 x7 x9 x11 x13
  have h4 : State.inner x3 := by unfold x3; exact (State.updLink_inner (fun _ h => { h with }) h2)
  have h6 : State.inner x5 := by unfold x5; exact (State.replayFlits_inner h4)
  have h8 : State.inner x7 := by unfold x7; exact (State.endLinkCmds_inner h6)
  have h10 : State.inner x9 := by unfold x9; exact (ite_p (fun _ => (State.updLink_inner (fun _ h => { h with }) h8)) (fun _ => (ite_p (fun _ => (State.updLink_inner (fun _ h => { h with }) (clo_inner.setF rfl (ite_p (fun _ => (State.sendPm_inner h8)) (fun _ => h8))))) (fun _ => h8))))
  have h12 : State.inner x11 := by unfold x11; exact (ite_p (fun _ => (State.txReached_inner h10)) (fun _ => h10))
  clear_value x3 x5 x7 x9 x11 x13
  refine ite_p (fun _ => (State.holdDown_inner h12)) (fun _ => ?_)
  refine ite_p (fun _ => ?_) (fun _ => (ite_p (fun _ => (State.startRetrain_inner h12)) (fun _ => (ite_p (fun _ => (State.linkDrained_inner h12)) (fun _ => (State.pumpLmb_inner h12))))))
  extract_lets +onlyGivenNames -merge x14
  have h15 : State.inner x14 := by unfold x14; exact (State.updLink_inner (fun _ h => { h with }) h12)
  clear_value x14
  exact (ite_p (fun _ => (State.changeDepths_inner h15)) (fun _ => (State.startRetrain_inner h15)))
theorem State.sendFirst_inner {v0} {v1} (k0 : State.inner v0) : State.inner (State.sendFirst v0 v1) := by
  unfold State.sendFirst
  extract_lets +onlyGivenNames -merge x1 x2
  clear_value x1 x2
  exact (State.onWire_inner (State.updLink_inner (fun _ h => { h with }) k0))
theorem State.reinit_inner {v0} {v1} {v2} (k0 : State.inner v0) : State.inner (State.reinit v0 v1 v2) := by
  unfold State.reinit
  extract_lets +onlyGivenNames -merge x1 x2 x3 x6 x8 x9 x11
  have h4 : State.inner x3 := by unfold x3; exact (State.each_inv (clo_inner.mono rfl) k0 (fun _ _ h5 => (State.inject_inner h5)))
  have h7 : State.inner x6 := by unfold x6; exact (State.dropKeys_inner h4)
  have h12 : State.inner x11 := by
    unfold x11 x9
    exact State.updLink_twice_inner (fun _ h => { h with rxStream := rfl, rxEnts := rfl, replays := rfl, carriedCr := rfl, txQ := mwf_unsent h.txQ }) h7
  clear_value x1 x2 x3 x6 x8 x9 x11
  exact (ite_p (fun _ => (State.event_inner (clo_inner.setLinkF rfl rfl h12))) (fun _ => h12))
theorem State.initRecv_inner {v0} {v1} {v2} (k0 : State.inner v0) : State.inner (State.initRecv v0 v1 v2) := by
  unfold State.initRecv
  refine ite_p (fun _ => k0) (fun _ => ?_)
  extract_lets +onlyGivenNames -merge x1 x3 x5 x6
  have h2 : State.inner x1 := by unfold x1; exact (ite_p (fun _ => k0) (fun _ => (State.sendFirst_inner (State.updLink_inner (fun _ h => { h with }) k0))))
  have h4 : State.inner x3 := by unfold x3; exact (State.updLink_inner (fun _ h => { h with }) h2)
  have h7 : State.inner x6 := by unfold x6; exact (State.recordPeer_inv (clo_inner.mono rfl) (State.reinit_inner h4))
  clear_value x1 x3 x5 x6
  exact (ite_p (fun _ => (State.linkUp_inner h7)) (fun _ => h7))
theorem State.resyncRecv_inner {v0} {v1} {v2} (k0 : State.inner v0) : State.inner (State.resyncRecv v0 v1 v2) := by
  unfold State.resyncRecv
  extract_lets +onlyGivenNames -merge x1
  clear_value x1
  refine ite_p (fun _ => k0) (fun _ => ?_)
  split
  ·
    rename_i y2 y3
    exact (State.linkFault_inner k0)
  ·
    rename_i y4 y5 y6
    extract_lets +onlyGivenNames -merge x7 x8
    clear_value x7 x8
    split
    ·
      rename_i y9 y10 y11
      exact (State.linkFault_inner k0)
    ·
      rename_i y12 y13
      extract_lets +onlyGivenNames -merge x14
      have h15 : State.inner x14 := by unfold x14; exact (State.updLink_inner (fun _ h => { h with }) k0)
      clear_value x14
      exact (ite_p (fun _ => (State.linkUp_inner h15)) (fun _ => h15))
theorem State.replayAll_inner {v0} {v1} (k0 : State.inner v0) : State.inner (State.replayAll v0 v1) := by
  unfold State.replayAll
  refine ite_p (fun _ => k0) (fun _ => ?_)
  refine ite_p (fun _ => (State.startRetrain_inner k0)) (fun _ => ?_)
  extract_lets +onlyGivenNames -merge x1 x3
  have h2 : State.inner x1 := by unfold x1; exact (clo_inner.inc rfl k0)
  have h4 : State.inner x3 := by unfold x3; exact (State.updLink_inner (fun _ h => { h with replays := mwf_foldl_mput h.replays }) h2)
  clear_value x1 x3
  exact (State.replayFlits_inner h4)
theorem State.sendNak_inner {v0} {v1} (k0 : State.inner v0) : State.inner (State.sendNak v0 v1) := by
  unfold State.sendNak
  refine ite_p (fun _ => k0) (fun _ => ?_)
  extract_lets +onlyGivenNames -merge x1
  have h2 : State.inner x1 := by unfold x1; exact (clo_inner.inc rfl k0)
  clear_value x1
  exact (State.updLink_inner (fun _ h => { h with }) (State.putFlit_inner h2))
theorem State.enterTx_inner {v0} {v1} {v2} {v3} (k0 : State.inner v0) : State.inner (State.enterTx v0 v1 v2 v3) := by
  unfold State.enterTx
  exact (State.txReached_inner (clo_inner.setF rfl (ite_p (fun _ => (State.sendPm_inner k0)) (fun _ => k0))))
theorem State.exitTx_inner {v0} {v1} (k0 : State.inner v0) : State.inner (State.exitTx v0 v1) := by
  unfold State.exitTx
  exact (ite_p (fun _ => (State.startRetrain_inner k0)) (fun _ => (State.pumpLmb_inner (State.txReached_inner (clo_inner.setF rfl k0)))))
theorem State.takePmReq_inner {v0} {v1} {v2} (k0 : State.inner v0) : State.inner (State.takePmReq v0 v1 v2) := by
  unfold State.takePmReq
  extract_lets +onlyGivenNames -merge x1 x2
  have h3 : State.inner x2 := by unfold x2; exact (State.updLink_inner (fun _ h => { h with }) k0)
  clear_value x1 x2
  exact (ite_p (fun _ => (State.exitTx_inner h3)) (fun _ => h3))
theorem State.txPower_inner {v0} {v1} (k0 : State.inner v0) : State.inner (State.txPower v0 v1) := by
  unfold State.txPower
  exact (ite_p (fun _ => k0) (fun _ => (ite_p (fun _ => (State.enterTx_inner k0)) (fun _ => k0))))
theorem State.ackOf_inner {v0} {v1} {v2} (k0 : State.inner v0) : State.inner (State.ackOf v0 v1 v2) := by
  unfold State.ackOf
  extract_lets +onlyGivenNames -merge x1 x3
  have h2 : State.inner x1 := by unfold x1; exact (State.takeCredits_inner k0)
  clear_value x1 x3
  split
  ·
    rename_i y4 y5
    exact (ite_p (fun _ => (State.startRetrain_inner h2)) (fun _ => h2))
  ·
    rename_i y6 y7 y8
    extract_lets +onlyGivenNames -merge x9
    clear_value x9
    exact (State.updLink_inner (fun _ h => { h with replays := mwf_filter _ h.replays, carriedCr := mwf_filter _ h.carriedCr }) h2)
theorem State.takeAck_inner {v0} {v1} {v2} (k0 : State.inner v0) : State.inner (State.takeAck v0 v1 v2) := by
  unfold State.takeAck
  exact (State.linkDrained_inner (State.ackOf_inner k0))
theorem State.offExit_inner {v0} {v1} (k0 : State.inner v0) : State.inner (State.offExit v0 v1) := by
  unfold State.offExit
  exact (ite_p (fun _ => (State.startRetrain_inner k0)) (fun _ => k0))
theorem State.resumeRx_inner {v0} {v1} (k0 : State.inner v0) : State.inner (State.resumeRx v0 v1) := by
  unfold State.resumeRx
  exact (ite_p (fun _ => (State.updLink_inner (fun _ h => { h with }) (clo_inner.setF rfl k0))) (fun _ => k0))
theorem State.deliverStream_inner {v0} {v1} {v2} {v3} (k0 : State.inner v0) : State.inner (State.deliverStream v0 v1 v2 v3) := by
  induction v3 generalizing v0 k0 v1 v2 with
  | zero =>
    rw [State.deliverStream]
    exact k0
  | succ n ih =>
    rw [State.deliverStream]
    split
    ·
      rename_i y1 y2
      exact k0
    ·
      rename_i y3 y4 y5
      extract_lets +onlyGivenNames -merge x6 x8
      have h7 : State.inner x6 := by unfold x6; exact (State.updLink_inner (fun _ h => { h with rxStream := mwf_mput _ _ h.rxStream }) k0)
      have h9 : State.inner x8 := by unfold x8; exact (ite_p (fun _ => (State.pump1_inner (State.inject_inner h7))) (fun _ => (State.linkConsumed_inner (State.countMalformed_inv (clo_inner.mono rfl) h7))))
      clear_value x6 x8
      exact (by apply ih; exact h9)
theorem State.dropStream_inner {v0} {v1} {v2} (k0 : State.inner v0) : State.inner (State.dropStream v0 v1 v2) := by
  unfold State.dropStream
  extract_lets +onlyGivenNames -merge x1
  clear_value x1
  exact (State.updLink_inner (fun _ h => { h with rxStream := mwf_mput _ _ h.rxStream }) (State.linkConsumed_inner k0))
theorem State.takeData_inner {v0} {v1} {v2} {v3} (k0 : State.inner v0) : State.inner (State.takeData v0 v1 v2 v3) := by
  unfold State.takeData
  extract_lets +onlyGivenNames -merge x1 x2
  have h3 : State.inner x2 := by unfold x2; exact (State.updLink_inner (fun _ h => { h with }) k0)
  clear_value x1 x2
  refine ite_p (fun _ => (State.updLink_inner (fun _ h => { h with }) (State.dropStream_inner (clo_inner.inc rfl h3)))) (fun _ => ?_)
  extract_lets +onlyGivenNames -merge x4 x5 x7 x8 x9 x10
  have h6 : State.inner x5 := by unfold x5; exact (ite_p (fun _ => (State.dropStream_inner h3)) (fun _ => h3))
  have h11 : State.inner x10 := by unfold x10; exact (State.updLink_inner (fun _ h => { h with rxEnts := mwf_mput _ _ h.rxEnts, rxStream := mwf_mput _ _ h.rxStream }) h6)
  clear_value x4 x5 x7 x8 x9 x10
  exact (State.deliverStream_inner (State.linkConsumed_inner h11))
theorem State.countIn_inner {v0} {v1} {v2} (k0 : State.inner v0) : State.inner (State.countIn v0 v1 v2) := by
  unfold State.countIn
  extract_lets +onlyGivenNames -merge x1
  have h2 : State.inner x1 := by unfold x1; exact (State.updLink_inner (fun _ h => { h with }) (State.countRxE_inner k0))
  clear_value x1
  exact (ite_p (fun _ => (State.sendNull_inner h2)) (fun _ => h2))
theorem State.judgeSeq_inner {v0} {v1} {v2} (k0 : State.inner v0) : (SndP State.inner) (State.judgeSeq v0 v1 v2) := by
  unfold State.judgeSeq
  extract_lets +onlyGivenNames -merge x1
  have h2 : State.inner x1 := by unfold x1; exact (State.resumeRx_inner k0)
  clear_value x1
  refine ite_p (fun _ => ?_) (fun _ => (ite_p (fun _ => (mk_snd (ite_p (fun _ => (State.startRetrain_inner (State.ackOf_inner h2))) (fun _ => (clo_inner.inc rfl h2))))) (fun _ => (ite_p (fun _ => (mk_snd (State.sendNak_inner h2))) (fun _ => (mk_snd (State.takeAck_inner (State.updLink_inner (fun _ h => { h with }) h2))))))))
  split
  ·
    rename_i y3 y4 y5
    extract_lets +onlyGivenNames -merge x6
    have h7 : State.inner x6 := by unfold x6; exact (State.ackOf_inner h2)
    clear_value x6
    exact (mk_snd h7)
  ·
    rename_i y8 y9
    extract_lets +onlyGivenNames -merge x10
    have h11 : State.inner x10 := by unfold x10; exact (clo_inner.setF rfl (clo_inner.inc rfl h2))
    clear_value x10
    exact (mk_snd (ite_p (fun _ => (State.sendNak_inner h11)) (fun _ => h11)))
theorem State.dataRecv_inner {v0} {v1} {v2} (k0 : State.inner v0) : State.inner (State.dataRecv v0 v1 v2) := by
  unfold State.dataRecv
  refine ite_p (fun _ => (State.offExit_inner k0)) (fun _ => ?_)
  split
  ·
    rename_i y1 y2 y3
    have q5 := congr_p (Q := (SndP State.inner)) y3 (by
        exact (State.judgeSeq_inner k0)
      )
    have h4 : State.inner y2 := q5
    exact h4
  ·
    rename_i y6 y7 y8 y9
    have q11 := congr_p (Q := (SndP State.inner)) y9 (by
        exact (State.judgeSeq_inner k0)
      )
    have h10 : State.inner y8 := q11
    exact (State.linkDrained_inner (State.takeData_inner (State.countIn_inner h10)))
theorem State.nullRecv_inner {v0} {v1} {v2} (k0 : State.inner v0) : State.inner (State.nullRecv v0 v1 v2) := by
  unfold State.nullRecv
  refine ite_p (fun _ => (State.offExit_inner k0)) (fun _ => ?_)
  refine ite_p (fun _ => k0) (fun _ => ?_)
  extract_lets +onlyGivenNames -merge x1
  have h2 : State.inner x1 := by unfold x1; exact (State.takeAck_inner (State.resumeRx_inner k0))
  clear_value x1
  exact (State.txPower_inner (ite_p (fun _ => (State.takePmReq_inner h2)) (fun _ => h2)))
theorem State.nakRecv_inner {v0} {v1} {v2} (k0 : State.inner v0) : State.inner (State.nakRecv v0 v1 v2) := by
  unfold State.nakRecv
  refine ite_p (fun _ => (State.offExit_inner k0)) (fun _ => ?_)
  refine ite_p (fun _ => k0) (fun _ => ?_)
  extract_lets +onlyGivenNames -merge x1
  have h2 : State.inner x1 := by unfold x1; exact (State.takeAck_inner (State.resumeRx_inner k0))
  clear_value x1
  exact (ite_p (fun _ => (State.replayAll_inner h2)) (fun _ => h2))
theorem State.enterRx_inner {v0} {v1} {v2} (k0 : State.inner v0) : State.inner (State.enterRx v0 v1 v2) := by
  unfold State.enterRx
  extract_lets +onlyGivenNames -merge x1
  have h2 : State.inner x1 := by unfold x1; exact (State.updLink_inner (fun _ h => { h with }) (clo_inner.setF rfl k0))
  clear_value x1
  exact (ite_p (fun _ => (State.lanesOff_inv (clo_inner.mono rfl) h2)) (fun _ => h2))
theorem State.pmRecv_inner {v0} {v1} {v2} (k0 : State.inner v0) : State.inner (State.pmRecv v0 v1 v2) := by
  unfold State.pmRecv
  refine ite_p (fun _ => (State.offExit_inner k0)) (fun _ => ?_)
  refine ite_p (fun _ => k0) (fun _ => ?_)
  extract_lets +onlyGivenNames -merge x1 x3 x5
  have h2 : State.inner x1 := by unfold x1; exact (State.takeAck_inner (State.resumeRx_inner k0))
  have h4 : State.inner x3 := by unfold x3; exact (ite_p (fun _ => h2) (fun _ => (ite_p (fun _ => (State.enterRx_inner h2)) (fun _ => (State.updLink_inner (fun _ h => { h with }) h2)))))
  have h6 : State.inner x5 := by unfold x5; exact (State.updLink_inner (fun _ h => { h with }) h4)
  clear_value x1 x3 x5
  exact (State.txPower_inner (State.takePmReq_inner h6))
theorem State.teqRecv_inner {v0} {v1} {v2} (k0 : State.inner v0) : State.inner (State.teqRecv v0 v1 v2) := by
  unfold State.teqRecv
  extract_lets +onlyGivenNames -merge x1 x2
  clear_value x1 x2
  exact (ite_p (fun _ => k0) (fun _ => (ite_p (fun _ => (State.updLink_inner (fun _ h => { h with }) k0)) (fun _ => (ite_p (fun _ => (State.updLink_inner (fun _ h => { h with }) k0)) (fun _ => k0))))))
theorem State.attempt_inner {v0} {v1} (k0 : State.inner v0) : State.inner (State.attempt v0 v1) := by
  unfold State.attempt
  extract_lets +onlyGivenNames -merge x1
  have h2 : State.inner x1 := by unfold x1; exact (State.updLink_inner (fun _ h => { h with }) k0)
  clear_value x1
  refine ite_p (fun _ => ?_) (fun _ => h2)
  extract_lets +onlyGivenNames -merge x3 x4
  have h5 : State.inner x4 := by unfold x4; exact (clo_inner.setF rfl (clo_inner.setF rfl h2))
  clear_value x3 x4
  exact (State.each_inv (clo_inner.mono rfl) h5 (fun _ _ h6 => (clo_inner.wr rfl h6)))
theorem State.attemptFails_inner {v0} {v1} (k0 : State.inner v0) : State.inner (State.attemptFails v0 v1) := by
  unfold State.attemptFails
  refine ite_p (fun _ => k0) (fun _ => ?_)
  extract_lets +onlyGivenNames -merge x1 x3
  have h2 : State.inner x1 := by unfold x1; exact (clo_inner.incLinkW rfl rfl k0)
  have h4 : State.inner x3 := by unfold x3; exact (State.updLink_inner (fun _ h => { h with }) h2)
  clear_value x1 x3
  refine ite_p (fun _ => h4) (fun _ => ?_)
  extract_lets +onlyGivenNames -merge x5
  have h6 : State.inner x5 := by unfold x5; exact (ite_p (fun _ => (State.setLinkState_inv (clo_inner.mono rfl) h4)) (fun _ => h4))
  clear_value x5
  refine ite_p (fun _ => ?_) (fun _ => (State.attempt_inner h6))
  extract_lets +onlyGivenNames -merge x7 x9 x11 x13 x15
  have h8 : State.inner x7 := by unfold x7; exact (State.setLinkState_inv (clo_inner.mono rfl) h6)
  have h10 : State.inner x9 := by unfold x9; exact (clo_inner.setLinkF rfl rfl h8)
  have h12 : State.inner x11 := by unfold x11; exact (clo_inner.setLinkF rfl rfl h10)
  have h14 : State.inner x13 := by unfold x13; exact (State.endLinkCmds_inner h12)
  have h16 : State.inner x15 := by unfold x15; exact (State.event_inner h14)
  clear_value x7 x9 x11 x13 x15
  exact (ite_p (fun _ => (State.takeAgain_inner h16)) (fun _ => h16))
theorem State.trainingAttempt_inner {v0} {v1} (k0 : State.inner v0) : State.inner (State.trainingAttempt v0 v1) := by
  unfold State.trainingAttempt
  extract_lets +onlyGivenNames -merge x1 x2
  clear_value x1 x2
  exact (ite_p (fun _ => (State.attempt_inner (State.updLink_inner (fun _ h => { h with }) k0))) (fun _ => k0))
theorem State.failedRetry_inner {v0} {v1} (k0 : State.inner v0) : State.inner (State.failedRetry v0 v1) := by
  unfold State.failedRetry
  exact (ite_p (fun _ => (State.attempt_inner k0)) (fun _ => k0))
theorem State.alignmentCheck_inner {v0} {v1} {v2} (k0 : State.inner v0) : State.inner (State.alignmentCheck v0 v1 v2) := by
  unfold State.alignmentCheck
  extract_lets +onlyGivenNames -merge x1 x2
  clear_value x1 x2
  refine ite_p (fun _ => k0) (fun _ => ?_)
  extract_lets +onlyGivenNames -merge x3 x4 x5 x7
  have h6 : State.inner x5 := by unfold x5; exact (State.updLink_inner (fun _ h => { h with }) k0)
  have h8 : State.inner x7 := by
    unfold x7
    refine State.each_inv (clo_inner.mono rfl) h6 ?_
    intro a13 a14 h12
    extract_lets +onlyGivenNames -merge x15 x16
    have h17 : State.inner x16 := by unfold x16; exact (clo_inner.setF rfl (clo_inner.setF rfl h12))
    clear_value x15 x16
    exact (ite_p (fun _ => h17) (fun _ => (State.slipLane_inv (clo_inner.mono rfl) h17)))
  clear_value x3 x4 x5 x7
  exact (ite_p (fun _ => (State.attemptFails_inner h8)) (fun _ => h8))
theorem State.frameLock_inner {v0} {v1} (k0 : State.inner v0) : State.inner (State.frameLock v0 v1) := by
  unfold State.frameLock
  extract_lets +onlyGivenNames -merge x1
  clear_value x1
  refine ite_p (fun _ => ?_) (fun _ => k0)
  extract_lets +onlyGivenNames -merge x2 x4 x6 x9
  have h3 : State.inner x2 := by unfold x2; exact (State.updLink_inner (fun _ h => { h with badFrames := rfl }) k0)
  have h5 : State.inner x4 := by unfold x4; exact (clo_inner.drawn rfl  h3)
  have h7 : State.inner x6 := by unfold x6; exact (State.each_inv (clo_inner.mono rfl) h5 (fun _ _ h8 => (clo_inner.setF rfl h8)))
  have h10 : State.inner x9 := by
    unfold x9
    split
    ·
      rename_i y11 y12 y13
      exact (clo_inner.setF rfl h7)
    ·
      rename_i y14 y15
      exact (clo_inner.drawn rfl  (clo_inner.setF rfl h7))
  clear_value x2 x4 x6 x9
  exact (ite_p (fun _ => h10) (fun _ => (State.setLinkState_inv (clo_inner.mono rfl) h10)))
theorem State.ffeRound_inner {v0} {v1} {v2} (k0 : State.inner v0) : State.inner (State.ffeRound v0 v1 v2) := by
  unfold State.ffeRound
  extract_lets +onlyGivenNames -merge x1 x2
  clear_value x1 x2
  exact (ite_p (fun _ => (State.onWire_inner (State.updLink_inner (fun _ h => { h with }) k0))) (fun _ => k0))
theorem State.adapterActive_inner {v0} {v1} {v2} (k0 : State.inner v0) : State.inner (State.adapterActive v0 v1 v2) := by
  unfold State.adapterActive
  extract_lets +onlyGivenNames -merge x1
  clear_value x1
  refine ite_p (fun _ => k0) (fun _ => ?_)
  extract_lets +onlyGivenNames -merge x2 x4 x6
  have h3 : State.inner x2 := by unfold x2; exact (clo_inner.setLinkF rfl rfl k0)
  have h5 : State.inner x4 := by unfold x4; exact (ite_p (fun _ => (clo_inner.setF rfl h3)) (fun _ => h3))
  have h7 : State.inner x6 := by unfold x6; exact (State.setLinkState_inv (clo_inner.mono rfl) h5)
  clear_value x2 x4 x6
  refine ite_p (fun _ => (State.updLink_inner (fun _ h => { h with }) (State.linkUp_inner (State.updLink_inner (fun _ h => { h with rxStream := rfl, rxEnts := rfl }) (State.dropKeys_inner h7))))) (fun _ => ?_)
  extract_lets +onlyGivenNames -merge x8 x10 x12 x14
  have h9 : State.inner x8 := by unfold x8; exact (State.updLink_inner (fun _ h => { h with }) h7)
  have h11 : State.inner x10 := by unfold x10; exact (clo_inner.setLinkF rfl rfl h9)
  have h13 : State.inner x12 := by unfold x12; exact (clo_inner.setLinkF rfl rfl h11)
  have h15 : State.inner x14 := by unfold x14; exact (State.sendFirst_inner h13)
  clear_value x8 x10 x12 x14
  exact (ite_p (fun _ => (State.linkUp_inner h15)) (fun _ => h15))
theorem State.drainLimit10_inner {v0} {v1} (k0 : State.inner v0) : State.inner (State.drainLimit10 v0 v1) := by
  unfold State.drainLimit10
  extract_lets +onlyGivenNames -merge x1
  clear_value x1
  exact (ite_p (fun _ => (State.goDown_inner (State.payAck_inner k0))) (fun _ => (ite_p (fun _ => k0) (fun _ => (ite_p (fun _ => (State.startRetrain_inner k0)) (fun _ => k0))))))
theorem State.frameSeen_inner {v0} {v1} {v2} (k0 : State.inner v0) : State.inner (State.frameSeen v0 v1 v2) := by
  unfold State.frameSeen
  extract_lets +onlyGivenNames -merge x1 x2 x4 x6 x9 x11 x13
  have h3 : State.inner x2 := by unfold x2; exact (ite_p (fun _ => k0) (fun _ => (clo_inner.drawn rfl  (State.updLink_inner (fun _ h => { h with }) k0))))
  have h5 : State.inner x4 := by unfold x4; exact (State.updLink_inner (fun _ => Link.rxScr_inner) h3)
  have h7 : State.inner x6 := by unfold x6; exact (State.each_inv (clo_inner.mono rfl) h5 (fun _ _ h8 => (clo_inner.setF rfl h8)))
  have h10 : State.inner x9 := by unfold x9; exact (clo_inner.inc rfl h7)
  have h12 : State.inner x11 := by unfold x11; exact (ite_p (fun _ => (clo_inner.inc rfl h10)) (fun _ => h10))
  have h14 : State.inner x13 := by
    unfold x13
    refine State.each_inv (clo_inner.mono rfl) h12 ?_
    intro a19 a20 h18
    extract_lets +onlyGivenNames -merge x21 x22
    have h23 : State.inner x22 := by unfold x22; exact (State.updLink_inner (fun _ h => { h with badFrames := mwf_mput _ _ h.badFrames }) h18)
    clear_value x21 x22
    exact (clo_inner.setF rfl h23)
  clear_value x1 x2 x4 x6 x9 x11 x13
  exact (ite_p (fun _ => (State.startRetrain_inner h14)) (fun _ => h14))
theorem State.forceTxs_inner {v0} {v1} (k0 : State.inner v0) : State.inner (State.forceTxs v0 v1) := by
  unfold State.forceTxs
  extract_lets +onlyGivenNames -merge x1
  clear_value x1
  refine ite_p (fun _ => k0) (fun _ => ?_)
  extract_lets +onlyGivenNames -merge x2
  exact (State.updLink_inner (fun _ h => { h with }) (ite_p (fun _ => k0) (fun _ => (State.enterTx_inner k0))))
theorem State.unforceTxs_inner {v0} {v1} (k0 : State.inner v0) : State.inner (State.unforceTxs v0 v1) := by
  unfold State.unforceTxs
  extract_lets +onlyGivenNames -merge x1
  clear_value x1
  refine ite_p (fun _ => ?_) (fun _ => k0)
  extract_lets +onlyGivenNames -merge x2 x3
  have h4 : State.inner x3 := by unfold x3; exact (State.updLink_inner (fun _ h => { h with }) k0)
  clear_value x2 x3
  exact (ite_p (fun _ => (ite_p (fun _ => (State.enterTx_inner h4)) (fun _ => (State.startRetrain_inner h4)))) (fun _ => (State.exitTx_inner h4)))
theorem State.shedPort_inner {v0} {v1} (k0 : State.inner v0) : State.inner (State.shedPort v0 v1) := by
  unfold State.shedPort
  exact (State.linkDrained_inner (State.updLink_inner (fun _ h => { h with }) k0))
theorem State.leaveL1_inner {v0} {v1} (k0 : State.inner v0) : State.inner (State.leaveL1 v0 v1) := by
  unfold State.leaveL1
  refine ite_p (fun _ => ?_) (fun _ => k0)
  extract_lets +onlyGivenNames -merge x1
  have h2 : State.inner x1 := by unfold x1; exact (State.setLinkState_inv (clo_inner.mono rfl) k0)
  clear_value x1
  exact (ite_p (fun _ => (State.endLinkCmds_inner h2)) (fun _ => h2))
theorem State.l1Wake_inner {v0} {v1} (k0 : State.inner v0) : State.inner (State.l1Wake v0 v1) := by
  unfold State.l1Wake
  exact (ite_p (fun _ => (State.leaveL1_inner k0)) (fun _ => k0))
theorem execDataFlit_inner {v0} {v1} {v2} (k2 : State.inner v2) : (OutP State.inner) (execDataFlit v0 v1 v2) := by
  unfold execDataFlit
  exact (mk_next (State.unlessResuming_inv (clo_inner.mono rfl) k2 (fun _ h1 => (State.dataRecv_inner h1))))
theorem execNullFlit_inner {v0} {v1} {v2} (k2 : State.inner v2) : (OutP State.inner) (execNullFlit v0 v1 v2) := by
  unfold execNullFlit
  exact (mk_next (State.unlessResuming_inv (clo_inner.mono rfl) k2 (fun _ h1 => (State.nullRecv_inner h1))))
theorem execInitFlit_inner {v0} {v1} {v2} (k2 : State.inner v2) : (OutP State.inner) (execInitFlit v0 v1 v2) := by
  unfold execInitFlit
  exact (mk_next (State.unlessResuming_inv (clo_inner.mono rfl) k2 (fun _ h1 => (State.initRecv_inner h1))))
theorem execResyncFlit_inner {v0} {v1} {v2} (k2 : State.inner v2) : (OutP State.inner) (execResyncFlit v0 v1 v2) := by
  unfold execResyncFlit
  exact (mk_next (State.unlessResuming_inv (clo_inner.mono rfl) k2 (fun _ h1 => (State.resyncRecv_inner h1))))
theorem execNak_inner {v0} {v1} {v2} (k2 : State.inner v2) : (OutP State.inner) (execNak v0 v1 v2) := by
  unfold execNak
  exact (mk_next (State.unlessResuming_inv (clo_inner.mono rfl) k2 (fun _ h1 => (State.nakRecv_inner h1))))
theorem execPm_inner {v0} {v1} {v2} (k2 : State.inner v2) : (OutP State.inner) (execPm v0 v1 v2) := by
  unfold execPm
  exact (mk_next (State.unlessResuming_inv (clo_inner.mono rfl) k2 (fun _ h1 => (State.pmRecv_inner h1))))
theorem execTeq_inner {v0} {v1} {v2} (k2 : State.inner v2) : (OutP State.inner) (execTeq v0 v1 v2) := by
  unfold execTeq
  exact (mk_next (State.unlessResuming_inv (clo_inner.mono rfl) k2 (fun _ h1 => (State.teqRecv_inner h1))))
theorem execFlitSend_inner {v0} {v1} {v2} (k2 : State.inner v2) : (OutP State.inner) (execFlitSend v0 v1 v2) := by
  unfold execFlitSend
  exact (mk_next (State.flitSend_inner k2))
theorem execAckTimer_inner {v0} {v1} (k1 : State.inner v1) : (OutP State.inner) (execAckTimer v0 v1) := by
  unfold execAckTimer
  extract_lets +onlyGivenNames -merge x1
  have h2 : State.inner x1 := by unfold x1; exact (ite_p (fun _ => (State.leaveL1_inner k1)) (fun _ => k1))
  clear_value x1
  exact (mk_next (ite_p (fun _ => (State.txPower_inner (State.sendNull_inner (ite_p (fun _ => h2) (fun _ => (State.exitTx_inner h2)))))) (fun _ => h2)))
theorem execReplayTimer_inner {v0} {v1} (k1 : State.inner v1) : (OutP State.inner) (execReplayTimer v0 v1) := by
  unfold execReplayTimer
  exact (mk_next (ite_p (fun _ => (State.replayAll_inner k1)) (fun _ => k1)))
theorem execDpCtrlRetrain_inner {v0} {v1} (k1 : State.inner v1) : (OutP State.inner) (execDpCtrlRetrain v0 v1) := by
  unfold execDpCtrlRetrain
  exact (mk_next (State.when_inv (clo_inner.mono rfl) (clo_inner.setF rfl k1) (fun _ h1 => (State.startRetrain_inner h1))))
theorem execDpCtrlHoldDown_inner {v0} {v1} {v2} (k2 : State.inner v2) : (OutP State.inner) (execDpCtrlHoldDown v0 v1 v2) := by
  unfold execDpCtrlHoldDown
  exact (mk_next (ite_p (fun _ => (State.holdDown_inner k2)) (fun _ => (State.releaseHold_inner k2))))
theorem execSlCtrlRetrain_inner {v0} {v1} (k1 : State.inner v1) : (OutP State.inner) (execSlCtrlRetrain v0 v1) := by
  unfold execSlCtrlRetrain
  exact (mk_next (State.when_inv (clo_inner.mono rfl) (clo_inner.setF rfl k1) (fun _ h1 => (State.startRetrain_inner h1))))
theorem execSlCtrlHoldDown_inner {v0} {v1} {v2} (k2 : State.inner v2) : (OutP State.inner) (execSlCtrlHoldDown v0 v1 v2) := by
  unfold execSlCtrlHoldDown
  exact (mk_next (ite_p (fun _ => (State.holdDown_inner k2)) (fun _ => (State.releaseHold_inner k2))))
theorem State.writeTxHold_inner {v0} {v1} {v2} (k0 : State.inner v0) : State.inner (State.writeTxHold v0 v1 v2) := by
  unfold State.writeTxHold
  extract_lets +onlyGivenNames -merge x1 x2 x3
  have h4 : State.inner x3 := by unfold x3; exact (clo_inner.setF rfl k0)
  clear_value x1 x2 x3
  exact (ite_p (fun _ => (State.exitTx_inner h4)) (fun _ => (State.txPower_inner h4)))
theorem execTxHold_inner {v0} {v1} {v2} (k2 : State.inner v2) : (OutP State.inner) (execTxHold v0 v1 v2) := by
  unfold execTxHold
  exact (mk_next (State.writeTxHold_inner k2))
theorem execReplayBufferDrainLimit_inner {v0} {v1} (k1 : State.inner v1) : (OutP State.inner) (execReplayBufferDrainLimit v0 v1) := by
  unfold execReplayBufferDrainLimit
  exact (mk_next (State.drainLimit10_inner k1))
theorem execTrainingAttempt_inner {v0} {v1} (k1 : State.inner v1) : (OutP State.inner) (execTrainingAttempt v0 v1) := by
  unfold execTrainingAttempt
  exact (mk_next (State.trainingAttempt_inner k1))
theorem execAlignmentCheck_inner {v0} {v1} {v2} (k2 : State.inner v2) : (OutP State.inner) (execAlignmentCheck v0 v1 v2) := by
  unfold execAlignmentCheck
  exact (mk_next (State.alignmentCheck_inner k2))
theorem execFfeTuningRound_inner {v0} {v1} {v2} (k2 : State.inner v2) : (OutP State.inner) (execFfeTuningRound v0 v1 v2) := by
  unfold execFfeTuningRound
  exact (mk_next (State.ffeRound_inner k2))
theorem execFrameLock_inner {v0} {v1} (k1 : State.inner v1) : (OutP State.inner) (execFrameLock v0 v1) := by
  unfold execFrameLock
  exact (mk_next (State.frameLock_inner k1))
theorem execAdapterActive_inner {v0} {v1} {v2} (k2 : State.inner v2) : (OutP State.inner) (execAdapterActive v0 v1 v2) := by
  unfold execAdapterActive
  exact (mk_next (State.adapterActive_inner k2))
theorem execTrainingFailure_inner {v0} {v1} (k1 : State.inner v1) : (OutP State.inner) (execTrainingFailure v0 v1) := by
  unfold execTrainingFailure
  exact (mk_next (ite_p (fun _ => k1) (fun _ => (State.attemptFails_inner k1))))
theorem execFailedRetry_inner {v0} {v1} (k1 : State.inner v1) : (OutP State.inner) (execFailedRetry v0 v1) := by
  unfold execFailedRetry
  exact (mk_next (State.failedRetry_inner k1))
theorem execL1Entry_inner {v0} {v1} (k1 : State.inner v1) : (OutP State.inner) (execL1Entry v0 v1) := by
  unfold execL1Entry
  exact (mk_next (ite_p (fun _ => (State.setLinkState_inv (clo_inner.mono rfl) k1)) (fun _ => k1)))
theorem execL1Exit_inner {v0} {v1} (k1 : State.inner v1) : (OutP State.inner) (execL1Exit v0 v1) := by
  unfold execL1Exit
  exact (mk_next (State.leaveL1_inner k1))
theorem execTxiEntry_inner {v0} {v1} (k1 : State.inner v1) : (OutP State.inner) (execTxiEntry v0 v1) := by
  unfold execTxiEntry
  exact (mk_next (ite_p (fun _ => (State.enterTx_inner k1)) (fun _ => (State.txPower_inner k1))))
theorem execTxsEntry_inner {v0} {v1} (k1 : State.inner v1) : (OutP State.inner) (execTxsEntry v0 v1) := by
  unfold execTxsEntry
  exact (mk_next (ite_p (fun _ => (State.enterTx_inner k1)) (fun _ => (State.txPower_inner k1))))
theorem execTxExit_inner {v0} {v1} (k1 : State.inner v1) : (OutP State.inner) (execTxExit v0 v1) := by
  unfold execTxExit
  exact (mk_next (ite_p (fun _ => (State.exitTx_inner k1)) (fun _ => k1)))
theorem execPortMainbandStop_inner {v0} {v1} (k1 : State.inner v1) : (OutP State.inner) (execPortMainbandStop v0 v1) := by
  unfold execPortMainbandStop
  exact (mk_next (ite_p (fun _ => (State.updLink_inner (fun _ h => { h with }) (State.startRetrain_inner k1))) (fun _ => k1)))
theorem execForwardedClockStop_inner {v0} {v1} (k1 : State.inner v1) : (OutP State.inner) (execForwardedClockStop v0 v1) := by
  unfold execForwardedClockStop
  extract_lets +onlyGivenNames -merge x1
  clear_value x1
  refine mk_next ?_
  refine ite_p (fun _ => k1) (fun _ => ?_)
  split
  ·
    rename_i y2 y3 y4
    exact (ite_p (fun _ => (State.enterRx_inner k1)) (fun _ => (State.startRetrain_inner k1)))
  ·
    rename_i y5 y6
    exact (State.startRetrain_inner k1)
theorem execAdapterRetryFailure_inner {v0} {v1} {v2} (k2 : State.inner v2) : (OutP State.inner) (execAdapterRetryFailure v0 v1 v2) := by
  unfold execAdapterRetryFailure
  exact (mk_next (State.startRetrain_inner (clo_inner.inc rfl k2)))
theorem execLaneFault_inner {v0} {v1} {v2} {v3} (k3 : State.inner v3) : (OutP State.inner) (execLaneFault v0 v1 v2 v3) := by
  unfold execLaneFault
  exact (mk_next (State.startRetrain_inner (clo_inner.inc (by split <;> rfl) k3)))
theorem execDpStatus_inner {v0} {v1} {v2} (k2 : State.inner v2) : (OutP State.inner) (execDpStatus v0 v1 v2) := by
  unfold execDpStatus
  exact (mk_next (State.submit_inner k2 (fun _ h1 => (State.checks_inner h1 (fun _ h2 => (State.replyData_inner h2))))))
theorem execSlStatus_inner {v0} {v1} {v2} (k2 : State.inner v2) : (OutP State.inner) (execSlStatus v0 v1 v2) := by
  unfold execSlStatus
  exact (mk_next (State.submit_inner k2 (fun _ h1 => (State.checks_inner h1 (fun _ h2 => (State.replyData_inner h2))))))
theorem State.awaitLink_inner {v0} {v1} {v2} {v3} (k0 : State.inner v0) : State.inner (State.awaitLink v0 v1 v2 v3) := by
  unfold State.awaitLink
  exact (State.updLink_inner (fun _ h => { h with }) k0)
theorem execDpRetrain_inner {v0} {v1} {v2} {v3} (k3 : State.inner v3) : (OutP State.inner) (execDpRetrain v0 v1 v2 v3) := by
  unfold execDpRetrain
  exact (mk_next (State.submit_inner k3 (fun _ h1 => (State.checks_inner h1 (fun _ h2 => (State.startRetrain_inner (State.awaitLink_inner h2)))))))
theorem execDpDown_inner {v0} {v1} {v2} (k2 : State.inner v2) : (OutP State.inner) (execDpDown v0 v1 v2) := by
  unfold execDpDown
  exact (mk_next (State.submit_inner k2 (fun _ h1 => (State.checks_inner h1 (fun _ h2 => (State.holdDown_inner (State.awaitLink_inner h2)))))))
theorem State.upLink_inner {v0} {v1} {v2} (k0 : State.inner v0) : State.inner (State.upLink v0 v1 v2) := by
  unfold State.upLink
  extract_lets +onlyGivenNames -merge x1
  have h2 : State.inner x1 := by unfold x1; exact (State.releaseHold_inner (State.awaitLink_inner k0))
  clear_value x1
  exact (ite_p (fun _ => (State.endLinkCmds_inner h2)) (fun _ => h2))
theorem execDpUp_inner {v0} {v1} {v2} {v3} (k3 : State.inner v3) : (OutP State.inner) (execDpUp v0 v1 v2 v3) := by
  unfold execDpUp
  exact (mk_next (State.submit_inner k3 (fun _ h1 => (State.checks_inner h1 (fun _ h2 => (State.upLink_inner h2))))))
theorem execSlRetrain_inner {v0} {v1} {v2} {v3} (k3 : State.inner v3) : (OutP State.inner) (execSlRetrain v0 v1 v2 v3) := by
  unfold execSlRetrain
  exact (mk_next (State.submit_inner k3 (fun _ h1 => (State.checks_inner h1 (fun _ h2 => (State.startRetrain_inner (State.awaitLink_inner h2)))))))
theorem execSlDown_inner {v0} {v1} {v2} (k2 : State.inner v2) : (OutP State.inner) (execSlDown v0 v1 v2) := by
  unfold execSlDown
  exact (mk_next (State.submit_inner k2 (fun _ h1 => (State.checks_inner h1 (fun _ h2 => (State.holdDown_inner (State.awaitLink_inner h2)))))))
theorem execSlUp_inner {v0} {v1} {v2} {v3} (k3 : State.inner v3) : (OutP State.inner) (execSlUp v0 v1 v2 v3) := by
  unfold execSlUp
  exact (mk_next (State.submit_inner k3 (fun _ h1 => (State.checks_inner h1 (fun _ h2 => (State.upLink_inner h2))))))
theorem execSlSlip_inner {v0} {v1} {v2} {v3} (k3 : State.inner v3) : (OutP State.inner) (execSlSlip v0 v1 v2 v3) := by
  unfold execSlSlip
  exact (mk_next (State.submit_inner k3 (fun _ h1 => (State.checks_inner h1 (fun _ h2 => (State.reply_inner (State.slipLane_inv (clo_inner.mono rfl) h2)))))))
theorem execSlPower_inner {v0} {v1} {v2} {v3} {v4} {v5} (k5 : State.inner v5) : (OutP State.inner) (execSlPower v0 v1 v2 v3 v4 v5) := by
  unfold execSlPower
  refine mk_next ?_
  refine State.submit_inner k5 ?_
  intro a10 h9
  refine State.checks_inner h9 ?_
  intro a14 h13
  extract_lets +onlyGivenNames -merge x15 x17
  have h16 : State.inner x15 := by unfold x15; exact (clo_inner.setF rfl (State.awaitLink_inner h13))
  have h18 : State.inner x17 := by unfold x17; exact (State.writeTxHold_inner h16)
  clear_value x15 x17
  exact (State.endLinkCmds_inner h18)

/-! ### RawRing -/

theorem State.setRawDir_inner {v0} {v1} {v2} {v3} (k0 : State.inner v0) : State.inner (State.setRawDir v0 v1 v2 v3) := by
  unfold State.setRawDir
  exact (State.updLink_inner (fun _ h => ite_p (fun _ => { h with }) fun _ => { h with }) k0)
theorem State.rawAsk_inner {v0} {v1} {v2} {v3} (k0 : State.inner v0) : State.inner (State.rawAsk v0 v1 v2 v3) := by
  unfold State.rawAsk
  extract_lets +onlyGivenNames -merge x1
  clear_value x1
  exact (State.request_inner (State.setRawDir_inner k0))
theorem State.rawStart_inner {v0} {v1} {v2} (k0 : State.inner v0) : State.inner (State.rawStart v0 v1 v2) := by
  unfold State.rawStart
  exact (ite_p (fun _ => (State.rawAsk_inner k0)) (fun _ => k0))
theorem State.rawNotify_inner {v0} {v1} {v2} (k0 : State.inner v0) : State.inner (State.rawNotify v0 v1 v2) := by
  unfold State.rawNotify
  refine ite_p (fun _ => k0) (fun _ => ?_)
  extract_lets +onlyGivenNames -merge x1
  clear_value x1
  exact (State.request_inner k0)
theorem State.rawPop_inner {v0} {v1} {v2} (k0 : State.inner v0) : State.inner (State.rawPop v0 v1 v2) := by
  unfold State.rawPop
  extract_lets +onlyGivenNames -merge x1 x2 x3 x4
  have h5 : State.inner x4 := by unfold x4; exact (State.updLink_inner (fun _ h => { h with }) k0)
  clear_value x1 x2 x3 x4
  exact (ite_p (fun _ => (State.rawNotify_inner h5)) (fun _ => h5))
theorem State.rawNext_inner {v0} {v1} {v2} {v3} (k0 : State.inner v0) : State.inner (State.rawNext v0 v1 v2 v3) := by
  unfold State.rawNext
  extract_lets +onlyGivenNames -merge x1 x2 x3
  clear_value x1 x2 x3
  refine ite_p (fun _ => ?_) (fun _ => ?_)
  ·
    refine ite_p (fun _ => ?_) (fun _ => (ite_p (fun _ => (State.setRawDir_inner k0)) (fun _ => (State.rawAsk_inner k0))))
    refine ite_p (fun _ => (State.setRawDir_inner k0)) (fun _ => ?_)
    refine ite_p (fun _ => ?_) (fun _ => (State.rawAsk_inner k0))
    extract_lets +onlyGivenNames -merge x4
    have h5 : State.inner x4 := by unfold x4; exact (State.rawPop_inner (State.setRawDir_inner (clo_inner.inc rfl k0)))
    clear_value x4
    exact (ite_p (fun _ => h5) (fun _ => (State.rawStart_inner h5)))
  ·
    refine ite_p (fun _ => ?_) (fun _ => ?_)
    ·
      refine ite_p (fun _ => (State.rawAsk_inner k0)) (fun _ => ?_)
      refine ite_p (fun _ => (State.setRawDir_inner k0)) (fun _ => ?_)
      extract_lets +onlyGivenNames -merge x6
      have h7 : State.inner x6 := by unfold x6; exact (ite_p (fun _ => (clo_inner.inc rfl k0)) (fun _ => (State.updLink_inner (fun _ h => { h with }) k0)))
      clear_value x6
      exact (State.rawAsk_inner h7)
    ·
      extract_lets +onlyGivenNames -merge x8
      have h9 : State.inner x8 := by unfold x8; exact (ite_p (fun _ => (State.rawPop_inner (State.updLink_inner (fun _ h => { h with }) k0))) (fun _ => k0))
      clear_value x8
      exact (State.rawAsk_inner h9)
theorem State.rawResponse_inner {v0} {v1} {v2} (k0 : State.inner v0) : State.inner (State.rawResponse v0 v1 v2) := by
  unfold State.rawResponse
  split
  ·
    rename_i y1 y2
    exact k0
  ·
    rename_i y3 y4 y5
    extract_lets +onlyGivenNames -merge x6
    clear_value x6
    exact (ite_p (fun _ => (State.rawNext_inner k0)) (fun _ => (ite_p (fun _ => (State.rawAsk_inner k0)) (fun _ => (State.setRawDir_inner (ite_p (fun _ => (clo_inner.inc rfl k0)) (fun _ => k0)))))))
theorem State.rawLost_inner {v0} {v1} {v2} (k0 : State.inner v0) : State.inner (State.rawLost v0 v1 v2) := by
  unfold State.rawLost
  split
  ·
    rename_i y1 y2
    exact k0
  ·
    rename_i y3 y4 y5
    exact (State.setRawDir_inner k0)
theorem State.rawTake_inner {v0} {v1} {v2} {v3} (k0 : State.inner v0) : State.inner (State.rawTake v0 v1 v2 v3) := by
  unfold State.rawTake
  refine ite_p (fun _ => k0) (fun _ => ?_)
  extract_lets +onlyGivenNames -merge x1
  clear_value x1
  exact (State.rawStart_inner (State.updLink_inner (fun _ h => { h with }) k0))
theorem execRawTransmit_inner {v0} {v1} (k1 : State.inner v1) : (OutP State.inner) (execRawTransmit v0 v1) := by
  unfold execRawTransmit
  exact (mk_next (ite_p (fun _ => (State.rawStart_inner k1)) (fun _ => k1)))
theorem execRawReceive_inner {v0} {v1} {v2} {v3} (k3 : State.inner v3) : (OutP State.inner) (execRawReceive v0 v1 v2 v3) := by
  unfold execRawReceive
  exact (mk_next (State.unlessResuming_inv (clo_inner.mono rfl) k3 (fun _ h1 => (ite_p (fun _ => (State.rawTake_inner h1)) (fun _ => h1)))))
theorem execRawControlPoll_inner {v0} {v1} (k1 : State.inner v1) : (OutP State.inner) (execRawControlPoll v0 v1) := by
  unfold execRawControlPoll
  exact (mk_next (ite_p (fun _ => (State.rawStart_inner k1)) (fun _ => k1)))
theorem execRawRingRetry_inner {v0} {v1} (k1 : State.inner v1) : (OutP State.inner) (execRawRingRetry v0 v1) := by
  unfold execRawRingRetry
  refine mk_next ?_
  refine State.each_inv (clo_inner.mono rfl) k1 ?_
  intro a6 a7 h5
  extract_lets +onlyGivenNames -merge x8
  clear_value x8
  exact (ite_p (fun _ => (State.rawAsk_inner h5)) (fun _ => h5))

end Sys2Proof.Machine

/-!
SUPPORT. What each operation of Laws/InvSystem leaves of the tables inside the units: one lemma per definition.
-/
namespace Sys2Proof.Machine


/-! ### CryptoUnit -/

theorem State.updCrr_inner {v0} {v1} {v2} (k0 : State.inner v0) : State.inner (State.updCrr v0 v1 v2) := by
  unfold State.updCrr
  exact (State.updCr_inner (fun _ h => { h with ranges := mwf_mupd _ _ h.ranges }) k0)
theorem State.setJob_inner {v0} {v1} {v2} (k0 : State.inner v0) : State.inner (State.setJob v0 v1 v2) := by
  unfold State.setJob
  exact (State.updCr_inner (fun _ h => { h with jobs := mwf_mput _ _ h.jobs }) k0)
theorem State.updJob_inner {v0} {v1} {v2} (k0 : State.inner v0) : State.inner (State.updJob v0 v1 v2) := by
  unfold State.updJob
  split
  ·
    rename_i y1 y2 y3
    exact (State.setJob_inner k0)
  ·
    rename_i y4 y5
    exact k0
theorem State.setReq_inner {v0} {v1} {v2} (k0 : State.inner v0) : State.inner (State.setReq v0 v1 v2) := by
  unfold State.setReq
  exact (State.updCr_inner (fun _ h => { h with reqs := mwf_mput _ _ h.reqs }) k0)
theorem State.crNext_inner {v0} (k0 : State.inner v0) : (SndP State.inner) (State.crNext v0) := by
  unfold State.crNext
  exact (mk_snd (State.updCr_inner (fun _ h => { h with }) k0))
theorem State.cacheFront_inner {v0} {v1} {v2} (k0 : State.inner v0) : State.inner (State.cacheFront v0 v1 v2) := by
  unfold State.cacheFront
  exact (State.updCr_inner (fun _ h => { h with }) k0)
theorem State.cacheTouch_inner {v0} {v1} (k0 : State.inner v0) : State.inner (State.cacheTouch v0 v1) := by
  unfold State.cacheTouch
  split
  ·
    rename_i y1 y2 y3
    exact (State.cacheFront_inner k0)
  ·
    rename_i y4 y5
    exact k0
theorem State.cachePut_inner {v0} {v1} {v2} (k0 : State.inner v0) : State.inner (State.cachePut v0 v1 v2) := by
  unfold State.cachePut
  exact (clo_inner.odClear rfl _ (State.cacheFront_inner k0))
theorem State.cacheSet_inner {v0} {v1} {v2} (k0 : State.inner v0) : State.inner (State.cacheSet v0 v1 v2) := by
  unfold State.cacheSet
  exact (clo_inner.odClear rfl _ (State.updCr_inner (fun _ h => { h with }) k0))
theorem State.cacheDrop_inner {v0} {v1} (k0 : State.inner v0) : State.inner (State.cacheDrop v0 v1) := by
  unfold State.cacheDrop
  exact (clo_inner.odClear rfl _ (State.updCr_inner (fun _ h => { h with }) k0))
theorem State.jobSend_inner {v0} {v1} {v2} {v3} (k0 : State.inner v0) : State.inner (State.jobSend v0 v1 v2 v3) := by
  unfold State.jobSend
  split
  ·
    rename_i y1 y2 y3
    exact (State.updJob_inner (State.request_inner k0))
  ·
    rename_i y4 y5
    exact (State.updJob_inner k0)
theorem State.jobHome_inner {v0} {v1} {v2} {v3} {v4} {v5} {v6} {v7} (k0 : State.inner v0) : State.inner (State.jobHome v0 v1 v2 v3 v4 v5 v6 v7) := by
  unfold State.jobHome
  split
  ·
    rename_i y1 y2 y3
    exact (State.jobSend_inner k0)
  ·
    rename_i y4 y5
    exact k0
theorem State.pumpJob_inner {v0} {v1} (k0 : State.inner v0) : State.inner (State.pumpJob v0 v1) := by
  unfold State.pumpJob
  split
  ·
    rename_i y1 y2 y3
    exact (State.each_inv (clo_inner.mono rfl) (State.updJob_inner k0) (fun _ _ h4 => (State.jobSend_inner h4)))
  ·
    rename_i y5 y6
    exact k0
theorem State.setRange_inner {v0} {v1} {v2} (k0 : State.inner v0) : State.inner (State.setRange v0 v1 v2) := by
  unfold State.setRange
  exact (ite_p (fun _ => (State.updCrr_inner k0)) (fun _ => (State.keyRoll_inv (clo_inner.mono rfl) (clo_inner.setF rfl k0))))
theorem State.rangeFails_inner {v0} {v1} {v2} {v3} {v4} (k0 : State.inner v0) : State.inner (State.rangeFails v0 v1 v2 v3 v4) := by
  unfold State.rangeFails
  extract_lets +onlyGivenNames -merge x1 x3 x5 x6
  have h2 : State.inner x1 := by unfold x1; exact (State.setRange_inner (State.crFail_inv (clo_inner.mono rfl) k0))
  have h4 : State.inner x3 := by unfold x3; exact (clo_inner.setF rfl h2)
  have h7 : State.inner x6 := by unfold x6; exact (State.respondTo_inner (State.updCrr_inner h4))
  clear_value x1 x3 x5 x6
  exact (State.event_inner h7)
theorem State.counterEnd_inner {v0} {v1} {v2} (k0 : State.inner v0) : State.inner (State.counterEnd v0 v1 v2) := by
  unfold State.counterEnd
  exact (ite_p (fun _ => (State.event_inner (clo_inner.setF rfl (State.setRange_inner k0)))) (fun _ => k0))
theorem State.reqDone_inner {v0} {v1} {v2} (k0 : State.inner v0) : State.inner (State.reqDone v0 v1 v2) := by
  unfold State.reqDone
  extract_lets +onlyGivenNames -merge x1 x3
  have h2 : State.inner x1 := by unfold x1; exact (State.setReq_inner k0)
  clear_value x1 x3
  refine ite_p (fun _ => (State.inject_inner h2)) (fun _ => ?_)
  refine ite_p (fun _ => ?_) (fun _ => (State.inject_inner h2))
  extract_lets +onlyGivenNames -merge x4
  clear_value x4
  exact (State.inject_inner h2)
theorem State.jobDone_inner {v0} {v1} {v2} {v3} {v4} {v5} (k0 : State.inner v0) : State.inner (State.jobDone v0 v1 v2 v3 v4 v5) := by
  unfold State.jobDone
  split
  ·
    exact k0
  ·
    extract_lets +onlyGivenNames -merge x6
    have h7 : State.inner x6 := by unfold x6; exact (State.setJob_inner k0)
    clear_value x6
    split
    ·
      exact h7
    ·
      extract_lets x13
      exact (ite_p (fun _ => (State.reqDone_inner h7)) (fun _ => (State.setReq_inner h7)))
theorem State.endJobs_inner {v0} {v1} (k0 : State.inner v0) : State.inner (State.endJobs v0 v1) := by
  unfold State.endJobs
  exact (State.each_inv (clo_inner.mono rfl) k0 (fun _ _ h1 => (ite_p (fun _ => (State.setJob_inner h1)) (fun _ => (clo_inner.drawn rfl  (State.jobDone_inner h1))))))
theorem State.cacheFails_inner {v0} {v1} {v2} (k0 : State.inner v0) : State.inner (State.cacheFails v0 v1 v2) := by
  unfold State.cacheFails
  exact (ite_p (fun _ => k0) (fun _ => (State.endJobs_inner (State.rangeFails_inner (clo_inner.setF rfl k0)))))
theorem State.cacheSound_inner {v0} {v1} {v2} (k0 : State.inner v0) : State.inner (State.cacheSound v0 v1 v2) := by
  unfold State.cacheSound
  refine ite_p (fun _ => (State.cacheFails_inner k0)) (fun _ => ?_)
  refine State.each_inv (clo_inner.mono rfl) k0 ?_
  intro a6 a7 h5
  split
  ·
    rename_i y8 y9 y10
    exact (ite_p (fun _ => (State.cacheFails_inner h5)) (fun _ => (State.cacheDrop_inner (clo_inner.setF rfl h5))))
  ·
    rename_i y11 y12
    exact h5
theorem State.writeBackEnt_inner {v0} {v1} (k0 : State.inner v0) : State.inner (State.writeBackEnt v0 v1) := by
  unfold State.writeBackEnt
  split
  ·
    rename_i y1 y2
    exact k0
  ·
    rename_i y3 y4 y5
    extract_lets +onlyGivenNames -merge x6 x7 x8 x9
    clear_value x6 x7 x8 x9
    refine ite_p (fun _ => k0) (fun _ => ?_)
    extract_lets +onlyGivenNames -merge x10 x12
    have h11 : State.inner x10 := by unfold x10; exact (State.cacheSound_inner k0)
    clear_value x10 x12
    split
    ·
      rename_i y13 y14
      exact h11
    ·
      rename_i y15 y16 y17
      extract_lets +onlyGivenNames -merge x18 x19 x26 x27 x28 x30 x32
      have h20 : State.inner x19 := by
        unfold x19
        refine ite_p (fun _ => (State.updCrr_inner h11)) (fun _ => ?_)
        split
        ·
          rename_i y21 y22 y23
          exact (State.cacheSet_inner h11)
        ·
          rename_i y24 y25
          exact h11
      have h29 : State.inner x28 := by unfold x28; exact (State.cacheSet_inner h20)
      have h31 : State.inner x30 := by unfold x30; exact (State.sendPost_inner h29)
      have h33 : State.inner x32 := by unfold x32; exact (ite_p (fun _ => (State.sendPost_inner h31)) (fun _ => h31))
      clear_value x18 x19 x26 x27 x28 x30 x32
      exact (State.counterEnd_inner h33)
theorem State.evictEnt_inner {v0} {v1} {v2} (k1 : State.inner v1) : State.inner (State.evictEnt v0 v1 v2) := by
  induction v0 generalizing v1 k1 v2 with
  | zero =>
    rw [State.evictEnt]
    exact k1
  | succ n ih =>
    rw [State.evictEnt]
    split
    ·
      rename_i y1 y2 y3
      exact (ite_p (fun _ => (State.writeBackEnt_inner (foldl_p (fun _ _ h4 => (by apply ih; exact h4)) k1))) (fun _ => (State.cacheDrop_inner (State.writeBackEnt_inner (foldl_p (fun _ _ h5 => (by apply ih; exact h5)) k1)))))
    ·
      rename_i y6 y7
      exact (State.writeBackEnt_inner (foldl_p (fun _ _ h8 => (by apply ih; exact h8)) k1))
theorem State.evict1_inner {v0} {v1} (k0 : State.inner v0) : State.inner (State.evict1 v0 v1) := by
  unfold State.evict1
  exact (State.evictEnt_inner k0)
theorem State.dropAsked_inner {v0} {v1} (k0 : State.inner v0) : State.inner (State.dropAsked v0 v1) := by
  unfold State.dropAsked
  extract_lets +onlyGivenNames -merge x1
  clear_value x1
  exact (State.each_inv (clo_inner.mono rfl) k0 (fun _ _ h2 => (ite_p (fun _ => (State.updJob_inner h2)) (fun _ => h2))))
theorem State.cacheIn_inner {v0} {v1} {v2} {v3} (k0 : State.inner v0) : State.inner (State.cacheIn v0 v1 v2 v3) := by
  unfold State.cacheIn
  refine ite_p (fun _ => k0) (fun _ => ?_)
  extract_lets +onlyGivenNames -merge x1 x2 x3
  have h4 : State.inner x3 := by
    unfold x3
    refine ite_p (fun _ => k0) (fun _ => ?_)
    split
    ·
      rename_i y5 y6 y7
      exact (State.evict1_inner k0)
    ·
      rename_i y8 y9
      exact k0
  clear_value x1 x2 x3
  exact (ite_p (fun _ => (State.dropAsked_inner (State.cachePut_inner h4))) (fun _ => h4))
theorem State.writeBackAll_inner {v0} {v1} (k0 : State.inner v0) : State.inner (State.writeBackAll v0 v1) := by
  unfold State.writeBackAll
  exact (State.each_inv (clo_inner.mono rfl) k0 (fun _ _ h1 => (State.each_inv (clo_inner.mono rfl) h1 (fun _ _ h2 => (State.writeBackEnt_inner h2)))))
theorem State.readPage_inner {v0} {v1} {v2} {v3} (k0 : State.inner v0) : State.inner (State.readPage v0 v1 v2 v3) := by
  unfold State.readPage
  extract_lets +onlyGivenNames -merge x1 x2
  have h3 : State.inner x2 := by unfold x2; exact (State.each_inv (clo_inner.mono rfl) k0 (fun _ _ h4 => (State.jobHome_inner h4)))
  clear_value x1 x2
  exact (State.each_inv (clo_inner.mono rfl) h3 (fun _ _ h5 => (State.jobHome_inner h5)))
theorem State.startJob_inner {v0} {v1} {v2} (k0 : State.inner v0) : State.inner (State.startJob v0 v1 v2) := by
  unfold State.startJob
  extract_lets +onlyGivenNames -merge x1 x2 x3 x5 x8 x10 x12
  have h4 : State.inner x3 := by unfold x3; exact (ite_p (fun _ => (clo_inner.inc rfl k0)) (fun _ => (clo_inner.inc rfl k0)))
  have h6 : State.inner x5 := by unfold x5; exact (State.each_inv (clo_inner.mono rfl) h4 (fun _ _ h7 => (State.cacheTouch_inner h7)))
  have h9 : State.inner x8 := by unfold x8; exact (State.updJob_inner h6)
  have h11 : State.inner x10 := by unfold x10; exact (ite_p (fun _ => (State.jobHome_inner (State.jobHome_inner h9))) (fun _ => h9))
  have h13 : State.inner x12 := by unfold x12; exact (ite_p (fun _ => (State.readPage_inner h11)) (fun _ => h11))
  clear_value x1 x2 x3 x5 x8 x10 x12
  refine State.each_inv (clo_inner.mono rfl) h13 ?_
  intro a17 a18 h16
  extract_lets +onlyGivenNames -merge x19
  have h20 : State.inner x19 := by unfold x19; exact (State.jobHome_inner h16)
  clear_value x19
  exact (ite_p (fun _ => (State.jobHome_inner h20)) (fun _ => h20))
theorem State.jobAgain_inner {v0} {v1} (k0 : State.inner v0) : State.inner (State.jobAgain v0 v1) := by
  unfold State.jobAgain
  exact (State.updJob_inner k0)
theorem State.writeLine_inner {v0} {v1} {v2} {v3} {v4} {v5} (k0 : State.inner v0) : State.inner (State.writeLine v0 v1 v2 v3 v4 v5) := by
  unfold State.writeLine
  extract_lets +onlyGivenNames -merge x1
  clear_value x1
  exact (State.jobHome_inner k0)
theorem State.writeTag_inner {v0} {v1} {v2} {v3} {v4} (k0 : State.inner v0) : State.inner (State.writeTag v0 v1 v2 v3 v4) := by
  unfold State.writeTag
  exact (State.jobHome_inner k0)
theorem State.setLeaf_inner {v0} {v1} {v2} {v3} (k0 : State.inner v0) : State.inner (State.setLeaf v0 v1 v2 v3) := by
  unfold State.setLeaf
  exact (State.cachePut_inner k0)
theorem State.encryptLine_inner {v0} {v1} {v2} {v3} (k0 : State.inner v0) : State.inner (State.encryptLine v0 v1 v2 v3) := by
  unfold State.encryptLine
  extract_lets +onlyGivenNames -merge x1 x2 x3 x4
  clear_value x1 x2 x3 x4
  refine ite_p (fun _ => (State.updJob_inner k0)) (fun _ => ?_)
  extract_lets +onlyGivenNames -merge x5 x6 x7 x8 x10 x11
  have h9 : State.inner x8 := by unfold x8; exact (State.setLeaf_inner k0)
  have h12 : State.inner x11 := by unfold x11; exact (State.updJob_inner h9)
  clear_value x5 x6 x7 x8 x10 x11
  exact (State.writeTag_inner (State.writeLine_inner h12))
theorem State.finishLine_inner {v0} {v1} {v2} (k0 : State.inner v0) : State.inner (State.finishLine v0 v1 v2) := by
  unfold State.finishLine
  extract_lets +onlyGivenNames -merge x1 x2 x3 x4 x5 x6 x7 x8 x9 x10 x11
  have h12 : ∀ a0 a1, State.inner a0 → State.inner (x11 a0 a1) := by
    intro a14 a15 h13
    unfold x11
    exact (State.writeLine_inner (State.updJob_inner h13))
  clear_value x1 x2 x3 x4 x5 x6 x7 x8 x9 x10 x11
  exact (ite_p (fun _ => (State.jobDone_inner k0)) (fun _ => (ite_p (fun _ => (ite_p (fun _ => (clo_inner.drawn rfl  (State.jobDone_inner (State.tagFail_inv (clo_inner.mono rfl) k0)))) (fun _ => (State.jobDone_inner k0)))) (fun _ => (ite_p (fun _ => (ite_p (fun _ => (clo_inner.drawn rfl  (h12 _ _ k0))) (fun _ => (State.encryptLine_inner k0)))) (fun _ => (ite_p (fun _ => (State.jobDone_inner (State.crFail_inv (clo_inner.mono rfl) k0))) (fun _ => (ite_p (fun _ => (h12 _ _ (State.tagFail_inv (clo_inner.mono rfl) k0))) (fun _ => (ite_p (fun _ => (clo_inner.drawn rfl  (h12 _ _ k0))) (fun _ => (State.encryptLine_inner k0)))))))))))))
theorem State.verifyNodes_inner {v0} {v1} (k0 : State.inner v0) : (FstP (OptP State.inner)) (State.verifyNodes v0 v1) := by
  unfold State.verifyNodes
  extract_lets +onlyGivenNames -merge x1 x2 x3 x4
  clear_value x1 x2 x3 x4
  refine foldl_p ?_ (mk_fst (mk_some k0))
  intro a8 a9 h7
  split
  ·
    rename_i y10 y11
    exact h7
  ·
    rename_i y12 y13 y14
    have q16 := congr_p (Q := (OptP State.inner)) y14 (by
        exact (fst_p h7)
      )
    have h15 : State.inner y13 := q16
    extract_lets +onlyGivenNames -merge x17 x18
    clear_value x17 x18
    refine ite_p (fun _ => h7) (fun _ => ?_)
    split
    ·
      rename_i y19 y20
      exact h7
    ·
      rename_i y21 y22 y23
      extract_lets +onlyGivenNames -merge x24 x25 x26
      clear_value x24 x25 x26
      exact (ite_p (fun _ => (mk_fst none_p)) (fun _ => (mk_fst (mk_some (State.cacheIn_inner h15)))))
theorem State.rekeyBegin_inner {v0} {v1} {v2} {v3} (k0 : State.inner v0) : State.inner (State.rekeyBegin v0 v1 v2 v3) := by
  unfold State.rekeyBegin
  extract_lets +onlyGivenNames -merge x1
  have h2 : State.inner x1 := by unfold x1; exact (State.writeBackAll_inner (State.setJob_inner k0))
  clear_value x1
  refine ite_p (fun _ => h2) (fun _ => ?_)
  extract_lets +onlyGivenNames -merge x3
  have h4 : State.inner x3 := by unfold x3; exact (State.updCr_inner (fun _ h => { h with }) h2)
  clear_value x3
  split
  ·
    rename_i y5 y6 y7 y8
    have q10 := congr_p (Q := (SndP State.inner)) y8 (by
        exact (State.trng_inv (clo_inner.mono rfl) h4)
      )
    have h9 : State.inner y7 := q10
    split
    ·
      rename_i y11 y12 y13 y14
      have q16 := congr_p (Q := (SndP State.inner)) y14 (by
          exact (State.trng_inv (clo_inner.mono rfl) h9)
        )
      have h15 : State.inner y13 := q16
      extract_lets +onlyGivenNames -merge x17
      have h18 : State.inner x17 := by unfold x17; exact (State.updCrr_inner h15)
      clear_value x17
      split
      ·
        rename_i y19 y20 y21 y22
        have q24 := congr_p (Q := (SndP State.inner)) y22 (by
            exact (State.crNext_inner h18)
          )
        have h23 : State.inner y21 := q24
        exact (State.setJob_inner h23)
theorem State.initPart_inner {v0} {v1} {v2} {v3} (k0 : State.inner v0) : State.inner (State.initPart v0 v1 v2 v3) := by
  unfold State.initPart
  extract_lets +onlyGivenNames -merge x1 x2
  clear_value x1 x2
  refine ite_p (fun _ => ?_) (fun _ => ?_)
  ·
    extract_lets +onlyGivenNames -merge x5 x6 x9 x12
    have h7 : State.inner x6 := by unfold x6; exact (State.each_inv (clo_inner.mono rfl) k0 (fun _ _ h8 => (State.jobHome_inner h8)))
    have h10 : State.inner x9 := by unfold x9; exact (State.each_inv (clo_inner.mono rfl) h7 (fun _ _ h11 => (State.jobHome_inner h11)))
    have h13 : State.inner x12 := by unfold x12; exact (State.jobHome_inner h10)
    clear_value x5 x6 x9 x12
    exact (State.jobHome_inner h13)
  ·
    refine State.each_inv (clo_inner.mono rfl) k0 ?_
    intro a17 a18 h16
    extract_lets +onlyGivenNames -merge x19
    clear_value x19
    refine ite_p (fun _ => h16) (fun _ => ?_)
    split
    ·
      rename_i y20 y21 y22 y23
      exact (State.jobHome_inner h16)
theorem State.initNext_inner {v0} {v1} {v2} (k0 : State.inner v0) : State.inner (State.initNext v0 v1 v2) := by
  unfold State.initNext
  extract_lets +onlyGivenNames -merge x1 x2 x3
  have h4 : State.inner x3 := by unfold x3; exact (clo_inner.setF rfl k0)
  clear_value x1 x2 x3
  exact (ite_p (fun _ => (State.initPart_inner (State.updJob_inner h4))) (fun _ => (State.updJob_inner h4)))
theorem State.rekeyNext_inner {v0} {v1} {v2} (k0 : State.inner v0) : State.inner (State.rekeyNext v0 v1 v2) := by
  unfold State.rekeyNext
  extract_lets +onlyGivenNames -merge x1 x2 x3 x4
  have h5 : State.inner x4 := by unfold x4; exact (clo_inner.setF rfl (State.setJob_inner k0))
  clear_value x1 x2 x3 x4
  refine ite_p (fun _ => ?_) (fun _ => ?_)
  ·
    split
    ·
      rename_i y6 y7 y8 y9
      have q11 := congr_p (Q := (SndP State.inner)) y9 (by
          exact (State.crNext_inner h5)
        )
      have h10 : State.inner y8 := q11
      exact (State.setJob_inner h10)
  ·
    extract_lets +onlyGivenNames -merge x12 x14 x16
    have h13 : State.inner x12 := by unfold x12; exact (State.updCr_inner (fun _ h => { h with }) h5)
    have h15 : State.inner x14 := by unfold x14; exact (State.updCrr_inner h13)
    have h17 : State.inner x16 := by unfold x16; exact (State.setRange_inner (clo_inner.setF rfl h15))
    clear_value x12 x14 x16
    exact (State.respondTo_inner h17)
theorem State.finishJob_inner {v0} {v1} {v2} (k0 : State.inner v0) : State.inner (State.finishJob v0 v1 v2) := by
  unfold State.finishJob
  exact (ite_p (fun _ => (State.finishLine_inner k0)) (fun _ => (ite_p (fun _ => (State.updJob_inner k0)) (fun _ => (ite_p (fun _ => (State.readPage_inner (State.updJob_inner k0))) (fun _ => (State.encryptLine_inner k0)))))))
theorem State.jobGo_inner {v0} {v1} (k0 : State.inner v0) : State.inner (State.jobGo v0 v1) := by
  unfold State.jobGo
  split
  ·
    rename_i y1 y2
    exact k0
  ·
    rename_i y3 y4 y5
    exact (ite_p (fun _ => k0) (fun _ => (ite_p (fun _ => (ite_p (fun _ => (State.rekeyNext_inner k0)) (fun _ => (ite_p (fun _ => (State.initNext_inner k0)) (fun _ => (State.jobDone_inner k0)))))) (fun _ => (ite_p (fun _ => k0) (fun _ => (ite_p (fun _ => (ite_p (fun _ => (State.jobAgain_inner k0)) (fun _ => (State.jobDone_inner k0)))) (fun _ => (ite_p (fun _ => (State.finishJob_inner k0)) (fun _ => (ite_p (fun _ => (State.updJob_inner k0)) (fun _ => (State.jobAgain_inner k0)))))))))))))
theorem State.crWake_inner {v0} (k0 : State.inner v0) : State.inner (State.crWake v0) := by
  unfold State.crWake
  refine ite_p (fun _ => k0) (fun _ => ?_)
  extract_lets +onlyGivenNames -merge x1 x3
  have h2 : State.inner x1 := by unfold x1; exact (State.pumpPosts_inner k0)
  clear_value x1 x3
  refine State.each_inv (clo_inner.mono rfl) h2 ?_
  intro a7 a8 h6
  split
  ·
    rename_i y9 y10
    exact h6
  ·
    rename_i y11 y12 y13
    refine ite_p (fun _ => (State.jobGo_inner (State.pumpJob_inner h6))) (fun _ => ?_)
    extract_lets +onlyGivenNames -merge x14
    have h15 : State.inner x14 := by unfold x14; exact (State.cacheSound_inner h6)
    clear_value x14
    split
    ·
      rename_i y16 y17
      exact h15
    ·
      rename_i y18 y19 y20
      exact (ite_p (fun _ => h15) (fun _ => (ite_p (fun _ => (State.rekeyBegin_inner h15)) (fun _ => (ite_p (fun _ => (State.initPart_inner (State.updJob_inner h15))) (fun _ => (State.jobGo_inner (State.startJob_inner h15))))))))
theorem State.crWakeAll_inner {v0} (k0 : State.inner v0) : State.inner (State.crWakeAll v0) := by
  unfold State.crWakeAll
  exact (State.crWake_inner (State.crWake_inner k0))
theorem State.takeProt_inner {v0} {v1} (k0 : State.inner v0) : (OptP (SndP State.inner)) (State.takeProt v0 v1) := by
  unfold State.takeProt
  exact (findSome_p (fun _ => (filter_p (State.takeOn_inner k0))))
theorem State.protAccess_inner {v0} {v1} (k0 : State.inner v0) : State.inner (State.protAccess v0 v1) := by
  unfold State.protAccess
  split
  ·
    rename_i y1 y2
    exact k0
  ·
    rename_i y3 y4 y5 y6 y7
    extract_lets +onlyGivenNames -merge x8 x9
    clear_value x8 x9
    refine ite_p (fun _ => (State.refuse_inner k0)) (fun _ => ?_)
    refine ite_p (fun _ => (State.refuse_inner (clo_inner.inc rfl k0))) (fun _ => ?_)
    extract_lets +onlyGivenNames -merge x10 x11
    clear_value x10 x11
    split
    ·
      rename_i y12 y13 y14 y15
      have q17 := congr_p (Q := (SndP State.inner)) y15 (by
          exact (State.crNext_inner k0)
        )
      have h16 : State.inner y14 := q17
      extract_lets +onlyGivenNames -merge x18
      have h19 : State.inner x18 := by unfold x18; exact (State.setReq_inner h16)
      clear_value x18
      refine ite_p (fun _ => ?_) (fun _ => ?_)
      ·
        refine clo_inner.drawn rfl  ?_
        refine State.each_inv (clo_inner.mono rfl) h19 ?_
        intro a26 a27 h25
        split
        ·
          rename_i y28 y29 y30 y31
          have q33 := congr_p (Q := (SndP State.inner)) y31 (by
              exact (State.crNext_inner h25)
            )
          have h32 : State.inner y30 := q33
          extract_lets +onlyGivenNames -merge x34
          have h35 : State.inner x34 := by unfold x34; exact (State.setJob_inner h32)
          clear_value x34
          exact (State.jobDone_inner h35)
      ·
        extract_lets +onlyGivenNames -merge x36
        have h37 : State.inner x36 := by
          unfold x36
          refine State.each_inv (clo_inner.mono rfl) h19 ?_
          intro a42 a43 h41
          split
          ·
            rename_i y44 y45 y46 y47
            have q49 := congr_p (Q := (SndP State.inner)) y47 (by
                exact (State.crNext_inner h41)
              )
            have h48 : State.inner y46 := q49
            extract_lets +onlyGivenNames -merge x50 x51
            clear_value x51
            exact (State.setJob_inner h48)
        clear_value x36
        exact (State.crWakeAll_inner h37)
theorem State.protRow_inner {v0} {v1} (k0 : State.inner v0) : State.inner (State.protRow v0 v1) := by
  unfold State.protRow
  refine ite_p (fun _ => k0) (fun _ => ?_)
  split
  ·
    rename_i y1 y2 y3 y4
    have q6 := congr_p (Q := (OptP (SndP State.inner))) y4 (by
        exact (State.takeProt_inner k0)
      )
    have h5 : State.inner y3 := q6
    exact (State.protAccess_inner h5)
  ·
    rename_i y7 y8
    exact k0
theorem State.homeAnswer_inner {v0} {v1} {v2} (k0 : State.inner v0) : State.inner (State.homeAnswer v0 v1 v2) := by
  unfold State.homeAnswer
  extract_lets +onlyGivenNames -merge x1 x2
  clear_value x1 x2
  split
  ·
    rename_i y3
    exact (State.crWakeAll_inner k0)
  ·
    rename_i y4 y5 y6
    extract_lets +onlyGivenNames -merge x7
    have h8 : State.inner x7 := by unfold x7; exact (State.updJob_inner k0)
    clear_value x7
    refine ite_p (fun _ => (State.crWakeAll_inner (State.each_inv (clo_inner.mono rfl) h8 (fun _ _ h10 => (State.jobSend_inner h10))))) (fun _ => ?_)
    extract_lets +onlyGivenNames -merge x11
    have h12 : State.inner x11 := by unfold x11; exact (State.updJob_inner h8)
    clear_value x11
    exact (State.crWakeAll_inner (State.jobGo_inner h12))
theorem State.homeResponse_inner {v0} (k0 : State.inner v0) : State.inner (State.homeResponse v0) := by
  unfold State.homeResponse
  split
  ·
    rename_i y1 y2
    exact k0
  ·
    rename_i y3 y4 y5 y6
    have q8 := congr_p (Q := (OptP (SndP State.inner))) y6 (by
        exact (State.take_inner k0)
      )
    have h7 : State.inner y5 := q8
    split
    ·
      rename_i y9 y10 y11
      have q13 := congr_p (Q := (SndP State.inner)) y11 (by
          exact (State.matchRsp_inner h7)
        )
      have h12 : State.inner y10 := q13
      exact h12
    ·
      rename_i y14 y15 y16 y17
      have q19 := congr_p (Q := (SndP State.inner)) y17 (by
          exact (State.matchRsp_inner h7)
        )
      have h18 : State.inner y16 := q19
      exact (ite_p (fun _ => (State.crWakeAll_inner (State.postAnswered_inner h18))) (fun _ => (State.homeAnswer_inner h18)))
theorem State.nodeVerification_inner {v0} {v1} (k0 : State.inner v0) : State.inner (State.nodeVerification v0 v1) := by
  unfold State.nodeVerification
  split
  ·
    rename_i y1 y2
    exact k0
  ·
    rename_i y3 y4 y5
    refine ite_p (fun _ => k0) (fun _ => ?_)
    extract_lets +onlyGivenNames -merge x6
    have h7 : State.inner x6 := by unfold x6; exact (State.cacheSound_inner k0)
    clear_value x6
    split
    ·
      rename_i y8 y9
      exact h7
    ·
      rename_i y10 y11 y12
      split
      ·
        rename_i y13 y14 y15 y16
        exact (State.crWakeAll_inner (State.endJobs_inner (State.rangeFails_inner h7)))
      ·
        rename_i y17 y18 y19 y20 y21
        have q23 := congr_p (Q := (FstP (OptP State.inner))) y21 (by
            exact (State.verifyNodes_inner h7)
          )
        have h22 : State.inner y18 := q23
        refine ite_p (fun _ => ?_) (fun _ => (ite_p (fun _ => h22) (fun _ => (State.crWakeAll_inner (State.jobAgain_inner h22)))))
        refine State.crWakeAll_inner ?_
        split
        ·
          rename_i y24 y25 y26
          exact (State.finishJob_inner h22)
        ·
          rename_i y27 y28
          exact h22
theorem State.writePage_inner {v0} {v1} {v2} {v3} {v4} (k0 : State.inner v0) : State.inner (State.writePage v0 v1 v2 v3 v4) := by
  unfold State.writePage
  extract_lets +onlyGivenNames -merge x1 x2
  have h3 : State.inner x2 := by
    unfold x2
    refine State.each_inv (clo_inner.mono rfl) k0 ?_
    intro a8 a9 h7
    extract_lets +onlyGivenNames -merge x10 x11
    clear_value x10 x11
    exact (State.jobHome_inner h7)
  clear_value x1 x2
  exact (State.each_inv (clo_inner.mono rfl) h3 (fun _ _ h12 => (State.jobHome_inner h12)))
theorem State.pageReEncryption_inner {v0} {v1} (k0 : State.inner v0) : State.inner (State.pageReEncryption v0 v1) := by
  unfold State.pageReEncryption
  split
  ·
    rename_i y1 y2
    exact k0
  ·
    rename_i y3 y4 y5 y6
    extract_lets +onlyGivenNames -merge x7
    have h8 : State.inner x7 := by unfold x7; exact (State.cacheSound_inner k0)
    clear_value x7
    refine ite_p (fun _ => (State.crWakeAll_inner h8)) (fun _ => ?_)
    refine ite_p (fun _ => (State.crWakeAll_inner (State.jobAgain_inner h8))) (fun _ => ?_)
    extract_lets +onlyGivenNames -merge x9 x10 x11 x12
    clear_value x9 x10 x11 x12
    split
    ·
      rename_i y13 y14 y15 y16
      extract_lets +onlyGivenNames -merge x17 x20 x22 x24
      have h18 : State.inner x17 := by unfold x17; exact (State.each_inv (clo_inner.mono rfl) h8 (fun _ _ h19 => (State.tagFail_inv (clo_inner.mono rfl) h19)))
      have h21 : State.inner x20 := by unfold x20; exact (State.setLeaf_inner h18)
      have h23 : State.inner x22 := by unfold x22; exact (clo_inner.incW rfl h21)
      have h25 : State.inner x24 := by unfold x24; exact (State.updJob_inner h23)
      clear_value x17 x20 x22 x24
      exact (State.counterEnd_inner (State.writePage_inner h25))
theorem State.zeroPath_inner {v0} {v1} {v2} (k0 : State.inner v0) : State.inner (State.zeroPath v0 v1 v2) := by
  unfold State.zeroPath
  extract_lets +onlyGivenNames -merge x1
  clear_value x1
  exact (State.each_inv (clo_inner.mono rfl) k0 (fun _ _ h2 => (ite_p (fun _ => (State.cacheIn_inner h2)) (fun _ => h2))))
theorem State.rekeyPage_inner {v0} {v1} (k0 : State.inner v0) : State.inner (State.rekeyPage v0 v1) := by
  unfold State.rekeyPage
  split
  ·
    rename_i y1 y2
    exact k0
  ·
    rename_i y3 y4 y5 y6
    extract_lets +onlyGivenNames -merge x7 x8
    have h9 : State.inner x8 := by unfold x8; exact (State.cacheSound_inner k0)
    clear_value x7 x8
    refine ite_p (fun _ => (State.crWakeAll_inner h9)) (fun _ => ?_)
    refine ite_p (fun _ => (State.crWakeAll_inner (State.jobAgain_inner h9))) (fun _ => ?_)
    extract_lets +onlyGivenNames -merge x10 x12
    have h11 : State.inner x10 := by unfold x10; exact (State.zeroPath_inner h9)
    clear_value x10 x12
    refine ite_p (fun _ => h11) (fun _ => ?_)
    extract_lets +onlyGivenNames -merge x13
    clear_value x13
    split
    ·
      rename_i y14 y15 y16 y17
      extract_lets +onlyGivenNames -merge x18 x21 x22 x24 x26 x28 x30
      have h19 : State.inner x18 := by unfold x18; exact (State.each_inv (clo_inner.mono rfl) h11 (fun _ _ h20 => (State.tagFail_inv (clo_inner.mono rfl) h20)))
      have h23 : State.inner x22 := by unfold x22; exact (State.writePage_inner h19)
      have h25 : State.inner x24 := by unfold x24; exact (State.jobHome_inner h23)
      have h27 : State.inner x26 := by unfold x26; exact (State.jobHome_inner h25)
      have h29 : State.inner x28 := by unfold x28; exact (State.cacheDrop_inner h27)
      have h31 : State.inner x30 := by unfold x30; exact (State.updCrr_inner h29)
      clear_value x18 x21 x22 x24 x26 x28 x30
      exact (State.updJob_inner h31)
theorem State.rangeInit_inner {v0} {v1} (k0 : State.inner v0) : State.inner (State.rangeInit v0 v1) := by
  unfold State.rangeInit
  extract_lets +onlyGivenNames -merge x1 x3
  have h2 : State.inner x1 := by unfold x1; exact (State.endJobs_inner k0)
  have h4 : State.inner x3 := by unfold x3; exact (State.updCr_inner (fun _ h => { h with }) h2)
  clear_value x1 x3
  split
  ·
    rename_i y5 y6 y7 y8
    have q10 := congr_p (Q := (SndP State.inner)) y8 (by
        exact (State.trng_inv (clo_inner.mono rfl) h4)
      )
    have h9 : State.inner y7 := q10
    split
    ·
      rename_i y11 y12 y13 y14
      have q16 := congr_p (Q := (SndP State.inner)) y14 (by
          exact (State.trng_inv (clo_inner.mono rfl) h9)
        )
      have h15 : State.inner y13 := q16
      extract_lets +onlyGivenNames -merge x17 x18 x20 x22
      have h19 : State.inner x18 := by unfold x18; exact (clo_inner.odClear rfl _ (State.updCrr_inner h15))
      have h21 : State.inner x20 := by unfold x20; exact (State.setRange_inner h19)
      have h23 : State.inner x22 := by unfold x22; exact (clo_inner.setF rfl (clo_inner.setF rfl h21))
      clear_value x17 x18 x20 x22
      split
      ·
        rename_i y24 y25 y26 y27
        have q29 := congr_p (Q := (SndP State.inner)) y27 (by
            exact (State.crNext_inner h23)
          )
        have h28 : State.inner y26 := q29
        exact (State.crWakeAll_inner (State.setJob_inner h28))
theorem State.rangeOff_inner {v0} {v1} (k0 : State.inner v0) : State.inner (State.rangeOff v0 v1) := by
  unfold State.rangeOff
  extract_lets +onlyGivenNames -merge x1 x2 x5 x7
  have h3 : State.inner x2 := by unfold x2; exact (State.each_inv (clo_inner.mono rfl) k0 (fun _ _ h4 => (State.setJob_inner h4)))
  have h6 : State.inner x5 := by unfold x5; exact (clo_inner.setF rfl (State.setRange_inner h3))
  clear_value x1 x2 x5 x7
  exact (State.crWakeAll_inner (State.respondTo_inner (State.updCrr_inner h6)))
theorem State.rangeInitialised_inner {v0} {v1} (k0 : State.inner v0) : State.inner (State.rangeInitialised v0 v1) := by
  unfold State.rangeInitialised
  split
  ·
    rename_i y1 y2
    exact k0
  ·
    rename_i y3 y4 y5 y6
    refine ite_p (fun _ => k0) (fun _ => ?_)
    extract_lets +onlyGivenNames -merge x7
    clear_value x7
    exact (State.respondTo_inner (State.setRange_inner (State.updCrr_inner (State.setJob_inner k0))))
theorem State.rangeDisabled_inner {v0} {v1} (k0 : State.inner v0) : State.inner (State.rangeDisabled v0 v1) := by
  unfold State.rangeDisabled
  refine ite_p (fun _ => k0) (fun _ => ?_)
  extract_lets +onlyGivenNames -merge x1 x3
  have h2 : State.inner x1 := by unfold x1; exact (State.writeBackAll_inner k0)
  have h4 : State.inner x3 := by unfold x3; exact (State.updCr_inner (fun _ h => { h with }) h2)
  clear_value x1 x3
  exact (clo_inner.setF rfl (State.updCrr_inner h4))
theorem execProtectedRead_inner {v0} (k0 : State.inner v0) : (OutP State.inner) (execProtectedRead v0) := by
  unfold execProtectedRead
  exact (mk_next (State.protRow_inner k0))
theorem execFullLineWrite_inner {v0} (k0 : State.inner v0) : (OutP State.inner) (execFullLineWrite v0) := by
  unfold execFullLineWrite
  exact (mk_next (State.protRow_inner k0))
theorem execPartialWrite_inner {v0} (k0 : State.inner v0) : (OutP State.inner) (execPartialWrite v0) := by
  unfold execPartialWrite
  exact (mk_next (State.protRow_inner k0))
theorem execHomeResponse_inner {v0} (k0 : State.inner v0) : (OutP State.inner) (execHomeResponse v0) := by
  unfold execHomeResponse
  exact (mk_next (State.homeResponse_inner k0))
theorem execNodeVerification_inner {v0} {v1} (k1 : State.inner v1) : (OutP State.inner) (execNodeVerification v0 v1) := by
  unfold execNodeVerification
  exact (mk_next (State.nodeVerification_inner k1))
theorem execWriteBack_inner {v0} {v1} (k1 : State.inner v1) : (OutP State.inner) (execWriteBack v0 v1) := by
  unfold execWriteBack
  exact (mk_next (ite_p (fun _ => (State.evict1_inner k1)) (fun _ => k1)))
theorem execPageReEncryption_inner {v0} {v1} (k1 : State.inner v1) : (OutP State.inner) (execPageReEncryption v0 v1) := by
  unfold execPageReEncryption
  exact (mk_next (State.pageReEncryption_inner k1))
theorem execRangeInitialisation_inner {v0} {v1} (k1 : State.inner v1) : (OutP State.inner) (execRangeInitialisation v0 v1) := by
  unfold execRangeInitialisation
  exact (mk_next (State.rangeInitialised_inner k1))
theorem execRekeyPage_inner {v0} {v1} (k1 : State.inner v1) : (OutP State.inner) (execRekeyPage v0 v1) := by
  unfold execRekeyPage
  exact (mk_next (State.rekeyPage_inner k1))
theorem execRangeDisable_inner {v0} {v1} (k1 : State.inner v1) : (OutP State.inner) (execRangeDisable v0 v1) := by
  unfold execRangeDisable
  exact (mk_next (State.rangeDisabled_inner k1))
theorem execCrStatus_inner {v0} {v1} {v2} (k2 : State.inner v2) : (OutP State.inner) (execCrStatus v0 v1 v2) := by
  unfold execCrStatus
  exact (mk_next (State.submit_inner k2 (fun _ h1 => (State.checks_inner h1 (fun _ h2 => (State.replyData_inner h2))))))
theorem execCrRangeRekey_inner {v0} {v1} {v2} (k2 : State.inner v2) : (OutP State.inner) (execCrRangeRekey v0 v1 v2) := by
  unfold execCrRangeRekey
  refine mk_next ?_
  refine State.submit_inner k2 ?_
  intro a10 h9
  refine State.checks_inner h9 ?_
  intro a14 h13
  extract_lets +onlyGivenNames -merge x15 x17
  have h16 : State.inner x15 := by unfold x15; exact (clo_inner.setF rfl (State.setRange_inner h13))
  have h18 : State.inner x17 := by unfold x17; exact (State.updCrr_inner h16)
  clear_value x15 x17
  split
  ·
    rename_i y19 y20 y21 y22
    have q24 := congr_p (Q := (SndP State.inner)) y22 (by
        exact (State.crNext_inner h18)
      )
    have h23 : State.inner y21 := q24
    exact (State.crWakeAll_inner (State.setJob_inner h23))
theorem execCrRangeReset_inner {v0} {v1} {v2} (k2 : State.inner v2) : (OutP State.inner) (execCrRangeReset v0 v1 v2) := by
  unfold execCrRangeReset
  refine mk_next ?_
  refine State.submit_inner k2 ?_
  intro a10 h9
  refine State.checks_inner h9 ?_
  intro a14 h13
  extract_lets +onlyGivenNames -merge x15
  clear_value x15
  exact (State.rangeInit_inner (State.respondTo_inner (State.updCrr_inner h13)))

/-! ### Kex -/

theorem State.updEnc_inner {v0} {v1} {v2} (k0 : State.inner v0) : State.inner (State.updEnc v0 v1 v2) := by
  unfold State.updEnc
  exact (State.updLink_inner (fun _ h => { h with }) k0)
theorem State.sendFragment_inner {v0} {v1} (k0 : State.inner v0) : State.inner (State.sendFragment v0 v1) := by
  unfold State.sendFragment
  extract_lets +onlyGivenNames -merge x1 x2 x3 x4
  clear_value x1 x2 x3 x4
  exact (State.updEnc_inner (State.request_inner k0))
theorem State.sendKex_inner {v0} {v1} {v2} {v3} (k0 : State.inner v0) : State.inner (State.sendKex v0 v1 v2 v3) := by
  unfold State.sendKex
  exact (State.sendFragment_inner (State.updEnc_inner k0))
theorem State.kexFails_inner {v0} {v1} {v2} (k0 : State.inner v0) : State.inner (State.kexFails v0 v1 v2) := by
  unfold State.kexFails
  extract_lets +onlyGivenNames -merge x1 x2 x4 x6 x8 x10
  have h3 : State.inner x2 := by unfold x2; exact (State.updEnc_inner k0)
  have h5 : State.inner x4 := by unfold x4; exact (ite_p (fun _ => (State.updEnc_inner h3)) (fun _ => h3))
  have h7 : State.inner x6 := by unfold x6; exact (clo_inner.setF rfl h5)
  have h9 : State.inner x8 := by unfold x8; exact (clo_inner.setF rfl h7)
  have h11 : State.inner x10 := by unfold x10; exact (clo_inner.setF rfl h9)
  clear_value x1 x2 x4 x6 x8 x10
  exact (State.respondTo_inner h11)
theorem State.installRx_inner {v0} {v1} {v2} (k0 : State.inner v0) : State.inner (State.installRx v0 v1 v2) := by
  unfold State.installRx
  extract_lets +onlyGivenNames -merge x1
  have h2 : State.inner x1 := by unfold x1; exact (State.updEnc_inner k0)
  clear_value x1
  exact (clo_inner.setF rfl (clo_inner.setF rfl h2))
theorem State.installTx_inner {v0} {v1} {v2} {v3} (k0 : State.inner v0) : State.inner (State.installTx v0 v1 v2 v3) := by
  unfold State.installTx
  extract_lets +onlyGivenNames -merge x1 x3 x5 x7
  have h2 : State.inner x1 := by unfold x1; exact (State.updEnc_inner k0)
  have h4 : State.inner x3 := by unfold x3; exact (clo_inner.setF rfl (clo_inner.setF rfl h2))
  have h6 : State.inner x5 := by unfold x5; exact (clo_inner.setF rfl (clo_inner.setF rfl h4))
  have h8 : State.inner x7 := by unfold x7; exact (clo_inner.setF rfl h6)
  clear_value x1 x3 x5 x7
  exact (clo_inner.setLinkF rfl rfl h8)
theorem State.kexOver_inner {v0} {v1} (k0 : State.inner v0) : State.inner (State.kexOver v0 v1) := by
  unfold State.kexOver
  exact (clo_inner.setF rfl (State.updEnc_inner k0))
theorem State.kexStart_inner {v0} {v1} {v2} (k0 : State.inner v0) : State.inner (State.kexStart v0 v1 v2) := by
  unfold State.kexStart
  extract_lets +onlyGivenNames -merge x1
  clear_value x1
  split
  ·
    rename_i y2 y3 y4 y5 y6
    have q8 := congr_p (Q := (SndP (SndP State.inner))) y6 (by
        exact (State.kexDraw_inv (clo_inner.mono rfl) k0)
      )
    have h7 : State.inner y5 := q8
    extract_lets +onlyGivenNames -merge x9 x10
    have h11 : State.inner x10 := by unfold x10; exact (State.updEnc_inner h7)
    clear_value x9 x10
    exact (State.sendKex_inner (clo_inner.setF rfl h11))
theorem State.kexMessage_inner {v0} {v1} {v2} {v3} (_ : State.inner v0) : (SndP (FunP State.inner)) (State.kexMessage v0 v1 v2 v3) := by
  unfold State.kexMessage
  extract_lets +onlyGivenNames -merge x1 x2
  clear_value x1 x2
  refine ite_p (fun _ => ?_) (fun _ => ?_)
  ·
    split
    ·
      rename_i y3 y4
      exact (mk_snd (fun _ h5 => (State.kexFails_inner h5)))
    ·
      rename_i y6 y7 y8
      refine ite_p (fun _ => (mk_snd (fun _ h11 => (State.kexFails_inner h11)))) (fun _ => ?_)
      refine mk_snd ?_
      intro a15 h14
      beta_reduce
      split
      ·
        rename_i y16 y17 y18 y19 y20
        have q22 := congr_p (Q := (SndP (SndP State.inner))) y20 (by
            exact (State.kexDraw_inv (clo_inner.mono rfl) h14)
          )
        have h21 : State.inner y19 := q22
        extract_lets +onlyGivenNames -merge x23 x24 x25
        have h26 : State.inner x25 := by unfold x25; exact (State.updEnc_inner (clo_inner.drawn rfl  h21))
        clear_value x23 x24 x25
        exact (State.sendKex_inner h26)
  ·
    refine ite_p (fun _ => ?_) (fun _ => ?_)
    ·
      split
      ·
        rename_i y27 y28
        exact (mk_snd (fun _ h29 => (State.kexFails_inner h29)))
      ·
        rename_i y30 y31 y32
        extract_lets +onlyGivenNames -merge x33
        clear_value x33
        refine ite_p (fun _ => (mk_snd (fun _ h36 => (State.kexFails_inner h36)))) (fun _ => ?_)
        refine mk_snd ?_
        intro a40 h39
        beta_reduce
        extract_lets +onlyGivenNames -merge x41 x42 x44 x46 x53
        have h43 : State.inner x42 := by unfold x42; exact (State.updEnc_inner h39)
        have h45 : State.inner x44 := by unfold x44; exact (State.installRx_inner h43)
        have h47 : State.inner x46 := by
          unfold x46
          split
          ·
            rename_i y48 y49 y50
            exact (State.committed_inner h45)
          ·
            rename_i y51 y52
            exact h45
        clear_value x41 x42 x44 x46 x53
        exact (State.sendKex_inner (clo_inner.drawn rfl  h47))
    ·
      split
      ·
        rename_i y54 y55
        exact (mk_snd (fun _ h56 => (State.kexFails_inner h56)))
      ·
        rename_i y57 y58 y59
        extract_lets +onlyGivenNames -merge x60
        clear_value x60
        refine ite_p (fun _ => (mk_snd (fun _ h63 => (State.kexFails_inner h63)))) (fun _ => ?_)
        refine mk_snd ?_
        intro a67 h66
        beta_reduce
        extract_lets +onlyGivenNames -merge x68
        have h69 : State.inner x68 := by unfold x68; exact (State.installRx_inner h66)
        clear_value x68
        exact (State.kexOver_inner (State.installTx_inner h69))
theorem State.kexFragment_inner {v0} {v1} {v2} {v3} {v4} {v5} {v6} (k0 : State.inner v0) : State.inner (State.kexFragment v0 v1 v2 v3 v4 v5 v6) := by
  unfold State.kexFragment
  split
  ·
    rename_i y1 y2
    exact (State.reply_inner k0)
  ·
    rename_i y3 y4 y5
    extract_lets +onlyGivenNames -merge x6 x7 x8 x9
    clear_value x6 x7 x8 x9
    refine ite_p (fun _ => (State.kexFails_inner (State.reply_inner k0))) (fun _ => ?_)
    refine ite_p (fun _ => (State.reply_inner k0)) (fun _ => ?_)
    extract_lets +onlyGivenNames -merge x10 x12
    have h11 : State.inner x10 := by unfold x10; exact (State.updEnc_inner k0)
    have h13 : State.inner x12 := by unfold x12; exact (clo_inner.setF rfl h11)
    clear_value x10 x12
    refine ite_p (fun _ => (State.reply_inner h13)) (fun _ => ?_)
    extract_lets +onlyGivenNames -merge x14 x15
    have h16 : State.inner x15 := by unfold x15; exact (State.updEnc_inner h13)
    clear_value x14 x15
    split
    ·
      rename_i y17 y18 y19 y20
      have q22 := congr_p (Q := (SndP (FunP State.inner))) y20 (by
          exact (State.kexMessage_inner h16)
        )
      have h21 : ∀ a0, State.inner a0 → State.inner (y19 a0) := q22
      exact (h21 _ (State.reply_inner h16))
theorem State.kexAnswer_inner {v0} {v1} {v2} (k0 : State.inner v0) : State.inner (State.kexAnswer v0 v1 v2) := by
  unfold State.kexAnswer
  extract_lets +onlyGivenNames -merge x1
  clear_value x1
  refine ite_p (fun _ => k0) (fun _ => ?_)
  refine ite_p (fun _ => (State.kexFails_inner k0)) (fun _ => ?_)
  refine ite_p (fun _ => (State.sendFragment_inner k0)) (fun _ => ?_)
  extract_lets +onlyGivenNames -merge x2
  have h3 : State.inner x2 := by unfold x2; exact (State.updEnc_inner k0)
  clear_value x2
  refine ite_p (fun _ => ?_) (fun _ => h3)
  extract_lets +onlyGivenNames -merge x4
  have h5 : State.inner x4 := by
    unfold x4
    split
    ·
      rename_i y6 y7 y8
      exact (State.installTx_inner h3)
    ·
      rename_i y9 y10
      exact h3
  clear_value x4
  exact (State.respondTo_inner (State.kexOver_inner h5))
theorem execLinkKex_inner {v0} {v1} {v2} (k2 : State.inner v2) : (OutP State.inner) (execLinkKex v0 v1 v2) := by
  unfold execLinkKex
  exact (mk_next (State.submit_inner k2 (fun _ h1 => (State.checks_inner h1 (fun _ h2 => (State.kexStart_inner (State.uncommitted_inner h2)))))))
theorem execKexMsg_inner {v0} {v1} {v2} {v3} {v4} {v5} {v6} (k6 : State.inner v6) : (OutP State.inner) (execKexMsg v0 v1 v2 v3 v4 v5 v6) := by
  unfold execKexMsg
  exact (mk_next (State.submit_inner k6 (fun _ h1 => (State.checks_inner h1 (fun _ h2 => (State.kexFragment_inner h2))))))
theorem execAutoKex_inner {v0} {v1} (k1 : State.inner v1) : (OutP State.inner) (execAutoKex v0 v1) := by
  unfold execAutoKex
  extract_lets +onlyGivenNames -merge x1 x2 x3
  clear_value x1 x2 x3
  exact (mk_next (ite_p (fun _ => (State.kexStart_inner k1)) (fun _ => k1)))
theorem execKexTimeout_inner {v0} {v1} (k1 : State.inner v1) : (OutP State.inner) (execKexTimeout v0 v1) := by
  unfold execKexTimeout
  exact (mk_next (ite_p (fun _ => k1) (fun _ => (State.kexFails_inner k1))))
theorem execKexFragmentGap_inner {v0} {v1} (k1 : State.inner v1) : (OutP State.inner) (execKexFragmentGap v0 v1) := by
  unfold execKexFragmentGap
  exact (mk_next (ite_p (fun _ => k1) (fun _ => (State.kexFails_inner k1))))

/-! ### Clock -/

theorem State.loopStops_inner {v0} (k0 : State.inner v0) : State.inner (State.loopStops v0) := by
  unfold State.loopStops
  exact (ite_p (fun _ => (State.each_inv (clo_inner.mono rfl) (State.enterSafe_inner (clo_inner.setF rfl (State.setHearth_inv (clo_inner.mono rfl) k0))) (fun _ _ h1 => (State.edgeOver_inner h1)))) (fun _ => k0))
theorem State.refLoss_inner {v0} (k0 : State.inner v0) : State.inner (State.refLoss v0) := by
  unfold State.refLoss
  refine ite_p (fun _ => k0) (fun _ => ?_)
  extract_lets +onlyGivenNames -merge x1 x3
  have h2 : State.inner x1 := by unfold x1; exact (clo_inner.setF rfl (clo_inner.setF rfl k0))
  have h4 : State.inner x3 := by unfold x3; exact (State.recordSrc_inv (clo_inner.mono rfl) (clo_inner.inc rfl h2))
  clear_value x1 x3
  refine ite_p (fun _ => h4) (fun _ => ?_)
  refine ite_p (fun _ => (State.loopStops_inner h4)) (fun _ => ?_)
  extract_lets +onlyGivenNames -merge x5 x7
  have h6 : State.inner x5 := by unfold x5; exact (clo_inner.setF rfl (State.setHearth_inv (clo_inner.mono rfl) h4))
  have h8 : State.inner x7 := by unfold x7; exact (State.each_inv (clo_inner.mono rfl) h6 (fun _ _ h9 => (State.forceTxs_inner h9)))
  clear_value x5 x7
  exact (State.each_inv (clo_inner.mono rfl) h8 (fun _ _ h10 => (State.linkDrained_inner h10)))
theorem State.judge_inner {v0} {v1} (k0 : State.inner v0) : State.inner (State.judge v0 v1) := by
  unfold State.judge
  refine ite_p (fun _ => k0) (fun _ => ?_)
  extract_lets +onlyGivenNames -merge x1
  have h2 : State.inner x1 := by unfold x1; exact (clo_inner.setF rfl k0)
  clear_value x1
  refine ite_p (fun _ => ?_) (fun _ => (State.refLoss_inner (clo_inner.setF rfl h2)))
  extract_lets +onlyGivenNames -merge x3 x4
  have h5 : State.inner x4 := by unfold x4; exact (clo_inner.setF rfl h2)
  clear_value x3 x4
  exact (ite_p (fun _ => (State.recordSrc_inv (clo_inner.mono rfl) (clo_inner.setF rfl h5))) (fun _ => h5))
theorem State.loopLocks_inner {v0} (k0 : State.inner v0) : State.inner (State.loopLocks v0) := by
  unfold State.loopLocks
  extract_lets +onlyGivenNames -merge x1 x2
  have h3 : State.inner x2 := by unfold x2; exact (clo_inner.setF rfl (State.setHearth_inv (clo_inner.mono rfl) k0))
  clear_value x1 x2
  refine ite_p (fun _ => ?_) (fun _ => (State.sidesStart_inner h3))
  extract_lets +onlyGivenNames -merge x4
  have h5 : State.inner x4 := by unfold x4; exact (State.each_inv (clo_inner.mono rfl) h3 (fun _ _ h6 => (ite_p (fun _ => h6) (fun _ => (State.unforceTxs_inner h6)))))
  clear_value x4
  exact (State.each_inv (clo_inner.mono rfl) h5 (fun _ _ h7 => (State.l1Wake_inner h7)))
theorem execRefclkLost_inner {v0} (k0 : State.inner v0) : (OutP State.inner) (execRefclkLost v0) := by
  unfold execRefclkLost
  exact (mk_next (State.refLoss_inner k0))
theorem execHearthLoopStop_inner {v0} (k0 : State.inner v0) : (OutP State.inner) (execHearthLoopStop v0) := by
  unfold execHearthLoopStop
  exact (mk_next (State.loopStops_inner k0))
theorem execLockFail_inner {v0} (k0 : State.inner v0) : (OutP State.inner) (execLockFail v0) := by
  unfold execLockFail
  exact (mk_next (ite_p (fun _ => (State.updBoot_inner (State.setHearth_inv (clo_inner.mono rfl) k0))) (fun _ => k0)))
theorem State.setGating_inner {v0} {v1} {v2} {v3} (k0 : State.inner v0) : State.inner (State.setGating v0 v1 v2 v3) := by
  unfold State.setGating
  exact (State.updClk_inner (fun _ h => { h with gating := mwf_mput _ _ h.gating }) k0)
theorem State.gateStart_inner {v0} {v1} {v2} (k0 : State.inner v0) : State.inner (State.gateStart v0 v1 v2) := by
  unfold State.gateStart
  refine ite_p (fun _ => k0) (fun _ => ?_)
  refine ite_p (fun _ => (State.setGating_inner k0)) (fun _ => ?_)
  extract_lets +onlyGivenNames -merge x1
  have h2 : State.inner x1 := by unfold x1; exact (State.setGating_inner k0)
  clear_value x1
  exact (ite_p (fun _ => (State.abandonLoad_inner h2)) (fun _ => h2))
theorem State.gateAsk_inner {v0} {v1} {v2} {v3} (k0 : State.inner v0) : (SndP State.inner) (State.gateAsk v0 v1 v2 v3) := by
  unfold State.gateAsk
  exact (ite_p (fun _ => (mk_snd k0)) (fun _ => (ite_p (fun _ => (mk_snd k0)) (fun _ => (ite_p (fun _ => (mk_snd (clo_inner.setF rfl k0))) (fun _ => (mk_snd (State.gateStart_inner (State.setGateReq_inv (clo_inner.mono rfl) k0)))))))))
theorem State.gateReached_inner {v0} {v1} {v2} {v3} (k0 : State.inner v0) : State.inner (State.gateReached v0 v1 v2 v3) := by
  unfold State.gateReached
  extract_lets +onlyGivenNames -merge x1 x2 x3 x4 x5 x6
  have h7 : State.inner x6 := by unfold x6; exact (State.updClk_inner (fun _ h => { h with }) k0)
  clear_value x1 x2 x3 x5 x6
  exact (State.each_inv (clo_inner.mono rfl) h7 (fun _ _ h8 => (ite_p (fun _ => (State.respond_inner h8)) (fun _ => (ite_p (fun _ => (State.respond_inner h8)) (fun _ => h8))))))
theorem State.gateOpened_inner {v0} {v1} {v2} (k0 : State.inner v0) : State.inner (State.gateOpened v0 v1 v2) := by
  unfold State.gateOpened
  refine ite_p (fun _ => k0) (fun _ => ?_)
  extract_lets +onlyGivenNames -merge x1 x3 x5
  have h2 : State.inner x1 := by unfold x1; exact (State.setGateStat_inv (clo_inner.mono rfl) (State.setGating_inner k0))
  have h4 : State.inner x3 := by unfold x3; exact (clo_inner.setF rfl (clo_inner.setF rfl h2))
  have h6 : State.inner x5 := by unfold x5; exact (ite_p (fun _ => (ite_p (fun _ => (State.setDivisor_inv (clo_inner.mono rfl) (State.each_inv (clo_inner.mono rfl) h4 (fun _ _ h7 => (State.emptyPlane_inv (clo_inner.mono rfl) h7))))) (fun _ => h2))) (fun _ => (ite_p (fun _ => (State.each_inv (clo_inner.mono rfl) h2 (fun _ _ h8 => (ite_p (fun _ => (State.engIdle_inner h8)) (fun _ => h8))))) (fun _ => (ite_p (fun _ => (State.bringUp_inner h2)) (fun _ => (ite_p (fun _ => (State.bringUp_inner h2)) (fun _ => h2))))))))
  clear_value x1 x3 x5
  exact (State.gateStart_inner (State.gateReached_inner h6))
theorem State.forgetOut_inner {v0} {v1} (k0 : State.inner v0) : State.inner (State.forgetOut v0 v1) := by
  unfold State.forgetOut
  exact (State.updNet_inner (fun _ h => { h with outReq := mwf_mclear _ _ h.outReq }) k0)
theorem State.gateRoom_inner {v0} {v1} (k0 : State.inner v0) : State.inner (State.gateRoom v0 v1) := by
  unfold State.gateRoom
  extract_lets +onlyGivenNames -merge x1 x3 x4 x7 x10 x12 x13 x15 x17 x19 x22 x24 x26 x28
  have h2 : State.inner x1 := by unfold x1; exact (State.abandonLoad_inner k0)
  have h5 : State.inner x4 := by unfold x4; exact (State.each_inv (clo_inner.mono rfl) h2 (fun _ _ h6 => (clo_inner.inc rfl (State.refuse_inner h6))))
  have h8 : State.inner x7 := by unfold x7; exact (State.each_inv (clo_inner.mono rfl) h5 (fun _ _ h9 => (State.returnTask_inner h9)))
  have h11 : State.inner x10 := by unfold x10; exact (ite_p (fun _ => (State.dropHeld_inner h8)) (fun _ => h8))
  have h14 : State.inner x13 := by unfold x13; exact (State.trackOff_inner h11)
  have h16 : State.inner x15 := by unfold x15; exact (State.forgetOut_inner h14)
  have h18 : State.inner x17 := by unfold x17; exact (State.updRoom_inner (fun _ _ => Room.inner.default) h16)
  have h20 : State.inner x19 := by unfold x19; exact (State.each_inv (clo_inner.mono rfl) h18 (fun _ _ h21 => (State.emptyPlane_inv (clo_inner.mono rfl) h21)))
  have h23 : State.inner x22 := by unfold x22; exact (clo_inner.setF rfl (clo_inner.setF rfl h20))
  have h25 : State.inner x24 := by unfold x24; exact (clo_inner.setF rfl h23)
  have h27 : State.inner x26 := by unfold x26; exact (ite_p (fun _ => h25) (fun _ => (clo_inner.setF rfl h25)))
  have h29 : State.inner x28 := by unfold x28; exact (State.scramble_inv (clo_inner.mono rfl) (State.setDivisor_inv (clo_inner.mono rfl) h27))
  clear_value x1 x3 x4 x7 x10 x12 x13 x15 x17 x19 x22 x24 x26 x28
  exact (State.each_inv (clo_inner.mono rfl) h29 (fun _ _ h30 => (State.respond_inner h30)))
theorem State.gateEngine_inner {v0} {v1} (k0 : State.inner v0) : State.inner (State.gateEngine v0 v1) := by
  unfold State.gateEngine
  refine ite_p (fun _ => (clo_inner.setF rfl k0)) (fun _ => ?_)
  extract_lets +onlyGivenNames -merge x1
  have h2 : State.inner x1 := by unfold x1; exact (State.forgetOut_inner (State.resetEngine_inner k0))
  clear_value x1
  exact (clo_inner.setF rfl (State.updEng_inner (fun _ _ => { Eng.inner.default with }) h2))
theorem State.gateDrained_inner {v0} {v1} {v2} (k0 : State.inner v0) : State.inner (State.gateDrained v0 v1 v2) := by
  unfold State.gateDrained
  refine ite_p (fun _ => k0) (fun _ => ?_)
  extract_lets +onlyGivenNames -merge x1 x2 x6
  have h3 : State.inner x2 := by unfold x2; exact (ite_p (fun _ => (State.gateRoom_inner k0)) (fun _ => (ite_p (fun _ => (State.each_inv (clo_inner.mono rfl) k0 (fun _ _ h4 => (State.gateEngine_inner h4)))) (fun _ => (ite_p (fun _ => (State.forgetOut_inner (State.each_inv (clo_inner.mono rfl) k0 (fun _ _ h5 => (State.shutDrain_inner h5))))) (fun _ => k0))))))
  have h7 : State.inner x6 := by unfold x6; exact (State.setGateStat_inv (clo_inner.mono rfl) (State.setGating_inner h3))
  clear_value x1 x2 x6
  exact (State.gateStart_inner (State.gateReached_inner h7))
theorem execGateOpen_inner {v0} {v1} {v2} (k2 : State.inner v2) : (OutP State.inner) (execGateOpen v0 v1 v2) := by
  unfold execGateOpen
  exact (mk_next (snd_p (State.gateAsk_inner k2)))
theorem execGateClose_inner {v0} {v1} {v2} (k2 : State.inner v2) : (OutP State.inner) (execGateClose v0 v1 v2) := by
  unfold execGateClose
  exact (mk_next (snd_p (State.gateAsk_inner k2)))
theorem execGateOpenComplete_inner {v0} {v1} {v2} (k2 : State.inner v2) : (OutP State.inner) (execGateOpenComplete v0 v1 v2) := by
  unfold execGateOpenComplete
  exact (mk_next (State.gateOpened_inner k2))
theorem execGateDrainEnd_inner {v0} {v1} {v2} (k2 : State.inner v2) : (OutP State.inner) (execGateDrainEnd v0 v1 v2) := by
  unfold execGateDrainEnd
  exact (mk_next (State.gateDrained_inner k2))
theorem execClockStatus_inner {v0} {v1} (k1 : State.inner v1) : (OutP State.inner) (execClockStatus v0 v1) := by
  unfold execClockStatus
  exact (mk_next (State.submit_inner k1 (fun _ h1 => (State.replyData_inner h1))))
theorem execUnitGate_inner {v0} {v1} {v2} {v3} {v4} (k4 : State.inner v4) : (OutP State.inner) (execUnitGate v0 v1 v2 v3 v4) := by
  unfold execUnitGate
  refine mk_next ?_
  refine State.submit_inner k4 ?_
  intro a10 h9
  refine State.checks_inner h9 ?_
  intro a14 h13
  split
  ·
    rename_i y15 y16 y17 y18
    have q20 := congr_p (Q := (SndP State.inner)) y18 (by
        exact (State.gateAsk_inner h13)
      )
    have h19 : State.inner y17 := q20
    exact (ite_p (fun _ => (State.reply_inner h19)) (fun _ => (ite_p (fun _ => (State.reply_inner h19)) (fun _ => (State.updClk_inner (fun _ h => { h with }) h19)))))

/-! ### Commit -/

theorem State.runAudit_inner {v0} {v1} (k0 : State.inner v0) : (SndP State.inner) (State.runAudit v0 v1) := by
  unfold State.runAudit
  extract_lets +onlyGivenNames -merge x1
  have h2 : State.inner x1 := by unfold x1; exact (State.noteAudit_inv (clo_inner.mono rfl) k0)
  clear_value x1
  split
  ·
    rename_i y3 y4
    exact (mk_snd h2)
  ·
    rename_i y5 y6 y7 y8 y9
    exact (mk_snd (State.booksFault_inner h2))
theorem State.commitBegin_inner {v0} {v1} {v2} (k0 : State.inner v0) : State.inner (State.commitBegin v0 v1 v2) := by
  unfold State.commitBegin
  extract_lets +onlyGivenNames -merge x1 x3 x5
  have h2 : State.inner x1 := by unfold x1; exact (inner_snapshot (fun h => h.staged) k0)
  have h4 : State.inner x3 := by unfold x3; exact (inner_staged (fun _ => rfl) h2)
  have h6 : State.inner x5 := by unfold x5; exact (inner_commit h4)
  clear_value x1 x3 x5
  exact (clo_inner.setF rfl h6)
theorem State.pipesEmptied_inner {v0} (k0 : State.inner v0) : State.inner (State.pipesEmptied v0) := by
  unfold State.pipesEmptied
  extract_lets +onlyGivenNames -merge x1 x4
  have h2 : State.inner x1 := by unfold x1; exact (State.each_inv (clo_inner.mono rfl) k0 (fun _ _ h3 => (State.dispatchPipe_inner h3)))
  clear_value x1 x4
  exact (clo_inner.setF rfl (State.updSched_inner (fun _ h => { h with }) h2))
theorem State.commitFreeze_inner {v0} (k0 : State.inner v0) : State.inner (State.commitFreeze v0) := by
  unfold State.commitFreeze
  split
  ·
    rename_i y1 y2
    exact k0
  ·
    rename_i y3 y4 y5
    refine ite_p (fun _ => k0) (fun _ => ?_)
    refine ite_p (fun _ => (State.failCommit_inner k0)) (fun _ => ?_)
    extract_lets +onlyGivenNames -merge x6
    have h7 : State.inner x6 := by unfold x6; exact (clo_inner.setF rfl (State.pipesEmptied_inner k0))
    clear_value x6
    exact (inner_commit h7)
theorem State.commitApply_inner {v0} (k0 : State.inner v0) : State.inner (State.commitApply v0) := by
  unfold State.commitApply
  split
  ·
    rename_i y1 y2
    exact k0
  ·
    rename_i y3 y4 y5
    refine ite_p (fun _ => k0) (fun _ => ?_)
    extract_lets +onlyGivenNames -merge x6
    have h7 : State.inner x6 := by unfold x6; exact (State.noteAudit_inv (clo_inner.mono rfl) k0)
    clear_value x6
    split
    ·
      rename_i y8 y9 y10 y11 y12
      exact (State.failCommit_inner (State.booksFault_inner h7))
    ·
      rename_i y13 y14
      exact (inner_commit h7)
theorem State.linkSet_inner {v0} {v1} {v2} (_ : State.inner v0) (k1 : State.inner v1) : State.inner (State.linkSet v0 v1 v2) := by
  unfold State.linkSet
  extract_lets +onlyGivenNames -merge x1 x2 x3 x4
  clear_value x1 x2 x3 x4
  exact (ite_p (fun _ => (State.bringUp_inner k1)) (fun _ => (ite_p (fun _ => (State.linkOff_inner k1)) (fun _ => (ite_p (fun _ => (State.linkChanged_inner k1)) (fun _ => k1))))))
theorem State.rangeSet_inner {v0} {v1} {v2} (_ : State.inner v0) (k1 : State.inner v1) : State.inner (State.rangeSet v0 v1 v2) := by
  unfold State.rangeSet
  extract_lets +onlyGivenNames -merge x1 x2
  clear_value x1 x2
  exact (ite_p (fun _ => (State.rangeInit_inner k1)) (fun _ => (ite_p (fun _ => (State.rangeOff_inner k1)) (fun _ => (ite_p (fun _ => (State.updCrr_inner k1)) (fun _ => k1))))))
theorem State.rangesBack_inner {v0} {v1} (k0 : State.inner v0) (_ : State.inner v1) : State.inner (State.rangesBack v0 v1) := by
  unfold State.rangesBack
  exact (State.each_inv (clo_inner.mono rfl) k0 (fun _ _ h1 => (ite_p (fun _ => (State.writeBackAll_inner h1)) (fun _ => h1))))
theorem State.schedSet_inner {v0} {v1} (_ : State.inner v0) (k1 : State.inner v1) : State.inner (State.schedSet v0 v1) := by
  unfold State.schedSet
  extract_lets +onlyGivenNames -merge x1 x2 x3 x4
  have h5 : State.inner x4 := by unfold x4; exact (ite_p (fun _ => (ite_p (fun _ => (State.meadowStore_inner (State.meadowInit_inner k1))) (fun _ => (State.meadowInit_inner k1)))) (fun _ => k1))
  clear_value x1 x2 x3 x4
  exact (clo_inner.setF rfl (clo_inner.setF rfl h5))
theorem State.mowSet_inner {v0} {v1} (_ : State.inner v0) (k1 : State.inner v1) : State.inner (State.mowSet v0 v1) := by
  unfold State.mowSet
  exact (ite_p (fun _ => (ite_p (fun _ => (State.mowStart_inner k1)) (fun _ => k1))) (fun _ => (ite_p (fun _ => (State.mowRefresh_inv (clo_inner.mono rfl) (State.setPeriod_inv (clo_inner.mono rfl) (State.updMow_inner (fun _ h => { h with }) k1)))) (fun _ => (State.mowRefresh_inv (clo_inner.mono rfl) k1)))))
theorem State.writeImage_inner {v0} (k0 : State.inner v0) : State.inner (State.writeImage v0) := by
  unfold State.writeImage
  exact (State.updBoot_inner k0)
theorem State.commitPoint_inner {v0} (k0 : State.inner v0) : State.inner (State.commitPoint v0) := by
  unfold State.commitPoint
  split
  ·
    rename_i y1 y2
    exact k0
  ·
    rename_i y3 y4 y5
    refine ite_p (fun _ => k0) (fun _ => ?_)
    extract_lets +onlyGivenNames -merge x6 x8 x10 x12 x14 x16 x18 x20 x22 x25 x28 x30
    have h7 : State.inner x6 := by unfold x6; exact (State.rangesBack_inner k0 (State.takeSet_inv (clo_inner.mono rfl) k0))
    have h9 : State.inner x8 := by unfold x8; exact h7
    have h11 : State.inner x10 := by unfold x10; exact (State.takeSet_inv (clo_inner.mono rfl) h7)
    have h13 : State.inner x12 := by unfold x12; exact (inner_snapshot (fun _ => rfl) h11)
    have h15 : State.inner x14 := by unfold x14; exact (inner_commit h13)
    have h17 : State.inner x16 := by unfold x16; exact (inner_epoch h15)
    have h19 : State.inner x18 := by unfold x18; exact (clo_inner.setF rfl h17)
    have h21 : State.inner x20 := by unfold x20; exact (State.updSched_inner (fun _ h => { h with }) (clo_inner.setF rfl (clo_inner.setF rfl h19)))
    have h23 : State.inner x22 := by unfold x22; exact (State.each_inv (clo_inner.mono rfl) h21 (fun _ _ h24 => (State.linkSet_inner h9 h24)))
    have h26 : State.inner x25 := by unfold x25; exact (State.each_inv (clo_inner.mono rfl) h23 (fun _ _ h27 => (State.rangeSet_inner h9 h27)))
    have h29 : State.inner x28 := by unfold x28; exact (State.mowSet_inner h9 (State.schedSet_inner h9 h26))
    have h31 : State.inner x30 := by unfold x30; exact (State.writeImage_inner h29)
    clear_value x6 x8 x10 x12 x14 x16 x18 x20 x22 x25 x28 x30
    split
    ·
      rename_i y32 y33 y34
      exact (ite_p (fun _ => (State.committed_inner h31)) (fun _ => h31))
    ·
      rename_i y35 y36
      exact h31
theorem execCommitApply_inner {v0} (k0 : State.inner v0) : (OutP State.inner) (execCommitApply v0) := by
  unfold execCommitApply
  exact (mk_next (State.commitApply_inner k0))
theorem execAudit_inner {v0} (k0 : State.inner v0) : (OutP State.inner) (execAudit v0) := by
  unfold execAudit
  exact (mk_next (ite_p (fun _ => k0) (fun _ => (snd_p (State.runAudit_inner k0)))))
theorem execEpochCommit_inner {v0} {v1} (k1 : State.inner v1) : (OutP State.inner) (execEpochCommit v0 v1) := by
  unfold execEpochCommit
  exact (mk_next (State.submit_inner k1 (fun _ h1 => (State.checks_inner h1 (fun _ h2 => (State.commitBegin_inner (State.uncommitted_inner h2)))))))
theorem execEpochDiscard_inner {v0} {v1} (k1 : State.inner v1) : (OutP State.inner) (execEpochDiscard v0 v1) := by
  unfold execEpochDiscard
  exact (mk_next (State.submit_inner k1 (fun _ h1 => (State.replyData_inner (inner_staged (fun _ => rfl) h1)))))
theorem execBooksAudit_inner {v0} {v1} (k1 : State.inner v1) : (OutP State.inner) (execBooksAudit v0 v1) := by
  unfold execBooksAudit
  refine mk_next ?_
  refine State.submit_inner k1 ?_
  intro a6 h5
  split
  ·
    rename_i y7 y8 y9 y10
    have q12 := congr_p (Q := (SndP State.inner)) y10 (by
        exact (State.runAudit_inner h5)
      )
    have h11 : State.inner y9 := q12
    exact (State.reply_inner h11)

/-! ### LinkMail -/

theorem State.sendAssign_inner {v0} {v1} {v2} {v3} (k0 : State.inner v0) : State.inner (State.sendAssign v0 v1 v2 v3) := by
  unfold State.sendAssign
  extract_lets +onlyGivenNames -merge x1
  clear_value x1
  exact (ite_p (fun _ => (State.pumpLmb_inner (State.updLink_inner (fun _ h => { h with }) k0))) (fun _ => (State.updMail_inner (fun _ => Mail.sendBlock_inner) k0)))
theorem State.enumFinish_inner {v0} {v1} (k0 : State.inner v0) : State.inner (State.enumFinish v0 v1) := by
  unfold State.enumFinish
  extract_lets +onlyGivenNames -merge x1 x4
  have h2 : State.inner x1 := by unfold x1; exact (State.each_inv (clo_inner.mono rfl) k0 (fun _ _ h3 => (State.stage_inner h3)))
  clear_value x1 x4
  exact (ite_p (fun _ => (State.respond_inner (inner_enumer h2))) (fun _ => (State.commitBegin_inner h2)))
theorem State.enumNext_inner {v0} {v1} {v2} (k1 : State.inner v1) : State.inner (State.enumNext v0 v1 v2) := by
  induction v0 generalizing v1 k1 v2 with
  | zero =>
    rw [State.enumNext]
    exact (State.enumFinish_inner (inner_enumer k1))
  | succ n ih =>
    rw [State.enumNext]
    exact (ite_p (fun _ => (by apply ih; exact k1)) (fun _ => (State.sendAssign_inner (inner_enumer k1))))
theorem State.enumStart_inner {v0} {v1} {v2} {v3} {v4} (k0 : State.inner v0) : State.inner (State.enumStart v0 v1 v2 v3 v4) := by
  unfold State.enumStart
  extract_lets +onlyGivenNames -merge x1
  have h2 : State.inner x1 := by unfold x1; exact (clo_inner.setF rfl (clo_inner.setF rfl k0))
  clear_value x1
  exact (State.enumNext_inner h2)
theorem State.enumAnswer_inner {v0} {v1} {v2} {v3} (k0 : State.inner v0) : State.inner (State.enumAnswer v0 v1 v2 v3) := by
  unfold State.enumAnswer
  split
  ·
    rename_i y1 y2
    exact k0
  ·
    rename_i y3 y4 y5
    refine ite_p (fun _ => k0) (fun _ => ?_)
    extract_lets +onlyGivenNames -merge x6 x8 x9
    have h7 : State.inner x6 := by unfold x6; exact (State.updLink_inner (fun _ h => { h with }) k0)
    clear_value x6 x9
    exact (State.enumNext_inner h7)
theorem State.enumDeadline_inner {v0} (k0 : State.inner v0) : State.inner (State.enumDeadline v0) := by
  unfold State.enumDeadline
  split
  ·
    rename_i y1 y2
    exact k0
  ·
    rename_i y3 y4 y5
    exact (State.enumAnswer_inner (inner_enumer k0))
theorem execEnumerate_inner {v0} {v1} {v2} {v3} (k3 : State.inner v3) : (OutP State.inner) (execEnumerate v0 v1 v2 v3) := by
  unfold execEnumerate
  exact (mk_next (State.submit_inner k3 (fun _ h1 => (State.checks_inner h1 (fun _ h2 => (State.enumStart_inner h2))))))
theorem State.enumAssign_inner {v0} {v1} {v2} {v3} (k0 : State.inner v0) : State.inner (State.enumAssign v0 v1 v2 v3) := by
  unfold State.enumAssign
  exact (State.submit_inner k0 (fun _ h1 => (State.checks_inner h1 (fun _ h2 => (State.enumStart_inner h2)))))
theorem execEnumAssign_inner {v0} {v1} {v2} {v3} (k3 : State.inner v3) : (OutP State.inner) (execEnumAssign v0 v1 v2 v3) := by
  unfold execEnumAssign
  exact (mk_next (State.enumAssign_inner k3))
theorem execEnumAssignResponse_inner {v0} {v1} {v2} {v3} (k3 : State.inner v3) : (OutP State.inner) (execEnumAssignResponse v0 v1 v2 v3) := by
  unfold execEnumAssignResponse
  exact (mk_next (State.enumAnswer_inner k3))
theorem State.lmbBlock_inner {v0} {v1} {v2} (k0 : State.inner v0) : State.inner (State.lmbBlock v0 v1 v2) := by
  unfold State.lmbBlock
  extract_lets +onlyGivenNames -merge x1 x2
  clear_value x1 x2
  refine ite_p (fun _ => (State.pumpLmb_inner (State.enumAssign_inner k0))) (fun _ => ?_)
  refine ite_p (fun _ => ?_) (fun _ => (State.pumpLmb_inner (State.updLink_inner (fun _ h => { h with }) k0)))
  extract_lets +onlyGivenNames -merge x3
  have h4 : State.inner x3 := by unfold x3; exact (State.updLink_inner (fun _ h => { h with }) k0)
  clear_value x3
  exact (State.enumAnswer_inner h4)
theorem State.lmbRecv_inner {v0} {v1} {v2} (k0 : State.inner v0) : State.inner (State.lmbRecv v0 v1 v2) := by
  unfold State.lmbRecv
  extract_lets +onlyGivenNames -merge x1
  clear_value x1
  refine ite_p (fun _ => k0) (fun _ => ?_)
  split
  ·
    rename_i y2 y3 y4
    have q6 := congr_p (Q := (SndP State.inner)) y4 (by
        exact (State.judgeSeq_inner k0)
      )
    have h5 : State.inner y3 := q6
    exact h5
  ·
    rename_i y7 y8 y9 y10
    have q12 := congr_p (Q := (SndP State.inner)) y10 (by
        exact (State.judgeSeq_inner k0)
      )
    have h11 : State.inner y9 := q12
    exact (State.lmbBlock_inner (State.countIn_inner h11))
theorem State.frameFlit_inner {v0} {v1} {v2} (k0 : State.inner v0) : State.inner (State.frameFlit v0 v1 v2) := by
  unfold State.frameFlit
  extract_lets +onlyGivenNames -merge x1
  clear_value x1
  split
  ·
    rename_i y2 y3
    exact (State.dataRecv_inner k0)
  ·
    rename_i y4 y5
    exact (State.nullRecv_inner k0)
  ·
    rename_i y6 y7
    exact (State.initRecv_inner k0)
  ·
    rename_i y8 y9
    exact (State.resyncRecv_inner k0)
  ·
    rename_i y10 y11
    exact (State.nakRecv_inner k0)
  ·
    rename_i y12 y13
    exact (State.pmRecv_inner k0)
  ·
    rename_i y14 y15
    exact (State.lmbRecv_inner k0)
  ·
    rename_i y16 y17
    exact (State.teqRecv_inner k0)
  ·
    rename_i y18 y19 y20 y21 y22 y23 y24 y25 y26
    exact k0
theorem State.pmFrameEnd_inner {v0} {v1} {v2} {v3} (k0 : State.inner v0) : State.inner (State.pmFrameEnd v0 v1 v2 v3) := by
  unfold State.pmFrameEnd
  split
  ·
    rename_i y1 y2
    exact (ite_p (fun _ => k0) (fun _ => (ite_p (fun _ => (State.enterRx_inner k0)) (fun _ => (State.updLink_inner (fun _ h => { h with }) k0)))))
  ·
    rename_i y3
    exact k0
theorem State.frame_inner {v0} {v1} {v2} (k0 : State.inner v0) : State.inner (State.frame v0 v1 v2) := by
  unfold State.frame
  refine ite_p (fun _ => k0) (fun _ => ?_)
  refine ite_p (fun _ => (State.offExit_inner k0)) (fun _ => ?_)
  extract_lets +onlyGivenNames -merge x1 x2 x3 x4
  have h5 : State.inner x4 := by unfold x4; exact (State.frameSeen_inner (State.resumeRx_inner (State.sendFrame_inner k0)))
  clear_value x1 x2 x3 x4
  refine ite_p (fun _ => h5) (fun _ => ?_)
  refine ite_p (fun _ => (State.rawTake_inner h5)) (fun _ => ?_)
  extract_lets +onlyGivenNames -merge x6
  have h7 : State.inner x6 := by unfold x6; exact (State.each_inv (clo_inner.mono rfl) h5 (fun _ _ h8 => (State.frameFlit_inner h8)))
  clear_value x6
  exact (State.pmFrameEnd_inner h7)
theorem execLmb_inner {v0} {v1} {v2} (k2 : State.inner v2) : (OutP State.inner) (execLmb v0 v1 v2) := by
  unfold execLmb
  exact (mk_next (ite_p (fun _ => (State.lmbRecv_inner k2)) (fun _ => k2)))
theorem execFrame_inner {v0} {v1} {v2} (k2 : State.inner v2) : (OutP State.inner) (execFrame v0 v1 v2) := by
  unfold execFrame
  exact (mk_next (State.frame_inner k2))

/-! ### Power -/

theorem State.parkShed_inner {v0} {v1} (k0 : State.inner v0) : State.inner (State.parkShed v0 v1) := by
  unfold State.parkShed
  exact (ite_p (fun _ => k0) (fun _ => (State.updRoom_inner (fun _ h => { h with }) (clo_inner.setF rfl k0))))
theorem State.unparkShed_inner {v0} {v1} {v2} (k0 : State.inner v0) : State.inner (State.unparkShed v0 v1 v2) := by
  unfold State.unparkShed
  exact (ite_p (fun _ => k0) (fun _ => (State.updRoom_inner (fun _ h => { h with }) (clo_inner.setF rfl k0))))
theorem State.sayPm_inner {v0} {v1} (k0 : State.inner v0) : State.inner (State.sayPm v0 v1) := by
  unfold State.sayPm
  exact (ite_p (fun _ => (State.sendPm_inner k0)) (fun _ => k0))
theorem State.shedEnter_inner {v0} {v1} (k0 : State.inner v0) : State.inner (State.shedEnter v0 v1) := by
  unfold State.shedEnter
  split
  ·
    rename_i y1
    extract_lets +onlyGivenNames -merge x2 x4
    have h3 : State.inner x2 := by unfold x2; exact (State.mowRefresh_inv (clo_inner.mono rfl) (clo_inner.setF rfl k0))
    have h5 : State.inner x4 := by unfold x4; exact (State.each_inv (clo_inner.mono rfl) h3 (fun _ _ h6 => (State.abandonMarch_inner h6)))
    clear_value x2 x4
    exact (ite_p (fun _ => (State.updRp_inv (clo_inner.mono rfl) h5)) (fun _ => h5))
  ·
    rename_i y7
    extract_lets +onlyGivenNames -merge x8
    have h9 : State.inner x8 := by unfold x8; exact (clo_inner.setF rfl k0)
    clear_value x8
    exact (State.each_inv (clo_inner.mono rfl) h9 (fun _ _ h10 => (ite_p (fun _ => (clo_inner.setF rfl h10)) (fun _ => h10))))
  ·
    rename_i y11
    exact (State.each_inv (clo_inner.mono rfl) k0 (fun _ _ h12 => (State.parkShed_inner h12)))
  ·
    rename_i y13
    refine State.each_inv (clo_inner.mono rfl) k0 ?_
    intro a17 a18 h16
    extract_lets +onlyGivenNames -merge x19
    have h20 : State.inner x19 := by unfold x19; exact (State.forceTxs_inner h16)
    clear_value x19
    exact (State.sayPm_inner h20)
  ·
    rename_i y21
    extract_lets +onlyGivenNames -merge x22
    have h23 : State.inner x22 := by unfold x22; exact (State.each_inv (clo_inner.mono rfl) k0 (fun _ _ h24 => (State.shedPort_inner h24)))
    clear_value x22
    exact (State.each_inv (clo_inner.mono rfl) h23 (fun _ _ h25 => (ite_p (fun _ => (State.retainQueue_inner (State.retain_inner (ite_p (fun _ => (State.cutSlice_inner h25)) (fun _ => h25))))) (fun _ => h25))))
  ·
    rename_i y26
    exact (State.enterSafe_inner k0)
  ·
    rename_i y27 y28 y29 y30 y31 y32 y33
    exact k0
theorem State.shedLeave_inner {v0} {v1} (k0 : State.inner v0) : State.inner (State.shedLeave v0 v1) := by
  unfold State.shedLeave
  extract_lets +onlyGivenNames -merge x1
  clear_value x1
  split
  ·
    rename_i y2
    extract_lets +onlyGivenNames -merge x3
    have h4 : State.inner x3 := by unfold x3; exact (State.mowRefresh_inv (clo_inner.mono rfl) (clo_inner.setF rfl k0))
    clear_value x3
    refine ite_p (fun _ => ?_) (fun _ => h4)
    extract_lets +onlyGivenNames -merge x5
    have h6 : State.inner x5 := by unfold x5; exact (State.updRp_inv (clo_inner.mono rfl) h4)
    clear_value x5
    exact (ite_p (fun _ => (State.pushGap_inv (clo_inner.mono rfl) (State.stampNow_inv (clo_inner.mono rfl) h6))) (fun _ => h6))
  ·
    rename_i y7
    extract_lets +onlyGivenNames -merge x8
    have h9 : State.inner x8 := by unfold x8; exact (clo_inner.setF rfl k0)
    clear_value x8
    exact (ite_p (fun _ => (State.each_inv (clo_inner.mono rfl) h9 (fun _ _ h10 => (ite_p (fun _ => (State.engIdle_inner h10)) (fun _ => h10))))) (fun _ => h9))
  ·
    rename_i y11
    exact (State.each_inv (clo_inner.mono rfl) k0 (fun _ _ h12 => (State.unparkShed_inner h12)))
  ·
    rename_i y13
    exact (ite_p (fun _ => (State.each_inv (clo_inner.mono rfl) k0 (fun _ _ h14 => (State.sayPm_inner (ite_p (fun _ => h14) (fun _ => (State.unforceTxs_inner h14))))))) (fun _ => k0))
  ·
    rename_i y15
    extract_lets +onlyGivenNames -merge x16
    have h17 : State.inner x16 := by unfold x16; exact (State.each_inv (clo_inner.mono rfl) k0 (fun _ _ h18 => (State.updLink_inner (fun _ h => { h with }) h18)))
    clear_value x16
    refine ite_p (fun _ => ?_) (fun _ => h17)
    extract_lets +onlyGivenNames -merge x19
    have h20 : State.inner x19 := by unfold x19; exact (State.each_inv (clo_inner.mono rfl) h17 (fun _ _ h21 => (State.leaveL1_inner h21)))
    clear_value x19
    exact (ite_p (fun _ => h20) (fun _ => (State.each_inv (clo_inner.mono rfl) h20 (fun _ _ h22 => (ite_p (fun _ => (State.askWake_inner h22)) (fun _ => h22))))))
  ·
    rename_i y23 y24 y25 y26 y27 y28
    exact k0
theorem State.reShed_inner {v0} (k0 : State.inner v0) : State.inner (State.reShed v0) := by
  unfold State.reShed
  exact (State.each_inv (clo_inner.mono rfl) k0 (fun _ _ h1 => (State.shedEnter_inner h1)))
theorem State.shedTo_inner {v0} {v1} {v2} (k0 : State.inner v0) : State.inner (State.shedTo v0 v1 v2) := by
  unfold State.shedTo
  extract_lets +onlyGivenNames -merge x1
  clear_value x1
  refine ite_p (fun _ => k0) (fun _ => ?_)
  extract_lets +onlyGivenNames -merge x2
  have h3 : State.inner x2 := by unfold x2; exact (ite_p (fun _ => (State.setPgood_inv (clo_inner.mono rfl) k0)) (fun _ => k0))
  clear_value x2
  refine ite_p (fun _ => h3) (fun _ => ?_)
  extract_lets +onlyGivenNames -merge x4 x6
  have h5 : State.inner x4 := by unfold x4; exact (clo_inner.setF rfl h3)
  have h7 : State.inner x6 := by unfold x6; exact (clo_inner.setF rfl (clo_inner.inc rfl h5))
  clear_value x4 x6
  exact (State.each_inv (clo_inner.mono rfl) h7 (fun _ _ h8 => (State.shedEnter_inner h8)))
theorem execSheddingStepEntry_inner {v0} {v1} {v2} (k2 : State.inner v2) : (OutP State.inner) (execSheddingStepEntry v0 v1 v2) := by
  unfold execSheddingStepEntry
  exact (mk_next (State.shedTo_inner k2))
theorem State.shedExit_inner {v0} {v1} (k0 : State.inner v0) : State.inner (State.shedExit v0 v1) := by
  unfold State.shedExit
  refine ite_p (fun _ => k0) (fun _ => ?_)
  extract_lets +onlyGivenNames -merge x1
  have h2 : State.inner x1 := by unfold x1; exact (ite_p (fun _ => (foldl_p (fun _ _ h3 => (State.setPgood_inv (clo_inner.mono rfl) h3)) k0)) (fun _ => k0))
  clear_value x1
  exact (ite_p (fun _ => h2) (fun _ => (State.shedLeave_inner (clo_inner.setF rfl h2))))
theorem execSheddingStepExit_inner {v0} {v1} (k1 : State.inner v1) : (OutP State.inner) (execSheddingStepExit v0 v1) := by
  unfold execSheddingStepExit
  exact (mk_next (State.shedExit_inner k1))
theorem State.throttleMsg_inner {v0} {v1} (k0 : State.inner v0) : State.inner (State.throttleMsg v0 v1) := by
  unfold State.throttleMsg
  exact (ite_p (fun _ => (State.updMail_inner (fun _ h => foldl_p (fun _ _ hm => { hm with }) h) k0)) (fun _ => k0))
theorem State.abandonReset_inner {v0} (k0 : State.inner v0) : State.inner (State.abandonReset v0) := by
  unfold State.abandonReset
  extract_lets +onlyGivenNames -merge x1 x2 x3
  have h4 : State.inner x3 := by unfold x3; exact (State.updBoot_inner k0)
  clear_value x1 x2 x3
  exact (State.respondTo_inner (State.respondTo_inner h4))
theorem State.thermalShutdown_inner {v0} {v1} {v2} (k0 : State.inner v0) : State.inner (State.thermalShutdown v0 v1 v2) := by
  unfold State.thermalShutdown
  refine ite_p (fun _ => k0) (fun _ => ?_)
  extract_lets +onlyGivenNames -merge x1 x3 x5 x7
  have h2 : State.inner x1 := by unfold x1; exact (State.enterSafe_inner (State.abandonReset_inner k0))
  have h4 : State.inner x3 := by unfold x3; exact (ite_p (fun _ => h2) (fun _ => (State.setHearth_inv (clo_inner.mono rfl) h2)))
  have h6 : State.inner x5 := by unfold x5; exact (clo_inner.setF rfl (clo_inner.setF rfl h4))
  have h8 : State.inner x7 := by unfold x7; exact (clo_inner.setF rfl (clo_inner.setF rfl h6))
  clear_value x1 x3 x5 x7
  exact (State.updBoot_inner h8)
theorem State.convertTemp_inner {v0} {v1} {v2} (k0 : State.inner v0) : State.inner (State.convertTemp v0 v1 v2) := by
  unfold State.convertTemp
  extract_lets +onlyGivenNames -merge x1 x2 x3 x4 x6
  have h5 : State.inner x4 := by unfold x4; exact (clo_inner.setF rfl (clo_inner.setF rfl k0))
  have h7 : State.inner x6 := by unfold x6; exact (clo_inner.setF rfl h5)
  clear_value x1 x2 x3 x4 x6
  refine ite_p (fun _ => ?_) (fun _ => (ite_p (fun _ => (ite_p (fun _ => (State.thermalShutdown_inner h7)) (fun _ => h7))) (fun _ => (ite_p (fun _ => (State.thermalShutdown_inner h7)) (fun _ => h7)))))
  refine ite_p (fun _ => ?_) (fun _ => h7)
  extract_lets +onlyGivenNames -merge x8 x10
  have h9 : State.inner x8 := by unfold x8; exact (clo_inner.setF rfl h7)
  have h11 : State.inner x10 := by unfold x10; exact (ite_p (fun _ => h9) (fun _ => (State.event_inner h9)))
  clear_value x8 x10
  exact (ite_p (fun _ => (State.enterSafe_inner h11)) (fun _ => h11))
theorem State.adc_inner {v0} {v1} (k0 : State.inner v0) : State.inner (State.adc v0 v1) := by
  unfold State.adc
  refine ite_p (fun _ => k0) (fun _ => ?_)
  extract_lets +onlyGivenNames -merge x1 x2
  have h3 : State.inner x2 := by unfold x2; exact (State.updPow_inner (fun _ h => { h with }) k0)
  clear_value x1 x2
  exact (ite_p (fun _ => (clo_inner.setF rfl (clo_inner.setF rfl (clo_inner.setF rfl h3)))) (fun _ => (ite_p (fun _ => (clo_inner.setF rfl h3)) (fun _ => (ite_p (fun _ => (State.convertTemp_inner h3)) (fun _ => (State.convertTemp_inner h3)))))))
theorem execAdcConversion_inner {v0} {v1} (k1 : State.inner v1) : (OutP State.inner) (execAdcConversion v0 v1) := by
  unfold execAdcConversion
  exact (mk_next (State.adc_inner k1))
theorem State.setThermReq_inner {v0} {v1} (k0 : State.inner v0) : State.inner (State.setThermReq v0 v1) := by
  unfold State.setThermReq
  refine ite_p (fun _ => k0) (fun _ => ?_)
  extract_lets +onlyGivenNames -merge x1 x3 x5
  have h2 : State.inner x1 := by unfold x1; exact (clo_inner.setF rfl k0)
  have h4 : State.inner x3 := by unfold x3; exact (State.updBoot_inner h2)
  have h6 : State.inner x5 := by unfold x5; exact (State.event_inner h4)
  clear_value x1 x3 x5
  exact (State.throttleMsg_inner h6)
theorem State.throttle_inner {v0} (k0 : State.inner v0) : State.inner (State.throttle v0) := by
  unfold State.throttle
  extract_lets +onlyGivenNames -merge x1 x2 x3 x4 x5 x6
  clear_value x1 x2 x3 x4 x5 x6
  refine ite_p (fun _ => (ite_p (fun _ => (State.setThermReq_inner (State.updPow_inner (fun _ h => { h with }) k0))) (fun _ => k0))) (fun _ => ?_)
  refine ite_p (fun _ => (ite_p (fun _ => (State.setThermReq_inner k0)) (fun _ => (ite_p (fun _ => (State.setThermLevel_inv (clo_inner.mono rfl) (State.updPow_inner (fun _ h => { h with }) k0))) (fun _ => k0))))) (fun _ => ?_)
  extract_lets +onlyGivenNames -merge x7
  have h8 : State.inner x7 := by unfold x7; exact (State.updPow_inner (fun _ h => ite_p (fun _ => ite_p (fun _ => h) fun _ => { h with }) fun _ => { h with }) k0)
  clear_value x7
  refine ite_p (fun _ => (State.setThermLevel_inv (clo_inner.mono rfl) (State.updPow_inner (fun _ h => { h with }) h8))) (fun _ => ?_)
  refine ite_p (fun _ => ?_) (fun _ => h8)
  extract_lets +onlyGivenNames -merge x9
  have h10 : State.inner x9 := by unfold x9; exact (State.setThermLevel_inv (clo_inner.mono rfl) (State.updPow_inner (fun _ h => { h with }) h8))
  clear_value x9
  exact (ite_p (fun _ => (State.setThermReq_inner (State.updPow_inner (fun _ h => { h with }) h10))) (fun _ => h10))
theorem State.rcTrim_inner {v0} (k0 : State.inner v0) : State.inner (State.rcTrim v0) := by
  unfold State.rcTrim
  extract_lets +onlyGivenNames -merge x1
  clear_value x1
  refine ite_p (fun _ => k0) (fun _ => ?_)
  extract_lets +onlyGivenNames -merge x2 x3 x4 x5 x6
  have h7 : State.inner x6 := by unfold x6; exact (clo_inner.drawn rfl  (clo_inner.setF rfl (clo_inner.setF rfl k0)))
  clear_value x2 x3 x4 x5 x6
  exact (State.updClk_inner (fun _ h => { h with }) h7)
theorem State.addLife_inner {v0} (k0 : State.inner v0) : State.inner (State.addLife v0) := by
  unfold State.addLife
  extract_lets +onlyGivenNames -merge x1 x2 x3
  have h4 : State.inner x3 := by unfold x3; exact (State.updPow_inner (fun _ h => { h with lifeUs := mwf_mput _ _ h.lifeUs }) k0)
  clear_value x1 x2 x3
  exact (ite_p (fun _ => (clo_inner.inc rfl h4)) (fun _ => h4))
theorem State.slowRound_inner {v0} (k0 : State.inner v0) : State.inner (State.slowRound v0) := by
  unfold State.slowRound
  refine ite_p (fun _ => k0) (fun _ => ?_)
  extract_lets +onlyGivenNames -merge x1 x2 x4 x6
  have h3 : State.inner x2 := by unfold x2; exact (State.updPow_inner (fun _ h => { h with }) k0)
  have h5 : State.inner x4 := by unfold x4; exact (State.rcTrim_inner (State.findTj_inv (clo_inner.mono rfl) (clo_inner.incW rfl h3)))
  have h7 : State.inner x6 := by unfold x6; exact (ite_p (fun _ => h5) (fun _ => (State.recordTherm_inv (clo_inner.mono rfl) (State.throttle_inner h5))))
  clear_value x1 x2 x4 x6
  exact (State.addLife_inner h7)
theorem execSlowRoundEnd_inner {v0} (k0 : State.inner v0) : (OutP State.inner) (execSlowRoundEnd v0) := by
  unfold execSlowRoundEnd
  exact (mk_next (State.slowRound_inner k0))
theorem State.ageing_inner {v0} {v1} (k0 : State.inner v0) : State.inner (State.ageing v0 v1) := by
  unfold State.ageing
  refine ite_p (fun _ => k0) (fun _ => ?_)
  extract_lets +onlyGivenNames -merge x1 x2 x3 x4 x5 x6 x8 x10 x12 x14 x19
  have h7 : State.inner x6 := by unfold x6; exact (State.updPow_inner (fun _ h => { h with }) k0)
  have h9 : State.inner x8 := by unfold x8; exact (clo_inner.setF rfl (clo_inner.setF rfl h7))
  have h11 : State.inner x10 := by unfold x10; exact (clo_inner.setF rfl h9)
  have h13 : State.inner x12 := by unfold x12; exact (clo_inner.setF rfl h11)
  have h15 : ∀ a0 a1, State.inner a0 → State.inner (x14 a0 a1) := by
    intro a17 a18 h16
    unfold x14
    exact (State.event_inner h16)
  have h20 : State.inner x19 := by unfold x19; exact (ite_p (fun _ => (h15 _ _ h13)) (fun _ => h13))
  clear_value x1 x2 x3 x4 x5 x6 x8 x10 x12 x14 x19
  exact (ite_p (fun _ => (h15 _ _ h20)) (fun _ => h20))
theorem execAgeingMeasurement_inner {v0} {v1} (k1 : State.inner v1) : (OutP State.inner) (execAgeingMeasurement v0 v1) := by
  unfold execAgeingMeasurement
  exact (mk_next (State.ageing_inner k1))
theorem execLifeRecord_inner {v0} (k0 : State.inner v0) : (OutP State.inner) (execLifeRecord v0) := by
  unfold execLifeRecord
  exact (mk_next (ite_p (fun _ => k0) (fun _ => (State.journalBatch_inner k0))))
theorem execPowerStatus_inner {v0} {v1} (k1 : State.inner v1) : (OutP State.inner) (execPowerStatus v0 v1) := by
  unfold execPowerStatus
  exact (mk_next (State.submit_inner k1 (fun _ h1 => (State.replyData_inner h1))))
theorem execThermalStatus_inner {v0} {v1} {v2} (k2 : State.inner v2) : (OutP State.inner) (execThermalStatus v0 v1 v2) := by
  unfold execThermalStatus
  exact (mk_next (State.submit_inner k2 (fun _ h1 => (State.checks_inner h1 (fun _ h2 => (State.replyData_inner h2))))))
theorem execAgeReport_inner {v0} {v1} (k1 : State.inner v1) : (OutP State.inner) (execAgeReport v0 v1) := by
  unfold execAgeReport
  exact (mk_next (State.submit_inner k1 (fun _ h1 => (State.replyData_inner h1))))
theorem execThermTest_inner {v0} {v1} {v2} {v3} (k3 : State.inner v3) : (OutP State.inner) (execThermTest v0 v1 v2 v3) := by
  unfold execThermTest
  refine mk_next ?_
  refine State.submit_inner k3 ?_
  intro a6 h5
  extract_lets +onlyGivenNames -merge x7
  clear_value x7
  exact (State.checks_inner h5 (fun _ h8 => (State.reply_inner (State.updPow_inner (fun _ h => { h with }) h8))))
theorem execThermTestEnd_inner {v0} (k0 : State.inner v0) : (OutP State.inner) (execThermTestEnd v0) := by
  unfold execThermTestEnd
  exact (mk_next (State.updPow_inner (fun _ h => { h with }) k0))

/-! ### Reset -/

theorem State.recordTest_inner {v0} {v1} {v2} {v3} (k0 : State.inner v0) : State.inner (State.recordTest v0 v1 v2 v3) := by
  unfold State.recordTest
  refine ite_p (fun _ => (clo_inner.setF rfl k0)) (fun _ => ?_)
  extract_lets +onlyGivenNames -merge x1
  clear_value x1
  exact (State.showRecord_inv (clo_inner.mono rfl) (State.updBoot_inner k0))
theorem State.popRecords_inner {v0} {v1} (k0 : State.inner v0) : State.inner (State.popRecords v0 v1) := by
  unfold State.popRecords
  exact (State.showRecord_inv (clo_inner.mono rfl) (State.updBoot_inner k0))
theorem State.setSpare_inner {v0} {v1} {v2} {v3} {v4} (k0 : State.inner v0) : State.inner (State.setSpare v0 v1 v2 v3 v4) := by
  unfold State.setSpare
  exact (State.updBank_inner (fun _ h => { h with spares := mwf_mput _ _ h.spares }) k0)
theorem State.assignSpare_inner {v0} {v1} {v2} {v3} (k0 : State.inner v0) : State.inner (State.assignSpare v0 v1 v2 v3) := by
  unfold State.assignSpare
  exact (State.journalBatch_inner (State.setSpare_inner k0))
theorem State.testFailure_inner {v0} {v1} {v2} {v3} (k0 : State.inner v0) : State.inner (State.testFailure v0 v1 v2 v3) := by
  unfold State.testFailure
  extract_lets +onlyGivenNames -merge x1
  have h2 : ∀ a0, State.inner a0 → State.inner (x1 a0) := by
    intro a4 h3
    unfold x1
    exact (State.updBoot_inner (State.recordTest_inner h3))
  clear_value x1
  refine ite_p (fun _ => (h2 _ k0)) (fun _ => ?_)
  refine ite_p (fun _ => ?_) (fun _ => ?_)
  ·
    split
    ·
      rename_i y5 y6 y7
      exact (State.recordTest_inner (State.assignSpare_inner k0))
    ·
      rename_i y8 y9
      exact (h2 _ k0)
  ·
    refine ite_p (fun _ => ?_) (fun _ => (h2 _ k0))
    extract_lets +onlyGivenNames -merge x10 x11 x12 x13
    clear_value x10 x11 x12 x13
    exact (ite_p (fun _ => (State.recordTest_inner (State.journalBatch_inner (State.remap_inner k0)))) (fun _ => (ite_p (fun _ => (State.recordTest_inner (State.journalBatch_inner (State.narrow_inv (clo_inner.mono rfl) k0)))) (fun _ => (ite_p (fun _ => (h2 _ k0)) (fun _ => (State.recordTest_inner k0)))))))
theorem State.showFallow_inner {v0} {v1} (k0 : State.inner v0) : State.inner (State.showFallow v0 v1) := by
  unfold State.showFallow
  split
  ·
    rename_i y1 y2
    extract_lets +onlyGivenNames -merge x3
    have h4 : State.inner x3 := by unfold x3; exact (clo_inner.setF rfl k0)
    clear_value x3
    exact (clo_inner.setF rfl (clo_inner.setF rfl h4))
  ·
    rename_i y5 y6
    exact (State.setDivisor_inv (clo_inner.mono rfl) (State.trackOff_inner (clo_inner.setF rfl k0)))
  ·
    rename_i y7 y8
    exact (clo_inner.setF rfl k0)
  ·
    rename_i y9 y10
    exact (clo_inner.setF rfl k0)
  ·
    rename_i y11 y12 y13 y14 y15
    exact k0
theorem State.markFallow_inner {v0} (k0 : State.inner v0) : State.inner (State.markFallow v0) := by
  unfold State.markFallow
  extract_lets +onlyGivenNames -merge x1 x2 x3 x4 x6 x8 x11 x12 x13
  have h5 : State.inner x4 := by unfold x4; exact (State.updBoot_inner k0)
  have h7 : State.inner x6 := by unfold x6; exact (ite_p (fun _ => h5) (fun _ => (State.journalBatch_inner h5)))
  have h9 : State.inner x8 := by unfold x8; exact (State.each_inv (clo_inner.mono rfl) h7 (fun _ _ h10 => (State.showFallow_inner h10)))
  have h14 : State.inner x13 := by unfold x13; exact (clo_inner.setF rfl (State.updBoot_inner h9))
  clear_value x1 x2 x3 x4 x6 x8 x11 x12 x13
  exact (ite_p (fun _ => h14) (fun _ => (State.sidesStart_inner h14)))
theorem State.fuseLoad_inner {v0} {v1} (k0 : State.inner v0) : State.inner (State.fuseLoad v0 v1) := by
  unfold State.fuseLoad
  extract_lets +onlyGivenNames -merge x1 x2 x4 x6 x8 x10 x12 x15 x17
  have h3 : State.inner x2 := by unfold x2; exact (clo_inner.setF rfl (clo_inner.setF rfl k0))
  have h5 : State.inner x4 := by unfold x4; exact (clo_inner.setF rfl (clo_inner.setF rfl h3))
  have h7 : State.inner x6 := by unfold x6; exact (clo_inner.setF rfl (clo_inner.setF rfl h5))
  have h9 : State.inner x8 := by unfold x8; exact (clo_inner.setF rfl h7)
  have h11 : State.inner x10 := by unfold x10; exact (clo_inner.setF rfl h9)
  have h13 : State.inner x12 := by unfold x12; exact (State.each_inv (clo_inner.mono rfl) h11 (fun _ _ h14 => (State.setSpare_inner h14)))
  have h16 : State.inner x15 := by unfold x15; exact (clo_inner.setF rfl (clo_inner.setF rfl h13))
  have h18 : State.inner x17 := by unfold x17; exact (State.updBoot_inner h16)
  clear_value x1 x2 x4 x6 x8 x10 x12 x15 x17
  exact (clo_inner.setF rfl h18)
theorem State.endByReset_inner {v0} (k0 : State.inner v0) : State.inner (State.endByReset v0) := by
  unfold State.endByReset
  exact (ite_p (fun _ => (State.endRecording_inner k0)) (fun _ => k0))
theorem State.restart_inner {v0} {v1} (k0 : State.inner v0) : State.inner (State.restart v0 v1) := by
  unfold State.restart
  extract_lets +onlyGivenNames -merge x1
  have h2 : State.inner x1 := by unfold x1; exact (State.stackReset_inner  (State.endByReset_inner k0))
  clear_value x1
  exact (ite_p (fun _ => h2) (fun _ => (State.fuseLoad_inner (clo_inner.drawn rfl  (State.updBoot_inner h2)))))
theorem State.setStep_inner {v0} {v1} (k0 : State.inner v0) : State.inner (State.setStep v0 v1) := by
  unfold State.setStep
  exact (clo_inner.setF rfl (State.updBoot_inner k0))
theorem State.beginTests_inner {v0} (k0 : State.inner v0) : State.inner (State.beginTests v0) := by
  unfold State.beginTests
  extract_lets +onlyGivenNames -merge x1 x3 x4 x7 x10 x13 x16
  have h2 : State.inner x1 := by unfold x1; exact (State.readJournal_inner k0)
  have h5 : State.inner x4 := by unfold x4; exact (State.each_inv (clo_inner.mono rfl) h2 (fun _ _ h6 => (ite_p (fun _ => h6) (fun _ => (State.remap_inner h6)))))
  have h8 : State.inner x7 := by unfold x7; exact (State.each_inv (clo_inner.mono rfl) h5 (fun _ _ h9 => (State.narrow_inv (clo_inner.mono rfl) h9)))
  have h11 : State.inner x10 := by unfold x10; exact (State.each_inv (clo_inner.mono rfl) h8 (fun _ _ h12 => (State.setSpare_inner h12)))
  have h14 : State.inner x13 := by unfold x13; exact (State.each_inv (clo_inner.mono rfl) h11 (fun _ _ h15 => (clo_inner.setF rfl h15)))
  have h17 : State.inner x16 := by unfold x16; exact (State.updBoot_inner h14)
  clear_value x1 x3 x4 x7 x10 x13 x16
  exact (clo_inner.setF rfl h17)
theorem State.startClocks_inner {v0} (k0 : State.inner v0) : State.inner (State.startClocks v0) := by
  unfold State.startClocks
  extract_lets +onlyGivenNames -merge x1 x3
  have h2 : State.inner x1 := by unfold x1; exact (State.setStep_inner k0)
  have h4 : State.inner x3 := by unfold x3; exact (ite_p (fun _ => (ite_p (fun _ => (State.setHearth_inv (clo_inner.mono rfl) h2)) (fun _ => h2))) (fun _ => k0))
  clear_value x1 x3
  exact (ite_p (fun _ => (State.beginTests_inner (State.setStep_inner (State.updBoot_inner h4)))) (fun _ => h4))
theorem State.bootVerify_inner {v0} (k0 : State.inner v0) : State.inner (State.bootVerify v0) := by
  unfold State.bootVerify
  refine ite_p (fun _ => k0) (fun _ => ?_)
  extract_lets +onlyGivenNames -merge x1 x3 x4
  have h2 : State.inner x1 := by unfold x1; exact (clo_inner.wipe rfl _ _ k0)
  have h5 : State.inner x4 := by unfold x4; exact (State.updBoot_inner h2)
  clear_value x1 x3 x4
  refine ite_p (fun _ => h5) (fun _ => ?_)
  split
  ·
    rename_i y6 y7
    exact (State.updBoot_inner h5)
  ·
    rename_i y8 y9 y10
    extract_lets +onlyGivenNames -merge x11 x12 x14 x16 x18 x20
    have h13 : State.inner x12 := by unfold x12; exact (State.updSec_inner h5)
    have h15 : State.inner x14 := by unfold x14; exact (clo_inner.setF rfl h13)
    have h17 : State.inner x16 := by unfold x16; exact (clo_inner.setF rfl (clo_inner.setF rfl h15))
    have h19 : State.inner x18 := by unfold x18; exact (clo_inner.setF rfl h17)
    have h21 : State.inner x20 := by unfold x20; exact (State.updBoot_inner (clo_inner.setF rfl h19))
    clear_value x11 x12 x14 x16 x18 x20
    exact (State.startClocks_inner (State.setStep_inner h21))
theorem execPowerOnReset_inner {v0} (k0 : State.inner v0) : (OutP State.inner) (execPowerOnReset v0) := by
  unfold execPowerOnReset
  exact (mk_next (State.powerOn_inner  k0))
theorem execPowerOnResetRelease_inner {v0} {v1} (k1 : State.inner v1) : (OutP State.inner) (execPowerOnResetRelease v0 v1) := by
  unfold execPowerOnResetRelease
  refine mk_next ?_
  refine ite_p (fun _ => k1) (fun _ => ?_)
  extract_lets +onlyGivenNames -merge x1 x3
  have h2 : State.inner x1 := by unfold x1; exact (State.updBoot_inner k1)
  have h4 : State.inner x3 := by unfold x3; exact (clo_inner.setF rfl (clo_inner.setF rfl h2))
  clear_value x1 x3
  exact (ite_p (fun _ => h4) (fun _ => (State.fuseLoad_inner h4)))
theorem execRailsPowerGood_inner {v0} (k0 : State.inner v0) : (OutP State.inner) (execRailsPowerGood v0) := by
  unfold execRailsPowerGood
  exact (mk_next (ite_p (fun _ => k0) (fun _ => (State.startClocks_inner (clo_inner.setF rfl k0)))))
theorem execResetN_inner {v0} (k0 : State.inner v0) : (OutP State.inner) (execResetN v0) := by
  unfold execResetN
  exact (mk_next (ite_p (fun _ => (State.updBoot_inner k0)) (fun _ => (State.restart_inner (State.updBoot_inner (State.recordSrc_inv (clo_inner.mono rfl) k0))))))
theorem execResetNRelease_inner {v0} {v1} (k1 : State.inner v1) : (OutP State.inner) (execResetNRelease v0 v1) := by
  unfold execResetNRelease
  exact (mk_next (ite_p (fun _ => k1) (fun _ => (ite_p (fun _ => (State.updBoot_inner k1)) (fun _ => (State.fuseLoad_inner (State.updBoot_inner k1)))))))
theorem execLockstepMismatch_inner {v0} (k0 : State.inner v0) : (OutP State.inner) (execLockstepMismatch v0) := by
  unfold execLockstepMismatch
  exact (mk_next (ite_p (fun _ => k0) (fun _ => (State.restart_inner k0))))
theorem execBootVerification_inner {v0} (k0 : State.inner v0) : (OutP State.inner) (execBootVerification v0) := by
  unfold execBootVerification
  exact (mk_next (State.bootVerify_inner k0))
theorem execJudgementWindow_inner {v0} {v1} (k1 : State.inner v1) : (OutP State.inner) (execJudgementWindow v0 v1) := by
  unfold execJudgementWindow
  exact (mk_next (ite_p (fun _ => k1) (fun _ => (State.startClocks_inner (State.judge_inner k1)))))
theorem execClockSwitch_inner {v0} {v1} {v2} {v3} (k3 : State.inner v3) : (OutP State.inner) (execClockSwitch v0 v1 v2 v3) := by
  unfold execClockSwitch
  exact (mk_next (State.startClocks_inner (State.clockSwitch_inv (clo_inner.mono rfl) k3)))
theorem execHearthLoopLock_inner {v0} (k0 : State.inner v0) : (OutP State.inner) (execHearthLoopLock v0) := by
  unfold execHearthLoopLock
  exact (mk_next (ite_p (fun _ => (State.startClocks_inner (State.loopLocks_inner k0))) (fun _ => k0)))
theorem execRelockAttempt_inner {v0} {v1} (k1 : State.inner v1) : (OutP State.inner) (execRelockAttempt v0 v1) := by
  unfold execRelockAttempt
  exact (mk_next (ite_p (fun _ => (State.startClocks_inner (State.loopLocks_inner k1))) (fun _ => k1)))
theorem State.startTest_inner {v0} {v1} {v2} {v3} {v4} (k0 : State.inner v0) : State.inner (State.startTest v0 v1 v2 v3 v4) := by
  unfold State.startTest
  refine ite_p (fun _ => k0) (fun _ => ?_)
  extract_lets +onlyGivenNames -merge x1 x4
  have h2 : State.inner x1 := by unfold x1; exact (State.each_inv (clo_inner.mono rfl) k0 (fun _ _ h3 => (State.testFailure_inner h3)))
  have h5 : State.inner x4 := by unfold x4; exact (State.updBoot_inner h2)
  clear_value x1 x4
  exact (ite_p (fun _ => h5) (fun _ => (State.setStep_inner (State.markFallow_inner (State.setStep_inner (clo_inner.setF rfl h5))))))
theorem State.startWipes_inner {v0} {v1} (k0 : State.inner v0) : State.inner (State.startWipes v0 v1) := by
  unfold State.startWipes
  refine ite_p (fun _ => k0) (fun _ => ?_)
  extract_lets +onlyGivenNames -merge x1 x4 x6
  have h2 : State.inner x1 := by unfold x1; exact (State.each_inv (clo_inner.mono rfl) k0 (fun _ _ h3 => (ite_p (fun _ => h3) (fun _ => (clo_inner.wipe rfl _ _ h3)))))
  have h5 : State.inner x4 := by unfold x4; exact (ite_p (fun _ => (State.wipeEngines_inv (clo_inner.mono rfl) (State.wipeRooms_inv (clo_inner.mono rfl) (State.wipeLanding_inv (clo_inner.mono rfl) h2)))) (fun _ => h2))
  have h7 : State.inner x6 := by unfold x6; exact (State.updBoot_inner h5)
  clear_value x1 x4 x6
  exact (ite_p (fun _ => h7) (fun _ => (clo_inner.setF rfl (State.setStep_inner h7))))
theorem execStartUpWipe_inner {v0} {v1} (k1 : State.inner v1) : (OutP State.inner) (execStartUpWipe v0 v1) := by
  unfold execStartUpWipe
  exact (mk_next (State.startWipes_inner k1))

/-! ### Csr -/

theorem State.latchHi_inner {v0} {v1} {v2} {v3} (k0 : State.inner v0) : (SndP State.inner) (State.latchHi v0 v1 v2 v3) := by
  unfold State.latchHi
  exact (mk_snd (inner_latch (fun h => mwf_mput _ _ h) k0))
theorem State.shownReg_inner {v0} {v1} {v2} (k0 : State.inner v0) : (OptP (SndP State.inner)) (State.shownReg v0 v1 v2) := by
  unfold State.shownReg
  split
  ·
    rename_i y1
    exact (mk_some (State.latchHi_inner k0))
  ·
    rename_i y2
    exact (mk_some (mk_snd k0))
  ·
    rename_i y3
    exact (mk_some (mk_snd k0))
  ·
    rename_i y4
    exact (mk_some (mk_snd k0))
  ·
    rename_i y5
    extract_lets +onlyGivenNames -merge x6
    clear_value x6
    exact (mk_some (mk_snd k0))
  ·
    rename_i y7
    exact (mk_some (mk_snd k0))
  ·
    rename_i y8
    exact (mk_some (mk_snd k0))
  ·
    rename_i y9
    exact (mk_some (mk_snd k0))
  ·
    rename_i y10
    exact (mk_some (mk_snd k0))
  ·
    rename_i y11
    exact (mk_some (mk_snd k0))
  ·
    rename_i y12
    exact (mk_some (mk_snd k0))
  ·
    rename_i y13
    exact (mk_some (mk_snd k0))
  ·
    rename_i y14
    exact (mk_some (mk_snd k0))
  ·
    rename_i y15
    exact (mk_some (mk_snd k0))
  ·
    rename_i y16
    extract_lets +onlyGivenNames -merge x17 x18 x19 x20
    clear_value x17 x18 x19 x20
    exact (mk_some (mk_snd k0))
  ·
    rename_i y21
    exact (mk_some (State.latchHi_inner k0))
  ·
    rename_i y22
    exact (mk_some (mk_snd k0))
  ·
    rename_i y23
    exact (mk_some (mk_snd k0))
  ·
    rename_i y24
    exact (mk_some (State.latchHi_inner k0))
  ·
    rename_i y25
    exact (mk_some (mk_snd k0))
  ·
    rename_i y26
    exact (mk_some (State.latchHi_inner k0))
  ·
    rename_i y27
    exact (mk_some (mk_snd k0))
  ·
    rename_i y28
    exact (mk_some (mk_snd k0))
  ·
    rename_i y29
    exact (mk_some (mk_snd k0))
  ·
    rename_i y30
    exact (mk_some (mk_snd k0))
  ·
    rename_i y31
    exact (mk_some (mk_snd k0))
  ·
    rename_i y32
    exact (mk_some (mk_snd k0))
  ·
    rename_i y33
    exact (mk_some (mk_snd k0))
  ·
    rename_i y34
    exact (mk_some (mk_snd k0))
  ·
    rename_i y35
    exact (mk_some (mk_snd k0))
  ·
    rename_i y36
    exact (mk_some (mk_snd k0))
  ·
    rename_i y37
    exact (mk_some (mk_snd k0))
  ·
    rename_i y38
    exact (mk_some (mk_snd k0))
  ·
    rename_i y39
    exact (mk_some (mk_snd k0))
  ·
    rename_i y40
    exact (mk_some (mk_snd k0))
  ·
    rename_i y41
    exact (mk_some (mk_snd k0))
  ·
    rename_i y42
    exact (mk_some (State.deRead_inner k0))
  ·
    rename_i y43
    exact (mk_some (State.deRead_inner k0))
  ·
    rename_i y44
    exact (mk_some (State.deRead_inner k0))
  ·
    rename_i y45
    exact (mk_some (State.deRead_inner k0))
  ·
    rename_i y46
    exact (mk_some (mk_snd k0))
  ·
    rename_i y47
    exact (mk_some (mk_snd k0))
  ·
    rename_i y48
    exact (mk_some (mk_snd k0))
  ·
    rename_i y49
    exact (mk_some (mk_snd k0))
  ·
    rename_i y50
    exact (ite_p (fun _ => (mk_some (mk_snd k0))) (fun _ => (mk_some (mk_snd k0))))
  ·
    rename_i y51
    exact (mk_some (mk_snd k0))
  ·
    rename_i y52
    extract_lets +onlyGivenNames -merge x53
    have h54 : State.inner x53 := by unfold x53; exact (State.stampNow_inv (clo_inner.mono rfl) k0)
    clear_value x53
    exact (mk_some (State.latchHi_inner h54))
  ·
    rename_i y55
    exact (mk_some (mk_snd k0))
  ·
    rename_i y56 y57 y58 y59 y60 y61 y62 y63 y64 y65 y66 y67 y68 y69 y70 y71 y72 y73 y74 y75 y76 y77 y78 y79 y80 y81 y82 y83 y84 y85 y86 y87 y88 y89 y90 y91 y92 y93 y94 y95 y96 y97 y98 y99 y100 y101 y102 y103 y104
    exact none_p
theorem State.plainRead_inner {v0} {v1} {v2} (k0 : State.inner v0) : (SndP State.inner) (State.plainRead v0 v1 v2) := by
  unfold State.plainRead
  split
  ·
    rename_i y1 y2 y3
    have q5 := congr_p (Q := (OptP (SndP State.inner))) y3 (by
        exact (State.shownReg_inner k0)
      )
    have h4 : (SndP State.inner) y2 := q5
    exact h4
  ·
    rename_i y6 y7
    extract_lets +onlyGivenNames -merge x8
    clear_value x8
    exact (mk_snd (ite_p (fun _ => k0) (fun _ => (clo_inner.wrAny rfl k0))))
theorem State.regRead_inner {v0} {v1} {v2} (k0 : State.inner v0) : (SndP State.inner) (State.regRead v0 v1 v2) := by
  unfold State.regRead
  split
  ·
    rename_i y1
    split
    ·
      rename_i y2 y3
      exact (mk_snd k0)
    ·
      rename_i y4 y5 y6 y7 y8
      extract_lets +onlyGivenNames -merge x9
      clear_value x9
      exact (mk_snd k0)
  ·
    rename_i y10
    split
    ·
      rename_i y11 y12
      exact (mk_snd k0)
    ·
      rename_i y13 y14 y15 y16 y17
      exact (mk_snd k0)
  ·
    rename_i y18 y19 y20
    exact (State.plainRead_inner k0)
theorem State.plainWrite_inner {v0} {v1} {v2} {v3} (k0 : State.inner v0) : State.inner (State.plainWrite v0 v1 v2 v3) := by
  unfold State.plainWrite
  extract_lets +onlyGivenNames -merge x1 x2 x3 x4
  have h5 : State.inner x4 := by unfold x4; exact (ite_p (fun _ => k0) (fun _ => (clo_inner.wrAny rfl k0)))
  clear_value x1 x2 x3 x4
  exact (ite_p (fun _ => h5) (fun _ => (State.stage_inner h5)))
theorem State.writeGates_inner {v0} {v1} {v2} (k0 : State.inner v0) : State.inner (State.writeGates v0 v1 v2) := by
  unfold State.writeGates
  exact (State.each_inv (clo_inner.mono rfl) k0 (fun _ _ h1 => (snd_p (State.gateAsk_inner h1))))
theorem State.writeLinkCtrl_inner {v0} {v1} {v2} (k0 : State.inner v0) : State.inner (State.writeLinkCtrl v0 v1 v2) := by
  unfold State.writeLinkCtrl
  extract_lets +onlyGivenNames -merge x1
  have h2 : State.inner x1 := by unfold x1; exact (ite_p (fun _ => k0) (fun _ => (ite_p (fun _ => (State.holdDown_inner k0)) (fun _ => (State.releaseHold_inner k0)))))
  clear_value x1
  exact (ite_p (fun _ => h2) (fun _ => (State.when_inv (clo_inner.mono rfl) (clo_inner.setLinkF rfl rfl h2) (fun _ h3 => (State.startRetrain_inner h3)))))
theorem State.requestWrite_inner {v0} {v1} {v2} {v3} (k0 : State.inner v0) : (OptP State.inner) (State.requestWrite v0 v1 v2 v3) := by
  unfold State.requestWrite
  split
  ·
    rename_i y1
    exact (mk_some (State.writeGates_inner k0))
  ·
    rename_i y2
    exact (mk_some (State.writeGates_inner k0))
  ·
    rename_i y3
    exact (mk_some (State.writeGates_inner k0))
  ·
    rename_i y4
    exact (mk_some (State.writeGates_inner k0))
  ·
    rename_i y5
    exact (mk_some (State.bookSnapshot_inv (clo_inner.mono rfl) k0))
  ·
    rename_i y6
    exact (mk_some (snd_p (State.writeOwner_inner k0)))
  ·
    rename_i y7
    exact (mk_some (snd_p (State.writeGuest_inv (clo_inner.mono rfl) k0)))
  ·
    rename_i y8
    exact (mk_some (ite_p (fun _ => (snd_p (State.askRetain_inner k0))) (fun _ => (State.askWakeCmd_inner k0))))
  ·
    rename_i y9
    exact (mk_some (ite_p (fun _ => (snd_p (State.askWipe_inner k0))) (fun _ => k0)))
  ·
    rename_i y10
    exact (mk_some (State.askSwitch_inner k0))
  ·
    rename_i y11
    extract_lets +onlyGivenNames -merge x12
    have h13 : State.inner x12 := by unfold x12; exact (State.plainWrite_inner k0)
    clear_value x12
    exact (mk_some (ite_p (fun _ => (snd_p (State.loadReq_inner h13))) (fun _ => h13)))
  ·
    rename_i y14
    extract_lets +onlyGivenNames -merge x15
    have h16 : State.inner x15 := by unfold x15; exact (State.haltRequest_inv (clo_inner.mono rfl) k0)
    clear_value x15
    exact (mk_some (ite_p (fun _ => (State.askStep_inner h16)) (fun _ => h16)))
  ·
    rename_i y17
    exact (mk_some (State.rfWrite_inner k0))
  ·
    rename_i y18
    exact (mk_some (State.writeLinkCtrl_inner k0))
  ·
    rename_i y19
    extract_lets +onlyGivenNames -merge x20
    have h21 : State.inner x20 := by unfold x20; exact (State.writeLinkCtrl_inner (clo_inner.setF rfl k0))
    clear_value x20
    exact (mk_some (ite_p (fun _ => (State.slipLane_inv (clo_inner.mono rfl) h21)) (fun _ => h21)))
  ·
    rename_i y22
    extract_lets +onlyGivenNames -merge x23
    have h24 : State.inner x23 := by unfold x23; exact (clo_inner.setF rfl k0)
    clear_value x23
    exact (mk_some (State.writeTxHold_inner (State.stage_inner h24)))
  ·
    rename_i y25
    exact (mk_some (State.writeCtm_inner k0))
  ·
    rename_i y26
    exact (ite_p (fun _ => (mk_some k0)) (fun _ => none_p))
  ·
    rename_i y27
    exact (ite_p (fun _ => (mk_some k0)) (fun _ => none_p))
  ·
    rename_i y28
    exact (mk_some (ite_p (fun _ => (clo_inner.ecLog rfl _ k0)) (fun _ => k0)))
  ·
    rename_i y29
    exact (mk_some (ite_p (fun _ => (State.popRecords_inner k0)) (fun _ => k0)))
  ·
    rename_i y30
    exact (mk_some (ite_p (fun _ => (State.newChallenge_inv (clo_inner.mono rfl) k0)) (fun _ => k0)))
  ·
    rename_i y31
    exact (ite_p (fun _ => (mk_some k0)) (fun _ => none_p))
  ·
    rename_i y32
    exact (mk_some k0)
  ·
    rename_i y33 y34 y35 y36 y37 y38 y39 y40 y41 y42 y43 y44 y45 y46 y47 y48 y49 y50 y51 y52 y53 y54 y55 y56 y57
    exact none_p
theorem State.regWrite_inner {v0} {v1} {v2} {v3} (k0 : State.inner v0) : State.inner (State.regWrite v0 v1 v2 v3) := by
  unfold State.regWrite
  exact (getD_p (State.requestWrite_inner k0) (State.plainWrite_inner k0))
theorem State.csrGet_inner {v0} {v1} (k0 : State.inner v0) : (SndP State.inner) (State.csrGet v0 v1) := by
  unfold State.csrGet
  split
  ·
    rename_i y1 y2 y3
    exact (mk_snd (State.busError_inv (clo_inner.mono rfl) k0))
  ·
    rename_i y4 y5
    split
    ·
      rename_i y6 y7 y8 y9
      split
      ·
        rename_i y10 y11 y12 y13
        have q15 := congr_p (Q := (SndP State.inner)) y13 (by
            exact (State.regRead_inner k0)
          )
        have h14 : State.inner y12 := q15
        exact (mk_snd h14)
    ·
      rename_i y16 y17
      exact (mk_snd k0)
theorem State.csrPut_inner {v0} {v1} {v2} (k0 : State.inner v0) : (SndP State.inner) (State.csrPut v0 v1 v2) := by
  unfold State.csrPut
  split
  ·
    rename_i y1 y2 y3
    exact (mk_snd (State.busError_inv (clo_inner.mono rfl) k0))
  ·
    rename_i y4 y5
    split
    ·
      rename_i y6 y7 y8 y9
      exact (mk_snd (State.regWrite_inner k0))
    ·
      rename_i y10 y11
      exact (mk_snd k0)
theorem State.csrShow_inner {v0} {v1} (k0 : State.inner v0) : State.inner (State.csrShow v0 v1) := by
  unfold State.csrShow
  split
  ·
    rename_i y1 y2 y3 y4
    have q6 := congr_p (Q := (SndP State.inner)) y4 (by
        exact (State.csrGet_inner k0)
      )
    have h5 : State.inner y3 := q6
    exact (State.updMail_inner (fun _ h => { h with }) h5)
  ·
    rename_i y7 y8 y9 y10
    have q12 := congr_p (Q := (SndP State.inner)) y10 (by
        exact (State.csrGet_inner k0)
      )
    have h11 : State.inner y9 := q12
    exact h11
theorem execRegisterWrite_inner {v0} {v1} {v2} (k2 : State.inner v2) : (OutP State.inner) (execRegisterWrite v0 v1 v2) := by
  unfold execRegisterWrite
  exact (mk_next (snd_p (State.csrPut_inner k2)))
theorem execReadClear_inner {v0} {v1} (k1 : State.inner v1) : (OutP State.inner) (execReadClear v0 v1) := by
  unfold execReadClear
  exact (mk_next (State.csrShow_inner k1))
theorem execLowWordReadLatch_inner {v0} {v1} (k1 : State.inner v1) : (OutP State.inner) (execLowWordReadLatch v0 v1) := by
  unfold execLowWordReadLatch
  exact (mk_next (State.csrShow_inner k1))
theorem execBtResPop_inner {v0} (k0 : State.inner v0) : (OutP State.inner) (execBtResPop v0) := by
  unfold execBtResPop
  exact (mk_next (State.popRecords_inner k0))

/-! ### Mail -/

theorem execDeviceInfo_inner {v0} {v1} (k1 : State.inner v1) : (OutP State.inner) (execDeviceInfo v0 v1) := by
  unfold execDeviceInfo
  exact (mk_next (State.submit_inner k1 (fun _ h1 => (State.replyData_inner h1))))
theorem execNop_inner {v0} {v1} (k1 : State.inner v1) : (OutP State.inner) (execNop v0 v1) := by
  unfold execNop
  exact (mk_next (State.submit_inner k1 (fun _ h1 => (State.reply_inner h1))))
theorem execEventRead_inner {v0} {v1} (k1 : State.inner v1) : (OutP State.inner) (execEventRead v0 v1) := by
  unfold execEventRead
  refine mk_next ?_
  refine State.submit_inner k1 ?_
  intro a6 h5
  extract_lets +onlyGivenNames -merge x7 x8
  have h9 : State.inner x8 := by unfold x8; exact (State.updMail_inner (fun _ h => { h with evq := mwf_mupd _ _ h.evq }) h5)
  clear_value x7 x8
  exact (State.replyData_inner h9)
theorem execEventCfg_inner {v0} {v1} {v2} (k2 : State.inner v2) : (OutP State.inner) (execEventCfg v0 v1 v2) := by
  unfold execEventCfg
  exact (mk_next (State.submit_inner k2 (fun _ h1 => (State.reply_inner (clo_inner.setF rfl h1)))))
theorem State.csrReadRun_inner {v0} {v1} {v2} {v3} {v4} {v5} (k0 : State.inner v0) : State.inner (State.csrReadRun v0 v1 v2 v3 v4 v5) := by
  induction v3 generalizing v0 k0 v1 v2 v4 v5 with
  | zero =>
    rw [State.csrReadRun]
    exact (State.replyData_inner k0)
  | succ n ih =>
    rw [State.csrReadRun]
    split
    ·
      rename_i y1 y2 y3 y4
      have q6 := congr_p (Q := (SndP State.inner)) y4 (by
          exact (State.csrGet_inner k0)
        )
      have h5 : State.inner y3 := q6
      exact (State.respond_inner h5)
    ·
      rename_i y7 y8 y9 y10
      have q12 := congr_p (Q := (SndP State.inner)) y10 (by
          exact (State.csrGet_inner k0)
        )
      have h11 : State.inner y9 := q12
      exact (by apply ih; exact h11)
theorem execCsrRead_inner {v0} {v1} {v2} {v3} (k3 : State.inner v3) : (OutP State.inner) (execCsrRead v0 v1 v2 v3) := by
  unfold execCsrRead
  exact (mk_next (State.submit_inner k3 (fun _ h1 => (State.checks_inner h1 (fun _ h2 => (State.csrReadRun_inner h2))))))
theorem State.csrWriteRun_inner {v0} {v1} {v2} {v3} {v4} (k0 : State.inner v0) : State.inner (State.csrWriteRun v0 v1 v2 v3 v4) := by
  induction v3 generalizing v0 k0 v1 v2 v4 with
  | nil =>
    rw [State.csrWriteRun]
    exact (State.reply_inner k0)
  | cons z t ih =>
    rw [State.csrWriteRun]
    split
    ·
      rename_i y1 y2 y3 y4
      have q6 := congr_p (Q := (SndP State.inner)) y4 (by
          exact (State.csrPut_inner k0)
        )
      have h5 : State.inner y3 := q6
      exact (State.respond_inner h5)
    ·
      rename_i y7 y8 y9
      have q11 := congr_p (Q := (SndP State.inner)) y9 (by
          exact (State.csrPut_inner k0)
        )
      have h10 : State.inner y8 := q11
      exact (by apply ih; exact h10)
theorem execCsrWrite_inner {v0} {v1} {v2} {v3} (k3 : State.inner v3) : (OutP State.inner) (execCsrWrite v0 v1 v2 v3) := by
  unfold execCsrWrite
  exact (mk_next (State.submit_inner k3 (fun _ h1 => (State.checks_inner h1 (fun _ h2 => (State.csrWriteRun_inner h2))))))
theorem State.setArgs_inner {v0} {v1} {v2} (k0 : State.inner v0) : State.inner (State.setArgs v0 v1 v2) := by
  unfold State.setArgs
  exact (State.updMail_inner (fun _ h => { h with }) k0)
theorem State.memSend_inner {v0} {v1} {v2} {v3} (k0 : State.inner v0) : State.inner (State.memSend v0 v1 v2 v3) := by
  unfold State.memSend
  extract_lets +onlyGivenNames -merge x1 x2 x3
  clear_value x1 x2 x3
  exact (State.request_inner (State.setArgs_inner k0))
theorem State.memGo_inner {v0} {v1} {v2} {v3} {v4} (k0 : State.inner v0) : (FstP State.inner) (State.memGo v0 v1 v2 v3 v4) := by
  induction v3 generalizing v0 k0 v1 v2 v4 with
  | zero =>
    rw [State.memGo]
    exact (mk_fst k0)
  | succ n ih =>
    rw [State.memGo]
    refine ite_p (fun _ => (mk_fst k0)) (fun _ => ?_)
    extract_lets +onlyGivenNames -merge x1 x2 x3 x8
    have h4 : ∀ a0 a1, State.inner a0 → (FstP State.inner) (x3 a0 a1) := by
      intro a6 a7 h5
      unfold x3
      exact (mk_fst (State.respond_inner h5))
    have h9 : ∀ a0 a1 a2, State.inner a0 → (FstP State.inner) (x8 a0 a1 a2) := by
      intro a11 a12 a13 h10
      unfold x8
      exact (by apply ih; exact h10)
    clear_value x1 x2 x3 x8
    refine ite_p (fun _ => (h4 _ _ (State.busError_inv (clo_inner.mono rfl) k0))) (fun _ => ?_)
    refine ite_p (fun _ => (mk_fst (State.memSend_inner k0))) (fun _ => ?_)
    split
    ·
      rename_i y14 y15
      refine ite_p (fun _ => (h9 _ _ _ (snd_p (State.writeSpanAs_inner k0)))) (fun _ => ?_)
      split
      ·
        rename_i y16 y17 y18 y19 y20
        have q22 := congr_p (Q := (SndP (SndP State.inner))) y20 (by
            exact (State.readSpan_inner k0)
          )
        have h21 : State.inner y19 := q22
        exact (h9 _ _ _ h21)
    ·
      rename_i y23 y24 y25
      refine ite_p (fun _ => (h4 _ _ (State.busError_inv (clo_inner.mono rfl) k0))) (fun _ => ?_)
      refine ite_p (fun _ => ?_) (fun _ => ?_)
      ·
        split
        ·
          rename_i y26 y27 y28 y29
          have q31 := congr_p (Q := (SndP State.inner)) y29 (by
              exact (State.csrPut_inner k0)
            )
          have h30 : State.inner y28 := q31
          exact (h4 _ _ h30)
        ·
          rename_i y32 y33 y34
          have q36 := congr_p (Q := (SndP State.inner)) y34 (by
              exact (State.csrPut_inner k0)
            )
          have h35 : State.inner y33 := q36
          exact (h9 _ _ _ h35)
      ·
        split
        ·
          rename_i y37 y38 y39 y40
          have q42 := congr_p (Q := (SndP State.inner)) y40 (by
              exact (State.csrGet_inner k0)
            )
          have h41 : State.inner y39 := q42
          exact (h4 _ _ h41)
        ·
          rename_i y43 y44 y45 y46
          have q48 := congr_p (Q := (SndP State.inner)) y46 (by
              exact (State.csrGet_inner k0)
            )
          have h47 : State.inner y45 := q48
          exact (h9 _ _ _ h47)
    ·
      rename_i y49 y50 y51
      exact (mk_fst (State.memSend_inner k0))
theorem State.memReadEnd_inner {v0} {v1} {v2} (k0 : State.inner v0) : State.inner (State.memReadEnd v0 v1 v2) := by
  unfold State.memReadEnd
  exact (State.respond_inner k0)
theorem State.memWriteEnd_inner {v0} {v1} {v2} (k0 : State.inner v0) : State.inner (State.memWriteEnd v0 v1 v2) := by
  unfold State.memWriteEnd
  extract_lets +onlyGivenNames -merge x1
  clear_value x1
  exact (State.respond_inner k0)
theorem State.memPut_inner {v0} {v1} {v2} (k0 : State.inner v0) : State.inner (State.memPut v0 v1 v2) := by
  unfold State.memPut
  split
  ·
    rename_i y1 y2 y3 y4
    have q6 := congr_p (Q := (FstP State.inner)) y4 (by
        exact (State.memGo_inner k0)
      )
    have h5 : State.inner y2 := q6
    split
    ·
      rename_i y7 y8
      exact (State.memWriteEnd_inner h5)
    ·
      rename_i y9
      exact h5
theorem execMemRead_inner {v0} {v1} {v2} {v3} (k3 : State.inner v3) : (OutP State.inner) (execMemRead v0 v1 v2 v3) := by
  unfold execMemRead
  refine mk_next ?_
  refine State.submit_inner k3 ?_
  intro a10 h9
  refine State.checks_inner h9 ?_
  intro a14 h13
  split
  ·
    rename_i y15 y16 y17 y18
    have q20 := congr_p (Q := (FstP State.inner)) y18 (by
        exact (State.memGo_inner h13)
      )
    have h19 : State.inner y16 := q20
    split
    ·
      rename_i y21 y22
      exact (State.memReadEnd_inner h19)
    ·
      rename_i y23
      exact h19
theorem execMemWrite_inner {v0} {v1} {v2} {v3} (k3 : State.inner v3) : (OutP State.inner) (execMemWrite v0 v1 v2 v3) := by
  unfold execMemWrite
  extract_lets +onlyGivenNames -merge x1 x2
  exact (mk_next (State.submit_inner k3 (fun _ h3 => (State.checks_inner h3 (fun _ h4 => (State.memPut_inner (State.uncommitted_inner h4)))))))
theorem State.writeOut_inner {v0} {v1} {v2} {v3} (k0 : State.inner v0) : State.inner (State.writeOut v0 v1 v2 v3) := by
  unfold State.writeOut
  exact (State.checks_inner k0 (fun _ h1 => (State.memPut_inner (clo_inner.drawn rfl  h1))))
theorem execBooksRead_inner {v0} {v1} {v2} (k2 : State.inner v2) : (OutP State.inner) (execBooksRead v0 v1 v2) := by
  unfold execBooksRead
  exact (mk_next (State.submit_inner k2 (fun _ h1 => (State.writeOut_inner h1))))
theorem State.memAnswer_inner {v0} {v1} {v2} {v3} (k0 : State.inner v0) : (FstP State.inner) (State.memAnswer v0 v1 v2 v3) := by
  unfold State.memAnswer
  extract_lets +onlyGivenNames -merge x1 x2 x3 x4
  clear_value x1 x2 x3 x4
  refine ite_p (fun _ => ?_) (fun _ => ?_)
  ·
    refine ite_p (fun _ => (mk_fst (State.respond_inner k0))) (fun _ => ?_)
    extract_lets +onlyGivenNames -merge x5 x6 x7
    have h8 : State.inner x7 := by unfold x7; exact (ite_p (fun _ => (State.committed_inner k0)) (fun _ => k0))
    clear_value x5 x6 x7
    exact (mk_fst (State.memSend_inner h8))
  ·
    refine ite_p (fun _ => ?_) (fun _ => ?_)
    ·
      extract_lets +onlyGivenNames -merge x9 x10
      have h11 : State.inner x10 := by unfold x10; exact (State.updMail_inner (fun _ h => { h with causes := mwf_mput _ _ h.causes }) k0)
      clear_value x9 x10
      exact (ite_p (fun _ => (mk_fst (clo_inner.drawn rfl  (State.respond_inner h11)))) (fun _ => (mk_fst (State.respond_inner h11))))
    ·
      refine ite_p (fun _ => (mk_fst (State.respond_inner k0))) (fun _ => ?_)
      extract_lets +onlyGivenNames -merge x12 x14
      have h13 : State.inner x12 := by unfold x12; exact (ite_p (fun _ => (State.committed_inner k0)) (fun _ => k0))
      clear_value x12 x14
      exact (ite_p (fun _ => (mk_fst (State.memSend_inner h13))) (fun _ => (State.memGo_inner h13)))
theorem State.requestLost_inner {v0} {v1} {v2} {v3} {v4} (k0 : State.inner v0) : State.inner (State.requestLost v0 v1 v2 v3 v4) := by
  unfold State.requestLost
  refine ite_p (fun _ => ?_) (fun _ => ?_)
  ·
    split
    ·
      rename_i y1 y2
      exact (State.updPlane_inner (fun _ h => { h with slots := mwf_mput _ _ h.slots }) k0)
    ·
      rename_i y3 y4
      exact (State.updPlane_inner (fun _ h => { h with slots := mwf_mput _ _ h.slots }) k0)
    ·
      rename_i y5 y6 y7
      exact k0
  ·
    refine ite_p (fun _ => ?_) (fun _ => ?_)
    ·
      extract_lets +onlyGivenNames -merge x8
      clear_value x8
      exact (ite_p (fun _ => (State.setTag_inner k0)) (fun _ => k0))
    ·
      refine ite_p (fun _ => (State.rawLost_inner k0)) (fun _ => ?_)
      refine ite_p (fun _ => (ite_p (fun _ => (State.dispatchAnswered_inner k0)) (fun _ => (ite_p (fun _ => (State.pumpPosts_inner (State.setPosts_inner k0))) (fun _ => k0))))) (fun _ => ?_)
      refine ite_p (fun _ => (State.homeAnswer_inner k0)) (fun _ => ?_)
      refine ite_p (fun _ => (State.updSec_inner k0)) (fun _ => ?_)
      refine ite_p (fun _ => ?_) (fun _ => k0)
      split
      ·
        rename_i y9 y10 y11
        exact (ite_p (fun _ => k0) (fun _ => (State.respond_inner k0)))
      ·
        rename_i y12 y13
        exact (ite_p (fun _ => (State.pumpPosts_inner (State.setPosts_inner k0))) (fun _ => k0))
theorem State.responseLimit_inner {v0} {v1} {v2} {v3} (k0 : State.inner v0) : State.inner (State.responseLimit v0 v1 v2 v3) := by
  unfold State.responseLimit
  split
  ·
    rename_i y1 y2
    exact k0
  ·
    rename_i y3 y4 y5
    refine ite_p (fun _ => k0) (fun _ => ?_)
    extract_lets +onlyGivenNames -merge x6
    have h7 : State.inner x6 := by unfold x6; exact (clo_inner.inc rfl (State.setOut_inner k0))
    clear_value x6
    exact (State.requestLost_inner h7)
theorem execResponseTimeLimit_inner {v0} {v1} {v2} {v3} (k3 : State.inner v3) : (OutP State.inner) (execResponseTimeLimit v0 v1 v2 v3) := by
  unfold execResponseTimeLimit
  exact (mk_next (State.responseLimit_inner k3))
theorem execExpiredTagRelease_inner {v0} {v1} {v2} {v3} (k3 : State.inner v3) : (OutP State.inner) (execExpiredTagRelease v0 v1 v2 v3) := by
  unfold execExpiredTagRelease
  refine mk_next ?_
  split
  ·
    rename_i y1 y2 y3
    exact (ite_p (fun _ => (State.setOut_inner k3)) (fun _ => k3))
  ·
    rename_i y4 y5
    exact k3
theorem State.commandLimit_inner {v0} {v1} (k0 : State.inner v0) : State.inner (State.commandLimit v0 v1) := by
  unfold State.commandLimit
  split
  ·
    rename_i y1 y2
    exact k0
  ·
    rename_i y3 y4 y5
    refine ite_p (fun _ => ?_) (fun _ => (ite_p (fun _ => (State.enumDeadline_inner k0)) (fun _ => (ite_p (fun _ => (State.respond_inner (State.each_inv (clo_inner.mono rfl) k0 (fun _ _ h7 => (State.updLink_inner (fun _ h => { h with }) h7))))) (fun _ => k0)))))
    extract_lets +onlyGivenNames -merge x8
    have h9 : State.inner x8 := by unfold x8; exact (State.updSched_inner (fun _ h => { h with }) k0)
    clear_value x8
    exact (State.respond_inner (ite_p (fun _ => (clo_inner.setF rfl h9)) (fun _ => h9)))
theorem execCommandTimeLimit_inner {v0} {v1} {v2} {v3} {v4} (k4 : State.inner v4) : (OutP State.inner) (execCommandTimeLimit v0 v1 v2 v3 v4) := by
  unfold execCommandTimeLimit
  exact (mk_next (State.commandLimit_inner k4))

/-! ### Foundation -/

theorem State.stopWork_inner {v0} (k0 : State.inner v0) : State.inner (State.stopWork v0) := by
  unfold State.stopWork
  extract_lets +onlyGivenNames -merge x1 x4 x7
  have h2 : State.inner x1 := by unfold x1; exact (State.each_inv (clo_inner.mono rfl) k0 (fun _ _ h3 => (State.abandonLoad_inner h3)))
  have h5 : State.inner x4 := by unfold x4; exact (State.each_inv (clo_inner.mono rfl) h2 (fun _ _ h6 => (State.abandonWindow_inner h6)))
  have h8 : State.inner x7 := by unfold x7; exact (State.each_inv (clo_inner.mono rfl) h5 (fun _ _ h9 => (State.cutSlice_inner h9)))
  clear_value x1 x4 x7
  exact (State.schedLoads_inner (State.each_inv (clo_inner.mono rfl) h8 (fun _ _ h10 => (State.stopEngine_inner h10))))
theorem State.resetAccepted_inner {v0} {v1} (k0 : State.inner v0) : State.inner (State.resetAccepted v0 v1) := by
  unfold State.resetAccepted
  extract_lets +onlyGivenNames -merge x1 x3 x5 x7
  have h2 : State.inner x1 := by unfold x1; exact (clo_inner.setF rfl k0)
  have h4 : State.inner x3 := by unfold x3; exact (clo_inner.wr rfl (clo_inner.setF rfl h2))
  have h6 : State.inner x5 := by unfold x5; exact (State.updBoot_inner h4)
  have h8 : State.inner x7 := by unfold x7; exact (ite_p (fun _ => h6) (fun _ => (State.failCommit_inner h6)))
  clear_value x1 x3 x5 x7
  exact (State.mowRefresh_inv (clo_inner.mono rfl) (State.stopWork_inner h8))
theorem State.endRow_inner {v0} {v1} {v2} {v3} (k0 : State.inner v0) : State.inner (State.endRow v0 v1 v2 v3) := by
  unfold State.endRow
  exact (ite_p (fun _ => (clo_inner.inc rfl (State.updPlane_inner (fun _ h => { h with }) (State.dropWrite_inner k0)))) (fun _ => (clo_inner.inc rfl (State.rowPoison_inner k0))))
theorem State.endRows_inner {v0} {v1} (k0 : State.inner v0) : State.inner (State.endRows v0 v1) := by
  unfold State.endRows
  extract_lets +onlyGivenNames -merge x1 x11
  have h2 : State.inner x1 := by
    unfold x1
    refine State.each_inv (clo_inner.mono rfl) k0 ?_
    intro a7 a8 h6
    extract_lets +onlyGivenNames -merge x9
    clear_value x9
    exact (State.each_inv (clo_inner.mono rfl) (State.updPlane_inner (fun _ h => { h with }) h6) (fun _ _ h10 => (State.endRow_inner h10)))
  clear_value x1 x11
  exact (State.each_inv (clo_inner.mono rfl) (State.updRoom_inner (fun _ h => { h with }) h2) (fun _ _ h12 => (clo_inner.inc (by split <;> rfl) h12)))
theorem State.logTokens_inner {v0} {v1} (k0 : State.inner v0) : State.inner (State.logTokens v0 v1) := by
  unfold State.logTokens
  refine ite_p (fun _ => k0) (fun _ => ?_)
  extract_lets +onlyGivenNames -merge x1 x2 x4
  have h3 : State.inner x2 := by unfold x2; exact (State.updSched_inner (fun _ h => { h with }) k0)
  have h5 : State.inner x4 := by unfold x4; exact (clo_inner.setF rfl h3)
  clear_value x1 x2 x4
  exact (State.each_inv (clo_inner.mono rfl) h5 (fun _ _ h6 => (State.scramble_inv (clo_inner.mono rfl) h6)))
theorem State.endPending_inner {v0} (k0 : State.inner v0) : State.inner (State.endPending v0) := by
  unfold State.endPending
  extract_lets +onlyGivenNames -merge x1 x4 x7 x20 x33 x35 x36 x38 x40 x43
  have h2 : State.inner x1 := by unfold x1; exact (State.each_inv (clo_inner.mono rfl) k0 (fun _ _ h3 => (State.endRows_inner h3)))
  have h5 : State.inner x4 := by unfold x4; exact (State.each_inv (clo_inner.mono rfl) h2 (fun _ _ h6 => (State.countLost_inv (clo_inner.mono rfl) h6)))
  have h8 : State.inner x7 := by
    unfold x7
    refine State.each_inv (clo_inner.mono rfl) h5 ?_
    intro a13 a14 h12
    split
    ·
      rename_i y15 y16 y17
      exact (State.countLost_inv (clo_inner.mono rfl) h12)
    ·
      rename_i y18 y19
      exact h12
  have h21 : State.inner x20 := by
    unfold x20
    refine State.each_inv (clo_inner.mono rfl) h8 ?_
    intro a26 a27 h25
    split
    ·
      rename_i y28 y29 y30
      exact (clo_inner.inc (by split <;> rfl) h25)
    ·
      rename_i y31 y32
      exact h25
  have h34 : State.inner x33 := by unfold x33; exact (State.logTokens_inner h21)
  have h37 : State.inner x36 := by unfold x36; exact (clo_inner.setF rfl h34)
  have h39 : State.inner x38 := by unfold x38; exact (inner_svc (fun _ => rfl) h37)
  have h41 : State.inner x40 := by unfold x40; exact (State.each_inv (clo_inner.mono rfl) h39 (fun _ _ h42 => (State.updBank_inner (fun _ h => { h with }) h42)))
  have h44 : State.inner x43 := by unfold x43; exact (State.updNet_inner (fun _ h => { h with bufs := rfl, send := rfl, books := rfl, arbs := rfl, arb := fun _ => Arb.inner.default }) h41)
  clear_value x1 x4 x7 x20 x33 x35 x36 x38 x40 x43
  exact (State.updCr_inner (fun _ h => { h with reqs := rfl, jobs := mwf_filter _ h.jobs }) h44)
theorem State.freezeUnits_inner {v0} (k0 : State.inner v0) : State.inner (State.freezeUnits v0) := by
  unfold State.freezeUnits
  extract_lets +onlyGivenNames -merge x1
  have h2 : State.inner x1 := by unfold x1; exact (State.each_inv (clo_inner.mono rfl) k0 (fun _ _ h3 => (ite_p (fun _ => (State.stopAtEdge_inner h3)) (fun _ => h3))))
  clear_value x1
  exact (State.each_inv (clo_inner.mono rfl) h2 (fun _ _ h4 => (State.retain_inner h4)))
theorem State.resetBlocks_inner {v0} (k0 : State.inner v0) : State.inner (State.resetBlocks v0) := by
  unfold State.resetBlocks
  extract_lets +onlyGivenNames -merge x1 x2 x4 x6
  have h3 : State.inner x2 := by unfold x2; exact (inner_latch (fun h => mwf_filter _ h) k0)
  have h5 : State.inner x4 := by unfold x4; exact (clo_inner.dropRegs rfl _ _ h3)
  have h7 : State.inner x6 := by unfold x6; exact (inner_staged (fun h => mwf_filter _ (mwf_filter _ h.staged)) h5)
  clear_value x1 x2 x4 x6
  exact (foldl_p (fun _ _ h8 => (clo_inner.setRaw rfl _ _ h8)) h7)
theorem State.resetSched_inner {v0} (k0 : State.inner v0) : State.inner (State.resetSched v0) := by
  unfold State.resetSched
  extract_lets +onlyGivenNames -merge x1 x2
  have h3 : State.inner x2 := by unfold x2; exact (State.updSched_inner (fun _ h => { h with pipes := rfl, pipe := fun _ => Pipe.inner.default, use := rfl, tokPkt := rfl, wantSwitch := rfl }) k0)
  clear_value x1 x2
  exact (State.each_inv (clo_inner.mono rfl) h3 (fun _ _ h4 => (State.respond_inner h4)))
theorem State.resetLink_inner {v0} {v1} (k0 : State.inner v0) : State.inner (State.resetLink v0 v1) := by
  unfold State.resetLink
  extract_lets +onlyGivenNames -merge x1 x3 x5
  have h2 : State.inner x1 := by unfold x1; exact (State.endLinkCmds_inner k0)
  have h4 : State.inner x3 := by unfold x3; exact (State.dropKeys_inner h2)
  have h6 : State.inner x5 := by unfold x5; exact (State.updLink_inner (fun _ _ => Link.inner.default) h4)
  clear_value x1 x3 x5
  exact (ite_p (fun _ => (clo_inner.setF rfl (clo_inner.setF rfl h6))) (fun _ => h6))
theorem State.holdFoundation_inner {v0} (k0 : State.inner v0) : State.inner (State.holdFoundation v0) := by
  unfold State.holdFoundation
  extract_lets +onlyGivenNames -merge x1 x4 x7 x8 x10
  have h2 : State.inner x1 := by unfold x1; exact (State.updNet_inner (fun _ h => { h with send := rfl }) (State.schedLoads_inner (State.each_inv (clo_inner.mono rfl) k0 (fun _ _ h3 => (State.edgeOver_inner h3)))))
  have h5 : State.inner x4 := by unfold x4; exact (State.each_inv (clo_inner.mono rfl) h2 (fun _ _ h6 => (State.updEng_inner (fun _ h => { h with tags := rfl }) (State.stopEngine_inner h6))))
  have h9 : State.inner x8 := by unfold x8; exact (State.resetBlocks_inner (State.resetSched_inner h5))
  have h11 : State.inner x10 := by unfold x10; exact (State.each_inv (clo_inner.mono rfl) h9 (fun _ _ h12 => (clo_inner.setF rfl h12)))
  clear_value x1 x4 x7 x8 x10
  exact (State.each_inv (clo_inner.mono rfl) h11 (fun _ _ h13 => (State.resetLink_inner h13)))
theorem State.endHandover_inner {v0} {v1} (k0 : State.inner v0) : State.inner (State.endHandover v0 v1) := by
  unfold State.endHandover
  split
  ·
    rename_i y1 y2
    exact (State.completeHandover_inner k0)
  ·
    rename_i y3 y4
    refine ite_p (fun _ => (State.completeHandover_inner k0)) (fun _ => ?_)
    refine ite_p (fun _ => k0) (fun _ => ?_)
    extract_lets +onlyGivenNames -merge x5
    have h6 : State.inner x5 := by unfold x5; exact (clo_inner.setF rfl (clo_inner.setF rfl (State.wipeBank_inner k0)))
    clear_value x5
    exact (State.completeHandover_inner h6)
  ·
    rename_i y7 y8
    refine ite_p (fun _ => (State.completeHandover_inner k0)) (fun _ => ?_)
    refine ite_p (fun _ => k0) (fun _ => ?_)
    extract_lets +onlyGivenNames -merge x9
    have h10 : State.inner x9 := by unfold x9; exact (clo_inner.setF rfl (clo_inner.setF rfl (State.wipeBank_inner k0)))
    clear_value x9
    exact (State.completeHandover_inner h10)
  ·
    rename_i y11 y12 y13 y14
    exact (State.sliceEnded_inner k0)
theorem State.repostTokens_inner {v0} (k0 : State.inner v0) : State.inner (State.repostTokens v0) := by
  unfold State.repostTokens
  extract_lets +onlyGivenNames -merge x1
  clear_value x1
  refine ite_p (fun _ => (State.booksFault_inner k0)) (fun _ => ?_)
  extract_lets +onlyGivenNames -merge x2
  have h3 : State.inner x2 := by unfold x2; exact (clo_inner.setF rfl (State.updSched_inner (fun _ h => { h with }) k0))
  clear_value x2
  refine State.each_inv (clo_inner.mono rfl) h3 ?_
  intro a7 a8 h6
  split
  ·
    rename_i y9 y10 y11 y12
    have q14 := congr_p (Q := (SndP State.inner)) y12 (by
        exact (State.handleRec_inner h6)
      )
    have h13 : State.inner y11 := q14
    exact (ite_p (fun _ => (State.sendTokens_inner h13)) (fun _ => h13))
theorem State.schedTasks_inner {v0} (k0 : State.inner v0) : State.inner (State.schedTasks v0) := by
  unfold State.schedTasks
  extract_lets +onlyGivenNames -merge x1
  have h2 : State.inner x1 := by unfold x1; exact (State.each_inv (clo_inner.mono rfl) k0 (fun _ _ h3 => (State.returnTask_inner h3)))
  clear_value x1
  exact (State.each_inv (clo_inner.mono rfl) h2 (fun _ _ h4 => (State.listFlow_inner h4)))
theorem State.schedSwitches_inner {v0} (k0 : State.inner v0) : State.inner (State.schedSwitches v0) := by
  unfold State.schedSwitches
  refine State.each_inv (clo_inner.mono rfl) k0 ?_
  intro a4 a5 h3
  extract_lets +onlyGivenNames -merge x6 x7
  clear_value x6 x7
  exact (ite_p (fun _ => h3) (fun _ => (State.wantPlane_inner h3)))
theorem State.settleRequests_inner {v0} (k0 : State.inner v0) : State.inner (State.settleRequests v0) := by
  unfold State.settleRequests
  extract_lets +onlyGivenNames -merge x1
  clear_value x1
  refine State.each_inv (clo_inner.mono rfl) (State.updNet_inner (fun _ h => { h with outReq := rfl }) k0) ?_
  intro a5 a6 h4
  split
  ·
    rename_i y7 y8
    exact h4
  ·
    rename_i y9 y10 y11
    extract_lets +onlyGivenNames -merge x12 x13
    clear_value x12 x13
    refine ite_p (fun _ => h4) (fun _ => ?_)
    refine ite_p (fun _ => ?_) (fun _ => (State.requestLost_inner h4))
    extract_lets +onlyGivenNames -merge x14
    clear_value x14
    exact (ite_p (fun _ => (State.request_inner h4)) (fun _ => h4))
theorem State.roomBack_inner {v0} {v1} (k0 : State.inner v0) : State.inner (State.roomBack v0 v1) := by
  unfold State.roomBack
  extract_lets +onlyGivenNames -merge x1
  clear_value x1
  refine ite_p (fun _ => k0) (fun _ => ?_)
  extract_lets +onlyGivenNames -merge x2 x4 x7 x9 x10
  have h3 : State.inner x2 := by unfold x2; exact (State.updRoom_inner (fun _ h => Room.mapPlanes_inner rfl (fun _ hp => { hp with }) h) k0)
  have h5 : State.inner x4 := by unfold x4; exact (State.each_inv (clo_inner.mono rfl) h3 (fun _ _ h6 => (State.updPlane_inner (fun _ h => { h with }) h6)))
  have h8 : State.inner x7 := by unfold x7; exact (clo_inner.setF rfl h5)
  clear_value x2 x4 x7 x9 x10
  exact (ite_p (fun _ => (State.setDivisor_inv (clo_inner.mono rfl) (clo_inner.setF rfl h8))) (fun _ => h8))
theorem State.restartUnits_inner {v0} (k0 : State.inner v0) : State.inner (State.restartUnits v0) := by
  unfold State.restartUnits
  extract_lets +onlyGivenNames -merge x1 x2 x12 x15
  have h3 : State.inner x2 := by
    unfold x2
    refine State.each_inv (clo_inner.mono rfl) k0 ?_
    intro a8 a9 h7
    extract_lets +onlyGivenNames -merge x10
    have h11 : State.inner x10 := by unfold x10; exact (clo_inner.setF rfl h7)
    clear_value x10
    exact (ite_p (fun _ => (clo_inner.setF rfl h11)) (fun _ => h11))
  have h13 : State.inner x12 := by unfold x12; exact (State.each_inv (clo_inner.mono rfl) h3 (fun _ _ h14 => (ite_p (fun _ => (State.bringUp_inner h14)) (fun _ => (ite_p (fun _ => (State.setLinkState_inv (clo_inner.mono rfl) h14)) (fun _ => h14))))))
  have h16 : State.inner x15 := by unfold x15; exact (ite_p (fun _ => h13) (fun _ => (State.each_inv (clo_inner.mono rfl) h13 (fun _ _ h17 => (ite_p (fun _ => (State.askWake_inner h17)) (fun _ => h17))))))
  clear_value x1 x2 x12 x15
  exact (State.crWakeAll_inner (State.reShed_inner (State.mowRefresh_inv (clo_inner.mono rfl) h16)))
theorem State.resumeFinish_inner {v0} (k0 : State.inner v0) : State.inner (State.resumeFinish v0) := by
  unfold State.resumeFinish
  extract_lets +onlyGivenNames -merge x1 x2 x4 x6 x9 x11 x13
  have h3 : State.inner x2 := by unfold x2; exact (State.updBoot_inner k0)
  have h5 : State.inner x4 := by unfold x4; exact (State.schedRestored_inv (clo_inner.mono rfl) (State.fromImage_inv (clo_inner.mono rfl) h3))
  have h7 : State.inner x6 := by unfold x6; exact (State.each_inv (clo_inner.mono rfl) h5 (fun _ _ h8 => (State.endHandover_inner h8)))
  have h10 : State.inner x9 := by unfold x9; exact (State.repostTokens_inner h7)
  have h12 : State.inner x11 := by unfold x11; exact (State.schedSwitches_inner (State.settleRequests_inner (State.schedTasks_inner h10)))
  have h14 : State.inner x13 := by unfold x13; exact (clo_inner.setF rfl h12)
  clear_value x1 x2 x4 x6 x9 x11 x13
  refine ite_p (fun _ => (State.respondTo_inner h14)) (fun _ => ?_)
  split
  ·
    rename_i y15 y16 y17 y18
    have q20 := congr_p (Q := (SndP State.inner)) y18 (by
        exact (State.runAudit_inner h14)
      )
    have h19 : State.inner y17 := q20
    refine ite_p (fun _ => (State.respondTo_inner h19)) (fun _ => ?_)
    extract_lets +onlyGivenNames -merge x21
    have h22 : State.inner x21 := by unfold x21; exact (clo_inner.setF rfl (clo_inner.setF rfl h19))
    clear_value x21
    exact (State.respondTo_inner (State.restartUnits_inner (State.each_inv (clo_inner.mono rfl) h22 (fun _ _ h23 => (State.roomBack_inner h23)))))
theorem State.resumeStart_inner {v0} {v1} (k0 : State.inner v0) : State.inner (State.resumeStart v0 v1) := by
  unfold State.resumeStart
  extract_lets +onlyGivenNames -merge x1 x3 x4
  have h2 : State.inner x1 := by unfold x1; exact (State.updBoot_inner k0)
  have h5 : State.inner x4 := by unfold x4; exact (State.each_inv (clo_inner.mono rfl) h2 (fun _ _ h6 => (ite_p (fun _ => h6) (fun _ => (ite_p (fun _ => (clo_inner.setF rfl h6)) (fun _ => (State.askWake_inner h6)))))))
  clear_value x1 x3 x4
  exact (ite_p (fun _ => (State.resumeFinish_inner h5)) (fun _ => h5))
theorem State.wakeComplete_inner {v0} {v1} (k0 : State.inner v0) : State.inner (State.wakeComplete v0 v1) := by
  unfold State.wakeComplete
  refine ite_p (fun _ => k0) (fun _ => ?_)
  extract_lets +onlyGivenNames -merge x1 x3 x4 x7
  have h2 : State.inner x1 := by unfold x1; exact (clo_inner.setF rfl (clo_inner.setF rfl k0))
  have h5 : State.inner x4 := by unfold x4; exact (State.each_inv (clo_inner.mono rfl) (State.updBank_inner (fun _ h => { h with }) h2) (fun _ _ h6 => (State.respond_inner h6)))
  have h8 : State.inner x7 := by unfold x7; exact (State.drainCheck_inner h5)
  clear_value x1 x3 x4 x7
  exact (ite_p (fun _ => (State.resumeFinish_inner h8)) (fun _ => h8))
theorem execFoundationReset_inner {v0} {v1} (k1 : State.inner v1) : (OutP State.inner) (execFoundationReset v0 v1) := by
  unfold execFoundationReset
  exact (mk_next (State.submit_inner k1 (fun _ h1 => (State.resetAccepted_inner h1))))
theorem execFoundationResetPendingEnd_inner {v0} (k0 : State.inner v0) : (OutP State.inner) (execFoundationResetPendingEnd v0) := by
  unfold execFoundationResetPendingEnd
  exact (mk_next (ite_p (fun _ => (State.updBoot_inner (State.endPending_inner k0))) (fun _ => k0)))
theorem execFoundationResetFreeze_inner {v0} (k0 : State.inner v0) : (OutP State.inner) (execFoundationResetFreeze v0) := by
  unfold execFoundationResetFreeze
  exact (mk_next (ite_p (fun _ => (State.updBoot_inner (State.freezeUnits_inner k0))) (fun _ => k0)))
theorem execFoundationResetHold_inner {v0} (k0 : State.inner v0) : (OutP State.inner) (execFoundationResetHold v0) := by
  unfold execFoundationResetHold
  exact (mk_next (ite_p (fun _ => (State.updBoot_inner (State.holdFoundation_inner k0))) (fun _ => k0)))
theorem execFoundationResetRelease_inner {v0} (k0 : State.inner v0) : (OutP State.inner) (execFoundationResetRelease v0) := by
  unfold execFoundationResetRelease
  refine mk_next ?_
  refine ite_p (fun _ => ?_) (fun _ => k0)
  extract_lets +onlyGivenNames -merge x1
  clear_value x1
  exact (State.respondTo_inner (State.updBoot_inner k0))
theorem execResume_inner {v0} {v1} (k1 : State.inner v1) : (OutP State.inner) (execResume v0 v1) := by
  unfold execResume
  exact (mk_next (State.submit_inner k1 (fun _ h1 => (State.checks_inner h1 (fun _ h2 => (State.resumeStart_inner h2))))))
theorem execStackReset_inner {v0} {v1} (k1 : State.inner v1) : (OutP State.inner) (execStackReset v0 v1) := by
  unfold execStackReset
  exact (mk_next (State.submit_inner k1 (fun _ h1 => (State.reply_inner (State.updBoot_inner h1)))))
theorem execDelayedStackReset_inner {v0} (k0 : State.inner v0) : (OutP State.inner) (execDelayedStackReset v0) := by
  unfold execDelayedStackReset
  refine mk_next ?_
  split
  ·
    rename_i y1 y2 y3
    exact (State.restart_inner k0)
  ·
    rename_i y4 y5
    exact k0

end Sys2Proof.Machine

/-!
SUPPORT. What each operation of Laws/InvMail leaves of the tables inside the units: one lemma per definition.
-/
namespace Sys2Proof.Machine


/-! ### SelfTest -/

theorem State.fallowNow_inner {v0} (k0 : State.inner v0) : State.inner (State.fallowNow v0) := by
  unfold State.fallowNow
  extract_lets +onlyGivenNames -merge x1 x2 x3
  have h4 : State.inner x3 := by unfold x3; exact (State.updBoot_inner (State.markFallow_inner k0))
  clear_value x1 x2 x3
  exact (ite_p (fun _ => (State.enterSafe_inner h4)) (fun _ => h4))
theorem execSelftestRun_inner {v0} {v1} {v2} {v3} {v4} (k4 : State.inner v4) : (OutP State.inner) (execSelftestRun v0 v1 v2 v3 v4) := by
  unfold execSelftestRun
  refine mk_next ?_
  refine State.submit_inner k4 ?_
  intro a10 h9
  refine State.checks_inner h9 ?_
  intro a14 h13
  extract_lets +onlyGivenNames -merge x15 x16
  have h17 : State.inner x16 := by unfold x16; exact (State.fallowNow_inner (State.each_inv (clo_inner.mono rfl) h13 (fun _ _ h18 => (State.testFailure_inner h18))))
  clear_value x15 x16
  exact (State.replyData_inner h17)
theorem execSelftestResult_inner {v0} {v1} (k1 : State.inner v1) : (OutP State.inner) (execSelftestResult v0 v1) := by
  unfold execSelftestResult
  refine mk_next ?_
  refine State.submit_inner k1 ?_
  intro a6 h5
  extract_lets +onlyGivenNames -merge x7
  clear_value x7
  exact (State.replyData_inner (State.popRecords_inner h5))
theorem State.sliceStart_inner {v0} {v1} (k0 : State.inner v0) : State.inner (State.sliceStart v0 v1) := by
  unfold State.sliceStart
  extract_lets +onlyGivenNames -merge x1
  clear_value x1
  refine ite_p (fun _ => k0) (fun _ => ?_)
  split
  ·
    rename_i y2 y3
    exact k0
  ·
    rename_i y4 y5 y6
    extract_lets +onlyGivenNames -merge x7 x9
    have h8 : State.inner x7 := by unfold x7; exact (State.updStair_inner k0)
    clear_value x7 x9
    exact (clo_inner.setF rfl (clo_inner.setF rfl h8))
theorem State.setSlice_inner {v0} {v1} {v2} (k0 : State.inner v0) : State.inner (State.setSlice v0 v1 v2) := by
  unfold State.setSlice
  exact (State.updStair_inner k0)
theorem State.carryRows_inner {v0} {v1} {v2} (k0 : State.inner v0) : State.inner (State.carryRows v0 v1 v2) := by
  unfold State.carryRows
  exact (State.each_inv (clo_inner.mono rfl) k0 (fun _ _ h1 => (State.carry_inner h1)))
theorem State.sliceSaved_inner {v0} {v1} {v2} (k0 : State.inner v0) : State.inner (State.sliceSaved v0 v1 v2) := by
  unfold State.sliceSaved
  refine State.inSlice_inv (clo_inner.mono rfl) k0 ?_
  intro a1
  extract_lets +onlyGivenNames -merge x2
  have h3 : State.inner x2 := by
    unfold x2
    refine State.each_inv (clo_inner.mono rfl) k0 ?_
    intro a8 a9 h7
    extract_lets +onlyGivenNames -merge x10 x11
    clear_value x10 x11
    split
    ·
      rename_i y12 y13 y14 y15 y16
      have q18 := congr_p (Q := (SndP (SndP State.inner))) y16 (by
          exact (State.rowRead_inner h7)
        )
      have h17 : State.inner y15 := q18
      extract_lets +onlyGivenNames -merge x19
      clear_value x19
      exact (State.each_inv (clo_inner.mono rfl) (State.putBytes_inv (clo_inner.mono rfl) h17) (fun _ _ h20 => (clo_inner.setSyn rfl _ _ h20)))
  clear_value x2
  exact (State.carryRows_inner (State.setSlice_inner h3))
theorem State.sliceFailure_inner {v0} {v1} {v2} (k0 : State.inner v0) : State.inner (State.sliceFailure v0 v1 v2) := by
  unfold State.sliceFailure
  split
  ·
    rename_i y1 y2
    exact k0
  ·
    rename_i y3 y4 y5
    split
    ·
      rename_i y6 y7 y8
      exact (State.setSlice_inner (State.recordTest_inner (State.assignSpare_inner k0)))
    ·
      rename_i y9 y10
      exact (State.setSlice_inner (State.recordTest_inner k0))
theorem State.sliceMarched_inner {v0} {v1} {v2} (k0 : State.inner v0) : State.inner (State.sliceMarched v0 v1 v2) := by
  unfold State.sliceMarched
  exact (State.inSlice_inv (clo_inner.mono rfl) k0 (fun _ => (State.each_inv (clo_inner.mono rfl) (State.setSlice_inner k0) (fun _ _ h1 => (State.sliceFailure_inner h1)))))
theorem State.restoreHits_inner {v0} {v1} {v2} (k0 : State.inner v0) : State.inner (State.restoreHits v0 v1 v2) := by
  unfold State.restoreHits
  refine State.each_inv (clo_inner.mono rfl) k0 ?_
  intro a4 a5 h3
  extract_lets +onlyGivenNames -merge x6 x7
  clear_value x6 x7
  exact (ite_p (fun _ => (State.scramble_inv (clo_inner.mono rfl) (State.dropWrite_inner h3))) (fun _ => (State.each_inv (clo_inner.mono rfl) h3 (fun _ _ h8 => (State.storePoison_inv (clo_inner.mono rfl) h8)))))
theorem State.sliceRestored_inner {v0} {v1} {v2} (k0 : State.inner v0) : State.inner (State.sliceRestored v0 v1 v2) := by
  unfold State.sliceRestored
  refine State.inSlice_inv (clo_inner.mono rfl) k0 ?_
  intro a1
  extract_lets +onlyGivenNames -merge x2 x3 x5 x6 x8
  have h4 : State.inner x3 := by unfold x3; exact (State.updStair_inner (State.carryRows_inner (State.restoreHits_inner (State.endSlice_inner k0))))
  have h7 : State.inner x6 := by unfold x6; exact (clo_inner.setF rfl h4)
  have h9 : State.inner x8 := by unfold x8; exact (State.sliceEnded_inner h7)
  clear_value x2 x3 x5 x6 x8
  exact (ite_p (fun _ => h9) (fun _ => (State.enterSafe_inner h9)))
theorem execBackgroundSlice_inner {v0} {v1} (k1 : State.inner v1) : (OutP State.inner) (execBackgroundSlice v0 v1) := by
  unfold execBackgroundSlice
  exact (mk_next (State.sliceStart_inner k1))
theorem execSliceSaveDone_inner {v0} {v1} (k1 : State.inner v1) : (OutP State.inner) (execSliceSaveDone v0 v1) := by
  unfold execSliceSaveDone
  exact (mk_next (State.sliceSaved_inner k1))
theorem execSliceMarchDone_inner {v0} {v1} {v2} (k2 : State.inner v2) : (OutP State.inner) (execSliceMarchDone v0 v1 v2) := by
  unfold execSliceMarchDone
  exact (mk_next (State.sliceMarched_inner k2))
theorem execSliceRestoreDone_inner {v0} {v1} (k1 : State.inner v1) : (OutP State.inner) (execSliceRestoreDone v0 v1) := by
  unfold execSliceRestoreDone
  exact (mk_next (State.sliceRestored_inner k1))
theorem execSliceBudgetExpiry_inner {v0} {v1} (k1 : State.inner v1) : (OutP State.inner) (execSliceBudgetExpiry v0 v1) := by
  unfold execSliceBudgetExpiry
  exact (mk_next (State.abandonMarch_inner k1))

/-! ### Profile -/

theorem State.settingWrite_inner {v0} {v1} {v2} (k0 : State.inner v0) : State.inner (State.settingWrite v0 v1 v2) := by
  unfold State.settingWrite
  split
  ·
    rename_i y1 y2 y3 y4
    exact (ite_p (fun _ => k0) (fun _ => (State.plainWrite_inner k0)))
  ·
    rename_i y5 y6
    exact k0
theorem State.settingGates_inner {v0} {v1} {v2} (k0 : State.inner v0) : State.inner (State.settingGates v0 v1 v2) := by
  unfold State.settingGates
  exact (State.each_inv (clo_inner.mono rfl) k0 (fun _ _ h1 => (ite_p (fun _ => (State.dropped_inv (clo_inner.mono rfl) h1)) (fun _ => (ite_p (fun _ => (State.gateOpened_inner (snd_p (State.gateAsk_inner h1)))) (fun _ => (snd_p (State.gateAsk_inner h1))))))))
theorem State.applySetting_inner {v0} {v1} {v2} (k0 : State.inner v0) : State.inner (State.applySetting v0 v1 v2) := by
  unfold State.applySetting
  split
  ·
    rename_i y1 y2 y3
    exact (State.settingOwner_inv (clo_inner.mono rfl) k0)
  ·
    rename_i y4 y5 y6
    exact (State.settingGates_inner k0)
  ·
    rename_i y7 y8 y9
    exact (State.settingGates_inner k0)
  ·
    rename_i y10 y11 y12
    exact (State.settingGates_inner k0)
  ·
    rename_i y13 y14 y15
    exact (State.settingGates_inner k0)
  ·
    rename_i y16 y17 y18 y19 y20 y21
    exact (State.settingWrite_inner k0)
theorem State.journalSettings_inner {v0} (k0 : State.inner v0) : State.inner (State.journalSettings v0) := by
  unfold State.journalSettings
  refine State.each_inv (clo_inner.mono rfl) k0 ?_
  intro a4 a5 h3
  extract_lets +onlyGivenNames -merge x6 x7
  clear_value x6 x7
  exact (State.applySetting_inner h3)
theorem State.dropWorkers_inner {v0} (k0 : State.inner v0) : State.inner (State.dropWorkers v0) := by
  unfold State.dropWorkers
  extract_lets +onlyGivenNames -merge x1 x13
  have h2 : ∀ a0 a1 a2, State.inner a0 → State.inner (x1 a0 a1 a2) := by
    intro a4 a5 a6 h3
    unfold x1
    split
    ·
      rename_i y7 y8
      exact h3
    ·
      rename_i y9 y10 y11
      extract_lets +onlyGivenNames -merge x12
      clear_value x12
      exact (ite_p (fun _ => h3) (fun _ => (State.stage_inner (State.dropped_inv (clo_inner.mono rfl) h3))))
  have h14 : State.inner x13 := by unfold x13; exact (State.each_inv (clo_inner.mono rfl) k0 (fun _ _ h15 => (h2 _ _ _ h15)))
  clear_value x1 x13
  exact (State.each_inv (clo_inner.mono rfl) h14 (fun _ _ h16 => (h2 _ _ _ h16)))
theorem State.dropLocations_inner {v0} (k0 : State.inner v0) : State.inner (State.dropLocations v0) := by
  unfold State.dropLocations
  refine State.each_inv (clo_inner.mono rfl) k0 ?_
  intro a4 a5 h3
  split
  ·
    rename_i y6 y7 y8 y9 y10 y11
    extract_lets +onlyGivenNames -merge x12
    clear_value x12
    exact (ite_p (fun _ => (State.stage_inner (State.dropped_inv (clo_inner.mono rfl) h3))) (fun _ => h3))
  ·
    rename_i y13 y14 y15
    exact h3
theorem State.profileWrite_inner {v0} {v1} (k0 : State.inner v0) : State.inner (State.profileWrite v0 v1) := by
  unfold State.profileWrite
  exact (ite_p (fun _ => (clo_inner.wr rfl k0)) (fun _ => (State.applySetting_inner k0)))
theorem State.stageProfile_inner {v0} {v1} (k0 : State.inner v0) : State.inner (State.stageProfile v0 v1) := by
  unfold State.stageProfile
  extract_lets +onlyGivenNames -merge x1 x4
  have h2 : State.inner x1 := by unfold x1; exact (State.each_inv (clo_inner.mono rfl) k0 (fun _ _ h3 => (State.profileWrite_inner h3)))
  have h5 : State.inner x4 := by unfold x4; exact (State.dropLocations_inner (State.dropWorkers_inner (State.journalSettings_inner h2)))
  clear_value x1 x4
  exact (State.each_inv (clo_inner.mono rfl) h5 (fun _ _ h6 => (State.settingOwner_inv (clo_inner.mono rfl) h6)))
theorem State.profileGates_inner {v0} {v1} (k0 : State.inner v0) : State.inner (State.profileGates v0 v1) := by
  unfold State.profileGates
  exact (State.each_inv (clo_inner.mono rfl) k0 (fun _ _ h1 => (ite_p (fun _ => (State.dropped_inv (clo_inner.mono rfl) h1)) (fun _ => (State.gateOpened_inner (snd_p (State.gateAsk_inner h1)))))))
theorem State.profileStores_inner {v0} {v1} (k0 : State.inner v0) : State.inner (State.profileStores v0 v1) := by
  unfold State.profileStores
  exact (State.each_inv (clo_inner.mono rfl) k0 (fun _ _ h1 => (ite_p (fun _ => h1) (fun _ => (State.postSpan_inner h1)))))
theorem State.startLoads_inner {v0} {v1} (k0 : State.inner v0) : State.inner (State.startLoads v0 v1) := by
  unfold State.startLoads
  exact (State.each_inv (clo_inner.mono rfl) k0 (fun _ _ h1 => (snd_p (State.askLoad_inner h1))))
theorem State.startWaiting_inner {v0} (k0 : State.inner v0) : State.inner (State.startWaiting v0) := by
  unfold State.startWaiting
  refine ite_p (fun _ => k0) (fun _ => ?_)
  extract_lets +onlyGivenNames -merge x1
  clear_value x1
  exact (State.startLoads_inner (State.updBoot_inner k0))
theorem State.storesThenLoads_inner {v0} {v1} (k0 : State.inner v0) : State.inner (State.storesThenLoads v0 v1) := by
  unfold State.storesThenLoads
  extract_lets +onlyGivenNames -merge x1
  clear_value x1
  exact (State.startWaiting_inner (State.updBoot_inner (State.profileStores_inner k0)))
theorem State.rejectProfile_inner {v0} {v1} {v2} (k0 : State.inner v0) : State.inner (State.rejectProfile v0 v1 v2) := by
  unfold State.rejectProfile
  extract_lets +onlyGivenNames -merge x1
  have h2 : State.inner x1 := by unfold x1; exact (State.updBoot_inner k0)
  clear_value x1
  exact (State.event_inner (clo_inner.setF rfl h2))
theorem State.applyProfile_inner {v0} {v1} (k0 : State.inner v0) : State.inner (State.applyProfile v0 v1) := by
  unfold State.applyProfile
  extract_lets +onlyGivenNames -merge x1
  clear_value x1
  refine ite_p (fun _ => k0) (fun _ => ?_)
  extract_lets +onlyGivenNames -merge x2 x3 x4
  clear_value x2 x3 x4
  refine ite_p (fun _ => (State.rejectProfile_inner k0)) (fun _ => ?_)
  refine ite_p (fun _ => (State.rejectProfile_inner k0)) (fun _ => ?_)
  extract_lets +onlyGivenNames -merge x5
  have h6 : State.inner x5 := by unfold x5; exact (State.stageProfile_inner (clo_inner.setF rfl k0))
  clear_value x5
  refine ite_p (fun _ => (State.rejectProfile_inner (clo_inner.setF rfl k0))) (fun _ => ?_)
  extract_lets +onlyGivenNames -merge x7 x9
  have h8 : State.inner x7 := by unfold x7; exact (State.storesThenLoads_inner (State.profileGates_inner (clo_inner.setF rfl h6)))
  have h10 : State.inner x9 := by unfold x9; exact (State.updBoot_inner h8)
  clear_value x7 x9
  exact (State.commitBegin_inner (State.writeImage_inner h10))
theorem execProfile_inner {v0} {v1} (k1 : State.inner v1) : (OutP State.inner) (execProfile v0 v1) := by
  unfold execProfile
  exact (mk_next (State.applyProfile_inner k1))
theorem State.epochFreeze_inner {v0} (k0 : State.inner v0) : State.inner (State.epochFreeze v0) := by
  unfold State.epochFreeze
  split
  ·
    rename_i y1 y2 y3
    exact (ite_p (fun _ => (ite_p (fun _ => k0) (fun _ => (State.commitFreeze_inner (ite_p (fun _ => (State.setStep_inner k0)) (fun _ => k0)))))) (fun _ => (State.commitFreeze_inner k0)))
  ·
    rename_i y4 y5
    exact k0
theorem execCommitFreeze_inner {v0} (k0 : State.inner v0) : (OutP State.inner) (execCommitFreeze v0) := by
  unfold execCommitFreeze
  exact (mk_next (State.epochFreeze_inner k0))

/-! ### Recovery -/

theorem State.wakeAll_inner {v0} (k0 : State.inner v0) : State.inner (State.wakeAll v0) := by
  unfold State.wakeAll
  extract_lets +onlyGivenNames -merge x1
  clear_value x1
  refine State.each_inv (clo_inner.mono rfl) k0 ?_
  intro a5 a6 h4
  refine ite_p (fun _ => h4) (fun _ => ?_)
  refine ite_p (fun _ => (clo_inner.setF rfl h4)) (fun _ => ?_)
  extract_lets +onlyGivenNames -merge x7 x9
  have h8 : State.inner x7 := by unfold x7; exact (State.updBank_inner (fun _ h => { h with }) (clo_inner.setF rfl (clo_inner.setF rfl h4)))
  clear_value x7 x9
  exact (State.each_inv (clo_inner.mono rfl) (State.updBank_inner (fun _ h => { h with }) h8) (fun _ _ h10 => (State.respond_inner h10)))
theorem State.askWakes_inner {v0} (k0 : State.inner v0) : State.inner (State.askWakes v0) := by
  unfold State.askWakes
  extract_lets +onlyGivenNames -merge x1
  clear_value x1
  exact (State.each_inv (clo_inner.mono rfl) k0 (fun _ _ h2 => (ite_p (fun _ => h2) (fun _ => (ite_p (fun _ => (clo_inner.setF rfl h2)) (fun _ => (State.askWake_inner h2)))))))
theorem State.fieldFuses_inner {v0} (k0 : State.inner v0) : State.inner (State.fieldFuses v0) := by
  unfold State.fieldFuses
  extract_lets +onlyGivenNames -merge x1 x2
  have h3 : State.inner x2 := by unfold x2; exact (State.each_inv (clo_inner.mono rfl) k0 (fun _ _ h4 => (State.updFuses_inner (fun _ h => { h with }) (State.setSpare_inner h4))))
  clear_value x1 x2
  exact (ite_p (fun _ => h3) (fun _ => (State.journalBatch_inner h3)))
theorem State.restoreUnit_inner {v0} {v1} (k0 : State.inner v0) : State.inner (State.restoreUnit v0 v1) := by
  unfold State.restoreUnit
  extract_lets +onlyGivenNames -merge x1 x3
  have h2 : State.inner x1 := by unfold x1; exact (State.updBoot_inner k0)
  have h4 : State.inner x3 := by unfold x3; exact (State.journalBatch_inner h2)
  clear_value x1 x3
  split
  ·
    rename_i y5 y6
    exact (clo_inner.setF rfl (clo_inner.setF rfl (clo_inner.setF rfl h4)))
  ·
    rename_i y7 y8
    extract_lets +onlyGivenNames -merge x9
    have h10 : State.inner x9 := by unfold x9; exact (clo_inner.setF rfl (clo_inner.setF rfl h4))
    clear_value x9
    exact (State.setDivisor_inv (clo_inner.mono rfl) (State.each_inv (clo_inner.mono rfl) h10 (fun _ _ h11 => (State.emptyPlane_inv (clo_inner.mono rfl) h11))))
  ·
    rename_i y12 y13
    exact (clo_inner.setF rfl (State.updStair_inner h4))
  ·
    rename_i y14 y15
    exact (clo_inner.setF rfl h4)
  ·
    rename_i y16 y17 y18 y19 y20
    exact h4
theorem State.recoveryTest_inner {v0} {v1} {v2} (k0 : State.inner v0) : State.inner (State.recoveryTest v0 v1 v2) := by
  unfold State.recoveryTest
  extract_lets +onlyGivenNames -merge x1 x2
  have h3 : State.inner x2 := by unfold x2; exact (State.each_inv (clo_inner.mono rfl) k0 (fun _ _ h4 => (State.testFailure_inner h4)))
  clear_value x1 x2
  refine ite_p (fun _ => h3) (fun _ => ?_)
  extract_lets +onlyGivenNames -merge x5
  clear_value x5
  exact (State.each_inv (clo_inner.mono rfl) h3 (fun _ _ h6 => (State.restoreUnit_inner h6)))
theorem State.recoveryWipes_inner {v0} (k0 : State.inner v0) : State.inner (State.recoveryWipes v0) := by
  unfold State.recoveryWipes
  extract_lets +onlyGivenNames -merge x1 x2 x3 x4 x6 x8
  have h5 : State.inner x4 := by unfold x4; exact (ite_p (fun _ => (State.wipeRooms_inv (clo_inner.mono rfl) k0)) (fun _ => k0))
  have h7 : State.inner x6 := by unfold x6; exact (ite_p (fun _ => (State.wipeLanding_inv (clo_inner.mono rfl) h5)) (fun _ => h5))
  have h9 : State.inner x8 := by unfold x8; exact (ite_p (fun _ => (State.each_inv (clo_inner.mono rfl) h7 (fun _ _ h10 => (ite_p (fun _ => h10) (fun _ => (clo_inner.wipe rfl _ _ h10)))))) (fun _ => h7))
  clear_value x4 x6 x8
  exact (ite_p (fun _ => (State.each_inv (clo_inner.mono rfl) h9 (fun _ _ h11 => (ite_p (fun _ => h11) (fun _ => (State.trackOff_inner (State.updRoom_inner (fun _ _ => { Room.inner.default with }) (clo_inner.setF rfl (State.each_inv (clo_inner.mono rfl) h11 (fun _ _ h12 => (State.emptyPlane_inv (clo_inner.mono rfl) h12))))))))))) (fun _ => h9))
theorem State.recoverySettings_inner {v0} (k0 : State.inner v0) : State.inner (State.recoverySettings v0) := by
  unfold State.recoverySettings
  refine ite_p (fun _ => (State.fromImage_inv (clo_inner.mono rfl) k0)) (fun _ => ?_)
  extract_lets +onlyGivenNames -merge x1 x2 x3 x5 x7 x9 x10 x12
  have h4 : State.inner x3 := by unfold x3; exact (State.updJ_inner (fun _ h => ⟨mwf_filter _ h.settings⟩) k0)
  have h6 : State.inner x5 := by unfold x5; exact (inner_staged (fun _ => rfl) h4)
  have h8 : State.inner x7 := by unfold x7; exact (State.stageProfile_inner h6)
  have h11 : State.inner x10 := by unfold x10; exact (State.updJ_inner (fun _ _ => k0.journal) h8)
  have h13 : State.inner x12 := by unfold x12; exact (State.takeSet_inv (clo_inner.mono rfl) (inner_staged (fun _ => k0.staged) h11))
  clear_value x1 x2 x3 x5 x7 x9 x10 x12
  exact (State.profileStores_inner h13)
theorem State.recoverStart_inner {v0} (k0 : State.inner v0) : State.inner (State.recoverStart v0) := by
  unfold State.recoverStart
  extract_lets +onlyGivenNames -merge x1 x3 x5 x9 x10 x20 x22 x24
  have h2 : State.inner x1 := by unfold x1; exact (State.clearBooksFault_inv (clo_inner.mono rfl) (State.fieldFuses_inner (State.readJournal_inner k0)))
  have h4 : State.inner x3 := by unfold x3; exact (State.settleRequests_inner h2)
  have h6 : State.inner x5 := by unfold x5; exact (State.each_inv (clo_inner.mono rfl) h4 (fun _ _ h7 => (ite_p (fun _ => h7) (fun _ => (State.trackOff_inner (clo_inner.setF rfl (clo_inner.setF rfl (State.each_inv (clo_inner.mono rfl) h7 (fun _ _ h8 => (State.emptyPlane_inv (clo_inner.mono rfl) h8))))))))))
  have h11 : State.inner x10 := by
    unfold x10
    refine State.each_inv (clo_inner.mono rfl) h6 ?_
    intro a16 a17 h15
    extract_lets +onlyGivenNames -merge x18
    have h19 : State.inner x18 := by unfold x18; exact (clo_inner.setF rfl h15)
    clear_value x18
    exact (ite_p (fun _ => (clo_inner.setF rfl h19)) (fun _ => h19))
  have h21 : State.inner x20 := by unfold x20; exact (clo_inner.setF rfl h11)
  have h23 : State.inner x22 := by unfold x22; exact (clo_inner.setF rfl (clo_inner.setF rfl h21))
  have h25 : State.inner x24 := by unfold x24; exact (State.updBoot_inner h23)
  clear_value x1 x3 x5 x9 x10 x20 x22 x24
  exact (State.beginTests_inner (State.setStep_inner (State.leaveStep6_inv (clo_inner.mono rfl) h25)))
theorem State.recoverRooms_inner {v0} (k0 : State.inner v0) : State.inner (State.recoverRooms v0) := by
  unfold State.recoverRooms
  extract_lets +onlyGivenNames -merge x1 x2
  have h3 : State.inner x2 := by unfold x2; exact (State.each_inv (clo_inner.mono rfl) (State.settleRequests_inner k0) (fun _ _ h4 => (State.roomBack_inner h4)))
  clear_value x1 x2
  exact (ite_p (fun _ => (State.startLoads_inner h3)) (fun _ => h3))
theorem State.recoverOn_inner {v0} (k0 : State.inner v0) : State.inner (State.recoverOn v0) := by
  unfold State.recoverOn
  split
  ·
    rename_i y1 y2
    exact k0
  ·
    rename_i y3 y4 y5 y6
    extract_lets +onlyGivenNames -merge x7 x8
    have h9 : State.inner x8 := by unfold x8; exact (State.updBoot_inner k0)
    clear_value x7 x8
    refine ite_p (fun _ => (State.respondTo_inner h9)) (fun _ => ?_)
    refine ite_p (fun _ => (State.respondTo_inner (State.recoverStart_inner h9))) (fun _ => ?_)
    extract_lets +onlyGivenNames -merge x10 x13 x15
    have h11 : State.inner x10 := by unfold x10; exact (State.each_inv (clo_inner.mono rfl) h9 (fun _ _ h12 => (ite_p (fun _ => h12) (fun _ => (State.remap_inner h12)))))
    have h14 : State.inner x13 := by unfold x13; exact (State.recoveryTest_inner (State.fieldFuses_inner h11))
    have h16 : State.inner x15 := by unfold x15; exact (State.markFallow_inner h14)
    clear_value x10 x13 x15
    exact (ite_p (fun _ => (State.respondTo_inner h16)) (fun _ => (State.commitBegin_inner (State.recoverRooms_inner (State.recoverySettings_inner (State.recoveryWipes_inner h16))))))
theorem State.recoverBegin_inner {v0} {v1} {v2} {v3} (k0 : State.inner v0) : State.inner (State.recoverBegin v0 v1 v2 v3) := by
  unfold State.recoverBegin
  extract_lets +onlyGivenNames -merge x1 x3 x5 x7 x9
  have h2 : State.inner x1 := by unfold x1; exact (clo_inner.setF rfl (State.abandonReset_inner k0))
  have h4 : State.inner x3 := by unfold x3; exact (clo_inner.setF rfl (clo_inner.setF rfl h2))
  have h6 : State.inner x5 := by unfold x5; exact (State.stopWork_inner (clo_inner.wr rfl h4))
  have h8 : State.inner x7 := by unfold x7; exact (State.askWakes_inner (State.holdFoundation_inner (State.freezeUnits_inner (State.endPending_inner h6))))
  have h10 : State.inner x9 := by unfold x9; exact (State.updBoot_inner h8)
  clear_value x1 x3 x5 x7 x9
  exact (ite_p (fun _ => (State.recoverOn_inner h10)) (fun _ => h10))
theorem execWakeComplete_inner {v0} {v1} (k1 : State.inner v1) : (OutP State.inner) (execWakeComplete v0 v1) := by
  unfold execWakeComplete
  refine mk_next ?_
  extract_lets +onlyGivenNames -merge x1
  have h2 : State.inner x1 := by unfold x1; exact (State.wakeComplete_inner k1)
  clear_value x1
  exact (ite_p (fun _ => (State.recoverOn_inner h2)) (fun _ => h2))
theorem State.recoverEnd_inner {v0} (k0 : State.inner v0) : State.inner (State.recoverEnd v0) := by
  unfold State.recoverEnd
  extract_lets +onlyGivenNames -merge x1 x3 x5 x7 x9 x11 x13 x15 x18
  have h2 : State.inner x1 := by unfold x1; exact (State.clearBooksFault_inv (clo_inner.mono rfl) k0)
  have h4 : State.inner x3 := by unfold x3; exact (clo_inner.setF rfl (clo_inner.setF rfl h2))
  have h6 : State.inner x5 := by unfold x5; exact (clo_inner.setF rfl (clo_inner.setF rfl h4))
  have h8 : State.inner x7 := by unfold x7; exact (clo_inner.setF rfl (clo_inner.setF rfl h6))
  have h10 : State.inner x9 := by unfold x9; exact (clo_inner.setF rfl (clo_inner.setF rfl h8))
  have h12 : State.inner x11 := by unfold x11; exact (State.updBoot_inner h10)
  have h14 : State.inner x13 := by unfold x13; exact (State.schedRestored_inv (clo_inner.mono rfl) (State.leaveStep6_inv (clo_inner.mono rfl) h12))
  have h16 : State.inner x15 := by unfold x15; exact (State.each_inv (clo_inner.mono rfl) h14 (fun _ _ h17 => (State.endHandover_inner h17)))
  have h19 : State.inner x18 := by unfold x18; exact (State.repostTokens_inner h16)
  clear_value x1 x3 x5 x7 x9 x11 x13 x15 x18
  exact (State.restartUnits_inner (State.schedSwitches_inner (State.schedTasks_inner h19)))
theorem execRecover_inner {v0} {v1} {v2} {v3} (k3 : State.inner v3) : (OutP State.inner) (execRecover v0 v1 v2 v3) := by
  unfold execRecover
  exact (mk_next (State.submit_inner k3 (fun _ h1 => (State.checks_inner h1 (fun _ h2 => (State.recoverBegin_inner h2))))))

/-! ### Security -/

theorem execLcStatus_inner {v0} {v1} (k1 : State.inner v1) : (OutP State.inner) (execLcStatus v0 v1) := by
  unfold execLcStatus
  exact (mk_next (State.submit_inner k1 (fun _ h1 => (State.replyData_inner h1))))
theorem execCertRead_inner {v0} {v1} {v2} {v3} (k3 : State.inner v3) : (OutP State.inner) (execCertRead v0 v1 v2 v3) := by
  unfold execCertRead
  exact (mk_next (State.submit_inner k3 (fun _ h1 => (State.checks_inner h1 (fun _ h2 => (State.writeOut_inner h2))))))
theorem execAttest_inner {v0} {v1} {v2} {v3} {v4} (k4 : State.inner v4) : (OutP State.inner) (execAttest v0 v1 v2 v3 v4) := by
  unfold execAttest
  refine mk_next ?_
  refine State.submit_inner k4 ?_
  intro a10 h9
  refine State.checks_inner h9 ?_
  intro a14 h13
  extract_lets +onlyGivenNames -merge x15
  clear_value x15
  exact (State.writeOut_inner h13)
theorem State.authFails_inner {v0} {v1} (k0 : State.inner v0) : State.inner (State.authFails v0 v1) := by
  unfold State.authFails
  exact (State.respond_inner (clo_inner.inc rfl k0))
theorem State.eraseRange_inner {v0} {v1} (k0 : State.inner v0) : State.inner (State.eraseRange v0 v1) := by
  unfold State.eraseRange
  refine ite_p (fun _ => k0) (fun _ => ?_)
  extract_lets +onlyGivenNames -merge x1 x3 x5 x6 x8
  have h2 : State.inner x1 := by unfold x1; exact (State.endJobs_inner k0)
  have h4 : State.inner x3 := by unfold x3; exact (State.updCr_inner (fun _ h => { h with }) h2)
  have h7 : State.inner x6 := by unfold x6; exact (State.setRange_inner (State.updCrr_inner h4))
  have h9 : State.inner x8 := by unfold x8; exact (clo_inner.setF rfl (clo_inner.setF rfl h7))
  clear_value x1 x3 x5 x6 x8
  exact (State.respondTo_inner (clo_inner.setF rfl h9))
theorem State.eraseSecrets_inner {v0} (k0 : State.inner v0) : State.inner (State.eraseSecrets v0) := by
  unfold State.eraseSecrets
  extract_lets +onlyGivenNames -merge x1
  have h2 : State.inner x1 := by unfold x1; exact (State.each_inv (clo_inner.mono rfl) k0 (fun _ _ h3 => (State.eraseRange_inner h3)))
  clear_value x1
  exact (State.each_inv (clo_inner.mono rfl) h2 (fun _ _ h4 => (State.when_inv (clo_inner.mono rfl) (State.dropKeys_inner h4) (fun _ h5 => (State.holdDown_inner h5)))))
theorem State.fuseTransition_inner {v0} {v1} {v2} (k0 : State.inner v0) : State.inner (State.fuseTransition v0 v1 v2) := by
  unfold State.fuseTransition
  extract_lets +onlyGivenNames -merge x1
  have h2 : State.inner x1 := by
    unfold x1
    refine ite_p (fun _ => ?_) (fun _ => (ite_p (fun _ => (State.updFuses_inner (fun _ h => { h with }) k0)) (fun _ => (ite_p (fun _ => (State.updFuses_inner (fun _ h => { h with }) k0)) (fun _ => k0)))))
    split
    ·
      rename_i y3 y4 y5 y6
      have q8 := congr_p (Q := (SndP State.inner)) y6 (by
          exact (State.trng_inv (clo_inner.mono rfl) k0)
        )
      have h7 : State.inner y5 := q8
      split
      ·
        rename_i y9 y10 y11 y12
        have q14 := congr_p (Q := (SndP State.inner)) y12 (by
            exact (State.trng_inv (clo_inner.mono rfl) h7)
          )
        have h13 : State.inner y11 := q14
        split
        ·
          rename_i y15 y16 y17 y18
          have q20 := congr_p (Q := (SndP State.inner)) y18 (by
              exact (State.trng_inv (clo_inner.mono rfl) h13)
            )
          have h19 : State.inner y17 := q20
          exact (State.updFuses_inner (fun _ h => ⟨foldl_p (Q := fun m => mwf (fun _ => 0) m = true) (fun _ _ hm => mwf_mput _ _ hm) h.keyHash⟩) h19)
  clear_value x1
  exact (State.updFuses_inner (fun _ h => { h with }) h2)
theorem State.readSource_inner {v0} {v1} {v2} {v3} {v4} (k0 : State.inner v0) : (FstP State.inner) (State.readSource v0 v1 v2 v3 v4) := by
  unfold State.readSource
  extract_lets +onlyGivenNames -merge x1
  clear_value x1
  exact (State.memGo_inner k0)
theorem State.transitionEnd_inner {v0} {v1} {v2} (k0 : State.inner v0) : State.inner (State.transitionEnd v0 v1 v2) := by
  unfold State.transitionEnd
  extract_lets +onlyGivenNames -merge x1 x2 x3 x4
  clear_value x1 x2 x3 x4
  split
  ·
    rename_i y5 y6
    exact (State.respond_inner (State.consumeChallenge_inv (clo_inner.mono rfl) k0))
  ·
    rename_i y7 y8 y9 y10
    extract_lets +onlyGivenNames -merge x11 x12
    have h13 : State.inner x12 := by unfold x12; exact (State.consumeChallenge_inv (clo_inner.mono rfl) k0)
    clear_value x11 x12
    refine ite_p (fun _ => (State.respond_inner h13)) (fun _ => ?_)
    refine ite_p (fun _ => (State.respond_inner h13)) (fun _ => ?_)
    refine ite_p (fun _ => (State.authFails_inner h13)) (fun _ => ?_)
    refine ite_p (fun _ => (State.respond_inner h13)) (fun _ => ?_)
    refine ite_p (fun _ => (State.respond_inner h13)) (fun _ => ?_)
    extract_lets +onlyGivenNames -merge x14
    have h15 : State.inner x14 := by unfold x14; exact (State.updSec_inner (State.fuseTransition_inner (State.eraseSecrets_inner h13)))
    clear_value x14
    exact (State.respond_inner (State.updBoot_inner h15))
theorem execLcTransition_inner {v0} {v1} {v2} {v3} {v4} (k4 : State.inner v4) : (OutP State.inner) (execLcTransition v0 v1 v2 v3 v4) := by
  unfold execLcTransition
  refine mk_next ?_
  refine State.submit_inner k4 ?_
  intro a6 h5
  extract_lets +onlyGivenNames -merge x7
  have h8 : ∀ a0 a1, (FunP State.inner) a1 → State.inner (x7 a0 a1) := by
    intro a9 a11 h10
    unfold x7
    split
    ·
      rename_i y12 y13 y14 y15
      exact (State.reply_inner (State.consumeChallenge_inv (clo_inner.mono rfl) h5))
    ·
      rename_i y16 y17
      exact (h10 _ h5)
  clear_value x7
  refine h8 _ _ ?_
  intro a20 h19
  beta_reduce
  split
  ·
    rename_i y21 y22 y23 y24
    have q26 := congr_p (Q := (FstP State.inner)) y24 (by
        exact (State.readSource_inner (State.uncommitted_inner h19))
      )
    have h25 : State.inner y22 := q26
    split
    ·
      rename_i y27 y28
      exact (State.transitionEnd_inner h25)
    ·
      rename_i y29
      exact h25
theorem State.grantDebug_inner {v0} {v1} {v2} (k0 : State.inner v0) : State.inner (State.grantDebug v0 v1 v2) := by
  unfold State.grantDebug
  extract_lets +onlyGivenNames -merge x1
  have h2 : State.inner x1 := by unfold x1; exact (ite_p (fun _ => (State.eraseSecrets_inner k0)) (fun _ => k0))
  clear_value x1
  exact (State.respond_inner (clo_inner.setF rfl h2))
theorem State.debugEnd_inner {v0} {v1} {v2} (k0 : State.inner v0) : State.inner (State.debugEnd v0 v1 v2) := by
  unfold State.debugEnd
  split
  ·
    rename_i y1 y2
    exact (State.respond_inner k0)
  ·
    rename_i y3 y4 y5 y6
    extract_lets +onlyGivenNames -merge x7 x8
    have h9 : State.inner x8 := by unfold x8; exact (State.consumeChallenge_inv (clo_inner.mono rfl) k0)
    clear_value x7 x8
    exact (ite_p (fun _ => (State.respond_inner h9)) (fun _ => (ite_p (fun _ => (State.grantDebug_inner h9)) (fun _ => (State.authFails_inner h9)))))
theorem State.debugAccess_inner {v0} {v1} {v2} {v3} {v4} (k0 : State.inner v0) : State.inner (State.debugAccess v0 v1 v2 v3 v4) := by
  unfold State.debugAccess
  extract_lets +onlyGivenNames -merge x1 x2
  have h3 : State.inner x2 := by unfold x2; exact (State.consumeChallenge_inv (clo_inner.mono rfl) k0)
  clear_value x1 x2
  refine ite_p (fun _ => (State.reply_inner h3)) (fun _ => ?_)
  refine ite_p (fun _ => (State.reply_inner h3)) (fun _ => ?_)
  refine ite_p (fun _ => (State.reply_inner (clo_inner.setF rfl h3))) (fun _ => ?_)
  refine ite_p (fun _ => (State.reply_inner h3)) (fun _ => ?_)
  split
  ·
    rename_i y4 y5
    exact (State.grantDebug_inner h3)
  ·
    rename_i y6 y7 y8
    refine ite_p (fun _ => (State.reply_inner h3)) (fun _ => ?_)
    split
    ·
      rename_i y9 y10 y11 y12
      have q14 := congr_p (Q := (FstP State.inner)) y12 (by
          exact (State.readSource_inner (State.uncommitted_inner k0))
        )
      have h13 : State.inner y10 := q14
      split
      ·
        rename_i y15 y16
        exact (State.debugEnd_inner h13)
      ·
        rename_i y17
        exact h13
theorem execDebugAccess_inner {v0} {v1} {v2} {v3} {v4} (k4 : State.inner v4) : (OutP State.inner) (execDebugAccess v0 v1 v2 v3 v4) := by
  unfold execDebugAccess
  exact (mk_next (State.submit_inner k4 (fun _ h1 => (State.debugAccess_inner h1))))
theorem State.setTap_inner {v0} {v1} (k0 : State.inner v0) : State.inner (State.setTap v0 v1) := by
  unfold State.setTap
  exact (State.updSec_inner k0)
theorem State.debugSend_inner {v0} {v1} {v2} (k0 : State.inner v0) : State.inner (State.debugSend v0 v1 v2) := by
  unfold State.debugSend
  extract_lets +onlyGivenNames -merge x1 x2
  clear_value x1 x2
  exact (State.request_inner (State.setTap_inner k0))
theorem State.debugRead_inner {v0} {v1} (k0 : State.inner v0) : State.inner (State.debugRead v0 v1) := by
  unfold State.debugRead
  split
  ·
    rename_i y1 y2 y3
    split
    ·
      rename_i y4 y5 y6 y7
      have q9 := congr_p (Q := (SndP State.inner)) y7 (by
          exact (State.csrGet_inner k0)
        )
      have h8 : State.inner y6 := q9
      exact (State.setTap_inner h8)
    ·
      rename_i y10 y11 y12 y13
      have q15 := congr_p (Q := (SndP State.inner)) y13 (by
          exact (State.csrGet_inner k0)
        )
      have h14 : State.inner y12 := q15
      exact h14
  ·
    rename_i y16 y17
    split
    ·
      rename_i y18 y19 y20 y21 y22
      have q24 := congr_p (Q := (SndP (SndP State.inner))) y22 (by
          exact (State.readSpan_inner k0)
        )
      have h23 : State.inner y21 := q24
      exact (State.setTap_inner h23)
  ·
    rename_i y25 y26
    exact (State.busError_inv (clo_inner.mono rfl) k0)
  ·
    rename_i y27 y28 y29 y30
    exact (State.debugSend_inner k0)
theorem State.debugWrite_inner {v0} {v1} {v2} (k0 : State.inner v0) : State.inner (State.debugWrite v0 v1 v2) := by
  unfold State.debugWrite
  split
  ·
    rename_i y1 y2 y3
    exact (snd_p (State.csrPut_inner (State.debugForced_inv (clo_inner.mono rfl) k0)))
  ·
    rename_i y4 y5
    exact (snd_p (State.writeSpanAs_inner (State.debugForced_inv (clo_inner.mono rfl) k0)))
  ·
    rename_i y6 y7
    exact (State.busError_inv (clo_inner.mono rfl) k0)
  ·
    rename_i y8 y9 y10 y11
    exact (State.debugSend_inner k0)
theorem State.tapDo_inner {v0} {v1} (k0 : State.inner v0) : State.inner (State.tapDo v0 v1) := by
  unfold State.tapDo
  extract_lets +onlyGivenNames -merge x1
  clear_value x1
  split
  ·
    rename_i y2
    exact (State.setTap_inner k0)
  ·
    rename_i y3 y4
    extract_lets +onlyGivenNames -merge x5 x6
    have h7 : State.inner x6 := by unfold x6; exact (ite_p (fun _ => (State.hazard_inv (clo_inner.mono rfl) k0)) (fun _ => k0))
    clear_value x5 x6
    exact (clo_inner.drawn rfl  (State.setTap_inner h7))
  ·
    rename_i y8 y9 y10
    extract_lets +onlyGivenNames -merge x11
    clear_value x11
    refine ite_p (fun _ => ?_) (fun _ => ?_)
    ·
      split
      ·
        rename_i y12 y13 y14 y15
        exact (State.setTap_inner k0)
    ·
      refine ite_p (fun _ => ?_) (fun _ => ?_)
      ·
        extract_lets +onlyGivenNames -merge x16 x18
        have h17 : State.inner x16 := by unfold x16; exact (ite_p (fun _ => (State.hazard_inv (clo_inner.mono rfl) k0)) (fun _ => k0))
        clear_value x16 x18
        exact (clo_inner.drawn rfl  (State.setTap_inner h17))
      ·
        split
        ·
          rename_i y19 y20 y21 y22
          exact (State.setTap_inner k0)
  ·
    rename_i y23 y24
    exact (ite_p (fun _ => (State.debugRead_inner (State.hazard_inv (clo_inner.mono rfl) k0))) (fun _ => k0))
  ·
    rename_i y25 y26 y27
    exact (ite_p (fun _ => (State.debugWrite_inner (State.hazard_inv (clo_inner.mono rfl) k0))) (fun _ => k0))
  ·
    rename_i y28 y29
    exact (ite_p (fun _ => (State.haltRequest_inv (clo_inner.mono rfl) (State.hazard_inv (clo_inner.mono rfl) k0))) (fun _ => k0))
theorem State.tapRun_inner {v0} {v1} (k1 : State.inner v1) : State.inner (State.tapRun v0 v1) := by
  induction v0 generalizing v1 k1 with
  | zero =>
    rw [State.tapRun]
    exact k1
  | succ n ih =>
    rw [State.tapRun]
    refine ite_p (fun _ => k1) (fun _ => ?_)
    split
    ·
      rename_i y1 y2
      exact k1
    ·
      rename_i y3 y4 y5 y6
      exact (by apply ih; exact (State.tapDo_inner (State.setTap_inner k1)))
theorem State.tapGo_inner {v0} (k0 : State.inner v0) : State.inner (State.tapGo v0) := by
  unfold State.tapGo
  exact (State.tapRun_inner k0)
theorem execTapAccess_inner {v0} {v1} (k1 : State.inner v1) : (OutP State.inner) (execTapAccess v0 v1) := by
  unfold execTapAccess
  exact (mk_next (ite_p (fun _ => k1) (fun _ => (ite_p (fun _ => (State.tapDo_inner (State.setTap_inner k1))) (fun _ => (State.tapGo_inner (State.setTap_inner k1)))))))
theorem State.tapAnswer_inner {v0} {v1} {v2} {v3} (k0 : State.inner v0) : State.inner (State.tapAnswer v0 v1 v2 v3) := by
  unfold State.tapAnswer
  refine ite_p (fun _ => k0) (fun _ => ?_)
  refine ite_p (fun _ => (State.request_inner k0)) (fun _ => ?_)
  extract_lets +onlyGivenNames -merge x1
  have h2 : State.inner x1 := by unfold x1; exact (State.setTap_inner k0)
  clear_value x1
  exact (State.tapGo_inner (ite_p (fun _ => (State.debugForced_inv (clo_inner.mono rfl) h2)) (fun _ => h2)))
theorem execStartUpSelfTest_inner {v0} {v1} {v2} {v3} {v4} (k4 : State.inner v4) : (OutP State.inner) (execStartUpSelfTest v0 v1 v2 v3 v4) := by
  unfold execStartUpSelfTest
  exact (mk_next (State.tapGo_inner (State.startTest_inner k4)))

/-! ### StoreCmd -/

theorem execStoreStatus_inner {v0} {v1} (k1 : State.inner v1) : (OutP State.inner) (execStoreStatus v0 v1) := by
  unfold execStoreStatus
  exact (mk_next (State.submit_inner k1 (fun _ h1 => (State.replyData_inner h1))))
theorem execProfileList_inner {v0} {v1} (k1 : State.inner v1) : (OutP State.inner) (execProfileList v0 v1) := by
  unfold execProfileList
  exact (mk_next (State.submit_inner k1 (fun _ h1 => (State.replyData_inner h1))))
theorem State.startFlash_inner {v0} (k0 : State.inner v0) : State.inner (State.startFlash v0) := by
  unfold State.startFlash
  split
  ·
    rename_i y1 y2
    exact k0
  ·
    rename_i y3 y4 y5 y6
    exact (ite_p (fun _ => (State.committed_inner (clo_inner.eraseFlash rfl _ _ k0))) (fun _ => k0))
theorem State.addFlash_inner {v0} {v1} (k0 : State.inner v0) : State.inner (State.addFlash v0 v1) := by
  unfold State.addFlash
  extract_lets +onlyGivenNames -merge x1 x2
  have h3 : State.inner x2 := by unfold x2; exact (State.updJ_inner (fun _ h => { h with }) (State.uncommitted_inner k0))
  clear_value x1 x2
  exact (ite_p (fun _ => (State.startFlash_inner h3)) (fun _ => h3))
theorem State.endFlash_inner {v0} {v1} {v2} (k0 : State.inner v0) : State.inner (State.endFlash v0 v1 v2) := by
  unfold State.endFlash
  exact (State.startFlash_inner (State.respond_inner (State.updJ_inner (fun _ h => { h with }) k0)))
theorem State.journalEnd_inner {v0} {v1} {v2} (k0 : State.inner v0) : State.inner (State.journalEnd v0 v1 v2) := by
  unfold State.journalEnd
  refine ite_p (fun _ => k0) (fun _ => ?_)
  extract_lets +onlyGivenNames -merge x1
  clear_value x1
  exact (ite_p (fun _ => (State.endFlash_inner (State.updJ_inner (fun _ h => { h with }) k0))) (fun _ => (ite_p (fun _ => (State.endFlash_inner k0)) (fun _ => (State.endFlash_inner (State.journalBatch_inner (State.committed_inner k0)))))))
theorem State.flashEnd_inner {v0} {v1} (k0 : State.inner v0) : State.inner (State.flashEnd v0 v1) := by
  unfold State.flashEnd
  split
  ·
    rename_i y1 y2
    exact k0
  ·
    rename_i y3 y4 y5 y6
    refine ite_p (fun _ => (State.journalEnd_inner k0)) (fun _ => ?_)
    refine ite_p (fun _ => (State.endFlash_inner (clo_inner.eraseFlash rfl _ _ k0))) (fun _ => ?_)
    refine ite_p (fun _ => (State.endFlash_inner k0)) (fun _ => ?_)
    split
    ·
      rename_i y7 y8 y9 y10
      refine ite_p (fun _ => (State.updJ_inner (fun _ h => { h with }) (clo_inner.eraseFlash rfl _ _ k0))) (fun _ => ?_)
      refine ite_p (fun _ => ?_) (fun _ => ?_)
      ·
        extract_lets +onlyGivenNames -merge x11
        have h12 : State.inner x11 := by unfold x11; exact (clo_inner.program rfl _ _ k0)
        clear_value x11
        exact (ite_p (fun _ => (State.endFlash_inner h12)) (fun _ => (State.updJ_inner (fun _ h => { h with }) h12)))
      ·
        extract_lets +onlyGivenNames -merge x13
        have h14 : State.inner x13 := by unfold x13; exact (State.endFlash_inner (clo_inner.program rfl _ _ k0))
        clear_value x13
        exact (ite_p (fun _ => h14) (fun _ => (ite_p (fun _ => (State.bootVerify_inner h14)) (fun _ => (clo_inner.setF rfl h14)))))
theorem execProgramOrEraseEnd_inner {v0} {v1} (k1 : State.inner v1) : (OutP State.inner) (execProgramOrEraseEnd v0 v1) := by
  unfold execProgramOrEraseEnd
  exact (mk_next (State.flashEnd_inner k1))
theorem State.imageEnd_inner {v0} {v1} {v2} {v3} (k0 : State.inner v0) : State.inner (State.imageEnd v0 v1 v2 v3) := by
  unfold State.imageEnd
  extract_lets +onlyGivenNames -merge x1
  have h2 : State.inner x1 := by unfold x1; exact (State.setArgs_inner k0)
  clear_value x1
  exact (ite_p (fun _ => (State.respond_inner h2)) (fun _ => (ite_p (fun _ => (State.respond_inner (State.updBoot_inner h2))) (fun _ => (ite_p (fun _ => (State.addFlash_inner h2)) (fun _ => (State.respond_inner h2)))))))
theorem State.imageRead_inner {v0} {v1} {v2} {v3} {v4} {v5} (k0 : State.inner v0) : State.inner (State.imageRead v0 v1 v2 v3 v4 v5) := by
  unfold State.imageRead
  split
  ·
    rename_i y1 y2 y3 y4
    have q6 := congr_p (Q := (FstP State.inner)) y4 (by
        exact (State.readSource_inner (State.uncommitted_inner k0))
      )
    have h5 : State.inner y2 := q6
    split
    ·
      rename_i y7 y8
      exact (State.imageEnd_inner h5)
    ·
      rename_i y9
      exact h5
theorem execProfileWrite_inner {v0} {v1} {v2} {v3} {v4} (k4 : State.inner v4) : (OutP State.inner) (execProfileWrite v0 v1 v2 v3 v4) := by
  unfold execProfileWrite
  exact (mk_next (State.submit_inner k4 (fun _ h1 => (State.checks_inner h1 (fun _ h2 => (State.imageRead_inner h2))))))
theorem execProfileErase_inner {v0} {v1} {v2} (k2 : State.inner v2) : (OutP State.inner) (execProfileErase v0 v1 v2) := by
  unfold execProfileErase
  exact (mk_next (State.submit_inner k2 (fun _ h1 => (State.checks_inner h1 (fun _ h2 => (State.addFlash_inner h2))))))
theorem execProfilePush_inner {v0} {v1} {v2} {v3} (k3 : State.inner v3) : (OutP State.inner) (execProfilePush v0 v1 v2 v3) := by
  unfold execProfilePush
  exact (mk_next (State.submit_inner k3 (fun _ h1 => (State.checks_inner h1 (fun _ h2 => (State.imageRead_inner h2))))))
theorem execProfileSelect_inner {v0} {v1} {v2} (k2 : State.inner v2) : (OutP State.inner) (execProfileSelect v0 v1 v2) := by
  unfold execProfileSelect
  exact (mk_next (State.submit_inner k2 (fun _ h1 => (State.checks_inner h1 (fun _ h2 => (State.reply_inner (State.updBoot_inner h2)))))))
theorem execFwWrite_inner {v0} {v1} {v2} {v3} (k3 : State.inner v3) : (OutP State.inner) (execFwWrite v0 v1 v2 v3) := by
  unfold execFwWrite
  refine mk_next ?_
  refine State.submit_inner k3 ?_
  intro a10 h9
  refine State.checks_inner h9 ?_
  intro a14 h13
  extract_lets +onlyGivenNames -merge x15
  clear_value x15
  exact (State.imageRead_inner h13)
theorem execJournalSet_inner {v0} {v1} {v2} {v3} {v4} (k4 : State.inner v4) : (OutP State.inner) (execJournalSet v0 v1 v2 v3 v4) := by
  unfold execJournalSet
  exact (mk_next (State.submit_inner k4 (fun _ h1 => (State.checks_inner h1 (fun _ h2 => (State.addFlash_inner h2))))))
theorem execJournalClear_inner {v0} {v1} {v2} (k2 : State.inner v2) : (OutP State.inner) (execJournalClear v0 v1 v2) := by
  unfold execJournalClear
  exact (mk_next (State.submit_inner k2 (fun _ h1 => (State.checks_inner h1 (fun _ h2 => (State.addFlash_inner h2))))))
theorem execJournalRead_inner {v0} {v1} {v2} (k2 : State.inner v2) : (OutP State.inner) (execJournalRead v0 v1 v2) := by
  unfold execJournalRead
  refine mk_next ?_
  refine State.submit_inner k2 ?_
  intro a6 h5
  extract_lets +onlyGivenNames -merge x7
  clear_value x7
  exact (State.writeOut_inner h5)
theorem execJournalCompact_inner {v0} {v1} (k1 : State.inner v1) : (OutP State.inner) (execJournalCompact v0 v1) := by
  unfold execJournalCompact
  exact (mk_next (State.submit_inner k1 (fun _ h1 => (State.updJ_inner (fun _ h => { h with }) h1))))
theorem execJournalCompaction_inner {v0} (k0 : State.inner v0) : (OutP State.inner) (execJournalCompaction v0) := by
  unfold execJournalCompaction
  refine mk_next ?_
  refine ite_p (fun _ => k0) (fun _ => ?_)
  extract_lets +onlyGivenNames -merge x1 x2 x3
  have h4 : State.inner x3 := by unfold x3; exact (State.each_inv (clo_inner.mono rfl) (State.updJ_inner (fun _ h => { h with }) (State.compact_inner k0)) (fun _ _ h5 => (State.respond_inner h5)))
  clear_value x1 x2 x3
  exact (State.each_inv (clo_inner.mono rfl) h4 (fun _ _ h6 => (State.journalBatch_inner h6)))

/-! ### Replay -/

theorem State.writeHeader_inner {v0} (k0 : State.inner v0) : State.inner (State.writeHeader v0) := by
  unfold State.writeHeader
  extract_lets +onlyGivenNames -merge x1
  clear_value x1
  exact (State.ringWrite_inner k0)
theorem State.ringNote_inner {v0} {v1} {v2} (k0 : State.inner v0) : State.inner (State.ringNote v0 v1 v2) := by
  unfold State.ringNote
  exact (State.each_inv (clo_inner.mono rfl) k0 (fun _ _ h1 => (State.noteWord_inner h1)))
theorem State.readFrom_inner {v0} {v1} (k0 : State.inner v0) : State.inner (State.readFrom v0 v1) := by
  unfold State.readFrom
  extract_lets +onlyGivenNames -merge x1 x8
  have h2 : State.inner x1 := by
    unfold x1
    split
    ·
      rename_i y3 y4 y5
      exact (State.ringNote_inner k0)
    ·
      rename_i y6 y7
      exact (State.ringNote_inner k0)
  clear_value x1 x8
  exact (State.updRp_inv (clo_inner.mono rfl) h2)
theorem State.originReset_inner {v0} {v1} {v2} (k0 : State.inner v0) : State.inner (State.originReset v0 v1 v2) := by
  unfold State.originReset
  extract_lets +onlyGivenNames -merge x1 x3 x5 x8 x11
  have h2 : State.inner x1 := by unfold x1; exact (State.stopWork_inner (clo_inner.wr rfl k0))
  have h4 : State.inner x3 := by unfold x3; exact (State.settleRequests_inner (State.wakeAll_inner (State.holdFoundation_inner (State.freezeUnits_inner (State.endPending_inner h2)))))
  have h6 : State.inner x5 := by unfold x5; exact (State.each_inv (clo_inner.mono rfl) h4 (fun _ _ h7 => (State.endHandover_inner h7)))
  have h9 : State.inner x8 := by unfold x8; exact (State.each_inv (clo_inner.mono rfl) h6 (fun _ _ h10 => (State.gateOpened_inner (State.setGating_inner (State.setGateReq_inv (clo_inner.mono rfl) (State.setGateStat_inv (clo_inner.mono rfl) (State.gateRoom_inner h10)))))))
  have h12 : State.inner x11 := by unfold x11; exact (State.each_inv (clo_inner.mono rfl) h9 (fun _ _ h13 => (ite_p (fun _ => h13) (fun _ => (clo_inner.wipe rfl _ _ h13)))))
  clear_value x1 x3 x5 x8 x11
  exact (State.wipeEngines_inv (clo_inner.mono rfl) (State.wipeRooms_inv (clo_inner.mono rfl) (State.wipeLanding_inv (clo_inner.mono rfl) h12)))
theorem State.originSettings_inner {v0} (k0 : State.inner v0) : State.inner (State.originSettings v0) := by
  unfold State.originSettings
  extract_lets +onlyGivenNames -merge x1 x3 x5 x7 x9
  have h2 : State.inner x1 := by unfold x1; exact (State.updNet_inner (fun _ h => { h with posts := mwf_filter _ h.posts }) (State.updSched_inner (fun _ _ => Sched.inner.default) k0))
  have h4 : State.inner x3 := by unfold x3; exact (inner_svcNext h2)
  have h6 : State.inner x5 := by unfold x5; exact (clo_inner.setF rfl (clo_inner.setF rfl h4))
  have h8 : State.inner x7 := by unfold x7; exact (State.mowRefresh_inv (clo_inner.mono rfl) (State.updMow_inner (fun _ _ => ⟨rfl, rfl⟩) h6))
  have h10 : State.inner x9 := by unfold x9; exact (State.each_inv (clo_inner.mono rfl) h8 (fun _ _ h11 => (ite_p (fun _ => (clo_inner.setF rfl (State.updEng_inner (fun _ _ => Eng.inner.default) h11))) (fun _ => h11))))
  clear_value x1 x3 x5 x7 x9
  split
  ·
    rename_i y12 y13
    exact h10
  ·
    rename_i y14 y15 y16
    extract_lets +onlyGivenNames -merge x17
    have h18 : State.inner x17 := by unfold x17; exact (State.stageProfile_inner (clo_inner.setF rfl h10))
    clear_value x17
    exact (State.storesThenLoads_inner (State.profileGates_inner h18))
theorem State.originRun_inner {v0} {v1} {v2} {v3} {v4} (k0 : State.inner v0) : State.inner (State.originRun v0 v1 v2 v3 v4) := by
  unfold State.originRun
  extract_lets +onlyGivenNames -merge x1 x3
  have h2 : State.inner x1 := by unfold x1; exact (State.originSettings_inner (State.originReset_inner k0))
  have h4 : State.inner x3 := by unfold x3; exact (State.stage_inner h2)
  clear_value x1 x3
  exact (State.stage_inner (State.stage_inner h4))
theorem State.originBegin_inner {v0} {v1} {v2} {v3} {v4} {v5} {v6} (k0 : State.inner v0) : State.inner (State.originBegin v0 v1 v2 v3 v4 v5 v6) := by
  unfold State.originBegin
  extract_lets +onlyGivenNames -merge x1
  have h2 : State.inner x1 := by unfold x1; exact (State.originRun_inner k0)
  clear_value x1
  exact (ite_p (fun _ => (State.respond_inner k0)) (fun _ => (State.commitBegin_inner (State.updRp_inv (clo_inner.mono rfl) (clo_inner.setF rfl h2)))))
theorem State.originPoint_inner {v0} (k0 : State.inner v0) : State.inner (State.originPoint v0) := by
  unfold State.originPoint
  refine ite_p (fun _ => (State.writeHeader_inner k0)) (fun _ => ?_)
  extract_lets +onlyGivenNames -merge x1 x2 x4
  have h3 : State.inner x2 := by unfold x2; exact (ite_p (fun _ => k0) (fun _ => (clo_inner.setF rfl k0)))
  clear_value x1 x2 x4
  exact (State.readFrom_inner (State.updRp_inv (clo_inner.mono rfl) h3))
theorem State.originEnd_inner {v0} (k0 : State.inner v0) : State.inner (State.originEnd v0) := by
  unfold State.originEnd
  extract_lets +onlyGivenNames -merge x1 x3 x4
  have h2 : State.inner x1 := by unfold x1; exact (clo_inner.setF rfl k0)
  have h5 : State.inner x4 := by unfold x4; exact (State.each_inv (clo_inner.mono rfl) h2 (fun _ _ h6 => (clo_inner.setF rfl h6)))
  clear_value x1 x3 x4
  exact (State.crWakeAll_inner (State.reShed_inner (State.mowRefresh_inv (clo_inner.mono rfl) h5)))
theorem State.recorderDrain_inner {v0} (k0 : State.inner v0) : State.inner (State.recorderDrain v0) := by
  unfold State.recorderDrain
  extract_lets +onlyGivenNames -merge x1
  clear_value x1
  refine ite_p (fun _ => k0) (fun _ => ?_)
  extract_lets +onlyGivenNames -merge x2
  have h3 : State.inner x2 := by unfold x2; exact (State.flushRing_inner k0)
  clear_value x2
  exact (ite_p (fun _ => (State.ringTrailer_inner h3)) (fun _ => (ite_p (fun _ => (State.updRp_inv (clo_inner.mono rfl) (State.pushGap_inv (clo_inner.mono rfl) (State.stampNow_inv (clo_inner.mono rfl) h3)))) (fun _ => h3))))
theorem execRecorderDrain_inner {v0} (k0 : State.inner v0) : (OutP State.inner) (execRecorderDrain v0) := by
  unfold execRecorderDrain
  exact (mk_next (State.recorderDrain_inner k0))
theorem State.checkRecord_inner {v0} (k0 : State.inner v0) : State.inner (State.checkRecord v0) := by
  unfold State.checkRecord
  extract_lets +onlyGivenNames -merge x1
  clear_value x1
  split
  ·
    rename_i y2 y3 y4 y5
    extract_lets +onlyGivenNames -merge x6 x10
    have h7 : ∀ a0, State.inner a0 → State.inner (x6 a0) := by
      intro a9 h8
      unfold x6
      exact (State.updRp_inv (clo_inner.mono rfl) h8)
    have h11 : ∀ a0, State.inner a0 → State.inner (x10 a0) := by
      intro a13 h12
      unfold x10
      exact (State.updRp_inv (clo_inner.mono rfl) h12)
    clear_value x6 x10
    refine ite_p (fun _ => k0) (fun _ => ?_)
    refine ite_p (fun _ => (h7 _ (State.recordAt_inv (clo_inner.mono rfl) (h11 _ k0)))) (fun _ => ?_)
    refine ite_p (fun _ => ?_) (fun _ => k0)
    extract_lets +onlyGivenNames -merge x14 x15 x16
    clear_value x14 x15 x16
    refine ite_p (fun _ => k0) (fun _ => ?_)
    extract_lets +onlyGivenNames -merge x17
    have h18 : State.inner x17 := by unfold x17; exact (State.settle_inv (clo_inner.mono rfl) (h11 _ k0))
    clear_value x17
    split
    ·
      rename_i y19 y20
      refine ite_p (fun _ => ?_) (fun _ => (h7 _ h18))
      extract_lets +onlyGivenNames -merge x21
      have h22 : State.inner x21 := by unfold x21; exact (ite_p (fun _ => h18) (fun _ => (State.finding_inv (clo_inner.mono rfl) (clo_inner.setF rfl h18))))
      clear_value x21
      exact (h7 _ (State.readFrom_inner h22))
    ·
      rename_i y23
      exact (h7 _ h18)
theorem execCheckRecord_inner {v0} (k0 : State.inner v0) : (OutP State.inner) (execCheckRecord v0) := by
  unfold execCheckRecord
  exact (mk_next (State.checkRecord_inner k0))
theorem State.stampEnd_inner {v0} (k0 : State.inner v0) : State.inner (State.stampEnd v0) := by
  unfold State.stampEnd
  extract_lets +onlyGivenNames -merge x1
  clear_value x1
  exact (ite_p (fun _ => (clo_inner.setF rfl (State.ringTrailer_inner (State.flushRing_inner (State.pushRec_inv (clo_inner.mono rfl) (State.updRp_inv (clo_inner.mono rfl) k0)))))) (fun _ => k0))
theorem execStampLimit_inner {v0} (k0 : State.inner v0) : (OutP State.inner) (execStampLimit v0) := by
  unfold execStampLimit
  exact (mk_next (State.stampEnd_inner k0))
theorem State.injectPacket_inner {v0} {v1} {v2} (k0 : State.inner v0) : State.inner (State.injectPacket v0 v1 v2) := by
  unfold State.injectPacket
  split
  ·
    rename_i y1 y2
    exact k0
  ·
    rename_i y3 y4 y5
    extract_lets +onlyGivenNames -merge x6
    have h7 : State.inner x6 := by unfold x6; exact (State.pump1_inner (State.inject_inner k0))
    clear_value x6
    exact (ite_p (fun _ => h7) (fun _ => (clo_inner.setF rfl h7)))
theorem State.injectLink_inner {v0} {v1} {v2} {v3} (k0 : State.inner v0) : State.inner (State.injectLink v0 v1 v2 v3) := by
  unfold State.injectLink
  extract_lets +onlyGivenNames -merge x1
  have h2 : State.inner x1 := by unfold x1; exact (State.setLinkState_inv (clo_inner.mono rfl) (clo_inner.setLinkF rfl rfl k0))
  clear_value x1
  refine ite_p (fun _ => h2) (fun _ => ?_)
  extract_lets +onlyGivenNames -merge x3
  have h4 : State.inner x3 := by unfold x3; exact (State.updLink_inner (fun _ h => { h with }) h2)
  clear_value x3
  exact (ite_p (fun _ => h4) (fun _ => (State.finding_inv (clo_inner.mono rfl) (clo_inner.setF rfl h4))))
theorem State.injectOther_inner {v0} {v1} (k0 : State.inner v0) : State.inner (State.injectOther v0 v1) := by
  unfold State.injectOther
  extract_lets +onlyGivenNames -merge x1
  clear_value x1
  exact (ite_p (fun _ => (ite_p (fun _ => (State.injectPacket_inner k0)) (fun _ => k0))) (fun _ => (ite_p (fun _ => (ite_p (fun _ => (State.injectLink_inner k0)) (fun _ => k0))) (fun _ => (ite_p (fun _ => (State.setThermReq_inner (State.setThermLevel_inv (clo_inner.mono rfl) k0))) (fun _ => (ite_p (fun _ => (State.updRp_inv (clo_inner.mono rfl) k0)) (fun _ => k0))))))))
theorem State.haltReplay_inner {v0} (k0 : State.inner v0) : State.inner (State.haltReplay v0) := by
  unfold State.haltReplay
  extract_lets +onlyGivenNames -merge x1 x3 x6
  have h2 : State.inner x1 := by unfold x1; exact (clo_inner.setF rfl k0)
  have h4 : State.inner x3 := by unfold x3; exact (State.each_inv (clo_inner.mono rfl) h2 (fun _ _ h5 => (ite_p (fun _ => (State.updRoom_inner (fun _ h => { h with }) h5)) (fun _ => h5))))
  have h7 : State.inner x6 := by unfold x6; exact (State.each_inv (clo_inner.mono rfl) h4 (fun _ _ h8 => (ite_p (fun _ => (clo_inner.setF rfl h8)) (fun _ => h8))))
  clear_value x1 x3 x6
  exact (State.mowRefresh_inv (clo_inner.mono rfl) (State.each_inv (clo_inner.mono rfl) h7 (fun _ _ h9 => (State.restoreSlice_inner h9))))
theorem State.replayHalts_inner {v0} {v1} (k0 : State.inner v0) : State.inner (State.replayHalts v0 v1) := by
  unfold State.replayHalts
  refine ite_p (fun _ => k0) (fun _ => ?_)
  extract_lets +onlyGivenNames -merge x1
  clear_value x1
  refine ite_p (fun _ => ?_) (fun _ => ?_)
  ·
    split
    ·
      rename_i y2 y3
      exact k0
    ·
      rename_i y4 y5 y6
      extract_lets +onlyGivenNames -merge x7
      clear_value x7
      exact (ite_p (fun _ => k0) (fun _ => (State.haltReplay_inner (State.settle_inv (clo_inner.mono rfl) (State.updRp_inv (clo_inner.mono rfl) k0)))))
  ·
    refine ite_p (fun _ => ?_) (fun _ => ?_)
    ·
      split
      ·
        rename_i y8 y9
        exact k0
      ·
        rename_i y10 y11 y12
        exact (ite_p (fun _ => k0) (fun _ => (State.haltReplay_inner (State.finding_inv (clo_inner.mono rfl) (clo_inner.setF rfl (State.reach_inv (clo_inner.mono rfl) k0))))))
    ·
      refine ite_p (fun _ => ?_) (fun _ => k0)
      refine ite_p (fun _ => (State.haltReplay_inner k0)) (fun _ => ?_)
      split
      ·
        rename_i y13 y14
        exact k0
      ·
        rename_i y15 y16 y17
        exact (ite_p (fun _ => (State.haltReplay_inner (State.reach_inv (clo_inner.mono rfl) k0))) (fun _ => k0))
theorem execReplayHalt_inner {v0} {v1} (k1 : State.inner v1) : (OutP State.inner) (execReplayHalt v0 v1) := by
  unfold execReplayHalt
  exact (mk_next (State.replayHalts_inner k1))
theorem execRpStatus_inner {v0} {v1} (k1 : State.inner v1) : (OutP State.inner) (execRpStatus v0 v1) := by
  unfold execRpStatus
  refine mk_next ?_
  refine State.submit_inner k1 ?_
  intro a6 h5
  extract_lets +onlyGivenNames -merge x7
  have h8 : State.inner x7 := by unfold x7; exact (State.stampNow_inv (clo_inner.mono rfl) h5)
  clear_value x7
  exact (State.replyData_inner h8)
theorem execRecordStart_inner {v0} {v1} {v2} {v3} {v4} {v5} (k5 : State.inner v5) : (OutP State.inner) (execRecordStart v0 v1 v2 v3 v4 v5) := by
  unfold execRecordStart
  exact (mk_next (State.submit_inner k5 (fun _ h1 => (State.checks_inner h1 (fun _ h2 => (State.originBegin_inner h2))))))
theorem execRecordStop_inner {v0} {v1} (k1 : State.inner v1) : (OutP State.inner) (execRecordStop v0 v1) := by
  unfold execRecordStop
  exact (mk_next (State.submit_inner k1 (fun _ h1 => (State.checks_inner h1 (fun _ h2 => (State.reply_inner (State.endRecording_inner h2)))))))
theorem State.replayHeadEnd_inner {v0} {v1} {v2} (k0 : State.inner v0) : State.inner (State.replayHeadEnd v0 v1 v2) := by
  unfold State.replayHeadEnd
  extract_lets +onlyGivenNames -merge x1 x2 x3 x4
  clear_value x1 x2 x3 x4
  split
  ·
    rename_i y5 y6 y7 y8
    exact (State.respond_inner k0)
  ·
    rename_i y9 y10
    exact (State.originBegin_inner k0)
theorem execReplayStart_inner {v0} {v1} {v2} {v3} (k3 : State.inner v3) : (OutP State.inner) (execReplayStart v0 v1 v2 v3) := by
  unfold execReplayStart
  refine mk_next ?_
  refine State.submit_inner k3 ?_
  intro a10 h9
  refine State.checks_inner h9 ?_
  intro a14 h13
  split
  ·
    rename_i y15 y16 y17 y18
    have q20 := congr_p (Q := (FstP State.inner)) y18 (by
        exact (State.memGo_inner h13)
      )
    have h19 : State.inner y16 := q20
    split
    ·
      rename_i y21 y22
      exact (State.replayHeadEnd_inner h19)
    ·
      rename_i y23
      exact h19
theorem execReplayStop_inner {v0} {v1} (k1 : State.inner v1) : (OutP State.inner) (execReplayStop v0 v1) := by
  unfold execReplayStop
  exact (mk_next (State.submit_inner k1 (fun _ h1 => (State.checks_inner h1 (fun _ h2 => (State.reply_inner (State.updBoot_inner h2)))))))

/-! ### Finish -/

theorem State.reachReady_inner {v0} (k0 : State.inner v0) : State.inner (State.reachReady v0) := by
  unfold State.reachReady
  extract_lets +onlyGivenNames -merge x1 x3 x5 x7 x9 x10 x12 x14
  have h2 : State.inner x1 := by unfold x1; exact (clo_inner.setF rfl (State.setStep_inner k0))
  have h4 : State.inner x3 := by unfold x3; exact (State.updBoot_inner h2)
  have h6 : State.inner x5 := by unfold x5; exact (clo_inner.setF rfl (clo_inner.setF rfl (clo_inner.setF rfl h4)))
  have h8 : State.inner x7 := by unfold x7; exact (clo_inner.drawn rfl  (clo_inner.setF rfl h6))
  have h11 : State.inner x10 := by unfold x10; exact (clo_inner.setF rfl (State.updFuses_inner (fun _ h => { h with }) h8))
  have h13 : State.inner x12 := by unfold x12; exact (ite_p (fun _ => (clo_inner.setF rfl h11)) (fun _ => h8))
  have h15 : State.inner x14 := by unfold x14; exact (State.event_inner h13)
  clear_value x1 x3 x5 x7 x9 x10 x12 x14
  exact (State.each_inv (clo_inner.mono rfl) (State.reShed_inner h15) (fun _ _ h16 => (State.bgNext_inner h16)))
theorem State.pointOf_inner {v0} (k0 : State.inner v0) : State.inner (State.pointOf v0) := by
  unfold State.pointOf
  split
  ·
    rename_i y1 y2 y3
    extract_lets +onlyGivenNames -merge x4
    clear_value x4
    exact (ite_p (fun _ => (State.commitPoint_inner k0)) (fun _ => (State.originPoint_inner (State.commitPoint_inner (State.stampZero_inv (clo_inner.mono rfl) k0)))))
  ·
    rename_i y5 y6
    exact k0
theorem execCommitPoint_inner {v0} (k0 : State.inner v0) : (OutP State.inner) (execCommitPoint v0) := by
  unfold execCommitPoint
  exact (mk_next (State.pointOf_inner k0))
theorem State.enumEnd_inner {v0} {v1} (k0 : State.inner v0) : State.inner (State.enumEnd v0 v1) := by
  unfold State.enumEnd
  split
  ·
    rename_i y1 y2
    exact (State.respondTo_inner k0)
  ·
    rename_i y3 y4 y5
    exact (State.respondTo_inner (inner_enumer k0))
theorem State.commitRespond_inner {v0} (k0 : State.inner v0) : State.inner (State.commitRespond v0) := by
  unfold State.commitRespond
  split
  ·
    rename_i y1 y2
    exact k0
  ·
    rename_i y3 y4 y5
    refine ite_p (fun _ => k0) (fun _ => ?_)
    extract_lets +onlyGivenNames -merge x6 x8
    have h7 : State.inner x6 := by unfold x6; exact (clo_inner.setF rfl (inner_commit k0))
    have h9 : State.inner x8 := by
      unfold x8
      split
      ·
        rename_i y10 y11
        exact (State.respondTo_inner h7)
      ·
        rename_i y12 y13
        exact (State.reachReady_inner h7)
      ·
        rename_i y14 y15
        exact (State.respondTo_inner (State.recoverEnd_inner h7))
      ·
        rename_i y16 y17
        exact (State.each_inv (clo_inner.mono rfl) (State.enumEnd_inner h7) (fun _ _ h18 => (State.pumpLmb_inner h18)))
      ·
        rename_i y19 y20 y21 y22 y23
        exact (State.respondTo_inner (State.originEnd_inner h7))
    clear_value x6 x8
    split
    ·
      rename_i y24 y25 y26 y27
      exact (State.enterSafe_inner (State.updBoot_inner h9))
    ·
      rename_i y28 y29
      exact h9
theorem execCommitResponse_inner {v0} (k0 : State.inner v0) : (OutP State.inner) (execCommitResponse v0) := by
  unfold execCommitResponse
  exact (mk_next (State.commitRespond_inner k0))

/-! ### Transport -/

theorem State.unissue_inner {v0} {v1} (k0 : State.inner v0) : State.inner (State.unissue v0 v1) := by
  unfold State.unissue
  refine ite_p (fun _ => ?_) (fun _ => k0)
  extract_lets +onlyGivenNames -merge x1
  clear_value x1
  exact (State.updSched_inner (fun _ h => { h with }) k0)
theorem State.unserve_inner {v0} {v1} (k0 : State.inner v0) : (OptP State.inner) (State.unserve v0 v1) := by
  unfold State.unserve
  extract_lets +onlyGivenNames -merge x1
  clear_value x1
  split
  ·
    rename_i y2 y3 y4 y5
    extract_lets +onlyGivenNames -merge x6 x7
    have h8 : State.inner x7 := by unfold x7; exact (inner_svc (fun h => mwf_mput _ _ h) k0)
    clear_value x6 x7
    exact (mk_some (State.drainCheck_inner (State.updBank_inner (fun _ h => { h with }) h8)))
  ·
    rename_i y9 y10
    split
    ·
      rename_i y11 y12 y13
      exact (mk_some (State.updRoom_inner (fun _ h => { h with }) k0))
    ·
      rename_i y14 y15
      split
      ·
        rename_i y16 y17 y18
        extract_lets +onlyGivenNames -merge x19
        clear_value x19
        exact (ite_p (fun _ => (mk_some (State.crWakeAll_inner (State.setReq_inner (State.each_inv (clo_inner.mono rfl) k0 (fun _ _ h20 => (State.setJob_inner h20))))))) (fun _ => none_p))
      ·
        rename_i y21 y22
        split
        ·
          rename_i y23 y24 y25
          refine mk_some ?_
          split
          ·
            rename_i y26 y27 y28
            exact (State.unissue_inner (State.setTok_inner k0))
          ·
            rename_i y29 y30
            exact k0
        ·
          rename_i y31 y32
          exact (mapAny_p (fun _ => (State.updLink_inner (fun _ h => { h with txQ := mwf_mmapv (f := fun _ q => q.filter fun t => !(x1 t.pkt)) h.txQ }) k0)))
theorem State.withdraw_inner {v0} {v1} (k0 : State.inner v0) : (OptP State.inner) (State.withdraw v0 v1) := by
  unfold State.withdraw
  extract_lets +onlyGivenNames -merge x1 x2
  clear_value x1 x2
  refine map_p (fun _ h4 => (State.setOut_inner h4)) ?_
  refine ite_p (fun _ => (mk_some (State.updNet_inner (fun _ h => { h with send := mwf_mput _ _ h.send }) k0))) (fun _ => ?_)
  split
  ·
    rename_i y5 y6
    exact (State.unserve_inner k0)
  ·
    rename_i y7 y8 y9 y10
    exact (mk_some (State.each_inv (clo_inner.mono rfl) (State.setBuf_inner k0) (fun _ _ h11 => (State.unissue_inner (State.releaseOn_inner h11)))))
theorem State.forgo_inner {v0} {v1} (k0 : State.inner v0) : State.inner (State.forgo v0 v1) := by
  unfold State.forgo
  split
  ·
    rename_i y1 y2 y3 y4
    have q6 := congr_p (Q := (OptP State.inner)) y4 (by
        exact (State.withdraw_inner k0)
      )
    have h5 : State.inner y3 := q6
    exact h5
  ·
    rename_i y7 y8 y9 y10 y11
    exact (State.setOut_inner k0)
  ·
    rename_i y12 y13 y14 y15
    exact k0
theorem State.stopCmd_inner {v0} {v1} {v2} (k0 : State.inner v0) : (OptP State.inner) (State.stopCmd v0 v1 v2) := by
  unfold State.stopCmd
  refine ite_p (fun _ => (mk_some (State.each_inv (clo_inner.mono rfl) k0 (fun _ _ h5 => (State.updRoom_inner (fun _ h => { h with }) h5))))) (fun _ => ?_)
  refine ite_p (fun _ => (mk_some (State.forgo_inner k0))) (fun _ => ?_)
  refine ite_p (fun _ => (State.withdraw_inner k0)) (fun _ => ?_)
  refine ite_p (fun _ => ?_) (fun _ => ?_)
  ·
    refine mk_some ?_
    refine State.each_inv (clo_inner.mono rfl) k0 ?_
    intro a32 a33 h31
    refine ite_p (fun _ => ?_) (fun _ => h31)
    extract_lets +onlyGivenNames -merge x34
    have h35 : State.inner x34 := by unfold x34; exact (State.updEng_inner (fun _ h => { h with }) h31)
    clear_value x34
    exact (ite_p (fun _ => (clo_inner.setF rfl h35)) (fun _ => h35))
  ·
    refine ite_p (fun _ => ?_) (fun _ => ?_)
    ·
      refine mk_some ?_
      refine State.each_inv (clo_inner.mono rfl) k0 ?_
      intro a45 a46 h44
      refine ite_p (fun _ => ?_) (fun _ => h44)
      extract_lets +onlyGivenNames -merge x47
      have h48 : State.inner x47 := by unfold x47; exact (State.updEng_inner (fun _ h => { h with }) h44)
      clear_value x47
      exact (ite_p (fun _ => (State.updEng_inner (fun _ h => { h with }) (clo_inner.setF rfl h48))) (fun _ => h48))
    ·
      refine ite_p (fun _ => ?_) (fun _ => ?_)
      ·
        refine mk_some ?_
        refine State.each_inv (clo_inner.mono rfl) k0 ?_
        intro a56 a57 h55
        split
        ·
          rename_i y58 y59 y60
          exact (ite_p (fun _ => (State.unstart_inner h55)) (fun _ => h55))
        ·
          rename_i y61 y62
          exact h55
      ·
        refine ite_p (fun _ => ?_) (fun _ => none_p)
        extract_lets +onlyGivenNames -merge x63 x64
        have h65 : State.inner x64 := by unfold x64; exact (State.updJ_inner (fun _ h => { h with }) k0)
        clear_value x63 x64
        exact (mk_some (ite_p (fun _ => (State.startFlash_inner h65)) (fun _ => h65)))
theorem State.abortIt_inner {v0} {v1} {v2} (k0 : State.inner v0) : (OptP State.inner) (State.abortIt v0 v1 v2) := by
  unfold State.abortIt
  refine ite_p (fun _ => none_p) (fun _ => ?_)
  refine ite_p (fun _ => ?_) (fun _ => (ite_p (fun _ => (mapAny_p (fun _ => (State.kexFails_inner k0)))) (fun _ => (map_p (fun _ h4 => (State.respond_inner h4)) (State.stopCmd_inner k0)))))
  split
  ·
    rename_i y5 y6 y7
    exact (ite_p (fun _ => (mk_some (State.failCommit_inner k0))) (fun _ => none_p))
  ·
    rename_i y8 y9
    exact none_p
theorem execAbort_inner {v0} {v1} {v2} (k2 : State.inner v2) : (OutP State.inner) (execAbort v0 v1 v2) := by
  unfold execAbort
  refine mk_next ?_
  refine State.submit_inner k2 ?_
  intro a6 h5
  extract_lets +onlyGivenNames -merge x7
  clear_value x7
  split
  ·
    rename_i y8 y9 y10
    have q12 := congr_p (Q := (OptP State.inner)) y10 (by
        exact (bind_p (fun _ => (State.abortIt_inner h5)))
      )
    have h11 : State.inner y9 := q12
    exact (State.reply_inner h11)
  ·
    rename_i y13 y14
    exact (State.reply_inner h5)
theorem State.unknownOp_inner {v0} {v1} (k0 : State.inner v0) : State.inner (State.unknownOp v0 v1) := by
  unfold State.unknownOp
  exact (ite_p (fun _ => (clo_inner.setF rfl k0)) (fun _ => (State.answerNow_inner k0)))
theorem cmdsDevice_inner : RunP State.inner cmdsDevice := by
  unfold cmdsDevice
  refine run_cons (fun h a f t k => execDeviceInfo_inner k) ?_
  refine run_cons (fun h a f t k => execAbort_inner k) ?_
  refine run_cons (fun h a f t k => execCsrRead_inner k) ?_
  refine run_cons (fun h a f t k => execCsrWrite_inner k) ?_
  refine run_cons (fun h a f t k => execMemRead_inner k) ?_
  refine run_cons (fun h a f t k => execMemWrite_inner k) ?_
  refine run_cons (fun h a f t k => execEventRead_inner k) ?_
  refine run_cons (fun h a f t k => execEventCfg_inner k) ?_
  refine run_cons (fun h a f t k => execNop_inner k) ?_
  refine run_cons (fun h a f t k => execClockStatus_inner k) ?_
  refine run_cons (fun h a f t k => execUnitGate_inner k) ?_
  refine run_cons (fun h a f t k => execEpochCommit_inner k) ?_
  refine run_cons (fun h a f t k => execEpochDiscard_inner k) ?_
  refine run_cons (fun h a f t k => execBooksAudit_inner k) ?_
  refine run_cons (fun h a f t k => execBooksRead_inner k) ?_
  exact run_nil
theorem cmdsRooms_inner : RunP State.inner cmdsRooms := by
  unfold cmdsRooms
  refine run_cons (fun h a f t k => execBankOwner_inner k) ?_
  refine run_cons (fun h a f t k => execBankGuest_inner k) ?_
  refine run_cons (fun h a f t k => execBankRetain_inner k) ?_
  refine run_cons (fun h a f t k => execBankWake_inner k) ?_
  refine run_cons (fun h a f t k => execBankWipe_inner k) ?_
  refine run_cons (fun h a f t k => execBankStatus_inner k) ?_
  refine run_cons (fun h a f t k => execPlaneLoad_inner k) ?_
  refine run_cons (fun h a f t k => execPlaneSave_inner k) ?_
  refine run_cons (fun h a f t k => execPlaneSwitch_inner k) ?_
  refine run_cons (fun h a f t k => execRoomStatus_inner k) ?_
  refine run_cons (fun h a f t k => execRoomPark_inner k) ?_
  refine run_cons (fun h a f t k => execRoomUnpark_inner k) ?_
  refine run_cons (fun h a f t k => execSchedStatus_inner k) ?_
  refine run_cons (fun h a f t k => execTaskPost_inner k) ?_
  refine run_cons (fun h a f t k => execTemplateSet_inner k) ?_
  refine run_cons (fun h a f t k => execImageSet_inner k) ?_
  refine run_cons (fun h a f t k => execFlowSet_inner k) ?_
  refine run_cons (fun h a f t k => execGroupSet_inner k) ?_
  refine run_cons (fun h a f t k => execTaskCancel_inner k) ?_
  refine run_cons (fun h a f t k => execSchedDrain_inner k) ?_
  exact run_nil
theorem cmdsLinks_inner : RunP State.inner cmdsLinks := by
  unfold cmdsLinks
  refine run_cons (fun h a f t k => execDspStatus_inner k) ?_
  refine run_cons (fun h a f t k => execDspHalt_inner k) ?_
  refine run_cons (fun h a f t k => execDspResume_inner k) ?_
  refine run_cons (fun h a f t k => execDspStep_inner k) ?_
  refine run_cons (fun h a f t k => execDspReset_inner k) ?_
  refine run_cons (fun h a f t k => execDspStart_inner k) ?_
  refine run_cons (fun h a f t k => execDpStatus_inner k) ?_
  refine run_cons (fun h a f t k => execDpRetrain_inner k) ?_
  refine run_cons (fun h a f t k => execDpDown_inner k) ?_
  refine run_cons (fun h a f t k => execDpUp_inner k) ?_
  refine run_cons (fun h a f t k => execSlStatus_inner k) ?_
  refine run_cons (fun h a f t k => execSlRetrain_inner k) ?_
  refine run_cons (fun h a f t k => execSlDown_inner k) ?_
  refine run_cons (fun h a f t k => execSlUp_inner k) ?_
  refine run_cons (fun h a f t k => execSlSlip_inner k) ?_
  refine run_cons (fun h a f t k => execSlPower_inner k) ?_
  refine run_cons (fun h a f t k => execEnumerate_inner k) ?_
  refine run_cons (fun h a f t k => execEnumAssign_inner k) ?_
  refine run_cons (fun h a f t k => execCrStatus_inner k) ?_
  refine run_cons (fun h a f t k => execCrRangeRekey_inner k) ?_
  refine run_cons (fun h a f t k => execCrRangeReset_inner k) ?_
  refine run_cons (fun h a f t k => execLinkKex_inner k) ?_
  refine run_cons (fun h a f t k => execKexMsg_inner k) ?_
  exact run_nil
theorem cmdsSystem_inner : RunP State.inner cmdsSystem := by
  unfold cmdsSystem
  refine run_cons (fun h a f t k => execPowerStatus_inner k) ?_
  refine run_cons (fun h a f t k => execThermalStatus_inner k) ?_
  refine run_cons (fun h a f t k => execAgeReport_inner k) ?_
  refine run_cons (fun h a f t k => execThermTest_inner k) ?_
  refine run_cons (fun h a f t k => execFoundationReset_inner k) ?_
  refine run_cons (fun h a f t k => execResume_inner k) ?_
  refine run_cons (fun h a f t k => execRecover_inner k) ?_
  refine run_cons (fun h a f t k => execStackReset_inner k) ?_
  refine run_cons (fun h a f t k => execSelftestRun_inner k) ?_
  refine run_cons (fun h a f t k => execSelftestResult_inner k) ?_
  refine run_cons (fun h a f t k => execCheckerMode_inner k) ?_
  refine run_cons (fun h a f t k => execEcLogRead_inner k) ?_
  refine run_cons (fun h a f t k => execLcStatus_inner k) ?_
  refine run_cons (fun h a f t k => execCertRead_inner k) ?_
  refine run_cons (fun h a f t k => execAttest_inner k) ?_
  refine run_cons (fun h a f t k => execLcTransition_inner k) ?_
  refine run_cons (fun h a f t k => execDebugAccess_inner k) ?_
  exact run_nil
theorem cmdsStore_inner : RunP State.inner cmdsStore := by
  unfold cmdsStore
  refine run_cons (fun h a f t k => execRpStatus_inner k) ?_
  refine run_cons (fun h a f t k => execRecordStart_inner k) ?_
  refine run_cons (fun h a f t k => execRecordStop_inner k) ?_
  refine run_cons (fun h a f t k => execReplayStart_inner k) ?_
  refine run_cons (fun h a f t k => execReplayStop_inner k) ?_
  refine run_cons (fun h a f t k => execStoreStatus_inner k) ?_
  refine run_cons (fun h a f t k => execProfileList_inner k) ?_
  refine run_cons (fun h a f t k => execProfileWrite_inner k) ?_
  refine run_cons (fun h a f t k => execProfileErase_inner k) ?_
  refine run_cons (fun h a f t k => execProfilePush_inner k) ?_
  refine run_cons (fun h a f t k => execProfileSelect_inner k) ?_
  refine run_cons (fun h a f t k => execFwWrite_inner k) ?_
  refine run_cons (fun h a f t k => execJournalSet_inner k) ?_
  refine run_cons (fun h a f t k => execJournalClear_inner k) ?_
  refine run_cons (fun h a f t k => execJournalRead_inner k) ?_
  refine run_cons (fun h a f t k => execJournalCompact_inner k) ?_
  exact run_nil
theorem cmdTable_inner : RunP State.inner cmdTable :=
  run_append (run_append (run_append (run_append (cmdsDevice_inner) (cmdsRooms_inner)) (cmdsLinks_inner)) (cmdsSystem_inner)) (cmdsStore_inner)
theorem State.runCmd_inner {v0} {v1} {v2} {v3} {v4} {v5} (k0 : State.inner v0) : State.inner (State.runCmd v0 v1 v2 v3 v4 v5) := by
  unfold State.runCmd
  extract_lets +onlyGivenNames -merge x1 x2
  clear_value x1 x2
  split
  ·
    exact (State.unknownOp_inner k0)
  ·
    rename_i y e
    exact State.after_inv (clo_inner.mono rfl) k0 (cmdTable_inner _ (List.mem_of_find?_eq_some e) _ _ _ _ (State.updMail_inner (fun _ h => { h with }) k0))
theorem State.ccc_inner {v0} {v1} (k0 : State.inner v0) : State.inner (State.ccc v0 v1) := by
  unfold State.ccc
  exact (ite_p (fun _ => (State.updMail_inner (fun _ h => { h with }) k0)) (fun _ => (State.updMail_inner (fun _ h => { h with }) k0)))
theorem execEntdaa_inner {v0} {v1} (k1 : State.inner v1) : (OutP State.inner) (execEntdaa v0 v1) := by
  unfold execEntdaa
  exact (mk_next (ite_p (fun _ => (clo_inner.setF rfl (State.ccc_inner k1))) (fun _ => k1)))
theorem execEnec_inner {v0} {v1} (k1 : State.inner v1) : (OutP State.inner) (execEnec v0 v1) := by
  unfold execEnec
  exact (mk_next (ite_p (fun _ => (State.updMail_inner (fun _ h => { h with }) k1)) (fun _ => k1)))
theorem execDisec_inner {v0} {v1} (k1 : State.inner v1) : (OutP State.inner) (execDisec v0 v1) := by
  unfold execDisec
  exact (mk_next (ite_p (fun _ => (State.updMail_inner (fun _ h => { h with }) k1)) (fun _ => k1)))
theorem execGetpid_inner {v0} (k0 : State.inner v0) : (OutP State.inner) (execGetpid v0) := by
  unfold execGetpid
  exact (mk_next (State.ccc_inner k0))
theorem execGetbcr_inner {v0} (k0 : State.inner v0) : (OutP State.inner) (execGetbcr v0) := by
  unfold execGetbcr
  exact (mk_next (State.ccc_inner k0))
theorem execGetdcr_inner {v0} (k0 : State.inner v0) : (OutP State.inner) (execGetdcr v0) := by
  unfold execGetdcr
  exact (mk_next (State.ccc_inner k0))
theorem execGetstatus_inner {v0} (k0 : State.inner v0) : (OutP State.inner) (execGetstatus v0) := by
  unfold execGetstatus
  exact (mk_next (State.ccc_inner (clo_inner.drawn rfl  k0)))
theorem execGetmwl_inner {v0} (k0 : State.inner v0) : (OutP State.inner) (execGetmwl v0) := by
  unfold execGetmwl
  exact (mk_next (State.ccc_inner k0))
theorem execGetmrl_inner {v0} (k0 : State.inner v0) : (OutP State.inner) (execGetmrl v0) := by
  unfold execGetmrl
  exact (mk_next (State.ccc_inner k0))
theorem execI3cPrivateWrite_inner {v0} {v1} {v2} (k2 : State.inner v2) : (OutP State.inner) (execI3cPrivateWrite v0 v1 v2) := by
  unfold execI3cPrivateWrite
  exact (mk_next (ite_p (fun _ => (State.updMail_inner (fun _ h => { h with }) k2)) (fun _ => (ite_p (fun _ => (clo_inner.setF rfl k2)) (fun _ => (State.runCmd_inner (State.updMail_inner (fun _ h => { h with }) k2)))))))
theorem execI3cPrivateRead_inner {v0} {v1} (k1 : State.inner v1) : (OutP State.inner) (execI3cPrivateRead v0 v1) := by
  unfold execI3cPrivateRead
  refine mk_next ?_
  split
  ·
    rename_i y1 y2
    exact (State.updMail_inner (fun _ h => { h with }) k1)
  ·
    rename_i y3 y4 y5 y6
    exact (State.updMail_inner (fun _ h => { h with rsp := mwf_mput _ _ h.rsp }) k1)
theorem State.sideBlock_inner {v0} {v1} {v2} {v3} {v4} (k0 : State.inner v0) : State.inner (State.sideBlock v0 v1 v2 v3 v4) := by
  unfold State.sideBlock
  exact (ite_p (fun _ => (State.runCmd_inner k0)) (fun _ => (ite_p (fun _ => (State.enumAnswer_inner k0)) (fun _ => k0))))
theorem State.sideFrag_inner {v0} {v1} {v2} {v3} {v4} {v5} {v6} (k0 : State.inner v0) : State.inner (State.sideFrag v0 v1 v2 v3 v4 v5 v6) := by
  unfold State.sideFrag
  extract_lets +onlyGivenNames -merge x1 x2 x3 x4 x5
  clear_value x1 x2 x3 x5
  exact (ite_p (fun _ => (State.updMail_inner (fun _ h => { h with part := mwf_mput _ _ h.part }) k0)) (fun _ => (ite_p (fun _ => (State.updMail_inner (fun _ h => { h with part := mwf_mput _ _ h.part, partKind := mwf_mput _ _ h.partKind }) k0)) (fun _ => (State.sideBlock_inner (State.updMail_inner (fun _ h => { h with part := mwf_mput _ _ h.part }) k0))))))
theorem execSidebandMessage_inner {v0} {v1} {v2} {v3} {v4} (k4 : State.inner v4) : (OutP State.inner) (execSidebandMessage v0 v1 v2 v3 v4) := by
  unfold execSidebandMessage
  extract_lets +onlyGivenNames -merge x1
  clear_value x1
  exact (mk_next (ite_p (fun _ => k4) (fun _ => (State.sideFrag_inner k4))))
theorem execSidebandBlockTimeout_inner {v0} {v1} (k1 : State.inner v1) : (OutP State.inner) (execSidebandBlockTimeout v0 v1) := by
  unfold execSidebandBlockTimeout
  exact (mk_next (State.updMail_inner (fun _ h => { h with part := mwf_mput _ _ h.part }) k1))
theorem State.badCmd_inner {v0} {v1} {v2} (k0 : State.inner v0) : State.inner (State.badCmd v0 v1 v2) := by
  unfold State.badCmd
  extract_lets +onlyGivenNames -merge x1 x2
  clear_value x1 x2
  exact (State.deliver_inner (ite_p (fun _ => k0) (fun _ => (clo_inner.drawn rfl  k0))))
theorem execMbCmd_inner {v0} {v1} (k1 : State.inner v1) : (OutP State.inner) (execMbCmd v0 v1) := by
  unfold execMbCmd
  refine mk_next ?_
  split
  ·
    rename_i y1 y2
    exact k1
  ·
    rename_i y3 y4 y5 y6
    have q8 := congr_p (Q := (OptP (SndP State.inner))) y6 (by
        exact (State.takeOn_inner k1)
      )
    have h7 : State.inner y5 := q8
    refine ite_p (fun _ => h7) (fun _ => ?_)
    refine ite_p (fun _ => (State.badCmd_inner h7)) (fun _ => ?_)
    refine ite_p (fun _ => (State.badCmd_inner h7)) (fun _ => ?_)
    extract_lets +onlyGivenNames -merge x9
    have h10 : State.inner x9 := by unfold x9; exact (State.updMail_inner (fun _ h => { h with }) h7)
    clear_value x9
    exact (State.updMail_inner (fun _ h => { h with }) (State.runCmd_inner h10))
theorem State.engBell_inner {v0} {v1} {v2} {v3} (k0 : State.inner v0) : State.inner (State.engBell v0 v1 v2 v3) := by
  unfold State.engBell
  extract_lets +onlyGivenNames -merge x1
  have h2 : ∀ a0 a1, State.inner a0 → State.inner (x1 a0 a1) := by
    intro a4 a5 h3
    unfold x1
    exact (State.deliver_inner h3)
  clear_value x1
  refine ite_p (fun _ => (clo_inner.setF rfl k0)) (fun _ => ?_)
  refine ite_p (fun _ => k0) (fun _ => ?_)
  refine ite_p (fun _ => (h2 _ _ k0)) (fun _ => ?_)
  extract_lets +onlyGivenNames -merge x6
  have h7 : State.inner x6 := by unfold x6; exact (State.updMail_inner (fun _ h => { h with bells := mwf_mput _ _ h.bells }) k0)
  clear_value x6
  exact (fst_p (State.memGo_inner h7))
theorem execMbEngBell_inner {v0} {v1} {v2} {v3} (k3 : State.inner v3) : (OutP State.inner) (execMbEngBell v0 v1 v2 v3) := by
  unfold execMbEngBell
  exact (mk_next (ite_p (fun _ => k3) (fun _ => (ite_p (fun _ => (State.busError_inv (clo_inner.mono rfl) k3)) (fun _ => (State.engBell_inner k3))))))
theorem State.csrRequest_inner {v0} {v1} {v2} {v3} (k0 : State.inner v0) : State.inner (State.csrRequest v0 v1 v2 v3) := by
  unfold State.csrRequest
  refine ite_p (fun _ => (State.refuse_inner k0)) (fun _ => ?_)
  refine ite_p (fun _ => (State.refuse_inner k0)) (fun _ => ?_)
  refine ite_p (fun _ => ?_) (fun _ => ?_)
  ·
    refine ite_p (fun _ => ?_) (fun _ => (State.refuse_inner k0))
    split
    ·
      rename_i y1 y2 y3 y4
      split
      ·
        rename_i y5 y6 y7 y8
        have q10 := congr_p (Q := (SndP State.inner)) y8 (by
            exact (State.regRead_inner k0)
          )
        have h9 : State.inner y7 := q10
        exact (State.inject_inner h9)
    ·
      rename_i y11 y12
      exact (State.inject_inner k0)
  ·
    split
    ·
      rename_i y13 y14 y15
      exact (ite_p (fun _ => (State.engBell_inner (State.inject_inner k0))) (fun _ => (State.refuse_inner k0)))
    ·
      rename_i y16 y17
      exact (State.refuse_inner k0)
theorem State.mpRequest_inner {v0} {v1} (k0 : State.inner v0) : State.inner (State.mpRequest v0 v1) := by
  unfold State.mpRequest
  split
  ·
    rename_i y1 y2
    exact k0
  ·
    rename_i y3 y4 y5 y6
    have q8 := congr_p (Q := (OptP (SndP State.inner))) y6 (by
        exact (State.takeOn_inner k0)
      )
    have h7 : State.inner y5 := q8
    refine ite_p (fun _ => (ite_p (fun _ => (State.refuse_inner h7)) (fun _ => h7))) (fun _ => ?_)
    split
    ·
      rename_i y9 y10 y11
      exact (State.csrRequest_inner h7)
    ·
      rename_i y12 y13
      exact (State.memAccess_inner h7)
    ·
      rename_i y14 y15 y16
      exact (State.refuse_inner h7)
theorem execCsrAccess_inner {v0} {v1} (k1 : State.inner v1) : (OutP State.inner) (execCsrAccess v0 v1) := by
  unfold execCsrAccess
  exact (mk_next (State.mpRequest_inner k1))
theorem State.sendEvents_inner {v0} {v1} (k0 : State.inner v0) : State.inner (State.sendEvents v0 v1) := by
  unfold State.sendEvents
  extract_lets +onlyGivenNames -merge x1 x2
  have h3 : State.inner x2 := by unfold x2; exact (State.updMail_inner (fun _ h => { h with evq := mwf_mput _ _ h.evq }) k0)
  clear_value x1 x2
  refine State.each_inv (clo_inner.mono rfl) h3 ?_
  intro a7 a8 h6
  extract_lets +onlyGivenNames -merge x9
  clear_value x9
  refine ite_p (fun _ => (State.updMail_inner (fun _ => Mail.sendBlock_inner) h6)) (fun _ => ?_)
  refine ite_p (fun _ => h6) (fun _ => ?_)
  extract_lets +onlyGivenNames -merge x10
  clear_value x10
  exact (State.inject_inner h6)
theorem execEventBlockSend_inner {v0} (k0 : State.inner v0) : (OutP State.inner) (execEventBlockSend v0) := by
  unfold execEventBlockSend
  refine mk_next ?_
  extract_lets +onlyGivenNames -merge x1
  have h2 : State.inner x1 := by unfold x1; exact (ite_p (fun _ => (State.each_inv (clo_inner.mono rfl) k0 (fun _ _ h3 => (State.sendEvents_inner h3)))) (fun _ => k0))
  clear_value x1
  exact (State.each_inv (clo_inner.mono rfl) h2 (fun _ _ h4 => (State.sendEvents_inner h4)))
theorem State.injectCmd_inner {v0} {v1} {v2} (k0 : State.inner v0) : State.inner (State.injectCmd v0 v1 v2) := by
  unfold State.injectCmd
  extract_lets +onlyGivenNames -merge x1 x2 x4
  have h3 : State.inner x2 := by unfold x2; exact (State.updRp_inv (clo_inner.mono rfl) k0)
  have h5 : State.inner x4 := by unfold x4; exact (State.runCmd_inner h3)
  clear_value x1 x2 x4
  exact (State.updRp_inv (clo_inner.mono rfl) h5)
theorem State.injectNext_inner {v0} {v1} (k0 : State.inner v0) : State.inner (State.injectNext v0 v1) := by
  unfold State.injectNext
  split
  ·
    rename_i y1 y2
    exact k0
  ·
    rename_i y3 y4 y5
    refine ite_p (fun _ => k0) (fun _ => ?_)
    extract_lets +onlyGivenNames -merge x6 x8
    have h7 : State.inner x6 := by unfold x6; exact (State.reach_inv (clo_inner.mono rfl) k0)
    have h9 : State.inner x8 := by unfold x8; exact (ite_p (fun _ => (State.injectCmd_inner h7)) (fun _ => (State.injectOther_inner h7)))
    clear_value x6 x8
    exact (ite_p (fun _ => (State.readFrom_inner h9)) (fun _ => h9))
theorem execReplayInjection_inner {v0} {v1} (k1 : State.inner v1) : (OutP State.inner) (execReplayInjection v0 v1) := by
  unfold execReplayInjection
  exact (mk_next (State.injectNext_inner k1))
theorem State.configUe_inner {v0} {v1} (k0 : State.inner v0) : State.inner (State.configUe v0 v1) := by
  unfold State.configUe
  split
  ·
    rename_i y1 y2
    exact k0
  ·
    rename_i y3 y4 y5
    refine ite_p (fun _ => k0) (fun _ => ?_)
    extract_lets +onlyGivenNames -merge x6 x7 x8 x9 x11
    have h10 : State.inner x9 := by unfold x9; exact (clo_inner.setSyn rfl _ _ (State.scramble_inv (clo_inner.mono rfl) (clo_inner.drawn rfl  (clo_inner.drawn rfl  k0))))
    have h12 : State.inner x11 := by unfold x11; exact (State.hazard_inv (clo_inner.mono rfl) (State.logEc_inv (clo_inner.mono rfl) (clo_inner.inc rfl h10)))
    clear_value x6 x7 x8 x9 x11
    exact (State.enterSafe_inner (clo_inner.setF rfl h12))
theorem execConfigUe_inner {v0} {v1} (k1 : State.inner v1) : (OutP State.inner) (execConfigUe v0 v1) := by
  unfold execConfigUe
  exact (mk_next (State.configUe_inner k1))

/-! ### Arrival -/

theorem State.bellEnd_inner {v0} {v1} {v2} (k0 : State.inner v0) : State.inner (State.bellEnd v0 v1 v2) := by
  unfold State.bellEnd
  extract_lets +onlyGivenNames -merge x1 x2 x3
  have h4 : State.inner x3 := by unfold x3; exact (State.updMail_inner (fun _ h => { h with bells := mwf_mput _ _ h.bells }) k0)
  clear_value x1 x2 x3
  exact (ite_p (fun _ => (State.deliver_inner h4)) (fun _ => (State.runCmd_inner h4)))
theorem State.memEnd_inner {v0} {v1} {v2} {v3} (k0 : State.inner v0) : State.inner (State.memEnd v0 v1 v2 v3) := by
  unfold State.memEnd
  exact (ite_p (fun _ => (State.memReadEnd_inner k0)) (fun _ => (ite_p (fun _ => (State.transitionEnd_inner k0)) (fun _ => (ite_p (fun _ => (State.debugEnd_inner k0)) (fun _ => (ite_p (fun _ => (State.replayHeadEnd_inner k0)) (fun _ => (ite_p (fun _ => (State.bellEnd_inner k0)) (fun _ => (ite_p (fun _ => (State.imageEnd_inner k0)) (fun _ => (State.memWriteEnd_inner k0)))))))))))))
theorem State.mpAnswer_inner {v0} {v1} {v2} (k0 : State.inner v0) : State.inner (State.mpAnswer v0 v1 v2) := by
  unfold State.mpAnswer
  refine ite_p (fun _ => (State.kexAnswer_inner k0)) (fun _ => ?_)
  split
  ·
    rename_i y1 y2
    exact (State.startWaiting_inner (State.postAnswered_inner k0))
  ·
    rename_i y3 y4 y5
    extract_lets +onlyGivenNames -merge x6
    clear_value x6
    refine ite_p (fun _ => (State.respond_inner k0)) (fun _ => ?_)
    split
    ·
      rename_i y7 y8 y9 y10
      have q12 := congr_p (Q := (FstP State.inner)) y10 (by
          exact (State.memAnswer_inner k0)
        )
      have h11 : State.inner y8 := q12
      split
      ·
        rename_i y13 y14
        exact (State.memEnd_inner h11)
      ·
        rename_i y15
        exact h11
theorem State.responseArrives_inner {v0} {v1} (k0 : State.inner v0) : State.inner (State.responseArrives v0 v1) := by
  unfold State.responseArrives
  refine ite_p (fun _ => ?_) (fun _ => ?_)
  ·
    split
    ·
      rename_i y1 y2
      exact k0
    ·
      rename_i y3 y4 y5 y6
      have q8 := congr_p (Q := (OptP (SndP State.inner))) y6 (by
          exact (State.take_inner k0)
        )
      have h7 : State.inner y5 := q8
      split
      ·
        rename_i y9 y10 y11 y12
        have q14 := congr_p (Q := (SndP State.inner)) y12 (by
            exact (State.matchRsp_inner h7)
          )
        have h13 : State.inner y11 := q14
        exact (State.roomResponse_inner h13)
      ·
        rename_i y15 y16 y17
        have q19 := congr_p (Q := (SndP State.inner)) y17 (by
            exact (State.matchRsp_inner h7)
          )
        have h18 : State.inner y16 := q19
        exact h18
  ·
    refine ite_p (fun _ => (State.engResponse_inner k0)) (fun _ => ?_)
    refine ite_p (fun _ => (State.dispatchResponse_inner k0)) (fun _ => ?_)
    refine ite_p (fun _ => (State.homeResponse_inner k0)) (fun _ => ?_)
    refine ite_p (fun _ => ?_) (fun _ => ?_)
    ·
      split
      ·
        rename_i y20 y21
        exact k0
      ·
        rename_i y22 y23 y24 y25
        have q27 := congr_p (Q := (OptP (SndP State.inner))) y25 (by
            exact (orElse_p (State.take_inner k0) (fun _ => (State.takeOn_inner k0)))
          )
        have h26 : State.inner y24 := q27
        split
        ·
          rename_i y28 y29 y30 y31
          have q33 := congr_p (Q := (SndP State.inner)) y31 (by
              exact (State.matchRsp_inner h26)
            )
          have h32 : State.inner y30 := q33
          exact (ite_p (fun _ => (State.tapAnswer_inner h32)) (fun _ => (State.pumpPosts_inner (State.mpAnswer_inner h32))))
        ·
          rename_i y34 y35 y36
          have q38 := congr_p (Q := (SndP State.inner)) y36 (by
              exact (State.matchRsp_inner h26)
            )
          have h37 : State.inner y35 := q38
          exact h37
    ·
      refine ite_p (fun _ => ?_) (fun _ => k0)
      split
      ·
        rename_i y39 y40
        exact k0
      ·
        rename_i y41 y42 y43 y44
        have q46 := congr_p (Q := (OptP (SndP State.inner))) y44 (by
            exact (State.takeOn_inner k0)
          )
        have h45 : State.inner y43 := q46
        split
        ·
          rename_i y47 y48 y49 y50
          have q52 := congr_p (Q := (SndP State.inner)) y50 (by
              exact (State.matchRsp_inner h45)
            )
          have h51 : State.inner y49 := q52
          exact (ite_p (fun _ => h51) (fun _ => (State.rawResponse_inner h51)))
        ·
          rename_i y53 y54 y55
          have q57 := congr_p (Q := (SndP State.inner)) y55 (by
              exact (State.matchRsp_inner h45)
            )
          have h56 : State.inner y54 := q57
          exact h56
theorem execResponseArrival_inner {v0} {v1} (k1 : State.inner v1) : (OutP State.inner) (execResponseArrival v0 v1) := by
  unfold execResponseArrival
  exact (mk_next (State.responseArrives_inner k1))

end Sys2Proof.Machine

/-!
The tables inside the units stay canonical: a command keeps them, and a step runs one command or idles.
-/
namespace Sys2Proof.Machine

/-- A command leaves the tables of units and those inside the units in canonical form. -/
theorem exec_inner {s : State} (k : s.inner) : ∀ i : Instr, OutP State.inner (exec i s)
  | .deviceInfo .. => execDeviceInfo_inner k
  | .abort .. => execAbort_inner k
  | .csrRead .. => execCsrRead_inner k
  | .csrWrite .. => execCsrWrite_inner k
  | .memRead .. => execMemRead_inner k
  | .memWrite .. => execMemWrite_inner k
  | .eventRead .. => execEventRead_inner k
  | .eventCfg .. => execEventCfg_inner k
  | .nop .. => execNop_inner k
  | .clockStatus .. => execClockStatus_inner k
  | .unitGate .. => execUnitGate_inner k
  | .epochCommit .. => execEpochCommit_inner k
  | .epochDiscard .. => execEpochDiscard_inner k
  | .booksAudit .. => execBooksAudit_inner k
  | .booksRead .. => execBooksRead_inner k
  | .bankOwner .. => execBankOwner_inner k
  | .bankGuest .. => execBankGuest_inner k
  | .bankRetain .. => execBankRetain_inner k
  | .bankWake .. => execBankWake_inner k
  | .bankWipe .. => execBankWipe_inner k
  | .bankStatus .. => execBankStatus_inner k
  | .planeLoad .. => execPlaneLoad_inner k
  | .planeSave .. => execPlaneSave_inner k
  | .planeSwitch .. => execPlaneSwitch_inner k
  | .roomStatus .. => execRoomStatus_inner k
  | .roomPark .. => execRoomPark_inner k
  | .roomUnpark .. => execRoomUnpark_inner k
  | .schedStatus .. => execSchedStatus_inner k
  | .taskPost .. => execTaskPost_inner k
  | .templateSet .. => execTemplateSet_inner k
  | .imageSet .. => execImageSet_inner k
  | .flowSet .. => execFlowSet_inner k
  | .groupSet .. => execGroupSet_inner k
  | .taskCancel .. => execTaskCancel_inner k
  | .schedDrain .. => execSchedDrain_inner k
  | .dspStatus .. => execDspStatus_inner k
  | .dspHalt .. => execDspHalt_inner k
  | .dspResume .. => execDspResume_inner k
  | .dspStep .. => execDspStep_inner k
  | .dspReset .. => execDspReset_inner k
  | .dspStart .. => execDspStart_inner k
  | .dpStatus .. => execDpStatus_inner k
  | .dpRetrain .. => execDpRetrain_inner k
  | .dpDown .. => execDpDown_inner k
  | .dpUp .. => execDpUp_inner k
  | .slStatus .. => execSlStatus_inner k
  | .slRetrain .. => execSlRetrain_inner k
  | .slDown .. => execSlDown_inner k
  | .slUp .. => execSlUp_inner k
  | .slSlip .. => execSlSlip_inner k
  | .slPower .. => execSlPower_inner k
  | .enumerate .. => execEnumerate_inner k
  | .enumAssign .. => execEnumAssign_inner k
  | .crStatus .. => execCrStatus_inner k
  | .crRangeRekey .. => execCrRangeRekey_inner k
  | .crRangeReset .. => execCrRangeReset_inner k
  | .linkKex .. => execLinkKex_inner k
  | .kexMsg .. => execKexMsg_inner k
  | .powerStatus .. => execPowerStatus_inner k
  | .thermalStatus .. => execThermalStatus_inner k
  | .ageReport .. => execAgeReport_inner k
  | .thermTest .. => execThermTest_inner k
  | .foundationReset .. => execFoundationReset_inner k
  | .resume .. => execResume_inner k
  | .recover .. => execRecover_inner k
  | .stackReset .. => execStackReset_inner k
  | .selftestRun .. => execSelftestRun_inner k
  | .selftestResult .. => execSelftestResult_inner k
  | .checkerMode .. => execCheckerMode_inner k
  | .ecLogRead .. => execEcLogRead_inner k
  | .lcStatus .. => execLcStatus_inner k
  | .certRead .. => execCertRead_inner k
  | .attest .. => execAttest_inner k
  | .lcTransition .. => execLcTransition_inner k
  | .debugAccess .. => execDebugAccess_inner k
  | .rpStatus .. => execRpStatus_inner k
  | .recordStart .. => execRecordStart_inner k
  | .recordStop .. => execRecordStop_inner k
  | .replayStart .. => execReplayStart_inner k
  | .replayStop .. => execReplayStop_inner k
  | .storeStatus .. => execStoreStatus_inner k
  | .profileList .. => execProfileList_inner k
  | .profileWrite .. => execProfileWrite_inner k
  | .profileErase .. => execProfileErase_inner k
  | .profilePush .. => execProfilePush_inner k
  | .profileSelect .. => execProfileSelect_inner k
  | .fwWrite .. => execFwWrite_inner k
  | .journalSet .. => execJournalSet_inner k
  | .journalClear .. => execJournalClear_inner k
  | .journalRead .. => execJournalRead_inner k
  | .journalCompact .. => execJournalCompact_inner k
  | .entdaa .. => execEntdaa_inner k
  | .rstdaa => execRstdaa_inv (clo_inner.mono rfl) k
  | .enec .. => execEnec_inner k
  | .disec .. => execDisec_inner k
  | .getpid => execGetpid_inner k
  | .getbcr => execGetbcr_inner k
  | .getdcr => execGetdcr_inner k
  | .getstatus => execGetstatus_inner k
  | .getmwl => execGetmwl_inner k
  | .getmrl => execGetmrl_inner k
  | .i3cPrivateWrite .. => execI3cPrivateWrite_inner k
  | .i3cPrivateRead .. => execI3cPrivateRead_inner k
  | .mbCmd .. => execMbCmd_inner k
  | .mbEngBell .. => execMbEngBell_inner k
  | .sidebandMessage .. => execSidebandMessage_inner k
  | .sidebandBlockTimeout .. => execSidebandBlockTimeout_inner k
  | .eventBlockSend => execEventBlockSend_inner k
  | .commandTimeLimit .. => execCommandTimeLimit_inner k
  | .delayedStackReset => execDelayedStackReset_inner k
  | .load .. => execLoad_inner k
  | .stateReload .. => execStateReload_inner k
  | .save .. => execSave_inner k
  | .drainComplete .. => execDrainComplete_inner k
  | .drainLimit .. => execDrainLimit_inner k
  | .loadRow .. => execLoadRow_inner k
  | .loadFinish .. => execLoadFinish_inner k
  | .planectlSwitchRequest .. => execPlanectlSwitchRequest_inner k
  | .planectlDone .. => execPlanectlDone_inner k
  | .heldSwitch .. => execHeldSwitch_inner k
  | .rowRequest .. => execRowRequest_inner k
  | .rowMove .. => execRowMove_inner k
  | .roomEndpointRequest .. => execRoomEndpointRequest_inner k
  | .roomRamAccess .. => execRoomRamAccess_inner k
  | .serviceLaneRequest .. => execServiceLaneRequest_inner k
  | .serviceAccess .. => execServiceAccess_inner k
  | .handover .. => execHandover_inner k
  | .handoverComplete .. => execHandoverComplete_inner k
  | .guestGrant .. => execGuestGrant_inv (clo_inner.mono rfl) k
  | .retentionRequest .. => execRetentionRequest_inner k
  | .wakeRequest .. => execWakeRequest_inner k
  | .retentionEntryComplete .. => execRetentionEntryComplete_inner k
  | .wakeStart .. => execWakeStart_inner k
  | .wakeComplete .. => execWakeComplete_inner k
  | .wipeRequest .. => execWipeRequest_inner k
  | .wipeComplete .. => execWipeComplete_inner k
  | .startUpWipe .. => execStartUpWipe_inner k
  | .checkerTestModeEntry .. => execCheckerTestModeEntry_inner k
  | .checkerTestModeExit .. => execCheckerTestModeExit_inner k
  | .ecLogPop => execEcLogPop_inv (clo_inner.mono rfl) k
  | .mowingRowVisit .. => execMowingRowVisit_inner k
  | .scrubAccess .. => execScrubAccess_inner k
  | .mowingWindow => execMowingWindow_inner k
  | .copyPassRow .. => execCopyPassRow_inner k
  | .vtParityMismatch .. => execVtParityMismatch_inner k
  | .walkingPatternTest .. => execWalkingPatternTest_inner k
  | .repairOutcome .. => execRepairOutcome_inner k
  | .repairSamplingResume .. => execRepairSamplingResume_inner k
  | .packetForward .. => execPacketForward_inner k
  | .creditReturn .. => execCreditReturn_inner k
  | .csrAccess .. => execCsrAccess_inner k
  | .responseArrival .. => execResponseArrival_inner k
  | .responseTimeLimit .. => execResponseTimeLimit_inner k
  | .expiredTagRelease .. => execExpiredTagRelease_inner k
  | .berrArm => execBerrArm_inv (clo_inner.mono rfl) k
  | .coBookSnapshot .. => execCoBookSnapshot_inv (clo_inner.mono rfl) k
  | .epPeek .. => execEpPeek_inv (clo_inner.mono rfl) k
  | .token .. => execToken_inner k
  | .tokenRecord .. => execTokenRecord_inner k
  | .dispatchPipe .. => execDispatchPipe_inner k
  | .dispatch .. => execDispatch_inner k
  | .dispatchResponse => execDispatchResponse_inner k
  | .switchRepeat .. => execSwitchRepeat_inner k
  | .done => execDone_inner k
  | .resultRecordPost => execResultRecordPost_inner k
  | .tick => execTick_inner k
  | .delayExpiry .. => execDelayExpiry_inner k
  | .delayListWalk .. => execDelayListWalk_inner k
  | .useCountDecay => execUseCountDecay_inner k
  | .haltRequest .. => execHaltRequest_inv (clo_inner.mono rfl) k
  | .engineHalt .. => execEngineHalt_inner k
  | .step .. => execStep_inner k
  | .deRfDataWrite .. => execDeRfDataWrite_inner k
  | .engineMemoryAccess .. => execEngineMemoryAccess_inner k
  | .engineResponse .. => execEngineResponse_inner k
  | .nopInstruction .. => execNopInstruction_inner k
  | .ld .. => execLd_inner k
  | .st .. => execSt_inner k
  | .mov .. => execMov_inner k
  | .movr .. => execMovr_inner k
  | .ldi .. => execLdi_inner k
  | .setp .. => execSetp_inner k
  | .movp .. => execMovp_inner k
  | .rdr .. => execRdr_inner k
  | .wrr .. => execWrr_inner k
  | .acc .. => execAcc_inner k
  | .alu .. => execAlu_inner k
  | .alui .. => execAlui_inner k
  | .cmac .. => execCmac_inner k
  | .dmac .. => execDmac_inner k
  | .tapm .. => execTapm_inner k
  | .bfly .. => execBfly_inner k
  | .sta .. => execSta_inner k
  | .rep .. => execRep_inner k
  | .br .. => execBr_inner k
  | .dbnz .. => execDbnz_inner k
  | .call .. => execCall_inner k
  | .ret .. => execRet_inner k
  | .get .. => execGet_inner k
  | .put .. => execPut_inner k
  | .sendtok .. => execSendtok_inner k
  | .sendmsg .. => execSendmsg_inner k
  | .wait .. => execWait_inner k
  | .doneInstruction .. => execDoneInstruction_inner k
  | .bkpt .. => execBkpt_inner k
  | .dataFlit .. => execDataFlit_inner k
  | .nullFlit .. => execNullFlit_inner k
  | .initFlit .. => execInitFlit_inner k
  | .resyncFlit .. => execResyncFlit_inner k
  | .nak .. => execNak_inner k
  | .pm .. => execPm_inner k
  | .lmb .. => execLmb_inner k
  | .teq .. => execTeq_inner k
  | .frame .. => execFrame_inner k
  | .flitSend .. => execFlitSend_inner k
  | .ackTimer .. => execAckTimer_inner k
  | .replayTimer .. => execReplayTimer_inner k
  | .dpCtrlRetrain .. => execDpCtrlRetrain_inner k
  | .dpCtrlHoldDown .. => execDpCtrlHoldDown_inner k
  | .slCtrlRetrain .. => execSlCtrlRetrain_inner k
  | .slCtrlHoldDown .. => execSlCtrlHoldDown_inner k
  | .slCtrlSlip .. => execSlCtrlSlip_inv (clo_inner.mono rfl) k
  | .txHold .. => execTxHold_inner k
  | .rxHold .. => execRxHold_inv (clo_inner.mono rfl) k
  | .replayBufferDrainLimit .. => execReplayBufferDrainLimit_inner k
  | .trainingAttempt .. => execTrainingAttempt_inner k
  | .alignmentCheck .. => execAlignmentCheck_inner k
  | .ffeTuningRound .. => execFfeTuningRound_inner k
  | .frameLock .. => execFrameLock_inner k
  | .adapterActive .. => execAdapterActive_inner k
  | .trainingFailure .. => execTrainingFailure_inner k
  | .failedRetry .. => execFailedRetry_inner k
  | .l1Entry .. => execL1Entry_inner k
  | .l1Exit .. => execL1Exit_inner k
  | .txiEntry .. => execTxiEntry_inner k
  | .txsEntry .. => execTxsEntry_inner k
  | .txExit .. => execTxExit_inner k
  | .portMainbandStop .. => execPortMainbandStop_inner k
  | .rawTransmit .. => execRawTransmit_inner k
  | .rawReceive .. => execRawReceive_inner k
  | .rawControlPoll .. => execRawControlPoll_inner k
  | .rawRingRetry .. => execRawRingRetry_inner k
  | .enumAssignResponse .. => execEnumAssignResponse_inner k
  | .protectedRead => execProtectedRead_inner k
  | .fullLineWrite => execFullLineWrite_inner k
  | .partialWrite => execPartialWrite_inner k
  | .homeResponse => execHomeResponse_inner k
  | .nodeVerification .. => execNodeVerification_inner k
  | .writeBack .. => execWriteBack_inner k
  | .pageReEncryption .. => execPageReEncryption_inner k
  | .rangeInitialisation .. => execRangeInitialisation_inner k
  | .rekeyPage .. => execRekeyPage_inner k
  | .rangeDisable .. => execRangeDisable_inner k
  | .autoKex .. => execAutoKex_inner k
  | .kexTimeout .. => execKexTimeout_inner k
  | .kexFragmentGap .. => execKexFragmentGap_inner k
  | .gateOpen .. => execGateOpen_inner k
  | .gateOpenComplete .. => execGateOpenComplete_inner k
  | .gateClose .. => execGateClose_inner k
  | .gateDrainEnd .. => execGateDrainEnd_inner k
  | .clockSwitch .. => execClockSwitch_inner k
  | .powerOnReset => execPowerOnReset_inner k
  | .powerOnResetRelease .. => execPowerOnResetRelease_inner k
  | .railsPowerGood => execRailsPowerGood_inner k
  | .resetN => execResetN_inner k
  | .lockstepMismatch => execLockstepMismatch_inner k
  | .bootVerification => execBootVerification_inner k
  | .judgementWindow .. => execJudgementWindow_inner k
  | .hearthLoopLock => execHearthLoopLock_inner k
  | .refclkLost => execRefclkLost_inner k
  | .hearthLoopStop => execHearthLoopStop_inner k
  | .relockAttempt .. => execRelockAttempt_inner k
  | .rcFail => execRcFail_inv (clo_inner.mono rfl) k
  | .startUpSelfTest .. => execStartUpSelfTest_inner k
  | .profile .. => execProfile_inner k
  | .commitFreeze => execCommitFreeze_inner k
  | .commitApply => execCommitApply_inner k
  | .commitPoint => execCommitPoint_inner k
  | .commitResponse => execCommitResponse_inner k
  | .audit => execAudit_inner k
  | .foundationResetPendingEnd => execFoundationResetPendingEnd_inner k
  | .foundationResetFreeze => execFoundationResetFreeze_inner k
  | .foundationResetHold => execFoundationResetHold_inner k
  | .foundationResetRelease => execFoundationResetRelease_inner k
  | .backgroundSlice .. => execBackgroundSlice_inner k
  | .sliceSaveDone .. => execSliceSaveDone_inner k
  | .sliceMarchDone .. => execSliceMarchDone_inner k
  | .sliceRestoreDone .. => execSliceRestoreDone_inner k
  | .sliceBudgetExpiry .. => execSliceBudgetExpiry_inner k
  | .sheddingStepEntry .. => execSheddingStepEntry_inner k
  | .sheddingStepExit .. => execSheddingStepExit_inner k
  | .railStateLost .. => execRailStateLost_inv (clo_inner.mono rfl) k
  | .adcConversion .. => execAdcConversion_inner k
  | .slowRoundEnd => execSlowRoundEnd_inner k
  | .ageingMeasurement .. => execAgeingMeasurement_inner k
  | .lifeRecord => execLifeRecord_inner k
  | .thermTestEnd => execThermTestEnd_inner k
  | .journalCompaction => execJournalCompaction_inner k
  | .recorderDrain => execRecorderDrain_inner k
  | .checkRecord => execCheckRecord_inner k
  | .stampLimit => execStampLimit_inner k
  | .replayInjection .. => execReplayInjection_inner k
  | .replayHalt .. => execReplayHalt_inner k
  | .lcChalNew => execLcChalNew_inv (clo_inner.mono rfl) k
  | .btResPop => execBtResPop_inner k
  | .readClear .. => execReadClear_inner k
  | .lowWordReadLatch .. => execLowWordReadLatch_inner k
  | .registerWrite .. => execRegisterWrite_inner k
  | .ckRoomEdge .. => execCkRoomEdge_inner k
  | .corridorTransmit .. => execCorridorTransmit_inner k
  | .tapAccess .. => execTapAccess_inner k
  | .forwardedClockStop .. => execForwardedClockStop_inner k
  | .adapterRetryFailure .. => execAdapterRetryFailure_inner k
  | .laneFault _ lane _ => execLaneFault_inner (v1 := lane) k
  | .configUe .. => execConfigUe_inner k
  | .resetNRelease .. => execResetNRelease_inner k
  | .lockFail => execLockFail_inner k
  | .programOrEraseEnd .. => execProgramOrEraseEnd_inner k

theorem step_inner {s t : State} (k : s.inner) (h : step s = .next t) : t.inner := by
  rcases step_cases h with ⟨-, rfl⟩ | ⟨c, rest, -, hc⟩
  · exact k
  · have hq : State.inner { s with pending := rest } := { k with }
    exact (exec_inner hq c).next hc

/-- Settles O5: the tables of units and the tables inside them are one invariant, kept unit by unit by what a command changes. -/
theorem everyStepKeepsTheInnerTables : Obligations.EveryStepKeepsTheInnerTables :=
  fun _ _ hcanon htables h => (step_inner (State.inner_of_tables hcanon htables) h).tables

end Sys2Proof.Machine

end
